-- ==== Sys2Proof/Word.lean ====
section
/-! DEFINITION. Words, bit fields of a register, sparse stores of words in one canonical form, and banks: a fixed
number of like things (axes, ports, queues). Nothing here is of one block of the LX-1296. -/

namespace Sys2Proof

abbrev Word := BitVec 32
abbrev Byte := BitVec 8

/-- A bit field of a register: the register's address, the lowest bit and the width. -/
structure Fld where
  reg : Nat
  lo : Nat
  width : Nat
deriving DecidableEq, Repr

/-- The value of bits lo .. lo + width - 1 of a word. -/
def Fld.get (f : Fld) (w : Word) : Nat :=
  ((w >>> f.lo) &&& BitVec.ofNat 32 (2 ^ f.width - 1)).toNat

/-- The bits of a word that a field covers. -/
def Fld.mask (f : Fld) : Word := BitVec.ofNat 32 (2 ^ f.width - 1) <<< f.lo

/-- A word with bits lo .. lo + width - 1 replaced by the low bits of a number. -/
def Fld.put (f : Fld) (w : Word) (v : Nat) : Word :=
  (w &&& ~~~ f.mask) ||| (BitVec.ofNat 32 (v % 2 ^ f.width) <<< f.lo)

/-- A sparse store: pairs of a key and a word. Canonical form: keys strictly rising, no word equal to what an unlisted
key reads as. -/
abbrev Store (w : Nat) := List (Nat × BitVec w)

namespace Store

/-- The word at a key; an unlisted key reads as d. -/
def get {w : Nat} (d : BitVec w) : Store w → Nat → BitVec w
  | [], _ => d
  | c :: m, a => if c.1 = a then c.2 else get d m a

/-- The store without a key. -/
def erase {w : Nat} : Store w → Nat → Store w
  | [], _ => []
  | c :: m, a => if c.1 = a then erase m a else c :: erase m a

/-- The store with a pair put in before the first greater key. -/
def insert {w : Nat} : Store w → Nat → BitVec w → Store w
  | [], a, v => [(a, v)]
  | c :: m, a, v => if a < c.1 then (a, v) :: c :: m else c :: insert m a v

/-- Write a word; writing what an unlisted key reads as removes the entry. -/
def set {w : Nat} (d : BitVec w) (m : Store w) (a : Nat) (v : BitVec w) : Store w :=
  if v = d then erase m a else insert (erase m a) a v

/-- Write words at rising keys, one after another. -/
def setMany {w : Nat} (d : BitVec w) (m : Store w) (a : Nat) : List (BitVec w) → Store w
  | [] => m
  | v :: vs => setMany d (set d m a v) (a + 1) vs

/-- n words from a key on. -/
def getMany {w : Nat} (d : BitVec w) (m : Store w) (a : Nat) : Nat → List (BitVec w)
  | 0 => []
  | n + 1 => get d m a :: getMany d m (a + 1) n

/-- No listed key is a or above. -/
def below {w : Nat} (a : Nat) : Store w → Bool
  | [] => true
  | c :: m => c.1 < a && below a m

/-- The canonical form: keys strictly rising, no word equal to d. -/
def wf {w : Nat} (d : BitVec w) : Store w → Bool
  | [] => true
  | [c] => c.2 != d
  | c :: c' :: m => c.2 != d && decide (c.1 < c'.1) && wf d (c' :: m)

end Store

/-- A fixed number of like things. -/
structure Bank (n : Nat) (α : Type) where
  items : List α
  len : items.length = n
deriving DecidableEq, Repr

namespace Bank

variable {n : Nat} {α : Type}

/-- The thing at a place. -/
def get (b : Bank n α) (i : Fin n) : α := b.items.get (i.cast b.len.symm)

/-- The bank with the thing at one place replaced. -/
def set (b : Bank n α) (i : Fin n) (v : α) : Bank n α :=
  ⟨b.items.set i v, by simp [b.len]⟩

/-- Every place holds the same. -/
def rep (n : Nat) (v : α) : Bank n α := ⟨List.replicate n v, by simp⟩

/-- Every thing changed by a function. -/
def map (b : Bank n α) (f : α → α) : Bank n α := ⟨b.items.map f, by simp [b.len]⟩

/-- Every thing changed by a function of its place. -/
def mapIdx (b : Bank n α) (f : Nat → α → α) : Bank n α := ⟨b.items.mapIdx f, by simp [b.len]⟩

/-- One thing changed by a function. -/
def modify (b : Bank n α) (i : Fin n) (f : α → α) : Bank n α := b.set i (f (b.get i))

/-- The thing at a place given by number, and none beyond the last. -/
def get? (b : Bank n α) (i : Nat) : Option α := b.items[i]?

end Bank

/-- Big-endian or little-endian numbers of bytes: the least significant byte first. -/
def leNat : List Byte → Nat
  | [] => 0
  | b :: bs => b.toNat + 256 * leNat bs

/-- n bytes of a number, the least significant first. -/
def natLE : Nat → Nat → List Byte
  | 0, _ => []
  | n + 1, v => BitVec.ofNat 8 v :: natLE n (v / 256)

/-- A number with its most significant byte first. -/
def beNat (bs : List Byte) : Nat := leNat bs.reverse

/-- n bytes of a number, the most significant first. -/
def natBE (n v : Nat) : List Byte := (natLE n v).reverse

/-- The signed number of the low w bits of a number. -/
def signed (w : Nat) (v : Nat) : Int := (BitVec.ofNat w v).toInt

/-- The low w bits of a signed number, as a number. -/
def wrapNat (w : Nat) (v : Int) : Nat := (BitVec.ofInt w v).toNat

/-- A signed number held within w bits. -/
def satInt (w : Nat) (v : Int) : Int := max (-(2 ^ (w - 1))) (min v (2 ^ (w - 1) - 1))

/-- Division by a positive number rounded to nearest, ties to even (R10). -/
def roundHalfEven (a : Int) (b : Nat) : Int :=
  let q := a / (b : Int)
  let r := a - q * b
  if 2 * r < b then q else if 2 * r > b then q + 1 else if q % 2 = 0 then q else q + 1

/-- The whole part of the square root, one result bit a step from bit k down. -/
def isqrtBits (n : Nat) : Nat → Nat → Nat
  | 0, r => r
  | k + 1, r =>
    let c := r + 2 ^ k
    if c * c ≤ n then isqrtBits n k c else isqrtBits n k r

/-- The whole part of the square root of a number below 2^512. -/
def isqrt (n : Nat) : Nat := isqrtBits n 256 0

/-- The bits of a word as the numbers of those that are 1. -/
def bitsOf (n v : Nat) : List Nat := (List.range n).filter (fun i => v.testBit i)

/-- Put into a list sorted by a key, after the entries of equal key. -/
def insertBy {α : Type} (key : α → Int) (x : α) : List α → List α
  | [] => [x]
  | y :: ys => if key x < key y then x :: y :: ys else y :: insertBy key x ys

/-- Sort by a key; entries of equal key keep their order. -/
def sortBy {α : Type} (key : α → Int) (xs : List α) : List α := xs.foldl (fun acc x => insertBy key x acc) []

/-- A truth value as a number. -/
def b2n (b : Bool) : Nat := if b then 1 else 0

end Sys2Proof
end

