-- ==== Sys2Proof/RegMap.lean ====
section
/-! DEFINITION. The register map: the address of every register of BAR0 (rules R550 to R553), the place of every
field the register tables of the chapters give, and the access table: for each register its instances and which of its
bits a write replaces (RW), clears (W1C), sets (W1S) or takes as a command (WO), and which a read clears (RC), as the
access codes of R12 state. Names are the spec's; KR_x stands for KRn_x, HQ_x for HQn_x. -/

namespace Sys2Proof

/-- Window of FB port p (R552). -/
def fbpBase (p : Nat) : Nat := 0x100800 + 0x10000 * (p / 8) + 0x40 * (p % 8)
/-- Window of power port p (R552). -/
def ppBase (p : Nat) : Nat := 0x100C00 + 0x10000 * (p / 8) + 0x40 * (p % 8)
/-- Window of the tile of axis a: cluster a / 8, tile a mod 8 (R550, R552). -/
def tileBase (a : Nat) : Nat := 0x101000 + 0x10000 * (a / 8) + 0x1000 * (a % 8)
/-- Window of cluster c (R550). -/
def clBase (c : Nat) : Nat := 0x100000 + 0x10000 * c
/-- Window of analog input i (R552). -/
def ainBase (i : Nat) : Nat := 0x140800 + 0x10 * i
/-- Window of solver unit u (R550). -/
def qsBase (u : Nat) : Nat := 0x200000 + 0x4000 * u
/-- Window of the arm at position j of solver unit u (R550). -/
def qsArmBase (u j : Nat) : Nat := 0x200100 + 0x4000 * u + 0x40 * j
/-- Separation words of arm m (R550). -/
def ssmArmBase (m : Nat) : Nat := 0xC0900 + 0x10 * m
/-- Person slot k (R550). -/
def ssmPrsBase (k : Nat) : Nat := 0xC0A00 + 8 * k
/-- Window of door d (R550). -/
def doorBase (d : Nat) : Nat := 0xD0100 + 0x40 * d
/-- Window of ring r (R550). -/
def krBase (r : Nat) : Nat := 0x90000 + 0x10000 * r

/-- CFG_STAT (R70, 02). -/
def CFG_STAT : Nat := 0x300000
def CFG_STAT_LDR : Fld := ⟨CFG_STAT, 0, 3⟩
def CFG_STAT_RUN_VALID : Fld := ⟨CFG_STAT, 3, 1⟩
def CFG_STAT_SHADOW_VALID : Fld := ⟨CFG_STAT, 4, 1⟩
def CFG_STAT_BUSY : Fld := ⟨CFG_STAT, 5, 1⟩
def CFG_STAT_DONE : Fld := ⟨CFG_STAT, 6, 1⟩
def CFG_STAT_SWAPPED : Fld := ⟨CFG_STAT, 7, 1⟩
def CFG_STAT_ABORTED : Fld := ⟨CFG_STAT, 8, 1⟩
def CFG_STAT_RUN_SLOT : Fld := ⟨CFG_STAT, 12, 4⟩
def CFG_STAT_SHADOW_SLOT : Fld := ⟨CFG_STAT, 16, 4⟩
/-- CFG_CTL (R70, 02). -/
def CFG_CTL : Nat := 0x300004
def CFG_CTL_LOAD : Fld := ⟨CFG_CTL, 0, 1⟩
def CFG_CTL_SHADOW : Fld := ⟨CFG_CTL, 1, 1⟩
def CFG_CTL_DISCARD : Fld := ⟨CFG_CTL, 2, 1⟩
def CFG_CTL_ARM_CO : Fld := ⟨CFG_CTL, 3, 1⟩
def CFG_CTL_CANCEL_CO : Fld := ⟨CFG_CTL, 4, 1⟩
/-- CFG_SLOT (R71, 02). -/
def CFG_SLOT : Nat := 0x300008
def CFG_SLOT_LOAD_SLOT : Fld := ⟨CFG_SLOT, 0, 3⟩
def CFG_SLOT_SHADOW_SLOT : Fld := ⟨CFG_SLOT, 8, 3⟩
/-- CFG_ERR (R71, 02). -/
def CFG_ERR : Nat := 0x30000C
def CFG_ERR_CODE : Fld := ⟨CFG_ERR, 0, 8⟩
def CFG_ERR_DETAIL : Fld := ⟨CFG_ERR, 8, 8⟩
def CFG_ERR_NODE_ADDR : Fld := ⟨CFG_ERR, 16, 9⟩
def CFG_ERR_NODE_RING : Fld := ⟨CFG_ERR, 25, 1⟩
/-- CFG_SWAP_ANG (R71, 02). -/
def CFG_SWAP_ANG : Nat := 0x300010
/-- CFG_SWAP_CYC (R71, 02). -/
def CFG_SWAP_CYC : Nat := 0x300014
/-- CFG_SWAP_LIM (R71, 02). -/
def CFG_SWAP_LIM : Nat := 0x300018
def CFG_SWAP_LIM_LIMIT : Fld := ⟨CFG_SWAP_LIM, 0, 10⟩
/-- CFG_LAST_SWAP (R71, 02). -/
def CFG_LAST_SWAP : Nat := 0x30001C
/-- CFG_SWAP_CNT (R71, 02). -/
def CFG_SWAP_CNT : Nat := 0x300028
/-- CFG_RUN_SID (R71, 02). -/
def CFG_RUN_SID : Nat := 0x300020
/-- CFG_SH_SID (R71, 02). -/
def CFG_SH_SID : Nat := 0x300024
/-- CFG_RUN_HASH (R71, 02). -/
def CFG_RUN_HASH (w : Nat) : Nat := 0x300040 + 0x4 * w
/-- CFG_SH_HASH (R71, 02). -/
def CFG_SH_HASH (w : Nat) : Nat := 0x300080 + 0x4 * w
/-- CFG_RUN_SVN (R71, 02). -/
def CFG_RUN_SVN (w : Nat) : Nat := 0x3000C0 + 0x4 * w
/-- SYS_ID (R104, 03). -/
def SYS_ID : Nat := 0x0
def SYS_ID_PART : Fld := ⟨SYS_ID, 0, 16⟩
def SYS_ID_STEP : Fld := ⟨SYS_ID, 16, 8⟩
/-- SYS_MODE (R104, 03). -/
def SYS_MODE : Nat := 0x10
def SYS_MODE_MODE : Fld := ⟨SYS_MODE, 0, 4⟩
def SYS_MODE_PREV : Fld := ⟨SYS_MODE, 4, 4⟩
def SYS_MODE_HALT : Fld := ⟨SYS_MODE, 8, 1⟩
def SYS_MODE_SHED : Fld := ⟨SYS_MODE, 9, 1⟩
def SYS_MODE_HOLD : Fld := ⟨SYS_MODE, 10, 1⟩
def SYS_MODE_REQ_COND : Fld := ⟨SYS_MODE, 16, 8⟩
def SYS_MODE_REQ_RES : Fld := ⟨SYS_MODE, 24, 2⟩
def SYS_MODE_REQ_DONE : Fld := ⟨SYS_MODE, 26, 1⟩
/-- SYS_MODE_REQ (R104, 03). -/
def SYS_MODE_REQ : Nat := 0x14
def SYS_MODE_REQ_TARGET : Fld := ⟨SYS_MODE_REQ, 0, 4⟩
def SYS_MODE_REQ_KEY : Fld := ⟨SYS_MODE_REQ, 16, 16⟩
/-- SYS_LC (R104, 03). -/
def SYS_LC : Nat := 0x18
def SYS_LC_STATE : Fld := ⟨SYS_LC, 0, 3⟩
/-- SYS_RST_CAUSE (R104, 03). -/
def SYS_RST_CAUSE : Nat := 0x1C
def SYS_RST_CAUSE_CAUSE : Fld := ⟨SYS_RST_CAUSE, 0, 8⟩
/-- SYS_START (R104, 03). -/
def SYS_START : Nat := 0x20
def SYS_START_AUTO_SLOT : Fld := ⟨SYS_START, 0, 4⟩
def SYS_START_ROLE : Fld := ⟨SYS_START, 4, 2⟩
def SYS_START_WARM : Fld := ⟨SYS_START, 6, 1⟩
def SYS_START_WD_MS : Fld := ⟨SYS_START, 16, 16⟩
/-- SYS_CTL (R105, 03). -/
def SYS_CTL : Nat := 0x24
def SYS_CTL_SWRST : Fld := ⟨SYS_CTL, 0, 1⟩
def SYS_CTL_LOAM_RELEASE : Fld := ⟨SYS_CTL, 1, 1⟩
def SYS_CTL_WD_KICK : Fld := ⟨SYS_CTL, 2, 1⟩
def SYS_CTL_KEY : Fld := ⟨SYS_CTL, 16, 16⟩
/-- SYS_START_STAT (R105, 03). -/
def SYS_START_STAT : Nat := 0x28
def SYS_START_STAT_KIND : Fld := ⟨SYS_START_STAT, 0, 2⟩
def SYS_START_STAT_LOAM_HELD : Fld := ⟨SYS_START_STAT, 2, 1⟩
def SYS_START_STAT_BOOT_B : Fld := ⟨SYS_START_STAT, 3, 1⟩
def SYS_START_STAT_LC_WIPED : Fld := ⟨SYS_START_STAT, 4, 1⟩
def SYS_START_STAT_VFY_ERR : Fld := ⟨SYS_START_STAT, 8, 8⟩
/-- PWR_VIN (R105, 03). -/
def PWR_VIN : Nat := 0x10000
def PWR_VIN_VIN_MV : Fld := ⟨PWR_VIN, 0, 16⟩
/-- PWR_STAT (R105, 03). -/
def PWR_STAT : Nat := 0x10004
def PWR_STAT_SHED : Fld := ⟨PWR_STAT, 0, 1⟩
def PWR_STAT_DIP : Fld := ⟨PWR_STAT, 1, 1⟩
def PWR_STAT_COMMIT_DONE : Fld := ⟨PWR_STAT, 2, 1⟩
def PWR_STAT_OV : Fld := ⟨PWR_STAT, 3, 1⟩
/-- PWR_DIP (R105, 03). -/
def PWR_DIP : Nat := 0x10008
def PWR_DIP_MIN_MV : Fld := ⟨PWR_DIP, 0, 16⟩
def PWR_DIP_DUR : Fld := ⟨PWR_DIP, 16, 16⟩
/-- WHEEL_STAT (R133, 04). -/
def WHEEL_STAT : Nat := 0x40000
def WHEEL_STAT_MST_STATE : Fld := ⟨WHEEL_STAT, 0, 3⟩
def WHEEL_STAT_DIR : Fld := ⟨WHEEL_STAT, 3, 1⟩
def WHEEL_STAT_LOCK_REFUSED : Fld := ⟨WHEEL_STAT, 4, 1⟩
def WHEEL_STAT_OVERSPEED : Fld := ⟨WHEEL_STAT, 5, 1⟩
def WHEEL_STAT_SKIP : Fld := ⟨WHEEL_STAT, 6, 1⟩
def WHEEL_STAT_LT_OVF : Fld := ⟨WHEEL_STAT, 7, 1⟩
def WHEEL_STAT_VSPD_REFUSED : Fld := ⟨WHEEL_STAT, 8, 1⟩
/-- WHEEL_MST_CTL (R133, 04). -/
def WHEEL_MST_CTL : Nat := 0x40004
def WHEEL_MST_CTL_SRC : Fld := ⟨WHEEL_MST_CTL, 0, 1⟩
def WHEEL_MST_CTL_FBPORT : Fld := ⟨WHEEL_MST_CTL, 1, 5⟩
def WHEEL_MST_CTL_INV : Fld := ⟨WHEEL_MST_CTL, 6, 1⟩
def WHEEL_MST_CTL_LOCK : Fld := ⟨WHEEL_MST_CTL, 7, 1⟩
def WHEEL_MST_CTL_RESUME : Fld := ⟨WHEEL_MST_CTL, 8, 1⟩
/-- WHEEL_MST_ANG (R133, 04). -/
def WHEEL_MST_ANG : Nat := 0x40008
/-- WHEEL_MST_PCYC (R133, 04). -/
def WHEEL_MST_PCYC : Nat := 0x4000C
/-- WHEEL_MST_SPD (R133, 04). -/
def WHEEL_MST_SPD (w : Nat) : Nat := 0x40010 + 0x4 * w
/-- WHEEL_VSPD (R133, 04). -/
def WHEEL_VSPD (w : Nat) : Nat := 0x40018 + 0x4 * w
/-- WHEEL_VMAX (R133, 04). -/
def WHEEL_VMAX (w : Nat) : Nat := 0x40038 + 0x4 * w
/-- WHEEL_VACC (R133, 04). -/
def WHEEL_VACC : Nat := 0x40020
/-- WHEEL_PHASE (R133, 04). -/
def WHEEL_PHASE : Nat := 0x40024
/-- WHEEL_PULL (R133, 04). -/
def WHEEL_PULL : Nat := 0x40028
def WHEEL_PULL_PULL : Fld := ⟨WHEEL_PULL, 0, 16⟩
/-- WHEEL_HYST (R133, 04). -/
def WHEEL_HYST : Nat := 0x4002C
def WHEEL_HYST_HYST : Fld := ⟨WHEEL_HYST, 0, 24⟩
/-- WHEEL_RATIO (R133, 04). -/
def WHEEL_RATIO (w : Nat) : Nat := 0x40030 + 0x4 * w
/-- WHEEL_SLOT (R133, 04). -/
def WHEEL_SLOT : Nat := 0x40040
def WHEEL_SLOT_SHIFT : Fld := ⟨WHEEL_SLOT, 0, 5⟩
def WHEEL_SLOT_SLOT_MAX : Fld := ⟨WHEEL_SLOT, 16, 16⟩
/-- WHEEL_OCC (R133, 04). -/
def WHEEL_OCC : Nat := 0x40044
def WHEEL_OCC_COUNT : Fld := ⟨WHEEL_OCC, 0, 24⟩
/-- WHEEL_PART (R133, 04). -/
def WHEEL_PART : Nat := 0x40048
def WHEEL_PART_COUNT : Fld := ⟨WHEEL_PART, 0, 24⟩
/-- WHEEL_CNT_REF (R133, 04). -/
def WHEEL_CNT_REF : Nat := 0x4004C
/-- WHEEL_CNT_LATE (R133, 04). -/
def WHEEL_CNT_LATE : Nat := 0x40050
/-- WHEEL_CNT_SKIP (R133, 04). -/
def WHEEL_CNT_SKIP : Nat := 0x40054
/-- WHEEL_INS0–WHEEL_INS15 (R133, 04). -/
def WHEEL_INS (w : Nat) : Nat := 0x40100 + 0x4 * w
/-- WHEEL_INS_CMD (R133, 04). -/
def WHEEL_INS_CMD : Nat := 0x40140
def WHEEL_INS_CMD_INSERT : Fld := ⟨WHEEL_INS_CMD, 0, 1⟩
def WHEEL_INS_CMD_CANCEL : Fld := ⟨WHEEL_INS_CMD, 1, 1⟩
def WHEEL_INS_CMD_HANDLE : Fld := ⟨WHEEL_INS_CMD, 8, 24⟩
/-- WHEEL_INS_RES (R133, 04). -/
def WHEEL_INS_RES : Nat := 0x40144
def WHEEL_INS_RES_CODE : Fld := ⟨WHEEL_INS_RES, 0, 8⟩
def WHEEL_INS_RES_HANDLE : Fld := ⟨WHEEL_INS_RES, 8, 24⟩
/-- WHEEL_EV_CFG0–WHEEL_EV_CFG15 (R133, 04). -/
def WHEEL_EV_CFG (n : Nat) : Nat := 0x40200 + 0x4 * n
def WHEEL_EV_CFG_OWNER (n : Nat) : Fld := ⟨WHEEL_EV_CFG n, 0, 2⟩
def WHEEL_EV_CFG_AXIS (n : Nat) : Fld := ⟨WHEEL_EV_CFG n, 2, 7⟩
def WHEEL_EV_CFG_IDLE (n : Nat) : Fld := ⟨WHEEL_EV_CFG n, 9, 1⟩
/-- WHEEL_EV_LEAD0–WHEEL_EV_LEAD15 (R133, 04). -/
def WHEEL_EV_LEAD (n : Nat) : Nat := 0x40240 + 0x4 * n
def WHEEL_EV_LEAD_LEAD (n : Nat) : Fld := ⟨WHEEL_EV_LEAD n, 0, 20⟩
/-- WHEEL_EV_LVL (R133, 04). -/
def WHEEL_EV_LVL : Nat := 0x40280
def WHEEL_EV_LVL_LEVEL : Fld := ⟨WHEEL_EV_LVL, 0, 16⟩
/-- WHEEL_LT_CFG (R133, 04). -/
def WHEEL_LT_CFG (n : Nat) : Nat := 0x40300 + 0x20 * n
def WHEEL_LT_CFG_EDGE (n : Nat) : Fld := ⟨WHEEL_LT_CFG n, 0, 2⟩
def WHEEL_LT_CFG_WINDOWED (n : Nat) : Fld := ⟨WHEEL_LT_CFG n, 2, 1⟩
def WHEEL_LT_CFG_FILT (n : Nat) : Fld := ⟨WHEEL_LT_CFG n, 8, 8⟩
/-- WHEEL_LT_STAT (R133, 04). -/
def WHEEL_LT_STAT (n : Nat) : Nat := 0x40304 + 0x20 * n
def WHEEL_LT_STAT_LEVEL (n : Nat) : Fld := ⟨WHEEL_LT_STAT n, 0, 5⟩
def WHEEL_LT_STAT_OVF (n : Nat) : Fld := ⟨WHEEL_LT_STAT n, 5, 1⟩
def WHEEL_LT_STAT_ARMED (n : Nat) : Fld := ⟨WHEEL_LT_STAT n, 6, 1⟩
/-- WHEEL_LT_ANG (R133, 04). -/
def WHEEL_LT_ANG (n : Nat) : Nat := 0x40308 + 0x20 * n
/-- WHEEL_LT_PCYC (R133, 04). -/
def WHEEL_LT_PCYC (n : Nat) : Nat := 0x4030C + 0x20 * n
/-- WHEEL_LT_NS (R133, 04). -/
def WHEEL_LT_NS (n : Nat) : Nat := 0x40310 + 0x20 * n
/-- WHEEL_LT_SUB (R133, 04). -/
def WHEEL_LT_SUB (n : Nat) : Nat := 0x40314 + 0x20 * n
/-- WHEEL_LT_SEC (R133, 04). -/
def WHEEL_LT_SEC (n w : Nat) : Nat := 0x40318 + 0x20 * n + 0x4 * w
/-- HQ_POOL (R151, 05). -/
def HQ_POOL : Nat := 0x20000
def HQ_POOL_FREE : Fld := ⟨HQ_POOL, 0, 17⟩
/-- HQ_STAT (R151, 05). -/
def HQ_STAT : Nat := 0x20004
def HQ_STAT_FULL : Fld := ⟨HQ_STAT, 0, 16⟩
def HQ_STAT_POOL_EMPTY : Fld := ⟨HQ_STAT, 16, 1⟩
/-- HQn_CFG (R151, 05). -/
def HQ_CFG (n : Nat) : Nat := 0x20100 + 0x10 * n
def HQ_CFG_RESERVED (n : Nat) : Fld := ⟨HQ_CFG n, 0, 16⟩
def HQ_CFG_SHARED_CAP (n : Nat) : Fld := ⟨HQ_CFG n, 16, 16⟩
/-- HQn_LVL (R151, 05). -/
def HQ_LVL (n : Nat) : Nat := 0x20104 + 0x10 * n
def HQ_LVL_CELLS (n : Nat) : Fld := ⟨HQ_LVL n, 0, 16⟩
def HQ_LVL_ITEMS (n : Nat) : Fld := ⟨HQ_LVL n, 16, 16⟩
/-- HQn_CNT_REF (R151, 05). -/
def HQ_CNT_REF (n : Nat) : Nat := 0x20108 + 0x10 * n
/-- HQn_HWM (R151, 05). -/
def HQ_HWM (n : Nat) : Nat := 0x2010C + 0x10 * n
def HQ_HWM_CELLS (n : Nat) : Fld := ⟨HQ_HWM n, 0, 16⟩
/-- SCHED_STAT (R151, 05). -/
def SCHED_STAT : Nat := 0x30000
def SCHED_STAT_BUSY : Fld := ⟨SCHED_STAT, 0, 8⟩
def SCHED_STAT_ENABLED : Fld := ⟨SCHED_STAT, 8, 8⟩
def SCHED_STAT_OVERRUN : Fld := ⟨SCHED_STAT, 16, 1⟩
def SCHED_STAT_STOPPED : Fld := ⟨SCHED_STAT, 17, 1⟩
/-- SCHED_CTL (R151, 05). -/
def SCHED_CTL : Nat := 0x30004
def SCHED_CTL_CORE_EN : Fld := ⟨SCHED_CTL, 0, 8⟩
/-- SCHED_GRPg (R151, 05). -/
def SCHED_GRP (g : Nat) : Nat := 0x30020 + 0x4 * g
def SCHED_GRP_WEIGHT (g : Nat) : Fld := ⟨SCHED_GRP g, 0, 8⟩
def SCHED_GRP_READY (g : Nat) : Fld := ⟨SCHED_GRP g, 8, 16⟩
/-- SCHED_COREc (R151, 05). -/
def SCHED_CORE (c : Nat) : Nat := 0x30040 + 0x4 * c
def SCHED_CORE_HANDLER (c : Nat) : Fld := ⟨SCHED_CORE c, 0, 16⟩
def SCHED_CORE_KEY (c : Nat) : Fld := ⟨SCHED_CORE c, 16, 16⟩
/-- SCHED_CNT_OVR (R151, 05). -/
def SCHED_CNT_OVR : Nat := 0x30060
/-- FBP_CFG (R182, 06). -/
def FBP_CFG (p : Nat) : Nat := fbpBase p
def FBP_CFG_MODE (p : Nat) : Fld := ⟨FBP_CFG p, 0, 3⟩
def FBP_CFG_INV (p : Nat) : Fld := ⟨FBP_CFG p, 3, 1⟩
def FBP_CFG_ZPOL (p : Nat) : Fld := ⟨FBP_CFG p, 4, 1⟩
def FBP_CFG_ZGATE (p : Nat) : Fld := ⟨FBP_CFG p, 5, 1⟩
def FBP_CFG_WB_EN (p : Nat) : Fld := ⟨FBP_CFG p, 6, 1⟩
def FBP_CFG_IDX_CORR (p : Nat) : Fld := ⟨FBP_CFG p, 7, 1⟩
def FBP_CFG_FILT (p : Nat) : Fld := ⟨FBP_CFG p, 8, 8⟩
def FBP_CFG_SSI_ERRMAX (p : Nat) : Fld := ⟨FBP_CFG p, 16, 4⟩
/-- FBP_SSI (R182, 06). -/
def FBP_SSI (p : Nat) : Nat := fbpBase p + 0x4
def FBP_SSI_FRAME_BITS (p : Nat) : Fld := ⟨FBP_SSI p, 0, 6⟩
def FBP_SSI_POS_LSB (p : Nat) : Fld := ⟨FBP_SSI p, 6, 6⟩
def FBP_SSI_POS_BITS (p : Nat) : Fld := ⟨FBP_SSI p, 12, 6⟩
def FBP_SSI_GRAY (p : Nat) : Fld := ⟨FBP_SSI p, 18, 1⟩
def FBP_SSI_CRC_EN (p : Nat) : Fld := ⟨FBP_SSI p, 19, 1⟩
def FBP_SSI_HALF (p : Nat) : Fld := ⟨FBP_SSI p, 20, 8⟩
/-- FBP_IDXPER (R182, 06). -/
def FBP_IDXPER (p : Nat) : Nat := fbpBase p + 0x8
/-- FBP_IDXBASE (R182, 06). -/
def FBP_IDXBASE (p : Nat) : Nat := fbpBase p + 0xC
/-- FBP_IDXWIN (R182, 06). -/
def FBP_IDXWIN (p : Nat) : Nat := fbpBase p + 0x10
/-- FBP_CTL (R182, 06). -/
def FBP_CTL (p : Nat) : Nat := fbpBase p + 0x14
def FBP_CTL_REF_ARM (p : Nat) : Fld := ⟨FBP_CTL p, 0, 1⟩
/-- FBP_CNT (R182, 06). -/
def FBP_CNT (p : Nat) : Nat := fbpBase p + 0x18
/-- FBP_STAT (R182, 06). -/
def FBP_STAT (p : Nat) : Nat := fbpBase p + 0x1C
def FBP_STAT_REFERENCED (p : Nat) : Fld := ⟨FBP_STAT p, 0, 1⟩
def FBP_STAT_REF_ARMED (p : Nat) : Fld := ⟨FBP_STAT p, 1, 1⟩
def FBP_STAT_ILLEGAL (p : Nat) : Fld := ⟨FBP_STAT p, 2, 1⟩
def FBP_STAT_SLIP (p : Nat) : Fld := ⟨FBP_STAT p, 3, 1⟩
def FBP_STAT_OUT_WIN (p : Nat) : Fld := ⟨FBP_STAT p, 4, 1⟩
def FBP_STAT_IDX_MISSING (p : Nat) : Fld := ⟨FBP_STAT p, 5, 1⟩
def FBP_STAT_LOST (p : Nat) : Fld := ⟨FBP_STAT p, 6, 1⟩
def FBP_STAT_WB (p : Nat) : Fld := ⟨FBP_STAT p, 7, 1⟩
def FBP_STAT_LINES (p : Nat) : Fld := ⟨FBP_STAT p, 8, 4⟩
/-- FBP_SLIP (R182, 06). -/
def FBP_SLIP (p : Nat) : Nat := fbpBase p + 0x20
/-- FBP_IDXCNT (R182, 06). -/
def FBP_IDXCNT (p : Nat) : Nat := fbpBase p + 0x24
/-- FBP_CNT_ILL (R182, 06). -/
def FBP_CNT_ILL (p : Nat) : Nat := fbpBase p + 0x28
/-- FBP_CNT_BAD (R182, 06). -/
def FBP_CNT_BAD (p : Nat) : Nat := fbpBase p + 0x2C
/-- TILE_FB_SRC (R183, 06). -/
def TILE_FB_SRC (a : Nat) : Nat := tileBase a + 0x100
def TILE_FB_SRC_SRC (a : Nat) : Fld := ⟨TILE_FB_SRC a, 0, 2⟩
def TILE_FB_SRC_PORT (a : Nat) : Fld := ⟨TILE_FB_SRC a, 2, 5⟩
def TILE_FB_SRC_RING (a : Nat) : Fld := ⟨TILE_FB_SRC a, 7, 1⟩
def TILE_FB_SRC_NODE (a : Nat) : Fld := ⟨TILE_FB_SRC a, 8, 9⟩
def TILE_FB_SRC_AGE_MAX (a : Nat) : Fld := ⟨TILE_FB_SRC a, 17, 4⟩
def TILE_FB_SRC_LOST_LVL (a : Nat) : Fld := ⟨TILE_FB_SRC a, 21, 3⟩
def TILE_FB_SRC_FRZ_LVL (a : Nat) : Fld := ⟨TILE_FB_SRC a, 24, 3⟩
def TILE_FB_SRC_DRV_LOOP (a : Nat) : Fld := ⟨TILE_FB_SRC a, 27, 1⟩
/-- TILE_FB_POS (R183, 06). -/
def TILE_FB_POS (a : Nat) : Nat := tileBase a + 0x104
/-- TILE_FB_SPD (R183, 06). -/
def TILE_FB_SPD (a w : Nat) : Nat := tileBase a + 0x108 + 0x4 * w
/-- TILE_FB_STAT (R183, 06). -/
def TILE_FB_STAT (a : Nat) : Nat := tileBase a + 0x110
def TILE_FB_STAT_VALID (a : Nat) : Fld := ⟨TILE_FB_STAT a, 0, 1⟩
def TILE_FB_STAT_AGED (a : Nat) : Fld := ⟨TILE_FB_STAT a, 1, 1⟩
def TILE_FB_STAT_REFERENCED (a : Nat) : Fld := ⟨TILE_FB_STAT a, 2, 1⟩
def TILE_FB_STAT_STANDSTILL (a : Nat) : Fld := ⟨TILE_FB_STAT a, 3, 1⟩
def TILE_FB_STAT_PERIOD_MODE (a : Nat) : Fld := ⟨TILE_FB_STAT a, 4, 1⟩
def TILE_FB_STAT_LOST (a : Nat) : Fld := ⟨TILE_FB_STAT a, 5, 1⟩
def TILE_FB_STAT_FROZEN (a : Nat) : Fld := ⟨TILE_FB_STAT a, 6, 1⟩
def TILE_FB_STAT_ILLEGAL (a : Nat) : Fld := ⟨TILE_FB_STAT a, 7, 1⟩
def TILE_FB_STAT_SLIP (a : Nat) : Fld := ⟨TILE_FB_STAT a, 8, 1⟩
def TILE_FB_STAT_LOST_CAUSE (a : Nat) : Fld := ⟨TILE_FB_STAT a, 12, 4⟩
def TILE_FB_STAT_AGE (a : Nat) : Fld := ⟨TILE_FB_STAT a, 16, 8⟩
/-- TILE_FB_TIME (R183, 06). -/
def TILE_FB_TIME (a : Nat) : Nat := tileBase a + 0x114
def TILE_FB_TIME_NS (a : Nat) : Fld := ⟨TILE_FB_TIME a, 0, 30⟩
/-- TILE_FB_FRZ (R183, 06). -/
def TILE_FB_FRZ (a : Nat) : Nat := tileBase a + 0x118
def TILE_FB_FRZ_TICKS (a : Nat) : Fld := ⟨TILE_FB_FRZ a, 0, 16⟩
def TILE_FB_FRZ_TQ (a : Nat) : Fld := ⟨TILE_FB_FRZ a, 16, 16⟩
/-- TILE_FB_IGROW (R183, 06). -/
def TILE_FB_IGROW (a : Nat) : Nat := tileBase a + 0x11C
def TILE_FB_IGROW_IGROW (a : Nat) : Fld := ⟨TILE_FB_IGROW a, 0, 16⟩
/-- TILE_FB_STILL (R183, 06). -/
def TILE_FB_STILL (a : Nat) : Nat := tileBase a + 0x120
def TILE_FB_STILL_STILL_US (a : Nat) : Fld := ⟨TILE_FB_STILL a, 0, 24⟩
/-- TILE_PLN_CTL (R212, 07). -/
def TILE_PLN_CTL (a : Nat) : Nat := tileBase a
def TILE_PLN_CTL_STOP (a : Nat) : Fld := ⟨TILE_PLN_CTL a, 0, 1⟩
def TILE_PLN_CTL_QSTOP (a : Nat) : Fld := ⟨TILE_PLN_CTL a, 1, 1⟩
def TILE_PLN_CTL_FLUSH (a : Nat) : Fld := ⟨TILE_PLN_CTL a, 2, 1⟩
/-- TILE_PLN_STAT (R212, 07). -/
def TILE_PLN_STAT (a : Nat) : Nat := tileBase a + 0x4
def TILE_PLN_STAT_MODE (a : Nat) : Fld := ⟨TILE_PLN_STAT a, 0, 3⟩
def TILE_PLN_STAT_DONE (a : Nat) : Fld := ⟨TILE_PLN_STAT a, 3, 1⟩
def TILE_PLN_STAT_INHERITED (a : Nat) : Fld := ⟨TILE_PLN_STAT a, 4, 1⟩
def TILE_PLN_STAT_AT_LIMIT (a : Nat) : Fld := ⟨TILE_PLN_STAT a, 5, 1⟩
def TILE_PLN_STAT_GO_EMPTY (a : Nat) : Fld := ⟨TILE_PLN_STAT a, 6, 1⟩
def TILE_PLN_STAT_HOME_FAIL (a : Nat) : Fld := ⟨TILE_PLN_STAT a, 7, 1⟩
def TILE_PLN_STAT_LIM_REFUSED (a : Nat) : Fld := ⟨TILE_PLN_STAT a, 8, 1⟩
def TILE_PLN_STAT_FOLLOW_LAG (a : Nat) : Fld := ⟨TILE_PLN_STAT a, 9, 1⟩
def TILE_PLN_STAT_FOLLOW_LOST (a : Nat) : Fld := ⟨TILE_PLN_STAT a, 10, 1⟩
def TILE_PLN_STAT_HELD (a : Nat) : Fld := ⟨TILE_PLN_STAT a, 11, 1⟩
def TILE_PLN_STAT_QUEUED (a : Nat) : Fld := ⟨TILE_PLN_STAT a, 12, 4⟩
def TILE_PLN_STAT_SETPOS_REF (a : Nat) : Fld := ⟨TILE_PLN_STAT a, 16, 1⟩
/-- TILE_PLN_POS (R212, 07). -/
def TILE_PLN_POS (a w : Nat) : Nat := tileBase a + 0x8 + 0x4 * w
/-- TILE_PLN_VEL (R212, 07). -/
def TILE_PLN_VEL (a w : Nat) : Nat := tileBase a + 0x10 + 0x4 * w
/-- TILE_PLN_ACC (R212, 07). -/
def TILE_PLN_ACC (a : Nat) : Nat := tileBase a + 0x18
/-- TILE_PLN_SEQ (R212, 07). -/
def TILE_PLN_SEQ (a : Nat) : Nat := tileBase a + 0x1C
/-- TILE_PLN_VMAX (R212, 07). -/
def TILE_PLN_VMAX (a w : Nat) : Nat := tileBase a + 0x20 + 0x4 * w
/-- TILE_PLN_AMAX (R212, 07). -/
def TILE_PLN_AMAX (a : Nat) : Nat := tileBase a + 0x28
/-- TILE_PLN_DMAX (R212, 07). -/
def TILE_PLN_DMAX (a : Nat) : Nat := tileBase a + 0x2C
/-- TILE_PLN_JMAX (R212, 07). -/
def TILE_PLN_JMAX (a : Nat) : Nat := tileBase a + 0x30
/-- TILE_PLN_LIMLO (R212, 07). -/
def TILE_PLN_LIMLO (a : Nat) : Nat := tileBase a + 0x34
/-- TILE_PLN_LIMHI (R212, 07). -/
def TILE_PLN_LIMHI (a : Nat) : Nat := tileBase a + 0x38
/-- TILE_PLN_CNT_REF (R212, 07). -/
def TILE_PLN_CNT_REF (a : Nat) : Nat := tileBase a + 0x3C
/-- TILE_FLW_CFG (R212, 07). -/
def TILE_FLW_CFG (a : Nat) : Nat := tileBase a + 0x40
def TILE_FLW_CFG_PRESENT (a : Nat) : Fld := ⟨TILE_FLW_CFG a, 0, 1⟩
def TILE_FLW_CFG_UNIT (a : Nat) : Fld := ⟨TILE_FLW_CFG a, 1, 3⟩
def TILE_FLW_CFG_KIND (a : Nat) : Fld := ⟨TILE_FLW_CFG a, 4, 1⟩
def TILE_FLW_CFG_SRC (a : Nat) : Fld := ⟨TILE_FLW_CFG a, 5, 1⟩
def TILE_FLW_CFG_INPUT (a : Nat) : Fld := ⟨TILE_FLW_CFG a, 6, 5⟩
def TILE_FLW_CFG_BLEND (a : Nat) : Fld := ⟨TILE_FLW_CFG a, 11, 8⟩
/-- TILE_FLW_RATIO (R212, 07). -/
def TILE_FLW_RATIO (a w : Nat) : Nat := tileBase a + 0x44 + 0x4 * w
/-- TILE_FLW_OFS (R212, 07). -/
def TILE_FLW_OFS (a w : Nat) : Nat := tileBase a + 0x4C + 0x4 * w
/-- TILE_FLW_WIN (R212, 07). -/
def TILE_FLW_WIN (a : Nat) : Nat := tileBase a + 0x54
def TILE_FLW_WIN_LOW (a : Nat) : Fld := ⟨TILE_FLW_WIN a, 0, 16⟩
def TILE_FLW_WIN_HIGH (a : Nat) : Fld := ⟨TILE_FLW_WIN a, 16, 16⟩
/-- TILE_FLW_THR (R212, 07). -/
def TILE_FLW_THR (a : Nat) : Nat := tileBase a + 0x58
def TILE_FLW_THR_LOW (a : Nat) : Fld := ⟨TILE_FLW_THR a, 0, 16⟩
def TILE_FLW_THR_HIGH (a : Nat) : Fld := ⟨TILE_FLW_THR a, 16, 16⟩
/-- TILE_FLW_LEAD (R212, 07). -/
def TILE_FLW_LEAD (a : Nat) : Nat := tileBase a + 0x5C
/-- TILE_FLW_LASTGAP (R212, 07). -/
def TILE_FLW_LASTGAP (a : Nat) : Nat := tileBase a + 0x60
/-- CL_PSO (R212, 07). -/
def CL_PSO (c : Nat) : Nat := clBase c + 0xA00
def CL_PSO_SET (c : Nat) : Fld := ⟨CL_PSO c, 0, 17⟩
/-- CL_PSO_ACT (R212, 07). -/
def CL_PSO_ACT (c : Nat) : Nat := clBase c + 0xA04
def CL_PSO_ACT_S (c : Nat) : Fld := ⟨CL_PSO_ACT c, 0, 17⟩
def CL_PSO_ACT_CAPPED (c : Nat) : Fld := ⟨CL_PSO_ACT c, 17, 1⟩
/-- CL_PSO_RATE (R212, 07). -/
def CL_PSO_RATE (c : Nat) : Nat := clBase c + 0xA08
def CL_PSO_RATE_RATE (c : Nat) : Fld := ⟨CL_PSO_RATE c, 0, 16⟩
def CL_PSO_RATE_SACC (c : Nat) : Fld := ⟨CL_PSO_RATE c, 16, 16⟩
/-- AIN_CFG (R212, 07). -/
def AIN_CFG (i : Nat) : Nat := ainBase i
def AIN_CFG_AVG (i : Nat) : Fld := ⟨AIN_CFG i, 0, 7⟩
def AIN_CFG_EN (i : Nat) : Fld := ⟨AIN_CFG i, 7, 1⟩
/-- AIN_VAL (R212, 07). -/
def AIN_VAL (i : Nat) : Nat := ainBase i + 0x4
def AIN_VAL_VALUE (i : Nat) : Fld := ⟨AIN_VAL i, 0, 16⟩
/-- AIN_STAT (R212, 07). -/
def AIN_STAT (i : Nat) : Nat := ainBase i + 0x8
def AIN_STAT_LOST (i : Nat) : Fld := ⟨AIN_STAT i, 0, 1⟩
def AIN_STAT_SAT (i : Nat) : Fld := ⟨AIN_STAT i, 1, 1⟩
/-- PP_CFG (R249, 08). -/
def PP_CFG (p : Nat) : Nat := ppBase p
def PP_CFG_MODE (p : Nat) : Fld := ⟨PP_CFG p, 0, 2⟩
def PP_CFG_TILE (p : Nat) : Fld := ⟨PP_CFG p, 2, 7⟩
def PP_CFG_SD2_W (p : Nat) : Fld := ⟨PP_CFG p, 9, 1⟩
def PP_CFG_HPOL (p : Nat) : Fld := ⟨PP_CFG p, 10, 1⟩
def PP_CFG_LPOL (p : Nat) : Fld := ⟨PP_CFG p, 11, 1⟩
def PP_CFG_DECAY (p : Nat) : Fld := ⟨PP_CFG p, 12, 2⟩
def PP_CFG_KOFS (p : Nat) : Fld := ⟨PP_CFG p, 14, 4⟩
/-- PP_PWM (R249, 08). -/
def PP_PWM (p : Nat) : Nat := ppBase p + 0x4
def PP_PWM_CARRIER (p : Nat) : Fld := ⟨PP_PWM p, 0, 1⟩
def PP_PWM_DT (p : Nat) : Fld := ⟨PP_PWM p, 1, 10⟩
def PP_PWM_MINPW (p : Nat) : Fld := ⟨PP_PWM p, 11, 10⟩
/-- PP_CHOP (R249, 08). -/
def PP_CHOP (p : Nat) : Nat := ppBase p + 0x8
def PP_CHOP_BAND (p : Nat) : Fld := ⟨PP_CHOP p, 0, 16⟩
def PP_CHOP_TOFF (p : Nat) : Fld := ⟨PP_CHOP p, 16, 11⟩
def PP_CHOP_TBLANK (p : Nat) : Fld := ⟨PP_CHOP p, 27, 5⟩
/-- PP_LIM (R249, 08). -/
def PP_LIM (p : Nat) : Nat := ppBase p + 0xC
def PP_LIM_OC_LIM (p : Nat) : Fld := ⟨PP_LIM p, 0, 16⟩
def PP_LIM_UV (p : Nat) : Fld := ⟨PP_LIM p, 16, 8⟩
def PP_LIM_OV (p : Nat) : Fld := ⟨PP_LIM p, 24, 8⟩
/-- PP_SCALE (R249, 08). -/
def PP_SCALE (p : Nat) : Nat := ppBase p + 0x10
def PP_SCALE_LOW (p : Nat) : Fld := ⟨PP_SCALE p, 0, 16⟩
def PP_SCALE_HIGH (p : Nat) : Fld := ⟨PP_SCALE p, 16, 16⟩
/-- PP_OFS (R249, 08). -/
def PP_OFS (p : Nat) : Nat := ppBase p + 0x14
def PP_OFS_LOW (p : Nat) : Fld := ⟨PP_OFS p, 0, 16⟩
def PP_OFS_HIGH (p : Nat) : Fld := ⟨PP_OFS p, 16, 16⟩
/-- PP_SENSE (R249, 08). -/
def PP_SENSE (p : Nat) : Nat := ppBase p + 0x18
def PP_SENSE_LOW (p : Nat) : Fld := ⟨PP_SENSE p, 0, 16⟩
def PP_SENSE_HIGH (p : Nat) : Fld := ⟨PP_SENSE p, 16, 16⟩
/-- PP_SENSE2 (R249, 08). -/
def PP_SENSE2 (p : Nat) : Nat := ppBase p + 0x1C
def PP_SENSE2_LOW (p : Nat) : Fld := ⟨PP_SENSE2 p, 0, 16⟩
def PP_SENSE2_HIGH (p : Nat) : Fld := ⟨PP_SENSE2 p, 16, 16⟩
/-- PP_CAL01 (R249, 08). -/
def PP_CAL01 (p : Nat) : Nat := ppBase p + 0x20
def PP_CAL01_LOW (p : Nat) : Fld := ⟨PP_CAL01 p, 0, 16⟩
def PP_CAL01_HIGH (p : Nat) : Fld := ⟨PP_CAL01 p, 16, 16⟩
/-- PP_CAL2 (R249, 08). -/
def PP_CAL2 (p : Nat) : Nat := ppBase p + 0x24
def PP_CAL2_LOW (p : Nat) : Fld := ⟨PP_CAL2 p, 0, 16⟩
def PP_CAL2_HIGH (p : Nat) : Fld := ⟨PP_CAL2 p, 16, 16⟩
/-- PP_STAT (R249, 08). -/
def PP_STAT (p : Nat) : Nat := ppBase p + 0x28
def PP_STAT_GATES (p : Nat) : Fld := ⟨PP_STAT p, 0, 1⟩
def PP_STAT_CAL_DONE (p : Nat) : Fld := ⟨PP_STAT p, 1, 1⟩
def PP_STAT_BFLT (p : Nat) : Fld := ⟨PP_STAT p, 2, 1⟩
def PP_STAT_OC (p : Nat) : Fld := ⟨PP_STAT p, 3, 1⟩
def PP_STAT_BUS_UV (p : Nat) : Fld := ⟨PP_STAT p, 4, 1⟩
def PP_STAT_BUS_OV (p : Nat) : Fld := ⟨PP_STAT p, 5, 1⟩
def PP_STAT_SD_LOST (p : Nat) : Fld := ⟨PP_STAT p, 6, 1⟩
def PP_STAT_FLT_IN (p : Nat) : Fld := ⟨PP_STAT p, 7, 1⟩
def PP_STAT_LIMITED (p : Nat) : Fld := ⟨PP_STAT p, 8, 1⟩
/-- PP_CTL (R249, 08). -/
def PP_CTL (p : Nat) : Nat := ppBase p + 0x2C
def PP_CTL_CAL (p : Nat) : Fld := ⟨PP_CTL p, 0, 1⟩
/-- SDCK_CFG (R249, 08). -/
def SDCK_CFG (g : Nat) : Nat := clBase g + 0xE00
def SDCK_CFG_DIV (g : Nat) : Fld := ⟨SDCK_CFG g, 0, 7⟩
def SDCK_CFG_EN (g : Nat) : Fld := ⟨SDCK_CFG g, 7, 1⟩
def SDCK_CFG_OSR_M (g : Nat) : Fld := ⟨SDCK_CFG g, 8, 7⟩
def SDCK_CFG_OSR_F (g : Nat) : Fld := ⟨SDCK_CFG g, 16, 5⟩
/-- TILE_STP_CFG (R249, 08). -/
def TILE_STP_CFG (a : Nat) : Nat := tileBase a + 0x200
def TILE_STP_CFG_OUT (a : Nat) : Fld := ⟨TILE_STP_CFG a, 0, 2⟩
def TILE_STP_CFG_SRC (a : Nat) : Fld := ⟨TILE_STP_CFG a, 2, 1⟩
def TILE_STP_CFG_INV (a : Nat) : Fld := ⟨TILE_STP_CFG a, 3, 1⟩
def TILE_STP_CFG_MAXLVL (a : Nat) : Fld := ⟨TILE_STP_CFG a, 4, 4⟩
def TILE_STP_CFG_MS_HYST (a : Nat) : Fld := ⟨TILE_STP_CFG a, 8, 8⟩
def TILE_STP_CFG_MS_BASE (a : Nat) : Fld := ⟨TILE_STP_CFG a, 16, 16⟩
/-- TILE_STP_PULSE (R249, 08). -/
def TILE_STP_PULSE (a : Nat) : Nat := tileBase a + 0x204
def TILE_STP_PULSE_STEP_W (a : Nat) : Fld := ⟨TILE_STP_PULSE a, 0, 10⟩
def TILE_STP_PULSE_DIR_SU (a : Nat) : Fld := ⟨TILE_STP_PULSE a, 10, 10⟩
/-- TILE_STP_POS (R249, 08). -/
def TILE_STP_POS (a : Nat) : Nat := tileBase a + 0x208
/-- TILE_STP_RAW (R249, 08). -/
def TILE_STP_RAW (a : Nat) : Nat := tileBase a + 0x20C
/-- TILE_STP_RES (R249, 08). -/
def TILE_STP_RES (a : Nat) : Nat := tileBase a + 0x210
def TILE_STP_RES_CODE (a : Nat) : Fld := ⟨TILE_STP_RES a, 0, 8⟩
/-- TILE_STP_STAT (R249, 08). -/
def TILE_STP_STAT (a : Nat) : Nat := tileBase a + 0x214
def TILE_STP_STAT_LEVEL (a : Nat) : Fld := ⟨TILE_STP_STAT a, 0, 4⟩
def TILE_STP_STAT_AT_REST (a : Nat) : Fld := ⟨TILE_STP_STAT a, 4, 1⟩
def TILE_STP_STAT_RAW (a : Nat) : Fld := ⟨TILE_STP_STAT a, 5, 1⟩
def TILE_STP_STAT_RAW_DONE (a : Nat) : Fld := ⟨TILE_STP_STAT a, 6, 1⟩
def TILE_STP_STAT_HOLDING (a : Nat) : Fld := ⟨TILE_STP_STAT a, 7, 1⟩
def TILE_STP_STAT_EST_VALID (a : Nat) : Fld := ⟨TILE_STP_STAT a, 8, 1⟩
def TILE_STP_STAT_STALL_RISK (a : Nat) : Fld := ⟨TILE_STP_STAT a, 9, 1⟩
def TILE_STP_STAT_DELTA (a : Nat) : Fld := ⟨TILE_STP_STAT a, 16, 8⟩
/-- TILE_STP_CUR (R249, 08). -/
def TILE_STP_CUR (a : Nat) : Nat := tileBase a + 0x218
def TILE_STP_CUR_I (a : Nat) : Fld := ⟨TILE_STP_CUR a, 0, 16⟩
def TILE_STP_CUR_RLRN (a : Nat) : Fld := ⟨TILE_STP_CUR a, 16, 16⟩
/-- TILE_STP_ICFG (R249, 08). -/
def TILE_STP_ICFG (a : Nat) : Nat := tileBase a + 0x21C
def TILE_STP_ICFG_LOW (a : Nat) : Fld := ⟨TILE_STP_ICFG a, 0, 16⟩
def TILE_STP_ICFG_HIGH (a : Nat) : Fld := ⟨TILE_STP_ICFG a, 16, 16⟩
/-- TILE_STP_ACFG (R249, 08). -/
def TILE_STP_ACFG (a : Nat) : Nat := tileBase a + 0x220
def TILE_STP_ACFG_LOW (a : Nat) : Fld := ⟨TILE_STP_ACFG a, 0, 16⟩
def TILE_STP_ACFG_HIGH (a : Nat) : Fld := ⟨TILE_STP_ACFG a, 16, 16⟩
/-- TILE_STP_HOLD (R249, 08). -/
def TILE_STP_HOLD (a : Nat) : Nat := tileBase a + 0x224
def TILE_STP_HOLD_LOW (a : Nat) : Fld := ⟨TILE_STP_HOLD a, 0, 16⟩
def TILE_STP_HOLD_HIGH (a : Nat) : Fld := ⟨TILE_STP_HOLD a, 16, 16⟩
/-- TILE_STP_MOT (R249, 08). -/
def TILE_STP_MOT (a : Nat) : Nat := tileBase a + 0x228
def TILE_STP_MOT_LOW (a : Nat) : Fld := ⟨TILE_STP_MOT a, 0, 16⟩
def TILE_STP_MOT_HIGH (a : Nat) : Fld := ⟨TILE_STP_MOT a, 16, 16⟩
/-- TILE_STP_RAWCFG (R249, 08). -/
def TILE_STP_RAWCFG (a : Nat) : Nat := tileBase a + 0x22C
def TILE_STP_RAWCFG_LOW (a : Nat) : Fld := ⟨TILE_STP_RAWCFG a, 0, 16⟩
def TILE_STP_RAWCFG_HIGH (a : Nat) : Fld := ⟨TILE_STP_RAWCFG a, 16, 16⟩
/-- TILE_STP_ANG (R249, 08). -/
def TILE_STP_ANG (a : Nat) : Nat := tileBase a + 0x230
def TILE_STP_ANG_DN (a : Nat) : Fld := ⟨TILE_STP_ANG a, 0, 8⟩
def TILE_STP_ANG_UP (a : Nat) : Fld := ⟨TILE_STP_ANG a, 8, 8⟩
def TILE_STP_ANG_STALL (a : Nat) : Fld := ⟨TILE_STP_ANG a, 16, 8⟩
def TILE_STP_ANG_STALL_LVL (a : Nat) : Fld := ⟨TILE_STP_ANG a, 24, 2⟩
/-- CL_ENG_STAT (R278, 09). -/
def CL_ENG_STAT (c : Nat) : Nat := clBase c
def CL_ENG_STAT_RUNNING (c : Nat) : Fld := ⟨CL_ENG_STAT c, 0, 1⟩
def CL_ENG_STAT_BANK (c : Nat) : Fld := ⟨CL_ENG_STAT c, 1, 1⟩
def CL_ENG_STAT_IN_TICK (c : Nat) : Fld := ⟨CL_ENG_STAT c, 2, 1⟩
def CL_ENG_STAT_IN_CUR (c : Nat) : Fld := ⟨CL_ENG_STAT c, 3, 1⟩
def CL_ENG_STAT_SAT (c : Nat) : Fld := ⟨CL_ENG_STAT c, 4, 1⟩
def CL_ENG_STAT_ACC_SAT (c : Nat) : Fld := ⟨CL_ENG_STAT c, 5, 1⟩
def CL_ENG_STAT_OVERRUN (c : Nat) : Fld := ⟨CL_ENG_STAT c, 6, 1⟩
def CL_ENG_STAT_ILLEGAL (c : Nat) : Fld := ⟨CL_ENG_STAT c, 7, 1⟩
def CL_ENG_STAT_ECC2 (c : Nat) : Fld := ⟨CL_ENG_STAT c, 8, 1⟩
/-- CL_ENG_WCET (R278, 09). -/
def CL_ENG_WCET (c : Nat) : Nat := clBase c + 0x4
def CL_ENG_WCET_TICK (c : Nat) : Fld := ⟨CL_ENG_WCET c, 0, 14⟩
def CL_ENG_WCET_CUR (c : Nat) : Fld := ⟨CL_ENG_WCET c, 16, 12⟩
/-- CL_ENG_CYC (R278, 09). -/
def CL_ENG_CYC (c : Nat) : Nat := clBase c + 0x8
def CL_ENG_CYC_TICK (c : Nat) : Fld := ⟨CL_ENG_CYC c, 0, 14⟩
def CL_ENG_CYC_CUR (c : Nat) : Fld := ⟨CL_ENG_CYC c, 16, 12⟩
/-- CL_ENG_CYCMAX (R278, 09). -/
def CL_ENG_CYCMAX (c : Nat) : Nat := clBase c + 0xC
def CL_ENG_CYCMAX_TICK (c : Nat) : Fld := ⟨CL_ENG_CYCMAX c, 0, 14⟩
def CL_ENG_CYCMAX_CUR (c : Nat) : Fld := ⟨CL_ENG_CYCMAX c, 16, 12⟩
/-- CL_ENG_CNT_SAT (R278, 09). -/
def CL_ENG_CNT_SAT (c : Nat) : Nat := clBase c + 0x10
/-- CL_ENG_CNT_ECC (R278, 09). -/
def CL_ENG_CNT_ECC (c : Nat) : Nat := clBase c + 0x14
/-- CL_ENG_PC (R278, 09). -/
def CL_ENG_PC (c : Nat) : Nat := clBase c + 0x18
def CL_ENG_PC_PC (c : Nat) : Fld := ⟨CL_ENG_PC c, 0, 12⟩
/-- TILE_LP_VAR (R278, 09). -/
def TILE_LP_VAR (a : Nat) : Nat := tileBase a + 0x300
def TILE_LP_VAR_MPC (a : Nat) : Fld := ⟨TILE_LP_VAR a, 0, 2⟩
def TILE_LP_VAR_FALLBACK (a : Nat) : Fld := ⟨TILE_LP_VAR a, 2, 2⟩
def TILE_LP_VAR_FOLLOW (a : Nat) : Fld := ⟨TILE_LP_VAR a, 4, 2⟩
def TILE_LP_VAR_PROFILE (a : Nat) : Fld := ⟨TILE_LP_VAR a, 6, 2⟩
def TILE_LP_VAR_HO_BLEND (a : Nat) : Fld := ⟨TILE_LP_VAR a, 8, 8⟩
def TILE_LP_VAR_HO_THR (a : Nat) : Fld := ⟨TILE_LP_VAR a, 16, 16⟩
/-- TILE_LP_STAT (R278, 09). -/
def TILE_LP_STAT (a : Nat) : Nat := tileBase a + 0x304
def TILE_LP_STAT_CLASS (a : Nat) : Fld := ⟨TILE_LP_STAT a, 0, 3⟩
def TILE_LP_STAT_VARIANT (a : Nat) : Fld := ⟨TILE_LP_STAT a, 3, 2⟩
def TILE_LP_STAT_BLEND (a : Nat) : Fld := ⟨TILE_LP_STAT a, 5, 1⟩
def TILE_LP_STAT_GAP (a : Nat) : Fld := ⟨TILE_LP_STAT a, 6, 1⟩
def TILE_LP_STAT_OSC (a : Nat) : Fld := ⟨TILE_LP_STAT a, 7, 1⟩
/-- TILE_LP_GAP (R278, 09). -/
def TILE_LP_GAP (a : Nat) : Nat := tileBase a + 0x308
def TILE_LP_GAP_VALUE (a : Nat) : Fld := ⟨TILE_LP_GAP a, 0, 16⟩
/-- TILE_LP_OUT (R278, 09). -/
def TILE_LP_OUT (a : Nat) : Nat := tileBase a + 0x30C
def TILE_LP_OUT_VALUE (a : Nat) : Fld := ⟨TILE_LP_OUT a, 0, 16⟩
/-- TILE_LP_OSC_FLT (R278, 09). -/
def TILE_LP_OSC_FLT (a : Nat) : Nat := tileBase a + 0x310
def TILE_LP_OSC_FLT_ALPHA (a : Nat) : Fld := ⟨TILE_LP_OSC_FLT a, 0, 15⟩
def TILE_LP_OSC_FLT_BETA (a : Nat) : Fld := ⟨TILE_LP_OSC_FLT a, 15, 15⟩
/-- TILE_LP_OSC_DET (R278, 09). -/
def TILE_LP_OSC_DET (a : Nat) : Nat := tileBase a + 0x314
def TILE_LP_OSC_DET_AMP (a : Nat) : Fld := ⟨TILE_LP_OSC_DET a, 0, 12⟩
def TILE_LP_OSC_DET_WIN (a : Nat) : Fld := ⟨TILE_LP_OSC_DET a, 12, 9⟩
def TILE_LP_OSC_DET_CNT (a : Nat) : Fld := ⟨TILE_LP_OSC_DET a, 21, 5⟩
def TILE_LP_OSC_DET_OSC_LVL (a : Nat) : Fld := ⟨TILE_LP_OSC_DET a, 26, 2⟩
def TILE_LP_OSC_DET_DLY (a : Nat) : Fld := ⟨TILE_LP_OSC_DET a, 28, 4⟩
/-- TILE_LP_OSC_FREQ (R278, 09). -/
def TILE_LP_OSC_FREQ (a : Nat) : Nat := tileBase a + 0x318
/-- TILE_LP_FERR (R278, 09). -/
def TILE_LP_FERR (a : Nat) : Nat := tileBase a + 0x31C
/-- QS_STAT (R301, 10). -/
def QS_STAT (u : Nat) : Nat := qsBase u
def QS_STAT_RUNNING (u : Nat) : Fld := ⟨QS_STAT u, 0, 1⟩
def QS_STAT_STOPPED (u : Nat) : Fld := ⟨QS_STAT u, 1, 1⟩
def QS_STAT_POS (u : Nat) : Fld := ⟨QS_STAT u, 2, 4⟩
def QS_STAT_IN_FACT (u : Nat) : Fld := ⟨QS_STAT u, 6, 1⟩
def QS_STAT_ECC2 (u : Nat) : Fld := ⟨QS_STAT u, 7, 1⟩
def QS_STAT_RANGE (u : Nat) : Fld := ⟨QS_STAT u, 8, 1⟩
def QS_STAT_PIVOT (u : Nat) : Fld := ⟨QS_STAT u, 9, 1⟩
/-- QS_CFG (R301, 10). -/
def QS_CFG (u : Nat) : Nat := qsBase u + 0x4
def QS_CFG_NARMS (u : Nat) : Fld := ⟨QS_CFG u, 0, 4⟩
def QS_CFG_MEM_KIB (u : Nat) : Fld := ⟨QS_CFG u, 8, 11⟩
/-- QS_CNT_ECC (R301, 10). -/
def QS_CNT_ECC (u : Nat) : Nat := qsBase u + 0x8
/-- QS_ARM_CFG (R301, 10). -/
def QS_ARM_CFG (u j : Nat) : Nat := qsArmBase u j
def QS_ARM_CFG_ARM (u j : Nat) : Fld := ⟨QS_ARM_CFG u j, 0, 4⟩
def QS_ARM_CFG_PRESENT (u j : Nat) : Fld := ⟨QS_ARM_CFG u j, 4, 1⟩
def QS_ARM_CFG_NVAR (u j : Nat) : Fld := ⟨QS_ARM_CFG u j, 5, 7⟩
def QS_ARM_CFG_NCON (u j : Nat) : Fld := ⟨QS_ARM_CFG u j, 12, 9⟩
def QS_ARM_CFG_HOR (u j : Nat) : Fld := ⟨QS_ARM_CFG u j, 21, 5⟩
def QS_ARM_CFG_SHIFT_MAX (u j : Nat) : Fld := ⟨QS_ARM_CFG u j, 26, 4⟩
/-- QS_ARM_DL (R301, 10). -/
def QS_ARM_DL (u j : Nat) : Nat := qsArmBase u j + 0x4
def QS_ARM_DL_D (u j : Nat) : Fld := ⟨QS_ARM_DL u j, 0, 20⟩
/-- QS_ARM_CHK (R301, 10). -/
def QS_ARM_CHK (u j : Nat) : Nat := qsArmBase u j + 0x8
def QS_ARM_CHK_CHK_IT (u j : Nat) : Fld := ⟨QS_ARM_CHK u j, 0, 8⟩
def QS_ARM_CHK_RHO_TRIG (u j : Nat) : Fld := ⟨QS_ARM_CHK u j, 8, 8⟩
def QS_ARM_CHK_RHO_INIT (u j : Nat) : Fld := ⟨QS_ARM_CHK u j, 16, 2⟩
/-- QS_ARM_RES (R301, 10). -/
def QS_ARM_RES (u j : Nat) : Nat := qsArmBase u j + 0xC
def QS_ARM_RES_KIND (u j : Nat) : Fld := ⟨QS_ARM_RES u j, 0, 2⟩
def QS_ARM_RES_USABLE (u j : Nat) : Fld := ⟨QS_ARM_RES u j, 2, 1⟩
def QS_ARM_RES_SHIFTS (u j : Nat) : Fld := ⟨QS_ARM_RES u j, 3, 4⟩
def QS_ARM_RES_ITER (u j : Nat) : Fld := ⟨QS_ARM_RES u j, 8, 8⟩
def QS_ARM_RES_RHO (u j : Nat) : Fld := ⟨QS_ARM_RES u j, 16, 2⟩
def QS_ARM_RES_FACT_CUT (u j : Nat) : Fld := ⟨QS_ARM_RES u j, 18, 1⟩
/-- QS_ARM_RP (R301, 10). -/
def QS_ARM_RP (u j : Nat) : Nat := qsArmBase u j + 0x10
/-- QS_ARM_RD (R301, 10). -/
def QS_ARM_RD (u j : Nat) : Nat := qsArmBase u j + 0x14
/-- QS_ARM_TEND (R301, 10). -/
def QS_ARM_TEND (u j : Nat) : Nat := qsArmBase u j + 0x18
def QS_ARM_TEND_T (u j : Nat) : Fld := ⟨QS_ARM_TEND u j, 0, 20⟩
/-- QS_ARM_CNT_SHIFT (R301, 10). -/
def QS_ARM_CNT_SHIFT (u j : Nat) : Nat := qsArmBase u j + 0x1C
/-- QS_ARM_CNT_REF (R301, 10). -/
def QS_ARM_CNT_REF (u j : Nat) : Nat := qsArmBase u j + 0x20
/-- QS_ARM_CNT_FACT (R301, 10). -/
def QS_ARM_CNT_FACT (u j : Nat) : Nat := qsArmBase u j + 0x24
/-- QS_ARM_CNT_CUT (R301, 10). -/
def QS_ARM_CNT_CUT (u j : Nat) : Nat := qsArmBase u j + 0x28
/-- QS_ARM_CNT_PIV (R301, 10). -/
def QS_ARM_CNT_PIV (u j : Nat) : Nat := qsArmBase u j + 0x2C
/-- SAFE_SSM_STAT (R327, 11). -/
def SAFE_SSM_STAT : Nat := 0xC0800
def SAFE_SSM_STAT_RUN : Fld := ⟨SAFE_SSM_STAT, 0, 1⟩
def SAFE_SSM_STAT_SET : Fld := ⟨SAFE_SSM_STAT, 1, 3⟩
def SAFE_SSM_STAT_WARMUP : Fld := ⟨SAFE_SSM_STAT, 4, 1⟩
def SAFE_SSM_STAT_MIRROR_STALE : Fld := ⟨SAFE_SSM_STAT, 5, 1⟩
def SAFE_SSM_STAT_XCMP : Fld := ⟨SAFE_SSM_STAT, 6, 1⟩
def SAFE_SSM_STAT_SEQ : Fld := ⟨SAFE_SSM_STAT, 16, 16⟩
/-- SAFE_SSM_VIOL (R327, 11). -/
def SAFE_SSM_VIOL : Nat := 0xC0804
def SAFE_SSM_VIOL_VIOL : Fld := ⟨SAFE_SSM_VIOL, 0, 12⟩
def SAFE_SSM_VIOL_CAPPED : Fld := ⟨SAFE_SSM_VIOL, 16, 12⟩
/-- SAFE_SSM_SCAN (R327, 11). -/
def SAFE_SSM_SCAN : Nat := 0xC0808
def SAFE_SSM_SCAN_PRESENT : Fld := ⟨SAFE_SSM_SCAN, 0, 8⟩
def SAFE_SSM_SCAN_LOST : Fld := ⟨SAFE_SSM_SCAN, 8, 8⟩
/-- SAFE_SSM_XDIFF (R327, 11). -/
def SAFE_SSM_XDIFF : Nat := 0xC080C
def SAFE_SSM_XDIFF_DIFF : Fld := ⟨SAFE_SSM_XDIFF, 0, 16⟩
def SAFE_SSM_XDIFF_RUN : Fld := ⟨SAFE_SSM_XDIFF, 16, 4⟩
/-- SAFE_SSM_CNT_VIOL (R327, 11). -/
def SAFE_SSM_CNT_VIOL : Nat := 0xC0810
/-- SAFE_SSM_CNT_XCMP (R327, 11). -/
def SAFE_SSM_CNT_XCMP : Nat := 0xC0814
/-- SAFE_SSM_CYCMAX (R327, 11). -/
def SAFE_SSM_CYCMAX : Nat := 0xC0818
/-- SAFE_SSM_ARM_A (R327, 11). -/
def SAFE_SSM_ARM_A (m : Nat) : Nat := ssmArmBase m
def SAFE_SSM_ARM_A_D (m : Nat) : Fld := ⟨SAFE_SSM_ARM_A m, 0, 16⟩
def SAFE_SSM_ARM_A_PARTNER (m : Nat) : Fld := ⟨SAFE_SSM_ARM_A m, 16, 7⟩
def SAFE_SSM_ARM_A_OWN (m : Nat) : Fld := ⟨SAFE_SSM_ARM_A m, 23, 3⟩
/-- SAFE_SSM_ARM_P (R327, 11). -/
def SAFE_SSM_ARM_P (m : Nat) : Nat := ssmArmBase m + 0x4
def SAFE_SSM_ARM_P_D (m : Nat) : Fld := ⟨SAFE_SSM_ARM_P m, 0, 16⟩
def SAFE_SSM_ARM_P_PARTNER (m : Nat) : Fld := ⟨SAFE_SSM_ARM_P m, 16, 7⟩
def SAFE_SSM_ARM_P_OWN (m : Nat) : Fld := ⟨SAFE_SSM_ARM_P m, 23, 3⟩
/-- SAFE_SSM_ARM_V (R327, 11). -/
def SAFE_SSM_ARM_V (m : Nat) : Nat := ssmArmBase m + 0x8
def SAFE_SSM_ARM_V_LOW (m : Nat) : Fld := ⟨SAFE_SSM_ARM_V m, 0, 16⟩
def SAFE_SSM_ARM_V_HIGH (m : Nat) : Fld := ⟨SAFE_SSM_ARM_V m, 16, 16⟩
/-- SAFE_SSM_ARM_SP (R327, 11). -/
def SAFE_SSM_ARM_SP (m : Nat) : Nat := ssmArmBase m + 0xC
def SAFE_SSM_ARM_SP_LOW (m : Nat) : Fld := ⟨SAFE_SSM_ARM_SP m, 0, 16⟩
def SAFE_SSM_ARM_SP_HIGH (m : Nat) : Fld := ⟨SAFE_SSM_ARM_SP m, 16, 16⟩
/-- SAFE_SSM_PRS_XY (R327, 11). -/
def SAFE_SSM_PRS_XY (k : Nat) : Nat := ssmPrsBase k
def SAFE_SSM_PRS_XY_LOW (k : Nat) : Fld := ⟨SAFE_SSM_PRS_XY k, 0, 16⟩
def SAFE_SSM_PRS_XY_HIGH (k : Nat) : Fld := ⟨SAFE_SSM_PRS_XY k, 16, 14⟩
/-- SAFE_SSM_PRS_RH (R327, 11). -/
def SAFE_SSM_PRS_RH (k : Nat) : Nat := ssmPrsBase k + 0x4
def SAFE_SSM_PRS_RH_LOW (k : Nat) : Fld := ⟨SAFE_SSM_PRS_RH k, 0, 16⟩
def SAFE_SSM_PRS_RH_HIGH (k : Nat) : Fld := ⟨SAFE_SSM_PRS_RH k, 16, 14⟩
/-- CL_PSO_CAP (R327, 11). -/
def CL_PSO_CAP (c : Nat) : Nat := clBase c + 0xA0C
def CL_PSO_CAP_S_CAP (c : Nat) : Fld := ⟨CL_PSO_CAP c, 0, 17⟩
def CL_PSO_CAP_STALE (c : Nat) : Fld := ⟨CL_PSO_CAP c, 17, 1⟩
def CL_PSO_CAP_FOREIGN (c : Nat) : Fld := ⟨CL_PSO_CAP c, 18, 1⟩
/-- CL_PSO_VPATH (R327, 11). -/
def CL_PSO_VPATH (c : Nat) : Nat := clBase c + 0xA10
def CL_PSO_VPATH_V_PATH (c : Nat) : Fld := ⟨CL_PSO_VPATH c, 0, 16⟩
/-- SAFE_STAT (R347, 12). -/
def SAFE_STAT : Nat := 0xC0000
def SAFE_STAT_RUN_A : Fld := ⟨SAFE_STAT, 0, 1⟩
def SAFE_STAT_RUN_B : Fld := ⟨SAFE_STAT, 1, 1⟩
def SAFE_STAT_XCMP : Fld := ⟨SAFE_STAT, 2, 1⟩
def SAFE_STAT_CLK : Fld := ⟨SAFE_STAT, 3, 1⟩
def SAFE_STAT_FRAME : Fld := ⟨SAFE_STAT, 4, 2⟩
def SAFE_STAT_CFG_CHANGED : Fld := ⟨SAFE_STAT, 6, 1⟩
def SAFE_STAT_CFG_XCMP : Fld := ⟨SAFE_STAT, 7, 1⟩
/-- SAFE_CFG_CODE (R347, 12). -/
def SAFE_CFG_CODE : Nat := 0xC0004
def SAFE_CFG_CODE_PRESENT : Fld := ⟨SAFE_CFG_CODE, 0, 16⟩
def SAFE_CFG_CODE_SET : Fld := ⟨SAFE_CFG_CODE, 16, 3⟩
def SAFE_CFG_CODE_STABLE : Fld := ⟨SAFE_CFG_CODE, 19, 1⟩
/-- SAFE_STO_REQ (R347, 12). -/
def SAFE_STO_REQ : Nat := 0xC0008
def SAFE_STO_REQ_GROUPS : Fld := ⟨SAFE_STO_REQ, 0, 4⟩
def SAFE_STO_REQ_KEY : Fld := ⟨SAFE_STO_REQ, 16, 16⟩
/-- SAFE_STO_STATg (R347, 12). -/
def SAFE_STO_STAT (g : Nat) : Nat := 0xC0010 + 0x4 * g
def SAFE_STO_STAT_STATE (g : Nat) : Fld := ⟨SAFE_STO_STAT g, 0, 2⟩
def SAFE_STO_STAT_CONFIRMED (g : Nat) : Fld := ⟨SAFE_STO_STAT g, 2, 1⟩
def SAFE_STO_STAT_OUT_A (g : Nat) : Fld := ⟨SAFE_STO_STAT g, 3, 1⟩
def SAFE_STO_STAT_OUT_B (g : Nat) : Fld := ⟨SAFE_STO_STAT g, 4, 1⟩
def SAFE_STO_STAT_STUCK_A (g : Nat) : Fld := ⟨SAFE_STO_STAT g, 5, 1⟩
def SAFE_STO_STAT_STUCK_B (g : Nat) : Fld := ⟨SAFE_STO_STAT g, 6, 1⟩
def SAFE_STO_STAT_REQ_REFUSED (g : Nat) : Fld := ⟨SAFE_STO_STAT g, 7, 1⟩
def SAFE_STO_STAT_COND (g : Nat) : Fld := ⟨SAFE_STO_STAT g, 8, 8⟩
def SAFE_STO_STAT_CAUSE (g : Nat) : Fld := ⟨SAFE_STO_STAT g, 16, 4⟩
def SAFE_STO_STAT_SS1_MS (g : Nat) : Fld := ⟨SAFE_STO_STAT g, 20, 12⟩
/-- SAFE_SI_REL (R347, 12). -/
def SAFE_SI_REL : Nat := 0xC0020
/-- SAFE_SI_FLT (R347, 12). -/
def SAFE_SI_FLT : Nat := 0xC0024
/-- SAFE_TP_STAT (R347, 12). -/
def SAFE_TP_STAT : Nat := 0xC0028
def SAFE_TP_STAT_RUN : Fld := ⟨SAFE_TP_STAT, 0, 4⟩
def SAFE_TP_STAT_SHORT : Fld := ⟨SAFE_TP_STAT, 4, 4⟩
def SAFE_TP_STAT_INPUT : Fld := ⟨SAFE_TP_STAT, 8, 6⟩
/-- SAFE_STO_XCONDg (R347, 12). -/
def SAFE_STO_XCOND (g : Nat) : Nat := 0xC0030 + 0x4 * g
def SAFE_STO_XCOND_STUCK (g : Nat) : Fld := ⟨SAFE_STO_XCOND g, 0, 1⟩
def SAFE_STO_XCOND_REACTION (g : Nat) : Fld := ⟨SAFE_STO_XCOND g, 1, 1⟩
/-- SAFE_CONN_LOST0–SAFE_CONN_LOST7 (R347, 12). -/
def SAFE_CONN_LOST (w : Nat) : Nat := 0xC0040 + 0x4 * w
/-- SAFE_CNT_TG (R347, 12). -/
def SAFE_CNT_TG : Nat := 0xC0060
/-- SAFE_CNT_MISM (R347, 12). -/
def SAFE_CNT_MISM : Nat := 0xC0064
/-- SAFE_CNT_XCMP (R347, 12). -/
def SAFE_CNT_XCMP : Nat := 0xC0068
/-- DOOR_STAT (R363, 13). -/
def DOOR_STAT : Nat := 0xD0000
def DOOR_STAT_PRESENT : Fld := ⟨DOOR_STAT, 0, 8⟩
def DOOR_STAT_LOCKED : Fld := ⟨DOOR_STAT, 8, 8⟩
def DOOR_STAT_PERMIT : Fld := ⟨DOOR_STAT, 16, 8⟩
def DOOR_STAT_FAULT : Fld := ⟨DOOR_STAT, 24, 8⟩
/-- DOOR_CFG (R363, 13). -/
def DOOR_CFG (d : Nat) : Nat := doorBase d
def DOOR_CFG_AXIS (d : Nat) : Fld := ⟨DOOR_CFG d, 0, 7⟩
def DOOR_CFG_AUTO_LOCK (d : Nat) : Fld := ⟨DOOR_CFG d, 7, 1⟩
def DOOR_CFG_GROUPS (d : Nat) : Fld := ⟨DOOR_CFG d, 8, 4⟩
def DOOR_CFG_PAIR (d : Nat) : Fld := ⟨DOOR_CFG d, 12, 5⟩
def DOOR_CFG_LOCK_OUT (d : Nat) : Fld := ⟨DOOR_CFG d, 17, 5⟩
def DOOR_CFG_CONF_IN (d : Nat) : Fld := ⟨DOOR_CFG d, 22, 6⟩
def DOOR_CFG_EDGE_EN (d : Nat) : Fld := ⟨DOOR_CFG d, 28, 1⟩
/-- DOOR_CFG2 (R363, 13). -/
def DOOR_CFG2 (d : Nat) : Nat := doorBase d + 0x4
def DOOR_CFG2_EDGE_IN (d : Nat) : Fld := ⟨DOOR_CFG2 d, 0, 6⟩
def DOOR_CFG2_EDGE_POL (d : Nat) : Fld := ⟨DOOR_CFG2 d, 6, 1⟩
def DOOR_CFG2_N_OBS (d : Nat) : Fld := ⟨DOOR_CFG2 d, 7, 4⟩
def DOOR_CFG2_KADAPT (d : Nat) : Fld := ⟨DOOR_CFG2 d, 11, 4⟩
def DOOR_CFG2_T_LOCK (d : Nat) : Fld := ⟨DOOR_CFG2 d, 16, 16⟩
/-- DOOR_POSCL (R363, 13). -/
def DOOR_POSCL (d : Nat) : Nat := doorBase d + 0x8
def DOOR_POSCL_LOW (d : Nat) : Fld := ⟨DOOR_POSCL d, 0, 16⟩
def DOOR_POSCL_HIGH (d : Nat) : Fld := ⟨DOOR_POSCL d, 16, 16⟩
/-- DOOR_POSOP (R363, 13). -/
def DOOR_POSOP (d : Nat) : Nat := doorBase d + 0xC
def DOOR_POSOP_LOW (d : Nat) : Fld := ⟨DOOR_POSOP d, 0, 16⟩
def DOOR_POSOP_HIGH (d : Nat) : Fld := ⟨DOOR_POSOP d, 16, 16⟩
/-- DOOR_EFF (R363, 13). -/
def DOOR_EFF (d : Nat) : Nat := doorBase d + 0x10
def DOOR_EFF_LOW (d : Nat) : Fld := ⟨DOOR_EFF d, 0, 16⟩
def DOOR_EFF_HIGH (d : Nat) : Fld := ⟨DOOR_EFF d, 16, 16⟩
/-- DOOR_CAP (R363, 13). -/
def DOOR_CAP (d : Nat) : Nat := doorBase d + 0x14
def DOOR_CAP_LOW (d : Nat) : Fld := ⟨DOOR_CAP d, 0, 16⟩
def DOOR_CAP_HIGH (d : Nat) : Fld := ⟨DOOR_CAP d, 16, 16⟩
/-- DOOR_REV (R363, 13). -/
def DOOR_REV (d : Nat) : Nat := doorBase d + 0x18
def DOOR_REV_LOW (d : Nat) : Fld := ⟨DOOR_REV d, 0, 16⟩
def DOOR_REV_HIGH (d : Nat) : Fld := ⟨DOOR_REV d, 16, 16⟩
/-- DOOR_CMD (R363, 13). -/
def DOOR_CMD (d : Nat) : Nat := doorBase d + 0x1C
def DOOR_CMD_CMD (d : Nat) : Fld := ⟨DOOR_CMD d, 0, 3⟩
def DOOR_CMD_KEY (d : Nat) : Fld := ⟨DOOR_CMD d, 16, 16⟩
/-- DOOR_RES (R363, 13). -/
def DOOR_RES (d : Nat) : Nat := doorBase d + 0x20
def DOOR_RES_CODE (d : Nat) : Fld := ⟨DOOR_RES d, 0, 8⟩
def DOOR_RES_DONE (d : Nat) : Fld := ⟨DOOR_RES d, 8, 1⟩
/-- DOOR_STATE (R363, 13). -/
def DOOR_STATE (d : Nat) : Nat := doorBase d + 0x24
def DOOR_STATE_STATE (d : Nat) : Fld := ⟨DOOR_STATE d, 0, 4⟩
def DOOR_STATE_CLOSED_IN (d : Nat) : Fld := ⟨DOOR_STATE d, 4, 1⟩
def DOOR_STATE_CONF (d : Nat) : Fld := ⟨DOOR_STATE d, 5, 1⟩
def DOOR_STATE_EDGE (d : Nat) : Fld := ⟨DOOR_STATE d, 6, 1⟩
def DOOR_STATE_LEARNED (d : Nat) : Fld := ⟨DOOR_STATE d, 7, 1⟩
def DOOR_STATE_MANUAL (d : Nat) : Fld := ⟨DOOR_STATE d, 8, 1⟩
def DOOR_STATE_SEARCH (d : Nat) : Fld := ⟨DOOR_STATE d, 9, 1⟩
def DOOR_STATE_OBST (d : Nat) : Fld := ⟨DOOR_STATE d, 10, 1⟩
def DOOR_STATE_FORCE (d : Nat) : Fld := ⟨DOOR_STATE d, 11, 1⟩
def DOOR_STATE_FCAUSE (d : Nat) : Fld := ⟨DOOR_STATE d, 12, 4⟩
/-- DOOR_EFFNOW (R363, 13). -/
def DOOR_EFFNOW (d : Nat) : Nat := doorBase d + 0x28
/-- DOOR_PEAK (R363, 13). -/
def DOOR_PEAK (d : Nat) : Nat := doorBase d + 0x2C
/-- DOOR_OBSPOS (R363, 13). -/
def DOOR_OBSPOS (d : Nat) : Nat := doorBase d + 0x30
/-- DOOR_CNT_CYC (R363, 13). -/
def DOOR_CNT_CYC (d : Nat) : Nat := doorBase d + 0x34
/-- DOOR_CNT_OBS (R363, 13). -/
def DOOR_CNT_OBS (d : Nat) : Nat := doorBase d + 0x38
/-- DOOR_PROF (R363, 13). -/
def DOOR_PROF (d b : Nat) : Nat := 0xD1000 + 0x100 * d + 0x4 * b
def DOOR_PROF_OPEN (d b : Nat) : Fld := ⟨DOOR_PROF d b, 0, 16⟩
def DOOR_PROF_CLOSE (d b : Nat) : Fld := ⟨DOOR_PROF d b, 16, 16⟩
/-- KRn_STAT (R391, 14). -/
def KR_STAT (r : Nat) : Nat := krBase r
def KR_STAT_STATE (r : Nat) : Fld := ⟨KR_STAT r, 0, 3⟩
def KR_STAT_MODE (r : Nat) : Fld := ⟨KR_STAT r, 3, 2⟩
def KR_STAT_LOOPED (r : Nat) : Fld := ⟨KR_STAT r, 5, 1⟩
def KR_STAT_LINK_P (r : Nat) : Fld := ⟨KR_STAT r, 6, 1⟩
def KR_STAT_LINK_S (r : Nat) : Fld := ⟨KR_STAT r, 7, 1⟩
def KR_STAT_MISS (r : Nat) : Fld := ⟨KR_STAT r, 8, 1⟩
def KR_STAT_FCS (r : Nat) : Fld := ⟨KR_STAT r, 9, 1⟩
def KR_STAT_DRIFT (r : Nat) : Fld := ⟨KR_STAT r, 10, 1⟩
def KR_STAT_SILT (r : Nat) : Fld := ⟨KR_STAT r, 11, 1⟩
def KR_STAT_FOREIGN (r : Nat) : Fld := ⟨KR_STAT r, 12, 1⟩
/-- KRn_CFG (R391, 14). -/
def KR_CFG (r : Nat) : Nat := krBase r + 0x4
def KR_CFG_K (r : Nat) : Fld := ⟨KR_CFG r, 0, 6⟩
def KR_CFG_SPEED (r : Nat) : Fld := ⟨KR_CFG r, 6, 1⟩
def KR_CFG_MODE (r : Nat) : Fld := ⟨KR_CFG r, 7, 2⟩
def KR_CFG_NODES (r : Nat) : Fld := ⟨KR_CFG r, 9, 10⟩
/-- KRn_WIN (R391, 14). -/
def KR_WIN (r : Nat) : Nat := krBase r + 0x8
def KR_WIN_W_ARR (r : Nat) : Fld := ⟨KR_WIN r, 0, 14⟩
def KR_WIN_NSILT (r : Nat) : Fld := ⟨KR_WIN r, 16, 8⟩
/-- KR_CYC (R391, 14). -/
def KR_CYC (r : Nat) : Nat := krBase r + 0xC
/-- KR_SID (R391, 14). -/
def KR_SID (r : Nat) : Nat := krBase r + 0x10
/-- KR_RTT (R391, 14). -/
def KR_RTT (r : Nat) : Nat := krBase r + 0x14
/-- KRn_EPOCH (R391, 14). -/
def KR_EPOCH (r : Nat) : Nat := krBase r + 0x18
def KR_EPOCH_EPOCH (r : Nat) : Fld := ⟨KR_EPOCH r, 0, 16⟩
def KR_EPOCH_HIGHEST (r : Nat) : Fld := ⟨KR_EPOCH r, 16, 16⟩
/-- KRn_LEN (R391, 14). -/
def KR_LEN (r : Nat) : Nat := krBase r + 0x1C
def KR_LEN_FRAME (r : Nat) : Fld := ⟨KR_LEN r, 0, 14⟩
def KR_LEN_AREA (r : Nat) : Fld := ⟨KR_LEN r, 16, 14⟩
/-- KRn_RTTMAX (R391, 14). -/
def KR_RTTMAX (r : Nat) : Nat := krBase r + 0x20
/-- KRn_LOOP (R391, 14). -/
def KR_LOOP (r : Nat) : Nat := krBase r + 0x24
def KR_LOOP_LOOP_ADDR (r : Nat) : Fld := ⟨KR_LOOP r, 0, 16⟩
/-- KR_CNT_MISS (R391, 14). -/
def KR_CNT_MISS (r : Nat) : Nat := krBase r + 0x40
/-- KR_CNT_FCS (R391, 14). -/
def KR_CNT_FCS (r : Nat) : Nat := krBase r + 0x44
/-- KR_CNT_SILT (R391, 14). -/
def KR_CNT_SILT (r : Nat) : Nat := krBase r + 0x48
/-- KR_CNT_DRIFT (R391, 14). -/
def KR_CNT_DRIFT (r : Nat) : Nat := krBase r + 0x4C
/-- KR_CNT_FOREIGN (R391, 14). -/
def KR_CNT_FOREIGN (r : Nat) : Nat := krBase r + 0x50
/-- KR_CNT_SVC (R391, 14). -/
def KR_CNT_SVC (r : Nat) : Nat := krBase r + 0x54
/-- KRn_NODEa (R391, 14). -/
def KR_NODE (r a : Nat) : Nat := krBase r + 0x1000 + 0x4 * a
def KR_NODE_PRESENT (r a : Nat) : Fld := ⟨KR_NODE r a, 0, 1⟩
def KR_NODE_ACTIVE (r a : Nat) : Fld := ⟨KR_NODE r a, 1, 1⟩
def KR_NODE_DRIFT (r a : Nat) : Fld := ⟨KR_NODE r a, 2, 1⟩
def KR_NODE_SVC_PEND (r a : Nat) : Fld := ⟨KR_NODE r a, 3, 1⟩
def KR_NODE_WARN (r a : Nat) : Fld := ⟨KR_NODE r a, 4, 1⟩
def KR_NODE_PEND_ACK (r a : Nat) : Fld := ⟨KR_NODE r a, 5, 1⟩
def KR_NODE_SILT (r a : Nat) : Fld := ⟨KR_NODE r a, 8, 8⟩
/-- KRn_CTL (R415, 15). -/
def KR_CTL (r : Nat) : Nat := krBase r + 0x28
def KR_CTL_CLOSE (r : Nat) : Fld := ⟨KR_CTL r, 0, 1⟩
def KR_CTL_KEY (r : Nat) : Fld := ⟨KR_CTL r, 16, 16⟩
/-- KRn_RING (R415, 15). -/
def KR_RING (r : Nat) : Nat := krBase r + 0x2C
def KR_RING_OPEN (r : Nat) : Fld := ⟨KR_RING r, 0, 1⟩
def KR_RING_NARROW (r : Nat) : Fld := ⟨KR_RING r, 1, 1⟩
def KR_RING_JOINED (r : Nat) : Fld := ⟨KR_RING r, 2, 1⟩
def KR_RING_COPY_P (r : Nat) : Fld := ⟨KR_RING r, 3, 1⟩
def KR_RING_COPY_S (r : Nat) : Fld := ⟨KR_RING r, 4, 1⟩
def KR_RING_CLOSE_READY (r : Nat) : Fld := ⟨KR_RING r, 5, 1⟩
def KR_RING_CLOSE_PEND (r : Nat) : Fld := ⟨KR_RING r, 6, 1⟩
def KR_RING_CLOSE_REF (r : Nat) : Fld := ⟨KR_RING r, 7, 1⟩
def KR_RING_AUTO_CLOSE (r : Nat) : Fld := ⟨KR_RING r, 8, 1⟩
/-- KRn_BRK (R415, 15). -/
def KR_BRK (r : Nat) : Nat := krBase r + 0x30
def KR_BRK_LOOP_P (r : Nat) : Fld := ⟨KR_BRK r, 0, 16⟩
def KR_BRK_LOOP_S (r : Nat) : Fld := ⟨KR_BRK r, 16, 16⟩
/-- KRn_CLAIM (R415, 15). -/
def KR_CLAIM (r : Nat) : Nat := krBase r + 0x34
def KR_CLAIM_PRIO (r : Nat) : Fld := ⟨KR_CLAIM r, 0, 8⟩
def KR_CLAIM_SENT (r : Nat) : Fld := ⟨KR_CLAIM r, 8, 8⟩
def KR_CLAIM_TCLX (r : Nat) : Fld := ⟨KR_CLAIM r, 16, 10⟩
/-- KR_MST_SERL (R415, 15). -/
def KR_MST_SERL (r : Nat) : Nat := krBase r + 0x38
/-- KR_MST_SERH (R415, 15). -/
def KR_MST_SERH (r : Nat) : Nat := krBase r + 0x3C
/-- KR_CNT_OPEN (R415, 15). -/
def KR_CNT_OPEN (r : Nat) : Nat := krBase r + 0x58
/-- KR_CNT_CLAIM (R415, 15). -/
def KR_CNT_CLAIM (r : Nat) : Nat := krBase r + 0x5C
/-- KR_CNT_NDROP (R415, 15). -/
def KR_CNT_NDROP (r : Nat) : Nat := krBase r + 0x60
/-- TIME_STAT (R434, 16). -/
def TIME_STAT : Nat := 0x80000
def TIME_STAT_STATE : Fld := ⟨TIME_STAT, 0, 3⟩
def TIME_STAT_EVER_SYNC : Fld := ⟨TIME_STAT, 3, 1⟩
def TIME_STAT_STEP_PEND : Fld := ⟨TIME_STAT, 4, 1⟩
def TIME_STAT_FLIMIT : Fld := ⟨TIME_STAT, 5, 1⟩
def TIME_STAT_GM_CHANGE : Fld := ⟨TIME_STAT, 6, 1⟩
def TIME_STAT_STEPPED : Fld := ⟨TIME_STAT, 7, 1⟩
def TIME_STAT_ACC_REF : Fld := ⟨TIME_STAT, 8, 1⟩
def TIME_STAT_OC_PORT : Fld := ⟨TIME_STAT, 9, 1⟩
/-- TIME_CFG (R434, 16). -/
def TIME_CFG : Nat := 0x80004
def TIME_CFG_SRC : Fld := ⟨TIME_CFG, 0, 2⟩
def TIME_CFG_AUTO_INIT : Fld := ⟨TIME_CFG, 2, 1⟩
def TIME_CFG_FADJ_MAX : Fld := ⟨TIME_CFG, 3, 10⟩
def TIME_CFG_SYNC_THR : Fld := ⟨TIME_CFG, 16, 16⟩
/-- TIME_CTL (R434, 16). -/
def TIME_CTL : Nat := 0x80008
def TIME_CTL_ACCEPT : Fld := ⟨TIME_CTL, 0, 1⟩
def TIME_CTL_KEY : Fld := ⟨TIME_CTL, 16, 16⟩
/-- TIME_STEP_THR (R434, 16). -/
def TIME_STEP_THR : Nat := 0x8000C
def TIME_STEP_THR_THR : Fld := ⟨TIME_STEP_THR, 0, 24⟩
/-- TIME_NOW_NS (R434, 16). -/
def TIME_NOW_NS : Nat := 0x80010
/-- TIME_NOW_SUB (R434, 16). -/
def TIME_NOW_SUB : Nat := 0x80014
/-- TIME_NOW_SEC (R434, 16). -/
def TIME_NOW_SEC (w : Nat) : Nat := 0x80018 + 0x4 * w
/-- TIME_OFS (R434, 16). -/
def TIME_OFS (w : Nat) : Nat := 0x80020 + 0x4 * w
/-- TIME_PEND (R434, 16). -/
def TIME_PEND (w : Nat) : Nat := 0x80028 + 0x4 * w
/-- TIME_FADJ (R434, 16). -/
def TIME_FADJ : Nat := 0x80030
/-- TIME_MPD (R434, 16). -/
def TIME_MPD : Nat := 0x80034
/-- TIME_LASTSTEP (R434, 16). -/
def TIME_LASTSTEP : Nat := 0x80038
/-- TIME_SERVO (R434, 16). -/
def TIME_SERVO : Nat := 0x8003C
def TIME_SERVO_KP : Fld := ⟨TIME_SERVO, 0, 5⟩
def TIME_SERVO_KI : Fld := ⟨TIME_SERVO, 8, 5⟩
/-- TIME_GM (R434, 16). -/
def TIME_GM (w : Nat) : Nat := 0x80040 + 0x4 * w
/-- TIME_UTC (R434, 16). -/
def TIME_UTC : Nat := 0x80048
def TIME_UTC_OFFSET : Fld := ⟨TIME_UTC, 0, 16⟩
def TIME_UTC_VALID : Fld := ⟨TIME_UTC, 16, 1⟩
/-- TIME_PTP (R434, 16). -/
def TIME_PTP : Nat := 0x80050
def TIME_PTP_DOMAIN : Fld := ⟨TIME_PTP, 0, 8⟩
def TIME_PTP_TRANSPORT : Fld := ⟨TIME_PTP, 8, 1⟩
def TIME_PTP_DELAY : Fld := ⟨TIME_PTP, 9, 1⟩
def TIME_PTP_TC_EN : Fld := ⟨TIME_PTP, 10, 1⟩
def TIME_PTP_TWO_STEP : Fld := ⟨TIME_PTP, 11, 1⟩
def TIME_PTP_STAMP : Fld := ⟨TIME_PTP, 12, 1⟩
def TIME_PTP_EN : Fld := ⟨TIME_PTP, 13, 1⟩
/-- TIME_PLp_LAT (R434, 16). -/
def TIME_PL_LAT (p : Nat) : Nat := 0x80060 + 0x4 * p
def TIME_PL_LAT_TX (p : Nat) : Fld := ⟨TIME_PL_LAT p, 0, 16⟩
def TIME_PL_LAT_RX (p : Nat) : Fld := ⟨TIME_PL_LAT p, 16, 16⟩
/-- TIME_CNT_SYNC (R434, 16). -/
def TIME_CNT_SYNC : Nat := 0x80070
/-- TIME_CNT_REF (R434, 16). -/
def TIME_CNT_REF : Nat := 0x80074
/-- TIME_CNT_TC (R434, 16). -/
def TIME_CNT_TC : Nat := 0x80078
/-- TIME_HOLD_MS (R434, 16). -/
def TIME_HOLD_MS : Nat := 0x8007C
/-- RED_STAT (R453, 17). -/
def RED_STAT : Nat := 0xE0000
def RED_STAT_ROLE : Fld := ⟨RED_STAT, 0, 2⟩
def RED_STAT_ARMED : Fld := ⟨RED_STAT, 2, 1⟩
def RED_STAT_PEER : Fld := ⟨RED_STAT, 3, 1⟩
def RED_STAT_MISSED : Fld := ⟨RED_STAT, 4, 2⟩
def RED_STAT_ISOLATED : Fld := ⟨RED_STAT, 6, 1⟩
def RED_STAT_TAKEN : Fld := ⟨RED_STAT, 7, 1⟩
def RED_STAT_REFUSED : Fld := ⟨RED_STAT, 8, 1⟩
def RED_STAT_SILENCED : Fld := ⟨RED_STAT, 9, 1⟩
def RED_STAT_MASTER_PRESENT : Fld := ⟨RED_STAT, 10, 1⟩
/-- RED_CTL (R453, 17). -/
def RED_CTL : Nat := 0xE0004
def RED_CTL_TAKEOVER : Fld := ⟨RED_CTL, 0, 1⟩
def RED_CTL_KEY : Fld := ⟨RED_CTL, 16, 16⟩
/-- RED_CFG (R453, 17). -/
def RED_CFG : Nat := 0xE0008
def RED_CFG_PAIR_ADDR : Fld := ⟨RED_CFG, 0, 9⟩
def RED_CFG_MAXAGE : Fld := ⟨RED_CFG, 16, 16⟩
/-- RED_SNAP (R453, 17). -/
def RED_SNAP : Nat := 0xE000C
/-- RED_SNAP_LEN (R453, 17). -/
def RED_SNAP_LEN : Nat := 0xE0010
/-- RED_SNAP_AGE (R453, 17). -/
def RED_SNAP_AGE : Nat := 0xE0014
/-- RED_PEER (R453, 17). -/
def RED_PEER : Nat := 0xE0018
/-- RED_TK_CYC (R453, 17). -/
def RED_TK_CYC : Nat := 0xE001C
/-- RED_CNT_SENT (R453, 17). -/
def RED_CNT_SENT : Nat := 0xE0020
/-- RED_CNT_RCVD (R453, 17). -/
def RED_CNT_RCVD : Nat := 0xE0024
/-- RED_CNT_INC (R453, 17). -/
def RED_CNT_INC : Nat := 0xE0028
/-- RED_CNT_ABANDON (R453, 17). -/
def RED_CNT_ABANDON : Nat := 0xE002C
/-- RED_SNAP_HASH (R453, 17). -/
def RED_SNAP_HASH (w : Nat) : Nat := 0xE0040 + 0x4 * w
/-- FLT_STAT (R474, 18). -/
def FLT_STAT : Nat := 0x50000
def FLT_STAT_ANY : Fld := ⟨FLT_STAT, 0, 1⟩
def FLT_STAT_LEVEL : Fld := ⟨FLT_STAT, 1, 3⟩
def FLT_STAT_UNACK : Fld := ⟨FLT_STAT, 4, 1⟩
def FLT_STAT_TBL_FULL : Fld := ⟨FLT_STAT, 5, 1⟩
def FLT_STAT_ESC : Fld := ⟨FLT_STAT, 6, 1⟩
def FLT_STAT_ERR_LOW : Fld := ⟨FLT_STAT, 7, 1⟩
def FLT_STAT_ERR_MIN : Fld := ⟨FLT_STAT, 8, 1⟩
def FLT_STAT_ENTRIES : Fld := ⟨FLT_STAT, 16, 8⟩
/-- FLT_CFG (R474, 18). -/
def FLT_CFG : Nat := 0x50004
def FLT_CFG_ERRMIN : Fld := ⟨FLT_CFG, 0, 10⟩
def FLT_CFG_ERR_LVL : Fld := ⟨FLT_CFG, 10, 3⟩
def FLT_CFG_L1STOP : Fld := ⟨FLT_CFG, 16, 16⟩
/-- FLT_ERR (R474, 18). -/
def FLT_ERR : Nat := 0x50008
def FLT_ERR_ERR_SW : Fld := ⟨FLT_ERR, 0, 1⟩
/-- FLT_ACK (R474, 18). -/
def FLT_ACK : Nat := 0x5000C
def FLT_ACK_CLASSES : Fld := ⟨FLT_ACK, 0, 4⟩
def FLT_ACK_KEY : Fld := ⟨FLT_ACK, 16, 16⟩
/-- FLT_CLR (R474, 18). -/
def FLT_CLR : Nat := 0x50010
def FLT_CLR_ENTRY : Fld := ⟨FLT_CLR, 0, 7⟩
def FLT_CLR_ALL : Fld := ⟨FLT_CLR, 7, 1⟩
def FLT_CLR_KEY : Fld := ⟨FLT_CLR, 16, 16⟩
/-- FLT_RES (R474, 18). -/
def FLT_RES : Nat := 0x50014
def FLT_RES_CODE : Fld := ⟨FLT_RES, 0, 2⟩
def FLT_RES_DONE : Fld := ⟨FLT_RES, 2, 1⟩
def FLT_RES_REMAIN : Fld := ⟨FLT_RES, 3, 8⟩
/-- FLT_RAISE (R474, 18). -/
def FLT_RAISE : Nat := 0x50018
/-- FLT_RAISE_CTX (R474, 18). -/
def FLT_RAISE_CTX : Nat := 0x5001C
/-- FLT_MSG0–FLT_MSG7 (R474, 18). -/
def FLT_MSG (w : Nat) : Nat := 0x50020 + 0x4 * w
/-- FLT_MSG_LVL (R474, 18). -/
def FLT_MSG_LVL : Nat := 0x50040
def FLT_MSG_LVL_LEVEL : Fld := ⟨FLT_MSG_LVL, 0, 9⟩
def FLT_MSG_LVL_OVF : Fld := ⟨FLT_MSG_LVL, 9, 1⟩
/-- FLT_CNT_LOST (R474, 18). -/
def FLT_CNT_LOST : Nat := 0x50044
/-- FLT_CNT_ESC (R474, 18). -/
def FLT_CNT_ESC : Nat := 0x50048
/-- FLT_CNT_MSG (R474, 18). -/
def FLT_CNT_MSG : Nat := 0x5004C
/-- FLT_ENT0–FLT_ENT3 (R474, 18). -/
def FLT_ENT (e w : Nat) : Nat := 0x50100 + 0x10 * e + 0x4 * w
/-- REC_STAT (R493, 19). -/
def REC_STAT : Nat := 0x60000
def REC_STAT_SCANNING : Fld := ⟨REC_STAT, 0, 1⟩
def REC_STAT_READY : Fld := ⟨REC_STAT, 1, 1⟩
def REC_STAT_WRAPPED : Fld := ⟨REC_STAT, 2, 1⟩
def REC_STAT_DROP : Fld := ⟨REC_STAT, 3, 1⟩
def REC_STAT_SUPP : Fld := ⟨REC_STAT, 4, 1⟩
def REC_STAT_MRAM_ERR : Fld := ⟨REC_STAT, 5, 1⟩
def REC_STAT_EPISODE : Fld := ⟨REC_STAT, 6, 1⟩
/-- REC_HEAD (R493, 19). -/
def REC_HEAD : Nat := 0x60004
/-- REC_HEAD_SEQ (R493, 19). -/
def REC_HEAD_SEQ : Nat := 0x60008
/-- REC_OLD (R493, 19). -/
def REC_OLD : Nat := 0x6000C
/-- REC_OLD_SEQ (R493, 19). -/
def REC_OLD_SEQ : Nat := 0x60010
/-- REC_WIN (R493, 19). -/
def REC_WIN : Nat := 0x60014
def REC_WIN_MIB : Fld := ⟨REC_WIN, 0, 4⟩
/-- REC_SHARED (R493, 19). -/
def REC_SHARED : Nat := 0x60018
def REC_SHARED_RATE : Fld := ⟨REC_SHARED, 0, 16⟩
def REC_SHARED_BURST : Fld := ⟨REC_SHARED, 16, 8⟩
/-- REC_CNT_REC (R493, 19). -/
def REC_CNT_REC : Nat := 0x60020
/-- REC_CNT_SUPP (R493, 19). -/
def REC_CNT_SUPP : Nat := 0x60024
/-- REC_CNT_DROP (R493, 19). -/
def REC_CNT_DROP : Nat := 0x60028
/-- REC_CNT_REF (R493, 19). -/
def REC_CNT_REF : Nat := 0x6002C
/-- REC_WRAPS (R493, 19). -/
def REC_WRAPS : Nat := 0x60030
/-- REC_SCAN (R493, 19). -/
def REC_SCAN : Nat := 0x60034
def REC_SCAN_VALID : Fld := ⟨REC_SCAN, 0, 9⟩
def REC_SCAN_DAMAGED : Fld := ⟨REC_SCAN, 9, 9⟩
/-- ACQ_STAT (R508, 20). -/
def ACQ_STAT : Nat := 0x70000
def ACQ_STAT_STATE : Fld := ⟨ACQ_STAT, 0, 3⟩
def ACQ_STAT_TRIGGERED : Fld := ⟨ACQ_STAT, 3, 1⟩
def ACQ_STAT_TRUNC : Fld := ⟨ACQ_STAT, 4, 1⟩
def ACQ_STAT_VIOL : Fld := ⟨ACQ_STAT, 5, 1⟩
def ACQ_STAT_GAP : Fld := ⟨ACQ_STAT, 6, 1⟩
def ACQ_STAT_PAUSED : Fld := ⟨ACQ_STAT, 7, 1⟩
/-- ACQ_CTL (R508, 20). -/
def ACQ_CTL : Nat := 0x70004
def ACQ_CTL_ARM : Fld := ⟨ACQ_CTL, 0, 1⟩
def ACQ_CTL_STOP : Fld := ⟨ACQ_CTL, 1, 1⟩
def ACQ_CTL_FORCE : Fld := ⟨ACQ_CTL, 2, 1⟩
/-- ACQ_RES (R508, 20). -/
def ACQ_RES : Nat := 0x70008
def ACQ_RES_CODE : Fld := ⟨ACQ_RES, 0, 8⟩
/-- ACQ_CFG (R508, 20). -/
def ACQ_CFG : Nat := 0x7000C
def ACQ_CFG_NPROBE : Fld := ⟨ACQ_CFG, 0, 8⟩
def ACQ_CFG_RDIV : Fld := ⟨ACQ_CFG, 8, 4⟩
def ACQ_CFG_MINMAX : Fld := ⟨ACQ_CFG, 12, 1⟩
def ACQ_CFG_STREAM : Fld := ⟨ACQ_CFG, 13, 1⟩
def ACQ_CFG_STOP_VIOL : Fld := ⟨ACQ_CFG, 14, 1⟩
def ACQ_CFG_DEC : Fld := ⟨ACQ_CFG, 16, 16⟩
/-- ACQ_OFFSET (R508, 20). -/
def ACQ_OFFSET : Nat := 0x70010
/-- ACQ_POST (R508, 20). -/
def ACQ_POST : Nat := 0x70014
/-- ACQ_HOLDOFF (R508, 20). -/
def ACQ_HOLDOFF : Nat := 0x70018
/-- ACQ_DSIZE (R508, 20). -/
def ACQ_DSIZE : Nat := 0x7001C
/-- ACQ_TRIG (R508, 20). -/
def ACQ_TRIG : Nat := 0x70020
def ACQ_TRIG_EN : Fld := ⟨ACQ_TRIG, 0, 8⟩
def ACQ_TRIG_FKIND : Fld := ⟨ACQ_TRIG, 8, 8⟩
def ACQ_TRIG_FLVL : Fld := ⟨ACQ_TRIG, 16, 3⟩
def ACQ_TRIG_SRC : Fld := ⟨ACQ_TRIG, 24, 8⟩
/-- ACQ_TRIG_IDX (R508, 20). -/
def ACQ_TRIG_IDX (w : Nat) : Nat := 0x70024 + 0x4 * w
/-- ACQ_TRIG_SEC (R508, 20). -/
def ACQ_TRIG_SEC (w : Nat) : Nat := 0x7002C + 0x4 * w
/-- ACQ_TRIG_NS (R508, 20). -/
def ACQ_TRIG_NS : Nat := 0x70034
/-- ACQ_TRIG_ANG (R508, 20). -/
def ACQ_TRIG_ANG : Nat := 0x70038
/-- ACQ_WIN (R508, 20). -/
def ACQ_WIN : Nat := 0x7003C
def ACQ_WIN_MIB : Fld := ⟨ACQ_WIN, 0, 10⟩
def ACQ_WIN_DRAM : Fld := ⟨ACQ_WIN, 10, 1⟩
/-- ACQ_OLD_BLK (R508, 20). -/
def ACQ_OLD_BLK : Nat := 0x70040
def ACQ_OLD_BLK_INDEX : Fld := ⟨ACQ_OLD_BLK, 0, 17⟩
/-- ACQ_HEAD_BLK (R508, 20). -/
def ACQ_HEAD_BLK : Nat := 0x70044
def ACQ_HEAD_BLK_INDEX : Fld := ⟨ACQ_HEAD_BLK, 0, 17⟩
/-- ACQ_CNT_IGN (R508, 20). -/
def ACQ_CNT_IGN : Nat := 0x70050
/-- ACQ_CNT_GAP (R508, 20). -/
def ACQ_CNT_GAP : Nat := 0x70054
/-- ACQ_CNT_VIOL (R508, 20). -/
def ACQ_CNT_VIOL : Nat := 0x70058
/-- ACQ_TC_CFG (R508, 20). -/
def ACQ_TC_CFG (n : Nat) : Nat := 0x70100 + 0x10 * n
/-- ACQ_TC_L1 (R508, 20). -/
def ACQ_TC_L1 (n : Nat) : Nat := 0x70104 + 0x10 * n
/-- ACQ_TC_L2 (R508, 20). -/
def ACQ_TC_L2 (n : Nat) : Nat := 0x70108 + 0x10 * n
/-- ACQ_TC_HYST (R508, 20). -/
def ACQ_TC_HYST (n : Nat) : Nat := 0x7010C + 0x10 * n
/-- ACQ_MASKp (R508, 20). -/
def ACQ_MASK (p : Nat) : Nat := 0x70200 + 0x4 * p
def ACQ_MASK_EN (p : Nat) : Fld := ⟨ACQ_MASK p, 0, 1⟩
def ACQ_MASK_ALIGN (p : Nat) : Fld := ⟨ACQ_MASK p, 1, 1⟩
def ACQ_MASK_BASE (p : Nat) : Fld := ⟨ACQ_MASK p, 2, 12⟩
def ACQ_MASK_LEN (p : Nat) : Fld := ⟨ACQ_MASK p, 14, 13⟩
/-- ACQ_PSELp (R508, 20). -/
def ACQ_PSEL (p : Nat) : Nat := 0x70400 + 0x4 * p
def ACQ_PSEL_SPACE (p : Nat) : Fld := ⟨ACQ_PSEL p, 0, 2⟩
def ACQ_PSEL_ADDR (p : Nat) : Fld := ⟨ACQ_PSEL p, 2, 22⟩
def ACQ_PSEL_WIDTH (p : Nat) : Fld := ⟨ACQ_PSEL p, 24, 2⟩
def ACQ_PSEL_SIGNED (p : Nat) : Fld := ⟨ACQ_PSEL p, 26, 1⟩
/-- FIO_STAT (R526, 21). -/
def FIO_STAT : Nat := 0xB0000
def FIO_STAT_FIELD_FAULT : Fld := ⟨FIO_STAT, 0, 1⟩
def FIO_STAT_FF_LATCH : Fld := ⟨FIO_STAT, 1, 1⟩
def FIO_STAT_VF_STATE : Fld := ⟨FIO_STAT, 2, 2⟩
def FIO_STAT_IN_VALID : Fld := ⟨FIO_STAT, 4, 1⟩
def FIO_STAT_OUT_HELD : Fld := ⟨FIO_STAT, 5, 1⟩
def FIO_STAT_FMODE : Fld := ⟨FIO_STAT, 6, 2⟩
def FIO_STAT_BARRIER : Fld := ⟨FIO_STAT, 8, 1⟩
def FIO_STAT_RESUME_REF : Fld := ⟨FIO_STAT, 9, 1⟩
def FIO_STAT_WR_REF : Fld := ⟨FIO_STAT, 10, 1⟩
/-- FIO_CTL (R526, 21). -/
def FIO_CTL : Nat := 0xB0004
def FIO_CTL_RESUME : Fld := ⟨FIO_CTL, 0, 1⟩
def FIO_CTL_TEST : Fld := ⟨FIO_CTL, 1, 1⟩
def FIO_CTL_KEY : Fld := ⟨FIO_CTL, 16, 16⟩
/-- FIO_VF (R526, 21). -/
def FIO_VF : Nat := 0xB0008
def FIO_VF_VF_MV : Fld := ⟨FIO_VF, 0, 16⟩
def FIO_VF_MIN_MV : Fld := ⟨FIO_VF, 16, 16⟩
/-- FIO_CAUSE (R526, 21). -/
def FIO_CAUSE : Nat := 0xB000C
def FIO_CAUSE_CAUSE : Fld := ⟨FIO_CAUSE, 0, 6⟩
/-- FIO_IN (R526, 21). -/
def FIO_IN (w : Nat) : Nat := 0xB0010 + 0x4 * w
/-- FIO_INRAW (R526, 21). -/
def FIO_INRAW (w : Nat) : Nat := 0xB0018 + 0x4 * w
/-- FIO_OUT (R526, 21). -/
def FIO_OUT : Nat := 0xB0020
/-- FIO_OUT_SET (R526, 21). -/
def FIO_OUT_SET : Nat := 0xB0024
/-- FIO_OUT_CLR (R526, 21). -/
def FIO_OUT_CLR : Nat := 0xB0028
/-- FIO_OUT_RB (R526, 21). -/
def FIO_OUT_RB : Nat := 0xB002C
/-- FIO_DIAG_HI (R526, 21). -/
def FIO_DIAG_HI : Nat := 0xB0030
/-- FIO_DIAG_LO (R526, 21). -/
def FIO_DIAG_LO : Nat := 0xB0034
/-- FIO_TPMIS (R526, 21). -/
def FIO_TPMIS (w : Nat) : Nat := 0xB0038 + 0x4 * w
/-- FIO_CNT_FF (R526, 21). -/
def FIO_CNT_FF : Nat := 0xB0040
/-- FIO_CNT_BAR (R526, 21). -/
def FIO_CNT_BAR : Nat := 0xB0044
/-- FIO_INCFGi (R526, 21). -/
def FIO_INCFG (i : Nat) : Nat := 0xB0100 + 0x4 * i
def FIO_INCFG_TYPE (i : Nat) : Fld := ⟨FIO_INCFG i, 0, 1⟩
def FIO_INCFG_DEB (i : Nat) : Fld := ⟨FIO_INCFG i, 1, 16⟩
def FIO_INCFG_TP (i : Nat) : Fld := ⟨FIO_INCFG i, 17, 3⟩
def FIO_INCFG_INV (i : Nat) : Fld := ⟨FIO_INCFG i, 20, 1⟩
/-- FIO_INSTATi (R526, 21). -/
def FIO_INSTAT (i : Nat) : Nat := 0xB0200 + 0x4 * i
def FIO_INSTAT_LEVEL (i : Nat) : Fld := ⟨FIO_INSTAT i, 0, 1⟩
def FIO_INSTAT_RAW (i : Nat) : Fld := ⟨FIO_INSTAT i, 1, 1⟩
def FIO_INSTAT_TPMIS (i : Nat) : Fld := ⟨FIO_INSTAT i, 2, 1⟩
def FIO_INSTAT_CHAT (i : Nat) : Fld := ⟨FIO_INSTAT i, 16, 16⟩
/-- FIO_OUTCFGo (R526, 21). -/
def FIO_OUTCFG (o : Nat) : Nat := 0xB0300 + 0x4 * o
def FIO_OUTCFG_OWNER (o : Nat) : Fld := ⟨FIO_OUTCFG o, 0, 2⟩
def FIO_OUTCFG_COMM (o : Nat) : Fld := ⟨FIO_OUTCFG o, 2, 1⟩
def FIO_OUTCFG_FAULT_STATE (o : Nat) : Fld := ⟨FIO_OUTCFG o, 3, 2⟩
def FIO_OUTCFG_INIT (o : Nat) : Fld := ⟨FIO_OUTCFG o, 5, 1⟩
def FIO_OUTCFG_BLANK (o : Nat) : Fld := ⟨FIO_OUTCFG o, 6, 8⟩
def FIO_OUTCFG_LEAD (o : Nat) : Fld := ⟨FIO_OUTCFG o, 14, 10⟩
/-- HQ_HC_BASE (R549, 22). -/
def HQ_HC_BASE (w : Nat) : Nat := 0x20400 + 0x4 * w
/-- HQ_CQ_BASE (R549, 22). -/
def HQ_CQ_BASE (w : Nat) : Nat := 0x20410 + 0x4 * w
/-- HQ_HC_CFG (R549, 22). -/
def HQ_HC_CFG : Nat := 0x20408
def HQ_HC_CFG_LOG2 : Fld := ⟨HQ_HC_CFG, 0, 4⟩
def HQ_HC_CFG_EN : Fld := ⟨HQ_HC_CFG, 4, 1⟩
/-- HQ_CQ_CFG (R549, 22). -/
def HQ_CQ_CFG : Nat := 0x20418
def HQ_CQ_CFG_LOG2 : Fld := ⟨HQ_CQ_CFG, 0, 4⟩
def HQ_CQ_CFG_EN : Fld := ⟨HQ_CQ_CFG, 4, 1⟩
/-- HQ_HC_TAIL (R549, 22). -/
def HQ_HC_TAIL : Nat := 0x2040C
def HQ_HC_TAIL_INDEX : Fld := ⟨HQ_HC_TAIL, 0, 12⟩
/-- HQ_HC_HEAD (R549, 22). -/
def HQ_HC_HEAD : Nat := 0x20420
def HQ_HC_HEAD_INDEX : Fld := ⟨HQ_HC_HEAD, 0, 12⟩
/-- HQ_CQ_TAIL (R549, 22). -/
def HQ_CQ_TAIL : Nat := 0x2041C
def HQ_CQ_TAIL_INDEX : Fld := ⟨HQ_CQ_TAIL, 0, 12⟩
/-- HQ_CQ_HEAD (R549, 22). -/
def HQ_CQ_HEAD : Nat := 0x20424
def HQ_CQ_HEAD_INDEX : Fld := ⟨HQ_CQ_HEAD, 0, 12⟩
/-- CFG_SEC_STAT (R549, 22). -/
def CFG_SEC_STAT : Nat := 0x300100
def CFG_SEC_STAT_BUSY : Fld := ⟨CFG_SEC_STAT, 0, 1⟩
def CFG_SEC_STAT_DONE : Fld := ⟨CFG_SEC_STAT, 1, 1⟩
def CFG_SEC_STAT_CODE : Fld := ⟨CFG_SEC_STAT, 8, 8⟩
def CFG_SEC_STAT_SVN_ROWS : Fld := ⟨CFG_SEC_STAT, 16, 9⟩
def CFG_SEC_STAT_ID_KEYS : Fld := ⟨CFG_SEC_STAT, 25, 1⟩
/-- CFG_SEC_NONCE (R549, 22). -/
def CFG_SEC_NONCE (w : Nat) : Nat := 0x300108 + 0x4 * w
/-- CFG_SEC_SVN (R549, 22). -/
def CFG_SEC_SVN (w : Nat) : Nat := 0x300110 + 0x4 * w
/-- CFG_SEC_SERIAL (R549, 22). -/
def CFG_SEC_SERIAL (w : Nat) : Nat := 0x300118 + 0x4 * w
/-- CFG_SEC_KEYk (R549, 22). -/
def CFG_SEC_KEY (k w : Nat) : Nat := 0x300140 + 0x8 * k + 0x4 * w
/-- DBG_STAT (R549, 22). -/
def DBG_STAT : Nat := 0xF0000
def DBG_STAT_LOCKED : Fld := ⟨DBG_STAT, 0, 1⟩
def DBG_STAT_TOKEN : Fld := ⟨DBG_STAT, 1, 1⟩
def DBG_STAT_TOKEN_REF : Fld := ⟨DBG_STAT, 2, 1⟩
def DBG_STAT_HALT_REF : Fld := ⟨DBG_STAT, 3, 1⟩
def DBG_STAT_MEM_REF : Fld := ⟨DBG_STAT, 4, 1⟩
def DBG_STAT_MEM_DONE : Fld := ⟨DBG_STAT, 5, 1⟩
def DBG_STAT_BP_HIT : Fld := ⟨DBG_STAT, 6, 1⟩
def DBG_STAT_WHEEL : Fld := ⟨DBG_STAT, 7, 1⟩
def DBG_STAT_CORES : Fld := ⟨DBG_STAT, 8, 8⟩
def DBG_STAT_CLUSTERS : Fld := ⟨DBG_STAT, 16, 12⟩
/-- DBG_CTL (R549, 22). -/
def DBG_CTL : Nat := 0xF0004
def DBG_CTL_HALT : Fld := ⟨DBG_CTL, 0, 1⟩
def DBG_CTL_RESUME : Fld := ⟨DBG_CTL, 1, 1⟩
def DBG_CTL_STEP : Fld := ⟨DBG_CTL, 2, 1⟩
def DBG_CTL_RELOCK : Fld := ⟨DBG_CTL, 3, 1⟩
def DBG_CTL_MEM_RD : Fld := ⟨DBG_CTL, 4, 1⟩
def DBG_CTL_MEM_WR : Fld := ⟨DBG_CTL, 5, 1⟩
def DBG_CTL_KEY : Fld := ⟨DBG_CTL, 16, 16⟩
/-- DBG_TGT (R549, 22). -/
def DBG_TGT : Nat := 0xF0008
/-- DBG_MDATA (R549, 22). -/
def DBG_MDATA : Nat := 0xF0014
/-- DBG_ID (R549, 22). -/
def DBG_ID : Nat := 0xF0018
/-- DBG_CHAL (R549, 22). -/
def DBG_CHAL (w : Nat) : Nat := 0xF0020 + 0x4 * w
/-- DBG_MADDR (R549, 22). -/
def DBG_MADDR (w : Nat) : Nat := 0xF000C + 0x4 * w
/-- DBG_BP (R549, 22). -/
def DBG_BP (n w : Nat) : Nat := 0xF0100 + 0x8 * n + 0x4 * w
/-- DBG_SNAP (R549, 22). -/
def DBG_SNAP (w : Nat) : Nat := 0xF0400 + 0x4 * w
/-- SYS_LOAMWIN (R557, 23). -/
def SYS_LOAMWIN : Nat := 0x2C
def SYS_LOAMWIN_BUF : Fld := ⟨SYS_LOAMWIN, 0, 1⟩

/-- One register of the access table: address of its first instance, stride and count of each dimension of its instances
(widest stride first), and its bits by access code (R12); a bit of none is reserved (R13). -/
structure RegRow where
  base : Nat
  dims : List (Nat × Nat)
  rw : Nat
  w1c : Nat
  w1s : Nat
  wo : Nat
  rc : Nat
  ro : Nat
deriving DecidableEq, Repr

/-- Access codes of the registers of 02_kaolin_image.md. -/
def accessRows02 : List RegRow := [
  ⟨0x300000, [], 0x0, 0x1C0, 0x0, 0x0, 0x0, 0xFF03F⟩,
  ⟨0x300004, [], 0x0, 0x0, 0x0, 0x1F, 0x0, 0x0⟩,
  ⟨0x300008, [], 0x707, 0x0, 0x0, 0x0, 0x0, 0x0⟩,
  ⟨0x30000C, [], 0x0, 0x0, 0x0, 0x0, 0x0, 0x3FFFFFF⟩,
  ⟨0x300010, [], 0xFFFFFFFF, 0x0, 0x0, 0x0, 0x0, 0x0⟩,
  ⟨0x300014, [], 0xFFFFFFFF, 0x0, 0x0, 0x0, 0x0, 0x0⟩,
  ⟨0x300018, [], 0x3FF, 0x0, 0x0, 0x0, 0x0, 0x0⟩,
  ⟨0x30001C, [], 0x0, 0x0, 0x0, 0x0, 0x0, 0xFFFFFFFF⟩,
  ⟨0x300028, [], 0x0, 0x0, 0x0, 0x0, 0x0, 0xFFFFFFFF⟩,
  ⟨0x300020, [], 0x0, 0x0, 0x0, 0x0, 0x0, 0xFFFFFFFF⟩,
  ⟨0x300024, [], 0x0, 0x0, 0x0, 0x0, 0x0, 0xFFFFFFFF⟩,
  ⟨0x300040, [(0x4, 12)], 0x0, 0x0, 0x0, 0x0, 0x0, 0xFFFFFFFF⟩,
  ⟨0x300080, [(0x4, 12)], 0x0, 0x0, 0x0, 0x0, 0x0, 0xFFFFFFFF⟩,
  ⟨0x3000C0, [(0x4, 2)], 0x0, 0x0, 0x0, 0x0, 0x0, 0xFFFFFFFF⟩]

/-- Access codes of the registers of 03_modes_startup_supply.md. -/
def accessRows03 : List RegRow := [
  ⟨0x0, [], 0x0, 0x0, 0x0, 0x0, 0x0, 0xFFFFFF⟩,
  ⟨0x10, [], 0x0, 0x4000000, 0x0, 0x0, 0x0, 0x3FF07FF⟩,
  ⟨0x14, [], 0x0, 0x0, 0x0, 0xFFFF000F, 0x0, 0x0⟩,
  ⟨0x18, [], 0x0, 0x0, 0x0, 0x0, 0x0, 0x7⟩,
  ⟨0x1C, [], 0x0, 0xFF, 0x0, 0x0, 0x0, 0x0⟩,
  ⟨0x20, [], 0xFFFF007F, 0x0, 0x0, 0x0, 0x0, 0x0⟩,
  ⟨0x24, [], 0x0, 0x0, 0x0, 0xFFFF0007, 0x0, 0x0⟩,
  ⟨0x28, [], 0x0, 0x0, 0x0, 0x0, 0x0, 0xFF1F⟩,
  ⟨0x10000, [], 0x0, 0x0, 0x0, 0x0, 0x0, 0xFFFF⟩,
  ⟨0x10004, [], 0x0, 0xE, 0x0, 0x0, 0x0, 0x1⟩,
  ⟨0x10008, [], 0x0, 0x0, 0x0, 0x0, 0x0, 0xFFFFFFFF⟩]

/-- Access codes of the registers of 04_master_angle_wheel.md. -/
def accessRows04 : List RegRow := [
  ⟨0x40000, [], 0x0, 0x1F0, 0x0, 0x0, 0x0, 0xF⟩,
  ⟨0x40004, [], 0x80, 0x0, 0x0, 0x100, 0x0, 0x7F⟩,
  ⟨0x40008, [], 0x0, 0x0, 0x0, 0x0, 0x0, 0xFFFFFFFF⟩,
  ⟨0x4000C, [], 0x0, 0x0, 0x0, 0x0, 0x0, 0xFFFFFFFF⟩,
  ⟨0x40010, [(0x4, 2)], 0x0, 0x0, 0x0, 0x0, 0x0, 0xFFFFFFFF⟩,
  ⟨0x40018, [(0x4, 2)], 0xFFFFFFFF, 0x0, 0x0, 0x0, 0x0, 0x0⟩,
  ⟨0x40038, [(0x4, 2)], 0x0, 0x0, 0x0, 0x0, 0x0, 0xFFFFFFFF⟩,
  ⟨0x40020, [], 0xFFFFFFFF, 0x0, 0x0, 0x0, 0x0, 0x0⟩,
  ⟨0x40024, [], 0xFFFFFFFF, 0x0, 0x0, 0x0, 0x0, 0x0⟩,
  ⟨0x40028, [], 0xFFFF, 0x0, 0x0, 0x0, 0x0, 0x0⟩,
  ⟨0x4002C, [], 0xFFFFFF, 0x0, 0x0, 0x0, 0x0, 0x0⟩,
  ⟨0x40030, [(0x4, 2)], 0x0, 0x0, 0x0, 0x0, 0x0, 0xFFFFFFFF⟩,
  ⟨0x40040, [], 0x0, 0x0, 0x0, 0x0, 0x0, 0xFFFF001F⟩,
  ⟨0x40044, [], 0x0, 0x0, 0x0, 0x0, 0x0, 0xFFFFFF⟩,
  ⟨0x40048, [], 0x0, 0x0, 0x0, 0x0, 0x0, 0xFFFFFF⟩,
  ⟨0x4004C, [], 0x0, 0x0, 0x0, 0x0, 0xFFFFFFFF, 0x0⟩,
  ⟨0x40050, [], 0x0, 0x0, 0x0, 0x0, 0xFFFFFFFF, 0x0⟩,
  ⟨0x40054, [], 0x0, 0x0, 0x0, 0x0, 0xFFFFFFFF, 0x0⟩,
  ⟨0x40100, [(0x4, 16)], 0x0, 0x0, 0x0, 0xFFFFFFFF, 0x0, 0x0⟩,
  ⟨0x40140, [], 0x0, 0x0, 0x0, 0xFFFFFF03, 0x0, 0x0⟩,
  ⟨0x40144, [], 0x0, 0x0, 0x0, 0x0, 0x0, 0xFFFFFFFF⟩,
  ⟨0x40200, [(0x4, 16)], 0x0, 0x0, 0x0, 0x0, 0x0, 0x3FF⟩,
  ⟨0x40240, [(0x4, 16)], 0xFFFFF, 0x0, 0x0, 0x0, 0x0, 0x0⟩,
  ⟨0x40280, [], 0x0, 0x0, 0x0, 0x0, 0x0, 0xFFFF⟩,
  ⟨0x40300, [(0x20, 8)], 0xFF07, 0x0, 0x0, 0x0, 0x0, 0x0⟩,
  ⟨0x40304, [(0x20, 8)], 0x0, 0x20, 0x0, 0x0, 0x0, 0x5F⟩,
  ⟨0x40308, [(0x20, 8)], 0x0, 0x0, 0x0, 0x0, 0xFFFFFFFF, 0x0⟩,
  ⟨0x4030C, [(0x20, 8)], 0x0, 0x0, 0x0, 0x0, 0x0, 0xFFFFFFFF⟩,
  ⟨0x40310, [(0x20, 8)], 0x0, 0x0, 0x0, 0x0, 0x0, 0xFFFFFFFF⟩,
  ⟨0x40314, [(0x20, 8)], 0x0, 0x0, 0x0, 0x0, 0x0, 0xFFFFFFFF⟩,
  ⟨0x40318, [(0x20, 8), (0x4, 2)], 0x0, 0x0, 0x0, 0x0, 0x0, 0xFFFFFFFF⟩]

/-- Access codes of the registers of 05_queues_dispatch.md. -/
def accessRows05 : List RegRow := [
  ⟨0x20000, [], 0x0, 0x0, 0x0, 0x0, 0x0, 0x1FFFF⟩,
  ⟨0x20004, [], 0x0, 0x0, 0x0, 0x0, 0x0, 0x1FFFF⟩,
  ⟨0x20100, [(0x10, 16)], 0x0, 0x0, 0x0, 0x0, 0x0, 0xFFFFFFFF⟩,
  ⟨0x20104, [(0x10, 16)], 0x0, 0x0, 0x0, 0x0, 0x0, 0xFFFFFFFF⟩,
  ⟨0x20108, [(0x10, 16)], 0x0, 0x0, 0x0, 0x0, 0xFFFFFFFF, 0x0⟩,
  ⟨0x2010C, [(0x10, 16)], 0x0, 0x0, 0x0, 0x0, 0xFFFF, 0x0⟩,
  ⟨0x30000, [], 0x0, 0x10000, 0x0, 0x0, 0x0, 0x2FFFF⟩,
  ⟨0x30004, [], 0xFF, 0x0, 0x0, 0x0, 0x0, 0x0⟩,
  ⟨0x30020, [(0x4, 8)], 0x0, 0x0, 0x0, 0x0, 0x0, 0xFFFFFF⟩,
  ⟨0x30040, [(0x4, 8)], 0x0, 0x0, 0x0, 0x0, 0x0, 0xFFFFFFFF⟩,
  ⟨0x30060, [], 0x0, 0x0, 0x0, 0x0, 0xFFFFFFFF, 0x0⟩]

/-- Access codes of the registers of 06_feedback.md. -/
def accessRows06 : List RegRow := [
  ⟨0x100800, [(0x10000, 4), (0x40, 8)], 0x0, 0x0, 0x0, 0x0, 0x0, 0xFFFFF⟩,
  ⟨0x100804, [(0x10000, 4), (0x40, 8)], 0x0, 0x0, 0x0, 0x0, 0x0, 0xFFFFFFF⟩,
  ⟨0x100808, [(0x10000, 4), (0x40, 8)], 0x0, 0x0, 0x0, 0x0, 0x0, 0xFFFFFFFF⟩,
  ⟨0x10080C, [(0x10000, 4), (0x40, 8)], 0x0, 0x0, 0x0, 0x0, 0x0, 0xFFFFFFFF⟩,
  ⟨0x100810, [(0x10000, 4), (0x40, 8)], 0x0, 0x0, 0x0, 0x0, 0x0, 0xFFFFFFFF⟩,
  ⟨0x100814, [(0x10000, 4), (0x40, 8)], 0x0, 0x0, 0x0, 0x1, 0x0, 0x0⟩,
  ⟨0x100818, [(0x10000, 4), (0x40, 8)], 0x0, 0x0, 0x0, 0x0, 0x0, 0xFFFFFFFF⟩,
  ⟨0x10081C, [(0x10000, 4), (0x40, 8)], 0x0, 0x7C, 0x0, 0x0, 0x0, 0xF83⟩,
  ⟨0x100820, [(0x10000, 4), (0x40, 8)], 0x0, 0x0, 0x0, 0x0, 0x0, 0xFFFFFFFF⟩,
  ⟨0x100824, [(0x10000, 4), (0x40, 8)], 0x0, 0x0, 0x0, 0x0, 0x0, 0xFFFFFFFF⟩,
  ⟨0x100828, [(0x10000, 4), (0x40, 8)], 0x0, 0x0, 0x0, 0x0, 0xFFFFFFFF, 0x0⟩,
  ⟨0x10082C, [(0x10000, 4), (0x40, 8)], 0x0, 0x0, 0x0, 0x0, 0xFFFFFFFF, 0x0⟩,
  ⟨0x101100, [(0x10000, 12), (0x1000, 8)], 0x0, 0x0, 0x0, 0x0, 0x0, 0xFFFFFFF⟩,
  ⟨0x101104, [(0x10000, 12), (0x1000, 8)], 0x0, 0x0, 0x0, 0x0, 0x0, 0xFFFFFFFF⟩,
  ⟨0x101108, [(0x10000, 12), (0x1000, 8), (0x4, 2)], 0x0, 0x0, 0x0, 0x0, 0x0, 0xFFFFFFFF⟩,
  ⟨0x101110, [(0x10000, 12), (0x1000, 8)], 0x0, 0x1E0, 0x0, 0x0, 0x0, 0xFFF01F⟩,
  ⟨0x101114, [(0x10000, 12), (0x1000, 8)], 0x0, 0x0, 0x0, 0x0, 0x0, 0x3FFFFFFF⟩,
  ⟨0x101118, [(0x10000, 12), (0x1000, 8)], 0x0, 0x0, 0x0, 0x0, 0x0, 0xFFFFFFFF⟩,
  ⟨0x10111C, [(0x10000, 12), (0x1000, 8)], 0x0, 0x0, 0x0, 0x0, 0x0, 0xFFFF⟩,
  ⟨0x101120, [(0x10000, 12), (0x1000, 8)], 0x0, 0x0, 0x0, 0x0, 0x0, 0xFFFFFF⟩]

/-- Access codes of the registers of 07_profile_planner.md. -/
def accessRows07 : List RegRow := [
  ⟨0x101000, [(0x10000, 12), (0x1000, 8)], 0x0, 0x0, 0x0, 0x7, 0x0, 0x0⟩,
  ⟨0x101004, [(0x10000, 12), (0x1000, 8)], 0x0, 0x107C8, 0x0, 0x0, 0x0, 0xF837⟩,
  ⟨0x101008, [(0x10000, 12), (0x1000, 8), (0x4, 2)], 0x0, 0x0, 0x0, 0x0, 0x0, 0xFFFFFFFF⟩,
  ⟨0x101010, [(0x10000, 12), (0x1000, 8), (0x4, 2)], 0x0, 0x0, 0x0, 0x0, 0x0, 0xFFFFFFFF⟩,
  ⟨0x101018, [(0x10000, 12), (0x1000, 8)], 0x0, 0x0, 0x0, 0x0, 0x0, 0xFFFFFFFF⟩,
  ⟨0x10101C, [(0x10000, 12), (0x1000, 8)], 0x0, 0x0, 0x0, 0x0, 0x0, 0xFFFFFFFF⟩,
  ⟨0x101020, [(0x10000, 12), (0x1000, 8), (0x4, 2)], 0xFFFFFFFF, 0x0, 0x0, 0x0, 0x0, 0x0⟩,
  ⟨0x101028, [(0x10000, 12), (0x1000, 8)], 0xFFFFFFFF, 0x0, 0x0, 0x0, 0x0, 0x0⟩,
  ⟨0x10102C, [(0x10000, 12), (0x1000, 8)], 0xFFFFFFFF, 0x0, 0x0, 0x0, 0x0, 0x0⟩,
  ⟨0x101030, [(0x10000, 12), (0x1000, 8)], 0xFFFFFFFF, 0x0, 0x0, 0x0, 0x0, 0x0⟩,
  ⟨0x101034, [(0x10000, 12), (0x1000, 8)], 0x0, 0x0, 0x0, 0x0, 0x0, 0xFFFFFFFF⟩,
  ⟨0x101038, [(0x10000, 12), (0x1000, 8)], 0x0, 0x0, 0x0, 0x0, 0x0, 0xFFFFFFFF⟩,
  ⟨0x10103C, [(0x10000, 12), (0x1000, 8)], 0x0, 0x0, 0x0, 0x0, 0xFFFFFFFF, 0x0⟩,
  ⟨0x101040, [(0x10000, 12), (0x1000, 8)], 0x0, 0x0, 0x0, 0x0, 0x0, 0x7FFFF⟩,
  ⟨0x101044, [(0x10000, 12), (0x1000, 8), (0x4, 2)], 0xFFFFFFFF, 0x0, 0x0, 0x0, 0x0, 0x0⟩,
  ⟨0x10104C, [(0x10000, 12), (0x1000, 8), (0x4, 2)], 0xFFFFFFFF, 0x0, 0x0, 0x0, 0x0, 0x0⟩,
  ⟨0x101054, [(0x10000, 12), (0x1000, 8)], 0x0, 0x0, 0x0, 0x0, 0x0, 0xFFFFFFFF⟩,
  ⟨0x101058, [(0x10000, 12), (0x1000, 8)], 0x0, 0x0, 0x0, 0x0, 0x0, 0xFFFFFFFF⟩,
  ⟨0x10105C, [(0x10000, 12), (0x1000, 8)], 0x0, 0x0, 0x0, 0x0, 0x0, 0xFFFFFFFF⟩,
  ⟨0x101060, [(0x10000, 12), (0x1000, 8)], 0x0, 0x0, 0x0, 0x0, 0x0, 0xFFFFFFFF⟩,
  ⟨0x100A00, [(0x10000, 12)], 0x1FFFF, 0x0, 0x0, 0x0, 0x0, 0x0⟩,
  ⟨0x100A04, [(0x10000, 12)], 0x0, 0x0, 0x0, 0x0, 0x0, 0x3FFFF⟩,
  ⟨0x100A08, [(0x10000, 12)], 0x0, 0x0, 0x0, 0x0, 0x0, 0xFFFFFFFF⟩,
  ⟨0x140800, [(0x10, 4)], 0x0, 0x0, 0x0, 0x0, 0x0, 0xFF⟩,
  ⟨0x140804, [(0x10, 4)], 0x0, 0x0, 0x0, 0x0, 0x0, 0xFFFF⟩,
  ⟨0x140808, [(0x10, 4)], 0x0, 0x1, 0x0, 0x0, 0x0, 0x2⟩]

/-- Access codes of the registers of 08_step_generation_current.md. -/
def accessRows08 : List RegRow := [
  ⟨0x100C00, [(0x10000, 4), (0x40, 8)], 0x0, 0x0, 0x0, 0x0, 0x0, 0x3FFFF⟩,
  ⟨0x100C04, [(0x10000, 4), (0x40, 8)], 0x0, 0x0, 0x0, 0x0, 0x0, 0x1FFFFF⟩,
  ⟨0x100C08, [(0x10000, 4), (0x40, 8)], 0x0, 0x0, 0x0, 0x0, 0x0, 0xFFFFFFFF⟩,
  ⟨0x100C0C, [(0x10000, 4), (0x40, 8)], 0x0, 0x0, 0x0, 0x0, 0x0, 0xFFFFFFFF⟩,
  ⟨0x100C10, [(0x10000, 4), (0x40, 8)], 0x0, 0x0, 0x0, 0x0, 0x0, 0xFFFFFFFF⟩,
  ⟨0x100C14, [(0x10000, 4), (0x40, 8)], 0x0, 0x0, 0x0, 0x0, 0x0, 0xFFFFFFFF⟩,
  ⟨0x100C18, [(0x10000, 4), (0x40, 8)], 0x0, 0x0, 0x0, 0x0, 0x0, 0xFFFFFFFF⟩,
  ⟨0x100C1C, [(0x10000, 4), (0x40, 8)], 0x0, 0x0, 0x0, 0x0, 0x0, 0xFFFFFFFF⟩,
  ⟨0x100C20, [(0x10000, 4), (0x40, 8)], 0x0, 0x0, 0x0, 0x0, 0x0, 0xFFFFFFFF⟩,
  ⟨0x100C24, [(0x10000, 4), (0x40, 8)], 0x0, 0x0, 0x0, 0x0, 0x0, 0xFFFFFFFF⟩,
  ⟨0x100C28, [(0x10000, 4), (0x40, 8)], 0x0, 0x7C, 0x0, 0x0, 0x0, 0x183⟩,
  ⟨0x100C2C, [(0x10000, 4), (0x40, 8)], 0x0, 0x0, 0x0, 0x1, 0x0, 0x0⟩,
  ⟨0x100E00, [(0x10000, 4)], 0x0, 0x0, 0x0, 0x0, 0x0, 0x1F7FFF⟩,
  ⟨0x101200, [(0x10000, 12), (0x1000, 8)], 0x0, 0x0, 0x0, 0x0, 0x0, 0xFFFFFFFF⟩,
  ⟨0x101204, [(0x10000, 12), (0x1000, 8)], 0x0, 0x0, 0x0, 0x0, 0x0, 0xFFFFF⟩,
  ⟨0x101208, [(0x10000, 12), (0x1000, 8)], 0x0, 0x0, 0x0, 0x0, 0x0, 0xFFFFFFFF⟩,
  ⟨0x10120C, [(0x10000, 12), (0x1000, 8)], 0x0, 0x0, 0x0, 0xFFFFFFFF, 0x0, 0x0⟩,
  ⟨0x101210, [(0x10000, 12), (0x1000, 8)], 0x0, 0x0, 0x0, 0x0, 0x0, 0xFF⟩,
  ⟨0x101214, [(0x10000, 12), (0x1000, 8)], 0x0, 0x240, 0x0, 0x0, 0x0, 0xFF01BF⟩,
  ⟨0x101218, [(0x10000, 12), (0x1000, 8)], 0x0, 0x0, 0x0, 0x0, 0x0, 0xFFFFFFFF⟩,
  ⟨0x10121C, [(0x10000, 12), (0x1000, 8)], 0x0, 0x0, 0x0, 0x0, 0x0, 0xFFFFFFFF⟩,
  ⟨0x101220, [(0x10000, 12), (0x1000, 8)], 0x0, 0x0, 0x0, 0x0, 0x0, 0xFFFFFFFF⟩,
  ⟨0x101224, [(0x10000, 12), (0x1000, 8)], 0x0, 0x0, 0x0, 0x0, 0x0, 0xFFFFFFFF⟩,
  ⟨0x101228, [(0x10000, 12), (0x1000, 8)], 0x0, 0x0, 0x0, 0x0, 0x0, 0xFFFFFFFF⟩,
  ⟨0x10122C, [(0x10000, 12), (0x1000, 8)], 0x0, 0x0, 0x0, 0x0, 0x0, 0xFFFFFFFF⟩,
  ⟨0x101230, [(0x10000, 12), (0x1000, 8)], 0x0, 0x0, 0x0, 0x0, 0x0, 0x3FFFFFF⟩]

/-- Access codes of the registers of 09_control_engine.md. -/
def accessRows09 : List RegRow := [
  ⟨0x100000, [(0x10000, 12)], 0x0, 0x1F0, 0x0, 0x0, 0x0, 0xF⟩,
  ⟨0x100004, [(0x10000, 12)], 0x0, 0x0, 0x0, 0x0, 0x0, 0xFFF3FFF⟩,
  ⟨0x100008, [(0x10000, 12)], 0x0, 0x0, 0x0, 0x0, 0x0, 0xFFF3FFF⟩,
  ⟨0x10000C, [(0x10000, 12)], 0x0, 0x0, 0x0, 0x0, 0xFFF3FFF, 0x0⟩,
  ⟨0x100010, [(0x10000, 12)], 0x0, 0x0, 0x0, 0x0, 0xFFFFFFFF, 0x0⟩,
  ⟨0x100014, [(0x10000, 12)], 0x0, 0x0, 0x0, 0x0, 0xFFFFFFFF, 0x0⟩,
  ⟨0x100018, [(0x10000, 12)], 0x0, 0x0, 0x0, 0x0, 0x0, 0xFFF⟩,
  ⟨0x101300, [(0x10000, 12), (0x1000, 8)], 0x0, 0x0, 0x0, 0x0, 0x0, 0xFFFFFFFF⟩,
  ⟨0x101304, [(0x10000, 12), (0x1000, 8)], 0x0, 0xC0, 0x0, 0x0, 0x0, 0x3F⟩,
  ⟨0x101308, [(0x10000, 12), (0x1000, 8)], 0x0, 0x0, 0x0, 0x0, 0x0, 0xFFFF⟩,
  ⟨0x10130C, [(0x10000, 12), (0x1000, 8)], 0x0, 0x0, 0x0, 0x0, 0x0, 0xFFFF⟩,
  ⟨0x101310, [(0x10000, 12), (0x1000, 8)], 0x0, 0x0, 0x0, 0x0, 0x0, 0x3FFFFFFF⟩,
  ⟨0x101314, [(0x10000, 12), (0x1000, 8)], 0x0, 0x0, 0x0, 0x0, 0x0, 0xFFFFFFFF⟩,
  ⟨0x101318, [(0x10000, 12), (0x1000, 8)], 0x0, 0x0, 0x0, 0x0, 0x0, 0xFFFFFFFF⟩,
  ⟨0x10131C, [(0x10000, 12), (0x1000, 8)], 0x0, 0x0, 0x0, 0x0, 0x0, 0xFFFFFFFF⟩]

/-- Access codes of the registers of 10_predictive_solver.md. -/
def accessRows10 : List RegRow := [
  ⟨0x200000, [(0x4000, 4)], 0x0, 0x380, 0x0, 0x0, 0x0, 0x7F⟩,
  ⟨0x200004, [(0x4000, 4)], 0x0, 0x0, 0x0, 0x0, 0x0, 0x7FF0F⟩,
  ⟨0x200008, [(0x4000, 4)], 0x0, 0x0, 0x0, 0x0, 0xFFFFFFFF, 0x0⟩,
  ⟨0x200100, [(0x4000, 4), (0x40, 12)], 0x0, 0x0, 0x0, 0x0, 0x0, 0x3FFFFFFF⟩,
  ⟨0x200104, [(0x4000, 4), (0x40, 12)], 0x0, 0x0, 0x0, 0x0, 0x0, 0xFFFFF⟩,
  ⟨0x200108, [(0x4000, 4), (0x40, 12)], 0x0, 0x0, 0x0, 0x0, 0x0, 0x3FFFF⟩,
  ⟨0x20010C, [(0x4000, 4), (0x40, 12)], 0x0, 0x40000, 0x0, 0x0, 0x0, 0x3FF7F⟩,
  ⟨0x200110, [(0x4000, 4), (0x40, 12)], 0x0, 0x0, 0x0, 0x0, 0x0, 0xFFFFFFFF⟩,
  ⟨0x200114, [(0x4000, 4), (0x40, 12)], 0x0, 0x0, 0x0, 0x0, 0x0, 0xFFFFFFFF⟩,
  ⟨0x200118, [(0x4000, 4), (0x40, 12)], 0x0, 0x0, 0x0, 0x0, 0x0, 0xFFFFF⟩,
  ⟨0x20011C, [(0x4000, 4), (0x40, 12)], 0x0, 0x0, 0x0, 0x0, 0xFFFFFFFF, 0x0⟩,
  ⟨0x200120, [(0x4000, 4), (0x40, 12)], 0x0, 0x0, 0x0, 0x0, 0xFFFFFFFF, 0x0⟩,
  ⟨0x200124, [(0x4000, 4), (0x40, 12)], 0x0, 0x0, 0x0, 0x0, 0xFFFFFFFF, 0x0⟩,
  ⟨0x200128, [(0x4000, 4), (0x40, 12)], 0x0, 0x0, 0x0, 0x0, 0xFFFFFFFF, 0x0⟩,
  ⟨0x20012C, [(0x4000, 4), (0x40, 12)], 0x0, 0x0, 0x0, 0x0, 0xFFFFFFFF, 0x0⟩]

/-- Access codes of the registers of 11_separation_monitoring.md. -/
def accessRows11 : List RegRow := [
  ⟨0xC0800, [], 0x0, 0x0, 0x0, 0x0, 0x0, 0xFFFF007F⟩,
  ⟨0xC0804, [], 0x0, 0x0, 0x0, 0x0, 0x0, 0xFFF0FFF⟩,
  ⟨0xC0808, [], 0x0, 0x0, 0x0, 0x0, 0x0, 0xFFFF⟩,
  ⟨0xC080C, [], 0x0, 0x0, 0x0, 0x0, 0x0, 0xFFFFF⟩,
  ⟨0xC0810, [], 0x0, 0x0, 0x0, 0x0, 0xFFFFFFFF, 0x0⟩,
  ⟨0xC0814, [], 0x0, 0x0, 0x0, 0x0, 0xFFFFFFFF, 0x0⟩,
  ⟨0xC0818, [], 0x0, 0x0, 0x0, 0x0, 0xFFFFFFFF, 0x0⟩,
  ⟨0xC0900, [(0x10, 12)], 0x0, 0x0, 0x0, 0x0, 0x0, 0x3FFFFFF⟩,
  ⟨0xC0904, [(0x10, 12)], 0x0, 0x0, 0x0, 0x0, 0x0, 0x3FFFFFF⟩,
  ⟨0xC0908, [(0x10, 12)], 0x0, 0x0, 0x0, 0x0, 0x0, 0xFFFFFFFF⟩,
  ⟨0xC090C, [(0x10, 12)], 0x0, 0x0, 0x0, 0x0, 0x0, 0xFFFFFFFF⟩,
  ⟨0xC0A00, [(0x8, 32)], 0x0, 0x0, 0x0, 0x0, 0x0, 0x3FFFFFFF⟩,
  ⟨0xC0A04, [(0x8, 32)], 0x0, 0x0, 0x0, 0x0, 0x0, 0x3FFFFFFF⟩,
  ⟨0x100A0C, [(0x10000, 12)], 0x0, 0x0, 0x0, 0x0, 0x0, 0x7FFFF⟩,
  ⟨0x100A10, [(0x10000, 12)], 0x0, 0x0, 0x0, 0x0, 0x0, 0xFFFF⟩]

/-- Access codes of the registers of 12_safe_torque_off_inputs.md. -/
def accessRows12 : List RegRow := [
  ⟨0xC0000, [], 0x0, 0x0, 0x0, 0x0, 0x0, 0xFF⟩,
  ⟨0xC0004, [], 0x0, 0x0, 0x0, 0x0, 0x0, 0xFFFFF⟩,
  ⟨0xC0008, [], 0x0, 0x0, 0x0, 0xFFFF000F, 0x0, 0x0⟩,
  ⟨0xC0010, [(0x4, 4)], 0x0, 0x80, 0x0, 0x0, 0x0, 0xFFFFFF7F⟩,
  ⟨0xC0020, [], 0x0, 0x0, 0x0, 0x0, 0x0, 0xFFFFFFFF⟩,
  ⟨0xC0024, [], 0x0, 0x0, 0x0, 0x0, 0x0, 0xFFFFFFFF⟩,
  ⟨0xC0028, [], 0x0, 0x0, 0x0, 0x0, 0x0, 0x3FFF⟩,
  ⟨0xC0030, [(0x4, 4)], 0x0, 0x0, 0x0, 0x0, 0x0, 0x3⟩,
  ⟨0xC0040, [(0x4, 8)], 0x0, 0x0, 0x0, 0x0, 0x0, 0xFFFFFFFF⟩,
  ⟨0xC0060, [], 0x0, 0x0, 0x0, 0x0, 0xFFFFFFFF, 0x0⟩,
  ⟨0xC0064, [], 0x0, 0x0, 0x0, 0x0, 0xFFFFFFFF, 0x0⟩,
  ⟨0xC0068, [], 0x0, 0x0, 0x0, 0x0, 0xFFFFFFFF, 0x0⟩]

/-- Access codes of the registers of 13_access_doors.md. -/
def accessRows13 : List RegRow := [
  ⟨0xD0000, [], 0x0, 0x0, 0x0, 0x0, 0x0, 0xFFFFFFFF⟩,
  ⟨0xD0100, [(0x40, 8)], 0x0, 0x0, 0x0, 0x0, 0x0, 0x1FFFFFFF⟩,
  ⟨0xD0104, [(0x40, 8)], 0x0, 0x0, 0x0, 0x0, 0x0, 0xFFFF7FFF⟩,
  ⟨0xD0108, [(0x40, 8)], 0x0, 0x0, 0x0, 0x0, 0x0, 0xFFFFFFFF⟩,
  ⟨0xD010C, [(0x40, 8)], 0x0, 0x0, 0x0, 0x0, 0x0, 0xFFFFFFFF⟩,
  ⟨0xD0110, [(0x40, 8)], 0x0, 0x0, 0x0, 0x0, 0x0, 0xFFFFFFFF⟩,
  ⟨0xD0114, [(0x40, 8)], 0x0, 0x0, 0x0, 0x0, 0x0, 0xFFFFFFFF⟩,
  ⟨0xD0118, [(0x40, 8)], 0x0, 0x0, 0x0, 0x0, 0x0, 0xFFFFFFFF⟩,
  ⟨0xD011C, [(0x40, 8)], 0x0, 0x0, 0x0, 0xFFFF0007, 0x0, 0x0⟩,
  ⟨0xD0120, [(0x40, 8)], 0x0, 0x100, 0x0, 0x0, 0x0, 0xFF⟩,
  ⟨0xD0124, [(0x40, 8)], 0x0, 0xC00, 0x0, 0x0, 0x0, 0xF3FF⟩,
  ⟨0xD0128, [(0x40, 8)], 0x0, 0x0, 0x0, 0x0, 0x0, 0xFFFFFFFF⟩,
  ⟨0xD012C, [(0x40, 8)], 0x0, 0x0, 0x0, 0x0, 0x0, 0xFFFFFFFF⟩,
  ⟨0xD0130, [(0x40, 8)], 0x0, 0x0, 0x0, 0x0, 0x0, 0xFFFFFFFF⟩,
  ⟨0xD0134, [(0x40, 8)], 0x0, 0x0, 0x0, 0x0, 0x0, 0xFFFFFFFF⟩,
  ⟨0xD0138, [(0x40, 8)], 0x0, 0x0, 0x0, 0x0, 0xFFFFFFFF, 0x0⟩,
  ⟨0xD1000, [(0x100, 8), (0x4, 64)], 0x0, 0x0, 0x0, 0x0, 0x0, 0xFFFFFFFF⟩]

/-- Access codes of the registers of 14_kesyn_ring_cycle.md. -/
def accessRows14 : List RegRow := [
  ⟨0x90000, [(0x10000, 2)], 0x0, 0x1F00, 0x0, 0x0, 0x0, 0xFF⟩,
  ⟨0x90004, [(0x10000, 2)], 0x0, 0x0, 0x0, 0x0, 0x0, 0x7FFFF⟩,
  ⟨0x90008, [(0x10000, 2)], 0x0, 0x0, 0x0, 0x0, 0x0, 0xFF3FFF⟩,
  ⟨0x9000C, [(0x10000, 2)], 0x0, 0x0, 0x0, 0x0, 0x0, 0xFFFFFFFF⟩,
  ⟨0x90010, [(0x10000, 2)], 0x0, 0x0, 0x0, 0x0, 0x0, 0xFFFFFFFF⟩,
  ⟨0x90014, [(0x10000, 2)], 0x0, 0x0, 0x0, 0x0, 0x0, 0xFFFFFFFF⟩,
  ⟨0x90018, [(0x10000, 2)], 0x0, 0x0, 0x0, 0x0, 0x0, 0xFFFFFFFF⟩,
  ⟨0x9001C, [(0x10000, 2)], 0x0, 0x0, 0x0, 0x0, 0x0, 0x3FFF3FFF⟩,
  ⟨0x90020, [(0x10000, 2)], 0x0, 0x0, 0x0, 0x0, 0xFFFFFFFF, 0x0⟩,
  ⟨0x90024, [(0x10000, 2)], 0x0, 0x0, 0x0, 0x0, 0x0, 0xFFFF⟩,
  ⟨0x90040, [(0x10000, 2)], 0x0, 0x0, 0x0, 0x0, 0xFFFFFFFF, 0x0⟩,
  ⟨0x90044, [(0x10000, 2)], 0x0, 0x0, 0x0, 0x0, 0xFFFFFFFF, 0x0⟩,
  ⟨0x90048, [(0x10000, 2)], 0x0, 0x0, 0x0, 0x0, 0xFFFFFFFF, 0x0⟩,
  ⟨0x9004C, [(0x10000, 2)], 0x0, 0x0, 0x0, 0x0, 0xFFFFFFFF, 0x0⟩,
  ⟨0x90050, [(0x10000, 2)], 0x0, 0x0, 0x0, 0x0, 0xFFFFFFFF, 0x0⟩,
  ⟨0x90054, [(0x10000, 2)], 0x0, 0x0, 0x0, 0x0, 0xFFFFFFFF, 0x0⟩,
  ⟨0x91000, [(0x10000, 2), (0x4, 512)], 0x0, 0x0, 0x0, 0x0, 0x0, 0xFF3F⟩]

/-- Access codes of the registers of 15_ring_startup_healing.md. -/
def accessRows15 : List RegRow := [
  ⟨0x90028, [(0x10000, 2)], 0x0, 0x0, 0x0, 0xFFFF0001, 0x0, 0x0⟩,
  ⟨0x9002C, [(0x10000, 2)], 0x0, 0x80, 0x0, 0x0, 0x0, 0x17F⟩,
  ⟨0x90030, [(0x10000, 2)], 0x0, 0x0, 0x0, 0x0, 0x0, 0xFFFFFFFF⟩,
  ⟨0x90034, [(0x10000, 2)], 0x0, 0x0, 0x0, 0x0, 0x0, 0x3FFFFFF⟩,
  ⟨0x90038, [(0x10000, 2)], 0x0, 0x0, 0x0, 0x0, 0x0, 0xFFFFFFFF⟩,
  ⟨0x9003C, [(0x10000, 2)], 0x0, 0x0, 0x0, 0x0, 0x0, 0xFFFFFFFF⟩,
  ⟨0x90058, [(0x10000, 2)], 0x0, 0x0, 0x0, 0x0, 0xFFFFFFFF, 0x0⟩,
  ⟨0x9005C, [(0x10000, 2)], 0x0, 0x0, 0x0, 0x0, 0xFFFFFFFF, 0x0⟩,
  ⟨0x90060, [(0x10000, 2)], 0x0, 0x0, 0x0, 0x0, 0xFFFFFFFF, 0x0⟩]

/-- Access codes of the registers of 16_time_base.md. -/
def accessRows16 : List RegRow := [
  ⟨0x80000, [], 0x0, 0x1C0, 0x0, 0x0, 0x0, 0x23F⟩,
  ⟨0x80004, [], 0xFFFF1FFF, 0x0, 0x0, 0x0, 0x0, 0x0⟩,
  ⟨0x80008, [], 0x0, 0x0, 0x0, 0xFFFF0001, 0x0, 0x0⟩,
  ⟨0x8000C, [], 0xFFFFFF, 0x0, 0x0, 0x0, 0x0, 0x0⟩,
  ⟨0x80010, [], 0x0, 0x0, 0x0, 0x0, 0x0, 0xFFFFFFFF⟩,
  ⟨0x80014, [], 0x0, 0x0, 0x0, 0x0, 0x0, 0xFFFFFFFF⟩,
  ⟨0x80018, [(0x4, 2)], 0x0, 0x0, 0x0, 0x0, 0x0, 0xFFFFFFFF⟩,
  ⟨0x80020, [(0x4, 2)], 0x0, 0x0, 0x0, 0x0, 0x0, 0xFFFFFFFF⟩,
  ⟨0x80028, [(0x4, 2)], 0x0, 0x0, 0x0, 0x0, 0x0, 0xFFFFFFFF⟩,
  ⟨0x80030, [], 0x0, 0x0, 0x0, 0x0, 0x0, 0xFFFFFFFF⟩,
  ⟨0x80034, [], 0x0, 0x0, 0x0, 0x0, 0x0, 0xFFFFFFFF⟩,
  ⟨0x80038, [], 0x0, 0x0, 0x0, 0x0, 0x0, 0xFFFFFFFF⟩,
  ⟨0x8003C, [], 0x1F1F, 0x0, 0x0, 0x0, 0x0, 0x0⟩,
  ⟨0x80040, [(0x4, 2)], 0x0, 0x0, 0x0, 0x0, 0x0, 0xFFFFFFFF⟩,
  ⟨0x80048, [], 0x0, 0x0, 0x0, 0x0, 0x0, 0x1FFFF⟩,
  ⟨0x80050, [], 0x3FFF, 0x0, 0x0, 0x0, 0x0, 0x0⟩,
  ⟨0x80060, [(0x4, 2)], 0xFFFFFFFF, 0x0, 0x0, 0x0, 0x0, 0x0⟩,
  ⟨0x80070, [], 0x0, 0x0, 0x0, 0x0, 0xFFFFFFFF, 0x0⟩,
  ⟨0x80074, [], 0x0, 0x0, 0x0, 0x0, 0xFFFFFFFF, 0x0⟩,
  ⟨0x80078, [], 0x0, 0x0, 0x0, 0x0, 0xFFFFFFFF, 0x0⟩,
  ⟨0x8007C, [], 0x0, 0x0, 0x0, 0x0, 0x0, 0xFFFFFFFF⟩]

/-- Access codes of the registers of 17_unit_redundancy.md. -/
def accessRows17 : List RegRow := [
  ⟨0xE0000, [], 0x0, 0x580, 0x0, 0x0, 0x0, 0x27F⟩,
  ⟨0xE0004, [], 0x0, 0x0, 0x0, 0xFFFF0001, 0x0, 0x0⟩,
  ⟨0xE0008, [], 0x0, 0x0, 0x0, 0x0, 0x0, 0xFFFF01FF⟩,
  ⟨0xE000C, [], 0x0, 0x0, 0x0, 0x0, 0x0, 0xFFFFFFFF⟩,
  ⟨0xE0010, [], 0x0, 0x0, 0x0, 0x0, 0x0, 0xFFFFFFFF⟩,
  ⟨0xE0014, [], 0x0, 0x0, 0x0, 0x0, 0x0, 0xFFFFFFFF⟩,
  ⟨0xE0018, [], 0x0, 0x0, 0x0, 0x0, 0x0, 0xFFFFFFFF⟩,
  ⟨0xE001C, [], 0x0, 0x0, 0x0, 0x0, 0x0, 0xFFFFFFFF⟩,
  ⟨0xE0020, [], 0x0, 0x0, 0x0, 0x0, 0xFFFFFFFF, 0x0⟩,
  ⟨0xE0024, [], 0x0, 0x0, 0x0, 0x0, 0xFFFFFFFF, 0x0⟩,
  ⟨0xE0028, [], 0x0, 0x0, 0x0, 0x0, 0xFFFFFFFF, 0x0⟩,
  ⟨0xE002C, [], 0x0, 0x0, 0x0, 0x0, 0xFFFFFFFF, 0x0⟩,
  ⟨0xE0040, [(0x4, 12)], 0x0, 0x0, 0x0, 0x0, 0x0, 0xFFFFFFFF⟩]

/-- Access codes of the registers of 18_fault_reaction.md. -/
def accessRows18 : List RegRow := [
  ⟨0x50000, [], 0x0, 0x60, 0x0, 0x0, 0x0, 0xFF019F⟩,
  ⟨0x50004, [], 0xFFFF1FFF, 0x0, 0x0, 0x0, 0x0, 0x0⟩,
  ⟨0x50008, [], 0x1, 0x0, 0x0, 0x0, 0x0, 0x0⟩,
  ⟨0x5000C, [], 0x0, 0x0, 0x0, 0xFFFF000F, 0x0, 0x0⟩,
  ⟨0x50010, [], 0x0, 0x0, 0x0, 0xFFFF00FF, 0x0, 0x0⟩,
  ⟨0x50014, [], 0x0, 0x4, 0x0, 0x0, 0x0, 0x7FB⟩,
  ⟨0x50018, [], 0x0, 0x0, 0x0, 0xFFFFFFFF, 0x0, 0x0⟩,
  ⟨0x5001C, [], 0x0, 0x0, 0x0, 0xFFFFFFFF, 0x0, 0x0⟩,
  ⟨0x50020, [(0x4, 8)], 0x0, 0x0, 0x0, 0x0, 0x0, 0xFFFFFFFF⟩,
  ⟨0x50040, [], 0x0, 0x200, 0x0, 0x0, 0x0, 0x1FF⟩,
  ⟨0x50044, [], 0x0, 0x0, 0x0, 0x0, 0xFFFFFFFF, 0x0⟩,
  ⟨0x50048, [], 0x0, 0x0, 0x0, 0x0, 0xFFFFFFFF, 0x0⟩,
  ⟨0x5004C, [], 0x0, 0x0, 0x0, 0x0, 0xFFFFFFFF, 0x0⟩,
  ⟨0x50100, [(0x10, 128), (0x4, 4)], 0x0, 0x0, 0x0, 0x0, 0x0, 0xFFFFFFFF⟩]

/-- Access codes of the registers of 19_event_recorder.md. -/
def accessRows19 : List RegRow := [
  ⟨0x60000, [], 0x0, 0x38, 0x0, 0x0, 0x0, 0x47⟩,
  ⟨0x60004, [], 0x0, 0x0, 0x0, 0x0, 0x0, 0xFFFFFFFF⟩,
  ⟨0x60008, [], 0x0, 0x0, 0x0, 0x0, 0x0, 0xFFFFFFFF⟩,
  ⟨0x6000C, [], 0x0, 0x0, 0x0, 0x0, 0x0, 0xFFFFFFFF⟩,
  ⟨0x60010, [], 0x0, 0x0, 0x0, 0x0, 0x0, 0xFFFFFFFF⟩,
  ⟨0x60014, [], 0xF, 0x0, 0x0, 0x0, 0x0, 0x0⟩,
  ⟨0x60018, [], 0x0, 0x0, 0x0, 0x0, 0x0, 0xFFFFFF⟩,
  ⟨0x60020, [], 0x0, 0x0, 0x0, 0x0, 0xFFFFFFFF, 0x0⟩,
  ⟨0x60024, [], 0x0, 0x0, 0x0, 0x0, 0xFFFFFFFF, 0x0⟩,
  ⟨0x60028, [], 0x0, 0x0, 0x0, 0x0, 0xFFFFFFFF, 0x0⟩,
  ⟨0x6002C, [], 0x0, 0x0, 0x0, 0x0, 0xFFFFFFFF, 0x0⟩,
  ⟨0x60030, [], 0x0, 0x0, 0x0, 0x0, 0x0, 0xFFFFFFFF⟩,
  ⟨0x60034, [], 0x0, 0x0, 0x0, 0x0, 0x0, 0x3FFFF⟩]

/-- Access codes of the registers of 20_acquisition.md. -/
def accessRows20 : List RegRow := [
  ⟨0x70000, [], 0x0, 0x60, 0x0, 0x0, 0x0, 0x9F⟩,
  ⟨0x70004, [], 0x0, 0x0, 0x0, 0x7, 0x0, 0x0⟩,
  ⟨0x70008, [], 0x0, 0x0, 0x0, 0x0, 0x0, 0xFF⟩,
  ⟨0x7000C, [], 0xFFFF7FFF, 0x0, 0x0, 0x0, 0x0, 0x0⟩,
  ⟨0x70010, [], 0xFFFFFFFF, 0x0, 0x0, 0x0, 0x0, 0x0⟩,
  ⟨0x70014, [], 0xFFFFFFFF, 0x0, 0x0, 0x0, 0x0, 0x0⟩,
  ⟨0x70018, [], 0xFFFFFFFF, 0x0, 0x0, 0x0, 0x0, 0x0⟩,
  ⟨0x7001C, [], 0x7FFF, 0x0, 0x0, 0x0, 0x0, 0x0⟩,
  ⟨0x70020, [], 0x7FFFF, 0x0, 0x0, 0x0, 0x0, 0xFF000000⟩,
  ⟨0x70024, [(0x4, 2)], 0x0, 0x0, 0x0, 0x0, 0x0, 0xFFFFFFFF⟩,
  ⟨0x7002C, [(0x4, 2)], 0x0, 0x0, 0x0, 0x0, 0x0, 0xFFFFFFFF⟩,
  ⟨0x70034, [], 0x0, 0x0, 0x0, 0x0, 0x0, 0xFFFFFFFF⟩,
  ⟨0x70038, [], 0x0, 0x0, 0x0, 0x0, 0x0, 0xFFFFFFFF⟩,
  ⟨0x7003C, [], 0x7FF, 0x0, 0x0, 0x0, 0x0, 0x0⟩,
  ⟨0x70040, [], 0x0, 0x0, 0x0, 0x0, 0x0, 0x1FFFF⟩,
  ⟨0x70044, [], 0x0, 0x0, 0x0, 0x0, 0x0, 0x1FFFF⟩,
  ⟨0x70050, [], 0x0, 0x0, 0x0, 0x0, 0xFFFFFFFF, 0x0⟩,
  ⟨0x70054, [], 0x0, 0x0, 0x0, 0x0, 0xFFFFFFFF, 0x0⟩,
  ⟨0x70058, [], 0x0, 0x0, 0x0, 0x0, 0xFFFFFFFF, 0x0⟩,
  ⟨0x70100, [(0x10, 4)], 0x3FF, 0x0, 0x0, 0x0, 0x0, 0x0⟩,
  ⟨0x70104, [(0x10, 4)], 0xFFFFFFFF, 0x0, 0x0, 0x0, 0x0, 0x0⟩,
  ⟨0x70108, [(0x10, 4)], 0xFFFFFFFF, 0x0, 0x0, 0x0, 0x0, 0x0⟩,
  ⟨0x7010C, [(0x10, 4)], 0xFFFFFFFF, 0x0, 0x0, 0x0, 0x0, 0x0⟩,
  ⟨0x70200, [(0x4, 128)], 0x7FFFFFF, 0x0, 0x0, 0x0, 0x0, 0x0⟩,
  ⟨0x70400, [(0x4, 128)], 0x7FFFFFF, 0x0, 0x0, 0x0, 0x0, 0x0⟩,
  ⟨0x78000, [(0x4, 8192)], 0xFFFFFFFF, 0x0, 0x0, 0x0, 0x0, 0x0⟩]

/-- Access codes of the registers of 21_field_io.md. -/
def accessRows21 : List RegRow := [
  ⟨0xB0000, [], 0x0, 0x602, 0x0, 0x0, 0x0, 0x1FD⟩,
  ⟨0xB0004, [], 0x2, 0x0, 0x0, 0xFFFF0001, 0x0, 0x0⟩,
  ⟨0xB0008, [], 0x0, 0x0, 0x0, 0x0, 0xFFFF0000, 0xFFFF⟩,
  ⟨0xB000C, [], 0x0, 0x3F, 0x0, 0x0, 0x0, 0x0⟩,
  ⟨0xB0010, [(0x4, 2)], 0x0, 0x0, 0x0, 0x0, 0x0, 0xFFFFFFFF⟩,
  ⟨0xB0018, [(0x4, 2)], 0x0, 0x0, 0x0, 0x0, 0x0, 0xFFFFFFFF⟩,
  ⟨0xB0020, [], 0xFFFFFFFF, 0x0, 0x0, 0x0, 0x0, 0x0⟩,
  ⟨0xB0024, [], 0x0, 0x0, 0xFFFFFFFF, 0x0, 0x0, 0x0⟩,
  ⟨0xB0028, [], 0x0, 0xFFFFFFFF, 0x0, 0x0, 0x0, 0x0⟩,
  ⟨0xB002C, [], 0x0, 0x0, 0x0, 0x0, 0x0, 0xFFFFFFFF⟩,
  ⟨0xB0030, [], 0x0, 0xFFFFFFFF, 0x0, 0x0, 0x0, 0x0⟩,
  ⟨0xB0034, [], 0x0, 0xFFFFFFFF, 0x0, 0x0, 0x0, 0x0⟩,
  ⟨0xB0038, [(0x4, 2)], 0x0, 0xFFFFFFFF, 0x0, 0x0, 0x0, 0x0⟩,
  ⟨0xB0040, [], 0x0, 0x0, 0x0, 0x0, 0xFFFFFFFF, 0x0⟩,
  ⟨0xB0044, [], 0x0, 0x0, 0x0, 0x0, 0xFFFFFFFF, 0x0⟩,
  ⟨0xB0100, [(0x4, 64)], 0x0, 0x0, 0x0, 0x0, 0x0, 0x1FFFFF⟩,
  ⟨0xB0200, [(0x4, 64)], 0x0, 0x4, 0x0, 0x0, 0xFFFF0000, 0x3⟩,
  ⟨0xB0300, [(0x4, 32)], 0x0, 0x0, 0x0, 0x0, 0x0, 0xFFFFFF⟩]

/-- Access codes of the registers of 22_host_security_debug.md. -/
def accessRows22 : List RegRow := [
  ⟨0x20400, [], 0xFFFFF000, 0x0, 0x0, 0x0, 0x0, 0x0⟩,
  ⟨0x20404, [], 0xFFFFFFFF, 0x0, 0x0, 0x0, 0x0, 0x0⟩,
  ⟨0x20410, [], 0xFFFFF000, 0x0, 0x0, 0x0, 0x0, 0x0⟩,
  ⟨0x20414, [], 0xFFFFFFFF, 0x0, 0x0, 0x0, 0x0, 0x0⟩,
  ⟨0x20408, [], 0x1F, 0x0, 0x0, 0x0, 0x0, 0x0⟩,
  ⟨0x20418, [], 0x1F, 0x0, 0x0, 0x0, 0x0, 0x0⟩,
  ⟨0x2040C, [], 0xFFF, 0x0, 0x0, 0x0, 0x0, 0x0⟩,
  ⟨0x20420, [], 0x0, 0x0, 0x0, 0x0, 0x0, 0xFFF⟩,
  ⟨0x2041C, [], 0x0, 0x0, 0x0, 0x0, 0x0, 0xFFF⟩,
  ⟨0x20424, [], 0xFFF, 0x0, 0x0, 0x0, 0x0, 0x0⟩,
  ⟨0x300100, [], 0x0, 0x2, 0x0, 0x0, 0x0, 0x3FFFF01⟩,
  ⟨0x300108, [(0x4, 2)], 0x0, 0x0, 0x0, 0x0, 0x0, 0xFFFFFFFF⟩,
  ⟨0x300110, [(0x4, 2)], 0x0, 0x0, 0x0, 0x0, 0x0, 0xFFFFFFFF⟩,
  ⟨0x300118, [(0x4, 2)], 0x0, 0x0, 0x0, 0x0, 0x0, 0xFFFFFFFF⟩,
  ⟨0x300140, [(0x8, 8), (0x4, 2)], 0x0, 0x0, 0x0, 0x0, 0x0, 0xFFFFFFFF⟩,
  ⟨0xF0000, [], 0x0, 0x7C, 0x0, 0x0, 0x0, 0xFFFFF83⟩,
  ⟨0xF0004, [], 0x0, 0x0, 0x0, 0xFFFF003F, 0x0, 0x0⟩,
  ⟨0xF0008, [], 0x3F, 0x0, 0x0, 0x0, 0x0, 0x0⟩,
  ⟨0xF0014, [], 0xFFFFFFFF, 0x0, 0x0, 0x0, 0x0, 0x0⟩,
  ⟨0xF0018, [], 0x0, 0x0, 0x0, 0x0, 0x0, 0xFFFFFFFF⟩,
  ⟨0xF0020, [(0x4, 8)], 0x0, 0x0, 0x0, 0x0, 0x0, 0xFFFFFFFF⟩,
  ⟨0xF000C, [], 0xFFFFFFFC, 0x0, 0x0, 0x0, 0x0, 0x0⟩,
  ⟨0xF0010, [], 0xFFFFFFFF, 0x0, 0x0, 0x0, 0x0, 0x0⟩,
  ⟨0xF0100, [(0x8, 56)], 0xFFFFFFFF, 0x0, 0x0, 0x0, 0x0, 0x0⟩,
  ⟨0xF0104, [(0x8, 56)], 0xF, 0x0, 0x0, 0x0, 0x0, 0x0⟩,
  ⟨0xF0400, [(0x4, 22)], 0x0, 0x0, 0x0, 0x0, 0x0, 0xFFFFFFFF⟩]

/-- Access codes of the registers of 23_address_map.md. -/
def accessRows23 : List RegRow := [
  ⟨0x2C, [], 0x1, 0x0, 0x0, 0x0, 0x0, 0x0⟩]

/-- The access table of all of BAR0. -/
def accessTable : List RegRow :=
  accessRows02 ++ accessRows03 ++ accessRows04 ++ accessRows05 ++ accessRows06 ++ accessRows07 ++ accessRows08 ++ accessRows09 ++ accessRows10 ++ accessRows11 ++ accessRows12 ++ accessRows13 ++ accessRows14 ++ accessRows15 ++ accessRows16 ++ accessRows17 ++ accessRows18 ++ accessRows19 ++ accessRows20 ++ accessRows21 ++ accessRows22 ++ accessRows23

/-- Offset in nested instances of a register; strides fall from the outermost to the innermost. -/
def inDims : List (Nat × Nat) → Nat → Bool
  | [], off => off == 0
  | (stride, n) :: ds, off => decide (off / stride < n) && inDims ds (off % stride)

/-- The bits of a register that a read shows: neither reserved nor WO (R12, R13). -/
def RegRow.shown (r : RegRow) : Nat := r.rw ||| r.w1c ||| r.w1s ||| r.rc ||| r.ro

/-- The row of the access table to which a word of BAR0 belongs. -/
def accessRow (a : Nat) : Option RegRow := accessTable.find? (fun (r : RegRow) => decide (r.base ≤ a) && inDims r.dims (a - r.base))

/-- The registers of two or more words (R11, R555): base of word 0, instances, words. Those whose higher words another
register's read captures (WHEEL_MST_SPD, TIME_NOW_SEC, WHEEL_LT_SEC, the messages) are not among them. -/
def multiWords : List (Nat × List (Nat × Nat) × Nat) := [
  (CFG_RUN_HASH 0, [], 12), (CFG_SH_HASH 0, [], 12), (0x3000C0, [], 2),
  (WHEEL_VSPD 0, [], 2), (WHEEL_VMAX 0, [], 2), (WHEEL_RATIO 0, [], 2),
  (0x101108, [(0x10000, 12), (0x1000, 8)], 2), (0x101008, [(0x10000, 12), (0x1000, 8)], 2),
  (0x101010, [(0x10000, 12), (0x1000, 8)], 2), (0x101020, [(0x10000, 12), (0x1000, 8)], 2),
  (0x101044, [(0x10000, 12), (0x1000, 8)], 2), (0x10104C, [(0x10000, 12), (0x1000, 8)], 2),
  (TIME_OFS 0, [], 2), (TIME_PEND 0, [], 2), (TIME_GM 0, [], 2), (RED_SNAP_HASH 0, [], 12),
  (ACQ_TRIG_IDX 0, [], 2), (ACQ_TRIG_SEC 0, [], 2), (HQ_HC_BASE 0, [], 2), (HQ_CQ_BASE 0, [], 2),
  (CFG_SEC_NONCE 0, [], 2), (0x300110, [], 2), (CFG_SEC_SERIAL 0, [], 2), (0x300140, [(0x8, 8)], 2),
  (DBG_CHAL 0, [], 8), (DBG_MADDR 0, [], 2), (0xF0100, [(0x8, 56)], 2), (DBG_SNAP 0, [], 22)]

/-- A word of BAR0 as a word of a multi-word register: its word 0's address, which word it is, and how many there are. -/
def multiWord (a : Nat) : Option (Nat × Nat × Nat) :=
  multiWords.findSome? (fun (m : Nat × List (Nat × Nat) × Nat) =>
    ((List.range m.2.2).find? (fun (w : Nat) => decide (m.1 + 4 * w ≤ a) && inDims m.2.1 (a - 4 * w - m.1))).map
      (fun (w : Nat) => (a - 4 * w, w, m.2.2)))

end Sys2Proof
end

