-- ==== Sys2Proof/Config.lean ====
section
/-! DEFINITION. What the spec leaves open: the free values (constants without a body, which no proof can see through)
and the constants of the spec that are the same for every unit. -/

namespace Sys2Proof.Config

/-- Free value: 32 bits of the security engine's random source (nonce, challenge; R537, R546). Its argument is the
counter State.free. -/
opaque randomWord : Nat → Word

/-- Free value: a result the spec states no value for; the first argument names the place, the second is the counter
State.free or a number made of the operands. -/
opaque unstated : Nat → Nat → Nat

/-- Free value: the rounding of one distance result of a channel, in units of 0.1 mm (R308). -/
opaque distRound : Nat → Nat → Nat

/-- Free value: the number of an alternative that a fault context names without numbering it (R458), such as a stage or a
direction; the first argument is the fault kind, the second the alternative. -/
opaque faultCode : Nat → Nat → Nat

/-- Free value: byte i of the item header that the dispatch engine writes into a core's inbox, made of the header's fields
(R148); their places in the header are not stated. -/
opaque headerByte : List Nat → Nat → BitVec 8

/-- Free value: the address of port P (false) or S of a ring, which the spec does not give (R367, R393). -/
opaque ringPort : Nat → Bool → BitVec 48

/-- Disciplined-time units in one SYS cycle of 1.25 ns at FADJ = 0; the unit is 2^-32 ns (R416). -/
def cycleUnits : Nat := 5368709120
/-- Units of 2^-32 ns in one nanosecond. -/
def nsUnits : Nat := 4294967296
/-- Units in one second. -/
def secUnits : Nat := 1000000000 * nsUnits
/-- Units in one grid step of 31.25 µs (R21). -/
def gridUnits : Nat := 31250 * nsUnits
/-- Units in one millisecond. -/
def msUnits : Nat := 1000000 * nsUnits
/-- SYS cycles in one millisecond. -/
def msCycles : Nat := 800000

end Sys2Proof.Config
end

