-- ==== Sys2Proof/Types.lean ====
section
/-! DEFINITION. The plain data that commands carry and queues hold: names of the spec, one structure each. -/

namespace Sys2Proof

/-- An instant of disciplined time, counted in 2^-32 ns from 0:0:0 (R9, R416). -/
abbrev Instant := Nat

/-- Seconds, nanoseconds and sub-nanoseconds (2^-16 ns) of an instant (R9). -/
def Instant.sec (t : Instant) : Nat := t / Config.secUnits
def Instant.ns (t : Instant) : Nat := t / Config.nsUnits % 1000000000
def Instant.sub (t : Instant) : Nat := t / 65536 % 65536

/-- The fourteen bytes of a time in a record: seconds, nanoseconds, sub-nanoseconds (R484). -/
def Instant.bytes (t : Instant) : List Byte := natLE 8 t.sec ++ natLE 4 t.ns ++ natLE 2 t.sub

/-- The modes with their codes (R72). -/
def mRESET : Nat := 0
def mSANITISE : Nat := 1
def mVERIFY : Nat := 2
def mBARE : Nat := 3
def mLOAD : Nat := 4
def mCOLD_STANDBY : Nat := 5
def mTAKEOVER : Nat := 6
def mCOMMISSION : Nat := 7
def mRUN : Nat := 8
def mCHANGEOVER : Nat := 9
def mSAFE_HOLD : Nat := 10
def mFAULT : Nat := 11

/-- Admission codes (R43). -/
def admOK : Nat := 0
def admFULL : Nat := 1
def admLATE : Nat := 2
def admMODE : Nat := 3
def admBUDGET : Nat := 4
def admSTRUCTURE : Nat := 5
def admCANCELLED : Nat := 6

/-- What a fault reaction acts on: a mask of the STO groups S0 to S3 (R460). -/
abbrev GroupMask := Nat
def allGroups : GroupMask := 15

/-- A fault message on its way to the collector (R454, R455, R458). -/
structure FaultMsg where
  source : Nat
  kind : Nat
  cls : Nat
  level : Nat
  ctx : Nat := 0
  /-- context items that found no room in the context word (R471) -/
  ext : List Nat := []
  scope : GroupMask := 15
  /-- a condition kind, whose cause holds (R466) -/
  cond : Bool := false
  /-- raised by the host (R472) -/
  fw : Bool := false
  /-- groups whose part of the reaction is a demand of category 1 (R462) -/
  cat1 : GroupMask := 0
  /-- monotonic count of its setting out -/
  at_ : Nat := 0
deriving DecidableEq, Repr

/-- A message as the collector has taken it (R471). -/
structure FltMsg where
  msg : FaultMsg
  level : Nat
  esc : Bool
  rept : Bool
  noent : Bool
  seq : Nat
  time : Instant
  /-- entry index, 255 none -/
  entry : Nat
deriving DecidableEq, Repr

/-- A record offered to the recorder: code, priority, payload and the time of its event (R476, R481). -/
structure RecItem where
  code : Nat
  prio : Nat
  payload : List Byte
  time : Instant
  /-- offered by an event core (R482) -/
  firmware : Bool := false
deriving DecidableEq, Repr

/-- A motion segment (R187). Positions are Q32.32 or, for VEL, Q32.16, in signed numbers. -/
structure Segment where
  axis : Nat
  kind : Nat
  start : Nat
  relative : Bool
  withLimits : Bool
  target : Int
  vmax : Nat
  amax : Nat
  dmax : Nat
  jmax : Nat
  param : Nat
  seq : Nat
deriving DecidableEq, Repr

/-- A wheel descriptor (R118). -/
structure Descriptor where
  angle : Nat
  pcyc : Nat
  count : Nat
  period : Nat
  dir : Nat
  comm : Bool
  recd : Bool
  action : Nat
  target : Nat
  width : Nat
  group : Nat
  key : Nat
  handler : Nat
  tag : Nat
  payload : List Byte
  /-- reserved fields as written, which must be 0 -/
  reserved : Nat := 0
deriving DecidableEq, Repr

/-- Work on its way to an event core (R143, R148): where it came from, what handles it and its payload. -/
structure Work where
  /-- source queue 2, 3, 4, 5 or 15; 16 a fault dispatch (R461), 17 the
  handler of a takeover (R448) -/
  src : Nat
  handler : Nat
  key : Nat
  group : Nat
  payload : List Byte
  entry : Instant
  late : Bool
  /-- host command: command class and TAG, for its completion -/
  cls : Nat := 0
  tag : Nat := 0
  /-- ARG, DATA_ADDR and FLAGS of a host command (R530) -/
  arg : Nat := 0
  addr : Nat := 0
  flags : Nat := 0
  /-- number of its joining a ready list, and the monotonic count of the SYS cycle in which it joined (R143) -/
  id : Nat := 0
  at_ : Nat := 0
deriving DecidableEq, Repr

/-- A command entry (R530) as the fetch reads it; payload is the inline payload or, for classes 0x01 to 0x03 and 0x10 to
0xFF, the indirect one. -/
structure HostCmd where
  cls : Nat
  flags : Nat
  plen : Nat
  tag : Nat
  deadline : Nat
  arg : Nat
  addr : Nat
  ilen : Nat
  payload : List Byte
deriving DecidableEq, Repr

/-- What an ATTEST quote holds beside the fields of the machine (R539): the SHA-384 digests over the running boot image, the
safety set in use and the code, and the two identity signatures; with KEYS = 1 the identity public keys. The cryptography
is not computed by the model. -/
structure QuoteParts where
  mBoot : List Byte
  mSafety : List Byte
  sigRsa : List Byte
  sigSlh : List Byte
  keys : List Byte
deriving DecidableEq, Repr

/-- A host completion (R531): TAG, admission code, result and value. -/
structure Completion where
  tag : Nat
  adm : Nat
  result : Nat
  value : Nat
deriving DecidableEq, Repr

/-- A service message (R384 to R386): node (destination or source), type, tag and data. -/
structure SvcMsg where
  node : Nat
  type : Nat
  tag : Nat
  data : List Byte
deriving DecidableEq, Repr

/-- A Kesyn frame (R367, R368) as sent or received: header fields, segment area, and whether HCRC and FCS verify. tdep is
in ns of ring time; source is the source address, prio and serial stand in the body of a CLAIM (R396). -/
structure RFrame where
  type : Nat
  epoch : Nat
  cycle : Nat
  sid : Nat
  mode : Nat
  k : Nat := 1
  frame : Nat := 0
  looped : Bool := false
  loopAddr : Nat := 65535
  tdep : Nat := 0
  rtt : Nat := 0
  area : List Byte := []
  hcrc : Bool := true
  fcs : Bool := true
  /-- the FCS received where it does not verify, and a symbol error seen in the frame (R376) -/
  badFcs : Nat := 0
  symErr : Bool := false
  source : Nat := 0
  prio : Nat := 0
  serial : Nat := 0
deriving DecidableEq, Repr

/-- A message as the LX-1296 sends it: port, kind (0 Sync, 1 Delay_Req, 2 Pdelay_Req, 3 Pdelay_Resp, 8 Follow_Up,
9 Delay_Resp, 10 Pdelay_Resp_Follow_Up, 15 any other frame), sequence, timestamp in ns and correctionField. -/
structure PtpTx where
  port : Nat
  kind : Nat
  seqId : Nat
  stamp : Int
  corr : Int
deriving DecidableEq, Repr

/-- What a hardware queue holds (R136), by kind. -/
inductive Body where
  | fault (m : FltMsg)
  | record (r : RecItem)
  | chunk (off len : Nat)
  | completion (c : Completion)
  | block (n : Nat)
  /-- a published result; at_ is the monotonic count of its arrival (R26) -/
  | solution (arm : Nat) (at_ : Nat)
  /-- a motion segment, the path it came by and the monotonic count of its arrival (R26, R40) -/
  | segment (g : Segment) (path : Nat) (at_ : Nat)
  | frame (port : Nat) (bytes : List Byte)
  /-- a message that the time base sends (R136) -/
  | ptp (x : PtpTx)
  | job (arm : Nat)
  | work (w : Work)
  /-- bytes for an offset of a segment's payload (R267, R374) and the monotonic count of their arrival (R26, R40) -/
  | staged (ring segment off : Nat) (bytes : List Byte) (at_ : Nat)
  | svc (ring : Nat) (m : SvcMsg)
deriving DecidableEq, Repr

/-- An item of a hardware queue: its length in bytes and its content (R134). -/
structure QItem where
  len : Nat
  body : Body
deriving DecidableEq, Repr

/-- Cells an item occupies (R134). -/
def QItem.cells (q : QItem) : Nat := (q.len + 63) / 64

/-- What an Announce carries for the BMCA of 1588 (R421, R422). -/
structure Announce where
  port : Nat
  identity : Nat
  priority1 : Nat
  clockClass : Nat
  accuracy : Nat
  variance : Nat
  priority2 : Nat
  stepsRemoved : Nat
  utc : Nat
  utcValid : Bool
  domain : Nat
  /-- SYS cycles of its announce receipt time-out -/
  timeout : Nat
  udp : Bool := false
deriving DecidableEq, Repr

/-- The fields of an Announce as one number, a smaller one the better: the comparison order of the default BMCA. -/
def Announce.rank (a : Announce) : Nat :=
  (((((a.priority1 * 256 + a.clockClass) * 256 + a.accuracy) * 65536 + a.variance) * 256 + a.priority2) * 2 ^ 64
    + a.identity) * 65536 + a.stepsRemoved

/-- A PTP message heard on a PL port. Times and corrections are in ns × 2^16; rx is the raw arrival stamp (R419). -/
structure PtpMsg where
  port : Nat
  source : Nat
  seqId : Nat
  /-- originTimestamp, receiveTimestamp, requestReceipt or responseOrigin timestamp -/
  origin : Int
  corr : Int
  rx : Int
  twoStep : Bool
  /-- logMessageInterval -/
  logInt : Int
  /-- monotonic count at its arrival -/
  t : Nat
  /-- domainNumber, and its transport (R421) -/
  domain : Nat := 0
  udp : Bool := false
deriving DecidableEq, Repr

/-- Where a LOST or FROZEN bit is written (R177): a tile's TILE_FB_STAT or a port's FBP_STAT. -/
inductive FbTarget where
  | tile (a : Fin 96)
  | port (p : Fin 32)
deriving DecidableEq, Repr

/-- What VERIFY reads of one boot image and what its signature engines find (R87): whether its header is well formed, the key
identifiers of its RSASSA-PSS and SLH-DSA signatures, whether each verifies, and its SVN. A slot without an image has no well formed
header. -/
structure BootVerdict where
  form : Bool
  rsaKey : Nat
  slhKey : Nat
  rsa : Bool
  slh : Bool
  svn : Nat
deriving DecidableEq, Repr

/-- An entry of the slot directory (R53): IMG_LEN and the structure hash as 48 octets. -/
structure DirEntry where
  len : Nat
  hash : List Byte
deriving DecidableEq, Repr

-- ===== chapter 09: operands of the control engine's instructions (R261) =====

/-- An address operand: an immediate, or an address register with an offset; post-step −1, 0 or +1 on p0 to p6. -/
structure EAddr where
  base : Option (Fin 8)
  ofs : Nat
  post : Int := 0
deriving DecidableEq, Repr

/-- A Q15 half of the word at an address: the high one or the low one. -/
structure EHalf where
  addr : EAddr
  hi : Bool
deriving DecidableEq, Repr

/-- The second operand of an integer operation. -/
inductive ESrc where
  | reg (m : Fin 8)
  | imm (v : Word)
deriving DecidableEq, Repr

/-- Conditions of BR: a lane's sign, a lane's zero, a comparison of an integer register (signed: below, equal, above), a
bit of the tile's FB_STAT word. -/
inductive ECond where
  | neg (l : Fin 2)
  | zero (l : Fin 2)
  | below (n : Fin 8) (m : ESrc)
  | equal (n : Fin 8) (m : ESrc)
  | beyond (n : Fin 8) (m : ESrc)
  | fbBit (b : Fin 32)
deriving DecidableEq, Repr

/-- An instruction of the control engine (R261). -/
inductive EInstr where
  | mac2 (a b : EAddr)
  /-- kind 0 MPY, 1 MAC, 2 MSU -/
  | mul (kind : Fin 3) (l : Fin 2) (x y : EHalf)
  | mpyi (l : Fin 2) (n : Fin 8) (q : EHalf) (sh : Nat)
  /-- kind 0 LDX, 1 LDX+, 2 LDX− -/
  | ldx (kind : Fin 3) (l : Fin 2) (a : EAddr) (wide : Bool) (f sh : Nat)
  /-- ADDA, SUBA of a Q15 half, or of the whole Q1.30 word with .L -/
  | adda (sub : Bool) (l : Fin 2) (a : EHalf) (long : Bool)
  | clmp (l : Fin 2) (a : EHalf) (long : Bool)
  | neg (l : Fin 2)
  | abs (l : Fin 2)
  | stq (l : Fin 2) (a : EHalf) (sh : Int)
  | stl (l : Fin 2) (a : EAddr)
  | diff (n : Fin 8) (a b : EAddr)
  | ld (n : Fin 8) (a : EAddr)
  | st (n : Fin 8) (a : EAddr)
  /-- op 0 ADD, 1 SUB, 2 AND, 3 OR, 4 SHL, 5 SHR -/
  | alu (op : Fin 6) (n : Fin 8) (m : ESrc)
  | sincos (a : EHalf) (b : EAddr)
  /-- kind 0 VMAX, 1 VMIN, 2 VMAXA -/
  | search (kind : Fin 3) (l : Fin 2) (a : EAddr) (n : Nat)
  | br (c : ECond) (target : Nat)
  | loop (n last : Nat)
  | tile (t : Fin 8)
  /-- kind 0 TQ, 1 DUTY, 2 GEN, 3 RMT -/
  | out (kind : Fin 4)
  | fin
deriving DecidableEq, Repr

/-- What a register write meets beside the written value: the instant, the present level of FLT_N of the port that the
register belongs to, its data lines alive, the fault entries whose condition holds now, and the engine
instruction at the program counter of the target that DBG_TGT names. -/
structure WriteEnv where
  t : Nat := 0
  fltLow : Bool := false
  sdAlive : Bool := true
  live : List Nat := []
  instr : EInstr
deriving DecidableEq, Repr

end Sys2Proof
end

