-- ==== Sys2Proof/Blocks.lean ====
section
/-! DEFINITION. The state of each block of the LX-1296 beside its registers, one structure a block, and what a Kaolin
image brings (Structure). Registers stand in State.regs; a value is held here only where no register is its home. -/

namespace Sys2Proof

-- ===== what a Kaolin image brings (chapter 02): its decoded sections =====

/-- A handler of HANDLERS: index, core mask and budget in cycles (R145, R150). -/
structure Handler where
  index : Nat
  mask : Nat
  budget : Nat
deriving DecidableEq, Repr

/-- How a source's work is routed: class, service type or EtherType, with handler, group and ordering key (R143). -/
structure Route where
  code : Nat
  handler : Nat
  group : Nat
  key : Nat
deriving DecidableEq, Repr

/-- PLANLIM of one axis (R185, R186, R189, R194, R195): ceilings, commissioning ceilings, slots and quick-stop limits, in
the formats of the limit registers. -/
structure PlanLim where
  axis : Nat
  rotary : Bool := false
  /-- an arm joint, under its arm's path-speed override (R4, R195) -/
  arm : Bool := false
  vmax : Nat := 0
  amax : Nat := 0
  dmax : Nat := 0
  jmax : Nat := 0
  cvmax : Nat := 0
  camax : Nat := 0
  cdmax : Nat := 0
  cjmax : Nat := 0
  slots : Nat := 1
  perTick : Nat := 1
  qdec : Nat := 0
  qjerk : Nat := 0
deriving DecidableEq, Repr

/-- A variant of a tile's loop program (R270, R271): its instructions, the data-memory addresses of its output word and
integrator word, and the integrator limit in Q15 LSB. -/
structure LoopVar where
  code : List EInstr := []
  out : Nat := 0x14
  integ : Option Nat := none
  ilim : Nat := 0
deriving DecidableEq, Repr

/-- LOOPPROG of one tile: its variants V0 to V3. -/
structure LoopTile where
  axis : Nat
  vars : List LoopVar
deriving DecidableEq, Repr

/-- A RANGECERT entry (R51): variable index, integer bits, and the bounds in units of 2^-31. -/
structure QVar where
  idx : Nat
  m : Nat
  lo : Int
  hi : Int
deriving DecidableEq, Repr

/-- A STATEMAP entry: kind, axis and shift (R280). -/
structure QState where
  kind : Nat
  axis : Nat
  shift : Int
deriving DecidableEq, Repr

/-- An OUTMAP entry: the variable at each horizon step, none where it names no variable, and the power of two that takes a
value in 2^-31 to the word (R296). -/
structure QOut where
  vars : List (Option Nat)
  exp : Int
deriving DecidableEq, Repr

/-- The solver problem of an arm (R279). Values are in units of 2^-31, in which every solver variable is a whole number.
formats gives the RANGECERT entries of each vector by its code (see Machine/Solver.lean). -/
structure QProb where
  arm : Nat
  unit : Nat
  pos : Nat
  h : List (List Int)
  a : List (List Int)
  g : List (List Int)
  fq : List (List Int)
  fl : List (List Int)
  fu : List (List Int)
  q0 : List Int
  l0 : List Int
  u0 : List Int
  shiftVar : List Nat
  shiftRow : List Nat
  states : List QState
  capRows : List Nat
  rho : List Int
  sigma : Int
  alpha : Int
  pivMin : Int
  delta : Int
  epsP : Int
  epsD : Int
  /-- joints of the arm: axis, and its TQ, VREF, PCOR and AREF -/
  outs : List (Nat × QOut × QOut × QOut × QOut)
  formats : List (Nat × List QVar)
deriving DecidableEq, Repr

/-- Three coordinates. -/
structure V3 where
  x : Int
  y : Int
  z : Int
deriving DecidableEq, Repr

/-- A rigid transform of KINE (R302): the rows of its rotation in 2^-30 and its translation in 2^-16 mm. -/
structure Pose where
  rx : V3
  ry : V3
  rz : V3
  tr : V3
deriving DecidableEq, Repr

/-- A joint of KINE (R302): its axis, rotary or linear, num / den units per count (2^-32 turn, or 2^-16 mm), its zero
offset in that unit, and the fixed transform to the next link. -/
structure Joint where
  axis : Nat
  rotary : Bool
  num : Int
  den : Nat
  zero : Int
  next : Pose
deriving DecidableEq, Repr

/-- A capsule of KINE (R302): its link, two end points in that link's frame and its radius, in 2^-16 mm. -/
structure Capsule where
  link : Nat
  p : V3
  q : V3
  r : Nat
deriving DecidableEq, Repr

/-- An arm of KINE (R302). -/
structure KineArm where
  arm : Nat
  base : Pose
  joints : List Joint
  caps : List Capsule
deriving DecidableEq, Repr

/-- The arm fields of a safety parameter set (R312): μs, mm, mm/s. -/
structure SafArm where
  arm : Nat
  ts : Nat
  zr : Nat
  vpath : Nat
  vplaus : Nat
deriving DecidableEq, Repr

/-- A scanner source (R306): its connection, ring and node, first person slot and slot count, arms covered and watchdog
in ms. -/
structure ScanSrc where
  num : Nat
  conn : Nat
  ring : Nat
  node : Nat
  first : Nat
  count : Nat
  cover : Nat
  wd : Nat
deriving DecidableEq, Repr

/-- A safety-input pair (R339): its inputs, kind, filter in μs, discrepancy time in ms, and for each group a category 0
or 1, or 2 for none. -/
structure SafPair where
  num : Nat
  in1 : Nat
  in2 : Nat
  antiv : Bool
  filt : Nat
  disc : Nat
  cats : List Nat
deriving DecidableEq, Repr

/-- What SAFETY gives a group (R331, R334): remote drive connections, arms, its restart source (0 firmware, 1 INPUT, 2
BOTH) and restart input, T_SS1 and t_START in ms, and whether it has members. -/
structure SafGroup where
  used : Bool := false
  conns : List Nat := []
  arms : Nat := 0
  restart : Nat := 0
  input : Nat := 0
  tss1 : Nat := 0
  tstart : Nat := 1
deriving DecidableEq, Repr

/-- A safety parameter set (R312, R339 to R343). Times in μs. -/
structure SafSet where
  code : Nat
  tr : Nat := 4000
  tslow : Nat := 0
  vh : Nat := 0
  c : Nat := 0
  zd : Nat := 0
  drst : Nat := 0
  nrst : Nat := 1
  told : Nat := 5
  tolv : Nat := 1
  nxcmp : Nat := 1
  arms : List SafArm := []
  sources : List ScanSrc := []
  pairs : List SafPair := []
  /-- test-pulse supply of each input that has one (R341) -/
  supplies : List (Nat × Nat) := []
  ttp : Nat := 4000
  ttpw : Nat := 500
deriving DecidableEq, Repr

/-- A safe connection (R338): STO or scanner, its group, payload length and watchdog in μs. -/
structure SafConn where
  num : Nat
  sto : Bool
  group : Nat
  len : Nat
  wd : Nat
deriving DecidableEq, Repr

/-- The SAFETY section (R312, R331, R338, R343). -/
structure Safety where
  sets : List SafSet := []
  conns : List SafConn := []
  groups : List SafGroup := []
deriving DecidableEq, Repr

/-- The DOORS entry of a door beside its registers (R348, R356, R357): its limit sets as VMAX, AMAX, DMAX, JMAX in the
formats of the limit registers, obstacle stop, REF_SPD, and the tag of its entry. -/
structure DoorDef where
  num : Nat
  openLim : Nat × Nat × Nat × Nat
  closeLim : Nat × Nat × Nat × Nat
  obsDec : Nat
  obsJerk : Nat
  refSpd : Nat
  tag : Nat
deriving DecidableEq, Repr

/-- A segment of RINGSCHED (R370): its number, offset, length and kind, its node, the records in its payload as axis and
offset (R178, R267), and the safe connection it carries. -/
structure RSeg where
  idx : Nat
  off : Nat
  len : Nat
  kind : Nat
  node : Nat := 65535
  recs : List (Nat × Nat) := []
  conn : Option Nat := none
deriving DecidableEq, Repr

/-- RINGSCHED of a ring (R371, R382, R408): the segments of the HEAL or NARROW layout and of the two WIDE frames, AREA_LEN, the
node list, t_CLSTAB in ms, the declared turnaround of each node and latencies of the nodes in ns, and the spans in m. -/
structure RingDef where
  ring : Nat
  area : Nat
  segs : List RSeg
  wide0 : List RSeg := []
  wide1 : List RSeg := []
  nodes : List Nat
  clstab : Nat := 1000
  turn : List (Nat × Nat) := []
  lats : List Nat := []
  spans : List Nat := []
deriving DecidableEq, Repr

/-- The decoded content of a Kaolin image. The byte layouts of the section bodies are not in the spec: the content comes
with the command that ends the load. -/
structure Structure where
  /-- the words of the registers whose reset value is the image's -/
  regs : List (Nat × Word) := []
  /-- QBUDGET: reserved credits and shared cap of each queue (R134) -/
  budgets : List (Nat × Nat) := []
  handlers : List Handler := []
  /-- handler code: core, local address and byte -/
  coreCode : List (Nat × Nat × Byte) := []
  coreSet : Nat := 0
  fltHandler : Option Route := none
  svcRoutes : List Route := []
  etherRoutes : List Route := []
  /-- STO group 0 to 3 of each axis, 4 for none (R331) -/
  axisGroup : List Nat := []
  /-- WHEELINIT: start angle and descriptors (R107, R587); insertion rates of the host and core paths (R588) -/
  startAngle : Nat := 0
  initDescs : List Descriptor := []
  insHost : Nat × Nat := (0, 0)
  insCore : Nat × Nat := (0, 0)
  /-- axes that TILEMAP names -/
  axes : List Nat := []
  planLims : List PlanLim := []
  loops : List LoopTile := []
  /-- LOOPPROG's parameters: cluster, word and value; the banks are loaded with them (R254) -/
  params : List (Nat × Nat × Word) := []
  /-- solver problems, one an arm (R279) -/
  probs : List QProb := []
  safety : Safety := {}
  kine : List KineArm := []
  doors : List DoorDef := []
  rings : List RingDef := []
  /-- RECCODES (R483): code, RATE, BURST, PRIO and PLEN_MAX of each entry, and SHARED_RATE and SHARED_BURST -/
  recEntries : List (Nat × Nat × Nat × Nat × Nat) := []
  recShared : Nat × Nat := (1000, 64)
  /-- HANDLERS: the firmware region of the snapshot in LPDDR4X (R440), its ordering key (R441), TK_HANDLER (R448) -/
  fwBase : Nat := 0
  fwSize : Nat := 0
  fwKey : Nat := 0
  tkHandler : Option Route := none
  /-- handler classes: class, route, credits and service bound in μs (R533) -/
  hostClasses : List (Route × Nat × Nat) := []
  /-- FEEDBACK warm-start window of each absolute axis, in counts (R93) -/
  ssiWindow : List (Nat × Nat) := []
  /-- TILEMAP: physical axis identity of each axis (R60) -/
  identity : List (Nat × Nat) := []
  /-- standstill window of each axis, in counts (R60) -/
  stillWin : List (Nat × Nat) := []
  /-- acquisition region of QBUDGET, in units of 64 KiB (R497) -/
  acqRegion : Nat := 0
deriving DecidableEq, Repr

-- ===== chapter 05: queues and dispatch =====

/-- A hardware queue: its items, oldest first, the reserved and shared cells it holds, its budget and the items that
wait for shared cells (R134 to R139). -/
structure Queue where
  items : List QItem := []
  resUsed : Nat := 0
  shUsed : Nat := 0
  reserved : Nat := 0
  cap : Nat := 65536
  waiting : List QItem := []
deriving DecidableEq, Repr

/-- The queue buffer (R134): sixteen queues and the shared pool. -/
structure HqState where
  q : Bank 16 Queue
  pool : Nat
  /-- items withdrawn with ADM_CANCELLED, with their queue, oldest first: the reports to their origins (R42) -/
  cancelled : List (Nat × QItem) := []
deriving DecidableEq, Repr

/-- One event core (R145 to R149): the item it handles, its result word and its inbox header. -/
structure Core where
  running : Option Work := none
  result : Word := 0
  /-- payload in the inbox, and the dispatch sequence number of the item header (R148) -/
  inbox : List Byte := []
  seq : Nat := 0
  /-- SYS cycles that the handler has run up to its last start or resumption, and the monotonic count of that (R150) -/
  ran : Nat := 0
  since : Nat := 0
  /-- a debug halt of the core (R542) -/
  halted : Bool := false
deriving DecidableEq, Repr

/-- The scheduler (R143 to R146): the ready lists in the order of joining, the round pointer, the quantum left and the
dispatch sequence number. -/
structure SchedState where
  ready : List Work := []
  pointer : Nat := 0
  quantum : Nat := 0
  seq : Nat := 0
  nextId : Nat := 0
  /-- monotonic count at which work last joined, started or ended: the pointer is judged in later cycles (R145) -/
  judged : Nat := 0
  cores : Bank 8 Core := Bank.rep 8 {}
deriving DecidableEq, Repr

-- ===== chapter 16: time base =====

/-- A master heard by the ordinary clock (R422): its rank for the BMCA, its port, and the monotonic count at which its
announce receipt time-out ends. -/
structure PtpMaster where
  identity : Nat
  rank : Nat
  port : Nat
  utc : Nat
  utcValid : Bool
  expires : Nat
deriving DecidableEq, Repr

/-- A two-step Sync waiting for its Follow_Up (R422, R423): its port, source and sequence, the arrival and the
corrections gathered so far. -/
structure HeldSync where
  port : Nat
  source : Nat
  seqId : Nat
  rx : Int
  corr : Int
  /-- monotonic count of its arrival (R432) -/
  at_ : Nat := 0
deriving DecidableEq, Repr

/-- The time base (R416 to R428). PTP times, offsets and delays are in ns × 2^16. -/
structure TimeState where
  /-- disciplined time, in 2^-32 ns -/
  now : Instant := 0
  /-- monotonic count of SYS cycles (R417) -/
  mono : Nat := 0
  /-- disciplined time that has passed, steps left out: the time over which the master integrates (R109) -/
  elapsed : Nat := 0
  /-- integral I of the servo, in 2^-32 of 2^-16 ppm (R425) -/
  integ : Int := 0
  prevOfs : Option Int := none
  /-- consecutive Syncs below SYNC_THR, and at or above 4 × SYNC_THR (R420) -/
  below : Nat := 0
  above : Nat := 0
  /-- no offset has been measured since the servo started -/
  fresh : Bool := true
  master : Option PtpMaster := none
  known : List PtpMaster := []
  ownSync : Option HeldSync := none
  tcHeld : List HeldSync := []
  /-- mean path or link delay; none until measured on the present OC_PORT (R432) -/
  mpd : Option Int := none
  /-- Delay_Req or Pdelay_Req sent: sequence and departure -/
  delaySent : Option (Nat × Int) := none
  /-- two-step Pdelay_Resp heard: sequence, request receipt at the peer, arrival here, correction -/
  pdelayHeld : Option (Nat × Int × Int × Int) := none
  /-- last Sync used: origin with corrections, arrival -/
  lastSync : Option (Int × Int) := none
  seqId : Nat := 0
  /-- monotonic count of the last Delay_Req, and the interval that the master's last Delay_Resp asks for, as a logarithm (R422) -/
  reqAt : Option Nat := none
  reqLog : Option Int := none
  /-- ACCEPT written; the step waits for its boundary (R427) -/
  accepted : Bool := false
  /-- the offset of the first step under AUTO_INIT, waiting for its boundary -/
  firstStep : Option Int := none
  /-- FADJ values of the last 16 s, newest first: monotonic count and value (R428) -/
  history : List (Nat × Int) := []
  holdFrom : Option Nat := none
  lastStep : Option Nat := none
  /-- the last message sent on each PL port -/
  sent : List PtpTx := []
  /-- the last frame of an event core that each PL port has sent (R136) -/
  out : List (Nat × List Byte) := []
  /-- W1C bits that hardware has set in the present SYS cycle, by register, and the registers as they stood before it (R14) -/
  hits : List (Nat × Word) := []
  was : Store 32 := []
deriving DecidableEq, Repr

-- ===== chapter 03: modes, start-up, supply =====

/-- SYS and PWR beside their registers: the monotonic count of the last kick and of the watchdog's expiry (R82), the dip in
progress and its least VIN in mV (R100), whether the load came from autostart (R92), the recovery endpoint (R89), a failed
read-back of SANITISE (R86), the flush of R99. -/
structure SysState where
  kicked : Nat := 0
  expired : Option Nat := none
  dipStart : Option Nat := none
  dipMin : Nat := 0
  autostart : Bool := false
  recovery : Bool := false
  sanitiseFail : Option (Nat × Nat) := none
  /-- records are written as part of the flush (R487) -/
  flushing : Bool := false
  commitDue : Bool := false
  /-- the commit takes a Loam snapshot: VIN fell in RUN (R99) -/
  commitSnap : Bool := false
  /-- SYS_START as it stood at the present start (R105) -/
  start : Word := 0
  /-- AGEING_WARN has been raised (R574) -/
  aged : Bool := false
  /-- a token was in force when the reset came (R546) -/
  relock : Bool := false
  /-- numbers of the free values that stand as CFG_SEC_NONCE and DBG_CHAL (R537, R546) -/
  nonceAt : Nat := 0
  chalAt : Nat := 1
  /-- SVN of the running boot image (R87) -/
  bootSvn : Nat := 0
deriving DecidableEq, Repr

-- ===== chapter 18: fault collector =====

/-- A fault entry (R464). -/
structure FltEntry where
  idx : Nat
  source : Nat
  kind : Nat
  cls : Nat
  level : Nat
  ctx : Nat
  first : Instant
  firstMono : Nat
  count : Nat := 0
  esc : Bool
  acked : Bool := false
  cause : Bool
  scope : GroupMask
  cat1 : GroupMask
  /-- axes that have not yet met the supervision of R461 -/
  pend : List Nat := []
  /-- monotonic counts at which it was acknowledged (R473) and at which its cause ended, and the last repeat with its
  monotonic count -/
  ackAt : Option Nat := none
  endedAt : Option Nat := none
  again : Option (Nat × FaultMsg) := none
deriving DecidableEq, Repr

/-- The fault collector (R454, R464, R470, R471): messages on the dedicated path, entries in index order, the FLT_MSG
FIFO and its captured words. -/
structure FltState where
  path : List FaultMsg := []
  entries : List FltEntry := []
  seq : Nat := 0
  fifo : List FltMsg := []
  captured : List Word := []
  /-- monotonic count at which the minimum interval of ERR_N ends -/
  errMin : Option Nat := none
  /-- monotonic count of the SYS cycle in which the last message was taken (R454) -/
  takenAt : Option Nat := none
deriving DecidableEq, Repr

-- ===== chapter 19: recorder =====

/-- A token bucket of the recorder (R483, R484): tokens in 2^-16, when they were last filled (disciplined time is never
used: the monotonic count is), and the occurrences suppressed. -/
structure RecBucket where
  /-- the code, or 0xFFFF for the shared bucket -/
  code : Nat
  rate : Nat
  burst : Nat
  prio : Nat
  plenMax : Nat
  tokens : Nat
  filledAt : Nat
  supp : Nat := 0
  first : Instant := 0
  last : Instant := 0
deriving DecidableEq, Repr

/-- The event recorder beside its store: buckets, the FAULT record that is ready, the drop episode (counts by priority
and the time of the first drop), where the writer stands. -/
structure RecState where
  buckets : List RecBucket := []
  faultReady : List RecItem := []
  episode : Option (List Nat × Instant) := none
  /-- first records of a failed SANITISE and the START record wait here, not in HQ8 (R86, R480) -/
  own : List RecItem := []
  oldBlk : Nat := 0
deriving DecidableEq, Repr

-- ===== chapter 04: master angle and event wheel =====

/-- A token bucket: RATE a second, BURST tokens, the parts of 1/800,000,000 token held and when it was last filled. -/
structure TokenBucket where
  rate : Nat := 0
  burst : Nat := 0
  tokens : Nat := 0
  filledAt : Nat := 0
deriving DecidableEq, Repr

/-- A stored descriptor: its handle, the number of its insertion (R118, R132), and whether W has stood on the near side of
its occurrence, so that a crossing can still come (R117). -/
structure WDesc where
  handle : Nat
  seq : Nat
  d : Descriptor
  armed : Bool := true
deriving DecidableEq, Repr

/-- An entry of a latch FIFO: time, M and polarity of the edge (R129), and the SYS cycle that entered it (R14). -/
structure LatchEntry where
  time : Instant
  m : Nat
  rising : Bool
  at_ : Nat
deriving DecidableEq, Repr

/-- Master and wheel (R106 to R132). The master stands at an anchor: pos in 2^-64 mc, spd in 2^-64 mc/s, and the
elapsed time and monotonic count of the anchor; what follows is computed from there. -/
structure WheelState where
  pos : Int := 0
  spd : Int := 0
  atElapsed : Nat := 0
  atMono : Nat := 0
  /-- PULL: monotonic count since which |e| ≤ 64 mc has held (R112); the ramp to the new speed before pull-in runs (R113) -/
  okSince : Option Nat := none
  ramping : Bool := false
  /-- M as the last loop tick latched it (R29, R106) -/
  tick : Nat := 0
  /-- real master: offset in 2^-32 mc, and whether it has been set (R114) -/
  offset : Int := 0
  referenced : Bool := false
  /-- real master stopped by lost feedback (R115) -/
  held : Bool := false
  /-- wheel position W of a real master (R116) -/
  w : Nat := 0
  descs : List WDesc := []
  nextHandle : Nat := 1
  nextSeq : Nat := 0
  /-- slots staged: first and last, by slot number P / 2^SLOT_SHIFT (R122) -/
  staged : Int × Int := (0, 2)
  /-- pulses in progress on EV pins and field outputs: number and the monotonic count of the end -/
  pinPulses : List (Nat × Nat) := []
  foutPulses : List (Nat × Nat) := []
  /-- latch windows: the monotonic count at which they end -/
  windows : Bank 8 (Option Nat) := Bank.rep 8 none
  latches : Bank 8 (List LatchEntry) := Bank.rep 8 []
  hostBucket : TokenBucket := {}
  coreBucket : TokenBucket := {}
deriving DecidableEq, Repr

-- ===== chapter 06: feedback ports =====

/-- A change of a port's count that no latch has taken yet (R164): its sample, the change, its kind (0 an accepted edge, 1 an
index correction, 2 a referencing) and the count after it. -/
structure FbMove where
  t : Nat
  d : Int
  kind : Nat
  c : Int
deriving DecidableEq, Repr

/-- An FB port beside its registers (R152 to R178). -/
structure FbPort where
  /-- the latest accepted edge, or SSI sample: monotonic count and direction (R114) -/
  last : Option (Nat × Int) := none
  /-- changes since the last latch, newest first -/
  moves : List FbMove := []
  /-- last edge before the last latch: time, direction and count; and the edge before it (R170) -/
  eLast : Option (Nat × Int × Int) := none
  eBefore : Option (Nat × Int) := none
  /-- speed estimate, Q32.16 counts/s (R170) -/
  est : Int := 0
  countMode : Bool := false
  /-- standstill, and the direction and number of edges in one direction since it was entered (R170, R171) -/
  still : Bool := true
  sinceStill : Int × Nat := (0, 0)
  /-- illegal transitions of the present and of the last complete millisecond frame (R158) -/
  illNow : Nat := 0
  illPrev : Nat := 0
  /-- SSI: the last valid field, bad frames in succession and whether the last one failed only its CRC (R162, R163) -/
  ssiField : Option Nat := none
  badRun : Nat := 0
  badCrcOnly : Bool := false
  /-- SSI: the two latest valid positions with their sample instants, newest first (R172) -/
  ssiLast : Option (Nat × Int) := none
  ssiPrev : Option (Nat × Int) := none
  /-- an SSI frame since the last latch was bad -/
  aged : Bool := false
  /-- SSI: referenced again at the next valid frame (R177) -/
  rerefer : Bool := false
  /-- Hall state 000 or 111 since (R160) -/
  hallSince : Option Nat := none
  /-- count at the last index event; no index seen where one was due (R169) -/
  lastIdx : Option Int := none
  idxLate : Bool := false
  /-- an index correction waits for the next sample: monotonic count and change (R168) -/
  corr : Option (Nat × Int) := none
  /-- monotonic count of the last write of REF_ARM (R180) -/
  armedAt : Option Nat := none
  /-- warm start of an absolute axis: latched position in the snapshot and window in counts (R93) -/
  warm : Option (Int × Nat) := none
deriving DecidableEq, Repr

-- ===== chapters 06 to 09: tiles =====

/-- A remote drive's feedback record (R178). -/
structure RmtRec where
  pos : Int
  tsamp : Nat
  status : Nat
  tq : Int
deriving DecidableEq, Repr

/-- A state of motion: position, velocity and acceleration in units of 2^-64 count, count/s and count/s². -/
structure PState where
  p : Int := 0
  v : Int := 0
  a : Int := 0
deriving DecidableEq, Repr

/-- A phase of a plan: its jerk in 2^-64 counts/s³ and its length in 2^-64 s (R192). -/
structure Phase where
  jerk : Int
  dur : Nat
deriving DecidableEq, Repr

/-- A plan (R192, R193): where it starts, its phases, the point of rest or the speed it ends in, the planned time after
which its segment is complete (none where the limits do not let it reach its target), and the time run, in 2^-32 ns of
scaled time. -/
structure Plan where
  start : PState
  phases : List Phase
  endP : Option Int
  endV : Int
  reach : Option Nat
  tau : Nat
deriving DecidableEq, Repr

/-- A blend of the follow unit (R204, R206): the gaps at its start in 2^-64 and the ticks since. -/
structure FlwBlend where
  gp : Int
  gv : Int
  k : Nat
deriving DecidableEq, Repr

/-- A follow unit (R202 to R208): g, v_g and OFS_eff in 2^-64, the lead of the last latch, the blend, and the gear words that
wait for the latch, each with the monotonic instant of its write (R26). -/
structure Follow where
  g : Int := 0
  vg : Int := 0
  ofs : Int := 0
  lead : Int := 0
  blend : Option FlwBlend := none
  fresh : Bool := false
  gear : List (Nat × Nat × Word) := []
deriving DecidableEq, Repr

/-- The oscillation detector (R274): h and y in 2^-16 count, the last e, whether |y| has reached AMP, the ticks run and
the crossing ticks, newest first. -/
structure Osc where
  h : Int := 0
  y : Int := 0
  e : Option Int := none
  armed : Bool := false
  k : Nat := 0
  cross : List Nat := []
  /-- the sign that y had last -/
  sgn : Int := 0
deriving DecidableEq, Repr

/-- Loop state of a tile beside TILE_LP (R271, R272): the variant that ran last (4 for the lost-feedback entry), whether it
was in OFF, an output that stands as u_old, the blend, the detector and the delayed setpoints. -/
structure LoopState where
  ran : Option Nat := none
  wasOff : Bool := true
  /-- the output word as applied last, blend included (R271) -/
  applied : Int := 0
  uOld : Option Int := none
  blend : Option (Int × Nat) := none
  osc : Osc := {}
  delay : List Int := []
deriving DecidableEq, Repr

/-- A tile beside its registers: what planner, step generator, feedback latch and loop hold. -/
structure Tile where
  /-- SEGMENT_GO: elapsed time of the crossing that claimed the held segment (R198) -/
  go : Option Nat := none
  /-- remote feedback: the last fresh record, the one before it, and whether the newest frame brought a fresh one (R179) -/
  rmt : Option RmtRec := none
  rmtPrev : Option RmtRec := none
  /-- the first fresh record after a step of ring time forms no speed (R431) -/
  rmtStep : Bool := false
  /-- offset of SETPOS (R200) -/
  setOfs : Int := 0
  /-- torque command and velocity integrator that the loop program released last (R174, R266), Q15 -/
  tqcmd : Int := 0
  vint : Int := 0
  /-- magnitudes of the integrator over the ticks at which the frozen conditions have held, newest first (R174) -/
  frz : List Nat := []
  /-- the count at the last tick (R174) -/
  frzPos : Option Int := none
  /-- SETPOS has marked the axis referenced (R200) -/
  setRef : Bool := false
  /-- planner: commanded state in scaled time, and as commanded: v in 2^-24 counts/s, a in 2^-16 counts/s² (R184) -/
  ps : PState := {}
  cv : Int := 0
  ca : Int := 0
  plan : Option Plan := none
  /-- active segment, whether it has completed, and its resolved target in Q32.32; the target is a soft limit (R211) -/
  active : Option Segment := none
  complete : Bool := false
  dest : Option Int := none
  atLim : Bool := false
  queued : List Segment := []
  held : Option Segment := none
  /-- segments admitted since the last latch (R190) -/
  admitted : Nat := 0
  /-- limit registers written, with the monotonic instants of the writes; in force at the first latch after them (R26, R185) -/
  limPend : List (Nat × Nat × Word) := []
  /-- TILE_PLN_CTL.STOP and QSTOP, written at these monotonic instants, wait for a later latch; a quick stop is running
  (R26, R194) -/
  stopReq : Option Nat := none
  qstopReq : Option Nat := none
  qstop : Bool := false
  /-- HOME searches its index (R199) -/
  searching : Bool := false
  flw : Follow := {}
  /-- raw move: its target, where X stood at its start, and the distance that waits for the planner (R226) -/
  rawTo : Option Int := none
  rawFrom : Int := 0
  rawShift : Int := 0
  /-- SETPOS on a generator tile moved X and kept the phase: what is added to X for the phase (R200) -/
  phase : Int := 0
  /-- shifts of p that moved no step: what is added to the generator's input, in counts (R166, R200, R226) -/
  genOfs : Int := 0
  /-- LOOP cycle up to which the resolution level has followed the speed (R227) -/
  lvlAt : Nat := 0
  /-- step generator: its input of this tick (2^-32 count, 2^-24 count/s, 2^-16 count/s²), the monotonic count of the
  latch, the sign of its last change of X, a coarser level that is due (R222, R223, R228) -/
  gp : Int := 0
  gv : Int := 0
  ga : Int := 0
  gAt : Nat := 0
  up : Bool := true
  due : Bool := false
  /-- loop ticks for which X has not changed, X at the last tick, ticks of HOLDING and of stall risk (R234 to R236) -/
  stillTicks : Nat := 0
  tickX : Int := 0
  holdTicks : Nat := 0
  stallTicks : Nat := 0
  /-- the amplitude rises to IHOLD after the gate lines became active (R246) -/
  rampUp : Bool := false
  /-- step output: rising edges of the last steps, newest first, the direction line and the instant at which it takes its
  level (R224) -/
  steps : List Nat := []
  dirLine : Bool := false
  dirAt : Nat := 0
  /-- monotonic count of the start of the raw move (R226) -/
  rawAt : Nat := 0
  /-- step-generator inputs released by OUT GEN: p, v, a, I (R266) -/
  gen : Option (Int × Int × Int × Nat) := none
  lp : LoopState := {}
deriving DecidableEq, Repr

-- ===== chapters 07 to 09: analog inputs and clusters =====

/-- An analog input: its last conversions, newest first, the consecutive latches at full scale, whether no conversion came for
10 µs, the conversions after the latch point of the last tick, and the instant of the last one (R202, R208). -/
structure Ain where
  hist : List Int := []
  run : Nat := 0
  dead : Bool := false
  late : List (Nat × Int) := []
  lastAt : Option Nat := none
deriving DecidableEq, Repr

/-- A half-bridge: the switch that it calls for, and since when: SYS cycles in a coil (an instant), LOOP cycles held at the last
boundary in a PWM phase (R214, R230, R238). -/
structure Leg where
  high : Bool := false
  since : Nat := 0
deriving DecidableEq, Repr

/-- One coil of a STEPPER port (R230 to R235): chopper state, fast decay forced by R231, the monotonic count of the last
change and of the last accounting, target, what the present current-loop period has seen, and the sums of the load and
resistance estimates (μV × 2^15 and mΩ); its left and right half-bridges. -/
structure Coil where
  on : Bool := false
  forced : Bool := false
  since : Nat := 0
  star : Int := 0
  hit : Bool := false
  allOn : Bool := true
  steady : Bool := true
  accAt : Nat := 0
  dAcc : Int := 0
  mPrev : Int := 0
  emf : Int := 0
  rSum : Int := 0
  rN : Nat := 0
  left : Leg := {}
  right : Leg := {}
deriving DecidableEq, Repr

/-- A power port beside its registers: coils A and B, compare values in force and those written, newest first, with the instants
of their writes, the legs of the PWM phases at the last boundary, the end of a calibration, and the fast-filter values last
seen (R219, R220, R238, R239, R242). -/
structure PowerPort where
  coilA : Coil := {}
  coilB : Coil := {}
  compare : List Nat := [0, 0, 0]
  waiting : List (List (Nat × Nat)) := [[], [], []]
  legs : List Leg := [{}, {}, {}]
  calEnd : Option Nat := none
  fast : List Int := [0, 0, 0]
deriving DecidableEq, Repr

/-- A cluster beside its registers: the change of its override s over the last tick, in 2^-16 (R196). -/
structure Cluster where
  sdot : Int := 0
  /-- data memory: tile blocks, state and scratch; the two parameter banks by word address (R254) -/
  mem : Store 32 := []
  par0 : Store 32 := []
  par1 : Store 32 := []
  /-- accumulators in 2^-30, integer registers and address registers -/
  a0 : Int := 0
  a1 : Int := 0
  d : Bank 8 Word := Bank.rep 8 0
  ap : Bank 8 Nat := Bank.rep 8 0
  /-- the write buffer (R255) -/
  wbuf : Option (Nat × Word) := none
  /-- zero-overhead loops, innermost first: first and last address, rounds left -/
  loops : List (Nat × Nat × Nat) := []
  /-- program counter, loops and withheld tiles of a paused tick section (R257, R263) -/
  paused : Option (Nat × List (Nat × Nat × Nat) × List Nat) := none
  /-- the monotonic instant at which the last current section ended (R263), and the program counter that CL_ENG_PC shows frozen
  while a fault bit of CL_ENG_STAT stands (R278) -/
  curEnd : Nat := 0
  frozenPc : Nat := 0
  /-- tiles whose outputs are withheld in this section (R257) -/
  withheld : List Nat := []
  /-- the arm's solver result is usable (R270) -/
  usable : Bool := false
  /-- a debug halt of the engine (R73) -/
  halted : Bool := false
deriving DecidableEq, Repr

-- ===== chapter 10: solver =====

/-- A factor L D Lᵀ: rows of L below the diagonal, and the reciprocals of D (R286). -/
structure QFactor where
  l : List (List Int) := []
  dinv : List Int := []
deriving DecidableEq, Repr

/-- A point of the iteration (R289). -/
structure QPoint where
  z : List Int
  x : List Int
  y : List Int
deriving DecidableEq, Repr

/-- An open window: the frame of its job, bounds and gradient, the completed iterate, the iterations, and whether a test of
this iterate has been made. -/
structure QWindow where
  frame : Nat
  q : List Int
  l : List Int
  u : List Int
  it : QPoint
  k : Nat := 0
  tested : Bool := false
deriving DecidableEq, Repr

/-- A result on its way: frame, KIND, iterations and the iterate (none for SHIFTED), and the cause of a shift. -/
structure QResult where
  frame : Nat
  kind : Nat
  iters : Nat
  point : Option QPoint
  cause : Nat
deriving DecidableEq, Repr

/-- An arm's solver state: the job offered last (frame, s_cap, θ), the window, the result of the ended window, the last
accepted solution and the shifts since, the factors, a factorisation in progress (the old ladder index), and a double-bit
error in constant data. -/
structure QArm where
  job : Option (Nat × Nat × List Int) := none
  win : Option QWindow := none
  res : Option QResult := none
  good : Option QPoint := none
  c : Nat := 0
  active : QFactor := {}
  fact : Option Nat := none
  dead : Bool := false
  /-- the result in use: frame and iterations -/
  frame : Nat := 0
  iters : Nat := 0
  kind : Nat := 0
  usable : Bool := false
  stale : Bool := false
  /-- cause of a job that was refused or lost, and the code of the last refusal (R45, R297) -/
  lost : Nat := 0
  refused : Nat := 0
  /-- a range excursion: the next window starts at RHO_INIT (R285) -/
  reinit : Bool := false
deriving DecidableEq, Repr

-- ===== chapter 20: acquisition =====

/-- A block of frames (R497): number, flags, raw index of its first frame's interval, raw samples lost before it, the place of
the trigger frame, and its frames. -/
structure AcqBlock where
  seq : Nat
  flags : Nat := 0
  first : Nat
  lost : Nat
  trigFr : Nat := 0xFFFF
  frames : List (List Byte) := []
deriving DecidableEq, Repr

/-- The acquisition engine beside its registers (R494 to R505). -/
structure AcqState where
  /-- trigger sources asserted since the last raw sample: wheel, fault, force (R501), each with the monotonic counts of the first
  and the last time; one of the SYS cycle of a sample belongs to the sample after it (R26) -/
  pendWheel : Option (Nat × Nat) := none
  pendFault : Option (Nat × Nat) := none
  pendForce : Option (Nat × Nat) := none
  /-- the trigger recorded last: its monotonic count and the words of the registers before it, for a STOP of the same SYS cycle
  (R506) -/
  undo : Option (Nat × List (Nat × Word)) := none
  /-- boundary of the next raw sample, none before sampling starts; its raw index -/
  next : Option Instant := none
  idx : Nat := 0
  /-- conditions T0 to T3 whose far side has been seen (RISE, FALL) -/
  beyond : List Bool := [false, false, false, false]
  /-- the interval in progress: its first raw index, samples so far, last values, minima and maxima -/
  ivFirst : Nat := 0
  ivLen : Nat := 0
  last : List Nat := []
  mins : List Nat := []
  maxs : List Nat := []
  /-- block in progress, number of the next block, frames stored, raw samples lost since the last block, and a gap due -/
  cur : Option AcqBlock := none
  seq : Nat := 0
  stored : Nat := 0
  lost : Nat := 0
  /-- raw index of the trigger sample, the trigger frame not yet stored, the block that holds it, frames stored after it -/
  trig : Option Nat := none
  trigDue : Bool := false
  trigBlk : Option Nat := none
  post : Nat := 0
  /-- the first violation and the first dropped block of this capture have been reported -/
  violated : Bool := false
  dropped : Bool := false
  /-- blocks by ring index: in the SRAM, staged for HQ9, and in the DRAM region -/
  sram : List (Nat × AcqBlock) := []
  staged : List AcqBlock := []
  dram : List (Nat × AcqBlock) := []
deriving DecidableEq, Repr

-- ===== chapter 02: loader and changeover =====

/-- An image that is held: its identity and its decoded content (R46, R47). -/
structure Image where
  slot : Nat
  sid : Nat
  hash : List Word
  svn : Nat
  st : Structure
deriving DecidableEq, Repr

/-- What a load meets beside the bytes in flash (R54): whether both signatures verify under the keys that the boot image
carries, the SAFETY body as each Hardpan channel reads it where that differs from the flash (R55), the section that breaks a
limit which the decoded content does not show, and the decoded content of the sections. -/
structure LoadVerdict where
  rsa : Bool
  slh : Bool
  readA : Option (List Byte) := none
  readB : Option (List Byte) := none
  limit : Option Nat := none
  st : Structure
deriving DecidableEq, Repr

/-- The loader and the changeover (R54 to R70). -/
structure CfgState where
  run : Option Image := none
  shadow : Option Image := none
  /-- axes carried by the changeover (R60) -/
  carried : List Nat := []
  /-- slot of the load or shadow load in progress -/
  loading : Option Nat := none
  /-- an image that has passed its checks and waits for the nodes (R57), and since when -/
  nodesFor : Option Image := none
  nodesFrom : Nat := 0
  /-- millisecond frames since the end of LOAD with the monotonic count of the latest, eligible cycles counted towards SWAP_LIM,
  and the latest eligible cycle: its monotonic count and the master angle latched there (R62, R63) -/
  frames : Nat := 0
  frameAt : Option Nat := none
  tried : Option Nat := none
  angle : Nat := 0
  eligibleAt : Option Nat := none
  /-- the SYS cycles of the latest current-loop boundary, loop tick and millisecond frame taken (R22) -/
  curAt : Option Nat := none
  tickAt : Option Nat := none
  msAt : Option Nat := none
  /-- after T_S: when t_POST ends (R67), and a notice to the Hardpan that waits (R66) -/
  postEnd : Option Nat := none
  notice : Bool := false
  /-- the shadow load in progress is a shadow load, not a cold load -/
  isShadow : Bool := false
deriving DecidableEq, Repr

-- ===== chapters 11 and 12: Hardpan =====

/-- A group in one channel (R333): 0 OFF, 1 STARTING, 2 ON, 3 SS1, with the ends of its timers and the monotonic count at
which a restart was last accepted. -/
structure GroupSt where
  state : Nat := 0
  ss1End : Nat := 0
  startEnd : Nat := 0
  startAt : Nat := 0
deriving DecidableEq, Repr

/-- A position mirror set (R31): sequence number, grid step of the tick, positions of all axes in counts. -/
structure Mirror where
  seq : Nat
  step : Nat
  pos : List Int
deriving DecidableEq, Repr

/-- An arm's results of a cycle in one channel (R309, R314, R317). Distances in 0.1 mm, speeds in mm/s; partners are
capsule numbers or person slots, 127 none. -/
structure ArmRes where
  /-- smallest distance to another arm -/
  dmin : Nat := 65535
  /-- distance of the pair that binds the cap, its partner, own capsule and S_ab -/
  d : Nat := 65535
  partner : Nat := 127
  own : Nat := 0
  sab : Nat := 0
  dp : Nat := 65535
  slot : Nat := 127
  pown : Nat := 0
  sap : Nat := 0
  v : Nat := 0
  cap : Nat := 0
  viol : Bool := false
  /-- the conditions of R316 hold in this cycle -/
  clear : Bool := false
deriving DecidableEq, Repr

/-- One Hardpan channel: its groups, violation latches, cycles of clearance, the set taken last, whether the next cycle is
the first, its results, the last switch codes read and its unlock permits. -/
structure HChan where
  groups : Bank 4 GroupSt := Bank.rep 4 {}
  viol : Nat := 0
  clear : List Nat := List.replicate 12 0
  taken : Option Mirror := none
  first : Bool := true
  res : List ArmRes := List.replicate 12 {}
  codes : List Nat := []
  permits : Nat := 0
deriving DecidableEq, Repr

/-- A field-side die as its channel sees it (R330, R336): outputs commanded by verified frames, whether the die has switched
them off for want of frames, those at the last frame back, readbacks, raw inputs, monotonic counts and sequence numbers of
the last frames that verified in either direction, and lock permits. -/
structure DieSt where
  applied : Nat := 0
  cut : Bool := false
  seqDie : Option Nat := none
  seqChan : Option Nat := none
  seen : Nat := 0
  rb : Nat := 0
  inputs : Nat := 0
  toDie : Nat := 0
  toChan : Nat := 0
  permits : Nat := 0
deriving DecidableEq, Repr

/-- A safety-input pair (R339 to R341): filtered levels and since when a raw level differs, discrepancy since, held by a
fault, whether by a short, whether the demand state has been shown, clean checks in succession, the supply whose check
has confirmed the short and the supply of the input. -/
structure PairSt where
  f1 : Bool := false
  f2 : Bool := false
  s1 : Option Nat := none
  s2 : Option Nat := none
  disc : Option Nat := none
  held : Bool := false
  short : Bool := false
  shown : Bool := false
  clean : Nat := 0
  shortBy : Nat := 0
  shortOn : Nat := 0
  released : Bool := false
deriving DecidableEq, Repr

/-- A test-pulse supply (R341): its pulse runs, the monotonic counts of that pulse's end and of the next pulse's start, the
levels before it, the end of the hold, and the inputs that mismatched at its last check. -/
structure TpSt where
  active : Bool := false
  stop : Nat := 0
  next : Nat := 0
  snap : Nat := 0
  holdEnd : Nat := 0
  mism : Nat := 0
deriving DecidableEq, Repr

/-- A safe connection (R338): last accepted SEQ, its monotonic count, lost, last status byte, and the SEQ that each channel
has put into its last telegram. -/
structure ConnSt where
  num : Nat
  seq : Option Nat := none
  at_ : Nat := 0
  lost : Bool := false
  status : Nat := 0
  txSeq : Nat := 0
  txSeqB : Nat := 0
deriving DecidableEq, Repr

/-- A person track (R306): position, radius and height in mm. -/
structure Track where
  x : Int
  y : Int
  r : Nat
  h : Nat
deriving DecidableEq, Repr

/-- A valid payload of a scanner source (R306, R307): the monotonic count at which both channels had it, FIELD_OK and the
tracks. -/
structure ScanPay where
  at_ : Nat
  ok : Bool
  tracks : List Track
deriving DecidableEq, Repr

/-- A scanner source (R307): its newest valid payload and the one before it, the payload taken at the last cycle start, and
whether it is lost. -/
structure SrcSt where
  new : Option ScanPay := none
  old : Option ScanPay := none
  cur : Option ScanPay := none
  lost : Bool := false
deriving DecidableEq, Repr

/-- A cap set (R318): sequence number, set, schedule id, CAP and VIOL of each arm. -/
structure CapSet where
  seq : Nat
  set : Nat
  sid : Nat
  caps : List Nat
  viol : Nat
deriving DecidableEq, Repr

/-- The Hardpan beside its registers. -/
structure SafeState where
  /-- its own copies of SAFETY and KINE, and the schedule id they belong to (R55, R66) -/
  safety : Safety := {}
  kine : List KineArm := []
  sid : Nat := 0
  loaded : Bool := false
  /-- index of the set in use, code in use, pending code with the monotonic count of its becoming so and the one before it,
  the last reading of the switches, and since when the channels' codes disagree (R342, R344, R346) -/
  set : Nat := 0
  code : Nat := 0
  pend : Option Nat := none
  pendAt : Nat := 0
  pendWas : Option Nat := none
  readAt : Option Nat := none
  /-- from a swap notice to the next cycle: the set, its index and its schedule id that the monitoring keeps (R66) -/
  monOld : Option (SafSet × Nat × Nat) := none
  codeDiff : Option Nat := none
  chans : Bank 2 HChan := Bank.rep 2 {}
  dies : Bank 2 DieSt := Bank.rep 2 {}
  pairs : Bank 32 PairSt := Bank.rep 32 {}
  tps : Bank 4 TpSt := Bank.rep 4 {}
  conns : List ConnSt := []
  sources : Bank 8 SrcSt := Bank.rep 8 {}
  /-- newest mirror set, its monotonic count, and the set before it -/
  mirror : Option Mirror := none
  mirrorOld : Option Mirror := none
  mirrorAt : Nat := 0
  mirrorSeq : Nat := 0
  mirrorStale : Bool := false
  /-- the start of the last cycle of the channels (R308) -/
  hpAt : Option Nat := none
  /-- the cap buffer with the monotonic count of its publication and the set before, the set taken last, the boundaries at
  which its number has been the same, and whether that staleness has been raised (R319) -/
  caps : Option CapSet := none
  capsAt : Nat := 0
  capsOld : Option CapSet := none
  staleTold : Bool := false
  taken : Option CapSet := none
  same : Nat := 0
  capSeq : Nat := 0
  /-- consecutive disagreeing cycles, and whether SSM_XCMP has been raised for them (R320) -/
  xrun : Nat := 0
  xtold : Bool := false
  /-- a cycle's results wait for the exchange -/
  cycled : Bool := false
  /-- restart inputs: monotonic counts of the rise and of the last qualifying fall (R334) -/
  rise : Bank 4 (Option Nat) := Bank.rep 4 none
  fall : Bank 4 (Option Nat) := Bank.rep 4 none
  /-- off-pulses running: bit 4 × side + group, and the start of each output's last one (R336) -/
  pulses : Nat := 0
  pulseAt : Bank 8 (Option Nat) := Bank.rep 8 none
  /-- readbacks of both outputs of a group have been off since (R335) -/
  offSince : Bank 4 (Option Nat) := Bank.rep 4 none
  /-- difference of the channels' group or pair states since, the last exchange and the last evaluation of the pairs (R329,
  R339) -/
  evalAt : Option Nat := none
  diff : Option Nat := none
  exchAt : Nat := 0
  /-- door permits: withdrawn since, and counted as locked (R352) -/
  withdrawn : Bank 8 (Option Nat) := Bank.rep 8 none
  lockset : Nat := 0
deriving DecidableEq, Repr

-- ===== chapter 13: doors =====

/-- A door beside its registers (R355 to R360): unlock request, LOCK_OUT as the DOOR block commands it, since when T_LOCK
or T_CLCONF runs, ticks at or above the threshold, segments for the next latch, direction that was blocked (+1 towards
POS_OPEN), whether the reversal has begun and must end at rest, learning strokes due with the values recorded, peaks of
this stroke by bin, whether it started at an end, and the cycle's data. -/
structure DoorSt where
  request : Bool := false
  lockOut : Bool := false
  since : Option Nat := none
  overN : Nat := 0
  segs : List Segment := []
  blocked : Int := 0
  revGo : Bool := false
  revEnd : Bool := false
  learnO : Bool := false
  learnC : Bool := false
  recO : Option (List (Option Int)) := none
  recC : Option (List (Option Int)) := none
  peaks : List (Option Int) := []
  full : Bool := false
  /-- stop of a search has been ordered (R356) -/
  found : Bool := false
  cyc : Bool := false
  flags : Nat := 0
  openFrom : Nat := 0
  tOpen : Nat := 0
  closeFrom : Option Nat := none
  openAt : Option Nat := none
  /-- SYS cycles spent in OPEN (R360) -/
  dwell : Nat := 0
  peakO : Int := 0
  peakC : Int := 0
  nObst : Nat := 0
  obst : Option (Int × Int) := none
  /-- the applied output stood above CLOSE_CAP in the closing direction at the last tick (R350) -/
  forced : Bool := false
deriving DecidableEq, Repr

-- ===== chapters 14 and 15: rings =====

/-- What a node has reported in LINK messages (R410): links, looping, and the monotonic count of the last change. -/
structure NodeLink where
  node : Nat
  p : Bool
  s : Bool
  loop : Bool
  at_ : Nat
deriving DecidableEq, Repr

/-- A copy sent in the present ring cycle: its frame, whether it has returned good, and whether it is counted missing. -/
structure RCopy where
  f : RFrame
  got : Bool := false
  missing : Bool := false
deriving DecidableEq, Repr

/-- The last valid frame that the unit heard as a node (R387): CYCLE, TDEP, the monotonic count of its arrival, and the
distances δ, or δ_P and δ_S, in ns (R378, R407). -/
structure Heard where
  cycle : Nat
  tdep : Nat
  at_ : Nat
  delta : Int
  deltaS : Int := 0
deriving DecidableEq, Repr

/-- A Kesyn ring beside its registers. -/
structure RingState where
  /-- disciplined time of the next ring-cycle boundary, and the CYCLE that departs there -/
  nextDep : Instant := 0
  nextCyc : Nat := 0
  /-- staged payloads by segment since closure, and the payloads sent last -/
  closed : Option (List (Nat × List Byte)) := none
  /-- segments with an item refused since the last closure, with the monotonic count of the refusal (R141) -/
  refused : List (Nat × Nat) := []
  /-- monotonic count of the first departure since the contest was won (R412) -/
  firstAt : Option Nat := none
  lastPay : List (Nat × List Byte) := []
  txSeq : List (Nat × Nat) := []
  rxSeq : List (Nat × Nat) := []
  /-- copies of the present cycle (in WIDE, frames 0 and 1) -/
  cp : Option RCopy := none
  cs : Option RCopy := none
  /-- the P frame of this cycle arrived at S with HCRC verified (R403) -/
  atS : Bool := false
  /-- segments of this cycle seen VALID, IN records fresh, and whether its accounting is done -/
  valid : List Nat := []
  /-- segments of this cycle taken: VALID, with a new SEQ (R375) -/
  taken : List Nat := []
  fresh : List Nat := []
  done : Bool := true
  rttP : Nat := 0
  rttS : Nat := 0
  /-- cycle C of a CLOSE, and whether KR_CLOSED is due with it (R411) -/
  closeAt : Option Nat := none
  closing : Option Nat := none
  /-- consecutive cycles without a returned copy, and open with a silent PAIR segment (R449) -/
  noCopy : Nat := 0
  parts : Nat := 0
  pairSeen : Bool := false
  pairArmed : Bool := false
  pairMiss : Nat := 0
  /-- claim contest (R397, R398): first claim, own claim returned on the opposite port -/
  claimFrom : Option Nat := none
  /-- the last claim sent, when, and the number of the next (R396, R397) -/
  claimTx : Option RFrame := none
  claimAt : Option Nat := none
  cseq : Nat := 0
  closedFound : Option Bool := none
  /-- the ring was found closed at its start (R57, R400) -/
  wired : Option Bool := none
  /-- epoch of a valid CYCLE frame from another source since VERIFY (R451), and whether any epoch has been seen (R394) -/
  foreign : Option Nat := none
  seen : Bool := false
  /-- service messages down, oldest first, with the fragment due; fragments heard; the node granted last -/
  svcDn : List SvcMsg := []
  svcFrag : Nat := 0
  /-- TAG of the next message of the unit itself -/
  svcTag : Nat := 0
  svcUp : List (SvcMsg × Nat × Nat) := []
  grant : Nat := 511
  links : List NodeLink := []
  idents : List (Nat × List Byte) := []
  siltRaised : List Nat := []
  /-- in NODE: the last valid frame, and whether the unit is JOINED (R387, R388) -/
  heard : Option Heard := none
  full : Bool := false
  /-- CYCLE of the frame 1 worked last (WIDE), and port (S) and MODE of the last working pass of frame 0 and of frame 1 (R405) -/
  heard1 : Option Nat := none
  pass0 : Option (Bool × Nat) := none
  pass1 : Option (Bool × Nat) := none
  /-- a direction change: the distance is taken from the next frame (R405) -/
  afresh : Bool := false
  /-- consecutive arrivals outside the window (R380) -/
  drifts : Nat := 0
  /-- highest epoch seen as a node, and since when no valid frame has come (R395) -/
  nodeEpoch : Option Nat := none
  epochAt : Nat := 0
  /-- monotonic count of the last valid frame, of either frame in WIDE -/
  validAt : Option Nat := none
  /-- the unit loops frames back as a node, and a change of that or of a link is to be reported (R402, R410) -/
  looping : Bool := false
  linkDue : Bool := false
  /-- the frame forwarded last, as sent on, with its FCS (R376) -/
  fwd : Option (RFrame × Nat) := none
deriving DecidableEq, Repr

-- ===== chapter 21: field inputs and outputs =====

/-- A field-side die as the FIO block sees it (R510): monotonic count of its last valid refresh (none: none yet, or lost
under R511), its data, and VFIELD in mV as it measured it. -/
structure FioDie where
  rx : Option Nat := none
  /-- monotonic count at which the last refresh departed to the die (R510) -/
  txAt : Option Nat := none
  /-- FIELD_BARRIER has been raised for the present loss -/
  lost : Bool := false
  /-- a frame of the present, or of the last, barrier cycle has been discarded (R510) -/
  bad : Bool := false
  spoilt : Bool := false
  /-- the die status, and the seal of its safety frame as the rotating words bring it (R510) -/
  status : Nat := 0
  sealWord : Nat := 0
  /-- rotating words of the present barrier cycle, with their index, until it is complete (R25, R37) -/
  rotNew : List (Nat × Nat) := []
  /-- frames sent to the die in the present pair of barrier cycles; the settings that this pair carries, and those in force at
  the die (R510) -/
  txIdx : Nat := 0
  cfgNew : List Nat := []
  cfg : List Nat := []
  raw : Word := 0
  rb : Nat := 0
  tp : Nat := 0
  /-- pulse bits of the refresh before -/
  tpWas : Nat := 0
  ff : Bool := false
  vf : Option Nat := none
deriving DecidableEq, Repr

/-- The filter of an input (R513): output and counter. -/
structure InFilt where
  out : Bool := false
  cnt : Nat := 0
deriving DecidableEq, Repr

/-- FIO beside its registers: the dies, the filters, the levels the last refresh frames carried with the monotonic count of
each output's last change, the end of RECOVER, START in force, since when FIELD_FAULT is 1, and the VFIELD minima since the
last read and since the last FIO_SUPPLY record. -/
structure FioState where
  dies : Bank 2 FioDie := Bank.rep 2 {}
  filt : Bank 64 InFilt := Bank.rep 64 {}
  sent : Nat := 0
  changed : List Nat := List.replicate 32 0
  start : Bool := true
  recover : Option Nat := none
  /-- monotonic count of the last accepted RESUME (R519) -/
  resumedAt : Option Nat := none
  ffSince : Option Nat := none
  minRead : Option Nat := none
  minSup : Option Nat := none
deriving DecidableEq, Repr

/-- Memories that no other block of State holds: LPDDR4X, the local memories of the event cores; and the words that a debug
access has placed in the program banks of a cluster or in a solver memory, whose layouts the spec does not give, each with
bit 32 set as the mark that it was placed (R545). -/
structure MemState where
  dram : Store 8 := []
  core : Bank 8 (Store 8) := Bank.rep 8 []
  prog : Bank 12 (Store 33) := Bank.rep 12 []
  solver : Bank 4 (Store 33) := Bank.rep 4 []
  /-- nothing has been distributed into the program banks and solver memories since SANITISE: they hold zeros (R84) -/
  wiped : Bool := true
deriving DecidableEq, Repr

-- ===== chapter 22: host, security, debug =====

/-- A fetched command that has not completed (R531, R533): its number, class and TAG, and whether its completion is to be
dropped (R549). -/
structure HostOpen where
  id : Nat
  cls : Nat
  tag : Nat
  drop : Bool := false
deriving DecidableEq, Repr

/-- A SLOT_WRITE in progress (R534): its command, slot, byte offset, LAST and the bytes. -/
structure SlotJob where
  w : Work
  slot : Nat
  off : Nat
  last : Bool
  bytes : List Byte
deriving DecidableEq, Repr

/-- A job of the security engine (R537 to R539, R547): kind 0 signed command, 1 ATTEST, 2 token; the host command it came by
(none: a token by the TAP), its bytes (of an ATTEST: what it will write), and whether its signatures verify. -/
structure SecJob where
  kind : Nat
  w : Option Work
  bytes : List Byte
  rsa : Bool
  slh : Bool
deriving DecidableEq, Repr

/-- The TAP (R541): instruction register, the data register captured last (length and value), the boundary-scan register
and the token buffer, newest byte first. -/
structure TapState where
  ir : Nat := 2
  len : Nat := 1
  dr : Nat := 0
  bsr : List Bool := []
  token : List Byte := []
deriving DecidableEq, Repr

/-- The host interface, the security engine and the debug module beside their registers: what the endpoint has written into
host memory, the PHASE wraps, how often each MSI-X vector has fired (R528), and the scope and end of the token in force. -/
structure HostState where
  opened : List HostOpen := []
  mem : Store 8 := []
  wraps : Nat := 0
  msix : Bank 8 Nat := Bank.rep 8 0
  slotJob : Option SlotJob := none
  secJobs : List SecJob := []
  tap : TapState := {}
  scope : Nat := 0
  tokenEnd : Option Nat := none
deriving DecidableEq, Repr

-- ===== nonvolatile memory =====

/-- A tile in a snapshot (R440): axis, active, queued and held segments, limits in force, referenced, latched position and
loop state. -/
structure TileSnap where
  axis : Nat
  active : Option Segment
  queued : List Segment
  held : Option Segment
  lims : Nat × Nat × Nat × Nat
  ref : Bool
  pos : Int
  lp : LoopState
  /-- the planner's commanded state -/
  ps : PState := {}
deriving DecidableEq, Repr

/-- A Loam snapshot (R440) by its content: header, tiles, clusters (data memory from 0x0200 and loop state words, override
and its rate), solver (applied solution, shift count, ladder index), doors (profile words, tag, cycle count), FADJ, the
last cap set and the firmware region. -/
structure Snap where
  seq : Nat
  len : Nat
  hash : List Word
  time : Instant
  pos : Int
  spd : Int
  mst : Nat
  cyc0 : Nat
  cyc1 : Nat
  epoch : Nat
  tiles : List TileSnap
  clusters : List (Store 32 × Nat × Int)
  solver : List (Option QPoint × Nat × Nat)
  doors : List (List Word × Option Nat × Nat)
  fadj : Int
  caps : Option CapSet
  fw : Store 8
  /-- the time base's state (TIME_STAT), and the state of each door -/
  tstat : Word := 0
  doorState : List Nat := []
deriving DecidableEq, Repr

-- ===== chapter 17: the pair =====

/-- The pair beside the RED registers: SEQ captured last; the snapshot that is streamed (SEQ, L, hash, capture time); the one
that is received (SNAP and the ranges that have arrived); the capture time of the newest valid snapshot sent or received; the
trigger of the takeover under way and whether its snapshot is restored; rings whose RED_PEER_LOST has been raised; a full
valid cycle has been taken (R446); the PAIR record written last (R439). -/
structure PairState where
  seq : Nat := 0
  stream : Option (Nat × Nat × List Word × Instant) := none
  /-- a capture whose firmware region waits for the ordering key FW_KEY (R441) -/
  capWait : Option Snap := none
  rx : Option (Nat × List (Nat × Nat)) := none
  time : Option Instant := none
  trigger : Nat := 0
  restored : Bool := false
  peerLost : List Nat := []
  took : Bool := false
  record : List Byte := []
deriving DecidableEq, Repr

/-- MRAM and flash (R85, R557): the recorder store and the rest of MRAM as bytes, the life-cycle mark, the flash, and
what OTP holds beside its registers. Registers that MRAM or OTP backs keep their words through a reset. -/
structure NvState where
  mram : Store 8 := []
  lcMark : Nat := 0
  /-- tags of the doors' profiles (R358) -/
  doorTags : Bank 8 (Option Nat) := Bank.rep 8 none
  /-- 48-bit SERIAL of OTP (R396) -/
  serial : Nat := 0
  /-- the bytes of the snapshot that the checkpoint link engine streams (R442) -/
  loamOut : Store 8 := []
  /-- Loam buffers A and B: a snapshot with its valid mark, or none (R440) -/
  loam : Bank 2 (Option Snap) := Bank.rep 2 none
  /-- SEQ that the header of each buffer shows, whatever its mark; 0 in a buffer never written (R92, R489) -/
  loamSeq : Bank 2 Nat := Bank.rep 2 0
  /-- flash, the slot directory (Kaolin slots 0 to 7, boot images 8 and 9), and the offset at which each slot being written
  goes on (R53, R534) -/
  flash : Store 8 := []
  dir : Bank 10 (Option DirEntry) := Bank.rep 10 none
  writing : Bank 10 (Option Nat) := Bank.rep 10 none
  /-- sectors of the boot slots erased in this recovery (R529) -/
  erased : List Nat := []
  /-- SHA-384 hashes of the key slots (R535) -/
  keyHash : Bank 8 (List Byte) := Bank.rep 8 []
deriving DecidableEq, Repr

end Sys2Proof
end

