-- ==== Sys2Proof/Syntax.lean ====
section
/-! DEFINITION. The commands of the LX-1296: one constructor for each row of spec/opcode_table.json, each with its rule.
Operands are what comes from outside: written values, measured values, messages, instants (t: the monotonic count of SYS
cycles at the event, R417), and the verdicts of cryptography. -/

namespace Sys2Proof

/-- A command (a row of the opcode table). -/
inductive Instr where
  /-- GRID_STEP (R21). -/
  | gridStep (t : Nat)
  /-- CURRENT_LOOP_BOUNDARY (R22). -/
  | currentLoopBoundary (ch : List (Int × Int × Int)) (t : Nat)
  /-- LOOP_TICK (R29). -/
  | loopTick (conv : List (List (Nat × Int))) (mirrorBad : Bool) (t : Nat)
  /-- MILLISECOND_FRAME (R32). -/
  | millisecondFrame (t : Nat)
  /-- STAGING_CLOSE (R30). -/
  | stagingClose (r : Fin 2) (t : Nat)
  /-- MIRROR_STALE (R31). -/
  | mirrorStale (t : Nat)
  /-- CFG_LOAD (R56). -/
  | cfgLoad
  /-- LOAD_COMPLETE (R56). -/
  | loadComplete (v : LoadVerdict)
  /-- CFG_SHADOW (R57). -/
  | cfgShadow
  /-- SHADOW_LOAD_COMPLETE (R57). -/
  | shadowLoadComplete (v : LoadVerdict)
  /-- NODE_PENDING (R57). -/
  | nodePending (r : Fin 2) (n t : Nat)
  /-- CFG_DISCARD (R59). -/
  | cfgDiscard
  /-- CFG_ARM_CO (R61). -/
  | cfgArmCo
  /-- CFG_CANCEL_CO (R64). -/
  | cfgCancelCo
  /-- SWAP_INSTANT (R65). -/
  | swapInstant
  /-- CO_TIMEOUT (R63). -/
  | coTimeout
  /-- SWAP_NOTICE (R66). -/
  | swapNotice
  /-- CHANGEOVER_RETURN (R67). -/
  | changeoverReturn
  /-- CO_POSTCHECK (R67). -/
  | coPostcheck (t : Nat)
  /-- MODE_REQ_RUN (R75). -/
  | modeReqRun (key : Nat)
  /-- MODE_REQ_COMMISSION (R75). -/
  | modeReqCommission (key : Nat)
  /-- MODE_REQ_SAFE_HOLD (R75). -/
  | modeReqSafeHold (key : Nat)
  /-- MODE_REQ_BARE (R75). -/
  | modeReqBare (key : Nat)
  /-- MODE_REQ_TAKEOVER (R75). -/
  | modeReqTakeover (key : Nat)
  /-- POWER_ON_RESET (R79). -/
  | powerOnReset
  /-- RESET_N (R79): the land has been low for `low` ns. -/
  | resetN (low : Nat)
  /-- SWRST (R79). -/
  | swrst (key : Nat)
  /-- WD_KICK (R82). -/
  | wdKick (key : Nat) (t : Nat)
  /-- LOAM_RELEASE (R94). -/
  | loamRelease (key : Nat)
  /-- WDOG_EXPIRED (R82). -/
  | wdogExpired (t : Nat)
  /-- WATCHDOG_RESET (R82). -/
  | watchdogReset (t : Nat)
  /-- TEMP_WARN (R104). -/
  | tempWarn (sensor tenths : Nat)
  /-- THERM_RESET (R104). -/
  | thermReset (tenths : Nat)
  /-- RESET_RELEASE (R81): VIN, the microseconds for which it has stayed above VWARN + VWHYS, REF present with every PLL locked,
  the level of RESET_N, and the hottest junction sensor in 0.1 °C. -/
  | resetRelease (vinMv above : Nat) (refOk resetHigh : Bool) (hottest : Int)
  /-- SANITISE_DONE (R84). -/
  | sanitiseDone (fail : Option (Nat × Nat))
  /-- REC_SCAN_DONE (R480). -/
  | recScanDone (bad : Option Nat)
  /-- VERIFY_DONE (R87). -/
  | verifyDone (bootA bootB : BootVerdict) (rsa slh : Bool)
  /-- SYS_START_WRITE (R105). -/
  | sysStartWrite (value : Word)
  /-- VIN_BELOW_VWARN (R97). -/
  | vinBelowVwarn (mv t : Nat)
  /-- COMMIT_DONE (R99). -/
  | commitDone
  /-- VIN_RECOVER (R100). -/
  | vinRecover (mv minMv rise t : Nat)
  /-- VIN_BELOW_VRST (R101). -/
  | vinBelowVrst (mv : Nat)
  /-- VIN_OV (R101). -/
  | vinOv (mv : Nat)
  /-- PCIE_RESET (R80). -/
  | pcieReset
  /-- REF_LOST (R564). -/
  | refLost
  /-- RAIL_FAULT (R574). -/
  | railFault (monitor mv : Nat)
  /-- AGEING_WARN (R574). -/
  | ageingWarn (osc slow : Nat)
  /-- MONITOR_RECORD (R575). -/
  | monitorRecord (temps : List Int) (volts slows : List Nat)
  /-- WHEEL_VSPD_WRITE (R110). -/
  | wheelVspdWrite (w : Fin 2) (value : Word)
  /-- WHEEL_VACC_WRITE (R110). -/
  | wheelVaccWrite (value : Word)
  /-- WHEEL_PHASE_WRITE (R113). -/
  | wheelPhaseWrite (value : Word)
  /-- MASTER_LOCK (R113). -/
  | masterLock
  /-- MASTER_UNLOCK (R113). -/
  | masterUnlock
  /-- MASTER_LOCKED (R112). -/
  | masterLocked (t : Nat)
  /-- MASTER_RESUME (R115). -/
  | masterResume
  /-- MASTER_OVERSPEED (R131). -/
  | masterOverspeed (t : Nat)
  /-- WHEEL_REVERSAL (R116). -/
  | wheelReversal (t : Nat)
  /-- SLOT_STAGE (R122). -/
  | slotStage (t : Nat)
  /-- WHEEL_JUMP (R126). -/
  | wheelJump (t : Nat)
  /-- PIN_SET (R125). -/
  | pinSet (handle t : Nat)
  /-- PIN_CLEAR (R125). -/
  | pinClear (handle t : Nat)
  /-- PIN_PULSE (R119). -/
  | pinPulse (handle t : Nat)
  /-- PIN_PULSE_END (R119). -/
  | pinPulseEnd (pin : Fin 16) (t : Nat)
  /-- FOUT_SET (R128). -/
  | foutSet (handle t : Nat)
  /-- FOUT_CLEAR (R128). -/
  | foutClear (handle t : Nat)
  /-- FOUT_PULSE (R128). -/
  | foutPulse (handle t : Nat)
  /-- FOUT_PULSE_END (R119). -/
  | foutPulseEnd (out : Fin 32) (t : Nat)
  /-- DISPATCH (R120). -/
  | dispatch (handle t : Nat)
  /-- SEGMENT_GO (R198). -/
  | segmentGo (handle t : Nat)
  /-- ACQ_TRIG (R119). -/
  | acqTrig (handle t : Nat)
  /-- LATCH_ARM (R119). -/
  | latchArm (handle t : Nat)
  /-- LATCH_WINDOW_END (R129). -/
  | latchWindowEnd (lt : Fin 8) (t : Nat)
  /-- LATCH_EDGE (R129). -/
  | latchEdge (lt : Fin 8) (rising : Bool) (width t : Nat)
  /-- LATCH_READ (R129). -/
  | latchRead (lt : Fin 8)
  /-- MASTER_ANGLE_READ (R555). -/
  | masterAngleRead
  /-- WHEEL_INSERT (R123). -/
  | wheelInsert
  /-- WHEEL_CANCEL (R124). -/
  | wheelCancel (handle : Nat)
  /-- CORE_WHEEL_INSERT (R147). -/
  | coreWheelInsert (c : Fin 8) (d : Descriptor)
  /-- CORE_WHEEL_CANCEL (R147). -/
  | coreWheelCancel (c : Fin 8) (handle : Nat)
  /-- CORE_PUT (R149). -/
  | corePut (c : Fin 8) (queue len : Nat) (b : Body)
  /-- SHARED_CELL_GRANT (R139). -/
  | sharedCellGrant
  /-- DISPATCH_START (R145). -/
  | dispatchStart
  /-- HANDLER_RETURN (R148). -/
  | handlerReturn (c : Fin 8) (status : Byte)
  /-- HANDLER_OVERRUN (R150). -/
  | handlerOverrun (c : Fin 8)
  /-- CORE_BUS_ERR (R147). -/
  | coreBusErr (c : Fin 8) (address : Word) (width : Nat)
  /-- FAULT_LOG_ENTRY (R471). -/
  | faultLogEntry
  /-- RECORD_WRITE (R485). -/
  | recordWrite (bad : Option Nat)
  /-- RECORD_OFFER (R483). -/
  | recordOffer (core : Option (Fin 8)) (code prio : Nat) (payload : List Byte)
  /-- SUPPRESSED (R484). -/
  | suppressed (code t : Nat)
  /-- DROP_EPISODE_END (R486). -/
  | dropEpisodeEnd
  /-- FB_ILLEGAL_EDGE (R157). -/
  | fbIllegalEdge (p : Fin 32) (a b z : Bool) (na nb nz t : Nat)
  /-- ILLEGAL_BURST (R158). -/
  | illegalBurst (p : Fin 32)
  /-- SSI_FRAME (R161). -/
  | ssiFrame (p : Fin 32) (bits : List Bool) (startHigh stopLow : Bool) (t : Nat)
  /-- SSI_LOST (R163). -/
  | ssiLost (p : Fin 32)
  /-- HALL_INVALID (R160). -/
  | hallInvalid (p : Fin 32) (t : Nat)
  /-- WIRE_BREAK (R173). -/
  | wireBreak (p : Fin 32) (low : Bool) (stood t : Nat)
  /-- REMOTE_AGED (R179). -/
  | remoteAged (a : Fin 96)
  /-- FB_FROZEN (R174). -/
  | fbFrozen (a : Fin 96)
  /-- FB_LOST_CLEAR (R177). -/
  | fbLostClear (target : FbTarget) (value : Word)
  /-- INDEX_EVENT (R165). -/
  | indexEvent (p : Fin 32) (a b z : Bool) (na nb nz t : Nat)
  /-- FB_INDEX_MISSING (R169). -/
  | fbIndexMissing (p : Fin 32)
  /-- REF_ARM (R166). -/
  | refArm (p : Fin 32)
  /-- STANDSTILL (R171). -/
  | standstill (a : Fin 96) (t : Nat)
  /-- POS_SEGMENT (R188). -/
  | posSegment (a start : Nat) (relative withLimits : Bool) (target : Int) (vmax amax dmax jmax seq : Nat)
  /-- VEL_SEGMENT (R188). -/
  | velSegment (a start : Nat) (withLimits : Bool) (target : Int) (vmax amax dmax jmax seq : Nat)
  /-- STOP_SEGMENT (R188). -/
  | stopSegment (a seq : Nat)
  /-- LIMITS_SEGMENT (R189). -/
  | limitsSegment (a start vmax amax dmax jmax seq : Nat)
  /-- HOME_SEGMENT (R199). -/
  | homeSegment (a start : Nat) (withLimits : Bool) (target : Int) (vmax amax dmax jmax param seq : Nat)
  /-- SETPOS_SEGMENT (R200). -/
  | setposSegment (a start : Nat) (target : Int) (seq : Nat)
  /-- FOLLOW_SEGMENT (R203). -/
  | followSegment (a start : Nat) (withLimits : Bool) (vmax amax dmax jmax param seq : Nat)
  /-- SEGMENT_COMPLETE (R189). -/
  | segmentComplete (a : Fin 96)
  /-- PLN_STOP (R188). -/
  | plnStop (a : Fin 96)
  /-- PLN_QSTOP (R194). -/
  | plnQstop (a : Fin 96)
  /-- PLN_FLUSH (R212). -/
  | plnFlush (a : Fin 96)
  /-- PLANNER_LIMIT_WRITE (R185). -/
  | plannerLimitWrite (a : Fin 96) (reg : Fin 5) (value : Word)
  /-- PLN_HOME_FAIL (R199). -/
  | plnHomeFail (a : Fin 96)
  /-- FOLLOW_BLEND_END (R204). -/
  | followBlendEnd (a : Fin 96)
  /-- FOLLOW_GEAR_WRITE (R206). -/
  | followGearWrite (a : Fin 96) (ofs : Bool) (w : Fin 2) (value : Word)
  /-- PLN_FOLLOW_LOST (R208). -/
  | plnFollowLost (a : Fin 96)
  /-- RAW_MOVE (R225). -/
  | rawMove (a : Fin 96) (target : Word)
  /-- RAW_DONE (R226). -/
  | rawDone (a : Fin 96)
  /-- HOLD_CURRENT (R234). -/
  | holdCurrent (a : Fin 96)
  /-- RESISTANCE_LEARN (R235). -/
  | resistanceLearn (a : Fin 96)
  /-- STP_STALL_RISK (R236). -/
  | stpStallRisk (a : Fin 96)
  /-- STALL_RISK_CLEAR (R236). -/
  | stallRiskClear (a : Fin 96) (value : Word)
  /-- PP_CAL (R220). -/
  | ppCal (p : Fin 32)
  /-- CAL_DONE (R220). -/
  | calDone (p : Fin 32) (ch0 ch1 ch2 : Int) (t : Nat)
  /-- PP_BRIDGE_FAULT (R241). -/
  | ppBridgeFault (p : Fin 32) (low : Bool) (stood t : Nat)
  /-- PP_OVERCURRENT (R242). -/
  | ppOvercurrent (p : Fin 32) (ch : Fin 3) (value : Int)
  /-- PP_BUS_UV (R243). -/
  | ppBusUv (p : Fin 32)
  /-- PP_BUS_OV (R243). -/
  | ppBusOv (p : Fin 32)
  /-- PP_SD_LOST (R244). -/
  | ppSdLost (p : Fin 32) (ch : Fin 3) (cycles : Nat)
  /-- PP_FAULT_CLEAR (R245). -/
  | ppFaultClear (p : Fin 32) (value : Word) (fltLow sdAlive : Bool)
  /-- TICK_SECTION_START (R263). -/
  | tickSectionStart (c : Fin 12) (entry : Nat) (bad : List (Nat × Nat)) (t : Nat)
  /-- ENG_OVERRUN (R265). -/
  | engOverrun (c : Fin 12) (t : Nat)
  /-- MAC2 (R261). -/
  | engMac2 (c : Fin 12) (ecc : Nat) (a b : EAddr)
  /-- MPY (R250). -/
  | engMpy (c : Fin 12) (ecc : Nat) (l : Fin 2) (x y : EHalf)
  /-- MAC (R250). -/
  | engMac (c : Fin 12) (ecc : Nat) (l : Fin 2) (x y : EHalf)
  /-- MSU (R250). -/
  | engMsu (c : Fin 12) (ecc : Nat) (l : Fin 2) (x y : EHalf)
  /-- MPYI (R253). -/
  | engMpyi (c : Fin 12) (ecc : Nat) (l : Fin 2) (n : Fin 8) (q : EHalf) (sh : Nat)
  /-- LDX (R253). -/
  | engLdx (c : Fin 12) (ecc : Nat) (l : Fin 2) (a : EAddr) (wide : Bool) (f sh : Nat)
  /-- LDX_ADD (R253). -/
  | engLdxAdd (c : Fin 12) (ecc : Nat) (l : Fin 2) (a : EAddr) (wide : Bool) (f sh : Nat)
  /-- LDX_SUB (R253). -/
  | engLdxSub (c : Fin 12) (ecc : Nat) (l : Fin 2) (a : EAddr) (wide : Bool) (f sh : Nat)
  /-- ADDA (R261). -/
  | engAdda (c : Fin 12) (ecc : Nat) (l : Fin 2) (a : EHalf) (long : Bool)
  /-- SUBA (R261). -/
  | engSuba (c : Fin 12) (ecc : Nat) (l : Fin 2) (a : EHalf) (long : Bool)
  /-- CLMP (R261). -/
  | engClmp (c : Fin 12) (ecc : Nat) (l : Fin 2) (a : EHalf) (long : Bool)
  /-- NEG (R261). -/
  | engNeg (c : Fin 12) (l : Fin 2)
  /-- ABS (R261). -/
  | engAbs (c : Fin 12) (l : Fin 2)
  /-- STQ (R251). -/
  | engStq (c : Fin 12) (l : Fin 2) (a : EHalf) (sh : Int)
  /-- STL (R252). -/
  | engStl (c : Fin 12) (l : Fin 2) (a : EAddr)
  /-- DIFF (R253). -/
  | engDiff (c : Fin 12) (ecc : Nat) (n : Fin 8) (a b : EAddr)
  /-- LD (R261). -/
  | engLd (c : Fin 12) (ecc : Nat) (n : Fin 8) (a : EAddr)
  /-- ST (R255). -/
  | engSt (c : Fin 12) (n : Fin 8) (a : EAddr)
  /-- ADD (R261). -/
  | engAdd (c : Fin 12) (n : Fin 8) (m : ESrc)
  /-- SUB (R261). -/
  | engSub (c : Fin 12) (n : Fin 8) (m : ESrc)
  /-- AND (R261). -/
  | engAnd (c : Fin 12) (n : Fin 8) (m : ESrc)
  /-- OR (R261). -/
  | engOr (c : Fin 12) (n : Fin 8) (m : ESrc)
  /-- SHL (R261). -/
  | engShl (c : Fin 12) (n : Fin 8) (m : ESrc)
  /-- SHR (R261). -/
  | engShr (c : Fin 12) (n : Fin 8) (m : ESrc)
  /-- SINCOS (R261). -/
  | engSincos (c : Fin 12) (ecc : Nat) (a : EHalf) (b : EAddr)
  /-- VMAX (R262). -/
  | engVmax (c : Fin 12) (ecc : Nat) (l : Fin 2) (a : EAddr) (n : Nat)
  /-- VMIN (R262). -/
  | engVmin (c : Fin 12) (ecc : Nat) (l : Fin 2) (a : EAddr) (n : Nat)
  /-- VMAXA (R262). -/
  | engVmaxa (c : Fin 12) (ecc : Nat) (l : Fin 2) (a : EAddr) (n : Nat)
  /-- BR (R261). -/
  | engBr (c : Fin 12) (cond : ECond) (target : Nat)
  /-- LOOP (R261). -/
  | engLoop (c : Fin 12) (n last : Nat)
  /-- TILE (R261). -/
  | engTile (c : Fin 12) (t : Fin 8)
  /-- OUT_TQ (R266). -/
  | engOutTq (c : Fin 12)
  /-- OUT_DUTY (R266). -/
  | engOutDuty (c : Fin 12)
  /-- OUT_GEN (R266). -/
  | engOutGen (c : Fin 12)
  /-- OUT_RMT (R268). -/
  | engOutRmt (c : Fin 12)
  /-- END (R261). -/
  | engEnd (c : Fin 12) (t : Nat)
  /-- LP_OSC (R275). -/
  | lpOsc (a : Fin 96)
  /-- OSC_CLEAR (R275). -/
  | oscClear (a : Fin 96) (value : Word)
  /-- SOLVER_WINDOW_OPEN (R292). -/
  | solverWindowOpen (u : Fin 4) (j : Fin 12) (t : Nat)
  /-- SOLVER_ITERATION (R289). -/
  | solverIteration (u : Fin 4) (t : Nat)
  /-- SOLVER_TEST (R290). -/
  | solverTest (u : Fin 4) (t : Nat)
  /-- FACTORISATION_DONE (R286). -/
  | factorisationDone (u : Fin 4) (t : Nat)
  /-- SOLVER_DEADLINE (R293). -/
  | solverDeadline (u : Fin 4) (cols t : Nat)
  /-- SOLVER_PUBLISH (R296). -/
  | solverPublish (u : Fin 4) (j : Fin 12)
  /-- SOL_ECC (R298). -/
  | solEcc (u : Fin 4) (double : Bool) (const : Option (Fin 12)) (address : Nat)
  /-- HARDPAN_CYCLE (R309). -/
  | hardpanCycle (t : Nat)
  /-- SSM_EXCHANGE (R320). -/
  | ssmExchange (used : Nat)
  /-- SSM_XCMP (R320). -/
  | ssmXcmp (lateUs : Nat)
  /-- SSM_SCAN_LOST (R307). -/
  | ssmScanLost (n : Fin 8) (t : Nat)
  /-- VIOLATION_LATCH_CLEAR (R316). -/
  | violationLatchClear (a : Fin 12)
  /-- SSM_CAP_STALE (R319). -/
  | ssmCapStale
  /-- CHANNEL_EXCHANGE (R329). -/
  | channelExchange (pairs t : Nat)
  /-- SAFE_XCMP (R329). -/
  | safeXcmp (function which t : Nat)
  /-- SAFE_CLK (R329). -/
  | safeClk (c : Fin 2) (ppm : Int) (t : Nat)
  /-- SAFETY_FRAME (R330). -/
  | safetyFrame (d : Fin 2) (toDie : Bool) (seq inputs readbacks t : Nat)
  /-- SAFE_FRAME (R330). -/
  | safeFrame (d : Fin 2) (toDie : Bool) (t : Nat)
  /-- STO_RESTART_REQUEST (R334). -/
  | stoRestartRequest (groups key : Nat)
  /-- RESTART_INPUT (R334). -/
  | restartInput (g : Fin 4) (level : Bool) (t : Nat)
  /-- SAFE_START_FAIL (R333). -/
  | safeStartFail (g : Fin 4) (t : Nat)
  /-- SS1_EXPIRE (R333). -/
  | ss1Expire (g : Fin 4) (t : Nat)
  /-- OUTPUT_TEST_PULSE (R336). -/
  | outputTestPulse (side : Fin 2) (g : Fin 4)
  /-- OUTPUT_TEST_END (R336). -/
  | outputTestEnd (side : Fin 2) (g : Fin 4)
  /-- SAFE_TELEGRAM_RX (R338). -/
  | safeTelegramRx (bytes : List Byte) (t : Nat)
  /-- SAFE_CONN_LOST (R338). -/
  | safeConnLost (n t : Nat)
  /-- SAFETY_INPUT_EVAL (R339). -/
  | safetyInputEval (t : Nat)
  /-- SAFE_IN_DISC (R340). -/
  | safeInDisc (p : Fin 32) (t : Nat)
  /-- TEST_PULSE_START (R341). -/
  | testPulseStart (k : Fin 4) (t : Nat)
  /-- TEST_PULSE_CHECK (R341). -/
  | testPulseCheck (k : Fin 4) (t : Nat)
  /-- SAFECFG_READ (R342). -/
  | safecfgRead (codeA codeB : Fin 65536) (t : Nat)
  /-- SAFECFG_XCMP (R344). -/
  | safecfgXcmp (t : Nat)
  /-- DOOR_OPEN (R355). -/
  | doorOpen (d : Fin 8) (key : Nat)
  /-- DOOR_CLOSE (R355). -/
  | doorClose (d : Fin 8) (key : Nat)
  /-- DOOR_LOCK (R355). -/
  | doorLock (d : Fin 8) (key : Nat)
  /-- DOOR_STOP (R355). -/
  | doorStop (d : Fin 8) (key : Nat)
  /-- DOOR_LEARN (R358). -/
  | doorLearn (d : Fin 8) (key : Nat)
  /-- DOOR_ACK (R359). -/
  | doorAck (d : Fin 8) (key : Nat)
  /-- DOOR_CONF_CHANGE (R355). -/
  | doorConfChange (d : Fin 8) (level : Bool) (t : Nat)
  /-- DOOR_LOCK_FAIL (R355). -/
  | doorLockFail (d : Fin 8) (t : Nat)
  /-- DOOR_ARRIVED (R355). -/
  | doorArrived (d : Fin 8) (t : Nat)
  /-- DOOR_POS_MISMATCH (R355). -/
  | doorPosMismatch (d : Fin 8) (t : Nat)
  /-- DOOR_OBSTACLE (R357). -/
  | doorObstacle (d : Fin 8)
  /-- DOOR_EDGE (R357). -/
  | doorEdge (d : Fin 8) (level : Bool)
  /-- DOOR_LOCKSET (R352). -/
  | doorLockset (d : Fin 8) (t : Nat)
  /-- RING_CYCLE (R364). -/
  | ringCycle (r : Fin 2) (t : Nat)
  /-- RING_FRAME_RETURN (R381). -/
  | ringFrameReturn (r : Fin 2) (onS far : Bool) (f : RFrame) (rtt t : Nat)
  /-- KR_NODE_SILT (R375). -/
  | krNodeSilt (r : Fin 2) (n : Nat)
  /-- FOREIGN_FRAME (R366). -/
  | foreignFrame (r : Fin 2)
  /-- IDENT (R386). -/
  | ident (r : Fin 2) (n : Nat) (data : List Byte)
  /-- LAYOUT_ACK (R386). -/
  | layoutAck (r : Fin 2) (n sid : Nat)
  /-- LINK (R410). -/
  | link (r : Fin 2) (n : Nat) (p q loop : Bool) (t : Nat)
  /-- SVC_HANDLER_MESSAGE (R386). -/
  | svcHandlerMessage (r : Fin 2) (m : SvcMsg)
  /-- CLAIM_SEND (R397). -/
  | claimSend (r : Fin 2) (t : Nat)
  /-- CLAIM_RETURN (R397). -/
  | claimReturn (r : Fin 2) (opposite : Bool)
  /-- CLAIM_WIN (R398). -/
  | claimWin (r : Fin 2) (t : Nat)
  /-- HIGHER_STANDING_FRAME (R393). -/
  | higherStandingFrame (r : Fin 2) (onS : Bool) (f : RFrame)
  /-- RING_SILENCED (R449). -/
  | ringSilenced (r : Fin 2)
  /-- RING_LINK_CHANGE (R403). -/
  | ringLinkChange (r : Fin 2) (onS up : Bool)
  /-- CLOSE_READY (R410). -/
  | closeReady (r : Fin 2) (t : Nat)
  /-- KR_CLOSE (R411). -/
  | krClose (r : Fin 2) (key : Nat)
  /-- NODE_WORKING_PASS (R438). -/
  | nodeWorkingPass (r : Fin 2) (onS : Bool) (f : RFrame) (a : Int) (b t : Nat)
  /-- PTP_SYNC (R422). -/
  | ptpSync (m : PtpMsg)
  /-- PTP_FOLLOW_UP (R422). -/
  | ptpFollowUp (m : PtpMsg)
  /-- PTP_DELAY_REQ_SEND (R422). -/
  | ptpDelayReqSend (departure : Int) (t : Nat)
  /-- PTP_DELAY_RESP (R422). -/
  | ptpDelayResp (m : PtpMsg)
  /-- PTP_PDELAY_REQ (R421). -/
  | ptpPdelayReq (m : PtpMsg) (departure : Int)
  /-- PTP_PDELAY_RESP (R421). -/
  | ptpPdelayResp (m : PtpMsg)
  /-- PTP_PDELAY_RESP_FOLLOW_UP (R421). -/
  | ptpPdelayRespFollowUp (m : PtpMsg)
  /-- PTP_ANNOUNCE (R422). -/
  | ptpAnnounce (a : Announce) (t : Nat)
  /-- ANNOUNCE_TIMEOUT (R420). -/
  | announceTimeout (t : Nat)
  /-- TC_FORWARD (R423). -/
  | tcForward (kind : Nat) (m : PtpMsg) (residence : Nat)
  /-- PLANT_FRAME_RX (R422). -/
  | plantFrameRx (etherType : Nat) (bytes : List Byte)
  /-- TIME_ACCEPT (R427). -/
  | timeAccept (key : Nat)
  /-- TIME_STEP (R426). -/
  | timeStep
  /-- TIME_CFG_WRITE (R420). -/
  | timeCfgWrite (value : Word)
  /-- TIME_PTP_WRITE (R421). -/
  | timePtpWrite (value : Word)
  /-- TIME_RING_HOLDOVER (R420). -/
  | timeRingHoldover
  /-- TIME_NOW_READ (R418). -/
  | timeNowRead
  /-- LOAM_CAPTURE (R441). -/
  | loamCapture
  /-- CKPT_CHUNK_RX (R444). -/
  | ckptChunkRx (snap off len : Nat) (done : Option Snap)
  /-- TAKEOVER_TRIGGER (R447). -/
  | takeoverTrigger (r : Fin 2) (t : Nat)
  /-- RED_TAKEOVER_CMD (R447). -/
  | redTakeoverCmd (key : Nat)
  /-- TAKEOVER_RESTORED (R448). -/
  | takeoverRestored (t : Nat)
  /-- RED_PEER_LOST (R453). -/
  | redPeerLost (r : Fin 2)
  /-- FAULT_MESSAGE (R454). -/
  | faultMessage
  /-- FLT_L1_TIMEOUT (R461). -/
  | fltL1Timeout (e t : Nat)
  /-- FLT_ACK (R467). -/
  | fltAck (key classes : Nat)
  /-- FLT_CLR (R468). -/
  | fltClr (key entry : Nat) (all : Bool) (live : List Nat)
  /-- FLT_RAISE (R472). -/
  | fltRaise (value : Word)
  /-- ERR_SW_WRITE (R470). -/
  | errSwWrite (level : Bool)
  /-- ERRMIN_END (R470). -/
  | errminEnd (t : Nat)
  /-- FLT_MSG_READ (R471). -/
  | fltMsgRead
  /-- ACQ_ARM (R499). -/
  | acqArm
  /-- ACQ_STOP (R500). -/
  | acqStop
  /-- ACQ_FORCE (R501). -/
  | acqForce
  /-- ACQ_RAW_SAMPLE (R495). -/
  | acqRawSample (t : Nat)
  /-- BARRIER_REFRESH_TX (R510). -/
  | barrierRefreshTx (d : Fin 2) (t : Nat)
  /-- BARRIER_REFRESH_RX (R510). -/
  | barrierRefreshRx (d : Fin 2) (good : Bool) (idx : Fin 8) (raw : Word) (rb tp : Nat) (ff : Bool) (rot t : Nat)
  /-- FIELD_BARRIER (R511). -/
  | fieldBarrier (d : Fin 2) (t : Nat)
  /-- VF_LOW (R520). -/
  | vfLow (mv : Nat)
  /-- VF_LOWCLR (R520). -/
  | vfLowclr (mv : Nat)
  /-- VF_OFF (R520). -/
  | vfOff (mv : Nat)
  /-- VF_ON (R520). -/
  | vfOn (mv t : Nat)
  /-- RECOVER_END (R514). -/
  | recoverEnd (t : Nat)
  /-- FIO_RESUME (R519). -/
  | fioResume (key : Nat)
  /-- FIO_TEST_WRITE (R514). -/
  | fioTestWrite (key : Nat) (test : Bool)
  /-- FIO_OUT_WRITE (R517). -/
  | fioOutWrite (reg : Fin 3) (value : Word)
  /-- DOORBELL (R531). -/
  | doorbell (value : Word)
  /-- HOST_RING_CFG (R531). -/
  | hostRingCfg (cq : Bool) (value : Word)
  /-- COMMAND_FETCH (R531). -/
  | commandFetch (c : HostCmd)
  /-- HOST_SEGMENT (R532). -/
  | hostSegment
  /-- HOST_WHEEL_INS (R532). -/
  | hostWheelIns
  /-- HOST_WHEEL_CANCEL (R532). -/
  | hostWheelCancel
  /-- SLOT_WRITE (R534). -/
  | slotWrite (bytes : List Byte)
  /-- SLOT_ERASE (R532). -/
  | slotErase
  /-- SECURE_PROVISION (R538). -/
  | secureProvision (bytes : List Byte)
  /-- SECURE_ADD_KEY (R538). -/
  | secureAddKey (bytes : List Byte) (rsa slh : Bool)
  /-- SECURE_REVOKE (R538). -/
  | secureRevoke (bytes : List Byte) (rsa slh : Bool)
  /-- SECURE_SVN (R538). -/
  | secureSvn (bytes : List Byte) (rsa slh : Bool)
  /-- SECURE_LIFECYCLE (R91). -/
  | secureLifecycle (bytes : List Byte) (rsa slh : Bool)
  /-- ATTEST (R539). -/
  | attest (q : QuoteParts)
  /-- HOST_CANCEL (R589). -/
  | hostCancel
  /-- NOP (R532). -/
  | nop
  /-- DBG_TOKEN (R547). -/
  | dbgToken (bytes : List Byte) (rsa slh : Bool)
  /-- HOST_HANDLER_COMMAND (R532). -/
  | hostHandlerCommand
  /-- RECOVERY_FLASH_WRITE (R529). -/
  | recoveryFlashWrite (offset : Nat) (bytes : List Byte)
  /-- BAD_ACCESS (R554). -/
  | badAccess
  /-- REGISTER_WRITE (R12). -/
  | registerWrite (address : Nat) (value : Word) (e : WriteEnv)
  /-- READ_CLEAR (R14). -/
  | readClear (address : Nat)
  /-- MULTIWORD_READ (R555). -/
  | multiwordRead (address : Nat)
  /-- TAP_RESET (R541). -/
  | tapReset
  /-- TAP_EXTEST (R541). -/
  | tapExtest (captured shifted : List Bool)
  /-- TAP_SAMPLE_PRELOAD (R541). -/
  | tapSamplePreload (captured shifted : List Bool)
  /-- TAP_IDCODE (R541). -/
  | tapIdcode
  /-- TAP_DBGACC (R541). -/
  | tapDbgacc (write : Bool) (word : Fin 512) (data : Word) (e : WriteEnv)
  /-- TAP_TOKEN (R541). -/
  | tapToken (byte : Byte) (rsa slh : Bool)
  /-- TAP_CHAL (R541). -/
  | tapChal
  /-- TAP_TAPRST (R541). -/
  | tapTaprst
  /-- TAP_BYPASS (R541). -/
  | tapBypass
  /-- DBG_HALT (R542). -/
  | dbgHalt (key : Nat)
  /-- DBG_RESUME (R543). -/
  | dbgResume (key : Nat)
  /-- DBG_STEP (R542). -/
  | dbgStep (key : Nat) (instr : EInstr)
  /-- DBG_RELOCK (R546). -/
  | dbgRelock (key : Nat)
  /-- DBG_MEM_RD (R545). -/
  | dbgMemRd (key : Nat)
  /-- DBG_MEM_WR (R545). -/
  | dbgMemWr (key : Nat) (e : WriteEnv)
  /-- BREAKPOINT_HIT (R544). -/
  | breakpointHit (n : Fin 56)
  /-- TOKEN_EXPIRY (R546). -/
  | tokenExpiry (t : Nat)
  /-- FB_COUNT_EDGE (R153). -/
  | fbCountEdge (p : Fin 32) (a b z : Bool) (na nb nz t : Nat)
  /-- APPLIED_POSITION_STEP (R223). -/
  | appliedPositionStep (a : Fin 96) (t : Nat)
  /-- FAST_FILTER_SAMPLE (R230). -/
  | fastFilterSample (p : Fin 32) (ch : Fin 3) (value : Int) (t : Nat)
  /-- PLANT_FRAME_TX (R136). -/
  | plantFrameTx (port : Fin 2)
  /-- STREAM_BLOCK_WRITE (R136). -/
  | streamBlockWrite
  /-- SLOT_WRITE_DONE (R534). -/
  | slotWriteDone (ok : Bool)
  /-- SECURITY_ENGINE_DONE (R538). -/
  | securityEngineDone
deriving DecidableEq, Repr

end Sys2Proof
end

