-- ==== Sys2Proof/Machine/State.lean ====
section
/-! DEFINITION. The state of the LX-1296 as plain data, its outcomes, and the state right after reset. -/

namespace Sys2Proof.Machine

/-- Everything the spec gives the machine. Registers stand in regs, keyed by BAR0 address, where a word that is not
listed reads 0 (R551); the blocks hold what no register is the home of. -/
@[ext]
structure State where
  /-- commands that wait, first in, first out -/
  pending : List Instr
  regs : Store 32
  time : TimeState
  sys : SysState
  hq : HqState
  sched : SchedState
  flt : FltState
  recorder : RecState
  nv : NvState
  cfg : CfgState
  /-- data answered by the last register read -/
  rdData : Word
  wheel : WheelState
  fbps : Bank 32 FbPort
  tiles : Bank 96 Tile
  acq : AcqState
  /-- low words of multi-word registers, waiting for the write of the highest word (R555) -/
  lowWords : List (Nat × Word)
  ains : Bank 4 Ain
  clusters : Bank 12 Cluster
  /-- the clusters as they stood when the present SYS cycle began, which is what a probe of this cycle reads (R26, R495) -/
  clWas : Bank 12 Cluster
  pps : Bank 32 PowerPort
  qarms : Bank 12 QArm
  /-- sequence number of the millisecond frame -/
  frameSeq : Nat
  /-- jobs fall due at the loop tick of the millisecond-frame boundary (R33) -/
  jobsDue : Bool
  safe : SafeState
  doors : Bank 8 DoorSt
  rings : Bank 2 RingState
  fio : FioState
  pair : PairState
  mem : MemState
  /-- higher words captured by a read of word 0 of a multi-word register (R555) -/
  readWords : List (Nat × Word)
  host : HostState
  /-- counter of the free values taken so far: the model's own, not the spec's -/
  free : Nat
deriving DecidableEq, Repr

/-- Reasons for a fault of the machine. The LX-1296 reports its faults as messages (R454) and goes on, so no command
ends in one. -/
inductive Fault where
  /-- Raised by nothing: the spec gives the block no stop. Safe. -/
  | stopped
deriving DecidableEq, Repr

/-- Reasons for a refusal. -/
inductive Refusal where
  /-- A command whose meaning the model does not have yet, by its mnemonic. Safe. -/
  | notModelled (mnemonic : String)
deriving DecidableEq, Repr

/-- The words that do not read 0 after reset, by rising address (the Reset columns of the register tables). -/
def resetWords : Store 32 :=
  [(0x0, 0x00A11296), (0x10, 0x1), (0x1C, 0x1), (0x50004, 0x01F40464), (0x80004, 0x03E80324), (0x8000C, 0x3E8), (0x8003C, 0x408),
   (0x90024, 0xFFFF), (0x90030, 0xFFFFFFFF), (0xA0024, 0xFFFF), (0xA0030, 0xFFFFFFFF), (0xB0000, 0x60)] ++
  (List.range 12).flatMap (fun c =>
    (clBase c + 0xA00, 0x00010000) :: (List.range 8).map (fun t => (clBase c + 0x1000 * (t + 1) + 4, 6))) ++
  (List.range 4).map (fun u => (qsBase u, 0x3C)) ++
  [(0x300000, 0x000FF000), (0x300018, 0x10)]

/-- The machine right after reset. -/
def State.reset : State where
  pending := []
  regs := resetWords
  time := { was := resetWords }
  sys := {}
  hq := { q := Bank.rep 16 {}, pool := 65536 }
  sched := {}
  flt := {}
  recorder := {}
  nv := {}
  cfg := {}
  rdData := 0
  wheel := {}
  fbps := Bank.rep 32 {}
  tiles := Bank.rep 96 {}
  acq := {}
  lowWords := []
  ains := Bank.rep 4 {}
  clusters := Bank.rep 12 {}
  clWas := Bank.rep 12 {}
  pps := Bank.rep 32 {}
  qarms := Bank.rep 12 {}
  frameSeq := 0
  jobsDue := false
  safe := {}
  doors := Bank.rep 8 {}
  rings := Bank.rep 2 {}
  fio := {}
  pair := {}
  mem := {}
  readWords := []
  host := {}
  free := 2

end Sys2Proof.Machine
end

