-- ==== Sys2Proof/Machine/Ops.lean ====
section
/-! DEFINITION. The operations that every block shares: registers and their fields, saturating counters, the flow of
time, fault messages, the hardware queues, offers to the recorder and completions. -/

namespace Sys2Proof

/-- Cells held by a queue. -/
def Queue.cells (q : Queue) : Nat := q.resUsed + q.shUsed

/-- Cells an offer would take from the reserve, and from the shared pool (R135). -/
def Queue.split (q : Queue) (cells : Nat) : Nat × Nat :=
  let r := min cells (q.reserved - q.resUsed)
  (r, cells - r)

/-- The queues in the order in which freed shared cells are granted: ascending rank, then number (R136, R139). -/
def grantOrder : List Nat := [0, 1, 7, 8, 13, 6, 9, 11, 12, 14, 10, 2, 3, 4, 5, 15]

/-- All cells of an item are available now without exceeding the shared cap (R135). -/
def Queue.fits (q : Queue) (pool cells : Nat) : Bool :=
  (q.split cells).2 ≤ pool && q.shUsed + (q.split cells).2 ≤ q.cap

/-- One token, counted in parts: a bucket of RATE tokens a second gains RATE parts in each 2^-32 ns. -/
def tokenUnit : Nat := Config.secUnits

/-- A bucket filled up to an instant of the monotonic count, at inc units of 2^-32 ns a SYS cycle (R417, R483). -/
def RecBucket.fill (b : RecBucket) (inc t : Nat) : RecBucket :=
  { b with tokens := min (b.burst * tokenUnit) (b.tokens + b.rate * (t - b.filledAt) * inc), filledAt := max t b.filledAt }

/-- The recorder priority of a queue item. -/
def Body.prioOf (i : QItem) : Nat := match i.body with | .record x => x.prio | _ => 4

/-- The SUPPRESSED record of a bucket (R484). -/
def RecBucket.summary (b : RecBucket) (now : Instant) : RecItem :=
  { code := 2, prio := 3, time := now,
    payload := natLE 2 b.code ++ natLE 2 0 ++ natLE 4 b.supp ++ b.first.bytes ++ b.last.bytes }

/-- An item of a fault's context (R458): an instance or a code takes 9 bits, the first value all that remain. -/
inductive CtxItem where
  | inst (n : Nat)
  | code (n : Nat)
  | val (n : Nat)
  | sval (n : Int)
deriving DecidableEq, Repr

/-- A code of 9 bits for alternative n of a fault kind, whose number the spec does not state (R458). -/
def altCode (kind n : Nat) : CtxItem := .code (Config.faultCode kind n % 512)

/-- An item as the 32-bit word that the extension carries. -/
def CtxItem.word : CtxItem → Nat
  | .inst n => n
  | .code n => n
  | .val n => min n 4294967295
  | .sval n => wrapNat 32 (satInt 32 n)

/-- Context word and extension: items from bit 0 upwards in the order listed (R458). -/
def mkCtx : List CtxItem → Nat → Nat → Nat × List Nat
  | [], _, acc => (acc, [])
  | .val n :: is, pos, acc =>
    if pos < 32 then (acc + min n (2 ^ (32 - pos) - 1) * 2 ^ pos, (is.map CtxItem.word).take 4)
    else (acc, ((CtxItem.val n :: is).map CtxItem.word).take 4)
  | .sval n :: is, pos, acc =>
    if pos < 32 then (acc + wrapNat (32 - pos) (satInt (32 - pos) n) * 2 ^ pos, (is.map CtxItem.word).take 4)
    else (acc, ((CtxItem.sval n :: is).map CtxItem.word).take 4)
  | .inst n :: is, pos, acc =>
    if pos + 9 ≤ 32 then mkCtx is (pos + 9) (acc + n % 512 * 2 ^ pos)
    else (acc, ((CtxItem.inst n :: is).map CtxItem.word).take 4)
  | .code n :: is, pos, acc =>
    if pos + 9 ≤ 32 then mkCtx is (pos + 9) (acc + n % 512 * 2 ^ pos)
    else (acc, ((CtxItem.code n :: is).map CtxItem.word).take 4)

/-- A message with its context laid out. -/
def mkFault (source kind cls level : Nat) (items : List CtxItem) (scope : GroupMask := 15) (cond : Bool := false) : FaultMsg :=
  let p := mkCtx items 0 0
  { source := source, kind := kind, cls := cls, level := level, ctx := p.1, ext := p.2, scope := scope, cond := cond }

/-- Classes (R459). -/
def cINFO : Nat := 0
def cMINOR : Nat := 1
def cMAJOR : Nat := 2
def cCRITICAL : Nat := 3

/-- Sources of R455 that are one instance each. -/
def srcWHEEL : Nat := 0xD0
def srcSCHED : Nat := 0xD1
def srcKR (r : Nat) : Nat := 0xD2 + r
def srcTIME : Nat := 0xD4
def srcFIO : Nat := 0xD5
def srcREC : Nat := 0xD6
def srcACQ : Nat := 0xD7
def srcLOADER : Nat := 0xD8
def srcSYS : Nat := 0xD9
def srcPWR : Nat := 0xDA
def srcHOST : Nat := 0xDB
def srcRED : Nat := 0xDC
def srcFLT : Nat := 0xDD

/-- An event that a sampler sees is noted at a monotonic count: the first and the last time since the last sample (R26, R501). -/
def noted (x : Option (Nat × Nat)) (t : Nat) : Option (Nat × Nat) := some ((x.map (fun (p : Nat × Nat) => p.1)).getD t, t)

end Sys2Proof

namespace Sys2Proof.Machine

/-- The SCRAPPED life-cycle state (R90). -/
def lcSCRAPPED : Nat := 4

abbrev Out := Host.Outcome State Fault Refusal

/-- The state that an outcome goes on with. -/
def nextOf (s : State) (o : Out) : State := match o with | .next s' => s' | _ => s

namespace State

-- ===== registers =====

/-- The stored word of a register. -/
def rd (s : State) (a : Nat) : Word := s.regs.get 0 a
/-- The stored word of a register as a number. -/
def rdN (s : State) (a : Nat) : Nat := (s.rd a).toNat
/-- Write a register's stored word. -/
def wr (s : State) (a : Nat) (v : Word) : State := { s with regs := s.regs.set 0 a v }
/-- Write a register's stored word, given as a number. -/
def wrN (s : State) (a v : Nat) : State := s.wr a (BitVec.ofNat 32 v)
/-- A field of a register. -/
def f (s : State) (x : Fld) : Nat := x.get (s.rd x.reg)
/-- A one-bit field is 1. -/
def flag (s : State) (x : Fld) : Bool := s.f x != 0
/-- Write a field of a register. -/
def setF (s : State) (x : Fld) (v : Nat) : State := s.wr x.reg (x.put (s.rd x.reg) v)
/-- Set a one-bit field. -/
def setB (s : State) (x : Fld) (v : Bool) : State := s.setF x (b2n v)
/-- Hardware sets a one-bit W1C field, and the present SYS cycle notes it (R14). -/
def hit (s : State) (x : Fld) : State :=
  { s.setF x 1 with time := { s.time with hits := (x.reg, x.mask) :: s.time.hits } }
/-- Hardware sets W1C bits of a register by a mask (R14). -/
def hitBits (s : State) (a : Nat) (m : Word) : State :=
  { s.wr a (s.rd a ||| m) with time := { s.time with hits := (a, m) :: s.time.hits } }
/-- The W1C bits of a register that hardware has set in the present SYS cycle. -/
def hitMask (s : State) (a : Nat) : Word :=
  s.time.hits.foldl (fun (m : Word) (h : Nat × Word) => if h.1 = a then m ||| h.2 else m) 0
/-- Firmware clears bits of a register; a bit that hardware sets in this SYS cycle is set after it (R14). -/
def clearBits (s : State) (a : Nat) (m : Word) : State := s.wr a (s.rd a &&& ~~~(m &&& ~~~s.hitMask a))
/-- Hardware has set a one-bit field in the present SYS cycle. -/
def hitNow (s : State) (x : Fld) : Bool := (s.hitMask x.reg &&& x.mask) != 0
/-- Firmware clears a one-bit W1C field (R14). -/
def clearF (s : State) (x : Fld) : State := s.clearBits x.reg x.mask
/-- A two-word register, word 0 least significant (R11, R555). -/
def rd2 (s : State) (w : Nat → Nat) : Nat := s.rdN (w 0) + 4294967296 * s.rdN (w 1)
def wr2 (s : State) (w : Nat → Nat) (v : Nat) : State := (s.wrN (w 0) v).wrN (w 1) (v / 4294967296)
/-- A lower word of a multi-word register as it waits for the write of the highest word; the word in force where none waits
(R555). -/
def lowWord (s : State) (a : Nat) : Word :=
  match s.lowWords.find? (fun (x : Nat × Word) => x.1 == a) with | some x => x.2 | none => s.rd a
/-- A lower word waits, in place of one that waited before (R555, R558). -/
def holdLow (s : State) (a : Nat) (v : Word) : State := { s with lowWords := Store.insert (Store.erase s.lowWords a) a v }
/-- A lower word waits no longer. -/
def dropLow (s : State) (a : Nat) : State := { s with lowWords := Store.erase s.lowWords a }
/-- A signed one-word register. -/
def rdI (s : State) (a : Nat) : Int := (s.rd a).toInt
def wrI (s : State) (a : Nat) (v : Int) : State := s.wr a (BitVec.ofInt 32 v)
/-- Count in a saturating 32-bit counter (R12). -/
def bumpBy (s : State) (a n : Nat) : State := s.wrN a (min (s.rdN a + n) 4294967295)
def bump (s : State) (a : Nat) : State := s.bumpBy a 1
/-- Words at rising addresses, four bytes apart. -/
def wrWords (s : State) (a : Nat) : List Word → State
  | [] => s
  | w :: ws => wrWords (s.wr a w) (a + 4) ws
/-- Register words given by address. -/
def wrAll (s : State) : List (Nat × Word) → State
  | [] => s
  | p :: ps => wrAll (s.wr p.1 p.2) ps

-- ===== modes =====

def mode (s : State) : Nat := s.f SYS_MODE_MODE
def inMode (s : State) (ms : List Nat) : Bool := ms.contains s.mode

/-- A SCRAPPED device stays in VERIFY with only SYS_ID and SYS_LC readable (R90). -/
def scrappedMap (s : State) : Bool := s.f SYS_LC_STATE == lcSCRAPPED && s.mode ≤ mVERIFY
/-- The register map takes commands of the host: not in RESET, on the recovery endpoint (R89) or on a SCRAPPED device (R90). -/
def mapOpen (s : State) : Bool := s.mode != mRESET && !s.sys.recovery && !s.scrappedMap

-- ===== time =====

/-- Units of disciplined time added in one SYS cycle: 1.25 ns × (1 + FADJ), held to 2^-32 ns (R416), rounded to nearest with
ties to even (R10). FADJ is in 2^-16 ppm. -/
def cycleInc (s : State) : Nat :=
  ((Config.cycleUnits : Int) + roundHalfEven ((Config.cycleUnits : Int) * s.rdI TIME_FADJ) 65536000000).toNat

/-- k SYS cycles pass: the monotonic count and disciplined time advance (R416, R417); a new cycle starts without bits set in
it, over the registers and clusters as they stand (R14, R26). -/
def cycles (s : State) (k : Nat) : State :=
  let d := k * s.cycleInc
  { s with time := { s.time with
      mono := s.time.mono + k, now := s.time.now + d, elapsed := s.time.elapsed + d,
      hits := if k = 0 then s.time.hits else [], was := if k = 0 then s.time.was else s.regs },
           clWas := if k = 0 then s.clWas else s.clusters }

/-- One SYS cycle without a command: nothing runs in RESET, else time advances (R416, R417). -/
def sysCycle (s : State) : State := if s.mode = mRESET then s else s.cycles 1

/-- Time runs on to a monotonic count, never back. -/
def runTo (s : State) (t : Nat) : State := s.cycles (t - s.time.mono)

/-- The least number of SYS cycles that measure, under the present FADJ, an interval of some microseconds (R417). -/
def usCycles (s : State) (us : Nat) : Nat := (us * 1000 * Config.nsUnits + s.cycleInc - 1) / s.cycleInc
/-- The same for milliseconds. -/
def msCycles (s : State) (ms : Nat) : Nat := s.usCycles (1000 * ms)
/-- Microseconds that a number of SYS cycles measures under the present FADJ, rounded to nearest (R10, R417). -/
def usOf (s : State) (cycles : Nat) : Nat := (roundHalfEven (cycles * s.cycleInc : Nat) (1000 * Config.nsUnits)).toNat

/-- Milliseconds that a number of SYS cycles measures under the present FADJ, rounded to nearest (R10, R417). -/
def msOf (s : State) (cycles : Nat) : Nat := (roundHalfEven (cycles * s.cycleInc : Nat) (1000000 * Config.nsUnits)).toNat

/-- The least number of SYS cycles after which disciplined time has reached an instant. -/
def cyclesUntil (s : State) (t : Instant) : Nat := (t - s.time.now + s.cycleInc - 1) / s.cycleInc

/-- The present SYS cycle is the one in which disciplined time reaches a multiple of a period (R21, R22). -/
def onGrid (s : State) (period : Nat) : Bool := s.time.now % period < s.cycleInc

/-- The period of a ring's cycles (R24): k × 31.25 μs, in 2^-32 ns. -/
def ringPeriod (s : State) (r : Nat) : Nat := (max 1 (s.f (KR_CFG_K r))) * Config.gridUnits

/-- A step of disciplined time that the present millisecond-frame boundary takes, in ms (R426, R427): −offset rounded to a
whole millisecond. An accepted step waits out CHANGEOVER. -/
def stepDue (s : State) : Option Int :=
  let ofs : Option Int := match s.time.firstStep with
    | some o => some o
    | none => if s.time.accepted ∧ s.f SYS_MODE_MODE ≠ mCHANGEOVER then some (65536 * signed 64 (s.rd2 TIME_PEND)) else none
  if s.onGrid Config.msUnits then ofs.map (fun o => -(roundHalfEven o 65536000000)) else none

-- ===== free values =====

/-- Take the next free value. -/
def bumpFree (s : State) : State := { s with free := s.free + 1 }

-- ===== faults =====

/-- A fault message sets out on the dedicated path to the collector (R38, R454). -/
def raise (s : State) (m : FaultMsg) : State := { s with flt := { s.flt with path := s.flt.path ++ [{ m with at_ := s.time.mono }] } }

/-- The cause of a condition kind has ended: its entry's CAUSE flag falls (R466). -/
def endCause (s : State) (source kind : Nat) : State :=
  { s with flt := { s.flt with entries := s.flt.entries.map (fun e =>
      if e.source = source ∧ e.kind = kind ∧ e.cause then { e with cause := false, endedAt := some s.time.mono } else e) } }

-- ===== queues =====

def queue (s : State) (n : Fin 16) : Queue := s.hq.q.get n

end State

namespace State

/-- The high-water mark follows the cells held. -/
def markHigh (s : State) (n : Fin 16) : State :=
  s.wrN (HQ_HWM n) (max (s.rdN (HQ_HWM n)) (min (s.queue n).cells 65535))

/-- A producer of lower rank, or of the same rank and a lower queue number, waits for shared cells (R139). -/
def waitsAhead (s : State) (n : Fin 16) : Bool :=
  (grantOrder.takeWhile (· != n.val)).any (fun k => match s.hq.q.get? k with | some q => !q.waiting.isEmpty | none => false)

/-- Offer an item to a queue: admitted whole, or no trace (R135). Shared cells for which a producer ahead waits are not
taken (R139). -/
def offer (s : State) (n : Fin 16) (i : QItem) : Option State :=
  let q := s.queue n
  if q.fits s.hq.pool i.cells && ((q.split i.cells).2 == 0 || !s.waitsAhead n) then
    let p := q.split i.cells
    some (markHigh { s with hq := {
      q := s.hq.q.set n { q with items := q.items ++ [i], resUsed := q.resUsed + p.1, shUsed := q.shUsed + p.2 }
      pool := s.hq.pool - p.2 } } n)
  else none

/-- Offer an item; a refusal for want of cells is counted in HQn_CNT_REF (R135, R141). -/
def offerOr (s : State) (n : Fin 16) (i : QItem) : State × Bool :=
  match s.offer n i with
  | some s' => (s', true)
  | none => (s.bump (HQ_CNT_REF n), false)

/-- Cells of an item return: to the reserve until it is whole, then to the shared pool (R135). -/
def freeCells (s : State) (n : Fin 16) (c : Nat) : State :=
  let q := s.queue n
  let r := min c q.resUsed
  let sh := min (c - r) q.shUsed
  { s with hq := {
      q := s.hq.q.set n { q with resUsed := q.resUsed - r, shUsed := q.shUsed - sh }
      pool := s.hq.pool + sh } }

/-- Take the oldest item of a queue. -/
def take (s : State) (n : Fin 16) : Option (QItem × State) :=
  match (s.queue n).items with
  | [] => none
  | i :: is =>
    some (i, freeCells { s with hq := { s.hq with q := s.hq.q.set n { s.queue n with items := is } } } n i.cells)

/-- Remove from a queue every item for which a test holds; their cells return. -/
def withdraw (s : State) (n : Fin 16) (p : QItem → Bool) : State :=
  let out := (s.queue n).items.filter p
  freeCells { s with hq := { s.hq with q := s.hq.q.set n { s.queue n with items := (s.queue n).items.filter (fun i => !p i) } } } n
    ((out.map QItem.cells).foldl (· + ·) 0)

/-- Items of a queue are withdrawn with ADM_CANCELLED, reported for their origin (R42). -/
def cancelItems (s : State) (n : Fin 16) (p : QItem → Bool) : State :=
  let out := (s.queue n).items.filter p
  { s.withdraw n p with hq := { (s.withdraw n p).hq with cancelled := s.hq.cancelled ++ out.map (fun i => (n.val, i)) } }

-- ===== the running structure =====

/-- The content of the running image, empty where none runs. -/
def st (s : State) : Structure := match s.cfg.run with | some i => i.st | none => {}
/-- The window of a tile takes commands: one that the running structure does not use ignores them (R551). -/
def tileOpen (s : State) (axis : Nat) : Bool := s.mapOpen && s.st.axes.contains axis
/-- STO group of an axis under the running structure; 4 for none. -/
def groupOf (s : State) (axis : Nat) : Nat := s.st.axisGroup.getD axis 4
/-- The groups that a reaction to an axis takes: its group, or every group where it has none (R460). -/
def scopeOfAxis (s : State) (axis : Nat) : GroupMask := if s.groupOf axis < 4 then 2 ^ s.groupOf axis else allGroups
/-- Axis a belongs to a group of a mask. -/
def axisIn (s : State) (m : GroupMask) (axis : Nat) : Bool := s.groupOf axis < 4 && m.testBit (s.groupOf axis)

/-- The structure's loops run (R72): every mode from TAKEOVER on. -/
def loopsRun (s : State) : Bool := mTAKEOVER ≤ s.mode && s.cfg.run.isSome

/-- The present SYS cycle is that of a loop tick (R22, R29). -/
def atTick (s : State) : Bool := s.onGrid (2 * Config.gridUnits) && s.loopsRun

/-- One event core changed. -/
def modCore (s : State) (c : Fin 8) (g : Core → Core) : State :=
  { s with sched := { s.sched with cores := s.sched.cores.modify c g } }

/-- A core's result word: admission code and handle (R149). -/
def setResult (s : State) (c : Fin 8) (adm handle : Nat) : State :=
  s.modCore c (fun k => { k with result := BitVec.ofNat 32 (adm + 256 * handle) })

/-- One tile changed. -/
def modTile (s : State) (a : Fin 96) (g : Tile → Tile) : State := { s with tiles := s.tiles.modify a g }
/-- One FB port changed. -/
def modFbp (s : State) (p : Fin 32) (g : FbPort → FbPort) : State := { s with fbps := s.fbps.modify p g }

/-- One queue changed. -/
def modQueue (s : State) (n : Fin 16) (g : Queue → Queue) : State :=
  { s with hq := { s.hq with q := s.hq.q.modify n g } }

-- ===== the host's rings (R530, R531) =====

/-- An MSI-X vector fires (R528). -/
def msix (s : State) (v : Fin 8) : State := { s with host := { s.host with msix := s.host.msix.modify v (· + 1) } }

/-- The endpoint writes bytes into host memory. -/
def hostWrite (s : State) (a : Nat) (bs : List Byte) : State :=
  { s with host := { s.host with mem := s.host.mem.setMany 0 a bs } }

/-- Entries of the completion ring, and those that the host has not read. -/
def cqSize (s : State) : Nat := 2 ^ s.f HQ_CQ_CFG_LOG2
def cqUsed (s : State) : Nat := (s.f HQ_CQ_TAIL_INDEX + s.cqSize - s.f HQ_CQ_HEAD_INDEX % s.cqSize) % s.cqSize

/-- A completion entry is written, the tail moves on, and vector 0 fires (R528, R531). PHASE flips at each wrap; its value in
the first pass is not stated. -/
def writeCq (s : State) (c : Completion) : State :=
  let i := s.f HQ_CQ_TAIL_INDEX % s.cqSize
  let s1 := s.hostWrite (s.rd2 HQ_CQ_BASE / 4096 * 4096 + 16 * i)
    (natLE 4 c.tag ++ natLE 1 c.adm ++ natLE 1 c.result ++ natLE 1 ((Config.unstated 19 0 + s.host.wraps) % 2) ++ natLE 1 0
      ++ natLE 4 c.value ++ natLE 4 (s.rdN HQ_HC_HEAD))
  let s2 := s1.setF HQ_CQ_TAIL_INDEX ((i + 1) % s.cqSize)
  (if i + 1 = s.cqSize then { s2 with host := { s2.host with wraps := s2.host.wraps + 1 } } else s2).msix 0

/-- A fetched command completes: its reserved cell of HQ6 returns and its entry is written; after a PCIe reset, or with the
completion ring disabled, the completion is dropped and counted (R531, R549). -/
def complete (s : State) (id : Nat) (c : Completion) : State :=
  match s.host.opened.find? (fun (x : HostOpen) => x.id == id) with
  | none => s
  | some o =>
    let s1 := { s with host := { s.host with opened := s.host.opened.filter (fun (x : HostOpen) => x.id != id) } }.freeCells 6 1
    if o.drop ∨ !s.flag HQ_CQ_CFG_EN then s1.bump (HQ_CNT_REF 6) else s1.writeCq c

end State

-- ===== recorder intake =====

namespace State

/-- The rate entry of a code, or the shared bucket (R483). -/
def recEntry (s : State) (code : Nat) : Option RecBucket := s.recorder.buckets.find? (fun b => b.code == code)

/-- The rate buckets with one replaced, by its code. -/
def putBucket (s : State) (b : RecBucket) : State :=
  { s with recorder := { s.recorder with
      buckets := s.recorder.buckets.map (fun (x : RecBucket) => if x.code == b.code then b else x) } }

/-- A drop at HQ8 is counted by priority; the first one opens a drop episode (R486). -/
def noteDrop (s : State) (prio : Nat) : State :=
  let e := s.recorder.episode.getD ([0, 0, 0, 0], s.time.now)
  (if s.recorder.episode.isNone then { s with recorder := { s.recorder with episode := some (e.1.set prio (e.1.getD prio 0 + 1), e.2) } }.hit REC_STAT_DROP
   else { s with recorder := { s.recorder with episode := some (e.1.set prio (e.1.getD prio 0 + 1), e.2) } })
    |>.setF REC_STAT_EPISODE 1 |>.bump REC_CNT_DROP |>.bump (HQ_CNT_REF 8)

/-- A queued item of HQ8 is taken out by its place. -/
def recRemove (s : State) (ix cells : Nat) : State :=
  freeCells { s with hq := { s.hq with
    q := s.hq.q.set 8 { s.queue 8 with items := (s.queue 8).items.eraseIdx ix } } } 8 cells

/-- Make room in HQ8 for an arriving item: the item of lowest priority among those queued and the one arriving is
dropped, the newest among equals, the arriving one counting as the newest (R486). Fuel: one drop an item. -/
def recMakeRoom (s : State) (r : RecItem) (it : QItem) : Nat → State × Bool
  | 0 => (s, false)
  | k + 1 =>
    match s.offer 8 it with
    | some s' => (s', true)
    | none =>
      let prios := (s.queue 8).items.map Body.prioOf
      let low := prios.foldl min 4
      if r.prio ≤ low then (s.noteDrop r.prio, false)
      else
        let ix := prios.length - 1 - prios.reverse.findIdx (· == low)
        recMakeRoom ((s.recRemove ix (((s.queue 8).items.getD ix it).cells)).noteDrop low) r it k

/-- An item is put into HQ8, making room by priority (R486). -/
def recEnqueue (s : State) (r : RecItem) : State × Nat :=
  let p := s.recMakeRoom r ⟨8 + r.payload.length, .record r⟩ ((s.queue 8).items.length + 2)
  (p.1, if p.2 then admOK else admFULL)

/-- An offer to the recorder, judged by its bucket before space is sought (R483, R484, R486). A code without a rate
entry shares one bucket; codes below 0x100 are never limited. The bucket is judged as it stood before this SYS cycle
(R491). -/
def recJudge (s : State) (r : RecItem) : State × Nat :=
  if r.code < 0x100 then s.recEnqueue r
  else
    match s.recEntry (if (s.recEntry r.code).isSome then r.code else 0xFFFF) with
    | none => s.recEnqueue r
    | some b0 =>
      let b := b0.fill s.cycleInc (s.time.mono - 1)
      if b.rate ≠ 0 ∧ b.tokens < tokenUnit then
        ((s.putBucket { b with supp := b.supp + 1, first := if b.supp = 0 then s.time.now else b.first, last := s.time.now }
          |>.hit REC_STAT_SUPP |>.bump REC_CNT_SUPP), admBUDGET)
      else
        let b1 := { b with tokens := if b.rate = 0 then b.tokens else b.tokens - tokenUnit, supp := 0 }
        let s1 := if b.supp = 0 then s.putBucket b1 else ((s.putBucket b1).recEnqueue (b.summary s.time.now)).1
        s1.recEnqueue r

/-- An event core's (firmware) or a block's offer, checked against the code table (R482), then judged (R483): an image code
must be one that RECCODES defines, device codes are the device's; the priority is 3 below 0x100, that of the rate entry, or
the item's own. -/
def recOffer (s : State) (firmware : Bool) (r : RecItem) : State × Nat :=
  let entry := s.recEntry r.code
  let badOwner := if firmware then r.code < 0x1000 || (r.code < 0x8000 && entry.isNone) else 0x1000 ≤ r.code
  let tooLong := 996 < r.payload.length || (match entry with | some b => b.plenMax < r.payload.length | none => false)
  if badOwner then (s.bump REC_CNT_REF, admSTRUCTURE)
  else if tooLong then (s.bump REC_CNT_REF, admBUDGET)
  else
    let prio := if r.code < 0x100 then 3 else if r.code < 0x8000 then
      (match entry with | some b => b.prio | none => r.prio) else r.prio
    s.recJudge { r with prio := prio }

/-- A block of the LX-1296 offers a record of an event at some time (R138, R476, R481). -/
def offerRecAt (s : State) (code prio : Nat) (payload : List Byte) (time : Instant) : State :=
  (s.recOffer false { code := code, prio := prio, payload := payload, time := time }).1

/-- A block of the LX-1296 offers a record of an event of now. -/
def offerRec (s : State) (code prio : Nat) (payload : List Byte) : State := s.offerRecAt code prio payload s.time.now

/-- The mode changes: PREV takes the old mode, vector 2 fires, and a MODE record is offered (R74, R489, R528). -/
def setMode (s : State) (m cause : Nat) (entry : Nat := 255) : State :=
  let old := s.mode
  (((s.setF SYS_MODE_PREV old).setF SYS_MODE_MODE m).msix 2).offerRec 0x11 3
    (natLE 1 m ++ natLE 1 old ++ natLE 1 cause ++ natLE 1 0 ++ natLE 1 entry ++ natLE 3 0)

end State

end Sys2Proof.Machine
end

