-- ==== Sys2Proof/Machine/Crc.lean ====
section
/-! DEFINITION. The checksums of the LX-1296: CRC-32 (IEEE 802.3) of images, safe telegrams and headers, the CRC-16 of ring
frames, and SHA-384 of images. -/

namespace Sys2Proof

/-- One bit of a reflected CRC with a polynomial. -/
def crcBit (poly : Nat) (c : Nat) : Nat := if c % 2 = 1 then (c / 2) ^^^ poly else c / 2

/-- One byte of a reflected CRC. -/
def crcByte (poly : Nat) (c : Nat) (b : Byte) : Nat :=
  let p := crcBit poly
  p (p (p (p (p (p (p (p (c ^^^ b.toNat))))))))

/-- CRC-32 of the IEEE 802.3 polynomial over bytes. -/
def crc32 (bs : List Byte) : Nat := (bs.foldl (crcByte 0xEDB88320) 0xFFFFFFFF) ^^^ 0xFFFFFFFF

/-- One bit of the CRC-16 of R368, the most significant bit first. -/
def crc16Bit (c : Nat) : Nat := if 32768 ≤ c then (2 * c % 65536) ^^^ 0x1021 else 2 * c

/-- One byte of the CRC-16. -/
def crc16Byte (c : Nat) (b : Byte) : Nat :=
  crc16Bit (crc16Bit (crc16Bit (crc16Bit (crc16Bit (crc16Bit (crc16Bit (crc16Bit (c ^^^ (b.toNat * 256)))))))))

/-- CRC-16 over bytes: polynomial x^16 + x^12 + x^5 + 1, initial value 0xFFFF (R368). -/
def crc16 (bs : List Byte) : Nat := bs.foldl crc16Byte 0xFFFF

-- ===== ring frames as octets (R367, R368, R376) =====

/-- The header of a frame on ring r without HCRC, offsets 0x00 to 0x1D (R368). -/
def RFrame.head (r : Nat) (f : RFrame) : List Byte :=
  natLE 1 (1 + 16 * f.type) ++ natLE 1 (r % 2 + 2 * (f.frame % 2)) ++ natLE 2 f.epoch ++ natLE 4 f.cycle ++ natLE 4 f.sid
    ++ natLE 1 (f.mode % 4 + 128 * b2n f.looped) ++ natLE 1 f.k ++ natLE 2 f.loopAddr
    ++ natLE 4 (f.tdep % 1000000000) ++ natLE 4 (f.tdep / 1000000000) ++ natLE 4 f.rtt ++ natLE 2 f.area.length

/-- A frame from the first byte of the destination address to the last byte of the segment area (R367). -/
def RFrame.octets (r : Nat) (f : RFrame) : List Byte :=
  [0x03, 0x4B, 0x59, 0x52, 0x00, BitVec.ofNat 8 r] ++ (natLE 6 f.source).reverse ++ [0x88, 0xB5]
    ++ f.head r ++ natLE 2 (crc16 (f.head r)) ++ f.area

/-- The FCS over a frame as it is sent. -/
def RFrame.fcsWord (r : Nat) (f : RFrame) : Nat := crc32 (f.octets r)

/-- The FCS of a frame as it was received. -/
def RFrame.fcsGot (r : Nat) (f : RFrame) : Nat := if f.fcs then f.fcsWord r else f.badFcs

-- ===== SHA-384 (R49) =====

/-- The first 64 bits of the fractional parts of the cube roots of the first eighty primes: the round constants of SHA-384. -/
def shaK : List Nat :=
  [0x428A2F98D728AE22, 0x7137449123EF65CD, 0xB5C0FBCFEC4D3B2F, 0xE9B5DBA58189DBBC, 0x3956C25BF348B538,
   0x59F111F1B605D019, 0x923F82A4AF194F9B, 0xAB1C5ED5DA6D8118, 0xD807AA98A3030242, 0x12835B0145706FBE,
   0x243185BE4EE4B28C, 0x550C7DC3D5FFB4E2, 0x72BE5D74F27B896F, 0x80DEB1FE3B1696B1, 0x9BDC06A725C71235,
   0xC19BF174CF692694, 0xE49B69C19EF14AD2, 0xEFBE4786384F25E3, 0x0FC19DC68B8CD5B5, 0x240CA1CC77AC9C65] ++
  [0x2DE92C6F592B0275, 0x4A7484AA6EA6E483, 0x5CB0A9DCBD41FBD4, 0x76F988DA831153B5, 0x983E5152EE66DFAB,
   0xA831C66D2DB43210, 0xB00327C898FB213F, 0xBF597FC7BEEF0EE4, 0xC6E00BF33DA88FC2, 0xD5A79147930AA725,
   0x06CA6351E003826F, 0x142929670A0E6E70, 0x27B70A8546D22FFC, 0x2E1B21385C26C926, 0x4D2C6DFC5AC42AED,
   0x53380D139D95B3DF, 0x650A73548BAF63DE, 0x766A0ABB3C77B2A8, 0x81C2C92E47EDAEE6, 0x92722C851482353B] ++
  [0xA2BFE8A14CF10364, 0xA81A664BBC423001, 0xC24B8B70D0F89791, 0xC76C51A30654BE30, 0xD192E819D6EF5218,
   0xD69906245565A910, 0xF40E35855771202A, 0x106AA07032BBD1B8, 0x19A4C116B8D2D0C8, 0x1E376C085141AB53,
   0x2748774CDF8EEB99, 0x34B0BCB5E19B48A8, 0x391C0CB3C5C95A63, 0x4ED8AA4AE3418ACB, 0x5B9CCA4F7763E373,
   0x682E6FF3D6B2B8A3, 0x748F82EE5DEFB2FC, 0x78A5636F43172F60, 0x84C87814A1F0AB72, 0x8CC702081A6439EC] ++
  [0x90BEFFFA23631E28, 0xA4506CEBDE82BDE9, 0xBEF9A3F7B2C67915, 0xC67178F2E372532B, 0xCA273ECEEA26619C,
   0xD186B8C721C0C207, 0xEADA7DD6CDE0EB1E, 0xF57D4F7FEE6ED178, 0x06F067AA72176FBA, 0x0A637DC5A2C898A6,
   0x113F9804BEF90DAE, 0x1B710B35131C471B, 0x28DB77F523047D84, 0x32CAAB7B40C72493, 0x3C9EBE0A15C9BEBC,
   0x431D67C49C100D4C, 0x4CC5D4BECB3E42B6, 0x597F299CFC657E2A, 0x5FCB6FAB3AD6FAEC, 0x6C44198C4A475817]

/-- The first hash value of SHA-384. -/
def shaIV : List Nat :=
  [0xCBBB9D5DC1059ED8, 0x629A292A367CD507, 0x9159015A3070DD17, 0x152FECD8F70E5939,
   0x67332667FFC00B31, 0x8EB44A8768581511, 0xDB0C2E0D64F98FA7, 0x47B5481DBEFA4FA4]

/-- A 64-bit word rotated right by n. -/
def rotr64 (x n : Nat) : Nat := (x >>> n) ||| (x <<< (64 - n) % 18446744073709551616)

/-- The message schedule, newest word first, carried on by n words. -/
def shaWords : Nat → List Nat → List Nat
  | 0, ws => ws
  | n + 1, ws =>
    let a := ws.getD 1 0
    let b := ws.getD 14 0
    let w := ((rotr64 a 19 ^^^ rotr64 a 61 ^^^ (a >>> 6)) + ws.getD 6 0 + (rotr64 b 1 ^^^ rotr64 b 8 ^^^ (b >>> 7)) + ws.getD 15 0)
      % 18446744073709551616
    shaWords n (w :: ws)

/-- One round on the working variables a to h, with the sum of its constant and its word. -/
def shaRound (v : List Nat) (kw : Nat) : List Nat :=
  match v with
  | [a, b, c, d, e, f, g, h] =>
    let t1 := h + (rotr64 e 14 ^^^ rotr64 e 18 ^^^ rotr64 e 41) + ((e &&& f) ^^^ ((18446744073709551615 ^^^ e) &&& g)) + kw
    let t2 := (rotr64 a 28 ^^^ rotr64 a 34 ^^^ rotr64 a 39) + ((a &&& b) ^^^ (a &&& c) ^^^ (b &&& c))
    [(t1 + t2) % 18446744073709551616, a, b, c, (d + t1) % 18446744073709551616, e, f, g]
  | _ => v

/-- A hash value after one block of 128 bytes. -/
def shaBlock (h : List Nat) (block : List Byte) : List Nat :=
  let ws := (shaWords 64 ((List.range 16).map (fun i => beNat ((block.drop (8 * i)).take 8))).reverse).reverse
  let v := ((shaK.zip ws).map (fun (x : Nat × Nat) => x.1 + x.2)).foldl shaRound h
  (h.zip v).map (fun (x : Nat × Nat) => (x.1 + x.2) % 18446744073709551616)

/-- The blocks of a padded message, one after another. -/
def shaBlocks : Nat → List Byte → List Nat → List Nat
  | 0, _, h => h
  | n + 1, bs, h => shaBlocks n (bs.drop 128) (shaBlock h (bs.take 128))

/-- SHA-384 of bytes: 48 octets (R49). -/
def sha384 (bs : List Byte) : List Byte :=
  let blocks := (bs.length + 17 + 127) / 128
  let padded := bs ++ 0x80 :: List.replicate (128 * blocks - bs.length - 17) 0 ++ natBE 16 (8 * bs.length)
  ((shaBlocks blocks padded shaIV).take 6).flatMap (natBE 8)

end Sys2Proof
end

