-- ==== Sys2Proof/Machine/Queues.lean ====
section
/-! DEFINITION. The hardware queues and the dispatch scheduler (chapter 05): joining a ready list, deficit round robin,
the end of a handler, and the grant of shared cells. -/

namespace Sys2Proof.Machine

namespace State

/-- A core's handler is running. -/
def busy (s : State) (c : Fin 8) : Bool := (s.sched.cores.get c).running.isSome

/-- A core is free for items: enabled, idle and not halted (SCHED_CTL, R145, R542). -/
def coreFree (s : State) (c : Fin 8) : Bool :=
  (s.rdN SCHED_CTL).testBit c && !s.busy c && !(s.sched.cores.get c).halted

/-- The core mask of a handler; a handler that HANDLERS does not have permits every core, where its item ends. -/
def coreMask (s : State) (h : Nat) : Nat :=
  match s.st.handlers.find? (fun (x : Handler) => x.index == h) with | some x => x.mask | none => 255

/-- The lowest free core that a handler permits (R145, R151). -/
def pickCore (s : State) (h : Nat) : Option (Fin 8) :=
  (List.finRange 8).find? (fun c => s.coreFree c && (s.coreMask h).testBit c)

/-- No core handles an item with a key (R144). -/
def keyFree (s : State) (key : Nat) : Bool :=
  key == 0 || s.sched.cores.items.all (fun (c : Core) => match c.running with | some w => w.key != key | none => true)

/-- The ready items that are eligible, in list order: key free and no item of that key ahead (R144). The capture engine holds
FW_KEY while it waits for the firmware region (R441). -/
def eligible (s : State) : List Work → List Nat → List Work
  | [], _ => []
  | w :: ws, seen =>
    if w.key = 0 then w :: eligible s ws seen
    else if s.keyFree w.key && !(s.pair.capWait.isSome && w.key == s.st.fwKey) && !seen.contains w.key then w :: eligible s ws (w.key :: seen)
    else eligible s ws (w.key :: seen)

/-- The first eligible item of a group that a free core may take, with that core (R145). -/
def firstFor (s : State) (g : Nat) : Option (Work × Fin 8) :=
  (s.eligible s.sched.ready []).findSome? (fun w =>
    if w.group = g then (s.pickCore w.handler).map (fun c => (w, c)) else none)

/-- The weight of a group (R143). -/
def weight (s : State) (g : Nat) : Nat := s.f (SCHED_GRP_WEIGHT g)

/-- The next start by deficit round robin: the item, its core, and the pointer and quantum after it (R145). -/
def nextStart (s : State) : Option (Work × Fin 8 × Nat × Nat) :=
  let p := s.sched.pointer
  match (if 0 < s.sched.quantum then s.firstFor p else none) with
  | some (w, c) => some (w, c, if s.sched.quantum = 1 then (p + 1) % 8 else p, s.sched.quantum - 1)
  | none =>
    let from_ := if 0 < s.sched.quantum then p + 1 else p
    (List.range 8).findSome? (fun i =>
      let g := (from_ + i) % 8
      (s.firstFor g).map (fun x =>
        let q := max 1 (s.weight g)
        (x.1, x.2, if q = 1 then (g + 1) % 8 else g, q - 1)))

/-- A free core exists. -/
def anyFree (s : State) : Bool := (List.finRange 8).any s.coreFree

/-- In the first SYS cycle in which the group at the pointer holds no eligible item for any free core, the pointer leaves it
and the quantum left over is lost (R145); judged over the cycles since work last joined, started or ended. -/
def leaveGroup (s : State) : State :=
  if s.sched.judged < s.time.mono ∧ s.sched.quantum ≠ 0 ∧ s.anyFree ∧ (s.firstFor s.sched.pointer).isNone then
    { s with sched := { s.sched with pointer := (s.sched.pointer + 1) % 8, quantum := 0, judged := s.time.mono } }
  else { s with sched := { s.sched with judged := s.time.mono } }

/-- Place of work in the order of one SYS cycle: ascending queue number, fault dispatches after every queue item, then what
joins of itself (R143). -/
def laterInCycle (now src : Nat) (x : Work) : Bool := x.at_ == now && decide (src < x.src)

/-- Work takes its place in the ready list of its group, behind what has entered before it; within one SYS cycle in ascending
queue number (R143). -/
def placeWork (s : State) (w : Work) : State :=
  let s1 := s.leaveGroup
  let back := (s1.sched.ready.reverse.takeWhile (laterInCycle s.time.mono w.src)).length
  let k := s1.sched.ready.length - back
  { s1 with sched := { s1.sched with ready := s1.sched.ready.take k ++ { w with at_ := s.time.mono } :: s1.sched.ready.drop k } }

/-- Work joins the ready list of its group under a number of its own (R143). -/
def join (s : State) (w : Work) : State :=
  let s1 := s.placeWork { w with id := s.sched.nextId }
  { s1 with sched := { s1.sched with nextId := s1.sched.nextId + 1 } }

/-- Dispatch is stopped by an L4 reaction (R151). -/
def stopped (s : State) : Bool := s.flag SCHED_STAT_STOPPED

/-- Work is put into its queue and joins its ready list; after an L4 reaction HQ4, HQ5 and HQ15 accept nothing (R151). -/
def putWork (s : State) (n : Fin 16) (w : Work) : State × Bool :=
  if s.stopped && (n == 4 || n == 5 || n == 15) then (s, false)
  else
    let w' := { w with id := s.sched.nextId }
    let p := s.offerOr n ⟨max 1 w.payload.length, .work w'⟩
    if p.2 then (p.1.join w, true) else (p.1, false)

/-- Take a piece of work out of its ready list and its queue. -/
def unqueue (s : State) (w : Work) : State :=
  let s1 := { s with sched := { s.sched with ready := s.sched.ready.filter (fun x => x.id != w.id) } }
  if h : w.src < 16 then
    s1.withdraw ⟨w.src, h⟩ (fun i => match i.body with | .work x => x.id == w.id | _ => false)
  else s1

/-- An item's end is reported to its origin: a host command completes with a code and a result (R148, R151). -/
def endWork (s : State) (w : Work) (adm result : Nat) : State :=
  if w.src = 5 then s.complete w.id ⟨w.tag, adm, result, 0⟩ else s

/-- The 64 bytes of the item header (R148): its fields are those of the rule, their places are free. -/
def headerBytes (w : Work) (seq : Nat) : List Byte :=
  (List.range 64).map (Config.headerByte [w.src, w.handler, w.key, w.group, w.payload.length, w.entry, b2n w.late, seq])

/-- The inbox in a core's local memory: the item header, and the payload 64 bytes on (R147, R148). -/
def fillInbox (s : State) (c : Fin 8) (w : Work) (seq : Nat) : State :=
  { s with mem := { s.mem with core := s.mem.core.modify c (fun m =>
      (m.setMany 0 0x7C000 (headerBytes w seq)).setMany 0 0x7C040 w.payload) } }

/-- Start an item on a core: header and payload into the inbox (R148). -/
def startOn (s : State) (w : Work) (c : Fin 8) : State :=
  let s1 := s.unqueue w
  if (s.st.handlers.find? (fun (x : Handler) => x.index == w.handler)).isNone then s1.endWork w admCANCELLED 0
  else
    (({ s1 with sched := { s1.sched with seq := s1.sched.seq + 1, judged := s1.time.mono } }.modCore c
        (fun k => { k with running := some w, inbox := w.payload, seq := s1.sched.seq, ran := 0, since := s1.time.mono })).fillInbox c w
          s1.sched.seq)
      |>.setB ⟨SCHED_STAT, c, 1⟩ true |>.setF (SCHED_CORE_HANDLER c) w.handler |>.setF (SCHED_CORE_KEY c) w.key

/-- A handler ends: its core is free and its key released (R148, R150). -/
def endHandler (s : State) (c : Fin 8) (status : Nat) : State :=
  match (s.sched.cores.get c).running with
  | none => s
  | some w =>
    ((s.leaveGroup.modCore c (fun k => { k with running := none }))
      |>.setB ⟨SCHED_STAT, c, 1⟩ false).endWork w admOK status

/-- The handler index a core is running, 0 where none. -/
def handlerOf (s : State) (c : Fin 8) : Nat := match (s.sched.cores.get c).running with | some w => w.handler | none => 0

/-- SYS cycles for which the handler on a core has run; a debug halt does not count (R150, R542). -/
def ranFor (s : State) (c : Fin 8) : Nat :=
  let k := s.sched.cores.get c
  if k.halted then k.ran else k.ran + (s.time.mono - k.since)

/-- Budget of a handler, in cycles at 600 MHz (R150). -/
def budgetOf (s : State) (h : Nat) : Nat :=
  match s.st.handlers.find? (fun (x : Handler) => x.index == h) with | some x => x.budget | none => 0

/-- A handler has run past its budget: three cycles at 600 MHz pass in four SYS cycles (R150). -/
def pastBudget (s : State) (c : Fin 8) : Bool := decide (4 * s.budgetOf (s.handlerOf c) < 3 * s.ranFor c)

/-- The local address space of a core (R147): an access of some width in bytes that it does not have. -/
def busError (address width : Nat) : Bool :=
  let inside := fun (base size : Nat) => base ≤ address && decide (address + width ≤ base + size)
  if inside 0x20000000 0x400000 then width != 4 || address % 4 != 0
  else !(inside 0 0x80000 || inside 0x10000000 9280 || inside 0x10004000 68 || inside 0x10005000 4)

/-- Waiting producers of one queue are served while their items fit; the flag says that one still waits. After an L4 reaction
HQ4 accepts nothing (R151). -/
def grantQueue (s : State) (n : Fin 16) : Nat → State × Bool
  | 0 => (s, !(s.queue n).waiting.isEmpty)
  | k + 1 =>
    if s.stopped ∧ n = 4 then (s, false)
    else match (s.queue n).waiting with
    | [] => (s, false)
    | i :: is =>
      match s.offer n i with
      | none => (s, true)
      | some s' =>
        let s1 := s'.modQueue n (fun q => { q with waiting := is })
        grantQueue (match i.body with | .work w => s1.join w | _ => s1) n k

/-- Freed shared cells are granted in ascending rank and queue number; a producer that still waits stops those behind
it (R139). -/
def grantAll (s : State) : List Nat → State
  | [] => s
  | k :: ks =>
    if h : k < 16 then
      let p := s.grantQueue ⟨k, h⟩ (s.queue ⟨k, h⟩).waiting.length
      if p.2 then p.1 else grantAll p.1 ks
    else grantAll s ks

/-- A message leaves on its PL port (R136). -/
def portSent (s : State) (x : PtpTx) : State :=
  { s with time := { s.time with sent := x :: s.time.sent.filter (fun y => y.port != x.port) } }

end State

/-- SHARED_CELL_GRANT (R139). -/
def execSharedCellGrant (s : State) : Out := .next (s.grantAll grantOrder)

/-- DISPATCH_START (R145, R148). With dispatch stopped nothing starts; with no eligible item for a free core, the pointer
leaves its group. -/
def execDispatchStart (s : State) : Out :=
  if s.stopped then .next s
  else
    match s.nextStart with
    | none => .next (if s.anyFree ∧ s.sched.quantum ≠ 0 then
        { s with sched := { s.sched with pointer := (s.sched.pointer + 1) % 8, quantum := 0, judged := s.time.mono } } else s)
    | some (w, c, p, q) => .next ({ s with sched := { s.sched with pointer := p, quantum := q } }.startOn w c)

/-- HANDLER_RETURN (R148): the handler on core c returns its status byte. -/
def execHandlerReturn (c : Fin 8) (status : Byte) (s : State) : Out := .next (s.endHandler c status.toNat)

/-- HANDLER_OVERRUN (R150): the handler on core c has run past its budget; the budget does not count while the core is halted
(R542). -/
def execHandlerOverrun (c : Fin 8) (s : State) : Out :=
  .next (if s.busy c ∧ !(s.sched.cores.get c).halted ∧ s.pastBudget c then
    ((s.endHandler c 255).hit SCHED_STAT_OVERRUN).bump SCHED_CNT_OVR
      |>.raise (mkFault (0x78 + c) 0x08 cMAJOR 0 [.inst c, .val (s.handlerOf c)])
  else s)

/-- CORE_BUS_ERR (R147): an access outside the local address space, or one of the register window that is not an aligned
32-bit one, ends the handler as an overrun does; width is in bytes. -/
def execCoreBusErr (c : Fin 8) (address : Word) (width : Nat) (s : State) : Out :=
  .next (if s.busy c ∧ State.busError address.toNat width then
    (s.endHandler c 255).bump SCHED_CNT_OVR
      |>.raise (mkFault (0x78 + c) 0x07 cMAJOR 0 [.inst c, .val address.toNat])
  else s)

/-- PLANT_FRAME_TX (R136): a transmitter takes the oldest frame for its port from HQ14 and sends it. -/
def execPlantFrameTx (port : Fin 2) (s : State) : Out :=
  let mine := fun (i : QItem) => match i.body with | .frame p _ => p == port.val | .ptp x => x.port == port.val | _ => false
  .next (match (s.queue 14).items.findIdx? mine with
    | none => s
    | some ix =>
      let i := (s.queue 14).items.getD ix ⟨0, .block 0⟩
      let s1 := (s.modQueue 14 (fun q => { q with items := q.items.eraseIdx ix })).freeCells 14 i.cells
      match i.body with
      | .ptp x => s1.portSent x
      | .frame p bs => { s1 with time := { s1.time with out := (p, bs) :: s1.time.out.filter (fun (y : Nat × List Byte) => y.1 != p) } }
      | _ => s1)

end Sys2Proof.Machine
end

