-- ==== Sys2Proof/Machine/Recorder.lean ====
section
/-! DEFINITION. The event recorder (chapter 19): the layout of a record, the writer, the scan at start, and the
commands of its family. -/

namespace Sys2Proof.Machine

/-- The valid mark of a sequence number (R477). -/
def recMark (seq : Nat) : Nat :=
  ((BitVec.ofNat 32 seq).rotateLeft 16 ^^^ 0xA55AC33C#32).toNat

/-- Length in bytes of a record with a payload of plen bytes (R476). -/
def recLen (plen : Nat) : Nat := (plen + 28 + 15) / 16 * 16

/-- Bytes 0x00 to 0x18 + PLEN - 1 of a record (R476). -/
def recHeader (r : RecItem) (seq : Nat) (commit : Bool) : List Byte :=
  natLE 2 (recLen r.payload.length) ++ natLE 2 r.code ++ natLE 4 seq
    ++ natLE 2 (r.payload.length % 1024 + 1024 * b2n (r.code == 2) + 2048 * (r.prio % 4) + 8192 * b2n commit)
    ++ natLE 2 r.time.sub ++ natLE 4 r.time.ns ++ natLE 8 r.time.sec ++ r.payload

/-- A little-endian number of n bytes in MRAM. -/
def mramNat (m : Store 8) (a n : Nat) : Nat := leNat (m.getMany 0 a n)

/-- A valid record lies at an offset of the store (R477). -/
def recValid (m : Store 8) (a : Nat) : Bool :=
  let len := mramNat m a 2
  len % 16 == 0 && 16 ≤ len && len ≤ 1024 && a % 65536 + len ≤ 65536
    && mramNat m (a + len - 4) 4 == recMark (mramNat m (a + 4) 4)

/-- a is serially above b, over 2^32 (R479, R393). -/
def serialAbove (a b : Nat) : Bool :=
  let d := (a + 4294967296 - b % 4294967296) % 4294967296
  0 < d && d < 2147483648

/-- The valid block of newest first record among blocks 0 to n - 1 (R480). -/
def recNewest (m : Store 8) : Nat → Option Nat
  | 0 => none
  | n + 1 =>
    let old := recNewest m n
    if recValid m (n * 65536) then
      match old with
      | none => some n
      | some b => if serialAbove (mramNat m (n * 65536 + 4) 4) (mramNat m (b * 65536 + 4) 4) then some n else some b
    else old

/-- Walk the records of the newest block: the end of the last one and the sequence number after it (R480). -/
def recWalk (m : Store 8) (blk : Nat) : Nat → Nat → Nat → Nat × Nat
  | 0, a, next => (a, next)
  | k + 1, a, next =>
    if a < (blk + 1) * 65536 ∧ recValid m a ∧ mramNat m (a + 4) 4 = next then
      recWalk m blk k (a + mramNat m a 2) ((next + 1) % 4294967296)
    else (a, next)

/-- The first block after blk, in ring order, whose first record is valid; n blocks are tried, then blk itself. -/
def recOldest (m : Store 8) (blk : Nat) : Nat → Nat
  | 0 => blk
  | n + 1 =>
    let b := (blk + 256 - (n + 1)) % 256
    if recValid m (b * 65536) then b else recOldest m blk n

/-- Blocks of the store whose first record is valid. -/
def recBlocks (m : Store 8) : Nat := ((List.range 256).filter (fun b => recValid m (b * 65536))).length

/-- Blocks strictly between the oldest and the newest, in ring order, whose first record is not valid (R480). -/
def recDamaged (m : Store 8) (oldest newest : Nat) : Nat :=
  ((List.range ((newest + 256 - oldest) % 256)).filter (fun i =>
    0 < i && !recValid m ((oldest + i) % 256 * 65536))).length

namespace State

/-- The writer opens a block: REC_OLD moves past every record in it first (R490). -/
def recOpen (s : State) (blk : Nat) : State :=
  if s.recorder.oldBlk = blk ∧ recValid s.nv.mram (blk * 65536) then
    let old := recOldest s.nv.mram blk 255
    (({ s with recorder := { s.recorder with oldBlk := old } }.wrN REC_OLD (old * 65536)).wrN REC_OLD_SEQ
      (mramNat s.nv.mram (old * 65536 + 4) 4))
  else s

/-- Bytes are written to MRAM at an address and above. -/
def mramWrite (s : State) (a : Nat) (bs : List Byte) : State :=
  { s with nv := { s.nv with mram := s.nv.mram.setMany 0 a bs } }

/-- At the start of a block the block is opened (R490). -/
def recFresh (s : State) : State := if s.rdN REC_HEAD % 65536 = 0 then s.recOpen (s.rdN REC_HEAD / 65536) else s

/-- A record's bytes and then its valid mark, in its last four bytes (R476, R477). -/
def recStore (s : State) (len : Nat) (bytes : List Byte) : State :=
  (s.mramWrite (s.rdN REC_HEAD) bytes).mramWrite (s.rdN REC_HEAD + len - 4) (natLE 4 (recMark (s.rdN REC_HEAD_SEQ)))

/-- Head and SEQ move on, and the record is counted (R478, R479). -/
def recAdvance (s : State) (len : Nat) : State :=
  let s1 := ((s.wrN REC_HEAD ((s.rdN REC_HEAD + len) % 16777216)).wrN REC_HEAD_SEQ ((s.rdN REC_HEAD_SEQ + 1) % 4294967296)).bump REC_CNT_REC
  if s.rdN REC_HEAD + len = 16777216 then s1.bump REC_WRAPS else s1

/-- What REC_OLD_SEQ and WRAPPED show once a record of number seq stands at a. -/
def recShow (s : State) (a seq : Nat) : State :=
  (if a = s.recorder.oldBlk * 65536 then s.wrN REC_OLD_SEQ seq else s).setB REC_STAT_WRAPPED ((a / 65536 + 1) % 256 == s.recorder.oldBlk)

/-- A record's bytes and then its mark are written at the head, and head and SEQ move on (R476 to R479). -/
def recPut (s : State) (len : Nat) (bytes : List Byte) : State :=
  (((s.recFresh).recStore len bytes).recAdvance len).recShow (s.rdN REC_HEAD) (s.rdN REC_HEAD_SEQ)

/-- A record is written; when it does not fit in the rest of the block, a pad record fills that rest first (R478). -/
def recWrite (s : State) (r : RecItem) : State :=
  let len := recLen r.payload.length
  let rest := 65536 - s.rdN REC_HEAD % 65536
  let s1 := if rest < len then s.recPut rest (natLE 2 rest ++ natLE 2 0 ++ natLE 4 (s.rdN REC_HEAD_SEQ)) else s
  s1.recPut len (recHeader r (s1.rdN REC_HEAD_SEQ) s.sys.flushing)

/-- The START record (R489); the structure hash is that of the running image, zeros if none. -/
def startRecord (s : State) : RecItem :=
  { code := 1, prio := 3, time := s.time.now,
    payload := natLE 1 (s.f SYS_RST_CAUSE_CAUSE) ++ natLE 1 (s.f SYS_START_STAT_KIND) ++ natLE 1 (s.f SYS_LC_STATE)
      ++ natLE 1 (s.f SYS_START_STAT_BOOT_B) ++ natLE 1 (s.f SYS_START_STAT_VFY_ERR) ++ natLE 1 (s.f CFG_STAT_RUN_SLOT)
      ++ natLE 2 0 ++ natLE 4 (s.rdN REC_OLD_SEQ) ++ natLE 2 (s.f REC_SCAN_VALID) ++ natLE 2 (s.f REC_SCAN_DAMAGED)
      ++ ((List.range 12).flatMap fun w => natLE 4 (s.rdN (CFG_RUN_HASH w))) }

/-- What the scan found: the end of the last record and the SEQ after it, the oldest block and its first SEQ, the counts,
and whether the newest block lies before the oldest (R480). -/
def recFound (s : State) (head seq old oldSeq valid damaged : Nat) (wrapped : Bool) : State :=
  { s with recorder := { s.recorder with oldBlk := old } }
    |>.wrN REC_HEAD head |>.wrN REC_HEAD_SEQ seq |>.wrN REC_OLD (old * 65536) |>.wrN REC_OLD_SEQ oldSeq
    |>.setF REC_SCAN_VALID valid |>.setF REC_SCAN_DAMAGED damaged |>.setB REC_STAT_WRAPPED wrapped

/-- Damaged blocks are reported (R480). -/
def recDamage (s : State) (n : Nat) : State := if n = 0 then s else s.raise (mkFault srcREC 0x8A cINFO 0 [.val n])

/-- The scan of R480 over the store: head, next SEQ, oldest block and the counts. -/
def recScan (s : State) : State :=
  let m := s.nv.mram
  match recNewest m 256 with
  | none => { s with recorder := { s.recorder with oldBlk := 0 } }
  | some b =>
    let w := recWalk m b 4096 (b * 65536) (mramNat m (b * 65536 + 4) 4)
    let old := recOldest m b 255
    (s.recFound (w.1 % 16777216) w.2 old (mramNat m (old * 65536 + 4) 4) (recBlocks m) (recDamaged m old b)
      ((b + 1) % 256 == old)).recDamage (recDamaged m old b)

/-- The next item of HQ8 for the writer: the highest priority, the oldest of that priority (R485). -/
def recNext (s : State) : Option (Nat × QItem) :=
  let items := (s.queue 8).items
  let high := items.foldl (fun m i => max m (Body.prioOf i)) 0
  let ix := items.findIdx (fun i => Body.prioOf i == high)
  (items[ix]?).map (fun i => (ix, i))

/-- Bytes of the record that the writer takes next, up to its mark (R485). -/
def recNextBytes (s : State) : List Byte :=
  match s.recorder.faultReady with
  | r :: _ => recHeader r (s.rdN REC_HEAD_SEQ) s.sys.flushing
  | [] => match s.recNext with
    | some (_, ⟨_, .record r⟩) => recHeader r (s.rdN REC_HEAD_SEQ) s.sys.flushing
    | _ => []

/-- The supply is lost while the writer is n bytes into the next record: it stays without a mark (R487). -/
def recCut (s : State) (n : Nat) : State :=
  if s.flag REC_STAT_READY then s.mramWrite (s.rdN REC_HEAD) (s.recNextBytes.take n) else s

/-- An uncorrectable read or a failed write of MRAM at an address (R492). -/
def recMramErr (s : State) (address : Option Nat) : State :=
  match address with
  | none => s
  | some a => (s.hit REC_STAT_MRAM_ERR).raise (mkFault srcREC 0x89 cMAJOR 0 [.val a])

/-- A byte of the store as the read aperture of BAR2 shows it (R490): offset within the megabyte that REC_WIN.MIB places. -/
def recAperture (s : State) (off : Nat) : Byte := s.nv.mram.get 0 (s.f REC_WIN_MIB * 0x100000 + off % 0x100000)

end State

/-- REC_SCAN_DONE (R480): the scan that runs completes and the first record written after it is START; a failed SANITISE adds
its own record (R86). bad is the address of an uncorrectable read in the scan (R492). -/
def execRecScanDone (bad : Option Nat) (s : State) : Out :=
  if !s.flag REC_STAT_SCANNING then .next s else
  let s1 := ((s.recScan.recMramErr bad).setF REC_STAT_SCANNING 0).setF REC_STAT_READY 1
  let s2 := s1.recWrite s1.startRecord
  .next (match s.sys.sanitiseFail with
    | none => s2
    | some p => s2.recWrite ⟨0x13, 3, natLE 1 p.1 ++ natLE 3 0 ++ natLE 8 p.2, s.time.now, false⟩)

/-- RECORD_WRITE (R485): the FAULT record of the fault log engine first, otherwise the item of HQ8 of highest priority
and oldest of it. Nothing is written before the scan is complete. bad is the address of a failed write (R492). -/
def execRecordWrite (bad : Option Nat) (s : State) : Out :=
  if s.flag REC_STAT_READY then
    match s.recorder.faultReady with
    | r :: rs => .next ({ s with recorder := { s.recorder with faultReady := rs } }.recWrite r |>.recMramErr bad)
    | [] =>
      match s.recNext with
      | some (ix, ⟨len, .record r⟩) => .next ((s.recRemove ix ((len + 63) / 64)).recWrite r |>.recMramErr bad)
      | _ => .next s
  else .next s

/-- RECORD_OFFER (R482 to R484, R486): an offer by a block, or by the handler that runs on event core
`core`, whose result word answers. -/
def execRecordOffer (core : Option (Fin 8)) (code prio : Nat) (payload : List Byte) (s : State) : Out :=
  let p := s.recOffer core.isSome { code := code, prio := prio % 4, payload := payload, time := s.time.now, firmware := core.isSome }
  .next (match core with
    | none => p.1
    | some c => if (s.sched.cores.get c).running.isSome ∧ !(s.sched.cores.get c).halted then p.1.setResult c p.2 0 else s)

/-- SUPPRESSED (R484): a bucket with suppressed occurrences that has refilled to BURST makes its record. -/
def execSuppressed (code t : Nat) (s : State) : Out :=
  let s0 := s.runTo t
  .next (match s0.recEntry code with
    | none => s0
    | some b0 =>
      let b := b0.fill s0.cycleInc s0.time.mono
      if b.supp ≠ 0 ∧ b.tokens = b.burst * tokenUnit then
        ((s0.putBucket { b with supp := 0 }).recEnqueue (b.summary s0.time.now)).1
      else s0)

/-- DROP_EPISODE_END (R486): HQ8 holds no more than half its reserve; a DROPPED record and REC_DROP. -/
def execDropEpisodeEnd (s : State) : Out :=
  .next (match s.recorder.episode with
    | none => s
    | some (cnt, first) =>
      if 2 * (s.queue 8).cells ≤ (s.queue 8).reserved then
        ({ s with recorder := { s.recorder with episode := none } }.setF REC_STAT_EPISODE 0).offerRec 3 3
            ((cnt.flatMap (natLE 4)) ++ first.bytes)
          |>.raise (mkFault srcREC 0x88 cMINOR 0 [.val (cnt.findIdx (· != 0)), .val (cnt.foldl (· + ·) 0)])
      else s)

end Sys2Proof.Machine
end

