-- ==== Sys2Proof/Machine/Wheel.lean ====
section
/-! DEFINITION. The master angle and the event wheel (chapter 04). Positions are held in 2^-64 mc and speeds in 2^-64
mc/s; WHEEL speeds are Q40.24. Commands that fire an occurrence name its handle and the instant t; the wheel judges
whether W has reached it. -/

namespace Sys2Proof.Machine

def msHOLD : Nat := 0
def msFREE : Nat := 1
def msPULL : Nat := 2
def msLOCKED : Nat := 3
def msREAL : Nat := 4

/-- A whole mc in units of 2^-64. -/
def mcU : Int := 18446744073709551616

/-- The 64-bit master position of a position in 2^-64 mc, rounded down to a whole mc (R106, R109). -/
def posM (p : Int) : Nat := (p / mcU % mcU).toNat

/-- a − b as a signed 64-bit number (R106). -/
def diff64 (a b : Nat) : Int := signed 64 (a + 18446744073709551616 - b % 18446744073709551616)

/-- Position and speed after d units of elapsed time: a linear ramp from v0 towards vt at acceleration acc (R110). -/
def ramp (pos v0 vt acc : Int) (d : Nat) : Int × Int :=
  let dv := |vt - v0|
  let u : Int := Config.secUnits
  if dv * u ≤ acc * d then
    (pos + (v0 + vt) * dv / (2 * acc) + vt * d / u - vt * dv / acc, vt)
  else
    let v1 := if v0 ≤ vt then v0 + acc * d / u else v0 - acc * d / u
    (pos + (v0 + v1) * d / (2 * u), v1)

namespace State

def mst (s : State) : Nat := s.f WHEEL_STAT_MST_STATE
/-- The target speed, in 2^-64 mc/s. -/
def vspd (s : State) : Int := signed 64 (s.rd2 WHEEL_VSPD) * 1099511627776
/-- The acceleration limit, in 2^-64 mc/s²: 65,536 mc/s² units, 0 treated as 1 (WHEEL_VACC). -/
def vacc (s : State) : Int := (max 1 (s.rdN WHEEL_VACC) : Nat) * 65536 * mcU

/-- The target angle of locked operation at an instant of disciplined time (R111). -/
def thetaLock (s : State) (t : Instant) : Nat :=
  (((s.rdN WHEEL_PHASE : Int) + signed 64 (s.rd2 WHEEL_VSPD) * t / (16777216 * (Config.secUnits : Int))) % 4294967296).toNat

/-- θ_lock − angle as a signed 32-bit number (R112). -/
def lockError (s : State) (t : Instant) (pos : Int) : Int :=
  signed 32 (s.thetaLock t + 4294967296 - posM pos % 4294967296)

/-- The speed PULL aims at: v + clamp(10 s^-1 × e, ±P × |v|) (R112). -/
def pullSpeed (s : State) (e : Int) : Int :=
  let v := s.vspd
  let lim := (s.f WHEEL_PULL_PULL : Int) * |v| / 65536
  v + max (-lim) (min (10 * e * mcU) lim)

/-- The master at an instant: position, speed, since when |e| ≤ 64 mc has held (R112), and whether the ramp that precedes
pull-in runs (R113). -/
structure MPoint where
  pos : Int
  spd : Int
  ok : Option Nat
  ramping : Bool
deriving DecidableEq, Repr

/-- PULL over n SYS cycles (R112). Out of LOCKED the speed ramps to the new one first; pull-in and its 100 ms begin where
that ramp ends (R113). -/
def pullRun (s : State) : Nat → Nat → Instant → MPoint → MPoint
  | 0, _, _, m => m
  | n + 1, mono, now, m =>
    let inc := s.cycleInc
    let u := if m.ramping then s.vspd else s.pullSpeed (s.lockError now m.pos)
    let dv := s.vacc * inc / Config.secUnits
    let v := max (m.spd - dv) (min u (m.spd + dv))
    let pos := m.pos + v * inc / Config.secUnits
    let ramping := m.ramping && v != s.vspd
    let ok := if !ramping && decide (|s.lockError (now + inc) pos| ≤ 64) then some (m.ok.getD (mono + 1)) else none
    pullRun s n (mono + 1) (now + inc) ⟨pos, v, ok, ramping⟩

/-- The count of the real master's port, with its direction (R114). -/
def masterPort (s : State) : Nat := s.f WHEEL_MST_CTL_FBPORT
def realCount (s : State) : Int :=
  let c := s.rdI (FBP_CNT s.masterPort)
  if s.flag WHEEL_MST_CTL_INV then -c else c

/-- Between edges M runs on from the last edge at the port's speed estimate, never past the next count (R114): in 2^-32
counts. -/
def realExtra (s : State) : Int :=
  match s.fbps.get? s.masterPort with
  | some p =>
    match p.last with
    | some (t, _) =>
      let x := p.est * 65536 * ((s.time.mono - t) * s.cycleInc : Nat) / Config.secUnits
      let y := max (-4294967295) (min x 4294967295)
      if s.flag WHEEL_MST_CTL_INV then -y else y
    | none => 0
  | none => 0

/-- Position and speed of the real master (R114). -/
def realMaster (s : State) : Int × Int :=
  let r := (s.rd2 WHEEL_RATIO : Int)
  let est := match s.fbps.get? s.masterPort with | some p => p.est | none => 0
  ((s.wheel.offset + s.realCount * r) * 4294967296 + s.realExtra * r,
    (if s.flag WHEEL_MST_CTL_INV then -est else est) * r * 65536)

/-- The master now (R109 to R115). -/
def masterNow (s : State) : MPoint :=
  let w := s.wheel
  let d := s.time.elapsed - w.atElapsed
  if s.mst = msFREE then
    let r := ramp w.pos w.spd s.vspd s.vacc d
    ⟨r.1, r.2, none, false⟩
  else if s.mst = msPULL then
    s.pullRun (s.time.mono - w.atMono) w.atMono (s.time.now - d) ⟨w.pos, w.spd, w.okSince, w.ramping⟩
  else if s.mst = msLOCKED then
    let p := w.pos + s.vspd * d / Config.secUnits
    ⟨p + s.lockError s.time.now p * mcU - p % mcU, s.vspd, none, false⟩
  else if s.mst = msREAL then
    let r := s.realMaster
    ⟨r.1, r.2, none, false⟩
  else ⟨w.pos, 0, none, false⟩

/-- M and the speed, now. -/
def mpos (s : State) : Nat := posM s.masterNow.pos
def mspd (s : State) : Int := s.masterNow.spd

/-- The master stands at a point from the present instant on. -/
def placeMaster (s : State) (m : MPoint) : State :=
  { s with wheel := { s.wheel with pos := m.pos, spd := m.spd, okSince := m.ok, ramping := m.ramping,
                                   atElapsed := s.time.elapsed, atMono := s.time.mono } }

/-- The master's anchor is moved to the present instant. -/
def anchor (s : State) : State := s.placeMaster s.masterNow

/-- The master's state changes at the present instant, its position and speed going on. -/
def toMst (s : State) (m : Nat) : State := (s.anchor.setF WHEEL_STAT_MST_STATE m)

/-- FAULT with HOLD = 1: the wheel is stopped until the next reset (R130). -/
def wheelHeld (s : State) : Bool := s.mode == mFAULT && s.flag SYS_MODE_HOLD

/-- The wheel direction: true is reverse (R116). -/
def wdir (s : State) : Bool := s.flag WHEEL_STAT_DIR

/-- The wheel position W: M with a virtual master; with a real one it never falls back in the present direction (R116). -/
def wpos (s : State) : Nat :=
  if s.flag WHEEL_MST_CTL_SRC then
    let ahead := diff64 s.mpos s.wheel.w
    if (if s.wdir then ahead < 0 else 0 < ahead) then s.mpos else s.wheel.w
  else s.mpos

/-- A step of disciplined time: a locked master goes on without a jump, in PULL; one in PULL goes on from where it is
(R113). Called after the step. -/
def masterTimeStep (s : State) (ms : Int) : State :=
  if s.mst = msLOCKED ∨ s.mst = msPULL then
    let before := { s with time := { s.time with now := ((s.time.now : Int) - ms * Config.msUnits).toNat } }
    (s.placeMaster { before.masterNow with ok := none }).setF WHEEL_STAT_MST_STATE msPULL
  else s

-- ===== slots and descriptors =====

def slotShift (s : State) : Nat := s.f WHEEL_SLOT_SHIFT
/-- Slot number of a position, product cycles counted (R122). -/
def slotOf (s : State) (p : Nat) : Int := (p / 2 ^ s.slotShift : Nat)
/-- Distance in slots from slot a to slot b over the 64-bit circle. -/
def slotDiff (s : State) (b a : Int) : Int :=
  let n : Int := 2 ^ (64 - s.slotShift)
  let d := (b - a) % n
  if 2 * d < n then d else d - n
/-- A slot is staged: those brought on-die, and the one that W left last (R122). -/
def isStaged (s : State) (j : Int) : Bool :=
  let x := s.slotDiff j s.wheel.staged.1
  let n := s.slotDiff s.wheel.staged.2 s.wheel.staged.1
  if s.wdir then 0 ≤ x && x ≤ n + 1 else -1 ≤ x && x ≤ n

/-- The two slots ahead of W's slot are staged with it, in the direction of motion (R122). -/
def stage (s : State) : State :=
  let j := s.slotOf s.wpos
  { s with wheel := { s.wheel with staged := if s.wdir then (j - 2, j) else (j, j + 2) } }

end State
end Sys2Proof.Machine

namespace Sys2Proof

/-- Occurrence position P (R117). -/
def Descriptor.pos (d : Descriptor) : Nat := d.pcyc * 4294967296 + d.angle

/-- The descriptor k occurrences later; none when it is removed (R117, R587). -/
def Descriptor.later (d : Descriptor) (k : Nat) : Option Descriptor :=
  if k = 0 then some d
  else if d.period = 0 ∨ (d.count ≠ 0 ∧ d.count ≤ k) then none
  else
    let dp := k * d.period % 4294967296
    some { d with pcyc := (if d.dir = 0 then d.pcyc + dp else d.pcyc + 4294967296 - dp) % 4294967296,
                  count := d.count - (if d.count = 0 then 0 else k) }

/-- The bytes of a descriptor from its 64-byte form (R118). -/
def Descriptor.ofBytes (b : List Byte) : Descriptor :=
  let n := fun o k => leNat ((b.drop o).take k)
  let fl := n 0x0E 2
  { angle := n 0 4, pcyc := n 4 4, count := n 8 4, period := n 0x0C 2, dir := fl % 2, comm := fl.testBit 1, recd := fl.testBit 2,
    action := n 0x10 1, target := n 0x11 1, group := n 0x12 1, key := n 0x14 2, handler := n 0x16 2, width := n 0x18 4,
    tag := n 0x1C 4, payload := (b.drop 0x20).take 32, reserved := fl / 8 + n 0x13 1 }

def aPIN_SET : Nat := 1
def aPIN_CLEAR : Nat := 2
def aPIN_PULSE : Nat := 3
def aFOUT_SET : Nat := 4
def aFOUT_CLEAR : Nat := 5
def aFOUT_PULSE : Nat := 6
def aDISPATCH : Nat := 7
def aSEGMENT_GO : Nat := 8
def aACQ_TRIG : Nat := 9
def aLATCH_ARM : Nat := 10

/-- A token bucket filled up to an instant of the monotonic count, at inc units of 2^-32 ns a SYS cycle (R417, R588). -/
def TokenBucket.fill (b : TokenBucket) (inc t : Nat) : TokenBucket :=
  { b with tokens := min (b.burst * tokenUnit) (b.tokens + b.rate * (t - b.filledAt) * inc), filledAt := max t b.filledAt }

/-- An action on an EV pin, and one on a field output (R119). -/
def Descriptor.isPin (d : Descriptor) : Bool := 1 ≤ d.action && d.action ≤ aPIN_PULSE
def Descriptor.isFout (d : Descriptor) : Bool := aFOUT_SET ≤ d.action && d.action ≤ aFOUT_PULSE

/-- Two actions act on one EV pin or field output, or dispatch at one angle (R132). -/
def Descriptor.meets (d e : Descriptor) : Bool :=
  (d.isPin && e.isPin && d.target == e.target) || (d.isFout && e.isFout && d.target == e.target)
    || (d.action == aDISPATCH && e.action == aDISPATCH && d.pos == e.pos)

end Sys2Proof

namespace Sys2Proof.Machine
namespace State

/-- The lead of an action in half nanoseconds: pins lead by WHEEL_EV_LEAD + t_EVD of 7.5 ns (R125), outputs by LEAD in µs
+ t_FOD of 2 µs (R128). -/
def leadHalfNs (s : State) (d : Descriptor) : Nat :=
  if d.action ≤ aPIN_PULSE then 2 * s.f (WHEEL_EV_LEAD_LEAD d.target) + 15
  else if d.action ≤ aFOUT_PULSE then 2000 * s.f (FIO_OUTCFG_LEAD d.target) + 4000
  else 0

/-- W with the lead of an action, in the direction of the descriptor; a master that moves the other way leads by
nothing (R125, R128). Positions are taken modulo 2^64 (R106). -/
def leadPos (s : State) (d : Descriptor) : Nat :=
  let v := s.mspd
  let along := if d.dir = 0 then 0 < v else v < 0
  let extra : Int := if along then v * (s.leadHalfNs d : Int) / (2000000000 * mcU) else 0
  (((s.wpos : Int) + extra) % 18446744073709551616).toNat

/-- W, with its lead, stands at or past an occurrence in the occurrence's direction (R117). -/
def past (s : State) (d : Descriptor) : Bool :=
  let x := diff64 (s.leadPos d) d.pos
  if d.dir = 0 then 0 ≤ x else x < 0

/-- A descriptor for whose occurrence W stands on the near side can be crossed again (R117). -/
def rearm (s : State) (x : WDesc) : WDesc := { x with armed := x.armed || !s.past x.d }

/-- W is stored, the direction of a virtual master follows its speed, and descriptors are armed by it. A halted wheel keeps
the W of its halt (R542). -/
def syncW (s : State) : State :=
  if s.flag DBG_STAT_WHEEL then s
  else
    let s1 := { s with wheel := { s.wheel with w := s.wpos, descs := s.wheel.descs.map s.rearm } }
    if s.flag WHEEL_MST_CTL_SRC ∨ s.mspd = 0 then s1 else s1.setB WHEEL_STAT_DIR (s.mspd < 0)

/-- An occurrence is crossed: W has moved from before it to it or beyond (R117), and its slot is staged (R122, R131). -/
def due (s : State) (x : WDesc) : Bool := x.armed && s.past x.d && s.isStaged (s.slotOf x.d.pos)

/-- A field output's die, and whether a refresh departs to it in this SYS cycle: 1 µs after the one before (R128, R510). -/
def foutDie (o : Nat) : Fin 2 := if o < 16 then 0 else 1
def refreshDue (s : State) (die : Fin 2) : Bool :=
  match (s.fio.dies.get die).txAt with | some u => decide (u + 800 ≤ s.time.mono) | none => true

/-- The descriptor of a handle. -/
def descOf (s : State) (h : Nat) : Option WDesc := s.wheel.descs.find? (fun (x : WDesc) => x.handle == h)

/-- The stored descriptors change, and WHEEL_OCC with them. -/
def setDescs (s : State) (ds : List WDesc) : State :=
  { s with wheel := { s.wheel with descs := ds } }.setF WHEEL_OCC_COUNT ds.length

/-- An occurrence has fired or been passed: it moves on under R117. -/
def advance (s : State) (h k : Nat) : State :=
  s.setDescs (s.wheel.descs.filterMap (fun (x : WDesc) =>
    if x.handle = h then (x.d.later k).map (fun d => { x with d := d, armed := !s.past d }) else some x))

/-- The release record of a DISPATCH (R120), 128 bytes. -/
def releaseBytes (x : WDesc) (late : Bool) (t : Instant) : List Byte :=
  natLE 4 x.handle ++ natLE 4 x.d.tag ++ natLE 2 x.d.handler ++ natLE 2 x.d.key ++ natLE 1 x.d.group
    ++ natLE 1 (x.d.dir + 2 * b2n late) ++ natLE 2 0 ++ natLE 4 x.d.angle ++ natLE 4 x.d.pcyc
    ++ natLE 8 t.sec ++ natLE 4 t.ns ++ natLE 2 t.sub ++ natLE 26 0 ++ x.d.payload ++ natLE 32 0

/-- A DISPATCH release into HQ4; without cells it waits in the wheel's staging, marked, and counted late unless it has been
(R120, R131, R141). -/
def release (s : State) (x : WDesc) (late : Bool) : State :=
  let w : Work := { src := 4, handler := x.d.handler, key := x.d.key, group := x.d.group, payload := releaseBytes x late s.time.now,
                    entry := s.time.now, late := late }
  if s.stopped then s
  else
    let p := s.putWork 4 w
    if p.2 then p.1
    else
      let w' := { w with late := true, payload := releaseBytes x true s.time.now }
      let s1 := p.1.modQueue 4 (fun q => { q with waiting := q.waiting ++ [QItem.mk 128 (.work w')] })
      if late then s1 else s1.bump WHEEL_CNT_LATE

/-- An output's commanded level is set by a wheel action; in COMMISSION only where FIELDIO permits it (R77, R518). -/
def foutAct (s : State) (o : Nat) (on : Bool) : State :=
  if (s.mode = mCOMMISSION ∧ !s.flag (FIO_OUTCFG_COMM o)) ∨ s.mode = mFAULT then s else s.setB ⟨FIO_OUT, o, 1⟩ on

/-- An EV pin's level. -/
def setPin (s : State) (n : Nat) (on : Bool) : State := s.setB ⟨WHEEL_EV_LVL, n, 1⟩ on

/-- Nanoseconds as SYS cycles, rounded to whole cycles (R119). -/
def nsCycles (ns : Nat) : Nat := (roundHalfEven (4 * ns) 5).toNat

/-- A SEGMENT_GO crossing claims the tile's held segment; with none to claim, GO_EMPTY and PLN_GO_EMPTY (R198). -/
def segmentGo (s : State) (a : Fin 96) : State :=
  if (s.tiles.get a).held.isSome ∧ (s.tiles.get a).go.isNone then s.modTile a (fun t => { t with go := some s.time.elapsed })
  else (s.hit (TILE_PLN_STAT_GO_EMPTY a)).raise (mkFault a 0x24 cMINOR 0 [.inst a])

/-- The effect of an action at its crossing (R119). -/
def act (s : State) (x : WDesc) (late : Bool) : State :=
  let d := x.d
  if d.action = aPIN_SET then s.setPin d.target true
  else if d.action = aPIN_CLEAR then s.setPin d.target false
  else if d.action = aPIN_PULSE then
    { s with wheel := { s.wheel with pinPulses := s.wheel.pinPulses ++ [(d.target, s.time.mono + nsCycles d.width)] } }.setPin d.target true
  else if d.action = aFOUT_SET then s.foutAct d.target true
  else if d.action = aFOUT_CLEAR then s.foutAct d.target false
  else if d.action = aFOUT_PULSE then
    { s with wheel := { s.wheel with foutPulses := s.wheel.foutPulses ++
        [(d.target, s.time.mono + 800 * (roundHalfEven d.width 1000).toNat)] } }.foutAct d.target true
  else if d.action = aDISPATCH then s.release x late
  else if d.action = aSEGMENT_GO then
    if h : d.target < 96 then s.segmentGo ⟨d.target, h⟩ else s
  else if d.action = aACQ_TRIG then { s with acq := { s.acq with pendWheel := noted s.acq.pendWheel s.time.mono } }
  else if d.action = aLATCH_ARM then
    if h : d.target < 8 then
      { s with wheel := { s.wheel with windows := s.wheel.windows.set ⟨d.target, h⟩ (some (s.time.mono + nsCycles d.width)) } }
        |>.setF (WHEEL_LT_STAT_ARMED d.target) 1
    else s
  else s

/-- The WHEEL_REC record of a release (R118, R489). -/
def recRelease (s : State) (x : WDesc) (late : Bool) : State :=
  if x.d.recd then s.offerRec 0x300 0 (natLE 4 x.handle ++ natLE 4 x.d.tag ++ natLE 4 x.d.angle ++ natLE 4 x.d.pcyc
    ++ natLE 1 x.d.action ++ natLE 1 x.d.target ++ natLE 1 (b2n late) ++ natLE 1 0)
  else s

/-- Nothing of the wheel acts: before the end of LOAD, in COLD_STANDBY (R78), and in FAULT with HOLD = 1 (R130). -/
def wheelOff (s : State) : Bool := s.mode ≤ mCOLD_STANDBY || s.wheelHeld || s.flag DBG_STAT_WHEEL

/-- An occurrence fires: it acts unless the mode passes it by (R130), and moves on (R117). -/
def fireDesc (s : State) (x : WDesc) (late : Bool) : State :=
  if s.wheelOff then s
  else if s.mode = mCOMMISSION ∧ !x.d.comm then s.advance x.handle 1
  else
    let s1 := if late then s.bump WHEEL_CNT_LATE else s
    ((s1.act x late).recRelease x late).advance x.handle 1

/-- Fire several, in a given order. -/
def fireAll (s : State) (late : Bool) : List WDesc → State
  | [] => s
  | x :: xs => fireAll (s.fireDesc x late) late xs

/-- The pulses of an EV pin, or of a field output, whose WIDTH has expired end, before an action of the same cycle (R119,
R132). Each of several pulses on one pin keeps its own end. -/
def endPinPulses (s : State) (pin : Nat) : State :=
  let ended := fun (x : Nat × Nat) => x.1 == pin && x.2 ≤ s.time.mono
  if s.wheel.pinPulses.any ended then
    { s with wheel := { s.wheel with pinPulses := s.wheel.pinPulses.filter (fun x => !ended x) } }.setPin pin false
  else s
def endFoutPulses (s : State) (o : Nat) : State :=
  let ended := fun (x : Nat × Nat) => x.1 == o && x.2 ≤ s.time.mono
  if s.wheel.foutPulses.any ended then
    { s with wheel := { s.wheel with foutPulses := s.wheel.foutPulses.filter (fun x => !ended x) } }.foutAct o false
  else s

/-- The crossed occurrences that act before a descriptor, and it itself, in insertion order: those of its pin or output, or of
its angle (R132). -/
def dueWith (s : State) (x : WDesc) : List WDesc :=
  s.wheel.descs.filter (fun (y : WDesc) => (y.handle == x.handle || (y.d.meets x.d && y.seq < x.seq)) && s.due y)

/-- A crossed occurrence and those due before it fire; a field-output action goes out only with a refresh that departs (R128). -/
def fireDue (s : State) (x : WDesc) : State :=
  if !s.due x then s
  else if x.d.isFout then
    if s.refreshDue (foutDie x.d.target) then (s.endFoutPulses x.d.target).fireAll false (s.dueWith x) else s
  else (if x.d.isPin then s.endPinPulses x.d.target else s).fireAll false (s.dueWith x)

/-- A firing named by its handle: the descriptor stands with this action, and W has crossed its occurrence. -/
def fire (s : State) (h : Nat) (action : Nat) : State :=
  let s0 := s.syncW
  match s0.descOf h with
  | some x => if x.d.action = action then s0.fireDue x else s0
  | none => s0

/-- What a refresh carries out at its departure to a die: ended pulses, then every crossed field-output action of the die in
insertion order (R128, R132). -/
def foutRefresh (s : State) (die : Fin 2) : State :=
  let s0 := s.syncW
  let s1 := (List.range 16).foldl (fun (s : State) (i : Nat) => s.endFoutPulses (16 * die.val + i)) s0
  s1.fireAll false (s1.wheel.descs.filter (fun (x : WDesc) => x.d.isFout && foutDie x.d.target == die && s1.due x))

-- ===== insertion and cancel =====

/-- ACTION, TARGET and FLAGS are valid for the running structure, and for DISPATCH also HANDLER and GROUP (R119, R123,
R127, R517). -/
def descValid (s : State) (d : Descriptor) : Bool :=
  d.reserved == 0 && 1 ≤ d.action && d.action ≤ 10 &&
    (if d.action ≤ aPIN_PULSE then d.target < 16 && s.f (WHEEL_EV_CFG_OWNER d.target) == 0
     else if d.action ≤ aFOUT_PULSE then d.target < 32 && s.f (FIO_OUTCFG_OWNER d.target) == 1
     else if d.action = aDISPATCH then
       s.st.handlers.any (fun (h : Handler) => h.index == d.handler) && d.group < 8
     else if d.action = aSEGMENT_GO then s.st.axes.contains d.target
     else if d.action = aLATCH_ARM then d.target < 8
     else true)

/-- P lies beyond the second slot ahead of W's slot, in the descriptor's direction (R123). -/
def inTime (s : State) (d : Descriptor) : Bool :=
  let k := s.slotDiff (s.slotOf d.pos) (s.slotOf s.wpos)
  if d.dir = 0 then 2 < k else k < -2

/-- Descriptors stored in the angle slot of an angle (R123). -/
def slotCount (s : State) (angle : Nat) : Nat :=
  (s.wheel.descs.filter (fun (x : WDesc) => x.d.angle / 2 ^ s.slotShift == angle / 2 ^ s.slotShift)).length

/-- A handle that holds no descriptor: the next number that is free. -/
def freeHandle (s : State) : Nat → Nat → Nat
  | 0, h => h
  | n + 1, h => if (s.descOf h).isSome ∨ h = 0 then freeHandle s n ((h + 1) % 16777216) else h

/-- A descriptor is stored under a new handle. -/
def storeDesc (s : State) (d : Descriptor) : State × Nat :=
  let h := s.freeHandle (s.wheel.descs.length + 1) s.wheel.nextHandle
  ({ s with wheel := { s.wheel with nextHandle := (h + 1) % 16777216, nextSeq := s.wheel.nextSeq + 1 } }.setDescs
    (s.wheel.descs ++ [WDesc.mk h s.wheel.nextSeq d (!s.past d)]), h)

/-- The insertion checks before the token, in order (R123); admOK where all pass. -/
def insertCheck (s : State) (d : Descriptor) : Nat :=
  if s.cfg.run.isNone ∨ !s.descValid d then admSTRUCTURE
  else if s.mode = mCOMMISSION ∧ !d.comm then admMODE
  else if s.wheelHeld then admMODE
  else if !s.inTime d then admLATE
  else if s.f WHEEL_PART_COUNT ≤ s.wheel.descs.length then admFULL
  else if s.f WHEEL_SLOT_SLOT_MAX ≤ s.slotCount d.angle then admFULL
  else admOK

/-- An insertion by the core path or the host path: code and handle (R123, R588). -/
def insert (s : State) (core : Bool) (d : Descriptor) : State × Nat × Nat :=
  let c := s.insertCheck d
  if c ≠ admOK then (s.bump WHEEL_CNT_REF, c, 0)
  else
    let b := (if core then s.wheel.coreBucket else s.wheel.hostBucket).fill s.cycleInc s.time.mono
    let put := fun (s : State) (b : TokenBucket) =>
      if core then { s with wheel := { s.wheel with coreBucket := b } } else { s with wheel := { s.wheel with hostBucket := b } }
    if b.tokens < tokenUnit then ((put s b).bump WHEEL_CNT_REF, admBUDGET, 0)
    else
      let p := (put s { b with tokens := b.tokens - tokenUnit }).storeDesc d
      (p.1, admOK, p.2)

/-- A cancel by handle: after a release of the same SYS cycle (R124). -/
def cancel (s : State) (h : Nat) : State × Nat :=
  let s0 := s.syncW
  let s1 := match s0.descOf h with | some x => s0.fireDue x | none => s0
  if (s1.descOf h).isSome then (s1.setDescs (s1.wheel.descs.filter (fun (x : WDesc) => x.handle != h)), admOK)
  else (s1, admSTRUCTURE)

/-- Periods after which an occurrence lies at or beyond the slot after W's in its own direction, modulo 2^64 (R106, R587). -/
def skipPeriods (s : State) (d : Descriptor) : Nat :=
  let j := s.wpos / 2 ^ s.slotShift
  let short : Int := if d.dir = 0 then diff64 ((j + 1) * 2 ^ s.slotShift) d.pos
    else diff64 d.pos (j * 2 ^ s.slotShift + 18446744073709551615)
  if short ≤ 0 then 0
  else if d.period = 0 then 1
  else ((short + (d.period : Int) * 4294967296 - 1) / ((d.period : Int) * 4294967296)).toNat

/-- Occurrences that k periods pass: no more than COUNT, and one of a one-shot (R587). -/
def occurrences (d : Descriptor) (k : Nat) : Nat :=
  if d.period = 0 then min k 1 else if d.count = 0 then k else min k d.count

/-- The WHEELINIT descriptors of a structure are placed against W, skipped occurrences counted (R587). -/
def placeInit (s : State) : List Descriptor → State
  | [] => s
  | d :: ds =>
    let k := s.skipPeriods d
    let s1 := s.bumpBy WHEEL_CNT_SKIP (occurrences d k)
    placeInit (match d.later k with | some d' => (s1.storeDesc d').1 | none => s1) ds

/-- WHEEL_INS0 to 15 as a descriptor. -/
def insWords (s : State) : Descriptor :=
  Descriptor.ofBytes ((List.range 16).flatMap fun w => natLE 4 (s.rdN (WHEEL_INS w)))

/-- The tile that a port serves (R152). -/
def tileOfPort (s : State) (p : Nat) : Option (Fin 96) :=
  (List.finRange 96).find? (fun a => s.f (TILE_FB_SRC_SRC a) == 1 && s.f (TILE_FB_SRC_PORT a) == p)

/-- The offset at which a real master's M is a position in 2^-64 mc, or the least above it in the same mc (R114). -/
def offsetFor (s : State) (target : Int) : Int :=
  let r := (s.rd2 WHEEL_RATIO : Int)
  0 - (s.realExtra * r - target) / 4294967296 - s.realCount * r

/-- The real master's port reports lost or frozen feedback: M stops and MASTER_LOST is raised (R115). -/
def masterLost (s : State) (port : Nat) : State :=
  if s.mst = msREAL ∧ s.masterPort = port then
    let s1 := s.toMst msHOLD
    { s1 with wheel := { s1.wheel with held := true, spd := 0 } }.raise (mkFault srcWHEEL 0x10 cMAJOR 1 [.inst port])
  else s

/-- The port of a real master that has never been referenced is referenced: M is the WHEELINIT start angle, from which it
follows the count (R114). -/
def firstRef (s : State) (port : Nat) : State :=
  if s.flag WHEEL_MST_CTL_SRC ∧ s.masterPort = port ∧ s.mst = msHOLD ∧ !s.wheel.referenced ∧ !s.wheelHeld then
    { s with wheel := { s.wheel with referenced := true, offset := s.offsetFor s.wheel.pos } }.setF WHEEL_STAT_MST_STATE msREAL
  else s

/-- The descriptors a jump of W from w0 to m passes (R116). -/
def passedDescs (s : State) (w0 m : Nat) : List WDesc :=
  let dist := diff64 m w0
  s.wheel.descs.filter (fun (x : WDesc) =>
    if x.d.dir = 0 then 0 < diff64 x.d.pos w0 && diff64 x.d.pos w0 ≤ dist
    else diff64 x.d.pos w0 ≤ 0 && dist < diff64 x.d.pos w0)

/-- The passed descriptors in the order W meets them. -/
def passedInOrder (s : State) (w0 m : Nat) : List WDesc :=
  sortBy (fun (x : WDesc) => if 0 ≤ diff64 m w0 then diff64 x.d.pos w0 else -(diff64 x.d.pos w0)) (s.passedDescs w0 m)

/-- How many positions of one descriptor a jump skips. -/
def skipsOf (w0 m : Nat) (x : WDesc) : Nat :=
  let far := |diff64 m w0 - diff64 x.d.pos w0|
  if x.d.period = 0 then 1
  else
    let n := (far / ((x.d.period : Int) * 4294967296)).toNat + 1
    if x.d.count = 0 then n else min n x.d.count

/-- W stands at m. -/
def placeW (s : State) (m : Nat) : State := { s with wheel := { s.wheel with w := m } }

/-- The passed occurrences that act in the SYS cycle of a jump; a field-output action goes out with the next refresh of its die
(R126, R128). -/
def actNow (s : State) (x : WDesc) : Bool := !x.d.isFout || s.refreshDue (foutDie x.d.target)

/-- A jump of W further than one slot: the passed descriptors advance unfired. -/
def skipPassed (s : State) (w0 m : Nat) : State :=
  (s.passedDescs w0 m).foldl (fun s x => s.advance x.handle (State.skipsOf w0 m x)) (s.placeW m)

/-- W jumps to a position: within one slot every occurrence passed fires in angle order; beyond, they are skipped (R126). -/
def jumpFrom (s : State) (w0 m : Nat) : State :=
  if |diff64 m w0| ≤ 2 ^ s.slotShift then (s.placeW m).fireAll false ((s.passedInOrder w0 m).filter s.actNow)
  else
    let total := ((s.passedDescs w0 m).map (State.skipsOf w0 m)).foldl (· + ·) 0
    let s2 := s.skipPassed w0 m
    if total = 0 then s2.stage
    else ((s2.bumpBy WHEEL_CNT_SKIP total).hit WHEEL_STAT_SKIP).stage
      |>.raise (mkFault srcWHEEL 0x12 cMINOR 0 [.val total])

/-- W jumps from where it stands. -/
def jumpW (s : State) (m : Nat) : State := s.jumpFrom s.wpos m

/-- The position a pulled-in master locks at. -/
def lockedPos (s : State) : Int := s.wheel.pos + s.lockError s.time.now s.wheel.pos * mcU

/-- The locked master's position and speed. -/
def lockAt (s : State) (p spd : Int) : State := { s with wheel := { s.wheel with pos := p, spd := spd, okSince := none } }

/-- The master is referenced at product position m; the offset of a real master follows. -/
def referTo (s : State) (m : Nat) (off : Int) : State :=
  { s with wheel := { s.wheel with pos := (m : Int) * mcU, referenced := true, offset := off } }

/-- The position of a real master changes at once, by a referencing or a correction of its count: W moves as by a jump, in the
other direction only beyond WHEEL_HYST (R116, R126). A halted wheel keeps its W (R542). -/
def moveCount (s : State) (port : Nat) (g : State → State) : State :=
  if s.mst = msREAL ∧ s.masterPort = port ∧ !s.flag DBG_STAT_WHEEL then
    let s0 := s.syncW
    let w0 := s0.wheel.w
    let s1 := g s0
    let ahead := if s1.wdir then -(diff64 s1.mpos w0) else diff64 s1.mpos w0
    if 0 ≤ ahead then s1.jumpFrom w0 s1.mpos
    else if (s1.f WHEEL_HYST_HYST : Int) ≤ -ahead then (s1.setB WHEEL_STAT_DIR (!s1.wdir)).jumpFrom w0 s1.mpos
    else s1
  else g s

/-- The count or the speed estimate of a real master's port moves on: W keeps the extreme that M has reached (R116). -/
def followCount (s : State) (port : Nat) (g : State → State) : State :=
  if s.mst = msREAL ∧ s.masterPort = port then (g s.syncW).syncW else g s

/-- A halted wheel resumes: what the master has passed acts as a jump (R542). -/
def resumeWheel (s : State) : State :=
  if s.flag DBG_STAT_WHEEL then
    let s1 := s.setF DBG_STAT_WHEEL 0
    s1.jumpFrom s.wheel.w s1.wpos
  else s

end State

/-- A locked master goes back to pull-in after a ramp to the speed in force; one in PULL counts its 100 ms afresh (R113). -/
def State.repull (s : State) : State :=
  if s.mst = msLOCKED then
    { s with wheel := { s.wheel with okSince := none, ramping := true } }.setF WHEEL_STAT_MST_STATE msPULL
  else if s.mst = msPULL then { s with wheel := { s.wheel with okSince := none } }
  else s

/-- WHEEL_VSPD_WRITE (R110, R113): word 0 waits for word 1 (R555); a speed above VMAX is ignored. -/
def execWheelVspdWrite (w : Fin 2) (value : Word) (s : State) : Out :=
  .next (if !s.mapOpen then s
    else if w = 0 then s.holdLow (WHEEL_VSPD 0) value
    else
      let v := (s.lowWord (WHEEL_VSPD 0)).toNat + 4294967296 * value.toNat
      let s := s.dropLow (WHEEL_VSPD 0)
      if s.wheelHeld then s
      else if (signed 64 (s.rd2 WHEEL_VMAX)) < |signed 64 v| then s.hit WHEEL_STAT_VSPD_REFUSED
      else
        let s1 := s.anchor
        let s2 := s1.wr2 WHEEL_VSPD v
        if s.flag WHEEL_MST_CTL_SRC then s2
        else if s.mst = msHOLD then s2.setF WHEEL_STAT_MST_STATE msFREE
        else s2.repull)

/-- WHEEL_VACC_WRITE (R110): the new limit holds from the next SYS cycle, also during a ramp. -/
def execWheelVaccWrite (value : Word) (s : State) : Out :=
  .next (if !s.mapOpen then s else s.anchor.wr WHEEL_VACC value)

/-- WHEEL_PHASE_WRITE (R113). -/
def execWheelPhaseWrite (value : Word) (s : State) : Out :=
  .next (if s.wheelHeld ∨ !s.mapOpen then s
    else
      (s.anchor.wr WHEEL_PHASE value).repull)

/-- MASTER_LOCK (R113): pull-in starts from FREE with VSPD ≠ 0 and synchronised plant time (state SYNC, R420); otherwise
LOCK_REFUSED. -/
def execMasterLock (s : State) : Out :=
  .next (if s.wheelHeld ∨ !s.mapOpen then s
    else if s.mst = msPULL ∨ s.mst = msLOCKED then s
    else if s.mst = msFREE ∧ s.vspd ≠ 0 ∧ s.f TIME_STAT_STATE = 2 then
      let s1 := s.toMst msPULL
      { s1 with wheel := { s1.wheel with okSince := none, ramping := false } }.setF WHEEL_MST_CTL_LOCK 1
    else (s.setF WHEEL_MST_CTL_LOCK 0).hit WHEEL_STAT_LOCK_REFUSED)

/-- MASTER_UNLOCK (R113): the present speed is kept, then ramps to VSPD. -/
def execMasterUnlock (s : State) : Out :=
  .next (if s.wheelHeld ∨ !s.mapOpen then s
    else
      let s1 := s.setF WHEEL_MST_CTL_LOCK 0
      if s.mst = msPULL ∨ s.mst = msLOCKED then s1.toMst msFREE else s1)

/-- MASTER_LOCKED (R112, R132): |e| ≤ 64 mc has held for 100 ms; the angle takes θ_lock as a jump under R126. -/
def execMasterLocked (t : Nat) (s : State) : Out :=
  let s0 := (s.runTo t).anchor
  .next (match s0.wheel.okSince with
    | some since =>
      if s0.mst = msPULL ∧ since + s0.msCycles 100 ≤ s0.time.mono then
        ((s0.jumpW (posM s0.lockedPos)).lockAt s0.lockedPos s0.vspd).setF WHEEL_STAT_MST_STATE msLOCKED
      else s0
    | none => s0)

/-- MASTER_RESUME (R115): a held real master whose port's feedback is valid again, neither lost nor frozen, goes on from the
held value. -/
def execMasterResume (s : State) : Out :=
  let p := s.masterPort
  let bad := s.flag (FBP_STAT_LOST p) ||
    (match s.tileOfPort p with | some a => s.flag (TILE_FB_STAT_LOST a) || s.flag (TILE_FB_STAT_FROZEN a) | none => false)
  .next (if s.mapOpen ∧ s.flag WHEEL_MST_CTL_SRC ∧ s.wheel.held ∧ !s.wheelHeld ∧ !bad then
    { s with wheel := { s.wheel with offset := s.offsetFor s.wheel.pos, held := false } }.setF WHEEL_STAT_MST_STATE msREAL
  else s)

/-- MASTER_OVERSPEED (R131): |v| of the master exceeds WHEEL_VMAX. The context is in products per minute. -/
def execMasterOverspeed (t : Nat) (s : State) : Out :=
  let s0 := s.runTo t
  let v := |s0.mspd|
  .next (if signed 64 (s0.rd2 WHEEL_VMAX) * 1099511627776 < v then
    (s0.hit WHEEL_STAT_OVERSPEED).raise (mkFault srcWHEEL 0x11 cMAJOR 1 [.val (v * 60 / (4294967296 * mcU)).toNat])
  else s0)

/-- Descriptors are armed by where W stands (R117). -/
def State.armAll (s : State) : State := { s with wheel := { s.wheel with descs := s.wheel.descs.map s.rearm } }

/-- WHEEL_REVERSAL (R116, R122): M lies WHEEL_HYST beyond W against the wheel direction (a virtual master has reversed):
the direction flips, W takes M, and the slots the other way are staged. -/
def execWheelReversal (t : Nat) (s : State) : Out :=
  let s0 := (s.runTo t).anchor.armAll
  let back := if s0.wdir then diff64 s0.mpos s0.wpos else diff64 s0.wpos s0.mpos
  let flips := if s0.flag WHEEL_MST_CTL_SRC then decide ((s0.f WHEEL_HYST_HYST : Int) ≤ back ∧ 0 < back)
    else decide (if s0.wdir then 0 < s0.mspd else s0.mspd < 0)
  .next (if flips then
    ((s0.placeW s0.mpos).setB WHEEL_STAT_DIR (!s0.wdir)).armAll.stage
  else s0)

/-- SLOT_STAGE (R122, R131): W has entered a slot and the next two are staged; actions of a slot that comes too late act
now, with LATE. -/
def execSlotStage (t : Nat) (s : State) : Out :=
  let s0 := (s.runTo t).syncW
  let late := s0.wheel.descs.filter (fun (x : WDesc) => x.armed && s0.past x.d && !s0.isStaged (s0.slotOf x.d.pos))
  .next (s0.stage.fireAll true late)

def execPinSet (handle t : Nat) (s : State) : Out := .next ((s.runTo t).fire handle aPIN_SET)
def execPinClear (handle t : Nat) (s : State) : Out := .next ((s.runTo t).fire handle aPIN_CLEAR)
def execPinPulse (handle t : Nat) (s : State) : Out := .next ((s.runTo t).fire handle aPIN_PULSE)
def execFoutSet (handle t : Nat) (s : State) : Out := .next ((s.runTo t).fire handle aFOUT_SET)
def execFoutClear (handle t : Nat) (s : State) : Out := .next ((s.runTo t).fire handle aFOUT_CLEAR)
def execFoutPulse (handle t : Nat) (s : State) : Out := .next ((s.runTo t).fire handle aFOUT_PULSE)
def execDispatch (handle t : Nat) (s : State) : Out := .next ((s.runTo t).fire handle aDISPATCH)
def execSegmentGo (handle t : Nat) (s : State) : Out := .next ((s.runTo t).fire handle aSEGMENT_GO)
def execAcqTrig (handle t : Nat) (s : State) : Out := .next ((s.runTo t).fire handle aACQ_TRIG)
def execLatchArm (handle t : Nat) (s : State) : Out := .next ((s.runTo t).fire handle aLATCH_ARM)

/-- PIN_PULSE_END (R119): the pulses of the pin whose WIDTH has expired end, and the pin goes low. -/
def execPinPulseEnd (pin : Fin 16) (t : Nat) (s : State) : Out := .next ((s.runTo t).endPinPulses pin)

/-- FOUT_PULSE_END (R119): the output is switched off. -/
def execFoutPulseEnd (out : Fin 32) (t : Nat) (s : State) : Out := .next ((s.runTo t).endFoutPulses out)

/-- LATCH_WINDOW_END (R129). -/
def execLatchWindowEnd (lt : Fin 8) (t : Nat) (s : State) : Out :=
  let s0 := s.runTo t
  .next (match s0.wheel.windows.get lt with
    | some e =>
      if e ≤ s0.time.mono then
        { s0 with wheel := { s0.wheel with windows := s0.wheel.windows.set lt none } }.setF (WHEEL_LT_STAT_ARMED lt) 0
      else s0
    | none => s0)

/-- The disciplined time of a latch edge sampled now, t_LTD = 10 ns earlier; a step of this SYS cycle is in it (R129, R432). -/
def State.edgeTime (s : State) : Instant :=
  ((s.time.now : Int) + s.stepDue.getD 0 * Config.msUnits - 10 * Config.nsUnits).toNat

/-- LATCH_EDGE (R129): the SYS cycle t samples a new level that stands for width cycles. It is accepted where the
minimum-pulse filter lets it pass; its time and M are those of t_LTD = 10 ns earlier. -/
def execLatchEdge (lt : Fin 8) (rising : Bool) (width t : Nat) (s : State) : Out :=
  let s0 := s.runTo t
  let e := s0.f (WHEEL_LT_CFG_EDGE lt)
  let wanted := e == 2 || (e == 0 && rising) || (e == 1 && !rising)
  let openW := !s0.flag (WHEEL_LT_CFG_WINDOWED lt) ||
    (match s0.wheel.windows.get lt with | some u => decide (s0.time.mono < u) | none => false)
  let fifo := s0.wheel.latches.get lt
  .next (if s0.cfg.run.isSome ∧ s0.f (WHEEL_LT_CFG_FILT lt) ≤ width ∧ wanted ∧ openW then
    if fifo.length < 16 then
      let m := s0.masterNow
      let p := posM (m.pos - m.spd * 10 / 1000000000)
      { s0 with wheel := { s0.wheel with
          latches := s0.wheel.latches.set lt (fifo ++ [LatchEntry.mk s0.edgeTime p rising s0.time.mono]) } }
        |>.setF (WHEEL_LT_STAT_LEVEL lt) (fifo.length + 1)
    else (s0.hit (WHEEL_LT_STAT_OVF lt)).hit WHEEL_STAT_LT_OVF
  else s0)

/-- LATCH_READ: a read of WHEEL_LT_ANG removes the oldest entry and captures its other fields; 0 with LEVEL 0. An entry of the
same SYS cycle comes after the read (R14). -/
def execLatchRead (lt : Fin 8) (s : State) : Out :=
  .next (match s.wheel.latches.get lt with
    | [] => { s with rdData := 0 }
    | e :: es =>
      if !s.mapOpen ∨ e.at_ = s.time.mono then { s with rdData := 0 }
      else
        { s with wheel := { s.wheel with latches := s.wheel.latches.set lt es }, rdData := BitVec.ofNat 32 e.m }
          |>.setF (WHEEL_LT_STAT_LEVEL lt) es.length |>.wrN (WHEEL_LT_PCYC lt) (e.m / 4294967296)
          |>.wrN (WHEEL_LT_NS lt) (e.time.ns + 2147483648 * b2n e.rising) |>.wrN (WHEEL_LT_SUB lt) e.time.sub
          |>.wr2 (WHEEL_LT_SEC lt) e.time.sec)

/-- MASTER_ANGLE_READ (R555): a read of WHEEL_MST_ANG captures product cycle and speed of the same SYS cycle; the speed is
rounded to its format (R10). -/
def execMasterAngleRead (s : State) : Out :=
  let m := s.masterNow
  .next (if !s.mapOpen then { s with rdData := 0 }
  else
    { (s.wrN WHEEL_MST_PCYC (posM m.pos / 4294967296)).wr2 WHEEL_MST_SPD (wrapNat 64 (roundHalfEven m.spd 1099511627776)) with
      rdData := BitVec.ofNat 32 (posM m.pos) })

/-- WHEEL_INSERT (R123): the host's WHEEL_INS words are committed. -/
def execWheelInsert (s : State) : Out :=
  let p := s.insert false s.insWords
  .next (if !s.mapOpen then s else (p.1.setF WHEEL_INS_RES_CODE p.2.1).setF WHEEL_INS_RES_HANDLE p.2.2)

/-- WHEEL_CANCEL (R124). -/
def execWheelCancel (handle : Nat) (s : State) : Out :=
  let p := s.cancel handle
  .next (if !s.mapOpen then s else (p.1.setF WHEEL_INS_RES_CODE p.2).setF WHEEL_INS_RES_HANDLE 0)

/-- CORE_WHEEL_INSERT (R147, R149): the wheel port of an event core whose handler runs. -/
def execCoreWheelInsert (c : Fin 8) (d : Descriptor) (s : State) : Out :=
  let p := s.insert true d
  .next (if s.busy c ∧ !(s.sched.cores.get c).halted then p.1.setResult c p.2.1 p.2.2 else s)

/-- CORE_WHEEL_CANCEL (R147, R149). -/
def execCoreWheelCancel (c : Fin 8) (handle : Nat) (s : State) : Out :=
  let p := s.cancel handle
  .next (if s.busy c ∧ !(s.sched.cores.get c).halted then p.1.setResult c p.2 0 else s)

end Sys2Proof.Machine
end

