-- ==== Sys2Proof/Machine/Feedback.lean ====
section
/-! DEFINITION. Position and speed feedback (chapter 06): counting, index events, speed estimation, the latch of a tile,
and lost and frozen feedback. Edge commands carry the levels of the lines in the FBS sample at the instant t and for how many
consecutive samples each line has shown its level. -/

namespace Sys2Proof.Machine

/-- Place of a quadrature state in the sequence that counts up: A leads B (R153). -/
def quadPhase (a b : Bool) : Int := if a then (if b then 2 else 1) else (if b then 3 else 0)

/-- Place of a Hall state in the order that counts up (R160); none for 000 and 111. -/
def hallPhase (u v w : Bool) : Option Int :=
  match u, v, w with
  | false, false, true => some 0
  | false, true, true => some 1
  | false, true, false => some 2
  | true, true, false => some 3
  | true, false, false => some 4
  | true, false, true => some 5
  | _, _, _ => none

/-- What a sample does to a port's count: a change, an illegal transition, or neither. -/
inductive EdgeKind where
  | change (d : Int)
  | illegal
  | nothing
deriving DecidableEq, Repr

/-- The effect of new accepted levels in each mode (R153, R157, R159, R160). The old levels are a0, b0, z0. -/
def edgeKind (mode : Nat) (a0 b0 z0 a b z : Bool) : EdgeKind :=
  if mode = 1 then
    if a0 = a ∧ b0 = b then .nothing
    else if a0 ≠ a ∧ b0 ≠ b then .illegal
    else .change (if (quadPhase a b - quadPhase a0 b0) % 4 = 1 then 1 else -1)
  else if mode = 2 then (if !a0 ∧ a then .change (if b0 then 1 else -1) else .nothing)
  else if mode = 3 then
    let up := !a0 && a
    let down := !b0 && b
    if up && !down then .change 1 else if down && !up then .change (-1) else .nothing
  else if mode = 4 then
    if a0 = a ∧ b0 = b ∧ z0 = z then .nothing
    else
      match hallPhase a0 b0 z0, hallPhase a b z with
      | some x, some y => if (y - x) % 6 = 1 then .change 1 else if (x - y) % 6 = 1 then .change (-1) else .illegal
      | _, _ => .illegal
  else .nothing

/-- CRC of an SSI frame: x^6 + x + 1, initial value 0, over n bits, most significant first (R163). -/
def ssiCrc (frame : Nat) : Nat → Nat → Nat
  | 0, crc => crc
  | n + 1, crc =>
    let top := (crc / 32 % 2) ^^^ (b2n (frame.testBit n))
    ssiCrc frame n (((2 * crc) % 64) ^^^ (if top = 1 then 3 else 0))

/-- Gray code to binary over w bits (R162). -/
def grayToBin (g : Nat) : Nat → Nat
  | 0 => g
  | k + 1 => let b := grayToBin g k; b ^^^ (g >>> (k + 1))

namespace State

/-- The place of FBP_STAT.LINES that shows K, and K idle high on every port (R152, R153). -/
def kBit (p : Nat) : Fld := ⟨FBP_STAT p, 11, 1⟩

def portMode (s : State) (p : Nat) : Nat := s.f (FBP_CFG_MODE p)
/-- The port's count, signed (FBP_CNT). -/
def count (s : State) (p : Nat) : Int := s.rdI (FBP_CNT p)
/-- FBP_CFG.INV reverses every count change (R154). -/
def inv (s : State) (p : Nat) (d : Int) : Int := if s.flag (FBP_CFG_INV p) then -d else d

/-- A change of the count that is no edge: a correction or a referencing (R166, R168). -/
def shiftCount (s : State) (p : Fin 32) (t : Nat) (d : Int) (kind : Nat) : State :=
  (s.wrI (FBP_CNT p) (s.count p + d)).modFbp p (fun x => { x with moves := ⟨t, d, kind, s.count p + d⟩ :: x.moves })

/-- A pending index correction whose sample has come is applied; a real master jumps with it (R126, R168). -/
def settle (s : State) (p : Fin 32) (t : Nat) : State :=
  match (s.fbps.get p).corr with
  | some (due, d) =>
    if due ≤ t then (s.modFbp p (fun x => { x with corr := none })).moveCount p (fun s => s.shiftCount p due d 1) else s
  | none => s

/-- The accepted levels of A, B and Z (FBP_STAT.LINES). -/
def lineA (s : State) (p : Nat) : Bool := (s.f (FBP_STAT_LINES p)).testBit 0
def lineB (s : State) (p : Nat) : Bool := (s.f (FBP_STAT_LINES p)).testBit 1
def lineZ (s : State) (p : Nat) : Bool := (s.f (FBP_STAT_LINES p)).testBit 2
def setLines (s : State) (p : Nat) (a b z : Bool) : State :=
  s.setF (FBP_STAT_LINES p) (b2n a + 2 * b2n b + 4 * b2n z + (s.f (FBP_STAT_LINES p)) / 8 * 8)

/-- An accepted count change at a sample (R170); a real master's W follows (R114, R116). -/
def countEdge (s : State) (p : Fin 32) (t : Nat) (d : Int) : State :=
  s.followCount p (fun s =>
    (s.wrI (FBP_CNT p) (s.count p + d)).modFbp p (fun x =>
      { x with last := some (t, d), moves := ⟨t, d, 0, s.count p + d⟩ :: x.moves }))

/-- An illegal transition: the count is left, flag, counter and notice (R157). -/
def illegalEdge (s : State) (p : Fin 32) : State :=
  let s1 := ((s.hit (FBP_STAT_ILLEGAL p)).bump (FBP_CNT_ILL p)).modFbp p (fun x => { x with illNow := x.illNow + 1 })
  let s2 := match s.tileOfPort p with | some a => s1.hit (TILE_FB_STAT_ILLEGAL a) | none => s1
  s2.raise (mkFault (0x80 + p) 0x18 cINFO 0 [])

/-- The level that the minimum-pulse filter of a line gives: a level is accepted once seen in FILT + 1 consecutive samples
(R155). -/
def accept (s : State) (p : Nat) (old new : Bool) (n : Nat) : Bool := if s.f (FBP_CFG_FILT p) < n then new else old

/-- What accepted levels of a sample do to the count (R157 to R160). -/
def countSample (s : State) (p : Fin 32) (a b z : Bool) (t : Nat) : State :=
  let s1 := s.setLines p a b z
  let s2 := if s.portMode p = 4 then
      s1.modFbp p (fun x => { x with hallSince := if (hallPhase a b z).isSome then none else some (x.hallSince.getD t) })
    else s1
  match edgeKind (s.portMode p) (s.lineA p) (s.lineB p) (s.lineZ p) a b z with
  | .change d => s2.countEdge p t (s2.inv p d)
  | .illegal => s2.illegalEdge p
  | .nothing => s2

/-- The reaction level of lost or frozen feedback: L1 to L4, and L2 where the image sets none (R175). -/
def lossLevel (l : Nat) : Nat := if 1 ≤ l ∧ l ≤ 4 then l else 2

/-- Lost feedback of a tile (R173, R175): VALID falls, the position is held, speed 0, FB_LOST with LOST_LVL. -/
def tileLost (s : State) (a : Fin 96) (cause : Nat) : State :=
  if s.flag (TILE_FB_STAT_LOST a) then s
  else
    let s1 := ((((s.modTile a (fun t => { t with setRef := false })).hit (TILE_FB_STAT_LOST a)).setF (TILE_FB_STAT_LOST_CAUSE a) cause).setF
      (TILE_FB_STAT_VALID a) 0).wr2 (TILE_FB_SPD a) 0
    s1.raise (mkFault a 0x1B cMAJOR (lossLevel (s.f (TILE_FB_SRC_LOST_LVL a))) [.inst a, .code cause] (s.scopeOfAxis a) true)

/-- Lost feedback of a port, for the tile or the real master it serves (R173, R176). -/
def portLost (s : State) (p : Fin 32) (cause : Nat) : State :=
  let s1 := (s.hit (FBP_STAT_LOST p)).masterLost p
  match s.tileOfPort p with
  | some a => s1.tileLost a cause
  | none => s1

/-- A referencing or indexing value of a port, signed. -/
def idxBase (s : State) (p : Nat) : Int := s.rdI (FBP_IDXBASE p)
def idxPeriod (s : State) (p : Nat) : Nat := s.rdN (FBP_IDXPER p)
def idxWin (s : State) (p : Nat) : Nat := s.rdN (FBP_IDXWIN p) % 65536

/-- REF_ARMED stands, and was not written in the sample of an instant (R166, R180). -/
def refArmed (s : State) (p : Fin 32) (t : Nat) : Bool :=
  s.flag (FBP_STAT_REF_ARMED p) && (match (s.fbps.get p).armedAt with | some m => m / 4 != t / 4 | none => true)

/-- The port is referenced at an index event: the count becomes IDX_BASE (R166), and a real master starts or jumps (R114,
R126). -/
def referPort (s : State) (p : Fin 32) (t : Nat) : State :=
  let s1 := s.moveCount p (fun s => s.shiftCount p t (s.idxBase p - s.count p) 2)
  (((s1.setF (FBP_STAT_REFERENCED p) 1).setF (FBP_STAT_REF_ARMED p) 0).modFbp p
    (fun x => { x with lastIdx := some (s.idxBase p), idxLate := false, corr := none })).firstRef p

/-- An index event (R165 to R168). -/
def indexEvent (s : State) (p : Fin 32) (t : Nat) : State :=
  let c := s.count p
  let s1 := s.wrI (FBP_IDXCNT p) c
  if s.refArmed p t then s1.referPort p t
  else if s.flag (FBP_STAT_REFERENCED p) ∧ s.idxPeriod p ≠ 0 then
    let per : Int := s.idxPeriod p
    let d := (c - s.idxBase p + per / 2) % per - per / 2
    let s2 := s1.modFbp p (fun x => { x with lastIdx := some c, idxLate := false })
    if d = 0 then s2
    else
      let s3 := ((s2.hit (FBP_STAT_SLIP p)).wrI (FBP_SLIP p) d)
      let s4 := match s.tileOfPort p with | some a => s3.hit (TILE_FB_STAT_SLIP a) | none => s3
      let scope := match s.tileOfPort p with | some a => s.scopeOfAxis a | none => allGroups
      if s.flag (FBP_CFG_IDX_CORR p) ∧ (s.idxWin p : Int) < |d| then
        (s4.hit (FBP_STAT_OUT_WIN p)).raise (mkFault (0x80 + p) 0x19 cMAJOR 1 [.sval d] scope)
      else
        let s5 := s4.raise (mkFault (0x80 + p) 0x19 cMINOR 0 [.sval d])
        if s.flag (FBP_CFG_IDX_CORR p) then s5.modFbp p (fun x => { x with corr := some (t + 4, -d) }) else s5
  else s1.modFbp p (fun x => { x with lastIdx := some c, idxLate := false })

/-- An FBS sample (R155 to R160, R165): every line passes its filter, the count takes the accepted levels, then an index event
is evaluated: a rising edge of Z, read after inversion by ZPOL, with A and B high where ZGATE asks it. Samples lie 5 ns
apart. -/
def sample (s : State) (p : Fin 32) (a b z : Bool) (na nb nz t : Nat) : State :=
  let s0 := (s.runTo t).settle p t
  if t % 4 ≠ 0 then s0
  else
    let a1 := s0.accept p (s0.lineA p) a na
    let b1 := s0.accept p (s0.lineB p) b nb
    let z1 := s0.accept p (s0.lineZ p) z nz
    let pol := s0.flag (FBP_CFG_ZPOL p)
    let s1 := s0.countSample p a1 b1 z1 t
    if 1 ≤ s0.portMode p ∧ s0.portMode p ≤ 3 ∧ (z1 != pol) ∧ (s0.lineZ p == pol) ∧ (!s0.flag (FBP_CFG_ZGATE p) ∨ (a1 ∧ b1)) then
      s1.indexEvent p t
    else s1

/-- The causes of lost feedback that a port holds now (R173, R177). -/
def portCause (s : State) (p : Fin 32) (cause : Nat) : Bool :=
  let x := s.fbps.get p
  if cause = 1 then s.flag (FBP_CFG_WB_EN p) && s.flag (FBP_STAT_WB p)
  else if cause = 2 ∨ cause = 3 then s.f (FBP_CFG_SSI_ERRMAX p) ≤ x.badRun && x.badRun ≠ 0
  else if cause = 4 then (match x.hallSince with | some t => decide (t + s.msCycles 1 ≤ s.time.mono) | none => false)
  else if cause = 5 then 16 ≤ x.illPrev || 16 ≤ x.illNow
  else false

/-- The cause that a loop tick latch finds at a port (R163, R173): the first of the table's order. -/
def portLoss (s : State) (p : Fin 32) : Option Nat :=
  if s.portCause p 2 then some (if (s.fbps.get p).badCrcOnly then 3 else 2)
  else if s.portCause p 4 then some 4
  else if s.portCause p 5 then some 5
  else none

/-- A loop tick latch tests a port for lost feedback (R173). -/
def testPort (s : State) (p : Fin 32) : State :=
  if s.flag (FBP_STAT_LOST p) then s else match s.portLoss p with | some c => s.portLost p c | none => s

/-- Any cause of loss holds for a port. -/
def portBad (s : State) (p : Fin 32) : Bool := [1, 2, 4, 5].any (s.portCause p)

/-- A port that comes back from a loss is unreferenced; SSI is referenced again at its next valid frame (R177). -/
def portBack (s : State) (p : Fin 32) : State :=
  let s1 := (s.setF (FBP_STAT_LOST p) 0).setF (FBP_STAT_REFERENCED p) 0
  if s.portMode p = 5 then s1.modFbp p (fun x => { x with rerefer := true }) else s1

/-- The cause of a tile's loss holds now (R173). -/
def tileCause (s : State) (a : Fin 96) : Bool :=
  if s.f (TILE_FB_SRC_SRC a) = 1 then
    if h : s.f (TILE_FB_SRC_PORT a) < 32 then s.portCause ⟨_, h⟩ (s.f (TILE_FB_STAT_LOST_CAUSE a)) else false
  else
    let c := s.f (TILE_FB_STAT_LOST_CAUSE a)
    if c = 6 then s.f (TILE_FB_SRC_AGE_MAX a) < s.f (TILE_FB_STAT_AGE a)
    else if c = 7 then (match (s.tiles.get a).rmt with | some r => r.status.testBit 2 | none => false)
    else false

/-- The conditions of frozen feedback hold for a tile now (R174). -/
def frozenNow (s : State) (a : Fin 96) : Bool :=
  let n := s.f (TILE_FB_FRZ_TICKS a)
  if s.f (TILE_FB_SRC_SRC a) = 2 ∧ s.flag (TILE_FB_SRC_DRV_LOOP a) then
    (match (s.tiles.get a).rmt with | some r => r.status.testBit 3 | none => false)
  else
    let h := (s.tiles.get a).frz
    n ≠ 0 && n ≤ h.length && s.f (TILE_FB_IGROW_IGROW a) + h.getD (n - 1) 0 ≤ h.getD 0 0

-- ===== the latch at a loop tick =====

/-- Q32.16 speed of dc counts over a number of SYS cycles, rounded under R10 (R170, R417). -/
def speedOf (s : State) (dc : Int) (cycles : Nat) : Int :=
  if cycles = 0 then 0 else roundHalfEven (dc * 65536 * Config.secUnits) (cycles * s.cycleInc)

/-- The difference of two counts modulo 2^32, signed (R6). -/
def countDiff (a b : Int) : Int := signed 32 (wrapNat 32 (a - b))

end State
end Sys2Proof.Machine

namespace Sys2Proof

/-- A latch whose point is tl takes a change sampled at or before it; a correction only where its sample is not the last one
before the point (R164, R180). -/
def FbMove.latched (m : FbMove) (tl : Nat) : Bool := if m.kind = 1 then m.t + 4 ≤ tl else m.t ≤ tl

/-- The edges that a latch takes, oldest first, and what is left for the next one. -/
def FbPort.window (x : FbPort) (tl : Nat) : List FbMove := (x.moves.filter (fun (m : FbMove) => m.kind == 0 && m.latched tl)).reverse
def FbPort.later (x : FbPort) (tl : Nat) : List FbMove := x.moves.filter (fun (m : FbMove) => !m.latched tl)

/-- How far the changes that a latch does not take yet move the count. -/
def FbPort.ahead (x : FbPort) (tl : Nat) : Int := ((x.later tl).map FbMove.d).foldl (· + ·) 0

/-- The referencing shifts that a latch takes (R166); none where it takes no referencing. -/
def FbPort.shift (x : FbPort) (tl : Nat) : Option Int :=
  match (x.moves.filter (fun (m : FbMove) => m.kind == 2 && m.latched tl)).map FbMove.d with
  | [] => none
  | ds => some (ds.foldl (· + ·) 0)

/-- An edge of the window becomes the last one (R170). -/
def FbPort.edge (x : FbPort) (m : FbMove) : FbPort :=
  { x with eLast := some (m.t, m.d, m.c), eBefore := x.eLast.map (fun (e : Nat × Int × Int) => (e.1, e.2.1)),
           sinceStill := if x.sinceStill.1 = m.d then (m.d, x.sinceStill.2 + 1) else (m.d, 1) }

/-- No edge for a number of SYS cycles up to an instant (R171). -/
def FbPort.quiet (x : FbPort) (cycles t : Nat) : Bool := match x.eLast with | some e => decide (cycles ≤ t - e.1) | none => true

end Sys2Proof

namespace Sys2Proof.Machine
namespace State

/-- The speed estimate of a port at a latch point (R170, R171): standstill, mode and speed. Where no edge came before the
previous latch, the speed in count mode is that of period mode. -/
def estimate (s : State) (x : FbPort) (still tl : Nat) : FbPort :=
  let es := x.window tl
  let y := es.foldl FbPort.edge { x with moves := x.later tl }
  if y.quiet still tl then { y with still := true, est := 0, sinceStill := if x.still then y.sinceStill else (0, 0) }
  else if x.still && y.sinceStill.2 < 2 then { y with est := 0 }
  else
    match y.eLast with
    | none => { y with est := 0 }
    | some (t, d, c) =>
      if 8 ≤ es.length ∨ (x.countMode ∧ 4 ≤ es.length) then
        match x.eLast with
        | some (t0, _, c0) => { y with still := false, countMode := true, est := s.speedOf (countDiff c c0) (t - t0) }
        | none => { y with still := false, countMode := true, est := s.speedOf d (tl - t) }
      else
        match y.eBefore with
        | some (tb, db) =>
          if db ≠ d then { y with still := false, countMode := false, est := 0 }
          else { y with still := false, countMode := false, est := s.speedOf d (max (t - tb) (tl - t)) }
        | none => { y with still := false, countMode := false, est := s.speedOf d (tl - t) }

/-- Nanoseconds field of the disciplined time of a monotonic count. -/
def nsAt (s : State) (t : Nat) : Nat := Instant.ns (s.time.now - (s.time.mono - t) * s.cycleInc)

/-- The frozen conditions at a tick: count unchanged since the last tick and torque above TQ (R174). -/
def trackFrozen (s : State) (a : Fin 96) (count : Int) : State :=
  let n := s.f (TILE_FB_FRZ_TICKS a)
  s.modTile a (fun t =>
    { t with frzPos := some count
             frz := if t.frzPos = some count ∧ (s.f (TILE_FB_FRZ_TQ a) : Int) < |t.tqcmd| then (t.vint.natAbs :: t.frz).take n else [] })

/-- The latch point of the present loop tick: t_FBLAT of 100 ns before its boundary (R164). -/
def latchPoint (s : State) : Nat := s.time.mono - 80

/-- An SSI port's speed: its two latest positions and their sample instants; an aged value keeps it (R172). -/
def ssiSpeed (s : State) (x : FbPort) : FbPort :=
  match x.ssiLast, x.ssiPrev with
  | some (t1, c1), some (t0, c0) => if x.aged then x else { x with est := s.speedOf (countDiff c1 c0) (t1 - t0) }
  | _, _ => x

/-- A port at a latch point: its estimate, and the changes that it has taken (R164, R170, R172). A real master's speed follows. -/
def latchEst (s : State) (p : Fin 32) (still : Nat) : State :=
  let x := s.fbps.get p
  let y := if s.portMode p = 5 then s.ssiSpeed x else s.estimate x still s.latchPoint
  s.followCount p (fun s => s.modFbp p (fun _ => { y with aged := false }))

/-- What a tile latches from a local port (R164, R166, R170 to R172). -/
def latchLocal (s : State) (a : Fin 96) (p : Fin 32) : State :=
  let tl := s.latchPoint
  let s0 := s.settle p tl
  let x := s0.fbps.get p
  let ssi := s.portMode p = 5
  let s1 := s0.latchEst p (s.usCycles (s.f (TILE_FB_STILL_STILL_US a)))
  let y := s1.fbps.get p
  let s2 := if (x.shift tl).isSome then s1.modTile a (fun t => { t with setOfs := 0, setRef := false }) else s1
  let count := signed 32 (wrapNat 32 (s0.count p - x.ahead tl))
  let pos := count + (s2.tiles.get a).setOfs
  let s3 := ((s2.setB (TILE_FB_STAT_AGED a) x.aged).setB (TILE_FB_STAT_REFERENCED a) (s.flag (FBP_STAT_REFERENCED p) || (s2.tiles.get a).setRef)).setB
    (TILE_FB_STAT_STANDSTILL a) (!ssi && y.still) |>.setB (TILE_FB_STAT_PERIOD_MODE a) (!ssi && !y.countMode)
    |>.setF (TILE_FB_TIME_NS a) (match (if ssi then x.ssiLast.map Prod.fst else y.eLast.map Prod.fst) with | some t => s.nsAt t | none => 0)
  let s4 := s3.trackFrozen a count
  if s.flag (TILE_FB_STAT_LOST a) ∨ s.flag (TILE_FB_STAT_FROZEN a) then (s4.setF (TILE_FB_STAT_VALID a) 0).wr2 (TILE_FB_SPD a) 0
  else ((s4.setF (TILE_FB_STAT_VALID a) 1).wrI (TILE_FB_POS a) pos).wr2 (TILE_FB_SPD a) (wrapNat 64 y.est)

/-- What a tile latches from a remote record (R172, R178, R431). -/
def latchRemote (s : State) (a : Fin 96) : State :=
  let t := s.tiles.get a
  match t.rmt with
  | none => s.setF (TILE_FB_STAT_VALID a) 0
  | some r =>
    let v := match t.rmtPrev with
      | some q =>
        let dt := (r.tsamp + 1000000000 - q.tsamp) % 1000000000
        if t.rmtStep ∨ dt = 0 ∨ s.flag (TILE_FB_STAT_AGED a) then none
        else some (roundHalfEven (countDiff r.pos q.pos * 65536 * 1000000000) dt)
      | none => none
    let s1 := (s.setB (TILE_FB_STAT_REFERENCED a) (r.status.testBit 1 || t.setRef)).setF (TILE_FB_TIME_NS a) r.tsamp
    let s2 := s1.trackFrozen a r.pos
    if s.flag (TILE_FB_STAT_LOST a) ∨ s.flag (TILE_FB_STAT_FROZEN a) then (s2.setF (TILE_FB_STAT_VALID a) 0).wr2 (TILE_FB_SPD a) 0
    else
      let s3 := ((s2.setF (TILE_FB_STAT_VALID a) 1).wrI (TILE_FB_POS a) (r.pos + t.setOfs)).modTile a (fun t => { t with rmtStep := false })
      match v with | some v => s3.wr2 (TILE_FB_SPD a) (wrapNat 64 v) | none => s3

/-- The step generator's own speed in Q32.16: that of its input at this instant, or of its raw move (R164, R222, R226). -/
def genSpeed (s : State) (a : Fin 96) : Int :=
  let x := s.tiles.get a
  let v := match x.rawTo with
    | some goal => (goal - s.rdI (TILE_STP_POS a)).sign * (s.f (TILE_STP_RAWCFG_LOW a) * 256 * 65536 : Nat)
    | none => roundHalfEven (x.gv * 800000000 + x.ga * 256 * ((s.time.mono - x.gAt : Nat) : Int)) 204800000000
  if s.flag (TILE_STP_CFG_INV a) ∧ x.rawTo.isNone then -v else v

/-- A loop tick latch tests a remote axis for lost feedback (R173, R179). -/
def testRemote (s : State) (a : Fin 96) : State :=
  if s.f (TILE_FB_SRC_AGE_MAX a) < s.f (TILE_FB_STAT_AGE a) then s.tileLost a 6
  else if (match (s.tiles.get a).rmt with | some r => r.status.testBit 2 | none => false) then s.tileLost a 7
  else s

/-- A tile's feedback latch at a loop tick (R164, R173). SRC 0 reports position and speed of the step generator and is never
lost. -/
def latchTile (s : State) (a : Fin 96) : State :=
  let src := s.f (TILE_FB_SRC_SRC a)
  if src = 1 then (if h : s.f (TILE_FB_SRC_PORT a) < 32 then (s.testPort ⟨_, h⟩).latchLocal a ⟨_, h⟩ else s)
  else if src = 2 then (s.testRemote a).latchRemote a
  else (((s.wrI (TILE_FB_POS a) (s.rdI (TILE_STP_POS a))).wr2 (TILE_FB_SPD a) (wrapNat 64 (s.genSpeed a))).setF (TILE_FB_STAT_VALID a) 1)

/-- Ports without a tile are tested and keep a speed estimate too: the real master and lead inputs use it (R114, R176, R203).
Their standstill time-out is 20,000 μs. -/
def latchPort (s : State) (p : Fin 32) : State :=
  if s.portMode p = 0 ∨ (s.tileOfPort p).isSome then s
  else ((s.testPort p).settle p s.latchPoint).latchEst p (s.usCycles 20000)

/-- A port is initialised (R65, R152, R171): count 0, K high, standstill. -/
def initPort (s : State) (p : Fin 32) : State :=
  let s1 := ((({ s with fbps := s.fbps.set p {} }.wrN (FBP_CNT p) 0).wrN (FBP_STAT p) 0).setF (kBit p) 1)
  match s.tileOfPort p with
  | some a => (s1.setB (TILE_FB_STAT_STANDSTILL a) (s.portMode p != 5)).wr2 (TILE_FB_SPD a) 0
  | none => s1

/-- K of a port (R153, R161): in SSI mode it clocks FRAME_BITS bits up to one sample before the latch point, and is high
otherwise. -/
def kHigh (s : State) (p : Nat) : Bool :=
  let half := s.f (FBP_SSI_HALF p) * 5 * Config.nsUnits
  let n := s.f (FBP_SSI_FRAME_BITS p)
  let left := 2 * Config.gridUnits - (s.time.now + 105 * Config.nsUnits) % (2 * Config.gridUnits)
  !(s.portMode p == 5 && s.loopsRun && half != 0 && half < left && left ≤ 2 * n * half && (2 * n * half - left) / half % 2 == 0)

end State

/-- FB_COUNT_EDGE (R153 to R160): a sample in which A, B or Z shows a level. -/
def execFbCountEdge (p : Fin 32) (a b z : Bool) (na nb nz t : Nat) (s : State) : Out := .next (s.sample p a b z na nb nz t)

/-- FB_ILLEGAL_EDGE (R157, R160): a sample whose change the mode does not allow. -/
def execFbIllegalEdge (p : Fin 32) (a b z : Bool) (na nb nz t : Nat) (s : State) : Out := .next (s.sample p a b z na nb nz t)

/-- ILLEGAL_BURST (R158, R173): a loop tick latch finds 16 or more illegal transitions in a millisecond frame, the present one
or the one before. -/
def execIllegalBurst (p : Fin 32) (s : State) : Out :=
  .next (if s.atTick ∧ s.portCause p 5 ∧ !s.flag (FBP_STAT_LOST p) then s.portLost p 5 else s)

/-- The instant at which the half period after an SSI transfer's last rising edge ends: one FBS sample before the latch point
(R161). -/
def State.atSsiEnd (s : State) : Bool := s.loopsRun && decide ((s.time.now + 105 * Config.nsUnits) % (2 * Config.gridUnits) < s.cycleInc)

/-- SSI_FRAME (R93, R161 to R163): a transfer has ended at t. bits are the levels that A showed at the rising edges of K, first
one first; startHigh and stopLow what it showed before the first falling edge of K and after the last rising one. The sample
instant is that of the first falling edge, 2 × FRAME_BITS half periods before. -/
def execSsiFrame (p : Fin 32) (bits : List Bool) (startHigh stopLow : Bool) (t : Nat) (s : State) : Out :=
  let s0 := s.runTo t
  if s.portMode p ≠ 5 ∨ !s0.atSsiEnd then .next s0
  else
    let len := s0.f (FBP_SSI_FRAME_BITS p)
    let frame := bits.foldl (fun (v : Nat) b => 2 * v + b2n b) 0
    let at_ := s0.time.mono - 8 * s0.f (FBP_SSI_HALF p) * len
    let n := s0.f (FBP_SSI_POS_BITS p)
    let raw := frame / 2 ^ s0.f (FBP_SSI_POS_LSB p) % 2 ^ n
    let field := if s0.flag (FBP_SSI_GRAY p) then grayToBin raw n else raw
    let crcBad := s0.flag (FBP_SSI_CRC_EN p) && frame % 64 != ssiCrc (frame / 64) (len - 6) 0
    let x := s0.fbps.get p
    let diff : Int := match x.ssiField with | some o => signed n (field + 2 ^ n - o % 2 ^ n) | none => 0
    let far := decide ((2 ^ n : Int) < 4 * |diff|)
    let lineBad := !startHigh || !stopLow || bits.length != len || far
    .next (if lineBad || crcBad then
      (s0.bump (FBP_CNT_BAD p)).modFbp p (fun x => { x with badRun := x.badRun + 1, badCrcOnly := !lineBad, aged := true })
    else
      let c := match x.ssiField with | some _ => s0.count p + s0.inv p diff | none => (field : Int)
      let near : Bool := match x.warm with | some (pos, win) => decide (|c - pos| ≤ win) | none => true
      let s1 := s0.followCount p (fun s => (s.wrI (FBP_CNT p) c).modFbp p (fun x => { x with
        warm := none, ssiField := some field, badRun := 0, rerefer := false, ssiPrev := x.ssiLast, ssiLast := some (at_, c), aged := false
        last := some (at_, (s0.inv p diff).sign) }))
      if (x.ssiField.isNone ∨ x.rerefer) ∧ near then (s1.setF (FBP_STAT_REFERENCED p) 1).firstRef p else s1)

/-- SSI_LOST (R163, R173): SSI_ERRMAX consecutive bad frames, at a loop tick latch. -/
def execSsiLost (p : Fin 32) (s : State) : Out :=
  .next (if s.atTick ∧ s.portCause p 2 ∧ !s.flag (FBP_STAT_LOST p) then s.portLost p (if (s.fbps.get p).badCrcOnly then 3 else 2) else s)

/-- HALL_INVALID (R160, R173): 000 or 111 held for t_HALLINV = 1 ms, at a loop tick latch. -/
def execHallInvalid (p : Fin 32) (t : Nat) (s : State) : Out :=
  let s0 := s.runTo t
  .next (if s0.atTick ∧ s0.portCause p 4 ∧ !s0.flag (FBP_STAT_LOST p) then s0.portLost p 4 else s0)

/-- WIRE_BREAK (R155, R173): WB_N has stood at a level for a number of SYS cycles; its filter accepts it after t_WBF of 1 μs.
Accepted low with WB_EN, feedback is lost at once. -/
def execWireBreak (p : Fin 32) (low : Bool) (stood t : Nat) (s : State) : Out :=
  let s0 := s.runTo t
  let s1 := s0.setB (FBP_STAT_WB p) low
  .next (if stood < s0.usCycles 1 then s0
    else if low ∧ s0.flag (FBP_CFG_WB_EN p) ∧ !s0.flag (FBP_STAT_LOST p) then s1.portLost p 1 else s1)

/-- REMOTE_AGED (R173, R179): an age greater than AGE_MAX ring cycles, at a loop tick latch. -/
def execRemoteAged (a : Fin 96) (s : State) : Out :=
  .next (if s.atTick ∧ s.f (TILE_FB_SRC_SRC a) = 2 ∧ s.f (TILE_FB_SRC_AGE_MAX a) < s.f (TILE_FB_STAT_AGE a) then s.tileLost a 6 else s)

/-- FB_FROZEN (R174 to R176): at a loop tick the conditions hold and LOST is not set; a real master on the axis's port is lost
with it. -/
def execFbFrozen (a : Fin 96) (s : State) : Out :=
  .next (if s.atTick ∧ s.frozenNow a ∧ !s.flag (TILE_FB_STAT_LOST a) ∧ !s.flag (TILE_FB_STAT_FROZEN a) ∧ s.f (TILE_FB_SRC_SRC a) ≠ 0 then
    let s1 := (((s.hit (TILE_FB_STAT_FROZEN a)).setF (TILE_FB_STAT_VALID a) 0).wr2 (TILE_FB_SPD a) 0).raise
      (mkFault a 0x1C cMAJOR (State.lossLevel (s.f (TILE_FB_SRC_FRZ_LVL a))) [.inst a] (s.scopeOfAxis a) true)
    if s.f (TILE_FB_SRC_SRC a) = 1 then s1.masterLost (s.f (TILE_FB_SRC_PORT a)) else s1
  else s)

namespace State

/-- A cleared loss of a port source: the port's count starts anew. -/
def sourceBack (s : State) (a : Fin 96) : State :=
  if h : s.f (TILE_FB_SRC_SRC a) = 1 ∧ s.f (TILE_FB_SRC_PORT a) < 32 then s.portBack ⟨s.f (TILE_FB_SRC_PORT a), h.2⟩ else s

/-- LOST clears if its cause is gone, and it was not set in this SYS cycle (R14, R177). -/
def clearLost (s : State) (a : Fin 96) : State :=
  if s.flag (TILE_FB_STAT_LOST a) ∧ !s.hitNow (TILE_FB_STAT_LOST a) ∧ !s.tileCause a then
    (((s.setF (TILE_FB_STAT_LOST a) 0).setF (TILE_FB_STAT_LOST_CAUSE a) 0).endCause a 0x1B).sourceBack a
  else s

/-- FROZEN clears if its cause is gone, and it was not set in this SYS cycle (R14, R177). -/
def clearFrozen (s : State) (a : Fin 96) : State :=
  if !s.hitNow (TILE_FB_STAT_FROZEN a) ∧ !s.frozenNow a then (s.setF (TILE_FB_STAT_FROZEN a) 0).endCause a 0x1C else s

/-- A W1C write to an axis's feedback status. -/
def clearTile (s : State) (a : Fin 96) (value : Word) : State :=
  let s1 := if value.getLsbD 5 then s.clearLost a else s
  let s2 := if value.getLsbD 6 then s1.clearFrozen a else s1
  s2.clearBits (TILE_FB_STAT a) (value &&& 0x180#32)

/-- A W1C write to a port's status. -/
def clearPort (s : State) (p : Fin 32) (value : Word) : State :=
  let s1 := s.clearBits (FBP_STAT p) (value &&& 0x3C#32)
  if value.getLsbD 6 ∧ s.flag (FBP_STAT_LOST p) ∧ !s.hitNow (FBP_STAT_LOST p) ∧ !s.portBad p then s1.portBack p else s1

end State

/-- FB_LOST_CLEAR (R177): a W1C write to LOST or FROZEN clears a bit only if its cause is gone at this SYS cycle. The other
W1C bits of the word clear as written. -/
def execFbLostClear (target : FbTarget) (value : Word) (s : State) : Out :=
  .next (match target with
    | .tile a => if s.tileOpen a then s.clearTile a value else s
    | .port p => if s.mapOpen ∧ s.portMode p ≠ 0 then s.clearPort p value else s)

/-- INDEX_EVENT (R165 to R168): a sample in which Z shows its edge. -/
def execIndexEvent (p : Fin 32) (a b z : Bool) (na nb nz t : Nat) (s : State) : Out := .next (s.sample p a b z na nb nz t)

/-- WHEEL_JUMP (R126, R168): the sample of an index correction of the real master's port has come, and W jumps with the
count. -/
def execWheelJump (t : Nat) (s : State) : Out :=
  let s0 := s.runTo t
  .next (if h : s0.mst = msREAL ∧ s0.masterPort < 32 then s0.settle ⟨s0.masterPort, h.2⟩ t else s0)

/-- FB_INDEX_MISSING (R169): the count has moved more than IDX_PERIOD + IDX_WIN from the last index event. -/
def execFbIndexMissing (p : Fin 32) (s : State) : Out :=
  let x := s.fbps.get p
  .next (match x.lastIdx with
    | some c =>
      if s.flag (FBP_STAT_REFERENCED p) ∧ s.idxPeriod p ≠ 0 ∧ !x.idxLate ∧ (s.idxPeriod p + s.idxWin p : Int) < |State.countDiff (s.count p) c| then
        ((s.modFbp p (fun x => { x with idxLate := true })).hit (FBP_STAT_IDX_MISSING p)).raise (mkFault (0x80 + p) 0x1A cMINOR 0 [])
      else s
    | none => s)

/-- REF_ARM (R166): the next index event references the port. -/
def execRefArm (p : Fin 32) (s : State) : Out :=
  .next (if !s.mapOpen ∨ s.portMode p = 0 then s
    else (s.setF (FBP_STAT_REF_ARMED p) 1).modFbp p (fun x => { x with armedAt := some s.time.mono }))

/-- STANDSTILL (R171): the latch of a loop tick finds no edge for STILL_US; the speed is 0. -/
def execStandstill (a : Fin 96) (t : Nat) (s : State) : Out :=
  let s0 := s.runTo t
  let port := s0.f (TILE_FB_SRC_PORT a)
  .next (if h : s0.f (TILE_FB_SRC_SRC a) = 1 ∧ port < 32 then
    let p : Fin 32 := ⟨port, h.2⟩
    let x := s0.fbps.get p
    if s0.atTick ∧ s0.portMode p ≠ 5 ∧ x.window s0.latchPoint = [] ∧
        x.quiet (s0.usCycles (s0.f (TILE_FB_STILL_STILL_US a))) s0.latchPoint then
      ((s0.setF (TILE_FB_STAT_STANDSTILL a) 1).wr2 (TILE_FB_SPD a) 0).modFbp p
        (fun x => { x with still := true, est := 0, sinceStill := if x.still then x.sinceStill else (0, 0) })
    else s0
  else s0)

end Sys2Proof.Machine
end

