-- ==== Sys2Proof/Machine/Profile.lean ====
section
/-! DEFINITION. The time-optimal profile of chapter 07 (R192, R193): phases of jerk +J, −J or 0, evaluated in closed form
in units of 2^-64. Limits are positive numbers in the same units. -/

namespace Sys2Proof

/-- One, in units of 2^-64. -/
def u64 : Int := 18446744073709551616

/-- The limits a plan is made under (R185). -/
structure Lims where
  v : Int
  a : Int
  d : Int
  j : Int
deriving DecidableEq, Repr

/-- The state after a jerk has acted for a time (R193). -/
def PState.after (s : PState) (j : Int) (t : Nat) : PState :=
  { p := s.p + s.v * t / u64 + s.a * t * t / (2 * u64 * u64) + j * t * t * t / (6 * u64 * u64 * u64)
    v := s.v + s.a * t / u64 + j * t * t / (2 * u64 * u64)
    a := s.a + j * t / u64 }

/-- The state after phases. -/
def PState.run (s : PState) : List Phase → PState
  | [] => s
  | f :: fs => (s.after f.jerk f.dur).run fs

/-- Length of phases. -/
def Phase.total (fs : List Phase) : Nat := fs.foldl (fun n (f : Phase) => n + f.dur) 0

/-- The time in which a jerk changes the acceleration by an amount, in 2^-64 s. -/
def jerkTime (j da : Int) : Nat := (da * u64 / j).toNat

/-- From (v, a), a ≥ 0, up to speed vt with no acceleration at the end, under one acceleration bound. -/
def riseTo (j b v a vt : Int) : List Phase :=
  let pk : Int := isqrt (j * (vt - v) + a * a / 2).toNat
  if pk ≤ b then [⟨j, jerkTime j (pk - a)⟩, ⟨-j, jerkTime j pk⟩]
  else
    let dv := vt - v - (2 * b * b - a * a) / (2 * j)
    [⟨j, jerkTime j (b - a)⟩, ⟨0, (dv * u64 / b).toNat⟩, ⟨-j, jerkTime j b⟩]

/-- A rise that passes through v = 0, from v < 0 to vt > 0: under the bound D before it and A after it, without bringing a
to zero there (R193, R194). -/
def riseThrough (l : Lims) (v a vt : Int) : List Phase :=
  let j := l.j
  if l.d < l.a then
    let pkD := min l.d (isqrt (j * (vt - v) + a * a / 2).toNat : Int)
    if vt - pkD * pkD / (2 * j) ≤ 0 then riseTo j l.d v a vt
    else
      let up := (l.d * l.d - a * a) / (2 * j)
      if -v ≤ up then riseTo j l.a v a vt
      else [⟨j, jerkTime j (l.d - a)⟩, ⟨0, ((-v - up) * u64 / l.d).toNat⟩] ++ riseTo j l.a 0 l.d vt
  else if l.a < l.d then
    if vt ≤ l.a * l.a / (2 * j) then riseTo j l.d v a vt
    else
      let pk : Int := isqrt (j * (-v) + (a * a + l.a * l.a) / 2).toNat
      if pk ≤ max a l.a then
        if l.a < a then Phase.mk (-j) (jerkTime j (a - l.a)) :: riseTo j l.a (v + (a * a - l.a * l.a) / (2 * j)) l.a vt
        else riseTo j l.a v a vt
      else
        let top := min pk l.d
        let dv := -v - (2 * top * top - a * a - l.a * l.a) / (2 * j)
        [⟨j, jerkTime j (top - a)⟩, ⟨0, if pk ≤ l.d then 0 else (dv * u64 / top).toNat⟩, ⟨-j, jerkTime j (top - l.a)⟩]
          ++ riseTo j l.a 0 l.a vt
  else riseTo j l.d v a vt

/-- A ramp from (v, a) to speed vt with no acceleration at its end (R193). -/
def rampTo (l : Lims) (v a vt : Int) : List Phase :=
  let vs := v + a * |a| / (2 * l.j)
  if vs = vt then [⟨if a < 0 then l.j else -l.j, jerkTime l.j |a|⟩]
  else
    let σ : Int := if vs < vt then 1 else -1
    let v1 := σ * v
    let a1 := σ * a
    let t1 := σ * vt
    let p := if a1 < 0 then [Phase.mk l.j (jerkTime l.j (-a1))] else []
    let v2 := if a1 < 0 then v1 + a1 * |a1| / (2 * l.j) else v1
    let a2 := max a1 0
    let q := if 0 ≤ v2 then riseTo l.j l.a v2 a2 t1 else if t1 ≤ 0 then riseTo l.j l.d v2 a2 t1 else riseThrough l v2 a2 t1
    (p ++ q).map (fun (f : Phase) => Phase.mk (σ * f.jerk) f.dur)

/-- |a| above the bound for its direction is taken down to it at full jerk (R192). -/
def prefixTo (l : Lims) (s : PState) : Nat → List Phase
  | 0 => []
  | n + 1 =>
    let b := if 0 ≤ s.a * s.v then l.a else l.d
    if |s.a| ≤ b then []
    else
      let f : Phase := ⟨if s.a < 0 then l.j else -l.j, jerkTime l.j (|s.a| - b)⟩
      f :: prefixTo l (s.after f.jerk f.dur) n

/-- The signed travel of a ramp to vp and from there to rest. -/
def travel (l : Lims) (s : PState) (vp : Int) : Int :=
  ((s.run (rampTo l s.v s.a vp)).run (rampTo l vp 0 0)).p - s.p

/-- The largest speed up to a bound, in 2^-32 counts/s, whose travel does not pass the distance; from bit k down. -/
def peakSpeed (l : Lims) (s : PState) (bound σ d : Int) : Nat → Int → Int
  | 0, r => r
  | k + 1, r =>
    let c := r + 2 ^ (k + 32)
    if c ≤ bound ∧ σ * travel l s (σ * c) ≤ σ * d then peakSpeed l s bound σ d k c else peakSpeed l s bound σ d k r

/-- A plan to a speed (VEL), or to rest (STOP). -/
def planSpeed (l : Lims) (s : PState) (vt : Int) : Plan :=
  let pre := prefixTo l s 2
  let s1 := s.run pre
  let fs := pre ++ rampTo l s1.v s1.a vt
  { start := s, phases := fs, endP := none, endV := vt, reach := some (Phase.total fs), tau := 0 }

/-- 2^-20 count, within which a plan ends on its target (R193). -/
def countTol : Int := 17592186044416

/-- A plan to a position at signed distance d, ending at rest (R193), under a speed bound for each direction. With a speed
target, the plan counts as complete when the first ramp has reached it. Where the limits leave no speed towards the target
(VMAX 0), the plan ends at rest where it stops, short of the target (R185). -/
def planTo (l : Lims) (s : PState) (d : Int) (speed : Option Int) (up down : Int) : Plan :=
  let pre := prefixTo l s 2
  let s1 := s.run pre
  let rem := d - (s1.p - s.p)
  let stop := (s1.run (rampTo l s1.v s1.a 0)).p - s1.p
  let between := (0 ≤ rem ∧ rem ≤ stop) ∨ (stop ≤ rem ∧ rem ≤ 0)
  let σ := if between then (rem - stop).sign else rem.sign
  let vp := σ * peakSpeed l s1 (if 0 ≤ σ then up else down) σ rem 64 0
  let r1 := rampTo l s1.v s1.a vp
  let left := rem - travel l s1 vp
  let cruise : List Phase := if vp = 0 then [] else [⟨0, (left * u64 / vp).toNat⟩]
  let fs := pre ++ r1 ++ cruise ++ rampTo l vp 0 0
  let short := decide (vp = 0 ∧ countTol ≤ |left|)
  { start := s, phases := fs, endP := if short then none else some (s.p + d), endV := 0,
    reach := if speed = some vp then some (Phase.total (pre ++ r1)) else if short then none else some (Phase.total fs), tau := 0 }

/-- A plan to a position under the working VMAX. -/
def planPos (l : Lims) (s : PState) (d : Int) (speed : Option Int) : Plan := planTo l s d speed l.v l.v

/-- The state at a planned time. -/
def Plan.walk (s : PState) : List Phase → Nat → PState × Nat
  | [], t => (s, t)
  | f :: fs, t => if t < f.dur then (s.after f.jerk t, 0) else walk (s.after f.jerk f.dur) fs (t - f.dur)

/-- Scaled time run, as planned time in 2^-64 s. -/
def Plan.time (x : Plan) : Nat := x.tau * 4294967296 / 1000000000

/-- The plan has run out. -/
def Plan.over (x : Plan) : Bool := Phase.total x.phases ≤ x.time
/-- The plan's segment is complete. -/
def Plan.reached (x : Plan) : Bool := match x.reach with | some r => r ≤ x.time | none => false

/-- A plan whose positions are counted from elsewhere. -/
def Plan.shift (x : Plan) (d : Int) : Plan :=
  { x with start := { x.start with p := x.start.p + d }, endP := x.endP.map (· + d) }

/-- The state of a plan at its present scaled time; after its end it rests on its target or holds its speed (R193). -/
def Plan.now (x : Plan) : PState :=
  if x.over then
    match x.endP with
    | some p => ⟨p, 0, 0⟩
    | none =>
      let e := x.start.run x.phases
      ⟨e.p + x.endV * (x.time - Phase.total x.phases : Nat) / u64, x.endV, 0⟩
  else (Plan.walk x.start x.phases x.time).1

end Sys2Proof
end

