-- ==== Sys2Proof/Machine/Planner.lean ====
section
/-! DEFINITION. The motion profile planner (chapter 07): limits, admission and taking of segments, planning, the path-speed
override, homing, tracking and lead following. A tile's commanded state stands in scaled time (Tile.ps), its outputs in
the TILE_PLN registers. -/

namespace Sys2Proof

def kPOS : Nat := 1
def kVEL : Nat := 2
def kSTOP : Nat := 3
def kLIMITS : Nat := 4
def kHOME : Nat := 5
def kSETPOS : Nat := 6
def kFOLLOW : Nat := 7

def pmIDLE : Nat := 0
def pmPOSITION : Nat := 1
def pmVELOCITY : Nat := 2
def pmSTOPPING : Nat := 3
def pmHOMING : Nat := 4
def pmSYNC : Nat := 5
def pmTRACK : Nat := 6
def pmLOCKED : Nat := 7

/-- A segment from its 64-byte form (R187). -/
def Segment.ofBytes (b : List Byte) : Segment :=
  let n := fun o k => leNat ((b.drop o).take k)
  { axis := n 0 1, kind := n 1 1, start := n 2 1 % 4, relative := (n 2 1).testBit 2, withLimits := (n 2 1).testBit 3,
    seq := n 4 4, target := signed 64 (n 8 8), vmax := n 0x10 8, amax := n 0x18 4, dmax := n 0x1C 4, jmax := n 0x20 4,
    param := n 0x24 4 }

/-- A STOP asked for by TILE_PLN_CTL (R188). -/
def Segment.stop (a : Nat) : Segment :=
  { axis := a, kind := kSTOP, start := 0, relative := false, withLimits := false, target := 0, vmax := 0, amax := 0,
    dmax := 0, jmax := 0, param := 0, seq := 0 }

/-- A loop tick of 62.5 µs in 2^-32 ns, and a length per second: x/s over one tick. -/
def tickUnits : Nat := 62500 * 4294967296
def perTick (v : Int) : Int := v * 625 / 10000000

end Sys2Proof

namespace Sys2Proof.Machine
namespace State

-- ===== limits =====

/-- PLANLIM of an axis. -/
def planLim (s : State) (a : Nat) : PlanLim := (s.st.planLims.find? (fun (x : PlanLim) => x.axis == a)).getD { axis := a }

/-- The ceilings in force (R185): VMAX, AMAX, DMAX, JMAX. -/
def ceilings (s : State) (a : Nat) : Nat × Nat × Nat × Nat :=
  let l := s.planLim a
  if s.mode = mCOMMISSION then (l.cvmax, l.camax, l.cdmax, l.cjmax) else (l.vmax, l.amax, l.dmax, l.jmax)

/-- Limits within the ceilings and with no 0 in AMAX, DMAX and JMAX (R185, R190). -/
def limitsOk (s : State) (a vmax amax dmax jmax : Nat) : Bool :=
  let c := s.ceilings a
  vmax ≤ c.1 && amax ≤ c.2.1 && dmax ≤ c.2.2.1 && jmax ≤ c.2.2.2 && amax != 0 && dmax != 0 && jmax != 0

/-- The working limits in the units of the profile; a quick stop takes QDEC and QJERK, HOME its segment's VMAX (R194,
R199). -/
def limsOf (s : State) (a : Fin 96) : Lims :=
  let t := s.tiles.get a
  let l := s.planLim a
  let v := match t.active with | some g => if g.kind = kHOME then g.vmax else s.rd2 (TILE_PLN_VMAX a) | none => s.rd2 (TILE_PLN_VMAX a)
  { v := (v : Int) * 281474976710656
    a := (s.rdN (TILE_PLN_AMAX a) : Int) * 16 * u64
    d := ((if t.qstop then l.qdec else s.rdN (TILE_PLN_DMAX a)) : Nat) * 16 * u64
    j := ((if t.qstop then l.qjerk else s.rdN (TILE_PLN_JMAX a)) : Nat) * 256 * u64 }

/-- The limits that a segment carries become the working limits (R187, R188). -/
def takeLimits (s : State) (g : Segment) : State :=
  (((s.wr2 (TILE_PLN_VMAX g.axis) g.vmax).wrN (TILE_PLN_AMAX g.axis) g.amax).wrN (TILE_PLN_DMAX g.axis) g.dmax).wrN
    (TILE_PLN_JMAX g.axis) g.jmax

def limLo (s : State) (a : Nat) : Int := s.rdI (TILE_PLN_LIMLO a)
def limHi (s : State) (a : Nat) : Int := s.rdI (TILE_PLN_LIMHI a)
def referenced (s : State) (a : Nat) : Bool := s.flag (TILE_FB_STAT_REFERENCED a)

-- ===== whether an axis can be driven =====

/-- A group's state is OFF (R333). An axis of no group is never safe-off. -/
def groupOff (s : State) (g : Nat) : Bool := g < 4 && s.f (SAFE_STO_STAT_STATE g) == 0
def axisOff (s : State) (a : Nat) : Bool := s.groupOff (s.groupOf a)

/-- The axis is parked in CHANGEOVER (R60). -/
def parkedNow (s : State) (a : Nat) : Bool := s.mode == mCHANGEOVER && !s.cfg.carried.contains a

/-- An L2 entry of the collector, or above, acts on the axis's group: its planner tracks (R460). -/
def l2On (s : State) (a : Nat) : Bool :=
  s.flt.entries.any (fun (e : FltEntry) => 2 ≤ e.level && s.groupOf a < 4 &&
    (3 ≤ e.level || (e.scope.testBit (s.groupOf a) && (!e.cat1.testBit (s.groupOf a) || s.axisOff a))))

/-- The planner tracks (R201, R460). -/
def tracks (s : State) (a : Nat) : Bool :=
  s.axisOff a || s.mode < mCOMMISSION || s.parkedNow a || s.flag (TILE_FB_STAT_LOST a) || s.flag (TILE_FB_STAT_FROZEN a) || s.l2On a

-- ===== admission (R190) =====

/-- Segments of a tile that stand in HQ12. -/
def segsIn (s : State) (a : Nat) : List Segment :=
  (s.queue 12).items.filterMap (fun (i : QItem) => match i.body with
    | .segment g _ _ => if g.axis = a then some g else none
    | _ => none)

/-- A segment item of an axis that entered HQ12 before this LOOP cycle (R26). -/
def dueSeg (s : State) (a : Nat) (i : QItem) : Option Segment :=
  match i.body with
  | .segment g _ t => if g.axis = a ∧ t / 2 < s.time.mono / 2 then some g else none
  | _ => none

/-- The segments that the latch of this tick takes, in queue order (R26, R189). -/
def segsDue (s : State) (a : Nat) : List Segment := (s.queue 12).items.filterMap (s.dueSeg a)

/-- The lead of a tile's follow unit is lost now (R208). -/
def leadLost (s : State) (a : Nat) : Bool :=
  let i := s.f (TILE_FLW_CFG_INPUT a)
  if s.flag (TILE_FLW_CFG_SRC a) then s.flag (FBP_STAT_LOST i)
  else match s.ains.get? i with | some x => 16 ≤ x.run || x.dead | none => false

/-- The tile is at rest (R200, R225): no active, queued or held segment, v and a zero, no raw move. -/
def atRest (s : State) (a : Fin 96) : Bool :=
  let t := s.tiles.get a
  t.active.isNone && t.queued.isEmpty && t.held.isNone && t.cv == 0 && t.ca == 0 && t.rawTo.isNone

/-- The axis is a door's drive, whose planner takes segments only from the DOOR block (R349). -/
def doorDrive (s : State) (a : Nat) : Bool :=
  (List.range 8).any (fun d => (s.f DOOR_STAT_PRESENT).testBit d && s.f (DOOR_CFG_AXIS d) == a)

/-- The checks of R190 in their order, before HQ12 itself; a door drive is refused (R349). -/
def segCheck (s : State) (a : Fin 96) (g : Segment) : Nat :=
  let t := s.tiles.get a
  let l := s.planLim a
  let free := g.kind = kSTOP ∨ (g.kind = kLIMITS)
  if !s.st.axes.contains g.axis ∨ s.doorDrive g.axis ∨ g.kind = 0 ∨ 7 < g.kind ∨ g.start = 3 ∨ (g.kind = kFOLLOW ∧ !s.flag (TILE_FLW_CFG_PRESENT a))
      ∨ (g.kind = kHOME ∧ (s.f (TILE_FB_SRC_SRC a) ≠ 1 ∨ s.f (FBP_CFG_MODE (s.f (TILE_FB_SRC_PORT a))) = 5)) then admSTRUCTURE
  else if free ∧ !(mCOMMISSION ≤ s.mode) then admMODE
  else if ¬ free ∧ (!s.inMode [mCOMMISSION, mRUN, mCHANGEOVER] ∨ s.parkedNow a ∨ s.axisOff a
      ∨ (g.kind = kPOS ∧ !g.relative ∧ !s.referenced a) ∨ (g.kind = kSETPOS ∧ !s.atRest a)
      ∨ (g.kind = kFOLLOW ∧ s.leadLost a)) then admMODE
  else if ((g.kind = kLIMITS ∨ g.withLimits) ∧ !s.limitsOk a g.vmax g.amax g.dmax g.jmax)
      ∨ (g.kind = kHOME ∧ (s.ceilings a).1 < g.vmax)
      ∨ (g.kind = kPOS ∧ !g.relative ∧ !l.rotary ∧ (g.target < s.limLo a * 4294967296 ∨ s.limHi a * 4294967296 < g.target))
      ∨ l.perTick ≤ t.admitted then admBUDGET
  else if g.kind ≠ kSTOP ∧ g.start = 1 ∧ l.slots ≤ t.queued.length + ((s.segsIn a).filter (fun x => x.start = 1 ∧ x.kind ≠ kSTOP)).length then admFULL
  else if g.kind ≠ kSTOP ∧ g.start = 2 ∧ (t.held.isSome ∨ (s.segsIn a).any (fun x => x.start = 2 ∧ x.kind ≠ kSTOP)) then admFULL
  else admOK

/-- A segment is offered to HQ12 (R190); path tells a core from the host. -/
def admitSegment (s : State) (g : Segment) (path : Nat) : State × Nat :=
  if h : g.axis < 96 then
    let a : Fin 96 := ⟨g.axis, h⟩
    let c := s.segCheck a g
    if c ≠ admOK then (s.bump (TILE_PLN_CNT_REF a), c)
    else
      let p := s.offerOr 12 ⟨64, .segment g path s.time.mono⟩
      if p.2 then (p.1.modTile a (fun t => { t with admitted := t.admitted + 1 }), admOK) else (p.1.bump (TILE_PLN_CNT_REF a), admFULL)
  else (s, admSTRUCTURE)

-- ===== planning =====

def pmode (s : State) (a : Nat) : Nat := s.f (TILE_PLN_STAT_MODE a)

/-- HELD, QUEUED and SEQ show the slots. -/
def showSlots (s : State) (a : Fin 96) : State :=
  let t := s.tiles.get a
  ((s.setB (TILE_PLN_STAT_HELD a) t.held.isSome).setF (TILE_PLN_STAT_QUEUED a) t.queued.length).wrN (TILE_PLN_SEQ a)
    (match t.active with | some g => g.seq | none => s.rdN (TILE_PLN_SEQ a))

/-- Queued and held segments are discarded. -/
def discardSlots (s : State) (a : Fin 96) : State := (s.modTile a (fun t => { t with queued := [], held := none, go := none })).showSlots a

/-- Distance from one position to another in the wrapping 64-bit position field, signed (R6, R186); 2^-64 count. -/
def posDiff (x y : Int) : Int := signed 96 (wrapNat 96 (x - y))

/-- An absolute target of a rotary axis as the next one from p on (R186). -/
def rotaryTarget (s : State) (a : Fin 96) (target : Int) : Int :=
  let fl := (s.tiles.get a).ps.p / u64
  (fl + signed 32 (wrapNat 32 (target / 4294967296 - fl))) * 4294967296 + target % 4294967296

/-- An absolute target in Q32.32: that of the nearer way round on a rotary axis (R186). -/
def absTarget (s : State) (a : Fin 96) (target : Int) : Int :=
  if (s.planLim a).rotary then s.rotaryTarget a target else target

/-- The plan of the present command from the commanded state (R191 to R194, R211). -/
def makePlan (s : State) (a : Fin 96) : Plan :=
  let t := s.tiles.get a
  let l := s.limsOf a
  match t.active with
  | some g =>
    if g.kind = kPOS ∨ g.kind = kHOME then planPos l t.ps (t.dest.getD 0 * 4294967296 - t.ps.p) none
    else if g.kind = kVEL then
      let vt := max (-l.v) (min (g.target * 281474976710656) l.v)
      if vt ≠ 0 ∧ s.referenced a ∧ !(s.planLim a).rotary then
        planPos { l with v := |vt| } t.ps ((if 0 < vt then s.limHi a else s.limLo a) * u64 - t.ps.p) (some vt)
      else planSpeed l t.ps vt
    else planSpeed l t.ps 0
  | none => planSpeed l t.ps 0

/-- A replan: the plan starts anew from the commanded state (R191). A follow unit plans at every latch instead. -/
def replan (s : State) (a : Fin 96) : State :=
  let m := s.pmode a
  if m = pmIDLE ∨ m = pmSYNC ∨ m = pmLOCKED ∨ m = pmTRACK then s
  else s.modTile a (fun t => { t with plan := some (s.makePlan a) })

/-- A new plan to rest, with no active segment or with a STOP (R188, R201, R208). -/
def planRest (s : State) (a : Fin 96) (g : Option Segment) : State :=
  let s1 := ((s.modTile a (fun t => { t with active := g, complete := false, dest := none, atLim := false, searching := false })).setF
    (TILE_PLN_STAT_MODE a) pmSTOPPING).setF (TILE_PLN_STAT_AT_LIMIT a) 0
  (s1.replan a).showSlots a

/-- The planner holds no command: IDLE. -/
def toIdle (s : State) (a : Fin 96) : State :=
  ((s.modTile a (fun t => { t with active := none, complete := false, dest := none, atLim := false, plan := none, qstop := false,
                                   searching := false, ps := { t.ps with v := 0, a := 0 } })).setF
    (TILE_PLN_STAT_MODE a) pmIDLE).showSlots a

/-- The absolute target of a position segment in Q32.32 (R186, R187), and whether a soft limit replaced it (R211). -/
def resolve (s : State) (a : Fin 96) (g : Segment) : Int × Bool :=
  let t := s.tiles.get a
  let p := t.ps.p / 4294967296
  if g.relative then
    let x := (match t.active, t.dest with | some _, some d => d | _, _ => p) + g.target
    if s.referenced a ∧ !(s.planLim a).rotary then
      if x < s.limLo a * 4294967296 then (s.limLo a * 4294967296, true)
      else if s.limHi a * 4294967296 < x then (s.limHi a * 4294967296, true)
      else (x, false)
    else (x, false)
  else (s.absTarget a g.target, false)

/-- The reported position moves without motion, and p with it (R166, R200, R226), in counts; the generator's input moves only as
far as X does, so that no step is made. -/
def shiftP (s : State) (a : Fin 96) (d dx : Int) : State :=
  s.modTile a (fun t => { t with
    genOfs := t.genOfs + dx - (if s.flag (TILE_STP_CFG_INV a) then -d else d)
    ps := { t.ps with p := t.ps.p + d * u64 }, flw := { t.flw with ofs := t.flw.ofs + d * u64, g := t.flw.g + d * u64 } })

/-- What SETPOS moves (R200): the tile's offset, or on a generator tile the applied position X, whose phase stands. -/
def moveSource (s : State) (a : Fin 96) (d : Int) : State :=
  if s.f (TILE_FB_SRC_SRC a) = 0 then
    (s.wrI (TILE_STP_POS a) (s.rdI (TILE_STP_POS a) + d)).modTile a (fun t => { t with phase := t.phase - d, tickX := t.tickX + d })
  else s.modTile a (fun t => { t with setOfs := t.setOfs + d })

/-- SETPOS (R200): TILE_FB_POS becomes TARGET, the offset keeps the difference, p moves by as much. Not at rest, the segment
is discarded. -/
def setPos (s : State) (a : Fin 96) (g : Segment) : State :=
  if s.atRest a then
    let s0 := if g.withLimits then s.takeLimits g else s
    let d := countDiff (roundHalfEven g.target 4294967296) (s.rdI (TILE_FB_POS a))
    (((s0.moveSource a d).wrI (TILE_FB_POS a) (s.rdI (TILE_FB_POS a) + d)).shiftP a d (if s.f (TILE_FB_SRC_SRC a) = 0 then d else 0)).modTile a (fun t => { t with setRef := true })
      |>.setF (TILE_FB_STAT_REFERENCED a) 1 |>.hit (TILE_PLN_STAT_DONE a)
  else (s.hit (TILE_PLN_STAT_SETPOS_REF a)).bump (TILE_PLN_CNT_REF a)

-- ===== leads (R202) =====

/-- RATIO and OFS of a follow unit, signed. -/
def ratio (s : State) (a : Nat) : Int := signed 64 (s.rd2 (TILE_FLW_RATIO a))
def flwOfs (s : State) (a : Nat) : Int := signed 64 (s.rd2 (TILE_FLW_OFS a))
def flwSpeed (s : State) (a : Nat) : Bool := s.flag (TILE_FLW_CFG_KIND a)

/-- Conversions averaged per latch (AIN_CFG.AVG). -/
def avgOf (s : State) (i : Nat) : Nat := max 1 (min (s.f (AIN_CFG_AVG i)) 64)

/-- The lead value L (R202): of a port, its count at the latch point (R164). -/
def leadValue (s : State) (a : Nat) : Int :=
  let i := s.f (TILE_FLW_CFG_INPUT a)
  if s.flag (TILE_FLW_CFG_SRC a) then (match s.fbps.get? i with | some x => signed 32 (wrapNat 32 (s.count i - x.ahead s.latchPoint)) | none => 0) else signed 16 (s.f (AIN_VAL_VALUE i))

/-- g for a lead value, in 2^-64 (POSITION). -/
def gearP (s : State) (a : Nat) (lead ofs : Int) : Int := s.ratio a * lead * 4294967296 + ofs

/-- v_g in 2^-64: the lead speed from the port's estimate, or from the difference of successive analog values (R202). -/
def gearV (s : State) (a : Nat) (lead last : Int) : Int :=
  let r := s.ratio a
  if s.flwSpeed a then r * lead * 4294967296 + s.flwOfs a * 281474976710656
  else if s.flag (TILE_FLW_CFG_SRC a) then
    r * (match s.fbps.get? (s.f (TILE_FLW_CFG_INPUT a)) with | some p => p.est | none => 0) * 65536
  else r * (lead - last) * 16000 * 4294967296

/-- A FOLLOW segment engages the lead (R203). -/
def engage (s : State) (a : Fin 96) (g : Segment) : State :=
  let t := s.tiles.get a
  let lead := s.leadValue a
  let ofs := if s.flwSpeed a then 0
    else if g.param = 0 then s.flwOfs a * 4294967296
    else t.ps.p - s.gearP a lead 0
  let f : Follow := { t.flw with ofs := ofs, lead := lead, blend := none, fresh := true,
                                 g := if s.flwSpeed a then t.ps.p else s.gearP a lead ofs, vg := s.gearV a lead t.flw.lead }
  ((s.modTile a (fun t => { t with active := some g, complete := false, dest := none, plan := none, flw := f })).setF
    (TILE_PLN_STAT_MODE a) pmSYNC).showSlots a

/-- HOME arms referencing on the tile's port (R166, R199). -/
def armPort (s : State) (p : Nat) : State :=
  if h : p < 32 then (s.setF (FBP_STAT_REF_ARMED p) 1).modFbp ⟨p, h⟩ (fun x => { x with armedAt := some s.time.mono }) else s

/-- A segment starts: it becomes the active one and is planned (R188, R189, R203, R207). LIMITS and SETPOS complete at
once. -/
def startSeg (s : State) (a : Fin 96) (g : Segment) : State :=
  if g.kind = kLIMITS then ((s.takeLimits g).replan a).hit (TILE_PLN_STAT_DONE a)
  else if g.kind = kSETPOS then s.setPos a g
  else
    let s0 := (if g.withLimits then s.takeLimits g else s).setF (TILE_PLN_STAT_AT_LIMIT a) 0
    let put := fun (s : State) (dest : Option Int) (lim search : Bool) (m : Nat) =>
      (((s.modTile a (fun t => { t with active := some g, complete := false, dest := dest, atLim := lim, searching := search, qstop := false })).setF
        (TILE_PLN_STAT_MODE a) m).replan a).showSlots a
    if g.kind = kPOS then
      let r := s0.resolve a g
      put s0 (some r.1) r.2 false pmPOSITION
    else if g.kind = kVEL then put s0 none false false pmVELOCITY
    else if g.kind = kSTOP then put s0 none false false pmSTOPPING
    else if g.kind = kHOME then
      let p := (s0.tiles.get a).ps.p / 4294967296
      put (s0.armPort (s0.f (TILE_FB_SRC_PORT a))) (some (p + signed 32 g.param * 4294967296)) false true pmHOMING
    else (s0.modTile a (fun t => { t with qstop := false })).engage a g

/-- No segment is active, or the active one has completed and holds (VEL, FOLLOW). -/
def openFor (t : Tile) : Bool := t.active.isNone || t.complete

/-- A raw move ends at the present X; its distance waits for the planner (R226). -/
def endRaw (s : State) (a : Fin 96) (done : Bool) : State :=
  let t := s.tiles.get a
  if t.rawTo.isNone then s
  else
    ((s.modTile a (fun t => { t with rawTo := none, rawShift := t.rawShift + countDiff (s.rdI (TILE_STP_POS a)) t.rawFrom })).setF
      (TILE_STP_STAT_RAW a) 0) |> fun s1 => if done then s1.hit (TILE_STP_STAT_RAW_DONE a) else s1

/-- The distance of an ended raw move is added to p at the latch (R226). -/
def takeRaw (s : State) (a : Fin 96) : State :=
  let d := (s.tiles.get a).rawShift
  if d = 0 then s else (s.modTile a (fun t => { t with rawShift := 0 })).shiftP a d d

/-- A segment is taken at the latch, by its START (R189). -/
def takeSeg (s : State) (a : Fin 96) (g : Segment) : State :=
  let go := fun (s : State) => ((s.endRaw a true).takeRaw a).startSeg a g
  if g.kind = kSTOP then (s.discardSlots a |> go)
  else if g.start = 0 then
    if g.kind = kLIMITS then (s.takeLimits g).replan a
    else if g.kind = kSETPOS then s.setPos a g
    else go (s.discardSlots a)
  else if g.start = 1 then
    if openFor (s.tiles.get a) ∧ (s.tiles.get a).queued.isEmpty then go s
    else (s.modTile a (fun t => { t with queued := t.queued ++ [g] })).showSlots a
  else (s.modTile a (fun t => { t with held := some g })).showSlots a

/-- Segments are taken in queue order. -/
def takeSegs (s : State) (a : Fin 96) : List Segment → State
  | [] => s
  | g :: gs => takeSegs (s.takeSeg a g) a gs

-- ===== one latch of a tile =====

/-- The override over this tick in Q16, and its change over the tick; 1 for an axis outside the arms (R195). -/
def pso (s : State) (a : Nat) : Int × Int :=
  if (s.planLim a).arm then
    (s.f (CL_PSO_ACT_S (a / 8)), match s.clusters.get? (a / 8) with | some c => c.sdot | none => 0)
  else (65536, 0)

/-- The commanded state is put out: p, v = s·v_τ, a = s²·a_τ + ṡ·v_τ (R184, R193). -/
def putOut (s : State) (a : Fin 96) : State :=
  let t := s.tiles.get a
  let o := s.pso a
  let v := roundHalfEven (o.1 * t.ps.v) (65536 * 1099511627776)
  let acc := roundHalfEven (o.1 * o.1 * t.ps.a + o.2 * 16000 * 65536 * t.ps.v) (4294967296 * 281474976710656)
  let l := s.limsOf a
  let above := decide (l.v < |t.ps.v| - 1099511627776 ∨ (if 0 ≤ t.ps.a * t.ps.v then l.a else l.d) < |t.ps.a| - 281474976710656)
  ((((s.modTile a (fun t => { t with cv := v, ca := acc })).wr2 (TILE_PLN_POS a) (wrapNat 64 (roundHalfEven t.ps.p 4294967296))).wr2
    (TILE_PLN_VEL a) (wrapNat 64 (roundHalfEven v 256))).wrI (TILE_PLN_ACC a) (satInt 32 (roundHalfEven acc 1048576))).setB
    (TILE_PLN_STAT_INHERITED a) (s.pmode a ≠ pmTRACK ∧ s.pmode a ≠ pmIDLE ∧ s.pmode a ≠ pmLOCKED ∧ above)

/-- The position field wraps (R6, R186, R193): p, with all that is counted from the same origin, moves by whole turns of 2^32
counts into the signed range. -/
def wrapP (s : State) (a : Fin 96) : State :=
  let d := posDiff (s.tiles.get a).ps.p 0 - (s.tiles.get a).ps.p
  if d = 0 then s
  else s.modTile a (fun t => { t with
    ps := { t.ps with p := t.ps.p + d }, plan := t.plan.map (fun (x : Plan) => x.shift d), dest := t.dest.map (· + d / 4294967296)
    flw := { t.flw with g := t.flw.g + d, ofs := t.flw.ofs + d } })

/-- The cubic correction of a blend at tick k of n, and its slope (R204). -/
def blendAt (b : FlwBlend) (n : Nat) : Int × Int :=
  let k : Int := min b.k n
  let m : Int := max n 1
  (b.gp * (m * m * m - 3 * k * k * m + 2 * k * k * k) / (m * m * m)
      + perTick b.gv * (k * m * m - 2 * k * k * m + k * k * k) / (m * m),
    b.gp * 16000 * 6 * (k * k - k * m) / (m * m * m) + b.gv * (m * m - 4 * k * m + 3 * k * k) / (m * m))

/-- Register words written before this latch, and those that wait for the next (R26). -/
def dueWords (s : State) (ws : List (Nat × Nat × Word)) : List (Nat × Word) := (ws.filter (fun w => decide (w.1 < s.time.mono))).map Prod.snd
def lateWords (s : State) (ws : List (Nat × Nat × Word)) : List (Nat × Nat × Word) := ws.filter (fun w => decide (s.time.mono ≤ w.1))
/-- A request written before this latch (R26). -/
def dueReq (s : State) (r : Option Nat) : Bool := match r with | some t => decide (t < s.time.mono) | none => false

/-- The lead is latched, gear writes take effect (R202, R206). -/
def latchLead (s : State) (a : Fin 96) : State :=
  if !s.flag (TILE_FLW_CFG_PRESENT a) then s
  else
    let t := s.tiles.get a
    let lead := s.leadValue a
    let oldG := s.gearP a lead t.flw.ofs
    let oldV := s.gearV a lead t.flw.lead
    let gear := s.dueWords t.flw.gear
    let s1 := s.wrAll gear
    let newV := s1.gearV a lead t.flw.lead
    let ofs := if gear.isEmpty ∨ s.flwSpeed a then t.flw.ofs else oldG - s1.gearP a lead 0
    let c := match t.flw.blend with | some b => blendAt { b with k := b.k + 1 } (s.f (TILE_FLW_CFG_BLEND a)) | none => (0, 0)
    let blend := if gear.isEmpty ∨ s.pmode a ≠ pmLOCKED then t.flw.blend else some ⟨c.1, c.2 + oldV - newV, 0⟩
    let g := if t.flw.fresh then t.flw.g else if s.flwSpeed a then t.flw.g + perTick newV else s1.gearP a lead ofs
    (s1.modTile a (fun t => { t with flw := { t.flw with g := g, vg := newV, ofs := ofs, lead := lead, blend := blend, gear := s.lateWords t.flw.gear, fresh := false } })).wrI
      (TILE_FLW_LEAD a) lead

/-- The commanded state of FOLLOW_SYNC a part of this tick after the last latch (R203): the motion relative to the lead is
planned anew, with the geared speed added, so that |v| stays within VMAX (R192). A lead that no permitted speed follows is
pursued at VMAX. -/
def syncState (s : State) (a : Fin 96) (part : Nat) : PState :=
  let t := s.tiles.get a
  let l := s.limsOf a
  let f := t.flw
  let tau := part * (s.pso a).1.toNat / 65536
  let v := f.vg
  let g := fun (x : Nat) => f.g - v * (tickUnits - x : Nat) / (1000000000 * 4294967296)
  let rel : PState := ⟨posDiff t.ps.p (g 0), t.ps.v - v, t.ps.a⟩
  let bound := if 0 ≤ v then l.v - v else l.v + v
  if s.flwSpeed a ∨ (bound ≤ 0 ∧ rel.p * v ≤ 0) then { planSpeed l t.ps (max (-l.v) (min v l.v)) with tau := tau }.now
  else
    let o := { planTo l rel (-rel.p) none (l.v - v) (l.v + v) with tau := tau }.now
    ⟨t.ps.p - rel.p + (g part - g 0) + o.p, v + o.v, o.a⟩

/-- One latch of FOLLOW_SYNC (R203, R204): the relative motion runs one tick, then the unit may lock. -/
def syncTick (s : State) (a : Fin 96) : State :=
  let n := s.syncState a tickUnits
  let f := (s.tiles.get a).flw
  let o : PState := ⟨posDiff n.p f.g, n.v - f.vg, n.a⟩
  let s1 := s.modTile a (fun t => { t with ps := n })
  let pwin := (s.f (TILE_FLW_WIN_LOW a) : Int) * u64
  let vwin := (s.f (TILE_FLW_WIN_HIGH a) : Int) * 16 * u64
  if (s.flwSpeed a ∨ |o.p| ≤ pwin) ∧ |o.v| ≤ vwin then
    let gap := roundHalfEven o.p u64.toNat
    let s2 := ((s1.modTile a (fun t => { t with flw := { t.flw with blend := some ⟨o.p, o.v, 0⟩ } })).setF (TILE_PLN_STAT_MODE a) pmLOCKED).wrI
      (TILE_FLW_LASTGAP a) gap
    if (s.f (TILE_FLW_THR_LOW a) : Int) * u64 < |o.p| ∨ vwin < |o.v| then
      s2.raise (mkFault a 0x22 cMINOR 0 [.inst a, .sval gap])
    else s2
  else s1

/-- One latch of FOLLOW_LOCKED (R204, R205). -/
def lockTick (s : State) (a : Fin 96) : State :=
  let t := s.tiles.get a
  let f := t.flw
  let n := s.f (TILE_FLW_CFG_BLEND a)
  let b := f.blend.map (fun (b : FlwBlend) => { b with k := b.k + 1 })
  let c := match b with | some b => blendAt b n | none => (0, 0)
  let p := t.ps.p + posDiff (f.g + c.1) t.ps.p
  let v := f.vg + c.2
  let vmax := (s.limsOf a).v
  let step := perTick vmax
  let held := t.ps.p + max (-step) (min (p - t.ps.p) step)
  if vmax < |f.vg| ∨ (s.f (TILE_FLW_THR_HIGH a) : Int) * u64 < |posDiff f.g held| then
    let s1 := ((s.setF (TILE_PLN_STAT_MODE a) pmSYNC).hit (TILE_PLN_STAT_FOLLOW_LAG a)).modTile a
      (fun t => { t with flw := { t.flw with blend := none } })
    (s1.raise (mkFault a 0x21 cMINOR 0 [.inst a])).syncTick a
  else s.modTile a (fun t => { t with ps := ⟨p, v, (v - t.ps.v) * 16000⟩, flw := { t.flw with blend := b } })

/-- A limit stop that has come to rest: AT_LIMIT and PLN_AT_LIMIT (R211). -/
def atLimit (s : State) (a : Fin 96) : State :=
  if s.flag (TILE_PLN_STAT_AT_LIMIT a) then s
  else
    let high := 2 * (s.tiles.get a).ps.p ≥ (s.limLo a + s.limHi a) * u64
    (s.setF (TILE_PLN_STAT_AT_LIMIT a) 1).raise (mkFault a 0x25 cINFO 0 [.inst a, altCode 0x25 (b2n high)])

/-- The plan advances by a tick of scaled time (R193); a VEL segment may come to rest at a soft limit (R211). -/
def planTick (s : State) (a : Fin 96) : State :=
  let t := s.tiles.get a
  match t.plan with
  | none => s
  | some pl =>
    let pl' := { pl with tau := pl.tau + tickUnits * (s.pso a).1.toNat / 65536 }
    let s1 := s.modTile a (fun t => { t with plan := some pl', ps := pl'.now })
    let isVel : Bool := match t.active with | some g => g.kind == kVEL | none => false
    if isVel ∧ pl'.endP.isSome ∧ pl'.over then
      let s2 := s1.atLimit a
      if t.complete then s2.toIdle a else s2
    else if t.active.isNone ∧ pl'.over then s1.toIdle a
    else s1

/-- The planner runs a plan of its own, which a LIMITS segment replans. -/
def planned (s : State) (a : Nat) : Bool := s.pmode a != pmIDLE && s.pmode a != pmSYNC && s.pmode a != pmLOCKED && s.pmode a != pmTRACK

/-- A held segment that makes a new plan when it starts (R198). -/
def plansNew (s : State) (a : Nat) (g : Segment) : Bool :=
  [kPOS, kVEL, kSTOP, kHOME].contains g.kind || (g.kind == kLIMITS && s.planned a)

/-- The commanded state an amount of time before this latch, after the last one (R198): of the plan, of the relative motion,
or extrapolated from the last latch. -/
def stateAt (s : State) (a : Fin 96) (before : Nat) : PState :=
  let t := s.tiles.get a
  let o := (s.pso a).1.toNat
  match t.plan with
  | some pl => { pl with tau := pl.tau + (tickUnits - before) * o / 65536 }.now
  | none =>
    if s.pmode a = pmSYNC then s.syncState a (tickUnits - before)
    else t.ps.after 0 ((tickUnits - before) * 4294967296 / 1000000000)

/-- A SEGMENT_GO crossing before the latch point starts the held segment, in phase with the crossing (R198). A segment that
makes no plan starts at the latch. -/
def takeGo (s : State) (a : Fin 96) (latch : Nat) : State × Bool :=
  let t := s.tiles.get a
  match t.go, t.held with
  | some tc, some g =>
    if tc < latch then
      let s1 := s.modTile a (fun t => { t with go := none, held := none })
      if s.plansNew a g then
        let tau := (latch - tc) * (s.pso a).1.toNat / 65536
        let s2 := s1.modTile a (fun t => { t with ps := s.stateAt a (latch - tc) })
        let s3 := ((s2.endRaw a true).takeRaw a).startSeg a g
        (s3.modTile a (fun t => match t.plan with
          | some pl => { t with plan := some { pl with tau := tau }, ps := { pl with tau := tau }.now }
          | none => t), true)
      else ((((s1.endRaw a true).takeRaw a).startSeg a g).showSlots a, false)
    else (s, false)
  | _, _ => (s, false)

/-- Limits that wait take effect; in COMMISSION none stays above its commissioning ceiling (R185). -/
def latchLimits (s : State) (a : Fin 96) : State :=
  let t := s.tiles.get a
  let s1 := (s.wrAll (s.dueWords t.limPend)).modTile a (fun t => { t with limPend := s.lateWords t.limPend })
  let c := s.ceilings a
  let s2 := if s.mode = mCOMMISSION then
      (((s1.wr2 (TILE_PLN_VMAX a) (min (s1.rd2 (TILE_PLN_VMAX a)) c.1)).wrN (TILE_PLN_AMAX a) (min (s1.rdN (TILE_PLN_AMAX a)) c.2.1)).wrN
        (TILE_PLN_DMAX a) (min (s1.rdN (TILE_PLN_DMAX a)) c.2.2.1)).wrN (TILE_PLN_JMAX a) (min (s1.rdN (TILE_PLN_JMAX a)) c.2.2.2)
    else s1
  if s2.regs = s.regs then s2 else s2.replan a

/-- While the axis cannot be driven the planner tracks: p, v and a follow the latch, segments are discarded (R201). -/
def trackTick (s : State) (a : Fin 96) : State :=
  let s1 := (s.endRaw a false).modTile a (fun t => { t with
    active := none, complete := false, dest := none, atLim := false, queued := [], held := none, go := none, plan := none,
    stopReq := none, qstopReq := none, qstop := false, searching := false, rawShift := 0, flw := { t.flw with blend := none },
    genOfs := if s.f (TILE_FB_SRC_SRC a) = 0 ∧ s.flag (TILE_STP_CFG_INV a) then 2 * s.rdI (TILE_STP_POS a) else t.genOfs
    ps := ⟨s.rdI (TILE_FB_POS a) * u64, signed 64 (s.rd2 (TILE_FB_SPD a)) * 281474976710656, 0⟩ })
  ((s1.setF (TILE_PLN_STAT_MODE a) pmTRACK).setF (TILE_PLN_STAT_AT_LIMIT a) 0).showSlots a

/-- Leaving TRACK (R201): IDLE from rest, otherwise a plan to rest. -/
def leaveTrack (s : State) (a : Fin 96) : State :=
  if s.pmode a ≠ pmTRACK then s
  else if (s.tiles.get a).ps.v = 0 ∧ (s.tiles.get a).ps.a = 0 then s.setF (TILE_PLN_STAT_MODE a) pmIDLE
  else s.planRest a none

/-- A referencing of a port waits for its latch. -/
def refWaits (s : State) (p : Nat) : Bool := match s.fbps.get? p with | some x => x.moves.any (fun (m : FbMove) => m.kind == 2) | none => false

/-- Homing has met its index and the shift is made: the planner replans to TARGET in the new reference (R199). -/
def homeFound (s : State) (a : Fin 96) : State :=
  let t := s.tiles.get a
  match t.active with
  | some g =>
    if t.searching ∧ !s.flag (FBP_STAT_REF_ARMED (s.f (TILE_FB_SRC_PORT a))) ∧ !s.refWaits (s.f (TILE_FB_SRC_PORT a)) then
      (s.modTile a (fun t => { t with searching := false, dest := some (s.absTarget a g.target) })).replan a
    else s
  | none => s

/-- The LIMITS segments among those latched, taken in order. -/
def takeKept (s : State) (segs : List Segment) : State :=
  (segs.filter (fun (g : Segment) => g.kind = kLIMITS)).foldl (fun s g => s.takeLimits g) s

/-- A quick stop, a stop, or the latched segments, at a latch (R189, R201). -/
def takeRequests (s : State) (a : Fin 96) (segs : List Segment) : State :=
  if s.dueReq (s.tiles.get a).qstopReq then
    ((s.discardSlots a).modTile a (fun t => { t with qstop := true, qstopReq := none, stopReq := none })).planRest a none
  else if s.dueReq (s.tiles.get a).stopReq then
    ((s.takeSegs a segs).modTile a (fun t => { t with stopReq := none })).takeSeg a (Segment.stop a)
  else s.takeSegs a segs

/-- One tick of the planner by its mode. -/
def modeTick (s : State) (a : Fin 96) (went : Bool) : State :=
  let m := s.pmode a
  if went ∧ m ≠ pmSYNC then s
  else if m = pmSYNC then s.syncTick a
  else if m = pmLOCKED then s.lockTick a
  else s.planTick a

/-- A reference shift moves p; an absolute target of a rotary axis is read from the new p (R166, R186, R191). -/
def shiftRef (s : State) (a : Fin 96) (shift : Int) : State :=
  let s1 := s.shiftP a shift 0
  (match (s1.tiles.get a).active with
    | some g => if g.kind = kPOS ∧ !g.relative ∧ (s1.planLim a).rotary then s1.modTile a (fun t => { t with dest := some (s1.rotaryTarget a g.target) }) else s1
    | none => s1).replan a

/-- The segments that this latch takes leave the queue, and a reference shift moves the profile. -/
def latchHead (s : State) (a : Fin 96) (shift : Int) : State :=
  let s0 := s.withdraw 12 (fun i => (s.dueSeg a i).isSome)
  let s1 := s0.modTile a (fun t => { t with admitted := (s0.segsIn a).length })
  (if shift = 0 then s1 else s1.shiftRef a shift).latchLead a

/-- The planner of a tile at a loop tick latch, after its feedback latch (R189, R191, R201). shift is the change of the
reported position by referencing, in counts; latch is the latch point in elapsed time. -/
def planLatch (s : State) (a : Fin 96) (shift : Int) (latch : Nat) : State :=
  let segs := s.segsDue a
  let s2 := s.latchHead a shift
  if s2.tracks a then (((s2.latchLimits a).takeKept segs).trackTick a |>.wrapP a).putOut a
  else
    let p := ((((s2.leaveTrack a).takeRaw a).latchLimits a).homeFound a |>.takeRequests a segs).takeGo a latch
    ((p.1.modeTick a p.2).wrapP a).putOut a

-- ===== the path-speed override (R195, R196) =====

/-- The distance covered while the change per tick falls from u to 0 by SACC each tick. -/
def stopSum (sacc u : Nat) : Nat → Nat
  | 0 => 0
  | n + 1 => if u = 0 then 0 else u + stopSum sacc (u - sacc) n

/-- The greatest change per tick up to r from which s still stops within d; from bit k down. -/
def bestRate (sacc r d : Nat) : Nat → Nat → Nat
  | 0, u => u
  | k + 1, u => let c := u + 2 ^ k; if c ≤ r ∧ stopSum sacc c 65537 ≤ d then bestRate sacc r d k c else bestRate sacc r d k u

/-- s of a cluster moves towards min(SET, s_cap) at a loop tick (R195, R196). -/
def psoTick (s : State) (c : Fin 12) : State :=
  let set := min (s.f (CL_PSO_SET c)) 65536
  let cap := s.f (CL_PSO_CAP_S_CAP c)
  let now := s.f (CL_PSO_ACT_S c)
  let goal := min set cap
  let rate : Int := s.f (CL_PSO_RATE_RATE c)
  let sacc := s.f (CL_PSO_RATE_SACC c)
  let d : Int := (goal : Int) - now
  let want : Int := d.sign * (if sacc = 0 then min rate.toNat d.natAbs else bestRate sacc rate.toNat d.natAbs 16 0)
  let old := (s.clusters.get c).sdot
  let u := max (-rate) (min (max (old - sacc) (min want (old + sacc))) rate)
  let next := max 0 (min ((now : Int) + u) 65536)
  ((s.setF (CL_PSO_ACT_S c) next.toNat).setB (CL_PSO_ACT_CAPPED c) (cap < set)) |> fun s1 =>
    { s1 with clusters := s1.clusters.modify c (fun x => { x with sdot := next - now }) }

-- ===== analog inputs =====

/-- Some time of 10 µs up to an instant has passed without a conversion (R208); the instants are those of the conversions,
oldest first, after the one before them. -/
def ainGap (limit upTo : Nat) : Option Nat → List Nat → Bool
  | none, [] => true
  | some t, [] => decide (limit ≤ upTo - t)
  | none, t :: ts => ainGap limit upTo (some t) ts
  | some u, t :: ts => decide (limit < t - u) || ainGap limit upTo (some t) ts

/-- The conversions that completed before the latch point are averaged (R202); the others belong to the next latch. conv gives
those since the last tick, oldest first, each with its instant. None for 10 µs, or 16 latches at full scale, is a loss (R208). -/
def ainLatch (s : State) (i : Fin 4) (conv : List (Nat × Int)) : State :=
  if !s.flag (AIN_CFG_EN i) then s
  else
    let x := s.ains.get i
    let all := x.late ++ conv
    let taken := all.filter (fun c => decide (c.1 < s.latchPoint))
    let h := ((taken.map Prod.snd).reverse ++ x.hist).take 64
    let n := min (s.avgOf i) h.length
    let m := if n = 0 then 0 else roundHalfEven ((h.take n).foldl (· + ·) 0) n
    let full := m = 32767 ∨ m = -32768
    let y : Ain := { hist := h, run := if full then x.run + 1 else 0
                     dead := ainGap (s.usCycles 10) s.time.mono x.lastAt (conv.map Prod.fst)
                     late := all.filter (fun c => decide (s.latchPoint ≤ c.1)), lastAt := (conv.getLast?.map Prod.fst).orElse (fun _ => x.lastAt) }
    let s1 := ({ s with ains := s.ains.set i y }.setF (AIN_VAL_VALUE i) (wrapNat 16 m)).setB (AIN_STAT_SAT i) full
    if 16 ≤ y.run ∨ y.dead then s1.hit (AIN_STAT_LOST i) else s1

-- ===== completion =====

/-- The completion test of the active segment (R188, R211): a VEL segment whose target the working VMAX does not permit does not
reach it, and completes at a limit only. -/
def segDone (s : State) (a : Fin 96) : Bool :=
  let t := s.tiles.get a
  match t.active with
  | none => false
  | some g =>
    !t.complete && !t.searching &&
      (if g.kind = kFOLLOW then s.pmode a == pmLOCKED else match t.plan with
        | some pl => pl.reached && (g.kind != kVEL || decide (|g.target * 281474976710656| ≤ (s.limsOf a).v) || (pl.endP.isSome && pl.over))
        | none => false)

/-- The next queued segments start, those that complete at once first (R189). -/
def startQueued (s : State) (a : Fin 96) : List Segment → State
  | [] => s
  | g :: gs =>
    if openFor (s.tiles.get a) then
      startQueued ((s.modTile a (fun t => { t with queued := gs })).startSeg a g |>.showSlots a) a gs
    else s

/-- The active segment completes: DONE, and the next one starts in the same tick (R189). -/
def completeSeg (s : State) (a : Fin 96) : State :=
  let t := s.tiles.get a
  let kind := match t.active with | some g => g.kind | none => 0
  let s1 := s.hit (TILE_PLN_STAT_DONE a)
  let lim : Bool := t.atLim || (kind == kVEL && (match t.plan with | some pl => pl.over && pl.endP.isSome | none => false))
  let s2 := if lim then s1.atLimit a else s1
  let holds := kind = kFOLLOW ∨ (kind = kVEL ∧ !lim ∧ (t.ps.v ≠ 0))
  let s3 := if holds then s2.modTile a (fun t => { t with complete := true }) else s2.toIdle a
  s3.startQueued a (s3.tiles.get a).queued

end State

/-- A segment command's answer: the admission code stands as the command's result (R41). -/
def segOffer (g : Segment) (s : State) : Out :=
  let p := s.admitSegment g 0
  .next { p.1 with rdData := BitVec.ofNat 32 p.2 }

/-- POS_SEGMENT (R188, R190). -/
def execPosSegment (a start : Nat) (relative withLimits : Bool) (target : Int) (vmax amax dmax jmax seq : Nat) (s : State) : Out :=
  segOffer { axis := a, kind := kPOS, start := start, relative := relative, withLimits := withLimits, target := target,
             vmax := vmax, amax := amax, dmax := dmax, jmax := jmax, param := 0, seq := seq } s

/-- VEL_SEGMENT (R188, R190, R211). -/
def execVelSegment (a start : Nat) (withLimits : Bool) (target : Int) (vmax amax dmax jmax seq : Nat) (s : State) : Out :=
  segOffer { axis := a, kind := kVEL, start := start, relative := false, withLimits := withLimits, target := target,
             vmax := vmax, amax := amax, dmax := dmax, jmax := jmax, param := 0, seq := seq } s

/-- STOP_SEGMENT (R188 to R190). -/
def execStopSegment (a seq : Nat) (s : State) : Out := segOffer { Segment.stop a with seq := seq } s

/-- LIMITS_SEGMENT (R188 to R190). -/
def execLimitsSegment (a start vmax amax dmax jmax seq : Nat) (s : State) : Out :=
  segOffer { axis := a, kind := kLIMITS, start := start, relative := false, withLimits := true, target := 0,
             vmax := vmax, amax := amax, dmax := dmax, jmax := jmax, param := 0, seq := seq } s

/-- HOME_SEGMENT (R199). -/
def execHomeSegment (a start : Nat) (withLimits : Bool) (target : Int) (vmax amax dmax jmax param seq : Nat) (s : State) : Out :=
  segOffer { axis := a, kind := kHOME, start := start, relative := false, withLimits := withLimits, target := target,
             vmax := vmax, amax := amax, dmax := dmax, jmax := jmax, param := param, seq := seq } s

/-- SETPOS_SEGMENT (R200). -/
def execSetposSegment (a start : Nat) (target : Int) (seq : Nat) (s : State) : Out :=
  segOffer { axis := a, kind := kSETPOS, start := start, relative := false, withLimits := false, target := target,
             vmax := 0, amax := 0, dmax := 0, jmax := 0, param := 0, seq := seq } s

/-- FOLLOW_SEGMENT (R203, R208): param 0 ABSOLUTE, 1 RELATIVE. -/
def execFollowSegment (a start : Nat) (withLimits : Bool) (vmax amax dmax jmax param seq : Nat) (s : State) : Out :=
  segOffer { axis := a, kind := kFOLLOW, start := start, relative := false, withLimits := withLimits, target := 0,
             vmax := vmax, amax := amax, dmax := dmax, jmax := jmax, param := param, seq := seq } s

/-- SEGMENT_COMPLETE (R189): in the tick in which the completion test holds. -/
def execSegmentComplete (a : Fin 96) (s : State) : Out := .next (if s.atTick ∧ s.segDone a then s.completeSeg a else s)

/-- PLN_STOP (R188, R212): taken at the next latch. -/
def execPlnStop (a : Fin 96) (s : State) : Out := 
  .next (if s.tileOpen a then s.modTile a (fun t => { t with stopReq := some s.time.mono }) else s)

/-- PLN_QSTOP (R194, R209): taken at the next latch, before its segments. -/
def execPlnQstop (a : Fin 96) (s : State) : Out := 
  .next (if s.tileOpen a then s.modTile a (fun t => { t with qstopReq := some s.time.mono }) else s)

/-- PLN_FLUSH (R212). -/
def execPlnFlush (a : Fin 96) (s : State) : Out := .next (if s.tileOpen a then s.discardSlots a else s)

/-- PLANNER_LIMIT_WRITE (R185): reg 0 and 1 are the words of VMAX, 2 AMAX, 3 DMAX, 4 JMAX. -/
def execPlannerLimitWrite (a : Fin 96) (reg : Fin 5) (value : Word) (s : State) : Out :=
  let c := s.ceilings a
  let pend := fun (ws : List (Nat × Word)) => s.modTile a (fun t => { t with limPend := t.limPend ++ ws.map (fun w => (s.time.mono, w)) })
  let refused := s.hit (TILE_PLN_STAT_LIM_REFUSED a)
  let low := s.lowWord (TILE_PLN_VMAX a 0)
  let one := fun (r ceil : Nat) => if ceil < value.toNat ∨ value = 0 then refused else pend [(r, value)]
  .next (if !s.tileOpen a then s
    else if reg = 0 then s.holdLow (TILE_PLN_VMAX a 0) value
    else if reg = 1 then
      (if c.1 < low.toNat + 4294967296 * value.toNat then refused
        else pend [(TILE_PLN_VMAX a 0, low), (TILE_PLN_VMAX a 1, value)]).dropLow (TILE_PLN_VMAX a 0)
    else if reg = 2 then one (TILE_PLN_AMAX a) c.2.1
    else if reg = 3 then one (TILE_PLN_DMAX a) c.2.2.1
    else one (TILE_PLN_JMAX a) c.2.2.2)

/-- PLN_HOME_FAIL (R199): the search distance is covered without an index. -/
def execPlnHomeFail (a : Fin 96) (s : State) : Out :=
  let t := s.tiles.get a
  let ran : Bool := match t.plan with | some pl => pl.reached | none => false
  .next (if s.atTick ∧ t.searching ∧ ran ∧ s.flag (FBP_STAT_REF_ARMED (s.f (TILE_FB_SRC_PORT a))) then
    ((s.toIdle a).hit (TILE_PLN_STAT_HOME_FAIL a)).raise (mkFault a 0x23 cMINOR 0 [.inst a])
      |> fun s1 => s1.startQueued a (s1.tiles.get a).queued
  else s)

/-- FOLLOW_BLEND_END (R204): BLEND ticks have passed; the commanded state is (g, v_g). -/
def execFollowBlendEnd (a : Fin 96) (s : State) : Out :=
  .next (match (s.tiles.get a).flw.blend with
    | some b =>
      if s.atTick ∧ s.f (TILE_FLW_CFG_BLEND a) ≤ b.k then
        (s.modTile a (fun t => { t with flw := { t.flw with blend := none }, ps := { t.ps with p := t.flw.g, v := t.flw.vg } })).putOut a
      else s
    | none => s)

/-- FOLLOW_GEAR_WRITE (R206): which 0 RATIO, 1 OFS; word 0 waits for word 1; at once where the unit is not engaged. -/
def execFollowGearWrite (a : Fin 96) (ofs : Bool) (w : Fin 2) (value : Word) (s : State) : Out :=
  let r := fun (w : Nat) => if ofs then TILE_FLW_OFS a w else TILE_FLW_RATIO a w
  let engaged := s.pmode a = pmSYNC ∨ s.pmode a = pmLOCKED
  .next (if !s.tileOpen a then s
    else if w = 0 then s.holdLow (r 0) value
    else
      let ws := [(r 0, s.lowWord (r 0)), (r 1, value)]
      (if engaged then s.modTile a (fun t => { t with flw := { t.flw with gear := t.flw.gear ++ ws.map (fun x => (s.time.mono, x)) } }) else s.wrAll ws).dropLow (r 0))

/-- PLN_FOLLOW_LOST (R208): the lead of an engaged unit is lost; the planner disengages and plans to rest. -/
def execPlnFollowLost (a : Fin 96) (s : State) : Out :=
  .next (if s.atTick ∧ (s.pmode a = pmSYNC ∨ s.pmode a = pmLOCKED) ∧ s.leadLost a then
    ((s.modTile a (fun t => { t with flw := { t.flw with blend := none } })).planRest a none).hit (TILE_PLN_STAT_FOLLOW_LOST a)
      |>.raise (mkFault a 0x20 cMAJOR 1 [.inst a, altCode 0x20 (s.f (TILE_FLW_CFG_INPUT a) + 32 * s.f (TILE_FLW_CFG_SRC a))] (s.scopeOfAxis a))
  else s)

end Sys2Proof.Machine
end

