-- ==== Sys2Proof/Machine/Steps.lean ====
section
/-! DEFINITION. Step generation, current regulation and the power ports (chapter 08): the applied position, microstep
levels, raw moves, the hysteresis chopper, load-adaptive current, PWM compare values, gate lines and port faults. -/

namespace Sys2Proof

/-- π in units of 2^-60. -/
def pi60 : Int := 3622009729038561421

/-- The series of the sine in units of 2^-60, from the term t of order n on. -/
def sinSeries (x2 t : Int) (n : Nat) : Nat → Int
  | 0 => 0
  | k + 1 => t + sinSeries x2 (-(t * x2 / 1152921504606846976) / ((n + 1) * (n + 2))) (n + 2) k

/-- sin of k/n of a turn, n a multiple of 4, in units of 2^-60. -/
def sinOf (n : Nat) (k : Int) : Int :=
  let j := (k % n).toNat
  let h := j % (n / 2)
  let q := if h ≤ n / 4 then h else n / 2 - h
  let x := 2 * pi60 * q / n
  let v := sinSeries (x * x / 1152921504606846976) x 1 13
  if j < n / 2 then v else -v

/-- sin of k/1024 of a turn (R229). -/
def sinTurn (k : Int) : Int := sinOf 1024 k

/-- Angles of the vectoring steps, 2^-32 turn. -/
def atanSteps : List Int :=
  [536870912, 316933406, 167458907, 85004756, 42667331, 21354465, 10679838, 5340245, 2670163, 1335087, 667544, 333772,
   166886, 83443, 41722, 20861, 10430, 5215, 2608, 1304, 652, 326, 163, 81, 41, 20, 10, 5, 3, 1, 1]

/-- Vectoring: the angle by which (x, y), x > 0, stands above the x axis. -/
def vectoring (x y acc : Int) (i : Nat) : List Int → Int
  | [] => acc
  | d :: ds => if 0 ≤ y then vectoring (x + y / 2 ^ i) (y - x / 2 ^ i) (acc + d) (i + 1) ds
               else vectoring (x - y / 2 ^ i) (y + x / 2 ^ i) (acc - d) (i + 1) ds

/-- atan2(y, x) in 2^-32 turn; 0 for the zero vector. -/
def atan2turn (y x : Int) : Int :=
  let s : Int := 4294967296
  if x = 0 ∧ y = 0 then 0
  else if 0 ≤ x then vectoring (x * s) (y * s) 0 0 atanSteps
  else 2147483648 + vectoring (-x * s) (-y * s) 0 0 atanSteps

/-- A half-bridge takes a level at an instant. -/
def Leg.to (l : Leg) (high : Bool) (t : Nat) : Leg := if l.high = high then l else ⟨high, t⟩

/-- A PWM phase calls for a level over a number of LOOP cycles. -/
def Leg.hold (l : Leg) (high : Bool) (n : Nat) : Leg := if n = 0 then l else if l.high = high then ⟨high, l.since + n⟩ else ⟨high, n⟩

/-- What a PWM phase needs: TOP, compare value, dead time and minimum pulse in LOOP cycles (R237 to R239). -/
structure Pwm where
  top : Nat
  c : Nat
  dt : Nat
  min : Nat
deriving DecidableEq, Repr

/-- The high and the low pulse are at least MINPW long after dead time, and so are emitted (R239). -/
def Pwm.highOk (x : Pwm) : Bool := x.min + x.dt ≤ 2 * (x.top - x.c)
def Pwm.lowOk (x : Pwm) : Bool := x.min + x.dt ≤ 2 * x.c

/-- A phase k LOOP cycles into the rising half-period: low while the counter is below C (R238); a pulse that is too short leaves
the switch as it was (R239). -/
def Pwm.rise (x : Pwm) (l : Leg) (k : Nat) : Leg :=
  let m := l.hold (if x.lowOk then false else l.high) (Nat.min k x.c)
  m.hold (if x.highOk then true else m.high) (k - x.c)

/-- A phase k LOOP cycles into the falling half-period. -/
def Pwm.fall (x : Pwm) (l : Leg) (k : Nat) : Leg :=
  let n := x.top - x.c + 1
  let m := l.hold (if x.highOk then true else l.high) (Nat.min k n)
  m.hold (if x.lowOk then false else m.high) (k - n)

/-- A phase k LOOP cycles after the last current-loop boundary (R237): with CARRIER 0 a period stands between two boundaries,
with CARRIER 1 a half-period, rising from a grid boundary on. -/
def Pwm.leg (x : Pwm) (carrier falling : Bool) (l : Leg) (k : Nat) : Leg :=
  if carrier then (if falling then x.fall l k else x.rise l k)
  else if k ≤ x.top then x.rise l k else x.fall (x.rise l x.top) (k - x.top)

end Sys2Proof

namespace Sys2Proof.Machine
namespace State

/-- The power port of an axis (R213). -/
def portOf (s : State) (a : Nat) : Option (Fin 32) :=
  (List.finRange 32).find? (fun p => s.f (PP_CFG_MODE p) != 0 && s.f (PP_CFG_TILE p) == a)

def ppMode (s : State) (p : Nat) : Nat := s.f (PP_CFG_MODE p)
def modPp (s : State) (p : Fin 32) (g : PowerPort → PowerPort) : State := { s with pps := s.pps.modify p g }
/-- One coil of a port. -/
def coil (s : State) (p : Fin 32) (b : Bool) : Coil := if b then (s.pps.get p).coilB else (s.pps.get p).coilA
def modCoil (s : State) (p : Fin 32) (b : Bool) (g : Coil → Coil) : State :=
  s.modPp p (fun x => if b then { x with coilB := g x.coilB } else { x with coilA := g x.coilA })

def stpOut (s : State) (a : Nat) : Nat := s.f (TILE_STP_CFG_OUT a)
def stpX (s : State) (a : Nat) : Int := s.rdI (TILE_STP_POS a)
/-- The count whose phase is applied: X, less what SETPOS moved it (R200, R229). -/
def phase (s : State) (a : Fin 96) : Int := s.stpX a + (s.tiles.get a).phase
def level (s : State) (a : Nat) : Nat := s.f (TILE_STP_STAT_LEVEL a)
def amp (s : State) (a : Nat) : Nat := s.f (TILE_STP_CUR_I a)
def irun (s : State) (a : Nat) : Nat := s.f (TILE_STP_ICFG_LOW a)
def ihold (s : State) (a : Nat) : Nat := s.f (TILE_STP_ICFG_HIGH a)

-- ===== chopper =====

/-- BAND, TOFF and TBLANK of a port in Q15 and SYS cycles (PP_CHOP). -/
def band (s : State) (p : Nat) : Int := s.f (PP_CHOP_BAND p)
def toff (s : State) (p : Nat) : Nat := 8 * s.f (PP_CHOP_TOFF p)
def tblank (s : State) (p : Nat) : Nat := 80 * s.f (PP_CHOP_TBLANK p)
/-- The learned offset of a coil, signed (R232). -/
def coilOfs (s : State) (p : Nat) (b : Bool) : Int := signed 16 (s.f (if b then PP_OFS_HIGH p else PP_OFS_LOW p))

/-- Part of the time from x to y spent in fast decay, of a coil that has been OFF since an instant (R230, R231). -/
def fastPart (s : State) (p : Nat) (c : Coil) (x y : Nat) : Nat :=
  if c.star = 0 then 0
  else if c.forced ∨ s.f (PP_CFG_DECAY p) = 1 then y - x
  else if s.f (PP_CFG_DECAY p) = 2 then min y (c.since + s.toff p / 4) - x
  else 0

/-- The half-bridges that a coil has switched high, left and right (R214, R230): both low in slow decay. -/
def wantLegs (s : State) (p : Nat) (c : Coil) (t : Nat) : Bool × Bool :=
  let fast := c.star ≠ 0 ∧ (c.forced ∨ s.f (PP_CFG_DECAY p) = 1 ∨ (s.f (PP_CFG_DECAY p) = 2 ∧ t < c.since + s.toff p / 4))
  if c.on then (decide (0 ≤ c.star), decide (c.star < 0))
  else if fast then (decide (c.star < 0), decide (0 ≤ c.star))
  else (false, false)

/-- The half-bridges of a coil at an instant: mixed decay turns slow after the first quarter of TOFF (R230). -/
def coilLegs (s : State) (p : Nat) (c : Coil) (t : Nat) : Leg × Leg :=
  let w := s.wantLegs p c t
  let turn := c.since + s.toff p / 4
  (c.left.to w.1 turn, c.right.to w.2 turn)

/-- The drive of a coil is accounted up to an instant: +1 driving, −1 fast decay, 0 slow decay (R233). -/
def account (s : State) (p : Fin 32) (b : Bool) (t : Nat) : State :=
  let c := s.coil p b
  let d : Int := if c.on then (t - c.accAt : Nat) else -(s.fastPart p c c.accAt t : Int)
  let l := s.coilLegs p c t
  s.modCoil p b (fun c => { c with dAcc := c.dAcc + d, accAt := max t c.accAt, left := l.1, right := l.2 })

/-- The half-bridges of a coil follow a change of its state. -/
def drive (s : State) (p : Fin 32) (b : Bool) (t : Nat) : State :=
  s.modCoil p b (fun c => { c with left := c.left.to (s.wantLegs p c t).1 t, right := c.right.to (s.wantLegs p c t).2 t })

/-- A coil leaves or enters its on-phase. -/
def switchCoil (s : State) (p : Fin 32) (b : Bool) (on forced : Bool) (t : Nat) : State :=
  (s.account p b t).modCoil p b (fun c => { c with on := on, forced := forced, since := t, allOn := c.allOn && on }) |>.drive p b t

/-- A new coil target (R229, R231): OFF in fast decay where it changes sign or falls by more than BAND. -/
def setStar (s : State) (p : Fin 32) (b : Bool) (star : Int) (t : Nat) : State :=
  let c := s.coil p b
  if c.star = star then s
  else
    let flip := c.star.sign * star.sign < 0
    let fall := s.band p < |c.star| - |star|
    let s1 := (s.account p b t).modCoil p b (fun c => { c with star := star, steady := c.steady && |c.star| == |star| })
    if star = 0 then s1.switchCoil p b false (flip || fall) t
    else if flip ∨ fall then s1.switchCoil p b false true t
    else s1.drive p b t

-- ===== gate lines =====

/-- The conditions of R215 permit active gate lines. A group's ports act in ON and SS1 only (R332, R462). -/
def gatesOk (s : State) (p : Nat) : Bool :=
  let a := s.f (PP_CFG_TILE p)
  let g := s.groupOf a
  s.ppMode p != 0 && mTAKEOVER ≤ s.mode && s.flag (PP_STAT_CAL_DONE p) && (s.pps.get? p).all (fun (x : PowerPort) => x.calEnd.isNone)
    && g < 4 && 2 ≤ s.f (SAFE_STO_STAT_STATE g) && !s.l2On a
    && !s.flag (PP_STAT_BFLT p) && !s.flag (PP_STAT_OC p) && !s.flag (PP_STAT_BUS_OV p) && !s.flag (PP_STAT_SD_LOST p)

/-- Gate lines follow R215; the coils are in OFF at the change. Off: the tile's raw move ends, and without feedback of its own
the axis is unreferenced; on: the amplitude starts from 0 (R246, R248). -/
def gateUpdate (s : State) (p : Fin 32) : State :=
  let on := s.gatesOk p
  let a := s.f (PP_CFG_TILE p)
  if on = s.flag (PP_STAT_GATES p) then s
  else
    let s1 := (((s.setB (PP_STAT_GATES p) on).switchCoil p false false false s.time.mono).switchCoil p true false false s.time.mono)
    if h : a < 96 then
      let t : Fin 96 := ⟨a, h⟩
      if on then (if s.ppMode p = 1 then (s1.setF (TILE_STP_CUR_I a) 0).modTile t (fun x => { x with rampUp := true }) else s1)
      else
        let s2 := s1.endRaw t false
        if s.f (TILE_FB_SRC_SRC a) = 0 then (s2.setF (TILE_FB_STAT_REFERENCED a) 0).modTile t (fun x => { x with setRef := false }) else s2
    else s1

/-- The coil targets of the present phase and amplitude (R229). -/
def applyPhase (s : State) (a : Fin 96) (t : Nat) : State :=
  if s.stpOut a ≠ 1 then s
  else
    match s.portOf a with
    | none => s
    | some p =>
      let x := s.phase a
      let i := s.amp a
      let star := fun (k : Int) => roundHalfEven (i * sinTurn k) 1152921504606846976
      (s.setStar p false (star (x + 256)) t).setStar p true (star x) t

/-- A fast-filter value moves the chopper of a coil (R230, R231). The value has its calibration offset subtracted. -/
def chop (s : State) (p : Fin 32) (b : Bool) (i : Int) (t : Nat) : State :=
  let c := s.coil p b
  if !s.flag (PP_STAT_GATES p) ∨ c.star = 0 then s
  else
    let cur := c.star.sign * i
    let u := |c.star| + s.coilOfs p b
    let high := decide (2 * u + s.band p ≤ 2 * cur)
    let low := decide (2 * cur ≤ 2 * u - s.band p)
    if c.on then
      if high ∧ c.since + s.tblank p ≤ t then (s.modCoil p b (fun c => { c with hit := true })).switchCoil p b false false t else s
    else if t < c.since + s.toff p then s
    else if c.forced ∧ 2 * u + s.band p < 2 * cur then s
    else if low then s.switchCoil p b true false t
    else if c.forced then ((s.account p b t).modCoil p b (fun c => { c with forced := false })).drive p b t
    else s

-- ===== one current-loop period =====

/-- The back-EMF of a coil over a period in μV × 2^15, read in the direction of its target, and the resistance it shows
(R233, R235). m and the bus voltage are Q15. -/
def coilPeriod (s : State) (p : Fin 32) (b : Bool) (m vbus : Int) (t : Nat) : State :=
  let s0 := s.account p b t
  let c := s0.coil p b
  let a := s.f (PP_CFG_TILE p)
  let dir : Int := if c.star < 0 then -1 else 1
  let mm := dir * m
  let ifs : Int := s.f (PP_SCALE_LOW p)
  let vfs : Int := s.f (PP_SCALE_HIGH p)
  let r : Int := if s.f (TILE_STP_CUR_RLRN a) = 0 then s.f (TILE_STP_MOT_LOW a) else s.f (TILE_STP_CUR_RLRN a)
  let l : Int := s.f (TILE_STP_MOT_HIGH a)
  let drive := c.dAcc * vbus * vfs * 10000 / 12500
  let e := drive - r * mm * ifs - l * (mm - c.mPrev) * ifs * 64
  let k := s.f (PP_CFG_KOFS p)
  let bnd := s.band p
  let ofs := s.coilOfs p b
  let ofs' := if k ≠ 0 ∧ c.steady ∧ bnd ≤ |c.star| then
      max (-bnd) (min (ofs + roundHalfEven (|c.star| - mm) (2 ^ k)) bnd) else ofs
  let s1 := s0.setF (if b then PP_OFS_HIGH p else PP_OFS_LOW p) (wrapNat 16 ofs')
  let s2 := if c.allOn ∧ c.on ∧ !c.hit then s1.setF (PP_STAT_LIMITED p) 1 else s1
  s2.modCoil p b (fun c => { c with
    dAcc := 0, mPrev := mm, emf := c.emf + dir * e, hit := false, allOn := c.on, steady := true
    rSum := if mm * ifs = 0 then c.rSum else c.rSum + drive / (mm * ifs)
    rN := if mm * ifs = 0 then c.rN else c.rN + 1 })

/-- The PWM of a phase of a port (R237 to R239). -/
def pwm (s : State) (p : Nat) (c : Nat) : Pwm :=
  ⟨if s.flag (PP_PWM_CARRIER p) then 6250 else 3125, c, s.f (PP_PWM_DT p), s.f (PP_PWM_MINPW p)⟩

/-- The legs of a port's phases, LOOP cycles after a current-loop boundary. falling: the boundary is a peak. -/
def pwmLegs (s : State) (p : Fin 32) (falling : Bool) (k : Nat) : List Leg :=
  let x := s.pps.get p
  List.zipWith (fun (c : Nat) (l : Leg) => (s.pwm p c).leg (s.flag (PP_PWM_CARRIER p)) falling l k) x.compare x.legs

/-- LOOP cycles of one current-loop period. -/
def curPeriod : Nat := 6250

/-- The eight gate lines of a port (R214 to R216, R230, R238, R239): none while they are high impedance; a switch is on once its
leg has called for it for the dead time; HPOL and LPOL set the active level. -/
def gateLines (s : State) (p : Fin 32) : Option (List Bool) :=
  if s.mode < mTAKEOVER ∨ s.ppMode p = 0 then none
  else
    let t := s.time.mono
    let x := s.pps.get p
    let dt := s.f (PP_PWM_DT p)
    let into := s.time.now % (Config.gridUnits / 2) * 2 / (5 * Config.nsUnits)
    let legs : List (Bool × Bool) :=
      if s.ppMode p = 1 then
        let ca := s.coilLegs p x.coilA t
        let cb := s.coilLegs p x.coilB t
        [ca.1, ca.2, cb.1, cb.2].map (fun (l : Leg) => let on := decide (l.since + 2 * dt ≤ t); (l.high && on, !l.high && on))
      else (s.pwmLegs p (decide (Config.gridUnits / 2 ≤ s.time.now % Config.gridUnits)) into).map
        (fun (l : Leg) => let on := decide (dt ≤ l.since); (l.high && on, !l.high && on))
    let lines := ((legs ++ [(false, false)]).take 4).flatMap (fun (l : Bool × Bool) => if s.flag (PP_STAT_GATES p) then [l.1, l.2] else [false, false])
    some (List.zipWith (fun (i : Nat) (on : Bool) => on != s.flag (if i % 2 = 0 then PP_CFG_HPOL p else PP_CFG_LPOL p)) (List.range 8) lines)

/-- A compare value written before the LOOP cycle of a boundary is in force from there on (R26, R238). -/
def loadCompare (t : Nat) (now : Nat) (ws : List (Nat × Nat)) : Nat × List (Nat × Nat) :=
  (((ws.find? (fun w => decide (w.1 / 2 < t / 2))).map Prod.snd).getD now, ws.filter (fun w => decide (t / 2 ≤ w.1 / 2)))

/-- A current-loop boundary at a port: compare values load, the main-filter values arrive (R219, R220, R238). -/
def portPeriod (s : State) (p : Fin 32) (ch0 ch1 ch2 : Int) (t : Nat) : State :=
  let off := fun (v : Int) (f : Fld) => satInt 16 (v - signed 16 (s.f f))
  let c0 := off ch0 (PP_CAL01_LOW p)
  let c1 := off ch1 (PP_CAL01_HIGH p)
  let c2 := off ch2 (PP_CAL2_LOW p)
  let s1 := (((s.setF (PP_SENSE_LOW p) (wrapNat 16 c0)).setF (PP_SENSE_HIGH p) (wrapNat 16 c1)).setF (PP_SENSE2_LOW p) (wrapNat 16 c2)).setF
    (PP_STAT_LIMITED p) 0
  let legs := s.pwmLegs p (decide (s.time.now % Config.gridUnits < s.cycleInc)) curPeriod
  let s2 := s1.modPp p (fun x => { x with
    compare := List.zipWith (fun c w => (loadCompare t c w).1) x.compare x.waiting
    waiting := List.zipWith (fun c w => (loadCompare t c w).2) x.compare x.waiting, legs := legs })
  if s.ppMode p = 1 ∧ s.flag (PP_STAT_GATES p) then (s2.coilPeriod p false c0 c2 t).coilPeriod p true c1 c2 t else s2

/-- Duties in Q15 become compare values that wait for a later boundary (R238). -/
def setDuty (s : State) (p : Fin 32) (ds : List Int) : State :=
  let top : Int := (s.pwm p 0).top
  s.modPp p (fun x => { x with waiting := List.zipWith (fun (d : Int) (w : List (Nat × Nat)) =>
    (s.time.mono, (roundHalfEven ((d + 32768) * top) 65536).toNat) :: w) ds x.waiting })

-- ===== the step generator =====

/-- The fine position at an instant, in 2^-32 counts (R222). -/
def fineX (s : State) (a : Fin 96) (t : Nat) : Int :=
  let x := s.tiles.get a
  let n : Int := (t - x.gAt) * s.cycleInc
  let u : Int := Config.secUnits
  let p := x.gp + x.gv * n * 256 / u + x.ga * n * n * 32768 / (u * u)
  (if s.flag (TILE_STP_CFG_INV a) then -p else p) + x.genOfs * 4294967296

/-- The way from X to the fine position in the wrapping position field (R6), 2^-32 counts. -/
def fineAhead (s : State) (a : Fin 96) (t : Nat) : Int := signed 64 (wrapNat 64 (s.fineX a t - s.stpX a * 4294967296))

/-- One LOOP cycle of the level: a coarser step waits for the coarser grid, a finer one acts at once (R227, R228). -/
def levelStep (s : State) (a : Fin 96) : State :=
  let k := s.level a
  let v := |(s.tiles.get a).gv|
  let base : Int := s.f (TILE_STP_CFG_MS_BASE a)
  let upDue := decide (base * 2 ^ k * 4294967296 ≤ v) && k < min 8 (s.f (TILE_STP_CFG_MAXLVL a))
  let downDue := 0 < k && decide (2 * 256 * v < base * 2 ^ k * (256 - (s.f (TILE_STP_CFG_MS_HYST a) : Int)) * 4294967296)
  let grid := decide (s.phase a % 2 ^ (k + 1) = 0)
  let s1 := if downDue then s.setF (TILE_STP_STAT_LEVEL a) (k - 1) else if upDue ∧ grid then s.setF (TILE_STP_STAT_LEVEL a) (k + 1) else s
  s1.modTile a (fun x => { x with due := upDue && !downDue && !grid })

/-- A number of LOOP cycles of the level. -/
def levelRun (s : State) (a : Fin 96) : Nat → State
  | 0 => s
  | n + 1 => levelRun (s.levelStep a) a n

/-- The level follows the speed up to a LOOP cycle, one step in each (R227); no more than 9 of them can change it. A raw move
keeps level 0 (R226). -/
def settleLevel (s : State) (a : Fin 96) (l : Nat) : State :=
  if s.stpOut a ≠ 1 ∨ (s.tiles.get a).rawTo.isSome then s
  else (s.levelRun a (min 9 (l - (s.tiles.get a).lvlAt))).modTile a (fun x => { x with lvlAt := max x.lvlAt l })

/-- X changes by an amount: a step pulse, or a new phase (R223, R224, R229). A step pulse is delayed by the direction
set-up and by the greatest step rate. -/
def stepX (s : State) (a : Fin 96) (d : Int) (t : Nat) : State :=
  let s1 := (s.wrI (TILE_STP_POS a) (s.stpX a + d)).modTile a (fun x => { x with up := decide (0 < d) })
  if s.stpOut a = 2 then
    let x := s.tiles.get a
    let w := 2 * s.f (TILE_STP_PULSE_STEP_W a)
    let su := 2 * s.f (TILE_STP_PULSE_DIR_SU a)
    let dir := decide (0 < d)
    let free := match x.steps with | l :: _ => l + 160 | [] => 0
    let turn := if x.dirLine = dir then x.dirAt else match x.steps with | l :: _ => max t (l + w) | [] => t
    let at_ := max (max t free) (turn + su)
    s1.modTile a (fun x => { x with steps := at_ :: x.steps.filter (fun l => decide (t < l + w)), dirLine := dir, dirAt := turn })
  else (s1.settleLevel a (t / 2)).applyPhase a t

/-- The step output of an axis is high (R224). -/
def stepHigh (s : State) (a : Fin 96) : Bool :=
  let w := 2 * s.f (TILE_STP_PULSE_STEP_W a)
  (s.tiles.get a).steps.any (fun l => decide (l ≤ s.time.mono ∧ s.time.mono < l + w))

/-- The direction output of an axis is high: up (R224). -/
def dirHigh (s : State) (a : Fin 96) : Bool :=
  let x := s.tiles.get a
  if x.dirAt ≤ s.time.mono then x.dirLine else !x.dirLine

/-- The level of an EV pin that the step generator drives (R127, R221); low where no generator does, or its axis has none. -/
def genPin (s : State) (n : Nat) : Bool :=
  let a := s.f (WHEEL_EV_CFG_AXIS n)
  if h : a < 96 then
    s.stpOut a == 2 && mTAKEOVER ≤ s.mode &&
      (if s.f (WHEEL_EV_CFG_OWNER n) = 1 then s.stepHigh ⟨a, h⟩ else s.f (WHEEL_EV_CFG_OWNER n) == 2 && s.dirHigh ⟨a, h⟩)
  else false

/-- The levels of the EV pins: those of the wheel, and those of the step generators (R127). -/
def evLevels (s : State) : Nat :=
  (List.range 16).foldl (fun (v : Nat) n =>
    v + (if (if s.f (WHEEL_EV_CFG_OWNER n) = 0 then s.flag ⟨WHEEL_EV_LVL, n, 1⟩ else s.genPin n) then 2 ^ n else 0)) 0

/-- f ≥ EST_MIN (R233). -/
def estValid (s : State) (a : Fin 96) : Bool :=
  decide ((s.f (TILE_STP_HOLD_HIGH a) : Int) * 4294967296 ≤ |(s.tiles.get a).gv|)

/-- The load angle δ in 1/256 turn (R233). -/
def loadAngle (s : State) (a : Fin 96) (p : Fin 32) : Int :=
  let v := (s.tiles.get a).gv
  let σ : Int := if v < 0 then -1 else 1
  let e := atan2turn (s.coil p true).emf (s.coil p false).emf
  let r := e - σ * 1073741824
  let d := σ * ((s.phase a % 1024) * 4194304 - r)
  signed 8 (wrapNat 8 (roundHalfEven (signed 32 (wrapNat 32 d)) 16777216))

/-- The amplitude of a tick (R234, R246). moved: X changed within the tick. -/
def nextAmp (s : State) (a : Fin 96) (moved valid : Bool) (δ : Int) : Nat :=
  let x := s.tiles.get a
  let i := s.amp a
  let step := s.f (TILE_STP_ACFG_HIGH a)
  let top := s.irun a
  let hold := s.ihold a
  let imin := s.f (TILE_STP_ACFG_LOW a)
  if s.flag (TILE_STP_CFG_SRC a) then (match x.gen with | some g => g.2.2.2 | none => i)
  else
    let j := if moved ∧ s.flag (TILE_STP_STAT_HOLDING a) then top
      else if moved ∧ !valid then (if i ≤ top then min top (i + step) else max top (i - step))
      else if moved ∧ (s.f (TILE_STP_ANG_UP a) : Int) < δ then min top (i + step)
      else if moved ∧ δ < s.f (TILE_STP_ANG_DN a) then (if i ≤ imin then i else max imin (i - step / 8))
      else if moved then i
      else if s.flag (TILE_STP_STAT_HOLDING a) then max hold (i - step)
      else i
    if x.rampUp then min (i + step) hold else max hold (min j top)

/-- The coil registers of a STEPPER tile at a tick: current, EST_VALID, δ and HOLDING (R232 to R236). -/
def showCoil (s : State) (a : Fin 96) (i : Nat) (valid : Bool) (δ : Int) (holding : Bool) : State :=
  if s.stpOut a = 1 then
    ((((s.setF (TILE_STP_CUR_I a) i).setB (TILE_STP_STAT_EST_VALID a) valid).setF (TILE_STP_STAT_DELTA a) (wrapNat 8 δ)).setB
      (TILE_STP_STAT_HOLDING a) holding)
  else s

/-- The sums of both coils of a port start anew; those of the resistance go on while the axis holds (R235). -/
def restartSums (s : State) (port : Option (Fin 32)) (holding : Bool) : State :=
  let z := fun (c : Coil) => { c with emf := 0, rSum := if holding then c.rSum else 0, rN := if holding then c.rN else 0 }
  match port with
  | some p => (s.modCoil p false z).modCoil p true z
  | none => s

/-- The step generator at a loop tick: load angle, amplitude, hold and stall timers, then the input of the new tick (R222,
R233 to R236). -/
def stpTick (s : State) (a : Fin 96) : State :=
  if s.stpOut a = 0 then s
  else
    let x := s.tiles.get a
    let t := s.time.mono
    let moved := s.stpX a != x.tickX
    let valid := s.stpOut a == 1 && s.estValid a
    let port := if s.stpOut a = 1 then s.portOf a else none
    let δ := match port with | some p => s.loadAngle a p | none => 0
    let i := s.nextAmp a moved valid δ
    let rising := x.rampUp && decide (i < s.ihold a) && !moved
    let stall := i == s.irun a && valid && decide ((s.f (TILE_STP_ANG_STALL a) : Int) ≤ δ)
    let holding := s.flag (TILE_STP_STAT_HOLDING a) && !moved
    let s1 := (s.settleLevel a (t / 2 - 1)).showCoil a i valid δ holding
    let s2 := s1.restartSums port holding
    let inp : Int × Int × Int := if s.flag (TILE_STP_CFG_SRC a) then (match x.gen with | some g => (g.1, g.2.1, g.2.2.1) | none => (x.gp, 0, 0))
      else (signed 64 (s.rd2 (TILE_PLN_POS a)), x.cv, x.ca)
    let s3 := s2.modTile a (fun x => { x with
      gp := inp.1, gv := inp.2.1, ga := inp.2.2, gAt := t, tickX := s.stpX a, stillTicks := if moved then 0 else x.stillTicks + 1
      holdTicks := if holding then x.holdTicks + 1 else 0, stallTicks := if stall then x.stallTicks + 1 else 0
      rampUp := rising })
    let s4 := s3.setB (TILE_STP_STAT_AT_REST a) (s3.atRest a ∧ !moved)
    (s4.settleLevel a (t / 2)).applyPhase a t

-- ===== calibration =====

/-- Offset calibration starts with all gate lines inactive (R220). t_CAL is 1 ms. -/
def startCal (s : State) (p : Fin 32) : State :=
  ((s.setF (PP_STAT_CAL_DONE p) 0).modPp p (fun x => { x with calEnd := some (s.time.mono + s.msCycles 1) })).gateUpdate p

/-- A fault of a port: the group of its axis is the scope (R245); gate lines follow at once. -/
def portFault (s : State) (p : Fin 32) (f : Fld) (kind cls level : Nat) (items : List CtxItem) : State :=
  if s.flag f ∨ s.ppMode p = 0 then s
  else
    ((s.hit f).gateUpdate p).raise (mkFault (0xA0 + p) kind cls level items (s.scopeOfAxis (s.f (PP_CFG_TILE p))) true)

/-- The bus voltage of a port, Q15 of VBUS_FS, where CH2 measures it (R217, R243). -/
def busQ15 (s : State) (p : Nat) : Option Int :=
  if s.flag (PP_CFG_SD2_W p) ∧ s.ppMode p = 2 then none else some (signed 16 (s.f (PP_SENSE2_LOW p)))
def busLow (s : State) (p : Nat) : Bool :=
  match s.busQ15 p with | some v => s.f (PP_LIM_UV p) != 0 && decide (v < s.f (PP_LIM_UV p) * 128) | none => false
def busHigh (s : State) (p : Nat) : Bool :=
  match s.busQ15 p with | some v => s.f (PP_LIM_OV p) != 0 && decide ((s.f (PP_LIM_OV p) : Int) * 128 < v) | none => false
/-- The bus voltage in mV, for a fault's context. -/
def busMv (s : State) (p : Nat) : Int :=
  match s.busQ15 p with | some v => roundHalfEven (v * (s.f (PP_SCALE_HIGH p) : Int) * 10) 32768 | none => 0

end State

/-- APPLIED_POSITION_STEP (R223, R226): x passes the next grid point at t, or a raw move makes its next count. -/
def execAppliedPositionStep (a : Fin 96) (t : Nat) (s : State) : Out :=
  let s0 := s.runTo t
  let m := s0.time.mono
  let x := s0.tiles.get a
  .next (if s0.stpOut a = 0 then s0
    else
      match x.rawTo with
      | some goal =>
        let pos := s0.stpX a
        let d := State.countDiff goal pos
        let made := |State.countDiff pos x.rawFrom|
        let due := decide ((made + 1) * Config.secUnits ≤ ((m - x.rawAt) * s0.cycleInc * s0.f (TILE_STP_RAWCFG_LOW a) * 256 : Nat))
        if d ≠ 0 ∧ due then s0.stepX a d.sign m else s0
      | none =>
        let s1 := s0.settleLevel a (m / 2 - 1)
        let g : Int := 2 ^ s1.level a
        let way := s1.fineAhead a m
        if g * 4294967296 ≤ way then s1.stepX a g m
        else if way ≤ -g * 4294967296 then s1.stepX a (-g) m
        else s1.settleLevel a (m / 2))

/-- RAW_MOVE (R225): judged in table order; 0 STP_OK, 1 STP_MODE, 2 STP_MOVING, 3 STP_RANGE. A segment that starts at the latch
of this cycle counts as motion (R248). -/
def execRawMove (a : Fin 96) (target : Word) (s : State) : Out :=
  let x := s.tiles.get a
  let d := State.countDiff target.toInt (s.stpX a)
  let starts := s.atTick && (s.segsDue a).any (fun (g : Segment) => g.kind != kLIMITS)
  let code :=
    if s.stpOut a = 0 ∨ !s.inMode [mCOMMISSION, mRUN] ∨ s.axisOff a ∨ x.rawTo.isSome then 1
    else if !s.atRest a ∨ x.stillTicks = 0 ∨ s.stpX a ≠ x.tickX ∨ starts then 2
    else if (s.f (TILE_STP_RAWCFG_HIGH a) : Int) * 256 < |d| then 3
    else 0
  let s1 := s.setF (TILE_STP_RES_CODE a) code
  .next (if !s.tileOpen a then s
    else if code ≠ 0 then s1
    else
      let s2 := (s1.modTile a (fun x => { x with rawTo := some target.toInt, rawFrom := s.stpX a, rawAt := s.time.mono, due := false })).setF
        (TILE_STP_STAT_RAW a) 1
      (s2.setF (TILE_STP_STAT_LEVEL a) 0).setF (TILE_STP_STAT_AT_REST a) 0)

/-- RAW_DONE (R226): the target is reached; the distance waits for the planner's next latch. -/
def execRawDone (a : Fin 96) (s : State) : Out :=
  .next (if (s.tiles.get a).rawTo = some (s.stpX a) then s.endRaw a true else s)

/-- HOLD_CURRENT (R234): at a loop tick X has not changed for HOLD_MS. -/
def execHoldCurrent (a : Fin 96) (s : State) : Out :=
  .next (if s.atTick ∧ s.stpOut a = 1 ∧ !s.flag (TILE_STP_CFG_SRC a) ∧ 16 * s.f (TILE_STP_HOLD_LOW a) ≤ (s.tiles.get a).stillTicks
      ∧ !s.flag (TILE_STP_STAT_HOLDING a) then
    (s.setF (TILE_STP_STAT_HOLDING a) 1).setF (TILE_STP_CUR_I a) (max (s.ihold a) (s.amp a - s.f (TILE_STP_ACFG_HIGH a)))
  else s)

/-- RESISTANCE_LEARN (R235): HOLDING has lasted 100 ms with I ≥ IHOLD/2; the mean of both coils goes to RLRN. -/
def execResistanceLearn (a : Fin 96) (s : State) : Out :=
  .next (match s.portOf a with
    | some p =>
      let c := s.coil p false
      let d := s.coil p true
      let n := c.rN + d.rN
      if s.atTick ∧ 1600 ≤ (s.tiles.get a).holdTicks ∧ s.ihold a ≤ 2 * s.amp a ∧ n ≠ 0 then
        let mean := if c.rN = 0 then roundHalfEven d.rSum d.rN
          else if d.rN = 0 then roundHalfEven c.rSum c.rN
          else roundHalfEven (c.rSum * d.rN + d.rSum * c.rN) (2 * c.rN * d.rN)
        let z := fun (c : Coil) => { c with rSum := 0, rN := 0 }
        (((s.setF (TILE_STP_CUR_RLRN a) (max 0 (min mean 65535)).toNat).modCoil p false z).modCoil p true z).modTile a (fun x => { x with holdTicks := 0 })
      else s
    | none => s)

/-- STP_STALL_RISK (R236): at 8 consecutive ticks I = IRUN, EST_VALID = 1 and δ ≥ DELTA_STALL. -/
def execStpStallRisk (a : Fin 96) (s : State) : Out :=
  .next (if s.atTick ∧ 8 ≤ (s.tiles.get a).stallTicks ∧ !s.flag (TILE_STP_STAT_STALL_RISK a) then
    (s.hit (TILE_STP_STAT_STALL_RISK a)).raise
      (mkFault a 0x2D cMINOR (s.f (TILE_STP_ANG_STALL_LVL a)) [.inst a, .sval (signed 8 (s.f (TILE_STP_STAT_DELTA a)))] (s.scopeOfAxis a) true)
  else s)

/-- STALL_RISK_CLEAR (R236): a W1C write; the RAW_DONE bit of the word clears as written. -/
def execStallRiskClear (a : Fin 96) (value : Word) (s : State) : Out :=
  let s1 := s.clearBits (TILE_STP_STAT a) (value &&& 0x40#32)
  .next (if !s.tileOpen a then s
    else if value.getLsbD 9 ∧ !s.hitNow (TILE_STP_STAT_STALL_RISK a) ∧ (s.tiles.get a).stallTicks < 8 then
      (s1.setF (TILE_STP_STAT_STALL_RISK a) 0).endCause a 0x2D
    else s1)

/-- PP_CAL (R220): ignored while GATES is 1. -/
def execPpCal (p : Fin 32) (s : State) : Out := 
  .next (if !s.mapOpen ∨ s.flag (PP_STAT_GATES p) ∨ s.ppMode p = 0 then s else s.startCal p)

/-- CAL_DONE (R220): t_CAL has passed; the averages of the three channels are stored. -/
def execCalDone (p : Fin 32) (ch0 ch1 ch2 : Int) (t : Nat) (s : State) : Out :=
  let s0 := s.runTo t
  .next (match (s0.pps.get p).calEnd with
    | some e =>
      if e ≤ s0.time.mono then
        ((((s0.setF (PP_CAL01_LOW p) (wrapNat 16 ch0)).setF (PP_CAL01_HIGH p) (wrapNat 16 ch1)).setF (PP_CAL2_LOW p) (wrapNat 16 ch2)).setF
          (PP_STAT_CAL_DONE p) 1).modPp p (fun x => { x with calEnd := none }) |>.gateUpdate p
      else s0
    | none => s0)

/-- t_BFF: the bridge fault input filter, 40 ns in SYS cycles (R241). -/
def bffCycles : Nat := 32

/-- PP_BRIDGE_FAULT (R241): FLT_N has stood at a level for a number of SYS cycles; accepted low, the bridge is at fault. -/
def execPpBridgeFault (p : Fin 32) (low : Bool) (stood t : Nat) (s : State) : Out :=
  let s0 := s.runTo t
  let s1 := s0.setB (PP_STAT_FLT_IN p) low
  .next (if stood < bffCycles ∨ s0.ppMode p = 0 then s0
    else if low then s1.portFault p (PP_STAT_BFLT p) 0x28 cMAJOR 2 [.inst p] else s1)

/-- A fast-filter value less the calibration offset of its channel (R220). -/
def State.fastValue (s : State) (p : Fin 32) (ch : Fin 3) (value : Int) : Int :=
  if s.flag (PP_STAT_CAL_DONE p) then
    value - signed 16 (s.f (if ch = 0 then PP_CAL01_LOW p else if ch = 1 then PP_CAL01_HIGH p else PP_CAL2_LOW p))
  else value

/-- The overcurrent check of a fast-filter value (R242). -/
def State.checkOc (s : State) (p : Fin 32) (ch : Fin 3) (v : Int) : State :=
  let current := ch.val < 2 ∨ (s.ppMode p = 2 ∧ s.flag (PP_CFG_SD2_W p))
  let s1 := s.modPp p (fun x => { x with fast := x.fast.set ch v })
  if current ∧ (s.f (PP_LIM_OC_LIM p) : Int) < |v| then s1.portFault p (PP_STAT_OC p) 0x29 cMAJOR 2 [.inst p, .inst ch] else s1

/-- PP_OVERCURRENT (R242): a fast-filter value of a current channel, before the calibration offset. -/
def execPpOvercurrent (p : Fin 32) (ch : Fin 3) (value : Int) (s : State) : Out := .next (s.checkOc p ch (s.fastValue p ch value))

/-- PP_BUS_UV (R243). -/
def execPpBusUv (p : Fin 32) (s : State) : Out :=
  .next (if s.busLow p then s.portFault p (PP_STAT_BUS_UV p) 0x2A cMINOR 1 [.inst p, .sval (s.busMv p)] else s)

/-- PP_BUS_OV (R243). -/
def execPpBusOv (p : Fin 32) (s : State) : Out :=
  .next (if s.busHigh p then s.portFault p (PP_STAT_BUS_OV p) 0x2B cMAJOR 2 [.inst p, .sval (s.busMv p)] else s)

/-- PP_SD_LOST (R244): a number of SDCK cycles without a transition on a data line. -/
def execPpSdLost (p : Fin 32) (ch : Fin 3) (cycles : Nat) (s : State) : Out :=
  .next (if s.ppMode p = 0 ∨ cycles < 64 then s else s.portFault p (PP_STAT_SD_LOST p) 0x2C cMAJOR 2 [.inst p, .inst ch])

/-- A status bit and its open cause end where the write clears it, unless the bit was set in this SYS cycle (R14). -/
def State.clearIf (s : State) (go : Bool) (f : Fld) (src kind : Nat) : State :=
  if go ∧ !s.hitNow f then (s.setF f 0).endCause src kind else s

/-- PP_FAULT_CLEAR (R241, R245): each bit clears only if its cause is gone: FLT_N high, the fast-filter magnitudes within
OC_LIM, the bus within its limits, the data lines alive. -/
def execPpFaultClear (p : Fin 32) (value : Word) (fltLow sdAlive : Bool) (s : State) : Out :=
  let above := (s.pps.get p).fast.any (fun v => decide ((s.f (PP_LIM_OC_LIM p) : Int) < |v|))
  .next (if !s.mapOpen ∨ s.ppMode p = 0 then s
    else ((((((s.clearIf (value.getLsbD 2 && !fltLow) (PP_STAT_BFLT p) (0xA0 + p) 0x28).clearIf
      (value.getLsbD 3 && !above) (PP_STAT_OC p) (0xA0 + p) 0x29).clearIf
      (value.getLsbD 4 && !s.busLow p) (PP_STAT_BUS_UV p) (0xA0 + p) 0x2A).clearIf
      (value.getLsbD 5 && !s.busHigh p) (PP_STAT_BUS_OV p) (0xA0 + p) 0x2B).clearIf
      (value.getLsbD 6 && sdAlive) (PP_STAT_SD_LOST p) (0xA0 + p) 0x2C).gateUpdate p))

/-- FAST_FILTER_SAMPLE (R219, R230, R242): a fast-filter value of a channel, before the calibration offset, at t. -/
def execFastFilterSample (p : Fin 32) (ch : Fin 3) (value : Int) (t : Nat) (s : State) : Out :=
  let s0 := s.runTo t
  let v := s0.fastValue p ch value
  let s1 := s0.checkOc p ch v
  .next (if s0.ppMode p = 1 ∧ ch.val < 2 then s1.chop p (ch == 1) v s0.time.mono else s1)

end Sys2Proof.Machine
end

