-- ==== Sys2Proof/Machine/Geometry.lean ====
section
/-! DEFINITION. The geometry of separation monitoring (R302 to R310): end points of capsules in 2^-16 mm, distances of
segments, and speeds. -/

namespace Sys2Proof

def V3.add (a b : V3) : V3 := ⟨a.x + b.x, a.y + b.y, a.z + b.z⟩
def V3.sub (a b : V3) : V3 := ⟨a.x - b.x, a.y - b.y, a.z - b.z⟩
def V3.dot (a b : V3) : Int := a.x * b.x + a.y * b.y + a.z * b.z
def V3.cross (a b : V3) : V3 := ⟨a.y * b.z - a.z * b.y, a.z * b.x - a.x * b.z, a.x * b.y - a.y * b.x⟩

/-- A vector turned by a pose. -/
def Pose.turn (p : Pose) (v : V3) : V3 :=
  ⟨p.rx.dot v / 1073741824, p.ry.dot v / 1073741824, p.rz.dot v / 1073741824⟩

/-- A point moved by a pose. -/
def Pose.apply (p : Pose) (v : V3) : V3 := (p.turn v).add p.tr

/-- First b, then a. -/
def Pose.comp (a b : Pose) : Pose :=
  let c0 : V3 := ⟨b.rx.x, b.ry.x, b.rz.x⟩
  let c1 : V3 := ⟨b.rx.y, b.ry.y, b.rz.y⟩
  let c2 : V3 := ⟨b.rx.z, b.ry.z, b.rz.z⟩
  let row := fun (r : V3) => (⟨r.dot c0 / 1073741824, r.dot c1 / 1073741824, r.dot c2 / 1073741824⟩ : V3)
  ⟨row a.rx, row a.ry, row a.rz, a.apply b.tr⟩

/-- The motion of a joint at a count: a turn about the z axis of its frame, or a shift along it (R302, R303). -/
def Joint.pose (j : Joint) (count : Int) : Pose :=
  let q := count * j.num / (max 1 j.den : Nat) + j.zero
  let one : Int := 1073741824
  if j.rotary then
    let c := sinOf 4294967296 (q + 1073741824) / one
    let n := sinOf 4294967296 q / one
    ⟨⟨c, -n, 0⟩, ⟨n, c, 0⟩, ⟨0, 0, one⟩, ⟨0, 0, 0⟩⟩
  else ⟨⟨one, 0, 0⟩, ⟨0, one, 0⟩, ⟨0, 0, one⟩, ⟨0, 0, q⟩⟩

/-- The frames of the links of an arm, the base first. -/
def linkFrames (pos : List Int) : Pose → List Joint → List Pose
  | p, [] => [p]
  | p, j :: js => p :: linkFrames pos ((p.comp (j.pose (pos.getD j.axis 0))).comp j.next) js

/-- A capsule in the cell frame: its number, end points and radius. -/
structure Placed where
  num : Nat
  p : V3
  q : V3
  r : Nat
deriving DecidableEq, Repr

/-- The capsules of an arm at the positions of a mirror set; capsule c of arm Aa has number 8a + c (R302). -/
def KineArm.placed (k : KineArm) (pos : List Int) : List Placed :=
  let fr := linkFrames pos k.base k.joints
  k.caps.mapIdx (fun i (c : Capsule) =>
    let f := fr.getD c.link k.base
    { num := 8 * k.arm + i, p := f.apply c.p, q := f.apply c.q, r := c.r })

/-- A person as a capsule of the cell frame (R304). -/
def Track.placed (t : Track) (slot : Nat) : Placed :=
  { num := slot, p := ⟨t.x * 65536, t.y * 65536, 0⟩, q := ⟨t.x * 65536, t.y * 65536, t.h * 65536⟩, r := t.r * 65536 }

/-- Square of the distance of a point from a segment. -/
def pointSeg2 (x p q : V3) : Int :=
  let d := q.sub p
  let w := x.sub p
  let t := w.dot d
  let l := d.dot d
  if t ≤ 0 then w.dot w else if l ≤ t then (x.sub q).dot (x.sub q) else w.dot w - t * t / l

/-- Square of the distance of two segments. -/
def segSeg2 (a b : Placed) : Int :=
  let d1 := a.q.sub a.p
  let d2 := b.q.sub b.p
  let r := a.p.sub b.p
  let m := min (min (pointSeg2 a.p b.p b.q) (pointSeg2 a.q b.p b.q)) (min (pointSeg2 b.p a.p a.q) (pointSeg2 b.q a.p a.q))
  let aa := d1.dot d1
  let bb := d1.dot d2
  let cc := d2.dot d2
  let det := aa * cc - bb * bb
  let sn := bb * d2.dot r - cc * d1.dot r
  let tn := aa * d2.dot r - bb * d1.dot r
  let n := d1.cross d2
  if 0 < det ∧ 0 ≤ sn ∧ sn ≤ det ∧ 0 ≤ tn ∧ tn ≤ det then min m ((r.dot n) * (r.dot n) / n.dot n) else m

/-- Distance of two capsules, not below 0, in 0.1 mm, rounded down (R309, R310). -/
def capsDist (a b : Placed) : Nat :=
  (isqrt (segSeg2 a b).toNat - (a.r + b.r)) * 10 / 65536

/-- Least distance with the capsule numbers, over pairs in the order given; the first of equals stays. -/
def leastPair : List (Placed × Placed) → Option (Nat × Nat × Nat) → Option (Nat × Nat × Nat)
  | [], m => m
  | (a, b) :: ps, m =>
    let d := capsDist a b
    leastPair ps (match m with
      | none => some (d, a.num, b.num)
      | some x => if d < x.1 then some (d, a.num, b.num) else some x)

/-- The least distance between two lists of capsules, in the pair order of a channel (R308). -/
def leastDist (descending : Bool) (as bs : List Placed) : Option (Nat × Nat × Nat) :=
  let ps := as.flatMap (fun (a : Placed) => bs.map (fun (b : Placed) => (a, b)))
  leastPair (if descending then ps.reverse else ps) none

/-- Speed of a point that has gone from p to q in a number of grid steps, mm/s, rounded up (R309, R310). -/
def pointSpeed (p q : V3) (steps : Nat) : Nat :=
  let n := ((q.sub p).dot (q.sub p)).toNat
  let r := isqrt n
  let l := if r * r = n then r else r + 1
  (l * 32000 + steps * 65536 - 1) / (steps * 65536)

/-- Greatest end-point speed of an arm between two sets of its capsules, with the capsule. -/
def armSpeed (steps : Nat) : List (Placed × Placed) → Nat × Nat
  | [] => (0, 0)
  | (a, b) :: ps =>
    let v := max (pointSpeed a.p b.p steps) (pointSpeed a.q b.q steps)
    let m := armSpeed steps ps
    if m.1 ≤ v then (v, a.num) else m

/-- Distances in 0.1 mm for a quotient of products in mm/s × μs, rounded up (R310, R314). -/
def sepTravel (n : Nat) : Nat := (n + 199999) / 200000

/-- S_ab, in 0.1 mm (R314). -/
def sepArms (p : SafSet) (a b : SafArm) (va vb : Nat) : Nat :=
  sepTravel (va * (2 * p.tr + a.ts) + vb * (2 * p.tr + b.ts)) + 10 * (a.zr + b.zr)

/-- S_ap, in 0.1 mm (R314). -/
def sepPerson (p : SafSet) (a : SafArm) (va : Nat) : Nat :=
  sepTravel (2 * p.vh * (p.tr + a.ts) + va * (2 * p.tr + a.ts)) + 10 * (p.c + p.zd + a.zr)

/-- A cap term from a numerator in mm/s × μs and twice its denominator in μs: rounded down, not below 0, 0xFFFF no limit
(R310, R317). -/
def capTerm (num : Int) (den2 : Nat) : Nat := min 65535 (2 * num / (max 1 den2 : Nat)).toNat

/-- The term of a pair of arms (R317). -/
def capArms (p : SafSet) (a b : SafArm) (d : Nat) : Nat :=
  capTerm (((d : Int) - 10 * (a.zr + b.zr)) * 100000) (2 * (2 * (p.tr + p.tslow) + a.ts))

/-- The term of an arm and its closest person (R317). -/
def capPerson (p : SafSet) (a : SafArm) (d : Nat) : Nat :=
  capTerm (((d : Int) - 10 * (p.c + p.zd + a.zr)) * 100000 - p.vh * (p.tr + p.tslow + a.ts)) (2 * (p.tr + p.tslow) + a.ts)

/-- SYS cycles in n μs of the SAFE and FIELD clocks, at their nominal rate. -/
def safeUs (n : Nat) : Nat := n * 800

/-- A period of n μs of the SAFE clock, within its tolerance of 100 ppm (t_HPCYC), has passed since an instant. -/
def safePast (since n now : Nat) : Bool := decide (since + n * 800 ≤ now + n * 800 / 10000 + 1)

/-- The same SAFE cycle of 5 ns, of 4 SYS cycles. -/
def sameSafe (a b : Nat) : Bool := a / 4 == b / 4

end Sys2Proof
end

