-- ==== Sys2Proof/Machine/Hardpan.lean ====
section
/-! DEFINITION. The Hardpan (chapters 11 and 12): STO groups, safety inputs, test pulses, safe telegrams, the sealed
configuration and separation monitoring. -/

namespace Sys2Proof.Machine

namespace State

-- ===== the parameter set in use =====

def safSet (s : State) : SafSet := s.safe.safety.sets.getD s.safe.set { code := 0 }
/-- The set, its index and its schedule id that the monitoring works under: until its first cycle after a swap notice the
old one (R66). -/
def monSet (s : State) : SafSet × Nat × Nat := s.safe.monOld.getD (s.safSet, s.safe.set, s.safe.sid)
def safGroup (s : State) (g : Nat) : SafGroup := s.safe.safety.groups.getD g {}
def safPair? (s : State) (p : Nat) : Option SafPair := s.safSet.pairs.find? (fun (x : SafPair) => x.num == p)
def safArm? (s : State) (a : Nat) : Option SafArm := s.safSet.arms.find? (fun (x : SafArm) => x.arm == a)
def safConn? (s : State) (n : Nat) : Option SafConn := s.safe.safety.conns.find? (fun (x : SafConn) => x.num == n)
def conn? (s : State) (n : Nat) : Option ConnSt := s.safe.conns.find? (fun (x : ConnSt) => x.num == n)
/-- Groups that hold an arm joint, as a mask. -/
def armGroups (s : State) : GroupMask :=
  ((List.range 4).map (fun g => if (s.safGroup g).arms = 0 then 0 else 2 ^ g)).foldl (· + ·) 0
/-- The group of an arm, if any. -/
def groupOfArm (s : State) (a : Nat) : Option (Fin 4) := (List.finRange 4).find? (fun g => (s.safGroup g).arms.testBit a)

def modSafe (s : State) (h : SafeState → SafeState) : State := { s with safe := h s.safe }
def chan (s : State) (c : Fin 2) : HChan := s.safe.chans.get c
def modChan (s : State) (c : Fin 2) (h : HChan → HChan) : State := s.modSafe (fun x => { x with chans := x.chans.modify c h })
def group (s : State) (c : Fin 2) (g : Fin 4) : GroupSt := (s.chan c).groups.get g
def modGroup (s : State) (c : Fin 2) (g : Fin 4) (h : GroupSt → GroupSt) : State :=
  s.modChan c (fun x => { x with groups := x.groups.modify g h })
def modPair (s : State) (p : Fin 32) (h : PairSt → PairSt) : State := s.modSafe (fun x => { x with pairs := x.pairs.modify p h })
def modDie (s : State) (d : Fin 2) (h : DieSt → DieSt) : State := s.modSafe (fun x => { x with dies := x.dies.modify d h })
def modConn (s : State) (n : Nat) (h : ConnSt → ConnSt) : State :=
  s.modSafe (fun x => { x with conns := x.conns.map (fun (k : ConnSt) => if k.num = n then h k else k) })

-- ===== group states (R333) =====

/-- The state of a group that the register view shows: the safer one of the two channels. -/
def shownGroup (s : State) (g : Fin 4) : Nat :=
  let a := (s.group 0 g).state
  let b := (s.group 1 g).state
  if a = b then a else if a = 0 ∨ b = 0 then 0 else if a = 3 ∨ b = 3 then 3 else 1

/-- Remaining SS1 time of a group in ms (SAFE_STO_STATg). -/
def ss1Left (s : State) (g : Fin 4) : Nat :=
  if s.shownGroup g = 3 then min 4095 (((s.group 0 g).ss1End - s.time.mono + 799999) / 800000) else 0

/-- The register view follows a group's state. -/
def showGroup (s : State) (g : Fin 4) : State := s.setF (SAFE_STO_STAT_STATE g) (s.shownGroup g)

/-- The gate lines of every port follow R215. -/
def sweepGates (s : State) : State := (List.finRange 32).foldl (fun (s : State) (p : Fin 32) => s.gateUpdate p) s

/-- The mask of arms of the groups of a scope. -/
def scopeArms (s : State) (m : GroupMask) : Nat :=
  (List.range 4).foldl (fun (v : Nat) g => if m.testBit g then v ||| (s.safGroup g).arms else v) 0

/-- Admitted items whose targets lie in a group are withdrawn: segments of HQ12, jobs of HQ10, and SEGMENT_GO descriptors
(R42, R460). -/
def withdrawGroups (s : State) (m : GroupMask) : State :=
  let arms := s.scopeArms m
  let seg := fun (i : QItem) => match i.body with | .segment g _ _ => s.axisIn m g.axis | _ => false
  let job := fun (i : QItem) => match i.body with | .job a => arms.testBit a | _ => false
  let s1 := (s.cancelItems 12 seg).cancelItems 10 job
  if s1.wheel.descs.any (fun (x : WDesc) => x.d.action == aSEGMENT_GO && s.axisIn m x.d.target) then
    s1.setDescs (s1.wheel.descs.filter (fun (x : WDesc) => !(x.d.action == aSEGMENT_GO && s.axisIn m x.d.target)))
  else s1

/-- A group has reached OFF: the gate lines of its ports go inactive (R215), and what an L2 entry of category 1 had put off
for it applies (R462). -/
def reachedOff (s : State) (g : Fin 4) : State :=
  (if s.flt.entries.any (fun (e : FltEntry) => 2 ≤ e.level && e.cat1.testBit g) then s.withdrawGroups (2 ^ g.val) else s).sweepGates

/-- A group goes to OFF in one channel: outputs off, STO telegrams (R333). -/
def offIn (s : State) (c : Fin 2) (g : Fin 4) (cause : Nat) : State :=
  if (s.group c g).state = 0 then s
  else
    let s1 := ((s.modGroup c g (fun x => { x with state := 0 })).setF (SAFE_STO_STAT_CAUSE g) cause).showGroup g
    if s.shownGroup g = 0 then s1 else s1.reachedOff g

/-- A group goes to OFF in both channels. -/
def offGroup (s : State) (g : Fin 4) (cause : Nat) : State := (s.offIn 0 g cause).offIn 1 g cause

/-- The groups of a mask go to OFF. -/
def offGroups (s : State) (m : GroupMask) (cause : Nat) : State :=
  (List.finRange 4).foldl (fun (s : State) (g : Fin 4) => if m.testBit g then s.offGroup g cause else s) s

/-- A demand of category 1: a group in STARTING or ON enters SS1, and SAFE_SS1 is raised (R339). -/
def ss1Group (s : State) (g : Fin 4) (cause pair : Nat) : State :=
  let enter := fun (s : State) (c : Fin 2) =>
    if (s.group c g).state = 1 ∨ (s.group c g).state = 2 then
      s.modGroup c g (fun x => { x with state := 3, ss1End := s.time.mono + (s.safGroup g).tss1 * 800000 })
    else s
  let s1 := enter (enter s 0) 1
  if s1.safe.chans = s.safe.chans then s
  else ((s1.setF (SAFE_STO_STAT_CAUSE g) cause).showGroup g).raise
    (mkFault (0x110 + g) 0x52 cINFO 1 [.inst g, .code pair] (2 ^ g.val))

/-- The reaction requests of the collector on the groups of a mask (R460, R462): a demand of category 1 where cat1
says so, else OFF with cause reaction. -/
def reactGroups (s : State) (m cat1 : GroupMask) : State :=
  (List.finRange 4).foldl (fun (s : State) (g : Fin 4) =>
    if !m.testBit g then s else if cat1.testBit g then s.ss1Group g 6 0x1FF else s.offGroup g 6) s

/-- Modes in which a group may permit torque (R333). -/
def torqueModes : List Nat := [mCOMMISSION, mRUN, mCHANGEOVER, mTAKEOVER]

-- ===== debug halts (R73, R543) =====

/-- A halt of a cluster or of the wheel is permitted (R73). -/
def haltAllowed (s : State) : Bool :=
  s.mode == mBARE || (s.mode == mCOMMISSION && (List.range 4).all (fun g => s.f (SAFE_STO_STAT_STATE g) == 0))

/-- SYS_MODE.HALT follows the halted targets. -/
def showHalt (s : State) : State :=
  s.setB SYS_MODE_HALT (s.flag DBG_STAT_CORES || s.flag DBG_STAT_CLUSTERS || s.flag DBG_STAT_WHEEL)

/-- A halted cluster resumes: each of its tiles has a hand-over tick (R276, R543). -/
def resumeCluster (s : State) (c : Fin 12) : State :=
  if (s.clusters.get c).halted then
    ({ s with clusters := s.clusters.modify c (fun x => { x with halted := false }),
              tiles := s.tiles.mapIdx (fun a (t : Tile) => if a / 8 = c.val then { t with lp := { t.lp with ran := none } } else t) }).setF
      ⟨DBG_STAT, 16 + c, 1⟩ 0
  else s

/-- Halted clusters and a halted wheel resume where their halt is no longer permitted (R543). -/
def releaseHalts (s : State) : State :=
  if s.haltAllowed then s
  else (((List.finRange 12).foldl (fun (s : State) c => s.resumeCluster c) s).resumeWheel).showHalt

/-- Monitoring runs (R322). -/
def ssmRuns (s : State) : Bool :=
  s.safe.loaded && s.inMode [mCOMMISSION, mRUN, mCHANGEOVER, mSAFE_HOLD, mFAULT, mTAKEOVER]

/-- A change of mode starts or ends the monitoring: it starts without an earlier mirror set, and the 250 μs of R31 count from
there (R322, R323). -/
def monitorFrom (s : State) (ran : Bool) : State :=
  if s.ssmRuns = ran then s
  else if ran then s.setF SAFE_SSM_STAT_RUN 0
  else ((s.modSafe (fun x => { x with mirrorAt := s.time.mono, mirror := none, mirrorOld := none, hpAt := none, cycled := false })).modChan 0
    (fun x => { x with first := true, taken := none })).modChan 1 (fun x => { x with first := true, taken := none })

/-- The mode changes; outside the modes of R333 every group goes to OFF with cause mode. -/
def enterMode (s : State) (m cause : Nat) (entry : Nat := 255) : State :=
  let s1 := s.setMode m cause entry
  ((if torqueModes.contains m then s1 else s1.offGroups 15 7).releaseHalts).monitorFrom s.ssmRuns

/-- In COMMISSION or RUN, L2 reactions that leave every group holding an arm joint safe-off take the device to SAFE_HOLD
(R74). -/
def safeHoldCheck (s : State) (entry : Nat) : State :=
  let held := fun (g : Nat) => s.f (SAFE_STO_STAT_STATE g) == 0 &&
    s.flt.entries.any (fun (e : FltEntry) => 2 ≤ e.level && e.scope.testBit g)
  if s.inMode [mCOMMISSION, mRUN] ∧ s.armGroups ≠ 0 ∧ (List.range 4).all (fun g => !s.armGroups.testBit g || held g) then
    s.enterMode mSAFE_HOLD 1 entry
  else s

/-- Every drive of a group has reported torque permitted since the restart (R333). -/
def drivesOn (s : State) (g : Fin 4) : Bool :=
  (s.safGroup g).conns.all (fun n => match s.conn? n with
    | some k => k.status == 0xC3 && !k.lost && decide ((s.group 0 g).startAt < k.at_) | none => false)

/-- STARTING ends in ON once every drive permits torque. -/
def startDone (s : State) (g : Fin 4) : State :=
  if s.drivesOn g then
    let go := fun (s : State) (c : Fin 2) => if (s.group c g).state = 1 then s.modGroup c g (fun x => { x with state := 2 }) else s
    (go (go s 0) 1).showGroup g
  else s

/-- A group is confirmed safe-off (R335). -/
def confirmed (s : State) (g : Fin 4) : Bool :=
  (s.group 0 g).state == 0 && (s.group 1 g).state == 0 &&
    (match s.safe.offSince.get g with | some t => t + 800000 ≤ s.time.mono | none => false) &&
    (s.safGroup g).conns.all (fun n => match s.conn? n with
      | some k => k.status == 0x3C && !k.lost && s.time.mono < k.at_ + safeUs (match s.safConn? n with | some d => d.wd | none => 0)
      | none => false)

/-- Outputs that a channel commands on: its groups not in OFF, outside off-pulses (R333, R336). -/
def commanded (s : State) (c : Fin 2) : Nat :=
  ((List.finRange 4).map (fun (g : Fin 4) =>
    if (s.group c g).state ≠ 0 ∧ !s.safe.pulses.testBit (4 * c + g) then 2 ^ g.val else 0)).foldl (· + ·) 0

-- ===== inputs (R339 to R341) =====

/-- The raw level of a safety input as the channels see it: 0 while its die's frames have failed or the input is invalid, for
VF_STATE, the barrier or RECOVER (R330, R515). -/
def rawIn (s : State) (i : Nat) : Bool :=
  let d : Fin 2 := if i < 32 then 0 else 1
  s.f FIO_STAT_VF_STATE != 2 && !(s.fio.dies.get d).lost && s.fio.recover.isNone && !(s.f SAFE_STAT_FRAME).testBit d && (s.safe.dies.get d).inputs.testBit (i % 32)

/-- The test-pulse supply of an input. -/
def supplyOf (s : State) (i : Nat) : Option (Fin 4) :=
  match s.safSet.supplies.find? (fun (x : Nat × Nat) => x.1 == i) with
  | some x => if h : x.2 < 4 then some ⟨x.2, h⟩ else none
  | none => none

/-- The level a pair is evaluated with: during its supply's pulse, and for one t_SIEVAL after, the level before it (R341). -/
def effIn (s : State) (i : Nat) : Bool :=
  match s.supplyOf i with
  | some k =>
    let p := s.safe.tps.get k
    if p.active ∨ s.time.mono < p.holdEnd then p.snap.testBit i else s.rawIn i
  | none => s.rawIn i

/-- One step of a filter: the filtered level and since when the raw level differs. -/
def filtStep (now us : Nat) (f : Bool) (since : Option Nat) (raw : Bool) : Bool × Option Nat :=
  if raw = f then (f, none)
  else match since with
    | none => if us = 0 then (raw, none) else (f, some now)
    | some t => if t + us * 800 ≤ now then (raw, none) else (f, some t)

/-- Filter and release of one pair (R339, R340). -/
def evalPair (s : State) (d : SafPair) (p : PairSt) : PairSt :=
  let now := s.time.mono
  let a := filtStep now d.filt p.f1 p.s1 (s.effIn d.in1)
  let b := filtStep now d.filt p.f2 p.s2 (s.effIn d.in2)
  let run : Bool := a.1 && (b.1 != d.antiv)
  let dem : Bool := !a.1 && (b.1 == d.antiv)
  let shown := p.held && (p.shown || dem)
  let held := p.held && !(run && p.shown && (!p.short || 2 ≤ p.clean))
  { p with f1 := a.1, f2 := b.1, s1 := a.2, s2 := b.2,
           disc := if run || dem then none else some (p.disc.getD now),
           held := held, short := held && p.short, shown := held && shown, released := run && !held }

/-- A pair is released and free of faults. -/
def pairOk (s : State) (p : Nat) : Bool := (s.rdN SAFE_SI_REL).testBit p

/-- The supplies on which an input's short holds its pair (SAFE_TP_STAT.SHORT). -/
def shorted (s : State) : Nat :=
  s.safe.pairs.items.foldl (fun (m : Nat) (x : PairSt) => if x.held && x.short then m ||| 2 ^ (x.shortOn % 4) else m) 0

/-- A pair's bit in SAFE_SI_REL and SAFE_SI_FLT, the supplies with a short, and the CAUSE of its fault entries (R466). -/
def showPair (s : State) (p : Fin 32) : State :=
  let x := s.safe.pairs.get p
  let s1 := ((s.setB ⟨SAFE_SI_REL, p, 1⟩ x.released).setB ⟨SAFE_SI_FLT, p, 1⟩ x.held).setF SAFE_TP_STAT_SHORT s.shorted
  if x.held then s1 else (s1.endCause (0x120 + p) 0x48).endCause (0x120 + p) 0x49

/-- The groups for which a pair has a category, and those with category 1 (R339, R462). -/
def pairScope (d : SafPair) (cat : Nat → Bool) : GroupMask :=
  ((List.range 4).map (fun g => if cat (d.cats.getD g 2) then 2 ^ g else 0)).foldl (· + ·) 0

/-- A fault of a pair: it is held at demand and the message's reaction acts by the pair's categories (R340, R341, R462). -/
def pairFault (s : State) (p : Fin 32) (d : SafPair) (short : Bool) (m : FaultMsg) : State :=
  let s1 := (s.modPair p (fun x => { x with held := true, short := short, shown := false, clean := 0, released := false }))
  (s1.setB ⟨SAFE_SI_REL, p, 1⟩ false).setB ⟨SAFE_SI_FLT, p, 1⟩ true
    |>.raise { m with scope := pairScope d (· < 2), cat1 := pairScope d (· == 1), cond := true }

-- ===== doors, as the Hardpan sees them (R351 to R353) =====

/-- Door d is closed and locked (R352). -/
def closedLocked (s : State) (d : Fin 8) : Bool :=
  s.pairOk (s.f (DOOR_CFG_PAIR d)) && s.rawIn (s.f (DOOR_CFG_CONF_IN d)) && s.safe.lockset.testBit d

def doorHere (s : State) (d : Nat) : Bool := (s.f DOOR_STAT_PRESENT).testBit d

/-- Doors interlocked with a group are closed and locked (condition 10 of R334). -/
def doorsShut (s : State) (g : Fin 4) : Bool :=
  (List.finRange 8).all (fun d => !s.doorHere d || !(s.f (DOOR_CFG_GROUPS d)).testBit g || s.closedLocked d)

/-- The door whose closed-position pair this is. -/
def doorOfPair (s : State) (p : Nat) : Option (Fin 8) :=
  (List.finRange 8).find? (fun d => s.doorHere d && s.f (DOOR_CFG_PAIR d) == p)

/-- Each channel's unlock permits: the door requests it and every group in GROUPS is confirmed safe-off (R351). The permit
in force is the AND of both; its withdrawal starts t_LOCKSET (R352). -/
def judgePermits (s : State) : State :=
  (List.finRange 8).foldl (fun (s : State) (d : Fin 8) =>
    let ok := s.doorHere d && (s.doors.get d).request &&
      (List.finRange 4).all (fun g => !(s.f (DOOR_CFG_GROUPS d)).testBit g || s.confirmed g)
    let old := (s.f DOOR_STAT_PERMIT).testBit d
    let put := fun (m : Nat) => if ok then m ||| 2 ^ d.val else m &&& (255 - 2 ^ d.val)
    let s1 := ((s.modChan 0 (fun x => { x with permits := put x.permits })).modChan 1 (fun x => { x with permits := put x.permits })).setB
      ⟨DOOR_STAT, 16 + d.val, 1⟩ ok
    if ok then s1.modSafe (fun x => { x with withdrawn := x.withdrawn.set d none, lockset := x.lockset &&& (255 - 2 ^ d.val) })
    else if old then s1.modSafe (fun x => { x with withdrawn := x.withdrawn.set d (some s.time.mono) })
    else s1) s

/-- A restart accepted in the SAFE cycle of a demand: the demand prevails, and the request is refused with its condition, a
bit of COND (R346). -/
def turnBack (s : State) (g : Fin 4) (bit : Nat) : State :=
  if ((s.group 0 g).state = 1 ∨ (s.group 0 g).state = 2) ∧ sameSafe (s.group 0 g).startAt s.time.mono then
    let off := fun (x : GroupSt) => { x with state := 0 }
    (((s.modGroup 0 g off).modGroup 1 g off).showGroup g |>.setF (SAFE_STO_STAT_COND g) (s.f (SAFE_STO_STAT_COND g) ||| 2 ^ bit)).hit
      (SAFE_STO_STAT_REQ_REFUSED g)
  else s

/-- What a door's inputs do to a group in STARTING, ON or SS1 (R353). -/
def doorDemands (s : State) : State :=
  (List.finRange 8).foldl (fun (s : State) (d : Fin 8) =>
    let live := (List.finRange 4).filter (fun (g : Fin 4) => (s.f (DOOR_CFG_GROUPS d)).testBit g && s.shownGroup g != 0)
    if s.doorHere d ∧ !s.rawIn (s.f (DOOR_CFG_CONF_IN d)) ∧ live ≠ [] then
      (live.foldl (fun (s : State) g => (s.turnBack g 2).offGroup g 3) s).raise
        (mkFault (0xE0 + d) 0x5B cCRITICAL 2 [.inst d] (s.f (DOOR_CFG_GROUPS d)))
    else s) s

-- ===== restart (R334) =====

/-- The present switch code matches the set in use (R342, R344). -/
def stableCode (s : State) (c : Fin 2) : Option Nat :=
  match (s.chan c).codes with
  | [a, b, d] => if a = b ∧ b = d then some a else none
  | _ => none

/-- Unmet conditions of a restart: bits 8 to 15 of COND as bits 0 to 7, and XCOND (R334). -/
def unmet (s : State) (g : Fin 4) (now : Nat) : Nat × Nat :=
  let gd := s.safGroup g
  let ok : List Bool :=
    [((s.chan 0).viol ||| (s.chan 1).viol) &&& gd.arms == 0,
     s.safSet.pairs.all (fun (d : SafPair) => 2 ≤ d.cats.getD g 2 || s.pairOk d.num),
     s.doorsShut g,
     gd.conns.all (fun n => match s.conn? n with | some k => k.seq.isSome && !k.lost | none => false),
     s.stableCode 0 == some s.safe.code && s.stableCode 1 == some s.safe.code,
     s.inMode [mCOMMISSION, mRUN, mCHANGEOVER],
     gd.restart == 0 || (match s.safe.fall.get g with | some t => now ≤ t + 1600000000 | none => false),
     (s.group 0 g).state == (s.group 1 g).state]
  let stuck := s.flag (SAFE_STO_STAT_STUCK_A g) || s.flag (SAFE_STO_STAT_STUCK_B g)
  let reaction := s.flt.entries.any (fun (e : FltEntry) => 2 ≤ e.level && (3 ≤ e.level || e.scope.testBit g))
  (((ok.mapIdx (fun i (b : Bool) => if b then 0 else 2 ^ i)).foldl (· + ·) 0), b2n stuck + 2 * b2n reaction)

/-- A restart request for a group in OFF is accepted or refused (R334). -/
def restart (s : State) (g : Fin 4) : State :=
  if !(s.safGroup g).used ∨ s.shownGroup g ≠ 0 ∨ (s.group 0 g).state ≠ 0 ∨ (s.group 1 g).state ≠ 0 then s
  else
    let u := s.unmet g s.time.mono
    let s1 := (s.setF (SAFE_STO_STAT_COND g) u.1).wrN (SAFE_STO_XCOND g) u.2
    if u.1 = 0 ∧ u.2 = 0 then
      let st := fun (x : GroupSt) => { x with state := 1, startEnd := s.time.mono + (s.safGroup g).tstart * 800000, startAt := s.time.mono }
      ((((s1.modGroup 0 g st).modGroup 1 g st).showGroup g).startDone g).releaseHalts
    else s1.hit (SAFE_STO_STAT_REQ_REFUSED g)

-- ===== sealed configuration (R342 to R344) =====

/-- A swap is armed, before its notice (R62). -/
def swapArmed (s : State) : Bool := s.f CFG_STAT_LDR == 5

/-- CODE is that of a set of the shadow image. -/
def shadowHas (s : State) (code : Nat) : Bool :=
  match s.cfg.shadow with | some i => i.st.safety.sets.any (fun (x : SafSet) => x.code == code) | none => false

/-- SAFECFG_CHANGED: every group goes to OFF (R344, R347). -/
def cfgChanged (s : State) (code : Nat) : State :=
  ((s.setF SAFE_STAT_CFG_CHANGED 1).offGroups 15 10).raise (mkFault 0x150 0x50 cCRITICAL 3 [.val s.safe.code, .val code])

/-- A stable code of a channel is judged against the code in use (R344). -/
def judgeCode (s : State) (code : Nat) : State :=
  if !s.safe.loaded ∨ code = s.safe.code then s
  else if s.swapArmed ∧ s.shadowHas code then
    s.modSafe (fun x => { x with pend := some code, pendAt := s.time.mono, pendWas := if sameSafe x.pendAt s.time.mono then x.pendWas else x.pend })
  else s.cfgChanged code

/-- An armed swap is abandoned: a pending code that differs from the code in use raises SAFECFG_CHANGED at once (R344). -/
def dropPending (s : State) : State :=
  match s.safe.pend with
  | some c => let s1 := s.modSafe (fun x => { x with pend := none })
              if c = s.safe.code then s1 else s1.cfgChanged c
  | none => s

/-- The present switch code (R342). -/
def presentCode (s : State) : Option Nat := if s.stableCode 0 = s.stableCode 1 then s.stableCode 0 else none

/-- A source's or a connection's number keeps its state across a swap notice where its definition stays; else it starts
anew. -/
def keptSources (s : State) (new : SafSet) : Bank 8 SrcSt :=
  s.safe.sources.mapIdx (fun n (x : SrcSt) =>
    if s.safSet.sources.find? (fun (y : ScanSrc) => y.num == n) = new.sources.find? (fun (y : ScanSrc) => y.num == n) then x else {})

/-- The Hardpan takes an image's SAFETY and KINE with the set of an index (R344): sources and connections start anew where
they are new. Supplies that were not in use start their periods with it, the others keep them (R585). V_PATH of the arms is
shown. -/
def useSafety (s : State) (i : Image) (idx : Nat) : State :=
  let set := i.st.safety.sets.getD idx { code := 0 }
  let conns := i.st.safety.conns.map (fun (d : SafConn) =>
    match s.safe.conns.find? (fun (k : ConnSt) => k.num == d.num), s.safConn? d.num with
    | some k, some o => if o = d then k else { num := d.num, at_ := s.time.mono }
    | _, _ => { num := d.num, at_ := s.time.mono })
  let used := fun (x : SafSet) (k : Nat) => x.supplies.any (fun (y : Nat × Nat) => y.2 == k)
  let tps := s.safe.tps.mapIdx (fun k (x : TpSt) =>
    if s.safe.loaded ∧ used s.safSet k then x else { x with next := s.time.mono + safeUs (k * set.ttp / 4) })
  let s1 := s.modSafe (fun x => { x with safety := i.st.safety, kine := i.st.kine, sid := i.sid, loaded := true, set := idx,
                                         code := set.code, pend := none, conns := conns, sources := s.keptSources set, tps := tps })
  let s2 := (List.range 12).foldl (fun (u : State) c => u.setF (CL_PSO_VPATH_V_PATH c)
    (match set.arms.find? (fun (x : SafArm) => x.arm == c) with | some p => p.vpath | none => 0)) s1
  (s2.setF SAFE_CFG_CODE_SET idx).setF SAFE_SSM_STAT_SET idx
    |>.setF SAFE_SSM_SCAN_PRESENT ((set.sources.map (fun (x : ScanSrc) => 2 ^ x.num)).foldl (· + ·) 0)

/-- The swap notice (R66, R344, R346): the set of the new image by the pending code, or by the code in use, as they stood
before this SAFE cycle; a code that became stable in it is then judged. The monitoring keeps the old set until its next
cycle. -/
def takeNotice (s : State) (i : Image) : State :=
  let now := s.safe.pend.isSome && sameSafe s.safe.pendAt s.time.mono
  let code := (if now then s.safe.pendWas else s.safe.pend).getD s.safe.code
  match i.st.safety.sets.findIdx? (fun (x : SafSet) => x.code == code) with
  | none => s
  | some k =>
    let s1 := (s.useSafety i k).modSafe (fun x => { x with monOld := some s.monSet })
    match s.safe.pend with
    | some c => if now then s1.judgeCode c else s1
    | none => s1

/-- The index of the set of an image whose CODE is a code. -/
def setIdx? (st : Structure) (code : Nat) : Option Nat :=
  let i := st.safety.sets.findIdx (fun (x : SafSet) => x.code == code)
  if i < st.safety.sets.length then some i else none

-- ===== safe telegrams (R337, R338) =====

/-- The bytes of a safe telegram. -/
def telegram (sid conn seq : Nat) (payload : List Byte) : List Byte :=
  let h := natLE 2 conn ++ natLE 2 payload.length ++ natLE 4 seq ++ payload
  h ++ natLE 4 (crc32 (natLE 4 sid ++ h))

/-- What a channel's telegram for an STO connection commands: RUN only while it holds the group in STARTING or ON. -/
def runCmd (s : State) (c : Fin 2) (d : SafConn) : Bool :=
  if h : d.group < 4 then (s.group c ⟨d.group, h⟩).state == 1 || (s.group c ⟨d.group, h⟩).state == 2 else false

/-- The telegram of an STO connection for a ring cycle (R338, R346): each channel builds its own, with its own SEQ; RUN only if
both command it and both are the same. Two channels with different SEQ raise SAFE_XCMP. -/
def txTelegram (s : State) (d : SafConn) : List Byte × State :=
  let k := (s.conn? d.num).getD { num := d.num }
  let a := (k.txSeq + 1) % 4294967296
  let b := (k.txSeqB + 1) % 4294967296
  let build := fun (seq : Nat) (run : Bool) =>
    telegram s.safe.sid d.num seq (natLE 1 (if run then 0xC3 else 0x3C) ++ natLE 1 d.group ++ natLE 2 (s.f (SAFE_STO_STAT_CAUSE d.group))
      ++ List.replicate (d.len - 4) 0)
  let s1 := s.modConn d.num (fun x => { x with txSeq := a, txSeqB := b })
  let run := s.runCmd 0 d && s.runCmd 1 d && build a true == build b true
  (build a run, if a = b then s1 else ((s1.setF SAFE_STAT_XCMP 1).offGroups 15 11).raise
    (mkFault 0x150 0x4E cCRITICAL 3 [altCode 0x4E 2, .inst d.num]))

/-- A scanner payload, if valid (R306, R307): FIELD_OK and the tracks. -/
def scanPayload (count : Nat) (p : List Byte) : Option (Bool × List Track) :=
  let n := leNat (p.take 1)
  let tracks := (List.range n).map (fun i =>
    let q := p.drop (4 + 8 * i)
    (⟨signed 16 (leNat (q.take 2)), signed 16 (leNat ((q.drop 2).take 2)), leNat ((q.drop 4).take 2), leNat ((q.drop 6).take 2)⟩ : Track))
  if n ≤ count ∧ 4 + 8 * n ≤ p.length ∧ tracks.all (fun (t : Track) => 1 ≤ t.r && t.r ≤ 2000 && 1 ≤ t.h && t.h ≤ 3000) then
    some ((leNat ((p.drop 1).take 1)).testBit 0, tracks)
  else none

/-- The source that reports a connection (R455): the scanner source, or the group. -/
def connSource (s : State) (d : SafConn) : Nat :=
  match s.safSet.sources.find? (fun (x : ScanSrc) => x.conn == d.num) with | some x => 0x140 + x.num | none => 0x110 + d.group

/-- A valid payload of a source becomes available to both channels. -/
def putScan (s : State) (n : Fin 8) (v : Bool × List Track) : State :=
  s.modSafe (fun x => { x with sources := x.sources.modify n (fun y =>
    { y with new := some ⟨s.time.mono, v.1, v.2⟩,
             old := match y.new with | some p => if sameSafe p.at_ s.time.mono then y.old else some p | none => y.old }) })

/-- An accepted telegram acts on its connection (R333, R338, R346). -/
def takeTelegram (s : State) (d : SafConn) (seq : Nat) (p : List Byte) : State :=
  let s1 := (s.modConn d.num (fun x => { x with seq := some seq, at_ := s.time.mono, lost := false,
                                                status := if d.sto then leNat (p.take 1) else x.status })).setB
      ⟨SAFE_CONN_LOST (d.num / 32), d.num % 32, 1⟩ false
  let s2 := s1.endCause (s.connSource d) 0x4B
  if d.sto then
    if h : d.group < 4 then
      let g : Fin 4 := ⟨d.group, h⟩
      if leNat (p.take 1) = 0x3C ∧ s2.shownGroup g = 2 then s2.offGroup g 8 else s2.startDone g
    else s2
  else
    match s.safSet.sources.find? (fun (x : ScanSrc) => x.conn == d.num) with
    | some src =>
      (match scanPayload src.count p with
      | some v => if h : src.num < 8 then s2.putScan ⟨src.num, h⟩ v else s2
      | none => s2)
    | none => s2

/-- A telegram's bytes at both channels, checked under the schedule id in use (R337, R338). -/
def rxTelegram (s : State) (bytes : List Byte) : State :=
  let conn := leNat (bytes.take 2)
  let len := leNat ((bytes.drop 2).take 2)
  let seq := leNat ((bytes.drop 4).take 4)
  let pay := (bytes.drop 8).take len
  let crcOk : Bool := bytes.length == 12 + len &&
    leNat ((bytes.drop (8 + len)).take 4) == crc32 (natLE 4 s.safe.sid ++ bytes.take (8 + len))
  match s.safConn? conn with
  | some d =>
    let k := (s.conn? conn).getD { num := conn }
    let inStep : Bool := match k.seq with
      | some q => k.lost || (let n := (seq + 4294967296 - q) % 4294967296; 1 ≤ n && n ≤ 3)
      | none => true
    let status := leNat (pay.take 1)
    let valid : Bool := !d.sto || status == 0xC3 || status == 0x3C
    if crcOk ∧ len = d.len ∧ inStep ∧ valid then s.takeTelegram d seq pay else s.bump SAFE_CNT_TG
  | none => s.bump SAFE_CNT_TG

-- ===== separation monitoring =====

/-- The occupied person slots (R307): those of the payloads taken; a lost source's are empty (R325). -/
def persons (s : State) : List Placed :=
  s.safSet.sources.flatMap (fun (src : ScanSrc) => match s.safe.sources.get? src.num with
    | some x => if x.lost then [] else (match x.cur with | some p => p.tracks.mapIdx (fun i (t : Track) => t.placed (src.first + i)) | none => [])
    | none => [])

/-- A channel's distance: within 0.2 mm of the exact one (R310); the difference is a free value. -/
def chanDist (s : State) (c : Fin 2) (key d : Nat) : Nat :=
  d + Config.distRound c (s.free * 65536 + key) % 4 - 1

/-- The smallest entry by a key, the first of equals. -/
def leastOf {α : Type} (key : α → Nat) : List α → Option α
  | [] => none
  | x :: xs => match leastOf key xs with
    | some y => if key y < key x then some y else some x
    | none => some x

/-- Sources whose coverage mask holds an arm and that are lost. -/
def coverLost (s : State) (a : Nat) : Bool :=
  s.safSet.sources.any (fun (x : ScanSrc) => x.cover.testBit a &&
    (match s.safe.sources.get? x.num with | some y => y.lost | none => false))

/-- The speed of an arm in a channel's cycle, with the capsule (R309, R311, R323). -/
def chanSpeed (h : HChan) (k : KineArm) (p : SafArm) (m : Mirror) : Nat × Nat :=
  if h.first then (p.vpath, 127)
  else match h.taken with
    | some old =>
      if old.seq = m.seq then ((h.res.getD k.arm {}).v, 127)
      else
        let steps := max 1 ((m.step + 32000 - old.step) % 32000)
        armSpeed steps ((k.placed old.pos).zip (k.placed m.pos))
    | none => (p.vpath, 127)

/-- Results of every arm in one channel (R309 to R317). -/
def chanResults (s : State) (c : Fin 2) (m : Mirror) : List ArmRes :=
  let h := s.chan c
  let ps := s.safSet
  let desc : Bool := c == 1
  let mon := s.safe.kine.filterMap (fun (k : KineArm) => (s.safArm? k.arm).map (fun p => (k, p, k.placed m.pos, (chanSpeed h k p m).1)))
  let people := s.persons
  (List.range 12).map (fun a =>
    match mon.find? (fun (x : KineArm × SafArm × List Placed × Nat) => x.1.arm == a) with
    | none => { cap := 65535 }
    | some (_, p, caps, v) =>
      let others := mon.filterMap (fun (y : KineArm × SafArm × List Placed × Nat) =>
        if y.1.arm = a then none else
          (leastDist desc caps y.2.2.1).map (fun d =>
            let lo := min a y.1.arm
            let hi := max a y.1.arm
            let dd := s.chanDist c (lo * 64 + hi) d.1
            (dd, d.2.1 % 8, d.2.2, capArms ps p y.2.1 dd, sepArms ps p y.2.1 v y.2.2.2, sepArms ps p y.2.1 0 y.2.2.2)))
      let bind := leastOf (fun (x : Nat × Nat × Nat × Nat × Nat × Nat) => x.2.2.2.1) others
      let dmin := (others.map (fun (x : Nat × Nat × Nat × Nat × Nat × Nat) => x.1)).foldl min 65535
      let person := (leastDist desc caps people).map (fun d => (s.chanDist c (1024 * 16 + a) d.1, d.2.1 % 8, d.2.2))
      let sap := sepPerson ps p v
      let plaus : Bool := !h.first && decide (p.vplaus < v)
      let lost := s.coverLost a
      let viol : Bool := others.any (fun (x : Nat × Nat × Nat × Nat × Nat × Nat) => x.1 < x.2.2.2.2.1)
        || (match person with | some x => decide (x.1 < sap) | none => false) || lost || plaus
      let cap := min (match bind with | some x => x.2.2.2.1 | none => 65535)
        (match person with | some x => capPerson ps p x.1 | none => 65535)
      { dmin := dmin, d := (bind.map (fun x => x.1)).getD 65535, partner := (bind.map (fun x => x.2.2.1)).getD 127,
        own := (bind.map (fun x => x.2.1)).getD 0, sab := (bind.map (fun x => x.2.2.2.2.1)).getD 0,
        dp := (person.map (fun x => x.1)).getD 65535, slot := (person.map (fun x => x.2.2)).getD 127,
        pown := (person.map (fun x => x.2.1)).getD 0, sap := sap, v := v,
        cap := if viol || h.first then 0 else cap, viol := viol,
        clear := others.all (fun (x : Nat × Nat × Nat × Nat × Nat × Nat) => x.2.2.2.2.2 + 10 * ps.drst ≤ x.1)
          && (match person with | some x => decide (sepPerson ps p 0 + 10 * ps.drst ≤ x.1) | none => true) && !lost })

/-- Arms in violation whose latch in a channel is new. -/
def newViols (old : Nat) (res : List ArmRes) : List Nat :=
  (List.range 12).filter (fun a => (res.getD a {}).viol && !old.testBit a)

/-- The register view of the latches (R315, R316). -/
def showViol (s : State) : State := s.setF SAFE_SSM_VIOL_VIOL ((s.chan 0).viol ||| (s.chan 1).viol)

/-- One channel's cycle: results, latches, and torque removed at once from the groups of arms newly in violation (R315). -/
def chanCycle (s : State) (c : Fin 2) (m : Mirror) : State :=
  let h := s.chan c
  let res := s.chanResults c m
  let fresh := newViols h.viol res
  let clear := (List.range 12).map (fun a => if h.viol.testBit a ∧ (res.getD a {}).clear then h.clear.getD a 0 + 1 else 0)
  let s1 := s.modChan c (fun x => { x with res := res, clear := clear, taken := some m, first := false,
                                           viol := x.viol ||| (fresh.map (fun a => 2 ^ a)).foldl (· + ·) 0 })
  (fresh.foldl (fun (s : State) a => match s.groupOfArm a with | some g => (s.turnBack g 0).offIn c g 2 | none => s) s1).showViol

/-- The violation messages of a cycle, one an arm whose latch is new in either channel (R315, R326). -/
def violMsgs (s : State) (old : Nat) : State :=
  (List.range 12).foldl (fun (s : State) a =>
    if s.safe.loaded ∧ (s.f SAFE_SSM_VIOL_VIOL).testBit a ∧ !old.testBit a then
      let r := if ((s.chan 0).viol).testBit a then (s.chan 0).res.getD a {} else (s.chan 1).res.getD a {}
      let byArm : Bool := decide (r.d < r.sab)
      (s.bump SAFE_SSM_CNT_VIOL).raise (mkFault (0x100 + a) 0x40 cCRITICAL 2
        [.inst a, altCode 0x40 (if byArm then 0 else 1), .inst (if byArm then r.partner else r.slot),
         .val (if byArm then r.d else r.dp), .val (if byArm then r.sab else r.sap)]
        (match s.groupOfArm a with | some g => 2 ^ g.val | none => 15))
    else s) s

/-- Arms whose end points are implausibly fast (R311). -/
def plausMsgs (s : State) (m : Mirror) : State :=
  s.safe.kine.foldl (fun (s1 : State) (k : KineArm) =>
    match s.safArm? k.arm with
    | some p =>
      let v := chanSpeed (s.chan 0) k p m
      if !(s.chan 0).first ∧ v.2 ≠ 127 ∧ p.vplaus < v.1 then
        s1.raise (mkFault (0x100 + k.arm) 0x41 cCRITICAL 2 [.inst k.arm, .inst (v.2 % 8), .val v.1]
          (match s.groupOfArm k.arm with | some g => 2 ^ g.val | none => 15))
      else s1
    | none => s1) s

/-- A source is lost: SSM_SCAN_LOST, once until it delivers again (R307). -/
def scanLost (s : State) (src : ScanSrc) : State :=
  if h : src.num < 8 then
    if (s.safe.sources.get ⟨src.num, h⟩).lost then s
    else
      let scope := ((List.finRange 4).map (fun (g : Fin 4) =>
        if (s.safGroup g).arms &&& src.cover = 0 then 0 else 2 ^ g.val)).foldl (· + ·) 0
      ((s.modSafe (fun x => { x with sources := x.sources.modify ⟨src.num, h⟩ (fun y => { y with lost := true }) })).setB
        ⟨SAFE_SSM_SCAN, 8 + src.num, 1⟩ true).raise (mkFault (0x140 + src.num) 0x42 cMAJOR 2 [.inst src.num] scope true)
  else s

/-- The newest valid payload that a channel has at a cycle start: one that came in this SAFE cycle is for the next (R26,
R325). -/
def srcTake (x : SrcSt) (now : Nat) : Option ScanPay :=
  match x.new with | some p => if sameSafe p.at_ now then x.old else some p | none => none

/-- A source is lost (R307): no valid payload for WD, or the newest with FIELD_OK = 0. -/
def srcGone (src : ScanSrc) (p : Option ScanPay) (now : Nat) : Bool :=
  match p with | some p => !p.ok || decide (p.at_ + src.wd * 800000 ≤ now) | none => true

/-- Every source's newest payload is taken (R307, R309). -/
def takePayloads (s : State) : State :=
  s.modSafe (fun x => { x with sources := x.sources.map (fun (y : SrcSt) => { y with cur := srcTake y s.time.mono }) })

/-- The sources at a cycle start: lost, or back (R307). -/
def judgeSources (s : State) : State :=
  s.safSet.sources.foldl (fun (s : State) (src : ScanSrc) =>
    if h : src.num < 8 then
      let x := s.safe.sources.get ⟨src.num, h⟩
      if srcGone src x.cur s.time.mono then s.scanLost src
      else if x.lost then
        ((s.modSafe (fun y => { y with sources := y.sources.modify ⟨src.num, h⟩ (fun z => { z with lost := false }) })).setB
          ⟨SAFE_SSM_SCAN, 8 + src.num, 1⟩ false).endCause (0x140 + src.num) 0x42
      else s
    else s) s

/-- The person slots of the register view. -/
def showPersons (s : State) : State :=
  let clear := (List.range 32).foldl (fun (s : State) k => (s.wrN (SAFE_SSM_PRS_XY k) 0).wrN (SAFE_SSM_PRS_RH k) 0) s
  s.persons.foldl (fun (s : State) (p : Placed) =>
    (s.wrN (SAFE_SSM_PRS_XY p.num) (wrapNat 16 (p.p.x / 65536) + 65536 * wrapNat 16 (p.p.y / 65536))).wrN
      (SAFE_SSM_PRS_RH p.num) (p.r / 65536 + 65536 * (p.q.z / 65536).toNat + 1073741824)) clear

/-- Larger and smaller of two numbers, apart. -/
def apart (a b : Nat) : Nat := max a b - min a b

/-- The largest distance difference of the last cycle, the arm of it, and whether the cycle disagrees (R320). -/
def crossCheck (s : State) : Nat × Nat × Bool :=
  let ps := s.monSet.1
  (List.range 12).foldl (fun (m : Nat × Nat × Bool) a =>
    let x := (s.chan 0).res.getD a {}
    let y := (s.chan 1).res.getD a {}
    let d := max (apart x.dmin y.dmin) (apart x.dp y.dp)
    (max m.1 d, if m.1 < d then a else m.2.1,
     m.2.2 || decide (ps.told < d) || decide (ps.tolv < apart x.v y.v))) (0, 0, false)

/-- An arm belongs to a group in SS1. -/
def armInSs1 (s : State) (a : Nat) : Bool :=
  match s.groupOfArm a with | some g => (s.group 0 g).state == 3 || (s.group 1 g).state == 3 | none => false

/-- The cap set of the last cycle (R318, R339), of the set and the structure that it was computed under (R66). -/
def capSet (s : State) : CapSet :=
  { seq := s.safe.capSeq, set := s.monSet.2.1, sid := s.monSet.2.2,
    caps := (List.range 12).map (fun a =>
      if s.armInSs1 a then 0 else min ((s.chan 0).res.getD a {}).cap ((s.chan 1).res.getD a {}).cap),
    viol := (s.chan 0).viol ||| (s.chan 1).viol }

/-- The register view of an arm's results. -/
def showArm (s : State) (a : Nat) (cap : Nat) : State :=
  let r := (s.chan 0).res.getD a {}
  let pack := fun (d p o : Nat) => min d 65535 + 65536 * (p % 128) + 8388608 * (o % 8)
  (((s.wrN (SAFE_SSM_ARM_A a) (pack r.d r.partner r.own)).wrN (SAFE_SSM_ARM_P a) (pack r.dp r.slot r.pown)).wrN
    (SAFE_SSM_ARM_V a) (min r.v 65535 + 65536 * cap)).wrN (SAFE_SSM_ARM_SP a) (min r.sab 65535 + 65536 * min r.sap 65535)

-- ===== caps at the millisecond-frame boundary (R319) =====

/-- The cap factor of a cluster from a cap set. -/
def capFactor (s : State) (k : CapSet) (c : Nat) : Nat :=
  if k.sid ≠ (match s.cfg.run with | some i => i.sid | none => 0) then 0
  else min 65536 (k.caps.getD c 65535 * 65536 / max 1 (s.f (CL_PSO_VPATH_V_PATH c)))

/-- The set that a boundary takes (R25, R26): one published in this LOOP cycle is for the next boundary (R40). -/
def capsNow (s : State) : Option CapSet := if s.safe.capsAt / 2 = s.time.mono / 2 then s.safe.capsOld else s.safe.caps

/-- A cap set is published (R25, R318). -/
def putCaps (s : State) (k : CapSet) : State :=
  s.modSafe (fun x => { x with caps := some k, capsAt := s.time.mono,
                               capsOld := if x.capsAt / 2 = s.time.mono / 2 then x.capsOld else x.caps })

/-- One cap set is taken at the boundary (R32, R319). -/
def takeCaps (s : State) : State :=
  match s.capsNow with
  | none => s
  | some k =>
    let same := if (s.safe.taken.map (fun (x : CapSet) => x.seq)) = some k.seq then s.safe.same + 1 else 1
    let stale : Bool := 3 ≤ same
    let foreign : Bool := k.sid != (match s.cfg.run with | some i => i.sid | none => 0)
    (List.range 12).foldl (fun (s1 : State) c =>
      if s1.f (CL_PSO_VPATH_V_PATH c) = 0 then s1
      else ((s1.setF (CL_PSO_CAP_S_CAP c) (if stale then 0 else s.capFactor k c)).setB (CL_PSO_CAP_STALE c) stale).setB
        (CL_PSO_CAP_FOREIGN c) foreign)
      (s.modSafe (fun x => { x with taken := some k, same := same, staleTold := stale && x.staleTold }))

/-- A mirror set is published with the latched positions (R31). -/
def publishMirror (s : State) (bad : Bool) : State :=
  let seq := (s.safe.mirrorSeq + 1) % 65536
  let s1 := s.modSafe (fun x => { x with mirrorSeq := seq })
  if bad then s1
  else
    let m : Mirror := { seq := seq, step := Instant.ns s.time.now / 31250, pos := (List.range 96).map (fun a => s.rdI (TILE_FB_POS a)) }
    (((s1.modSafe (fun x => { x with mirrorAt := s.time.mono, mirrorStale := false, mirror := some m,
                                      mirrorOld := if sameSafe x.mirrorAt s.time.mono then x.mirrorOld else x.mirror })).setF
      SAFE_SSM_STAT_MIRROR_STALE 0).endCause 0x150 0x45).endCause 0x151 0x45

/-- The newest verified mirror set at a cycle start: one published in this SAFE cycle is for the next (R26, R325). -/
def mirrorNow (s : State) : Option Mirror := if sameSafe s.safe.mirrorAt s.time.mono then s.safe.mirrorOld else s.safe.mirror

end State

-- ===== chapter 11 =====

/-- MIRROR_STALE (R31): no valid set newer than the last for 250 μs while monitoring runs; both channels raise it. -/
def execMirrorStale (t : Nat) (s : State) : Out :=
  let s0 := s.runTo t
  .next (if s0.ssmRuns ∧ !s0.safe.mirrorStale ∧ s0.safe.mirrorAt + safeUs 250 ≤ s0.time.mono then
    (List.range 2).foldl (fun (u : State) c => u.raise (mkFault (0x150 + c) 0x45 cCRITICAL 2 [.val s0.safe.mirrorSeq] s0.armGroups true))
      (((s0.modSafe (fun x => { x with mirrorStale := true })).setF SAFE_SSM_STAT_MIRROR_STALE 1).offGroups s0.armGroups 2)
  else s0)

/-- HARDPAN_CYCLE (R308, R309, R311, R315, R323): a cycle of t_HPCYC after the last, both channels take the newest mirror set and
payloads, under the set in use. -/
def execHardpanCycle (t : Nat) (s : State) : Out :=
  let s0 := s.runTo t
  let due : Bool := match s0.safe.hpAt with | some u => safePast u 1000 s0.time.mono | none => true
  .next (if !s0.ssmRuns ∨ !due then s0
  else match s0.mirrorNow with
    | none => s0
    | some m =>
      let s1 := ((s0.modSafe (fun x => { x with hpAt := some s0.time.mono, monOld := none })).setF SAFE_SSM_STAT_RUN 1).setB
        SAFE_SSM_STAT_WARMUP (s0.chan 0).first
      let s2 := s1.takePayloads.judgeSources.showPersons
      let old := s2.f SAFE_SSM_VIOL_VIOL
      let s3 := ((s2.plausMsgs m).chanCycle 0 m).chanCycle 1 m
      ((s3.violMsgs old).bumpFree).modSafe (fun x => { x with cycled := true }))

/-- SSM_EXCHANGE (R318, R320): comparison, and the cap set is published; the operand is t_SSMCALC in SAFE cycles. -/
def execSsmExchange (used : Nat) (s : State) : Out :=
  .next (if !s.safe.cycled then s
  else
    let x := s.crossCheck
    let run := if x.2.2 then s.safe.xrun + 1 else 0
    let seq := (s.safe.capSeq + 1) % 65536
    let s1 := s.modSafe (fun y => { y with xrun := run, xtold := y.xtold && x.2.2, capSeq := seq, cycled := false })
    let s2 := if x.2.2 then s1.bump SAFE_SSM_CNT_XCMP else s1
    let k := s2.capSet
    let s3 := (((s2.putCaps k).setF SAFE_SSM_STAT_SEQ seq).wrN SAFE_SSM_CYCMAX
      (max (s.rdN SAFE_SSM_CYCMAX) (min used 4294967295))).wrN SAFE_SSM_XDIFF (min x.1 65535 + 65536 * min run 15)
    let capped := ((List.range 12).map (fun a => match s.monSet.1.arms.find? (fun (p : SafArm) => p.arm == a) with
      | some p => if k.caps.getD a 65535 < p.vpath then 2 ^ a else 0 | none => 0)).foldl (· + ·) 0
    (List.range 12).foldl (fun (s : State) a => s.showArm a (k.caps.getD a 65535)) (s3.setF SAFE_SSM_VIOL_CAPPED capped))

/-- SSM_XCMP (R320): N_XCMP disagreeing cycles, or a channel later than t_XCMP by the operand in μs. -/
def execSsmXcmp (lateUs : Nat) (s : State) : Out :=
  .next (if (s.monSet.1.nxcmp ≤ s.safe.xrun ∧ !s.safe.xtold) ∨ 50 < lateUs then
    let x := s.crossCheck
    (((s.modSafe (fun y => { y with xtold := true })).setF SAFE_SSM_STAT_XCMP 1).offGroups s.armGroups 11).raise
      (mkFault (0x100 + x.2.1) 0x43 cCRITICAL 2 [.inst x.2.1, .val x.1] s.armGroups)
  else s)

/-- SSM_SCAN_LOST (R307): a defined source without a valid payload for WD; its arms are in violation in both channels. -/
def execSsmScanLost (n : Fin 8) (t : Nat) (s : State) : Out :=
  let s0 := s.runTo t
  .next (match s0.monSet.1.sources.find? (fun (x : ScanSrc) => x.num == n.val) with
    | none => s0
    | some src =>
      let x := s0.safe.sources.get n
      if s0.ssmRuns ∧ !x.lost ∧ State.srcGone src x.new s0.time.mono then
        let s1 := s0.scanLost src
        let latch := fun (h : HChan) => { h with viol := h.viol ||| (src.cover % 4096) }
        let s2 := ((s1.modChan 0 latch).modChan 1 latch).showViol
        let scope := ((List.finRange 4).map (fun (g : Fin 4) =>
          if (s.safGroup g).arms &&& src.cover = 0 then 0 else 2 ^ g.val)).foldl (· + ·) 0
        (s2.offGroups scope 2).violMsgs (s0.f SAFE_SSM_VIOL_VIOL)
      else s0)

/-- VIOLATION_LATCH_CLEAR (R316): N_RST cycles of clearance in a channel clear its latch of the arm. -/
def execViolationLatchClear (a : Fin 12) (s : State) : Out :=
  let clr := fun (h : HChan) =>
    if h.viol.testBit a ∧ s.monSet.1.nrst ≤ h.clear.getD a 0 then
      { h with viol := h.viol - 2 ^ a.val, clear := h.clear.set a 0 }
    else h
  .next ((s.modChan 0 clr).modChan 1 clr).showViol

/-- SSM_CAP_STALE (R319): the same sequence number at three boundaries, told once. -/
def execSsmCapStale (s : State) : Out :=
  .next (if 3 ≤ s.safe.same ∧ !s.safe.staleTold ∧ s.onGrid Config.msUnits then
    ((List.range 12).foldl (fun (s : State) c =>
      if s.f (CL_PSO_VPATH_V_PATH c) = 0 then s else (s.setF (CL_PSO_CAP_S_CAP c) 0).setF (CL_PSO_CAP_STALE c) 1)
        (s.modSafe (fun x => { x with staleTold := true }))).raise
        (mkFault 0x150 0x44 cMAJOR 1 [.val (match s.safe.taken with | some k => k.seq | none => 0)] s.armGroups)
  else s)

-- ===== chapter 12 =====

/-- CHANNEL_EXCHANGE (R329, R351), every 10 μs: group states and pair states are compared, unlock permits judged. pairs is the
mask of pairs whose state a failing channel sends otherwise than the other holds it. -/
def execChannelExchange (pairs t : Nat) (s : State) : Out :=
  let s0 := s.runTo t
  .next (if s0.mode = mRESET ∨ !safePast s0.safe.exchAt 10 s0.time.mono then s0
  else
    let differ : Bool := pairs != 0 ||
      (s0.chan 0).groups.items.map (fun (x : GroupSt) => x.state) != (s0.chan 1).groups.items.map (fun (x : GroupSt) => x.state)
    let s1 := s0.modSafe (fun x => { x with exchAt := s0.time.mono, diff := if differ then some (x.diff.getD s0.time.mono) else none })
    (if !differ && s0.safe.diff.isSome then s1.bump SAFE_CNT_XCMP else s1).judgePermits)

/-- SAFE_XCMP (R329): a difference that has persisted for t_GXCMP, which is at most 100 μs (R584); every group goes to OFF. -/
def execSafeXcmp (function : Nat) (which : Nat) (t : Nat) (s : State) : Out :=
  let s0 := s.runTo t
  .next (if s0.safe.diff.isSome then
    (((s0.modSafe (fun x => { x with diff := none })).setF SAFE_STAT_XCMP 1).offGroups 15 11).raise
      (mkFault 0x150 0x4E cCRITICAL 3 [.code function, .inst which])
  else s0)

/-- SAFE_CLK (R329): the channel's clock leaves ±2 % (20,000 ppm), or no exchange for t_GXCMP: more than the 10 μs between
two, at most 100 μs (R584). -/
def execSafeClk (c : Fin 2) (ppm : Int) (t : Nat) (s : State) : Out :=
  let s0 := s.runTo t
  .next (if s0.mode ≠ mRESET ∧ (20000 < ppm.natAbs ∨ s0.safe.exchAt + safeUs 10 + 1 < s0.time.mono) then
    ((s0.setF SAFE_STAT_CLK 1).offGroups 15 11).raise (mkFault (0x150 + c) 0x4F cCRITICAL 3 [.inst c])
  else s0)

namespace State

/-- Readbacks of a die against what it was commanded (R336): an output that is off by itself. -/
def selfOff (s : State) (d : Fin 2) : State :=
  let x := s.safe.dies.get d
  (List.finRange 4).foldl (fun (s : State) (g : Fin 4) =>
    if x.seen.testBit g ∧ x.applied.testBit g ∧ (s.commanded d).testBit g ∧ !x.rb.testBit g then
      (s.offGroup g 5).raise (mkFault (0x110 + g) 0x4A cCRITICAL 2 [.inst (2 * g + d), altCode 0x4A 1] (2 ^ g.val))
    else s) s

/-- Since when the readbacks of a group show both outputs off (R335). -/
def trackOff (s : State) : State :=
  let both := (s.safe.dies.get 0).rb ||| (s.safe.dies.get 1).rb
  s.modSafe (fun x => { x with offSince := x.offSince.mapIdx (fun g (o : Option Nat) =>
    if both.testBit g then none else some (o.getD s.time.mono)) })

end State

namespace State

/-- A sequence number is newer than the last verified one, in serial arithmetic over 2^16 (R330). -/
def newerSeq (last : Option Nat) (seq : Nat) : Bool :=
  match last with | none => true | some l => let n := (seq + 65536 - l % 65536) % 65536; 1 ≤ n && n < 32768

end State

/-- SAFETY_FRAME (R330, R510): a newer frame verified at a channel brings inputs and readbacks of its die, unless a refresh frame
of its barrier cycle was discarded; one verified at a die applies the channel's commands and lock permits. -/
def execSafetyFrame (d : Fin 2) (toDie : Bool) (seq inputs readbacks t : Nat) (s : State) : Out :=
  let s0 := s.runTo t
  let x := s0.safe.dies.get d
  .next (if s0.mode = mRESET ∨ !State.newerSeq (if toDie then x.seqDie else x.seqChan) seq then s0
  else if toDie then
    s0.modDie d (fun x => { x with applied := s0.commanded d, cut := false, permits := (s0.chan d).permits &&& (s0.f DOOR_STAT_PERMIT),
                                   toDie := s0.time.mono, seqDie := some (seq % 65536) })
  else if (s0.fio.dies.get d).spoilt then s0
  else
    let s1 := ((s0.modDie d (fun x => { x with seen := x.applied, rb := readbacks % 16, inputs := inputs % 4294967296, toChan := s0.time.mono,
                                               seqChan := some (seq % 65536) })).setB
      ⟨SAFE_STAT, 4 + d, 1⟩ false).endCause (0x150 + d) 0x4D
    (s1.selfOff d).trackOff)

/-- SAFE_FRAME (R330): t_SFWD without a newer verified frame. -/
def execSafeFrame (d : Fin 2) (toDie : Bool) (t : Nat) (s : State) : Out :=
  let s0 := s.runTo t
  let x := s0.safe.dies.get d
  .next (if toDie then
    (if x.toDie + safeUs 20 < s0.time.mono then s0.modDie d (fun x => { x with cut := true, permits := 0 }) else s0)
  else if s0.mode ≠ mRESET ∧ x.toChan + safeUs 20 < s0.time.mono ∧ !(s0.f SAFE_STAT_FRAME).testBit d then
    (((s0.modDie d (fun x => { x with inputs := 0 })).setB ⟨SAFE_STAT, 4 + d, 1⟩ true).offGroups 15 11).raise
      (mkFault (0x150 + d) 0x4D cCRITICAL 3 [.inst d] 15 true)
  else s0)

/-- STO_RESTART_REQUEST (R334): SAFE_STO_REQ written with the key 0x5354. -/
def execStoRestartRequest (groups key : Nat) (s : State) : Out :=
  .next (if s.mapOpen ∧ key = 0x5354 then
    (List.finRange 4).foldl (fun (s : State) (g : Fin 4) => if groups.testBit g then s.restart g else s) s
  else s)

/-- RESTART_INPUT (R334): an edge of a group's restart input; the falling edge after 0.1 to 5 s at 1 qualifies, and with
source INPUT is itself the request. -/
def execRestartInput (g : Fin 4) (level : Bool) (t : Nat) (s : State) : Out :=
  let s0 := s.runTo t
  .next (if (s0.safGroup g).restart = 0 then s0
  else if level then s0.modSafe (fun x => { x with rise := x.rise.set g (some ((x.rise.get g).getD s0.time.mono)) })
  else match s0.safe.rise.get g with
    | none => s0
    | some r =>
      let high := s0.time.mono - r
      let s1 := s0.modSafe (fun x => { x with rise := x.rise.set g none })
      if 80000000 ≤ high ∧ high ≤ 4000000000 then
        let s2 := s1.modSafe (fun x => { x with fall := x.fall.set g (some s0.time.mono) })
        if (s0.safGroup g).restart = 1 then s2.restart g else s2
      else s1)

/-- SAFE_START_FAIL (R333): t_START expires in STARTING. -/
def execSafeStartFail (g : Fin 4) (t : Nat) (s : State) : Out :=
  let s0 := s.runTo t
  let late := fun (c : Fin 2) => (s0.group c g).state = 1 ∧ (s0.group c g).startEnd ≤ s0.time.mono
  .next (if late 0 ∨ late 1 then
    let missing := (s0.safGroup g).conns.find? (fun n => match s0.conn? n with | some k => k.status != 0xC3 || k.lost | none => true)
    (s0.offGroup g 9).raise (mkFault (0x110 + g) 0x4C cMINOR 0 [.inst g, .inst (missing.getD 0)] (2 ^ g.val))
  else s0)

/-- SS1_EXPIRE (R333): the cause of the stop stands. -/
def execSs1Expire (g : Fin 4) (t : Nat) (s : State) : Out :=
  let s0 := s.runTo t
  let cause := s0.f (SAFE_STO_STAT_CAUSE g)
  let go := fun (s : State) (c : Fin 2) => if (s.group c g).state = 3 ∧ (s.group c g).ss1End ≤ s.time.mono then s.offIn c g cause else s
  .next ((go (go s0 0) 1).safeHoldCheck 255)

/-- OUTPUT_TEST_PULSE (R336, R346): an output that is on, T_OPT after its last pulse and half a period after its partner's;
skipped while the group is OFF. T_OPT lies from 0.5 to 60 s (R584). -/
def execOutputTestPulse (side : Fin 2) (g : Fin 4) (s : State) : Out :=
  let own : Fin 8 := ⟨4 * side.val + g.val, by omega⟩
  let other : Fin 8 := ⟨4 * (1 - side.val) + g.val, by omega⟩
  let gap : Fin 8 → Nat → Bool := fun k us => match s.safe.pulseAt.get k with | some u => safePast u us s.time.mono | none => true
  .next (if (s.group side g).state ≠ 0 ∧ !s.safe.pulses.testBit own ∧ !s.safe.pulses.testBit other ∧ gap own 500000 ∧ gap other 250000 then
    s.modSafe (fun x => { x with pulses := x.pulses ||| 2 ^ own.val, pulseAt := x.pulseAt.set own (some s.time.mono) })
  else s)

/-- OUTPUT_TEST_END (R336): the readback must show the output off, at the end of a pulse, t_OPW of at least 100 μs after its start,
and while the group is OFF. -/
def execOutputTestEnd (side : Fin 2) (g : Fin 4) (s : State) : Out :=
  let own : Fin 8 := ⟨4 * side.val + g.val, by omega⟩
  let was := s.safe.pulses.testBit own
  let early : Bool := match s.safe.pulseAt.get own with | some u => was && !safePast u 100 s.time.mono | none => false
  let s1 := if was then s.modSafe (fun x => { x with pulses := x.pulses - 2 ^ own.val }) else s
  .next (if early ∧ (s.group side g).state ≠ 0 then s
  else if (was ∨ (s.group side g).state = 0) ∧ (s.safe.dies.get side).rb.testBit g then
    ((s1.setF (if side = 0 then SAFE_STO_STAT_STUCK_A g else SAFE_STO_STAT_STUCK_B g) 1).offGroup g 5).raise
      (mkFault (0x110 + g) 0x4A cCRITICAL 2 [.inst (2 * g + side), altCode 0x4A 0] (2 ^ g.val))
  else s1)

/-- SAFE_TELEGRAM_RX (R337, R338). -/
def execSafeTelegramRx (bytes : List Byte) (t : Nat) (s : State) : Out := .next ((s.runTo t).rxTelegram bytes)

/-- SAFE_CONN_LOST (R338): no accepted telegram for the connection's watchdog time. -/
def execSafeConnLost (n t : Nat) (s : State) : Out :=
  let s0 := s.runTo t
  .next (match s0.safConn? n, s0.conn? n with
    | some d, some k =>
      if !k.lost ∧ k.at_ + safeUs d.wd ≤ s0.time.mono then
        let s1 := ((s0.modConn n (fun x => { x with lost := true })).setB ⟨SAFE_CONN_LOST (n / 32), n % 32, 1⟩ true)
        let src := s0.connSource d
        if h : d.sto = true ∧ d.group < 4 then
          (s1.offGroup ⟨d.group, h.2⟩ 4).raise (mkFault (0x110 + d.group) 0x4B cMAJOR 2 [.inst n] (2 ^ d.group) true)
        else s1.raise (mkFault src 0x4B cMAJOR 2 [.inst n]
          (match s0.safSet.sources.find? (fun (x : ScanSrc) => x.conn == n) with
            | some x => ((List.finRange 4).map (fun (g : Fin 4) => if (s0.safGroup g).arms &&& x.cover = 0 then 0 else 2 ^ g.val)).foldl (· + ·) 0
            | none => 15) true)
      else s0
    | _, _ => s0)

/-- SAFE_IN_DISC (R340): the pair's inputs have disagreed for longer than t_DISC. -/
def execSafeInDisc (p : Fin 32) (t : Nat) (s : State) : Out :=
  let s0 := s.runTo t
  .next (match s0.safPair? p, (s0.safe.pairs.get p).disc with
    | some d, some u =>
      if !(s0.safe.pairs.get p).held ∧ u + d.disc * 800000 < s0.time.mono then
        s0.pairFault p d false (mkFault (0x120 + p) 0x48 cMAJOR 2 [.inst p])
      else s0
    | _, _ => s0)

namespace State

/-- A test-pulse supply is on (R585). -/
def tpOn (s : State) (k : Fin 4) : Bool :=
  s.safe.loaded && mCOLD_STANDBY ≤ s.mode && s.safSet.supplies.any (fun (x : Nat × Nat) => x.2 == k.val) &&
    !(s.f SAFE_STAT_FRAME).testBit (k % 2) && s.f FIO_STAT_VF_STATE != 2

/-- The safety inputs: those of the set's pairs. -/
def safeInputs (s : State) : List Nat := s.safSet.pairs.flatMap (fun (d : SafPair) => [d.in1, d.in2])

/-- What a pulse check says of an input (R341): its own supply's pulse must read 0, another's must change nothing. -/
def pulseBad (s : State) (k : Fin 4) (i : Nat) : Bool :=
  match s.supplyOf i with
  | some j => if j = k then s.rawIn i else
      (let p := s.safe.tps.get j
       !p.active && decide (p.holdEnd ≤ s.time.mono) && s.rawIn i != (s.safe.tps.get k).snap.testBit i)
  | none => false

/-- SAFE_IN_SHORT for an input of a supply, confirmed by a check of supply k (R341). -/
def inShort (s : State) (k : Fin 4) (i : Nat) : State :=
  match s.safSet.pairs.find? (fun (d : SafPair) => d.in1 == i || d.in2 == i) with
  | some d =>
    if h : d.num < 32 then
      let own := (s.supplyOf i).getD k
      (((s.setB ⟨SAFE_TP_STAT, 4 + own.val, 1⟩ true).setF SAFE_TP_STAT_INPUT i).pairFault ⟨d.num, h⟩ d true
        (mkFault (0x120 + d.num) 0x49 cMAJOR 2 [.inst i, .inst own.val])).modPair ⟨d.num, h⟩ (fun x => { x with shortBy := k, shortOn := own })
    else s
  | none => s

end State

/-- TEST_PULSE_START (R341, R585): T_TP after the last start, at the offset of the supply; the inputs' values before the pulse
are held. The pulse and its period are those of the set in use as it begins. -/
def execTestPulseStart (k : Fin 4) (t : Nat) (s : State) : Out :=
  let s0 := s.runTo t
  let x := s0.safe.tps.get k
  .next (if s0.tpOn k then
    if !x.active ∧ safePast x.next 0 s0.time.mono then
      let snap := ((List.range 64).map (fun i => if s0.effIn i then 2 ^ i else 0)).foldl (· + ·) 0
      (s0.modSafe (fun y => { y with tps := y.tps.modify k (fun p =>
        { p with active := true, snap := snap, stop := s0.time.mono + safeUs s0.safSet.ttpw,
                 next := s0.time.mono + safeUs s0.safSet.ttp - safeUs s0.safSet.ttp / 10000 }) })).setB ⟨SAFE_TP_STAT, k, 1⟩ true
    else s0
  else s0.setB ⟨SAFE_TP_STAT, k, 1⟩ (s0.tpOn k))

/-- TEST_PULSE_CHECK (R341): the last sample, of the samples 1 μs apart, before the end of the supply's pulse; the pulse ends. -/
def execTestPulseCheck (k : Fin 4) (t : Nat) (s : State) : Out :=
  let s0 := s.runTo t
  .next (if !(s0.safe.tps.get k).active ∨ s0.time.mono + safeUs 1 < (s0.safe.tps.get k).stop then s0
  else
    let ins := s0.safeInputs.filter (fun i => (s0.supplyOf i).isSome)
    let bad := ins.filter (fun i => s0.pulseBad k i)
    let again := bad.filter (fun i => (s0.safe.tps.get k).mism.testBit i)
    let s1 := (s0.bumpBy SAFE_CNT_MISM bad.length).modSafe (fun x => { x with tps := x.tps.modify k (fun p =>
      { p with active := false, holdEnd := s0.time.mono + safeUs 10, mism := (bad.map (fun i => 2 ^ i)).foldl (· ||| ·) 0 }) })
    let s2 := s0.safSet.pairs.foldl (fun (s : State) (d : SafPair) =>
      if h : d.num < 32 then
        s.modPair ⟨d.num, h⟩ (fun x => { x with clean := if bad.contains d.in1 || bad.contains d.in2 then 0 else if x.shortBy = k then x.clean + 1 else x.clean })
      else s) s1
    again.foldl (fun (s : State) i => s.inShort k i) s2)

namespace State

/-- SAFE_CFG_CODE shows the code that the first channel takes as present, and whether both agree (R344). -/
def showPresent (s : State) : State :=
  (match s.stableCode 0 with | some c => s.setF SAFE_CFG_CODE_PRESENT c | none => s).setB SAFE_CFG_CODE_STABLE s.presentCode.isSome

/-- A channel judges a code that it has newly taken as present (R344). -/
def judgeNew (s : State) (old new : Option Nat) : State :=
  match new with
  | some c => if old = some c then s else s.judgeCode c
  | none => s

end State

/-- SAFECFG_READ (R342, R344), every 1 ms from the end of RESET: both channels read the switch code. A code that both find at the
same read is told once. -/
def execSafecfgRead (codeA codeB : Fin 65536) (t : Nat) (s : State) : Out :=
  let u := s.runTo t
  let s0 := u.modSafe (fun x => { x with readAt := some u.time.mono })
  if u.mode = mRESET ∨ !(match u.safe.readAt with | some r => safePast r 1000 u.time.mono | none => true) then .next u else
  let oldA := s0.stableCode 0
  let oldB := s0.stableCode 1
  let push := fun (n : Nat) (h : HChan) => { h with codes := (h.codes ++ [n]).drop ((h.codes.length + 1) - 3) }
  let s1 := (s0.modChan 0 (push codeA)).modChan 1 (push codeB)
  let s2 := s1.modSafe (fun x => { x with codeDiff := if codeA = codeB then none else some (x.codeDiff.getD s0.time.mono) })
  let s3 := s2.showPresent.judgeNew oldA (s2.stableCode 0)
  .next (if s2.stableCode 1 = s2.stableCode 0 ∧ oldA ≠ s2.stableCode 0 then s3 else s3.judgeNew oldB (s2.stableCode 1))

/-- SAFECFG_XCMP (R344): the channels' codes have disagreed for 3 ms. -/
def execSafecfgXcmp (t : Nat) (s : State) : Out :=
  let s0 := s.runTo t
  .next (match s0.safe.codeDiff with
    | some u => if u + 2400000 ≤ s0.time.mono then
        ((s0.setF SAFE_STAT_CFG_XCMP 1).offGroups 15 10).raise
          (mkFault 0x150 0x51 cCRITICAL 3 [.val ((s0.chan 0).codes.getLast?.getD 0), .val ((s0.chan 1).codes.getLast?.getD 0)])
      else s0
    | none => s0)

end Sys2Proof.Machine
end

