-- ==== Sys2Proof/Machine/Doors.lean ====
section
/-! DEFINITION. Access doors and interlocks (chapter 13), and the evaluation of the safety inputs, which moves doors on. -/

namespace Sys2Proof.Machine

/-- Door states (DOOR_STATE.STATE). -/
def dHALTED : Nat := 0
def dLOCKED : Nat := 1
def dUNLOCKING : Nat := 2
def dCLOSED : Nat := 3
def dOPENING : Nat := 4
def dOPEN : Nat := 5
def dCLOSING : Nat := 6
def dREVERSING : Nat := 7
def dLOCKING : Nat := 8
def dFAULT : Nat := 9

/-- Door command results (R354). -/
def drOK : Nat := 0
def drMODE : Nat := 1
def drFAULT : Nat := 2
def drSTATE : Nat := 3
def drBUSY : Nat := 4
def drINTERLOCK : Nat := 5

namespace State

def doorState (s : State) (d : Fin 8) : Nat := s.f (DOOR_STATE_STATE d)
def modDoor (s : State) (d : Fin 8) (g : DoorSt → DoorSt) : State := { s with doors := s.doors.modify d g }
def posClosed (s : State) (d : Fin 8) : Int := s.rdI (DOOR_POSCL d)
def posOpen (s : State) (d : Fin 8) : Int := s.rdI (DOOR_POSOP d)
def doorDef (s : State) (d : Fin 8) : DoorDef :=
  (s.st.doors.find? (fun (x : DoorDef) => x.num == d.val)).getD
    { num := d, openLim := (0, 1, 1, 1), closeLim := (0, 1, 1, 1), obsDec := 1, obsJerk := 1, refSpd := 0, tag := 0 }
def closeCap (s : State) (d : Fin 8) : Int := s.f (DOOR_CAP_LOW d)
def effLearn (s : State) (d : Fin 8) : Int := s.f (DOOR_CAP_HIGH d)

/-- The door drive's axis. -/
def doorAxis (s : State) (d : Fin 8) : Fin 96 := ⟨s.f (DOOR_CFG_AXIS d) % 96, Nat.mod_lt _ (by decide)⟩

/-- The commanded position of the drive, in whole counts. -/
def doorPos (s : State) (d : Fin 8) : Int := (s.tiles.get (s.doorAxis d)).ps.p / u64

/-- The drive's own group permits torque. -/
def doorTorque (s : State) (d : Fin 8) : Bool := !s.axisOff (s.doorAxis d) && !s.tracks (s.doorAxis d)

/-- The closing direction: the sign of POS_CLOSED − POS_OPEN (R348). -/
def closing (s : State) (d : Fin 8) : Int := (s.posClosed d - s.posOpen d).sign

/-- What a fault of the door acts on: the group of its drive (R460). -/
def doorScope (s : State) (d : Fin 8) : GroupMask := s.scopeOfAxis (s.doorAxis d)

/-- The level of a field input as FIO_IN shows it. -/
def fieldIn (s : State) (i : Nat) : Bool := (s.rdN (FIO_IN (i / 32))).testBit (i % 32)

/-- The door takes a state; DOOR_STAT shows FAULT. -/
def toDoor (s : State) (d : Fin 8) (st : Nat) : State :=
  ((s.modDoor d (fun x => { x with overN := 0,
                                   openAt := if st = dOPEN then some s.time.mono else none,
                                   dwell := x.dwell + (match x.openAt with | some t => s.time.mono - t | none => 0) })).setF
    (DOOR_STATE_STATE d) st).setB ⟨DOOR_STAT, 24 + d.val, 1⟩ (st == dFAULT)

/-- DOOR_STAT.LOCKED and the closed-pair level follow the inputs (R352). -/
def showDoors (s : State) : State :=
  (List.finRange 8).foldl (fun (s : State) (d : Fin 8) =>
    if s.doorHere d then
      (s.setB (DOOR_STATE_CLOSED_IN d) (s.pairOk (s.f (DOOR_CFG_PAIR d)))).setB ⟨DOOR_STAT, 8 + d.val, 1⟩ (s.closedLocked d)
    else s) s

-- ===== segments (R349) =====

/-- A LIMITS segment for the drive, immediate. -/
def limSeg (a : Fin 96) (l : Nat × Nat × Nat × Nat) : Segment :=
  { axis := a, kind := kLIMITS, start := 0, relative := false, withLimits := true, target := 0, vmax := l.1, amax := l.2.1,
    dmax := l.2.2.1, jmax := l.2.2.2, param := 0, seq := 0 }

/-- A segment of a kind to a target under a limit set, immediate. -/
def moveSeg (a : Fin 96) (kind : Nat) (target : Int) (l : Nat × Nat × Nat × Nat) : Segment :=
  { axis := a, kind := kind, start := 0, relative := false, withLimits := true, target := target, vmax := l.1, amax := l.2.1,
    dmax := l.2.2.1, jmax := l.2.2.2, param := 0, seq := 0 }

/-- The segments that stop the drive under OBS_DEC and OBS_JERK. -/
def obsStop (s : State) (d : Fin 8) : List Segment :=
  let a := s.doorAxis d
  [limSeg a (s.rd2 (TILE_PLN_VMAX a), s.rdN (TILE_PLN_AMAX a), (s.doorDef d).obsDec, (s.doorDef d).obsJerk), Segment.stop a]

/-- Segments wait for the next latch. -/
def place (s : State) (d : Fin 8) (gs : List Segment) : State := s.modDoor d (fun x => { x with segs := gs })

/-- The door moves: a stroke to a target in a state; a full stroke starts at the other end. -/
def stroke (s : State) (d : Fin 8) (st : Nat) (dest start : Int) (l : Nat × Nat × Nat × Nat) : State :=
  ((s.place d [moveSeg (s.doorAxis d) kPOS (dest * 4294967296) l]).modDoor d (fun x => { x with
    full := (s.tiles.get (s.doorAxis d)).ps.p == start * u64, peaks := List.replicate 64 none, since := none,
    revGo := false, revEnd := false, found := false })).toDoor d st

def openStroke (s : State) (d : Fin 8) : State :=
  (s.stroke d dOPENING (s.posOpen d) (s.posClosed d) (s.doorDef d).openLim).setF (DOOR_STATE_MANUAL d) 0
def closeStroke (s : State) (d : Fin 8) : State :=
  (s.stroke d dCLOSING (s.posClosed d) (s.posOpen d) (s.doorDef d).closeLim).setF (DOOR_STATE_MANUAL d) 0

-- ===== cycles (R360) =====

/-- A door cycle begins. -/
def beginCycle (s : State) (d : Fin 8) (flags : Nat) : State :=
  if (s.doors.get d).cyc then s
  else (s.modDoor d (fun x => { x with cyc := true, flags := flags, tOpen := 0, closeFrom := none, dwell := 0,
                                       peakO := 0, peakC := 0, nObst := 0, obst := none })).wrN (DOOR_PEAK d) 0

/-- The cycle ends: its record, and the count in MRAM (R360). -/
def endCycle (s : State) (d : Fin 8) : State :=
  let x := s.doors.get d
  if !x.cyc then s
  else
    let man := x.flags % 2 = 1
    let us := fun (n : Nat) => min 4294967295 (s.usOf n)
    (((s.modDoor d (fun x => { x with cyc := false })).bump (DOOR_CNT_CYC d)).offerRec 0x420 2
      (natLE 1 d ++ natLE 1 (s.doorState d) ++ natLE 2 x.flags ++ natLE 4 x.tOpen
        ++ natLE 4 (match x.closeFrom with | some t => us (s.time.mono - t) | none => 0) ++ natLE 4 (min 4294967295 (s.msOf x.dwell))
        ++ natLE 2 (if man then 0 else wrapNat 16 x.peakO) ++ natLE 2 (if man then 0 else wrapNat 16 x.peakC)
        ++ natLE 2 x.nObst ++ natLE 2 0 ++ natLE 4 (match x.obst with | some o => wrapNat 32 o.1 | none => 0)
        ++ natLE 2 (match x.obst with | some o => wrapNat 16 o.2 | none => 0) ++ natLE 2 0))

/-- The door arrives in CLOSED or LOCKED, or in FAULT, and its cycle ends. -/
def settleDoor (s : State) (d : Fin 8) (st : Nat) : State :=
  ((s.modDoor d (fun x => { x with since := none })).toDoor d st).endCycle d

/-- The door goes to FAULT with a cause. -/
def doorFault (s : State) (d : Fin 8) (cause : Nat) : State :=
  ((s.modDoor d (fun x => { x with request := false, lockOut := false })).setF (DOOR_STATE_FCAUSE d) cause).settleDoor d dFAULT

/-- LOCKING begins: request withdrawn, LOCK_OUT off (R355). -/
def startLock (s : State) (d : Fin 8) : State :=
  ((s.modDoor d (fun x => { x with request := false, lockOut := false, since := some s.time.mono })).setF (DOOR_STATE_MANUAL d) 0).toDoor d dLOCKING

-- ===== effort profile (R357, R358) =====

/-- The bin of a position. -/
def binOf (s : State) (d : Fin 8) (p : Int) : Nat :=
  let len := (s.posOpen d - s.posClosed d).natAbs
  min 63 (64 * (p - s.posClosed d).natAbs / max 1 len)

/-- A learning stroke is running. -/
def learning (s : State) (d : Fin 8) : Bool :=
  let x := s.doors.get d
  x.full && ((s.doorState d == dOPENING && x.learnO) || (s.doorState d == dCLOSING && x.learnC))

/-- The obstacle threshold at a bin, for a direction (R356 to R358). -/
def threshold (s : State) (d : Fin 8) (b : Nat) (closes : Bool) : Int :=
  let plain : Bool := s.learning d || s.flag (DOOR_STATE_SEARCH d)
  let unlearned := !s.flag (DOOR_STATE_LEARNED d)
  if plain then s.effLearn d
  else if closes then min ((if unlearned then s.effLearn d else (s.f (DOOR_PROF_CLOSE d b) : Int)) + s.f (DOOR_EFF_HIGH d)) (s.closeCap d)
  else (if unlearned then s.effLearn d else (s.f (DOOR_PROF_OPEN d b) : Int)) + s.f (DOOR_EFF_LOW d)

/-- The door's part of a loop tick: the drive that cannot be driven halts it, the clamp check, effort, threshold and peaks
(R350, R355, R357). -/
def doorTick (s : State) (d : Fin 8) : State :=
  let a := s.doorAxis d
  let st := s.doorState d
  let moving : Bool := st = dOPENING ∨ st = dCLOSING ∨ st = dREVERSING
  if !s.doorHere d then s
  else if moving ∧ s.tracks a then
    (((s.modDoor d (fun x => { x with segs := [], full := false })).setF (DOOR_STATE_SEARCH d) 0).toDoor d dHALTED)
  else
    let out := signed 16 (s.f (TILE_LP_OUT_VALUE a))
    let v := (s.tiles.get a).cv
    let above : Bool := decide (s.closeCap d < out * s.closing d)
    let s0 := s.modDoor d (fun x => { x with forced := above })
    let s1 := if above ∧ ((st = dOPENING ∨ st = dCLOSING) ∨ !(s.doors.get d).forced) then
        let side : Int := if st = dOPENING then 1 else -1
        let halted := if st = dOPENING ∨ st = dCLOSING then
            ((s0.place d (s.obsStop d)).modDoor d (fun x =>
              { x with blocked := side, full := false, revGo := false, revEnd := false })).toDoor d dREVERSING
          else s0
        ((halted.modDoor d (fun x => { x with flags := x.flags ||| 8 })).hit (DOOR_STATE_FORCE d)).raise
          (mkFault (0xE0 + d) 0x59 cMAJOR 1 [.inst d, .sval out] (s.doorScope d))
      else s0
    if v = 0 then s1.modDoor d (fun x => { x with overN := 0 })
    else
      let e := out * v.sign
      let closes : Bool := v.sign == s.closing d
      let b := s.binOf d (s.doorPos d)
      let th := s1.threshold d b closes
      let pk := fun (ps : List (Option Int)) => ps.set b (some (max e ((ps.getD b none).getD 0)))
      let s2 := s1.modDoor d (fun x => { x with overN := if moving ∧ th ≤ e then x.overN + 1 else 0, peaks := pk x.peaks,
                                                 peakO := if closes then x.peakO else max x.peakO e,
                                                 peakC := if closes then max x.peakC e else x.peakC })
      let y := s2.doors.get d
      (s2.wrN (DOOR_EFFNOW d) (wrapNat 16 e + 65536 * wrapNat 16 (min 65535 th))).wrN (DOOR_PEAK d) (wrapNat 16 y.peakO + 65536 * wrapNat 16 y.peakC)

/-- The DOOR block places its segments at the latch of its drive (R349). -/
def doorPlace (s : State) (d : Fin 8) : State :=
  let a := s.doorAxis d
  let gs := (s.doors.get d).segs
  if gs.isEmpty ∨ s.tracks a then s else (s.modDoor d (fun x => { x with segs := [] })).takeSegs a gs

/-- An obstacle is declared (R355, R357). -/
def obstacle (s : State) (d : Fin 8) (eff : Int) : State :=
  let p := s.doorPos d
  let st := s.doorState d
  let s1 := (((s.place d (s.obsStop d)).modDoor d (fun x => { x with
      nObst := x.nObst + 1, obst := some (x.obst.getD (p, eff)), full := false,
      learnO := x.learnO && !(x.full && st == dOPENING), learnC := x.learnC && !(x.full && st == dCLOSING),
      revEnd := st == dREVERSING, revGo := st == dREVERSING,
      blocked := if st = dOPENING then 1 else if st = dCLOSING then -1 else x.blocked })).hit (DOOR_STATE_OBST d)).wrI (DOOR_OBSPOS d) p
  ((s1.bump (DOOR_CNT_OBS d)).toDoor d dREVERSING).setF (DOOR_STATE_SEARCH d) 0
    |>.raise (mkFault (0xE0 + d) 0x58 cMINOR 0 [.inst d, .sval p, .sval eff] (s.doorScope d))

/-- One direction of the profile from recorded or adapted bins, kept with its tag in MRAM (R358). -/
def writeBins (s : State) (d : Fin 8) (closes : Bool) (bins : List (Option Int)) : State :=
  (List.range 64).foldl (fun (s : State) b =>
    match bins.getD b none with
    | some v => if closes then s.setF (DOOR_PROF_CLOSE d b) (wrapNat 16 v) else s.setF (DOOR_PROF_OPEN d b) (wrapNat 16 v)
    | none => s) s

/-- Adaptation of a direction towards the peaks of a full stroke (R358); rounded to nearest, ties to even (R10). -/
def adapt (s : State) (d : Fin 8) (closes : Bool) (peaks : List (Option Int)) : State :=
  let k := s.f (DOOR_CFG2_KADAPT d)
  if k = 0 then s
  else s.writeBins d closes (peaks.mapIdx (fun b (x : Option Int) => x.map (fun pk =>
    let p : Int := if closes then s.f (DOOR_PROF_CLOSE d b) else s.f (DOOR_PROF_OPEN d b)
    let q := p + roundHalfEven (pk - p) (2 ^ k)
    if closes then min q (s.closeCap d - s.f (DOOR_EFF_HIGH d)) else q)))

/-- A full stroke has ended without an obstacle: it learns or adapts (R358). -/
def strokeEnd (s : State) (d : Fin 8) (closes : Bool) : State :=
  let x := s.doors.get d
  if !x.full then s
  else if (if closes then x.learnC else x.learnO) then
    let s1 := s.modDoor d (fun y => if closes then { y with recC := some y.peaks, learnC := false } else { y with recO := some y.peaks, learnO := false })
    match (s1.doors.get d).recO, (s1.doors.get d).recC with
    | some o, some c =>
      let whole := fun (bins : List (Option Int)) => bins.map (fun (v : Option Int) => some (v.getD 0))
      let s2 := ((s1.writeBins d false (whole o)).writeBins d true (whole c)).modDoor d (fun y => { y with recO := none, recC := none })
      ({ s2 with nv := { s2.nv with doorTags := s2.nv.doorTags.set d (some (s.doorDef d).tag) } }).setF (DOOR_STATE_LEARNED d) 1
    | _, _ => s1
  else if s.flag (DOOR_STATE_LEARNED d) then s.adapt d closes x.peaks
  else s

/-- The state that a door's inputs give (R359). -/
def doorFromInputs (s : State) (d : Fin 8) : Nat :=
  if s.pairOk (s.f (DOOR_CFG_PAIR d)) then (if s.flag (DOOR_STATE_CONF d) then dLOCKED else dCLOSED) else dHALTED

/-- A door's profile is valid only with the tag of its DOORS entry; a mismatch leaves the door unlearned (R359). -/
def judgeProfile (s : State) (d : Fin 8) : State :=
  let ok : Bool := s.nv.doorTags.get d == some (s.doorDef d).tag
  let s1 := s.setB (DOOR_STATE_LEARNED d) ok
  if ok then s1 else s1.raise (mkFault (0xE0 + d) 0x5D cINFO 0 [.inst d] (s.doorScope d))

/-- A door at the end of LOAD, at a warm start or at T_S (R359): its state from its inputs. -/
def doorStart (s : State) (d : Fin 8) : State :=
  if !s.doorHere d then s
  else
    let s1 := (({ s with doors := s.doors.set d {} }.setB (DOOR_STATE_CLOSED_IN d) (s.pairOk (s.f (DOOR_CFG_PAIR d)))).setB
      (DOOR_STATE_CONF d) (s.fieldIn (s.f (DOOR_CFG_CONF_IN d)))).setB (DOOR_STATE_EDGE d)
      (s.flag (DOOR_CFG_EDGE_EN d) && s.fieldIn (s.f (DOOR_CFG2_EDGE_IN d)) != s.flag (DOOR_CFG2_EDGE_POL d))
    (((s1.toDoor d (s1.doorFromInputs d)).setF (DOOR_STATE_MANUAL d) 0).modSafe
      (fun x => { x with withdrawn := x.withdrawn.set d (some ((x.withdrawn.get d).getD s.time.mono)) })).judgeProfile d

/-- The closed pair of a door has come or gone: search, LOCKED, CLOSED and MANUAL cycles (R355, R356, R360). -/
def doorPair (s : State) (d : Fin 8) (was : Bool) : State :=
  let now := s.pairOk (s.f (DOOR_CFG_PAIR d))
  let st := s.doorState d
  let s1 := if !now ∧ (st = dLOCKED ∨ st = dCLOSED) then
      let s1 := if s.flag (DOOR_STATE_MANUAL d) then s.beginCycle d 1 else s
      s1.toDoor d dHALTED
    else s
  let s2 := if now ∧ !was ∧ st = dHALTED ∧ (s.doors.get d).cyc ∧ (s.doors.get d).flags % 2 = 1 then s1.endCycle d else s1
  if now ∧ st = dCLOSING ∧ s.flag (DOOR_STATE_SEARCH d) ∧ !(s.doors.get d).found then
    (s2.place d (s.obsStop d)).modDoor d (fun x => { x with found := true })
  else s2

/-- The result of a door command stands (R354). -/
def doorRes (s : State) (d : Fin 8) (code : Nat) : State := (s.setF (DOOR_RES_CODE d) code).hit (DOOR_RES_DONE d)

/-- The checks of R354 in table order, the interlock apart; listed: the command is listed for the present state. -/
def doorCheck (s : State) (d : Fin 8) (ack stop listed : Bool) : Nat :=
  let st := s.doorState d
  if !(s.inMode [mCOMMISSION, mRUN, mCHANGEOVER, mSAFE_HOLD] ∨ (s.mode = mFAULT ∧ !s.flag SYS_MODE_HOLD)) then drMODE
  else if st = dFAULT ∧ !ack then drFAULT
  else if !listed then drSTATE
  else if (st = dUNLOCKING ∨ st = dLOCKING) ∧ !stop then drBUSY
  else drOK

end State

/-- A door command counts only with the key 0x444F and for a door that is defined (DOOR_CMD). -/
def doorCommand (d : Fin 8) (key : Nat) (s : State) (g : State → State) : Out :=
  .next (if s.mapOpen ∧ key = 0x444F ∧ s.doorHere d then g s else s)

/-- DOOR_OPEN (R354, R355). -/
def execDoorOpen (d : Fin 8) (key : Nat) (s : State) : Out :=
  doorCommand d key s (fun s =>
    let st := s.doorState d
    let torque := s.doorTorque d
    let listed : Bool := st = dLOCKED ∨ st = dCLOSED ∨ (st = dHALTED ∧ torque)
    let c := s.doorCheck d false false (listed && s.referenced (s.doorAxis d))
    if c ≠ drOK then s.doorRes d c
    else if st = dLOCKED ∧ !(List.finRange 4).all (fun g => !(s.f (DOOR_CFG_GROUPS d)).testBit g || s.confirmed g) then s.doorRes d drINTERLOCK
    else
      let s1 := (s.doorRes d drOK).modDoor d (fun x => { x with openFrom := s.time.mono })
      if st = dLOCKED then (s1.modDoor d (fun x => { x with request := true, lockOut := true, since := some s.time.mono })).toDoor d dUNLOCKING
      else if !torque then s1.setF (DOOR_STATE_MANUAL d) 1
      else (if st = dCLOSED then s1.beginCycle d 0 else s1).openStroke d)

/-- DOOR_CLOSE (R355, R356): an unreferenced drive searches towards POS_CLOSED at REF_SPD. -/
def execDoorClose (d : Fin 8) (key : Nat) (s : State) : Out :=
  doorCommand d key s (fun s =>
    let st := s.doorState d
    let c := s.doorCheck d false false ((st = dOPEN ∨ st = dHALTED) ∧ s.doorTorque d)
    if c ≠ drOK then s.doorRes d c
    else
      let s1 := (s.doorRes d drOK).modDoor d (fun x => { x with closeFrom := some s.time.mono })
      let s2 := s1.closeStroke d
      if s.referenced (s.doorAxis d) then s2
      else (((s2.place d [State.moveSeg (s.doorAxis d) kVEL (s.closing d * (s.doorDef d).refSpd) (s.doorDef d).closeLim]).modDoor d
        (fun x => { x with full := false })).setF (DOOR_STATE_SEARCH d) 1))

/-- DOOR_LOCK (R355). -/
def execDoorLock (d : Fin 8) (key : Nat) (s : State) : Out :=
  doorCommand d key s (fun s =>
    let c := s.doorCheck d false false (s.doorState d == dCLOSED)
    if c ≠ drOK then s.doorRes d c else (s.doorRes d drOK).startLock d)

/-- DOOR_STOP (R355): a moving door stops under the present limits. -/
def execDoorStop (d : Fin 8) (key : Nat) (s : State) : Out :=
  doorCommand d key s (fun s =>
    let st := s.doorState d
    let c := s.doorCheck d false true (st = dOPENING ∨ st = dCLOSING ∨ st = dREVERSING)
    if c ≠ drOK then s.doorRes d c
    else ((((s.doorRes d drOK).place d [Segment.stop (s.doorAxis d)]).modDoor d (fun x => { x with full := false })).setF
      (DOOR_STATE_SEARCH d) 0).toDoor d dHALTED)

/-- DOOR_LEARN (R355, R358). -/
def execDoorLearn (d : Fin 8) (key : Nat) (s : State) : Out :=
  doorCommand d key s (fun s =>
    let st := s.doorState d
    let c := s.doorCheck d false false (st = dOPEN ∨ st = dCLOSED ∨ st = dHALTED)
    if c ≠ drOK then s.doorRes d c
    else (s.doorRes d drOK).modDoor d (fun x => { x with learnO := true, learnC := true, recO := none, recC := none }))

/-- DOOR_ACK (R355, R359): the cause of a lock failure holds while the door is closed and the bolt is not engaged, that of
a position mismatch while the drive stands at POS_CLOSED without the closed pair. -/
def execDoorAck (d : Fin 8) (key : Nat) (s : State) : Out :=
  doorCommand d key s (fun s =>
    let c := s.doorCheck d true false (s.doorState d == dFAULT)
    if c ≠ drOK then s.doorRes d c
    else
      let pair := s.pairOk (s.f (DOOR_CFG_PAIR d))
      let holds : Bool := if s.f (DOOR_STATE_FCAUSE d) = 1 then pair && !s.flag (DOOR_STATE_CONF d)
        else !pair && s.doorPos d == s.posClosed d
      if holds then s.doorRes d drFAULT
      else (((s.doorRes d drOK).setF (DOOR_STATE_FCAUSE d) 0).toDoor d (s.doorFromInputs d)).judgeProfile d)

/-- DOOR_CONF_CHANGE (R353, R355, R361): CONF_IN takes a level. -/
def execDoorConfChange (d : Fin 8) (level : Bool) (t : Nat) (s : State) : Out :=
  let s0 := s.runTo t
  let st := s0.doorState d
  let s1 := s0.setB (DOOR_STATE_CONF d) level
  .next (if !s0.doorHere d then s0
  else if st = dUNLOCKING ∧ !level then
    (if s1.doorTorque d then (s1.beginCycle d 0).openStroke d
     else ((s1.modDoor d (fun x => { x with since := none })).setF (DOOR_STATE_MANUAL d) 1).toDoor d dCLOSED)
  else if st = dLOCKING ∧ level then s1.settleDoor d dLOCKED
  else if !level then
    let live := (List.finRange 4).filter (fun (g : Fin 4) => (s1.f (DOOR_CFG_GROUPS d)).testBit g && s1.shownGroup g != 0)
    if live.isEmpty then (if st = dLOCKED then s1.toDoor d dHALTED else s1)
    else (live.foldl (fun (s : State) g => (s.turnBack g 2).offGroup g 3) s1).raise
      (mkFault (0xE0 + d) 0x5B cCRITICAL 2 [.inst d] (s1.f (DOOR_CFG_GROUPS d)))
  else s1)

/-- DOOR_LOCK_FAIL (R355): T_LOCK expires in UNLOCKING or LOCKING. -/
def execDoorLockFail (d : Fin 8) (t : Nat) (s : State) : Out :=
  let s0 := s.runTo t
  let st := s0.doorState d
  .next (match (s0.doors.get d).since with
    | some u =>
      if (st = dUNLOCKING ∨ st = dLOCKING) ∧ u + s0.msCycles (s0.f (DOOR_CFG2_T_LOCK d)) ≤ s0.time.mono then
        (s0.doorFault d 1).raise (mkFault (0xE0 + d) 0x5A cMAJOR 0 [.inst d, altCode 0x5A (b2n (st == dLOCKING))] (s0.doorScope d))
      else s0
    | none => s0)

/-- DOOR_ARRIVED (R355, R356): the drive is at rest and has no segment left. -/
def execDoorArrived (d : Fin 8) (t : Nat) (s : State) : Out :=
  let s0 := s.runTo t
  let a := s0.doorAxis d
  let x := s0.doors.get d
  let st := s0.doorState d
  let p := (s0.tiles.get a).ps.p
  let pair := s0.pairOk (s0.f (DOOR_CFG_PAIR d))
  .next (if !s0.doorHere d ∨ !x.segs.isEmpty ∨ !s0.atRest a then s0
  else if st = dOPENING ∧ p = s0.posOpen d * u64 then
    ((s0.strokeEnd d false).modDoor d (fun x => { x with tOpen := min 4294967295 (s0.usOf (s0.time.mono - x.openFrom)) })).toDoor d dOPEN
  else if st = dCLOSING then
    let s1 := if x.found then ((s0.setPos a { State.moveSeg a kSETPOS (s0.posClosed d * 4294967296) (0, 0, 0, 0) with withLimits := false }).setF
      (DOOR_STATE_SEARCH d) 0).modDoor d (fun x => { x with found := false }) else s0
    if (s1.tiles.get a).ps.p ≠ s1.posClosed d * u64 then s1
    else if pair then
      let s2 := s1.strokeEnd d true
      if s2.flag (DOOR_CFG_AUTO_LOCK d) then s2.startLock d else s2.settleDoor d dCLOSED
    else s1.modDoor d (fun x => { x with since := some (x.since.getD s1.time.mono) })
  else if st = dREVERSING then
    (if x.revEnd ∨ x.revGo then (s0.modDoor d (fun x => { x with revGo := false, revEnd := false })).toDoor d dHALTED
     else
       let lo := min (s0.posClosed d) (s0.posOpen d)
       let hi := max (s0.posClosed d) (s0.posOpen d)
       let back := s0.doorPos d + x.blocked * s0.closing d * s0.f (DOOR_REV_LOW d)
       (s0.place d [State.moveSeg a kPOS (max lo (min hi back) * 4294967296)
         (if 0 < x.blocked then (s0.doorDef d).closeLim else (s0.doorDef d).openLim)]).modDoor d (fun x => { x with revGo := true }))
  else s0)

/-- DOOR_POS_MISMATCH (R355): T_CLCONF expires without release. -/
def execDoorPosMismatch (d : Fin 8) (t : Nat) (s : State) : Out :=
  let s0 := s.runTo t
  .next (match (s0.doors.get d).since with
    | some u =>
      if s0.doorState d = dCLOSING ∧ !s0.pairOk (s0.f (DOOR_CFG_PAIR d)) ∧ u + s0.msCycles (s0.f (DOOR_REV_HIGH d)) ≤ s0.time.mono then
        (s0.doorFault d 2).raise (mkFault (0xE0 + d) 0x5C cMAJOR 0 [.inst d, .sval (s0.doorPos d)] (s0.doorScope d))
      else s0
    | none => s0)

/-- DOOR_OBSTACLE (R357, R361): at a loop tick, N_OBS consecutive ticks at or above the threshold, or the edge active during
CLOSING. -/
def execDoorObstacle (d : Fin 8) (s : State) : Out :=
  let st := s.doorState d
  let edge : Bool := s.flag (DOOR_CFG_EDGE_EN d) && s.flag (DOOR_STATE_EDGE d) && st == dCLOSING
  let above : Bool := (st == dOPENING || st == dCLOSING || st == dREVERSING) && s.f (DOOR_CFG2_N_OBS d) ≤ (s.doors.get d).overN
    && decide (0 < (s.doors.get d).overN)
  .next (if s.doorHere d ∧ s.atTick ∧ (edge ∨ above) then
    (s.modDoor d (fun x => { x with flags := if edge then x.flags ||| 4 else x.flags })).obstacle d (signed 16 (s.rdN (DOOR_EFFNOW d) % 65536))
  else s)

/-- DOOR_EDGE (R357): the level of EDGE_IN; a tick at which it is active during CLOSING declares an obstacle. -/
def execDoorEdge (d : Fin 8) (level : Bool) (s : State) : Out :=
  .next (if !s.doorHere d ∨ !s.flag (DOOR_CFG_EDGE_EN d) then s
  else s.setB (DOOR_STATE_EDGE d) (level != s.flag (DOOR_CFG2_EDGE_POL d)))

/-- DOOR_LOCKSET (R352): t_LOCKSET since the permit's withdrawal. -/
def execDoorLockset (d : Fin 8) (t : Nat) (s : State) : Out :=
  let s0 := s.runTo t
  .next (match s0.safe.withdrawn.get d with
    | some u => if u + 40000000 ≤ s0.time.mono ∧ !(s0.f DOOR_STAT_PERMIT).testBit d then
        (s0.modSafe (fun x => { x with lockset := x.lockset ||| 2 ^ d.val })).showDoors
      else s0
    | none => s0)

namespace State

/-- Every safety-input pair is evaluated and shown (R339, R340). -/
def evalPairs (s : State) : State :=
  s.safSet.pairs.foldl (fun (s : State) (d : SafPair) =>
    if h : d.num < 32 then (s.modPair ⟨d.num, h⟩ (fun x => s.evalPair d x)).showPair ⟨d.num, h⟩ else s) s

/-- What a pair that is not OK demands of a group by its category: 0 STO at once, 1 SS1; a restart of this SAFE cycle is turned
back (R346). -/
def pairDemand (s : State) (num cat : Nat) (g : Fin 4) (cause : Nat) : State :=
  if cat = 0 then (s.turnBack g 1).offGroup g cause else if cat = 1 then (s.turnBack g 1).ss1Group g cause num else s

/-- The pair's door guards the group. -/
def pairGuards (s : State) (num : Nat) (g : Fin 4) : Bool :=
  match s.doorOfPair num with
  | some k => (s.f (DOOR_CFG_GROUPS k)).testBit g
  | none => false

/-- The demands of a pair that is not OK; cause 3 where its door guards the group, 1 else (R332, R339, R352). -/
def pairDemands (s : State) (d : SafPair) : State :=
  if s.pairOk d.num then s
  else
    (List.finRange 4).foldl (fun (u : State) (g : Fin 4) =>
      u.pairDemand d.num (d.cats.getD g 2) g (if s.pairGuards d.num g then 3 else 1)) s

/-- The doors that are here take the state of their pairs. -/
def doorPairs (s : State) (ok : Fin 8 → Bool) : State :=
  (List.finRange 8).foldl (fun (s : State) (d : Fin 8) => if s.doorHere d then s.doorPair d (ok d) else s) s

end State

/-- SAFETY_INPUT_EVAL (R339, R353), every t_SIEVAL of 10 μs: every pair is evaluated from the inputs of both dies and acts on the groups, and the
doors whose closed pair has changed move on. -/
def execSafetyInputEval (t : Nat) (s : State) : Out :=
  let u := s.runTo t
  let s0 := u.modSafe (fun x => { x with evalAt := some u.time.mono })
  let s2 := s0.safSet.pairs.foldl State.pairDemands s0.evalPairs
  .next (if u.mode = mRESET ∨ !(match u.safe.evalAt with | some r => safePast r 10 u.time.mono | none => true) then u
  else (s2.doorDemands.doorPairs (fun d => s0.pairOk (s0.f (DOOR_CFG_PAIR d)))).showDoors)

end Sys2Proof.Machine
end

