-- ==== Sys2Proof/Machine/Engine.lean ====
section
/-! DEFINITION. The closed-loop control engine (chapter 09): its instructions over data memory and accumulators, sections,
releases, classes, hand-over with preset and blend, and the oscillation detector. An engine command runs one instruction
of the section in progress; ecc says what a read of it met: 0 nothing, 1 a corrected single-bit error, 2 a double-bit
error at the first operand. Stalls are timing and change no value. -/

namespace Sys2Proof

def clsLFB : Nat := 0
def clsOFF : Nat := 1
def clsMPC : Nat := 2
def clsFALLBACK : Nat := 3
def clsFOLLOW : Nat := 4
def clsPROFILE : Nat := 5

/-- The Q9.30 bounds of an accumulator (R250). -/
def accMax : Int := 549755813887
def accMin : Int := -549755813888

/-- A signed half of a word. -/
def Word.half (w : Word) (hi : Bool) : Int := (if hi then w.extractLsb' 16 16 else w.extractLsb' 0 16).toInt
/-- A word with one half replaced. -/
def Word.setHalf (w : Word) (hi : Bool) (v : Int) : Word :=
  if hi then (BitVec.ofInt 16 v) ++ w.extractLsb' 0 16 else w.extractLsb' 16 16 ++ (BitVec.ofInt 16 v)

/-- A value scaled by 2^n, n of either sign, rounded under R10. -/
def scale2 (v n : Int) : Int := if 0 ≤ n then v * 2 ^ n.toNat else roundHalfEven v (2 ^ (-n).toNat)

/-- How a variant runs: normally, or as pass 1 of a hand-over, which reads the integrator word as 0 and stores nothing but
the output word (R271). -/
inductive EPass where
  | normal
  | preset (out : Nat) (integ : Option Nat)
deriving DecidableEq, Repr

end Sys2Proof

namespace Sys2Proof.Machine
namespace State

def modCl (s : State) (c : Fin 12) (g : Cluster → Cluster) : State := { s with clusters := s.clusters.modify c g }
def cl (s : State) (c : Fin 12) : Cluster := s.clusters.get c

/-- A word of data memory in the bank in use, past the write buffer (R254, R255). -/
def dmem (s : State) (c : Fin 12) (addr : Nat) : Word :=
  let x := s.cl c
  match x.wbuf with
  | some (a, w) => if a = addr then w else (if addr < 0x1000 then x.mem else if s.flag (CL_ENG_STAT_BANK c) then x.par1 else x.par0).get 0 addr
  | none => (if addr < 0x1000 then x.mem else if s.flag (CL_ENG_STAT_BANK c) then x.par1 else x.par0).get 0 addr

/-- An external writer, or the write buffer, writes data memory (R256). -/
def dput (s : State) (c : Fin 12) (addr : Nat) (w : Word) : State :=
  s.modCl c (fun x =>
    let y := if x.wbuf.map (·.1) = some addr then { x with wbuf := none } else x
    if addr < 0x1000 then { y with mem := y.mem.set 0 addr w }
    else if s.flag (CL_ENG_STAT_BANK c) then { y with par1 := y.par1.set 0 addr w } else { y with par0 := y.par0.set 0 addr w })
def dputN (s : State) (c : Fin 12) (addr v : Nat) : State := s.dput c addr (BitVec.ofNat 32 v)

/-- The write buffer is written out. -/
def flush (s : State) (c : Fin 12) : State := match (s.cl c).wbuf with | some (a, w) => s.dput c a w | none => s

/-- A store of the engine: it takes the write buffer (R255); in pass 1 only the output word is stored (R271). -/
def estore (s : State) (c : Fin 12) (m : EPass) (addr : Nat) (w : Word) : State :=
  match m with
  | .normal => (s.flush c).modCl c (fun x => { x with wbuf := some (addr, w) })
  | .preset out _ => if addr = out then (s.flush c).modCl c (fun x => { x with wbuf := some (addr, w) }) else s

/-- A read of the engine. -/
def eload (s : State) (c : Fin 12) (m : EPass) (addr : Nat) : Word :=
  match m with
  | .normal => s.dmem c addr
  | .preset _ integ => if integ = some addr then 0 else s.dmem c addr

/-- The section ends, and a paused tick section goes on (R263). -/
def endSection (s : State) (c : Fin 12) : State :=
  let s0 := (s.flush c).modCl c (fun x => { x with loops := [] })
  if s.flag (CL_ENG_STAT_IN_CUR c) then
    let s1 := (s0.setF (CL_ENG_STAT_IN_CUR c) 0).modCl c (fun x => { x with curEnd := s.time.mono })
    match (s.cl c).paused with
    | some (pc, ls, wh) => (s1.modCl c (fun x => { x with paused := none, loops := ls, withheld := wh })).setF (CL_ENG_PC_PC c) pc
    | none => s1
  else s0.setF (CL_ENG_STAT_IN_TICK c) 0

/-- Groups of a cluster's tiles (R277). -/
def clusterScope (s : State) (c : Nat) : GroupMask :=
  (List.range 4).foldl (fun m g => if (List.range 8).any (fun t => s.groupOf (8 * c + t) == g) then m + 2 ^ g else m) 0

/-- A fault of the engine freezes what CL_ENG_PC shows (R278). -/
def freezePc (s : State) (c : Fin 12) : State := let pc := s.f (CL_ENG_PC_PC c); s.modCl c (fun x => { x with frozenPc := pc })

/-- ENG_ILLEGAL (R261): the section ends with no further output released. -/
def engIllegal (s : State) (c : Fin 12) : State :=
  (((s.freezePc c).endSection c).hit (CL_ENG_STAT_ILLEGAL c)).raise (mkFault (0x60 + c) 0x31 cCRITICAL 3 [.inst c, .val (s.f (CL_ENG_PC_PC c))])

/-- The address of an operand: outside R254, none. -/
def eaddr (s : State) (c : Fin 12) (a : EAddr) : Option Nat :=
  let b : Nat := match a.base with | some r => (s.cl c).ap.get r | none => 0
  let after := (b : Int) + a.post
  if b + a.ofs < 8192 ∧ 0 ≤ after ∧ after < 8192 then some (b + a.ofs) else none

/-- Post-increment and post-decrement of p0 to p6. -/
def estep (s : State) (c : Fin 12) (a : EAddr) : State :=
  match a.base with
  | some r => if a.post = 0 ∨ r = 7 then s else s.modCl c (fun x => { x with ap := x.ap.set r (((x.ap.get r : Nat) : Int) + a.post).toNat })
  | none => s

def acc (s : State) (c : Fin 12) (l : Fin 2) : Int := if l = 0 then (s.cl c).a0 else (s.cl c).a1

/-- Write an accumulator, saturating (R250); pass 1 neither flags nor counts (R271). -/
def setAcc (s : State) (c : Fin 12) (m : EPass) (l : Fin 2) (v : Int) : State :=
  let w := max accMin (min v accMax)
  let s1 := s.modCl c (fun x => if l = 0 then { x with a0 := w } else { x with a1 := w })
  if w = v ∨ m ≠ .normal then s1
  else
    let s2 := (s1.hit (CL_ENG_STAT_ACC_SAT c)).bump (CL_ENG_CNT_SAT c)
    if s.flag (CL_ENG_STAT_ACC_SAT c) then s2
    else s2.raise (mkFault (0x60 + c) 0x33 cINFO 0 [.inst c, .val (s.f (CL_ENG_PC_PC c))])

/-- A store that saturated (R251, R252). -/
def noteSat (s : State) (c : Fin 12) (m : EPass) (sat : Bool) : State :=
  if sat ∧ m = .normal then (s.hit (CL_ENG_STAT_SAT c)).bump (CL_ENG_CNT_SAT c) else s

def dreg (s : State) (c : Fin 12) (n : Fin 8) : Word := (s.cl c).d.get n
def setD (s : State) (c : Fin 12) (n : Fin 8) (w : Word) : State := s.modCl c (fun x => { x with d := x.d.set n w })
def esrc (s : State) (c : Fin 12) : ESrc → Word | .reg m => s.dreg c m | .imm v => v

/-- The tile that p7 names. -/
def curTile (s : State) (c : Fin 12) : Nat := (s.cl c).ap.get 7 / 0x40 % 8

def econd (s : State) (c : Fin 12) (m : EPass) : ECond → Bool
  | .neg l => decide (s.acc c l < 0)
  | .zero l => s.acc c l == 0
  | .below n x => decide ((s.dreg c n).toInt < (s.esrc c x).toInt)
  | .equal n x => s.dreg c n == s.esrc c x
  | .beyond n x => decide ((s.esrc c x).toInt < (s.dreg c n).toInt)
  | .fbBit b => (s.eload c m (((s.cl c).ap.get 7 + 8) % 8192)).getLsbD b

/-- SHL and SHR. The spec states no result for an amount of 32 or more, nor which bits SHR brings into a word whose top bit
is 1: a free value. -/
def eshift (s : State) (left : Bool) (w : Word) (n : Nat) : Word :=
  if 32 ≤ n ∨ (!left ∧ w.msb ∧ n ≠ 0) then BitVec.ofNat 32 (Config.unstated 901 s.free)
  else if left then w <<< n else w >>> n

/-- Sine or cosine of a Q15 angle: within 2 LSB of the exact value; where between is a free value (R261). -/
def esin (s : State) (place : Nat) (k : Int) : Int :=
  satInt 16 (sinOf 65536 k / 35184372088832 + (Config.unstated place s.free % 4 : Nat) - 1)

/-- The n Q15 elements that start at an address, low half first (R262); the first word reads as 0 with z (R257). -/
def elems (s : State) (c : Fin 12) (m : EPass) (z : Bool) (a n : Nat) : List Int :=
  (List.range n).map (fun i => (if z ∧ i < 2 then (0 : Word) else s.eload c m ((a + i / 2) % 8192)).half (i % 2 == 1))

/-- The place of the best element; the lowest index wins a tie (R262). -/
def bestOf (key : Int → Int) : List Int → Nat → Nat × Int → Nat × Int
  | [], _, b => b
  | x :: xs, i, b => bestOf key xs (i + 1) (if key b.2 < key x then (i, x) else b)

/-- The output word of the variant that a tile runs (R270): TQCMD unless LOOPPROG declares another. -/
def outOf (s : State) (a : Nat) : Nat :=
  match s.st.loops.find? (fun (l : LoopTile) => l.axis == a) with
  | some l => (l.vars.getD (s.f (TILE_LP_STAT_VARIANT a)) {}).out % 0x40
  | none => 0x14

/-- An output word that OUT releases: the blend of a hand-over is added to the variant's output word (R272). -/
def outWord (s : State) (c : Fin 12) (t w : Nat) : Word :=
  let v := s.dmem c (0x40 * t + w)
  let a := 8 * c.val + t
  match s.tiles.get? a with
  | some x =>
    match x.lp.blend with
    | some (gap, k) =>
      if s.outOf a = w then
        let n : Int := max 1 (s.f (TILE_LP_VAR_HO_BLEND a))
        v.setHalf false (satInt 16 (v.half false + roundHalfEven (gap * ((n - k) * (n - k) * (n + 2 * k))) (n * n * n).toNat))
      else v
    | none => v
  | none => v

/-- The words that an OUT kind releases (R266). -/
def outKind (kind : Fin 4) : List Nat := if kind = 0 then [0x14, 0x15] else if kind = 1 then [0x16, 0x17] else if kind = 2 then [0x18, 0x19, 0x1A, 0x1B, 0x1C, 0x1D] else []

/-- The variant's output word has been applied: the next hand-over starts from it (R271). -/
def noteApplied (s : State) (c : Fin 12) (a : Fin 96) (kind : Fin 4) : State :=
  if (outKind kind).contains (s.outOf a) then
    let q := if s.f (TILE_LP_STAT_CLASS a) = clsOFF then 0 else (s.outWord c (a.val % 8) (s.outOf a)).half false
    (s.modTile a (fun x => { x with lp := { x.lp with applied := q } })).setF (TILE_LP_OUT_VALUE a) (wrapNat 16 q)
  else s

/-- The class that a tile's status shows. -/
def classOf (s : State) (a : Nat) : Nat := s.f (TILE_LP_STAT_CLASS a)

/-- A ring's definition in the running image. -/
def ringDef (s : State) (r : Nat) : RingDef :=
  (s.st.rings.find? (fun (x : RingDef) => x.ring == r)).getD { ring := r, area := 0, segs := [], nodes := [] }

/-- The last loop tick boundary. -/
def lastTick (s : State) : Instant := s.time.now - s.time.now % (2 * Config.gridUnits)

/-- The remote output record of an axis (R267, R268): TAPPLY, and for DRV_LOOP 1 POS and VFF extrapolated from the latch of the
tick. -/
def remoteRecord (s : State) (a : Fin 96) (tq : Int) (dep : Instant) : List Byte :=
  let t := s.tiles.get a
  let drv := s.flag (TILE_FB_SRC_DRV_LOOP a)
  let apply := if drv then dep + s.ringPeriod (s.f (TILE_FB_SRC_RING a)) else dep
  let dt : Int := (apply : Int) - s.lastTick
  let sec : Int := Config.secUnits
  let pos := (t.ps.p + t.cv * 1099511627776 * dt / sec + t.ca * 281474976710656 * dt * dt / (2 * sec * sec)) / u64
  let vff := roundHalfEven (t.cv * sec + t.ca * 256 * dt) (16777216 * Config.secUnits)
  let enable : Bool := !s.axisOff a && !s.tracks a
  natLE 4 (if drv then wrapNat 32 pos else 0) ++ natLE 4 (if drv then wrapNat 32 vff else 0) ++ natLE 4 (Instant.ns apply)
    ++ natLE 2 (wrapNat 16 tq) ++ natLE 2 (b2n enable + 2 * b2n drv)

/-- An item for a segment has found no cells: the segment is sent as silt in that frame (R141). -/
def refuseSeg (s : State) (r idx : Nat) : State :=
  match (List.finRange 2).find? (fun (q : Fin 2) => q.val == r) with
  | some q => { s with rings := s.rings.modify q (fun x => { x with refused := (idx, s.time.mono) :: x.refused }) }
  | none => s

/-- OUT RMT (R30, R266, R268): the record goes into the staging of its ring and stands in words 0x1E to 0x21; with a record
that finds no cells its segment is sent as silt (R141). -/
def stageRemote (s : State) (c : Fin 12) (t : Nat) (a : Fin 96) (tq : Int) : State :=
  let r := s.f (TILE_FB_SRC_RING a)
  match s.rings.get? r, (s.ringDef r).segs.find? (fun (g : RSeg) => g.kind == 1 && g.recs.any (fun (x : Nat × Nat) => x.1 == a.val)) with
  | some x, some g =>
    let shut := x.closed.isSome ∨ x.nextDep ≤ s.time.now + 5000 * Config.nsUnits
    let dep := (if shut then x.nextDep + s.ringPeriod r else x.nextDep) + 200 * Config.nsUnits
    let bs := s.remoteRecord a tq dep
    let off := match g.recs.find? (fun (y : Nat × Nat) => y.1 == a.val) with | some y => y.2 | none => 0
    let s1 := (List.range 4).foldl (fun (s : State) k =>
      s.dput c (0x40 * t + 0x1E + k) (BitVec.ofNat 32 (leNat ((bs.drop (4 * k)).take 4)))) s
    let p := s1.offerOr (if r = 0 then 0 else 1) ⟨16, .staged r g.idx off bs s.time.mono⟩
    if p.2 then p.1 else p.1.refuseSeg r g.idx
  | _, _ => s

/-- The outputs of the tile that p7 names, by kind (R266, R270). Remote outputs wait in the ring's staging. -/
def letOut (s : State) (c : Fin 12) (kind : Fin 4) : State :=
  let t := s.curTile c
  let a := 8 * c.val + t
  if h : a < 96 then
    let ax : Fin 96 := ⟨a, h⟩
    let off := s.classOf a = clsOFF
    if kind = 0 then
      let q := if off then 0 else (s.outWord c t 0x14).half false
      let v := satInt 16 ((s.dmem c (0x40 * t + 0x15)).toInt / 32768)
      (s.modTile ax (fun x => { x with tqcmd := q, vint := v })).setF (TILE_LP_OUT_VALUE a) (wrapNat 16 q)
    else if kind = 1 then
      match s.portOf a with
      | some p =>
        let uv := s.outWord c t 0x16
        let w := s.outWord c t 0x17
        if off then s else s.setDuty p [uv.half false, uv.half true, w.half false]
      | none => s
    else if kind = 2 then
      let b := 0x40 * t + 0x18
      let two := fun (k : Nat) => signed 64 ((s.dmem c (b + k)).toNat + 4294967296 * (s.dmem c (b + k + 1)).toNat)
      let g := (two 0, two 2 * 256, (s.dmem c (b + 4)).toInt * 1048576, ((s.dmem c (b + 5)).toNat % 65536))
      if off then s else s.modTile ax (fun x => { x with gen := some g })
    else s.stageRemote c t ax (if off then 0 else (s.outWord c t 0x14).half false)
  else s

/-- OUT (R266): the tile's outputs of a kind are released, unless they are withheld (R257). -/
def releaseOut (s : State) (c : Fin 12) (kind : Fin 4) : State :=
  let t := s.curTile c
  if (s.cl c).withheld.contains t then s
  else if h : 8 * c.val + t < 96 then (s.letOut c kind).noteApplied c ⟨_, h⟩ kind
  else s

/-- What one instruction does to registers and memory, its addresses being in range (R250 to R253, R261, R262). The word
at the address of the first operand reads as 0 with z. -/
def erun (s : State) (c : Fin 12) (m : EPass) (z : Bool) (i : EInstr) : State :=
  let ad := fun (a : EAddr) => (s.eaddr c a).getD 0
  let rd1 := fun (a : EAddr) => if z then 0 else s.eload c m (ad a)
  let rdW := fun (a : EAddr) => s.eload c m (ad a)
  match i with
  | .mac2 a b =>
    let x := rd1 a
    let y := rdW b
    ((s.setAcc c m 0 (s.acc c 0 + x.half false * y.half false)).setAcc c m 1 (s.acc c 1 + x.half true * y.half true)).estep c a |>.estep c b
  | .mul k l x y =>
    let p := (rd1 x.addr).half x.hi * (rdW y.addr).half y.hi
    ((s.setAcc c m l (if k = 0 then p else if k = 1 then s.acc c l + p else s.acc c l - p)).estep c x.addr).estep c y.addr
  | .mpyi l n q sh =>
    (s.setAcc c m l (scale2 ((s.dreg c n).toInt * (rd1 q.addr).half q.hi) (15 - sh))).estep c q.addr
  | .ldx k l a wide f sh =>
    let lo := rd1 a
    let v : Int := if wide then signed 64 (lo.toNat + 4294967296 * (s.eload c m ((ad a + 1) % 8192)).toNat) else lo.toInt
    let x := scale2 v (30 - (f : Int) - sh)
    (s.setAcc c m l (if k = 0 then x else if k = 1 then s.acc c l + x else s.acc c l - x)).estep c a
  | .adda sub l a long =>
    let w := rd1 a.addr
    let x : Int := if long then w.toInt else w.half a.hi * 32768
    (s.setAcc c m l (if sub then s.acc c l - x else s.acc c l + x)).estep c a.addr
  | .clmp l a long =>
    let w := rd1 a.addr
    let x : Int := |if long then w.toInt else w.half a.hi * 32768|
    (s.setAcc c m l (max (-x) (min (s.acc c l) x))).estep c a.addr
  | .neg l => s.setAcc c m l (-(s.acc c l))
  | .abs l => s.setAcc c m l |s.acc c l|
  | .stq l a sh =>
    let v := if 0 ≤ sh then s.acc c l * 2 ^ sh.toNat else s.acc c l / 2 ^ (-sh).toNat
    let r := roundHalfEven v 32768
    let q := satInt 16 r
    ((s.estore c m (ad a.addr) ((s.dmem c (ad a.addr)).setHalf a.hi q)).noteSat c m (q != r)).estep c a.addr
  | .stl l a =>
    let q := satInt 32 (s.acc c l)
    ((s.estore c m (ad a) (BitVec.ofInt 32 q)).noteSat c m (q != s.acc c l)).estep c a
  | .diff n a b => ((s.setD c n (rd1 a - rdW b)).estep c a).estep c b
  | .ld n a => (s.setD c n (rd1 a)).estep c a
  | .st n a => (s.estore c m (ad a) (s.dreg c n)).estep c a
  | .alu op n x =>
    let v := s.dreg c n
    let w := s.esrc c x
    let r := if op = 0 then v + w else if op = 1 then v - w else if op = 2 then v &&& w else if op = 3 then v ||| w
      else s.eshift (op == 4) v w.toNat
    (s.setD c n r).bumpFree
  | .sincos a b =>
    let k := (rd1 a.addr).half a.hi
    let w : Word := ((0 : Word).setHalf false (s.esin 902 k)).setHalf true (s.esin 903 (k + 16384))
    (((s.estore c m (ad b) w).bumpFree).estep c a.addr).estep c b
  | .search k l a n =>
    let key : Int → Int := if k = 0 then id else if k = 1 then (fun x => -x) else (fun x => |x|)
    match (s.elems c m z (ad a) n) with
    | [] => s
    | x :: xs =>
      let b := bestOf key xs 1 (0, x)
      ((s.setAcc c m l (b.2 * 32768)).setD c 7 (BitVec.ofNat 32 b.1)).estep c a
  | .tile t => s.modCl c (fun x => { x with ap := x.ap.set 7 (0x40 * t.val) })
  | .out k => if m = .normal then s.releaseOut c k else s
  | .br _ _ | .loop _ _ | .fin => s

/-- The address operands of an instruction. -/
def eaddrs : EInstr → List EAddr
  | .mac2 a b | .diff _ a b => [a, b]
  | .mul _ _ x y => [x.addr, y.addr]
  | .mpyi _ _ q _ => [q.addr]
  | .ldx _ _ a _ _ _ | .stl _ a | .ld _ a | .st _ a | .search _ _ a _ => [a]
  | .adda _ _ a _ | .clmp _ a _ | .stq _ a _ => [a.addr]
  | .sincos a b => [a.addr, b]
  | .neg _ | .abs _ | .alu _ _ _ | .br _ _ | .loop _ _ | .tile _ | .out _ | .fin => []

/-- The words that an operand reaches beyond its address: LDX of 64 bits and the searches (R254, R261, R262). -/
def ereach : EInstr → Nat
  | .ldx _ _ _ wide _ _ => b2n wide
  | .search _ _ _ n => (n - 1) / 2
  | _ => 0

/-- The next program counter, with the loops that end here (R261). -/
def epc (s : State) (c : Fin 12) (m : EPass) (pc : Nat) (i : EInstr) : Nat × List (Nat × Nat × Nat) :=
  let ls := (s.cl c).loops
  match i with
  | .br cond target => if s.econd c m cond then (target, ls) else (pc + 1, ls)
  | .loop n last => (pc + 1, ((pc + 1, last, n) :: ls).take 2)
  | _ =>
    match ls with
    | (first, last, n) :: rest =>
      if pc = last then (if 1 < n then (first, (first, last, n - 1) :: rest) else (pc + 1, rest)) else (pc + 1, ls)
    | [] => (pc + 1, [])

/-- One instruction at a program counter: illegal addresses are told, otherwise its effect and the next counter. -/
def eone (s : State) (c : Fin 12) (m : EPass) (z : Bool) (pc : Nat) (i : EInstr) : Option (State × Nat) :=
  if (eaddrs i).all (fun a => match s.eaddr c a with | some x => decide (x + ereach i < 8192) | none => false) then
    let n := s.epc c m pc i
    some ((s.erun c m z i).modCl c (fun x => { x with loops := n.2 }), n.1)
  else none

/-- A section is running, and the engine is not halted. -/
def inSection (s : State) (c : Fin 12) : Bool :=
  (s.flag (CL_ENG_STAT_IN_TICK c) || s.flag (CL_ENG_STAT_IN_CUR c)) && !(s.cl c).halted

/-- A double-bit error at a word of data memory (R257). -/
def engEcc (s : State) (c : Fin 12) (addr : Nat) : State :=
  (((s.freezePc c).hit (CL_ENG_STAT_ECC2 c)).modCl c (fun x => { x with withheld := s.curTile c :: x.withheld })).raise
    (mkFault (0x60 + c) 0x32 cCRITICAL 3 [.inst c, .val addr])

/-- An engine command: the instruction runs as the next of the section in progress. -/
def engine (s : State) (c : Fin 12) (ecc : Nat) (i : EInstr) : State :=
  if !s.inSection c then s
  else
    let reads := eaddrs i
    let s0 := if ecc = 1 ∧ reads ≠ [] then s.bump (CL_ENG_CNT_ECC c)
      else if ecc = 2 then (match reads with | a :: _ => s.engEcc c ((s.eaddr c a).getD 0) | [] => s)
      else s
    match s0.eone c .normal (ecc == 2 && !reads.isEmpty) (s.f (CL_ENG_PC_PC c)) i with
    | some (s1, pc) => s1.setF (CL_ENG_PC_PC c) pc
    | none => s0.engIllegal c

-- ===== classes, hand-over and blend (R270 to R273) =====

/-- Pass 1 of a variant: its instructions from the first on (R271). Fuel: the section's limit in cycles. -/
def presetRun (s : State) (c : Fin 12) (m : EPass) (code : List EInstr) : Nat → Nat → State
  | 0, _ => s
  | n + 1, pc =>
    match code[pc]? with
    | none => s
    | some .fin => s
    | some i => match s.eone c m false pc i with | some (s1, pc1) => presetRun s1 c m code n pc1 | none => s

/-- The class of a tile at this tick (R270). -/
def pickClass (s : State) (c : Fin 12) (a : Nat) : Nat :=
  let arm := (s.planLim a).arm
  if s.flag (TILE_FB_STAT_LOST a) ∨ s.flag (TILE_FB_STAT_FROZEN a) then clsLFB
  else if s.axisOff a ∨ s.pmode a = pmTRACK then clsOFF
  else if arm ∧ (s.cl c).usable then clsMPC
  else if arm ∧ s.st.probs.any (fun (p : QProb) => p.arm == c.val) then clsFALLBACK
  else if s.pmode a = pmLOCKED then clsFOLLOW
  else clsPROFILE

/-- The variant that a class maps to (TILE_LP_VAR). -/
def variantOf (s : State) (a cls : Nat) : Nat :=
  if cls = clsMPC then s.f (TILE_LP_VAR_MPC a)
  else if cls = clsFALLBACK then s.f (TILE_LP_VAR_FALLBACK a)
  else if cls = clsFOLLOW then s.f (TILE_LP_VAR_FOLLOW a)
  else s.f (TILE_LP_VAR_PROFILE a)

/-- The word SEL of a tile's block (R258). -/
def putSel (s : State) (c : Fin 12) (t cls var : Nat) (hand blend : Bool) : State :=
  s.dputN c (0x40 * t + 0xD) (cls + 16 * var + 256 * b2n hand + 512 * b2n blend)

/-- A hand-over to a variant (R271): pass 1, the preset of its integrator, the gap and its blend. -/
def handOver (s : State) (c : Fin 12) (a : Fin 96) (t : Nat) (v : LoopVar) (uOld : Int) : State :=
  let regs := s.cl c
  let p1 := (s.modCl c (fun x => { x with ap := x.ap.set 7 (0x40 * t), loops := [] })).presetRun c (.preset v.out v.integ) v.code 12500 0
  let uP := (p1.dmem c v.out).half false
  let s1 := (p1.flush c).modCl c (fun x => { x with a0 := regs.a0, a1 := regs.a1, d := regs.d, ap := regs.ap, loops := regs.loops })
  let i := match v.integ with | none => 0 | some _ => max (-(v.ilim : Int)) (min (uOld - uP) v.ilim)
  let s2 := match v.integ with | some w => s1.dput c w (BitVec.ofInt 32 (i * 32768)) | none => s1
  let gap := uOld - (uP + i)
  let s3 := (s2.setF (TILE_LP_GAP_VALUE a) (wrapNat 16 gap)).modTile a (fun x => { x with lp := { x.lp with blend := if gap = 0 then none else some (gap, 0) } })
  if (s.f (TILE_LP_VAR_HO_THR a) : Int) < |gap| then
    (s3.hit (TILE_LP_STAT_GAP a)).raise
      { source := a, kind := 0x22, cls := cMINOR, level := 0, scope := allGroups,
        ctx := wrapNat 24 (satInt 24 gap) + a.val * 16777216 + 2147483648 }
  else s3

/-- The blend advances by a tick and ends after HO_BLEND ticks (R272). -/
def blendTick (s : State) (a : Fin 96) : State :=
  s.modTile a (fun x => { x with lp := { x.lp with blend := x.lp.blend.bind (fun (b : Int × Nat) =>
    if b.2 + 1 < s.f (TILE_LP_VAR_HO_BLEND a) then some (b.1, b.2 + 1) else none) } })

/-- Pass 1 met a double-bit error at a word: the tile keeps its output in this section and the hand-over is made at the next tick
(R257, R276). -/
def handRetry (s : State) (c : Fin 12) (a : Fin 96) (uOld : Int) (addr : Nat) : State :=
  let p7 := (s.cl c).ap.get 7
  let s1 := (s.modCl c (fun x => { x with ap := x.ap.set 7 (0x40 * (a.val % 8)) })).engEcc c addr
  (s1.modCl c (fun x => { x with ap := x.ap.set 7 p7 })).modTile a (fun y => { y with lp := { y.lp with uOld := some uOld } })

/-- A tile's class, variant and hand-over at the start of the tick section (R269 to R272). bad names the tiles whose pass 1 meets
a double-bit error, with its word address. -/
def loopTile (s : State) (c : Fin 12) (bad : List (Nat × Nat)) (a : Fin 96) (t : Nat) : State :=
  let cls := s.pickClass c a
  let var := s.variantOf a cls
  let lv : LoopVar := match s.st.loops.find? (fun (l : LoopTile) => l.axis == a.val) with
    | some l => l.vars.getD var {} | none => { out := 0x40 * t + 0x14 }
  let x := (s.tiles.get a).lp
  let run := if cls = clsLFB then 4 else var
  let drv := s.f (TILE_FB_SRC_SRC a) = 2 ∧ s.flag (TILE_FB_SRC_DRV_LOOP a)
  let hand := !drv && cls != clsLFB && cls != clsOFF && (x.ran != some run || x.wasOff || x.uOld.isSome)
  let uOld := x.uOld.getD (if x.wasOff then 0 else x.applied)
  let s0 := ((s.setF (TILE_LP_STAT_CLASS a) cls).setF (TILE_LP_STAT_VARIANT a) var).modTile a (fun y =>
    { y with lp := { y.lp with ran := some run, wasOff := cls == clsOFF, uOld := none } })
  let s1 := if hand then (match bad.find? (fun e => e.1 == t) with
      | some e => s0.handRetry c a uOld e.2
      | none => s0.handOver c a t lv uOld)
    else if cls = clsOFF then
      (match lv.integ with | some w => s0.dput c w 0 | none => s0).modTile a (fun y => { y with lp := { y.lp with blend := none } })
    else if cls = clsLFB then s0.modTile a (fun y => { y with lp := { y.lp with blend := none } })
    else s0.blendTick a
  let bl := (s1.tiles.get a).lp.blend.isSome
  (s1.setB (TILE_LP_STAT_BLEND a) bl).putSel c t cls var hand bl

-- ===== oscillation detector (R274, R275) =====

/-- The crossings of the last WIN ticks, newest first. -/
def oscWindow (s : State) (a : Fin 96) : List Nat :=
  let o := (s.tiles.get a).lp.osc
  o.cross.filter (fun t => o.k - t < s.f (TILE_LP_OSC_DET_WIN a))

/-- n ≥ CNT crossings stand in the window. -/
def oscHolds (s : State) (a : Fin 96) : Bool :=
  s.f (TILE_LP_OSC_DET_AMP a) != 0 && s.f (TILE_LP_OSC_DET_CNT a) ≤ (s.oscWindow a).length && 2 ≤ (s.oscWindow a).length

/-- The frequency of the window in 0.1 Hz (R275). -/
def oscFreq (s : State) (a : Fin 96) : Nat :=
  let w := s.oscWindow a
  let n := w.length
  let span := w.headD 0 - w.getD (n - 1) 0
  if span = 0 then 0 else min 65535 (roundHalfEven ((n - 1) * 80000 : Nat) span).toNat

/-- The detector at one tick, on the following error e that TILE_LP_FERR shows (R274). -/
def oscTick (s : State) (a : Fin 96) : State :=
  let p := signed 32 (s.rdN (TILE_PLN_POS a 1))
  let x := (s.tiles.get a).lp
  let drv := s.f (TILE_FB_SRC_SRC a) = 2 ∧ s.flag (TILE_FB_SRC_DRV_LOOP a)
  let delay := (p :: x.delay).take 16
  let q := if drv then delay.getD (s.f (TILE_LP_OSC_DET_DLY a)) (delay.getLastD p) else p
  let e := signed 32 (wrapNat 32 (q - s.rdI (TILE_FB_POS a)))
  let ec := max (-8388608) (min e 8388608)
  let cls := s.pickClass ⟨a.val / 8, by omega⟩ a
  let s0 := s.wrI (TILE_LP_FERR a) ec
  let put := fun (o : Osc) => s0.modTile a (fun y => { y with lp := { y.lp with osc := o, delay := delay } })
  if cls = clsLFB ∨ cls = clsOFF ∨ s.f (TILE_LP_OSC_DET_AMP a) = 0 then put {}
  else
    let o := x.osc
    let de := match o.e with | some old => ec - old | none => 0
    let h := roundHalfEven (s.f (TILE_LP_OSC_FLT_ALPHA a) * (o.h + de * 65536)) 32768
    let y := o.y + roundHalfEven (s.f (TILE_LP_OSC_FLT_BETA a) * (h - o.y)) 32768
    let armed := o.armed || decide ((s.f (TILE_LP_OSC_DET_AMP a) : Int) * 65536 ≤ |o.y|)
    let crossed := armed && decide (o.sgn * y.sign < 0)
    let k := o.k + 1
    let s1 := put { h := h, y := y, e := some ec, armed := if crossed then false else armed, k := k, sgn := if y = 0 then o.sgn else y.sign,
                    cross := if crossed then (k :: o.cross).filter (fun t => k - t < 512) else o.cross }
    if s1.flag (TILE_LP_STAT_OSC a) ∧ s1.oscHolds a then s1.wrN (TILE_LP_OSC_FREQ a) (s1.oscFreq a) else s1

/-- The axes of a cluster that the running structure has. -/
def clusterAxes (s : State) (c : Fin 12) : List (Fin 96) :=
  (List.finRange 96).filter (fun a => a.val / 8 == c.val && s.st.axes.contains a.val)

/-- Every tile of a cluster at the start of its tick section. -/
def loopTiles (s : State) (c : Fin 12) (bad : List (Nat × Nat)) : List (Fin 96) → State
  | [] => s
  | a :: as => loopTiles (s.loopTile c bad a (a.val % 8)) c bad as

/-- A cluster needs a current section: one of its tiles is bound to a SERVO port. -/
def hasCur (s : State) (c : Fin 12) : Bool :=
  (List.range 32).any (fun p => s.f (PP_CFG_MODE p) == 2 && s.f (PP_CFG_TILE p) / 8 == c.val)

/-- The current section starts; a running tick section pauses (R263). -/
def startCur (s : State) (c : Fin 12) : State :=
  if !s.flag (CL_ENG_STAT_RUNNING c) ∨ !s.hasCur c ∨ (s.cl c).halted then s
  else
    let s1 := if s.flag (CL_ENG_STAT_IN_TICK c) then
        s.modCl c (fun x => { x with paused := some (s.f (CL_ENG_PC_PC c), x.loops, x.withheld), loops := [], withheld := [] })
      else s.modCl c (fun x => { x with withheld := [] })
    (s1.setF (CL_ENG_STAT_IN_CUR c) 1).setF (CL_ENG_PC_PC c) 0

end State

namespace State

/-- LOOP cycles since the last loop tick boundary, and since the last current-loop boundary. -/
def tickCycles (s : State) : Nat := s.time.now % (2 * Config.gridUnits) * 2 / (5 * Config.nsUnits)
def curCycles (s : State) : Nat := s.time.now % (Config.gridUnits / 2) * 2 / (5 * Config.nsUnits)

/-- The tick section starts now (R263): t_ENGWAIT of 3 µs after the tick boundary, or as the current section ends, if that is
later. -/
def startsTick (s : State) (c : Fin 12) : Bool :=
  let past := s.time.now % (2 * Config.gridUnits)
  s.loopsRun && s.flag (CL_ENG_STAT_RUNNING c) && !(s.cl c).halted && !s.flag (CL_ENG_STAT_IN_CUR c) && !s.flag (CL_ENG_STAT_IN_TICK c)
    && decide (3000 * Config.nsUnits ≤ past) && (decide (past < 3000 * Config.nsUnits + s.cycleInc) || (s.cl c).curEnd == s.time.mono)

/-- A section has reached its limit (R265): CUR_MAX of 2,500 LOOP cycles, t_LOOPRUN of 12,500. -/
def curOver (s : State) (c : Fin 12) : Bool := s.flag (CL_ENG_STAT_IN_CUR c) && decide (2500 ≤ s.curCycles)
def tickOver (s : State) (c : Fin 12) : Bool := s.flag (CL_ENG_STAT_IN_TICK c) && decide (12500 ≤ s.tickCycles)

/-- ENG_OVERRUN: the section is abandoned, and CL_ENG_PC stays at it (R265, R278). -/
def overrun (s : State) (c : Fin 12) (cur : Bool) (pc : Nat) : State :=
  ((s.modCl c (fun x => { x with frozenPc := pc })).hit (CL_ENG_STAT_OVERRUN c)).raise
    (mkFault (0x60 + c) 0x30 cCRITICAL 3 [.inst c, altCode 0x30 (b2n cur), .val pc])

/-- The sections of a cluster that have reached their limits are abandoned; a tick section may be paused. -/
def abandon (s : State) (c : Fin 12) : State :=
  let s1 := if s.curOver c then (s.endSection c).overrun c true (s.f (CL_ENG_PC_PC c)) else s
  if s1.tickOver c then
    match (s1.cl c).paused with
    | some (pc, _) => ((s1.modCl c (fun x => { x with paused := none })).setF (CL_ENG_STAT_IN_TICK c) 0).overrun c false pc
    | none => (s1.endSection c).overrun c false (s1.f (CL_ENG_PC_PC c))
  else s1

end State

/-- TICK_SECTION_START (R263, R270, R271): the engine of cluster c starts its tick section; entry is its first address; bad gives
the tiles whose pass 1 meets a double-bit error, and the word. -/
def execTickSectionStart (c : Fin 12) (entry : Nat) (bad : List (Nat × Nat)) (t : Nat) (s : State) : Out :=
  let s0 := s.runTo t
  .next (if s0.startsTick c then
      let s1 := (s0.modCl c (fun x => { x with withheld := [], loops := [], paused := none })).loopTiles c bad (s0.clusterAxes c)
      (s1.setF (CL_ENG_STAT_IN_TICK c) 1).setF (CL_ENG_PC_PC c) entry
    else s0)

/-- ENG_OVERRUN (R265): a section that has not ended by its limit is abandoned. -/
def execEngOverrun (c : Fin 12) (t : Nat) (s : State) : Out :=
  let s0 := s.runTo t
  .next (if s0.inSection c then s0.abandon c else s0)

def execEngMac2 (c : Fin 12) (ecc : Nat) (a b : EAddr) (s : State) : Out := .next (s.engine c ecc (.mac2 a b))
def execEngMpy (c : Fin 12) (ecc : Nat) (l : Fin 2) (x y : EHalf) (s : State) : Out := .next (s.engine c ecc (.mul 0 l x y))
def execEngMac (c : Fin 12) (ecc : Nat) (l : Fin 2) (x y : EHalf) (s : State) : Out := .next (s.engine c ecc (.mul 1 l x y))
def execEngMsu (c : Fin 12) (ecc : Nat) (l : Fin 2) (x y : EHalf) (s : State) : Out := .next (s.engine c ecc (.mul 2 l x y))
def execEngMpyi (c : Fin 12) (ecc : Nat) (l : Fin 2) (n : Fin 8) (q : EHalf) (sh : Nat) (s : State) : Out :=
  .next (s.engine c ecc (.mpyi l n q sh))
def execEngLdx (c : Fin 12) (ecc : Nat) (l : Fin 2) (a : EAddr) (wide : Bool) (f sh : Nat) (s : State) : Out :=
  .next (s.engine c ecc (.ldx 0 l a wide f sh))
def execEngLdxAdd (c : Fin 12) (ecc : Nat) (l : Fin 2) (a : EAddr) (wide : Bool) (f sh : Nat) (s : State) : Out :=
  .next (s.engine c ecc (.ldx 1 l a wide f sh))
def execEngLdxSub (c : Fin 12) (ecc : Nat) (l : Fin 2) (a : EAddr) (wide : Bool) (f sh : Nat) (s : State) : Out :=
  .next (s.engine c ecc (.ldx 2 l a wide f sh))
def execEngAdda (c : Fin 12) (ecc : Nat) (l : Fin 2) (a : EHalf) (long : Bool) (s : State) : Out :=
  .next (s.engine c ecc (.adda false l a long))
def execEngSuba (c : Fin 12) (ecc : Nat) (l : Fin 2) (a : EHalf) (long : Bool) (s : State) : Out :=
  .next (s.engine c ecc (.adda true l a long))
def execEngClmp (c : Fin 12) (ecc : Nat) (l : Fin 2) (a : EHalf) (long : Bool) (s : State) : Out :=
  .next (s.engine c ecc (.clmp l a long))
def execEngNeg (c : Fin 12) (l : Fin 2) (s : State) : Out := .next (s.engine c 0 (.neg l))
def execEngAbs (c : Fin 12) (l : Fin 2) (s : State) : Out := .next (s.engine c 0 (.abs l))
def execEngStq (c : Fin 12) (l : Fin 2) (a : EHalf) (sh : Int) (s : State) : Out := .next (s.engine c 0 (.stq l a sh))
def execEngStl (c : Fin 12) (l : Fin 2) (a : EAddr) (s : State) : Out := .next (s.engine c 0 (.stl l a))
def execEngDiff (c : Fin 12) (ecc : Nat) (n : Fin 8) (a b : EAddr) (s : State) : Out := .next (s.engine c ecc (.diff n a b))
def execEngLd (c : Fin 12) (ecc : Nat) (n : Fin 8) (a : EAddr) (s : State) : Out := .next (s.engine c ecc (.ld n a))
def execEngSt (c : Fin 12) (n : Fin 8) (a : EAddr) (s : State) : Out := .next (s.engine c 0 (.st n a))
def execEngAdd (c : Fin 12) (n : Fin 8) (m : ESrc) (s : State) : Out := .next (s.engine c 0 (.alu 0 n m))
def execEngSub (c : Fin 12) (n : Fin 8) (m : ESrc) (s : State) : Out := .next (s.engine c 0 (.alu 1 n m))
def execEngAnd (c : Fin 12) (n : Fin 8) (m : ESrc) (s : State) : Out := .next (s.engine c 0 (.alu 2 n m))
def execEngOr (c : Fin 12) (n : Fin 8) (m : ESrc) (s : State) : Out := .next (s.engine c 0 (.alu 3 n m))
def execEngShl (c : Fin 12) (n : Fin 8) (m : ESrc) (s : State) : Out := .next (s.engine c 0 (.alu 4 n m))
def execEngShr (c : Fin 12) (n : Fin 8) (m : ESrc) (s : State) : Out := .next (s.engine c 0 (.alu 5 n m))
def execEngSincos (c : Fin 12) (ecc : Nat) (a : EHalf) (b : EAddr) (s : State) : Out := .next (s.engine c ecc (.sincos a b))
def execEngVmax (c : Fin 12) (ecc : Nat) (l : Fin 2) (a : EAddr) (n : Nat) (s : State) : Out := .next (s.engine c ecc (.search 0 l a n))
def execEngVmin (c : Fin 12) (ecc : Nat) (l : Fin 2) (a : EAddr) (n : Nat) (s : State) : Out := .next (s.engine c ecc (.search 1 l a n))
def execEngVmaxa (c : Fin 12) (ecc : Nat) (l : Fin 2) (a : EAddr) (n : Nat) (s : State) : Out := .next (s.engine c ecc (.search 2 l a n))
def execEngBr (c : Fin 12) (cond : ECond) (target : Nat) (s : State) : Out := .next (s.engine c 0 (.br cond target))
def execEngLoop (c : Fin 12) (n last : Nat) (s : State) : Out := .next (s.engine c 0 (.loop n last))
def execEngTile (c : Fin 12) (t : Fin 8) (s : State) : Out := .next (s.engine c 0 (.tile t))
def execEngOutTq (c : Fin 12) (s : State) : Out := .next (s.engine c 0 (.out 0))
def execEngOutDuty (c : Fin 12) (s : State) : Out := .next (s.engine c 0 (.out 1))
def execEngOutGen (c : Fin 12) (s : State) : Out := .next (s.engine c 0 (.out 2))
def execEngOutRmt (c : Fin 12) (s : State) : Out := .next (s.engine c 0 (.out 3))

/-- The integrators of the tiles in OFF are held at 0 (R270). -/
def State.holdOff (s : State) (c : Fin 12) : State :=
  (s.clusterAxes c).foldl (fun (s : State) (a : Fin 96) =>
    match s.st.loops.find? (fun (l : LoopTile) => l.axis == a.val) with
    | some l =>
      if s.classOf a = clsOFF then
        (match (l.vars.getD (s.f (TILE_LP_STAT_VARIANT a)) {}).integ with | some w => s.dput c w 0 | none => s)
      else s
    | none => s) s

/-- END (R261, R263) at t: the section ends; CL_ENG_CYC and CYCMAX show the LOOP cycles since its boundary. Past its limit the
section is abandoned instead (R265). -/
def execEngEnd (c : Fin 12) (t : Nat) (s : State) : Out :=
  let s0 := s.runTo t
  let cur := s0.flag (CL_ENG_STAT_IN_CUR c)
  .next (if !s0.inSection c then s0
    else if s0.curOver c ∨ (!cur ∧ s0.tickOver c) then s0.abandon c
    else
      let f := if cur then CL_ENG_CYC_CUR c else CL_ENG_CYC_TICK c
      let g := if cur then CL_ENG_CYCMAX_CUR c else CL_ENG_CYCMAX_TICK c
      let n := if cur then s0.curCycles else s0.tickCycles
      let s1 := ((s0.endSection c).setF f n).setF g (max n (s0.f g))
      if cur then s1 else s1.holdOff c)

/-- LP_OSC (R275): at a tick CNT crossings stand in the window; raised once per setting of OSC. -/
def execLpOsc (a : Fin 96) (s : State) : Out :=
  .next (if s.atTick ∧ s.oscHolds a ∧ !s.flag (TILE_LP_STAT_OSC a) then
    ((s.hit (TILE_LP_STAT_OSC a)).wrN (TILE_LP_OSC_FREQ a) (s.oscFreq a)).raise
      (mkFault a 0x34 cMINOR (s.f (TILE_LP_OSC_DET_OSC_LVL a)) [.inst a, .val (s.oscFreq a)] (s.scopeOfAxis a) true)
  else s)

/-- OSC_CLEAR (R275): a W1C write; the GAP bit of the word clears as written. -/
def execOscClear (a : Fin 96) (value : Word) (s : State) : Out :=
  let s1 := s.clearBits (TILE_LP_STAT a) (value &&& 0x40#32)
  .next (if !s.tileOpen a then s
    else if value.getLsbD 7 ∧ !s.hitNow (TILE_LP_STAT_OSC a) ∧ (s.oscWindow a).length < s.f (TILE_LP_OSC_DET_CNT a) then
      (s1.setF (TILE_LP_STAT_OSC a) 0).endCause a 0x34
    else s1)

end Sys2Proof.Machine
end

