-- ==== Sys2Proof/Machine/TimeBase.lean ====
section
/-! DEFINITION. The time base (chapter 16): states, the ordinary clock, the servo, steps and holdover, and the transparent
clock. PTP times, offsets and delays are in ns × 2^16; FADJ is in 2^-16 ppm. -/

namespace Sys2Proof.Machine

def tsFREE : Nat := 0
def tsACQUIRE : Nat := 1
def tsSYNC : Nat := 2
def tsHOLDOVER : Nat := 3
def tsRING : Nat := 4

namespace State

def tstate (s : State) : Nat := s.f TIME_STAT_STATE

/-- A ring of the unit is in state NODE (R392, R420). -/
def ringNode (s : State) : Bool := s.f (KR_STAT_STATE 0) == 3 || s.f (KR_STAT_STATE 1) == 3

/-- TIME_CFG.SRC takes the plant, or the ring (R420). -/
def plantSelected (s : State) : Bool := s.f TIME_CFG_SRC == 1 || (s.f TIME_CFG_SRC == 0 && !s.ringNode)
def ringSelected (s : State) : Bool := s.f TIME_CFG_SRC == 2 || (s.f TIME_CFG_SRC == 0 && s.ringNode)

/-- The limit of FADJ in 2^-16 ppm (R416): FADJ_MAX of 1 to 500 ppm, other values act as 500. -/
def fadjLimit (s : State) : Int :=
  let m := s.f TIME_CFG_FADJ_MAX
  65536 * (if 1 ≤ m ∧ m ≤ 500 then (m : Int) else 500)

/-- STEP_THR and SYNC_THR in ns × 2^16. -/
def stepThr (s : State) : Int := 65536000 * (max 1 (s.f TIME_STEP_THR_THR) : Nat)
def syncThr (s : State) : Int := 65536 * (s.f TIME_CFG_SYNC_THR : Nat)

/-- The receive stamp of a PL port compensated by its PHY latency of 0.125 ns units (R419). -/
def rxStamp (s : State) (m : PtpMsg) : Int := m.rx - 8192 * (s.f (TIME_PL_LAT_RX m.port) : Nat)

/-- FADJ takes a value; a master in pull-in has moved with the value before (R109). -/
def putFadj (s : State) (c : Int) : State := (if s.mst = msPULL then s.anchor else s).wrI TIME_FADJ c

/-- FADJ is set, with FLIMIT while it stands at its limit; reaching it raises TIME_FADJ_LIMIT (R425, R433). -/
def setFadj (s : State) (v ofs : Int) : State :=
  let lim := s.fadjLimit
  let c := max (-lim) (min v lim)
  let at_ := c == lim || c == -lim
  let s1 := (s.putFadj c).setB TIME_STAT_FLIMIT at_
  let keep := s.time.history.filter (fun h => s.time.mono ≤ h.1 + s.msCycles 16000)
  let s2 := { s1 with time := { s1.time with history := (s.time.mono, c) :: keep } }
  if at_ && !s.flag TIME_STAT_FLIMIT then s2.raise (mkFault srcTIME 0x74 cINFO 0 [.sval (roundHalfEven ofs 65536)]) else s2

/-- One servo step (R425): FADJ = clamp(−KP × offset − I), then I = I + KI × offset, scaled to the Sync interval of
2^logInt s. An offset of 1 ns over 1 s is 2^-16 ppm × 65536 / 1000. -/
def servo (s : State) (ofs logInt : Int) : State :=
  let x := roundHalfEven (ofs * 4294967296 * 2 ^ (-logInt).toNat) (1000 * 2 ^ logInt.toNat)
  let kp := s.f TIME_SERVO_KP
  let ki := s.f TIME_SERVO_KI
  let v := roundHalfEven (-(roundHalfEven x (2 ^ kp)) - s.time.integ) 4294967296
  let s1 := s.setFadj v ofs
  { s1 with time := { s1.time with integ := s.time.integ + roundHalfEven x (2 ^ (kp + ki)) } }

/-- The mean of the FADJ values of the last 16 s; FADJ itself where there is none (R428). -/
def meanFadj (s : State) : Int :=
  let vs := (s.time.history.filter (fun h => s.time.mono ≤ h.1 + s.msCycles 16000)).map (·.2)
  if vs.isEmpty then s.rdI TIME_FADJ else roundHalfEven (vs.foldl (· + ·) 0) vs.length

/-- HOLDOVER is entered: FADJ frozen at the mean, TIME_HOLDOVER raised (R428). -/
def enterHoldover (s : State) : State :=
  let src := s.f TIME_CFG_SRC
  let m := s.meanFadj
  let s1 := ((s.putFadj m).setB TIME_STAT_FLIMIT (s.fadjLimit ≤ |m|)).setF TIME_STAT_STATE tsHOLDOVER
  let s2 := { s1 with time := { s1.time with holdFrom := some s.time.mono, prevOfs := none, below := 0, above := 0 } }
  (s2.wrN TIME_HOLD_MS 0).raise (mkFault srcTIME 0x71 cMINOR 0 [.code src, .sval (s1.rdI TIME_FADJ)])

/-- A step is refused: STEP_PEND, TIME_PEND, the counter and TIME_STEP_REFUSED (R427). -/
def refuseStep (s : State) (ns : Int) : State :=
  ((s.setF TIME_STAT_STEP_PEND 1).wr2 TIME_PEND (wrapNat 64 ns)).bump TIME_CNT_REF
    |>.raise (mkFault srcTIME 0x70 cMAJOR 0 [.sval ns])

/-- The servo runs from ACQUIRE (R420). -/
def enterAcquire (s : State) : State :=
  let s1 := (s.setF TIME_STAT_STATE tsACQUIRE).setF TIME_STAT_STEP_PEND 0
  { s1 with time := { s1.time with below := 0, above := 0, prevOfs := none, accepted := false } }

/-- FREE, the plant selected and a master chosen: the servo starts (R420). -/
def tryAcquire (s : State) : State :=
  if s.tstate = tsFREE ∧ s.plantSelected ∧ s.time.master.isSome then s.enterAcquire else s

/-- The first step after reset is taken without refusal (AUTO_INIT, R420). -/
def firstStepFree (s : State) : Bool := !s.flag TIME_STAT_EVER_SYNC && s.flag TIME_CFG_AUTO_INIT && s.time.fresh

/-- The consecutive counts of R420 after an offset, in ACQUIRE and SYNC. -/
def countSyncs (s : State) (ofs : Int) : State :=
  let below := if |ofs| < s.syncThr then s.time.below + 1 else 0
  let above := if 4 * s.syncThr ≤ |ofs| then s.time.above + 1 else 0
  let s1 := { s with time := { s.time with below := below, above := above } }
  if s.tstate = tsACQUIRE ∧ 16 ≤ below then (s1.setF TIME_STAT_STATE tsSYNC).setF TIME_STAT_EVER_SYNC 1
  else if s.tstate = tsSYNC ∧ 4 ≤ above then s1.setF TIME_STAT_STATE tsACQUIRE
  else s1

/-- An offset has been measured; it is the previous one of the next Sync. -/
def measured (s : State) (ofs : Int) : State := { s with time := { s.time with prevOfs := some ofs, fresh := false } }

/-- A Sync is used: its offset shows, and it is counted (R422). -/
def useSync (s : State) (ns : Int) : State := (s.wr2 TIME_OFS (wrapNat 64 ns)).bump TIME_CNT_SYNC

/-- The first step waits for its boundary; a later offset before it takes its place (R420, R432). -/
def firstOffset (s : State) (ofs : Int) : State := { s with time := { s.time with firstStep := some ofs } }

/-- An offset has been measured with the plant as reference (R420, R422, R425, R427). In ACQUIRE and SYNC a Sync that differs
too much from the previous one is ignored unless the next one confirms it. -/
def newOffset (s : State) (ofs logInt : Int) : State :=
  let ns := roundHalfEven ofs 65536
  let st := s.tstate
  let s1 := s.measured ofs
  if !s.plantSelected then s
  else if s.time.firstStep.isSome then (s1.useSync ns).firstOffset ofs
  else if st = tsACQUIRE ∨ st = tsSYNC then
    if s.firstStepFree then (s1.useSync ns).firstOffset ofs
    else
      let jump := match s.time.prevOfs with | some p => decide (4 * s.syncThr + 65536 * 100000 < |ofs - p|) | none => false
      if jump then s1.countSyncs ofs
      else if s.stepThr ≤ |ofs| then (s1.refuseStep ns).enterHoldover
      else ((s1.useSync ns).servo ofs logInt).countSyncs ofs
  else if st = tsHOLDOVER then
    if s.firstStepFree then ((s1.useSync ns).enterAcquire).firstOffset ofs
    else if |ofs| < s.stepThr then (s1.useSync ns).enterAcquire
    else if s.flag TIME_STAT_STEP_PEND then s1.wr2 TIME_PEND (wrapNat 64 ns)
    else if s.flag TIME_STAT_EVER_SYNC ∨ !s.flag TIME_CFG_AUTO_INIT then s1.refuseStep ns
    else s1
  else s

/-- A Sync whose origin and corrections are complete: its offset, once a path delay has been measured (R422, R432). The
offset of a Sync received in the SYS cycle of a step is discarded. -/
def syncDone (s : State) (rx origin logInt : Int) (t : Nat) : State :=
  let s1 := { s with time := { s.time with lastSync := some (origin, rx) } }
  match s.time.mpd with
  | none => s1
  | some d =>
    if s.time.lastStep = some t ∨ (s.stepDue.isSome ∧ s.time.mono = t) then s1
    else (s1.tryAcquire).newOffset (rx - origin - d) logInt

/-- A message of the time base's domain and transport, with PTP processing on (R421). -/
def ptpOurs (s : State) (domain : Nat) (udp : Bool) : Bool :=
  s.flag TIME_PTP_EN && domain == s.f TIME_PTP_DOMAIN && udp == s.flag TIME_PTP_TRANSPORT

/-- A PTP frame for the time base passes HQ15: with the queue full, or after an L4 reaction, it is dropped and counted (R136,
R141, R151). The time base takes it at once. -/
def ptpIn (s : State) : State × Bool :=
  if s.stopped then (s.bump (HQ_CNT_REF 15), false)
  else
    let p := s.offerOr 15 ⟨64, .block 0⟩
    if p.2 then (p.1.withdraw 15 (fun i => i.body == .block 0), true) else p

/-- The message comes from the chosen master on the OC port (R422). -/
def fromMaster (s : State) (port source : Nat) : Bool :=
  (match s.time.master with | some m => m.identity == source && m.port == port | none => false)

/-- The mean path or link delay is measured (R422). -/
def setMpd (s : State) (d : Int) : State :=
  { s with time := { s.time with mpd := some d } }.wrI TIME_MPD (roundHalfEven d 65536)

/-- Bytes of a message's frame: an Ethernet header and 44 octets, or 54 of a peer-delay message. -/
def ptpLen (kind : Nat) : Nat := if kind = 2 ∨ kind = 3 ∨ kind = 10 then 68 else 58

/-- A message of the time base goes into HQ14, for its port's transmitter (R136); with the queue full it is refused and
counted. -/
def ptpSend (s : State) (x : PtpTx) : State × Bool := s.offerOr 14 ⟨ptpLen x.kind, .ptp x⟩

/-- The master of best rank among those heard (R422); the list is in order of hearing. -/
def bestMaster : List PtpMaster → Option PtpMaster
  | [] => none
  | m :: ms => match bestMaster ms with | some b => if b.rank < m.rank then some b else some m | none => some m

/-- The BMCA's choice takes force: OC port, identity, UTC offset; a change of master or port is marked (R422, R432). -/
def choose (s : State) : State :=
  match bestMaster s.time.known with
  | none => { s with time := { s.time with master := none } }
  | some m =>
    let oldId := s.rd2 TIME_GM
    let portChanged := match s.time.master with | some o => o.port != m.port | none => true
    let anew := match s.time.master with | some o => o.identity != m.identity | none => true
    let s1 := { s with time := { s.time with master := some m, mpd := if portChanged then none else s.time.mpd,
                                             fresh := s.time.fresh || (anew && s.tstate == tsHOLDOVER) } }
      |>.setF TIME_STAT_OC_PORT m.port |>.wr2 TIME_GM m.identity
      |>.setF TIME_UTC_OFFSET m.utc |>.setB TIME_UTC_VALID m.utcValid
    let s2 := if oldId ≠ 0 ∧ oldId ≠ m.identity then
        (s1.hit TIME_STAT_GM_CHANGE).raise
          (mkFault srcTIME 0x72 cINFO 0 [.val (oldId % 4294967296), .val (m.identity % 4294967296)])
      else s1
    s2.tryAcquire

/-- The servo restarts from FREE; FADJ is kept (R420). -/
def restartServo (s : State) : State :=
  let s1 := (s.setF TIME_STAT_STATE tsFREE).setF TIME_STAT_STEP_PEND 0
  { s1 with time := { s1.time with integ := 0, prevOfs := none, below := 0, above := 0, accepted := false, firstStep := none, fresh := true } }

/-- Residence on the monotonic count, scaled by FADJ, in ns × 2^16 (R423). -/
def residence (s : State) (cycles : Nat) : Int := (cycles * s.cycleInc / 65536 : Nat)

end State

/-- A PTP message of the clock's domain is handled by the time base, once HQ15 has passed it (R136, R422). -/
def ptpHandle (m : PtpMsg) (g : State → State) (s : State) : Out :=
  let s0 := s.runTo m.t
  .next (if s0.ptpOurs m.domain m.udp then (let p := s0.ptpIn; if p.2 then g p.1 else p.1) else s0)

/-- PTP_SYNC (R422): a one-step Sync gives its offset; a two-step one waits for its Follow_Up. -/
def execPtpSync (m : PtpMsg) (s : State) : Out :=
  ptpHandle m (fun s =>
    if s.fromMaster m.port m.source then
      let rx := s.rxStamp m
      if m.twoStep then { s with time := { s.time with ownSync := some ⟨m.port, m.source, m.seqId, rx, m.corr, m.t⟩ } }
      else s.syncDone rx (m.origin + m.corr) m.logInt m.t
    else s) s

/-- PTP_FOLLOW_UP (R422): origin time and correction of the Sync that waits. -/
def execPtpFollowUp (m : PtpMsg) (s : State) : Out :=
  ptpHandle m (fun s =>
    match s.time.ownSync with
    | some h =>
      if s.fromMaster m.port m.source ∧ h.source = m.source ∧ h.seqId = m.seqId then
        { s with time := { s.time with ownSync := none } }.syncDone h.rx (m.origin + m.corr + h.corr) m.logInt h.at_
      else s
    | none => s) s

/-- The interval that the master requests has passed since the last request (R422). -/
def State.reqDue (s : State) : Bool :=
  match s.time.reqAt, s.time.reqLog with
  | some a, some l => decide (2 ^ l.toNat * Config.secUnits ≤ (s.time.mono - a) * s.cycleInc * 2 ^ (-l).toNat)
  | _, _ => true

/-- PTP_DELAY_REQ_SEND (R422, R424): Delay_Req, or Pdelay_Req with the peer mechanism, from the OC port at the interval that
the master requests; the departure is compensated by the transmit latency. -/
def execPtpDelayReqSend (departure : Int) (t : Nat) (s : State) : Out :=
  let s0 := s.runTo t
  .next (if s0.flag TIME_PTP_EN ∧ s0.time.master.isSome ∧ s0.reqDue then
    let p := s0.f TIME_STAT_OC_PORT
    let d := departure + 8192 * (s0.f (TIME_PL_LAT_TX p) : Nat)
    let q := s0.time.seqId
    let x := s0.ptpSend ⟨p, 1 + s0.f TIME_PTP_DELAY, q, d / 65536, if s0.flag TIME_PTP_STAMP ∨ s0.flag TIME_PTP_TWO_STEP then 0 else d % 65536⟩
    if x.2 then { x.1 with time := { x.1.time with delaySent := some (q, d), seqId := (q + 1) % 65536, reqAt := some s0.time.mono } } else x.1
  else s0)

/-- PTP_DELAY_RESP (R422): the mean path delay from the last Sync and the Delay_Req it answers, and the interval of requests. -/
def execPtpDelayResp (m : PtpMsg) (s : State) : Out :=
  ptpHandle m (fun s =>
    match s.time.delaySent, s.time.lastSync with
    | some (q, t3), some (t1, t2) =>
      if s.fromMaster m.port m.source ∧ q = m.seqId ∧ !s.flag TIME_PTP_DELAY then
        { s with time := { s.time with delaySent := none, reqLog := some m.logInt } }.setMpd
          (roundHalfEven (t2 - t1 + (m.origin - m.corr) - t3) 2)
      else s
    | _, _ => s) s

/-- PTP_PDELAY_REQ (R421, R424): the request is answered on its port; departure is the answer's. A two-step answer carries the
arrival of the request, and its Follow_Up the departure; the request's correction goes back with it. -/
def execPtpPdelayReq (m : PtpMsg) (departure : Int) (s : State) : Out :=
  ptpHandle m (fun s =>
    if s.flag TIME_PTP_DELAY then
      let rx := s.rxStamp m
      let d := departure + 8192 * (s.f (TIME_PL_LAT_TX m.port) : Nat)
      if s.flag TIME_PTP_TWO_STEP then
        ((s.ptpSend ⟨m.port, 3, m.seqId, rx / 65536, 0⟩).1.ptpSend ⟨m.port, 10, m.seqId, d / 65536, m.corr + d % 65536 - rx % 65536⟩).1
      else if s.flag TIME_PTP_STAMP then (s.ptpSend ⟨m.port, 3, m.seqId, d / 65536, 0⟩).1
      else (s.ptpSend ⟨m.port, 3, m.seqId, d / 65536, m.corr + d % 65536 + (d - rx)⟩).1
    else s) s

/-- PTP_PDELAY_RESP (R421): a one-step answer gives the link delay; a two-step one waits for its Follow_Up. -/
def execPtpPdelayResp (m : PtpMsg) (s : State) : Out :=
  ptpHandle m (fun s =>
    match s.time.delaySent with
    | some (q, t1) =>
      if s.flag TIME_PTP_DELAY ∧ q = m.seqId ∧ m.port = s.f TIME_STAT_OC_PORT then
        let rx := s.rxStamp m
        if m.twoStep then { s with time := { s.time with pdelayHeld := some (q, m.origin, rx, m.corr) } }
        else { s with time := { s.time with delaySent := none } }.setMpd (roundHalfEven (rx - t1 - m.corr) 2)
      else s
    | none => s) s

/-- PTP_PDELAY_RESP_FOLLOW_UP (R421): the departure of the peer's answer completes the measurement. -/
def execPtpPdelayRespFollowUp (m : PtpMsg) (s : State) : Out :=
  ptpHandle m (fun s =>
    match s.time.pdelayHeld, s.time.delaySent with
    | some (q, t2, t4, c), some (_, t1) =>
      if q = m.seqId then
        { s with time := { s.time with pdelayHeld := none, delaySent := none } }.setMpd
          (roundHalfEven ((t4 - t1) - (m.origin - t2) - c - m.corr) 2)
      else s
    | _, _ => s) s

/-- PTP_ANNOUNCE (R422): it enters the BMCA. -/
def execPtpAnnounce (a : Announce) (t : Nat) (s : State) : Out :=
  let s0 := s.runTo t
  let p := s0.ptpIn
  .next (if s0.ptpOurs a.domain a.udp then
    (if p.2 ∧ a.stepsRemoved < 255 then
      let m : PtpMaster := ⟨a.identity, a.rank, a.port, a.utc, a.utcValid, t + a.timeout⟩
      let others := p.1.time.known.filter (fun (k : PtpMaster) => k.identity != a.identity && t < k.expires)
      { p.1 with time := { p.1.time with known := others ++ [m] } }.choose
    else p.1)
  else s0)

/-- ANNOUNCE_TIMEOUT (R420): the announce receipt time-out of the chosen master has passed; another qualified one takes its
place, or HOLDOVER. -/
def execAnnounceTimeout (t : Nat) (s : State) : Out :=
  let s0 := s.runTo t
  .next (match s0.time.master with
    | none => s0
    | some m =>
      if s0.time.mono < m.expires then s0
      else
        let rest := s0.time.known.filter (fun (k : PtpMaster) => k.identity != m.identity && s0.time.mono < k.expires)
        let s1 := { s0 with time := { s0.time with known := rest } }.choose
        if s1.time.master.isNone ∧ (s0.tstate = tsACQUIRE ∨ s0.tstate = tsSYNC) then s1.enterHoldover else s1)

/-- TC_FORWARD (R423): a frame crosses from one PL port to the other; residence is in SYS cycles. Sync, Delay_Req and
Delay_Resp take it into their correctionField, a two-step Sync into its Follow_Up; peer-delay messages never cross. -/
def execTcForward (kind : Nat) (m : PtpMsg) (residence : Nat) (s : State) : Out :=
  let s0 := s.runTo m.t
  let out := 1 - m.port
  let add := s0.residence residence + (if kind = 0 ∧ s0.flag TIME_PTP_DELAY ∧ m.port = s0.f TIME_STAT_OC_PORT then s0.time.mpd.getD 0 else 0)
  .next (if !s0.flag TIME_PTP_TC_EN then s0
    else if kind = 2 ∨ kind = 3 ∨ kind = 10 then s0
    else if kind = 0 ∧ m.twoStep then
      { s0 with time := { s0.time with tcHeld := (HeldSync.mk m.port m.source m.seqId m.rx add m.t :: s0.time.tcHeld).take 16 } }.portSent
        ⟨out, 0, m.seqId, m.origin / 65536, m.corr⟩
    else if kind = 0 ∨ kind = 1 ∨ kind = 9 then s0.portSent ⟨out, kind, m.seqId, m.origin / 65536, m.corr + add⟩
    else if kind = 8 then
      match s0.time.tcHeld.find? (fun (h : HeldSync) => h.source == m.source && h.seqId == m.seqId && h.port == m.port) with
      | some h =>
        { s0 with time := { s0.time with tcHeld := s0.time.tcHeld.filter (· != h) } }.portSent
          ⟨out, 8, m.seqId, m.origin / 65536, m.corr + h.corr⟩
      | none => (s0.bump TIME_CNT_TC).portSent ⟨out, 8, m.seqId, m.origin / 65536, m.corr⟩
    else s0.portSent ⟨out, kind, m.seqId, m.origin / 65536, m.corr⟩)

/-- PLANT_FRAME_RX (R422): another frame addressed to the LX-1296 goes to HQ15, for dispatch by EtherType; with HQ15 full,
or no handler for its EtherType, it is dropped and counted (R141). -/
def execPlantFrameRx (etherType : Nat) (bytes : List Byte) (s : State) : Out :=
  .next (match s.st.etherRoutes.find? (fun (r : Route) => r.code == etherType) with
    | some r => (s.putWork 15 { src := 15, handler := r.handler, key := r.key, group := r.group, payload := bytes, entry := s.time.now, late := false }).1
    | none => s.bump (HQ_CNT_REF 15))

/-- TIME_ACCEPT (R427): with its key, the pending step is accepted; without STEP_PEND, ACC_REF. -/
def execTimeAccept (key : Nat) (s : State) : Out :=
  .next (if key ≠ 0x544D ∨ !s.mapOpen then s
    else if s.flag TIME_STAT_STEP_PEND then { s with time := { s.time with accepted := true } }
    else s.hit TIME_STAT_ACC_REF)

/-- What is due at a place of disciplined time keeps its place on the grid as the time steps: ring cycles and raw samples of
acquisition (R426). -/
def State.moveGrid (s : State) (ms : Int) : State :=
  let mv := fun (x : Nat) => ((x : Int) + ms * Config.msUnits).toNat
  { s with rings := s.rings.map (fun x => { x with nextDep := mv x.nextDep }), acq := { s.acq with next := s.acq.next.map mv } }

/-- A step that is due at the present boundary is taken (R426). -/
def State.takeStep (s : State) : State :=
  match s.stepDue with
  | none => s
  | some ms =>
    let now' := ((s.time.now : Int) + ms * Config.msUnits).toNat
    let s1 := { s with time := { s.time with now := now', firstStep := none, lastStep := some s.time.mono, prevOfs := none } }
    let s2 := if s.time.firstStep.isSome then s1 else s1.enterAcquire
    ((((s2.moveGrid ms).wrI TIME_LASTSTEP ms).hit TIME_STAT_STEPPED).masterTimeStep ms).raise (mkFault srcTIME 0x73 cINFO 0 [.sval ms])

/-- TIME_STEP (R426, R427): at a millisecond-frame boundary disciplined time moves by −offset rounded to a whole
millisecond. The commands of that boundary take the step first: what they stamp carries the stepped time. -/
def execTimeStep (s : State) : Out := .next s.takeStep

/-- TIME_CFG_WRITE (R416, R420): FADJ stays within the limit written; a new SRC restarts the servo in FREE; otherwise only the fields change. -/
def execTimeCfgWrite (value : Word) (s : State) : Out :=
  let s0 := s.wr TIME_CFG (value &&& 0xFFFF1FFF#32)
  let v := s0.rdI TIME_FADJ
  let s1 := if |v| ≤ s0.fadjLimit then s0 else s0.putFadj (v.sign * s0.fadjLimit)
  .next (if !s.mapOpen then s else if s1.f TIME_CFG_SRC = s.f TIME_CFG_SRC then s1 else s1.restartServo)

/-- TIME_PTP_WRITE (R421): the protocol settings change and the servo restarts; with EN 0, or in another domain or on
another transport, no master is kept. -/
def execTimePtpWrite (value : Word) (s : State) : Out :=
  let s1 := (s.wr TIME_PTP (value &&& 0x3FFF#32)).restartServo
  .next (if !s.mapOpen then s
    else if s1.flag TIME_PTP_EN ∧ s1.f TIME_PTP_DOMAIN = s.f TIME_PTP_DOMAIN ∧ s1.f TIME_PTP_TRANSPORT = s.f TIME_PTP_TRANSPORT then s1
    else { s1 with time := { s1.time with master := none, known := [], ownSync := none, delaySent := none, pdelayHeld := none } })

/-- TIME_RING_HOLDOVER (R420): no valid in-window ring frame for 4 cycles on any ring. -/
def execTimeRingHoldover (s : State) : Out :=
  let silent := fun (r : Fin 2) => match (s.rings.get r).heard with
    | some x => decide (4 * s.ringPeriod r ≤ (s.time.mono - x.at_) * s.cycleInc)
    | none => true
  .next (if s.tstate = tsRING ∧ silent 0 = true ∧ silent 1 = true then s.enterHoldover else s)

/-- TIME_NOW_READ (R418): a read of TIME_NOW_NS captures sub-nanoseconds and seconds. -/
def execTimeNowRead (s : State) : Out :=
  let t := s.time.now
  .next (if !s.mapOpen then { s with rdData := 0 }
  else { (((s.wrN TIME_NOW_NS t.ns).wrN TIME_NOW_SUB t.sub).wr2 TIME_NOW_SEC t.sec) with rdData := BitVec.ofNat 32 t.ns })

end Sys2Proof.Machine
end

