-- ==== Sys2Proof/Machine/Ring.lean ====
section
/-! DEFINITION. The Kesyn rings (chapters 14 and 15): staging, the cycle at the master, returned frames, service messages,
claims, breaks and recovery, and the unit as a node. -/

namespace Sys2Proof.Machine

/-- Ring states (KRn_STAT.STATE). -/
def rIDLE : Nat := 0
def rCLAIM : Nat := 1
def rMASTER : Nat := 2
def rNODE : Nat := 3
def rSILENT : Nat := 4

/-- Redundancy modes of a frame (R368). -/
def fHEAL : Nat := 0
def fWIDE : Nat := 1
def fNARROW : Nat := 2

/-- The value of a key in an association list. -/
def assoc {α : Type} (k : Nat) (xs : List (Nat × α)) : Option α := (xs.find? (fun (x : Nat × α) => x.1 == k)).map (·.2)

/-- The list with a key set. -/
def assocSet {α : Type} (k : Nat) (v : α) (xs : List (Nat × α)) : List (Nat × α) :=
  (k, v) :: xs.filter (fun (x : Nat × α) => x.1 != k)

/-- Bytes put over others from an offset on. -/
def overlay (bs : List Byte) (off : Nat) (xs : List Byte) : List Byte := bs.take off ++ xs ++ bs.drop (off + xs.length)

namespace State

def ring (s : State) (r : Fin 2) : RingState := s.rings.get r
def modRing (s : State) (r : Fin 2) (g : RingState → RingState) : State := { s with rings := s.rings.modify r g }
def rstate (s : State) (r : Fin 2) : Nat := s.f (KR_STAT_STATE r)
/-- HQ0 or HQ1, the staging of a ring. -/
def hqOf (r : Fin 2) : Fin 16 := if r = 0 then 0 else 1
def wideRing (s : State) (r : Fin 2) : Bool := s.f (KR_CFG_MODE r) == 1
/-- The acting role (RED_STAT.ROLE): 0 SINGLE, 1 ACTIVE, 2 STANDBY. -/
def role (s : State) : Nat := s.f RED_STAT_ROLE

/-- An armed swap is no longer armed: the shadow is kept, the cause stands in CFG_ERR (R63, R64). -/
def dropSwap (s : State) (code : Nat) : State := ((s.setF CFG_STAT_LDR 4).hit CFG_STAT_ABORTED).wrN CFG_ERR code

/-- An armed swap is abandoned: the mode returns to RUN under the running image (R64), and a pending switch code is judged
(R344). -/
def abandonSwap (s : State) (code cause : Nat) : State :=
  if s.swapArmed then
    let s1 := s.dropSwap code
    (if s.mode = mCHANGEOVER then s1.enterMode mRUN cause else s1).dropPending
  else s

-- ===== staging (R30, R374) =====

/-- A group of an axis is not ON: its records leave with ENABLE cleared (R338, R460). -/
def clearsEnable (s : State) (a : Nat) : Bool :=
  (s.groupOf a < 4 && s.f (SAFE_STO_STAT_STATE (s.groupOf a)) != 2) || s.l2On a

/-- An OUT payload with ENABLE cleared in the records of drives whose group is not ON (R338). -/
def maskEnable (s : State) (g : RSeg) (pay : List Byte) : List Byte :=
  g.recs.foldl (fun (p : List Byte) (x : Nat × Nat) =>
    if s.clearsEnable x.1 then p.set (x.2 + 14) ((p.getD (x.2 + 14) 0) &&& 0xFE) else p) pay

/-- The segments of a schedule, each once, whatever layouts hold it (R408). -/
def allSegs (d : RingDef) : List RSeg :=
  (d.wide0 ++ d.wide1).foldl (fun (l : List RSeg) (g : RSeg) => if l.any (fun (x : RSeg) => x.idx == g.idx) then l else l ++ [g]) d.segs

/-- The SYS cycle in which staging closes for the next departure, t_STAGE before it, once it is reached (R30). -/
def closeMono (s : State) (r : Fin 2) : Nat :=
  s.time.mono - (s.time.now + 5000 * Config.nsUnits - (s.ring r).nextDep) / s.cycleInc

/-- The staged items of a segment: offset, bytes, and when they were written. -/
def stagedOf (s : State) (r : Fin 2) (idx : Nat) : List (Nat × List Byte × Nat) :=
  (s.queue (hqOf r)).items.filterMap (fun (i : QItem) => match i.body with
    | .staged _ n off bs t => if n = idx then some (off, bs, t) else none
    | _ => none)

/-- The payload of a segment at a closure (R30, R40): the items staged before that cycle, oldest first, over the payload sent
last. With an item written in that cycle and none before it, the previous output; with a refused one silt (R141). -/
def stagedPay (s : State) (r : Fin 2) (g : RSeg) (at_ : Nat) : Option (List Byte) :=
  let items := s.stagedOf r g.idx
  let due := items.filter (fun x => decide (x.2.2 < at_))
  let last := assoc g.idx (s.ring r).lastPay
  if (s.ring r).refused.any (fun (x : Nat × Nat) => x.1 == g.idx && decide (x.2 < at_)) then none
  else if due.isEmpty then (if items.any (fun x => x.2.2 == at_) then last else none)
  else
    let base := last.getD (List.replicate (g.len - 4) 0)
    some ((due.foldl (fun (p : List Byte) (x : Nat × List Byte × Nat) => overlay p x.1 x.2.1) base).take (g.len - 4))

/-- A byte of the snapshot that is streamed: the header and the firmware region as captured, the mark; the layout of the
rest is not stated (R440). -/
def snapByte (s : State) (seq len off : Nat) : Byte :=
  if off < 0x1000 ∨ (0x64000 ≤ off ∧ off + 8 < len) then s.nv.loamOut.get 0 off
  else if len ≤ off + 4 then BitVec.ofNat 8 ((4294967295 - seq % 4294967296) / 256 ^ (off + 4 - len))
  else BitVec.ofNat 8 (Config.unstated 17 (seq * 16777216 + off))

/-- A snapshot has been streamed whole: it is the newest one sent. -/
def streamed (s : State) (seq len : Nat) (hash : List Word) (time : Instant) : State :=
  let s1 := (((s.bump RED_CNT_SENT).wrN RED_SNAP seq).wrN RED_SNAP_LEN len).wrWords (RED_SNAP_HASH 0) hash
  { s1 with pair := { s1.pair with stream := none, time := some time } }

/-- The checkpoint link engine's chunk for a ring: the oldest item of HQ13 (R442). -/
def nextChunk (s : State) : Option (List Byte × State) :=
  match s.pair.stream, s.take 13 with
  | some (seq, len, hash, time), some (⟨_, .chunk off n⟩, s') =>
    some (natLE 2 seq ++ natLE 2 n ++ natLE 4 off ++ (List.range n).map (fun i => s.snapByte seq len (off + i)),
      if len ≤ off + n then s'.streamed seq len hash time else s')
  | _, _ => none

/-- Payloads of the segments that are closed for the next departure, by segment. -/
abbrev SegPays := List (Nat × List Byte)

/-- OUT segments: what is staged over what was sent last (R30). -/
def outPays (s : State) (r : Fin 2) (at_ : Nat) : SegPays :=
  (allSegs (s.ringDef r)).foldl (fun (m : SegPays) (g : RSeg) =>
    if g.kind = 1 then (match s.stagedPay r g at_ with | some p => assocSet g.idx (s.maskEnable g p) m | none => m) else m) []

/-- SOUT segments: the next telegram of their connection (R338). -/
def soutPay (x : State × SegPays) (g : RSeg) : State × SegPays :=
  match g.conn.bind x.1.safConn? with
  | some c => ((x.1.txTelegram c).2, assocSet g.idx (x.1.txTelegram c).1 x.2)
  | none => x

/-- The CKPT segment: the next chunk of the snapshot that streams; none in CHANGEOVER (R389, R442). -/
def ckptPay (x : State × SegPays) (seg : Option RSeg) : State × SegPays :=
  match seg with
  | some g =>
    if x.1.mode = mCHANGEOVER then x
    else match x.1.nextChunk with
      | some (b, t) => (t, assocSet g.idx b x.2)
      | none => x
  | none => x

/-- With no message of its own waiting, the unit's next message down is the oldest one that firmware has staged (R385). -/
def pullSvc (s : State) (r : Fin 2) : State :=
  if (s.ring r).svcDn.isEmpty then
    match (s.queue (hqOf r)).items.findIdx? (fun (i : QItem) => match i.body with | .svc _ _ => true | _ => false) with
    | some ix => match (s.queue (hqOf r)).items.getD ix ⟨0, .block 0⟩ with
      | ⟨len, .svc n m⟩ =>
        ((s.modQueue (hqOf r) (fun q => { q with items := q.items.eraseIdx ix })).freeCells (hqOf r) (QItem.mk len (.svc n m)).cells).modRing r
          (fun y => { y with svcDn := [m], svcFrag := 0 })
      | _ => s
    | none => s
  else s

/-- Staging closes: every segment's payload for the next departure, the queue emptied of the items staged before the closing
cycle (R30, R40, R374); both Hardpan channels build each outgoing telegram (R338). A unit in CHANGEOVER sends no chunk (R389). -/
def closeStaging (s : State) (r : Fin 2) : State :=
  let at_ := s.closeMono r
  let d := allSegs (s.ringDef r)
  let p := (d.filter (fun (g : RSeg) => g.kind == 3)).foldl soutPay (s, s.outPays r at_)
  let q := ckptPay p (d.find? (fun (g : RSeg) => g.kind == 7))
  let mine := fun (i : QItem) => match i.body with | .staged _ _ _ _ t => decide (t < at_) | _ => false
  ((q.1.withdraw (hqOf r) mine).modRing r (fun x => { x with
    closed := some q.2, refused := x.refused.filter (fun (y : Nat × Nat) => decide (at_ ≤ y.2)) })).pullSvc r

-- ===== the frame (R367 to R375) =====

/-- A segment header and payload of a length (R372, R373). -/
def segBytes (valid : Bool) (seq len : Nat) (pay : List Byte) : List Byte :=
  natLE 1 (b2n valid) ++ natLE 1 0 ++ natLE 2 seq ++ ((pay ++ List.replicate len 0).take (len - 4))

/-- One fragment of a message down, with the grant of the frame (R384). -/
def svcFragment (m : SvcMsg) (k grant : Nat) : List Byte :=
  let data := (m.data.drop (238 * k)).take 238
  natLE 2 m.node ++ natLE 1 m.type ++ natLE 1 (k + 16 * min 15 ((m.data.length - 1) / 238)) ++ natLE 4 m.tag ++ natLE 2 data.length
    ++ natLE 2 grant ++ natLE 2 0 ++ data

/-- What SVC_DN carries in a frame (R384, R385): CLOSE up to C − 1 (R411), else the next fragment of the message in turn, else
the grant alone; without any of them silt. -/
def svcDown (s : State) (r : Fin 2) (grant : Option Nat) : List Byte × State :=
  let x := s.ring r
  let g := grant.getD 65535
  match x.closeAt, x.svcDn with
  | some c, _ =>
    if c = x.nextCyc then (if grant.isNone then [] else natLE 10 0 ++ natLE 2 g, s)
    else (svcFragment { node := 0x3FF, type := 6, tag := c, data := natLE 4 c } 0 g, s)
  | none, [] => (if grant.isNone then [] else natLE 10 0 ++ natLE 2 g, s)
  | none, m :: ms =>
    (svcFragment m x.svcFrag g,
      s.modRing r (fun y => if min 15 ((m.data.length - 1) / 238) ≤ x.svcFrag then { y with svcDn := ms, svcFrag := 0 }
        else { y with svcFrag := x.svcFrag + 1 }))

/-- The node granted SVC_UP: the next in ascending order after the last one whose SVC_PEND was 1 (R385). -/
def nextGrant (s : State) (r : Fin 2) : Option Nat :=
  let after := (s.ring r).grant
  (List.range 512).findSome? (fun i =>
    let a := (after + 1 + i) % 512
    if s.flag (KR_NODE_PRESENT r a) ∧ s.flag (KR_NODE_SVC_PEND r a) then some a else none)

/-- The segment area of a layout, and the SEQs it carries (R373, R374). -/
def buildArea (s : State) (r : Fin 2) (segs : List RSeg) (pays : List (Nat × List Byte)) (svc : List Byte) : List Byte :=
  segs.foldl (fun (area : List Byte) (g : RSeg) =>
    let last := (assoc g.idx (s.ring r).txSeq).getD 0
    let bs := if g.kind = 1 ∨ g.kind = 3 ∨ g.kind = 7 then
        (match assoc g.idx pays with
         | some p => segBytes true ((last + 1) % 65536) g.len p
         | none => segBytes false last g.len [])
      else if g.kind = 5 then segBytes (svc != []) ((last + 1) % 65536) g.len svc
      else segBytes false 0 g.len []
    overlay area g.off bs) (List.replicate (s.ringDef r).area 0)

/-- A staged payload counts as sent: SEQ and payload of its segment move on; one without a place in the layout is dropped
and counted (R373, R408). -/
def markSent (s : State) (r : Fin 2) (segs : List RSeg) (pays : List (Nat × List Byte)) : State :=
  pays.foldl (fun (s : State) (p : Nat × List Byte) =>
    if segs.any (fun (g : RSeg) => g.idx == p.1) then
      s.modRing r (fun x => { x with txSeq := assocSet p.1 (((assoc p.1 x.txSeq).getD 0 + 1) % 65536) x.txSeq,
                                     lastPay := assocSet p.1 p.2 x.lastPay })
    else s.bump (KR_CNT_NDROP r)) s

/-- SVC_DN has carried a message or a grant: its SEQ moves on (R373). -/
def markSvc (s : State) (r : Fin 2) (segs : List RSeg) (svc : List Byte) : State :=
  match segs.find? (fun (g : RSeg) => g.kind == 5) with
  | some g => if svc = [] then s else s.modRing r (fun x => { x with txSeq := assocSet g.idx (((assoc g.idx x.txSeq).getD 0 + 1) % 65536) x.txSeq })
  | none => s

-- ===== accounting of a cycle (R375, R381, R401, R404) =====

/-- The segments of the layout that the present cycle's frames follow (R408). -/
def sentSegs (s : State) (r : Fin 2) : List RSeg :=
  let wide := fun (c : Option RCopy) => match c with | some k => k.f.mode == fWIDE | none => false
  if wide (s.ring r).cp || wide (s.ring r).cs then allSegs { s.ringDef r with segs := [] } else (s.ringDef r).segs

/-- The IN segments of the present cycle. -/
def sentIns (s : State) (r : Fin 2) : List RSeg := (s.sentSegs r).filter (fun (g : RSeg) => g.kind == 2)

/-- IN records age by a ring cycle where they were not fresh (R179). -/
def ageAxes (s : State) (r : Fin 2) : State :=
  ((s.sentIns r).flatMap (fun (g : RSeg) => g.recs.map (·.1))).foldl (fun (s1 : State) a =>
    if (s.ring r).fresh.contains a then (s1.setF (TILE_FB_STAT_AGE a) 0).setF (TILE_FB_STAT_AGED a) 0
    else (s1.setF (TILE_FB_STAT_AGE a) (min 255 (s1.f (TILE_FB_STAT_AGE a) + 1))).setF (TILE_FB_STAT_AGED a) 1) s

/-- Silt and activity of every node after a returned cycle; JOINED (R375, R401). -/
def countNodes (s : State) (r : Fin 2) : State :=
  let d := s.ringDef r
  let ins := s.sentIns r
  let valid := (s.ring r).valid
  let taken := (s.ring r).taken
  let s1 := s.bumpBy (KR_CNT_SILT r) (ins.filter (fun (g : RSeg) => !taken.contains g.idx)).length
  let s2 := d.nodes.foldl (fun (s : State) n =>
    let mine := ins.filter (fun (g : RSeg) => g.node == n)
    let silent := mine.all (fun (g : RSeg) => !taken.contains g.idx)
    let first := match mine with | g :: _ => valid.contains g.idx | [] => false
    (s.setB (KR_NODE_ACTIVE r n) first).setF (KR_NODE_SILT r n) (if silent then min 255 (s.f (KR_NODE_SILT r n) + 1) else 0)
      |>.modRing r (fun x => if silent then x else { x with siltRaised := x.siltRaised.filter (· != n) })) s1
  let lost := d.nodes.any (fun n => s2.f (KR_WIN_NSILT r) ≤ s2.f (KR_NODE_SILT r n))
  let all := d.nodes.all (fun n => s2.flag (KR_NODE_ACTIVE r n))
  if lost then s2.setF (KR_RING_JOINED r) 0 else if all then s2.setF (KR_RING_JOINED r) 1 else s2

/-- The PAIR segment of a returned cycle (R439, R449, R453). -/
def pairCycle (s : State) (r : Fin 2) : State :=
  let open_ := s.flag (KR_RING_OPEN r)
  let s1 := s.modRing r (fun x => { x with pairSeen := false, pairMiss := if x.pairSeen then 0 else x.pairMiss + 1,
                                           parts := if open_ && !x.pairSeen && x.pairArmed then x.parts + 1 else 0 })
  let s2 := if (s.ring r).pairSeen then { s1 with pair := { s1.pair with peerLost := s1.pair.peerLost.filter (· != r.val) } } else s1
  if s.role = 1 then s2.setB RED_STAT_PEER ((s.ring 0).pairSeen || (s.ring 1).pairSeen) else s2

/-- A copy that has not returned is missing: counted, raised (R381). -/
def missCopy (s : State) (r : Fin 2) (f : RFrame) : State :=
  ((s.bump (KR_CNT_MISS r)).hit (KR_STAT_MISS r)).raise (mkFault (srcKR r) 0x60 cMINOR 0 [.inst r, .val f.cycle])

/-- The cycle's copies have all returned, or the next departure has come: its accounting is done once. -/
def finishCycle (s : State) (r : Fin 2) : State :=
  let x := s.ring r
  if x.done then s
  else
    let late := fun (s : State) (c : Option RCopy) => match c with
      | some k => if k.got ∨ k.missing then s else s.missCopy r k.f
      | none => s
    let got := fun (c : Option RCopy) => match c with | some k => k.got | none => false
    let any := got x.cp || got x.cs
    let s1 := late (late s x.cp) x.cs
    let s2 := (s1.ageAxes r).modRing r (fun y => { y with done := true, noCopy := if any then 0 else y.noCopy + 1 })
    if any then (s2.countNodes r).pairCycle r else s2

/-- Every copy sent in this cycle has returned or is counted missing. -/
def allBack (s : State) (r : Fin 2) : Bool :=
  let ok := fun (c : Option RCopy) => match c with | some k => k.got || k.missing | none => true
  ok (s.ring r).cp && ok (s.ring r).cs

-- ===== departure (R364, R403, R406, R409) =====

/-- What the next departure is: mode of the frame and whether it runs open (R400, R403, R409, R411). -/
def decide_ (s : State) (r : Fin 2) : Nat × Bool :=
  let x := s.ring r
  let first := x.cp.isNone && x.cs.isNone
  let links := s.flag (KR_STAT_LINK_P r) && s.flag (KR_STAT_LINK_S r)
  let atC := x.closeAt == some x.nextCyc
  if s.wideRing r then
    let got := fun (c : Option RCopy) => match c with | some k => k.got | none => false
    let stay := s.f (KR_STAT_MODE r) == fWIDE && got x.cp && got x.cs && links
    if (if first then x.closedFound == some true && links else atC || stay) then (fWIDE, false) else (fNARROW, true)
  else if (if first then x.closedFound == some true else atC || x.atS) then (fHEAL, false) else (fHEAL, true)

/-- The segments of the layout that a frame follows (R408). -/
def layout (s : State) (r : Fin 2) (mode frame : Nat) : List RSeg :=
  let d := s.ringDef r
  if mode = fWIDE then (if frame = 0 then d.wide0 else d.wide1) else d.segs

/-- The frame that a departure sends from a port, with the RTT of that port (R364, R368). -/
def cycleFrame (s : State) (r : Fin 2) (onS : Bool) (mode frame rtt : Nat) (pays : List (Nat × List Byte)) (svc : List Byte) : RFrame :=
  let x := s.ring r
  { type := 0, epoch := s.f (KR_EPOCH_EPOCH r), cycle := x.nextCyc, sid := s.rdN (KR_SID r), mode := mode, frame := frame,
    k := max 1 (s.f (KR_CFG_K r)), source := (Config.ringPort r onS).toNat, tdep := (x.nextDep + 200 * Config.nsUnits) / Config.nsUnits, rtt := rtt,
    area := s.buildArea r (s.layout r mode frame) pays svc }

/-- What the ring holds once a frame has departed: the copies sent, the next boundary and CYCLE, and a close that comes with
this CYCLE (R411). A round trip is measured anew for the next frame (R368). -/
def departed (s : State) (r : Fin 2) (cp cs : Option RCopy) : State :=
  let x := s.ring r
  let closes : Bool := x.closeAt == some x.nextCyc
  let s1 := s.modRing r (fun y => { y with
    cp := cp, cs := cs, atS := false, valid := [], taken := [], fresh := [], done := false, closed := none, rttP := 0, rttS := 0,
    firstAt := some (y.firstAt.getD s.time.mono), wired := if y.firstAt.isNone then some (y.closedFound == some true) else y.wired })
  let s2 := s1.modRing r (fun y => { y with nextDep := y.nextDep + s.ringPeriod r, nextCyc := (y.nextCyc + 1) % 4294967296, closedFound := none })
  if closes then (s2.modRing r (fun y => { y with closing := some x.nextCyc, closeAt := none })).setF (KR_RING_CLOSE_PEND r) 0 else s2

/-- The registers that tell of the frame sent (R364, R403, R404, R409). -/
def showCycle (s : State) (r : Fin 2) (mode : Nat) (open_ cp cs : Bool) : State :=
  let s1 := ((s.wrN (KR_CYC r) (s.ring r).nextCyc).setF (KR_STAT_MODE r) mode).setB (KR_RING_OPEN r) open_
  ((s1.setB (KR_RING_NARROW r) (mode == fNARROW)).setB (KR_RING_COPY_P r) cp).setB (KR_RING_COPY_S r) cs

/-- Entry to open operation is counted and raised (R403, R409, R412) with the loop addresses known at that departure: that of
the P copy returned last; an armed swap is abandoned (R64). -/
def enterOpen (s : State) (r : Fin 2) (cyc : Nat) : State :=
  let s1 := ((s.abandonSwap 0x15 0).bump (KR_CNT_OPEN r)).modRing r (fun y => { y with closing := none })
  let s2 := (s1.setF (KR_BRK_LOOP_P r) (s1.f (KR_LOOP_LOOP_ADDR r))).setF (KR_BRK_LOOP_S r) 65535
  if s.wideRing r then s2.raise (mkFault (srcKR r) 0x66 cMAJOR 0 [.inst r, .val cyc])
  else s2.raise (mkFault (srcKR r) 0x65 cMAJOR 0 [.inst r, .inst (s2.f (KR_BRK_LOOP_P r)), .val (s2.f (KR_BRK_LOOP_S r))])

/-- The node that the frame grants is the last one granted. -/
def takeGrant (s : State) (r : Fin 2) (g : Option Nat) : State :=
  match g with
  | some n => s.modRing r (fun y => { y with grant := n })
  | none => s

/-- The CYCLE frame departs (R364, R374, R403, R406). -/
def depart (s : State) (r : Fin 2) : State :=
  let x := s.ring r
  let dec := s.decide_ r
  let wide : Bool := dec.1 == fWIDE
  let g := s.nextGrant r
  let p := s.svcDown r g
  let s1 := p.2.takeGrant r g
  let pays := x.closed.getD []
  let upP : Bool := !dec.2 || s1.flag (KR_STAT_LINK_P r)
  let upS : Bool := dec.2 && s1.flag (KR_STAT_LINK_S r)
  let cp : Option RCopy := if upP then some { f := s1.cycleFrame r false dec.1 0 x.rttP pays p.1 } else none
  let cs : Option RCopy := if wide then some { f := s1.cycleFrame r true dec.1 1 x.rttP pays [] }
    else if upS then some { f := s1.cycleFrame r true dec.1 0 x.rttS pays p.1 } else none
  let segs := if wide then allSegs { s1.ringDef r with segs := [] } else (s1.ringDef r).segs
  let wasOpen := s1.flag (KR_RING_OPEN r)
  let s2 := (((s1.markSent r segs pays).markSvc r segs p.1).showCycle r dec.1 dec.2 cp.isSome cs.isSome).departed r cp cs
  let s3 := if r = 0 ∧ x.firstAt.isNone ∧ s.mode = mTAKEOVER then s2.wrN RED_TK_CYC x.nextCyc else s2
  if dec.2 ∧ !wasOpen then s3.enterOpen r x.nextCyc else s3

-- ===== returned frames (R375, R378 to R381, R404) =====

/-- A remote feedback record (R178), fresh or not (R179). -/
def takeRecord (s : State) (r : Fin 2) (a : Nat) (bs : List Byte) : State :=
  let rec_ : RmtRec := { pos := signed 32 (leNat (bs.take 4)), tsamp := leNat ((bs.drop 4).take 4),
                         status := leNat ((bs.drop 8).take 2), tq := signed 16 (leNat ((bs.drop 10).take 2)) }
  if h : a < 96 then
    let t := s.tiles.get ⟨a, h⟩
    let new : Bool := rec_.status.testBit 0 && (match t.rmt with | some q => q.tsamp != rec_.tsamp | none => true)
    if new then
      (s.modTile ⟨a, h⟩ (fun t => { t with rmtPrev := t.rmt, rmt := some rec_ })).modRing r (fun x => { x with fresh := a :: x.fresh })
    else s
  else s

/-- The PAIR record of the standby (R439). -/
def takePair (s : State) (r : Fin 2) (bs : List Byte) : State :=
  (s.modRing r (fun x => { x with pairSeen := true, pairArmed := (leNat (bs.take 1)).testBit 0 })).wrN RED_PEER (leNat ((bs.drop 4).take 4))

/-- Messages handled by the unit itself (R386, R413). -/
def identMsg (s : State) (r : Fin 2) (node : Nat) (data : List Byte) : State :=
  s.modRing r (fun x => { x with idents := assocSet node data x.idents })

/-- Every node of a schedule holds its pending layout (R57). -/
def nodesAcked (s : State) (i : Image) : Bool :=
  i.st.rings.all (fun (d : RingDef) => d.nodes.all (fun n => s.flag (KR_NODE_PEND_ACK d.ring n)))

/-- An image becomes the shadow (R57). -/
def holdShadow (s : State) (i : Image) : State :=
  ((((((({ s with cfg := { s.cfg with shadow := some i, nodesFor := none, loading := none } }.setF CFG_STAT_LDR 4).setF
    CFG_STAT_SHADOW_VALID 1).setF CFG_STAT_SHADOW_SLOT i.slot).setF CFG_STAT_BUSY 0).hit CFG_STAT_DONE).wrN CFG_ERR 0).wrN
    CFG_SH_SID i.sid).wrWords (CFG_SH_HASH 0) i.hash

/-- LAYOUT_ACK: the pending layout of a schedule is held in full by a node (R58, R386); with the last one a shadow load
ends (R57). -/
def layoutAck (s : State) (r : Fin 2) (node sid : Nat) : State :=
  let want := match s.cfg.nodesFor with
    | some i => i.sid
    | none => match s.cfg.shadow with | some i => i.sid | none => s.rdN (KR_SID r)
  if sid = want ∧ node < 512 then
    let s1 := s.setF (KR_NODE_PEND_ACK r node) 1
    match s.cfg.nodesFor with
    | some i => if s1.nodesAcked i then s1.holdShadow i else s1
    | none => s1
  else s

/-- A pending close is abandoned: CLOSE_READY clears and open operation goes on (R412). -/
def abandonClose (s : State) (r : Fin 2) : State :=
  ((s.modRing r (fun x => { x with closeAt := none })).setF (KR_RING_CLOSE_READY r) 0).setF (KR_RING_CLOSE_PEND r) 0

/-- LINK: a change restarts the interval of R410 and withdraws CLOSE_READY; a pending close is abandoned (R412). -/
def linkMsg (s : State) (r : Fin 2) (node : Nat) (p q loop : Bool) : State :=
  let old := (s.ring r).links.find? (fun (x : NodeLink) => x.node == node)
  let same : Bool := match old with | some x => x.p == p && x.s == q && x.loop == loop | none => false
  if same then s
  else
    let entry : NodeLink := { node := node, p := p, s := q, loop := loop, at_ := s.time.mono }
    let rest := fun (x : RingState) => x.links.filter (fun (y : NodeLink) => y.node != node)
    (s.modRing r (fun x => { x with links := entry :: rest x })).abandonClose r

/-- A message of type 0x10 to 0xFF is put into HQ2 or HQ3; without a route or cells it is dropped and counted (R141, R386). -/
def handlerMsg (s : State) (r : Fin 2) (m : SvcMsg) : State :=
  let drop := fun (s : State) => (s.bump (KR_CNT_SVC r)).raise (mkFault (srcKR r) 0x64 cINFO 0 [.inst r, .code m.type])
  match s.st.svcRoutes.find? (fun (x : Route) => x.code == m.type) with
  | none => drop s
  | some t =>
    let w : Work := {
      src := 2 + r.val, handler := t.handler, key := t.key, group := t.group,
      payload := natLE 2 m.node ++ natLE 1 m.type ++ natLE 1 0 ++ natLE 4 m.tag ++ m.data, entry := s.time.now, late := false }
    let p := if r = 0 then s.putWork 2 w else s.putWork 3 w
    if p.2 then p.1 else drop p.1

/-- A complete service message acts by its type (R386, R413). -/
def svcMessage (s : State) (r : Fin 2) (m : SvcMsg) : State :=
  if m.type = 1 then s.identMsg r m.node m.data
  else if m.type = 3 then s.layoutAck r m.node (leNat (m.data.take 4))
  else if m.type = 5 then
    let v := leNat (m.data.take 2)
    s.linkMsg r m.node (v.testBit 0) (v.testBit 1) (v.testBit 2)
  else if 0x10 ≤ m.type then s.handlerMsg r m
  else s

/-- A fragment of SVC_UP: the message acts when its last fragment has come in order (R384, R385). -/
def takeSvcUp (s : State) (r : Fin 2) (pay : List Byte) : State :=
  let src := leNat (pay.take 2)
  let type := leNat ((pay.drop 2).take 1)
  let frag := leNat ((pay.drop 3).take 1)
  let tag := leNat ((pay.drop 4).take 4)
  let data := (pay.drop 12).take (leNat ((pay.drop 8).take 2))
  let k := frag % 16
  let last := frag / 16
  let mine := fun (x : SvcMsg × Nat × Nat) => x.1.node == src && x.1.tag == tag && x.1.type == type
  let old := (s.ring r).svcUp.find? mine
  let have_ := match old with | some x => x.2.1 | none => 0
  if k ≠ have_ then s
  else
    let m : SvcMsg := { node := src, type := type, tag := tag, data := (match old with | some x => x.1.data | none => []) ++ data }
    let s1 := s.modRing r (fun x => { x with svcUp := x.svcUp.filter (fun y => !mine y) })
    if last ≤ k then s1.svcMessage r m else s1.modRing r (fun x => { x with svcUp := (m, k + 1, last) :: x.svcUp })

/-- The flags of a node's first IN segment (R372, R380). -/
def nodeFlags (s : State) (r : Fin 2) (n flags : Nat) : State :=
  let drift := flags.testBit 1
  let s1 := ((s.setB (KR_NODE_DRIFT r n) drift).setB (KR_NODE_SVC_PEND r n) (flags.testBit 2)).setB (KR_NODE_WARN r n) (flags.testBit 3)
  if drift then
    let s2 := s1.hit (KR_STAT_DRIFT r)
    if s.flag (KR_NODE_DRIFT r n) then s2 else s2.raise (mkFault (srcKR r) 0x62 cMINOR 0 [.inst r, .val n])
  else s1

/-- The segment came with VALID in this cycle. -/
def markTaken (s : State) (r : Fin 2) (idx : Nat) : State := s.modRing r (fun x => { x with valid := idx :: x.valid })

/-- A new payload acts by its kind: IN records and the pair's status, service messages. -/
def takePayload (s : State) (r : Fin 2) (g : RSeg) (pay : List Byte) : State :=
  if g.kind = 2 then
    let s4 := g.recs.foldl (fun (s : State) (x : Nat × Nat) => s.takeRecord r x.1 (pay.drop x.2)) s
    if s4.role = 1 ∧ g.node = s4.f RED_CFG_PAIR_ADDR then s4.takePair r pay else s4
  else if g.kind = 6 then s.takeSvcUp r pay
  else s

/-- A segment whose copy prevails: taken when its SEQ differs from the one taken last (R375). -/
def takeSeq (s : State) (r : Fin 2) (g : RSeg) (seq : Nat) (pay : List Byte) : State :=
  if assoc g.idx (s.ring r).rxSeq = some seq then s
  else (s.modRing r (fun x => { x with rxSeq := assocSet g.idx seq x.rxSeq, taken := g.idx :: x.taken })).takePayload r g pay

/-- The node's flags of its first IN segment (R404): the flags of a copy without payload count only where no other has
come. -/
def firstFlags (s : State) (r : Fin 2) (g : RSeg) (h : Nat) : State :=
  let first := g.kind = 2 ∧ ((s.sentSegs r).find? (fun (x : RSeg) => x.kind == 2 && x.node == g.node)).map (fun x => x.idx) = some g.idx
  if first ∧ (h.testBit 0 ∨ h.testBit 1 ∨ !(s.ring r).valid.contains g.idx) then s.nodeFlags r g.node h else s

/-- One IN, SIN or SVC_UP segment of a returned frame; the others are not read here. ownP tells that this is the P copy, which
prevails (R404). SIN telegrams have gone to the channels already (R383). -/
def takeSegment (s : State) (r : Fin 2) (g : RSeg) (ownP : Bool) (area : List Byte) : State :=
  if g.kind ≠ 2 ∧ g.kind ≠ 4 ∧ g.kind ≠ 6 then s else
  let h := leNat ((area.drop g.off).take 1)
  let seq := leNat ((area.drop (g.off + 2)).take 2)
  let pay := (area.drop (g.off + 4)).take (g.len - 4)
  let dup := (s.ring r).valid.contains g.idx
  let s1 := s.firstFlags r g h
  if !h.testBit 0 then s1
  else if dup then (if ownP then ((s1.bump (KR_CNT_SILT r)).markTaken r g.idx).takeSeq r g seq pay else s1.bump (KR_CNT_SILT r))
  else (s1.markTaken r g.idx).takeSeq r g seq pay

/-- SIN telegrams go to both Hardpan channels as they arrive, whatever the FCS (R383). -/
def passSin (s : State) (segs : List RSeg) (area : List Byte) : State :=
  segs.foldl (fun (s : State) (g : RSeg) =>
    if g.kind = 4 ∧ (leNat ((area.drop g.off).take 1)).testBit 0 then
      let pay := (area.drop (g.off + 4)).take (g.len - 4)
      s.rxTelegram (pay.take (12 + leNat ((pay.drop 2).take 2)))
    else s) s

/-- KR_CLOSED is due and the ring has closed (R411). -/
def closedNow (s : State) (r : Fin 2) : State :=
  match (s.ring r).closing with
  | some c => (s.modRing r (fun x => { x with closing := none, links := [] })).raise (mkFault (srcKR r) 0x67 cINFO 0 [.inst r, .val c])
  | none => s

/-- Loop addresses of a returned copy; new ones in open operation raise KR_BREAK again (R402, R403, R412). -/
def noteLoop (s : State) (r : Fin 2) (onS : Bool) (f : RFrame) : State :=
  let s1 := (s.setB (KR_STAT_LOOPED r) f.looped).setF (KR_LOOP_LOOP_ADDR r) f.loopAddr
  if s.flag (KR_RING_OPEN r) then
    let fld := if onS then KR_BRK_LOOP_S r else KR_BRK_LOOP_P r
    let old := s.f fld
    let s2 := s1.setF fld f.loopAddr
    if old ≠ 65535 ∧ old ≠ f.loopAddr ∧ !s.wideRing r then
      (s2.abandonClose r).raise (mkFault (srcKR r) 0x65 cMAJOR 0 [.inst r, .inst (s2.f (KR_BRK_LOOP_P r)), .val (s2.f (KR_BRK_LOOP_S r))])
    else s2
  else s1

/-- The copy that is out on a port's side. -/
def copyOut (s : State) (r : Fin 2) (onS : Bool) : Option RCopy := if onS then (s.ring r).cs else (s.ring r).cp

/-- The copy's fate is kept. -/
def putCopy (s : State) (r : Fin 2) (onS : Bool) (k : RCopy) : State :=
  s.modRing r (fun y => if onS then { y with cs := some k } else { y with cp := some k })

/-- The cycle closes once every copy is back or missing. -/
def finishIfBack (s : State) (r : Fin 2) : State := if s.allBack r then s.finishCycle r else s

/-- The round trip of a good copy is kept. -/
def keepRtt (s : State) (r : Fin 2) (onS : Bool) (mode rtt : Nat) : State :=
  if onS then (if mode = fWIDE then s else s.modRing r (fun y => { y with rttS := rtt }))
  else ((s.modRing r (fun y => { y with rttP := rtt })).wrN (KR_RTT r) rtt).wrN (KR_RTTMAX r) (max (s.rdN (KR_RTTMAX r)) rtt)

/-- The segments of a good copy are taken, and a drifting node is counted. -/
def takeSegments (s : State) (r : Fin 2) (segs : List RSeg) (ownP : Bool) (area : List Byte) : State :=
  let s5 := segs.foldl (fun (s : State) (g : RSeg) => s.takeSegment r g ownP area) s
  if segs.any (fun (g : RSeg) => g.kind == 2 && (leNat ((area.drop g.off).take 1)).testBit 1) then s5.bump (KR_CNT_DRIFT r) else s5

/-- A wrong FCS is counted and shown. -/
def noteFcs (s : State) (r : Fin 2) (fcs : Bool) : State :=
  if fcs then s else (s.bump (KR_CNT_FCS r)).hit (KR_STAT_FCS r)

/-- The frame is late: its CYCLE is not that of the present frame, or the next departure has come (R381). -/
def lateFrame (s : State) (r : Fin 2) (f : RFrame) (k : RCopy) : Bool :=
  (f.hcrc && f.cycle != k.f.cycle) || decide ((s.ring r).nextDep + 200 * Config.nsUnits ≤ s.time.now)

/-- A copy of this cycle's frame has come back: checked, its round trip measured and its segments taken, or missing
(R381). A late one is discarded. SIN telegrams pass in any case (R383). Returned frames' RTT is in ns. -/
def returned (s : State) (r : Fin 2) (onS : Bool) (f : RFrame) (rtt : Nat) : State :=
  match s.copyOut r onS with
  | none => s
  | some k =>
    let segs := s.layout r k.f.mode (if k.f.mode = fWIDE ∧ onS then 1 else 0)
    let s1 := (s.passSin segs f.area).noteFcs r f.fcs
    if k.got ∨ k.missing ∨ (s.ring r).done ∨ s.lateFrame r f k then s1
    else if f.fcs && f.hcrc && f.type == 0 && f.epoch == k.f.epoch && f.cycle == k.f.cycle && f.sid == k.f.sid then
      let s6 := ((((s1.putCopy r onS { k with got := true }).keepRtt r onS k.f.mode rtt).noteLoop r onS f).takeSegments r segs
        (!onS || k.f.mode == fWIDE) f.area)
      (if k.f.mode = fWIDE then s6.closedNow r else s6).finishIfBack r
    else ((s1.missCopy r k.f).putCopy r onS { k with missing := true }).finishIfBack r

-- ===== service messages down (R386, R401) =====

/-- The entries of a layout for a node (R386). -/
def layoutEntries (segs : List RSeg) (n : Nat) : List Byte :=
  let mine := segs.filter (fun (g : RSeg) => g.node == n)
  natLE 2 mine.length ++ mine.flatMap (fun (g : RSeg) => natLE 2 g.off ++ natLE 2 g.len ++ natLE 1 g.kind ++ natLE 1 0)

/-- Messages of the unit itself wait for SVC_DN, each under a TAG of its own (R384, R385). -/
def sendSvc (s : State) (r : Fin 2) (ms : List (Nat × Nat × List Byte)) : State :=
  ms.foldl (fun (s : State) (m : Nat × Nat × List Byte) => s.modRing r (fun x => { x with
    svcDn := x.svcDn ++ [{ node := m.1, type := m.2.1, tag := x.svcTag, data := m.2.2 }], svcTag := (x.svcTag + 1) % 4294967296 })) s

/-- LAYOUT, and for a WIDE ring LAYOUT_WIDE of both frames, to every node of a definition, in address order (R401, R413). -/
def sendLayouts (s : State) (r : Fin 2) (d : RingDef) (sid : Nat) (wide : Bool) : State :=
  let nodes := sortBy (fun (n : Nat) => (n : Int)) d.nodes
  s.sendSvc r (nodes.flatMap (fun n =>
    (n, 2, natLE 4 sid ++ natLE 2 (s.f (KR_WIN_W_ARR r)) ++ layoutEntries d.segs n) ::
      (if wide then [0, 1].map (fun (k : Nat) =>
        (n, 7, natLE 4 sid ++ natLE 1 k ++ natLE 1 0 ++ layoutEntries (if k = 0 then d.wide0 else d.wide1) n)) else [])))

/-- The close of an open ring is scheduled: C is eight ring cycles on, and CLOSE goes down in every frame before it (R411). -/
def startClose (s : State) (r : Fin 2) : State :=
  if (s.ring r).closeAt.isSome then s
  else (s.modRing r (fun x => { x with closeAt := some ((s.rdN (KR_CYC r) + 8) % 4294967296) })).setF (KR_RING_CLOSE_PEND r) 1

-- ===== claims and standing (R393 to R400) =====

/-- e1 is newer than e2 in serial arithmetic (R393). -/
def newer (e1 e2 : Nat) : Bool := let d := (e1 + 65536 - e2 % 65536) % 65536; 1 ≤ d && d ≤ 32767

/-- The highest epoch seen rises (R393, R395). -/
def sawEpoch (s : State) (r : Fin 2) (e : Nat) : State :=
  if !(s.ring r).seen ∨ newer e (s.f (KR_EPOCH_HIGHEST r)) then
    (s.setF (KR_EPOCH_HIGHEST r) e).modRing r (fun x => { x with seen := true })
  else s

/-- The ring's own SERIAL (R396). -/
def serial (s : State) : Nat := s.nv.serial

/-- The ring enters CLAIM with an epoch and a priority (R392, R394, R396). -/
def enterClaim (s : State) (r : Fin 2) (prio : Nat) : State :=
  if (s.ringDef r).area = 0 ∨ s.rstate r = rSILENT then s
  else
    let e := if (s.ring r).seen then (s.f (KR_EPOCH_HIGHEST r) + 1) % 65536 else 1
    ((((s.setF (KR_STAT_STATE r) rCLAIM).setF (KR_EPOCH_EPOCH r) e).setF (KR_CLAIM_PRIO r) prio).setF (KR_CLAIM_SENT r) 0).modRing r
      (fun x => { x with claimFrom := none, claimTx := none, claimAt := none, cseq := 0, firstAt := none, looping := false, closedFound := none, cp := none, cs := none, done := true, closeAt := none, closing := none,
                         noCopy := 0, parts := 0 })

/-- A ring at the entry to COMMISSION from LOAD: a ring on which another master has been seen stays in NODE (R451). -/
def claimFromLoad (s : State) (r : Fin 2) : State :=
  if (s.ringDef r).area = 0 then s
  else match (s.ring r).foreign with
    | some e => ((s.setF (KR_STAT_STATE r) rNODE).hit RED_STAT_MASTER_PRESENT).raise
        (mkFault srcRED 0x7C cMAJOR 0 [.inst r, .val e])
    | none => s.enterClaim r 0xC0

/-- The master falls silent (R392, R449). -/
def silence (s : State) (r : Fin 2) : State := s.setF (KR_STAT_STATE r) rSILENT

/-- A frame that a port has received has higher standing than the unit's claim or cycle (R393). -/
def higher (s : State) (r : Fin 2) (onS : Bool) (f : RFrame) : Bool :=
  let e := s.f (KR_EPOCH_EPOCH r)
  let own := s.f (KR_CLAIM_PRIO r) * 2 ^ 48 + s.serial
  newer f.epoch e || (f.epoch == e && f.type == 1 && decide (own < f.prio * 2 ^ 48 + f.serial))
    || (f.epoch == e && f.type == 0 && decide ((Config.ringPort r onS).toNat < f.source))

/-- The CLAIM frame of the contest (R396). -/
def claimFrame (s : State) (r : Fin 2) : RFrame :=
  let prio := s.f (KR_CLAIM_PRIO r)
  let c := (s.ring r).cseq
  { type := 1, epoch := s.f (KR_EPOCH_EPOCH r), cycle := 0, sid := match s.cfg.run with | some i => i.sid | none => 0,
    mode := s.f (KR_CFG_MODE r), k := max 1 (s.f (KR_CFG_K r)), tdep := s.time.now / Config.nsUnits, source := (Config.ringPort r false).toNat,
    prio := prio, serial := s.serial,
    area := natLE 1 prio ++ natLE 6 s.serial ++ natLE 1 0 ++ natLE 2 c ++ natLE 6 0 }

/-- The contest is lost: the claims stop, and the winner is kept (R392). -/
def claimLost (s : State) (r : Fin 2) (f : RFrame) : State :=
  ((((s.setF (KR_STAT_STATE r) rNODE).wrN (KR_MST_SERL r) f.serial).wrN (KR_MST_SERH r) (f.serial / 4294967296 + 65536 * f.prio)).modRing r
    (fun x => { x with cp := none, cs := none, done := true, full := false })).raise
    (mkFault (srcKR r) 0x68 cMINOR 0 [.inst r, .code f.prio, .val f.serial])

/-- A claim that the unit only forwards: the one of highest standing of the newest epoch is the winning one. -/
def noteMaster (s : State) (r : Fin 2) (f : RFrame) : State :=
  let e := s.f (KR_EPOCH_HIGHEST r)
  let held := s.rdN (KR_MST_SERH r) % 65536 * 2 ^ 32 + s.rdN (KR_MST_SERL r) + s.rdN (KR_MST_SERH r) / 65536 % 256 * 2 ^ 48
  if f.type = 1 ∧ (!(s.ring r).seen ∨ newer f.epoch e ∨ (f.epoch = e ∧ held < f.prio * 2 ^ 48 + f.serial)) then
    (s.wrN (KR_MST_SERL r) f.serial).wrN (KR_MST_SERH r) (f.serial / 4294967296 + 65536 * f.prio)
  else s

/-- In NODE, a valid in-window frame disciplines time: the clock takes TDEP + δ and the frequency follows successive
arrivals (R420, R429, R430). A step of ring time by whole milliseconds moves the clock and what stands on the grid. -/
def followRing (s : State) (r : Fin 2) (f : RFrame) (delta : Int) : State :=
  if !s.ringSelected ∨ (r = 1 ∧ s.rstate 0 = rNODE) then s
  else
    let at_ := (((f.tdep : Int) + delta) * (Config.nsUnits : Int)).toNat
    let s1 := match (s.ring r).heard with
      | some h =>
        let n := (f.cycle + 4294967296 - h.cycle) % 4294967296
        let jump : Int := (f.tdep : Int) - (h.tdep + n * (s.ringPeriod r / Config.nsUnits) : Nat)
        let own : Int := (s.time.mono - h.at_ : Nat) * 1250
        let got : Int := ((f.tdep : Int) + delta - h.tdep - h.delta) * 1000
        if jump ≠ 0 ∧ jump % 1000000 = 0 then
          let s2 := s.moveGrid (jump / 1000000)
          { s2 with time := { s2.time with lastStep := some s.time.mono } }
        else if own = 0 then s else s.setFadj (roundHalfEven ((got - own) * 65536000000) own.toNat) 0
      | none => s
    let s3 := (s1.setF TIME_STAT_STATE tsRING).setF TIME_STAT_EVER_SYNC 1
    { s3 with time := { s3.time with now := at_ } }

/-- The present SYS cycle is that of the ring's next boundary, or of one after it that was passed over. -/
def ringDue (s : State) (r : Fin 2) : Bool :=
  let x := s.ring r
  decide (x.nextDep ≤ s.time.now) && decide ((s.time.now - x.nextDep) % s.ringPeriod r < s.cycleInc)

/-- The next boundary is the present one: CYCLE counts those that were passed over (R22, R368). -/
def ringAlign (s : State) (r : Fin 2) : State :=
  let n := (s.time.now - (s.ring r).nextDep) / s.ringPeriod r
  s.modRing r (fun x => { x with nextDep := x.nextDep + n * s.ringPeriod r, nextCyc := (x.nextCyc + n) % 4294967296 })

/-- The first CYCLE frame has not departed before the present SYS cycle. -/
def startNow (s : State) (r : Fin 2) : Bool :=
  match (s.ring r).firstAt with
  | some t => t == s.time.mono
  | none => s.ringDue r

end State

/-- STAGING_CLOSE (R30, R338, R374): in the SYS cycle t_STAGE before departure, at the cycle master. -/
def execStagingClose (r : Fin 2) (t : Nat) (s : State) : Out :=
  let s0 := s.runTo t
  .next (if s0.rstate r = rMASTER ∧ (s0.ring r).closed.isNone ∧ (s0.ring r).nextDep ≤ s0.time.now + 5000 * Config.nsUnits
      ∧ s0.closeMono r = s0.time.mono then s0.closeStaging r else s0)

/-- RING_FRAME_RETURN (R364, R381, R383, R403, R404, R406, R411): a frame of this cycle at a port. far: at the port opposite
to the one it was sent on; a HEAL frame is returned there, a WIDE frame taken. onS names the copy sent on S. -/
def execRingFrameReturn (r : Fin 2) (onS far : Bool) (f : RFrame) (rtt t : Nat) (s : State) : Out :=
  let s0 := s.runTo t
  let wide : Bool := match (s0.ring r).cp with | some k => k.f.mode == fWIDE | none => false
  .next (if s0.rstate r ≠ rMASTER then s0
  else if far ∧ !wide then
    (let same : Bool := match (s0.ring r).cp with | some k => k.f.cycle == f.cycle | none => false
     if !onS ∧ f.hcrc ∧ same ∧ s0.time.now < (s0.ring r).nextDep + 200 * Config.nsUnits then
       (let s1 := s0.modRing r (fun x => { x with atS := true })
        if f.looped ∨ s0.flag (KR_RING_OPEN r) then s1 else s1.closedNow r)
     else s0)
  else s0.returned r onS f rtt)

/-- KR_NODE_SILT (R375): NSILT consecutive returned frames of silt; once until the node writes again. -/
def execKrNodeSilt (r : Fin 2) (n : Nat) (s : State) : Out :=
  .next (if s.flag (KR_NODE_PRESENT r n) ∧ s.f (KR_WIN_NSILT r) ≤ s.f (KR_NODE_SILT r n) ∧ 0 < s.f (KR_WIN_NSILT r)
      ∧ !(s.ring r).siltRaised.contains n then
    ((s.modRing r (fun x => { x with siltRaised := n :: x.siltRaised })).hit (KR_STAT_SILT r)).raise
      (mkFault (srcKR r) 0x61 cMINOR 0 [.inst r, .val n, .val (s.f (KR_NODE_SILT r n))])
  else s)

/-- FOREIGN_FRAME (R366): the ring ports work from the end of VERIFY (R392). -/
def execForeignFrame (r : Fin 2) (s : State) : Out :=
  .next (if mBARE ≤ s.mode then (s.hit (KR_STAT_FOREIGN r)).bump (KR_CNT_FOREIGN r) else s)

/-- IDENT (R386), at the cycle master. -/
def execIdent (r : Fin 2) (n : Nat) (data : List Byte) (s : State) : Out :=
  .next (if s.rstate r = rMASTER then s.identMsg r n data else s)

/-- LAYOUT_ACK (R58, R386), at the cycle master. -/
def execLayoutAck (r : Fin 2) (n sid : Nat) (s : State) : Out :=
  .next (if s.rstate r = rMASTER then s.layoutAck r n sid else s)

/-- LINK (R410, R413), at the cycle master. -/
def execLink (r : Fin 2) (n : Nat) (p q loop : Bool) (t : Nat) (s : State) : Out :=
  let s0 := s.runTo t
  .next (if s0.rstate r = rMASTER then s0.linkMsg r n p q loop else s0)

/-- SVC_HANDLER_MESSAGE (R386): types 0x10 to 0xFF, at the cycle master. -/
def execSvcHandlerMessage (r : Fin 2) (m : SvcMsg) (s : State) : Out :=
  .next (if s.rstate r = rMASTER ∧ 0x10 ≤ m.type then s.handlerMsg r m else s)

/-- CLAIM_SEND (R396, R397): every t_CLAIM from the entry to CLAIM, on each port whose link is up. -/
def execClaimSend (r : Fin 2) (t : Nat) (s : State) : Out :=
  let s0 := s.runTo t
  let due : Bool := match (s0.ring r).claimAt with | some u => decide (u + s0.usCycles 100 ≤ s0.time.mono) | none => true
  .next (if s0.rstate r = rCLAIM ∧ due = true ∧ (s0.flag (KR_STAT_LINK_P r) ∨ s0.flag (KR_STAT_LINK_S r)) then
    (s0.setF (KR_CLAIM_SENT r) (min 255 (s0.f (KR_CLAIM_SENT r) + 1))).modRing r (fun x => { x with
      claimFrom := some (x.claimFrom.getD s0.time.mono), claimAt := some s0.time.mono, claimTx := some (s0.claimFrame r), cseq := (x.cseq + 1) % 65536 })
  else s0)

/-- CLAIM_RETURN (R397): the own claim is back, on the opposite port or on the same one. -/
def execClaimReturn (r : Fin 2) (opposite : Bool) (s : State) : Out :=
  .next (if s.rstate r = rCLAIM ∧ (s.ring r).claimTx.isSome then s.modRing r (fun x => { x with closedFound := some opposite }) else s)

/-- The grid step at or after the present one, a grid boundary, whose number within the second is a multiple of k (R400). -/
def firstStep (now k : Nat) : Nat :=
  let step := now / Config.gridUnits
  let wait := (k - step % 32000 % k) % k
  if 32000 ≤ step % 32000 + wait then (step / 32000 + 1) * 32000 else step + wait

/-- CLAIM_WIN (R398 to R401, R448): at a grid boundary. In TAKEOVER the CYCLE goes on from the last valid one by the ring cycles
that have passed since its TDEP. The first boundary whose step within the second is a multiple of k starts
the cycle, and every node is sent its layouts. -/
def execClaimWin (r : Fin 2) (t : Nat) (s : State) : Out :=
  let s0 := (s.runTo t).takeStep
  .next (match (s0.ring r).claimFrom with
    | some u =>
      if s0.rstate r = rCLAIM ∧ 3 ≤ s0.f (KR_CLAIM_SENT r) ∧ u + s0.usCycles (300 + s0.f (KR_CLAIM_TCLX r)) ≤ s0.time.mono
          ∧ s0.onGrid Config.gridUnits then
        let k := max 1 (s0.f (KR_CFG_K r))
        let start := firstStep s0.time.now k
        let cyc := match (s0.ring r).heard with
          | some h => (h.cycle + ((start * 31250 + 200 - h.tdep) + 15625 * k) / (31250 * k)) % 4294967296
          | none => 0
        let sid := match s0.cfg.run with | some i => i.sid | none => 0
        let s1 := (((s0.setF (KR_STAT_STATE r) rMASTER).wrN (KR_SID r) sid).wrN (KR_MST_SERL r) s0.serial).wrN (KR_MST_SERH r)
          (s0.serial / 4294967296 + 65536 * s0.f (KR_CLAIM_PRIO r))
        (s1.modRing r (fun x => { x with nextDep := start * Config.gridUnits, nextCyc := if s0.mode = mTAKEOVER then cyc else 0,
                                         cp := none, cs := none, done := true, closed := none, firstAt := none, svcDn := [], svcFrag := 0,
                                         rxSeq := [] })).sendLayouts r (s0.ringDef r) sid (s0.wideRing r)
      else s0
    | none => s0)

/-- HIGHER_STANDING_FRAME (R392, R393, R395, R412, R449): a foreign claim or cycle frame at a port. One of lower standing only
moves the counters. In the SYS cycle of the start boundary the winner still loses its claim, and no frame is sent. -/
def execHigherStandingFrame (r : Fin 2) (onS : Bool) (f : RFrame) (s : State) : Out :=
  .next (if !(f.hcrc && f.fcs) ∨ s.mode < mBARE then s
  else
    let s1 := (if f.type = 1 then (if s.rstate r = rNODE ∨ s.rstate r = rIDLE then s.noteMaster r f else s).bump (KR_CNT_CLAIM r) else s).sawEpoch r f.epoch
    let s2 := if f.type = 0 ∧ s.rstate r = rIDLE then s1.modRing r (fun x => { x with foreign := some f.epoch }) else s1
    let up := s.higher r onS f
    if up ∧ (s.rstate r = rCLAIM ∨ (s.rstate r = rMASTER ∧ s.startNow r)) then s2.claimLost r f
    else if s.rstate r = rMASTER ∧ up then
      let s3 := (s2.silence r).raise (mkFault (srcKR r) 0x69 cCRITICAL 3 [.inst r, .val f.epoch])
      if s.role = 1 then s3.setF SYS_START_ROLE 2 else s3
    else s2)

/-- RING_SILENCED (R392, R449): an active without a returned copy, or with a silent PAIR segment in open operation on every
ring, for two consecutive cycles. -/
def execRingSilenced (r : Fin 2) (s : State) : Out :=
  let alone := 2 ≤ (s.ring r).noCopy
  let parted := (List.finRange 2).all (fun q => s.rstate q != rMASTER || 2 ≤ (s.ring q).parts) && 2 ≤ (s.ring r).parts
  .next (if s.role = 1 ∧ s.rstate r = rMASTER ∧ (alone ∨ parted) then
    ((s.silence r).setF RED_STAT_SILENCED 1).raise (mkFault srcRED 0x79 cCRITICAL 3 [.inst r, altCode 0x79 (if alone then 0 else 1)])
  else s)

/-- CLOSE_READY (R410, R411): every node that reported looping reports both links up, unchanged for t_CLSTAB. -/
def execCloseReady (r : Fin 2) (t : Nat) (s : State) : Out :=
  let s0 := s.runTo t
  let loops := (s0.ring r).links.filter (fun (x : NodeLink) => x.loop)
  .next (if s0.rstate r = rMASTER ∧ loops ≠ []
      ∧ loops.all (fun (x : NodeLink) => x.p && x.s && x.at_ + s0.msCycles (s0.ringDef r).clstab ≤ s0.time.mono) then
    let s1 := s0.setF (KR_RING_CLOSE_READY r) 1
    if s1.flag (KR_RING_AUTO_CLOSE r) ∧ !s0.flag (KR_RING_CLOSE_READY r) then s1.startClose r else s1
  else s0)

/-- KR_CLOSE (R411, KRn_CTL): the key is 0x4B43. -/
def execKrClose (r : Fin 2) (key : Nat) (s : State) : Out :=
  .next (if key ≠ 0x4B43 ∨ !s.mapOpen then s
  else if s.flag (KR_RING_CLOSE_READY r) then s.startClose r
  else s.hit (KR_RING_CLOSE_REF r))

end Sys2Proof.Machine
end

