-- ==== Sys2Proof/Machine/Fio.lean ====
section
/-! DEFINITION. Field inputs and outputs (chapter 21): what the barrier carries, the input filters, the output levels by
mode, the field supply and the diagnosis of the common fault bit. -/

namespace Sys2Proof.Machine

/-- FMODE (R514). -/
def fmDEBOUNCE : Nat := 0
def fmSTART : Nat := 1
def fmTEST : Nat := 2
def fmRECOVER : Nat := 3

/-- A word from its bits. -/
def mask32 (g : Nat → Bool) : Nat := ((List.range 32).map (fun i => if g i then 2 ^ i else 0)).foldl (· + ·) 0

namespace State

def modFio (s : State) (g : FioState → FioState) : State := { s with fio := g s.fio }
def modFioDie (s : State) (d : Fin 2) (g : FioDie → FioDie) : State := s.modFio (fun x => { x with dies := x.dies.modify d g })
def vfState (s : State) : Nat := s.f FIO_STAT_VF_STATE

-- ===== outputs (R517, R518) =====

/-- The door whose lock an output drives. -/
def lockDoor (s : State) (o : Nat) : Option (Fin 8) :=
  (List.finRange 8).find? (fun d => (s.f DOOR_STAT_PRESENT).testBit d && s.f (DOOR_CFG_LOCK_OUT d) == o)

/-- The commanded level of an output, from its owner (R517). -/
def cmdOut (s : State) (o : Nat) : Bool :=
  if s.f (FIO_OUTCFG_OWNER o) = 2 then (match s.lockDoor o with | some d => (s.doors.get d).lockOut | none => false)
  else (s.rdN FIO_OUT).testBit o

/-- The levels of FAULT with HOLD = 0 (R518). -/
def faultLevels (s : State) : Nat :=
  mask32 (fun o => if s.f (FIO_OUTCFG_FAULT_STATE o) = 1 then false else if s.f (FIO_OUTCFG_FAULT_STATE o) = 2 then true else s.cmdOut o)

/-- The levels that the refresh frames carry (R518, R519). -/
def outDrive (s : State) : Nat :=
  if s.flag FIO_STAT_OUT_HELD ∨ s.mode < mCOMMISSION then 0
  else if s.mode = mFAULT then (if s.flag SYS_MODE_HOLD then 0 else s.faultLevels)
  else mask32 s.cmdOut

/-- On leaving FAULT the levels held there become the commanded levels (R518). -/
def keepFaultLevels (s : State) : State :=
  if s.mode = mFAULT ∧ !s.flag SYS_MODE_HOLD then s.wrN FIO_OUT s.faultLevels else s

/-- The initial states of FIELDIO become the commanded levels (R518). -/
def outInit (s : State) : State := s.wrN FIO_OUT (mask32 (fun o => s.flag (FIO_OUTCFG_INIT o)))

/-- The level that a die gives an output: what its frame carried, and for a door lock only with the channel's permit
(R351). -/
def pinLevel (s : State) (o : Nat) : Bool :=
  s.fio.sent.testBit o &&
    (if s.f (FIO_OUTCFG_OWNER o) = 2 then
      (match s.lockDoor o with | some d => (s.safe.dies.get (if o < 16 then 0 else 1)).permits.testBit d | none => false)
     else true)

-- ===== filters (R513, R514) =====

/-- FMODE as R514 states it: START, then RECOVER, then TEST, then DEBOUNCE. -/
def fmodeNow (s : State) : Nat :=
  if s.fio.start then fmSTART else if s.fio.recover.isSome then fmRECOVER else if s.flag FIO_CTL_TEST then fmTEST else fmDEBOUNCE

/-- FMODE follows its causes; counters start as R514 states. -/
def syncFmode (s : State) : State :=
  let old := s.f FIO_STAT_FMODE
  let new := s.fmodeNow
  let s1 := s.setF FIO_STAT_FMODE new
  if old = new then s1
  else if new = fmTEST ∧ old = fmDEBOUNCE then
    s1.modFio (fun x => { x with filt := x.filt.mapIdx (fun i (p : InFilt) => { p with cnt := if p.out then s.f (FIO_INCFG_DEB i) else 0 }) })
  else if new = fmDEBOUNCE then s1.modFio (fun x => { x with filt := x.filt.map (fun (p : InFilt) => { p with cnt := 0 }) })
  else s1

/-- Every counter and output starts at 0: START or RECOVER begins (R514). -/
def zeroFilters (s : State) : State := s.modFio (fun x => { x with filt := Bank.rep 64 {} })

/-- A filter takes a sample (R513): debounce, or integrating. -/
def filtSample (integ : Bool) (d : Nat) (p : InFilt) (level : Bool) : InFilt :=
  if integ then
    let c := if level then min d (p.cnt + 1) else p.cnt - 1
    { out := if c = d then true else if c = 0 then false else p.out, cnt := c }
  else if level = p.out then { p with cnt := 0 }
  else if d ≤ p.cnt + 1 then { out := level, cnt := 0 }
  else { p with cnt := p.cnt + 1 }

/-- The pulse bit of a supply in the newest data, or in the data before it (R510, R516). -/
def pulseBit (s : State) (k : Nat) (was : Bool) : Bool :=
  match s.fio.dies.get? (k % 2) with
  | some x => (if was then x.tpWas else x.tp).testBit (k / 2)
  | none => false

/-- An input belongs to a safety pair (R516). -/
def pairInput (s : State) (i : Nat) : Bool := s.safSet.pairs.any (fun (p : SafPair) => p.in1 == i || p.in2 == i)

/-- FIO_IN0 and FIO_IN1 show the filtered levels while the inputs are valid, else 0 (R515). -/
def showInputs (s : State) : State :=
  let w := fun (k : Nat) => if s.flag FIO_STAT_IN_VALID then mask32 (fun i => match s.fio.filt.get? (32 * k + i) with | some p => p.out | none => false) else 0
  (s.wrN (FIO_IN 0) (w 0)).wrN (FIO_IN 1) (w 1)

/-- Inputs are valid: both dies deliver, VF_STATE is not OFF, and no RECOVER runs (R515). -/
def syncValid (s : State) : State :=
  let both := (s.fio.dies.get 0).rx.isSome && (s.fio.dies.get 1).rx.isSome
  ((s.setB FIO_STAT_BARRIER both).setB FIO_STAT_IN_VALID (both && s.vfState != 2 && s.fio.recover.isNone)).showInputs

/-- An input takes the sample of a refresh (R512, R513, R516): raw level and changes, the pulse check, the filter, which
holds during its supply's pulse and for 1 µs after it. -/
def takeInput (s : State) (i : Fin 64) (raw was : Bool) : State :=
  let k := s.f (FIO_INCFG_TP i)
  let now := k < 4 && s.pulseBit k false
  let before := k < 4 && s.pulseBit k true
  let s1 := s.setB (FIO_INSTAT_RAW i) raw
  let s2 := if raw = was then s1 else s1.setF (FIO_INSTAT_CHAT i) (min 65535 (s.f (FIO_INSTAT_CHAT i) + 1))
  let s3 := if before ∧ !now ∧ was ∧ !s.pairInput i then (s2.hit (FIO_INSTAT_TPMIS i)).hit ⟨FIO_TPMIS (i / 32), i % 32, 1⟩
    else s2
  if now ∨ before then s3
  else
    let level := raw != s.flag (FIO_INCFG_INV i)
    let p := filtSample (s.f FIO_STAT_FMODE != fmDEBOUNCE) (max 1 (s.f (FIO_INCFG_DEB i))) (s.fio.filt.get i) level
    (s3.modFio (fun x => { x with filt := x.filt.set i p })).setB (FIO_INSTAT_LEVEL i) p.out

-- ===== supply and diagnosis (R520 to R523) =====

/-- A measurement of VFIELD by a die: the lower of the two dies, and the minima. -/
def takeVf (s : State) (d : Fin 2) (mv : Nat) : State :=
  let s1 := s.modFioDie d (fun x => { x with vf := some mv })
  let other := (s.fio.dies.get (1 - d)).vf
  let v := match other with | some o => min o mv | none => mv
  let lo := fun (m : Option Nat) => match m with | some o => some (min o v) | none => some v
  let s2 := s1.modFio (fun x => { x with minRead := lo x.minRead, minSup := lo x.minSup })
  (s2.setF FIO_VF_VF_MV v).setF FIO_VF_MIN_MV (s2.fio.minRead.getD v)

/-- FIO_SUPPLY: VF_STATE changes (R523). -/
def vfChange (s : State) (new : Nat) : State :=
  ((s.setF FIO_STAT_VF_STATE new).offerRec 0x501 3 (natLE 1 new ++ natLE 1 s.vfState ++ natLE 2 (s.fio.minSup.getD 0))).modFio
    (fun x => { x with minSup := none })

/-- The common fault bit takes a level: an edge is recorded, a rising one latched, counted and raised, a condition kind
(R521, R523). -/
def faultBit (s : State) (on : Bool) : State :=
  if on = s.flag FIO_STAT_FIELD_FAULT then s
  else
    let s1 := (s.setB FIO_STAT_FIELD_FAULT on).modFio (fun x => { x with ffSince := if on then some s.time.mono else none })
    let s2 := s1.offerRec 0x500 3 (natLE 1 (b2n on) ++ natLE 1 s.vfState ++ natLE 2 (s.rdN FIO_CAUSE) ++ natLE 2 (s.f FIO_VF_VF_MV) ++ natLE 2 0
      ++ natLE 4 (mask32 s.cmdOut) ++ natLE 4 (s.rdN FIO_OUT_RB) ++ natLE 4 (s.rdN FIO_DIAG_HI) ++ natLE 4 (s.rdN FIO_DIAG_LO)
      ++ natLE 4 (s.rdN (FIO_TPMIS 0)) ++ natLE 4 (s.rdN (FIO_TPMIS 1)))
    if on then ((s2.hit FIO_STAT_FF_LATCH).bump FIO_CNT_FF).raise
      (mkFault srcFIO 0x80 cMAJOR 0 [.code (s.rdN FIO_CAUSE), .val (s.f FIO_VF_VF_MV)] 15 true)
    else s2.endCause srcFIO 0x80

/-- Outputs of a die whose readback disagrees after their blanking time (R521, R522): on and low, off and high. -/
def outBad (s : State) (d : Fin 2) (high : Bool) : List Nat :=
  ((List.range 16).map (· + 16 * d.val)).filter (fun o =>
    s.fio.changed.getD o 0 + s.usCycles (100 * s.f (FIO_OUTCFG_BLANK o)) ≤ s.time.mono &&
    s.pinLevel o == !high && (s.fio.dies.get d).rb.testBit (o % 16) == high)

/-- The causes inferred from a refresh (R522), latched. -/
def infer (s : State) (d : Fin 2) (tpm : Bool) : State :=
  let lo := if s.vfState = 0 then s.outBad d false else []
  let hi := s.outBad d true
  let c := b2n (s.f FIO_VF_VF_MV < 18000 && (s.fio.dies.get d).vf.isSome) + 2 * b2n (!lo.isEmpty) + 4 * b2n (!hi.isEmpty) + 8 * b2n tpm
    + 32 * b2n (s.vfState == 2)
  let unexp := c == 0 && (match s.fio.ffSince with | some t => t + s.msCycles 1 ≤ s.time.mono | none => false)
  let put := fun (os : List Nat) => BitVec.ofNat 32 (mask32 (fun o => os.contains o))
  ((s.hitBits FIO_CAUSE (BitVec.ofNat 32 (c + 16 * b2n unexp))).hitBits FIO_DIAG_HI (put hi)).hitBits FIO_DIAG_LO (put lo)

-- ===== the barrier cycle (R37, R510) =====

/-- The settings that a die works by: type and test-pulse supply of its inputs, blanking times of its outputs (R510). -/
def dieCfg (s : State) (d : Fin 2) : List Nat :=
  (List.range 32).map (fun i => s.f (FIO_INCFG_TYPE (32 * d.val + i)) + 2 * s.f (FIO_INCFG_TP (32 * d.val + i)))
    ++ (List.range 16).map (fun o => s.f (FIO_OUTCFG_BLANK (16 * d.val + o)))

/-- A refresh frame departs to a die: the next of the sixteen that carry one complete set of settings, which is in force with
the last of them (R510). -/
def sendCfg (s : State) (d : Fin 2) : State :=
  s.modFioDie d (fun x =>
    let new := if x.txIdx = 0 then s.dieCfg d else x.cfgNew
    { x with txAt := some s.time.mono, txIdx := (x.txIdx + 1) % 16, cfgNew := new, cfg := if x.txIdx = 15 then new else x.cfg })

/-- A frame of a die's barrier cycle has come or been discarded: with the first a new cycle begins, and one with a discarded
frame spoils the safety frame (R510). -/
def noteFrame (s : State) (d : Fin 2) (idx : Nat) (good : Bool) : State :=
  s.modFioDie d (fun x => if idx = 0 then { x with spoilt := x.bad, bad := !good } else { x with bad := x.bad || !good })

/-- The barrier cycle is complete: its rotating words are published together (R25, R37, R510): VFIELD, die status, seal. A
discarded frame's word keeps its previous value. -/
def publishRot (s : State) (d : Fin 2) : State :=
  let rot := (s.fio.dies.get d).rotNew
  let s1 := s.modFioDie d (fun x => { x with
    rotNew := [], status := (assoc 1 rot).getD x.status,
    sealWord := (assoc 2 rot).getD (x.sealWord % 65536) + 65536 * (assoc 3 rot).getD (x.sealWord / 65536 % 65536)
      + 4294967296 * (assoc 4 rot).getD (x.sealWord / 4294967296) })
  match assoc 0 rot with
  | some mv => s1.takeVf d mv
  | none => s1

/-- A word of the present barrier cycle is kept; with the last frame, or the first of the next cycle, what has come is
published. -/
def takeRot (s : State) (d : Fin 2) (idx : Nat) (word : Option Nat) : State :=
  let s1 := if idx = 0 then s.publishRot d else s
  let s2 := match word with | some w => s1.modFioDie d (fun x => { x with rotNew := assocSet idx (w % 65536) x.rotNew }) | none => s1
  if idx = 7 then s2.publishRot d else s2

end State

/-- BARRIER_REFRESH_TX (R128, R510, R517, R518): a refresh frame departs to a die, 1 µs after the one before: the wheel's actions
that it carries act after the register writes, and it takes the output levels and its part of the settings; a change restarts
blanking. -/
def execBarrierRefreshTx (d : Fin 2) (t : Nat) (s : State) : Out :=
  let s0 := s.runTo t
  let s1 := (s0.foutRefresh d).sendCfg d
  let lv := s1.outDrive
  let mine := fun (o : Nat) => o / 16 == d.val
  .next (if s0.mode = mRESET ∨ !s0.refreshDue d then s0
  else s1.modFio (fun x => { x with
    sent := mask32 (fun o => if mine o then lv.testBit o else x.sent.testBit o)
    changed := x.changed.mapIdx (fun o (m : Nat) => if mine o && lv.testBit o != x.sent.testBit o then s1.time.mono else m) }))

/-- BARRIER_REFRESH_RX (R37, R510 to R513, R516, R521, R522): a refresh frame of a die with its index, raw levels, readbacks,
pulse bits, FIELD_FAULT and rotating word; one with a wrong CRC is discarded and counted. -/
def execBarrierRefreshRx (d : Fin 2) (good : Bool) (idx : Fin 8) (raw : Word) (rb tp : Nat) (ff : Bool) (rot t : Nat) (s : State) : Out :=
  let s0 := s.runTo t
  .next (if s0.mode = mRESET then s0
  else if !good then ((s0.bump FIO_CNT_BAR).noteFrame d idx false).takeRot d idx none
  else
    let old := s0.fio.dies.get d
    let s1 := (s0.modFioDie d (fun x => { x with rx := some s0.time.mono, lost := false, raw := raw, rb := rb, tpWas := x.tp, tp := tp, ff := ff })).noteFrame d idx true
    let s2 := (s1.takeRot d idx (some rot)).wrN (FIO_INRAW d) raw.toNat
    let s3 := s2.wrN FIO_OUT_RB (mask32 (fun o => if o / 16 = d.val then rb.testBit (o % 16) else (s2.rdN FIO_OUT_RB).testBit o))
    let s4 := (List.finRange 32).foldl (fun (s : State) (i : Fin 32) =>
      s.takeInput ⟨32 * d.val + i.val, by omega⟩ (raw.toNat.testBit i) (old.raw.toNat.testBit i)) s3
    let tpm := (s4.rdN (FIO_TPMIS d)) != (s3.rdN (FIO_TPMIS d))
    let s5 := (s4.syncValid).infer d tpm
    s5.faultBit ((s5.fio.dies.get 0).ff || (s5.fio.dies.get 1).ff))

/-- FIELD_BARRIER (R511): no valid refresh from a die for t_BWD of 10 µs. -/
def execFieldBarrier (d : Fin 2) (t : Nat) (s : State) : Out :=
  let s0 := s.runTo t
  let x := s0.fio.dies.get d
  .next (if s0.mode = mRESET ∨ x.lost ∨ s0.time.mono < x.rx.getD 0 + s0.usCycles 10 then s0
  else (((s0.modFioDie d (fun x => { x with rx := none, lost := true })).setF FIO_STAT_OUT_HELD 1).syncValid).raise
    (mkFault srcFIO 0x81 cMAJOR 1 [.inst d]))

/-- VF_LOW (R520): VFIELD falls below VF_LOW, which lies from 17.7 to 18.3 V. -/
def execVfLow (mv : Nat) (s : State) : Out :=
  .next (if s.mode = mRESET ∨ s.vfState ≠ 0 ∨ 18300 ≤ mv then s
  else
    let s1 := ((s.takeVf 0 mv).takeVf 1 mv).vfChange 1
    ((s1.modFioDie 0 (fun x => { x with ff := true })).hitBits FIO_CAUSE 1#32).faultBit true)

/-- VF_LOWCLR (R520): VFIELD rises above VF_LOWCLR, from 18.2 to 18.8 V; FIELD_FAULT falls with the dies' refreshes, t_FFHOLD
later. -/
def execVfLowclr (mv : Nat) (s : State) : Out :=
  .next (if s.mode = mRESET ∨ s.vfState ≠ 1 ∨ mv ≤ 18200 then s else ((s.takeVf 0 mv).takeVf 1 mv).vfChange 0)

/-- VF_OFF (R515, R519, R520, R524): VFIELD falls below VF_OFF, from 14.7 to 15.3 V: outputs off and held, inputs invalid,
FIELD_VF_OFF raised, a condition kind. From OK the state passes LOW. A RESUME of the same refresh is refused. -/
def execVfOff (mv : Nat) (s : State) : Out :=
  .next (if s.mode = mRESET ∨ s.vfState = 2 ∨ 15300 ≤ mv then s
  else
    let s0 := (s.takeVf 0 mv).takeVf 1 mv
    let s1 := (if s0.vfState = 0 then s0.vfChange 1 else s0).vfChange 2
    let s2 := ((s1.modFio (fun x => { x with recover := none })).syncFmode).setF FIO_STAT_OUT_HELD 1
    let late : Bool := match s.fio.resumedAt with | some u => decide (s.time.mono < u + 800) | none => false
    let s3 := ((if late then s2.hit FIO_STAT_RESUME_REF else s2).hitBits FIO_CAUSE 33#32).syncValid
    ((s3.modFioDie 0 (fun x => { x with ff := true })).faultBit true).raise
      (mkFault srcFIO 0x82 cMAJOR 0 [.val (s3.f FIO_VF_VF_MV)] 15 true))

/-- VF_ON (R514, R520, R524): VFIELD rises above VF_ON, from 15.7 to 16.3 V; RECOVER runs for the largest DEB, and at least
1 ms, and restarts when VFIELD does so again during it. -/
def execVfOn (mv t : Nat) (s : State) : Out :=
  let s0 := s.runTo t
  .next (if s0.mode = mRESET ∨ mv ≤ 15700 then s0
  else if s0.vfState ≠ 2 then
    (if s0.fio.recover.isSome then (s0.modFio (fun x => { x with recover := some s0.time.mono })).zeroFilters else s0)
  else
    let s1 := (((s0.takeVf 0 mv).takeVf 1 mv).vfChange 1).endCause srcFIO 0x82
    ((s1.modFio (fun x => { x with recover := some s0.time.mono })).zeroFilters.syncFmode).syncValid)

/-- RECOVER_END (R514, R515). -/
def execRecoverEnd (t : Nat) (s : State) : Out :=
  let s0 := s.runTo t
  let trec := ((List.range 64).map (fun i => s0.f (FIO_INCFG_DEB i))).foldl max 1000
  .next (match s0.fio.recover with
    | some u => if u + s0.usCycles trec ≤ s0.time.mono then (s0.modFio (fun x => { x with recover := none })).syncFmode.syncValid else s0
    | none => s0)

/-- FIO_RESUME (R519): the key is 0x464F. -/
def execFioResume (key : Nat) (s : State) : Out :=
  .next (if key ≠ 0x464F ∨ !s.mapOpen then s
  else if s.vfState ≠ 2 ∧ s.flag FIO_STAT_BARRIER then
    ((s.setF FIO_STAT_OUT_HELD 0).modFio (fun x => { x with resumedAt := some s.time.mono })).offerRec 0x502 2 (natLE 4 (mask32 s.cmdOut))
  else s.hit FIO_STAT_RESUME_REF)

/-- FIO_TEST_WRITE (R514): only in BARE or COMMISSION. -/
def execFioTestWrite (key : Nat) (test : Bool) (s : State) : Out :=
  .next (if key ≠ 0x464F ∨ !s.mapOpen ∨ !s.inMode [mBARE, mCOMMISSION] then s else (s.setB FIO_CTL_TEST test).syncFmode)

/-- FIO_OUT_WRITE (R517, R518): FIO_OUT (0), FIO_OUT_SET (1) or FIO_OUT_CLR (2). Outputs of the DOOR block are not written;
in COMMISSION those without COMM are not either, and WR_REF is set. -/
def execFioOutWrite (reg : Fin 3) (value : Word) (s : State) : Out :=
  let named := fun (o : Nat) => s.f (FIO_OUTCFG_OWNER o) != 2 && (reg == 0 || value.toNat.testBit o)
  let shut := fun (o : Nat) => s.mode == mCOMMISSION && !s.flag (FIO_OUTCFG_COMM o)
  let new := fun (o : Nat) => if reg = 0 then value.toNat.testBit o else reg == 1
  let s1 := s.wrN FIO_OUT (mask32 (fun o => if named o && !shut o then new o else (s.rdN FIO_OUT).testBit o))
  .next (if !s.mapOpen then s else if (List.range 32).any (fun o => named o && shut o) then s1.hit FIO_STAT_WR_REF else s1)

end Sys2Proof.Machine
end

