-- ==== Sys2Proof/Machine/Faults.lean ====
section
/-! DEFINITION. Fault collection and reaction (chapter 18): the collector takes messages, decides their level, applies it,
keeps entries, and drives ERR_N. -/

namespace Sys2Proof

/-- The 32-byte message of R471. -/
def FltMsg.words (x : FltMsg) : List Word :=
  let m := x.msg
  let head := m.source % 1024 + 1024 * (m.kind % 256) + 2 ^ 18 * (m.cls % 4) + 2 ^ 20 * (x.level % 8) + 2 ^ 23 * b2n x.esc
    + 2 ^ 24 * b2n x.rept + 2 ^ 25 * b2n x.noent + 2 ^ 26 * b2n m.fw
  [head, m.ctx, x.seq, x.time.ns, x.time.sub, x.time.sec, x.time.sec / 4294967296, x.entry].map (fun (n : Nat) => BitVec.ofNat 32 n)

end Sys2Proof

namespace Sys2Proof.Machine

namespace State

def modFlt (s : State) (g : FltState → FltState) : State := { s with flt := g s.flt }

-- ===== standing entries =====

/-- An unacknowledged entry of class MAJOR or CRITICAL stands (R467). -/
def fltUnack (s : State) : Bool := s.flt.entries.any (fun (e : FltEntry) => !e.acked && cMAJOR ≤ e.cls)
/-- FLT status is cleared: no entry of level L3 or above stands (R469). -/
def fltCleared (s : State) : Bool := s.flt.entries.all (fun (e : FltEntry) => e.level < 3)
/-- Highest level of the standing entries. -/
def fltLevel (s : State) : Nat := (s.flt.entries.map (fun (e : FltEntry) => e.level)).foldl max 0
/-- ERR_N is driven low (R470, R78). -/
def errLow (s : State) : Bool :=
  s.flt.errMin.isSome || s.flag FLT_ERR_ERR_SW || s.mode ≤ mCOLD_STANDBY || s.wheelHeld
/-- The lowest free entry index. -/
def freeEntry (s : State) : Option Nat :=
  (List.range 128).find? (fun i => s.flt.entries.all (fun (e : FltEntry) => e.idx != i))

/-- A message that is not a repeat escalates: unacknowledged entries of its class stand (R463); an acknowledgement of this SYS
cycle does not count yet (R473). -/
def standing (s : State) (m : FaultMsg) : List FltEntry :=
  if m.level = 0 ∨ m.cls = cINFO then []
  else s.flt.entries.filter (fun (e : FltEntry) => (!e.acked || e.ackAt == some s.time.mono) && e.cls == m.cls)

/-- Level of a message that is not a repeat, by escalation (R463). -/
def escalated (s : State) (m : FaultMsg) : Nat :=
  if (s.standing m).isEmpty then m.level
  else min 4 (max m.level (((s.standing m).map (fun (e : FltEntry) => e.level)).foldl max 0) + 1)

-- ===== reactions (R460 to R462) =====

/-- Axes of a scope: those of its groups, and every axis for a scope of all groups. -/
def scopeAxes (s : State) (m : GroupMask) : List Nat := s.st.axes.filter (fun a => m = allGroups || s.axisIn m a)

/-- An axis meets the supervision of R461: at commanded standstill, or its group confirmed safe-off. -/
def l1Met (s : State) (a : Nat) : Bool :=
  (match s.tiles.get? a with | some t => t.cv == 0 && t.ca == 0 | none => true) ||
    (if h : s.groupOf a < 4 then s.confirmed ⟨s.groupOf a, h⟩ else false)

/-- Axes that have come to meet the supervision leave it. -/
def superviseL1 (s : State) : State :=
  s.modFlt (fun x => { x with entries := x.entries.map (fun (e : FltEntry) => { e with pend := e.pend.filter (fun a => !s.l1Met a) }) })

/-- FLT_HANDLER is dispatched with a message; with 16 fault dispatches pending it is dropped and counted (R461). -/
def faultDispatch (s : State) (x : FltMsg) : State :=
  match s.st.fltHandler with
  | none => s
  | some r =>
    if s.stopped then s
    else if 16 ≤ (s.sched.ready.filter (fun (w : Work) => w.src == 16)).length then s.bump FLT_CNT_LOST
    else s.join { src := 16, handler := r.handler, key := r.key, group := r.group, payload := x.words.flatMap (fun (w : Word) => natLE 4 w.toNat),
                  entry := s.time.now, late := false }

/-- Mode FAULT at L3 or L4 (R74): an armed swap is dropped, a load ends. -/
def toFault (s : State) (entry : Nat) : State :=
  let from3 := [mBARE, mLOAD, mCOLD_STANDBY, mTAKEOVER, mCOMMISSION, mRUN, mCHANGEOVER, mSAFE_HOLD]
  let armed := s.swapArmed
  let s1 := if s.mode = mLOAD then ({ s with cfg := { s.cfg with loading := none } }.setF CFG_STAT_LDR 0).setF CFG_STAT_BUSY 0
    else if armed then s.dropSwap 0x15
    else if s.mode = mCHANGEOVER then s.setF CFG_STAT_LDR 4 else s
  if s.inMode from3 then
    (let s2 := s1.enterMode mFAULT 1 entry
     if armed then s2.dropPending else s2)
  else s

/-- L4 beyond L3: HOLD, the wheel stopped with its master and every pin low, dispatch stopped and running handlers trapped
(R130, R151, R460). -/
def holdAll (s : State) (entry : Nat) : State :=
  let s0 := if s.mode = mSANITISE then s.enterMode mFAULT 1 entry else s.toFault entry
  if s0.mode ≠ mFAULT ∨ s0.flag SYS_MODE_HOLD then s0
  else
    let s1 := (s0.toMst msHOLD).setF SYS_MODE_HOLD 1
    let s2 := { s1 with wheel := { s1.wheel with spd := 0, pinPulses := [] } }
    let s3 := (List.range 16).foldl (fun (s : State) n => if s.f (WHEEL_EV_CFG_OWNER n) = 0 then s.setPin n false else s) s2
    ((List.finRange 8).foldl (fun (s : State) (c : Fin 8) => s.endHandler c 255) s3).setF SCHED_STAT_STOPPED 1

/-- A level is applied to a scope (R460). -/
def applyLevel (s : State) (x : FltMsg) : State :=
  let lvl := x.level
  if lvl = 0 then s
  else
    let s1 := s.faultDispatch x
    if lvl = 1 then s1
    else
      let m := if 3 ≤ lvl then allGroups else x.msg.scope
      let c1 := if 3 ≤ lvl then 0 else x.msg.cat1
      let s0 := s1.reactGroups m c1
      let off := ((List.range 4).map (fun g => if s0.f (SAFE_STO_STAT_STATE g) = 0 then 2 ^ g else 0)).foldl (· + ·) 0
      let s2 := s0.withdrawGroups (m &&& ((15 - c1 % 16) ||| off))
      let s3 := if lvl = 2 then (s2.abandonSwap 0x15 1).safeHoldCheck x.entry
        else if lvl = 3 then s2.toFault x.entry
        else s2.holdAll x.entry
      s3.sweepGates

-- ===== taking a message (R454, R463 to R465, R470, R471) =====

/-- A copy enters HQ7; a full HQ7 drops it, counted (R471). -/
def notify (s : State) (x : FltMsg) : State :=
  let p := s.offerOr 7 ⟨32, .fault x⟩
  if p.2 then p.1 else p.1.bump FLT_CNT_LOST

/-- ERR_N answers a message (R470): ERR_SW is set and the minimum interval starts anew. -/
def errOn (s : State) (lvl : Nat) : State :=
  if lvl < min 4 (s.f FLT_CFG_ERR_LVL) then s
  else ((s.hit FLT_ERR_ERR_SW).setF FLT_STAT_ERR_MIN 1).modFlt
    (fun x => { x with errMin := some (s.time.mono + s.usCycles (10 * max 1 (min 1000 (s.f FLT_CFG_ERRMIN)))) })

/-- The trigger source FAULT of a capture sees a message (R501). -/
def acqFault (s : State) (m : FaultMsg) (lvl : Nat) : State :=
  if (s.f ACQ_TRIG_FKIND = 0 ∨ s.f ACQ_TRIG_FKIND = m.kind) ∧ s.f ACQ_TRIG_FLVL ≤ lvl then
    { s with acq := { s.acq with pendFault := noted s.acq.pendFault s.time.mono } }
  else s

/-- The collector takes a message: a repeat joins its entry (R465), a notice is only told (R463), any other is escalated,
stored as an entry, applied and told; with the table full it is applied at L3 as well and not stored (R464). -/
def takeFault (s : State) (m : FaultMsg) : State :=
  let s0 := (s.modFlt (fun x => { x with seq := (x.seq + 1) % 4294967296 })).bump FLT_CNT_MSG
  let mk := fun (lvl : Nat) (esc rept noent : Bool) (entry : Nat) =>
    FltMsg.mk m lvl esc rept noent s0.flt.seq s0.time.now entry
  match s0.flt.entries.find? (fun (e : FltEntry) => e.source == m.source && e.kind == m.kind) with
  | some e =>
    let s1 := s0.modFlt (fun x => { x with entries := x.entries.map (fun (y : FltEntry) =>
      if y.idx = e.idx then { y with count := min 4294967295 (y.count + 1), cause := y.cause || m.cond, again := some (s0.time.mono, m) } else y) })
    (s1.acqFault m m.level).notify (mk m.level false true false e.idx)
  | none =>
    if m.level = 0 then ((s0.errOn 0).acqFault m 0).notify (mk 0 false false false 255)
    else
      let lvl := s0.escalated m
      let esc := !(s0.standing m).isEmpty
      let s1 := if esc then (s0.hit FLT_STAT_ESC).bump FLT_CNT_ESC else s0
      match s1.freeEntry with
      | some i =>
        let e : FltEntry := { idx := i, source := m.source, kind := m.kind, cls := m.cls, level := lvl, ctx := m.ctx, first := s1.time.now,
                              firstMono := s1.time.mono, esc := esc, cause := m.cond, scope := if 3 ≤ lvl then allGroups else m.scope,
                              cat1 := if 3 ≤ lvl then 0 else m.cat1, pend := s1.scopeAxes (if 3 ≤ lvl then allGroups else m.scope) }
        let x := mk lvl esc false false i
        let s2 := s1.modFlt (fun y => { y with entries := insertBy (fun (z : FltEntry) => (z.idx : Int)) e y.entries })
        (((s2.applyLevel x).errOn lvl).acqFault m lvl).notify x
      | none =>
        let x := mk (max 3 lvl) esc false true 255
        let s2 := ((s1.applyLevel x).hit FLT_STAT_TBL_FULL).errOn (max 3 lvl)
        let s3 := if m.kind = 0x05 then s2 else s2.raise (mkFault srcFLT 0x05 cCRITICAL 3 [.code m.kind])
        (s3.acqFault m (max 3 lvl)).notify x

/-- One message of HQ7 becomes a FAULT record, message and extension, and a copy in the FIFO (R471). -/
def logFault (s : State) : State :=
  match s.take 7 with
    | some (⟨_, .fault x⟩, s1) =>
      let r : RecItem := { code := 0x10, prio := 3, time := x.time,
                           payload := x.words.flatMap (fun (w : Word) => natLE 4 w.toNat) ++ (x.msg.ext.take 4).flatMap (fun (w : Nat) => natLE 4 w) }
      let s2 := { s1 with recorder := { s1.recorder with faultReady := s1.recorder.faultReady ++ [r] } }
      if s2.flt.fifo.length < 256 then
        (if s2.flt.fifo.isEmpty then s2.msix 1 else s2).modFlt (fun y => { y with fifo := y.fifo ++ [x] })
      else (s2.hit FLT_MSG_LVL_OVF).bump FLT_CNT_LOST
    | some (_, s1) => s1
    | none => s

/-- The next message of the path: a failed read-back of SANITISE (R86), else the oldest; of those of one SYS cycle the one of
lowest source number (R454). -/
def nextFault (s : State) : Option (FaultMsg × List FaultMsg) :=
  match s.flt.path with
  | [] => none
  | m :: ms =>
    let now := (m :: ms).filter (fun (x : FaultMsg) => x.at_ == m.at_)
    let low := (now.map (fun (x : FaultMsg) => x.source)).foldl min m.source
    let ix := match (m :: ms).findIdx? (fun (x : FaultMsg) => x.source == srcSYS && x.kind == 0x02) with
      | some i => i
      | none => (m :: ms).findIdx (fun (x : FaultMsg) => x.source == low && x.at_ == m.at_)
    ((m :: ms)[ix]?).map (fun x => (x, (m :: ms).eraseIdx ix))

/-- The collector takes the next message, in a SYS cycle in which it has taken none (R454). It runs from the end of
SANITISE. -/
def takeNext (s : State) : State :=
  if s.mode = mRESET ∨ (s.mode = mSANITISE ∧ s.sys.sanitiseFail.isNone) then s
  else match s.nextFault with
    | none => s
    | some (m, ms) =>
      let s1 := if s.flt.takenAt = some s.time.mono then s.cycles 1 else s
      (s1.modFlt (fun x => { x with path := ms, takenAt := some s1.time.mono })).takeFault m

/-- A waiting message that takes effect in this SYS cycle is applied before a mode request is judged (R76). -/
def faultFirst (s : State) : State := if s.flt.takenAt = some s.time.mono then s else s.takeNext

end State

/-- FAULT_LOG_ENTRY (R471). -/
def execFaultLogEntry (s : State) : Out := .next s.logFault

/-- FLT_L1_TIMEOUT (R461): an axis of an entry's scope has not stopped within L1STOP. -/
def execFltL1Timeout (e t : Nat) (s : State) : Out :=
  let s0 := (s.runTo t).superviseL1
  .next (match s0.flt.entries.find? (fun (x : FltEntry) => x.idx == e) with
    | some x =>
      if x.pend ≠ [] ∧ x.firstMono + s0.msCycles (max 1 (s0.f FLT_CFG_L1STOP)) ≤ s0.time.mono then
        (s0.modFlt (fun y => { y with entries := y.entries.map (fun (z : FltEntry) => if z.idx = e then { z with pend := [] } else z) })).raise
          (mkFault srcFLT 0x06 cMAJOR 2 [.val e] x.scope)
      else s0
    | none => s0)

/-- FLT_ACK (R467): the key is 0x464B; every entry of the classes that stood before this SYS cycle is acknowledged. -/
def execFltAck (key classes : Nat) (s : State) : Out :=
  .next (if key ≠ 0x464B ∨ !s.mapOpen then s
  else
    let s1 := s.modFlt (fun x => { x with entries := x.entries.map (fun (e : FltEntry) =>
      if !e.acked ∧ classes.testBit e.cls ∧ e.firstMono < s.time.mono then { e with acked := true, ackAt := some s.time.mono } else e) })
    ((s1.setF FLT_RES_CODE 0).setF FLT_RES_REMAIN 0).hit FLT_RES_DONE)

/-- FLT_CLR (R466, R468, R473): one entry or all. live names the entries whose condition holds now; one that has ended in this
SYS cycle counts as present. A repeat of this cycle comes again, as a new message, once its entry is removed. -/
def execFltClr (key entry : Nat) (all : Bool) (live : List Nat) (s : State) : Out :=
  .next (if key ≠ 0x464B ∨ !s.mapOpen then s
  else
    let now := s.time.mono
    let s1 := s.modFlt (fun x => { x with entries := x.entries.map (fun (e : FltEntry) =>
      if e.cause ∧ !live.contains e.idx then { e with cause := false } else e) })
    let named := fun (e : FltEntry) => all || e.idx == entry % 128
    let stays := fun (e : FltEntry) => e.cause || e.endedAt == some now
    let n := (s1.flt.entries.filter named).length
    let gone := s1.flt.entries.filter (fun (e : FltEntry) => named e && !stays e)
    let kept := n - gone.length
    let s2 := s1.modFlt (fun x => { x with entries := x.entries.filter (fun (e : FltEntry) => !named e || stays e) })
    let s3 := gone.foldl (fun (s : State) (e : FltEntry) => match e.again with | some (t, m) => if t = now then s.raise m else s | none => s) s2
    let code := if !all ∧ n = 0 then 2 else if 0 < kept then 1 else 0
    ((s3.setF FLT_RES_CODE code).setF FLT_RES_REMAIN kept).hit FLT_RES_DONE)

/-- FLT_RAISE (R472): KIND 0xF0 to 0xFF, CLASS, LEVEL 0 to 3 and the key 0x464B, with the context of FLT_RAISE_CTX. -/
def execFltRaise (value : Word) (s : State) : Out :=
  let v := value.toNat
  .next (if v / 65536 ≠ 0x464B ∨ v % 256 < 0xF0 ∨ !s.mapOpen then s
  else s.raise { source := 0x200, kind := v % 256, cls := v / 256 % 4, level := v / 1024 % 4, ctx := s.rdN FLT_RAISE_CTX, fw := true })

/-- ERR_SW_WRITE (R470, R473): a message of this SYS cycle sets it again. -/
def execErrSwWrite (level : Bool) (s : State) : Out :=
  .next (if !s.mapOpen then s else s.setB FLT_ERR_ERR_SW (level || s.hitNow FLT_ERR_ERR_SW))

/-- ERRMIN_END (R470): the minimum interval ends; ERR_N follows ERR_SW. -/
def execErrminEnd (t : Nat) (s : State) : Out :=
  let s0 := s.runTo t
  .next (match s0.flt.errMin with
    | some u => if u ≤ s0.time.mono then (s0.modFlt (fun x => { x with errMin := none })).setF FLT_STAT_ERR_MIN 0 else s0
    | none => s0)

/-- FLT_MSG_READ (R471, R474): a read of FLT_MSG0 answers word 0 of the oldest message, removes it and captures its words 1
to 7; 0 when the FIFO is empty. -/
def execFltMsgRead (s : State) : Out :=
  .next (if !s.mapOpen then { s with rdData := 0 }
  else match s.flt.fifo with
    | [] => { s.modFlt (fun x => { x with captured := List.replicate 8 0 }) with rdData := 0 }
    | x :: xs => { s.modFlt (fun y => { y with fifo := xs, captured := x.words }) with rdData := x.words.getD 0 0 })

end Sys2Proof.Machine
end

