-- ==== Sys2Proof/Machine/Solver.lean ====
section
/-! DEFINITION. The predictive control solver (chapter 10): certified fixed-point arithmetic, factorisation, iteration,
acceptance test, windows and deadlines, results and jobs. Values are in units of 2^-31. Vectors have a code for their
RANGECERT entries: 0 θ, 1 q, 2 l, 3 u, 4 ρz − y, 5 r, 6 forward substitution, 7 its quotient, 8 xt, 9 zt, 10 x, 11 zr,
12 zr + y/ρ, 13 y, 14 r_p, 15 r_d, 16 K, 17 L·D, 18 L, 19 D, 20 1/D, 21 z. -/

namespace Sys2Proof

def qNONE : Nat := 0
def qCONVERGED : Nat := 1
def qACCEPTED : Nat := 2
def qSHIFTED : Nat := 3

/-- The RANGECERT entry of element i of a vector. -/
def QProb.fmt (p : QProb) (code i : Nat) : QVar :=
  match p.formats.find? (fun (x : Nat × List QVar) => x.1 == code) with
  | some x => x.2.getD i (x.2.getLastD ⟨65535, 0, -2147483648, 2147483647⟩)
  | none => ⟨65535, 0, -2147483648, 2147483647⟩

/-- Store an exact sum of accumulator units 2^-(55−m): convergent rounding to the destination; outside the accumulator or
the certified bounds it is a range excursion, which names the variable (R283). -/
def QVar.store (v : QVar) (acc : Int) : Except Nat Int :=
  if acc < -9223372036854775808 ∨ 9223372036854775807 < acc then .error v.idx
  else
    let x := roundHalfEven acc 16777216 * 2 ^ v.m
    if x < v.lo ∨ v.hi < x then .error v.idx else .ok x

/-- Products are formed exactly and rounded into the accumulator one by one, in order; none where the accumulator is left
(R283). -/
def QVar.sum (v : QVar) : List (Int × Int) → Int → Option Int
  | [], acc => some acc
  | p :: ps, acc =>
    let n := acc + roundHalfEven (p.1 * p.2) (2 ^ (7 + v.m))
    if n < -9223372036854775808 ∨ 9223372036854775807 < n then none else v.sum ps n

/-- A dot product stored to a variable (R283). -/
def QVar.dot (v : QVar) (ps : List (Int × Int)) : Except Nat Int := match v.sum ps 0 with | some acc => v.store acc | none => .error v.idx

/-- A value that is written to a variable as it stands: within its certified bounds (R52). -/
def QVar.put (v : QVar) (x : Int) : Except Nat Int := if x < v.lo ∨ v.hi < x then .error v.idx else .ok x

/-- A quotient a/b stored to a variable. -/
def QVar.quot (v : QVar) (a b : Int) : Except Nat Int :=
  if b = 0 then .error v.idx
  else v.store (roundHalfEven (a * b.sign * 2 ^ (55 - v.m)) b.natAbs)

/-- One, in units of 2^-31. -/
def one31 : Int := 2147483648

/-- A vector, element by element; the first excursion ends it. -/
def qvec (f : Nat → Except Nat Int) : Nat → Nat → Except Nat (List Int)
  | 0, _ => .ok []
  | n + 1, i =>
    match f i with
    | .error e => .error e
    | .ok x => match qvec f n (i + 1) with | .ok xs => .ok (x :: xs) | .error e => .error e

def row (a : List (List Int)) (i : Nat) : List Int := a.getD i []
def col (a : List (List Int)) (j : Nat) : List Int := a.map (fun (r : List Int) => r.getD j 0)

/-- Forward substitution with L, then the product with 1/D: (f_i, f_i / d_i), the elements so far being given in order. -/
def forward (p : QProb) (f : QFactor) (r : List Int) : Nat → Nat → List Int → Except Nat (List Int)
  | 0, _, acc => .ok acc
  | n + 1, i, acc =>
    match (p.fmt 6 i).dot ((r.getD i 0, one31) :: ((row f.l i).zip acc).map (fun (x : Int × Int) => (-x.1, x.2))) with
    | .error e => .error e
    | .ok x => forward p f r n (i + 1) (acc ++ [x])

/-- Back substitution with Lᵀ, from the last element down; acc holds the elements above i. -/
def backward (p : QProb) (f : QFactor) (g : List Int) : Nat → List Int → Except Nat (List Int)
  | 0, acc => .ok acc
  | i + 1, acc =>
    match (p.fmt 8 i).dot ((g.getD i 0, one31) ::
        ((List.range acc.length).map (fun k => (-((row f.l (i + 1 + k)).getD i 0), acc.getD k 0)))) with
    | .error e => .error e
    | .ok x => backward p f g i (x :: acc)

/-- xt from L D Lᵀ xt = r (R289). -/
def qsolve (p : QProb) (f : QFactor) (r : List Int) (n : Nat) : Except Nat (List Int) :=
  match forward p f r n 0 [] with
  | .error e => .error e
  | .ok v =>
    match qvec (fun i => (p.fmt 7 i).dot [(v.getD i 0, f.dinv.getD i 0)]) n 0 with
    | .error e => .error e
    | .ok g => backward p f g n []

/-- One iteration (R289): the next completed iterate, or the variable of an excursion. -/
def qiterate (p : QProb) (f : QFactor) (ρ : Int) (w : QWindow) : Except Nat QPoint :=
  let n := w.it.x.length
  let m := w.it.z.length
  let z := w.it.z
  let y := w.it.y
  match qvec (fun i => (p.fmt 4 i).dot [(ρ, z.getD i 0), (-one31, y.getD i 0)]) m 0 with
  | .error e => .error e
  | .ok t =>
  match qvec (fun i => (p.fmt 5 i).dot ((p.sigma, w.it.x.getD i 0) :: (-one31, w.q.getD i 0) :: (col p.a i).zip t)) n 0 with
  | .error e => .error e
  | .ok r =>
  match qsolve p f r n with
  | .error e => .error e
  | .ok xt =>
  match qvec (fun i => (p.fmt 9 i).dot ((row p.a i).zip xt)) m 0 with
  | .error e => .error e
  | .ok zt =>
  match qvec (fun i => (p.fmt 10 i).dot [(p.alpha, xt.getD i 0), (one31 - p.alpha, w.it.x.getD i 0)]) n 0 with
  | .error e => .error e
  | .ok x =>
  match qvec (fun i => (p.fmt 11 i).dot [(p.alpha, zt.getD i 0), (one31 - p.alpha, z.getD i 0)]) m 0 with
  | .error e => .error e
  | .ok zr =>
  match qvec (fun i => match (p.fmt 12 i).quot (y.getD i 0) ρ with
      | .error e => .error e | .ok d => (p.fmt 12 i).dot [(one31, zr.getD i 0), (one31, d)]) m 0 with
  | .error e => .error e
  | .ok v =>
  match qvec (fun i => (p.fmt 21 i).put (max (w.l.getD i 0) (min (v.getD i 0) (w.u.getD i 0)))) m 0 with
  | .error e => .error e
  | .ok zn =>
  match qvec (fun i => (p.fmt 13 i).dot [(one31, y.getD i 0), (ρ, zr.getD i 0), (-ρ, zn.getD i 0)]) m 0 with
  | .error e => .error e
  | .ok y' => .ok ⟨zn, x, y'⟩

/-- The residuals of the completed iterate (R290). -/
def qresiduals (p : QProb) (w : QWindow) : Except Nat (Int × Int) :=
  let n := w.it.x.length
  let m := w.it.z.length
  match qvec (fun i => (p.fmt 14 i).dot ((-one31, w.it.z.getD i 0) :: (row p.a i).zip w.it.x)) m 0 with
  | .error e => .error e
  | .ok a =>
  match qvec (fun i => (p.fmt 15 i).dot ((one31, w.q.getD i 0) :: (row p.h i).zip w.it.x ++ (col p.a i).zip w.it.y)) n 0 with
  | .error e => .error e
  | .ok b => .ok ((a.map (fun x => |x|)).foldl max 0, (b.map (fun x => |x|)).foldl max 0)

/-- A pivot regularised by δ at most 15 times, each sum within its certified bounds (R52, R287): the pivot and whether it was
touched; none stays below PIV_MIN. -/
def regularise (p : QProb) (v : QVar) (d : Int) : Nat → Option (Int × Bool)
  | 0 => if p.pivMin ≤ d then some (d, false) else none
  | k + 1 =>
    if p.pivMin ≤ d then some (d, false)
    else match v.put (d + p.delta) with
      | .ok x => (regularise p v x k).map (fun x => (x.1, true))
      | .error _ => none

/-- The elements of row i of L·D and L, from column j on (R286); the rows above and their 1/D are given. -/
def factRow (p : QProb) (k : List Int) (ls : List (List Int)) (dinv : List Int) : Nat → Nat → List Int → List Int → Except Nat (List Int × List Int)
  | 0, _, c, l => .ok (c, l)
  | n + 1, j, c, l =>
    match (p.fmt 17 j).dot ((k.getD j 0, one31) :: (c.zip (row ls j)).map (fun (x : Int × Int) => (-x.1, x.2))) with
    | .error e => .error e
    | .ok cj =>
      match (p.fmt 18 j).dot [(cj, dinv.getD j 0)] with
      | .error e => .error e
      | .ok lj => factRow p k ls dinv n (j + 1) (c ++ [cj]) (l ++ [lj])

/-- The factor of K, row by row, with the columns whose pivots were regularised (R286, R287). -/
def factRows (p : QProb) (ks : List (List Int)) : Nat → Nat → QFactor → List Nat → Except Nat (QFactor × List Nat)
  | 0, _, f, piv => .ok (f, piv)
  | n + 1, i, f, piv =>
    match factRow p (row ks i) f.l f.dinv i 0 [] [] with
    | .error e => .error e
    | .ok (c, l) =>
      match (p.fmt 19 i).dot (((row ks i).getD i 0, one31) :: (c.zip l).map (fun (x : Int × Int) => (-x.1, x.2))) with
      | .error e => .error e
      | .ok d =>
        match regularise p (p.fmt 19 i) d 15 with
        | none => .error (p.fmt 19 i).idx
        | some (d', t) =>
          match (p.fmt 20 i).quot one31 d' with
          | .error e => .error e
          | .ok r => factRows p ks n (i + 1) { l := f.l ++ [l], dinv := f.dinv ++ [r] } (if t then piv ++ [i] else piv)

/-- K = H + σI + ρG, and the first rows of its factor (R286). -/
def qfactorRows (p : QProb) (ρ : Int) (rows : Nat) : Except Nat (QFactor × List Nat) :=
  let n := p.h.length
  let el := fun (t : Nat) =>
    let i := t / max n 1
    let j := t % max n 1
    (p.fmt 16 i).dot [((row p.h i).getD j 0, one31), (if i = j then p.sigma else 0, one31), (ρ, (row p.g i).getD j 0)]
  match qvec el (n * n) 0 with
  | .error e => .error e
  | .ok flat => factRows p ((List.range n).map (fun i => (flat.drop (i * n)).take n)) rows 0 {} []

/-- K's factor (R286). -/
def qfactor (p : QProb) (ρ : Int) : Except Nat (QFactor × List Nat) := qfactorRows p ρ p.h.length

/-- A vector shifted by a number of horizon steps (R279). -/
def shiftBy (map : List Nat) (v : List Int) : Nat → List Int
  | 0 => v
  | n + 1 => shiftBy map ((List.range v.length).map (fun i => v.getD (map.getD i i) 0)) n

/-- A solution shifted by steps. -/
def QPoint.shift (p : QProb) (x : QPoint) (n : Nat) : QPoint :=
  ⟨shiftBy p.shiftRow x.z n, shiftBy p.shiftVar x.x n, shiftBy p.shiftRow x.y n⟩

/-- A start of a window within the certified bounds of its variables, or the first variable outside (R52). -/
def QPoint.checked (p : QProb) (x : QPoint) : Except Nat QPoint :=
  match qvec (fun i => (p.fmt 21 i).put (x.z.getD i 0)) x.z.length 0, qvec (fun i => (p.fmt 10 i).put (x.x.getD i 0)) x.x.length 0,
    qvec (fun i => (p.fmt 13 i).put (x.y.getD i 0)) x.y.length 0 with
  | .error e, _, _ => .error e
  | _, .error e, _ => .error e
  | _, _, .error e => .error e
  | .ok z, .ok v, .ok y => .ok ⟨z, v, y⟩

end Sys2Proof

namespace Sys2Proof.Machine
namespace State

def prob (s : State) (arm : Nat) : Option QProb := s.st.probs.find? (fun (p : QProb) => p.arm == arm)
def probAt (s : State) (u j : Nat) : Option QProb := s.st.probs.find? (fun (p : QProb) => p.unit == u && p.pos == j)
def modQ (s : State) (a : Fin 12) (g : QArm → QArm) : State := { s with qarms := s.qarms.modify a g }
def qa (s : State) (a : Fin 12) : QArm := s.qarms.get a

/-- ρ of the present ladder index (R286). -/
def rhoOf (s : State) (p : QProb) : Int := p.rho.getD (s.f (QS_ARM_RES_RHO p.unit p.pos)) 0
/-- A range excursion (R285): stage 0 PARAM, 1 FACT, 2 ITER. -/
def solRange (s : State) (p : QProb) (idx stage : Nat) : State :=
  let s1 := (s.hit (QS_STAT_RANGE p.unit)).raise (mkFault (0x70 + p.unit) 0x38 cMAJOR 0 [.inst p.arm, .val idx, altCode 0x38 stage])
  if h : p.arm < 12 then s1.modQ ⟨p.arm, h⟩ (fun x => { x with reinit := true }) else s1

/-- Nanoseconds since the last millisecond-frame boundary. -/
def frameNs (s : State) : Nat := s.time.now % Config.msUnits / Config.nsUnits

/-- The window of an arm ends (R292), and a factorisation with it: the result waits for its publication. cause: 1 failed test, 2 range excursion,
3 refused job, 4 discarded, 5 late, 6 stopped. -/
def endWindow (s : State) (a : Fin 12) (p : QProb) (kind cause : Nat) : State :=
  match (s.qa a).win with
  | none => s
  | some w =>
    let s := match (s.qa a).fact with | some old => s.setF (QS_ARM_RES_RHO p.unit p.pos) old | none => s
    ((((s.modQ a (fun x => { x with
        win := none, fact := none
        res := some ⟨w.frame, kind, w.k, if kind = qSHIFTED then none else some w.it, cause⟩ })).setF (QS_STAT_RUNNING p.unit) 0).setF
      (QS_STAT_POS p.unit) 15).setF (QS_STAT_IN_FACT p.unit) 0).setF (QS_ARM_TEND_T p.unit p.pos) (min s.frameNs 1048575)
      |>.setF (QS_ARM_RES_ITER p.unit p.pos) (min w.k 255)

/-- The window ends at an excursion (R285). -/
def endRange (s : State) (a : Fin 12) (p : QProb) (idx stage : Nat) : State := (s.solRange p idx stage).endWindow a p qSHIFTED 2

/-- A factorisation for another ladder index starts (R286, R291). -/
def startFact (s : State) (a : Fin 12) (p : QProb) (n : Nat) : State :=
  let i := s.f (QS_ARM_RES_RHO p.unit p.pos)
  ((s.modQ a (fun x => { x with fact := some i })).setF (QS_ARM_RES_RHO p.unit p.pos) n).setF (QS_STAT_IN_FACT p.unit) 1

/-- A window after an excursion starts at RHO_INIT, whose factor is made anew where the index was another (R285). -/
def reinitRho (s : State) (a : Fin 12) (p : QProb) : State :=
  let n := s.f (QS_ARM_CHK_RHO_INIT p.unit p.pos)
  let s1 := s.modQ a (fun x => { x with reinit := false })
  if (s.qa a).reinit ∧ s.f (QS_ARM_RES_RHO p.unit p.pos) ≠ n then s1.startFact a p n else s1

/-- An instant of the window's frame lies past the arm's deadline (R293). -/
def pastD (s : State) (p : QProb) (w : QWindow) : Bool :=
  w.frame != s.frameSeq || decide (s.f (QS_ARM_DL_D p.unit p.pos) < s.frameNs)

/-- The applied solution shifted one step (R289); zero where none remains (R295). -/
def warm (s : State) (a : Fin 12) (p : QProb) : QPoint :=
  match (s.qa a).good with
  | some g => g.shift p ((s.qa a).c + 1)
  | none => ⟨List.replicate p.a.length 0, List.replicate p.h.length 0, List.replicate p.a.length 0⟩

/-- q, l and u from θ, the CAP rows times s_cap (R279, R281). -/
def qparams (p : QProb) (θ : List Int) (cap : Nat) : Except Nat (List Int × List Int × List Int) :=
  let aff := fun (code : Nat) (f : List (List Int)) (b : List Int) (i : Nat) =>
    match (p.fmt code i).dot ((b.getD i 0, one31) :: (row f i).zip θ) with
    | .ok x => if code ≠ 1 ∧ p.capRows.contains i then (p.fmt code i).dot [(x, (cap : Int) * 32768)] else .ok x
    | e => e
  match qvec (fun i => if θ.getD i 0 < (p.fmt 0 i).lo ∨ (p.fmt 0 i).hi < θ.getD i 0 then .error (p.fmt 0 i).idx else .ok (θ.getD i 0)) p.states.length 0 with
  | .error e => .error e
  | .ok _ =>
  match qvec (aff 1 p.fq p.q0) p.h.length 0 with
  | .error e => .error e
  | .ok q =>
  match qvec (aff 2 p.fl p.l0) p.a.length 0 with
  | .error e => .error e
  | .ok l =>
  match qvec (aff 3 p.fu p.u0) p.a.length 0 with
  | .error e => .error e
  | .ok u => .ok (q, l, u)

/-- θ from the latched words of the arm's tiles (R280); each raw word is shifted into its certified format. -/
def theta (s : State) (p : QProb) : List Int :=
  (List.range p.states.length).map (fun i =>
    match p.states[i]? with
    | none => 0
    | some e =>
      let a := e.axis
      let v : Int :=
        if e.kind = 0 then signed 32 (wrapNat 32 (signed 32 (s.rdN (TILE_PLN_POS a 1)) - s.rdI (TILE_FB_POS a)))
        else if e.kind = 1 then signed 64 (s.rd2 (TILE_FB_SPD a))
        else if e.kind = 2 then signed 64 (s.rd2 (TILE_PLN_VEL a))
        else if e.kind = 3 then s.rdI (TILE_PLN_ACC a)
        else if e.kind = 4 then signed 16 (s.f (TILE_LP_OUT_VALUE a))
        else if e.kind = 5 then (s.f (CL_PSO_ACT_S p.arm) : Int)
        else 0
      scale2 v e.shift * 2 ^ (p.fmt 0 i).m)

/-- The units are stopped: shedding, an L4 reaction (R297). -/
def unitsStopped (s : State) : Bool := (List.range 4).any (fun u => s.flag (QS_STAT_STOPPED u))

/-- A unit stops; a window ends without a result (R97, R299). -/
def stopUnits (s : State) : State :=
  let s1 := (List.range 4).foldl (fun (s : State) u => s.setF (QS_STAT_STOPPED u) 1) s
  s1.st.probs.foldl (fun (s : State) (p : QProb) => if h : p.arm < 12 then s.endWindow ⟨p.arm, h⟩ p qSHIFTED 6 else s) s1
def startUnits (s : State) : State := (List.range 4).foldl (fun (s : State) u => s.setF (QS_STAT_STOPPED u) 0) s

/-- One job an arm is offered to HQ10 at the millisecond frame (R297); a refusal is recorded with its code (R45). -/
def offerJob (s : State) (p : QProb) : State :=
  if h : p.arm < 12 then
    let a : Fin 12 := ⟨p.arm, h⟩
    let waits := (s.queue 10).items.any (fun (i : QItem) => match i.body with | .job x => x == p.arm | _ => false)
    let refuse := fun (s : State) (code : Nat) => (s.bump (QS_ARM_CNT_REF p.unit p.pos)).modQ a (fun x => { x with lost := 3, refused := code })
    if s.unitsStopped ∨ (s.qa a).dead then refuse s admMODE
    else if waits then refuse s admLATE
    else
      let r := s.offerOr 10 ⟨320, .job p.arm⟩
      if r.2 then r.1.modQ a (fun x => { x with job := some (s.frameSeq, s.f (CL_PSO_CAP_S_CAP p.arm), s.theta p), lost := 0 })
      else refuse r.1 admFULL
  else s

def offerJobs (s : State) : State := s.st.probs.foldl (fun (s : State) (p : QProb) => s.offerJob p) { s with jobsDue := false }

/-- Every joint of an arm is referenced. -/
def armReferenced (s : State) (p : QProb) : Bool := p.outs.all (fun o => s.referenced o.1)

/-- Usability of the result in use (R295). -/
def qUsable (s : State) (p : QProb) (kind c : Nat) (dead : Bool) : Bool :=
  (kind == qCONVERGED || kind == qACCEPTED || (kind == qSHIFTED && c ≤ s.f (QS_ARM_CFG_SHIFT_MAX p.unit p.pos)))
    && (s.mode != mCOMMISSION || s.armReferenced p) && !dead

/-- KIND, USABLE and SHIFTS are shown, and the engine told. -/
def showRes (s : State) (a : Fin 12) (p : QProb) : State :=
  let x := s.qa a
  (((s.setF (QS_ARM_RES_KIND p.unit p.pos) x.kind).setB (QS_ARM_RES_USABLE p.unit p.pos) x.usable).setF
    (QS_ARM_RES_SHIFTS p.unit p.pos) (min x.c 15)).modCl a (fun c => { c with usable := x.usable })

/-- A SHIFTED result, or none where no applied solution remains (R294, R295): past SHIFT_MAX the solution is not used, and the
next result is NONE. -/
def qShift (s : State) (a : Fin 12) (p : QProb) (cause : Nat) : State :=
  let x := s.qa a
  let iters := match x.res with | some r => r.iters | none => 0
  if x.good.isNone then s.modQ a (fun x => { x with kind := qNONE, usable := false, frame := s.frameSeq, iters := iters })
  else
    let c := x.c + 1
    let s1 := (s.bump (QS_ARM_CNT_SHIFT p.unit p.pos)).raise (mkFault (0x70 + p.unit) 0x3A cINFO 0 [.inst p.arm, altCode 0x3A cause])
    let stale := decide (s.f (QS_ARM_CFG_SHIFT_MAX p.unit p.pos) < c)
    let s2 := if stale then s1.raise (mkFault (0x70 + p.unit) 0x3B cMINOR 0 [.inst p.arm, .val c]) else s1
    s2.modQ a (fun x => { x with
      c := c, kind := qSHIFTED, stale := stale, usable := s.qUsable p qSHIFTED c x.dead
      good := if stale then none else x.good, frame := s.frameSeq, iters := iters })

/-- The result of the ended frame is settled at the boundary (R294, R295, R33): one that entered HQ11 in the cycle of the
boundary or has not entered it is too late (R299). -/
def settleArm (s : State) (p : QProb) : State :=
  if h : p.arm < 12 then
    let a : Fin 12 := ⟨p.arm, h⟩
    let x := s.qa a
    let inQ := (s.queue 11).items.any (fun (i : QItem) => match i.body with | .solution k t => k == p.arm && decide (t < s.time.mono) | _ => false)
    let s0 := s.withdraw 11 (fun i => match i.body with | .solution k _ => k == p.arm | _ => false)
    let s1 := match x.res with
      | some r =>
        (match r.point with
          | some g =>
            if inQ ∧ r.frame = s.frameSeq then
              s0.modQ a (fun y => { y with good := some g, c := 0, stale := false, kind := r.kind, frame := r.frame, iters := r.iters,
                                           usable := s.qUsable p r.kind 0 y.dead })
            else s0.qShift a p 5
          | none => s0.qShift a p r.cause)
      | none => s0.qShift a p (if x.lost ≠ 0 then x.lost else 1)
    (s1.modQ a (fun y => { y with res := none, lost := 0 })).showRes a p
  else s

def settleResults (s : State) : State := s.st.probs.foldl (fun (s : State) (p : QProb) => s.settleArm p) s

/-- The value of an OUTMAP entry at tick k, between the steps c and c + 1 (R296). -/
def outValue (o : QOut) (g : QPoint) (c k : Nat) : Int :=
  let at_ := fun (step : Nat) => match o.vars.getD step none with | some v => scale2 (g.x.getD v 0) o.exp | none => 0
  at_ c + roundHalfEven ((at_ (c + 1) - at_ c) * k) 16

/-- The SOL words of an arm's joints before the tick section of tick k of the frame (R296). -/
def distribute (s : State) (p : QProb) (k : Nat) : State :=
  if h : p.arm < 12 then
    let a : Fin 12 := ⟨p.arm, h⟩
    let x := s.qa a
    let stat := x.kind + 4 * b2n x.usable + 8 * (min x.c 15) + 256 * min x.iters 255 + 65536 * (x.frame % 65536)
    p.outs.foldl (fun (s : State) o =>
      let b := 0x40 * (o.1 % 8)
      let s1 := s.dputN a (b + 0x13) stat
      match (if x.usable then x.good else none) with
      | some g =>
        let v := outValue o.2.2.1 g x.c k
        ((((s1.dputN a (b + 0x0E) (wrapNat 16 (outValue o.2.1 g x.c k))).dputN a (b + 0x0F) (wrapNat 32 v)).dputN a (b + 0x10)
          (wrapNat 64 v / 4294967296)).dputN a (b + 0x11) (wrapNat 32 (outValue o.2.2.2.1 g x.c k))).dputN a (b + 0x12)
          (wrapNat 32 (outValue o.2.2.2.2 g x.c k))
      | none => s1) s
  else s

end State

/-- The windows of the arms before position j of a unit have been worked in this frame (R292). -/
def State.turnOf (s : State) (u j : Nat) : Bool :=
  s.st.probs.all (fun (p : QProb) => p.unit != u || decide (j ≤ p.pos) || (match s.qarms.get? p.arm with | some x => x.job.isNone | none => true))

/-- SOLVER_WINDOW_OPEN (R289, R292): the window of the arm in position j of unit u; its job leaves HQ10. -/
def execSolverWindowOpen (u : Fin 4) (j : Fin 12) (t : Nat) (s : State) : Out :=
  let s0 := s.runTo t
  .next (match s0.probAt u j with
    | none => s0
    | some p =>
      if h : p.arm < 12 then
        let a : Fin 12 := ⟨p.arm, h⟩
        let isJob := fun (i : QItem) => match i.body with | .job x => x == p.arm | _ => false
        match (s0.qa a).job with
        | none => s0
        | some (frame, cap, θ) =>
          if s0.flag (QS_STAT_RUNNING u) ∨ s0.flag (QS_STAT_STOPPED u) ∨ !s0.turnOf u j ∨ !(s0.queue 10).items.any isJob then s0
          else
            let s1 := (s0.withdraw 10 isJob).modQ a (fun x => { x with job := none })
            let open_ := fun (q l v : List Int) (it : QPoint) =>
              ((s1.modQ a (fun x => { x with win := some ⟨frame, q, l, v, it, 0, false⟩ })).setF (QS_STAT_RUNNING u) 1).setF (QS_STAT_POS u) j
            match State.qparams p θ cap with
            | .error idx => (open_ [] [] [] (s1.warm a p)).endRange a p idx 0
            | .ok (q, l, v) =>
              match (s1.warm a p).checked p with
              | .error idx => (open_ q l v (s1.warm a p)).endRange a p idx 2
              | .ok it => (open_ q l v it).reinitRho a p
      else s0)

/-- The arm whose window is open on a unit. -/
def State.working (s : State) (u : Nat) : Option (Fin 12 × QProb × QWindow) :=
  if s.flag (QS_STAT_RUNNING u) then
    match s.probAt u (s.f (QS_STAT_POS u)) with
    | some p => if h : p.arm < 12 then (s.qa ⟨p.arm, h⟩).win.map (fun w => (⟨p.arm, h⟩, p, w)) else none
    | none => none
  else none

/-- SOLVER_ITERATION (R289): an iteration completes, no later than D (R293, R299); iterations wait while a factorisation runs
(R291). -/
def execSolverIteration (u : Fin 4) (t : Nat) (s : State) : Out :=
  let s0 := s.runTo t
  .next (match s0.working u with
    | some (a, p, w) =>
      if s0.pastD p w ∨ s0.flag (QS_STAT_IN_FACT u) ∨ (w.k ≠ 0 ∧ w.k % max 1 (s0.f (QS_ARM_CHK_CHK_IT u p.pos)) = 0 ∧ !w.tested) then s0
      else
        match qiterate p (s0.qa a).active (s0.rhoOf p) w with
        | .ok it => s0.modQ a (fun x => { x with win := some { w with it := it, k := w.k + 1, tested := false } })
        | .error idx => s0.endRange a p idx 2
    | none => s0)

/-- Residuals in units of 2^-16 of their thresholds, saturating (R290). -/
def State.putResiduals (s : State) (p : QProb) (r : Int × Int) : State :=
  let q := fun (x e : Int) => (min (roundHalfEven (x * 65536) (max e 1).toNat) 4294967295).toNat
  (s.wrN (QS_ARM_RP p.unit p.pos) (q r.1 p.epsP)).wrN (QS_ARM_RD p.unit p.pos) (q r.2 p.epsD)

/-- The penalty is adapted after a failed test (R291); a change starts a factorisation. -/
def State.adaptRho (s : State) (a : Fin 12) (p : QProb) (r : Int × Int) : State :=
  let i := s.f (QS_ARM_RES_RHO p.unit p.pos)
  let trig : Int := s.f (QS_ARM_CHK_RHO_TRIG p.unit p.pos)
  if trig * r.2 * p.epsP < r.1 * p.epsD ∧ i < 3 then s.startFact a p (i + 1)
  else if trig * r.1 * p.epsD < r.2 * p.epsP ∧ 0 < i then s.startFact a p (i - 1)
  else s

/-- SOLVER_TEST (R290, R291): due after every CHK_IT iterations. One that ends past D was in progress at D and decides the
window (R293, R299). -/
def execSolverTest (u : Fin 4) (t : Nat) (s : State) : Out :=
  let s0 := s.runTo t
  .next (match s0.working u with
    | some (a, p, w) =>
      if w.k = 0 ∨ w.k % max 1 (s0.f (QS_ARM_CHK_CHK_IT u p.pos)) ≠ 0 ∨ w.tested then s0
      else
        match qresiduals p w with
        | .error idx => s0.endRange a p idx 2
        | .ok r =>
          let s1 := (s0.putResiduals p r).modQ a (fun x => { x with win := some { w with tested := true } })
          let pass := decide (r.1 ≤ p.epsP ∧ r.2 ≤ p.epsD)
          if s0.pastD p w then (if pass then s1.endWindow a p qACCEPTED 0 else s1.endWindow a p qSHIFTED 1)
          else if pass then s1.endWindow a p qCONVERGED 0
          else s1.adaptRho a p r
    | none => s0)

/-- Regularised pivots (R287): PIVOT, the count, and a notice for each column. -/
def State.notePivots (s : State) (p : QProb) (piv : List Nat) : State :=
  if piv.isEmpty then s
  else
    piv.foldl (fun (s : State) c => s.raise (mkFault (0x70 + p.unit) 0x39 cMINOR 0 [.inst p.arm, .val c]))
      ((s.hit (QS_STAT_PIVOT p.unit)).bumpBy (QS_ARM_CNT_PIV p.unit p.pos) piv.length)

/-- FACTORISATION_DONE (R286, R287): the factors exchange roles; an excursion abandons the new factor (R285). Past D the
factorisation is cut (R293). -/
def execFactorisationDone (u : Fin 4) (t : Nat) (s : State) : Out :=
  let s0 := s.runTo t
  .next (match s0.working u with
    | some (a, p, w) =>
      match (s0.qa a).fact, s0.pastD p w with
      | none, _ | _, true => s0
      | some old, false =>
        let s1 := (s0.modQ a (fun x => { x with fact := none })).setF (QS_STAT_IN_FACT u) 0
        match qfactor p (s0.rhoOf p) with
        | .error idx => (s1.setF (QS_ARM_RES_RHO u p.pos) old).solRange p idx 1
        | .ok (f, piv) => ((s1.modQ a (fun x => { x with active := f })).bump (QS_ARM_CNT_FACT u p.pos)).notePivots p piv
    | none => s0)

/-- A factorisation is cut at D (R293, R299): the index is as before, what it met in the columns made by then stands. -/
def State.cutFact (s : State) (a : Fin 12) (p : QProb) (cols : Nat) : State :=
  match (s.qa a).fact with
  | some old =>
    let s1 := match qfactorRows p (s.rhoOf p) (min cols p.h.length) with
      | .ok (_, piv) => s.notePivots p piv
      | .error idx => s.solRange p idx 1
    ((s1.setF (QS_ARM_RES_RHO p.unit p.pos) old).hit (QS_ARM_RES_FACT_CUT p.unit p.pos)).bump (QS_ARM_CNT_CUT p.unit p.pos)
  | none => s

/-- SOLVER_DEADLINE (R293): iteration stops, a factorisation is cut, the completed iterate is tested if it has not been. cols is
the number of columns that a factorisation under way has made. -/
def execSolverDeadline (u : Fin 4) (cols t : Nat) (s : State) : Out :=
  let s0 := s.runTo t
  .next (match s0.working u with
    | some (a, p, w) =>
      if w.frame = s0.frameSeq ∧ s0.frameNs < s0.f (QS_ARM_DL_D u p.pos) then s0
      else
        let s1 := s0.cutFact a p cols
        if w.tested then s1.endWindow a p qSHIFTED 1
        else
          match qresiduals p w with
          | .error idx => s1.endRange a p idx 2
          | .ok r =>
            let s2 := s1.putResiduals p r
            if r.1 ≤ p.epsP ∧ r.2 ≤ p.epsD then s2.endWindow a p qACCEPTED 0 else s2.endWindow a p qSHIFTED 1
    | none => s0)

/-- SOLVER_PUBLISH (R296): the result of an ended window enters HQ11; with HQ11 full it is discarded (R141). -/
def execSolverPublish (u : Fin 4) (j : Fin 12) (s : State) : Out :=
  .next (match s.probAt u j with
    | some p =>
      if h : p.arm < 12 then
        let a : Fin 12 := ⟨p.arm, h⟩
        let sent := (s.queue 11).items.any (fun (i : QItem) => match i.body with | .solution k _ => k == p.arm | _ => false)
        if (s.qa a).win.isNone ∧ (s.qa a).res.isSome ∧ !sent then
          let r := s.offerOr 11 ⟨64, .solution p.arm s.time.mono⟩
          if r.2 then r.1 else r.1.modQ a (fun x => { x with res := x.res.map (fun (y : QResult) => { y with point := none, kind := qSHIFTED, cause := 4 }) })
        else s
      else s
    | none => s)

/-- SOL_ECC (R298): a memory error of unit u. A single-bit error is counted; a double-bit error in an arm's constant data
disables its jobs, one in work data ends the window as an excursion does. -/
def execSolEcc (u : Fin 4) (double : Bool) (const : Option (Fin 12)) (address : Nat) (s : State) : Out :=
  .next (if !double then s.bump (QS_CNT_ECC u)
    else
      let s0 := s.hit (QS_STAT_ECC2 u)
      match const with
      | some a =>
        let s1 := (s0.modQ a (fun x => { x with dead := true, usable := false })).raise
          (mkFault (0x70 + u) 0x3D cMAJOR 1 [.inst u, .inst a, .val address])
        match s1.prob a with | some p => s1.showRes a p | none => s1
      | none =>
        let s1 := s0.raise (mkFault (0x70 + u) 0x3C cMAJOR 0 [.inst u, .val address])
        match s1.working u with
        | some (a, p, _) => (s1.endWindow a p qSHIFTED 2).modQ a (fun x => { x with reinit := true })
        | none => s1)

end Sys2Proof.Machine
end

