-- ==== Sys2Proof/Machine/Loam.lean ====
section
/-! DEFINITION. The Loam snapshot (chapters 03 and 17): its content, its two MRAM buffers, its streaming, and what a warm
start or a takeover restores from it. -/

namespace Sys2Proof

/-- Words of a hash, word 0 least significant, from its octets (R11, R49). -/
def hashWords (bs : List Byte) : List Word :=
  (List.range 12).map (fun w => BitVec.ofNat 32 (beNat ((bs.drop (44 - 4 * w)).take 4)))

/-- The octets of a hash from its words. -/
def hashOctets (ws : List Word) : List Byte := ws.reverse.flatMap (fun (w : Word) => natBE 4 w.toNat)

/-- Words of the data memory that a snapshot holds: loop state words of the I/O blocks, and 0x0200 to 0x0FFF (R440). -/
def snapAddr (a : Nat) : Bool := (0x200 ≤ a && a < 0x1000) || (a < 0x200 && 0x14 ≤ a % 0x40)

end Sys2Proof

namespace Sys2Proof.Machine
namespace State

def runHash (s : State) : List Word := match s.cfg.run with | some i => i.hash | none => List.replicate 12 0

/-- L of the running structure (R440). -/
def snapLen (s : State) : Nat := 0x64000 + s.st.fwSize + 8

def tileSnap (s : State) (a : Fin 96) : TileSnap :=
  let t := s.tiles.get a
  { axis := a, active := t.active, queued := t.queued, held := t.held,
    lims := (s.rd2 (TILE_PLN_VMAX a), s.rdN (TILE_PLN_AMAX a), s.rdN (TILE_PLN_DMAX a), s.rdN (TILE_PLN_JMAX a)),
    ref := s.referenced a, pos := s.rdI (TILE_FB_POS a), lp := t.lp, ps := t.ps }

/-- Ladder index of an arm's solver problem. -/
def ladder (s : State) (arm : Nat) : Nat := match s.prob arm with | some p => s.f (QS_ARM_RES_RHO p.unit p.pos) | none => 0

/-- The firmware region, by offset in it (R440). -/
def fwRegion (s : State) : Store 8 :=
  let b := s.st.fwBase
  (s.mem.dram.filter (fun (p : Nat × Byte) => b ≤ p.1 && p.1 < b + s.st.fwSize)).map (fun (p : Nat × Byte) => (p.1 - b, p.2))

/-- Later of two SEQs in serial arithmetic, or the only valid buffer: the newest valid snapshot (R92). -/
def newestLoam (s : State) : Option (Fin 2 × Snap) :=
  match s.nv.loam.get 0, s.nv.loam.get 1 with
  | some a, some b => if serialAbove b.seq a.seq then some (1, b) else some (0, a)
  | some a, none => some (0, a)
  | none, some b => some (1, b)
  | none, none => none

/-- The buffer that does not hold the newest valid snapshot (R443, R444). -/
def olderBuf (s : State) : Fin 2 := match s.newestLoam with | some (b, _) => if b = 0 then 1 else 0 | none => 0

/-- SEQ of the next capture: it goes on from the newest snapshot that the unit knows. -/
def nextSeq (s : State) : Nat :=
  let n := match s.newestLoam with | some (_, k) => k.seq | none => 0
  ((if serialAbove n s.pair.seq then n else s.pair.seq) + 1) % 4294967296

/-- Profile, tag and cycle count of a door. -/
def doorSnap (s : State) (d : Fin 8) : List Word × Option Nat × Nat :=
  ((List.range 64).map (fun b => s.rd (DOOR_PROF d b)), s.nv.doorTags.get d, s.rdN (DOOR_CNT_CYC d))

/-- The snapshot of the present instant (R440, R441). -/
def snapshot (s : State) : Snap :=
  { seq := s.nextSeq, len := s.snapLen, hash := s.runHash, time := s.time.now, pos := s.mpos,
    spd := s.mspd / 1099511627776, mst := s.mst, cyc0 := s.rdN (KR_CYC 0), cyc1 := s.rdN (KR_CYC 1),
    epoch := s.f (KR_EPOCH_EPOCH 0),
    tiles := ((List.finRange 96).filter (fun a => s.st.axes.contains a.val)).map s.tileSnap,
    clusters := (List.finRange 12).map (fun c =>
      ((s.cl c).mem.filter (fun (p : Nat × Word) => snapAddr p.1), s.f (CL_PSO_ACT_S c), (s.cl c).sdot)),
    solver := (List.finRange 12).map (fun a => ((s.qa a).good, (s.qa a).c, s.ladder a)),
    doors := (List.finRange 8).map s.doorSnap,
    fadj := s.rdI TIME_FADJ, caps := s.safe.taken, fw := s.fwRegion, tstat := s.rd TIME_STAT,
    doorState := (List.finRange 8).map (fun d => s.f (DOOR_STATE_STATE d)) }

/-- The header of a snapshot (R440). -/
def snapHeader (k : Snap) : List Byte :=
  natLE 4 0x4D414F4C ++ natLE 2 1 ++ natLE 2 0 ++ natLE 4 k.seq ++ natLE 4 k.len ++ hashOctets k.hash ++ k.time.bytes ++ natLE 2 0
    ++ natLE 8 (wrapNat 64 k.pos) ++ natLE 8 (wrapNat 64 k.spd) ++ natLE 4 k.mst ++ natLE 4 k.cyc0 ++ natLE 4 k.cyc1 ++ natLE 2 k.epoch

/-- A word of a snapshot, by its offset in the buffer (R440): header, data memory of the clusters, firmware region and valid mark.
What lies between, the CRC over it and what lies beyond L have no layout in the spec: free. -/
def snapWord (k : Snap) (o : Nat) (free : Nat) : Nat :=
  let c := (o - 0x19000) / 0x4000
  let r := (o - 0x19000) % 0x4000
  if o < 0x1000 then leNat (((snapHeader k).drop o).take 4)
  else if 0x19000 ≤ o ∧ o < 0x49000 ∧ r < 0x3800 then
    (Store.get 0 ((k.clusters.map (fun (x : Store 32 × Nat × Int) => x.1)).getD c []) (0x200 + r / 4)).toNat
  else if 0x64000 ≤ o ∧ o + 8 < k.len then leNat (Store.getMany 0 k.fw (o - 0x64000) 4)
  else if o + 4 = k.len then 4294967295 - k.seq % 4294967296
  else free

/-- A word of a Loam buffer (R92, R440, R557): of one without its mark, only SEQ is known. -/
def loamWord (s : State) (b : Fin 2) (o : Nat) : Nat :=
  let free := Config.unstated 27 (33554432 * s.free + 4194304 * (4 + b.val) + o) % 4294967296
  match s.nv.loam.get b with
  | some k => snapWord k o free
  | none => if o = 8 then s.nv.loamSeq.get b else free

/-- A buffer takes a snapshot, or loses its valid mark; its header keeps its SEQ then (R92). -/
def putLoam (s : State) (b : Fin 2) (k : Option Snap) : State :=
  { s with nv := { s.nv with loam := s.nv.loam.set b k,
                             loamSeq := match k with | some x => s.nv.loamSeq.set b x.seq | none => s.nv.loamSeq } }

/-- LOAM_HELD (R94). -/
def loamHeld (s : State) : Bool := s.flag SYS_START_STAT_LOAM_HELD

/-- The snapshot that is streaming is abandoned (R141, R442). -/
def abandonStream (s : State) : State :=
  if s.pair.stream.isSome then
    let s1 := (s.withdraw 13 (fun _ => true)).bump RED_CNT_ABANDON
    { s1 with pair := { s1.pair with stream := none } }
  else s

/-- Chunks of a snapshot are put into HQ13 in ascending order; a refusal abandons the snapshot (R141, R442). n: data bytes
that a CKPT segment carries. -/
def putChunks (s : State) (len n off : Nat) : Nat → State
  | 0 => s
  | k + 1 =>
    if len ≤ off then s
    else
      let m := min n (len - off)
      let p := s.offerOr 13 ⟨8 + m, .chunk off m⟩
      if p.2 then putChunks p.1 len n (off + n) k else p.1.abandonStream

/-- Data bytes of the CKPT segments of a structure, the least of those that carry any (R442). -/
def ckptData (s : State) : Nat :=
  let ls := s.st.rings.flatMap (fun (d : RingDef) => (d.segs.filter (fun (g : RSeg) => g.kind == 7)).map (fun (g : RSeg) => g.len - 12))
  match ls with | [] => 0 | x :: xs => xs.foldl min x

/-- Streaming of a snapshot begins, in place of one still streaming (R442). -/
def startStream (s : State) (k : Snap) : State :=
  let s0 := s.abandonStream
  if s.ckptData = 0 then s0
  else
    let s1 := { s0 with nv := { s0.nv with loamOut := (Store.setMany 0 [] 0 (snapHeader k)
                          ++ k.fw.map (fun (p : Nat × Byte) => (p.1 + 0x64000, p.2))) },
                        pair := { s0.pair with stream := some (k.seq, k.len, k.hash, k.time) } }
    s1.putChunks k.len s.ckptData 0 (k.len / s.ckptData + 1)

/-- A snapshot whose firmware region has been copied: the older MRAM buffer takes it unless LOAM_HELD, and it is streamed
(R442, R443). -/
def finishCapture (s : State) (k : Snap) : State :=
  let s0 := { s with pair := { s.pair with capWait := none } }
  (if s0.loamHeld then s0 else s0.putLoam s0.olderBuf (some k)).startStream k

/-- A capture: SEQ rises; the firmware region is copied at once, or once no handler holds FW_KEY (R441). One that still waits
gives way. -/
def capture (s : State) : State :=
  let k := s.snapshot
  let s0 := if s.pair.capWait.isSome then s.bump RED_CNT_ABANDON else s
  let s1 := { s0 with pair := { s0.pair with seq := k.seq, capWait := some k } }
  if s.keyFree s.st.fwKey then s1.finishCapture k else s1

-- ===== restoring (R93, R448) =====

/-- A tile takes its part of a snapshot: limits, slots, loop state; X at the restored position; planned motion starts again
from rest (R93, R247). -/
def restoreTile (s : State) (x : TileSnap) : State :=
  if h : x.axis < 96 then
    let a : Fin 96 := ⟨x.axis, h⟩
    let s1 := (((s.wr2 (TILE_PLN_VMAX a) x.lims.1).wrN (TILE_PLN_AMAX a) x.lims.2.1).wrN (TILE_PLN_DMAX a) x.lims.2.2.1).wrN
      (TILE_PLN_JMAX a) x.lims.2.2.2
    let s2 := (s1.wrI (TILE_STP_POS a) x.pos).modTile a (fun t => { t with
      queued := x.active.toList ++ x.queued, held := x.held, lp := { x.lp with wasOff := true, uOld := none },
      ps := { p := s.rdI (TILE_FB_POS a) * u64 } })
    let p := s.f (TILE_FB_SRC_PORT a)
    let win := (s.st.ssiWindow.find? (fun (w : Nat × Nat) => w.1 == x.axis)).map (·.2)
    let s3 := if hp : p < 32 then
        (if s.f (TILE_FB_SRC_SRC a) = 1 ∧ s.portMode p = 5 then s2.modFbp ⟨p, hp⟩ (fun y => { y with warm := some (x.pos, win.getD 0) }) else s2)
      else s2
    s3.showSlots a
  else s

/-- A cluster takes data memory and override (R440). -/
def restoreCluster (s : State) (c : Fin 12) (x : Store 32 × Nat × Int) : State :=
  (s.modCl c (fun y => { y with mem := x.1.foldl (fun (m : Store 32) (p : Nat × Word) => m.set 0 p.1 p.2) y.mem, sdot := x.2.2 })).setF
    (CL_PSO_ACT_S c) x.2.1

/-- An arm's solver takes solution, shift count and ladder index, and is factored for it. -/
def restoreArm (s : State) (a : Fin 12) (x : Option QPoint × Nat × Nat) : State :=
  match s.prob a with
  | none => s
  | some p =>
    let s1 := (s.setF (QS_ARM_RES_RHO p.unit p.pos) x.2.2).modQ a (fun y => { y with good := x.1, c := x.2.1 })
    match qfactor p (s1.rhoOf p) with
    | .ok (f, _) => s1.modQ a (fun y => { y with active := f })
    | .error _ => s1

/-- A door takes profile, tag and cycle count; its state is read afresh from its inputs (R93, R359). -/
def restoreDoor (s : State) (d : Fin 8) (x : List Word × Option Nat × Nat) : State :=
  if s.doorHere d then
    let s1 := ((s.wrWords (DOOR_PROF d 0) x.1).wrN (DOOR_CNT_CYC d) x.2.2)
    { s1 with nv := { s1.nv with doorTags := s1.nv.doorTags.set d x.2.1 } }
  else s

/-- The master of a warm start or takeover: HOLD at the snapshot's M, or, in a takeover from LOCKED, LOCKED at θ_lock with
the wraps since the capture counted (R107, R448). The phase of θ_lock is that of the snapshot's M at its speed. A real master
waits for RESUME at the restored angle (R115). -/
def restoreMaster (s : State) (k : Snap) (takeover : Bool) : State :=
  let put := fun (s : State) (m : Int) (st : Nat) =>
    { s with wheel := { s.wheel with pos := m * mcU, spd := 0, okSince := none, atElapsed := s.time.elapsed, atMono := s.time.mono } }
      |>.setF WHEEL_STAT_MST_STATE st
  if s.flag WHEEL_MST_CTL_SRC then
    let s1 := put s k.pos msHOLD
    { s1 with wheel := { s1.wheel with held := true, referenced := true } }
  else if takeover ∧ k.mst = msLOCKED then
    let lin := fun (t : Instant) => k.spd * t / (16777216 * (Config.secUnits : Int))
    let s1 := (s.wr2 WHEEL_VSPD (wrapNat 64 k.spd)).wrN WHEEL_PHASE (wrapNat 32 (k.pos - lin k.time))
    put s1 (k.pos + lin s.time.now - lin k.time) msLOCKED
  else put s k.pos msHOLD

/-- The state of a snapshot is restored (R93, R448). -/
def restoreSnap (s : State) (k : Snap) (takeover : Bool) : State :=
  let s1 := k.tiles.foldl (fun (s : State) x => s.restoreTile x) s
  let s2 := (List.finRange 12).foldl (fun (s : State) c => s.restoreCluster c (k.clusters.getD c ([], 65536, 0))) s1
  let s3 := (List.finRange 12).foldl (fun (s : State) a => s.restoreArm a (k.solver.getD a (none, 0, 0))) s2
  let s4 := (List.finRange 8).foldl (fun (s : State) d => s.restoreDoor d (k.doors.getD d ([], none, 0))) s3
  let s5 := ((if takeover then s4 else s4.setFadj k.fadj 0).modSafe (fun x => { x with taken := k.caps }))
  let rest := s5.mem.dram.filter (fun (p : Nat × Byte) => !(s5.st.fwBase ≤ p.1 && p.1 < s5.st.fwBase + s5.st.fwSize))
  let dram := k.fw.foldl (fun (m : Store 8) (p : Nat × Byte) => m.set 0 (p.1 + s5.st.fwBase) p.2) rest
  { s5 with mem := { s5.mem with dram := dram }, pair := { s5.pair with seq := k.seq } }

/-- Age of a snapshot in ms. -/
def snapAge (s : State) (time : Instant) : Nat := (s.time.now - time) / Config.msUnits

/-- A Loam boundary: a millisecond-frame boundary at a multiple of 100 ms of disciplined time (R22). -/
def loamBoundary (s : State) : Bool := decide (s.time.now % (100 * Config.msUnits) < s.cycleInc)

end State

/-- LOAM_CAPTURE (R441 to R443): at a Loam boundary in RUN; a capture that waits for FW_KEY goes on when the key is free. -/
def execLoamCapture (s : State) : Out :=
  .next (if s.mode ≠ mRUN ∨ s.role = 2 then { s with pair := { s.pair with capWait := none } }
  else if s.loamBoundary then s.capture
  else match s.pair.capWait with
    | some k => if s.keyFree s.st.fwKey then s.finishCapture { k with fw := s.fwRegion } else s
    | none => s)

end Sys2Proof.Machine
end

