-- ==== Sys2Proof/Machine/Limits.lean ====
section
/-! DEFINITION. The structural limits that the loader checks on an image (step 11 of R54), computed from its decoded content,
chapter by chapter. A check that is true names a broken rule. -/

namespace Sys2Proof.Machine
namespace State

/-- The word that an image gives a register, 0 where it gives none. -/
def imgReg (st : Structure) (a : Nat) : Word :=
  match st.regs.find? (fun (p : Nat × Word) => p.1 == a) with | some p => p.2 | none => 0
def imgF (st : Structure) (f : Fld) : Nat := f.get (imgReg st f.reg)

/-- Two entries of a list share a key. -/
def twice (xs : List Nat) : Bool := decide (¬ xs.Nodup)

-- ===== loop programs (chapters 01, 09) =====

/-- An instruction that the loader rejects: an immediate address outside R254, or a target outside its section (R260). -/
def badInstr (len : Nat) (i : EInstr) : Bool :=
  (eaddrs i).any (fun (a : EAddr) => a.base.isNone && decide (8192 ≤ a.ofs + ereach i))
    || (match i with | .br _ target => decide (len ≤ target) | .loop _ last => decide (len ≤ last) | _ => false)

/-- LOOPPROG: a count above 12,500 cycles (R39), a section without its count or with a bad instruction (R260). -/
def badLoops (st : Structure) : Bool :=
  (List.range 12).any (fun c => 12500 < imgF st (CL_ENG_WCET_TICK c))
    || st.loops.any (fun (l : LoopTile) => imgF st (CL_ENG_WCET_TICK (l.axis / 8)) == 0
      || l.vars.any (fun (v : LoopVar) => v.code.any (badInstr v.code.length)))

-- ===== tiles and ports (chapters 00, 06, 08) =====

/-- An arm of more than eight joints (R3). -/
def badArms (st : Structure) : Bool :=
  st.kine.any (fun (k : KineArm) => 8 < k.joints.length) || st.probs.any (fun (p : QProb) => 8 < p.outs.length)

/-- The users of FB port p: tiles, the real master, lead inputs (R152). -/
def portUsers (st : Structure) (p : Nat) : Nat :=
  (st.axes.filter (fun a => imgF st (TILE_FB_SRC_SRC a) == 1 && imgF st (TILE_FB_SRC_PORT a) == p)).length
    + b2n (imgF st WHEEL_MST_CTL_SRC == 1 && imgF st WHEEL_MST_CTL_FBPORT == p)
    + (st.axes.filter (fun a => imgF st (TILE_FLW_CFG_PRESENT a) == 1 && imgF st (TILE_FLW_CFG_SRC a) == 1
        && imgF st (TILE_FLW_CFG_INPUT a) == p)).length

/-- An FB port bound twice (R152). -/
def portTwice (st : Structure) : Bool := (List.range 32).any (fun p => 1 < portUsers st p)

/-- An FB port of MODE 6 or 7. -/
def badFbMode (st : Structure) : Bool := (List.range 32).any (fun p => 6 ≤ imgF st (FBP_CFG_MODE p))

/-- A tile bound to two power ports, or a generator output that its port's mode does not allow (R213). -/
def badPorts (st : Structure) : Bool :=
  let bound := (List.range 32).filter (fun p => imgF st (PP_CFG_MODE p) != 0)
  twice (bound.map (fun p => imgF st (PP_CFG_TILE p))) || bound.any (fun p =>
    let out := imgF st (TILE_STP_CFG_OUT (imgF st (PP_CFG_TILE p)))
    (imgF st (PP_CFG_MODE p) == 1 && out != 1) || (imgF st (PP_CFG_MODE p) == 2 && out != 0))

/-- A main filter longer than a current-loop period (R219), or load-angle thresholds of a stepper out of order. -/
def badFilters (st : Structure) : Bool :=
  (List.range 4).any (fun g => 6250 < 3 * imgF st (SDCK_CFG_OSR_M g) * imgF st (SDCK_CFG_DIV g))
    || st.axes.any (fun a => imgF st (TILE_STP_CFG_OUT a) == 1
      && !(decide (imgF st (TILE_STP_ANG_DN a) < imgF st (TILE_STP_ANG_UP a)) && decide (imgF st (TILE_STP_ANG_UP a) < imgF st (TILE_STP_ANG_STALL a))))

/-- An image binds a local power port, an FB port or a real master (R437). -/
def bindsLocal (st : Structure) : Bool :=
  (List.range 32).any (fun p => imgF st (PP_CFG_MODE p) != 0 || imgF st (FBP_CFG_MODE p) != 0) || imgF st WHEEL_MST_CTL_SRC != 0

-- ===== queue budgets (chapters 05, 22) =====

/-- Reserved credits above the buffer, or a shared cap above the pool (R134); a handler class without its credits and bound
(R533). -/
def badBudgets (st : Structure) : Bool :=
  let held := (st.budgets.map (fun (b : Nat × Nat) => b.1)).foldl (· + ·) 0
  decide (65536 < held) || st.budgets.any (fun (b : Nat × Nat) => 65536 - held < b.2)
    || st.hostClasses.any (fun (x : Route × Nat × Nat) => x.2.1 == 0 || x.2.2 == 0)

-- ===== solver (chapters 02, 10) =====

/-- Elements of the vector that a code of RANGECERT names, for n variables, m rows and k parameters. -/
def vecLen (n m k code : Nat) : Nat :=
  if code = 0 then k
  else if [1, 5, 6, 7, 8, 10, 15].contains code then n
  else if [2, 3, 4, 9, 11, 12, 13, 14, 21].contains code then m
  else if code < 21 then n * n else 0

/-- A RANGECERT entry whose bounds are crossed or whose variable is absent from SOLVER (R51). -/
def badCert (p : QProb) : Bool :=
  p.formats.any (fun (x : Nat × List QVar) => decide (vecLen p.h.length p.a.length p.states.length x.1 < x.2.length)
    || x.2.any (fun (v : QVar) => decide (v.hi < v.lo) || decide (31 < v.m)))

/-- A size or SHIFT_MAX of a problem outside its range (R279, R282). -/
def badSizes (st : Structure) (p : QProb) : Bool :=
  let hor := imgF st (QS_ARM_CFG_HOR p.unit p.pos)
  p.h.length == 0 || 64 < p.h.length || 256 < p.a.length || p.states.length == 0 || 64 < p.states.length || hor < 2 || 16 < hor
    || hor < imgF st (QS_ARM_CFG_SHIFT_MAX p.unit p.pos) + 2

/-- Deadlines of a unit not strictly increasing in arm order, or a last one that ends after 995 μs with its test and its
publication, t_CHK in cycles of 5/3 ns and t_PUB of 4 μs (R282). -/
def badDeadlines (st : Structure) : Bool :=
  let dl := fun (p : QProb) => imgF st (QS_ARM_DL_D p.unit p.pos)
  st.probs.any (fun (p : QProb) =>
    st.probs.any (fun (q : QProb) => q.unit == p.unit && p.pos < q.pos && dl q ≤ dl p)
      || decide (2985000 < 3 * dl p + 5 * ((2 * p.h.length * p.a.length + p.h.length * p.h.length) / 8 + 40) + 12000))

-- ===== safety (chapters 11, 12) =====

/-- Ticks in which an override falls from 1 to 0 under RATE and SACC, from no change of s (R196, R313): s left, its change,
ticks so far. -/
def slowTicks (rate sacc : Nat) : Nat → Int → Int → Nat → Nat
  | 0, _, _, n => n
  | k + 1, left, old, n =>
    if left ≤ 0 then n
    else
      let want : Int := -((if sacc = 0 then min rate left.toNat else bestRate sacc rate left.toNat 16 0 : Nat) : Int)
      let u := max (-(rate : Int)) (min (max (old - sacc) (min want (old + sacc))) rate)
      if u = 0 ∧ old = 0 then 65536 else slowTicks rate sacc k (left + u) u (n + 1)

/-- Clusters whose tiles are arm joints. -/
def armClusters (st : Structure) : List Nat :=
  (List.range 12).filter (fun c => st.planLims.any (fun (l : PlanLim) => l.arm && l.axis / 8 == c))

/-- Every T_SLOW, in μs, is at least the bound of R313. -/
def slowOk (st : Structure) : Bool :=
  (armClusters st).all (fun c =>
    let n := slowTicks (imgF st (CL_PSO_RATE_RATE c)) (imgF st (CL_PSO_RATE_SACC c)) 70000 65536 0 0
    st.safety.sets.all (fun (x : SafSet) => decide (4140 + 125 * n ≤ 2 * x.tslow)))

def inRange (lo hi v : Nat) : Bool := decide (lo ≤ v) && decide (v ≤ hi)

/-- The separation fields of a set lie in the ranges of R312. -/
def rangesOk (x : SafSet) : Bool :=
  inRange 4000 100000 x.tr && inRange 0 500000 x.tslow && inRange 0 4000 x.vh && inRange 0 1000 x.c && inRange 0 500 x.zd
    && inRange 0 1000 x.drst && inRange 1 65535 x.nrst && inRange 5 1000 x.told && inRange 1 1000 x.tolv && inRange 1 15 x.nxcmp
    && x.arms.all (fun (a : SafArm) => inRange 1000 2000000 a.ts && inRange 0 500 a.zr && inRange 1 65534 a.vpath && inRange a.vpath 65535 a.vplaus)

/-- The scanner sources of a set have watchdogs of 1 to 200 ms and slots that do not overlap (R306). -/
def sourcesOk (x : SafSet) : Bool :=
  x.sources.length ≤ 8 && x.sources.all (fun (a : ScanSrc) => inRange 1 200 a.wd && x.sources.all (fun (b : ScanSrc) =>
    a.num == b.num || decide (a.first + a.count ≤ b.first) || decide (b.first + b.count ≤ a.first)))

/-- Test pulses fit their period, and no pair has one supply on both inputs (R341). -/
def pulsesOk (x : SafSet) : Bool :=
  8 * x.ttpw ≤ x.ttp && x.pairs.all (fun (p : SafPair) => (assoc p.in1 x.supplies).isNone || assoc p.in1 x.supplies != assoc p.in2 x.supplies)

/-- Bits in which two numbers of 16 bits differ. -/
def bitsApart (a b : Nat) : Nat := ((List.range 16).filter (fun i => a.testBit i != b.testBit i)).length

/-- No CODE is 0x0000 or 0xFFFF, and any two differ in four bits or more (R343). -/
def codesOk : List Nat → Bool
  | [] => true
  | c :: cs => c != 0 && c != 0xFFFF && cs.all (fun d => 4 ≤ bitsApart c d) && codesOk cs

/-- An axis that the unit can give torque: it has a local power port, or a drive that takes records on a ring (R331). -/
def canTorque (st : Structure) (a : Nat) : Bool :=
  (List.range 32).any (fun p => imgF st (PP_CFG_MODE p) != 0 && imgF st (PP_CFG_TILE p) == a)
    || st.rings.any (fun (d : RingDef) => (d.segs ++ d.wide0 ++ d.wide1).any (fun (g : RSeg) => g.kind == 1 && g.recs.any (fun (x : Nat × Nat) => x.1 == a)))

/-- SAFETY breaks a rule of its sets, codes or groups. -/
def badSafety (st : Structure) : Bool :=
  let sets := st.safety.sets
  !slowOk st || 8 < sets.length || !codesOk (sets.map (fun (x : SafSet) => x.code)) || sets.any (fun x => !rangesOk x || !sourcesOk x || !pulsesOk x)
    || st.axes.any (fun a => canTorque st a && 4 ≤ st.axisGroup.getD a 4)

-- ===== doors (chapter 13) =====

/-- A door breaks the table of R348: its drive, its groups, its closed position. -/
def badDoor (st : Structure) (d : Nat) : Bool :=
  let a := imgF st (DOOR_CFG_AXIS d)
  let groups := imgF st (DOOR_CFG_GROUPS d)
  let lim := st.planLims.find? (fun (l : PlanLim) => l.axis == a)
  !st.axes.contains a || imgF st (TILE_FB_SRC_DRV_LOOP a) == 1 || (match lim with | some l => l.rotary || l.arm | none => false)
    || groups == 0 || groups.testBit (st.axisGroup.getD a 4)
    || st.safety.sets.any (fun (x : SafSet) => match x.pairs.find? (fun (p : SafPair) => p.num == imgF st (DOOR_CFG_PAIR d)) with
      | some p => (List.range 4).any (fun g => groups.testBit g && 1 < p.cats.getD g 2)
      | none => true)

/-- A door breaks its rules, or two doors share a drive, a lock output or a confirm input (R348). -/
def badDoors (st : Structure) : Bool :=
  let ds := st.doors.map (fun (x : DoorDef) => x.num)
  ds.any (badDoor st) || twice (ds.map (fun d => imgF st (DOOR_CFG_AXIS d))) || twice (ds.map (fun d => imgF st (DOOR_CFG_LOCK_OUT d)))
    || twice (ds.map (fun d => imgF st (DOOR_CFG_CONF_IN d)))

-- ===== ring schedules (chapters 14, 15) =====

/-- The service segments of a layout lie where R371 puts them. -/
def svcPlaced (segs : List RSeg) : Bool :=
  segs.any (fun (g : RSeg) => g.kind == 5 && g.off == 0 && g.len == 256) && segs.any (fun (g : RSeg) => g.kind == 6 && g.off == 256 && g.len == 256)

/-- Segments have the lengths and offsets of R370, lie within AREA_LEN and do not overlap (R371). -/
def segsPlaced (area : Nat) : List RSeg → Bool
  | [] => true
  | g :: gs => 1 ≤ g.kind && g.kind ≤ 7 && g.off % 4 == 0 && g.len % 4 == 0 && inRange 8 1024 g.len && g.off + g.len ≤ area
      && gs.all (fun (x : RSeg) => decide (g.off + g.len ≤ x.off) || decide (x.off + x.len ≤ g.off)) && segsPlaced area gs

/-- Each IN or SIN segment of a node begins its turnaround after the end of the node's first OUT or SOUT segment, in bytes at the
link speed of ps picoseconds a byte (R371). -/
def turnOk (ps : Nat) (d : RingDef) (segs : List RSeg) : Bool :=
  d.nodes.all (fun n =>
    let outs := (segs.filter (fun (g : RSeg) => g.node == n && (g.kind == 1 || g.kind == 3))).map (fun (g : RSeg) => (g.off, g.len))
    match outs with
    | [] => true
    | o :: os =>
      let first := os.foldl (fun (x y : Nat × Nat) => if y.1 < x.1 then y else x) o
      segs.all (fun (g : RSeg) => !(g.node == n && (g.kind == 2 || g.kind == 4))
        || decide (1000 * (assoc n d.turn).getD 0 ≤ ps * (g.off - (first.1 + first.2)) ∧ first.1 + first.2 ≤ g.off)))

/-- A layout satisfies R371. -/
def layoutOk (ps : Nat) (d : RingDef) (segs : List RSeg) : Bool :=
  svcPlaced segs && segsPlaced d.area segs && turnOk ps d segs

/-- A node of the list owns an IN segment in one of some layouts (R371). -/
def ownsIn (d : RingDef) (segs : List RSeg) : Bool := d.nodes.all (fun n => segs.any (fun (g : RSeg) => g.kind == 2 && g.node == n))

/-- Worst-case return time in picoseconds: there and back, or one way in WIDE (R382, R406). The serialisation counts the frame with its
FCS. -/
def returnPs (ps : Nat) (d : RingDef) (wide : Bool) : Nat :=
  let way := d.lats.foldl (· + ·) 0 + 5 * d.spans.foldl (· + ·) 0
  ps * (d.area + 50) + 1000 * (if wide then way else 2 * way + 320)

/-- A schedule breaks R367, R371 or R382. -/
def badRing (st : Structure) (d : RingDef) : Bool :=
  let wide := imgF st (KR_CFG_MODE d.ring) == 1
  let ps := if imgF st (KR_CFG_SPEED d.ring) = 1 then 8000 else 3200
  let limit := 1000 * (31250 * max 1 (imgF st (KR_CFG_K d.ring)) - 2000)
  9014 < d.area + 46 || d.spans.any (fun x => 100 < x) || !layoutOk ps d d.segs || !ownsIn d d.segs || decide (limit < returnPs ps d false)
    || (wide && (!layoutOk ps d d.wide0 || !layoutOk ps d d.wide1 || !ownsIn d (d.wide0 ++ d.wide1) || decide (limit < returnPs ps d true)))

/-- Data bytes that the CKPT segments of an image carry in 100 ms (R442). -/
def ckptIn100 (st : Structure) : Nat :=
  (st.rings.map (fun (d : RingDef) =>
    let cyc := 31250 * max 1 (imgF st (KR_CFG_K d.ring))
    ((d.segs.filter (fun (g : RSeg) => g.kind == 7)).map (fun (g : RSeg) => g.len - 12)).foldl (· + ·) 0 * (100000000 / cyc))).foldl (· + ·) 0

-- ===== wheel (chapter 04) =====

/-- A WHEELINIT descriptor fails an insertion check, or the partition or an angle slot overfills (R123, R587). -/
def initBad (s : State) (st : Structure) : Bool :=
  let v : State := { s with regs := st.regs.foldl (fun (m : Store 32) (p : Nat × Word) => m.set 0 p.1 p.2) s.regs,
                            cfg := { s.cfg with run := some { slot := 0, sid := 0, hash := [], svn := 0, st := st } } }
  let sh := v.slotShift
  st.initDescs.any (fun d => !v.descValid d || (v.f WHEEL_SLOT_SLOT_MAX <
      (st.initDescs.filter (fun (e : Descriptor) => e.angle / 2 ^ sh == d.angle / 2 ^ sh)).length))
    || decide (v.f WHEEL_PART_COUNT < st.initDescs.length)

-- ===== all of them =====

/-- The type of the section of the first structural limit that an image breaks, among those its decoded content shows, in the
order of the section types (step 11 of R54). -/
def limitType (s : State) (st : Structure) : Option Nat :=
  let paired : Bool := s.sys.start.toNat / 16 % 4 == 1 || s.sys.start.toNat / 16 % 4 == 2
  let checks : List (Nat × Bool) :=
    [(1, badArms st || portTwice st || badPorts st || badFilters st || (paired && bindsLocal st)), (2, badLoops st), (4, badFbMode st),
     (6, st.rings.any (badRing st) || (paired && decide (9 * ckptIn100 st < 10 * (0x64000 + st.fwSize + 8)))), (7, badBudgets st),
     (8, st.probs.any (badSizes st) || badDeadlines st), (9, st.probs.any badCert), (10, badSafety st), (11, badDoors st),
     (13, decide (8388608 < imgF st WHEEL_PART_COUNT) || s.initBad st)]
  (checks.find? (fun (c : Nat × Bool) => c.2)).map (fun (c : Nat × Bool) => c.1)

end State
end Sys2Proof.Machine
end

