-- ==== Sys2Proof/Machine/Loader.lean ====
section
/-! DEFINITION. The loader (chapter 02): the checks of an image, cold and shadow load, and what each block takes from an image
at the end of LOAD. -/

namespace Sys2Proof

/-- Base of a Kaolin slot, or of boot image A (8) or B (9), in flash. -/
def slotBase (slot : Nat) : Nat := if slot < 8 then 0x800000 + slot * 0x600000 else (slot - 8) * 0x400000

end Sys2Proof

namespace Sys2Proof.Machine
namespace State

-- ===== the image in flash (R47 to R50) =====

/-- n bytes of a slot from an offset on, as a number; erased flash reads 0xFF. -/
def img (s : State) (slot off n : Nat) : Nat := leNat (s.nv.flash.getMany 0xFF (slotBase slot + off) n)

/-- Entry i of the section table: type, offset, length, CRC, flags (R48). -/
def sect (s : State) (slot i : Nat) : Nat × Nat × Nat × Nat × Nat :=
  let e := 0x100 + 16 * i
  (s.img slot e 2, s.img slot (e + 4) 4, s.img slot (e + 8) 4, s.img slot (e + 12) 4, s.img slot (e + 2) 2)

def nsect (s : State) (slot : Nat) : Nat := s.img slot 0xC 2
def sigOff (s : State) (slot : Nat) : Nat := s.img slot 0x70 4

/-- What an identifier of a key names (R535): 0 a programmed, unrevoked slot of the algorithm (0 RSA, 1 SLH-DSA) and role;
4 REVOKED; 0x1D KEY_ROLE. DESIGN CHOICE: a slot that is revoked and also of another algorithm or role gives REVOKED; R54 and R535
name both codes without an order. -/
def keyCheck (s : State) (id alg role : Nat) : Nat :=
  match (List.range 8).find? (fun k => s.rdN (CFG_SEC_KEY k 0) == id && (s.rdN (CFG_SEC_KEY k 1)).testBit 0) with
  | none => 0x1D
  | some k =>
    let w := s.rdN (CFG_SEC_KEY k 1)
    if w.testBit 1 then 4 else if k / 4 = alg ∧ w / 4 % 2 = role then 0 else 0x1D

/-- The anti-rollback counter (R536). -/
def otpSvn (s : State) : Nat := s.rd2 CFG_SEC_SVN

/-- Steps 1 to 7 of R54 on a slot: the code of the first that fails, 0 where all pass. -/
def authCheck (s : State) (slot : Nat) (rsa slh : Bool) : Nat :=
  let sig := s.sigOff slot
  let k1 := s.keyCheck (s.img slot sig 4) 0 0
  let k2 := s.keyCheck (s.img slot (sig + 388) 4) 1 0
  if (s.nv.dir.get? slot).bind id |>.isNone then 1
  else if s.img slot 0 4 ≠ 0x4C4F414B ∨ s.img slot 4 2 ≠ 1 ∨ s.img slot 6 2 ≠ 256 ∨ 6291456 < s.img slot 8 4
      ∨ s.nsect slot = 0 ∨ 64 < s.nsect slot ∨ s.img slot 0x74 4 ≠ 16616 ∨ sig + 16616 ≠ s.img slot 8 4 then 2
  else if s.img slot 0x18 4 ≠ 0x1296 ∨ s.f SYS_ID_STEP < s.img slot 0x1C 1 then 3
  else if k1 ≠ 0 then k1
  else if k2 ≠ 0 then k2
  else if !rsa then 5
  else if !slh then 6
  else if s.img slot 0x10 8 < s.otpSvn then 7
  else 0

/-- The types that R46 defines. -/
def sectTypes : List Nat := [1, 2, 3, 4, 5, 6, 7, 8, 9, 10, 11, 12, 13, 14, 15, 0xF0]

/-- Section i breaks the layout rules of R48 or its CRC-32. -/
def sectBad (s : State) (slot i : Nat) : Bool :=
  let x := s.sect slot i
  let clash := (List.range i).any (fun j =>
    let y := s.sect slot j
    y.1 == x.1 || (decide (x.2.1 < y.2.1 + y.2.2.1) && decide (y.2.1 < x.2.1 + x.2.2.1)))
  x.2.2.2.2 != 0 || x.2.1 % 64 != 0 || x.2.1 < 0x100 + 16 * s.nsect slot || s.sigOff slot < x.2.1 + x.2.2.1 || clash
    || crc32 (s.nv.flash.getMany 0xFF (slotBase slot + x.2.1) x.2.2.1) != x.2.2.2.1

/-- Table index of a section type. -/
def sectIdx (s : State) (slot type : Nat) : Nat := (List.range (s.nsect slot)).findIdx (fun i => (s.sect slot i).1 == type)


/-- What the structure hash is taken over (R49): type, length and body of every section but SYMBOLS, in table order. A Hardpan
channel may have read another SAFETY body (R55). -/
def hashInput (s : State) (slot : Nat) (safety : Option (List Byte)) : List Byte :=
  (List.range (s.nsect slot)).flatMap (fun i =>
    let x := s.sect slot i
    let body := s.nv.flash.getMany 0xFF (slotBase slot + x.2.1) x.2.2.1
    if x.1 = 0xF0 then [] else natLE 2 x.1 ++ natLE 4 x.2.2.1 ++ (if x.1 = 10 then safety.getD body else body))

/-- The structure hash that is recomputed of a slot, by the loader or by a channel with its own reading of SAFETY (R49, R55). -/
def shashOf (s : State) (slot : Nat) (safety : Option (List Byte)) : List Byte := sha384 (s.hashInput slot safety)

/-- SHASH of the header. -/
def shash (s : State) (slot : Nat) : List Byte := s.nv.flash.getMany 0xFF (slotBase slot + 0x40) 48

/-- The loader and both channels find SHASH (step 10, R55). -/
def hashOk (s : State) (slot : Nat) (v : LoadVerdict) : Bool :=
  s.shashOf slot none == s.shash slot && s.shashOf slot v.readA == s.shash slot && s.shashOf slot v.readB == s.shash slot

/-- The required sections of R46. -/
def required : List Nat := [1, 2, 3, 4, 5, 6, 7, 10, 12, 13]

/-- Steps 8 to 12 of R54: code and DETAIL of the first that fails. -/
def bodyCheck (s : State) (slot : Nat) (v : LoadVerdict) : Nat × Nat :=
  let n := s.nsect slot
  let types := (List.range n).map (fun i => (s.sect slot i).1)
  let bad := (List.range n).findIdx (s.sectBad slot)
  let unknown := types.findIdx (fun t => !sectTypes.contains t)
  if bad < n then (8, bad)
  else if !(required.all types.contains) || (types.contains 8 && !types.contains 9) then (9, 0)
  else if unknown < n then (0xA, unknown)
  else if !s.hashOk slot v then (0xB, 0)
  else match v.limit, s.limitType v.st with
    | some i, _ => (0xC, i)
    | none, some t => (0xC, s.sectIdx slot t)
    | none, none =>
      match s.presentCode with
      | some c => if (setIdx? v.st c).isSome then (0, 0) else (0xD, 0)
      | none => (0xD, 0)

/-- The image of a slot with its decoded content. -/
def imageOf (s : State) (slot : Nat) (st : Structure) : Image :=
  let h := s.shash slot
  { slot := slot, sid := beNat (h.drop 44), hash := hashWords h, svn := s.img slot 0x10 8, st := st }

/-- The two channels disagree about SAFETY (R55): a safety fault beside the failure HASH. The function code that stands for
it is not stated. -/
def safetyDiffers (s : State) (slot : Nat) (v : LoadVerdict) : State :=
  if s.shashOf slot v.readA == s.shashOf slot v.readB then s
  else ((s.setF SAFE_STAT_XCMP 1).offGroups 15 11).raise (mkFault 0x150 0x4E cCRITICAL 3 [.code (Config.unstated 18 0)])

/-- CFG_ERR shows a command's result. -/
def cfgErr (s : State) (code : Nat) (detail : Nat := 0) : State := s.wrN CFG_ERR (code + 256 * detail)


-- ===== what the blocks take from an image =====

/-- CFG shows the running image (R56, R65). -/
def showRun (s : State) (i : Image) : State :=
  (((((s.setF CFG_STAT_RUN_VALID 1).setF CFG_STAT_RUN_SLOT i.slot).wrN CFG_RUN_SID i.sid).wrWords (CFG_RUN_HASH 0) i.hash).wr2
    CFG_RUN_SVN i.svn)

/-- Queue budgets of an image (R134, R65): cells held go to the reserve first; the pool is what no reserve holds. -/
def takeBudgets (s : State) (st : Structure) : State :=
  let q := s.hq.q.mapIdx (fun n (x : Queue) =>
    let b := st.budgets.getD n (0, 65536)
    let r := min x.cells b.1
    { x with reserved := b.1, cap := b.2, resUsed := r, shUsed := x.cells - r })
  let held := (q.items.map (fun (x : Queue) => x.reserved + x.shUsed)).foldl (· + ·) 0
  let s1 := { s with hq := { q := q, pool := 65536 - held } }
  (List.range 16).foldl (fun (s : State) n =>
    let b := st.budgets.getD n (0, 65536)
    (s.setF (HQ_CFG_RESERVED n) b.1).setF (HQ_CFG_SHARED_CAP n) (min b.2 65535)) s1

/-- Rate buckets of an image, full; suppressed counts go on where the code stays (R483, R488). -/
def takeBuckets (s : State) (st : Structure) : State :=
  let mk := fun (code rate burst prio plen : Nat) =>
    let b : RecBucket := { code := code, rate := rate, burst := burst, prio := prio, plenMax := plen,
                           tokens := burst * tokenUnit, filledAt := s.time.mono }
    match s.recEntry code with
    | some o => { b with supp := o.supp, first := o.first, last := o.last }
    | none => b
  let bs := st.recEntries.map (fun (e : Nat × Nat × Nat × Nat × Nat) => mk e.1 e.2.1 e.2.2.1 e.2.2.2.1 e.2.2.2.2)
  let all := bs ++ [mk 0xFFFF st.recShared.1 st.recShared.2 0 996]
  (({ s with recorder := { s.recorder with buckets := all } }).setF REC_SHARED_RATE st.recShared.1).setF REC_SHARED_BURST st.recShared.2

/-- Handler code goes into the core memories, and the cores of HANDLERS are enabled (SCHED_CTL). -/
def takeHandlers (s : State) (st : Structure) : State :=
  let core := s.mem.core.mapIdx (fun c (m : Store 8) =>
    (st.coreCode.filter (fun (x : Nat × Nat × Byte) => x.1 == c)).foldl (fun (m : Store 8) (x : Nat × Nat × Byte) => m.set 0 x.2.1 x.2.2) m)
  (({ s with mem := { s.mem with core := core } }).setF SCHED_CTL_CORE_EN st.coreSet).setF SCHED_STAT_ENABLED st.coreSet

/-- A full bucket of insertions (R588). -/
def insBucket (s : State) (b : Nat × Nat) : TokenBucket :=
  { rate := b.1, burst := b.2, tokens := b.2 * tokenUnit, filledAt := s.time.mono }

/-- The master in HOLD at the start angle; a real one whose port is referenced follows it at once (R107, R114). -/
def startMaster (s : State) (st : Structure) : State :=
  let s1 := { s with wheel := { s.wheel with pos := st.startAngle * mcU, spd := 0, okSince := none, ramping := false, offset := 0,
                                             referenced := false, held := false, w := st.startAngle, atElapsed := s.time.elapsed,
                                             atMono := s.time.mono } }
    |>.setF WHEEL_STAT_MST_STATE msHOLD |>.setF WHEEL_STAT_DIR 0 |>.setF WHEEL_MST_CTL_LOCK 0
  if s1.flag (FBP_STAT_REFERENCED s1.masterPort) then s1.firstRef s1.masterPort else s1

/-- The new partition: its buckets, and its WHEELINIT descriptors placed against W (R587, R588). -/
def takePartition (s : State) (st : Structure) : State :=
  let s1 := { s with wheel := { s.wheel with hostBucket := s.insBucket st.insHost, coreBucket := s.insBucket st.insCore } }
  ((s1.setDescs []).placeInit st.initDescs).stage

/-- An EV pin without a pulse at a level. -/
def restPin (s : State) (n : Nat) (on : Bool) : State :=
  ({ s with wheel := { s.wheel with pinPulses := s.wheel.pinPulses.filter (fun (p : Nat × Nat) => p.1 != n) } }).setPin n on

/-- An EV pin takes its IDLE level (WHEEL_EV_CFG, R65); one that a step generator drives has none of its own (R127). -/
def idlePin (s : State) (n : Nat) : State := s.restPin n (s.flag (WHEEL_EV_CFG_IDLE n) && s.f (WHEEL_EV_CFG_OWNER n) == 0)

/-- Fields of TILE_FB_SRC that the tile's SRC does not use are 0 (R183), and a port without a user has MODE 0 (R152). -/
def tidyImage (s : State) (st : Structure) : State :=
  let s1 := st.axes.foldl (fun (s : State) a =>
    let src := s.f (TILE_FB_SRC_SRC a)
    let s2 := if src = 1 then s else s.setF (TILE_FB_SRC_PORT a) 0
    if src = 2 then s2
    else (((s2.setF (TILE_FB_SRC_RING a) 0).setF (TILE_FB_SRC_NODE a) 0).setF (TILE_FB_SRC_AGE_MAX a) 0).setF (TILE_FB_SRC_DRV_LOOP a) 0) s
  (List.range 32).foldl (fun (s : State) p => if portUsers st p = 0 then s.setF (FBP_CFG_MODE p) 0 else s) s1

/-- Parameter words of LOOPPROG go into both banks of the named clusters (R254). -/
def takeParams (s : State) (ps : List (Nat × Nat × Word)) : State :=
  { s with clusters := s.clusters.mapIdx (fun c (x : Cluster) =>
      let mine := ps.filter (fun (p : Nat × Nat × Word) => p.1 == c)
      let put := fun (m : Store 32) => mine.foldl (fun (m : Store 32) (p : Nat × Nat × Word) => m.set 0 p.2.1 p.2.2) m
      { x with par0 := put x.par0, par1 := put x.par1 }) }

/-- The solver starts anew: factors at RHO_INIT, KIND NONE, no job and no result (R288, R289, SWAP_INSTANT). -/
def startSolver (s : State) (st : Structure) : State :=
  let s1 := ((s.withdraw 10 (fun _ => true)).withdraw 11 (fun _ => true))
  st.probs.foldl (fun (s : State) (p : QProb) =>
    if h : p.arm < 12 then
      let a : Fin 12 := ⟨p.arm, h⟩
      let idx := s.f (QS_ARM_CHK_RHO_INIT p.unit p.pos)
      let f := match qfactor p (p.rho.getD idx 0) with | .ok (f, _) => f | .error _ => {}
      (((s.setF (QS_ARM_RES_RHO p.unit p.pos) idx).setF (QS_ARM_RES_KIND p.unit p.pos) 0).setF (QS_ARM_RES_USABLE p.unit p.pos) 0).modQ a
        (fun _ => { active := f })
        |>.modCl a (fun x => { x with usable := false })
    else s) { s1 with qarms := Bank.rep 12 {} }

/-- The clusters that have tiles run a loop program (CL_ENG_STAT). -/
def runClusters (s : State) (st : Structure) : State :=
  (List.finRange 12).foldl (fun (s : State) (c : Fin 12) =>
    s.setB (CL_ENG_STAT_RUNNING c) (st.axes.any (fun a => a / 8 == c.val))) s

/-- The node table of a ring under a schedule (KRn_NODE): nothing heard yet. -/
def ringNodes (s : State) (d : RingDef) : State :=
  (List.range 512).foldl (fun (s : State) n =>
    let w := b2n (d.nodes.contains n)
    if s.rdN (KR_NODE d.ring n) = w then s else s.wrN (KR_NODE d.ring n) w) s

/-- A word of BAR0 lies outside the windows of the instances that a structure does not use (R551): tiles and their cluster, FB ports
without a user, power ports that are off, solver positions without an arm, absent doors. MRAM keeps a door's cycle count. -/
def instanceUsed (st : Structure) (a : Nat) : Bool :=
  if 0x100000 ≤ a ∧ a < 0x1C0000 then
    let c := (a - 0x100000) / 0x10000
    let off := a % 0x10000
    let p := 8 * c + off / 0x40 % 8
    if 0x9000 ≤ off ∨ (0xE00 ≤ off ∧ off < 0x1000) then true
    else if 0x1000 ≤ off then st.axes.contains (8 * c + (off / 0x1000 - 1))
    else if 0x800 ≤ off ∧ off < 0xA00 then decide (4 ≤ c) || decide (portUsers st p ≠ 0)
    else if 0xC00 ≤ off then decide (4 ≤ c) || decide (imgF st (PP_CFG_MODE p) ≠ 0)
    else st.axes.any (fun x => x / 8 == c)
  else if 0x200000 ≤ a ∧ a < 0x210000 then
    decide (a % 0x4000 < 0x100) ||
      st.probs.any (fun (q : QProb) => decide (qsArmBase q.unit q.pos ≤ a) && decide (a < qsArmBase q.unit q.pos + 0x40))
  else if 0xD0100 ≤ a ∧ a < 0xD0300 then
    (List.range 8).any (fun d => a == DOOR_CNT_CYC d) || st.doors.any (fun (d : DoorDef) => d.num == (a - 0xD0100) / 0x40)
  else true

/-- The windows that a structure does not use take the values of their Reset columns (R551). -/
def resetUnused (s : State) (st : Structure) : State :=
  let kept := s.regs.filter (fun (p : Nat × Word) => instanceUsed st p.1)
  let fresh := resetWords.filter (fun (p : Nat × Word) => !instanceUsed st p.1)
  { s with regs := fresh.foldl (fun (m : Store 32) (p : Nat × Word) => m.set 0 p.1 p.2) kept }

/-- Every ring of a structure has its node table and length. -/
def takeRings (s : State) (st : Structure) : State :=
  st.rings.foldl (fun (s : State) d => (s.ringNodes d).setF (KR_RING_JOINED d.ring) 0) s

/-- Local ports calibrate their current channels (R220). -/
def calPorts (s : State) : State :=
  (List.finRange 32).foldl (fun (s : State) (p : Fin 32) => if s.ppMode p = 0 then s else s.startCal p) s

-- ===== the end of LOAD (R56, R92 to R95) =====

/-- The role the unit acts in (R105, R435). -/
def startRole (s : State) : Nat := s.sys.start.toNat / 16 % 4

/-- The blocks take a structure for the first time; caps are zero until a first set (R65, R319). -/
def startBlocks (s : State) (i : Image) : State :=
  let st := i.st
  let s0 := { s with cfg := { s.cfg with run := some i, loading := none, frames := 0, frameAt := none, eligibleAt := none },
                     tiles := Bank.rep 96 {}, fbps := Bank.rep 32 {}, clusters := Bank.rep 12 {}, pps := Bank.rep 32 {},
                     mem := { s.mem with prog := Bank.rep 12 [], solver := Bank.rep 4 [], wiped := false } }
  let s1 := ((((((s0.wrAll st.regs).tidyImage st).showRun i).wrN CFG_SWAP_CNT 0).takeBudgets st).takeBuckets st).takeHandlers st
  let sp := (List.finRange 32).foldl (fun (s : State) (p : Fin 32) => s.initPort p) s1
  let s2 := ((((sp.takeParams st.params).runClusters st).startSolver st).takeRings st).calPorts
  let s3 := (List.range 12).foldl (fun (s : State) c => s.setF (CL_PSO_CAP_S_CAP c) 0) s2
  let s4 := match s3.presentCode.bind (setIdx? st) with | some k => s3.useSafety i k | none => s3
  let s5 := (List.range 16).foldl (fun (s : State) n => if s.startRole = 2 then s.restPin n false else s.idlePin n) s4
  ((s5.modFio (fun x => { x with start := false })).syncFmode).outInit

/-- A warm start is permitted (R92). -/
def warmAsked (s : State) : Bool := s.sys.start.toNat.testBit 6 && s.sys.autostart

/-- The snapshot of a warm start, or what stands against one (R92, R94): KIND of the start, and the snapshot. -/
def warmChoice (s : State) (i : Image) : State × Option Snap :=
  if !s.warmAsked then (s.setF SYS_START_STAT_KIND 1, none)
  else match s.newestLoam with
    | none =>
      ((s.setF SYS_START_STAT_KIND 1).offerRec 0x22 3 (natLE 4 (s.nv.loamSeq.get 0) ++ natLE 4 (s.nv.loamSeq.get 1)), none)
    | some (_, k) =>
      if k.hash = i.hash then (s.setF SYS_START_STAT_KIND 2, some k)
      else (((s.setF SYS_START_STAT_KIND 3).setF SYS_START_STAT_LOAM_HELD 1).offerRec 0x21 3 (hashOctets k.hash ++ hashOctets i.hash), none)

/-- Doors take their state, the wheel its partition, and the rings claim (R359, R587, R392). -/
def startMotion (s : State) (i : Image) (snap : Option Snap) : State :=
  let s1 := s.startMaster i.st
  let s2 := match snap with | some k => (s1.restoreSnap k false).restoreMaster k false | none => s1
  let s3 := s2.takePartition i.st
  let s4 := (List.finRange 8).foldl (fun (s : State) (d : Fin 8) => s.doorStart d) s3
  (List.finRange 2).foldl (fun (s : State) (r : Fin 2) => s.claimFromLoad r) s4

/-- A structure comes into force: COMMISSION by a cold or warm start, or COLD_STANDBY (R74, R92, R95). -/
def startStructure (s : State) (i : Image) : State :=
  let s1 := ((((s.startBlocks i).setF CFG_STAT_LDR 0).setF CFG_STAT_BUSY 0).hit CFG_STAT_DONE).cfgErr 0
  let s2 := s1.setF RED_STAT_ROLE s1.startRole
  if s2.startRole = 2 then
    let s3 := (List.finRange 2).foldl (fun (s : State) (r : Fin 2) => if (s.ringDef r).area = 0 then s else s.setF (KR_STAT_STATE r) rNODE) s2
    (s3.startMaster i.st).enterMode mCOLD_STANDBY 2
  else
    let p := s2.warmChoice i
    (p.1.startMotion i p.2).enterMode mCOMMISSION 2

/-- A load ends in failure (R54, R56): no part of the image is in force. -/
def loadFails (s : State) (code detail : Nat) : State :=
  let s1 := { s with cfg := { s.cfg with loading := none, nodesFor := none } }
  let s2 := (((s1.setF CFG_STAT_LDR (if s.cfg.shadow.isSome ∧ !s.cfg.isShadow then 4 else 0)).setF CFG_STAT_BUSY 0).hit CFG_STAT_DONE).cfgErr code detail
  if s.mode = mLOAD then s2.enterMode mBARE 2 else s2

-- ===== shadow load (R57 to R59) =====

/-- The shadow is removed; its pending layouts are withdrawn from the nodes by LAYOUT_DROP (R59, R386). After a swap the wait for
the return goes on (R67). -/
def dropShadow (s : State) : State :=
  match s.cfg.shadow with
  | none => s
  | some i =>
    let s1 := i.st.rings.foldl (fun (s : State) (d : RingDef) =>
      if h : d.ring < 2 then s.sendSvc ⟨d.ring, h⟩ (d.nodes.map (fun n => (n, 4, natLE 4 i.sid))) else s)
      { s with cfg := { s.cfg with shadow := none } }
    let ldr := if s.f CFG_STAT_LDR = 6 then 6 else 0
    ((((s1.setF CFG_STAT_SHADOW_VALID 0).setF CFG_STAT_SHADOW_SLOT 15).setF CFG_STAT_LDR ldr).wrN CFG_SH_SID 0).wrWords (CFG_SH_HASH 0)
      (List.replicate 12 0)

/-- The pending layouts go to every node of the new schedules (R58); without nodes the shadow is ready at once. -/
def deliver (s : State) (i : Image) : State :=
  let s1 := { s with cfg := { s.cfg with nodesFor := some i, nodesFrom := s.time.mono } }.setF CFG_STAT_LDR 3
  let s2 := i.st.rings.foldl (fun (s : State) (d : RingDef) =>
    if h : d.ring < 2 then
      (d.nodes.foldl (fun (s : State) n => s.setF (KR_NODE_PEND_ACK d.ring n) 0) s).sendLayouts ⟨d.ring, h⟩ d i.sid
        (imgF i.st (KR_CFG_MODE d.ring) == 1)
    else s) s1
  if s2.nodesAcked i then s2.holdShadow i else s2

/-- Each ring of a new structure is compatible with the wiring found at ring start (R57). DESIGN CHOICE: a ring that was found
open cannot run WIDE; the spec does not say which wiring a mode needs. -/
def wiringOk (s : State) (n : Structure) : Bool :=
  n.rings.all (fun (d : RingDef) => match s.rings.get? d.ring with
    | some x => !(x.wired == some false && imgF n (KR_CFG_MODE d.ring) == 1)
    | none => true)

/-- Images are loaded in this life-cycle state (R90). -/
def lcLoads (s : State) : Bool := s.f SYS_LC_STATE == 1 || s.f SYS_LC_STATE == 2


end State

/-- CFG_LOAD (R56, R90, R95): from BARE, on a unit that is not a standby, in a life-cycle state that loads images. -/
def execCfgLoad (s : State) : Out :=
  .next (if !s.mapOpen then s
  else if s.mode ≠ mBARE ∨ s.startRole = 2 ∨ !s.lcLoads then s.cfgErr 0x10
  else
    let s1 := (((s.cfgErr 0).setF CFG_STAT_LDR 1).setF CFG_STAT_BUSY 1).setF CFG_STAT_DONE 0
    ({ s1 with cfg := { s1.cfg with loading := some (s.f CFG_SLOT_LOAD_SLOT), isShadow := false }, sys := { s1.sys with autostart := false } }).enterMode mLOAD 2)

/-- LOAD_COMPLETE (R54 to R56, R92): the checks have been made; an autostart goes on from step 8 (R88). -/
def execLoadComplete (v : LoadVerdict) (s : State) : Out :=
  .next (match s.cfg.loading with
    | some slot =>
      if s.mode ≠ mLOAD then s
      else
        let auth := if s.sys.autostart then 0 else s.authCheck slot v.rsa v.slh
        if auth ≠ 0 then s.loadFails auth 0
        else
          let c := s.bodyCheck slot v
          if c.1 ≠ 0 then (if c.1 = 0xB then s.safetyDiffers slot v else s).loadFails c.1 c.2
          else s.startStructure (s.imageOf slot v.st)
    | none => s)

/-- CFG_SHADOW (R57, R59): with a shadow load or a changeover in progress it is refused with BUSY, in another mode with MODE.
The present shadow is removed. -/
def execCfgShadow (s : State) : Out :=
  .next (if !s.mapOpen then s
  else if s.cfg.loading.isSome ∨ s.cfg.nodesFor.isSome ∨ s.mode = mCHANGEOVER then s.cfgErr 0x11
  else if !s.inMode [mCOMMISSION, mRUN] then s.cfgErr 0x10
  else
    let s1 := ((((s.dropShadow.cfgErr 0).setF CFG_STAT_LDR 1).setF CFG_STAT_BUSY 1).setF CFG_STAT_DONE 0)
    { s1 with cfg := { s1.cfg with loading := some (s.f CFG_SLOT_SHADOW_SLOT), isShadow := true } })

/-- SHADOW_LOAD_COMPLETE (R57, R58): the checks have been made; the pending layouts go to the nodes. -/
def execShadowLoadComplete (v : LoadVerdict) (s : State) : Out :=
  .next (match s.cfg.loading with
    | some slot =>
      if !s.cfg.isShadow then s
      else
        let auth := s.authCheck slot v.rsa v.slh
        let c := if auth ≠ 0 then (auth, 0) else s.bodyCheck slot v
        if c.1 ≠ 0 then (if c.1 = 0xB then s.safetyDiffers slot v else s).loadFails c.1 c.2
        else if 8388608 < s.f WHEEL_PART_COUNT + State.imgF v.st WHEEL_PART_COUNT then s.loadFails 0xE 0
        else if !s.wiringOk v.st then s.loadFails 0xC (s.sectIdx slot 6)
        else { s with cfg := { s.cfg with loading := none } }.deliver (s.imageOf slot v.st)
    | none => s)

/-- NODE_PENDING (R57, R584): t_NODEDL, at most 40 ms, has passed and node n of ring r has not confirmed. -/
def execNodePending (r : Fin 2) (n t : Nat) (s : State) : Out :=
  let s0 := s.runTo t
  .next (match s0.cfg.nodesFor with
    | some i =>
      if n < 512 ∧ !s0.flag (KR_NODE_PEND_ACK r n)
          ∧ i.st.rings.any (fun (d : RingDef) => d.ring == r.val && d.nodes.contains n) then
        ((s0.loadFails 0xF 0).setF CFG_ERR_NODE_ADDR n).setF CFG_ERR_NODE_RING r
      else s0
    | none => s0)

/-- CFG_DISCARD (R59). -/
def execCfgDiscard (s : State) : Out :=
  .next (if !s.mapOpen then s else if s.swapArmed then s.cfgErr 0x11 else s.dropShadow.cfgErr 0)

end Sys2Proof.Machine
end

