-- ==== Sys2Proof/Machine/Swap.lean ====
section
/-! DEFINITION. The changeover (chapter 02): what is carried, arming, eligible cycles, the swap instant, abandonment and return;
and the commands that a swap of the same SYS cycle precedes, a ring cycle and a fault message. -/

namespace Sys2Proof.Machine
namespace State

-- ===== which parts are carried (R60) =====

/-- The register words of a window in two images are equal. -/
def sameWords (o n : Structure) (base len : Nat) : Bool :=
  let mine := fun (st : Structure) => (st.regs.filter (fun (p : Nat × Word) => base ≤ p.1 && p.1 < base + len)).foldl
    (fun (m : Store 32) (p : Nat × Word) => m.set 0 p.1 p.2) []
  mine o == mine n

/-- The RINGSCHED fields of an axis: ring, kind and node of each segment that carries it, in whatever layout. -/
def axisRing (st : Structure) (a : Nat) : List (Nat × Nat × Nat) :=
  st.rings.flatMap (fun (d : RingDef) =>
    ((allSegs d).filter (fun (g : RSeg) => g.recs.any (fun (x : Nat × Nat) => x.1 == a))).map (fun (g : RSeg) => (d.ring, g.kind, g.node)))

/-- The control-engine program of a cluster is equal in both images. -/
def sameProgram (o n : Structure) (c : Nat) : Bool :=
  let of := fun (st : Structure) => st.loops.filter (fun (l : LoopTile) => l.axis / 8 == c)
  let pa := fun (st : Structure) => st.params.filter (fun (p : Nat × Nat × Word) => p.1 == c)
  of o == of n && pa o == pa n

/-- Axis a is carried between two images (R60). -/
def carriedAxis (o n : Structure) (a : Nat) : Bool :=
  let assocN := fun (k : Nat) (xs : List (Nat × Nat)) => (xs.find? (fun (x : Nat × Nat) => x.1 == k)).map (fun (x : Nat × Nat) => x.2)
  let lim := fun (st : Structure) => st.planLims.find? (fun (l : PlanLim) => l.axis == a)
  let src := imgF o (TILE_FB_SRC_SRC a)
  let port := imgF o (TILE_FB_SRC_PORT a)
  let ports := fun (st : Structure) => (List.range 32).filter (fun p => imgF st (PP_CFG_MODE p) != 0 && imgF st (PP_CFG_TILE p) == a)
  o.axes.contains a && n.axes.contains a && assocN a o.identity == assocN a n.identity && lim o == lim n
    && sameProgram o n (a / 8) && sameWords o n (tileBase a) 0x1000
    && (src != 1 || sameWords o n (fbpBase port) 0x40)
    && ports o == ports n && (ports o).all (fun p => sameWords o n (ppBase p) 0x40)
    && assocN a o.ssiWindow == assocN a n.ssiWindow && assocN a o.stillWin == assocN a n.stillWin
    && axisRing o a == axisRing n a

/-- The master is carried: the master settings of WHEELINIT are equal (R60). -/
def carriedMaster (o n : Structure) : Bool :=
  o.startAngle == n.startAngle && imgReg o WHEEL_MST_CTL == imgReg n WHEEL_MST_CTL && sameWords o n (WHEEL_VSPD 0) 0x28

/-- An axis is parked (R60): planner velocity zero, following error inside its standstill window. -/
def isParked (s : State) (st : Structure) (a : Fin 96) : Bool :=
  let win := ((st.stillWin.find? (fun (x : Nat × Nat) => x.1 == a.val)).map (fun (x : Nat × Nat) => x.2)).getD 0
  (s.tiles.get a).cv == 0 && decide (|s.rdI (TILE_LP_FERR a)| ≤ win)

/-- Every axis of the running structure that is not carried is parked. -/
def coParked (s : State) (o n : Structure) : Bool :=
  (List.finRange 96).all (fun (a : Fin 96) => !o.axes.contains a.val || carriedAxis o n a || s.isParked o a)

/-- A ring of the running structure is in loop-back, in its NARROW fallback or not yet fully joined (R61). -/
def coDegraded (s : State) : Bool :=
  (List.finRange 2).any (fun (r : Fin 2) => (s.ringDef r).area != 0 &&
    (s.flag (KR_RING_OPEN r) || s.flag (KR_RING_NARROW r) || !s.flag (KR_RING_JOINED r)))

-- ===== the swap (R62 to R66) =====

/-- The rings that the running structure runs. -/
def runsRing (s : State) (r : Fin 2) : Bool := (s.ringDef r).area != 0

/-- The present SYS cycle is that of a millisecond-frame boundary which is a ring-cycle boundary of every ring that the running
schedule runs (R62). -/
def eligibleNow (s : State) : Bool :=
  s.onGrid Config.msUnits && s.loopsRun && (List.finRange 2).all (fun (r : Fin 2) => !s.runsRing r || (s.rstate r == rMASTER && s.ringDue r))

/-- The swap count of this boundary (R62), the present frame being counted. -/
def swapNumber (s : State) : Nat :=
  if s.runsRing 0 then ((s.ringAlign 0).ring 0).nextCyc
  else if s.runsRing 1 then ((s.ringAlign 1).ring 1).nextCyc else s.cfg.frames % 4294967296

/-- The millisecond frame of this boundary is counted, once (R62). -/
def countFrame (s : State) : State :=
  if s.cfg.frameAt = some s.time.mono then s
  else { s with cfg := { s.cfg with frames := s.cfg.frames + 1, frameAt := some s.time.mono } }

/-- A swap count at or after CFG_SWAP_CYC (R62). -/
def swapCount (s : State) : Bool :=
  decide ((s.rdN CFG_SWAP_CNT + 4294967296 - s.rdN CFG_SWAP_CYC) % 4294967296 < 2147483648)

/-- An eligible cycle (R62, R63), once in its SYS cycle: the swap count, the master angle and the count towards SWAP_LIM. -/
def eligibleCycle (s : State) : State :=
  let s0 := if s.onGrid Config.msUnits && s.loopsRun then s.countFrame else s
  if s0.eligibleNow && s0.cfg.eligibleAt != some s0.time.mono then
    let s1 := s0.wrN CFG_SWAP_CNT s0.swapNumber
    let tried := match s0.cfg.tried with
      | some k => if s1.swapArmed then some (k + 1) else none
      | none => if s1.swapArmed && s1.swapCount then some 0 else none
    { s1 with cfg := { s1.cfg with eligibleAt := some s0.time.mono, angle := s0.mpos % 4294967296, tried := tried } }
  else s0

/-- The present SYS cycle is T_S (R62, R63): an eligible cycle, within CFG_SWAP_LIM of the first, at which count and angle have
been reached. -/
def swapDue (s : State) : Bool :=
  s.swapArmed && s.cfg.eligibleAt == some s.time.mono && s.swapCount
    && (match s.cfg.tried with | some k => decide (k ≤ s.f CFG_SWAP_LIM_LIMIT) | none => false)
    && decide ((s.cfg.angle + 4294967296 - s.rdN CFG_SWAP_ANG) % 4294967296 < 2147483648)

/-- An address belongs to the tile of a carried axis, whose run-time settings stay. -/
def keepsReg (s : State) (a : Nat) : Bool :=
  s.cfg.carried.any (fun x => tileBase x ≤ a && a < tileBase x + 0x1000)

/-- Registers from the image, but for the settings of carried axes and a carried master: what the old image gave and the new
one does not reads 0. -/
def swapRegs (s : State) (o n : Structure) : State :=
  let master := carriedMaster o n
  let mine := fun (p : Nat × Word) => !s.keepsReg p.1 && !(master && (p.1 == WHEEL_MST_CTL || (WHEEL_VSPD 0 ≤ p.1 && p.1 < WHEEL_SLOT)))
  let gone := (o.regs.filter mine).filter (fun (p : Nat × Word) => !n.regs.any (fun (q : Nat × Word) => q.1 == p.1))
  ((s.wrAll (gone.map (fun (p : Nat × Word) => (p.1, 0)))).wrAll (n.regs.filter mine)).tidyImage n

/-- Feedback ports: one whose mode is unchanged keeps its count, another starts again and its axis is unreferenced (R65). -/
def swapPorts (s : State) (o n : Structure) : State :=
  (List.finRange 32).foldl (fun (s : State) (p : Fin 32) =>
    if imgF o (FBP_CFG_MODE p) = imgF n (FBP_CFG_MODE p) then s
    else
      let s1 := s.initPort p
      match s1.tileOfPort p with
      | some a => (s1.setF (TILE_FB_STAT_REFERENCED a) 0).modTile a (fun t => { t with setRef := false })
      | none => s1) s

/-- A power port is kept where its tile is carried or its settings and its tile's are equal (R247). -/
def keptPort (s : State) (o n : Structure) (p : Nat) : Bool :=
  let a := imgF n (PP_CFG_TILE p)
  s.cfg.carried.contains a ||
    (sameWords o n (ppBase p) 0x40 && sameWords o n (SDCK_CFG (p / 8)) 4 && sameWords o n (tileBase a + 0x200) 0x100)

/-- Power ports at T_S (R247). -/
def swapPower (s : State) (o n : Structure) : State :=
  (List.finRange 32).foldl (fun (s : State) (p : Fin 32) =>
    if s.keptPort o n p then s
    else
      let a := imgF n (PP_CFG_TILE p)
      let s1 := ({ s with pps := s.pps.set p {} }.setF (PP_STAT_GATES p) 0)
      if s1.ppMode p = 0 then s1
      else
        let s2 := if h : a < 96 then (s1.setF (TILE_FB_STAT_REFERENCED a) 0).modTile ⟨a, h⟩ (fun t => { t with setRef := false }) else s1
        s2.startCal p) s

/-- The step generator of a tile whose port is kept, or which has no port and unchanged settings, goes on (R247). -/
def keptGen (s : State) (o n : Structure) (a : Nat) : Bool :=
  match (List.range 32).find? (fun p => imgF n (PP_CFG_MODE p) != 0 && imgF n (PP_CFG_TILE p) == a) with
  | some p => s.keptPort o n p
  | none => sameWords o n (tileBase a + 0x200) 0x100

/-- A tile that starts anew at a position: a generator that goes on keeps phase, level and lines, any other stands at the
position (R247). -/
def freshTile (s : State) (a : Fin 96) (kept : Bool) (u : Int) : Tile :=
  let t := s.tiles.get a
  let fresh : Tile := { rmt := t.rmt, rmtPrev := t.rmtPrev, setOfs := t.setOfs, setRef := t.setRef,
                        ps := { p := s.rdI (TILE_FB_POS a) * u64 }, lp := { wasOff := false, uOld := some u } }
  if kept then
    { fresh with rawTo := t.rawTo, rawFrom := t.rawFrom, rawAt := t.rawAt, phase := t.phase, genOfs := t.genOfs, lvlAt := t.lvlAt,
                 gp := t.gp, gv := t.gv, ga := t.ga, gAt := t.gAt, up := t.up, due := t.due, stillTicks := t.stillTicks,
                 tickX := t.tickX, holdTicks := t.holdTicks, stallTicks := t.stallTicks, rampUp := t.rampUp, steps := t.steps,
                 dirLine := t.dirLine, dirAt := t.dirAt }
  else { fresh with genOfs := if s.flag (TILE_STP_CFG_INV a) then 2 * s.rdI (TILE_FB_POS a) else 0, tickX := s.rdI (TILE_FB_POS a) }

/-- Tiles at T_S: a carried one goes on; another starts from its latched position, its loop state from the old output of the
same physical axis (R65, R273). -/
def swapTiles (s : State) (o n : Structure) : State :=
  (List.finRange 96).foldl (fun (s1 : State) (a : Fin 96) =>
    if s.cfg.carried.contains a.val ∨ !n.axes.contains a.val then s1
    else
      let id := n.identity.find? (fun (x : Nat × Nat) => x.1 == a.val)
      let was := id.bind (fun (x : Nat × Nat) => o.identity.find? (fun (y : Nat × Nat) => y.2 == x.2))
      let u : Int := match was with | some y => signed 16 (s.f (TILE_LP_OUT_VALUE y.1)) | none => 0
      let kept := s.keptGen o n a
      let c : Fin 12 := ⟨a.val / 8, by omega⟩
      let s2 := if kept then s1 else (s1.wrI (TILE_STP_POS a) (s.rdI (TILE_FB_POS a))).wrN (TILE_STP_STAT a) 0
      ({ s2 with tiles := s2.tiles.set a (s2.freshTile a kept u) }.modCl c (fun x =>
        { x with mem := x.mem.filter (fun (w : Nat × Word) => !(0x40 * (a.val % 8) + 0x14 ≤ w.1 && w.1 < 0x40 * (a.val % 8) + 0x40)) })).setF
          (TILE_PLN_STAT_MODE a) pmTRACK) s

/-- Every engine changes its program and parameter bank at T_S (R273): the bank that was not in use holds the new image's
parameters. -/
def swapBanks (s : State) (n : Structure) : State :=
  (List.finRange 12).foldl (fun (s : State) (c : Fin 12) =>
    let b := s.flag (CL_ENG_STAT_BANK c)
    let words := (n.params.filter (fun (p : Nat × Nat × Word) => p.1 == c.val)).foldl
      (fun (m : Store 32) (p : Nat × Nat × Word) => m.set 0 p.2.1 p.2.2) []
    (s.modCl c (fun x => if b then { x with par0 := words } else { x with par1 := words })).setB (CL_ENG_STAT_BANK c) (!b)) s

/-- Where an output item of the old structure goes under the new one (R65): the segment of the same ring that carries the same
axis, or the same safe connection; none where the new structure has none. -/
def newPlace (o n : Structure) (ring seg off : Nat) : Option (Nat × Nat) :=
  let segs := fun (st : Structure) => ((st.rings.find? (fun (d : RingDef) => d.ring == ring)).map allSegs).getD []
  ((segs o).find? (fun (g : RSeg) => g.idx == seg)).bind (fun (g : RSeg) =>
    if g.kind = 1 then
      (g.recs.find? (fun (x : Nat × Nat) => x.2 == off)).bind (fun (x : Nat × Nat) =>
        (segs n).findSome? (fun (h : RSeg) =>
          if h.kind = 1 then (h.recs.find? (fun (y : Nat × Nat) => y.1 == x.1)).map (fun (y : Nat × Nat) => (h.idx, y.2)) else none))
    else if g.conn.isSome then ((segs n).find? (fun (h : RSeg) => h.kind == g.kind && h.conn == g.conn)).map (fun (h : RSeg) => (h.idx, off))
    else none)

/-- An item whose target the new structure lacks (R42, R65): a segment of a tile, an output without a place, a service message to
a node. -/
def lacks (o n : Structure) (i : QItem) : Bool :=
  match i.body with
  | .segment g _ _ => !n.axes.contains g.axis
  | .staged ring seg off _ _ => (newPlace o n ring seg off).isNone
  | .svc ring m => m.node != 0x3FF && !n.rings.any (fun (d : RingDef) => d.ring == ring && d.nodes.contains m.node)
  | _ => false

/-- An output item takes its place under the new structure (R65, R69). -/
def moveItem (o n : Structure) (i : QItem) : QItem :=
  match i.body with
  | .staged ring seg off bs t => match newPlace o n ring seg off with | some x => { i with body := .staged ring x.1 x.2 bs t } | none => i
  | _ => i

/-- Items whose target does not remain are withdrawn and reported (R42, R65): segments of tiles, outputs and messages that the
new rings have no place for, releases that wait for HQ4, and work for handlers that the structure has no more. -/
def swapItems (s : State) (o n : Structure) : State :=
  let keeps := fun (i : QItem) => match i.body with | .work w => n.handlers.any (fun (h : Handler) => h.index == w.handler) | _ => true
  let s1 := ((s.cancelItems 12 (lacks o n)).cancelItems 0 (lacks o n)).cancelItems 1 (lacks o n)
  let s2 := [0, 1].foldl (fun (s : State) (q : Fin 16) => s.modQueue q (fun x => { x with items := x.items.map (moveItem o n) })) s1
  let s3 := s2.modQueue 4 (fun x => { x with waiting := x.waiting.filter keeps })
  let gone := s3.sched.ready.filter (fun (w : Work) => !n.handlers.any (fun (h : Handler) => h.index == w.handler))
  gone.foldl (fun (s : State) w => (s.unqueue w).endWork w admCANCELLED 0) s3

/-- Suppressed counts of codes that the new image does not have are written before anything of T_S (R488). -/
def swapSuppressed (s : State) (n : Structure) : State :=
  s.recorder.buckets.foldl (fun (s : State) (b : RecBucket) =>
    if b.supp ≠ 0 ∧ b.code ≠ 0xFFFF ∧ !n.recEntries.any (fun (e : Nat × Nat × Nat × Nat × Nat) => e.1 == b.code) then
      (s.recEnqueue (b.summary s.time.now)).1 else s) s

/-- The record of an axis in the payloads of the old layout, staged or sent last. -/
def oldRecord (s : State) (r : Fin 2) (o : RingDef) (a : Nat) : Option (List Byte) :=
  (allSegs o).findSome? (fun (g : RSeg) =>
    if g.kind ≠ 1 then none
    else (g.recs.find? (fun (x : Nat × Nat) => x.1 == a)).bind (fun (x : Nat × Nat) =>
      ((assoc g.idx ((s.ring r).closed.getD [])).or (assoc g.idx (s.ring r).lastPay)).map (fun p => (p.drop x.2).take 20)))

/-- The staging of frame N (R65): carried axes carry their staged outputs in their new segments, parked ones their hold
setpoint. -/
def swapStaging (s : State) (r : Fin 2) (o n : RingDef) : List (Nat × List Byte) :=
  ((allSegs n).filter (fun (g : RSeg) => g.kind == 1)).map (fun (g : RSeg) =>
    (g.idx, g.recs.foldl (fun (p : List Byte) (x : Nat × Nat) =>
      let old := if s.cfg.carried.contains x.1 then s.oldRecord r o x.1 else none
      let bs := match old with
        | some b => b
        | none => if h : x.1 < 96 then s.remoteRecord ⟨x.1, h⟩ 0 (s.ring r).nextDep else []
      (overlay p x.2 bs).take (g.len - 4)) (List.replicate (g.len - 4) 0)))

/-- Rings at T_S: new schedule id, layout and node table; a ring that only the new structure runs claims, one that it does
not run is idle (R65). -/
def swapRings (s : State) (old new : Image) : State :=
  (List.finRange 2).foldl (fun (s1 : State) (r : Fin 2) =>
    let od := (old.st.rings.find? (fun (d : RingDef) => d.ring == r.val)).getD { ring := r, area := 0, segs := [], nodes := [] }
    match new.st.rings.find? (fun (d : RingDef) => d.ring == r.val) with
    | none => s1.setF (KR_STAT_STATE r) rIDLE
    | some d =>
      let pay := s.swapStaging r od d
      let s2 := (s1.ringNodes d).setF (KR_RING_JOINED r) 0
      if od.area = 0 then s2.enterClaim r 0xC0
      else (s2.wrN (KR_SID r) new.sid).modRing r (fun x =>
        { x with closed := some pay, lastPay := pay, txSeq := [], rxSeq := [], siltRaised := [], refused := [] })) s

/-- Pins whose entry is equal keep level and pulse, the others take the new IDLE level (R65). -/
def swapPins (s : State) (o n : Structure) : State :=
  (List.range 16).foldl (fun (s : State) p => if imgReg o (WHEEL_EV_CFG p) = imgReg n (WHEEL_EV_CFG p) then s else s.idlePin p) s

/-- Field outputs whose entry is equal keep their level, the others take their INIT without a pulse (R65, R518). -/
def swapOuts (s : State) (o n : Structure) : State :=
  (List.range 32).foldl (fun (s : State) k =>
    if imgReg o (FIO_OUTCFG k) = imgReg n (FIO_OUTCFG k) then s
    else ({ s with wheel := { s.wheel with foutPulses := s.wheel.foutPulses.filter (fun (p : Nat × Nat) => p.1 != k) } }).setB
      ⟨FIO_OUT, k, 1⟩ (s.flag (FIO_OUTCFG_INIT k))) s

/-- A door whose entry is unchanged and whose drive is carried keeps its state; every other starts (R359). -/
def swapDoors (s : State) (o n : Structure) : State :=
  (List.finRange 8).foldl (fun (s : State) (d : Fin 8) =>
    let entry := fun (st : Structure) => st.doors.find? (fun (x : DoorDef) => x.num == d.val)
    if entry o = entry n ∧ sameWords o n (doorBase d) 0x1C ∧ s.cfg.carried.contains (s.f (DOOR_CFG_AXIS d)) then s else s.doorStart d) s

/-- CFG after the swap: the old running image is the shadow (R65), the load state POST. -/
def swapShow (s : State) (old new : Image) : State :=
  let s1 := (((s.showRun new).setF CFG_STAT_SHADOW_SLOT old.slot).wrN CFG_SH_SID old.sid).wrWords (CFG_SH_HASH 0) old.hash
  ((s1.setF CFG_STAT_LDR 6).hit CFG_STAT_SWAPPED).wrN CFG_LAST_SWAP (s.rdN CFG_SWAP_CNT)

/-- The swap at T_S (R65, R66, R68). -/
def swap (s : State) (old new : Image) : State :=
  let o := old.st
  let n := new.st
  let s0 := s.swapSuppressed n
  let s1 := (List.finRange 2).foldl (fun (s : State) (r : Fin 2) =>
    if s.runsRing r && (s.ring r).closed.isNone then s.closeStaging r else s) s0
  let s2 := s1.swapRings old new
  let s3 := ({ s2 with cfg := { s2.cfg with run := some new, shadow := some old, postEnd := some (s.time.mono + s.msCycles 6),
                                            notice := true, tried := none } }.swapShow old new).swapRegs o n
  let s4 := (((s3.takeBudgets n).takeBuckets n).takeHandlers n).swapItems o n
  let s5 := ((((s4.swapPorts o n).swapPower o n).swapTiles o n).swapBanks n).runClusters n
  let s6 := (List.range 12).foldl (fun (s : State) c => s.setF (CL_PSO_CAP_S_CAP c) 0) (s5.startSolver n)
  let s7 := (if carriedMaster o n then s6 else s6.startMaster n).takePartition n
  let s8 := (((s7.swapPins o n).swapOuts o n).swapDoors o n).resetUnused n
  s8.offerRec 0x20 3 (hashOctets old.hash ++ hashOctets new.hash ++ natLE 4 (s.rdN CFG_SWAP_CNT))

/-- The conditions of R67 for the return to RUN. DESIGN CHOICE: where the new structure has solver problems for several arms, the
first result applied of any one of them is enough; the spec says 'the first solver result'. -/
def postOk (s : State) : Bool :=
  let sid := match s.cfg.run with | some i => i.sid | none => 0
  (List.finRange 2).all (fun (r : Fin 2) => (s.ringDef r).area == 0 || s.flag (KR_RING_JOINED r))
    && (match s.safe.caps with | some k => k.sid == sid | none => false)
    && (s.st.probs.isEmpty || s.st.probs.any (fun (p : QProb) => s.f (QS_ARM_RES_KIND p.unit p.pos) != 0))

/-- The wait after a swap ends: the previous image is the shadow, unless it has been discarded (R67). -/
def endPost (s : State) : State :=
  { s with cfg := { s.cfg with postEnd := none } }.setF CFG_STAT_LDR (if s.cfg.shadow.isSome then 4 else 0)

/-- A swap that falls due in this SYS cycle comes before whatever else of the cycle meets it (R65, R69). -/
def swapFirst (s : State) : State :=
  let s1 := s.eligibleCycle
  match s1.cfg.run, s1.cfg.shadow with
  | some old, some new => if s1.swapDue then s1.swap old new else s1
  | _, _ => s1

/-- A swap due, then a waiting message that takes effect in this SYS cycle: both come before a mode request (R69, R76). -/
def eventsFirst (s : State) : State := s.swapFirst.faultFirst

end State

/-- CFG_ARM_CO (R60, R61): judged in the order MODE, CO_RING_DEGRADED, NO_SHADOW, SAFECFG_MISMATCH, CO_NOT_PARKED. -/
def execCfgArmCo (s : State) : Out :=
  .next (if !s.mapOpen then s
  else if s.mode ≠ mRUN then s.cfgErr 0x10
  else if s.coDegraded then s.cfgErr 0x13
  else match s.cfg.shadow with
    | some i =>
      if s.f CFG_STAT_LDR ≠ 4 then s.cfgErr 0x18
      else if !s.shadowHas s.safe.code then s.cfgErr 0xD
      else if !s.coParked s.st i.st then s.cfgErr 0x12
      else
        let carried := (List.range 96).filter (State.carriedAxis s.st i.st)
        (({ s with cfg := { s.cfg with carried := carried, tried := none } }.cfgErr 0).setF CFG_STAT_LDR 5).enterMode mCHANGEOVER 2
    | none => s.cfgErr 0x18)

/-- CFG_CANCEL_CO (R64): with no swap armed nothing happens; the code that CFG_ERR then shows is not stated. -/
def execCfgCancelCo (s : State) : Out :=
  .next (if !s.mapOpen then s
  else if s.swapArmed then s.abandonSwap 0x15 2 else s.cfgErr (Config.unstated 28 s.free % 256))

/-- SWAP_INSTANT (R62, R65, R66, R68): in the SYS cycle of an eligible cycle that meets the conditions. -/
def execSwapInstant (s : State) : Out := .next s.swapFirst

/-- CO_TIMEOUT (R63): CFG_SWAP_LIM eligible cycles after the first have passed without T_S. -/
def execCoTimeout (s : State) : Out :=
  .next (match s.cfg.tried with
    | some k => if s.swapArmed ∧ s.f CFG_SWAP_LIM_LIMIT ≤ k ∧ !s.swapDue then s.abandonSwap 0x14 2 else s
    | none => s)

/-- SWAP_NOTICE (R66, R344): both channels take the new image's set, by the pending code or the code in use. -/
def execSwapNotice (s : State) : Out :=
  .next (match s.cfg.run with
    | some i => if s.cfg.notice then { s with cfg := { s.cfg with notice := false } }.takeNotice i else s
    | none => s)

/-- CHANGEOVER_RETURN (R67): within t_POST of T_S. -/
def execChangeoverReturn (s : State) : Out :=
  .next (match s.cfg.postEnd with
    | some e => if s.mode = mCHANGEOVER ∧ s.f CFG_STAT_LDR = 6 ∧ s.time.mono ≤ e ∧ s.postOk then s.endPost.enterMode mRUN 2 else s
    | none => s)

/-- CO_POSTCHECK (R67, R584): t_POST, at most 6 ms, has passed: SAFE_HOLD under the new structure. -/
def execCoPostcheck (t : Nat) (s : State) : Out :=
  let s0 := s.runTo t
  .next (match s0.cfg.postEnd with
    | some e =>
      if s0.mode = mCHANGEOVER ∧ s0.f CFG_STAT_LDR = 6 ∧ (e < s0.time.mono ∨ !s0.postOk) then
        (s0.endPost.cfgErr 0x16).enterMode mSAFE_HOLD 2
      else s0
    | none => s0)

/-- RING_CYCLE (R22, R364, R374, R400, R403, R409): at a ring-cycle boundary of the master. What has not returned is missing,
and staging that has not closed closes as of t_STAGE before. A swap due at this boundary comes first (R65). Before the first boundary of R400 nothing departs. -/
def execRingCycle (r : Fin 2) (t : Nat) (s : State) : Out :=
  let s0 := (s.runTo t).takeStep.swapFirst
  .next (if s0.rstate r = rMASTER ∧ s0.ringDue r then
    let s1 := (s0.finishCycle r).ringAlign r
    (if (s1.ring r).closed.isNone then s1.closeStaging r else s1).depart r
  else s0)

/-- FAULT_MESSAGE (R454, R456): the next message is taken; a swap due in the same SYS cycle comes first (R69). -/
def execFaultMessage (s : State) : Out := .next s.swapFirst.takeNext

end Sys2Proof.Machine
end

