-- ==== Sys2Proof/Machine/Modes.lean ====
section
/-! DEFINITION. Modes, start-up, life cycle, supply events and monitors (chapter 03 and R564, R574, R575). -/

namespace Sys2Proof

/-- Bits of SYS_RST_CAUSE (R79). -/
def rcPOR : Nat := 0
def rcVIN_LOW : Nat := 1
def rcEXT : Nat := 2
def rcSOFT : Nat := 3
def rcWDOG : Nat := 4
def rcTHERM : Nat := 5
def rcLIFECYCLE : Nat := 6
def rcTAP : Nat := 7

/-- Life-cycle states (R90). -/
def lcBLANK : Nat := 0
def lcPROVISIONED : Nat := 1
def lcDEPLOYED : Nat := 2
def lcRETURNED : Nat := 3

/-- A register that OTP or MRAM backs and that keeps its word through a reset: SYS_START, SYS_LC, DBG_ID, REC_WRAPS, the
door profiles and cycle counts, the anti-rollback counter, serial number and key slots (R79, R84). -/
def keepsReset (a : Nat) : Bool :=
  a == SYS_START || a == SYS_LC || a == DBG_ID || a == REC_WRAPS || (CFG_SEC_SVN 0 ≤ a && a < CFG_SEC_SERIAL 0 + 8)
    || (CFG_SEC_KEY 0 0 ≤ a && a < CFG_SEC_KEY 8 0)
    || (List.range 8).any (fun d => (DOOR_PROF d 0 ≤ a && a < DOOR_PROF d 64) || a == DOOR_CNT_CYC d)

end Sys2Proof

namespace Sys2Proof.Machine
namespace State

-- ===== reset (R79, R83) =====

/-- The words that stand after a reset: the Reset columns, what OTP and MRAM back, and the cause. -/
def resetRegs (s : State) (cause : Nat) : Store 32 :=
  let kept := (s.regs.filter (fun (p : Nat × Word) => keepsReset p.1)).foldl (fun (m : Store 32) (p : Nat × Word) => m.set 0 p.1 p.2) resetWords
  (kept.set 0 SYS_MODE 0).set 0 SYS_RST_CAUSE (BitVec.ofNat 32 (2 ^ cause))

/-- Debug is locked or closed in this life-cycle state (R546). -/
def lcLocked (s : State) : Bool := s.f SYS_LC_STATE == lcDEPLOYED || s.f SYS_LC_STATE == lcSCRAPPED

/-- A reset source of R79: the whole module but OTP, MRAM and flash; all outputs off. The nonce and the challenge are fresh
(R537, R546). -/
def toReset (s : State) (cause : Nat) : State :=
  let nv := { s.nv with erased := [], writing := Bank.rep 10 none }
  let s1 : State := { State.reset with nv := nv, pending := s.pending, regs := s.resetRegs cause, free := s.free + 2,
                                       sys := { nonceAt := s.free, chalAt := s.free + 1, relock := s.flag DBG_STAT_TOKEN } }
  let s2 := (s1.setF CFG_SEC_STAT_SVN_ROWS (s.f CFG_SEC_STAT_SVN_ROWS)).setF CFG_SEC_STAT_ID_KEYS (s.f CFG_SEC_STAT_ID_KEYS)
  s2.setB DBG_STAT_LOCKED s2.lcLocked

-- ===== mode requests (R74, R75) =====

/-- A mode request completes with a result: 0 OK, 1 MODE, 2 COND. -/
def reqDone (s : State) (res cond : Nat) : State :=
  (((s.setF SYS_MODE_REQ_RES res).setF SYS_MODE_REQ_COND cond).hit SYS_MODE_REQ_DONE).msix 2

/-- The axes of the structure are at standstill: the planner commands no motion. -/
def standstill (s : State) : Bool :=
  s.st.axes.all (fun a => match s.tiles.get? a with | some t => t.cv == 0 && t.ca == 0 | none => true)

/-- REQ_COND of a request that needs standstill. -/
def movingCond (s : State) : Nat := if s.standstill then 0 else 64

/-- Doors of the groups that are not OFF are closed and locked. -/
def enabledDoorsShut (s : State) : Bool :=
  (List.finRange 4).all (fun (g : Fin 4) => s.f (SAFE_STO_STAT_STATE g) == 0 || s.doorsShut g)

/-- REQ_COND of a request for RUN (SYS_MODE). -/
def runCond (s : State) : Nat :=
  let joined := (List.finRange 2).all (fun (r : Fin 2) => (s.ringDef r).area == 0 || s.flag (KR_RING_JOINED r))
  let refd := s.st.planLims.all (fun (l : PlanLim) => !l.arm || s.referenced l.axis)
  let caps := match s.safe.caps with | some k => k.sid == s.safe.sid && k.set == s.safe.set | none => false
  b2n (!joined) + 2 * b2n (!refd) + 4 * b2n (!caps) + 8 * b2n s.fltUnack + 16 * b2n (s.flag SYS_MODE_SHED)
    + 32 * b2n (!s.enabledDoorsShut)

/-- The structure is dropped (R74, R216, R392): no image runs, its registers read 0, the rings are IDLE but for a SILENT
one, every gate line is high impedance, every EV pin is low (R78), and nothing of it stays in the queues, the wheel or the Hardpan. -/
def dropStructure (s : State) : State :=
  let s1 := s.dropShadow
  let s2 := (List.finRange 2).foldl (fun (s : State) (r : Fin 2) =>
    if s.rstate r = rSILENT then s else s.setF (KR_STAT_STATE r) rIDLE) s1
  let s3 := (List.range 16).foldl (fun (s : State) n => s.restPin n false)
    (((s2.swapItems s2.st {}).withdraw 10 (fun _ => true)).setDescs [])
  let s4 := (s3.wrAll (s3.st.regs.map (fun (p : Nat × Word) => (p.1, 0)))).takeBudgets {}
  let s7 := ((((s4.resetUnused {}).setF CFG_STAT_RUN_VALID 0).setF CFG_STAT_RUN_SLOT 15).wrN CFG_RUN_SID 0).wrWords (CFG_RUN_HASH 0) (List.replicate 12 0)
  { s7 with cfg := { s7.cfg with run := none, loading := none, nodesFor := none, carried := [], postEnd := none, notice := false,
                                 tried := none, frameAt := none, eligibleAt := none },
            safe := { s7.safe with loaded := false, safety := {}, kine := [] },
            fio := { s7.fio with start := true } }.syncFmode

-- ===== VERIFY (R87 to R89) =====

/-- The VFY_ERR code of a key identifier: REVOKED or KEY_ROLE, 0 for a programmed, unrevoked slot of the algorithm with ROLE
IMAGE (R87, R535). -/
def bootKey (s : State) (id alg : Nat) : Nat :=
  let k := s.keyCheck id alg 0
  if k = 0 then 0 else if k = 4 then 2 else 6

/-- The verdict on a boot image (R87): its header, its keys, its signatures, then its SVN against the anti-rollback counter. -/
def bootErr (s : State) (b : BootVerdict) : Nat :=
  if !b.form then 1
  else if s.bootKey b.rsaKey 0 ≠ 0 then s.bootKey b.rsaKey 0
  else if s.bootKey b.slhKey 1 ≠ 0 then s.bootKey b.slhKey 1
  else if !b.rsa then 3
  else if !b.slh then 4
  else if b.svn < s.otpSvn then 5
  else 0

/-- Autostart or BARE, once a boot image runs (R74, R88). -/
def afterBoot (s : State) (rsa slh : Bool) : State :=
  let slot := s.sys.start.toNat % 16
  if 8 ≤ slot ∨ !s.lcLoads then s.enterMode mBARE 4
  else
    let err := s.authCheck slot rsa slh
    if err ≠ 0 then (s.cfgErr err).enterMode mBARE 4
    else
      let s1 := (s.setF CFG_STAT_LDR 1).setF CFG_STAT_BUSY 1
      ({ s1 with cfg := { s1.cfg with loading := some slot, isShadow := false }, sys := { s1.sys with autostart := true } }).enterMode mLOAD 2

-- ===== the life-cycle wipe (R85) =====

/-- The wipe of R85: all of MRAM, the Kaolin slots and the slot directory; the mark is written last. -/
def lifeWipe (s : State) : State :=
  let doors := (List.range 8).flatMap (fun d => (DOOR_CNT_CYC d, (0 : Word)) :: (List.range 64).map (fun b => (DOOR_PROF d b, (0 : Word))))
  let s1 := (((s.wrAll doors).wrN REC_WRAPS 0).wrN SYS_START 0xF).setF SYS_START_STAT_LC_WIPED 1
  let dir : Bank 10 (Option DirEntry) := s1.nv.dir.mapIdx (fun i (x : Option DirEntry) => if i < 8 then none else x)
  let wri : Bank 10 (Option Nat) := s1.nv.writing.mapIdx (fun i (x : Option Nat) => if i < 8 then none else x)
  { s1 with nv := { s1.nv with mram := [], doorTags := Bank.rep 8 none, loam := Bank.rep 2 none, dir := dir, writing := wri,
                               flash := s1.nv.flash.filter (fun (p : Nat × Byte) => p.1 < slotBase 0), lcMark := s.f SYS_LC_STATE },
            sys := { s1.sys with start := 0xF } }

-- ===== acquisition and shedding (R97, R498, R499) =====

/-- The loop-tick boundary after an instant. -/
def nextTick (t : Instant) : Instant := (t / (2 * Config.gridUnits) + 1) * (2 * Config.gridUnits)

/-- A capture in progress pauses. -/
def pauseAcq (s : State) : State := s.setB ACQ_STAT_PAUSED (s.f ACQ_STAT_STATE == 1 || s.f ACQ_STAT_STATE == 2)

/-- Sampling resumes; a capture armed while shedding starts sampling. -/
def resumeAcq (s : State) : State :=
  let s1 := s.setF ACQ_STAT_PAUSED 0
  if s.flag ACQ_STAT_PAUSED ∧ s.acq.next.isNone then { s1 with acq := { s1.acq with next := some (nextTick s.time.now) } } else s1

-- ===== the flush and commit of R99 =====

/-- Every record that waits is written, in the order of the writer (R485, R487). Fuel: one record each. -/
def drainRecords (s : State) : Nat → State
  | 0 => s
  | k + 1 =>
    match s.recorder.faultReady with
    | r :: rs => drainRecords ({ s with recorder := { s.recorder with faultReady := rs } }.recWrite r) k
    | [] =>
      match s.recNext with
      | some (ix, ⟨len, .record r⟩) => drainRecords ((s.recRemove ix ((len + 63) / 64)).recWrite r) k
      | _ => s

/-- A commit snapshot is due (R94, R99): VIN fell in RUN, and the Loam is not held. A reaction that leaves RUN meanwhile does not
stop the commit (R452). -/
def snapDue (s : State) : Bool := s.sys.commitSnap && !s.loamHeld

/-- A commit snapshot goes to the older MRAM buffer; a capture in progress is completed before it (R99). -/
def commitSnap (s : State) : State :=
  let s1 := match s.pair.capWait with | some k => s.finishCapture { k with fw := s.fwRegion } | none => s
  let k := s1.snapshot
  { s1 with pair := { s1.pair with seq := k.seq } }.putLoam s1.olderBuf (some k)

/-- Flush and commit can be done: the recorder has scanned its store (R480), and no handler holds FW_KEY where a snapshot is due
(R441). -/
def canCommit (s : State) : Bool := s.flag REC_STAT_READY && (!s.snapDue || s.keyFree s.st.fwKey)

/-- The flush of HQ8 and, where one is due, the commit snapshot (R99, R487). -/
def commit (s : State) : State :=
  let s1 := { s with sys := { s.sys with flushing := true } }.drainRecords (s.recorder.faultReady.length + (s.queue 8).items.length)
  let s2 := if s1.snapDue then s1.commitSnap else s1
  { s2 with sys := { s2.sys with flushing := false, commitDue := false, commitSnap := false } }.hit PWR_STAT_COMMIT_DONE

end State

/-- MODE_REQ_RUN (R74 to R76): from COMMISSION or SAFE_HOLD, with REQ_COND all 0. -/
def execModeReqRun (key : Nat) (s : State) : Out :=
  let s0 := s.eventsFirst
  .next (if key ≠ 0x4D44 ∨ !s.mapOpen then s
  else if !s0.inMode [mCOMMISSION, mSAFE_HOLD] then s0.reqDone 1 0
  else if s0.runCond ≠ 0 then s0.reqDone 2 s0.runCond
  else (s0.reqDone 0 0).enterMode mRUN 0)

/-- MODE_REQ_COMMISSION (R74 to R76, R469): from RUN at standstill, from SAFE_HOLD, or from FAULT with HOLD = 0 once FLT
status is cleared. -/
def execModeReqCommission (key : Nat) (s : State) : Out :=
  let s0 := s.eventsFirst
  .next (if key ≠ 0x4D44 ∨ !s.mapOpen then s
  else if s0.mode = mRUN then
    (if s0.movingCond ≠ 0 then s0.reqDone 2 s0.movingCond else (s0.reqDone 0 0).enterMode mCOMMISSION 0)
  else if s0.mode = mSAFE_HOLD then (s0.reqDone 0 0).enterMode mCOMMISSION 0
  else if s0.mode = mFAULT ∧ !s0.flag SYS_MODE_HOLD then
    (if s0.fltCleared then (s0.keepFaultLevels.reqDone 0 0).enterMode mCOMMISSION 0 else s0.reqDone 2 (8 * b2n s0.fltUnack))
  else s0.reqDone 1 0)

/-- MODE_REQ_SAFE_HOLD (R74 to R76): from COMMISSION or RUN; STO on all groups. -/
def execModeReqSafeHold (key : Nat) (s : State) : Out :=
  let s0 := s.eventsFirst
  .next (if key ≠ 0x4D44 ∨ !s.mapOpen then s
  else if s0.inMode [mCOMMISSION, mRUN] then (s0.reqDone 0 0).enterMode mSAFE_HOLD 0
  else s0.reqDone 1 0)

/-- MODE_REQ_BARE (R74 to R76): from COMMISSION, SAFE_HOLD or FAULT with HOLD = 0, at standstill. -/
def execModeReqBare (key : Nat) (s : State) : Out :=
  let s0 := s.eventsFirst
  .next (if key ≠ 0x4D44 ∨ !s.mapOpen then s
  else if s0.inMode [mCOMMISSION, mSAFE_HOLD] ∨ (s0.mode = mFAULT ∧ !s0.flag SYS_MODE_HOLD) then
    (if s0.movingCond ≠ 0 then s0.reqDone 2 s0.movingCond else ((s0.reqDone 0 0).enterMode mBARE 0).dropStructure)
  else s0.reqDone 1 0)

/-- POWER_ON_RESET (R79). -/
def execPowerOnReset (s : State) : Out := .next (s.toReset rcPOR)

/-- RESET_N (R79, R96): held low for at least t_RSTN, 1 μs. -/
def execResetN (low : Nat) (s : State) : Out := .next (if 1000 ≤ low then s.toReset rcEXT else s)

/-- SWRST (R79, R89): SYS_CTL with the key 0x4354, on the recovery endpoint too; a SCRAPPED device takes no command (R90). -/
def execSwrst (key : Nat) (s : State) : Out :=
  .next (if key = 0x4354 ∧ s.mode ≠ mRESET ∧ !s.scrappedMap then s.toReset rcSOFT else s)

/-- WD_KICK (R82). -/
def execWdKick (key t : Nat) (s : State) : Out :=
  let s0 := s.runTo t
  .next (if key = 0x4354 ∧ s0.mapOpen then { s0 with sys := { s0.sys with kicked := s0.time.mono } } else s0)

/-- LOAM_RELEASE (R94). -/
def execLoamRelease (key : Nat) (s : State) : Out :=
  .next (if key = 0x4354 ∧ s.mapOpen then s.setF SYS_START_STAT_LOAM_HELD 0 else s)

/-- WDOG_EXPIRED (R82): WD_MS of the present start has passed since the last kick. -/
def execWdogExpired (t : Nat) (s : State) : Out :=
  let s0 := s.runTo t
  let ms := s0.sys.start.toNat / 65536
  .next (if ms ≠ 0 ∧ s0.mode ≠ mRESET ∧ s0.sys.expired.isNone ∧ s0.sys.kicked + s0.msCycles ms ≤ s0.time.mono then
    ({ s0 with sys := { s0.sys with expired := some s0.time.mono } }).raise (mkFault srcSYS 0x01 cCRITICAL 3 [.val ms])
  else s0)

/-- WATCHDOG_RESET (R82): t_WDRST, 10 ms, after the expiry. -/
def execWatchdogReset (t : Nat) (s : State) : Out :=
  let s0 := s.runTo t
  .next (match s0.sys.expired with
    | some e => if e + s0.msCycles 10 ≤ s0.time.mono then s0.toReset rcWDOG else s0
    | none => s0)

/-- TEMP_WARN (R104): a junction sensor at or above 95 °C; temperatures in 0.1 °C. -/
def execTempWarn (sensor tenths : Nat) (s : State) : Out :=
  .next (if 950 ≤ tenths ∧ s.mode ≠ mRESET then s.raise (mkFault srcSYS 0x04 cMINOR 0 [.inst sensor, .val tenths]) else s)

/-- THERM_RESET (R104): a junction sensor at or above 115 °C. -/
def execThermReset (tenths : Nat) (s : State) : Out := .next (if 1150 ≤ tenths then s.toReset rcTHERM else s)

/-- What R81 asks before RESET is left: VIN above VWARN + VWHYS, at least 10,250 mV (R96), for t_PORDLY, 10 ms; REF present with every
PLL locked; RESET_N high; and after a THERM reset every junction sensor below 105 °C. -/
def releaseOk (s : State) (vinMv above : Nat) (refOk resetHigh : Bool) (hottest : Int) : Bool :=
  decide (10250 ≤ vinMv) && decide (10000 ≤ above) && refOk && resetHigh
    && (!(s.f SYS_RST_CAUSE_CAUSE).testBit rcTHERM || decide (hottest < 1050))

/-- RESET_RELEASE (R81, R105): the wipe starts, disciplined time starts at 0, and SYS_START as it stands rules this start. -/
def execResetRelease (vinMv above : Nat) (refOk resetHigh : Bool) (hottest : Int) (s : State) : Out :=
  .next (if s.mode = mRESET ∧ releaseOk s vinMv above refOk resetHigh hottest then
    { (((s.setF PWR_VIN_VIN_MV vinMv).setF SYS_MODE_MODE mSANITISE).setF SYS_MODE_PREV mRESET).msix 2 with
        time := { was := s.regs }, sys := { s.sys with start := s.rd SYS_START, kicked := 0 } }
  else s)

/-- SANITISE_DONE (R74, R84 to R86, R480): the scan starts; a failed read-back (memory and address) is the collector's first
message, at L4. A debug lock by the reset is recorded (R548). -/
def execSanitiseDone (fail : Option (Nat × Nat)) (s : State) : Out :=
  .next (if s.mode ≠ mSANITISE ∨ s.sys.sanitiseFail.isSome then s
  else match fail with
    | some (mem, addr) =>
      ({ s with sys := { s.sys with sanitiseFail := some (mem, addr) } }.setF REC_STAT_SCANNING 1).raise
        (mkFault srcSYS 0x02 cCRITICAL 4 [.code mem, .val addr])
    | none =>
      let s1 := if s.nv.lcMark = s.f SYS_LC_STATE then s else s.lifeWipe
      let s2 := (s1.setF REC_STAT_SCANNING 1).enterMode mVERIFY 4
      let s3 := if s2.sys.relock ∧ s2.lcLocked then s2.offerRec 0x31 3 [2, 0, 0, 0] else s2
      { s3 with sys := { s3.sys with relock := false } })

/-- VERIFY_DONE (R74, R87 to R90): boot image A or B runs, the one of higher SVN, A when they are equal; rsa and slh say
whether the signatures of the autostart image verify. A unit without a boot image stays in VERIFY with its recovery endpoint;
a SCRAPPED one stays there. -/
def execVerifyDone (bootA bootB : BootVerdict) (rsa slh : Bool) (s : State) : Out :=
  let ea := s.bootErr bootA
  let eb := s.bootErr bootB
  let s1 := s.setF SYS_START_STAT_VFY_ERR (if ea ≠ 0 then ea else eb)
  .next (if s.mode ≠ mVERIFY ∨ s.sys.recovery ∨ s.f SYS_LC_STATE = lcSCRAPPED then s
  else if ea ≠ 0 ∧ eb ≠ 0 then { s1 with sys := { s1.sys with recovery := true } }
  else
    let b : Bool := ea != 0 || (eb == 0 && bootA.svn < bootB.svn)
    let s2 := s1.setB SYS_START_STAT_BOOT_B b
    { s2 with sys := { s2.sys with bootSvn := if b then bootB.svn else bootA.svn } }.afterBoot rsa slh)

/-- SYS_START_WRITE (R105): stored in MRAM at once, where the register map takes it; a ROLE of 3 is ignored. -/
def execSysStartWrite (value : Word) (s : State) : Out :=
  let v := value.toNat
  let role := if v / 16 % 4 = 3 then s.f SYS_START_ROLE else v / 16 % 4
  .next (if s.mapOpen then (((s.setF SYS_START_AUTO_SLOT v).setF SYS_START_ROLE role).setF SYS_START_WARM (v / 64)).setF SYS_START_WD_MS (v / 65536)
  else s)

/-- VIN_BELOW_VWARN (R96, R97, R99, R103): VIN has fallen below VWARN, at most 10.3 V: shedding starts, the solver units stop,
acquisition pauses, and the flush and commit are due. An armed swap is abandoned; while shedding is in force the dip goes on. A swap
due in this SYS cycle comes before. -/
def execVinBelowVwarn (mv t : Nat) (s : State) : Out :=
  let s0 := s.runTo t
  .next (if s0.mode = mRESET ∨ 10300 < mv then s0
  else
    let s1 := (s0.swapFirst.setF PWR_VIN_VIN_MV mv).abandonSwap 0x15 2
    let s2 := if s1.flag SYS_MODE_SHED then { s1 with sys := { s1.sys with dipMin := min mv s1.sys.dipMin } }
      else
        let s3 := ((s1.setF SYS_MODE_SHED 1).setF PWR_STAT_SHED 1).stopUnits.pauseAcq
        { s3 with sys := { s3.sys with dipStart := some s3.time.mono, dipMin := mv } }
    { s2 with sys := { s2.sys with commitDue := true, commitSnap := s2.sys.commitSnap || (s2.mode == mRUN && s2.role != 2) } })

/-- COMMIT_DONE (R99, R487): HQ8 is written to MRAM, and a snapshot is committed to the older buffer where VIN fell in RUN. -/
def execCommitDone (s : State) : Out := .next (if s.sys.commitDue ∧ s.canCommit then s.commit else s)

/-- VIN_RECOVER (R100, R103): shedding ends at t, at most t_RESUME after VIN has risen above VWARN + VWHYS, at least 10,250 mV, at
monotonic count `rise`; minMv is the least VIN of the dip. A commit that is due is completed first. DUR is rounded to nearest
(R10). -/
def execVinRecover (mv minMv rise t : Nat) (s : State) : Out :=
  let s0 := s.runTo t
  .next (match s0.sys.dipStart with
    | none => s0
    | some d =>
      if mv < 10250 ∨ rise < d ∨ s0.time.mono < rise ∨ (s0.sys.commitDue ∧ !s0.canCommit) then s0
      else
        let s1 := (if s0.sys.commitDue then s0.commit else s0).setF PWR_VIN_VIN_MV mv
        let low := min minMv s1.sys.dipMin
        let dur := min 65535 (roundHalfEven ((rise - d) * s1.cycleInc : Nat) (100000 * Config.nsUnits)).toNat
        let s2 := ((((s1.setF SYS_MODE_SHED 0).setF PWR_STAT_SHED 0).hit PWR_STAT_DIP).setF PWR_DIP_MIN_MV low).setF PWR_DIP_DUR dur
        let s3 := s2.resumeAcq.startUnits
        ({ s3 with sys := { s3.sys with dipStart := none } }).offerRec 0x12 3
          (natLE 2 low ++ natLE 2 dur ++ natLE 1 (b2n (!s3.sys.commitDue)) ++ natLE 3 0))

/-- VIN_BELOW_VRST (R96, R101): VIN has fallen below VRST, at most 9.1 V. A commit snapshot that is due and not done leaves its buffer
without a mark. -/
def execVinBelowVrst (mv : Nat) (s : State) : Out :=
  .next (if 9100 < mv then s else (if s.sys.commitDue && s.snapDue then s.putLoam s.olderBuf none else s).toReset rcVIN_LOW)

/-- VIN_OV (R96, R101): VIN above VOV, at least 13.8 V. -/
def execVinOv (mv : Nat) (s : State) : Out :=
  .next (if 13800 ≤ mv ∧ s.mode ≠ mRESET then
    ((s.setF PWR_VIN_VIN_MV mv).hit PWR_STAT_OV).raise (mkFault srcPWR 0x03 cMAJOR 0 [.val mv])
  else s)

/-- REF_LOST (R564): at L4. -/
def execRefLost (s : State) : Out :=
  .next (if s.mode = mRESET then s else s.raise (mkFault srcSYS 0x0A cCRITICAL 4 []))

/-- Nominal voltages of VM1 to VM9 in mV (R574). -/
def railNominal : List Nat := [0, 750, 800, 800, 900, 3300, 1800, 1800, 1100, 600]

/-- RAIL_FAULT (R574, R582): rail VM1 to VM11 outside its window of ±5 % for 10 μs, while VIN is above VWARN. The nominal
value of VM10 and VM11 is not stated: the event says that the window was left. -/
def execRailFault (monitor mv : Nat) (s : State) : Out :=
  let n := railNominal.getD monitor 0
  .next (if s.mode ≠ mRESET ∧ !s.flag SYS_MODE_SHED ∧ 1 ≤ monitor ∧ monitor < 12 ∧ (n = 0 ∨ 100 * mv < 95 * n ∨ 105 * n < 100 * mv) then
    s.raise (mkFault srcPWR 0x09 cCRITICAL 3 [.inst monitor, .val mv])
  else s)

/-- AGEING_WARN (R574, R582): a ring oscillator slowed by 5 % or more, in 0.1 %; raised once. -/
def execAgeingWarn (osc slow : Nat) (s : State) : Out :=
  .next (if 50 ≤ slow ∧ !s.sys.aged ∧ s.mode ≠ mRESET then
    { s with sys := { s.sys with aged := true } }.raise (mkFault srcSYS 0x0B cINFO 0 [.inst osc, .val slow])
  else s)

/-- MONITOR_RECORD (R575): temperatures in 0.1 °C, voltages in mV, slowdowns in 0.1 %. -/
def execMonitorRecord (temps : List Int) (volts slows : List Nat) (s : State) : Out :=
  .next (if s.mode ≤ mSANITISE then s
  else s.offerRec 0x40 3 ((List.range 8).flatMap (fun i => natLE 2 (wrapNat 16 (temps.getD i 0)))
    ++ (List.range 12).flatMap (fun i => natLE 2 (volts.getD i 0)) ++ (List.range 24).flatMap (fun i => natLE 1 (min 255 (slows.getD i 0)))))

end Sys2Proof.Machine
end

