-- ==== Sys2Proof/Machine/Pair.lean ====
section
/-! DEFINITION. The pair (chapter 17): the unit as a ring node and as standby, snapshots received, takeover; and the links of
the ring ports. -/

namespace Sys2Proof

/-- Bytes of [0, len) that a list of ranges, by rising offset, covers from an offset on without a hole. -/
def covered : List (Nat × Nat) → Nat → Nat
  | [], n => n
  | (o, l) :: rs, n => if o ≤ n then covered rs (max n (o + l)) else n

end Sys2Proof

namespace Sys2Proof.Machine
namespace State

def modPairSt (s : State) (g : PairState → PairState) : State := { s with pair := g s.pair }

/-- SYS cycles of a ring cycle of ring r. -/
def ringCycles (s : State) (r : Fin 2) : Nat := s.ringPeriod r / s.cycleInc

/-- A ring port of the unit has link. -/
def anyLink (s : State) : Bool :=
  (List.finRange 2).any (fun (r : Fin 2) => s.flag (KR_STAT_LINK_P r) || s.flag (KR_STAT_LINK_S r))

/-- The standby is armed (R446). -/
def armed (s : State) : Bool :=
  s.mode == mCOLD_STANDBY && s.pair.took && (match s.newestLoam with
    | some (_, k) => k.hash == s.runHash && decide (s.snapAge k.time < s.f RED_CFG_MAXAGE)
    | none => false)

/-- RED_ISOLATED: no ring port of the standby has link (R447). -/
def isolated (s : State) : State :=
  if s.flag RED_STAT_ISOLATED then s
  else (s.setF RED_STAT_ISOLATED 1).raise (mkFault srcRED 0x7B cMAJOR 0 [])

/-- The PAIR record (R439). -/
def pairRecord (s : State) : List Byte :=
  let k := s.newestLoam
  let seq := match k with | some (_, k) => k.seq | none => 0
  let age := match k with | some (_, k) => min 4294967295 (s.snapAge k.time) | none => 4294967295
  natLE 1 (b2n s.armed + 2 * b2n (s.flag RED_STAT_ISOLATED)) ++ natLE 1 s.mode ++ natLE 2 0 ++ natLE 4 seq
    ++ natLE 4 (match s.cfg.run with | some i => i.sid | none => 0) ++ natLE 4 age

/-- SEQ of every safe telegram that passes in an SOUT segment (R438). -/
def readSout (s : State) (segs : List RSeg) (area : List Byte) : State :=
  segs.foldl (fun (s : State) (g : RSeg) =>
    let pay := (area.drop (g.off + 4)).take (g.len - 4)
    let conn := leNat (pay.take 2)
    let len := leNat ((pay.drop 2).take 2)
    if g.kind = 3 ∧ (leNat ((area.drop g.off).take 1)).testBit 0
        ∧ leNat ((pay.drop (8 + len)).take 4) = crc32 (natLE 4 s.safe.sid ++ pay.take (8 + len)) then
      s.modConn conn (fun k => { k with txSeq := leNat ((pay.drop 4).take 4), txSeqB := leNat ((pay.drop 4).take 4) })
    else s) s

/-- The highest epoch that the unit has seen as a node; forgotten when no valid frame has come for t_EPFORGET (R395). -/
def nodeHigh (s : State) (r : Fin 2) : Option Nat :=
  let x := s.ring r
  if max x.epochAt (x.validAt.getD 0) + s.msCycles 100 ≤ s.time.mono then none else x.nodeEpoch

/-- The highest epoch seen as a node rises from a frame whose HCRC and FCS verify (R395). -/
def nodeSaw (s : State) (r : Fin 2) (e : Nat) : State :=
  let s1 := s.sawEpoch r e
  match s.nodeHigh r with
  | none => s1.modRing r (fun x => { x with nodeEpoch := some e, epochAt := s.time.mono })
  | some h => if newer e h then s1.modRing r (fun x => { x with nodeEpoch := some e }) else s1

/-- The frame's EPOCH is below the highest seen (R387). -/
def oldEpoch (s : State) (r : Fin 2) (f : RFrame) : Bool := match s.nodeHigh r with | some h => newer h f.epoch | none => false

/-- The schedule id of the unit's own layout. -/
def nodeSid (s : State) : Nat := match s.cfg.run with | some i => i.sid | none => 0

/-- A frame is valid for the unit as a node (R387). -/
def nodeValid (s : State) (r : Fin 2) (f : RFrame) : Bool :=
  f.type == 0 && f.hcrc && f.fcs && f.sid == s.nodeSid && !s.oldEpoch r f

/-- The frame is forwarded as `g`, with its FCS (R376): computed anew where the unit writes, and its complement where the
received one was wrong or a symbol error was seen, else the one received. A looping node marks the return (R402). -/
def sendOn (s : State) (r : Fin 2) (f g : RFrame) (wrote : Bool) : State :=
  let loop := (s.ring r).looping
  let h := if loop then { g with looped := true, loopAddr := s.f RED_CFG_PAIR_ADDR } else g
  let w := if wrote || loop then (if f.fcs && !f.symErr then h.fcsWord r else 4294967295 - h.fcsWord r) else f.fcsGot r
  let s1 := if f.hcrc then s.setF (KR_STAT_MODE r) f.mode else s
  s1.modRing r (fun x => { x with fwd := some (h, w) })

/-- The SVC_DN payload of a frame, where it carries one. -/
def svcSeen (segs : List RSeg) (f : RFrame) : Option (List Byte) :=
  match segs.find? (fun (g : RSeg) => g.kind == 5) with
  | some g => if (leNat ((f.area.drop g.off).take 1)).testBit 0 then some ((f.area.drop (g.off + 4)).take (g.len - 4)) else none
  | none => none

/-- The LINK message as SVC_UP carries it when the unit is granted (R385, R413). -/
def linkUp (s : State) (r : Fin 2) (segs : List RSeg) (f : RFrame) (area : List Byte) : List Byte × State :=
  let x := s.ring r
  let me := s.f RED_CFG_PAIR_ADDR
  match segs.find? (fun (g : RSeg) => g.kind == 6), svcSeen segs f with
  | some g, some p =>
    if x.linkDue ∧ leNat ((p.drop 10).take 2) = me then
      let seq := ((assoc g.idx x.txSeq).getD 0 + 1) % 65536
      let v := b2n (s.flag (KR_STAT_LINK_P r)) + 2 * b2n (s.flag (KR_STAT_LINK_S r)) + 4 * b2n x.looping
      let pay := natLE 2 me ++ natLE 1 5 ++ natLE 1 0 ++ natLE 4 x.svcTag ++ natLE 2 2 ++ natLE 2 0 ++ natLE 2 v
      (overlay area g.off (segBytes true seq g.len pay),
        s.modRing r (fun y => { y with linkDue := false, svcTag := (y.svcTag + 1) % 4294967296, txSeq := assocSet g.idx seq y.txSeq }))
    else (area, s)
  | _, _ => (area, s)

/-- The standby writes its PAIR segment into the frame as it passes (R372, R373, R439): its record, or silt with its flags. A
unit without a PAIR segment writes nothing. -/
def nodeWrite (s : State) (r : Fin 2) (segs : List RSeg) (f : RFrame) (record : Option (List Byte)) (drift : Bool) : State :=
  let x := s.ring r
  match segs.find? (fun (g : RSeg) => g.kind == 2 && g.node == s.f RED_CFG_PAIR_ADDR) with
  | some g =>
    if s.mode ≠ mCOLD_STANDBY then s.sendOn r f f false
    else
      let more := 2 * b2n drift + 4 * b2n x.linkDue
      match record with
      | some p =>
        let seq := ((assoc g.idx x.txSeq).getD 0 + 1) % 65536
        let area := overlay f.area g.off (natLE 1 (1 + more) ++ (segBytes true seq g.len p).drop 1)
        let s1 := (s.modRing r (fun y => { y with txSeq := assocSet g.idx seq y.txSeq })).modPairSt (fun y => { y with record := p })
        let u := s1.linkUp r segs f area
        u.2.sendOn r f { f with area := u.1 } true
      | none => s.sendOn r f { f with area := overlay f.area g.off (natLE 1 more) } true
  | none => s.sendOn r f f false

/-- The unit's distances in ns from the RTT of a frame and its own timestamps of the cycle before (R378, R407): δ, or δ_P and
δ_S in WIDE. Without a measured round trip they stay. -/
def nodeDelta (s : State) (r : Fin 2) (f : RFrame) (a : Int) (b : Nat) : Int × Int :=
  if f.rtt = 0 then (match (s.ring r).heard with | some h => (h.delta, h.deltaS) | none => (0, 0))
  else if f.mode = fWIDE then
    let p := roundHalfEven ((f.rtt : Int) - a) 2 - b
    (p, (f.rtt : Int) - p - b)
  else (roundHalfEven ((f.rtt : Int) - a) 2, roundHalfEven ((f.rtt : Int) - a) 2)

/-- The arrival lies inside the window that the last valid frame set (R378, R379), after a direction change with the new
distance (R405); TDEP, distance and clock in ns. A node that has not joined has no window yet, nor one whose clock follows
another reference. -/
def inWindow (s : State) (r : Fin 2) (f : RFrame) (d : Int × Int) : Bool :=
  match (s.ring r).heard with
  | some h =>
    let n := (f.cycle + 4294967296 - h.cycle) % 4294967296
    let e := if (s.ring r).afresh then d else (h.delta, h.deltaS)
    let want : Int := (h.tdep + n * (s.ringPeriod r / Config.nsUnits) : Nat) + (if f.mode = fWIDE ∧ f.frame = 1 then e.2 else e.1)
    let dev : Int := (s.time.now / Config.nsUnits : Nat) - want
    !(s.ring r).full || !s.ringSelected || decide (|dev| < s.f (KR_WIN_W_ARR r))
  | none => true

/-- Ring cycles since the last valid frame of the same stream. -/
def passGap (s : State) (r : Fin 2) (f : RFrame) : Option Nat :=
  let x := s.ring r
  let last := if f.mode = fWIDE ∧ f.frame = 1 then x.heard1 else x.heard.map (fun h => h.cycle)
  last.map (fun c => (f.cycle + 4294967296 - c) % 4294967296)

/-- The working pass comes on another port, or under another MODE or FRAME, than the one before (R405). -/
def turned (s : State) (r : Fin 2) (onS : Bool) (f : RFrame) : Bool :=
  let x := s.ring r
  x.full && (if f.mode = fWIDE ∧ f.frame = 1 then x.pass1 != some (onS, f.mode)
    else (match x.pass0 with | some p => p != (onS, f.mode) | none => false))

/-- What the unit keeps of a working pass: port and MODE, and of a valid frame its CYCLE, TDEP, arrival and distances. -/
def keepPass (s : State) (r : Fin 2) (onS : Bool) (f : RFrame) (d : Int × Int) : State :=
  let one := f.mode = fWIDE ∧ f.frame = 1
  let s1 := s.modRing r (fun x => if one then { x with pass1 := some (onS, f.mode) }
    else { x with pass0 := some (onS, f.mode), pass1 := if f.mode = fWIDE then x.pass1 else none })
  if !f.fcs then s1
  else
    let s2 := s1.modRing r (fun x => { x with validAt := some s.time.mono, heard1 := if one then some f.cycle else x.heard1,
                                              heard := if one then x.heard else some ⟨f.cycle, f.tdep, s.time.mono, d.1, d.2⟩ })
    if s.mode = mCOLD_STANDBY then (s2.setF RED_STAT_MISSED 0).setF RED_STAT_PEER 1 else s2

/-- A CLOSE heard as a node: a looping node stops at its first pass with CYCLE at or after C (R411). -/
def nodeClose (s : State) (r : Fin 2) (segs : List RSeg) (f : RFrame) : State :=
  let s1 := match svcSeen segs f with
    | some p => if leNat ((p.drop 2).take 1) = 6 then s.modRing r (fun x => { x with closeAt := some (leNat ((p.drop 14).take 4)) }) else s
    | none => s
  match (s1.ring r).closeAt with
  | some c => if (f.cycle + 4294967296 - c) % 4294967296 < 2147483648 then
      s1.modRing r (fun x => { x with closeAt := none, linkDue := x.linkDue || x.looping, looping := false }) else s1
  | none => s1

/-- A frame of the unit's layout passes as its working pass (R377 to R380, R388, R405): worked, or silt with the reason's
effect. A frame with a wrong FCS is worked as it passes and then discarded. -/
def workPass (s : State) (r : Fin 2) (onS : Bool) (f : RFrame) (a : Int) (b : Nat) : State :=
  let x := s.ring r
  let segs := s.layout r f.mode f.frame
  let d := s.nodeDelta r f a b
  let gap := s.passGap r f
  let held : Int × Int := match x.heard with | some h => (h.delta, h.deltaS) | none => d
  let s0 := s.nodeClose r segs f
  let far : Bool := match gap with | some n => decide (4 < n) | none => false
  if x.full ∧ far then ((s0.sendOn r f f false).keepPass r onS f d).modRing r (fun y => { y with full := !f.fcs, drifts := 0 })
  else if s.turned r onS f then
    ((s0.nodeWrite r segs f none false).keepPass r onS f held).modRing r (fun y => { y with afresh := true })
  else if !s.inWindow r f d then
    ((s0.nodeWrite r segs f none true).keepPass r onS f held).modRing r (fun y =>
      if y.drifts = 2 then { y with full := false, drifts := 0 } else { y with drifts := y.drifts + 1 })
  else
    let s1 := if x.full then s0.nodeWrite r segs f (some s.pairRecord) false else s0.sendOn r f f false
    let s2 := if f.fcs ∧ ¬(f.mode = fWIDE ∧ f.frame = 1) then s1.followRing r f d.1 else s1
    let s3 := s2.keepPass r onS f d
    if f.fcs then
      let s4 := s3.modRing r (fun y => { y with full := y.full || gap == some 1, drifts := 0, afresh := false })
      if gap = some 1 then s4.modPairSt (fun y => { y with took := true }) else s4
    else s3

/-- A frame passes the unit as a node (R387, R388, R438). A CLAIM and a second frame of one CYCLE are forwarded only. -/
def nodePass (s : State) (r : Fin 2) (onS : Bool) (f : RFrame) (a : Int) (b : Nat) : State :=
  let x := s.ring r
  let segs := if f.hcrc then s.layout r f.mode f.frame else s.layout r (match x.pass0 with | some p => p.2 | none => fHEAL) 0
  let silt := fun (t : State) => if x.full then t.nodeWrite r segs f none false else t.sendOn r f f false
  let s1 := if f.hcrc && f.fcs then s.nodeSaw r f.epoch else s
  if f.hcrc ∧ f.type = 1 then s1.sendOn r f f false
  else if !f.hcrc ∨ f.type ≠ 0 ∨ s.oldEpoch r f then silt s1
  else if f.sid ≠ s.nodeSid then (silt s1).modRing r (fun y => { y with full := false })
  else
    let s2 := if s.mode = mCOLD_STANDBY then s1.readSout segs f.area else s1
    if s.passGap r f = some 0 then s2.sendOn r f f false else s2.workPass r onS f a b

/-- A takeover starts (R447, R448): mode TAKEOVER, a snapshot being received is abandoned, both rings claim at PRIO 0x80.
trigger: 0 missed cycles, 1 a command. Without link on any port there is none. -/
def startTakeover (s : State) (trigger : Nat) : State :=
  if s.mode ≠ mCOLD_STANDBY then s
  else if !s.anyLink then s.isolated
  else
    let s1 := s.modPairSt (fun x => { x with rx := none, trigger := trigger, restored := false })
    (List.finRange 2).foldl (fun (s : State) (r : Fin 2) => s.enterClaim r 0x80) (s1.enterMode mTAKEOVER 3)

/-- The takeover's snapshot is refused: the unit starts cold into COMMISSION, and the claims go on (R448). -/
def refuseLoam (s : State) (i : Image) : State :=
  let s1 := (((s.hit RED_STAT_REFUSED).setF SYS_START_STAT_KIND 3).setF RED_STAT_ROLE 1).startMaster i.st
  let s2 := (List.finRange 8).foldl (fun (s : State) (d : Fin 8) => s.doorStart d) (s1.takePartition i.st)
  s2.enterMode mCOMMISSION 3

/-- The newest valid snapshot is checked and restored (R448). -/
def restoreTakeover (s : State) (i : Image) : State :=
  match s.newestLoam with
  | none => (s.offerRec 0x22 3 (natLE 4 (s.nv.loamSeq.get 0) ++ natLE 4 (s.nv.loamSeq.get 1))).refuseLoam i
  | some (_, k) =>
    let age := s.snapAge k.time
    if k.hash ≠ i.hash then
      ((s.setF SYS_START_STAT_LOAM_HELD 1).offerRec 0x21 3 (hashOctets k.hash ++ hashOctets i.hash)).refuseLoam i
    else if s.f RED_CFG_MAXAGE < age then (s.offerRec 0x23 3 (natLE 4 k.seq ++ natLE 4 (min 4294967295 age))).refuseLoam i
    else
      let s1 := ((s.startMaster i.st).restoreSnap k true).restoreMaster k true
      let s2 := (List.finRange 8).foldl (fun (s : State) (d : Fin 8) => s.doorStart d) (s1.takePartition i.st)
      (s2.setF SYS_START_STAT_KIND 2).modPairSt (fun x => { x with restored := true })

/-- The first CYCLE frame of a ring has departed. -/
def sentFirst (s : State) (r : Fin 2) : Bool := s.rstate r == rMASTER && ((s.ring r).cp.isSome || (s.ring r).cs.isSome)

/-- TK_HANDLER is dispatched once (R448). -/
def takeoverDispatch (s : State) : State :=
  match s.st.tkHandler with
  | some r => s.join { src := 17, handler := r.handler, key := r.key, group := r.group, payload := [], entry := s.time.now, late := false }
  | none => s

/-- The takeover ends in RUN (R448, R518). -/
def takeoverRun (s : State) : State :=
  let s1 := ((s.setF SYS_START_ROLE 1).setF RED_STAT_ROLE 1).hit RED_STAT_TAKEN
  ((s1.outInit.enterMode mRUN 3).raise
    (mkFault srcRED 0x78 cMAJOR 0 [altCode 0x78 s.pair.trigger, .val (s.f (KR_EPOCH_EPOCH 0)), .val s.pair.seq])).takeoverDispatch

-- ===== snapshots received (R444, R445) =====

/-- The snapshot that is being received ends incomplete: counted and raised. -/
def snapIncomplete (s : State) (snap : Nat) (ranges : List (Nat × Nat)) : State :=
  let have_ := (ranges.map (fun (x : Nat × Nat) => x.2)).foldl (· + ·) 0
  (s.bump RED_CNT_INC).raise (mkFault srcRED 0x7F cINFO 0 [.code snap, .val (s.snapLen - have_)])

/-- A chunk's range is noted; the first chunk of a snapshot opens its buffer, which loses its mark (R444). -/
def noteChunk (s : State) (snap off len : Nat) : State :=
  let add := fun (rs : List (Nat × Nat)) => (off, len) :: rs.filter (fun (x : Nat × Nat) => x.1 != off)
  let open_ := fun (s : State) => (s.putLoam s.olderBuf none).modPairSt (fun x => { x with rx := some (snap, [(off, len)]) })
  match s.pair.rx with
  | some (n, rs) => if n = snap then s.modPairSt (fun x => { x with rx := some (snap, add rs) }) else open_ (s.snapIncomplete n rs)
  | none => open_ s

/-- Every message of HQ7 is written to the recorder at once, before a reset. -/
def writeFaults (s : State) : Nat → State
  | 0 => s.drainRecords s.recorder.faultReady.length
  | k + 1 => (s.logFault).writeFaults k

/-- The newest snapshot belongs to another structure: the slot that holds it becomes AUTO_SLOT and the unit resets, or the
standby disarms (R445). -/
def restructure (s : State) (k : Snap) : State :=
  let holds := fun (n : Nat) => match (s.nv.dir.get? n).bind id with | some (e : DirEntry) => hashWords e.hash == k.hash | none => false
  match (List.range 8).find? holds with
  | some n =>
    let s1 := s.setF SYS_START_AUTO_SLOT n
    let s2 := s1.takeFault { mkFault srcRED 0x7E cINFO 0 [.code n] with at_ := s.time.mono }
    (s2.writeFaults (s2.queue 7).items.length).toReset rcSOFT
  | none => s.raise (mkFault srcRED 0x7D cMINOR 0 [.val (k.hash.getD 0 0).toNat])

/-- A snapshot is complete and its CRC verifies: its mark is written, and it is the newest valid one (R444, R445). -/
def snapComplete (s : State) (k : Snap) : State :=
  let s1 := (((s.putLoam s.olderBuf (some k)).bump RED_CNT_RCVD).wrN RED_SNAP k.seq).wrN RED_SNAP_LEN k.len
  let s2 := (s1.wrWords (RED_SNAP_HASH 0) k.hash).modPairSt (fun x => { x with rx := none, time := some k.time })
  if k.hash = s.runHash then s2 else s2.restructure k

end State

/-- A link change at a ring port of a node: it loops from the loss of a link on, until a close (R402); without the port that
its working pass comes by it is DOWN (R388). -/
def State.nodeLink (s : State) (r : Fin 2) (onS up : Bool) : State :=
  let x := s.ring r
  let down : Bool := !up && (match x.pass0 with | some p => p.1 == onS | none => false)
  s.modRing r (fun y =>
    let z := { y with looping := y.looping || !up, linkDue := true }
    if down then { z with full := false, heard := none, heard1 := none, pass0 := none, pass1 := none, drifts := 0, nodeEpoch := none } else z)

/-- RING_LINK_CHANGE (R402, R403, R412, R447): a port of ring r, P or S, gains or loses link. A loss raises KR_LINK and abandons
a pending close; a standby without link on any port raises RED_ISOLATED. -/
def execRingLinkChange (r : Fin 2) (onS up : Bool) (s : State) : Out :=
  let s1 := s.setB (if onS then KR_STAT_LINK_S r else KR_STAT_LINK_P r) up
  let s2 := if up then s1 else s1.raise (mkFault (srcKR r) 0x63 cMAJOR 0 [.inst r, .inst (b2n onS)])
  let s3 := if s2.rstate r = rNODE then s2.nodeLink r onS up
    else if s2.rstate r = rMASTER ∧ (s2.ring r).closeAt.isSome ∧ !up then s2.abandonClose r else s2
  .next (if s.mode = mRESET then s
  else if s3.mode = mCOLD_STANDBY ∧ !s3.anyLink then s3.isolated
  else if s3.anyLink then s3.setF RED_STAT_ISOLATED 0
  else s3)

/-- NODE_WORKING_PASS (R365, R376, R387, R438, R451): a frame from another source passes the unit; onS: at which port it came;
a and b: the unit's timestamps of the cycle before in ns, t2 − t1, or t4 − t3 and t3 − t1 in WIDE (R378, R407). From the end of
VERIFY the unit forwards in every state; in IDLE it notes that another master runs the ring. -/
def execNodeWorkingPass (r : Fin 2) (onS : Bool) (f : RFrame) (a : Int) (b t : Nat) (s : State) : Out :=
  let s0 := s.runTo t
  .next (if s0.mode < mBARE then s0
  else if s0.rstate r = rIDLE ∧ f.type = 0 ∧ f.hcrc ∧ f.fcs then
    ((s0.sawEpoch r f.epoch).modRing r (fun x => { x with foreign := some f.epoch })).sendOn r f f false
  else if s0.rstate r = rNODE then s0.nodePass r onS f a b
  else s0.sendOn r f f false)

/-- CKPT_CHUNK_RX (R444, R445): SNAP, OFFSET and LEN of a chunk; done: the snapshot, once every byte has arrived and its CRC
verifies. -/
def execCkptChunkRx (snap off len : Nat) (done : Option Snap) (s : State) : Out :=
  .next (if s.mode ≠ mCOLD_STANDBY then s
  else
    let s1 := s.noteChunk snap off len
    match done, s1.pair.rx with
    | some k, some (_, rs) =>
      if k.seq % 65536 = snap ∧ k.len ≤ covered (sortBy (fun (x : Nat × Nat) => (x.1 : Int)) rs) 0 then s1.snapComplete k else s1
    | _, _ => s1)

/-- TAKEOVER_TRIGGER (R447): the arrival window of the working pass expected on ring r has ended without a valid frame on
any port; a frame of the SYS cycle that ends it still counts (R452). The third missed cycle in succession starts the takeover of an armed standby. -/
def execTakeoverTrigger (r : Fin 2) (t : Nat) (s : State) : Out :=
  let s0 := s.runTo t
  let last := (List.finRange 2).foldl (fun (m : Nat) (q : Fin 2) => match (s0.ring q).validAt with | some h => max m h | none => m) 0
  let missed := s0.f RED_STAT_MISSED
  .next (if s0.mode ≠ mCOLD_STANDBY ∨ (s0.ring r).validAt.isNone then s0
  else if !s0.anyLink then s0.isolated
  else if last + (min missed 2 + 1) * s0.ringCycles r + s0.f (KR_WIN_W_ARR r) * 4 / 5 < s0.time.mono then
    let s1 := (s0.setF RED_STAT_MISSED (min 3 (missed + 1))).setF RED_STAT_PEER 0
    if 2 ≤ missed ∧ s1.armed then s1.startTakeover 0 else s1
  else s0)

/-- RED_TAKEOVER_CMD (R447): the key is 0x5244; armed or not, in COLD_STANDBY only. -/
def execRedTakeoverCmd (key : Nat) (s : State) : Out := .next (if key = 0x5244 ∧ s.mapOpen then s.startTakeover 1 else s)

/-- MODE_REQ_TAKEOVER (R75, R76, R447). -/
def execModeReqTakeover (key : Nat) (s : State) : Out :=
  let s0 := s.eventsFirst
  .next (if key ≠ 0x4D44 ∨ !s.mapOpen then s
  else if s0.mode ≠ mCOLD_STANDBY then s0.reqDone 1 0
  else if !s0.anyLink then (s0.reqDone 2 0).isolated
  else (s0.reqDone 0 0).startTakeover 1)

/-- TAKEOVER_RESTORED (R74, R448): the newest snapshot is checked and restored, or refused; with the first CYCLE frame sent
the unit enters RUN. It comes once the snapshot is restored, and again with the first frame where that is later. -/
def execTakeoverRestored (t : Nat) (s : State) : Out :=
  let s0 := s.runTo t
  .next (match s0.cfg.run with
    | some i =>
      if s0.mode ≠ mTAKEOVER then s0
      else
        let s1 := if s0.pair.restored then s0 else s0.restoreTakeover i
        if s1.mode = mTAKEOVER ∧ (s1.sentFirst 0 ∨ s1.sentFirst 1) then s1.takeoverRun else s1
    | none => s0)

/-- RED_PEER_LOST (R453): no valid PAIR record for 3 cycles at the active; once until one comes. -/
def execRedPeerLost (r : Fin 2) (s : State) : Out :=
  .next (if s.role = 1 ∧ s.rstate r = rMASTER ∧ 3 ≤ (s.ring r).pairMiss ∧ !s.pair.peerLost.contains r.val then
    (s.modPairSt (fun x => { x with peerLost := r.val :: x.peerLost })).raise (mkFault srcRED 0x7A cMINOR 0 [.inst r])
  else s)

end Sys2Proof.Machine
end

