-- ==== Sys2Proof/Machine/View.lean ====
section
/-! DEFINITION. What a read of a register answers, without any effect of the read: the stored word, or the word that stands
for other state of the machine. -/

namespace Sys2Proof.Machine
namespace State

/-- FLT_STAT (R467, R470). -/
def viewFltStat (s : State) : Nat :=
  (s.rdN FLT_STAT - s.rdN FLT_STAT % 32 - (s.f ⟨FLT_STAT, 7, 1⟩) * 128) + b2n (!s.flt.entries.isEmpty) + 2 * s.fltLevel
    + 16 * b2n s.fltUnack + 128 * b2n s.errLow + 65536 * s.flt.entries.length

/-- A word of fault entry e (FLT_ENT). -/
def viewFltEnt (s : State) (e w : Nat) : Nat :=
  match s.flt.entries.find? (fun (x : FltEntry) => x.idx == e) with
  | none => 0
  | some x =>
    if w = 0 then x.source % 1024 + 1024 * (x.kind % 256) + 2 ^ 18 * (x.cls % 4) + 2 ^ 20 * (x.level % 8) + 2 ^ 23 * b2n x.esc
      + 2 ^ 24 * b2n x.acked + 2 ^ 25 * b2n x.cause + 2 ^ 26
    else if w = 1 then x.ctx else if w = 2 then x.count else x.first.ns

/-- A word of the oldest message (FLT_MSG0), or one that the last read of FLT_MSG0 captured (R471). -/
def viewFltMsg (s : State) (w : Nat) : Nat :=
  if w = 0 then (match s.flt.fifo with | x :: _ => (x.words.getD 0 0).toNat | [] => 0)
  else (s.flt.captured.getD w 0).toNat

/-- HQ_STAT: a queue without reserved cells and without room under its shared cap; an empty pool. -/
def viewHqStat (s : State) : Nat :=
  mask32 (fun n => match s.hq.q.get? n with | some q => decide (q.reserved ≤ q.resUsed) && decide (q.cap ≤ q.shUsed) | none => false)
    + 65536 * b2n (s.hq.pool == 0)

/-- HQn_LVL: cells and items held. -/
def viewHqLvl (s : State) (n : Nat) : Nat :=
  match s.hq.q.get? n with | some q => min 65535 q.cells + 65536 * min 65535 q.items.length | none => 0

/-- SAFE_STO_STATg: confirmed safe-off, the readbacks and the SS1 time beside the stored fields (R335). -/
def viewSto (s : State) (g : Fin 4) : Nat :=
  let w := s.rdN (SAFE_STO_STAT g) % 1048576
  w - (w / 4 % 8) * 4 + 4 * b2n (s.confirmed g) + 8 * b2n ((s.safe.dies.get 0).rb.testBit g) + 16 * b2n ((s.safe.dies.get 1).rb.testBit g)
    + 1048576 * s.ss1Left g

/-- DOOR_STAT: the doors that are closed and locked beside the stored fields (R352). -/
def viewDoorStat (s : State) : Nat :=
  let w := s.rdN DOOR_STAT
  w - (w / 256 % 256) * 256 + 256 * ((List.finRange 8).map (fun (d : Fin 8) => if s.doorHere d && s.closedLocked d then 2 ^ d.val else 0)).foldl (· + ·) 0

/-- FIO_OUT: the commanded levels, a door lock's as its door commands it (R517). -/
def viewOut (s : State) : Nat := mask32 s.cmdOut

/-- The stored word of a register without its WO fields and its reserved bits, which read 0 (R12, R13). -/
def rdPlain (s : State) (a : Nat) : Word :=
  match accessRow a with
  | some r => s.rd a &&& BitVec.ofNat 32 r.shown
  | none => 0

/-- SAFE_STAT: both channels run from leaving RESET on, beside the stored fields. -/
def viewSafeStat (s : State) : Nat := s.rdN SAFE_STAT / 4 * 4 + (if s.mode = mRESET then 0 else 3)

/-- SAFE_TP_STAT: the supplies that pulse beside the stored fields (R585). -/
def viewTpStat (s : State) : Nat :=
  s.rdN SAFE_TP_STAT / 16 * 16 + ((List.finRange 4).map (fun (k : Fin 4) => if s.tpOn k then 2 ^ k.val else 0)).foldl (· + ·) 0

/-- FBP_STAT: the level of K beside the stored fields (R161, R182). -/
def viewFbpStat (s : State) (p : Nat) : Word :=
  let k : Fld := ⟨FBP_STAT p, 11, 1⟩
  k.put (s.rdPlain (FBP_STAT p)) (b2n (s.kHigh p))

/-- FBP_CNT, with an index correction whose sample has come (R168). -/
def viewFbpCnt (s : State) (p : Nat) : Word :=
  match (s.fbps.get? p).bind (fun x => x.corr) with
  | some (due, d) => if due ≤ s.time.mono then s.rd (FBP_CNT p) + BitVec.ofInt 32 d else s.rd (FBP_CNT p)
  | none => s.rd (FBP_CNT p)

/-- CL_ENG_PC: frozen at the faulting instruction while ENG_OVERRUN, ENG_ILLEGAL or ENG_ECC stands (R278). -/
def viewEngPc (s : State) (c : Fin 12) : Nat :=
  if s.flag (CL_ENG_STAT_OVERRUN c) ∨ s.flag (CL_ENG_STAT_ILLEGAL c) ∨ s.flag (CL_ENG_STAT_ECC2 c) then (s.cl c).frozenPc % 4096
  else s.f (CL_ENG_PC_PC c)

/-- The time CSR of an event core: the low 32 bits of the nanoseconds field of disciplined time (R146, R418). -/
def timeCsr (s : State) : Word := BitVec.ofNat 32 s.time.now.ns

/-- The word of a register as a read of it would answer (R551): a word that no register occupies reads 0, one of an instance that
the running structure does not use the value of its Reset column. -/
def readReg (s : State) (a : Nat) : Word :=
  let n := fun (v : Nat) => BitVec.ofNat 32 v
  if !instanceUsed s.st a then Store.get 0 resetWords a
  else if a = FLT_STAT then n s.viewFltStat
  else if 0x50100 ≤ a ∧ a < 0x50900 then n (s.viewFltEnt ((a - 0x50100) / 16) (a / 4 % 4))
  else if FLT_MSG 0 ≤ a ∧ a < FLT_MSG 8 then n (s.viewFltMsg ((a - FLT_MSG 0) / 4))
  else if a = FLT_MSG_LVL then n (s.flt.fifo.length + 512 * s.f FLT_MSG_LVL_OVF)
  else if a = HQ_POOL then n s.hq.pool
  else if a = HQ_STAT then n s.viewHqStat
  else if HQ_LVL 0 ≤ a ∧ a < 0x20200 ∧ a % 16 = 4 then n (s.viewHqLvl ((a - HQ_LVL 0) / 16))
  else if SCHED_GRP 0 ≤ a ∧ a < SCHED_GRP 8 then
    let g := (a - SCHED_GRP 0) / 4
    n (s.rdN a % 256 + 256 * (s.sched.ready.filter (fun (w : Work) => w.group == g)).length)
  else if a = SAFE_STAT then n s.viewSafeStat
  else if a = SAFE_TP_STAT then n s.viewTpStat
  else if 0x100800 ≤ a ∧ a < 0x140000 ∧ 0x800 ≤ a % 0x10000 ∧ a % 0x10000 < 0xA00 ∧ (a % 0x40 = 0x18 ∨ a = FBP_STAT (8 * ((a - 0x100000) / 0x10000) + a % 0x10000 / 0x40 % 8)) then
    let p := 8 * ((a - 0x100000) / 0x10000) + a % 0x10000 / 0x40 % 8
    if a = FBP_CNT p then s.viewFbpCnt p else s.viewFbpStat p
  else if 0x100000 ≤ a ∧ a < 0x1C0000 ∧ a % 0x10000 = 0x18 then n (s.viewEngPc (Fin.ofNat 12 ((a - 0x100000) / 0x10000)))
  else if a = WHEEL_EV_LVL then n s.evLevels
  else if SAFE_STO_STAT 0 ≤ a ∧ a < SAFE_STO_STAT 4 then n (s.viewSto (Fin.ofNat 4 ((a - SAFE_STO_STAT 0) / 4)))
  else if a = DOOR_STAT then n s.viewDoorStat
  else if a = FIO_OUT ∨ a = FIO_OUT_SET ∨ a = FIO_OUT_CLR then n s.viewOut
  else if a = RED_STAT then n (s.rdN a + 4 * b2n s.armed)
  else if a = RED_SNAP_AGE then n (match s.pair.time with | some t => min 4294967295 (s.snapAge t) | none => 0)
  else if CFG_SEC_NONCE 0 ≤ a ∧ a < CFG_SEC_NONCE 2 then Config.randomWord (8 * s.sys.nonceAt + (a - CFG_SEC_NONCE 0) / 4)
  else if DBG_CHAL 0 ≤ a ∧ a < DBG_CHAL 8 then Config.randomWord (8 * s.sys.chalAt + (a - DBG_CHAL 0) / 4)
  else if CFG_SEC_SERIAL 0 ≤ a ∧ a < CFG_SEC_SERIAL 2 then n (s.nv.serial % 2 ^ 48 / 2 ^ (8 * (a - CFG_SEC_SERIAL 0)))
  else if a = DBG_ID then n (0x11296001 + 2 * (Config.unstated 24 0 % 2048))
  else if a = WHEEL_MST_ANG then n s.mpos
  else if WHEEL_LT_ANG 0 ≤ a ∧ a < WHEEL_LT_ANG 8 ∧ a % 32 = WHEEL_LT_ANG 0 % 32 then
    n (match s.wheel.latches.get (Fin.ofNat 8 ((a - WHEEL_LT_ANG 0) / 32)) with | e :: _ => e.m | [] => 0)
  else if a = TIME_NOW_NS then n s.time.now.ns
  else s.rdPlain a

end State
end Sys2Proof.Machine
end

