-- ==== Sys2Proof/Machine/Acq.lean ====
section
/-! DEFINITION. Trigger and acquisition (chapter 20): arming, raw samples, triggers, masks, frames and blocks. -/

namespace Sys2Proof

/-- The block's 64-byte header (R497); S is the frame length. -/
def AcqBlock.header (b : AcqBlock) (s : Nat) : List Byte :=
  natLE 4 b.seq ++ natLE 2 b.flags ++ natLE 2 b.frames.length ++ natLE 8 b.first ++ natLE 4 b.lost ++ natLE 2 b.trigFr ++ natLE 2 s
    ++ natLE 40 0

/-- The 8,192 bytes of a block. -/
def AcqBlock.bytes (b : AcqBlock) (s : Nat) : List Byte :=
  (b.header s ++ b.frames.flatten ++ List.replicate 8192 0).take 8192

end Sys2Proof

namespace Sys2Proof.Machine

/-- States of the engine (ACQ_STAT.STATE). -/
def aqIDLE : Nat := 0
def aqARMED : Nat := 1
def aqTRIGGERED : Nat := 2
def aqDONE : Nat := 3
def aqSTOPPED : Nat := 4

namespace State

def modAcq (s : State) (g : AcqState → AcqState) : State := { s with acq := g s.acq }
def acqState (s : State) : Nat := s.f ACQ_STAT_STATE
def acqOn (s : State) : Bool := s.acqState == aqARMED || s.acqState == aqTRIGGERED
def nprobe (s : State) : Nat := s.f ACQ_CFG_NPROBE
/-- Current-loop boundaries from one raw sample to the next (R495). -/
def rawStep (s : State) : Nat := 2 ^ min 10 (s.f ACQ_CFG_RDIV)
def acqDec (s : State) : Nat := max 1 (s.f ACQ_CFG_DEC)
def streams (s : State) : Bool := s.flag ACQ_CFG_STREAM

/-- Bytes of the values of all probes. -/
def partLen (s : State) : Nat := ((List.range s.nprobe).map (fun p => if s.f (ACQ_PSEL_WIDTH p) = 0 then 4 else 2)).foldl (· + ·) 0
/-- S: the length of a frame, padded to a multiple of 4 bytes (R496). -/
def frameLen (s : State) : Nat := ((if s.flag ACQ_CFG_MINMAX then 2 * s.partLen else s.partLen) + 3) / 4 * 4
def framesPerBlock (s : State) : Nat := 8128 / max 1 s.frameLen
def acqBlocks (s : State) : Nat := if s.streams then 8 * (s.rdN ACQ_DSIZE % 32768) else 1024

-- ===== arming (R499) =====

/-- A select word that is not reserved (R494). -/
def selectOk (s : State) (p : Nat) : Bool :=
  let a := s.f (ACQ_PSEL_ADDR p)
  let sp := s.f (ACQ_PSEL_SPACE p)
  (sp == 0 || (sp == 1 && a / 8192 % 16 < 12) || (sp == 2 && a ≤ 6)) && s.f (ACQ_PSEL_WIDTH p) != 3

/-- A mask within the mask memory (R504). -/
def maskOk (s : State) (p : Nat) : Bool :=
  !s.flag (ACQ_MASK_EN p) || (1 ≤ s.f (ACQ_MASK_LEN p) && s.f (ACQ_MASK_BASE p) + s.f (ACQ_MASK_LEN p) ≤ 4096)

/-- The configuration of a capture is whole (R499, ARM_CONFIG). -/
def acqConfigOk (s : State) : Bool :=
  let d := s.rdN ACQ_DSIZE % 32768
  decide (1 ≤ s.nprobe) && decide (s.nprobe ≤ 128) && (List.range s.nprobe).all s.selectOk
    && decide (s.frameLen ≤ if s.flag ACQ_CFG_MINMAX then 1024 else 512)
    && decide (s.rdN ACQ_OFFSET < 6250 * s.rawStep) && (List.range s.nprobe).all s.maskOk
    && (!s.streams || (decide (1 ≤ d) && decide (d ≤ 16384) && decide (d ≤ s.st.acqRegion)))

/-- The result of ACQ_CTL.ARM (R499). -/
def armCheck (s : State) : Nat :=
  if s.acqOn then 1 else if !s.acqConfigOk then 2 else if s.acqBlocks * s.framesPerBlock < s.rdN ACQ_POST then 3 else 0

/-- A capture starts: the previous one is discarded (R499). -/
def armAcq (s : State) : State :=
  let shed := s.flag SYS_MODE_SHED
  let s1 := (((s.setF ACQ_STAT_STATE aqARMED).setF ACQ_STAT_TRIGGERED 0).setF ACQ_STAT_TRUNC 0).setB ACQ_STAT_PAUSED shed
  let s2 := (s1.wrN ACQ_OLD_BLK 0).wrN ACQ_HEAD_BLK 0
  { s2.withdraw 9 (fun _ => true) with acq := { next := if shed then none else some (nextTick s.time.now) } }

-- ===== probes (R494) =====

/-- The 32-bit word that a probe selects, as it stood when the present SYS cycle began (R26, R495). -/
def probeWord (s : State) (p : Nat) : Nat :=
  let a := s.f (ACQ_PSEL_ADDR p)
  let sp := s.f (ACQ_PSEL_SPACE p)
  let o : State := { s with regs := s.time.was, clusters := s.clWas }
  if sp = 0 then (o.readReg (4 * a)).toNat
  else if sp = 1 then (if h : a / 8192 % 16 < 12 then (o.dmem ⟨a / 8192 % 16, h⟩ (a % 8192)).toNat else 0)
  else if a = 0 then s.mpos % 4294967296
  else if a = 1 then s.mpos / 4294967296
  else if a = 2 then s.time.now.ns
  else if a = 3 then o.rdN (FIO_IN 0)
  else if a = 4 then o.rdN (FIO_IN 1)
  else if a = 5 then o.viewOut
  else s.acq.idx % 4294967296

/-- A probe's value: the word or one of its halves. -/
def probe (s : State) (p : Nat) : Nat :=
  let w := s.probeWord p
  if s.f (ACQ_PSEL_WIDTH p) = 0 then w else if s.f (ACQ_PSEL_WIDTH p) = 1 then w % 65536 else w / 65536

/-- A probe's value as it compares (SIGNED). -/
def asCompared (s : State) (p v : Nat) : Int :=
  if s.flag (ACQ_PSEL_SIGNED p) then signed (if s.f (ACQ_PSEL_WIDTH p) = 0 then 32 else 16) v else v
/-- A limit of 32 bits as it compares with a probe. -/
def limitOf (s : State) (p : Nat) (w : Word) : Int := if s.flag (ACQ_PSEL_SIGNED p) then w.toInt else w.toNat

-- ===== blocks (R497, R498) =====

/-- A closed block goes into the SRAM ring, or is staged into HQ9, where a refusal drops it (R505). -/
def putBlock (s : State) (b : AcqBlock) : State :=
  if s.streams then
    let r := s.offerOr 9 ⟨8192, .block b.seq⟩
    if r.2 then r.1.modAcq (fun x => { x with staged := x.staged ++ [b], seq := b.seq + 1 })
    else
      let n := b.lost + b.frames.length * s.acqDec
      let s1 := ((r.1.bump ACQ_CNT_GAP).hit ACQ_STAT_GAP).modAcq (fun x => { x with lost := x.lost + n, dropped := true })
      if s.acq.dropped then s1 else s1.raise (mkFault srcACQ 0x8B cINFO 0 [.val n])
  else
    let i := b.seq % 1024
    let s1 := s.modAcq (fun x => { x with sram := assocSet i b x.sram, seq := b.seq + 1 })
    (s1.wrN ACQ_HEAD_BLK i).wrN ACQ_OLD_BLK (if b.seq < 1024 then 0 else (b.seq + 1) % 1024)

/-- The block in progress closes. -/
def closeBlock (s : State) (last : Bool) : State :=
  match s.acq.cur with
  | none => s
  | some b => (s.modAcq (fun x => { x with cur := none })).putBlock { b with flags := b.flags ||| (if last then 4 else 0) }

/-- The capture ends in a state; the last block closes with LAST. -/
def endCapture (s : State) (st : Nat) : State :=
  (((s.closeBlock true).setF ACQ_STAT_STATE st).msix 3).modAcq (fun x => { x with next := none })

/-- A block for the next frame. -/
def openBlock (s : State) : State :=
  match s.acq.cur with
  | some _ => s
  | none =>
    let gap := decide (0 < s.acq.lost)
    let b : AcqBlock := { seq := s.acq.seq, flags := b2n gap + 8 * s.f ACQ_CFG_MINMAX, first := s.acq.ivFirst, lost := s.acq.lost }
    s.modAcq (fun x => { x with cur := some b, lost := 0 })

/-- Values packed in channel order (R496). -/
def packValues (s : State) (vs : List Nat) : List Byte :=
  (vs.mapIdx (fun p v => natLE (if s.f (ACQ_PSEL_WIDTH p) = 0 then 4 else 2) v)).flatten

/-- The frame of the interval, padded; with MINMAX the minima of all probes stand before the maxima (R496). -/
def frameBytes (s : State) : List Byte :=
  ((if s.flag ACQ_CFG_MINMAX then s.packValues s.acq.mins ++ s.packValues s.acq.maxs else s.packValues s.acq.last) ++ [0, 0, 0]).take s.frameLen

/-- The next block's place in the ring holds the trigger frame: the capture is cut there (R500). -/
def ringFull (s : State) : Bool :=
  s.acq.cur.isNone && (match s.acq.trigBlk with
    | some b => decide (b < s.acq.seq) && (s.acq.seq - b) % max 1 s.acqBlocks == 0
    | none => false)

/-- The interval's frame is stored (R496, R500): the trigger frame is marked, POST counted, a full block closed. -/
def storeFrame (s : State) : State :=
  if s.ringFull then (s.endCapture aqDONE).setF ACQ_STAT_TRUNC 1
  else
    let s1 := s.openBlock
    let trig := s.acq.trigDue
    let after : Bool := s.acq.trig.isSome && !trig
    let s2 := s1.modAcq (fun x =>
      { x with cur := x.cur.map (fun (b : AcqBlock) => { b with
                 frames := b.frames ++ [s.frameBytes], flags := b.flags ||| (if trig then 2 else 0),
                 trigFr := if trig then b.frames.length else b.trigFr }),
               trigBlk := if trig then x.cur.map (fun (b : AcqBlock) => b.seq) else x.trigBlk,
               trigDue := false, stored := x.stored + 1, post := if after then x.post + 1 else x.post, ivLen := 0 })
    if s2.acq.trig.isSome ∧ s2.rdN ACQ_POST ≤ s2.acq.post ∧ s2.acqState = aqTRIGGERED then s2.endCapture aqDONE
    else if (match s2.acq.cur with | some b => decide (s2.framesPerBlock ≤ b.frames.length) | none => false) then s2.closeBlock false
    else s2

-- ===== a raw sample (R496, R501 to R503) =====

/-- The interval takes the sample's values. -/
def addSample (s : State) (vs : List Nat) : State :=
  s.modAcq (fun x =>
    let fresh : Bool := x.ivLen == 0
    let pick := fun (keep : Int → Int → Bool) (old : List Nat) =>
      vs.mapIdx (fun p v => if fresh then v else if keep (s.asCompared p (old.getD p 0)) (s.asCompared p v) then old.getD p 0 else v)
    { x with ivFirst := if fresh then x.idx else x.ivFirst, ivLen := x.ivLen + 1, last := vs,
             mins := pick (fun a b => a ≤ b) x.mins, maxs := pick (fun a b => b ≤ a) x.maxs })

/-- Condition Tn on its probe's value (R502): whether it holds, and whether its far side has been seen after the sample. -/
def condition (s : State) (vs : List Nat) (n : Nat) : Bool × Bool :=
  let cfg := s.rdN (ACQ_TC_CFG n)
  let p := cfg / 8 % 128
  let raw := if p < s.nprobe then vs.getD p 0 else s.probe p
  let v := s.asCompared p raw
  let l1 := s.limitOf p (s.rd (ACQ_TC_L1 n))
  let l2 := s.limitOf p (s.rd (ACQ_TC_L2 n))
  let h : Int := s.rdN (ACQ_TC_HYST n)
  let seen := s.acq.beyond.getD n false
  match cfg % 8 with
  | 1 => (decide (l1 < v), seen)
  | 2 => (decide (v < l1), seen)
  | 3 => if l1 ≤ v ∧ seen then (true, false) else (false, seen || decide (v < l1 - h))
  | 4 => if v ≤ l1 ∧ seen then (true, false) else (false, seen || decide (l1 + h < v))
  | 5 => (decide (l1 ≤ v) && decide (v ≤ l2), seen)
  | 6 => (decide (v < l1) || decide (l2 < v), seen)
  | 7 => (raw &&& s.rdN (ACQ_TC_L2 n) == s.rdN (ACQ_TC_L1 n), seen)
  | _ => (false, seen)

/-- The point of the mask memory that a probe is tested against, if it is tested (R503). -/
def maskPoint (s : State) (p : Nat) : Option Nat :=
  if !s.flag (ACQ_MASK_EN p) then none
  else
    let base := s.f (ACQ_MASK_BASE p)
    let len := s.f (ACQ_MASK_LEN p)
    if s.flag (ACQ_MASK_ALIGN p) then some (base + s.mpos % 4294967296 * len / 4294967296)
    else match s.acq.trig with
      | some t => if s.acq.idx - t < len then some (base + (s.acq.idx - t)) else none
      | none => none

/-- A violation is counted; the first of the capture is recorded and raised (R503). -/
def violation (s : State) (p v : Nat) (lo hi : Word) : State :=
  let s1 := s.bump ACQ_CNT_VIOL
  if s.acq.violated then s1
  else
    ((s1.modAcq (fun x => { x with violated := true })).hit ACQ_STAT_VIOL).offerRec 0x601 1
        (natLE 2 p ++ natLE 2 0 ++ natLE 8 s.acq.idx ++ natLE 4 v ++ natLE 4 lo.toNat ++ natLE 4 hi.toNat)
      |>.raise (mkFault srcACQ 0x8C cMINOR 0 [.inst p])

/-- One probe is held against its mask where that has the alignment under test (R503); the flag says that one was
violated. -/
def testMask (angle : Bool) (vs : List Nat) (x : State × Bool) (p : Nat) : State × Bool :=
  if x.1.flag (ACQ_MASK_ALIGN p) != angle then x
  else match x.1.maskPoint p with
    | none => x
    | some i =>
      let lo := x.1.rd (0x78000 + 8 * i)
      let hi := x.1.rd (0x78004 + 8 * i)
      let v := x.1.asCompared p (vs.getD p 0)
      if v < x.1.limitOf p lo ∨ x.1.limitOf p hi < v then (x.1.violation p (vs.getD p 0) lo hi, true) else x

/-- The masks of one alignment are tested. -/
def testMasks (s : State) (angle : Bool) (vs : List Nat) : State × Bool :=
  (List.range s.nprobe).foldl (testMask angle vs) (s, false)

/-- Registers that a recorded trigger writes, with ACQ_TRIG whole (R501). -/
def trigRegs : List Nat := [ACQ_TRIG, ACQ_TRIG_IDX 0, ACQ_TRIG_IDX 1, ACQ_TRIG_NS, ACQ_TRIG_SEC 0, ACQ_TRIG_SEC 1, ACQ_TRIG_ANG]

/-- A trigger is recorded (R501). -/
def trigger (s : State) (src : Nat) : State :=
  let i := s.acq.idx
  let m := s.mpos % 4294967296
  let s1 := (((s.setF ACQ_TRIG_SRC src).wr2 ACQ_TRIG_IDX i).wrN ACQ_TRIG_NS s.time.now.ns).wr2 ACQ_TRIG_SEC s.time.now.sec
  let s2 := (((s1.wrN ACQ_TRIG_ANG m).setF ACQ_STAT_TRIGGERED 1).setF ACQ_STAT_STATE aqTRIGGERED).modAcq
    (fun x => { x with trig := some i, trigDue := true, undo := some (s.time.mono, trigRegs.map (fun a => (a, s.rd a))) })
  s2.offerRec 0x600 1 (natLE 2 src ++ natLE 2 0 ++ natLE 8 i ++ natLE 4 m)

/-- A block without its trigger frame. -/
def unmark (b : AcqBlock) : AcqBlock := { b with flags := b.flags &&& 0xFD, trigFr := 0xFFFF }

/-- A trigger of this SYS cycle is not recorded: STOP prevails (R506). -/
def unTrigger (s : State) : State :=
  match s.acq.undo with
  | some (t, ws) =>
    if t = s.time.mono then
      let s1 := ((s.wrAll ws).setF ACQ_STAT_TRIGGERED 0).withdraw 8 (fun (i : QItem) => match i.body with
        | .record r => r.code == 0x600 && r.time == s.time.now | _ => false)
      let put := fun (b : AcqBlock) => if s.acq.trigBlk = some b.seq then unmark b else b
      s1.modAcq (fun x => { x with trig := none, trigDue := false, trigBlk := none, post := 0, undo := none, cur := x.cur.map put,
                                   sram := x.sram.map (fun (e : Nat × AcqBlock) => (e.1, put e.2)), staged := x.staged.map put })
    else s
  | none => s

/-- An event noted before this SYS cycle: it belongs to a sample of this cycle (R26, R501). -/
def seenBefore (s : State) (x : Option (Nat × Nat)) : Bool :=
  match x with | some p => decide (p.1 < s.time.mono) | none => false

/-- What stays noted after a sample: an event of its own SYS cycle. -/
def stillNoted (s : State) (x : Option (Nat × Nat)) : Option (Nat × Nat) :=
  match x with | some p => if p.2 < s.time.mono then none else some (p.2, p.2) | none => none

/-- Sources true at a sample, as bits of ACQ_TRIG.EN. -/
def trueSources (s : State) (conds : List Bool) (mask : Bool) : Nat :=
  let bits := conds ++ [s.seenBefore s.acq.pendWheel, s.seenBefore s.acq.pendFault, s.seenBefore s.acq.pendForce, mask]
  (bits.mapIdx (fun i (b : Bool) => if b ∧ (s.f ACQ_TRIG_EN).testBit i then 2 ^ i else 0)).foldl (· + ·) 0

/-- The trigger frame of a sample whose interval was just stored: the last frame of the block in progress, or of the block
just closed (R506). -/
def markStored (s : State) : State :=
  match s.acq.cur with
  | some b =>
    s.modAcq (fun x => { x with trigDue := false, trigBlk := some b.seq,
                                cur := some { b with flags := b.flags ||| 2, trigFr := b.frames.length - 1 } })
  | none =>
    let put := fun (b : AcqBlock) => if b.seq + 1 = s.acq.seq then { b with flags := b.flags ||| 2, trigFr := b.frames.length - 1 } else b
    s.modAcq (fun x => { x with trigDue := false, trigBlk := some (x.seq - 1), sram := x.sram.map (fun (e : Nat × AcqBlock) => (e.1, put e.2)),
                                staged := x.staged.map put })

/-- The trigger decision of a sample whose conditions, angle masks and frame are done (R500, R501). stored: its interval has
just been stored. -/
def decideTrigger (s : State) (src : Nat) (stored : Bool) : State :=
  if s.acqState ≠ aqARMED ∨ src = 0 then s
  else if s.acq.stored < s.rdN ACQ_HOLDOFF then s.bumpBy ACQ_CNT_IGN (bitsOf 8 src).length
  else
    let s1 := s.trigger src
    if !stored then s1
    else
      let s2 := s1.markStored
      if s2.rdN ACQ_POST = 0 then s2.endCapture aqDONE else s2

/-- A violation with STOP_VIOL: the frame of the violating sample is the last stored, and the state is STOPPED, also where the
capture ends at that sample anyway (R500, R506). -/
def stopViolated (s : State) : State :=
  if s.acqOn then (if 0 < s.acq.ivLen then s.storeFrame else s).endCapture aqSTOPPED else s.setF ACQ_STAT_STATE aqSTOPPED

/-- A raw sample is taken (R496, R501 to R503). -/
def takeSample (s : State) : State :=
  let vs := (List.range s.nprobe).map s.probe
  let cs := (List.range 4).map (s.condition vs)
  let s1 := s.addSample vs
  let m := s1.testMasks true vs
  let src := m.1.trueSources (cs.map (·.1)) m.2
  let full := decide (m.1.acqDec ≤ m.1.acq.ivLen)
  let s2 := m.1.modAcq (fun x => { x with beyond := cs.map (·.2) })
  let s3 := (if full then s2.storeFrame else s2).decideTrigger src full
  let t := s3.testMasks false vs
  let s4 := t.1.modAcq (fun x => { x with pendWheel := s.stillNoted x.pendWheel, pendFault := s.stillNoted x.pendFault,
                                          pendForce := s.stillNoted x.pendForce })
  if s4.flag ACQ_CFG_STOP_VIOL ∧ (m.2 ∨ t.2) then s4.stopViolated else s4

/-- n raw samples are lost, and what the interval held with them (R498). -/
def loseSamples (s : State) (n : Nat) : State :=
  let s1 := (s.closeBlock false).hit ACQ_STAT_GAP
  s1.modAcq (fun x => { x with lost := x.lost + x.ivLen + n, ivLen := 0 })

/-- The instant of a raw sample: its boundary plus OFFSET LOOP cycles of 2.5 ns (R495). -/
def sampleAt (s : State) (b : Instant) : Instant := b + s.rdN ACQ_OFFSET * 5 * Config.nsUnits / 2

/-- The raw period (R495). -/
def rawPeriod (s : State) : Nat := s.rawStep * (Config.gridUnits / 2)

/-- The present SYS cycle is that of a raw sample (R495): how many instants have been passed over since the last one. -/
def sampleDue (s : State) : Option Nat :=
  match s.acq.next with
  | some b =>
    if s.acqOn ∧ mBARE ≤ s.mode ∧ s.sampleAt b ≤ s.time.now ∧ (s.time.now - s.sampleAt b) % s.rawPeriod < s.cycleInc then
      some ((s.time.now - s.sampleAt b) / s.rawPeriod)
    else none
  | none => none

end State

/-- ACQ_ARM (R499). -/
def execAcqArm (s : State) : Out :=
  let c := s.armCheck
  let s1 := s.setF ACQ_RES_CODE c
  .next (if !s.mapOpen then s else if c = 0 then s1.armAcq else s1)

/-- ACQ_STOP (R500, R506): the frame in progress is stored, and the capture ends; a trigger of this SYS cycle is not recorded. -/
def execAcqStop (s : State) : Out :=
  let s1 := s.unTrigger
  .next (if !s.mapOpen then s
  else if s.acqOn then (if 0 < s1.acq.ivLen then s1.storeFrame else s1).endCapture aqSTOPPED
  else if s1.acq.undo ≠ s.acq.undo then s1.setF ACQ_STAT_STATE aqSTOPPED
  else s)

/-- ACQ_FORCE (R501): the source FORCE of the next raw sample. -/
def execAcqForce (s : State) : Out :=
  .next (if s.mapOpen then s.modAcq (fun x => { x with pendForce := noted x.pendForce s.time.mono }) else s)

/-- ACQ_RAW_SAMPLE (R495, R498, R505): at its boundary plus OFFSET. Instants that have been passed over count as lost samples. -/
def execAcqRawSample (t : Nat) (s : State) : Out :=
  let s0 := s.runTo t
  .next (match s0.sampleDue with
    | some n =>
      let s1 := if n = 0 then s0 else (s0.loseSamples n).modAcq (fun x => { x with idx := x.idx + n })
      let s2 := if s1.flag ACQ_STAT_PAUSED then s1.loseSamples 1 else s1.takeSample
      s2.modAcq (fun x => { x with idx := x.idx + 1, next := x.next.map (fun b => b + (n + 1) * s0.rawPeriod) })
    | none => s0)

/-- STREAM_BLOCK_WRITE (R497): the DRAM stream writer takes the oldest block of HQ9 into the region's ring. -/
def execStreamBlockWrite (s : State) : Out :=
  .next (match s.take 9, s.acq.staged with
    | some (_, s1), b :: bs =>
      let n := max 1 (8 * (s.rdN ACQ_DSIZE % 32768))
      let i := b.seq % n
      let s2 := s1.modAcq (fun x => { x with staged := bs, dram := assocSet i b x.dram })
      (s2.wrN ACQ_HEAD_BLK i).wrN ACQ_OLD_BLK (if b.seq < n then 0 else (b.seq + 1) % n)
    | _, _ => s)

end Sys2Proof.Machine
end

