-- ==== Sys2Proof/Machine/Host.lean ====
section
/-! DEFINITION. The host interface (chapter 22): the command rings, admission at HQ5, the device classes, writing slots, the
security engine, and the PCIe reset. -/

namespace Sys2Proof

/-- What the function's configuration space shows (R527): device ID and class code; its vendor ID is that of OTP, which the spec does
not state. -/
def pcieDeviceId : Nat := 0x1296
def pcieClassCode : Nat := 0x118000
def pcieVendorId : Nat := Config.unstated 32 0 % 65536

/-- Slots of flash whose header says where an image is: bytes of a slot (R53, R87). -/
def slotSize (slot : Nat) : Nat := if slot < 8 then 0x600000 else 0x400000

/-- MAGIC of a slot's kind (R47, R534); the boot image's is not stated. -/
def slotMagic (slot : Nat) : Nat := if slot < 8 then 0x4C4F414B else Config.unstated 21 0 % 4294967296

/-- RESULT codes beside those of an image's checks (CFG_ERR, R538). -/
def rLIMIT : Nat := 0x0C
def rMODE : Nat := 0x10
def rSLOT_IN_USE : Nat := 0x17
def rNONCE : Nat := 0x19
def rOTP_FULL : Nat := 0x1A
def rLAST_KEY : Nat := 0x1B
def rLC_ORDER : Nat := 0x1C

/-- A device class (R532). -/
def deviceClass (c : Nat) : Bool := 1 ≤ c && c ≤ 10

/-- Credits of a device class. -/
def deviceCredits (c : Nat) : Nat := if c ≤ 3 then 64 else 1

/-- Service bound of a device class in μs. -/
def deviceBound (c : Nat) : Nat :=
  if c = 4 ∨ c = 5 then 40000000 else if c = 6 ∨ c = 10 then 50000 else if c = 7 then 2000000 else 100

/-- n bytes of a list from an offset on, as a number. -/
def bytesNat (b : List Byte) (off n : Nat) : Nat := leNat ((b.drop off).take n)

end Sys2Proof

namespace Sys2Proof.Machine
namespace State

/-- The revision ID of the function (R527). -/
def pcieRevision (s : State) : Nat := s.f SYS_ID_STEP

def modHost (s : State) (g : HostState → HostState) : State := { s with host := g s.host }

-- ===== fetching (R531) =====

/-- A host endpoint that fetches: from BARE onwards, outside recovery, with both rings enabled. -/
def hostLive (s : State) : Bool := mBARE ≤ s.mode && !s.sys.recovery && s.flag HQ_HC_CFG_EN && s.flag HQ_CQ_CFG_EN

/-- A free entry of the completion ring and a cell of HQ6 can be reserved. One entry of a ring stays free, so that equal
indices mean an empty ring. -/
def canReserve (s : State) : Bool := s.cqUsed + s.host.opened.length + 1 < s.cqSize && (s.queue 6).fits s.hq.pool 1

/-- A command waits in the ring. -/
def hcWaits (s : State) : Bool := s.f HQ_HC_HEAD_INDEX != s.f HQ_HC_TAIL_INDEX

/-- The head moves on, a cell of HQ6 is held, and the command is open. -/
def reserve (s : State) (c : HostCmd) : State × Nat :=
  let n := 2 ^ s.f HQ_HC_CFG_LOG2
  let id := s.sched.nextId
  let p := (s.queue 6).split 1
  let s1 := s.setF HQ_HC_HEAD_INDEX ((s.f HQ_HC_HEAD_INDEX + 1) % n)
  let s2 := { s1 with hq := { q := s1.hq.q.modify 6 (fun q => { q with resUsed := q.resUsed + p.1, shUsed := q.shUsed + p.2 })
                              pool := s1.hq.pool - p.2 },
                      sched := { s1.sched with nextId := id + 1 } }.markHigh 6
  (s2.modHost (fun x => { x with opened := x.opened ++ [HostOpen.mk id c.cls c.tag false] }), id)

/-- A completion that an event core put into HQ6 is written while the ring has a free entry that no command reserves. Fuel:
one an entry. -/
def drainHq6 (s : State) : Nat → State
  | 0 => s
  | k + 1 =>
    if s.flag HQ_CQ_CFG_EN ∧ s.cqUsed + s.host.opened.length + 1 < s.cqSize then
      match s.take 6 with
      | some (⟨_, .completion c⟩, s1) => drainHq6 (s1.writeCq c) k
      | some (_, s1) => drainHq6 s1 k
      | none => s
    else s

/-- Every completion that waits in HQ6 and finds an entry is written. -/
def drainCq (s : State) : State := s.drainHq6 (s.queue 6).items.length

-- ===== admission at HQ5 (R533, R586) =====

/-- The HANDLERS entry of a handler class: route, credits and service bound. -/
def hostClass (s : State) (c : Nat) : Option (Route × Nat × Nat) :=
  if c < 16 then none else s.st.hostClasses.find? (fun (x : Route × Nat × Nat) => x.1.code == c)

/-- The class is accepted in the present mode (R586). -/
def classMode (s : State) (c : Nat) : Bool :=
  !(s.mode == mFAULT && s.flag SYS_MODE_HOLD) &&
    (if c = 7 ∨ c = 8 ∨ c = 9 ∨ c = 10 then mBARE ≤ s.mode
     else if c = 6 then s.inMode [mBARE, mCOMMISSION, mSAFE_HOLD, mFAULT]
     else if c < 16 then mBARE ≤ s.mode && s.mode != mCOLD_STANDBY
     else s.inMode [mCOMMISSION, mRUN, mCHANGEOVER, mSAFE_HOLD, mTAKEOVER, mFAULT])

/-- A segment or an insertion whose own admission refuses it for the mode (R190, R123). -/
def ownMode (s : State) (c : HostCmd) : Bool :=
  if c.cls = 1 then
    let g := Segment.ofBytes c.payload
    if h : g.axis < 96 then s.segCheck ⟨g.axis, h⟩ g == admMODE else false
  else if c.cls = 2 then s.insertCheck (Descriptor.ofBytes c.payload) == admMODE
  else false

/-- PLEN, or ILEN when INDIRECT is set, lies within the class's range (R530). -/
def lenOk (c : HostCmd) : Bool :=
  if c.flags.testBit 0 then c.plen == 0 && c.ilen ≤ (if 4 ≤ c.cls ∧ c.cls ≤ 10 then 16777216 else 9152) else c.plen ≤ 104

/-- Credits and service bound of a class. -/
def classTerms (s : State) (c : Nat) : Nat × Nat :=
  match s.hostClass c with | some (_, k, b) => (k, b) | none => (deviceCredits c, deviceBound c)

/-- Open commands of a class. -/
def openOf (s : State) (c : Nat) : Nat := (s.host.opened.filter (fun (x : HostOpen) => x.cls == c)).length

/-- The command as work at HQ5; a handler class has its route. -/
def hostWork (s : State) (c : HostCmd) (id : Nat) : Work :=
  let r := match s.hostClass c.cls with | some (r, _, _) => r | none => ⟨c.cls, 0, 0, 0⟩
  { src := 5, handler := r.handler, key := r.key, group := r.group, payload := c.payload, entry := s.time.now, late := false,
    cls := c.cls, tag := c.tag, arg := c.arg, addr := c.addr, flags := c.flags, id := id }

/-- The checks of R533 before the credits, in table order. -/
def hostCheck (s : State) (c : HostCmd) : Nat :=
  if !deviceClass c.cls ∧ (s.hostClass c.cls).isNone then admSTRUCTURE
  else if !s.classMode c.cls ∨ s.ownMode c then admMODE
  else if c.deadline ≠ 0 ∧ c.deadline < (s.classTerms c.cls).2 then admLATE
  else if !lenOk c then admBUDGET
  else admOK

/-- A fetched command is admitted at HQ5 or its completion carries the refusal (R41, R44, R533). A handler class joins the
ready list of its group (R143). -/
def hostAdmit (s : State) (c : HostCmd) (id : Nat) : State :=
  let code := s.hostCheck c
  let refuse := fun (s : State) (code : Nat) => s.complete id ⟨c.tag, code, 0, 0⟩
  if code ≠ admOK then
    let s1 := if code = admMODE ∧ s.ownMode c then
        (if c.cls = 1 then (s.admitSegment (Segment.ofBytes c.payload) 1).1 else s.bump WHEEL_CNT_REF) else s
    refuse s1 code
  else if (s.classTerms c.cls).1 < s.openOf c.cls then refuse (s.bump (HQ_CNT_REF 5)) admFULL
  else
    let w := s.hostWork c id
    let p := s.offerOr 5 ⟨64 + c.payload.length, .work w⟩
    if !p.2 then refuse p.1 admFULL
    else if deviceClass c.cls then p.1
    else p.1.placeWork w

/-- The oldest command of a class that is queued at HQ5. -/
def hostNext (s : State) (cls : Nat) : Option Work :=
  (s.queue 5).items.findSome? (fun (i : QItem) => match i.body with
    | .work w => if w.cls = cls then some w else none
    | _ => none)

/-- A command's own completion. -/
def answer (s : State) (w : Work) (adm result value : Nat) : State := s.complete w.id ⟨w.tag, adm, result, value⟩

-- ===== slots (R534) =====

/-- The slot may not be written: the running boot slot, or the running or shadow Kaolin slot. -/
def slotBusy (s : State) (slot : Nat) : Bool :=
  slot == 8 + s.f SYS_START_STAT_BOOT_B ||
    (match s.cfg.run with | some i => i.slot == slot | none => false) || (match s.cfg.shadow with | some i => i.slot == slot | none => false)

/-- The directory's entry of a slot, and the offset at which its writing goes on. -/
def setSlot (s : State) (slot : Nat) (e : Option DirEntry) (w : Option Nat) : State :=
  if h : slot < 10 then { s with nv := { s.nv with dir := s.nv.dir.set ⟨slot, h⟩ e, writing := s.nv.writing.set ⟨slot, h⟩ w } } else s

/-- Erased flash reads 0xFF. -/
def eraseFlash (s : State) (a n : Nat) : State :=
  { s with nv := { s.nv with flash := s.nv.flash.filter (fun (p : Nat × Byte) => !(a ≤ p.1 && p.1 < a + n)) } }

/-- Bytes are programmed into flash. -/
def progFlash (s : State) (a : Nat) (bs : List Byte) : State :=
  { s with nv := { s.nv with flash := s.nv.flash.setMany 0xFF a bs } }

/-- The offset at which the writing of a slot goes on, none before its first write. -/
def slotNext (s : State) (slot : Nat) : Option Nat := (s.nv.writing.get? slot).bind id

/-- Why a SLOT_WRITE is turned away at its start; 0 where it begins. A slot beyond 9 does not exist: its code is not stated. -/
def slotCheck (s : State) (slot off len : Nat) : Nat :=
  if 10 ≤ slot then 1 + Config.unstated 20 slot % 255
  else if s.slotBusy slot then rSLOT_IN_USE
  else if (s.slotNext slot).any (· != off) ∨ slotSize slot < off + len then 2
  else 0

/-- The SLOT_WRITTEN record (R548). -/
def slotRecord (s : State) (slot result : Nat) : State :=
  let e := (s.nv.dir.get? slot).bind id
  s.offerRec 0x33 3 (natLE 1 slot ++ natLE 1 result ++ natLE 2 0 ++ natLE 4 (match e with | some d => d.len | none => 0)
    ++ natLE 4 (match e with | some d => beNat (d.hash.drop 44) | none => 0))

/-- A SLOT_WRITE starts: the first one erases the slot and marks it empty (R534). -/
def slotStart (s : State) (w : Work) (bytes : List Byte) : State :=
  let slot := w.arg % 16
  let off := 16 * (w.arg / 16 % 134217728)
  let code := s.slotCheck slot off bytes.length
  if code ≠ 0 then (s.answer w admOK code 0).slotRecord slot code
  else
    let s1 := if (s.slotNext slot).isNone then (s.eraseFlash (slotBase slot) (slotSize slot)).setSlot slot none (some off) else s
    s1.modHost (fun x => { x with slotJob := some { w := w, slot := slot, off := off, last := w.arg.testBit 31, bytes := bytes } })

/-- A SLOT_WRITE ends: programmed, and with LAST the directory records the image, or the slot stays empty with FORMAT. -/
def slotEnd (s : State) (j : SlotJob) (ok : Bool) : State :=
  let s0 := s.modHost (fun x => { x with slotJob := none })
  if !ok then ((s0.setSlot j.slot none none).answer j.w admOK 2 0).slotRecord j.slot 2
  else
    let s1 := s0.progFlash (slotBase j.slot + j.off) j.bytes
    if !j.last then ((s1.setSlot j.slot none (some (j.off + j.bytes.length))).answer j.w admOK 0 j.bytes.length).slotRecord j.slot 0
    else if s1.img j.slot 0 4 = slotMagic j.slot then
      let e : DirEntry := { len := s1.img j.slot 8 4, hash := s1.nv.flash.getMany 0xFF (slotBase j.slot + 0x40) 48 }
      ((s1.setSlot j.slot (some e) none).answer j.w admOK 0 j.bytes.length).slotRecord j.slot 0
    else ((s1.setSlot j.slot none none).answer j.w admOK 2 0).slotRecord j.slot 2

-- ===== the security engine (R535 to R540, R547) =====

/-- The nonce and the challenge in force. -/
def nonceNow (s : State) : Nat := (Config.randomWord (8 * s.sys.nonceAt)).toNat + 4294967296 * (Config.randomWord (8 * s.sys.nonceAt + 1)).toNat
def chalNow (s : State) : Nat :=
  ((List.range 8).map (fun w => (Config.randomWord (8 * s.sys.chalAt + w)).toNat * 2 ^ (32 * w))).foldl (· + ·) 0

/-- The nonce takes a fresh random value (R537). -/
def freshNonce (s : State) : State := { s with sys := { s.sys with nonceAt := s.free } }.bumpFree

/-- The challenge takes a fresh random value (R547). -/
def freshChal (s : State) : State := { s with sys := { s.sys with chalAt := s.free } }.bumpFree

/-- A job waits for the engine, which shows BUSY. -/
def secStart (s : State) (j : SecJob) : State :=
  (s.modHost (fun x => { x with secJobs := x.secJobs ++ [j] })).setF CFG_SEC_STAT_BUSY 1

/-- Word 1 of a key slot. -/
def keyWord (s : State) (k : Nat) : Nat := s.rdN (CFG_SEC_KEY k 1)

/-- A key slot is programmed, not revoked, and of role IMAGE, counting a mask of slots as revoked. -/
def imageKey (s : State) (mask k : Nat) : Bool := s.keyWord k % 8 == 1 && !mask.testBit k

/-- Each algorithm keeps an unrevoked IMAGE key. -/
def keysRemain (s : State) (mask : Nat) : Bool :=
  (List.range 4).any (fun k => s.imageKey mask k) && (List.range 4).any (fun k => s.imageKey mask (4 + k))

/-- A key entry of a BODY (R537): KID, slot, ROLE and hash. -/
def keyEntry (b : List Byte) (i : Nat) : Nat × Nat × Nat × List Byte :=
  let e := b.drop (0x20 + 56 * i)
  (bytesNat e 0 4, bytesNat e 4 1, bytesNat e 5 1, (e.drop 8).take 48)

/-- A key slot is programmed (R535). -/
def progKey (s : State) (e : Nat × Nat × Nat × List Byte) : State :=
  let s1 := (s.wrN (CFG_SEC_KEY e.2.1 0) e.1).wrN (CFG_SEC_KEY e.2.1 1) (1 + 4 * (e.2.2.1 % 2))
  if h : e.2.1 < 8 then { s1 with nv := { s1.nv with keyHash := s1.nv.keyHash.set ⟨e.2.1, h⟩ e.2.2.2 } } else s1

/-- The entries name slots that exist, each once, unprogrammed. -/
def slotsFree (s : State) (es : List (Nat × Nat × Nat × List Byte)) : Bool :=
  es.all (fun e => e.2.1 < 8 && !(s.keyWord e.2.1).testBit 0) &&
    ((List.range 8).all (fun k => (es.filter (fun e => e.2.1 == k)).length ≤ 1))

/-- The operation's own condition (R538): 0 where it holds. The refusal code of SVN and of an operation that the table does
not have is not stated. -/
def opCheck (s : State) (b : List Byte) : Nat :=
  let op := bytesNat b 4 1
  let len := bytesNat b 6 2
  let arg := bytesNat b 0x18 8
  let es := (List.range (len / 56)).map (keyEntry b)
  if op = 1 then
    (if s.f SYS_LC_STATE = lcBLANK ∧ len % 56 = 0 ∧ 1 ≤ es.length ∧ es.length ≤ 8 ∧ s.slotsFree es
        ∧ es.any (fun e => e.2.1 < 4 && e.2.2.1 == 0) ∧ es.any (fun e => 4 ≤ e.2.1 && e.2.2.1 == 0) then 0 else rLIMIT)
  else if op = 2 then (if len = 56 ∧ s.slotsFree es then 0 else rLIMIT)
  else if op = 3 then (if s.keysRemain (arg % 256) then 0 else rLAST_KEY)
  else if op = 4 then
    let top := match s.cfg.run with | some i => min i.svn s.sys.bootSvn | none => s.sys.bootSvn
    (if arg ≤ s.otpSvn ∨ top < arg then 1 + Config.unstated 22 arg % 255
     else if 256 ≤ s.f CFG_SEC_STAT_SVN_ROWS then rOTP_FULL else 0)
  else if op = 5 then
    (if s.mode ≠ mBARE then rMODE else if arg % 8 ≤ s.f SYS_LC_STATE ∨ lcSCRAPPED < arg % 8 then rLC_ORDER else 0)
  else 1 + Config.unstated 25 op % 255

/-- The key identifiers of a signature block (R50). -/
def sigKeys (b : List Byte) (off : Nat) : Nat × Nat := (bytesNat b off 4, bytesNat b (off + 388) 4)

/-- A signed command is judged (R538): 0 where it is accepted. -/
def judgeCommand (s : State) (j : SecJob) : Nat :=
  let b := j.bytes
  let ids := sigKeys b (0x20 + bytesNat b 6 2)
  let k1 := s.keyCheck ids.1 0 0
  let k2 := s.keyCheck ids.2 1 0
  if bytesNat b 0 4 ≠ 0x444D4353 ∨ bytesNat b 8 6 ≠ s.nv.serial % 2 ^ 48 ∨ bytesNat b 0x10 8 ≠ s.nonceNow then rNONCE
  else if bytesNat b 4 1 = 1 then s.opCheck b
  else if k1 ≠ 0 then k1
  else if k2 ≠ 0 then k2
  else if !j.rsa then 5
  else if !j.slh then 6
  else s.opCheck b

/-- A life-cycle state is programmed and the module resets (R91); RETURNED and SCRAPPED destroy the identity keys (R540). -/
def toLife (s : State) (lc : Nat) : State :=
  let s1 := s.setF SYS_LC_STATE lc
  (if lcRETURNED ≤ lc then s1.setF CFG_SEC_STAT_ID_KEYS 0 else s1).toReset rcLIFECYCLE

/-- The effect of an accepted operation beside a change of the life cycle (R535, R536, R538). -/
def opEffect (s : State) (b : List Byte) : State :=
  let op := bytesNat b 4 1
  let arg := bytesNat b 0x18 8
  let es := (List.range (bytesNat b 6 2 / 56)).map (keyEntry b)
  if op = 1 then
    ((((es.foldl (fun (s : State) e => s.progKey e) s).setF CFG_SEC_STAT_ID_KEYS 1).setF CFG_SEC_STAT_SVN_ROWS 1).wr2 CFG_SEC_SVN 0)
  else if op = 2 then es.foldl (fun (s : State) e => s.progKey e) s
  else if op = 3 then
    (List.range 8).foldl (fun (s : State) k => if arg.testBit k then s.wrN (CFG_SEC_KEY k 1) (s.keyWord k ||| 2) else s) s
  else if op = 4 then (s.wr2 CFG_SEC_SVN arg).setF CFG_SEC_STAT_SVN_ROWS (s.f CFG_SEC_STAT_SVN_ROWS + 1)
  else s

/-- The life-cycle state that an accepted operation leads to. -/
def opLife (b : List Byte) : Option Nat :=
  let op := bytesNat b 4 1
  if op = 1 then some lcPROVISIONED else if op = 5 then some (bytesNat b 0x18 8 % 8) else none

/-- A command's result stands in CFG_SEC_STAT, with DONE. -/
def secResult (s : State) (code : Nat) : State := (s.setF CFG_SEC_STAT_CODE code).hit CFG_SEC_STAT_DONE

/-- A job by a host command completes. -/
def secAnswer (s : State) (w : Option Work) (code value : Nat) : State :=
  match w with
  | some w => (s.secResult code).answer w admOK code value
  | none => s

/-- The end of a signed command (R538, R548). -/
def endCommand (s : State) (j : SecJob) : State :=
  let b := j.bytes
  let code := s.judgeCommand j
  let ids := if bytesNat b 4 1 = 1 then (0, 0) else sigKeys b (0x20 + bytesNat b 6 2)
  let s1 := if code = 0 then s.opEffect b else s
  let s2 := (s1.freshNonce.secAnswer j.w code 0).offerRec 0x32 3
    (natLE 1 (bytesNat b 4 1) ++ natLE 1 code ++ natLE 2 0 ++ natLE 8 (bytesNat b 0x18 8) ++ natLE 4 ids.1 ++ natLE 4 ids.2)
  match (if code = 0 then opLife b else none) with
  | some lc => s2.toLife lc
  | none => s2

-- ===== locking and tokens (R546 to R548) =====

/-- A halted core resumes: its handler's budget counts again from now (R542). -/
def resumeCore (s : State) (c : Fin 8) : State :=
  if (s.sched.cores.get c).halted then
    (s.modCore c (fun k => { k with halted := false, since := s.time.mono })).setF ⟨DBG_STAT, 8 + c, 1⟩ 0
  else s

/-- Every halted target resumes (R546). -/
def resumeAll (s : State) : State :=
  let s1 := (List.finRange 8).foldl (fun (s : State) (c : Fin 8) => s.resumeCore c) s
  (((List.finRange 12).foldl (fun (s : State) c => s.resumeCluster c) s1).resumeWheel).showHalt

/-- Every breakpoint is disabled. -/
def dropBreaks (s : State) : State :=
  (List.range 56).foldl (fun (s : State) n => if s.rdN (DBG_BP n 1) % 2 = 0 then s else s.setF ⟨DBG_BP n 1, 0, 1⟩ 0) s

/-- Debug locks again where a token unlocked it, by a cause: 0 RELOCK, 1 expiry (R546, R548). -/
def relock (s : State) (cause : Nat) : State :=
  if !s.flag DBG_STAT_TOKEN then s
  else
    let s1 := (((s.resumeAll.dropBreaks).setF DBG_STAT_LOCKED 1).setF DBG_STAT_TOKEN 0).modHost
      (fun x => { x with tokenEnd := none, scope := 0 })
    s1.offerRec 0x31 3 (natLE 1 cause ++ natLE 3 0)

/-- A token is judged (R547): 0 where it is accepted. Debug stays closed in SCRAPPED. -/
def judgeToken (s : State) (j : SecJob) : Nat :=
  let b := j.bytes
  let ids := sigKeys b 256
  let k1 := s.keyCheck ids.1 0 1
  let k2 := s.keyCheck ids.2 1 1
  if s.f SYS_LC_STATE = lcSCRAPPED then rMODE
  else if bytesNat b 0 4 ≠ 0x4B4F5444 ∨ bytesNat b 4 6 ≠ s.nv.serial % 2 ^ 48 ∨ bytesNat b 12 32 ≠ s.chalNow then rNONCE
  else if k1 ≠ 0 then k1
  else if k2 ≠ 0 then k2
  else if !j.rsa then 5
  else if !j.slh then 6
  else 0

/-- The end of a token's judgement: in DEPLOYED it opens debug with its scope and expiry, in place of one in force. Nonce and
challenge take fresh values whatever the outcome (R537, R547). -/
def endToken (s : State) (j : SecJob) : State :=
  let b := j.bytes
  let code := s.judgeToken j
  let dur := bytesNat b 48 4
  let ids := sigKeys b 256
  let s1 := if code ≠ 0 then s.hit DBG_STAT_TOKEN_REF
    else if s.f SYS_LC_STATE = lcDEPLOYED then
      ((s.setF DBG_STAT_LOCKED 0).setF DBG_STAT_TOKEN 1).modHost (fun x =>
        { x with scope := bytesNat b 44 4, tokenEnd := if dur = 0 then none else some (s.time.mono + dur * 800000000) })
    else s
  (s1.freshNonce.freshChal.secAnswer j.w code 0).offerRec 0x30 3
    (natLE 1 code ++ natLE 1 (b2n j.w.isSome) ++ natLE 2 0 ++ natLE 4 (bytesNat b 44 4) ++ natLE 4 dur ++ natLE 4 ids.1 ++ natLE 4 ids.2)

-- ===== attestation (R539, R540) =====

/-- Bytes made exactly n long. -/
def exactly (n : Nat) (b : List Byte) : List Byte := (b ++ List.replicate n 0).take n

/-- The digest that the signatures of the running Kaolin image cover (R50): its bytes up to the signature block. -/
def imageDigest (s : State) (i : Image) : List Byte := sha384 (s.nv.flash.getMany 0xFF (slotBase i.slot) (s.sigOff i.slot))

/-- The quote (R539). -/
def quote (s : State) (nonce : List Byte) (q : QuoteParts) : List Byte :=
  let none384 := List.replicate 48 (0 : Byte)
  let code := natLE 2 (s.presentCode.getD 0)
  natLE 4 0x544F5551 ++ natLE 2 1 ++ natLE 1 (s.f SYS_LC_STATE) ++ natLE 1 s.mode ++ natLE 6 s.nv.serial ++ natLE 1 (s.f SYS_ID_STEP) ++ natLE 1 0
    ++ natLE 8 s.otpSvn ++ exactly 32 nonce ++ s.time.now.bytes ++ natLE 2 0 ++ exactly 48 q.mBoot
    ++ (match s.cfg.run with | some i => s.imageDigest i | none => none384) ++ (if s.safe.loaded then exactly 48 q.mSafety else none384)
    ++ code ++ natLE 1 (if s.safe.loaded then s.safe.set else 0xFF) ++ natLE 5 0 ++ sha384 code
    ++ exactly 384 q.sigRsa ++ exactly 16224 q.sigSlh

/-- The end of ATTEST: the bytes are written at DATA_ADDR; without identity keys it completes with MODE. -/
def endAttest (s : State) (j : SecJob) : State :=
  match j.w with
  | some w =>
    if s.flag CFG_SEC_STAT_ID_KEYS then (s.hostWrite w.addr j.bytes).secAnswer j.w 0 j.bytes.length else s.secAnswer j.w rMODE 0
  | none => s

/-- The engine's oldest job ends. -/
def secEnd (s : State) : State :=
  match s.host.secJobs with
  | [] => s
  | j :: js =>
    let s1 := (s.modHost (fun x => { x with secJobs := js })).setB CFG_SEC_STAT_BUSY (!js.isEmpty)
    if j.kind = 0 then s1.endCommand j else if j.kind = 1 then s1.endAttest j else s1.endToken j

/-- A SECURE command goes to the engine: the oldest one at HQ5, if it names the operation. A command that names no operation
of the table goes with any. -/
def secureGo (s : State) (op : Nat) (bytes : List Byte) (rsa slh : Bool) : State :=
  match s.hostNext 6 with
  | some w =>
    let o := bytesNat bytes 4 1
    if o = op ∨ o = 0 ∨ 5 < o then (s.unqueue w).secStart { kind := 0, w := some w, bytes := bytes, rsa := rsa, slh := slh } else s
  | none => s

-- ===== rings =====

/-- A ring-size register (HQ_HC_CFG, HQ_CQ_CFG) is written: LOG2 only while EN is 0 and only with 4 to 12; EN = 1 only with a
valid size; clearing EN resets both indices. -/
def ringCfg (s : State) (cq : Bool) (v : Nat) : State :=
  let log := if cq then HQ_CQ_CFG_LOG2 else HQ_HC_CFG_LOG2
  let en := if cq then HQ_CQ_CFG_EN else HQ_HC_CFG_EN
  let on := v.testBit 4
  let size := v % 16
  let s1 := if !s.flag en ∧ 4 ≤ size ∧ size ≤ 12 then s.setF log size else s
  if on then (if 4 ≤ s1.f log then s1.setF en 1 else s1)
  else
    let s2 := s1.setF en 0
    if cq then { (s2.setF HQ_CQ_TAIL_INDEX 0).setF HQ_CQ_HEAD_INDEX 0 with host := { s2.host with wraps := 0 } }
    else (s2.setF HQ_HC_TAIL_INDEX 0).setF HQ_HC_HEAD_INDEX 0

/-- The PCIe endpoint is reset (R80, R549): its rings return to their Reset columns, and the completions of what is open will
be dropped. -/
def pcieReset (s : State) : State :=
  let s1 := s.wrAll [(HQ_HC_BASE 0, 0), (HQ_HC_BASE 1, 0), (HQ_CQ_BASE 0, 0), (HQ_CQ_BASE 1, 0), (HQ_HC_CFG, 0), (HQ_CQ_CFG, 0),
    (HQ_HC_TAIL, 0), (HQ_HC_HEAD, 0), (HQ_CQ_TAIL, 0), (HQ_CQ_HEAD, 0)]
  s1.modHost (fun x => { x with opened := x.opened.map (fun (o : HostOpen) => { o with drop := true }), wraps := 0 })

/-- The write of HQ_HC_TAIL. -/
def doorbell (s : State) (v : Nat) : State := (s.setF HQ_HC_TAIL_INDEX v).drainCq

-- ===== cores' puts (R138, R149) =====

/-- An OUT segment of a ring's layout with room for the bytes (R44): 0 where the put is admitted. -/
def ringPut (s : State) (r : Fin 2) (seg off len : Nat) : Nat :=
  match (allSegs (s.ringDef r)).find? (fun (g : RSeg) => g.idx == seg && g.kind == 1) with
  | none => admSTRUCTURE
  | some g => if g.len - 4 < off + len then admBUDGET else admOK

/-- An offer with its admission code. -/
def offerCode (s : State) (n : Fin 16) (i : QItem) : State × Nat :=
  let p := s.offerOr n i
  (p.1, if p.2 then admOK else admFULL)

/-- An event core's item is offered to the queue it names; an item that is not of the queue's kind names no target of it. -/
def corePut (s : State) (queue len : Nat) (b : Body) : State × Nat :=
  if !([0, 1, 6, 8, 12, 14].contains queue) then (s, admSTRUCTURE)
  else if len = 0 ∨ 9216 < len then (s, admBUDGET)
  else match b with
    | .staged r seg off bs _ =>
      if h : r < 2 then
        if queue ≠ r then (s, admSTRUCTURE)
        else
          let c := s.ringPut ⟨r, h⟩ seg off bs.length
          if c ≠ admOK then (s, c) else s.offerCode (hqOf ⟨r, h⟩) ⟨len, .staged r seg off bs s.time.mono⟩
      else (s, admSTRUCTURE)
    | .svc r m =>
      if h : r < 2 then
        if queue ≠ r ∨ m.type < 16 then (s, admSTRUCTURE) else s.offerCode (hqOf ⟨r, h⟩) ⟨len, b⟩
      else (s, admSTRUCTURE)
    | .completion _ =>
      if queue ≠ 6 then (s, admSTRUCTURE)
      else
        let p := s.offerCode 6 ⟨len, b⟩
        (p.1.drainCq, p.2)
    | .record r => if queue ≠ 8 then (s, admSTRUCTURE) else s.recOffer true { r with time := s.time.now, firmware := true }
    | .segment g _ _ => if queue ≠ 12 then (s, admSTRUCTURE) else s.admitSegment g 0
    | .frame port _ => if queue ≠ 14 ∨ 2 ≤ port then (s, admSTRUCTURE) else s.offerCode 14 ⟨len, b⟩
    | _ => (s, admSTRUCTURE)

end State

/-- PCIE_RESET (R80, R549). -/
def execPcieReset (s : State) : Out := .next s.pcieReset

/-- CORE_PUT (R41, R138, R149, R150): a put of the handler that runs on core c, whose result word answers. -/
def execCorePut (c : Fin 8) (queue len : Nat) (b : Body) (s : State) : Out :=
  let p := s.corePut queue len b
  .next (if s.busy c ∧ !(s.sched.cores.get c).halted then p.1.setResult c p.2 0 else s)

/-- DOORBELL (R531). -/
def execDoorbell (value : Word) (s : State) : Out := .next (if s.mapOpen then s.doorbell value.toNat else s)

/-- HOST_RING_CFG (R531): HQ_HC_CFG, or HQ_CQ_CFG. -/
def execHostRingCfg (cq : Bool) (value : Word) (s : State) : Out :=
  .next (if s.mapOpen then (s.ringCfg cq value.toNat).drainCq else s)

/-- COMMAND_FETCH (R530, R531, R533, R586): the entry at the head is fetched once a completion entry and a cell of HQ6 are
reserved, and is admitted at HQ5 or refused. -/
def execCommandFetch (c : HostCmd) (s : State) : Out :=
  let s0 := s.drainCq
  .next (if s0.hostLive ∧ s0.hcWaits ∧ s0.canReserve then
    let p := s0.reserve c
    p.1.hostAdmit c p.2
  else s0)

/-- HOST_SEGMENT (R532): the oldest SEGMENT at HQ5 is offered to HQ12; the completion carries the outcome in ADM (R533). -/
def execHostSegment (s : State) : Out :=
  .next (match s.hostNext 1 with
    | some w =>
      let p := (s.unqueue w).admitSegment (Segment.ofBytes w.payload) 1
      p.1.answer w p.2 0 0
    | none => s)

/-- HOST_WHEEL_INS (R123, R532, R588). -/
def execHostWheelIns (s : State) : Out :=
  .next (match s.hostNext 2 with
    | some w =>
      let p := (s.unqueue w).insert false (Descriptor.ofBytes w.payload)
      p.1.answer w p.2.1 0 p.2.2
    | none => s)

/-- HOST_WHEEL_CANCEL (R124, R532). -/
def execHostWheelCancel (s : State) : Out :=
  .next (match s.hostNext 3 with
    | some w =>
      let p := (s.unqueue w).cancel w.arg
      p.1.answer w p.2 0 0
    | none => s)

/-- SLOT_WRITE (R53, R534): the oldest one at HQ5 starts; bytes is its payload. -/
def execSlotWrite (bytes : List Byte) (s : State) : Out :=
  .next (match s.hostNext 4 with
    | some w => if s.host.slotJob.isSome then s else (s.unqueue w).slotStart w bytes
    | none => s)

/-- SLOT_WRITE_DONE (R534, R548): erase and programming have ended, or the transfer has failed. -/
def execSlotWriteDone (ok : Bool) (s : State) : Out :=
  .next (match s.host.slotJob with
    | some j => s.slotEnd j ok
    | none => s)

/-- SLOT_ERASE (R532, R534). -/
def execSlotErase (s : State) : Out :=
  .next (match s.hostNext 5 with
    | some w =>
      let slot := w.arg % 16
      let code := s.slotCheck slot ((s.slotNext slot).getD 0) 0
      let s1 := s.unqueue w
      if code ≠ 0 then s1.answer w admOK code 0
      else ((s1.eraseFlash (slotBase slot) (slotSize slot)).setSlot slot none none).answer w admOK 0 0
    | none => s)

/-- SECURE_PROVISION (R537, R538, R540): the signed command goes to the engine. -/
def execSecureProvision (bytes : List Byte) (s : State) : Out := .next (s.secureGo 1 bytes false false)

/-- SECURE_ADD_KEY (R537, R538). -/
def execSecureAddKey (bytes : List Byte) (rsa slh : Bool) (s : State) : Out := .next (s.secureGo 2 bytes rsa slh)

/-- SECURE_REVOKE (R537, R538). -/
def execSecureRevoke (bytes : List Byte) (rsa slh : Bool) (s : State) : Out := .next (s.secureGo 3 bytes rsa slh)

/-- SECURE_SVN (R536 to R538). -/
def execSecureSvn (bytes : List Byte) (rsa slh : Bool) (s : State) : Out := .next (s.secureGo 4 bytes rsa slh)

/-- SECURE_LIFECYCLE (R91, R537, R538). -/
def execSecureLifecycle (bytes : List Byte) (rsa slh : Bool) (s : State) : Out := .next (s.secureGo 5 bytes rsa slh)

/-- SECURITY_ENGINE_DONE (R537 to R539, R547): the oldest job ends. -/
def execSecurityEngineDone (s : State) : Out := .next s.secEnd

/-- ATTEST (R539, R540): the signing of a quote starts, or the identity public keys are fetched. -/
def execAttest (q : QuoteParts) (s : State) : Out :=
  .next (match s.hostNext 7 with
    | some w =>
      let bytes := if w.arg.testBit 0 then State.exactly 436 q.keys else s.quote w.payload q
      (s.unqueue w).secStart { kind := 1, w := some w, bytes := bytes, rsa := true, slh := true }
    | none => s)

/-- DBG_TOKEN (R547): the token of the oldest DBG_TOKEN at HQ5 goes to the engine. -/
def execDbgToken (bytes : List Byte) (rsa slh : Bool) (s : State) : Out :=
  .next (match s.hostNext 10 with
    | some w => (s.unqueue w).secStart { kind := 2, w := some w, bytes := bytes, rsa := rsa, slh := slh }
    | none => s)

/-- HOST_CANCEL (R151, R589). -/
def execHostCancel (s : State) : Out :=
  .next (match s.hostNext 8 with
    | some w =>
      let s1 := s.unqueue w
      let queued := (s1.queue 5).items.findSome? (fun (i : QItem) => match i.body with
        | .work x => if x.tag = w.arg then some x else none
        | _ => none)
      match queued with
      | some x => ((s1.unqueue x).endWork x admCANCELLED 0).answer w admOK 0 0
      | none =>
        let running := s1.host.opened.any (fun (o : HostOpen) => o.tag == w.arg && o.id != w.id)
        s1.answer w admOK rMODE (if running then 1 else 2)
    | none => s)

/-- NOP (R532). -/
def execNop (s : State) : Out :=
  .next (match s.hostNext 9 with
    | some w => (s.unqueue w).answer w admOK 0 0
    | none => s)

/-- HOST_HANDLER_COMMAND (R145, R532): a command of a handler class is handed to its handler when the scheduler's next start
is it. -/
def execHostHandlerCommand (s : State) : Out :=
  .next (if s.stopped then s
  else match s.nextStart with
    | some (w, c, p, q) =>
      if w.src = 5 then { s with sched := { s.sched with pointer := p, quantum := q } }.startOn w c else s
    | none => s)

/-- RECOVERY_FLASH_WRITE (R89, R529): bytes written through BAR2 in recovery; the first write to each 64 KiB sector erases
it. -/
def execRecoveryFlashWrite (offset : Nat) (bytes : List Byte) (s : State) : Out :=
  .next (if s.sys.recovery ∧ offset + bytes.length ≤ 0x800000 then
    let sectors := (List.range ((offset + bytes.length + 65535) / 65536 - offset / 65536)).map (fun i => offset / 65536 + i)
    let fresh := sectors.filter (fun k => !s.nv.erased.contains k)
    let s1 := fresh.foldl (fun (s : State) k => s.eraseFlash (65536 * k) 65536) s
    { s1 with nv := { s1.nv with erased := s1.nv.erased ++ fresh } }.progFlash offset bytes
  else s)

/-- TOKEN_EXPIRY (R546): DURATION has passed. -/
def execTokenExpiry (t : Nat) (s : State) : Out :=
  let s0 := s.runTo t
  .next (match s0.host.tokenEnd with
    | some e => if e ≤ s0.time.mono then s0.relock 1 else s0
    | none => s0)

end Sys2Proof.Machine
end

