-- ==== Sys2Proof/Machine/Debug.lean ====
section
/-! DEFINITION. The debug module (R542 to R546): halt, resume, step, breakpoints and RELOCK. -/

namespace Sys2Proof.Machine
namespace State

/-- Debug is open, or unlocked by a token whose SCOPE has a bit (R546, R547): 0 cores, 1 clusters and wheel, 2 memory read,
3 memory write, 4 boundary scan, 5 TAPRST. -/
def dbgMay (s : State) (bit : Nat) : Bool := !s.flag DBG_STAT_LOCKED && (!s.flag DBG_STAT_TOKEN || s.host.scope.testBit bit)

/-- Core halts are accepted in every mode from BARE onwards but COLD_STANDBY (R542). -/
def coreHaltOk (s : State) : Bool := mBARE ≤ s.mode && s.mode != mCOLD_STANDBY

/-- A core, or a cluster with its engine and its eight planners, stands halted; SYS_MODE.HALT follows (R542, R543). -/
def stopCore (s : State) (c : Fin 8) : State :=
  ((s.modCore c (fun k => { k with halted := true, ran := s.ranFor c })).setF ⟨DBG_STAT, 8 + c, 1⟩ 1).showHalt
def stopCluster (s : State) (c : Fin 12) : State :=
  ((s.modCl c (fun x => { x with halted := true })).setF ⟨DBG_STAT, 16 + c, 1⟩ 1).showHalt

/-- A halt command on a target that runs: vector 4 fires (R528). -/
def haltCore (s : State) (c : Fin 8) : State := if (s.sched.cores.get c).halted then s else (s.stopCore c).msix 4
def haltCluster (s : State) (c : Fin 12) : State := if (s.cl c).halted then s else (s.stopCluster c).msix 4

/-- The wheel halts and stops releasing (R542). -/
def haltWheel (s : State) : State := if s.flag DBG_STAT_WHEEL then s else ((s.syncW.setF DBG_STAT_WHEEL 1).showHalt).msix 4

/-- The target that DBG_TGT names: KIND and INDEX. -/
def tgtKind (s : State) : Nat := s.f ⟨DBG_TGT, 0, 2⟩
def tgtIndex (s : State) : Nat := s.f ⟨DBG_TGT, 2, 4⟩

/-- A halt or step is refused. -/
def haltRef (s : State) : State := s.hit DBG_STAT_HALT_REF

/-- DBG_CTL.HALT. -/
def dbgHalt (s : State) : State :=
  let i := s.tgtIndex
  if s.flag DBG_STAT_LOCKED then s
  else if s.tgtKind = 0 then
    (if h : i < 8 then (if s.dbgMay 0 && s.coreHaltOk then s.haltCore ⟨i, h⟩ else s.haltRef) else s.haltRef)
  else if s.tgtKind = 1 then
    (if h : i < 12 then (if s.dbgMay 1 && s.haltAllowed then s.haltCluster ⟨i, h⟩ else s.haltRef) else s.haltRef)
  else if s.tgtKind = 2 ∧ s.dbgMay 1 ∧ s.haltAllowed then s.haltWheel
  else s.haltRef

/-- DBG_CTL.RESUME (R542, R543). -/
def dbgResume (s : State) : State :=
  let i := s.tgtIndex
  if s.flag DBG_STAT_LOCKED then s
  else if s.tgtKind = 0 then
    (if h : i < 8 then
      (if s.dbgMay 0 then (s.resumeCore ⟨i, h⟩).showHalt else s)
     else s)
  else if s.tgtKind = 1 then
    (if h : i < 12 then (if s.dbgMay 1 then (s.resumeCluster ⟨i, h⟩).showHalt else s) else s)
  else if s.tgtKind = 2 ∧ s.dbgMay 1 then s.resumeWheel.showHalt
  else s

/-- One engine instruction of a halted cluster, in the section in progress (R542). -/
def stepEngine (s : State) (c : Fin 12) (i : EInstr) : State :=
  ((s.modCl c (fun x => { x with halted := false })).engine c 0 i).modCl c (fun x => { x with halted := true })

/-- DBG_CTL.STEP: i is the instruction at the engine's PC. The instructions of a core are not part of the machine's
description: a core's step has the effects that its commands bring. -/
def dbgStep (s : State) (i : EInstr) : State :=
  let n := s.tgtIndex
  if s.flag DBG_STAT_LOCKED then s
  else if s.tgtKind = 0 then
    (if h : n < 8 then (if s.dbgMay 0 && (s.sched.cores.get ⟨n, h⟩).halted then s else s.haltRef) else s.haltRef)
  else if s.tgtKind = 1 then
    (if h : n < 12 then (if s.dbgMay 1 && (s.cl ⟨n, h⟩).halted then s.stepEngine ⟨n, h⟩ i else s.haltRef) else s.haltRef)
  else s.haltRef

/-- The snapshot of an engine (DBG_SNAP, R544). -/
def takeDbgSnap (s : State) (c : Fin 12) : State :=
  let x := s.cl c
  let pair := fun (v : Int) => [BitVec.ofInt 32 v, BitVec.ofInt 32 (v / 4294967296)]
  s.wrWords (DBG_SNAP 0) ([BitVec.ofNat 32 (s.f (CL_ENG_PC_PC c) % 4096 + 4096 * c)] ++ pair x.a0 ++ pair x.a1 ++ x.d.items
    ++ x.ap.items.map (fun (p : Nat) => BitVec.ofNat 32 p) ++ [BitVec.ofNat 32 (s.time.now.ns / 31250)])

/-- A breakpoint that is enabled has been met (R544). -/
def breakHit (s : State) (n : Nat) : State :=
  let s1 := s.hit DBG_STAT_BP_HIT
  if h : n < 32 then
    (if s.dbgMay 0 ∧ s.coreHaltOk then s1.stopCore ⟨n / 4, by omega⟩ else s1).msix 4
  else if h : n < 56 then
    let c : Fin 12 := ⟨(n - 32) / 2, by omega⟩
    if (s.rdN (DBG_BP n 1)).testBit 3 ∨ !(s.dbgMay 1 && s.haltAllowed) then (s1.takeDbgSnap c).msix 4
    else (s1.stopCluster c).msix 4
  else s

/-- The key of DBG_CTL. -/
def dbgKey : Nat := 0x4447

end State

/-- DBG_HALT (R73, R542). -/
def execDbgHalt (key : Nat) (s : State) : Out := .next (if key = State.dbgKey then s.dbgHalt else s)

/-- DBG_RESUME (R542, R543). -/
def execDbgResume (key : Nat) (s : State) : Out := .next (if key = State.dbgKey then s.dbgResume else s)

/-- DBG_STEP (R542). -/
def execDbgStep (key : Nat) (i : EInstr) (s : State) : Out := .next (if key = State.dbgKey then s.dbgStep i else s)

/-- DBG_RELOCK (R546). -/
def execDbgRelock (key : Nat) (s : State) : Out := .next (if key = State.dbgKey then s.relock 0 else s)

/-- BREAKPOINT_HIT (R544): breakpoint n, of a core for n < 32 and of an engine at its PC else. -/
def execBreakpointHit (n : Fin 56) (s : State) : Out :=
  let met : Bool := n.val < 32 || s.f (CL_ENG_PC_PC ((n - 32) / 2)) % 4096 == s.rdN (DBG_BP n 0) % 4096
  .next (if !s.flag DBG_STAT_LOCKED ∧ (s.rdN (DBG_BP n 1)).testBit 0 ∧ met then s.breakHit n else s)

end Sys2Proof.Machine
end

