-- ==== Sys2Proof/Machine/Loop.lean ====
section
/-! DEFINITION. The cadence grid (chapter 01): the grid step, the current-loop boundary, the loop tick and the
millisecond frame. -/

namespace Sys2Proof.Machine
namespace State

/-- Change of an axis's reported position by a referencing that this latch takes (R166): the port's shift, less the offset of
SETPOS that it clears. -/
def refShift (s : State) (a : Fin 96) : Int :=
  if s.f (TILE_FB_SRC_SRC a) ≠ 1 then 0
  else if h : s.f (TILE_FB_SRC_PORT a) < 32 then
    match ((s.settle ⟨_, h⟩ s.latchPoint).fbps.get ⟨_, h⟩).shift s.latchPoint with
    | some d => d - (s.tiles.get a).setOfs
    | none => 0
  else 0

/-- The input words of a tile's I/O block (R258). -/
def putIo (s : State) (a : Fin 96) : State :=
  let c : Fin 12 := ⟨a.val / 8, by omega⟩
  let b := 0x40 * (a.val % 8)
  let stat := s.f ⟨TILE_FB_STAT a, 0, 16⟩ + 65536 * b2n (s.axisOff a) + 131072 * b2n (s.pmode a == pmTRACK)
  let words := [s.rd (TILE_PLN_POS a 0), s.rd (TILE_PLN_POS a 1), s.rd (TILE_PLN_VEL a 0), s.rd (TILE_PLN_VEL a 1), s.rd (TILE_PLN_ACC a),
    s.rd (TILE_FB_POS a), s.rd (TILE_FB_SPD a 0), s.rd (TILE_FB_SPD a 1), BitVec.ofNat 32 stat, s.rd (TILE_FB_TIME a)]
  let s1 := (List.range words.length).foldl (fun (s : State) i => s.dput c (b + i) (words.getD i 0)) s
  s1.dputN c (b + 0xC) (s.pso a).1.toNat

/-- The planner of a tile at the loop tick, after the latches (R29): the step generator, the following error and the words for
the engine come from its new state; the planner of a halted cluster stands (R542). shift is the tile's shift by referencing. -/
def tickTile (s : State) (a : Fin 96) (shift : Int) : State :=
  if (s.cl ⟨a.val / 8, by omega⟩).halted then s
  else (((s.planLatch a shift (s.time.elapsed - 80 * s.cycleInc)).stpTick a).oscTick a).putIo a

/-- The axes of the running structure. -/
def runAxes (s : State) : List (Fin 96) := (List.finRange 96).filter (fun (a : Fin 96) => s.st.axes.contains a.val)

/-- The door drives' segments stand before the latches of their planners (R349). -/
def placeDoors (s : State) : State :=
  (List.finRange 8).foldl (fun (s : State) (d : Fin 8) => if s.doorHere d then s.doorPlace d else s) s

/-- Every input is latched together (R29): analog inputs, the ports without a tile, the tiles' feedback and the master angle. -/
def latchAll (s : State) (conv : List (List (Nat × Int))) : State :=
  let s1 := (List.finRange 4).foldl (fun (s : State) (i : Fin 4) => s.ainLatch i (conv.getD i [])) s
  let s2 := (List.finRange 32).foldl (fun (s : State) (p : Fin 32) => s.latchPort p) s1
  let s3 := s2.runAxes.foldl (fun (s : State) a => s.latchTile a) s2
  { s3 with wheel := { s3.wheel with tick := s3.mpos } }

/-- The loop tick (R29 to R33): every input is latched, then overrides, doors' segments and planners, the solver's words and
jobs, the doors and the position mirror follow, all on what was latched. The latch point lies 100 ns before the boundary. -/
def loopTick (s : State) (conv : List (List (Nat × Int))) (mirrorBad : Bool) : State :=
  let k := s.time.now.ns % 1000000 / 62500
  let shifts := s.runAxes.map (fun a => (a, s.refShift a))
  let s1 := (List.finRange 12).foldl (fun (s : State) (c : Fin 12) => s.psoTick c) (s.latchAll conv)
  let s2 := shifts.foldl (fun (s : State) (x : Fin 96 × Int) => s.tickTile x.1 x.2) s1.placeDoors
  let s3 := s2.st.probs.foldl (fun (s : State) (p : QProb) => s.distribute p k) (if s2.jobsDue then s2.offerJobs else s2)
  let s4 := (List.finRange 8).foldl (fun (s : State) (d : Fin 8) => s.doorTick d) s3
  ((s4.sweepGates).superviseL1).publishMirror mirrorBad

/-- The current words of the tiles bound to SERVO ports (R220, R258). -/
def putCurrents (s : State) (p : Fin 32) : State :=
  let a := s.f (PP_CFG_TILE p)
  if h : a < 96 then
    if s.ppMode p = 2 then
      let c : Fin 12 := ⟨a / 8, by omega⟩
      let b := 0x40 * (a % 8)
      (s.dputN c (b + 0xA) (s.f (PP_SENSE_LOW p) + 65536 * s.f (PP_SENSE_HIGH p))).dputN c (b + 0xB) (s.f (PP_SENSE2_LOW p))
    else s
  else s

/-- A current-loop boundary (R214, R217, R219, R263): ch gives the main-filter values of each port's three channels. -/
def currentBoundary (s : State) (ch : List (Int × Int × Int)) : State :=
  let s1 := (List.finRange 32).foldl (fun (s : State) (p : Fin 32) =>
    if s.ppMode p = 0 then s
    else
      let x := ch.getD p (0, 0, 0)
      (s.portPeriod p x.1 x.2.1 x.2.2 s.time.mono).putCurrents p) s
  (List.finRange 12).foldl (fun (s : State) (c : Fin 12) => s.startCur c) s1

/-- Illegal transitions are counted by the millisecond frame (R158). -/
def rotateIllegal (s : State) : State :=
  { s with fbps := s.fbps.map (fun x => { x with illPrev := x.illNow, illNow := 0 }) }

/-- TIME_HOLD_MS: milliseconds of disciplined time since HOLDOVER began (R10, R420). -/
def holdMs (s : State) : State :=
  match s.time.holdFrom with
  | some t => s.wrN TIME_HOLD_MS (min 4294967295 (s.msOf (s.time.mono - t)))
  | none => s

/-- The millisecond frame (R32, R33), once at its boundary: results of the ended frame are settled, one cap set is taken, jobs
fall due at the loop tick of this boundary. -/
def millisecond (s : State) : State :=
  if !s.onGrid Config.msUnits || s.cfg.msAt == some s.time.mono then s
  else
    let s1 := ({ s with cfg := { s.cfg with msAt := some s.time.mono } }.rotateIllegal).holdMs
    if s1.loopsRun then
      let s2 := s1.settleResults
      { ({ s2 with frameSeq := s2.frameSeq + 1 }.takeCaps) with jobsDue := true }
    else s1

/-- What comes before the activities of a grid boundary (R62, R65, R426): a step of time and a swap that are due. -/
def atBoundary (s : State) (t : Nat) : State := ((s.runTo t).takeStep).swapFirst

end State

/-- GRID_STEP (R21): disciplined time runs on to the SYS cycle of a grid boundary. -/
def execGridStep (t : Nat) (s : State) : Out := .next (s.atBoundary t)

/-- CURRENT_LOOP_BOUNDARY (R22): every grid boundary and every half step, once at each. -/
def execCurrentLoopBoundary (ch : List (Int × Int × Int)) (t : Nat) (s : State) : Out :=
  let s0 := s.atBoundary t
  .next (if s0.onGrid (Config.gridUnits / 2) ∧ s0.loopsRun ∧ s0.cfg.curAt ≠ some s0.time.mono then
      { s0 with cfg := { s0.cfg with curAt := some s0.time.mono } }.currentBoundary ch
    else s0)

/-- LOOP_TICK (R22, R29): a grid boundary of even step number, once; a millisecond frame of the same boundary comes first (R32,
R33). conv gives the conversions of each analog input that completed since the last tick, oldest first, each with its instant;
mirrorBad says that the CRC of the mirror set does not verify. -/
def execLoopTick (conv : List (List (Nat × Int))) (mirrorBad : Bool) (t : Nat) (s : State) : Out :=
  let s0 := (s.atBoundary t).millisecond
  .next (if s0.atTick ∧ s0.cfg.tickAt ≠ some s0.time.mono then
      { s0 with cfg := { s0.cfg with tickAt := some s0.time.mono } }.loopTick conv mirrorBad
    else s0)

/-- MILLISECOND_FRAME (R22, R32, R33). -/
def execMillisecondFrame (t : Nat) (s : State) : Out := .next (s.atBoundary t).millisecond

end Sys2Proof.Machine
end

