-- ==== Sys2Proof/Machine/Map.lean ====
section
/-! DEFINITION. BAR0 (chapter 23): what a write and a read of a register do, by the register's access code (R12, R13), its
words (R555) and its own rule; and the debug module's memory accesses (R545). -/

namespace Sys2Proof.Machine

namespace State

-- ===== what is visible (R89, R90, R529) =====

/-- A register answers a read with its word. -/
def readable (s : State) (a : Nat) : Bool :=
  if s.sys.recovery then a == SYS_ID || a == SYS_MODE || a == SYS_START_STAT
  else if s.scrappedMap then a == SYS_ID || a == SYS_LC
  else true

/-- A register takes a write. -/
def writable (s : State) (a : Nat) : Bool :=
  if s.mode = mRESET then false else if s.sys.recovery then a == SYS_CTL else !s.scrappedMap

-- ===== plain writes by access code =====

/-- The RW bits of the register at a as a write of v leaves them, over the word w. -/
def overRw (r : RegRow) (w v : Word) : Word := (w &&& ~~~(BitVec.ofNat 32 r.rw)) ||| (v &&& BitVec.ofNat 32 r.rw)

/-- A write of a register's fields as their access codes state: RW fields take the bits, W1C bits clear but for those that
hardware sets in this SYS cycle, W1S bits set, everything else stays (R12 to R14). -/
def plainWrite (s : State) (a : Nat) (v : Word) : State :=
  match accessRow a with
  | none => s
  | some r => s.wr a ((overRw r (s.rd a) v &&& ~~~(v &&& BitVec.ofNat 32 r.w1c &&& ~~~s.hitMask a)) ||| (v &&& BitVec.ofNat 32 r.w1s))

/-- Lower words of a multi-word register from word w on take the values that wait (R555). -/
def commitLow (s : State) (base : Nat) : Nat → State
  | 0 => s
  | k + 1 => (((commitLow s base k).plainWrite (base + 4 * k) (s.lowWord (base + 4 * k)))).dropLow (base + 4 * k)

/-- A plain write, of a word of a multi-word register too: lower words wait for the highest (R555). -/
def wordWrite (s : State) (a : Nat) (v : Word) : State :=
  match multiWord a with
  | some (base, w, n) =>
    if (accessRow base).any (fun (r : RegRow) => r.rw == 0) then s
    else if w + 1 < n then s.holdLow a v
    else (s.commitLow base w).plainWrite a v
  | none => s.plainWrite a v

-- ===== registers with a rule of their own =====

/-- Do one effect after another, each if its bit is written. -/
def ifBit (v : Word) (b : Nat) (g : State → State) (s : State) : State := if v.getLsbD b then g s else s

/-- Bits 31 to 16 of a keyed write. -/
def keyOf (v : Word) : Nat := v.toNat / 65536

/-- SYS (R75, R82, R89, R94, R105); the recovery endpoint takes SWRST alone. A mode that no request leads to is answered MODE. -/
def writeSys (s : State) (a : Nat) (v : Word) (e : WriteEnv) : Option State :=
  let key := keyOf v
  if a = SYS_MODE_REQ then
    let m := v.toNat % 16
    some (if m = mRUN then nextOf s (execModeReqRun key s)
      else if m = mCOMMISSION then nextOf s (execModeReqCommission key s)
      else if m = mSAFE_HOLD then nextOf s (execModeReqSafeHold key s)
      else if m = mBARE then nextOf s (execModeReqBare key s)
      else if m = mTAKEOVER then nextOf s (execModeReqTakeover key s)
      else if key = 0x4D44 then s.reqDone 1 0 else s)
  else if a = SYS_START then some (nextOf s (execSysStartWrite v s))
  else if a = SYS_CTL then
    some ((if s.sys.recovery then s
        else s |> ifBit v 2 (fun s => nextOf s (execWdKick key e.t s)) |> ifBit v 1 (fun s => nextOf s (execLoamRelease key s)))
      |> ifBit v 0 (fun s => nextOf s (execSwrst key s)))
  else none

/-- Host rings and SCHED (R145, R531). -/
def writeQueues (s : State) (a : Nat) (v : Word) : Option State :=
  if a = HQ_HC_TAIL then some (nextOf s (execDoorbell v s))
  else if a = HQ_HC_CFG then some (nextOf s (execHostRingCfg false v s))
  else if a = HQ_CQ_CFG then some (nextOf s (execHostRingCfg true v s))
  else if a = HQ_CQ_HEAD then some (s.plainWrite a v).drainCq
  else if a = SCHED_CTL then some ((s.leaveGroup.plainWrite a v).setF SCHED_STAT_ENABLED (v.toNat % 256))
  else none

/-- A pin lead, with t_EVD of 7.5 ns, keeps VMAX × lead within a slot (R121, R125): VMAX in 2^-24 mc/s, the lead in ns. -/
def leadOk (s : State) (lead : Nat) : Bool :=
  s.rd2 WHEEL_VMAX * (2 * lead + 15) ≤ 2 ^ s.f WHEEL_SLOT_SHIFT * 16777216 * 2000000000

/-- A write to the master's control word (R113, R115). -/
def mstCtlWrite (s : State) (v : Word) : State :=
  (if v.getLsbD 7 then nextOf s (execMasterLock s) else nextOf s (execMasterUnlock s))
    |> ifBit v 8 (fun s => nextOf s (execMasterResume s))

/-- A write to the insert command: insert or cancel, never both (R124). -/
def insCmdWrite (s : State) (v : Word) : State :=
  if v.getLsbD 0 && v.getLsbD 1 then s
  else s |> ifBit v 0 (fun s => nextOf s (execWheelInsert s)) |> ifBit v 1 (fun s => nextOf s (execWheelCancel (v.toNat / 256) s))

/-- A write to a pin's lead; one above the bound is ignored (R121). -/
def leadWrite (s : State) (a : Nat) (v : Word) : State :=
  if s.leadOk (v.toNat % 1048576) then s.plainWrite a v else s

/-- A W1C write to an analog input's status: LOST stays while the input is dead (R208). -/
def ainClear (s : State) (i : Fin 4) (v : Word) : State :=
  if v.getLsbD 0 && !(decide (16 ≤ (s.ains.get i).run) || (s.ains.get i).dead) then s.setF (AIN_STAT_LOST i) 0 else s

/-- The wheel (R110, R112, R113, R115, R116, R121, R123, R124): a new PULL acts from now on. -/
def writeWheel (s : State) (a : Nat) (v : Word) : Option State :=
  if a = WHEEL_VSPD 0 then some (nextOf s (execWheelVspdWrite 0 v s))
  else if a = WHEEL_VSPD 1 then some (nextOf s (execWheelVspdWrite 1 v s))
  else if a = WHEEL_VACC then some (nextOf s (execWheelVaccWrite v s))
  else if a = WHEEL_PHASE then some (nextOf s (execWheelPhaseWrite v s))
  else if a = WHEEL_MST_CTL then some (s.mstCtlWrite v)
  else if a = WHEEL_PULL then some ((if s.mst = msPULL then s.anchor else s).plainWrite a v)
  else if a = WHEEL_HYST then some (s.syncW.plainWrite a v)
  else if WHEEL_INS 0 ≤ a ∧ a < WHEEL_INS 16 then some (s.wr a v)
  else if a = WHEEL_INS_CMD then some (s.insCmdWrite v)
  else if WHEEL_EV_LEAD 0 ≤ a ∧ a < WHEEL_EV_LEAD 16 then some (s.leadWrite a v)
  else none

/-- A tile's registers (R185, R188, R194, R206, R212, R225, R236, R275, R177), by offset in its window. -/
def writeTile (s : State) (x : Fin 96) (off : Nat) (v : Word) (e : WriteEnv) : Option State :=
  if off = 0 then
    some (s |> ifBit v 2 (fun s => nextOf s (execPlnFlush x s)) |> ifBit v 0 (fun s => nextOf s (execPlnStop x s))
      |> ifBit v 1 (fun s => nextOf s (execPlnQstop x s)))
  else if 0x20 ≤ off ∧ off ≤ 0x30 then some (nextOf s (execPlannerLimitWrite x (Fin.ofNat 5 ((off - 0x20) / 4)) v s))
  else if 0x44 ≤ off ∧ off ≤ 0x50 then
    some (nextOf s (execFollowGearWrite x (decide (0x4C ≤ off)) (Fin.ofNat 2 ((off - 0x44) / 4 % 2)) v s))
  else if off = 0x110 then some (nextOf s (execFbLostClear (.tile x) v s))
  else if off = 0x20C then some (nextOf s (execRawMove x v s))
  else if off = 0x214 then some (nextOf s (execStallRiskClear x v s))
  else if off = 0x304 then some (nextOf s (execOscClear x v s))
  else none

/-- FB ports, analog inputs and power ports (R166, R177, R208, R220, R245), by offset in the cluster window. -/
def writePort (s : State) (c off : Nat) (v : Word) (e : WriteEnv) : Option State :=
  let p := Fin.ofNat 32 (8 * c + off / 0x40 % 8)
  if 4 < c then none
  else if c = 4 then
    (if 0x800 ≤ off ∧ off < 0x840 ∧ off % 16 = 8 then some (s.ainClear (Fin.ofNat 4 ((off - 0x800) / 16)) v) else none)
  else if 0x800 ≤ off ∧ off < 0xA00 then
    (if off % 0x40 = 0x14 then some (s |> ifBit v 0 (fun s => nextOf s (execRefArm p s)))
     else if off % 0x40 = 0x1C then some (nextOf s (execFbLostClear (.port p) v s))
     else none)
  else if 0xC00 ≤ off ∧ off < 0xE00 then
    (if off % 0x40 = 0x28 then some (nextOf s (execPpFaultClear p v e.fltLow e.sdAlive s))
     else if off % 0x40 = 0x2C then some (s |> ifBit v 0 (fun s => nextOf s (execPpCal p s)))
     else none)
  else none

/-- The cluster windows (R552). -/
def writeCluster (s : State) (a : Nat) (v : Word) (e : WriteEnv) : Option State :=
  let c := (a - 0x100000) / 0x10000
  let off := a % 0x10000
  if a < 0x100000 ∨ 0x1C0000 ≤ a ∨ 0x9000 ≤ off then none
  else if 0x1000 ≤ off then s.writeTile (Fin.ofNat 96 (8 * c + (off / 0x1000 - 1))) (off % 0x1000) v e
  else s.writePort c off v e

/-- A door's command register (R355, R358, R359). -/
def writeDoor (s : State) (d : Fin 8) (v : Word) : State :=
  let key := keyOf v
  let cmd := v.toNat % 8
  if cmd = 1 then nextOf s (execDoorOpen d key s)
  else if cmd = 2 then nextOf s (execDoorClose d key s)
  else if cmd = 3 then nextOf s (execDoorLock d key s)
  else if cmd = 4 then nextOf s (execDoorStop d key s)
  else if cmd = 5 then nextOf s (execDoorLearn d key s)
  else if cmd = 6 then nextOf s (execDoorAck d key s)
  else s

/-- Safety, doors, rings, time and pair (R334, R411, R420, R421, R427, R447). -/
def writeSafety (s : State) (a : Nat) (v : Word) : Option State :=
  if a = SAFE_STO_REQ then some (nextOf s (execStoRestartRequest (v.toNat % 16) (keyOf v) s))
  else if DOOR_CMD 0 ≤ a ∧ a ≤ DOOR_CMD 7 ∧ (a - DOOR_CMD 0) % 0x40 = 0 then some (s.writeDoor (Fin.ofNat 8 ((a - DOOR_CMD 0) / 0x40)) v)
  else if a = KR_CTL 0 then some (s |> ifBit v 0 (fun s => nextOf s (execKrClose 0 (keyOf v) s)))
  else if a = KR_CTL 1 then some (s |> ifBit v 0 (fun s => nextOf s (execKrClose 1 (keyOf v) s)))
  else if a = TIME_CTL then some (s |> ifBit v 0 (fun s => nextOf s (execTimeAccept (keyOf v) s)))
  else if a = TIME_CFG then some (nextOf s (execTimeCfgWrite v s))
  else if a = TIME_PTP then some (nextOf s (execTimePtpWrite v s))
  else if a = RED_CTL then some (s |> ifBit v 0 (fun s => nextOf s (execRedTakeoverCmd (keyOf v) s)))
  else none

/-- Masks are written only while acquisition is IDLE, DONE or STOPPED (R504). -/
def masksOpen (s : State) : Bool := s.acqState == aqIDLE || s.acqState == aqDONE || s.acqState == aqSTOPPED

/-- Fault collection (R467, R468, R470, R472). -/
def writeFlt (s : State) (a : Nat) (v : Word) (e : WriteEnv) : Option State :=
  let n := v.toNat
  if a = FLT_ACK then some (nextOf s (execFltAck (keyOf v) (n % 16) s))
  else if a = FLT_CLR then some (nextOf s (execFltClr (keyOf v) (n % 128) (v.getLsbD 7) e.live s))
  else if a = FLT_RAISE then some (nextOf s (execFltRaise v s))
  else if a = FLT_RAISE_CTX then some (s.wr a v)
  else if a = FLT_ERR then some (nextOf s (execErrSwWrite (v.getLsbD 0) s))
  else none

/-- Acquisition (R499 to R504). -/
def writeAcq (s : State) (a : Nat) (v : Word) : Option State :=
  if a = ACQ_CTL then
    some (s |> ifBit v 0 (fun s => nextOf s (execAcqArm s)) |> ifBit v 2 (fun s => nextOf s (execAcqForce s))
      |> ifBit v 1 (fun s => nextOf s (execAcqStop s)))
  else if (0x70200 ≤ a ∧ a < 0x70400) ∨ (0x78000 ≤ a ∧ a < 0x80000) then some (if s.masksOpen then s.plainWrite a v else s)
  else none

/-- Field I/O (R514, R517, R519). -/
def writeFio (s : State) (a : Nat) (v : Word) : Option State :=
  if a = FIO_CTL then
    some (nextOf s (execFioTestWrite (keyOf v) (v.getLsbD 1) s) |> ifBit v 0 (fun s => nextOf s (execFioResume (keyOf v) s)))
  else if a = FIO_OUT then some (nextOf s (execFioOutWrite 0 v s))
  else if a = FIO_OUT_SET then some (nextOf s (execFioOutWrite 1 v s))
  else if a = FIO_OUT_CLR then some (nextOf s (execFioOutWrite 2 v s))
  else none

/-- The command bits of CFG_CTL; a write with more than one set is refused (R71). -/
def cfgCommand (s : State) (bits : Nat) : State :=
  if bits = 0 then s
  else if bits = 1 then nextOf s (execCfgLoad s)
  else if bits = 2 then nextOf s (execCfgShadow s)
  else if bits = 4 then nextOf s (execCfgDiscard s)
  else if bits = 8 then nextOf s (execCfgArmCo s)
  else if bits = 16 then nextOf s (execCfgCancelCo s)
  else s.cfgErr 0x10

/-- Configuration (R59 to R64, R71): the swap's conditions are fixed while it is armed. -/
def writeCfg (s : State) (a : Nat) (v : Word) : Option State :=
  if a = CFG_SWAP_ANG ∨ a = CFG_SWAP_CYC ∨ a = CFG_SWAP_LIM then some (if s.swapArmed then s else s.plainWrite a v)
  else if a = CFG_CTL then some (s.cfgCommand (v.toNat % 32))
  else none

-- ===== reads =====

/-- A read that captures: the state it leaves, with the word in rdData (R418, R471, R555, WHEEL_LT_ANG). -/
def captureRead (s : State) (a : Nat) : Option State :=
  if a = FLT_MSG 0 then some (nextOf s (execFltMsgRead s))
  else if a = WHEEL_MST_ANG then some (nextOf s (execMasterAngleRead s))
  else if a = TIME_NOW_NS then some (nextOf s (execTimeNowRead s))
  else if WHEEL_LT_ANG 0 ≤ a ∧ a ≤ WHEEL_LT_ANG 7 ∧ (a - WHEEL_LT_ANG 0) % 0x20 = 0 then
    some (nextOf s (execLatchRead (Fin.ofNat 8 ((a - WHEEL_LT_ANG 0) / 0x20)) s))
  else none

/-- The words that a read of word 0 captured, with those from one address on captured now (R555). -/
def captureWords (s : State) (base : Nat) : Nat → List (Nat × Word)
  | 0 => s.readWords
  | k + 1 => Store.insert (Store.erase (captureWords s base k) (base + 4 * (k + 1))) (base + 4 * (k + 1)) (s.readReg (base + 4 * (k + 1)))

/-- The word that a read answers: a captured one where word 0 has captured it (R555). -/
def readWord (s : State) (a : Nat) : Word :=
  match multiWord a with
  | some (_, w, _) =>
    if w = 0 then s.readReg a
    else match s.readWords.find? (fun (x : Nat × Word) => x.1 == a) with | some x => x.2 | none => s.readReg a
  | none => s.readReg a

/-- Registers whose RC field holds the greatest or the least value since the last read; the other RC fields count. -/
def keepsExtreme (a : Nat) : Bool :=
  a == FIO_VF || a == SAFE_SSM_CYCMAX || a == KR_RTTMAX 0 || a == KR_RTTMAX 1 || (HQ_HWM 0 ≤ a && a ≤ HQ_HWM 15 && (a - HQ_HWM 0) % 16 == 0)

/-- The RC bits of a register as they stood before this SYS cycle (R14). -/
def rcBefore (s : State) (r : RegRow) (a : Nat) : Word := Store.get 0 s.time.was a &&& BitVec.ofNat 32 r.rc

/-- What is left in the RC bits after a read: what hardware has set in this SYS cycle (R14). -/
def rcLeft (s : State) (r : RegRow) (a : Nat) : Word :=
  let now := s.rd a &&& BitVec.ofNat 32 r.rc
  let old := s.rcBefore r a
  if now = old then 0 else if keepsExtreme a ∨ now < old then now else now - old

/-- The answer of a read in its RC bits: the value held before this SYS cycle (R14). -/
def rcAnswer (s : State) (a : Nat) (v : Word) : Word :=
  match accessRow a with
  | some r => if r.rc = 0 then v else (v &&& ~~~(BitVec.ofNat 32 r.rc)) ||| s.rcBefore r a
  | none => v

/-- RC fields clear as they are read, but for what hardware sets in the same SYS cycle (R12, R14); after a read of FIO_VF its
minimum starts anew. -/
def clearRead (s : State) (a : Nat) : State :=
  match accessRow a with
  | some r =>
    if r.rc = 0 then s
    else
      let keep := ~~~(BitVec.ofNat 32 r.rc)
      let left := s.rcLeft r a
      let was := (Store.get 0 s.time.was a) &&& keep
      let s1 := { s.wr a ((s.rd a &&& keep) ||| left) with time := { s.time with was := s.time.was.set 0 a was } }
      if a = FIO_VF ∧ left = 0 then s1.modFio (fun x => { x with minRead := none }) else s1
  | none => s

/-- A read of a register: its answer stands in rdData. -/
def regRead (s : State) (a : Nat) : State :=
  match s.captureRead a with
    | some s' => s'
    | none =>
      let s1 := match multiWord a with | some (base, 0, n) => { s with readWords := s.captureWords base (n - 1) } | _ => s
      { s1.clearRead a with rdData := if instanceUsed s.st a then s.rcAnswer a (s.readWord a) else s.readWord a }

/-- A read of a word of BAR0 by the host. -/
def hostRead (s : State) (a : Nat) : State := if s.readable a then s.regRead a else { s with rdData := 0 }

-- ===== debug accesses (R545) =====

/-- Where a debug address leads. -/
inductive DbgPlace where
  | bar0 (off : Nat)
  | core (c : Fin 8) (off : Nat)
  | data (c : Fin 12) (word : Nat)
  | prog (c : Fin 12) (word : Nat)
  | solver (u : Fin 4) (word : Nat)
  | mram (off : Nat)
  | dram (off : Nat)
  | nowhere
deriving DecidableEq, Repr

/-- The debug address space; [1:0] of the address are reserved. -/
def dbgPlace (x : Nat) : DbgPlace :=
  let a := x / 4 * 4
  if a < 0x400000 then .bar0 a
  else if 0x10000000 ≤ a ∧ a < 0x10400000 then .core (Fin.ofNat 8 ((a - 0x10000000) / 0x80000)) (a % 0x80000)
  else if 0x20000000 ≤ a ∧ a < 0x20180000 then
    let c := Fin.ofNat 12 ((a - 0x20000000) / 0x20000)
    if a % 0x20000 < 0x8000 then .data c (a % 0x20000 / 4) else .prog c (a % 0x20000 / 4)
  else if 0x30000000 ≤ a ∧ a < 0x30400000 then .solver (Fin.ofNat 4 ((a - 0x30000000) / 0x100000)) (a % 0x100000 / 4)
  else if 0x40000000 ≤ a ∧ a < 0x42000000 then .mram (a - 0x40000000)
  else if 0x100000000 ≤ a ∧ a < 0x300000000 then .dram (a - 0x100000000)
  else .nowhere

/-- DBG_MADDR. -/
def dbgAddr (s : State) : Nat := s.rd2 DBG_MADDR

/-- A word of a byte store. -/
def storeWord (m : Store 8) (off : Nat) : Word := BitVec.ofNat 32 (leNat (Store.getMany 0 m off 4))

/-- A placed word; where no debug access has placed one, zero until a structure's programs are distributed (R84), a free value
afterwards. -/
def placedWord (s : State) (m : Store 33) (word : Nat) : Word :=
  let x := Store.get 0 m word
  if x.getLsbD 32 then x.setWidth 32 else if s.mem.wiped then 0 else BitVec.ofNat 32 (Config.unstated 26 s.free)

/-- A word of MRAM (R557): the recorder store, the Loam buffers; the device parameters have no layout in the spec: free. -/
def mramWord (s : State) (off : Nat) : Word :=
  if off < 0x1000000 then storeWord s.nv.mram off
  else if off < 0x1800000 then BitVec.ofNat 32 (s.loamWord (if off < 0x1400000 then 0 else 1) (off % 0x400000))
  else BitVec.ofNat 32 (Config.unstated 27 (33554432 * s.free + off))

-- ===== BAR2 (R529, R556) =====

/-- A block of acquisition as its 8,192 bytes (R497). -/
def blockBytes (b : AcqBlock) : List Byte :=
  (natLE 4 b.seq ++ natLE 2 b.flags ++ natLE 2 b.frames.length ++ natLE 8 b.first ++ natLE 4 b.lost ++ natLE 2 b.trigFr
    ++ natLE 2 (b.frames.headD []).length ++ List.replicate 40 0) ++ b.frames.flatten

/-- A byte of the acquisition aperture: the SRAM of 8 MiB, or the DRAM region up to DSIZE, by ACQ_WIN (R497, R556). -/
def acqByte (s : State) (o : Nat) : Byte :=
  let dram := s.flag ACQ_WIN_DRAM
  let at_ := 1048576 * s.f ACQ_WIN_MIB + o
  let size := if dram then 65536 * (s.rdN ACQ_DSIZE % 32768) else 8388608
  let blocks := if dram then s.acq.dram else s.acq.sram
  if at_ < size then
    match blocks.find? (fun (e : Nat × AcqBlock) => e.1 == at_ / 8192) with
    | some e => (blockBytes e.2).getD (at_ % 8192) 0
    | none => 0
  else 0

/-- A byte of BAR2 as a read shows it, without any effect (R94, R490, R529, R556): in recovery the boot slots; otherwise recorder
store, acquisition, slot directory (whose layout is not stated: free) and Loam buffer, each where its window register puts it. -/
def bar2Byte (s : State) (o : Nat) : Byte :=
  if s.mode = mRESET ∨ s.scrappedMap then 0
  else if s.sys.recovery then (if o < 0x800000 then Store.get 0xFF s.nv.flash o else 0)
  else if o < 0x100000 then Store.get 0 s.nv.mram (1048576 * s.f REC_WIN_MIB + o)
  else if o < 0x200000 then s.acqByte (o - 0x100000)
  else if o < 0x210000 then BitVec.ofNat 8 (Config.unstated 29 (65536 * s.free + (o - 0x200000)))
  else if 0x400000 ≤ o ∧ o < 0x800000 then
    let b : Fin 2 := if s.flag SYS_LOAMWIN_BUF then 1 else 0
    BitVec.ofNat 8 (s.loamWord b ((o - 0x400000) / 4 * 4) / 256 ^ (o % 4))
  else 0

/-- What a read of BAR2 answers, of any size and alignment. -/
def bar2Read (s : State) (o n : Nat) : List Byte := (List.range n).map (fun i => s.bar2Byte (o + i))

/-- MEM_DONE, or MEM_REF. -/
def memDone (s : State) : State := s.hit DBG_STAT_MEM_DONE
def memRef (s : State) : State := s.hit DBG_STAT_MEM_REF

/-- DBG_CTL.MEM_RD: one 32-bit read at DBG_MADDR into DBG_MDATA. -/
def dbgRead (s : State) : State :=
  let put := fun (s : State) (w : Word) => (s.wr DBG_MDATA w).memDone
  if s.flag DBG_STAT_LOCKED then s
  else if !s.dbgMay 2 then s.memRef
  else match dbgPlace s.dbgAddr with
    | .bar0 a => let s1 := s.regRead a; put { s1 with rdData := s.rdData } s1.rdData
    | .core c o => put s (storeWord (s.mem.core.get c) o)
    | .data c w => put s (s.dmem c w)
    | .prog c w => put s.bumpFree (s.placedWord (s.mem.prog.get c) w)
    | .solver u w => put s.bumpFree (s.placedWord (s.mem.solver.get u) w)
    | .mram o => put s.bumpFree (s.mramWord o)
    | .dram o => put s (storeWord s.mem.dram o)
    | .nowhere => s.memRef

/-- Every STO group is safe-off (R545). -/
def allSafeOff (s : State) : Bool := (List.range 4).all (fun g => s.f (SAFE_STO_STAT_STATE g) == 0)

/-- A word with the mark that a debug access placed it. -/
def marked (w : Word) : BitVec 33 := w.setWidth 33 ||| (1#33 <<< 32)

/-- A debug write to a memory (R545): into the memory of a halted core or cluster, into a solver memory in BARE, into
LPDDR4X in BARE, or in COMMISSION with every group safe-off; never into MRAM. -/
def dbgWriteMem (s : State) (p : DbgPlace) (v : Word) : State :=
  match p with
  | .core c o =>
    if (s.sched.cores.get c).halted then { s with mem := { s.mem with core := s.mem.core.modify c (fun m => m.setMany 0 o (natLE 4 v.toNat)) } }.memDone
    else s.memRef
  | .data c w => if (s.cl c).halted then (s.dput c w v).memDone else s.memRef
  | .prog c w =>
    if (s.cl c).halted then { s with mem := { s.mem with prog := s.mem.prog.modify c (fun m => m.set 0 w (marked v)) } }.memDone else s.memRef
  | .solver u w =>
    if s.mode = mBARE then { s with mem := { s.mem with solver := s.mem.solver.modify u (fun m => m.set 0 w (marked v)) } }.memDone else s.memRef
  | .dram o =>
    if s.mode = mBARE ∨ (s.mode = mCOMMISSION ∧ s.allSafeOff) then
      { s with mem := { s.mem with dram := s.mem.dram.setMany 0 o (natLE 4 v.toNat) } }.memDone
    else s.memRef
  | _ => s.memRef

/-- DBG_CTL without its memory accesses (R542, R543, R546): the key is 0x4447. -/
def writeDbgCtl (s : State) (v : Word) (e : WriteEnv) : State :=
  let key := keyOf v
  s |> ifBit v 0 (fun s => nextOf s (execDbgHalt key s)) |> ifBit v 1 (fun s => nextOf s (execDbgResume key s))
    |> ifBit v 2 (fun s => nextOf s (execDbgStep key e.instr s)) |> ifBit v 3 (fun s => nextOf s (execDbgRelock key s))

/-- The debug block while debug is locked takes only the W1C bits of DBG_STAT (R541, R546). -/
def writeDbg (s : State) (a : Nat) (v : Word) (e : WriteEnv) : Option State :=
  if a < 0xF0000 ∨ 0x100000 ≤ a then none
  else if s.flag DBG_STAT_LOCKED ∧ a ≠ DBG_STAT then some s
  else if a = DBG_CTL then some (s.writeDbgCtl v e)
  else none

/-- A write of a register, but for the memory accesses of DBG_CTL: the register's own rule, or its access codes. A window that
the running structure does not use ignores it (R551). -/
def regWrite (s : State) (a : Nat) (v : Word) (e : WriteEnv) : State :=
  if !instanceUsed s.st a then s
  else ((s.writeSys a v e).orElse (fun _ => (s.writeQueues a v).orElse (fun _ => (s.writeWheel a v).orElse (fun _ =>
    (s.writeCluster a v e).orElse (fun _ => (s.writeSafety a v).orElse (fun _ => (s.writeFlt a v e).orElse (fun _ =>
      (s.writeAcq a v).orElse (fun _ => (s.writeFio a v).orElse (fun _ => (s.writeCfg a v).orElse (fun _ =>
        s.writeDbg a v e)))))))))).getD (s.wordWrite a v)

/-- DBG_CTL.MEM_WR: DBG_MDATA is written at DBG_MADDR; a register as its access code says (R545). -/
def dbgWrite (s : State) (e : WriteEnv) : State :=
  let v := s.rd DBG_MDATA
  if s.flag DBG_STAT_LOCKED then s
  else if !s.dbgMay 3 then s.memRef
  else match dbgPlace s.dbgAddr with
    | .bar0 a => (s.regWrite a v e).memDone
    | p => s.dbgWriteMem p v

/-- A write of a register, DBG_CTL's memory accesses among them. -/
def fullWrite (s : State) (a : Nat) (v : Word) (e : WriteEnv) : State :=
  let s1 := s.regWrite a v e
  if a = DBG_CTL ∧ keyOf v = dbgKey then s1 |> ifBit v 4 (fun s => s.dbgRead) |> ifBit v 5 (fun s => s.dbgWrite e)
  else s1

/-- A write of a word of BAR0 by the host. -/
def hostRegWrite (s : State) (a : Nat) (v : Word) (e : WriteEnv) : State := if s.writable a then s.fullWrite a v e else s

end State

/-- BAD_ACCESS (R554): a request that is not 32 bits wide, aligned and whole is answered UR, or dropped; it has no effect. -/
def execBadAccess (s : State) : Out := .next s

/-- REGISTER_WRITE (R12, R13, R551, R555). -/
def execRegisterWrite (address : Nat) (value : Word) (e : WriteEnv) (s : State) : Out :=
  .next (if address % 4 = 0 ∧ address < 0x400000 then s.hostRegWrite address value e else s)

/-- READ_CLEAR (R12, R14): a read; RC fields return their value and clear. -/
def execReadClear (address : Nat) (s : State) : Out :=
  .next (if address % 4 = 0 ∧ address < 0x400000 then s.hostRead address else s)

/-- MULTIWORD_READ (R555): a read of a word of a multi-word register. -/
def execMultiwordRead (address : Nat) (s : State) : Out :=
  .next (if address % 4 = 0 ∧ address < 0x400000 then s.hostRead address else s)

/-- DBG_MEM_RD (R545): the key is 0x4447. -/
def execDbgMemRd (key : Nat) (s : State) : Out := .next (if key = State.dbgKey then s.dbgRead else s)

/-- DBG_MEM_WR (R545): the key is 0x4447. -/
def execDbgMemWr (key : Nat) (e : WriteEnv) (s : State) : Out := .next (if key = State.dbgKey then s.dbgWrite e else s)

end Sys2Proof.Machine
end

