-- ==== Sys2Proof/Machine/Tap.lean ====
section
/-! DEFINITION. The debug TAP (R541): its instructions, each with one pass through its data register. -/

namespace Sys2Proof

/-- Codes of the TAP's instruction register (R541). -/
def irEXTEST : Nat := 0
def irSAMPLE : Nat := 1
def irIDCODE : Nat := 2
def irDBGACC : Nat := 8
def irTOKEN : Nat := 9
def irCHAL : Nat := 10
def irTAPRST : Nat := 11
def irBYPASS : Nat := 31

/-- Bytes of an unlock token (R547). -/
def tokenBytes : Nat := 16872

end Sys2Proof

namespace Sys2Proof.Machine
namespace State

def modTap (s : State) (g : TapState → TapState) : State := s.modHost (fun x => { x with tap := g x.tap })

/-- An instruction with the data register that it captures: its length and value. -/
def tapScan (s : State) (ir len dr : Nat) : State := s.modTap (fun x => { x with ir := ir, len := len, dr := dr })

/-- The instruction acts as BYPASS: the 1-bit register. -/
def tapBypass (s : State) (ir : Nat) : State := s.tapScan ir 1 0

/-- Bits as a number, bit 0 first. -/
def bitsNat (bs : List Bool) : Nat := bs.foldr (fun b n => b2n b + 2 * n) 0

/-- A pass through the boundary-scan register: the captured levels of the lands, and the bits shifted in (R541). -/
def boundaryScan (s : State) (ir : Nat) (captured shifted : List Bool) : State :=
  (s.tapScan ir captured.length (bitsNat captured)).modTap (fun x => { x with bsr := shifted })

/-- DBG_CHAL, word 0 in the lowest bits. -/
def chalBits (s : State) : Nat := (List.range 8).foldr (fun w n => (s.readReg (DBG_CHAL w)).toNat + 4294967296 * n) 0

end State

/-- TAP_RESET (R541): TRST_N, or five TCK cycles with TMS high: the controller, and nothing else. IDCODE is the instruction
after it. PRESUMED (IEEE 1149.1), log 12. -/
def execTapReset (s : State) : Out := .next (s.tapScan irIDCODE 1 0)

/-- TAP_EXTEST (R541, R547): in BARE, with debug unlocked for boundary scan; the shifted bits drive the main-side lands. -/
def execTapExtest (captured shifted : List Bool) (s : State) : Out :=
  .next (if s.mode = mBARE ∧ s.dbgMay 4 then s.boundaryScan irEXTEST captured shifted else s.tapBypass irEXTEST)

/-- TAP_SAMPLE_PRELOAD (R541, R547). -/
def execTapSamplePreload (captured shifted : List Bool) (s : State) : Out :=
  .next (if s.dbgMay 4 then s.boundaryScan irSAMPLE captured shifted else s.tapBypass irSAMPLE)

/-- TAP_IDCODE (R541): the word of DBG_ID. -/
def execTapIdcode (s : State) : Out := .next (s.tapScan irIDCODE 32 (s.readReg DBG_ID).toNat)

/-- TAP_DBGACC (R541): one access to a word of the DBG block, while debug is unlocked; a read's data stand in bits 41 to 10. -/
def execTapDbgacc (write : Bool) (word : Fin 512) (data : Word) (e : WriteEnv) (s : State) : Out :=
  let a := DBG_STAT + 4 * word.val
  let dr := fun (v : Word) => b2n write + 2 * word.val + 1024 * v.toNat
  .next (if s.flag DBG_STAT_LOCKED then s.tapBypass irDBGACC
  else if write then (s.fullWrite a data e).tapScan irDBGACC 42 (dr data)
  else
    let s1 := s.regRead a
    { s1 with rdData := s.rdData }.tapScan irDBGACC 42 (dr s1.rdData))

/-- TAP_TOKEN (R541, R547): a byte joins the token buffer, and the 16,872nd submits the token; rsa and slh say whether its
signatures verify. -/
def execTapToken (byte : Byte) (rsa slh : Bool) (s : State) : Out :=
  let buf := byte :: s.host.tap.token
  .next (if buf.length = tokenBytes then
    ((s.modTap (fun x => { x with token := [] })).tapScan irTOKEN 8 byte.toNat).secStart
      { kind := 2, w := none, bytes := buf.reverse, rsa := rsa, slh := slh }
  else (s.modTap (fun x => { x with token := buf })).tapScan irTOKEN 8 byte.toNat)

/-- TAP_CHAL (R541): DBG_CHAL, 256 bits. -/
def execTapChal (s : State) : Out := .next (s.tapScan irCHAL 256 s.chalBits)

/-- TAP_TAPRST (R79, R541): a reset with cause TAP, where debug is unlocked for it. -/
def execTapTaprst (s : State) : Out := .next (if s.dbgMay 5 then s.toReset rcTAP else s.tapBypass irTAPRST)

/-- TAP_BYPASS (R541). -/
def execTapBypass (s : State) : Out := .next (s.tapBypass irBYPASS)

end Sys2Proof.Machine
end

