-- ==== Sys2Proof/Machine/Dispatch.lean ====
section
/-! DEFINITION. Dispatch: the meaning of each command, one arm a constructor. -/

namespace Sys2Proof.Machine

def exec (i : Instr) (s : State) : Host.Outcome State Fault Refusal :=
  match i with
  | .gridStep t => Sys2Proof.Machine.execGridStep t s
  | .currentLoopBoundary ch t => Sys2Proof.Machine.execCurrentLoopBoundary ch t s
  | .loopTick conv mirrorBad t => Sys2Proof.Machine.execLoopTick conv mirrorBad t s
  | .millisecondFrame t => Sys2Proof.Machine.execMillisecondFrame t s
  | .stagingClose r t => Sys2Proof.Machine.execStagingClose r t s
  | .mirrorStale t => Sys2Proof.Machine.execMirrorStale t s
  | .cfgLoad => Sys2Proof.Machine.execCfgLoad s
  | .loadComplete v => Sys2Proof.Machine.execLoadComplete v s
  | .cfgShadow => Sys2Proof.Machine.execCfgShadow s
  | .shadowLoadComplete v => Sys2Proof.Machine.execShadowLoadComplete v s
  | .nodePending r n t => Sys2Proof.Machine.execNodePending r n t s
  | .cfgDiscard => Sys2Proof.Machine.execCfgDiscard s
  | .cfgArmCo => Sys2Proof.Machine.execCfgArmCo s
  | .cfgCancelCo => Sys2Proof.Machine.execCfgCancelCo s
  | .swapInstant => Sys2Proof.Machine.execSwapInstant s
  | .coTimeout => Sys2Proof.Machine.execCoTimeout s
  | .swapNotice => Sys2Proof.Machine.execSwapNotice s
  | .changeoverReturn => Sys2Proof.Machine.execChangeoverReturn s
  | .coPostcheck t => Sys2Proof.Machine.execCoPostcheck t s
  | .modeReqRun key => Sys2Proof.Machine.execModeReqRun key s
  | .modeReqCommission key => Sys2Proof.Machine.execModeReqCommission key s
  | .modeReqSafeHold key => Sys2Proof.Machine.execModeReqSafeHold key s
  | .modeReqBare key => Sys2Proof.Machine.execModeReqBare key s
  | .modeReqTakeover key => Sys2Proof.Machine.execModeReqTakeover key s
  | .powerOnReset => Sys2Proof.Machine.execPowerOnReset s
  | .resetN low => Sys2Proof.Machine.execResetN low s
  | .swrst key => Sys2Proof.Machine.execSwrst key s
  | .wdKick key t => Sys2Proof.Machine.execWdKick key t s
  | .loamRelease key => Sys2Proof.Machine.execLoamRelease key s
  | .wdogExpired t => Sys2Proof.Machine.execWdogExpired t s
  | .watchdogReset t => Sys2Proof.Machine.execWatchdogReset t s
  | .tempWarn sensor tenths => Sys2Proof.Machine.execTempWarn sensor tenths s
  | .thermReset tenths => Sys2Proof.Machine.execThermReset tenths s
  | .resetRelease vinMv above refOk resetHigh hottest => Sys2Proof.Machine.execResetRelease vinMv above refOk resetHigh hottest s
  | .sanitiseDone fail => Sys2Proof.Machine.execSanitiseDone fail s
  | .recScanDone bad => Sys2Proof.Machine.execRecScanDone bad s
  | .verifyDone bootA bootB rsa slh => Sys2Proof.Machine.execVerifyDone bootA bootB rsa slh s
  | .sysStartWrite value => Sys2Proof.Machine.execSysStartWrite value s
  | .vinBelowVwarn mv t => Sys2Proof.Machine.execVinBelowVwarn mv t s
  | .commitDone => Sys2Proof.Machine.execCommitDone s
  | .vinRecover mv minMv rise t => Sys2Proof.Machine.execVinRecover mv minMv rise t s
  | .vinBelowVrst mv => Sys2Proof.Machine.execVinBelowVrst mv s
  | .vinOv mv => Sys2Proof.Machine.execVinOv mv s
  | .pcieReset => Sys2Proof.Machine.execPcieReset s
  | .refLost => Sys2Proof.Machine.execRefLost s
  | .railFault monitor mv => Sys2Proof.Machine.execRailFault monitor mv s
  | .ageingWarn osc slow => Sys2Proof.Machine.execAgeingWarn osc slow s
  | .monitorRecord temps volts slows => Sys2Proof.Machine.execMonitorRecord temps volts slows s
  | .wheelVspdWrite w value => Sys2Proof.Machine.execWheelVspdWrite w value s
  | .wheelVaccWrite value => Sys2Proof.Machine.execWheelVaccWrite value s
  | .wheelPhaseWrite value => Sys2Proof.Machine.execWheelPhaseWrite value s
  | .masterLock => Sys2Proof.Machine.execMasterLock s
  | .masterUnlock => Sys2Proof.Machine.execMasterUnlock s
  | .masterLocked t => Sys2Proof.Machine.execMasterLocked t s
  | .masterResume => Sys2Proof.Machine.execMasterResume s
  | .masterOverspeed t => Sys2Proof.Machine.execMasterOverspeed t s
  | .wheelReversal t => Sys2Proof.Machine.execWheelReversal t s
  | .slotStage t => Sys2Proof.Machine.execSlotStage t s
  | .wheelJump t => Sys2Proof.Machine.execWheelJump t s
  | .pinSet handle t => Sys2Proof.Machine.execPinSet handle t s
  | .pinClear handle t => Sys2Proof.Machine.execPinClear handle t s
  | .pinPulse handle t => Sys2Proof.Machine.execPinPulse handle t s
  | .pinPulseEnd pin t => Sys2Proof.Machine.execPinPulseEnd pin t s
  | .foutSet handle t => Sys2Proof.Machine.execFoutSet handle t s
  | .foutClear handle t => Sys2Proof.Machine.execFoutClear handle t s
  | .foutPulse handle t => Sys2Proof.Machine.execFoutPulse handle t s
  | .foutPulseEnd out t => Sys2Proof.Machine.execFoutPulseEnd out t s
  | .dispatch handle t => Sys2Proof.Machine.execDispatch handle t s
  | .segmentGo handle t => Sys2Proof.Machine.execSegmentGo handle t s
  | .acqTrig handle t => Sys2Proof.Machine.execAcqTrig handle t s
  | .latchArm handle t => Sys2Proof.Machine.execLatchArm handle t s
  | .latchWindowEnd lt t => Sys2Proof.Machine.execLatchWindowEnd lt t s
  | .latchEdge lt rising width t => Sys2Proof.Machine.execLatchEdge lt rising width t s
  | .latchRead lt => Sys2Proof.Machine.execLatchRead lt s
  | .masterAngleRead => Sys2Proof.Machine.execMasterAngleRead s
  | .wheelInsert => Sys2Proof.Machine.execWheelInsert s
  | .wheelCancel handle => Sys2Proof.Machine.execWheelCancel handle s
  | .coreWheelInsert c d => Sys2Proof.Machine.execCoreWheelInsert c d s
  | .coreWheelCancel c handle => Sys2Proof.Machine.execCoreWheelCancel c handle s
  | .corePut c queue len b => Sys2Proof.Machine.execCorePut c queue len b s
  | .sharedCellGrant => Sys2Proof.Machine.execSharedCellGrant s
  | .dispatchStart => Sys2Proof.Machine.execDispatchStart s
  | .handlerReturn c status => Sys2Proof.Machine.execHandlerReturn c status s
  | .handlerOverrun c => Sys2Proof.Machine.execHandlerOverrun c s
  | .coreBusErr c address width => Sys2Proof.Machine.execCoreBusErr c address width s
  | .faultLogEntry => Sys2Proof.Machine.execFaultLogEntry s
  | .recordWrite bad => Sys2Proof.Machine.execRecordWrite bad s
  | .recordOffer core code prio payload => Sys2Proof.Machine.execRecordOffer core code prio payload s
  | .suppressed code t => Sys2Proof.Machine.execSuppressed code t s
  | .dropEpisodeEnd => Sys2Proof.Machine.execDropEpisodeEnd s
  | .fbIllegalEdge p a b z na nb nz t => Sys2Proof.Machine.execFbIllegalEdge p a b z na nb nz t s
  | .illegalBurst p => Sys2Proof.Machine.execIllegalBurst p s
  | .ssiFrame p bits startHigh stopLow t => Sys2Proof.Machine.execSsiFrame p bits startHigh stopLow t s
  | .ssiLost p => Sys2Proof.Machine.execSsiLost p s
  | .hallInvalid p t => Sys2Proof.Machine.execHallInvalid p t s
  | .wireBreak p low stood t => Sys2Proof.Machine.execWireBreak p low stood t s
  | .remoteAged a => Sys2Proof.Machine.execRemoteAged a s
  | .fbFrozen a => Sys2Proof.Machine.execFbFrozen a s
  | .fbLostClear target value => Sys2Proof.Machine.execFbLostClear target value s
  | .indexEvent p a b z na nb nz t => Sys2Proof.Machine.execIndexEvent p a b z na nb nz t s
  | .fbIndexMissing p => Sys2Proof.Machine.execFbIndexMissing p s
  | .refArm p => Sys2Proof.Machine.execRefArm p s
  | .standstill a t => Sys2Proof.Machine.execStandstill a t s
  | .posSegment a start relative withLimits target vmax amax dmax jmax seq => Sys2Proof.Machine.execPosSegment a start relative withLimits target vmax amax dmax jmax seq s
  | .velSegment a start withLimits target vmax amax dmax jmax seq => Sys2Proof.Machine.execVelSegment a start withLimits target vmax amax dmax jmax seq s
  | .stopSegment a seq => Sys2Proof.Machine.execStopSegment a seq s
  | .limitsSegment a start vmax amax dmax jmax seq => Sys2Proof.Machine.execLimitsSegment a start vmax amax dmax jmax seq s
  | .homeSegment a start withLimits target vmax amax dmax jmax param seq => Sys2Proof.Machine.execHomeSegment a start withLimits target vmax amax dmax jmax param seq s
  | .setposSegment a start target seq => Sys2Proof.Machine.execSetposSegment a start target seq s
  | .followSegment a start withLimits vmax amax dmax jmax param seq => Sys2Proof.Machine.execFollowSegment a start withLimits vmax amax dmax jmax param seq s
  | .segmentComplete a => Sys2Proof.Machine.execSegmentComplete a s
  | .plnStop a => Sys2Proof.Machine.execPlnStop a s
  | .plnQstop a => Sys2Proof.Machine.execPlnQstop a s
  | .plnFlush a => Sys2Proof.Machine.execPlnFlush a s
  | .plannerLimitWrite a reg value => Sys2Proof.Machine.execPlannerLimitWrite a reg value s
  | .plnHomeFail a => Sys2Proof.Machine.execPlnHomeFail a s
  | .followBlendEnd a => Sys2Proof.Machine.execFollowBlendEnd a s
  | .followGearWrite a ofs w value => Sys2Proof.Machine.execFollowGearWrite a ofs w value s
  | .plnFollowLost a => Sys2Proof.Machine.execPlnFollowLost a s
  | .rawMove a target => Sys2Proof.Machine.execRawMove a target s
  | .rawDone a => Sys2Proof.Machine.execRawDone a s
  | .holdCurrent a => Sys2Proof.Machine.execHoldCurrent a s
  | .resistanceLearn a => Sys2Proof.Machine.execResistanceLearn a s
  | .stpStallRisk a => Sys2Proof.Machine.execStpStallRisk a s
  | .stallRiskClear a value => Sys2Proof.Machine.execStallRiskClear a value s
  | .ppCal p => Sys2Proof.Machine.execPpCal p s
  | .calDone p ch0 ch1 ch2 t => Sys2Proof.Machine.execCalDone p ch0 ch1 ch2 t s
  | .ppBridgeFault p low stood t => Sys2Proof.Machine.execPpBridgeFault p low stood t s
  | .ppOvercurrent p ch value => Sys2Proof.Machine.execPpOvercurrent p ch value s
  | .ppBusUv p => Sys2Proof.Machine.execPpBusUv p s
  | .ppBusOv p => Sys2Proof.Machine.execPpBusOv p s
  | .ppSdLost p ch cycles => Sys2Proof.Machine.execPpSdLost p ch cycles s
  | .ppFaultClear p value fltLow sdAlive => Sys2Proof.Machine.execPpFaultClear p value fltLow sdAlive s
  | .tickSectionStart c entry bad t => Sys2Proof.Machine.execTickSectionStart c entry bad t s
  | .engOverrun c t => Sys2Proof.Machine.execEngOverrun c t s
  | .engMac2 c ecc a b => Sys2Proof.Machine.execEngMac2 c ecc a b s
  | .engMpy c ecc l x y => Sys2Proof.Machine.execEngMpy c ecc l x y s
  | .engMac c ecc l x y => Sys2Proof.Machine.execEngMac c ecc l x y s
  | .engMsu c ecc l x y => Sys2Proof.Machine.execEngMsu c ecc l x y s
  | .engMpyi c ecc l n q sh => Sys2Proof.Machine.execEngMpyi c ecc l n q sh s
  | .engLdx c ecc l a wide f sh => Sys2Proof.Machine.execEngLdx c ecc l a wide f sh s
  | .engLdxAdd c ecc l a wide f sh => Sys2Proof.Machine.execEngLdxAdd c ecc l a wide f sh s
  | .engLdxSub c ecc l a wide f sh => Sys2Proof.Machine.execEngLdxSub c ecc l a wide f sh s
  | .engAdda c ecc l a long => Sys2Proof.Machine.execEngAdda c ecc l a long s
  | .engSuba c ecc l a long => Sys2Proof.Machine.execEngSuba c ecc l a long s
  | .engClmp c ecc l a long => Sys2Proof.Machine.execEngClmp c ecc l a long s
  | .engNeg c l => Sys2Proof.Machine.execEngNeg c l s
  | .engAbs c l => Sys2Proof.Machine.execEngAbs c l s
  | .engStq c l a sh => Sys2Proof.Machine.execEngStq c l a sh s
  | .engStl c l a => Sys2Proof.Machine.execEngStl c l a s
  | .engDiff c ecc n a b => Sys2Proof.Machine.execEngDiff c ecc n a b s
  | .engLd c ecc n a => Sys2Proof.Machine.execEngLd c ecc n a s
  | .engSt c n a => Sys2Proof.Machine.execEngSt c n a s
  | .engAdd c n m => Sys2Proof.Machine.execEngAdd c n m s
  | .engSub c n m => Sys2Proof.Machine.execEngSub c n m s
  | .engAnd c n m => Sys2Proof.Machine.execEngAnd c n m s
  | .engOr c n m => Sys2Proof.Machine.execEngOr c n m s
  | .engShl c n m => Sys2Proof.Machine.execEngShl c n m s
  | .engShr c n m => Sys2Proof.Machine.execEngShr c n m s
  | .engSincos c ecc a b => Sys2Proof.Machine.execEngSincos c ecc a b s
  | .engVmax c ecc l a n => Sys2Proof.Machine.execEngVmax c ecc l a n s
  | .engVmin c ecc l a n => Sys2Proof.Machine.execEngVmin c ecc l a n s
  | .engVmaxa c ecc l a n => Sys2Proof.Machine.execEngVmaxa c ecc l a n s
  | .engBr c cond target => Sys2Proof.Machine.execEngBr c cond target s
  | .engLoop c n last => Sys2Proof.Machine.execEngLoop c n last s
  | .engTile c t => Sys2Proof.Machine.execEngTile c t s
  | .engOutTq c => Sys2Proof.Machine.execEngOutTq c s
  | .engOutDuty c => Sys2Proof.Machine.execEngOutDuty c s
  | .engOutGen c => Sys2Proof.Machine.execEngOutGen c s
  | .engOutRmt c => Sys2Proof.Machine.execEngOutRmt c s
  | .engEnd c t => Sys2Proof.Machine.execEngEnd c t s
  | .lpOsc a => Sys2Proof.Machine.execLpOsc a s
  | .oscClear a value => Sys2Proof.Machine.execOscClear a value s
  | .solverWindowOpen u j t => Sys2Proof.Machine.execSolverWindowOpen u j t s
  | .solverIteration u t => Sys2Proof.Machine.execSolverIteration u t s
  | .solverTest u t => Sys2Proof.Machine.execSolverTest u t s
  | .factorisationDone u t => Sys2Proof.Machine.execFactorisationDone u t s
  | .solverDeadline u cols t => Sys2Proof.Machine.execSolverDeadline u cols t s
  | .solverPublish u j => Sys2Proof.Machine.execSolverPublish u j s
  | .solEcc u double const address => Sys2Proof.Machine.execSolEcc u double const address s
  | .hardpanCycle t => Sys2Proof.Machine.execHardpanCycle t s
  | .ssmExchange used => Sys2Proof.Machine.execSsmExchange used s
  | .ssmXcmp lateUs => Sys2Proof.Machine.execSsmXcmp lateUs s
  | .ssmScanLost n t => Sys2Proof.Machine.execSsmScanLost n t s
  | .violationLatchClear a => Sys2Proof.Machine.execViolationLatchClear a s
  | .ssmCapStale => Sys2Proof.Machine.execSsmCapStale s
  | .channelExchange pairs t => Sys2Proof.Machine.execChannelExchange pairs t s
  | .safeXcmp function which t => Sys2Proof.Machine.execSafeXcmp function which t s
  | .safeClk c ppm t => Sys2Proof.Machine.execSafeClk c ppm t s
  | .safetyFrame d toDie seq inputs readbacks t => Sys2Proof.Machine.execSafetyFrame d toDie seq inputs readbacks t s
  | .safeFrame d toDie t => Sys2Proof.Machine.execSafeFrame d toDie t s
  | .stoRestartRequest groups key => Sys2Proof.Machine.execStoRestartRequest groups key s
  | .restartInput g level t => Sys2Proof.Machine.execRestartInput g level t s
  | .safeStartFail g t => Sys2Proof.Machine.execSafeStartFail g t s
  | .ss1Expire g t => Sys2Proof.Machine.execSs1Expire g t s
  | .outputTestPulse side g => Sys2Proof.Machine.execOutputTestPulse side g s
  | .outputTestEnd side g => Sys2Proof.Machine.execOutputTestEnd side g s
  | .safeTelegramRx bytes t => Sys2Proof.Machine.execSafeTelegramRx bytes t s
  | .safeConnLost n t => Sys2Proof.Machine.execSafeConnLost n t s
  | .safetyInputEval t => Sys2Proof.Machine.execSafetyInputEval t s
  | .safeInDisc p t => Sys2Proof.Machine.execSafeInDisc p t s
  | .testPulseStart k t => Sys2Proof.Machine.execTestPulseStart k t s
  | .testPulseCheck k t => Sys2Proof.Machine.execTestPulseCheck k t s
  | .safecfgRead codeA codeB t => Sys2Proof.Machine.execSafecfgRead codeA codeB t s
  | .safecfgXcmp t => Sys2Proof.Machine.execSafecfgXcmp t s
  | .doorOpen d key => Sys2Proof.Machine.execDoorOpen d key s
  | .doorClose d key => Sys2Proof.Machine.execDoorClose d key s
  | .doorLock d key => Sys2Proof.Machine.execDoorLock d key s
  | .doorStop d key => Sys2Proof.Machine.execDoorStop d key s
  | .doorLearn d key => Sys2Proof.Machine.execDoorLearn d key s
  | .doorAck d key => Sys2Proof.Machine.execDoorAck d key s
  | .doorConfChange d level t => Sys2Proof.Machine.execDoorConfChange d level t s
  | .doorLockFail d t => Sys2Proof.Machine.execDoorLockFail d t s
  | .doorArrived d t => Sys2Proof.Machine.execDoorArrived d t s
  | .doorPosMismatch d t => Sys2Proof.Machine.execDoorPosMismatch d t s
  | .doorObstacle d => Sys2Proof.Machine.execDoorObstacle d s
  | .doorEdge d level => Sys2Proof.Machine.execDoorEdge d level s
  | .doorLockset d t => Sys2Proof.Machine.execDoorLockset d t s
  | .ringCycle r t => Sys2Proof.Machine.execRingCycle r t s
  | .ringFrameReturn r onS far f rtt t => Sys2Proof.Machine.execRingFrameReturn r onS far f rtt t s
  | .krNodeSilt r n => Sys2Proof.Machine.execKrNodeSilt r n s
  | .foreignFrame r => Sys2Proof.Machine.execForeignFrame r s
  | .ident r n data => Sys2Proof.Machine.execIdent r n data s
  | .layoutAck r n sid => Sys2Proof.Machine.execLayoutAck r n sid s
  | .link r n p q loop t => Sys2Proof.Machine.execLink r n p q loop t s
  | .svcHandlerMessage r m => Sys2Proof.Machine.execSvcHandlerMessage r m s
  | .claimSend r t => Sys2Proof.Machine.execClaimSend r t s
  | .claimReturn r opposite => Sys2Proof.Machine.execClaimReturn r opposite s
  | .claimWin r t => Sys2Proof.Machine.execClaimWin r t s
  | .higherStandingFrame r onS f => Sys2Proof.Machine.execHigherStandingFrame r onS f s
  | .ringSilenced r => Sys2Proof.Machine.execRingSilenced r s
  | .ringLinkChange r onS up => Sys2Proof.Machine.execRingLinkChange r onS up s
  | .closeReady r t => Sys2Proof.Machine.execCloseReady r t s
  | .krClose r key => Sys2Proof.Machine.execKrClose r key s
  | .nodeWorkingPass r onS f a b t => Sys2Proof.Machine.execNodeWorkingPass r onS f a b t s
  | .ptpSync m => Sys2Proof.Machine.execPtpSync m s
  | .ptpFollowUp m => Sys2Proof.Machine.execPtpFollowUp m s
  | .ptpDelayReqSend departure t => Sys2Proof.Machine.execPtpDelayReqSend departure t s
  | .ptpDelayResp m => Sys2Proof.Machine.execPtpDelayResp m s
  | .ptpPdelayReq m departure => Sys2Proof.Machine.execPtpPdelayReq m departure s
  | .ptpPdelayResp m => Sys2Proof.Machine.execPtpPdelayResp m s
  | .ptpPdelayRespFollowUp m => Sys2Proof.Machine.execPtpPdelayRespFollowUp m s
  | .ptpAnnounce a t => Sys2Proof.Machine.execPtpAnnounce a t s
  | .announceTimeout t => Sys2Proof.Machine.execAnnounceTimeout t s
  | .tcForward kind m residence => Sys2Proof.Machine.execTcForward kind m residence s
  | .plantFrameRx etherType bytes => Sys2Proof.Machine.execPlantFrameRx etherType bytes s
  | .timeAccept key => Sys2Proof.Machine.execTimeAccept key s
  | .timeStep => Sys2Proof.Machine.execTimeStep s
  | .timeCfgWrite value => Sys2Proof.Machine.execTimeCfgWrite value s
  | .timePtpWrite value => Sys2Proof.Machine.execTimePtpWrite value s
  | .timeRingHoldover => Sys2Proof.Machine.execTimeRingHoldover s
  | .timeNowRead => Sys2Proof.Machine.execTimeNowRead s
  | .loamCapture => Sys2Proof.Machine.execLoamCapture s
  | .ckptChunkRx snap off len done => Sys2Proof.Machine.execCkptChunkRx snap off len done s
  | .takeoverTrigger r t => Sys2Proof.Machine.execTakeoverTrigger r t s
  | .redTakeoverCmd key => Sys2Proof.Machine.execRedTakeoverCmd key s
  | .takeoverRestored t => Sys2Proof.Machine.execTakeoverRestored t s
  | .redPeerLost r => Sys2Proof.Machine.execRedPeerLost r s
  | .faultMessage => Sys2Proof.Machine.execFaultMessage s
  | .fltL1Timeout e t => Sys2Proof.Machine.execFltL1Timeout e t s
  | .fltAck key classes => Sys2Proof.Machine.execFltAck key classes s
  | .fltClr key entry all live => Sys2Proof.Machine.execFltClr key entry all live s
  | .fltRaise value => Sys2Proof.Machine.execFltRaise value s
  | .errSwWrite level => Sys2Proof.Machine.execErrSwWrite level s
  | .errminEnd t => Sys2Proof.Machine.execErrminEnd t s
  | .fltMsgRead => Sys2Proof.Machine.execFltMsgRead s
  | .acqArm => Sys2Proof.Machine.execAcqArm s
  | .acqStop => Sys2Proof.Machine.execAcqStop s
  | .acqForce => Sys2Proof.Machine.execAcqForce s
  | .acqRawSample t => Sys2Proof.Machine.execAcqRawSample t s
  | .barrierRefreshTx d t => Sys2Proof.Machine.execBarrierRefreshTx d t s
  | .barrierRefreshRx d good idx raw rb tp ff rot t => Sys2Proof.Machine.execBarrierRefreshRx d good idx raw rb tp ff rot t s
  | .fieldBarrier d t => Sys2Proof.Machine.execFieldBarrier d t s
  | .vfLow mv => Sys2Proof.Machine.execVfLow mv s
  | .vfLowclr mv => Sys2Proof.Machine.execVfLowclr mv s
  | .vfOff mv => Sys2Proof.Machine.execVfOff mv s
  | .vfOn mv t => Sys2Proof.Machine.execVfOn mv t s
  | .recoverEnd t => Sys2Proof.Machine.execRecoverEnd t s
  | .fioResume key => Sys2Proof.Machine.execFioResume key s
  | .fioTestWrite key test => Sys2Proof.Machine.execFioTestWrite key test s
  | .fioOutWrite reg value => Sys2Proof.Machine.execFioOutWrite reg value s
  | .doorbell value => Sys2Proof.Machine.execDoorbell value s
  | .hostRingCfg cq value => Sys2Proof.Machine.execHostRingCfg cq value s
  | .commandFetch c => Sys2Proof.Machine.execCommandFetch c s
  | .hostSegment => Sys2Proof.Machine.execHostSegment s
  | .hostWheelIns => Sys2Proof.Machine.execHostWheelIns s
  | .hostWheelCancel => Sys2Proof.Machine.execHostWheelCancel s
  | .slotWrite bytes => Sys2Proof.Machine.execSlotWrite bytes s
  | .slotErase => Sys2Proof.Machine.execSlotErase s
  | .secureProvision bytes => Sys2Proof.Machine.execSecureProvision bytes s
  | .secureAddKey bytes rsa slh => Sys2Proof.Machine.execSecureAddKey bytes rsa slh s
  | .secureRevoke bytes rsa slh => Sys2Proof.Machine.execSecureRevoke bytes rsa slh s
  | .secureSvn bytes rsa slh => Sys2Proof.Machine.execSecureSvn bytes rsa slh s
  | .secureLifecycle bytes rsa slh => Sys2Proof.Machine.execSecureLifecycle bytes rsa slh s
  | .attest q => Sys2Proof.Machine.execAttest q s
  | .hostCancel => Sys2Proof.Machine.execHostCancel s
  | .nop => Sys2Proof.Machine.execNop s
  | .dbgToken bytes rsa slh => Sys2Proof.Machine.execDbgToken bytes rsa slh s
  | .hostHandlerCommand => Sys2Proof.Machine.execHostHandlerCommand s
  | .recoveryFlashWrite offset bytes => Sys2Proof.Machine.execRecoveryFlashWrite offset bytes s
  | .badAccess => Sys2Proof.Machine.execBadAccess s
  | .registerWrite address value e => Sys2Proof.Machine.execRegisterWrite address value e s
  | .readClear address => Sys2Proof.Machine.execReadClear address s
  | .multiwordRead address => Sys2Proof.Machine.execMultiwordRead address s
  | .tapReset => Sys2Proof.Machine.execTapReset s
  | .tapExtest captured shifted => Sys2Proof.Machine.execTapExtest captured shifted s
  | .tapSamplePreload captured shifted => Sys2Proof.Machine.execTapSamplePreload captured shifted s
  | .tapIdcode => Sys2Proof.Machine.execTapIdcode s
  | .tapDbgacc write word data e => Sys2Proof.Machine.execTapDbgacc write word data e s
  | .tapToken byte rsa slh => Sys2Proof.Machine.execTapToken byte rsa slh s
  | .tapChal => Sys2Proof.Machine.execTapChal s
  | .tapTaprst => Sys2Proof.Machine.execTapTaprst s
  | .tapBypass => Sys2Proof.Machine.execTapBypass s
  | .dbgHalt key => Sys2Proof.Machine.execDbgHalt key s
  | .dbgResume key => Sys2Proof.Machine.execDbgResume key s
  | .dbgStep key instr => Sys2Proof.Machine.execDbgStep key instr s
  | .dbgRelock key => Sys2Proof.Machine.execDbgRelock key s
  | .dbgMemRd key => Sys2Proof.Machine.execDbgMemRd key s
  | .dbgMemWr key e => Sys2Proof.Machine.execDbgMemWr key e s
  | .breakpointHit n => Sys2Proof.Machine.execBreakpointHit n s
  | .tokenExpiry t => Sys2Proof.Machine.execTokenExpiry t s
  | .fbCountEdge p a b z na nb nz t => Sys2Proof.Machine.execFbCountEdge p a b z na nb nz t s
  | .appliedPositionStep a t => Sys2Proof.Machine.execAppliedPositionStep a t s
  | .fastFilterSample p ch value t => Sys2Proof.Machine.execFastFilterSample p ch value t s
  | .plantFrameTx port => Sys2Proof.Machine.execPlantFrameTx port s
  | .streamBlockWrite => Sys2Proof.Machine.execStreamBlockWrite s
  | .slotWriteDone ok => Sys2Proof.Machine.execSlotWriteDone ok s
  | .securityEngineDone => Sys2Proof.Machine.execSecurityEngineDone s

end Sys2Proof.Machine
end

