-- ==== Sys2Proof/WellFormed.lean ====
section
/-! DEFINITION. What a command can carry: every operand within the field that the spec gives it. The types of Syntax.lean
already bound the instance numbers; here stand the widths of the other fields. -/

namespace Sys2Proof

/-- Fits in w bits. -/
def in_ (w v : Nat) : Bool := decide (v < 2 ^ w)
/-- Fits in w bits as a signed number. -/
def inI (w : Nat) (v : Int) : Bool := decide (-(2 ^ (w - 1)) ≤ v ∧ v < 2 ^ (w - 1))
/-- An aligned word of BAR0 (R550, R554). -/
def barWord (a : Nat) : Bool := decide (a % 4 = 0 ∧ a < 0x400000)

/-- A fetched command's fields hold what its 128-byte entry can (R530). -/
def HostCmd.wellFormed (c : HostCmd) : Bool :=
  in_ 8 c.cls && in_ 8 c.flags && in_ 16 c.plen && in_ 32 c.tag && in_ 32 c.deadline && in_ 32 c.arg && in_ 64 c.addr && in_ 32 c.ilen

/-- A wheel descriptor's fields hold what its 64 bytes can (R118). -/
def Descriptor.wellFormed (d : Descriptor) : Bool :=
  in_ 32 d.angle && in_ 32 d.pcyc && in_ 32 d.count && in_ 16 d.period && decide (d.dir ≤ 1) && in_ 8 d.action && in_ 8 d.target
    && in_ 32 d.width && in_ 8 d.group && in_ 16 d.key && in_ 16 d.handler && in_ 32 d.tag && decide (d.payload.length ≤ 32)

/-- The operands of a command fit their fields. -/
def Instr.wellFormed : Instr → Bool
  | .gridStep t => in_ 64 t
  | .currentLoopBoundary _ t => in_ 64 t
  | .loopTick _ _ t => in_ 64 t
  | .millisecondFrame t => in_ 64 t
  | .stagingClose _ t => in_ 64 t
  | .mirrorStale t => in_ 64 t
  | .cfgLoad => true
  | .loadComplete _ => true
  | .cfgShadow => true
  | .shadowLoadComplete _ => true
  | .nodePending _ _ t => in_ 64 t
  | .cfgDiscard => true
  | .cfgArmCo => true
  | .cfgCancelCo => true
  | .swapInstant => true
  | .coTimeout => true
  | .swapNotice => true
  | .changeoverReturn => true
  | .coPostcheck t => in_ 64 t
  | .modeReqRun key => in_ 16 key
  | .modeReqCommission key => in_ 16 key
  | .modeReqSafeHold key => in_ 16 key
  | .modeReqBare key => in_ 16 key
  | .modeReqTakeover key => in_ 16 key
  | .powerOnReset => true
  | .resetN low => in_ 64 low
  | .swrst key => in_ 16 key
  | .wdKick key t => in_ 16 key && in_ 64 t
  | .loamRelease key => in_ 16 key
  | .wdogExpired t => in_ 64 t
  | .watchdogReset t => in_ 64 t
  | .tempWarn _ _ => true
  | .thermReset _ => true
  | .resetRelease vinMv above _ _ _ => in_ 16 vinMv && in_ 64 above
  | .sanitiseDone _ => true
  | .recScanDone bad => (match bad with | some o => decide (o < 0x1000000) | none => true)
  | .verifyDone _ _ _ _ => true
  | .sysStartWrite _ => true
  | .vinBelowVwarn mv t => in_ 16 mv && in_ 64 t
  | .commitDone => true
  | .vinRecover mv minMv _ t => in_ 16 mv && in_ 16 minMv && in_ 64 t
  | .vinBelowVrst mv => in_ 16 mv
  | .vinOv mv => in_ 16 mv
  | .pcieReset => true
  | .refLost => true
  | .railFault monitor mv => decide (monitor ≤ 11) && in_ 16 mv
  | .ageingWarn _ _ => true
  | .monitorRecord _ _ _ => true
  | .wheelVspdWrite _ _ => true
  | .wheelVaccWrite _ => true
  | .wheelPhaseWrite _ => true
  | .masterLock => true
  | .masterUnlock => true
  | .masterLocked t => in_ 64 t
  | .masterResume => true
  | .masterOverspeed t => in_ 64 t
  | .wheelReversal t => in_ 64 t
  | .slotStage t => in_ 64 t
  | .wheelJump t => in_ 64 t
  | .pinSet handle t => in_ 24 handle && in_ 64 t
  | .pinClear handle t => in_ 24 handle && in_ 64 t
  | .pinPulse handle t => in_ 24 handle && in_ 64 t
  | .pinPulseEnd _ t => in_ 64 t
  | .foutSet handle t => in_ 24 handle && in_ 64 t
  | .foutClear handle t => in_ 24 handle && in_ 64 t
  | .foutPulse handle t => in_ 24 handle && in_ 64 t
  | .foutPulseEnd _ t => in_ 64 t
  | .dispatch handle t => in_ 24 handle && in_ 64 t
  | .segmentGo handle t => in_ 24 handle && in_ 64 t
  | .acqTrig handle t => in_ 24 handle && in_ 64 t
  | .latchArm handle t => in_ 24 handle && in_ 64 t
  | .latchWindowEnd _ t => in_ 64 t
  | .latchEdge _ _ _ t => in_ 64 t
  | .latchRead _ => true
  | .masterAngleRead => true
  | .wheelInsert => true
  | .wheelCancel handle => in_ 24 handle
  | .coreWheelInsert _ d => d.wellFormed
  | .coreWheelCancel _ handle => in_ 24 handle
  | .corePut _ queue _ _ => decide (queue < 16)
  | .sharedCellGrant => true
  | .dispatchStart => true
  | .handlerReturn _ _ => true
  | .handlerOverrun _ => true
  | .coreBusErr _ _ width => decide (1 ≤ width ∧ width ≤ 64)
  | .faultLogEntry => true
  | .recordWrite bad => (match bad with | some o => decide (o < 0x1000000) | none => true)
  | .recordOffer _ code prio _ => in_ 16 code && decide (prio ≤ 3)
  | .suppressed code t => in_ 16 code && in_ 64 t
  | .dropEpisodeEnd => true
  | .fbIllegalEdge _ _ _ _ _ _ _ t => in_ 64 t
  | .illegalBurst _ => true
  | .ssiFrame _ bits _ _ t => decide (bits.length ≤ 64) && in_ 64 t
  | .ssiLost _ => true
  | .hallInvalid _ t => in_ 64 t
  | .wireBreak _ _ _ t => in_ 64 t
  | .remoteAged _ => true
  | .fbFrozen _ => true
  | .fbLostClear _ _ => true
  | .indexEvent _ _ _ _ _ _ _ t => in_ 64 t
  | .fbIndexMissing _ => true
  | .refArm _ => true
  | .standstill _ t => in_ 64 t
  | .posSegment a start _ _ target vmax amax dmax jmax seq => in_ 8 a && decide (start ≤ 3) && inI 64 target && in_ 64 vmax && in_ 32 amax && in_ 32 dmax && in_ 32 jmax && in_ 32 seq
  | .velSegment a start _ target vmax amax dmax jmax seq => in_ 8 a && decide (start ≤ 3) && inI 64 target && in_ 64 vmax && in_ 32 amax && in_ 32 dmax && in_ 32 jmax && in_ 32 seq
  | .stopSegment a seq => in_ 8 a && in_ 32 seq
  | .limitsSegment a start vmax amax dmax jmax seq => in_ 8 a && decide (start ≤ 3) && in_ 64 vmax && in_ 32 amax && in_ 32 dmax && in_ 32 jmax && in_ 32 seq
  | .homeSegment a start _ target vmax amax dmax jmax param seq => in_ 8 a && decide (start ≤ 3) && inI 64 target && in_ 64 vmax && in_ 32 amax && in_ 32 dmax && in_ 32 jmax && in_ 32 param && in_ 32 seq
  | .setposSegment a start target seq => in_ 8 a && decide (start ≤ 3) && inI 64 target && in_ 32 seq
  | .followSegment a start _ vmax amax dmax jmax param seq => in_ 8 a && decide (start ≤ 3) && in_ 64 vmax && in_ 32 amax && in_ 32 dmax && in_ 32 jmax && in_ 32 param && in_ 32 seq
  | .segmentComplete _ => true
  | .plnStop _ => true
  | .plnQstop _ => true
  | .plnFlush _ => true
  | .plannerLimitWrite _ _ _ => true
  | .plnHomeFail _ => true
  | .followBlendEnd _ => true
  | .followGearWrite _ _ _ _ => true
  | .plnFollowLost _ => true
  | .rawMove _ _ => true
  | .rawDone _ => true
  | .holdCurrent _ => true
  | .resistanceLearn _ => true
  | .stpStallRisk _ => true
  | .stallRiskClear _ _ => true
  | .ppCal _ => true
  | .calDone _ _ _ _ t => in_ 64 t
  | .ppBridgeFault _ _ _ t => in_ 64 t
  | .ppOvercurrent _ _ _ => true
  | .ppBusUv _ => true
  | .ppBusOv _ => true
  | .ppSdLost _ _ _ => true
  | .ppFaultClear _ _ _ _ => true
  | .tickSectionStart _ entry _ t => in_ 12 entry && in_ 64 t
  | .engOverrun _ t => in_ 64 t
  | .engMac2 _ ecc _ _ => decide (ecc ≤ 2)
  | .engMpy _ ecc _ _ _ => decide (ecc ≤ 2)
  | .engMac _ ecc _ _ _ => decide (ecc ≤ 2)
  | .engMsu _ ecc _ _ _ => decide (ecc ≤ 2)
  | .engMpyi _ ecc _ _ _ _ => decide (ecc ≤ 2)
  | .engLdx _ ecc _ _ _ _ _ => decide (ecc ≤ 2)
  | .engLdxAdd _ ecc _ _ _ _ _ => decide (ecc ≤ 2)
  | .engLdxSub _ ecc _ _ _ _ _ => decide (ecc ≤ 2)
  | .engAdda _ ecc _ _ _ => decide (ecc ≤ 2)
  | .engSuba _ ecc _ _ _ => decide (ecc ≤ 2)
  | .engClmp _ ecc _ _ _ => decide (ecc ≤ 2)
  | .engNeg _ _ => true
  | .engAbs _ _ => true
  | .engStq _ _ _ _ => true
  | .engStl _ _ _ => true
  | .engDiff _ ecc _ _ _ => decide (ecc ≤ 2)
  | .engLd _ ecc _ _ => decide (ecc ≤ 2)
  | .engSt _ _ _ => true
  | .engAdd _ _ _ => true
  | .engSub _ _ _ => true
  | .engAnd _ _ _ => true
  | .engOr _ _ _ => true
  | .engShl _ _ _ => true
  | .engShr _ _ _ => true
  | .engSincos _ ecc _ _ => decide (ecc ≤ 2)
  | .engVmax _ ecc _ _ n => decide (ecc ≤ 2) && decide (1 ≤ n ∧ n ≤ 256)
  | .engVmin _ ecc _ _ n => decide (ecc ≤ 2) && decide (1 ≤ n ∧ n ≤ 256)
  | .engVmaxa _ ecc _ _ n => decide (ecc ≤ 2) && decide (1 ≤ n ∧ n ≤ 256)
  | .engBr _ _ target => in_ 12 target
  | .engLoop _ n last => decide (1 ≤ n) && in_ 12 last
  | .engTile _ _ => true
  | .engOutTq _ => true
  | .engOutDuty _ => true
  | .engOutGen _ => true
  | .engOutRmt _ => true
  | .engEnd _ t => in_ 64 t
  | .lpOsc _ => true
  | .oscClear _ _ => true
  | .solverWindowOpen _ _ t => in_ 64 t
  | .solverIteration _ t => in_ 64 t
  | .solverTest _ t => in_ 64 t
  | .factorisationDone _ t => in_ 64 t
  | .solverDeadline _ _ t => in_ 64 t
  | .solverPublish _ _ => true
  | .solEcc _ _ _ address => barWord address
  | .hardpanCycle t => in_ 64 t
  | .ssmExchange _ => true
  | .ssmXcmp _ => true
  | .ssmScanLost _ t => in_ 64 t
  | .violationLatchClear _ => true
  | .ssmCapStale => true
  | .channelExchange _ t => in_ 64 t
  | .safeXcmp _ _ t => in_ 64 t
  | .safeClk _ _ t => in_ 64 t
  | .safetyFrame _ _ _ _ _ t => in_ 64 t
  | .safeFrame _ _ t => in_ 64 t
  | .stoRestartRequest groups key => in_ 4 groups && in_ 16 key
  | .restartInput _ _ t => in_ 64 t
  | .safeStartFail _ t => in_ 64 t
  | .ss1Expire _ t => in_ 64 t
  | .outputTestPulse _ _ => true
  | .outputTestEnd _ _ => true
  | .safeTelegramRx _ t => in_ 64 t
  | .safeConnLost _ t => in_ 64 t
  | .safetyInputEval t => in_ 64 t
  | .safeInDisc _ t => in_ 64 t
  | .testPulseStart _ t => in_ 64 t
  | .testPulseCheck _ t => in_ 64 t
  | .safecfgRead _ _ t => in_ 64 t
  | .safecfgXcmp t => in_ 64 t
  | .doorOpen _ key => in_ 16 key
  | .doorClose _ key => in_ 16 key
  | .doorLock _ key => in_ 16 key
  | .doorStop _ key => in_ 16 key
  | .doorLearn _ key => in_ 16 key
  | .doorAck _ key => in_ 16 key
  | .doorConfChange _ _ t => in_ 64 t
  | .doorLockFail _ t => in_ 64 t
  | .doorArrived _ t => in_ 64 t
  | .doorPosMismatch _ t => in_ 64 t
  | .doorObstacle _ => true
  | .doorEdge _ _ => true
  | .doorLockset _ t => in_ 64 t
  | .ringCycle _ t => in_ 64 t
  | .ringFrameReturn _ _ _ _ _ t => in_ 64 t
  | .krNodeSilt _ _ => true
  | .foreignFrame _ => true
  | .ident _ _ _ => true
  | .layoutAck _ _ _ => true
  | .link _ _ _ _ _ t => in_ 64 t
  | .svcHandlerMessage _ _ => true
  | .claimSend _ t => in_ 64 t
  | .claimReturn _ _ => true
  | .claimWin _ t => in_ 64 t
  | .higherStandingFrame _ _ _ => true
  | .ringSilenced _ => true
  | .ringLinkChange _ _ _ => true
  | .closeReady _ t => in_ 64 t
  | .krClose _ key => in_ 16 key
  | .nodeWorkingPass _ _ _ _ _ t => in_ 64 t
  | .ptpSync _ => true
  | .ptpFollowUp _ => true
  | .ptpDelayReqSend _ t => in_ 64 t
  | .ptpDelayResp _ => true
  | .ptpPdelayReq _ _ => true
  | .ptpPdelayResp _ => true
  | .ptpPdelayRespFollowUp _ => true
  | .ptpAnnounce _ t => in_ 64 t
  | .announceTimeout t => in_ 64 t
  | .tcForward _ _ _ => true
  | .plantFrameRx etherType _ => in_ 16 etherType
  | .timeAccept key => in_ 16 key
  | .timeStep => true
  | .timeCfgWrite _ => true
  | .timePtpWrite _ => true
  | .timeRingHoldover => true
  | .timeNowRead => true
  | .loamCapture => true
  | .ckptChunkRx _ _ _ _ => true
  | .takeoverTrigger _ t => in_ 64 t
  | .redTakeoverCmd key => in_ 16 key
  | .takeoverRestored t => in_ 64 t
  | .redPeerLost _ => true
  | .faultMessage => true
  | .fltL1Timeout _ t => in_ 64 t
  | .fltAck key classes => in_ 16 key && in_ 4 classes
  | .fltClr key entry _ _ => in_ 16 key && in_ 7 entry
  | .fltRaise _ => true
  | .errSwWrite _ => true
  | .errminEnd t => in_ 64 t
  | .fltMsgRead => true
  | .acqArm => true
  | .acqStop => true
  | .acqForce => true
  | .acqRawSample t => in_ 64 t
  | .barrierRefreshTx _ t => in_ 64 t
  | .barrierRefreshRx _ _ _ _ _ _ _ _ t => in_ 64 t
  | .fieldBarrier _ t => in_ 64 t
  | .vfLow mv => in_ 16 mv
  | .vfLowclr mv => in_ 16 mv
  | .vfOff mv => in_ 16 mv
  | .vfOn mv t => in_ 16 mv && in_ 64 t
  | .recoverEnd t => in_ 64 t
  | .fioResume key => in_ 16 key
  | .fioTestWrite key _ => in_ 16 key
  | .fioOutWrite _ _ => true
  | .doorbell _ => true
  | .hostRingCfg _ _ => true
  | .commandFetch c => c.wellFormed
  | .hostSegment => true
  | .hostWheelIns => true
  | .hostWheelCancel => true
  | .slotWrite _ => true
  | .slotErase => true
  | .secureProvision _ => true
  | .secureAddKey _ _ _ => true
  | .secureRevoke _ _ _ => true
  | .secureSvn _ _ _ => true
  | .secureLifecycle _ _ _ => true
  | .attest _ => true
  | .hostCancel => true
  | .nop => true
  | .dbgToken _ _ _ => true
  | .hostHandlerCommand => true
  | .recoveryFlashWrite _ _ => true
  | .badAccess => true
  | .registerWrite address _ _ => barWord address
  | .readClear address => barWord address
  | .multiwordRead address => barWord address
  | .tapReset => true
  | .tapExtest _ _ => true
  | .tapSamplePreload _ _ => true
  | .tapIdcode => true
  | .tapDbgacc _ _ _ _ => true
  | .tapToken _ _ _ => true
  | .tapChal => true
  | .tapTaprst => true
  | .tapBypass => true
  | .dbgHalt key => in_ 16 key
  | .dbgResume key => in_ 16 key
  | .dbgStep key _ => in_ 16 key
  | .dbgRelock key => in_ 16 key
  | .dbgMemRd key => in_ 16 key
  | .dbgMemWr key _ => in_ 16 key
  | .breakpointHit _ => true
  | .tokenExpiry t => in_ 64 t
  | .fbCountEdge _ _ _ _ _ _ _ t => in_ 64 t
  | .appliedPositionStep _ t => in_ 64 t
  | .fastFilterSample _ _ _ t => in_ 64 t
  | .plantFrameTx _ => true
  | .streamBlockWrite => true
  | .slotWriteDone _ => true
  | .securityEngineDone => true

end Sys2Proof
end

