-- ==== Sys2Proof/Safety.lean ====
section
/-! DEFINITION. What counts as a safe run, in the terms that the statements use: stores in canonical form, commands that
wait well formed, and a mode of the table of R74. -/

namespace Sys2Proof.Machine

/-- The registers that an offer to the recorder may write. -/
def recRegs : List Nat := [REC_STAT, REC_CNT_DROP, REC_CNT_SUPP, REC_CNT_REF, HQ_CNT_REF 8, HQ_HWM 8]

/-- The registers that a mode change may write. -/
def modeRegs : List Nat := SYS_MODE :: recRegs

namespace State

/-- The register file is in its one canonical form: addresses strictly rising, no word listed that reads 0 anyway (R551). -/
def regsWf (s : State) : Bool := s.regs.wf 0

/-- Every command that waits carries operands that fit their fields. -/
def pendingWf (s : State) : Bool := s.pending.all Instr.wellFormed

/-- The mode is one of the twelve modes (R74). -/
def modeLegal (s : State) : Bool := s.mode ≤ mFAULT

/-- Every register but those listed reads the same word in t as in s. -/
def keeps (s t : State) (l : List Nat) : Prop := ∀ r, r ∉ l → t.rd r = s.rd r

/-- From s to t exactly one fault message set out to the collector, from this source, of this kind and class (R454). -/
def raisedOne (s t : State) (source kind cls : Nat) : Prop :=
  ∃ m, t.flt.path = s.flt.path ++ [m] ∧ m.source = source ∧ m.kind = kind ∧ m.cls = cls ∧ m.at_ = s.time.mono

/-- From s to t exactly one record was offered to the recorder, of this code and priority (R481 to R486). -/
def recorded (s t : State) (code prio : Nat) (payload : List Byte) : Prop :=
  t.recorder = (s.offerRec code prio payload).recorder ∧ t.hq = (s.offerRec code prio payload).hq

/-- The descriptor of handle h, with this action, is the one that fires at the monotonic count m, in the state u that W's storing
leaves: it stands, W has crossed its occurrence, its slot is staged, no crossed occurrence of its pin, output or angle acts
before it, the wheel acts in this mode and the action is permitted in it, and a field output's refresh departs (R117, R118,
R122, R128, R130, R132). -/
def firesAt (s u : State) (h m action : Nat) (x : WDesc) : Prop :=
  u = (s.runTo m).syncW ∧ u.descOf h = some x ∧ x.d.action = action ∧ u.due x = true ∧ u.dueWith x = [x] ∧ u.wheelOff = false ∧
    (u.mode = mCOMMISSION → x.d.comm = true) ∧ (x.d.isFout = true → u.refreshDue (foutDie x.d.target) = true)

/-- From s to t the release of a descriptor was offered to the recorder where it asks for that, with code 0x300, and nothing was
offered where it does not (R118, R489). The offer is made of a state v that reads as s does in all that an offer looks at. -/
def recordedRelease (s t : State) (x : WDesc) : Prop :=
  if x.d.recd then
    ∃ v : State, v.recorder = s.recorder ∧ v.hq = s.hq ∧ v.time.now = s.time.now ∧ v.time.mono = s.time.mono ∧ v.cycleInc = s.cycleInc ∧
      (∀ r ∈ recRegs, v.rd r = s.rd r) ∧
      v.recorded t 0x300 0 (natLE 4 x.handle ++ natLE 4 x.d.tag ++ natLE 4 x.d.angle ++ natLE 4 x.d.pcyc
        ++ natLE 1 x.d.action ++ natLE 1 x.d.target ++ natLE 1 0 ++ natLE 1 0)
  else t.recorder = s.recorder ∧ t.hq = s.hq

/-- From s to t the descriptor x moved on to its next occurrence, or left where it has none; the others stand as they stood, in
their order (R117). -/
def movedOn (s t : State) (x : WDesc) : Prop :=
  t.wheel.descs.map (fun y => (y.handle, y.seq, y.d)) = s.wheel.descs.filterMap (fun y =>
      if y.handle = x.handle then (y.d.later 1).map (fun d => (y.handle, y.seq, d)) else some (y.handle, y.seq, y.d)) ∧
    t.f WHEEL_OCC_COUNT = t.wheel.descs.length % 16777216

/-- The registers that taking groups to OFF may write: those of the groups, of the power ports and their tiles, and the count of
descriptors (R42, R215, R333). -/
def offRegs (s : State) : List Nat :=
  [SAFE_STO_STAT 0, SAFE_STO_STAT 1, SAFE_STO_STAT 2, SAFE_STO_STAT 3, WHEEL_OCC] ++ (List.range 32).flatMap (fun p =>
    let a := s.f (PP_CFG_TILE p)
    [PP_STAT p, TILE_STP_STAT a, TILE_STP_CUR a, TILE_FB_STAT a])

/-- From s to t the groups of a mask went to OFF in both channels, shown with a cause where they were not there yet, and no other
group changed (R333). -/
def wentOff (s t : State) (m cause : Nat) : Prop := ∀ g : Fin 4,
  (m.testBit g = true → (t.group 0 g).state = 0 ∧ (t.group 1 g).state = 0 ∧
    ((s.group 0 g).state ≠ 0 ∨ (s.group 1 g).state ≠ 0 → t.f (SAFE_STO_STAT_STATE g) = 0 ∧ t.f (SAFE_STO_STAT_CAUSE g) = cause)) ∧
  (m.testBit g = false → t.group 0 g = s.group 0 g ∧ t.group 1 g = s.group 1 g)

/-- From s to t nothing changed but what taking groups to OFF may change: the Hardpan's state, the items and descriptors that it
withdraws, the power ports and their tiles, fault messages and registers (R42, R215, R333). -/
def offFrame (s t : State) : Prop :=
  t = { s with time := { s.time with hits := t.time.hits }, hq := t.hq, wheel := t.wheel, tiles := t.tiles, pps := t.pps,
               safe := t.safe, flt := t.flt, regs := t.regs }

/-- w is the oldest command of its class at HQ5, is open, and its completion will be written (R531). -/
def hostOldest (s : State) (w : Work) (cls : Nat) : Prop :=
  s.hostNext cls = some w ∧ w.src = 5 ∧ s.flag HQ_CQ_CFG_EN = true ∧ s.f HQ_CQ_CFG_LOG2 ≤ 12 ∧
    ∃ o, s.host.opened.find? (fun (x : HostOpen) => x.id == w.id) = some o ∧ o.drop = false

/-- Where the next completion entry is written (R531). -/
def cqAddr (s : State) : Nat := s.rd2 HQ_CQ_BASE / 4096 * 4096 + 16 * (s.f HQ_CQ_TAIL_INDEX % s.cqSize)

/-- From s to t the command w completed with these codes: its entry stands in host memory, which is else unchanged, the tail
moved on, vector 0 fired, and w is neither open nor queued (R528, R531). -/
def answered (s t : State) (w : Work) (adm result value : Nat) : Prop :=
  (∃ ph, ph < 2 ∧ t.host.mem.getMany 0 s.cqAddr 12 =
    natLE 4 w.tag ++ natLE 1 adm ++ natLE 1 result ++ natLE 1 ph ++ natLE 1 0 ++ natLE 4 value) ∧
  (∀ a, a < s.cqAddr ∨ s.cqAddr + 16 ≤ a → t.host.mem.get 0 a = s.host.mem.get 0 a) ∧
  t.f HQ_CQ_TAIL_INDEX = (s.f HQ_CQ_TAIL_INDEX % s.cqSize + 1) % s.cqSize ∧
  t.host.msix.get 0 = s.host.msix.get 0 + 1 ∧
  t.host.opened = s.host.opened.filter (fun (x : HostOpen) => x.id != w.id) ∧
  (t.queue 5).items = (s.queue 5).items.filter (fun (i : QItem) => match i.body with | .work x => x.id != w.id | _ => true)

end State

/-- k steps from a state, stopping at the first that is not a next state. -/
def runSteps : Nat → State → Host.Outcome State Fault Refusal
  | 0, s => .next s
  | k + 1, s =>
    match step s with
    | .next s' => runSteps k s'
    | .fault r => .fault r
    | .refused r => .refused r

end Sys2Proof.Machine
end

