-- ==== Sys2Proof/Certificates/Slice0/Obligations.lean ====
section
/-! DEFINITION. The statements for the provers: what each family of commands does, what a step keeps, and what reset leaves.
`exec` is the command's effect on everything but the queue; a clause gives the state t it answers, the registers and fields that change, and
that all others do not. -/

open Sys2Proof Sys2Proof.Machine

/-- For every command c, queue cs and state s: where c :: cs waits, a step answers what c does on s with cs waiting.
The model's choices that clauses of it rest on are log 1. -/
def Obligations.StepRunsFront : Prop :=
  ∀ (s : State) (c : Instr) (cs : List Instr), s.pending = c :: cs → step s = exec c { s with pending := cs }

/-- With no command waiting a step lets one SYS cycle pass: the monotonic count advances by one, disciplined time by one increment; a new cycle begins, in which
hardware has set no bit yet and over the registers and clusters as they stand; nothing else changes. In RESET nothing changes. That a step is a cycle is the model's choice (log 1). -/
def Obligations.IdleStep : Prop :=
  (∀ s : State, s.pending = [] → s.mode = mRESET → step s = .next s) ∧
  (∀ s : State, s.pending = [] → s.mode ≠ mRESET →
    ∃ t, step s = .next t ∧ t.time.mono = s.time.mono + 1 ∧ t.time.now = s.time.now + s.cycleInc ∧
      t.time.elapsed = s.time.elapsed + s.cycleInc ∧ t.time.hits = [] ∧ t.time.was = s.regs ∧ t.clWas = s.clusters ∧
      t = { s with clWas := t.clWas, time := { s.time with mono := t.time.mono, now := t.time.now, elapsed := t.time.elapsed,
                                                            hits := t.time.hits, was := t.time.was } })

/-- For every command and every state, exec answers a next state, never a fault or a refusal, with the same commands waiting. What a command that is
refused by the hardware leaves (a code, a counter) is in that state.
The model's choices that clauses of it rest on are log 2, 3. -/
def Obligations.CommandsComplete : Prop :=
  ∀ (c : Instr) (s : State), ∃ t, exec c s = .next t ∧ t.pending = s.pending

/-- From every state, as many steps as commands wait all answer next states, and the last of them has an empty queue; k steps, for k not above that number, leave the
queue without its first k commands.
The model's choices that clauses of it rest on are log 1. -/
def Obligations.QueueIsWorkedOff : Prop :=
  ∀ (s : State) (k : Nat), k ≤ s.pending.length → ∃ t, runSteps k s = .next t ∧ t.pending = s.pending.drop k

/-- If the register file lists strictly rising addresses and no word that an unlisted register reads as, and a step answers next t, so it is in t; and so along any
number of steps. Equal register contents are thus equal data.
The model's choices that clauses of it rest on are log 1. -/
def Obligations.RegistersStayCanonical : Prop :=
  (∀ s t : State, s.regsWf = true → step s = .next t → t.regsWf = true) ∧
  (∀ (k : Nat) (s t : State), s.regsWf = true → runSteps k s = .next t → t.regsWf = true)

/-- If every command that waits is well formed and a step answers next t, every command that waits in t is, and they are those of s without the first.
The model's choices that clauses of it rest on are log 1. -/
def Obligations.QueueStaysWellFormed : Prop :=
  ∀ s t : State, s.pendingWf = true → step s = .next t → t.pendingWf = true ∧ t.pending = s.pending.tail

/-- After reset the register file is canonical, no command waits, the mode is legal and reads SANITISE (what the Reset column shows of SYS_MODE), every hardware queue is empty with the shared pool whole,
no core runs a handler, no image runs, no debug target is halted, and the identity word and the power-on cause read as their Reset columns say.
The model's choices that clauses of it rest on are log 4, 5, 7, 31. -/
def Obligations.ResetState : Prop :=
  State.reset.regsWf = true ∧ State.reset.pendingWf = true ∧ State.reset.modeLegal = true ∧ State.reset.pending = [] ∧ State.reset.mode = mSANITISE ∧
  (∀ n, (State.reset.queue n).items = []) ∧ State.reset.hq.pool = 65536 ∧
  (∀ c : Fin 8, (State.reset.sched.cores.get c).running = none ∧ (State.reset.sched.cores.get c).halted = false) ∧
  State.reset.cfg.run = none ∧ State.reset.cfg.shadow = none ∧ (∀ c : Fin 12, (State.reset.cl c).halted = false) ∧
  State.reset.rd SYS_ID = 0x00A11296 ∧ State.reset.f SYS_RST_CAUSE_CAUSE = 1 ∧ State.reset.host.opened = [] ∧ State.reset.flt.path = []

/-- Wherever the register takes writes: a word with more than one of the command bits of CFG_CTL set leaves MODE in CFG_ERR, and nothing else changes. -/
def Obligations.ConfigOneBit : Prop :=
  ∀ (s : State) (v : Word) (e : WriteEnv), s.writable CFG_CTL = true → v.toNat % 32 ∉ [0, 1, 2, 4, 8, 16] →
    ∃ t, exec (.registerWrite CFG_CTL v e) s = .next t ∧ t.rdN CFG_ERR = 0x10 ∧ s.keeps t [CFG_ERR] ∧ t = { s with regs := t.regs }

/-- From every state the PCIe reset answers a next state of the same mode: the endpoint's ring registers read 0, what is open will be dropped, and every other register and every other
part of the machine is as before, so a running cell runs on. -/
def Obligations.PcieResetOnly : Prop :=
  let rings := [HQ_HC_BASE 0, HQ_HC_BASE 1, HQ_CQ_BASE 0, HQ_CQ_BASE 1, HQ_HC_CFG, HQ_CQ_CFG, HQ_HC_TAIL, HQ_HC_HEAD, HQ_CQ_TAIL, HQ_CQ_HEAD]
  ∀ s : State, ∃ t, exec .pcieReset s = .next t ∧ t.mode = s.mode ∧ (∀ r ∈ rings, t.rd r = 0) ∧ s.keeps t rings ∧
    t = { s with regs := t.regs, host := { s.host with opened := s.host.opened.map (fun (o : HostOpen) => { o with drop := true }), wraps := 0 } }

/-- VIN below VRST, at every voltage up to its greatest value of 9.1 V: the mode is RESET and the cause VIN_LOW; where a commit of a snapshot is due and not done, the buffer that it goes to holds no snapshot, and the other one
holds what it held; where none is due, both hold what they held. VIN above VOV, at every voltage from its least value of 13.8 V, in every mode but RESET: PWR_STAT.OV is set, VIN_OV of class MAJOR is raised, the measured voltage shows, and nothing
else changes. A voltage on the other side of the threshold is no such event and changes nothing. -/
def Obligations.SupplyLimits : Prop :=
  (∀ (s : State) (v : Nat), v ≤ 9100 → ∃ t, exec (.vinBelowVrst v) s = .next t ∧ t.mode = mRESET ∧ t.f SYS_RST_CAUSE_CAUSE = 2 ^ rcVIN_LOW ∧
    (∀ b, b ≠ s.olderBuf → t.nv.loam.get b = s.nv.loam.get b) ∧
    (s.sys.commitDue = true → s.sys.commitSnap = true → s.loamHeld = false → t.nv.loam.get s.olderBuf = none) ∧
    (s.sys.commitDue = false → t.nv.loam = s.nv.loam)) ∧
  (∀ (s : State) (v : Nat), 9100 < v → exec (.vinBelowVrst v) s = .next s) ∧
  (∀ (s : State) (v : Nat), 13800 ≤ v → s.mode ≠ mRESET →
    ∃ t, exec (.vinOv v) s = .next t ∧ t.f PWR_STAT_OV = 1 ∧ t.f PWR_VIN_VIN_MV = v % 65536 ∧ s.raisedOne t 0xDA 0x03 cMAJOR ∧
    (∀ x : Fld, x.reg = PWR_STAT → x.lo + x.width ≤ PWR_STAT_OV.lo ∨ PWR_STAT_OV.lo + 1 ≤ x.lo → t.f x = s.f x) ∧
    s.keeps t [PWR_VIN, PWR_STAT] ∧ t = { s with flt := t.flt, time := { s.time with hits := t.time.hits }, regs := t.regs }) ∧
  (∀ (s : State) (v : Nat), v < 13800 → exec (.vinOv v) s = .next s)

/-- Dispatch. SHARED_CELL_GRANT completes in every state: of each queue the oldest waiting items, in their order, enter at its end, and it changes only queues, ready lists and high-water
marks; where no producer waits, nothing changes. DISPATCH_START with dispatch stopped does nothing; where deficit round robin picks an item, the item leaves its ready list and runs on
its core, header and payload in the core's inbox, or ends with ADM_CANCELLED where HANDLERS does not have its handler; where it picks none, at most pointer and quantum change.
HANDLER_RETURN frees the core and reports the item's end. HANDLER_OVERRUN of a handler past its budget, and CORE_BUS_ERR of an access that the local address space does not have, end the
handler with 0xFF, count it and raise one MAJOR fault; without such a handler or access nothing changes. PLANT_FRAME_TX takes the oldest frame of the port out of HQ14 and sends it.
The model's choices that clauses of it rest on are log 67, 68, 69, 71, 192. -/
def Obligations.DispatchRuns : Prop :=
  (∀ s : State, (∀ n, (s.queue n).waiting = []) → exec .sharedCellGrant s = .next s) ∧
  (∀ s : State, ∃ t, exec .sharedCellGrant s = .next t ∧
    (∀ n, ∃ l, (s.queue n).waiting = l ++ (t.queue n).waiting ∧ (t.queue n).items = (s.queue n).items ++ l) ∧
    (∀ r, (∀ n : Fin 16, r ≠ HQ_HWM n) → t.rd r = s.rd r) ∧ t = { s with hq := t.hq, sched := t.sched, regs := t.regs }) ∧
  (∀ (s u : State) (n : Fin 16) (b : Nat) (c : Nat), (∀ m, m ≠ n → (s.queue m).waiting = []) →
    (s.queue n).waiting = [⟨c, .block b⟩] → s.offer n ⟨c, .block b⟩ = some u → s.stopped = false ∨ n ≠ 4 →
    ∃ t, exec .sharedCellGrant s = .next t ∧ (t.queue n).items = (s.queue n).items ++ [⟨c, .block b⟩] ∧
      (t.queue n).waiting = [] ∧ (∀ m, m ≠ n → t.queue m = s.queue m) ∧ s.keeps t [HQ_HWM n] ∧
      t = { s with hq := t.hq, regs := t.regs }) ∧
  (∀ s : State, s.flag SCHED_STAT_STOPPED = true → exec .dispatchStart s = .next s) ∧
  (∀ s : State, s.flag SCHED_STAT_STOPPED = false → s.nextStart = none → ∃ t, exec .dispatchStart s = .next t ∧
    (s.anyFree = true → s.sched.quantum ≠ 0 → t.sched.pointer = (s.sched.pointer + 1) % 8 ∧ t.sched.quantum = 0) ∧
    (s.anyFree = false ∨ s.sched.quantum = 0 → t = s) ∧
    t = { s with sched := { s.sched with pointer := t.sched.pointer, quantum := t.sched.quantum, judged := t.sched.judged } }) ∧
  (∀ (s : State) (w : Work) (c : Fin 8) (p q : Nat) (h : Handler), s.flag SCHED_STAT_STOPPED = false → s.nextStart = some (w, c, p, q) →
    s.st.handlers.find? (fun (x : Handler) => x.index == w.handler) = some h →
    ∃ t, exec .dispatchStart s = .next t ∧ (t.sched.cores.get c).running = some w ∧ (t.sched.cores.get c).inbox = w.payload ∧
      (∀ k, k ≠ c → t.sched.cores.get k = s.sched.cores.get k) ∧
      t.sched.ready = s.sched.ready.filter (fun x => x.id != w.id) ∧ t.sched.pointer = p ∧ t.sched.quantum = q ∧
      (t.mem.core.get c).getMany 0 0x7C040 w.payload.length = w.payload ∧
      t.f ⟨SCHED_STAT, c, 1⟩ = 1 ∧ t.f (SCHED_CORE_HANDLER c) = w.handler % 65536 ∧ t.f (SCHED_CORE_KEY c) = w.key % 65536 ∧
      s.keeps t [SCHED_STAT, SCHED_CORE c] ∧ t = { s with sched := t.sched, hq := t.hq, mem := t.mem, regs := t.regs }) ∧
  (∀ (s : State) (w : Work) (c : Fin 8) (p q : Nat), s.flag SCHED_STAT_STOPPED = false → s.nextStart = some (w, c, p, q) →
    s.st.handlers.find? (fun (x : Handler) => x.index == w.handler) = none →
    ∃ u : State, exec .dispatchStart s = .next (u.endWork w admCANCELLED 0) ∧ u.sched.ready = s.sched.ready.filter (fun x => x.id != w.id) ∧
      u.sched.cores = s.sched.cores ∧ u.sched.pointer = p ∧ u.sched.quantum = q ∧ u = { s with sched := u.sched, hq := u.hq }) ∧
  (∀ (s : State) (c : Fin 8) (b : Byte), (s.sched.cores.get c).running = none → exec (.handlerReturn c b) s = .next s) ∧
  (∀ (s : State) (c : Fin 8) (b : Byte) (w : Work), (s.sched.cores.get c).running = some w →
    ∃ u : State, exec (.handlerReturn c b) s = .next (u.endWork w admOK b.toNat) ∧ (w.src ≠ 5 → u.endWork w admOK b.toNat = u) ∧
      (u.sched.cores.get c).running = none ∧ u.f ⟨SCHED_STAT, c, 1⟩ = 0 ∧
      (∀ k, k ≠ c → u.sched.cores.get k = s.sched.cores.get k) ∧ u.sched.ready = s.sched.ready ∧ s.keeps u [SCHED_STAT] ∧
      u = { s with sched := u.sched, regs := u.regs }) ∧
  (∀ (s : State) (c : Fin 8) (w : Work), (s.sched.cores.get c).running = some w → (s.sched.cores.get c).halted = false → s.pastBudget c = true →
    ∃ u : State, exec (.handlerOverrun c) s = .next ((((u.endWork w admOK 255).hit SCHED_STAT_OVERRUN).bump SCHED_CNT_OVR).raise
        (mkFault (0x78 + c) 0x08 cMAJOR 0 [.inst c, .val w.handler])) ∧
      (u.sched.cores.get c).running = none ∧ u.f ⟨SCHED_STAT, c, 1⟩ = 0 ∧ (∀ k, k ≠ c → u.sched.cores.get k = s.sched.cores.get k) ∧
      u.sched.ready = s.sched.ready ∧ s.keeps u [SCHED_STAT] ∧ u = { s with sched := u.sched, regs := u.regs }) ∧
  (∀ (s : State) (c : Fin 8) (w : Work), (s.sched.cores.get c).running = some w → w.src ≠ 5 → (s.sched.cores.get c).halted = false →
    s.pastBudget c = true →
    ∃ t, exec (.handlerOverrun c) s = .next t ∧ (t.sched.cores.get c).running = none ∧ t.f SCHED_STAT_OVERRUN = 1 ∧
      t.rdN SCHED_CNT_OVR = min (s.rdN SCHED_CNT_OVR + 1) 4294967295 ∧ s.raisedOne t (0x78 + c) 0x08 cMAJOR ∧
      s.keeps t [SCHED_STAT, SCHED_CNT_OVR] ∧
      t = { s with sched := t.sched, flt := t.flt, time := { s.time with hits := t.time.hits }, regs := t.regs }) ∧
  (∀ (s : State) (c : Fin 8), (s.sched.cores.get c).running = none ∨ (s.sched.cores.get c).halted = true ∨ s.pastBudget c = false →
    exec (.handlerOverrun c) s = .next s) ∧
  (∀ (s : State) (c : Fin 8) (a : Word) (k : Nat) (w : Work), (s.sched.cores.get c).running = some w → State.busError a.toNat k = true →
    ∃ u : State, exec (.coreBusErr c a k) s = .next (((u.endWork w admOK 255).bump SCHED_CNT_OVR).raise
        (mkFault (0x78 + c) 0x07 cMAJOR 0 [.inst c, .val a.toNat])) ∧
      (u.sched.cores.get c).running = none ∧ u.f ⟨SCHED_STAT, c, 1⟩ = 0 ∧ (∀ j, j ≠ c → u.sched.cores.get j = s.sched.cores.get j) ∧
      u.sched.ready = s.sched.ready ∧ s.keeps u [SCHED_STAT] ∧ u = { s with sched := u.sched, regs := u.regs }) ∧
  (∀ (s : State) (c : Fin 8) (a : Word) (k : Nat) (w : Work), (s.sched.cores.get c).running = some w → w.src ≠ 5 → State.busError a.toNat k = true →
    ∃ t, exec (.coreBusErr c a k) s = .next t ∧ (t.sched.cores.get c).running = none ∧
      t.rdN SCHED_CNT_OVR = min (s.rdN SCHED_CNT_OVR + 1) 4294967295 ∧ s.raisedOne t (0x78 + c) 0x07 cMAJOR ∧
      s.keeps t [SCHED_STAT, SCHED_CNT_OVR] ∧ t = { s with sched := t.sched, flt := t.flt, regs := t.regs }) ∧
  (∀ (s : State) (c : Fin 8) (a : Word) (k : Nat), (s.sched.cores.get c).running = none ∨ State.busError a.toNat k = false →
    exec (.coreBusErr c a k) s = .next s) ∧
  (∀ (s : State) (p : Fin 2), (∀ i ∈ (s.queue 14).items, (∀ bs, i.body ≠ .frame p bs) ∧ (∀ x : PtpTx, i.body = .ptp x → x.port ≠ p)) →
    exec (.plantFrameTx p) s = .next s) ∧
  (∀ (s : State) (p : Fin 2) (l is : List QItem) (k : Nat) (bs : List Byte), (s.queue 14).items = l ++ ⟨k, .frame p bs⟩ :: is →
    (∀ i ∈ l, (∀ b, i.body ≠ .frame p b) ∧ (∀ x : PtpTx, i.body = .ptp x → x.port ≠ p)) →
    ∃ t, exec (.plantFrameTx p) s = .next t ∧ (t.queue 14).items = l ++ is ∧ (∀ m, m ≠ 14 → t.queue m = s.queue m) ∧
      (p.val, bs) ∈ t.time.out ∧ (∀ y, y ∈ t.time.out → y.1 = p.val → y.2 = bs) ∧
      t = { s with hq := t.hq, time := { s.time with out := t.time.out } }) ∧
  (∀ (s : State) (p : Fin 2) (l is : List QItem) (k : Nat) (x : PtpTx), (s.queue 14).items = l ++ ⟨k, .ptp x⟩ :: is → x.port = p.val →
    (∀ i ∈ l, (∀ b, i.body ≠ .frame p b) ∧ (∀ y : PtpTx, i.body = .ptp y → y.port ≠ p)) →
    ∃ t, exec (.plantFrameTx p) s = .next t ∧ (t.queue 14).items = l ++ is ∧ (∀ m, m ≠ 14 → t.queue m = s.queue m) ∧
      x ∈ t.time.sent ∧ t = { s with hq := t.hq, time := { s.time with sent := t.time.sent } })

/-- The recorder. REC_SCAN_DONE of a running scan shows READY and writes START as the first record, and without one does nothing. RECORD_WRITE does nothing before READY or with nothing waiting; else it writes
the waiting FAULT record, or without one the item of HQ8 of highest priority, oldest of it, which leaves HQ8, as R476 lays it out, with the valid mark of its SEQ in its last four bytes; head and SEQ move on, and no other byte
of MRAM changes (where the record fits in its block; else a pad record fills the block first). RECORD_OFFER by an event core of a code below 0x1000, or of one that RECCODES does not define, is refused with
ADM_STRUCTURE, and one that is too long with ADM_BUDGET; both are counted. By a block, of a code below 0x100 and with room, it stands last in HQ8 with priority 3; of a code with a rate entry it
takes a token and stands last in HQ8 with the entry's priority, or without a token is suppressed and counted; without room and not above what is queued it is dropped. SUPPRESSED without a full bucket of suppressed occurrences passes time
alone, with one it clears the bucket's count and queues the summary. DROP_EPISODE_END closes the episode once HQ8 holds no more than half its reserve, and else does nothing.
The model's choices that clauses of it rest on are log 2, 132. -/
def Obligations.RecorderRuns : Prop :=
  (∀ (s : State) (bad : Option Nat), s.flag REC_STAT_SCANNING = false → exec (.recScanDone bad) s = .next s) ∧
  (∀ (s : State) (bad : Option Nat), s.flag REC_STAT_SCANNING = true →
    ∃ t, exec (.recScanDone bad) s = .next t ∧ t.f REC_STAT_READY = 1 ∧ t.f REC_STAT_SCANNING = 0 ∧
    s.keeps t [REC_STAT, REC_HEAD, REC_HEAD_SEQ, REC_OLD, REC_OLD_SEQ, REC_SCAN, REC_CNT_REC, REC_WRAPS] ∧
    t = { s with recorder := t.recorder, nv := t.nv, flt := t.flt, time := { s.time with hits := t.time.hits }, regs := t.regs }) ∧
  (∀ (s u : State) (bad : Option Nat), s.flag REC_STAT_SCANNING = true → s.sys.sanitiseFail = none →
    u = ((s.recScan.recMramErr bad).setF REC_STAT_SCANNING 0).setF REC_STAT_READY 1 →
    u.rdN REC_HEAD % 65536 + recLen u.startRecord.payload.length ≤ 65536 → u.rdN REC_HEAD < 16777216 →
    ∃ t, exec (.recScanDone bad) s = .next t ∧
      t.nv.mram.getMany 0 (u.rdN REC_HEAD) (24 + u.startRecord.payload.length) = recHeader u.startRecord (u.rdN REC_HEAD_SEQ) s.sys.flushing ∧
      t.nv.mram.getMany 0 (u.rdN REC_HEAD + recLen u.startRecord.payload.length - 4) 4 = natLE 4 (recMark (u.rdN REC_HEAD_SEQ)) ∧
      t.rdN REC_HEAD = (u.rdN REC_HEAD + recLen u.startRecord.payload.length) % 16777216 ∧
      t.rdN REC_HEAD_SEQ = (u.rdN REC_HEAD_SEQ + 1) % 4294967296) ∧
  (∀ (s : State) (a : Nat), s.flag REC_STAT_SCANNING = true → ∃ t, exec (.recScanDone (some a)) s = .next t ∧ t.f REC_STAT_MRAM_ERR = 1) ∧
  (∀ (s : State) (bad : Option Nat), s.flag REC_STAT_READY = false ∨ (s.recorder.faultReady = [] ∧ (s.queue 8).items = []) →
    exec (.recordWrite bad) s = .next s) ∧
  (∀ (s : State) (bad : Option Nat) (r : RecItem) (rs : List RecItem), s.flag REC_STAT_READY = true → s.recorder.faultReady = r :: rs →
    exec (.recordWrite bad) s = .next (({ s with recorder := { s.recorder with faultReady := rs } }.recWrite r).recMramErr bad)) ∧
  (∀ (s : State) (bad : Option Nat) (r : RecItem) (ix len : Nat), s.flag REC_STAT_READY = true → s.recorder.faultReady = [] →
    s.recNext = some (ix, ⟨len, .record r⟩) → exec (.recordWrite bad) s = .next (((s.recRemove ix ((len + 63) / 64)).recWrite r).recMramErr bad)) ∧
  (∀ (s : State) (r : RecItem) (rs : List RecItem), s.flag REC_STAT_READY = true → s.recorder.faultReady = r :: rs →
    s.rdN REC_HEAD % 65536 + recLen r.payload.length ≤ 65536 → s.rdN REC_HEAD < 16777216 →
    ∃ t, exec (.recordWrite none) s = .next t ∧ t.recorder.faultReady = rs ∧
      t.nv.mram.getMany 0 (s.rdN REC_HEAD) (24 + r.payload.length) = recHeader r (s.rdN REC_HEAD_SEQ) s.sys.flushing ∧
      t.nv.mram.getMany 0 (s.rdN REC_HEAD + recLen r.payload.length - 4) 4 = natLE 4 (recMark (s.rdN REC_HEAD_SEQ)) ∧
      t.rdN REC_HEAD = (s.rdN REC_HEAD + recLen r.payload.length) % 16777216 ∧
      t.rdN REC_HEAD_SEQ = (s.rdN REC_HEAD_SEQ + 1) % 4294967296 ∧
      (∀ x, x < s.rdN REC_HEAD ∨ s.rdN REC_HEAD + recLen r.payload.length ≤ x → t.nv.mram.get 0 x = s.nv.mram.get 0 x) ∧
      s.keeps t [REC_STAT, REC_HEAD, REC_HEAD_SEQ, REC_OLD, REC_OLD_SEQ, REC_CNT_REC, REC_WRAPS] ∧
      t = { s with recorder := t.recorder, nv := t.nv, regs := t.regs }) ∧
  (∀ (s : State) (r : RecItem) (ix len : Nat), s.flag REC_STAT_READY = true → s.recorder.faultReady = [] →
    s.recNext = some (ix, ⟨len, .record r⟩) → s.rdN REC_HEAD % 65536 + recLen r.payload.length ≤ 65536 → s.rdN REC_HEAD < 16777216 →
    ∃ t, exec (.recordWrite none) s = .next t ∧ (t.queue 8).items = (s.queue 8).items.eraseIdx ix ∧ (∀ m, m ≠ 8 → t.queue m = s.queue m) ∧
      t.nv.mram.getMany 0 (s.rdN REC_HEAD) (24 + r.payload.length) = recHeader r (s.rdN REC_HEAD_SEQ) s.sys.flushing ∧
      t.nv.mram.getMany 0 (s.rdN REC_HEAD + recLen r.payload.length - 4) 4 = natLE 4 (recMark (s.rdN REC_HEAD_SEQ)) ∧
      t.rdN REC_HEAD = (s.rdN REC_HEAD + recLen r.payload.length) % 16777216 ∧
      t.rdN REC_HEAD_SEQ = (s.rdN REC_HEAD_SEQ + 1) % 4294967296 ∧
      (∀ x, x < s.rdN REC_HEAD ∨ s.rdN REC_HEAD + recLen r.payload.length ≤ x → t.nv.mram.get 0 x = s.nv.mram.get 0 x) ∧
      s.keeps t [REC_STAT, REC_HEAD, REC_HEAD_SEQ, REC_OLD, REC_OLD_SEQ, REC_CNT_REC, REC_WRAPS] ∧
      t = { s with recorder := t.recorder, hq := t.hq, nv := t.nv, regs := t.regs }) ∧
  (∀ (s : State) (c : Fin 8) (code prio : Nat) (p : List Byte), ((s.sched.cores.get c).running = none ∨ (s.sched.cores.get c).halted = true) →
    exec (.recordOffer (some c) code prio p) s = .next s) ∧
  (∀ (s : State) (c : Fin 8) (code prio : Nat) (p : List Byte), (s.sched.cores.get c).running.isSome = true → (s.sched.cores.get c).halted = false →
    (code < 0x1000 ∨ (code < 0x8000 ∧ s.recEntry code = none)) →
    ∃ t, exec (.recordOffer (some c) code prio p) s = .next t ∧ t.rdN REC_CNT_REF = min (s.rdN REC_CNT_REF + 1) 4294967295 ∧
      (t.sched.cores.get c).result = BitVec.ofNat 32 admSTRUCTURE ∧ s.keeps t [REC_CNT_REF] ∧
      t = { s with sched := t.sched, regs := t.regs }) ∧
  (∀ (s : State) (c : Fin 8) (code prio : Nat) (p : List Byte), (s.sched.cores.get c).running.isSome = true → (s.sched.cores.get c).halted = false →
    0x8000 ≤ code → 996 < p.length →
    ∃ t, exec (.recordOffer (some c) code prio p) s = .next t ∧ t.rdN REC_CNT_REF = min (s.rdN REC_CNT_REF + 1) 4294967295 ∧
      (t.sched.cores.get c).result = BitVec.ofNat 32 admBUDGET ∧ s.keeps t [REC_CNT_REF] ∧ t = { s with sched := t.sched, regs := t.regs }) ∧
  (∀ (s : State) (c : Fin 8) (code prio : Nat) (p : List Byte), (s.sched.cores.get c).running.isSome = true → (s.sched.cores.get c).halted = false →
    ∃ (u : State) (k : Nat), (u, k) = s.recOffer true { code := code, prio := prio % 4, payload := p, time := s.time.now, firmware := true } ∧
      exec (.recordOffer (some c) code prio p) s = .next (u.setResult c k 0)) ∧
  (∀ (s : State) (code prio : Nat) (p : List Byte), 0x1000 ≤ code →
    ∃ t, exec (.recordOffer none code prio p) s = .next t ∧ t.rdN REC_CNT_REF = min (s.rdN REC_CNT_REF + 1) 4294967295 ∧ s.keeps t [REC_CNT_REF] ∧
      t = { s with regs := t.regs }) ∧
  (∀ (s u : State) (code prio : Nat) (p : List Byte), code < 0x100 → p.length ≤ 996 → s.recEntry code = none →
    s.offer 8 ⟨8 + p.length, .record ⟨code, 3, p, s.time.now, false⟩⟩ = some u →
    ∃ t, exec (.recordOffer none code prio p) s = .next t ∧
      (t.queue 8).items = (s.queue 8).items ++ [⟨8 + p.length, .record ⟨code, 3, p, s.time.now, false⟩⟩] ∧
      (∀ m, m ≠ 8 → t.queue m = s.queue m) ∧ s.keeps t [HQ_HWM 8] ∧ t = { s with hq := t.hq, regs := t.regs }) ∧
  (∀ (s u : State) (code prio : Nat) (p : List Byte) (b0 b : RecBucket), 0x100 ≤ code → code < 0x1000 → p.length ≤ 996 → s.recEntry code = some b0 →
    p.length ≤ b0.plenMax → b = b0.fill s.cycleInc (s.time.mono - 1) → b.rate = 0 ∨ tokenUnit ≤ b.tokens → b.supp = 0 →
    s.offer 8 ⟨8 + p.length, .record ⟨code, b0.prio, p, s.time.now, false⟩⟩ = some u →
    ∃ t, exec (.recordOffer none code prio p) s = .next t ∧
      (t.queue 8).items = (s.queue 8).items ++ [⟨8 + p.length, .record ⟨code, b0.prio, p, s.time.now, false⟩⟩] ∧
      t.recorder.buckets = s.recorder.buckets.map (fun (x : RecBucket) =>
        if x.code == b.code then { b with tokens := if b.rate = 0 then b.tokens else b.tokens - tokenUnit, supp := 0 } else x) ∧
      (∀ m, m ≠ 8 → t.queue m = s.queue m) ∧ s.keeps t [HQ_HWM 8] ∧ t = { s with hq := t.hq, recorder := t.recorder, regs := t.regs }) ∧
  (∀ (s : State) (code prio : Nat) (p : List Byte) (b0 b : RecBucket), 0x100 ≤ code → code < 0x1000 → p.length ≤ 996 → s.recEntry code = some b0 →
    p.length ≤ b0.plenMax → b = b0.fill s.cycleInc (s.time.mono - 1) → b.rate ≠ 0 → b.tokens < tokenUnit →
    ∃ t, exec (.recordOffer none code prio p) s = .next t ∧ t.f REC_STAT_SUPP = 1 ∧ t.rdN REC_CNT_SUPP = min (s.rdN REC_CNT_SUPP + 1) 4294967295 ∧
      t.recorder.buckets = s.recorder.buckets.map (fun (x : RecBucket) => if x.code == b.code then
        { b with supp := b.supp + 1, first := if b.supp = 0 then s.time.now else b.first, last := s.time.now } else x) ∧
      s.keeps t [REC_STAT, REC_CNT_SUPP] ∧
      t = { s with recorder := t.recorder, time := { s.time with hits := t.time.hits }, regs := t.regs }) ∧
  (∀ (s : State) (code prio : Nat) (p : List Byte), code < 0x100 → p.length ≤ 996 → s.recEntry code = none →
    s.offer 8 ⟨8 + p.length, .record ⟨code, 3, p, s.time.now, false⟩⟩ = none → (∀ i ∈ (s.queue 8).items, 3 ≤ Body.prioOf i) →
    ∃ t, exec (.recordOffer none code prio p) s = .next t ∧ t.rdN REC_CNT_DROP = min (s.rdN REC_CNT_DROP + 1) 4294967295 ∧ t.f REC_STAT_EPISODE = 1 ∧
      (∀ m, t.queue m = s.queue m) ∧ s.keeps t [REC_STAT, REC_CNT_DROP, HQ_CNT_REF 8] ∧
      t = { s with recorder := t.recorder, time := { s.time with hits := t.time.hits }, regs := t.regs }) ∧
  (∀ (s : State) (code m : Nat), s.recEntry code = none → exec (.suppressed code m) s = .next (s.runTo m)) ∧
  (∀ (s : State) (code m : Nat) (b w : RecBucket), s.recEntry code = some b → w = b.fill s.cycleInc (s.runTo m).time.mono →
    w.supp = 0 ∨ w.tokens ≠ w.burst * tokenUnit → exec (.suppressed code m) s = .next (s.runTo m)) ∧
  (∀ (s u : State) (code m : Nat) (b w : RecBucket), s.recEntry code = some b → w = b.fill s.cycleInc (s.runTo m).time.mono → w.supp ≠ 0 →
    w.tokens = w.burst * tokenUnit →
    ((s.runTo m).putBucket { w with supp := 0 }).offer 8
      ⟨8 + (w.summary (s.runTo m).time.now).payload.length, .record (w.summary (s.runTo m).time.now)⟩ = some u →
    ∃ t, exec (.suppressed code m) s = .next t ∧
      (t.queue 8).items = (s.queue 8).items ++
        [⟨8 + (w.summary (s.runTo m).time.now).payload.length, .record (w.summary (s.runTo m).time.now)⟩] ∧
      t.recorder.buckets = s.recorder.buckets.map (fun (x : RecBucket) => if x.code == w.code then { w with supp := 0 } else x) ∧
      s.keeps t [HQ_HWM 8] ∧ t = { s.runTo m with recorder := t.recorder, hq := t.hq, regs := t.regs }) ∧
  (∀ s : State, s.recorder.episode = none ∨ (s.queue 8).reserved < 2 * (s.queue 8).cells → exec .dropEpisodeEnd s = .next s) ∧
  (∀ (s : State) (cnt : List Nat) (first : Instant), s.recorder.episode = some (cnt, first) →
    2 * (s.queue 8).cells ≤ (s.queue 8).reserved →
    ∃ t, exec .dropEpisodeEnd s = .next t ∧ s.raisedOne t srcREC 0x88 cMINOR ∧ s.keeps t recRegs ∧
      t = { s with recorder := t.recorder, hq := t.hq, flt := t.flt, time := { s.time with hits := t.time.hits }, regs := t.regs })

/-- Writes to the master, where the register map takes them; else they change nothing. Word 0 of WHEEL_VSPD waits and changes nothing in force; word 1 puts both words in force unless the
speed exceeds WHEEL_VMAX, which sets VSPD_REFUSED alone. An accepted speed takes a virtual master from HOLD to FREE and from
LOCKED or PULL to PULL. WHEEL_VACC and WHEEL_PHASE take the written word. LOCK starts PULL from FREE with a speed and
synchronised plant time, is refused elsewhere, and changes nothing where pull-in or lock stands; clearing it in PULL or LOCKED gives FREE, and elsewhere clears the bit alone. A held real master whose port's feedback
is neither lost nor frozen resumes from the held value, any other does not. A wheel held by FAULT with HOLD changes by none of these.
The model's choices that clauses of it rest on are log 62, 64. -/
def Obligations.MasterWrites : Prop :=
  (∀ (s : State) (w : Fin 2) (v : Word), s.mapOpen = false →
    exec (.wheelVspdWrite w v) s = .next s ∧ exec (.wheelVaccWrite v) s = .next s ∧ exec (.wheelPhaseWrite v) s = .next s ∧
    exec .masterLock s = .next s ∧ exec .masterUnlock s = .next s ∧ exec .masterResume s = .next s) ∧
  (∀ (s : State) (v : Word), s.mapOpen = true → ∃ t, exec (.wheelVspdWrite 0 v) s = .next t ∧ t.lowWord (WHEEL_VSPD 0) = v ∧
    t = { s with lowWords := t.lowWords }) ∧
  (∀ (s : State) (v : Word), s.mapOpen = true → s.wheelHeld = true → ∃ t, exec (.wheelVspdWrite 1 v) s = .next t ∧ t = { s with lowWords := t.lowWords }) ∧
  (∀ (s : State) (v : Word) (n : Nat), s.mapOpen = true → s.wheelHeld = false → n = (s.lowWord (WHEEL_VSPD 0)).toNat + 4294967296 * v.toNat →
    signed 64 (s.rd2 WHEEL_VMAX) < |signed 64 n| →
    ∃ t, exec (.wheelVspdWrite 1 v) s = .next t ∧ t.f WHEEL_STAT_VSPD_REFUSED = 1 ∧ s.keeps t [WHEEL_STAT] ∧
      t = { s with lowWords := t.lowWords, time := { s.time with hits := t.time.hits }, regs := t.regs }) ∧
  (∀ (s : State) (v : Word) (n : Nat), s.mapOpen = true → s.wheelHeld = false → n = (s.lowWord (WHEEL_VSPD 0)).toNat + 4294967296 * v.toNat →
    |signed 64 n| ≤ signed 64 (s.rd2 WHEEL_VMAX) →
    ∃ t, exec (.wheelVspdWrite 1 v) s = .next t ∧ t.rd2 WHEEL_VSPD = n ∧
      (s.flag WHEEL_MST_CTL_SRC = true → t.mst = s.mst) ∧
      (s.flag WHEEL_MST_CTL_SRC = false → s.mst = msHOLD → t.mst = msFREE) ∧
      (s.flag WHEEL_MST_CTL_SRC = false → s.mst = msLOCKED ∨ s.mst = msPULL → t.mst = msPULL) ∧
      (s.flag WHEEL_MST_CTL_SRC = false → s.mst = msFREE → t.mst = msFREE) ∧
      s.keeps t [WHEEL_VSPD 0, WHEEL_VSPD 1, WHEEL_STAT] ∧ t = { s with lowWords := t.lowWords, wheel := t.wheel, regs := t.regs }) ∧
  (∀ (s : State) (v : Word), s.mapOpen = true → ∃ t, exec (.wheelVaccWrite v) s = .next t ∧ t.rd WHEEL_VACC = v ∧ t.mst = s.mst ∧
    t.wheel.pos = s.masterNow.pos ∧ t.wheel.spd = s.masterNow.spd ∧ s.keeps t [WHEEL_VACC] ∧ t = { s with wheel := t.wheel, regs := t.regs }) ∧
  (∀ (s : State) (v : Word), s.wheelHeld = true → exec (.wheelPhaseWrite v) s = .next s ∧ exec .masterLock s = .next s ∧
    exec .masterUnlock s = .next s ∧ exec .masterResume s = .next s) ∧
  (∀ (s : State) (v : Word), s.mapOpen = true → s.wheelHeld = false → ∃ t, exec (.wheelPhaseWrite v) s = .next t ∧ t.rd WHEEL_PHASE = v ∧
    t.wheel.pos = s.masterNow.pos ∧ t.wheel.spd = s.masterNow.spd ∧
    (s.mst = msLOCKED ∨ s.mst = msPULL → t.mst = msPULL) ∧ (s.mst ≠ msLOCKED → t.mst = s.mst) ∧
    s.keeps t [WHEEL_PHASE, WHEEL_STAT] ∧ t = { s with wheel := t.wheel, regs := t.regs }) ∧
  (∀ s : State, s.mapOpen = true → s.wheelHeld = false → s.mst = msFREE → s.vspd ≠ 0 → s.f TIME_STAT_STATE = 2 →
    ∃ t, exec .masterLock s = .next t ∧ t.mst = msPULL ∧ t.f WHEEL_MST_CTL_LOCK = 1 ∧ t.wheel.okSince = none ∧
      s.keeps t [WHEEL_STAT, WHEEL_MST_CTL] ∧ t = { s with wheel := t.wheel, regs := t.regs }) ∧
  (∀ s : State, s.mst = msPULL ∨ s.mst = msLOCKED → exec .masterLock s = .next s) ∧
  (∀ s : State, s.mapOpen = true → s.wheelHeld = false → s.mst ≠ msPULL → s.mst ≠ msLOCKED → s.mst ≠ msFREE ∨ s.vspd = 0 ∨ s.f TIME_STAT_STATE ≠ 2 →
    ∃ t, exec .masterLock s = .next t ∧ t.f WHEEL_MST_CTL_LOCK = 0 ∧ t.f WHEEL_STAT_LOCK_REFUSED = 1 ∧ t.mst = s.mst ∧
      s.keeps t [WHEEL_STAT, WHEEL_MST_CTL] ∧ t = { s with time := { s.time with hits := t.time.hits }, regs := t.regs }) ∧
  (∀ s : State, s.mapOpen = true → s.wheelHeld = false → s.mst = msPULL ∨ s.mst = msLOCKED →
    ∃ t, exec .masterUnlock s = .next t ∧ t.mst = msFREE ∧ t.f WHEEL_MST_CTL_LOCK = 0 ∧
      s.keeps t [WHEEL_STAT, WHEEL_MST_CTL] ∧ t = { s with wheel := t.wheel, regs := t.regs }) ∧
  (∀ s : State, s.mapOpen = true → s.wheelHeld = false → s.mst ≠ msPULL → s.mst ≠ msLOCKED →
    ∃ t, exec .masterUnlock s = .next t ∧ t.f WHEEL_MST_CTL_LOCK = 0 ∧ s.keeps t [WHEEL_MST_CTL] ∧ t = { s with regs := t.regs }) ∧
  (∀ s : State, s.mapOpen = true → s.flag WHEEL_MST_CTL_SRC = true → s.wheel.held = true → s.wheelHeld = false →
    s.flag (FBP_STAT_LOST s.masterPort) = false →
    (∀ a, s.tileOfPort s.masterPort = some a → s.flag (TILE_FB_STAT_LOST a) = false ∧ s.flag (TILE_FB_STAT_FROZEN a) = false) →
    ∃ t, exec .masterResume s = .next t ∧ t.mst = msREAL ∧ t.wheel.held = false ∧ t.wheel.pos = s.wheel.pos ∧
      t.wheel.offset = s.offsetFor s.wheel.pos ∧ s.keeps t [WHEEL_STAT] ∧ t = { s with wheel := t.wheel, regs := t.regs }) ∧
  (∀ s : State, s.wheel.held = false ∨ s.flag WHEEL_MST_CTL_SRC = false ∨ s.flag (FBP_STAT_LOST s.masterPort) = true ∨
    (∃ a, s.tileOfPort s.masterPort = some a ∧ (s.flag (TILE_FB_STAT_LOST a) = true ∨ s.flag (TILE_FB_STAT_FROZEN a) = true)) →
    exec .masterResume s = .next s)

/-- The master and W. MASTER_LOCKED ends PULL in LOCKED, at the angle of plant time and the target speed, once the error has
held within 64 mc for 100 ms, W jumping to that angle, and does nothing but anchor the master before. MASTER_OVERSPEED above WHEEL_VMAX sets OVERSPEED and raises one
fault, and at or below it does nothing. WHEEL_REVERSAL flips the direction and takes M into W where a virtual master moves against it, or a real one has come WHEEL_HYST behind W, and else does
nothing but anchor. SLOT_STAGE stages W's slot and the two ahead, and fires late what of a slot comes too late. WHEEL_JUMP applies the index correction of a real master's port whose sample has come, W
jumping with it. MASTER_ANGLE_READ answers M and captures product cycle and speed of the same instant, rounded to its format, where the register map is open, else 0.
The model's choices that clauses of it rest on are log 63, 65, 66, 214, 217, 218, 219. -/
def Obligations.MasterMoves : Prop :=
  (∀ (s u : State) (m k : Nat), u = (s.runTo m).anchor → u.wheel.okSince = some k → u.mst = msPULL →
    k + u.msCycles 100 ≤ u.time.mono →
    ∃ t, exec (.masterLocked m) s = .next t ∧
      t = ((u.jumpW (posM u.lockedPos)).lockAt u.lockedPos u.vspd).setF WHEEL_STAT_MST_STATE msLOCKED ∧
      t.mst = msLOCKED ∧ t.wheel.pos = u.lockedPos ∧ t.wheel.spd = u.vspd ∧ t.wheel.okSince = none ∧
      (s.wheel.descs = [] → s.keeps t [WHEEL_STAT] ∧ t = { s.runTo m with wheel := t.wheel, regs := t.regs })) ∧
  (∀ (s u : State) (m : Nat), u = (s.runTo m).anchor →
    u.wheel.okSince = none ∨ u.mst ≠ msPULL ∨ (∃ k, u.wheel.okSince = some k ∧ u.time.mono < k + u.msCycles 100) →
    exec (.masterLocked m) s = .next u) ∧
  (∀ (s : State) (m : Nat), signed 64 (s.rd2 WHEEL_VMAX) * 1099511627776 < |(s.runTo m).mspd| →
    ∃ t, exec (.masterOverspeed m) s = .next t ∧ t.f WHEEL_STAT_OVERSPEED = 1 ∧ (s.runTo m).raisedOne t srcWHEEL 0x11 cMAJOR ∧
      s.keeps t [WHEEL_STAT] ∧ t = { s.runTo m with time := { (s.runTo m).time with hits := t.time.hits }, flt := t.flt, regs := t.regs }) ∧
  (∀ (s : State) (m : Nat), |(s.runTo m).mspd| ≤ signed 64 (s.rd2 WHEEL_VMAX) * 1099511627776 →
    exec (.masterOverspeed m) s = .next (s.runTo m)) ∧
  (∀ (s u : State) (m : Nat), u = (s.runTo m).anchor.armAll → u.flag WHEEL_MST_CTL_SRC = false →
    (u.wdir = false ∧ u.mspd < 0) ∨ (u.wdir = true ∧ 0 < u.mspd) →
    ∃ t, exec (.wheelReversal m) s = .next t ∧ t.wdir = !u.wdir ∧ t.wheel.w = u.mpos ∧ s.keeps t [WHEEL_STAT] ∧
      t = { s.runTo m with wheel := t.wheel, regs := t.regs }) ∧
  (∀ (s u : State) (m : Nat) (back : Int), u = (s.runTo m).anchor.armAll → u.flag WHEEL_MST_CTL_SRC = true →
    back = (if u.wdir then diff64 u.mpos u.wpos else diff64 u.wpos u.mpos) → (u.f WHEEL_HYST_HYST : Int) ≤ back → 0 < back →
    ∃ t, exec (.wheelReversal m) s = .next t ∧ t.wdir = !u.wdir ∧ t.wheel.w = u.mpos ∧ s.keeps t [WHEEL_STAT] ∧
      t = { s.runTo m with wheel := t.wheel, regs := t.regs }) ∧
  (∀ (s u : State) (m : Nat), u = (s.runTo m).anchor.armAll → u.flag WHEEL_MST_CTL_SRC = false →
    (u.wdir = false ∧ 0 ≤ u.mspd) ∨ (u.wdir = true ∧ u.mspd ≤ 0) → exec (.wheelReversal m) s = .next u) ∧
  (∀ (s u : State) (m : Nat) (back : Int), u = (s.runTo m).anchor.armAll → u.flag WHEEL_MST_CTL_SRC = true →
    back = (if u.wdir then diff64 u.mpos u.wpos else diff64 u.wpos u.mpos) → back < (u.f WHEEL_HYST_HYST : Int) ∨ back ≤ 0 →
    exec (.wheelReversal m) s = .next u) ∧
  (∀ (s : State) (m : Nat), s.wheel.descs = [] →
    ∃ t, exec (.slotStage m) s = .next t ∧
      t.wheel.staged = (if (s.runTo m).syncW.wdir then ((s.runTo m).syncW.slotOf (s.runTo m).syncW.wpos - 2, (s.runTo m).syncW.slotOf (s.runTo m).syncW.wpos)
        else ((s.runTo m).syncW.slotOf (s.runTo m).syncW.wpos, (s.runTo m).syncW.slotOf (s.runTo m).syncW.wpos + 2)) ∧
      s.keeps t [WHEEL_STAT] ∧ t = { s.runTo m with wheel := t.wheel, regs := t.regs }) ∧
  (∀ (s u : State) (m : Nat) (l : List WDesc), u = (s.runTo m).syncW →
    l = u.wheel.descs.filter (fun (x : WDesc) => x.armed && u.past x.d && !u.isStaged (u.slotOf x.d.pos)) →
    exec (.slotStage m) s = .next (u.stage.fireAll true l)) ∧
  (∀ (s u : State) (m : Nat), u = s.runTo m → u.mst ≠ msREAL ∨ 32 ≤ u.masterPort → exec (.wheelJump m) s = .next u) ∧
  (∀ (s u : State) (m : Nat) (p : Fin 32), u = s.runTo m → u.mst = msREAL → u.masterPort = p →
    (u.fbps.get p).corr = none ∨ (∃ d, ∃ e, (u.fbps.get p).corr = some (d, e) ∧ m < d) → exec (.wheelJump m) s = .next u) ∧
  (∀ (s u : State) (m d : Nat) (e : Int) (p : Fin 32), u = s.runTo m → u.mst = msREAL → u.masterPort = p →
    (u.fbps.get p).corr = some (d, e) → d ≤ m →
    ∃ t, exec (.wheelJump m) s = .next t ∧
      t = (u.modFbp p (fun x => { x with corr := none })).moveCount p (fun v => v.shiftCount p d e 1) ∧
      (t.fbps.get p).corr = none ∧ t.rdI (FBP_CNT p) = signed 32 (wrapNat 32 (u.rdI (FBP_CNT p) + e)) ∧
      (s.wheel.descs = [] → s.keeps t [WHEEL_STAT, FBP_CNT p] ∧ t = { u with wheel := t.wheel, fbps := t.fbps, regs := t.regs })) ∧
  (∀ s : State, s.mapOpen = false → exec .masterAngleRead s = .next { s with rdData := 0 }) ∧
  (∀ s : State, s.mapOpen = true → ∃ t, exec .masterAngleRead s = .next t ∧ t.rdData = BitVec.ofNat 32 s.mpos ∧
    t.rdN WHEEL_MST_PCYC = s.mpos / 4294967296 % 4294967296 ∧
    t.rd2 WHEEL_MST_SPD = wrapNat 64 (roundHalfEven s.mspd 1099511627776) ∧
    s.keeps t [WHEEL_MST_PCYC, WHEEL_MST_SPD 0, WHEEL_MST_SPD 1] ∧ t = { s with rdData := t.rdData, regs := t.regs })

/-- The actions of a firing descriptor (see firesAt): the pin or output takes its level, a pulse is timed, work is released, a held segment is claimed or found
missing, a trigger waits for the capture engine, a latch window opens; where RECORD is set the release is offered to the recorder, and the descriptor moves on by R117. A
crossed descriptor for which others are crossed before it on its pin, output or angle fires after them, an output's only with a refresh of its die that departs. Without a descriptor that has been crossed nothing
but time and W moves. Where the wheel is off an occurrence does nothing, and one not permitted in COMMISSION passes by (R130).
The model's choices that clauses of it rest on are log 59, 60, 214. -/
def Obligations.WheelActions : Prop :=
  (∀ (s u : State) (h m : Nat) (x : WDesc), s.firesAt u h m aPIN_SET x → x.d.target < 16 →
    ∃ t, exec (.pinSet h m) s = .next t ∧ t.f ⟨WHEEL_EV_LVL, x.d.target, 1⟩ = 1 ∧ u.movedOn t x ∧ u.recordedRelease t x ∧
      u.keeps t (recRegs ++ [WHEEL_EV_LVL, WHEEL_OCC]) ∧
      t = { u with wheel := t.wheel, recorder := t.recorder, hq := t.hq, time := { u.time with hits := t.time.hits }, regs := t.regs }) ∧
  (∀ (s u : State) (h m : Nat) (x : WDesc), s.firesAt u h m aPIN_CLEAR x → x.d.target < 16 →
    ∃ t, exec (.pinClear h m) s = .next t ∧ t.f ⟨WHEEL_EV_LVL, x.d.target, 1⟩ = 0 ∧ u.movedOn t x ∧ u.recordedRelease t x ∧
      u.keeps t (recRegs ++ [WHEEL_EV_LVL, WHEEL_OCC]) ∧
      t = { u with wheel := t.wheel, recorder := t.recorder, hq := t.hq, time := { u.time with hits := t.time.hits }, regs := t.regs }) ∧
  (∀ (s u : State) (h m : Nat) (x : WDesc), s.firesAt u h m aPIN_PULSE x → x.d.target < 16 →
    ∃ t, exec (.pinPulse h m) s = .next t ∧ t.f ⟨WHEEL_EV_LVL, x.d.target, 1⟩ = 1 ∧ (x.d.target, u.time.mono + State.nsCycles x.d.width) ∈ t.wheel.pinPulses ∧ u.movedOn t x ∧ u.recordedRelease t x ∧
      u.keeps t (recRegs ++ [WHEEL_EV_LVL, WHEEL_OCC]) ∧
      t = { u with wheel := t.wheel, recorder := t.recorder, hq := t.hq, time := { u.time with hits := t.time.hits }, regs := t.regs }) ∧
  (∀ (s u : State) (h m : Nat) (x : WDesc), s.firesAt u h m aFOUT_SET x → x.d.target < 32 → (u.mode = mCOMMISSION → u.flag (FIO_OUTCFG_COMM x.d.target) = true) → u.mode ≠ mFAULT →
    ∃ t, exec (.foutSet h m) s = .next t ∧ t.f ⟨FIO_OUT, x.d.target, 1⟩ = 1 ∧ u.movedOn t x ∧ u.recordedRelease t x ∧
      u.keeps t (recRegs ++ [FIO_OUT, WHEEL_OCC]) ∧
      t = { u with wheel := t.wheel, recorder := t.recorder, hq := t.hq, time := { u.time with hits := t.time.hits }, regs := t.regs }) ∧
  (∀ (s u : State) (h m : Nat) (x : WDesc), s.firesAt u h m aFOUT_CLEAR x → x.d.target < 32 → (u.mode = mCOMMISSION → u.flag (FIO_OUTCFG_COMM x.d.target) = true) → u.mode ≠ mFAULT →
    ∃ t, exec (.foutClear h m) s = .next t ∧ t.f ⟨FIO_OUT, x.d.target, 1⟩ = 0 ∧ u.movedOn t x ∧ u.recordedRelease t x ∧
      u.keeps t (recRegs ++ [FIO_OUT, WHEEL_OCC]) ∧
      t = { u with wheel := t.wheel, recorder := t.recorder, hq := t.hq, time := { u.time with hits := t.time.hits }, regs := t.regs }) ∧
  (∀ (s u : State) (h m : Nat) (x : WDesc), s.firesAt u h m aFOUT_PULSE x → x.d.target < 32 → (u.mode = mCOMMISSION → u.flag (FIO_OUTCFG_COMM x.d.target) = true) → u.mode ≠ mFAULT →
    ∃ t, exec (.foutPulse h m) s = .next t ∧ t.f ⟨FIO_OUT, x.d.target, 1⟩ = 1 ∧ (x.d.target, u.time.mono + 800 * (roundHalfEven x.d.width 1000).toNat) ∈ t.wheel.foutPulses ∧ u.movedOn t x ∧ u.recordedRelease t x ∧
      u.keeps t (recRegs ++ [FIO_OUT, WHEEL_OCC]) ∧
      t = { u with wheel := t.wheel, recorder := t.recorder, hq := t.hq, time := { u.time with hits := t.time.hits }, regs := t.regs }) ∧
  (∀ (s u : State) (h m : Nat) (x : WDesc), (u.mode = mCOMMISSION ∧ u.flag (FIO_OUTCFG_COMM x.d.target) = false) ∨ u.mode = mFAULT →
    (s.firesAt u h m aFOUT_SET x → ∃ t, exec (.foutSet h m) s = .next t ∧ t.rd FIO_OUT = u.rd FIO_OUT ∧ u.movedOn t x ∧ u.recordedRelease t x) ∧
    (s.firesAt u h m aFOUT_CLEAR x → ∃ t, exec (.foutClear h m) s = .next t ∧ t.rd FIO_OUT = u.rd FIO_OUT ∧ u.movedOn t x ∧ u.recordedRelease t x) ∧
    (s.firesAt u h m aFOUT_PULSE x → ∃ t, exec (.foutPulse h m) s = .next t ∧ t.rd FIO_OUT = u.rd FIO_OUT ∧ u.movedOn t x ∧ u.recordedRelease t x)) ∧
  (∀ (s u : State) (h m : Nat) (x : WDesc), s.firesAt u h m aDISPATCH x → x.d.recd = false →
    ∃ v t : State, exec (.dispatch h m) s = .next t ∧ v = u.release x false ∧ t.sched = v.sched ∧ t.hq = v.hq ∧ u.movedOn t x ∧
      (∀ r, r ≠ WHEEL_OCC → t.rd r = v.rd r) ∧ t = { u with wheel := t.wheel, sched := t.sched, hq := t.hq, regs := t.regs }) ∧
  (∀ (s u : State) (h m : Nat) (x : WDesc), s.firesAt u h m aDISPATCH x → u.stopped = false → x.d.recd = false →
    ∃ t, exec (.dispatch h m) s = .next t ∧
      ((∃ w ∈ t.sched.ready, w.handler = x.d.handler ∧ w.key = x.d.key ∧ w.group = x.d.group ∧ w.src = 4 ∧
          w.payload = State.releaseBytes x false u.time.now) ∨
        (∃ i, (t.queue 4).waiting = (u.queue 4).waiting ++ [i])) ∧
      u.keeps t [WHEEL_OCC, HQ_HWM 4, HQ_CNT_REF 4, WHEEL_CNT_LATE]) ∧
  (∀ (s u : State) (h m : Nat) (x : WDesc), s.firesAt u h m aDISPATCH x → x.d.recd = true →
    ∃ v t : State, exec (.dispatch h m) s = .next t ∧ v = u.release x false ∧ v.recordedRelease t x ∧ u.movedOn t x ∧ t.sched = v.sched ∧
      v.keeps t (recRegs ++ [WHEEL_OCC])) ∧
  (∀ (s u : State) (h m : Nat) (x : WDesc) (a : Fin 96), s.firesAt u h m aSEGMENT_GO x → x.d.target = a → (u.tiles.get a).held.isSome = true →
    (u.tiles.get a).go = none →
    ∃ t, exec (.segmentGo h m) s = .next t ∧ (t.tiles.get a).go = some u.time.elapsed ∧ (∀ b, b ≠ a → t.tiles.get b = u.tiles.get b) ∧
      u.movedOn t x ∧ u.recordedRelease t x ∧ u.keeps t (recRegs ++ [WHEEL_OCC]) ∧
      t = { u with wheel := t.wheel, tiles := t.tiles, recorder := t.recorder, hq := t.hq, time := { u.time with hits := t.time.hits }, regs := t.regs }) ∧
  (∀ (s u : State) (h m : Nat) (x : WDesc) (a : Fin 96), s.firesAt u h m aSEGMENT_GO x → x.d.target = a →
    (u.tiles.get a).held = none ∨ (u.tiles.get a).go.isSome = true →
    ∃ t, exec (.segmentGo h m) s = .next t ∧ t.f (TILE_PLN_STAT_GO_EMPTY a) = 1 ∧ u.raisedOne t a 0x24 cMINOR ∧ t.tiles = u.tiles ∧
      u.movedOn t x ∧ u.recordedRelease t x ∧ u.keeps t (recRegs ++ [WHEEL_OCC, TILE_PLN_STAT a])) ∧
  (∀ (s u : State) (h m : Nat) (x : WDesc), s.firesAt u h m aACQ_TRIG x →
    ∃ t, exec (.acqTrig h m) s = .next t ∧ t.acq.pendWheel = noted u.acq.pendWheel u.time.mono ∧ t.acq.pendWheel.isSome = true ∧
      u.movedOn t x ∧ u.recordedRelease t x ∧ u.keeps t (recRegs ++ [WHEEL_OCC]) ∧
      t = { u with wheel := t.wheel, acq := t.acq, recorder := t.recorder, hq := t.hq, time := { u.time with hits := t.time.hits }, regs := t.regs }) ∧
  (∀ (s u : State) (h m : Nat) (x : WDesc) (l : Fin 8), s.firesAt u h m aLATCH_ARM x → x.d.target = l →
    ∃ t, exec (.latchArm h m) s = .next t ∧ t.f (WHEEL_LT_STAT_ARMED l) = 1 ∧
      t.wheel.windows.get l = some (u.time.mono + State.nsCycles x.d.width) ∧ (∀ k, k ≠ l → t.wheel.windows.get k = u.wheel.windows.get k) ∧
      u.movedOn t x ∧ u.recordedRelease t x ∧ u.keeps t (recRegs ++ [WHEEL_OCC, WHEEL_LT_STAT l]) ∧
      t = { u with wheel := t.wheel, recorder := t.recorder, hq := t.hq, time := { u.time with hits := t.time.hits }, regs := t.regs }) ∧
  (∀ (s u : State) (h m : Nat), u = (s.runTo m).syncW → u.descOf h = none ∨ (∃ x, u.descOf h = some x ∧ u.due x = false) →
    exec (.pinSet h m) s = .next u ∧ exec (.pinClear h m) s = .next u ∧ exec (.pinPulse h m) s = .next u ∧ exec (.foutSet h m) s = .next u ∧ exec (.foutClear h m) s = .next u ∧ exec (.foutPulse h m) s = .next u ∧ exec (.dispatch h m) s = .next u ∧ exec (.segmentGo h m) s = .next u ∧ exec (.acqTrig h m) s = .next u ∧ exec (.latchArm h m) s = .next u) ∧
  (∀ (s u : State) (h m : Nat) (x : WDesc), u = (s.runTo m).syncW → u.descOf h = some x → u.due x = true →
    (x.d.action = aPIN_SET → exec (.pinSet h m) s = .next ((u.endPinPulses x.d.target).fireAll false (u.dueWith x))) ∧
    (x.d.action = aPIN_CLEAR → exec (.pinClear h m) s = .next ((u.endPinPulses x.d.target).fireAll false (u.dueWith x))) ∧
    (x.d.action = aPIN_PULSE → exec (.pinPulse h m) s = .next ((u.endPinPulses x.d.target).fireAll false (u.dueWith x))) ∧
    (x.d.action = aDISPATCH → exec (.dispatch h m) s = .next (u.fireAll false (u.dueWith x))) ∧
    (x.d.action = aSEGMENT_GO → exec (.segmentGo h m) s = .next (u.fireAll false (u.dueWith x))) ∧
    (x.d.action = aACQ_TRIG → exec (.acqTrig h m) s = .next (u.fireAll false (u.dueWith x))) ∧
    (x.d.action = aLATCH_ARM → exec (.latchArm h m) s = .next (u.fireAll false (u.dueWith x))) ∧
    (x.d.action = aFOUT_SET → u.refreshDue (State.foutDie x.d.target) = true → exec (.foutSet h m) s = .next ((u.endFoutPulses x.d.target).fireAll false (u.dueWith x))) ∧
    (x.d.action = aFOUT_CLEAR → u.refreshDue (State.foutDie x.d.target) = true → exec (.foutClear h m) s = .next ((u.endFoutPulses x.d.target).fireAll false (u.dueWith x))) ∧
    (x.d.action = aFOUT_PULSE → u.refreshDue (State.foutDie x.d.target) = true → exec (.foutPulse h m) s = .next ((u.endFoutPulses x.d.target).fireAll false (u.dueWith x))) ∧
    (x.d.isFout = true → u.refreshDue (State.foutDie x.d.target) = false → exec (.foutSet h m) s = .next u ∧ exec (.foutClear h m) s = .next u ∧ exec (.foutPulse h m) s = .next u)) ∧
  (∀ (u : State) (x : WDesc) (late : Bool), u.wheelOff = true → u.fireDesc x late = u) ∧
  (∀ (u : State) (x : WDesc) (late : Bool), u.wheelOff = false → u.mode = mCOMMISSION → x.d.comm = false → u.fireDesc x late = u.advance x.handle 1)

/-- Pulse ends, latches, insertion and cancel. The pulses of a pin or output whose WIDTH has expired end and its line falls; without one nothing but time moves. A window that has run out disarms, one that has not stays. A wanted edge, long enough for the filter
and inside its window, enters the latch FIFO with its time and M, or with sixteen entries sets OVF; any other edge does nothing. A read of a FIFO, with no entry but one of this SYS cycle, answers 0, and else takes the oldest entry. An insertion
that fails a check is counted and answered by its code, one without a token by ADM_BUDGET, and else stored under a new handle. A cancel comes after what its SYS cycle releases, removes the descriptor and answers ADM_OK,
and without one answers ADM_STRUCTURE. An event core inserts and cancels so while its handler runs, and else nothing.
The model's choices that clauses of it rest on are log 58, 59, 61, 213. -/
def Obligations.WheelStore : Prop :=
  (∀ (s : State) (p : Fin 16) (m e : Nat), (p.val, e) ∈ s.wheel.pinPulses → e ≤ (s.runTo m).time.mono →
    ∃ t, exec (.pinPulseEnd p m) s = .next t ∧ t.f ⟨WHEEL_EV_LVL, p, 1⟩ = 0 ∧
      t.wheel.pinPulses = s.wheel.pinPulses.filter (fun x => !(x.1 == p.val && decide (x.2 ≤ (s.runTo m).time.mono))) ∧
      s.keeps t [WHEEL_EV_LVL] ∧ t = { s.runTo m with wheel := { s.wheel with pinPulses := t.wheel.pinPulses }, regs := t.regs }) ∧
  (∀ (s : State) (p : Fin 16) (m : Nat), (∀ e ∈ s.wheel.pinPulses, e.1 = p.val → (s.runTo m).time.mono < e.2) →
    exec (.pinPulseEnd p m) s = .next (s.runTo m)) ∧
  (∀ (s : State) (p : Fin 32) (m e : Nat), (p.val, e) ∈ s.wheel.foutPulses → e ≤ (s.runTo m).time.mono →
    (s.mode = mCOMMISSION → s.flag (FIO_OUTCFG_COMM p) = true) → s.mode ≠ mFAULT →
    ∃ t, exec (.foutPulseEnd p m) s = .next t ∧ t.f ⟨FIO_OUT, p, 1⟩ = 0 ∧
      t.wheel.foutPulses = s.wheel.foutPulses.filter (fun x => !(x.1 == p.val && decide (x.2 ≤ (s.runTo m).time.mono))) ∧
      s.keeps t [FIO_OUT] ∧ t = { s.runTo m with wheel := { s.wheel with foutPulses := t.wheel.foutPulses }, regs := t.regs }) ∧
  (∀ (s : State) (p : Fin 32) (m e : Nat), (p.val, e) ∈ s.wheel.foutPulses → e ≤ (s.runTo m).time.mono →
    (s.mode = mCOMMISSION ∧ s.flag (FIO_OUTCFG_COMM p) = false) ∨ s.mode = mFAULT →
    ∃ t, exec (.foutPulseEnd p m) s = .next t ∧ (p.val, e) ∉ t.wheel.foutPulses ∧
      t = { s.runTo m with wheel := { s.wheel with foutPulses := t.wheel.foutPulses } }) ∧
  (∀ (s : State) (p : Fin 32) (m : Nat), (∀ e ∈ s.wheel.foutPulses, e.1 = p.val → (s.runTo m).time.mono < e.2) →
    exec (.foutPulseEnd p m) s = .next (s.runTo m)) ∧
  (∀ (s : State) (l : Fin 8) (m e : Nat), s.wheel.windows.get l = some e → e ≤ (s.runTo m).time.mono →
    ∃ t, exec (.latchWindowEnd l m) s = .next t ∧ t.f (WHEEL_LT_STAT_ARMED l) = 0 ∧ t.wheel.windows.get l = none ∧
      (∀ k, k ≠ l → t.wheel.windows.get k = s.wheel.windows.get k) ∧
      s.keeps t [WHEEL_LT_STAT l] ∧ t = { s.runTo m with wheel := { s.wheel with windows := t.wheel.windows }, regs := t.regs }) ∧
  (∀ (s : State) (l : Fin 8) (m : Nat), s.wheel.windows.get l = none ∨ (∃ e, s.wheel.windows.get l = some e ∧ (s.runTo m).time.mono < e) →
    exec (.latchWindowEnd l m) s = .next (s.runTo m)) ∧
  (∀ (s : State) (l : Fin 8) (r : Bool) (w m : Nat), s.cfg.run.isSome = true → s.f (WHEEL_LT_CFG_FILT l) ≤ w →
    s.f (WHEEL_LT_CFG_EDGE l) = 2 ∨ (s.f (WHEEL_LT_CFG_EDGE l) = 0 ∧ r = true) ∨ (s.f (WHEEL_LT_CFG_EDGE l) = 1 ∧ r = false) →
    s.flag (WHEEL_LT_CFG_WINDOWED l) = false ∨ (∃ e, s.wheel.windows.get l = some e ∧ (s.runTo m).time.mono < e) →
    (s.wheel.latches.get l).length < 16 →
    ∃ (t : State) (e : LatchEntry), exec (.latchEdge l r w m) s = .next t ∧ t.wheel.latches.get l = s.wheel.latches.get l ++ [e] ∧ e.rising = r ∧
      e.time = (s.runTo m).edgeTime ∧ e.m = posM ((s.runTo m).masterNow.pos - (s.runTo m).mspd * 10 / 1000000000) ∧
      (∀ k, k ≠ l → t.wheel.latches.get k = s.wheel.latches.get k) ∧
      t.f (WHEEL_LT_STAT_LEVEL l) = (s.wheel.latches.get l).length + 1 ∧
      s.keeps t [WHEEL_LT_STAT l] ∧ t = { s.runTo m with wheel := { s.wheel with latches := t.wheel.latches }, regs := t.regs }) ∧
  (∀ (s : State) (l : Fin 8) (r : Bool) (w m : Nat), s.cfg.run.isSome = true → s.f (WHEEL_LT_CFG_FILT l) ≤ w →
    s.f (WHEEL_LT_CFG_EDGE l) = 2 ∨ (s.f (WHEEL_LT_CFG_EDGE l) = 0 ∧ r = true) ∨ (s.f (WHEEL_LT_CFG_EDGE l) = 1 ∧ r = false) →
    s.flag (WHEEL_LT_CFG_WINDOWED l) = false ∨ (∃ e, s.wheel.windows.get l = some e ∧ (s.runTo m).time.mono < e) →
    16 ≤ (s.wheel.latches.get l).length →
    ∃ t, exec (.latchEdge l r w m) s = .next t ∧ t.f (WHEEL_LT_STAT_OVF l) = 1 ∧ t.f WHEEL_STAT_LT_OVF = 1 ∧
      s.keeps t [WHEEL_LT_STAT l, WHEEL_STAT] ∧ t = { s.runTo m with time := { (s.runTo m).time with hits := t.time.hits }, regs := t.regs }) ∧
  (∀ (s : State) (l : Fin 8) (r : Bool) (w m : Nat), s.cfg.run = none ∨ w < s.f (WHEEL_LT_CFG_FILT l) ∨ s.f (WHEEL_LT_CFG_EDGE l) = 3 ∨
    (s.f (WHEEL_LT_CFG_EDGE l) = 0 ∧ r = false) ∨ (s.f (WHEEL_LT_CFG_EDGE l) = 1 ∧ r = true) ∨
    (s.flag (WHEEL_LT_CFG_WINDOWED l) = true ∧ (∀ e, s.wheel.windows.get l = some e → e ≤ (s.runTo m).time.mono)) →
    exec (.latchEdge l r w m) s = .next (s.runTo m)) ∧
  (∀ (s : State) (l : Fin 8), s.mapOpen = false ∨ s.wheel.latches.get l = [] ∨ (∃ e es, s.wheel.latches.get l = e :: es ∧ e.at_ = s.time.mono) →
    exec (.latchRead l) s = .next { s with rdData := 0 }) ∧
  (∀ (s : State) (l : Fin 8) (e : LatchEntry) (es : List LatchEntry), s.mapOpen = true → s.wheel.latches.get l = e :: es → e.at_ ≠ s.time.mono →
    ∃ t, exec (.latchRead l) s = .next t ∧ t.rdData = BitVec.ofNat 32 e.m ∧ t.wheel.latches.get l = es ∧
      (∀ k, k ≠ l → t.wheel.latches.get k = s.wheel.latches.get k) ∧ t.rdN (WHEEL_LT_PCYC l) = e.m / 4294967296 % 4294967296 ∧
      s.keeps t [WHEEL_LT_STAT l, WHEEL_LT_PCYC l, WHEEL_LT_NS l, WHEEL_LT_SUB l, WHEEL_LT_SEC l 0, WHEEL_LT_SEC l 1] ∧
      t = { s with rdData := t.rdData, wheel := { s.wheel with latches := t.wheel.latches }, regs := t.regs }) ∧
  (∀ (s : State) (h : Nat), s.mapOpen = false → exec .wheelInsert s = .next s ∧ exec (.wheelCancel h) s = .next s) ∧
  (∀ s : State, s.mapOpen = true → s.insertCheck s.insWords ≠ admOK →
    ∃ t, exec .wheelInsert s = .next t ∧ t.f WHEEL_INS_RES_CODE = s.insertCheck s.insWords % 256 ∧
    t.f WHEEL_INS_RES_HANDLE = 0 ∧ t.rdN WHEEL_CNT_REF = min (s.rdN WHEEL_CNT_REF + 1) 4294967295 ∧
    s.keeps t [WHEEL_CNT_REF, WHEEL_INS_RES] ∧ t = { s with regs := t.regs }) ∧
  (∀ s : State, s.mapOpen = true → s.insertCheck s.insWords = admOK → (s.wheel.hostBucket.fill s.cycleInc s.time.mono).tokens < tokenUnit →
    ∃ t, exec .wheelInsert s = .next t ∧ t.f WHEEL_INS_RES_CODE = admBUDGET ∧ t.f WHEEL_INS_RES_HANDLE = 0 ∧
    t.rdN WHEEL_CNT_REF = min (s.rdN WHEEL_CNT_REF + 1) 4294967295 ∧ t.wheel.descs = s.wheel.descs ∧
    s.keeps t [WHEEL_CNT_REF, WHEEL_INS_RES] ∧ t = { s with wheel := t.wheel, regs := t.regs }) ∧
  (∀ s : State, s.mapOpen = true → s.insertCheck s.insWords = admOK → tokenUnit ≤ (s.wheel.hostBucket.fill s.cycleInc s.time.mono).tokens →
    ∃ (t : State) (h : Nat) (b : Bool), exec .wheelInsert s = .next t ∧ t.f WHEEL_INS_RES_CODE = admOK ∧
      t.wheel.descs = s.wheel.descs ++ [WDesc.mk h s.wheel.nextSeq s.insWords b] ∧ t.f WHEEL_INS_RES_HANDLE = h % 16777216 ∧
      s.keeps t [WHEEL_OCC, WHEEL_INS_RES] ∧ t = { s with wheel := t.wheel, regs := t.regs }) ∧
  (∀ (s : State) (h : Nat), s.mapOpen = true → ∃ (u : State) (k : Nat), (u, k) = s.cancel h ∧ (k = admOK ∨ k = admSTRUCTURE) ∧
    exec (.wheelCancel h) s = .next ((u.setF WHEEL_INS_RES_CODE k).setF WHEEL_INS_RES_HANDLE 0)) ∧
  (∀ (s u : State) (h : Nat) (x : WDesc), s.mapOpen = true → u = s.syncW → u.descOf h = some x → u.due x = false →
    ∃ t, exec (.wheelCancel h) s = .next t ∧ t.f WHEEL_INS_RES_CODE = admOK ∧
    t.wheel.descs = u.wheel.descs.filter (fun y => y.handle != h) ∧ u.keeps t [WHEEL_OCC, WHEEL_INS_RES] ∧
    t = { u with wheel := t.wheel, regs := t.regs }) ∧
  (∀ (s : State) (h : Nat), s.mapOpen = true → s.syncW.descOf h = none →
    ∃ t, exec (.wheelCancel h) s = .next t ∧ t.f WHEEL_INS_RES_CODE = admSTRUCTURE ∧ t.wheel = s.syncW.wheel) ∧
  (∀ (s : State) (c : Fin 8) (d : Descriptor) (h : Nat), (s.sched.cores.get c).running = none ∨ (s.sched.cores.get c).halted = true →
    exec (.coreWheelInsert c d) s = .next s ∧ exec (.coreWheelCancel c h) s = .next s) ∧
  (∀ (s : State) (c : Fin 8) (d : Descriptor), (s.sched.cores.get c).running.isSome = true → (s.sched.cores.get c).halted = false →
    s.insertCheck d ≠ admOK → ∃ t, exec (.coreWheelInsert c d) s = .next t ∧
    (t.sched.cores.get c).result = BitVec.ofNat 32 (s.insertCheck d) ∧ t.rdN WHEEL_CNT_REF = min (s.rdN WHEEL_CNT_REF + 1) 4294967295 ∧
    s.keeps t [WHEEL_CNT_REF] ∧ t = { s with sched := t.sched, regs := t.regs }) ∧
  (∀ (s : State) (c : Fin 8) (d : Descriptor), (s.sched.cores.get c).running.isSome = true → (s.sched.cores.get c).halted = false →
    s.insertCheck d = admOK → (s.wheel.coreBucket.fill s.cycleInc s.time.mono).tokens < tokenUnit →
    ∃ t, exec (.coreWheelInsert c d) s = .next t ∧ (t.sched.cores.get c).result = BitVec.ofNat 32 admBUDGET ∧
      t.wheel.descs = s.wheel.descs ∧ s.keeps t [WHEEL_CNT_REF] ∧ t = { s with wheel := t.wheel, sched := t.sched, regs := t.regs }) ∧
  (∀ (s : State) (c : Fin 8) (d : Descriptor), (s.sched.cores.get c).running.isSome = true → (s.sched.cores.get c).halted = false →
    s.insertCheck d = admOK → tokenUnit ≤ (s.wheel.coreBucket.fill s.cycleInc s.time.mono).tokens →
    ∃ (t : State) (h : Nat) (b : Bool), exec (.coreWheelInsert c d) s = .next t ∧ (t.sched.cores.get c).result = BitVec.ofNat 32 (admOK + 256 * h) ∧
      t.wheel.descs = s.wheel.descs ++ [WDesc.mk h s.wheel.nextSeq d b] ∧ s.keeps t [WHEEL_OCC] ∧
      t = { s with wheel := t.wheel, sched := t.sched, regs := t.regs }) ∧
  (∀ (s u : State) (c : Fin 8) (h : Nat) (x : WDesc), (s.sched.cores.get c).running.isSome = true → (s.sched.cores.get c).halted = false →
    u = s.syncW → u.descOf h = some x → u.due x = false → ∃ t, exec (.coreWheelCancel c h) s = .next t ∧
    (t.sched.cores.get c).result = BitVec.ofNat 32 admOK ∧ t.wheel.descs = u.wheel.descs.filter (fun y => y.handle != h) ∧
    u.keeps t [WHEEL_OCC] ∧ t = { u with wheel := t.wheel, sched := t.sched, regs := t.regs }) ∧
  (∀ (s : State) (c : Fin 8) (h : Nat), (s.sched.cores.get c).running.isSome = true → (s.sched.cores.get c).halted = false →
    s.syncW.descOf h = none → exec (.coreWheelCancel c h) s = .next (s.syncW.setResult c admSTRUCTURE 0))

/-- PTP. A message of another domain or transport, or with PTP off, leaves all but time; one that HQ15 cannot take is dropped and counted. Else (v is the state after HQ15 has passed it): a two-step Sync of the chosen master waits for its Follow_Up;
a one-step one, before any path delay is measured, leaves its origin and arrival, and after it gives its offset, which in ACQUIRE and SYNC, below STEP_THR and not a jump, sets FADJ by the servo and is counted. A Follow_Up that matches ends the
wait. Delay_Req departs, at the interval the master asks, with the next sequence number. Delay_Resp and the peer-delay answers give TIME_MPD. A Pdelay_Req is answered on its own port. Announce enters the list of masters heard. A Sync, Follow_Up,
Delay_Resp or peer-delay answer that nothing waits for changes nothing more.
The model's choices that clauses of it rest on are log 110, 112, 114, 194, 262, 264. -/
def Obligations.PtpMessages : Prop :=
  (∀ (s : State) (m : PtpMsg) (d : Int), (s.runTo m.t).ptpOurs m.domain m.udp = false →
    exec (.ptpSync m) s = .next (s.runTo m.t) ∧ exec (.ptpFollowUp m) s = .next (s.runTo m.t) ∧ exec (.ptpDelayResp m) s = .next (s.runTo m.t) ∧
    exec (.ptpPdelayReq m d) s = .next (s.runTo m.t) ∧ exec (.ptpPdelayResp m) s = .next (s.runTo m.t) ∧
    exec (.ptpPdelayRespFollowUp m) s = .next (s.runTo m.t)) ∧
  (∀ (s u : State) (m : PtpMsg) (d : Int), u = s.runTo m.t → u.ptpOurs m.domain m.udp = true →
    u.stopped = true ∨ u.offer 15 ⟨64, .block 0⟩ = none →
    ∃ t : State, t.rdN (HQ_CNT_REF 15) = min (u.rdN (HQ_CNT_REF 15) + 1) 4294967295 ∧ u.keeps t [HQ_CNT_REF 15] ∧ t = { u with regs := t.regs } ∧
      exec (.ptpSync m) s = .next t ∧ exec (.ptpFollowUp m) s = .next t ∧ exec (.ptpDelayResp m) s = .next t ∧
      exec (.ptpPdelayReq m d) s = .next t ∧ exec (.ptpPdelayResp m) s = .next t ∧ exec (.ptpPdelayRespFollowUp m) s = .next t) ∧
  (∀ (s v : State) (m : PtpMsg), (s.runTo m.t).ptpOurs m.domain m.udp = true → (s.runTo m.t).ptpIn = (v, true) →
    v.fromMaster m.port m.source = true → m.twoStep = true →
    ∃ t, exec (.ptpSync m) s = .next t ∧ t.time.ownSync = some ⟨m.port, m.source, m.seqId, v.rxStamp m, m.corr, m.t⟩ ∧
      t = { v with time := { v.time with ownSync := t.time.ownSync } }) ∧
  (∀ (s v : State) (m : PtpMsg), (s.runTo m.t).ptpOurs m.domain m.udp = true → (s.runTo m.t).ptpIn = (v, true) →
    v.fromMaster m.port m.source = true → m.twoStep = false → v.time.mpd = none →
    ∃ t, exec (.ptpSync m) s = .next t ∧ t.time.lastSync = some (m.origin + m.corr, v.rxStamp m) ∧
      t = { v with time := { v.time with lastSync := t.time.lastSync } }) ∧
  (∀ (s v w : State) (m : PtpMsg) (d : Int), (s.runTo m.t).ptpOurs m.domain m.udp = true → (s.runTo m.t).ptpIn = (v, true) →
    v.fromMaster m.port m.source = true → m.twoStep = false → v.time.mpd = some d → v.time.lastStep ≠ some m.t → v.stepDue = none →
    w = { v with time := { v.time with lastSync := some (m.origin + m.corr, v.rxStamp m) } } →
    exec (.ptpSync m) s = .next (w.tryAcquire.newOffset (v.rxStamp m - (m.origin + m.corr) - d) m.logInt)) ∧
  (∀ (u : State) (ofs l x lim : Int), u.plantSelected = true → u.time.firstStep = none → u.tstate = tsACQUIRE ∨ u.tstate = tsSYNC →
    u.firstStepFree = false → |ofs| < u.stepThr → (∀ p, u.time.prevOfs = some p → |ofs - p| ≤ 4 * u.syncThr + 65536 * 100000) →
    x = roundHalfEven (ofs * 4294967296 * 2 ^ (-l).toNat) (1000 * 2 ^ l.toNat) → lim = u.fadjLimit →
    ∃ t, u.newOffset ofs l = t ∧
      t.rdI TIME_FADJ = max (-lim) (min (roundHalfEven (-(roundHalfEven x (2 ^ u.f TIME_SERVO_KP)) - u.time.integ) 4294967296) lim) ∧
      t.time.integ = u.time.integ + roundHalfEven x (2 ^ (u.f TIME_SERVO_KP + u.f TIME_SERVO_KI)) ∧
      t.rd2 TIME_OFS = wrapNat 64 (roundHalfEven ofs 65536) ∧ t.rdN TIME_CNT_SYNC = min (u.rdN TIME_CNT_SYNC + 1) 4294967295 ∧
      t.time.prevOfs = some ofs ∧ t.time.now = u.time.now) ∧
  (∀ (s v : State) (m : PtpMsg), (s.runTo m.t).ptpOurs m.domain m.udp = true → (s.runTo m.t).ptpIn = (v, true) →
    v.fromMaster m.port m.source = false → exec (.ptpSync m) s = .next v ∧ exec (.ptpFollowUp m) s = .next v ∧ exec (.ptpDelayResp m) s = .next v) ∧
  (∀ (s v : State) (m : PtpMsg) (h : HeldSync), (s.runTo m.t).ptpOurs m.domain m.udp = true → (s.runTo m.t).ptpIn = (v, true) →
    v.time.ownSync = some h → v.fromMaster m.port m.source = true → h.source = m.source → h.seqId = m.seqId → v.time.mpd = none →
    ∃ t, exec (.ptpFollowUp m) s = .next t ∧ t.time.ownSync = none ∧ t.time.lastSync = some (m.origin + m.corr + h.corr, h.rx) ∧
      t = { v with time := { v.time with ownSync := none, lastSync := t.time.lastSync } }) ∧
  (∀ (s v w : State) (m : PtpMsg) (h : HeldSync) (d : Int), (s.runTo m.t).ptpOurs m.domain m.udp = true → (s.runTo m.t).ptpIn = (v, true) →
    v.time.ownSync = some h → v.fromMaster m.port m.source = true → h.source = m.source → h.seqId = m.seqId → v.time.mpd = some d →
    v.time.lastStep ≠ some h.at_ → v.stepDue = none →
    w = { v with time := { v.time with ownSync := none, lastSync := some (m.origin + m.corr + h.corr, h.rx) } } →
    exec (.ptpFollowUp m) s = .next (w.tryAcquire.newOffset (h.rx - (m.origin + m.corr + h.corr) - d) m.logInt)) ∧
  (∀ (s v : State) (m : PtpMsg), (s.runTo m.t).ptpOurs m.domain m.udp = true → (s.runTo m.t).ptpIn = (v, true) →
    (∀ h, v.time.ownSync = some h → h.source ≠ m.source ∨ h.seqId ≠ m.seqId) → exec (.ptpFollowUp m) s = .next v) ∧
  (∀ (s u : State) (d : Int) (m : Nat), u = s.runTo m → u.flag TIME_PTP_EN = false ∨ u.time.master = none ∨ u.reqDue = false →
    exec (.ptpDelayReqSend d m) s = .next u) ∧
  (∀ (s u v : State) (d dep : Int) (m : Nat) (x : PtpTx), u = s.runTo m → u.flag TIME_PTP_EN = true → u.time.master.isSome = true → u.reqDue = true →
    dep = d + 8192 * (u.f (TIME_PL_LAT_TX (u.f TIME_STAT_OC_PORT)) : Nat) →
    x = ⟨u.f TIME_STAT_OC_PORT, 1 + u.f TIME_PTP_DELAY, u.time.seqId, dep / 65536, if u.flag TIME_PTP_STAMP ∨ u.flag TIME_PTP_TWO_STEP then 0 else dep % 65536⟩ →
    u.offer 14 ⟨State.ptpLen x.kind, .ptp x⟩ = some v →
    ∃ t, exec (.ptpDelayReqSend d m) s = .next t ∧ (t.queue 14).items = (u.queue 14).items ++ [⟨State.ptpLen x.kind, .ptp x⟩] ∧
      t.time.delaySent = some (u.time.seqId, dep) ∧ t.time.seqId = (u.time.seqId + 1) % 65536 ∧ t.time.reqAt = some u.time.mono ∧
      u.keeps t [HQ_HWM 14] ∧
      t = { u with hq := t.hq, regs := t.regs, time := { u.time with delaySent := t.time.delaySent, seqId := t.time.seqId, reqAt := t.time.reqAt } }) ∧
  (∀ (s u : State) (d dep : Int) (m : Nat) (x : PtpTx), u = s.runTo m → u.flag TIME_PTP_EN = true → u.time.master.isSome = true → u.reqDue = true →
    dep = d + 8192 * (u.f (TIME_PL_LAT_TX (u.f TIME_STAT_OC_PORT)) : Nat) →
    x = ⟨u.f TIME_STAT_OC_PORT, 1 + u.f TIME_PTP_DELAY, u.time.seqId, dep / 65536, if u.flag TIME_PTP_STAMP ∨ u.flag TIME_PTP_TWO_STEP then 0 else dep % 65536⟩ →
    u.offer 14 ⟨State.ptpLen x.kind, .ptp x⟩ = none → exec (.ptpDelayReqSend d m) s = .next (u.bump (HQ_CNT_REF 14))) ∧
  (∀ (s v : State) (m : PtpMsg) (t1 t2 t3 : Int), (s.runTo m.t).ptpOurs m.domain m.udp = true → (s.runTo m.t).ptpIn = (v, true) →
    v.time.delaySent = some (m.seqId, t3) → v.time.lastSync = some (t1, t2) →
    v.fromMaster m.port m.source = true → v.flag TIME_PTP_DELAY = false →
    ∃ t, exec (.ptpDelayResp m) s = .next t ∧ t.time.delaySent = none ∧
      t.time.mpd = some (roundHalfEven (t2 - t1 + (m.origin - m.corr) - t3) 2) ∧ t.time.reqLog = some m.logInt ∧
      t.rd TIME_MPD = BitVec.ofInt 32 (roundHalfEven (roundHalfEven (t2 - t1 + (m.origin - m.corr) - t3) 2) 65536) ∧ v.keeps t [TIME_MPD] ∧
      t = { v with regs := t.regs, time := { v.time with delaySent := none, mpd := t.time.mpd, reqLog := t.time.reqLog } }) ∧
  (∀ (s v : State) (m : PtpMsg), (s.runTo m.t).ptpOurs m.domain m.udp = true → (s.runTo m.t).ptpIn = (v, true) →
    v.time.delaySent = none ∨ v.time.lastSync = none ∨ v.flag TIME_PTP_DELAY = true → exec (.ptpDelayResp m) s = .next v) ∧
  (∀ (s v : State) (m : PtpMsg) (d dep : Int) (x : PtpTx), (s.runTo m.t).ptpOurs m.domain m.udp = true → (s.runTo m.t).ptpIn = (v, true) →
    v.flag TIME_PTP_DELAY = true → v.flag TIME_PTP_TWO_STEP = false →
    dep = d + 8192 * (v.f (TIME_PL_LAT_TX m.port) : Nat) →
    x = ⟨m.port, 3, m.seqId, dep / 65536, if v.flag TIME_PTP_STAMP then 0 else m.corr + dep % 65536 + (dep - v.rxStamp m)⟩ →
    exec (.ptpPdelayReq m d) s = .next (v.ptpSend x).1) ∧
  (∀ (s v : State) (m : PtpMsg) (d dep : Int), (s.runTo m.t).ptpOurs m.domain m.udp = true → (s.runTo m.t).ptpIn = (v, true) →
    v.flag TIME_PTP_DELAY = true → v.flag TIME_PTP_TWO_STEP = true →
    dep = d + 8192 * (v.f (TIME_PL_LAT_TX m.port) : Nat) →
    exec (.ptpPdelayReq m d) s = .next ((v.ptpSend ⟨m.port, 3, m.seqId, v.rxStamp m / 65536, 0⟩).1.ptpSend
      ⟨m.port, 10, m.seqId, dep / 65536, m.corr + dep % 65536 - v.rxStamp m % 65536⟩).1) ∧
  (∀ (u w : State) (x : PtpTx), u.offer 14 ⟨State.ptpLen x.kind, .ptp x⟩ = some w → u.ptpSend x = (w, true)) ∧
  (∀ (u : State) (x : PtpTx), u.offer 14 ⟨State.ptpLen x.kind, .ptp x⟩ = none → u.ptpSend x = (u.bump (HQ_CNT_REF 14), false)) ∧
  (∀ (s v : State) (m : PtpMsg) (d : Int), (s.runTo m.t).ptpOurs m.domain m.udp = true → (s.runTo m.t).ptpIn = (v, true) →
    v.flag TIME_PTP_DELAY = false → exec (.ptpPdelayReq m d) s = .next v ∧ exec (.ptpPdelayResp m) s = .next v) ∧
  (∀ (s v : State) (m : PtpMsg) (t1 : Int), (s.runTo m.t).ptpOurs m.domain m.udp = true → (s.runTo m.t).ptpIn = (v, true) →
    v.time.delaySent = some (m.seqId, t1) → v.flag TIME_PTP_DELAY = true → m.port = v.f TIME_STAT_OC_PORT → m.twoStep = false →
    ∃ t, exec (.ptpPdelayResp m) s = .next t ∧ t.time.delaySent = none ∧ t.time.mpd = some (roundHalfEven (v.rxStamp m - t1 - m.corr) 2) ∧
      v.keeps t [TIME_MPD] ∧ t = { v with regs := t.regs, time := { v.time with delaySent := none, mpd := t.time.mpd } }) ∧
  (∀ (s v : State) (m : PtpMsg) (t1 : Int), (s.runTo m.t).ptpOurs m.domain m.udp = true → (s.runTo m.t).ptpIn = (v, true) →
    v.time.delaySent = some (m.seqId, t1) → v.flag TIME_PTP_DELAY = true → m.port = v.f TIME_STAT_OC_PORT → m.twoStep = true →
    ∃ t, exec (.ptpPdelayResp m) s = .next t ∧ t.time.pdelayHeld = some (m.seqId, m.origin, v.rxStamp m, m.corr) ∧
      t = { v with time := { v.time with pdelayHeld := t.time.pdelayHeld } }) ∧
  (∀ (s v : State) (m : PtpMsg), (s.runTo m.t).ptpOurs m.domain m.udp = true → (s.runTo m.t).ptpIn = (v, true) →
    m.port ≠ v.f TIME_STAT_OC_PORT ∨ v.time.delaySent = none → exec (.ptpPdelayResp m) s = .next v) ∧
  (∀ (s v : State) (m : PtpMsg) (t1 t2 t4 c : Int) (q : Nat), (s.runTo m.t).ptpOurs m.domain m.udp = true → (s.runTo m.t).ptpIn = (v, true) →
    v.time.pdelayHeld = some (m.seqId, t2, t4, c) → v.time.delaySent = some (q, t1) →
    ∃ t, exec (.ptpPdelayRespFollowUp m) s = .next t ∧ t.time.mpd = some (roundHalfEven ((t4 - t1) - (m.origin - t2) - c - m.corr) 2) ∧
      t.time.delaySent = none ∧ t.time.pdelayHeld = none ∧ v.keeps t [TIME_MPD] ∧
      t = { v with regs := t.regs, time := { v.time with delaySent := none, pdelayHeld := none, mpd := t.time.mpd } }) ∧
  (∀ (s v : State) (m : PtpMsg), (s.runTo m.t).ptpOurs m.domain m.udp = true → (s.runTo m.t).ptpIn = (v, true) →
    v.time.pdelayHeld = none ∨ v.time.delaySent = none → exec (.ptpPdelayRespFollowUp m) s = .next v) ∧
  (∀ (s v : State) (a : Announce) (m : Nat), (s.runTo m).ptpOurs a.domain a.udp = true → (s.runTo m).ptpIn = (v, true) → a.stepsRemoved < 255 →
    ∃ t, exec (.ptpAnnounce a m) s = .next t ∧
      (∃ k ∈ t.time.known, k.identity = a.identity ∧ k.rank = a.rank ∧ k.port = a.port ∧ k.expires = m + a.timeout) ∧
      (∀ k ∈ t.time.known, k.identity ≠ a.identity → k ∈ v.time.known ∧ m < k.expires) ∧
      t.time.master = State.bestMaster t.time.known ∧
      v.keeps t [TIME_STAT, TIME_GM 0, TIME_GM 1, TIME_UTC] ∧ t = { v with time := t.time, flt := t.flt, regs := t.regs }) ∧
  (∀ (s u : State) (a : Announce) (m : Nat), u = s.runTo m → u.ptpOurs a.domain a.udp = true → u.stopped = true ∨ u.offer 15 ⟨64, .block 0⟩ = none →
    exec (.ptpAnnounce a m) s = .next (u.bump (HQ_CNT_REF 15))) ∧
  (∀ (s v : State) (a : Announce) (m : Nat), (s.runTo m).ptpOurs a.domain a.udp = true → (s.runTo m).ptpIn = (v, true) → 255 ≤ a.stepsRemoved →
    exec (.ptpAnnounce a m) s = .next v) ∧
  (∀ (s : State) (a : Announce) (m : Nat), (s.runTo m).ptpOurs a.domain a.udp = false → exec (.ptpAnnounce a m) s = .next (s.runTo m))

/-- The time base. A chosen master that is lost without another takes ACQUIRE or SYNC to HOLDOVER; before its time-out nothing changes. The transparent clock sends what it forwards on the
other port: Sync, Delay_Req and Delay_Resp with the residence in their correction, a two-step Sync unchanged, its Follow_Up with what has been gathered, peer-delay messages not at all, and nothing with TC_EN clear. A plant frame goes to HQ15 under the handler of
its EtherType, or without one is counted as refused. TIME_ACCEPT with its key accepts a pending step, or sets ACC_REF. TIME_STEP of an accepted offset, or of the first, moves disciplined time by −offset rounded to a millisecond at a millisecond-frame boundary, what is due on the
grid with it, and sets STEPPED; elsewhere it does nothing. Writes of TIME_CFG and TIME_PTP take the written fields and restart the servo where R420 says. TIME_RING_HOLDOVER acts where every ring has been silent for 4 cycles. TIME_NOW_READ answers the nanoseconds and
captures the rest.
The model's choices that clauses of it rest on are log 109, 111, 113, 115, 194, 263, 265. -/
def Obligations.TimeBaseRuns : Prop :=
  (∀ (s : State) (m : Nat) (x : PtpMaster), s.time.master = some x → x.expires ≤ (s.runTo m).time.mono →
    (∀ k ∈ s.time.known, k.identity = x.identity ∨ k.expires ≤ (s.runTo m).time.mono) → s.tstate = tsACQUIRE ∨ s.tstate = tsSYNC →
    ∃ t, exec (.announceTimeout m) s = .next t ∧ t.time.master = none ∧ t.tstate = tsHOLDOVER ∧ (s.runTo m).raisedOne t srcTIME 0x71 cMINOR ∧
      t.rdI TIME_FADJ = signed 32 (wrapNat 32 (s.runTo m).meanFadj) ∧ t.time.holdFrom = some (s.runTo m).time.mono ∧
      s.keeps t [TIME_STAT, TIME_FADJ, TIME_HOLD_MS] ∧ t = { s.runTo m with time := t.time, wheel := t.wheel, flt := t.flt, regs := t.regs }) ∧
  (∀ (s : State) (m : Nat), s.time.master = none ∨ (∃ x, s.time.master = some x ∧ (s.runTo m).time.mono < x.expires) →
    exec (.announceTimeout m) s = .next (s.runTo m)) ∧
  (∀ (s v : State) (m : Nat) (x : PtpMaster), s.time.master = some x → x.expires ≤ (s.runTo m).time.mono →
    v = (let u := s.runTo m; { u with time := { u.time with known := s.time.known.filter (fun (k : PtpMaster) => k.identity != x.identity && u.time.mono < k.expires) } }.choose) →
    v.time.master.isSome = true ∨ (s.tstate ≠ tsACQUIRE ∧ s.tstate ≠ tsSYNC) → exec (.announceTimeout m) s = .next v) ∧
  (∀ (s : State) (m : PtpMsg) (r k : Nat), (s.runTo m.t).flag TIME_PTP_TC_EN = true → (k = 0 ∧ m.twoStep = false) ∨ k = 1 ∨ k = 9 →
    (k = 0 → s.flag TIME_PTP_DELAY = false ∨ m.port ≠ s.f TIME_STAT_OC_PORT) →
    ∃ t, exec (.tcForward k m r) s = .next t ∧ t = (s.runTo m.t).portSent ⟨1 - m.port, k, m.seqId, m.origin / 65536, m.corr + (s.runTo m.t).residence r⟩ ∧
      ⟨1 - m.port, k, m.seqId, m.origin / 65536, m.corr + (s.runTo m.t).residence r⟩ ∈ t.time.sent) ∧
  (∀ (s : State) (m : PtpMsg) (r : Nat), s.flag TIME_PTP_TC_EN = true → m.twoStep = false → s.flag TIME_PTP_DELAY = true → m.port = s.f TIME_STAT_OC_PORT →
    exec (.tcForward 0 m r) s = .next ((s.runTo m.t).portSent
      ⟨1 - m.port, 0, m.seqId, m.origin / 65536, m.corr + ((s.runTo m.t).residence r + s.time.mpd.getD 0)⟩)) ∧
  (∀ (s : State) (m : PtpMsg) (r : Nat), s.flag TIME_PTP_TC_EN = true → m.twoStep = true → s.flag TIME_PTP_DELAY = false →
    ∃ t, exec (.tcForward 0 m r) s = .next t ∧ ⟨1 - m.port, 0, m.seqId, m.origin / 65536, m.corr⟩ ∈ t.time.sent ∧
      t.time.tcHeld = (HeldSync.mk m.port m.source m.seqId m.rx ((s.runTo m.t).residence r) m.t :: s.time.tcHeld).take 16 ∧
      t = { s.runTo m.t with time := { (s.runTo m.t).time with tcHeld := t.time.tcHeld, sent := t.time.sent } }) ∧
  (∀ (s : State) (m : PtpMsg) (r : Nat) (h : HeldSync), s.flag TIME_PTP_TC_EN = true →
    s.time.tcHeld.find? (fun (h : HeldSync) => h.source == m.source && h.seqId == m.seqId && h.port == m.port) = some h →
    ∃ t, exec (.tcForward 8 m r) s = .next t ∧ ⟨1 - m.port, 8, m.seqId, m.origin / 65536, m.corr + h.corr⟩ ∈ t.time.sent ∧ h ∉ t.time.tcHeld ∧
      t = { s.runTo m.t with time := { (s.runTo m.t).time with tcHeld := t.time.tcHeld, sent := t.time.sent } }) ∧
  (∀ (s : State) (m : PtpMsg) (r : Nat), s.flag TIME_PTP_TC_EN = true →
    s.time.tcHeld.find? (fun (h : HeldSync) => h.source == m.source && h.seqId == m.seqId && h.port == m.port) = none →
    exec (.tcForward 8 m r) s = .next (((s.runTo m.t).bump TIME_CNT_TC).portSent ⟨1 - m.port, 8, m.seqId, m.origin / 65536, m.corr⟩)) ∧
  (∀ (s : State) (k : Nat) (m : PtpMsg) (r : Nat), s.flag TIME_PTP_TC_EN = false ∨ k = 2 ∨ k = 3 ∨ k = 10 → exec (.tcForward k m r) s = .next (s.runTo m.t)) ∧
  (∀ (s : State) (k : Nat) (m : PtpMsg) (r : Nat), s.flag TIME_PTP_TC_EN = true → k ∉ [0, 1, 2, 3, 8, 9, 10] →
    exec (.tcForward k m r) s = .next ((s.runTo m.t).portSent ⟨1 - m.port, k, m.seqId, m.origin / 65536, m.corr⟩)) ∧
  (∀ (s : State) (e : Nat) (bs : List Byte), s.st.etherRoutes.find? (fun (r : Route) => r.code == e) = none →
    ∃ t, exec (.plantFrameRx e bs) s = .next t ∧ t.rdN (HQ_CNT_REF 15) = min (s.rdN (HQ_CNT_REF 15) + 1) 4294967295 ∧
      s.keeps t [HQ_CNT_REF 15] ∧ t = { s with regs := t.regs }) ∧
  (∀ (s : State) (e : Nat) (bs : List Byte) (r : Route), s.st.etherRoutes.find? (fun (r : Route) => r.code == e) = some r → s.stopped = true →
    exec (.plantFrameRx e bs) s = .next s) ∧
  (∀ (s u : State) (e : Nat) (bs : List Byte) (r : Route), s.st.etherRoutes.find? (fun (r : Route) => r.code == e) = some r → s.stopped = false →
    s.offer 15 ⟨max 1 bs.length, .work { src := 15, handler := r.handler, key := r.key, group := r.group, payload := bs, entry := s.time.now,
                                         late := false, id := s.sched.nextId }⟩ = some u →
    ∃ t, exec (.plantFrameRx e bs) s = .next t ∧ t.hq = u.hq ∧ (t.queue 15).items.length = (s.queue 15).items.length + 1 ∧
      (∃ w ∈ t.sched.ready, w.handler = r.handler ∧ w.key = r.key ∧ w.group = r.group ∧ w.payload = bs ∧ w.src = 15) ∧
      t.sched.ready.length = s.sched.ready.length + 1 ∧
      s.keeps t [HQ_HWM 15] ∧ t = { s with hq := t.hq, sched := t.sched, regs := t.regs }) ∧
  (∀ (s : State) (k : Nat), k ≠ 0x544D ∨ s.mapOpen = false → exec (.timeAccept k) s = .next s) ∧
  (∀ s : State, s.mapOpen = true → s.flag TIME_STAT_STEP_PEND = true → ∃ t, exec (.timeAccept 0x544D) s = .next t ∧ t.time.accepted = true ∧
    t = { s with time := { s.time with accepted := true } }) ∧
  (∀ s : State, s.mapOpen = true → s.flag TIME_STAT_STEP_PEND = false → ∃ t, exec (.timeAccept 0x544D) s = .next t ∧ t.f TIME_STAT_ACC_REF = 1 ∧
    s.keeps t [TIME_STAT] ∧ t = { s with time := { s.time with hits := t.time.hits }, regs := t.regs }) ∧
  (∀ (s : State) (ms : Int), s.onGrid Config.msUnits = true → s.time.firstStep = none → s.time.accepted = true → s.mode ≠ mCHANGEOVER →
    ms = -(roundHalfEven (65536 * signed 64 (s.rd2 TIME_PEND)) 65536000000) →
    ∃ t, exec .timeStep s = .next t ∧ t.time.now = ((s.time.now : Int) + ms * Config.msUnits).toNat ∧ t.time.accepted = false ∧
      t.rd TIME_LASTSTEP = BitVec.ofInt 32 ms ∧ t.f TIME_STAT_STEPPED = 1 ∧ t.tstate = tsACQUIRE ∧ s.raisedOne t srcTIME 0x73 cINFO ∧
      t.time.elapsed = s.time.elapsed ∧ (∀ r : Fin 2, (t.rings.get r).nextDep = (((s.rings.get r).nextDep : Int) + ms * Config.msUnits).toNat) ∧
      (s.mst = msLOCKED ∨ s.mst = msPULL → t.mst = msPULL) ∧
      s.keeps t [TIME_STAT, TIME_LASTSTEP, WHEEL_STAT] ∧
      t = { s with time := t.time, flt := t.flt, rings := t.rings, acq := t.acq, wheel := t.wheel, regs := t.regs }) ∧
  (∀ (s : State) (o ms : Int), s.onGrid Config.msUnits = true → s.time.firstStep = some o → ms = -(roundHalfEven o 65536000000) →
    ∃ t, exec .timeStep s = .next t ∧ t.time.now = ((s.time.now : Int) + ms * Config.msUnits).toNat ∧ t.time.firstStep = none ∧
      t.rd TIME_LASTSTEP = BitVec.ofInt 32 ms ∧ t.f TIME_STAT_STEPPED = 1 ∧ t.tstate = s.tstate ∧ s.raisedOne t srcTIME 0x73 cINFO ∧
      s.keeps t [TIME_STAT, TIME_LASTSTEP, WHEEL_STAT] ∧
      t = { s with time := t.time, flt := t.flt, rings := t.rings, acq := t.acq, wheel := t.wheel, regs := t.regs }) ∧
  (∀ s : State, s.onGrid Config.msUnits = false ∨ (s.time.firstStep = none ∧ (s.time.accepted = false ∨ s.mode = mCHANGEOVER)) →
    exec .timeStep s = .next s) ∧
  (∀ (s : State) (v : Word), s.mapOpen = false → exec (.timeCfgWrite v) s = .next s ∧ exec (.timePtpWrite v) s = .next s ∧
    exec .timeNowRead s = .next { s with rdData := 0 }) ∧
  (∀ (s : State) (v : Word), s.mapOpen = true → TIME_CFG_SRC.get v = s.f TIME_CFG_SRC →
    ∃ t, exec (.timeCfgWrite v) s = .next t ∧ t.rd TIME_CFG = v &&& 0xFFFF1FFF#32 ∧ |t.rdI TIME_FADJ| ≤ t.fadjLimit ∧
    (|s.rdI TIME_FADJ| ≤ t.fadjLimit → t.rd TIME_FADJ = s.rd TIME_FADJ) ∧
    s.keeps t [TIME_CFG, TIME_FADJ] ∧ t = { s with wheel := t.wheel, regs := t.regs }) ∧
  (∀ (s : State) (v : Word), s.mapOpen = true → TIME_CFG_SRC.get v ≠ s.f TIME_CFG_SRC →
    ∃ t, exec (.timeCfgWrite v) s = .next t ∧ t.rd TIME_CFG = v &&& 0xFFFF1FFF#32 ∧ |t.rdI TIME_FADJ| ≤ t.fadjLimit ∧
    t.tstate = tsFREE ∧ t.time.integ = 0 ∧ s.keeps t [TIME_CFG, TIME_FADJ, TIME_STAT] ∧ t = { s with time := t.time, wheel := t.wheel, regs := t.regs }) ∧
  (∀ (s : State) (v : Word), s.mapOpen = true → ∃ t, exec (.timePtpWrite v) s = .next t ∧ t.rd TIME_PTP = v &&& 0x3FFF#32 ∧ t.tstate = tsFREE ∧
    (TIME_PTP_EN.get v = 0 ∨ TIME_PTP_DOMAIN.get v ≠ s.f TIME_PTP_DOMAIN ∨ TIME_PTP_TRANSPORT.get v ≠ s.f TIME_PTP_TRANSPORT →
      t.time.master = none ∧ t.time.known = []) ∧
    (TIME_PTP_EN.get v = 1 → TIME_PTP_DOMAIN.get v = s.f TIME_PTP_DOMAIN → TIME_PTP_TRANSPORT.get v = s.f TIME_PTP_TRANSPORT →
      t.time.master = s.time.master ∧ t.time.known = s.time.known) ∧
    s.keeps t [TIME_PTP, TIME_STAT] ∧ t = { s with time := t.time, regs := t.regs }) ∧
  (∀ s : State, s.tstate = tsRING → (∀ r : Fin 2, ∀ x, (s.rings.get r).heard = some x → 4 * s.ringPeriod r ≤ (s.time.mono - x.at_) * s.cycleInc) →
    ∃ t, exec .timeRingHoldover s = .next t ∧ t.tstate = tsHOLDOVER ∧ s.raisedOne t srcTIME 0x71 cMINOR ∧
    t.time.holdFrom = some s.time.mono ∧ s.keeps t [TIME_STAT, TIME_FADJ, TIME_HOLD_MS] ∧
    t = { s with time := t.time, wheel := t.wheel, flt := t.flt, regs := t.regs }) ∧
  (∀ s : State, s.tstate ≠ tsRING ∨ (∃ r : Fin 2, ∃ x, (s.rings.get r).heard = some x ∧ (s.time.mono - x.at_) * s.cycleInc < 4 * s.ringPeriod r) →
    exec .timeRingHoldover s = .next s) ∧
  (∀ s : State, s.mapOpen = true → ∃ t, exec .timeNowRead s = .next t ∧ t.rdData = BitVec.ofNat 32 s.time.now.ns ∧ t.rdN TIME_NOW_SUB = s.time.now.sub % 4294967296 ∧
    t.rd2 TIME_NOW_SEC = s.time.now.sec % 18446744073709551616 ∧ s.keeps t [TIME_NOW_NS, TIME_NOW_SUB, TIME_NOW_SEC 0, TIME_NOW_SEC 1] ∧
    t = { s with rdData := t.rdData, regs := t.regs })

/-- Feedback counting. A sample off the FBS grid applies only a correction that is due; else (u is the state with that correction applied, a1, b1, z1 are the levels that the lines' filters accept) FB_COUNT_EDGE, FB_ILLEGAL_EDGE and INDEX_EVENT do one thing:
a change that the mode gives is counted, reversed by INV; one that it does not allow leaves the
count, sets ILLEGAL, counts and raises a notice; and a rising Z, inverted by ZPOL and gated by ZGATE, in modes 1 to 3 is an index event. An armed index event references the port at FBP_IDXBASE, and starts a real master that has not been referenced; one of a referenced port with a period shows its slip, and
corrects it one sample later where IDX_CORR is set and the slip is within the window. A bad SSI frame is counted and ages the port; a good one moves the
count by the difference of the positions, the first one sets it and references the port. A missing index raises once. REF_ARM
arms. A port still at a loop tick latch is shown at standstill with speed 0.
The model's choices that clauses of it rest on are log 73, 75, 220, 221. -/
def Obligations.FeedbackCounts : Prop :=
  (∀ (s u : State) (p : Fin 32) (a b z : Bool) (na nb nz m : Nat), u = (s.runTo m).settle p m → m % 4 ≠ 0 →
    exec (.fbCountEdge p a b z na nb nz m) s = .next u ∧ exec (.fbIllegalEdge p a b z na nb nz m) s = .next u ∧
    exec (.indexEvent p a b z na nb nz m) s = .next u) ∧
  (∀ (s u : State) (p : Fin 32) (a b z a1 b1 z1 : Bool) (na nb nz m : Nat), u = (s.runTo m).settle p m → m % 4 = 0 →
    a1 = (if u.f (FBP_CFG_FILT p) < na then a else u.lineA p) → b1 = (if u.f (FBP_CFG_FILT p) < nb then b else u.lineB p) →
    z1 = (if u.f (FBP_CFG_FILT p) < nz then z else u.lineZ p) →
    u.portMode p = 0 ∨ 4 ≤ u.portMode p ∨ z1 = u.flag (FBP_CFG_ZPOL p) ∨ u.lineZ p ≠ u.flag (FBP_CFG_ZPOL p) ∨
      (u.flag (FBP_CFG_ZGATE p) = true ∧ (a1 = false ∨ b1 = false)) →
    exec (.fbCountEdge p a b z na nb nz m) s = .next (u.countSample p a1 b1 z1 m) ∧
    exec (.fbIllegalEdge p a b z na nb nz m) s = .next (u.countSample p a1 b1 z1 m) ∧
    exec (.indexEvent p a b z na nb nz m) s = .next (u.countSample p a1 b1 z1 m)) ∧
  (∀ (s u : State) (p : Fin 32) (a b z a1 b1 z1 : Bool) (na nb nz m : Nat), u = (s.runTo m).settle p m → m % 4 = 0 →
    a1 = (if u.f (FBP_CFG_FILT p) < na then a else u.lineA p) → b1 = (if u.f (FBP_CFG_FILT p) < nb then b else u.lineB p) →
    z1 = (if u.f (FBP_CFG_FILT p) < nz then z else u.lineZ p) →
    1 ≤ u.portMode p → u.portMode p ≤ 3 → z1 ≠ u.flag (FBP_CFG_ZPOL p) → u.lineZ p = u.flag (FBP_CFG_ZPOL p) →
    (u.flag (FBP_CFG_ZGATE p) = true → a1 = true ∧ b1 = true) →
    exec (.fbCountEdge p a b z na nb nz m) s = .next ((u.countSample p a1 b1 z1 m).indexEvent p m) ∧
    exec (.fbIllegalEdge p a b z na nb nz m) s = .next ((u.countSample p a1 b1 z1 m).indexEvent p m) ∧
    exec (.indexEvent p a b z na nb nz m) s = .next ((u.countSample p a1 b1 z1 m).indexEvent p m)) ∧
  (∀ (s u : State) (p : Fin 32) (a b z : Bool) (na nb nz m : Nat) (d : Int), u = (s.runTo m).settle p m → m % 4 = 0 →
    u.f (FBP_CFG_FILT p) < na → u.f (FBP_CFG_FILT p) < nb → u.f (FBP_CFG_FILT p) < nz →
    edgeKind (u.portMode p) (u.lineA p) (u.lineB p) (u.lineZ p) a b z = .change d →
    u.portMode p = 4 ∨ z = u.flag (FBP_CFG_ZPOL p) ∨ u.lineZ p ≠ u.flag (FBP_CFG_ZPOL p) → u.masterPort ≠ p ∨ u.mst ≠ msREAL →
    ∃ t, exec (.fbCountEdge p a b z na nb nz m) s = .next t ∧ t.rd (FBP_CNT p) = BitVec.ofInt 32 (u.count p + u.inv p d) ∧
      (t.fbps.get p).last = some (m, u.inv p d) ∧ t.lineA p = a ∧ t.lineB p = b ∧ t.lineZ p = z ∧ (∀ q, q ≠ p → t.fbps.get q = u.fbps.get q) ∧
      u.keeps t [FBP_CNT p, FBP_STAT p] ∧ t = { u with fbps := t.fbps, regs := t.regs }) ∧
  (∀ (s u : State) (p : Fin 32) (a b z : Bool) (na nb nz m : Nat), u = (s.runTo m).settle p m → m % 4 = 0 →
    u.f (FBP_CFG_FILT p) < na → u.f (FBP_CFG_FILT p) < nb → u.f (FBP_CFG_FILT p) < nz →
    edgeKind (u.portMode p) (u.lineA p) (u.lineB p) (u.lineZ p) a b z = .illegal →
    u.portMode p = 4 ∨ z = u.flag (FBP_CFG_ZPOL p) ∨ u.lineZ p ≠ u.flag (FBP_CFG_ZPOL p) →
    ∃ t, exec (.fbIllegalEdge p a b z na nb nz m) s = .next t ∧ t.f (FBP_STAT_ILLEGAL p) = 1 ∧ t.rd (FBP_CNT p) = u.rd (FBP_CNT p) ∧
      t.rdN (FBP_CNT_ILL p) = min (u.rdN (FBP_CNT_ILL p) + 1) 4294967295 ∧ (t.fbps.get p).illNow = (u.fbps.get p).illNow + 1 ∧
      (∀ x, u.tileOfPort p = some x → t.f (TILE_FB_STAT_ILLEGAL x) = 1) ∧ u.raisedOne t (0x80 + p) 0x18 cINFO ∧
      (u.tileOfPort p = none → u.keeps t [FBP_CNT_ILL p, FBP_STAT p]) ∧
      (∀ x, u.tileOfPort p = some x → u.keeps t [FBP_CNT_ILL p, FBP_STAT p, TILE_FB_STAT x]) ∧
      t = { u with time := { u.time with hits := t.time.hits }, fbps := t.fbps, flt := t.flt, regs := t.regs }) ∧
  (∀ (v : State) (p : Fin 32) (m : Nat), v.refArmed p m = true → v.masterPort ≠ p →
    ∃ t, v.indexEvent p m = t ∧ t.rd (FBP_CNT p) = BitVec.ofInt 32 (v.count p + (v.idxBase p - v.count p)) ∧ t.rd (FBP_IDXCNT p) = BitVec.ofInt 32 (v.count p) ∧
      t.f (FBP_STAT_REFERENCED p) = 1 ∧ t.f (FBP_STAT_REF_ARMED p) = 0 ∧ (t.fbps.get p).lastIdx = some (v.idxBase p) ∧ (t.fbps.get p).corr = none ∧
      v.keeps t [FBP_CNT p, FBP_IDXCNT p, FBP_STAT p] ∧ t = { v with fbps := t.fbps, regs := t.regs }) ∧
  (∀ (v : State) (p : Fin 32) (m : Nat), v.refArmed p m = true → v.masterPort = p → v.flag WHEEL_MST_CTL_SRC = true → v.mst = msHOLD →
    v.wheel.referenced = false → v.wheelHeld = false →
    ∃ t, v.indexEvent p m = t ∧ t.mst = msREAL ∧ t.wheel.referenced = true ∧ t.wheel.pos = v.wheel.pos ∧ t.f (FBP_STAT_REFERENCED p) = 1 ∧
      v.keeps t [FBP_CNT p, FBP_IDXCNT p, FBP_STAT p, WHEEL_STAT]) ∧
  (∀ (v : State) (p : Fin 32) (m : Nat), v.refArmed p m = false → v.flag (FBP_STAT_REFERENCED p) = false ∨ v.idxPeriod p = 0 →
    ∃ t, v.indexEvent p m = t ∧ t.rd (FBP_IDXCNT p) = BitVec.ofInt 32 (v.count p) ∧ (t.fbps.get p).lastIdx = some (v.count p) ∧
      v.keeps t [FBP_IDXCNT p] ∧ t = { v with fbps := t.fbps, regs := t.regs }) ∧
  (∀ (v : State) (p : Fin 32) (m : Nat) (d : Int), v.refArmed p m = false → v.flag (FBP_STAT_REFERENCED p) = true → v.idxPeriod p ≠ 0 →
    d = (v.count p - v.idxBase p + (v.idxPeriod p : Int) / 2) % (v.idxPeriod p : Int) - (v.idxPeriod p : Int) / 2 → d ≠ 0 → v.tileOfPort p = none →
    ∃ t, v.indexEvent p m = t ∧ t.f (FBP_STAT_SLIP p) = 1 ∧ t.rd (FBP_SLIP p) = BitVec.ofInt 32 d ∧ t.rd (FBP_CNT p) = v.rd (FBP_CNT p) ∧
      (v.flag (FBP_CFG_IDX_CORR p) = true → (v.idxWin p : Int) < |d| →
        t.f (FBP_STAT_OUT_WIN p) = 1 ∧ v.raisedOne t (0x80 + p) 0x19 cMAJOR ∧ (t.fbps.get p).corr = (v.fbps.get p).corr) ∧
      (v.flag (FBP_CFG_IDX_CORR p) = true → |d| ≤ (v.idxWin p : Int) → v.raisedOne t (0x80 + p) 0x19 cMINOR ∧ (t.fbps.get p).corr = some (m + 4, -d)) ∧
      (v.flag (FBP_CFG_IDX_CORR p) = false → v.raisedOne t (0x80 + p) 0x19 cMINOR ∧ (t.fbps.get p).corr = (v.fbps.get p).corr) ∧
      v.keeps t [FBP_IDXCNT p, FBP_STAT p, FBP_SLIP p] ∧
      t = { v with time := { v.time with hits := t.time.hits }, fbps := t.fbps, flt := t.flt, regs := t.regs }) ∧
  (∀ (s : State) (p : Fin 32) (bs : List Bool) (x y : Bool) (m : Nat), s.portMode p ≠ 5 ∨ (s.runTo m).atSsiEnd = false →
    exec (.ssiFrame p bs x y m) s = .next (s.runTo m)) ∧
  (∀ (s : State) (p : Fin 32) (bs : List Bool) (x y : Bool) (m : Nat), s.portMode p = 5 → (s.runTo m).atSsiEnd = true →
    x = false ∨ y = false ∨ bs.length ≠ s.f (FBP_SSI_FRAME_BITS p) →
    ∃ t, exec (.ssiFrame p bs x y m) s = .next t ∧ t.rdN (FBP_CNT_BAD p) = min (s.rdN (FBP_CNT_BAD p) + 1) 4294967295 ∧
      (t.fbps.get p).badRun = (s.fbps.get p).badRun + 1 ∧ (t.fbps.get p).aged = true ∧ (∀ q, q ≠ p → t.fbps.get q = s.fbps.get q) ∧ s.keeps t [FBP_CNT_BAD p] ∧
      t = { s.runTo m with fbps := t.fbps, regs := t.regs }) ∧
  (∀ (s : State) (p : Fin 32) (bs : List Bool) (m frame : Nat), s.portMode p = 5 → (s.runTo m).atSsiEnd = true → bs.length = s.f (FBP_SSI_FRAME_BITS p) →
    frame = bs.foldl (fun (v : Nat) b => 2 * v + b2n b) 0 → s.flag (FBP_SSI_CRC_EN p) = true →
    frame % 64 ≠ ssiCrc (frame / 64) (s.f (FBP_SSI_FRAME_BITS p) - 6) 0 →
    ∃ t, exec (.ssiFrame p bs true true m) s = .next t ∧ t.rdN (FBP_CNT_BAD p) = min (s.rdN (FBP_CNT_BAD p) + 1) 4294967295 ∧
      (t.fbps.get p).badRun = (s.fbps.get p).badRun + 1 ∧ (t.fbps.get p).aged = true ∧ s.keeps t [FBP_CNT_BAD p] ∧
      t = { s.runTo m with fbps := t.fbps, regs := t.regs }) ∧
  (∀ (s : State) (p : Fin 32) (bs : List Bool) (m frame raw : Nat), s.portMode p = 5 → (s.runTo m).atSsiEnd = true → bs.length = s.f (FBP_SSI_FRAME_BITS p) →
    frame = bs.foldl (fun (v : Nat) b => 2 * v + b2n b) 0 →
    s.flag (FBP_SSI_CRC_EN p) = false ∨ frame % 64 = ssiCrc (frame / 64) (s.f (FBP_SSI_FRAME_BITS p) - 6) 0 →
    raw = frame / 2 ^ s.f (FBP_SSI_POS_LSB p) % 2 ^ s.f (FBP_SSI_POS_BITS p) →
    (s.fbps.get p).ssiField = none → (s.fbps.get p).warm = none → s.masterPort ≠ p →
    ∃ t, exec (.ssiFrame p bs true true m) s = .next t ∧
      t.rd (FBP_CNT p) = BitVec.ofInt 32 ((if s.flag (FBP_SSI_GRAY p) then grayToBin raw (s.f (FBP_SSI_POS_BITS p)) else raw : Nat) : Int) ∧
      t.f (FBP_STAT_REFERENCED p) = 1 ∧ (t.fbps.get p).badRun = 0 ∧ (t.fbps.get p).aged = false ∧ s.keeps t [FBP_CNT p, FBP_STAT p] ∧
      t = { s.runTo m with fbps := t.fbps, regs := t.regs }) ∧
  (∀ (s : State) (p : Fin 32) (bs : List Bool) (m frame raw field o n : Nat) (d : Int), s.portMode p = 5 → (s.runTo m).atSsiEnd = true →
    bs.length = s.f (FBP_SSI_FRAME_BITS p) → frame = bs.foldl (fun (v : Nat) b => 2 * v + b2n b) 0 →
    s.flag (FBP_SSI_CRC_EN p) = false ∨ frame % 64 = ssiCrc (frame / 64) (s.f (FBP_SSI_FRAME_BITS p) - 6) 0 →
    n = s.f (FBP_SSI_POS_BITS p) → raw = frame / 2 ^ s.f (FBP_SSI_POS_LSB p) % 2 ^ n → field = (if s.flag (FBP_SSI_GRAY p) then grayToBin raw n else raw) →
    (s.fbps.get p).ssiField = some o → d = signed n (field + 2 ^ n - o % 2 ^ n) → 4 * |d| ≤ (2 ^ n : Int) → (s.fbps.get p).rerefer = false → s.masterPort ≠ p →
    ∃ t, exec (.ssiFrame p bs true true m) s = .next t ∧ t.rd (FBP_CNT p) = BitVec.ofInt 32 (s.count p + s.inv p d) ∧
      (t.fbps.get p).ssiField = some field ∧ (t.fbps.get p).badRun = 0 ∧ (t.fbps.get p).aged = false ∧ s.keeps t [FBP_CNT p] ∧
      t = { s.runTo m with fbps := t.fbps, regs := t.regs }) ∧
  (∀ (s : State) (p : Fin 32) (c : Int), (s.fbps.get p).lastIdx = some c → s.flag (FBP_STAT_REFERENCED p) = true → s.idxPeriod p ≠ 0 →
    (s.fbps.get p).idxLate = false → (s.idxPeriod p + s.idxWin p : Int) < |State.countDiff (s.count p) c| →
    ∃ t, exec (.fbIndexMissing p) s = .next t ∧ t.f (FBP_STAT_IDX_MISSING p) = 1 ∧ (t.fbps.get p).idxLate = true ∧
      s.raisedOne t (0x80 + p) 0x1A cMINOR ∧ s.keeps t [FBP_STAT p] ∧
      t = { s with time := { s.time with hits := t.time.hits }, fbps := t.fbps, flt := t.flt, regs := t.regs }) ∧
  (∀ (s : State) (p : Fin 32), (∀ c, (s.fbps.get p).lastIdx = some c → s.flag (FBP_STAT_REFERENCED p) = false ∨ s.idxPeriod p = 0 ∨
      (s.fbps.get p).idxLate = true ∨ |State.countDiff (s.count p) c| ≤ (s.idxPeriod p + s.idxWin p : Int)) → exec (.fbIndexMissing p) s = .next s) ∧
  (∀ (s : State) (p : Fin 32), s.mapOpen = false ∨ s.portMode p = 0 → exec (.refArm p) s = .next s) ∧
  (∀ (s : State) (p : Fin 32), s.mapOpen = true → s.portMode p ≠ 0 → ∃ t, exec (.refArm p) s = .next t ∧ t.f (FBP_STAT_REF_ARMED p) = 1 ∧
    (t.fbps.get p).armedAt = some s.time.mono ∧ s.keeps t [FBP_STAT p] ∧ t = { s with fbps := t.fbps, regs := t.regs }) ∧
  (∀ (s u : State) (a : Fin 96) (p : Fin 32) (m : Nat), u = s.runTo m → u.atTick = true → s.f (TILE_FB_SRC_SRC a) = 1 → s.f (TILE_FB_SRC_PORT a) = p →
    s.portMode p ≠ 5 → (s.fbps.get p).window u.latchPoint = [] → (s.fbps.get p).quiet (u.usCycles (u.f (TILE_FB_STILL_STILL_US a))) u.latchPoint = true →
    ∃ t, exec (.standstill a m) s = .next t ∧ t.f (TILE_FB_STAT_STANDSTILL a) = 1 ∧ t.rd2 (TILE_FB_SPD a) = 0 ∧ (t.fbps.get p).est = 0 ∧
      (t.fbps.get p).still = true ∧ s.keeps t [TILE_FB_STAT a, TILE_FB_SPD a 0, TILE_FB_SPD a 1] ∧
      t = { u with fbps := t.fbps, regs := t.regs }) ∧
  (∀ (s u : State) (a : Fin 96) (p : Fin 32) (m : Nat), u = s.runTo m → s.f (TILE_FB_SRC_PORT a) = p → u.atTick = false ∨ s.f (TILE_FB_SRC_SRC a) ≠ 1 ∨
    s.portMode p = 5 ∨ (s.fbps.get p).window u.latchPoint ≠ [] ∨
    (s.fbps.get p).quiet (u.usCycles (u.f (TILE_FB_STILL_STILL_US a))) u.latchPoint = false → exec (.standstill a m) s = .next u)

/-- Loss of feedback. Each cause of loss that a loop tick latch finds at a port, and a break of its wire at once, loses the port (portLost): LOST of the port is set; of the axis that the port serves LOST with its cause, VALID falls,
the speed is 0 and FB_LOST is raised from the axis, once; a real master on the port stops in HOLD and MASTER_LOST is raised. An aged remote
and frozen feedback act on the axis. Without its cause, off a loop tick, or for a port already lost nothing changes. LOST and FROZEN clear only when their cause is gone and they were not set in the same cycle; a port that comes back is unreferenced.
The model's choices that clauses of it rest on are log 73, 76, 225. -/
def Obligations.FeedbackLoss : Prop :=
  (∀ (s : State) (p : Fin 32), s.atTick = true → s.flag (FBP_STAT_LOST p) = false → 16 ≤ (s.fbps.get p).illPrev ∨ 16 ≤ (s.fbps.get p).illNow →
    exec (.illegalBurst p) s = .next (s.portLost p 5)) ∧
  (∀ (s : State) (p : Fin 32), s.atTick = false ∨ s.flag (FBP_STAT_LOST p) = true ∨ ((s.fbps.get p).illPrev < 16 ∧ (s.fbps.get p).illNow < 16) →
    exec (.illegalBurst p) s = .next s) ∧
  (∀ (s : State) (p : Fin 32), s.atTick = true → s.flag (FBP_STAT_LOST p) = false → s.f (FBP_CFG_SSI_ERRMAX p) ≤ (s.fbps.get p).badRun →
    (s.fbps.get p).badRun ≠ 0 → exec (.ssiLost p) s = .next (s.portLost p (if (s.fbps.get p).badCrcOnly then 3 else 2))) ∧
  (∀ (s : State) (p : Fin 32), s.atTick = false ∨ s.flag (FBP_STAT_LOST p) = true ∨ (s.fbps.get p).badRun < s.f (FBP_CFG_SSI_ERRMAX p) ∨
    (s.fbps.get p).badRun = 0 → exec (.ssiLost p) s = .next s) ∧
  (∀ (s : State) (p : Fin 32) (k m : Nat), (s.runTo m).atTick = true → s.flag (FBP_STAT_LOST p) = false → (s.fbps.get p).hallSince = some k →
    k + s.msCycles 1 ≤ (s.runTo m).time.mono → exec (.hallInvalid p m) s = .next ((s.runTo m).portLost p 4)) ∧
  (∀ (s : State) (p : Fin 32) (m : Nat), (s.runTo m).atTick = false ∨ s.flag (FBP_STAT_LOST p) = true ∨
    (∀ k, (s.fbps.get p).hallSince = some k → (s.runTo m).time.mono < k + s.msCycles 1) → exec (.hallInvalid p m) s = .next (s.runTo m)) ∧
  (∀ (s : State) (p : Fin 32) (low : Bool) (k m : Nat), k < s.usCycles 1 → exec (.wireBreak p low k m) s = .next (s.runTo m)) ∧
  (∀ (s : State) (p : Fin 32) (low : Bool) (k m : Nat), s.usCycles 1 ≤ k → low = false ∨ s.flag (FBP_CFG_WB_EN p) = false ∨ s.flag (FBP_STAT_LOST p) = true →
    ∃ t, exec (.wireBreak p low k m) s = .next t ∧ t.flag (FBP_STAT_WB p) = low ∧ s.keeps t [FBP_STAT p] ∧ t = { s.runTo m with regs := t.regs }) ∧
  (∀ (s : State) (p : Fin 32) (k m : Nat), s.usCycles 1 ≤ k → s.flag (FBP_CFG_WB_EN p) = true → s.flag (FBP_STAT_LOST p) = false →
    ∃ u, exec (.wireBreak p true k m) s = .next (u.portLost p 1) ∧ u.f (FBP_STAT_WB p) = 1 ∧ s.keeps u [FBP_STAT p] ∧ u = { s.runTo m with regs := u.regs }) ∧
  (∀ (u : State) (p : Fin 32) (x : Fin 96) (c : Nat), u.tileOfPort p = some x → u.flag (TILE_FB_STAT_LOST x) = false → u.mst ≠ msREAL ∨ u.masterPort ≠ p → c < 8 →
    ∃ t, u.portLost p c = t ∧ t.f (FBP_STAT_LOST p) = 1 ∧ t.f (TILE_FB_STAT_LOST x) = 1 ∧ t.f (TILE_FB_STAT_LOST_CAUSE x) = c ∧
      t.f (TILE_FB_STAT_VALID x) = 0 ∧ t.rd2 (TILE_FB_SPD x) = 0 ∧ t.rd (TILE_FB_POS x) = u.rd (TILE_FB_POS x) ∧ u.raisedOne t x 0x1B cMAJOR ∧
      u.keeps t [FBP_STAT p, TILE_FB_STAT x, TILE_FB_SPD x 0, TILE_FB_SPD x 1] ∧
      t = { u with time := { u.time with hits := t.time.hits }, tiles := t.tiles, flt := t.flt, regs := t.regs }) ∧
  (∀ (u : State) (p : Fin 32) (c : Nat), u.tileOfPort p = none → u.mst ≠ msREAL ∨ u.masterPort ≠ p →
    ∃ t, u.portLost p c = t ∧ t.f (FBP_STAT_LOST p) = 1 ∧ u.keeps t [FBP_STAT p] ∧ t = { u with time := { u.time with hits := t.time.hits }, regs := t.regs }) ∧
  (∀ (u : State) (p : Fin 32) (c : Nat), u.tileOfPort p = none → u.mst = msREAL → u.masterPort = p →
    ∃ t, u.portLost p c = t ∧ t.f (FBP_STAT_LOST p) = 1 ∧ t.mst = msHOLD ∧ t.wheel.held = true ∧ u.raisedOne t srcWHEEL 0x10 cMAJOR ∧
      u.keeps t [FBP_STAT p, WHEEL_STAT] ∧
      t = { u with time := { u.time with hits := t.time.hits }, wheel := t.wheel, flt := t.flt, regs := t.regs }) ∧
  (∀ (s : State) (x : Fin 96), s.atTick = true → s.f (TILE_FB_SRC_SRC x) = 2 → s.f (TILE_FB_SRC_AGE_MAX x) < s.f (TILE_FB_STAT_AGE x) →
    s.flag (TILE_FB_STAT_LOST x) = false →
    ∃ t, exec (.remoteAged x) s = .next t ∧ t.f (TILE_FB_STAT_LOST x) = 1 ∧ t.f (TILE_FB_STAT_LOST_CAUSE x) = 6 ∧ t.f (TILE_FB_STAT_VALID x) = 0 ∧
      t.rd2 (TILE_FB_SPD x) = 0 ∧ s.raisedOne t x 0x1B cMAJOR ∧ s.keeps t [TILE_FB_STAT x, TILE_FB_SPD x 0, TILE_FB_SPD x 1] ∧
      t = { s with time := { s.time with hits := t.time.hits }, tiles := t.tiles, flt := t.flt, regs := t.regs }) ∧
  (∀ (s : State) (x : Fin 96), s.atTick = false ∨ s.f (TILE_FB_SRC_SRC x) ≠ 2 ∨ s.f (TILE_FB_STAT_AGE x) ≤ s.f (TILE_FB_SRC_AGE_MAX x) ∨
    s.flag (TILE_FB_STAT_LOST x) = true → exec (.remoteAged x) s = .next s) ∧
  (∀ (s : State) (x : Fin 96), s.atTick = true → s.frozenNow x = true → s.flag (TILE_FB_STAT_LOST x) = false → s.flag (TILE_FB_STAT_FROZEN x) = false →
    s.f (TILE_FB_SRC_SRC x) ≠ 0 → s.f (TILE_FB_SRC_SRC x) ≠ 1 ∨ s.mst ≠ msREAL ∨ s.masterPort ≠ s.f (TILE_FB_SRC_PORT x) →
    ∃ t, exec (.fbFrozen x) s = .next t ∧ t.f (TILE_FB_STAT_FROZEN x) = 1 ∧ t.f (TILE_FB_STAT_VALID x) = 0 ∧ t.rd2 (TILE_FB_SPD x) = 0 ∧
      t.rd (TILE_FB_POS x) = s.rd (TILE_FB_POS x) ∧ s.raisedOne t x 0x1C cMAJOR ∧ s.keeps t [TILE_FB_STAT x, TILE_FB_SPD x 0, TILE_FB_SPD x 1] ∧
      t = { s with time := { s.time with hits := t.time.hits }, flt := t.flt, regs := t.regs }) ∧
  (∀ (s : State) (x : Fin 96), s.atTick = true → s.frozenNow x = true → s.flag (TILE_FB_STAT_LOST x) = false → s.flag (TILE_FB_STAT_FROZEN x) = false →
    s.f (TILE_FB_SRC_SRC x) = 1 → s.mst = msREAL → s.masterPort = s.f (TILE_FB_SRC_PORT x) →
    ∃ t, exec (.fbFrozen x) s = .next t ∧ t.f (TILE_FB_STAT_FROZEN x) = 1 ∧ t.f (TILE_FB_STAT_VALID x) = 0 ∧ t.rd2 (TILE_FB_SPD x) = 0 ∧ t.mst = msHOLD ∧
      t.wheel.held = true ∧ s.keeps t [TILE_FB_STAT x, TILE_FB_SPD x 0, TILE_FB_SPD x 1, WHEEL_STAT] ∧
      t = { s with time := { s.time with hits := t.time.hits }, wheel := t.wheel, flt := t.flt, regs := t.regs }) ∧
  (∀ (s : State) (x : Fin 96), s.atTick = false ∨ s.frozenNow x = false ∨ s.flag (TILE_FB_STAT_LOST x) = true ∨ s.flag (TILE_FB_STAT_FROZEN x) = true ∨
    s.f (TILE_FB_SRC_SRC x) = 0 → exec (.fbFrozen x) s = .next s) ∧
  (∀ (s : State) (x : Fin 96) (v : Word), s.tileOpen x = false → exec (.fbLostClear (.tile x) v) s = .next s) ∧
  (∀ (s : State) (x : Fin 96), s.tileOpen x = true → s.flag (TILE_FB_STAT_LOST x) = true → s.f (TILE_FB_SRC_SRC x) ≠ 1 → s.tileCause x = false →
    s.hitNow (TILE_FB_STAT_LOST x) = false →
    ∃ t, exec (.fbLostClear (.tile x) 0x20#32) s = .next t ∧ t.f (TILE_FB_STAT_LOST x) = 0 ∧ t.f (TILE_FB_STAT_LOST_CAUSE x) = 0 ∧
      s.keeps t [TILE_FB_STAT x] ∧ t = { s with flt := t.flt, regs := t.regs }) ∧
  (∀ (s : State) (x : Fin 96) (p : Fin 32), s.tileOpen x = true → s.flag (TILE_FB_STAT_LOST x) = true → s.f (TILE_FB_SRC_SRC x) = 1 → s.f (TILE_FB_SRC_PORT x) = p →
    s.tileCause x = false → s.hitNow (TILE_FB_STAT_LOST x) = false →
    ∃ t, exec (.fbLostClear (.tile x) 0x20#32) s = .next t ∧ t.f (TILE_FB_STAT_LOST x) = 0 ∧ t.f (FBP_STAT_LOST p) = 0 ∧ t.f (FBP_STAT_REFERENCED p) = 0 ∧
      s.keeps t [TILE_FB_STAT x, FBP_STAT p] ∧ t = { s with fbps := t.fbps, flt := t.flt, regs := t.regs }) ∧
  (∀ (s : State) (x : Fin 96), s.tileCause x = true ∨ s.hitNow (TILE_FB_STAT_LOST x) = true ∨ s.flag (TILE_FB_STAT_LOST x) = false →
    ∃ t, exec (.fbLostClear (.tile x) 0x20#32) s = .next t ∧ s.keeps t [] ∧ t = { s with regs := t.regs }) ∧
  (∀ (s : State) (x : Fin 96), s.tileOpen x = true → s.frozenNow x = false → s.hitNow (TILE_FB_STAT_FROZEN x) = false →
    ∃ t, exec (.fbLostClear (.tile x) 0x40#32) s = .next t ∧ t.f (TILE_FB_STAT_FROZEN x) = 0 ∧ s.keeps t [TILE_FB_STAT x] ∧
      t = { s with flt := t.flt, regs := t.regs }) ∧
  (∀ (s : State) (p : Fin 32) (v : Word), s.mapOpen = false ∨ s.portMode p = 0 → exec (.fbLostClear (.port p) v) s = .next s) ∧
  (∀ (s : State) (p : Fin 32), s.mapOpen = true → s.portMode p ≠ 0 → s.flag (FBP_STAT_LOST p) = true → s.hitNow (FBP_STAT_LOST p) = false → s.portBad p = false →
    ∃ t, exec (.fbLostClear (.port p) 0x40#32) s = .next t ∧ t.f (FBP_STAT_LOST p) = 0 ∧ t.f (FBP_STAT_REFERENCED p) = 0 ∧ s.keeps t [FBP_STAT p] ∧
      (s.portMode p = 5 → (t.fbps.get p).rerefer = true) ∧ t = { s with fbps := t.fbps, regs := t.regs }) ∧
  (∀ (s : State) (p : Fin 32), s.flag (FBP_STAT_LOST p) = false ∨ s.hitNow (FBP_STAT_LOST p) = true ∨ s.portBad p = true →
    ∃ t, exec (.fbLostClear (.port p) 0x40#32) s = .next t ∧ s.keeps t [] ∧ t = { s with regs := t.regs })

/-- A segment that passes the checks of R190 and finds room stands last in HQ12 with its fields as given and the instant of its arrival, its tile counts one
more admission in this tick, and the answer is OK (0). One that meets a full HQ12 is answered FULL and counted at the queue
and at the tile. One that fails a check is answered with that check's code and counted at the tile. Nothing else changes.
The model's choices that clauses of it rest on are log 81, 227. -/
def Obligations.SegmentsAdmitted : Prop :=
  let runs := fun (s : State) (c : Instr) (a : Fin 96) (g : Segment) =>
    (g.axis = a.val → s.segCheck a g = admOK →
      (∀ u, s.offer 12 ⟨64, .segment g 0 s.time.mono⟩ = some u →
        ∃ t, exec c s = .next t ∧ t.rdData = 0 ∧ (t.queue 12).items = (s.queue 12).items ++ [⟨64, .segment g 0 s.time.mono⟩] ∧
          (t.tiles.get a).admitted = (s.tiles.get a).admitted + 1 ∧ (∀ b, b ≠ a → t.tiles.get b = s.tiles.get b) ∧
          (∀ n, n ≠ 12 → t.queue n = s.queue n) ∧ s.keeps t [HQ_HWM 12] ∧
          t = { s with hq := t.hq, tiles := t.tiles, regs := t.regs, rdData := t.rdData }) ∧
      (s.offer 12 ⟨64, .segment g 0 s.time.mono⟩ = none →
        ∃ t, exec c s = .next t ∧ t.rdData = 1 ∧ t.rdN (HQ_CNT_REF 12) = min (s.rdN (HQ_CNT_REF 12) + 1) 4294967295 ∧
          t.rdN (TILE_PLN_CNT_REF a) = min (s.rdN (TILE_PLN_CNT_REF a) + 1) 4294967295 ∧
          s.keeps t [HQ_CNT_REF 12, TILE_PLN_CNT_REF a] ∧ t = { s with regs := t.regs, rdData := t.rdData })) ∧
    (g.axis = a.val → s.segCheck a g ≠ admOK →
        ∃ t, exec c s = .next t ∧ t.rdData = BitVec.ofNat 32 (s.segCheck a g) ∧ t.rdN (TILE_PLN_CNT_REF a) = min (s.rdN (TILE_PLN_CNT_REF a) + 1) 4294967295 ∧
          s.keeps t [TILE_PLN_CNT_REF a] ∧ t = { s with regs := t.regs, rdData := t.rdData })
  ∀ (s : State) (a : Fin 96) (start vm am dm jm par seq : Nat) (rel wl : Bool) (tg : Int),
    runs s (.posSegment a start rel wl tg vm am dm jm seq) a ⟨a, kPOS, start, rel, wl, tg, vm, am, dm, jm, 0, seq⟩ ∧
    runs s (.velSegment a start wl tg vm am dm jm seq) a ⟨a, kVEL, start, false, wl, tg, vm, am, dm, jm, 0, seq⟩ ∧
    runs s (.stopSegment a seq) a ⟨a, kSTOP, 0, false, false, 0, 0, 0, 0, 0, 0, seq⟩ ∧
    runs s (.limitsSegment a start vm am dm jm seq) a ⟨a, kLIMITS, start, false, true, 0, vm, am, dm, jm, 0, seq⟩ ∧
    runs s (.homeSegment a start wl tg vm am dm jm par seq) a ⟨a, kHOME, start, false, wl, tg, vm, am, dm, jm, par, seq⟩ ∧
    runs s (.setposSegment a start tg seq) a ⟨a, kSETPOS, start, false, false, tg, 0, 0, 0, 0, 0, seq⟩ ∧
    runs s (.followSegment a start wl vm am dm jm par seq) a ⟨a, kFOLLOW, start, false, wl, 0, vm, am, dm, jm, par, seq⟩

/-- The checks of R190: an axis that TILEMAP does not name, or a door drive, is answered STRUCTURE; an absolute POS of an axis
that is not referenced, or any motion outside COMMISSION, RUN and CHANGEOVER, MODE; limits above a ceiling or an absolute
target of a linear axis outside LIM_LO to LIM_HI, BUDGET; a full set of queued slots, or an occupied held slot, FULL. A
refusal bumps the tile's counter and leaves all else; the earlier check answers.
The model's choices that clauses of it rest on are log 80. -/
def Obligations.SegmentChecks : Prop :=
  let no := fun (s : State) (a : Fin 96) (c : Instr) (code : Nat) =>
    ∃ t, exec c s = .next t ∧ t.rdData = BitVec.ofNat 32 code ∧ t.rdN (TILE_PLN_CNT_REF a) = min (s.rdN (TILE_PLN_CNT_REF a) + 1) 4294967295 ∧
      s.keeps t [TILE_PLN_CNT_REF a] ∧ t = { s with regs := t.regs, rdData := t.rdData }
  let plain := fun (s : State) (a : Fin 96) => a.val ∈ s.st.axes ∧ s.doorDrive a = false
  let live := fun (s : State) (a : Fin 96) => (s.mode = mRUN ∨ s.mode = mCOMMISSION) ∧ s.axisOff a = false
  (∀ (s : State) (a : Fin 96) (st vm am dm jm seq : Nat) (rel wl : Bool) (tg : Int),
    a.val ∉ s.st.axes ∨ s.doorDrive a = true → no s a (.posSegment a st rel wl tg vm am dm jm seq) admSTRUCTURE) ∧
  (∀ (s : State) (a : Fin 96) (st vm am dm jm seq : Nat) (wl : Bool) (tg : Int), plain s a → st < 3 → s.mode = mSAFE_HOLD →
    no s a (.velSegment a st wl tg vm am dm jm seq) admMODE) ∧
  (∀ (s : State) (a : Fin 96) (st vm am dm jm seq : Nat) (wl : Bool) (tg : Int), plain s a → st < 3 → live s a → s.referenced a = false →
    no s a (.posSegment a st false wl tg vm am dm jm seq) admMODE) ∧
  (∀ (s : State) (a : Fin 96) (seq : Nat), plain s a → s.mode < mCOMMISSION → no s a (.stopSegment a seq) admMODE) ∧
  (∀ (s : State) (a : Fin 96) (st vm am dm jm seq : Nat), plain s a → st < 3 → mCOMMISSION ≤ s.mode → s.limitsOk a vm am dm jm = false →
    no s a (.limitsSegment a st vm am dm jm seq) admBUDGET) ∧
  (∀ (s : State) (a : Fin 96) (st vm am dm jm seq : Nat) (tg : Int), plain s a → st < 3 → live s a → s.referenced a = true →
    (s.planLim a).rotary = false → tg < s.limLo a * 4294967296 ∨ s.limHi a * 4294967296 < tg →
    no s a (.posSegment a st false false tg vm am dm jm seq) admBUDGET) ∧
  (∀ (s : State) (a : Fin 96) (vm am dm jm seq : Nat) (tg : Int) (g : Segment), plain s a → live s a →
    (s.tiles.get a).admitted < (s.planLim a).perTick → (s.tiles.get a).held = some g →
    no s a (.velSegment a 2 false tg vm am dm jm seq) admFULL) ∧
  (∀ (s : State) (a : Fin 96) (vm am dm jm seq : Nat) (tg : Int), plain s a → live s a →
    (s.tiles.get a).admitted < (s.planLim a).perTick → (s.planLim a).slots ≤ (s.tiles.get a).queued.length →
    no s a (.velSegment a 1 false tg vm am dm jm seq) admFULL)

/-- The planner. At a loop tick, a segment whose completion test holds completes: a POS segment with nothing queued sets DONE and leaves the planner IDLE; a VEL segment that goes on keeps its motion. Else, and off a tick, nothing
changes. STOP and QSTOP, written to a tile that is open, wait for a later latch. FLUSH empties the queued and held slots. A limit write above its ceiling, or of 0 in a limit but VMAX,
sets LIM_REFUSED; one within it waits for the latch; the low word of VMAX waits for the high one. A search that has run its distance sets HOME_FAIL and raises
PLN_HOME_FAIL. A blend that has run its ticks leaves the commanded state at the lead. The low word of RATIO or OFS waits for the high one, which writes both words of an
idle unit and has both wait for the latch of an engaged one. A lost lead of an engaged unit sets FOLLOW_LOST and plans to rest.
The model's choices that clauses of it rest on are log 78, 82, 84, 226, 227, 229, 230, 231. -/
def Obligations.PlannerRuns : Prop :=
  (∀ (s : State) (a : Fin 96) (g : Segment), s.atTick = true → s.segDone a = true → (s.tiles.get a).active = some g → g.kind = kPOS →
    (s.tiles.get a).atLim = false → (s.tiles.get a).queued = [] →
    ∃ t, exec (.segmentComplete a) s = .next t ∧ t.f (TILE_PLN_STAT_DONE a) = 1 ∧ t.f (TILE_PLN_STAT_MODE a) = pmIDLE ∧
      (t.tiles.get a).active = none ∧ (t.tiles.get a).ps.v = 0 ∧ s.keeps t [TILE_PLN_STAT a, TILE_PLN_SEQ a] ∧
      t = { s with time := { s.time with hits := t.time.hits }, tiles := t.tiles, regs := t.regs }) ∧
  (∀ (s : State) (a : Fin 96) (g : Segment) (pl : Plan), s.atTick = true → s.segDone a = true → (s.tiles.get a).active = some g → g.kind = kVEL →
    (s.tiles.get a).atLim = false → (s.tiles.get a).plan = some pl → pl.endP = none → (s.tiles.get a).ps.v ≠ 0 → (s.tiles.get a).queued = [] →
    ∃ t, exec (.segmentComplete a) s = .next t ∧ t.f (TILE_PLN_STAT_DONE a) = 1 ∧ (t.tiles.get a).complete = true ∧ (t.tiles.get a).active = some g ∧
      (t.tiles.get a).plan = some pl ∧ (∀ b, b ≠ a → t.tiles.get b = s.tiles.get b) ∧ s.keeps t [TILE_PLN_STAT a] ∧
      t = { s with time := { s.time with hits := t.time.hits }, tiles := t.tiles, regs := t.regs }) ∧
  (∀ (s : State) (a : Fin 96), s.atTick = true → s.segDone a = true → exec (.segmentComplete a) s = .next (s.completeSeg a)) ∧
  (∀ (s : State) (a : Fin 96), s.atTick = false ∨ s.segDone a = false → exec (.segmentComplete a) s = .next s) ∧
  (∀ (s : State) (a : Fin 96) (w : Fin 5) (o : Bool) (k : Fin 2) (v : Word), s.tileOpen a = false → exec (.plnStop a) s = .next s ∧ exec (.plnQstop a) s = .next s ∧
    exec (.plnFlush a) s = .next s ∧ exec (.plannerLimitWrite a w v) s = .next s ∧ exec (.followGearWrite a o k v) s = .next s) ∧
  (∀ (s : State) (a : Fin 96), s.tileOpen a = true → ∃ t, exec (.plnStop a) s = .next t ∧ (t.tiles.get a).stopReq = some s.time.mono ∧
    (∀ b, b ≠ a → t.tiles.get b = s.tiles.get b) ∧ t = { s with tiles := t.tiles }) ∧
  (∀ (s : State) (a : Fin 96), s.tileOpen a = true → ∃ t, exec (.plnQstop a) s = .next t ∧ (t.tiles.get a).qstopReq = some s.time.mono ∧
    (∀ b, b ≠ a → t.tiles.get b = s.tiles.get b) ∧ t = { s with tiles := t.tiles }) ∧
  (∀ (s : State) (a : Fin 96), s.tileOpen a = true → ∃ t, exec (.plnFlush a) s = .next t ∧ (t.tiles.get a).queued = [] ∧ (t.tiles.get a).held = none ∧
    (t.tiles.get a).active = (s.tiles.get a).active ∧ t.f (TILE_PLN_STAT_HELD a) = 0 ∧ t.f (TILE_PLN_STAT_QUEUED a) = 0 ∧
    (∀ b, b ≠ a → t.tiles.get b = s.tiles.get b) ∧ s.keeps t [TILE_PLN_STAT a, TILE_PLN_SEQ a] ∧ t = { s with tiles := t.tiles, regs := t.regs }) ∧
  (∀ (s : State) (a : Fin 96) (w : Fin 5) (v : Word) (c r : Nat), s.tileOpen a = true →
    (w = 2 ∧ c = (s.ceilings a).2.1 ∧ r = TILE_PLN_AMAX a) ∨ (w = 3 ∧ c = (s.ceilings a).2.2.1 ∧ r = TILE_PLN_DMAX a) ∨
      (w = 4 ∧ c = (s.ceilings a).2.2.2 ∧ r = TILE_PLN_JMAX a) →
    (c < v.toNat ∨ v = 0 →
      ∃ t, exec (.plannerLimitWrite a w v) s = .next t ∧ t.f (TILE_PLN_STAT_LIM_REFUSED a) = 1 ∧ s.keeps t [TILE_PLN_STAT a] ∧
        t = { s with time := { s.time with hits := t.time.hits }, regs := t.regs }) ∧
    (v.toNat ≤ c → v ≠ 0 →
      ∃ t, exec (.plannerLimitWrite a w v) s = .next t ∧ (t.tiles.get a).limPend = (s.tiles.get a).limPend ++ [(s.time.mono, r, v)] ∧
        (∀ b, b ≠ a → t.tiles.get b = s.tiles.get b) ∧ t = { s with tiles := t.tiles })) ∧
  (∀ (s : State) (a : Fin 96) (v : Word), s.tileOpen a = true → ∃ t, exec (.plannerLimitWrite a 0 v) s = .next t ∧ t.lowWord (TILE_PLN_VMAX a 0) = v ∧
    t = { s with lowWords := t.lowWords }) ∧
  (∀ (s : State) (a : Fin 96) (v : Word), s.tileOpen a = true → (s.ceilings a).1 < (s.lowWord (TILE_PLN_VMAX a 0)).toNat + 4294967296 * v.toNat →
    ∃ t, exec (.plannerLimitWrite a 1 v) s = .next t ∧ t.f (TILE_PLN_STAT_LIM_REFUSED a) = 1 ∧ s.keeps t [TILE_PLN_STAT a] ∧
      t = { s with time := { s.time with hits := t.time.hits }, regs := t.regs, lowWords := t.lowWords }) ∧
  (∀ (s : State) (a : Fin 96) (v : Word), s.tileOpen a = true → (s.lowWord (TILE_PLN_VMAX a 0)).toNat + 4294967296 * v.toNat ≤ (s.ceilings a).1 →
    ∃ t, exec (.plannerLimitWrite a 1 v) s = .next t ∧ (t.tiles.get a).limPend = (s.tiles.get a).limPend ++
        [(s.time.mono, TILE_PLN_VMAX a 0, s.lowWord (TILE_PLN_VMAX a 0)), (s.time.mono, TILE_PLN_VMAX a 1, v)] ∧
      (∀ b, b ≠ a → t.tiles.get b = s.tiles.get b) ∧ t = { s with tiles := t.tiles, lowWords := t.lowWords }) ∧
  (∀ (s : State) (a : Fin 96) (pl : Plan), s.atTick = true → (s.tiles.get a).searching = true → (s.tiles.get a).plan = some pl → pl.reached = true →
    s.flag (FBP_STAT_REF_ARMED (s.f (TILE_FB_SRC_PORT a))) = true → (s.tiles.get a).queued = [] →
    ∃ t, exec (.plnHomeFail a) s = .next t ∧ t.f (TILE_PLN_STAT_HOME_FAIL a) = 1 ∧ t.f (TILE_PLN_STAT_MODE a) = pmIDLE ∧
      s.raisedOne t a 0x23 cMINOR ∧ (t.tiles.get a).active = none ∧ s.keeps t [TILE_PLN_STAT a, TILE_PLN_SEQ a] ∧
      t = { s with time := { s.time with hits := t.time.hits }, tiles := t.tiles, flt := t.flt, regs := t.regs }) ∧
  (∀ (s : State) (a : Fin 96), s.atTick = false ∨ (s.tiles.get a).searching = false ∨ (∀ pl, (s.tiles.get a).plan = some pl → pl.reached = false) ∨
    s.flag (FBP_STAT_REF_ARMED (s.f (TILE_FB_SRC_PORT a))) = false → exec (.plnHomeFail a) s = .next s) ∧
  (∀ (s : State) (a : Fin 96) (b : FlwBlend), s.atTick = true → (s.tiles.get a).flw.blend = some b → s.f (TILE_FLW_CFG_BLEND a) ≤ b.k →
    ∃ t, exec (.followBlendEnd a) s = .next t ∧ (t.tiles.get a).flw.blend = none ∧ (t.tiles.get a).ps.p = (s.tiles.get a).flw.g ∧
      (t.tiles.get a).ps.v = (s.tiles.get a).flw.vg ∧
      s.keeps t [TILE_PLN_STAT a, TILE_PLN_POS a 0, TILE_PLN_POS a 1, TILE_PLN_VEL a 0, TILE_PLN_VEL a 1, TILE_PLN_ACC a] ∧
      t = { s with tiles := t.tiles, regs := t.regs }) ∧
  (∀ (s : State) (a : Fin 96), s.atTick = false ∨ (∀ b, (s.tiles.get a).flw.blend = some b → b.k < s.f (TILE_FLW_CFG_BLEND a)) →
    exec (.followBlendEnd a) s = .next s) ∧
  (∀ (s : State) (a : Fin 96) (o : Bool) (v : Word) (r : Nat → Nat), s.tileOpen a = true → r = (if o then TILE_FLW_OFS a else TILE_FLW_RATIO a) →
    (∃ t, exec (.followGearWrite a o 0 v) s = .next t ∧ t.lowWord (r 0) = v ∧ t = { s with lowWords := t.lowWords }) ∧
    (s.pmode a ≠ pmSYNC → s.pmode a ≠ pmLOCKED →
      ∃ t, exec (.followGearWrite a o 1 v) s = .next t ∧ t.rd (r 1) = v ∧ t.rd (r 0) = s.lowWord (r 0) ∧
        s.keeps t [r 0, r 1] ∧ t = { s with regs := t.regs, lowWords := t.lowWords }) ∧
    (s.pmode a = pmSYNC ∨ s.pmode a = pmLOCKED →
      ∃ t, exec (.followGearWrite a o 1 v) s = .next t ∧ (t.tiles.get a).flw.gear =
          (s.tiles.get a).flw.gear ++ [(s.time.mono, r 0, s.lowWord (r 0)), (s.time.mono, r 1, v)] ∧
        (∀ b, b ≠ a → t.tiles.get b = s.tiles.get b) ∧ t = { s with tiles := t.tiles, lowWords := t.lowWords })) ∧
  (∀ (s : State) (a : Fin 96), s.atTick = true → s.pmode a = pmSYNC ∨ s.pmode a = pmLOCKED → s.leadLost a = true →
    ∃ t, exec (.plnFollowLost a) s = .next t ∧ t.f (TILE_PLN_STAT_FOLLOW_LOST a) = 1 ∧ t.f (TILE_PLN_STAT_MODE a) = pmSTOPPING ∧
      (t.tiles.get a).active = none ∧ (t.tiles.get a).flw.blend = none ∧ s.raisedOne t a 0x20 cMAJOR ∧
      s.keeps t [TILE_PLN_STAT a, TILE_PLN_SEQ a] ∧
      t = { s with time := { s.time with hits := t.time.hits }, tiles := t.tiles, flt := t.flt, regs := t.regs }) ∧
  (∀ (s : State) (a : Fin 96), s.atTick = false ∨ (s.pmode a ≠ pmSYNC ∧ s.pmode a ≠ pmLOCKED) ∨ s.leadLost a = false →
    exec (.plnFollowLost a) s = .next s)

/-- The step generator. X moves by one grid step of the level that the speed gives when the fine position has passed it, up or down, and by one count towards its target in
a raw move that is due; else it stands. A raw request to an open tile is answered with its code: MODE, MOVING, RANGE in this order; an accepted one starts a move at level 0. A move that has
reached its target ends with RAW_DONE and leaves its distance to the planner. At a loop tick after HOLD_MS without motion HOLDING is set; after 100 ms of it the mean resistance of the coils is stored; eight stall
ticks set STALL_RISK and raise STP_STALL_RISK; the bit clears only with its condition gone and not in the cycle that sets it. Where its conditions do not hold a command changes nothing.
The model's choices that clauses of it rest on are log 2, 232, 233. -/
def Obligations.StepGeneratorRuns : Prop :=
  (∀ (s : State) (a : Fin 96) (m : Nat), s.stpOut a = 0 → exec (.appliedPositionStep a m) s = .next (s.runTo m)) ∧
  (∀ (s u : State) (a : Fin 96) (m : Nat) (g d : Int), u = s.runTo m → u.stpOut a ≠ 0 → (u.tiles.get a).rawTo = some g →
    d = State.countDiff g (u.stpX a) →
    (d = 0 ∨ ((u.time.mono - (u.tiles.get a).rawAt) * u.cycleInc * u.f (TILE_STP_RAWCFG_LOW a) * 256 : Nat) <
      (|State.countDiff (u.stpX a) (u.tiles.get a).rawFrom| + 1) * Config.secUnits → exec (.appliedPositionStep a m) s = .next u) ∧
    (d ≠ 0 → (|State.countDiff (u.stpX a) (u.tiles.get a).rawFrom| + 1) * Config.secUnits ≤
        ((u.time.mono - (u.tiles.get a).rawAt) * u.cycleInc * u.f (TILE_STP_RAWCFG_LOW a) * 256 : Nat) →
      exec (.appliedPositionStep a m) s = .next (u.stepX a d.sign u.time.mono))) ∧
  (∀ (s u v : State) (a : Fin 96) (m : Nat) (way : Int), u = s.runTo m → u.stpOut a ≠ 0 → (u.tiles.get a).rawTo = none →
    v = u.settleLevel a (u.time.mono / 2 - 1) → way = v.fineAhead a u.time.mono →
    (2 ^ v.level a * 4294967296 ≤ way → exec (.appliedPositionStep a m) s = .next (v.stepX a (2 ^ v.level a) u.time.mono)) ∧
    (way ≤ -(2 ^ v.level a * 4294967296) → exec (.appliedPositionStep a m) s = .next (v.stepX a (-(2 ^ v.level a)) u.time.mono)) ∧
    (|way| < 2 ^ v.level a * 4294967296 → exec (.appliedPositionStep a m) s = .next (v.settleLevel a (u.time.mono / 2)))) ∧
  (∀ (v : State) (a : Fin 96) (d : Int) (t : Nat), ∃ w, v.stepX a d t = w ∧ w.rd (TILE_STP_POS a) = BitVec.ofInt 32 (v.stpX a + d) ∧
    (w.tiles.get a).up = decide (0 < d) ∧ v.keeps w [TILE_STP_POS a, TILE_STP_STAT a] ∧ w = { v with tiles := w.tiles, pps := w.pps, regs := w.regs }) ∧
  (∀ (v : State) (a : Fin 96) (l : Nat), ∃ w, v.settleLevel a l = w ∧ v.keeps w [TILE_STP_STAT a] ∧
    (v.stpOut a ≠ 1 → w = v) ∧ w = { v with tiles := w.tiles, regs := w.regs }) ∧
  (∀ (s : State) (a : Fin 96) (v : Word), s.tileOpen a = false → exec (.rawMove a v) s = .next s) ∧
  (∀ (s : State) (a : Fin 96) (v : Word) (code : Nat), s.tileOpen a = true →
    code = (if s.stpOut a = 0 ∨ (s.mode ≠ mRUN ∧ s.mode ≠ mCOMMISSION) ∨ s.axisOff a = true ∨ (s.tiles.get a).rawTo.isSome = true then 1
      else if s.atRest a = false ∨ (s.tiles.get a).stillTicks = 0 ∨ s.stpX a ≠ (s.tiles.get a).tickX ∨
        (s.atTick = true ∧ ∃ g ∈ s.segsDue a, g.kind ≠ kLIMITS) then 2
      else if (s.f (TILE_STP_RAWCFG_HIGH a) : Int) * 256 < |State.countDiff v.toInt (s.stpX a)| then 3 else 0) →
    (code ≠ 0 → ∃ t, exec (.rawMove a v) s = .next t ∧ t.f (TILE_STP_RES_CODE a) = code ∧ s.keeps t [TILE_STP_RES a] ∧ t = { s with regs := t.regs }) ∧
    (code = 0 → ∃ t, exec (.rawMove a v) s = .next t ∧ t.f (TILE_STP_RES_CODE a) = 0 ∧ (t.tiles.get a).rawTo = some v.toInt ∧
      (t.tiles.get a).rawFrom = s.stpX a ∧ (t.tiles.get a).rawAt = s.time.mono ∧ t.f (TILE_STP_STAT_RAW a) = 1 ∧ t.f (TILE_STP_STAT_LEVEL a) = 0 ∧
      t.f (TILE_STP_STAT_AT_REST a) = 0 ∧ (∀ b, b ≠ a → t.tiles.get b = s.tiles.get b) ∧
      s.keeps t [TILE_STP_RES a, TILE_STP_STAT a] ∧ t = { s with tiles := t.tiles, regs := t.regs })) ∧
  (∀ (s : State) (a : Fin 96), (s.tiles.get a).rawTo = some (s.stpX a) →
    ∃ t, exec (.rawDone a) s = .next t ∧ (t.tiles.get a).rawTo = none ∧ t.f (TILE_STP_STAT_RAW a) = 0 ∧ t.f (TILE_STP_STAT_RAW_DONE a) = 1 ∧
      (t.tiles.get a).rawShift = (s.tiles.get a).rawShift + State.countDiff (s.stpX a) (s.tiles.get a).rawFrom ∧
      (∀ b, b ≠ a → t.tiles.get b = s.tiles.get b) ∧ s.keeps t [TILE_STP_STAT a] ∧
      t = { s with time := { s.time with hits := t.time.hits }, tiles := t.tiles, regs := t.regs }) ∧
  (∀ (s : State) (a : Fin 96), (s.tiles.get a).rawTo ≠ some (s.stpX a) → exec (.rawDone a) s = .next s) ∧
  (∀ (s : State) (a : Fin 96), s.atTick = true → s.stpOut a = 1 → s.flag (TILE_STP_CFG_SRC a) = false →
    16 * s.f (TILE_STP_HOLD_LOW a) ≤ (s.tiles.get a).stillTicks → s.flag (TILE_STP_STAT_HOLDING a) = false →
    ∃ t, exec (.holdCurrent a) s = .next t ∧ t.f (TILE_STP_STAT_HOLDING a) = 1 ∧ t.amp a = max (s.ihold a) (s.amp a - s.f (TILE_STP_ACFG_HIGH a)) ∧
      s.keeps t [TILE_STP_STAT a, TILE_STP_CUR a] ∧ t = { s with regs := t.regs }) ∧
  (∀ (s : State) (a : Fin 96), s.atTick = false ∨ s.stpOut a ≠ 1 ∨ s.flag (TILE_STP_CFG_SRC a) = true ∨
    (s.tiles.get a).stillTicks < 16 * s.f (TILE_STP_HOLD_LOW a) ∨ s.flag (TILE_STP_STAT_HOLDING a) = true → exec (.holdCurrent a) s = .next s) ∧
  (∀ (s : State) (a : Fin 96) (p : Fin 32) (c d : Coil) (mean : Int), s.atTick = true → s.portOf a = some p → 1600 ≤ (s.tiles.get a).holdTicks →
    s.ihold a ≤ 2 * s.amp a → c = s.coil p false → d = s.coil p true → c.rN ≠ 0 ∨ d.rN ≠ 0 →
    (c.rN = 0 → mean = roundHalfEven d.rSum d.rN) → (d.rN = 0 → mean = roundHalfEven c.rSum c.rN) →
    (c.rN ≠ 0 → d.rN ≠ 0 → mean = roundHalfEven (c.rSum * d.rN + d.rSum * c.rN) (2 * c.rN * d.rN)) →
    ∃ t, exec (.resistanceLearn a) s = .next t ∧ t.f (TILE_STP_CUR_RLRN a) = (max 0 (min mean 65535)).toNat ∧
      (t.coil p false).rN = 0 ∧ (t.coil p true).rN = 0 ∧ (t.tiles.get a).holdTicks = 0 ∧ s.keeps t [TILE_STP_CUR a] ∧
      t = { s with tiles := t.tiles, pps := t.pps, regs := t.regs }) ∧
  (∀ (s : State) (a : Fin 96), s.atTick = false ∨ (s.tiles.get a).holdTicks < 1600 ∨ 2 * s.amp a < s.ihold a ∨
    (∀ p, s.portOf a = some p → (s.coil p false).rN = 0 ∧ (s.coil p true).rN = 0) → exec (.resistanceLearn a) s = .next s) ∧
  (∀ (s : State) (a : Fin 96), s.atTick = true → 8 ≤ (s.tiles.get a).stallTicks → s.flag (TILE_STP_STAT_STALL_RISK a) = false →
    ∃ t, exec (.stpStallRisk a) s = .next t ∧ t.f (TILE_STP_STAT_STALL_RISK a) = 1 ∧ s.raisedOne t a 0x2D cMINOR ∧ s.keeps t [TILE_STP_STAT a] ∧
      t = { s with time := { s.time with hits := t.time.hits }, flt := t.flt, regs := t.regs }) ∧
  (∀ (s : State) (a : Fin 96), s.atTick = false ∨ (s.tiles.get a).stallTicks < 8 ∨ s.flag (TILE_STP_STAT_STALL_RISK a) = true →
    exec (.stpStallRisk a) s = .next s) ∧
  (∀ (s : State) (a : Fin 96) (v : Word), s.tileOpen a = false → exec (.stallRiskClear a v) s = .next s) ∧
  (∀ (s : State) (a : Fin 96) (v : Word), s.tileOpen a = true →
    ∃ t, exec (.stallRiskClear a v) s = .next t ∧
      (v.getLsbD 9 = true → s.hitNow (TILE_STP_STAT_STALL_RISK a) = false → (s.tiles.get a).stallTicks < 8 → t.f (TILE_STP_STAT_STALL_RISK a) = 0) ∧
      (v.getLsbD 9 = false ∨ s.hitNow (TILE_STP_STAT_STALL_RISK a) = true ∨ 8 ≤ (s.tiles.get a).stallTicks →
        t.f (TILE_STP_STAT_STALL_RISK a) = s.f (TILE_STP_STAT_STALL_RISK a) ∧ t.flt = s.flt) ∧
      (v.getLsbD 6 = true → s.hitNow (TILE_STP_STAT_RAW_DONE a) = false → t.f (TILE_STP_STAT_RAW_DONE a) = 0) ∧
      (v.getLsbD 6 = false ∨ s.hitNow (TILE_STP_STAT_RAW_DONE a) = true → t.f (TILE_STP_STAT_RAW_DONE a) = s.f (TILE_STP_STAT_RAW_DONE a)) ∧
      s.keeps t [TILE_STP_STAT a] ∧ t = { s with flt := t.flt, regs := t.regs })

/-- The power ports. A calibration asked for while the gate lines are inactive starts and clears CAL_DONE; at its end the three
offsets are stored. A bridge fault that has stood for t_BFF, overcurrent, bus overvoltage or lost data line sets its bit, makes the gate lines
inactive and is raised by the port; a bus undervoltage sets its bit and leaves the gate lines to R215; one that stands or whose condition does not hold changes nothing more. Each bit clears only with its cause gone and not in the cycle that
sets it. A fast filter value stands as the last one seen, less its offset once calibrated, is checked for overcurrent, and in a STEPPER port moves the chopper of its coil: off when the current reaches the upper threshold after blanking, on when it is at
the lower one after TOFF.
The model's choices that clauses of it rest on are log 86, 87, 234, 235. -/
def Obligations.PowerPortRuns : Prop :=
  let near := fun (s : State) (p : Fin 32) => [PP_STAT p, TILE_STP_STAT (s.f (PP_CFG_TILE p)), TILE_STP_CUR (s.f (PP_CFG_TILE p)), TILE_FB_STAT (s.f (PP_CFG_TILE p))]
  let off := fun (u : State) (o : Host.Outcome State Fault Refusal) (p : Fin 32) (bit : Fld) (kind cls : Nat) =>
    ∃ t, o = .next t ∧ t.f bit = 1 ∧ t.f (PP_STAT_GATES p) = 0 ∧ u.raisedOne t (0xA0 + p) kind cls ∧ u.keeps t (near u p) ∧
      (∀ q, q ≠ p → t.pps.get q = u.pps.get q) ∧
      t = { u with time := { u.time with hits := t.time.hits }, tiles := t.tiles, pps := t.pps, flt := t.flt, regs := t.regs }
  (∀ (s : State) (p : Fin 32), s.mapOpen = false ∨ s.flag (PP_STAT_GATES p) = true ∨ s.ppMode p = 0 → exec (.ppCal p) s = .next s) ∧
  (∀ (s : State) (p : Fin 32), s.mapOpen = true → s.flag (PP_STAT_GATES p) = false → s.ppMode p ≠ 0 →
    ∃ t, exec (.ppCal p) s = .next t ∧ t.f (PP_STAT_CAL_DONE p) = 0 ∧ (t.pps.get p).calEnd = some (s.time.mono + s.msCycles 1) ∧
      s.keeps t [PP_STAT p] ∧ (∀ q, q ≠ p → t.pps.get q = s.pps.get q) ∧ t = { s with pps := t.pps, regs := t.regs }) ∧
  (∀ (s u : State) (p : Fin 32) (c0 c1 c2 : Int) (m e : Nat), u = s.runTo m → (s.pps.get p).calEnd = some e → e ≤ u.time.mono →
    ∃ t, exec (.calDone p c0 c1 c2 m) s = .next t ∧ t.f (PP_CAL01_LOW p) = wrapNat 16 c0 ∧ t.f (PP_CAL01_HIGH p) = wrapNat 16 c1 ∧
      t.f (PP_CAL2_LOW p) = wrapNat 16 c2 ∧ t.f (PP_STAT_CAL_DONE p) = 1 ∧ (t.pps.get p).calEnd = none ∧
      u.keeps t ([PP_CAL01 p, PP_CAL2 p] ++ near u p) ∧ (∀ q, q ≠ p → t.pps.get q = u.pps.get q) ∧
      t = { u with tiles := t.tiles, pps := t.pps, regs := t.regs }) ∧
  (∀ (s : State) (p : Fin 32) (c0 c1 c2 : Int) (m : Nat), (∀ e, (s.pps.get p).calEnd = some e → (s.runTo m).time.mono < e) →
    exec (.calDone p c0 c1 c2 m) s = .next (s.runTo m)) ∧
  (∀ (s u : State) (p : Fin 32) (low : Bool) (n m : Nat), u = s.runTo m → n < 32 ∨ u.ppMode p = 0 → exec (.ppBridgeFault p low n m) s = .next u) ∧
  (∀ (s u : State) (p : Fin 32) (low : Bool) (n m : Nat), u = s.runTo m → 32 ≤ n → u.ppMode p ≠ 0 → low = false ∨ u.flag (PP_STAT_BFLT p) = true →
    ∃ t, exec (.ppBridgeFault p low n m) s = .next t ∧ t.f (PP_STAT_FLT_IN p) = b2n low ∧ t.f (PP_STAT_BFLT p) = u.f (PP_STAT_BFLT p) ∧
      u.keeps t [PP_STAT p] ∧ t = { u with regs := t.regs }) ∧
  (∀ (s u : State) (p : Fin 32) (n m : Nat), u = s.runTo m → 32 ≤ n → u.ppMode p ≠ 0 → u.flag (PP_STAT_BFLT p) = false →
    off u (exec (.ppBridgeFault p true n m) s) p (PP_STAT_BFLT p) 0x28 cMAJOR) ∧
  (∀ (s : State) (p : Fin 32) (ch : Fin 3) (v w : Int), w = s.fastValue p ch v → ch.val < 2 ∨ (s.ppMode p = 2 ∧ s.flag (PP_CFG_SD2_W p) = true) →
    (s.f (PP_LIM_OC_LIM p) : Int) < |w| → s.flag (PP_STAT_OC p) = false → s.ppMode p ≠ 0 →
    off s (exec (.ppOvercurrent p ch v) s) p (PP_STAT_OC p) 0x29 cMAJOR) ∧
  (∀ (s : State) (p : Fin 32) (ch : Fin 3) (v w : Int), w = s.fastValue p ch v → (2 ≤ ch.val ∧ (s.ppMode p ≠ 2 ∨ s.flag (PP_CFG_SD2_W p) = false)) ∨
      |w| ≤ (s.f (PP_LIM_OC_LIM p) : Int) ∨ s.flag (PP_STAT_OC p) = true ∨ s.ppMode p = 0 →
    ∃ t, exec (.ppOvercurrent p ch v) s = .next t ∧ (t.pps.get p).fast = (s.pps.get p).fast.set ch w ∧
      (∀ q, q ≠ p → t.pps.get q = s.pps.get q) ∧ t = { s with pps := t.pps }) ∧
  (∀ (s : State) (p : Fin 32) (ch : Fin 3) (v : Int), (s.flag (PP_STAT_CAL_DONE p) = false → s.fastValue p ch v = v) ∧
    (s.flag (PP_STAT_CAL_DONE p) = true → s.fastValue p ch v =
      v - signed 16 (s.f (if ch = 0 then PP_CAL01_LOW p else if ch = 1 then PP_CAL01_HIGH p else PP_CAL2_LOW p)))) ∧
  (∀ (s : State) (p : Fin 32), s.busHigh p = true → s.flag (PP_STAT_BUS_OV p) = false → s.ppMode p ≠ 0 →
    off s (exec (.ppBusOv p) s) p (PP_STAT_BUS_OV p) 0x2B cMAJOR) ∧
  (∀ (s : State) (p : Fin 32), s.busHigh p = false ∨ s.flag (PP_STAT_BUS_OV p) = true ∨ s.ppMode p = 0 → exec (.ppBusOv p) s = .next s) ∧
  (∀ (s : State) (p : Fin 32) (ch : Fin 3) (n : Nat), 64 ≤ n → s.ppMode p ≠ 0 → s.flag (PP_STAT_SD_LOST p) = false →
    off s (exec (.ppSdLost p ch n) s) p (PP_STAT_SD_LOST p) 0x2C cMAJOR) ∧
  (∀ (s : State) (p : Fin 32) (ch : Fin 3) (n : Nat), n < 64 ∨ s.ppMode p = 0 ∨ s.flag (PP_STAT_SD_LOST p) = true → exec (.ppSdLost p ch n) s = .next s) ∧
  (∀ (s : State) (p : Fin 32), s.busLow p = true → s.flag (PP_STAT_BUS_UV p) = false → s.ppMode p ≠ 0 →
    ∃ t, exec (.ppBusUv p) s = .next t ∧ t.f (PP_STAT_BUS_UV p) = 1 ∧ t.flag (PP_STAT_GATES p) = s.gatesOk p ∧
      s.raisedOne t (0xA0 + p) 0x2A cMINOR ∧ s.keeps t (near s p) ∧ (∀ q, q ≠ p → t.pps.get q = s.pps.get q) ∧
      t = { s with time := { s.time with hits := t.time.hits }, tiles := t.tiles, pps := t.pps, flt := t.flt, regs := t.regs }) ∧
  (∀ (s : State) (p : Fin 32), s.busLow p = false ∨ s.flag (PP_STAT_BUS_UV p) = true ∨ s.ppMode p = 0 → exec (.ppBusUv p) s = .next s) ∧
  (∀ (s : State) (p : Fin 32) (v : Word) (low alive : Bool), s.mapOpen = false ∨ s.ppMode p = 0 → exec (.ppFaultClear p v low alive) s = .next s) ∧
  (∀ (s : State) (p : Fin 32) (v : Word) (low alive : Bool), s.mapOpen = true → s.ppMode p ≠ 0 →
    ∃ t, exec (.ppFaultClear p v low alive) s = .next t ∧
      t.f (PP_STAT_BFLT p) = (if v.getLsbD 2 ∧ low = false ∧ s.hitNow (PP_STAT_BFLT p) = false then 0 else s.f (PP_STAT_BFLT p)) ∧
      t.f (PP_STAT_OC p) = (if v.getLsbD 3 ∧ (∀ x ∈ (s.pps.get p).fast, |x| ≤ (s.f (PP_LIM_OC_LIM p) : Int)) ∧ s.hitNow (PP_STAT_OC p) = false
        then 0 else s.f (PP_STAT_OC p)) ∧
      t.f (PP_STAT_BUS_UV p) = (if v.getLsbD 4 ∧ s.busLow p = false ∧ s.hitNow (PP_STAT_BUS_UV p) = false then 0 else s.f (PP_STAT_BUS_UV p)) ∧
      t.f (PP_STAT_BUS_OV p) = (if v.getLsbD 5 ∧ s.busHigh p = false ∧ s.hitNow (PP_STAT_BUS_OV p) = false then 0 else s.f (PP_STAT_BUS_OV p)) ∧
      t.f (PP_STAT_SD_LOST p) = (if v.getLsbD 6 ∧ alive = true ∧ s.hitNow (PP_STAT_SD_LOST p) = false then 0 else s.f (PP_STAT_SD_LOST p)) ∧
      t.f (PP_STAT_FLT_IN p) = s.f (PP_STAT_FLT_IN p) ∧ s.keeps t (near s p) ∧ (∀ q, q ≠ p → t.pps.get q = s.pps.get q) ∧
      t = { s with tiles := t.tiles, pps := t.pps, flt := t.flt, regs := t.regs }) ∧
  (∀ (s u : State) (p : Fin 32) (ch : Fin 3) (v : Int) (m : Nat), u = s.runTo m → u.ppMode p ≠ 1 ∨ 2 ≤ ch.val →
    exec (.fastFilterSample p ch v m) s = exec (.ppOvercurrent p ch v) u) ∧
  (∀ (s u w : State) (p : Fin 32) (ch : Fin 3) (v : Int) (m : Nat), u = s.runTo m → u.ppMode p = 1 → ch.val < 2 → exec (.ppOvercurrent p ch v) u = .next w →
    exec (.fastFilterSample p ch v m) s = .next (w.chop p (ch == 1) (u.fastValue p ch v) u.time.mono)) ∧
  (∀ (v : State) (p : Fin 32) (b : Bool) (i cur lo hi : Int) (t : Nat) (c : Coil), c = v.coil p b → cur = c.star.sign * i →
    hi = 2 * (|c.star| + v.coilOfs p b) + v.band p → lo = 2 * (|c.star| + v.coilOfs p b) - v.band p →
    (v.flag (PP_STAT_GATES p) = false ∨ c.star = 0 → v.chop p b i t = v) ∧
    (v.flag (PP_STAT_GATES p) = true → c.star ≠ 0 → c.on = true → 2 * cur < hi ∨ t < c.since + v.tblank p → v.chop p b i t = v) ∧
    (v.flag (PP_STAT_GATES p) = true → c.star ≠ 0 → c.on = true → hi ≤ 2 * cur → c.since + v.tblank p ≤ t →
      ∃ w, v.chop p b i t = w ∧ (w.coil p b).on = false ∧ (w.coil p b).forced = false ∧ (w.coil p b).since = t ∧ (w.coil p b).hit = true ∧
        w.coil p (!b) = v.coil p (!b) ∧ w = { v with pps := w.pps }) ∧
    (v.flag (PP_STAT_GATES p) = true → c.star ≠ 0 → c.on = false → t < c.since + v.toff p ∨ (c.forced = true ∧ hi < 2 * cur) ∨
      (c.forced = false ∧ lo < 2 * cur) → v.chop p b i t = v) ∧
    (v.flag (PP_STAT_GATES p) = true → c.star ≠ 0 → c.on = false → c.since + v.toff p ≤ t → 2 * cur ≤ lo →
      ∃ w, v.chop p b i t = w ∧ (w.coil p b).on = true ∧ (w.coil p b).since = t ∧ w.coil p (!b) = v.coil p (!b) ∧ w = { v with pps := w.pps }))

/-- Engine arithmetic, in a section in progress, with operands in range and no double-bit error of data memory (a corrected single-bit error is counted and changes nothing else). The accumulator takes the
exact value of its operation, held to the Q9.30 range; a value that was held sets ACC_SAT and counts. The other lane, the
integer registers, the data memory and the other clusters are unchanged, and the address registers step as the operands say.
The model's choices that clauses of it rest on are log 88, 89. -/
def Obligations.EngineArithmetic : Prop :=
  let lane := fun (s : State) (c : Fin 12) (i : Instr) (l : Fin 2) (v : Int) (u : State) =>
    s.inSection c = true → ∃ t, exec i s = .next t ∧ t.acc c l = max accMin (min v accMax) ∧ (∀ k, k ≠ l → t.acc c k = s.acc c k) ∧
      (t.cl c).d = (s.cl c).d ∧ (∀ y, t.dmem c y = s.dmem c y) ∧ (t.cl c).ap = (u.cl c).ap ∧
      (accMin ≤ v → v ≤ accMax → s.keeps t [CL_ENG_PC c] ∧ t.flt = s.flt ∧ t.time = s.time) ∧
      (v < accMin ∨ accMax < v → t.f (CL_ENG_STAT_ACC_SAT c) = 1 ∧ t.rdN (CL_ENG_CNT_SAT c) = min (s.rdN (CL_ENG_CNT_SAT c) + 1) 4294967295 ∧
        s.keeps t [CL_ENG_PC c, CL_ENG_STAT c, CL_ENG_CNT_SAT c]) ∧
      (∀ k, k ≠ c → t.cl k = s.cl k) ∧ t = { s with time := { s.time with hits := t.time.hits }, clusters := t.clusters, flt := t.flt, regs := t.regs }
  (∀ (s : State) (c : Fin 12) (a b : EAddr) (x y : Nat), s.eaddr c a = some x → s.eaddr c b = some y → s.inSection c = true →
    ∃ t, exec (.engMac2 c 0 a b) s = .next t ∧
      t.acc c 0 = max accMin (min (s.acc c 0 + (s.dmem c x).half false * (s.dmem c y).half false) accMax) ∧
      t.acc c 1 = max accMin (min (s.acc c 1 + (s.dmem c x).half true * (s.dmem c y).half true) accMax) ∧
      (t.cl c).d = (s.cl c).d ∧ (∀ z, t.dmem c z = s.dmem c z) ∧ (t.cl c).ap = (((s.estep c a).estep c b).cl c).ap ∧ s.keeps t [CL_ENG_PC c, CL_ENG_STAT c, CL_ENG_CNT_SAT c] ∧
      (∀ k, k ≠ c → t.cl k = s.cl k) ∧ t = { s with time := { s.time with hits := t.time.hits }, clusters := t.clusters, flt := t.flt, regs := t.regs }) ∧
  (∀ (s : State) (c : Fin 12) (l : Fin 2) (p q : EHalf) (x y : Nat), s.eaddr c p.addr = some x → s.eaddr c q.addr = some y →
    let v := (s.dmem c x).half p.hi * (s.dmem c y).half q.hi
    let u := (s.estep c p.addr).estep c q.addr
    lane s c (.engMpy c 0 l p q) l v u ∧ lane s c (.engMac c 0 l p q) l (s.acc c l + v) u ∧ lane s c (.engMsu c 0 l p q) l (s.acc c l - v) u) ∧
  (∀ (s : State) (c : Fin 12) (l : Fin 2) (n : Fin 8) (q : EHalf) (sh x : Nat), s.eaddr c q.addr = some x →
    lane s c (.engMpyi c 0 l n q sh) l (scale2 ((s.dreg c n).toInt * (s.dmem c x).half q.hi) (15 - sh)) (s.estep c q.addr)) ∧
  (∀ (s : State) (c : Fin 12) (l : Fin 2) (a : EAddr) (w : Bool) (f sh x : Nat), s.eaddr c a = some x → (w = true → x + 1 < 8192) →
    let r : Int := if w then signed 64 ((s.dmem c x).toNat + 4294967296 * (s.dmem c ((x + 1) % 8192)).toNat) else (s.dmem c x).toInt
    let v := scale2 r (30 - (f : Int) - sh)
    lane s c (.engLdx c 0 l a w f sh) l v (s.estep c a) ∧ lane s c (.engLdxAdd c 0 l a w f sh) l (s.acc c l + v) (s.estep c a) ∧
      lane s c (.engLdxSub c 0 l a w f sh) l (s.acc c l - v) (s.estep c a)) ∧
  (∀ (s : State) (c : Fin 12) (l : Fin 2) (a : EHalf) (long : Bool) (x : Nat), s.eaddr c a.addr = some x →
    let v : Int := if long then (s.dmem c x).toInt else (s.dmem c x).half a.hi * 32768
    lane s c (.engAdda c 0 l a long) l (s.acc c l + v) (s.estep c a.addr) ∧ lane s c (.engSuba c 0 l a long) l (s.acc c l - v) (s.estep c a.addr) ∧
      lane s c (.engClmp c 0 l a long) l (max (-|v|) (min (s.acc c l) |v|)) (s.estep c a.addr)) ∧
  (∀ (s : State) (c : Fin 12) (l : Fin 2), lane s c (.engNeg c l) l (-(s.acc c l)) s ∧ lane s c (.engAbs c l) l |s.acc c l| s)

/-- Stores. STQ stores the accumulator shifted by SH, rounded half to even to Q15 and saturated, into the half that it names; STL
the accumulator saturated to 32 bits; ST an integer register. A saturated store sets SAT and counts. A read of the stored
address, even while it waits in the write buffer, gives the stored word; every other word reads as before. LD, DIFF and the
integer operations write their register alone. A shift by 32 or more, or SHR of a negative word, completes with a value that
the spec leaves open (a free value of the model).
The model's choices that clauses of it rest on are log 25, 88, 90, 240. -/
def Obligations.EngineStores : Prop :=
  let puts := fun (s : State) (c : Fin 12) (i : Instr) (x : Nat) (w : Word) (sat : Bool) (u : State) =>
    s.inSection c = true → ∃ t, exec i s = .next t ∧ t.dmem c x = w ∧ (∀ y, y ≠ x → t.dmem c y = s.dmem c y) ∧
      (t.cl c).a0 = (s.cl c).a0 ∧ (t.cl c).a1 = (s.cl c).a1 ∧ (t.cl c).d = (s.cl c).d ∧ (t.cl c).ap = (u.cl c).ap ∧
      (sat = true → t.f (CL_ENG_STAT_SAT c) = 1 ∧ t.rdN (CL_ENG_CNT_SAT c) = min (s.rdN (CL_ENG_CNT_SAT c) + 1) 4294967295) ∧
      s.keeps t (if sat then [CL_ENG_PC c, CL_ENG_STAT c, CL_ENG_CNT_SAT c] else [CL_ENG_PC c]) ∧
      (∀ k, k ≠ c → t.cl k = s.cl k) ∧ (sat = false → t.time = s.time) ∧
      t = { s with time := { s.time with hits := t.time.hits }, clusters := t.clusters, regs := t.regs }
  let regs := fun (s : State) (c : Fin 12) (i : Instr) (n : Fin 8) (w : Word) (u : State) =>
    s.inSection c = true → ∃ t, exec i s = .next t ∧ t.dreg c n = w ∧ (∀ k, k ≠ n → t.dreg c k = s.dreg c k) ∧
      (t.cl c).a0 = (s.cl c).a0 ∧ (t.cl c).a1 = (s.cl c).a1 ∧ (∀ y, t.dmem c y = s.dmem c y) ∧ (t.cl c).ap = (u.cl c).ap ∧ s.keeps t [CL_ENG_PC c] ∧
      (∀ k, k ≠ c → t.cl k = s.cl k) ∧ t = { s with clusters := t.clusters, regs := t.regs, free := t.free }
  (∀ (s : State) (c : Fin 12) (l : Fin 2) (a : EHalf) (sh : Int) (x : Nat), s.eaddr c a.addr = some x →
    let v := if 0 ≤ sh then s.acc c l * 2 ^ sh.toNat else s.acc c l / 2 ^ (-sh).toNat
    let r := roundHalfEven v 32768
    puts s c (.engStq c l a sh) x ((s.dmem c x).setHalf a.hi (satInt 16 r)) (satInt 16 r != r) (s.estep c a.addr)) ∧
  (∀ (s : State) (c : Fin 12) (l : Fin 2) (a : EAddr) (x : Nat), s.eaddr c a = some x →
    puts s c (.engStl c l a) x (BitVec.ofInt 32 (satInt 32 (s.acc c l))) (satInt 32 (s.acc c l) != s.acc c l) (s.estep c a)) ∧
  (∀ (s : State) (c : Fin 12) (n : Fin 8) (a : EAddr) (x : Nat), s.eaddr c a = some x → puts s c (.engSt c n a) x (s.dreg c n) false (s.estep c a)) ∧
  (∀ (s : State) (c : Fin 12) (n : Fin 8) (a : EAddr) (x : Nat), s.eaddr c a = some x → regs s c (.engLd c 0 n a) n (s.dmem c x) (s.estep c a)) ∧
  (∀ (s : State) (c : Fin 12) (n : Fin 8) (a b : EAddr) (x y : Nat), s.eaddr c a = some x → s.eaddr c b = some y →
    regs s c (.engDiff c 0 n a b) n (s.dmem c x - s.dmem c y) ((s.estep c a).estep c b)) ∧
  (∀ (s : State) (c : Fin 12) (n : Fin 8) (m : ESrc),
    regs s c (.engAdd c n m) n (s.dreg c n + s.esrc c m) s ∧ regs s c (.engSub c n m) n (s.dreg c n - s.esrc c m) s ∧
    regs s c (.engAnd c n m) n (s.dreg c n &&& s.esrc c m) s ∧ regs s c (.engOr c n m) n (s.dreg c n ||| s.esrc c m) s ∧
    ((s.esrc c m).toNat < 32 → regs s c (.engShl c n m) n (s.dreg c n <<< (s.esrc c m).toNat) s) ∧
    ((s.esrc c m).toNat < 32 → (s.dreg c n).msb = false → regs s c (.engShr c n m) n (s.dreg c n >>> (s.esrc c m).toNat) s) ∧
    (∃ w, regs s c (.engShl c n m) n w s) ∧ (∃ w, regs s c (.engShr c n m) n w s))

/-- VMAX, VMIN and VMAXA leave in the accumulator, as Q15, the largest element, the smallest, or the one of largest magnitude of
the n elements, and its index in d7; of equal ones the lowest index wins. SINCOS stores one word whose halves stand
near the sine and cosine of the angle; the error within its bound is the spec's to leave open.
The model's choices that clauses of it rest on are log 28, 90. -/
def Obligations.EngineSearch : Prop :=
  let finds := fun (s : State) (c : Fin 12) (l : Fin 2) (i : Instr) (a : EAddr) (es : List Int) (key : Int → Int) =>
    s.inSection c = true → es ≠ [] → ∃ (t : State) (k : Nat) (v : Int), exec i s = .next t ∧ es[k]? = some v ∧
      (∀ j w, es[j]? = some w → key w ≤ key v ∧ (j < k → key w < key v)) ∧ t.acc c l = v * 32768 ∧ t.dreg c 7 = BitVec.ofNat 32 k ∧
      (∀ j, j ≠ 7 → t.dreg c j = s.dreg c j) ∧ (∀ j, j ≠ l → t.acc c j = s.acc c j) ∧ (∀ y, t.dmem c y = s.dmem c y) ∧
      (t.cl c).ap = ((s.estep c a).cl c).ap ∧ s.keeps t [CL_ENG_PC c] ∧ (∀ j, j ≠ c → t.cl j = s.cl j) ∧ t = { s with clusters := t.clusters, regs := t.regs }
  (∀ (s : State) (c : Fin 12) (l : Fin 2) (a : EAddr) (n x : Nat), s.eaddr c a = some x → x + (n - 1) / 2 < 8192 →
    let es := (List.range n).map (fun i => (s.dmem c ((x + i / 2) % 8192)).half (i % 2 == 1))
    finds s c l (.engVmax c 0 l a n) a es (fun v => v) ∧ finds s c l (.engVmin c 0 l a n) a es (fun v => -v) ∧
      finds s c l (.engVmaxa c 0 l a n) a es (fun v => |v|)) ∧
  (∀ (s : State) (c : Fin 12) (a : EHalf) (b : EAddr) (x y : Nat), s.eaddr c a.addr = some x → s.eaddr c b = some y → s.inSection c = true →
    ∃ (t : State) (d e : Int), exec (.engSincos c 0 a b) s = .next t ∧ -1 ≤ d ∧ d ≤ 2 ∧ -1 ≤ e ∧ e ≤ 2 ∧
      (t.dmem c y).half false = satInt 16 (sinOf 65536 ((s.dmem c x).half a.hi) / 35184372088832 + d) ∧
      (t.dmem c y).half true = satInt 16 (sinOf 65536 ((s.dmem c x).half a.hi + 16384) / 35184372088832 + e) ∧
      (∀ z, z ≠ y → t.dmem c z = s.dmem c z) ∧ (t.cl c).ap = (((s.estep c a.addr).estep c b).cl c).ap ∧ s.keeps t [CL_ENG_PC c] ∧ (∀ j, j ≠ c → t.cl j = s.cl j) ∧
      t = { s with clusters := t.clusters, regs := t.regs, free := t.free })

/-- Control flow of the engine. Outside every loop an instruction other than BR leads to the next address; BR leads to its target
when its condition holds, else to the next. LOOP opens a loop around the next address, at most two deep; at the last address
the loop goes back to its first until its rounds are spent. TILE sets p7. An operand outside R254, in any instruction, ends the section, sets
ILLEGAL and raises ENG_ILLEGAL. A corrected single-bit error is counted and the instruction runs as without it. A double-bit error raises ENG_ECC, withholds the tile, and the first operand reads 0. Without a section in progress no
instruction does anything.
The model's choices that clauses of it rest on are log 88, 236. -/
def Obligations.EngineFlow : Prop :=
  (∀ (s : State) (c : Fin 12) (l : Fin 2), s.inSection c = true → (s.cl c).loops = [] →
    ∃ t, exec (.engNeg c l) s = .next t ∧ t.f (CL_ENG_PC_PC c) = (s.f (CL_ENG_PC_PC c) + 1) % 4096) ∧
  (∀ (s : State) (c : Fin 12) (l : Fin 2) (first n : Nat) (ls : List (Nat × Nat × Nat)), s.inSection c = true →
    (s.cl c).loops = (first, s.f (CL_ENG_PC_PC c), n) :: ls → 1 < n →
    ∃ t, exec (.engNeg c l) s = .next t ∧ t.f (CL_ENG_PC_PC c) = first % 4096 ∧ (t.cl c).loops = (first, s.f (CL_ENG_PC_PC c), n - 1) :: ls) ∧
  (∀ (s : State) (c : Fin 12) (l : Fin 2) (first : Nat) (ls : List (Nat × Nat × Nat)), s.inSection c = true →
    (s.cl c).loops = (first, s.f (CL_ENG_PC_PC c), 1) :: ls →
    ∃ t, exec (.engNeg c l) s = .next t ∧ t.f (CL_ENG_PC_PC c) = (s.f (CL_ENG_PC_PC c) + 1) % 4096 ∧ (t.cl c).loops = ls) ∧
  (∀ (s : State) (c : Fin 12) (k : ECond) (target : Nat), s.inSection c = true →
    ∃ t, exec (.engBr c k target) s = .next t ∧
      t.f (CL_ENG_PC_PC c) = (if s.econd c .normal k then target else s.f (CL_ENG_PC_PC c) + 1) % 4096 ∧
      (t.cl c).loops = (s.cl c).loops ∧ s.keeps t [CL_ENG_PC c] ∧ t = { s with clusters := t.clusters, regs := t.regs }) ∧
  (∀ (s : State) (c : Fin 12) (n last : Nat), s.inSection c = true →
    ∃ t, exec (.engLoop c n last) s = .next t ∧ t.f (CL_ENG_PC_PC c) = (s.f (CL_ENG_PC_PC c) + 1) % 4096 ∧
      (t.cl c).loops = ((s.f (CL_ENG_PC_PC c) + 1, last, n) :: (s.cl c).loops).take 2 ∧ s.keeps t [CL_ENG_PC c] ∧
      t = { s with clusters := t.clusters, regs := t.regs }) ∧
  (∀ (s : State) (c : Fin 12) (k : Fin 8), s.inSection c = true →
    ∃ t, exec (.engTile c k) s = .next t ∧ (t.cl c).ap.get 7 = 0x40 * k ∧ (∀ j, j ≠ 7 → (t.cl c).ap.get j = (s.cl c).ap.get j) ∧
      t.curTile c = k ∧ s.keeps t [CL_ENG_PC c] ∧ t = { s with clusters := t.clusters, regs := t.regs }) ∧
  (∀ (s : State) (c : Fin 12) (e : Nat) (l : Fin 2) (n : Fin 8) (a b : EAddr) (p q : EHalf) (w lg : Bool) (f sh k : Nat), s.inSection c = true →
    let bad := fun (i : Instr) => exec i s = .next (s.engIllegal c)
    (s.eaddr c a = none ∨ s.eaddr c b = none → bad (.engMac2 c 0 a b) ∧ bad (.engDiff c 0 n a b)) ∧
    (s.eaddr c p.addr = none ∨ s.eaddr c q.addr = none → bad (.engMpy c 0 l p q) ∧ bad (.engMac c 0 l p q) ∧ bad (.engMsu c 0 l p q)) ∧
    (s.eaddr c p.addr = none ∨ s.eaddr c b = none → bad (.engSincos c 0 p b)) ∧
    (s.eaddr c p.addr = none → bad (.engMpyi c 0 l n p sh) ∧ bad (.engAdda c 0 l p lg) ∧ bad (.engSuba c 0 l p lg) ∧ bad (.engClmp c 0 l p lg) ∧
      bad (.engStq c l p sh)) ∧
    (s.eaddr c a = none ∨ (w = true ∧ s.eaddr c a = some 8191) →
      bad (.engLdx c 0 l a w f sh) ∧ bad (.engLdxAdd c 0 l a w f sh) ∧ bad (.engLdxSub c 0 l a w f sh)) ∧
    (s.eaddr c a = none → bad (.engStl c l a) ∧ bad (.engSt c n a) ∧ bad (.engLd c 0 n a)) ∧
    (s.eaddr c a = none ∨ (∃ x, s.eaddr c a = some x ∧ 8192 ≤ x + (k - 1) / 2) →
      bad (.engVmax c 0 l a k) ∧ bad (.engVmin c 0 l a k) ∧ bad (.engVmaxa c 0 l a k))) ∧
  (∀ (s : State) (c : Fin 12), ∃ t, s.engIllegal c = t ∧ t.f (CL_ENG_STAT_ILLEGAL c) = 1 ∧ (t.cl c).frozenPc = s.f (CL_ENG_PC_PC c) ∧
    (s.flag (CL_ENG_STAT_IN_CUR c) = false → t.inSection c = false ∧ t.f (CL_ENG_PC_PC c) = s.f (CL_ENG_PC_PC c)) ∧
    (s.flag (CL_ENG_STAT_IN_CUR c) = true → t.f (CL_ENG_STAT_IN_CUR c) = 0 ∧ t.f (CL_ENG_STAT_IN_TICK c) = s.f (CL_ENG_STAT_IN_TICK c)) ∧
    (∀ y, t.dmem c y = s.dmem c y) ∧ (∀ k, k ≠ c → t.cl k = s.cl k) ∧
    s.raisedOne t (0x60 + c) 0x31 cCRITICAL ∧ s.keeps t [CL_ENG_STAT c, CL_ENG_PC c] ∧
    t = { s with time := { s.time with hits := t.time.hits }, clusters := t.clusters, flt := t.flt, regs := t.regs }) ∧
  (∀ (s : State) (c : Fin 12) (l : Fin 2) (n : Fin 8) (a b : EAddr) (p q : EHalf) (w lg : Bool) (f sh k : Nat), s.inSection c = true →
    let same := fun (i : Nat → Instr) => exec (i 1) s = exec (i 0) (s.bump (CL_ENG_CNT_ECC c))
    same (.engMac2 c · a b) ∧ same (.engDiff c · n a b) ∧ same (.engMpy c · l p q) ∧ same (.engMac c · l p q) ∧ same (.engMsu c · l p q) ∧
    same (.engSincos c · p b) ∧ same (.engMpyi c · l n p sh) ∧ same (.engAdda c · l p lg) ∧ same (.engSuba c · l p lg) ∧ same (.engClmp c · l p lg) ∧
    same (.engLdx c · l a w f sh) ∧ same (.engLdxAdd c · l a w f sh) ∧ same (.engLdxSub c · l a w f sh) ∧ same (.engLd c · n a) ∧
    same (.engVmax c · l a k) ∧ same (.engVmin c · l a k) ∧ same (.engVmaxa c · l a k)) ∧
  (∀ (s : State) (c : Fin 12) (l : Fin 2) (n : Fin 8) (a b : EAddr) (p q : EHalf) (w lg : Bool) (f sh k x y xp yq : Nat), s.inSection c = true →
    s.eaddr c a = some x → s.eaddr c b = some y → s.eaddr c p.addr = some xp → s.eaddr c q.addr = some yq →
    let hurt := fun (i : Instr) => ∃ t, exec i s = .next t ∧ t.f (CL_ENG_STAT_ECC2 c) = 1 ∧ s.curTile c ∈ (t.cl c).withheld ∧
      (∃ m ms, t.flt.path = s.flt.path ++ m :: ms ∧ m.source = 0x60 + c.val ∧ m.kind = 0x32 ∧ m.cls = cCRITICAL) ∧
      s.keeps t [CL_ENG_STAT c, CL_ENG_PC c, CL_ENG_CNT_SAT c] ∧ (∀ k, k ≠ c → t.cl k = s.cl k) ∧
      t = { s with time := { s.time with hits := t.time.hits }, clusters := t.clusters, flt := t.flt, regs := t.regs, free := t.free }
    hurt (.engMac2 c 2 a b) ∧ hurt (.engDiff c 2 n a b) ∧ hurt (.engMpy c 2 l p q) ∧ hurt (.engMac c 2 l p q) ∧ hurt (.engMsu c 2 l p q) ∧
    hurt (.engSincos c 2 p b) ∧ hurt (.engMpyi c 2 l n p sh) ∧ hurt (.engAdda c 2 l p lg) ∧ hurt (.engSuba c 2 l p lg) ∧ hurt (.engClmp c 2 l p lg) ∧
    ((w = true → x + 1 < 8192) → hurt (.engLdx c 2 l a w f sh) ∧ hurt (.engLdxAdd c 2 l a w f sh) ∧ hurt (.engLdxSub c 2 l a w f sh)) ∧
    hurt (.engLd c 2 n a) ∧ (x + (k - 1) / 2 < 8192 → hurt (.engVmax c 2 l a k) ∧ hurt (.engVmin c 2 l a k) ∧ hurt (.engVmaxa c 2 l a k))) ∧
  (∀ (s : State) (c : Fin 12) (n : Fin 8) (a : EAddr) (x : Nat), s.inSection c = true → s.eaddr c a = some x →
    ∃ t, exec (.engLd c 2 n a) s = .next t ∧ t.dreg c n = 0 ∧ s.raisedOne t (0x60 + c) 0x32 cCRITICAL) ∧
  (∀ (s : State) (c : Fin 12) (e : Nat) (l : Fin 2) (n : Fin 8) (m : ESrc) (d : ECond) (j : Fin 8) (a b : EAddr) (p q : EHalf) (w lg : Bool) (f sh k : Nat) (z : Int),
    s.inSection c = false →
    let idle := fun (i : Instr) => exec i s = .next s
    idle (.engMac2 c e a b) ∧ idle (.engDiff c e n a b) ∧ idle (.engMpy c e l p q) ∧ idle (.engMac c e l p q) ∧ idle (.engMsu c e l p q) ∧
    idle (.engSincos c e p b) ∧ idle (.engMpyi c e l n p sh) ∧ idle (.engAdda c e l p lg) ∧ idle (.engSuba c e l p lg) ∧ idle (.engClmp c e l p lg) ∧
    idle (.engLdx c e l a w f sh) ∧ idle (.engLdxAdd c e l a w f sh) ∧ idle (.engLdxSub c e l a w f sh) ∧ idle (.engLd c e n a) ∧
    idle (.engVmax c e l a k) ∧ idle (.engVmin c e l a k) ∧ idle (.engVmaxa c e l a k) ∧ idle (.engNeg c l) ∧ idle (.engAbs c l) ∧
    idle (.engStq c l p z) ∧ idle (.engStl c l a) ∧ idle (.engSt c n a) ∧ idle (.engAdd c n m) ∧ idle (.engSub c n m) ∧ idle (.engAnd c n m) ∧
    idle (.engOr c n m) ∧ idle (.engShl c n m) ∧ idle (.engShr c n m) ∧ idle (.engBr c d k) ∧ idle (.engLoop c f k) ∧ idle (.engTile c j) ∧
    idle (.engOutTq c) ∧ idle (.engOutDuty c) ∧ idle (.engOutGen c) ∧ idle (.engOutRmt c))

/-- Sections and outputs. OUT releases the outputs of the tile that p7 names, 0 or none in class OFF, unless they are withheld; a remote record finds its cells or its segment is refused. END before the limit closes the section and shows its
cycles, the longest count kept; a paused tick section goes on after a current section. A tick section starts at its instant at its entry, with the class and variant of each of the cluster's tiles chosen and a hand-over made where they change:
LFB and OFF end a blend. Past its limit a section is abandoned, by END or the overrun, the program counter frozen, and the overrun raised. LP_OSC is raised once per setting of OSC, which
clears only when fewer than CNT crossings stand in the window, and not in the cycle that sets it. Else nothing changes.
The model's choices that clauses of it rest on are log 88, 237, 238, 239. -/
def Obligations.EngineSections : Prop :=
  (∀ (s : State) (c : Fin 12) (a : Fin 96) (q : Int), s.inSection c = true → a.val = 8 * c.val + s.curTile c → s.curTile c ∉ (s.cl c).withheld →
    q = (if s.classOf a = clsOFF then 0 else (s.outWord c (s.curTile c) 0x14).half false) →
    ∃ t, exec (.engOutTq c) s = .next t ∧ (t.tiles.get a).tqcmd = q ∧
      (t.tiles.get a).vint = satInt 16 ((s.dmem c (0x40 * s.curTile c + 0x15)).toInt / 32768) ∧
      (s.outOf a ≠ 0x15 → t.f (TILE_LP_OUT_VALUE a) = wrapNat 16 q) ∧ (s.outOf a = 0x14 → (t.tiles.get a).lp.applied = q) ∧
      (∀ b, b ≠ a → t.tiles.get b = s.tiles.get b) ∧
      s.keeps t [CL_ENG_PC c, TILE_LP_OUT a] ∧ t = { s with clusters := t.clusters, tiles := t.tiles, regs := t.regs }) ∧
  (∀ (s : State) (c : Fin 12) (a : Fin 96) (p : Fin 32), s.inSection c = true → a.val = 8 * c.val + s.curTile c →
    s.curTile c ∉ (s.cl c).withheld → s.classOf a ≠ clsOFF → s.portOf a = some p →
    ∃ t, exec (.engOutDuty c) s = .next t ∧
      (t.pps.get p).waiting = List.zipWith (fun (d : Int) (w : List (Nat × Nat)) =>
          (s.time.mono, (roundHalfEven ((d + 32768) * (if s.flag (PP_PWM_CARRIER p) then 6250 else 3125)) 65536).toNat) :: w)
        [(s.outWord c (s.curTile c) 0x16).half false, (s.outWord c (s.curTile c) 0x16).half true, (s.outWord c (s.curTile c) 0x17).half false]
        (s.pps.get p).waiting ∧
      (t.pps.get p).compare = (s.pps.get p).compare ∧ (∀ q, q ≠ p → t.pps.get q = s.pps.get q) ∧ s.keeps t [CL_ENG_PC c, TILE_LP_OUT a] ∧
      t = { s with clusters := t.clusters, tiles := t.tiles, pps := t.pps, regs := t.regs }) ∧
  (∀ (s : State) (c : Fin 12) (a : Fin 96), s.inSection c = true → a.val = 8 * c.val + s.curTile c →
    s.curTile c ∉ (s.cl c).withheld → s.classOf a = clsOFF ∨ s.portOf a = none →
    ∃ t, exec (.engOutDuty c) s = .next t ∧ s.keeps t [CL_ENG_PC c, TILE_LP_OUT a] ∧ t = { s with clusters := t.clusters, tiles := t.tiles, regs := t.regs }) ∧
  (∀ (s : State) (c : Fin 12) (a : Fin 96) (b : Nat), s.inSection c = true → a.val = 8 * c.val + s.curTile c → s.curTile c ∉ (s.cl c).withheld →
    b = 0x40 * s.curTile c + 0x18 →
    ∃ t, exec (.engOutGen c) s = .next t ∧
      (s.classOf a ≠ clsOFF → (t.tiles.get a).gen = some (signed 64 ((s.dmem c b).toNat + 4294967296 * (s.dmem c (b + 1)).toNat),
        signed 64 ((s.dmem c (b + 2)).toNat + 4294967296 * (s.dmem c (b + 3)).toNat) * 256, (s.dmem c (b + 4)).toInt * 1048576,
        (s.dmem c (b + 5)).toNat % 65536)) ∧
      (s.classOf a = clsOFF → (t.tiles.get a).gen = (s.tiles.get a).gen) ∧ (∀ b, b ≠ a → t.tiles.get b = s.tiles.get b) ∧
      s.keeps t [CL_ENG_PC c, TILE_LP_OUT a] ∧ t = { s with clusters := t.clusters, tiles := t.tiles, regs := t.regs }) ∧
  (∀ (s : State) (c : Fin 12) (a : Fin 96) (g : RSeg) (r : Fin 2) (n : Fin 16) (q : Int), s.inSection c = true → a.val = 8 * c.val + s.curTile c →
    s.curTile c ∉ (s.cl c).withheld → s.f (TILE_FB_SRC_RING a) = r → n.val = r.val →
    q = (if s.classOf a = clsOFF then 0 else (s.outWord c (s.curTile c) 0x14).half false) →
    (s.ringDef r).segs.find? (fun (x : RSeg) => x.kind == 1 && x.recs.any (fun (y : Nat × Nat) => y.1 == a.val)) = some g →
    ∃ off dep bs, bs = s.remoteRecord a q dep ∧ bs.length = 16 ∧
      (∀ u, s.offer n ⟨16, .staged r g.idx off bs s.time.mono⟩ = some u →
        ∃ t, exec (.engOutRmt c) s = .next t ∧ (t.queue n).items = (s.queue n).items ++ [⟨16, .staged r g.idx off bs s.time.mono⟩] ∧
          s.keeps t [CL_ENG_PC c, HQ_HWM n] ∧ t = { s with clusters := t.clusters, hq := t.hq, regs := t.regs }) ∧
      (s.offer n ⟨16, .staged r g.idx off bs s.time.mono⟩ = none →
        ∃ t, exec (.engOutRmt c) s = .next t ∧ (t.rings.get r).refused = (g.idx, s.time.mono) :: (s.rings.get r).refused ∧
          t.rdN (HQ_CNT_REF n) = min (s.rdN (HQ_CNT_REF n) + 1) 4294967295 ∧ s.keeps t [CL_ENG_PC c, HQ_CNT_REF n] ∧
          t = { s with clusters := t.clusters, rings := t.rings, regs := t.regs })) ∧
  (∀ (s : State) (c : Fin 12) (a : Fin 96), s.inSection c = true → a.val = 8 * c.val + s.curTile c →
    (∀ (r : Fin 2), s.f (TILE_FB_SRC_RING a) = r →
      (s.ringDef r).segs.find? (fun (x : RSeg) => x.kind == 1 && x.recs.any (fun (y : Nat × Nat) => y.1 == a.val)) = none) →
    ∃ t, exec (.engOutRmt c) s = .next t ∧ s.keeps t [CL_ENG_PC c] ∧ t = { s with clusters := t.clusters, regs := t.regs }) ∧
  (∀ (s : State) (c : Fin 12), s.inSection c = true → s.curTile c ∈ (s.cl c).withheld →
    ∃ t, exec (.engOutTq c) s = .next t ∧ exec (.engOutDuty c) s = .next t ∧ exec (.engOutGen c) s = .next t ∧ exec (.engOutRmt c) s = .next t ∧
      s.keeps t [CL_ENG_PC c] ∧ t = { s with clusters := t.clusters, regs := t.regs }) ∧
  (∀ (s u : State) (c : Fin 12) (m : Nat), u = s.runTo m → u.inSection c = false →
    exec (.engEnd c m) s = .next u ∧ exec (.engOverrun c m) s = .next u) ∧
  (∀ (s u : State) (c : Fin 12) (m : Nat), u = s.runTo m → u.inSection c = true →
    exec (.engOverrun c m) s = .next (u.abandon c) ∧
    (u.curOver c = true ∨ (u.flag (CL_ENG_STAT_IN_CUR c) = false ∧ u.tickOver c = true) → exec (.engEnd c m) s = .next (u.abandon c))) ∧
  (∀ (s u : State) (c : Fin 12) (m : Nat), u = s.runTo m → u.inSection c = true → u.flag (CL_ENG_STAT_IN_CUR c) = false → u.tickOver c = false →
    ∃ t, exec (.engEnd c m) s = .next t ∧ t.f (CL_ENG_STAT_IN_TICK c) = 0 ∧ t.f (CL_ENG_CYC_TICK c) = u.tickCycles ∧
      t.f (CL_ENG_CYCMAX_TICK c) = max u.tickCycles (u.f (CL_ENG_CYCMAX_TICK c)) ∧ (∀ k, k ≠ c → t.cl k = u.cl k) ∧
      u.keeps t [CL_ENG_STAT c, CL_ENG_CYC c, CL_ENG_CYCMAX c] ∧ t = { u with clusters := t.clusters, regs := t.regs }) ∧
  (∀ (s u : State) (c : Fin 12) (m : Nat), u = s.runTo m → u.inSection c = true → u.flag (CL_ENG_STAT_IN_CUR c) = true → u.curOver c = false →
    ∃ t, exec (.engEnd c m) s = .next t ∧ t.f (CL_ENG_STAT_IN_CUR c) = 0 ∧ t.f (CL_ENG_STAT_IN_TICK c) = u.f (CL_ENG_STAT_IN_TICK c) ∧
      t.f (CL_ENG_CYC_CUR c) = u.curCycles ∧ t.f (CL_ENG_CYCMAX_CUR c) = max u.curCycles (u.f (CL_ENG_CYCMAX_CUR c)) ∧
      (∀ pc ls wh, (u.cl c).paused = some (pc, ls, wh) → t.f (CL_ENG_PC_PC c) = pc % 4096 ∧ (t.cl c).loops = ls ∧ (t.cl c).withheld = wh) ∧
      ((u.cl c).paused = none → t.f (CL_ENG_PC_PC c) = u.f (CL_ENG_PC_PC c)) ∧ (∀ k, k ≠ c → t.cl k = u.cl k) ∧
      u.keeps t [CL_ENG_STAT c, CL_ENG_PC c, CL_ENG_CYC c, CL_ENG_CYCMAX c] ∧ t = { u with clusters := t.clusters, regs := t.regs }) ∧
  (∀ (v : State) (c : Fin 12), v.curOver c = false → v.tickOver c = false → v.abandon c = v) ∧
  (∀ (v : State) (c : Fin 12), v.curOver c = true → v.tickOver c = false →
    ∃ t, v.abandon c = t ∧ t.f (CL_ENG_STAT_OVERRUN c) = 1 ∧ t.f (CL_ENG_STAT_IN_CUR c) = 0 ∧ (t.cl c).frozenPc = v.f (CL_ENG_PC_PC c) ∧
      v.raisedOne t (0x60 + c) 0x30 cCRITICAL ∧ v.keeps t [CL_ENG_STAT c, CL_ENG_PC c] ∧
      t = { v with time := { v.time with hits := t.time.hits }, clusters := t.clusters, flt := t.flt, regs := t.regs }) ∧
  (∀ (v : State) (c : Fin 12), v.curOver c = false → v.tickOver c = true → v.flag (CL_ENG_STAT_IN_CUR c) = false ∨ (v.cl c).paused.isSome = true →
    ∃ t, v.abandon c = t ∧ t.f (CL_ENG_STAT_OVERRUN c) = 1 ∧ t.f (CL_ENG_STAT_IN_TICK c) = 0 ∧ t.f (CL_ENG_STAT_IN_CUR c) = v.f (CL_ENG_STAT_IN_CUR c) ∧
      t.f (CL_ENG_PC_PC c) = v.f (CL_ENG_PC_PC c) ∧ v.raisedOne t (0x60 + c) 0x30 cCRITICAL ∧ v.keeps t [CL_ENG_STAT c] ∧
      t = { v with time := { v.time with hits := t.time.hits }, clusters := t.clusters, flt := t.flt, regs := t.regs }) ∧
  (∀ (s : State) (c : Fin 12) (e m : Nat) (bad : List (Nat × Nat)), (s.runTo m).startsTick c = false → exec (.tickSectionStart c e bad m) s = .next (s.runTo m)) ∧
  (∀ (s u v : State) (c : Fin 12) (e m : Nat) (bad : List (Nat × Nat)), u = s.runTo m → u.startsTick c = true →
    v = (u.modCl c (fun x => { x with withheld := [], loops := [], paused := none })).loopTiles c bad (u.clusterAxes c) →
    ∃ t, exec (.tickSectionStart c e bad m) s = .next t ∧ t.f (CL_ENG_STAT_IN_TICK c) = 1 ∧ t.f (CL_ENG_PC_PC c) = e % 4096 ∧
      v.keeps t [CL_ENG_STAT c, CL_ENG_PC c] ∧ t = { v with regs := t.regs }) ∧
  (∀ (v : State) (c : Fin 12) (bad : List (Nat × Nat)) (a : Fin 96) (as : List (Fin 96)),
    v.loopTiles c bad [] = v ∧ v.loopTiles c bad (a :: as) = (v.loopTile c bad a (a.val % 8)).loopTiles c bad as) ∧
  (∀ (v : State) (c : Fin 12) (bad : List (Nat × Nat)) (a : Fin 96) (k cls var : Nat), cls = v.pickClass c a → var = v.variantOf a cls →
    ∃ w, v.loopTile c bad a k = w ∧ w.f (TILE_LP_STAT_CLASS a) = cls ∧ w.f (TILE_LP_STAT_VARIANT a) = var ∧
      (w.tiles.get a).lp.ran = some (if cls = clsLFB then 4 else var) ∧ (w.tiles.get a).lp.wasOff = (cls == clsOFF) ∧
      (cls = clsLFB ∨ cls = clsOFF → (w.tiles.get a).lp.blend = none ∧ w.flt = v.flt) ∧
      (∀ b, b ≠ a → w.tiles.get b = v.tiles.get b) ∧ (∀ j, j ≠ c → w.cl j = v.cl j) ∧
      v.keeps w [TILE_LP_STAT a, TILE_LP_GAP a, CL_ENG_STAT c] ∧
      w = { v with time := { v.time with hits := w.time.hits }, clusters := w.clusters, tiles := w.tiles, flt := w.flt, regs := w.regs, free := w.free }) ∧
  (∀ (v p : State) (c : Fin 12) (a : Fin 96) (k : Nat) (x : LoopVar) (uOld uP i gap : Int),
    p = (v.modCl c (fun y => { y with ap := y.ap.set 7 (0x40 * k), loops := [] })).presetRun c (.preset x.out x.integ) x.code 12500 0 →
    uP = (p.dmem c x.out).half false → i = (if x.integ.isSome then max (-(x.ilim : Int)) (min (uOld - uP) x.ilim) else 0) → gap = uOld - (uP + i) →
    ∃ w, v.handOver c a k x uOld = w ∧ w.f (TILE_LP_GAP_VALUE a) = wrapNat 16 gap ∧
      (w.tiles.get a).lp.blend = (if gap = 0 then none else some (gap, 0)) ∧
      (∀ y, x.integ = some y → w.dmem c y = BitVec.ofInt 32 (i * 32768)) ∧ (w.cl c).a0 = (v.cl c).a0 ∧ (w.cl c).a1 = (v.cl c).a1 ∧
      (w.cl c).d = (v.cl c).d ∧ (w.cl c).ap = (v.cl c).ap ∧
      ((v.f (TILE_LP_VAR_HO_THR a) : Int) < |gap| → w.f (TILE_LP_STAT_GAP a) = 1 ∧ v.raisedOne w a 0x22 cMINOR) ∧
      (|gap| ≤ (v.f (TILE_LP_VAR_HO_THR a) : Int) → w.flt = v.flt ∧ v.keeps w [TILE_LP_GAP a])) ∧
  (∀ (s : State) (a : Fin 96), s.atTick = true → s.oscHolds a = true → s.flag (TILE_LP_STAT_OSC a) = false →
    ∃ t, exec (.lpOsc a) s = .next t ∧ t.f (TILE_LP_STAT_OSC a) = 1 ∧ t.rd (TILE_LP_OSC_FREQ a) = BitVec.ofNat 32 (s.oscFreq a) ∧
      s.raisedOne t a 0x34 cMINOR ∧ s.keeps t [TILE_LP_STAT a, TILE_LP_OSC_FREQ a] ∧
      t = { s with time := { s.time with hits := t.time.hits }, flt := t.flt, regs := t.regs }) ∧
  (∀ (s : State) (a : Fin 96), s.atTick = false ∨ s.oscHolds a = false ∨ s.flag (TILE_LP_STAT_OSC a) = true → exec (.lpOsc a) s = .next s) ∧
  (∀ (s : State) (a : Fin 96) (v : Word), s.tileOpen a = false → exec (.oscClear a v) s = .next s) ∧
  (∀ (s : State) (a : Fin 96) (v : Word), s.tileOpen a = true →
    ∃ t, exec (.oscClear a v) s = .next t ∧
      (v.getLsbD 7 = true → s.hitNow (TILE_LP_STAT_OSC a) = false → (s.oscWindow a).length < s.f (TILE_LP_OSC_DET_CNT a) → t.f (TILE_LP_STAT_OSC a) = 0) ∧
      (v.getLsbD 7 = false ∨ s.hitNow (TILE_LP_STAT_OSC a) = true ∨ s.f (TILE_LP_OSC_DET_CNT a) ≤ (s.oscWindow a).length →
        t.f (TILE_LP_STAT_OSC a) = s.f (TILE_LP_STAT_OSC a) ∧ t.flt = s.flt) ∧
      t.f (TILE_LP_STAT_GAP a) = (if v.getLsbD 6 ∧ s.hitNow (TILE_LP_STAT_GAP a) = false then 0 else s.f (TILE_LP_STAT_GAP a)) ∧
      s.keeps t [TILE_LP_STAT a] ∧ t = { s with flt := t.flt, regs := t.regs })

/-- The solver. A window opens in its turn when its job waits: the job leaves HQ10 and the iteration starts warm, at RHO_INIT after an excursion; a parameter or a warm start outside its
range ends the window at once as SHIFTED, with SOL_RANGE (endRange). An iteration before D replaces the iterate and counts; an excursion ends the window. A test that is due writes the residuals; one that passes ends
the window CONVERGED, or ACCEPTED past D; one that fails past D ends it SHIFTED, and before D with one residual too large against the other moves the ladder index and starts a factorisation, whose
end before D makes its factor the active one, with its regularised pivots told. At the deadline a factorisation is cut and an iterate that passes is ACCEPTED, any other result SHIFTED. A result that
waits enters HQ11 once, or is discarded where HQ11 is full. A single-bit error counts; a double-bit one in constant data disables the arm, one in work data ends the window. Else nothing changes.
The model's choices that clauses of it rest on are log 91, 92, 241, 242, 243, 244. -/
def Obligations.SolverRuns : Prop :=
  (∀ (s u : State) (n : Fin 4) (j : Fin 12) (m : Nat), u = s.runTo m →
    (∀ p, u.probAt n j = some p → 12 ≤ p.arm ∨ (∀ a : Fin 12, p.arm = a.val → (u.qa a).job = none) ∨ u.flag (QS_STAT_RUNNING n) = true ∨
      u.flag (QS_STAT_STOPPED n) = true ∨ u.turnOf n j = false ∨ (∀ i ∈ (u.queue 10).items, i.body ≠ .job p.arm)) →
    exec (.solverWindowOpen n j m) s = .next u) ∧
  (∀ (s u : State) (n : Fin 4) (j a : Fin 12) (m fr cap : Nat) (p : QProb) (θ q l v : List Int) (it : QPoint), u = s.runTo m → u.probAt n j = some p →
    p.arm = a.val → (u.qa a).job = some (fr, cap, θ) → u.flag (QS_STAT_RUNNING n) = false → u.flag (QS_STAT_STOPPED n) = false → u.turnOf n j = true →
    (∃ i ∈ (u.queue 10).items, i.body = .job p.arm) → State.qparams p θ cap = .ok (q, l, v) → (u.warm a p).checked p = .ok it →
    ∃ t, exec (.solverWindowOpen n j m) s = .next t ∧ (t.qa a).win = some ⟨fr, q, l, v, it, 0, false⟩ ∧ (t.qa a).job = none ∧ (t.qa a).reinit = false ∧
      (∀ i ∈ (t.queue 10).items, i.body ≠ .job p.arm) ∧ t.f (QS_STAT_RUNNING n) = 1 ∧ t.f (QS_STAT_POS n) = j ∧
      ((u.qa a).reinit = false → u.keeps t [QS_STAT n] ∧ (t.qa a).fact = (u.qa a).fact) ∧
      ((u.qa a).reinit = true → u.f (QS_ARM_RES_RHO n j) ≠ u.f (QS_ARM_CHK_RHO_INIT n j) →
        (t.qa a).fact = some (u.f (QS_ARM_RES_RHO n j)) ∧ t.f (QS_ARM_RES_RHO n j) = u.f (QS_ARM_CHK_RHO_INIT n j) ∧ t.f (QS_STAT_IN_FACT n) = 1) ∧
      u.keeps t [QS_STAT n, QS_ARM_RES n j] ∧ (∀ b, b ≠ a → t.qa b = u.qa b) ∧ t = { u with hq := t.hq, qarms := t.qarms, regs := t.regs }) ∧
  (∀ (s u : State) (n : Fin 4) (j a : Fin 12) (m fr cap idx : Nat) (p : QProb) (θ : List Int), u = s.runTo m → u.probAt n j = some p →
    p.arm = a.val → (u.qa a).job = some (fr, cap, θ) → u.flag (QS_STAT_RUNNING n) = false → u.flag (QS_STAT_STOPPED n) = false → u.turnOf n j = true →
    (∃ i ∈ (u.queue 10).items, i.body = .job p.arm) →
    State.qparams p θ cap = .error idx ∨ (∃ q, State.qparams p θ cap = .ok q ∧ (u.warm a p).checked p = .error idx) →
    ∃ t, exec (.solverWindowOpen n j m) s = .next t ∧ (t.qa a).win = none ∧ (t.qa a).res = some ⟨fr, qSHIFTED, 0, none, 2⟩ ∧ (t.qa a).job = none ∧
      (t.qa a).reinit = true ∧ t.f (QS_STAT_RANGE n) = 1 ∧ t.f (QS_STAT_RUNNING n) = 0 ∧ u.raisedOne t (0x70 + n) 0x38 cMAJOR ∧
      u.keeps t [QS_STAT n, QS_ARM_TEND n j, QS_ARM_RES n j] ∧ (∀ b, b ≠ a → t.qa b = u.qa b) ∧
      t = { u with time := { u.time with hits := t.time.hits }, hq := t.hq, qarms := t.qarms, flt := t.flt, regs := t.regs }) ∧
  (∀ (s u : State) (n : Fin 4) (c m : Nat), u = s.runTo m → u.working n = none →
    exec (.solverIteration n m) s = .next u ∧ exec (.solverTest n m) s = .next u ∧ exec (.factorisationDone n m) s = .next u ∧
    exec (.solverDeadline n c m) s = .next u) ∧
  (∀ (v : State) (a : Fin 12) (p : QProb) (w : QWindow) (idx stage : Nat), (v.qa a).win = some w → p.arm = a.val →
    ∃ t, v.endRange a p idx stage = t ∧ (t.qa a).win = none ∧ (t.qa a).fact = none ∧ (t.qa a).res = some ⟨w.frame, qSHIFTED, w.k, none, 2⟩ ∧ (t.qa a).reinit = true ∧
      t.f (QS_STAT_RANGE p.unit) = 1 ∧ t.f (QS_STAT_RUNNING p.unit) = 0 ∧ v.raisedOne t (0x70 + p.unit) 0x38 cMAJOR ∧
      v.keeps t [QS_STAT p.unit, QS_ARM_TEND p.unit p.pos, QS_ARM_RES p.unit p.pos] ∧ (∀ b, b ≠ a → t.qa b = v.qa b) ∧
      t = { v with time := { v.time with hits := t.time.hits }, qarms := t.qarms, flt := t.flt, regs := t.regs }) ∧
  (∀ (v : State) (a : Fin 12) (p : QProb) (w : QWindow) (kind cause : Nat), (v.qa a).win = some w →
    ∃ t, v.endWindow a p kind cause = t ∧ (t.qa a).win = none ∧ (t.qa a).fact = none ∧
      (t.qa a).res = some ⟨w.frame, kind, w.k, if kind = qSHIFTED then none else some w.it, cause⟩ ∧
      t.f (QS_STAT_RUNNING p.unit) = 0 ∧ t.f (QS_STAT_POS p.unit) = 15 ∧ t.f (QS_STAT_IN_FACT p.unit) = 0 ∧
      t.f (QS_ARM_TEND_T p.unit p.pos) = min v.frameNs 1048575 ∧ t.f (QS_ARM_RES_ITER p.unit p.pos) = min w.k 255 ∧
      v.keeps t [QS_STAT p.unit, QS_ARM_TEND p.unit p.pos, QS_ARM_RES p.unit p.pos] ∧ (∀ b, b ≠ a → t.qa b = v.qa b) ∧
      t = { v with qarms := t.qarms, regs := t.regs }) ∧
  (∀ (s u : State) (n : Fin 4) (a : Fin 12) (m : Nat) (p : QProb) (w : QWindow), u = s.runTo m → u.working n = some (a, p, w) →
    (u.pastD p w = true ∨ u.flag (QS_STAT_IN_FACT n) = true ∨ (w.k ≠ 0 ∧ w.k % max 1 (u.f (QS_ARM_CHK_CHK_IT n p.pos)) = 0 ∧ w.tested = false) →
      exec (.solverIteration n m) s = .next u) ∧
    (u.pastD p w = false → u.flag (QS_STAT_IN_FACT n) = false → w.k = 0 ∨ w.k % max 1 (u.f (QS_ARM_CHK_CHK_IT n p.pos)) ≠ 0 ∨ w.tested = true →
      (∀ it, qiterate p (u.qa a).active (u.rhoOf p) w = .ok it →
        ∃ t, exec (.solverIteration n m) s = .next t ∧ (t.qa a).win = some { w with it := it, k := w.k + 1, tested := false } ∧
          (∀ b, b ≠ a → t.qa b = u.qa b) ∧ t = { u with qarms := t.qarms }) ∧
      (∀ idx, qiterate p (u.qa a).active (u.rhoOf p) w = .error idx → exec (.solverIteration n m) s = .next (u.endRange a p idx 2)))) ∧
  (∀ (s u : State) (n : Fin 4) (a : Fin 12) (m : Nat) (p : QProb) (w : QWindow), u = s.runTo m → u.working n = some (a, p, w) →
    (w.k = 0 ∨ w.k % max 1 (u.f (QS_ARM_CHK_CHK_IT n p.pos)) ≠ 0 ∨ w.tested = true → exec (.solverTest n m) s = .next u) ∧
    (w.k ≠ 0 → w.k % max 1 (u.f (QS_ARM_CHK_CHK_IT n p.pos)) = 0 → w.tested = false →
      (∀ idx, qresiduals p w = .error idx → exec (.solverTest n m) s = .next (u.endRange a p idx 2)) ∧
      (∀ r v, qresiduals p w = .ok r → v = (u.putResiduals p r).modQ a (fun x => { x with win := some { w with tested := true } }) →
        (r.1 ≤ p.epsP → r.2 ≤ p.epsD → exec (.solverTest n m) s = .next (v.endWindow a p (if u.pastD p w then qACCEPTED else qCONVERGED) 0)) ∧
        (p.epsP < r.1 ∨ p.epsD < r.2 → u.pastD p w = true → exec (.solverTest n m) s = .next (v.endWindow a p qSHIFTED 1)) ∧
        (p.epsP < r.1 ∨ p.epsD < r.2 → u.pastD p w = false →
          ((u.f (QS_ARM_CHK_RHO_TRIG n p.pos) : Int) * r.2 * p.epsP < r.1 * p.epsD → u.f (QS_ARM_RES_RHO n p.pos) < 3 →
            exec (.solverTest n m) s = .next (v.startFact a p (u.f (QS_ARM_RES_RHO n p.pos) + 1))) ∧
          (r.1 * p.epsD ≤ (u.f (QS_ARM_CHK_RHO_TRIG n p.pos) : Int) * r.2 * p.epsP ∨ u.f (QS_ARM_RES_RHO n p.pos) = 3 →
            ((u.f (QS_ARM_CHK_RHO_TRIG n p.pos) : Int) * r.1 * p.epsD < r.2 * p.epsP → u.f (QS_ARM_RES_RHO n p.pos) ≠ 0 →
              exec (.solverTest n m) s = .next (v.startFact a p (u.f (QS_ARM_RES_RHO n p.pos) - 1))) ∧
            (r.2 * p.epsP ≤ (u.f (QS_ARM_CHK_RHO_TRIG n p.pos) : Int) * r.1 * p.epsD ∨ u.f (QS_ARM_RES_RHO n p.pos) = 0 →
              exec (.solverTest n m) s = .next v)))))) ∧
  (∀ (v : State) (p : QProb) (r : Int × Int), ∃ t, v.putResiduals p r = t ∧
    t.rd (QS_ARM_RP p.unit p.pos) = BitVec.ofNat 32 (min (roundHalfEven (r.1 * 65536) (max p.epsP 1).toNat) 4294967295).toNat ∧
    t.rd (QS_ARM_RD p.unit p.pos) = BitVec.ofNat 32 (min (roundHalfEven (r.2 * 65536) (max p.epsD 1).toNat) 4294967295).toNat ∧
    v.keeps t [QS_ARM_RP p.unit p.pos, QS_ARM_RD p.unit p.pos] ∧ t = { v with regs := t.regs }) ∧
  (∀ (v : State) (a : Fin 12) (p : QProb) (k : Nat), k < 4 → ∃ t, v.startFact a p k = t ∧ (t.qa a).fact = some (v.f (QS_ARM_RES_RHO p.unit p.pos)) ∧
    t.f (QS_ARM_RES_RHO p.unit p.pos) = k ∧ t.f (QS_STAT_IN_FACT p.unit) = 1 ∧ v.keeps t [QS_STAT p.unit, QS_ARM_RES p.unit p.pos] ∧
    (∀ b, b ≠ a → t.qa b = v.qa b) ∧ t = { v with qarms := t.qarms, regs := t.regs }) ∧
  (∀ (s u : State) (n : Fin 4) (a : Fin 12) (m : Nat) (p : QProb) (w : QWindow), u = s.runTo m → u.working n = some (a, p, w) →
    ((u.qa a).fact = none ∨ u.pastD p w = true → exec (.factorisationDone n m) s = .next u) ∧
    (∀ old f, (u.qa a).fact = some old → u.pastD p w = false → qfactor p (u.rhoOf p) = .ok (f, []) →
      ∃ t, exec (.factorisationDone n m) s = .next t ∧ (t.qa a).active = f ∧ (t.qa a).fact = none ∧ t.f (QS_STAT_IN_FACT n) = 0 ∧
        t.rdN (QS_ARM_CNT_FACT n p.pos) = min (u.rdN (QS_ARM_CNT_FACT n p.pos) + 1) 4294967295 ∧
        u.keeps t [QS_STAT n, QS_ARM_CNT_FACT n p.pos] ∧ (∀ b, b ≠ a → t.qa b = u.qa b) ∧ t = { u with qarms := t.qarms, regs := t.regs }) ∧
    (∀ old f piv, (u.qa a).fact = some old → u.pastD p w = false → qfactor p (u.rhoOf p) = .ok (f, piv) → piv ≠ [] →
      ∃ t ms, exec (.factorisationDone n m) s = .next t ∧ (t.qa a).active = f ∧ (t.qa a).fact = none ∧ t.f (QS_STAT_IN_FACT n) = 0 ∧
        t.f (QS_STAT_PIVOT n) = 1 ∧ t.rdN (QS_ARM_CNT_PIV n p.pos) = min (u.rdN (QS_ARM_CNT_PIV n p.pos) + piv.length) 4294967295 ∧
        t.flt.path = u.flt.path ++ ms ∧ ms.length = piv.length ∧ (∀ x ∈ ms, x.kind = 0x39 ∧ x.source = 0x70 + n.val ∧ x.cls = cMINOR) ∧
        u.keeps t [QS_STAT n, QS_ARM_CNT_FACT n p.pos, QS_ARM_CNT_PIV n p.pos] ∧
        t = { u with time := { u.time with hits := t.time.hits }, qarms := t.qarms, flt := t.flt, regs := t.regs }) ∧
    (∀ old idx, (u.qa a).fact = some old → old < 4 → u.pastD p w = false → qfactor p (u.rhoOf p) = .error idx →
      ∃ t, exec (.factorisationDone n m) s = .next t ∧ (t.qa a).active = (u.qa a).active ∧ (t.qa a).fact = none ∧ (t.qa a).reinit = true ∧
        t.f (QS_ARM_RES_RHO n p.pos) = old ∧ t.f (QS_STAT_RANGE n) = 1 ∧ u.raisedOne t (0x70 + n) 0x38 cMAJOR ∧
        u.keeps t [QS_STAT n, QS_ARM_RES n p.pos] ∧
        t = { u with time := { u.time with hits := t.time.hits }, qarms := t.qarms, flt := t.flt, regs := t.regs })) ∧
  (∀ (s u v : State) (n : Fin 4) (a : Fin 12) (c m : Nat) (p : QProb) (w : QWindow), u = s.runTo m → u.working n = some (a, p, w) → v = u.cutFact a p c →
    (w.frame = u.frameSeq → u.frameNs < u.f (QS_ARM_DL_D n p.pos) → exec (.solverDeadline n c m) s = .next u) ∧
    (w.frame ≠ u.frameSeq ∨ u.f (QS_ARM_DL_D n p.pos) ≤ u.frameNs →
      (w.tested = true → exec (.solverDeadline n c m) s = .next (v.endWindow a p qSHIFTED 1)) ∧
      (∀ idx, w.tested = false → qresiduals p w = .error idx → exec (.solverDeadline n c m) s = .next (v.endRange a p idx 2)) ∧
      (∀ r, w.tested = false → qresiduals p w = .ok r → exec (.solverDeadline n c m) s = .next (if r.1 ≤ p.epsP ∧ r.2 ≤ p.epsD
        then (v.putResiduals p r).endWindow a p qACCEPTED 0 else (v.putResiduals p r).endWindow a p qSHIFTED 1)))) ∧
  (∀ (v : State) (a : Fin 12) (p : QProb) (c : Nat), (v.qa a).fact = none → v.cutFact a p c = v) ∧
  (∀ (v : State) (a : Fin 12) (p : QProb) (c old : Nat), (v.qa a).fact = some old → old < 4 →
    ∃ t, v.cutFact a p c = t ∧ t.f (QS_ARM_RES_RHO p.unit p.pos) = old ∧ t.f (QS_ARM_RES_FACT_CUT p.unit p.pos) = 1 ∧
      t.rdN (QS_ARM_CNT_CUT p.unit p.pos) = min (v.rdN (QS_ARM_CNT_CUT p.unit p.pos) + 1) 4294967295 ∧
      v.keeps t [QS_STAT p.unit, QS_ARM_RES p.unit p.pos, QS_ARM_CNT_CUT p.unit p.pos, QS_ARM_CNT_PIV p.unit p.pos] ∧
      t = { v with time := { v.time with hits := t.time.hits }, qarms := t.qarms, flt := t.flt, regs := t.regs }) ∧
  (∀ (s : State) (n : Fin 4) (j a : Fin 12) (p : QProb), s.probAt n j = some p → p.arm = a.val → (s.qa a).win = none → (s.qa a).res.isSome = true →
    (∀ i ∈ (s.queue 11).items, ∀ k, i.body ≠ .solution p.arm k) →
    (∀ v, s.offer 11 ⟨64, .solution p.arm s.time.mono⟩ = some v →
      ∃ t, exec (.solverPublish n j) s = .next t ∧ (t.queue 11).items = (s.queue 11).items ++ [⟨64, .solution p.arm s.time.mono⟩] ∧
        s.keeps t [HQ_HWM 11] ∧ t = { s with hq := t.hq, regs := t.regs }) ∧
    (s.offer 11 ⟨64, .solution p.arm s.time.mono⟩ = none →
      ∃ t, exec (.solverPublish n j) s = .next t ∧ (∃ r, (t.qa a).res = some r ∧ r.point = none ∧ r.kind = qSHIFTED ∧ r.cause = 4) ∧
        t.rdN (HQ_CNT_REF 11) = min (s.rdN (HQ_CNT_REF 11) + 1) 4294967295 ∧ (∀ b, b ≠ a → t.qa b = s.qa b) ∧ s.keeps t [HQ_CNT_REF 11] ∧
        t = { s with qarms := t.qarms, regs := t.regs })) ∧
  (∀ (s : State) (n : Fin 4) (j : Fin 12), (∀ p, s.probAt n j = some p → 12 ≤ p.arm ∨ (∃ i ∈ (s.queue 11).items, ∃ k, i.body = .solution p.arm k) ∨
      (∀ a : Fin 12, p.arm = a.val → (s.qa a).win.isSome = true ∨ (s.qa a).res = none)) → exec (.solverPublish n j) s = .next s) ∧
  (∀ (s : State) (u : Fin 4) (k : Option (Fin 12)) (ad : Nat), ∃ t, exec (.solEcc u false k ad) s = .next t ∧
    t.rdN (QS_CNT_ECC u) = min (s.rdN (QS_CNT_ECC u) + 1) 4294967295 ∧ s.keeps t [QS_CNT_ECC u] ∧ t = { s with regs := t.regs }) ∧
  (∀ (s : State) (u : Fin 4) (a : Fin 12) (ad : Nat), ∃ t, exec (.solEcc u true (some a) ad) s = .next t ∧ (t.qa a).dead = true ∧
    (t.qa a).usable = false ∧ t.f (QS_STAT_ECC2 u) = 1 ∧ s.raisedOne t (0x70 + u) 0x3D cMAJOR ∧ (∀ b, b ≠ a → t.qa b = s.qa b) ∧
    (∀ p, s.prob a = some p → t.f (QS_ARM_RES_USABLE p.unit p.pos) = 0 ∧ (t.cl a).usable = false ∧ s.keeps t [QS_STAT u, QS_ARM_RES p.unit p.pos]) ∧
    (s.prob a = none → s.keeps t [QS_STAT u]) ∧
    t = { s with time := { s.time with hits := t.time.hits }, qarms := t.qarms, clusters := t.clusters, flt := t.flt, regs := t.regs }) ∧
  (∀ (s : State) (u : Fin 4) (ad : Nat), s.working u = none → ∃ t, exec (.solEcc u true none ad) s = .next t ∧ t.f (QS_STAT_ECC2 u) = 1 ∧
    s.raisedOne t (0x70 + u) 0x3C cMAJOR ∧ s.keeps t [QS_STAT u] ∧
    t = { s with time := { s.time with hits := t.time.hits }, flt := t.flt, regs := t.regs }) ∧
  (∀ (s : State) (u : Fin 4) (ad : Nat) (a : Fin 12) (p : QProb) (w : QWindow), s.working u = some (a, p, w) →
    ∃ t, exec (.solEcc u true none ad) s = .next t ∧ t.f (QS_STAT_ECC2 u) = 1 ∧ s.raisedOne t (0x70 + u) 0x3C cMAJOR ∧ (t.qa a).win = none ∧
      (t.qa a).res = some ⟨w.frame, qSHIFTED, w.k, none, 2⟩ ∧ (t.qa a).reinit = true ∧ t.f (QS_STAT_RUNNING u) = 0 ∧
      s.keeps t [QS_STAT u, QS_ARM_TEND u p.pos, QS_ARM_RES u p.pos] ∧
      t = { s with time := { s.time with hits := t.time.hits }, qarms := t.qarms, flt := t.flt, regs := t.regs })

/-- Separation monitoring. A mirror set that is 250 μs old while monitoring runs is shown stale, takes torque from every
group with an arm and is raised by both channels. A cycle that is due takes the newest set in both channels under the set in use; an arm that is newly in violation in a channel has its
group OFF in that channel. The exchange publishes the next cap set: the smaller cap of the channels, 0 for an arm in SS1.
Enough disagreeing cycles, told once, or a late channel, set XCMP and take torque. A lost source latches a violation of the arms it
covers and takes their groups' torque. A latch clears after N_RST clear cycles. A cap set unchanged at three boundaries caps every arm to 0, told once. Else nothing changes.
The model's choices that clauses of it rest on are log 29, 93, 94, 184, 202, 245, 246, 247. -/
def Obligations.SeparationRuns : Prop :=
  (∀ (s u : State) (m : Nat), u = s.runTo m → u.ssmRuns = false ∨ u.safe.mirrorStale = true ∨ u.time.mono < u.safe.mirrorAt + 200000 →
    exec (.mirrorStale m) s = .next u) ∧
  (∀ (s u : State) (m : Nat), u = s.runTo m → u.ssmRuns = true → u.safe.mirrorStale = false → u.safe.mirrorAt + 200000 ≤ u.time.mono →
    ∃ t, exec (.mirrorStale m) s = .next t ∧ t.safe.mirrorStale = true ∧ t.f SAFE_SSM_STAT_MIRROR_STALE = 1 ∧ u.wentOff t u.armGroups 2 ∧
      (∃ x y, t.flt.path = u.flt.path ++ [x, y] ∧ x.source = 0x150 ∧ y.source = 0x151 ∧ x.kind = 0x45 ∧ y.kind = 0x45 ∧ x.cls = cCRITICAL ∧ y.cls = cCRITICAL) ∧
      u.keeps t (SAFE_SSM_STAT :: u.offRegs) ∧ u.offFrame t) ∧
  (∀ (s u : State) (m : Nat), u = s.runTo m → u.ssmRuns = false ∨ u.mirrorNow = none ∨ (∃ k, u.safe.hpAt = some k ∧ safePast k 1000 u.time.mono = false) →
    exec (.hardpanCycle m) s = .next u) ∧
  (∀ (s u : State) (m : Nat) (x : Mirror), u = s.runTo m → u.ssmRuns = true → u.mirrorNow = some x →
    (∀ k, u.safe.hpAt = some k → safePast k 1000 u.time.mono = true) →
    ∃ t, exec (.hardpanCycle m) s = .next t ∧ t.f SAFE_SSM_STAT_RUN = 1 ∧ t.safe.cycled = true ∧ t.safe.hpAt = some u.time.mono ∧ t.safe.monOld = none ∧
      (∀ c : Fin 2, (t.chan c).taken = some x ∧ (t.chan c).first = false) ∧
      (∀ (c : Fin 2) (a : Fin 12) (g : Fin 4), (t.chan c).viol.testBit a = true → (u.chan c).viol.testBit a = false → u.groupOfArm a = some g →
        (t.group c g).state = 0) ∧
      (∀ (c : Fin 2) (a : Fin 12), (t.chan c).viol.testBit a = true ↔ (u.chan c).viol.testBit a = true ∨ ((t.chan c).res.getD a {}).viol = true) ∧
      t.f SAFE_SSM_VIOL_VIOL = ((t.chan 0).viol ||| (t.chan 1).viol) % 4096 ∧
      t = { u with time := { u.time with hits := t.time.hits }, hq := t.hq, wheel := t.wheel, tiles := t.tiles, pps := t.pps, safe := t.safe, flt := t.flt,
                   regs := t.regs, free := t.free }) ∧
  (∀ (s : State) (n : Nat), s.safe.cycled = false → exec (.ssmExchange n) s = .next s) ∧
  (∀ (s : State) (n : Nat), s.safe.cycled = true →
    ∃ t k, exec (.ssmExchange n) s = .next t ∧ t.safe.caps = some k ∧ k.seq = (s.safe.capSeq + 1) % 65536 ∧ k.set = s.monSet.2.1 ∧ k.sid = s.monSet.2.2 ∧
      (∀ a : Fin 12, k.caps.getD a 0 = if s.armInSs1 a then 0 else min ((s.chan 0).res.getD a {}).cap ((s.chan 1).res.getD a {}).cap) ∧
      k.viol = (s.chan 0).viol ||| (s.chan 1).viol ∧ t.safe.capsAt = s.time.mono ∧
      t.f SAFE_SSM_STAT_SEQ = k.seq ∧ t.safe.xrun = (if s.crossCheck.2.2 then s.safe.xrun + 1 else 0) ∧ t.safe.cycled = false ∧
      t.rdN SAFE_SSM_CYCMAX = max (s.rdN SAFE_SSM_CYCMAX) (min n 4294967295) ∧
      t.rdN SAFE_SSM_CNT_XCMP = (if s.crossCheck.2.2 then min (s.rdN SAFE_SSM_CNT_XCMP + 1) 4294967295 else s.rdN SAFE_SSM_CNT_XCMP) ∧
      t = { s with safe := t.safe, regs := t.regs }) ∧
  (∀ (s : State) (us : Nat), (s.monSet.1.nxcmp ≤ s.safe.xrun ∧ s.safe.xtold = false) ∨ 50 < us →
    ∃ t, exec (.ssmXcmp us) s = .next t ∧ t.f SAFE_SSM_STAT_XCMP = 1 ∧ t.safe.xtold = true ∧ s.wentOff t s.armGroups 11 ∧
      s.raisedOne t (0x100 + s.crossCheck.2.1) 0x43 cCRITICAL ∧ s.keeps t (SAFE_SSM_STAT :: s.offRegs) ∧ s.offFrame t) ∧
  (∀ (s : State) (us : Nat), s.safe.xrun < s.monSet.1.nxcmp ∨ s.safe.xtold = true → us ≤ 50 → exec (.ssmXcmp us) s = .next s) ∧
  (∀ (s u : State) (n : Fin 8) (m : Nat) (x : ScanSrc), u = s.runTo m → u.monSet.1.sources.find? (fun (y : ScanSrc) => y.num == n.val) = some x →
    u.ssmRuns = true → (u.safe.sources.get n).lost = false → State.srcGone x (u.safe.sources.get n).new u.time.mono = true →
    ∃ t, exec (.ssmScanLost n m) s = .next t ∧ (t.safe.sources.get n).lost = true ∧ (t.f SAFE_SSM_SCAN_LOST).testBit n = true ∧
      (∀ c : Fin 2, (t.chan c).viol = (u.chan c).viol ||| (x.cover % 4096)) ∧
      (∀ g : Fin 4, (u.safGroup g).arms &&& x.cover ≠ 0 → (t.group 0 g).state = 0 ∧ (t.group 1 g).state = 0) ∧
      (∀ g : Fin 4, (u.safGroup g).arms &&& x.cover = 0 → t.group 0 g = u.group 0 g ∧ t.group 1 g = u.group 1 g) ∧
      (∃ f fs, t.flt.path = u.flt.path ++ f :: fs ∧ f.source = 0x140 + n.val ∧ f.kind = 0x42 ∧ f.cls = cMAJOR) ∧
      u.keeps t ([SAFE_SSM_SCAN, SAFE_SSM_VIOL, SAFE_SSM_CNT_VIOL] ++ u.offRegs) ∧ u.offFrame t) ∧
  (∀ (s u : State) (n : Fin 8) (m : Nat), u = s.runTo m → u.ssmRuns = false ∨ (u.safe.sources.get n).lost = true ∨
    (∀ x, u.monSet.1.sources.find? (fun (y : ScanSrc) => y.num == n.val) = some x → State.srcGone x (u.safe.sources.get n).new u.time.mono = false) →
    exec (.ssmScanLost n m) s = .next u) ∧
  (∀ (x : ScanSrc) (p : ScanPay) (now : Nat), (State.srcGone x none now = true) ∧
    (State.srcGone x (some p) now = true ↔ p.ok = false ∨ p.at_ + x.wd * 800000 ≤ now)) ∧
  (∀ (s : State) (a : Fin 12), ∃ t, exec (.violationLatchClear a) s = .next t ∧
    (∀ c : Fin 2, (t.chan c).viol = (if (s.chan c).viol.testBit a = true ∧ s.monSet.1.nrst ≤ (s.chan c).clear.getD a 0
      then (s.chan c).viol - 2 ^ a.val else (s.chan c).viol)) ∧
    t.f SAFE_SSM_VIOL_VIOL = ((t.chan 0).viol ||| (t.chan 1).viol) % 4096 ∧ s.keeps t [SAFE_SSM_VIOL] ∧ t = { s with safe := t.safe, regs := t.regs }) ∧
  (∀ s : State, 3 ≤ s.safe.same → s.safe.staleTold = false → s.onGrid Config.msUnits = true → ∃ t, exec .ssmCapStale s = .next t ∧
    (∀ c : Fin 12, s.f (CL_PSO_VPATH_V_PATH c) ≠ 0 → t.f (CL_PSO_CAP_S_CAP c) = 0 ∧ t.f (CL_PSO_CAP_STALE c) = 1) ∧
    t.safe.staleTold = true ∧ s.raisedOne t 0x150 0x44 cMAJOR ∧ s.keeps t ((List.range 12).map CL_PSO_CAP) ∧
    t = { s with safe := t.safe, flt := t.flt, regs := t.regs }) ∧
  (∀ s : State, s.safe.same < 3 ∨ s.safe.staleTold = true ∨ s.onGrid Config.msUnits = false → exec .ssmCapStale s = .next s)

/-- The STO groups. The exchange that is due times a difference of the channels or of what they send, and judges each door's unlock permit. A difference that persists
sets XCMP, a clock out of bounds or a missing exchange CLK, a frame that is t_SFWD old FRAME; each takes every group to OFF and is
raised. A newer frame to a die applies the channel's commands; one from a die brings inputs and readbacks, and an output that is off by itself takes
its group to OFF. A restart with the key and every condition met starts the group; an unmet one refuses it and shows the conditions; the falling edge of the input after 0.1 to 5 s qualifies one, or asks for it. A
group not started in t_START, or whose SS1 time has passed, is OFF. A tested output that stays on is stuck. Else nothing changes.
The model's choices that clauses of it rest on are log 86, 95, 96, 248, 249. -/
def Obligations.StoGroupsRun : Prop :=
  (∀ (s u : State) (p m : Nat), u = s.runTo m → u.mode = mRESET ∨ safePast u.safe.exchAt 10 u.time.mono = false → exec (.channelExchange p m) s = .next u) ∧
  (∀ (s u : State) (p m : Nat), u = s.runTo m → u.mode ≠ mRESET → safePast u.safe.exchAt 10 u.time.mono = true →
    ∃ t, exec (.channelExchange p m) s = .next t ∧ t.safe.exchAt = u.time.mono ∧
      (p = 0 → (∀ g : Fin 4, (u.group 0 g).state = (u.group 1 g).state) → t.safe.diff = none ∧
        t.rdN SAFE_CNT_XCMP = (if u.safe.diff.isSome then min (u.rdN SAFE_CNT_XCMP + 1) 4294967295 else u.rdN SAFE_CNT_XCMP)) ∧
      (p ≠ 0 ∨ (∃ g : Fin 4, (u.group 0 g).state ≠ (u.group 1 g).state) → t.safe.diff = some (u.safe.diff.getD u.time.mono) ∧
        t.rdN SAFE_CNT_XCMP = u.rdN SAFE_CNT_XCMP) ∧
      (∀ d : Fin 8, (t.f DOOR_STAT_PERMIT).testBit d = (u.doorHere d && (u.doors.get d).request &&
        (List.finRange 4).all (fun g => !(u.f (DOOR_CFG_GROUPS d)).testBit g || u.confirmed g))) ∧
      u.keeps t [SAFE_CNT_XCMP, DOOR_STAT] ∧ t = { u with safe := t.safe, regs := t.regs }) ∧
  (∀ (s u : State) (f w m : Nat), u = s.runTo m → u.safe.diff.isSome = true →
    ∃ t, exec (.safeXcmp f w m) s = .next t ∧ t.f SAFE_STAT_XCMP = 1 ∧ t.safe.diff = none ∧ u.wentOff t 15 11 ∧ u.raisedOne t 0x150 0x4E cCRITICAL ∧
      u.keeps t (SAFE_STAT :: u.offRegs) ∧ u.offFrame t) ∧
  (∀ (s : State) (f w m : Nat), s.safe.diff = none → exec (.safeXcmp f w m) s = .next (s.runTo m)) ∧
  (∀ (s u : State) (c : Fin 2) (ppm : Int) (m : Nat), u = s.runTo m → u.mode ≠ mRESET → 20000 < ppm.natAbs ∨ u.safe.exchAt + 8001 < u.time.mono →
    ∃ t, exec (.safeClk c ppm m) s = .next t ∧ t.f SAFE_STAT_CLK = 1 ∧ u.wentOff t 15 11 ∧ u.raisedOne t (0x150 + c) 0x4F cCRITICAL ∧
      u.keeps t (SAFE_STAT :: u.offRegs) ∧ u.offFrame t) ∧
  (∀ (s u : State) (c : Fin 2) (ppm : Int) (m : Nat), u = s.runTo m → u.mode = mRESET ∨ (ppm.natAbs ≤ 20000 ∧ u.time.mono ≤ u.safe.exchAt + 8001) →
    exec (.safeClk c ppm m) s = .next u) ∧
  (∀ (s u : State) (d : Fin 2) (q i r m : Nat), u = s.runTo m → u.mode = mRESET ∨ State.newerSeq (u.safe.dies.get d).seqDie q = false →
    exec (.safetyFrame d true q i r m) s = .next u) ∧
  (∀ (s u : State) (d : Fin 2) (q i r m : Nat), u = s.runTo m → u.mode ≠ mRESET → State.newerSeq (u.safe.dies.get d).seqDie q = true →
    ∃ t, exec (.safetyFrame d true q i r m) s = .next t ∧ (t.safe.dies.get d).applied = u.commanded d ∧
      (t.safe.dies.get d).permits = (u.chan d).permits &&& u.f DOOR_STAT_PERMIT ∧ (t.safe.dies.get d).toDie = u.time.mono ∧
      (t.safe.dies.get d).seqDie = some (q % 65536) ∧ (∀ e, e ≠ d → t.safe.dies.get e = u.safe.dies.get e) ∧ t = { u with safe := t.safe }) ∧
  (∀ (s u : State) (d : Fin 2) (q i r m : Nat), u = s.runTo m → u.mode = mRESET ∨ State.newerSeq (u.safe.dies.get d).seqChan q = false ∨
    (u.fio.dies.get d).spoilt = true → exec (.safetyFrame d false q i r m) s = .next u) ∧
  (∀ (s u : State) (d : Fin 2) (q i r m : Nat), u = s.runTo m → u.mode ≠ mRESET → State.newerSeq (u.safe.dies.get d).seqChan q = true →
    (u.fio.dies.get d).spoilt = false →
    ∃ t, exec (.safetyFrame d false q i r m) s = .next t ∧ (t.safe.dies.get d).rb = r % 16 ∧
      (t.safe.dies.get d).inputs = i % 4294967296 ∧ (t.safe.dies.get d).toChan = u.time.mono ∧ (t.safe.dies.get d).seqChan = some (q % 65536) ∧
      (t.f SAFE_STAT_FRAME).testBit d = false ∧
      (∀ g : Fin 4, (u.safe.dies.get d).applied.testBit g = true → (u.commanded d).testBit g = true → r.testBit g = false →
        (t.group 0 g).state = 0 ∧ (t.group 1 g).state = 0) ∧
      (∀ g : Fin 4, (u.safe.dies.get d).applied.testBit g = false ∨ (u.commanded d).testBit g = false ∨ r.testBit g = true →
        t.group 0 g = u.group 0 g ∧ t.group 1 g = u.group 1 g) ∧ u.keeps t (SAFE_STAT :: u.offRegs) ∧ u.offFrame t) ∧
  (∀ (s u : State) (d : Fin 2) (m : Nat), u = s.runTo m → u.mode ≠ mRESET → (u.safe.dies.get d).toChan + 16000 < u.time.mono →
    (u.f SAFE_STAT_FRAME).testBit d = false →
    ∃ t, exec (.safeFrame d false m) s = .next t ∧ (t.f SAFE_STAT_FRAME).testBit d = true ∧ (t.safe.dies.get d).inputs = 0 ∧ u.wentOff t 15 11 ∧
      u.raisedOne t (0x150 + d) 0x4D cCRITICAL ∧ u.keeps t (SAFE_STAT :: u.offRegs) ∧ u.offFrame t) ∧
  (∀ (s u : State) (d : Fin 2) (m : Nat), u = s.runTo m → u.mode = mRESET ∨ u.time.mono ≤ (u.safe.dies.get d).toChan + 16000 ∨
    (u.f SAFE_STAT_FRAME).testBit d = true → exec (.safeFrame d false m) s = .next u) ∧
  (∀ (s u : State) (d : Fin 2) (m : Nat), u = s.runTo m → (u.safe.dies.get d).toDie + 16000 < u.time.mono →
    ∃ t, exec (.safeFrame d true m) s = .next t ∧ (t.safe.dies.get d).cut = true ∧ (t.safe.dies.get d).permits = 0 ∧
      (∀ e, e ≠ d → t.safe.dies.get e = u.safe.dies.get e) ∧ t = { u with safe := t.safe }) ∧
  (∀ (s u : State) (d : Fin 2) (m : Nat), u = s.runTo m → u.time.mono ≤ (u.safe.dies.get d).toDie + 16000 → exec (.safeFrame d true m) s = .next u) ∧
  (∀ (s : State) (g k : Nat), s.mapOpen = false ∨ k ≠ 0x5354 → exec (.stoRestartRequest g k) s = .next s) ∧
  (∀ (s : State) (m : Nat), s.mapOpen = true → exec (.stoRestartRequest m 0x5354) s =
    .next ((List.finRange 4).foldl (fun (s : State) (g : Fin 4) => if m.testBit g then s.restart g else s) s)) ∧
  (∀ (s : State) (g : Fin 4), (s.safGroup g).used = false ∨ (s.group 0 g).state ≠ 0 ∨ (s.group 1 g).state ≠ 0 → s.restart g = s) ∧
  (∀ (s : State) (g : Fin 4), (s.safGroup g).used = true → (s.group 0 g).state = 0 → (s.group 1 g).state = 0 → s.unmet g s.time.mono = (0, 0) →
    (∀ k ∈ s.safe.conns, k.at_ ≤ s.time.mono) →
    ∃ t, s.restart g = t ∧
      (∀ c : Fin 2, (t.group c g).state = (if (s.safGroup g).conns = [] then 2 else 1) ∧ (t.group c g).startAt = s.time.mono ∧
        (t.group c g).startEnd = s.time.mono + (s.safGroup g).tstart * 800000) ∧
      (∀ h, h ≠ g → t.group 0 h = s.group 0 h ∧ t.group 1 h = s.group 1 h) ∧
      t.f (SAFE_STO_STAT_COND g) = 0 ∧ t.f (SAFE_STO_STAT_STATE g) = (if (s.safGroup g).conns = [] then 2 else 1) ∧ t.rd (SAFE_STO_XCOND g) = 0) ∧
  (∀ (s : State) (g : Fin 4), (s.safGroup g).used = true → (s.group 0 g).state = 0 → (s.group 1 g).state = 0 → s.unmet g s.time.mono ≠ (0, 0) →
    ∃ t, s.restart g = t ∧ t.f (SAFE_STO_STAT_REQ_REFUSED g) = 1 ∧
      t.f (SAFE_STO_STAT_COND g) = (s.unmet g s.time.mono).1 % 256 ∧ s.keeps t [SAFE_STO_STAT g, SAFE_STO_XCOND g] ∧
      t = { s with time := { s.time with hits := t.time.hits }, regs := t.regs }) ∧
  (∀ (s u : State) (g : Fin 4) (l : Bool) (m : Nat), u = s.runTo m → (u.safGroup g).restart = 0 → exec (.restartInput g l m) s = .next u) ∧
  (∀ (s u : State) (g : Fin 4) (m : Nat), u = s.runTo m → (u.safGroup g).restart ≠ 0 →
    ∃ t, exec (.restartInput g true m) s = .next t ∧ t.safe.rise.get g = some ((u.safe.rise.get g).getD u.time.mono) ∧ t = { u with safe := t.safe }) ∧
  (∀ (s u : State) (g : Fin 4) (m : Nat), u = s.runTo m → u.safe.rise.get g = none → exec (.restartInput g false m) s = .next u) ∧
  (∀ (s u : State) (g : Fin 4) (m r : Nat), u = s.runTo m → (u.safGroup g).restart ≠ 0 → u.safe.rise.get g = some r →
    u.time.mono - r < 80000000 ∨ 4000000000 < u.time.mono - r →
    ∃ t, exec (.restartInput g false m) s = .next t ∧ t.safe.rise.get g = none ∧ t.safe.fall = u.safe.fall ∧ t = { u with safe := t.safe }) ∧
  (∀ (s u : State) (g : Fin 4) (m r : Nat), u = s.runTo m → (u.safGroup g).restart ≠ 0 → u.safe.rise.get g = some r → 80000000 ≤ u.time.mono - r →
    u.time.mono - r ≤ 4000000000 →
    ∃ t, exec (.restartInput g false m) s = .next (if (u.safGroup g).restart = 1 then t.restart g else t) ∧ t.safe.fall.get g = some u.time.mono ∧
      t.safe.rise.get g = none ∧ t = { u with safe := t.safe } ∧ t.safe.chans = u.safe.chans) ∧
  (∀ (s u : State) (g : Fin 4) (m : Nat), u = s.runTo m → (∃ c : Fin 2, (u.group c g).state = 1 ∧ (u.group c g).startEnd ≤ u.time.mono) →
    ∃ t, exec (.safeStartFail g m) s = .next t ∧ u.wentOff t (2 ^ g.val) 9 ∧ u.raisedOne t (0x110 + g) 0x4C cMINOR ∧
      u.keeps t u.offRegs ∧ u.offFrame t) ∧
  (∀ (s u : State) (g : Fin 4) (m : Nat), u = s.runTo m → (∀ c : Fin 2, (u.group c g).state ≠ 1 ∨ u.time.mono < (u.group c g).startEnd) →
    exec (.safeStartFail g m) s = .next u) ∧
  (∀ (s u : State) (g : Fin 4) (m : Nat), u = s.runTo m →
    ∃ v, exec (.ss1Expire g m) s = .next (v.safeHoldCheck 255) ∧
      (∀ c : Fin 2, (u.group c g).state = 3 → (u.group c g).ss1End ≤ u.time.mono → (v.group c g).state = 0) ∧
      (∀ c : Fin 2, (u.group c g).state ≠ 3 ∨ u.time.mono < (u.group c g).ss1End → v.group c g = u.group c g) ∧
      (∀ h, h ≠ g → v.group 0 h = u.group 0 h ∧ v.group 1 h = u.group 1 h) ∧
      v.f (SAFE_STO_STAT_CAUSE g) = u.f (SAFE_STO_STAT_CAUSE g) ∧ v.flt = u.flt ∧ u.keeps v u.offRegs ∧ u.offFrame v) ∧
  (∀ v : State, v.mode ≠ mRUN → v.mode ≠ mCOMMISSION → v.safeHoldCheck 255 = v) ∧
  (∀ (v : State) (g : Fin 4), v.armGroups.testBit g = true → v.f (SAFE_STO_STAT_STATE g) ≠ 0 ∨
    (∀ e ∈ v.flt.entries, e.level < 2 ∨ e.scope.testBit g = false) → v.safeHoldCheck 255 = v) ∧
  (∀ v : State, v.mode = mRUN ∨ v.mode = mCOMMISSION → v.armGroups ≠ 0 →
    (∀ g : Fin 4, v.armGroups.testBit g = true → v.f (SAFE_STO_STAT_STATE g) = 0 ∧ ∃ e ∈ v.flt.entries, 2 ≤ e.level ∧ e.scope.testBit g = true) →
    (v.safeHoldCheck 255).mode = mSAFE_HOLD) ∧
  (∀ (s : State) (side : Fin 2) (g : Fin 4) (own other : Fin 8), own.val = 4 * side.val + g.val → other.val = 4 * (1 - side.val) + g.val →
    ((s.group side g).state = 0 ∨ s.safe.pulses.testBit own = true ∨ s.safe.pulses.testBit other = true ∨
      (∃ k, s.safe.pulseAt.get own = some k ∧ safePast k 500000 s.time.mono = false) ∨
      (∃ k, s.safe.pulseAt.get other = some k ∧ safePast k 250000 s.time.mono = false) → exec (.outputTestPulse side g) s = .next s) ∧
    ((s.group side g).state ≠ 0 → s.safe.pulses.testBit own = false → s.safe.pulses.testBit other = false →
      (∀ k, s.safe.pulseAt.get own = some k → safePast k 500000 s.time.mono = true) →
      (∀ k, s.safe.pulseAt.get other = some k → safePast k 250000 s.time.mono = true) →
      ∃ t, exec (.outputTestPulse side g) s = .next t ∧ t.safe.pulses = s.safe.pulses ||| 2 ^ own.val ∧ t.safe.pulseAt.get own = some s.time.mono ∧
        t = { s with safe := t.safe })) ∧
  (∀ (s : State) (side : Fin 2) (g : Fin 4) (own : Fin 8) (early : Bool), own.val = 4 * side.val + g.val →
    (early = true ↔ s.safe.pulses.testBit own = true ∧ ∃ k, s.safe.pulseAt.get own = some k ∧ safePast k 100 s.time.mono = false) →
    (early = true → (s.group side g).state ≠ 0 → exec (.outputTestEnd side g) s = .next s) ∧
    (early = false ∨ (s.group side g).state = 0 →
      (s.safe.pulses.testBit own = true → (s.safe.dies.get side).rb.testBit g = false →
        ∃ t, exec (.outputTestEnd side g) s = .next t ∧ t.safe.pulses = s.safe.pulses - 2 ^ own.val ∧ t = { s with safe := t.safe }) ∧
      (s.safe.pulses.testBit own = false → (s.group side g).state ≠ 0 ∨ (s.safe.dies.get side).rb.testBit g = false → exec (.outputTestEnd side g) s = .next s) ∧
      (s.safe.pulses.testBit own = true ∨ (s.group side g).state = 0 → (s.safe.dies.get side).rb.testBit g = true →
        ∃ t, exec (.outputTestEnd side g) s = .next t ∧ t.f (if side = 0 then SAFE_STO_STAT_STUCK_A g else SAFE_STO_STAT_STUCK_B g) = 1 ∧
          s.wentOff t (2 ^ g.val) 5 ∧ s.raisedOne t (0x110 + g) 0x4A cCRITICAL ∧ s.keeps t s.offRegs ∧ s.offFrame t)))

/-- Safety data. A telegram with the right check value, length, step and command is taken: its connection holds its sequence, time and
status, and is not lost; one of an unknown connection or with any of them wrong is counted. OFF from the drives of a group in ON takes the group to OFF; a valid scanner payload becomes the newest of its source. A connection without a telegram for its watchdog time is
lost and its group OFF. A discrepancy of t_DISC holds the pair at demand. A test pulse that is due holds the inputs' levels and ends with its
check, which counts mismatches and, at the second in a row, holds the pair. Switch codes are kept by three; a stable code that differs from the one in use takes every group to
OFF; so does a disagreement of 3 ms. Else nothing changes.
The model's choices that clauses of it rest on are log 96, 97, 98, 99, 100, 249. -/
def Obligations.SafetyDataRuns : Prop :=
  (∀ (s u : State) (bs : List Byte) (m : Nat), u = s.runTo m → u.safConn? (leNat (bs.take 2)) = none →
    ∃ t, exec (.safeTelegramRx bs m) s = .next t ∧ t.rdN SAFE_CNT_TG = min (u.rdN SAFE_CNT_TG + 1) 4294967295 ∧ u.keeps t [SAFE_CNT_TG] ∧
      t = { u with regs := t.regs }) ∧
  (∀ (s u : State) (bs : List Byte) (m len seq : Nat) (d : SafConn), u = s.runTo m → u.safConn? (leNat (bs.take 2)) = some d →
    len = leNat ((bs.drop 2).take 2) → seq = leNat ((bs.drop 4).take 4) →
    (bs.length ≠ 12 + len ∨ leNat ((bs.drop (8 + len)).take 4) ≠ crc32 (natLE 4 u.safe.sid ++ bs.take (8 + len)) ∨ len ≠ d.len ∨
      (d.sto = true ∧ leNat (((bs.drop 8).take len).take 1) ≠ 0xC3 ∧ leNat (((bs.drop 8).take len).take 1) ≠ 0x3C) ∨
      (∃ k q, u.conn? (leNat (bs.take 2)) = some k ∧ k.seq = some q ∧ k.lost = false ∧
        ((seq + 4294967296 - q) % 4294967296 = 0 ∨ 3 < (seq + 4294967296 - q) % 4294967296))) →
    ∃ t, exec (.safeTelegramRx bs m) s = .next t ∧ t.rdN SAFE_CNT_TG = min (u.rdN SAFE_CNT_TG + 1) 4294967295 ∧ u.keeps t [SAFE_CNT_TG] ∧
      t = { u with regs := t.regs }) ∧
  (∀ (s u : State) (d : SafConn) (k : ConnSt) (seq m : Nat) (pay : List Byte), u = s.runTo m → u.safConn? d.num = some d → d.num < 65536 → d.len < 65536 →
    pay.length = d.len → seq < 4294967296 → u.conn? d.num = some k →
    (∀ q, k.seq = some q → k.lost = true ∨ (1 ≤ (seq + 4294967296 - q) % 4294967296 ∧ (seq + 4294967296 - q) % 4294967296 ≤ 3)) →
    (d.sto = true → leNat (pay.take 1) = 0xC3 ∨ leNat (pay.take 1) = 0x3C) →
    exec (.safeTelegramRx (State.telegram u.safe.sid d.num seq pay) m) s = .next (u.takeTelegram d seq pay)) ∧
  (∀ (u : State) (d : SafConn) (k : ConnSt) (g : Fin 4) (seq : Nat) (pay : List Byte), u.conn? d.num = some k → d.num < 256 → d.sto = true → d.group = g.val →
    leNat (pay.take 1) = 0xC3 ∨ u.shownGroup g ≠ 2 →
    ∃ t, u.takeTelegram d seq pay = t ∧
      t.conn? d.num = some { k with seq := some seq, at_ := u.time.mono, lost := false, status := leNat (pay.take 1) } ∧
      (t.rdN (SAFE_CONN_LOST (d.num / 32))).testBit (d.num % 32) = false ∧ u.keeps t [SAFE_STO_STAT g, SAFE_CONN_LOST (d.num / 32)] ∧
      t = { u with safe := t.safe, flt := t.flt, regs := t.regs }) ∧
  (∀ (u : State) (d : SafConn) (k : ConnSt) (g : Fin 4) (seq : Nat) (pay : List Byte), u.conn? d.num = some k → d.num < 256 → d.sto = true → d.group = g.val →
    leNat (pay.take 1) = 0x3C → u.shownGroup g = 2 →
    ∃ t, u.takeTelegram d seq pay = t ∧
      t.conn? d.num = some { k with seq := some seq, at_ := u.time.mono, lost := false, status := 0x3C } ∧ u.wentOff t (2 ^ g.val) 8 ∧
      (t.rdN (SAFE_CONN_LOST (d.num / 32))).testBit (d.num % 32) = false ∧ u.keeps t (SAFE_CONN_LOST (d.num / 32) :: u.offRegs) ∧ u.offFrame t) ∧
  (∀ (u : State) (d : SafConn) (k : ConnSt) (x : ScanSrc) (n : Fin 8) (seq : Nat) (pay : List Byte), u.conn? d.num = some k → d.num < 256 → d.sto = false →
    u.safSet.sources.find? (fun (y : ScanSrc) => y.conn == d.num) = some x → x.num = n.val →
    ∃ t, u.takeTelegram d seq pay = t ∧ t.conn? d.num = some { k with seq := some seq, at_ := u.time.mono, lost := false } ∧
      (∀ ok tr, State.scanPayload x.count pay = some (ok, tr) → (t.safe.sources.get n).new = some ⟨u.time.mono, ok, tr⟩) ∧
      (State.scanPayload x.count pay = none → t.safe.sources = u.safe.sources) ∧ u.keeps t [SAFE_CONN_LOST (d.num / 32)] ∧
      t = { u with safe := t.safe, flt := t.flt, regs := t.regs }) ∧
  (∀ (s u : State) (d : SafConn) (k : ConnSt) (g : Fin 4) (n m : Nat), u = s.runTo m → u.safConn? n = some d → u.conn? n = some k → d.sto = true → d.group = g.val →
    n < 256 → k.lost = false → k.at_ + 800 * d.wd ≤ u.time.mono →
    ∃ t, exec (.safeConnLost n m) s = .next t ∧ t.conn? n = some { k with lost := true } ∧
      (t.rdN (SAFE_CONN_LOST (n / 32))).testBit (n % 32) = true ∧ u.wentOff t (2 ^ g.val) 4 ∧
      u.raisedOne t (0x110 + g) 0x4B cMAJOR ∧ u.keeps t (SAFE_CONN_LOST (n / 32) :: u.offRegs) ∧ u.offFrame t) ∧
  (∀ (s u : State) (d : SafConn) (k : ConnSt) (n m : Nat), u = s.runTo m → u.safConn? n = some d → u.conn? n = some k → d.sto = false ∨ 4 ≤ d.group →
    n < 256 → k.lost = false → k.at_ + 800 * d.wd ≤ u.time.mono →
    ∃ t, exec (.safeConnLost n m) s = .next t ∧ t.conn? n = some { k with lost := true } ∧
      (t.rdN (SAFE_CONN_LOST (n / 32))).testBit (n % 32) = true ∧ u.raisedOne t (u.connSource d) 0x4B cMAJOR ∧
      u.keeps t [SAFE_CONN_LOST (n / 32)] ∧ t = { u with safe := t.safe, flt := t.flt, regs := t.regs }) ∧
  (∀ (s u : State) (n m : Nat), u = s.runTo m →
    (∀ d k, u.safConn? n = some d → u.conn? n = some k → k.lost = true ∨ u.time.mono < k.at_ + 800 * d.wd) → exec (.safeConnLost n m) s = .next u) ∧
  (∀ (s u : State) (p : Fin 32) (d : SafPair) (m k : Nat), u = s.runTo m → u.safPair? p = some d → (u.safe.pairs.get p).disc = some k →
    (u.safe.pairs.get p).held = false → k + d.disc * 800000 < u.time.mono →
    ∃ t, exec (.safeInDisc p m) s = .next t ∧ (t.safe.pairs.get p).held = true ∧ (t.safe.pairs.get p).released = false ∧
      (t.rdN SAFE_SI_REL).testBit p = false ∧ (t.rdN SAFE_SI_FLT).testBit p = true ∧ u.raisedOne t (0x120 + p) 0x48 cMAJOR ∧
      (∀ q, q ≠ p → t.safe.pairs.get q = u.safe.pairs.get q) ∧ u.keeps t [SAFE_SI_REL, SAFE_SI_FLT] ∧
      t = { u with safe := t.safe, flt := t.flt, regs := t.regs }) ∧
  (∀ (s u : State) (p : Fin 32) (m : Nat), u = s.runTo m → (u.safe.pairs.get p).held = true ∨
    (∀ d k, u.safPair? p = some d → (u.safe.pairs.get p).disc = some k → u.time.mono ≤ k + d.disc * 800000) → exec (.safeInDisc p m) s = .next u) ∧
  (∀ (s u : State) (k : Fin 4) (m : Nat), u = s.runTo m → u.tpOn k = true → (u.safe.tps.get k).active = false → safePast (u.safe.tps.get k).next 0 u.time.mono = true →
    ∃ t, exec (.testPulseStart k m) s = .next t ∧ (t.safe.tps.get k).active = true ∧ (t.safe.tps.get k).stop = u.time.mono + 800 * u.safSet.ttpw ∧
      (∀ i, i < 64 → (t.safe.tps.get k).snap.testBit i = u.effIn i) ∧ (t.f SAFE_TP_STAT_RUN).testBit k = true ∧
      (∀ j, j ≠ k → t.safe.tps.get j = u.safe.tps.get j) ∧ u.keeps t [SAFE_TP_STAT] ∧ t = { u with safe := t.safe, regs := t.regs }) ∧
  (∀ (s u : State) (k : Fin 4) (m : Nat), u = s.runTo m → u.tpOn k = true → (u.safe.tps.get k).active = true ∨ safePast (u.safe.tps.get k).next 0 u.time.mono = false →
    exec (.testPulseStart k m) s = .next u) ∧
  (∀ (s u : State) (k : Fin 4) (m : Nat), u = s.runTo m → u.tpOn k = false → ∃ t, exec (.testPulseStart k m) s = .next t ∧
    (t.f SAFE_TP_STAT_RUN).testBit k = false ∧ u.keeps t [SAFE_TP_STAT] ∧ t = { u with regs := t.regs }) ∧
  (∀ (s u : State) (k : Fin 4) (m : Nat), u = s.runTo m → (u.safe.tps.get k).active = false ∨ u.time.mono + 800 < (u.safe.tps.get k).stop →
    exec (.testPulseCheck k m) s = .next u) ∧
  (∀ (s u : State) (k : Fin 4) (m : Nat) (bad : List Nat), u = s.runTo m → (u.safe.tps.get k).active = true → (u.safe.tps.get k).stop ≤ u.time.mono + 800 →
    bad = (u.safeInputs.filter (fun i => (u.supplyOf i).isSome)).filter (fun i => u.pulseBad k i) →
    ∃ v, exec (.testPulseCheck k m) s =
        .next ((bad.filter (fun i => (u.safe.tps.get k).mism.testBit i)).foldl (fun (w : State) i => w.inShort k i) v) ∧
      (v.safe.tps.get k).active = false ∧ (v.safe.tps.get k).holdEnd = u.time.mono + 8000 ∧
      v.rdN SAFE_CNT_MISM = min (u.rdN SAFE_CNT_MISM + bad.length) 4294967295 ∧ (∀ i, (v.safe.tps.get k).mism.testBit i = decide (i ∈ bad)) ∧
      (∀ p, (v.safe.pairs.get p).held = (u.safe.pairs.get p).held) ∧ u.keeps v [SAFE_CNT_MISM] ∧ v = { u with safe := v.safe, regs := v.regs }) ∧
  (∀ (v : State) (k : Fin 4) (i : Nat) (d : SafPair) (p : Fin 32), v.safSet.pairs.find? (fun (x : SafPair) => x.in1 == i || x.in2 == i) = some d → d.num = p.val →
    ∃ t, v.inShort k i = t ∧ (t.safe.pairs.get p).held = true ∧ (t.safe.pairs.get p).short = true ∧ (t.safe.pairs.get p).released = false ∧
      (t.rdN SAFE_SI_REL).testBit p = false ∧ (t.rdN SAFE_SI_FLT).testBit p = true ∧ t.f SAFE_TP_STAT_INPUT = i % 64 ∧
      (t.f SAFE_TP_STAT_SHORT).testBit ((v.supplyOf i).getD k) = true ∧ v.raisedOne t (0x120 + p) 0x49 cMAJOR ∧
      (∀ q, q ≠ p → t.safe.pairs.get q = v.safe.pairs.get q) ∧ v.keeps t [SAFE_SI_REL, SAFE_SI_FLT, SAFE_TP_STAT] ∧
      t = { v with safe := t.safe, flt := t.flt, regs := t.regs }) ∧
  (∀ (s u : State) (a b : Fin 65536) (m : Nat), u = s.runTo m → u.mode = mRESET ∨ (∃ r, u.safe.readAt = some r ∧ safePast r 1000 u.time.mono = false) →
    exec (.safecfgRead a b m) s = .next u) ∧
  (∀ (s u : State) (a b : Fin 65536) (m : Nat), u = s.runTo m → u.mode ≠ mRESET → (∀ r, u.safe.readAt = some r → safePast r 1000 u.time.mono = true) →
    ∃ t, exec (.safecfgRead a b m) s = .next t ∧ t.safe.readAt = some u.time.mono ∧
      (t.chan 0).codes = ((u.chan 0).codes ++ [a.val]).drop ((u.chan 0).codes.length - 2) ∧
      (t.chan 1).codes = ((u.chan 1).codes ++ [b.val]).drop ((u.chan 1).codes.length - 2) ∧
      t.safe.codeDiff = (if a = b then none else some (u.safe.codeDiff.getD u.time.mono)) ∧
      u.keeps t (SAFE_STAT :: SAFE_CFG_CODE :: u.offRegs) ∧ u.offFrame t) ∧
  (∀ (s u : State) (c : Fin 65536) (m x y : Nat), u = s.runTo m → u.mode ≠ mRESET → (∀ r, u.safe.readAt = some r → safePast r 1000 u.time.mono = true) →
    u.safe.loaded = true → c.val ≠ u.safe.code → u.swapArmed = false → x ≠ c.val → y ≠ c.val →
    (u.chan 0).codes = [x, c.val, c.val] → (u.chan 1).codes = [y, c.val, c.val] →
    ∃ t, exec (.safecfgRead c c m) s = .next t ∧ t.f SAFE_STAT_CFG_CHANGED = 1 ∧ u.wentOff t 15 10 ∧ t.f SAFE_CFG_CODE_PRESENT = c.val ∧
      t.f SAFE_CFG_CODE_STABLE = 1 ∧ u.raisedOne t 0x150 0x50 cCRITICAL) ∧
  (∀ (s u : State) (m k : Nat), u = s.runTo m → u.safe.codeDiff = some k → k + 2400000 ≤ u.time.mono →
    ∃ t, exec (.safecfgXcmp m) s = .next t ∧ t.f SAFE_STAT_CFG_XCMP = 1 ∧ u.wentOff t 15 10 ∧ u.raisedOne t 0x150 0x51 cCRITICAL ∧
      u.keeps t (SAFE_STAT :: u.offRegs) ∧ u.offFrame t) ∧
  (∀ (s u : State) (m : Nat), u = s.runTo m → (∀ k, u.safe.codeDiff = some k → u.time.mono < k + 2400000) → exec (.safecfgXcmp m) s = .next u)

/-- Door commands. Without the map open, the key or the door nothing happens. In a mode that takes no door command the answer is MODE; in FAULT every command but ACK is answered FAULT, and one that the present state does not list
STATE. OPEN of a closed or halted door starts the opening stroke, or without torque of a closed one MANUAL; of a locked one it asks for the unlock permit, if every group in GROUPS is confirmed safe-off, else the answer is
INTERLOCK. CLOSE starts the closing stroke, or of an unreferenced drive the search, LOCK begins LOCKING with the bolt released, STOP stops a moving door and
halts it, LEARN arms both learning strokes, ACK leaves FAULT for the state that the inputs give once its cause is gone and judges the profile.
The model's choices that clauses of it rest on are log 101, 104. -/
def Obligations.DoorCommands : Prop :=
  let done := fun (s t : State) (d : Fin 8) (code : Nat) => t.f (DOOR_RES_CODE d) = code ∧ t.f (DOOR_RES_DONE d) = 1
  let only := fun (s t : State) (d : Fin 8) => s.keeps t [DOOR_RES d, DOOR_STATE d, DOOR_STAT, DOOR_PEAK d] ∧ (∀ e, e ≠ d → t.doors.get e = s.doors.get e) ∧
    t = { s with time := { s.time with hits := t.time.hits }, doors := t.doors, regs := t.regs }
  let answer := fun (s t : State) (d : Fin 8) (code : Nat) => done s t d code ∧ s.keeps t [DOOR_RES d] ∧
    t = { s with time := { s.time with hits := t.time.hits }, regs := t.regs }
  let here := fun (s : State) (d : Fin 8) => s.mapOpen = true ∧ s.doorHere d = true
  let may := fun (s : State) => s.mode = mCOMMISSION ∨ s.mode = mRUN ∨ s.mode = mCHANGEOVER ∨ s.mode = mSAFE_HOLD ∨ (s.mode = mFAULT ∧ s.flag SYS_MODE_HOLD = false)
  let cmds := fun (d : Fin 8) (k : Nat) => [Instr.doorOpen d k, .doorClose d k, .doorLock d k, .doorStop d k, .doorLearn d k]
  (∀ (s : State) (d : Fin 8) (k : Nat), s.mapOpen = false ∨ k ≠ 0x444F ∨ s.doorHere d = false →
    exec (.doorAck d k) s = .next s ∧ ∀ c ∈ cmds d k, exec c s = .next s) ∧
  (∀ (s : State) (d : Fin 8), here s d → ¬ may s →
    (∃ t, exec (.doorAck d 0x444F) s = .next t ∧ answer s t d drMODE) ∧ ∀ c ∈ cmds d 0x444F, ∃ t, exec c s = .next t ∧ answer s t d drMODE) ∧
  (∀ (s : State) (d : Fin 8), here s d → may s → s.doorState d = dFAULT →
    ∀ c ∈ cmds d 0x444F, ∃ t, exec c s = .next t ∧ answer s t d drFAULT) ∧
  (∀ (s : State) (d : Fin 8), here s d → may s → s.doorState d ≠ dFAULT →
    (s.referenced (s.doorAxis d) = false ∨
      (s.doorState d ≠ dLOCKED ∧ s.doorState d ≠ dCLOSED ∧ (s.doorState d ≠ dHALTED ∨ s.doorTorque d = false)) →
      ∃ t, exec (.doorOpen d 0x444F) s = .next t ∧ answer s t d drSTATE) ∧
    (s.doorTorque d = false ∨ (s.doorState d ≠ dOPEN ∧ s.doorState d ≠ dHALTED) → ∃ t, exec (.doorClose d 0x444F) s = .next t ∧ answer s t d drSTATE) ∧
    (s.doorState d ≠ dCLOSED → ∃ t, exec (.doorLock d 0x444F) s = .next t ∧ answer s t d drSTATE) ∧
    (s.doorState d ≠ dOPENING → s.doorState d ≠ dCLOSING → s.doorState d ≠ dREVERSING → ∃ t, exec (.doorStop d 0x444F) s = .next t ∧ answer s t d drSTATE) ∧
    (s.doorState d ≠ dOPEN → s.doorState d ≠ dCLOSED → s.doorState d ≠ dHALTED → ∃ t, exec (.doorLearn d 0x444F) s = .next t ∧ answer s t d drSTATE) ∧
    (∃ t, exec (.doorAck d 0x444F) s = .next t ∧ answer s t d drSTATE)) ∧
  (∀ (s : State) (d : Fin 8), here s d → may s → s.doorState d = dCLOSED ∨ s.doorState d = dHALTED → s.referenced (s.doorAxis d) = true →
    s.doorTorque d = true →
    ∃ t, exec (.doorOpen d 0x444F) s = .next t ∧ done s t d drOK ∧ t.doorState d = dOPENING ∧ (t.doors.get d).openFrom = s.time.mono ∧
      t.f (DOOR_STATE_MANUAL d) = 0 ∧ (s.doorState d = dCLOSED → (t.doors.get d).cyc = true) ∧
      (t.doors.get d).segs = [State.moveSeg (s.doorAxis d) kPOS (s.posOpen d * 4294967296) (s.doorDef d).openLim] ∧ only s t d) ∧
  (∀ (s : State) (d : Fin 8), here s d → may s → s.doorState d = dCLOSED → s.referenced (s.doorAxis d) = true → s.doorTorque d = false →
    ∃ t, exec (.doorOpen d 0x444F) s = .next t ∧ done s t d drOK ∧ t.doorState d = dCLOSED ∧ t.f (DOOR_STATE_MANUAL d) = 1 ∧
      (t.doors.get d).openFrom = s.time.mono ∧ only s t d) ∧
  (∀ (s : State) (d : Fin 8), here s d → may s → s.doorState d = dLOCKED → s.referenced (s.doorAxis d) = true →
    (∀ g : Fin 4, (s.f (DOOR_CFG_GROUPS d)).testBit g = true → s.confirmed g = true) →
    ∃ t, exec (.doorOpen d 0x444F) s = .next t ∧ done s t d drOK ∧ t.doorState d = dUNLOCKING ∧ (t.doors.get d).request = true ∧
      (t.doors.get d).lockOut = true ∧ (t.doors.get d).since = some s.time.mono ∧ only s t d) ∧
  (∀ (s : State) (d : Fin 8) (g : Fin 4), here s d → may s → s.doorState d = dLOCKED → s.referenced (s.doorAxis d) = true →
    (s.f (DOOR_CFG_GROUPS d)).testBit g = true → s.confirmed g = false →
    ∃ t, exec (.doorOpen d 0x444F) s = .next t ∧ answer s t d drINTERLOCK) ∧
  (∀ (s : State) (d : Fin 8), here s d → may s → s.doorState d = dOPEN ∨ s.doorState d = dHALTED → s.doorTorque d = true →
    ∃ t, exec (.doorClose d 0x444F) s = .next t ∧ done s t d drOK ∧ t.doorState d = dCLOSING ∧ (t.doors.get d).closeFrom = some s.time.mono ∧
      (s.referenced (s.doorAxis d) = true →
        (t.doors.get d).segs = [State.moveSeg (s.doorAxis d) kPOS (s.posClosed d * 4294967296) (s.doorDef d).closeLim]) ∧
      (s.referenced (s.doorAxis d) = false → t.f (DOOR_STATE_SEARCH d) = 1 ∧
        (t.doors.get d).segs = [State.moveSeg (s.doorAxis d) kVEL (s.closing d * (s.doorDef d).refSpd) (s.doorDef d).closeLim]) ∧ only s t d) ∧
  (∀ (s : State) (d : Fin 8), here s d → may s → s.doorState d = dCLOSED →
    ∃ t, exec (.doorLock d 0x444F) s = .next t ∧ done s t d drOK ∧ t.doorState d = dLOCKING ∧ (t.doors.get d).request = false ∧
      (t.doors.get d).lockOut = false ∧ (t.doors.get d).since = some s.time.mono ∧ t.f (DOOR_STATE_MANUAL d) = 0 ∧ only s t d) ∧
  (∀ (s : State) (d : Fin 8), here s d → may s → s.doorState d = dOPENING ∨ s.doorState d = dCLOSING ∨ s.doorState d = dREVERSING →
    ∃ t, exec (.doorStop d 0x444F) s = .next t ∧ done s t d drOK ∧ t.doorState d = dHALTED ∧ t.f (DOOR_STATE_SEARCH d) = 0 ∧
      (t.doors.get d).segs = [Segment.stop (s.doorAxis d)] ∧ only s t d) ∧
  (∀ (s : State) (d : Fin 8), here s d → may s → s.doorState d = dOPEN ∨ s.doorState d = dCLOSED ∨ s.doorState d = dHALTED →
    ∃ t, exec (.doorLearn d 0x444F) s = .next t ∧ done s t d drOK ∧ t.doorState d = s.doorState d ∧ (t.doors.get d).learnO = true ∧
      (t.doors.get d).learnC = true ∧ only s t d) ∧
  (∀ (s : State) (d : Fin 8), here s d → may s → s.doorState d = dFAULT →
    (s.f (DOOR_STATE_FCAUSE d) = 1 ∧ s.pairOk (s.f (DOOR_CFG_PAIR d)) = true ∧ s.flag (DOOR_STATE_CONF d) = false) ∨
      (s.f (DOOR_STATE_FCAUSE d) ≠ 1 ∧ s.pairOk (s.f (DOOR_CFG_PAIR d)) = false ∧ s.doorPos d = s.posClosed d) →
    ∃ t, exec (.doorAck d 0x444F) s = .next t ∧ answer s t d drFAULT) ∧
  (∀ (s : State) (d : Fin 8), here s d → may s → s.doorState d = dFAULT →
    (s.f (DOOR_STATE_FCAUSE d) = 1 → s.pairOk (s.f (DOOR_CFG_PAIR d)) = false ∨ s.flag (DOOR_STATE_CONF d) = true) →
    (s.f (DOOR_STATE_FCAUSE d) ≠ 1 → s.pairOk (s.f (DOOR_CFG_PAIR d)) = true ∨ s.doorPos d ≠ s.posClosed d) →
    ∃ t, exec (.doorAck d 0x444F) s = .next t ∧ done s t d drOK ∧ t.doorState d = s.doorFromInputs d ∧ t.f (DOOR_STATE_FCAUSE d) = 0 ∧
      (s.nv.doorTags.get d = some (s.doorDef d).tag → t.f (DOOR_STATE_LEARNED d) = 1 ∧ t.flt = s.flt) ∧
      (s.nv.doorTags.get d ≠ some (s.doorDef d).tag → t.f (DOOR_STATE_LEARNED d) = 0 ∧ s.raisedOne t (0xE0 + d) 0x5D cINFO) ∧
      s.keeps t [DOOR_RES d, DOOR_STATE d, DOOR_STAT] ∧ (∀ e, e ≠ d → t.doors.get e = s.doors.get e) ∧
      t = { s with time := { s.time with hits := t.time.hits }, doors := t.doors, flt := t.flt, regs := t.regs })

/-- Door events. The bolt's confirmation ends LOCKING in LOCKED, and with it the cycle; its loss during UNLOCKING starts the opening stroke, or without torque leaves the door CLOSED in MANUAL. The loss of a bolt while a group of
the door is not off takes those groups to OFF and is raised. T_LOCK in LOCKING or UNLOCKING and T_CLCONF without release end in
FAULT with the request withdrawn. An opening stroke that has arrived is OPEN, a closing one CLOSED or LOCKING once the closed pair is released, and a reversal goes back by REV and halts. An obstacle at a tick, by effort or by the edge while
closing, stops the drive and takes the door to REVERSING, shown, counted and raised. t_LOCKSET after a permit's withdrawal the
door counts as locked. The evaluation of the inputs that is due takes each group of category 0 of a pair that is not released to OFF, and of category 1 out of ON. Else nothing changes.
The model's choices that clauses of it rest on are log 102, 103, 250. -/
def Obligations.DoorEvents : Prop :=
  let one := fun (u t : State) (d : Fin 8) => (∀ e, e ≠ d → t.doors.get e = u.doors.get e) ∧
    t = { u with time := { u.time with hits := t.time.hits }, doors := t.doors, regs := t.regs }
  let ended := fun (u t : State) (d : Fin 8) => (t.doors.get d).cyc = false ∧ (t.doors.get d).since = none ∧
    t.rdN (DOOR_CNT_CYC d) = (if (u.doors.get d).cyc then min (u.rdN (DOOR_CNT_CYC d) + 1) 4294967295 else u.rdN (DOOR_CNT_CYC d)) ∧
    ((u.doors.get d).cyc = false → t.recorder = u.recorder ∧ t.hq = u.hq) ∧ (∀ e, e ≠ d → t.doors.get e = u.doors.get e)
  let endFrame := fun (u t : State) => t = { u with time := { u.time with hits := t.time.hits }, hq := t.hq, recorder := t.recorder,
                                                           doors := t.doors, flt := t.flt, nv := t.nv, regs := t.regs }
  (∀ (s u : State) (d : Fin 8) (l : Bool) (m : Nat), u = s.runTo m → u.doorHere d = false → exec (.doorConfChange d l m) s = .next u) ∧
  (∀ (s u : State) (d : Fin 8) (m : Nat), u = s.runTo m → u.doorHere d = true → u.doorState d = dLOCKING →
    ∃ t, exec (.doorConfChange d true m) s = .next t ∧ t.doorState d = dLOCKED ∧ t.f (DOOR_STATE_CONF d) = 1 ∧ ended u t d ∧
      u.keeps t ([DOOR_STATE d, DOOR_STAT, DOOR_CNT_CYC d] ++ recRegs) ∧ endFrame u t ∧ t.flt = u.flt ∧ t.nv = u.nv) ∧
  (∀ (s u : State) (d : Fin 8) (m : Nat), u = s.runTo m → u.doorHere d = true → u.doorState d ≠ dLOCKING →
    ∃ t, exec (.doorConfChange d true m) s = .next t ∧ t.f (DOOR_STATE_CONF d) = 1 ∧ t.doorState d = u.doorState d ∧ u.keeps t [DOOR_STATE d] ∧
      t = { u with regs := t.regs }) ∧
  (∀ (s u : State) (d : Fin 8) (m : Nat), u = s.runTo m → u.doorHere d = true → u.doorState d = dUNLOCKING → u.doorTorque d = true →
    ∃ t, exec (.doorConfChange d false m) s = .next t ∧ t.doorState d = dOPENING ∧ t.f (DOOR_STATE_CONF d) = 0 ∧ (t.doors.get d).cyc = true ∧
      (t.doors.get d).segs = [State.moveSeg (u.doorAxis d) kPOS (u.posOpen d * 4294967296) (u.doorDef d).openLim] ∧
      u.keeps t [DOOR_STATE d, DOOR_STAT, DOOR_PEAK d] ∧ one u t d) ∧
  (∀ (s u : State) (d : Fin 8) (m : Nat), u = s.runTo m → u.doorHere d = true → u.doorState d = dUNLOCKING → u.doorTorque d = false →
    ∃ t, exec (.doorConfChange d false m) s = .next t ∧ t.doorState d = dCLOSED ∧ t.f (DOOR_STATE_CONF d) = 0 ∧ t.f (DOOR_STATE_MANUAL d) = 1 ∧
      (t.doors.get d).since = none ∧ u.keeps t [DOOR_STATE d, DOOR_STAT] ∧ one u t d) ∧
  (∀ (s u : State) (d : Fin 8) (m : Nat), u = s.runTo m → u.doorHere d = true → u.doorState d ≠ dUNLOCKING →
    (∀ g : Fin 4, (u.f (DOOR_CFG_GROUPS d)).testBit g = true → u.shownGroup g = 0) →
    ∃ t, exec (.doorConfChange d false m) s = .next t ∧ t.f (DOOR_STATE_CONF d) = 0 ∧
      t.doorState d = (if u.doorState d = dLOCKED then dHALTED else u.doorState d) ∧ u.keeps t [DOOR_STATE d, DOOR_STAT] ∧ one u t d) ∧
  (∀ (s u : State) (d : Fin 8) (m : Nat), u = s.runTo m → u.doorHere d = true → u.doorState d ≠ dUNLOCKING →
    (∃ g : Fin 4, (u.f (DOOR_CFG_GROUPS d)).testBit g = true ∧ u.shownGroup g ≠ 0) →
    ∃ t, exec (.doorConfChange d false m) s = .next t ∧
      (∀ g : Fin 4, (u.f (DOOR_CFG_GROUPS d)).testBit g = true → u.shownGroup g ≠ 0 →
        (t.group 0 g).state = 0 ∧ (t.group 1 g).state = 0 ∧ t.f (SAFE_STO_STAT_STATE g) = 0) ∧
      (∀ g : Fin 4, (u.f (DOOR_CFG_GROUPS d)).testBit g = false → t.group 0 g = u.group 0 g ∧ t.group 1 g = u.group 1 g) ∧
      u.raisedOne t (0xE0 + d) 0x5B cCRITICAL ∧ t.f (DOOR_STATE_CONF d) = 0 ∧ t.doorState d = u.doorState d ∧
      u.keeps t (DOOR_STATE d :: u.offRegs) ∧ u.offFrame t) ∧
  (∀ (s u : State) (d : Fin 8) (m w : Nat), u = s.runTo m → (u.doors.get d).since = some w → u.doorState d = dLOCKING ∨ u.doorState d = dUNLOCKING →
    w + u.msCycles (u.f (DOOR_CFG2_T_LOCK d)) ≤ u.time.mono →
    ∃ t, exec (.doorLockFail d m) s = .next t ∧ t.doorState d = dFAULT ∧ t.f (DOOR_STATE_FCAUSE d) = 1 ∧ (t.doors.get d).request = false ∧
      (t.doors.get d).lockOut = false ∧ u.raisedOne t (0xE0 + d) 0x5A cMAJOR ∧ ended u t d ∧
      u.keeps t ([DOOR_STATE d, DOOR_STAT, DOOR_CNT_CYC d] ++ recRegs) ∧ endFrame u t ∧ t.nv = u.nv) ∧
  (∀ (s u : State) (d : Fin 8) (m : Nat), u = s.runTo m → (u.doors.get d).since = none ∨ (u.doorState d ≠ dLOCKING ∧ u.doorState d ≠ dUNLOCKING) ∨
    (∃ w, (u.doors.get d).since = some w ∧ u.time.mono < w + u.msCycles (u.f (DOOR_CFG2_T_LOCK d))) →
    exec (.doorLockFail d m) s = .next u) ∧
  (∀ (s u : State) (d : Fin 8) (m w : Nat), u = s.runTo m → (u.doors.get d).since = some w → u.doorState d = dCLOSING →
    u.pairOk (u.f (DOOR_CFG_PAIR d)) = false → w + u.msCycles (u.f (DOOR_REV_HIGH d)) ≤ u.time.mono →
    ∃ t, exec (.doorPosMismatch d m) s = .next t ∧ t.doorState d = dFAULT ∧ t.f (DOOR_STATE_FCAUSE d) = 2 ∧
      u.raisedOne t (0xE0 + d) 0x5C cMAJOR ∧ ended u t d ∧ u.keeps t ([DOOR_STATE d, DOOR_STAT, DOOR_CNT_CYC d] ++ recRegs) ∧
      endFrame u t ∧ t.nv = u.nv) ∧
  (∀ (s u : State) (d : Fin 8) (m : Nat), u = s.runTo m → (u.doors.get d).since = none ∨ u.doorState d ≠ dCLOSING ∨
    u.pairOk (u.f (DOOR_CFG_PAIR d)) = true ∨ (∃ w, (u.doors.get d).since = some w ∧ u.time.mono < w + u.msCycles (u.f (DOOR_REV_HIGH d))) →
    exec (.doorPosMismatch d m) s = .next u) ∧
  (∀ (s u : State) (d : Fin 8) (m : Nat), u = s.runTo m → u.doorHere d = false ∨ (u.doors.get d).segs ≠ [] ∨ u.atRest (u.doorAxis d) = false ∨
    (u.doorState d ≠ dOPENING ∧ u.doorState d ≠ dCLOSING ∧ u.doorState d ≠ dREVERSING) ∨
    (u.doorState d = dOPENING ∧ (u.tiles.get (u.doorAxis d)).ps.p ≠ u.posOpen d * u64) ∨
    (u.doorState d = dCLOSING ∧ (u.doors.get d).found = false ∧ (u.tiles.get (u.doorAxis d)).ps.p ≠ u.posClosed d * u64) →
    exec (.doorArrived d m) s = .next u) ∧
  (∀ (s u : State) (d : Fin 8) (m : Nat), u = s.runTo m → u.doorHere d = true → (u.doors.get d).segs = [] → u.atRest (u.doorAxis d) = true →
    u.doorState d = dOPENING → (u.tiles.get (u.doorAxis d)).ps.p = u.posOpen d * u64 →
    ∃ t, exec (.doorArrived d m) s = .next t ∧ t.doorState d = dOPEN ∧ (t.doors.get d).openAt = some u.time.mono ∧
      (t.doors.get d).tOpen = min 4294967295 (u.usOf (u.time.mono - (u.doors.get d).openFrom)) ∧
      u.keeps t ([DOOR_STATE d, DOOR_STAT] ++ (List.range 64).map (DOOR_PROF d)) ∧
      ((u.doors.get d).full = false → u.keeps t [DOOR_STATE d, DOOR_STAT] ∧ t.nv = u.nv) ∧ (∀ e, e ≠ d → t.doors.get e = u.doors.get e) ∧
      t = { u with doors := t.doors, nv := t.nv, regs := t.regs }) ∧
  (∀ (s u : State) (d : Fin 8) (m : Nat), u = s.runTo m → u.doorHere d = true → (u.doors.get d).segs = [] → u.atRest (u.doorAxis d) = true →
    u.doorState d = dCLOSING → (u.doors.get d).found = false → (u.tiles.get (u.doorAxis d)).ps.p = u.posClosed d * u64 →
    (u.pairOk (u.f (DOOR_CFG_PAIR d)) = false →
      ∃ t, exec (.doorArrived d m) s = .next t ∧ (t.doors.get d).since = some ((u.doors.get d).since.getD u.time.mono) ∧
        (∀ e, e ≠ d → t.doors.get e = u.doors.get e) ∧ t = { u with doors := t.doors }) ∧
    (u.pairOk (u.f (DOOR_CFG_PAIR d)) = true → u.flag (DOOR_CFG_AUTO_LOCK d) = true →
      ∃ t, exec (.doorArrived d m) s = .next t ∧ t.doorState d = dLOCKING ∧ (t.doors.get d).request = false ∧ (t.doors.get d).lockOut = false ∧
        (t.doors.get d).since = some u.time.mono ∧ u.keeps t ([DOOR_STATE d, DOOR_STAT] ++ (List.range 64).map (DOOR_PROF d)) ∧
        (∀ e, e ≠ d → t.doors.get e = u.doors.get e) ∧ t = { u with doors := t.doors, nv := t.nv, regs := t.regs }) ∧
    (u.pairOk (u.f (DOOR_CFG_PAIR d)) = true → u.flag (DOOR_CFG_AUTO_LOCK d) = false →
      ∃ t, exec (.doorArrived d m) s = .next t ∧ t.doorState d = dCLOSED ∧ ended u t d ∧
        u.keeps t ([DOOR_STATE d, DOOR_STAT, DOOR_CNT_CYC d] ++ recRegs ++ (List.range 64).map (DOOR_PROF d)) ∧ endFrame u t ∧ t.flt = u.flt)) ∧
  (∀ (s u : State) (d : Fin 8) (m : Nat), u = s.runTo m → u.doorHere d = true → (u.doors.get d).segs = [] → u.atRest (u.doorAxis d) = true →
    u.doorState d = dCLOSING → (u.doors.get d).found = true →
    ∃ t, exec (.doorArrived d m) s = .next t ∧ (t.doors.get d).found = false ∧ t.f (DOOR_STATE_SEARCH d) = 0 ∧
      t.rdI (TILE_FB_POS (u.doorAxis d)) = u.posClosed d ∧ t.f (TILE_FB_STAT_REFERENCED (u.doorAxis d)) = 1 ∧
      u.keeps t ([DOOR_STATE d, DOOR_STAT, DOOR_CNT_CYC d, TILE_FB_POS (u.doorAxis d), TILE_FB_STAT (u.doorAxis d), TILE_PLN_STAT (u.doorAxis d),
        TILE_STP_POS (u.doorAxis d)] ++ recRegs ++ (List.range 64).map (DOOR_PROF d)) ∧
      t = { u with time := { u.time with hits := t.time.hits }, hq := t.hq, recorder := t.recorder, doors := t.doors, tiles := t.tiles, nv := t.nv, regs := t.regs }) ∧
  (∀ (s u : State) (d : Fin 8) (m : Nat), u = s.runTo m → u.doorHere d = true → (u.doors.get d).segs = [] → u.atRest (u.doorAxis d) = true →
    u.doorState d = dREVERSING → (u.doors.get d).revGo = true ∨ (u.doors.get d).revEnd = true →
    ∃ t, exec (.doorArrived d m) s = .next t ∧ t.doorState d = dHALTED ∧ (t.doors.get d).revGo = false ∧ (t.doors.get d).revEnd = false ∧
      u.keeps t [DOOR_STATE d, DOOR_STAT] ∧ one u t d) ∧
  (∀ (s u : State) (d : Fin 8) (m : Nat), u = s.runTo m → u.doorHere d = true → (u.doors.get d).segs = [] → u.atRest (u.doorAxis d) = true →
    u.doorState d = dREVERSING → (u.doors.get d).revGo = false → (u.doors.get d).revEnd = false →
    ∃ t, exec (.doorArrived d m) s = .next t ∧ (t.doors.get d).revGo = true ∧
      (t.doors.get d).segs = [State.moveSeg (u.doorAxis d) kPOS (max (min (u.posClosed d) (u.posOpen d)) (min (max (u.posClosed d) (u.posOpen d))
        (u.doorPos d + (u.doors.get d).blocked * u.closing d * u.f (DOOR_REV_LOW d))) * 4294967296)
        (if 0 < (u.doors.get d).blocked then (u.doorDef d).closeLim else (u.doorDef d).openLim)] ∧
      (∀ e, e ≠ d → t.doors.get e = u.doors.get e) ∧ t = { u with doors := t.doors }) ∧
  (∀ (s : State) (d : Fin 8), s.doorHere d = true → s.atTick = true →
    (s.flag (DOOR_CFG_EDGE_EN d) = true ∧ s.flag (DOOR_STATE_EDGE d) = true ∧ s.doorState d = dCLOSING) ∨
      ((s.doorState d = dOPENING ∨ s.doorState d = dCLOSING ∨ s.doorState d = dREVERSING) ∧ s.f (DOOR_CFG2_N_OBS d) ≤ (s.doors.get d).overN ∧
        0 < (s.doors.get d).overN) →
    ∃ t, exec (.doorObstacle d) s = .next t ∧ t.doorState d = dREVERSING ∧ t.f (DOOR_STATE_OBST d) = 1 ∧ (t.doors.get d).segs = s.obsStop d ∧
      t.rd (DOOR_OBSPOS d) = BitVec.ofInt 32 (s.doorPos d) ∧ t.rdN (DOOR_CNT_OBS d) = min (s.rdN (DOOR_CNT_OBS d) + 1) 4294967295 ∧
      (t.doors.get d).nObst = (s.doors.get d).nObst + 1 ∧ t.f (DOOR_STATE_SEARCH d) = 0 ∧
      s.raisedOne t (0xE0 + d) 0x58 cMINOR ∧ s.keeps t [DOOR_STATE d, DOOR_STAT, DOOR_OBSPOS d, DOOR_CNT_OBS d] ∧
      (∀ e, e ≠ d → t.doors.get e = s.doors.get e) ∧
      t = { s with time := { s.time with hits := t.time.hits }, doors := t.doors, flt := t.flt, regs := t.regs }) ∧
  (∀ (s : State) (d : Fin 8), s.doorHere d = false ∨ s.atTick = false ∨
    ((s.flag (DOOR_CFG_EDGE_EN d) = false ∨ s.flag (DOOR_STATE_EDGE d) = false ∨ s.doorState d ≠ dCLOSING) ∧
      ((s.doorState d ≠ dOPENING ∧ s.doorState d ≠ dCLOSING ∧ s.doorState d ≠ dREVERSING) ∨ (s.doors.get d).overN < s.f (DOOR_CFG2_N_OBS d) ∨
        (s.doors.get d).overN = 0)) → exec (.doorObstacle d) s = .next s) ∧
  (∀ (s : State) (d : Fin 8) (l : Bool), s.doorHere d = true → s.flag (DOOR_CFG_EDGE_EN d) = true →
    ∃ t, exec (.doorEdge d l) s = .next t ∧ t.f (DOOR_STATE_EDGE d) = (if l = s.flag (DOOR_CFG2_EDGE_POL d) then 0 else 1) ∧
      t.doorState d = s.doorState d ∧ s.keeps t [DOOR_STATE d] ∧ t = { s with regs := t.regs }) ∧
  (∀ (s : State) (d : Fin 8) (l : Bool), s.doorHere d = false ∨ s.flag (DOOR_CFG_EDGE_EN d) = false → exec (.doorEdge d l) s = .next s) ∧
  (∀ (s u : State) (d : Fin 8) (m w : Nat), u = s.runTo m → u.safe.withdrawn.get d = some w → w + 40000000 ≤ u.time.mono →
    (u.f DOOR_STAT_PERMIT).testBit d = false →
    ∃ t, exec (.doorLockset d m) s = .next t ∧ t.safe.lockset.testBit d = true ∧ u.keeps t (DOOR_STAT :: (List.range 8).map DOOR_STATE) ∧
      (∀ e : Fin 8, u.doorHere e = true → (t.rdN DOOR_STAT).testBit (8 + e.val) = t.closedLocked e) ∧
      t = { u with safe := t.safe, regs := t.regs }) ∧
  (∀ (s u : State) (d : Fin 8) (m : Nat), u = s.runTo m → u.safe.withdrawn.get d = none ∨ (u.f DOOR_STAT_PERMIT).testBit d = true ∨
    (∃ w, u.safe.withdrawn.get d = some w ∧ u.time.mono < w + 40000000) → exec (.doorLockset d m) s = .next u) ∧
  (∀ (s u : State) (m : Nat), u = s.runTo m → u.mode = mRESET ∨ (∃ r, u.safe.evalAt = some r ∧ safePast r 10 u.time.mono = false) →
    exec (.safetyInputEval m) s = .next u) ∧
  (∀ (s u : State) (m : Nat), u = s.runTo m → u.mode ≠ mRESET → (∀ r, u.safe.evalAt = some r → safePast r 10 u.time.mono = true) →
    ∃ t, exec (.safetyInputEval m) s = .next t ∧ t.safe.evalAt = some u.time.mono ∧
    (∀ (d : SafPair) (g : Fin 4), d ∈ u.safSet.pairs → t.pairOk d.num = false →
      (d.cats.getD g 2 = 0 → (t.group 0 g).state = 0 ∧ (t.group 1 g).state = 0) ∧
      (d.cats.getD g 2 = 1 → ∀ c : Fin 2, (t.group c g).state ≠ 1 ∧ (t.group c g).state ≠ 2)) ∧
    (∀ (d : Fin 8) (g : Fin 4), u.doorHere d = true → u.rawIn (u.f (DOOR_CFG_CONF_IN d)) = false → (u.f (DOOR_CFG_GROUPS d)).testBit g = true →
      (t.group 0 g).state = 0 ∧ (t.group 1 g).state = 0 ∨ t.shownGroup g = 0) ∧
    t = { u with time := { u.time with hits := t.time.hits }, hq := t.hq, wheel := t.wheel, tiles := t.tiles, pps := t.pps, safe := t.safe, doors := t.doors,
                 flt := t.flt, recorder := t.recorder, regs := t.regs })

/-- The ring at its master. Staging closes once for each departure in the cycle t_STAGE before it: what was staged before that cycle becomes the payloads of the segments and leaves the
queue. At a boundary the cycle departs: CYC shows it, the next boundary lies one ring period later and CYCLE goes on by one;
entry to open operation is counted and raised, as is a copy that has not come back. The P frame at the far port is noted. A
good copy is kept with its round trip; a wrong one counts as missing and is raised; a late one is discarded. Silt of a node is raised once. Foreign frames
are counted; IDENT, LAYOUT_ACK, LINK and a message without a route act as their type says. A unit that is not the master does none of this.
The model's choices that clauses of it rest on are log 105, 107, 108, 253, 254, 255. -/
def Obligations.RingMaster : Prop :=
  let plain := fun (s : State) (r : Fin 2) => ∀ g ∈ (s.ringDef r).segs, g.kind = 1
  let closing := fun (u : State) (r : Fin 2) => u.rstate r = rMASTER ∧ (u.ring r).closed = none ∧
    (u.ring r).nextDep ≤ u.time.now + 5000 * Config.nsUnits ∧ u.closeMono r = u.time.mono
  let due := fun (s u : State) (r : Fin 2) (m : Nat) => u = (s.runTo m).takeStep.swapFirst ∧ u.rstate r = rMASTER ∧ u.ringDue r = true
  let inTime := fun (u : State) (r : Fin 2) => u.time.now < (u.ring r).nextDep + 200 * Config.nsUnits
  let fcsCnt := fun (u t : State) (r : Fin 2) (f : RFrame) =>
    t.rdN (KR_CNT_FCS r) = (if f.fcs then u.rdN (KR_CNT_FCS r) else min (u.rdN (KR_CNT_FCS r) + 1) 4294967295) ∧ (f.fcs = false → t.f (KR_STAT_FCS r) = 1)
  let noCopyFields := fun (f : RFrame) (k : RCopy) => f.fcs = false ∨ f.hcrc = false ∨ f.type ≠ 0 ∨ f.epoch ≠ k.f.epoch ∨ f.cycle ≠ k.f.cycle ∨ f.sid ≠ k.f.sid
  (∀ (s u : State) (r : Fin 2) (m : Nat), u = s.runTo m → ¬ closing u r → exec (.stagingClose r m) s = .next u) ∧
  (∀ (s u : State) (r : Fin 2) (m : Nat), u = s.runTo m → closing u r →
    ∃ t, exec (.stagingClose r m) s = .next t ∧ (t.ring r).closed.isSome = true ∧
      (∀ x ∈ (t.queue (State.hqOf r)).items, ∀ a b c d e, x.body = .staged a b c d e → u.time.mono ≤ e) ∧ (∀ q, q ≠ r → t.ring q = u.ring q) ∧
      (∀ x ∈ (t.ring r).refused, u.time.mono ≤ x.2) ∧
      ((∀ x, u.pair.stream = some x → x.2.2.1.length ≤ 12) →
        u.keeps t ([RED_CNT_SENT, RED_SNAP, RED_SNAP_LEN, SAFE_STAT] ++ (List.range 12).map RED_SNAP_HASH ++ u.offRegs)) ∧
      t = { u with time := { u.time with hits := t.time.hits }, hq := t.hq, wheel := t.wheel, tiles := t.tiles, pps := t.pps, safe := t.safe,
                   pair := t.pair, rings := t.rings, flt := t.flt, regs := t.regs }) ∧
  (∀ (s u : State) (r : Fin 2) (m : Nat), u = s.runTo m → closing u r → (∀ g ∈ State.allSegs (u.ringDef r), g.kind = 1) →
    ∃ t, exec (.stagingClose r m) s = .next t ∧ (t.ring r).closed = some (u.outPays r u.time.mono) ∧ t = { u with hq := t.hq, rings := t.rings }) ∧
  (∀ (s u : State) (r : Fin 2) (m : Nat), u = (s.runTo m).takeStep.swapFirst → u.rstate r ≠ rMASTER ∨ u.ringDue r = false →
    exec (.ringCycle r m) s = .next u) ∧
  (∀ (s u v : State) (r : Fin 2) (m : Nat), due s u r m → v = u.ringAlign r →
    ∃ t, exec (.ringCycle r m) s = .next t ∧ t.rdN (KR_CYC r) = (v.ring r).nextCyc % 4294967296 ∧
      (t.ring r).nextDep = (v.ring r).nextDep + u.ringPeriod r ∧ (t.ring r).nextCyc = ((v.ring r).nextCyc + 1) % 4294967296 ∧
      u.time.now < (t.ring r).nextDep ∧ (t.ring r).done = false ∧ (t.ring r).closed = none) ∧
  (∀ (s u v : State) (r : Fin 2) (m : Nat), due s u r m → v = u.ringAlign r → (u.ring r).done = true →
    (u.ring r).closed.isSome = true → (v.decide_ r).2 = false ∨ u.flag (KR_RING_OPEN r) = true →
    ∃ t, exec (.ringCycle r m) s = .next t ∧
      t.f (KR_STAT_MODE r) = (v.decide_ r).1 ∧ t.f (KR_RING_OPEN r) = b2n (v.decide_ r).2 ∧
      (t.ring r).valid = [] ∧ (t.ring r).fresh = [] ∧ (∀ q, q ≠ r → t.ring q = u.ring q) ∧
      u.keeps t [KR_CYC r, KR_STAT r, KR_RING r, KR_CNT_NDROP r, RED_TK_CYC] ∧ t = { u with rings := t.rings, regs := t.regs }) ∧
  (∀ (s u v : State) (r : Fin 2) (m : Nat), due s u r m → v = u.ringAlign r → (u.ring r).done = true →
    (u.ring r).closed.isSome = true → (v.decide_ r).2 = true → u.flag (KR_RING_OPEN r) = false → u.swapArmed = false →
    ∃ t, exec (.ringCycle r m) s = .next t ∧ t.f (KR_RING_OPEN r) = 1 ∧
      t.rdN (KR_CNT_OPEN r) = min (u.rdN (KR_CNT_OPEN r) + 1) 4294967295 ∧
      u.raisedOne t (0xD2 + r) (if u.wideRing r = true then 0x66 else 0x65) cMAJOR ∧
      u.keeps t [KR_CYC r, KR_STAT r, KR_RING r, KR_CNT_NDROP r, KR_CNT_OPEN r, KR_BRK r, RED_TK_CYC] ∧
      t = { u with rings := t.rings, flt := t.flt, regs := t.regs }) ∧
  (∀ (s u : State) (r : Fin 2) (m : Nat) (k : RCopy), due s u r m →
    (u.ring r).done = false → (u.ring r).cp = some k → (u.ring r).cs = none → k.got = false → k.missing = false → u.swapArmed = false →
    (u.ring r).closed.isSome = true →
    ∃ t, exec (.ringCycle r m) s = .next t ∧ t.rdN (KR_CNT_MISS r) = min (u.rdN (KR_CNT_MISS r) + 1) 4294967295 ∧
      t.f (KR_STAT_MISS r) = 1 ∧ (t.ring r).noCopy = (u.ring r).noCopy + 1 ∧
      ∃ x ∈ t.flt.path, x.source = 0xD2 + r ∧ x.kind = 0x60 ∧ x.cls = cMINOR) ∧
  (∀ (s u : State) (r : Fin 2) (a b : Bool) (f : RFrame) (rtt m : Nat), u = s.runTo m → u.rstate r ≠ rMASTER → exec (.ringFrameReturn r a b f rtt m) s = .next u) ∧
  (∀ (s u : State) (r : Fin 2) (f : RFrame) (k : RCopy) (rtt m : Nat), u = s.runTo m → u.rstate r = rMASTER → (u.ring r).cp = some k → k.f.mode ≠ fWIDE →
    f.hcrc = true → k.f.cycle = f.cycle → inTime u r →
    ∃ t, exec (.ringFrameReturn r false true f rtt m) s = .next t ∧ (t.ring r).atS = true ∧ (∀ q, q ≠ r → t.ring q = u.ring q) ∧
      (f.looped = true ∨ u.flag (KR_RING_OPEN r) = true ∨ (u.ring r).closing = none → t.flt = u.flt) ∧
      (∀ c, f.looped = false → u.flag (KR_RING_OPEN r) = false → (u.ring r).closing = some c →
        (t.ring r).closing = none ∧ (t.ring r).links = [] ∧ u.raisedOne t (0xD2 + r) 0x67 cINFO) ∧
      t = { u with rings := t.rings, flt := t.flt }) ∧
  (∀ (s u : State) (r : Fin 2) (onS : Bool) (f : RFrame) (rtt m : Nat), u = s.runTo m → u.rstate r = rMASTER → (∀ k, (u.ring r).cp = some k → k.f.mode ≠ fWIDE) →
    onS = true ∨ f.hcrc = false ∨ (∀ k, (u.ring r).cp = some k → k.f.cycle ≠ f.cycle) ∨ ¬ inTime u r →
    exec (.ringFrameReturn r onS true f rtt m) s = .next u) ∧
  (∀ (s u : State) (r : Fin 2) (onS far : Bool) (f : RFrame) (rtt m : Nat), u = s.runTo m → u.rstate r = rMASTER →
    far = false ∨ (∃ k, (u.ring r).cp = some k ∧ k.f.mode = fWIDE) → exec (.ringFrameReturn r onS far f rtt m) s = .next (u.returned r onS f rtt)) ∧
  (∀ (u : State) (r : Fin 2) (onS : Bool) (f : RFrame) (rtt : Nat), u.copyOut r onS = none → u.returned r onS f rtt = u) ∧
  (∀ (u : State) (r : Fin 2) (onS : Bool) (f : RFrame) (k : RCopy) (rtt : Nat), plain u r → u.copyOut r onS = some k → k.f.mode ≠ fWIDE →
    k.got = true ∨ k.missing = true ∨ (u.ring r).done = true ∨ (f.hcrc = true ∧ f.cycle ≠ k.f.cycle) ∨ ¬ inTime u r →
    ∃ t, u.returned r onS f rtt = t ∧ fcsCnt u t r f ∧ u.keeps t [KR_CNT_FCS r, KR_STAT r] ∧
      t = { u with time := { u.time with hits := t.time.hits }, regs := t.regs }) ∧
  (∀ (u : State) (r : Fin 2) (f : RFrame) (k j : RCopy) (rtt : Nat), plain u r → (u.ring r).done = false →
    (u.ring r).cp = some k → (u.ring r).cs = some j → k.got = false → k.missing = false → j.got = false → j.missing = false →
    k.f.mode = fHEAL → inTime u r → u.flag (KR_RING_OPEN r) = true → u.f (KR_BRK_LOOP_P r) = f.loopAddr % 65536 → f.loopAddr < 65536 →
    f.fcs = true → f.hcrc = true → f.type = 0 → f.epoch = k.f.epoch → f.cycle = k.f.cycle → f.sid = k.f.sid →
    ∃ t, u.returned r false f rtt = t ∧ (t.ring r).cp = some { k with got := true } ∧
      (t.ring r).rttP = rtt ∧ t.rdN (KR_RTT r) = rtt % 4294967296 ∧ t.f (KR_LOOP_LOOP_ADDR r) = f.loopAddr ∧
      u.keeps t [KR_RTT r, KR_RTTMAX r, KR_STAT r, KR_LOOP r, KR_BRK r] ∧ t = { u with rings := t.rings, regs := t.regs }) ∧
  (∀ (u : State) (r : Fin 2) (f : RFrame) (k j : RCopy) (rtt : Nat), plain u r → (u.ring r).done = false →
    (u.ring r).cp = some k → (u.ring r).cs = some j → k.got = false → k.missing = false → j.got = false → j.missing = false →
    k.f.mode = fHEAL → inTime u r → (f.hcrc = true → f.cycle = k.f.cycle) → noCopyFields f k →
    ∃ t, u.returned r false f rtt = t ∧ (t.ring r).cp = some { k with missing := true } ∧
      t.rdN (KR_CNT_MISS r) = min (u.rdN (KR_CNT_MISS r) + 1) 4294967295 ∧ t.f (KR_STAT_MISS r) = 1 ∧ fcsCnt u t r f ∧
      u.raisedOne t (0xD2 + r) 0x60 cMINOR ∧ u.keeps t [KR_CNT_MISS r, KR_CNT_FCS r, KR_STAT r] ∧
      t = { u with time := { u.time with hits := t.time.hits }, rings := t.rings, flt := t.flt, regs := t.regs }) ∧
  (∀ (s : State) (r : Fin 2) (n : Nat), s.flag (KR_NODE_PRESENT r n) = true → s.f (KR_WIN_NSILT r) ≤ s.f (KR_NODE_SILT r n) →
    s.f (KR_WIN_NSILT r) ≠ 0 → n ∉ (s.ring r).siltRaised →
    ∃ t, exec (.krNodeSilt r n) s = .next t ∧ t.f (KR_STAT_SILT r) = 1 ∧ (t.ring r).siltRaised = n :: (s.ring r).siltRaised ∧
      s.raisedOne t (0xD2 + r) 0x61 cMINOR ∧ s.keeps t [KR_STAT r] ∧
      t = { s with time := { s.time with hits := t.time.hits }, rings := t.rings, flt := t.flt, regs := t.regs }) ∧
  (∀ (s : State) (r : Fin 2) (n : Nat), s.flag (KR_NODE_PRESENT r n) = false ∨ s.f (KR_NODE_SILT r n) < s.f (KR_WIN_NSILT r) ∨ s.f (KR_WIN_NSILT r) = 0 ∨
    n ∈ (s.ring r).siltRaised → exec (.krNodeSilt r n) s = .next s) ∧
  (∀ (s : State) (r : Fin 2), s.mode < mBARE → exec (.foreignFrame r) s = .next s) ∧
  (∀ (s : State) (r : Fin 2), mBARE ≤ s.mode → ∃ t, exec (.foreignFrame r) s = .next t ∧ t.f (KR_STAT_FOREIGN r) = 1 ∧
    t.rdN (KR_CNT_FOREIGN r) = min (s.rdN (KR_CNT_FOREIGN r) + 1) 4294967295 ∧ s.keeps t [KR_STAT r, KR_CNT_FOREIGN r] ∧
    t = { s with time := { s.time with hits := t.time.hits }, regs := t.regs }) ∧
  (∀ (s : State) (r : Fin 2) (n : Nat) (d : List Byte), s.rstate r = rMASTER → ∃ t, exec (.ident r n d) s = .next t ∧ assoc n (t.ring r).idents = some d ∧
    (∀ k, k ≠ n → assoc k (t.ring r).idents = assoc k (s.ring r).idents) ∧ (∀ q, q ≠ r → t.ring q = s.ring q) ∧ t = { s with rings := t.rings }) ∧
  (∀ (s : State) (r : Fin 2) (n sid : Nat) (d : List Byte) (p q l : Bool) (m : Nat) (x : SvcMsg), (s.runTo m).rstate r ≠ rMASTER → s.rstate r ≠ rMASTER →
    exec (.ident r n d) s = .next s ∧ exec (.layoutAck r n sid) s = .next s ∧ exec (.link r n p q l m) s = .next (s.runTo m) ∧
    exec (.svcHandlerMessage r x) s = .next s) ∧
  (∀ (s : State) (r : Fin 2) (n sid want : Nat), s.rstate r = rMASTER →
    want = (match s.cfg.nodesFor with | some i => i.sid | none => match s.cfg.shadow with | some i => i.sid | none => s.rdN (KR_SID r)) →
    (sid ≠ want ∨ 512 ≤ n → exec (.layoutAck r n sid) s = .next s) ∧
    (sid = want → n < 512 → s.cfg.nodesFor = none → ∃ t, exec (.layoutAck r n sid) s = .next t ∧ t.f (KR_NODE_PEND_ACK r n) = 1 ∧
      s.keeps t [KR_NODE r n] ∧ t = { s with regs := t.regs }) ∧
    (∀ i, sid = want → n < 512 → s.cfg.nodesFor = some i → (s.setF (KR_NODE_PEND_ACK r n) 1).nodesAcked i = false →
      ∃ t, exec (.layoutAck r n sid) s = .next t ∧ t.f (KR_NODE_PEND_ACK r n) = 1 ∧ s.keeps t [KR_NODE r n] ∧ t = { s with regs := t.regs })) ∧
  (∀ (s : State) (r : Fin 2) (n : Nat) (i : Image), s.rstate r = rMASTER → s.cfg.nodesFor = some i → n < 512 →
    (s.setF (KR_NODE_PEND_ACK r n) 1).nodesAcked i = true → i.hash.length = 12 →
    ∃ t, exec (.layoutAck r n i.sid) s = .next t ∧ t.cfg = { s.cfg with shadow := some i, nodesFor := none, loading := none } ∧
      t.f CFG_STAT_LDR = 4 ∧ t.f CFG_STAT_SHADOW_VALID = 1 ∧ t.f CFG_STAT_DONE = 1 ∧ t.f CFG_STAT_BUSY = 0 ∧
      t.rdN CFG_SH_SID = i.sid % 4294967296 ∧ s.keeps t ([KR_NODE r n, CFG_STAT, CFG_ERR, CFG_SH_SID] ++ (List.range 12).map CFG_SH_HASH) ∧
      t = { s with time := { s.time with hits := t.time.hits }, cfg := t.cfg, regs := t.regs }) ∧
  (∀ (s u : State) (r : Fin 2) (n : Nat) (p q l : Bool) (m : Nat), u = s.runTo m → u.rstate r = rMASTER →
    (∀ x, (u.ring r).links.find? (fun (x : NodeLink) => x.node == n) = some x → x.p ≠ p ∨ x.s ≠ q ∨ x.loop ≠ l) →
    ∃ t, exec (.link r n p q l m) s = .next t ∧
      (t.ring r).links = { node := n, p := p, s := q, loop := l, at_ := u.time.mono } :: (u.ring r).links.filter (fun (x : NodeLink) => x.node != n) ∧
      t.f (KR_RING_CLOSE_READY r) = 0 ∧ t.f (KR_RING_CLOSE_PEND r) = 0 ∧ (t.ring r).closeAt = none ∧ (∀ q, q ≠ r → t.ring q = u.ring q) ∧
      u.keeps t [KR_RING r] ∧ t = { u with rings := t.rings, regs := t.regs }) ∧
  (∀ (s u : State) (r : Fin 2) (n : Nat) (x : NodeLink) (m : Nat), u = s.runTo m → (u.ring r).links.find? (fun (x : NodeLink) => x.node == n) = some x →
    exec (.link r n x.p x.s x.loop m) s = .next u) ∧
  (∀ (s : State) (r : Fin 2) (x : SvcMsg), s.rstate r = rMASTER → 0x10 ≤ x.type → (∀ y ∈ s.st.svcRoutes, y.code ≠ x.type) →
    ∃ t, exec (.svcHandlerMessage r x) s = .next t ∧ t.rdN (KR_CNT_SVC r) = min (s.rdN (KR_CNT_SVC r) + 1) 4294967295 ∧
      s.raisedOne t (0xD2 + r) 0x64 cINFO ∧ s.keeps t [KR_CNT_SVC r] ∧ t = { s with flt := t.flt, regs := t.regs }) ∧
  (∀ (s : State) (r : Fin 2) (x : SvcMsg) (y : Route) (n : Fin 16) (w : Work), s.rstate r = rMASTER → 0x10 ≤ x.type →
    s.st.svcRoutes.find? (fun (y : Route) => y.code == x.type) = some y → n = (if r = 0 then 2 else 3) →
    w = { src := 2 + r.val, handler := y.handler, key := y.key, group := y.group,
          payload := natLE 2 x.node ++ natLE 1 x.type ++ natLE 1 0 ++ natLE 4 x.tag ++ x.data, entry := s.time.now, late := false, id := s.sched.nextId } →
    (∀ u, s.offer n ⟨8 + x.data.length, .work w⟩ = some u →
      ∃ t, exec (.svcHandlerMessage r x) s = .next t ∧ t.sched.ready.length = s.sched.ready.length + 1 ∧
        t.sched.nextId = s.sched.nextId + 1 ∧ (t.queue n).items = (s.queue n).items ++ [⟨8 + x.data.length, .work w⟩] ∧
        (∀ k, k ≠ n → t.queue k = s.queue k) ∧ s.keeps t [HQ_HWM n] ∧ t = { s with hq := t.hq, sched := t.sched, regs := t.regs }) ∧
    (s.offer n ⟨8 + x.data.length, .work w⟩ = none →
      ∃ t, exec (.svcHandlerMessage r x) s = .next t ∧ t.rdN (KR_CNT_SVC r) = min (s.rdN (KR_CNT_SVC r) + 1) 4294967295 ∧
        t.rdN (HQ_CNT_REF n) = min (s.rdN (HQ_CNT_REF n) + 1) 4294967295 ∧ s.raisedOne t (0xD2 + r) 0x64 cINFO ∧
        s.keeps t [KR_CNT_SVC r, HQ_CNT_REF n] ∧ t = { s with flt := t.flt, regs := t.regs })) ∧
  (∀ (s : State) (r : Fin 2) (x : SvcMsg), x.type < 0x10 → exec (.svcHandlerMessage r x) s = .next s)

/-- Claims and standing. A claim that is due is sent on a port with link, counts in SENT and fixes when the first was sent; its return tells whether the ring is closed.
Three claims and 300 us with TCLX make the unit master at a grid boundary: the first boundary is the next grid boundary whose step in the second
is a multiple of K, and every node is sent its layout. A frame of higher standing turns a claimer into a node and silences a
master; one of lower standing only counts. An active without returned copies falls silent. With every looping node's links
up for t_CLSTAB the ring is ready to close; KR_CLOSE with its key then sets the cycle of the close, otherwise it is refused. Else nothing changes.
The model's choices that clauses of it rest on are log 44, 106, 257. -/
def Obligations.RingClaims : Prop :=
  let claims := fun (u : State) (r : Fin 2) => u.rstate r = rCLAIM ∧ (∀ a, (u.ring r).claimAt = some a → a + u.usCycles 100 ≤ u.time.mono) ∧
    (u.flag (KR_STAT_LINK_P r) = true ∨ u.flag (KR_STAT_LINK_S r) = true)
  let wins := fun (u : State) (r : Fin 2) => u.rstate r = rCLAIM ∧ 3 ≤ u.f (KR_CLAIM_SENT r) ∧ u.onGrid Config.gridUnits = true ∧
    ∃ a, (u.ring r).claimFrom = some a ∧ a + u.usCycles (300 + u.f (KR_CLAIM_TCLX r)) ≤ u.time.mono
  let loops := fun (u : State) (r : Fin 2) => (u.ring r).links.filter (fun (x : NodeLink) => x.loop)
  let ready := fun (u : State) (r : Fin 2) => u.rstate r = rMASTER ∧ loops u r ≠ [] ∧
    ∀ x ∈ loops u r, x.p = true ∧ x.s = true ∧ x.at_ + u.msCycles (u.ringDef r).clstab ≤ u.time.mono
  let seen := fun (s t : State) (r : Fin 2) (f : RFrame) =>
    t.f (KR_EPOCH_HIGHEST r) = (if (s.ring r).seen = false ∨ State.newer f.epoch (s.f (KR_EPOCH_HIGHEST r)) = true then f.epoch % 65536 else s.f (KR_EPOCH_HIGHEST r)) ∧
    t.rdN (KR_CNT_CLAIM r) = (if f.type = 1 then min (s.rdN (KR_CNT_CLAIM r) + 1) 4294967295 else s.rdN (KR_CNT_CLAIM r))
  (∀ (s u : State) (r : Fin 2) (m : Nat), u = s.runTo m → claims u r →
    ∃ t, exec (.claimSend r m) s = .next t ∧ t.f (KR_CLAIM_SENT r) = min 255 (u.f (KR_CLAIM_SENT r) + 1) ∧ (t.ring r).claimTx = some (u.claimFrame r) ∧
      (t.ring r).claimAt = some u.time.mono ∧
      (t.ring r).claimFrom = some ((u.ring r).claimFrom.getD u.time.mono) ∧ (∀ q, q ≠ r → t.ring q = u.ring q) ∧
      u.keeps t [KR_CLAIM r] ∧ t = { u with rings := t.rings, regs := t.regs }) ∧
  (∀ (s u : State) (r : Fin 2) (m : Nat), u = s.runTo m → ¬ claims u r → exec (.claimSend r m) s = .next u) ∧
  (∀ (s : State) (r : Fin 2) (o : Bool), s.rstate r = rCLAIM → (s.ring r).claimTx.isSome = true →
    ∃ t, exec (.claimReturn r o) s = .next t ∧ (t.ring r).closedFound = some o ∧ (∀ q, q ≠ r → t.ring q = s.ring q) ∧
      t = { s with rings := t.rings }) ∧
  (∀ (s : State) (r : Fin 2) (o : Bool), s.rstate r ≠ rCLAIM ∨ (s.ring r).claimTx = none → exec (.claimReturn r o) s = .next s) ∧
  (∀ (s u : State) (r : Fin 2) (m : Nat), u = (s.runTo m).takeStep → wins u r →
    ∃ t, exec (.claimWin r m) s = .next t ∧ t.rstate r = rMASTER ∧
      t.rdN (KR_SID r) = (match u.cfg.run with | some i => i.sid | none => 0) % 4294967296 ∧
      t.rdN (KR_MST_SERL r) = u.nv.serial % 4294967296 ∧ (u.mode ≠ mTAKEOVER → (t.ring r).nextCyc = 0) ∧
      (∃ n, (t.ring r).nextDep = n * Config.gridUnits ∧ u.time.now < (t.ring r).nextDep + u.cycleInc ∧ n % 32000 % max 1 (u.f (KR_CFG_K r)) = 0) ∧
      (∀ n ∈ (u.ringDef r).nodes, ∃ x ∈ (t.ring r).svcDn, x.node = n ∧ x.type = 2) ∧ (∀ q, q ≠ r → t.ring q = u.ring q) ∧
      u.keeps t [KR_STAT r, KR_SID r, KR_MST_SERL r, KR_MST_SERH r] ∧ t = { u with rings := t.rings, regs := t.regs }) ∧
  (∀ (s u : State) (r : Fin 2) (m : Nat), u = (s.runTo m).takeStep → ¬ wins u r → exec (.claimWin r m) s = .next u) ∧
  (∀ (s : State) (r : Fin 2) (f : RFrame) (a : Bool), f.hcrc = false ∨ f.fcs = false ∨ s.mode < mBARE → exec (.higherStandingFrame r a f) s = .next s) ∧
  (∀ (s : State) (r : Fin 2) (f : RFrame) (a : Bool), f.hcrc = true → f.fcs = true → mBARE ≤ s.mode → s.higher r a f = true →
    s.rstate r = rCLAIM ∨ (s.rstate r = rMASTER ∧ s.startNow r = true) →
    ∃ t, exec (.higherStandingFrame r a f) s = .next t ∧ t.rstate r = rNODE ∧ t.rdN (KR_MST_SERL r) = f.serial % 4294967296 ∧ seen s t r f ∧
      s.raisedOne t (0xD2 + r) 0x68 cMINOR ∧ s.keeps t [KR_CNT_CLAIM r, KR_EPOCH r, KR_STAT r, KR_MST_SERL r, KR_MST_SERH r] ∧
      (∀ q, q ≠ r → t.ring q = s.ring q) ∧ t = { s with rings := t.rings, flt := t.flt, regs := t.regs }) ∧
  (∀ (s : State) (r : Fin 2) (f : RFrame) (a : Bool), f.hcrc = true → f.fcs = true → mBARE ≤ s.mode → s.rstate r = rMASTER → s.startNow r = false →
    s.higher r a f = true →
    ∃ t, exec (.higherStandingFrame r a f) s = .next t ∧ t.rstate r = rSILENT ∧ (s.role = 1 → t.f SYS_START_ROLE = 2) ∧ seen s t r f ∧
      s.raisedOne t (0xD2 + r) 0x69 cCRITICAL ∧ s.keeps t [KR_CNT_CLAIM r, KR_EPOCH r, KR_STAT r, SYS_START] ∧
      (∀ q, q ≠ r → t.ring q = s.ring q) ∧ t = { s with rings := t.rings, flt := t.flt, regs := t.regs }) ∧
  (∀ (s : State) (r : Fin 2) (f : RFrame) (a : Bool), f.hcrc = true → f.fcs = true → mBARE ≤ s.mode →
    s.higher r a f = false ∨ (s.rstate r ≠ rCLAIM ∧ s.rstate r ≠ rMASTER) →
    ∃ t, exec (.higherStandingFrame r a f) s = .next t ∧ seen s t r f ∧ t.rstate r = s.rstate r ∧
      (f.type = 0 → s.rstate r = rIDLE → (t.ring r).foreign = some f.epoch) ∧
      s.keeps t [KR_CNT_CLAIM r, KR_EPOCH r, KR_MST_SERL r, KR_MST_SERH r] ∧ (∀ q, q ≠ r → t.ring q = s.ring q) ∧
      t = { s with rings := t.rings, regs := t.regs }) ∧
  (∀ (s : State) (r : Fin 2), s.role = 1 → s.rstate r = rMASTER →
    2 ≤ (s.ring r).noCopy ∨ (2 ≤ (s.ring r).parts ∧ ∀ q, s.rstate q = rMASTER → 2 ≤ (s.ring q).parts) →
    ∃ t, exec (.ringSilenced r) s = .next t ∧ t.rstate r = rSILENT ∧ t.f RED_STAT_SILENCED = 1 ∧ s.raisedOne t 0xDC 0x79 cCRITICAL ∧
      s.keeps t [KR_STAT r, RED_STAT] ∧ t = { s with flt := t.flt, regs := t.regs }) ∧
  (∀ (s : State) (r : Fin 2), s.role ≠ 1 ∨ s.rstate r ≠ rMASTER ∨
    ((s.ring r).noCopy < 2 ∧ ((s.ring r).parts < 2 ∨ ∃ q, s.rstate q = rMASTER ∧ (s.ring q).parts < 2)) → exec (.ringSilenced r) s = .next s) ∧
  (∀ (s u : State) (r : Fin 2) (m : Nat), u = s.runTo m → ¬ ready u r → exec (.closeReady r m) s = .next u) ∧
  (∀ (s u : State) (r : Fin 2) (m : Nat), u = s.runTo m → ready u r → u.flag (KR_RING_AUTO_CLOSE r) = false ∨ u.flag (KR_RING_CLOSE_READY r) = true ∨
    (u.ring r).closeAt.isSome = true →
    ∃ t, exec (.closeReady r m) s = .next t ∧ t.f (KR_RING_CLOSE_READY r) = 1 ∧ u.keeps t [KR_RING r] ∧ t = { u with regs := t.regs }) ∧
  (∀ (s u : State) (r : Fin 2) (m : Nat), u = s.runTo m → ready u r → u.flag (KR_RING_AUTO_CLOSE r) = true → (u.ring r).closeAt = none →
    u.flag (KR_RING_CLOSE_READY r) = false →
    ∃ t, exec (.closeReady r m) s = .next t ∧ t.f (KR_RING_CLOSE_READY r) = 1 ∧ t.f (KR_RING_CLOSE_PEND r) = 1 ∧
      (t.ring r).closeAt = some ((u.rdN (KR_CYC r) + 8) % 4294967296) ∧ (∀ q, q ≠ r → t.ring q = u.ring q) ∧ u.keeps t [KR_RING r] ∧
      t = { u with rings := t.rings, regs := t.regs }) ∧
  (∀ (s : State) (r : Fin 2) (k : Nat), k ≠ 0x4B43 ∨ s.mapOpen = false ∨
    (s.flag (KR_RING_CLOSE_READY r) = true ∧ (s.ring r).closeAt.isSome = true) → exec (.krClose r k) s = .next s) ∧
  (∀ (s : State) (r : Fin 2), s.mapOpen = true → s.flag (KR_RING_CLOSE_READY r) = true → (s.ring r).closeAt = none →
    ∃ t, exec (.krClose r 0x4B43) s = .next t ∧ t.f (KR_RING_CLOSE_PEND r) = 1 ∧
      (t.ring r).closeAt = some ((s.rdN (KR_CYC r) + 8) % 4294967296) ∧ (∀ q, q ≠ r → t.ring q = s.ring q) ∧ s.keeps t [KR_RING r] ∧
      t = { s with rings := t.rings, regs := t.regs }) ∧
  (∀ (s : State) (r : Fin 2), s.mapOpen = true → s.flag (KR_RING_CLOSE_READY r) = false →
    ∃ t, exec (.krClose r 0x4B43) s = .next t ∧ t.f (KR_RING_CLOSE_REF r) = 1 ∧ s.keeps t [KR_RING r] ∧
      t = { s with time := { s.time with hits := t.time.hits }, regs := t.regs })

/-- The barrier. A refresh that is due to a die first carries out the wheel's field outputs, then carries the output levels that the mode and the hold give to that die's outputs. A good refresh from a die
shows its raw levels and gives the common fault bit; one with a wrong CRC is counted and gives no levels. In DEBOUNCE an input
without a test pulse changes its level with the DEB-th sample that differs and counts the ones before it. A die without a
refresh for t_BWD is lost: outputs are held, inputs invalid, and FIELD_BARRIER is raised. A write to the outputs sets the named
outputs that the DOOR block does not own, and in COMMISSION those with COMM alone; a refused one is shown in WR_REF. In RESET nothing happens.
The model's choices that clauses of it rest on are log 142, 144, 146, 147, 148, 271, 272. -/
def Obligations.FieldBarrierRuns : Prop :=
  let inRegs := fun (d : Fin 2) => [FIO_INRAW d, FIO_OUT_RB, FIO_STAT, FIO_IN 0, FIO_IN 1, FIO_CAUSE, FIO_DIAG_HI, FIO_DIAG_LO, FIO_VF, FIO_CNT_FF,
    FIO_TPMIS 0, FIO_TPMIS 1] ++ (List.range 32).map (fun i => FIO_INSTAT (32 * d.val + i)) ++ recRegs
  let named := fun (s : State) (g : Fin 3) (v : Word) (o : Nat) => s.f (FIO_OUTCFG_OWNER o) ≠ 2 ∧ (g = 0 ∨ v.toNat.testBit o = true)
  let shut := fun (s : State) (o : Nat) => s.mode = mCOMMISSION ∧ s.flag (FIO_OUTCFG_COMM o) = false
  (∀ (s u v : State) (d : Fin 2) (m : Nat), u = s.runTo m → v = u.foutRefresh d → u.mode ≠ mRESET → u.refreshDue d = true →
    ∃ t, exec (.barrierRefreshTx d m) s = .next t ∧
      (∀ o, o < 32 → t.fio.sent.testBit o = if o / 16 = d.val then v.outDrive.testBit o else v.fio.sent.testBit o) ∧
      (t.fio.dies.get d).txAt = some v.time.mono ∧ (∀ e, e ≠ d → t.fio.dies.get e = v.fio.dies.get e) ∧ t = { v with fio := t.fio }) ∧
  (∀ (s u : State) (d : Fin 2) (m : Nat), u = s.runTo m → u.mode = mRESET ∨ u.refreshDue d = false → exec (.barrierRefreshTx d m) s = .next u) ∧
  (∀ (s u : State) (d : Fin 2) (g : Bool) (i : Fin 8) (w : Word) (rb tp rot m : Nat) (ff : Bool), u = s.runTo m → u.mode = mRESET →
    exec (.barrierRefreshRx d g i w rb tp ff rot m) s = .next u) ∧
  (∀ (s u : State) (d : Fin 2) (i : Fin 8) (w : Word) (rb tp rot m : Nat) (ff : Bool), u = s.runTo m → u.mode ≠ mRESET →
    ∃ t, exec (.barrierRefreshRx d false i w rb tp ff rot m) s = .next t ∧
      t.rdN FIO_CNT_BAR = min (u.rdN FIO_CNT_BAR + 1) 4294967295 ∧ (t.fio.dies.get d).rx = (u.fio.dies.get d).rx ∧ t.fio.filt = u.fio.filt ∧
      u.keeps t [FIO_CNT_BAR, FIO_VF] ∧ t = { u with fio := t.fio, regs := t.regs }) ∧
  (∀ (s u : State) (d : Fin 2) (i : Fin 8) (w : Word) (rb tp rot m : Nat) (ff : Bool), u = s.runTo m → u.mode ≠ mRESET →
    ∃ t, exec (.barrierRefreshRx d true i w rb tp ff rot m) s = .next t ∧ t.rd (FIO_INRAW d) = w ∧
      (t.fio.dies.get d).rx = some u.time.mono ∧ (t.fio.dies.get d).lost = false ∧
      (∀ k, k < 32 → t.f (FIO_INSTAT_RAW (32 * d.val + k)) = b2n (w.toNat.testBit k)) ∧
      t.f FIO_STAT_FIELD_FAULT = b2n (ff || (u.fio.dies.get (1 - d)).ff) ∧
      (ff = true → (u.fio.dies.get (1 - d)).ff = false → u.flag FIO_STAT_FIELD_FAULT = false → t.f FIO_STAT_FF_LATCH = 1 ∧
        u.raisedOne t 0xD5 0x80 cMAJOR ∧ t.rdN FIO_CNT_FF = min (u.rdN FIO_CNT_FF + 1) 4294967295) ∧ u.keeps t (inRegs d) ∧
      t = { u with time := { u.time with hits := t.time.hits }, hq := t.hq, recorder := t.recorder, fio := t.fio, flt := t.flt, regs := t.regs }) ∧
  (∀ (s u : State) (d : Fin 2) (i : Fin 8) (w : Word) (rb tp rot m : Nat) (ff : Bool) (k : Nat) (hk : 32 * d.val + k < 64), u = s.runTo m → u.mode ≠ mRESET → k < 32 →
    u.f FIO_STAT_FMODE = fmDEBOUNCE → 4 ≤ u.f (FIO_INCFG_TP (32 * d.val + k)) → u.flag (FIO_INCFG_INV (32 * d.val + k)) = false →
    (u.fio.filt.get ⟨32 * d.val + k, hk⟩).out ≠ w.toNat.testBit k →
    ∃ t, exec (.barrierRefreshRx d true i w rb tp ff rot m) s = .next t ∧
      (t.fio.filt.get ⟨32 * d.val + k, hk⟩).out =
        (if u.f (FIO_INCFG_DEB (32 * d.val + k)) ≤ (u.fio.filt.get ⟨32 * d.val + k, hk⟩).cnt + 1 then w.toNat.testBit k
         else (u.fio.filt.get ⟨32 * d.val + k, hk⟩).out) ∧
      (t.fio.filt.get ⟨32 * d.val + k, hk⟩).cnt =
        (if u.f (FIO_INCFG_DEB (32 * d.val + k)) ≤ (u.fio.filt.get ⟨32 * d.val + k, hk⟩).cnt + 1 then 0
         else (u.fio.filt.get ⟨32 * d.val + k, hk⟩).cnt + 1) ∧
      t.f (FIO_INSTAT_LEVEL (32 * d.val + k)) = b2n (t.fio.filt.get ⟨32 * d.val + k, hk⟩).out) ∧
  (∀ (s u : State) (d : Fin 2) (m : Nat), u = s.runTo m → u.mode ≠ mRESET → (u.fio.dies.get d).lost = false →
    (u.fio.dies.get d).rx.getD 0 + u.usCycles 10 ≤ u.time.mono →
    ∃ t, exec (.fieldBarrier d m) s = .next t ∧ (t.fio.dies.get d).lost = true ∧ t.f FIO_STAT_OUT_HELD = 1 ∧ t.f FIO_STAT_IN_VALID = 0 ∧
      t.f FIO_STAT_BARRIER = 0 ∧ t.rdN (FIO_IN 0) = 0 ∧ t.rdN (FIO_IN 1) = 0 ∧ u.raisedOne t 0xD5 0x81 cMAJOR ∧
      u.keeps t [FIO_STAT, FIO_IN 0, FIO_IN 1] ∧ t = { u with fio := t.fio, flt := t.flt, regs := t.regs }) ∧
  (∀ (s u : State) (d : Fin 2) (m : Nat), u = s.runTo m → u.mode = mRESET ∨ (u.fio.dies.get d).lost = true ∨
    u.time.mono < (u.fio.dies.get d).rx.getD 0 + u.usCycles 10 → exec (.fieldBarrier d m) s = .next u) ∧
  (∀ (s : State) (g : Fin 3) (v : Word), s.mapOpen = false → exec (.fioOutWrite g v) s = .next s) ∧
  (∀ (s : State) (g : Fin 3) (v : Word), s.mapOpen = true →
    ∃ t, exec (.fioOutWrite g v) s = .next t ∧
      (∀ o, o < 32 → (named s g v o → ¬ shut s o → (t.rdN FIO_OUT).testBit o = (if g = 0 then v.toNat.testBit o else g == 1)) ∧
        (¬ named s g v o ∨ shut s o → (t.rdN FIO_OUT).testBit o = (s.rdN FIO_OUT).testBit o)) ∧
      ((∃ o, o < 32 ∧ named s g v o ∧ shut s o) → t.f FIO_STAT_WR_REF = 1 ∧ s.keeps t [FIO_OUT, FIO_STAT]) ∧
      ((∀ o, o < 32 → named s g v o → ¬ shut s o) → s.keeps t [FIO_OUT]) ∧
      t = { s with time := { s.time with hits := t.time.hits }, regs := t.regs })

/-- The field supply. Low: VF_STATE 1, the fault bit and its cause; above VF_LOWCLR: VF_STATE 0. Off: outputs held, inputs invalid, raised as a
condition that ends when the supply is on again; then RECOVER runs with every filter at 0 until its time is over, and starts anew if VFIELD comes on again. RESUME
releases the outputs with its key when supply and barrier are there, else it is refused. TEST is written in BARE and
COMMISSION alone. Each change of VF_STATE offers a FIO_SUPPLY record. A voltage on the other side of its threshold, or in RESET, changes nothing.
The model's choices that clauses of it rest on are log 143, 145, 269, 270. -/
def Obligations.FieldSupply : Prop :=
  let trec := fun (u : State) => ((List.range 64).map (fun i => u.f (FIO_INCFG_DEB i))).foldl max 1000
  let framed := fun (s t : State) => t = { s with time := { s.time with hits := t.time.hits }, hq := t.hq, recorder := t.recorder, fio := t.fio,
                                                  flt := t.flt, regs := t.regs }
  (∀ (s : State) (v : Nat), s.mode ≠ mRESET → s.vfState = 0 → v < 18300 →
    ∃ t, exec (.vfLow v) s = .next t ∧ t.vfState = 1 ∧ t.f FIO_STAT_FIELD_FAULT = 1 ∧ (t.f FIO_CAUSE_CAUSE).testBit 0 = true ∧
      (s.flag FIO_STAT_FIELD_FAULT = false → t.f FIO_STAT_FF_LATCH = 1 ∧ s.raisedOne t 0xD5 0x80 cMAJOR ∧
        t.rdN FIO_CNT_FF = min (s.rdN FIO_CNT_FF + 1) 4294967295) ∧
      (s.flag FIO_STAT_FIELD_FAULT = true → t.flt = s.flt ∧ ∃ p, s.recorded t 0x501 3 p) ∧
      s.keeps t (FIO_STAT :: FIO_VF :: FIO_CAUSE :: FIO_CNT_FF :: recRegs) ∧ framed s t) ∧
  (∀ (s : State) (v : Nat), s.mode = mRESET ∨ s.vfState ≠ 0 ∨ 18300 ≤ v → exec (.vfLow v) s = .next s) ∧
  (∀ (s : State) (v : Nat), s.mode ≠ mRESET → s.vfState = 1 → 18200 < v →
    ∃ t, exec (.vfLowclr v) s = .next t ∧ t.vfState = 0 ∧ (∃ p, s.recorded t 0x501 3 p) ∧ s.keeps t (FIO_STAT :: FIO_VF :: recRegs) ∧
      framed s t ∧ t.flt = s.flt) ∧
  (∀ (s : State) (v : Nat), s.mode = mRESET ∨ s.vfState ≠ 1 ∨ v ≤ 18200 → exec (.vfLowclr v) s = .next s) ∧
  (∀ (s : State) (v : Nat), s.mode ≠ mRESET → s.vfState ≠ 2 → v < 15300 →
    ∃ t, exec (.vfOff v) s = .next t ∧ t.vfState = 2 ∧ t.f FIO_STAT_OUT_HELD = 1 ∧ t.f FIO_STAT_IN_VALID = 0 ∧ t.f FIO_STAT_FIELD_FAULT = 1 ∧
      t.rdN (FIO_IN 0) = 0 ∧ t.rdN (FIO_IN 1) = 0 ∧ t.fio.recover = none ∧
      (s.flag FIO_STAT_FIELD_FAULT = true → s.raisedOne t 0xD5 0x82 cMAJOR) ∧
      (∃ x ∈ t.flt.path, x.source = 0xD5 ∧ x.kind = 0x82 ∧ x.cls = cMAJOR ∧ x.cond = true) ∧
      (∀ w, s.fio.resumedAt = some w → s.time.mono < w + 800 → t.f FIO_STAT_RESUME_REF = 1) ∧
      s.keeps t (FIO_STAT :: FIO_VF :: FIO_CAUSE :: FIO_CNT_FF :: FIO_IN 0 :: FIO_IN 1 :: recRegs) ∧ framed s t) ∧
  (∀ (s : State) (v : Nat), s.mode = mRESET ∨ s.vfState = 2 ∨ 15300 ≤ v → exec (.vfOff v) s = .next s) ∧
  (∀ (s u : State) (v m : Nat), u = s.runTo m → u.mode ≠ mRESET → 15700 < v → u.vfState = 2 →
    ∃ t, exec (.vfOn v m) s = .next t ∧ t.vfState = 1 ∧ t.fio.recover = some u.time.mono ∧ t.fio.filt = Bank.rep 64 {} ∧
      t.f FIO_STAT_FMODE = (if u.fio.start = true then 1 else 3) ∧ t.f FIO_STAT_IN_VALID = 0 ∧
      (∀ e ∈ t.flt.entries, e.source = 0xD5 → e.kind = 0x82 → e.cause = false) ∧ (∃ p, u.recorded t 0x501 3 p) ∧
      u.keeps t (FIO_STAT :: FIO_VF :: FIO_IN 0 :: FIO_IN 1 :: recRegs) ∧ framed u t) ∧
  (∀ (s u : State) (v m : Nat), u = s.runTo m → u.mode ≠ mRESET → 15700 < v → u.vfState ≠ 2 → u.fio.recover.isSome = true →
    ∃ t, exec (.vfOn v m) s = .next t ∧ t.fio.recover = some u.time.mono ∧ t.fio.filt = Bank.rep 64 {} ∧ t = { u with fio := t.fio }) ∧
  (∀ (s u : State) (v m : Nat), u = s.runTo m → u.mode = mRESET ∨ v ≤ 15700 ∨ (u.vfState ≠ 2 ∧ u.fio.recover = none) → exec (.vfOn v m) s = .next u) ∧
  (∀ (s u : State) (w m : Nat), u = s.runTo m → u.fio.recover = some w → w + u.usCycles (trec u) ≤ u.time.mono →
    ∃ t, exec (.recoverEnd m) s = .next t ∧ t.fio.recover = none ∧
      t.f FIO_STAT_FMODE = (if u.fio.start = true then 1 else if u.flag FIO_CTL_TEST = true then 2 else 0) ∧
      t.f FIO_STAT_IN_VALID = b2n ((u.fio.dies.get 0).rx.isSome && (u.fio.dies.get 1).rx.isSome && u.vfState != 2) ∧
      u.keeps t [FIO_STAT, FIO_IN 0, FIO_IN 1] ∧ t = { u with fio := t.fio, regs := t.regs }) ∧
  (∀ (s u : State) (m : Nat), u = s.runTo m → u.fio.recover = none ∨ (∃ w, u.fio.recover = some w ∧ u.time.mono < w + u.usCycles (trec u)) →
    exec (.recoverEnd m) s = .next u) ∧
  (∀ (s : State) (k : Nat), k ≠ 0x464F ∨ s.mapOpen = false → exec (.fioResume k) s = .next s) ∧
  (∀ s : State, s.mapOpen = true → s.vfState ≠ 2 → s.flag FIO_STAT_BARRIER = true →
    ∃ t, exec (.fioResume 0x464F) s = .next t ∧ t.f FIO_STAT_OUT_HELD = 0 ∧ t.fio.resumedAt = some s.time.mono ∧ (∃ p, s.recorded t 0x502 2 p) ∧
      s.keeps t (FIO_STAT :: recRegs) ∧ framed s t ∧ t.flt = s.flt) ∧
  (∀ s : State, s.mapOpen = true → s.vfState = 2 ∨ s.flag FIO_STAT_BARRIER = false →
    ∃ t, exec (.fioResume 0x464F) s = .next t ∧ t.f FIO_STAT_RESUME_REF = 1 ∧ s.keeps t [FIO_STAT] ∧
      t = { s with time := { s.time with hits := t.time.hits }, regs := t.regs }) ∧
  (∀ (s : State) (b : Bool), s.mapOpen = true → s.mode = mBARE ∨ s.mode = mCOMMISSION →
    ∃ t, exec (.fioTestWrite 0x464F b) s = .next t ∧ t.f FIO_CTL_TEST = b2n b ∧
      t.f FIO_STAT_FMODE = (if s.fio.start = true then 1 else if s.fio.recover.isSome = true then 3 else 2 * b2n b) ∧
      s.keeps t [FIO_CTL, FIO_STAT] ∧ t = { s with fio := t.fio, regs := t.regs }) ∧
  (∀ (s : State) (k : Nat) (b : Bool), k ≠ 0x464F ∨ s.mapOpen = false ∨ (s.mode ≠ mBARE ∧ s.mode ≠ mCOMMISSION) → exec (.fioTestWrite k b) s = .next s)

/-- The fault collector. FAULT_MESSAGE takes the next message of the path, one SYS cycle on where one has been taken in this one: a failed read-back of SANITISE, else of the oldest the one of
lowest source. Nothing is taken in RESET, during SANITISE or with nothing waiting. A repeat raises its entry's count and is told; a notice leaves no entry; any other message becomes the lowest free
entry. Unacknowledged entries of its class raise the level one above the highest and set ESC. L1 dispatches FLT_HANDLER; L2 takes the groups
of the scope to OFF, those of category 1 to SS1; L3 takes the device to FAULT with every group OFF; L4 sets HOLD as well, stops the wheel's master and
dispatch. With the table full L3 is applied, TBL_FULL set and FLT_TABLE_FULL raised.
The model's choices that clauses of it rest on are log 123, 124, 125, 128, 131, 266. -/
def Obligations.FaultCollected : Prop :=
  let told := fun (s t : State) => (t.queue 7).items.length = (s.queue 7).items.length + 1 ∨
    min (s.rdN FLT_CNT_LOST + 1) 4294967295 ≤ t.rdN FLT_CNT_LOST
  let entered := fun (t : State) (m : FaultMsg) (i lvl : Nat) (esc : Bool) => ∃ e ∈ t.flt.entries, e.idx = i ∧ e.source = m.source ∧ e.kind = m.kind ∧
    e.cls = m.cls ∧ e.level = lvl ∧ e.esc = esc ∧ e.ctx = m.ctx ∧ e.acked = false
  let anew := fun (s : State) (m : FaultMsg) => ∀ e ∈ s.flt.entries, e.source ≠ m.source ∨ e.kind ≠ m.kind
  let runs := fun (s : State) => s.mode = mBARE ∨ s.mode = mLOAD ∨ s.mode = mCOLD_STANDBY ∨ s.mode = mTAKEOVER ∨ s.mode = mCOMMISSION ∨ s.mode = mRUN ∨
    s.mode = mCHANGEOVER ∨ s.mode = mSAFE_HOLD
  let few := [FLT_CNT_MSG, FLT_CNT_LOST, FLT_CNT_ESC, FLT_ERR, FLT_STAT, HQ_CNT_REF 7, HQ_HWM 7]
  let quiet := fun (s t : State) => t = { s with time := { s.time with hits := t.time.hits }, flt := t.flt, acq := t.acq, hq := t.hq, regs := t.regs }
  (∀ s u : State, u = s.swapFirst → u.mode = mRESET ∨ (u.mode = mSANITISE ∧ u.sys.sanitiseFail = none) ∨ u.flt.path = [] →
    exec .faultMessage s = .next u) ∧
  (∀ (s u v : State), u = s.swapFirst → v = (if u.flt.takenAt = some u.time.mono then u.cycles 1 else u) → u.mode ≠ mRESET →
    u.mode ≠ mSANITISE ∨ u.sys.sanitiseFail ≠ none → u.flt.path ≠ [] →
    ∃ m ms, u.nextFault = some (m, ms) ∧
      exec .faultMessage s = .next ({ v with flt := { v.flt with path := ms, takenAt := some v.time.mono } }.takeFault m)) ∧
  (∀ (s : State) (m : FaultMsg) (ms : List FaultMsg), s.nextFault = some (m, ms) →
    (∃ a b, s.flt.path = a ++ m :: b ∧ ms = a ++ b) ∧
    ((m.source = 0xD9 ∧ m.kind = 0x02) ∨
      (s.flt.path.head?.map (fun (x : FaultMsg) => x.at_) = some m.at_ ∧ ∀ x ∈ s.flt.path, x.at_ = m.at_ → m.source ≤ x.source))) ∧
  (∀ (s : State) (m : FaultMsg) (e : FltEntry), s.flt.entries.find? (fun (x : FltEntry) => x.source == m.source && x.kind == m.kind) = some e →
    ∃ t, s.takeFault m = t ∧ t.flt.path = s.flt.path ∧ t.flt.seq = (s.flt.seq + 1) % 4294967296 ∧ told s t ∧
      t.flt.entries = s.flt.entries.map (fun (x : FltEntry) => if x.idx = e.idx then
        { x with count := min 4294967295 (x.count + 1), cause := x.cause || m.cond, again := some (s.time.mono, m) } else x) ∧
      t.rdN FLT_CNT_MSG = min (s.rdN FLT_CNT_MSG + 1) 4294967295 ∧ s.keeps t [FLT_CNT_MSG, FLT_CNT_LOST, HQ_CNT_REF 7, HQ_HWM 7] ∧
      t = { s with flt := t.flt, acq := t.acq, hq := t.hq, regs := t.regs }) ∧
  (∀ (s : State) (m : FaultMsg), anew s m → m.level = 0 →
    ∃ t, s.takeFault m = t ∧ t.flt.path = s.flt.path ∧ t.flt.entries = s.flt.entries ∧ told s t ∧
      t.rdN FLT_CNT_MSG = min (s.rdN FLT_CNT_MSG + 1) 4294967295 ∧ s.keeps t few ∧ quiet s t) ∧
  (∀ (s : State) (m : FaultMsg), s.standing m = [] → s.escalated m = m.level) ∧
  (∀ (s : State) (m : FaultMsg) (x : FltEntry), x ∈ s.standing m → (∀ e ∈ s.standing m, e.level ≤ x.level) →
    s.escalated m = min 4 (max m.level x.level + 1)) ∧
  (∀ (s : State) (m : FaultMsg) (i : Nat), anew s m → m.level ≠ 0 → s.freeEntry = some i →
    ∃ t, s.takeFault m = t ∧ entered t m i (s.escalated m) (!(s.standing m).isEmpty) ∧ told s t ∧
      t.rdN FLT_CNT_MSG = min (s.rdN FLT_CNT_MSG + 1) 4294967295 ∧ (s.standing m ≠ [] → t.f FLT_STAT_ESC = 1) ∧
      (s.escalated m = 1 → s.st.fltHandler = none → s.keeps t few ∧ quiet s t) ∧
      (∀ r, s.escalated m = 1 → s.st.fltHandler = some r → s.flag SCHED_STAT_STOPPED = false →
        (s.sched.ready.filter (fun (w : Work) => w.src == 16)).length < 16 →
        t.sched.ready.length = s.sched.ready.length + 1 ∧ t.sched.nextId = s.sched.nextId + 1 ∧
        (∃ w ∈ t.sched.ready, w.src = 16 ∧ w.handler = r.handler ∧ w.key = r.key ∧ w.payload.length = 32) ∧ s.keeps t few ∧
        t = { s with time := { s.time with hits := t.time.hits }, sched := t.sched, flt := t.flt, acq := t.acq, hq := t.hq, regs := t.regs }) ∧
      (s.escalated m = 2 → (∀ g : Fin 4, m.scope.testBit g = true → (m.cat1.testBit g = false → (t.group 0 g).state = 0 ∧ (t.group 1 g).state = 0) ∧
        ∀ c : Fin 2, (t.group c g).state ≠ 1 ∧ (t.group c g).state ≠ 2) ∧ t.swapArmed = false ∧
        (s.swapArmed = false → s.armGroups = 0 → t.mode = s.mode)) ∧
      (3 ≤ s.escalated m → (∀ (c : Fin 2) (g : Fin 4), (t.group c g).state = 0) ∧ (runs s → t.mode = mFAULT ∧ t.f SYS_MODE_PREV = s.mode ∧ t.swapArmed = false) ∧
        (¬ runs s → s.mode ≠ mSANITISE → t.mode = s.mode)) ∧
      (s.escalated m = 4 → runs s ∨ s.mode = mSANITISE ∨ s.mode = mFAULT → s.flag SYS_MODE_HOLD = false →
        t.mode = mFAULT ∧ t.f SYS_MODE_HOLD = 1 ∧ t.f SCHED_STAT_STOPPED = 1 ∧ t.mst = msHOLD)) ∧
  (∀ (s : State) (m : FaultMsg), anew s m → m.level ≠ 0 → s.freeEntry = none →
    ∃ t, s.takeFault m = t ∧ t.f FLT_STAT_TBL_FULL = 1 ∧ (runs s → t.mode = mFAULT) ∧ (∀ (c : Fin 2) (g : Fin 4), (t.group c g).state = 0) ∧
      (m.kind ≠ 0x05 → ∃ x ∈ t.flt.path, x.source = 0xDD ∧ x.kind = 0x05 ∧ x.cls = cCRITICAL) ∧ t.flt.entries = s.flt.entries ∧ told s t)

/-- Around the collector. A message of HQ7 becomes a FAULT record and a copy in the FIFO, whose first entry fires vector 1; a full FIFO drops
the copy and counts. Axes that meet the supervision leave it, and one of an entry's scope that has not stopped within L1STOP raises once. FLT_ACK acknowledges the
named classes' entries from before this cycle; FLT_CLR removes the named entries without a cause, code 1 while some remain and 2 where none was named.
FLT_RAISE raises with its key; ERR_SW is written, and the minimum interval of ERR_N ends. A read of FLT_MSG0 takes the
oldest message out of the FIFO. Without the map open or the key nothing changes.
The model's choices that clauses of it rest on are log 127, 129, 266. -/
def Obligations.FaultHandling : Prop :=
  let after := fun (s : State) (live : List Nat) => s.flt.entries.map (fun (e : FltEntry) => if e.cause ∧ !live.contains e.idx then { e with cause := false } else e)
  let named := fun (all : Bool) (n : Nat) (e : FltEntry) => all || e.idx == n % 128
  let stays := fun (s : State) (e : FltEntry) => e.cause || e.endedAt == some s.time.mono
  (∀ (s : State) (k : Nat) (x : FltMsg) (is : List QItem), (s.queue 7).items = ⟨k, .fault x⟩ :: is → s.flt.fifo.length < 256 →
    ∃ t r, exec .faultLogEntry s = .next t ∧ (t.queue 7).items = is ∧ t.flt.fifo = s.flt.fifo ++ [x] ∧
      t.recorder.faultReady = s.recorder.faultReady ++ [r] ∧ r.code = 0x10 ∧ r.prio = 3 ∧ r.time = x.time ∧
      (s.flt.fifo = [] → t.host.msix.get 1 = s.host.msix.get 1 + 1) ∧ (s.flt.fifo ≠ [] → t.host = s.host) ∧
      t = { s with hq := t.hq, recorder := t.recorder, flt := t.flt, host := t.host }) ∧
  (∀ (s : State) (k : Nat) (x : FltMsg) (is : List QItem), (s.queue 7).items = ⟨k, .fault x⟩ :: is → 256 ≤ s.flt.fifo.length →
    ∃ t, exec .faultLogEntry s = .next t ∧ (t.queue 7).items = is ∧ t.f FLT_MSG_LVL_OVF = 1 ∧
      t.rdN FLT_CNT_LOST = min (s.rdN FLT_CNT_LOST + 1) 4294967295 ∧ s.keeps t [FLT_MSG_LVL, FLT_CNT_LOST] ∧
      t = { s with time := { s.time with hits := t.time.hits }, hq := t.hq, recorder := t.recorder, regs := t.regs }) ∧
  (∀ (s : State) (k : Nat) (b : Body) (is : List QItem), (s.queue 7).items = ⟨k, b⟩ :: is → (∀ x, b ≠ .fault x) →
    ∃ t, exec .faultLogEntry s = .next t ∧ (t.queue 7).items = is ∧ t = { s with hq := t.hq }) ∧
  (∀ s : State, (s.queue 7).items = [] → exec .faultLogEntry s = .next s) ∧
  (∀ (s u : State) (e m : Nat) (x : FltEntry), u = (s.runTo m).superviseL1 → u.flt.entries.find? (fun (x : FltEntry) => x.idx == e) = some x → x.pend ≠ [] →
    x.firstMono + u.msCycles (max 1 (u.f FLT_CFG_L1STOP)) ≤ u.time.mono →
    ∃ t, exec (.fltL1Timeout e m) s = .next t ∧ (∀ z ∈ t.flt.entries, z.idx = e → z.pend = []) ∧ u.raisedOne t 0xDD 0x06 cMAJOR ∧
      t.flt.entries.map (fun (z : FltEntry) => z.idx) = u.flt.entries.map (fun (z : FltEntry) => z.idx) ∧ t = { u with flt := t.flt }) ∧
  (∀ (s u : State) (e m : Nat), u = (s.runTo m).superviseL1 →
    (∀ x, u.flt.entries.find? (fun (x : FltEntry) => x.idx == e) = some x →
      x.pend = [] ∨ u.time.mono < x.firstMono + u.msCycles (max 1 (u.f FLT_CFG_L1STOP))) → exec (.fltL1Timeout e m) s = .next u) ∧
  (∀ (s : State) (e : FltEntry) (a : Nat), e ∈ s.superviseL1.flt.entries → a ∈ e.pend → s.l1Met a = false) ∧
  (∀ (s : State) (c : Nat), s.mapOpen = true → ∃ t, exec (.fltAck 0x464B c) s = .next t ∧
    t.flt.entries = s.flt.entries.map (fun (e : FltEntry) => if e.acked = false ∧ c.testBit e.cls = true ∧ e.firstMono < s.time.mono then
      { e with acked := true, ackAt := some s.time.mono } else e) ∧ t.flt.path = s.flt.path ∧ t.f FLT_RES_CODE = 0 ∧ t.f FLT_RES_DONE = 1 ∧
    s.keeps t [FLT_RES] ∧ t = { s with time := { s.time with hits := t.time.hits }, flt := t.flt, regs := t.regs }) ∧
  (∀ (s : State) (k c : Nat), k ≠ 0x464B ∨ s.mapOpen = false → exec (.fltAck k c) s = .next s) ∧
  (∀ (s : State) (e : Nat) (all : Bool) (live : List Nat), s.mapOpen = true →
    ∃ t, exec (.fltClr 0x464B e all live) s = .next t ∧
      t.flt.entries = (after s live).filter (fun (x : FltEntry) => !named all e x || stays s x) ∧
      t.f FLT_RES_REMAIN = ((after s live).filter (fun (x : FltEntry) => named all e x && stays s x)).length % 256 ∧
      t.f FLT_RES_CODE = (if all = false ∧ (∀ x ∈ s.flt.entries, x.idx ≠ e % 128) then 2
        else if ∃ x ∈ after s live, named all e x = true ∧ stays s x = true then 1 else 0) ∧ t.f FLT_RES_DONE = 1 ∧
      ((∀ x ∈ s.flt.entries, ∀ a m, x.again = some (a, m) → a ≠ s.time.mono) → t.flt.path = s.flt.path) ∧
      s.keeps t [FLT_RES] ∧ t = { s with time := { s.time with hits := t.time.hits }, flt := t.flt, regs := t.regs }) ∧
  (∀ (s : State) (k e : Nat) (a : Bool) (live : List Nat), k ≠ 0x464B ∨ s.mapOpen = false → exec (.fltClr k e a live) s = .next s) ∧
  (∀ (s : State) (v : Word), s.mapOpen = true → v.toNat / 65536 = 0x464B → 0xF0 ≤ v.toNat % 256 →
    ∃ t, exec (.fltRaise v) s = .next t ∧ s.raisedOne t 0x200 (v.toNat % 256) (v.toNat / 256 % 4) ∧ t = { s with flt := t.flt }) ∧
  (∀ (s : State) (v : Word), s.mapOpen = false ∨ v.toNat / 65536 ≠ 0x464B ∨ v.toNat % 256 < 0xF0 → exec (.fltRaise v) s = .next s) ∧
  (∀ s : State, ∀ l : Bool, s.mapOpen = true → ∃ t, exec (.errSwWrite l) s = .next t ∧ t.f FLT_ERR_ERR_SW = b2n (l || s.hitNow FLT_ERR_ERR_SW) ∧
    s.keeps t [FLT_ERR] ∧ t = { s with regs := t.regs }) ∧
  (∀ (s : State) (l : Bool), s.mapOpen = false → exec (.errSwWrite l) s = .next s) ∧
  (∀ (s u : State) (w m : Nat), u = s.runTo m → u.flt.errMin = some w → w ≤ u.time.mono →
    ∃ t, exec (.errminEnd m) s = .next t ∧ t.flt = { u.flt with errMin := none } ∧ t.f FLT_STAT_ERR_MIN = 0 ∧ u.keeps t [FLT_STAT] ∧
      t = { u with flt := t.flt, regs := t.regs }) ∧
  (∀ (s u : State) (m : Nat), u = s.runTo m → u.flt.errMin = none ∨ (∃ w, u.flt.errMin = some w ∧ u.time.mono < w) → exec (.errminEnd m) s = .next u) ∧
  (∀ s : State, s.mapOpen = false → exec .fltMsgRead s = .next { s with rdData := 0 }) ∧
  (∀ s : State, s.mapOpen = true → s.flt.fifo = [] → ∃ t, exec .fltMsgRead s = .next t ∧ t.rdData = 0 ∧ t.flt.captured = List.replicate 8 0 ∧
    t = { s with flt := t.flt, rdData := t.rdData }) ∧
  (∀ (s : State) (x : FltMsg) (xs : List FltMsg), s.mapOpen = true → s.flt.fifo = x :: xs →
    ∃ t, exec .fltMsgRead s = .next t ∧ t.rdData = x.words.getD 0 0 ∧ t.flt.captured = x.words ∧ t.flt.fifo = xs ∧
      t = { s with flt := t.flt, rdData := t.rdData })

/-- The loader. CFG_LOAD works from BARE alone, on a unit that is not a standby and in a life-cycle state that loads images. A load whose checks
pass brings the structure into force: COMMISSION by a cold or warm start, or COLD_STANDBY with its rings in NODE on a standby; one that
fails shows the code of the first failing step and returns to BARE with the running image as it was. CFG_SHADOW, refused with BUSY during a load or changeover and with MODE outside COMMISSION and RUN, removes the
present shadow and loads another; without nodes it is the shadow at once, else it waits for them. A node that has not confirmed when its time is over
ends the load with its address. DISCARD drops the shadow unless a swap is armed.
The model's choices that clauses of it rest on are log 32, 33, 35, 36, 37, 42, 195, 196, 197, 198, 201. -/
def Obligations.LoaderRuns : Prop :=
  let failed := fun (s t : State) (code : Nat) => t.f CFG_ERR_CODE = code ∧ t.cfg.run = s.cfg.run ∧ t.cfg.shadow = s.cfg.shadow ∧ t.cfg.loading = none ∧ t.cfg.nodesFor = none ∧
    t.f CFG_STAT_BUSY = 0 ∧ t.f CFG_STAT_DONE = 1 ∧ (s.mode = mLOAD → t.mode = mBARE) ∧
    (s.mode ≠ mLOAD → t.mode = s.mode ∧ (code ≠ 0xB → s.keeps t [CFG_STAT, CFG_ERR] ∧
      t = { s with time := { s.time with hits := t.time.hits }, cfg := t.cfg, regs := t.regs }))
  let here := fun (s : State) (slot : Nat) => s.cfg.loading = some slot ∧ s.mode = mLOAD
  let shadows := fun (s : State) (slot : Nat) => s.cfg.loading = some slot ∧ s.cfg.isShadow = true
  let trusted := fun (s : State) (v : LoadVerdict) (slot : Nat) => s.sys.autostart = true ∨ s.authCheck slot v.rsa v.slh = 0
  let fits := fun (s : State) (v : LoadVerdict) => s.f WHEEL_PART_COUNT + State.imgF v.st WHEEL_PART_COUNT ≤ 8388608
  let answer := fun (s : State) (c : Instr) (code : Nat) => ∃ t, exec c s = .next t ∧ t.rdN CFG_ERR = code ∧ s.keeps t [CFG_ERR] ∧ t = { s with regs := t.regs }
  (∀ s : State, s.mapOpen = false → exec .cfgLoad s = .next s ∧ exec .cfgShadow s = .next s ∧ exec .cfgDiscard s = .next s) ∧
  (∀ s : State, s.mapOpen = true → s.mode = mBARE → s.startRole ≠ 2 → s.lcLoads = true →
    ∃ t, exec .cfgLoad s = .next t ∧ t.mode = mLOAD ∧ t.f SYS_MODE_PREV = mBARE ∧ t.cfg = { s.cfg with loading := some (s.f CFG_SLOT_LOAD_SLOT), isShadow := false } ∧
      t.sys.autostart = false ∧ t.f CFG_STAT_LDR = 1 ∧ t.f CFG_STAT_BUSY = 1 ∧ t.f CFG_STAT_DONE = 0 ∧ t.rdN CFG_ERR = 0) ∧
  (∀ s : State, s.mapOpen = true → s.mode ≠ mBARE ∨ s.startRole = 2 ∨ s.lcLoads = false → answer s .cfgLoad 0x10) ∧
  (∀ (s : State) (v : LoadVerdict), s.cfg.loading = none ∨ s.mode ≠ mLOAD → exec (.loadComplete v) s = .next s) ∧
  (∀ (s : State) (v : LoadVerdict) (slot : Nat), here s slot → trusted s v slot → s.bodyCheck slot v = (0, 0) → s.startRole ≠ 2 →
    ∃ t, exec (.loadComplete v) s = .next t ∧ t.mode = mCOMMISSION ∧ t.cfg.run = some (s.imageOf slot v.st) ∧ t.cfg.loading = none) ∧
  (∀ (s : State) (v : LoadVerdict) (slot : Nat), here s slot → trusted s v slot → s.bodyCheck slot v = (0, 0) → s.startRole ≠ 2 →
    s.warmAsked = false ∨ (∀ d k, s.newestLoam = some (d, k) → k.hash ≠ (s.imageOf slot v.st).hash) →
    ∃ t, exec (.loadComplete v) s = .next t ∧ t.f CFG_STAT_LDR = 0 ∧ t.f CFG_STAT_BUSY = 0 ∧ t.f CFG_STAT_DONE = 1 ∧ t.rdN CFG_ERR = 0 ∧
      t.f SYS_START_STAT_KIND = (if s.warmAsked = true ∧ s.newestLoam.isSome = true then 3 else 1)) ∧
  (∀ (s : State) (v : LoadVerdict) (slot : Nat), here s slot → trusted s v slot → s.bodyCheck slot v = (0, 0) → s.startRole = 2 →
    ∃ t, exec (.loadComplete v) s = .next t ∧ t.mode = mCOLD_STANDBY ∧ t.cfg.run = some (s.imageOf slot v.st) ∧ t.cfg.loading = none ∧
      (∀ r : Fin 2, (t.ringDef r).area ≠ 0 → t.rstate r = rNODE) ∧ t.f CFG_STAT_BUSY = 0 ∧ t.f RED_STAT_ROLE = 2) ∧
  (∀ (s : State) (v : LoadVerdict) (slot : Nat), here s slot → s.sys.autostart = false → s.authCheck slot v.rsa v.slh ≠ 0 →
    ∃ t, exec (.loadComplete v) s = .next t ∧ failed s t (s.authCheck slot v.rsa v.slh)) ∧
  (∀ (s : State) (v : LoadVerdict) (slot k d : Nat), here s slot → trusted s v slot → s.bodyCheck slot v = (k, d) → k ≠ 0 →
    ∃ t, exec (.loadComplete v) s = .next t ∧ failed s t k ∧ t.f CFG_ERR_DETAIL = d % 256) ∧
  (∀ s : State, s.mapOpen = true → s.cfg.loading.isSome = true ∨ s.cfg.nodesFor.isSome = true ∨ s.mode = mCHANGEOVER → answer s .cfgShadow 0x11) ∧
  (∀ s : State, s.mapOpen = true → s.cfg.loading = none → s.cfg.nodesFor = none → s.mode ≠ mCHANGEOVER → s.mode ≠ mCOMMISSION → s.mode ≠ mRUN →
    answer s .cfgShadow 0x10) ∧
  (∀ s : State, s.mapOpen = true → s.mode = mCOMMISSION ∨ s.mode = mRUN → s.cfg.loading = none → s.cfg.nodesFor = none →
    ∃ t, exec .cfgShadow s = .next t ∧ t.cfg = { s.cfg with shadow := none, loading := some (s.f CFG_SLOT_SHADOW_SLOT), isShadow := true } ∧
      t.f CFG_STAT_LDR = 1 ∧ t.f CFG_STAT_BUSY = 1 ∧ t.rdN CFG_ERR = 0 ∧
      s.keeps t ([CFG_STAT, CFG_ERR, CFG_SH_SID] ++ (List.range 12).map CFG_SH_HASH) ∧ t = { s with cfg := t.cfg, rings := t.rings, regs := t.regs }) ∧
  (∀ (s : State) (v : LoadVerdict), s.cfg.loading = none ∨ s.cfg.isShadow = false → exec (.shadowLoadComplete v) s = .next s) ∧
  (∀ (s : State) (v : LoadVerdict) (slot : Nat), shadows s slot → s.authCheck slot v.rsa v.slh ≠ 0 →
    ∃ t, exec (.shadowLoadComplete v) s = .next t ∧ failed s t (s.authCheck slot v.rsa v.slh)) ∧
  (∀ (s : State) (v : LoadVerdict) (slot k d : Nat), shadows s slot → s.authCheck slot v.rsa v.slh = 0 → s.bodyCheck slot v = (k, d) → k ≠ 0 →
    ∃ t, exec (.shadowLoadComplete v) s = .next t ∧ failed s t k ∧ t.f CFG_ERR_DETAIL = d % 256) ∧
  (∀ (s : State) (v : LoadVerdict) (slot : Nat), shadows s slot → s.authCheck slot v.rsa v.slh = 0 → s.bodyCheck slot v = (0, 0) → ¬ fits s v →
    ∃ t, exec (.shadowLoadComplete v) s = .next t ∧ failed s t 0xE) ∧
  (∀ (s : State) (v : LoadVerdict) (slot : Nat), shadows s slot → s.authCheck slot v.rsa v.slh = 0 → s.bodyCheck slot v = (0, 0) → fits s v →
    s.wiringOk v.st = false → ∃ t, exec (.shadowLoadComplete v) s = .next t ∧ failed s t 0xC) ∧
  (∀ (s : State) (v : LoadVerdict) (slot : Nat), shadows s slot → s.authCheck slot v.rsa v.slh = 0 → s.bodyCheck slot v = (0, 0) → fits s v →
    s.wiringOk v.st = true → (∀ d ∈ v.st.rings, d.ring < 2 ∧ d.nodes = []) →
    ∃ t, exec (.shadowLoadComplete v) s = .next t ∧ t.cfg.shadow = some (s.imageOf slot v.st) ∧ t.cfg.nodesFor = none ∧ t.cfg.loading = none ∧
      t.f CFG_STAT_LDR = 4 ∧ t.f CFG_STAT_SHADOW_VALID = 1 ∧ t.f CFG_STAT_BUSY = 0 ∧ t.f CFG_STAT_DONE = 1 ∧ t.cfg.run = s.cfg.run ∧
      s.keeps t ([CFG_STAT, CFG_ERR, CFG_SH_SID] ++ (List.range 12).map CFG_SH_HASH) ∧
      t = { s with time := { s.time with hits := t.time.hits }, cfg := t.cfg, rings := t.rings, regs := t.regs }) ∧
  (∀ (s : State) (v : LoadVerdict) (slot : Nat), shadows s slot → s.authCheck slot v.rsa v.slh = 0 → s.bodyCheck slot v = (0, 0) → fits s v →
    s.wiringOk v.st = true → (∀ d ∈ v.st.rings, d.ring < 2 ∧ ∀ n ∈ d.nodes, n < 512) → (∃ d ∈ v.st.rings, d.nodes ≠ []) →
    ∃ t, exec (.shadowLoadComplete v) s = .next t ∧ t.cfg = { s.cfg with loading := none, nodesFor := some (s.imageOf slot v.st), nodesFrom := s.time.mono } ∧
      t.f CFG_STAT_LDR = 3 ∧ (∀ d ∈ v.st.rings, ∀ n ∈ d.nodes, t.f (KR_NODE_PEND_ACK d.ring n) = 0) ∧
      s.keeps t (CFG_STAT :: v.st.rings.flatMap (fun (d : RingDef) => d.nodes.map (KR_NODE d.ring))) ∧
      t = { s with cfg := t.cfg, rings := t.rings, regs := t.regs }) ∧
  (∀ (s u : State) (r : Fin 2) (n m : Nat) (i : Image), u = s.runTo m → u.cfg.nodesFor = some i →
    i.st.rings.any (fun (d : RingDef) => d.ring == r.val && d.nodes.contains n) = true → n < 512 → u.flag (KR_NODE_PEND_ACK r n) = false →
    ∃ t, exec (.nodePending r n m) s = .next t ∧ failed u t 0xF ∧ t.f CFG_ERR_NODE_ADDR = n ∧ t.f CFG_ERR_NODE_RING = r.val) ∧
  (∀ (s u : State) (r : Fin 2) (n m : Nat), u = s.runTo m →
    (∀ i, u.cfg.nodesFor = some i → 512 ≤ n ∨ u.flag (KR_NODE_PEND_ACK r n) = true ∨
      i.st.rings.any (fun (d : RingDef) => d.ring == r.val && d.nodes.contains n) = false) → exec (.nodePending r n m) s = .next u) ∧
  (∀ s : State, s.mapOpen = true → s.swapArmed = true → answer s .cfgDiscard 0x11) ∧
  (∀ s : State, s.mapOpen = true → s.swapArmed = false → ∃ t, exec .cfgDiscard s = .next t ∧ t.cfg = { s.cfg with shadow := none } ∧ t.rdN CFG_ERR = 0 ∧
    (s.cfg.shadow ≠ none → t.f CFG_STAT_SHADOW_VALID = 0 ∧ t.f CFG_STAT_SHADOW_SLOT = 15 ∧
      t.f CFG_STAT_LDR = (if s.f CFG_STAT_LDR = 6 then 6 else 0)) ∧
    (s.cfg.shadow = none → s.keeps t [CFG_ERR]) ∧ s.keeps t ([CFG_STAT, CFG_ERR, CFG_SH_SID] ++ (List.range 12).map CFG_SH_HASH) ∧
    t = { s with cfg := t.cfg, rings := t.rings, regs := t.regs })

/-- The changeover. ARM_CO is judged in the order mode, degraded ring, shadow, switch code, parked axes; accepted, it enters CHANGEOVER with
the swap armed. Cancel and timeout abandon the armed swap and return to RUN under the running image. At the swap instant the
shadow runs and the old image becomes the shadow; both channels then take the new image's set. With its conditions met within t_POST the
device returns to RUN; when they are not met in its time it enters SAFE_HOLD with code 0x16. Else nothing changes.
The model's choices that clauses of it rest on are log 37, 38, 39, 41, 43, 198, 199, 200, 202, 203, 204. -/
def Obligations.ChangeoverRuns : Prop :=
  let answer := fun (s : State) (c : Instr) (code : Nat) => ∃ t, exec c s = .next t ∧ t.rdN CFG_ERR = code ∧ s.keeps t [CFG_ERR] ∧ t = { s with regs := t.regs }
  let abandoned := fun (s t : State) (code : Nat) => (s.mode = mCHANGEOVER → t.mode = mRUN) ∧ (s.mode ≠ mCHANGEOVER → t.mode = s.mode) ∧ t.swapArmed = false ∧
    t.f CFG_STAT_ABORTED = 1 ∧ t.rdN CFG_ERR = code ∧ t.cfg = s.cfg ∧ t.safe.pend = none
  (∀ s : State, s.mapOpen = false → exec .cfgArmCo s = .next s ∧ exec .cfgCancelCo s = .next s) ∧
  (∀ s : State, s.mapOpen = true → s.mode ≠ mRUN → answer s .cfgArmCo 0x10) ∧
  (∀ s : State, s.mapOpen = true → s.mode = mRUN → s.coDegraded = true → answer s .cfgArmCo 0x13) ∧
  (∀ s : State, s.mapOpen = true → s.mode = mRUN → s.coDegraded = false → s.cfg.shadow = none ∨ s.f CFG_STAT_LDR ≠ 4 → answer s .cfgArmCo 0x18) ∧
  (∀ (s : State) (i : Image), s.mapOpen = true → s.mode = mRUN → s.coDegraded = false → s.cfg.shadow = some i → s.f CFG_STAT_LDR = 4 →
    s.shadowHas s.safe.code = false → answer s .cfgArmCo 0xD) ∧
  (∀ (s : State) (i : Image), s.mapOpen = true → s.mode = mRUN → s.coDegraded = false → s.cfg.shadow = some i → s.f CFG_STAT_LDR = 4 →
    s.shadowHas s.safe.code = true → s.coParked s.st i.st = false → answer s .cfgArmCo 0x12) ∧
  (∀ (s : State) (i : Image), s.mapOpen = true → s.mode = mRUN → s.coDegraded = false → s.cfg.shadow = some i → s.f CFG_STAT_LDR = 4 →
    s.shadowHas s.safe.code = true → s.coParked s.st i.st = true →
    ∃ t, exec .cfgArmCo s = .next t ∧ t.mode = mCHANGEOVER ∧ t.f SYS_MODE_PREV = mRUN ∧ t.swapArmed = true ∧ t.rdN CFG_ERR = 0 ∧
      t.cfg = { s.cfg with carried := t.cfg.carried, tried := none } ∧ (∀ a, a ∈ t.cfg.carried ↔ a < 96 ∧ State.carriedAxis s.st i.st a = true)) ∧
  (∀ s : State, s.mapOpen = true → s.swapArmed = true → ∃ t, exec .cfgCancelCo s = .next t ∧ abandoned s t 0x15) ∧
  (∀ s : State, s.mapOpen = true → s.swapArmed = false → ∃ t, exec .cfgCancelCo s = .next t ∧ t.rdN CFG_ERR < 256 ∧ s.keeps t [CFG_ERR] ∧ t = { s with regs := t.regs }) ∧
  (∀ (s : State) (k : Nat), s.swapArmed = true → s.cfg.tried = some k → s.f CFG_SWAP_LIM_LIMIT ≤ k → s.swapDue = false →
    ∃ t, exec .coTimeout s = .next t ∧ abandoned s t 0x14) ∧
  (∀ s : State, s.swapArmed = false ∨ s.swapDue = true ∨ (∀ k, s.cfg.tried = some k → k < s.f CFG_SWAP_LIM_LIMIT) → exec .coTimeout s = .next s) ∧
  (∀ s : State, s.onGrid Config.msUnits = false ∨ s.loopsRun = false → s.eligibleCycle = s) ∧
  (∀ (s u : State), u = s.eligibleCycle → u.cfg.run = none ∨ u.cfg.shadow = none ∨ u.swapDue = false → exec .swapInstant s = .next u) ∧
  (∀ (s u : State) (old new : Image), u = s.eligibleCycle → u.cfg.run = some old → u.cfg.shadow = some new → u.swapDue = true →
    ∃ t, exec .swapInstant s = .next t ∧ t.cfg.run = some new ∧ t.cfg.shadow = some old ∧ t.cfg.notice = true ∧
      t.cfg.postEnd.isSome = true) ∧
  (∀ (s u : State) (old new : Image), u = s.eligibleCycle → u.cfg.run = some old → u.cfg.shadow = some new → u.swapDue = true →
    old.hash.length = 12 → new.hash.length = 12 → (∀ x, u.pair.stream = some x → x.2.2.1.length = 12) → (∀ p ∈ new.st.probs, p.unit < 4 ∧ p.pos < 3) →
    (∀ p ∈ old.st.regs ++ new.st.regs, p.1 ≠ CFG_STAT ∧ p.1 ≠ SYS_MODE ∧ ∀ c : Fin 12, p.1 ≠ CL_ENG_STAT c) →
    ∃ t, exec .swapInstant s = .next t ∧ t.f CFG_STAT_LDR = 6 ∧ t.f CFG_STAT_SWAPPED = 1 ∧ t.mode = u.mode ∧ t.cfg.postEnd = some (u.time.mono + u.msCycles 6) ∧
      (∀ c : Fin 12, (∃ a ∈ new.st.axes, a / 8 = c.val) → t.flag (CL_ENG_STAT_BANK c) = !u.flag (CL_ENG_STAT_BANK c))) ∧
  (∀ (s : State) (i : Image) (k : Nat), s.cfg.run = some i → s.cfg.notice = true → (∀ c, s.safe.pend = some c → sameSafe s.safe.pendAt s.time.mono = false) →
    i.st.safety.sets.findIdx? (fun (x : SafSet) => x.code == s.safe.pend.getD s.safe.code) = some k →
    ∃ t, exec .swapNotice s = .next t ∧ t.cfg.notice = false ∧ t.safe.loaded = true ∧ t.safe.sid = i.sid ∧ t.safe.set = k ∧ t.safe.safety = i.st.safety ∧
      t.safe.kine = i.st.kine ∧ t.safe.code = s.safe.pend.getD s.safe.code ∧ t.safe.pend = none ∧ t.safe.monOld = some s.monSet ∧
      s.keeps t ([SAFE_CFG_CODE, SAFE_SSM_STAT, SAFE_SSM_SCAN] ++ (List.range 12).map CL_PSO_VPATH) ∧
      t = { s with cfg := t.cfg, safe := t.safe, regs := t.regs }) ∧
  (∀ (s : State) (i : Image), s.cfg.run = some i → s.cfg.notice = true → ∃ t, exec .swapNotice s = .next t ∧ t.cfg = { s.cfg with notice := false } ∧
    t = { s with cfg := t.cfg }.takeNotice i) ∧
  (∀ s : State, s.cfg.run = none ∨ s.cfg.notice = false → exec .swapNotice s = .next s) ∧
  (∀ (s : State) (e : Nat), s.cfg.postEnd = some e → s.mode = mCHANGEOVER → s.f CFG_STAT_LDR = 6 → s.time.mono ≤ e → s.postOk = true →
    ∃ t, exec .changeoverReturn s = .next t ∧ t.mode = mRUN ∧ t.f CFG_STAT_LDR = (if s.cfg.shadow.isSome = true then 4 else 0) ∧
      t.cfg = { s.cfg with postEnd := none }) ∧
  (∀ s : State, s.postOk = false ∨ s.mode ≠ mCHANGEOVER ∨ s.f CFG_STAT_LDR ≠ 6 ∨ (∀ e, s.cfg.postEnd = some e → e < s.time.mono) →
    exec .changeoverReturn s = .next s) ∧
  (∀ (s u : State) (e m : Nat), u = s.runTo m → u.cfg.postEnd = some e → u.mode = mCHANGEOVER → u.f CFG_STAT_LDR = 6 → e < u.time.mono ∨ u.postOk = false →
    ∃ t, exec (.coPostcheck m) s = .next t ∧ t.mode = mSAFE_HOLD ∧ t.f CFG_STAT_LDR = (if u.cfg.shadow.isSome = true then 4 else 0) ∧ t.rdN CFG_ERR = 0x16 ∧
      (∀ (c : Fin 2) (g : Fin 4), (t.group c g).state = 0) ∧ t.cfg = { u.cfg with postEnd := none }) ∧
  (∀ (s u : State) (m : Nat), u = s.runTo m → u.mode ≠ mCHANGEOVER ∨ u.f CFG_STAT_LDR ≠ 6 ∨ u.cfg.postEnd = none ∨
    (∃ e, u.cfg.postEnd = some e ∧ u.time.mono ≤ e ∧ u.postOk = true) → exec (.coPostcheck m) s = .next u)

/-- Snapshots. At a Loam boundary in RUN the unit captures its state; the capture waits while a handler holds FW_KEY, and one that
still waits at the next boundary gives way. A finished capture goes to the older buffer unless LOAM_HELD, and its
streaming begins where a CKPT segment carries it, or is abandoned and counted. At the standby the first chunk opens the older buffer, a
chunk of another snapshot leaves the first one incomplete, counted and raised, and the last chunk of a snapshot of the running
structure makes it the newest valid one; one of another structure resets the unit towards the slot that holds it, or disarms. A
lost link is raised; a standby without
any link is isolated. Three cycles without a PAIR record lose the peer, once.
The model's choices that clauses of it rest on are log 17, 107, 121, 212, 267. -/
def Obligations.SnapshotsRun : Prop :=
  let kept := fun (u t : State) (k : Snap) =>
    (u.loamHeld = false → t.nv.loam.get u.olderBuf = some k) ∧ (u.loamHeld = true → t.nv.loam = u.nv.loam) ∧
      (∀ b, b ≠ u.olderBuf → t.nv.loam.get b = u.nv.loam.get b) ∧ t.pair.capWait = none ∧
      (u.ckptData = 0 → t.pair.stream = none) ∧
      (u.ckptData ≠ 0 → t.pair.stream = some (k.seq, k.len, k.hash, k.time) ∨
        (t.pair.stream = none ∧ ∃ n, 1 ≤ n ∧ t.rdN RED_CNT_ABANDON = min (u.rdN RED_CNT_ABANDON + n) 4294967295)) ∧
      u.keeps t [RED_CNT_ABANDON, HQ_CNT_REF 13, HQ_HWM 13] ∧ t = { u with hq := t.hq, nv := t.nv, pair := t.pair, regs := t.regs }
  let opens := fun (s t : State) (snap off len : Nat) => t.pair.rx = some (snap, [(off, len)]) ∧ t.nv.loam.get s.olderBuf = none ∧
    (∀ b, b ≠ s.olderBuf → t.nv.loam.get b = s.nv.loam.get b) ∧ t = { s with nv := t.nv, pair := t.pair, flt := t.flt, regs := t.regs }
  let complete := fun (v : State) (snap : Nat) (k : Snap) => ∃ rs, v.pair.rx = some (snap, rs) ∧ k.seq % 65536 = snap ∧
    k.len ≤ covered (sortBy (fun (x : Nat × Nat) => (x.1 : Int)) rs) 0
  let link := fun (r : Fin 2) (onS : Bool) => if onS = true then KR_STAT_LINK_S r else KR_STAT_LINK_P r
  (∀ s : State, s.mode ≠ mRUN ∨ s.role = 2 → exec .loamCapture s = .next { s with pair := { s.pair with capWait := none } }) ∧
  (∀ s : State, s.mode = mRUN → s.role ≠ 2 → s.loamBoundary = true → s.keyFree s.st.fwKey = true →
    ∃ t, exec .loamCapture s = .next t ∧ t.pair.seq = s.nextSeq ∧ kept s t s.snapshot) ∧
  (∀ s : State, s.mode = mRUN → s.role ≠ 2 → s.loamBoundary = true → s.keyFree s.st.fwKey = false →
    ∃ t, exec .loamCapture s = .next t ∧ t.pair = { s.pair with seq := s.nextSeq, capWait := some s.snapshot } ∧
      t.rdN RED_CNT_ABANDON = (if s.pair.capWait.isSome then min (s.rdN RED_CNT_ABANDON + 1) 4294967295 else s.rdN RED_CNT_ABANDON) ∧
      s.keeps t [RED_CNT_ABANDON] ∧ t = { s with pair := t.pair, regs := t.regs }) ∧
  (∀ (s : State) (k : Snap), s.mode = mRUN → s.role ≠ 2 → s.loamBoundary = false → s.pair.capWait = some k → s.keyFree s.st.fwKey = true →
    ∃ t, exec .loamCapture s = .next t ∧ t.pair.seq = s.pair.seq ∧ kept s t { k with fw := s.fwRegion }) ∧
  (∀ s : State, s.mode = mRUN → s.role ≠ 2 → s.loamBoundary = false → s.pair.capWait = none ∨ s.keyFree s.st.fwKey = false →
    exec .loamCapture s = .next s) ∧
  (∀ (s : State) (snap off len : Nat) (k : Option Snap), s.mode ≠ mCOLD_STANDBY → exec (.ckptChunkRx snap off len k) s = .next s) ∧
  (∀ (s : State) (snap off len : Nat), s.mode = mCOLD_STANDBY → s.pair.rx = none →
    ∃ t, exec (.ckptChunkRx snap off len none) s = .next t ∧ opens s t snap off len ∧ (∀ r, t.rd r = s.rd r) ∧ t.flt = s.flt) ∧
  (∀ (s : State) (snap n off len : Nat) (rs : List (Nat × Nat)), s.mode = mCOLD_STANDBY → s.pair.rx = some (n, rs) → n ≠ snap →
    ∃ t, exec (.ckptChunkRx snap off len none) s = .next t ∧ opens s t snap off len ∧
      t.rdN RED_CNT_INC = min (s.rdN RED_CNT_INC + 1) 4294967295 ∧ s.raisedOne t 0xDC 0x7F cINFO ∧ s.keeps t [RED_CNT_INC]) ∧
  (∀ (s : State) (snap off len : Nat) (rs : List (Nat × Nat)), s.mode = mCOLD_STANDBY → s.pair.rx = some (snap, rs) →
    exec (.ckptChunkRx snap off len none) s =
      .next { s with pair := { s.pair with rx := some (snap, (off, len) :: rs.filter (fun (x : Nat × Nat) => x.1 != off)) } }) ∧
  (∀ (s : State) (snap off len : Nat) (k : Snap), s.mode = mCOLD_STANDBY → ¬ complete (s.noteChunk snap off len) snap k →
    exec (.ckptChunkRx snap off len (some k)) s = .next (s.noteChunk snap off len)) ∧
  (∀ (s v : State) (snap off len : Nat) (k : Snap), s.mode = mCOLD_STANDBY → v = s.noteChunk snap off len → complete v snap k →
    k.hash = s.runHash → k.hash.length = 12 →
    ∃ t, exec (.ckptChunkRx snap off len (some k)) s = .next t ∧ t.pair.rx = none ∧ t.nv.loam.get v.olderBuf = some k ∧
      t.pair.time = some k.time ∧ t.rdN RED_CNT_RCVD = min (s.rdN RED_CNT_RCVD + 1) 4294967295 ∧ t.rdN RED_SNAP = k.seq % 4294967296 ∧
      t.rdN RED_SNAP_LEN = k.len % 4294967296 ∧
      v.keeps t ([RED_CNT_RCVD, RED_SNAP, RED_SNAP_LEN] ++ (List.range 12).map RED_SNAP_HASH) ∧
      t = { v with nv := t.nv, pair := t.pair, regs := t.regs }) ∧
  (∀ (s v : State) (snap off len : Nat) (k : Snap), s.mode = mCOLD_STANDBY → v = s.noteChunk snap off len → complete v snap k →
    k.hash ≠ s.runHash → k.hash.length = 12 → (∀ n e, (s.nv.dir.get? n).bind id = some e → hashWords e.hash ≠ k.hash) →
    ∃ t, exec (.ckptChunkRx snap off len (some k)) s = .next t ∧ t.nv.loam.get v.olderBuf = some k ∧ v.raisedOne t 0xDC 0x7D cMINOR ∧
      t = { v with nv := t.nv, pair := t.pair, flt := t.flt, regs := t.regs }) ∧
  (∀ (s v : State) (snap off len n : Nat) (k : Snap) (e : DirEntry), s.mode = mCOLD_STANDBY → v = s.noteChunk snap off len →
    complete v snap k → k.hash ≠ s.runHash → k.hash.length = 12 → n < 8 → (s.nv.dir.get? n).bind id = some e → hashWords e.hash = k.hash →
    (∀ q e, q < n → (s.nv.dir.get? q).bind id = some e → hashWords e.hash ≠ k.hash) →
    ∃ t, exec (.ckptChunkRx snap off len (some k)) s = .next t ∧ t.mode = mRESET ∧ t.f SYS_START_AUTO_SLOT = n ∧
      t.f SYS_RST_CAUSE_CAUSE = 2 ^ rcSOFT ∧ t.nv.loam.get v.olderBuf = some k) ∧
  (∀ (s : State) (r : Fin 2) (onS up : Bool), s.mode = mRESET → exec (.ringLinkChange r onS up) s = .next s) ∧
  (∀ (s : State) (r : Fin 2) (onS : Bool), s.mode ≠ mRESET →
    ∃ t, exec (.ringLinkChange r onS true) s = .next t ∧ t.f (link r onS) = 1 ∧ t.f RED_STAT_ISOLATED = 0 ∧
      (s.rstate r = rNODE → (t.ring r).linkDue = true) ∧ (s.rstate r ≠ rNODE → t.rings = s.rings) ∧
      s.keeps t [KR_STAT r, RED_STAT] ∧ t = { s with rings := t.rings, regs := t.regs }) ∧
  (∀ (s : State) (r : Fin 2) (onS : Bool), s.mode ≠ mRESET → s.mode ≠ mCOLD_STANDBY ∨ (s.setB (link r onS) false).anyLink = true →
    ∃ t, exec (.ringLinkChange r onS false) s = .next t ∧ t.f (link r onS) = 0 ∧ s.raisedOne t (0xD2 + r) 0x63 cMAJOR ∧
      (s.rstate r = rNODE → (t.ring r).linkDue = true ∧ (t.ring r).looping = true) ∧
      (s.rstate r = rMASTER → (t.ring r).closeAt = none) ∧
      s.keeps t [KR_STAT r, KR_RING r, RED_STAT] ∧ t = { s with rings := t.rings, flt := t.flt, regs := t.regs }) ∧
  (∀ (s : State) (r : Fin 2) (onS : Bool), s.mode = mCOLD_STANDBY → (s.setB (link r onS) false).anyLink = false →
    ∃ t, exec (.ringLinkChange r onS false) s = .next t ∧ t.f (link r onS) = 0 ∧ t.f RED_STAT_ISOLATED = 1 ∧
      t.flt.path.length = s.flt.path.length + (if s.flag RED_STAT_ISOLATED = true then 1 else 2) ∧
      (∃ x ∈ t.flt.path, x.source = 0xD2 + r.val ∧ x.kind = 0x63 ∧ x.cls = cMAJOR) ∧
      (s.flag RED_STAT_ISOLATED = false → ∃ x ∈ t.flt.path, x.source = 0xDC ∧ x.kind = 0x7B ∧ x.cls = cMAJOR) ∧
      s.keeps t [KR_STAT r, KR_RING r, RED_STAT] ∧ t = { s with rings := t.rings, flt := t.flt, regs := t.regs }) ∧
  (∀ (s : State) (r : Fin 2), s.role = 1 → s.rstate r = rMASTER → 3 ≤ (s.ring r).pairMiss → r.val ∉ s.pair.peerLost →
    ∃ t, exec (.redPeerLost r) s = .next t ∧ t.pair.peerLost = r.val :: s.pair.peerLost ∧ s.raisedOne t 0xDC 0x7A cMINOR ∧
      (∀ x, t.rd x = s.rd x) ∧ t = { s with pair := t.pair, flt := t.flt }) ∧
  (∀ (s : State) (r : Fin 2), s.role ≠ 1 ∨ s.rstate r ≠ rMASTER ∨ (s.ring r).pairMiss < 3 ∨ r.val ∈ s.pair.peerLost →
    exec (.redPeerLost r) s = .next s)

/-- The standby. A frame that passes is forwarded with its FCS, computed anew where the unit writes, complemented after a wrong one; a
unit in IDLE notes a foreign master. A CLAIM is forwarded only, a frame of another layout makes the unit leave the ring, and so does one after more than four cycles; a frame outside its
window counts as a drift, the third in succession makes the unit leave; a change of direction starts the distance afresh. A
working pass of the cycle after the last makes the unit joined and sets MISSED
to 0. A working pass that does not come counts as missed; the third in succession takes an
armed standby to TAKEOVER, with its rings claiming at PRIO 0x80, as a command or a mode request does, armed or not. Without link
on any port there is no takeover and the unit is isolated. The newest valid snapshot of the running structure is restored;
without one, with one of another structure or with one that is too old, the unit starts cold into COMMISSION. With the first frame sent a restored takeover enters RUN as the active.
The model's choices that clauses of it rest on are log 117, 119, 120, 122, 256, 258, 259, 260. -/
def Obligations.TakeoverRuns : Prop :=
  let taken := fun (s t : State) (trigger : Nat) => t.mode = mTAKEOVER ∧ t.pair.trigger = trigger ∧ t.pair.rx = none ∧ t.pair.restored = false ∧
    (∀ r : Fin 2, (s.ringDef r).area ≠ 0 → s.rstate r ≠ rSILENT → t.rstate r = rCLAIM ∧ t.f (KR_CLAIM_PRIO r) = 0x80)
  let fcsOf := fun (r : Fin 2) (f g : RFrame) (wrote : Bool) =>
    if wrote then (if f.fcs && !f.symErr then g.fcsWord r else 4294967295 - g.fcsWord r) else f.fcsGot r
  let cycleFrame := fun (u : State) (r : Fin 2) (f : RFrame) =>
    mBARE ≤ u.mode ∧ u.rstate r = rNODE ∧ f.hcrc = true ∧ f.type = 0 ∧ u.oldEpoch r f = false ∧ f.sid = u.nodeSid
  let last := fun (u : State) => (List.finRange 2).foldl (fun (m : Nat) (q : Fin 2) => max m ((u.ring q).validAt.getD 0)) 0
  let missedNow := fun (u : State) (r : Fin 2) => u.mode = mCOLD_STANDBY ∧ (u.ring r).validAt.isSome = true ∧ u.anyLink = true ∧
    last u + (min (u.f RED_STAT_MISSED) 2 + 1) * u.ringCycles r + u.f (KR_WIN_W_ARR r) * 4 / 5 < u.time.mono
  let cold := fun (u t : State) => t.mode = mCOMMISSION ∧ t.f RED_STAT_REFUSED = 1 ∧ t.f RED_STAT_ROLE = 1 ∧ t.f SYS_START_STAT_KIND = 3 ∧ t.cfg = u.cfg
  let restoring := fun (u : State) (i : Image) => u.cfg.run = some i ∧ u.mode = mTAKEOVER ∧ u.pair.restored = false
  (∀ (s u : State) (r : Fin 2) (onS : Bool) (f : RFrame) (a : Int) (b m : Nat), u = s.runTo m → u.mode < mBARE →
    exec (.nodeWorkingPass r onS f a b m) s = .next u) ∧
  (∀ (s u : State) (r : Fin 2) (onS : Bool) (f : RFrame) (a : Int) (b m : Nat), u = s.runTo m → mBARE ≤ u.mode → u.rstate r = rIDLE →
    f.type = 0 → f.hcrc = true → f.fcs = true →
    ∃ t, exec (.nodeWorkingPass r onS f a b m) s = .next t ∧ (t.ring r).foreign = some f.epoch ∧ (t.ring r).fwd.isSome = true ∧
      (∀ q, q ≠ r → t.ring q = u.ring q) ∧ u.keeps t [KR_EPOCH r, KR_STAT r] ∧ t = { u with rings := t.rings, regs := t.regs }) ∧
  (∀ (s u : State) (r : Fin 2) (onS : Bool) (f : RFrame) (a : Int) (b m : Nat), u = s.runTo m → mBARE ≤ u.mode → u.rstate r ≠ rNODE →
    u.rstate r ≠ rIDLE ∨ f.type ≠ 0 ∨ f.hcrc = false ∨ f.fcs = false →
    exec (.nodeWorkingPass r onS f a b m) s = .next (u.sendOn r f f false)) ∧
  (∀ (s u : State) (r : Fin 2) (onS : Bool) (f : RFrame) (a : Int) (b m : Nat), u = s.runTo m → mBARE ≤ u.mode → u.rstate r = rNODE →
    exec (.nodeWorkingPass r onS f a b m) s = .next (u.nodePass r onS f a b)) ∧
  (∀ (u : State) (r : Fin 2) (f g : RFrame) (wrote : Bool), (u.ring r).looping = false →
    ∃ t, u.sendOn r f g wrote = t ∧ (t.ring r).fwd = some (g, fcsOf r f g wrote) ∧ (∀ q, q ≠ r → t.ring q = u.ring q) ∧
      (f.hcrc = false → ∀ x, t.rd x = u.rd x) ∧ u.keeps t [KR_STAT r] ∧ t = { u with rings := t.rings, regs := t.regs }) ∧
  (∀ (u : State) (r : Fin 2) (f g : RFrame) (wrote : Bool), (u.ring r).looping = true →
    ∃ h, ((u.sendOn r f g wrote).ring r).fwd = some (h, fcsOf r f h true) ∧ h = { g with looped := true, loopAddr := u.f RED_CFG_PAIR_ADDR }) ∧
  (∀ (s u : State) (r : Fin 2) (onS : Bool) (f : RFrame) (a : Int) (b m : Nat), u = s.runTo m → mBARE ≤ u.mode → u.rstate r = rNODE →
    f.hcrc = true → f.type = 1 → (u.ring r).looping = false →
    ∃ t, exec (.nodeWorkingPass r onS f a b m) s = .next t ∧ (t.ring r).fwd = some (f, f.fcsGot r) ∧ (t.ring r).full = (u.ring r).full ∧
      u.keeps t [KR_EPOCH r, KR_STAT r] ∧ t = { u with rings := t.rings, regs := t.regs }) ∧
  (∀ (s u : State) (r : Fin 2) (onS : Bool) (f : RFrame) (a : Int) (b m : Nat), u = s.runTo m → mBARE ≤ u.mode → u.rstate r = rNODE →
    f.hcrc = true → f.type = 0 → u.oldEpoch r f = false → f.sid ≠ u.nodeSid →
    ∃ t, exec (.nodeWorkingPass r onS f a b m) s = .next t ∧ (t.ring r).full = false ∧ (t.ring r).fwd.isSome = true) ∧
  (∀ (s u : State) (r : Fin 2) (onS : Bool) (f : RFrame) (a : Int) (b m : Nat), u = s.runTo m → cycleFrame u r f →
    u.passGap r f = some 0 → (u.ring r).looping = false →
    ∃ t, exec (.nodeWorkingPass r onS f a b m) s = .next t ∧ (t.ring r).fwd = some (f, f.fcsGot r) ∧ (t.ring r).heard = (u.ring r).heard ∧
      (t.ring r).full = (u.ring r).full) ∧
  (∀ (s u : State) (r : Fin 2) (onS : Bool) (f : RFrame) (a : Int) (b m : Nat), u = s.runTo m → cycleFrame u r f → f.fcs = true → f.frame = 0 →
    u.mode = mCOLD_STANDBY → u.passGap r f = some 1 → u.turned r onS f = false → u.inWindow r f (u.nodeDelta r f a b) = true →
    ∃ t, exec (.nodeWorkingPass r onS f a b m) s = .next t ∧ (t.ring r).full = true ∧ t.pair.took = true ∧
      t.f RED_STAT_MISSED = 0 ∧ t.f RED_STAT_PEER = 1 ∧ (t.ring r).drifts = 0 ∧ (t.ring r).afresh = false ∧
      (t.ring r).heard = some ⟨f.cycle, f.tdep, u.time.mono, (u.nodeDelta r f a b).1, (u.nodeDelta r f a b).2⟩) ∧
  (∀ (s u : State) (r : Fin 2) (onS : Bool) (f : RFrame) (a : Int) (b m n : Nat), u = s.runTo m → cycleFrame u r f →
    u.passGap r f = some n → 1 ≤ n → n ≤ 4 → u.turned r onS f = false → u.inWindow r f (u.nodeDelta r f a b) = false →
    ∃ t, exec (.nodeWorkingPass r onS f a b m) s = .next t ∧
      ((u.ring r).drifts = 2 → (t.ring r).full = false ∧ (t.ring r).drifts = 0) ∧
      ((u.ring r).drifts ≠ 2 → (t.ring r).full = (u.ring r).full ∧ (t.ring r).drifts = (u.ring r).drifts + 1)) ∧
  (∀ (s u : State) (r : Fin 2) (onS : Bool) (f : RFrame) (a : Int) (b m n : Nat), u = s.runTo m → cycleFrame u r f →
    u.passGap r f = some n → 1 ≤ n → n ≤ 4 → u.turned r onS f = true →
    ∃ t, exec (.nodeWorkingPass r onS f a b m) s = .next t ∧ (t.ring r).afresh = true ∧ (t.ring r).full = (u.ring r).full) ∧
  (∀ (s u : State) (r : Fin 2) (onS : Bool) (f : RFrame) (a : Int) (b m n : Nat), u = s.runTo m → cycleFrame u r f →
    u.passGap r f = some n → 4 < n → (u.ring r).full = true →
    ∃ t, exec (.nodeWorkingPass r onS f a b m) s = .next t ∧ (t.ring r).full = !f.fcs ∧ (t.ring r).drifts = 0) ∧
  (∀ (s u : State) (r : Fin 2) (m : Nat), u = s.runTo m → u.mode ≠ mCOLD_STANDBY ∨ (u.ring r).validAt = none →
    exec (.takeoverTrigger r m) s = .next u) ∧
  (∀ (s u : State) (r : Fin 2) (m : Nat), u = s.runTo m → u.mode = mCOLD_STANDBY → (u.ring r).validAt.isSome = true → u.anyLink = false →
    exec (.takeoverTrigger r m) s = .next u.isolated) ∧
  (∀ (s u : State) (r : Fin 2) (m : Nat), u = s.runTo m → u.mode = mCOLD_STANDBY → (u.ring r).validAt.isSome = true → u.anyLink = true →
    ¬ missedNow u r → exec (.takeoverTrigger r m) s = .next u) ∧
  (∀ (s u : State) (r : Fin 2) (m : Nat), u = s.runTo m → missedNow u r → u.f RED_STAT_MISSED < 2 ∨ u.armed = false →
    ∃ t, exec (.takeoverTrigger r m) s = .next t ∧ t.f RED_STAT_MISSED = min 3 (u.f RED_STAT_MISSED + 1) ∧ t.f RED_STAT_PEER = 0 ∧
      u.keeps t [RED_STAT] ∧ t = { u with regs := t.regs }) ∧
  (∀ (s u : State) (r : Fin 2) (m : Nat), u = s.runTo m → missedNow u r → 2 ≤ u.f RED_STAT_MISSED → u.armed = true →
    ∃ t, exec (.takeoverTrigger r m) s = .next t ∧ taken u t 0) ∧
  (∀ u : State, u.flag RED_STAT_ISOLATED = true → u.isolated = u) ∧
  (∀ u : State, u.flag RED_STAT_ISOLATED = false →
    ∃ t, u.isolated = t ∧ t.f RED_STAT_ISOLATED = 1 ∧ u.raisedOne t 0xDC 0x7B cMAJOR ∧ u.keeps t [RED_STAT] ∧
      t = { u with flt := t.flt, regs := t.regs }) ∧
  (∀ s : State, s.mapOpen = true → s.mode = mCOLD_STANDBY → s.anyLink = true → ∃ t, exec (.redTakeoverCmd 0x5244) s = .next t ∧ taken s t 1) ∧
  (∀ s : State, s.mapOpen = true → s.mode = mCOLD_STANDBY → s.anyLink = false → exec (.redTakeoverCmd 0x5244) s = .next s.isolated) ∧
  (∀ (s : State) (k : Nat), k ≠ 0x5244 ∨ s.mapOpen = false ∨ s.mode ≠ mCOLD_STANDBY → exec (.redTakeoverCmd k) s = .next s) ∧
  (∀ (s : State) (k : Nat), k ≠ 0x4D44 ∨ s.mapOpen = false → exec (.modeReqTakeover k) s = .next s) ∧
  (∀ s u : State, s.mapOpen = true → u = s.eventsFirst → u.mode = mCOLD_STANDBY → u.anyLink = true →
    ∃ t, exec (.modeReqTakeover 0x4D44) s = .next t ∧ taken u t 1 ∧ t.f SYS_MODE_REQ_RES = 0 ∧ t.f SYS_MODE_REQ_DONE = 1) ∧
  (∀ s u : State, s.mapOpen = true → u = s.eventsFirst → u.mode = mCOLD_STANDBY → u.anyLink = false →
    ∃ t, exec (.modeReqTakeover 0x4D44) s = .next t ∧ t.f SYS_MODE_REQ_RES = 2 ∧ t.f SYS_MODE_REQ_DONE = 1 ∧ t.f RED_STAT_ISOLATED = 1 ∧
      t.mode = mCOLD_STANDBY) ∧
  (∀ s u : State, s.mapOpen = true → u = s.eventsFirst → u.mode ≠ mCOLD_STANDBY →
    ∃ t, exec (.modeReqTakeover 0x4D44) s = .next t ∧ t.f SYS_MODE_REQ_RES = 1 ∧ t.f SYS_MODE_REQ_DONE = 1 ∧ t.mode = u.mode ∧
      u.keeps t [SYS_MODE] ∧ t = { u with time := { u.time with hits := t.time.hits }, host := t.host, regs := t.regs }) ∧
  (∀ (s u : State) (m : Nat), u = s.runTo m → u.cfg.run = none ∨ u.mode ≠ mTAKEOVER → exec (.takeoverRestored m) s = .next u) ∧
  (∀ (s u : State) (i : Image) (m : Nat), u = s.runTo m → u.cfg.run = some i → u.mode = mTAKEOVER → u.pair.restored = true →
    u.sentFirst 0 = true ∨ u.sentFirst 1 = true →
    ∃ t, exec (.takeoverRestored m) s = .next t ∧ t.mode = mRUN ∧ t.f SYS_START_ROLE = 1 ∧ t.f RED_STAT_ROLE = 1 ∧ t.f RED_STAT_TAKEN = 1 ∧
      (∃ x ∈ t.flt.path, x.source = 0xDC ∧ x.kind = 0x78 ∧ x.cls = cMAJOR)) ∧
  (∀ (s u : State) (i : Image) (m : Nat), u = s.runTo m → u.cfg.run = some i → u.mode = mTAKEOVER → u.pair.restored = true →
    u.sentFirst 0 = false → u.sentFirst 1 = false → exec (.takeoverRestored m) s = .next u) ∧
  (∀ (s u : State) (i : Image) (m : Nat), u = s.runTo m → restoring u i → u.newestLoam = none →
    ∃ t, exec (.takeoverRestored m) s = .next t ∧ cold u t) ∧
  (∀ (s u : State) (i : Image) (b : Fin 2) (k : Snap) (m : Nat), u = s.runTo m → restoring u i → u.newestLoam = some (b, k) → k.hash ≠ i.hash →
    ∃ t, exec (.takeoverRestored m) s = .next t ∧ cold u t ∧ t.f SYS_START_STAT_LOAM_HELD = 1) ∧
  (∀ (s u : State) (i : Image) (b : Fin 2) (k : Snap) (m : Nat), u = s.runTo m → restoring u i → u.newestLoam = some (b, k) → k.hash = i.hash →
    u.f RED_CFG_MAXAGE < u.snapAge k.time → ∃ t, exec (.takeoverRestored m) s = .next t ∧ cold u t) ∧
  (∀ (s u : State) (i : Image) (b : Fin 2) (k : Snap) (m : Nat), u = s.runTo m → restoring u i →
    u.newestLoam = some (b, k) → k.hash = i.hash → u.snapAge k.time ≤ u.f RED_CFG_MAXAGE → (∀ x ∈ k.doors, x.1.length ≤ 64) →
    (∀ p ∈ i.st.probs, p.unit < 4 ∧ p.pos < 3) → u.sentFirst 0 = false → u.sentFirst 1 = false →
    ∃ t, exec (.takeoverRestored m) s = .next t ∧ t.mode = mTAKEOVER ∧ t.pair.restored = true ∧ t.f SYS_START_STAT_KIND = 2 ∧ t.pair.seq = k.seq)

/-- Mode requests. A swap that falls due and a message that takes effect in the same cycle come first. With the key a request from a mode that it does not leave ends with MODE, one with an unmet condition with COND and its
bits; otherwise it ends with OK and the mode changes: PREV takes the old mode and a MODE record with cause request is offered.
SAFE_HOLD and BARE take every group to OFF; BARE drops the structure; COMMISSION leaves FAULT once FLT status is cleared.
The model's choices that clauses of it rest on are log 46, 47, 48, 57, 204, 209. -/
def Obligations.ModeRequests : Prop :=
  let asked := fun (s u : State) => s.mapOpen = true ∧ u = s.eventsFirst
  let ends := fun (c : Instr) (s u : State) (res cond : Nat) => ∃ t, exec c s = .next t ∧ t.f SYS_MODE_REQ_RES = res ∧ t.f SYS_MODE_REQ_COND = cond ∧
    t.f SYS_MODE_REQ_DONE = 1 ∧ t.mode = u.mode ∧ u.keeps t [SYS_MODE] ∧
    t = { u with time := { u.time with hits := t.time.hits }, host := t.host, regs := t.regs }
  let enters := fun (u t : State) (m : Nat) => t.mode = m ∧ t.f SYS_MODE_PREV = u.mode ∧ t.f SYS_MODE_REQ_RES = 0 ∧ t.f SYS_MODE_REQ_DONE = 1
  let noted := fun (u t : State) (m : Nat) =>
    u.flag DBG_STAT_WHEEL = false → u.recorded t 0x11 3 (natLE 1 m ++ natLE 1 u.mode ++ natLE 1 0 ++ natLE 1 0 ++ natLE 1 255 ++ natLE 3 0)
  let off := fun (t : State) => ∀ (c : Fin 2) (g : Fin 4), (t.group c g).state = 0
  let toBare := fun (u : State) => u.mode = mCOMMISSION ∨ u.mode = mSAFE_HOLD ∨ (u.mode = mFAULT ∧ u.flag SYS_MODE_HOLD = false)
  (∀ (s : State) (k : Nat), k ≠ 0x4D44 ∨ s.mapOpen = false → exec (.modeReqRun k) s = .next s ∧ exec (.modeReqCommission k) s = .next s ∧
    exec (.modeReqSafeHold k) s = .next s ∧ exec (.modeReqBare k) s = .next s) ∧
  (∀ s u : State, asked s u → u.mode = mCOMMISSION ∨ u.mode = mSAFE_HOLD → u.runCond = 0 →
    ∃ t, exec (.modeReqRun 0x4D44) s = .next t ∧ enters u t mRUN ∧ noted u t mRUN ∧ t.safe = u.safe ∧
      (u.flag DBG_STAT_WHEEL = false → u.keeps t (DBG_STAT :: modeRegs) ∧
        t = { u with time := { u.time with hits := t.time.hits }, host := t.host, hq := t.hq, recorder := t.recorder,
                     clusters := t.clusters, tiles := t.tiles, regs := t.regs })) ∧
  (∀ s u : State, asked s u → u.mode = mCOMMISSION ∨ u.mode = mSAFE_HOLD → u.runCond ≠ 0 → ends (.modeReqRun 0x4D44) s u 2 u.runCond) ∧
  (∀ s u : State, asked s u → u.mode ≠ mCOMMISSION → u.mode ≠ mSAFE_HOLD → ends (.modeReqRun 0x4D44) s u 1 0) ∧
  (∀ s u : State, asked s u → u.mode = mRUN → u.standstill = true →
    ∃ t, exec (.modeReqCommission 0x4D44) s = .next t ∧ enters u t mCOMMISSION ∧ noted u t mCOMMISSION ∧ t.safe = u.safe) ∧
  (∀ s u : State, asked s u → u.mode = mRUN → u.standstill = false → ends (.modeReqCommission 0x4D44) s u 2 64) ∧
  (∀ s u : State, asked s u → u.mode = mSAFE_HOLD →
    ∃ t, exec (.modeReqCommission 0x4D44) s = .next t ∧ enters u t mCOMMISSION ∧ noted u t mCOMMISSION) ∧
  (∀ s u : State, asked s u → u.mode = mFAULT → u.flag SYS_MODE_HOLD = false → u.fltCleared = true →
    ∃ t, exec (.modeReqCommission 0x4D44) s = .next t ∧ enters u t mCOMMISSION ∧ noted u t mCOMMISSION ∧
      (u.flag DBG_STAT_WHEEL = false → t.rdN FIO_OUT = u.faultLevels % 4294967296)) ∧
  (∀ s u : State, asked s u → u.mode = mFAULT → u.flag SYS_MODE_HOLD = false → u.fltCleared = false →
    ends (.modeReqCommission 0x4D44) s u 2 (8 * b2n u.fltUnack)) ∧
  (∀ s u : State, asked s u → u.mode ≠ mRUN → u.mode ≠ mSAFE_HOLD → (u.mode ≠ mFAULT ∨ u.flag SYS_MODE_HOLD = true) →
    ends (.modeReqCommission 0x4D44) s u 1 0) ∧
  (∀ s u : State, asked s u → u.mode = mCOMMISSION ∨ u.mode = mRUN →
    ∃ t, exec (.modeReqSafeHold 0x4D44) s = .next t ∧ enters u t mSAFE_HOLD ∧ off t) ∧
  (∀ s u : State, asked s u → u.mode ≠ mCOMMISSION → u.mode ≠ mRUN → ends (.modeReqSafeHold 0x4D44) s u 1 0) ∧
  (∀ s u : State, asked s u → toBare u → u.standstill = true →
    (∀ p ∈ u.st.regs, p.1 ≠ SYS_MODE ∧ p.1 ≠ KR_STAT 0 ∧ p.1 ≠ KR_STAT 1) →
    ∃ t, exec (.modeReqBare 0x4D44) s = .next t ∧ t.mode = mBARE ∧ t.f SYS_MODE_PREV = u.mode ∧ t.f SYS_MODE_REQ_RES = 0 ∧ off t ∧ t.cfg.run = none ∧
      t.cfg.shadow = none ∧ t.f CFG_STAT_RUN_VALID = 0 ∧ t.wheel.descs = [] ∧ (∀ r : Fin 2, u.rstate r ≠ rSILENT → t.rstate r = rIDLE)) ∧
  (∀ s u : State, asked s u → toBare u → u.standstill = false → ends (.modeReqBare 0x4D44) s u 2 64) ∧
  (∀ s u : State, asked s u → ¬ toBare u → ends (.modeReqBare 0x4D44) s u 1 0)

/-- Resets. Power-on, RESET_N low for t_RSTN, SWRST with its key, the watchdog 10 ms after its expiry, the thermal limit and VIN below VRST each take the
device to RESET: the cause is shown, MRAM, OTP and flash keep what they hold, and every other register and block stands as
after reset. Release with VIN high enough for long enough, a reference, RESET_N high and, after a thermal reset, every sensor cool starts
SANITISE with time at 0. The watchdog expires when WD_MS have passed since
the last kick, raised at L3, once; a kick with its key starts the time anew.
The model's choices that clauses of it rest on are log 50, 53, 188. -/
def Obligations.ResetSources : Prop :=
  let isReset := fun (s t : State) (cause : Nat) => t.mode = mRESET ∧ t.rdN SYS_RST_CAUSE = 2 ^ cause ∧ t.nv = { s.nv with erased := [], writing := Bank.rep 10 none } ∧
    (∀ r, keepsReset r = false → r ∉ [SYS_MODE, SYS_RST_CAUSE, CFG_SEC_STAT, DBG_STAT] → t.rd r = State.reset.rd r) ∧
    (s.regsWf = true → ∀ r, keepsReset r = true → t.rd r = s.rd r) ∧
    t = { State.reset with nv := t.nv, pending := s.pending, regs := t.regs, sys := t.sys, free := s.free + 2 }
  let expires := fun (u : State) => u.sys.start.toNat / 65536 ≠ 0 ∧ u.mode ≠ mRESET ∧ u.sys.expired = none ∧
    u.sys.kicked + u.msCycles (u.sys.start.toNat / 65536) ≤ u.time.mono
  let released := fun (s : State) (v above : Nat) (refOk high : Bool) (hot : Int) => s.mode = mRESET ∧ 10250 ≤ v ∧ 10000 ≤ above ∧ refOk = true ∧
    high = true ∧ ((s.f SYS_RST_CAUSE_CAUSE).testBit rcTHERM = true → hot < 1050)
  (∀ s : State, ∃ t, exec .powerOnReset s = .next t ∧ isReset s t rcPOR) ∧
  (∀ (s : State) (low : Nat), 1000 ≤ low → ∃ t, exec (.resetN low) s = .next t ∧ isReset s t rcEXT) ∧
  (∀ (s : State) (low : Nat), low < 1000 → exec (.resetN low) s = .next s) ∧
  (∀ s : State, s.mode ≠ mRESET → s.scrappedMap = false → ∃ t, exec (.swrst 0x4354) s = .next t ∧ isReset s t rcSOFT) ∧
  (∀ (s : State) (k : Nat), k ≠ 0x4354 ∨ s.mode = mRESET ∨ s.scrappedMap = true → exec (.swrst k) s = .next s) ∧
  (∀ (s u : State) (e m : Nat), u = s.runTo m → u.sys.expired = some e → e + u.msCycles 10 ≤ u.time.mono →
    ∃ t, exec (.watchdogReset m) s = .next t ∧ isReset u t rcWDOG) ∧
  (∀ (s u : State) (e m : Nat), u = s.runTo m → u.sys.expired = some e → u.time.mono < e + u.msCycles 10 → exec (.watchdogReset m) s = .next u) ∧
  (∀ (s u : State) (m : Nat), u = s.runTo m → u.sys.expired = none → exec (.watchdogReset m) s = .next u) ∧
  (∀ (s : State) (x : Nat), 1150 ≤ x → ∃ t, exec (.thermReset x) s = .next t ∧ isReset s t rcTHERM) ∧
  (∀ (s : State) (x : Nat), x < 1150 → exec (.thermReset x) s = .next s) ∧
  (∀ (s : State) (v : Nat), v ≤ 9100 → s.sys.commitDue = false ∨ s.snapDue = false →
    ∃ t, exec (.vinBelowVrst v) s = .next t ∧ isReset s t rcVIN_LOW) ∧
  (∀ (s : State) (v : Nat), v ≤ 9100 → s.sys.commitDue = true → s.snapDue = true →
    ∃ t, exec (.vinBelowVrst v) s = .next t ∧ isReset (s.putLoam s.olderBuf none) t rcVIN_LOW ∧ t.nv.loam.get s.olderBuf = none ∧
      (∀ b, b ≠ s.olderBuf → t.nv.loam.get b = s.nv.loam.get b)) ∧
  (∀ (s : State) (v : Nat), 9100 < v → exec (.vinBelowVrst v) s = .next s) ∧
  (∀ (s : State) (v above : Nat) (refOk high : Bool) (hot : Int), released s v above refOk high hot →
    ∃ t, exec (.resetRelease v above refOk high hot) s = .next t ∧ t.mode = mSANITISE ∧ t.f SYS_MODE_PREV = mRESET ∧ t.f PWR_VIN_VIN_MV = v % 65536 ∧
      t.time.now = 0 ∧ t.time.mono = 0 ∧ t.sys.start = s.rd SYS_START ∧ t.sys.kicked = 0 ∧ s.keeps t [SYS_MODE, PWR_VIN] ∧
      t = { s with time := t.time, sys := t.sys, host := t.host, regs := t.regs }) ∧
  (∀ (s : State) (v above : Nat) (refOk high : Bool) (hot : Int), ¬ released s v above refOk high hot →
    exec (.resetRelease v above refOk high hot) s = .next s) ∧
  (∀ (s u : State) (m : Nat), u = s.runTo m → u.mapOpen = true →
    exec (.wdKick 0x4354 m) s = .next { u with sys := { u.sys with kicked := u.time.mono } }) ∧
  (∀ (s u : State) (k m : Nat), u = s.runTo m → k ≠ 0x4354 ∨ u.mapOpen = false → exec (.wdKick k m) s = .next u) ∧
  (∀ (s u : State) (m : Nat), u = s.runTo m → expires u →
    ∃ t, exec (.wdogExpired m) s = .next t ∧ t.sys.expired = some u.time.mono ∧ u.raisedOne t 0xD9 0x01 cCRITICAL ∧
      (∀ r, t.rd r = u.rd r) ∧ t = { u with sys := t.sys, flt := t.flt }) ∧
  (∀ (s u : State) (m : Nat), u = s.runTo m → ¬ expires u → exec (.wdogExpired m) s = .next u)

/-- Start-up. SANITISE ends in VERIFY with the recorder's scan running; a mark of another life-cycle state wipes MRAM, slots and directory first,
and a failed read-back stays in SANITISE, raised at L4. VERIFY takes the accepted boot image of higher SVN; without one it waits
with the recovery endpoint open. It then enters BARE, or LOAD where an autostart slot passes the first checks. SYS_START_WRITE
stores its fields, a ROLE of 3 aside; LOAM_RELEASE clears LOAM_HELD with its key.
The model's choices that clauses of it rest on are log 3, 49, 54. -/
def Obligations.StartUp : Prop :=
  let ready := fun (s : State) => s.mode = mSANITISE ∧ s.sys.sanitiseFail = none
  let verifies := fun (s : State) => s.mode = mVERIFY ∧ s.sys.recovery = false ∧ s.f SYS_LC_STATE ≠ lcSCRAPPED
  let takesB := fun (s : State) (a b : BootVerdict) => s.bootErr b = 0 ∧ (s.bootErr a ≠ 0 ∨ a.svn < b.svn)
  let takesA := fun (s : State) (a b : BootVerdict) => s.bootErr a = 0 ∧ (s.bootErr b ≠ 0 ∨ b.svn ≤ a.svn)
  let runs := fun (s t : State) (a b : BootVerdict) => t.f SYS_MODE_PREV = mVERIFY ∧ (takesA s a b → t.f SYS_START_STAT_BOOT_B = 0 ∧ t.sys.bootSvn = a.svn) ∧
    (takesB s a b → t.f SYS_START_STAT_BOOT_B = 1 ∧ t.sys.bootSvn = b.svn) ∧
    t.f SYS_START_STAT_VFY_ERR = (if s.bootErr a ≠ 0 then s.bootErr a else s.bootErr b)
  let slot := fun (s : State) => s.sys.start.toNat % 16
  (∀ s : State, ready s → s.nv.lcMark = s.f SYS_LC_STATE →
    ∃ t, exec (.sanitiseDone none) s = .next t ∧ t.mode = mVERIFY ∧ t.f SYS_MODE_PREV = mSANITISE ∧ t.f REC_STAT_SCANNING = 1 ∧ t.nv = s.nv ∧
      t.sys.relock = false) ∧
  (∀ s : State, ready s → s.nv.lcMark ≠ s.f SYS_LC_STATE →
    ∃ t, exec (.sanitiseDone none) s = .next t ∧ t.mode = mVERIFY ∧ t.nv.lcMark = s.f SYS_LC_STATE ∧ t.nv.mram = [] ∧ t.nv.loam = Bank.rep 2 none ∧
      t.rdN SYS_START = 0xF ∧ t.f SYS_START_STAT_LC_WIPED = 1 ∧ (∀ n : Fin 10, n.val < 8 → t.nv.dir.get n = none) ∧
      (∀ p ∈ t.nv.flash, p.1 < 0x800000)) ∧
  (∀ (s : State) (x : Nat × Nat), ready s →
    ∃ t, exec (.sanitiseDone (some x)) s = .next t ∧ t.sys.sanitiseFail = some x ∧ t.mode = mSANITISE ∧ s.raisedOne t 0xD9 0x02 cCRITICAL ∧
      t.f REC_STAT_SCANNING = 1 ∧ s.keeps t [REC_STAT] ∧ t = { s with sys := t.sys, flt := t.flt, regs := t.regs }) ∧
  (∀ (s : State) (x : Option (Nat × Nat)), ¬ ready s → exec (.sanitiseDone x) s = .next s) ∧
  (∀ (s : State) (a b : BootVerdict) (p q : Bool), ¬ verifies s → exec (.verifyDone a b p q) s = .next s) ∧
  (∀ (s : State) (a b : BootVerdict) (p q : Bool), verifies s → s.bootErr a ≠ 0 → s.bootErr b ≠ 0 →
    ∃ t, exec (.verifyDone a b p q) s = .next t ∧ t.mode = mVERIFY ∧ t.sys.recovery = true ∧ t.f SYS_START_STAT_VFY_ERR = s.bootErr a ∧
      s.keeps t [SYS_START_STAT] ∧ t = { s with sys := t.sys, regs := t.regs }) ∧
  (∀ (s : State) (a b : BootVerdict) (p q : Bool), verifies s → takesA s a b ∨ takesB s a b → 8 ≤ slot s ∨ s.lcLoads = false →
    ∃ t, exec (.verifyDone a b p q) s = .next t ∧ t.mode = mBARE ∧ runs s t a b) ∧
  (∀ (s : State) (a b : BootVerdict) (p q : Bool), verifies s → takesA s a b ∨ takesB s a b → slot s < 8 → s.lcLoads = true →
    s.authCheck (slot s) p q = 0 →
    ∃ t, exec (.verifyDone a b p q) s = .next t ∧ t.mode = mLOAD ∧ runs s t a b ∧ t.sys.autostart = true ∧
      t.cfg.loading = some (slot s) ∧ t.f CFG_STAT_LDR = 1 ∧ t.f CFG_STAT_BUSY = 1) ∧
  (∀ (s : State) (a b : BootVerdict) (p q : Bool), verifies s → takesA s a b ∨ takesB s a b → slot s < 8 → s.lcLoads = true →
    s.authCheck (slot s) p q ≠ 0 →
    ∃ t, exec (.verifyDone a b p q) s = .next t ∧ t.mode = mBARE ∧ runs s t a b ∧ t.rdN CFG_ERR = s.authCheck (slot s) p q) ∧
  (∀ (s : State) (a b : BootVerdict), s.bootErr a < 7 ∧ (s.bootErr a = 0 ∨ s.bootErr b = 0 → takesA s a b ∨ takesB s a b)) ∧
  (∀ (s : State) (v : Word), s.mapOpen = true → ∃ t, exec (.sysStartWrite v) s = .next t ∧ t.f SYS_START_AUTO_SLOT = v.toNat % 16 ∧
    t.f SYS_START_ROLE = (if v.toNat / 16 % 4 = 3 then s.f SYS_START_ROLE else v.toNat / 16 % 4) ∧ t.f SYS_START_WARM = v.toNat / 64 % 2 ∧
    t.f SYS_START_WD_MS = v.toNat / 65536 ∧ s.keeps t [SYS_START] ∧ t = { s with regs := t.regs }) ∧
  (∀ (s : State) (v : Word), s.mapOpen = false → exec (.sysStartWrite v) s = .next s) ∧
  (∀ s : State, s.mapOpen = true →
    ∃ t, exec (.loamRelease 0x4354) s = .next t ∧ t.f SYS_START_STAT_LOAM_HELD = 0 ∧ s.keeps t [SYS_START_STAT] ∧ t = { s with regs := t.regs }) ∧
  (∀ (s : State) (k : Nat), k ≠ 0x4354 ∨ s.mapOpen = false → exec (.loamRelease k) s = .next s)

/-- Supply and monitors. VIN below VWARN starts shedding: the solver units stop, a commit is due and an armed swap is abandoned; a second
dip while shedding keeps the lower VIN. The commit writes what waits and, where VIN fell in RUN, a snapshot; it waits for the recorder's scan and for FW_KEY. Recovery completes a
commit that is due, ends shedding, shows the
dip and offers a SUPPLY_DIP record. Overvoltage, a lost reference, a rail outside its window, a warm sensor and a slow
oscillator are raised, the last once. The monitor record is offered in every mode after SANITISE.
The model's choices that clauses of it rest on are log 51, 52, 55, 56, 210, 211. -/
def Obligations.SupplyEvents : Prop :=
  let inRange := fun (s : State) => ∀ p ∈ s.st.probs, p.unit < 4 ∧ p.pos < 3
  let commitNoted := fun (v t : State) => t.sys.commitDue = true ∧ t.sys.commitSnap = (v.sys.commitSnap || (v.mode == mRUN && v.role != 2))
  let sheds := fun (v t : State) (mv : Nat) => t.f SYS_MODE_SHED = 1 ∧ t.f PWR_STAT_SHED = 1 ∧ t.f PWR_VIN_VIN_MV = mv % 65536 ∧
    t.sys.dipStart = some v.time.mono ∧ t.sys.dipMin = mv ∧ (∀ q, q < 4 → t.f (QS_STAT_STOPPED q) = 1) ∧
    t.f ACQ_STAT_PAUSED = b2n (v.f ACQ_STAT_STATE == 1 || v.f ACQ_STAT_STATE == 2)
  let recovers := fun (u : State) (mv rise d : Nat) => u.sys.dipStart = some d ∧ 10250 ≤ mv ∧ d ≤ rise ∧ rise ≤ u.time.mono ∧
    (u.sys.commitDue = false ∨ u.canCommit = true)
  let outside := fun (k v : Nat) => 1 ≤ k ∧ k < 12 ∧ (railNominal.getD k 0 = 0 ∨ 100 * v < 95 * railNominal.getD k 0 ∨ 105 * railNominal.getD k 0 < 100 * v)
  (∀ (s u : State) (mv m : Nat), u = s.runTo m → u.mode = mRESET ∨ 10300 < mv → exec (.vinBelowVwarn mv m) s = .next u) ∧
  (∀ (s u v : State) (mv m : Nat), u = s.runTo m → u.mode ≠ mRESET → mv ≤ 10300 → v = u.swapFirst → v.flag SYS_MODE_SHED = false →
    v.swapArmed = false → inRange v →
    ∃ t, exec (.vinBelowVwarn mv m) s = .next t ∧ sheds v t mv ∧ commitNoted v t ∧
      (v.st.probs = [] → v.keeps t [SYS_MODE, PWR_STAT, PWR_VIN, ACQ_STAT, QS_STAT 0, QS_STAT 1, QS_STAT 2, QS_STAT 3] ∧
        t = { v with sys := t.sys, regs := t.regs })) ∧
  (∀ (s u v : State) (mv m : Nat), u = s.runTo m → u.mode ≠ mRESET → mv ≤ 10300 → v = u.swapFirst → v.mode = mCHANGEOVER → v.swapArmed = true →
    v.safe.pend = none → v.flag DBG_STAT_WHEEL = false → inRange v →
    ∃ t, exec (.vinBelowVwarn mv m) s = .next t ∧ t.swapArmed = false ∧ t.f CFG_STAT_ABORTED = 1 ∧ t.rdN CFG_ERR = 0x15 ∧ t.mode = mRUN ∧
      (v.flag SYS_MODE_SHED = false → sheds v t mv) ∧ t.sys.commitDue = true) ∧
  (∀ (s u v : State) (mv m : Nat), u = s.runTo m → u.mode ≠ mRESET → mv ≤ 10300 → v = u.swapFirst → v.flag SYS_MODE_SHED = true → v.swapArmed = false →
    ∃ t, exec (.vinBelowVwarn mv m) s = .next t ∧ t.sys.dipMin = min mv v.sys.dipMin ∧ commitNoted v t ∧ t.f PWR_VIN_VIN_MV = mv % 65536 ∧
      v.keeps t [PWR_VIN] ∧ t = { v with sys := t.sys, regs := t.regs }) ∧
  (∀ s : State, s.sys.commitDue = false ∨ s.canCommit = false → exec .commitDone s = .next s) ∧
  (∀ s : State, s.sys.commitDue = true → s.canCommit = true → exec .commitDone s = .next s.commit) ∧
  (∀ s : State, ∃ t, s.commit = t ∧ t.f PWR_STAT_COMMIT_DONE = 1 ∧ t.sys.commitDue = false ∧ t.sys.commitSnap = false ∧ t.sys.flushing = false ∧
    t.recorder.faultReady = [] ∧ (s.snapDue = false → t.nv.loam = s.nv.loam) ∧
    (s.snapDue = true → s.pair.capWait = none → t.pair.seq = s.nextSeq ∧
      ∃ k, t.nv.loam.get s.olderBuf = some k ∧ k.seq = s.nextSeq ∧ k.hash = s.runHash ∧ k.time = s.time.now)) ∧
  (∀ (s u : State) (mv lo rise m : Nat), u = s.runTo m → (∀ d, ¬ recovers u mv rise d) → exec (.vinRecover mv lo rise m) s = .next u) ∧
  (∀ (s u w : State) (mv lo rise m d : Nat), u = s.runTo m → recovers u mv rise d → w = (if u.sys.commitDue then u.commit else u) →
    ∃ t, exec (.vinRecover mv lo rise m) s = .next t ∧ t.f SYS_MODE_SHED = 0 ∧ t.f PWR_STAT_SHED = 0 ∧ t.f PWR_STAT_DIP = 1 ∧
      t.f PWR_VIN_VIN_MV = mv % 65536 ∧ t.f PWR_DIP_MIN_MV = min lo w.sys.dipMin % 65536 ∧
      t.f PWR_DIP_DUR = min 65535 (roundHalfEven ((rise - d) * w.cycleInc : Nat) (100000 * Config.nsUnits)).toNat ∧ t.sys.dipStart = none ∧
      t.sys.commitDue = false ∧
      t.f ACQ_STAT_PAUSED = 0 ∧ (∀ q, q < 4 → t.f (QS_STAT_STOPPED q) = 0) ∧ (∃ p, w.recorded t 0x12 3 p) ∧
      w.keeps t ([SYS_MODE, PWR_STAT, PWR_VIN, PWR_DIP, ACQ_STAT, QS_STAT 0, QS_STAT 1, QS_STAT 2, QS_STAT 3] ++ recRegs) ∧
      t = { w with time := { w.time with hits := t.time.hits }, sys := t.sys, acq := t.acq, hq := t.hq, recorder := t.recorder, regs := t.regs }) ∧
  (∀ (s : State) (v : Nat), s.mode ≠ mRESET → 13800 ≤ v →
    ∃ t, exec (.vinOv v) s = .next t ∧ t.f PWR_STAT_OV = 1 ∧ t.f PWR_VIN_VIN_MV = v % 65536 ∧ s.raisedOne t 0xDA 0x03 cMAJOR ∧
      s.keeps t [PWR_VIN, PWR_STAT] ∧ t = { s with time := { s.time with hits := t.time.hits }, flt := t.flt, regs := t.regs }) ∧
  (∀ (s : State) (v : Nat), s.mode = mRESET ∨ v < 13800 → exec (.vinOv v) s = .next s) ∧
  (∀ s : State, s.mode ≠ mRESET → ∃ t, exec .refLost s = .next t ∧ s.raisedOne t 0xD9 0x0A cCRITICAL ∧ t = { s with flt := t.flt }) ∧
  (∀ s : State, s.mode = mRESET → exec .refLost s = .next s) ∧
  (∀ (s : State) (k v : Nat), s.mode ≠ mRESET → s.flag SYS_MODE_SHED = false → outside k v →
    ∃ t, exec (.railFault k v) s = .next t ∧ s.raisedOne t 0xDA 0x09 cCRITICAL ∧ t = { s with flt := t.flt }) ∧
  (∀ (s : State) (k v : Nat), s.mode = mRESET ∨ s.flag SYS_MODE_SHED = true ∨ ¬ outside k v → exec (.railFault k v) s = .next s) ∧
  (∀ (s : State) (i x : Nat), s.mode ≠ mRESET → 950 ≤ x →
    ∃ t, exec (.tempWarn i x) s = .next t ∧ s.raisedOne t 0xD9 0x04 cMINOR ∧ t = { s with flt := t.flt }) ∧
  (∀ (s : State) (i x : Nat), s.mode = mRESET ∨ x < 950 → exec (.tempWarn i x) s = .next s) ∧
  (∀ (s : State) (i x : Nat), s.mode ≠ mRESET → 50 ≤ x → s.sys.aged = false →
    ∃ t, exec (.ageingWarn i x) s = .next t ∧ t.sys.aged = true ∧ s.raisedOne t 0xD9 0x0B cINFO ∧ t = { s with sys := t.sys, flt := t.flt }) ∧
  (∀ (s : State) (i x : Nat), s.mode = mRESET ∨ x < 50 ∨ s.sys.aged = true → exec (.ageingWarn i x) s = .next s) ∧
  (∀ (s : State) (ts : List Int) (vs xs : List Nat), mSANITISE < s.mode →
    ∃ t p, exec (.monitorRecord ts vs xs) s = .next t ∧ p.length = 64 ∧ s.recorded t 0x40 3 p ∧ s.keeps t recRegs ∧
      t = { s with time := { s.time with hits := t.time.hits }, hq := t.hq, recorder := t.recorder, regs := t.regs }) ∧
  (∀ (s : State) (ts : List Int) (vs xs : List Nat), s.mode ≤ mSANITISE → exec (.monitorRecord ts vs xs) s = .next s)

/-- Acquisition. ARM answers its code; accepted, the engine is ARMED, every earlier block is discarded and sampling starts at the next
loop tick. STOP ends a capture in STOPPED and fires vector 3, its open block kept with LAST; a trigger of its own cycle is undone. A raw sample is due at its boundary plus
OFFSET: taken, its values enter the interval; forced or otherwise triggered, the index is shown and a trigger record offered; in a
pause it is lost and GAP is set, as are samples passed over. The stream writer moves the oldest block of HQ9 into the region's ring.
The model's choices that clauses of it rest on are log 133, 135, 136, 138, 139, 141, 268. -/
def Obligations.AcquisitionRuns : Prop :=
  let plain := fun (s : State) => (∀ p, p < s.nprobe → s.flag (ACQ_MASK_EN p) = false) ∧ s.acq.ivLen + 1 < s.acqDec
  let undoes := fun (s : State) => ∃ ws, s.acq.undo = some (s.time.mono, ws)
  let ring := fun (s : State) => max 1 (8 * (s.rdN ACQ_DSIZE % 32768))
  (∀ s : State, s.mapOpen = false → exec .acqArm s = .next s ∧ exec .acqStop s = .next s ∧ exec .acqForce s = .next s) ∧
  (∀ s : State, s.mapOpen = true → s.armCheck = 0 →
    ∃ t, exec .acqArm s = .next t ∧ t.f ACQ_RES_CODE = 0 ∧ t.acqState = aqARMED ∧ t.f ACQ_STAT_TRIGGERED = 0 ∧ t.rdN ACQ_OLD_BLK = 0 ∧ t.rdN ACQ_HEAD_BLK = 0 ∧
      (t.queue 9).items = [] ∧ t.acq = { next := if s.flag SYS_MODE_SHED = true then none else some (State.nextTick s.time.now) } ∧
      t.f ACQ_STAT_PAUSED = s.f SYS_MODE_SHED ∧ s.keeps t [ACQ_RES, ACQ_STAT, ACQ_OLD_BLK, ACQ_HEAD_BLK] ∧
      t = { s with acq := t.acq, hq := t.hq, regs := t.regs }) ∧
  (∀ s : State, s.mapOpen = true → s.acqOn = true →
    ∃ t, exec .acqArm s = .next t ∧ t.f ACQ_RES_CODE = 1 ∧ s.keeps t [ACQ_RES] ∧ t = { s with regs := t.regs }) ∧
  (∀ s : State, s.mapOpen = true → s.acqOn = false → s.acqConfigOk = false →
    ∃ t, exec .acqArm s = .next t ∧ t.f ACQ_RES_CODE = 2 ∧ s.keeps t [ACQ_RES] ∧ t = { s with regs := t.regs }) ∧
  (∀ s : State, s.mapOpen = true → s.acqOn = false → s.acqConfigOk = true → s.acqBlocks * s.framesPerBlock < s.rdN ACQ_POST →
    ∃ t, exec .acqArm s = .next t ∧ t.f ACQ_RES_CODE = 3 ∧ s.keeps t [ACQ_RES] ∧ t = { s with regs := t.regs }) ∧
  (∀ s : State, s.mapOpen = true → s.acqOn = true →
    ∃ t, exec .acqStop s = .next t ∧ t.acqState = aqSTOPPED ∧ t.acq.cur = none ∧ t.acq.next = none ∧ (undoes s → t.acq.trig = none)) ∧
  (∀ s : State, s.mapOpen = true → s.acqOn = true → ¬ undoes s → s.acq.ivLen = 0 → s.acq.cur = none →
    ∃ t, exec .acqStop s = .next t ∧ t.acqState = aqSTOPPED ∧ t.acq = { s.acq with next := none } ∧ t.host.msix.get 3 = s.host.msix.get 3 + 1 ∧
      s.keeps t [ACQ_STAT] ∧ t = { s with acq := t.acq, host := t.host, regs := t.regs }) ∧
  (∀ (s : State) (b : AcqBlock), s.mapOpen = true → s.acqOn = true → ¬ undoes s → s.acq.ivLen = 0 → s.acq.cur = some b → s.streams = false →
    ∃ t, exec .acqStop s = .next t ∧ t.acqState = aqSTOPPED ∧ t.acq.cur = none ∧ t.acq.next = none ∧
      assoc (b.seq % 1024) t.acq.sram = some { b with flags := b.flags ||| 4 } ∧ t.rdN ACQ_HEAD_BLK = b.seq % 1024 ∧
      s.keeps t [ACQ_STAT, ACQ_HEAD_BLK, ACQ_OLD_BLK] ∧ t = { s with acq := t.acq, host := t.host, regs := t.regs }) ∧
  (∀ s : State, s.mapOpen = true → s.acqOn = false → undoes s →
    ∃ t, exec .acqStop s = .next t ∧ t.acqState = aqSTOPPED ∧ t.f ACQ_STAT_TRIGGERED = 0 ∧ t.acq.trig = none ∧ t.acq.undo = none) ∧
  (∀ s : State, s.mapOpen = true → s.acqOn = false → ¬ undoes s → exec .acqStop s = .next s) ∧
  (∀ s : State, s.mapOpen = true → exec .acqForce s = .next { s with acq := { s.acq with pendForce := noted s.acq.pendForce s.time.mono } }) ∧
  (∀ (s u : State) (m : Nat), u = s.runTo m → u.sampleDue = none → exec (.acqRawSample m) s = .next u) ∧
  (∀ (s u : State) (m n b : Nat), u = s.runTo m → u.sampleDue = some n → u.acq.next = some b →
    ∃ t, exec (.acqRawSample m) s = .next t ∧ t.acq.idx = u.acq.idx + n + 1 ∧ (n ≠ 0 ∨ u.flag ACQ_STAT_PAUSED = true → t.f ACQ_STAT_GAP = 1) ∧
      (t.acq.next = none ∨ t.acq.next = some (b + (n + 1) * u.rawPeriod))) ∧
  (∀ (s u : State) (m b : Nat), u = s.runTo m → u.sampleDue = some 0 → u.acq.next = some b → u.flag ACQ_STAT_PAUSED = false → plain u →
    u.f ACQ_TRIG_EN = 0 →
    ∃ t, exec (.acqRawSample m) s = .next t ∧ t.acq.idx = u.acq.idx + 1 ∧ t.acq.ivLen = u.acq.ivLen + 1 ∧
      t.acq.last = (List.range u.nprobe).map u.probe ∧ t.acq.next = some (b + u.rawPeriod) ∧
      t.acq.cur = u.acq.cur ∧ t.acq.stored = u.acq.stored ∧ (∀ r, t.rd r = u.rd r) ∧ t = { u with acq := t.acq }) ∧
  (∀ (s u : State) (m : Nat), u = s.runTo m → u.sampleDue = some 0 → u.flag ACQ_STAT_PAUSED = false → plain u →
    u.f ACQ_TRIG_EN = 64 → u.seenBefore u.acq.pendForce = true →
    u.acqState = aqARMED → u.rdN ACQ_HOLDOFF ≤ u.acq.stored → u.acq.idx < 18446744073709551616 →
    ∃ t p, exec (.acqRawSample m) s = .next t ∧ t.acqState = aqTRIGGERED ∧ t.f ACQ_STAT_TRIGGERED = 1 ∧ t.f ACQ_TRIG_SRC = 64 ∧
      t.rd2 ACQ_TRIG_IDX = u.acq.idx ∧ t.acq.trig = some u.acq.idx ∧ t.acq.trigDue = true ∧ t.acq.pendForce = u.stillNoted u.acq.pendForce ∧
      u.recorded t 0x600 1 p ∧
      u.keeps t ([ACQ_STAT, ACQ_TRIG, ACQ_TRIG_IDX 0, ACQ_TRIG_IDX 1, ACQ_TRIG_SEC 0, ACQ_TRIG_SEC 1, ACQ_TRIG_NS, ACQ_TRIG_ANG] ++ recRegs) ∧
      t = { u with time := { u.time with hits := t.time.hits }, acq := t.acq, hq := t.hq, recorder := t.recorder, regs := t.regs }) ∧
  (∀ (s u : State) (m : Nat), u = s.runTo m → u.sampleDue = some 0 → u.flag ACQ_STAT_PAUSED = true → u.acq.cur = none →
    ∃ t, exec (.acqRawSample m) s = .next t ∧ t.acq.lost = u.acq.lost + u.acq.ivLen + 1 ∧ t.acq.ivLen = 0 ∧ t.acq.idx = u.acq.idx + 1 ∧
      t.f ACQ_STAT_GAP = 1 ∧ u.keeps t [ACQ_STAT] ∧ t = { u with time := { u.time with hits := t.time.hits }, acq := t.acq, regs := t.regs }) ∧
  (∀ (s : State) (i : QItem) (is : List QItem) (b : AcqBlock) (bs : List AcqBlock), (s.queue 9).items = i :: is → s.acq.staged = b :: bs →
    ∃ t, exec .streamBlockWrite s = .next t ∧ (t.queue 9).items = is ∧ t.acq.staged = bs ∧
      assoc (b.seq % ring s) t.acq.dram = some b ∧ t.rdN ACQ_HEAD_BLK = b.seq % ring s ∧
      t.rdN ACQ_OLD_BLK = (if b.seq < ring s then 0 else (b.seq + 1) % ring s) ∧ s.keeps t [ACQ_HEAD_BLK, ACQ_OLD_BLK] ∧
      t = { s with acq := t.acq, hq := t.hq, regs := t.regs }) ∧
  (∀ s : State, (s.queue 9).items = [] ∨ s.acq.staged = [] → exec .streamBlockWrite s = .next s)

/-- The grid. A grid step lets disciplined time run on; a step of time and a swap that fall due at a boundary come before its activities, each of
which is taken once in its cycle. At a current-loop boundary with the loops running every SERVO port takes its
corrected channels and every running engine with a current section starts it. At a loop tick the next mirror set is published with
the tick's instant, each override shows whether its cap binds, and jobs that were due have been offered. A millisecond frame
turns the counts of illegal transitions over and shows how long HOLDOVER has lasted; with the loops running it takes one cap set and makes the
solver's jobs due. Off its boundary, or before the loops run, only time passes.
The model's choices that clauses of it rest on are log 10, 170, 185, 204. -/
def Obligations.GridRuns : Prop :=
  let curDue := fun (u : State) => u.onGrid (Config.gridUnits / 2) = true ∧ u.loopsRun = true ∧ u.cfg.curAt ≠ some u.time.mono
  let tickDue := fun (u : State) => u.atTick = true ∧ u.cfg.tickAt ≠ some u.time.mono
  let msDue := fun (u : State) => u.onGrid Config.msUnits = true ∧ u.cfg.msAt ≠ some u.time.mono
  (∀ (s : State) (m : Nat), exec (.gridStep m) s = .next ((s.runTo m).takeStep.swapFirst)) ∧
  (∀ (s u : State) (m : Nat), u = s.runTo m → u.stepDue = none → u.onGrid Config.msUnits = false → u.eligibleNow = false → u.swapDue = false →
    ∃ t, exec (.gridStep m) s = .next t ∧ t.time.mono = max s.time.mono m ∧ t.time.now = s.time.now + (m - s.time.mono) * s.cycleInc ∧
      (∀ r, t.rd r = s.rd r) ∧ t = u) ∧
  (∀ (s u : State) (ch : List (Int × Int × Int)) (m : Nat), u = (s.runTo m).takeStep.swapFirst → curDue u →
    ∃ t, exec (.currentLoopBoundary ch m) s = .next t ∧ t.cfg.curAt = some u.time.mono ∧
      (∀ c : Fin 12, u.flag (CL_ENG_STAT_RUNNING c) = true → u.hasCur c = true → (u.cl c).halted = false →
        t.f (CL_ENG_STAT_IN_CUR c) = 1 ∧ t.f (CL_ENG_PC_PC c) = 0) ∧
      (∀ p : Fin 32, u.ppMode p ≠ 0 → t.f (PP_SENSE_LOW p) = wrapNat 16 (satInt 16 ((ch.getD p (0, 0, 0)).1 - signed 16 (u.f (PP_CAL01_LOW p)))) ∧
        t.f (PP_SENSE_HIGH p) = wrapNat 16 (satInt 16 ((ch.getD p (0, 0, 0)).2.1 - signed 16 (u.f (PP_CAL01_HIGH p))))) ∧
      t.time = { u.time with hits := t.time.hits }) ∧
  (∀ (s u : State) (ch : List (Int × Int × Int)) (m : Nat), u = (s.runTo m).takeStep.swapFirst → ¬ curDue u →
    exec (.currentLoopBoundary ch m) s = .next u) ∧
  (∀ (s u : State) (cv : List (List (Nat × Int))) (bad : Bool) (m : Nat), u = ((s.runTo m).takeStep.swapFirst).millisecond → tickDue u →
    (∀ p ∈ u.st.probs, p.unit < 4 ∧ p.pos < 3) →
    ∃ t, exec (.loopTick cv bad m) s = .next t ∧ t.cfg.tickAt = some u.time.mono ∧ t.safe.mirrorSeq = (u.safe.mirrorSeq + 1) % 65536 ∧ t.jobsDue = false ∧
      (bad = false → t.safe.mirrorAt = u.time.mono ∧ t.safe.mirrorStale = false ∧ t.f SAFE_SSM_STAT_MIRROR_STALE = 0 ∧
        ∃ x, t.safe.mirror = some x ∧ x.seq = (u.safe.mirrorSeq + 1) % 65536 ∧ x.step = Instant.ns u.time.now / 31250) ∧
      (bad = true → t.safe.mirror = u.safe.mirror ∧ t.safe.mirrorAt = u.safe.mirrorAt) ∧
      (∀ c : Fin 12, t.f (CL_PSO_ACT_CAPPED c) = b2n (decide (u.f (CL_PSO_CAP_S_CAP c) < min (u.f (CL_PSO_SET c)) 65536))) ∧
      t.time = { u.time with hits := t.time.hits }) ∧
  (∀ (s u : State) (cv : List (List (Nat × Int))) (bad : Bool) (m : Nat), u = ((s.runTo m).takeStep.swapFirst).millisecond → ¬ tickDue u →
    exec (.loopTick cv bad m) s = .next u) ∧
  (∀ (s u : State) (m : Nat), u = (s.runTo m).takeStep.swapFirst → ¬ msDue u → exec (.millisecondFrame m) s = .next u) ∧
  (∀ (s u : State) (m : Nat), u = (s.runTo m).takeStep.swapFirst → msDue u →
    ∃ t, exec (.millisecondFrame m) s = .next t ∧ t.cfg.msAt = some u.time.mono ∧
      (∀ p : Fin 32, (t.fbps.get p).illNow = 0 ∧ (t.fbps.get p).illPrev = (u.fbps.get p).illNow) ∧
      (u.loopsRun = true → t.frameSeq = u.frameSeq + 1 ∧ t.jobsDue = true ∧ (∀ k, u.capsNow = some k → t.safe.taken = some k)) ∧
      (u.loopsRun = false → u.keeps t [TIME_HOLD_MS] ∧ t = { u with cfg := t.cfg, fbps := t.fbps, regs := t.regs } ∧
        (∀ h, u.time.holdFrom = some h → t.rdN TIME_HOLD_MS = min 4294967295 (u.msOf (u.time.mono - h))) ∧
        (u.time.holdFrom = none → t.rdN TIME_HOLD_MS = u.rdN TIME_HOLD_MS)))

/-- Debug. With the key and debug open, HALT stops the target that DBG_TGT names where the mode permits it: the target and SYS_MODE.HALT
show it and vector 4 fires; elsewhere HALT_REF is set. RESUME lets it go on. STEP runs one instruction of a halted engine; of a core
it has no effect of its own (the model's choice: what a core does arrives as its commands); on a running target it is refused. A
breakpoint that is enabled sets BP_HIT and halts its core or engine, or takes a snapshot alone. RELOCK ends a token. With debug
locked, or without the key, nothing happens.
The model's choices that clauses of it rest on are log 166, 167, 168, 169. -/
def Obligations.DebugRuns : Prop :=
  let shown := fun (s t : State) => t.host.msix.get 4 = s.host.msix.get 4 + 1
  let hits := fun (s t : State) => { s.time with hits := t.time.hits }
  let refused := fun (c : Instr) (s : State) => ∃ t, exec c s = .next t ∧ t.f DBG_STAT_HALT_REF = 1 ∧ s.keeps t [DBG_STAT] ∧
    t = { s with time := { s.time with hits := t.time.hits }, regs := t.regs }
  let core := fun (s : State) (c : Fin 8) => s.flag DBG_STAT_LOCKED = false ∧ s.tgtKind = 0 ∧ s.tgtIndex = c.val
  let cluster := fun (s : State) (c : Fin 12) => s.flag DBG_STAT_LOCKED = false ∧ s.tgtKind = 1 ∧ s.tgtIndex = c.val
  let wheel := fun (s : State) => s.flag DBG_STAT_LOCKED = false ∧ s.tgtKind = 2
  let noHalt := fun (s : State) => (s.tgtKind = 0 ∧ (8 ≤ s.tgtIndex ∨ s.dbgMay 0 = false ∨ s.coreHaltOk = false)) ∨
    (s.tgtKind = 1 ∧ (12 ≤ s.tgtIndex ∨ s.dbgMay 1 = false ∨ s.haltAllowed = false)) ∨
    (s.tgtKind = 2 ∧ (s.dbgMay 1 = false ∨ s.haltAllowed = false)) ∨ s.tgtKind = 3
  let noResume := fun (s : State) => (s.tgtKind = 0 ∧ (8 ≤ s.tgtIndex ∨ s.dbgMay 0 = false)) ∨
    (s.tgtKind = 1 ∧ (12 ≤ s.tgtIndex ∨ s.dbgMay 1 = false)) ∨ (s.tgtKind = 2 ∧ s.dbgMay 1 = false) ∨ s.tgtKind = 3
  let met := fun (s : State) (n : Fin 56) => s.flag DBG_STAT_LOCKED = false ∧ (s.rdN (DBG_BP n 1)).testBit 0 = true ∧
    (n.val < 32 ∨ s.f (CL_ENG_PC_PC ((n - 32) / 2)) % 4096 = s.rdN (DBG_BP n 0) % 4096)
  (∀ (s : State) (k : Nat) (i : EInstr), k ≠ 0x4447 → exec (.dbgHalt k) s = .next s ∧ exec (.dbgResume k) s = .next s ∧
    exec (.dbgStep k i) s = .next s ∧ exec (.dbgRelock k) s = .next s) ∧
  (∀ (s : State) (i : EInstr) (n : Fin 56), s.flag DBG_STAT_LOCKED = true → exec (.dbgHalt 0x4447) s = .next s ∧ exec (.dbgResume 0x4447) s = .next s ∧
    exec (.dbgStep 0x4447 i) s = .next s ∧ exec (.breakpointHit n) s = .next s) ∧
  (∀ (s : State) (c : Fin 8), core s c → s.dbgMay 0 = true → s.coreHaltOk = true → (s.sched.cores.get c).halted = false →
    ∃ t, exec (.dbgHalt 0x4447) s = .next t ∧ (t.sched.cores.get c).halted = true ∧ t.f ⟨DBG_STAT, 8 + c, 1⟩ = 1 ∧ t.f SYS_MODE_HALT = 1 ∧ shown s t ∧
      (∀ d, d ≠ c → t.sched.cores.get d = s.sched.cores.get d) ∧ s.keeps t [DBG_STAT, SYS_MODE] ∧
      t = { s with sched := t.sched, host := t.host, regs := t.regs }) ∧
  (∀ (s : State) (c : Fin 8), core s c → s.dbgMay 0 = true → s.coreHaltOk = true → (s.sched.cores.get c).halted = true →
    exec (.dbgHalt 0x4447) s = .next s) ∧
  (∀ (s : State) (c : Fin 12), cluster s c → s.dbgMay 1 = true → s.haltAllowed = true → (s.cl c).halted = false →
    ∃ t, exec (.dbgHalt 0x4447) s = .next t ∧ (t.cl c).halted = true ∧ t.f ⟨DBG_STAT, 16 + c, 1⟩ = 1 ∧ t.f SYS_MODE_HALT = 1 ∧ shown s t ∧
      (∀ d, d ≠ c → t.cl d = s.cl d) ∧ s.keeps t [DBG_STAT, SYS_MODE] ∧ t = { s with clusters := t.clusters, host := t.host, regs := t.regs }) ∧
  (∀ (s : State) (c : Fin 12), cluster s c → s.dbgMay 1 = true → s.haltAllowed = true → (s.cl c).halted = true →
    exec (.dbgHalt 0x4447) s = .next s) ∧
  (∀ s : State, wheel s → s.dbgMay 1 = true → s.haltAllowed = true → s.flag DBG_STAT_WHEEL = false →
    ∃ t, exec (.dbgHalt 0x4447) s = .next t ∧ t.f DBG_STAT_WHEEL = 1 ∧ t.f SYS_MODE_HALT = 1 ∧ shown s t ∧ t.wheel.w = s.wpos ∧
      s.keeps t [DBG_STAT, SYS_MODE, WHEEL_STAT] ∧ t = { s with wheel := t.wheel, host := t.host, regs := t.regs }) ∧
  (∀ s : State, wheel s → s.dbgMay 1 = true → s.haltAllowed = true → s.flag DBG_STAT_WHEEL = true → exec (.dbgHalt 0x4447) s = .next s) ∧
  (∀ s : State, s.flag DBG_STAT_LOCKED = false → noHalt s → refused (.dbgHalt 0x4447) s) ∧
  (∀ (s : State) (c : Fin 8), core s c → s.dbgMay 0 = true → (s.sched.cores.get c).halted = true →
    ∃ t, exec (.dbgResume 0x4447) s = .next t ∧ (t.sched.cores.get c).halted = false ∧ t.f ⟨DBG_STAT, 8 + c, 1⟩ = 0 ∧
      (∀ d, d ≠ c → t.sched.cores.get d = s.sched.cores.get d) ∧ s.keeps t [DBG_STAT, SYS_MODE] ∧ t = { s with sched := t.sched, regs := t.regs }) ∧
  (∀ (s : State) (c : Fin 12), cluster s c → s.dbgMay 1 = true → (s.cl c).halted = true →
    ∃ t, exec (.dbgResume 0x4447) s = .next t ∧ (t.cl c).halted = false ∧ t.f ⟨DBG_STAT, 16 + c, 1⟩ = 0 ∧
      (∀ a : Fin 96, a.val / 8 = c.val → (t.tiles.get a).lp.ran = none) ∧ s.keeps t [DBG_STAT, SYS_MODE] ∧
      t = { s with clusters := t.clusters, tiles := t.tiles, regs := t.regs }) ∧
  (∀ s : State, (∃ c, core s c ∧ s.dbgMay 0 = true ∧ (s.sched.cores.get c).halted = false) ∨
      (∃ c, cluster s c ∧ s.dbgMay 1 = true ∧ (s.cl c).halted = false) →
    ∃ t, exec (.dbgResume 0x4447) s = .next t ∧ s.keeps t [SYS_MODE] ∧ t = { s with regs := t.regs } ∧
      t.f SYS_MODE_HALT = b2n (s.flag DBG_STAT_CORES || s.flag DBG_STAT_CLUSTERS || s.flag DBG_STAT_WHEEL)) ∧
  (∀ s : State, wheel s → s.dbgMay 1 = true → s.flag DBG_STAT_WHEEL = true →
    exec (.dbgResume 0x4447) s = .next (((s.setF DBG_STAT_WHEEL 0).jumpFrom s.wheel.w (s.setF DBG_STAT_WHEEL 0).wpos).showHalt)) ∧
  (∀ s : State, wheel s → s.dbgMay 1 = true → s.flag DBG_STAT_WHEEL = false → exec (.dbgResume 0x4447) s = .next s.showHalt) ∧
  (∀ s : State, s.flag DBG_STAT_LOCKED = false → noResume s → exec (.dbgResume 0x4447) s = .next s) ∧
  (∀ (s : State) (c : Fin 12) (i : EInstr), cluster s c → s.dbgMay 1 = true → (s.cl c).halted = true →
    exec (.dbgStep 0x4447 i) s = .next (s.stepEngine c i) ∧ ((s.stepEngine c i).cl c).halted = true) ∧
  (∀ (s : State) (c : Fin 8) (i : EInstr), core s c → s.dbgMay 0 = true → (s.sched.cores.get c).halted = true → exec (.dbgStep 0x4447 i) s = .next s) ∧
  (∀ (s : State) (i : EInstr), s.flag DBG_STAT_LOCKED = false → (∃ c, core s c ∧ (s.sched.cores.get c).halted = false) ∨
      (∃ c, cluster s c ∧ (s.cl c).halted = false) ∨ noResume s ∨ s.tgtKind = 2 →
    refused (.dbgStep 0x4447 i) s) ∧
  (∀ (s : State) (n : Fin 56), ¬ met s n → exec (.breakpointHit n) s = .next s) ∧
  (∀ (s : State) (n : Fin 56) (c : Fin 8), n.val / 4 = c.val → met s n → s.dbgMay 0 = true → s.coreHaltOk = true →
    ∃ t, exec (.breakpointHit n) s = .next t ∧ t.f DBG_STAT_BP_HIT = 1 ∧ (t.sched.cores.get c).halted = true ∧ t.f ⟨DBG_STAT, 8 + c, 1⟩ = 1 ∧ shown s t ∧
      s.keeps t [DBG_STAT, SYS_MODE] ∧ t = { s with time := hits s t, sched := t.sched, host := t.host, regs := t.regs }) ∧
  (∀ (s : State) (n : Fin 56), n.val < 32 → met s n → s.dbgMay 0 = false ∨ s.coreHaltOk = false →
    ∃ t, exec (.breakpointHit n) s = .next t ∧ t.f DBG_STAT_BP_HIT = 1 ∧ shown s t ∧
      s.keeps t [DBG_STAT] ∧ t = { s with time := hits s t, host := t.host, regs := t.regs }) ∧
  (∀ (s : State) (n : Fin 56) (c : Fin 12), 32 ≤ n.val → (n.val - 32) / 2 = c.val → met s n →
    (s.rdN (DBG_BP n 1)).testBit 3 = false → s.dbgMay 1 = true → s.haltAllowed = true →
    ∃ t, exec (.breakpointHit n) s = .next t ∧ t.f DBG_STAT_BP_HIT = 1 ∧ (t.cl c).halted = true ∧ t.f ⟨DBG_STAT, 16 + c, 1⟩ = 1 ∧ shown s t ∧
      s.keeps t [DBG_STAT, SYS_MODE] ∧ t = { s with time := hits s t, clusters := t.clusters, host := t.host, regs := t.regs }) ∧
  (∀ (s : State) (n : Fin 56) (c : Fin 12), 32 ≤ n.val → (n.val - 32) / 2 = c.val → met s n →
    (s.rdN (DBG_BP n 1)).testBit 3 = true ∨ s.dbgMay 1 = false ∨ s.haltAllowed = false →
    ∃ t, exec (.breakpointHit n) s = .next t ∧ t.f DBG_STAT_BP_HIT = 1 ∧
      t.rdN (DBG_SNAP 0) = s.f (CL_ENG_PC_PC c) % 4096 + 4096 * c.val ∧ t.clusters = s.clusters ∧ shown s t ∧
      t = { s with time := hits s t, host := t.host, regs := t.regs }) ∧
  (∀ s : State, s.flag DBG_STAT_TOKEN = true →
    ∃ t, exec (.dbgRelock 0x4447) s = .next t ∧ t.f DBG_STAT_LOCKED = 1 ∧ t.f DBG_STAT_TOKEN = 0 ∧ t.host.tokenEnd = none ∧ t.host.scope = 0) ∧
  (∀ s : State, s.flag DBG_STAT_TOKEN = false → exec (.dbgRelock 0x4447) s = .next s)

/-- Host rings. A ring register takes a valid size while disabled, enables with it, and disabling resets both indices. The doorbell
moves the tail. Both, and a fetch, first let completions of cores that wait go out. A command is fetched only where one waits and an entry of the completion ring and a cell of HQ6 can be reserved
(the state after the reservation is named u); one that a check of R533 refuses completes with the code, an admitted one is queued
at HQ5, a handler class's joins the ready list too. NOP completes. CANCEL withdraws a queued command, which completes with CANCELLED;
else it answers MODE. A handler command goes to its handler where it is the next start. A running
core's put is admitted to the queue it names or refused FULL; one that names
another queue than those of cores is refused STRUCTURE, one of a bad length BUDGET.
The model's choices that clauses of it rest on are log 19, 150, 151, 152, 153, 157, 158, 191. -/
def Obligations.HostRings : Prop :=
  let dry := fun (s : State) => (s.queue 6).items = []
  let res := fun (s t : State) (c : Fin 8) (code : Nat) => (t.sched.cores.get c).result = BitVec.ofNat 32 code ∧
    (∀ d, d ≠ c → t.sched.cores.get d = s.sched.cores.get d)
  let puts := fun (s : State) (c : Fin 8) => (s.sched.cores.get c).running.isSome = true ∧ (s.sched.cores.get c).halted = false
  let tagged := fun (s : State) (tag : Nat) => (s.queue 5).items.findSome? (fun (i : QItem) => match i.body with
    | .work x => if x.tag = tag then some x else none
    | _ => none)
  let fetches := fun (b : State) => b.hostLive = true ∧ b.hcWaits = true ∧ b.canReserve = true
  (∀ (s : State) (v : Word) (cq : Bool), s.mapOpen = false → exec (.doorbell v) s = .next s ∧ exec (.hostRingCfg cq v) s = .next s) ∧
  (∀ (s : State) (v : Word), s.mapOpen = true → exec (.doorbell v) s = .next ((s.setF HQ_HC_TAIL_INDEX v.toNat).drainCq)) ∧
  (∀ (s : State) (v : Word) (cq : Bool), s.mapOpen = true → exec (.hostRingCfg cq v) s = .next ((s.ringCfg cq v.toNat).drainCq)) ∧
  (∀ s : State, dry s → s.drainCq = s) ∧
  (∀ (s : State) (l : Nat) (c : Completion), (s.queue 6).items = [⟨l, .completion c⟩] → s.flag HQ_CQ_CFG_EN = true →
    s.cqUsed + s.host.opened.length + 1 < s.cqSize → ∃ v, s.take 6 = some (⟨l, .completion c⟩, v) ∧ s.drainCq = v.writeCq c) ∧
  (∀ (s : State) (v : Word), s.mapOpen = true → dry s →
    ∃ t, exec (.doorbell v) s = .next t ∧ t.f HQ_HC_TAIL_INDEX = v.toNat % 4096 ∧ s.keeps t [HQ_HC_TAIL] ∧ t = { s with regs := t.regs }) ∧
  (∀ (s : State) (v : Word), s.mapOpen = true → dry s → s.flag HQ_HC_CFG_EN = false → 4 ≤ v.toNat % 16 → v.toNat % 16 ≤ 12 → v.toNat.testBit 4 = true →
    ∃ t, exec (.hostRingCfg false v) s = .next t ∧ t.f HQ_HC_CFG_LOG2 = v.toNat % 16 ∧ t.f HQ_HC_CFG_EN = 1 ∧ s.keeps t [HQ_HC_CFG] ∧
      t = { s with regs := t.regs }) ∧
  (∀ (s : State) (v : Word), s.mapOpen = true → dry s → s.flag HQ_HC_CFG_EN = true → v.toNat.testBit 4 = false →
    ∃ t, exec (.hostRingCfg false v) s = .next t ∧ t.f HQ_HC_CFG_LOG2 = s.f HQ_HC_CFG_LOG2 ∧ t.f HQ_HC_CFG_EN = 0 ∧ t.f HQ_HC_TAIL_INDEX = 0 ∧
      t.f HQ_HC_HEAD_INDEX = 0 ∧ s.keeps t [HQ_HC_CFG, HQ_HC_TAIL, HQ_HC_HEAD] ∧ t = { s with regs := t.regs }) ∧
  (∀ (s : State) (v : Word), s.mapOpen = true → dry s → s.flag HQ_CQ_CFG_EN = true → v.toNat.testBit 4 = false →
    ∃ t, exec (.hostRingCfg true v) s = .next t ∧ t.f HQ_CQ_CFG_LOG2 = s.f HQ_CQ_CFG_LOG2 ∧ t.f HQ_CQ_CFG_EN = 0 ∧ t.f HQ_CQ_TAIL_INDEX = 0 ∧
      t.f HQ_CQ_HEAD_INDEX = 0 ∧ s.keeps t [HQ_CQ_CFG, HQ_CQ_TAIL, HQ_CQ_HEAD] ∧ t = { s with host := t.host, regs := t.regs }) ∧
  (∀ (s : State) (v : Word), dry s → s.flag HQ_CQ_CFG_EN = false → s.f HQ_CQ_CFG_LOG2 < 4 → (v.toNat % 16 < 4 ∨ 12 < v.toNat % 16) →
    v.toNat.testBit 4 = true → exec (.hostRingCfg true v) s = .next s) ∧
  (∀ (s b : State) (c : HostCmd), b = s.drainCq → ¬ fetches b → exec (.commandFetch c) s = .next b) ∧
  (∀ (s b u : State) (c : HostCmd), b = s.drainCq → fetches b → b.f HQ_HC_CFG_LOG2 ≤ 12 → u = (b.reserve c).1 →
    exec (.commandFetch c) s = .next (u.hostAdmit c b.sched.nextId) ∧
    u.f HQ_HC_HEAD_INDEX = (b.f HQ_HC_HEAD_INDEX + 1) % 2 ^ b.f HQ_HC_CFG_LOG2 ∧ b.keeps u [HQ_HC_HEAD, HQ_HWM 6] ∧
    u.host.opened = b.host.opened ++ [⟨b.sched.nextId, c.cls, c.tag, false⟩] ∧ (∀ n, n ≠ 6 → u.queue n = b.queue n) ∧
    (∀ code, u.hostCheck c = code → code ≠ admOK → u.ownMode c = false → (∀ o ∈ b.host.opened, o.id ≠ b.sched.nextId) → b.f HQ_CQ_CFG_LOG2 ≤ 12 →
      ∃ t, exec (.commandFetch c) s = .next t ∧ t.host.opened = b.host.opened ∧ t.host.msix.get 0 = b.host.msix.get 0 + 1 ∧
        t.f HQ_CQ_TAIL_INDEX = (b.f HQ_CQ_TAIL_INDEX % b.cqSize + 1) % b.cqSize ∧
        (∃ ph, ph < 2 ∧ t.host.mem.getMany 0 b.cqAddr 12 = natLE 4 c.tag ++ natLE 1 code ++ natLE 1 0 ++ natLE 1 ph ++ natLE 1 0 ++ natLE 4 0) ∧
        (∀ n, n ≠ 6 → t.queue n = b.queue n) ∧ b.keeps t [HQ_HC_HEAD, HQ_HWM 6, HQ_CQ_TAIL] ∧
        t = { b with hq := t.hq, host := t.host, sched := t.sched, regs := t.regs }) ∧
    (∀ v, u.hostCheck c = admOK → u.openOf c.cls ≤ (b.classTerms c.cls).1 →
      u.offer 5 ⟨64 + c.payload.length, .work (u.hostWork c b.sched.nextId)⟩ = some v →
      ∃ t, exec (.commandFetch c) s = .next t ∧ (t.queue 5).items = (b.queue 5).items ++ [⟨64 + c.payload.length, .work (u.hostWork c b.sched.nextId)⟩] ∧
        (deviceClass c.cls = true → t.sched.ready = b.sched.ready) ∧
        (deviceClass c.cls = false → ∃ l r, b.sched.ready = l ++ r ∧
          t.sched.ready = l ++ { u.hostWork c b.sched.nextId with at_ := b.time.mono } :: r) ∧
        t.host = u.host ∧ b.keeps t [HQ_HC_HEAD, HQ_HWM 6, HQ_HWM 5] ∧ t = { b with hq := t.hq, host := t.host, sched := t.sched, regs := t.regs }) ∧
    (u.hostCheck c = admOK → (b.classTerms c.cls).1 < u.openOf c.cls →
      ∃ t, exec (.commandFetch c) s = .next t ∧ t.rdN (HQ_CNT_REF 5) = min (b.rdN (HQ_CNT_REF 5) + 1) 4294967295 ∧ t.queue 5 = b.queue 5)) ∧
  (∀ s : State, s.hostNext 9 = none → exec .nop s = .next s) ∧
  (∀ (s : State) (w : Work), s.hostNext 9 = some w → exec .nop s = .next ((s.unqueue w).answer w admOK 0 0)) ∧
  (∀ (s : State) (w : Work), s.hostOldest w 9 →
    ∃ t, exec .nop s = .next t ∧ s.answered t w admOK 0 0 ∧ (∀ n, n ≠ 5 → n ≠ 6 → t.queue n = s.queue n) ∧ s.keeps t [HQ_CQ_TAIL] ∧
      t = { s with hq := t.hq, host := t.host, sched := t.sched, regs := t.regs }) ∧
  (∀ s : State, s.hostNext 8 = none → exec .hostCancel s = .next s) ∧
  (∀ (s : State) (w x : Work), s.hostNext 8 = some w → tagged (s.unqueue w) w.arg = some x →
    exec .hostCancel s = .next ((((s.unqueue w).unqueue x).endWork x admCANCELLED 0).answer w admOK 0 0)) ∧
  (∀ (s : State) (w : Work), s.hostNext 8 = some w → tagged (s.unqueue w) w.arg = none →
    exec .hostCancel s = .next ((s.unqueue w).answer w admOK rMODE (if s.host.opened.any (fun (o : HostOpen) => o.tag == w.arg && o.id != w.id) then 1 else 2))) ∧
  (∀ (s : State) (w : Work), s.hostOldest w 8 → (∀ i ∈ (s.queue 5).items, ∃ x, i.body = .work x ∧ (x.tag = w.arg → x.id = w.id)) →
    ∃ t, exec .hostCancel s = .next t ∧
      s.answered t w admOK rMODE (if s.host.opened.any (fun (o : HostOpen) => o.tag == w.arg && o.id != w.id) then 1 else 2) ∧
      (∀ n, n ≠ 5 → n ≠ 6 → t.queue n = s.queue n) ∧ s.keeps t [HQ_CQ_TAIL] ∧
      t = { s with hq := t.hq, host := t.host, sched := t.sched, regs := t.regs }) ∧
  (∀ (s : State) (w x : Work) (k l : Nat), s.hostOldest w 8 → (s.queue 5).items = [⟨k, .work w⟩, ⟨l, .work x⟩] → x.tag = w.arg → x.id ≠ w.id →
    x.src = 5 → (∃ o, s.host.opened.find? (fun (o : HostOpen) => o.id == x.id) = some o ∧ o.drop = false) → 4 ≤ s.f HQ_CQ_CFG_LOG2 →
    ∃ t, exec .hostCancel s = .next t ∧ (t.queue 5).items = [] ∧
      t.host.opened = s.host.opened.filter (fun (o : HostOpen) => o.id != x.id && o.id != w.id) ∧ t.host.msix.get 0 = s.host.msix.get 0 + 2 ∧
      t.host.mem.getMany 0 s.cqAddr 6 = natLE 4 x.tag ++ natLE 1 admCANCELLED ++ natLE 1 0 ∧
      s.keeps t [HQ_CQ_TAIL] ∧ t = { s with hq := t.hq, host := t.host, sched := t.sched, regs := t.regs }) ∧
  (∀ s : State, s.stopped = true ∨ s.nextStart = none → exec .hostHandlerCommand s = .next s) ∧
  (∀ (s : State) (w : Work) (c : Fin 8) (p q : Nat), s.nextStart = some (w, c, p, q) → w.src ≠ 5 → exec .hostHandlerCommand s = .next s) ∧
  (∀ (s : State) (w : Work) (c : Fin 8) (p q : Nat) (h : Handler), s.stopped = false → s.nextStart = some (w, c, p, q) → w.src = 5 →
    s.st.handlers.find? (fun (x : Handler) => x.index == w.handler) = some h →
    ∃ t, exec .hostHandlerCommand s = .next t ∧ (t.sched.cores.get c).running = some w ∧ (t.sched.cores.get c).inbox = w.payload ∧
      t.sched.ready = s.sched.ready.filter (fun x => x.id != w.id) ∧ t.sched.pointer = p ∧ t.sched.quantum = q ∧ t.host = s.host ∧
      (t.mem.core.get c).getMany 0 0x7C040 w.payload.length = w.payload ∧
      (∀ n, n ≠ 5 → t.queue n = s.queue n) ∧ s.keeps t [SCHED_STAT, SCHED_CORE c] ∧
      t = { s with sched := t.sched, hq := t.hq, mem := t.mem, regs := t.regs }) ∧
  (∀ (s : State) (w : Work) (c : Fin 8) (p q : Nat), s.stopped = false → s.nextStart = some (w, c, p, q) → w.src = 5 →
    s.st.handlers.find? (fun (x : Handler) => x.index == w.handler) = none →
    ∃ u : State, exec .hostHandlerCommand s = .next (u.endWork w admCANCELLED 0) ∧ u.sched.ready = s.sched.ready.filter (fun x => x.id != w.id) ∧
      u.sched.cores = s.sched.cores ∧ u = { s with sched := u.sched, hq := u.hq }) ∧
  (∀ (s : State) (c : Fin 8) (q len : Nat) (b : Body), ¬ puts s c → exec (.corePut c q len b) s = .next s) ∧
  (∀ (s : State) (c : Fin 8) (q len : Nat) (b : Body), puts s c →
    exec (.corePut c q len b) s = .next ((s.corePut q len b).1.setResult c (s.corePut q len b).2 0)) ∧
  (∀ (s : State) (c : Fin 8) (q len : Nat) (b : Body), puts s c → q ∉ [0, 1, 6, 8, 12, 14] →
    ∃ t, exec (.corePut c q len b) s = .next t ∧ res s t c admSTRUCTURE ∧ t = { s with sched := t.sched }) ∧
  (∀ (s : State) (c : Fin 8) (q len : Nat) (b : Body), puts s c → q ∈ [0, 1, 6, 8, 12, 14] → (len = 0 ∨ 9216 < len) →
    ∃ t, exec (.corePut c q len b) s = .next t ∧ res s t c admBUDGET ∧ t = { s with sched := t.sched }) ∧
  (∀ (s u : State) (c : Fin 8) (len port : Nat) (bs : List Byte), puts s c → 1 ≤ len → len ≤ 9216 → port < 2 → s.offer 14 ⟨len, .frame port bs⟩ = some u →
    ∃ t, exec (.corePut c 14 len (.frame port bs)) s = .next t ∧ res s t c admOK ∧
      (t.queue 14).items = (s.queue 14).items ++ [⟨len, .frame port bs⟩] ∧ (∀ n, n ≠ 14 → t.queue n = s.queue n) ∧ s.keeps t [HQ_HWM 14] ∧
      t = { s with sched := t.sched, hq := t.hq, regs := t.regs }) ∧
  (∀ (s : State) (c : Fin 8) (len port : Nat) (bs : List Byte), puts s c → 1 ≤ len → len ≤ 9216 → port < 2 → s.offer 14 ⟨len, .frame port bs⟩ = none →
    ∃ t, exec (.corePut c 14 len (.frame port bs)) s = .next t ∧ res s t c admFULL ∧
      t.rdN (HQ_CNT_REF 14) = min (s.rdN (HQ_CNT_REF 14) + 1) 4294967295 ∧ s.keeps t [HQ_CNT_REF 14] ∧ t = { s with sched := t.sched, regs := t.regs }) ∧
  (∀ (s u : State) (c : Fin 8) (len seg off k : Nat) (bs : List Byte), puts s c → 1 ≤ len → len ≤ 9216 →
    s.ringPut 0 seg off bs.length = admOK → s.offer 0 ⟨len, .staged 0 seg off bs s.time.mono⟩ = some u →
    ∃ t, exec (.corePut c 0 len (.staged 0 seg off bs k)) s = .next t ∧ res s t c admOK ∧
      (t.queue 0).items = (s.queue 0).items ++ [⟨len, .staged 0 seg off bs s.time.mono⟩] ∧ (∀ n, n ≠ 0 → t.queue n = s.queue n) ∧
      s.keeps t [HQ_HWM 0] ∧ t = { s with sched := t.sched, hq := t.hq, regs := t.regs })

/-- Device commands. A host segment, insertion or cancel goes through its own admission, and the outcome is its completion's ADM, the
handle its VALUE; an occurrence that has already been reached fires before its cancel. SLOT_WRITE: the first write erases the slot and empties its directory entry; the running boot slot and the running and shadow
image's slots answer SLOT_IN_USE; an offset that does not go on answers FORMAT. Its end programs the bytes; with LAST and the right MAGIC
the directory records length and hash, without it the slot stays empty with FORMAT; every end of one makes a record. SLOT_ERASE erases. In recovery
bytes are written to flash, erasing each 64 KiB sector at its first write; outside recovery nothing happens.
The model's choices that clauses of it rest on are log 13, 20, 159, 160. -/
def Obligations.HostDevices : Prop :=
  let one := fun (s t : State) => (∀ n, n ≠ 5 → n ≠ 6 → t.queue n = s.queue n) ∧ s.keeps t [HQ_CQ_TAIL]
  let isOpen := fun (s : State) (w : Work) => s.flag HQ_CQ_CFG_EN = true ∧
    ∃ o, s.host.opened.find? (fun (x : HostOpen) => x.id == w.id) = some o ∧ o.drop = false
  let slotIs := fun (s t : State) (k : Fin 10) (e : Option DirEntry) (w : Option Nat) => t.nv.dir.get k = e ∧ t.nv.writing.get k = w ∧
    (∀ j, j ≠ k → t.nv.dir.get j = s.nv.dir.get j ∧ t.nv.writing.get j = s.nv.writing.get j)
  let startOff := fun (w : Work) => 16 * (w.arg / 16 % 134217728)
  (∀ (s : State) (w : Work), s.hostNext 1 = some w → exec .hostSegment s = .next
    (((s.unqueue w).admitSegment (Segment.ofBytes w.payload) 1).1.answer w ((s.unqueue w).admitSegment (Segment.ofBytes w.payload) 1).2 0 0)) ∧
  (∀ (s : State) (w : Work), s.hostOldest w 1 →
    ∃ t p, p = (s.unqueue w).admitSegment (Segment.ofBytes w.payload) 1 ∧ exec .hostSegment s = .next t ∧ s.answered t w p.2 0 0 ∧
      t.queue 12 = p.1.queue 12 ∧ p.1.keeps t [HQ_CQ_TAIL] ∧ t = { s with tiles := p.1.tiles, hq := t.hq, host := t.host, sched := t.sched, regs := t.regs }) ∧
  (∀ (s u : State) (w : Work) (a : Fin 96), s.hostOldest w 1 → (Segment.ofBytes w.payload).axis = a.val →
    (s.unqueue w).segCheck a (Segment.ofBytes w.payload) = admOK →
    (s.unqueue w).offer 12 ⟨64, .segment (Segment.ofBytes w.payload) 1 s.time.mono⟩ = some u →
    ∃ t, exec .hostSegment s = .next t ∧ s.answered t w admOK 0 0 ∧
      (t.queue 12).items = (s.queue 12).items ++ [⟨64, .segment (Segment.ofBytes w.payload) 1 s.time.mono⟩] ∧
      (t.tiles.get a).admitted = (s.tiles.get a).admitted + 1 ∧ (∀ b, b ≠ a → t.tiles.get b = s.tiles.get b)) ∧
  (∀ (s : State) (w : Work), s.hostNext 2 = some w → exec .hostWheelIns s = .next
    (((s.unqueue w).insert false (Descriptor.ofBytes w.payload)).1.answer w ((s.unqueue w).insert false (Descriptor.ofBytes w.payload)).2.1 0
      ((s.unqueue w).insert false (Descriptor.ofBytes w.payload)).2.2)) ∧
  (∀ (s : State) (w : Work), s.hostOldest w 2 →
    ∃ t p, p = (s.unqueue w).insert false (Descriptor.ofBytes w.payload) ∧ exec .hostWheelIns s = .next t ∧ s.answered t w p.2.1 0 p.2.2 ∧
      one p.1 t ∧ t = { s with wheel := p.1.wheel, hq := t.hq, host := t.host, sched := t.sched, regs := t.regs }) ∧
  (∀ (s : State) (w : Work), s.hostOldest w 2 → (s.unqueue w).insertCheck (Descriptor.ofBytes w.payload) = admLATE →
    ∃ t, exec .hostWheelIns s = .next t ∧ s.answered t w admLATE 0 0 ∧ t.rdN WHEEL_CNT_REF = min (s.rdN WHEEL_CNT_REF + 1) 4294967295 ∧
      t.wheel = s.wheel) ∧
  (∀ (s : State) (w : Work), s.hostNext 3 = some w →
    exec .hostWheelCancel s = .next (((s.unqueue w).cancel w.arg).1.answer w ((s.unqueue w).cancel w.arg).2 0 0)) ∧
  (∀ (s u : State) (w : Work) (x : WDesc), s.hostOldest w 3 → u = (s.unqueue w).syncW → u.descOf w.arg = some x → u.due x = false →
    ∃ t, exec .hostWheelCancel s = .next t ∧ s.answered t w admOK 0 0 ∧
      t.wheel.descs = u.wheel.descs.filter (fun (x : WDesc) => x.handle != w.arg) ∧
      t.wheel.descs.map (fun y => (y.handle, y.seq, y.d)) =
        (s.wheel.descs.filter (fun (x : WDesc) => x.handle != w.arg)).map (fun y => (y.handle, y.seq, y.d))) ∧
  (∀ (s : State) (w : Work), s.hostOldest w 3 → s.descOf w.arg = none →
    ∃ t, exec .hostWheelCancel s = .next t ∧ s.answered t w admSTRUCTURE 0 0 ∧ (∀ n, n ≠ 5 → n ≠ 6 → t.queue n = s.queue n) ∧
      s.keeps t [HQ_CQ_TAIL, WHEEL_STAT] ∧
      t = { s with wheel := t.wheel, hq := t.hq, host := t.host, sched := t.sched, regs := t.regs }) ∧
  (∀ s : State, (s.hostNext 1 = none → exec .hostSegment s = .next s) ∧ (s.hostNext 2 = none → exec .hostWheelIns s = .next s) ∧
    (s.hostNext 3 = none → exec .hostWheelCancel s = .next s) ∧ (∀ b, s.hostNext 4 = none ∨ s.host.slotJob.isSome = true → exec (.slotWrite b) s = .next s) ∧
    (s.hostNext 5 = none → exec .slotErase s = .next s) ∧ (s.host.slotJob = none → ∀ ok, exec (.slotWriteDone ok) s = .next s)) ∧
  (∀ (s : State) (w : Work) (bs : List Byte), s.hostNext 4 = some w → s.host.slotJob = none →
    exec (.slotWrite bs) s = .next ((s.unqueue w).slotStart w bs)) ∧
  (∀ (s : State) (w : Work) (k : Fin 10) (bs : List Byte) (off : Nat), s.hostNext 4 = some w → w.src = 5 → s.host.slotJob = none →
    w.arg % 16 = k.val → off = startOff w → s.slotBusy k = false → s.nv.writing.get k = none →
    off + bs.length ≤ slotSize k →
    ∃ t, exec (.slotWrite bs) s = .next t ∧ slotIs s t k none (some off) ∧
      (∀ a, slotBase k ≤ a → a < slotBase k + slotSize k → t.nv.flash.get 0xFF a = 0xFF) ∧
      (∀ a, a < slotBase k ∨ slotBase k + slotSize k ≤ a → t.nv.flash.get 0xFF a = s.nv.flash.get 0xFF a) ∧
      t.host = { s.host with slotJob := some ⟨w, k, off, w.arg.testBit 31, bs⟩ } ∧ s.keeps t [] ∧
      t = { s with nv := t.nv, hq := t.hq, host := t.host, sched := t.sched }) ∧
  (∀ (s : State) (w : Work) (k : Fin 10) (bs : List Byte), s.hostNext 4 = some w → w.src = 5 → s.host.slotJob = none →
    w.arg % 16 = k.val → s.slotBusy k = false → s.nv.writing.get k = some (startOff w) → startOff w + bs.length ≤ slotSize k →
    ∃ t, exec (.slotWrite bs) s = .next t ∧ t.nv = s.nv ∧ t.host = { s.host with slotJob := some ⟨w, k, startOff w, w.arg.testBit 31, bs⟩ } ∧
      s.keeps t [] ∧ t = { s with hq := t.hq, host := t.host, sched := t.sched }) ∧
  (∀ (s : State) (w : Work) (k : Fin 10) (bs : List Byte), s.hostOldest w 4 → s.host.slotJob = none → w.arg % 16 = k.val → s.slotBusy k = true →
    ∃ t, exec (.slotWrite bs) s = .next t ∧ s.answered t w admOK rSLOT_IN_USE 0 ∧ t.nv = s.nv ∧ t.host.slotJob = none ∧
      s.keeps t (HQ_CQ_TAIL :: recRegs)) ∧
  (∀ (s : State) (w : Work) (k : Fin 10) (bs : List Byte), s.hostOldest w 4 → s.host.slotJob = none → w.arg % 16 = k.val →
    s.slotBusy k = false → (∃ o, s.nv.writing.get k = some o ∧ o ≠ startOff w) ∨ slotSize k < startOff w + bs.length →
    ∃ t, exec (.slotWrite bs) s = .next t ∧ s.answered t w admOK 2 0 ∧ t.nv = s.nv ∧ s.keeps t (HQ_CQ_TAIL :: recRegs)) ∧
  (∀ (s : State) (w : Work) (bs : List Byte), s.hostOldest w 4 → s.host.slotJob = none → 10 ≤ w.arg % 16 →
    ∃ t code, exec (.slotWrite bs) s = .next t ∧ code ≠ 0 ∧ s.answered t w admOK code 0 ∧ t.nv = s.nv ∧ s.keeps t (HQ_CQ_TAIL :: recRegs)) ∧
  (∀ (s : State) (j : SlotJob) (ok : Bool), s.host.slotJob = some j → exec (.slotWriteDone ok) s = .next (s.slotEnd j ok)) ∧
  (∀ (s : State) (w : Work) (k : Fin 10) (off : Nat) (bs : List Byte), s.host.slotJob = some ⟨w, k, off, false, bs⟩ → isOpen s w →
    ∃ t, exec (.slotWriteDone true) s = .next t ∧ t.host.slotJob = none ∧ slotIs s t k none (some (off + bs.length)) ∧
      t.nv.flash = s.nv.flash.setMany 0xFF (slotBase k + off) bs ∧ t.host.msix.get 0 = s.host.msix.get 0 + 1 ∧
      t.host.opened = s.host.opened.filter (fun (x : HostOpen) => x.id != w.id)) ∧
  (∀ (s u : State) (w : Work) (k : Fin 10) (off : Nat) (bs : List Byte), s.host.slotJob = some ⟨w, k, off, true, bs⟩ → isOpen s w →
    u = s.progFlash (slotBase k + off) bs → u.img k 0 4 ≠ slotMagic k →
    ∃ t, exec (.slotWriteDone true) s = .next t ∧ t.host.slotJob = none ∧ slotIs s t k none none ∧
      t.host.mem.getMany 0 s.cqAddr 6 = natLE 4 w.tag ++ natLE 1 admOK ++ natLE 1 2) ∧
  (∀ (s u : State) (w : Work) (k : Fin 10) (off : Nat) (bs : List Byte), s.host.slotJob = some ⟨w, k, off, true, bs⟩ →
    u = s.progFlash (slotBase k + off) bs → u.img k 0 4 = slotMagic k →
    ∃ t, exec (.slotWriteDone true) s = .next t ∧ t.host.slotJob = none ∧
      slotIs s t k (some ⟨u.img k 8 4, u.nv.flash.getMany 0xFF (slotBase k + 0x40) 48⟩) none ∧ t.nv.flash = u.nv.flash) ∧
  (∀ (s : State) (w : Work) (k : Fin 10) (off : Nat) (bs : List Byte) (l : Bool), s.host.slotJob = some ⟨w, k, off, l, bs⟩ →
    ∃ t, exec (.slotWriteDone false) s = .next t ∧ t.host.slotJob = none ∧ slotIs s t k none none ∧ t.nv.flash = s.nv.flash) ∧
  (∀ (s : State) (w : Work) (k : Fin 10), s.hostNext 5 = some w → w.arg % 16 = k.val → s.slotBusy k = false → (∀ o, s.nv.writing.get k = some o → o ≤ slotSize k) →
    exec .slotErase s = .next ((((s.unqueue w).eraseFlash (slotBase k) (slotSize k)).setSlot k none none).answer w admOK 0 0)) ∧
  (∀ (s : State) (w : Work) (k : Fin 10), s.hostNext 5 = some w → w.arg % 16 = k.val → s.slotBusy k = true →
    exec .slotErase s = .next ((s.unqueue w).answer w admOK rSLOT_IN_USE 0)) ∧
  (∀ (s : State) (w : Work) (k : Fin 10), s.hostOldest w 5 → w.arg % 16 = k.val → s.slotBusy k = false → (∀ o, s.nv.writing.get k = some o → o ≤ slotSize k) →
    ∃ t, exec .slotErase s = .next t ∧ s.answered t w admOK 0 0 ∧ slotIs s t k none none ∧
      (∀ a, slotBase k ≤ a → a < slotBase k + slotSize k → t.nv.flash.get 0xFF a = 0xFF) ∧
      (∀ a, a < slotBase k ∨ slotBase k + slotSize k ≤ a → t.nv.flash.get 0xFF a = s.nv.flash.get 0xFF a) ∧ one s t ∧
      t = { s with nv := t.nv, hq := t.hq, host := t.host, sched := t.sched, regs := t.regs }) ∧
  (∀ (s : State) (w : Work) (k : Fin 10), s.hostOldest w 5 → w.arg % 16 = k.val → s.slotBusy k = true →
    ∃ t, exec .slotErase s = .next t ∧ s.answered t w admOK rSLOT_IN_USE 0 ∧ one s t ∧
      t = { s with hq := t.hq, host := t.host, sched := t.sched, regs := t.regs }) ∧
  (∀ (s : State) (w : Work) (k : Fin 10) (o : Nat), s.hostOldest w 5 → w.arg % 16 = k.val → s.slotBusy k = false →
    s.nv.writing.get k = some o → slotSize k < o →
    ∃ t, exec .slotErase s = .next t ∧ s.answered t w admOK 2 0 ∧ one s t ∧ t.nv = s.nv) ∧
  (∀ (s : State) (w : Work), s.hostOldest w 5 → 10 ≤ w.arg % 16 →
    ∃ t code, exec .slotErase s = .next t ∧ code ≠ 0 ∧ s.answered t w admOK code 0 ∧ one s t ∧ t.nv = s.nv) ∧
  (∀ (s : State) (off : Nat) (bs : List Byte), s.sys.recovery = false ∨ 0x800000 < off + bs.length → exec (.recoveryFlashWrite off bs) s = .next s) ∧
  (∀ (s : State) (off : Nat) (bs : List Byte), s.sys.recovery = true → off + bs.length ≤ 0x800000 →
    ∃ t, exec (.recoveryFlashWrite off bs) s = .next t ∧ t.nv.flash.getMany 0xFF off bs.length = bs ∧ t = { s with nv := t.nv }) ∧
  (∀ (s : State) (k off : Nat) (bs : List Byte), s.sys.recovery = true → off / 65536 = k → off + bs.length ≤ 65536 * (k + 1) → bs ≠ [] → k < 128 →
    ∃ t, exec (.recoveryFlashWrite off bs) s = .next t ∧ t.nv.flash.getMany 0xFF off bs.length = bs ∧
      (∀ a, a < 65536 * k ∨ 65536 * (k + 1) ≤ a → t.nv.flash.get 0xFF a = s.nv.flash.get 0xFF a) ∧
      (∀ a, 65536 * k ≤ a → a < 65536 * (k + 1) → a < off ∨ off + bs.length ≤ a →
        t.nv.flash.get 0xFF a = if s.nv.erased.contains k then s.nv.flash.get 0xFF a else 0xFF) ∧
      t.nv.erased = (if s.nv.erased.contains k then s.nv.erased else s.nv.erased ++ [k]) ∧ t = { s with nv := t.nv })

/-- The security engine. A SECURE command that names the row's operation, or none of the table, leaves HQ5 for the engine, which shows BUSY; one that names another stays.
ATTEST and DBG_TOKEN go the same way. The oldest job's end: a command with the wrong magic, serial or nonce, or with a key or a
signature that fails, changes no register but the status (so no key, no counter and no life cycle), answers its code, and a fresh nonce stands; an accepted REVOKE sets the
revoked bits, an accepted SVN advances the counter and its rows, an accepted LIFECYCLE programs the state and resets. ATTEST answers MODE
without identity keys, else its bytes are in host memory. A refused token shows TOKEN_REF and leaves the lock; an accepted one opens
debug with its scope and expiry. Nonce and challenge are fresh after either. A token that has run out locks debug again.
The model's choices that clauses of it rest on are log 6, 22, 23, 161, 162, 163, 164, 165, 273. -/
def Obligations.SecurityEngine : Prop :=
  let wait := fun (s t : State) (w : Work) (j : SecJob) => t.host = { s.host with secJobs := s.host.secJobs ++ [j] } ∧ t.f CFG_SEC_STAT_BUSY = 1 ∧
    (t.queue 5).items = (s.queue 5).items.filter (fun (i : QItem) => match i.body with | .work x => x.id != w.id | _ => true) ∧
    (∀ n, n ≠ 5 → t.queue n = s.queue n) ∧ s.keeps t [CFG_SEC_STAT] ∧ t = { s with hq := t.hq, host := t.host, sched := t.sched, regs := t.regs }
  let secure : List (Nat × (List Byte → Bool → Bool → Instr)) :=
    [(1, fun b _ _ => .secureProvision b), (2, .secureAddKey), (3, .secureRevoke), (4, .secureSvn), (5, .secureLifecycle)]
  let names := fun (op : Nat) (bs : List Byte) => bytesNat bs 4 1 = op ∨ bytesNat bs 4 1 = 0 ∨ 5 < bytesNat bs 4 1
  (∀ (s : State) (w : Work) (bs : List Byte), s.hostNext 6 = some w → w.src = 5 → names 1 bs →
    ∃ t, exec (.secureProvision bs) s = .next t ∧ wait s t w ⟨0, some w, bs, false, false⟩) ∧
  (∀ p ∈ secure.drop 1, ∀ (s : State) (w : Work) (bs : List Byte) (rsa slh : Bool), s.hostNext 6 = some w → w.src = 5 → names p.1 bs →
    ∃ t, exec (p.2 bs rsa slh) s = .next t ∧ wait s t w ⟨0, some w, bs, rsa, slh⟩) ∧
  (∀ p ∈ secure, ∀ (s : State) (bs : List Byte) (rsa slh : Bool), s.hostNext 6 = none ∨ ¬ names p.1 bs → exec (p.2 bs rsa slh) s = .next s) ∧
  (∀ p ∈ secure, ∀ (s : State) (w : Work) (bs : List Byte) (rsa slh : Bool), s.hostNext 6 = some w → names p.1 bs →
    ∃ j, exec (p.2 bs rsa slh) s = .next ((s.unqueue w).secStart j) ∧ j.kind = 0 ∧ j.w = some w ∧ j.bytes = bs) ∧
  (∀ (s : State) (q : QuoteParts), s.hostNext 7 = none → exec (.attest q) s = .next s) ∧
  (∀ (s : State) (w : Work) (q : QuoteParts), s.hostNext 7 = some w → exec (.attest q) s = .next ((s.unqueue w).secStart
    ⟨1, some w, if w.arg.testBit 0 then State.exactly 436 q.keys else s.quote w.payload q, true, true⟩)) ∧
  (∀ (s : State) (w : Work) (q : QuoteParts), s.hostNext 7 = some w → w.src = 5 → w.arg.testBit 0 = false →
    ∃ t, exec (.attest q) s = .next t ∧ wait s t w ⟨1, some w, s.quote w.payload q, true, true⟩) ∧
  (∀ (s : State) (w : Work) (q : QuoteParts), s.hostNext 7 = some w → w.src = 5 → w.arg.testBit 0 = true →
    ∃ t, exec (.attest q) s = .next t ∧ wait s t w ⟨1, some w, State.exactly 436 q.keys, true, true⟩) ∧
  (∀ (s : State) (bs : List Byte) (rsa slh : Bool), s.hostNext 10 = none → exec (.dbgToken bs rsa slh) s = .next s) ∧
  (∀ (s : State) (w : Work) (bs : List Byte) (rsa slh : Bool), s.hostNext 10 = some w →
    exec (.dbgToken bs rsa slh) s = .next ((s.unqueue w).secStart ⟨2, some w, bs, rsa, slh⟩)) ∧
  (∀ (s : State) (w : Work) (bs : List Byte) (rsa slh : Bool), s.hostNext 10 = some w → w.src = 5 →
    ∃ t, exec (.dbgToken bs rsa slh) s = .next t ∧ wait s t w ⟨2, some w, bs, rsa, slh⟩) ∧
  (∀ s : State, s.host.secJobs = [] → exec .securityEngineDone s = .next s) ∧
  (∀ (s v : State) (j : SecJob) (js : List SecJob), s.host.secJobs = j :: js →
    v = ({ s with host := { s.host with secJobs := js } } : State).setB CFG_SEC_STAT_BUSY (!js.isEmpty) →
    exec .securityEngineDone s = .next (if j.kind = 0 then v.endCommand j else if j.kind = 1 then v.endAttest j else v.endToken j)) ∧
  (∀ (s : State) (w : Work) (j : SecJob) (o : HostOpen), s.host.secJobs = [j] → j.kind = 0 → s.judgeCommand j ≠ 0 → j.w = some w →
    s.host.opened.find? (fun (x : HostOpen) => x.id == w.id) = some o → o.drop = false → s.flag HQ_CQ_CFG_EN = true →
    ∃ t, exec .securityEngineDone s = .next t ∧ t.f CFG_SEC_STAT_CODE = s.judgeCommand j % 256 ∧ t.f CFG_SEC_STAT_DONE = 1 ∧
      t.f CFG_SEC_STAT_BUSY = 0 ∧ t.sys.nonceAt = s.free ∧ t.free = s.free + 1 ∧ t.nv.keyHash = s.nv.keyHash ∧
      t.f CFG_SEC_STAT_SVN_ROWS = s.f CFG_SEC_STAT_SVN_ROWS ∧ t.host.mem.getMany 0 s.cqAddr 6 = natLE 4 w.tag ++ natLE 1 admOK ++ natLE 1 (s.judgeCommand j) ∧
      s.keeps t (CFG_SEC_STAT :: HQ_CQ_TAIL :: recRegs)) ∧
  (∀ (s : State) (j : SecJob), (bytesNat j.bytes 0 4 ≠ 0x444D4353 ∨ bytesNat j.bytes 8 6 ≠ s.nv.serial % 2 ^ 48 ∨ bytesNat j.bytes 0x10 8 ≠ s.nonceNow) →
    s.judgeCommand j = rNONCE) ∧
  (∀ (s : State) (j : SecJob), s.judgeCommand j = 0 → bytesNat j.bytes 4 1 ≠ 1 → j.rsa = true ∧ j.slh = true ∧
    s.keyCheck (State.sigKeys j.bytes (0x20 + bytesNat j.bytes 6 2)).1 0 0 = 0 ∧ s.keyCheck (State.sigKeys j.bytes (0x20 + bytesNat j.bytes 6 2)).2 1 0 = 0) ∧
  (∀ (s : State) (j : SecJob) (k : Nat), s.host.secJobs = [j] → j.kind = 0 → s.judgeCommand j = 0 → bytesNat j.bytes 4 1 = 3 → k < 8 →
    ∃ t, exec .securityEngineDone s = .next t ∧ t.sys.nonceAt = s.free ∧
      ((bytesNat j.bytes 0x18 8).testBit k = true → (t.rdN (CFG_SEC_KEY k 1)).testBit 1 = true) ∧
      ((bytesNat j.bytes 0x18 8).testBit k = false → t.rd (CFG_SEC_KEY k 1) = s.rd (CFG_SEC_KEY k 1))) ∧
  (∀ (s : State) (j : SecJob), s.host.secJobs = [j] → j.kind = 0 → s.judgeCommand j = 0 → bytesNat j.bytes 4 1 = 4 → s.f CFG_SEC_STAT_SVN_ROWS < 256 →
    ∃ t, exec .securityEngineDone s = .next t ∧ t.rd2 CFG_SEC_SVN = bytesNat j.bytes 0x18 8 ∧ s.rd2 CFG_SEC_SVN < t.rd2 CFG_SEC_SVN ∧
      t.f CFG_SEC_STAT_SVN_ROWS = s.f CFG_SEC_STAT_SVN_ROWS + 1) ∧
  (∀ (s : State) (j : SecJob), s.host.secJobs = [j] → j.kind = 0 → s.judgeCommand j = 0 → bytesNat j.bytes 4 1 = 5 →
    ∃ t, exec .securityEngineDone s = .next t ∧ s.f SYS_LC_STATE < bytesNat j.bytes 0x18 8 % 8 ∧ t.f SYS_LC_STATE = bytesNat j.bytes 0x18 8 % 8 ∧
      t.mode = mRESET) ∧
  (∀ (s : State) (w : Work) (bs : List Byte) (o : HostOpen), s.host.secJobs = [⟨1, some w, bs, true, true⟩] → s.flag CFG_SEC_STAT_ID_KEYS = true →
    s.host.opened.find? (fun (x : HostOpen) => x.id == w.id) = some o → o.drop = false → s.flag HQ_CQ_CFG_EN = true →
    (w.addr + bs.length ≤ s.cqAddr ∨ s.cqAddr + 16 ≤ w.addr) →
    ∃ t, exec .securityEngineDone s = .next t ∧ t.host.mem.getMany 0 w.addr bs.length = bs ∧
      t.host.mem.getMany 0 s.cqAddr 6 = natLE 4 w.tag ++ natLE 1 admOK ++ natLE 1 0 ∧ s.keeps t [CFG_SEC_STAT, HQ_CQ_TAIL]) ∧
  (∀ (s : State) (w : Work) (bs : List Byte) (o : HostOpen), s.host.secJobs = [⟨1, some w, bs, true, true⟩] → s.flag CFG_SEC_STAT_ID_KEYS = false →
    s.host.opened.find? (fun (x : HostOpen) => x.id == w.id) = some o → o.drop = false → s.flag HQ_CQ_CFG_EN = true →
    ∃ t, exec .securityEngineDone s = .next t ∧ t.host.mem.getMany 0 s.cqAddr 6 = natLE 4 w.tag ++ natLE 1 admOK ++ natLE 1 rMODE ∧
      s.keeps t [CFG_SEC_STAT, HQ_CQ_TAIL]) ∧
  (∀ (s : State) (j : SecJob), s.host.secJobs = [j] → j.kind = 2 → j.w = none → s.judgeToken j ≠ 0 →
    ∃ t, exec .securityEngineDone s = .next t ∧ t.f DBG_STAT_TOKEN_REF = 1 ∧ t.f DBG_STAT_LOCKED = s.f DBG_STAT_LOCKED ∧
      t.f DBG_STAT_TOKEN = s.f DBG_STAT_TOKEN ∧ t.sys.nonceAt = s.free ∧ t.sys.chalAt = s.free + 1 ∧ t.host.scope = s.host.scope ∧
      t.host.tokenEnd = s.host.tokenEnd ∧ s.keeps t (CFG_SEC_STAT :: DBG_STAT :: recRegs)) ∧
  (∀ (s : State) (j : SecJob), s.host.secJobs = [j] → j.kind = 2 → j.w = none → s.judgeToken j = 0 → s.f SYS_LC_STATE = lcDEPLOYED →
    ∃ t, exec .securityEngineDone s = .next t ∧ t.f DBG_STAT_LOCKED = 0 ∧ t.f DBG_STAT_TOKEN = 1 ∧ t.host.scope = bytesNat j.bytes 44 4 ∧
      t.host.tokenEnd = (if bytesNat j.bytes 48 4 = 0 then none else some (s.time.mono + bytesNat j.bytes 48 4 * 800000000)) ∧
      t.sys.nonceAt = s.free ∧ t.sys.chalAt = s.free + 1 ∧ s.keeps t (CFG_SEC_STAT :: DBG_STAT :: recRegs)) ∧
  (∀ (s : State) (j : SecJob), s.host.secJobs = [j] → j.kind = 2 → j.w = none → s.judgeToken j = 0 → s.f SYS_LC_STATE ≠ lcDEPLOYED →
    ∃ t, exec .securityEngineDone s = .next t ∧ t.f DBG_STAT_LOCKED = s.f DBG_STAT_LOCKED ∧ t.host = { s.host with secJobs := [] } ∧
      t.sys.nonceAt = s.free ∧ t.sys.chalAt = s.free + 1 ∧ s.keeps t (CFG_SEC_STAT :: recRegs)) ∧
  (∀ (s : State) (j : SecJob), s.f SYS_LC_STATE = lcSCRAPPED → s.judgeToken j = rMODE) ∧
  (∀ (s u : State) (m : Nat), u = s.runTo m → (∀ e, u.host.tokenEnd = some e → u.time.mono < e ∨ u.flag DBG_STAT_TOKEN = false) →
    exec (.tokenExpiry m) s = .next u) ∧
  (∀ (s u : State) (m e : Nat), u = s.runTo m → u.host.tokenEnd = some e → e ≤ u.time.mono → u.flag DBG_STAT_TOKEN = true →
    ∃ t, exec (.tokenExpiry m) s = .next t ∧ t.f DBG_STAT_LOCKED = 1 ∧ t.f DBG_STAT_TOKEN = 0 ∧ t.host.tokenEnd = none ∧ t.host.scope = 0 ∧
      (∀ c : Fin 8, (t.sched.cores.get c).halted = false) ∧ (∀ c : Fin 12, (t.cl c).halted = false))

/-- The register map. A bad access has no effect, nor has one beside a word of the map, nor a write into a window that the running structure does
not use. No register takes a write in RESET or of a scrapped device, and SYS_CTL alone takes one in recovery. A write of a register without a rule of its own changes its RW bits, clears
written W1C bits but those that hardware has set in this SYS cycle, and sets written W1S bits, and nothing else. A
lower word of a writable multi-word register waits until its highest word is written, then all its words take effect. A write that is a command is
that command (doors, acknowledgement, mode requests). A read answers the register's word, in its RC bits the word held before this SYS cycle; the RC bits clear, but for what hardware has set in
this cycle, and nothing else does. A read of word 0 captures the higher words, and they answer as captured. In recovery only three registers answer, of a scrapped device two, others read as 0.
The model's choices that clauses of it rest on are log 171, 172, 173, 174, 175, 176, 177, 178, 186, 187. -/
def Obligations.RegisterMap : Prop :=
  let own := fun (s : State) (a : Nat) (v : Word) (e : WriteEnv) =>
    [s.writeSys a v e, s.writeQueues a v, s.writeWheel a v, s.writeCluster a v e, s.writeSafety a v, s.writeFlt a v e, s.writeAcq a v,
      s.writeFio a v, s.writeCfg a v, s.writeDbg a v e].all Option.isNone
  let word := fun (a : Nat) => a % 4 = 0 ∧ a < 0x400000
  let used := fun (s : State) (a : Nat) => State.instanceUsed s.st a = true
  let plain := fun (s : State) (a : Nat) => word a ∧ s.readable a = true ∧ used s a ∧ s.captureRead a = none
  (∀ s : State, exec .badAccess s = .next s) ∧
  (∀ (s : State) (a : Nat) (v : Word) (e : WriteEnv), (¬ word a ∨ State.instanceUsed s.st a = false ∨ s.mode = mRESET ∨ (s.sys.recovery = true ∧ a ≠ SYS_CTL) ∨
      (s.sys.recovery = false ∧ s.f SYS_LC_STATE = lcSCRAPPED ∧ s.mode ≤ mVERIFY)) →
    exec (.registerWrite a v e) s = .next s) ∧
  (∀ (s : State) (a : Nat) (v : Word) (e : WriteEnv), word a → s.writable a = true → exec (.registerWrite a v e) s = .next (s.fullWrite a v e)) ∧
  (∀ (s : State) (a : Nat), ¬ word a → exec (.readClear a) s = .next s ∧ exec (.multiwordRead a) s = .next s) ∧
  (∀ (s : State) (a : Nat), word a → s.readable a = true → exec (.readClear a) s = .next (s.regRead a) ∧ exec (.multiwordRead a) s = .next (s.regRead a)) ∧
  (∀ (s : State) (a : Nat) (v : Word) (e : WriteEnv) (r : RegRow), word a → s.writable a = true → used s a → own s a v e = true → multiWord a = none →
    accessRow a = some r → (∀ b < 32, ¬ (r.rw.testBit b = true ∧ (r.w1c.testBit b = true ∨ r.w1s.testBit b = true))) → a ≠ DBG_CTL →
    ∃ t, exec (.registerWrite a v e) s = .next t ∧
      (∀ b < 32, (t.rd a).getLsbD b =
        if r.rw.testBit b then v.getLsbD b else if r.w1s.testBit b && v.getLsbD b then true
        else if r.w1c.testBit b && v.getLsbD b then (s.hitMask a).getLsbD b && (s.rd a).getLsbD b else (s.rd a).getLsbD b) ∧
      s.keeps t [a] ∧ t = { s with regs := t.regs }) ∧
  (∀ (s : State) (a w n base : Nat) (v : Word) (e : WriteEnv) (r : RegRow), word a → s.writable a = true → used s a → own s a v e = true →
    multiWord a = some (base, w, n) → w + 1 < n → accessRow base = some r → r.rw ≠ 0 → a ≠ DBG_CTL →
    ∃ t, exec (.registerWrite a v e) s = .next t ∧ t.lowWord a = v ∧ (∀ b, b ≠ a → t.lowWord b = s.lowWord b) ∧ s.keeps t [] ∧
      t = { s with lowWords := t.lowWords }) ∧
  (∀ (s : State) (v : Word) (e : WriteEnv), s.writable (HQ_HC_BASE 1) = true →
    ∃ t, exec (.registerWrite (HQ_HC_BASE 1) v e) s = .next t ∧ t.rd (HQ_HC_BASE 1) = v ∧
      (∀ b, 12 ≤ b → b < 32 → (t.rd (HQ_HC_BASE 0)).getLsbD b = (s.lowWord (HQ_HC_BASE 0)).getLsbD b) ∧
      s.keeps t [HQ_HC_BASE 0, HQ_HC_BASE 1] ∧ t = { s with lowWords := t.lowWords, regs := t.regs }) ∧
  (∀ (s : State) (d : Fin 8) (v : Word) (e : WriteEnv), s.writable (DOOR_CMD d) = true → used s (DOOR_CMD d) →
    (v.toNat % 8 = 1 → exec (.registerWrite (DOOR_CMD d) v e) s = exec (.doorOpen d (v.toNat / 65536)) s) ∧
    (v.toNat % 8 = 2 → exec (.registerWrite (DOOR_CMD d) v e) s = exec (.doorClose d (v.toNat / 65536)) s) ∧
    (v.toNat % 8 = 3 → exec (.registerWrite (DOOR_CMD d) v e) s = exec (.doorLock d (v.toNat / 65536)) s) ∧
    (v.toNat % 8 = 4 → exec (.registerWrite (DOOR_CMD d) v e) s = exec (.doorStop d (v.toNat / 65536)) s) ∧
    (v.toNat % 8 = 5 → exec (.registerWrite (DOOR_CMD d) v e) s = exec (.doorLearn d (v.toNat / 65536)) s) ∧
    (v.toNat % 8 = 6 → exec (.registerWrite (DOOR_CMD d) v e) s = exec (.doorAck d (v.toNat / 65536)) s) ∧
    (v.toNat % 8 = 0 ∨ v.toNat % 8 = 7 → exec (.registerWrite (DOOR_CMD d) v e) s = .next s)) ∧
  (∀ (s : State) (v : Word) (e : WriteEnv), s.writable FLT_ACK = true →
    exec (.registerWrite FLT_ACK v e) s = exec (.fltAck (v.toNat / 65536) (v.toNat % 16)) s) ∧
  (∀ (s : State) (v : Word) (e : WriteEnv), s.writable SYS_MODE_REQ = true → v.toNat % 16 = mRUN →
    exec (.registerWrite SYS_MODE_REQ v e) s = exec (.modeReqRun (v.toNat / 65536)) s) ∧
  (∀ (s : State) (v : Word) (e : WriteEnv), s.writable SCHED_CTL = true →
    ∃ t, exec (.registerWrite SCHED_CTL v e) s = .next t ∧ t.f SCHED_STAT_ENABLED = v.toNat % 256 ∧ s.keeps t [SCHED_CTL, SCHED_STAT] ∧
      t = { s with sched := { s.sched with pointer := t.sched.pointer, quantum := t.sched.quantum, judged := s.time.mono }, regs := t.regs }) ∧
  (∀ (s : State) (a : Nat) (r : RegRow), plain s a → multiWord a = none → accessRow a = some r → a ≠ FIO_VF →
    ∃ t, exec (.readClear a) s = .next t ∧
      (∀ b < 32, t.rdData.getLsbD b = if r.rc.testBit b then (Store.get 0 s.time.was a).getLsbD b else (s.readReg a).getLsbD b) ∧
      (∀ b < 32, (t.rd a).getLsbD b = if r.rc.testBit b then (s.rcLeft r a).getLsbD b else (s.rd a).getLsbD b) ∧
      (s.rd a &&& BitVec.ofNat 32 r.rc = s.rcBefore r a → ∀ b < 32, r.rc.testBit b = true → (t.rd a).getLsbD b = false) ∧
      s.keeps t [a] ∧ t = { s with time := { s.time with was := t.time.was }, regs := t.regs, rdData := t.rdData }) ∧
  (∀ (s : State) (a n : Nat), plain s a → multiWord a = some (a, 0, n) → (∀ r, accessRow a = some r → r.rc = 0) →
    ∃ t, exec (.multiwordRead a) s = .next t ∧ t.rdData = s.readReg a ∧
      (∀ k, 1 ≤ k → k < n → (t.readWords.find? (fun (x : Nat × Word) => x.1 == a + 4 * k)).map Prod.snd = some (s.readReg (a + 4 * k))) ∧
      t = { s with readWords := t.readWords, rdData := t.rdData }) ∧
  (∀ (s : State) (a base w n : Nat) (x : Word), plain s a → multiWord a = some (base, w + 1, n) →
    (s.readWords.find? (fun (y : Nat × Word) => y.1 == a)).map Prod.snd = some x → (∀ r, accessRow a = some r → r.rc = 0) →
    exec (.multiwordRead a) s = .next { s with rdData := x }) ∧
  (∀ (s : State) (a : Nat), word a → s.sys.recovery = true → a ∉ [SYS_ID, SYS_MODE, SYS_START_STAT] →
    exec (.readClear a) s = .next { s with rdData := 0 } ∧ exec (.multiwordRead a) s = .next { s with rdData := 0 }) ∧
  (∀ (s : State) (a : Nat), word a → s.sys.recovery = false → s.f SYS_LC_STATE = lcSCRAPPED → s.mode ≤ mVERIFY → a ∉ [SYS_ID, SYS_LC] →
    exec (.readClear a) s = .next { s with rdData := 0 } ∧ exec (.multiwordRead a) s = .next { s with rdData := 0 })

/-- The debug port. Memory accesses need the key and open debug; an address outside the space sets MEM_REF; a read leaves its word in
DBG_MDATA with MEM_DONE, a register read as the host reads it; LPDDR4X, solver memory and the memories of a halted core or cluster take writes where the modes permit, a register as
its access code says, MRAM never: else MEM_REF. Program and solver memory read as last placed, 0 before programs are distributed, and MRAM beyond its store as free values. The TAP's
instructions: IDCODE and CHAL capture their words, BYPASS its bit, DBGACC reads or writes a word of the debug block, and is BYPASS while
debug is locked; a boundary scan needs open debug, EXTEST BARE too; the 16,872nd byte submits the token; TAPRST resets the
module where debug permits. Resetting the TAP selects IDCODE (the model's choice, log 12) and touches nothing else.
The model's choices that clauses of it rest on are log 11, 12, 26, 27, 180, 181, 182, 183. -/
def Obligations.DebugPort : Prop :=
  let scan := fun (s t : State) (ir len dr : Nat) => t.host.tap.ir = ir ∧ t.host.tap.len = len ∧ t.host.tap.dr = dr ∧
    t.host.tap.token = s.host.tap.token ∧ t = { s with host := { s.host with tap := t.host.tap } }
  let hits := fun (s t : State) => { s.time with hits := t.time.hits }
  let ref := fun (s t : State) => t.f DBG_STAT_MEM_REF = 1 ∧ s.keeps t [DBG_STAT] ∧ t = { s with time := hits s t, regs := t.regs }
  let done := fun (s t : State) => t.f DBG_STAT_MEM_DONE = 1 ∧ s.keeps t [DBG_STAT]
  let got := fun (s t : State) (w : Word) => t.rd DBG_MDATA = w ∧ t.f DBG_STAT_MEM_DONE = 1 ∧ s.keeps t [DBG_MDATA, DBG_STAT]
  let open' := fun (s : State) (b : Nat) => s.flag DBG_STAT_LOCKED = false ∧ s.dbgMay b = true
  let at' := fun (s : State) (p : State.DbgPlace) => State.dbgPlace s.dbgAddr = p
  (∀ (s : State) (k : Nat) (e : WriteEnv), k ≠ 0x4447 ∨ s.flag DBG_STAT_LOCKED = true →
    exec (.dbgMemRd k) s = .next s ∧ exec (.dbgMemWr k e) s = .next s) ∧
  (∀ (s : State) (e : WriteEnv), s.flag DBG_STAT_LOCKED = false → at' s .nowhere →
    (∃ t, exec (.dbgMemRd 0x4447) s = .next t ∧ ref s t) ∧ (∃ t, exec (.dbgMemWr 0x4447 e) s = .next t ∧ ref s t)) ∧
  (∀ (s : State) (e : WriteEnv), s.flag DBG_STAT_LOCKED = false → s.flag DBG_STAT_TOKEN = true →
    (s.host.scope.testBit 2 = false → ∃ t, exec (.dbgMemRd 0x4447) s = .next t ∧ ref s t) ∧
    (s.host.scope.testBit 3 = false → ∃ t, exec (.dbgMemWr 0x4447 e) s = .next t ∧ ref s t)) ∧
  (∀ (s : State) (o : Nat), open' s 2 → at' s (.dram o) →
    ∃ t, exec (.dbgMemRd 0x4447) s = .next t ∧ got s t (BitVec.ofNat 32 (leNat (s.mem.dram.getMany 0 o 4))) ∧ t = { s with time := hits s t, regs := t.regs }) ∧
  (∀ (s : State) (c : Fin 8) (o : Nat), open' s 2 → at' s (.core c o) →
    ∃ t, exec (.dbgMemRd 0x4447) s = .next t ∧ got s t (BitVec.ofNat 32 (leNat ((s.mem.core.get c).getMany 0 o 4))) ∧ t = { s with time := hits s t, regs := t.regs }) ∧
  (∀ (s : State) (c : Fin 12) (w : Nat), open' s 2 → at' s (.data c w) →
    ∃ t, exec (.dbgMemRd 0x4447) s = .next t ∧ got s t (s.dmem c w) ∧ t = { s with time := hits s t, regs := t.regs }) ∧
  (∀ (s : State) (c : Fin 12) (w : Nat), open' s 2 → at' s (.prog c w) →
    ∃ t, exec (.dbgMemRd 0x4447) s = .next t ∧ got s t (s.placedWord (s.mem.prog.get c) w) ∧
      (s.mem.wiped = true → Store.get 0 (s.mem.prog.get c) w = 0 → t.rd DBG_MDATA = 0) ∧ t = { s with time := hits s t, regs := t.regs, free := s.free + 1 }) ∧
  (∀ (s : State) (u : Fin 4) (w : Nat), open' s 2 → at' s (.solver u w) →
    ∃ t, exec (.dbgMemRd 0x4447) s = .next t ∧ got s t (s.placedWord (s.mem.solver.get u) w) ∧
      (s.mem.wiped = true → Store.get 0 (s.mem.solver.get u) w = 0 → t.rd DBG_MDATA = 0) ∧ t = { s with time := hits s t, regs := t.regs, free := s.free + 1 }) ∧
  (∀ (s : State) (o : Nat), open' s 2 → at' s (.mram o) →
    ∃ t, exec (.dbgMemRd 0x4447) s = .next t ∧ got s t (s.mramWord o) ∧
      (o < 0x1000000 → t.rd DBG_MDATA = BitVec.ofNat 32 (leNat (s.nv.mram.getMany 0 o 4))) ∧ t = { s with time := hits s t, regs := t.regs, free := s.free + 1 }) ∧
  (∀ (s : State) (a : Nat), open' s 2 → at' s (.bar0 a) →
    ∃ t, exec (.dbgMemRd 0x4447) s = .next t ∧ got (s.regRead a) t (s.regRead a).rdData ∧ t.rdData = s.rdData ∧
      t = { s.regRead a with time := hits (s.regRead a) t, regs := t.regs, rdData := s.rdData }) ∧
  (∀ (s : State) (a : Nat) (e : WriteEnv), open' s 3 → at' s (.bar0 a) →
    ∃ t, exec (.dbgMemWr 0x4447 e) s = .next t ∧ done (s.regWrite a (s.rd DBG_MDATA) e) t ∧
      t = { s.regWrite a (s.rd DBG_MDATA) e with time := hits (s.regWrite a (s.rd DBG_MDATA) e) t, regs := t.regs }) ∧
  (∀ (s : State) (o : Nat) (e : WriteEnv), open' s 3 → at' s (.dram o) → (s.mode = mBARE ∨ (s.mode = mCOMMISSION ∧ s.allSafeOff = true)) →
    ∃ t, exec (.dbgMemWr 0x4447 e) s = .next t ∧ t.mem.dram.getMany 0 o 4 = natLE 4 (s.rdN DBG_MDATA) ∧
      (∀ a, a < o ∨ o + 4 ≤ a → t.mem.dram.get 0 a = s.mem.dram.get 0 a) ∧ done s t ∧
      t = { s with time := hits s t, mem := { s.mem with dram := t.mem.dram }, regs := t.regs }) ∧
  (∀ (s : State) (o : Nat) (e : WriteEnv), open' s 3 → at' s (.dram o) → s.mode ≠ mBARE → s.mode ≠ mCOMMISSION ∨ s.allSafeOff = false →
    ∃ t, exec (.dbgMemWr 0x4447 e) s = .next t ∧ ref s t) ∧
  (∀ (s : State) (o : Nat) (e : WriteEnv), open' s 3 → at' s (.mram o) → ∃ t, exec (.dbgMemWr 0x4447 e) s = .next t ∧ ref s t) ∧
  (∀ (s : State) (c : Fin 8) (o : Nat) (e : WriteEnv), open' s 3 → at' s (.core c o) →
    ((s.sched.cores.get c).halted = false → ∃ t, exec (.dbgMemWr 0x4447 e) s = .next t ∧ ref s t) ∧
    ((s.sched.cores.get c).halted = true → ∃ t, exec (.dbgMemWr 0x4447 e) s = .next t ∧
      (t.mem.core.get c).getMany 0 o 4 = natLE 4 (s.rdN DBG_MDATA) ∧ (∀ d, d ≠ c → t.mem.core.get d = s.mem.core.get d) ∧
      done s t ∧ t = { s with time := hits s t, mem := { s.mem with core := t.mem.core }, regs := t.regs })) ∧
  (∀ (s : State) (c : Fin 12) (w : Nat) (e : WriteEnv), open' s 3 → at' s (.data c w) →
    ((s.cl c).halted = false → ∃ t, exec (.dbgMemWr 0x4447 e) s = .next t ∧ ref s t) ∧
    ((s.cl c).halted = true → ∃ t, exec (.dbgMemWr 0x4447 e) s = .next t ∧ t.dmem c w = s.rd DBG_MDATA ∧ (∀ a, a ≠ w → t.dmem c a = s.dmem c a) ∧
      (∀ d, d ≠ c → t.cl d = s.cl d) ∧ done s t ∧ t = { s with time := hits s t, clusters := t.clusters, regs := t.regs })) ∧
  (∀ (s : State) (c : Fin 12) (w : Nat) (e : WriteEnv), open' s 3 → at' s (.prog c w) →
    ((s.cl c).halted = false → ∃ t, exec (.dbgMemWr 0x4447 e) s = .next t ∧ ref s t) ∧
    ((s.cl c).halted = true → ∃ t, exec (.dbgMemWr 0x4447 e) s = .next t ∧ t.placedWord (t.mem.prog.get c) w = s.rd DBG_MDATA ∧
      (∀ d, d ≠ c → t.mem.prog.get d = s.mem.prog.get d) ∧ done s t ∧ t = { s with time := hits s t, mem := { s.mem with prog := t.mem.prog }, regs := t.regs })) ∧
  (∀ (s : State) (u : Fin 4) (w : Nat) (e : WriteEnv), open' s 3 → at' s (.solver u w) →
    (s.mode ≠ mBARE → ∃ t, exec (.dbgMemWr 0x4447 e) s = .next t ∧ ref s t) ∧
    (s.mode = mBARE → ∃ t, exec (.dbgMemWr 0x4447 e) s = .next t ∧ t.placedWord (t.mem.solver.get u) w = s.rd DBG_MDATA ∧
      (∀ d, d ≠ u → t.mem.solver.get d = s.mem.solver.get d) ∧ done s t ∧ t = { s with time := hits s t, mem := { s.mem with solver := t.mem.solver }, regs := t.regs })) ∧
  (∀ s : State, (∃ t, exec .tapReset s = .next t ∧ scan s t 2 1 0) ∧ (∃ t, exec .tapIdcode s = .next t ∧ scan s t 2 32 (s.readReg DBG_ID).toNat) ∧
    (∃ t, exec .tapBypass s = .next t ∧ scan s t 31 1 0)) ∧
  (∀ (s : State) (w : Nat), w < 8 →
    ∃ t, exec .tapChal s = .next t ∧ scan s t 10 256 t.host.tap.dr ∧ t.host.tap.dr / 2 ^ (32 * w) % 4294967296 = (s.readReg (DBG_CHAL w)).toNat) ∧
  (∀ (s : State) (c sh : List Bool), s.mode = mBARE → s.dbgMay 4 = true →
    ∃ t, exec (.tapExtest c sh) s = .next t ∧ scan s t 0 c.length (State.bitsNat c) ∧ t.host.tap.bsr = sh) ∧
  (∀ (s : State) (c sh : List Bool), s.dbgMay 4 = true →
    ∃ t, exec (.tapSamplePreload c sh) s = .next t ∧ scan s t 1 c.length (State.bitsNat c) ∧ t.host.tap.bsr = sh) ∧
  (∀ (s : State) (c sh : List Bool), s.mode ≠ mBARE ∨ s.dbgMay 4 = false →
    ∃ t, exec (.tapExtest c sh) s = .next t ∧ scan s t 0 1 0 ∧ t.host.tap.bsr = s.host.tap.bsr) ∧
  (∀ (s : State) (c sh : List Bool), s.dbgMay 4 = false →
    ∃ t, exec (.tapSamplePreload c sh) s = .next t ∧ scan s t 1 1 0 ∧ t.host.tap.bsr = s.host.tap.bsr) ∧
  (∀ (s : State) (wr : Bool) (n : Fin 512) (v : Word) (e : WriteEnv), s.flag DBG_STAT_LOCKED = true →
    ∃ t, exec (.tapDbgacc wr n v e) s = .next t ∧ scan s t 8 1 0) ∧
  (∀ (s : State) (v : Word) (e : WriteEnv), s.flag DBG_STAT_LOCKED = false →
    ∃ t, exec (.tapDbgacc false 0 v e) s = .next t ∧ scan s t 8 42 (1024 * (s.readReg DBG_STAT).toNat)) ∧
  (∀ (s : State) (n : Fin 512) (v : Word) (e : WriteEnv), s.flag DBG_STAT_LOCKED = false →
    ∃ t, exec (.tapDbgacc false n v e) s = .next t ∧ scan { s.regRead (DBG_STAT + 4 * n.val) with rdData := s.rdData } t 8 42
      (2 * n.val + 1024 * (s.regRead (DBG_STAT + 4 * n.val)).rdData.toNat)) ∧
  (∀ (s : State) (n : Fin 512) (v : Word) (e : WriteEnv), s.flag DBG_STAT_LOCKED = false →
    exec (.tapDbgacc true n v e) s = .next ((s.fullWrite (DBG_STAT + 4 * n.val) v e).tapScan 8 42 (1 + 2 * n.val + 1024 * v.toNat))) ∧
  (∀ (s : State) (b : Byte) (rsa slh : Bool), s.host.tap.token.length + 1 ≠ 16872 →
    ∃ t, exec (.tapToken b rsa slh) s = .next t ∧ t.host.tap = { s.host.tap with ir := 9, len := 8, dr := b.toNat, token := b :: s.host.tap.token } ∧
      t = { s with host := { s.host with tap := t.host.tap } }) ∧
  (∀ (s : State) (b : Byte) (rsa slh : Bool), s.host.tap.token.length + 1 = 16872 →
    ∃ t, exec (.tapToken b rsa slh) s = .next t ∧ t.host.tap.token = [] ∧
      t.host.secJobs = s.host.secJobs ++ [⟨2, none, (b :: s.host.tap.token).reverse, rsa, slh⟩] ∧ t.f CFG_SEC_STAT_BUSY = 1 ∧ s.keeps t [CFG_SEC_STAT] ∧
      t = { s with host := t.host, regs := t.regs }) ∧
  (∀ s : State, s.dbgMay 5 = false → ∃ t, exec .tapTaprst s = .next t ∧ scan s t 11 1 0) ∧
  (∀ s : State, s.dbgMay 5 = true → ∃ t, exec .tapTaprst s = .next t ∧ t.mode = mRESET ∧ t.f SYS_RST_CAUSE_CAUSE = 2 ^ rcTAP)
end

