-- ==== Sys2Proof/Laws/QueueOps.lean ====
section
/-! SUPPORT. The operations of Machine/Ops.lean leave the queue of waiting commands alone. -/

namespace Sys2Proof.Machine

/-- The outcome is a next state, with the queue of waiting commands as it was. -/
def goesOn (s : State) (o : Out) : Prop := ∃ t, o = .next t ∧ t.pending = s.pending

@[simp] theorem goesOn_next (s t : State) : goesOn s (.next t) ↔ t.pending = s.pending := by simp [goesOn]

theorem goesOn_ite (s : State) (c : Prop) [Decidable c] (x y : Out) : goesOn s (if c then x else y) ↔ if c then goesOn s x else goesOn s y := by
  split <;> rfl

@[simp] theorem nextOf_pending (s : State) (o : Out) (h : goesOn s o) : (nextOf s o).pending = s.pending := by
  obtain ⟨t, rfl, ht⟩ := h
  exact ht

/-- A fold of operations that leave the queue alone leaves it alone. -/
@[simp] theorem foldl_pending {α : Type} (l : List α) (g : State → α → State) (s : State)
    (h : ∀ (s : State) (a : α), (g s a).pending = s.pending) : (l.foldl g s).pending = s.pending := by
  induction l generalizing s with
  | nil => rfl
  | cons a l ih => simp [ih, h]

-- 
@[simp] theorem State.wr_pending (s : State) (a : Nat) (v : Word) : (State.wr s a v).pending = s.pending := by
  first
  | (simp [State.wr, goesOn_ite, apply_ite State.pending, apply_dite State.pending]; done)
  | (unfold State.wr; (try dsimp only); (repeat' split) <;> first | (simp [apply_ite State.pending, apply_dite State.pending, *]; done) | (simp [State.offer_pending _ _ _ _ (by assumption), *]; done) | (simp [State.take_pending _ _ _ _ (by assumption), *]; done) | ((try rw [goesOn_next]); refine (foldl_pending _ _ _ ?_).trans ?_ <;> (first | (intro s a; (repeat' split) <;> simp; done) | simp; done)) | rfl)
@[simp] theorem State.wrN_pending (s : State) (a : Nat) (v : Nat) : (State.wrN s a v).pending = s.pending := by
  first
  | (simp [State.wrN, goesOn_ite, apply_ite State.pending, apply_dite State.pending]; done)
  | (unfold State.wrN; (try dsimp only); (repeat' split) <;> first | (simp [apply_ite State.pending, apply_dite State.pending, *]; done) | (simp [State.offer_pending _ _ _ _ (by assumption), *]; done) | (simp [State.take_pending _ _ _ _ (by assumption), *]; done) | ((try rw [goesOn_next]); refine (foldl_pending _ _ _ ?_).trans ?_ <;> (first | (intro s a; (repeat' split) <;> simp; done) | simp; done)) | rfl)
@[simp] theorem State.setF_pending (s : State) (x : Fld) (v : Nat) : (State.setF s x v).pending = s.pending := by
  first
  | (simp [State.setF, goesOn_ite, apply_ite State.pending, apply_dite State.pending]; done)
  | (unfold State.setF; (try dsimp only); (repeat' split) <;> first | (simp [apply_ite State.pending, apply_dite State.pending, *]; done) | (simp [State.offer_pending _ _ _ _ (by assumption), *]; done) | (simp [State.take_pending _ _ _ _ (by assumption), *]; done) | ((try rw [goesOn_next]); refine (foldl_pending _ _ _ ?_).trans ?_ <;> (first | (intro s a; (repeat' split) <;> simp; done) | simp; done)) | rfl)
@[simp] theorem State.setB_pending (s : State) (x : Fld) (v : Bool) : (State.setB s x v).pending = s.pending := by
  first
  | (simp [State.setB, goesOn_ite, apply_ite State.pending, apply_dite State.pending]; done)
  | (unfold State.setB; (try dsimp only); (repeat' split) <;> first | (simp [apply_ite State.pending, apply_dite State.pending, *]; done) | (simp [State.offer_pending _ _ _ _ (by assumption), *]; done) | (simp [State.take_pending _ _ _ _ (by assumption), *]; done) | ((try rw [goesOn_next]); refine (foldl_pending _ _ _ ?_).trans ?_ <;> (first | (intro s a; (repeat' split) <;> simp; done) | simp; done)) | rfl)
@[simp] theorem State.hit_pending (s : State) (x : Fld) : (State.hit s x).pending = s.pending := by
  first
  | (simp [State.hit, goesOn_ite, apply_ite State.pending, apply_dite State.pending]; done)
  | (unfold State.hit; (try dsimp only); (repeat' split) <;> first | (simp [apply_ite State.pending, apply_dite State.pending, *]; done) | (simp [State.offer_pending _ _ _ _ (by assumption), *]; done) | (simp [State.take_pending _ _ _ _ (by assumption), *]; done) | ((try rw [goesOn_next]); refine (foldl_pending _ _ _ ?_).trans ?_ <;> (first | (intro s a; (repeat' split) <;> simp; done) | simp; done)) | rfl)
@[simp] theorem State.hitBits_pending (s : State) (a : Nat) (m : Word) : (State.hitBits s a m).pending = s.pending := by
  first
  | (simp [State.hitBits, goesOn_ite, apply_ite State.pending, apply_dite State.pending]; done)
  | (unfold State.hitBits; (try dsimp only); (repeat' split) <;> first | (simp [apply_ite State.pending, apply_dite State.pending, *]; done) | (simp [State.offer_pending _ _ _ _ (by assumption), *]; done) | (simp [State.take_pending _ _ _ _ (by assumption), *]; done) | ((try rw [goesOn_next]); refine (foldl_pending _ _ _ ?_).trans ?_ <;> (first | (intro s a; (repeat' split) <;> simp; done) | simp; done)) | rfl)
@[simp] theorem State.clearBits_pending (s : State) (a : Nat) (m : Word) : (State.clearBits s a m).pending = s.pending := by
  first
  | (simp [State.clearBits, goesOn_ite, apply_ite State.pending, apply_dite State.pending]; done)
  | (unfold State.clearBits; (try dsimp only); (repeat' split) <;> first | (simp [apply_ite State.pending, apply_dite State.pending, *]; done) | (simp [State.offer_pending _ _ _ _ (by assumption), *]; done) | (simp [State.take_pending _ _ _ _ (by assumption), *]; done) | ((try rw [goesOn_next]); refine (foldl_pending _ _ _ ?_).trans ?_ <;> (first | (intro s a; (repeat' split) <;> simp; done) | simp; done)) | rfl)
@[simp] theorem State.clearF_pending (s : State) (x : Fld) : (State.clearF s x).pending = s.pending := by
  first
  | (simp [State.clearF, goesOn_ite, apply_ite State.pending, apply_dite State.pending]; done)
  | (unfold State.clearF; (try dsimp only); (repeat' split) <;> first | (simp [apply_ite State.pending, apply_dite State.pending, *]; done) | (simp [State.offer_pending _ _ _ _ (by assumption), *]; done) | (simp [State.take_pending _ _ _ _ (by assumption), *]; done) | ((try rw [goesOn_next]); refine (foldl_pending _ _ _ ?_).trans ?_ <;> (first | (intro s a; (repeat' split) <;> simp; done) | simp; done)) | rfl)
@[simp] theorem State.wr2_pending (s : State) (w : Nat → Nat) (v : Nat) : (State.wr2 s w v).pending = s.pending := by
  first
  | (simp [State.wr2, goesOn_ite, apply_ite State.pending, apply_dite State.pending]; done)
  | (unfold State.wr2; (try dsimp only); (repeat' split) <;> first | (simp [apply_ite State.pending, apply_dite State.pending, *]; done) | (simp [State.offer_pending _ _ _ _ (by assumption), *]; done) | (simp [State.take_pending _ _ _ _ (by assumption), *]; done) | ((try rw [goesOn_next]); refine (foldl_pending _ _ _ ?_).trans ?_ <;> (first | (intro s a; (repeat' split) <;> simp; done) | simp; done)) | rfl)
@[simp] theorem State.holdLow_pending (s : State) (a : Nat) (v : Word) : (State.holdLow s a v).pending = s.pending := by
  first
  | (simp [State.holdLow, goesOn_ite, apply_ite State.pending, apply_dite State.pending]; done)
  | (unfold State.holdLow; (try dsimp only); (repeat' split) <;> first | (simp [apply_ite State.pending, apply_dite State.pending, *]; done) | (simp [State.offer_pending _ _ _ _ (by assumption), *]; done) | (simp [State.take_pending _ _ _ _ (by assumption), *]; done) | ((try rw [goesOn_next]); refine (foldl_pending _ _ _ ?_).trans ?_ <;> (first | (intro s a; (repeat' split) <;> simp; done) | simp; done)) | rfl)
@[simp] theorem State.dropLow_pending (s : State) (a : Nat) : (State.dropLow s a).pending = s.pending := by
  first
  | (simp [State.dropLow, goesOn_ite, apply_ite State.pending, apply_dite State.pending]; done)
  | (unfold State.dropLow; (try dsimp only); (repeat' split) <;> first | (simp [apply_ite State.pending, apply_dite State.pending, *]; done) | (simp [State.offer_pending _ _ _ _ (by assumption), *]; done) | (simp [State.take_pending _ _ _ _ (by assumption), *]; done) | ((try rw [goesOn_next]); refine (foldl_pending _ _ _ ?_).trans ?_ <;> (first | (intro s a; (repeat' split) <;> simp; done) | simp; done)) | rfl)
@[simp] theorem State.wrI_pending (s : State) (a : Nat) (v : Int) : (State.wrI s a v).pending = s.pending := by
  first
  | (simp [State.wrI, goesOn_ite, apply_ite State.pending, apply_dite State.pending]; done)
  | (unfold State.wrI; (try dsimp only); (repeat' split) <;> first | (simp [apply_ite State.pending, apply_dite State.pending, *]; done) | (simp [State.offer_pending _ _ _ _ (by assumption), *]; done) | (simp [State.take_pending _ _ _ _ (by assumption), *]; done) | ((try rw [goesOn_next]); refine (foldl_pending _ _ _ ?_).trans ?_ <;> (first | (intro s a; (repeat' split) <;> simp; done) | simp; done)) | rfl)
@[simp] theorem State.bumpBy_pending (s : State) (a : Nat) (n : Nat) : (State.bumpBy s a n).pending = s.pending := by
  first
  | (simp [State.bumpBy, goesOn_ite, apply_ite State.pending, apply_dite State.pending]; done)
  | (unfold State.bumpBy; (try dsimp only); (repeat' split) <;> first | (simp [apply_ite State.pending, apply_dite State.pending, *]; done) | (simp [State.offer_pending _ _ _ _ (by assumption), *]; done) | (simp [State.take_pending _ _ _ _ (by assumption), *]; done) | ((try rw [goesOn_next]); refine (foldl_pending _ _ _ ?_).trans ?_ <;> (first | (intro s a; (repeat' split) <;> simp; done) | simp; done)) | rfl)
@[simp] theorem State.bump_pending (s : State) (a : Nat) : (State.bump s a).pending = s.pending := by
  first
  | (simp [State.bump, goesOn_ite, apply_ite State.pending, apply_dite State.pending]; done)
  | (unfold State.bump; (try dsimp only); (repeat' split) <;> first | (simp [apply_ite State.pending, apply_dite State.pending, *]; done) | (simp [State.offer_pending _ _ _ _ (by assumption), *]; done) | (simp [State.take_pending _ _ _ _ (by assumption), *]; done) | ((try rw [goesOn_next]); refine (foldl_pending _ _ _ ?_).trans ?_ <;> (first | (intro s a; (repeat' split) <;> simp; done) | simp; done)) | rfl)
@[simp] theorem State.wrWords_pending (s : State) (a : Nat) (x0 : List Word) : (State.wrWords s a x0).pending = s.pending := by
  induction x0 generalizing s a with
  | nil => rfl
  | cons x xs ih => (unfold State.wrWords; (try dsimp only); (repeat' split) <;> first | (simp [apply_ite State.pending, apply_dite State.pending, ih, *]; done) | (simp [State.offer_pending _ _ _ _ (by assumption), ih, *]; done) | (simp [State.take_pending _ _ _ _ (by assumption), ih, *]; done) | ((try rw [goesOn_next]); refine (foldl_pending _ _ _ ?_).trans ?_ <;> (first | (intro s a; (repeat' split) <;> simp; done) | simp; done)) | rfl)
@[simp] theorem State.wrAll_pending (s : State) (x0 : List (Nat × Word)) : (State.wrAll s x0).pending = s.pending := by
  induction x0 generalizing s with
  | nil => rfl
  | cons x xs ih => (unfold State.wrAll; (try dsimp only); (repeat' split) <;> first | (simp [apply_ite State.pending, apply_dite State.pending, ih, *]; done) | (simp [State.offer_pending _ _ _ _ (by assumption), ih, *]; done) | (simp [State.take_pending _ _ _ _ (by assumption), ih, *]; done) | ((try rw [goesOn_next]); refine (foldl_pending _ _ _ ?_).trans ?_ <;> (first | (intro s a; (repeat' split) <;> simp; done) | simp; done)) | rfl)
@[simp] theorem State.cycles_pending (s : State) (k : Nat) : (State.cycles s k).pending = s.pending := by
  first
  | (simp [State.cycles, goesOn_ite, apply_ite State.pending, apply_dite State.pending]; done)
  | (unfold State.cycles; (try dsimp only); (repeat' split) <;> first | (simp [apply_ite State.pending, apply_dite State.pending, *]; done) | (simp [State.offer_pending _ _ _ _ (by assumption), *]; done) | (simp [State.take_pending _ _ _ _ (by assumption), *]; done) | ((try rw [goesOn_next]); refine (foldl_pending _ _ _ ?_).trans ?_ <;> (first | (intro s a; (repeat' split) <;> simp; done) | simp; done)) | rfl)
@[simp] theorem State.sysCycle_pending (s : State) : (State.sysCycle s).pending = s.pending := by
  first
  | (simp [State.sysCycle, goesOn_ite, apply_ite State.pending, apply_dite State.pending]; done)
  | (unfold State.sysCycle; (try dsimp only); (repeat' split) <;> first | (simp [apply_ite State.pending, apply_dite State.pending, *]; done) | (simp [State.offer_pending _ _ _ _ (by assumption), *]; done) | (simp [State.take_pending _ _ _ _ (by assumption), *]; done) | ((try rw [goesOn_next]); refine (foldl_pending _ _ _ ?_).trans ?_ <;> (first | (intro s a; (repeat' split) <;> simp; done) | simp; done)) | rfl)
@[simp] theorem State.runTo_pending (s : State) (t : Nat) : (State.runTo s t).pending = s.pending := by
  first
  | (simp [State.runTo, goesOn_ite, apply_ite State.pending, apply_dite State.pending]; done)
  | (unfold State.runTo; (try dsimp only); (repeat' split) <;> first | (simp [apply_ite State.pending, apply_dite State.pending, *]; done) | (simp [State.offer_pending _ _ _ _ (by assumption), *]; done) | (simp [State.take_pending _ _ _ _ (by assumption), *]; done) | ((try rw [goesOn_next]); refine (foldl_pending _ _ _ ?_).trans ?_ <;> (first | (intro s a; (repeat' split) <;> simp; done) | simp; done)) | rfl)
@[simp] theorem State.bumpFree_pending (s : State) : (State.bumpFree s).pending = s.pending := by
  first
  | (simp [State.bumpFree, goesOn_ite, apply_ite State.pending, apply_dite State.pending]; done)
  | (unfold State.bumpFree; (try dsimp only); (repeat' split) <;> first | (simp [apply_ite State.pending, apply_dite State.pending, *]; done) | (simp [State.offer_pending _ _ _ _ (by assumption), *]; done) | (simp [State.take_pending _ _ _ _ (by assumption), *]; done) | ((try rw [goesOn_next]); refine (foldl_pending _ _ _ ?_).trans ?_ <;> (first | (intro s a; (repeat' split) <;> simp; done) | simp; done)) | rfl)
@[simp] theorem State.raise_pending (s : State) (m : FaultMsg) : (State.raise s m).pending = s.pending := by
  first
  | (simp [State.raise, goesOn_ite, apply_ite State.pending, apply_dite State.pending]; done)
  | (unfold State.raise; (try dsimp only); (repeat' split) <;> first | (simp [apply_ite State.pending, apply_dite State.pending, *]; done) | (simp [State.offer_pending _ _ _ _ (by assumption), *]; done) | (simp [State.take_pending _ _ _ _ (by assumption), *]; done) | ((try rw [goesOn_next]); refine (foldl_pending _ _ _ ?_).trans ?_ <;> (first | (intro s a; (repeat' split) <;> simp; done) | simp; done)) | rfl)
@[simp] theorem State.endCause_pending (s : State) (source : Nat) (kind : Nat) : (State.endCause s source kind).pending = s.pending := by
  first
  | (simp [State.endCause, goesOn_ite, apply_ite State.pending, apply_dite State.pending]; done)
  | (unfold State.endCause; (try dsimp only); (repeat' split) <;> first | (simp [apply_ite State.pending, apply_dite State.pending, *]; done) | (simp [State.offer_pending _ _ _ _ (by assumption), *]; done) | (simp [State.take_pending _ _ _ _ (by assumption), *]; done) | ((try rw [goesOn_next]); refine (foldl_pending _ _ _ ?_).trans ?_ <;> (first | (intro s a; (repeat' split) <;> simp; done) | simp; done)) | rfl)
@[simp] theorem State.markHigh_pending (s : State) (n : Fin 16) : (State.markHigh s n).pending = s.pending := by
  first
  | (simp [State.markHigh, goesOn_ite, apply_ite State.pending, apply_dite State.pending]; done)
  | (unfold State.markHigh; (try dsimp only); (repeat' split) <;> first | (simp [apply_ite State.pending, apply_dite State.pending, *]; done) | (simp [State.offer_pending _ _ _ _ (by assumption), *]; done) | (simp [State.take_pending _ _ _ _ (by assumption), *]; done) | ((try rw [goesOn_next]); refine (foldl_pending _ _ _ ?_).trans ?_ <;> (first | (intro s a; (repeat' split) <;> simp; done) | simp; done)) | rfl)
theorem State.offer_pending (s : State) (n : Fin 16) (i : QItem) : ∀ t, s.offer n i = some t → t.pending = s.pending := by
  intro t h
  unfold State.offer at h
  dsimp only at h
  split at h
  · cases h; rfl
  · cases h
@[simp] theorem State.offerOr_pending (s : State) (n : Fin 16) (i : QItem) : (s.offerOr n i).1.pending = s.pending := by
  unfold State.offerOr
  split
  · next t h => exact State.offer_pending _ _ _ _ h
  · rfl
@[simp] theorem State.freeCells_pending (s : State) (n : Fin 16) (c : Nat) : (State.freeCells s n c).pending = s.pending := by
  first
  | (simp [State.freeCells, goesOn_ite, apply_ite State.pending, apply_dite State.pending]; done)
  | (unfold State.freeCells; (try dsimp only); (repeat' split) <;> first | (simp [apply_ite State.pending, apply_dite State.pending, *]; done) | (simp [State.offer_pending _ _ _ _ (by assumption), *]; done) | (simp [State.take_pending _ _ _ _ (by assumption), *]; done) | ((try rw [goesOn_next]); refine (foldl_pending _ _ _ ?_).trans ?_ <;> (first | (intro s a; (repeat' split) <;> simp; done) | simp; done)) | rfl)
theorem State.take_pending (s : State) (n : Fin 16) : ∀ i t, s.take n = some (i, t) → t.pending = s.pending := by
  intro i t h
  unfold State.take at h
  split at h
  · cases h
  · cases h; simp
@[simp] theorem State.withdraw_pending (s : State) (n : Fin 16) (p : QItem → Bool) : (State.withdraw s n p).pending = s.pending := by
  first
  | (simp [State.withdraw, goesOn_ite, apply_ite State.pending, apply_dite State.pending]; done)
  | (unfold State.withdraw; (try dsimp only); (repeat' split) <;> first | (simp [apply_ite State.pending, apply_dite State.pending, *]; done) | (simp [State.offer_pending _ _ _ _ (by assumption), *]; done) | (simp [State.take_pending _ _ _ _ (by assumption), *]; done) | ((try rw [goesOn_next]); refine (foldl_pending _ _ _ ?_).trans ?_ <;> (first | (intro s a; (repeat' split) <;> simp; done) | simp; done)) | rfl)
@[simp] theorem State.cancelItems_pending (s : State) (n : Fin 16) (p : QItem → Bool) : (State.cancelItems s n p).pending = s.pending := by
  first
  | (simp [State.cancelItems, goesOn_ite, apply_ite State.pending, apply_dite State.pending]; done)
  | (unfold State.cancelItems; (try dsimp only); (repeat' split) <;> first | (simp [apply_ite State.pending, apply_dite State.pending, *]; done) | (simp [State.offer_pending _ _ _ _ (by assumption), *]; done) | (simp [State.take_pending _ _ _ _ (by assumption), *]; done) | ((try rw [goesOn_next]); refine (foldl_pending _ _ _ ?_).trans ?_ <;> (first | (intro s a; (repeat' split) <;> simp; done) | simp; done)) | rfl)
@[simp] theorem State.modCore_pending (s : State) (c : Fin 8) (g : Core → Core) : (State.modCore s c g).pending = s.pending := by
  first
  | (simp [State.modCore, goesOn_ite, apply_ite State.pending, apply_dite State.pending]; done)
  | (unfold State.modCore; (try dsimp only); (repeat' split) <;> first | (simp [apply_ite State.pending, apply_dite State.pending, *]; done) | (simp [State.offer_pending _ _ _ _ (by assumption), *]; done) | (simp [State.take_pending _ _ _ _ (by assumption), *]; done) | ((try rw [goesOn_next]); refine (foldl_pending _ _ _ ?_).trans ?_ <;> (first | (intro s a; (repeat' split) <;> simp; done) | simp; done)) | rfl)
@[simp] theorem State.setResult_pending (s : State) (c : Fin 8) (adm : Nat) (handle : Nat) : (State.setResult s c adm handle).pending = s.pending := by
  first
  | (simp [State.setResult, goesOn_ite, apply_ite State.pending, apply_dite State.pending]; done)
  | (unfold State.setResult; (try dsimp only); (repeat' split) <;> first | (simp [apply_ite State.pending, apply_dite State.pending, *]; done) | (simp [State.offer_pending _ _ _ _ (by assumption), *]; done) | (simp [State.take_pending _ _ _ _ (by assumption), *]; done) | ((try rw [goesOn_next]); refine (foldl_pending _ _ _ ?_).trans ?_ <;> (first | (intro s a; (repeat' split) <;> simp; done) | simp; done)) | rfl)
@[simp] theorem State.modTile_pending (s : State) (a : Fin 96) (g : Tile → Tile) : (State.modTile s a g).pending = s.pending := by
  first
  | (simp [State.modTile, goesOn_ite, apply_ite State.pending, apply_dite State.pending]; done)
  | (unfold State.modTile; (try dsimp only); (repeat' split) <;> first | (simp [apply_ite State.pending, apply_dite State.pending, *]; done) | (simp [State.offer_pending _ _ _ _ (by assumption), *]; done) | (simp [State.take_pending _ _ _ _ (by assumption), *]; done) | ((try rw [goesOn_next]); refine (foldl_pending _ _ _ ?_).trans ?_ <;> (first | (intro s a; (repeat' split) <;> simp; done) | simp; done)) | rfl)
@[simp] theorem State.modFbp_pending (s : State) (p : Fin 32) (g : FbPort → FbPort) : (State.modFbp s p g).pending = s.pending := by
  first
  | (simp [State.modFbp, goesOn_ite, apply_ite State.pending, apply_dite State.pending]; done)
  | (unfold State.modFbp; (try dsimp only); (repeat' split) <;> first | (simp [apply_ite State.pending, apply_dite State.pending, *]; done) | (simp [State.offer_pending _ _ _ _ (by assumption), *]; done) | (simp [State.take_pending _ _ _ _ (by assumption), *]; done) | ((try rw [goesOn_next]); refine (foldl_pending _ _ _ ?_).trans ?_ <;> (first | (intro s a; (repeat' split) <;> simp; done) | simp; done)) | rfl)
@[simp] theorem State.modQueue_pending (s : State) (n : Fin 16) (g : Queue → Queue) : (State.modQueue s n g).pending = s.pending := by
  first
  | (simp [State.modQueue, goesOn_ite, apply_ite State.pending, apply_dite State.pending]; done)
  | (unfold State.modQueue; (try dsimp only); (repeat' split) <;> first | (simp [apply_ite State.pending, apply_dite State.pending, *]; done) | (simp [State.offer_pending _ _ _ _ (by assumption), *]; done) | (simp [State.take_pending _ _ _ _ (by assumption), *]; done) | ((try rw [goesOn_next]); refine (foldl_pending _ _ _ ?_).trans ?_ <;> (first | (intro s a; (repeat' split) <;> simp; done) | simp; done)) | rfl)
@[simp] theorem State.msix_pending (s : State) (v : Fin 8) : (State.msix s v).pending = s.pending := by
  first
  | (simp [State.msix, goesOn_ite, apply_ite State.pending, apply_dite State.pending]; done)
  | (unfold State.msix; (try dsimp only); (repeat' split) <;> first | (simp [apply_ite State.pending, apply_dite State.pending, *]; done) | (simp [State.offer_pending _ _ _ _ (by assumption), *]; done) | (simp [State.take_pending _ _ _ _ (by assumption), *]; done) | ((try rw [goesOn_next]); refine (foldl_pending _ _ _ ?_).trans ?_ <;> (first | (intro s a; (repeat' split) <;> simp; done) | simp; done)) | rfl)
@[simp] theorem State.hostWrite_pending (s : State) (a : Nat) (bs : List Byte) : (State.hostWrite s a bs).pending = s.pending := by
  first
  | (simp [State.hostWrite, goesOn_ite, apply_ite State.pending, apply_dite State.pending]; done)
  | (unfold State.hostWrite; (try dsimp only); (repeat' split) <;> first | (simp [apply_ite State.pending, apply_dite State.pending, *]; done) | (simp [State.offer_pending _ _ _ _ (by assumption), *]; done) | (simp [State.take_pending _ _ _ _ (by assumption), *]; done) | ((try rw [goesOn_next]); refine (foldl_pending _ _ _ ?_).trans ?_ <;> (first | (intro s a; (repeat' split) <;> simp; done) | simp; done)) | rfl)
@[simp] theorem State.writeCq_pending (s : State) (c : Completion) : (State.writeCq s c).pending = s.pending := by
  first
  | (simp [State.writeCq, goesOn_ite, apply_ite State.pending, apply_dite State.pending]; done)
  | (unfold State.writeCq; (try dsimp only); (repeat' split) <;> first | (simp [apply_ite State.pending, apply_dite State.pending, *]; done) | (simp [State.offer_pending _ _ _ _ (by assumption), *]; done) | (simp [State.take_pending _ _ _ _ (by assumption), *]; done) | ((try rw [goesOn_next]); refine (foldl_pending _ _ _ ?_).trans ?_ <;> (first | (intro s a; (repeat' split) <;> simp; done) | simp; done)) | rfl)
@[simp] theorem State.complete_pending (s : State) (id : Nat) (c : Completion) : (State.complete s id c).pending = s.pending := by
  first
  | (simp [State.complete, goesOn_ite, apply_ite State.pending, apply_dite State.pending]; done)
  | (unfold State.complete; (try dsimp only); (repeat' split) <;> first | (simp [apply_ite State.pending, apply_dite State.pending, *]; done) | (simp [State.offer_pending _ _ _ _ (by assumption), *]; done) | (simp [State.take_pending _ _ _ _ (by assumption), *]; done) | ((try rw [goesOn_next]); refine (foldl_pending _ _ _ ?_).trans ?_ <;> (first | (intro s a; (repeat' split) <;> simp; done) | simp; done)) | rfl)
@[simp] theorem State.putBucket_pending (s : State) (b : RecBucket) : (State.putBucket s b).pending = s.pending := by
  first
  | (simp [State.putBucket, goesOn_ite, apply_ite State.pending, apply_dite State.pending]; done)
  | (unfold State.putBucket; (try dsimp only); (repeat' split) <;> first | (simp [apply_ite State.pending, apply_dite State.pending, *]; done) | (simp [State.offer_pending _ _ _ _ (by assumption), *]; done) | (simp [State.take_pending _ _ _ _ (by assumption), *]; done) | ((try rw [goesOn_next]); refine (foldl_pending _ _ _ ?_).trans ?_ <;> (first | (intro s a; (repeat' split) <;> simp; done) | simp; done)) | rfl)
@[simp] theorem State.noteDrop_pending (s : State) (prio : Nat) : (State.noteDrop s prio).pending = s.pending := by
  first
  | (simp [State.noteDrop, goesOn_ite, apply_ite State.pending, apply_dite State.pending]; done)
  | (unfold State.noteDrop; (try dsimp only); (repeat' split) <;> first | (simp [apply_ite State.pending, apply_dite State.pending, *]; done) | (simp [State.offer_pending _ _ _ _ (by assumption), *]; done) | (simp [State.take_pending _ _ _ _ (by assumption), *]; done) | ((try rw [goesOn_next]); refine (foldl_pending _ _ _ ?_).trans ?_ <;> (first | (intro s a; (repeat' split) <;> simp; done) | simp; done)) | rfl)
@[simp] theorem State.recRemove_pending (s : State) (ix : Nat) (cells : Nat) : (State.recRemove s ix cells).pending = s.pending := by
  first
  | (simp [State.recRemove, goesOn_ite, apply_ite State.pending, apply_dite State.pending]; done)
  | (unfold State.recRemove; (try dsimp only); (repeat' split) <;> first | (simp [apply_ite State.pending, apply_dite State.pending, *]; done) | (simp [State.offer_pending _ _ _ _ (by assumption), *]; done) | (simp [State.take_pending _ _ _ _ (by assumption), *]; done) | ((try rw [goesOn_next]); refine (foldl_pending _ _ _ ?_).trans ?_ <;> (first | (intro s a; (repeat' split) <;> simp; done) | simp; done)) | rfl)
@[simp] theorem State.recMakeRoom_pending (s : State) (r : RecItem) (it : QItem) (k : Nat) :
    (s.recMakeRoom r it k).1.pending = s.pending := by
  induction k generalizing s with
  | zero => rfl
  | succ k ih =>
    unfold State.recMakeRoom
    split
    · next t h => exact State.offer_pending _ _ _ _ h
    · dsimp only
      split
      · simp
      · simp [ih]
@[simp] theorem State.recEnqueue_pending (s : State) (r : RecItem) : (State.recEnqueue s r).1.pending = s.pending := by
  first
  | (simp [State.recEnqueue, goesOn_ite, apply_ite State.pending, apply_dite State.pending]; done)
  | (unfold State.recEnqueue; (try dsimp only); (repeat' split) <;> first | (simp [apply_ite State.pending, apply_dite State.pending, *]; done) | (simp [State.offer_pending _ _ _ _ (by assumption), *]; done) | (simp [State.take_pending _ _ _ _ (by assumption), *]; done) | ((try rw [goesOn_next]); refine (foldl_pending _ _ _ ?_).trans ?_ <;> (first | (intro s a; (repeat' split) <;> simp; done) | simp; done)) | rfl)
@[simp] theorem State.recJudge_pending (s : State) (r : RecItem) : (State.recJudge s r).1.pending = s.pending := by
  first
  | (simp [State.recJudge, goesOn_ite, apply_ite State.pending, apply_dite State.pending]; done)
  | (unfold State.recJudge; (try dsimp only); (repeat' split) <;> first | (simp [apply_ite State.pending, apply_dite State.pending, *]; done) | (simp [State.offer_pending _ _ _ _ (by assumption), *]; done) | (simp [State.take_pending _ _ _ _ (by assumption), *]; done) | ((try rw [goesOn_next]); refine (foldl_pending _ _ _ ?_).trans ?_ <;> (first | (intro s a; (repeat' split) <;> simp; done) | simp; done)) | rfl)
@[simp] theorem State.recOffer_pending (s : State) (firmware : Bool) (r : RecItem) : (State.recOffer s firmware r).1.pending = s.pending := by
  first
  | (simp [State.recOffer, goesOn_ite, apply_ite State.pending, apply_dite State.pending]; done)
  | (unfold State.recOffer; (try dsimp only); (repeat' split) <;> first | (simp [apply_ite State.pending, apply_dite State.pending, *]; done) | (simp [State.offer_pending _ _ _ _ (by assumption), *]; done) | (simp [State.take_pending _ _ _ _ (by assumption), *]; done) | ((try rw [goesOn_next]); refine (foldl_pending _ _ _ ?_).trans ?_ <;> (first | (intro s a; (repeat' split) <;> simp; done) | simp; done)) | rfl)
@[simp] theorem State.offerRecAt_pending (s : State) (code : Nat) (prio : Nat) (payload : List Byte) (time : Instant) : (State.offerRecAt s code prio payload time).pending = s.pending := by
  first
  | (simp [State.offerRecAt, goesOn_ite, apply_ite State.pending, apply_dite State.pending]; done)
  | (unfold State.offerRecAt; (try dsimp only); (repeat' split) <;> first | (simp [apply_ite State.pending, apply_dite State.pending, *]; done) | (simp [State.offer_pending _ _ _ _ (by assumption), *]; done) | (simp [State.take_pending _ _ _ _ (by assumption), *]; done) | ((try rw [goesOn_next]); refine (foldl_pending _ _ _ ?_).trans ?_ <;> (first | (intro s a; (repeat' split) <;> simp; done) | simp; done)) | rfl)
@[simp] theorem State.offerRec_pending (s : State) (code : Nat) (prio : Nat) (payload : List Byte) : (State.offerRec s code prio payload).pending = s.pending := by
  first
  | (simp [State.offerRec, goesOn_ite, apply_ite State.pending, apply_dite State.pending]; done)
  | (unfold State.offerRec; (try dsimp only); (repeat' split) <;> first | (simp [apply_ite State.pending, apply_dite State.pending, *]; done) | (simp [State.offer_pending _ _ _ _ (by assumption), *]; done) | (simp [State.take_pending _ _ _ _ (by assumption), *]; done) | ((try rw [goesOn_next]); refine (foldl_pending _ _ _ ?_).trans ?_ <;> (first | (intro s a; (repeat' split) <;> simp; done) | simp; done)) | rfl)
@[simp] theorem State.setMode_pending (s : State) (m : Nat) (cause : Nat) (entry : Nat) : (State.setMode s m cause entry).pending = s.pending := by
  first
  | (simp [State.setMode, goesOn_ite, apply_ite State.pending, apply_dite State.pending]; done)
  | (unfold State.setMode; (try dsimp only); (repeat' split) <;> first | (simp [apply_ite State.pending, apply_dite State.pending, *]; done) | (simp [State.offer_pending _ _ _ _ (by assumption), *]; done) | (simp [State.take_pending _ _ _ _ (by assumption), *]; done) | ((try rw [goesOn_next]); refine (foldl_pending _ _ _ ?_).trans ?_ <;> (first | (intro s a; (repeat' split) <;> simp; done) | simp; done)) | rfl)

end Sys2Proof.Machine
end

