-- ==== Sys2Proof/Laws/QueueQueues.lean ====
section
/-! SUPPORT. The operations of Machine/Queues.lean leave the queue of waiting commands alone. -/

namespace Sys2Proof.Machine

@[simp] theorem State.leaveGroup_pending (s : State) : (State.leaveGroup s).pending = s.pending := by
  first
  | (simp [State.leaveGroup, goesOn_ite, apply_ite State.pending, apply_dite State.pending]; done)
  | (unfold State.leaveGroup; (try dsimp only); (repeat' split) <;> first | (simp [apply_ite State.pending, apply_dite State.pending, *]; done) | (simp [State.offer_pending _ _ _ _ (by assumption), *]; done) | (simp [State.take_pending _ _ _ _ (by assumption), *]; done) | ((try rw [goesOn_next]); refine (foldl_pending _ _ _ ?_).trans ?_ <;> (first | (intro s a; (repeat' split) <;> simp; done) | simp; done)) | rfl)
@[simp] theorem State.placeWork_pending (s : State) (w : Work) : (State.placeWork s w).pending = s.pending := by
  first
  | (simp [State.placeWork, goesOn_ite, apply_ite State.pending, apply_dite State.pending]; done)
  | (unfold State.placeWork; (try dsimp only); (repeat' split) <;> first | (simp [apply_ite State.pending, apply_dite State.pending, *]; done) | (simp [State.offer_pending _ _ _ _ (by assumption), *]; done) | (simp [State.take_pending _ _ _ _ (by assumption), *]; done) | ((try rw [goesOn_next]); refine (foldl_pending _ _ _ ?_).trans ?_ <;> (first | (intro s a; (repeat' split) <;> simp; done) | simp; done)) | rfl)
@[simp] theorem State.join_pending (s : State) (w : Work) : (State.join s w).pending = s.pending := by
  first
  | (simp [State.join, goesOn_ite, apply_ite State.pending, apply_dite State.pending]; done)
  | (unfold State.join; (try dsimp only); (repeat' split) <;> first | (simp [apply_ite State.pending, apply_dite State.pending, *]; done) | (simp [State.offer_pending _ _ _ _ (by assumption), *]; done) | (simp [State.take_pending _ _ _ _ (by assumption), *]; done) | ((try rw [goesOn_next]); refine (foldl_pending _ _ _ ?_).trans ?_ <;> (first | (intro s a; (repeat' split) <;> simp; done) | simp; done)) | rfl)
@[simp] theorem State.putWork_pending (s : State) (n : Fin 16) (w : Work) : (State.putWork s n w).1.pending = s.pending := by
  first
  | (simp [State.putWork, goesOn_ite, apply_ite State.pending, apply_dite State.pending]; done)
  | (unfold State.putWork; (try dsimp only); (repeat' split) <;> first | (simp [apply_ite State.pending, apply_dite State.pending, *]; done) | (simp [State.offer_pending _ _ _ _ (by assumption), *]; done) | (simp [State.take_pending _ _ _ _ (by assumption), *]; done) | ((try rw [goesOn_next]); refine (foldl_pending _ _ _ ?_).trans ?_ <;> (first | (intro s a; (repeat' split) <;> simp; done) | simp; done)) | rfl)
@[simp] theorem State.unqueue_pending (s : State) (w : Work) : (State.unqueue s w).pending = s.pending := by
  first
  | (simp [State.unqueue, goesOn_ite, apply_ite State.pending, apply_dite State.pending]; done)
  | (unfold State.unqueue; (try dsimp only); (repeat' split) <;> first | (simp [apply_ite State.pending, apply_dite State.pending, *]; done) | (simp [State.offer_pending _ _ _ _ (by assumption), *]; done) | (simp [State.take_pending _ _ _ _ (by assumption), *]; done) | ((try rw [goesOn_next]); refine (foldl_pending _ _ _ ?_).trans ?_ <;> (first | (intro s a; (repeat' split) <;> simp; done) | simp; done)) | rfl)
@[simp] theorem State.endWork_pending (s : State) (w : Work) (adm : Nat) (result : Nat) : (State.endWork s w adm result).pending = s.pending := by
  first
  | (simp [State.endWork, goesOn_ite, apply_ite State.pending, apply_dite State.pending]; done)
  | (unfold State.endWork; (try dsimp only); (repeat' split) <;> first | (simp [apply_ite State.pending, apply_dite State.pending, *]; done) | (simp [State.offer_pending _ _ _ _ (by assumption), *]; done) | (simp [State.take_pending _ _ _ _ (by assumption), *]; done) | ((try rw [goesOn_next]); refine (foldl_pending _ _ _ ?_).trans ?_ <;> (first | (intro s a; (repeat' split) <;> simp; done) | simp; done)) | rfl)
@[simp] theorem State.fillInbox_pending (s : State) (c : Fin 8) (w : Work) (seq : Nat) : (State.fillInbox s c w seq).pending = s.pending := by
  first
  | (simp [State.fillInbox, goesOn_ite, apply_ite State.pending, apply_dite State.pending]; done)
  | (unfold State.fillInbox; (try dsimp only); (repeat' split) <;> first | (simp [apply_ite State.pending, apply_dite State.pending, *]; done) | (simp [State.offer_pending _ _ _ _ (by assumption), *]; done) | (simp [State.take_pending _ _ _ _ (by assumption), *]; done) | ((try rw [goesOn_next]); refine (foldl_pending _ _ _ ?_).trans ?_ <;> (first | (intro s a; (repeat' split) <;> simp; done) | simp; done)) | rfl)
@[simp] theorem State.startOn_pending (s : State) (w : Work) (c : Fin 8) : (State.startOn s w c).pending = s.pending := by
  first
  | (simp [State.startOn, goesOn_ite, apply_ite State.pending, apply_dite State.pending]; done)
  | (unfold State.startOn; (try dsimp only); (repeat' split) <;> first | (simp [apply_ite State.pending, apply_dite State.pending, *]; done) | (simp [State.offer_pending _ _ _ _ (by assumption), *]; done) | (simp [State.take_pending _ _ _ _ (by assumption), *]; done) | ((try rw [goesOn_next]); refine (foldl_pending _ _ _ ?_).trans ?_ <;> (first | (intro s a; (repeat' split) <;> simp; done) | simp; done)) | rfl)
@[simp] theorem State.endHandler_pending (s : State) (c : Fin 8) (status : Nat) : (State.endHandler s c status).pending = s.pending := by
  first
  | (simp [State.endHandler, goesOn_ite, apply_ite State.pending, apply_dite State.pending]; done)
  | (unfold State.endHandler; (try dsimp only); (repeat' split) <;> first | (simp [apply_ite State.pending, apply_dite State.pending, *]; done) | (simp [State.offer_pending _ _ _ _ (by assumption), *]; done) | (simp [State.take_pending _ _ _ _ (by assumption), *]; done) | ((try rw [goesOn_next]); refine (foldl_pending _ _ _ ?_).trans ?_ <;> (first | (intro s a; (repeat' split) <;> simp; done) | simp; done)) | rfl)
@[simp] theorem State.grantQueue_pending (s : State) (n : Fin 16) (x0 : Nat) : (State.grantQueue s n x0).1.pending = s.pending := by
  induction x0 generalizing s n with
  | zero => rfl
  | succ k ih => (unfold State.grantQueue; (try dsimp only); (repeat' split) <;> first | (simp [apply_ite State.pending, apply_dite State.pending, ih, *]; done) | (simp [State.offer_pending _ _ _ _ (by assumption), ih, *]; done) | (simp [State.take_pending _ _ _ _ (by assumption), ih, *]; done) | ((try rw [goesOn_next]); refine (foldl_pending _ _ _ ?_).trans ?_ <;> (first | (intro s a; (repeat' split) <;> simp; done) | simp; done)) | rfl)
@[simp] theorem State.grantAll_pending (s : State) (x0 : List Nat) : (State.grantAll s x0).pending = s.pending := by
  induction x0 generalizing s with
  | nil => rfl
  | cons x xs ih => (unfold State.grantAll; (try dsimp only); (repeat' split) <;> first | (simp [apply_ite State.pending, apply_dite State.pending, ih, *]; done) | (simp [State.offer_pending _ _ _ _ (by assumption), ih, *]; done) | (simp [State.take_pending _ _ _ _ (by assumption), ih, *]; done) | ((try rw [goesOn_next]); refine (foldl_pending _ _ _ ?_).trans ?_ <;> (first | (intro s a; (repeat' split) <;> simp; done) | simp; done)) | rfl)
@[simp] theorem State.portSent_pending (s : State) (x : PtpTx) : (State.portSent s x).pending = s.pending := by
  first
  | (simp [State.portSent, goesOn_ite, apply_ite State.pending, apply_dite State.pending]; done)
  | (unfold State.portSent; (try dsimp only); (repeat' split) <;> first | (simp [apply_ite State.pending, apply_dite State.pending, *]; done) | (simp [State.offer_pending _ _ _ _ (by assumption), *]; done) | (simp [State.take_pending _ _ _ _ (by assumption), *]; done) | ((try rw [goesOn_next]); refine (foldl_pending _ _ _ ?_).trans ?_ <;> (first | (intro s a; (repeat' split) <;> simp; done) | simp; done)) | rfl)
@[simp] theorem execSharedCellGrant_goesOn (s : State) : goesOn s (execSharedCellGrant s) := by
  first
  | (simp [execSharedCellGrant, goesOn_ite, apply_ite State.pending, apply_dite State.pending]; done)
  | (unfold execSharedCellGrant; (try dsimp only); (repeat' split) <;> first | (simp [apply_ite State.pending, apply_dite State.pending, *]; done) | (simp [State.offer_pending _ _ _ _ (by assumption), *]; done) | (simp [State.take_pending _ _ _ _ (by assumption), *]; done) | ((try rw [goesOn_next]); refine (foldl_pending _ _ _ ?_).trans ?_ <;> (first | (intro s a; (repeat' split) <;> simp; done) | simp; done)) | rfl)
@[simp] theorem execDispatchStart_goesOn (s : State) : goesOn s (execDispatchStart s) := by
  first
  | (simp [execDispatchStart, goesOn_ite, apply_ite State.pending, apply_dite State.pending]; done)
  | (unfold execDispatchStart; (try dsimp only); (repeat' split) <;> first | (simp [apply_ite State.pending, apply_dite State.pending, *]; done) | (simp [State.offer_pending _ _ _ _ (by assumption), *]; done) | (simp [State.take_pending _ _ _ _ (by assumption), *]; done) | ((try rw [goesOn_next]); refine (foldl_pending _ _ _ ?_).trans ?_ <;> (first | (intro s a; (repeat' split) <;> simp; done) | simp; done)) | rfl)
@[simp] theorem execHandlerReturn_goesOn (c : Fin 8) (status : Byte) (s : State) : goesOn s (execHandlerReturn c status s) := by
  first
  | (simp [execHandlerReturn, goesOn_ite, apply_ite State.pending, apply_dite State.pending]; done)
  | (unfold execHandlerReturn; (try dsimp only); (repeat' split) <;> first | (simp [apply_ite State.pending, apply_dite State.pending, *]; done) | (simp [State.offer_pending _ _ _ _ (by assumption), *]; done) | (simp [State.take_pending _ _ _ _ (by assumption), *]; done) | ((try rw [goesOn_next]); refine (foldl_pending _ _ _ ?_).trans ?_ <;> (first | (intro s a; (repeat' split) <;> simp; done) | simp; done)) | rfl)
@[simp] theorem execHandlerOverrun_goesOn (c : Fin 8) (s : State) : goesOn s (execHandlerOverrun c s) := by
  first
  | (simp [execHandlerOverrun, goesOn_ite, apply_ite State.pending, apply_dite State.pending]; done)
  | (unfold execHandlerOverrun; (try dsimp only); (repeat' split) <;> first | (simp [apply_ite State.pending, apply_dite State.pending, *]; done) | (simp [State.offer_pending _ _ _ _ (by assumption), *]; done) | (simp [State.take_pending _ _ _ _ (by assumption), *]; done) | ((try rw [goesOn_next]); refine (foldl_pending _ _ _ ?_).trans ?_ <;> (first | (intro s a; (repeat' split) <;> simp; done) | simp; done)) | rfl)
@[simp] theorem execCoreBusErr_goesOn (c : Fin 8) (address : Word) (width : Nat) (s : State) : goesOn s (execCoreBusErr c address width s) := by
  first
  | (simp [execCoreBusErr, goesOn_ite, apply_ite State.pending, apply_dite State.pending]; done)
  | (unfold execCoreBusErr; (try dsimp only); (repeat' split) <;> first | (simp [apply_ite State.pending, apply_dite State.pending, *]; done) | (simp [State.offer_pending _ _ _ _ (by assumption), *]; done) | (simp [State.take_pending _ _ _ _ (by assumption), *]; done) | ((try rw [goesOn_next]); refine (foldl_pending _ _ _ ?_).trans ?_ <;> (first | (intro s a; (repeat' split) <;> simp; done) | simp; done)) | rfl)
@[simp] theorem execPlantFrameTx_goesOn (port : Fin 2) (s : State) : goesOn s (execPlantFrameTx port s) := by
  first
  | (simp [execPlantFrameTx, goesOn_ite, apply_ite State.pending, apply_dite State.pending]; done)
  | (unfold execPlantFrameTx; (try dsimp only); (repeat' split) <;> first | (simp [apply_ite State.pending, apply_dite State.pending, *]; done) | (simp [State.offer_pending _ _ _ _ (by assumption), *]; done) | (simp [State.take_pending _ _ _ _ (by assumption), *]; done) | ((try rw [goesOn_next]); refine (foldl_pending _ _ _ ?_).trans ?_ <;> (first | (intro s a; (repeat' split) <;> simp; done) | simp; done)) | rfl)

end Sys2Proof.Machine
end

