-- ==== Sys2Proof/Laws/QueueRecorder.lean ====
section
/-! SUPPORT. The operations of Machine/Recorder.lean leave the queue of waiting commands alone. -/

namespace Sys2Proof.Machine

@[simp] theorem State.recOpen_pending (s : State) (blk : Nat) : (State.recOpen s blk).pending = s.pending := by
  first
  | (simp [State.recOpen, goesOn_ite, apply_ite State.pending, apply_dite State.pending]; done)
  | (unfold State.recOpen; (try dsimp only); (repeat' split) <;> first | (simp [apply_ite State.pending, apply_dite State.pending, *]; done) | (simp [State.offer_pending _ _ _ _ (by assumption), *]; done) | (simp [State.take_pending _ _ _ _ (by assumption), *]; done) | ((try rw [goesOn_next]); refine (foldl_pending _ _ _ ?_).trans ?_ <;> (first | (intro s a; (repeat' split) <;> simp; done) | simp; done)) | rfl)
@[simp] theorem State.mramWrite_pending (s : State) (a : Nat) (bs : List Byte) : (State.mramWrite s a bs).pending = s.pending := by
  first
  | (simp [State.mramWrite, goesOn_ite, apply_ite State.pending, apply_dite State.pending]; done)
  | (unfold State.mramWrite; (try dsimp only); (repeat' split) <;> first | (simp [apply_ite State.pending, apply_dite State.pending, *]; done) | (simp [State.offer_pending _ _ _ _ (by assumption), *]; done) | (simp [State.take_pending _ _ _ _ (by assumption), *]; done) | ((try rw [goesOn_next]); refine (foldl_pending _ _ _ ?_).trans ?_ <;> (first | (intro s a; (repeat' split) <;> simp; done) | simp; done)) | rfl)
@[simp] theorem State.recFresh_pending (s : State) : (State.recFresh s).pending = s.pending := by
  first
  | (simp [State.recFresh, goesOn_ite, apply_ite State.pending, apply_dite State.pending]; done)
  | (unfold State.recFresh; (try dsimp only); (repeat' split) <;> first | (simp [apply_ite State.pending, apply_dite State.pending, *]; done) | (simp [State.offer_pending _ _ _ _ (by assumption), *]; done) | (simp [State.take_pending _ _ _ _ (by assumption), *]; done) | ((try rw [goesOn_next]); refine (foldl_pending _ _ _ ?_).trans ?_ <;> (first | (intro s a; (repeat' split) <;> simp; done) | simp; done)) | rfl)
@[simp] theorem State.recStore_pending (s : State) (len : Nat) (bytes : List Byte) : (State.recStore s len bytes).pending = s.pending := by
  first
  | (simp [State.recStore, goesOn_ite, apply_ite State.pending, apply_dite State.pending]; done)
  | (unfold State.recStore; (try dsimp only); (repeat' split) <;> first | (simp [apply_ite State.pending, apply_dite State.pending, *]; done) | (simp [State.offer_pending _ _ _ _ (by assumption), *]; done) | (simp [State.take_pending _ _ _ _ (by assumption), *]; done) | ((try rw [goesOn_next]); refine (foldl_pending _ _ _ ?_).trans ?_ <;> (first | (intro s a; (repeat' split) <;> simp; done) | simp; done)) | rfl)
@[simp] theorem State.recAdvance_pending (s : State) (len : Nat) : (State.recAdvance s len).pending = s.pending := by
  first
  | (simp [State.recAdvance, goesOn_ite, apply_ite State.pending, apply_dite State.pending]; done)
  | (unfold State.recAdvance; (try dsimp only); (repeat' split) <;> first | (simp [apply_ite State.pending, apply_dite State.pending, *]; done) | (simp [State.offer_pending _ _ _ _ (by assumption), *]; done) | (simp [State.take_pending _ _ _ _ (by assumption), *]; done) | ((try rw [goesOn_next]); refine (foldl_pending _ _ _ ?_).trans ?_ <;> (first | (intro s a; (repeat' split) <;> simp; done) | simp; done)) | rfl)
@[simp] theorem State.recShow_pending (s : State) (a : Nat) (seq : Nat) : (State.recShow s a seq).pending = s.pending := by
  first
  | (simp [State.recShow, goesOn_ite, apply_ite State.pending, apply_dite State.pending]; done)
  | (unfold State.recShow; (try dsimp only); (repeat' split) <;> first | (simp [apply_ite State.pending, apply_dite State.pending, *]; done) | (simp [State.offer_pending _ _ _ _ (by assumption), *]; done) | (simp [State.take_pending _ _ _ _ (by assumption), *]; done) | ((try rw [goesOn_next]); refine (foldl_pending _ _ _ ?_).trans ?_ <;> (first | (intro s a; (repeat' split) <;> simp; done) | simp; done)) | rfl)
@[simp] theorem State.recPut_pending (s : State) (len : Nat) (bytes : List Byte) : (State.recPut s len bytes).pending = s.pending := by
  first
  | (simp [State.recPut, goesOn_ite, apply_ite State.pending, apply_dite State.pending]; done)
  | (unfold State.recPut; (try dsimp only); (repeat' split) <;> first | (simp [apply_ite State.pending, apply_dite State.pending, *]; done) | (simp [State.offer_pending _ _ _ _ (by assumption), *]; done) | (simp [State.take_pending _ _ _ _ (by assumption), *]; done) | ((try rw [goesOn_next]); refine (foldl_pending _ _ _ ?_).trans ?_ <;> (first | (intro s a; (repeat' split) <;> simp; done) | simp; done)) | rfl)
@[simp] theorem State.recWrite_pending (s : State) (r : RecItem) : (State.recWrite s r).pending = s.pending := by
  first
  | (simp [State.recWrite, goesOn_ite, apply_ite State.pending, apply_dite State.pending]; done)
  | (unfold State.recWrite; (try dsimp only); (repeat' split) <;> first | (simp [apply_ite State.pending, apply_dite State.pending, *]; done) | (simp [State.offer_pending _ _ _ _ (by assumption), *]; done) | (simp [State.take_pending _ _ _ _ (by assumption), *]; done) | ((try rw [goesOn_next]); refine (foldl_pending _ _ _ ?_).trans ?_ <;> (first | (intro s a; (repeat' split) <;> simp; done) | simp; done)) | rfl)
@[simp] theorem State.recFound_pending (s : State) (head : Nat) (seq : Nat) (old : Nat) (oldSeq : Nat) (valid : Nat) (damaged : Nat) (wrapped : Bool) : (State.recFound s head seq old oldSeq valid damaged wrapped).pending = s.pending := by
  first
  | (simp [State.recFound, goesOn_ite, apply_ite State.pending, apply_dite State.pending]; done)
  | (unfold State.recFound; (try dsimp only); (repeat' split) <;> first | (simp [apply_ite State.pending, apply_dite State.pending, *]; done) | (simp [State.offer_pending _ _ _ _ (by assumption), *]; done) | (simp [State.take_pending _ _ _ _ (by assumption), *]; done) | ((try rw [goesOn_next]); refine (foldl_pending _ _ _ ?_).trans ?_ <;> (first | (intro s a; (repeat' split) <;> simp; done) | simp; done)) | rfl)
@[simp] theorem State.recDamage_pending (s : State) (n : Nat) : (State.recDamage s n).pending = s.pending := by
  first
  | (simp [State.recDamage, goesOn_ite, apply_ite State.pending, apply_dite State.pending]; done)
  | (unfold State.recDamage; (try dsimp only); (repeat' split) <;> first | (simp [apply_ite State.pending, apply_dite State.pending, *]; done) | (simp [State.offer_pending _ _ _ _ (by assumption), *]; done) | (simp [State.take_pending _ _ _ _ (by assumption), *]; done) | ((try rw [goesOn_next]); refine (foldl_pending _ _ _ ?_).trans ?_ <;> (first | (intro s a; (repeat' split) <;> simp; done) | simp; done)) | rfl)
@[simp] theorem State.recScan_pending (s : State) : (State.recScan s).pending = s.pending := by
  first
  | (simp [State.recScan, goesOn_ite, apply_ite State.pending, apply_dite State.pending]; done)
  | (unfold State.recScan; (try dsimp only); (repeat' split) <;> first | (simp [apply_ite State.pending, apply_dite State.pending, *]; done) | (simp [State.offer_pending _ _ _ _ (by assumption), *]; done) | (simp [State.take_pending _ _ _ _ (by assumption), *]; done) | ((try rw [goesOn_next]); refine (foldl_pending _ _ _ ?_).trans ?_ <;> (first | (intro s a; (repeat' split) <;> simp; done) | simp; done)) | rfl)
@[simp] theorem State.recCut_pending (s : State) (n : Nat) : (State.recCut s n).pending = s.pending := by
  first
  | (simp [State.recCut, goesOn_ite, apply_ite State.pending, apply_dite State.pending]; done)
  | (unfold State.recCut; (try dsimp only); (repeat' split) <;> first | (simp [apply_ite State.pending, apply_dite State.pending, *]; done) | (simp [State.offer_pending _ _ _ _ (by assumption), *]; done) | (simp [State.take_pending _ _ _ _ (by assumption), *]; done) | ((try rw [goesOn_next]); refine (foldl_pending _ _ _ ?_).trans ?_ <;> (first | (intro s a; (repeat' split) <;> simp; done) | simp; done)) | rfl)
@[simp] theorem State.recMramErr_pending (s : State) (address : Option Nat) : (State.recMramErr s address).pending = s.pending := by
  first
  | (simp [State.recMramErr, goesOn_ite, apply_ite State.pending, apply_dite State.pending]; done)
  | (unfold State.recMramErr; (try dsimp only); (repeat' split) <;> first | (simp [apply_ite State.pending, apply_dite State.pending, *]; done) | (simp [State.offer_pending _ _ _ _ (by assumption), *]; done) | (simp [State.take_pending _ _ _ _ (by assumption), *]; done) | ((try rw [goesOn_next]); refine (foldl_pending _ _ _ ?_).trans ?_ <;> (first | (intro s a; (repeat' split) <;> simp; done) | simp; done)) | rfl)
@[simp] theorem execRecScanDone_goesOn (bad : Option Nat) (s : State) : goesOn s (execRecScanDone bad s) := by
  first
  | (simp [execRecScanDone, goesOn_ite, apply_ite State.pending, apply_dite State.pending]; done)
  | (unfold execRecScanDone; (try dsimp only); (repeat' split) <;> first | (simp [apply_ite State.pending, apply_dite State.pending, *]; done) | (simp [State.offer_pending _ _ _ _ (by assumption), *]; done) | (simp [State.take_pending _ _ _ _ (by assumption), *]; done) | ((try rw [goesOn_next]); refine (foldl_pending _ _ _ ?_).trans ?_ <;> (first | (intro s a; (repeat' split) <;> simp; done) | simp; done)) | rfl)
@[simp] theorem execRecordWrite_goesOn (bad : Option Nat) (s : State) : goesOn s (execRecordWrite bad s) := by
  first
  | (simp [execRecordWrite, goesOn_ite, apply_ite State.pending, apply_dite State.pending]; done)
  | (unfold execRecordWrite; (try dsimp only); (repeat' split) <;> first | (simp [apply_ite State.pending, apply_dite State.pending, *]; done) | (simp [State.offer_pending _ _ _ _ (by assumption), *]; done) | (simp [State.take_pending _ _ _ _ (by assumption), *]; done) | ((try rw [goesOn_next]); refine (foldl_pending _ _ _ ?_).trans ?_ <;> (first | (intro s a; (repeat' split) <;> simp; done) | simp; done)) | rfl)
@[simp] theorem execRecordOffer_goesOn (core : Option (Fin 8)) (code : Nat) (prio : Nat) (payload : List Byte) (s : State) : goesOn s (execRecordOffer core code prio payload s) := by
  first
  | (simp [execRecordOffer, goesOn_ite, apply_ite State.pending, apply_dite State.pending]; done)
  | (unfold execRecordOffer; (try dsimp only); (repeat' split) <;> first | (simp [apply_ite State.pending, apply_dite State.pending, *]; done) | (simp [State.offer_pending _ _ _ _ (by assumption), *]; done) | (simp [State.take_pending _ _ _ _ (by assumption), *]; done) | ((try rw [goesOn_next]); refine (foldl_pending _ _ _ ?_).trans ?_ <;> (first | (intro s a; (repeat' split) <;> simp; done) | simp; done)) | rfl)
@[simp] theorem execSuppressed_goesOn (code : Nat) (t : Nat) (s : State) : goesOn s (execSuppressed code t s) := by
  first
  | (simp [execSuppressed, goesOn_ite, apply_ite State.pending, apply_dite State.pending]; done)
  | (unfold execSuppressed; (try dsimp only); (repeat' split) <;> first | (simp [apply_ite State.pending, apply_dite State.pending, *]; done) | (simp [State.offer_pending _ _ _ _ (by assumption), *]; done) | (simp [State.take_pending _ _ _ _ (by assumption), *]; done) | ((try rw [goesOn_next]); refine (foldl_pending _ _ _ ?_).trans ?_ <;> (first | (intro s a; (repeat' split) <;> simp; done) | simp; done)) | rfl)
@[simp] theorem execDropEpisodeEnd_goesOn (s : State) : goesOn s (execDropEpisodeEnd s) := by
  first
  | (simp [execDropEpisodeEnd, goesOn_ite, apply_ite State.pending, apply_dite State.pending]; done)
  | (unfold execDropEpisodeEnd; (try dsimp only); (repeat' split) <;> first | (simp [apply_ite State.pending, apply_dite State.pending, *]; done) | (simp [State.offer_pending _ _ _ _ (by assumption), *]; done) | (simp [State.take_pending _ _ _ _ (by assumption), *]; done) | ((try rw [goesOn_next]); refine (foldl_pending _ _ _ ?_).trans ?_ <;> (first | (intro s a; (repeat' split) <;> simp; done) | simp; done)) | rfl)

end Sys2Proof.Machine
end

