-- ==== Sys2Proof/Laws/QueueWheel.lean ====
section
/-! SUPPORT. The operations of Machine/Wheel.lean leave the queue of waiting commands alone. -/

namespace Sys2Proof.Machine

@[simp] theorem State.placeMaster_pending (s : State) (m : MPoint) : (State.placeMaster s m).pending = s.pending := by
  first
  | (simp [State.placeMaster, goesOn_ite, apply_ite State.pending, apply_dite State.pending]; done)
  | (unfold State.placeMaster; (try dsimp only); (repeat' split) <;> first | (simp [apply_ite State.pending, apply_dite State.pending, *]; done) | (simp [State.offer_pending _ _ _ _ (by assumption), *]; done) | (simp [State.take_pending _ _ _ _ (by assumption), *]; done) | ((try rw [goesOn_next]); refine (foldl_pending _ _ _ ?_).trans ?_ <;> (first | (intro s a; (repeat' split) <;> simp; done) | simp; done)) | rfl)
@[simp] theorem State.anchor_pending (s : State) : (State.anchor s).pending = s.pending := by
  first
  | (simp [State.anchor, goesOn_ite, apply_ite State.pending, apply_dite State.pending]; done)
  | (unfold State.anchor; (try dsimp only); (repeat' split) <;> first | (simp [apply_ite State.pending, apply_dite State.pending, *]; done) | (simp [State.offer_pending _ _ _ _ (by assumption), *]; done) | (simp [State.take_pending _ _ _ _ (by assumption), *]; done) | ((try rw [goesOn_next]); refine (foldl_pending _ _ _ ?_).trans ?_ <;> (first | (intro s a; (repeat' split) <;> simp; done) | simp; done)) | rfl)
@[simp] theorem State.toMst_pending (s : State) (m : Nat) : (State.toMst s m).pending = s.pending := by
  first
  | (simp [State.toMst, goesOn_ite, apply_ite State.pending, apply_dite State.pending]; done)
  | (unfold State.toMst; (try dsimp only); (repeat' split) <;> first | (simp [apply_ite State.pending, apply_dite State.pending, *]; done) | (simp [State.offer_pending _ _ _ _ (by assumption), *]; done) | (simp [State.take_pending _ _ _ _ (by assumption), *]; done) | ((try rw [goesOn_next]); refine (foldl_pending _ _ _ ?_).trans ?_ <;> (first | (intro s a; (repeat' split) <;> simp; done) | simp; done)) | rfl)
@[simp] theorem State.masterTimeStep_pending (s : State) (ms : Int) : (State.masterTimeStep s ms).pending = s.pending := by
  first
  | (simp [State.masterTimeStep, goesOn_ite, apply_ite State.pending, apply_dite State.pending]; done)
  | (unfold State.masterTimeStep; (try dsimp only); (repeat' split) <;> first | (simp [apply_ite State.pending, apply_dite State.pending, *]; done) | (simp [State.offer_pending _ _ _ _ (by assumption), *]; done) | (simp [State.take_pending _ _ _ _ (by assumption), *]; done) | ((try rw [goesOn_next]); refine (foldl_pending _ _ _ ?_).trans ?_ <;> (first | (intro s a; (repeat' split) <;> simp; done) | simp; done)) | rfl)
@[simp] theorem State.stage_pending (s : State) : (State.stage s).pending = s.pending := by
  first
  | (simp [State.stage, goesOn_ite, apply_ite State.pending, apply_dite State.pending]; done)
  | (unfold State.stage; (try dsimp only); (repeat' split) <;> first | (simp [apply_ite State.pending, apply_dite State.pending, *]; done) | (simp [State.offer_pending _ _ _ _ (by assumption), *]; done) | (simp [State.take_pending _ _ _ _ (by assumption), *]; done) | ((try rw [goesOn_next]); refine (foldl_pending _ _ _ ?_).trans ?_ <;> (first | (intro s a; (repeat' split) <;> simp; done) | simp; done)) | rfl)
@[simp] theorem State.syncW_pending (s : State) : (State.syncW s).pending = s.pending := by
  first
  | (simp [State.syncW, goesOn_ite, apply_ite State.pending, apply_dite State.pending]; done)
  | (unfold State.syncW; (try dsimp only); (repeat' split) <;> first | (simp [apply_ite State.pending, apply_dite State.pending, *]; done) | (simp [State.offer_pending _ _ _ _ (by assumption), *]; done) | (simp [State.take_pending _ _ _ _ (by assumption), *]; done) | ((try rw [goesOn_next]); refine (foldl_pending _ _ _ ?_).trans ?_ <;> (first | (intro s a; (repeat' split) <;> simp; done) | simp; done)) | rfl)
@[simp] theorem State.setDescs_pending (s : State) (ds : List WDesc) : (State.setDescs s ds).pending = s.pending := by
  first
  | (simp [State.setDescs, goesOn_ite, apply_ite State.pending, apply_dite State.pending]; done)
  | (unfold State.setDescs; (try dsimp only); (repeat' split) <;> first | (simp [apply_ite State.pending, apply_dite State.pending, *]; done) | (simp [State.offer_pending _ _ _ _ (by assumption), *]; done) | (simp [State.take_pending _ _ _ _ (by assumption), *]; done) | ((try rw [goesOn_next]); refine (foldl_pending _ _ _ ?_).trans ?_ <;> (first | (intro s a; (repeat' split) <;> simp; done) | simp; done)) | rfl)
@[simp] theorem State.advance_pending (s : State) (h : Nat) (k : Nat) : (State.advance s h k).pending = s.pending := by
  first
  | (simp [State.advance, goesOn_ite, apply_ite State.pending, apply_dite State.pending]; done)
  | (unfold State.advance; (try dsimp only); (repeat' split) <;> first | (simp [apply_ite State.pending, apply_dite State.pending, *]; done) | (simp [State.offer_pending _ _ _ _ (by assumption), *]; done) | (simp [State.take_pending _ _ _ _ (by assumption), *]; done) | ((try rw [goesOn_next]); refine (foldl_pending _ _ _ ?_).trans ?_ <;> (first | (intro s a; (repeat' split) <;> simp; done) | simp; done)) | rfl)
@[simp] theorem State.release_pending (s : State) (x : WDesc) (late : Bool) : (State.release s x late).pending = s.pending := by
  first
  | (simp [State.release, goesOn_ite, apply_ite State.pending, apply_dite State.pending]; done)
  | (unfold State.release; (try dsimp only); (repeat' split) <;> first | (simp [apply_ite State.pending, apply_dite State.pending, *]; done) | (simp [State.offer_pending _ _ _ _ (by assumption), *]; done) | (simp [State.take_pending _ _ _ _ (by assumption), *]; done) | ((try rw [goesOn_next]); refine (foldl_pending _ _ _ ?_).trans ?_ <;> (first | (intro s a; (repeat' split) <;> simp; done) | simp; done)) | rfl)
@[simp] theorem State.foutAct_pending (s : State) (o : Nat) (on : Bool) : (State.foutAct s o on).pending = s.pending := by
  first
  | (simp [State.foutAct, goesOn_ite, apply_ite State.pending, apply_dite State.pending]; done)
  | (unfold State.foutAct; (try dsimp only); (repeat' split) <;> first | (simp [apply_ite State.pending, apply_dite State.pending, *]; done) | (simp [State.offer_pending _ _ _ _ (by assumption), *]; done) | (simp [State.take_pending _ _ _ _ (by assumption), *]; done) | ((try rw [goesOn_next]); refine (foldl_pending _ _ _ ?_).trans ?_ <;> (first | (intro s a; (repeat' split) <;> simp; done) | simp; done)) | rfl)
@[simp] theorem State.setPin_pending (s : State) (n : Nat) (on : Bool) : (State.setPin s n on).pending = s.pending := by
  first
  | (simp [State.setPin, goesOn_ite, apply_ite State.pending, apply_dite State.pending]; done)
  | (unfold State.setPin; (try dsimp only); (repeat' split) <;> first | (simp [apply_ite State.pending, apply_dite State.pending, *]; done) | (simp [State.offer_pending _ _ _ _ (by assumption), *]; done) | (simp [State.take_pending _ _ _ _ (by assumption), *]; done) | ((try rw [goesOn_next]); refine (foldl_pending _ _ _ ?_).trans ?_ <;> (first | (intro s a; (repeat' split) <;> simp; done) | simp; done)) | rfl)
@[simp] theorem State.segmentGo_pending (s : State) (a : Fin 96) : (State.segmentGo s a).pending = s.pending := by
  first
  | (simp [State.segmentGo, goesOn_ite, apply_ite State.pending, apply_dite State.pending]; done)
  | (unfold State.segmentGo; (try dsimp only); (repeat' split) <;> first | (simp [apply_ite State.pending, apply_dite State.pending, *]; done) | (simp [State.offer_pending _ _ _ _ (by assumption), *]; done) | (simp [State.take_pending _ _ _ _ (by assumption), *]; done) | ((try rw [goesOn_next]); refine (foldl_pending _ _ _ ?_).trans ?_ <;> (first | (intro s a; (repeat' split) <;> simp; done) | simp; done)) | rfl)
@[simp] theorem State.act_pending (s : State) (x : WDesc) (late : Bool) : (State.act s x late).pending = s.pending := by
  first
  | (simp [State.act, goesOn_ite, apply_ite State.pending, apply_dite State.pending]; done)
  | (unfold State.act; (try dsimp only); (repeat' split) <;> first | (simp [apply_ite State.pending, apply_dite State.pending, *]; done) | (simp [State.offer_pending _ _ _ _ (by assumption), *]; done) | (simp [State.take_pending _ _ _ _ (by assumption), *]; done) | ((try rw [goesOn_next]); refine (foldl_pending _ _ _ ?_).trans ?_ <;> (first | (intro s a; (repeat' split) <;> simp; done) | simp; done)) | rfl)
@[simp] theorem State.recRelease_pending (s : State) (x : WDesc) (late : Bool) : (State.recRelease s x late).pending = s.pending := by
  first
  | (simp [State.recRelease, goesOn_ite, apply_ite State.pending, apply_dite State.pending]; done)
  | (unfold State.recRelease; (try dsimp only); (repeat' split) <;> first | (simp [apply_ite State.pending, apply_dite State.pending, *]; done) | (simp [State.offer_pending _ _ _ _ (by assumption), *]; done) | (simp [State.take_pending _ _ _ _ (by assumption), *]; done) | ((try rw [goesOn_next]); refine (foldl_pending _ _ _ ?_).trans ?_ <;> (first | (intro s a; (repeat' split) <;> simp; done) | simp; done)) | rfl)
@[simp] theorem State.fireDesc_pending (s : State) (x : WDesc) (late : Bool) : (State.fireDesc s x late).pending = s.pending := by
  first
  | (simp [State.fireDesc, goesOn_ite, apply_ite State.pending, apply_dite State.pending]; done)
  | (unfold State.fireDesc; (try dsimp only); (repeat' split) <;> first | (simp [apply_ite State.pending, apply_dite State.pending, *]; done) | (simp [State.offer_pending _ _ _ _ (by assumption), *]; done) | (simp [State.take_pending _ _ _ _ (by assumption), *]; done) | ((try rw [goesOn_next]); refine (foldl_pending _ _ _ ?_).trans ?_ <;> (first | (intro s a; (repeat' split) <;> simp; done) | simp; done)) | rfl)
@[simp] theorem State.fireAll_pending (s : State) (late : Bool) (x0 : List WDesc) : (State.fireAll s late x0).pending = s.pending := by
  induction x0 generalizing s late with
  | nil => rfl
  | cons x xs ih => (unfold State.fireAll; (try dsimp only); (repeat' split) <;> first | (simp [apply_ite State.pending, apply_dite State.pending, ih, *]; done) | (simp [State.offer_pending _ _ _ _ (by assumption), ih, *]; done) | (simp [State.take_pending _ _ _ _ (by assumption), ih, *]; done) | ((try rw [goesOn_next]); refine (foldl_pending _ _ _ ?_).trans ?_ <;> (first | (intro s a; (repeat' split) <;> simp; done) | simp; done)) | rfl)
@[simp] theorem State.endPinPulses_pending (s : State) (pin : Nat) : (State.endPinPulses s pin).pending = s.pending := by
  first
  | (simp [State.endPinPulses, goesOn_ite, apply_ite State.pending, apply_dite State.pending]; done)
  | (unfold State.endPinPulses; (try dsimp only); (repeat' split) <;> first | (simp [apply_ite State.pending, apply_dite State.pending, *]; done) | (simp [State.offer_pending _ _ _ _ (by assumption), *]; done) | (simp [State.take_pending _ _ _ _ (by assumption), *]; done) | ((try rw [goesOn_next]); refine (foldl_pending _ _ _ ?_).trans ?_ <;> (first | (intro s a; (repeat' split) <;> simp; done) | simp; done)) | rfl)
@[simp] theorem State.endFoutPulses_pending (s : State) (o : Nat) : (State.endFoutPulses s o).pending = s.pending := by
  first
  | (simp [State.endFoutPulses, goesOn_ite, apply_ite State.pending, apply_dite State.pending]; done)
  | (unfold State.endFoutPulses; (try dsimp only); (repeat' split) <;> first | (simp [apply_ite State.pending, apply_dite State.pending, *]; done) | (simp [State.offer_pending _ _ _ _ (by assumption), *]; done) | (simp [State.take_pending _ _ _ _ (by assumption), *]; done) | ((try rw [goesOn_next]); refine (foldl_pending _ _ _ ?_).trans ?_ <;> (first | (intro s a; (repeat' split) <;> simp; done) | simp; done)) | rfl)
@[simp] theorem State.fireDue_pending (s : State) (x : WDesc) : (State.fireDue s x).pending = s.pending := by
  first
  | (simp [State.fireDue, goesOn_ite, apply_ite State.pending, apply_dite State.pending]; done)
  | (unfold State.fireDue; (try dsimp only); (repeat' split) <;> first | (simp [apply_ite State.pending, apply_dite State.pending, *]; done) | (simp [State.offer_pending _ _ _ _ (by assumption), *]; done) | (simp [State.take_pending _ _ _ _ (by assumption), *]; done) | ((try rw [goesOn_next]); refine (foldl_pending _ _ _ ?_).trans ?_ <;> (first | (intro s a; (repeat' split) <;> simp; done) | simp; done)) | rfl)
@[simp] theorem State.fire_pending (s : State) (h : Nat) (action : Nat) : (State.fire s h action).pending = s.pending := by
  first
  | (simp [State.fire, goesOn_ite, apply_ite State.pending, apply_dite State.pending]; done)
  | (unfold State.fire; (try dsimp only); (repeat' split) <;> first | (simp [apply_ite State.pending, apply_dite State.pending, *]; done) | (simp [State.offer_pending _ _ _ _ (by assumption), *]; done) | (simp [State.take_pending _ _ _ _ (by assumption), *]; done) | ((try rw [goesOn_next]); refine (foldl_pending _ _ _ ?_).trans ?_ <;> (first | (intro s a; (repeat' split) <;> simp; done) | simp; done)) | rfl)
@[simp] theorem State.foutRefresh_pending (s : State) (die : Fin 2) : (State.foutRefresh s die).pending = s.pending := by
  first
  | (simp [State.foutRefresh, goesOn_ite, apply_ite State.pending, apply_dite State.pending]; done)
  | (unfold State.foutRefresh; (try dsimp only); (repeat' split) <;> first | (simp [apply_ite State.pending, apply_dite State.pending, *]; done) | (simp [State.offer_pending _ _ _ _ (by assumption), *]; done) | (simp [State.take_pending _ _ _ _ (by assumption), *]; done) | ((try rw [goesOn_next]); refine (foldl_pending _ _ _ ?_).trans ?_ <;> (first | (intro s a; (repeat' split) <;> simp; done) | simp; done)) | rfl)
@[simp] theorem State.storeDesc_pending (s : State) (d : Descriptor) : (State.storeDesc s d).1.pending = s.pending := by
  first
  | (simp [State.storeDesc, goesOn_ite, apply_ite State.pending, apply_dite State.pending]; done)
  | (unfold State.storeDesc; (try dsimp only); (repeat' split) <;> first | (simp [apply_ite State.pending, apply_dite State.pending, *]; done) | (simp [State.offer_pending _ _ _ _ (by assumption), *]; done) | (simp [State.take_pending _ _ _ _ (by assumption), *]; done) | ((try rw [goesOn_next]); refine (foldl_pending _ _ _ ?_).trans ?_ <;> (first | (intro s a; (repeat' split) <;> simp; done) | simp; done)) | rfl)
@[simp] theorem State.insert_pending (s : State) (core : Bool) (d : Descriptor) : (State.insert s core d).1.pending = s.pending := by
  first
  | (simp [State.insert, goesOn_ite, apply_ite State.pending, apply_dite State.pending]; done)
  | (unfold State.insert; (try dsimp only); (repeat' split) <;> first | (simp [apply_ite State.pending, apply_dite State.pending, *]; done) | (simp [State.offer_pending _ _ _ _ (by assumption), *]; done) | (simp [State.take_pending _ _ _ _ (by assumption), *]; done) | ((try rw [goesOn_next]); refine (foldl_pending _ _ _ ?_).trans ?_ <;> (first | (intro s a; (repeat' split) <;> simp; done) | simp; done)) | rfl)
@[simp] theorem State.cancel_pending (s : State) (h : Nat) : (State.cancel s h).1.pending = s.pending := by
  first
  | (simp [State.cancel, goesOn_ite, apply_ite State.pending, apply_dite State.pending]; done)
  | (unfold State.cancel; (try dsimp only); (repeat' split) <;> first | (simp [apply_ite State.pending, apply_dite State.pending, *]; done) | (simp [State.offer_pending _ _ _ _ (by assumption), *]; done) | (simp [State.take_pending _ _ _ _ (by assumption), *]; done) | ((try rw [goesOn_next]); refine (foldl_pending _ _ _ ?_).trans ?_ <;> (first | (intro s a; (repeat' split) <;> simp; done) | simp; done)) | rfl)
@[simp] theorem State.placeInit_pending (s : State) (x0 : List Descriptor) : (State.placeInit s x0).pending = s.pending := by
  induction x0 generalizing s with
  | nil => rfl
  | cons x xs ih => (unfold State.placeInit; (try dsimp only); (repeat' split) <;> first | (simp [apply_ite State.pending, apply_dite State.pending, ih, *]; done) | (simp [State.offer_pending _ _ _ _ (by assumption), ih, *]; done) | (simp [State.take_pending _ _ _ _ (by assumption), ih, *]; done) | ((try rw [goesOn_next]); refine (foldl_pending _ _ _ ?_).trans ?_ <;> (first | (intro s a; (repeat' split) <;> simp; done) | simp; done)) | rfl)
@[simp] theorem State.masterLost_pending (s : State) (port : Nat) : (State.masterLost s port).pending = s.pending := by
  first
  | (simp [State.masterLost, goesOn_ite, apply_ite State.pending, apply_dite State.pending]; done)
  | (unfold State.masterLost; (try dsimp only); (repeat' split) <;> first | (simp [apply_ite State.pending, apply_dite State.pending, *]; done) | (simp [State.offer_pending _ _ _ _ (by assumption), *]; done) | (simp [State.take_pending _ _ _ _ (by assumption), *]; done) | ((try rw [goesOn_next]); refine (foldl_pending _ _ _ ?_).trans ?_ <;> (first | (intro s a; (repeat' split) <;> simp; done) | simp; done)) | rfl)
@[simp] theorem State.firstRef_pending (s : State) (port : Nat) : (State.firstRef s port).pending = s.pending := by
  first
  | (simp [State.firstRef, goesOn_ite, apply_ite State.pending, apply_dite State.pending]; done)
  | (unfold State.firstRef; (try dsimp only); (repeat' split) <;> first | (simp [apply_ite State.pending, apply_dite State.pending, *]; done) | (simp [State.offer_pending _ _ _ _ (by assumption), *]; done) | (simp [State.take_pending _ _ _ _ (by assumption), *]; done) | ((try rw [goesOn_next]); refine (foldl_pending _ _ _ ?_).trans ?_ <;> (first | (intro s a; (repeat' split) <;> simp; done) | simp; done)) | rfl)
@[simp] theorem State.placeW_pending (s : State) (m : Nat) : (State.placeW s m).pending = s.pending := by
  first
  | (simp [State.placeW, goesOn_ite, apply_ite State.pending, apply_dite State.pending]; done)
  | (unfold State.placeW; (try dsimp only); (repeat' split) <;> first | (simp [apply_ite State.pending, apply_dite State.pending, *]; done) | (simp [State.offer_pending _ _ _ _ (by assumption), *]; done) | (simp [State.take_pending _ _ _ _ (by assumption), *]; done) | ((try rw [goesOn_next]); refine (foldl_pending _ _ _ ?_).trans ?_ <;> (first | (intro s a; (repeat' split) <;> simp; done) | simp; done)) | rfl)
@[simp] theorem State.skipPassed_pending (s : State) (w0 : Nat) (m : Nat) : (State.skipPassed s w0 m).pending = s.pending := by
  first
  | (simp [State.skipPassed, goesOn_ite, apply_ite State.pending, apply_dite State.pending]; done)
  | (unfold State.skipPassed; (try dsimp only); (repeat' split) <;> first | (simp [apply_ite State.pending, apply_dite State.pending, *]; done) | (simp [State.offer_pending _ _ _ _ (by assumption), *]; done) | (simp [State.take_pending _ _ _ _ (by assumption), *]; done) | ((try rw [goesOn_next]); refine (foldl_pending _ _ _ ?_).trans ?_ <;> (first | (intro s a; (repeat' split) <;> simp; done) | simp; done)) | rfl)
@[simp] theorem State.jumpFrom_pending (s : State) (w0 : Nat) (m : Nat) : (State.jumpFrom s w0 m).pending = s.pending := by
  first
  | (simp [State.jumpFrom, goesOn_ite, apply_ite State.pending, apply_dite State.pending]; done)
  | (unfold State.jumpFrom; (try dsimp only); (repeat' split) <;> first | (simp [apply_ite State.pending, apply_dite State.pending, *]; done) | (simp [State.offer_pending _ _ _ _ (by assumption), *]; done) | (simp [State.take_pending _ _ _ _ (by assumption), *]; done) | ((try rw [goesOn_next]); refine (foldl_pending _ _ _ ?_).trans ?_ <;> (first | (intro s a; (repeat' split) <;> simp; done) | simp; done)) | rfl)
@[simp] theorem State.jumpW_pending (s : State) (m : Nat) : (State.jumpW s m).pending = s.pending := by
  first
  | (simp [State.jumpW, goesOn_ite, apply_ite State.pending, apply_dite State.pending]; done)
  | (unfold State.jumpW; (try dsimp only); (repeat' split) <;> first | (simp [apply_ite State.pending, apply_dite State.pending, *]; done) | (simp [State.offer_pending _ _ _ _ (by assumption), *]; done) | (simp [State.take_pending _ _ _ _ (by assumption), *]; done) | ((try rw [goesOn_next]); refine (foldl_pending _ _ _ ?_).trans ?_ <;> (first | (intro s a; (repeat' split) <;> simp; done) | simp; done)) | rfl)
@[simp] theorem State.lockAt_pending (s : State) (p : Int) (spd : Int) : (State.lockAt s p spd).pending = s.pending := by
  first
  | (simp [State.lockAt, goesOn_ite, apply_ite State.pending, apply_dite State.pending]; done)
  | (unfold State.lockAt; (try dsimp only); (repeat' split) <;> first | (simp [apply_ite State.pending, apply_dite State.pending, *]; done) | (simp [State.offer_pending _ _ _ _ (by assumption), *]; done) | (simp [State.take_pending _ _ _ _ (by assumption), *]; done) | ((try rw [goesOn_next]); refine (foldl_pending _ _ _ ?_).trans ?_ <;> (first | (intro s a; (repeat' split) <;> simp; done) | simp; done)) | rfl)
@[simp] theorem State.referTo_pending (s : State) (m : Nat) (off : Int) : (State.referTo s m off).pending = s.pending := by
  first
  | (simp [State.referTo, goesOn_ite, apply_ite State.pending, apply_dite State.pending]; done)
  | (unfold State.referTo; (try dsimp only); (repeat' split) <;> first | (simp [apply_ite State.pending, apply_dite State.pending, *]; done) | (simp [State.offer_pending _ _ _ _ (by assumption), *]; done) | (simp [State.take_pending _ _ _ _ (by assumption), *]; done) | ((try rw [goesOn_next]); refine (foldl_pending _ _ _ ?_).trans ?_ <;> (first | (intro s a; (repeat' split) <;> simp; done) | simp; done)) | rfl)
@[simp] theorem State.moveCount_pending (s : State) (port : Nat) (g : State → State) (h : ∀ s, (g s).pending = s.pending) :
    (State.moveCount s port g).pending = s.pending := by
  simp [State.moveCount, h, apply_ite State.pending]
@[simp] theorem State.followCount_pending (s : State) (port : Nat) (g : State → State) (h : ∀ s, (g s).pending = s.pending) :
    (State.followCount s port g).pending = s.pending := by
  simp [State.followCount, h, apply_ite State.pending]
@[simp] theorem State.resumeWheel_pending (s : State) : (State.resumeWheel s).pending = s.pending := by
  first
  | (simp [State.resumeWheel, goesOn_ite, apply_ite State.pending, apply_dite State.pending]; done)
  | (unfold State.resumeWheel; (try dsimp only); (repeat' split) <;> first | (simp [apply_ite State.pending, apply_dite State.pending, *]; done) | (simp [State.offer_pending _ _ _ _ (by assumption), *]; done) | (simp [State.take_pending _ _ _ _ (by assumption), *]; done) | ((try rw [goesOn_next]); refine (foldl_pending _ _ _ ?_).trans ?_ <;> (first | (intro s a; (repeat' split) <;> simp; done) | simp; done)) | rfl)
@[simp] theorem State.repull_pending (s : State) : (State.repull s).pending = s.pending := by
  first
  | (simp [State.repull, goesOn_ite, apply_ite State.pending, apply_dite State.pending]; done)
  | (unfold State.repull; (try dsimp only); (repeat' split) <;> first | (simp [apply_ite State.pending, apply_dite State.pending, *]; done) | (simp [State.offer_pending _ _ _ _ (by assumption), *]; done) | (simp [State.take_pending _ _ _ _ (by assumption), *]; done) | ((try rw [goesOn_next]); refine (foldl_pending _ _ _ ?_).trans ?_ <;> (first | (intro s a; (repeat' split) <;> simp; done) | simp; done)) | rfl)
@[simp] theorem execWheelVspdWrite_goesOn (w : Fin 2) (value : Word) (s : State) : goesOn s (execWheelVspdWrite w value s) := by
  first
  | (simp [execWheelVspdWrite, goesOn_ite, apply_ite State.pending, apply_dite State.pending]; done)
  | (unfold execWheelVspdWrite; (try dsimp only); (repeat' split) <;> first | (simp [apply_ite State.pending, apply_dite State.pending, *]; done) | (simp [State.offer_pending _ _ _ _ (by assumption), *]; done) | (simp [State.take_pending _ _ _ _ (by assumption), *]; done) | ((try rw [goesOn_next]); refine (foldl_pending _ _ _ ?_).trans ?_ <;> (first | (intro s a; (repeat' split) <;> simp; done) | simp; done)) | rfl)
@[simp] theorem execWheelVaccWrite_goesOn (value : Word) (s : State) : goesOn s (execWheelVaccWrite value s) := by
  first
  | (simp [execWheelVaccWrite, goesOn_ite, apply_ite State.pending, apply_dite State.pending]; done)
  | (unfold execWheelVaccWrite; (try dsimp only); (repeat' split) <;> first | (simp [apply_ite State.pending, apply_dite State.pending, *]; done) | (simp [State.offer_pending _ _ _ _ (by assumption), *]; done) | (simp [State.take_pending _ _ _ _ (by assumption), *]; done) | ((try rw [goesOn_next]); refine (foldl_pending _ _ _ ?_).trans ?_ <;> (first | (intro s a; (repeat' split) <;> simp; done) | simp; done)) | rfl)
@[simp] theorem execWheelPhaseWrite_goesOn (value : Word) (s : State) : goesOn s (execWheelPhaseWrite value s) := by
  first
  | (simp [execWheelPhaseWrite, goesOn_ite, apply_ite State.pending, apply_dite State.pending]; done)
  | (unfold execWheelPhaseWrite; (try dsimp only); (repeat' split) <;> first | (simp [apply_ite State.pending, apply_dite State.pending, *]; done) | (simp [State.offer_pending _ _ _ _ (by assumption), *]; done) | (simp [State.take_pending _ _ _ _ (by assumption), *]; done) | ((try rw [goesOn_next]); refine (foldl_pending _ _ _ ?_).trans ?_ <;> (first | (intro s a; (repeat' split) <;> simp; done) | simp; done)) | rfl)
@[simp] theorem execMasterLock_goesOn (s : State) : goesOn s (execMasterLock s) := by
  first
  | (simp [execMasterLock, goesOn_ite, apply_ite State.pending, apply_dite State.pending]; done)
  | (unfold execMasterLock; (try dsimp only); (repeat' split) <;> first | (simp [apply_ite State.pending, apply_dite State.pending, *]; done) | (simp [State.offer_pending _ _ _ _ (by assumption), *]; done) | (simp [State.take_pending _ _ _ _ (by assumption), *]; done) | ((try rw [goesOn_next]); refine (foldl_pending _ _ _ ?_).trans ?_ <;> (first | (intro s a; (repeat' split) <;> simp; done) | simp; done)) | rfl)
@[simp] theorem execMasterUnlock_goesOn (s : State) : goesOn s (execMasterUnlock s) := by
  first
  | (simp [execMasterUnlock, goesOn_ite, apply_ite State.pending, apply_dite State.pending]; done)
  | (unfold execMasterUnlock; (try dsimp only); (repeat' split) <;> first | (simp [apply_ite State.pending, apply_dite State.pending, *]; done) | (simp [State.offer_pending _ _ _ _ (by assumption), *]; done) | (simp [State.take_pending _ _ _ _ (by assumption), *]; done) | ((try rw [goesOn_next]); refine (foldl_pending _ _ _ ?_).trans ?_ <;> (first | (intro s a; (repeat' split) <;> simp; done) | simp; done)) | rfl)
@[simp] theorem execMasterLocked_goesOn (t : Nat) (s : State) : goesOn s (execMasterLocked t s) := by
  first
  | (simp [execMasterLocked, goesOn_ite, apply_ite State.pending, apply_dite State.pending]; done)
  | (unfold execMasterLocked; (try dsimp only); (repeat' split) <;> first | (simp [apply_ite State.pending, apply_dite State.pending, *]; done) | (simp [State.offer_pending _ _ _ _ (by assumption), *]; done) | (simp [State.take_pending _ _ _ _ (by assumption), *]; done) | ((try rw [goesOn_next]); refine (foldl_pending _ _ _ ?_).trans ?_ <;> (first | (intro s a; (repeat' split) <;> simp; done) | simp; done)) | rfl)
@[simp] theorem execMasterResume_goesOn (s : State) : goesOn s (execMasterResume s) := by
  first
  | (simp [execMasterResume, goesOn_ite, apply_ite State.pending, apply_dite State.pending]; done)
  | (unfold execMasterResume; (try dsimp only); (repeat' split) <;> first | (simp [apply_ite State.pending, apply_dite State.pending, *]; done) | (simp [State.offer_pending _ _ _ _ (by assumption), *]; done) | (simp [State.take_pending _ _ _ _ (by assumption), *]; done) | ((try rw [goesOn_next]); refine (foldl_pending _ _ _ ?_).trans ?_ <;> (first | (intro s a; (repeat' split) <;> simp; done) | simp; done)) | rfl)
@[simp] theorem execMasterOverspeed_goesOn (t : Nat) (s : State) : goesOn s (execMasterOverspeed t s) := by
  first
  | (simp [execMasterOverspeed, goesOn_ite, apply_ite State.pending, apply_dite State.pending]; done)
  | (unfold execMasterOverspeed; (try dsimp only); (repeat' split) <;> first | (simp [apply_ite State.pending, apply_dite State.pending, *]; done) | (simp [State.offer_pending _ _ _ _ (by assumption), *]; done) | (simp [State.take_pending _ _ _ _ (by assumption), *]; done) | ((try rw [goesOn_next]); refine (foldl_pending _ _ _ ?_).trans ?_ <;> (first | (intro s a; (repeat' split) <;> simp; done) | simp; done)) | rfl)
@[simp] theorem State.armAll_pending (s : State) : (State.armAll s).pending = s.pending := by
  first
  | (simp [State.armAll, goesOn_ite, apply_ite State.pending, apply_dite State.pending]; done)
  | (unfold State.armAll; (try dsimp only); (repeat' split) <;> first | (simp [apply_ite State.pending, apply_dite State.pending, *]; done) | (simp [State.offer_pending _ _ _ _ (by assumption), *]; done) | (simp [State.take_pending _ _ _ _ (by assumption), *]; done) | ((try rw [goesOn_next]); refine (foldl_pending _ _ _ ?_).trans ?_ <;> (first | (intro s a; (repeat' split) <;> simp; done) | simp; done)) | rfl)
@[simp] theorem execWheelReversal_goesOn (t : Nat) (s : State) : goesOn s (execWheelReversal t s) := by
  first
  | (simp [execWheelReversal, goesOn_ite, apply_ite State.pending, apply_dite State.pending]; done)
  | (unfold execWheelReversal; (try dsimp only); (repeat' split) <;> first | (simp [apply_ite State.pending, apply_dite State.pending, *]; done) | (simp [State.offer_pending _ _ _ _ (by assumption), *]; done) | (simp [State.take_pending _ _ _ _ (by assumption), *]; done) | ((try rw [goesOn_next]); refine (foldl_pending _ _ _ ?_).trans ?_ <;> (first | (intro s a; (repeat' split) <;> simp; done) | simp; done)) | rfl)
@[simp] theorem execSlotStage_goesOn (t : Nat) (s : State) : goesOn s (execSlotStage t s) := by
  first
  | (simp [execSlotStage, goesOn_ite, apply_ite State.pending, apply_dite State.pending]; done)
  | (unfold execSlotStage; (try dsimp only); (repeat' split) <;> first | (simp [apply_ite State.pending, apply_dite State.pending, *]; done) | (simp [State.offer_pending _ _ _ _ (by assumption), *]; done) | (simp [State.take_pending _ _ _ _ (by assumption), *]; done) | ((try rw [goesOn_next]); refine (foldl_pending _ _ _ ?_).trans ?_ <;> (first | (intro s a; (repeat' split) <;> simp; done) | simp; done)) | rfl)
@[simp] theorem execPinSet_goesOn (handle : Nat) (t : Nat) (s : State) : goesOn s (execPinSet handle t s) := by
  first
  | (simp [execPinSet, goesOn_ite, apply_ite State.pending, apply_dite State.pending]; done)
  | (unfold execPinSet; (try dsimp only); (repeat' split) <;> first | (simp [apply_ite State.pending, apply_dite State.pending, *]; done) | (simp [State.offer_pending _ _ _ _ (by assumption), *]; done) | (simp [State.take_pending _ _ _ _ (by assumption), *]; done) | ((try rw [goesOn_next]); refine (foldl_pending _ _ _ ?_).trans ?_ <;> (first | (intro s a; (repeat' split) <;> simp; done) | simp; done)) | rfl)
@[simp] theorem execPinClear_goesOn (handle : Nat) (t : Nat) (s : State) : goesOn s (execPinClear handle t s) := by
  first
  | (simp [execPinClear, goesOn_ite, apply_ite State.pending, apply_dite State.pending]; done)
  | (unfold execPinClear; (try dsimp only); (repeat' split) <;> first | (simp [apply_ite State.pending, apply_dite State.pending, *]; done) | (simp [State.offer_pending _ _ _ _ (by assumption), *]; done) | (simp [State.take_pending _ _ _ _ (by assumption), *]; done) | ((try rw [goesOn_next]); refine (foldl_pending _ _ _ ?_).trans ?_ <;> (first | (intro s a; (repeat' split) <;> simp; done) | simp; done)) | rfl)
@[simp] theorem execPinPulse_goesOn (handle : Nat) (t : Nat) (s : State) : goesOn s (execPinPulse handle t s) := by
  first
  | (simp [execPinPulse, goesOn_ite, apply_ite State.pending, apply_dite State.pending]; done)
  | (unfold execPinPulse; (try dsimp only); (repeat' split) <;> first | (simp [apply_ite State.pending, apply_dite State.pending, *]; done) | (simp [State.offer_pending _ _ _ _ (by assumption), *]; done) | (simp [State.take_pending _ _ _ _ (by assumption), *]; done) | ((try rw [goesOn_next]); refine (foldl_pending _ _ _ ?_).trans ?_ <;> (first | (intro s a; (repeat' split) <;> simp; done) | simp; done)) | rfl)
@[simp] theorem execFoutSet_goesOn (handle : Nat) (t : Nat) (s : State) : goesOn s (execFoutSet handle t s) := by
  first
  | (simp [execFoutSet, goesOn_ite, apply_ite State.pending, apply_dite State.pending]; done)
  | (unfold execFoutSet; (try dsimp only); (repeat' split) <;> first | (simp [apply_ite State.pending, apply_dite State.pending, *]; done) | (simp [State.offer_pending _ _ _ _ (by assumption), *]; done) | (simp [State.take_pending _ _ _ _ (by assumption), *]; done) | ((try rw [goesOn_next]); refine (foldl_pending _ _ _ ?_).trans ?_ <;> (first | (intro s a; (repeat' split) <;> simp; done) | simp; done)) | rfl)
@[simp] theorem execFoutClear_goesOn (handle : Nat) (t : Nat) (s : State) : goesOn s (execFoutClear handle t s) := by
  first
  | (simp [execFoutClear, goesOn_ite, apply_ite State.pending, apply_dite State.pending]; done)
  | (unfold execFoutClear; (try dsimp only); (repeat' split) <;> first | (simp [apply_ite State.pending, apply_dite State.pending, *]; done) | (simp [State.offer_pending _ _ _ _ (by assumption), *]; done) | (simp [State.take_pending _ _ _ _ (by assumption), *]; done) | ((try rw [goesOn_next]); refine (foldl_pending _ _ _ ?_).trans ?_ <;> (first | (intro s a; (repeat' split) <;> simp; done) | simp; done)) | rfl)
@[simp] theorem execFoutPulse_goesOn (handle : Nat) (t : Nat) (s : State) : goesOn s (execFoutPulse handle t s) := by
  first
  | (simp [execFoutPulse, goesOn_ite, apply_ite State.pending, apply_dite State.pending]; done)
  | (unfold execFoutPulse; (try dsimp only); (repeat' split) <;> first | (simp [apply_ite State.pending, apply_dite State.pending, *]; done) | (simp [State.offer_pending _ _ _ _ (by assumption), *]; done) | (simp [State.take_pending _ _ _ _ (by assumption), *]; done) | ((try rw [goesOn_next]); refine (foldl_pending _ _ _ ?_).trans ?_ <;> (first | (intro s a; (repeat' split) <;> simp; done) | simp; done)) | rfl)
@[simp] theorem execDispatch_goesOn (handle : Nat) (t : Nat) (s : State) : goesOn s (execDispatch handle t s) := by
  first
  | (simp [execDispatch, goesOn_ite, apply_ite State.pending, apply_dite State.pending]; done)
  | (unfold execDispatch; (try dsimp only); (repeat' split) <;> first | (simp [apply_ite State.pending, apply_dite State.pending, *]; done) | (simp [State.offer_pending _ _ _ _ (by assumption), *]; done) | (simp [State.take_pending _ _ _ _ (by assumption), *]; done) | ((try rw [goesOn_next]); refine (foldl_pending _ _ _ ?_).trans ?_ <;> (first | (intro s a; (repeat' split) <;> simp; done) | simp; done)) | rfl)
@[simp] theorem execSegmentGo_goesOn (handle : Nat) (t : Nat) (s : State) : goesOn s (execSegmentGo handle t s) := by
  first
  | (simp [execSegmentGo, goesOn_ite, apply_ite State.pending, apply_dite State.pending]; done)
  | (unfold execSegmentGo; (try dsimp only); (repeat' split) <;> first | (simp [apply_ite State.pending, apply_dite State.pending, *]; done) | (simp [State.offer_pending _ _ _ _ (by assumption), *]; done) | (simp [State.take_pending _ _ _ _ (by assumption), *]; done) | ((try rw [goesOn_next]); refine (foldl_pending _ _ _ ?_).trans ?_ <;> (first | (intro s a; (repeat' split) <;> simp; done) | simp; done)) | rfl)
@[simp] theorem execAcqTrig_goesOn (handle : Nat) (t : Nat) (s : State) : goesOn s (execAcqTrig handle t s) := by
  first
  | (simp [execAcqTrig, goesOn_ite, apply_ite State.pending, apply_dite State.pending]; done)
  | (unfold execAcqTrig; (try dsimp only); (repeat' split) <;> first | (simp [apply_ite State.pending, apply_dite State.pending, *]; done) | (simp [State.offer_pending _ _ _ _ (by assumption), *]; done) | (simp [State.take_pending _ _ _ _ (by assumption), *]; done) | ((try rw [goesOn_next]); refine (foldl_pending _ _ _ ?_).trans ?_ <;> (first | (intro s a; (repeat' split) <;> simp; done) | simp; done)) | rfl)
@[simp] theorem execLatchArm_goesOn (handle : Nat) (t : Nat) (s : State) : goesOn s (execLatchArm handle t s) := by
  first
  | (simp [execLatchArm, goesOn_ite, apply_ite State.pending, apply_dite State.pending]; done)
  | (unfold execLatchArm; (try dsimp only); (repeat' split) <;> first | (simp [apply_ite State.pending, apply_dite State.pending, *]; done) | (simp [State.offer_pending _ _ _ _ (by assumption), *]; done) | (simp [State.take_pending _ _ _ _ (by assumption), *]; done) | ((try rw [goesOn_next]); refine (foldl_pending _ _ _ ?_).trans ?_ <;> (first | (intro s a; (repeat' split) <;> simp; done) | simp; done)) | rfl)
@[simp] theorem execPinPulseEnd_goesOn (pin : Fin 16) (t : Nat) (s : State) : goesOn s (execPinPulseEnd pin t s) := by
  first
  | (simp [execPinPulseEnd, goesOn_ite, apply_ite State.pending, apply_dite State.pending]; done)
  | (unfold execPinPulseEnd; (try dsimp only); (repeat' split) <;> first | (simp [apply_ite State.pending, apply_dite State.pending, *]; done) | (simp [State.offer_pending _ _ _ _ (by assumption), *]; done) | (simp [State.take_pending _ _ _ _ (by assumption), *]; done) | ((try rw [goesOn_next]); refine (foldl_pending _ _ _ ?_).trans ?_ <;> (first | (intro s a; (repeat' split) <;> simp; done) | simp; done)) | rfl)
@[simp] theorem execFoutPulseEnd_goesOn (out : Fin 32) (t : Nat) (s : State) : goesOn s (execFoutPulseEnd out t s) := by
  first
  | (simp [execFoutPulseEnd, goesOn_ite, apply_ite State.pending, apply_dite State.pending]; done)
  | (unfold execFoutPulseEnd; (try dsimp only); (repeat' split) <;> first | (simp [apply_ite State.pending, apply_dite State.pending, *]; done) | (simp [State.offer_pending _ _ _ _ (by assumption), *]; done) | (simp [State.take_pending _ _ _ _ (by assumption), *]; done) | ((try rw [goesOn_next]); refine (foldl_pending _ _ _ ?_).trans ?_ <;> (first | (intro s a; (repeat' split) <;> simp; done) | simp; done)) | rfl)
@[simp] theorem execLatchWindowEnd_goesOn (lt : Fin 8) (t : Nat) (s : State) : goesOn s (execLatchWindowEnd lt t s) := by
  first
  | (simp [execLatchWindowEnd, goesOn_ite, apply_ite State.pending, apply_dite State.pending]; done)
  | (unfold execLatchWindowEnd; (try dsimp only); (repeat' split) <;> first | (simp [apply_ite State.pending, apply_dite State.pending, *]; done) | (simp [State.offer_pending _ _ _ _ (by assumption), *]; done) | (simp [State.take_pending _ _ _ _ (by assumption), *]; done) | ((try rw [goesOn_next]); refine (foldl_pending _ _ _ ?_).trans ?_ <;> (first | (intro s a; (repeat' split) <;> simp; done) | simp; done)) | rfl)
@[simp] theorem execLatchEdge_goesOn (lt : Fin 8) (rising : Bool) (width : Nat) (t : Nat) (s : State) : goesOn s (execLatchEdge lt rising width t s) := by
  first
  | (simp [execLatchEdge, goesOn_ite, apply_ite State.pending, apply_dite State.pending]; done)
  | (unfold execLatchEdge; (try dsimp only); (repeat' split) <;> first | (simp [apply_ite State.pending, apply_dite State.pending, *]; done) | (simp [State.offer_pending _ _ _ _ (by assumption), *]; done) | (simp [State.take_pending _ _ _ _ (by assumption), *]; done) | ((try rw [goesOn_next]); refine (foldl_pending _ _ _ ?_).trans ?_ <;> (first | (intro s a; (repeat' split) <;> simp; done) | simp; done)) | rfl)
@[simp] theorem execLatchRead_goesOn (lt : Fin 8) (s : State) : goesOn s (execLatchRead lt s) := by
  first
  | (simp [execLatchRead, goesOn_ite, apply_ite State.pending, apply_dite State.pending]; done)
  | (unfold execLatchRead; (try dsimp only); (repeat' split) <;> first | (simp [apply_ite State.pending, apply_dite State.pending, *]; done) | (simp [State.offer_pending _ _ _ _ (by assumption), *]; done) | (simp [State.take_pending _ _ _ _ (by assumption), *]; done) | ((try rw [goesOn_next]); refine (foldl_pending _ _ _ ?_).trans ?_ <;> (first | (intro s a; (repeat' split) <;> simp; done) | simp; done)) | rfl)
@[simp] theorem execMasterAngleRead_goesOn (s : State) : goesOn s (execMasterAngleRead s) := by
  first
  | (simp [execMasterAngleRead, goesOn_ite, apply_ite State.pending, apply_dite State.pending]; done)
  | (unfold execMasterAngleRead; (try dsimp only); (repeat' split) <;> first | (simp [apply_ite State.pending, apply_dite State.pending, *]; done) | (simp [State.offer_pending _ _ _ _ (by assumption), *]; done) | (simp [State.take_pending _ _ _ _ (by assumption), *]; done) | ((try rw [goesOn_next]); refine (foldl_pending _ _ _ ?_).trans ?_ <;> (first | (intro s a; (repeat' split) <;> simp; done) | simp; done)) | rfl)
@[simp] theorem execWheelInsert_goesOn (s : State) : goesOn s (execWheelInsert s) := by
  first
  | (simp [execWheelInsert, goesOn_ite, apply_ite State.pending, apply_dite State.pending]; done)
  | (unfold execWheelInsert; (try dsimp only); (repeat' split) <;> first | (simp [apply_ite State.pending, apply_dite State.pending, *]; done) | (simp [State.offer_pending _ _ _ _ (by assumption), *]; done) | (simp [State.take_pending _ _ _ _ (by assumption), *]; done) | ((try rw [goesOn_next]); refine (foldl_pending _ _ _ ?_).trans ?_ <;> (first | (intro s a; (repeat' split) <;> simp; done) | simp; done)) | rfl)
@[simp] theorem execWheelCancel_goesOn (handle : Nat) (s : State) : goesOn s (execWheelCancel handle s) := by
  first
  | (simp [execWheelCancel, goesOn_ite, apply_ite State.pending, apply_dite State.pending]; done)
  | (unfold execWheelCancel; (try dsimp only); (repeat' split) <;> first | (simp [apply_ite State.pending, apply_dite State.pending, *]; done) | (simp [State.offer_pending _ _ _ _ (by assumption), *]; done) | (simp [State.take_pending _ _ _ _ (by assumption), *]; done) | ((try rw [goesOn_next]); refine (foldl_pending _ _ _ ?_).trans ?_ <;> (first | (intro s a; (repeat' split) <;> simp; done) | simp; done)) | rfl)
@[simp] theorem execCoreWheelInsert_goesOn (c : Fin 8) (d : Descriptor) (s : State) : goesOn s (execCoreWheelInsert c d s) := by
  first
  | (simp [execCoreWheelInsert, goesOn_ite, apply_ite State.pending, apply_dite State.pending]; done)
  | (unfold execCoreWheelInsert; (try dsimp only); (repeat' split) <;> first | (simp [apply_ite State.pending, apply_dite State.pending, *]; done) | (simp [State.offer_pending _ _ _ _ (by assumption), *]; done) | (simp [State.take_pending _ _ _ _ (by assumption), *]; done) | ((try rw [goesOn_next]); refine (foldl_pending _ _ _ ?_).trans ?_ <;> (first | (intro s a; (repeat' split) <;> simp; done) | simp; done)) | rfl)
@[simp] theorem execCoreWheelCancel_goesOn (c : Fin 8) (handle : Nat) (s : State) : goesOn s (execCoreWheelCancel c handle s) := by
  first
  | (simp [execCoreWheelCancel, goesOn_ite, apply_ite State.pending, apply_dite State.pending]; done)
  | (unfold execCoreWheelCancel; (try dsimp only); (repeat' split) <;> first | (simp [apply_ite State.pending, apply_dite State.pending, *]; done) | (simp [State.offer_pending _ _ _ _ (by assumption), *]; done) | (simp [State.take_pending _ _ _ _ (by assumption), *]; done) | ((try rw [goesOn_next]); refine (foldl_pending _ _ _ ?_).trans ?_ <;> (first | (intro s a; (repeat' split) <;> simp; done) | simp; done)) | rfl)

end Sys2Proof.Machine
end

