-- ==== Sys2Proof/Laws/QueueFeedback.lean ====
section
/-! SUPPORT. The operations of Machine/Feedback.lean leave the queue of waiting commands alone. -/

namespace Sys2Proof.Machine

@[simp] theorem State.shiftCount_pending (s : State) (p : Fin 32) (t : Nat) (d : Int) (kind : Nat) : (State.shiftCount s p t d kind).pending = s.pending := by
  first
  | (simp [State.shiftCount, goesOn_ite, apply_ite State.pending, apply_dite State.pending]; done)
  | (unfold State.shiftCount; (try dsimp only); (repeat' split) <;> first | (simp [apply_ite State.pending, apply_dite State.pending, *]; done) | (simp [State.offer_pending _ _ _ _ (by assumption), *]; done) | (simp [State.take_pending _ _ _ _ (by assumption), *]; done) | ((try rw [goesOn_next]); refine (foldl_pending _ _ _ ?_).trans ?_ <;> (first | (intro s a; (repeat' split) <;> simp; done) | simp; done)) | rfl)
@[simp] theorem State.settle_pending (s : State) (p : Fin 32) (t : Nat) : (State.settle s p t).pending = s.pending := by
  first
  | (simp [State.settle, goesOn_ite, apply_ite State.pending, apply_dite State.pending]; done)
  | (unfold State.settle; (try dsimp only); (repeat' split) <;> first | (simp [apply_ite State.pending, apply_dite State.pending, *]; done) | (simp [State.offer_pending _ _ _ _ (by assumption), *]; done) | (simp [State.take_pending _ _ _ _ (by assumption), *]; done) | ((try rw [goesOn_next]); refine (foldl_pending _ _ _ ?_).trans ?_ <;> (first | (intro s a; (repeat' split) <;> simp; done) | simp; done)) | rfl)
@[simp] theorem State.setLines_pending (s : State) (p : Nat) (a : Bool) (b : Bool) (z : Bool) : (State.setLines s p a b z).pending = s.pending := by
  first
  | (simp [State.setLines, goesOn_ite, apply_ite State.pending, apply_dite State.pending]; done)
  | (unfold State.setLines; (try dsimp only); (repeat' split) <;> first | (simp [apply_ite State.pending, apply_dite State.pending, *]; done) | (simp [State.offer_pending _ _ _ _ (by assumption), *]; done) | (simp [State.take_pending _ _ _ _ (by assumption), *]; done) | ((try rw [goesOn_next]); refine (foldl_pending _ _ _ ?_).trans ?_ <;> (first | (intro s a; (repeat' split) <;> simp; done) | simp; done)) | rfl)
@[simp] theorem State.countEdge_pending (s : State) (p : Fin 32) (t : Nat) (d : Int) : (State.countEdge s p t d).pending = s.pending := by
  first
  | (simp [State.countEdge, goesOn_ite, apply_ite State.pending, apply_dite State.pending]; done)
  | (unfold State.countEdge; (try dsimp only); (repeat' split) <;> first | (simp [apply_ite State.pending, apply_dite State.pending, *]; done) | (simp [State.offer_pending _ _ _ _ (by assumption), *]; done) | (simp [State.take_pending _ _ _ _ (by assumption), *]; done) | ((try rw [goesOn_next]); refine (foldl_pending _ _ _ ?_).trans ?_ <;> (first | (intro s a; (repeat' split) <;> simp; done) | simp; done)) | rfl)
@[simp] theorem State.illegalEdge_pending (s : State) (p : Fin 32) : (State.illegalEdge s p).pending = s.pending := by
  first
  | (simp [State.illegalEdge, goesOn_ite, apply_ite State.pending, apply_dite State.pending]; done)
  | (unfold State.illegalEdge; (try dsimp only); (repeat' split) <;> first | (simp [apply_ite State.pending, apply_dite State.pending, *]; done) | (simp [State.offer_pending _ _ _ _ (by assumption), *]; done) | (simp [State.take_pending _ _ _ _ (by assumption), *]; done) | ((try rw [goesOn_next]); refine (foldl_pending _ _ _ ?_).trans ?_ <;> (first | (intro s a; (repeat' split) <;> simp; done) | simp; done)) | rfl)
@[simp] theorem State.countSample_pending (s : State) (p : Fin 32) (a : Bool) (b : Bool) (z : Bool) (t : Nat) : (State.countSample s p a b z t).pending = s.pending := by
  first
  | (simp [State.countSample, goesOn_ite, apply_ite State.pending, apply_dite State.pending]; done)
  | (unfold State.countSample; (try dsimp only); (repeat' split) <;> first | (simp [apply_ite State.pending, apply_dite State.pending, *]; done) | (simp [State.offer_pending _ _ _ _ (by assumption), *]; done) | (simp [State.take_pending _ _ _ _ (by assumption), *]; done) | ((try rw [goesOn_next]); refine (foldl_pending _ _ _ ?_).trans ?_ <;> (first | (intro s a; (repeat' split) <;> simp; done) | simp; done)) | rfl)
@[simp] theorem State.tileLost_pending (s : State) (a : Fin 96) (cause : Nat) : (State.tileLost s a cause).pending = s.pending := by
  first
  | (simp [State.tileLost, goesOn_ite, apply_ite State.pending, apply_dite State.pending]; done)
  | (unfold State.tileLost; (try dsimp only); (repeat' split) <;> first | (simp [apply_ite State.pending, apply_dite State.pending, *]; done) | (simp [State.offer_pending _ _ _ _ (by assumption), *]; done) | (simp [State.take_pending _ _ _ _ (by assumption), *]; done) | ((try rw [goesOn_next]); refine (foldl_pending _ _ _ ?_).trans ?_ <;> (first | (intro s a; (repeat' split) <;> simp; done) | simp; done)) | rfl)
@[simp] theorem State.portLost_pending (s : State) (p : Fin 32) (cause : Nat) : (State.portLost s p cause).pending = s.pending := by
  first
  | (simp [State.portLost, goesOn_ite, apply_ite State.pending, apply_dite State.pending]; done)
  | (unfold State.portLost; (try dsimp only); (repeat' split) <;> first | (simp [apply_ite State.pending, apply_dite State.pending, *]; done) | (simp [State.offer_pending _ _ _ _ (by assumption), *]; done) | (simp [State.take_pending _ _ _ _ (by assumption), *]; done) | ((try rw [goesOn_next]); refine (foldl_pending _ _ _ ?_).trans ?_ <;> (first | (intro s a; (repeat' split) <;> simp; done) | simp; done)) | rfl)
@[simp] theorem State.referPort_pending (s : State) (p : Fin 32) (t : Nat) : (State.referPort s p t).pending = s.pending := by
  first
  | (simp [State.referPort, goesOn_ite, apply_ite State.pending, apply_dite State.pending]; done)
  | (unfold State.referPort; (try dsimp only); (repeat' split) <;> first | (simp [apply_ite State.pending, apply_dite State.pending, *]; done) | (simp [State.offer_pending _ _ _ _ (by assumption), *]; done) | (simp [State.take_pending _ _ _ _ (by assumption), *]; done) | ((try rw [goesOn_next]); refine (foldl_pending _ _ _ ?_).trans ?_ <;> (first | (intro s a; (repeat' split) <;> simp; done) | simp; done)) | rfl)
@[simp] theorem State.indexEvent_pending (s : State) (p : Fin 32) (t : Nat) : (State.indexEvent s p t).pending = s.pending := by
  first
  | (simp [State.indexEvent, goesOn_ite, apply_ite State.pending, apply_dite State.pending]; done)
  | (unfold State.indexEvent; (try dsimp only); (repeat' split) <;> first | (simp [apply_ite State.pending, apply_dite State.pending, *]; done) | (simp [State.offer_pending _ _ _ _ (by assumption), *]; done) | (simp [State.take_pending _ _ _ _ (by assumption), *]; done) | ((try rw [goesOn_next]); refine (foldl_pending _ _ _ ?_).trans ?_ <;> (first | (intro s a; (repeat' split) <;> simp; done) | simp; done)) | rfl)
@[simp] theorem State.sample_pending (s : State) (p : Fin 32) (a : Bool) (b : Bool) (z : Bool) (na : Nat) (nb : Nat) (nz : Nat) (t : Nat) : (State.sample s p a b z na nb nz t).pending = s.pending := by
  first
  | (simp [State.sample, goesOn_ite, apply_ite State.pending, apply_dite State.pending]; done)
  | (unfold State.sample; (try dsimp only); (repeat' split) <;> first | (simp [apply_ite State.pending, apply_dite State.pending, *]; done) | (simp [State.offer_pending _ _ _ _ (by assumption), *]; done) | (simp [State.take_pending _ _ _ _ (by assumption), *]; done) | ((try rw [goesOn_next]); refine (foldl_pending _ _ _ ?_).trans ?_ <;> (first | (intro s a; (repeat' split) <;> simp; done) | simp; done)) | rfl)
@[simp] theorem State.testPort_pending (s : State) (p : Fin 32) : (State.testPort s p).pending = s.pending := by
  first
  | (simp [State.testPort, goesOn_ite, apply_ite State.pending, apply_dite State.pending]; done)
  | (unfold State.testPort; (try dsimp only); (repeat' split) <;> first | (simp [apply_ite State.pending, apply_dite State.pending, *]; done) | (simp [State.offer_pending _ _ _ _ (by assumption), *]; done) | (simp [State.take_pending _ _ _ _ (by assumption), *]; done) | ((try rw [goesOn_next]); refine (foldl_pending _ _ _ ?_).trans ?_ <;> (first | (intro s a; (repeat' split) <;> simp; done) | simp; done)) | rfl)
@[simp] theorem State.portBack_pending (s : State) (p : Fin 32) : (State.portBack s p).pending = s.pending := by
  first
  | (simp [State.portBack, goesOn_ite, apply_ite State.pending, apply_dite State.pending]; done)
  | (unfold State.portBack; (try dsimp only); (repeat' split) <;> first | (simp [apply_ite State.pending, apply_dite State.pending, *]; done) | (simp [State.offer_pending _ _ _ _ (by assumption), *]; done) | (simp [State.take_pending _ _ _ _ (by assumption), *]; done) | ((try rw [goesOn_next]); refine (foldl_pending _ _ _ ?_).trans ?_ <;> (first | (intro s a; (repeat' split) <;> simp; done) | simp; done)) | rfl)
@[simp] theorem State.trackFrozen_pending (s : State) (a : Fin 96) (count : Int) : (State.trackFrozen s a count).pending = s.pending := by
  first
  | (simp [State.trackFrozen, goesOn_ite, apply_ite State.pending, apply_dite State.pending]; done)
  | (unfold State.trackFrozen; (try dsimp only); (repeat' split) <;> first | (simp [apply_ite State.pending, apply_dite State.pending, *]; done) | (simp [State.offer_pending _ _ _ _ (by assumption), *]; done) | (simp [State.take_pending _ _ _ _ (by assumption), *]; done) | ((try rw [goesOn_next]); refine (foldl_pending _ _ _ ?_).trans ?_ <;> (first | (intro s a; (repeat' split) <;> simp; done) | simp; done)) | rfl)
@[simp] theorem State.latchEst_pending (s : State) (p : Fin 32) (still : Nat) : (State.latchEst s p still).pending = s.pending := by
  first
  | (simp [State.latchEst, goesOn_ite, apply_ite State.pending, apply_dite State.pending]; done)
  | (unfold State.latchEst; (try dsimp only); (repeat' split) <;> first | (simp [apply_ite State.pending, apply_dite State.pending, *]; done) | (simp [State.offer_pending _ _ _ _ (by assumption), *]; done) | (simp [State.take_pending _ _ _ _ (by assumption), *]; done) | ((try rw [goesOn_next]); refine (foldl_pending _ _ _ ?_).trans ?_ <;> (first | (intro s a; (repeat' split) <;> simp; done) | simp; done)) | rfl)
@[simp] theorem State.latchLocal_pending (s : State) (a : Fin 96) (p : Fin 32) : (State.latchLocal s a p).pending = s.pending := by
  first
  | (simp [State.latchLocal, goesOn_ite, apply_ite State.pending, apply_dite State.pending]; done)
  | (unfold State.latchLocal; (try dsimp only); (repeat' split) <;> first | (simp [apply_ite State.pending, apply_dite State.pending, *]; done) | (simp [State.offer_pending _ _ _ _ (by assumption), *]; done) | (simp [State.take_pending _ _ _ _ (by assumption), *]; done) | ((try rw [goesOn_next]); refine (foldl_pending _ _ _ ?_).trans ?_ <;> (first | (intro s a; (repeat' split) <;> simp; done) | simp; done)) | rfl)
@[simp] theorem State.latchRemote_pending (s : State) (a : Fin 96) : (State.latchRemote s a).pending = s.pending := by
  first
  | (simp [State.latchRemote, goesOn_ite, apply_ite State.pending, apply_dite State.pending]; done)
  | (unfold State.latchRemote; (try dsimp only); (repeat' split) <;> first | (simp [apply_ite State.pending, apply_dite State.pending, *]; done) | (simp [State.offer_pending _ _ _ _ (by assumption), *]; done) | (simp [State.take_pending _ _ _ _ (by assumption), *]; done) | ((try rw [goesOn_next]); refine (foldl_pending _ _ _ ?_).trans ?_ <;> (first | (intro s a; (repeat' split) <;> simp; done) | simp; done)) | rfl)
@[simp] theorem State.testRemote_pending (s : State) (a : Fin 96) : (State.testRemote s a).pending = s.pending := by
  first
  | (simp [State.testRemote, goesOn_ite, apply_ite State.pending, apply_dite State.pending]; done)
  | (unfold State.testRemote; (try dsimp only); (repeat' split) <;> first | (simp [apply_ite State.pending, apply_dite State.pending, *]; done) | (simp [State.offer_pending _ _ _ _ (by assumption), *]; done) | (simp [State.take_pending _ _ _ _ (by assumption), *]; done) | ((try rw [goesOn_next]); refine (foldl_pending _ _ _ ?_).trans ?_ <;> (first | (intro s a; (repeat' split) <;> simp; done) | simp; done)) | rfl)
@[simp] theorem State.latchTile_pending (s : State) (a : Fin 96) : (State.latchTile s a).pending = s.pending := by
  first
  | (simp [State.latchTile, goesOn_ite, apply_ite State.pending, apply_dite State.pending]; done)
  | (unfold State.latchTile; (try dsimp only); (repeat' split) <;> first | (simp [apply_ite State.pending, apply_dite State.pending, *]; done) | (simp [State.offer_pending _ _ _ _ (by assumption), *]; done) | (simp [State.take_pending _ _ _ _ (by assumption), *]; done) | ((try rw [goesOn_next]); refine (foldl_pending _ _ _ ?_).trans ?_ <;> (first | (intro s a; (repeat' split) <;> simp; done) | simp; done)) | rfl)
@[simp] theorem State.latchPort_pending (s : State) (p : Fin 32) : (State.latchPort s p).pending = s.pending := by
  first
  | (simp [State.latchPort, goesOn_ite, apply_ite State.pending, apply_dite State.pending]; done)
  | (unfold State.latchPort; (try dsimp only); (repeat' split) <;> first | (simp [apply_ite State.pending, apply_dite State.pending, *]; done) | (simp [State.offer_pending _ _ _ _ (by assumption), *]; done) | (simp [State.take_pending _ _ _ _ (by assumption), *]; done) | ((try rw [goesOn_next]); refine (foldl_pending _ _ _ ?_).trans ?_ <;> (first | (intro s a; (repeat' split) <;> simp; done) | simp; done)) | rfl)
@[simp] theorem State.initPort_pending (s : State) (p : Fin 32) : (State.initPort s p).pending = s.pending := by
  first
  | (simp [State.initPort, goesOn_ite, apply_ite State.pending, apply_dite State.pending]; done)
  | (unfold State.initPort; (try dsimp only); (repeat' split) <;> first | (simp [apply_ite State.pending, apply_dite State.pending, *]; done) | (simp [State.offer_pending _ _ _ _ (by assumption), *]; done) | (simp [State.take_pending _ _ _ _ (by assumption), *]; done) | ((try rw [goesOn_next]); refine (foldl_pending _ _ _ ?_).trans ?_ <;> (first | (intro s a; (repeat' split) <;> simp; done) | simp; done)) | rfl)
@[simp] theorem execFbCountEdge_goesOn (p : Fin 32) (a : Bool) (b : Bool) (z : Bool) (na : Nat) (nb : Nat) (nz : Nat) (t : Nat) (s : State) : goesOn s (execFbCountEdge p a b z na nb nz t s) := by
  first
  | (simp [execFbCountEdge, goesOn_ite, apply_ite State.pending, apply_dite State.pending]; done)
  | (unfold execFbCountEdge; (try dsimp only); (repeat' split) <;> first | (simp [apply_ite State.pending, apply_dite State.pending, *]; done) | (simp [State.offer_pending _ _ _ _ (by assumption), *]; done) | (simp [State.take_pending _ _ _ _ (by assumption), *]; done) | ((try rw [goesOn_next]); refine (foldl_pending _ _ _ ?_).trans ?_ <;> (first | (intro s a; (repeat' split) <;> simp; done) | simp; done)) | rfl)
@[simp] theorem execFbIllegalEdge_goesOn (p : Fin 32) (a : Bool) (b : Bool) (z : Bool) (na : Nat) (nb : Nat) (nz : Nat) (t : Nat) (s : State) : goesOn s (execFbIllegalEdge p a b z na nb nz t s) := by
  first
  | (simp [execFbIllegalEdge, goesOn_ite, apply_ite State.pending, apply_dite State.pending]; done)
  | (unfold execFbIllegalEdge; (try dsimp only); (repeat' split) <;> first | (simp [apply_ite State.pending, apply_dite State.pending, *]; done) | (simp [State.offer_pending _ _ _ _ (by assumption), *]; done) | (simp [State.take_pending _ _ _ _ (by assumption), *]; done) | ((try rw [goesOn_next]); refine (foldl_pending _ _ _ ?_).trans ?_ <;> (first | (intro s a; (repeat' split) <;> simp; done) | simp; done)) | rfl)
@[simp] theorem execIllegalBurst_goesOn (p : Fin 32) (s : State) : goesOn s (execIllegalBurst p s) := by
  first
  | (simp [execIllegalBurst, goesOn_ite, apply_ite State.pending, apply_dite State.pending]; done)
  | (unfold execIllegalBurst; (try dsimp only); (repeat' split) <;> first | (simp [apply_ite State.pending, apply_dite State.pending, *]; done) | (simp [State.offer_pending _ _ _ _ (by assumption), *]; done) | (simp [State.take_pending _ _ _ _ (by assumption), *]; done) | ((try rw [goesOn_next]); refine (foldl_pending _ _ _ ?_).trans ?_ <;> (first | (intro s a; (repeat' split) <;> simp; done) | simp; done)) | rfl)
@[simp] theorem execSsiFrame_goesOn (p : Fin 32) (bits : List Bool) (startHigh : Bool) (stopLow : Bool) (t : Nat) (s : State) : goesOn s (execSsiFrame p bits startHigh stopLow t s) := by
  first
  | (simp [execSsiFrame, goesOn_ite, apply_ite State.pending, apply_dite State.pending]; done)
  | (unfold execSsiFrame; (try dsimp only); (repeat' split) <;> first | (simp [apply_ite State.pending, apply_dite State.pending, *]; done) | (simp [State.offer_pending _ _ _ _ (by assumption), *]; done) | (simp [State.take_pending _ _ _ _ (by assumption), *]; done) | ((try rw [goesOn_next]); refine (foldl_pending _ _ _ ?_).trans ?_ <;> (first | (intro s a; (repeat' split) <;> simp; done) | simp; done)) | rfl)
@[simp] theorem execSsiLost_goesOn (p : Fin 32) (s : State) : goesOn s (execSsiLost p s) := by
  first
  | (simp [execSsiLost, goesOn_ite, apply_ite State.pending, apply_dite State.pending]; done)
  | (unfold execSsiLost; (try dsimp only); (repeat' split) <;> first | (simp [apply_ite State.pending, apply_dite State.pending, *]; done) | (simp [State.offer_pending _ _ _ _ (by assumption), *]; done) | (simp [State.take_pending _ _ _ _ (by assumption), *]; done) | ((try rw [goesOn_next]); refine (foldl_pending _ _ _ ?_).trans ?_ <;> (first | (intro s a; (repeat' split) <;> simp; done) | simp; done)) | rfl)
@[simp] theorem execHallInvalid_goesOn (p : Fin 32) (t : Nat) (s : State) : goesOn s (execHallInvalid p t s) := by
  first
  | (simp [execHallInvalid, goesOn_ite, apply_ite State.pending, apply_dite State.pending]; done)
  | (unfold execHallInvalid; (try dsimp only); (repeat' split) <;> first | (simp [apply_ite State.pending, apply_dite State.pending, *]; done) | (simp [State.offer_pending _ _ _ _ (by assumption), *]; done) | (simp [State.take_pending _ _ _ _ (by assumption), *]; done) | ((try rw [goesOn_next]); refine (foldl_pending _ _ _ ?_).trans ?_ <;> (first | (intro s a; (repeat' split) <;> simp; done) | simp; done)) | rfl)
@[simp] theorem execWireBreak_goesOn (p : Fin 32) (low : Bool) (stood : Nat) (t : Nat) (s : State) : goesOn s (execWireBreak p low stood t s) := by
  first
  | (simp [execWireBreak, goesOn_ite, apply_ite State.pending, apply_dite State.pending]; done)
  | (unfold execWireBreak; (try dsimp only); (repeat' split) <;> first | (simp [apply_ite State.pending, apply_dite State.pending, *]; done) | (simp [State.offer_pending _ _ _ _ (by assumption), *]; done) | (simp [State.take_pending _ _ _ _ (by assumption), *]; done) | ((try rw [goesOn_next]); refine (foldl_pending _ _ _ ?_).trans ?_ <;> (first | (intro s a; (repeat' split) <;> simp; done) | simp; done)) | rfl)
@[simp] theorem execRemoteAged_goesOn (a : Fin 96) (s : State) : goesOn s (execRemoteAged a s) := by
  first
  | (simp [execRemoteAged, goesOn_ite, apply_ite State.pending, apply_dite State.pending]; done)
  | (unfold execRemoteAged; (try dsimp only); (repeat' split) <;> first | (simp [apply_ite State.pending, apply_dite State.pending, *]; done) | (simp [State.offer_pending _ _ _ _ (by assumption), *]; done) | (simp [State.take_pending _ _ _ _ (by assumption), *]; done) | ((try rw [goesOn_next]); refine (foldl_pending _ _ _ ?_).trans ?_ <;> (first | (intro s a; (repeat' split) <;> simp; done) | simp; done)) | rfl)
@[simp] theorem execFbFrozen_goesOn (a : Fin 96) (s : State) : goesOn s (execFbFrozen a s) := by
  first
  | (simp [execFbFrozen, goesOn_ite, apply_ite State.pending, apply_dite State.pending]; done)
  | (unfold execFbFrozen; (try dsimp only); (repeat' split) <;> first | (simp [apply_ite State.pending, apply_dite State.pending, *]; done) | (simp [State.offer_pending _ _ _ _ (by assumption), *]; done) | (simp [State.take_pending _ _ _ _ (by assumption), *]; done) | ((try rw [goesOn_next]); refine (foldl_pending _ _ _ ?_).trans ?_ <;> (first | (intro s a; (repeat' split) <;> simp; done) | simp; done)) | rfl)
@[simp] theorem State.sourceBack_pending (s : State) (a : Fin 96) : (State.sourceBack s a).pending = s.pending := by
  first
  | (simp [State.sourceBack, goesOn_ite, apply_ite State.pending, apply_dite State.pending]; done)
  | (unfold State.sourceBack; (try dsimp only); (repeat' split) <;> first | (simp [apply_ite State.pending, apply_dite State.pending, *]; done) | (simp [State.offer_pending _ _ _ _ (by assumption), *]; done) | (simp [State.take_pending _ _ _ _ (by assumption), *]; done) | ((try rw [goesOn_next]); refine (foldl_pending _ _ _ ?_).trans ?_ <;> (first | (intro s a; (repeat' split) <;> simp; done) | simp; done)) | rfl)
@[simp] theorem State.clearLost_pending (s : State) (a : Fin 96) : (State.clearLost s a).pending = s.pending := by
  first
  | (simp [State.clearLost, goesOn_ite, apply_ite State.pending, apply_dite State.pending]; done)
  | (unfold State.clearLost; (try dsimp only); (repeat' split) <;> first | (simp [apply_ite State.pending, apply_dite State.pending, *]; done) | (simp [State.offer_pending _ _ _ _ (by assumption), *]; done) | (simp [State.take_pending _ _ _ _ (by assumption), *]; done) | ((try rw [goesOn_next]); refine (foldl_pending _ _ _ ?_).trans ?_ <;> (first | (intro s a; (repeat' split) <;> simp; done) | simp; done)) | rfl)
@[simp] theorem State.clearFrozen_pending (s : State) (a : Fin 96) : (State.clearFrozen s a).pending = s.pending := by
  first
  | (simp [State.clearFrozen, goesOn_ite, apply_ite State.pending, apply_dite State.pending]; done)
  | (unfold State.clearFrozen; (try dsimp only); (repeat' split) <;> first | (simp [apply_ite State.pending, apply_dite State.pending, *]; done) | (simp [State.offer_pending _ _ _ _ (by assumption), *]; done) | (simp [State.take_pending _ _ _ _ (by assumption), *]; done) | ((try rw [goesOn_next]); refine (foldl_pending _ _ _ ?_).trans ?_ <;> (first | (intro s a; (repeat' split) <;> simp; done) | simp; done)) | rfl)
@[simp] theorem State.clearTile_pending (s : State) (a : Fin 96) (value : Word) : (State.clearTile s a value).pending = s.pending := by
  first
  | (simp [State.clearTile, goesOn_ite, apply_ite State.pending, apply_dite State.pending]; done)
  | (unfold State.clearTile; (try dsimp only); (repeat' split) <;> first | (simp [apply_ite State.pending, apply_dite State.pending, *]; done) | (simp [State.offer_pending _ _ _ _ (by assumption), *]; done) | (simp [State.take_pending _ _ _ _ (by assumption), *]; done) | ((try rw [goesOn_next]); refine (foldl_pending _ _ _ ?_).trans ?_ <;> (first | (intro s a; (repeat' split) <;> simp; done) | simp; done)) | rfl)
@[simp] theorem State.clearPort_pending (s : State) (p : Fin 32) (value : Word) : (State.clearPort s p value).pending = s.pending := by
  first
  | (simp [State.clearPort, goesOn_ite, apply_ite State.pending, apply_dite State.pending]; done)
  | (unfold State.clearPort; (try dsimp only); (repeat' split) <;> first | (simp [apply_ite State.pending, apply_dite State.pending, *]; done) | (simp [State.offer_pending _ _ _ _ (by assumption), *]; done) | (simp [State.take_pending _ _ _ _ (by assumption), *]; done) | ((try rw [goesOn_next]); refine (foldl_pending _ _ _ ?_).trans ?_ <;> (first | (intro s a; (repeat' split) <;> simp; done) | simp; done)) | rfl)
@[simp] theorem execFbLostClear_goesOn (target : FbTarget) (value : Word) (s : State) : goesOn s (execFbLostClear target value s) := by
  first
  | (simp [execFbLostClear, goesOn_ite, apply_ite State.pending, apply_dite State.pending]; done)
  | (unfold execFbLostClear; (try dsimp only); (repeat' split) <;> first | (simp [apply_ite State.pending, apply_dite State.pending, *]; done) | (simp [State.offer_pending _ _ _ _ (by assumption), *]; done) | (simp [State.take_pending _ _ _ _ (by assumption), *]; done) | ((try rw [goesOn_next]); refine (foldl_pending _ _ _ ?_).trans ?_ <;> (first | (intro s a; (repeat' split) <;> simp; done) | simp; done)) | rfl)
@[simp] theorem execIndexEvent_goesOn (p : Fin 32) (a : Bool) (b : Bool) (z : Bool) (na : Nat) (nb : Nat) (nz : Nat) (t : Nat) (s : State) : goesOn s (execIndexEvent p a b z na nb nz t s) := by
  first
  | (simp [execIndexEvent, goesOn_ite, apply_ite State.pending, apply_dite State.pending]; done)
  | (unfold execIndexEvent; (try dsimp only); (repeat' split) <;> first | (simp [apply_ite State.pending, apply_dite State.pending, *]; done) | (simp [State.offer_pending _ _ _ _ (by assumption), *]; done) | (simp [State.take_pending _ _ _ _ (by assumption), *]; done) | ((try rw [goesOn_next]); refine (foldl_pending _ _ _ ?_).trans ?_ <;> (first | (intro s a; (repeat' split) <;> simp; done) | simp; done)) | rfl)
@[simp] theorem execWheelJump_goesOn (t : Nat) (s : State) : goesOn s (execWheelJump t s) := by
  first
  | (simp [execWheelJump, goesOn_ite, apply_ite State.pending, apply_dite State.pending]; done)
  | (unfold execWheelJump; (try dsimp only); (repeat' split) <;> first | (simp [apply_ite State.pending, apply_dite State.pending, *]; done) | (simp [State.offer_pending _ _ _ _ (by assumption), *]; done) | (simp [State.take_pending _ _ _ _ (by assumption), *]; done) | ((try rw [goesOn_next]); refine (foldl_pending _ _ _ ?_).trans ?_ <;> (first | (intro s a; (repeat' split) <;> simp; done) | simp; done)) | rfl)
@[simp] theorem execFbIndexMissing_goesOn (p : Fin 32) (s : State) : goesOn s (execFbIndexMissing p s) := by
  first
  | (simp [execFbIndexMissing, goesOn_ite, apply_ite State.pending, apply_dite State.pending]; done)
  | (unfold execFbIndexMissing; (try dsimp only); (repeat' split) <;> first | (simp [apply_ite State.pending, apply_dite State.pending, *]; done) | (simp [State.offer_pending _ _ _ _ (by assumption), *]; done) | (simp [State.take_pending _ _ _ _ (by assumption), *]; done) | ((try rw [goesOn_next]); refine (foldl_pending _ _ _ ?_).trans ?_ <;> (first | (intro s a; (repeat' split) <;> simp; done) | simp; done)) | rfl)
@[simp] theorem execRefArm_goesOn (p : Fin 32) (s : State) : goesOn s (execRefArm p s) := by
  first
  | (simp [execRefArm, goesOn_ite, apply_ite State.pending, apply_dite State.pending]; done)
  | (unfold execRefArm; (try dsimp only); (repeat' split) <;> first | (simp [apply_ite State.pending, apply_dite State.pending, *]; done) | (simp [State.offer_pending _ _ _ _ (by assumption), *]; done) | (simp [State.take_pending _ _ _ _ (by assumption), *]; done) | ((try rw [goesOn_next]); refine (foldl_pending _ _ _ ?_).trans ?_ <;> (first | (intro s a; (repeat' split) <;> simp; done) | simp; done)) | rfl)
@[simp] theorem execStandstill_goesOn (a : Fin 96) (t : Nat) (s : State) : goesOn s (execStandstill a t s) := by
  first
  | (simp [execStandstill, goesOn_ite, apply_ite State.pending, apply_dite State.pending]; done)
  | (unfold execStandstill; (try dsimp only); (repeat' split) <;> first | (simp [apply_ite State.pending, apply_dite State.pending, *]; done) | (simp [State.offer_pending _ _ _ _ (by assumption), *]; done) | (simp [State.take_pending _ _ _ _ (by assumption), *]; done) | ((try rw [goesOn_next]); refine (foldl_pending _ _ _ ?_).trans ?_ <;> (first | (intro s a; (repeat' split) <;> simp; done) | simp; done)) | rfl)

end Sys2Proof.Machine
end

