-- ==== Sys2Proof/Laws/QueuePlanner.lean ====
section
/-! SUPPORT. The operations of Machine/Planner.lean leave the queue of waiting commands alone. -/

namespace Sys2Proof.Machine

@[simp] theorem State.takeLimits_pending (s : State) (g : Segment) : (State.takeLimits s g).pending = s.pending := by
  first
  | (simp [State.takeLimits, goesOn_ite, apply_ite State.pending, apply_dite State.pending]; done)
  | (unfold State.takeLimits; (try dsimp only); (repeat' split) <;> first | (simp [apply_ite State.pending, apply_dite State.pending, *]; done) | (simp [State.offer_pending _ _ _ _ (by assumption), *]; done) | (simp [State.take_pending _ _ _ _ (by assumption), *]; done) | ((try rw [goesOn_next]); refine (foldl_pending _ _ _ ?_).trans ?_ <;> (first | (intro s a; (repeat' split) <;> simp; done) | simp; done)) | rfl)
@[simp] theorem State.admitSegment_pending (s : State) (g : Segment) (path : Nat) : (State.admitSegment s g path).1.pending = s.pending := by
  first
  | (simp [State.admitSegment, goesOn_ite, apply_ite State.pending, apply_dite State.pending]; done)
  | (unfold State.admitSegment; (try dsimp only); (repeat' split) <;> first | (simp [apply_ite State.pending, apply_dite State.pending, *]; done) | (simp [State.offer_pending _ _ _ _ (by assumption), *]; done) | (simp [State.take_pending _ _ _ _ (by assumption), *]; done) | ((try rw [goesOn_next]); refine (foldl_pending _ _ _ ?_).trans ?_ <;> (first | (intro s a; (repeat' split) <;> simp; done) | simp; done)) | rfl)
@[simp] theorem State.showSlots_pending (s : State) (a : Fin 96) : (State.showSlots s a).pending = s.pending := by
  first
  | (simp [State.showSlots, goesOn_ite, apply_ite State.pending, apply_dite State.pending]; done)
  | (unfold State.showSlots; (try dsimp only); (repeat' split) <;> first | (simp [apply_ite State.pending, apply_dite State.pending, *]; done) | (simp [State.offer_pending _ _ _ _ (by assumption), *]; done) | (simp [State.take_pending _ _ _ _ (by assumption), *]; done) | ((try rw [goesOn_next]); refine (foldl_pending _ _ _ ?_).trans ?_ <;> (first | (intro s a; (repeat' split) <;> simp; done) | simp; done)) | rfl)
@[simp] theorem State.discardSlots_pending (s : State) (a : Fin 96) : (State.discardSlots s a).pending = s.pending := by
  first
  | (simp [State.discardSlots, goesOn_ite, apply_ite State.pending, apply_dite State.pending]; done)
  | (unfold State.discardSlots; (try dsimp only); (repeat' split) <;> first | (simp [apply_ite State.pending, apply_dite State.pending, *]; done) | (simp [State.offer_pending _ _ _ _ (by assumption), *]; done) | (simp [State.take_pending _ _ _ _ (by assumption), *]; done) | ((try rw [goesOn_next]); refine (foldl_pending _ _ _ ?_).trans ?_ <;> (first | (intro s a; (repeat' split) <;> simp; done) | simp; done)) | rfl)
@[simp] theorem State.replan_pending (s : State) (a : Fin 96) : (State.replan s a).pending = s.pending := by
  first
  | (simp [State.replan, goesOn_ite, apply_ite State.pending, apply_dite State.pending]; done)
  | (unfold State.replan; (try dsimp only); (repeat' split) <;> first | (simp [apply_ite State.pending, apply_dite State.pending, *]; done) | (simp [State.offer_pending _ _ _ _ (by assumption), *]; done) | (simp [State.take_pending _ _ _ _ (by assumption), *]; done) | ((try rw [goesOn_next]); refine (foldl_pending _ _ _ ?_).trans ?_ <;> (first | (intro s a; (repeat' split) <;> simp; done) | simp; done)) | rfl)
@[simp] theorem State.planRest_pending (s : State) (a : Fin 96) (g : Option Segment) : (State.planRest s a g).pending = s.pending := by
  first
  | (simp [State.planRest, goesOn_ite, apply_ite State.pending, apply_dite State.pending]; done)
  | (unfold State.planRest; (try dsimp only); (repeat' split) <;> first | (simp [apply_ite State.pending, apply_dite State.pending, *]; done) | (simp [State.offer_pending _ _ _ _ (by assumption), *]; done) | (simp [State.take_pending _ _ _ _ (by assumption), *]; done) | ((try rw [goesOn_next]); refine (foldl_pending _ _ _ ?_).trans ?_ <;> (first | (intro s a; (repeat' split) <;> simp; done) | simp; done)) | rfl)
@[simp] theorem State.toIdle_pending (s : State) (a : Fin 96) : (State.toIdle s a).pending = s.pending := by
  first
  | (simp [State.toIdle, goesOn_ite, apply_ite State.pending, apply_dite State.pending]; done)
  | (unfold State.toIdle; (try dsimp only); (repeat' split) <;> first | (simp [apply_ite State.pending, apply_dite State.pending, *]; done) | (simp [State.offer_pending _ _ _ _ (by assumption), *]; done) | (simp [State.take_pending _ _ _ _ (by assumption), *]; done) | ((try rw [goesOn_next]); refine (foldl_pending _ _ _ ?_).trans ?_ <;> (first | (intro s a; (repeat' split) <;> simp; done) | simp; done)) | rfl)
@[simp] theorem State.shiftP_pending (s : State) (a : Fin 96) (d : Int) (dx : Int) : (State.shiftP s a d dx).pending = s.pending := by
  first
  | (simp [State.shiftP, goesOn_ite, apply_ite State.pending, apply_dite State.pending]; done)
  | (unfold State.shiftP; (try dsimp only); (repeat' split) <;> first | (simp [apply_ite State.pending, apply_dite State.pending, *]; done) | (simp [State.offer_pending _ _ _ _ (by assumption), *]; done) | (simp [State.take_pending _ _ _ _ (by assumption), *]; done) | ((try rw [goesOn_next]); refine (foldl_pending _ _ _ ?_).trans ?_ <;> (first | (intro s a; (repeat' split) <;> simp; done) | simp; done)) | rfl)
@[simp] theorem State.moveSource_pending (s : State) (a : Fin 96) (d : Int) : (State.moveSource s a d).pending = s.pending := by
  first
  | (simp [State.moveSource, goesOn_ite, apply_ite State.pending, apply_dite State.pending]; done)
  | (unfold State.moveSource; (try dsimp only); (repeat' split) <;> first | (simp [apply_ite State.pending, apply_dite State.pending, *]; done) | (simp [State.offer_pending _ _ _ _ (by assumption), *]; done) | (simp [State.take_pending _ _ _ _ (by assumption), *]; done) | ((try rw [goesOn_next]); refine (foldl_pending _ _ _ ?_).trans ?_ <;> (first | (intro s a; (repeat' split) <;> simp; done) | simp; done)) | rfl)
@[simp] theorem State.setPos_pending (s : State) (a : Fin 96) (g : Segment) : (State.setPos s a g).pending = s.pending := by
  first
  | (simp [State.setPos, goesOn_ite, apply_ite State.pending, apply_dite State.pending]; done)
  | (unfold State.setPos; (try dsimp only); (repeat' split) <;> first | (simp [apply_ite State.pending, apply_dite State.pending, *]; done) | (simp [State.offer_pending _ _ _ _ (by assumption), *]; done) | (simp [State.take_pending _ _ _ _ (by assumption), *]; done) | ((try rw [goesOn_next]); refine (foldl_pending _ _ _ ?_).trans ?_ <;> (first | (intro s a; (repeat' split) <;> simp; done) | simp; done)) | rfl)
@[simp] theorem State.engage_pending (s : State) (a : Fin 96) (g : Segment) : (State.engage s a g).pending = s.pending := by
  first
  | (simp [State.engage, goesOn_ite, apply_ite State.pending, apply_dite State.pending]; done)
  | (unfold State.engage; (try dsimp only); (repeat' split) <;> first | (simp [apply_ite State.pending, apply_dite State.pending, *]; done) | (simp [State.offer_pending _ _ _ _ (by assumption), *]; done) | (simp [State.take_pending _ _ _ _ (by assumption), *]; done) | ((try rw [goesOn_next]); refine (foldl_pending _ _ _ ?_).trans ?_ <;> (first | (intro s a; (repeat' split) <;> simp; done) | simp; done)) | rfl)
@[simp] theorem State.armPort_pending (s : State) (p : Nat) : (State.armPort s p).pending = s.pending := by
  first
  | (simp [State.armPort, goesOn_ite, apply_ite State.pending, apply_dite State.pending]; done)
  | (unfold State.armPort; (try dsimp only); (repeat' split) <;> first | (simp [apply_ite State.pending, apply_dite State.pending, *]; done) | (simp [State.offer_pending _ _ _ _ (by assumption), *]; done) | (simp [State.take_pending _ _ _ _ (by assumption), *]; done) | ((try rw [goesOn_next]); refine (foldl_pending _ _ _ ?_).trans ?_ <;> (first | (intro s a; (repeat' split) <;> simp; done) | simp; done)) | rfl)
@[simp] theorem State.startSeg_pending (s : State) (a : Fin 96) (g : Segment) : (State.startSeg s a g).pending = s.pending := by
  first
  | (simp [State.startSeg, goesOn_ite, apply_ite State.pending, apply_dite State.pending]; done)
  | (unfold State.startSeg; (try dsimp only); (repeat' split) <;> first | (simp [apply_ite State.pending, apply_dite State.pending, *]; done) | (simp [State.offer_pending _ _ _ _ (by assumption), *]; done) | (simp [State.take_pending _ _ _ _ (by assumption), *]; done) | ((try rw [goesOn_next]); refine (foldl_pending _ _ _ ?_).trans ?_ <;> (first | (intro s a; (repeat' split) <;> simp; done) | simp; done)) | rfl)
@[simp] theorem State.endRaw_pending (s : State) (a : Fin 96) (done : Bool) : (State.endRaw s a done).pending = s.pending := by
  first
  | (simp [State.endRaw, goesOn_ite, apply_ite State.pending, apply_dite State.pending]; done)
  | (unfold State.endRaw; (try dsimp only); (repeat' split) <;> first | (simp [apply_ite State.pending, apply_dite State.pending, *]; done) | (simp [State.offer_pending _ _ _ _ (by assumption), *]; done) | (simp [State.take_pending _ _ _ _ (by assumption), *]; done) | ((try rw [goesOn_next]); refine (foldl_pending _ _ _ ?_).trans ?_ <;> (first | (intro s a; (repeat' split) <;> simp; done) | simp; done)) | rfl)
@[simp] theorem State.takeRaw_pending (s : State) (a : Fin 96) : (State.takeRaw s a).pending = s.pending := by
  first
  | (simp [State.takeRaw, goesOn_ite, apply_ite State.pending, apply_dite State.pending]; done)
  | (unfold State.takeRaw; (try dsimp only); (repeat' split) <;> first | (simp [apply_ite State.pending, apply_dite State.pending, *]; done) | (simp [State.offer_pending _ _ _ _ (by assumption), *]; done) | (simp [State.take_pending _ _ _ _ (by assumption), *]; done) | ((try rw [goesOn_next]); refine (foldl_pending _ _ _ ?_).trans ?_ <;> (first | (intro s a; (repeat' split) <;> simp; done) | simp; done)) | rfl)
@[simp] theorem State.takeSeg_pending (s : State) (a : Fin 96) (g : Segment) : (State.takeSeg s a g).pending = s.pending := by
  first
  | (simp [State.takeSeg, goesOn_ite, apply_ite State.pending, apply_dite State.pending]; done)
  | (unfold State.takeSeg; (try dsimp only); (repeat' split) <;> first | (simp [apply_ite State.pending, apply_dite State.pending, *]; done) | (simp [State.offer_pending _ _ _ _ (by assumption), *]; done) | (simp [State.take_pending _ _ _ _ (by assumption), *]; done) | ((try rw [goesOn_next]); refine (foldl_pending _ _ _ ?_).trans ?_ <;> (first | (intro s a; (repeat' split) <;> simp; done) | simp; done)) | rfl)
@[simp] theorem State.takeSegs_pending (s : State) (a : Fin 96) (x0 : List Segment) : (State.takeSegs s a x0).pending = s.pending := by
  induction x0 generalizing s a with
  | nil => rfl
  | cons x xs ih => (unfold State.takeSegs; (try dsimp only); (repeat' split) <;> first | (simp [apply_ite State.pending, apply_dite State.pending, ih, *]; done) | (simp [State.offer_pending _ _ _ _ (by assumption), ih, *]; done) | (simp [State.take_pending _ _ _ _ (by assumption), ih, *]; done) | ((try rw [goesOn_next]); refine (foldl_pending _ _ _ ?_).trans ?_ <;> (first | (intro s a; (repeat' split) <;> simp; done) | simp; done)) | rfl)
@[simp] theorem State.putOut_pending (s : State) (a : Fin 96) : (State.putOut s a).pending = s.pending := by
  first
  | (simp [State.putOut, goesOn_ite, apply_ite State.pending, apply_dite State.pending]; done)
  | (unfold State.putOut; (try dsimp only); (repeat' split) <;> first | (simp [apply_ite State.pending, apply_dite State.pending, *]; done) | (simp [State.offer_pending _ _ _ _ (by assumption), *]; done) | (simp [State.take_pending _ _ _ _ (by assumption), *]; done) | ((try rw [goesOn_next]); refine (foldl_pending _ _ _ ?_).trans ?_ <;> (first | (intro s a; (repeat' split) <;> simp; done) | simp; done)) | rfl)
@[simp] theorem State.wrapP_pending (s : State) (a : Fin 96) : (State.wrapP s a).pending = s.pending := by
  first
  | (simp [State.wrapP, goesOn_ite, apply_ite State.pending, apply_dite State.pending]; done)
  | (unfold State.wrapP; (try dsimp only); (repeat' split) <;> first | (simp [apply_ite State.pending, apply_dite State.pending, *]; done) | (simp [State.offer_pending _ _ _ _ (by assumption), *]; done) | (simp [State.take_pending _ _ _ _ (by assumption), *]; done) | ((try rw [goesOn_next]); refine (foldl_pending _ _ _ ?_).trans ?_ <;> (first | (intro s a; (repeat' split) <;> simp; done) | simp; done)) | rfl)
@[simp] theorem State.latchLead_pending (s : State) (a : Fin 96) : (State.latchLead s a).pending = s.pending := by
  first
  | (simp [State.latchLead, goesOn_ite, apply_ite State.pending, apply_dite State.pending]; done)
  | (unfold State.latchLead; (try dsimp only); (repeat' split) <;> first | (simp [apply_ite State.pending, apply_dite State.pending, *]; done) | (simp [State.offer_pending _ _ _ _ (by assumption), *]; done) | (simp [State.take_pending _ _ _ _ (by assumption), *]; done) | ((try rw [goesOn_next]); refine (foldl_pending _ _ _ ?_).trans ?_ <;> (first | (intro s a; (repeat' split) <;> simp; done) | simp; done)) | rfl)
@[simp] theorem State.syncTick_pending (s : State) (a : Fin 96) : (State.syncTick s a).pending = s.pending := by
  first
  | (simp [State.syncTick, goesOn_ite, apply_ite State.pending, apply_dite State.pending]; done)
  | (unfold State.syncTick; (try dsimp only); (repeat' split) <;> first | (simp [apply_ite State.pending, apply_dite State.pending, *]; done) | (simp [State.offer_pending _ _ _ _ (by assumption), *]; done) | (simp [State.take_pending _ _ _ _ (by assumption), *]; done) | ((try rw [goesOn_next]); refine (foldl_pending _ _ _ ?_).trans ?_ <;> (first | (intro s a; (repeat' split) <;> simp; done) | simp; done)) | rfl)
@[simp] theorem State.lockTick_pending (s : State) (a : Fin 96) : (State.lockTick s a).pending = s.pending := by
  first
  | (simp [State.lockTick, goesOn_ite, apply_ite State.pending, apply_dite State.pending]; done)
  | (unfold State.lockTick; (try dsimp only); (repeat' split) <;> first | (simp [apply_ite State.pending, apply_dite State.pending, *]; done) | (simp [State.offer_pending _ _ _ _ (by assumption), *]; done) | (simp [State.take_pending _ _ _ _ (by assumption), *]; done) | ((try rw [goesOn_next]); refine (foldl_pending _ _ _ ?_).trans ?_ <;> (first | (intro s a; (repeat' split) <;> simp; done) | simp; done)) | rfl)
@[simp] theorem State.atLimit_pending (s : State) (a : Fin 96) : (State.atLimit s a).pending = s.pending := by
  first
  | (simp [State.atLimit, goesOn_ite, apply_ite State.pending, apply_dite State.pending]; done)
  | (unfold State.atLimit; (try dsimp only); (repeat' split) <;> first | (simp [apply_ite State.pending, apply_dite State.pending, *]; done) | (simp [State.offer_pending _ _ _ _ (by assumption), *]; done) | (simp [State.take_pending _ _ _ _ (by assumption), *]; done) | ((try rw [goesOn_next]); refine (foldl_pending _ _ _ ?_).trans ?_ <;> (first | (intro s a; (repeat' split) <;> simp; done) | simp; done)) | rfl)
@[simp] theorem State.planTick_pending (s : State) (a : Fin 96) : (State.planTick s a).pending = s.pending := by
  first
  | (simp [State.planTick, goesOn_ite, apply_ite State.pending, apply_dite State.pending]; done)
  | (unfold State.planTick; (try dsimp only); (repeat' split) <;> first | (simp [apply_ite State.pending, apply_dite State.pending, *]; done) | (simp [State.offer_pending _ _ _ _ (by assumption), *]; done) | (simp [State.take_pending _ _ _ _ (by assumption), *]; done) | ((try rw [goesOn_next]); refine (foldl_pending _ _ _ ?_).trans ?_ <;> (first | (intro s a; (repeat' split) <;> simp; done) | simp; done)) | rfl)
@[simp] theorem State.takeGo_pending (s : State) (a : Fin 96) (latch : Nat) : (State.takeGo s a latch).1.pending = s.pending := by
  first
  | (simp [State.takeGo, goesOn_ite, apply_ite State.pending, apply_dite State.pending]; done)
  | (unfold State.takeGo; (try dsimp only); (repeat' split) <;> first | (simp [apply_ite State.pending, apply_dite State.pending, *]; done) | (simp [State.offer_pending _ _ _ _ (by assumption), *]; done) | (simp [State.take_pending _ _ _ _ (by assumption), *]; done) | ((try rw [goesOn_next]); refine (foldl_pending _ _ _ ?_).trans ?_ <;> (first | (intro s a; (repeat' split) <;> simp; done) | simp; done)) | rfl)
@[simp] theorem State.latchLimits_pending (s : State) (a : Fin 96) : (State.latchLimits s a).pending = s.pending := by
  first
  | (simp [State.latchLimits, goesOn_ite, apply_ite State.pending, apply_dite State.pending]; done)
  | (unfold State.latchLimits; (try dsimp only); (repeat' split) <;> first | (simp [apply_ite State.pending, apply_dite State.pending, *]; done) | (simp [State.offer_pending _ _ _ _ (by assumption), *]; done) | (simp [State.take_pending _ _ _ _ (by assumption), *]; done) | ((try rw [goesOn_next]); refine (foldl_pending _ _ _ ?_).trans ?_ <;> (first | (intro s a; (repeat' split) <;> simp; done) | simp; done)) | rfl)
@[simp] theorem State.trackTick_pending (s : State) (a : Fin 96) : (State.trackTick s a).pending = s.pending := by
  first
  | (simp [State.trackTick, goesOn_ite, apply_ite State.pending, apply_dite State.pending]; done)
  | (unfold State.trackTick; (try dsimp only); (repeat' split) <;> first | (simp [apply_ite State.pending, apply_dite State.pending, *]; done) | (simp [State.offer_pending _ _ _ _ (by assumption), *]; done) | (simp [State.take_pending _ _ _ _ (by assumption), *]; done) | ((try rw [goesOn_next]); refine (foldl_pending _ _ _ ?_).trans ?_ <;> (first | (intro s a; (repeat' split) <;> simp; done) | simp; done)) | rfl)
@[simp] theorem State.leaveTrack_pending (s : State) (a : Fin 96) : (State.leaveTrack s a).pending = s.pending := by
  first
  | (simp [State.leaveTrack, goesOn_ite, apply_ite State.pending, apply_dite State.pending]; done)
  | (unfold State.leaveTrack; (try dsimp only); (repeat' split) <;> first | (simp [apply_ite State.pending, apply_dite State.pending, *]; done) | (simp [State.offer_pending _ _ _ _ (by assumption), *]; done) | (simp [State.take_pending _ _ _ _ (by assumption), *]; done) | ((try rw [goesOn_next]); refine (foldl_pending _ _ _ ?_).trans ?_ <;> (first | (intro s a; (repeat' split) <;> simp; done) | simp; done)) | rfl)
@[simp] theorem State.homeFound_pending (s : State) (a : Fin 96) : (State.homeFound s a).pending = s.pending := by
  first
  | (simp [State.homeFound, goesOn_ite, apply_ite State.pending, apply_dite State.pending]; done)
  | (unfold State.homeFound; (try dsimp only); (repeat' split) <;> first | (simp [apply_ite State.pending, apply_dite State.pending, *]; done) | (simp [State.offer_pending _ _ _ _ (by assumption), *]; done) | (simp [State.take_pending _ _ _ _ (by assumption), *]; done) | ((try rw [goesOn_next]); refine (foldl_pending _ _ _ ?_).trans ?_ <;> (first | (intro s a; (repeat' split) <;> simp; done) | simp; done)) | rfl)
@[simp] theorem State.takeKept_pending (s : State) (segs : List Segment) : (State.takeKept s segs).pending = s.pending := by
  first
  | (simp [State.takeKept, goesOn_ite, apply_ite State.pending, apply_dite State.pending]; done)
  | (unfold State.takeKept; (try dsimp only); (repeat' split) <;> first | (simp [apply_ite State.pending, apply_dite State.pending, *]; done) | (simp [State.offer_pending _ _ _ _ (by assumption), *]; done) | (simp [State.take_pending _ _ _ _ (by assumption), *]; done) | ((try rw [goesOn_next]); refine (foldl_pending _ _ _ ?_).trans ?_ <;> (first | (intro s a; (repeat' split) <;> simp; done) | simp; done)) | rfl)
@[simp] theorem State.takeRequests_pending (s : State) (a : Fin 96) (segs : List Segment) : (State.takeRequests s a segs).pending = s.pending := by
  first
  | (simp [State.takeRequests, goesOn_ite, apply_ite State.pending, apply_dite State.pending]; done)
  | (unfold State.takeRequests; (try dsimp only); (repeat' split) <;> first | (simp [apply_ite State.pending, apply_dite State.pending, *]; done) | (simp [State.offer_pending _ _ _ _ (by assumption), *]; done) | (simp [State.take_pending _ _ _ _ (by assumption), *]; done) | ((try rw [goesOn_next]); refine (foldl_pending _ _ _ ?_).trans ?_ <;> (first | (intro s a; (repeat' split) <;> simp; done) | simp; done)) | rfl)
@[simp] theorem State.modeTick_pending (s : State) (a : Fin 96) (went : Bool) : (State.modeTick s a went).pending = s.pending := by
  first
  | (simp [State.modeTick, goesOn_ite, apply_ite State.pending, apply_dite State.pending]; done)
  | (unfold State.modeTick; (try dsimp only); (repeat' split) <;> first | (simp [apply_ite State.pending, apply_dite State.pending, *]; done) | (simp [State.offer_pending _ _ _ _ (by assumption), *]; done) | (simp [State.take_pending _ _ _ _ (by assumption), *]; done) | ((try rw [goesOn_next]); refine (foldl_pending _ _ _ ?_).trans ?_ <;> (first | (intro s a; (repeat' split) <;> simp; done) | simp; done)) | rfl)
@[simp] theorem State.shiftRef_pending (s : State) (a : Fin 96) (shift : Int) : (State.shiftRef s a shift).pending = s.pending := by
  first
  | (simp [State.shiftRef, goesOn_ite, apply_ite State.pending, apply_dite State.pending]; done)
  | (unfold State.shiftRef; (try dsimp only); (repeat' split) <;> first | (simp [apply_ite State.pending, apply_dite State.pending, *]; done) | (simp [State.offer_pending _ _ _ _ (by assumption), *]; done) | (simp [State.take_pending _ _ _ _ (by assumption), *]; done) | ((try rw [goesOn_next]); refine (foldl_pending _ _ _ ?_).trans ?_ <;> (first | (intro s a; (repeat' split) <;> simp; done) | simp; done)) | rfl)
@[simp] theorem State.latchHead_pending (s : State) (a : Fin 96) (shift : Int) : (State.latchHead s a shift).pending = s.pending := by
  first
  | (simp [State.latchHead, goesOn_ite, apply_ite State.pending, apply_dite State.pending]; done)
  | (unfold State.latchHead; (try dsimp only); (repeat' split) <;> first | (simp [apply_ite State.pending, apply_dite State.pending, *]; done) | (simp [State.offer_pending _ _ _ _ (by assumption), *]; done) | (simp [State.take_pending _ _ _ _ (by assumption), *]; done) | ((try rw [goesOn_next]); refine (foldl_pending _ _ _ ?_).trans ?_ <;> (first | (intro s a; (repeat' split) <;> simp; done) | simp; done)) | rfl)
@[simp] theorem State.planLatch_pending (s : State) (a : Fin 96) (shift : Int) (latch : Nat) : (State.planLatch s a shift latch).pending = s.pending := by
  first
  | (simp [State.planLatch, goesOn_ite, apply_ite State.pending, apply_dite State.pending]; done)
  | (unfold State.planLatch; (try dsimp only); (repeat' split) <;> first | (simp [apply_ite State.pending, apply_dite State.pending, *]; done) | (simp [State.offer_pending _ _ _ _ (by assumption), *]; done) | (simp [State.take_pending _ _ _ _ (by assumption), *]; done) | ((try rw [goesOn_next]); refine (foldl_pending _ _ _ ?_).trans ?_ <;> (first | (intro s a; (repeat' split) <;> simp; done) | simp; done)) | rfl)
@[simp] theorem State.psoTick_pending (s : State) (c : Fin 12) : (State.psoTick s c).pending = s.pending := by
  first
  | (simp [State.psoTick, goesOn_ite, apply_ite State.pending, apply_dite State.pending]; done)
  | (unfold State.psoTick; (try dsimp only); (repeat' split) <;> first | (simp [apply_ite State.pending, apply_dite State.pending, *]; done) | (simp [State.offer_pending _ _ _ _ (by assumption), *]; done) | (simp [State.take_pending _ _ _ _ (by assumption), *]; done) | ((try rw [goesOn_next]); refine (foldl_pending _ _ _ ?_).trans ?_ <;> (first | (intro s a; (repeat' split) <;> simp; done) | simp; done)) | rfl)
@[simp] theorem State.ainLatch_pending (s : State) (i : Fin 4) (conv : List (Nat × Int)) : (State.ainLatch s i conv).pending = s.pending := by
  first
  | (simp [State.ainLatch, goesOn_ite, apply_ite State.pending, apply_dite State.pending]; done)
  | (unfold State.ainLatch; (try dsimp only); (repeat' split) <;> first | (simp [apply_ite State.pending, apply_dite State.pending, *]; done) | (simp [State.offer_pending _ _ _ _ (by assumption), *]; done) | (simp [State.take_pending _ _ _ _ (by assumption), *]; done) | ((try rw [goesOn_next]); refine (foldl_pending _ _ _ ?_).trans ?_ <;> (first | (intro s a; (repeat' split) <;> simp; done) | simp; done)) | rfl)
@[simp] theorem State.startQueued_pending (s : State) (a : Fin 96) (x0 : List Segment) : (State.startQueued s a x0).pending = s.pending := by
  induction x0 generalizing s a with
  | nil => rfl
  | cons x xs ih => (unfold State.startQueued; (try dsimp only); (repeat' split) <;> first | (simp [apply_ite State.pending, apply_dite State.pending, ih, *]; done) | (simp [State.offer_pending _ _ _ _ (by assumption), ih, *]; done) | (simp [State.take_pending _ _ _ _ (by assumption), ih, *]; done) | ((try rw [goesOn_next]); refine (foldl_pending _ _ _ ?_).trans ?_ <;> (first | (intro s a; (repeat' split) <;> simp; done) | simp; done)) | rfl)
@[simp] theorem State.completeSeg_pending (s : State) (a : Fin 96) : (State.completeSeg s a).pending = s.pending := by
  first
  | (simp [State.completeSeg, goesOn_ite, apply_ite State.pending, apply_dite State.pending]; done)
  | (unfold State.completeSeg; (try dsimp only); (repeat' split) <;> first | (simp [apply_ite State.pending, apply_dite State.pending, *]; done) | (simp [State.offer_pending _ _ _ _ (by assumption), *]; done) | (simp [State.take_pending _ _ _ _ (by assumption), *]; done) | ((try rw [goesOn_next]); refine (foldl_pending _ _ _ ?_).trans ?_ <;> (first | (intro s a; (repeat' split) <;> simp; done) | simp; done)) | rfl)
@[simp] theorem segOffer_goesOn (g : Segment) (s : State) : goesOn s (segOffer g s) := by
  first
  | (simp [segOffer, goesOn_ite, apply_ite State.pending, apply_dite State.pending]; done)
  | (unfold segOffer; (try dsimp only); (repeat' split) <;> first | (simp [apply_ite State.pending, apply_dite State.pending, *]; done) | (simp [State.offer_pending _ _ _ _ (by assumption), *]; done) | (simp [State.take_pending _ _ _ _ (by assumption), *]; done) | ((try rw [goesOn_next]); refine (foldl_pending _ _ _ ?_).trans ?_ <;> (first | (intro s a; (repeat' split) <;> simp; done) | simp; done)) | rfl)
@[simp] theorem execPosSegment_goesOn (a : Nat) (start : Nat) (relative : Bool) (withLimits : Bool) (target : Int) (vmax : Nat) (amax : Nat) (dmax : Nat) (jmax : Nat) (seq : Nat) (s : State) : goesOn s (execPosSegment a start relative withLimits target vmax amax dmax jmax seq s) := by
  first
  | (simp [execPosSegment, goesOn_ite, apply_ite State.pending, apply_dite State.pending]; done)
  | (unfold execPosSegment; (try dsimp only); (repeat' split) <;> first | (simp [apply_ite State.pending, apply_dite State.pending, *]; done) | (simp [State.offer_pending _ _ _ _ (by assumption), *]; done) | (simp [State.take_pending _ _ _ _ (by assumption), *]; done) | ((try rw [goesOn_next]); refine (foldl_pending _ _ _ ?_).trans ?_ <;> (first | (intro s a; (repeat' split) <;> simp; done) | simp; done)) | rfl)
@[simp] theorem execVelSegment_goesOn (a : Nat) (start : Nat) (withLimits : Bool) (target : Int) (vmax : Nat) (amax : Nat) (dmax : Nat) (jmax : Nat) (seq : Nat) (s : State) : goesOn s (execVelSegment a start withLimits target vmax amax dmax jmax seq s) := by
  first
  | (simp [execVelSegment, goesOn_ite, apply_ite State.pending, apply_dite State.pending]; done)
  | (unfold execVelSegment; (try dsimp only); (repeat' split) <;> first | (simp [apply_ite State.pending, apply_dite State.pending, *]; done) | (simp [State.offer_pending _ _ _ _ (by assumption), *]; done) | (simp [State.take_pending _ _ _ _ (by assumption), *]; done) | ((try rw [goesOn_next]); refine (foldl_pending _ _ _ ?_).trans ?_ <;> (first | (intro s a; (repeat' split) <;> simp; done) | simp; done)) | rfl)
@[simp] theorem execStopSegment_goesOn (a : Nat) (seq : Nat) (s : State) : goesOn s (execStopSegment a seq s) := by
  first
  | (simp [execStopSegment, goesOn_ite, apply_ite State.pending, apply_dite State.pending]; done)
  | (unfold execStopSegment; (try dsimp only); (repeat' split) <;> first | (simp [apply_ite State.pending, apply_dite State.pending, *]; done) | (simp [State.offer_pending _ _ _ _ (by assumption), *]; done) | (simp [State.take_pending _ _ _ _ (by assumption), *]; done) | ((try rw [goesOn_next]); refine (foldl_pending _ _ _ ?_).trans ?_ <;> (first | (intro s a; (repeat' split) <;> simp; done) | simp; done)) | rfl)
@[simp] theorem execLimitsSegment_goesOn (a : Nat) (start : Nat) (vmax : Nat) (amax : Nat) (dmax : Nat) (jmax : Nat) (seq : Nat) (s : State) : goesOn s (execLimitsSegment a start vmax amax dmax jmax seq s) := by
  first
  | (simp [execLimitsSegment, goesOn_ite, apply_ite State.pending, apply_dite State.pending]; done)
  | (unfold execLimitsSegment; (try dsimp only); (repeat' split) <;> first | (simp [apply_ite State.pending, apply_dite State.pending, *]; done) | (simp [State.offer_pending _ _ _ _ (by assumption), *]; done) | (simp [State.take_pending _ _ _ _ (by assumption), *]; done) | ((try rw [goesOn_next]); refine (foldl_pending _ _ _ ?_).trans ?_ <;> (first | (intro s a; (repeat' split) <;> simp; done) | simp; done)) | rfl)
@[simp] theorem execHomeSegment_goesOn (a : Nat) (start : Nat) (withLimits : Bool) (target : Int) (vmax : Nat) (amax : Nat) (dmax : Nat) (jmax : Nat) (param : Nat) (seq : Nat) (s : State) : goesOn s (execHomeSegment a start withLimits target vmax amax dmax jmax param seq s) := by
  first
  | (simp [execHomeSegment, goesOn_ite, apply_ite State.pending, apply_dite State.pending]; done)
  | (unfold execHomeSegment; (try dsimp only); (repeat' split) <;> first | (simp [apply_ite State.pending, apply_dite State.pending, *]; done) | (simp [State.offer_pending _ _ _ _ (by assumption), *]; done) | (simp [State.take_pending _ _ _ _ (by assumption), *]; done) | ((try rw [goesOn_next]); refine (foldl_pending _ _ _ ?_).trans ?_ <;> (first | (intro s a; (repeat' split) <;> simp; done) | simp; done)) | rfl)
@[simp] theorem execSetposSegment_goesOn (a : Nat) (start : Nat) (target : Int) (seq : Nat) (s : State) : goesOn s (execSetposSegment a start target seq s) := by
  first
  | (simp [execSetposSegment, goesOn_ite, apply_ite State.pending, apply_dite State.pending]; done)
  | (unfold execSetposSegment; (try dsimp only); (repeat' split) <;> first | (simp [apply_ite State.pending, apply_dite State.pending, *]; done) | (simp [State.offer_pending _ _ _ _ (by assumption), *]; done) | (simp [State.take_pending _ _ _ _ (by assumption), *]; done) | ((try rw [goesOn_next]); refine (foldl_pending _ _ _ ?_).trans ?_ <;> (first | (intro s a; (repeat' split) <;> simp; done) | simp; done)) | rfl)
@[simp] theorem execFollowSegment_goesOn (a : Nat) (start : Nat) (withLimits : Bool) (vmax : Nat) (amax : Nat) (dmax : Nat) (jmax : Nat) (param : Nat) (seq : Nat) (s : State) : goesOn s (execFollowSegment a start withLimits vmax amax dmax jmax param seq s) := by
  first
  | (simp [execFollowSegment, goesOn_ite, apply_ite State.pending, apply_dite State.pending]; done)
  | (unfold execFollowSegment; (try dsimp only); (repeat' split) <;> first | (simp [apply_ite State.pending, apply_dite State.pending, *]; done) | (simp [State.offer_pending _ _ _ _ (by assumption), *]; done) | (simp [State.take_pending _ _ _ _ (by assumption), *]; done) | ((try rw [goesOn_next]); refine (foldl_pending _ _ _ ?_).trans ?_ <;> (first | (intro s a; (repeat' split) <;> simp; done) | simp; done)) | rfl)
@[simp] theorem execSegmentComplete_goesOn (a : Fin 96) (s : State) : goesOn s (execSegmentComplete a s) := by
  first
  | (simp [execSegmentComplete, goesOn_ite, apply_ite State.pending, apply_dite State.pending]; done)
  | (unfold execSegmentComplete; (try dsimp only); (repeat' split) <;> first | (simp [apply_ite State.pending, apply_dite State.pending, *]; done) | (simp [State.offer_pending _ _ _ _ (by assumption), *]; done) | (simp [State.take_pending _ _ _ _ (by assumption), *]; done) | ((try rw [goesOn_next]); refine (foldl_pending _ _ _ ?_).trans ?_ <;> (first | (intro s a; (repeat' split) <;> simp; done) | simp; done)) | rfl)
@[simp] theorem execPlnStop_goesOn (a : Fin 96) (s : State) : goesOn s (execPlnStop a s) := by
  first
  | (simp [execPlnStop, goesOn_ite, apply_ite State.pending, apply_dite State.pending]; done)
  | (unfold execPlnStop; (try dsimp only); (repeat' split) <;> first | (simp [apply_ite State.pending, apply_dite State.pending, *]; done) | (simp [State.offer_pending _ _ _ _ (by assumption), *]; done) | (simp [State.take_pending _ _ _ _ (by assumption), *]; done) | ((try rw [goesOn_next]); refine (foldl_pending _ _ _ ?_).trans ?_ <;> (first | (intro s a; (repeat' split) <;> simp; done) | simp; done)) | rfl)
@[simp] theorem execPlnQstop_goesOn (a : Fin 96) (s : State) : goesOn s (execPlnQstop a s) := by
  first
  | (simp [execPlnQstop, goesOn_ite, apply_ite State.pending, apply_dite State.pending]; done)
  | (unfold execPlnQstop; (try dsimp only); (repeat' split) <;> first | (simp [apply_ite State.pending, apply_dite State.pending, *]; done) | (simp [State.offer_pending _ _ _ _ (by assumption), *]; done) | (simp [State.take_pending _ _ _ _ (by assumption), *]; done) | ((try rw [goesOn_next]); refine (foldl_pending _ _ _ ?_).trans ?_ <;> (first | (intro s a; (repeat' split) <;> simp; done) | simp; done)) | rfl)
@[simp] theorem execPlnFlush_goesOn (a : Fin 96) (s : State) : goesOn s (execPlnFlush a s) := by
  first
  | (simp [execPlnFlush, goesOn_ite, apply_ite State.pending, apply_dite State.pending]; done)
  | (unfold execPlnFlush; (try dsimp only); (repeat' split) <;> first | (simp [apply_ite State.pending, apply_dite State.pending, *]; done) | (simp [State.offer_pending _ _ _ _ (by assumption), *]; done) | (simp [State.take_pending _ _ _ _ (by assumption), *]; done) | ((try rw [goesOn_next]); refine (foldl_pending _ _ _ ?_).trans ?_ <;> (first | (intro s a; (repeat' split) <;> simp; done) | simp; done)) | rfl)
@[simp] theorem execPlannerLimitWrite_goesOn (a : Fin 96) (reg : Fin 5) (value : Word) (s : State) : goesOn s (execPlannerLimitWrite a reg value s) := by
  first
  | (simp [execPlannerLimitWrite, goesOn_ite, apply_ite State.pending, apply_dite State.pending]; done)
  | (unfold execPlannerLimitWrite; (try dsimp only); (repeat' split) <;> first | (simp [apply_ite State.pending, apply_dite State.pending, *]; done) | (simp [State.offer_pending _ _ _ _ (by assumption), *]; done) | (simp [State.take_pending _ _ _ _ (by assumption), *]; done) | ((try rw [goesOn_next]); refine (foldl_pending _ _ _ ?_).trans ?_ <;> (first | (intro s a; (repeat' split) <;> simp; done) | simp; done)) | rfl)
@[simp] theorem execPlnHomeFail_goesOn (a : Fin 96) (s : State) : goesOn s (execPlnHomeFail a s) := by
  first
  | (simp [execPlnHomeFail, goesOn_ite, apply_ite State.pending, apply_dite State.pending]; done)
  | (unfold execPlnHomeFail; (try dsimp only); (repeat' split) <;> first | (simp [apply_ite State.pending, apply_dite State.pending, *]; done) | (simp [State.offer_pending _ _ _ _ (by assumption), *]; done) | (simp [State.take_pending _ _ _ _ (by assumption), *]; done) | ((try rw [goesOn_next]); refine (foldl_pending _ _ _ ?_).trans ?_ <;> (first | (intro s a; (repeat' split) <;> simp; done) | simp; done)) | rfl)
@[simp] theorem execFollowBlendEnd_goesOn (a : Fin 96) (s : State) : goesOn s (execFollowBlendEnd a s) := by
  first
  | (simp [execFollowBlendEnd, goesOn_ite, apply_ite State.pending, apply_dite State.pending]; done)
  | (unfold execFollowBlendEnd; (try dsimp only); (repeat' split) <;> first | (simp [apply_ite State.pending, apply_dite State.pending, *]; done) | (simp [State.offer_pending _ _ _ _ (by assumption), *]; done) | (simp [State.take_pending _ _ _ _ (by assumption), *]; done) | ((try rw [goesOn_next]); refine (foldl_pending _ _ _ ?_).trans ?_ <;> (first | (intro s a; (repeat' split) <;> simp; done) | simp; done)) | rfl)
@[simp] theorem execFollowGearWrite_goesOn (a : Fin 96) (ofs : Bool) (w : Fin 2) (value : Word) (s : State) : goesOn s (execFollowGearWrite a ofs w value s) := by
  first
  | (simp [execFollowGearWrite, goesOn_ite, apply_ite State.pending, apply_dite State.pending]; done)
  | (unfold execFollowGearWrite; (try dsimp only); (repeat' split) <;> first | (simp [apply_ite State.pending, apply_dite State.pending, *]; done) | (simp [State.offer_pending _ _ _ _ (by assumption), *]; done) | (simp [State.take_pending _ _ _ _ (by assumption), *]; done) | ((try rw [goesOn_next]); refine (foldl_pending _ _ _ ?_).trans ?_ <;> (first | (intro s a; (repeat' split) <;> simp; done) | simp; done)) | rfl)
@[simp] theorem execPlnFollowLost_goesOn (a : Fin 96) (s : State) : goesOn s (execPlnFollowLost a s) := by
  first
  | (simp [execPlnFollowLost, goesOn_ite, apply_ite State.pending, apply_dite State.pending]; done)
  | (unfold execPlnFollowLost; (try dsimp only); (repeat' split) <;> first | (simp [apply_ite State.pending, apply_dite State.pending, *]; done) | (simp [State.offer_pending _ _ _ _ (by assumption), *]; done) | (simp [State.take_pending _ _ _ _ (by assumption), *]; done) | ((try rw [goesOn_next]); refine (foldl_pending _ _ _ ?_).trans ?_ <;> (first | (intro s a; (repeat' split) <;> simp; done) | simp; done)) | rfl)

end Sys2Proof.Machine
end

