-- ==== Sys2Proof/Laws/QueueSteps.lean ====
section
/-! SUPPORT. The operations of Machine/Steps.lean leave the queue of waiting commands alone. -/

namespace Sys2Proof.Machine

@[simp] theorem State.modPp_pending (s : State) (p : Fin 32) (g : PowerPort → PowerPort) : (State.modPp s p g).pending = s.pending := by
  first
  | (simp [State.modPp, goesOn_ite, apply_ite State.pending, apply_dite State.pending]; done)
  | (unfold State.modPp; (try dsimp only); (repeat' split) <;> first | (simp [apply_ite State.pending, apply_dite State.pending, *]; done) | (simp [State.offer_pending _ _ _ _ (by assumption), *]; done) | (simp [State.take_pending _ _ _ _ (by assumption), *]; done) | ((try rw [goesOn_next]); refine (foldl_pending _ _ _ ?_).trans ?_ <;> (first | (intro s a; (repeat' split) <;> simp; done) | simp; done)) | rfl)
@[simp] theorem State.modCoil_pending (s : State) (p : Fin 32) (b : Bool) (g : Coil → Coil) : (State.modCoil s p b g).pending = s.pending := by
  first
  | (simp [State.modCoil, goesOn_ite, apply_ite State.pending, apply_dite State.pending]; done)
  | (unfold State.modCoil; (try dsimp only); (repeat' split) <;> first | (simp [apply_ite State.pending, apply_dite State.pending, *]; done) | (simp [State.offer_pending _ _ _ _ (by assumption), *]; done) | (simp [State.take_pending _ _ _ _ (by assumption), *]; done) | ((try rw [goesOn_next]); refine (foldl_pending _ _ _ ?_).trans ?_ <;> (first | (intro s a; (repeat' split) <;> simp; done) | simp; done)) | rfl)
@[simp] theorem State.account_pending (s : State) (p : Fin 32) (b : Bool) (t : Nat) : (State.account s p b t).pending = s.pending := by
  first
  | (simp [State.account, goesOn_ite, apply_ite State.pending, apply_dite State.pending]; done)
  | (unfold State.account; (try dsimp only); (repeat' split) <;> first | (simp [apply_ite State.pending, apply_dite State.pending, *]; done) | (simp [State.offer_pending _ _ _ _ (by assumption), *]; done) | (simp [State.take_pending _ _ _ _ (by assumption), *]; done) | ((try rw [goesOn_next]); refine (foldl_pending _ _ _ ?_).trans ?_ <;> (first | (intro s a; (repeat' split) <;> simp; done) | simp; done)) | rfl)
@[simp] theorem State.drive_pending (s : State) (p : Fin 32) (b : Bool) (t : Nat) : (State.drive s p b t).pending = s.pending := by
  first
  | (simp [State.drive, goesOn_ite, apply_ite State.pending, apply_dite State.pending]; done)
  | (unfold State.drive; (try dsimp only); (repeat' split) <;> first | (simp [apply_ite State.pending, apply_dite State.pending, *]; done) | (simp [State.offer_pending _ _ _ _ (by assumption), *]; done) | (simp [State.take_pending _ _ _ _ (by assumption), *]; done) | ((try rw [goesOn_next]); refine (foldl_pending _ _ _ ?_).trans ?_ <;> (first | (intro s a; (repeat' split) <;> simp; done) | simp; done)) | rfl)
@[simp] theorem State.switchCoil_pending (s : State) (p : Fin 32) (b : Bool) (on : Bool) (forced : Bool) (t : Nat) : (State.switchCoil s p b on forced t).pending = s.pending := by
  first
  | (simp [State.switchCoil, goesOn_ite, apply_ite State.pending, apply_dite State.pending]; done)
  | (unfold State.switchCoil; (try dsimp only); (repeat' split) <;> first | (simp [apply_ite State.pending, apply_dite State.pending, *]; done) | (simp [State.offer_pending _ _ _ _ (by assumption), *]; done) | (simp [State.take_pending _ _ _ _ (by assumption), *]; done) | ((try rw [goesOn_next]); refine (foldl_pending _ _ _ ?_).trans ?_ <;> (first | (intro s a; (repeat' split) <;> simp; done) | simp; done)) | rfl)
@[simp] theorem State.setStar_pending (s : State) (p : Fin 32) (b : Bool) (star : Int) (t : Nat) : (State.setStar s p b star t).pending = s.pending := by
  first
  | (simp [State.setStar, goesOn_ite, apply_ite State.pending, apply_dite State.pending]; done)
  | (unfold State.setStar; (try dsimp only); (repeat' split) <;> first | (simp [apply_ite State.pending, apply_dite State.pending, *]; done) | (simp [State.offer_pending _ _ _ _ (by assumption), *]; done) | (simp [State.take_pending _ _ _ _ (by assumption), *]; done) | ((try rw [goesOn_next]); refine (foldl_pending _ _ _ ?_).trans ?_ <;> (first | (intro s a; (repeat' split) <;> simp; done) | simp; done)) | rfl)
@[simp] theorem State.gateUpdate_pending (s : State) (p : Fin 32) : (State.gateUpdate s p).pending = s.pending := by
  first
  | (simp [State.gateUpdate, goesOn_ite, apply_ite State.pending, apply_dite State.pending]; done)
  | (unfold State.gateUpdate; (try dsimp only); (repeat' split) <;> first | (simp [apply_ite State.pending, apply_dite State.pending, *]; done) | (simp [State.offer_pending _ _ _ _ (by assumption), *]; done) | (simp [State.take_pending _ _ _ _ (by assumption), *]; done) | ((try rw [goesOn_next]); refine (foldl_pending _ _ _ ?_).trans ?_ <;> (first | (intro s a; (repeat' split) <;> simp; done) | simp; done)) | rfl)
@[simp] theorem State.applyPhase_pending (s : State) (a : Fin 96) (t : Nat) : (State.applyPhase s a t).pending = s.pending := by
  first
  | (simp [State.applyPhase, goesOn_ite, apply_ite State.pending, apply_dite State.pending]; done)
  | (unfold State.applyPhase; (try dsimp only); (repeat' split) <;> first | (simp [apply_ite State.pending, apply_dite State.pending, *]; done) | (simp [State.offer_pending _ _ _ _ (by assumption), *]; done) | (simp [State.take_pending _ _ _ _ (by assumption), *]; done) | ((try rw [goesOn_next]); refine (foldl_pending _ _ _ ?_).trans ?_ <;> (first | (intro s a; (repeat' split) <;> simp; done) | simp; done)) | rfl)
@[simp] theorem State.chop_pending (s : State) (p : Fin 32) (b : Bool) (i : Int) (t : Nat) : (State.chop s p b i t).pending = s.pending := by
  first
  | (simp [State.chop, goesOn_ite, apply_ite State.pending, apply_dite State.pending]; done)
  | (unfold State.chop; (try dsimp only); (repeat' split) <;> first | (simp [apply_ite State.pending, apply_dite State.pending, *]; done) | (simp [State.offer_pending _ _ _ _ (by assumption), *]; done) | (simp [State.take_pending _ _ _ _ (by assumption), *]; done) | ((try rw [goesOn_next]); refine (foldl_pending _ _ _ ?_).trans ?_ <;> (first | (intro s a; (repeat' split) <;> simp; done) | simp; done)) | rfl)
@[simp] theorem State.coilPeriod_pending (s : State) (p : Fin 32) (b : Bool) (m : Int) (vbus : Int) (t : Nat) : (State.coilPeriod s p b m vbus t).pending = s.pending := by
  first
  | (simp [State.coilPeriod, goesOn_ite, apply_ite State.pending, apply_dite State.pending]; done)
  | (unfold State.coilPeriod; (try dsimp only); (repeat' split) <;> first | (simp [apply_ite State.pending, apply_dite State.pending, *]; done) | (simp [State.offer_pending _ _ _ _ (by assumption), *]; done) | (simp [State.take_pending _ _ _ _ (by assumption), *]; done) | ((try rw [goesOn_next]); refine (foldl_pending _ _ _ ?_).trans ?_ <;> (first | (intro s a; (repeat' split) <;> simp; done) | simp; done)) | rfl)
@[simp] theorem State.portPeriod_pending (s : State) (p : Fin 32) (ch0 : Int) (ch1 : Int) (ch2 : Int) (t : Nat) : (State.portPeriod s p ch0 ch1 ch2 t).pending = s.pending := by
  first
  | (simp [State.portPeriod, goesOn_ite, apply_ite State.pending, apply_dite State.pending]; done)
  | (unfold State.portPeriod; (try dsimp only); (repeat' split) <;> first | (simp [apply_ite State.pending, apply_dite State.pending, *]; done) | (simp [State.offer_pending _ _ _ _ (by assumption), *]; done) | (simp [State.take_pending _ _ _ _ (by assumption), *]; done) | ((try rw [goesOn_next]); refine (foldl_pending _ _ _ ?_).trans ?_ <;> (first | (intro s a; (repeat' split) <;> simp; done) | simp; done)) | rfl)
@[simp] theorem State.setDuty_pending (s : State) (p : Fin 32) (ds : List Int) : (State.setDuty s p ds).pending = s.pending := by
  first
  | (simp [State.setDuty, goesOn_ite, apply_ite State.pending, apply_dite State.pending]; done)
  | (unfold State.setDuty; (try dsimp only); (repeat' split) <;> first | (simp [apply_ite State.pending, apply_dite State.pending, *]; done) | (simp [State.offer_pending _ _ _ _ (by assumption), *]; done) | (simp [State.take_pending _ _ _ _ (by assumption), *]; done) | ((try rw [goesOn_next]); refine (foldl_pending _ _ _ ?_).trans ?_ <;> (first | (intro s a; (repeat' split) <;> simp; done) | simp; done)) | rfl)
@[simp] theorem State.levelStep_pending (s : State) (a : Fin 96) : (State.levelStep s a).pending = s.pending := by
  first
  | (simp [State.levelStep, goesOn_ite, apply_ite State.pending, apply_dite State.pending]; done)
  | (unfold State.levelStep; (try dsimp only); (repeat' split) <;> first | (simp [apply_ite State.pending, apply_dite State.pending, *]; done) | (simp [State.offer_pending _ _ _ _ (by assumption), *]; done) | (simp [State.take_pending _ _ _ _ (by assumption), *]; done) | ((try rw [goesOn_next]); refine (foldl_pending _ _ _ ?_).trans ?_ <;> (first | (intro s a; (repeat' split) <;> simp; done) | simp; done)) | rfl)
@[simp] theorem State.levelRun_pending (s : State) (a : Fin 96) (x0 : Nat) : (State.levelRun s a x0).pending = s.pending := by
  induction x0 generalizing s a with
  | zero => rfl
  | succ k ih => (unfold State.levelRun; (try dsimp only); (repeat' split) <;> first | (simp [apply_ite State.pending, apply_dite State.pending, ih, *]; done) | (simp [State.offer_pending _ _ _ _ (by assumption), ih, *]; done) | (simp [State.take_pending _ _ _ _ (by assumption), ih, *]; done) | ((try rw [goesOn_next]); refine (foldl_pending _ _ _ ?_).trans ?_ <;> (first | (intro s a; (repeat' split) <;> simp; done) | simp; done)) | rfl)
@[simp] theorem State.settleLevel_pending (s : State) (a : Fin 96) (l : Nat) : (State.settleLevel s a l).pending = s.pending := by
  first
  | (simp [State.settleLevel, goesOn_ite, apply_ite State.pending, apply_dite State.pending]; done)
  | (unfold State.settleLevel; (try dsimp only); (repeat' split) <;> first | (simp [apply_ite State.pending, apply_dite State.pending, *]; done) | (simp [State.offer_pending _ _ _ _ (by assumption), *]; done) | (simp [State.take_pending _ _ _ _ (by assumption), *]; done) | ((try rw [goesOn_next]); refine (foldl_pending _ _ _ ?_).trans ?_ <;> (first | (intro s a; (repeat' split) <;> simp; done) | simp; done)) | rfl)
@[simp] theorem State.stepX_pending (s : State) (a : Fin 96) (d : Int) (t : Nat) : (State.stepX s a d t).pending = s.pending := by
  first
  | (simp [State.stepX, goesOn_ite, apply_ite State.pending, apply_dite State.pending]; done)
  | (unfold State.stepX; (try dsimp only); (repeat' split) <;> first | (simp [apply_ite State.pending, apply_dite State.pending, *]; done) | (simp [State.offer_pending _ _ _ _ (by assumption), *]; done) | (simp [State.take_pending _ _ _ _ (by assumption), *]; done) | ((try rw [goesOn_next]); refine (foldl_pending _ _ _ ?_).trans ?_ <;> (first | (intro s a; (repeat' split) <;> simp; done) | simp; done)) | rfl)
@[simp] theorem State.showCoil_pending (s : State) (a : Fin 96) (i : Nat) (valid : Bool) (δ : Int) (holding : Bool) : (State.showCoil s a i valid δ holding).pending = s.pending := by
  first
  | (simp [State.showCoil, goesOn_ite, apply_ite State.pending, apply_dite State.pending]; done)
  | (unfold State.showCoil; (try dsimp only); (repeat' split) <;> first | (simp [apply_ite State.pending, apply_dite State.pending, *]; done) | (simp [State.offer_pending _ _ _ _ (by assumption), *]; done) | (simp [State.take_pending _ _ _ _ (by assumption), *]; done) | ((try rw [goesOn_next]); refine (foldl_pending _ _ _ ?_).trans ?_ <;> (first | (intro s a; (repeat' split) <;> simp; done) | simp; done)) | rfl)
@[simp] theorem State.restartSums_pending (s : State) (port : Option (Fin 32)) (holding : Bool) : (State.restartSums s port holding).pending = s.pending := by
  first
  | (simp [State.restartSums, goesOn_ite, apply_ite State.pending, apply_dite State.pending]; done)
  | (unfold State.restartSums; (try dsimp only); (repeat' split) <;> first | (simp [apply_ite State.pending, apply_dite State.pending, *]; done) | (simp [State.offer_pending _ _ _ _ (by assumption), *]; done) | (simp [State.take_pending _ _ _ _ (by assumption), *]; done) | ((try rw [goesOn_next]); refine (foldl_pending _ _ _ ?_).trans ?_ <;> (first | (intro s a; (repeat' split) <;> simp; done) | simp; done)) | rfl)
@[simp] theorem State.stpTick_pending (s : State) (a : Fin 96) : (State.stpTick s a).pending = s.pending := by
  first
  | (simp [State.stpTick, goesOn_ite, apply_ite State.pending, apply_dite State.pending]; done)
  | (unfold State.stpTick; (try dsimp only); (repeat' split) <;> first | (simp [apply_ite State.pending, apply_dite State.pending, *]; done) | (simp [State.offer_pending _ _ _ _ (by assumption), *]; done) | (simp [State.take_pending _ _ _ _ (by assumption), *]; done) | ((try rw [goesOn_next]); refine (foldl_pending _ _ _ ?_).trans ?_ <;> (first | (intro s a; (repeat' split) <;> simp; done) | simp; done)) | rfl)
@[simp] theorem State.startCal_pending (s : State) (p : Fin 32) : (State.startCal s p).pending = s.pending := by
  first
  | (simp [State.startCal, goesOn_ite, apply_ite State.pending, apply_dite State.pending]; done)
  | (unfold State.startCal; (try dsimp only); (repeat' split) <;> first | (simp [apply_ite State.pending, apply_dite State.pending, *]; done) | (simp [State.offer_pending _ _ _ _ (by assumption), *]; done) | (simp [State.take_pending _ _ _ _ (by assumption), *]; done) | ((try rw [goesOn_next]); refine (foldl_pending _ _ _ ?_).trans ?_ <;> (first | (intro s a; (repeat' split) <;> simp; done) | simp; done)) | rfl)
@[simp] theorem State.portFault_pending (s : State) (p : Fin 32) (f : Fld) (kind : Nat) (cls : Nat) (level : Nat) (items : List CtxItem) : (State.portFault s p f kind cls level items).pending = s.pending := by
  first
  | (simp [State.portFault, goesOn_ite, apply_ite State.pending, apply_dite State.pending]; done)
  | (unfold State.portFault; (try dsimp only); (repeat' split) <;> first | (simp [apply_ite State.pending, apply_dite State.pending, *]; done) | (simp [State.offer_pending _ _ _ _ (by assumption), *]; done) | (simp [State.take_pending _ _ _ _ (by assumption), *]; done) | ((try rw [goesOn_next]); refine (foldl_pending _ _ _ ?_).trans ?_ <;> (first | (intro s a; (repeat' split) <;> simp; done) | simp; done)) | rfl)
@[simp] theorem execAppliedPositionStep_goesOn (a : Fin 96) (t : Nat) (s : State) : goesOn s (execAppliedPositionStep a t s) := by
  first
  | (simp [execAppliedPositionStep, goesOn_ite, apply_ite State.pending, apply_dite State.pending]; done)
  | (unfold execAppliedPositionStep; (try dsimp only); (repeat' split) <;> first | (simp [apply_ite State.pending, apply_dite State.pending, *]; done) | (simp [State.offer_pending _ _ _ _ (by assumption), *]; done) | (simp [State.take_pending _ _ _ _ (by assumption), *]; done) | ((try rw [goesOn_next]); refine (foldl_pending _ _ _ ?_).trans ?_ <;> (first | (intro s a; (repeat' split) <;> simp; done) | simp; done)) | rfl)
@[simp] theorem execRawMove_goesOn (a : Fin 96) (target : Word) (s : State) : goesOn s (execRawMove a target s) := by
  first
  | (simp [execRawMove, goesOn_ite, apply_ite State.pending, apply_dite State.pending]; done)
  | (unfold execRawMove; (try dsimp only); (repeat' split) <;> first | (simp [apply_ite State.pending, apply_dite State.pending, *]; done) | (simp [State.offer_pending _ _ _ _ (by assumption), *]; done) | (simp [State.take_pending _ _ _ _ (by assumption), *]; done) | ((try rw [goesOn_next]); refine (foldl_pending _ _ _ ?_).trans ?_ <;> (first | (intro s a; (repeat' split) <;> simp; done) | simp; done)) | rfl)
@[simp] theorem execRawDone_goesOn (a : Fin 96) (s : State) : goesOn s (execRawDone a s) := by
  first
  | (simp [execRawDone, goesOn_ite, apply_ite State.pending, apply_dite State.pending]; done)
  | (unfold execRawDone; (try dsimp only); (repeat' split) <;> first | (simp [apply_ite State.pending, apply_dite State.pending, *]; done) | (simp [State.offer_pending _ _ _ _ (by assumption), *]; done) | (simp [State.take_pending _ _ _ _ (by assumption), *]; done) | ((try rw [goesOn_next]); refine (foldl_pending _ _ _ ?_).trans ?_ <;> (first | (intro s a; (repeat' split) <;> simp; done) | simp; done)) | rfl)
@[simp] theorem execHoldCurrent_goesOn (a : Fin 96) (s : State) : goesOn s (execHoldCurrent a s) := by
  first
  | (simp [execHoldCurrent, goesOn_ite, apply_ite State.pending, apply_dite State.pending]; done)
  | (unfold execHoldCurrent; (try dsimp only); (repeat' split) <;> first | (simp [apply_ite State.pending, apply_dite State.pending, *]; done) | (simp [State.offer_pending _ _ _ _ (by assumption), *]; done) | (simp [State.take_pending _ _ _ _ (by assumption), *]; done) | ((try rw [goesOn_next]); refine (foldl_pending _ _ _ ?_).trans ?_ <;> (first | (intro s a; (repeat' split) <;> simp; done) | simp; done)) | rfl)
@[simp] theorem execResistanceLearn_goesOn (a : Fin 96) (s : State) : goesOn s (execResistanceLearn a s) := by
  first
  | (simp [execResistanceLearn, goesOn_ite, apply_ite State.pending, apply_dite State.pending]; done)
  | (unfold execResistanceLearn; (try dsimp only); (repeat' split) <;> first | (simp [apply_ite State.pending, apply_dite State.pending, *]; done) | (simp [State.offer_pending _ _ _ _ (by assumption), *]; done) | (simp [State.take_pending _ _ _ _ (by assumption), *]; done) | ((try rw [goesOn_next]); refine (foldl_pending _ _ _ ?_).trans ?_ <;> (first | (intro s a; (repeat' split) <;> simp; done) | simp; done)) | rfl)
@[simp] theorem execStpStallRisk_goesOn (a : Fin 96) (s : State) : goesOn s (execStpStallRisk a s) := by
  first
  | (simp [execStpStallRisk, goesOn_ite, apply_ite State.pending, apply_dite State.pending]; done)
  | (unfold execStpStallRisk; (try dsimp only); (repeat' split) <;> first | (simp [apply_ite State.pending, apply_dite State.pending, *]; done) | (simp [State.offer_pending _ _ _ _ (by assumption), *]; done) | (simp [State.take_pending _ _ _ _ (by assumption), *]; done) | ((try rw [goesOn_next]); refine (foldl_pending _ _ _ ?_).trans ?_ <;> (first | (intro s a; (repeat' split) <;> simp; done) | simp; done)) | rfl)
@[simp] theorem execStallRiskClear_goesOn (a : Fin 96) (value : Word) (s : State) : goesOn s (execStallRiskClear a value s) := by
  first
  | (simp [execStallRiskClear, goesOn_ite, apply_ite State.pending, apply_dite State.pending]; done)
  | (unfold execStallRiskClear; (try dsimp only); (repeat' split) <;> first | (simp [apply_ite State.pending, apply_dite State.pending, *]; done) | (simp [State.offer_pending _ _ _ _ (by assumption), *]; done) | (simp [State.take_pending _ _ _ _ (by assumption), *]; done) | ((try rw [goesOn_next]); refine (foldl_pending _ _ _ ?_).trans ?_ <;> (first | (intro s a; (repeat' split) <;> simp; done) | simp; done)) | rfl)
@[simp] theorem execPpCal_goesOn (p : Fin 32) (s : State) : goesOn s (execPpCal p s) := by
  first
  | (simp [execPpCal, goesOn_ite, apply_ite State.pending, apply_dite State.pending]; done)
  | (unfold execPpCal; (try dsimp only); (repeat' split) <;> first | (simp [apply_ite State.pending, apply_dite State.pending, *]; done) | (simp [State.offer_pending _ _ _ _ (by assumption), *]; done) | (simp [State.take_pending _ _ _ _ (by assumption), *]; done) | ((try rw [goesOn_next]); refine (foldl_pending _ _ _ ?_).trans ?_ <;> (first | (intro s a; (repeat' split) <;> simp; done) | simp; done)) | rfl)
@[simp] theorem execCalDone_goesOn (p : Fin 32) (ch0 : Int) (ch1 : Int) (ch2 : Int) (t : Nat) (s : State) : goesOn s (execCalDone p ch0 ch1 ch2 t s) := by
  first
  | (simp [execCalDone, goesOn_ite, apply_ite State.pending, apply_dite State.pending]; done)
  | (unfold execCalDone; (try dsimp only); (repeat' split) <;> first | (simp [apply_ite State.pending, apply_dite State.pending, *]; done) | (simp [State.offer_pending _ _ _ _ (by assumption), *]; done) | (simp [State.take_pending _ _ _ _ (by assumption), *]; done) | ((try rw [goesOn_next]); refine (foldl_pending _ _ _ ?_).trans ?_ <;> (first | (intro s a; (repeat' split) <;> simp; done) | simp; done)) | rfl)
@[simp] theorem execPpBridgeFault_goesOn (p : Fin 32) (low : Bool) (stood : Nat) (t : Nat) (s : State) : goesOn s (execPpBridgeFault p low stood t s) := by
  first
  | (simp [execPpBridgeFault, goesOn_ite, apply_ite State.pending, apply_dite State.pending]; done)
  | (unfold execPpBridgeFault; (try dsimp only); (repeat' split) <;> first | (simp [apply_ite State.pending, apply_dite State.pending, *]; done) | (simp [State.offer_pending _ _ _ _ (by assumption), *]; done) | (simp [State.take_pending _ _ _ _ (by assumption), *]; done) | ((try rw [goesOn_next]); refine (foldl_pending _ _ _ ?_).trans ?_ <;> (first | (intro s a; (repeat' split) <;> simp; done) | simp; done)) | rfl)
@[simp] theorem State.checkOc_pending (s : State) (p : Fin 32) (ch : Fin 3) (v : Int) : (State.checkOc s p ch v).pending = s.pending := by
  first
  | (simp [State.checkOc, goesOn_ite, apply_ite State.pending, apply_dite State.pending]; done)
  | (unfold State.checkOc; (try dsimp only); (repeat' split) <;> first | (simp [apply_ite State.pending, apply_dite State.pending, *]; done) | (simp [State.offer_pending _ _ _ _ (by assumption), *]; done) | (simp [State.take_pending _ _ _ _ (by assumption), *]; done) | ((try rw [goesOn_next]); refine (foldl_pending _ _ _ ?_).trans ?_ <;> (first | (intro s a; (repeat' split) <;> simp; done) | simp; done)) | rfl)
@[simp] theorem execPpOvercurrent_goesOn (p : Fin 32) (ch : Fin 3) (value : Int) (s : State) : goesOn s (execPpOvercurrent p ch value s) := by
  first
  | (simp [execPpOvercurrent, goesOn_ite, apply_ite State.pending, apply_dite State.pending]; done)
  | (unfold execPpOvercurrent; (try dsimp only); (repeat' split) <;> first | (simp [apply_ite State.pending, apply_dite State.pending, *]; done) | (simp [State.offer_pending _ _ _ _ (by assumption), *]; done) | (simp [State.take_pending _ _ _ _ (by assumption), *]; done) | ((try rw [goesOn_next]); refine (foldl_pending _ _ _ ?_).trans ?_ <;> (first | (intro s a; (repeat' split) <;> simp; done) | simp; done)) | rfl)
@[simp] theorem execPpBusUv_goesOn (p : Fin 32) (s : State) : goesOn s (execPpBusUv p s) := by
  first
  | (simp [execPpBusUv, goesOn_ite, apply_ite State.pending, apply_dite State.pending]; done)
  | (unfold execPpBusUv; (try dsimp only); (repeat' split) <;> first | (simp [apply_ite State.pending, apply_dite State.pending, *]; done) | (simp [State.offer_pending _ _ _ _ (by assumption), *]; done) | (simp [State.take_pending _ _ _ _ (by assumption), *]; done) | ((try rw [goesOn_next]); refine (foldl_pending _ _ _ ?_).trans ?_ <;> (first | (intro s a; (repeat' split) <;> simp; done) | simp; done)) | rfl)
@[simp] theorem execPpBusOv_goesOn (p : Fin 32) (s : State) : goesOn s (execPpBusOv p s) := by
  first
  | (simp [execPpBusOv, goesOn_ite, apply_ite State.pending, apply_dite State.pending]; done)
  | (unfold execPpBusOv; (try dsimp only); (repeat' split) <;> first | (simp [apply_ite State.pending, apply_dite State.pending, *]; done) | (simp [State.offer_pending _ _ _ _ (by assumption), *]; done) | (simp [State.take_pending _ _ _ _ (by assumption), *]; done) | ((try rw [goesOn_next]); refine (foldl_pending _ _ _ ?_).trans ?_ <;> (first | (intro s a; (repeat' split) <;> simp; done) | simp; done)) | rfl)
@[simp] theorem execPpSdLost_goesOn (p : Fin 32) (ch : Fin 3) (cycles : Nat) (s : State) : goesOn s (execPpSdLost p ch cycles s) := by
  first
  | (simp [execPpSdLost, goesOn_ite, apply_ite State.pending, apply_dite State.pending]; done)
  | (unfold execPpSdLost; (try dsimp only); (repeat' split) <;> first | (simp [apply_ite State.pending, apply_dite State.pending, *]; done) | (simp [State.offer_pending _ _ _ _ (by assumption), *]; done) | (simp [State.take_pending _ _ _ _ (by assumption), *]; done) | ((try rw [goesOn_next]); refine (foldl_pending _ _ _ ?_).trans ?_ <;> (first | (intro s a; (repeat' split) <;> simp; done) | simp; done)) | rfl)
@[simp] theorem State.clearIf_pending (s : State) (go : Bool) (f : Fld) (src : Nat) (kind : Nat) : (State.clearIf s go f src kind).pending = s.pending := by
  first
  | (simp [State.clearIf, goesOn_ite, apply_ite State.pending, apply_dite State.pending]; done)
  | (unfold State.clearIf; (try dsimp only); (repeat' split) <;> first | (simp [apply_ite State.pending, apply_dite State.pending, *]; done) | (simp [State.offer_pending _ _ _ _ (by assumption), *]; done) | (simp [State.take_pending _ _ _ _ (by assumption), *]; done) | ((try rw [goesOn_next]); refine (foldl_pending _ _ _ ?_).trans ?_ <;> (first | (intro s a; (repeat' split) <;> simp; done) | simp; done)) | rfl)
@[simp] theorem execPpFaultClear_goesOn (p : Fin 32) (value : Word) (fltLow : Bool) (sdAlive : Bool) (s : State) : goesOn s (execPpFaultClear p value fltLow sdAlive s) := by
  first
  | (simp [execPpFaultClear, goesOn_ite, apply_ite State.pending, apply_dite State.pending]; done)
  | (unfold execPpFaultClear; (try dsimp only); (repeat' split) <;> first | (simp [apply_ite State.pending, apply_dite State.pending, *]; done) | (simp [State.offer_pending _ _ _ _ (by assumption), *]; done) | (simp [State.take_pending _ _ _ _ (by assumption), *]; done) | ((try rw [goesOn_next]); refine (foldl_pending _ _ _ ?_).trans ?_ <;> (first | (intro s a; (repeat' split) <;> simp; done) | simp; done)) | rfl)
@[simp] theorem execFastFilterSample_goesOn (p : Fin 32) (ch : Fin 3) (value : Int) (t : Nat) (s : State) : goesOn s (execFastFilterSample p ch value t s) := by
  first
  | (simp [execFastFilterSample, goesOn_ite, apply_ite State.pending, apply_dite State.pending]; done)
  | (unfold execFastFilterSample; (try dsimp only); (repeat' split) <;> first | (simp [apply_ite State.pending, apply_dite State.pending, *]; done) | (simp [State.offer_pending _ _ _ _ (by assumption), *]; done) | (simp [State.take_pending _ _ _ _ (by assumption), *]; done) | ((try rw [goesOn_next]); refine (foldl_pending _ _ _ ?_).trans ?_ <;> (first | (intro s a; (repeat' split) <;> simp; done) | simp; done)) | rfl)

end Sys2Proof.Machine
end

