-- ==== Sys2Proof/Laws/QueueHardpan.lean ====
section
/-! SUPPORT. The operations of Machine/Hardpan.lean leave the queue of waiting commands alone. -/

namespace Sys2Proof.Machine

@[simp] theorem State.modSafe_pending (s : State) (h : SafeState → SafeState) : (State.modSafe s h).pending = s.pending := by
  first
  | (simp [State.modSafe, goesOn_ite, apply_ite State.pending, apply_dite State.pending]; done)
  | (unfold State.modSafe; (try dsimp only); (repeat' split) <;> first | (simp [apply_ite State.pending, apply_dite State.pending, *]; done) | (simp [State.offer_pending _ _ _ _ (by assumption), *]; done) | (simp [State.take_pending _ _ _ _ (by assumption), *]; done) | ((try rw [goesOn_next]); refine (foldl_pending _ _ _ ?_).trans ?_ <;> (first | (intro s a; (repeat' split) <;> simp; done) | simp; done)) | rfl)
@[simp] theorem State.modChan_pending (s : State) (c : Fin 2) (h : HChan → HChan) : (State.modChan s c h).pending = s.pending := by
  first
  | (simp [State.modChan, goesOn_ite, apply_ite State.pending, apply_dite State.pending]; done)
  | (unfold State.modChan; (try dsimp only); (repeat' split) <;> first | (simp [apply_ite State.pending, apply_dite State.pending, *]; done) | (simp [State.offer_pending _ _ _ _ (by assumption), *]; done) | (simp [State.take_pending _ _ _ _ (by assumption), *]; done) | ((try rw [goesOn_next]); refine (foldl_pending _ _ _ ?_).trans ?_ <;> (first | (intro s a; (repeat' split) <;> simp; done) | simp; done)) | rfl)
@[simp] theorem State.modGroup_pending (s : State) (c : Fin 2) (g : Fin 4) (h : GroupSt → GroupSt) : (State.modGroup s c g h).pending = s.pending := by
  first
  | (simp [State.modGroup, goesOn_ite, apply_ite State.pending, apply_dite State.pending]; done)
  | (unfold State.modGroup; (try dsimp only); (repeat' split) <;> first | (simp [apply_ite State.pending, apply_dite State.pending, *]; done) | (simp [State.offer_pending _ _ _ _ (by assumption), *]; done) | (simp [State.take_pending _ _ _ _ (by assumption), *]; done) | ((try rw [goesOn_next]); refine (foldl_pending _ _ _ ?_).trans ?_ <;> (first | (intro s a; (repeat' split) <;> simp; done) | simp; done)) | rfl)
@[simp] theorem State.modPair_pending (s : State) (p : Fin 32) (h : PairSt → PairSt) : (State.modPair s p h).pending = s.pending := by
  first
  | (simp [State.modPair, goesOn_ite, apply_ite State.pending, apply_dite State.pending]; done)
  | (unfold State.modPair; (try dsimp only); (repeat' split) <;> first | (simp [apply_ite State.pending, apply_dite State.pending, *]; done) | (simp [State.offer_pending _ _ _ _ (by assumption), *]; done) | (simp [State.take_pending _ _ _ _ (by assumption), *]; done) | ((try rw [goesOn_next]); refine (foldl_pending _ _ _ ?_).trans ?_ <;> (first | (intro s a; (repeat' split) <;> simp; done) | simp; done)) | rfl)
@[simp] theorem State.modDie_pending (s : State) (d : Fin 2) (h : DieSt → DieSt) : (State.modDie s d h).pending = s.pending := by
  first
  | (simp [State.modDie, goesOn_ite, apply_ite State.pending, apply_dite State.pending]; done)
  | (unfold State.modDie; (try dsimp only); (repeat' split) <;> first | (simp [apply_ite State.pending, apply_dite State.pending, *]; done) | (simp [State.offer_pending _ _ _ _ (by assumption), *]; done) | (simp [State.take_pending _ _ _ _ (by assumption), *]; done) | ((try rw [goesOn_next]); refine (foldl_pending _ _ _ ?_).trans ?_ <;> (first | (intro s a; (repeat' split) <;> simp; done) | simp; done)) | rfl)
@[simp] theorem State.modConn_pending (s : State) (n : Nat) (h : ConnSt → ConnSt) : (State.modConn s n h).pending = s.pending := by
  first
  | (simp [State.modConn, goesOn_ite, apply_ite State.pending, apply_dite State.pending]; done)
  | (unfold State.modConn; (try dsimp only); (repeat' split) <;> first | (simp [apply_ite State.pending, apply_dite State.pending, *]; done) | (simp [State.offer_pending _ _ _ _ (by assumption), *]; done) | (simp [State.take_pending _ _ _ _ (by assumption), *]; done) | ((try rw [goesOn_next]); refine (foldl_pending _ _ _ ?_).trans ?_ <;> (first | (intro s a; (repeat' split) <;> simp; done) | simp; done)) | rfl)
@[simp] theorem State.showGroup_pending (s : State) (g : Fin 4) : (State.showGroup s g).pending = s.pending := by
  first
  | (simp [State.showGroup, goesOn_ite, apply_ite State.pending, apply_dite State.pending]; done)
  | (unfold State.showGroup; (try dsimp only); (repeat' split) <;> first | (simp [apply_ite State.pending, apply_dite State.pending, *]; done) | (simp [State.offer_pending _ _ _ _ (by assumption), *]; done) | (simp [State.take_pending _ _ _ _ (by assumption), *]; done) | ((try rw [goesOn_next]); refine (foldl_pending _ _ _ ?_).trans ?_ <;> (first | (intro s a; (repeat' split) <;> simp; done) | simp; done)) | rfl)
@[simp] theorem State.sweepGates_pending (s : State) : (State.sweepGates s).pending = s.pending := by
  first
  | (simp [State.sweepGates, goesOn_ite, apply_ite State.pending, apply_dite State.pending]; done)
  | (unfold State.sweepGates; (try dsimp only); (repeat' split) <;> first | (simp [apply_ite State.pending, apply_dite State.pending, *]; done) | (simp [State.offer_pending _ _ _ _ (by assumption), *]; done) | (simp [State.take_pending _ _ _ _ (by assumption), *]; done) | ((try rw [goesOn_next]); refine (foldl_pending _ _ _ ?_).trans ?_ <;> (first | (intro s a; (repeat' split) <;> simp; done) | simp; done)) | rfl)
@[simp] theorem State.withdrawGroups_pending (s : State) (m : GroupMask) : (State.withdrawGroups s m).pending = s.pending := by
  first
  | (simp [State.withdrawGroups, goesOn_ite, apply_ite State.pending, apply_dite State.pending]; done)
  | (unfold State.withdrawGroups; (try dsimp only); (repeat' split) <;> first | (simp [apply_ite State.pending, apply_dite State.pending, *]; done) | (simp [State.offer_pending _ _ _ _ (by assumption), *]; done) | (simp [State.take_pending _ _ _ _ (by assumption), *]; done) | ((try rw [goesOn_next]); refine (foldl_pending _ _ _ ?_).trans ?_ <;> (first | (intro s a; (repeat' split) <;> simp; done) | simp; done)) | rfl)
@[simp] theorem State.reachedOff_pending (s : State) (g : Fin 4) : (State.reachedOff s g).pending = s.pending := by
  first
  | (simp [State.reachedOff, goesOn_ite, apply_ite State.pending, apply_dite State.pending]; done)
  | (unfold State.reachedOff; (try dsimp only); (repeat' split) <;> first | (simp [apply_ite State.pending, apply_dite State.pending, *]; done) | (simp [State.offer_pending _ _ _ _ (by assumption), *]; done) | (simp [State.take_pending _ _ _ _ (by assumption), *]; done) | ((try rw [goesOn_next]); refine (foldl_pending _ _ _ ?_).trans ?_ <;> (first | (intro s a; (repeat' split) <;> simp; done) | simp; done)) | rfl)
@[simp] theorem State.offIn_pending (s : State) (c : Fin 2) (g : Fin 4) (cause : Nat) : (State.offIn s c g cause).pending = s.pending := by
  first
  | (simp [State.offIn, goesOn_ite, apply_ite State.pending, apply_dite State.pending]; done)
  | (unfold State.offIn; (try dsimp only); (repeat' split) <;> first | (simp [apply_ite State.pending, apply_dite State.pending, *]; done) | (simp [State.offer_pending _ _ _ _ (by assumption), *]; done) | (simp [State.take_pending _ _ _ _ (by assumption), *]; done) | ((try rw [goesOn_next]); refine (foldl_pending _ _ _ ?_).trans ?_ <;> (first | (intro s a; (repeat' split) <;> simp; done) | simp; done)) | rfl)
@[simp] theorem State.offGroup_pending (s : State) (g : Fin 4) (cause : Nat) : (State.offGroup s g cause).pending = s.pending := by
  first
  | (simp [State.offGroup, goesOn_ite, apply_ite State.pending, apply_dite State.pending]; done)
  | (unfold State.offGroup; (try dsimp only); (repeat' split) <;> first | (simp [apply_ite State.pending, apply_dite State.pending, *]; done) | (simp [State.offer_pending _ _ _ _ (by assumption), *]; done) | (simp [State.take_pending _ _ _ _ (by assumption), *]; done) | ((try rw [goesOn_next]); refine (foldl_pending _ _ _ ?_).trans ?_ <;> (first | (intro s a; (repeat' split) <;> simp; done) | simp; done)) | rfl)
@[simp] theorem State.offGroups_pending (s : State) (m : GroupMask) (cause : Nat) : (State.offGroups s m cause).pending = s.pending := by
  first
  | (simp [State.offGroups, goesOn_ite, apply_ite State.pending, apply_dite State.pending]; done)
  | (unfold State.offGroups; (try dsimp only); (repeat' split) <;> first | (simp [apply_ite State.pending, apply_dite State.pending, *]; done) | (simp [State.offer_pending _ _ _ _ (by assumption), *]; done) | (simp [State.take_pending _ _ _ _ (by assumption), *]; done) | ((try rw [goesOn_next]); refine (foldl_pending _ _ _ ?_).trans ?_ <;> (first | (intro s a; (repeat' split) <;> simp; done) | simp; done)) | rfl)
@[simp] theorem State.ss1Group_pending (s : State) (g : Fin 4) (cause : Nat) (pair : Nat) : (State.ss1Group s g cause pair).pending = s.pending := by
  first
  | (simp [State.ss1Group, goesOn_ite, apply_ite State.pending, apply_dite State.pending]; done)
  | (unfold State.ss1Group; (try dsimp only); (repeat' split) <;> first | (simp [apply_ite State.pending, apply_dite State.pending, *]; done) | (simp [State.offer_pending _ _ _ _ (by assumption), *]; done) | (simp [State.take_pending _ _ _ _ (by assumption), *]; done) | ((try rw [goesOn_next]); refine (foldl_pending _ _ _ ?_).trans ?_ <;> (first | (intro s a; (repeat' split) <;> simp; done) | simp; done)) | rfl)
@[simp] theorem State.reactGroups_pending (s : State) (m : GroupMask) (cat1 : GroupMask) : (State.reactGroups s m cat1).pending = s.pending := by
  first
  | (simp [State.reactGroups, goesOn_ite, apply_ite State.pending, apply_dite State.pending]; done)
  | (unfold State.reactGroups; (try dsimp only); (repeat' split) <;> first | (simp [apply_ite State.pending, apply_dite State.pending, *]; done) | (simp [State.offer_pending _ _ _ _ (by assumption), *]; done) | (simp [State.take_pending _ _ _ _ (by assumption), *]; done) | ((try rw [goesOn_next]); refine (foldl_pending _ _ _ ?_).trans ?_ <;> (first | (intro s a; (repeat' split) <;> simp; done) | simp; done)) | rfl)
@[simp] theorem State.showHalt_pending (s : State) : (State.showHalt s).pending = s.pending := by
  first
  | (simp [State.showHalt, goesOn_ite, apply_ite State.pending, apply_dite State.pending]; done)
  | (unfold State.showHalt; (try dsimp only); (repeat' split) <;> first | (simp [apply_ite State.pending, apply_dite State.pending, *]; done) | (simp [State.offer_pending _ _ _ _ (by assumption), *]; done) | (simp [State.take_pending _ _ _ _ (by assumption), *]; done) | ((try rw [goesOn_next]); refine (foldl_pending _ _ _ ?_).trans ?_ <;> (first | (intro s a; (repeat' split) <;> simp; done) | simp; done)) | rfl)
@[simp] theorem State.resumeCluster_pending (s : State) (c : Fin 12) : (State.resumeCluster s c).pending = s.pending := by
  first
  | (simp [State.resumeCluster, goesOn_ite, apply_ite State.pending, apply_dite State.pending]; done)
  | (unfold State.resumeCluster; (try dsimp only); (repeat' split) <;> first | (simp [apply_ite State.pending, apply_dite State.pending, *]; done) | (simp [State.offer_pending _ _ _ _ (by assumption), *]; done) | (simp [State.take_pending _ _ _ _ (by assumption), *]; done) | ((try rw [goesOn_next]); refine (foldl_pending _ _ _ ?_).trans ?_ <;> (first | (intro s a; (repeat' split) <;> simp; done) | simp; done)) | rfl)
@[simp] theorem State.releaseHalts_pending (s : State) : (State.releaseHalts s).pending = s.pending := by
  first
  | (simp [State.releaseHalts, goesOn_ite, apply_ite State.pending, apply_dite State.pending]; done)
  | (unfold State.releaseHalts; (try dsimp only); (repeat' split) <;> first | (simp [apply_ite State.pending, apply_dite State.pending, *]; done) | (simp [State.offer_pending _ _ _ _ (by assumption), *]; done) | (simp [State.take_pending _ _ _ _ (by assumption), *]; done) | ((try rw [goesOn_next]); refine (foldl_pending _ _ _ ?_).trans ?_ <;> (first | (intro s a; (repeat' split) <;> simp; done) | simp; done)) | rfl)
@[simp] theorem State.monitorFrom_pending (s : State) (ran : Bool) : (State.monitorFrom s ran).pending = s.pending := by
  first
  | (simp [State.monitorFrom, goesOn_ite, apply_ite State.pending, apply_dite State.pending]; done)
  | (unfold State.monitorFrom; (try dsimp only); (repeat' split) <;> first | (simp [apply_ite State.pending, apply_dite State.pending, *]; done) | (simp [State.offer_pending _ _ _ _ (by assumption), *]; done) | (simp [State.take_pending _ _ _ _ (by assumption), *]; done) | ((try rw [goesOn_next]); refine (foldl_pending _ _ _ ?_).trans ?_ <;> (first | (intro s a; (repeat' split) <;> simp; done) | simp; done)) | rfl)
@[simp] theorem State.enterMode_pending (s : State) (m : Nat) (cause : Nat) (entry : Nat) : (State.enterMode s m cause entry).pending = s.pending := by
  first
  | (simp [State.enterMode, goesOn_ite, apply_ite State.pending, apply_dite State.pending]; done)
  | (unfold State.enterMode; (try dsimp only); (repeat' split) <;> first | (simp [apply_ite State.pending, apply_dite State.pending, *]; done) | (simp [State.offer_pending _ _ _ _ (by assumption), *]; done) | (simp [State.take_pending _ _ _ _ (by assumption), *]; done) | ((try rw [goesOn_next]); refine (foldl_pending _ _ _ ?_).trans ?_ <;> (first | (intro s a; (repeat' split) <;> simp; done) | simp; done)) | rfl)
@[simp] theorem State.safeHoldCheck_pending (s : State) (entry : Nat) : (State.safeHoldCheck s entry).pending = s.pending := by
  first
  | (simp [State.safeHoldCheck, goesOn_ite, apply_ite State.pending, apply_dite State.pending]; done)
  | (unfold State.safeHoldCheck; (try dsimp only); (repeat' split) <;> first | (simp [apply_ite State.pending, apply_dite State.pending, *]; done) | (simp [State.offer_pending _ _ _ _ (by assumption), *]; done) | (simp [State.take_pending _ _ _ _ (by assumption), *]; done) | ((try rw [goesOn_next]); refine (foldl_pending _ _ _ ?_).trans ?_ <;> (first | (intro s a; (repeat' split) <;> simp; done) | simp; done)) | rfl)
@[simp] theorem State.startDone_pending (s : State) (g : Fin 4) : (State.startDone s g).pending = s.pending := by
  first
  | (simp [State.startDone, goesOn_ite, apply_ite State.pending, apply_dite State.pending]; done)
  | (unfold State.startDone; (try dsimp only); (repeat' split) <;> first | (simp [apply_ite State.pending, apply_dite State.pending, *]; done) | (simp [State.offer_pending _ _ _ _ (by assumption), *]; done) | (simp [State.take_pending _ _ _ _ (by assumption), *]; done) | ((try rw [goesOn_next]); refine (foldl_pending _ _ _ ?_).trans ?_ <;> (first | (intro s a; (repeat' split) <;> simp; done) | simp; done)) | rfl)
@[simp] theorem State.showPair_pending (s : State) (p : Fin 32) : (State.showPair s p).pending = s.pending := by
  first
  | (simp [State.showPair, goesOn_ite, apply_ite State.pending, apply_dite State.pending]; done)
  | (unfold State.showPair; (try dsimp only); (repeat' split) <;> first | (simp [apply_ite State.pending, apply_dite State.pending, *]; done) | (simp [State.offer_pending _ _ _ _ (by assumption), *]; done) | (simp [State.take_pending _ _ _ _ (by assumption), *]; done) | ((try rw [goesOn_next]); refine (foldl_pending _ _ _ ?_).trans ?_ <;> (first | (intro s a; (repeat' split) <;> simp; done) | simp; done)) | rfl)
@[simp] theorem State.pairFault_pending (s : State) (p : Fin 32) (d : SafPair) (short : Bool) (m : FaultMsg) : (State.pairFault s p d short m).pending = s.pending := by
  first
  | (simp [State.pairFault, goesOn_ite, apply_ite State.pending, apply_dite State.pending]; done)
  | (unfold State.pairFault; (try dsimp only); (repeat' split) <;> first | (simp [apply_ite State.pending, apply_dite State.pending, *]; done) | (simp [State.offer_pending _ _ _ _ (by assumption), *]; done) | (simp [State.take_pending _ _ _ _ (by assumption), *]; done) | ((try rw [goesOn_next]); refine (foldl_pending _ _ _ ?_).trans ?_ <;> (first | (intro s a; (repeat' split) <;> simp; done) | simp; done)) | rfl)
@[simp] theorem State.judgePermits_pending (s : State) : (State.judgePermits s).pending = s.pending := by
  first
  | (simp [State.judgePermits, goesOn_ite, apply_ite State.pending, apply_dite State.pending]; done)
  | (unfold State.judgePermits; (try dsimp only); (repeat' split) <;> first | (simp [apply_ite State.pending, apply_dite State.pending, *]; done) | (simp [State.offer_pending _ _ _ _ (by assumption), *]; done) | (simp [State.take_pending _ _ _ _ (by assumption), *]; done) | ((try rw [goesOn_next]); refine (foldl_pending _ _ _ ?_).trans ?_ <;> (first | (intro s a; (repeat' split) <;> simp; done) | simp; done)) | rfl)
@[simp] theorem State.turnBack_pending (s : State) (g : Fin 4) (bit : Nat) : (State.turnBack s g bit).pending = s.pending := by
  first
  | (simp [State.turnBack, goesOn_ite, apply_ite State.pending, apply_dite State.pending]; done)
  | (unfold State.turnBack; (try dsimp only); (repeat' split) <;> first | (simp [apply_ite State.pending, apply_dite State.pending, *]; done) | (simp [State.offer_pending _ _ _ _ (by assumption), *]; done) | (simp [State.take_pending _ _ _ _ (by assumption), *]; done) | ((try rw [goesOn_next]); refine (foldl_pending _ _ _ ?_).trans ?_ <;> (first | (intro s a; (repeat' split) <;> simp; done) | simp; done)) | rfl)
@[simp] theorem State.doorDemands_pending (s : State) : (State.doorDemands s).pending = s.pending := by
  first
  | (simp [State.doorDemands, goesOn_ite, apply_ite State.pending, apply_dite State.pending]; done)
  | (unfold State.doorDemands; (try dsimp only); (repeat' split) <;> first | (simp [apply_ite State.pending, apply_dite State.pending, *]; done) | (simp [State.offer_pending _ _ _ _ (by assumption), *]; done) | (simp [State.take_pending _ _ _ _ (by assumption), *]; done) | ((try rw [goesOn_next]); refine (foldl_pending _ _ _ ?_).trans ?_ <;> (first | (intro s a; (repeat' split) <;> simp; done) | simp; done)) | rfl)
@[simp] theorem State.restart_pending (s : State) (g : Fin 4) : (State.restart s g).pending = s.pending := by
  first
  | (simp [State.restart, goesOn_ite, apply_ite State.pending, apply_dite State.pending]; done)
  | (unfold State.restart; (try dsimp only); (repeat' split) <;> first | (simp [apply_ite State.pending, apply_dite State.pending, *]; done) | (simp [State.offer_pending _ _ _ _ (by assumption), *]; done) | (simp [State.take_pending _ _ _ _ (by assumption), *]; done) | ((try rw [goesOn_next]); refine (foldl_pending _ _ _ ?_).trans ?_ <;> (first | (intro s a; (repeat' split) <;> simp; done) | simp; done)) | rfl)
@[simp] theorem State.cfgChanged_pending (s : State) (code : Nat) : (State.cfgChanged s code).pending = s.pending := by
  first
  | (simp [State.cfgChanged, goesOn_ite, apply_ite State.pending, apply_dite State.pending]; done)
  | (unfold State.cfgChanged; (try dsimp only); (repeat' split) <;> first | (simp [apply_ite State.pending, apply_dite State.pending, *]; done) | (simp [State.offer_pending _ _ _ _ (by assumption), *]; done) | (simp [State.take_pending _ _ _ _ (by assumption), *]; done) | ((try rw [goesOn_next]); refine (foldl_pending _ _ _ ?_).trans ?_ <;> (first | (intro s a; (repeat' split) <;> simp; done) | simp; done)) | rfl)
@[simp] theorem State.judgeCode_pending (s : State) (code : Nat) : (State.judgeCode s code).pending = s.pending := by
  first
  | (simp [State.judgeCode, goesOn_ite, apply_ite State.pending, apply_dite State.pending]; done)
  | (unfold State.judgeCode; (try dsimp only); (repeat' split) <;> first | (simp [apply_ite State.pending, apply_dite State.pending, *]; done) | (simp [State.offer_pending _ _ _ _ (by assumption), *]; done) | (simp [State.take_pending _ _ _ _ (by assumption), *]; done) | ((try rw [goesOn_next]); refine (foldl_pending _ _ _ ?_).trans ?_ <;> (first | (intro s a; (repeat' split) <;> simp; done) | simp; done)) | rfl)
@[simp] theorem State.dropPending_pending (s : State) : (State.dropPending s).pending = s.pending := by
  first
  | (simp [State.dropPending, goesOn_ite, apply_ite State.pending, apply_dite State.pending]; done)
  | (unfold State.dropPending; (try dsimp only); (repeat' split) <;> first | (simp [apply_ite State.pending, apply_dite State.pending, *]; done) | (simp [State.offer_pending _ _ _ _ (by assumption), *]; done) | (simp [State.take_pending _ _ _ _ (by assumption), *]; done) | ((try rw [goesOn_next]); refine (foldl_pending _ _ _ ?_).trans ?_ <;> (first | (intro s a; (repeat' split) <;> simp; done) | simp; done)) | rfl)
@[simp] theorem State.useSafety_pending (s : State) (i : Image) (idx : Nat) : (State.useSafety s i idx).pending = s.pending := by
  first
  | (simp [State.useSafety, goesOn_ite, apply_ite State.pending, apply_dite State.pending]; done)
  | (unfold State.useSafety; (try dsimp only); (repeat' split) <;> first | (simp [apply_ite State.pending, apply_dite State.pending, *]; done) | (simp [State.offer_pending _ _ _ _ (by assumption), *]; done) | (simp [State.take_pending _ _ _ _ (by assumption), *]; done) | ((try rw [goesOn_next]); refine (foldl_pending _ _ _ ?_).trans ?_ <;> (first | (intro s a; (repeat' split) <;> simp; done) | simp; done)) | rfl)
@[simp] theorem State.takeNotice_pending (s : State) (i : Image) : (State.takeNotice s i).pending = s.pending := by
  first
  | (simp [State.takeNotice, goesOn_ite, apply_ite State.pending, apply_dite State.pending]; done)
  | (unfold State.takeNotice; (try dsimp only); (repeat' split) <;> first | (simp [apply_ite State.pending, apply_dite State.pending, *]; done) | (simp [State.offer_pending _ _ _ _ (by assumption), *]; done) | (simp [State.take_pending _ _ _ _ (by assumption), *]; done) | ((try rw [goesOn_next]); refine (foldl_pending _ _ _ ?_).trans ?_ <;> (first | (intro s a; (repeat' split) <;> simp; done) | simp; done)) | rfl)
@[simp] theorem State.txTelegram_pending (s : State) (d : SafConn) : (s.txTelegram d).2.pending = s.pending := by
  unfold State.txTelegram
  dsimp only
  split <;> simp
@[simp] theorem State.putScan_pending (s : State) (n : Fin 8) (v : Bool × List Track) : (State.putScan s n v).pending = s.pending := by
  first
  | (simp [State.putScan, goesOn_ite, apply_ite State.pending, apply_dite State.pending]; done)
  | (unfold State.putScan; (try dsimp only); (repeat' split) <;> first | (simp [apply_ite State.pending, apply_dite State.pending, *]; done) | (simp [State.offer_pending _ _ _ _ (by assumption), *]; done) | (simp [State.take_pending _ _ _ _ (by assumption), *]; done) | ((try rw [goesOn_next]); refine (foldl_pending _ _ _ ?_).trans ?_ <;> (first | (intro s a; (repeat' split) <;> simp; done) | simp; done)) | rfl)
@[simp] theorem State.takeTelegram_pending (s : State) (d : SafConn) (seq : Nat) (p : List Byte) : (State.takeTelegram s d seq p).pending = s.pending := by
  first
  | (simp [State.takeTelegram, goesOn_ite, apply_ite State.pending, apply_dite State.pending]; done)
  | (unfold State.takeTelegram; (try dsimp only); (repeat' split) <;> first | (simp [apply_ite State.pending, apply_dite State.pending, *]; done) | (simp [State.offer_pending _ _ _ _ (by assumption), *]; done) | (simp [State.take_pending _ _ _ _ (by assumption), *]; done) | ((try rw [goesOn_next]); refine (foldl_pending _ _ _ ?_).trans ?_ <;> (first | (intro s a; (repeat' split) <;> simp; done) | simp; done)) | rfl)
@[simp] theorem State.rxTelegram_pending (s : State) (bytes : List Byte) : (State.rxTelegram s bytes).pending = s.pending := by
  first
  | (simp [State.rxTelegram, goesOn_ite, apply_ite State.pending, apply_dite State.pending]; done)
  | (unfold State.rxTelegram; (try dsimp only); (repeat' split) <;> first | (simp [apply_ite State.pending, apply_dite State.pending, *]; done) | (simp [State.offer_pending _ _ _ _ (by assumption), *]; done) | (simp [State.take_pending _ _ _ _ (by assumption), *]; done) | ((try rw [goesOn_next]); refine (foldl_pending _ _ _ ?_).trans ?_ <;> (first | (intro s a; (repeat' split) <;> simp; done) | simp; done)) | rfl)
@[simp] theorem State.showViol_pending (s : State) : (State.showViol s).pending = s.pending := by
  first
  | (simp [State.showViol, goesOn_ite, apply_ite State.pending, apply_dite State.pending]; done)
  | (unfold State.showViol; (try dsimp only); (repeat' split) <;> first | (simp [apply_ite State.pending, apply_dite State.pending, *]; done) | (simp [State.offer_pending _ _ _ _ (by assumption), *]; done) | (simp [State.take_pending _ _ _ _ (by assumption), *]; done) | ((try rw [goesOn_next]); refine (foldl_pending _ _ _ ?_).trans ?_ <;> (first | (intro s a; (repeat' split) <;> simp; done) | simp; done)) | rfl)
@[simp] theorem State.chanCycle_pending (s : State) (c : Fin 2) (m : Mirror) : (s.chanCycle c m).pending = s.pending := by
  unfold State.chanCycle
  dsimp only
  rw [State.showViol_pending, foldl_pending]
  · simp
  · intro s a
    split <;> simp
@[simp] theorem State.violMsgs_pending (s : State) (old : Nat) : (State.violMsgs s old).pending = s.pending := by
  first
  | (simp [State.violMsgs, goesOn_ite, apply_ite State.pending, apply_dite State.pending]; done)
  | (unfold State.violMsgs; (try dsimp only); (repeat' split) <;> first | (simp [apply_ite State.pending, apply_dite State.pending, *]; done) | (simp [State.offer_pending _ _ _ _ (by assumption), *]; done) | (simp [State.take_pending _ _ _ _ (by assumption), *]; done) | ((try rw [goesOn_next]); refine (foldl_pending _ _ _ ?_).trans ?_ <;> (first | (intro s a; (repeat' split) <;> simp; done) | simp; done)) | rfl)
@[simp] theorem State.plausMsgs_pending (s : State) (m : Mirror) : (State.plausMsgs s m).pending = s.pending := by
  first
  | (simp [State.plausMsgs, goesOn_ite, apply_ite State.pending, apply_dite State.pending]; done)
  | (unfold State.plausMsgs; (try dsimp only); (repeat' split) <;> first | (simp [apply_ite State.pending, apply_dite State.pending, *]; done) | (simp [State.offer_pending _ _ _ _ (by assumption), *]; done) | (simp [State.take_pending _ _ _ _ (by assumption), *]; done) | ((try rw [goesOn_next]); refine (foldl_pending _ _ _ ?_).trans ?_ <;> (first | (intro s a; (repeat' split) <;> simp; done) | simp; done)) | rfl)
@[simp] theorem State.scanLost_pending (s : State) (src : ScanSrc) : (State.scanLost s src).pending = s.pending := by
  first
  | (simp [State.scanLost, goesOn_ite, apply_ite State.pending, apply_dite State.pending]; done)
  | (unfold State.scanLost; (try dsimp only); (repeat' split) <;> first | (simp [apply_ite State.pending, apply_dite State.pending, *]; done) | (simp [State.offer_pending _ _ _ _ (by assumption), *]; done) | (simp [State.take_pending _ _ _ _ (by assumption), *]; done) | ((try rw [goesOn_next]); refine (foldl_pending _ _ _ ?_).trans ?_ <;> (first | (intro s a; (repeat' split) <;> simp; done) | simp; done)) | rfl)
@[simp] theorem State.takePayloads_pending (s : State) : (State.takePayloads s).pending = s.pending := by
  first
  | (simp [State.takePayloads, goesOn_ite, apply_ite State.pending, apply_dite State.pending]; done)
  | (unfold State.takePayloads; (try dsimp only); (repeat' split) <;> first | (simp [apply_ite State.pending, apply_dite State.pending, *]; done) | (simp [State.offer_pending _ _ _ _ (by assumption), *]; done) | (simp [State.take_pending _ _ _ _ (by assumption), *]; done) | ((try rw [goesOn_next]); refine (foldl_pending _ _ _ ?_).trans ?_ <;> (first | (intro s a; (repeat' split) <;> simp; done) | simp; done)) | rfl)
@[simp] theorem State.judgeSources_pending (s : State) : (State.judgeSources s).pending = s.pending := by
  first
  | (simp [State.judgeSources, goesOn_ite, apply_ite State.pending, apply_dite State.pending]; done)
  | (unfold State.judgeSources; (try dsimp only); (repeat' split) <;> first | (simp [apply_ite State.pending, apply_dite State.pending, *]; done) | (simp [State.offer_pending _ _ _ _ (by assumption), *]; done) | (simp [State.take_pending _ _ _ _ (by assumption), *]; done) | ((try rw [goesOn_next]); refine (foldl_pending _ _ _ ?_).trans ?_ <;> (first | (intro s a; (repeat' split) <;> simp; done) | simp; done)) | rfl)
@[simp] theorem State.showPersons_pending (s : State) : (State.showPersons s).pending = s.pending := by
  first
  | (simp [State.showPersons, goesOn_ite, apply_ite State.pending, apply_dite State.pending]; done)
  | (unfold State.showPersons; (try dsimp only); (repeat' split) <;> first | (simp [apply_ite State.pending, apply_dite State.pending, *]; done) | (simp [State.offer_pending _ _ _ _ (by assumption), *]; done) | (simp [State.take_pending _ _ _ _ (by assumption), *]; done) | ((try rw [goesOn_next]); refine (foldl_pending _ _ _ ?_).trans ?_ <;> (first | (intro s a; (repeat' split) <;> simp; done) | simp; done)) | rfl)
@[simp] theorem State.showArm_pending (s : State) (a : Nat) (cap : Nat) : (State.showArm s a cap).pending = s.pending := by
  first
  | (simp [State.showArm, goesOn_ite, apply_ite State.pending, apply_dite State.pending]; done)
  | (unfold State.showArm; (try dsimp only); (repeat' split) <;> first | (simp [apply_ite State.pending, apply_dite State.pending, *]; done) | (simp [State.offer_pending _ _ _ _ (by assumption), *]; done) | (simp [State.take_pending _ _ _ _ (by assumption), *]; done) | ((try rw [goesOn_next]); refine (foldl_pending _ _ _ ?_).trans ?_ <;> (first | (intro s a; (repeat' split) <;> simp; done) | simp; done)) | rfl)
@[simp] theorem State.putCaps_pending (s : State) (k : CapSet) : (State.putCaps s k).pending = s.pending := by
  first
  | (simp [State.putCaps, goesOn_ite, apply_ite State.pending, apply_dite State.pending]; done)
  | (unfold State.putCaps; (try dsimp only); (repeat' split) <;> first | (simp [apply_ite State.pending, apply_dite State.pending, *]; done) | (simp [State.offer_pending _ _ _ _ (by assumption), *]; done) | (simp [State.take_pending _ _ _ _ (by assumption), *]; done) | ((try rw [goesOn_next]); refine (foldl_pending _ _ _ ?_).trans ?_ <;> (first | (intro s a; (repeat' split) <;> simp; done) | simp; done)) | rfl)
@[simp] theorem State.takeCaps_pending (s : State) : (State.takeCaps s).pending = s.pending := by
  first
  | (simp [State.takeCaps, goesOn_ite, apply_ite State.pending, apply_dite State.pending]; done)
  | (unfold State.takeCaps; (try dsimp only); (repeat' split) <;> first | (simp [apply_ite State.pending, apply_dite State.pending, *]; done) | (simp [State.offer_pending _ _ _ _ (by assumption), *]; done) | (simp [State.take_pending _ _ _ _ (by assumption), *]; done) | ((try rw [goesOn_next]); refine (foldl_pending _ _ _ ?_).trans ?_ <;> (first | (intro s a; (repeat' split) <;> simp; done) | simp; done)) | rfl)
@[simp] theorem State.publishMirror_pending (s : State) (bad : Bool) : (State.publishMirror s bad).pending = s.pending := by
  first
  | (simp [State.publishMirror, goesOn_ite, apply_ite State.pending, apply_dite State.pending]; done)
  | (unfold State.publishMirror; (try dsimp only); (repeat' split) <;> first | (simp [apply_ite State.pending, apply_dite State.pending, *]; done) | (simp [State.offer_pending _ _ _ _ (by assumption), *]; done) | (simp [State.take_pending _ _ _ _ (by assumption), *]; done) | ((try rw [goesOn_next]); refine (foldl_pending _ _ _ ?_).trans ?_ <;> (first | (intro s a; (repeat' split) <;> simp; done) | simp; done)) | rfl)
@[simp] theorem execMirrorStale_goesOn (t : Nat) (s : State) : goesOn s (execMirrorStale t s) := by
  first
  | (simp [execMirrorStale, goesOn_ite, apply_ite State.pending, apply_dite State.pending]; done)
  | (unfold execMirrorStale; (try dsimp only); (repeat' split) <;> first | (simp [apply_ite State.pending, apply_dite State.pending, *]; done) | (simp [State.offer_pending _ _ _ _ (by assumption), *]; done) | (simp [State.take_pending _ _ _ _ (by assumption), *]; done) | ((try rw [goesOn_next]); refine (foldl_pending _ _ _ ?_).trans ?_ <;> (first | (intro s a; (repeat' split) <;> simp; done) | simp; done)) | rfl)
@[simp] theorem execHardpanCycle_goesOn (t : Nat) (s : State) : goesOn s (execHardpanCycle t s) := by
  first
  | (simp [execHardpanCycle, goesOn_ite, apply_ite State.pending, apply_dite State.pending]; done)
  | (unfold execHardpanCycle; (try dsimp only); (repeat' split) <;> first | (simp [apply_ite State.pending, apply_dite State.pending, *]; done) | (simp [State.offer_pending _ _ _ _ (by assumption), *]; done) | (simp [State.take_pending _ _ _ _ (by assumption), *]; done) | ((try rw [goesOn_next]); refine (foldl_pending _ _ _ ?_).trans ?_ <;> (first | (intro s a; (repeat' split) <;> simp; done) | simp; done)) | rfl)
@[simp] theorem execSsmExchange_goesOn (used : Nat) (s : State) : goesOn s (execSsmExchange used s) := by
  first
  | (simp [execSsmExchange, goesOn_ite, apply_ite State.pending, apply_dite State.pending]; done)
  | (unfold execSsmExchange; (try dsimp only); (repeat' split) <;> first | (simp [apply_ite State.pending, apply_dite State.pending, *]; done) | (simp [State.offer_pending _ _ _ _ (by assumption), *]; done) | (simp [State.take_pending _ _ _ _ (by assumption), *]; done) | ((try rw [goesOn_next]); refine (foldl_pending _ _ _ ?_).trans ?_ <;> (first | (intro s a; (repeat' split) <;> simp; done) | simp; done)) | rfl)
@[simp] theorem execSsmXcmp_goesOn (lateUs : Nat) (s : State) : goesOn s (execSsmXcmp lateUs s) := by
  first
  | (simp [execSsmXcmp, goesOn_ite, apply_ite State.pending, apply_dite State.pending]; done)
  | (unfold execSsmXcmp; (try dsimp only); (repeat' split) <;> first | (simp [apply_ite State.pending, apply_dite State.pending, *]; done) | (simp [State.offer_pending _ _ _ _ (by assumption), *]; done) | (simp [State.take_pending _ _ _ _ (by assumption), *]; done) | ((try rw [goesOn_next]); refine (foldl_pending _ _ _ ?_).trans ?_ <;> (first | (intro s a; (repeat' split) <;> simp; done) | simp; done)) | rfl)
@[simp] theorem execSsmScanLost_goesOn (n : Fin 8) (t : Nat) (s : State) : goesOn s (execSsmScanLost n t s) := by
  first
  | (simp [execSsmScanLost, goesOn_ite, apply_ite State.pending, apply_dite State.pending]; done)
  | (unfold execSsmScanLost; (try dsimp only); (repeat' split) <;> first | (simp [apply_ite State.pending, apply_dite State.pending, *]; done) | (simp [State.offer_pending _ _ _ _ (by assumption), *]; done) | (simp [State.take_pending _ _ _ _ (by assumption), *]; done) | ((try rw [goesOn_next]); refine (foldl_pending _ _ _ ?_).trans ?_ <;> (first | (intro s a; (repeat' split) <;> simp; done) | simp; done)) | rfl)
@[simp] theorem execViolationLatchClear_goesOn (a : Fin 12) (s : State) : goesOn s (execViolationLatchClear a s) := by
  first
  | (simp [execViolationLatchClear, goesOn_ite, apply_ite State.pending, apply_dite State.pending]; done)
  | (unfold execViolationLatchClear; (try dsimp only); (repeat' split) <;> first | (simp [apply_ite State.pending, apply_dite State.pending, *]; done) | (simp [State.offer_pending _ _ _ _ (by assumption), *]; done) | (simp [State.take_pending _ _ _ _ (by assumption), *]; done) | ((try rw [goesOn_next]); refine (foldl_pending _ _ _ ?_).trans ?_ <;> (first | (intro s a; (repeat' split) <;> simp; done) | simp; done)) | rfl)
@[simp] theorem execSsmCapStale_goesOn (s : State) : goesOn s (execSsmCapStale s) := by
  first
  | (simp [execSsmCapStale, goesOn_ite, apply_ite State.pending, apply_dite State.pending]; done)
  | (unfold execSsmCapStale; (try dsimp only); (repeat' split) <;> first | (simp [apply_ite State.pending, apply_dite State.pending, *]; done) | (simp [State.offer_pending _ _ _ _ (by assumption), *]; done) | (simp [State.take_pending _ _ _ _ (by assumption), *]; done) | ((try rw [goesOn_next]); refine (foldl_pending _ _ _ ?_).trans ?_ <;> (first | (intro s a; (repeat' split) <;> simp; done) | simp; done)) | rfl)
@[simp] theorem execChannelExchange_goesOn (pairs : Nat) (t : Nat) (s : State) : goesOn s (execChannelExchange pairs t s) := by
  first
  | (simp [execChannelExchange, goesOn_ite, apply_ite State.pending, apply_dite State.pending]; done)
  | (unfold execChannelExchange; (try dsimp only); (repeat' split) <;> first | (simp [apply_ite State.pending, apply_dite State.pending, *]; done) | (simp [State.offer_pending _ _ _ _ (by assumption), *]; done) | (simp [State.take_pending _ _ _ _ (by assumption), *]; done) | ((try rw [goesOn_next]); refine (foldl_pending _ _ _ ?_).trans ?_ <;> (first | (intro s a; (repeat' split) <;> simp; done) | simp; done)) | rfl)
@[simp] theorem execSafeXcmp_goesOn (function : Nat) (which : Nat) (t : Nat) (s : State) : goesOn s (execSafeXcmp function which t s) := by
  first
  | (simp [execSafeXcmp, goesOn_ite, apply_ite State.pending, apply_dite State.pending]; done)
  | (unfold execSafeXcmp; (try dsimp only); (repeat' split) <;> first | (simp [apply_ite State.pending, apply_dite State.pending, *]; done) | (simp [State.offer_pending _ _ _ _ (by assumption), *]; done) | (simp [State.take_pending _ _ _ _ (by assumption), *]; done) | ((try rw [goesOn_next]); refine (foldl_pending _ _ _ ?_).trans ?_ <;> (first | (intro s a; (repeat' split) <;> simp; done) | simp; done)) | rfl)
@[simp] theorem execSafeClk_goesOn (c : Fin 2) (ppm : Int) (t : Nat) (s : State) : goesOn s (execSafeClk c ppm t s) := by
  first
  | (simp [execSafeClk, goesOn_ite, apply_ite State.pending, apply_dite State.pending]; done)
  | (unfold execSafeClk; (try dsimp only); (repeat' split) <;> first | (simp [apply_ite State.pending, apply_dite State.pending, *]; done) | (simp [State.offer_pending _ _ _ _ (by assumption), *]; done) | (simp [State.take_pending _ _ _ _ (by assumption), *]; done) | ((try rw [goesOn_next]); refine (foldl_pending _ _ _ ?_).trans ?_ <;> (first | (intro s a; (repeat' split) <;> simp; done) | simp; done)) | rfl)
@[simp] theorem State.selfOff_pending (s : State) (d : Fin 2) : (State.selfOff s d).pending = s.pending := by
  first
  | (simp [State.selfOff, goesOn_ite, apply_ite State.pending, apply_dite State.pending]; done)
  | (unfold State.selfOff; (try dsimp only); (repeat' split) <;> first | (simp [apply_ite State.pending, apply_dite State.pending, *]; done) | (simp [State.offer_pending _ _ _ _ (by assumption), *]; done) | (simp [State.take_pending _ _ _ _ (by assumption), *]; done) | ((try rw [goesOn_next]); refine (foldl_pending _ _ _ ?_).trans ?_ <;> (first | (intro s a; (repeat' split) <;> simp; done) | simp; done)) | rfl)
@[simp] theorem State.trackOff_pending (s : State) : (State.trackOff s).pending = s.pending := by
  first
  | (simp [State.trackOff, goesOn_ite, apply_ite State.pending, apply_dite State.pending]; done)
  | (unfold State.trackOff; (try dsimp only); (repeat' split) <;> first | (simp [apply_ite State.pending, apply_dite State.pending, *]; done) | (simp [State.offer_pending _ _ _ _ (by assumption), *]; done) | (simp [State.take_pending _ _ _ _ (by assumption), *]; done) | ((try rw [goesOn_next]); refine (foldl_pending _ _ _ ?_).trans ?_ <;> (first | (intro s a; (repeat' split) <;> simp; done) | simp; done)) | rfl)
@[simp] theorem execSafetyFrame_goesOn (d : Fin 2) (toDie : Bool) (seq : Nat) (inputs : Nat) (readbacks : Nat) (t : Nat) (s : State) : goesOn s (execSafetyFrame d toDie seq inputs readbacks t s) := by
  first
  | (simp [execSafetyFrame, goesOn_ite, apply_ite State.pending, apply_dite State.pending]; done)
  | (unfold execSafetyFrame; (try dsimp only); (repeat' split) <;> first | (simp [apply_ite State.pending, apply_dite State.pending, *]; done) | (simp [State.offer_pending _ _ _ _ (by assumption), *]; done) | (simp [State.take_pending _ _ _ _ (by assumption), *]; done) | ((try rw [goesOn_next]); refine (foldl_pending _ _ _ ?_).trans ?_ <;> (first | (intro s a; (repeat' split) <;> simp; done) | simp; done)) | rfl)
@[simp] theorem execSafeFrame_goesOn (d : Fin 2) (toDie : Bool) (t : Nat) (s : State) : goesOn s (execSafeFrame d toDie t s) := by
  first
  | (simp [execSafeFrame, goesOn_ite, apply_ite State.pending, apply_dite State.pending]; done)
  | (unfold execSafeFrame; (try dsimp only); (repeat' split) <;> first | (simp [apply_ite State.pending, apply_dite State.pending, *]; done) | (simp [State.offer_pending _ _ _ _ (by assumption), *]; done) | (simp [State.take_pending _ _ _ _ (by assumption), *]; done) | ((try rw [goesOn_next]); refine (foldl_pending _ _ _ ?_).trans ?_ <;> (first | (intro s a; (repeat' split) <;> simp; done) | simp; done)) | rfl)
@[simp] theorem execStoRestartRequest_goesOn (groups : Nat) (key : Nat) (s : State) : goesOn s (execStoRestartRequest groups key s) := by
  first
  | (simp [execStoRestartRequest, goesOn_ite, apply_ite State.pending, apply_dite State.pending]; done)
  | (unfold execStoRestartRequest; (try dsimp only); (repeat' split) <;> first | (simp [apply_ite State.pending, apply_dite State.pending, *]; done) | (simp [State.offer_pending _ _ _ _ (by assumption), *]; done) | (simp [State.take_pending _ _ _ _ (by assumption), *]; done) | ((try rw [goesOn_next]); refine (foldl_pending _ _ _ ?_).trans ?_ <;> (first | (intro s a; (repeat' split) <;> simp; done) | simp; done)) | rfl)
@[simp] theorem execRestartInput_goesOn (g : Fin 4) (level : Bool) (t : Nat) (s : State) : goesOn s (execRestartInput g level t s) := by
  first
  | (simp [execRestartInput, goesOn_ite, apply_ite State.pending, apply_dite State.pending]; done)
  | (unfold execRestartInput; (try dsimp only); (repeat' split) <;> first | (simp [apply_ite State.pending, apply_dite State.pending, *]; done) | (simp [State.offer_pending _ _ _ _ (by assumption), *]; done) | (simp [State.take_pending _ _ _ _ (by assumption), *]; done) | ((try rw [goesOn_next]); refine (foldl_pending _ _ _ ?_).trans ?_ <;> (first | (intro s a; (repeat' split) <;> simp; done) | simp; done)) | rfl)
@[simp] theorem execSafeStartFail_goesOn (g : Fin 4) (t : Nat) (s : State) : goesOn s (execSafeStartFail g t s) := by
  first
  | (simp [execSafeStartFail, goesOn_ite, apply_ite State.pending, apply_dite State.pending]; done)
  | (unfold execSafeStartFail; (try dsimp only); (repeat' split) <;> first | (simp [apply_ite State.pending, apply_dite State.pending, *]; done) | (simp [State.offer_pending _ _ _ _ (by assumption), *]; done) | (simp [State.take_pending _ _ _ _ (by assumption), *]; done) | ((try rw [goesOn_next]); refine (foldl_pending _ _ _ ?_).trans ?_ <;> (first | (intro s a; (repeat' split) <;> simp; done) | simp; done)) | rfl)
@[simp] theorem execSs1Expire_goesOn (g : Fin 4) (t : Nat) (s : State) : goesOn s (execSs1Expire g t s) := by
  first
  | (simp [execSs1Expire, goesOn_ite, apply_ite State.pending, apply_dite State.pending]; done)
  | (unfold execSs1Expire; (try dsimp only); (repeat' split) <;> first | (simp [apply_ite State.pending, apply_dite State.pending, *]; done) | (simp [State.offer_pending _ _ _ _ (by assumption), *]; done) | (simp [State.take_pending _ _ _ _ (by assumption), *]; done) | ((try rw [goesOn_next]); refine (foldl_pending _ _ _ ?_).trans ?_ <;> (first | (intro s a; (repeat' split) <;> simp; done) | simp; done)) | rfl)
@[simp] theorem execOutputTestPulse_goesOn (side : Fin 2) (g : Fin 4) (s : State) : goesOn s (execOutputTestPulse side g s) := by
  first
  | (simp [execOutputTestPulse, goesOn_ite, apply_ite State.pending, apply_dite State.pending]; done)
  | (unfold execOutputTestPulse; (try dsimp only); (repeat' split) <;> first | (simp [apply_ite State.pending, apply_dite State.pending, *]; done) | (simp [State.offer_pending _ _ _ _ (by assumption), *]; done) | (simp [State.take_pending _ _ _ _ (by assumption), *]; done) | ((try rw [goesOn_next]); refine (foldl_pending _ _ _ ?_).trans ?_ <;> (first | (intro s a; (repeat' split) <;> simp; done) | simp; done)) | rfl)
@[simp] theorem execOutputTestEnd_goesOn (side : Fin 2) (g : Fin 4) (s : State) : goesOn s (execOutputTestEnd side g s) := by
  first
  | (simp [execOutputTestEnd, goesOn_ite, apply_ite State.pending, apply_dite State.pending]; done)
  | (unfold execOutputTestEnd; (try dsimp only); (repeat' split) <;> first | (simp [apply_ite State.pending, apply_dite State.pending, *]; done) | (simp [State.offer_pending _ _ _ _ (by assumption), *]; done) | (simp [State.take_pending _ _ _ _ (by assumption), *]; done) | ((try rw [goesOn_next]); refine (foldl_pending _ _ _ ?_).trans ?_ <;> (first | (intro s a; (repeat' split) <;> simp; done) | simp; done)) | rfl)
@[simp] theorem execSafeTelegramRx_goesOn (bytes : List Byte) (t : Nat) (s : State) : goesOn s (execSafeTelegramRx bytes t s) := by
  first
  | (simp [execSafeTelegramRx, goesOn_ite, apply_ite State.pending, apply_dite State.pending]; done)
  | (unfold execSafeTelegramRx; (try dsimp only); (repeat' split) <;> first | (simp [apply_ite State.pending, apply_dite State.pending, *]; done) | (simp [State.offer_pending _ _ _ _ (by assumption), *]; done) | (simp [State.take_pending _ _ _ _ (by assumption), *]; done) | ((try rw [goesOn_next]); refine (foldl_pending _ _ _ ?_).trans ?_ <;> (first | (intro s a; (repeat' split) <;> simp; done) | simp; done)) | rfl)
@[simp] theorem execSafeConnLost_goesOn (n : Nat) (t : Nat) (s : State) : goesOn s (execSafeConnLost n t s) := by
  first
  | (simp [execSafeConnLost, goesOn_ite, apply_ite State.pending, apply_dite State.pending]; done)
  | (unfold execSafeConnLost; (try dsimp only); (repeat' split) <;> first | (simp [apply_ite State.pending, apply_dite State.pending, *]; done) | (simp [State.offer_pending _ _ _ _ (by assumption), *]; done) | (simp [State.take_pending _ _ _ _ (by assumption), *]; done) | ((try rw [goesOn_next]); refine (foldl_pending _ _ _ ?_).trans ?_ <;> (first | (intro s a; (repeat' split) <;> simp; done) | simp; done)) | rfl)
@[simp] theorem execSafeInDisc_goesOn (p : Fin 32) (t : Nat) (s : State) : goesOn s (execSafeInDisc p t s) := by
  first
  | (simp [execSafeInDisc, goesOn_ite, apply_ite State.pending, apply_dite State.pending]; done)
  | (unfold execSafeInDisc; (try dsimp only); (repeat' split) <;> first | (simp [apply_ite State.pending, apply_dite State.pending, *]; done) | (simp [State.offer_pending _ _ _ _ (by assumption), *]; done) | (simp [State.take_pending _ _ _ _ (by assumption), *]; done) | ((try rw [goesOn_next]); refine (foldl_pending _ _ _ ?_).trans ?_ <;> (first | (intro s a; (repeat' split) <;> simp; done) | simp; done)) | rfl)
@[simp] theorem State.inShort_pending (s : State) (k : Fin 4) (i : Nat) : (State.inShort s k i).pending = s.pending := by
  first
  | (simp [State.inShort, goesOn_ite, apply_ite State.pending, apply_dite State.pending]; done)
  | (unfold State.inShort; (try dsimp only); (repeat' split) <;> first | (simp [apply_ite State.pending, apply_dite State.pending, *]; done) | (simp [State.offer_pending _ _ _ _ (by assumption), *]; done) | (simp [State.take_pending _ _ _ _ (by assumption), *]; done) | ((try rw [goesOn_next]); refine (foldl_pending _ _ _ ?_).trans ?_ <;> (first | (intro s a; (repeat' split) <;> simp; done) | simp; done)) | rfl)
@[simp] theorem execTestPulseStart_goesOn (k : Fin 4) (t : Nat) (s : State) : goesOn s (execTestPulseStart k t s) := by
  first
  | (simp [execTestPulseStart, goesOn_ite, apply_ite State.pending, apply_dite State.pending]; done)
  | (unfold execTestPulseStart; (try dsimp only); (repeat' split) <;> first | (simp [apply_ite State.pending, apply_dite State.pending, *]; done) | (simp [State.offer_pending _ _ _ _ (by assumption), *]; done) | (simp [State.take_pending _ _ _ _ (by assumption), *]; done) | ((try rw [goesOn_next]); refine (foldl_pending _ _ _ ?_).trans ?_ <;> (first | (intro s a; (repeat' split) <;> simp; done) | simp; done)) | rfl)
@[simp] theorem execTestPulseCheck_goesOn (k : Fin 4) (t : Nat) (s : State) : goesOn s (execTestPulseCheck k t s) := by
  first
  | (simp [execTestPulseCheck, goesOn_ite, apply_ite State.pending, apply_dite State.pending]; done)
  | (unfold execTestPulseCheck; (try dsimp only); (repeat' split) <;> first | (simp [apply_ite State.pending, apply_dite State.pending, *]; done) | (simp [State.offer_pending _ _ _ _ (by assumption), *]; done) | (simp [State.take_pending _ _ _ _ (by assumption), *]; done) | ((try rw [goesOn_next]); refine (foldl_pending _ _ _ ?_).trans ?_ <;> (first | (intro s a; (repeat' split) <;> simp; done) | simp; done)) | rfl)
@[simp] theorem State.showPresent_pending (s : State) : (State.showPresent s).pending = s.pending := by
  first
  | (simp [State.showPresent, goesOn_ite, apply_ite State.pending, apply_dite State.pending]; done)
  | (unfold State.showPresent; (try dsimp only); (repeat' split) <;> first | (simp [apply_ite State.pending, apply_dite State.pending, *]; done) | (simp [State.offer_pending _ _ _ _ (by assumption), *]; done) | (simp [State.take_pending _ _ _ _ (by assumption), *]; done) | ((try rw [goesOn_next]); refine (foldl_pending _ _ _ ?_).trans ?_ <;> (first | (intro s a; (repeat' split) <;> simp; done) | simp; done)) | rfl)
@[simp] theorem State.judgeNew_pending (s : State) (old : Option Nat) (new : Option Nat) : (State.judgeNew s old new).pending = s.pending := by
  first
  | (simp [State.judgeNew, goesOn_ite, apply_ite State.pending, apply_dite State.pending]; done)
  | (unfold State.judgeNew; (try dsimp only); (repeat' split) <;> first | (simp [apply_ite State.pending, apply_dite State.pending, *]; done) | (simp [State.offer_pending _ _ _ _ (by assumption), *]; done) | (simp [State.take_pending _ _ _ _ (by assumption), *]; done) | ((try rw [goesOn_next]); refine (foldl_pending _ _ _ ?_).trans ?_ <;> (first | (intro s a; (repeat' split) <;> simp; done) | simp; done)) | rfl)
@[simp] theorem execSafecfgRead_goesOn (codeA : Fin 65536) (codeB : Fin 65536) (t : Nat) (s : State) : goesOn s (execSafecfgRead codeA codeB t s) := by
  first
  | (simp [execSafecfgRead, goesOn_ite, apply_ite State.pending, apply_dite State.pending]; done)
  | (unfold execSafecfgRead; (try dsimp only); (repeat' split) <;> first | (simp [apply_ite State.pending, apply_dite State.pending, *]; done) | (simp [State.offer_pending _ _ _ _ (by assumption), *]; done) | (simp [State.take_pending _ _ _ _ (by assumption), *]; done) | ((try rw [goesOn_next]); refine (foldl_pending _ _ _ ?_).trans ?_ <;> (first | (intro s a; (repeat' split) <;> simp; done) | simp; done)) | rfl)
@[simp] theorem execSafecfgXcmp_goesOn (t : Nat) (s : State) : goesOn s (execSafecfgXcmp t s) := by
  first
  | (simp [execSafecfgXcmp, goesOn_ite, apply_ite State.pending, apply_dite State.pending]; done)
  | (unfold execSafecfgXcmp; (try dsimp only); (repeat' split) <;> first | (simp [apply_ite State.pending, apply_dite State.pending, *]; done) | (simp [State.offer_pending _ _ _ _ (by assumption), *]; done) | (simp [State.take_pending _ _ _ _ (by assumption), *]; done) | ((try rw [goesOn_next]); refine (foldl_pending _ _ _ ?_).trans ?_ <;> (first | (intro s a; (repeat' split) <;> simp; done) | simp; done)) | rfl)

end Sys2Proof.Machine
end

