-- ==== Sys2Proof/Laws/QueueDoors.lean ====
section
/-! SUPPORT. The operations of Machine/Doors.lean leave the queue of waiting commands alone. -/

namespace Sys2Proof.Machine

@[simp] theorem State.modDoor_pending (s : State) (d : Fin 8) (g : DoorSt → DoorSt) : (State.modDoor s d g).pending = s.pending := by
  first
  | (simp [State.modDoor, goesOn_ite, apply_ite State.pending, apply_dite State.pending]; done)
  | (unfold State.modDoor; (try dsimp only); (repeat' split) <;> first | (simp [apply_ite State.pending, apply_dite State.pending, *]; done) | (simp [State.offer_pending _ _ _ _ (by assumption), *]; done) | (simp [State.take_pending _ _ _ _ (by assumption), *]; done) | ((try rw [goesOn_next]); refine (foldl_pending _ _ _ ?_).trans ?_ <;> (first | (intro s a; (repeat' split) <;> simp; done) | simp; done)) | rfl)
@[simp] theorem State.toDoor_pending (s : State) (d : Fin 8) (st : Nat) : (State.toDoor s d st).pending = s.pending := by
  first
  | (simp [State.toDoor, goesOn_ite, apply_ite State.pending, apply_dite State.pending]; done)
  | (unfold State.toDoor; (try dsimp only); (repeat' split) <;> first | (simp [apply_ite State.pending, apply_dite State.pending, *]; done) | (simp [State.offer_pending _ _ _ _ (by assumption), *]; done) | (simp [State.take_pending _ _ _ _ (by assumption), *]; done) | ((try rw [goesOn_next]); refine (foldl_pending _ _ _ ?_).trans ?_ <;> (first | (intro s a; (repeat' split) <;> simp; done) | simp; done)) | rfl)
@[simp] theorem State.showDoors_pending (s : State) : (State.showDoors s).pending = s.pending := by
  first
  | (simp [State.showDoors, goesOn_ite, apply_ite State.pending, apply_dite State.pending]; done)
  | (unfold State.showDoors; (try dsimp only); (repeat' split) <;> first | (simp [apply_ite State.pending, apply_dite State.pending, *]; done) | (simp [State.offer_pending _ _ _ _ (by assumption), *]; done) | (simp [State.take_pending _ _ _ _ (by assumption), *]; done) | ((try rw [goesOn_next]); refine (foldl_pending _ _ _ ?_).trans ?_ <;> (first | (intro s a; (repeat' split) <;> simp; done) | simp; done)) | rfl)
@[simp] theorem State.place_pending (s : State) (d : Fin 8) (gs : List Segment) : (State.place s d gs).pending = s.pending := by
  first
  | (simp [State.place, goesOn_ite, apply_ite State.pending, apply_dite State.pending]; done)
  | (unfold State.place; (try dsimp only); (repeat' split) <;> first | (simp [apply_ite State.pending, apply_dite State.pending, *]; done) | (simp [State.offer_pending _ _ _ _ (by assumption), *]; done) | (simp [State.take_pending _ _ _ _ (by assumption), *]; done) | ((try rw [goesOn_next]); refine (foldl_pending _ _ _ ?_).trans ?_ <;> (first | (intro s a; (repeat' split) <;> simp; done) | simp; done)) | rfl)
@[simp] theorem State.stroke_pending (s : State) (d : Fin 8) (st : Nat) (dest : Int) (start : Int) (l : Nat × Nat × Nat × Nat) : (State.stroke s d st dest start l).pending = s.pending := by
  first
  | (simp [State.stroke, goesOn_ite, apply_ite State.pending, apply_dite State.pending]; done)
  | (unfold State.stroke; (try dsimp only); (repeat' split) <;> first | (simp [apply_ite State.pending, apply_dite State.pending, *]; done) | (simp [State.offer_pending _ _ _ _ (by assumption), *]; done) | (simp [State.take_pending _ _ _ _ (by assumption), *]; done) | ((try rw [goesOn_next]); refine (foldl_pending _ _ _ ?_).trans ?_ <;> (first | (intro s a; (repeat' split) <;> simp; done) | simp; done)) | rfl)
@[simp] theorem State.openStroke_pending (s : State) (d : Fin 8) : (State.openStroke s d).pending = s.pending := by
  first
  | (simp [State.openStroke, goesOn_ite, apply_ite State.pending, apply_dite State.pending]; done)
  | (unfold State.openStroke; (try dsimp only); (repeat' split) <;> first | (simp [apply_ite State.pending, apply_dite State.pending, *]; done) | (simp [State.offer_pending _ _ _ _ (by assumption), *]; done) | (simp [State.take_pending _ _ _ _ (by assumption), *]; done) | ((try rw [goesOn_next]); refine (foldl_pending _ _ _ ?_).trans ?_ <;> (first | (intro s a; (repeat' split) <;> simp; done) | simp; done)) | rfl)
@[simp] theorem State.closeStroke_pending (s : State) (d : Fin 8) : (State.closeStroke s d).pending = s.pending := by
  first
  | (simp [State.closeStroke, goesOn_ite, apply_ite State.pending, apply_dite State.pending]; done)
  | (unfold State.closeStroke; (try dsimp only); (repeat' split) <;> first | (simp [apply_ite State.pending, apply_dite State.pending, *]; done) | (simp [State.offer_pending _ _ _ _ (by assumption), *]; done) | (simp [State.take_pending _ _ _ _ (by assumption), *]; done) | ((try rw [goesOn_next]); refine (foldl_pending _ _ _ ?_).trans ?_ <;> (first | (intro s a; (repeat' split) <;> simp; done) | simp; done)) | rfl)
@[simp] theorem State.beginCycle_pending (s : State) (d : Fin 8) (flags : Nat) : (State.beginCycle s d flags).pending = s.pending := by
  first
  | (simp [State.beginCycle, goesOn_ite, apply_ite State.pending, apply_dite State.pending]; done)
  | (unfold State.beginCycle; (try dsimp only); (repeat' split) <;> first | (simp [apply_ite State.pending, apply_dite State.pending, *]; done) | (simp [State.offer_pending _ _ _ _ (by assumption), *]; done) | (simp [State.take_pending _ _ _ _ (by assumption), *]; done) | ((try rw [goesOn_next]); refine (foldl_pending _ _ _ ?_).trans ?_ <;> (first | (intro s a; (repeat' split) <;> simp; done) | simp; done)) | rfl)
@[simp] theorem State.endCycle_pending (s : State) (d : Fin 8) : (State.endCycle s d).pending = s.pending := by
  first
  | (simp [State.endCycle, goesOn_ite, apply_ite State.pending, apply_dite State.pending]; done)
  | (unfold State.endCycle; (try dsimp only); (repeat' split) <;> first | (simp [apply_ite State.pending, apply_dite State.pending, *]; done) | (simp [State.offer_pending _ _ _ _ (by assumption), *]; done) | (simp [State.take_pending _ _ _ _ (by assumption), *]; done) | ((try rw [goesOn_next]); refine (foldl_pending _ _ _ ?_).trans ?_ <;> (first | (intro s a; (repeat' split) <;> simp; done) | simp; done)) | rfl)
@[simp] theorem State.settleDoor_pending (s : State) (d : Fin 8) (st : Nat) : (State.settleDoor s d st).pending = s.pending := by
  first
  | (simp [State.settleDoor, goesOn_ite, apply_ite State.pending, apply_dite State.pending]; done)
  | (unfold State.settleDoor; (try dsimp only); (repeat' split) <;> first | (simp [apply_ite State.pending, apply_dite State.pending, *]; done) | (simp [State.offer_pending _ _ _ _ (by assumption), *]; done) | (simp [State.take_pending _ _ _ _ (by assumption), *]; done) | ((try rw [goesOn_next]); refine (foldl_pending _ _ _ ?_).trans ?_ <;> (first | (intro s a; (repeat' split) <;> simp; done) | simp; done)) | rfl)
@[simp] theorem State.doorFault_pending (s : State) (d : Fin 8) (cause : Nat) : (State.doorFault s d cause).pending = s.pending := by
  first
  | (simp [State.doorFault, goesOn_ite, apply_ite State.pending, apply_dite State.pending]; done)
  | (unfold State.doorFault; (try dsimp only); (repeat' split) <;> first | (simp [apply_ite State.pending, apply_dite State.pending, *]; done) | (simp [State.offer_pending _ _ _ _ (by assumption), *]; done) | (simp [State.take_pending _ _ _ _ (by assumption), *]; done) | ((try rw [goesOn_next]); refine (foldl_pending _ _ _ ?_).trans ?_ <;> (first | (intro s a; (repeat' split) <;> simp; done) | simp; done)) | rfl)
@[simp] theorem State.startLock_pending (s : State) (d : Fin 8) : (State.startLock s d).pending = s.pending := by
  first
  | (simp [State.startLock, goesOn_ite, apply_ite State.pending, apply_dite State.pending]; done)
  | (unfold State.startLock; (try dsimp only); (repeat' split) <;> first | (simp [apply_ite State.pending, apply_dite State.pending, *]; done) | (simp [State.offer_pending _ _ _ _ (by assumption), *]; done) | (simp [State.take_pending _ _ _ _ (by assumption), *]; done) | ((try rw [goesOn_next]); refine (foldl_pending _ _ _ ?_).trans ?_ <;> (first | (intro s a; (repeat' split) <;> simp; done) | simp; done)) | rfl)
@[simp] theorem State.doorTick_pending (s : State) (d : Fin 8) : (State.doorTick s d).pending = s.pending := by
  first
  | (simp [State.doorTick, goesOn_ite, apply_ite State.pending, apply_dite State.pending]; done)
  | (unfold State.doorTick; (try dsimp only); (repeat' split) <;> first | (simp [apply_ite State.pending, apply_dite State.pending, *]; done) | (simp [State.offer_pending _ _ _ _ (by assumption), *]; done) | (simp [State.take_pending _ _ _ _ (by assumption), *]; done) | ((try rw [goesOn_next]); refine (foldl_pending _ _ _ ?_).trans ?_ <;> (first | (intro s a; (repeat' split) <;> simp; done) | simp; done)) | rfl)
@[simp] theorem State.doorPlace_pending (s : State) (d : Fin 8) : (State.doorPlace s d).pending = s.pending := by
  first
  | (simp [State.doorPlace, goesOn_ite, apply_ite State.pending, apply_dite State.pending]; done)
  | (unfold State.doorPlace; (try dsimp only); (repeat' split) <;> first | (simp [apply_ite State.pending, apply_dite State.pending, *]; done) | (simp [State.offer_pending _ _ _ _ (by assumption), *]; done) | (simp [State.take_pending _ _ _ _ (by assumption), *]; done) | ((try rw [goesOn_next]); refine (foldl_pending _ _ _ ?_).trans ?_ <;> (first | (intro s a; (repeat' split) <;> simp; done) | simp; done)) | rfl)
@[simp] theorem State.obstacle_pending (s : State) (d : Fin 8) (eff : Int) : (State.obstacle s d eff).pending = s.pending := by
  first
  | (simp [State.obstacle, goesOn_ite, apply_ite State.pending, apply_dite State.pending]; done)
  | (unfold State.obstacle; (try dsimp only); (repeat' split) <;> first | (simp [apply_ite State.pending, apply_dite State.pending, *]; done) | (simp [State.offer_pending _ _ _ _ (by assumption), *]; done) | (simp [State.take_pending _ _ _ _ (by assumption), *]; done) | ((try rw [goesOn_next]); refine (foldl_pending _ _ _ ?_).trans ?_ <;> (first | (intro s a; (repeat' split) <;> simp; done) | simp; done)) | rfl)
@[simp] theorem State.writeBins_pending (s : State) (d : Fin 8) (closes : Bool) (bins : List (Option Int)) : (State.writeBins s d closes bins).pending = s.pending := by
  first
  | (simp [State.writeBins, goesOn_ite, apply_ite State.pending, apply_dite State.pending]; done)
  | (unfold State.writeBins; (try dsimp only); (repeat' split) <;> first | (simp [apply_ite State.pending, apply_dite State.pending, *]; done) | (simp [State.offer_pending _ _ _ _ (by assumption), *]; done) | (simp [State.take_pending _ _ _ _ (by assumption), *]; done) | ((try rw [goesOn_next]); refine (foldl_pending _ _ _ ?_).trans ?_ <;> (first | (intro s a; (repeat' split) <;> simp; done) | simp; done)) | rfl)
@[simp] theorem State.adapt_pending (s : State) (d : Fin 8) (closes : Bool) (peaks : List (Option Int)) : (State.adapt s d closes peaks).pending = s.pending := by
  first
  | (simp [State.adapt, goesOn_ite, apply_ite State.pending, apply_dite State.pending]; done)
  | (unfold State.adapt; (try dsimp only); (repeat' split) <;> first | (simp [apply_ite State.pending, apply_dite State.pending, *]; done) | (simp [State.offer_pending _ _ _ _ (by assumption), *]; done) | (simp [State.take_pending _ _ _ _ (by assumption), *]; done) | ((try rw [goesOn_next]); refine (foldl_pending _ _ _ ?_).trans ?_ <;> (first | (intro s a; (repeat' split) <;> simp; done) | simp; done)) | rfl)
@[simp] theorem State.strokeEnd_pending (s : State) (d : Fin 8) (closes : Bool) : (State.strokeEnd s d closes).pending = s.pending := by
  first
  | (simp [State.strokeEnd, goesOn_ite, apply_ite State.pending, apply_dite State.pending]; done)
  | (unfold State.strokeEnd; (try dsimp only); (repeat' split) <;> first | (simp [apply_ite State.pending, apply_dite State.pending, *]; done) | (simp [State.offer_pending _ _ _ _ (by assumption), *]; done) | (simp [State.take_pending _ _ _ _ (by assumption), *]; done) | ((try rw [goesOn_next]); refine (foldl_pending _ _ _ ?_).trans ?_ <;> (first | (intro s a; (repeat' split) <;> simp; done) | simp; done)) | rfl)
@[simp] theorem State.judgeProfile_pending (s : State) (d : Fin 8) : (State.judgeProfile s d).pending = s.pending := by
  first
  | (simp [State.judgeProfile, goesOn_ite, apply_ite State.pending, apply_dite State.pending]; done)
  | (unfold State.judgeProfile; (try dsimp only); (repeat' split) <;> first | (simp [apply_ite State.pending, apply_dite State.pending, *]; done) | (simp [State.offer_pending _ _ _ _ (by assumption), *]; done) | (simp [State.take_pending _ _ _ _ (by assumption), *]; done) | ((try rw [goesOn_next]); refine (foldl_pending _ _ _ ?_).trans ?_ <;> (first | (intro s a; (repeat' split) <;> simp; done) | simp; done)) | rfl)
@[simp] theorem State.doorStart_pending (s : State) (d : Fin 8) : (State.doorStart s d).pending = s.pending := by
  first
  | (simp [State.doorStart, goesOn_ite, apply_ite State.pending, apply_dite State.pending]; done)
  | (unfold State.doorStart; (try dsimp only); (repeat' split) <;> first | (simp [apply_ite State.pending, apply_dite State.pending, *]; done) | (simp [State.offer_pending _ _ _ _ (by assumption), *]; done) | (simp [State.take_pending _ _ _ _ (by assumption), *]; done) | ((try rw [goesOn_next]); refine (foldl_pending _ _ _ ?_).trans ?_ <;> (first | (intro s a; (repeat' split) <;> simp; done) | simp; done)) | rfl)
@[simp] theorem State.doorPair_pending (s : State) (d : Fin 8) (was : Bool) : (State.doorPair s d was).pending = s.pending := by
  first
  | (simp [State.doorPair, goesOn_ite, apply_ite State.pending, apply_dite State.pending]; done)
  | (unfold State.doorPair; (try dsimp only); (repeat' split) <;> first | (simp [apply_ite State.pending, apply_dite State.pending, *]; done) | (simp [State.offer_pending _ _ _ _ (by assumption), *]; done) | (simp [State.take_pending _ _ _ _ (by assumption), *]; done) | ((try rw [goesOn_next]); refine (foldl_pending _ _ _ ?_).trans ?_ <;> (first | (intro s a; (repeat' split) <;> simp; done) | simp; done)) | rfl)
@[simp] theorem State.doorRes_pending (s : State) (d : Fin 8) (code : Nat) : (State.doorRes s d code).pending = s.pending := by
  first
  | (simp [State.doorRes, goesOn_ite, apply_ite State.pending, apply_dite State.pending]; done)
  | (unfold State.doorRes; (try dsimp only); (repeat' split) <;> first | (simp [apply_ite State.pending, apply_dite State.pending, *]; done) | (simp [State.offer_pending _ _ _ _ (by assumption), *]; done) | (simp [State.take_pending _ _ _ _ (by assumption), *]; done) | ((try rw [goesOn_next]); refine (foldl_pending _ _ _ ?_).trans ?_ <;> (first | (intro s a; (repeat' split) <;> simp; done) | simp; done)) | rfl)
@[simp] theorem doorCommand_goesOn (d : Fin 8) (key : Nat) (s : State) (g : State → State)
    (h : (g s).pending = s.pending) : goesOn s (doorCommand d key s g) := by
  unfold doorCommand
  split <;> simp [h]
@[simp] theorem execDoorOpen_goesOn (d : Fin 8) (key : Nat) (s : State) : goesOn s (execDoorOpen d key s) := by
  first
  | (simp [execDoorOpen, goesOn_ite, apply_ite State.pending, apply_dite State.pending]; done)
  | (unfold execDoorOpen; (try dsimp only); (repeat' split) <;> first | (simp [apply_ite State.pending, apply_dite State.pending, *]; done) | (simp [State.offer_pending _ _ _ _ (by assumption), *]; done) | (simp [State.take_pending _ _ _ _ (by assumption), *]; done) | ((try rw [goesOn_next]); refine (foldl_pending _ _ _ ?_).trans ?_ <;> (first | (intro s a; (repeat' split) <;> simp; done) | simp; done)) | rfl)
@[simp] theorem execDoorClose_goesOn (d : Fin 8) (key : Nat) (s : State) : goesOn s (execDoorClose d key s) := by
  first
  | (simp [execDoorClose, goesOn_ite, apply_ite State.pending, apply_dite State.pending]; done)
  | (unfold execDoorClose; (try dsimp only); (repeat' split) <;> first | (simp [apply_ite State.pending, apply_dite State.pending, *]; done) | (simp [State.offer_pending _ _ _ _ (by assumption), *]; done) | (simp [State.take_pending _ _ _ _ (by assumption), *]; done) | ((try rw [goesOn_next]); refine (foldl_pending _ _ _ ?_).trans ?_ <;> (first | (intro s a; (repeat' split) <;> simp; done) | simp; done)) | rfl)
@[simp] theorem execDoorLock_goesOn (d : Fin 8) (key : Nat) (s : State) : goesOn s (execDoorLock d key s) := by
  first
  | (simp [execDoorLock, goesOn_ite, apply_ite State.pending, apply_dite State.pending]; done)
  | (unfold execDoorLock; (try dsimp only); (repeat' split) <;> first | (simp [apply_ite State.pending, apply_dite State.pending, *]; done) | (simp [State.offer_pending _ _ _ _ (by assumption), *]; done) | (simp [State.take_pending _ _ _ _ (by assumption), *]; done) | ((try rw [goesOn_next]); refine (foldl_pending _ _ _ ?_).trans ?_ <;> (first | (intro s a; (repeat' split) <;> simp; done) | simp; done)) | rfl)
@[simp] theorem execDoorStop_goesOn (d : Fin 8) (key : Nat) (s : State) : goesOn s (execDoorStop d key s) := by
  first
  | (simp [execDoorStop, goesOn_ite, apply_ite State.pending, apply_dite State.pending]; done)
  | (unfold execDoorStop; (try dsimp only); (repeat' split) <;> first | (simp [apply_ite State.pending, apply_dite State.pending, *]; done) | (simp [State.offer_pending _ _ _ _ (by assumption), *]; done) | (simp [State.take_pending _ _ _ _ (by assumption), *]; done) | ((try rw [goesOn_next]); refine (foldl_pending _ _ _ ?_).trans ?_ <;> (first | (intro s a; (repeat' split) <;> simp; done) | simp; done)) | rfl)
@[simp] theorem execDoorLearn_goesOn (d : Fin 8) (key : Nat) (s : State) : goesOn s (execDoorLearn d key s) := by
  first
  | (simp [execDoorLearn, goesOn_ite, apply_ite State.pending, apply_dite State.pending]; done)
  | (unfold execDoorLearn; (try dsimp only); (repeat' split) <;> first | (simp [apply_ite State.pending, apply_dite State.pending, *]; done) | (simp [State.offer_pending _ _ _ _ (by assumption), *]; done) | (simp [State.take_pending _ _ _ _ (by assumption), *]; done) | ((try rw [goesOn_next]); refine (foldl_pending _ _ _ ?_).trans ?_ <;> (first | (intro s a; (repeat' split) <;> simp; done) | simp; done)) | rfl)
@[simp] theorem execDoorAck_goesOn (d : Fin 8) (key : Nat) (s : State) : goesOn s (execDoorAck d key s) := by
  first
  | (simp [execDoorAck, goesOn_ite, apply_ite State.pending, apply_dite State.pending]; done)
  | (unfold execDoorAck; (try dsimp only); (repeat' split) <;> first | (simp [apply_ite State.pending, apply_dite State.pending, *]; done) | (simp [State.offer_pending _ _ _ _ (by assumption), *]; done) | (simp [State.take_pending _ _ _ _ (by assumption), *]; done) | ((try rw [goesOn_next]); refine (foldl_pending _ _ _ ?_).trans ?_ <;> (first | (intro s a; (repeat' split) <;> simp; done) | simp; done)) | rfl)
@[simp] theorem execDoorConfChange_goesOn (d : Fin 8) (level : Bool) (t : Nat) (s : State) : goesOn s (execDoorConfChange d level t s) := by
  first
  | (simp [execDoorConfChange, goesOn_ite, apply_ite State.pending, apply_dite State.pending]; done)
  | (unfold execDoorConfChange; (try dsimp only); (repeat' split) <;> first | (simp [apply_ite State.pending, apply_dite State.pending, *]; done) | (simp [State.offer_pending _ _ _ _ (by assumption), *]; done) | (simp [State.take_pending _ _ _ _ (by assumption), *]; done) | ((try rw [goesOn_next]); refine (foldl_pending _ _ _ ?_).trans ?_ <;> (first | (intro s a; (repeat' split) <;> simp; done) | simp; done)) | rfl)
@[simp] theorem execDoorLockFail_goesOn (d : Fin 8) (t : Nat) (s : State) : goesOn s (execDoorLockFail d t s) := by
  first
  | (simp [execDoorLockFail, goesOn_ite, apply_ite State.pending, apply_dite State.pending]; done)
  | (unfold execDoorLockFail; (try dsimp only); (repeat' split) <;> first | (simp [apply_ite State.pending, apply_dite State.pending, *]; done) | (simp [State.offer_pending _ _ _ _ (by assumption), *]; done) | (simp [State.take_pending _ _ _ _ (by assumption), *]; done) | ((try rw [goesOn_next]); refine (foldl_pending _ _ _ ?_).trans ?_ <;> (first | (intro s a; (repeat' split) <;> simp; done) | simp; done)) | rfl)
@[simp] theorem execDoorArrived_goesOn (d : Fin 8) (t : Nat) (s : State) : goesOn s (execDoorArrived d t s) := by
  first
  | (simp [execDoorArrived, goesOn_ite, apply_ite State.pending, apply_dite State.pending]; done)
  | (unfold execDoorArrived; (try dsimp only); (repeat' split) <;> first | (simp [apply_ite State.pending, apply_dite State.pending, *]; done) | (simp [State.offer_pending _ _ _ _ (by assumption), *]; done) | (simp [State.take_pending _ _ _ _ (by assumption), *]; done) | ((try rw [goesOn_next]); refine (foldl_pending _ _ _ ?_).trans ?_ <;> (first | (intro s a; (repeat' split) <;> simp; done) | simp; done)) | rfl)
@[simp] theorem execDoorPosMismatch_goesOn (d : Fin 8) (t : Nat) (s : State) : goesOn s (execDoorPosMismatch d t s) := by
  first
  | (simp [execDoorPosMismatch, goesOn_ite, apply_ite State.pending, apply_dite State.pending]; done)
  | (unfold execDoorPosMismatch; (try dsimp only); (repeat' split) <;> first | (simp [apply_ite State.pending, apply_dite State.pending, *]; done) | (simp [State.offer_pending _ _ _ _ (by assumption), *]; done) | (simp [State.take_pending _ _ _ _ (by assumption), *]; done) | ((try rw [goesOn_next]); refine (foldl_pending _ _ _ ?_).trans ?_ <;> (first | (intro s a; (repeat' split) <;> simp; done) | simp; done)) | rfl)
@[simp] theorem execDoorObstacle_goesOn (d : Fin 8) (s : State) : goesOn s (execDoorObstacle d s) := by
  first
  | (simp [execDoorObstacle, goesOn_ite, apply_ite State.pending, apply_dite State.pending]; done)
  | (unfold execDoorObstacle; (try dsimp only); (repeat' split) <;> first | (simp [apply_ite State.pending, apply_dite State.pending, *]; done) | (simp [State.offer_pending _ _ _ _ (by assumption), *]; done) | (simp [State.take_pending _ _ _ _ (by assumption), *]; done) | ((try rw [goesOn_next]); refine (foldl_pending _ _ _ ?_).trans ?_ <;> (first | (intro s a; (repeat' split) <;> simp; done) | simp; done)) | rfl)
@[simp] theorem execDoorEdge_goesOn (d : Fin 8) (level : Bool) (s : State) : goesOn s (execDoorEdge d level s) := by
  first
  | (simp [execDoorEdge, goesOn_ite, apply_ite State.pending, apply_dite State.pending]; done)
  | (unfold execDoorEdge; (try dsimp only); (repeat' split) <;> first | (simp [apply_ite State.pending, apply_dite State.pending, *]; done) | (simp [State.offer_pending _ _ _ _ (by assumption), *]; done) | (simp [State.take_pending _ _ _ _ (by assumption), *]; done) | ((try rw [goesOn_next]); refine (foldl_pending _ _ _ ?_).trans ?_ <;> (first | (intro s a; (repeat' split) <;> simp; done) | simp; done)) | rfl)
@[simp] theorem execDoorLockset_goesOn (d : Fin 8) (t : Nat) (s : State) : goesOn s (execDoorLockset d t s) := by
  first
  | (simp [execDoorLockset, goesOn_ite, apply_ite State.pending, apply_dite State.pending]; done)
  | (unfold execDoorLockset; (try dsimp only); (repeat' split) <;> first | (simp [apply_ite State.pending, apply_dite State.pending, *]; done) | (simp [State.offer_pending _ _ _ _ (by assumption), *]; done) | (simp [State.take_pending _ _ _ _ (by assumption), *]; done) | ((try rw [goesOn_next]); refine (foldl_pending _ _ _ ?_).trans ?_ <;> (first | (intro s a; (repeat' split) <;> simp; done) | simp; done)) | rfl)
@[simp] theorem State.evalPairs_pending (s : State) : (State.evalPairs s).pending = s.pending := by
  first
  | (simp [State.evalPairs, goesOn_ite, apply_ite State.pending, apply_dite State.pending]; done)
  | (unfold State.evalPairs; (try dsimp only); (repeat' split) <;> first | (simp [apply_ite State.pending, apply_dite State.pending, *]; done) | (simp [State.offer_pending _ _ _ _ (by assumption), *]; done) | (simp [State.take_pending _ _ _ _ (by assumption), *]; done) | ((try rw [goesOn_next]); refine (foldl_pending _ _ _ ?_).trans ?_ <;> (first | (intro s a; (repeat' split) <;> simp; done) | simp; done)) | rfl)
@[simp] theorem State.pairDemand_pending (s : State) (num : Nat) (cat : Nat) (g : Fin 4) (cause : Nat) : (State.pairDemand s num cat g cause).pending = s.pending := by
  first
  | (simp [State.pairDemand, goesOn_ite, apply_ite State.pending, apply_dite State.pending]; done)
  | (unfold State.pairDemand; (try dsimp only); (repeat' split) <;> first | (simp [apply_ite State.pending, apply_dite State.pending, *]; done) | (simp [State.offer_pending _ _ _ _ (by assumption), *]; done) | (simp [State.take_pending _ _ _ _ (by assumption), *]; done) | ((try rw [goesOn_next]); refine (foldl_pending _ _ _ ?_).trans ?_ <;> (first | (intro s a; (repeat' split) <;> simp; done) | simp; done)) | rfl)
@[simp] theorem State.pairDemands_pending (s : State) (d : SafPair) : (State.pairDemands s d).pending = s.pending := by
  first
  | (simp [State.pairDemands, goesOn_ite, apply_ite State.pending, apply_dite State.pending]; done)
  | (unfold State.pairDemands; (try dsimp only); (repeat' split) <;> first | (simp [apply_ite State.pending, apply_dite State.pending, *]; done) | (simp [State.offer_pending _ _ _ _ (by assumption), *]; done) | (simp [State.take_pending _ _ _ _ (by assumption), *]; done) | ((try rw [goesOn_next]); refine (foldl_pending _ _ _ ?_).trans ?_ <;> (first | (intro s a; (repeat' split) <;> simp; done) | simp; done)) | rfl)
@[simp] theorem State.doorPairs_pending (s : State) (ok : Fin 8 → Bool) : (State.doorPairs s ok).pending = s.pending := by
  first
  | (simp [State.doorPairs, goesOn_ite, apply_ite State.pending, apply_dite State.pending]; done)
  | (unfold State.doorPairs; (try dsimp only); (repeat' split) <;> first | (simp [apply_ite State.pending, apply_dite State.pending, *]; done) | (simp [State.offer_pending _ _ _ _ (by assumption), *]; done) | (simp [State.take_pending _ _ _ _ (by assumption), *]; done) | ((try rw [goesOn_next]); refine (foldl_pending _ _ _ ?_).trans ?_ <;> (first | (intro s a; (repeat' split) <;> simp; done) | simp; done)) | rfl)
@[simp] theorem execSafetyInputEval_goesOn (t : Nat) (s : State) : goesOn s (execSafetyInputEval t s) := by
  first
  | (simp [execSafetyInputEval, goesOn_ite, apply_ite State.pending, apply_dite State.pending]; done)
  | (unfold execSafetyInputEval; (try dsimp only); (repeat' split) <;> first | (simp [apply_ite State.pending, apply_dite State.pending, *]; done) | (simp [State.offer_pending _ _ _ _ (by assumption), *]; done) | (simp [State.take_pending _ _ _ _ (by assumption), *]; done) | ((try rw [goesOn_next]); refine (foldl_pending _ _ _ ?_).trans ?_ <;> (first | (intro s a; (repeat' split) <;> simp; done) | simp; done)) | rfl)

end Sys2Proof.Machine
end

