-- ==== Sys2Proof/Laws/QueueEngine.lean ====
section
/-! SUPPORT. The operations of Machine/Engine.lean leave the queue of waiting commands alone. -/

namespace Sys2Proof.Machine

@[simp] theorem State.modCl_pending (s : State) (c : Fin 12) (g : Cluster → Cluster) : (State.modCl s c g).pending = s.pending := by
  first
  | (simp [State.modCl, goesOn_ite, apply_ite State.pending, apply_dite State.pending]; done)
  | (unfold State.modCl; (try dsimp only); (repeat' split) <;> first | (simp [apply_ite State.pending, apply_dite State.pending, *]; done) | (simp [State.offer_pending _ _ _ _ (by assumption), *]; done) | (simp [State.take_pending _ _ _ _ (by assumption), *]; done) | (simp [State.eone_pending _ _ _ _ _ _ _ _ (by assumption), *]; done) | ((try rw [goesOn_next]); refine (foldl_pending _ _ _ ?_).trans ?_ <;> (first | (intro s a; (repeat' split) <;> simp; done) | simp; done)) | rfl)
@[simp] theorem State.dput_pending (s : State) (c : Fin 12) (addr : Nat) (w : Word) : (State.dput s c addr w).pending = s.pending := by
  first
  | (simp [State.dput, goesOn_ite, apply_ite State.pending, apply_dite State.pending]; done)
  | (unfold State.dput; (try dsimp only); (repeat' split) <;> first | (simp [apply_ite State.pending, apply_dite State.pending, *]; done) | (simp [State.offer_pending _ _ _ _ (by assumption), *]; done) | (simp [State.take_pending _ _ _ _ (by assumption), *]; done) | (simp [State.eone_pending _ _ _ _ _ _ _ _ (by assumption), *]; done) | ((try rw [goesOn_next]); refine (foldl_pending _ _ _ ?_).trans ?_ <;> (first | (intro s a; (repeat' split) <;> simp; done) | simp; done)) | rfl)
@[simp] theorem State.dputN_pending (s : State) (c : Fin 12) (addr : Nat) (v : Nat) : (State.dputN s c addr v).pending = s.pending := by
  first
  | (simp [State.dputN, goesOn_ite, apply_ite State.pending, apply_dite State.pending]; done)
  | (unfold State.dputN; (try dsimp only); (repeat' split) <;> first | (simp [apply_ite State.pending, apply_dite State.pending, *]; done) | (simp [State.offer_pending _ _ _ _ (by assumption), *]; done) | (simp [State.take_pending _ _ _ _ (by assumption), *]; done) | (simp [State.eone_pending _ _ _ _ _ _ _ _ (by assumption), *]; done) | ((try rw [goesOn_next]); refine (foldl_pending _ _ _ ?_).trans ?_ <;> (first | (intro s a; (repeat' split) <;> simp; done) | simp; done)) | rfl)
@[simp] theorem State.flush_pending (s : State) (c : Fin 12) : (State.flush s c).pending = s.pending := by
  first
  | (simp [State.flush, goesOn_ite, apply_ite State.pending, apply_dite State.pending]; done)
  | (unfold State.flush; (try dsimp only); (repeat' split) <;> first | (simp [apply_ite State.pending, apply_dite State.pending, *]; done) | (simp [State.offer_pending _ _ _ _ (by assumption), *]; done) | (simp [State.take_pending _ _ _ _ (by assumption), *]; done) | (simp [State.eone_pending _ _ _ _ _ _ _ _ (by assumption), *]; done) | ((try rw [goesOn_next]); refine (foldl_pending _ _ _ ?_).trans ?_ <;> (first | (intro s a; (repeat' split) <;> simp; done) | simp; done)) | rfl)
@[simp] theorem State.estore_pending (s : State) (c : Fin 12) (m : EPass) (addr : Nat) (w : Word) : (State.estore s c m addr w).pending = s.pending := by
  first
  | (simp [State.estore, goesOn_ite, apply_ite State.pending, apply_dite State.pending]; done)
  | (unfold State.estore; (try dsimp only); (repeat' split) <;> first | (simp [apply_ite State.pending, apply_dite State.pending, *]; done) | (simp [State.offer_pending _ _ _ _ (by assumption), *]; done) | (simp [State.take_pending _ _ _ _ (by assumption), *]; done) | (simp [State.eone_pending _ _ _ _ _ _ _ _ (by assumption), *]; done) | ((try rw [goesOn_next]); refine (foldl_pending _ _ _ ?_).trans ?_ <;> (first | (intro s a; (repeat' split) <;> simp; done) | simp; done)) | rfl)
@[simp] theorem State.endSection_pending (s : State) (c : Fin 12) : (State.endSection s c).pending = s.pending := by
  first
  | (simp [State.endSection, goesOn_ite, apply_ite State.pending, apply_dite State.pending]; done)
  | (unfold State.endSection; (try dsimp only); (repeat' split) <;> first | (simp [apply_ite State.pending, apply_dite State.pending, *]; done) | (simp [State.offer_pending _ _ _ _ (by assumption), *]; done) | (simp [State.take_pending _ _ _ _ (by assumption), *]; done) | (simp [State.eone_pending _ _ _ _ _ _ _ _ (by assumption), *]; done) | ((try rw [goesOn_next]); refine (foldl_pending _ _ _ ?_).trans ?_ <;> (first | (intro s a; (repeat' split) <;> simp; done) | simp; done)) | rfl)
@[simp] theorem State.freezePc_pending (s : State) (c : Fin 12) : (State.freezePc s c).pending = s.pending := by
  first
  | (simp [State.freezePc, goesOn_ite, apply_ite State.pending, apply_dite State.pending]; done)
  | (unfold State.freezePc; (try dsimp only); (repeat' split) <;> first | (simp [apply_ite State.pending, apply_dite State.pending, *]; done) | (simp [State.offer_pending _ _ _ _ (by assumption), *]; done) | (simp [State.take_pending _ _ _ _ (by assumption), *]; done) | (simp [State.eone_pending _ _ _ _ _ _ _ _ (by assumption), *]; done) | ((try rw [goesOn_next]); refine (foldl_pending _ _ _ ?_).trans ?_ <;> (first | (intro s a; (repeat' split) <;> simp; done) | simp; done)) | rfl)
@[simp] theorem State.engIllegal_pending (s : State) (c : Fin 12) : (State.engIllegal s c).pending = s.pending := by
  first
  | (simp [State.engIllegal, goesOn_ite, apply_ite State.pending, apply_dite State.pending]; done)
  | (unfold State.engIllegal; (try dsimp only); (repeat' split) <;> first | (simp [apply_ite State.pending, apply_dite State.pending, *]; done) | (simp [State.offer_pending _ _ _ _ (by assumption), *]; done) | (simp [State.take_pending _ _ _ _ (by assumption), *]; done) | (simp [State.eone_pending _ _ _ _ _ _ _ _ (by assumption), *]; done) | ((try rw [goesOn_next]); refine (foldl_pending _ _ _ ?_).trans ?_ <;> (first | (intro s a; (repeat' split) <;> simp; done) | simp; done)) | rfl)
@[simp] theorem State.estep_pending (s : State) (c : Fin 12) (a : EAddr) : (State.estep s c a).pending = s.pending := by
  first
  | (simp [State.estep, goesOn_ite, apply_ite State.pending, apply_dite State.pending]; done)
  | (unfold State.estep; (try dsimp only); (repeat' split) <;> first | (simp [apply_ite State.pending, apply_dite State.pending, *]; done) | (simp [State.offer_pending _ _ _ _ (by assumption), *]; done) | (simp [State.take_pending _ _ _ _ (by assumption), *]; done) | (simp [State.eone_pending _ _ _ _ _ _ _ _ (by assumption), *]; done) | ((try rw [goesOn_next]); refine (foldl_pending _ _ _ ?_).trans ?_ <;> (first | (intro s a; (repeat' split) <;> simp; done) | simp; done)) | rfl)
@[simp] theorem State.setAcc_pending (s : State) (c : Fin 12) (m : EPass) (l : Fin 2) (v : Int) : (State.setAcc s c m l v).pending = s.pending := by
  first
  | (simp [State.setAcc, goesOn_ite, apply_ite State.pending, apply_dite State.pending]; done)
  | (unfold State.setAcc; (try dsimp only); (repeat' split) <;> first | (simp [apply_ite State.pending, apply_dite State.pending, *]; done) | (simp [State.offer_pending _ _ _ _ (by assumption), *]; done) | (simp [State.take_pending _ _ _ _ (by assumption), *]; done) | (simp [State.eone_pending _ _ _ _ _ _ _ _ (by assumption), *]; done) | ((try rw [goesOn_next]); refine (foldl_pending _ _ _ ?_).trans ?_ <;> (first | (intro s a; (repeat' split) <;> simp; done) | simp; done)) | rfl)
@[simp] theorem State.noteSat_pending (s : State) (c : Fin 12) (m : EPass) (sat : Bool) : (State.noteSat s c m sat).pending = s.pending := by
  first
  | (simp [State.noteSat, goesOn_ite, apply_ite State.pending, apply_dite State.pending]; done)
  | (unfold State.noteSat; (try dsimp only); (repeat' split) <;> first | (simp [apply_ite State.pending, apply_dite State.pending, *]; done) | (simp [State.offer_pending _ _ _ _ (by assumption), *]; done) | (simp [State.take_pending _ _ _ _ (by assumption), *]; done) | (simp [State.eone_pending _ _ _ _ _ _ _ _ (by assumption), *]; done) | ((try rw [goesOn_next]); refine (foldl_pending _ _ _ ?_).trans ?_ <;> (first | (intro s a; (repeat' split) <;> simp; done) | simp; done)) | rfl)
@[simp] theorem State.setD_pending (s : State) (c : Fin 12) (n : Fin 8) (w : Word) : (State.setD s c n w).pending = s.pending := by
  first
  | (simp [State.setD, goesOn_ite, apply_ite State.pending, apply_dite State.pending]; done)
  | (unfold State.setD; (try dsimp only); (repeat' split) <;> first | (simp [apply_ite State.pending, apply_dite State.pending, *]; done) | (simp [State.offer_pending _ _ _ _ (by assumption), *]; done) | (simp [State.take_pending _ _ _ _ (by assumption), *]; done) | (simp [State.eone_pending _ _ _ _ _ _ _ _ (by assumption), *]; done) | ((try rw [goesOn_next]); refine (foldl_pending _ _ _ ?_).trans ?_ <;> (first | (intro s a; (repeat' split) <;> simp; done) | simp; done)) | rfl)
@[simp] theorem State.noteApplied_pending (s : State) (c : Fin 12) (a : Fin 96) (kind : Fin 4) : (State.noteApplied s c a kind).pending = s.pending := by
  first
  | (simp [State.noteApplied, goesOn_ite, apply_ite State.pending, apply_dite State.pending]; done)
  | (unfold State.noteApplied; (try dsimp only); (repeat' split) <;> first | (simp [apply_ite State.pending, apply_dite State.pending, *]; done) | (simp [State.offer_pending _ _ _ _ (by assumption), *]; done) | (simp [State.take_pending _ _ _ _ (by assumption), *]; done) | (simp [State.eone_pending _ _ _ _ _ _ _ _ (by assumption), *]; done) | ((try rw [goesOn_next]); refine (foldl_pending _ _ _ ?_).trans ?_ <;> (first | (intro s a; (repeat' split) <;> simp; done) | simp; done)) | rfl)
@[simp] theorem State.refuseSeg_pending (s : State) (r : Nat) (idx : Nat) : (State.refuseSeg s r idx).pending = s.pending := by
  first
  | (simp [State.refuseSeg, goesOn_ite, apply_ite State.pending, apply_dite State.pending]; done)
  | (unfold State.refuseSeg; (try dsimp only); (repeat' split) <;> first | (simp [apply_ite State.pending, apply_dite State.pending, *]; done) | (simp [State.offer_pending _ _ _ _ (by assumption), *]; done) | (simp [State.take_pending _ _ _ _ (by assumption), *]; done) | (simp [State.eone_pending _ _ _ _ _ _ _ _ (by assumption), *]; done) | ((try rw [goesOn_next]); refine (foldl_pending _ _ _ ?_).trans ?_ <;> (first | (intro s a; (repeat' split) <;> simp; done) | simp; done)) | rfl)
@[simp] theorem State.stageRemote_pending (s : State) (c : Fin 12) (t : Nat) (a : Fin 96) (tq : Int) : (State.stageRemote s c t a tq).pending = s.pending := by
  first
  | (simp [State.stageRemote, goesOn_ite, apply_ite State.pending, apply_dite State.pending]; done)
  | (unfold State.stageRemote; (try dsimp only); (repeat' split) <;> first | (simp [apply_ite State.pending, apply_dite State.pending, *]; done) | (simp [State.offer_pending _ _ _ _ (by assumption), *]; done) | (simp [State.take_pending _ _ _ _ (by assumption), *]; done) | (simp [State.eone_pending _ _ _ _ _ _ _ _ (by assumption), *]; done) | ((try rw [goesOn_next]); refine (foldl_pending _ _ _ ?_).trans ?_ <;> (first | (intro s a; (repeat' split) <;> simp; done) | simp; done)) | rfl)
@[simp] theorem State.letOut_pending (s : State) (c : Fin 12) (kind : Fin 4) : (State.letOut s c kind).pending = s.pending := by
  first
  | (simp [State.letOut, goesOn_ite, apply_ite State.pending, apply_dite State.pending]; done)
  | (unfold State.letOut; (try dsimp only); (repeat' split) <;> first | (simp [apply_ite State.pending, apply_dite State.pending, *]; done) | (simp [State.offer_pending _ _ _ _ (by assumption), *]; done) | (simp [State.take_pending _ _ _ _ (by assumption), *]; done) | (simp [State.eone_pending _ _ _ _ _ _ _ _ (by assumption), *]; done) | ((try rw [goesOn_next]); refine (foldl_pending _ _ _ ?_).trans ?_ <;> (first | (intro s a; (repeat' split) <;> simp; done) | simp; done)) | rfl)
@[simp] theorem State.releaseOut_pending (s : State) (c : Fin 12) (kind : Fin 4) : (State.releaseOut s c kind).pending = s.pending := by
  first
  | (simp [State.releaseOut, goesOn_ite, apply_ite State.pending, apply_dite State.pending]; done)
  | (unfold State.releaseOut; (try dsimp only); (repeat' split) <;> first | (simp [apply_ite State.pending, apply_dite State.pending, *]; done) | (simp [State.offer_pending _ _ _ _ (by assumption), *]; done) | (simp [State.take_pending _ _ _ _ (by assumption), *]; done) | (simp [State.eone_pending _ _ _ _ _ _ _ _ (by assumption), *]; done) | ((try rw [goesOn_next]); refine (foldl_pending _ _ _ ?_).trans ?_ <;> (first | (intro s a; (repeat' split) <;> simp; done) | simp; done)) | rfl)
@[simp] theorem State.erun_pending (s : State) (c : Fin 12) (m : EPass) (z : Bool) (i : EInstr) : (State.erun s c m z i).pending = s.pending := by
  first
  | (simp [State.erun, goesOn_ite, apply_ite State.pending, apply_dite State.pending]; done)
  | (unfold State.erun; (try dsimp only); (repeat' split) <;> first | (simp [apply_ite State.pending, apply_dite State.pending, *]; done) | (simp [State.offer_pending _ _ _ _ (by assumption), *]; done) | (simp [State.take_pending _ _ _ _ (by assumption), *]; done) | (simp [State.eone_pending _ _ _ _ _ _ _ _ (by assumption), *]; done) | ((try rw [goesOn_next]); refine (foldl_pending _ _ _ ?_).trans ?_ <;> (first | (intro s a; (repeat' split) <;> simp; done) | simp; done)) | rfl)
theorem State.eone_pending (s : State) (c : Fin 12) (m : EPass) (z : Bool) (pc : Nat) (i : EInstr) :
    ∀ t n, s.eone c m z pc i = some (t, n) → t.pending = s.pending := by
  intro t n h
  unfold State.eone at h
  split at h
  · cases h; simp
  · cases h
@[simp] theorem State.engEcc_pending (s : State) (c : Fin 12) (addr : Nat) : (State.engEcc s c addr).pending = s.pending := by
  first
  | (simp [State.engEcc, goesOn_ite, apply_ite State.pending, apply_dite State.pending]; done)
  | (unfold State.engEcc; (try dsimp only); (repeat' split) <;> first | (simp [apply_ite State.pending, apply_dite State.pending, *]; done) | (simp [State.offer_pending _ _ _ _ (by assumption), *]; done) | (simp [State.take_pending _ _ _ _ (by assumption), *]; done) | (simp [State.eone_pending _ _ _ _ _ _ _ _ (by assumption), *]; done) | ((try rw [goesOn_next]); refine (foldl_pending _ _ _ ?_).trans ?_ <;> (first | (intro s a; (repeat' split) <;> simp; done) | simp; done)) | rfl)
@[simp] theorem State.engine_pending (s : State) (c : Fin 12) (ecc : Nat) (i : EInstr) : (s.engine c ecc i).pending = s.pending := by
  unfold State.engine
  dsimp only
  split
  · rfl
  · split
    · next h =>
      have := State.eone_pending _ _ _ _ _ _ _ _ h
      rw [State.setF_pending, this]
      (repeat' split) <;> simp
    · rw [State.engIllegal_pending]
      (repeat' split) <;> simp
@[simp] theorem State.presetRun_pending (s : State) (c : Fin 12) (m : EPass) (code : List EInstr) (n pc : Nat) :
    (s.presetRun c m code n pc).pending = s.pending := by
  induction n generalizing s pc with
  | zero => rfl
  | succ n ih =>
    unfold State.presetRun
    split
    · rfl
    · rfl
    · split
      · next h => rw [ih, State.eone_pending _ _ _ _ _ _ _ _ h]
      · rfl
@[simp] theorem State.putSel_pending (s : State) (c : Fin 12) (t : Nat) (cls : Nat) (var : Nat) (hand : Bool) (blend : Bool) : (State.putSel s c t cls var hand blend).pending = s.pending := by
  first
  | (simp [State.putSel, goesOn_ite, apply_ite State.pending, apply_dite State.pending]; done)
  | (unfold State.putSel; (try dsimp only); (repeat' split) <;> first | (simp [apply_ite State.pending, apply_dite State.pending, *]; done) | (simp [State.offer_pending _ _ _ _ (by assumption), *]; done) | (simp [State.take_pending _ _ _ _ (by assumption), *]; done) | (simp [State.eone_pending _ _ _ _ _ _ _ _ (by assumption), *]; done) | ((try rw [goesOn_next]); refine (foldl_pending _ _ _ ?_).trans ?_ <;> (first | (intro s a; (repeat' split) <;> simp; done) | simp; done)) | rfl)
@[simp] theorem State.handOver_pending (s : State) (c : Fin 12) (a : Fin 96) (t : Nat) (v : LoopVar) (uOld : Int) : (State.handOver s c a t v uOld).pending = s.pending := by
  first
  | (simp [State.handOver, goesOn_ite, apply_ite State.pending, apply_dite State.pending]; done)
  | (unfold State.handOver; (try dsimp only); (repeat' split) <;> first | (simp [apply_ite State.pending, apply_dite State.pending, *]; done) | (simp [State.offer_pending _ _ _ _ (by assumption), *]; done) | (simp [State.take_pending _ _ _ _ (by assumption), *]; done) | (simp [State.eone_pending _ _ _ _ _ _ _ _ (by assumption), *]; done) | ((try rw [goesOn_next]); refine (foldl_pending _ _ _ ?_).trans ?_ <;> (first | (intro s a; (repeat' split) <;> simp; done) | simp; done)) | rfl)
@[simp] theorem State.blendTick_pending (s : State) (a : Fin 96) : (State.blendTick s a).pending = s.pending := by
  first
  | (simp [State.blendTick, goesOn_ite, apply_ite State.pending, apply_dite State.pending]; done)
  | (unfold State.blendTick; (try dsimp only); (repeat' split) <;> first | (simp [apply_ite State.pending, apply_dite State.pending, *]; done) | (simp [State.offer_pending _ _ _ _ (by assumption), *]; done) | (simp [State.take_pending _ _ _ _ (by assumption), *]; done) | (simp [State.eone_pending _ _ _ _ _ _ _ _ (by assumption), *]; done) | ((try rw [goesOn_next]); refine (foldl_pending _ _ _ ?_).trans ?_ <;> (first | (intro s a; (repeat' split) <;> simp; done) | simp; done)) | rfl)
@[simp] theorem State.handRetry_pending (s : State) (c : Fin 12) (a : Fin 96) (uOld : Int) (addr : Nat) : (State.handRetry s c a uOld addr).pending = s.pending := by
  first
  | (simp [State.handRetry, goesOn_ite, apply_ite State.pending, apply_dite State.pending]; done)
  | (unfold State.handRetry; (try dsimp only); (repeat' split) <;> first | (simp [apply_ite State.pending, apply_dite State.pending, *]; done) | (simp [State.offer_pending _ _ _ _ (by assumption), *]; done) | (simp [State.take_pending _ _ _ _ (by assumption), *]; done) | (simp [State.eone_pending _ _ _ _ _ _ _ _ (by assumption), *]; done) | ((try rw [goesOn_next]); refine (foldl_pending _ _ _ ?_).trans ?_ <;> (first | (intro s a; (repeat' split) <;> simp; done) | simp; done)) | rfl)
@[simp] theorem State.loopTile_pending (s : State) (c : Fin 12) (bad : List (Nat × Nat)) (a : Fin 96) (t : Nat) : (State.loopTile s c bad a t).pending = s.pending := by
  first
  | (simp [State.loopTile, goesOn_ite, apply_ite State.pending, apply_dite State.pending]; done)
  | (unfold State.loopTile; (try dsimp only); (repeat' split) <;> first | (simp [apply_ite State.pending, apply_dite State.pending, *]; done) | (simp [State.offer_pending _ _ _ _ (by assumption), *]; done) | (simp [State.take_pending _ _ _ _ (by assumption), *]; done) | (simp [State.eone_pending _ _ _ _ _ _ _ _ (by assumption), *]; done) | ((try rw [goesOn_next]); refine (foldl_pending _ _ _ ?_).trans ?_ <;> (first | (intro s a; (repeat' split) <;> simp; done) | simp; done)) | rfl)
@[simp] theorem State.oscTick_pending (s : State) (a : Fin 96) : (State.oscTick s a).pending = s.pending := by
  first
  | (simp [State.oscTick, goesOn_ite, apply_ite State.pending, apply_dite State.pending]; done)
  | (unfold State.oscTick; (try dsimp only); (repeat' split) <;> first | (simp [apply_ite State.pending, apply_dite State.pending, *]; done) | (simp [State.offer_pending _ _ _ _ (by assumption), *]; done) | (simp [State.take_pending _ _ _ _ (by assumption), *]; done) | (simp [State.eone_pending _ _ _ _ _ _ _ _ (by assumption), *]; done) | ((try rw [goesOn_next]); refine (foldl_pending _ _ _ ?_).trans ?_ <;> (first | (intro s a; (repeat' split) <;> simp; done) | simp; done)) | rfl)
@[simp] theorem State.loopTiles_pending (s : State) (c : Fin 12) (bad : List (Nat × Nat)) (x0 : List (Fin 96)) : (State.loopTiles s c bad x0).pending = s.pending := by
  induction x0 generalizing s c bad with
  | nil => rfl
  | cons x xs ih => (unfold State.loopTiles; (try dsimp only); (repeat' split) <;> first | (simp [apply_ite State.pending, apply_dite State.pending, ih, *]; done) | (simp [State.offer_pending _ _ _ _ (by assumption), ih, *]; done) | (simp [State.take_pending _ _ _ _ (by assumption), ih, *]; done) | (simp [State.eone_pending _ _ _ _ _ _ _ _ (by assumption), ih, *]; done) | ((try rw [goesOn_next]); refine (foldl_pending _ _ _ ?_).trans ?_ <;> (first | (intro s a; (repeat' split) <;> simp; done) | simp; done)) | rfl)
@[simp] theorem State.startCur_pending (s : State) (c : Fin 12) : (State.startCur s c).pending = s.pending := by
  first
  | (simp [State.startCur, goesOn_ite, apply_ite State.pending, apply_dite State.pending]; done)
  | (unfold State.startCur; (try dsimp only); (repeat' split) <;> first | (simp [apply_ite State.pending, apply_dite State.pending, *]; done) | (simp [State.offer_pending _ _ _ _ (by assumption), *]; done) | (simp [State.take_pending _ _ _ _ (by assumption), *]; done) | (simp [State.eone_pending _ _ _ _ _ _ _ _ (by assumption), *]; done) | ((try rw [goesOn_next]); refine (foldl_pending _ _ _ ?_).trans ?_ <;> (first | (intro s a; (repeat' split) <;> simp; done) | simp; done)) | rfl)
@[simp] theorem State.overrun_pending (s : State) (c : Fin 12) (cur : Bool) (pc : Nat) : (State.overrun s c cur pc).pending = s.pending := by
  first
  | (simp [State.overrun, goesOn_ite, apply_ite State.pending, apply_dite State.pending]; done)
  | (unfold State.overrun; (try dsimp only); (repeat' split) <;> first | (simp [apply_ite State.pending, apply_dite State.pending, *]; done) | (simp [State.offer_pending _ _ _ _ (by assumption), *]; done) | (simp [State.take_pending _ _ _ _ (by assumption), *]; done) | (simp [State.eone_pending _ _ _ _ _ _ _ _ (by assumption), *]; done) | ((try rw [goesOn_next]); refine (foldl_pending _ _ _ ?_).trans ?_ <;> (first | (intro s a; (repeat' split) <;> simp; done) | simp; done)) | rfl)
@[simp] theorem State.abandon_pending (s : State) (c : Fin 12) : (State.abandon s c).pending = s.pending := by
  first
  | (simp [State.abandon, goesOn_ite, apply_ite State.pending, apply_dite State.pending]; done)
  | (unfold State.abandon; (try dsimp only); (repeat' split) <;> first | (simp [apply_ite State.pending, apply_dite State.pending, *]; done) | (simp [State.offer_pending _ _ _ _ (by assumption), *]; done) | (simp [State.take_pending _ _ _ _ (by assumption), *]; done) | (simp [State.eone_pending _ _ _ _ _ _ _ _ (by assumption), *]; done) | ((try rw [goesOn_next]); refine (foldl_pending _ _ _ ?_).trans ?_ <;> (first | (intro s a; (repeat' split) <;> simp; done) | simp; done)) | rfl)
@[simp] theorem execTickSectionStart_goesOn (c : Fin 12) (entry : Nat) (bad : List (Nat × Nat)) (t : Nat) (s : State) : goesOn s (execTickSectionStart c entry bad t s) := by
  first
  | (simp [execTickSectionStart, goesOn_ite, apply_ite State.pending, apply_dite State.pending]; done)
  | (unfold execTickSectionStart; (try dsimp only); (repeat' split) <;> first | (simp [apply_ite State.pending, apply_dite State.pending, *]; done) | (simp [State.offer_pending _ _ _ _ (by assumption), *]; done) | (simp [State.take_pending _ _ _ _ (by assumption), *]; done) | (simp [State.eone_pending _ _ _ _ _ _ _ _ (by assumption), *]; done) | ((try rw [goesOn_next]); refine (foldl_pending _ _ _ ?_).trans ?_ <;> (first | (intro s a; (repeat' split) <;> simp; done) | simp; done)) | rfl)
@[simp] theorem execEngOverrun_goesOn (c : Fin 12) (t : Nat) (s : State) : goesOn s (execEngOverrun c t s) := by
  first
  | (simp [execEngOverrun, goesOn_ite, apply_ite State.pending, apply_dite State.pending]; done)
  | (unfold execEngOverrun; (try dsimp only); (repeat' split) <;> first | (simp [apply_ite State.pending, apply_dite State.pending, *]; done) | (simp [State.offer_pending _ _ _ _ (by assumption), *]; done) | (simp [State.take_pending _ _ _ _ (by assumption), *]; done) | (simp [State.eone_pending _ _ _ _ _ _ _ _ (by assumption), *]; done) | ((try rw [goesOn_next]); refine (foldl_pending _ _ _ ?_).trans ?_ <;> (first | (intro s a; (repeat' split) <;> simp; done) | simp; done)) | rfl)
@[simp] theorem execEngMac2_goesOn (c : Fin 12) (ecc : Nat) (a : EAddr) (b : EAddr) (s : State) : goesOn s (execEngMac2 c ecc a b s) := by
  first
  | (simp [execEngMac2, goesOn_ite, apply_ite State.pending, apply_dite State.pending]; done)
  | (unfold execEngMac2; (try dsimp only); (repeat' split) <;> first | (simp [apply_ite State.pending, apply_dite State.pending, *]; done) | (simp [State.offer_pending _ _ _ _ (by assumption), *]; done) | (simp [State.take_pending _ _ _ _ (by assumption), *]; done) | (simp [State.eone_pending _ _ _ _ _ _ _ _ (by assumption), *]; done) | ((try rw [goesOn_next]); refine (foldl_pending _ _ _ ?_).trans ?_ <;> (first | (intro s a; (repeat' split) <;> simp; done) | simp; done)) | rfl)
@[simp] theorem execEngMpy_goesOn (c : Fin 12) (ecc : Nat) (l : Fin 2) (x : EHalf) (y : EHalf) (s : State) : goesOn s (execEngMpy c ecc l x y s) := by
  first
  | (simp [execEngMpy, goesOn_ite, apply_ite State.pending, apply_dite State.pending]; done)
  | (unfold execEngMpy; (try dsimp only); (repeat' split) <;> first | (simp [apply_ite State.pending, apply_dite State.pending, *]; done) | (simp [State.offer_pending _ _ _ _ (by assumption), *]; done) | (simp [State.take_pending _ _ _ _ (by assumption), *]; done) | (simp [State.eone_pending _ _ _ _ _ _ _ _ (by assumption), *]; done) | ((try rw [goesOn_next]); refine (foldl_pending _ _ _ ?_).trans ?_ <;> (first | (intro s a; (repeat' split) <;> simp; done) | simp; done)) | rfl)
@[simp] theorem execEngMac_goesOn (c : Fin 12) (ecc : Nat) (l : Fin 2) (x : EHalf) (y : EHalf) (s : State) : goesOn s (execEngMac c ecc l x y s) := by
  first
  | (simp [execEngMac, goesOn_ite, apply_ite State.pending, apply_dite State.pending]; done)
  | (unfold execEngMac; (try dsimp only); (repeat' split) <;> first | (simp [apply_ite State.pending, apply_dite State.pending, *]; done) | (simp [State.offer_pending _ _ _ _ (by assumption), *]; done) | (simp [State.take_pending _ _ _ _ (by assumption), *]; done) | (simp [State.eone_pending _ _ _ _ _ _ _ _ (by assumption), *]; done) | ((try rw [goesOn_next]); refine (foldl_pending _ _ _ ?_).trans ?_ <;> (first | (intro s a; (repeat' split) <;> simp; done) | simp; done)) | rfl)
@[simp] theorem execEngMsu_goesOn (c : Fin 12) (ecc : Nat) (l : Fin 2) (x : EHalf) (y : EHalf) (s : State) : goesOn s (execEngMsu c ecc l x y s) := by
  first
  | (simp [execEngMsu, goesOn_ite, apply_ite State.pending, apply_dite State.pending]; done)
  | (unfold execEngMsu; (try dsimp only); (repeat' split) <;> first | (simp [apply_ite State.pending, apply_dite State.pending, *]; done) | (simp [State.offer_pending _ _ _ _ (by assumption), *]; done) | (simp [State.take_pending _ _ _ _ (by assumption), *]; done) | (simp [State.eone_pending _ _ _ _ _ _ _ _ (by assumption), *]; done) | ((try rw [goesOn_next]); refine (foldl_pending _ _ _ ?_).trans ?_ <;> (first | (intro s a; (repeat' split) <;> simp; done) | simp; done)) | rfl)
@[simp] theorem execEngMpyi_goesOn (c : Fin 12) (ecc : Nat) (l : Fin 2) (n : Fin 8) (q : EHalf) (sh : Nat) (s : State) : goesOn s (execEngMpyi c ecc l n q sh s) := by
  first
  | (simp [execEngMpyi, goesOn_ite, apply_ite State.pending, apply_dite State.pending]; done)
  | (unfold execEngMpyi; (try dsimp only); (repeat' split) <;> first | (simp [apply_ite State.pending, apply_dite State.pending, *]; done) | (simp [State.offer_pending _ _ _ _ (by assumption), *]; done) | (simp [State.take_pending _ _ _ _ (by assumption), *]; done) | (simp [State.eone_pending _ _ _ _ _ _ _ _ (by assumption), *]; done) | ((try rw [goesOn_next]); refine (foldl_pending _ _ _ ?_).trans ?_ <;> (first | (intro s a; (repeat' split) <;> simp; done) | simp; done)) | rfl)
@[simp] theorem execEngLdx_goesOn (c : Fin 12) (ecc : Nat) (l : Fin 2) (a : EAddr) (wide : Bool) (f : Nat) (sh : Nat) (s : State) : goesOn s (execEngLdx c ecc l a wide f sh s) := by
  first
  | (simp [execEngLdx, goesOn_ite, apply_ite State.pending, apply_dite State.pending]; done)
  | (unfold execEngLdx; (try dsimp only); (repeat' split) <;> first | (simp [apply_ite State.pending, apply_dite State.pending, *]; done) | (simp [State.offer_pending _ _ _ _ (by assumption), *]; done) | (simp [State.take_pending _ _ _ _ (by assumption), *]; done) | (simp [State.eone_pending _ _ _ _ _ _ _ _ (by assumption), *]; done) | ((try rw [goesOn_next]); refine (foldl_pending _ _ _ ?_).trans ?_ <;> (first | (intro s a; (repeat' split) <;> simp; done) | simp; done)) | rfl)
@[simp] theorem execEngLdxAdd_goesOn (c : Fin 12) (ecc : Nat) (l : Fin 2) (a : EAddr) (wide : Bool) (f : Nat) (sh : Nat) (s : State) : goesOn s (execEngLdxAdd c ecc l a wide f sh s) := by
  first
  | (simp [execEngLdxAdd, goesOn_ite, apply_ite State.pending, apply_dite State.pending]; done)
  | (unfold execEngLdxAdd; (try dsimp only); (repeat' split) <;> first | (simp [apply_ite State.pending, apply_dite State.pending, *]; done) | (simp [State.offer_pending _ _ _ _ (by assumption), *]; done) | (simp [State.take_pending _ _ _ _ (by assumption), *]; done) | (simp [State.eone_pending _ _ _ _ _ _ _ _ (by assumption), *]; done) | ((try rw [goesOn_next]); refine (foldl_pending _ _ _ ?_).trans ?_ <;> (first | (intro s a; (repeat' split) <;> simp; done) | simp; done)) | rfl)
@[simp] theorem execEngLdxSub_goesOn (c : Fin 12) (ecc : Nat) (l : Fin 2) (a : EAddr) (wide : Bool) (f : Nat) (sh : Nat) (s : State) : goesOn s (execEngLdxSub c ecc l a wide f sh s) := by
  first
  | (simp [execEngLdxSub, goesOn_ite, apply_ite State.pending, apply_dite State.pending]; done)
  | (unfold execEngLdxSub; (try dsimp only); (repeat' split) <;> first | (simp [apply_ite State.pending, apply_dite State.pending, *]; done) | (simp [State.offer_pending _ _ _ _ (by assumption), *]; done) | (simp [State.take_pending _ _ _ _ (by assumption), *]; done) | (simp [State.eone_pending _ _ _ _ _ _ _ _ (by assumption), *]; done) | ((try rw [goesOn_next]); refine (foldl_pending _ _ _ ?_).trans ?_ <;> (first | (intro s a; (repeat' split) <;> simp; done) | simp; done)) | rfl)
@[simp] theorem execEngAdda_goesOn (c : Fin 12) (ecc : Nat) (l : Fin 2) (a : EHalf) (long : Bool) (s : State) : goesOn s (execEngAdda c ecc l a long s) := by
  first
  | (simp [execEngAdda, goesOn_ite, apply_ite State.pending, apply_dite State.pending]; done)
  | (unfold execEngAdda; (try dsimp only); (repeat' split) <;> first | (simp [apply_ite State.pending, apply_dite State.pending, *]; done) | (simp [State.offer_pending _ _ _ _ (by assumption), *]; done) | (simp [State.take_pending _ _ _ _ (by assumption), *]; done) | (simp [State.eone_pending _ _ _ _ _ _ _ _ (by assumption), *]; done) | ((try rw [goesOn_next]); refine (foldl_pending _ _ _ ?_).trans ?_ <;> (first | (intro s a; (repeat' split) <;> simp; done) | simp; done)) | rfl)
@[simp] theorem execEngSuba_goesOn (c : Fin 12) (ecc : Nat) (l : Fin 2) (a : EHalf) (long : Bool) (s : State) : goesOn s (execEngSuba c ecc l a long s) := by
  first
  | (simp [execEngSuba, goesOn_ite, apply_ite State.pending, apply_dite State.pending]; done)
  | (unfold execEngSuba; (try dsimp only); (repeat' split) <;> first | (simp [apply_ite State.pending, apply_dite State.pending, *]; done) | (simp [State.offer_pending _ _ _ _ (by assumption), *]; done) | (simp [State.take_pending _ _ _ _ (by assumption), *]; done) | (simp [State.eone_pending _ _ _ _ _ _ _ _ (by assumption), *]; done) | ((try rw [goesOn_next]); refine (foldl_pending _ _ _ ?_).trans ?_ <;> (first | (intro s a; (repeat' split) <;> simp; done) | simp; done)) | rfl)
@[simp] theorem execEngClmp_goesOn (c : Fin 12) (ecc : Nat) (l : Fin 2) (a : EHalf) (long : Bool) (s : State) : goesOn s (execEngClmp c ecc l a long s) := by
  first
  | (simp [execEngClmp, goesOn_ite, apply_ite State.pending, apply_dite State.pending]; done)
  | (unfold execEngClmp; (try dsimp only); (repeat' split) <;> first | (simp [apply_ite State.pending, apply_dite State.pending, *]; done) | (simp [State.offer_pending _ _ _ _ (by assumption), *]; done) | (simp [State.take_pending _ _ _ _ (by assumption), *]; done) | (simp [State.eone_pending _ _ _ _ _ _ _ _ (by assumption), *]; done) | ((try rw [goesOn_next]); refine (foldl_pending _ _ _ ?_).trans ?_ <;> (first | (intro s a; (repeat' split) <;> simp; done) | simp; done)) | rfl)
@[simp] theorem execEngNeg_goesOn (c : Fin 12) (l : Fin 2) (s : State) : goesOn s (execEngNeg c l s) := by
  first
  | (simp [execEngNeg, goesOn_ite, apply_ite State.pending, apply_dite State.pending]; done)
  | (unfold execEngNeg; (try dsimp only); (repeat' split) <;> first | (simp [apply_ite State.pending, apply_dite State.pending, *]; done) | (simp [State.offer_pending _ _ _ _ (by assumption), *]; done) | (simp [State.take_pending _ _ _ _ (by assumption), *]; done) | (simp [State.eone_pending _ _ _ _ _ _ _ _ (by assumption), *]; done) | ((try rw [goesOn_next]); refine (foldl_pending _ _ _ ?_).trans ?_ <;> (first | (intro s a; (repeat' split) <;> simp; done) | simp; done)) | rfl)
@[simp] theorem execEngAbs_goesOn (c : Fin 12) (l : Fin 2) (s : State) : goesOn s (execEngAbs c l s) := by
  first
  | (simp [execEngAbs, goesOn_ite, apply_ite State.pending, apply_dite State.pending]; done)
  | (unfold execEngAbs; (try dsimp only); (repeat' split) <;> first | (simp [apply_ite State.pending, apply_dite State.pending, *]; done) | (simp [State.offer_pending _ _ _ _ (by assumption), *]; done) | (simp [State.take_pending _ _ _ _ (by assumption), *]; done) | (simp [State.eone_pending _ _ _ _ _ _ _ _ (by assumption), *]; done) | ((try rw [goesOn_next]); refine (foldl_pending _ _ _ ?_).trans ?_ <;> (first | (intro s a; (repeat' split) <;> simp; done) | simp; done)) | rfl)
@[simp] theorem execEngStq_goesOn (c : Fin 12) (l : Fin 2) (a : EHalf) (sh : Int) (s : State) : goesOn s (execEngStq c l a sh s) := by
  first
  | (simp [execEngStq, goesOn_ite, apply_ite State.pending, apply_dite State.pending]; done)
  | (unfold execEngStq; (try dsimp only); (repeat' split) <;> first | (simp [apply_ite State.pending, apply_dite State.pending, *]; done) | (simp [State.offer_pending _ _ _ _ (by assumption), *]; done) | (simp [State.take_pending _ _ _ _ (by assumption), *]; done) | (simp [State.eone_pending _ _ _ _ _ _ _ _ (by assumption), *]; done) | ((try rw [goesOn_next]); refine (foldl_pending _ _ _ ?_).trans ?_ <;> (first | (intro s a; (repeat' split) <;> simp; done) | simp; done)) | rfl)
@[simp] theorem execEngStl_goesOn (c : Fin 12) (l : Fin 2) (a : EAddr) (s : State) : goesOn s (execEngStl c l a s) := by
  first
  | (simp [execEngStl, goesOn_ite, apply_ite State.pending, apply_dite State.pending]; done)
  | (unfold execEngStl; (try dsimp only); (repeat' split) <;> first | (simp [apply_ite State.pending, apply_dite State.pending, *]; done) | (simp [State.offer_pending _ _ _ _ (by assumption), *]; done) | (simp [State.take_pending _ _ _ _ (by assumption), *]; done) | (simp [State.eone_pending _ _ _ _ _ _ _ _ (by assumption), *]; done) | ((try rw [goesOn_next]); refine (foldl_pending _ _ _ ?_).trans ?_ <;> (first | (intro s a; (repeat' split) <;> simp; done) | simp; done)) | rfl)
@[simp] theorem execEngDiff_goesOn (c : Fin 12) (ecc : Nat) (n : Fin 8) (a : EAddr) (b : EAddr) (s : State) : goesOn s (execEngDiff c ecc n a b s) := by
  first
  | (simp [execEngDiff, goesOn_ite, apply_ite State.pending, apply_dite State.pending]; done)
  | (unfold execEngDiff; (try dsimp only); (repeat' split) <;> first | (simp [apply_ite State.pending, apply_dite State.pending, *]; done) | (simp [State.offer_pending _ _ _ _ (by assumption), *]; done) | (simp [State.take_pending _ _ _ _ (by assumption), *]; done) | (simp [State.eone_pending _ _ _ _ _ _ _ _ (by assumption), *]; done) | ((try rw [goesOn_next]); refine (foldl_pending _ _ _ ?_).trans ?_ <;> (first | (intro s a; (repeat' split) <;> simp; done) | simp; done)) | rfl)
@[simp] theorem execEngLd_goesOn (c : Fin 12) (ecc : Nat) (n : Fin 8) (a : EAddr) (s : State) : goesOn s (execEngLd c ecc n a s) := by
  first
  | (simp [execEngLd, goesOn_ite, apply_ite State.pending, apply_dite State.pending]; done)
  | (unfold execEngLd; (try dsimp only); (repeat' split) <;> first | (simp [apply_ite State.pending, apply_dite State.pending, *]; done) | (simp [State.offer_pending _ _ _ _ (by assumption), *]; done) | (simp [State.take_pending _ _ _ _ (by assumption), *]; done) | (simp [State.eone_pending _ _ _ _ _ _ _ _ (by assumption), *]; done) | ((try rw [goesOn_next]); refine (foldl_pending _ _ _ ?_).trans ?_ <;> (first | (intro s a; (repeat' split) <;> simp; done) | simp; done)) | rfl)
@[simp] theorem execEngSt_goesOn (c : Fin 12) (n : Fin 8) (a : EAddr) (s : State) : goesOn s (execEngSt c n a s) := by
  first
  | (simp [execEngSt, goesOn_ite, apply_ite State.pending, apply_dite State.pending]; done)
  | (unfold execEngSt; (try dsimp only); (repeat' split) <;> first | (simp [apply_ite State.pending, apply_dite State.pending, *]; done) | (simp [State.offer_pending _ _ _ _ (by assumption), *]; done) | (simp [State.take_pending _ _ _ _ (by assumption), *]; done) | (simp [State.eone_pending _ _ _ _ _ _ _ _ (by assumption), *]; done) | ((try rw [goesOn_next]); refine (foldl_pending _ _ _ ?_).trans ?_ <;> (first | (intro s a; (repeat' split) <;> simp; done) | simp; done)) | rfl)
@[simp] theorem execEngAdd_goesOn (c : Fin 12) (n : Fin 8) (m : ESrc) (s : State) : goesOn s (execEngAdd c n m s) := by
  first
  | (simp [execEngAdd, goesOn_ite, apply_ite State.pending, apply_dite State.pending]; done)
  | (unfold execEngAdd; (try dsimp only); (repeat' split) <;> first | (simp [apply_ite State.pending, apply_dite State.pending, *]; done) | (simp [State.offer_pending _ _ _ _ (by assumption), *]; done) | (simp [State.take_pending _ _ _ _ (by assumption), *]; done) | (simp [State.eone_pending _ _ _ _ _ _ _ _ (by assumption), *]; done) | ((try rw [goesOn_next]); refine (foldl_pending _ _ _ ?_).trans ?_ <;> (first | (intro s a; (repeat' split) <;> simp; done) | simp; done)) | rfl)
@[simp] theorem execEngSub_goesOn (c : Fin 12) (n : Fin 8) (m : ESrc) (s : State) : goesOn s (execEngSub c n m s) := by
  first
  | (simp [execEngSub, goesOn_ite, apply_ite State.pending, apply_dite State.pending]; done)
  | (unfold execEngSub; (try dsimp only); (repeat' split) <;> first | (simp [apply_ite State.pending, apply_dite State.pending, *]; done) | (simp [State.offer_pending _ _ _ _ (by assumption), *]; done) | (simp [State.take_pending _ _ _ _ (by assumption), *]; done) | (simp [State.eone_pending _ _ _ _ _ _ _ _ (by assumption), *]; done) | ((try rw [goesOn_next]); refine (foldl_pending _ _ _ ?_).trans ?_ <;> (first | (intro s a; (repeat' split) <;> simp; done) | simp; done)) | rfl)
@[simp] theorem execEngAnd_goesOn (c : Fin 12) (n : Fin 8) (m : ESrc) (s : State) : goesOn s (execEngAnd c n m s) := by
  first
  | (simp [execEngAnd, goesOn_ite, apply_ite State.pending, apply_dite State.pending]; done)
  | (unfold execEngAnd; (try dsimp only); (repeat' split) <;> first | (simp [apply_ite State.pending, apply_dite State.pending, *]; done) | (simp [State.offer_pending _ _ _ _ (by assumption), *]; done) | (simp [State.take_pending _ _ _ _ (by assumption), *]; done) | (simp [State.eone_pending _ _ _ _ _ _ _ _ (by assumption), *]; done) | ((try rw [goesOn_next]); refine (foldl_pending _ _ _ ?_).trans ?_ <;> (first | (intro s a; (repeat' split) <;> simp; done) | simp; done)) | rfl)
@[simp] theorem execEngOr_goesOn (c : Fin 12) (n : Fin 8) (m : ESrc) (s : State) : goesOn s (execEngOr c n m s) := by
  first
  | (simp [execEngOr, goesOn_ite, apply_ite State.pending, apply_dite State.pending]; done)
  | (unfold execEngOr; (try dsimp only); (repeat' split) <;> first | (simp [apply_ite State.pending, apply_dite State.pending, *]; done) | (simp [State.offer_pending _ _ _ _ (by assumption), *]; done) | (simp [State.take_pending _ _ _ _ (by assumption), *]; done) | (simp [State.eone_pending _ _ _ _ _ _ _ _ (by assumption), *]; done) | ((try rw [goesOn_next]); refine (foldl_pending _ _ _ ?_).trans ?_ <;> (first | (intro s a; (repeat' split) <;> simp; done) | simp; done)) | rfl)
@[simp] theorem execEngShl_goesOn (c : Fin 12) (n : Fin 8) (m : ESrc) (s : State) : goesOn s (execEngShl c n m s) := by
  first
  | (simp [execEngShl, goesOn_ite, apply_ite State.pending, apply_dite State.pending]; done)
  | (unfold execEngShl; (try dsimp only); (repeat' split) <;> first | (simp [apply_ite State.pending, apply_dite State.pending, *]; done) | (simp [State.offer_pending _ _ _ _ (by assumption), *]; done) | (simp [State.take_pending _ _ _ _ (by assumption), *]; done) | (simp [State.eone_pending _ _ _ _ _ _ _ _ (by assumption), *]; done) | ((try rw [goesOn_next]); refine (foldl_pending _ _ _ ?_).trans ?_ <;> (first | (intro s a; (repeat' split) <;> simp; done) | simp; done)) | rfl)
@[simp] theorem execEngShr_goesOn (c : Fin 12) (n : Fin 8) (m : ESrc) (s : State) : goesOn s (execEngShr c n m s) := by
  first
  | (simp [execEngShr, goesOn_ite, apply_ite State.pending, apply_dite State.pending]; done)
  | (unfold execEngShr; (try dsimp only); (repeat' split) <;> first | (simp [apply_ite State.pending, apply_dite State.pending, *]; done) | (simp [State.offer_pending _ _ _ _ (by assumption), *]; done) | (simp [State.take_pending _ _ _ _ (by assumption), *]; done) | (simp [State.eone_pending _ _ _ _ _ _ _ _ (by assumption), *]; done) | ((try rw [goesOn_next]); refine (foldl_pending _ _ _ ?_).trans ?_ <;> (first | (intro s a; (repeat' split) <;> simp; done) | simp; done)) | rfl)
@[simp] theorem execEngSincos_goesOn (c : Fin 12) (ecc : Nat) (a : EHalf) (b : EAddr) (s : State) : goesOn s (execEngSincos c ecc a b s) := by
  first
  | (simp [execEngSincos, goesOn_ite, apply_ite State.pending, apply_dite State.pending]; done)
  | (unfold execEngSincos; (try dsimp only); (repeat' split) <;> first | (simp [apply_ite State.pending, apply_dite State.pending, *]; done) | (simp [State.offer_pending _ _ _ _ (by assumption), *]; done) | (simp [State.take_pending _ _ _ _ (by assumption), *]; done) | (simp [State.eone_pending _ _ _ _ _ _ _ _ (by assumption), *]; done) | ((try rw [goesOn_next]); refine (foldl_pending _ _ _ ?_).trans ?_ <;> (first | (intro s a; (repeat' split) <;> simp; done) | simp; done)) | rfl)
@[simp] theorem execEngVmax_goesOn (c : Fin 12) (ecc : Nat) (l : Fin 2) (a : EAddr) (n : Nat) (s : State) : goesOn s (execEngVmax c ecc l a n s) := by
  first
  | (simp [execEngVmax, goesOn_ite, apply_ite State.pending, apply_dite State.pending]; done)
  | (unfold execEngVmax; (try dsimp only); (repeat' split) <;> first | (simp [apply_ite State.pending, apply_dite State.pending, *]; done) | (simp [State.offer_pending _ _ _ _ (by assumption), *]; done) | (simp [State.take_pending _ _ _ _ (by assumption), *]; done) | (simp [State.eone_pending _ _ _ _ _ _ _ _ (by assumption), *]; done) | ((try rw [goesOn_next]); refine (foldl_pending _ _ _ ?_).trans ?_ <;> (first | (intro s a; (repeat' split) <;> simp; done) | simp; done)) | rfl)
@[simp] theorem execEngVmin_goesOn (c : Fin 12) (ecc : Nat) (l : Fin 2) (a : EAddr) (n : Nat) (s : State) : goesOn s (execEngVmin c ecc l a n s) := by
  first
  | (simp [execEngVmin, goesOn_ite, apply_ite State.pending, apply_dite State.pending]; done)
  | (unfold execEngVmin; (try dsimp only); (repeat' split) <;> first | (simp [apply_ite State.pending, apply_dite State.pending, *]; done) | (simp [State.offer_pending _ _ _ _ (by assumption), *]; done) | (simp [State.take_pending _ _ _ _ (by assumption), *]; done) | (simp [State.eone_pending _ _ _ _ _ _ _ _ (by assumption), *]; done) | ((try rw [goesOn_next]); refine (foldl_pending _ _ _ ?_).trans ?_ <;> (first | (intro s a; (repeat' split) <;> simp; done) | simp; done)) | rfl)
@[simp] theorem execEngVmaxa_goesOn (c : Fin 12) (ecc : Nat) (l : Fin 2) (a : EAddr) (n : Nat) (s : State) : goesOn s (execEngVmaxa c ecc l a n s) := by
  first
  | (simp [execEngVmaxa, goesOn_ite, apply_ite State.pending, apply_dite State.pending]; done)
  | (unfold execEngVmaxa; (try dsimp only); (repeat' split) <;> first | (simp [apply_ite State.pending, apply_dite State.pending, *]; done) | (simp [State.offer_pending _ _ _ _ (by assumption), *]; done) | (simp [State.take_pending _ _ _ _ (by assumption), *]; done) | (simp [State.eone_pending _ _ _ _ _ _ _ _ (by assumption), *]; done) | ((try rw [goesOn_next]); refine (foldl_pending _ _ _ ?_).trans ?_ <;> (first | (intro s a; (repeat' split) <;> simp; done) | simp; done)) | rfl)
@[simp] theorem execEngBr_goesOn (c : Fin 12) (cond : ECond) (target : Nat) (s : State) : goesOn s (execEngBr c cond target s) := by
  first
  | (simp [execEngBr, goesOn_ite, apply_ite State.pending, apply_dite State.pending]; done)
  | (unfold execEngBr; (try dsimp only); (repeat' split) <;> first | (simp [apply_ite State.pending, apply_dite State.pending, *]; done) | (simp [State.offer_pending _ _ _ _ (by assumption), *]; done) | (simp [State.take_pending _ _ _ _ (by assumption), *]; done) | (simp [State.eone_pending _ _ _ _ _ _ _ _ (by assumption), *]; done) | ((try rw [goesOn_next]); refine (foldl_pending _ _ _ ?_).trans ?_ <;> (first | (intro s a; (repeat' split) <;> simp; done) | simp; done)) | rfl)
@[simp] theorem execEngLoop_goesOn (c : Fin 12) (n : Nat) (last : Nat) (s : State) : goesOn s (execEngLoop c n last s) := by
  first
  | (simp [execEngLoop, goesOn_ite, apply_ite State.pending, apply_dite State.pending]; done)
  | (unfold execEngLoop; (try dsimp only); (repeat' split) <;> first | (simp [apply_ite State.pending, apply_dite State.pending, *]; done) | (simp [State.offer_pending _ _ _ _ (by assumption), *]; done) | (simp [State.take_pending _ _ _ _ (by assumption), *]; done) | (simp [State.eone_pending _ _ _ _ _ _ _ _ (by assumption), *]; done) | ((try rw [goesOn_next]); refine (foldl_pending _ _ _ ?_).trans ?_ <;> (first | (intro s a; (repeat' split) <;> simp; done) | simp; done)) | rfl)
@[simp] theorem execEngTile_goesOn (c : Fin 12) (t : Fin 8) (s : State) : goesOn s (execEngTile c t s) := by
  first
  | (simp [execEngTile, goesOn_ite, apply_ite State.pending, apply_dite State.pending]; done)
  | (unfold execEngTile; (try dsimp only); (repeat' split) <;> first | (simp [apply_ite State.pending, apply_dite State.pending, *]; done) | (simp [State.offer_pending _ _ _ _ (by assumption), *]; done) | (simp [State.take_pending _ _ _ _ (by assumption), *]; done) | (simp [State.eone_pending _ _ _ _ _ _ _ _ (by assumption), *]; done) | ((try rw [goesOn_next]); refine (foldl_pending _ _ _ ?_).trans ?_ <;> (first | (intro s a; (repeat' split) <;> simp; done) | simp; done)) | rfl)
@[simp] theorem execEngOutTq_goesOn (c : Fin 12) (s : State) : goesOn s (execEngOutTq c s) := by
  first
  | (simp [execEngOutTq, goesOn_ite, apply_ite State.pending, apply_dite State.pending]; done)
  | (unfold execEngOutTq; (try dsimp only); (repeat' split) <;> first | (simp [apply_ite State.pending, apply_dite State.pending, *]; done) | (simp [State.offer_pending _ _ _ _ (by assumption), *]; done) | (simp [State.take_pending _ _ _ _ (by assumption), *]; done) | (simp [State.eone_pending _ _ _ _ _ _ _ _ (by assumption), *]; done) | ((try rw [goesOn_next]); refine (foldl_pending _ _ _ ?_).trans ?_ <;> (first | (intro s a; (repeat' split) <;> simp; done) | simp; done)) | rfl)
@[simp] theorem execEngOutDuty_goesOn (c : Fin 12) (s : State) : goesOn s (execEngOutDuty c s) := by
  first
  | (simp [execEngOutDuty, goesOn_ite, apply_ite State.pending, apply_dite State.pending]; done)
  | (unfold execEngOutDuty; (try dsimp only); (repeat' split) <;> first | (simp [apply_ite State.pending, apply_dite State.pending, *]; done) | (simp [State.offer_pending _ _ _ _ (by assumption), *]; done) | (simp [State.take_pending _ _ _ _ (by assumption), *]; done) | (simp [State.eone_pending _ _ _ _ _ _ _ _ (by assumption), *]; done) | ((try rw [goesOn_next]); refine (foldl_pending _ _ _ ?_).trans ?_ <;> (first | (intro s a; (repeat' split) <;> simp; done) | simp; done)) | rfl)
@[simp] theorem execEngOutGen_goesOn (c : Fin 12) (s : State) : goesOn s (execEngOutGen c s) := by
  first
  | (simp [execEngOutGen, goesOn_ite, apply_ite State.pending, apply_dite State.pending]; done)
  | (unfold execEngOutGen; (try dsimp only); (repeat' split) <;> first | (simp [apply_ite State.pending, apply_dite State.pending, *]; done) | (simp [State.offer_pending _ _ _ _ (by assumption), *]; done) | (simp [State.take_pending _ _ _ _ (by assumption), *]; done) | (simp [State.eone_pending _ _ _ _ _ _ _ _ (by assumption), *]; done) | ((try rw [goesOn_next]); refine (foldl_pending _ _ _ ?_).trans ?_ <;> (first | (intro s a; (repeat' split) <;> simp; done) | simp; done)) | rfl)
@[simp] theorem execEngOutRmt_goesOn (c : Fin 12) (s : State) : goesOn s (execEngOutRmt c s) := by
  first
  | (simp [execEngOutRmt, goesOn_ite, apply_ite State.pending, apply_dite State.pending]; done)
  | (unfold execEngOutRmt; (try dsimp only); (repeat' split) <;> first | (simp [apply_ite State.pending, apply_dite State.pending, *]; done) | (simp [State.offer_pending _ _ _ _ (by assumption), *]; done) | (simp [State.take_pending _ _ _ _ (by assumption), *]; done) | (simp [State.eone_pending _ _ _ _ _ _ _ _ (by assumption), *]; done) | ((try rw [goesOn_next]); refine (foldl_pending _ _ _ ?_).trans ?_ <;> (first | (intro s a; (repeat' split) <;> simp; done) | simp; done)) | rfl)
@[simp] theorem State.holdOff_pending (s : State) (c : Fin 12) : (State.holdOff s c).pending = s.pending := by
  first
  | (simp [State.holdOff, goesOn_ite, apply_ite State.pending, apply_dite State.pending]; done)
  | (unfold State.holdOff; (try dsimp only); (repeat' split) <;> first | (simp [apply_ite State.pending, apply_dite State.pending, *]; done) | (simp [State.offer_pending _ _ _ _ (by assumption), *]; done) | (simp [State.take_pending _ _ _ _ (by assumption), *]; done) | (simp [State.eone_pending _ _ _ _ _ _ _ _ (by assumption), *]; done) | ((try rw [goesOn_next]); refine (foldl_pending _ _ _ ?_).trans ?_ <;> (first | (intro s a; (repeat' split) <;> simp; done) | simp; done)) | rfl)
@[simp] theorem execEngEnd_goesOn (c : Fin 12) (t : Nat) (s : State) : goesOn s (execEngEnd c t s) := by
  first
  | (simp [execEngEnd, goesOn_ite, apply_ite State.pending, apply_dite State.pending]; done)
  | (unfold execEngEnd; (try dsimp only); (repeat' split) <;> first | (simp [apply_ite State.pending, apply_dite State.pending, *]; done) | (simp [State.offer_pending _ _ _ _ (by assumption), *]; done) | (simp [State.take_pending _ _ _ _ (by assumption), *]; done) | (simp [State.eone_pending _ _ _ _ _ _ _ _ (by assumption), *]; done) | ((try rw [goesOn_next]); refine (foldl_pending _ _ _ ?_).trans ?_ <;> (first | (intro s a; (repeat' split) <;> simp; done) | simp; done)) | rfl)
@[simp] theorem execLpOsc_goesOn (a : Fin 96) (s : State) : goesOn s (execLpOsc a s) := by
  first
  | (simp [execLpOsc, goesOn_ite, apply_ite State.pending, apply_dite State.pending]; done)
  | (unfold execLpOsc; (try dsimp only); (repeat' split) <;> first | (simp [apply_ite State.pending, apply_dite State.pending, *]; done) | (simp [State.offer_pending _ _ _ _ (by assumption), *]; done) | (simp [State.take_pending _ _ _ _ (by assumption), *]; done) | (simp [State.eone_pending _ _ _ _ _ _ _ _ (by assumption), *]; done) | ((try rw [goesOn_next]); refine (foldl_pending _ _ _ ?_).trans ?_ <;> (first | (intro s a; (repeat' split) <;> simp; done) | simp; done)) | rfl)
@[simp] theorem execOscClear_goesOn (a : Fin 96) (value : Word) (s : State) : goesOn s (execOscClear a value s) := by
  first
  | (simp [execOscClear, goesOn_ite, apply_ite State.pending, apply_dite State.pending]; done)
  | (unfold execOscClear; (try dsimp only); (repeat' split) <;> first | (simp [apply_ite State.pending, apply_dite State.pending, *]; done) | (simp [State.offer_pending _ _ _ _ (by assumption), *]; done) | (simp [State.take_pending _ _ _ _ (by assumption), *]; done) | (simp [State.eone_pending _ _ _ _ _ _ _ _ (by assumption), *]; done) | ((try rw [goesOn_next]); refine (foldl_pending _ _ _ ?_).trans ?_ <;> (first | (intro s a; (repeat' split) <;> simp; done) | simp; done)) | rfl)

end Sys2Proof.Machine
end

