-- ==== Sys2Proof/Laws/QueueTimeBase.lean ====
section
/-! SUPPORT. The operations of Machine/TimeBase.lean leave the queue of waiting commands alone. -/

namespace Sys2Proof.Machine

@[simp] theorem State.putFadj_pending (s : State) (c : Int) : (State.putFadj s c).pending = s.pending := by
  first
  | (simp [State.putFadj, goesOn_ite, apply_ite State.pending, apply_dite State.pending]; done)
  | (unfold State.putFadj; (try dsimp only); (repeat' split) <;> first | (simp [apply_ite State.pending, apply_dite State.pending, *]; done) | (simp [State.offer_pending _ _ _ _ (by assumption), *]; done) | (simp [State.take_pending _ _ _ _ (by assumption), *]; done) | ((try rw [goesOn_next]); refine (foldl_pending _ _ _ ?_).trans ?_ <;> (first | (intro s a; (repeat' split) <;> simp; done) | simp; done)) | rfl)
@[simp] theorem State.setFadj_pending (s : State) (v : Int) (ofs : Int) : (State.setFadj s v ofs).pending = s.pending := by
  first
  | (simp [State.setFadj, goesOn_ite, apply_ite State.pending, apply_dite State.pending]; done)
  | (unfold State.setFadj; (try dsimp only); (repeat' split) <;> first | (simp [apply_ite State.pending, apply_dite State.pending, *]; done) | (simp [State.offer_pending _ _ _ _ (by assumption), *]; done) | (simp [State.take_pending _ _ _ _ (by assumption), *]; done) | ((try rw [goesOn_next]); refine (foldl_pending _ _ _ ?_).trans ?_ <;> (first | (intro s a; (repeat' split) <;> simp; done) | simp; done)) | rfl)
@[simp] theorem State.servo_pending (s : State) (ofs : Int) (logInt : Int) : (State.servo s ofs logInt).pending = s.pending := by
  first
  | (simp [State.servo, goesOn_ite, apply_ite State.pending, apply_dite State.pending]; done)
  | (unfold State.servo; (try dsimp only); (repeat' split) <;> first | (simp [apply_ite State.pending, apply_dite State.pending, *]; done) | (simp [State.offer_pending _ _ _ _ (by assumption), *]; done) | (simp [State.take_pending _ _ _ _ (by assumption), *]; done) | ((try rw [goesOn_next]); refine (foldl_pending _ _ _ ?_).trans ?_ <;> (first | (intro s a; (repeat' split) <;> simp; done) | simp; done)) | rfl)
@[simp] theorem State.enterHoldover_pending (s : State) : (State.enterHoldover s).pending = s.pending := by
  first
  | (simp [State.enterHoldover, goesOn_ite, apply_ite State.pending, apply_dite State.pending]; done)
  | (unfold State.enterHoldover; (try dsimp only); (repeat' split) <;> first | (simp [apply_ite State.pending, apply_dite State.pending, *]; done) | (simp [State.offer_pending _ _ _ _ (by assumption), *]; done) | (simp [State.take_pending _ _ _ _ (by assumption), *]; done) | ((try rw [goesOn_next]); refine (foldl_pending _ _ _ ?_).trans ?_ <;> (first | (intro s a; (repeat' split) <;> simp; done) | simp; done)) | rfl)
@[simp] theorem State.refuseStep_pending (s : State) (ns : Int) : (State.refuseStep s ns).pending = s.pending := by
  first
  | (simp [State.refuseStep, goesOn_ite, apply_ite State.pending, apply_dite State.pending]; done)
  | (unfold State.refuseStep; (try dsimp only); (repeat' split) <;> first | (simp [apply_ite State.pending, apply_dite State.pending, *]; done) | (simp [State.offer_pending _ _ _ _ (by assumption), *]; done) | (simp [State.take_pending _ _ _ _ (by assumption), *]; done) | ((try rw [goesOn_next]); refine (foldl_pending _ _ _ ?_).trans ?_ <;> (first | (intro s a; (repeat' split) <;> simp; done) | simp; done)) | rfl)
@[simp] theorem State.enterAcquire_pending (s : State) : (State.enterAcquire s).pending = s.pending := by
  first
  | (simp [State.enterAcquire, goesOn_ite, apply_ite State.pending, apply_dite State.pending]; done)
  | (unfold State.enterAcquire; (try dsimp only); (repeat' split) <;> first | (simp [apply_ite State.pending, apply_dite State.pending, *]; done) | (simp [State.offer_pending _ _ _ _ (by assumption), *]; done) | (simp [State.take_pending _ _ _ _ (by assumption), *]; done) | ((try rw [goesOn_next]); refine (foldl_pending _ _ _ ?_).trans ?_ <;> (first | (intro s a; (repeat' split) <;> simp; done) | simp; done)) | rfl)
@[simp] theorem State.tryAcquire_pending (s : State) : (State.tryAcquire s).pending = s.pending := by
  first
  | (simp [State.tryAcquire, goesOn_ite, apply_ite State.pending, apply_dite State.pending]; done)
  | (unfold State.tryAcquire; (try dsimp only); (repeat' split) <;> first | (simp [apply_ite State.pending, apply_dite State.pending, *]; done) | (simp [State.offer_pending _ _ _ _ (by assumption), *]; done) | (simp [State.take_pending _ _ _ _ (by assumption), *]; done) | ((try rw [goesOn_next]); refine (foldl_pending _ _ _ ?_).trans ?_ <;> (first | (intro s a; (repeat' split) <;> simp; done) | simp; done)) | rfl)
@[simp] theorem State.countSyncs_pending (s : State) (ofs : Int) : (State.countSyncs s ofs).pending = s.pending := by
  first
  | (simp [State.countSyncs, goesOn_ite, apply_ite State.pending, apply_dite State.pending]; done)
  | (unfold State.countSyncs; (try dsimp only); (repeat' split) <;> first | (simp [apply_ite State.pending, apply_dite State.pending, *]; done) | (simp [State.offer_pending _ _ _ _ (by assumption), *]; done) | (simp [State.take_pending _ _ _ _ (by assumption), *]; done) | ((try rw [goesOn_next]); refine (foldl_pending _ _ _ ?_).trans ?_ <;> (first | (intro s a; (repeat' split) <;> simp; done) | simp; done)) | rfl)
@[simp] theorem State.measured_pending (s : State) (ofs : Int) : (State.measured s ofs).pending = s.pending := by
  first
  | (simp [State.measured, goesOn_ite, apply_ite State.pending, apply_dite State.pending]; done)
  | (unfold State.measured; (try dsimp only); (repeat' split) <;> first | (simp [apply_ite State.pending, apply_dite State.pending, *]; done) | (simp [State.offer_pending _ _ _ _ (by assumption), *]; done) | (simp [State.take_pending _ _ _ _ (by assumption), *]; done) | ((try rw [goesOn_next]); refine (foldl_pending _ _ _ ?_).trans ?_ <;> (first | (intro s a; (repeat' split) <;> simp; done) | simp; done)) | rfl)
@[simp] theorem State.useSync_pending (s : State) (ns : Int) : (State.useSync s ns).pending = s.pending := by
  first
  | (simp [State.useSync, goesOn_ite, apply_ite State.pending, apply_dite State.pending]; done)
  | (unfold State.useSync; (try dsimp only); (repeat' split) <;> first | (simp [apply_ite State.pending, apply_dite State.pending, *]; done) | (simp [State.offer_pending _ _ _ _ (by assumption), *]; done) | (simp [State.take_pending _ _ _ _ (by assumption), *]; done) | ((try rw [goesOn_next]); refine (foldl_pending _ _ _ ?_).trans ?_ <;> (first | (intro s a; (repeat' split) <;> simp; done) | simp; done)) | rfl)
@[simp] theorem State.firstOffset_pending (s : State) (ofs : Int) : (State.firstOffset s ofs).pending = s.pending := by
  first
  | (simp [State.firstOffset, goesOn_ite, apply_ite State.pending, apply_dite State.pending]; done)
  | (unfold State.firstOffset; (try dsimp only); (repeat' split) <;> first | (simp [apply_ite State.pending, apply_dite State.pending, *]; done) | (simp [State.offer_pending _ _ _ _ (by assumption), *]; done) | (simp [State.take_pending _ _ _ _ (by assumption), *]; done) | ((try rw [goesOn_next]); refine (foldl_pending _ _ _ ?_).trans ?_ <;> (first | (intro s a; (repeat' split) <;> simp; done) | simp; done)) | rfl)
@[simp] theorem State.newOffset_pending (s : State) (ofs : Int) (logInt : Int) : (State.newOffset s ofs logInt).pending = s.pending := by
  first
  | (simp [State.newOffset, goesOn_ite, apply_ite State.pending, apply_dite State.pending]; done)
  | (unfold State.newOffset; (try dsimp only); (repeat' split) <;> first | (simp [apply_ite State.pending, apply_dite State.pending, *]; done) | (simp [State.offer_pending _ _ _ _ (by assumption), *]; done) | (simp [State.take_pending _ _ _ _ (by assumption), *]; done) | ((try rw [goesOn_next]); refine (foldl_pending _ _ _ ?_).trans ?_ <;> (first | (intro s a; (repeat' split) <;> simp; done) | simp; done)) | rfl)
@[simp] theorem State.syncDone_pending (s : State) (rx : Int) (origin : Int) (logInt : Int) (t : Nat) : (State.syncDone s rx origin logInt t).pending = s.pending := by
  first
  | (simp [State.syncDone, goesOn_ite, apply_ite State.pending, apply_dite State.pending]; done)
  | (unfold State.syncDone; (try dsimp only); (repeat' split) <;> first | (simp [apply_ite State.pending, apply_dite State.pending, *]; done) | (simp [State.offer_pending _ _ _ _ (by assumption), *]; done) | (simp [State.take_pending _ _ _ _ (by assumption), *]; done) | ((try rw [goesOn_next]); refine (foldl_pending _ _ _ ?_).trans ?_ <;> (first | (intro s a; (repeat' split) <;> simp; done) | simp; done)) | rfl)
@[simp] theorem State.ptpIn_pending (s : State) : (State.ptpIn s).1.pending = s.pending := by
  first
  | (simp [State.ptpIn, goesOn_ite, apply_ite State.pending, apply_dite State.pending]; done)
  | (unfold State.ptpIn; (try dsimp only); (repeat' split) <;> first | (simp [apply_ite State.pending, apply_dite State.pending, *]; done) | (simp [State.offer_pending _ _ _ _ (by assumption), *]; done) | (simp [State.take_pending _ _ _ _ (by assumption), *]; done) | ((try rw [goesOn_next]); refine (foldl_pending _ _ _ ?_).trans ?_ <;> (first | (intro s a; (repeat' split) <;> simp; done) | simp; done)) | rfl)
@[simp] theorem State.setMpd_pending (s : State) (d : Int) : (State.setMpd s d).pending = s.pending := by
  first
  | (simp [State.setMpd, goesOn_ite, apply_ite State.pending, apply_dite State.pending]; done)
  | (unfold State.setMpd; (try dsimp only); (repeat' split) <;> first | (simp [apply_ite State.pending, apply_dite State.pending, *]; done) | (simp [State.offer_pending _ _ _ _ (by assumption), *]; done) | (simp [State.take_pending _ _ _ _ (by assumption), *]; done) | ((try rw [goesOn_next]); refine (foldl_pending _ _ _ ?_).trans ?_ <;> (first | (intro s a; (repeat' split) <;> simp; done) | simp; done)) | rfl)
@[simp] theorem State.ptpSend_pending (s : State) (x : PtpTx) : (State.ptpSend s x).1.pending = s.pending := by
  first
  | (simp [State.ptpSend, goesOn_ite, apply_ite State.pending, apply_dite State.pending]; done)
  | (unfold State.ptpSend; (try dsimp only); (repeat' split) <;> first | (simp [apply_ite State.pending, apply_dite State.pending, *]; done) | (simp [State.offer_pending _ _ _ _ (by assumption), *]; done) | (simp [State.take_pending _ _ _ _ (by assumption), *]; done) | ((try rw [goesOn_next]); refine (foldl_pending _ _ _ ?_).trans ?_ <;> (first | (intro s a; (repeat' split) <;> simp; done) | simp; done)) | rfl)
@[simp] theorem State.choose_pending (s : State) : (State.choose s).pending = s.pending := by
  first
  | (simp [State.choose, goesOn_ite, apply_ite State.pending, apply_dite State.pending]; done)
  | (unfold State.choose; (try dsimp only); (repeat' split) <;> first | (simp [apply_ite State.pending, apply_dite State.pending, *]; done) | (simp [State.offer_pending _ _ _ _ (by assumption), *]; done) | (simp [State.take_pending _ _ _ _ (by assumption), *]; done) | ((try rw [goesOn_next]); refine (foldl_pending _ _ _ ?_).trans ?_ <;> (first | (intro s a; (repeat' split) <;> simp; done) | simp; done)) | rfl)
@[simp] theorem State.restartServo_pending (s : State) : (State.restartServo s).pending = s.pending := by
  first
  | (simp [State.restartServo, goesOn_ite, apply_ite State.pending, apply_dite State.pending]; done)
  | (unfold State.restartServo; (try dsimp only); (repeat' split) <;> first | (simp [apply_ite State.pending, apply_dite State.pending, *]; done) | (simp [State.offer_pending _ _ _ _ (by assumption), *]; done) | (simp [State.take_pending _ _ _ _ (by assumption), *]; done) | ((try rw [goesOn_next]); refine (foldl_pending _ _ _ ?_).trans ?_ <;> (first | (intro s a; (repeat' split) <;> simp; done) | simp; done)) | rfl)
@[simp] theorem ptpHandle_goesOn (m : PtpMsg) (g : State → State) (s : State) (h : ∀ s, (g s).pending = s.pending) :
    goesOn s (ptpHandle m g s) := by
  unfold ptpHandle
  rw [goesOn_next]
  dsimp only
  split
  · split <;> simp [h]
  · simp
@[simp] theorem execPtpSync_goesOn (m : PtpMsg) (s : State) : goesOn s (execPtpSync m s) := by
  first
  | (simp [execPtpSync, goesOn_ite, apply_ite State.pending, apply_dite State.pending]; done)
  | (unfold execPtpSync; (try dsimp only); (repeat' split) <;> first | (simp [apply_ite State.pending, apply_dite State.pending, *]; done) | (simp [State.offer_pending _ _ _ _ (by assumption), *]; done) | (simp [State.take_pending _ _ _ _ (by assumption), *]; done) | ((try rw [goesOn_next]); refine (foldl_pending _ _ _ ?_).trans ?_ <;> (first | (intro s a; (repeat' split) <;> simp; done) | simp; done)) | rfl)
@[simp] theorem execPtpFollowUp_goesOn (m : PtpMsg) (s : State) : goesOn s (execPtpFollowUp m s) := by
  unfold execPtpFollowUp
  apply ptpHandle_goesOn
  intro s
  dsimp only
  (repeat' split) <;> simp
@[simp] theorem execPtpDelayReqSend_goesOn (departure : Int) (t : Nat) (s : State) : goesOn s (execPtpDelayReqSend departure t s) := by
  first
  | (simp [execPtpDelayReqSend, goesOn_ite, apply_ite State.pending, apply_dite State.pending]; done)
  | (unfold execPtpDelayReqSend; (try dsimp only); (repeat' split) <;> first | (simp [apply_ite State.pending, apply_dite State.pending, *]; done) | (simp [State.offer_pending _ _ _ _ (by assumption), *]; done) | (simp [State.take_pending _ _ _ _ (by assumption), *]; done) | ((try rw [goesOn_next]); refine (foldl_pending _ _ _ ?_).trans ?_ <;> (first | (intro s a; (repeat' split) <;> simp; done) | simp; done)) | rfl)
@[simp] theorem execPtpDelayResp_goesOn (m : PtpMsg) (s : State) : goesOn s (execPtpDelayResp m s) := by
  unfold execPtpDelayResp
  apply ptpHandle_goesOn
  intro s
  dsimp only
  (repeat' split) <;> simp
@[simp] theorem execPtpPdelayReq_goesOn (m : PtpMsg) (departure : Int) (s : State) : goesOn s (execPtpPdelayReq m departure s) := by
  first
  | (simp [execPtpPdelayReq, goesOn_ite, apply_ite State.pending, apply_dite State.pending]; done)
  | (unfold execPtpPdelayReq; (try dsimp only); (repeat' split) <;> first | (simp [apply_ite State.pending, apply_dite State.pending, *]; done) | (simp [State.offer_pending _ _ _ _ (by assumption), *]; done) | (simp [State.take_pending _ _ _ _ (by assumption), *]; done) | ((try rw [goesOn_next]); refine (foldl_pending _ _ _ ?_).trans ?_ <;> (first | (intro s a; (repeat' split) <;> simp; done) | simp; done)) | rfl)
@[simp] theorem execPtpPdelayResp_goesOn (m : PtpMsg) (s : State) : goesOn s (execPtpPdelayResp m s) := by
  unfold execPtpPdelayResp
  apply ptpHandle_goesOn
  intro s
  dsimp only
  (repeat' split) <;> simp
@[simp] theorem execPtpPdelayRespFollowUp_goesOn (m : PtpMsg) (s : State) : goesOn s (execPtpPdelayRespFollowUp m s) := by
  unfold execPtpPdelayRespFollowUp
  apply ptpHandle_goesOn
  intro s
  dsimp only
  (repeat' split) <;> simp
@[simp] theorem execPtpAnnounce_goesOn (a : Announce) (t : Nat) (s : State) : goesOn s (execPtpAnnounce a t s) := by
  first
  | (simp [execPtpAnnounce, goesOn_ite, apply_ite State.pending, apply_dite State.pending]; done)
  | (unfold execPtpAnnounce; (try dsimp only); (repeat' split) <;> first | (simp [apply_ite State.pending, apply_dite State.pending, *]; done) | (simp [State.offer_pending _ _ _ _ (by assumption), *]; done) | (simp [State.take_pending _ _ _ _ (by assumption), *]; done) | ((try rw [goesOn_next]); refine (foldl_pending _ _ _ ?_).trans ?_ <;> (first | (intro s a; (repeat' split) <;> simp; done) | simp; done)) | rfl)
@[simp] theorem execAnnounceTimeout_goesOn (t : Nat) (s : State) : goesOn s (execAnnounceTimeout t s) := by
  first
  | (simp [execAnnounceTimeout, goesOn_ite, apply_ite State.pending, apply_dite State.pending]; done)
  | (unfold execAnnounceTimeout; (try dsimp only); (repeat' split) <;> first | (simp [apply_ite State.pending, apply_dite State.pending, *]; done) | (simp [State.offer_pending _ _ _ _ (by assumption), *]; done) | (simp [State.take_pending _ _ _ _ (by assumption), *]; done) | ((try rw [goesOn_next]); refine (foldl_pending _ _ _ ?_).trans ?_ <;> (first | (intro s a; (repeat' split) <;> simp; done) | simp; done)) | rfl)
@[simp] theorem execTcForward_goesOn (kind : Nat) (m : PtpMsg) (residence : Nat) (s : State) : goesOn s (execTcForward kind m residence s) := by
  first
  | (simp [execTcForward, goesOn_ite, apply_ite State.pending, apply_dite State.pending]; done)
  | (unfold execTcForward; (try dsimp only); (repeat' split) <;> first | (simp [apply_ite State.pending, apply_dite State.pending, *]; done) | (simp [State.offer_pending _ _ _ _ (by assumption), *]; done) | (simp [State.take_pending _ _ _ _ (by assumption), *]; done) | ((try rw [goesOn_next]); refine (foldl_pending _ _ _ ?_).trans ?_ <;> (first | (intro s a; (repeat' split) <;> simp; done) | simp; done)) | rfl)
@[simp] theorem execPlantFrameRx_goesOn (etherType : Nat) (bytes : List Byte) (s : State) : goesOn s (execPlantFrameRx etherType bytes s) := by
  first
  | (simp [execPlantFrameRx, goesOn_ite, apply_ite State.pending, apply_dite State.pending]; done)
  | (unfold execPlantFrameRx; (try dsimp only); (repeat' split) <;> first | (simp [apply_ite State.pending, apply_dite State.pending, *]; done) | (simp [State.offer_pending _ _ _ _ (by assumption), *]; done) | (simp [State.take_pending _ _ _ _ (by assumption), *]; done) | ((try rw [goesOn_next]); refine (foldl_pending _ _ _ ?_).trans ?_ <;> (first | (intro s a; (repeat' split) <;> simp; done) | simp; done)) | rfl)
@[simp] theorem execTimeAccept_goesOn (key : Nat) (s : State) : goesOn s (execTimeAccept key s) := by
  first
  | (simp [execTimeAccept, goesOn_ite, apply_ite State.pending, apply_dite State.pending]; done)
  | (unfold execTimeAccept; (try dsimp only); (repeat' split) <;> first | (simp [apply_ite State.pending, apply_dite State.pending, *]; done) | (simp [State.offer_pending _ _ _ _ (by assumption), *]; done) | (simp [State.take_pending _ _ _ _ (by assumption), *]; done) | ((try rw [goesOn_next]); refine (foldl_pending _ _ _ ?_).trans ?_ <;> (first | (intro s a; (repeat' split) <;> simp; done) | simp; done)) | rfl)
@[simp] theorem State.moveGrid_pending (s : State) (ms : Int) : (State.moveGrid s ms).pending = s.pending := by
  first
  | (simp [State.moveGrid, goesOn_ite, apply_ite State.pending, apply_dite State.pending]; done)
  | (unfold State.moveGrid; (try dsimp only); (repeat' split) <;> first | (simp [apply_ite State.pending, apply_dite State.pending, *]; done) | (simp [State.offer_pending _ _ _ _ (by assumption), *]; done) | (simp [State.take_pending _ _ _ _ (by assumption), *]; done) | ((try rw [goesOn_next]); refine (foldl_pending _ _ _ ?_).trans ?_ <;> (first | (intro s a; (repeat' split) <;> simp; done) | simp; done)) | rfl)
@[simp] theorem State.takeStep_pending (s : State) : (s.takeStep).pending = s.pending := by
  unfold State.takeStep
  split
  · rfl
  · simp [apply_ite State.pending]
@[simp] theorem execTimeStep_goesOn (s : State) : goesOn s (execTimeStep s) := by
  first
  | (simp [execTimeStep, goesOn_ite, apply_ite State.pending, apply_dite State.pending]; done)
  | (unfold execTimeStep; (try dsimp only); (repeat' split) <;> first | (simp [apply_ite State.pending, apply_dite State.pending, *]; done) | (simp [State.offer_pending _ _ _ _ (by assumption), *]; done) | (simp [State.take_pending _ _ _ _ (by assumption), *]; done) | ((try rw [goesOn_next]); refine (foldl_pending _ _ _ ?_).trans ?_ <;> (first | (intro s a; (repeat' split) <;> simp; done) | simp; done)) | rfl)
@[simp] theorem execTimeCfgWrite_goesOn (value : Word) (s : State) : goesOn s (execTimeCfgWrite value s) := by
  first
  | (simp [execTimeCfgWrite, goesOn_ite, apply_ite State.pending, apply_dite State.pending]; done)
  | (unfold execTimeCfgWrite; (try dsimp only); (repeat' split) <;> first | (simp [apply_ite State.pending, apply_dite State.pending, *]; done) | (simp [State.offer_pending _ _ _ _ (by assumption), *]; done) | (simp [State.take_pending _ _ _ _ (by assumption), *]; done) | ((try rw [goesOn_next]); refine (foldl_pending _ _ _ ?_).trans ?_ <;> (first | (intro s a; (repeat' split) <;> simp; done) | simp; done)) | rfl)
@[simp] theorem execTimePtpWrite_goesOn (value : Word) (s : State) : goesOn s (execTimePtpWrite value s) := by
  first
  | (simp [execTimePtpWrite, goesOn_ite, apply_ite State.pending, apply_dite State.pending]; done)
  | (unfold execTimePtpWrite; (try dsimp only); (repeat' split) <;> first | (simp [apply_ite State.pending, apply_dite State.pending, *]; done) | (simp [State.offer_pending _ _ _ _ (by assumption), *]; done) | (simp [State.take_pending _ _ _ _ (by assumption), *]; done) | ((try rw [goesOn_next]); refine (foldl_pending _ _ _ ?_).trans ?_ <;> (first | (intro s a; (repeat' split) <;> simp; done) | simp; done)) | rfl)
@[simp] theorem execTimeRingHoldover_goesOn (s : State) : goesOn s (execTimeRingHoldover s) := by
  first
  | (simp [execTimeRingHoldover, goesOn_ite, apply_ite State.pending, apply_dite State.pending]; done)
  | (unfold execTimeRingHoldover; (try dsimp only); (repeat' split) <;> first | (simp [apply_ite State.pending, apply_dite State.pending, *]; done) | (simp [State.offer_pending _ _ _ _ (by assumption), *]; done) | (simp [State.take_pending _ _ _ _ (by assumption), *]; done) | ((try rw [goesOn_next]); refine (foldl_pending _ _ _ ?_).trans ?_ <;> (first | (intro s a; (repeat' split) <;> simp; done) | simp; done)) | rfl)
@[simp] theorem execTimeNowRead_goesOn (s : State) : goesOn s (execTimeNowRead s) := by
  first
  | (simp [execTimeNowRead, goesOn_ite, apply_ite State.pending, apply_dite State.pending]; done)
  | (unfold execTimeNowRead; (try dsimp only); (repeat' split) <;> first | (simp [apply_ite State.pending, apply_dite State.pending, *]; done) | (simp [State.offer_pending _ _ _ _ (by assumption), *]; done) | (simp [State.take_pending _ _ _ _ (by assumption), *]; done) | ((try rw [goesOn_next]); refine (foldl_pending _ _ _ ?_).trans ?_ <;> (first | (intro s a; (repeat' split) <;> simp; done) | simp; done)) | rfl)

end Sys2Proof.Machine
end

