-- ==== Sys2Proof/Laws/QueueRing.lean ====
section
/-! SUPPORT. The operations of Machine/Ring.lean leave the queue of waiting commands alone. -/

namespace Sys2Proof.Machine

@[simp] theorem State.modRing_pending (s : State) (r : Fin 2) (g : RingState → RingState) : (State.modRing s r g).pending = s.pending := by
  first
  | (simp [State.modRing, goesOn_ite, apply_ite State.pending, apply_dite State.pending]; done)
  | (unfold State.modRing; (try dsimp only); (repeat' split) <;> first | (simp [apply_ite State.pending, apply_dite State.pending, *]; done) | (simp [State.offer_pending _ _ _ _ (by assumption), *]; done) | (simp [State.take_pending _ _ _ _ (by assumption), *]; done) | ((try rw [goesOn_next]); refine (foldl_pending _ _ _ ?_).trans ?_ <;> (first | (intro s a; (repeat' split) <;> simp; done) | simp; done)) | rfl)
@[simp] theorem State.dropSwap_pending (s : State) (code : Nat) : (State.dropSwap s code).pending = s.pending := by
  first
  | (simp [State.dropSwap, goesOn_ite, apply_ite State.pending, apply_dite State.pending]; done)
  | (unfold State.dropSwap; (try dsimp only); (repeat' split) <;> first | (simp [apply_ite State.pending, apply_dite State.pending, *]; done) | (simp [State.offer_pending _ _ _ _ (by assumption), *]; done) | (simp [State.take_pending _ _ _ _ (by assumption), *]; done) | ((try rw [goesOn_next]); refine (foldl_pending _ _ _ ?_).trans ?_ <;> (first | (intro s a; (repeat' split) <;> simp; done) | simp; done)) | rfl)
@[simp] theorem State.abandonSwap_pending (s : State) (code : Nat) (cause : Nat) : (State.abandonSwap s code cause).pending = s.pending := by
  first
  | (simp [State.abandonSwap, goesOn_ite, apply_ite State.pending, apply_dite State.pending]; done)
  | (unfold State.abandonSwap; (try dsimp only); (repeat' split) <;> first | (simp [apply_ite State.pending, apply_dite State.pending, *]; done) | (simp [State.offer_pending _ _ _ _ (by assumption), *]; done) | (simp [State.take_pending _ _ _ _ (by assumption), *]; done) | ((try rw [goesOn_next]); refine (foldl_pending _ _ _ ?_).trans ?_ <;> (first | (intro s a; (repeat' split) <;> simp; done) | simp; done)) | rfl)
@[simp] theorem State.streamed_pending (s : State) (seq : Nat) (len : Nat) (hash : List Word) (time : Instant) : (State.streamed s seq len hash time).pending = s.pending := by
  first
  | (simp [State.streamed, goesOn_ite, apply_ite State.pending, apply_dite State.pending]; done)
  | (unfold State.streamed; (try dsimp only); (repeat' split) <;> first | (simp [apply_ite State.pending, apply_dite State.pending, *]; done) | (simp [State.offer_pending _ _ _ _ (by assumption), *]; done) | (simp [State.take_pending _ _ _ _ (by assumption), *]; done) | ((try rw [goesOn_next]); refine (foldl_pending _ _ _ ?_).trans ?_ <;> (first | (intro s a; (repeat' split) <;> simp; done) | simp; done)) | rfl)
theorem State.nextChunk_pending (s : State) : ∀ b t, s.nextChunk = some (b, t) → t.pending = s.pending := by
  intro b t h
  unfold State.nextChunk at h
  split at h
  · next h' =>
    have := State.take_pending _ _ _ _ h'
    cases h
    split <;> simp [this]
  · cases h
@[simp] theorem State.soutPay_pending (x : State × State.SegPays) (g : RSeg) : (State.soutPay x g).1.pending = x.1.pending := by
  unfold State.soutPay
  split <;> simp

@[simp] theorem State.soutPays_pending (gs : List RSeg) (x : State × State.SegPays) :
    (gs.foldl State.soutPay x).1.pending = x.1.pending := by
  induction gs generalizing x with
  | nil => rfl
  | cons g gs ih => simp [ih]
@[simp] theorem State.ckptPay_pending (x : State × State.SegPays) (seg : Option RSeg) :
    (State.ckptPay x seg).1.pending = x.1.pending := by
  unfold State.ckptPay
  split
  · split
    · rfl
    · split
      · next h => exact State.nextChunk_pending _ _ _ h
      · rfl
  · rfl
@[simp] theorem State.pullSvc_pending (s : State) (r : Fin 2) : (State.pullSvc s r).pending = s.pending := by
  first
  | (simp [State.pullSvc, goesOn_ite, apply_ite State.pending, apply_dite State.pending]; done)
  | (unfold State.pullSvc; (try dsimp only); (repeat' split) <;> first | (simp [apply_ite State.pending, apply_dite State.pending, *]; done) | (simp [State.offer_pending _ _ _ _ (by assumption), *]; done) | (simp [State.take_pending _ _ _ _ (by assumption), *]; done) | ((try rw [goesOn_next]); refine (foldl_pending _ _ _ ?_).trans ?_ <;> (first | (intro s a; (repeat' split) <;> simp; done) | simp; done)) | rfl)
@[simp] theorem State.closeStaging_pending (s : State) (r : Fin 2) : (State.closeStaging s r).pending = s.pending := by
  first
  | (simp [State.closeStaging, goesOn_ite, apply_ite State.pending, apply_dite State.pending]; done)
  | (unfold State.closeStaging; (try dsimp only); (repeat' split) <;> first | (simp [apply_ite State.pending, apply_dite State.pending, *]; done) | (simp [State.offer_pending _ _ _ _ (by assumption), *]; done) | (simp [State.take_pending _ _ _ _ (by assumption), *]; done) | ((try rw [goesOn_next]); refine (foldl_pending _ _ _ ?_).trans ?_ <;> (first | (intro s a; (repeat' split) <;> simp; done) | simp; done)) | rfl)
@[simp] theorem State.svcDown_pending (s : State) (r : Fin 2) (grant : Option Nat) : (s.svcDown r grant).2.pending = s.pending := by
  unfold State.svcDown
  dsimp only
  (repeat' split) <;> simp
@[simp] theorem State.markSent_pending (s : State) (r : Fin 2) (segs : List RSeg) (pays : List (Nat × List Byte)) : (State.markSent s r segs pays).pending = s.pending := by
  first
  | (simp [State.markSent, goesOn_ite, apply_ite State.pending, apply_dite State.pending]; done)
  | (unfold State.markSent; (try dsimp only); (repeat' split) <;> first | (simp [apply_ite State.pending, apply_dite State.pending, *]; done) | (simp [State.offer_pending _ _ _ _ (by assumption), *]; done) | (simp [State.take_pending _ _ _ _ (by assumption), *]; done) | ((try rw [goesOn_next]); refine (foldl_pending _ _ _ ?_).trans ?_ <;> (first | (intro s a; (repeat' split) <;> simp; done) | simp; done)) | rfl)
@[simp] theorem State.markSvc_pending (s : State) (r : Fin 2) (segs : List RSeg) (svc : List Byte) : (State.markSvc s r segs svc).pending = s.pending := by
  first
  | (simp [State.markSvc, goesOn_ite, apply_ite State.pending, apply_dite State.pending]; done)
  | (unfold State.markSvc; (try dsimp only); (repeat' split) <;> first | (simp [apply_ite State.pending, apply_dite State.pending, *]; done) | (simp [State.offer_pending _ _ _ _ (by assumption), *]; done) | (simp [State.take_pending _ _ _ _ (by assumption), *]; done) | ((try rw [goesOn_next]); refine (foldl_pending _ _ _ ?_).trans ?_ <;> (first | (intro s a; (repeat' split) <;> simp; done) | simp; done)) | rfl)
@[simp] theorem State.ageAxes_pending (s : State) (r : Fin 2) : (State.ageAxes s r).pending = s.pending := by
  first
  | (simp [State.ageAxes, goesOn_ite, apply_ite State.pending, apply_dite State.pending]; done)
  | (unfold State.ageAxes; (try dsimp only); (repeat' split) <;> first | (simp [apply_ite State.pending, apply_dite State.pending, *]; done) | (simp [State.offer_pending _ _ _ _ (by assumption), *]; done) | (simp [State.take_pending _ _ _ _ (by assumption), *]; done) | ((try rw [goesOn_next]); refine (foldl_pending _ _ _ ?_).trans ?_ <;> (first | (intro s a; (repeat' split) <;> simp; done) | simp; done)) | rfl)
@[simp] theorem State.countNodes_pending (s : State) (r : Fin 2) : (State.countNodes s r).pending = s.pending := by
  first
  | (simp [State.countNodes, goesOn_ite, apply_ite State.pending, apply_dite State.pending]; done)
  | (unfold State.countNodes; (try dsimp only); (repeat' split) <;> first | (simp [apply_ite State.pending, apply_dite State.pending, *]; done) | (simp [State.offer_pending _ _ _ _ (by assumption), *]; done) | (simp [State.take_pending _ _ _ _ (by assumption), *]; done) | ((try rw [goesOn_next]); refine (foldl_pending _ _ _ ?_).trans ?_ <;> (first | (intro s a; (repeat' split) <;> simp; done) | simp; done)) | rfl)
@[simp] theorem State.pairCycle_pending (s : State) (r : Fin 2) : (State.pairCycle s r).pending = s.pending := by
  first
  | (simp [State.pairCycle, goesOn_ite, apply_ite State.pending, apply_dite State.pending]; done)
  | (unfold State.pairCycle; (try dsimp only); (repeat' split) <;> first | (simp [apply_ite State.pending, apply_dite State.pending, *]; done) | (simp [State.offer_pending _ _ _ _ (by assumption), *]; done) | (simp [State.take_pending _ _ _ _ (by assumption), *]; done) | ((try rw [goesOn_next]); refine (foldl_pending _ _ _ ?_).trans ?_ <;> (first | (intro s a; (repeat' split) <;> simp; done) | simp; done)) | rfl)
@[simp] theorem State.missCopy_pending (s : State) (r : Fin 2) (f : RFrame) : (State.missCopy s r f).pending = s.pending := by
  first
  | (simp [State.missCopy, goesOn_ite, apply_ite State.pending, apply_dite State.pending]; done)
  | (unfold State.missCopy; (try dsimp only); (repeat' split) <;> first | (simp [apply_ite State.pending, apply_dite State.pending, *]; done) | (simp [State.offer_pending _ _ _ _ (by assumption), *]; done) | (simp [State.take_pending _ _ _ _ (by assumption), *]; done) | ((try rw [goesOn_next]); refine (foldl_pending _ _ _ ?_).trans ?_ <;> (first | (intro s a; (repeat' split) <;> simp; done) | simp; done)) | rfl)
@[simp] theorem State.finishCycle_pending (s : State) (r : Fin 2) : (State.finishCycle s r).pending = s.pending := by
  first
  | (simp [State.finishCycle, goesOn_ite, apply_ite State.pending, apply_dite State.pending]; done)
  | (unfold State.finishCycle; (try dsimp only); (repeat' split) <;> first | (simp [apply_ite State.pending, apply_dite State.pending, *]; done) | (simp [State.offer_pending _ _ _ _ (by assumption), *]; done) | (simp [State.take_pending _ _ _ _ (by assumption), *]; done) | ((try rw [goesOn_next]); refine (foldl_pending _ _ _ ?_).trans ?_ <;> (first | (intro s a; (repeat' split) <;> simp; done) | simp; done)) | rfl)
@[simp] theorem State.departed_pending (s : State) (r : Fin 2) (cp : Option RCopy) (cs : Option RCopy) : (State.departed s r cp cs).pending = s.pending := by
  first
  | (simp [State.departed, goesOn_ite, apply_ite State.pending, apply_dite State.pending]; done)
  | (unfold State.departed; (try dsimp only); (repeat' split) <;> first | (simp [apply_ite State.pending, apply_dite State.pending, *]; done) | (simp [State.offer_pending _ _ _ _ (by assumption), *]; done) | (simp [State.take_pending _ _ _ _ (by assumption), *]; done) | ((try rw [goesOn_next]); refine (foldl_pending _ _ _ ?_).trans ?_ <;> (first | (intro s a; (repeat' split) <;> simp; done) | simp; done)) | rfl)
@[simp] theorem State.showCycle_pending (s : State) (r : Fin 2) (mode : Nat) (open_ : Bool) (cp : Bool) (cs : Bool) : (State.showCycle s r mode open_ cp cs).pending = s.pending := by
  first
  | (simp [State.showCycle, goesOn_ite, apply_ite State.pending, apply_dite State.pending]; done)
  | (unfold State.showCycle; (try dsimp only); (repeat' split) <;> first | (simp [apply_ite State.pending, apply_dite State.pending, *]; done) | (simp [State.offer_pending _ _ _ _ (by assumption), *]; done) | (simp [State.take_pending _ _ _ _ (by assumption), *]; done) | ((try rw [goesOn_next]); refine (foldl_pending _ _ _ ?_).trans ?_ <;> (first | (intro s a; (repeat' split) <;> simp; done) | simp; done)) | rfl)
@[simp] theorem State.enterOpen_pending (s : State) (r : Fin 2) (cyc : Nat) : (State.enterOpen s r cyc).pending = s.pending := by
  first
  | (simp [State.enterOpen, goesOn_ite, apply_ite State.pending, apply_dite State.pending]; done)
  | (unfold State.enterOpen; (try dsimp only); (repeat' split) <;> first | (simp [apply_ite State.pending, apply_dite State.pending, *]; done) | (simp [State.offer_pending _ _ _ _ (by assumption), *]; done) | (simp [State.take_pending _ _ _ _ (by assumption), *]; done) | ((try rw [goesOn_next]); refine (foldl_pending _ _ _ ?_).trans ?_ <;> (first | (intro s a; (repeat' split) <;> simp; done) | simp; done)) | rfl)
@[simp] theorem State.takeGrant_pending (s : State) (r : Fin 2) (g : Option Nat) : (State.takeGrant s r g).pending = s.pending := by
  first
  | (simp [State.takeGrant, goesOn_ite, apply_ite State.pending, apply_dite State.pending]; done)
  | (unfold State.takeGrant; (try dsimp only); (repeat' split) <;> first | (simp [apply_ite State.pending, apply_dite State.pending, *]; done) | (simp [State.offer_pending _ _ _ _ (by assumption), *]; done) | (simp [State.take_pending _ _ _ _ (by assumption), *]; done) | ((try rw [goesOn_next]); refine (foldl_pending _ _ _ ?_).trans ?_ <;> (first | (intro s a; (repeat' split) <;> simp; done) | simp; done)) | rfl)
@[simp] theorem State.depart_pending (s : State) (r : Fin 2) : (s.depart r).pending = s.pending := by
  unfold State.depart
  dsimp only
  simp [apply_ite State.pending]
@[simp] theorem State.takeRecord_pending (s : State) (r : Fin 2) (a : Nat) (bs : List Byte) : (State.takeRecord s r a bs).pending = s.pending := by
  first
  | (simp [State.takeRecord, goesOn_ite, apply_ite State.pending, apply_dite State.pending]; done)
  | (unfold State.takeRecord; (try dsimp only); (repeat' split) <;> first | (simp [apply_ite State.pending, apply_dite State.pending, *]; done) | (simp [State.offer_pending _ _ _ _ (by assumption), *]; done) | (simp [State.take_pending _ _ _ _ (by assumption), *]; done) | ((try rw [goesOn_next]); refine (foldl_pending _ _ _ ?_).trans ?_ <;> (first | (intro s a; (repeat' split) <;> simp; done) | simp; done)) | rfl)
@[simp] theorem State.takePair_pending (s : State) (r : Fin 2) (bs : List Byte) : (State.takePair s r bs).pending = s.pending := by
  first
  | (simp [State.takePair, goesOn_ite, apply_ite State.pending, apply_dite State.pending]; done)
  | (unfold State.takePair; (try dsimp only); (repeat' split) <;> first | (simp [apply_ite State.pending, apply_dite State.pending, *]; done) | (simp [State.offer_pending _ _ _ _ (by assumption), *]; done) | (simp [State.take_pending _ _ _ _ (by assumption), *]; done) | ((try rw [goesOn_next]); refine (foldl_pending _ _ _ ?_).trans ?_ <;> (first | (intro s a; (repeat' split) <;> simp; done) | simp; done)) | rfl)
@[simp] theorem State.identMsg_pending (s : State) (r : Fin 2) (node : Nat) (data : List Byte) : (State.identMsg s r node data).pending = s.pending := by
  first
  | (simp [State.identMsg, goesOn_ite, apply_ite State.pending, apply_dite State.pending]; done)
  | (unfold State.identMsg; (try dsimp only); (repeat' split) <;> first | (simp [apply_ite State.pending, apply_dite State.pending, *]; done) | (simp [State.offer_pending _ _ _ _ (by assumption), *]; done) | (simp [State.take_pending _ _ _ _ (by assumption), *]; done) | ((try rw [goesOn_next]); refine (foldl_pending _ _ _ ?_).trans ?_ <;> (first | (intro s a; (repeat' split) <;> simp; done) | simp; done)) | rfl)
@[simp] theorem State.holdShadow_pending (s : State) (i : Image) : (State.holdShadow s i).pending = s.pending := by
  first
  | (simp [State.holdShadow, goesOn_ite, apply_ite State.pending, apply_dite State.pending]; done)
  | (unfold State.holdShadow; (try dsimp only); (repeat' split) <;> first | (simp [apply_ite State.pending, apply_dite State.pending, *]; done) | (simp [State.offer_pending _ _ _ _ (by assumption), *]; done) | (simp [State.take_pending _ _ _ _ (by assumption), *]; done) | ((try rw [goesOn_next]); refine (foldl_pending _ _ _ ?_).trans ?_ <;> (first | (intro s a; (repeat' split) <;> simp; done) | simp; done)) | rfl)
@[simp] theorem State.layoutAck_pending (s : State) (r : Fin 2) (node : Nat) (sid : Nat) : (State.layoutAck s r node sid).pending = s.pending := by
  first
  | (simp [State.layoutAck, goesOn_ite, apply_ite State.pending, apply_dite State.pending]; done)
  | (unfold State.layoutAck; (try dsimp only); (repeat' split) <;> first | (simp [apply_ite State.pending, apply_dite State.pending, *]; done) | (simp [State.offer_pending _ _ _ _ (by assumption), *]; done) | (simp [State.take_pending _ _ _ _ (by assumption), *]; done) | ((try rw [goesOn_next]); refine (foldl_pending _ _ _ ?_).trans ?_ <;> (first | (intro s a; (repeat' split) <;> simp; done) | simp; done)) | rfl)
@[simp] theorem State.abandonClose_pending (s : State) (r : Fin 2) : (State.abandonClose s r).pending = s.pending := by
  first
  | (simp [State.abandonClose, goesOn_ite, apply_ite State.pending, apply_dite State.pending]; done)
  | (unfold State.abandonClose; (try dsimp only); (repeat' split) <;> first | (simp [apply_ite State.pending, apply_dite State.pending, *]; done) | (simp [State.offer_pending _ _ _ _ (by assumption), *]; done) | (simp [State.take_pending _ _ _ _ (by assumption), *]; done) | ((try rw [goesOn_next]); refine (foldl_pending _ _ _ ?_).trans ?_ <;> (first | (intro s a; (repeat' split) <;> simp; done) | simp; done)) | rfl)
@[simp] theorem State.linkMsg_pending (s : State) (r : Fin 2) (node : Nat) (p : Bool) (q : Bool) (loop : Bool) : (State.linkMsg s r node p q loop).pending = s.pending := by
  first
  | (simp [State.linkMsg, goesOn_ite, apply_ite State.pending, apply_dite State.pending]; done)
  | (unfold State.linkMsg; (try dsimp only); (repeat' split) <;> first | (simp [apply_ite State.pending, apply_dite State.pending, *]; done) | (simp [State.offer_pending _ _ _ _ (by assumption), *]; done) | (simp [State.take_pending _ _ _ _ (by assumption), *]; done) | ((try rw [goesOn_next]); refine (foldl_pending _ _ _ ?_).trans ?_ <;> (first | (intro s a; (repeat' split) <;> simp; done) | simp; done)) | rfl)
@[simp] theorem State.handlerMsg_pending (s : State) (r : Fin 2) (m : SvcMsg) : (State.handlerMsg s r m).pending = s.pending := by
  first
  | (simp [State.handlerMsg, goesOn_ite, apply_ite State.pending, apply_dite State.pending]; done)
  | (unfold State.handlerMsg; (try dsimp only); (repeat' split) <;> first | (simp [apply_ite State.pending, apply_dite State.pending, *]; done) | (simp [State.offer_pending _ _ _ _ (by assumption), *]; done) | (simp [State.take_pending _ _ _ _ (by assumption), *]; done) | ((try rw [goesOn_next]); refine (foldl_pending _ _ _ ?_).trans ?_ <;> (first | (intro s a; (repeat' split) <;> simp; done) | simp; done)) | rfl)
@[simp] theorem State.svcMessage_pending (s : State) (r : Fin 2) (m : SvcMsg) : (State.svcMessage s r m).pending = s.pending := by
  first
  | (simp [State.svcMessage, goesOn_ite, apply_ite State.pending, apply_dite State.pending]; done)
  | (unfold State.svcMessage; (try dsimp only); (repeat' split) <;> first | (simp [apply_ite State.pending, apply_dite State.pending, *]; done) | (simp [State.offer_pending _ _ _ _ (by assumption), *]; done) | (simp [State.take_pending _ _ _ _ (by assumption), *]; done) | ((try rw [goesOn_next]); refine (foldl_pending _ _ _ ?_).trans ?_ <;> (first | (intro s a; (repeat' split) <;> simp; done) | simp; done)) | rfl)
@[simp] theorem State.takeSvcUp_pending (s : State) (r : Fin 2) (pay : List Byte) : (State.takeSvcUp s r pay).pending = s.pending := by
  first
  | (simp [State.takeSvcUp, goesOn_ite, apply_ite State.pending, apply_dite State.pending]; done)
  | (unfold State.takeSvcUp; (try dsimp only); (repeat' split) <;> first | (simp [apply_ite State.pending, apply_dite State.pending, *]; done) | (simp [State.offer_pending _ _ _ _ (by assumption), *]; done) | (simp [State.take_pending _ _ _ _ (by assumption), *]; done) | ((try rw [goesOn_next]); refine (foldl_pending _ _ _ ?_).trans ?_ <;> (first | (intro s a; (repeat' split) <;> simp; done) | simp; done)) | rfl)
@[simp] theorem State.nodeFlags_pending (s : State) (r : Fin 2) (n : Nat) (flags : Nat) : (State.nodeFlags s r n flags).pending = s.pending := by
  first
  | (simp [State.nodeFlags, goesOn_ite, apply_ite State.pending, apply_dite State.pending]; done)
  | (unfold State.nodeFlags; (try dsimp only); (repeat' split) <;> first | (simp [apply_ite State.pending, apply_dite State.pending, *]; done) | (simp [State.offer_pending _ _ _ _ (by assumption), *]; done) | (simp [State.take_pending _ _ _ _ (by assumption), *]; done) | ((try rw [goesOn_next]); refine (foldl_pending _ _ _ ?_).trans ?_ <;> (first | (intro s a; (repeat' split) <;> simp; done) | simp; done)) | rfl)
@[simp] theorem State.markTaken_pending (s : State) (r : Fin 2) (idx : Nat) : (State.markTaken s r idx).pending = s.pending := by
  first
  | (simp [State.markTaken, goesOn_ite, apply_ite State.pending, apply_dite State.pending]; done)
  | (unfold State.markTaken; (try dsimp only); (repeat' split) <;> first | (simp [apply_ite State.pending, apply_dite State.pending, *]; done) | (simp [State.offer_pending _ _ _ _ (by assumption), *]; done) | (simp [State.take_pending _ _ _ _ (by assumption), *]; done) | ((try rw [goesOn_next]); refine (foldl_pending _ _ _ ?_).trans ?_ <;> (first | (intro s a; (repeat' split) <;> simp; done) | simp; done)) | rfl)
@[simp] theorem State.takePayload_pending (s : State) (r : Fin 2) (g : RSeg) (pay : List Byte) : (State.takePayload s r g pay).pending = s.pending := by
  first
  | (simp [State.takePayload, goesOn_ite, apply_ite State.pending, apply_dite State.pending]; done)
  | (unfold State.takePayload; (try dsimp only); (repeat' split) <;> first | (simp [apply_ite State.pending, apply_dite State.pending, *]; done) | (simp [State.offer_pending _ _ _ _ (by assumption), *]; done) | (simp [State.take_pending _ _ _ _ (by assumption), *]; done) | ((try rw [goesOn_next]); refine (foldl_pending _ _ _ ?_).trans ?_ <;> (first | (intro s a; (repeat' split) <;> simp; done) | simp; done)) | rfl)
@[simp] theorem State.takeSeq_pending (s : State) (r : Fin 2) (g : RSeg) (seq : Nat) (pay : List Byte) : (State.takeSeq s r g seq pay).pending = s.pending := by
  first
  | (simp [State.takeSeq, goesOn_ite, apply_ite State.pending, apply_dite State.pending]; done)
  | (unfold State.takeSeq; (try dsimp only); (repeat' split) <;> first | (simp [apply_ite State.pending, apply_dite State.pending, *]; done) | (simp [State.offer_pending _ _ _ _ (by assumption), *]; done) | (simp [State.take_pending _ _ _ _ (by assumption), *]; done) | ((try rw [goesOn_next]); refine (foldl_pending _ _ _ ?_).trans ?_ <;> (first | (intro s a; (repeat' split) <;> simp; done) | simp; done)) | rfl)
@[simp] theorem State.firstFlags_pending (s : State) (r : Fin 2) (g : RSeg) (h : Nat) : (State.firstFlags s r g h).pending = s.pending := by
  first
  | (simp [State.firstFlags, goesOn_ite, apply_ite State.pending, apply_dite State.pending]; done)
  | (unfold State.firstFlags; (try dsimp only); (repeat' split) <;> first | (simp [apply_ite State.pending, apply_dite State.pending, *]; done) | (simp [State.offer_pending _ _ _ _ (by assumption), *]; done) | (simp [State.take_pending _ _ _ _ (by assumption), *]; done) | ((try rw [goesOn_next]); refine (foldl_pending _ _ _ ?_).trans ?_ <;> (first | (intro s a; (repeat' split) <;> simp; done) | simp; done)) | rfl)
@[simp] theorem State.takeSegment_pending (s : State) (r : Fin 2) (g : RSeg) (ownP : Bool) (area : List Byte) : (State.takeSegment s r g ownP area).pending = s.pending := by
  first
  | (simp [State.takeSegment, goesOn_ite, apply_ite State.pending, apply_dite State.pending]; done)
  | (unfold State.takeSegment; (try dsimp only); (repeat' split) <;> first | (simp [apply_ite State.pending, apply_dite State.pending, *]; done) | (simp [State.offer_pending _ _ _ _ (by assumption), *]; done) | (simp [State.take_pending _ _ _ _ (by assumption), *]; done) | ((try rw [goesOn_next]); refine (foldl_pending _ _ _ ?_).trans ?_ <;> (first | (intro s a; (repeat' split) <;> simp; done) | simp; done)) | rfl)
@[simp] theorem State.passSin_pending (s : State) (segs : List RSeg) (area : List Byte) : (State.passSin s segs area).pending = s.pending := by
  first
  | (simp [State.passSin, goesOn_ite, apply_ite State.pending, apply_dite State.pending]; done)
  | (unfold State.passSin; (try dsimp only); (repeat' split) <;> first | (simp [apply_ite State.pending, apply_dite State.pending, *]; done) | (simp [State.offer_pending _ _ _ _ (by assumption), *]; done) | (simp [State.take_pending _ _ _ _ (by assumption), *]; done) | ((try rw [goesOn_next]); refine (foldl_pending _ _ _ ?_).trans ?_ <;> (first | (intro s a; (repeat' split) <;> simp; done) | simp; done)) | rfl)
@[simp] theorem State.closedNow_pending (s : State) (r : Fin 2) : (State.closedNow s r).pending = s.pending := by
  first
  | (simp [State.closedNow, goesOn_ite, apply_ite State.pending, apply_dite State.pending]; done)
  | (unfold State.closedNow; (try dsimp only); (repeat' split) <;> first | (simp [apply_ite State.pending, apply_dite State.pending, *]; done) | (simp [State.offer_pending _ _ _ _ (by assumption), *]; done) | (simp [State.take_pending _ _ _ _ (by assumption), *]; done) | ((try rw [goesOn_next]); refine (foldl_pending _ _ _ ?_).trans ?_ <;> (first | (intro s a; (repeat' split) <;> simp; done) | simp; done)) | rfl)
@[simp] theorem State.noteLoop_pending (s : State) (r : Fin 2) (onS : Bool) (f : RFrame) : (State.noteLoop s r onS f).pending = s.pending := by
  first
  | (simp [State.noteLoop, goesOn_ite, apply_ite State.pending, apply_dite State.pending]; done)
  | (unfold State.noteLoop; (try dsimp only); (repeat' split) <;> first | (simp [apply_ite State.pending, apply_dite State.pending, *]; done) | (simp [State.offer_pending _ _ _ _ (by assumption), *]; done) | (simp [State.take_pending _ _ _ _ (by assumption), *]; done) | ((try rw [goesOn_next]); refine (foldl_pending _ _ _ ?_).trans ?_ <;> (first | (intro s a; (repeat' split) <;> simp; done) | simp; done)) | rfl)
@[simp] theorem State.putCopy_pending (s : State) (r : Fin 2) (onS : Bool) (k : RCopy) : (State.putCopy s r onS k).pending = s.pending := by
  first
  | (simp [State.putCopy, goesOn_ite, apply_ite State.pending, apply_dite State.pending]; done)
  | (unfold State.putCopy; (try dsimp only); (repeat' split) <;> first | (simp [apply_ite State.pending, apply_dite State.pending, *]; done) | (simp [State.offer_pending _ _ _ _ (by assumption), *]; done) | (simp [State.take_pending _ _ _ _ (by assumption), *]; done) | ((try rw [goesOn_next]); refine (foldl_pending _ _ _ ?_).trans ?_ <;> (first | (intro s a; (repeat' split) <;> simp; done) | simp; done)) | rfl)
@[simp] theorem State.finishIfBack_pending (s : State) (r : Fin 2) : (State.finishIfBack s r).pending = s.pending := by
  first
  | (simp [State.finishIfBack, goesOn_ite, apply_ite State.pending, apply_dite State.pending]; done)
  | (unfold State.finishIfBack; (try dsimp only); (repeat' split) <;> first | (simp [apply_ite State.pending, apply_dite State.pending, *]; done) | (simp [State.offer_pending _ _ _ _ (by assumption), *]; done) | (simp [State.take_pending _ _ _ _ (by assumption), *]; done) | ((try rw [goesOn_next]); refine (foldl_pending _ _ _ ?_).trans ?_ <;> (first | (intro s a; (repeat' split) <;> simp; done) | simp; done)) | rfl)
@[simp] theorem State.keepRtt_pending (s : State) (r : Fin 2) (onS : Bool) (mode : Nat) (rtt : Nat) : (State.keepRtt s r onS mode rtt).pending = s.pending := by
  first
  | (simp [State.keepRtt, goesOn_ite, apply_ite State.pending, apply_dite State.pending]; done)
  | (unfold State.keepRtt; (try dsimp only); (repeat' split) <;> first | (simp [apply_ite State.pending, apply_dite State.pending, *]; done) | (simp [State.offer_pending _ _ _ _ (by assumption), *]; done) | (simp [State.take_pending _ _ _ _ (by assumption), *]; done) | ((try rw [goesOn_next]); refine (foldl_pending _ _ _ ?_).trans ?_ <;> (first | (intro s a; (repeat' split) <;> simp; done) | simp; done)) | rfl)
@[simp] theorem State.takeSegments_pending (s : State) (r : Fin 2) (segs : List RSeg) (ownP : Bool) (area : List Byte) : (State.takeSegments s r segs ownP area).pending = s.pending := by
  first
  | (simp [State.takeSegments, goesOn_ite, apply_ite State.pending, apply_dite State.pending]; done)
  | (unfold State.takeSegments; (try dsimp only); (repeat' split) <;> first | (simp [apply_ite State.pending, apply_dite State.pending, *]; done) | (simp [State.offer_pending _ _ _ _ (by assumption), *]; done) | (simp [State.take_pending _ _ _ _ (by assumption), *]; done) | ((try rw [goesOn_next]); refine (foldl_pending _ _ _ ?_).trans ?_ <;> (first | (intro s a; (repeat' split) <;> simp; done) | simp; done)) | rfl)
@[simp] theorem State.noteFcs_pending (s : State) (r : Fin 2) (fcs : Bool) : (State.noteFcs s r fcs).pending = s.pending := by
  first
  | (simp [State.noteFcs, goesOn_ite, apply_ite State.pending, apply_dite State.pending]; done)
  | (unfold State.noteFcs; (try dsimp only); (repeat' split) <;> first | (simp [apply_ite State.pending, apply_dite State.pending, *]; done) | (simp [State.offer_pending _ _ _ _ (by assumption), *]; done) | (simp [State.take_pending _ _ _ _ (by assumption), *]; done) | ((try rw [goesOn_next]); refine (foldl_pending _ _ _ ?_).trans ?_ <;> (first | (intro s a; (repeat' split) <;> simp; done) | simp; done)) | rfl)
@[simp] theorem State.returned_pending (s : State) (r : Fin 2) (onS : Bool) (f : RFrame) (rtt : Nat) : (State.returned s r onS f rtt).pending = s.pending := by
  first
  | (simp [State.returned, goesOn_ite, apply_ite State.pending, apply_dite State.pending]; done)
  | (unfold State.returned; (try dsimp only); (repeat' split) <;> first | (simp [apply_ite State.pending, apply_dite State.pending, *]; done) | (simp [State.offer_pending _ _ _ _ (by assumption), *]; done) | (simp [State.take_pending _ _ _ _ (by assumption), *]; done) | ((try rw [goesOn_next]); refine (foldl_pending _ _ _ ?_).trans ?_ <;> (first | (intro s a; (repeat' split) <;> simp; done) | simp; done)) | rfl)
@[simp] theorem State.sendSvc_pending (s : State) (r : Fin 2) (ms : List (Nat × Nat × List Byte)) : (State.sendSvc s r ms).pending = s.pending := by
  first
  | (simp [State.sendSvc, goesOn_ite, apply_ite State.pending, apply_dite State.pending]; done)
  | (unfold State.sendSvc; (try dsimp only); (repeat' split) <;> first | (simp [apply_ite State.pending, apply_dite State.pending, *]; done) | (simp [State.offer_pending _ _ _ _ (by assumption), *]; done) | (simp [State.take_pending _ _ _ _ (by assumption), *]; done) | ((try rw [goesOn_next]); refine (foldl_pending _ _ _ ?_).trans ?_ <;> (first | (intro s a; (repeat' split) <;> simp; done) | simp; done)) | rfl)
@[simp] theorem State.sendLayouts_pending (s : State) (r : Fin 2) (d : RingDef) (sid : Nat) (wide : Bool) : (State.sendLayouts s r d sid wide).pending = s.pending := by
  first
  | (simp [State.sendLayouts, goesOn_ite, apply_ite State.pending, apply_dite State.pending]; done)
  | (unfold State.sendLayouts; (try dsimp only); (repeat' split) <;> first | (simp [apply_ite State.pending, apply_dite State.pending, *]; done) | (simp [State.offer_pending _ _ _ _ (by assumption), *]; done) | (simp [State.take_pending _ _ _ _ (by assumption), *]; done) | ((try rw [goesOn_next]); refine (foldl_pending _ _ _ ?_).trans ?_ <;> (first | (intro s a; (repeat' split) <;> simp; done) | simp; done)) | rfl)
@[simp] theorem State.startClose_pending (s : State) (r : Fin 2) : (State.startClose s r).pending = s.pending := by
  first
  | (simp [State.startClose, goesOn_ite, apply_ite State.pending, apply_dite State.pending]; done)
  | (unfold State.startClose; (try dsimp only); (repeat' split) <;> first | (simp [apply_ite State.pending, apply_dite State.pending, *]; done) | (simp [State.offer_pending _ _ _ _ (by assumption), *]; done) | (simp [State.take_pending _ _ _ _ (by assumption), *]; done) | ((try rw [goesOn_next]); refine (foldl_pending _ _ _ ?_).trans ?_ <;> (first | (intro s a; (repeat' split) <;> simp; done) | simp; done)) | rfl)
@[simp] theorem State.sawEpoch_pending (s : State) (r : Fin 2) (e : Nat) : (State.sawEpoch s r e).pending = s.pending := by
  first
  | (simp [State.sawEpoch, goesOn_ite, apply_ite State.pending, apply_dite State.pending]; done)
  | (unfold State.sawEpoch; (try dsimp only); (repeat' split) <;> first | (simp [apply_ite State.pending, apply_dite State.pending, *]; done) | (simp [State.offer_pending _ _ _ _ (by assumption), *]; done) | (simp [State.take_pending _ _ _ _ (by assumption), *]; done) | ((try rw [goesOn_next]); refine (foldl_pending _ _ _ ?_).trans ?_ <;> (first | (intro s a; (repeat' split) <;> simp; done) | simp; done)) | rfl)
@[simp] theorem State.enterClaim_pending (s : State) (r : Fin 2) (prio : Nat) : (State.enterClaim s r prio).pending = s.pending := by
  first
  | (simp [State.enterClaim, goesOn_ite, apply_ite State.pending, apply_dite State.pending]; done)
  | (unfold State.enterClaim; (try dsimp only); (repeat' split) <;> first | (simp [apply_ite State.pending, apply_dite State.pending, *]; done) | (simp [State.offer_pending _ _ _ _ (by assumption), *]; done) | (simp [State.take_pending _ _ _ _ (by assumption), *]; done) | ((try rw [goesOn_next]); refine (foldl_pending _ _ _ ?_).trans ?_ <;> (first | (intro s a; (repeat' split) <;> simp; done) | simp; done)) | rfl)
@[simp] theorem State.claimFromLoad_pending (s : State) (r : Fin 2) : (State.claimFromLoad s r).pending = s.pending := by
  first
  | (simp [State.claimFromLoad, goesOn_ite, apply_ite State.pending, apply_dite State.pending]; done)
  | (unfold State.claimFromLoad; (try dsimp only); (repeat' split) <;> first | (simp [apply_ite State.pending, apply_dite State.pending, *]; done) | (simp [State.offer_pending _ _ _ _ (by assumption), *]; done) | (simp [State.take_pending _ _ _ _ (by assumption), *]; done) | ((try rw [goesOn_next]); refine (foldl_pending _ _ _ ?_).trans ?_ <;> (first | (intro s a; (repeat' split) <;> simp; done) | simp; done)) | rfl)
@[simp] theorem State.silence_pending (s : State) (r : Fin 2) : (State.silence s r).pending = s.pending := by
  first
  | (simp [State.silence, goesOn_ite, apply_ite State.pending, apply_dite State.pending]; done)
  | (unfold State.silence; (try dsimp only); (repeat' split) <;> first | (simp [apply_ite State.pending, apply_dite State.pending, *]; done) | (simp [State.offer_pending _ _ _ _ (by assumption), *]; done) | (simp [State.take_pending _ _ _ _ (by assumption), *]; done) | ((try rw [goesOn_next]); refine (foldl_pending _ _ _ ?_).trans ?_ <;> (first | (intro s a; (repeat' split) <;> simp; done) | simp; done)) | rfl)
@[simp] theorem State.claimLost_pending (s : State) (r : Fin 2) (f : RFrame) : (State.claimLost s r f).pending = s.pending := by
  first
  | (simp [State.claimLost, goesOn_ite, apply_ite State.pending, apply_dite State.pending]; done)
  | (unfold State.claimLost; (try dsimp only); (repeat' split) <;> first | (simp [apply_ite State.pending, apply_dite State.pending, *]; done) | (simp [State.offer_pending _ _ _ _ (by assumption), *]; done) | (simp [State.take_pending _ _ _ _ (by assumption), *]; done) | ((try rw [goesOn_next]); refine (foldl_pending _ _ _ ?_).trans ?_ <;> (first | (intro s a; (repeat' split) <;> simp; done) | simp; done)) | rfl)
@[simp] theorem State.noteMaster_pending (s : State) (r : Fin 2) (f : RFrame) : (State.noteMaster s r f).pending = s.pending := by
  first
  | (simp [State.noteMaster, goesOn_ite, apply_ite State.pending, apply_dite State.pending]; done)
  | (unfold State.noteMaster; (try dsimp only); (repeat' split) <;> first | (simp [apply_ite State.pending, apply_dite State.pending, *]; done) | (simp [State.offer_pending _ _ _ _ (by assumption), *]; done) | (simp [State.take_pending _ _ _ _ (by assumption), *]; done) | ((try rw [goesOn_next]); refine (foldl_pending _ _ _ ?_).trans ?_ <;> (first | (intro s a; (repeat' split) <;> simp; done) | simp; done)) | rfl)
@[simp] theorem State.followRing_pending (s : State) (r : Fin 2) (f : RFrame) (delta : Int) : (State.followRing s r f delta).pending = s.pending := by
  first
  | (simp [State.followRing, goesOn_ite, apply_ite State.pending, apply_dite State.pending]; done)
  | (unfold State.followRing; (try dsimp only); (repeat' split) <;> first | (simp [apply_ite State.pending, apply_dite State.pending, *]; done) | (simp [State.offer_pending _ _ _ _ (by assumption), *]; done) | (simp [State.take_pending _ _ _ _ (by assumption), *]; done) | ((try rw [goesOn_next]); refine (foldl_pending _ _ _ ?_).trans ?_ <;> (first | (intro s a; (repeat' split) <;> simp; done) | simp; done)) | rfl)
@[simp] theorem State.ringAlign_pending (s : State) (r : Fin 2) : (State.ringAlign s r).pending = s.pending := by
  first
  | (simp [State.ringAlign, goesOn_ite, apply_ite State.pending, apply_dite State.pending]; done)
  | (unfold State.ringAlign; (try dsimp only); (repeat' split) <;> first | (simp [apply_ite State.pending, apply_dite State.pending, *]; done) | (simp [State.offer_pending _ _ _ _ (by assumption), *]; done) | (simp [State.take_pending _ _ _ _ (by assumption), *]; done) | ((try rw [goesOn_next]); refine (foldl_pending _ _ _ ?_).trans ?_ <;> (first | (intro s a; (repeat' split) <;> simp; done) | simp; done)) | rfl)
@[simp] theorem execStagingClose_goesOn (r : Fin 2) (t : Nat) (s : State) : goesOn s (execStagingClose r t s) := by
  first
  | (simp [execStagingClose, goesOn_ite, apply_ite State.pending, apply_dite State.pending]; done)
  | (unfold execStagingClose; (try dsimp only); (repeat' split) <;> first | (simp [apply_ite State.pending, apply_dite State.pending, *]; done) | (simp [State.offer_pending _ _ _ _ (by assumption), *]; done) | (simp [State.take_pending _ _ _ _ (by assumption), *]; done) | ((try rw [goesOn_next]); refine (foldl_pending _ _ _ ?_).trans ?_ <;> (first | (intro s a; (repeat' split) <;> simp; done) | simp; done)) | rfl)
@[simp] theorem execRingFrameReturn_goesOn (r : Fin 2) (onS : Bool) (far : Bool) (f : RFrame) (rtt : Nat) (t : Nat) (s : State) : goesOn s (execRingFrameReturn r onS far f rtt t s) := by
  first
  | (simp [execRingFrameReturn, goesOn_ite, apply_ite State.pending, apply_dite State.pending]; done)
  | (unfold execRingFrameReturn; (try dsimp only); (repeat' split) <;> first | (simp [apply_ite State.pending, apply_dite State.pending, *]; done) | (simp [State.offer_pending _ _ _ _ (by assumption), *]; done) | (simp [State.take_pending _ _ _ _ (by assumption), *]; done) | ((try rw [goesOn_next]); refine (foldl_pending _ _ _ ?_).trans ?_ <;> (first | (intro s a; (repeat' split) <;> simp; done) | simp; done)) | rfl)
@[simp] theorem execKrNodeSilt_goesOn (r : Fin 2) (n : Nat) (s : State) : goesOn s (execKrNodeSilt r n s) := by
  first
  | (simp [execKrNodeSilt, goesOn_ite, apply_ite State.pending, apply_dite State.pending]; done)
  | (unfold execKrNodeSilt; (try dsimp only); (repeat' split) <;> first | (simp [apply_ite State.pending, apply_dite State.pending, *]; done) | (simp [State.offer_pending _ _ _ _ (by assumption), *]; done) | (simp [State.take_pending _ _ _ _ (by assumption), *]; done) | ((try rw [goesOn_next]); refine (foldl_pending _ _ _ ?_).trans ?_ <;> (first | (intro s a; (repeat' split) <;> simp; done) | simp; done)) | rfl)
@[simp] theorem execForeignFrame_goesOn (r : Fin 2) (s : State) : goesOn s (execForeignFrame r s) := by
  first
  | (simp [execForeignFrame, goesOn_ite, apply_ite State.pending, apply_dite State.pending]; done)
  | (unfold execForeignFrame; (try dsimp only); (repeat' split) <;> first | (simp [apply_ite State.pending, apply_dite State.pending, *]; done) | (simp [State.offer_pending _ _ _ _ (by assumption), *]; done) | (simp [State.take_pending _ _ _ _ (by assumption), *]; done) | ((try rw [goesOn_next]); refine (foldl_pending _ _ _ ?_).trans ?_ <;> (first | (intro s a; (repeat' split) <;> simp; done) | simp; done)) | rfl)
@[simp] theorem execIdent_goesOn (r : Fin 2) (n : Nat) (data : List Byte) (s : State) : goesOn s (execIdent r n data s) := by
  first
  | (simp [execIdent, goesOn_ite, apply_ite State.pending, apply_dite State.pending]; done)
  | (unfold execIdent; (try dsimp only); (repeat' split) <;> first | (simp [apply_ite State.pending, apply_dite State.pending, *]; done) | (simp [State.offer_pending _ _ _ _ (by assumption), *]; done) | (simp [State.take_pending _ _ _ _ (by assumption), *]; done) | ((try rw [goesOn_next]); refine (foldl_pending _ _ _ ?_).trans ?_ <;> (first | (intro s a; (repeat' split) <;> simp; done) | simp; done)) | rfl)
@[simp] theorem execLayoutAck_goesOn (r : Fin 2) (n : Nat) (sid : Nat) (s : State) : goesOn s (execLayoutAck r n sid s) := by
  first
  | (simp [execLayoutAck, goesOn_ite, apply_ite State.pending, apply_dite State.pending]; done)
  | (unfold execLayoutAck; (try dsimp only); (repeat' split) <;> first | (simp [apply_ite State.pending, apply_dite State.pending, *]; done) | (simp [State.offer_pending _ _ _ _ (by assumption), *]; done) | (simp [State.take_pending _ _ _ _ (by assumption), *]; done) | ((try rw [goesOn_next]); refine (foldl_pending _ _ _ ?_).trans ?_ <;> (first | (intro s a; (repeat' split) <;> simp; done) | simp; done)) | rfl)
@[simp] theorem execLink_goesOn (r : Fin 2) (n : Nat) (p : Bool) (q : Bool) (loop : Bool) (t : Nat) (s : State) : goesOn s (execLink r n p q loop t s) := by
  first
  | (simp [execLink, goesOn_ite, apply_ite State.pending, apply_dite State.pending]; done)
  | (unfold execLink; (try dsimp only); (repeat' split) <;> first | (simp [apply_ite State.pending, apply_dite State.pending, *]; done) | (simp [State.offer_pending _ _ _ _ (by assumption), *]; done) | (simp [State.take_pending _ _ _ _ (by assumption), *]; done) | ((try rw [goesOn_next]); refine (foldl_pending _ _ _ ?_).trans ?_ <;> (first | (intro s a; (repeat' split) <;> simp; done) | simp; done)) | rfl)
@[simp] theorem execSvcHandlerMessage_goesOn (r : Fin 2) (m : SvcMsg) (s : State) : goesOn s (execSvcHandlerMessage r m s) := by
  first
  | (simp [execSvcHandlerMessage, goesOn_ite, apply_ite State.pending, apply_dite State.pending]; done)
  | (unfold execSvcHandlerMessage; (try dsimp only); (repeat' split) <;> first | (simp [apply_ite State.pending, apply_dite State.pending, *]; done) | (simp [State.offer_pending _ _ _ _ (by assumption), *]; done) | (simp [State.take_pending _ _ _ _ (by assumption), *]; done) | ((try rw [goesOn_next]); refine (foldl_pending _ _ _ ?_).trans ?_ <;> (first | (intro s a; (repeat' split) <;> simp; done) | simp; done)) | rfl)
@[simp] theorem execClaimSend_goesOn (r : Fin 2) (t : Nat) (s : State) : goesOn s (execClaimSend r t s) := by
  first
  | (simp [execClaimSend, goesOn_ite, apply_ite State.pending, apply_dite State.pending]; done)
  | (unfold execClaimSend; (try dsimp only); (repeat' split) <;> first | (simp [apply_ite State.pending, apply_dite State.pending, *]; done) | (simp [State.offer_pending _ _ _ _ (by assumption), *]; done) | (simp [State.take_pending _ _ _ _ (by assumption), *]; done) | ((try rw [goesOn_next]); refine (foldl_pending _ _ _ ?_).trans ?_ <;> (first | (intro s a; (repeat' split) <;> simp; done) | simp; done)) | rfl)
@[simp] theorem execClaimReturn_goesOn (r : Fin 2) (opposite : Bool) (s : State) : goesOn s (execClaimReturn r opposite s) := by
  first
  | (simp [execClaimReturn, goesOn_ite, apply_ite State.pending, apply_dite State.pending]; done)
  | (unfold execClaimReturn; (try dsimp only); (repeat' split) <;> first | (simp [apply_ite State.pending, apply_dite State.pending, *]; done) | (simp [State.offer_pending _ _ _ _ (by assumption), *]; done) | (simp [State.take_pending _ _ _ _ (by assumption), *]; done) | ((try rw [goesOn_next]); refine (foldl_pending _ _ _ ?_).trans ?_ <;> (first | (intro s a; (repeat' split) <;> simp; done) | simp; done)) | rfl)
@[simp] theorem execClaimWin_goesOn (r : Fin 2) (t : Nat) (s : State) : goesOn s (execClaimWin r t s) := by
  first
  | (simp [execClaimWin, goesOn_ite, apply_ite State.pending, apply_dite State.pending]; done)
  | (unfold execClaimWin; (try dsimp only); (repeat' split) <;> first | (simp [apply_ite State.pending, apply_dite State.pending, *]; done) | (simp [State.offer_pending _ _ _ _ (by assumption), *]; done) | (simp [State.take_pending _ _ _ _ (by assumption), *]; done) | ((try rw [goesOn_next]); refine (foldl_pending _ _ _ ?_).trans ?_ <;> (first | (intro s a; (repeat' split) <;> simp; done) | simp; done)) | rfl)
@[simp] theorem execHigherStandingFrame_goesOn (r : Fin 2) (onS : Bool) (f : RFrame) (s : State) : goesOn s (execHigherStandingFrame r onS f s) := by
  first
  | (simp [execHigherStandingFrame, goesOn_ite, apply_ite State.pending, apply_dite State.pending]; done)
  | (unfold execHigherStandingFrame; (try dsimp only); (repeat' split) <;> first | (simp [apply_ite State.pending, apply_dite State.pending, *]; done) | (simp [State.offer_pending _ _ _ _ (by assumption), *]; done) | (simp [State.take_pending _ _ _ _ (by assumption), *]; done) | ((try rw [goesOn_next]); refine (foldl_pending _ _ _ ?_).trans ?_ <;> (first | (intro s a; (repeat' split) <;> simp; done) | simp; done)) | rfl)
@[simp] theorem execRingSilenced_goesOn (r : Fin 2) (s : State) : goesOn s (execRingSilenced r s) := by
  first
  | (simp [execRingSilenced, goesOn_ite, apply_ite State.pending, apply_dite State.pending]; done)
  | (unfold execRingSilenced; (try dsimp only); (repeat' split) <;> first | (simp [apply_ite State.pending, apply_dite State.pending, *]; done) | (simp [State.offer_pending _ _ _ _ (by assumption), *]; done) | (simp [State.take_pending _ _ _ _ (by assumption), *]; done) | ((try rw [goesOn_next]); refine (foldl_pending _ _ _ ?_).trans ?_ <;> (first | (intro s a; (repeat' split) <;> simp; done) | simp; done)) | rfl)
@[simp] theorem execCloseReady_goesOn (r : Fin 2) (t : Nat) (s : State) : goesOn s (execCloseReady r t s) := by
  first
  | (simp [execCloseReady, goesOn_ite, apply_ite State.pending, apply_dite State.pending]; done)
  | (unfold execCloseReady; (try dsimp only); (repeat' split) <;> first | (simp [apply_ite State.pending, apply_dite State.pending, *]; done) | (simp [State.offer_pending _ _ _ _ (by assumption), *]; done) | (simp [State.take_pending _ _ _ _ (by assumption), *]; done) | ((try rw [goesOn_next]); refine (foldl_pending _ _ _ ?_).trans ?_ <;> (first | (intro s a; (repeat' split) <;> simp; done) | simp; done)) | rfl)
@[simp] theorem execKrClose_goesOn (r : Fin 2) (key : Nat) (s : State) : goesOn s (execKrClose r key s) := by
  first
  | (simp [execKrClose, goesOn_ite, apply_ite State.pending, apply_dite State.pending]; done)
  | (unfold execKrClose; (try dsimp only); (repeat' split) <;> first | (simp [apply_ite State.pending, apply_dite State.pending, *]; done) | (simp [State.offer_pending _ _ _ _ (by assumption), *]; done) | (simp [State.take_pending _ _ _ _ (by assumption), *]; done) | ((try rw [goesOn_next]); refine (foldl_pending _ _ _ ?_).trans ?_ <;> (first | (intro s a; (repeat' split) <;> simp; done) | simp; done)) | rfl)

end Sys2Proof.Machine
end

