-- ==== Sys2Proof/Laws/QueueFio.lean ====
section
/-! SUPPORT. The operations of Machine/Fio.lean leave the queue of waiting commands alone. -/

namespace Sys2Proof.Machine

@[simp] theorem State.modFio_pending (s : State) (g : FioState → FioState) : (State.modFio s g).pending = s.pending := by
  first
  | (simp [State.modFio, goesOn_ite, apply_ite State.pending, apply_dite State.pending]; done)
  | (unfold State.modFio; (try dsimp only); (repeat' split) <;> first | (simp [apply_ite State.pending, apply_dite State.pending, *]; done) | (simp [State.offer_pending _ _ _ _ (by assumption), *]; done) | (simp [State.take_pending _ _ _ _ (by assumption), *]; done) | ((try rw [goesOn_next]); refine (foldl_pending _ _ _ ?_).trans ?_ <;> (first | (intro s a; (repeat' split) <;> simp; done) | simp; done)) | rfl)
@[simp] theorem State.modFioDie_pending (s : State) (d : Fin 2) (g : FioDie → FioDie) : (State.modFioDie s d g).pending = s.pending := by
  first
  | (simp [State.modFioDie, goesOn_ite, apply_ite State.pending, apply_dite State.pending]; done)
  | (unfold State.modFioDie; (try dsimp only); (repeat' split) <;> first | (simp [apply_ite State.pending, apply_dite State.pending, *]; done) | (simp [State.offer_pending _ _ _ _ (by assumption), *]; done) | (simp [State.take_pending _ _ _ _ (by assumption), *]; done) | ((try rw [goesOn_next]); refine (foldl_pending _ _ _ ?_).trans ?_ <;> (first | (intro s a; (repeat' split) <;> simp; done) | simp; done)) | rfl)
@[simp] theorem State.keepFaultLevels_pending (s : State) : (State.keepFaultLevels s).pending = s.pending := by
  first
  | (simp [State.keepFaultLevels, goesOn_ite, apply_ite State.pending, apply_dite State.pending]; done)
  | (unfold State.keepFaultLevels; (try dsimp only); (repeat' split) <;> first | (simp [apply_ite State.pending, apply_dite State.pending, *]; done) | (simp [State.offer_pending _ _ _ _ (by assumption), *]; done) | (simp [State.take_pending _ _ _ _ (by assumption), *]; done) | ((try rw [goesOn_next]); refine (foldl_pending _ _ _ ?_).trans ?_ <;> (first | (intro s a; (repeat' split) <;> simp; done) | simp; done)) | rfl)
@[simp] theorem State.outInit_pending (s : State) : (State.outInit s).pending = s.pending := by
  first
  | (simp [State.outInit, goesOn_ite, apply_ite State.pending, apply_dite State.pending]; done)
  | (unfold State.outInit; (try dsimp only); (repeat' split) <;> first | (simp [apply_ite State.pending, apply_dite State.pending, *]; done) | (simp [State.offer_pending _ _ _ _ (by assumption), *]; done) | (simp [State.take_pending _ _ _ _ (by assumption), *]; done) | ((try rw [goesOn_next]); refine (foldl_pending _ _ _ ?_).trans ?_ <;> (first | (intro s a; (repeat' split) <;> simp; done) | simp; done)) | rfl)
@[simp] theorem State.syncFmode_pending (s : State) : (State.syncFmode s).pending = s.pending := by
  first
  | (simp [State.syncFmode, goesOn_ite, apply_ite State.pending, apply_dite State.pending]; done)
  | (unfold State.syncFmode; (try dsimp only); (repeat' split) <;> first | (simp [apply_ite State.pending, apply_dite State.pending, *]; done) | (simp [State.offer_pending _ _ _ _ (by assumption), *]; done) | (simp [State.take_pending _ _ _ _ (by assumption), *]; done) | ((try rw [goesOn_next]); refine (foldl_pending _ _ _ ?_).trans ?_ <;> (first | (intro s a; (repeat' split) <;> simp; done) | simp; done)) | rfl)
@[simp] theorem State.zeroFilters_pending (s : State) : (State.zeroFilters s).pending = s.pending := by
  first
  | (simp [State.zeroFilters, goesOn_ite, apply_ite State.pending, apply_dite State.pending]; done)
  | (unfold State.zeroFilters; (try dsimp only); (repeat' split) <;> first | (simp [apply_ite State.pending, apply_dite State.pending, *]; done) | (simp [State.offer_pending _ _ _ _ (by assumption), *]; done) | (simp [State.take_pending _ _ _ _ (by assumption), *]; done) | ((try rw [goesOn_next]); refine (foldl_pending _ _ _ ?_).trans ?_ <;> (first | (intro s a; (repeat' split) <;> simp; done) | simp; done)) | rfl)
@[simp] theorem State.showInputs_pending (s : State) : (State.showInputs s).pending = s.pending := by
  first
  | (simp [State.showInputs, goesOn_ite, apply_ite State.pending, apply_dite State.pending]; done)
  | (unfold State.showInputs; (try dsimp only); (repeat' split) <;> first | (simp [apply_ite State.pending, apply_dite State.pending, *]; done) | (simp [State.offer_pending _ _ _ _ (by assumption), *]; done) | (simp [State.take_pending _ _ _ _ (by assumption), *]; done) | ((try rw [goesOn_next]); refine (foldl_pending _ _ _ ?_).trans ?_ <;> (first | (intro s a; (repeat' split) <;> simp; done) | simp; done)) | rfl)
@[simp] theorem State.syncValid_pending (s : State) : (State.syncValid s).pending = s.pending := by
  first
  | (simp [State.syncValid, goesOn_ite, apply_ite State.pending, apply_dite State.pending]; done)
  | (unfold State.syncValid; (try dsimp only); (repeat' split) <;> first | (simp [apply_ite State.pending, apply_dite State.pending, *]; done) | (simp [State.offer_pending _ _ _ _ (by assumption), *]; done) | (simp [State.take_pending _ _ _ _ (by assumption), *]; done) | ((try rw [goesOn_next]); refine (foldl_pending _ _ _ ?_).trans ?_ <;> (first | (intro s a; (repeat' split) <;> simp; done) | simp; done)) | rfl)
@[simp] theorem State.takeInput_pending (s : State) (i : Fin 64) (raw : Bool) (was : Bool) : (State.takeInput s i raw was).pending = s.pending := by
  first
  | (simp [State.takeInput, goesOn_ite, apply_ite State.pending, apply_dite State.pending]; done)
  | (unfold State.takeInput; (try dsimp only); (repeat' split) <;> first | (simp [apply_ite State.pending, apply_dite State.pending, *]; done) | (simp [State.offer_pending _ _ _ _ (by assumption), *]; done) | (simp [State.take_pending _ _ _ _ (by assumption), *]; done) | ((try rw [goesOn_next]); refine (foldl_pending _ _ _ ?_).trans ?_ <;> (first | (intro s a; (repeat' split) <;> simp; done) | simp; done)) | rfl)
@[simp] theorem State.takeVf_pending (s : State) (d : Fin 2) (mv : Nat) : (State.takeVf s d mv).pending = s.pending := by
  first
  | (simp [State.takeVf, goesOn_ite, apply_ite State.pending, apply_dite State.pending]; done)
  | (unfold State.takeVf; (try dsimp only); (repeat' split) <;> first | (simp [apply_ite State.pending, apply_dite State.pending, *]; done) | (simp [State.offer_pending _ _ _ _ (by assumption), *]; done) | (simp [State.take_pending _ _ _ _ (by assumption), *]; done) | ((try rw [goesOn_next]); refine (foldl_pending _ _ _ ?_).trans ?_ <;> (first | (intro s a; (repeat' split) <;> simp; done) | simp; done)) | rfl)
@[simp] theorem State.vfChange_pending (s : State) (new : Nat) : (State.vfChange s new).pending = s.pending := by
  first
  | (simp [State.vfChange, goesOn_ite, apply_ite State.pending, apply_dite State.pending]; done)
  | (unfold State.vfChange; (try dsimp only); (repeat' split) <;> first | (simp [apply_ite State.pending, apply_dite State.pending, *]; done) | (simp [State.offer_pending _ _ _ _ (by assumption), *]; done) | (simp [State.take_pending _ _ _ _ (by assumption), *]; done) | ((try rw [goesOn_next]); refine (foldl_pending _ _ _ ?_).trans ?_ <;> (first | (intro s a; (repeat' split) <;> simp; done) | simp; done)) | rfl)
@[simp] theorem State.faultBit_pending (s : State) (on : Bool) : (State.faultBit s on).pending = s.pending := by
  first
  | (simp [State.faultBit, goesOn_ite, apply_ite State.pending, apply_dite State.pending]; done)
  | (unfold State.faultBit; (try dsimp only); (repeat' split) <;> first | (simp [apply_ite State.pending, apply_dite State.pending, *]; done) | (simp [State.offer_pending _ _ _ _ (by assumption), *]; done) | (simp [State.take_pending _ _ _ _ (by assumption), *]; done) | ((try rw [goesOn_next]); refine (foldl_pending _ _ _ ?_).trans ?_ <;> (first | (intro s a; (repeat' split) <;> simp; done) | simp; done)) | rfl)
@[simp] theorem State.infer_pending (s : State) (d : Fin 2) (tpm : Bool) : (State.infer s d tpm).pending = s.pending := by
  first
  | (simp [State.infer, goesOn_ite, apply_ite State.pending, apply_dite State.pending]; done)
  | (unfold State.infer; (try dsimp only); (repeat' split) <;> first | (simp [apply_ite State.pending, apply_dite State.pending, *]; done) | (simp [State.offer_pending _ _ _ _ (by assumption), *]; done) | (simp [State.take_pending _ _ _ _ (by assumption), *]; done) | ((try rw [goesOn_next]); refine (foldl_pending _ _ _ ?_).trans ?_ <;> (first | (intro s a; (repeat' split) <;> simp; done) | simp; done)) | rfl)
@[simp] theorem State.sendCfg_pending (s : State) (d : Fin 2) : (State.sendCfg s d).pending = s.pending := by
  first
  | (simp [State.sendCfg, goesOn_ite, apply_ite State.pending, apply_dite State.pending]; done)
  | (unfold State.sendCfg; (try dsimp only); (repeat' split) <;> first | (simp [apply_ite State.pending, apply_dite State.pending, *]; done) | (simp [State.offer_pending _ _ _ _ (by assumption), *]; done) | (simp [State.take_pending _ _ _ _ (by assumption), *]; done) | ((try rw [goesOn_next]); refine (foldl_pending _ _ _ ?_).trans ?_ <;> (first | (intro s a; (repeat' split) <;> simp; done) | simp; done)) | rfl)
@[simp] theorem State.noteFrame_pending (s : State) (d : Fin 2) (idx : Nat) (good : Bool) : (State.noteFrame s d idx good).pending = s.pending := by
  first
  | (simp [State.noteFrame, goesOn_ite, apply_ite State.pending, apply_dite State.pending]; done)
  | (unfold State.noteFrame; (try dsimp only); (repeat' split) <;> first | (simp [apply_ite State.pending, apply_dite State.pending, *]; done) | (simp [State.offer_pending _ _ _ _ (by assumption), *]; done) | (simp [State.take_pending _ _ _ _ (by assumption), *]; done) | ((try rw [goesOn_next]); refine (foldl_pending _ _ _ ?_).trans ?_ <;> (first | (intro s a; (repeat' split) <;> simp; done) | simp; done)) | rfl)
@[simp] theorem State.publishRot_pending (s : State) (d : Fin 2) : (State.publishRot s d).pending = s.pending := by
  first
  | (simp [State.publishRot, goesOn_ite, apply_ite State.pending, apply_dite State.pending]; done)
  | (unfold State.publishRot; (try dsimp only); (repeat' split) <;> first | (simp [apply_ite State.pending, apply_dite State.pending, *]; done) | (simp [State.offer_pending _ _ _ _ (by assumption), *]; done) | (simp [State.take_pending _ _ _ _ (by assumption), *]; done) | ((try rw [goesOn_next]); refine (foldl_pending _ _ _ ?_).trans ?_ <;> (first | (intro s a; (repeat' split) <;> simp; done) | simp; done)) | rfl)
@[simp] theorem State.takeRot_pending (s : State) (d : Fin 2) (idx : Nat) (word : Option Nat) : (State.takeRot s d idx word).pending = s.pending := by
  first
  | (simp [State.takeRot, goesOn_ite, apply_ite State.pending, apply_dite State.pending]; done)
  | (unfold State.takeRot; (try dsimp only); (repeat' split) <;> first | (simp [apply_ite State.pending, apply_dite State.pending, *]; done) | (simp [State.offer_pending _ _ _ _ (by assumption), *]; done) | (simp [State.take_pending _ _ _ _ (by assumption), *]; done) | ((try rw [goesOn_next]); refine (foldl_pending _ _ _ ?_).trans ?_ <;> (first | (intro s a; (repeat' split) <;> simp; done) | simp; done)) | rfl)
@[simp] theorem execBarrierRefreshTx_goesOn (d : Fin 2) (t : Nat) (s : State) : goesOn s (execBarrierRefreshTx d t s) := by
  first
  | (simp [execBarrierRefreshTx, goesOn_ite, apply_ite State.pending, apply_dite State.pending]; done)
  | (unfold execBarrierRefreshTx; (try dsimp only); (repeat' split) <;> first | (simp [apply_ite State.pending, apply_dite State.pending, *]; done) | (simp [State.offer_pending _ _ _ _ (by assumption), *]; done) | (simp [State.take_pending _ _ _ _ (by assumption), *]; done) | ((try rw [goesOn_next]); refine (foldl_pending _ _ _ ?_).trans ?_ <;> (first | (intro s a; (repeat' split) <;> simp; done) | simp; done)) | rfl)
@[simp] theorem execBarrierRefreshRx_goesOn (d : Fin 2) (good : Bool) (idx : Fin 8) (raw : Word) (rb : Nat) (tp : Nat) (ff : Bool) (rot : Nat) (t : Nat) (s : State) : goesOn s (execBarrierRefreshRx d good idx raw rb tp ff rot t s) := by
  first
  | (simp [execBarrierRefreshRx, goesOn_ite, apply_ite State.pending, apply_dite State.pending]; done)
  | (unfold execBarrierRefreshRx; (try dsimp only); (repeat' split) <;> first | (simp [apply_ite State.pending, apply_dite State.pending, *]; done) | (simp [State.offer_pending _ _ _ _ (by assumption), *]; done) | (simp [State.take_pending _ _ _ _ (by assumption), *]; done) | ((try rw [goesOn_next]); refine (foldl_pending _ _ _ ?_).trans ?_ <;> (first | (intro s a; (repeat' split) <;> simp; done) | simp; done)) | rfl)
@[simp] theorem execFieldBarrier_goesOn (d : Fin 2) (t : Nat) (s : State) : goesOn s (execFieldBarrier d t s) := by
  first
  | (simp [execFieldBarrier, goesOn_ite, apply_ite State.pending, apply_dite State.pending]; done)
  | (unfold execFieldBarrier; (try dsimp only); (repeat' split) <;> first | (simp [apply_ite State.pending, apply_dite State.pending, *]; done) | (simp [State.offer_pending _ _ _ _ (by assumption), *]; done) | (simp [State.take_pending _ _ _ _ (by assumption), *]; done) | ((try rw [goesOn_next]); refine (foldl_pending _ _ _ ?_).trans ?_ <;> (first | (intro s a; (repeat' split) <;> simp; done) | simp; done)) | rfl)
@[simp] theorem execVfLow_goesOn (mv : Nat) (s : State) : goesOn s (execVfLow mv s) := by
  first
  | (simp [execVfLow, goesOn_ite, apply_ite State.pending, apply_dite State.pending]; done)
  | (unfold execVfLow; (try dsimp only); (repeat' split) <;> first | (simp [apply_ite State.pending, apply_dite State.pending, *]; done) | (simp [State.offer_pending _ _ _ _ (by assumption), *]; done) | (simp [State.take_pending _ _ _ _ (by assumption), *]; done) | ((try rw [goesOn_next]); refine (foldl_pending _ _ _ ?_).trans ?_ <;> (first | (intro s a; (repeat' split) <;> simp; done) | simp; done)) | rfl)
@[simp] theorem execVfLowclr_goesOn (mv : Nat) (s : State) : goesOn s (execVfLowclr mv s) := by
  first
  | (simp [execVfLowclr, goesOn_ite, apply_ite State.pending, apply_dite State.pending]; done)
  | (unfold execVfLowclr; (try dsimp only); (repeat' split) <;> first | (simp [apply_ite State.pending, apply_dite State.pending, *]; done) | (simp [State.offer_pending _ _ _ _ (by assumption), *]; done) | (simp [State.take_pending _ _ _ _ (by assumption), *]; done) | ((try rw [goesOn_next]); refine (foldl_pending _ _ _ ?_).trans ?_ <;> (first | (intro s a; (repeat' split) <;> simp; done) | simp; done)) | rfl)
@[simp] theorem execVfOff_goesOn (mv : Nat) (s : State) : goesOn s (execVfOff mv s) := by
  first
  | (simp [execVfOff, goesOn_ite, apply_ite State.pending, apply_dite State.pending]; done)
  | (unfold execVfOff; (try dsimp only); (repeat' split) <;> first | (simp [apply_ite State.pending, apply_dite State.pending, *]; done) | (simp [State.offer_pending _ _ _ _ (by assumption), *]; done) | (simp [State.take_pending _ _ _ _ (by assumption), *]; done) | ((try rw [goesOn_next]); refine (foldl_pending _ _ _ ?_).trans ?_ <;> (first | (intro s a; (repeat' split) <;> simp; done) | simp; done)) | rfl)
@[simp] theorem execVfOn_goesOn (mv : Nat) (t : Nat) (s : State) : goesOn s (execVfOn mv t s) := by
  first
  | (simp [execVfOn, goesOn_ite, apply_ite State.pending, apply_dite State.pending]; done)
  | (unfold execVfOn; (try dsimp only); (repeat' split) <;> first | (simp [apply_ite State.pending, apply_dite State.pending, *]; done) | (simp [State.offer_pending _ _ _ _ (by assumption), *]; done) | (simp [State.take_pending _ _ _ _ (by assumption), *]; done) | ((try rw [goesOn_next]); refine (foldl_pending _ _ _ ?_).trans ?_ <;> (first | (intro s a; (repeat' split) <;> simp; done) | simp; done)) | rfl)
@[simp] theorem execRecoverEnd_goesOn (t : Nat) (s : State) : goesOn s (execRecoverEnd t s) := by
  first
  | (simp [execRecoverEnd, goesOn_ite, apply_ite State.pending, apply_dite State.pending]; done)
  | (unfold execRecoverEnd; (try dsimp only); (repeat' split) <;> first | (simp [apply_ite State.pending, apply_dite State.pending, *]; done) | (simp [State.offer_pending _ _ _ _ (by assumption), *]; done) | (simp [State.take_pending _ _ _ _ (by assumption), *]; done) | ((try rw [goesOn_next]); refine (foldl_pending _ _ _ ?_).trans ?_ <;> (first | (intro s a; (repeat' split) <;> simp; done) | simp; done)) | rfl)
@[simp] theorem execFioResume_goesOn (key : Nat) (s : State) : goesOn s (execFioResume key s) := by
  first
  | (simp [execFioResume, goesOn_ite, apply_ite State.pending, apply_dite State.pending]; done)
  | (unfold execFioResume; (try dsimp only); (repeat' split) <;> first | (simp [apply_ite State.pending, apply_dite State.pending, *]; done) | (simp [State.offer_pending _ _ _ _ (by assumption), *]; done) | (simp [State.take_pending _ _ _ _ (by assumption), *]; done) | ((try rw [goesOn_next]); refine (foldl_pending _ _ _ ?_).trans ?_ <;> (first | (intro s a; (repeat' split) <;> simp; done) | simp; done)) | rfl)
@[simp] theorem execFioTestWrite_goesOn (key : Nat) (test : Bool) (s : State) : goesOn s (execFioTestWrite key test s) := by
  first
  | (simp [execFioTestWrite, goesOn_ite, apply_ite State.pending, apply_dite State.pending]; done)
  | (unfold execFioTestWrite; (try dsimp only); (repeat' split) <;> first | (simp [apply_ite State.pending, apply_dite State.pending, *]; done) | (simp [State.offer_pending _ _ _ _ (by assumption), *]; done) | (simp [State.take_pending _ _ _ _ (by assumption), *]; done) | ((try rw [goesOn_next]); refine (foldl_pending _ _ _ ?_).trans ?_ <;> (first | (intro s a; (repeat' split) <;> simp; done) | simp; done)) | rfl)
@[simp] theorem execFioOutWrite_goesOn (reg : Fin 3) (value : Word) (s : State) : goesOn s (execFioOutWrite reg value s) := by
  first
  | (simp [execFioOutWrite, goesOn_ite, apply_ite State.pending, apply_dite State.pending]; done)
  | (unfold execFioOutWrite; (try dsimp only); (repeat' split) <;> first | (simp [apply_ite State.pending, apply_dite State.pending, *]; done) | (simp [State.offer_pending _ _ _ _ (by assumption), *]; done) | (simp [State.take_pending _ _ _ _ (by assumption), *]; done) | ((try rw [goesOn_next]); refine (foldl_pending _ _ _ ?_).trans ?_ <;> (first | (intro s a; (repeat' split) <;> simp; done) | simp; done)) | rfl)

end Sys2Proof.Machine
end

