-- ==== Sys2Proof/Laws/QueueFaults.lean ====
section
/-! SUPPORT. The operations of Machine/Faults.lean leave the queue of waiting commands alone. -/

namespace Sys2Proof.Machine

@[simp] theorem State.modFlt_pending (s : State) (g : FltState → FltState) : (State.modFlt s g).pending = s.pending := by
  first
  | (simp [State.modFlt, goesOn_ite, apply_ite State.pending, apply_dite State.pending]; done)
  | (unfold State.modFlt; (try dsimp only); (repeat' split) <;> first | (simp [apply_ite State.pending, apply_dite State.pending, *]; done) | (simp [State.offer_pending _ _ _ _ (by assumption), *]; done) | (simp [State.take_pending _ _ _ _ (by assumption), *]; done) | ((try rw [goesOn_next]); refine (foldl_pending _ _ _ ?_).trans ?_ <;> (first | (intro s a; (repeat' split) <;> simp; done) | simp; done)) | rfl)
@[simp] theorem State.superviseL1_pending (s : State) : (State.superviseL1 s).pending = s.pending := by
  first
  | (simp [State.superviseL1, goesOn_ite, apply_ite State.pending, apply_dite State.pending]; done)
  | (unfold State.superviseL1; (try dsimp only); (repeat' split) <;> first | (simp [apply_ite State.pending, apply_dite State.pending, *]; done) | (simp [State.offer_pending _ _ _ _ (by assumption), *]; done) | (simp [State.take_pending _ _ _ _ (by assumption), *]; done) | ((try rw [goesOn_next]); refine (foldl_pending _ _ _ ?_).trans ?_ <;> (first | (intro s a; (repeat' split) <;> simp; done) | simp; done)) | rfl)
@[simp] theorem State.faultDispatch_pending (s : State) (x : FltMsg) : (State.faultDispatch s x).pending = s.pending := by
  first
  | (simp [State.faultDispatch, goesOn_ite, apply_ite State.pending, apply_dite State.pending]; done)
  | (unfold State.faultDispatch; (try dsimp only); (repeat' split) <;> first | (simp [apply_ite State.pending, apply_dite State.pending, *]; done) | (simp [State.offer_pending _ _ _ _ (by assumption), *]; done) | (simp [State.take_pending _ _ _ _ (by assumption), *]; done) | ((try rw [goesOn_next]); refine (foldl_pending _ _ _ ?_).trans ?_ <;> (first | (intro s a; (repeat' split) <;> simp; done) | simp; done)) | rfl)
@[simp] theorem State.toFault_pending (s : State) (entry : Nat) : (State.toFault s entry).pending = s.pending := by
  first
  | (simp [State.toFault, goesOn_ite, apply_ite State.pending, apply_dite State.pending]; done)
  | (unfold State.toFault; (try dsimp only); (repeat' split) <;> first | (simp [apply_ite State.pending, apply_dite State.pending, *]; done) | (simp [State.offer_pending _ _ _ _ (by assumption), *]; done) | (simp [State.take_pending _ _ _ _ (by assumption), *]; done) | ((try rw [goesOn_next]); refine (foldl_pending _ _ _ ?_).trans ?_ <;> (first | (intro s a; (repeat' split) <;> simp; done) | simp; done)) | rfl)
@[simp] theorem State.holdAll_pending (s : State) (entry : Nat) : (State.holdAll s entry).pending = s.pending := by
  first
  | (simp [State.holdAll, goesOn_ite, apply_ite State.pending, apply_dite State.pending]; done)
  | (unfold State.holdAll; (try dsimp only); (repeat' split) <;> first | (simp [apply_ite State.pending, apply_dite State.pending, *]; done) | (simp [State.offer_pending _ _ _ _ (by assumption), *]; done) | (simp [State.take_pending _ _ _ _ (by assumption), *]; done) | ((try rw [goesOn_next]); refine (foldl_pending _ _ _ ?_).trans ?_ <;> (first | (intro s a; (repeat' split) <;> simp; done) | simp; done)) | rfl)
@[simp] theorem State.applyLevel_pending (s : State) (x : FltMsg) : (State.applyLevel s x).pending = s.pending := by
  first
  | (simp [State.applyLevel, goesOn_ite, apply_ite State.pending, apply_dite State.pending]; done)
  | (unfold State.applyLevel; (try dsimp only); (repeat' split) <;> first | (simp [apply_ite State.pending, apply_dite State.pending, *]; done) | (simp [State.offer_pending _ _ _ _ (by assumption), *]; done) | (simp [State.take_pending _ _ _ _ (by assumption), *]; done) | ((try rw [goesOn_next]); refine (foldl_pending _ _ _ ?_).trans ?_ <;> (first | (intro s a; (repeat' split) <;> simp; done) | simp; done)) | rfl)
@[simp] theorem State.notify_pending (s : State) (x : FltMsg) : (State.notify s x).pending = s.pending := by
  first
  | (simp [State.notify, goesOn_ite, apply_ite State.pending, apply_dite State.pending]; done)
  | (unfold State.notify; (try dsimp only); (repeat' split) <;> first | (simp [apply_ite State.pending, apply_dite State.pending, *]; done) | (simp [State.offer_pending _ _ _ _ (by assumption), *]; done) | (simp [State.take_pending _ _ _ _ (by assumption), *]; done) | ((try rw [goesOn_next]); refine (foldl_pending _ _ _ ?_).trans ?_ <;> (first | (intro s a; (repeat' split) <;> simp; done) | simp; done)) | rfl)
@[simp] theorem State.errOn_pending (s : State) (lvl : Nat) : (State.errOn s lvl).pending = s.pending := by
  first
  | (simp [State.errOn, goesOn_ite, apply_ite State.pending, apply_dite State.pending]; done)
  | (unfold State.errOn; (try dsimp only); (repeat' split) <;> first | (simp [apply_ite State.pending, apply_dite State.pending, *]; done) | (simp [State.offer_pending _ _ _ _ (by assumption), *]; done) | (simp [State.take_pending _ _ _ _ (by assumption), *]; done) | ((try rw [goesOn_next]); refine (foldl_pending _ _ _ ?_).trans ?_ <;> (first | (intro s a; (repeat' split) <;> simp; done) | simp; done)) | rfl)
@[simp] theorem State.acqFault_pending (s : State) (m : FaultMsg) (lvl : Nat) : (State.acqFault s m lvl).pending = s.pending := by
  first
  | (simp [State.acqFault, goesOn_ite, apply_ite State.pending, apply_dite State.pending]; done)
  | (unfold State.acqFault; (try dsimp only); (repeat' split) <;> first | (simp [apply_ite State.pending, apply_dite State.pending, *]; done) | (simp [State.offer_pending _ _ _ _ (by assumption), *]; done) | (simp [State.take_pending _ _ _ _ (by assumption), *]; done) | ((try rw [goesOn_next]); refine (foldl_pending _ _ _ ?_).trans ?_ <;> (first | (intro s a; (repeat' split) <;> simp; done) | simp; done)) | rfl)
@[simp] theorem State.takeFault_pending (s : State) (m : FaultMsg) : (State.takeFault s m).pending = s.pending := by
  first
  | (simp [State.takeFault, goesOn_ite, apply_ite State.pending, apply_dite State.pending]; done)
  | (unfold State.takeFault; (try dsimp only); (repeat' split) <;> first | (simp [apply_ite State.pending, apply_dite State.pending, *]; done) | (simp [State.offer_pending _ _ _ _ (by assumption), *]; done) | (simp [State.take_pending _ _ _ _ (by assumption), *]; done) | ((try rw [goesOn_next]); refine (foldl_pending _ _ _ ?_).trans ?_ <;> (first | (intro s a; (repeat' split) <;> simp; done) | simp; done)) | rfl)
@[simp] theorem State.logFault_pending (s : State) : (State.logFault s).pending = s.pending := by
  first
  | (simp [State.logFault, goesOn_ite, apply_ite State.pending, apply_dite State.pending]; done)
  | (unfold State.logFault; (try dsimp only); (repeat' split) <;> first | (simp [apply_ite State.pending, apply_dite State.pending, *]; done) | (simp [State.offer_pending _ _ _ _ (by assumption), *]; done) | (simp [State.take_pending _ _ _ _ (by assumption), *]; done) | ((try rw [goesOn_next]); refine (foldl_pending _ _ _ ?_).trans ?_ <;> (first | (intro s a; (repeat' split) <;> simp; done) | simp; done)) | rfl)
@[simp] theorem State.takeNext_pending (s : State) : (State.takeNext s).pending = s.pending := by
  first
  | (simp [State.takeNext, goesOn_ite, apply_ite State.pending, apply_dite State.pending]; done)
  | (unfold State.takeNext; (try dsimp only); (repeat' split) <;> first | (simp [apply_ite State.pending, apply_dite State.pending, *]; done) | (simp [State.offer_pending _ _ _ _ (by assumption), *]; done) | (simp [State.take_pending _ _ _ _ (by assumption), *]; done) | ((try rw [goesOn_next]); refine (foldl_pending _ _ _ ?_).trans ?_ <;> (first | (intro s a; (repeat' split) <;> simp; done) | simp; done)) | rfl)
@[simp] theorem State.faultFirst_pending (s : State) : (State.faultFirst s).pending = s.pending := by
  first
  | (simp [State.faultFirst, goesOn_ite, apply_ite State.pending, apply_dite State.pending]; done)
  | (unfold State.faultFirst; (try dsimp only); (repeat' split) <;> first | (simp [apply_ite State.pending, apply_dite State.pending, *]; done) | (simp [State.offer_pending _ _ _ _ (by assumption), *]; done) | (simp [State.take_pending _ _ _ _ (by assumption), *]; done) | ((try rw [goesOn_next]); refine (foldl_pending _ _ _ ?_).trans ?_ <;> (first | (intro s a; (repeat' split) <;> simp; done) | simp; done)) | rfl)
@[simp] theorem execFaultLogEntry_goesOn (s : State) : goesOn s (execFaultLogEntry s) := by
  first
  | (simp [execFaultLogEntry, goesOn_ite, apply_ite State.pending, apply_dite State.pending]; done)
  | (unfold execFaultLogEntry; (try dsimp only); (repeat' split) <;> first | (simp [apply_ite State.pending, apply_dite State.pending, *]; done) | (simp [State.offer_pending _ _ _ _ (by assumption), *]; done) | (simp [State.take_pending _ _ _ _ (by assumption), *]; done) | ((try rw [goesOn_next]); refine (foldl_pending _ _ _ ?_).trans ?_ <;> (first | (intro s a; (repeat' split) <;> simp; done) | simp; done)) | rfl)
@[simp] theorem execFltL1Timeout_goesOn (e : Nat) (t : Nat) (s : State) : goesOn s (execFltL1Timeout e t s) := by
  first
  | (simp [execFltL1Timeout, goesOn_ite, apply_ite State.pending, apply_dite State.pending]; done)
  | (unfold execFltL1Timeout; (try dsimp only); (repeat' split) <;> first | (simp [apply_ite State.pending, apply_dite State.pending, *]; done) | (simp [State.offer_pending _ _ _ _ (by assumption), *]; done) | (simp [State.take_pending _ _ _ _ (by assumption), *]; done) | ((try rw [goesOn_next]); refine (foldl_pending _ _ _ ?_).trans ?_ <;> (first | (intro s a; (repeat' split) <;> simp; done) | simp; done)) | rfl)
@[simp] theorem execFltAck_goesOn (key : Nat) (classes : Nat) (s : State) : goesOn s (execFltAck key classes s) := by
  first
  | (simp [execFltAck, goesOn_ite, apply_ite State.pending, apply_dite State.pending]; done)
  | (unfold execFltAck; (try dsimp only); (repeat' split) <;> first | (simp [apply_ite State.pending, apply_dite State.pending, *]; done) | (simp [State.offer_pending _ _ _ _ (by assumption), *]; done) | (simp [State.take_pending _ _ _ _ (by assumption), *]; done) | ((try rw [goesOn_next]); refine (foldl_pending _ _ _ ?_).trans ?_ <;> (first | (intro s a; (repeat' split) <;> simp; done) | simp; done)) | rfl)
@[simp] theorem execFltClr_goesOn (key : Nat) (entry : Nat) (all : Bool) (live : List Nat) (s : State) : goesOn s (execFltClr key entry all live s) := by
  first
  | (simp [execFltClr, goesOn_ite, apply_ite State.pending, apply_dite State.pending]; done)
  | (unfold execFltClr; (try dsimp only); (repeat' split) <;> first | (simp [apply_ite State.pending, apply_dite State.pending, *]; done) | (simp [State.offer_pending _ _ _ _ (by assumption), *]; done) | (simp [State.take_pending _ _ _ _ (by assumption), *]; done) | ((try rw [goesOn_next]); refine (foldl_pending _ _ _ ?_).trans ?_ <;> (first | (intro s a; (repeat' split) <;> simp; done) | simp; done)) | rfl)
@[simp] theorem execFltRaise_goesOn (value : Word) (s : State) : goesOn s (execFltRaise value s) := by
  first
  | (simp [execFltRaise, goesOn_ite, apply_ite State.pending, apply_dite State.pending]; done)
  | (unfold execFltRaise; (try dsimp only); (repeat' split) <;> first | (simp [apply_ite State.pending, apply_dite State.pending, *]; done) | (simp [State.offer_pending _ _ _ _ (by assumption), *]; done) | (simp [State.take_pending _ _ _ _ (by assumption), *]; done) | ((try rw [goesOn_next]); refine (foldl_pending _ _ _ ?_).trans ?_ <;> (first | (intro s a; (repeat' split) <;> simp; done) | simp; done)) | rfl)
@[simp] theorem execErrSwWrite_goesOn (level : Bool) (s : State) : goesOn s (execErrSwWrite level s) := by
  first
  | (simp [execErrSwWrite, goesOn_ite, apply_ite State.pending, apply_dite State.pending]; done)
  | (unfold execErrSwWrite; (try dsimp only); (repeat' split) <;> first | (simp [apply_ite State.pending, apply_dite State.pending, *]; done) | (simp [State.offer_pending _ _ _ _ (by assumption), *]; done) | (simp [State.take_pending _ _ _ _ (by assumption), *]; done) | ((try rw [goesOn_next]); refine (foldl_pending _ _ _ ?_).trans ?_ <;> (first | (intro s a; (repeat' split) <;> simp; done) | simp; done)) | rfl)
@[simp] theorem execErrminEnd_goesOn (t : Nat) (s : State) : goesOn s (execErrminEnd t s) := by
  first
  | (simp [execErrminEnd, goesOn_ite, apply_ite State.pending, apply_dite State.pending]; done)
  | (unfold execErrminEnd; (try dsimp only); (repeat' split) <;> first | (simp [apply_ite State.pending, apply_dite State.pending, *]; done) | (simp [State.offer_pending _ _ _ _ (by assumption), *]; done) | (simp [State.take_pending _ _ _ _ (by assumption), *]; done) | ((try rw [goesOn_next]); refine (foldl_pending _ _ _ ?_).trans ?_ <;> (first | (intro s a; (repeat' split) <;> simp; done) | simp; done)) | rfl)
@[simp] theorem execFltMsgRead_goesOn (s : State) : goesOn s (execFltMsgRead s) := by
  first
  | (simp [execFltMsgRead, goesOn_ite, apply_ite State.pending, apply_dite State.pending]; done)
  | (unfold execFltMsgRead; (try dsimp only); (repeat' split) <;> first | (simp [apply_ite State.pending, apply_dite State.pending, *]; done) | (simp [State.offer_pending _ _ _ _ (by assumption), *]; done) | (simp [State.take_pending _ _ _ _ (by assumption), *]; done) | ((try rw [goesOn_next]); refine (foldl_pending _ _ _ ?_).trans ?_ <;> (first | (intro s a; (repeat' split) <;> simp; done) | simp; done)) | rfl)

end Sys2Proof.Machine
end

