-- ==== Sys2Proof/Laws/QueueSolver.lean ====
section
/-! SUPPORT. The operations of Machine/Solver.lean leave the queue of waiting commands alone. -/

namespace Sys2Proof.Machine

@[simp] theorem State.modQ_pending (s : State) (a : Fin 12) (g : QArm → QArm) : (State.modQ s a g).pending = s.pending := by
  first
  | (simp [State.modQ, goesOn_ite, apply_ite State.pending, apply_dite State.pending]; done)
  | (unfold State.modQ; (try dsimp only); (repeat' split) <;> first | (simp [apply_ite State.pending, apply_dite State.pending, *]; done) | (simp [State.offer_pending _ _ _ _ (by assumption), *]; done) | (simp [State.take_pending _ _ _ _ (by assumption), *]; done) | ((try rw [goesOn_next]); refine (foldl_pending _ _ _ ?_).trans ?_ <;> (first | (intro s a; (repeat' split) <;> simp; done) | simp; done)) | rfl)
@[simp] theorem State.solRange_pending (s : State) (p : QProb) (idx : Nat) (stage : Nat) : (State.solRange s p idx stage).pending = s.pending := by
  first
  | (simp [State.solRange, goesOn_ite, apply_ite State.pending, apply_dite State.pending]; done)
  | (unfold State.solRange; (try dsimp only); (repeat' split) <;> first | (simp [apply_ite State.pending, apply_dite State.pending, *]; done) | (simp [State.offer_pending _ _ _ _ (by assumption), *]; done) | (simp [State.take_pending _ _ _ _ (by assumption), *]; done) | ((try rw [goesOn_next]); refine (foldl_pending _ _ _ ?_).trans ?_ <;> (first | (intro s a; (repeat' split) <;> simp; done) | simp; done)) | rfl)
@[simp] theorem State.endWindow_pending (s : State) (a : Fin 12) (p : QProb) (kind : Nat) (cause : Nat) : (State.endWindow s a p kind cause).pending = s.pending := by
  first
  | (simp [State.endWindow, goesOn_ite, apply_ite State.pending, apply_dite State.pending]; done)
  | (unfold State.endWindow; (try dsimp only); (repeat' split) <;> first | (simp [apply_ite State.pending, apply_dite State.pending, *]; done) | (simp [State.offer_pending _ _ _ _ (by assumption), *]; done) | (simp [State.take_pending _ _ _ _ (by assumption), *]; done) | ((try rw [goesOn_next]); refine (foldl_pending _ _ _ ?_).trans ?_ <;> (first | (intro s a; (repeat' split) <;> simp; done) | simp; done)) | rfl)
@[simp] theorem State.endRange_pending (s : State) (a : Fin 12) (p : QProb) (idx : Nat) (stage : Nat) : (State.endRange s a p idx stage).pending = s.pending := by
  first
  | (simp [State.endRange, goesOn_ite, apply_ite State.pending, apply_dite State.pending]; done)
  | (unfold State.endRange; (try dsimp only); (repeat' split) <;> first | (simp [apply_ite State.pending, apply_dite State.pending, *]; done) | (simp [State.offer_pending _ _ _ _ (by assumption), *]; done) | (simp [State.take_pending _ _ _ _ (by assumption), *]; done) | ((try rw [goesOn_next]); refine (foldl_pending _ _ _ ?_).trans ?_ <;> (first | (intro s a; (repeat' split) <;> simp; done) | simp; done)) | rfl)
@[simp] theorem State.startFact_pending (s : State) (a : Fin 12) (p : QProb) (n : Nat) : (State.startFact s a p n).pending = s.pending := by
  first
  | (simp [State.startFact, goesOn_ite, apply_ite State.pending, apply_dite State.pending]; done)
  | (unfold State.startFact; (try dsimp only); (repeat' split) <;> first | (simp [apply_ite State.pending, apply_dite State.pending, *]; done) | (simp [State.offer_pending _ _ _ _ (by assumption), *]; done) | (simp [State.take_pending _ _ _ _ (by assumption), *]; done) | ((try rw [goesOn_next]); refine (foldl_pending _ _ _ ?_).trans ?_ <;> (first | (intro s a; (repeat' split) <;> simp; done) | simp; done)) | rfl)
@[simp] theorem State.reinitRho_pending (s : State) (a : Fin 12) (p : QProb) : (State.reinitRho s a p).pending = s.pending := by
  first
  | (simp [State.reinitRho, goesOn_ite, apply_ite State.pending, apply_dite State.pending]; done)
  | (unfold State.reinitRho; (try dsimp only); (repeat' split) <;> first | (simp [apply_ite State.pending, apply_dite State.pending, *]; done) | (simp [State.offer_pending _ _ _ _ (by assumption), *]; done) | (simp [State.take_pending _ _ _ _ (by assumption), *]; done) | ((try rw [goesOn_next]); refine (foldl_pending _ _ _ ?_).trans ?_ <;> (first | (intro s a; (repeat' split) <;> simp; done) | simp; done)) | rfl)
@[simp] theorem State.stopUnits_pending (s : State) : (State.stopUnits s).pending = s.pending := by
  first
  | (simp [State.stopUnits, goesOn_ite, apply_ite State.pending, apply_dite State.pending]; done)
  | (unfold State.stopUnits; (try dsimp only); (repeat' split) <;> first | (simp [apply_ite State.pending, apply_dite State.pending, *]; done) | (simp [State.offer_pending _ _ _ _ (by assumption), *]; done) | (simp [State.take_pending _ _ _ _ (by assumption), *]; done) | ((try rw [goesOn_next]); refine (foldl_pending _ _ _ ?_).trans ?_ <;> (first | (intro s a; (repeat' split) <;> simp; done) | simp; done)) | rfl)
@[simp] theorem State.startUnits_pending (s : State) : (State.startUnits s).pending = s.pending := by
  first
  | (simp [State.startUnits, goesOn_ite, apply_ite State.pending, apply_dite State.pending]; done)
  | (unfold State.startUnits; (try dsimp only); (repeat' split) <;> first | (simp [apply_ite State.pending, apply_dite State.pending, *]; done) | (simp [State.offer_pending _ _ _ _ (by assumption), *]; done) | (simp [State.take_pending _ _ _ _ (by assumption), *]; done) | ((try rw [goesOn_next]); refine (foldl_pending _ _ _ ?_).trans ?_ <;> (first | (intro s a; (repeat' split) <;> simp; done) | simp; done)) | rfl)
@[simp] theorem State.offerJob_pending (s : State) (p : QProb) : (State.offerJob s p).pending = s.pending := by
  first
  | (simp [State.offerJob, goesOn_ite, apply_ite State.pending, apply_dite State.pending]; done)
  | (unfold State.offerJob; (try dsimp only); (repeat' split) <;> first | (simp [apply_ite State.pending, apply_dite State.pending, *]; done) | (simp [State.offer_pending _ _ _ _ (by assumption), *]; done) | (simp [State.take_pending _ _ _ _ (by assumption), *]; done) | ((try rw [goesOn_next]); refine (foldl_pending _ _ _ ?_).trans ?_ <;> (first | (intro s a; (repeat' split) <;> simp; done) | simp; done)) | rfl)
@[simp] theorem State.offerJobs_pending (s : State) : (State.offerJobs s).pending = s.pending := by
  first
  | (simp [State.offerJobs, goesOn_ite, apply_ite State.pending, apply_dite State.pending]; done)
  | (unfold State.offerJobs; (try dsimp only); (repeat' split) <;> first | (simp [apply_ite State.pending, apply_dite State.pending, *]; done) | (simp [State.offer_pending _ _ _ _ (by assumption), *]; done) | (simp [State.take_pending _ _ _ _ (by assumption), *]; done) | ((try rw [goesOn_next]); refine (foldl_pending _ _ _ ?_).trans ?_ <;> (first | (intro s a; (repeat' split) <;> simp; done) | simp; done)) | rfl)
@[simp] theorem State.showRes_pending (s : State) (a : Fin 12) (p : QProb) : (State.showRes s a p).pending = s.pending := by
  first
  | (simp [State.showRes, goesOn_ite, apply_ite State.pending, apply_dite State.pending]; done)
  | (unfold State.showRes; (try dsimp only); (repeat' split) <;> first | (simp [apply_ite State.pending, apply_dite State.pending, *]; done) | (simp [State.offer_pending _ _ _ _ (by assumption), *]; done) | (simp [State.take_pending _ _ _ _ (by assumption), *]; done) | ((try rw [goesOn_next]); refine (foldl_pending _ _ _ ?_).trans ?_ <;> (first | (intro s a; (repeat' split) <;> simp; done) | simp; done)) | rfl)
@[simp] theorem State.qShift_pending (s : State) (a : Fin 12) (p : QProb) (cause : Nat) : (State.qShift s a p cause).pending = s.pending := by
  first
  | (simp [State.qShift, goesOn_ite, apply_ite State.pending, apply_dite State.pending]; done)
  | (unfold State.qShift; (try dsimp only); (repeat' split) <;> first | (simp [apply_ite State.pending, apply_dite State.pending, *]; done) | (simp [State.offer_pending _ _ _ _ (by assumption), *]; done) | (simp [State.take_pending _ _ _ _ (by assumption), *]; done) | ((try rw [goesOn_next]); refine (foldl_pending _ _ _ ?_).trans ?_ <;> (first | (intro s a; (repeat' split) <;> simp; done) | simp; done)) | rfl)
@[simp] theorem State.settleArm_pending (s : State) (p : QProb) : (State.settleArm s p).pending = s.pending := by
  first
  | (simp [State.settleArm, goesOn_ite, apply_ite State.pending, apply_dite State.pending]; done)
  | (unfold State.settleArm; (try dsimp only); (repeat' split) <;> first | (simp [apply_ite State.pending, apply_dite State.pending, *]; done) | (simp [State.offer_pending _ _ _ _ (by assumption), *]; done) | (simp [State.take_pending _ _ _ _ (by assumption), *]; done) | ((try rw [goesOn_next]); refine (foldl_pending _ _ _ ?_).trans ?_ <;> (first | (intro s a; (repeat' split) <;> simp; done) | simp; done)) | rfl)
@[simp] theorem State.settleResults_pending (s : State) : (State.settleResults s).pending = s.pending := by
  first
  | (simp [State.settleResults, goesOn_ite, apply_ite State.pending, apply_dite State.pending]; done)
  | (unfold State.settleResults; (try dsimp only); (repeat' split) <;> first | (simp [apply_ite State.pending, apply_dite State.pending, *]; done) | (simp [State.offer_pending _ _ _ _ (by assumption), *]; done) | (simp [State.take_pending _ _ _ _ (by assumption), *]; done) | ((try rw [goesOn_next]); refine (foldl_pending _ _ _ ?_).trans ?_ <;> (first | (intro s a; (repeat' split) <;> simp; done) | simp; done)) | rfl)
@[simp] theorem State.distribute_pending (s : State) (p : QProb) (k : Nat) : (State.distribute s p k).pending = s.pending := by
  first
  | (simp [State.distribute, goesOn_ite, apply_ite State.pending, apply_dite State.pending]; done)
  | (unfold State.distribute; (try dsimp only); (repeat' split) <;> first | (simp [apply_ite State.pending, apply_dite State.pending, *]; done) | (simp [State.offer_pending _ _ _ _ (by assumption), *]; done) | (simp [State.take_pending _ _ _ _ (by assumption), *]; done) | ((try rw [goesOn_next]); refine (foldl_pending _ _ _ ?_).trans ?_ <;> (first | (intro s a; (repeat' split) <;> simp; done) | simp; done)) | rfl)
@[simp] theorem execSolverWindowOpen_goesOn (u : Fin 4) (j : Fin 12) (t : Nat) (s : State) : goesOn s (execSolverWindowOpen u j t s) := by
  first
  | (simp [execSolverWindowOpen, goesOn_ite, apply_ite State.pending, apply_dite State.pending]; done)
  | (unfold execSolverWindowOpen; (try dsimp only); (repeat' split) <;> first | (simp [apply_ite State.pending, apply_dite State.pending, *]; done) | (simp [State.offer_pending _ _ _ _ (by assumption), *]; done) | (simp [State.take_pending _ _ _ _ (by assumption), *]; done) | ((try rw [goesOn_next]); refine (foldl_pending _ _ _ ?_).trans ?_ <;> (first | (intro s a; (repeat' split) <;> simp; done) | simp; done)) | rfl)
@[simp] theorem execSolverIteration_goesOn (u : Fin 4) (t : Nat) (s : State) : goesOn s (execSolverIteration u t s) := by
  first
  | (simp [execSolverIteration, goesOn_ite, apply_ite State.pending, apply_dite State.pending]; done)
  | (unfold execSolverIteration; (try dsimp only); (repeat' split) <;> first | (simp [apply_ite State.pending, apply_dite State.pending, *]; done) | (simp [State.offer_pending _ _ _ _ (by assumption), *]; done) | (simp [State.take_pending _ _ _ _ (by assumption), *]; done) | ((try rw [goesOn_next]); refine (foldl_pending _ _ _ ?_).trans ?_ <;> (first | (intro s a; (repeat' split) <;> simp; done) | simp; done)) | rfl)
@[simp] theorem State.putResiduals_pending (s : State) (p : QProb) (r : Int × Int) : (State.putResiduals s p r).pending = s.pending := by
  first
  | (simp [State.putResiduals, goesOn_ite, apply_ite State.pending, apply_dite State.pending]; done)
  | (unfold State.putResiduals; (try dsimp only); (repeat' split) <;> first | (simp [apply_ite State.pending, apply_dite State.pending, *]; done) | (simp [State.offer_pending _ _ _ _ (by assumption), *]; done) | (simp [State.take_pending _ _ _ _ (by assumption), *]; done) | ((try rw [goesOn_next]); refine (foldl_pending _ _ _ ?_).trans ?_ <;> (first | (intro s a; (repeat' split) <;> simp; done) | simp; done)) | rfl)
@[simp] theorem State.adaptRho_pending (s : State) (a : Fin 12) (p : QProb) (r : Int × Int) : (State.adaptRho s a p r).pending = s.pending := by
  first
  | (simp [State.adaptRho, goesOn_ite, apply_ite State.pending, apply_dite State.pending]; done)
  | (unfold State.adaptRho; (try dsimp only); (repeat' split) <;> first | (simp [apply_ite State.pending, apply_dite State.pending, *]; done) | (simp [State.offer_pending _ _ _ _ (by assumption), *]; done) | (simp [State.take_pending _ _ _ _ (by assumption), *]; done) | ((try rw [goesOn_next]); refine (foldl_pending _ _ _ ?_).trans ?_ <;> (first | (intro s a; (repeat' split) <;> simp; done) | simp; done)) | rfl)
@[simp] theorem execSolverTest_goesOn (u : Fin 4) (t : Nat) (s : State) : goesOn s (execSolverTest u t s) := by
  first
  | (simp [execSolverTest, goesOn_ite, apply_ite State.pending, apply_dite State.pending]; done)
  | (unfold execSolverTest; (try dsimp only); (repeat' split) <;> first | (simp [apply_ite State.pending, apply_dite State.pending, *]; done) | (simp [State.offer_pending _ _ _ _ (by assumption), *]; done) | (simp [State.take_pending _ _ _ _ (by assumption), *]; done) | ((try rw [goesOn_next]); refine (foldl_pending _ _ _ ?_).trans ?_ <;> (first | (intro s a; (repeat' split) <;> simp; done) | simp; done)) | rfl)
@[simp] theorem State.notePivots_pending (s : State) (p : QProb) (piv : List Nat) : (State.notePivots s p piv).pending = s.pending := by
  first
  | (simp [State.notePivots, goesOn_ite, apply_ite State.pending, apply_dite State.pending]; done)
  | (unfold State.notePivots; (try dsimp only); (repeat' split) <;> first | (simp [apply_ite State.pending, apply_dite State.pending, *]; done) | (simp [State.offer_pending _ _ _ _ (by assumption), *]; done) | (simp [State.take_pending _ _ _ _ (by assumption), *]; done) | ((try rw [goesOn_next]); refine (foldl_pending _ _ _ ?_).trans ?_ <;> (first | (intro s a; (repeat' split) <;> simp; done) | simp; done)) | rfl)
@[simp] theorem execFactorisationDone_goesOn (u : Fin 4) (t : Nat) (s : State) : goesOn s (execFactorisationDone u t s) := by
  first
  | (simp [execFactorisationDone, goesOn_ite, apply_ite State.pending, apply_dite State.pending]; done)
  | (unfold execFactorisationDone; (try dsimp only); (repeat' split) <;> first | (simp [apply_ite State.pending, apply_dite State.pending, *]; done) | (simp [State.offer_pending _ _ _ _ (by assumption), *]; done) | (simp [State.take_pending _ _ _ _ (by assumption), *]; done) | ((try rw [goesOn_next]); refine (foldl_pending _ _ _ ?_).trans ?_ <;> (first | (intro s a; (repeat' split) <;> simp; done) | simp; done)) | rfl)
@[simp] theorem State.cutFact_pending (s : State) (a : Fin 12) (p : QProb) (cols : Nat) : (State.cutFact s a p cols).pending = s.pending := by
  first
  | (simp [State.cutFact, goesOn_ite, apply_ite State.pending, apply_dite State.pending]; done)
  | (unfold State.cutFact; (try dsimp only); (repeat' split) <;> first | (simp [apply_ite State.pending, apply_dite State.pending, *]; done) | (simp [State.offer_pending _ _ _ _ (by assumption), *]; done) | (simp [State.take_pending _ _ _ _ (by assumption), *]; done) | ((try rw [goesOn_next]); refine (foldl_pending _ _ _ ?_).trans ?_ <;> (first | (intro s a; (repeat' split) <;> simp; done) | simp; done)) | rfl)
@[simp] theorem execSolverDeadline_goesOn (u : Fin 4) (cols : Nat) (t : Nat) (s : State) : goesOn s (execSolverDeadline u cols t s) := by
  first
  | (simp [execSolverDeadline, goesOn_ite, apply_ite State.pending, apply_dite State.pending]; done)
  | (unfold execSolverDeadline; (try dsimp only); (repeat' split) <;> first | (simp [apply_ite State.pending, apply_dite State.pending, *]; done) | (simp [State.offer_pending _ _ _ _ (by assumption), *]; done) | (simp [State.take_pending _ _ _ _ (by assumption), *]; done) | ((try rw [goesOn_next]); refine (foldl_pending _ _ _ ?_).trans ?_ <;> (first | (intro s a; (repeat' split) <;> simp; done) | simp; done)) | rfl)
@[simp] theorem execSolverPublish_goesOn (u : Fin 4) (j : Fin 12) (s : State) : goesOn s (execSolverPublish u j s) := by
  first
  | (simp [execSolverPublish, goesOn_ite, apply_ite State.pending, apply_dite State.pending]; done)
  | (unfold execSolverPublish; (try dsimp only); (repeat' split) <;> first | (simp [apply_ite State.pending, apply_dite State.pending, *]; done) | (simp [State.offer_pending _ _ _ _ (by assumption), *]; done) | (simp [State.take_pending _ _ _ _ (by assumption), *]; done) | ((try rw [goesOn_next]); refine (foldl_pending _ _ _ ?_).trans ?_ <;> (first | (intro s a; (repeat' split) <;> simp; done) | simp; done)) | rfl)
@[simp] theorem execSolEcc_goesOn (u : Fin 4) (double : Bool) (const : Option (Fin 12)) (address : Nat) (s : State) : goesOn s (execSolEcc u double const address s) := by
  first
  | (simp [execSolEcc, goesOn_ite, apply_ite State.pending, apply_dite State.pending]; done)
  | (unfold execSolEcc; (try dsimp only); (repeat' split) <;> first | (simp [apply_ite State.pending, apply_dite State.pending, *]; done) | (simp [State.offer_pending _ _ _ _ (by assumption), *]; done) | (simp [State.take_pending _ _ _ _ (by assumption), *]; done) | ((try rw [goesOn_next]); refine (foldl_pending _ _ _ ?_).trans ?_ <;> (first | (intro s a; (repeat' split) <;> simp; done) | simp; done)) | rfl)

end Sys2Proof.Machine
end

