-- ==== Sys2Proof/Laws/QueueLoam.lean ====
section
/-! SUPPORT. The operations of Machine/Loam.lean leave the queue of waiting commands alone. -/

namespace Sys2Proof.Machine

@[simp] theorem State.putLoam_pending (s : State) (b : Fin 2) (k : Option Snap) : (State.putLoam s b k).pending = s.pending := by
  first
  | (simp [State.putLoam, goesOn_ite, apply_ite State.pending, apply_dite State.pending]; done)
  | (unfold State.putLoam; (try dsimp only); (repeat' split) <;> first | (simp [apply_ite State.pending, apply_dite State.pending, *]; done) | (simp [State.offer_pending _ _ _ _ (by assumption), *]; done) | (simp [State.take_pending _ _ _ _ (by assumption), *]; done) | ((try rw [goesOn_next]); refine (foldl_pending _ _ _ ?_).trans ?_ <;> (first | (intro s a; (repeat' split) <;> simp; done) | simp; done)) | rfl)
@[simp] theorem State.abandonStream_pending (s : State) : (State.abandonStream s).pending = s.pending := by
  first
  | (simp [State.abandonStream, goesOn_ite, apply_ite State.pending, apply_dite State.pending]; done)
  | (unfold State.abandonStream; (try dsimp only); (repeat' split) <;> first | (simp [apply_ite State.pending, apply_dite State.pending, *]; done) | (simp [State.offer_pending _ _ _ _ (by assumption), *]; done) | (simp [State.take_pending _ _ _ _ (by assumption), *]; done) | ((try rw [goesOn_next]); refine (foldl_pending _ _ _ ?_).trans ?_ <;> (first | (intro s a; (repeat' split) <;> simp; done) | simp; done)) | rfl)
@[simp] theorem State.putChunks_pending (s : State) (len : Nat) (n : Nat) (off : Nat) (x0 : Nat) : (State.putChunks s len n off x0).pending = s.pending := by
  induction x0 generalizing s len n off with
  | zero => rfl
  | succ k ih => (unfold State.putChunks; (try dsimp only); (repeat' split) <;> first | (simp [apply_ite State.pending, apply_dite State.pending, ih, *]; done) | (simp [State.offer_pending _ _ _ _ (by assumption), ih, *]; done) | (simp [State.take_pending _ _ _ _ (by assumption), ih, *]; done) | ((try rw [goesOn_next]); refine (foldl_pending _ _ _ ?_).trans ?_ <;> (first | (intro s a; (repeat' split) <;> simp; done) | simp; done)) | rfl)
@[simp] theorem State.startStream_pending (s : State) (k : Snap) : (State.startStream s k).pending = s.pending := by
  first
  | (simp [State.startStream, goesOn_ite, apply_ite State.pending, apply_dite State.pending]; done)
  | (unfold State.startStream; (try dsimp only); (repeat' split) <;> first | (simp [apply_ite State.pending, apply_dite State.pending, *]; done) | (simp [State.offer_pending _ _ _ _ (by assumption), *]; done) | (simp [State.take_pending _ _ _ _ (by assumption), *]; done) | ((try rw [goesOn_next]); refine (foldl_pending _ _ _ ?_).trans ?_ <;> (first | (intro s a; (repeat' split) <;> simp; done) | simp; done)) | rfl)
@[simp] theorem State.finishCapture_pending (s : State) (k : Snap) : (State.finishCapture s k).pending = s.pending := by
  first
  | (simp [State.finishCapture, goesOn_ite, apply_ite State.pending, apply_dite State.pending]; done)
  | (unfold State.finishCapture; (try dsimp only); (repeat' split) <;> first | (simp [apply_ite State.pending, apply_dite State.pending, *]; done) | (simp [State.offer_pending _ _ _ _ (by assumption), *]; done) | (simp [State.take_pending _ _ _ _ (by assumption), *]; done) | ((try rw [goesOn_next]); refine (foldl_pending _ _ _ ?_).trans ?_ <;> (first | (intro s a; (repeat' split) <;> simp; done) | simp; done)) | rfl)
@[simp] theorem State.capture_pending (s : State) : (State.capture s).pending = s.pending := by
  first
  | (simp [State.capture, goesOn_ite, apply_ite State.pending, apply_dite State.pending]; done)
  | (unfold State.capture; (try dsimp only); (repeat' split) <;> first | (simp [apply_ite State.pending, apply_dite State.pending, *]; done) | (simp [State.offer_pending _ _ _ _ (by assumption), *]; done) | (simp [State.take_pending _ _ _ _ (by assumption), *]; done) | ((try rw [goesOn_next]); refine (foldl_pending _ _ _ ?_).trans ?_ <;> (first | (intro s a; (repeat' split) <;> simp; done) | simp; done)) | rfl)
@[simp] theorem State.restoreTile_pending (s : State) (x : TileSnap) : (State.restoreTile s x).pending = s.pending := by
  first
  | (simp [State.restoreTile, goesOn_ite, apply_ite State.pending, apply_dite State.pending]; done)
  | (unfold State.restoreTile; (try dsimp only); (repeat' split) <;> first | (simp [apply_ite State.pending, apply_dite State.pending, *]; done) | (simp [State.offer_pending _ _ _ _ (by assumption), *]; done) | (simp [State.take_pending _ _ _ _ (by assumption), *]; done) | ((try rw [goesOn_next]); refine (foldl_pending _ _ _ ?_).trans ?_ <;> (first | (intro s a; (repeat' split) <;> simp; done) | simp; done)) | rfl)
@[simp] theorem State.restoreCluster_pending (s : State) (c : Fin 12) (x : Store 32 × Nat × Int) : (State.restoreCluster s c x).pending = s.pending := by
  first
  | (simp [State.restoreCluster, goesOn_ite, apply_ite State.pending, apply_dite State.pending]; done)
  | (unfold State.restoreCluster; (try dsimp only); (repeat' split) <;> first | (simp [apply_ite State.pending, apply_dite State.pending, *]; done) | (simp [State.offer_pending _ _ _ _ (by assumption), *]; done) | (simp [State.take_pending _ _ _ _ (by assumption), *]; done) | ((try rw [goesOn_next]); refine (foldl_pending _ _ _ ?_).trans ?_ <;> (first | (intro s a; (repeat' split) <;> simp; done) | simp; done)) | rfl)
@[simp] theorem State.restoreArm_pending (s : State) (a : Fin 12) (x : Option QPoint × Nat × Nat) : (State.restoreArm s a x).pending = s.pending := by
  first
  | (simp [State.restoreArm, goesOn_ite, apply_ite State.pending, apply_dite State.pending]; done)
  | (unfold State.restoreArm; (try dsimp only); (repeat' split) <;> first | (simp [apply_ite State.pending, apply_dite State.pending, *]; done) | (simp [State.offer_pending _ _ _ _ (by assumption), *]; done) | (simp [State.take_pending _ _ _ _ (by assumption), *]; done) | ((try rw [goesOn_next]); refine (foldl_pending _ _ _ ?_).trans ?_ <;> (first | (intro s a; (repeat' split) <;> simp; done) | simp; done)) | rfl)
@[simp] theorem State.restoreDoor_pending (s : State) (d : Fin 8) (x : List Word × Option Nat × Nat) : (State.restoreDoor s d x).pending = s.pending := by
  first
  | (simp [State.restoreDoor, goesOn_ite, apply_ite State.pending, apply_dite State.pending]; done)
  | (unfold State.restoreDoor; (try dsimp only); (repeat' split) <;> first | (simp [apply_ite State.pending, apply_dite State.pending, *]; done) | (simp [State.offer_pending _ _ _ _ (by assumption), *]; done) | (simp [State.take_pending _ _ _ _ (by assumption), *]; done) | ((try rw [goesOn_next]); refine (foldl_pending _ _ _ ?_).trans ?_ <;> (first | (intro s a; (repeat' split) <;> simp; done) | simp; done)) | rfl)
@[simp] theorem State.restoreMaster_pending (s : State) (k : Snap) (takeover : Bool) : (State.restoreMaster s k takeover).pending = s.pending := by
  first
  | (simp [State.restoreMaster, goesOn_ite, apply_ite State.pending, apply_dite State.pending]; done)
  | (unfold State.restoreMaster; (try dsimp only); (repeat' split) <;> first | (simp [apply_ite State.pending, apply_dite State.pending, *]; done) | (simp [State.offer_pending _ _ _ _ (by assumption), *]; done) | (simp [State.take_pending _ _ _ _ (by assumption), *]; done) | ((try rw [goesOn_next]); refine (foldl_pending _ _ _ ?_).trans ?_ <;> (first | (intro s a; (repeat' split) <;> simp; done) | simp; done)) | rfl)
@[simp] theorem State.restoreSnap_pending (s : State) (k : Snap) (takeover : Bool) : (State.restoreSnap s k takeover).pending = s.pending := by
  first
  | (simp [State.restoreSnap, goesOn_ite, apply_ite State.pending, apply_dite State.pending]; done)
  | (unfold State.restoreSnap; (try dsimp only); (repeat' split) <;> first | (simp [apply_ite State.pending, apply_dite State.pending, *]; done) | (simp [State.offer_pending _ _ _ _ (by assumption), *]; done) | (simp [State.take_pending _ _ _ _ (by assumption), *]; done) | ((try rw [goesOn_next]); refine (foldl_pending _ _ _ ?_).trans ?_ <;> (first | (intro s a; (repeat' split) <;> simp; done) | simp; done)) | rfl)
@[simp] theorem execLoamCapture_goesOn (s : State) : goesOn s (execLoamCapture s) := by
  first
  | (simp [execLoamCapture, goesOn_ite, apply_ite State.pending, apply_dite State.pending]; done)
  | (unfold execLoamCapture; (try dsimp only); (repeat' split) <;> first | (simp [apply_ite State.pending, apply_dite State.pending, *]; done) | (simp [State.offer_pending _ _ _ _ (by assumption), *]; done) | (simp [State.take_pending _ _ _ _ (by assumption), *]; done) | ((try rw [goesOn_next]); refine (foldl_pending _ _ _ ?_).trans ?_ <;> (first | (intro s a; (repeat' split) <;> simp; done) | simp; done)) | rfl)

end Sys2Proof.Machine
end

