-- ==== Sys2Proof/Laws/QueueLoader.lean ====
section
/-! SUPPORT. The operations of Machine/Loader.lean leave the queue of waiting commands alone. -/

namespace Sys2Proof.Machine

@[simp] theorem State.safetyDiffers_pending (s : State) (slot : Nat) (v : LoadVerdict) : (State.safetyDiffers s slot v).pending = s.pending := by
  first
  | (simp [State.safetyDiffers, goesOn_ite, apply_ite State.pending, apply_dite State.pending]; done)
  | (unfold State.safetyDiffers; (try dsimp only); (repeat' split) <;> first | (simp [apply_ite State.pending, apply_dite State.pending, *]; done) | (simp [State.offer_pending _ _ _ _ (by assumption), *]; done) | (simp [State.take_pending _ _ _ _ (by assumption), *]; done) | ((try rw [goesOn_next]); refine (foldl_pending _ _ _ ?_).trans ?_ <;> (first | (intro s a; (repeat' split) <;> simp; done) | simp; done)) | rfl)
@[simp] theorem State.cfgErr_pending (s : State) (code : Nat) (detail : Nat) : (State.cfgErr s code detail).pending = s.pending := by
  first
  | (simp [State.cfgErr, goesOn_ite, apply_ite State.pending, apply_dite State.pending]; done)
  | (unfold State.cfgErr; (try dsimp only); (repeat' split) <;> first | (simp [apply_ite State.pending, apply_dite State.pending, *]; done) | (simp [State.offer_pending _ _ _ _ (by assumption), *]; done) | (simp [State.take_pending _ _ _ _ (by assumption), *]; done) | ((try rw [goesOn_next]); refine (foldl_pending _ _ _ ?_).trans ?_ <;> (first | (intro s a; (repeat' split) <;> simp; done) | simp; done)) | rfl)
@[simp] theorem State.showRun_pending (s : State) (i : Image) : (State.showRun s i).pending = s.pending := by
  first
  | (simp [State.showRun, goesOn_ite, apply_ite State.pending, apply_dite State.pending]; done)
  | (unfold State.showRun; (try dsimp only); (repeat' split) <;> first | (simp [apply_ite State.pending, apply_dite State.pending, *]; done) | (simp [State.offer_pending _ _ _ _ (by assumption), *]; done) | (simp [State.take_pending _ _ _ _ (by assumption), *]; done) | ((try rw [goesOn_next]); refine (foldl_pending _ _ _ ?_).trans ?_ <;> (first | (intro s a; (repeat' split) <;> simp; done) | simp; done)) | rfl)
@[simp] theorem State.takeBudgets_pending (s : State) (st : Structure) : (State.takeBudgets s st).pending = s.pending := by
  first
  | (simp [State.takeBudgets, goesOn_ite, apply_ite State.pending, apply_dite State.pending]; done)
  | (unfold State.takeBudgets; (try dsimp only); (repeat' split) <;> first | (simp [apply_ite State.pending, apply_dite State.pending, *]; done) | (simp [State.offer_pending _ _ _ _ (by assumption), *]; done) | (simp [State.take_pending _ _ _ _ (by assumption), *]; done) | ((try rw [goesOn_next]); refine (foldl_pending _ _ _ ?_).trans ?_ <;> (first | (intro s a; (repeat' split) <;> simp; done) | simp; done)) | rfl)
@[simp] theorem State.takeBuckets_pending (s : State) (st : Structure) : (State.takeBuckets s st).pending = s.pending := by
  first
  | (simp [State.takeBuckets, goesOn_ite, apply_ite State.pending, apply_dite State.pending]; done)
  | (unfold State.takeBuckets; (try dsimp only); (repeat' split) <;> first | (simp [apply_ite State.pending, apply_dite State.pending, *]; done) | (simp [State.offer_pending _ _ _ _ (by assumption), *]; done) | (simp [State.take_pending _ _ _ _ (by assumption), *]; done) | ((try rw [goesOn_next]); refine (foldl_pending _ _ _ ?_).trans ?_ <;> (first | (intro s a; (repeat' split) <;> simp; done) | simp; done)) | rfl)
@[simp] theorem State.takeHandlers_pending (s : State) (st : Structure) : (State.takeHandlers s st).pending = s.pending := by
  first
  | (simp [State.takeHandlers, goesOn_ite, apply_ite State.pending, apply_dite State.pending]; done)
  | (unfold State.takeHandlers; (try dsimp only); (repeat' split) <;> first | (simp [apply_ite State.pending, apply_dite State.pending, *]; done) | (simp [State.offer_pending _ _ _ _ (by assumption), *]; done) | (simp [State.take_pending _ _ _ _ (by assumption), *]; done) | ((try rw [goesOn_next]); refine (foldl_pending _ _ _ ?_).trans ?_ <;> (first | (intro s a; (repeat' split) <;> simp; done) | simp; done)) | rfl)
@[simp] theorem State.startMaster_pending (s : State) (st : Structure) : (State.startMaster s st).pending = s.pending := by
  first
  | (simp [State.startMaster, goesOn_ite, apply_ite State.pending, apply_dite State.pending]; done)
  | (unfold State.startMaster; (try dsimp only); (repeat' split) <;> first | (simp [apply_ite State.pending, apply_dite State.pending, *]; done) | (simp [State.offer_pending _ _ _ _ (by assumption), *]; done) | (simp [State.take_pending _ _ _ _ (by assumption), *]; done) | ((try rw [goesOn_next]); refine (foldl_pending _ _ _ ?_).trans ?_ <;> (first | (intro s a; (repeat' split) <;> simp; done) | simp; done)) | rfl)
@[simp] theorem State.takePartition_pending (s : State) (st : Structure) : (State.takePartition s st).pending = s.pending := by
  first
  | (simp [State.takePartition, goesOn_ite, apply_ite State.pending, apply_dite State.pending]; done)
  | (unfold State.takePartition; (try dsimp only); (repeat' split) <;> first | (simp [apply_ite State.pending, apply_dite State.pending, *]; done) | (simp [State.offer_pending _ _ _ _ (by assumption), *]; done) | (simp [State.take_pending _ _ _ _ (by assumption), *]; done) | ((try rw [goesOn_next]); refine (foldl_pending _ _ _ ?_).trans ?_ <;> (first | (intro s a; (repeat' split) <;> simp; done) | simp; done)) | rfl)
@[simp] theorem State.restPin_pending (s : State) (n : Nat) (on : Bool) : (State.restPin s n on).pending = s.pending := by
  first
  | (simp [State.restPin, goesOn_ite, apply_ite State.pending, apply_dite State.pending]; done)
  | (unfold State.restPin; (try dsimp only); (repeat' split) <;> first | (simp [apply_ite State.pending, apply_dite State.pending, *]; done) | (simp [State.offer_pending _ _ _ _ (by assumption), *]; done) | (simp [State.take_pending _ _ _ _ (by assumption), *]; done) | ((try rw [goesOn_next]); refine (foldl_pending _ _ _ ?_).trans ?_ <;> (first | (intro s a; (repeat' split) <;> simp; done) | simp; done)) | rfl)
@[simp] theorem State.idlePin_pending (s : State) (n : Nat) : (State.idlePin s n).pending = s.pending := by
  first
  | (simp [State.idlePin, goesOn_ite, apply_ite State.pending, apply_dite State.pending]; done)
  | (unfold State.idlePin; (try dsimp only); (repeat' split) <;> first | (simp [apply_ite State.pending, apply_dite State.pending, *]; done) | (simp [State.offer_pending _ _ _ _ (by assumption), *]; done) | (simp [State.take_pending _ _ _ _ (by assumption), *]; done) | ((try rw [goesOn_next]); refine (foldl_pending _ _ _ ?_).trans ?_ <;> (first | (intro s a; (repeat' split) <;> simp; done) | simp; done)) | rfl)
@[simp] theorem State.tidyImage_pending (s : State) (st : Structure) : (State.tidyImage s st).pending = s.pending := by
  first
  | (simp [State.tidyImage, goesOn_ite, apply_ite State.pending, apply_dite State.pending]; done)
  | (unfold State.tidyImage; (try dsimp only); (repeat' split) <;> first | (simp [apply_ite State.pending, apply_dite State.pending, *]; done) | (simp [State.offer_pending _ _ _ _ (by assumption), *]; done) | (simp [State.take_pending _ _ _ _ (by assumption), *]; done) | ((try rw [goesOn_next]); refine (foldl_pending _ _ _ ?_).trans ?_ <;> (first | (intro s a; (repeat' split) <;> simp; done) | simp; done)) | rfl)
@[simp] theorem State.takeParams_pending (s : State) (ps : List (Nat × Nat × Word)) : (State.takeParams s ps).pending = s.pending := by
  first
  | (simp [State.takeParams, goesOn_ite, apply_ite State.pending, apply_dite State.pending]; done)
  | (unfold State.takeParams; (try dsimp only); (repeat' split) <;> first | (simp [apply_ite State.pending, apply_dite State.pending, *]; done) | (simp [State.offer_pending _ _ _ _ (by assumption), *]; done) | (simp [State.take_pending _ _ _ _ (by assumption), *]; done) | ((try rw [goesOn_next]); refine (foldl_pending _ _ _ ?_).trans ?_ <;> (first | (intro s a; (repeat' split) <;> simp; done) | simp; done)) | rfl)
@[simp] theorem State.startSolver_pending (s : State) (st : Structure) : (State.startSolver s st).pending = s.pending := by
  first
  | (simp [State.startSolver, goesOn_ite, apply_ite State.pending, apply_dite State.pending]; done)
  | (unfold State.startSolver; (try dsimp only); (repeat' split) <;> first | (simp [apply_ite State.pending, apply_dite State.pending, *]; done) | (simp [State.offer_pending _ _ _ _ (by assumption), *]; done) | (simp [State.take_pending _ _ _ _ (by assumption), *]; done) | ((try rw [goesOn_next]); refine (foldl_pending _ _ _ ?_).trans ?_ <;> (first | (intro s a; (repeat' split) <;> simp; done) | simp; done)) | rfl)
@[simp] theorem State.runClusters_pending (s : State) (st : Structure) : (State.runClusters s st).pending = s.pending := by
  first
  | (simp [State.runClusters, goesOn_ite, apply_ite State.pending, apply_dite State.pending]; done)
  | (unfold State.runClusters; (try dsimp only); (repeat' split) <;> first | (simp [apply_ite State.pending, apply_dite State.pending, *]; done) | (simp [State.offer_pending _ _ _ _ (by assumption), *]; done) | (simp [State.take_pending _ _ _ _ (by assumption), *]; done) | ((try rw [goesOn_next]); refine (foldl_pending _ _ _ ?_).trans ?_ <;> (first | (intro s a; (repeat' split) <;> simp; done) | simp; done)) | rfl)
@[simp] theorem State.ringNodes_pending (s : State) (d : RingDef) : (State.ringNodes s d).pending = s.pending := by
  first
  | (simp [State.ringNodes, goesOn_ite, apply_ite State.pending, apply_dite State.pending]; done)
  | (unfold State.ringNodes; (try dsimp only); (repeat' split) <;> first | (simp [apply_ite State.pending, apply_dite State.pending, *]; done) | (simp [State.offer_pending _ _ _ _ (by assumption), *]; done) | (simp [State.take_pending _ _ _ _ (by assumption), *]; done) | ((try rw [goesOn_next]); refine (foldl_pending _ _ _ ?_).trans ?_ <;> (first | (intro s a; (repeat' split) <;> simp; done) | simp; done)) | rfl)
@[simp] theorem State.resetUnused_pending (s : State) (st : Structure) : (State.resetUnused s st).pending = s.pending := by
  first
  | (simp [State.resetUnused, goesOn_ite, apply_ite State.pending, apply_dite State.pending]; done)
  | (unfold State.resetUnused; (try dsimp only); (repeat' split) <;> first | (simp [apply_ite State.pending, apply_dite State.pending, *]; done) | (simp [State.offer_pending _ _ _ _ (by assumption), *]; done) | (simp [State.take_pending _ _ _ _ (by assumption), *]; done) | ((try rw [goesOn_next]); refine (foldl_pending _ _ _ ?_).trans ?_ <;> (first | (intro s a; (repeat' split) <;> simp; done) | simp; done)) | rfl)
@[simp] theorem State.takeRings_pending (s : State) (st : Structure) : (State.takeRings s st).pending = s.pending := by
  first
  | (simp [State.takeRings, goesOn_ite, apply_ite State.pending, apply_dite State.pending]; done)
  | (unfold State.takeRings; (try dsimp only); (repeat' split) <;> first | (simp [apply_ite State.pending, apply_dite State.pending, *]; done) | (simp [State.offer_pending _ _ _ _ (by assumption), *]; done) | (simp [State.take_pending _ _ _ _ (by assumption), *]; done) | ((try rw [goesOn_next]); refine (foldl_pending _ _ _ ?_).trans ?_ <;> (first | (intro s a; (repeat' split) <;> simp; done) | simp; done)) | rfl)
@[simp] theorem State.calPorts_pending (s : State) : (State.calPorts s).pending = s.pending := by
  first
  | (simp [State.calPorts, goesOn_ite, apply_ite State.pending, apply_dite State.pending]; done)
  | (unfold State.calPorts; (try dsimp only); (repeat' split) <;> first | (simp [apply_ite State.pending, apply_dite State.pending, *]; done) | (simp [State.offer_pending _ _ _ _ (by assumption), *]; done) | (simp [State.take_pending _ _ _ _ (by assumption), *]; done) | ((try rw [goesOn_next]); refine (foldl_pending _ _ _ ?_).trans ?_ <;> (first | (intro s a; (repeat' split) <;> simp; done) | simp; done)) | rfl)
@[simp] theorem State.startBlocks_pending (s : State) (i : Image) : (State.startBlocks s i).pending = s.pending := by
  first
  | (simp [State.startBlocks, goesOn_ite, apply_ite State.pending, apply_dite State.pending]; done)
  | (unfold State.startBlocks; (try dsimp only); (repeat' split) <;> first | (simp [apply_ite State.pending, apply_dite State.pending, *]; done) | (simp [State.offer_pending _ _ _ _ (by assumption), *]; done) | (simp [State.take_pending _ _ _ _ (by assumption), *]; done) | ((try rw [goesOn_next]); refine (foldl_pending _ _ _ ?_).trans ?_ <;> (first | (intro s a; (repeat' split) <;> simp; done) | simp; done)) | rfl)
@[simp] theorem State.warmChoice_pending (s : State) (i : Image) : (State.warmChoice s i).1.pending = s.pending := by
  first
  | (simp [State.warmChoice, goesOn_ite, apply_ite State.pending, apply_dite State.pending]; done)
  | (unfold State.warmChoice; (try dsimp only); (repeat' split) <;> first | (simp [apply_ite State.pending, apply_dite State.pending, *]; done) | (simp [State.offer_pending _ _ _ _ (by assumption), *]; done) | (simp [State.take_pending _ _ _ _ (by assumption), *]; done) | ((try rw [goesOn_next]); refine (foldl_pending _ _ _ ?_).trans ?_ <;> (first | (intro s a; (repeat' split) <;> simp; done) | simp; done)) | rfl)
@[simp] theorem State.startMotion_pending (s : State) (i : Image) (snap : Option Snap) : (State.startMotion s i snap).pending = s.pending := by
  first
  | (simp [State.startMotion, goesOn_ite, apply_ite State.pending, apply_dite State.pending]; done)
  | (unfold State.startMotion; (try dsimp only); (repeat' split) <;> first | (simp [apply_ite State.pending, apply_dite State.pending, *]; done) | (simp [State.offer_pending _ _ _ _ (by assumption), *]; done) | (simp [State.take_pending _ _ _ _ (by assumption), *]; done) | ((try rw [goesOn_next]); refine (foldl_pending _ _ _ ?_).trans ?_ <;> (first | (intro s a; (repeat' split) <;> simp; done) | simp; done)) | rfl)
@[simp] theorem State.startStructure_pending (s : State) (i : Image) : (State.startStructure s i).pending = s.pending := by
  first
  | (simp [State.startStructure, goesOn_ite, apply_ite State.pending, apply_dite State.pending]; done)
  | (unfold State.startStructure; (try dsimp only); (repeat' split) <;> first | (simp [apply_ite State.pending, apply_dite State.pending, *]; done) | (simp [State.offer_pending _ _ _ _ (by assumption), *]; done) | (simp [State.take_pending _ _ _ _ (by assumption), *]; done) | ((try rw [goesOn_next]); refine (foldl_pending _ _ _ ?_).trans ?_ <;> (first | (intro s a; (repeat' split) <;> simp; done) | simp; done)) | rfl)
@[simp] theorem State.loadFails_pending (s : State) (code : Nat) (detail : Nat) : (State.loadFails s code detail).pending = s.pending := by
  first
  | (simp [State.loadFails, goesOn_ite, apply_ite State.pending, apply_dite State.pending]; done)
  | (unfold State.loadFails; (try dsimp only); (repeat' split) <;> first | (simp [apply_ite State.pending, apply_dite State.pending, *]; done) | (simp [State.offer_pending _ _ _ _ (by assumption), *]; done) | (simp [State.take_pending _ _ _ _ (by assumption), *]; done) | ((try rw [goesOn_next]); refine (foldl_pending _ _ _ ?_).trans ?_ <;> (first | (intro s a; (repeat' split) <;> simp; done) | simp; done)) | rfl)
@[simp] theorem State.dropShadow_pending (s : State) : (State.dropShadow s).pending = s.pending := by
  first
  | (simp [State.dropShadow, goesOn_ite, apply_ite State.pending, apply_dite State.pending]; done)
  | (unfold State.dropShadow; (try dsimp only); (repeat' split) <;> first | (simp [apply_ite State.pending, apply_dite State.pending, *]; done) | (simp [State.offer_pending _ _ _ _ (by assumption), *]; done) | (simp [State.take_pending _ _ _ _ (by assumption), *]; done) | ((try rw [goesOn_next]); refine (foldl_pending _ _ _ ?_).trans ?_ <;> (first | (intro s a; (repeat' split) <;> simp; done) | simp; done)) | rfl)
@[simp] theorem State.deliver_pending (s : State) (i : Image) : (State.deliver s i).pending = s.pending := by
  first
  | (simp [State.deliver, goesOn_ite, apply_ite State.pending, apply_dite State.pending]; done)
  | (unfold State.deliver; (try dsimp only); (repeat' split) <;> first | (simp [apply_ite State.pending, apply_dite State.pending, *]; done) | (simp [State.offer_pending _ _ _ _ (by assumption), *]; done) | (simp [State.take_pending _ _ _ _ (by assumption), *]; done) | ((try rw [goesOn_next]); refine (foldl_pending _ _ _ ?_).trans ?_ <;> (first | (intro s a; (repeat' split) <;> simp; done) | simp; done)) | rfl)
@[simp] theorem execCfgLoad_goesOn (s : State) : goesOn s (execCfgLoad s) := by
  first
  | (simp [execCfgLoad, goesOn_ite, apply_ite State.pending, apply_dite State.pending]; done)
  | (unfold execCfgLoad; (try dsimp only); (repeat' split) <;> first | (simp [apply_ite State.pending, apply_dite State.pending, *]; done) | (simp [State.offer_pending _ _ _ _ (by assumption), *]; done) | (simp [State.take_pending _ _ _ _ (by assumption), *]; done) | ((try rw [goesOn_next]); refine (foldl_pending _ _ _ ?_).trans ?_ <;> (first | (intro s a; (repeat' split) <;> simp; done) | simp; done)) | rfl)
@[simp] theorem execLoadComplete_goesOn (v : LoadVerdict) (s : State) : goesOn s (execLoadComplete v s) := by
  first
  | (simp [execLoadComplete, goesOn_ite, apply_ite State.pending, apply_dite State.pending]; done)
  | (unfold execLoadComplete; (try dsimp only); (repeat' split) <;> first | (simp [apply_ite State.pending, apply_dite State.pending, *]; done) | (simp [State.offer_pending _ _ _ _ (by assumption), *]; done) | (simp [State.take_pending _ _ _ _ (by assumption), *]; done) | ((try rw [goesOn_next]); refine (foldl_pending _ _ _ ?_).trans ?_ <;> (first | (intro s a; (repeat' split) <;> simp; done) | simp; done)) | rfl)
@[simp] theorem execCfgShadow_goesOn (s : State) : goesOn s (execCfgShadow s) := by
  first
  | (simp [execCfgShadow, goesOn_ite, apply_ite State.pending, apply_dite State.pending]; done)
  | (unfold execCfgShadow; (try dsimp only); (repeat' split) <;> first | (simp [apply_ite State.pending, apply_dite State.pending, *]; done) | (simp [State.offer_pending _ _ _ _ (by assumption), *]; done) | (simp [State.take_pending _ _ _ _ (by assumption), *]; done) | ((try rw [goesOn_next]); refine (foldl_pending _ _ _ ?_).trans ?_ <;> (first | (intro s a; (repeat' split) <;> simp; done) | simp; done)) | rfl)
@[simp] theorem execShadowLoadComplete_goesOn (v : LoadVerdict) (s : State) : goesOn s (execShadowLoadComplete v s) := by
  first
  | (simp [execShadowLoadComplete, goesOn_ite, apply_ite State.pending, apply_dite State.pending]; done)
  | (unfold execShadowLoadComplete; (try dsimp only); (repeat' split) <;> first | (simp [apply_ite State.pending, apply_dite State.pending, *]; done) | (simp [State.offer_pending _ _ _ _ (by assumption), *]; done) | (simp [State.take_pending _ _ _ _ (by assumption), *]; done) | ((try rw [goesOn_next]); refine (foldl_pending _ _ _ ?_).trans ?_ <;> (first | (intro s a; (repeat' split) <;> simp; done) | simp; done)) | rfl)
@[simp] theorem execNodePending_goesOn (r : Fin 2) (n : Nat) (t : Nat) (s : State) : goesOn s (execNodePending r n t s) := by
  first
  | (simp [execNodePending, goesOn_ite, apply_ite State.pending, apply_dite State.pending]; done)
  | (unfold execNodePending; (try dsimp only); (repeat' split) <;> first | (simp [apply_ite State.pending, apply_dite State.pending, *]; done) | (simp [State.offer_pending _ _ _ _ (by assumption), *]; done) | (simp [State.take_pending _ _ _ _ (by assumption), *]; done) | ((try rw [goesOn_next]); refine (foldl_pending _ _ _ ?_).trans ?_ <;> (first | (intro s a; (repeat' split) <;> simp; done) | simp; done)) | rfl)
@[simp] theorem execCfgDiscard_goesOn (s : State) : goesOn s (execCfgDiscard s) := by
  first
  | (simp [execCfgDiscard, goesOn_ite, apply_ite State.pending, apply_dite State.pending]; done)
  | (unfold execCfgDiscard; (try dsimp only); (repeat' split) <;> first | (simp [apply_ite State.pending, apply_dite State.pending, *]; done) | (simp [State.offer_pending _ _ _ _ (by assumption), *]; done) | (simp [State.take_pending _ _ _ _ (by assumption), *]; done) | ((try rw [goesOn_next]); refine (foldl_pending _ _ _ ?_).trans ?_ <;> (first | (intro s a; (repeat' split) <;> simp; done) | simp; done)) | rfl)

end Sys2Proof.Machine
end

