-- ==== Sys2Proof/Laws/QueueSwap.lean ====
section
/-! SUPPORT. The operations of Machine/Swap.lean leave the queue of waiting commands alone. -/

namespace Sys2Proof.Machine

@[simp] theorem State.countFrame_pending (s : State) : (State.countFrame s).pending = s.pending := by
  first
  | (simp [State.countFrame, goesOn_ite, apply_ite State.pending, apply_dite State.pending]; done)
  | (unfold State.countFrame; (try dsimp only); (repeat' split) <;> first | (simp [apply_ite State.pending, apply_dite State.pending, *]; done) | (simp [State.offer_pending _ _ _ _ (by assumption), *]; done) | (simp [State.take_pending _ _ _ _ (by assumption), *]; done) | ((try rw [goesOn_next]); refine (foldl_pending _ _ _ ?_).trans ?_ <;> (first | (intro s a; (repeat' split) <;> simp; done) | simp; done)) | rfl)
@[simp] theorem State.eligibleCycle_pending (s : State) : (State.eligibleCycle s).pending = s.pending := by
  first
  | (simp [State.eligibleCycle, goesOn_ite, apply_ite State.pending, apply_dite State.pending]; done)
  | (unfold State.eligibleCycle; (try dsimp only); (repeat' split) <;> first | (simp [apply_ite State.pending, apply_dite State.pending, *]; done) | (simp [State.offer_pending _ _ _ _ (by assumption), *]; done) | (simp [State.take_pending _ _ _ _ (by assumption), *]; done) | ((try rw [goesOn_next]); refine (foldl_pending _ _ _ ?_).trans ?_ <;> (first | (intro s a; (repeat' split) <;> simp; done) | simp; done)) | rfl)
@[simp] theorem State.swapRegs_pending (s : State) (o : Structure) (n : Structure) : (State.swapRegs s o n).pending = s.pending := by
  first
  | (simp [State.swapRegs, goesOn_ite, apply_ite State.pending, apply_dite State.pending]; done)
  | (unfold State.swapRegs; (try dsimp only); (repeat' split) <;> first | (simp [apply_ite State.pending, apply_dite State.pending, *]; done) | (simp [State.offer_pending _ _ _ _ (by assumption), *]; done) | (simp [State.take_pending _ _ _ _ (by assumption), *]; done) | ((try rw [goesOn_next]); refine (foldl_pending _ _ _ ?_).trans ?_ <;> (first | (intro s a; (repeat' split) <;> simp; done) | simp; done)) | rfl)
@[simp] theorem State.swapPorts_pending (s : State) (o : Structure) (n : Structure) : (State.swapPorts s o n).pending = s.pending := by
  first
  | (simp [State.swapPorts, goesOn_ite, apply_ite State.pending, apply_dite State.pending]; done)
  | (unfold State.swapPorts; (try dsimp only); (repeat' split) <;> first | (simp [apply_ite State.pending, apply_dite State.pending, *]; done) | (simp [State.offer_pending _ _ _ _ (by assumption), *]; done) | (simp [State.take_pending _ _ _ _ (by assumption), *]; done) | ((try rw [goesOn_next]); refine (foldl_pending _ _ _ ?_).trans ?_ <;> (first | (intro s a; (repeat' split) <;> simp; done) | simp; done)) | rfl)
@[simp] theorem State.swapPower_pending (s : State) (o : Structure) (n : Structure) : (State.swapPower s o n).pending = s.pending := by
  first
  | (simp [State.swapPower, goesOn_ite, apply_ite State.pending, apply_dite State.pending]; done)
  | (unfold State.swapPower; (try dsimp only); (repeat' split) <;> first | (simp [apply_ite State.pending, apply_dite State.pending, *]; done) | (simp [State.offer_pending _ _ _ _ (by assumption), *]; done) | (simp [State.take_pending _ _ _ _ (by assumption), *]; done) | ((try rw [goesOn_next]); refine (foldl_pending _ _ _ ?_).trans ?_ <;> (first | (intro s a; (repeat' split) <;> simp; done) | simp; done)) | rfl)
@[simp] theorem State.swapTiles_pending (s : State) (o : Structure) (n : Structure) : (State.swapTiles s o n).pending = s.pending := by
  first
  | (simp [State.swapTiles, goesOn_ite, apply_ite State.pending, apply_dite State.pending]; done)
  | (unfold State.swapTiles; (try dsimp only); (repeat' split) <;> first | (simp [apply_ite State.pending, apply_dite State.pending, *]; done) | (simp [State.offer_pending _ _ _ _ (by assumption), *]; done) | (simp [State.take_pending _ _ _ _ (by assumption), *]; done) | ((try rw [goesOn_next]); refine (foldl_pending _ _ _ ?_).trans ?_ <;> (first | (intro s a; (repeat' split) <;> simp; done) | simp; done)) | rfl)
@[simp] theorem State.swapBanks_pending (s : State) (n : Structure) : (State.swapBanks s n).pending = s.pending := by
  first
  | (simp [State.swapBanks, goesOn_ite, apply_ite State.pending, apply_dite State.pending]; done)
  | (unfold State.swapBanks; (try dsimp only); (repeat' split) <;> first | (simp [apply_ite State.pending, apply_dite State.pending, *]; done) | (simp [State.offer_pending _ _ _ _ (by assumption), *]; done) | (simp [State.take_pending _ _ _ _ (by assumption), *]; done) | ((try rw [goesOn_next]); refine (foldl_pending _ _ _ ?_).trans ?_ <;> (first | (intro s a; (repeat' split) <;> simp; done) | simp; done)) | rfl)
@[simp] theorem State.swapItems_pending (s : State) (o : Structure) (n : Structure) : (State.swapItems s o n).pending = s.pending := by
  first
  | (simp [State.swapItems, goesOn_ite, apply_ite State.pending, apply_dite State.pending]; done)
  | (unfold State.swapItems; (try dsimp only); (repeat' split) <;> first | (simp [apply_ite State.pending, apply_dite State.pending, *]; done) | (simp [State.offer_pending _ _ _ _ (by assumption), *]; done) | (simp [State.take_pending _ _ _ _ (by assumption), *]; done) | ((try rw [goesOn_next]); refine (foldl_pending _ _ _ ?_).trans ?_ <;> (first | (intro s a; (repeat' split) <;> simp; done) | simp; done)) | rfl)
@[simp] theorem State.swapSuppressed_pending (s : State) (n : Structure) : (State.swapSuppressed s n).pending = s.pending := by
  first
  | (simp [State.swapSuppressed, goesOn_ite, apply_ite State.pending, apply_dite State.pending]; done)
  | (unfold State.swapSuppressed; (try dsimp only); (repeat' split) <;> first | (simp [apply_ite State.pending, apply_dite State.pending, *]; done) | (simp [State.offer_pending _ _ _ _ (by assumption), *]; done) | (simp [State.take_pending _ _ _ _ (by assumption), *]; done) | ((try rw [goesOn_next]); refine (foldl_pending _ _ _ ?_).trans ?_ <;> (first | (intro s a; (repeat' split) <;> simp; done) | simp; done)) | rfl)
@[simp] theorem State.swapRings_pending (s : State) (old : Image) (new : Image) : (State.swapRings s old new).pending = s.pending := by
  first
  | (simp [State.swapRings, goesOn_ite, apply_ite State.pending, apply_dite State.pending]; done)
  | (unfold State.swapRings; (try dsimp only); (repeat' split) <;> first | (simp [apply_ite State.pending, apply_dite State.pending, *]; done) | (simp [State.offer_pending _ _ _ _ (by assumption), *]; done) | (simp [State.take_pending _ _ _ _ (by assumption), *]; done) | ((try rw [goesOn_next]); refine (foldl_pending _ _ _ ?_).trans ?_ <;> (first | (intro s a; (repeat' split) <;> simp; done) | simp; done)) | rfl)
@[simp] theorem State.swapPins_pending (s : State) (o : Structure) (n : Structure) : (State.swapPins s o n).pending = s.pending := by
  first
  | (simp [State.swapPins, goesOn_ite, apply_ite State.pending, apply_dite State.pending]; done)
  | (unfold State.swapPins; (try dsimp only); (repeat' split) <;> first | (simp [apply_ite State.pending, apply_dite State.pending, *]; done) | (simp [State.offer_pending _ _ _ _ (by assumption), *]; done) | (simp [State.take_pending _ _ _ _ (by assumption), *]; done) | ((try rw [goesOn_next]); refine (foldl_pending _ _ _ ?_).trans ?_ <;> (first | (intro s a; (repeat' split) <;> simp; done) | simp; done)) | rfl)
@[simp] theorem State.swapOuts_pending (s : State) (o : Structure) (n : Structure) : (State.swapOuts s o n).pending = s.pending := by
  first
  | (simp [State.swapOuts, goesOn_ite, apply_ite State.pending, apply_dite State.pending]; done)
  | (unfold State.swapOuts; (try dsimp only); (repeat' split) <;> first | (simp [apply_ite State.pending, apply_dite State.pending, *]; done) | (simp [State.offer_pending _ _ _ _ (by assumption), *]; done) | (simp [State.take_pending _ _ _ _ (by assumption), *]; done) | ((try rw [goesOn_next]); refine (foldl_pending _ _ _ ?_).trans ?_ <;> (first | (intro s a; (repeat' split) <;> simp; done) | simp; done)) | rfl)
@[simp] theorem State.swapDoors_pending (s : State) (o : Structure) (n : Structure) : (State.swapDoors s o n).pending = s.pending := by
  first
  | (simp [State.swapDoors, goesOn_ite, apply_ite State.pending, apply_dite State.pending]; done)
  | (unfold State.swapDoors; (try dsimp only); (repeat' split) <;> first | (simp [apply_ite State.pending, apply_dite State.pending, *]; done) | (simp [State.offer_pending _ _ _ _ (by assumption), *]; done) | (simp [State.take_pending _ _ _ _ (by assumption), *]; done) | ((try rw [goesOn_next]); refine (foldl_pending _ _ _ ?_).trans ?_ <;> (first | (intro s a; (repeat' split) <;> simp; done) | simp; done)) | rfl)
@[simp] theorem State.swapShow_pending (s : State) (old : Image) (new : Image) : (State.swapShow s old new).pending = s.pending := by
  first
  | (simp [State.swapShow, goesOn_ite, apply_ite State.pending, apply_dite State.pending]; done)
  | (unfold State.swapShow; (try dsimp only); (repeat' split) <;> first | (simp [apply_ite State.pending, apply_dite State.pending, *]; done) | (simp [State.offer_pending _ _ _ _ (by assumption), *]; done) | (simp [State.take_pending _ _ _ _ (by assumption), *]; done) | ((try rw [goesOn_next]); refine (foldl_pending _ _ _ ?_).trans ?_ <;> (first | (intro s a; (repeat' split) <;> simp; done) | simp; done)) | rfl)
@[simp] theorem State.swap_pending (s : State) (old : Image) (new : Image) : (State.swap s old new).pending = s.pending := by
  first
  | (simp [State.swap, goesOn_ite, apply_ite State.pending, apply_dite State.pending]; done)
  | (unfold State.swap; (try dsimp only); (repeat' split) <;> first | (simp [apply_ite State.pending, apply_dite State.pending, *]; done) | (simp [State.offer_pending _ _ _ _ (by assumption), *]; done) | (simp [State.take_pending _ _ _ _ (by assumption), *]; done) | ((try rw [goesOn_next]); refine (foldl_pending _ _ _ ?_).trans ?_ <;> (first | (intro s a; (repeat' split) <;> simp; done) | simp; done)) | rfl)
@[simp] theorem State.endPost_pending (s : State) : (State.endPost s).pending = s.pending := by
  first
  | (simp [State.endPost, goesOn_ite, apply_ite State.pending, apply_dite State.pending]; done)
  | (unfold State.endPost; (try dsimp only); (repeat' split) <;> first | (simp [apply_ite State.pending, apply_dite State.pending, *]; done) | (simp [State.offer_pending _ _ _ _ (by assumption), *]; done) | (simp [State.take_pending _ _ _ _ (by assumption), *]; done) | ((try rw [goesOn_next]); refine (foldl_pending _ _ _ ?_).trans ?_ <;> (first | (intro s a; (repeat' split) <;> simp; done) | simp; done)) | rfl)
@[simp] theorem State.swapFirst_pending (s : State) : (s.swapFirst).pending = s.pending := by
  unfold State.swapFirst
  dsimp only
  split
  · split <;> simp
  · simp
@[simp] theorem State.eventsFirst_pending (s : State) : (State.eventsFirst s).pending = s.pending := by
  first
  | (simp [State.eventsFirst, goesOn_ite, apply_ite State.pending, apply_dite State.pending]; done)
  | (unfold State.eventsFirst; (try dsimp only); (repeat' split) <;> first | (simp [apply_ite State.pending, apply_dite State.pending, *]; done) | (simp [State.offer_pending _ _ _ _ (by assumption), *]; done) | (simp [State.take_pending _ _ _ _ (by assumption), *]; done) | ((try rw [goesOn_next]); refine (foldl_pending _ _ _ ?_).trans ?_ <;> (first | (intro s a; (repeat' split) <;> simp; done) | simp; done)) | rfl)
@[simp] theorem execCfgArmCo_goesOn (s : State) : goesOn s (execCfgArmCo s) := by
  first
  | (simp [execCfgArmCo, goesOn_ite, apply_ite State.pending, apply_dite State.pending]; done)
  | (unfold execCfgArmCo; (try dsimp only); (repeat' split) <;> first | (simp [apply_ite State.pending, apply_dite State.pending, *]; done) | (simp [State.offer_pending _ _ _ _ (by assumption), *]; done) | (simp [State.take_pending _ _ _ _ (by assumption), *]; done) | ((try rw [goesOn_next]); refine (foldl_pending _ _ _ ?_).trans ?_ <;> (first | (intro s a; (repeat' split) <;> simp; done) | simp; done)) | rfl)
@[simp] theorem execCfgCancelCo_goesOn (s : State) : goesOn s (execCfgCancelCo s) := by
  first
  | (simp [execCfgCancelCo, goesOn_ite, apply_ite State.pending, apply_dite State.pending]; done)
  | (unfold execCfgCancelCo; (try dsimp only); (repeat' split) <;> first | (simp [apply_ite State.pending, apply_dite State.pending, *]; done) | (simp [State.offer_pending _ _ _ _ (by assumption), *]; done) | (simp [State.take_pending _ _ _ _ (by assumption), *]; done) | ((try rw [goesOn_next]); refine (foldl_pending _ _ _ ?_).trans ?_ <;> (first | (intro s a; (repeat' split) <;> simp; done) | simp; done)) | rfl)
@[simp] theorem execSwapInstant_goesOn (s : State) : goesOn s (execSwapInstant s) := by
  first
  | (simp [execSwapInstant, goesOn_ite, apply_ite State.pending, apply_dite State.pending]; done)
  | (unfold execSwapInstant; (try dsimp only); (repeat' split) <;> first | (simp [apply_ite State.pending, apply_dite State.pending, *]; done) | (simp [State.offer_pending _ _ _ _ (by assumption), *]; done) | (simp [State.take_pending _ _ _ _ (by assumption), *]; done) | ((try rw [goesOn_next]); refine (foldl_pending _ _ _ ?_).trans ?_ <;> (first | (intro s a; (repeat' split) <;> simp; done) | simp; done)) | rfl)
@[simp] theorem execCoTimeout_goesOn (s : State) : goesOn s (execCoTimeout s) := by
  first
  | (simp [execCoTimeout, goesOn_ite, apply_ite State.pending, apply_dite State.pending]; done)
  | (unfold execCoTimeout; (try dsimp only); (repeat' split) <;> first | (simp [apply_ite State.pending, apply_dite State.pending, *]; done) | (simp [State.offer_pending _ _ _ _ (by assumption), *]; done) | (simp [State.take_pending _ _ _ _ (by assumption), *]; done) | ((try rw [goesOn_next]); refine (foldl_pending _ _ _ ?_).trans ?_ <;> (first | (intro s a; (repeat' split) <;> simp; done) | simp; done)) | rfl)
@[simp] theorem execSwapNotice_goesOn (s : State) : goesOn s (execSwapNotice s) := by
  first
  | (simp [execSwapNotice, goesOn_ite, apply_ite State.pending, apply_dite State.pending]; done)
  | (unfold execSwapNotice; (try dsimp only); (repeat' split) <;> first | (simp [apply_ite State.pending, apply_dite State.pending, *]; done) | (simp [State.offer_pending _ _ _ _ (by assumption), *]; done) | (simp [State.take_pending _ _ _ _ (by assumption), *]; done) | ((try rw [goesOn_next]); refine (foldl_pending _ _ _ ?_).trans ?_ <;> (first | (intro s a; (repeat' split) <;> simp; done) | simp; done)) | rfl)
@[simp] theorem execChangeoverReturn_goesOn (s : State) : goesOn s (execChangeoverReturn s) := by
  first
  | (simp [execChangeoverReturn, goesOn_ite, apply_ite State.pending, apply_dite State.pending]; done)
  | (unfold execChangeoverReturn; (try dsimp only); (repeat' split) <;> first | (simp [apply_ite State.pending, apply_dite State.pending, *]; done) | (simp [State.offer_pending _ _ _ _ (by assumption), *]; done) | (simp [State.take_pending _ _ _ _ (by assumption), *]; done) | ((try rw [goesOn_next]); refine (foldl_pending _ _ _ ?_).trans ?_ <;> (first | (intro s a; (repeat' split) <;> simp; done) | simp; done)) | rfl)
@[simp] theorem execCoPostcheck_goesOn (t : Nat) (s : State) : goesOn s (execCoPostcheck t s) := by
  first
  | (simp [execCoPostcheck, goesOn_ite, apply_ite State.pending, apply_dite State.pending]; done)
  | (unfold execCoPostcheck; (try dsimp only); (repeat' split) <;> first | (simp [apply_ite State.pending, apply_dite State.pending, *]; done) | (simp [State.offer_pending _ _ _ _ (by assumption), *]; done) | (simp [State.take_pending _ _ _ _ (by assumption), *]; done) | ((try rw [goesOn_next]); refine (foldl_pending _ _ _ ?_).trans ?_ <;> (first | (intro s a; (repeat' split) <;> simp; done) | simp; done)) | rfl)
@[simp] theorem execRingCycle_goesOn (r : Fin 2) (t : Nat) (s : State) : goesOn s (execRingCycle r t s) := by
  first
  | (simp [execRingCycle, goesOn_ite, apply_ite State.pending, apply_dite State.pending]; done)
  | (unfold execRingCycle; (try dsimp only); (repeat' split) <;> first | (simp [apply_ite State.pending, apply_dite State.pending, *]; done) | (simp [State.offer_pending _ _ _ _ (by assumption), *]; done) | (simp [State.take_pending _ _ _ _ (by assumption), *]; done) | ((try rw [goesOn_next]); refine (foldl_pending _ _ _ ?_).trans ?_ <;> (first | (intro s a; (repeat' split) <;> simp; done) | simp; done)) | rfl)
@[simp] theorem execFaultMessage_goesOn (s : State) : goesOn s (execFaultMessage s) := by
  first
  | (simp [execFaultMessage, goesOn_ite, apply_ite State.pending, apply_dite State.pending]; done)
  | (unfold execFaultMessage; (try dsimp only); (repeat' split) <;> first | (simp [apply_ite State.pending, apply_dite State.pending, *]; done) | (simp [State.offer_pending _ _ _ _ (by assumption), *]; done) | (simp [State.take_pending _ _ _ _ (by assumption), *]; done) | ((try rw [goesOn_next]); refine (foldl_pending _ _ _ ?_).trans ?_ <;> (first | (intro s a; (repeat' split) <;> simp; done) | simp; done)) | rfl)

end Sys2Proof.Machine
end

