-- ==== Sys2Proof/Laws/QueueModes.lean ====
section
/-! SUPPORT. The operations of Machine/Modes.lean leave the queue of waiting commands alone. -/

namespace Sys2Proof.Machine

@[simp] theorem State.toReset_pending (s : State) (cause : Nat) : (State.toReset s cause).pending = s.pending := by
  first
  | (simp [State.toReset, goesOn_ite, apply_ite State.pending, apply_dite State.pending]; done)
  | (unfold State.toReset; (try dsimp only); (repeat' split) <;> first | (simp [apply_ite State.pending, apply_dite State.pending, *]; done) | (simp [State.offer_pending _ _ _ _ (by assumption), *]; done) | (simp [State.take_pending _ _ _ _ (by assumption), *]; done) | ((try rw [goesOn_next]); refine (foldl_pending _ _ _ ?_).trans ?_ <;> (first | (intro s a; (repeat' split) <;> simp; done) | simp; done)) | rfl)
@[simp] theorem State.reqDone_pending (s : State) (res : Nat) (cond : Nat) : (State.reqDone s res cond).pending = s.pending := by
  first
  | (simp [State.reqDone, goesOn_ite, apply_ite State.pending, apply_dite State.pending]; done)
  | (unfold State.reqDone; (try dsimp only); (repeat' split) <;> first | (simp [apply_ite State.pending, apply_dite State.pending, *]; done) | (simp [State.offer_pending _ _ _ _ (by assumption), *]; done) | (simp [State.take_pending _ _ _ _ (by assumption), *]; done) | ((try rw [goesOn_next]); refine (foldl_pending _ _ _ ?_).trans ?_ <;> (first | (intro s a; (repeat' split) <;> simp; done) | simp; done)) | rfl)
@[simp] theorem State.dropStructure_pending (s : State) : (State.dropStructure s).pending = s.pending := by
  first
  | (simp [State.dropStructure, goesOn_ite, apply_ite State.pending, apply_dite State.pending]; done)
  | (unfold State.dropStructure; (try dsimp only); (repeat' split) <;> first | (simp [apply_ite State.pending, apply_dite State.pending, *]; done) | (simp [State.offer_pending _ _ _ _ (by assumption), *]; done) | (simp [State.take_pending _ _ _ _ (by assumption), *]; done) | ((try rw [goesOn_next]); refine (foldl_pending _ _ _ ?_).trans ?_ <;> (first | (intro s a; (repeat' split) <;> simp; done) | simp; done)) | rfl)
@[simp] theorem State.afterBoot_pending (s : State) (rsa : Bool) (slh : Bool) : (State.afterBoot s rsa slh).pending = s.pending := by
  first
  | (simp [State.afterBoot, goesOn_ite, apply_ite State.pending, apply_dite State.pending]; done)
  | (unfold State.afterBoot; (try dsimp only); (repeat' split) <;> first | (simp [apply_ite State.pending, apply_dite State.pending, *]; done) | (simp [State.offer_pending _ _ _ _ (by assumption), *]; done) | (simp [State.take_pending _ _ _ _ (by assumption), *]; done) | ((try rw [goesOn_next]); refine (foldl_pending _ _ _ ?_).trans ?_ <;> (first | (intro s a; (repeat' split) <;> simp; done) | simp; done)) | rfl)
@[simp] theorem State.lifeWipe_pending (s : State) : (State.lifeWipe s).pending = s.pending := by
  first
  | (simp [State.lifeWipe, goesOn_ite, apply_ite State.pending, apply_dite State.pending]; done)
  | (unfold State.lifeWipe; (try dsimp only); (repeat' split) <;> first | (simp [apply_ite State.pending, apply_dite State.pending, *]; done) | (simp [State.offer_pending _ _ _ _ (by assumption), *]; done) | (simp [State.take_pending _ _ _ _ (by assumption), *]; done) | ((try rw [goesOn_next]); refine (foldl_pending _ _ _ ?_).trans ?_ <;> (first | (intro s a; (repeat' split) <;> simp; done) | simp; done)) | rfl)
@[simp] theorem State.pauseAcq_pending (s : State) : (State.pauseAcq s).pending = s.pending := by
  first
  | (simp [State.pauseAcq, goesOn_ite, apply_ite State.pending, apply_dite State.pending]; done)
  | (unfold State.pauseAcq; (try dsimp only); (repeat' split) <;> first | (simp [apply_ite State.pending, apply_dite State.pending, *]; done) | (simp [State.offer_pending _ _ _ _ (by assumption), *]; done) | (simp [State.take_pending _ _ _ _ (by assumption), *]; done) | ((try rw [goesOn_next]); refine (foldl_pending _ _ _ ?_).trans ?_ <;> (first | (intro s a; (repeat' split) <;> simp; done) | simp; done)) | rfl)
@[simp] theorem State.resumeAcq_pending (s : State) : (State.resumeAcq s).pending = s.pending := by
  first
  | (simp [State.resumeAcq, goesOn_ite, apply_ite State.pending, apply_dite State.pending]; done)
  | (unfold State.resumeAcq; (try dsimp only); (repeat' split) <;> first | (simp [apply_ite State.pending, apply_dite State.pending, *]; done) | (simp [State.offer_pending _ _ _ _ (by assumption), *]; done) | (simp [State.take_pending _ _ _ _ (by assumption), *]; done) | ((try rw [goesOn_next]); refine (foldl_pending _ _ _ ?_).trans ?_ <;> (first | (intro s a; (repeat' split) <;> simp; done) | simp; done)) | rfl)
@[simp] theorem State.drainRecords_pending (s : State) (x0 : Nat) : (State.drainRecords s x0).pending = s.pending := by
  induction x0 generalizing s with
  | zero => rfl
  | succ k ih => (unfold State.drainRecords; (try dsimp only); (repeat' split) <;> first | (simp [apply_ite State.pending, apply_dite State.pending, ih, *]; done) | (simp [State.offer_pending _ _ _ _ (by assumption), ih, *]; done) | (simp [State.take_pending _ _ _ _ (by assumption), ih, *]; done) | ((try rw [goesOn_next]); refine (foldl_pending _ _ _ ?_).trans ?_ <;> (first | (intro s a; (repeat' split) <;> simp; done) | simp; done)) | rfl)
@[simp] theorem State.commitSnap_pending (s : State) : (State.commitSnap s).pending = s.pending := by
  first
  | (simp [State.commitSnap, goesOn_ite, apply_ite State.pending, apply_dite State.pending]; done)
  | (unfold State.commitSnap; (try dsimp only); (repeat' split) <;> first | (simp [apply_ite State.pending, apply_dite State.pending, *]; done) | (simp [State.offer_pending _ _ _ _ (by assumption), *]; done) | (simp [State.take_pending _ _ _ _ (by assumption), *]; done) | ((try rw [goesOn_next]); refine (foldl_pending _ _ _ ?_).trans ?_ <;> (first | (intro s a; (repeat' split) <;> simp; done) | simp; done)) | rfl)
@[simp] theorem State.commit_pending (s : State) : (State.commit s).pending = s.pending := by
  first
  | (simp [State.commit, goesOn_ite, apply_ite State.pending, apply_dite State.pending]; done)
  | (unfold State.commit; (try dsimp only); (repeat' split) <;> first | (simp [apply_ite State.pending, apply_dite State.pending, *]; done) | (simp [State.offer_pending _ _ _ _ (by assumption), *]; done) | (simp [State.take_pending _ _ _ _ (by assumption), *]; done) | ((try rw [goesOn_next]); refine (foldl_pending _ _ _ ?_).trans ?_ <;> (first | (intro s a; (repeat' split) <;> simp; done) | simp; done)) | rfl)
@[simp] theorem execModeReqRun_goesOn (key : Nat) (s : State) : goesOn s (execModeReqRun key s) := by
  first
  | (simp [execModeReqRun, goesOn_ite, apply_ite State.pending, apply_dite State.pending]; done)
  | (unfold execModeReqRun; (try dsimp only); (repeat' split) <;> first | (simp [apply_ite State.pending, apply_dite State.pending, *]; done) | (simp [State.offer_pending _ _ _ _ (by assumption), *]; done) | (simp [State.take_pending _ _ _ _ (by assumption), *]; done) | ((try rw [goesOn_next]); refine (foldl_pending _ _ _ ?_).trans ?_ <;> (first | (intro s a; (repeat' split) <;> simp; done) | simp; done)) | rfl)
@[simp] theorem execModeReqCommission_goesOn (key : Nat) (s : State) : goesOn s (execModeReqCommission key s) := by
  first
  | (simp [execModeReqCommission, goesOn_ite, apply_ite State.pending, apply_dite State.pending]; done)
  | (unfold execModeReqCommission; (try dsimp only); (repeat' split) <;> first | (simp [apply_ite State.pending, apply_dite State.pending, *]; done) | (simp [State.offer_pending _ _ _ _ (by assumption), *]; done) | (simp [State.take_pending _ _ _ _ (by assumption), *]; done) | ((try rw [goesOn_next]); refine (foldl_pending _ _ _ ?_).trans ?_ <;> (first | (intro s a; (repeat' split) <;> simp; done) | simp; done)) | rfl)
@[simp] theorem execModeReqSafeHold_goesOn (key : Nat) (s : State) : goesOn s (execModeReqSafeHold key s) := by
  first
  | (simp [execModeReqSafeHold, goesOn_ite, apply_ite State.pending, apply_dite State.pending]; done)
  | (unfold execModeReqSafeHold; (try dsimp only); (repeat' split) <;> first | (simp [apply_ite State.pending, apply_dite State.pending, *]; done) | (simp [State.offer_pending _ _ _ _ (by assumption), *]; done) | (simp [State.take_pending _ _ _ _ (by assumption), *]; done) | ((try rw [goesOn_next]); refine (foldl_pending _ _ _ ?_).trans ?_ <;> (first | (intro s a; (repeat' split) <;> simp; done) | simp; done)) | rfl)
@[simp] theorem execModeReqBare_goesOn (key : Nat) (s : State) : goesOn s (execModeReqBare key s) := by
  first
  | (simp [execModeReqBare, goesOn_ite, apply_ite State.pending, apply_dite State.pending]; done)
  | (unfold execModeReqBare; (try dsimp only); (repeat' split) <;> first | (simp [apply_ite State.pending, apply_dite State.pending, *]; done) | (simp [State.offer_pending _ _ _ _ (by assumption), *]; done) | (simp [State.take_pending _ _ _ _ (by assumption), *]; done) | ((try rw [goesOn_next]); refine (foldl_pending _ _ _ ?_).trans ?_ <;> (first | (intro s a; (repeat' split) <;> simp; done) | simp; done)) | rfl)
@[simp] theorem execPowerOnReset_goesOn (s : State) : goesOn s (execPowerOnReset s) := by
  first
  | (simp [execPowerOnReset, goesOn_ite, apply_ite State.pending, apply_dite State.pending]; done)
  | (unfold execPowerOnReset; (try dsimp only); (repeat' split) <;> first | (simp [apply_ite State.pending, apply_dite State.pending, *]; done) | (simp [State.offer_pending _ _ _ _ (by assumption), *]; done) | (simp [State.take_pending _ _ _ _ (by assumption), *]; done) | ((try rw [goesOn_next]); refine (foldl_pending _ _ _ ?_).trans ?_ <;> (first | (intro s a; (repeat' split) <;> simp; done) | simp; done)) | rfl)
@[simp] theorem execResetN_goesOn (low : Nat) (s : State) : goesOn s (execResetN low s) := by
  first
  | (simp [execResetN, goesOn_ite, apply_ite State.pending, apply_dite State.pending]; done)
  | (unfold execResetN; (try dsimp only); (repeat' split) <;> first | (simp [apply_ite State.pending, apply_dite State.pending, *]; done) | (simp [State.offer_pending _ _ _ _ (by assumption), *]; done) | (simp [State.take_pending _ _ _ _ (by assumption), *]; done) | ((try rw [goesOn_next]); refine (foldl_pending _ _ _ ?_).trans ?_ <;> (first | (intro s a; (repeat' split) <;> simp; done) | simp; done)) | rfl)
@[simp] theorem execSwrst_goesOn (key : Nat) (s : State) : goesOn s (execSwrst key s) := by
  first
  | (simp [execSwrst, goesOn_ite, apply_ite State.pending, apply_dite State.pending]; done)
  | (unfold execSwrst; (try dsimp only); (repeat' split) <;> first | (simp [apply_ite State.pending, apply_dite State.pending, *]; done) | (simp [State.offer_pending _ _ _ _ (by assumption), *]; done) | (simp [State.take_pending _ _ _ _ (by assumption), *]; done) | ((try rw [goesOn_next]); refine (foldl_pending _ _ _ ?_).trans ?_ <;> (first | (intro s a; (repeat' split) <;> simp; done) | simp; done)) | rfl)
@[simp] theorem execWdKick_goesOn (key : Nat) (t : Nat) (s : State) : goesOn s (execWdKick key t s) := by
  first
  | (simp [execWdKick, goesOn_ite, apply_ite State.pending, apply_dite State.pending]; done)
  | (unfold execWdKick; (try dsimp only); (repeat' split) <;> first | (simp [apply_ite State.pending, apply_dite State.pending, *]; done) | (simp [State.offer_pending _ _ _ _ (by assumption), *]; done) | (simp [State.take_pending _ _ _ _ (by assumption), *]; done) | ((try rw [goesOn_next]); refine (foldl_pending _ _ _ ?_).trans ?_ <;> (first | (intro s a; (repeat' split) <;> simp; done) | simp; done)) | rfl)
@[simp] theorem execLoamRelease_goesOn (key : Nat) (s : State) : goesOn s (execLoamRelease key s) := by
  first
  | (simp [execLoamRelease, goesOn_ite, apply_ite State.pending, apply_dite State.pending]; done)
  | (unfold execLoamRelease; (try dsimp only); (repeat' split) <;> first | (simp [apply_ite State.pending, apply_dite State.pending, *]; done) | (simp [State.offer_pending _ _ _ _ (by assumption), *]; done) | (simp [State.take_pending _ _ _ _ (by assumption), *]; done) | ((try rw [goesOn_next]); refine (foldl_pending _ _ _ ?_).trans ?_ <;> (first | (intro s a; (repeat' split) <;> simp; done) | simp; done)) | rfl)
@[simp] theorem execWdogExpired_goesOn (t : Nat) (s : State) : goesOn s (execWdogExpired t s) := by
  first
  | (simp [execWdogExpired, goesOn_ite, apply_ite State.pending, apply_dite State.pending]; done)
  | (unfold execWdogExpired; (try dsimp only); (repeat' split) <;> first | (simp [apply_ite State.pending, apply_dite State.pending, *]; done) | (simp [State.offer_pending _ _ _ _ (by assumption), *]; done) | (simp [State.take_pending _ _ _ _ (by assumption), *]; done) | ((try rw [goesOn_next]); refine (foldl_pending _ _ _ ?_).trans ?_ <;> (first | (intro s a; (repeat' split) <;> simp; done) | simp; done)) | rfl)
@[simp] theorem execWatchdogReset_goesOn (t : Nat) (s : State) : goesOn s (execWatchdogReset t s) := by
  first
  | (simp [execWatchdogReset, goesOn_ite, apply_ite State.pending, apply_dite State.pending]; done)
  | (unfold execWatchdogReset; (try dsimp only); (repeat' split) <;> first | (simp [apply_ite State.pending, apply_dite State.pending, *]; done) | (simp [State.offer_pending _ _ _ _ (by assumption), *]; done) | (simp [State.take_pending _ _ _ _ (by assumption), *]; done) | ((try rw [goesOn_next]); refine (foldl_pending _ _ _ ?_).trans ?_ <;> (first | (intro s a; (repeat' split) <;> simp; done) | simp; done)) | rfl)
@[simp] theorem execTempWarn_goesOn (sensor : Nat) (tenths : Nat) (s : State) : goesOn s (execTempWarn sensor tenths s) := by
  first
  | (simp [execTempWarn, goesOn_ite, apply_ite State.pending, apply_dite State.pending]; done)
  | (unfold execTempWarn; (try dsimp only); (repeat' split) <;> first | (simp [apply_ite State.pending, apply_dite State.pending, *]; done) | (simp [State.offer_pending _ _ _ _ (by assumption), *]; done) | (simp [State.take_pending _ _ _ _ (by assumption), *]; done) | ((try rw [goesOn_next]); refine (foldl_pending _ _ _ ?_).trans ?_ <;> (first | (intro s a; (repeat' split) <;> simp; done) | simp; done)) | rfl)
@[simp] theorem execThermReset_goesOn (tenths : Nat) (s : State) : goesOn s (execThermReset tenths s) := by
  first
  | (simp [execThermReset, goesOn_ite, apply_ite State.pending, apply_dite State.pending]; done)
  | (unfold execThermReset; (try dsimp only); (repeat' split) <;> first | (simp [apply_ite State.pending, apply_dite State.pending, *]; done) | (simp [State.offer_pending _ _ _ _ (by assumption), *]; done) | (simp [State.take_pending _ _ _ _ (by assumption), *]; done) | ((try rw [goesOn_next]); refine (foldl_pending _ _ _ ?_).trans ?_ <;> (first | (intro s a; (repeat' split) <;> simp; done) | simp; done)) | rfl)
@[simp] theorem execResetRelease_goesOn (vinMv : Nat) (above : Nat) (refOk : Bool) (resetHigh : Bool) (hottest : Int) (s : State) : goesOn s (execResetRelease vinMv above refOk resetHigh hottest s) := by
  first
  | (simp [execResetRelease, goesOn_ite, apply_ite State.pending, apply_dite State.pending]; done)
  | (unfold execResetRelease; (try dsimp only); (repeat' split) <;> first | (simp [apply_ite State.pending, apply_dite State.pending, *]; done) | (simp [State.offer_pending _ _ _ _ (by assumption), *]; done) | (simp [State.take_pending _ _ _ _ (by assumption), *]; done) | ((try rw [goesOn_next]); refine (foldl_pending _ _ _ ?_).trans ?_ <;> (first | (intro s a; (repeat' split) <;> simp; done) | simp; done)) | rfl)
@[simp] theorem execSanitiseDone_goesOn (fail : Option (Nat × Nat)) (s : State) : goesOn s (execSanitiseDone fail s) := by
  first
  | (simp [execSanitiseDone, goesOn_ite, apply_ite State.pending, apply_dite State.pending]; done)
  | (unfold execSanitiseDone; (try dsimp only); (repeat' split) <;> first | (simp [apply_ite State.pending, apply_dite State.pending, *]; done) | (simp [State.offer_pending _ _ _ _ (by assumption), *]; done) | (simp [State.take_pending _ _ _ _ (by assumption), *]; done) | ((try rw [goesOn_next]); refine (foldl_pending _ _ _ ?_).trans ?_ <;> (first | (intro s a; (repeat' split) <;> simp; done) | simp; done)) | rfl)
@[simp] theorem execVerifyDone_goesOn (bootA : BootVerdict) (bootB : BootVerdict) (rsa : Bool) (slh : Bool) (s : State) : goesOn s (execVerifyDone bootA bootB rsa slh s) := by
  first
  | (simp [execVerifyDone, goesOn_ite, apply_ite State.pending, apply_dite State.pending]; done)
  | (unfold execVerifyDone; (try dsimp only); (repeat' split) <;> first | (simp [apply_ite State.pending, apply_dite State.pending, *]; done) | (simp [State.offer_pending _ _ _ _ (by assumption), *]; done) | (simp [State.take_pending _ _ _ _ (by assumption), *]; done) | ((try rw [goesOn_next]); refine (foldl_pending _ _ _ ?_).trans ?_ <;> (first | (intro s a; (repeat' split) <;> simp; done) | simp; done)) | rfl)
@[simp] theorem execSysStartWrite_goesOn (value : Word) (s : State) : goesOn s (execSysStartWrite value s) := by
  first
  | (simp [execSysStartWrite, goesOn_ite, apply_ite State.pending, apply_dite State.pending]; done)
  | (unfold execSysStartWrite; (try dsimp only); (repeat' split) <;> first | (simp [apply_ite State.pending, apply_dite State.pending, *]; done) | (simp [State.offer_pending _ _ _ _ (by assumption), *]; done) | (simp [State.take_pending _ _ _ _ (by assumption), *]; done) | ((try rw [goesOn_next]); refine (foldl_pending _ _ _ ?_).trans ?_ <;> (first | (intro s a; (repeat' split) <;> simp; done) | simp; done)) | rfl)
@[simp] theorem execVinBelowVwarn_goesOn (mv : Nat) (t : Nat) (s : State) : goesOn s (execVinBelowVwarn mv t s) := by
  first
  | (simp [execVinBelowVwarn, goesOn_ite, apply_ite State.pending, apply_dite State.pending]; done)
  | (unfold execVinBelowVwarn; (try dsimp only); (repeat' split) <;> first | (simp [apply_ite State.pending, apply_dite State.pending, *]; done) | (simp [State.offer_pending _ _ _ _ (by assumption), *]; done) | (simp [State.take_pending _ _ _ _ (by assumption), *]; done) | ((try rw [goesOn_next]); refine (foldl_pending _ _ _ ?_).trans ?_ <;> (first | (intro s a; (repeat' split) <;> simp; done) | simp; done)) | rfl)
@[simp] theorem execCommitDone_goesOn (s : State) : goesOn s (execCommitDone s) := by
  first
  | (simp [execCommitDone, goesOn_ite, apply_ite State.pending, apply_dite State.pending]; done)
  | (unfold execCommitDone; (try dsimp only); (repeat' split) <;> first | (simp [apply_ite State.pending, apply_dite State.pending, *]; done) | (simp [State.offer_pending _ _ _ _ (by assumption), *]; done) | (simp [State.take_pending _ _ _ _ (by assumption), *]; done) | ((try rw [goesOn_next]); refine (foldl_pending _ _ _ ?_).trans ?_ <;> (first | (intro s a; (repeat' split) <;> simp; done) | simp; done)) | rfl)
@[simp] theorem execVinRecover_goesOn (mv : Nat) (minMv : Nat) (rise : Nat) (t : Nat) (s : State) : goesOn s (execVinRecover mv minMv rise t s) := by
  first
  | (simp [execVinRecover, goesOn_ite, apply_ite State.pending, apply_dite State.pending]; done)
  | (unfold execVinRecover; (try dsimp only); (repeat' split) <;> first | (simp [apply_ite State.pending, apply_dite State.pending, *]; done) | (simp [State.offer_pending _ _ _ _ (by assumption), *]; done) | (simp [State.take_pending _ _ _ _ (by assumption), *]; done) | ((try rw [goesOn_next]); refine (foldl_pending _ _ _ ?_).trans ?_ <;> (first | (intro s a; (repeat' split) <;> simp; done) | simp; done)) | rfl)
@[simp] theorem execVinBelowVrst_goesOn (mv : Nat) (s : State) : goesOn s (execVinBelowVrst mv s) := by
  first
  | (simp [execVinBelowVrst, goesOn_ite, apply_ite State.pending, apply_dite State.pending]; done)
  | (unfold execVinBelowVrst; (try dsimp only); (repeat' split) <;> first | (simp [apply_ite State.pending, apply_dite State.pending, *]; done) | (simp [State.offer_pending _ _ _ _ (by assumption), *]; done) | (simp [State.take_pending _ _ _ _ (by assumption), *]; done) | ((try rw [goesOn_next]); refine (foldl_pending _ _ _ ?_).trans ?_ <;> (first | (intro s a; (repeat' split) <;> simp; done) | simp; done)) | rfl)
@[simp] theorem execVinOv_goesOn (mv : Nat) (s : State) : goesOn s (execVinOv mv s) := by
  first
  | (simp [execVinOv, goesOn_ite, apply_ite State.pending, apply_dite State.pending]; done)
  | (unfold execVinOv; (try dsimp only); (repeat' split) <;> first | (simp [apply_ite State.pending, apply_dite State.pending, *]; done) | (simp [State.offer_pending _ _ _ _ (by assumption), *]; done) | (simp [State.take_pending _ _ _ _ (by assumption), *]; done) | ((try rw [goesOn_next]); refine (foldl_pending _ _ _ ?_).trans ?_ <;> (first | (intro s a; (repeat' split) <;> simp; done) | simp; done)) | rfl)
@[simp] theorem execRefLost_goesOn (s : State) : goesOn s (execRefLost s) := by
  first
  | (simp [execRefLost, goesOn_ite, apply_ite State.pending, apply_dite State.pending]; done)
  | (unfold execRefLost; (try dsimp only); (repeat' split) <;> first | (simp [apply_ite State.pending, apply_dite State.pending, *]; done) | (simp [State.offer_pending _ _ _ _ (by assumption), *]; done) | (simp [State.take_pending _ _ _ _ (by assumption), *]; done) | ((try rw [goesOn_next]); refine (foldl_pending _ _ _ ?_).trans ?_ <;> (first | (intro s a; (repeat' split) <;> simp; done) | simp; done)) | rfl)
@[simp] theorem execRailFault_goesOn (monitor : Nat) (mv : Nat) (s : State) : goesOn s (execRailFault monitor mv s) := by
  first
  | (simp [execRailFault, goesOn_ite, apply_ite State.pending, apply_dite State.pending]; done)
  | (unfold execRailFault; (try dsimp only); (repeat' split) <;> first | (simp [apply_ite State.pending, apply_dite State.pending, *]; done) | (simp [State.offer_pending _ _ _ _ (by assumption), *]; done) | (simp [State.take_pending _ _ _ _ (by assumption), *]; done) | ((try rw [goesOn_next]); refine (foldl_pending _ _ _ ?_).trans ?_ <;> (first | (intro s a; (repeat' split) <;> simp; done) | simp; done)) | rfl)
@[simp] theorem execAgeingWarn_goesOn (osc : Nat) (slow : Nat) (s : State) : goesOn s (execAgeingWarn osc slow s) := by
  first
  | (simp [execAgeingWarn, goesOn_ite, apply_ite State.pending, apply_dite State.pending]; done)
  | (unfold execAgeingWarn; (try dsimp only); (repeat' split) <;> first | (simp [apply_ite State.pending, apply_dite State.pending, *]; done) | (simp [State.offer_pending _ _ _ _ (by assumption), *]; done) | (simp [State.take_pending _ _ _ _ (by assumption), *]; done) | ((try rw [goesOn_next]); refine (foldl_pending _ _ _ ?_).trans ?_ <;> (first | (intro s a; (repeat' split) <;> simp; done) | simp; done)) | rfl)
@[simp] theorem execMonitorRecord_goesOn (temps : List Int) (volts : List Nat) (slows : List Nat) (s : State) : goesOn s (execMonitorRecord temps volts slows s) := by
  first
  | (simp [execMonitorRecord, goesOn_ite, apply_ite State.pending, apply_dite State.pending]; done)
  | (unfold execMonitorRecord; (try dsimp only); (repeat' split) <;> first | (simp [apply_ite State.pending, apply_dite State.pending, *]; done) | (simp [State.offer_pending _ _ _ _ (by assumption), *]; done) | (simp [State.take_pending _ _ _ _ (by assumption), *]; done) | ((try rw [goesOn_next]); refine (foldl_pending _ _ _ ?_).trans ?_ <;> (first | (intro s a; (repeat' split) <;> simp; done) | simp; done)) | rfl)

end Sys2Proof.Machine
end

