-- ==== Sys2Proof/Laws/QueuePair.lean ====
section
/-! SUPPORT. The operations of Machine/Pair.lean leave the queue of waiting commands alone. -/

namespace Sys2Proof.Machine

@[simp] theorem State.modPairSt_pending (s : State) (g : PairState → PairState) : (State.modPairSt s g).pending = s.pending := by
  first
  | (simp [State.modPairSt, goesOn_ite, apply_ite State.pending, apply_dite State.pending]; done)
  | (unfold State.modPairSt; (try dsimp only); (repeat' split) <;> first | (simp [apply_ite State.pending, apply_dite State.pending, *]; done) | (simp [State.offer_pending _ _ _ _ (by assumption), *]; done) | (simp [State.take_pending _ _ _ _ (by assumption), *]; done) | ((try rw [goesOn_next]); refine (foldl_pending _ _ _ ?_).trans ?_ <;> (first | (intro s a; (repeat' split) <;> simp; done) | simp; done)) | rfl)
@[simp] theorem State.isolated_pending (s : State) : (State.isolated s).pending = s.pending := by
  first
  | (simp [State.isolated, goesOn_ite, apply_ite State.pending, apply_dite State.pending]; done)
  | (unfold State.isolated; (try dsimp only); (repeat' split) <;> first | (simp [apply_ite State.pending, apply_dite State.pending, *]; done) | (simp [State.offer_pending _ _ _ _ (by assumption), *]; done) | (simp [State.take_pending _ _ _ _ (by assumption), *]; done) | ((try rw [goesOn_next]); refine (foldl_pending _ _ _ ?_).trans ?_ <;> (first | (intro s a; (repeat' split) <;> simp; done) | simp; done)) | rfl)
@[simp] theorem State.readSout_pending (s : State) (segs : List RSeg) (area : List Byte) : (State.readSout s segs area).pending = s.pending := by
  first
  | (simp [State.readSout, goesOn_ite, apply_ite State.pending, apply_dite State.pending]; done)
  | (unfold State.readSout; (try dsimp only); (repeat' split) <;> first | (simp [apply_ite State.pending, apply_dite State.pending, *]; done) | (simp [State.offer_pending _ _ _ _ (by assumption), *]; done) | (simp [State.take_pending _ _ _ _ (by assumption), *]; done) | ((try rw [goesOn_next]); refine (foldl_pending _ _ _ ?_).trans ?_ <;> (first | (intro s a; (repeat' split) <;> simp; done) | simp; done)) | rfl)
@[simp] theorem State.nodeSaw_pending (s : State) (r : Fin 2) (e : Nat) : (State.nodeSaw s r e).pending = s.pending := by
  first
  | (simp [State.nodeSaw, goesOn_ite, apply_ite State.pending, apply_dite State.pending]; done)
  | (unfold State.nodeSaw; (try dsimp only); (repeat' split) <;> first | (simp [apply_ite State.pending, apply_dite State.pending, *]; done) | (simp [State.offer_pending _ _ _ _ (by assumption), *]; done) | (simp [State.take_pending _ _ _ _ (by assumption), *]; done) | ((try rw [goesOn_next]); refine (foldl_pending _ _ _ ?_).trans ?_ <;> (first | (intro s a; (repeat' split) <;> simp; done) | simp; done)) | rfl)
@[simp] theorem State.sendOn_pending (s : State) (r : Fin 2) (f : RFrame) (g : RFrame) (wrote : Bool) : (State.sendOn s r f g wrote).pending = s.pending := by
  first
  | (simp [State.sendOn, goesOn_ite, apply_ite State.pending, apply_dite State.pending]; done)
  | (unfold State.sendOn; (try dsimp only); (repeat' split) <;> first | (simp [apply_ite State.pending, apply_dite State.pending, *]; done) | (simp [State.offer_pending _ _ _ _ (by assumption), *]; done) | (simp [State.take_pending _ _ _ _ (by assumption), *]; done) | ((try rw [goesOn_next]); refine (foldl_pending _ _ _ ?_).trans ?_ <;> (first | (intro s a; (repeat' split) <;> simp; done) | simp; done)) | rfl)
@[simp] theorem State.linkUp_pending (s : State) (r : Fin 2) (segs : List RSeg) (f : RFrame) (area : List Byte) :
    (s.linkUp r segs f area).2.pending = s.pending := by
  unfold State.linkUp
  dsimp only
  (repeat' split) <;> simp
@[simp] theorem State.nodeWrite_pending (s : State) (r : Fin 2) (segs : List RSeg) (f : RFrame) (record : Option (List Byte)) (drift : Bool) : (State.nodeWrite s r segs f record drift).pending = s.pending := by
  first
  | (simp [State.nodeWrite, goesOn_ite, apply_ite State.pending, apply_dite State.pending]; done)
  | (unfold State.nodeWrite; (try dsimp only); (repeat' split) <;> first | (simp [apply_ite State.pending, apply_dite State.pending, *]; done) | (simp [State.offer_pending _ _ _ _ (by assumption), *]; done) | (simp [State.take_pending _ _ _ _ (by assumption), *]; done) | ((try rw [goesOn_next]); refine (foldl_pending _ _ _ ?_).trans ?_ <;> (first | (intro s a; (repeat' split) <;> simp; done) | simp; done)) | rfl)
@[simp] theorem State.keepPass_pending (s : State) (r : Fin 2) (onS : Bool) (f : RFrame) (d : Int × Int) : (State.keepPass s r onS f d).pending = s.pending := by
  first
  | (simp [State.keepPass, goesOn_ite, apply_ite State.pending, apply_dite State.pending]; done)
  | (unfold State.keepPass; (try dsimp only); (repeat' split) <;> first | (simp [apply_ite State.pending, apply_dite State.pending, *]; done) | (simp [State.offer_pending _ _ _ _ (by assumption), *]; done) | (simp [State.take_pending _ _ _ _ (by assumption), *]; done) | ((try rw [goesOn_next]); refine (foldl_pending _ _ _ ?_).trans ?_ <;> (first | (intro s a; (repeat' split) <;> simp; done) | simp; done)) | rfl)
@[simp] theorem State.nodeClose_pending (s : State) (r : Fin 2) (segs : List RSeg) (f : RFrame) : (State.nodeClose s r segs f).pending = s.pending := by
  first
  | (simp [State.nodeClose, goesOn_ite, apply_ite State.pending, apply_dite State.pending]; done)
  | (unfold State.nodeClose; (try dsimp only); (repeat' split) <;> first | (simp [apply_ite State.pending, apply_dite State.pending, *]; done) | (simp [State.offer_pending _ _ _ _ (by assumption), *]; done) | (simp [State.take_pending _ _ _ _ (by assumption), *]; done) | ((try rw [goesOn_next]); refine (foldl_pending _ _ _ ?_).trans ?_ <;> (first | (intro s a; (repeat' split) <;> simp; done) | simp; done)) | rfl)
@[simp] theorem State.workPass_pending (s : State) (r : Fin 2) (onS : Bool) (f : RFrame) (a : Int) (b : Nat) : (State.workPass s r onS f a b).pending = s.pending := by
  first
  | (simp [State.workPass, goesOn_ite, apply_ite State.pending, apply_dite State.pending]; done)
  | (unfold State.workPass; (try dsimp only); (repeat' split) <;> first | (simp [apply_ite State.pending, apply_dite State.pending, *]; done) | (simp [State.offer_pending _ _ _ _ (by assumption), *]; done) | (simp [State.take_pending _ _ _ _ (by assumption), *]; done) | ((try rw [goesOn_next]); refine (foldl_pending _ _ _ ?_).trans ?_ <;> (first | (intro s a; (repeat' split) <;> simp; done) | simp; done)) | rfl)
@[simp] theorem State.nodePass_pending (s : State) (r : Fin 2) (onS : Bool) (f : RFrame) (a : Int) (b : Nat) : (State.nodePass s r onS f a b).pending = s.pending := by
  first
  | (simp [State.nodePass, goesOn_ite, apply_ite State.pending, apply_dite State.pending]; done)
  | (unfold State.nodePass; (try dsimp only); (repeat' split) <;> first | (simp [apply_ite State.pending, apply_dite State.pending, *]; done) | (simp [State.offer_pending _ _ _ _ (by assumption), *]; done) | (simp [State.take_pending _ _ _ _ (by assumption), *]; done) | ((try rw [goesOn_next]); refine (foldl_pending _ _ _ ?_).trans ?_ <;> (first | (intro s a; (repeat' split) <;> simp; done) | simp; done)) | rfl)
@[simp] theorem State.startTakeover_pending (s : State) (trigger : Nat) : (State.startTakeover s trigger).pending = s.pending := by
  first
  | (simp [State.startTakeover, goesOn_ite, apply_ite State.pending, apply_dite State.pending]; done)
  | (unfold State.startTakeover; (try dsimp only); (repeat' split) <;> first | (simp [apply_ite State.pending, apply_dite State.pending, *]; done) | (simp [State.offer_pending _ _ _ _ (by assumption), *]; done) | (simp [State.take_pending _ _ _ _ (by assumption), *]; done) | ((try rw [goesOn_next]); refine (foldl_pending _ _ _ ?_).trans ?_ <;> (first | (intro s a; (repeat' split) <;> simp; done) | simp; done)) | rfl)
@[simp] theorem State.refuseLoam_pending (s : State) (i : Image) : (State.refuseLoam s i).pending = s.pending := by
  first
  | (simp [State.refuseLoam, goesOn_ite, apply_ite State.pending, apply_dite State.pending]; done)
  | (unfold State.refuseLoam; (try dsimp only); (repeat' split) <;> first | (simp [apply_ite State.pending, apply_dite State.pending, *]; done) | (simp [State.offer_pending _ _ _ _ (by assumption), *]; done) | (simp [State.take_pending _ _ _ _ (by assumption), *]; done) | ((try rw [goesOn_next]); refine (foldl_pending _ _ _ ?_).trans ?_ <;> (first | (intro s a; (repeat' split) <;> simp; done) | simp; done)) | rfl)
@[simp] theorem State.restoreTakeover_pending (s : State) (i : Image) : (State.restoreTakeover s i).pending = s.pending := by
  first
  | (simp [State.restoreTakeover, goesOn_ite, apply_ite State.pending, apply_dite State.pending]; done)
  | (unfold State.restoreTakeover; (try dsimp only); (repeat' split) <;> first | (simp [apply_ite State.pending, apply_dite State.pending, *]; done) | (simp [State.offer_pending _ _ _ _ (by assumption), *]; done) | (simp [State.take_pending _ _ _ _ (by assumption), *]; done) | ((try rw [goesOn_next]); refine (foldl_pending _ _ _ ?_).trans ?_ <;> (first | (intro s a; (repeat' split) <;> simp; done) | simp; done)) | rfl)
@[simp] theorem State.takeoverDispatch_pending (s : State) : (State.takeoverDispatch s).pending = s.pending := by
  first
  | (simp [State.takeoverDispatch, goesOn_ite, apply_ite State.pending, apply_dite State.pending]; done)
  | (unfold State.takeoverDispatch; (try dsimp only); (repeat' split) <;> first | (simp [apply_ite State.pending, apply_dite State.pending, *]; done) | (simp [State.offer_pending _ _ _ _ (by assumption), *]; done) | (simp [State.take_pending _ _ _ _ (by assumption), *]; done) | ((try rw [goesOn_next]); refine (foldl_pending _ _ _ ?_).trans ?_ <;> (first | (intro s a; (repeat' split) <;> simp; done) | simp; done)) | rfl)
@[simp] theorem State.takeoverRun_pending (s : State) : (State.takeoverRun s).pending = s.pending := by
  first
  | (simp [State.takeoverRun, goesOn_ite, apply_ite State.pending, apply_dite State.pending]; done)
  | (unfold State.takeoverRun; (try dsimp only); (repeat' split) <;> first | (simp [apply_ite State.pending, apply_dite State.pending, *]; done) | (simp [State.offer_pending _ _ _ _ (by assumption), *]; done) | (simp [State.take_pending _ _ _ _ (by assumption), *]; done) | ((try rw [goesOn_next]); refine (foldl_pending _ _ _ ?_).trans ?_ <;> (first | (intro s a; (repeat' split) <;> simp; done) | simp; done)) | rfl)
@[simp] theorem State.snapIncomplete_pending (s : State) (snap : Nat) (ranges : List (Nat × Nat)) : (State.snapIncomplete s snap ranges).pending = s.pending := by
  first
  | (simp [State.snapIncomplete, goesOn_ite, apply_ite State.pending, apply_dite State.pending]; done)
  | (unfold State.snapIncomplete; (try dsimp only); (repeat' split) <;> first | (simp [apply_ite State.pending, apply_dite State.pending, *]; done) | (simp [State.offer_pending _ _ _ _ (by assumption), *]; done) | (simp [State.take_pending _ _ _ _ (by assumption), *]; done) | ((try rw [goesOn_next]); refine (foldl_pending _ _ _ ?_).trans ?_ <;> (first | (intro s a; (repeat' split) <;> simp; done) | simp; done)) | rfl)
@[simp] theorem State.noteChunk_pending (s : State) (snap : Nat) (off : Nat) (len : Nat) : (State.noteChunk s snap off len).pending = s.pending := by
  first
  | (simp [State.noteChunk, goesOn_ite, apply_ite State.pending, apply_dite State.pending]; done)
  | (unfold State.noteChunk; (try dsimp only); (repeat' split) <;> first | (simp [apply_ite State.pending, apply_dite State.pending, *]; done) | (simp [State.offer_pending _ _ _ _ (by assumption), *]; done) | (simp [State.take_pending _ _ _ _ (by assumption), *]; done) | ((try rw [goesOn_next]); refine (foldl_pending _ _ _ ?_).trans ?_ <;> (first | (intro s a; (repeat' split) <;> simp; done) | simp; done)) | rfl)
@[simp] theorem State.writeFaults_pending (s : State) (n : Nat) : (s.writeFaults n).pending = s.pending := by
  induction n generalizing s with
  | zero => simp [State.writeFaults]
  | succ n ih => (unfold State.writeFaults; (repeat' split) <;> simp [ih])
@[simp] theorem State.restructure_pending (s : State) (k : Snap) : (State.restructure s k).pending = s.pending := by
  first
  | (simp [State.restructure, goesOn_ite, apply_ite State.pending, apply_dite State.pending]; done)
  | (unfold State.restructure; (try dsimp only); (repeat' split) <;> first | (simp [apply_ite State.pending, apply_dite State.pending, *]; done) | (simp [State.offer_pending _ _ _ _ (by assumption), *]; done) | (simp [State.take_pending _ _ _ _ (by assumption), *]; done) | ((try rw [goesOn_next]); refine (foldl_pending _ _ _ ?_).trans ?_ <;> (first | (intro s a; (repeat' split) <;> simp; done) | simp; done)) | rfl)
@[simp] theorem State.snapComplete_pending (s : State) (k : Snap) : (State.snapComplete s k).pending = s.pending := by
  first
  | (simp [State.snapComplete, goesOn_ite, apply_ite State.pending, apply_dite State.pending]; done)
  | (unfold State.snapComplete; (try dsimp only); (repeat' split) <;> first | (simp [apply_ite State.pending, apply_dite State.pending, *]; done) | (simp [State.offer_pending _ _ _ _ (by assumption), *]; done) | (simp [State.take_pending _ _ _ _ (by assumption), *]; done) | ((try rw [goesOn_next]); refine (foldl_pending _ _ _ ?_).trans ?_ <;> (first | (intro s a; (repeat' split) <;> simp; done) | simp; done)) | rfl)
@[simp] theorem State.nodeLink_pending (s : State) (r : Fin 2) (onS : Bool) (up : Bool) : (State.nodeLink s r onS up).pending = s.pending := by
  first
  | (simp [State.nodeLink, goesOn_ite, apply_ite State.pending, apply_dite State.pending]; done)
  | (unfold State.nodeLink; (try dsimp only); (repeat' split) <;> first | (simp [apply_ite State.pending, apply_dite State.pending, *]; done) | (simp [State.offer_pending _ _ _ _ (by assumption), *]; done) | (simp [State.take_pending _ _ _ _ (by assumption), *]; done) | ((try rw [goesOn_next]); refine (foldl_pending _ _ _ ?_).trans ?_ <;> (first | (intro s a; (repeat' split) <;> simp; done) | simp; done)) | rfl)
@[simp] theorem execRingLinkChange_goesOn (r : Fin 2) (onS : Bool) (up : Bool) (s : State) : goesOn s (execRingLinkChange r onS up s) := by
  first
  | (simp [execRingLinkChange, goesOn_ite, apply_ite State.pending, apply_dite State.pending]; done)
  | (unfold execRingLinkChange; (try dsimp only); (repeat' split) <;> first | (simp [apply_ite State.pending, apply_dite State.pending, *]; done) | (simp [State.offer_pending _ _ _ _ (by assumption), *]; done) | (simp [State.take_pending _ _ _ _ (by assumption), *]; done) | ((try rw [goesOn_next]); refine (foldl_pending _ _ _ ?_).trans ?_ <;> (first | (intro s a; (repeat' split) <;> simp; done) | simp; done)) | rfl)
@[simp] theorem execNodeWorkingPass_goesOn (r : Fin 2) (onS : Bool) (f : RFrame) (a : Int) (b : Nat) (t : Nat) (s : State) : goesOn s (execNodeWorkingPass r onS f a b t s) := by
  first
  | (simp [execNodeWorkingPass, goesOn_ite, apply_ite State.pending, apply_dite State.pending]; done)
  | (unfold execNodeWorkingPass; (try dsimp only); (repeat' split) <;> first | (simp [apply_ite State.pending, apply_dite State.pending, *]; done) | (simp [State.offer_pending _ _ _ _ (by assumption), *]; done) | (simp [State.take_pending _ _ _ _ (by assumption), *]; done) | ((try rw [goesOn_next]); refine (foldl_pending _ _ _ ?_).trans ?_ <;> (first | (intro s a; (repeat' split) <;> simp; done) | simp; done)) | rfl)
@[simp] theorem execCkptChunkRx_goesOn (snap : Nat) (off : Nat) (len : Nat) (done : Option Snap) (s : State) : goesOn s (execCkptChunkRx snap off len done s) := by
  first
  | (simp [execCkptChunkRx, goesOn_ite, apply_ite State.pending, apply_dite State.pending]; done)
  | (unfold execCkptChunkRx; (try dsimp only); (repeat' split) <;> first | (simp [apply_ite State.pending, apply_dite State.pending, *]; done) | (simp [State.offer_pending _ _ _ _ (by assumption), *]; done) | (simp [State.take_pending _ _ _ _ (by assumption), *]; done) | ((try rw [goesOn_next]); refine (foldl_pending _ _ _ ?_).trans ?_ <;> (first | (intro s a; (repeat' split) <;> simp; done) | simp; done)) | rfl)
@[simp] theorem execTakeoverTrigger_goesOn (r : Fin 2) (t : Nat) (s : State) : goesOn s (execTakeoverTrigger r t s) := by
  first
  | (simp [execTakeoverTrigger, goesOn_ite, apply_ite State.pending, apply_dite State.pending]; done)
  | (unfold execTakeoverTrigger; (try dsimp only); (repeat' split) <;> first | (simp [apply_ite State.pending, apply_dite State.pending, *]; done) | (simp [State.offer_pending _ _ _ _ (by assumption), *]; done) | (simp [State.take_pending _ _ _ _ (by assumption), *]; done) | ((try rw [goesOn_next]); refine (foldl_pending _ _ _ ?_).trans ?_ <;> (first | (intro s a; (repeat' split) <;> simp; done) | simp; done)) | rfl)
@[simp] theorem execRedTakeoverCmd_goesOn (key : Nat) (s : State) : goesOn s (execRedTakeoverCmd key s) := by
  first
  | (simp [execRedTakeoverCmd, goesOn_ite, apply_ite State.pending, apply_dite State.pending]; done)
  | (unfold execRedTakeoverCmd; (try dsimp only); (repeat' split) <;> first | (simp [apply_ite State.pending, apply_dite State.pending, *]; done) | (simp [State.offer_pending _ _ _ _ (by assumption), *]; done) | (simp [State.take_pending _ _ _ _ (by assumption), *]; done) | ((try rw [goesOn_next]); refine (foldl_pending _ _ _ ?_).trans ?_ <;> (first | (intro s a; (repeat' split) <;> simp; done) | simp; done)) | rfl)
@[simp] theorem execModeReqTakeover_goesOn (key : Nat) (s : State) : goesOn s (execModeReqTakeover key s) := by
  first
  | (simp [execModeReqTakeover, goesOn_ite, apply_ite State.pending, apply_dite State.pending]; done)
  | (unfold execModeReqTakeover; (try dsimp only); (repeat' split) <;> first | (simp [apply_ite State.pending, apply_dite State.pending, *]; done) | (simp [State.offer_pending _ _ _ _ (by assumption), *]; done) | (simp [State.take_pending _ _ _ _ (by assumption), *]; done) | ((try rw [goesOn_next]); refine (foldl_pending _ _ _ ?_).trans ?_ <;> (first | (intro s a; (repeat' split) <;> simp; done) | simp; done)) | rfl)
@[simp] theorem execTakeoverRestored_goesOn (t : Nat) (s : State) : goesOn s (execTakeoverRestored t s) := by
  first
  | (simp [execTakeoverRestored, goesOn_ite, apply_ite State.pending, apply_dite State.pending]; done)
  | (unfold execTakeoverRestored; (try dsimp only); (repeat' split) <;> first | (simp [apply_ite State.pending, apply_dite State.pending, *]; done) | (simp [State.offer_pending _ _ _ _ (by assumption), *]; done) | (simp [State.take_pending _ _ _ _ (by assumption), *]; done) | ((try rw [goesOn_next]); refine (foldl_pending _ _ _ ?_).trans ?_ <;> (first | (intro s a; (repeat' split) <;> simp; done) | simp; done)) | rfl)
@[simp] theorem execRedPeerLost_goesOn (r : Fin 2) (s : State) : goesOn s (execRedPeerLost r s) := by
  first
  | (simp [execRedPeerLost, goesOn_ite, apply_ite State.pending, apply_dite State.pending]; done)
  | (unfold execRedPeerLost; (try dsimp only); (repeat' split) <;> first | (simp [apply_ite State.pending, apply_dite State.pending, *]; done) | (simp [State.offer_pending _ _ _ _ (by assumption), *]; done) | (simp [State.take_pending _ _ _ _ (by assumption), *]; done) | ((try rw [goesOn_next]); refine (foldl_pending _ _ _ ?_).trans ?_ <;> (first | (intro s a; (repeat' split) <;> simp; done) | simp; done)) | rfl)

end Sys2Proof.Machine
end

