-- ==== Sys2Proof/Laws/QueueAcq.lean ====
section
/-! SUPPORT. The operations of Machine/Acq.lean leave the queue of waiting commands alone. -/

namespace Sys2Proof.Machine

@[simp] theorem State.modAcq_pending (s : State) (g : AcqState → AcqState) : (State.modAcq s g).pending = s.pending := by
  first
  | (simp [State.modAcq, goesOn_ite, apply_ite State.pending, apply_dite State.pending]; done)
  | (unfold State.modAcq; (try dsimp only); (repeat' split) <;> first | (simp [apply_ite State.pending, apply_dite State.pending, *]; done) | (simp [State.offer_pending _ _ _ _ (by assumption), *]; done) | (simp [State.take_pending _ _ _ _ (by assumption), *]; done) | ((try rw [goesOn_next]); refine (foldl_pending _ _ _ ?_).trans ?_ <;> (first | (intro s a; (repeat' split) <;> simp; done) | simp; done)) | rfl)
@[simp] theorem State.armAcq_pending (s : State) : (State.armAcq s).pending = s.pending := by
  first
  | (simp [State.armAcq, goesOn_ite, apply_ite State.pending, apply_dite State.pending]; done)
  | (unfold State.armAcq; (try dsimp only); (repeat' split) <;> first | (simp [apply_ite State.pending, apply_dite State.pending, *]; done) | (simp [State.offer_pending _ _ _ _ (by assumption), *]; done) | (simp [State.take_pending _ _ _ _ (by assumption), *]; done) | ((try rw [goesOn_next]); refine (foldl_pending _ _ _ ?_).trans ?_ <;> (first | (intro s a; (repeat' split) <;> simp; done) | simp; done)) | rfl)
@[simp] theorem State.putBlock_pending (s : State) (b : AcqBlock) : (State.putBlock s b).pending = s.pending := by
  first
  | (simp [State.putBlock, goesOn_ite, apply_ite State.pending, apply_dite State.pending]; done)
  | (unfold State.putBlock; (try dsimp only); (repeat' split) <;> first | (simp [apply_ite State.pending, apply_dite State.pending, *]; done) | (simp [State.offer_pending _ _ _ _ (by assumption), *]; done) | (simp [State.take_pending _ _ _ _ (by assumption), *]; done) | ((try rw [goesOn_next]); refine (foldl_pending _ _ _ ?_).trans ?_ <;> (first | (intro s a; (repeat' split) <;> simp; done) | simp; done)) | rfl)
@[simp] theorem State.closeBlock_pending (s : State) (last : Bool) : (State.closeBlock s last).pending = s.pending := by
  first
  | (simp [State.closeBlock, goesOn_ite, apply_ite State.pending, apply_dite State.pending]; done)
  | (unfold State.closeBlock; (try dsimp only); (repeat' split) <;> first | (simp [apply_ite State.pending, apply_dite State.pending, *]; done) | (simp [State.offer_pending _ _ _ _ (by assumption), *]; done) | (simp [State.take_pending _ _ _ _ (by assumption), *]; done) | ((try rw [goesOn_next]); refine (foldl_pending _ _ _ ?_).trans ?_ <;> (first | (intro s a; (repeat' split) <;> simp; done) | simp; done)) | rfl)
@[simp] theorem State.endCapture_pending (s : State) (st : Nat) : (State.endCapture s st).pending = s.pending := by
  first
  | (simp [State.endCapture, goesOn_ite, apply_ite State.pending, apply_dite State.pending]; done)
  | (unfold State.endCapture; (try dsimp only); (repeat' split) <;> first | (simp [apply_ite State.pending, apply_dite State.pending, *]; done) | (simp [State.offer_pending _ _ _ _ (by assumption), *]; done) | (simp [State.take_pending _ _ _ _ (by assumption), *]; done) | ((try rw [goesOn_next]); refine (foldl_pending _ _ _ ?_).trans ?_ <;> (first | (intro s a; (repeat' split) <;> simp; done) | simp; done)) | rfl)
@[simp] theorem State.openBlock_pending (s : State) : (State.openBlock s).pending = s.pending := by
  first
  | (simp [State.openBlock, goesOn_ite, apply_ite State.pending, apply_dite State.pending]; done)
  | (unfold State.openBlock; (try dsimp only); (repeat' split) <;> first | (simp [apply_ite State.pending, apply_dite State.pending, *]; done) | (simp [State.offer_pending _ _ _ _ (by assumption), *]; done) | (simp [State.take_pending _ _ _ _ (by assumption), *]; done) | ((try rw [goesOn_next]); refine (foldl_pending _ _ _ ?_).trans ?_ <;> (first | (intro s a; (repeat' split) <;> simp; done) | simp; done)) | rfl)
@[simp] theorem State.storeFrame_pending (s : State) : (State.storeFrame s).pending = s.pending := by
  first
  | (simp [State.storeFrame, goesOn_ite, apply_ite State.pending, apply_dite State.pending]; done)
  | (unfold State.storeFrame; (try dsimp only); (repeat' split) <;> first | (simp [apply_ite State.pending, apply_dite State.pending, *]; done) | (simp [State.offer_pending _ _ _ _ (by assumption), *]; done) | (simp [State.take_pending _ _ _ _ (by assumption), *]; done) | ((try rw [goesOn_next]); refine (foldl_pending _ _ _ ?_).trans ?_ <;> (first | (intro s a; (repeat' split) <;> simp; done) | simp; done)) | rfl)
@[simp] theorem State.addSample_pending (s : State) (vs : List Nat) : (State.addSample s vs).pending = s.pending := by
  first
  | (simp [State.addSample, goesOn_ite, apply_ite State.pending, apply_dite State.pending]; done)
  | (unfold State.addSample; (try dsimp only); (repeat' split) <;> first | (simp [apply_ite State.pending, apply_dite State.pending, *]; done) | (simp [State.offer_pending _ _ _ _ (by assumption), *]; done) | (simp [State.take_pending _ _ _ _ (by assumption), *]; done) | ((try rw [goesOn_next]); refine (foldl_pending _ _ _ ?_).trans ?_ <;> (first | (intro s a; (repeat' split) <;> simp; done) | simp; done)) | rfl)
@[simp] theorem State.violation_pending (s : State) (p : Nat) (v : Nat) (lo : Word) (hi : Word) : (State.violation s p v lo hi).pending = s.pending := by
  first
  | (simp [State.violation, goesOn_ite, apply_ite State.pending, apply_dite State.pending]; done)
  | (unfold State.violation; (try dsimp only); (repeat' split) <;> first | (simp [apply_ite State.pending, apply_dite State.pending, *]; done) | (simp [State.offer_pending _ _ _ _ (by assumption), *]; done) | (simp [State.take_pending _ _ _ _ (by assumption), *]; done) | ((try rw [goesOn_next]); refine (foldl_pending _ _ _ ?_).trans ?_ <;> (first | (intro s a; (repeat' split) <;> simp; done) | simp; done)) | rfl)
@[simp] theorem State.testMask_pending (angle : Bool) (vs : List Nat) (x : State × Bool) (p : Nat) :
    (State.testMask angle vs x p).1.pending = x.1.pending := by
  unfold State.testMask
  dsimp only
  (repeat' split) <;> simp

@[simp] theorem State.foldMasks_pending (angle : Bool) (vs : List Nat) (ps : List Nat) (x : State × Bool) :
    (ps.foldl (State.testMask angle vs) x).1.pending = x.1.pending := by
  induction ps generalizing x with
  | nil => rfl
  | cons p ps ih => simp [ih]
@[simp] theorem State.testMasks_pending (s : State) (angle : Bool) (vs : List Nat) : (State.testMasks s angle vs).1.pending = s.pending := by
  first
  | (simp [State.testMasks, goesOn_ite, apply_ite State.pending, apply_dite State.pending]; done)
  | (unfold State.testMasks; (try dsimp only); (repeat' split) <;> first | (simp [apply_ite State.pending, apply_dite State.pending, *]; done) | (simp [State.offer_pending _ _ _ _ (by assumption), *]; done) | (simp [State.take_pending _ _ _ _ (by assumption), *]; done) | ((try rw [goesOn_next]); refine (foldl_pending _ _ _ ?_).trans ?_ <;> (first | (intro s a; (repeat' split) <;> simp; done) | simp; done)) | rfl)
@[simp] theorem State.trigger_pending (s : State) (src : Nat) : (State.trigger s src).pending = s.pending := by
  first
  | (simp [State.trigger, goesOn_ite, apply_ite State.pending, apply_dite State.pending]; done)
  | (unfold State.trigger; (try dsimp only); (repeat' split) <;> first | (simp [apply_ite State.pending, apply_dite State.pending, *]; done) | (simp [State.offer_pending _ _ _ _ (by assumption), *]; done) | (simp [State.take_pending _ _ _ _ (by assumption), *]; done) | ((try rw [goesOn_next]); refine (foldl_pending _ _ _ ?_).trans ?_ <;> (first | (intro s a; (repeat' split) <;> simp; done) | simp; done)) | rfl)
@[simp] theorem State.unTrigger_pending (s : State) : (State.unTrigger s).pending = s.pending := by
  first
  | (simp [State.unTrigger, goesOn_ite, apply_ite State.pending, apply_dite State.pending]; done)
  | (unfold State.unTrigger; (try dsimp only); (repeat' split) <;> first | (simp [apply_ite State.pending, apply_dite State.pending, *]; done) | (simp [State.offer_pending _ _ _ _ (by assumption), *]; done) | (simp [State.take_pending _ _ _ _ (by assumption), *]; done) | ((try rw [goesOn_next]); refine (foldl_pending _ _ _ ?_).trans ?_ <;> (first | (intro s a; (repeat' split) <;> simp; done) | simp; done)) | rfl)
@[simp] theorem State.markStored_pending (s : State) : (State.markStored s).pending = s.pending := by
  first
  | (simp [State.markStored, goesOn_ite, apply_ite State.pending, apply_dite State.pending]; done)
  | (unfold State.markStored; (try dsimp only); (repeat' split) <;> first | (simp [apply_ite State.pending, apply_dite State.pending, *]; done) | (simp [State.offer_pending _ _ _ _ (by assumption), *]; done) | (simp [State.take_pending _ _ _ _ (by assumption), *]; done) | ((try rw [goesOn_next]); refine (foldl_pending _ _ _ ?_).trans ?_ <;> (first | (intro s a; (repeat' split) <;> simp; done) | simp; done)) | rfl)
@[simp] theorem State.decideTrigger_pending (s : State) (src : Nat) (stored : Bool) : (State.decideTrigger s src stored).pending = s.pending := by
  first
  | (simp [State.decideTrigger, goesOn_ite, apply_ite State.pending, apply_dite State.pending]; done)
  | (unfold State.decideTrigger; (try dsimp only); (repeat' split) <;> first | (simp [apply_ite State.pending, apply_dite State.pending, *]; done) | (simp [State.offer_pending _ _ _ _ (by assumption), *]; done) | (simp [State.take_pending _ _ _ _ (by assumption), *]; done) | ((try rw [goesOn_next]); refine (foldl_pending _ _ _ ?_).trans ?_ <;> (first | (intro s a; (repeat' split) <;> simp; done) | simp; done)) | rfl)
@[simp] theorem State.stopViolated_pending (s : State) : (State.stopViolated s).pending = s.pending := by
  first
  | (simp [State.stopViolated, goesOn_ite, apply_ite State.pending, apply_dite State.pending]; done)
  | (unfold State.stopViolated; (try dsimp only); (repeat' split) <;> first | (simp [apply_ite State.pending, apply_dite State.pending, *]; done) | (simp [State.offer_pending _ _ _ _ (by assumption), *]; done) | (simp [State.take_pending _ _ _ _ (by assumption), *]; done) | ((try rw [goesOn_next]); refine (foldl_pending _ _ _ ?_).trans ?_ <;> (first | (intro s a; (repeat' split) <;> simp; done) | simp; done)) | rfl)
@[simp] theorem State.takeSample_pending (s : State) : (State.takeSample s).pending = s.pending := by
  first
  | (simp [State.takeSample, goesOn_ite, apply_ite State.pending, apply_dite State.pending]; done)
  | (unfold State.takeSample; (try dsimp only); (repeat' split) <;> first | (simp [apply_ite State.pending, apply_dite State.pending, *]; done) | (simp [State.offer_pending _ _ _ _ (by assumption), *]; done) | (simp [State.take_pending _ _ _ _ (by assumption), *]; done) | ((try rw [goesOn_next]); refine (foldl_pending _ _ _ ?_).trans ?_ <;> (first | (intro s a; (repeat' split) <;> simp; done) | simp; done)) | rfl)
@[simp] theorem State.loseSamples_pending (s : State) (n : Nat) : (State.loseSamples s n).pending = s.pending := by
  first
  | (simp [State.loseSamples, goesOn_ite, apply_ite State.pending, apply_dite State.pending]; done)
  | (unfold State.loseSamples; (try dsimp only); (repeat' split) <;> first | (simp [apply_ite State.pending, apply_dite State.pending, *]; done) | (simp [State.offer_pending _ _ _ _ (by assumption), *]; done) | (simp [State.take_pending _ _ _ _ (by assumption), *]; done) | ((try rw [goesOn_next]); refine (foldl_pending _ _ _ ?_).trans ?_ <;> (first | (intro s a; (repeat' split) <;> simp; done) | simp; done)) | rfl)
@[simp] theorem execAcqArm_goesOn (s : State) : goesOn s (execAcqArm s) := by
  first
  | (simp [execAcqArm, goesOn_ite, apply_ite State.pending, apply_dite State.pending]; done)
  | (unfold execAcqArm; (try dsimp only); (repeat' split) <;> first | (simp [apply_ite State.pending, apply_dite State.pending, *]; done) | (simp [State.offer_pending _ _ _ _ (by assumption), *]; done) | (simp [State.take_pending _ _ _ _ (by assumption), *]; done) | ((try rw [goesOn_next]); refine (foldl_pending _ _ _ ?_).trans ?_ <;> (first | (intro s a; (repeat' split) <;> simp; done) | simp; done)) | rfl)
@[simp] theorem execAcqStop_goesOn (s : State) : goesOn s (execAcqStop s) := by
  first
  | (simp [execAcqStop, goesOn_ite, apply_ite State.pending, apply_dite State.pending]; done)
  | (unfold execAcqStop; (try dsimp only); (repeat' split) <;> first | (simp [apply_ite State.pending, apply_dite State.pending, *]; done) | (simp [State.offer_pending _ _ _ _ (by assumption), *]; done) | (simp [State.take_pending _ _ _ _ (by assumption), *]; done) | ((try rw [goesOn_next]); refine (foldl_pending _ _ _ ?_).trans ?_ <;> (first | (intro s a; (repeat' split) <;> simp; done) | simp; done)) | rfl)
@[simp] theorem execAcqForce_goesOn (s : State) : goesOn s (execAcqForce s) := by
  first
  | (simp [execAcqForce, goesOn_ite, apply_ite State.pending, apply_dite State.pending]; done)
  | (unfold execAcqForce; (try dsimp only); (repeat' split) <;> first | (simp [apply_ite State.pending, apply_dite State.pending, *]; done) | (simp [State.offer_pending _ _ _ _ (by assumption), *]; done) | (simp [State.take_pending _ _ _ _ (by assumption), *]; done) | ((try rw [goesOn_next]); refine (foldl_pending _ _ _ ?_).trans ?_ <;> (first | (intro s a; (repeat' split) <;> simp; done) | simp; done)) | rfl)
@[simp] theorem execAcqRawSample_goesOn (t : Nat) (s : State) : goesOn s (execAcqRawSample t s) := by
  first
  | (simp [execAcqRawSample, goesOn_ite, apply_ite State.pending, apply_dite State.pending]; done)
  | (unfold execAcqRawSample; (try dsimp only); (repeat' split) <;> first | (simp [apply_ite State.pending, apply_dite State.pending, *]; done) | (simp [State.offer_pending _ _ _ _ (by assumption), *]; done) | (simp [State.take_pending _ _ _ _ (by assumption), *]; done) | ((try rw [goesOn_next]); refine (foldl_pending _ _ _ ?_).trans ?_ <;> (first | (intro s a; (repeat' split) <;> simp; done) | simp; done)) | rfl)
@[simp] theorem execStreamBlockWrite_goesOn (s : State) : goesOn s (execStreamBlockWrite s) := by
  first
  | (simp [execStreamBlockWrite, goesOn_ite, apply_ite State.pending, apply_dite State.pending]; done)
  | (unfold execStreamBlockWrite; (try dsimp only); (repeat' split) <;> first | (simp [apply_ite State.pending, apply_dite State.pending, *]; done) | (simp [State.offer_pending _ _ _ _ (by assumption), *]; done) | (simp [State.take_pending _ _ _ _ (by assumption), *]; done) | ((try rw [goesOn_next]); refine (foldl_pending _ _ _ ?_).trans ?_ <;> (first | (intro s a; (repeat' split) <;> simp; done) | simp; done)) | rfl)

end Sys2Proof.Machine
end

