-- ==== Sys2Proof/Laws/QueueHost.lean ====
section
/-! SUPPORT. The operations of Machine/Host.lean leave the queue of waiting commands alone. -/

namespace Sys2Proof.Machine

@[simp] theorem State.modHost_pending (s : State) (g : HostState → HostState) : (State.modHost s g).pending = s.pending := by
  first
  | (simp [State.modHost, goesOn_ite, apply_ite State.pending, apply_dite State.pending]; done)
  | (unfold State.modHost; (try dsimp only); (repeat' split) <;> first | (simp [apply_ite State.pending, apply_dite State.pending, *]; done) | (simp [State.offer_pending _ _ _ _ (by assumption), *]; done) | (simp [State.take_pending _ _ _ _ (by assumption), *]; done) | ((try rw [goesOn_next]); refine (foldl_pending _ _ _ ?_).trans ?_ <;> (first | (intro s a; (repeat' split) <;> simp; done) | simp; done)) | rfl)
@[simp] theorem State.reserve_pending (s : State) (c : HostCmd) : (State.reserve s c).1.pending = s.pending := by
  first
  | (simp [State.reserve, goesOn_ite, apply_ite State.pending, apply_dite State.pending]; done)
  | (unfold State.reserve; (try dsimp only); (repeat' split) <;> first | (simp [apply_ite State.pending, apply_dite State.pending, *]; done) | (simp [State.offer_pending _ _ _ _ (by assumption), *]; done) | (simp [State.take_pending _ _ _ _ (by assumption), *]; done) | ((try rw [goesOn_next]); refine (foldl_pending _ _ _ ?_).trans ?_ <;> (first | (intro s a; (repeat' split) <;> simp; done) | simp; done)) | rfl)
@[simp] theorem State.drainHq6_pending (s : State) (x0 : Nat) : (State.drainHq6 s x0).pending = s.pending := by
  induction x0 generalizing s with
  | zero => rfl
  | succ k ih => (unfold State.drainHq6; (try dsimp only); (repeat' split) <;> first | (simp [apply_ite State.pending, apply_dite State.pending, ih, *]; done) | (simp [State.offer_pending _ _ _ _ (by assumption), ih, *]; done) | (simp [State.take_pending _ _ _ _ (by assumption), ih, *]; done) | ((try rw [goesOn_next]); refine (foldl_pending _ _ _ ?_).trans ?_ <;> (first | (intro s a; (repeat' split) <;> simp; done) | simp; done)) | rfl)
@[simp] theorem State.drainCq_pending (s : State) : (State.drainCq s).pending = s.pending := by
  first
  | (simp [State.drainCq, goesOn_ite, apply_ite State.pending, apply_dite State.pending]; done)
  | (unfold State.drainCq; (try dsimp only); (repeat' split) <;> first | (simp [apply_ite State.pending, apply_dite State.pending, *]; done) | (simp [State.offer_pending _ _ _ _ (by assumption), *]; done) | (simp [State.take_pending _ _ _ _ (by assumption), *]; done) | ((try rw [goesOn_next]); refine (foldl_pending _ _ _ ?_).trans ?_ <;> (first | (intro s a; (repeat' split) <;> simp; done) | simp; done)) | rfl)
@[simp] theorem State.hostAdmit_pending (s : State) (c : HostCmd) (id : Nat) : (State.hostAdmit s c id).pending = s.pending := by
  first
  | (simp [State.hostAdmit, goesOn_ite, apply_ite State.pending, apply_dite State.pending]; done)
  | (unfold State.hostAdmit; (try dsimp only); (repeat' split) <;> first | (simp [apply_ite State.pending, apply_dite State.pending, *]; done) | (simp [State.offer_pending _ _ _ _ (by assumption), *]; done) | (simp [State.take_pending _ _ _ _ (by assumption), *]; done) | ((try rw [goesOn_next]); refine (foldl_pending _ _ _ ?_).trans ?_ <;> (first | (intro s a; (repeat' split) <;> simp; done) | simp; done)) | rfl)
@[simp] theorem State.answer_pending (s : State) (w : Work) (adm : Nat) (result : Nat) (value : Nat) : (State.answer s w adm result value).pending = s.pending := by
  first
  | (simp [State.answer, goesOn_ite, apply_ite State.pending, apply_dite State.pending]; done)
  | (unfold State.answer; (try dsimp only); (repeat' split) <;> first | (simp [apply_ite State.pending, apply_dite State.pending, *]; done) | (simp [State.offer_pending _ _ _ _ (by assumption), *]; done) | (simp [State.take_pending _ _ _ _ (by assumption), *]; done) | ((try rw [goesOn_next]); refine (foldl_pending _ _ _ ?_).trans ?_ <;> (first | (intro s a; (repeat' split) <;> simp; done) | simp; done)) | rfl)
@[simp] theorem State.setSlot_pending (s : State) (slot : Nat) (e : Option DirEntry) (w : Option Nat) : (State.setSlot s slot e w).pending = s.pending := by
  first
  | (simp [State.setSlot, goesOn_ite, apply_ite State.pending, apply_dite State.pending]; done)
  | (unfold State.setSlot; (try dsimp only); (repeat' split) <;> first | (simp [apply_ite State.pending, apply_dite State.pending, *]; done) | (simp [State.offer_pending _ _ _ _ (by assumption), *]; done) | (simp [State.take_pending _ _ _ _ (by assumption), *]; done) | ((try rw [goesOn_next]); refine (foldl_pending _ _ _ ?_).trans ?_ <;> (first | (intro s a; (repeat' split) <;> simp; done) | simp; done)) | rfl)
@[simp] theorem State.eraseFlash_pending (s : State) (a : Nat) (n : Nat) : (State.eraseFlash s a n).pending = s.pending := by
  first
  | (simp [State.eraseFlash, goesOn_ite, apply_ite State.pending, apply_dite State.pending]; done)
  | (unfold State.eraseFlash; (try dsimp only); (repeat' split) <;> first | (simp [apply_ite State.pending, apply_dite State.pending, *]; done) | (simp [State.offer_pending _ _ _ _ (by assumption), *]; done) | (simp [State.take_pending _ _ _ _ (by assumption), *]; done) | ((try rw [goesOn_next]); refine (foldl_pending _ _ _ ?_).trans ?_ <;> (first | (intro s a; (repeat' split) <;> simp; done) | simp; done)) | rfl)
@[simp] theorem State.progFlash_pending (s : State) (a : Nat) (bs : List Byte) : (State.progFlash s a bs).pending = s.pending := by
  first
  | (simp [State.progFlash, goesOn_ite, apply_ite State.pending, apply_dite State.pending]; done)
  | (unfold State.progFlash; (try dsimp only); (repeat' split) <;> first | (simp [apply_ite State.pending, apply_dite State.pending, *]; done) | (simp [State.offer_pending _ _ _ _ (by assumption), *]; done) | (simp [State.take_pending _ _ _ _ (by assumption), *]; done) | ((try rw [goesOn_next]); refine (foldl_pending _ _ _ ?_).trans ?_ <;> (first | (intro s a; (repeat' split) <;> simp; done) | simp; done)) | rfl)
@[simp] theorem State.slotRecord_pending (s : State) (slot : Nat) (result : Nat) : (State.slotRecord s slot result).pending = s.pending := by
  first
  | (simp [State.slotRecord, goesOn_ite, apply_ite State.pending, apply_dite State.pending]; done)
  | (unfold State.slotRecord; (try dsimp only); (repeat' split) <;> first | (simp [apply_ite State.pending, apply_dite State.pending, *]; done) | (simp [State.offer_pending _ _ _ _ (by assumption), *]; done) | (simp [State.take_pending _ _ _ _ (by assumption), *]; done) | ((try rw [goesOn_next]); refine (foldl_pending _ _ _ ?_).trans ?_ <;> (first | (intro s a; (repeat' split) <;> simp; done) | simp; done)) | rfl)
@[simp] theorem State.slotStart_pending (s : State) (w : Work) (bytes : List Byte) : (State.slotStart s w bytes).pending = s.pending := by
  first
  | (simp [State.slotStart, goesOn_ite, apply_ite State.pending, apply_dite State.pending]; done)
  | (unfold State.slotStart; (try dsimp only); (repeat' split) <;> first | (simp [apply_ite State.pending, apply_dite State.pending, *]; done) | (simp [State.offer_pending _ _ _ _ (by assumption), *]; done) | (simp [State.take_pending _ _ _ _ (by assumption), *]; done) | ((try rw [goesOn_next]); refine (foldl_pending _ _ _ ?_).trans ?_ <;> (first | (intro s a; (repeat' split) <;> simp; done) | simp; done)) | rfl)
@[simp] theorem State.slotEnd_pending (s : State) (j : SlotJob) (ok : Bool) : (State.slotEnd s j ok).pending = s.pending := by
  first
  | (simp [State.slotEnd, goesOn_ite, apply_ite State.pending, apply_dite State.pending]; done)
  | (unfold State.slotEnd; (try dsimp only); (repeat' split) <;> first | (simp [apply_ite State.pending, apply_dite State.pending, *]; done) | (simp [State.offer_pending _ _ _ _ (by assumption), *]; done) | (simp [State.take_pending _ _ _ _ (by assumption), *]; done) | ((try rw [goesOn_next]); refine (foldl_pending _ _ _ ?_).trans ?_ <;> (first | (intro s a; (repeat' split) <;> simp; done) | simp; done)) | rfl)
@[simp] theorem State.freshNonce_pending (s : State) : (State.freshNonce s).pending = s.pending := by
  first
  | (simp [State.freshNonce, goesOn_ite, apply_ite State.pending, apply_dite State.pending]; done)
  | (unfold State.freshNonce; (try dsimp only); (repeat' split) <;> first | (simp [apply_ite State.pending, apply_dite State.pending, *]; done) | (simp [State.offer_pending _ _ _ _ (by assumption), *]; done) | (simp [State.take_pending _ _ _ _ (by assumption), *]; done) | ((try rw [goesOn_next]); refine (foldl_pending _ _ _ ?_).trans ?_ <;> (first | (intro s a; (repeat' split) <;> simp; done) | simp; done)) | rfl)
@[simp] theorem State.freshChal_pending (s : State) : (State.freshChal s).pending = s.pending := by
  first
  | (simp [State.freshChal, goesOn_ite, apply_ite State.pending, apply_dite State.pending]; done)
  | (unfold State.freshChal; (try dsimp only); (repeat' split) <;> first | (simp [apply_ite State.pending, apply_dite State.pending, *]; done) | (simp [State.offer_pending _ _ _ _ (by assumption), *]; done) | (simp [State.take_pending _ _ _ _ (by assumption), *]; done) | ((try rw [goesOn_next]); refine (foldl_pending _ _ _ ?_).trans ?_ <;> (first | (intro s a; (repeat' split) <;> simp; done) | simp; done)) | rfl)
@[simp] theorem State.secStart_pending (s : State) (j : SecJob) : (State.secStart s j).pending = s.pending := by
  first
  | (simp [State.secStart, goesOn_ite, apply_ite State.pending, apply_dite State.pending]; done)
  | (unfold State.secStart; (try dsimp only); (repeat' split) <;> first | (simp [apply_ite State.pending, apply_dite State.pending, *]; done) | (simp [State.offer_pending _ _ _ _ (by assumption), *]; done) | (simp [State.take_pending _ _ _ _ (by assumption), *]; done) | ((try rw [goesOn_next]); refine (foldl_pending _ _ _ ?_).trans ?_ <;> (first | (intro s a; (repeat' split) <;> simp; done) | simp; done)) | rfl)
@[simp] theorem State.progKey_pending (s : State) (e : Nat × Nat × Nat × List Byte) : (State.progKey s e).pending = s.pending := by
  first
  | (simp [State.progKey, goesOn_ite, apply_ite State.pending, apply_dite State.pending]; done)
  | (unfold State.progKey; (try dsimp only); (repeat' split) <;> first | (simp [apply_ite State.pending, apply_dite State.pending, *]; done) | (simp [State.offer_pending _ _ _ _ (by assumption), *]; done) | (simp [State.take_pending _ _ _ _ (by assumption), *]; done) | ((try rw [goesOn_next]); refine (foldl_pending _ _ _ ?_).trans ?_ <;> (first | (intro s a; (repeat' split) <;> simp; done) | simp; done)) | rfl)
@[simp] theorem State.toLife_pending (s : State) (lc : Nat) : (State.toLife s lc).pending = s.pending := by
  first
  | (simp [State.toLife, goesOn_ite, apply_ite State.pending, apply_dite State.pending]; done)
  | (unfold State.toLife; (try dsimp only); (repeat' split) <;> first | (simp [apply_ite State.pending, apply_dite State.pending, *]; done) | (simp [State.offer_pending _ _ _ _ (by assumption), *]; done) | (simp [State.take_pending _ _ _ _ (by assumption), *]; done) | ((try rw [goesOn_next]); refine (foldl_pending _ _ _ ?_).trans ?_ <;> (first | (intro s a; (repeat' split) <;> simp; done) | simp; done)) | rfl)
@[simp] theorem State.opEffect_pending (s : State) (b : List Byte) : (State.opEffect s b).pending = s.pending := by
  first
  | (simp [State.opEffect, goesOn_ite, apply_ite State.pending, apply_dite State.pending]; done)
  | (unfold State.opEffect; (try dsimp only); (repeat' split) <;> first | (simp [apply_ite State.pending, apply_dite State.pending, *]; done) | (simp [State.offer_pending _ _ _ _ (by assumption), *]; done) | (simp [State.take_pending _ _ _ _ (by assumption), *]; done) | ((try rw [goesOn_next]); refine (foldl_pending _ _ _ ?_).trans ?_ <;> (first | (intro s a; (repeat' split) <;> simp; done) | simp; done)) | rfl)
@[simp] theorem State.secResult_pending (s : State) (code : Nat) : (State.secResult s code).pending = s.pending := by
  first
  | (simp [State.secResult, goesOn_ite, apply_ite State.pending, apply_dite State.pending]; done)
  | (unfold State.secResult; (try dsimp only); (repeat' split) <;> first | (simp [apply_ite State.pending, apply_dite State.pending, *]; done) | (simp [State.offer_pending _ _ _ _ (by assumption), *]; done) | (simp [State.take_pending _ _ _ _ (by assumption), *]; done) | ((try rw [goesOn_next]); refine (foldl_pending _ _ _ ?_).trans ?_ <;> (first | (intro s a; (repeat' split) <;> simp; done) | simp; done)) | rfl)
@[simp] theorem State.secAnswer_pending (s : State) (w : Option Work) (code : Nat) (value : Nat) : (State.secAnswer s w code value).pending = s.pending := by
  first
  | (simp [State.secAnswer, goesOn_ite, apply_ite State.pending, apply_dite State.pending]; done)
  | (unfold State.secAnswer; (try dsimp only); (repeat' split) <;> first | (simp [apply_ite State.pending, apply_dite State.pending, *]; done) | (simp [State.offer_pending _ _ _ _ (by assumption), *]; done) | (simp [State.take_pending _ _ _ _ (by assumption), *]; done) | ((try rw [goesOn_next]); refine (foldl_pending _ _ _ ?_).trans ?_ <;> (first | (intro s a; (repeat' split) <;> simp; done) | simp; done)) | rfl)
@[simp] theorem State.endCommand_pending (s : State) (j : SecJob) : (State.endCommand s j).pending = s.pending := by
  first
  | (simp [State.endCommand, goesOn_ite, apply_ite State.pending, apply_dite State.pending]; done)
  | (unfold State.endCommand; (try dsimp only); (repeat' split) <;> first | (simp [apply_ite State.pending, apply_dite State.pending, *]; done) | (simp [State.offer_pending _ _ _ _ (by assumption), *]; done) | (simp [State.take_pending _ _ _ _ (by assumption), *]; done) | ((try rw [goesOn_next]); refine (foldl_pending _ _ _ ?_).trans ?_ <;> (first | (intro s a; (repeat' split) <;> simp; done) | simp; done)) | rfl)
@[simp] theorem State.resumeCore_pending (s : State) (c : Fin 8) : (State.resumeCore s c).pending = s.pending := by
  first
  | (simp [State.resumeCore, goesOn_ite, apply_ite State.pending, apply_dite State.pending]; done)
  | (unfold State.resumeCore; (try dsimp only); (repeat' split) <;> first | (simp [apply_ite State.pending, apply_dite State.pending, *]; done) | (simp [State.offer_pending _ _ _ _ (by assumption), *]; done) | (simp [State.take_pending _ _ _ _ (by assumption), *]; done) | ((try rw [goesOn_next]); refine (foldl_pending _ _ _ ?_).trans ?_ <;> (first | (intro s a; (repeat' split) <;> simp; done) | simp; done)) | rfl)
@[simp] theorem State.resumeAll_pending (s : State) : (State.resumeAll s).pending = s.pending := by
  first
  | (simp [State.resumeAll, goesOn_ite, apply_ite State.pending, apply_dite State.pending]; done)
  | (unfold State.resumeAll; (try dsimp only); (repeat' split) <;> first | (simp [apply_ite State.pending, apply_dite State.pending, *]; done) | (simp [State.offer_pending _ _ _ _ (by assumption), *]; done) | (simp [State.take_pending _ _ _ _ (by assumption), *]; done) | ((try rw [goesOn_next]); refine (foldl_pending _ _ _ ?_).trans ?_ <;> (first | (intro s a; (repeat' split) <;> simp; done) | simp; done)) | rfl)
@[simp] theorem State.dropBreaks_pending (s : State) : (State.dropBreaks s).pending = s.pending := by
  first
  | (simp [State.dropBreaks, goesOn_ite, apply_ite State.pending, apply_dite State.pending]; done)
  | (unfold State.dropBreaks; (try dsimp only); (repeat' split) <;> first | (simp [apply_ite State.pending, apply_dite State.pending, *]; done) | (simp [State.offer_pending _ _ _ _ (by assumption), *]; done) | (simp [State.take_pending _ _ _ _ (by assumption), *]; done) | ((try rw [goesOn_next]); refine (foldl_pending _ _ _ ?_).trans ?_ <;> (first | (intro s a; (repeat' split) <;> simp; done) | simp; done)) | rfl)
@[simp] theorem State.relock_pending (s : State) (cause : Nat) : (State.relock s cause).pending = s.pending := by
  first
  | (simp [State.relock, goesOn_ite, apply_ite State.pending, apply_dite State.pending]; done)
  | (unfold State.relock; (try dsimp only); (repeat' split) <;> first | (simp [apply_ite State.pending, apply_dite State.pending, *]; done) | (simp [State.offer_pending _ _ _ _ (by assumption), *]; done) | (simp [State.take_pending _ _ _ _ (by assumption), *]; done) | ((try rw [goesOn_next]); refine (foldl_pending _ _ _ ?_).trans ?_ <;> (first | (intro s a; (repeat' split) <;> simp; done) | simp; done)) | rfl)
@[simp] theorem State.endToken_pending (s : State) (j : SecJob) : (State.endToken s j).pending = s.pending := by
  first
  | (simp [State.endToken, goesOn_ite, apply_ite State.pending, apply_dite State.pending]; done)
  | (unfold State.endToken; (try dsimp only); (repeat' split) <;> first | (simp [apply_ite State.pending, apply_dite State.pending, *]; done) | (simp [State.offer_pending _ _ _ _ (by assumption), *]; done) | (simp [State.take_pending _ _ _ _ (by assumption), *]; done) | ((try rw [goesOn_next]); refine (foldl_pending _ _ _ ?_).trans ?_ <;> (first | (intro s a; (repeat' split) <;> simp; done) | simp; done)) | rfl)
@[simp] theorem State.endAttest_pending (s : State) (j : SecJob) : (State.endAttest s j).pending = s.pending := by
  first
  | (simp [State.endAttest, goesOn_ite, apply_ite State.pending, apply_dite State.pending]; done)
  | (unfold State.endAttest; (try dsimp only); (repeat' split) <;> first | (simp [apply_ite State.pending, apply_dite State.pending, *]; done) | (simp [State.offer_pending _ _ _ _ (by assumption), *]; done) | (simp [State.take_pending _ _ _ _ (by assumption), *]; done) | ((try rw [goesOn_next]); refine (foldl_pending _ _ _ ?_).trans ?_ <;> (first | (intro s a; (repeat' split) <;> simp; done) | simp; done)) | rfl)
@[simp] theorem State.secEnd_pending (s : State) : (State.secEnd s).pending = s.pending := by
  first
  | (simp [State.secEnd, goesOn_ite, apply_ite State.pending, apply_dite State.pending]; done)
  | (unfold State.secEnd; (try dsimp only); (repeat' split) <;> first | (simp [apply_ite State.pending, apply_dite State.pending, *]; done) | (simp [State.offer_pending _ _ _ _ (by assumption), *]; done) | (simp [State.take_pending _ _ _ _ (by assumption), *]; done) | ((try rw [goesOn_next]); refine (foldl_pending _ _ _ ?_).trans ?_ <;> (first | (intro s a; (repeat' split) <;> simp; done) | simp; done)) | rfl)
@[simp] theorem State.secureGo_pending (s : State) (op : Nat) (bytes : List Byte) (rsa : Bool) (slh : Bool) : (State.secureGo s op bytes rsa slh).pending = s.pending := by
  first
  | (simp [State.secureGo, goesOn_ite, apply_ite State.pending, apply_dite State.pending]; done)
  | (unfold State.secureGo; (try dsimp only); (repeat' split) <;> first | (simp [apply_ite State.pending, apply_dite State.pending, *]; done) | (simp [State.offer_pending _ _ _ _ (by assumption), *]; done) | (simp [State.take_pending _ _ _ _ (by assumption), *]; done) | ((try rw [goesOn_next]); refine (foldl_pending _ _ _ ?_).trans ?_ <;> (first | (intro s a; (repeat' split) <;> simp; done) | simp; done)) | rfl)
@[simp] theorem State.ringCfg_pending (s : State) (cq : Bool) (v : Nat) : (State.ringCfg s cq v).pending = s.pending := by
  first
  | (simp [State.ringCfg, goesOn_ite, apply_ite State.pending, apply_dite State.pending]; done)
  | (unfold State.ringCfg; (try dsimp only); (repeat' split) <;> first | (simp [apply_ite State.pending, apply_dite State.pending, *]; done) | (simp [State.offer_pending _ _ _ _ (by assumption), *]; done) | (simp [State.take_pending _ _ _ _ (by assumption), *]; done) | ((try rw [goesOn_next]); refine (foldl_pending _ _ _ ?_).trans ?_ <;> (first | (intro s a; (repeat' split) <;> simp; done) | simp; done)) | rfl)
@[simp] theorem State.pcieReset_pending (s : State) : (State.pcieReset s).pending = s.pending := by
  first
  | (simp [State.pcieReset, goesOn_ite, apply_ite State.pending, apply_dite State.pending]; done)
  | (unfold State.pcieReset; (try dsimp only); (repeat' split) <;> first | (simp [apply_ite State.pending, apply_dite State.pending, *]; done) | (simp [State.offer_pending _ _ _ _ (by assumption), *]; done) | (simp [State.take_pending _ _ _ _ (by assumption), *]; done) | ((try rw [goesOn_next]); refine (foldl_pending _ _ _ ?_).trans ?_ <;> (first | (intro s a; (repeat' split) <;> simp; done) | simp; done)) | rfl)
@[simp] theorem State.doorbell_pending (s : State) (v : Nat) : (State.doorbell s v).pending = s.pending := by
  first
  | (simp [State.doorbell, goesOn_ite, apply_ite State.pending, apply_dite State.pending]; done)
  | (unfold State.doorbell; (try dsimp only); (repeat' split) <;> first | (simp [apply_ite State.pending, apply_dite State.pending, *]; done) | (simp [State.offer_pending _ _ _ _ (by assumption), *]; done) | (simp [State.take_pending _ _ _ _ (by assumption), *]; done) | ((try rw [goesOn_next]); refine (foldl_pending _ _ _ ?_).trans ?_ <;> (first | (intro s a; (repeat' split) <;> simp; done) | simp; done)) | rfl)
@[simp] theorem State.offerCode_pending (s : State) (n : Fin 16) (i : QItem) : (State.offerCode s n i).1.pending = s.pending := by
  first
  | (simp [State.offerCode, goesOn_ite, apply_ite State.pending, apply_dite State.pending]; done)
  | (unfold State.offerCode; (try dsimp only); (repeat' split) <;> first | (simp [apply_ite State.pending, apply_dite State.pending, *]; done) | (simp [State.offer_pending _ _ _ _ (by assumption), *]; done) | (simp [State.take_pending _ _ _ _ (by assumption), *]; done) | ((try rw [goesOn_next]); refine (foldl_pending _ _ _ ?_).trans ?_ <;> (first | (intro s a; (repeat' split) <;> simp; done) | simp; done)) | rfl)
@[simp] theorem State.corePut_pending (s : State) (queue : Nat) (len : Nat) (b : Body) : (State.corePut s queue len b).1.pending = s.pending := by
  first
  | (simp [State.corePut, goesOn_ite, apply_ite State.pending, apply_dite State.pending]; done)
  | (unfold State.corePut; (try dsimp only); (repeat' split) <;> first | (simp [apply_ite State.pending, apply_dite State.pending, *]; done) | (simp [State.offer_pending _ _ _ _ (by assumption), *]; done) | (simp [State.take_pending _ _ _ _ (by assumption), *]; done) | ((try rw [goesOn_next]); refine (foldl_pending _ _ _ ?_).trans ?_ <;> (first | (intro s a; (repeat' split) <;> simp; done) | simp; done)) | rfl)
@[simp] theorem execPcieReset_goesOn (s : State) : goesOn s (execPcieReset s) := by
  first
  | (simp [execPcieReset, goesOn_ite, apply_ite State.pending, apply_dite State.pending]; done)
  | (unfold execPcieReset; (try dsimp only); (repeat' split) <;> first | (simp [apply_ite State.pending, apply_dite State.pending, *]; done) | (simp [State.offer_pending _ _ _ _ (by assumption), *]; done) | (simp [State.take_pending _ _ _ _ (by assumption), *]; done) | ((try rw [goesOn_next]); refine (foldl_pending _ _ _ ?_).trans ?_ <;> (first | (intro s a; (repeat' split) <;> simp; done) | simp; done)) | rfl)
@[simp] theorem execCorePut_goesOn (c : Fin 8) (queue : Nat) (len : Nat) (b : Body) (s : State) : goesOn s (execCorePut c queue len b s) := by
  first
  | (simp [execCorePut, goesOn_ite, apply_ite State.pending, apply_dite State.pending]; done)
  | (unfold execCorePut; (try dsimp only); (repeat' split) <;> first | (simp [apply_ite State.pending, apply_dite State.pending, *]; done) | (simp [State.offer_pending _ _ _ _ (by assumption), *]; done) | (simp [State.take_pending _ _ _ _ (by assumption), *]; done) | ((try rw [goesOn_next]); refine (foldl_pending _ _ _ ?_).trans ?_ <;> (first | (intro s a; (repeat' split) <;> simp; done) | simp; done)) | rfl)
@[simp] theorem execDoorbell_goesOn (value : Word) (s : State) : goesOn s (execDoorbell value s) := by
  first
  | (simp [execDoorbell, goesOn_ite, apply_ite State.pending, apply_dite State.pending]; done)
  | (unfold execDoorbell; (try dsimp only); (repeat' split) <;> first | (simp [apply_ite State.pending, apply_dite State.pending, *]; done) | (simp [State.offer_pending _ _ _ _ (by assumption), *]; done) | (simp [State.take_pending _ _ _ _ (by assumption), *]; done) | ((try rw [goesOn_next]); refine (foldl_pending _ _ _ ?_).trans ?_ <;> (first | (intro s a; (repeat' split) <;> simp; done) | simp; done)) | rfl)
@[simp] theorem execHostRingCfg_goesOn (cq : Bool) (value : Word) (s : State) : goesOn s (execHostRingCfg cq value s) := by
  first
  | (simp [execHostRingCfg, goesOn_ite, apply_ite State.pending, apply_dite State.pending]; done)
  | (unfold execHostRingCfg; (try dsimp only); (repeat' split) <;> first | (simp [apply_ite State.pending, apply_dite State.pending, *]; done) | (simp [State.offer_pending _ _ _ _ (by assumption), *]; done) | (simp [State.take_pending _ _ _ _ (by assumption), *]; done) | ((try rw [goesOn_next]); refine (foldl_pending _ _ _ ?_).trans ?_ <;> (first | (intro s a; (repeat' split) <;> simp; done) | simp; done)) | rfl)
@[simp] theorem execCommandFetch_goesOn (c : HostCmd) (s : State) : goesOn s (execCommandFetch c s) := by
  first
  | (simp [execCommandFetch, goesOn_ite, apply_ite State.pending, apply_dite State.pending]; done)
  | (unfold execCommandFetch; (try dsimp only); (repeat' split) <;> first | (simp [apply_ite State.pending, apply_dite State.pending, *]; done) | (simp [State.offer_pending _ _ _ _ (by assumption), *]; done) | (simp [State.take_pending _ _ _ _ (by assumption), *]; done) | ((try rw [goesOn_next]); refine (foldl_pending _ _ _ ?_).trans ?_ <;> (first | (intro s a; (repeat' split) <;> simp; done) | simp; done)) | rfl)
@[simp] theorem execHostSegment_goesOn (s : State) : goesOn s (execHostSegment s) := by
  first
  | (simp [execHostSegment, goesOn_ite, apply_ite State.pending, apply_dite State.pending]; done)
  | (unfold execHostSegment; (try dsimp only); (repeat' split) <;> first | (simp [apply_ite State.pending, apply_dite State.pending, *]; done) | (simp [State.offer_pending _ _ _ _ (by assumption), *]; done) | (simp [State.take_pending _ _ _ _ (by assumption), *]; done) | ((try rw [goesOn_next]); refine (foldl_pending _ _ _ ?_).trans ?_ <;> (first | (intro s a; (repeat' split) <;> simp; done) | simp; done)) | rfl)
@[simp] theorem execHostWheelIns_goesOn (s : State) : goesOn s (execHostWheelIns s) := by
  first
  | (simp [execHostWheelIns, goesOn_ite, apply_ite State.pending, apply_dite State.pending]; done)
  | (unfold execHostWheelIns; (try dsimp only); (repeat' split) <;> first | (simp [apply_ite State.pending, apply_dite State.pending, *]; done) | (simp [State.offer_pending _ _ _ _ (by assumption), *]; done) | (simp [State.take_pending _ _ _ _ (by assumption), *]; done) | ((try rw [goesOn_next]); refine (foldl_pending _ _ _ ?_).trans ?_ <;> (first | (intro s a; (repeat' split) <;> simp; done) | simp; done)) | rfl)
@[simp] theorem execHostWheelCancel_goesOn (s : State) : goesOn s (execHostWheelCancel s) := by
  first
  | (simp [execHostWheelCancel, goesOn_ite, apply_ite State.pending, apply_dite State.pending]; done)
  | (unfold execHostWheelCancel; (try dsimp only); (repeat' split) <;> first | (simp [apply_ite State.pending, apply_dite State.pending, *]; done) | (simp [State.offer_pending _ _ _ _ (by assumption), *]; done) | (simp [State.take_pending _ _ _ _ (by assumption), *]; done) | ((try rw [goesOn_next]); refine (foldl_pending _ _ _ ?_).trans ?_ <;> (first | (intro s a; (repeat' split) <;> simp; done) | simp; done)) | rfl)
@[simp] theorem execSlotWrite_goesOn (bytes : List Byte) (s : State) : goesOn s (execSlotWrite bytes s) := by
  first
  | (simp [execSlotWrite, goesOn_ite, apply_ite State.pending, apply_dite State.pending]; done)
  | (unfold execSlotWrite; (try dsimp only); (repeat' split) <;> first | (simp [apply_ite State.pending, apply_dite State.pending, *]; done) | (simp [State.offer_pending _ _ _ _ (by assumption), *]; done) | (simp [State.take_pending _ _ _ _ (by assumption), *]; done) | ((try rw [goesOn_next]); refine (foldl_pending _ _ _ ?_).trans ?_ <;> (first | (intro s a; (repeat' split) <;> simp; done) | simp; done)) | rfl)
@[simp] theorem execSlotWriteDone_goesOn (ok : Bool) (s : State) : goesOn s (execSlotWriteDone ok s) := by
  first
  | (simp [execSlotWriteDone, goesOn_ite, apply_ite State.pending, apply_dite State.pending]; done)
  | (unfold execSlotWriteDone; (try dsimp only); (repeat' split) <;> first | (simp [apply_ite State.pending, apply_dite State.pending, *]; done) | (simp [State.offer_pending _ _ _ _ (by assumption), *]; done) | (simp [State.take_pending _ _ _ _ (by assumption), *]; done) | ((try rw [goesOn_next]); refine (foldl_pending _ _ _ ?_).trans ?_ <;> (first | (intro s a; (repeat' split) <;> simp; done) | simp; done)) | rfl)
@[simp] theorem execSlotErase_goesOn (s : State) : goesOn s (execSlotErase s) := by
  first
  | (simp [execSlotErase, goesOn_ite, apply_ite State.pending, apply_dite State.pending]; done)
  | (unfold execSlotErase; (try dsimp only); (repeat' split) <;> first | (simp [apply_ite State.pending, apply_dite State.pending, *]; done) | (simp [State.offer_pending _ _ _ _ (by assumption), *]; done) | (simp [State.take_pending _ _ _ _ (by assumption), *]; done) | ((try rw [goesOn_next]); refine (foldl_pending _ _ _ ?_).trans ?_ <;> (first | (intro s a; (repeat' split) <;> simp; done) | simp; done)) | rfl)
@[simp] theorem execSecureProvision_goesOn (bytes : List Byte) (s : State) : goesOn s (execSecureProvision bytes s) := by
  first
  | (simp [execSecureProvision, goesOn_ite, apply_ite State.pending, apply_dite State.pending]; done)
  | (unfold execSecureProvision; (try dsimp only); (repeat' split) <;> first | (simp [apply_ite State.pending, apply_dite State.pending, *]; done) | (simp [State.offer_pending _ _ _ _ (by assumption), *]; done) | (simp [State.take_pending _ _ _ _ (by assumption), *]; done) | ((try rw [goesOn_next]); refine (foldl_pending _ _ _ ?_).trans ?_ <;> (first | (intro s a; (repeat' split) <;> simp; done) | simp; done)) | rfl)
@[simp] theorem execSecureAddKey_goesOn (bytes : List Byte) (rsa : Bool) (slh : Bool) (s : State) : goesOn s (execSecureAddKey bytes rsa slh s) := by
  first
  | (simp [execSecureAddKey, goesOn_ite, apply_ite State.pending, apply_dite State.pending]; done)
  | (unfold execSecureAddKey; (try dsimp only); (repeat' split) <;> first | (simp [apply_ite State.pending, apply_dite State.pending, *]; done) | (simp [State.offer_pending _ _ _ _ (by assumption), *]; done) | (simp [State.take_pending _ _ _ _ (by assumption), *]; done) | ((try rw [goesOn_next]); refine (foldl_pending _ _ _ ?_).trans ?_ <;> (first | (intro s a; (repeat' split) <;> simp; done) | simp; done)) | rfl)
@[simp] theorem execSecureRevoke_goesOn (bytes : List Byte) (rsa : Bool) (slh : Bool) (s : State) : goesOn s (execSecureRevoke bytes rsa slh s) := by
  first
  | (simp [execSecureRevoke, goesOn_ite, apply_ite State.pending, apply_dite State.pending]; done)
  | (unfold execSecureRevoke; (try dsimp only); (repeat' split) <;> first | (simp [apply_ite State.pending, apply_dite State.pending, *]; done) | (simp [State.offer_pending _ _ _ _ (by assumption), *]; done) | (simp [State.take_pending _ _ _ _ (by assumption), *]; done) | ((try rw [goesOn_next]); refine (foldl_pending _ _ _ ?_).trans ?_ <;> (first | (intro s a; (repeat' split) <;> simp; done) | simp; done)) | rfl)
@[simp] theorem execSecureSvn_goesOn (bytes : List Byte) (rsa : Bool) (slh : Bool) (s : State) : goesOn s (execSecureSvn bytes rsa slh s) := by
  first
  | (simp [execSecureSvn, goesOn_ite, apply_ite State.pending, apply_dite State.pending]; done)
  | (unfold execSecureSvn; (try dsimp only); (repeat' split) <;> first | (simp [apply_ite State.pending, apply_dite State.pending, *]; done) | (simp [State.offer_pending _ _ _ _ (by assumption), *]; done) | (simp [State.take_pending _ _ _ _ (by assumption), *]; done) | ((try rw [goesOn_next]); refine (foldl_pending _ _ _ ?_).trans ?_ <;> (first | (intro s a; (repeat' split) <;> simp; done) | simp; done)) | rfl)
@[simp] theorem execSecureLifecycle_goesOn (bytes : List Byte) (rsa : Bool) (slh : Bool) (s : State) : goesOn s (execSecureLifecycle bytes rsa slh s) := by
  first
  | (simp [execSecureLifecycle, goesOn_ite, apply_ite State.pending, apply_dite State.pending]; done)
  | (unfold execSecureLifecycle; (try dsimp only); (repeat' split) <;> first | (simp [apply_ite State.pending, apply_dite State.pending, *]; done) | (simp [State.offer_pending _ _ _ _ (by assumption), *]; done) | (simp [State.take_pending _ _ _ _ (by assumption), *]; done) | ((try rw [goesOn_next]); refine (foldl_pending _ _ _ ?_).trans ?_ <;> (first | (intro s a; (repeat' split) <;> simp; done) | simp; done)) | rfl)
@[simp] theorem execSecurityEngineDone_goesOn (s : State) : goesOn s (execSecurityEngineDone s) := by
  first
  | (simp [execSecurityEngineDone, goesOn_ite, apply_ite State.pending, apply_dite State.pending]; done)
  | (unfold execSecurityEngineDone; (try dsimp only); (repeat' split) <;> first | (simp [apply_ite State.pending, apply_dite State.pending, *]; done) | (simp [State.offer_pending _ _ _ _ (by assumption), *]; done) | (simp [State.take_pending _ _ _ _ (by assumption), *]; done) | ((try rw [goesOn_next]); refine (foldl_pending _ _ _ ?_).trans ?_ <;> (first | (intro s a; (repeat' split) <;> simp; done) | simp; done)) | rfl)
@[simp] theorem execAttest_goesOn (q : QuoteParts) (s : State) : goesOn s (execAttest q s) := by
  first
  | (simp [execAttest, goesOn_ite, apply_ite State.pending, apply_dite State.pending]; done)
  | (unfold execAttest; (try dsimp only); (repeat' split) <;> first | (simp [apply_ite State.pending, apply_dite State.pending, *]; done) | (simp [State.offer_pending _ _ _ _ (by assumption), *]; done) | (simp [State.take_pending _ _ _ _ (by assumption), *]; done) | ((try rw [goesOn_next]); refine (foldl_pending _ _ _ ?_).trans ?_ <;> (first | (intro s a; (repeat' split) <;> simp; done) | simp; done)) | rfl)
@[simp] theorem execDbgToken_goesOn (bytes : List Byte) (rsa : Bool) (slh : Bool) (s : State) : goesOn s (execDbgToken bytes rsa slh s) := by
  first
  | (simp [execDbgToken, goesOn_ite, apply_ite State.pending, apply_dite State.pending]; done)
  | (unfold execDbgToken; (try dsimp only); (repeat' split) <;> first | (simp [apply_ite State.pending, apply_dite State.pending, *]; done) | (simp [State.offer_pending _ _ _ _ (by assumption), *]; done) | (simp [State.take_pending _ _ _ _ (by assumption), *]; done) | ((try rw [goesOn_next]); refine (foldl_pending _ _ _ ?_).trans ?_ <;> (first | (intro s a; (repeat' split) <;> simp; done) | simp; done)) | rfl)
@[simp] theorem execHostCancel_goesOn (s : State) : goesOn s (execHostCancel s) := by
  first
  | (simp [execHostCancel, goesOn_ite, apply_ite State.pending, apply_dite State.pending]; done)
  | (unfold execHostCancel; (try dsimp only); (repeat' split) <;> first | (simp [apply_ite State.pending, apply_dite State.pending, *]; done) | (simp [State.offer_pending _ _ _ _ (by assumption), *]; done) | (simp [State.take_pending _ _ _ _ (by assumption), *]; done) | ((try rw [goesOn_next]); refine (foldl_pending _ _ _ ?_).trans ?_ <;> (first | (intro s a; (repeat' split) <;> simp; done) | simp; done)) | rfl)
@[simp] theorem execNop_goesOn (s : State) : goesOn s (execNop s) := by
  first
  | (simp [execNop, goesOn_ite, apply_ite State.pending, apply_dite State.pending]; done)
  | (unfold execNop; (try dsimp only); (repeat' split) <;> first | (simp [apply_ite State.pending, apply_dite State.pending, *]; done) | (simp [State.offer_pending _ _ _ _ (by assumption), *]; done) | (simp [State.take_pending _ _ _ _ (by assumption), *]; done) | ((try rw [goesOn_next]); refine (foldl_pending _ _ _ ?_).trans ?_ <;> (first | (intro s a; (repeat' split) <;> simp; done) | simp; done)) | rfl)
@[simp] theorem execHostHandlerCommand_goesOn (s : State) : goesOn s (execHostHandlerCommand s) := by
  first
  | (simp [execHostHandlerCommand, goesOn_ite, apply_ite State.pending, apply_dite State.pending]; done)
  | (unfold execHostHandlerCommand; (try dsimp only); (repeat' split) <;> first | (simp [apply_ite State.pending, apply_dite State.pending, *]; done) | (simp [State.offer_pending _ _ _ _ (by assumption), *]; done) | (simp [State.take_pending _ _ _ _ (by assumption), *]; done) | ((try rw [goesOn_next]); refine (foldl_pending _ _ _ ?_).trans ?_ <;> (first | (intro s a; (repeat' split) <;> simp; done) | simp; done)) | rfl)
@[simp] theorem execRecoveryFlashWrite_goesOn (offset : Nat) (bytes : List Byte) (s : State) : goesOn s (execRecoveryFlashWrite offset bytes s) := by
  first
  | (simp [execRecoveryFlashWrite, goesOn_ite, apply_ite State.pending, apply_dite State.pending]; done)
  | (unfold execRecoveryFlashWrite; (try dsimp only); (repeat' split) <;> first | (simp [apply_ite State.pending, apply_dite State.pending, *]; done) | (simp [State.offer_pending _ _ _ _ (by assumption), *]; done) | (simp [State.take_pending _ _ _ _ (by assumption), *]; done) | ((try rw [goesOn_next]); refine (foldl_pending _ _ _ ?_).trans ?_ <;> (first | (intro s a; (repeat' split) <;> simp; done) | simp; done)) | rfl)
@[simp] theorem execTokenExpiry_goesOn (t : Nat) (s : State) : goesOn s (execTokenExpiry t s) := by
  first
  | (simp [execTokenExpiry, goesOn_ite, apply_ite State.pending, apply_dite State.pending]; done)
  | (unfold execTokenExpiry; (try dsimp only); (repeat' split) <;> first | (simp [apply_ite State.pending, apply_dite State.pending, *]; done) | (simp [State.offer_pending _ _ _ _ (by assumption), *]; done) | (simp [State.take_pending _ _ _ _ (by assumption), *]; done) | ((try rw [goesOn_next]); refine (foldl_pending _ _ _ ?_).trans ?_ <;> (first | (intro s a; (repeat' split) <;> simp; done) | simp; done)) | rfl)

end Sys2Proof.Machine
end

