-- ==== Sys2Proof/Laws/QueueDebug.lean ====
section
/-! SUPPORT. The operations of Machine/Debug.lean leave the queue of waiting commands alone. -/

namespace Sys2Proof.Machine

@[simp] theorem State.stopCore_pending (s : State) (c : Fin 8) : (State.stopCore s c).pending = s.pending := by
  first
  | (simp [State.stopCore, goesOn_ite, apply_ite State.pending, apply_dite State.pending]; done)
  | (unfold State.stopCore; (try dsimp only); (repeat' split) <;> first | (simp [apply_ite State.pending, apply_dite State.pending, *]; done) | (simp [State.offer_pending _ _ _ _ (by assumption), *]; done) | (simp [State.take_pending _ _ _ _ (by assumption), *]; done) | ((try rw [goesOn_next]); refine (foldl_pending _ _ _ ?_).trans ?_ <;> (first | (intro s a; (repeat' split) <;> simp; done) | simp; done)) | rfl)
@[simp] theorem State.stopCluster_pending (s : State) (c : Fin 12) : (State.stopCluster s c).pending = s.pending := by
  first
  | (simp [State.stopCluster, goesOn_ite, apply_ite State.pending, apply_dite State.pending]; done)
  | (unfold State.stopCluster; (try dsimp only); (repeat' split) <;> first | (simp [apply_ite State.pending, apply_dite State.pending, *]; done) | (simp [State.offer_pending _ _ _ _ (by assumption), *]; done) | (simp [State.take_pending _ _ _ _ (by assumption), *]; done) | ((try rw [goesOn_next]); refine (foldl_pending _ _ _ ?_).trans ?_ <;> (first | (intro s a; (repeat' split) <;> simp; done) | simp; done)) | rfl)
@[simp] theorem State.haltCore_pending (s : State) (c : Fin 8) : (State.haltCore s c).pending = s.pending := by
  first
  | (simp [State.haltCore, goesOn_ite, apply_ite State.pending, apply_dite State.pending]; done)
  | (unfold State.haltCore; (try dsimp only); (repeat' split) <;> first | (simp [apply_ite State.pending, apply_dite State.pending, *]; done) | (simp [State.offer_pending _ _ _ _ (by assumption), *]; done) | (simp [State.take_pending _ _ _ _ (by assumption), *]; done) | ((try rw [goesOn_next]); refine (foldl_pending _ _ _ ?_).trans ?_ <;> (first | (intro s a; (repeat' split) <;> simp; done) | simp; done)) | rfl)
@[simp] theorem State.haltCluster_pending (s : State) (c : Fin 12) : (State.haltCluster s c).pending = s.pending := by
  first
  | (simp [State.haltCluster, goesOn_ite, apply_ite State.pending, apply_dite State.pending]; done)
  | (unfold State.haltCluster; (try dsimp only); (repeat' split) <;> first | (simp [apply_ite State.pending, apply_dite State.pending, *]; done) | (simp [State.offer_pending _ _ _ _ (by assumption), *]; done) | (simp [State.take_pending _ _ _ _ (by assumption), *]; done) | ((try rw [goesOn_next]); refine (foldl_pending _ _ _ ?_).trans ?_ <;> (first | (intro s a; (repeat' split) <;> simp; done) | simp; done)) | rfl)
@[simp] theorem State.haltWheel_pending (s : State) : (State.haltWheel s).pending = s.pending := by
  first
  | (simp [State.haltWheel, goesOn_ite, apply_ite State.pending, apply_dite State.pending]; done)
  | (unfold State.haltWheel; (try dsimp only); (repeat' split) <;> first | (simp [apply_ite State.pending, apply_dite State.pending, *]; done) | (simp [State.offer_pending _ _ _ _ (by assumption), *]; done) | (simp [State.take_pending _ _ _ _ (by assumption), *]; done) | ((try rw [goesOn_next]); refine (foldl_pending _ _ _ ?_).trans ?_ <;> (first | (intro s a; (repeat' split) <;> simp; done) | simp; done)) | rfl)
@[simp] theorem State.haltRef_pending (s : State) : (State.haltRef s).pending = s.pending := by
  first
  | (simp [State.haltRef, goesOn_ite, apply_ite State.pending, apply_dite State.pending]; done)
  | (unfold State.haltRef; (try dsimp only); (repeat' split) <;> first | (simp [apply_ite State.pending, apply_dite State.pending, *]; done) | (simp [State.offer_pending _ _ _ _ (by assumption), *]; done) | (simp [State.take_pending _ _ _ _ (by assumption), *]; done) | ((try rw [goesOn_next]); refine (foldl_pending _ _ _ ?_).trans ?_ <;> (first | (intro s a; (repeat' split) <;> simp; done) | simp; done)) | rfl)
@[simp] theorem State.dbgHalt_pending (s : State) : (State.dbgHalt s).pending = s.pending := by
  first
  | (simp [State.dbgHalt, goesOn_ite, apply_ite State.pending, apply_dite State.pending]; done)
  | (unfold State.dbgHalt; (try dsimp only); (repeat' split) <;> first | (simp [apply_ite State.pending, apply_dite State.pending, *]; done) | (simp [State.offer_pending _ _ _ _ (by assumption), *]; done) | (simp [State.take_pending _ _ _ _ (by assumption), *]; done) | ((try rw [goesOn_next]); refine (foldl_pending _ _ _ ?_).trans ?_ <;> (first | (intro s a; (repeat' split) <;> simp; done) | simp; done)) | rfl)
@[simp] theorem State.dbgResume_pending (s : State) : (State.dbgResume s).pending = s.pending := by
  first
  | (simp [State.dbgResume, goesOn_ite, apply_ite State.pending, apply_dite State.pending]; done)
  | (unfold State.dbgResume; (try dsimp only); (repeat' split) <;> first | (simp [apply_ite State.pending, apply_dite State.pending, *]; done) | (simp [State.offer_pending _ _ _ _ (by assumption), *]; done) | (simp [State.take_pending _ _ _ _ (by assumption), *]; done) | ((try rw [goesOn_next]); refine (foldl_pending _ _ _ ?_).trans ?_ <;> (first | (intro s a; (repeat' split) <;> simp; done) | simp; done)) | rfl)
@[simp] theorem State.stepEngine_pending (s : State) (c : Fin 12) (i : EInstr) : (State.stepEngine s c i).pending = s.pending := by
  first
  | (simp [State.stepEngine, goesOn_ite, apply_ite State.pending, apply_dite State.pending]; done)
  | (unfold State.stepEngine; (try dsimp only); (repeat' split) <;> first | (simp [apply_ite State.pending, apply_dite State.pending, *]; done) | (simp [State.offer_pending _ _ _ _ (by assumption), *]; done) | (simp [State.take_pending _ _ _ _ (by assumption), *]; done) | ((try rw [goesOn_next]); refine (foldl_pending _ _ _ ?_).trans ?_ <;> (first | (intro s a; (repeat' split) <;> simp; done) | simp; done)) | rfl)
@[simp] theorem State.dbgStep_pending (s : State) (i : EInstr) : (State.dbgStep s i).pending = s.pending := by
  first
  | (simp [State.dbgStep, goesOn_ite, apply_ite State.pending, apply_dite State.pending]; done)
  | (unfold State.dbgStep; (try dsimp only); (repeat' split) <;> first | (simp [apply_ite State.pending, apply_dite State.pending, *]; done) | (simp [State.offer_pending _ _ _ _ (by assumption), *]; done) | (simp [State.take_pending _ _ _ _ (by assumption), *]; done) | ((try rw [goesOn_next]); refine (foldl_pending _ _ _ ?_).trans ?_ <;> (first | (intro s a; (repeat' split) <;> simp; done) | simp; done)) | rfl)
@[simp] theorem State.takeDbgSnap_pending (s : State) (c : Fin 12) : (State.takeDbgSnap s c).pending = s.pending := by
  first
  | (simp [State.takeDbgSnap, goesOn_ite, apply_ite State.pending, apply_dite State.pending]; done)
  | (unfold State.takeDbgSnap; (try dsimp only); (repeat' split) <;> first | (simp [apply_ite State.pending, apply_dite State.pending, *]; done) | (simp [State.offer_pending _ _ _ _ (by assumption), *]; done) | (simp [State.take_pending _ _ _ _ (by assumption), *]; done) | ((try rw [goesOn_next]); refine (foldl_pending _ _ _ ?_).trans ?_ <;> (first | (intro s a; (repeat' split) <;> simp; done) | simp; done)) | rfl)
@[simp] theorem State.breakHit_pending (s : State) (n : Nat) : (State.breakHit s n).pending = s.pending := by
  first
  | (simp [State.breakHit, goesOn_ite, apply_ite State.pending, apply_dite State.pending]; done)
  | (unfold State.breakHit; (try dsimp only); (repeat' split) <;> first | (simp [apply_ite State.pending, apply_dite State.pending, *]; done) | (simp [State.offer_pending _ _ _ _ (by assumption), *]; done) | (simp [State.take_pending _ _ _ _ (by assumption), *]; done) | ((try rw [goesOn_next]); refine (foldl_pending _ _ _ ?_).trans ?_ <;> (first | (intro s a; (repeat' split) <;> simp; done) | simp; done)) | rfl)
@[simp] theorem execDbgHalt_goesOn (key : Nat) (s : State) : goesOn s (execDbgHalt key s) := by
  first
  | (simp [execDbgHalt, goesOn_ite, apply_ite State.pending, apply_dite State.pending]; done)
  | (unfold execDbgHalt; (try dsimp only); (repeat' split) <;> first | (simp [apply_ite State.pending, apply_dite State.pending, *]; done) | (simp [State.offer_pending _ _ _ _ (by assumption), *]; done) | (simp [State.take_pending _ _ _ _ (by assumption), *]; done) | ((try rw [goesOn_next]); refine (foldl_pending _ _ _ ?_).trans ?_ <;> (first | (intro s a; (repeat' split) <;> simp; done) | simp; done)) | rfl)
@[simp] theorem execDbgResume_goesOn (key : Nat) (s : State) : goesOn s (execDbgResume key s) := by
  first
  | (simp [execDbgResume, goesOn_ite, apply_ite State.pending, apply_dite State.pending]; done)
  | (unfold execDbgResume; (try dsimp only); (repeat' split) <;> first | (simp [apply_ite State.pending, apply_dite State.pending, *]; done) | (simp [State.offer_pending _ _ _ _ (by assumption), *]; done) | (simp [State.take_pending _ _ _ _ (by assumption), *]; done) | ((try rw [goesOn_next]); refine (foldl_pending _ _ _ ?_).trans ?_ <;> (first | (intro s a; (repeat' split) <;> simp; done) | simp; done)) | rfl)
@[simp] theorem execDbgStep_goesOn (key : Nat) (i : EInstr) (s : State) : goesOn s (execDbgStep key i s) := by
  first
  | (simp [execDbgStep, goesOn_ite, apply_ite State.pending, apply_dite State.pending]; done)
  | (unfold execDbgStep; (try dsimp only); (repeat' split) <;> first | (simp [apply_ite State.pending, apply_dite State.pending, *]; done) | (simp [State.offer_pending _ _ _ _ (by assumption), *]; done) | (simp [State.take_pending _ _ _ _ (by assumption), *]; done) | ((try rw [goesOn_next]); refine (foldl_pending _ _ _ ?_).trans ?_ <;> (first | (intro s a; (repeat' split) <;> simp; done) | simp; done)) | rfl)
@[simp] theorem execDbgRelock_goesOn (key : Nat) (s : State) : goesOn s (execDbgRelock key s) := by
  first
  | (simp [execDbgRelock, goesOn_ite, apply_ite State.pending, apply_dite State.pending]; done)
  | (unfold execDbgRelock; (try dsimp only); (repeat' split) <;> first | (simp [apply_ite State.pending, apply_dite State.pending, *]; done) | (simp [State.offer_pending _ _ _ _ (by assumption), *]; done) | (simp [State.take_pending _ _ _ _ (by assumption), *]; done) | ((try rw [goesOn_next]); refine (foldl_pending _ _ _ ?_).trans ?_ <;> (first | (intro s a; (repeat' split) <;> simp; done) | simp; done)) | rfl)
@[simp] theorem execBreakpointHit_goesOn (n : Fin 56) (s : State) : goesOn s (execBreakpointHit n s) := by
  first
  | (simp [execBreakpointHit, goesOn_ite, apply_ite State.pending, apply_dite State.pending]; done)
  | (unfold execBreakpointHit; (try dsimp only); (repeat' split) <;> first | (simp [apply_ite State.pending, apply_dite State.pending, *]; done) | (simp [State.offer_pending _ _ _ _ (by assumption), *]; done) | (simp [State.take_pending _ _ _ _ (by assumption), *]; done) | ((try rw [goesOn_next]); refine (foldl_pending _ _ _ ?_).trans ?_ <;> (first | (intro s a; (repeat' split) <;> simp; done) | simp; done)) | rfl)

end Sys2Proof.Machine
end

