-- ==== Sys2Proof/Laws/QueueLoop.lean ====
section
/-! SUPPORT. The operations of Machine/Loop.lean leave the queue of waiting commands alone. -/

namespace Sys2Proof.Machine

@[simp] theorem State.putIo_pending (s : State) (a : Fin 96) : (State.putIo s a).pending = s.pending := by
  first
  | (simp [State.putIo, goesOn_ite, apply_ite State.pending, apply_dite State.pending]; done)
  | (unfold State.putIo; (try dsimp only); (repeat' split) <;> first | (simp [apply_ite State.pending, apply_dite State.pending, *]; done) | (simp [State.offer_pending _ _ _ _ (by assumption), *]; done) | (simp [State.take_pending _ _ _ _ (by assumption), *]; done) | ((try rw [goesOn_next]); refine (foldl_pending _ _ _ ?_).trans ?_ <;> (first | (intro s a; (repeat' split) <;> simp; done) | simp; done)) | rfl)
@[simp] theorem State.tickTile_pending (s : State) (a : Fin 96) (shift : Int) : (State.tickTile s a shift).pending = s.pending := by
  first
  | (simp [State.tickTile, goesOn_ite, apply_ite State.pending, apply_dite State.pending]; done)
  | (unfold State.tickTile; (try dsimp only); (repeat' split) <;> first | (simp [apply_ite State.pending, apply_dite State.pending, *]; done) | (simp [State.offer_pending _ _ _ _ (by assumption), *]; done) | (simp [State.take_pending _ _ _ _ (by assumption), *]; done) | ((try rw [goesOn_next]); refine (foldl_pending _ _ _ ?_).trans ?_ <;> (first | (intro s a; (repeat' split) <;> simp; done) | simp; done)) | rfl)
@[simp] theorem State.placeDoors_pending (s : State) : (State.placeDoors s).pending = s.pending := by
  first
  | (simp [State.placeDoors, goesOn_ite, apply_ite State.pending, apply_dite State.pending]; done)
  | (unfold State.placeDoors; (try dsimp only); (repeat' split) <;> first | (simp [apply_ite State.pending, apply_dite State.pending, *]; done) | (simp [State.offer_pending _ _ _ _ (by assumption), *]; done) | (simp [State.take_pending _ _ _ _ (by assumption), *]; done) | ((try rw [goesOn_next]); refine (foldl_pending _ _ _ ?_).trans ?_ <;> (first | (intro s a; (repeat' split) <;> simp; done) | simp; done)) | rfl)
@[simp] theorem State.latchAll_pending (s : State) (conv : List (List (Nat × Int))) : (State.latchAll s conv).pending = s.pending := by
  first
  | (simp [State.latchAll, goesOn_ite, apply_ite State.pending, apply_dite State.pending]; done)
  | (unfold State.latchAll; (try dsimp only); (repeat' split) <;> first | (simp [apply_ite State.pending, apply_dite State.pending, *]; done) | (simp [State.offer_pending _ _ _ _ (by assumption), *]; done) | (simp [State.take_pending _ _ _ _ (by assumption), *]; done) | ((try rw [goesOn_next]); refine (foldl_pending _ _ _ ?_).trans ?_ <;> (first | (intro s a; (repeat' split) <;> simp; done) | simp; done)) | rfl)
@[simp] theorem State.loopTick_pending (s : State) (conv : List (List (Nat × Int))) (mirrorBad : Bool) : (State.loopTick s conv mirrorBad).pending = s.pending := by
  first
  | (simp [State.loopTick, goesOn_ite, apply_ite State.pending, apply_dite State.pending]; done)
  | (unfold State.loopTick; (try dsimp only); (repeat' split) <;> first | (simp [apply_ite State.pending, apply_dite State.pending, *]; done) | (simp [State.offer_pending _ _ _ _ (by assumption), *]; done) | (simp [State.take_pending _ _ _ _ (by assumption), *]; done) | ((try rw [goesOn_next]); refine (foldl_pending _ _ _ ?_).trans ?_ <;> (first | (intro s a; (repeat' split) <;> simp; done) | simp; done)) | rfl)
@[simp] theorem State.putCurrents_pending (s : State) (p : Fin 32) : (State.putCurrents s p).pending = s.pending := by
  first
  | (simp [State.putCurrents, goesOn_ite, apply_ite State.pending, apply_dite State.pending]; done)
  | (unfold State.putCurrents; (try dsimp only); (repeat' split) <;> first | (simp [apply_ite State.pending, apply_dite State.pending, *]; done) | (simp [State.offer_pending _ _ _ _ (by assumption), *]; done) | (simp [State.take_pending _ _ _ _ (by assumption), *]; done) | ((try rw [goesOn_next]); refine (foldl_pending _ _ _ ?_).trans ?_ <;> (first | (intro s a; (repeat' split) <;> simp; done) | simp; done)) | rfl)
@[simp] theorem State.currentBoundary_pending (s : State) (ch : List (Int × Int × Int)) : (State.currentBoundary s ch).pending = s.pending := by
  first
  | (simp [State.currentBoundary, goesOn_ite, apply_ite State.pending, apply_dite State.pending]; done)
  | (unfold State.currentBoundary; (try dsimp only); (repeat' split) <;> first | (simp [apply_ite State.pending, apply_dite State.pending, *]; done) | (simp [State.offer_pending _ _ _ _ (by assumption), *]; done) | (simp [State.take_pending _ _ _ _ (by assumption), *]; done) | ((try rw [goesOn_next]); refine (foldl_pending _ _ _ ?_).trans ?_ <;> (first | (intro s a; (repeat' split) <;> simp; done) | simp; done)) | rfl)
@[simp] theorem State.rotateIllegal_pending (s : State) : (State.rotateIllegal s).pending = s.pending := by
  first
  | (simp [State.rotateIllegal, goesOn_ite, apply_ite State.pending, apply_dite State.pending]; done)
  | (unfold State.rotateIllegal; (try dsimp only); (repeat' split) <;> first | (simp [apply_ite State.pending, apply_dite State.pending, *]; done) | (simp [State.offer_pending _ _ _ _ (by assumption), *]; done) | (simp [State.take_pending _ _ _ _ (by assumption), *]; done) | ((try rw [goesOn_next]); refine (foldl_pending _ _ _ ?_).trans ?_ <;> (first | (intro s a; (repeat' split) <;> simp; done) | simp; done)) | rfl)
@[simp] theorem State.holdMs_pending (s : State) : (State.holdMs s).pending = s.pending := by
  first
  | (simp [State.holdMs, goesOn_ite, apply_ite State.pending, apply_dite State.pending]; done)
  | (unfold State.holdMs; (try dsimp only); (repeat' split) <;> first | (simp [apply_ite State.pending, apply_dite State.pending, *]; done) | (simp [State.offer_pending _ _ _ _ (by assumption), *]; done) | (simp [State.take_pending _ _ _ _ (by assumption), *]; done) | ((try rw [goesOn_next]); refine (foldl_pending _ _ _ ?_).trans ?_ <;> (first | (intro s a; (repeat' split) <;> simp; done) | simp; done)) | rfl)
@[simp] theorem State.millisecond_pending (s : State) : (State.millisecond s).pending = s.pending := by
  first
  | (simp [State.millisecond, goesOn_ite, apply_ite State.pending, apply_dite State.pending]; done)
  | (unfold State.millisecond; (try dsimp only); (repeat' split) <;> first | (simp [apply_ite State.pending, apply_dite State.pending, *]; done) | (simp [State.offer_pending _ _ _ _ (by assumption), *]; done) | (simp [State.take_pending _ _ _ _ (by assumption), *]; done) | ((try rw [goesOn_next]); refine (foldl_pending _ _ _ ?_).trans ?_ <;> (first | (intro s a; (repeat' split) <;> simp; done) | simp; done)) | rfl)
@[simp] theorem State.atBoundary_pending (s : State) (t : Nat) : (State.atBoundary s t).pending = s.pending := by
  first
  | (simp [State.atBoundary, goesOn_ite, apply_ite State.pending, apply_dite State.pending]; done)
  | (unfold State.atBoundary; (try dsimp only); (repeat' split) <;> first | (simp [apply_ite State.pending, apply_dite State.pending, *]; done) | (simp [State.offer_pending _ _ _ _ (by assumption), *]; done) | (simp [State.take_pending _ _ _ _ (by assumption), *]; done) | ((try rw [goesOn_next]); refine (foldl_pending _ _ _ ?_).trans ?_ <;> (first | (intro s a; (repeat' split) <;> simp; done) | simp; done)) | rfl)
@[simp] theorem execGridStep_goesOn (t : Nat) (s : State) : goesOn s (execGridStep t s) := by
  first
  | (simp [execGridStep, goesOn_ite, apply_ite State.pending, apply_dite State.pending]; done)
  | (unfold execGridStep; (try dsimp only); (repeat' split) <;> first | (simp [apply_ite State.pending, apply_dite State.pending, *]; done) | (simp [State.offer_pending _ _ _ _ (by assumption), *]; done) | (simp [State.take_pending _ _ _ _ (by assumption), *]; done) | ((try rw [goesOn_next]); refine (foldl_pending _ _ _ ?_).trans ?_ <;> (first | (intro s a; (repeat' split) <;> simp; done) | simp; done)) | rfl)
@[simp] theorem execCurrentLoopBoundary_goesOn (ch : List (Int × Int × Int)) (t : Nat) (s : State) : goesOn s (execCurrentLoopBoundary ch t s) := by
  first
  | (simp [execCurrentLoopBoundary, goesOn_ite, apply_ite State.pending, apply_dite State.pending]; done)
  | (unfold execCurrentLoopBoundary; (try dsimp only); (repeat' split) <;> first | (simp [apply_ite State.pending, apply_dite State.pending, *]; done) | (simp [State.offer_pending _ _ _ _ (by assumption), *]; done) | (simp [State.take_pending _ _ _ _ (by assumption), *]; done) | ((try rw [goesOn_next]); refine (foldl_pending _ _ _ ?_).trans ?_ <;> (first | (intro s a; (repeat' split) <;> simp; done) | simp; done)) | rfl)
@[simp] theorem execLoopTick_goesOn (conv : List (List (Nat × Int))) (mirrorBad : Bool) (t : Nat) (s : State) : goesOn s (execLoopTick conv mirrorBad t s) := by
  first
  | (simp [execLoopTick, goesOn_ite, apply_ite State.pending, apply_dite State.pending]; done)
  | (unfold execLoopTick; (try dsimp only); (repeat' split) <;> first | (simp [apply_ite State.pending, apply_dite State.pending, *]; done) | (simp [State.offer_pending _ _ _ _ (by assumption), *]; done) | (simp [State.take_pending _ _ _ _ (by assumption), *]; done) | ((try rw [goesOn_next]); refine (foldl_pending _ _ _ ?_).trans ?_ <;> (first | (intro s a; (repeat' split) <;> simp; done) | simp; done)) | rfl)
@[simp] theorem execMillisecondFrame_goesOn (t : Nat) (s : State) : goesOn s (execMillisecondFrame t s) := by
  first
  | (simp [execMillisecondFrame, goesOn_ite, apply_ite State.pending, apply_dite State.pending]; done)
  | (unfold execMillisecondFrame; (try dsimp only); (repeat' split) <;> first | (simp [apply_ite State.pending, apply_dite State.pending, *]; done) | (simp [State.offer_pending _ _ _ _ (by assumption), *]; done) | (simp [State.take_pending _ _ _ _ (by assumption), *]; done) | ((try rw [goesOn_next]); refine (foldl_pending _ _ _ ?_).trans ?_ <;> (first | (intro s a; (repeat' split) <;> simp; done) | simp; done)) | rfl)

end Sys2Proof.Machine
end

