-- ==== Sys2Proof/Laws/QueueMap.lean ====
section
/-! SUPPORT. The operations of Machine/Map.lean leave the queue of waiting commands alone. -/

namespace Sys2Proof.Machine

@[simp] theorem State.plainWrite_pending (s : State) (a : Nat) (v : Word) : (State.plainWrite s a v).pending = s.pending := by
  first
  | (simp [State.plainWrite, goesOn_ite, apply_ite State.pending, apply_dite State.pending]; done)
  | (unfold State.plainWrite; (try dsimp only); (repeat' split) <;> first | (simp [apply_ite State.pending, apply_dite State.pending, *]; done) | (simp [State.offer_pending _ _ _ _ (by assumption), *]; done) | (simp [State.take_pending _ _ _ _ (by assumption), *]; done) | ((try rw [goesOn_next]); refine (foldl_pending _ _ _ ?_).trans ?_ <;> (first | (intro s a; (repeat' split) <;> simp; done) | simp; done)) | rfl)
@[simp] theorem State.commitLow_pending (s : State) (base : Nat) (x0 : Nat) : (State.commitLow s base x0).pending = s.pending := by
  induction x0 generalizing s base with
  | zero => rfl
  | succ k ih => (unfold State.commitLow; (try dsimp only); (repeat' split) <;> first | (simp [apply_ite State.pending, apply_dite State.pending, ih, *]; done) | (simp [State.offer_pending _ _ _ _ (by assumption), ih, *]; done) | (simp [State.take_pending _ _ _ _ (by assumption), ih, *]; done) | ((try rw [goesOn_next]); refine (foldl_pending _ _ _ ?_).trans ?_ <;> (first | (intro s a; (repeat' split) <;> simp; done) | simp; done)) | rfl)
@[simp] theorem State.wordWrite_pending (s : State) (a : Nat) (v : Word) : (State.wordWrite s a v).pending = s.pending := by
  first
  | (simp [State.wordWrite, goesOn_ite, apply_ite State.pending, apply_dite State.pending]; done)
  | (unfold State.wordWrite; (try dsimp only); (repeat' split) <;> first | (simp [apply_ite State.pending, apply_dite State.pending, *]; done) | (simp [State.offer_pending _ _ _ _ (by assumption), *]; done) | (simp [State.take_pending _ _ _ _ (by assumption), *]; done) | ((try rw [goesOn_next]); refine (foldl_pending _ _ _ ?_).trans ?_ <;> (first | (intro s a; (repeat' split) <;> simp; done) | simp; done)) | rfl)
@[simp] theorem State.ifBit_pending (v : Word) (b : Nat) (g : State → State) (s : State)
    (h : ∀ s, (g s).pending = s.pending) : (State.ifBit v b g s).pending = s.pending := by
  unfold State.ifBit
  split <;> simp [h]
theorem State.writeSys_pending (s : State) (a : Nat) (v : Word) (e : WriteEnv) : ∀ t, State.writeSys s a v e = some t → t.pending = s.pending := by
  first
  | (simp [State.writeSys, goesOn_ite, apply_ite State.pending, apply_dite State.pending]; done)
  | (unfold State.writeSys; (try dsimp only); (repeat' split) <;> first | (simp [apply_ite State.pending, apply_dite State.pending, *]; done) | (simp [State.offer_pending _ _ _ _ (by assumption), *]; done) | (simp [State.take_pending _ _ _ _ (by assumption), *]; done) | ((try rw [goesOn_next]); refine (foldl_pending _ _ _ ?_).trans ?_ <;> (first | (intro s a; (repeat' split) <;> simp; done) | simp; done)) | rfl)
theorem State.writeQueues_pending (s : State) (a : Nat) (v : Word) : ∀ t, State.writeQueues s a v = some t → t.pending = s.pending := by
  first
  | (simp [State.writeQueues, goesOn_ite, apply_ite State.pending, apply_dite State.pending]; done)
  | (unfold State.writeQueues; (try dsimp only); (repeat' split) <;> first | (simp [apply_ite State.pending, apply_dite State.pending, *]; done) | (simp [State.offer_pending _ _ _ _ (by assumption), *]; done) | (simp [State.take_pending _ _ _ _ (by assumption), *]; done) | ((try rw [goesOn_next]); refine (foldl_pending _ _ _ ?_).trans ?_ <;> (first | (intro s a; (repeat' split) <;> simp; done) | simp; done)) | rfl)
@[simp] theorem State.mstCtlWrite_pending (s : State) (v : Word) : (State.mstCtlWrite s v).pending = s.pending := by
  first
  | (simp [State.mstCtlWrite, goesOn_ite, apply_ite State.pending, apply_dite State.pending]; done)
  | (unfold State.mstCtlWrite; (try dsimp only); (repeat' split) <;> first | (simp [apply_ite State.pending, apply_dite State.pending, *]; done) | (simp [State.offer_pending _ _ _ _ (by assumption), *]; done) | (simp [State.take_pending _ _ _ _ (by assumption), *]; done) | ((try rw [goesOn_next]); refine (foldl_pending _ _ _ ?_).trans ?_ <;> (first | (intro s a; (repeat' split) <;> simp; done) | simp; done)) | rfl)
@[simp] theorem State.insCmdWrite_pending (s : State) (v : Word) : (State.insCmdWrite s v).pending = s.pending := by
  first
  | (simp [State.insCmdWrite, goesOn_ite, apply_ite State.pending, apply_dite State.pending]; done)
  | (unfold State.insCmdWrite; (try dsimp only); (repeat' split) <;> first | (simp [apply_ite State.pending, apply_dite State.pending, *]; done) | (simp [State.offer_pending _ _ _ _ (by assumption), *]; done) | (simp [State.take_pending _ _ _ _ (by assumption), *]; done) | ((try rw [goesOn_next]); refine (foldl_pending _ _ _ ?_).trans ?_ <;> (first | (intro s a; (repeat' split) <;> simp; done) | simp; done)) | rfl)
@[simp] theorem State.leadWrite_pending (s : State) (a : Nat) (v : Word) : (State.leadWrite s a v).pending = s.pending := by
  first
  | (simp [State.leadWrite, goesOn_ite, apply_ite State.pending, apply_dite State.pending]; done)
  | (unfold State.leadWrite; (try dsimp only); (repeat' split) <;> first | (simp [apply_ite State.pending, apply_dite State.pending, *]; done) | (simp [State.offer_pending _ _ _ _ (by assumption), *]; done) | (simp [State.take_pending _ _ _ _ (by assumption), *]; done) | ((try rw [goesOn_next]); refine (foldl_pending _ _ _ ?_).trans ?_ <;> (first | (intro s a; (repeat' split) <;> simp; done) | simp; done)) | rfl)
@[simp] theorem State.ainClear_pending (s : State) (i : Fin 4) (v : Word) : (State.ainClear s i v).pending = s.pending := by
  first
  | (simp [State.ainClear, goesOn_ite, apply_ite State.pending, apply_dite State.pending]; done)
  | (unfold State.ainClear; (try dsimp only); (repeat' split) <;> first | (simp [apply_ite State.pending, apply_dite State.pending, *]; done) | (simp [State.offer_pending _ _ _ _ (by assumption), *]; done) | (simp [State.take_pending _ _ _ _ (by assumption), *]; done) | ((try rw [goesOn_next]); refine (foldl_pending _ _ _ ?_).trans ?_ <;> (first | (intro s a; (repeat' split) <;> simp; done) | simp; done)) | rfl)
theorem State.writeWheel_pending (s : State) (a : Nat) (v : Word) : ∀ t, State.writeWheel s a v = some t → t.pending = s.pending := by
  first
  | (simp [State.writeWheel, goesOn_ite, apply_ite State.pending, apply_dite State.pending]; done)
  | (unfold State.writeWheel; (try dsimp only); (repeat' split) <;> first | (simp [apply_ite State.pending, apply_dite State.pending, *]; done) | (simp [State.offer_pending _ _ _ _ (by assumption), *]; done) | (simp [State.take_pending _ _ _ _ (by assumption), *]; done) | ((try rw [goesOn_next]); refine (foldl_pending _ _ _ ?_).trans ?_ <;> (first | (intro s a; (repeat' split) <;> simp; done) | simp; done)) | rfl)
theorem State.writeTile_pending (s : State) (x : Fin 96) (off : Nat) (v : Word) (e : WriteEnv) : ∀ t, State.writeTile s x off v e = some t → t.pending = s.pending := by
  first
  | (simp [State.writeTile, goesOn_ite, apply_ite State.pending, apply_dite State.pending]; done)
  | (unfold State.writeTile; (try dsimp only); (repeat' split) <;> first | (simp [apply_ite State.pending, apply_dite State.pending, *]; done) | (simp [State.offer_pending _ _ _ _ (by assumption), *]; done) | (simp [State.take_pending _ _ _ _ (by assumption), *]; done) | ((try rw [goesOn_next]); refine (foldl_pending _ _ _ ?_).trans ?_ <;> (first | (intro s a; (repeat' split) <;> simp; done) | simp; done)) | rfl)
theorem State.writePort_pending (s : State) (c : Nat) (off : Nat) (v : Word) (e : WriteEnv) : ∀ t, State.writePort s c off v e = some t → t.pending = s.pending := by
  first
  | (simp [State.writePort, goesOn_ite, apply_ite State.pending, apply_dite State.pending]; done)
  | (unfold State.writePort; (try dsimp only); (repeat' split) <;> first | (simp [apply_ite State.pending, apply_dite State.pending, *]; done) | (simp [State.offer_pending _ _ _ _ (by assumption), *]; done) | (simp [State.take_pending _ _ _ _ (by assumption), *]; done) | ((try rw [goesOn_next]); refine (foldl_pending _ _ _ ?_).trans ?_ <;> (first | (intro s a; (repeat' split) <;> simp; done) | simp; done)) | rfl)
theorem State.writeCluster_pending (s : State) (a : Nat) (v : Word) (e : WriteEnv) :
    ∀ t, s.writeCluster a v e = some t → t.pending = s.pending := by
  intro t h
  unfold State.writeCluster at h
  dsimp only at h
  split at h
  · cases h
  · split at h
    · exact State.writeTile_pending _ _ _ _ _ t h
    · exact State.writePort_pending _ _ _ _ _ t h
@[simp] theorem State.writeDoor_pending (s : State) (d : Fin 8) (v : Word) : (State.writeDoor s d v).pending = s.pending := by
  first
  | (simp [State.writeDoor, goesOn_ite, apply_ite State.pending, apply_dite State.pending]; done)
  | (unfold State.writeDoor; (try dsimp only); (repeat' split) <;> first | (simp [apply_ite State.pending, apply_dite State.pending, *]; done) | (simp [State.offer_pending _ _ _ _ (by assumption), *]; done) | (simp [State.take_pending _ _ _ _ (by assumption), *]; done) | ((try rw [goesOn_next]); refine (foldl_pending _ _ _ ?_).trans ?_ <;> (first | (intro s a; (repeat' split) <;> simp; done) | simp; done)) | rfl)
theorem State.writeSafety_pending (s : State) (a : Nat) (v : Word) : ∀ t, State.writeSafety s a v = some t → t.pending = s.pending := by
  first
  | (simp [State.writeSafety, goesOn_ite, apply_ite State.pending, apply_dite State.pending]; done)
  | (unfold State.writeSafety; (try dsimp only); (repeat' split) <;> first | (simp [apply_ite State.pending, apply_dite State.pending, *]; done) | (simp [State.offer_pending _ _ _ _ (by assumption), *]; done) | (simp [State.take_pending _ _ _ _ (by assumption), *]; done) | ((try rw [goesOn_next]); refine (foldl_pending _ _ _ ?_).trans ?_ <;> (first | (intro s a; (repeat' split) <;> simp; done) | simp; done)) | rfl)
theorem State.writeFlt_pending (s : State) (a : Nat) (v : Word) (e : WriteEnv) : ∀ t, State.writeFlt s a v e = some t → t.pending = s.pending := by
  first
  | (simp [State.writeFlt, goesOn_ite, apply_ite State.pending, apply_dite State.pending]; done)
  | (unfold State.writeFlt; (try dsimp only); (repeat' split) <;> first | (simp [apply_ite State.pending, apply_dite State.pending, *]; done) | (simp [State.offer_pending _ _ _ _ (by assumption), *]; done) | (simp [State.take_pending _ _ _ _ (by assumption), *]; done) | ((try rw [goesOn_next]); refine (foldl_pending _ _ _ ?_).trans ?_ <;> (first | (intro s a; (repeat' split) <;> simp; done) | simp; done)) | rfl)
theorem State.writeAcq_pending (s : State) (a : Nat) (v : Word) : ∀ t, State.writeAcq s a v = some t → t.pending = s.pending := by
  first
  | (simp [State.writeAcq, goesOn_ite, apply_ite State.pending, apply_dite State.pending]; done)
  | (unfold State.writeAcq; (try dsimp only); (repeat' split) <;> first | (simp [apply_ite State.pending, apply_dite State.pending, *]; done) | (simp [State.offer_pending _ _ _ _ (by assumption), *]; done) | (simp [State.take_pending _ _ _ _ (by assumption), *]; done) | ((try rw [goesOn_next]); refine (foldl_pending _ _ _ ?_).trans ?_ <;> (first | (intro s a; (repeat' split) <;> simp; done) | simp; done)) | rfl)
theorem State.writeFio_pending (s : State) (a : Nat) (v : Word) : ∀ t, State.writeFio s a v = some t → t.pending = s.pending := by
  first
  | (simp [State.writeFio, goesOn_ite, apply_ite State.pending, apply_dite State.pending]; done)
  | (unfold State.writeFio; (try dsimp only); (repeat' split) <;> first | (simp [apply_ite State.pending, apply_dite State.pending, *]; done) | (simp [State.offer_pending _ _ _ _ (by assumption), *]; done) | (simp [State.take_pending _ _ _ _ (by assumption), *]; done) | ((try rw [goesOn_next]); refine (foldl_pending _ _ _ ?_).trans ?_ <;> (first | (intro s a; (repeat' split) <;> simp; done) | simp; done)) | rfl)
@[simp] theorem State.cfgCommand_pending (s : State) (bits : Nat) : (State.cfgCommand s bits).pending = s.pending := by
  first
  | (simp [State.cfgCommand, goesOn_ite, apply_ite State.pending, apply_dite State.pending]; done)
  | (unfold State.cfgCommand; (try dsimp only); (repeat' split) <;> first | (simp [apply_ite State.pending, apply_dite State.pending, *]; done) | (simp [State.offer_pending _ _ _ _ (by assumption), *]; done) | (simp [State.take_pending _ _ _ _ (by assumption), *]; done) | ((try rw [goesOn_next]); refine (foldl_pending _ _ _ ?_).trans ?_ <;> (first | (intro s a; (repeat' split) <;> simp; done) | simp; done)) | rfl)
theorem State.writeCfg_pending (s : State) (a : Nat) (v : Word) : ∀ t, State.writeCfg s a v = some t → t.pending = s.pending := by
  first
  | (simp [State.writeCfg, goesOn_ite, apply_ite State.pending, apply_dite State.pending]; done)
  | (unfold State.writeCfg; (try dsimp only); (repeat' split) <;> first | (simp [apply_ite State.pending, apply_dite State.pending, *]; done) | (simp [State.offer_pending _ _ _ _ (by assumption), *]; done) | (simp [State.take_pending _ _ _ _ (by assumption), *]; done) | ((try rw [goesOn_next]); refine (foldl_pending _ _ _ ?_).trans ?_ <;> (first | (intro s a; (repeat' split) <;> simp; done) | simp; done)) | rfl)
theorem State.captureRead_pending (s : State) (a : Nat) : ∀ t, State.captureRead s a = some t → t.pending = s.pending := by
  first
  | (simp [State.captureRead, goesOn_ite, apply_ite State.pending, apply_dite State.pending]; done)
  | (unfold State.captureRead; (try dsimp only); (repeat' split) <;> first | (simp [apply_ite State.pending, apply_dite State.pending, *]; done) | (simp [State.offer_pending _ _ _ _ (by assumption), *]; done) | (simp [State.take_pending _ _ _ _ (by assumption), *]; done) | ((try rw [goesOn_next]); refine (foldl_pending _ _ _ ?_).trans ?_ <;> (first | (intro s a; (repeat' split) <;> simp; done) | simp; done)) | rfl)
@[simp] theorem State.clearRead_pending (s : State) (a : Nat) : (State.clearRead s a).pending = s.pending := by
  first
  | (simp [State.clearRead, goesOn_ite, apply_ite State.pending, apply_dite State.pending]; done)
  | (unfold State.clearRead; (try dsimp only); (repeat' split) <;> first | (simp [apply_ite State.pending, apply_dite State.pending, *]; done) | (simp [State.offer_pending _ _ _ _ (by assumption), *]; done) | (simp [State.take_pending _ _ _ _ (by assumption), *]; done) | ((try rw [goesOn_next]); refine (foldl_pending _ _ _ ?_).trans ?_ <;> (first | (intro s a; (repeat' split) <;> simp; done) | simp; done)) | rfl)
@[simp] theorem State.regRead_pending (s : State) (a : Nat) : (s.regRead a).pending = s.pending := by
  unfold State.regRead
  split
  · next h => exact State.captureRead_pending _ _ _ h
  · dsimp only
    rw [State.clearRead_pending]
    split <;> rfl
@[simp] theorem State.hostRead_pending (s : State) (a : Nat) : (State.hostRead s a).pending = s.pending := by
  first
  | (simp [State.hostRead, goesOn_ite, apply_ite State.pending, apply_dite State.pending]; done)
  | (unfold State.hostRead; (try dsimp only); (repeat' split) <;> first | (simp [apply_ite State.pending, apply_dite State.pending, *]; done) | (simp [State.offer_pending _ _ _ _ (by assumption), *]; done) | (simp [State.take_pending _ _ _ _ (by assumption), *]; done) | ((try rw [goesOn_next]); refine (foldl_pending _ _ _ ?_).trans ?_ <;> (first | (intro s a; (repeat' split) <;> simp; done) | simp; done)) | rfl)
@[simp] theorem State.memDone_pending (s : State) : (State.memDone s).pending = s.pending := by
  first
  | (simp [State.memDone, goesOn_ite, apply_ite State.pending, apply_dite State.pending]; done)
  | (unfold State.memDone; (try dsimp only); (repeat' split) <;> first | (simp [apply_ite State.pending, apply_dite State.pending, *]; done) | (simp [State.offer_pending _ _ _ _ (by assumption), *]; done) | (simp [State.take_pending _ _ _ _ (by assumption), *]; done) | ((try rw [goesOn_next]); refine (foldl_pending _ _ _ ?_).trans ?_ <;> (first | (intro s a; (repeat' split) <;> simp; done) | simp; done)) | rfl)
@[simp] theorem State.memRef_pending (s : State) : (State.memRef s).pending = s.pending := by
  first
  | (simp [State.memRef, goesOn_ite, apply_ite State.pending, apply_dite State.pending]; done)
  | (unfold State.memRef; (try dsimp only); (repeat' split) <;> first | (simp [apply_ite State.pending, apply_dite State.pending, *]; done) | (simp [State.offer_pending _ _ _ _ (by assumption), *]; done) | (simp [State.take_pending _ _ _ _ (by assumption), *]; done) | ((try rw [goesOn_next]); refine (foldl_pending _ _ _ ?_).trans ?_ <;> (first | (intro s a; (repeat' split) <;> simp; done) | simp; done)) | rfl)
@[simp] theorem State.dbgRead_pending (s : State) : (State.dbgRead s).pending = s.pending := by
  first
  | (simp [State.dbgRead, goesOn_ite, apply_ite State.pending, apply_dite State.pending]; done)
  | (unfold State.dbgRead; (try dsimp only); (repeat' split) <;> first | (simp [apply_ite State.pending, apply_dite State.pending, *]; done) | (simp [State.offer_pending _ _ _ _ (by assumption), *]; done) | (simp [State.take_pending _ _ _ _ (by assumption), *]; done) | ((try rw [goesOn_next]); refine (foldl_pending _ _ _ ?_).trans ?_ <;> (first | (intro s a; (repeat' split) <;> simp; done) | simp; done)) | rfl)
@[simp] theorem State.dbgWriteMem_pending (s : State) (p : DbgPlace) (v : Word) : (State.dbgWriteMem s p v).pending = s.pending := by
  first
  | (simp [State.dbgWriteMem, goesOn_ite, apply_ite State.pending, apply_dite State.pending]; done)
  | (unfold State.dbgWriteMem; (try dsimp only); (repeat' split) <;> first | (simp [apply_ite State.pending, apply_dite State.pending, *]; done) | (simp [State.offer_pending _ _ _ _ (by assumption), *]; done) | (simp [State.take_pending _ _ _ _ (by assumption), *]; done) | ((try rw [goesOn_next]); refine (foldl_pending _ _ _ ?_).trans ?_ <;> (first | (intro s a; (repeat' split) <;> simp; done) | simp; done)) | rfl)
@[simp] theorem State.writeDbgCtl_pending (s : State) (v : Word) (e : WriteEnv) : (State.writeDbgCtl s v e).pending = s.pending := by
  first
  | (simp [State.writeDbgCtl, goesOn_ite, apply_ite State.pending, apply_dite State.pending]; done)
  | (unfold State.writeDbgCtl; (try dsimp only); (repeat' split) <;> first | (simp [apply_ite State.pending, apply_dite State.pending, *]; done) | (simp [State.offer_pending _ _ _ _ (by assumption), *]; done) | (simp [State.take_pending _ _ _ _ (by assumption), *]; done) | ((try rw [goesOn_next]); refine (foldl_pending _ _ _ ?_).trans ?_ <;> (first | (intro s a; (repeat' split) <;> simp; done) | simp; done)) | rfl)
theorem State.writeDbg_pending (s : State) (a : Nat) (v : Word) (e : WriteEnv) : ∀ t, State.writeDbg s a v e = some t → t.pending = s.pending := by
  first
  | (simp [State.writeDbg, goesOn_ite, apply_ite State.pending, apply_dite State.pending]; done)
  | (unfold State.writeDbg; (try dsimp only); (repeat' split) <;> first | (simp [apply_ite State.pending, apply_dite State.pending, *]; done) | (simp [State.offer_pending _ _ _ _ (by assumption), *]; done) | (simp [State.take_pending _ _ _ _ (by assumption), *]; done) | ((try rw [goesOn_next]); refine (foldl_pending _ _ _ ?_).trans ?_ <;> (first | (intro s a; (repeat' split) <;> simp; done) | simp; done)) | rfl)
@[simp] theorem State.regWrite_pending (s : State) (a : Nat) (v : Word) (e : WriteEnv) : (s.regWrite a v e).pending = s.pending := by
  unfold State.regWrite
  split
  · rfl
  cases h0 : s.writeSys a v e with
  | some t => exact State.writeSys_pending _ _ _ _ t h0
  | none =>
    cases h1 : s.writeQueues a v with
    | some t => exact State.writeQueues_pending _ _ _ t h1
    | none =>
      cases h2 : s.writeWheel a v with
      | some t => exact State.writeWheel_pending _ _ _ t h2
      | none =>
        cases h3 : s.writeCluster a v e with
        | some t => exact State.writeCluster_pending _ _ _ _ t h3
        | none =>
          cases h4 : s.writeSafety a v with
          | some t => exact State.writeSafety_pending _ _ _ t h4
          | none =>
            cases h5 : s.writeFlt a v e with
            | some t => exact State.writeFlt_pending _ _ _ _ t h5
            | none =>
              cases h6 : s.writeAcq a v with
              | some t => exact State.writeAcq_pending _ _ _ t h6
              | none =>
                cases h7 : s.writeFio a v with
                | some t => exact State.writeFio_pending _ _ _ t h7
                | none =>
                  cases h8 : s.writeCfg a v with
                  | some t => exact State.writeCfg_pending _ _ _ t h8
                  | none =>
                    cases h9 : s.writeDbg a v e with
                    | some t => exact State.writeDbg_pending _ _ _ _ t h9
                    | none =>
                      exact State.wordWrite_pending _ _ _
@[simp] theorem State.dbgWrite_pending (s : State) (e : WriteEnv) : (State.dbgWrite s e).pending = s.pending := by
  first
  | (simp [State.dbgWrite, goesOn_ite, apply_ite State.pending, apply_dite State.pending]; done)
  | (unfold State.dbgWrite; (try dsimp only); (repeat' split) <;> first | (simp [apply_ite State.pending, apply_dite State.pending, *]; done) | (simp [State.offer_pending _ _ _ _ (by assumption), *]; done) | (simp [State.take_pending _ _ _ _ (by assumption), *]; done) | ((try rw [goesOn_next]); refine (foldl_pending _ _ _ ?_).trans ?_ <;> (first | (intro s a; (repeat' split) <;> simp; done) | simp; done)) | rfl)
@[simp] theorem State.fullWrite_pending (s : State) (a : Nat) (v : Word) (e : WriteEnv) : (State.fullWrite s a v e).pending = s.pending := by
  first
  | (simp [State.fullWrite, goesOn_ite, apply_ite State.pending, apply_dite State.pending]; done)
  | (unfold State.fullWrite; (try dsimp only); (repeat' split) <;> first | (simp [apply_ite State.pending, apply_dite State.pending, *]; done) | (simp [State.offer_pending _ _ _ _ (by assumption), *]; done) | (simp [State.take_pending _ _ _ _ (by assumption), *]; done) | ((try rw [goesOn_next]); refine (foldl_pending _ _ _ ?_).trans ?_ <;> (first | (intro s a; (repeat' split) <;> simp; done) | simp; done)) | rfl)
@[simp] theorem State.hostRegWrite_pending (s : State) (a : Nat) (v : Word) (e : WriteEnv) : (State.hostRegWrite s a v e).pending = s.pending := by
  first
  | (simp [State.hostRegWrite, goesOn_ite, apply_ite State.pending, apply_dite State.pending]; done)
  | (unfold State.hostRegWrite; (try dsimp only); (repeat' split) <;> first | (simp [apply_ite State.pending, apply_dite State.pending, *]; done) | (simp [State.offer_pending _ _ _ _ (by assumption), *]; done) | (simp [State.take_pending _ _ _ _ (by assumption), *]; done) | ((try rw [goesOn_next]); refine (foldl_pending _ _ _ ?_).trans ?_ <;> (first | (intro s a; (repeat' split) <;> simp; done) | simp; done)) | rfl)
@[simp] theorem execBadAccess_goesOn (s : State) : goesOn s (execBadAccess s) := by
  first
  | (simp [execBadAccess, goesOn_ite, apply_ite State.pending, apply_dite State.pending]; done)
  | (unfold execBadAccess; (try dsimp only); (repeat' split) <;> first | (simp [apply_ite State.pending, apply_dite State.pending, *]; done) | (simp [State.offer_pending _ _ _ _ (by assumption), *]; done) | (simp [State.take_pending _ _ _ _ (by assumption), *]; done) | ((try rw [goesOn_next]); refine (foldl_pending _ _ _ ?_).trans ?_ <;> (first | (intro s a; (repeat' split) <;> simp; done) | simp; done)) | rfl)
@[simp] theorem execRegisterWrite_goesOn (address : Nat) (value : Word) (e : WriteEnv) (s : State) : goesOn s (execRegisterWrite address value e s) := by
  first
  | (simp [execRegisterWrite, goesOn_ite, apply_ite State.pending, apply_dite State.pending]; done)
  | (unfold execRegisterWrite; (try dsimp only); (repeat' split) <;> first | (simp [apply_ite State.pending, apply_dite State.pending, *]; done) | (simp [State.offer_pending _ _ _ _ (by assumption), *]; done) | (simp [State.take_pending _ _ _ _ (by assumption), *]; done) | ((try rw [goesOn_next]); refine (foldl_pending _ _ _ ?_).trans ?_ <;> (first | (intro s a; (repeat' split) <;> simp; done) | simp; done)) | rfl)
@[simp] theorem execReadClear_goesOn (address : Nat) (s : State) : goesOn s (execReadClear address s) := by
  first
  | (simp [execReadClear, goesOn_ite, apply_ite State.pending, apply_dite State.pending]; done)
  | (unfold execReadClear; (try dsimp only); (repeat' split) <;> first | (simp [apply_ite State.pending, apply_dite State.pending, *]; done) | (simp [State.offer_pending _ _ _ _ (by assumption), *]; done) | (simp [State.take_pending _ _ _ _ (by assumption), *]; done) | ((try rw [goesOn_next]); refine (foldl_pending _ _ _ ?_).trans ?_ <;> (first | (intro s a; (repeat' split) <;> simp; done) | simp; done)) | rfl)
@[simp] theorem execMultiwordRead_goesOn (address : Nat) (s : State) : goesOn s (execMultiwordRead address s) := by
  first
  | (simp [execMultiwordRead, goesOn_ite, apply_ite State.pending, apply_dite State.pending]; done)
  | (unfold execMultiwordRead; (try dsimp only); (repeat' split) <;> first | (simp [apply_ite State.pending, apply_dite State.pending, *]; done) | (simp [State.offer_pending _ _ _ _ (by assumption), *]; done) | (simp [State.take_pending _ _ _ _ (by assumption), *]; done) | ((try rw [goesOn_next]); refine (foldl_pending _ _ _ ?_).trans ?_ <;> (first | (intro s a; (repeat' split) <;> simp; done) | simp; done)) | rfl)
@[simp] theorem execDbgMemRd_goesOn (key : Nat) (s : State) : goesOn s (execDbgMemRd key s) := by
  first
  | (simp [execDbgMemRd, goesOn_ite, apply_ite State.pending, apply_dite State.pending]; done)
  | (unfold execDbgMemRd; (try dsimp only); (repeat' split) <;> first | (simp [apply_ite State.pending, apply_dite State.pending, *]; done) | (simp [State.offer_pending _ _ _ _ (by assumption), *]; done) | (simp [State.take_pending _ _ _ _ (by assumption), *]; done) | ((try rw [goesOn_next]); refine (foldl_pending _ _ _ ?_).trans ?_ <;> (first | (intro s a; (repeat' split) <;> simp; done) | simp; done)) | rfl)
@[simp] theorem execDbgMemWr_goesOn (key : Nat) (e : WriteEnv) (s : State) : goesOn s (execDbgMemWr key e s) := by
  first
  | (simp [execDbgMemWr, goesOn_ite, apply_ite State.pending, apply_dite State.pending]; done)
  | (unfold execDbgMemWr; (try dsimp only); (repeat' split) <;> first | (simp [apply_ite State.pending, apply_dite State.pending, *]; done) | (simp [State.offer_pending _ _ _ _ (by assumption), *]; done) | (simp [State.take_pending _ _ _ _ (by assumption), *]; done) | ((try rw [goesOn_next]); refine (foldl_pending _ _ _ ?_).trans ?_ <;> (first | (intro s a; (repeat' split) <;> simp; done) | simp; done)) | rfl)

end Sys2Proof.Machine
end

