-- ==== Sys2Proof/Laws/QueueTap.lean ====
section
/-! SUPPORT. The operations of Machine/Tap.lean leave the queue of waiting commands alone. -/

namespace Sys2Proof.Machine

@[simp] theorem State.modTap_pending (s : State) (g : TapState → TapState) : (State.modTap s g).pending = s.pending := by
  first
  | (simp [State.modTap, goesOn_ite, apply_ite State.pending, apply_dite State.pending]; done)
  | (unfold State.modTap; (try dsimp only); (repeat' split) <;> first | (simp [apply_ite State.pending, apply_dite State.pending, *]; done) | (simp [State.offer_pending _ _ _ _ (by assumption), *]; done) | (simp [State.take_pending _ _ _ _ (by assumption), *]; done) | ((try rw [goesOn_next]); refine (foldl_pending _ _ _ ?_).trans ?_ <;> (first | (intro s a; (repeat' split) <;> simp; done) | simp; done)) | rfl)
@[simp] theorem State.tapScan_pending (s : State) (ir : Nat) (len : Nat) (dr : Nat) : (State.tapScan s ir len dr).pending = s.pending := by
  first
  | (simp [State.tapScan, goesOn_ite, apply_ite State.pending, apply_dite State.pending]; done)
  | (unfold State.tapScan; (try dsimp only); (repeat' split) <;> first | (simp [apply_ite State.pending, apply_dite State.pending, *]; done) | (simp [State.offer_pending _ _ _ _ (by assumption), *]; done) | (simp [State.take_pending _ _ _ _ (by assumption), *]; done) | ((try rw [goesOn_next]); refine (foldl_pending _ _ _ ?_).trans ?_ <;> (first | (intro s a; (repeat' split) <;> simp; done) | simp; done)) | rfl)
@[simp] theorem State.tapBypass_pending (s : State) (ir : Nat) : (State.tapBypass s ir).pending = s.pending := by
  first
  | (simp [State.tapBypass, goesOn_ite, apply_ite State.pending, apply_dite State.pending]; done)
  | (unfold State.tapBypass; (try dsimp only); (repeat' split) <;> first | (simp [apply_ite State.pending, apply_dite State.pending, *]; done) | (simp [State.offer_pending _ _ _ _ (by assumption), *]; done) | (simp [State.take_pending _ _ _ _ (by assumption), *]; done) | ((try rw [goesOn_next]); refine (foldl_pending _ _ _ ?_).trans ?_ <;> (first | (intro s a; (repeat' split) <;> simp; done) | simp; done)) | rfl)
@[simp] theorem State.boundaryScan_pending (s : State) (ir : Nat) (captured : List Bool) (shifted : List Bool) : (State.boundaryScan s ir captured shifted).pending = s.pending := by
  first
  | (simp [State.boundaryScan, goesOn_ite, apply_ite State.pending, apply_dite State.pending]; done)
  | (unfold State.boundaryScan; (try dsimp only); (repeat' split) <;> first | (simp [apply_ite State.pending, apply_dite State.pending, *]; done) | (simp [State.offer_pending _ _ _ _ (by assumption), *]; done) | (simp [State.take_pending _ _ _ _ (by assumption), *]; done) | ((try rw [goesOn_next]); refine (foldl_pending _ _ _ ?_).trans ?_ <;> (first | (intro s a; (repeat' split) <;> simp; done) | simp; done)) | rfl)
@[simp] theorem execTapReset_goesOn (s : State) : goesOn s (execTapReset s) := by
  first
  | (simp [execTapReset, goesOn_ite, apply_ite State.pending, apply_dite State.pending]; done)
  | (unfold execTapReset; (try dsimp only); (repeat' split) <;> first | (simp [apply_ite State.pending, apply_dite State.pending, *]; done) | (simp [State.offer_pending _ _ _ _ (by assumption), *]; done) | (simp [State.take_pending _ _ _ _ (by assumption), *]; done) | ((try rw [goesOn_next]); refine (foldl_pending _ _ _ ?_).trans ?_ <;> (first | (intro s a; (repeat' split) <;> simp; done) | simp; done)) | rfl)
@[simp] theorem execTapExtest_goesOn (captured : List Bool) (shifted : List Bool) (s : State) : goesOn s (execTapExtest captured shifted s) := by
  first
  | (simp [execTapExtest, goesOn_ite, apply_ite State.pending, apply_dite State.pending]; done)
  | (unfold execTapExtest; (try dsimp only); (repeat' split) <;> first | (simp [apply_ite State.pending, apply_dite State.pending, *]; done) | (simp [State.offer_pending _ _ _ _ (by assumption), *]; done) | (simp [State.take_pending _ _ _ _ (by assumption), *]; done) | ((try rw [goesOn_next]); refine (foldl_pending _ _ _ ?_).trans ?_ <;> (first | (intro s a; (repeat' split) <;> simp; done) | simp; done)) | rfl)
@[simp] theorem execTapSamplePreload_goesOn (captured : List Bool) (shifted : List Bool) (s : State) : goesOn s (execTapSamplePreload captured shifted s) := by
  first
  | (simp [execTapSamplePreload, goesOn_ite, apply_ite State.pending, apply_dite State.pending]; done)
  | (unfold execTapSamplePreload; (try dsimp only); (repeat' split) <;> first | (simp [apply_ite State.pending, apply_dite State.pending, *]; done) | (simp [State.offer_pending _ _ _ _ (by assumption), *]; done) | (simp [State.take_pending _ _ _ _ (by assumption), *]; done) | ((try rw [goesOn_next]); refine (foldl_pending _ _ _ ?_).trans ?_ <;> (first | (intro s a; (repeat' split) <;> simp; done) | simp; done)) | rfl)
@[simp] theorem execTapIdcode_goesOn (s : State) : goesOn s (execTapIdcode s) := by
  first
  | (simp [execTapIdcode, goesOn_ite, apply_ite State.pending, apply_dite State.pending]; done)
  | (unfold execTapIdcode; (try dsimp only); (repeat' split) <;> first | (simp [apply_ite State.pending, apply_dite State.pending, *]; done) | (simp [State.offer_pending _ _ _ _ (by assumption), *]; done) | (simp [State.take_pending _ _ _ _ (by assumption), *]; done) | ((try rw [goesOn_next]); refine (foldl_pending _ _ _ ?_).trans ?_ <;> (first | (intro s a; (repeat' split) <;> simp; done) | simp; done)) | rfl)
@[simp] theorem execTapDbgacc_goesOn (write : Bool) (word : Fin 512) (data : Word) (e : WriteEnv) (s : State) : goesOn s (execTapDbgacc write word data e s) := by
  first
  | (simp [execTapDbgacc, goesOn_ite, apply_ite State.pending, apply_dite State.pending]; done)
  | (unfold execTapDbgacc; (try dsimp only); (repeat' split) <;> first | (simp [apply_ite State.pending, apply_dite State.pending, *]; done) | (simp [State.offer_pending _ _ _ _ (by assumption), *]; done) | (simp [State.take_pending _ _ _ _ (by assumption), *]; done) | ((try rw [goesOn_next]); refine (foldl_pending _ _ _ ?_).trans ?_ <;> (first | (intro s a; (repeat' split) <;> simp; done) | simp; done)) | rfl)
@[simp] theorem execTapToken_goesOn (byte : Byte) (rsa : Bool) (slh : Bool) (s : State) : goesOn s (execTapToken byte rsa slh s) := by
  first
  | (simp [execTapToken, goesOn_ite, apply_ite State.pending, apply_dite State.pending]; done)
  | (unfold execTapToken; (try dsimp only); (repeat' split) <;> first | (simp [apply_ite State.pending, apply_dite State.pending, *]; done) | (simp [State.offer_pending _ _ _ _ (by assumption), *]; done) | (simp [State.take_pending _ _ _ _ (by assumption), *]; done) | ((try rw [goesOn_next]); refine (foldl_pending _ _ _ ?_).trans ?_ <;> (first | (intro s a; (repeat' split) <;> simp; done) | simp; done)) | rfl)
@[simp] theorem execTapChal_goesOn (s : State) : goesOn s (execTapChal s) := by
  first
  | (simp [execTapChal, goesOn_ite, apply_ite State.pending, apply_dite State.pending]; done)
  | (unfold execTapChal; (try dsimp only); (repeat' split) <;> first | (simp [apply_ite State.pending, apply_dite State.pending, *]; done) | (simp [State.offer_pending _ _ _ _ (by assumption), *]; done) | (simp [State.take_pending _ _ _ _ (by assumption), *]; done) | ((try rw [goesOn_next]); refine (foldl_pending _ _ _ ?_).trans ?_ <;> (first | (intro s a; (repeat' split) <;> simp; done) | simp; done)) | rfl)
@[simp] theorem execTapTaprst_goesOn (s : State) : goesOn s (execTapTaprst s) := by
  first
  | (simp [execTapTaprst, goesOn_ite, apply_ite State.pending, apply_dite State.pending]; done)
  | (unfold execTapTaprst; (try dsimp only); (repeat' split) <;> first | (simp [apply_ite State.pending, apply_dite State.pending, *]; done) | (simp [State.offer_pending _ _ _ _ (by assumption), *]; done) | (simp [State.take_pending _ _ _ _ (by assumption), *]; done) | ((try rw [goesOn_next]); refine (foldl_pending _ _ _ ?_).trans ?_ <;> (first | (intro s a; (repeat' split) <;> simp; done) | simp; done)) | rfl)
@[simp] theorem execTapBypass_goesOn (s : State) : goesOn s (execTapBypass s) := by
  first
  | (simp [execTapBypass, goesOn_ite, apply_ite State.pending, apply_dite State.pending]; done)
  | (unfold execTapBypass; (try dsimp only); (repeat' split) <;> first | (simp [apply_ite State.pending, apply_dite State.pending, *]; done) | (simp [State.offer_pending _ _ _ _ (by assumption), *]; done) | (simp [State.take_pending _ _ _ _ (by assumption), *]; done) | ((try rw [goesOn_next]); refine (foldl_pending _ _ _ ?_).trans ?_ <;> (first | (intro s a; (repeat' split) <;> simp; done) | simp; done)) | rfl)

end Sys2Proof.Machine
end

