-- ==== Sys2Proof/Laws/Store.lean ====
section
/-! SUPPORT. Laws of the stores, banks and bit fields of Word.lean: a read after a write, and that every store operation keeps
the canonical form. -/

namespace Sys2Proof
namespace Store

variable {w : Nat} {d : BitVec w}

theorem get_erase_same (m : Store w) (a : Nat) : get d (erase m a) a = d := by
  induction m with
  | nil => rfl
  | cons c m ih =>
    by_cases h : c.1 = a
    · simpa [erase, h] using ih
    · simpa [erase, h, get] using ih

theorem get_erase_ne (m : Store w) {a b : Nat} (hne : b ≠ a) : get d (erase m a) b = get d m b := by
  induction m with
  | nil => rfl
  | cons c m ih =>
    by_cases h : c.1 = a
    · have hb : c.1 ≠ b := fun hc => hne (hc ▸ h)
      simpa [erase, h, get, hb, Ne.symm hne] using ih
    · by_cases hc : c.1 = b
      · simp [erase, get, hc, hne]
      · simpa [erase, h, get, hc] using ih

theorem get_insert_ne (m : Store w) {a b : Nat} (v : BitVec w) (hne : b ≠ a) : get d (insert m a v) b = get d m b := by
  induction m with
  | nil => simp [insert, get, Ne.symm hne]
  | cons c m ih =>
    by_cases h : a < c.1
    · simp [insert, h, get, Ne.symm hne]
    · simp [insert, h, get, ih]

theorem get_insert_same (m : Store w) (a : Nat) (v : BitVec w) (hm : ∀ c ∈ m, c.1 ≠ a) : get d (insert m a v) a = v := by
  induction m with
  | nil => simp [insert, get]
  | cons c m ih =>
    have hc : c.1 ≠ a := hm c (by simp)
    have hm' : ∀ c ∈ m, c.1 ≠ a := fun c' h' => hm c' (by simp [h'])
    by_cases h : a < c.1
    · simp [insert, h, get]
    · simp [insert, h, get, hc, ih hm']

theorem ne_of_mem_erase (m : Store w) (a : Nat) : ∀ c ∈ erase m a, c.1 ≠ a := by
  induction m with
  | nil => simp [erase]
  | cons c m ih =>
    by_cases h : c.1 = a
    · simpa [erase, h] using ih
    · intro c' hc'
      rcases List.mem_cons.mp (by simpa [erase, h] using hc') with rfl | h'
      · exact h
      · exact ih c' h'

/-- What was written is read. -/
@[simp] theorem get_set_same (m : Store w) (a : Nat) (v : BitVec w) : get d (set d m a v) a = v := by
  unfold set
  split
  · next h => rw [get_erase_same, h]
  · exact get_insert_same _ _ _ (ne_of_mem_erase m a)

/-- A write leaves every other key alone. -/
theorem get_set_ne (m : Store w) {a b : Nat} (v : BitVec w) (hne : b ≠ a) : get d (set d m a v) b = get d m b := by
  unfold set
  split
  · exact get_erase_ne m hne
  · rw [get_insert_ne _ _ hne, get_erase_ne m hne]

theorem get_set (m : Store w) (a b : Nat) (v : BitVec w) : get d (set d m a v) b = if b = a then v else get d m b := by
  by_cases h : b = a
  · subst h; simp
  · rw [get_set_ne m v h, if_neg h]

/-- The canonical form, said by the members: no word that an unlisted key reads as, and keys strictly rising. -/
theorem wf_iff (m : Store w) : wf d m = true ↔ (∀ c ∈ m, c.2 ≠ d) ∧ m.Pairwise (fun x y => x.1 < y.1) := by
  induction m with
  | nil => simp [wf]
  | cons c m ih =>
    cases m with
    | nil => simp [wf]
    | cons c' m =>
      simp only [wf, Bool.and_eq_true, bne_iff_ne, ne_eq, decide_eq_true_eq, ih]
      constructor
      · rintro ⟨⟨h1, h2⟩, h3, h4⟩
        refine ⟨?_, ?_⟩
        · intro x hx
          rcases List.mem_cons.mp hx with rfl | hx
          · exact h1
          · exact h3 x hx
        · refine List.pairwise_cons.mpr ⟨?_, h4⟩
          intro y hy
          rcases List.mem_cons.mp hy with rfl | hy
          · exact h2
          · exact lt_trans h2 ((List.pairwise_cons.mp h4).1 y hy)
      · rintro ⟨h1, h2⟩
        have h2' := List.pairwise_cons.mp h2
        exact ⟨⟨h1 c (by simp), h2'.1 c' (by simp)⟩, fun x hx => h1 x (by simp [hx]), h2'.2⟩

theorem erase_sublist (m : Store w) (a : Nat) : (erase m a).Sublist m := by
  induction m with
  | nil => simp [erase]
  | cons c m ih =>
    by_cases h : c.1 = a
    · simpa [erase, h] using ih.cons c
    · simpa [erase, h] using ih

theorem wf_erase {m : Store w} (a : Nat) (h : wf d m = true) : wf d (erase m a) = true := by
  rw [wf_iff] at *
  exact ⟨fun c hc => h.1 c ((erase_sublist m a).subset hc), h.2.sublist (erase_sublist m a)⟩

theorem mem_insert {m : Store w} {a : Nat} {v : BitVec w} {c : Nat × BitVec w} (hc : c ∈ insert m a v) : c = (a, v) ∨ c ∈ m := by
  induction m with
  | nil => simpa [insert] using hc
  | cons x m ih =>
    by_cases h : a < x.1
    · rw [insert, if_pos h] at hc
      rcases List.mem_cons.mp hc with h' | h'
      · exact .inl h'
      · exact .inr h'
    · rw [insert, if_neg h] at hc
      rcases List.mem_cons.mp hc with rfl | h'
      · exact .inr (by simp)
      · rcases ih h' with h'' | h''
        · exact .inl h''
        · exact .inr (by simp [h''])

theorem wf_insert {m : Store w} {a : Nat} {v : BitVec w} (hv : v ≠ d) (hm : ∀ c ∈ m, c.1 ≠ a) (h : wf d m = true) :
    wf d (insert m a v) = true := by
  rw [wf_iff] at *
  refine ⟨?_, ?_⟩
  · intro c hc
    rcases mem_insert hc with rfl | hc
    · exact hv
    · exact h.1 c hc
  · obtain ⟨-, hp⟩ := h
    induction m with
    | nil => simp [insert]
    | cons x m ih =>
      have hp' := List.pairwise_cons.mp hp
      by_cases hlt : a < x.1
      · rw [insert, if_pos hlt]
        refine List.pairwise_cons.mpr ⟨?_, hp⟩
        intro y hy
        rcases List.mem_cons.mp hy with rfl | hy
        · exact hlt
        · exact lt_trans hlt (hp'.1 y hy)
      · rw [insert, if_neg hlt]
        refine List.pairwise_cons.mpr ⟨?_, ih (fun c hc => hm c (by simp [hc])) hp'.2⟩
        intro y hy
        rcases mem_insert hy with rfl | hy
        · have := hm x (by simp)
          simp only
          omega
        · exact hp'.1 y hy

/-- A write keeps the canonical form. -/
theorem wf_set {m : Store w} (a : Nat) (v : BitVec w) (h : wf d m = true) : wf d (set d m a v) = true := by
  unfold set
  split
  · exact wf_erase a h
  · next hv => exact wf_insert hv (ne_of_mem_erase m a) (wf_erase a h)

theorem wf_setMany {m : Store w} (a : Nat) (vs : List (BitVec w)) (h : wf d m = true) : wf d (setMany d m a vs) = true := by
  induction vs generalizing m a with
  | nil => exact h
  | cons v vs ih => exact ih (a + 1) (wf_set a v h)

/-- Keys below the first key written keep their words. -/
theorem get_setMany_below (m : Store w) {a b : Nat} (vs : List (BitVec w)) (hb : b < a) : get d (setMany d m a vs) b = get d m b := by
  induction vs generalizing m a with
  | nil => rfl
  | cons v vs ih => rw [setMany, ih _ (by omega), get_set_ne _ _ (by omega)]

/-- Keys beyond the last key written keep their words. -/
theorem get_setMany_above (m : Store w) {a b : Nat} (vs : List (BitVec w)) (hb : a + vs.length ≤ b) :
    get d (setMany d m a vs) b = get d m b := by
  induction vs generalizing m a with
  | nil => rfl
  | cons v vs ih =>
    simp only [List.length_cons] at hb
    rw [setMany, ih _ (by omega), get_set_ne _ _ (by omega)]

/-- Words written at rising keys are read back there. -/
theorem getMany_setMany (m : Store w) (a : Nat) (vs : List (BitVec w)) : getMany d (setMany d m a vs) a vs.length = vs := by
  induction vs generalizing m a with
  | nil => rfl
  | cons v vs ih =>
    simp only [List.length_cons, getMany, setMany]
    rw [ih, get_setMany_below _ _ (by omega), get_set_same]

end Store

namespace Bank

variable {n : Nat} {α : Type}

theorem get_eq (b : Bank n α) (i : Fin n) : b.get i = b.items[i.val]'(by rw [b.len]; exact i.isLt) := rfl

@[simp] theorem get_set_same (b : Bank n α) (i : Fin n) (v : α) : (b.set i v).get i = v := by
  simp [get_eq, set]

theorem get_set_ne (b : Bank n α) {i j : Fin n} (v : α) (h : j ≠ i) : (b.set i v).get j = b.get j := by
  have : (i : Nat) ≠ j := fun hij => h (Fin.ext hij.symm)
  simp [get_eq, set, List.getElem_set, this]

@[simp] theorem get_modify_same (b : Bank n α) (i : Fin n) (g : α → α) : (b.modify i g).get i = g (b.get i) := by simp [modify]

theorem get_modify_ne (b : Bank n α) {i j : Fin n} (g : α → α) (h : j ≠ i) : (b.modify i g).get j = b.get j := get_set_ne b _ h

@[simp] theorem get_rep (n : Nat) (v : α) (i : Fin n) : (rep n v).get i = v := by simp [get_eq, rep]

@[simp] theorem get_map (b : Bank n α) (g : α → α) (i : Fin n) : (b.map g).get i = g (b.get i) := by simp [get_eq, map]

end Bank

namespace Fld

/-- Bit i of a field's mask. -/
theorem getLsbD_mask (x : Fld) (i : Nat) : x.mask.getLsbD i = (decide (i < 32) && decide (x.lo ≤ i ∧ i < x.lo + x.width)) := by
  unfold mask
  simp only [BitVec.getLsbD_shiftLeft, BitVec.getLsbD_ofNat, Nat.testBit_two_pow_sub_one]
  rw [Bool.eq_iff_iff]
  simp only [Bool.and_eq_true, decide_eq_true_eq, Bool.not_eq_true', decide_eq_false_iff_not]
  omega

/-- Bit i of a field's value. -/
theorem testBit_get (x : Fld) (w : Word) (i : Nat) : (x.get w).testBit i = (decide (i < x.width) && w.getLsbD (x.lo + i)) := by
  unfold get
  rw [← BitVec.getLsbD, BitVec.getLsbD_and, BitVec.getLsbD_ushiftRight, BitVec.getLsbD_ofNat, Nat.testBit_two_pow_sub_one]
  by_cases h : i < 32
  · simp [h, Bool.and_comm]
  · have : w.getLsbD (x.lo + i) = false := BitVec.getLsbD_of_ge _ _ (by omega)
    simp [this]

/-- Bit i of a word with a field replaced. -/
theorem getLsbD_put (x : Fld) (w : Word) (v i : Nat) :
    (x.put w v).getLsbD i = if x.lo ≤ i ∧ i < x.lo + x.width ∧ i < 32 then v.testBit (i - x.lo) else w.getLsbD i := by
  unfold put
  simp only [BitVec.getLsbD_or, BitVec.getLsbD_and, BitVec.getLsbD_not, getLsbD_mask, BitVec.getLsbD_shiftLeft, BitVec.getLsbD_ofNat,
    Nat.testBit_mod_two_pow]
  by_cases h1 : i < 32
  · by_cases h2 : i < x.lo
    · have : ¬ x.lo ≤ i := by omega
      simp [h1, h2, this]
    · by_cases h3 : i < x.lo + x.width
      · have a1 : x.lo ≤ i := by omega
        have a2 : i - x.lo < x.width := by omega
        have a3 : i - x.lo < 32 := by omega
        simp [h1, h2, h3, a1, a2, a3]
      · have a1 : x.lo ≤ i := by omega
        have a2 : ¬ i - x.lo < x.width := by omega
        simp [h1, h2, h3, a1, a2]
  · have hw : w.getLsbD i = false := BitVec.getLsbD_of_ge _ _ (by omega)
    simp [h1, hw]

/-- A field reads what was put into it. -/
theorem get_put_same (x : Fld) (w : Word) (v : Nat) (h : x.lo + x.width ≤ 32) : x.get (x.put w v) = v % 2 ^ x.width := by
  apply Nat.eq_of_testBit_eq
  intro i
  rw [testBit_get, getLsbD_put, Nat.testBit_mod_two_pow]
  by_cases hi : i < x.width
  · have : x.lo ≤ x.lo + i ∧ x.lo + i < x.lo + x.width ∧ x.lo + i < 32 := by omega
    simp [hi, this]
  · simp [hi]

/-- A field keeps its value when a field that it does not meet is written. -/
theorem get_put_disjoint (x y : Fld) (w : Word) (v : Nat) (h : x.lo + x.width ≤ y.lo ∨ y.lo + y.width ≤ x.lo) :
    y.get (x.put w v) = y.get w := by
  apply Nat.eq_of_testBit_eq
  intro i
  rw [testBit_get, testBit_get, getLsbD_put]
  by_cases hi : i < y.width
  · have : ¬ (x.lo ≤ y.lo + i ∧ y.lo + i < x.lo + x.width ∧ y.lo + i < 32) := by omega
    simp [hi, this]
  · simp [hi]

end Fld
end Sys2Proof
end

