-- ==== Sys2Proof/Laws/RegsOps.lean ====
section
/-! SUPPORT. The operations of Machine/Ops.lean keep the register file in its canonical form. -/

namespace Sys2Proof.Machine

/-- The register file is in canonical form. -/
def RegsCanon (r : Store 32) : Prop := r.wf 0 = true

/-- The outcome is a next state with the register file in canonical form. -/
def goesCanon (o : Out) : Prop := ∃ t, o = .next t ∧ RegsCanon t.regs

@[simp] theorem goesCanon_next (t : State) : goesCanon (.next t) ↔ RegsCanon t.regs := by simp [goesCanon]

theorem goesCanon_ite (c : Prop) [Decidable c] (x y : Out) : goesCanon (if c then x else y) ↔ if c then goesCanon x else goesCanon y := by
  split <;> rfl

@[simp] theorem nextOf_regsWf (s : State) (o : Out) (h : goesCanon o) : RegsCanon (nextOf s o).regs := by
  obtain ⟨t, rfl, ht⟩ := h
  exact ht

/-- A fold of operations that keep the canonical form keeps it. -/
@[simp] theorem foldl_regsWf {α : Type} (l : List α) (g : State → α → State) (s : State)
    (h : ∀ (s : State), RegsCanon s.regs → ∀ (a : α), RegsCanon (g s a).regs) (hs : RegsCanon s.regs) :
    RegsCanon (l.foldl g s).regs := by
  induction l generalizing s with
  | nil => exact hs
  | cons a l ih => exact ih _ (h s hs a)

-- 
@[simp] theorem State.wr_regsWf (s : State) (a : Nat) (v : Word) (hs : RegsCanon s.regs) : RegsCanon (s.wr a v).regs :=
  Store.wf_set a v hs
@[simp] theorem State.wrN_regsWf (s : State) (a : Nat) (v : Nat) (hs : RegsCanon s.regs) : RegsCanon (State.wrN s a v).regs := by
  first
  | (simp (maxDischargeDepth := 60) [State.wrN, hs, goesCanon_ite, apply_ite State.regs, apply_dite State.regs, apply_ite RegsCanon, apply_dite RegsCanon]; done)
  | (unfold State.wrN; (try dsimp only); (repeat' split) <;> first | with_reducible exact hs | (simp (maxDischargeDepth := 60) [hs, goesCanon_ite, apply_ite State.regs, apply_dite State.regs, apply_ite RegsCanon, apply_dite RegsCanon, *]; done) | (simp +contextual (maxDischargeDepth := 60) [hs, goesCanon_ite, apply_ite State.regs, apply_dite State.regs, apply_ite RegsCanon, apply_dite RegsCanon, *]; done) | (have ho := State.offer_regsWf _ _ _ _ (by assumption) hs; simp (maxDischargeDepth := 60) [*]; done) | (have ho := State.take_regsWf _ _ _ _ (by assumption) hs; simp (maxDischargeDepth := 60) [*]; done) | ((try rw [goesCanon_next]); with_reducible (refine foldl_regsWf _ _ _ ?_ ?_) <;> (first | (intro s hs a; (repeat' split) <;> simp (maxDischargeDepth := 60) [*]; done) | simp (maxDischargeDepth := 60) [*]; done)))
@[simp] theorem State.setF_regsWf (s : State) (x : Fld) (v : Nat) (hs : RegsCanon s.regs) : RegsCanon (State.setF s x v).regs := by
  first
  | (simp (maxDischargeDepth := 60) [State.setF, hs, goesCanon_ite, apply_ite State.regs, apply_dite State.regs, apply_ite RegsCanon, apply_dite RegsCanon]; done)
  | (unfold State.setF; (try dsimp only); (repeat' split) <;> first | with_reducible exact hs | (simp (maxDischargeDepth := 60) [hs, goesCanon_ite, apply_ite State.regs, apply_dite State.regs, apply_ite RegsCanon, apply_dite RegsCanon, *]; done) | (simp +contextual (maxDischargeDepth := 60) [hs, goesCanon_ite, apply_ite State.regs, apply_dite State.regs, apply_ite RegsCanon, apply_dite RegsCanon, *]; done) | (have ho := State.offer_regsWf _ _ _ _ (by assumption) hs; simp (maxDischargeDepth := 60) [*]; done) | (have ho := State.take_regsWf _ _ _ _ (by assumption) hs; simp (maxDischargeDepth := 60) [*]; done) | ((try rw [goesCanon_next]); with_reducible (refine foldl_regsWf _ _ _ ?_ ?_) <;> (first | (intro s hs a; (repeat' split) <;> simp (maxDischargeDepth := 60) [*]; done) | simp (maxDischargeDepth := 60) [*]; done)))
@[simp] theorem State.setB_regsWf (s : State) (x : Fld) (v : Bool) (hs : RegsCanon s.regs) : RegsCanon (State.setB s x v).regs := by
  first
  | (simp (maxDischargeDepth := 60) [State.setB, hs, goesCanon_ite, apply_ite State.regs, apply_dite State.regs, apply_ite RegsCanon, apply_dite RegsCanon]; done)
  | (unfold State.setB; (try dsimp only); (repeat' split) <;> first | with_reducible exact hs | (simp (maxDischargeDepth := 60) [hs, goesCanon_ite, apply_ite State.regs, apply_dite State.regs, apply_ite RegsCanon, apply_dite RegsCanon, *]; done) | (simp +contextual (maxDischargeDepth := 60) [hs, goesCanon_ite, apply_ite State.regs, apply_dite State.regs, apply_ite RegsCanon, apply_dite RegsCanon, *]; done) | (have ho := State.offer_regsWf _ _ _ _ (by assumption) hs; simp (maxDischargeDepth := 60) [*]; done) | (have ho := State.take_regsWf _ _ _ _ (by assumption) hs; simp (maxDischargeDepth := 60) [*]; done) | ((try rw [goesCanon_next]); with_reducible (refine foldl_regsWf _ _ _ ?_ ?_) <;> (first | (intro s hs a; (repeat' split) <;> simp (maxDischargeDepth := 60) [*]; done) | simp (maxDischargeDepth := 60) [*]; done)))
@[simp] theorem State.hit_regsWf (s : State) (x : Fld) (hs : RegsCanon s.regs) : RegsCanon (State.hit s x).regs := by
  first
  | (simp (maxDischargeDepth := 60) [State.hit, hs, goesCanon_ite, apply_ite State.regs, apply_dite State.regs, apply_ite RegsCanon, apply_dite RegsCanon]; done)
  | (unfold State.hit; (try dsimp only); (repeat' split) <;> first | with_reducible exact hs | (simp (maxDischargeDepth := 60) [hs, goesCanon_ite, apply_ite State.regs, apply_dite State.regs, apply_ite RegsCanon, apply_dite RegsCanon, *]; done) | (simp +contextual (maxDischargeDepth := 60) [hs, goesCanon_ite, apply_ite State.regs, apply_dite State.regs, apply_ite RegsCanon, apply_dite RegsCanon, *]; done) | (have ho := State.offer_regsWf _ _ _ _ (by assumption) hs; simp (maxDischargeDepth := 60) [*]; done) | (have ho := State.take_regsWf _ _ _ _ (by assumption) hs; simp (maxDischargeDepth := 60) [*]; done) | ((try rw [goesCanon_next]); with_reducible (refine foldl_regsWf _ _ _ ?_ ?_) <;> (first | (intro s hs a; (repeat' split) <;> simp (maxDischargeDepth := 60) [*]; done) | simp (maxDischargeDepth := 60) [*]; done)))
@[simp] theorem State.hitBits_regsWf (s : State) (a : Nat) (m : Word) (hs : RegsCanon s.regs) : RegsCanon (State.hitBits s a m).regs := by
  first
  | (simp (maxDischargeDepth := 60) [State.hitBits, hs, goesCanon_ite, apply_ite State.regs, apply_dite State.regs, apply_ite RegsCanon, apply_dite RegsCanon]; done)
  | (unfold State.hitBits; (try dsimp only); (repeat' split) <;> first | with_reducible exact hs | (simp (maxDischargeDepth := 60) [hs, goesCanon_ite, apply_ite State.regs, apply_dite State.regs, apply_ite RegsCanon, apply_dite RegsCanon, *]; done) | (simp +contextual (maxDischargeDepth := 60) [hs, goesCanon_ite, apply_ite State.regs, apply_dite State.regs, apply_ite RegsCanon, apply_dite RegsCanon, *]; done) | (have ho := State.offer_regsWf _ _ _ _ (by assumption) hs; simp (maxDischargeDepth := 60) [*]; done) | (have ho := State.take_regsWf _ _ _ _ (by assumption) hs; simp (maxDischargeDepth := 60) [*]; done) | ((try rw [goesCanon_next]); with_reducible (refine foldl_regsWf _ _ _ ?_ ?_) <;> (first | (intro s hs a; (repeat' split) <;> simp (maxDischargeDepth := 60) [*]; done) | simp (maxDischargeDepth := 60) [*]; done)))
@[simp] theorem State.clearBits_regsWf (s : State) (a : Nat) (m : Word) (hs : RegsCanon s.regs) : RegsCanon (State.clearBits s a m).regs := by
  first
  | (simp (maxDischargeDepth := 60) [State.clearBits, hs, goesCanon_ite, apply_ite State.regs, apply_dite State.regs, apply_ite RegsCanon, apply_dite RegsCanon]; done)
  | (unfold State.clearBits; (try dsimp only); (repeat' split) <;> first | with_reducible exact hs | (simp (maxDischargeDepth := 60) [hs, goesCanon_ite, apply_ite State.regs, apply_dite State.regs, apply_ite RegsCanon, apply_dite RegsCanon, *]; done) | (simp +contextual (maxDischargeDepth := 60) [hs, goesCanon_ite, apply_ite State.regs, apply_dite State.regs, apply_ite RegsCanon, apply_dite RegsCanon, *]; done) | (have ho := State.offer_regsWf _ _ _ _ (by assumption) hs; simp (maxDischargeDepth := 60) [*]; done) | (have ho := State.take_regsWf _ _ _ _ (by assumption) hs; simp (maxDischargeDepth := 60) [*]; done) | ((try rw [goesCanon_next]); with_reducible (refine foldl_regsWf _ _ _ ?_ ?_) <;> (first | (intro s hs a; (repeat' split) <;> simp (maxDischargeDepth := 60) [*]; done) | simp (maxDischargeDepth := 60) [*]; done)))
@[simp] theorem State.clearF_regsWf (s : State) (x : Fld) (hs : RegsCanon s.regs) : RegsCanon (State.clearF s x).regs := by
  first
  | (simp (maxDischargeDepth := 60) [State.clearF, hs, goesCanon_ite, apply_ite State.regs, apply_dite State.regs, apply_ite RegsCanon, apply_dite RegsCanon]; done)
  | (unfold State.clearF; (try dsimp only); (repeat' split) <;> first | with_reducible exact hs | (simp (maxDischargeDepth := 60) [hs, goesCanon_ite, apply_ite State.regs, apply_dite State.regs, apply_ite RegsCanon, apply_dite RegsCanon, *]; done) | (simp +contextual (maxDischargeDepth := 60) [hs, goesCanon_ite, apply_ite State.regs, apply_dite State.regs, apply_ite RegsCanon, apply_dite RegsCanon, *]; done) | (have ho := State.offer_regsWf _ _ _ _ (by assumption) hs; simp (maxDischargeDepth := 60) [*]; done) | (have ho := State.take_regsWf _ _ _ _ (by assumption) hs; simp (maxDischargeDepth := 60) [*]; done) | ((try rw [goesCanon_next]); with_reducible (refine foldl_regsWf _ _ _ ?_ ?_) <;> (first | (intro s hs a; (repeat' split) <;> simp (maxDischargeDepth := 60) [*]; done) | simp (maxDischargeDepth := 60) [*]; done)))
@[simp] theorem State.wr2_regsWf (s : State) (w : Nat → Nat) (v : Nat) (hs : RegsCanon s.regs) : RegsCanon (State.wr2 s w v).regs := by
  first
  | (simp (maxDischargeDepth := 60) [State.wr2, hs, goesCanon_ite, apply_ite State.regs, apply_dite State.regs, apply_ite RegsCanon, apply_dite RegsCanon]; done)
  | (unfold State.wr2; (try dsimp only); (repeat' split) <;> first | with_reducible exact hs | (simp (maxDischargeDepth := 60) [hs, goesCanon_ite, apply_ite State.regs, apply_dite State.regs, apply_ite RegsCanon, apply_dite RegsCanon, *]; done) | (simp +contextual (maxDischargeDepth := 60) [hs, goesCanon_ite, apply_ite State.regs, apply_dite State.regs, apply_ite RegsCanon, apply_dite RegsCanon, *]; done) | (have ho := State.offer_regsWf _ _ _ _ (by assumption) hs; simp (maxDischargeDepth := 60) [*]; done) | (have ho := State.take_regsWf _ _ _ _ (by assumption) hs; simp (maxDischargeDepth := 60) [*]; done) | ((try rw [goesCanon_next]); with_reducible (refine foldl_regsWf _ _ _ ?_ ?_) <;> (first | (intro s hs a; (repeat' split) <;> simp (maxDischargeDepth := 60) [*]; done) | simp (maxDischargeDepth := 60) [*]; done)))
@[simp] theorem State.holdLow_regsWf (s : State) (a : Nat) (v : Word) (hs : RegsCanon s.regs) : RegsCanon (State.holdLow s a v).regs := by
  first
  | (simp (maxDischargeDepth := 60) [State.holdLow, hs, goesCanon_ite, apply_ite State.regs, apply_dite State.regs, apply_ite RegsCanon, apply_dite RegsCanon]; done)
  | (unfold State.holdLow; (try dsimp only); (repeat' split) <;> first | with_reducible exact hs | (simp (maxDischargeDepth := 60) [hs, goesCanon_ite, apply_ite State.regs, apply_dite State.regs, apply_ite RegsCanon, apply_dite RegsCanon, *]; done) | (simp +contextual (maxDischargeDepth := 60) [hs, goesCanon_ite, apply_ite State.regs, apply_dite State.regs, apply_ite RegsCanon, apply_dite RegsCanon, *]; done) | (have ho := State.offer_regsWf _ _ _ _ (by assumption) hs; simp (maxDischargeDepth := 60) [*]; done) | (have ho := State.take_regsWf _ _ _ _ (by assumption) hs; simp (maxDischargeDepth := 60) [*]; done) | ((try rw [goesCanon_next]); with_reducible (refine foldl_regsWf _ _ _ ?_ ?_) <;> (first | (intro s hs a; (repeat' split) <;> simp (maxDischargeDepth := 60) [*]; done) | simp (maxDischargeDepth := 60) [*]; done)))
@[simp] theorem State.dropLow_regsWf (s : State) (a : Nat) (hs : RegsCanon s.regs) : RegsCanon (State.dropLow s a).regs := by
  first
  | (simp (maxDischargeDepth := 60) [State.dropLow, hs, goesCanon_ite, apply_ite State.regs, apply_dite State.regs, apply_ite RegsCanon, apply_dite RegsCanon]; done)
  | (unfold State.dropLow; (try dsimp only); (repeat' split) <;> first | with_reducible exact hs | (simp (maxDischargeDepth := 60) [hs, goesCanon_ite, apply_ite State.regs, apply_dite State.regs, apply_ite RegsCanon, apply_dite RegsCanon, *]; done) | (simp +contextual (maxDischargeDepth := 60) [hs, goesCanon_ite, apply_ite State.regs, apply_dite State.regs, apply_ite RegsCanon, apply_dite RegsCanon, *]; done) | (have ho := State.offer_regsWf _ _ _ _ (by assumption) hs; simp (maxDischargeDepth := 60) [*]; done) | (have ho := State.take_regsWf _ _ _ _ (by assumption) hs; simp (maxDischargeDepth := 60) [*]; done) | ((try rw [goesCanon_next]); with_reducible (refine foldl_regsWf _ _ _ ?_ ?_) <;> (first | (intro s hs a; (repeat' split) <;> simp (maxDischargeDepth := 60) [*]; done) | simp (maxDischargeDepth := 60) [*]; done)))
@[simp] theorem State.wrI_regsWf (s : State) (a : Nat) (v : Int) (hs : RegsCanon s.regs) : RegsCanon (State.wrI s a v).regs := by
  first
  | (simp (maxDischargeDepth := 60) [State.wrI, hs, goesCanon_ite, apply_ite State.regs, apply_dite State.regs, apply_ite RegsCanon, apply_dite RegsCanon]; done)
  | (unfold State.wrI; (try dsimp only); (repeat' split) <;> first | with_reducible exact hs | (simp (maxDischargeDepth := 60) [hs, goesCanon_ite, apply_ite State.regs, apply_dite State.regs, apply_ite RegsCanon, apply_dite RegsCanon, *]; done) | (simp +contextual (maxDischargeDepth := 60) [hs, goesCanon_ite, apply_ite State.regs, apply_dite State.regs, apply_ite RegsCanon, apply_dite RegsCanon, *]; done) | (have ho := State.offer_regsWf _ _ _ _ (by assumption) hs; simp (maxDischargeDepth := 60) [*]; done) | (have ho := State.take_regsWf _ _ _ _ (by assumption) hs; simp (maxDischargeDepth := 60) [*]; done) | ((try rw [goesCanon_next]); with_reducible (refine foldl_regsWf _ _ _ ?_ ?_) <;> (first | (intro s hs a; (repeat' split) <;> simp (maxDischargeDepth := 60) [*]; done) | simp (maxDischargeDepth := 60) [*]; done)))
@[simp] theorem State.bumpBy_regsWf (s : State) (a : Nat) (n : Nat) (hs : RegsCanon s.regs) : RegsCanon (State.bumpBy s a n).regs := by
  first
  | (simp (maxDischargeDepth := 60) [State.bumpBy, hs, goesCanon_ite, apply_ite State.regs, apply_dite State.regs, apply_ite RegsCanon, apply_dite RegsCanon]; done)
  | (unfold State.bumpBy; (try dsimp only); (repeat' split) <;> first | with_reducible exact hs | (simp (maxDischargeDepth := 60) [hs, goesCanon_ite, apply_ite State.regs, apply_dite State.regs, apply_ite RegsCanon, apply_dite RegsCanon, *]; done) | (simp +contextual (maxDischargeDepth := 60) [hs, goesCanon_ite, apply_ite State.regs, apply_dite State.regs, apply_ite RegsCanon, apply_dite RegsCanon, *]; done) | (have ho := State.offer_regsWf _ _ _ _ (by assumption) hs; simp (maxDischargeDepth := 60) [*]; done) | (have ho := State.take_regsWf _ _ _ _ (by assumption) hs; simp (maxDischargeDepth := 60) [*]; done) | ((try rw [goesCanon_next]); with_reducible (refine foldl_regsWf _ _ _ ?_ ?_) <;> (first | (intro s hs a; (repeat' split) <;> simp (maxDischargeDepth := 60) [*]; done) | simp (maxDischargeDepth := 60) [*]; done)))
@[simp] theorem State.bump_regsWf (s : State) (a : Nat) (hs : RegsCanon s.regs) : RegsCanon (State.bump s a).regs := by
  first
  | (simp (maxDischargeDepth := 60) [State.bump, hs, goesCanon_ite, apply_ite State.regs, apply_dite State.regs, apply_ite RegsCanon, apply_dite RegsCanon]; done)
  | (unfold State.bump; (try dsimp only); (repeat' split) <;> first | with_reducible exact hs | (simp (maxDischargeDepth := 60) [hs, goesCanon_ite, apply_ite State.regs, apply_dite State.regs, apply_ite RegsCanon, apply_dite RegsCanon, *]; done) | (simp +contextual (maxDischargeDepth := 60) [hs, goesCanon_ite, apply_ite State.regs, apply_dite State.regs, apply_ite RegsCanon, apply_dite RegsCanon, *]; done) | (have ho := State.offer_regsWf _ _ _ _ (by assumption) hs; simp (maxDischargeDepth := 60) [*]; done) | (have ho := State.take_regsWf _ _ _ _ (by assumption) hs; simp (maxDischargeDepth := 60) [*]; done) | ((try rw [goesCanon_next]); with_reducible (refine foldl_regsWf _ _ _ ?_ ?_) <;> (first | (intro s hs a; (repeat' split) <;> simp (maxDischargeDepth := 60) [*]; done) | simp (maxDischargeDepth := 60) [*]; done)))
@[simp] theorem State.wrWords_regsWf (s : State) (a : Nat) (x0 : List Word) (hs : RegsCanon s.regs) : RegsCanon (State.wrWords s a x0).regs := by
  induction x0 generalizing s a with
  | nil => exact hs
  | cons x xs ih => (unfold State.wrWords; (try dsimp only); (repeat' split) <;> first | with_reducible exact hs | (simp (maxDischargeDepth := 60) [hs, goesCanon_ite, apply_ite State.regs, apply_dite State.regs, apply_ite RegsCanon, apply_dite RegsCanon, ih, *]; done) | (simp +contextual (maxDischargeDepth := 60) [hs, goesCanon_ite, apply_ite State.regs, apply_dite State.regs, apply_ite RegsCanon, apply_dite RegsCanon, ih, *]; done) | (have ho := State.offer_regsWf _ _ _ _ (by assumption) hs; simp (maxDischargeDepth := 60) [ih, *]; done) | (have ho := State.take_regsWf _ _ _ _ (by assumption) hs; simp (maxDischargeDepth := 60) [ih, *]; done) | ((try rw [goesCanon_next]); with_reducible (refine foldl_regsWf _ _ _ ?_ ?_) <;> (first | (intro s hs a; (repeat' split) <;> simp (maxDischargeDepth := 60) [ih, *]; done) | simp (maxDischargeDepth := 60) [ih, *]; done)))
@[simp] theorem State.wrAll_regsWf (s : State) (x0 : List (Nat × Word)) (hs : RegsCanon s.regs) : RegsCanon (State.wrAll s x0).regs := by
  induction x0 generalizing s with
  | nil => exact hs
  | cons x xs ih => (unfold State.wrAll; (try dsimp only); (repeat' split) <;> first | with_reducible exact hs | (simp (maxDischargeDepth := 60) [hs, goesCanon_ite, apply_ite State.regs, apply_dite State.regs, apply_ite RegsCanon, apply_dite RegsCanon, ih, *]; done) | (simp +contextual (maxDischargeDepth := 60) [hs, goesCanon_ite, apply_ite State.regs, apply_dite State.regs, apply_ite RegsCanon, apply_dite RegsCanon, ih, *]; done) | (have ho := State.offer_regsWf _ _ _ _ (by assumption) hs; simp (maxDischargeDepth := 60) [ih, *]; done) | (have ho := State.take_regsWf _ _ _ _ (by assumption) hs; simp (maxDischargeDepth := 60) [ih, *]; done) | ((try rw [goesCanon_next]); with_reducible (refine foldl_regsWf _ _ _ ?_ ?_) <;> (first | (intro s hs a; (repeat' split) <;> simp (maxDischargeDepth := 60) [ih, *]; done) | simp (maxDischargeDepth := 60) [ih, *]; done)))
@[simp] theorem State.cycles_regsWf (s : State) (k : Nat) (hs : RegsCanon s.regs) : RegsCanon (State.cycles s k).regs := by
  first
  | (simp (maxDischargeDepth := 60) [State.cycles, hs, goesCanon_ite, apply_ite State.regs, apply_dite State.regs, apply_ite RegsCanon, apply_dite RegsCanon]; done)
  | (unfold State.cycles; (try dsimp only); (repeat' split) <;> first | with_reducible exact hs | (simp (maxDischargeDepth := 60) [hs, goesCanon_ite, apply_ite State.regs, apply_dite State.regs, apply_ite RegsCanon, apply_dite RegsCanon, *]; done) | (simp +contextual (maxDischargeDepth := 60) [hs, goesCanon_ite, apply_ite State.regs, apply_dite State.regs, apply_ite RegsCanon, apply_dite RegsCanon, *]; done) | (have ho := State.offer_regsWf _ _ _ _ (by assumption) hs; simp (maxDischargeDepth := 60) [*]; done) | (have ho := State.take_regsWf _ _ _ _ (by assumption) hs; simp (maxDischargeDepth := 60) [*]; done) | ((try rw [goesCanon_next]); with_reducible (refine foldl_regsWf _ _ _ ?_ ?_) <;> (first | (intro s hs a; (repeat' split) <;> simp (maxDischargeDepth := 60) [*]; done) | simp (maxDischargeDepth := 60) [*]; done)))
@[simp] theorem State.sysCycle_regsWf (s : State) (hs : RegsCanon s.regs) : RegsCanon (State.sysCycle s).regs := by
  first
  | (simp (maxDischargeDepth := 60) [State.sysCycle, hs, goesCanon_ite, apply_ite State.regs, apply_dite State.regs, apply_ite RegsCanon, apply_dite RegsCanon]; done)
  | (unfold State.sysCycle; (try dsimp only); (repeat' split) <;> first | with_reducible exact hs | (simp (maxDischargeDepth := 60) [hs, goesCanon_ite, apply_ite State.regs, apply_dite State.regs, apply_ite RegsCanon, apply_dite RegsCanon, *]; done) | (simp +contextual (maxDischargeDepth := 60) [hs, goesCanon_ite, apply_ite State.regs, apply_dite State.regs, apply_ite RegsCanon, apply_dite RegsCanon, *]; done) | (have ho := State.offer_regsWf _ _ _ _ (by assumption) hs; simp (maxDischargeDepth := 60) [*]; done) | (have ho := State.take_regsWf _ _ _ _ (by assumption) hs; simp (maxDischargeDepth := 60) [*]; done) | ((try rw [goesCanon_next]); with_reducible (refine foldl_regsWf _ _ _ ?_ ?_) <;> (first | (intro s hs a; (repeat' split) <;> simp (maxDischargeDepth := 60) [*]; done) | simp (maxDischargeDepth := 60) [*]; done)))
@[simp] theorem State.runTo_regsWf (s : State) (t : Nat) (hs : RegsCanon s.regs) : RegsCanon (State.runTo s t).regs := by
  first
  | (simp (maxDischargeDepth := 60) [State.runTo, hs, goesCanon_ite, apply_ite State.regs, apply_dite State.regs, apply_ite RegsCanon, apply_dite RegsCanon]; done)
  | (unfold State.runTo; (try dsimp only); (repeat' split) <;> first | with_reducible exact hs | (simp (maxDischargeDepth := 60) [hs, goesCanon_ite, apply_ite State.regs, apply_dite State.regs, apply_ite RegsCanon, apply_dite RegsCanon, *]; done) | (simp +contextual (maxDischargeDepth := 60) [hs, goesCanon_ite, apply_ite State.regs, apply_dite State.regs, apply_ite RegsCanon, apply_dite RegsCanon, *]; done) | (have ho := State.offer_regsWf _ _ _ _ (by assumption) hs; simp (maxDischargeDepth := 60) [*]; done) | (have ho := State.take_regsWf _ _ _ _ (by assumption) hs; simp (maxDischargeDepth := 60) [*]; done) | ((try rw [goesCanon_next]); with_reducible (refine foldl_regsWf _ _ _ ?_ ?_) <;> (first | (intro s hs a; (repeat' split) <;> simp (maxDischargeDepth := 60) [*]; done) | simp (maxDischargeDepth := 60) [*]; done)))
@[simp] theorem State.bumpFree_regsWf (s : State) (hs : RegsCanon s.regs) : RegsCanon (State.bumpFree s).regs := by
  first
  | (simp (maxDischargeDepth := 60) [State.bumpFree, hs, goesCanon_ite, apply_ite State.regs, apply_dite State.regs, apply_ite RegsCanon, apply_dite RegsCanon]; done)
  | (unfold State.bumpFree; (try dsimp only); (repeat' split) <;> first | with_reducible exact hs | (simp (maxDischargeDepth := 60) [hs, goesCanon_ite, apply_ite State.regs, apply_dite State.regs, apply_ite RegsCanon, apply_dite RegsCanon, *]; done) | (simp +contextual (maxDischargeDepth := 60) [hs, goesCanon_ite, apply_ite State.regs, apply_dite State.regs, apply_ite RegsCanon, apply_dite RegsCanon, *]; done) | (have ho := State.offer_regsWf _ _ _ _ (by assumption) hs; simp (maxDischargeDepth := 60) [*]; done) | (have ho := State.take_regsWf _ _ _ _ (by assumption) hs; simp (maxDischargeDepth := 60) [*]; done) | ((try rw [goesCanon_next]); with_reducible (refine foldl_regsWf _ _ _ ?_ ?_) <;> (first | (intro s hs a; (repeat' split) <;> simp (maxDischargeDepth := 60) [*]; done) | simp (maxDischargeDepth := 60) [*]; done)))
@[simp] theorem State.raise_regsWf (s : State) (m : FaultMsg) (hs : RegsCanon s.regs) : RegsCanon (State.raise s m).regs := by
  first
  | (simp (maxDischargeDepth := 60) [State.raise, hs, goesCanon_ite, apply_ite State.regs, apply_dite State.regs, apply_ite RegsCanon, apply_dite RegsCanon]; done)
  | (unfold State.raise; (try dsimp only); (repeat' split) <;> first | with_reducible exact hs | (simp (maxDischargeDepth := 60) [hs, goesCanon_ite, apply_ite State.regs, apply_dite State.regs, apply_ite RegsCanon, apply_dite RegsCanon, *]; done) | (simp +contextual (maxDischargeDepth := 60) [hs, goesCanon_ite, apply_ite State.regs, apply_dite State.regs, apply_ite RegsCanon, apply_dite RegsCanon, *]; done) | (have ho := State.offer_regsWf _ _ _ _ (by assumption) hs; simp (maxDischargeDepth := 60) [*]; done) | (have ho := State.take_regsWf _ _ _ _ (by assumption) hs; simp (maxDischargeDepth := 60) [*]; done) | ((try rw [goesCanon_next]); with_reducible (refine foldl_regsWf _ _ _ ?_ ?_) <;> (first | (intro s hs a; (repeat' split) <;> simp (maxDischargeDepth := 60) [*]; done) | simp (maxDischargeDepth := 60) [*]; done)))
@[simp] theorem State.endCause_regsWf (s : State) (source : Nat) (kind : Nat) (hs : RegsCanon s.regs) : RegsCanon (State.endCause s source kind).regs := by
  first
  | (simp (maxDischargeDepth := 60) [State.endCause, hs, goesCanon_ite, apply_ite State.regs, apply_dite State.regs, apply_ite RegsCanon, apply_dite RegsCanon]; done)
  | (unfold State.endCause; (try dsimp only); (repeat' split) <;> first | with_reducible exact hs | (simp (maxDischargeDepth := 60) [hs, goesCanon_ite, apply_ite State.regs, apply_dite State.regs, apply_ite RegsCanon, apply_dite RegsCanon, *]; done) | (simp +contextual (maxDischargeDepth := 60) [hs, goesCanon_ite, apply_ite State.regs, apply_dite State.regs, apply_ite RegsCanon, apply_dite RegsCanon, *]; done) | (have ho := State.offer_regsWf _ _ _ _ (by assumption) hs; simp (maxDischargeDepth := 60) [*]; done) | (have ho := State.take_regsWf _ _ _ _ (by assumption) hs; simp (maxDischargeDepth := 60) [*]; done) | ((try rw [goesCanon_next]); with_reducible (refine foldl_regsWf _ _ _ ?_ ?_) <;> (first | (intro s hs a; (repeat' split) <;> simp (maxDischargeDepth := 60) [*]; done) | simp (maxDischargeDepth := 60) [*]; done)))
@[simp] theorem State.markHigh_regsWf (s : State) (n : Fin 16) (hs : RegsCanon s.regs) : RegsCanon (State.markHigh s n).regs := by
  first
  | (simp (maxDischargeDepth := 60) [State.markHigh, hs, goesCanon_ite, apply_ite State.regs, apply_dite State.regs, apply_ite RegsCanon, apply_dite RegsCanon]; done)
  | (unfold State.markHigh; (try dsimp only); (repeat' split) <;> first | with_reducible exact hs | (simp (maxDischargeDepth := 60) [hs, goesCanon_ite, apply_ite State.regs, apply_dite State.regs, apply_ite RegsCanon, apply_dite RegsCanon, *]; done) | (simp +contextual (maxDischargeDepth := 60) [hs, goesCanon_ite, apply_ite State.regs, apply_dite State.regs, apply_ite RegsCanon, apply_dite RegsCanon, *]; done) | (have ho := State.offer_regsWf _ _ _ _ (by assumption) hs; simp (maxDischargeDepth := 60) [*]; done) | (have ho := State.take_regsWf _ _ _ _ (by assumption) hs; simp (maxDischargeDepth := 60) [*]; done) | ((try rw [goesCanon_next]); with_reducible (refine foldl_regsWf _ _ _ ?_ ?_) <;> (first | (intro s hs a; (repeat' split) <;> simp (maxDischargeDepth := 60) [*]; done) | simp (maxDischargeDepth := 60) [*]; done)))
theorem State.offer_regsWf (s : State) (n : Fin 16) (i : QItem) : ∀ t, s.offer n i = some t → RegsCanon s.regs → RegsCanon t.regs := by
  intro t h hs
  unfold State.offer at h
  dsimp only at h
  split at h
  · cases h; simp (maxDischargeDepth := 60) [hs]
  · cases h
@[simp] theorem State.offerOr_regsWf (s : State) (n : Fin 16) (i : QItem) (hs : RegsCanon s.regs) : RegsCanon (State.offerOr s n i).1.regs := by
  first
  | (simp (maxDischargeDepth := 60) [State.offerOr, hs, goesCanon_ite, apply_ite State.regs, apply_dite State.regs, apply_ite RegsCanon, apply_dite RegsCanon]; done)
  | (unfold State.offerOr; (try dsimp only); (repeat' split) <;> first | with_reducible exact hs | (simp (maxDischargeDepth := 60) [hs, goesCanon_ite, apply_ite State.regs, apply_dite State.regs, apply_ite RegsCanon, apply_dite RegsCanon, *]; done) | (simp +contextual (maxDischargeDepth := 60) [hs, goesCanon_ite, apply_ite State.regs, apply_dite State.regs, apply_ite RegsCanon, apply_dite RegsCanon, *]; done) | (have ho := State.offer_regsWf _ _ _ _ (by assumption) hs; simp (maxDischargeDepth := 60) [*]; done) | (have ho := State.take_regsWf _ _ _ _ (by assumption) hs; simp (maxDischargeDepth := 60) [*]; done) | ((try rw [goesCanon_next]); with_reducible (refine foldl_regsWf _ _ _ ?_ ?_) <;> (first | (intro s hs a; (repeat' split) <;> simp (maxDischargeDepth := 60) [*]; done) | simp (maxDischargeDepth := 60) [*]; done)))
@[simp] theorem State.freeCells_regsWf (s : State) (n : Fin 16) (c : Nat) (hs : RegsCanon s.regs) : RegsCanon (State.freeCells s n c).regs := by
  first
  | (simp (maxDischargeDepth := 60) [State.freeCells, hs, goesCanon_ite, apply_ite State.regs, apply_dite State.regs, apply_ite RegsCanon, apply_dite RegsCanon]; done)
  | (unfold State.freeCells; (try dsimp only); (repeat' split) <;> first | with_reducible exact hs | (simp (maxDischargeDepth := 60) [hs, goesCanon_ite, apply_ite State.regs, apply_dite State.regs, apply_ite RegsCanon, apply_dite RegsCanon, *]; done) | (simp +contextual (maxDischargeDepth := 60) [hs, goesCanon_ite, apply_ite State.regs, apply_dite State.regs, apply_ite RegsCanon, apply_dite RegsCanon, *]; done) | (have ho := State.offer_regsWf _ _ _ _ (by assumption) hs; simp (maxDischargeDepth := 60) [*]; done) | (have ho := State.take_regsWf _ _ _ _ (by assumption) hs; simp (maxDischargeDepth := 60) [*]; done) | ((try rw [goesCanon_next]); with_reducible (refine foldl_regsWf _ _ _ ?_ ?_) <;> (first | (intro s hs a; (repeat' split) <;> simp (maxDischargeDepth := 60) [*]; done) | simp (maxDischargeDepth := 60) [*]; done)))
theorem State.take_regsWf (s : State) (n : Fin 16) : ∀ i t, s.take n = some (i, t) → RegsCanon s.regs → RegsCanon t.regs := by
  intro i t h hs
  unfold State.take at h
  split at h
  · cases h
  · cases h; simp (maxDischargeDepth := 60) [hs]
@[simp] theorem State.withdraw_regsWf (s : State) (n : Fin 16) (p : QItem → Bool) (hs : RegsCanon s.regs) : RegsCanon (State.withdraw s n p).regs := by
  first
  | (simp (maxDischargeDepth := 60) [State.withdraw, hs, goesCanon_ite, apply_ite State.regs, apply_dite State.regs, apply_ite RegsCanon, apply_dite RegsCanon]; done)
  | (unfold State.withdraw; (try dsimp only); (repeat' split) <;> first | with_reducible exact hs | (simp (maxDischargeDepth := 60) [hs, goesCanon_ite, apply_ite State.regs, apply_dite State.regs, apply_ite RegsCanon, apply_dite RegsCanon, *]; done) | (simp +contextual (maxDischargeDepth := 60) [hs, goesCanon_ite, apply_ite State.regs, apply_dite State.regs, apply_ite RegsCanon, apply_dite RegsCanon, *]; done) | (have ho := State.offer_regsWf _ _ _ _ (by assumption) hs; simp (maxDischargeDepth := 60) [*]; done) | (have ho := State.take_regsWf _ _ _ _ (by assumption) hs; simp (maxDischargeDepth := 60) [*]; done) | ((try rw [goesCanon_next]); with_reducible (refine foldl_regsWf _ _ _ ?_ ?_) <;> (first | (intro s hs a; (repeat' split) <;> simp (maxDischargeDepth := 60) [*]; done) | simp (maxDischargeDepth := 60) [*]; done)))
@[simp] theorem State.cancelItems_regsWf (s : State) (n : Fin 16) (p : QItem → Bool) (hs : RegsCanon s.regs) : RegsCanon (State.cancelItems s n p).regs := by
  first
  | (simp (maxDischargeDepth := 60) [State.cancelItems, hs, goesCanon_ite, apply_ite State.regs, apply_dite State.regs, apply_ite RegsCanon, apply_dite RegsCanon]; done)
  | (unfold State.cancelItems; (try dsimp only); (repeat' split) <;> first | with_reducible exact hs | (simp (maxDischargeDepth := 60) [hs, goesCanon_ite, apply_ite State.regs, apply_dite State.regs, apply_ite RegsCanon, apply_dite RegsCanon, *]; done) | (simp +contextual (maxDischargeDepth := 60) [hs, goesCanon_ite, apply_ite State.regs, apply_dite State.regs, apply_ite RegsCanon, apply_dite RegsCanon, *]; done) | (have ho := State.offer_regsWf _ _ _ _ (by assumption) hs; simp (maxDischargeDepth := 60) [*]; done) | (have ho := State.take_regsWf _ _ _ _ (by assumption) hs; simp (maxDischargeDepth := 60) [*]; done) | ((try rw [goesCanon_next]); with_reducible (refine foldl_regsWf _ _ _ ?_ ?_) <;> (first | (intro s hs a; (repeat' split) <;> simp (maxDischargeDepth := 60) [*]; done) | simp (maxDischargeDepth := 60) [*]; done)))
@[simp] theorem State.modCore_regsWf (s : State) (c : Fin 8) (g : Core → Core) (hs : RegsCanon s.regs) : RegsCanon (State.modCore s c g).regs := by
  first
  | (simp (maxDischargeDepth := 60) [State.modCore, hs, goesCanon_ite, apply_ite State.regs, apply_dite State.regs, apply_ite RegsCanon, apply_dite RegsCanon]; done)
  | (unfold State.modCore; (try dsimp only); (repeat' split) <;> first | with_reducible exact hs | (simp (maxDischargeDepth := 60) [hs, goesCanon_ite, apply_ite State.regs, apply_dite State.regs, apply_ite RegsCanon, apply_dite RegsCanon, *]; done) | (simp +contextual (maxDischargeDepth := 60) [hs, goesCanon_ite, apply_ite State.regs, apply_dite State.regs, apply_ite RegsCanon, apply_dite RegsCanon, *]; done) | (have ho := State.offer_regsWf _ _ _ _ (by assumption) hs; simp (maxDischargeDepth := 60) [*]; done) | (have ho := State.take_regsWf _ _ _ _ (by assumption) hs; simp (maxDischargeDepth := 60) [*]; done) | ((try rw [goesCanon_next]); with_reducible (refine foldl_regsWf _ _ _ ?_ ?_) <;> (first | (intro s hs a; (repeat' split) <;> simp (maxDischargeDepth := 60) [*]; done) | simp (maxDischargeDepth := 60) [*]; done)))
@[simp] theorem State.setResult_regsWf (s : State) (c : Fin 8) (adm : Nat) (handle : Nat) (hs : RegsCanon s.regs) : RegsCanon (State.setResult s c adm handle).regs := by
  first
  | (simp (maxDischargeDepth := 60) [State.setResult, hs, goesCanon_ite, apply_ite State.regs, apply_dite State.regs, apply_ite RegsCanon, apply_dite RegsCanon]; done)
  | (unfold State.setResult; (try dsimp only); (repeat' split) <;> first | with_reducible exact hs | (simp (maxDischargeDepth := 60) [hs, goesCanon_ite, apply_ite State.regs, apply_dite State.regs, apply_ite RegsCanon, apply_dite RegsCanon, *]; done) | (simp +contextual (maxDischargeDepth := 60) [hs, goesCanon_ite, apply_ite State.regs, apply_dite State.regs, apply_ite RegsCanon, apply_dite RegsCanon, *]; done) | (have ho := State.offer_regsWf _ _ _ _ (by assumption) hs; simp (maxDischargeDepth := 60) [*]; done) | (have ho := State.take_regsWf _ _ _ _ (by assumption) hs; simp (maxDischargeDepth := 60) [*]; done) | ((try rw [goesCanon_next]); with_reducible (refine foldl_regsWf _ _ _ ?_ ?_) <;> (first | (intro s hs a; (repeat' split) <;> simp (maxDischargeDepth := 60) [*]; done) | simp (maxDischargeDepth := 60) [*]; done)))
@[simp] theorem State.modTile_regsWf (s : State) (a : Fin 96) (g : Tile → Tile) (hs : RegsCanon s.regs) : RegsCanon (State.modTile s a g).regs := by
  first
  | (simp (maxDischargeDepth := 60) [State.modTile, hs, goesCanon_ite, apply_ite State.regs, apply_dite State.regs, apply_ite RegsCanon, apply_dite RegsCanon]; done)
  | (unfold State.modTile; (try dsimp only); (repeat' split) <;> first | with_reducible exact hs | (simp (maxDischargeDepth := 60) [hs, goesCanon_ite, apply_ite State.regs, apply_dite State.regs, apply_ite RegsCanon, apply_dite RegsCanon, *]; done) | (simp +contextual (maxDischargeDepth := 60) [hs, goesCanon_ite, apply_ite State.regs, apply_dite State.regs, apply_ite RegsCanon, apply_dite RegsCanon, *]; done) | (have ho := State.offer_regsWf _ _ _ _ (by assumption) hs; simp (maxDischargeDepth := 60) [*]; done) | (have ho := State.take_regsWf _ _ _ _ (by assumption) hs; simp (maxDischargeDepth := 60) [*]; done) | ((try rw [goesCanon_next]); with_reducible (refine foldl_regsWf _ _ _ ?_ ?_) <;> (first | (intro s hs a; (repeat' split) <;> simp (maxDischargeDepth := 60) [*]; done) | simp (maxDischargeDepth := 60) [*]; done)))
@[simp] theorem State.modFbp_regsWf (s : State) (p : Fin 32) (g : FbPort → FbPort) (hs : RegsCanon s.regs) : RegsCanon (State.modFbp s p g).regs := by
  first
  | (simp (maxDischargeDepth := 60) [State.modFbp, hs, goesCanon_ite, apply_ite State.regs, apply_dite State.regs, apply_ite RegsCanon, apply_dite RegsCanon]; done)
  | (unfold State.modFbp; (try dsimp only); (repeat' split) <;> first | with_reducible exact hs | (simp (maxDischargeDepth := 60) [hs, goesCanon_ite, apply_ite State.regs, apply_dite State.regs, apply_ite RegsCanon, apply_dite RegsCanon, *]; done) | (simp +contextual (maxDischargeDepth := 60) [hs, goesCanon_ite, apply_ite State.regs, apply_dite State.regs, apply_ite RegsCanon, apply_dite RegsCanon, *]; done) | (have ho := State.offer_regsWf _ _ _ _ (by assumption) hs; simp (maxDischargeDepth := 60) [*]; done) | (have ho := State.take_regsWf _ _ _ _ (by assumption) hs; simp (maxDischargeDepth := 60) [*]; done) | ((try rw [goesCanon_next]); with_reducible (refine foldl_regsWf _ _ _ ?_ ?_) <;> (first | (intro s hs a; (repeat' split) <;> simp (maxDischargeDepth := 60) [*]; done) | simp (maxDischargeDepth := 60) [*]; done)))
@[simp] theorem State.modQueue_regsWf (s : State) (n : Fin 16) (g : Queue → Queue) (hs : RegsCanon s.regs) : RegsCanon (State.modQueue s n g).regs := by
  first
  | (simp (maxDischargeDepth := 60) [State.modQueue, hs, goesCanon_ite, apply_ite State.regs, apply_dite State.regs, apply_ite RegsCanon, apply_dite RegsCanon]; done)
  | (unfold State.modQueue; (try dsimp only); (repeat' split) <;> first | with_reducible exact hs | (simp (maxDischargeDepth := 60) [hs, goesCanon_ite, apply_ite State.regs, apply_dite State.regs, apply_ite RegsCanon, apply_dite RegsCanon, *]; done) | (simp +contextual (maxDischargeDepth := 60) [hs, goesCanon_ite, apply_ite State.regs, apply_dite State.regs, apply_ite RegsCanon, apply_dite RegsCanon, *]; done) | (have ho := State.offer_regsWf _ _ _ _ (by assumption) hs; simp (maxDischargeDepth := 60) [*]; done) | (have ho := State.take_regsWf _ _ _ _ (by assumption) hs; simp (maxDischargeDepth := 60) [*]; done) | ((try rw [goesCanon_next]); with_reducible (refine foldl_regsWf _ _ _ ?_ ?_) <;> (first | (intro s hs a; (repeat' split) <;> simp (maxDischargeDepth := 60) [*]; done) | simp (maxDischargeDepth := 60) [*]; done)))
@[simp] theorem State.msix_regsWf (s : State) (v : Fin 8) (hs : RegsCanon s.regs) : RegsCanon (State.msix s v).regs := by
  first
  | (simp (maxDischargeDepth := 60) [State.msix, hs, goesCanon_ite, apply_ite State.regs, apply_dite State.regs, apply_ite RegsCanon, apply_dite RegsCanon]; done)
  | (unfold State.msix; (try dsimp only); (repeat' split) <;> first | with_reducible exact hs | (simp (maxDischargeDepth := 60) [hs, goesCanon_ite, apply_ite State.regs, apply_dite State.regs, apply_ite RegsCanon, apply_dite RegsCanon, *]; done) | (simp +contextual (maxDischargeDepth := 60) [hs, goesCanon_ite, apply_ite State.regs, apply_dite State.regs, apply_ite RegsCanon, apply_dite RegsCanon, *]; done) | (have ho := State.offer_regsWf _ _ _ _ (by assumption) hs; simp (maxDischargeDepth := 60) [*]; done) | (have ho := State.take_regsWf _ _ _ _ (by assumption) hs; simp (maxDischargeDepth := 60) [*]; done) | ((try rw [goesCanon_next]); with_reducible (refine foldl_regsWf _ _ _ ?_ ?_) <;> (first | (intro s hs a; (repeat' split) <;> simp (maxDischargeDepth := 60) [*]; done) | simp (maxDischargeDepth := 60) [*]; done)))
@[simp] theorem State.hostWrite_regsWf (s : State) (a : Nat) (bs : List Byte) (hs : RegsCanon s.regs) : RegsCanon (State.hostWrite s a bs).regs := by
  first
  | (simp (maxDischargeDepth := 60) [State.hostWrite, hs, goesCanon_ite, apply_ite State.regs, apply_dite State.regs, apply_ite RegsCanon, apply_dite RegsCanon]; done)
  | (unfold State.hostWrite; (try dsimp only); (repeat' split) <;> first | with_reducible exact hs | (simp (maxDischargeDepth := 60) [hs, goesCanon_ite, apply_ite State.regs, apply_dite State.regs, apply_ite RegsCanon, apply_dite RegsCanon, *]; done) | (simp +contextual (maxDischargeDepth := 60) [hs, goesCanon_ite, apply_ite State.regs, apply_dite State.regs, apply_ite RegsCanon, apply_dite RegsCanon, *]; done) | (have ho := State.offer_regsWf _ _ _ _ (by assumption) hs; simp (maxDischargeDepth := 60) [*]; done) | (have ho := State.take_regsWf _ _ _ _ (by assumption) hs; simp (maxDischargeDepth := 60) [*]; done) | ((try rw [goesCanon_next]); with_reducible (refine foldl_regsWf _ _ _ ?_ ?_) <;> (first | (intro s hs a; (repeat' split) <;> simp (maxDischargeDepth := 60) [*]; done) | simp (maxDischargeDepth := 60) [*]; done)))
@[simp] theorem State.writeCq_regsWf (s : State) (c : Completion) (hs : RegsCanon s.regs) : RegsCanon (State.writeCq s c).regs := by
  first
  | (simp (maxDischargeDepth := 60) [State.writeCq, hs, goesCanon_ite, apply_ite State.regs, apply_dite State.regs, apply_ite RegsCanon, apply_dite RegsCanon]; done)
  | (unfold State.writeCq; (try dsimp only); (repeat' split) <;> first | with_reducible exact hs | (simp (maxDischargeDepth := 60) [hs, goesCanon_ite, apply_ite State.regs, apply_dite State.regs, apply_ite RegsCanon, apply_dite RegsCanon, *]; done) | (simp +contextual (maxDischargeDepth := 60) [hs, goesCanon_ite, apply_ite State.regs, apply_dite State.regs, apply_ite RegsCanon, apply_dite RegsCanon, *]; done) | (have ho := State.offer_regsWf _ _ _ _ (by assumption) hs; simp (maxDischargeDepth := 60) [*]; done) | (have ho := State.take_regsWf _ _ _ _ (by assumption) hs; simp (maxDischargeDepth := 60) [*]; done) | ((try rw [goesCanon_next]); with_reducible (refine foldl_regsWf _ _ _ ?_ ?_) <;> (first | (intro s hs a; (repeat' split) <;> simp (maxDischargeDepth := 60) [*]; done) | simp (maxDischargeDepth := 60) [*]; done)))
@[simp] theorem State.complete_regsWf (s : State) (id : Nat) (c : Completion) (hs : RegsCanon s.regs) : RegsCanon (State.complete s id c).regs := by
  first
  | (simp (maxDischargeDepth := 60) [State.complete, hs, goesCanon_ite, apply_ite State.regs, apply_dite State.regs, apply_ite RegsCanon, apply_dite RegsCanon]; done)
  | (unfold State.complete; (try dsimp only); (repeat' split) <;> first | with_reducible exact hs | (simp (maxDischargeDepth := 60) [hs, goesCanon_ite, apply_ite State.regs, apply_dite State.regs, apply_ite RegsCanon, apply_dite RegsCanon, *]; done) | (simp +contextual (maxDischargeDepth := 60) [hs, goesCanon_ite, apply_ite State.regs, apply_dite State.regs, apply_ite RegsCanon, apply_dite RegsCanon, *]; done) | (have ho := State.offer_regsWf _ _ _ _ (by assumption) hs; simp (maxDischargeDepth := 60) [*]; done) | (have ho := State.take_regsWf _ _ _ _ (by assumption) hs; simp (maxDischargeDepth := 60) [*]; done) | ((try rw [goesCanon_next]); with_reducible (refine foldl_regsWf _ _ _ ?_ ?_) <;> (first | (intro s hs a; (repeat' split) <;> simp (maxDischargeDepth := 60) [*]; done) | simp (maxDischargeDepth := 60) [*]; done)))
@[simp] theorem State.putBucket_regsWf (s : State) (b : RecBucket) (hs : RegsCanon s.regs) : RegsCanon (State.putBucket s b).regs := by
  first
  | (simp (maxDischargeDepth := 60) [State.putBucket, hs, goesCanon_ite, apply_ite State.regs, apply_dite State.regs, apply_ite RegsCanon, apply_dite RegsCanon]; done)
  | (unfold State.putBucket; (try dsimp only); (repeat' split) <;> first | with_reducible exact hs | (simp (maxDischargeDepth := 60) [hs, goesCanon_ite, apply_ite State.regs, apply_dite State.regs, apply_ite RegsCanon, apply_dite RegsCanon, *]; done) | (simp +contextual (maxDischargeDepth := 60) [hs, goesCanon_ite, apply_ite State.regs, apply_dite State.regs, apply_ite RegsCanon, apply_dite RegsCanon, *]; done) | (have ho := State.offer_regsWf _ _ _ _ (by assumption) hs; simp (maxDischargeDepth := 60) [*]; done) | (have ho := State.take_regsWf _ _ _ _ (by assumption) hs; simp (maxDischargeDepth := 60) [*]; done) | ((try rw [goesCanon_next]); with_reducible (refine foldl_regsWf _ _ _ ?_ ?_) <;> (first | (intro s hs a; (repeat' split) <;> simp (maxDischargeDepth := 60) [*]; done) | simp (maxDischargeDepth := 60) [*]; done)))
@[simp] theorem State.noteDrop_regsWf (s : State) (prio : Nat) (hs : RegsCanon s.regs) : RegsCanon (State.noteDrop s prio).regs := by
  first
  | (simp (maxDischargeDepth := 60) [State.noteDrop, hs, goesCanon_ite, apply_ite State.regs, apply_dite State.regs, apply_ite RegsCanon, apply_dite RegsCanon]; done)
  | (unfold State.noteDrop; (try dsimp only); (repeat' split) <;> first | with_reducible exact hs | (simp (maxDischargeDepth := 60) [hs, goesCanon_ite, apply_ite State.regs, apply_dite State.regs, apply_ite RegsCanon, apply_dite RegsCanon, *]; done) | (simp +contextual (maxDischargeDepth := 60) [hs, goesCanon_ite, apply_ite State.regs, apply_dite State.regs, apply_ite RegsCanon, apply_dite RegsCanon, *]; done) | (have ho := State.offer_regsWf _ _ _ _ (by assumption) hs; simp (maxDischargeDepth := 60) [*]; done) | (have ho := State.take_regsWf _ _ _ _ (by assumption) hs; simp (maxDischargeDepth := 60) [*]; done) | ((try rw [goesCanon_next]); with_reducible (refine foldl_regsWf _ _ _ ?_ ?_) <;> (first | (intro s hs a; (repeat' split) <;> simp (maxDischargeDepth := 60) [*]; done) | simp (maxDischargeDepth := 60) [*]; done)))
@[simp] theorem State.recRemove_regsWf (s : State) (ix : Nat) (cells : Nat) (hs : RegsCanon s.regs) : RegsCanon (State.recRemove s ix cells).regs := by
  first
  | (simp (maxDischargeDepth := 60) [State.recRemove, hs, goesCanon_ite, apply_ite State.regs, apply_dite State.regs, apply_ite RegsCanon, apply_dite RegsCanon]; done)
  | (unfold State.recRemove; (try dsimp only); (repeat' split) <;> first | with_reducible exact hs | (simp (maxDischargeDepth := 60) [hs, goesCanon_ite, apply_ite State.regs, apply_dite State.regs, apply_ite RegsCanon, apply_dite RegsCanon, *]; done) | (simp +contextual (maxDischargeDepth := 60) [hs, goesCanon_ite, apply_ite State.regs, apply_dite State.regs, apply_ite RegsCanon, apply_dite RegsCanon, *]; done) | (have ho := State.offer_regsWf _ _ _ _ (by assumption) hs; simp (maxDischargeDepth := 60) [*]; done) | (have ho := State.take_regsWf _ _ _ _ (by assumption) hs; simp (maxDischargeDepth := 60) [*]; done) | ((try rw [goesCanon_next]); with_reducible (refine foldl_regsWf _ _ _ ?_ ?_) <;> (first | (intro s hs a; (repeat' split) <;> simp (maxDischargeDepth := 60) [*]; done) | simp (maxDischargeDepth := 60) [*]; done)))
@[simp] theorem State.recMakeRoom_regsWf (s : State) (r : RecItem) (it : QItem) (x0 : Nat) (hs : RegsCanon s.regs) : RegsCanon (State.recMakeRoom s r it x0).1.regs := by
  induction x0 generalizing s r it with
  | zero => exact hs
  | succ k ih => (unfold State.recMakeRoom; (try dsimp only); (repeat' split) <;> first | with_reducible exact hs | (simp (maxDischargeDepth := 60) [hs, goesCanon_ite, apply_ite State.regs, apply_dite State.regs, apply_ite RegsCanon, apply_dite RegsCanon, ih, *]; done) | (simp +contextual (maxDischargeDepth := 60) [hs, goesCanon_ite, apply_ite State.regs, apply_dite State.regs, apply_ite RegsCanon, apply_dite RegsCanon, ih, *]; done) | (have ho := State.offer_regsWf _ _ _ _ (by assumption) hs; simp (maxDischargeDepth := 60) [ih, *]; done) | (have ho := State.take_regsWf _ _ _ _ (by assumption) hs; simp (maxDischargeDepth := 60) [ih, *]; done) | ((try rw [goesCanon_next]); with_reducible (refine foldl_regsWf _ _ _ ?_ ?_) <;> (first | (intro s hs a; (repeat' split) <;> simp (maxDischargeDepth := 60) [ih, *]; done) | simp (maxDischargeDepth := 60) [ih, *]; done)))
@[simp] theorem State.recEnqueue_regsWf (s : State) (r : RecItem) (hs : RegsCanon s.regs) : RegsCanon (State.recEnqueue s r).1.regs := by
  first
  | (simp (maxDischargeDepth := 60) [State.recEnqueue, hs, goesCanon_ite, apply_ite State.regs, apply_dite State.regs, apply_ite RegsCanon, apply_dite RegsCanon]; done)
  | (unfold State.recEnqueue; (try dsimp only); (repeat' split) <;> first | with_reducible exact hs | (simp (maxDischargeDepth := 60) [hs, goesCanon_ite, apply_ite State.regs, apply_dite State.regs, apply_ite RegsCanon, apply_dite RegsCanon, *]; done) | (simp +contextual (maxDischargeDepth := 60) [hs, goesCanon_ite, apply_ite State.regs, apply_dite State.regs, apply_ite RegsCanon, apply_dite RegsCanon, *]; done) | (have ho := State.offer_regsWf _ _ _ _ (by assumption) hs; simp (maxDischargeDepth := 60) [*]; done) | (have ho := State.take_regsWf _ _ _ _ (by assumption) hs; simp (maxDischargeDepth := 60) [*]; done) | ((try rw [goesCanon_next]); with_reducible (refine foldl_regsWf _ _ _ ?_ ?_) <;> (first | (intro s hs a; (repeat' split) <;> simp (maxDischargeDepth := 60) [*]; done) | simp (maxDischargeDepth := 60) [*]; done)))
@[simp] theorem State.recJudge_regsWf (s : State) (r : RecItem) (hs : RegsCanon s.regs) : RegsCanon (State.recJudge s r).1.regs := by
  first
  | (simp (maxDischargeDepth := 60) [State.recJudge, hs, goesCanon_ite, apply_ite State.regs, apply_dite State.regs, apply_ite RegsCanon, apply_dite RegsCanon]; done)
  | (unfold State.recJudge; (try dsimp only); (repeat' split) <;> first | with_reducible exact hs | (simp (maxDischargeDepth := 60) [hs, goesCanon_ite, apply_ite State.regs, apply_dite State.regs, apply_ite RegsCanon, apply_dite RegsCanon, *]; done) | (simp +contextual (maxDischargeDepth := 60) [hs, goesCanon_ite, apply_ite State.regs, apply_dite State.regs, apply_ite RegsCanon, apply_dite RegsCanon, *]; done) | (have ho := State.offer_regsWf _ _ _ _ (by assumption) hs; simp (maxDischargeDepth := 60) [*]; done) | (have ho := State.take_regsWf _ _ _ _ (by assumption) hs; simp (maxDischargeDepth := 60) [*]; done) | ((try rw [goesCanon_next]); with_reducible (refine foldl_regsWf _ _ _ ?_ ?_) <;> (first | (intro s hs a; (repeat' split) <;> simp (maxDischargeDepth := 60) [*]; done) | simp (maxDischargeDepth := 60) [*]; done)))
@[simp] theorem State.recOffer_regsWf (s : State) (firmware : Bool) (r : RecItem) (hs : RegsCanon s.regs) : RegsCanon (State.recOffer s firmware r).1.regs := by
  first
  | (simp (maxDischargeDepth := 60) [State.recOffer, hs, goesCanon_ite, apply_ite State.regs, apply_dite State.regs, apply_ite RegsCanon, apply_dite RegsCanon]; done)
  | (unfold State.recOffer; (try dsimp only); (repeat' split) <;> first | with_reducible exact hs | (simp (maxDischargeDepth := 60) [hs, goesCanon_ite, apply_ite State.regs, apply_dite State.regs, apply_ite RegsCanon, apply_dite RegsCanon, *]; done) | (simp +contextual (maxDischargeDepth := 60) [hs, goesCanon_ite, apply_ite State.regs, apply_dite State.regs, apply_ite RegsCanon, apply_dite RegsCanon, *]; done) | (have ho := State.offer_regsWf _ _ _ _ (by assumption) hs; simp (maxDischargeDepth := 60) [*]; done) | (have ho := State.take_regsWf _ _ _ _ (by assumption) hs; simp (maxDischargeDepth := 60) [*]; done) | ((try rw [goesCanon_next]); with_reducible (refine foldl_regsWf _ _ _ ?_ ?_) <;> (first | (intro s hs a; (repeat' split) <;> simp (maxDischargeDepth := 60) [*]; done) | simp (maxDischargeDepth := 60) [*]; done)))
@[simp] theorem State.offerRecAt_regsWf (s : State) (code : Nat) (prio : Nat) (payload : List Byte) (time : Instant) (hs : RegsCanon s.regs) : RegsCanon (State.offerRecAt s code prio payload time).regs := by
  first
  | (simp (maxDischargeDepth := 60) [State.offerRecAt, hs, goesCanon_ite, apply_ite State.regs, apply_dite State.regs, apply_ite RegsCanon, apply_dite RegsCanon]; done)
  | (unfold State.offerRecAt; (try dsimp only); (repeat' split) <;> first | with_reducible exact hs | (simp (maxDischargeDepth := 60) [hs, goesCanon_ite, apply_ite State.regs, apply_dite State.regs, apply_ite RegsCanon, apply_dite RegsCanon, *]; done) | (simp +contextual (maxDischargeDepth := 60) [hs, goesCanon_ite, apply_ite State.regs, apply_dite State.regs, apply_ite RegsCanon, apply_dite RegsCanon, *]; done) | (have ho := State.offer_regsWf _ _ _ _ (by assumption) hs; simp (maxDischargeDepth := 60) [*]; done) | (have ho := State.take_regsWf _ _ _ _ (by assumption) hs; simp (maxDischargeDepth := 60) [*]; done) | ((try rw [goesCanon_next]); with_reducible (refine foldl_regsWf _ _ _ ?_ ?_) <;> (first | (intro s hs a; (repeat' split) <;> simp (maxDischargeDepth := 60) [*]; done) | simp (maxDischargeDepth := 60) [*]; done)))
@[simp] theorem State.offerRec_regsWf (s : State) (code : Nat) (prio : Nat) (payload : List Byte) (hs : RegsCanon s.regs) : RegsCanon (State.offerRec s code prio payload).regs := by
  first
  | (simp (maxDischargeDepth := 60) [State.offerRec, hs, goesCanon_ite, apply_ite State.regs, apply_dite State.regs, apply_ite RegsCanon, apply_dite RegsCanon]; done)
  | (unfold State.offerRec; (try dsimp only); (repeat' split) <;> first | with_reducible exact hs | (simp (maxDischargeDepth := 60) [hs, goesCanon_ite, apply_ite State.regs, apply_dite State.regs, apply_ite RegsCanon, apply_dite RegsCanon, *]; done) | (simp +contextual (maxDischargeDepth := 60) [hs, goesCanon_ite, apply_ite State.regs, apply_dite State.regs, apply_ite RegsCanon, apply_dite RegsCanon, *]; done) | (have ho := State.offer_regsWf _ _ _ _ (by assumption) hs; simp (maxDischargeDepth := 60) [*]; done) | (have ho := State.take_regsWf _ _ _ _ (by assumption) hs; simp (maxDischargeDepth := 60) [*]; done) | ((try rw [goesCanon_next]); with_reducible (refine foldl_regsWf _ _ _ ?_ ?_) <;> (first | (intro s hs a; (repeat' split) <;> simp (maxDischargeDepth := 60) [*]; done) | simp (maxDischargeDepth := 60) [*]; done)))
@[simp] theorem State.setMode_regsWf (s : State) (m : Nat) (cause : Nat) (entry : Nat) (hs : RegsCanon s.regs) : RegsCanon (State.setMode s m cause entry).regs := by
  first
  | (simp (maxDischargeDepth := 60) [State.setMode, hs, goesCanon_ite, apply_ite State.regs, apply_dite State.regs, apply_ite RegsCanon, apply_dite RegsCanon]; done)
  | (unfold State.setMode; (try dsimp only); (repeat' split) <;> first | with_reducible exact hs | (simp (maxDischargeDepth := 60) [hs, goesCanon_ite, apply_ite State.regs, apply_dite State.regs, apply_ite RegsCanon, apply_dite RegsCanon, *]; done) | (simp +contextual (maxDischargeDepth := 60) [hs, goesCanon_ite, apply_ite State.regs, apply_dite State.regs, apply_ite RegsCanon, apply_dite RegsCanon, *]; done) | (have ho := State.offer_regsWf _ _ _ _ (by assumption) hs; simp (maxDischargeDepth := 60) [*]; done) | (have ho := State.take_regsWf _ _ _ _ (by assumption) hs; simp (maxDischargeDepth := 60) [*]; done) | ((try rw [goesCanon_next]); with_reducible (refine foldl_regsWf _ _ _ ?_ ?_) <;> (first | (intro s hs a; (repeat' split) <;> simp (maxDischargeDepth := 60) [*]; done) | simp (maxDischargeDepth := 60) [*]; done)))

end Sys2Proof.Machine
end

