-- ==== Sys2Proof/Laws/RegsQueues.lean ====
section
/-! SUPPORT. The operations of Machine/Queues.lean keep the register file in its canonical form. -/

namespace Sys2Proof.Machine

@[simp] theorem State.leaveGroup_regsWf (s : State) (hs : RegsCanon s.regs) : RegsCanon (State.leaveGroup s).regs := by
  first
  | (simp (maxDischargeDepth := 60) [State.leaveGroup, hs, goesCanon_ite, apply_ite State.regs, apply_dite State.regs, apply_ite RegsCanon, apply_dite RegsCanon]; done)
  | (unfold State.leaveGroup; (try dsimp only); (repeat' split) <;> first | with_reducible exact hs | (simp (maxDischargeDepth := 60) [hs, goesCanon_ite, apply_ite State.regs, apply_dite State.regs, apply_ite RegsCanon, apply_dite RegsCanon, *]; done) | (simp +contextual (maxDischargeDepth := 60) [hs, goesCanon_ite, apply_ite State.regs, apply_dite State.regs, apply_ite RegsCanon, apply_dite RegsCanon, *]; done) | (have ho := State.offer_regsWf _ _ _ _ (by assumption) hs; simp (maxDischargeDepth := 60) [*]; done) | (have ho := State.take_regsWf _ _ _ _ (by assumption) hs; simp (maxDischargeDepth := 60) [*]; done) | ((try rw [goesCanon_next]); with_reducible (refine foldl_regsWf _ _ _ ?_ ?_) <;> (first | (intro s hs a; (repeat' split) <;> simp (maxDischargeDepth := 60) [*]; done) | simp (maxDischargeDepth := 60) [*]; done)))
@[simp] theorem State.placeWork_regsWf (s : State) (w : Work) (hs : RegsCanon s.regs) : RegsCanon (State.placeWork s w).regs := by
  first
  | (simp (maxDischargeDepth := 60) [State.placeWork, hs, goesCanon_ite, apply_ite State.regs, apply_dite State.regs, apply_ite RegsCanon, apply_dite RegsCanon]; done)
  | (unfold State.placeWork; (try dsimp only); (repeat' split) <;> first | with_reducible exact hs | (simp (maxDischargeDepth := 60) [hs, goesCanon_ite, apply_ite State.regs, apply_dite State.regs, apply_ite RegsCanon, apply_dite RegsCanon, *]; done) | (simp +contextual (maxDischargeDepth := 60) [hs, goesCanon_ite, apply_ite State.regs, apply_dite State.regs, apply_ite RegsCanon, apply_dite RegsCanon, *]; done) | (have ho := State.offer_regsWf _ _ _ _ (by assumption) hs; simp (maxDischargeDepth := 60) [*]; done) | (have ho := State.take_regsWf _ _ _ _ (by assumption) hs; simp (maxDischargeDepth := 60) [*]; done) | ((try rw [goesCanon_next]); with_reducible (refine foldl_regsWf _ _ _ ?_ ?_) <;> (first | (intro s hs a; (repeat' split) <;> simp (maxDischargeDepth := 60) [*]; done) | simp (maxDischargeDepth := 60) [*]; done)))
@[simp] theorem State.join_regsWf (s : State) (w : Work) (hs : RegsCanon s.regs) : RegsCanon (State.join s w).regs := by
  first
  | (simp (maxDischargeDepth := 60) [State.join, hs, goesCanon_ite, apply_ite State.regs, apply_dite State.regs, apply_ite RegsCanon, apply_dite RegsCanon]; done)
  | (unfold State.join; (try dsimp only); (repeat' split) <;> first | with_reducible exact hs | (simp (maxDischargeDepth := 60) [hs, goesCanon_ite, apply_ite State.regs, apply_dite State.regs, apply_ite RegsCanon, apply_dite RegsCanon, *]; done) | (simp +contextual (maxDischargeDepth := 60) [hs, goesCanon_ite, apply_ite State.regs, apply_dite State.regs, apply_ite RegsCanon, apply_dite RegsCanon, *]; done) | (have ho := State.offer_regsWf _ _ _ _ (by assumption) hs; simp (maxDischargeDepth := 60) [*]; done) | (have ho := State.take_regsWf _ _ _ _ (by assumption) hs; simp (maxDischargeDepth := 60) [*]; done) | ((try rw [goesCanon_next]); with_reducible (refine foldl_regsWf _ _ _ ?_ ?_) <;> (first | (intro s hs a; (repeat' split) <;> simp (maxDischargeDepth := 60) [*]; done) | simp (maxDischargeDepth := 60) [*]; done)))
@[simp] theorem State.putWork_regsWf (s : State) (n : Fin 16) (w : Work) (hs : RegsCanon s.regs) : RegsCanon (State.putWork s n w).1.regs := by
  first
  | (simp (maxDischargeDepth := 60) [State.putWork, hs, goesCanon_ite, apply_ite State.regs, apply_dite State.regs, apply_ite RegsCanon, apply_dite RegsCanon]; done)
  | (unfold State.putWork; (try dsimp only); (repeat' split) <;> first | with_reducible exact hs | (simp (maxDischargeDepth := 60) [hs, goesCanon_ite, apply_ite State.regs, apply_dite State.regs, apply_ite RegsCanon, apply_dite RegsCanon, *]; done) | (simp +contextual (maxDischargeDepth := 60) [hs, goesCanon_ite, apply_ite State.regs, apply_dite State.regs, apply_ite RegsCanon, apply_dite RegsCanon, *]; done) | (have ho := State.offer_regsWf _ _ _ _ (by assumption) hs; simp (maxDischargeDepth := 60) [*]; done) | (have ho := State.take_regsWf _ _ _ _ (by assumption) hs; simp (maxDischargeDepth := 60) [*]; done) | ((try rw [goesCanon_next]); with_reducible (refine foldl_regsWf _ _ _ ?_ ?_) <;> (first | (intro s hs a; (repeat' split) <;> simp (maxDischargeDepth := 60) [*]; done) | simp (maxDischargeDepth := 60) [*]; done)))
@[simp] theorem State.unqueue_regsWf (s : State) (w : Work) (hs : RegsCanon s.regs) : RegsCanon (State.unqueue s w).regs := by
  first
  | (simp (maxDischargeDepth := 60) [State.unqueue, hs, goesCanon_ite, apply_ite State.regs, apply_dite State.regs, apply_ite RegsCanon, apply_dite RegsCanon]; done)
  | (unfold State.unqueue; (try dsimp only); (repeat' split) <;> first | with_reducible exact hs | (simp (maxDischargeDepth := 60) [hs, goesCanon_ite, apply_ite State.regs, apply_dite State.regs, apply_ite RegsCanon, apply_dite RegsCanon, *]; done) | (simp +contextual (maxDischargeDepth := 60) [hs, goesCanon_ite, apply_ite State.regs, apply_dite State.regs, apply_ite RegsCanon, apply_dite RegsCanon, *]; done) | (have ho := State.offer_regsWf _ _ _ _ (by assumption) hs; simp (maxDischargeDepth := 60) [*]; done) | (have ho := State.take_regsWf _ _ _ _ (by assumption) hs; simp (maxDischargeDepth := 60) [*]; done) | ((try rw [goesCanon_next]); with_reducible (refine foldl_regsWf _ _ _ ?_ ?_) <;> (first | (intro s hs a; (repeat' split) <;> simp (maxDischargeDepth := 60) [*]; done) | simp (maxDischargeDepth := 60) [*]; done)))
@[simp] theorem State.endWork_regsWf (s : State) (w : Work) (adm : Nat) (result : Nat) (hs : RegsCanon s.regs) : RegsCanon (State.endWork s w adm result).regs := by
  first
  | (simp (maxDischargeDepth := 60) [State.endWork, hs, goesCanon_ite, apply_ite State.regs, apply_dite State.regs, apply_ite RegsCanon, apply_dite RegsCanon]; done)
  | (unfold State.endWork; (try dsimp only); (repeat' split) <;> first | with_reducible exact hs | (simp (maxDischargeDepth := 60) [hs, goesCanon_ite, apply_ite State.regs, apply_dite State.regs, apply_ite RegsCanon, apply_dite RegsCanon, *]; done) | (simp +contextual (maxDischargeDepth := 60) [hs, goesCanon_ite, apply_ite State.regs, apply_dite State.regs, apply_ite RegsCanon, apply_dite RegsCanon, *]; done) | (have ho := State.offer_regsWf _ _ _ _ (by assumption) hs; simp (maxDischargeDepth := 60) [*]; done) | (have ho := State.take_regsWf _ _ _ _ (by assumption) hs; simp (maxDischargeDepth := 60) [*]; done) | ((try rw [goesCanon_next]); with_reducible (refine foldl_regsWf _ _ _ ?_ ?_) <;> (first | (intro s hs a; (repeat' split) <;> simp (maxDischargeDepth := 60) [*]; done) | simp (maxDischargeDepth := 60) [*]; done)))
@[simp] theorem State.fillInbox_regsWf (s : State) (c : Fin 8) (w : Work) (seq : Nat) (hs : RegsCanon s.regs) : RegsCanon (State.fillInbox s c w seq).regs := by
  first
  | (simp (maxDischargeDepth := 60) [State.fillInbox, hs, goesCanon_ite, apply_ite State.regs, apply_dite State.regs, apply_ite RegsCanon, apply_dite RegsCanon]; done)
  | (unfold State.fillInbox; (try dsimp only); (repeat' split) <;> first | with_reducible exact hs | (simp (maxDischargeDepth := 60) [hs, goesCanon_ite, apply_ite State.regs, apply_dite State.regs, apply_ite RegsCanon, apply_dite RegsCanon, *]; done) | (simp +contextual (maxDischargeDepth := 60) [hs, goesCanon_ite, apply_ite State.regs, apply_dite State.regs, apply_ite RegsCanon, apply_dite RegsCanon, *]; done) | (have ho := State.offer_regsWf _ _ _ _ (by assumption) hs; simp (maxDischargeDepth := 60) [*]; done) | (have ho := State.take_regsWf _ _ _ _ (by assumption) hs; simp (maxDischargeDepth := 60) [*]; done) | ((try rw [goesCanon_next]); with_reducible (refine foldl_regsWf _ _ _ ?_ ?_) <;> (first | (intro s hs a; (repeat' split) <;> simp (maxDischargeDepth := 60) [*]; done) | simp (maxDischargeDepth := 60) [*]; done)))
@[simp] theorem State.startOn_regsWf (s : State) (w : Work) (c : Fin 8) (hs : RegsCanon s.regs) : RegsCanon (State.startOn s w c).regs := by
  first
  | (simp (maxDischargeDepth := 60) [State.startOn, hs, goesCanon_ite, apply_ite State.regs, apply_dite State.regs, apply_ite RegsCanon, apply_dite RegsCanon]; done)
  | (unfold State.startOn; (try dsimp only); (repeat' split) <;> first | with_reducible exact hs | (simp (maxDischargeDepth := 60) [hs, goesCanon_ite, apply_ite State.regs, apply_dite State.regs, apply_ite RegsCanon, apply_dite RegsCanon, *]; done) | (simp +contextual (maxDischargeDepth := 60) [hs, goesCanon_ite, apply_ite State.regs, apply_dite State.regs, apply_ite RegsCanon, apply_dite RegsCanon, *]; done) | (have ho := State.offer_regsWf _ _ _ _ (by assumption) hs; simp (maxDischargeDepth := 60) [*]; done) | (have ho := State.take_regsWf _ _ _ _ (by assumption) hs; simp (maxDischargeDepth := 60) [*]; done) | ((try rw [goesCanon_next]); with_reducible (refine foldl_regsWf _ _ _ ?_ ?_) <;> (first | (intro s hs a; (repeat' split) <;> simp (maxDischargeDepth := 60) [*]; done) | simp (maxDischargeDepth := 60) [*]; done)))
@[simp] theorem State.endHandler_regsWf (s : State) (c : Fin 8) (status : Nat) (hs : RegsCanon s.regs) : RegsCanon (State.endHandler s c status).regs := by
  first
  | (simp (maxDischargeDepth := 60) [State.endHandler, hs, goesCanon_ite, apply_ite State.regs, apply_dite State.regs, apply_ite RegsCanon, apply_dite RegsCanon]; done)
  | (unfold State.endHandler; (try dsimp only); (repeat' split) <;> first | with_reducible exact hs | (simp (maxDischargeDepth := 60) [hs, goesCanon_ite, apply_ite State.regs, apply_dite State.regs, apply_ite RegsCanon, apply_dite RegsCanon, *]; done) | (simp +contextual (maxDischargeDepth := 60) [hs, goesCanon_ite, apply_ite State.regs, apply_dite State.regs, apply_ite RegsCanon, apply_dite RegsCanon, *]; done) | (have ho := State.offer_regsWf _ _ _ _ (by assumption) hs; simp (maxDischargeDepth := 60) [*]; done) | (have ho := State.take_regsWf _ _ _ _ (by assumption) hs; simp (maxDischargeDepth := 60) [*]; done) | ((try rw [goesCanon_next]); with_reducible (refine foldl_regsWf _ _ _ ?_ ?_) <;> (first | (intro s hs a; (repeat' split) <;> simp (maxDischargeDepth := 60) [*]; done) | simp (maxDischargeDepth := 60) [*]; done)))
@[simp] theorem State.grantQueue_regsWf (s : State) (n : Fin 16) (x0 : Nat) (hs : RegsCanon s.regs) : RegsCanon (State.grantQueue s n x0).1.regs := by
  induction x0 generalizing s n with
  | zero => exact hs
  | succ k ih => (unfold State.grantQueue; (try dsimp only); (repeat' split) <;> first | with_reducible exact hs | (simp (maxDischargeDepth := 60) [hs, goesCanon_ite, apply_ite State.regs, apply_dite State.regs, apply_ite RegsCanon, apply_dite RegsCanon, ih, *]; done) | (simp +contextual (maxDischargeDepth := 60) [hs, goesCanon_ite, apply_ite State.regs, apply_dite State.regs, apply_ite RegsCanon, apply_dite RegsCanon, ih, *]; done) | (have ho := State.offer_regsWf _ _ _ _ (by assumption) hs; simp (maxDischargeDepth := 60) [ih, *]; done) | (have ho := State.take_regsWf _ _ _ _ (by assumption) hs; simp (maxDischargeDepth := 60) [ih, *]; done) | ((try rw [goesCanon_next]); with_reducible (refine foldl_regsWf _ _ _ ?_ ?_) <;> (first | (intro s hs a; (repeat' split) <;> simp (maxDischargeDepth := 60) [ih, *]; done) | simp (maxDischargeDepth := 60) [ih, *]; done)))
@[simp] theorem State.grantAll_regsWf (s : State) (x0 : List Nat) (hs : RegsCanon s.regs) : RegsCanon (State.grantAll s x0).regs := by
  induction x0 generalizing s with
  | nil => exact hs
  | cons x xs ih => (unfold State.grantAll; (try dsimp only); (repeat' split) <;> first | with_reducible exact hs | (simp (maxDischargeDepth := 60) [hs, goesCanon_ite, apply_ite State.regs, apply_dite State.regs, apply_ite RegsCanon, apply_dite RegsCanon, ih, *]; done) | (simp +contextual (maxDischargeDepth := 60) [hs, goesCanon_ite, apply_ite State.regs, apply_dite State.regs, apply_ite RegsCanon, apply_dite RegsCanon, ih, *]; done) | (have ho := State.offer_regsWf _ _ _ _ (by assumption) hs; simp (maxDischargeDepth := 60) [ih, *]; done) | (have ho := State.take_regsWf _ _ _ _ (by assumption) hs; simp (maxDischargeDepth := 60) [ih, *]; done) | ((try rw [goesCanon_next]); with_reducible (refine foldl_regsWf _ _ _ ?_ ?_) <;> (first | (intro s hs a; (repeat' split) <;> simp (maxDischargeDepth := 60) [ih, *]; done) | simp (maxDischargeDepth := 60) [ih, *]; done)))
@[simp] theorem State.portSent_regsWf (s : State) (x : PtpTx) (hs : RegsCanon s.regs) : RegsCanon (State.portSent s x).regs := by
  first
  | (simp (maxDischargeDepth := 60) [State.portSent, hs, goesCanon_ite, apply_ite State.regs, apply_dite State.regs, apply_ite RegsCanon, apply_dite RegsCanon]; done)
  | (unfold State.portSent; (try dsimp only); (repeat' split) <;> first | with_reducible exact hs | (simp (maxDischargeDepth := 60) [hs, goesCanon_ite, apply_ite State.regs, apply_dite State.regs, apply_ite RegsCanon, apply_dite RegsCanon, *]; done) | (simp +contextual (maxDischargeDepth := 60) [hs, goesCanon_ite, apply_ite State.regs, apply_dite State.regs, apply_ite RegsCanon, apply_dite RegsCanon, *]; done) | (have ho := State.offer_regsWf _ _ _ _ (by assumption) hs; simp (maxDischargeDepth := 60) [*]; done) | (have ho := State.take_regsWf _ _ _ _ (by assumption) hs; simp (maxDischargeDepth := 60) [*]; done) | ((try rw [goesCanon_next]); with_reducible (refine foldl_regsWf _ _ _ ?_ ?_) <;> (first | (intro s hs a; (repeat' split) <;> simp (maxDischargeDepth := 60) [*]; done) | simp (maxDischargeDepth := 60) [*]; done)))
@[simp] theorem execSharedCellGrant_goesCanon (s : State) (hs : RegsCanon s.regs) : goesCanon (execSharedCellGrant s) := by
  first
  | (simp (maxDischargeDepth := 60) [execSharedCellGrant, hs, goesCanon_ite, apply_ite State.regs, apply_dite State.regs, apply_ite RegsCanon, apply_dite RegsCanon]; done)
  | (unfold execSharedCellGrant; (try dsimp only); (repeat' split) <;> first | with_reducible exact hs | (simp (maxDischargeDepth := 60) [hs, goesCanon_ite, apply_ite State.regs, apply_dite State.regs, apply_ite RegsCanon, apply_dite RegsCanon, *]; done) | (simp +contextual (maxDischargeDepth := 60) [hs, goesCanon_ite, apply_ite State.regs, apply_dite State.regs, apply_ite RegsCanon, apply_dite RegsCanon, *]; done) | (have ho := State.offer_regsWf _ _ _ _ (by assumption) hs; simp (maxDischargeDepth := 60) [*]; done) | (have ho := State.take_regsWf _ _ _ _ (by assumption) hs; simp (maxDischargeDepth := 60) [*]; done) | ((try rw [goesCanon_next]); with_reducible (refine foldl_regsWf _ _ _ ?_ ?_) <;> (first | (intro s hs a; (repeat' split) <;> simp (maxDischargeDepth := 60) [*]; done) | simp (maxDischargeDepth := 60) [*]; done)))
@[simp] theorem execDispatchStart_goesCanon (s : State) (hs : RegsCanon s.regs) : goesCanon (execDispatchStart s) := by
  first
  | (simp (maxDischargeDepth := 60) [execDispatchStart, hs, goesCanon_ite, apply_ite State.regs, apply_dite State.regs, apply_ite RegsCanon, apply_dite RegsCanon]; done)
  | (unfold execDispatchStart; (try dsimp only); (repeat' split) <;> first | with_reducible exact hs | (simp (maxDischargeDepth := 60) [hs, goesCanon_ite, apply_ite State.regs, apply_dite State.regs, apply_ite RegsCanon, apply_dite RegsCanon, *]; done) | (simp +contextual (maxDischargeDepth := 60) [hs, goesCanon_ite, apply_ite State.regs, apply_dite State.regs, apply_ite RegsCanon, apply_dite RegsCanon, *]; done) | (have ho := State.offer_regsWf _ _ _ _ (by assumption) hs; simp (maxDischargeDepth := 60) [*]; done) | (have ho := State.take_regsWf _ _ _ _ (by assumption) hs; simp (maxDischargeDepth := 60) [*]; done) | ((try rw [goesCanon_next]); with_reducible (refine foldl_regsWf _ _ _ ?_ ?_) <;> (first | (intro s hs a; (repeat' split) <;> simp (maxDischargeDepth := 60) [*]; done) | simp (maxDischargeDepth := 60) [*]; done)))
@[simp] theorem execHandlerReturn_goesCanon (c : Fin 8) (status : Byte) (s : State) (hs : RegsCanon s.regs) : goesCanon (execHandlerReturn c status s) := by
  first
  | (simp (maxDischargeDepth := 60) [execHandlerReturn, hs, goesCanon_ite, apply_ite State.regs, apply_dite State.regs, apply_ite RegsCanon, apply_dite RegsCanon]; done)
  | (unfold execHandlerReturn; (try dsimp only); (repeat' split) <;> first | with_reducible exact hs | (simp (maxDischargeDepth := 60) [hs, goesCanon_ite, apply_ite State.regs, apply_dite State.regs, apply_ite RegsCanon, apply_dite RegsCanon, *]; done) | (simp +contextual (maxDischargeDepth := 60) [hs, goesCanon_ite, apply_ite State.regs, apply_dite State.regs, apply_ite RegsCanon, apply_dite RegsCanon, *]; done) | (have ho := State.offer_regsWf _ _ _ _ (by assumption) hs; simp (maxDischargeDepth := 60) [*]; done) | (have ho := State.take_regsWf _ _ _ _ (by assumption) hs; simp (maxDischargeDepth := 60) [*]; done) | ((try rw [goesCanon_next]); with_reducible (refine foldl_regsWf _ _ _ ?_ ?_) <;> (first | (intro s hs a; (repeat' split) <;> simp (maxDischargeDepth := 60) [*]; done) | simp (maxDischargeDepth := 60) [*]; done)))
@[simp] theorem execHandlerOverrun_goesCanon (c : Fin 8) (s : State) (hs : RegsCanon s.regs) : goesCanon (execHandlerOverrun c s) := by
  first
  | (simp (maxDischargeDepth := 60) [execHandlerOverrun, hs, goesCanon_ite, apply_ite State.regs, apply_dite State.regs, apply_ite RegsCanon, apply_dite RegsCanon]; done)
  | (unfold execHandlerOverrun; (try dsimp only); (repeat' split) <;> first | with_reducible exact hs | (simp (maxDischargeDepth := 60) [hs, goesCanon_ite, apply_ite State.regs, apply_dite State.regs, apply_ite RegsCanon, apply_dite RegsCanon, *]; done) | (simp +contextual (maxDischargeDepth := 60) [hs, goesCanon_ite, apply_ite State.regs, apply_dite State.regs, apply_ite RegsCanon, apply_dite RegsCanon, *]; done) | (have ho := State.offer_regsWf _ _ _ _ (by assumption) hs; simp (maxDischargeDepth := 60) [*]; done) | (have ho := State.take_regsWf _ _ _ _ (by assumption) hs; simp (maxDischargeDepth := 60) [*]; done) | ((try rw [goesCanon_next]); with_reducible (refine foldl_regsWf _ _ _ ?_ ?_) <;> (first | (intro s hs a; (repeat' split) <;> simp (maxDischargeDepth := 60) [*]; done) | simp (maxDischargeDepth := 60) [*]; done)))
@[simp] theorem execCoreBusErr_goesCanon (c : Fin 8) (address : Word) (width : Nat) (s : State) (hs : RegsCanon s.regs) : goesCanon (execCoreBusErr c address width s) := by
  first
  | (simp (maxDischargeDepth := 60) [execCoreBusErr, hs, goesCanon_ite, apply_ite State.regs, apply_dite State.regs, apply_ite RegsCanon, apply_dite RegsCanon]; done)
  | (unfold execCoreBusErr; (try dsimp only); (repeat' split) <;> first | with_reducible exact hs | (simp (maxDischargeDepth := 60) [hs, goesCanon_ite, apply_ite State.regs, apply_dite State.regs, apply_ite RegsCanon, apply_dite RegsCanon, *]; done) | (simp +contextual (maxDischargeDepth := 60) [hs, goesCanon_ite, apply_ite State.regs, apply_dite State.regs, apply_ite RegsCanon, apply_dite RegsCanon, *]; done) | (have ho := State.offer_regsWf _ _ _ _ (by assumption) hs; simp (maxDischargeDepth := 60) [*]; done) | (have ho := State.take_regsWf _ _ _ _ (by assumption) hs; simp (maxDischargeDepth := 60) [*]; done) | ((try rw [goesCanon_next]); with_reducible (refine foldl_regsWf _ _ _ ?_ ?_) <;> (first | (intro s hs a; (repeat' split) <;> simp (maxDischargeDepth := 60) [*]; done) | simp (maxDischargeDepth := 60) [*]; done)))
@[simp] theorem execPlantFrameTx_goesCanon (port : Fin 2) (s : State) (hs : RegsCanon s.regs) : goesCanon (execPlantFrameTx port s) := by
  first
  | (simp (maxDischargeDepth := 60) [execPlantFrameTx, hs, goesCanon_ite, apply_ite State.regs, apply_dite State.regs, apply_ite RegsCanon, apply_dite RegsCanon]; done)
  | (unfold execPlantFrameTx; (try dsimp only); (repeat' split) <;> first | with_reducible exact hs | (simp (maxDischargeDepth := 60) [hs, goesCanon_ite, apply_ite State.regs, apply_dite State.regs, apply_ite RegsCanon, apply_dite RegsCanon, *]; done) | (simp +contextual (maxDischargeDepth := 60) [hs, goesCanon_ite, apply_ite State.regs, apply_dite State.regs, apply_ite RegsCanon, apply_dite RegsCanon, *]; done) | (have ho := State.offer_regsWf _ _ _ _ (by assumption) hs; simp (maxDischargeDepth := 60) [*]; done) | (have ho := State.take_regsWf _ _ _ _ (by assumption) hs; simp (maxDischargeDepth := 60) [*]; done) | ((try rw [goesCanon_next]); with_reducible (refine foldl_regsWf _ _ _ ?_ ?_) <;> (first | (intro s hs a; (repeat' split) <;> simp (maxDischargeDepth := 60) [*]; done) | simp (maxDischargeDepth := 60) [*]; done)))

end Sys2Proof.Machine
end

