-- ==== Sys2Proof/Laws/RegsRecorder.lean ====
section
/-! SUPPORT. The operations of Machine/Recorder.lean keep the register file in its canonical form. -/

namespace Sys2Proof.Machine

@[simp] theorem State.recOpen_regsWf (s : State) (blk : Nat) (hs : RegsCanon s.regs) : RegsCanon (State.recOpen s blk).regs := by
  first
  | (simp (maxDischargeDepth := 60) [State.recOpen, hs, goesCanon_ite, apply_ite State.regs, apply_dite State.regs, apply_ite RegsCanon, apply_dite RegsCanon]; done)
  | (unfold State.recOpen; (try dsimp only); (repeat' split) <;> first | with_reducible exact hs | (simp (maxDischargeDepth := 60) [hs, goesCanon_ite, apply_ite State.regs, apply_dite State.regs, apply_ite RegsCanon, apply_dite RegsCanon, *]; done) | (simp +contextual (maxDischargeDepth := 60) [hs, goesCanon_ite, apply_ite State.regs, apply_dite State.regs, apply_ite RegsCanon, apply_dite RegsCanon, *]; done) | (have ho := State.offer_regsWf _ _ _ _ (by assumption) hs; simp (maxDischargeDepth := 60) [*]; done) | (have ho := State.take_regsWf _ _ _ _ (by assumption) hs; simp (maxDischargeDepth := 60) [*]; done) | ((try rw [goesCanon_next]); with_reducible (refine foldl_regsWf _ _ _ ?_ ?_) <;> (first | (intro s hs a; (repeat' split) <;> simp (maxDischargeDepth := 60) [*]; done) | simp (maxDischargeDepth := 60) [*]; done)))
@[simp] theorem State.mramWrite_regsWf (s : State) (a : Nat) (bs : List Byte) (hs : RegsCanon s.regs) : RegsCanon (State.mramWrite s a bs).regs := by
  first
  | (simp (maxDischargeDepth := 60) [State.mramWrite, hs, goesCanon_ite, apply_ite State.regs, apply_dite State.regs, apply_ite RegsCanon, apply_dite RegsCanon]; done)
  | (unfold State.mramWrite; (try dsimp only); (repeat' split) <;> first | with_reducible exact hs | (simp (maxDischargeDepth := 60) [hs, goesCanon_ite, apply_ite State.regs, apply_dite State.regs, apply_ite RegsCanon, apply_dite RegsCanon, *]; done) | (simp +contextual (maxDischargeDepth := 60) [hs, goesCanon_ite, apply_ite State.regs, apply_dite State.regs, apply_ite RegsCanon, apply_dite RegsCanon, *]; done) | (have ho := State.offer_regsWf _ _ _ _ (by assumption) hs; simp (maxDischargeDepth := 60) [*]; done) | (have ho := State.take_regsWf _ _ _ _ (by assumption) hs; simp (maxDischargeDepth := 60) [*]; done) | ((try rw [goesCanon_next]); with_reducible (refine foldl_regsWf _ _ _ ?_ ?_) <;> (first | (intro s hs a; (repeat' split) <;> simp (maxDischargeDepth := 60) [*]; done) | simp (maxDischargeDepth := 60) [*]; done)))
@[simp] theorem State.recFresh_regsWf (s : State) (hs : RegsCanon s.regs) : RegsCanon (State.recFresh s).regs := by
  first
  | (simp (maxDischargeDepth := 60) [State.recFresh, hs, goesCanon_ite, apply_ite State.regs, apply_dite State.regs, apply_ite RegsCanon, apply_dite RegsCanon]; done)
  | (unfold State.recFresh; (try dsimp only); (repeat' split) <;> first | with_reducible exact hs | (simp (maxDischargeDepth := 60) [hs, goesCanon_ite, apply_ite State.regs, apply_dite State.regs, apply_ite RegsCanon, apply_dite RegsCanon, *]; done) | (simp +contextual (maxDischargeDepth := 60) [hs, goesCanon_ite, apply_ite State.regs, apply_dite State.regs, apply_ite RegsCanon, apply_dite RegsCanon, *]; done) | (have ho := State.offer_regsWf _ _ _ _ (by assumption) hs; simp (maxDischargeDepth := 60) [*]; done) | (have ho := State.take_regsWf _ _ _ _ (by assumption) hs; simp (maxDischargeDepth := 60) [*]; done) | ((try rw [goesCanon_next]); with_reducible (refine foldl_regsWf _ _ _ ?_ ?_) <;> (first | (intro s hs a; (repeat' split) <;> simp (maxDischargeDepth := 60) [*]; done) | simp (maxDischargeDepth := 60) [*]; done)))
@[simp] theorem State.recStore_regsWf (s : State) (len : Nat) (bytes : List Byte) (hs : RegsCanon s.regs) : RegsCanon (State.recStore s len bytes).regs := by
  first
  | (simp (maxDischargeDepth := 60) [State.recStore, hs, goesCanon_ite, apply_ite State.regs, apply_dite State.regs, apply_ite RegsCanon, apply_dite RegsCanon]; done)
  | (unfold State.recStore; (try dsimp only); (repeat' split) <;> first | with_reducible exact hs | (simp (maxDischargeDepth := 60) [hs, goesCanon_ite, apply_ite State.regs, apply_dite State.regs, apply_ite RegsCanon, apply_dite RegsCanon, *]; done) | (simp +contextual (maxDischargeDepth := 60) [hs, goesCanon_ite, apply_ite State.regs, apply_dite State.regs, apply_ite RegsCanon, apply_dite RegsCanon, *]; done) | (have ho := State.offer_regsWf _ _ _ _ (by assumption) hs; simp (maxDischargeDepth := 60) [*]; done) | (have ho := State.take_regsWf _ _ _ _ (by assumption) hs; simp (maxDischargeDepth := 60) [*]; done) | ((try rw [goesCanon_next]); with_reducible (refine foldl_regsWf _ _ _ ?_ ?_) <;> (first | (intro s hs a; (repeat' split) <;> simp (maxDischargeDepth := 60) [*]; done) | simp (maxDischargeDepth := 60) [*]; done)))
@[simp] theorem State.recAdvance_regsWf (s : State) (len : Nat) (hs : RegsCanon s.regs) : RegsCanon (State.recAdvance s len).regs := by
  first
  | (simp (maxDischargeDepth := 60) [State.recAdvance, hs, goesCanon_ite, apply_ite State.regs, apply_dite State.regs, apply_ite RegsCanon, apply_dite RegsCanon]; done)
  | (unfold State.recAdvance; (try dsimp only); (repeat' split) <;> first | with_reducible exact hs | (simp (maxDischargeDepth := 60) [hs, goesCanon_ite, apply_ite State.regs, apply_dite State.regs, apply_ite RegsCanon, apply_dite RegsCanon, *]; done) | (simp +contextual (maxDischargeDepth := 60) [hs, goesCanon_ite, apply_ite State.regs, apply_dite State.regs, apply_ite RegsCanon, apply_dite RegsCanon, *]; done) | (have ho := State.offer_regsWf _ _ _ _ (by assumption) hs; simp (maxDischargeDepth := 60) [*]; done) | (have ho := State.take_regsWf _ _ _ _ (by assumption) hs; simp (maxDischargeDepth := 60) [*]; done) | ((try rw [goesCanon_next]); with_reducible (refine foldl_regsWf _ _ _ ?_ ?_) <;> (first | (intro s hs a; (repeat' split) <;> simp (maxDischargeDepth := 60) [*]; done) | simp (maxDischargeDepth := 60) [*]; done)))
@[simp] theorem State.recShow_regsWf (s : State) (a : Nat) (seq : Nat) (hs : RegsCanon s.regs) : RegsCanon (State.recShow s a seq).regs := by
  first
  | (simp (maxDischargeDepth := 60) [State.recShow, hs, goesCanon_ite, apply_ite State.regs, apply_dite State.regs, apply_ite RegsCanon, apply_dite RegsCanon]; done)
  | (unfold State.recShow; (try dsimp only); (repeat' split) <;> first | with_reducible exact hs | (simp (maxDischargeDepth := 60) [hs, goesCanon_ite, apply_ite State.regs, apply_dite State.regs, apply_ite RegsCanon, apply_dite RegsCanon, *]; done) | (simp +contextual (maxDischargeDepth := 60) [hs, goesCanon_ite, apply_ite State.regs, apply_dite State.regs, apply_ite RegsCanon, apply_dite RegsCanon, *]; done) | (have ho := State.offer_regsWf _ _ _ _ (by assumption) hs; simp (maxDischargeDepth := 60) [*]; done) | (have ho := State.take_regsWf _ _ _ _ (by assumption) hs; simp (maxDischargeDepth := 60) [*]; done) | ((try rw [goesCanon_next]); with_reducible (refine foldl_regsWf _ _ _ ?_ ?_) <;> (first | (intro s hs a; (repeat' split) <;> simp (maxDischargeDepth := 60) [*]; done) | simp (maxDischargeDepth := 60) [*]; done)))
@[simp] theorem State.recPut_regsWf (s : State) (len : Nat) (bytes : List Byte) (hs : RegsCanon s.regs) : RegsCanon (State.recPut s len bytes).regs := by
  first
  | (simp (maxDischargeDepth := 60) [State.recPut, hs, goesCanon_ite, apply_ite State.regs, apply_dite State.regs, apply_ite RegsCanon, apply_dite RegsCanon]; done)
  | (unfold State.recPut; (try dsimp only); (repeat' split) <;> first | with_reducible exact hs | (simp (maxDischargeDepth := 60) [hs, goesCanon_ite, apply_ite State.regs, apply_dite State.regs, apply_ite RegsCanon, apply_dite RegsCanon, *]; done) | (simp +contextual (maxDischargeDepth := 60) [hs, goesCanon_ite, apply_ite State.regs, apply_dite State.regs, apply_ite RegsCanon, apply_dite RegsCanon, *]; done) | (have ho := State.offer_regsWf _ _ _ _ (by assumption) hs; simp (maxDischargeDepth := 60) [*]; done) | (have ho := State.take_regsWf _ _ _ _ (by assumption) hs; simp (maxDischargeDepth := 60) [*]; done) | ((try rw [goesCanon_next]); with_reducible (refine foldl_regsWf _ _ _ ?_ ?_) <;> (first | (intro s hs a; (repeat' split) <;> simp (maxDischargeDepth := 60) [*]; done) | simp (maxDischargeDepth := 60) [*]; done)))
@[simp] theorem State.recWrite_regsWf (s : State) (r : RecItem) (hs : RegsCanon s.regs) : RegsCanon (State.recWrite s r).regs := by
  first
  | (simp (maxDischargeDepth := 60) [State.recWrite, hs, goesCanon_ite, apply_ite State.regs, apply_dite State.regs, apply_ite RegsCanon, apply_dite RegsCanon]; done)
  | (unfold State.recWrite; (try dsimp only); (repeat' split) <;> first | with_reducible exact hs | (simp (maxDischargeDepth := 60) [hs, goesCanon_ite, apply_ite State.regs, apply_dite State.regs, apply_ite RegsCanon, apply_dite RegsCanon, *]; done) | (simp +contextual (maxDischargeDepth := 60) [hs, goesCanon_ite, apply_ite State.regs, apply_dite State.regs, apply_ite RegsCanon, apply_dite RegsCanon, *]; done) | (have ho := State.offer_regsWf _ _ _ _ (by assumption) hs; simp (maxDischargeDepth := 60) [*]; done) | (have ho := State.take_regsWf _ _ _ _ (by assumption) hs; simp (maxDischargeDepth := 60) [*]; done) | ((try rw [goesCanon_next]); with_reducible (refine foldl_regsWf _ _ _ ?_ ?_) <;> (first | (intro s hs a; (repeat' split) <;> simp (maxDischargeDepth := 60) [*]; done) | simp (maxDischargeDepth := 60) [*]; done)))
@[simp] theorem State.recFound_regsWf (s : State) (head : Nat) (seq : Nat) (old : Nat) (oldSeq : Nat) (valid : Nat) (damaged : Nat) (wrapped : Bool) (hs : RegsCanon s.regs) : RegsCanon (State.recFound s head seq old oldSeq valid damaged wrapped).regs := by
  first
  | (simp (maxDischargeDepth := 60) [State.recFound, hs, goesCanon_ite, apply_ite State.regs, apply_dite State.regs, apply_ite RegsCanon, apply_dite RegsCanon]; done)
  | (unfold State.recFound; (try dsimp only); (repeat' split) <;> first | with_reducible exact hs | (simp (maxDischargeDepth := 60) [hs, goesCanon_ite, apply_ite State.regs, apply_dite State.regs, apply_ite RegsCanon, apply_dite RegsCanon, *]; done) | (simp +contextual (maxDischargeDepth := 60) [hs, goesCanon_ite, apply_ite State.regs, apply_dite State.regs, apply_ite RegsCanon, apply_dite RegsCanon, *]; done) | (have ho := State.offer_regsWf _ _ _ _ (by assumption) hs; simp (maxDischargeDepth := 60) [*]; done) | (have ho := State.take_regsWf _ _ _ _ (by assumption) hs; simp (maxDischargeDepth := 60) [*]; done) | ((try rw [goesCanon_next]); with_reducible (refine foldl_regsWf _ _ _ ?_ ?_) <;> (first | (intro s hs a; (repeat' split) <;> simp (maxDischargeDepth := 60) [*]; done) | simp (maxDischargeDepth := 60) [*]; done)))
@[simp] theorem State.recDamage_regsWf (s : State) (n : Nat) (hs : RegsCanon s.regs) : RegsCanon (State.recDamage s n).regs := by
  first
  | (simp (maxDischargeDepth := 60) [State.recDamage, hs, goesCanon_ite, apply_ite State.regs, apply_dite State.regs, apply_ite RegsCanon, apply_dite RegsCanon]; done)
  | (unfold State.recDamage; (try dsimp only); (repeat' split) <;> first | with_reducible exact hs | (simp (maxDischargeDepth := 60) [hs, goesCanon_ite, apply_ite State.regs, apply_dite State.regs, apply_ite RegsCanon, apply_dite RegsCanon, *]; done) | (simp +contextual (maxDischargeDepth := 60) [hs, goesCanon_ite, apply_ite State.regs, apply_dite State.regs, apply_ite RegsCanon, apply_dite RegsCanon, *]; done) | (have ho := State.offer_regsWf _ _ _ _ (by assumption) hs; simp (maxDischargeDepth := 60) [*]; done) | (have ho := State.take_regsWf _ _ _ _ (by assumption) hs; simp (maxDischargeDepth := 60) [*]; done) | ((try rw [goesCanon_next]); with_reducible (refine foldl_regsWf _ _ _ ?_ ?_) <;> (first | (intro s hs a; (repeat' split) <;> simp (maxDischargeDepth := 60) [*]; done) | simp (maxDischargeDepth := 60) [*]; done)))
@[simp] theorem State.recScan_regsWf (s : State) (hs : RegsCanon s.regs) : RegsCanon (State.recScan s).regs := by
  first
  | (simp (maxDischargeDepth := 60) [State.recScan, hs, goesCanon_ite, apply_ite State.regs, apply_dite State.regs, apply_ite RegsCanon, apply_dite RegsCanon]; done)
  | (unfold State.recScan; (try dsimp only); (repeat' split) <;> first | with_reducible exact hs | (simp (maxDischargeDepth := 60) [hs, goesCanon_ite, apply_ite State.regs, apply_dite State.regs, apply_ite RegsCanon, apply_dite RegsCanon, *]; done) | (simp +contextual (maxDischargeDepth := 60) [hs, goesCanon_ite, apply_ite State.regs, apply_dite State.regs, apply_ite RegsCanon, apply_dite RegsCanon, *]; done) | (have ho := State.offer_regsWf _ _ _ _ (by assumption) hs; simp (maxDischargeDepth := 60) [*]; done) | (have ho := State.take_regsWf _ _ _ _ (by assumption) hs; simp (maxDischargeDepth := 60) [*]; done) | ((try rw [goesCanon_next]); with_reducible (refine foldl_regsWf _ _ _ ?_ ?_) <;> (first | (intro s hs a; (repeat' split) <;> simp (maxDischargeDepth := 60) [*]; done) | simp (maxDischargeDepth := 60) [*]; done)))
@[simp] theorem State.recCut_regsWf (s : State) (n : Nat) (hs : RegsCanon s.regs) : RegsCanon (State.recCut s n).regs := by
  first
  | (simp (maxDischargeDepth := 60) [State.recCut, hs, goesCanon_ite, apply_ite State.regs, apply_dite State.regs, apply_ite RegsCanon, apply_dite RegsCanon]; done)
  | (unfold State.recCut; (try dsimp only); (repeat' split) <;> first | with_reducible exact hs | (simp (maxDischargeDepth := 60) [hs, goesCanon_ite, apply_ite State.regs, apply_dite State.regs, apply_ite RegsCanon, apply_dite RegsCanon, *]; done) | (simp +contextual (maxDischargeDepth := 60) [hs, goesCanon_ite, apply_ite State.regs, apply_dite State.regs, apply_ite RegsCanon, apply_dite RegsCanon, *]; done) | (have ho := State.offer_regsWf _ _ _ _ (by assumption) hs; simp (maxDischargeDepth := 60) [*]; done) | (have ho := State.take_regsWf _ _ _ _ (by assumption) hs; simp (maxDischargeDepth := 60) [*]; done) | ((try rw [goesCanon_next]); with_reducible (refine foldl_regsWf _ _ _ ?_ ?_) <;> (first | (intro s hs a; (repeat' split) <;> simp (maxDischargeDepth := 60) [*]; done) | simp (maxDischargeDepth := 60) [*]; done)))
@[simp] theorem State.recMramErr_regsWf (s : State) (address : Option Nat) (hs : RegsCanon s.regs) : RegsCanon (State.recMramErr s address).regs := by
  first
  | (simp (maxDischargeDepth := 60) [State.recMramErr, hs, goesCanon_ite, apply_ite State.regs, apply_dite State.regs, apply_ite RegsCanon, apply_dite RegsCanon]; done)
  | (unfold State.recMramErr; (try dsimp only); (repeat' split) <;> first | with_reducible exact hs | (simp (maxDischargeDepth := 60) [hs, goesCanon_ite, apply_ite State.regs, apply_dite State.regs, apply_ite RegsCanon, apply_dite RegsCanon, *]; done) | (simp +contextual (maxDischargeDepth := 60) [hs, goesCanon_ite, apply_ite State.regs, apply_dite State.regs, apply_ite RegsCanon, apply_dite RegsCanon, *]; done) | (have ho := State.offer_regsWf _ _ _ _ (by assumption) hs; simp (maxDischargeDepth := 60) [*]; done) | (have ho := State.take_regsWf _ _ _ _ (by assumption) hs; simp (maxDischargeDepth := 60) [*]; done) | ((try rw [goesCanon_next]); with_reducible (refine foldl_regsWf _ _ _ ?_ ?_) <;> (first | (intro s hs a; (repeat' split) <;> simp (maxDischargeDepth := 60) [*]; done) | simp (maxDischargeDepth := 60) [*]; done)))
@[simp] theorem execRecScanDone_goesCanon (bad : Option Nat) (s : State) (hs : RegsCanon s.regs) : goesCanon (execRecScanDone bad s) := by
  first
  | (simp (maxDischargeDepth := 60) [execRecScanDone, hs, goesCanon_ite, apply_ite State.regs, apply_dite State.regs, apply_ite RegsCanon, apply_dite RegsCanon]; done)
  | (unfold execRecScanDone; (try dsimp only); (repeat' split) <;> first | with_reducible exact hs | (simp (maxDischargeDepth := 60) [hs, goesCanon_ite, apply_ite State.regs, apply_dite State.regs, apply_ite RegsCanon, apply_dite RegsCanon, *]; done) | (simp +contextual (maxDischargeDepth := 60) [hs, goesCanon_ite, apply_ite State.regs, apply_dite State.regs, apply_ite RegsCanon, apply_dite RegsCanon, *]; done) | (have ho := State.offer_regsWf _ _ _ _ (by assumption) hs; simp (maxDischargeDepth := 60) [*]; done) | (have ho := State.take_regsWf _ _ _ _ (by assumption) hs; simp (maxDischargeDepth := 60) [*]; done) | ((try rw [goesCanon_next]); with_reducible (refine foldl_regsWf _ _ _ ?_ ?_) <;> (first | (intro s hs a; (repeat' split) <;> simp (maxDischargeDepth := 60) [*]; done) | simp (maxDischargeDepth := 60) [*]; done)))
@[simp] theorem execRecordWrite_goesCanon (bad : Option Nat) (s : State) (hs : RegsCanon s.regs) : goesCanon (execRecordWrite bad s) := by
  first
  | (simp (maxDischargeDepth := 60) [execRecordWrite, hs, goesCanon_ite, apply_ite State.regs, apply_dite State.regs, apply_ite RegsCanon, apply_dite RegsCanon]; done)
  | (unfold execRecordWrite; (try dsimp only); (repeat' split) <;> first | with_reducible exact hs | (simp (maxDischargeDepth := 60) [hs, goesCanon_ite, apply_ite State.regs, apply_dite State.regs, apply_ite RegsCanon, apply_dite RegsCanon, *]; done) | (simp +contextual (maxDischargeDepth := 60) [hs, goesCanon_ite, apply_ite State.regs, apply_dite State.regs, apply_ite RegsCanon, apply_dite RegsCanon, *]; done) | (have ho := State.offer_regsWf _ _ _ _ (by assumption) hs; simp (maxDischargeDepth := 60) [*]; done) | (have ho := State.take_regsWf _ _ _ _ (by assumption) hs; simp (maxDischargeDepth := 60) [*]; done) | ((try rw [goesCanon_next]); with_reducible (refine foldl_regsWf _ _ _ ?_ ?_) <;> (first | (intro s hs a; (repeat' split) <;> simp (maxDischargeDepth := 60) [*]; done) | simp (maxDischargeDepth := 60) [*]; done)))
@[simp] theorem execRecordOffer_goesCanon (core : Option (Fin 8)) (code : Nat) (prio : Nat) (payload : List Byte) (s : State) (hs : RegsCanon s.regs) : goesCanon (execRecordOffer core code prio payload s) := by
  first
  | (simp (maxDischargeDepth := 60) [execRecordOffer, hs, goesCanon_ite, apply_ite State.regs, apply_dite State.regs, apply_ite RegsCanon, apply_dite RegsCanon]; done)
  | (unfold execRecordOffer; (try dsimp only); (repeat' split) <;> first | with_reducible exact hs | (simp (maxDischargeDepth := 60) [hs, goesCanon_ite, apply_ite State.regs, apply_dite State.regs, apply_ite RegsCanon, apply_dite RegsCanon, *]; done) | (simp +contextual (maxDischargeDepth := 60) [hs, goesCanon_ite, apply_ite State.regs, apply_dite State.regs, apply_ite RegsCanon, apply_dite RegsCanon, *]; done) | (have ho := State.offer_regsWf _ _ _ _ (by assumption) hs; simp (maxDischargeDepth := 60) [*]; done) | (have ho := State.take_regsWf _ _ _ _ (by assumption) hs; simp (maxDischargeDepth := 60) [*]; done) | ((try rw [goesCanon_next]); with_reducible (refine foldl_regsWf _ _ _ ?_ ?_) <;> (first | (intro s hs a; (repeat' split) <;> simp (maxDischargeDepth := 60) [*]; done) | simp (maxDischargeDepth := 60) [*]; done)))
@[simp] theorem execSuppressed_goesCanon (code : Nat) (t : Nat) (s : State) (hs : RegsCanon s.regs) : goesCanon (execSuppressed code t s) := by
  first
  | (simp (maxDischargeDepth := 60) [execSuppressed, hs, goesCanon_ite, apply_ite State.regs, apply_dite State.regs, apply_ite RegsCanon, apply_dite RegsCanon]; done)
  | (unfold execSuppressed; (try dsimp only); (repeat' split) <;> first | with_reducible exact hs | (simp (maxDischargeDepth := 60) [hs, goesCanon_ite, apply_ite State.regs, apply_dite State.regs, apply_ite RegsCanon, apply_dite RegsCanon, *]; done) | (simp +contextual (maxDischargeDepth := 60) [hs, goesCanon_ite, apply_ite State.regs, apply_dite State.regs, apply_ite RegsCanon, apply_dite RegsCanon, *]; done) | (have ho := State.offer_regsWf _ _ _ _ (by assumption) hs; simp (maxDischargeDepth := 60) [*]; done) | (have ho := State.take_regsWf _ _ _ _ (by assumption) hs; simp (maxDischargeDepth := 60) [*]; done) | ((try rw [goesCanon_next]); with_reducible (refine foldl_regsWf _ _ _ ?_ ?_) <;> (first | (intro s hs a; (repeat' split) <;> simp (maxDischargeDepth := 60) [*]; done) | simp (maxDischargeDepth := 60) [*]; done)))
@[simp] theorem execDropEpisodeEnd_goesCanon (s : State) (hs : RegsCanon s.regs) : goesCanon (execDropEpisodeEnd s) := by
  first
  | (simp (maxDischargeDepth := 60) [execDropEpisodeEnd, hs, goesCanon_ite, apply_ite State.regs, apply_dite State.regs, apply_ite RegsCanon, apply_dite RegsCanon]; done)
  | (unfold execDropEpisodeEnd; (try dsimp only); (repeat' split) <;> first | with_reducible exact hs | (simp (maxDischargeDepth := 60) [hs, goesCanon_ite, apply_ite State.regs, apply_dite State.regs, apply_ite RegsCanon, apply_dite RegsCanon, *]; done) | (simp +contextual (maxDischargeDepth := 60) [hs, goesCanon_ite, apply_ite State.regs, apply_dite State.regs, apply_ite RegsCanon, apply_dite RegsCanon, *]; done) | (have ho := State.offer_regsWf _ _ _ _ (by assumption) hs; simp (maxDischargeDepth := 60) [*]; done) | (have ho := State.take_regsWf _ _ _ _ (by assumption) hs; simp (maxDischargeDepth := 60) [*]; done) | ((try rw [goesCanon_next]); with_reducible (refine foldl_regsWf _ _ _ ?_ ?_) <;> (first | (intro s hs a; (repeat' split) <;> simp (maxDischargeDepth := 60) [*]; done) | simp (maxDischargeDepth := 60) [*]; done)))

end Sys2Proof.Machine
end

