-- ==== Sys2Proof/Laws/RegsWheel.lean ====
section
/-! SUPPORT. The operations of Machine/Wheel.lean keep the register file in its canonical form. -/

namespace Sys2Proof.Machine

@[simp] theorem State.placeMaster_regsWf (s : State) (m : MPoint) (hs : RegsCanon s.regs) : RegsCanon (State.placeMaster s m).regs := by
  first
  | (simp (maxDischargeDepth := 60) [State.placeMaster, hs, goesCanon_ite, apply_ite State.regs, apply_dite State.regs, apply_ite RegsCanon, apply_dite RegsCanon]; done)
  | (unfold State.placeMaster; (try dsimp only); (repeat' split) <;> first | with_reducible exact hs | (simp (maxDischargeDepth := 60) [hs, goesCanon_ite, apply_ite State.regs, apply_dite State.regs, apply_ite RegsCanon, apply_dite RegsCanon, *]; done) | (simp +contextual (maxDischargeDepth := 60) [hs, goesCanon_ite, apply_ite State.regs, apply_dite State.regs, apply_ite RegsCanon, apply_dite RegsCanon, *]; done) | (have ho := State.offer_regsWf _ _ _ _ (by assumption) hs; simp (maxDischargeDepth := 60) [*]; done) | (have ho := State.take_regsWf _ _ _ _ (by assumption) hs; simp (maxDischargeDepth := 60) [*]; done) | ((try rw [goesCanon_next]); with_reducible (refine foldl_regsWf _ _ _ ?_ ?_) <;> (first | (intro s hs a; (repeat' split) <;> simp (maxDischargeDepth := 60) [*]; done) | simp (maxDischargeDepth := 60) [*]; done)))
@[simp] theorem State.anchor_regsWf (s : State) (hs : RegsCanon s.regs) : RegsCanon (State.anchor s).regs := by
  first
  | (simp (maxDischargeDepth := 60) [State.anchor, hs, goesCanon_ite, apply_ite State.regs, apply_dite State.regs, apply_ite RegsCanon, apply_dite RegsCanon]; done)
  | (unfold State.anchor; (try dsimp only); (repeat' split) <;> first | with_reducible exact hs | (simp (maxDischargeDepth := 60) [hs, goesCanon_ite, apply_ite State.regs, apply_dite State.regs, apply_ite RegsCanon, apply_dite RegsCanon, *]; done) | (simp +contextual (maxDischargeDepth := 60) [hs, goesCanon_ite, apply_ite State.regs, apply_dite State.regs, apply_ite RegsCanon, apply_dite RegsCanon, *]; done) | (have ho := State.offer_regsWf _ _ _ _ (by assumption) hs; simp (maxDischargeDepth := 60) [*]; done) | (have ho := State.take_regsWf _ _ _ _ (by assumption) hs; simp (maxDischargeDepth := 60) [*]; done) | ((try rw [goesCanon_next]); with_reducible (refine foldl_regsWf _ _ _ ?_ ?_) <;> (first | (intro s hs a; (repeat' split) <;> simp (maxDischargeDepth := 60) [*]; done) | simp (maxDischargeDepth := 60) [*]; done)))
@[simp] theorem State.toMst_regsWf (s : State) (m : Nat) (hs : RegsCanon s.regs) : RegsCanon (State.toMst s m).regs := by
  first
  | (simp (maxDischargeDepth := 60) [State.toMst, hs, goesCanon_ite, apply_ite State.regs, apply_dite State.regs, apply_ite RegsCanon, apply_dite RegsCanon]; done)
  | (unfold State.toMst; (try dsimp only); (repeat' split) <;> first | with_reducible exact hs | (simp (maxDischargeDepth := 60) [hs, goesCanon_ite, apply_ite State.regs, apply_dite State.regs, apply_ite RegsCanon, apply_dite RegsCanon, *]; done) | (simp +contextual (maxDischargeDepth := 60) [hs, goesCanon_ite, apply_ite State.regs, apply_dite State.regs, apply_ite RegsCanon, apply_dite RegsCanon, *]; done) | (have ho := State.offer_regsWf _ _ _ _ (by assumption) hs; simp (maxDischargeDepth := 60) [*]; done) | (have ho := State.take_regsWf _ _ _ _ (by assumption) hs; simp (maxDischargeDepth := 60) [*]; done) | ((try rw [goesCanon_next]); with_reducible (refine foldl_regsWf _ _ _ ?_ ?_) <;> (first | (intro s hs a; (repeat' split) <;> simp (maxDischargeDepth := 60) [*]; done) | simp (maxDischargeDepth := 60) [*]; done)))
@[simp] theorem State.masterTimeStep_regsWf (s : State) (ms : Int) (hs : RegsCanon s.regs) : RegsCanon (State.masterTimeStep s ms).regs := by
  first
  | (simp (maxDischargeDepth := 60) [State.masterTimeStep, hs, goesCanon_ite, apply_ite State.regs, apply_dite State.regs, apply_ite RegsCanon, apply_dite RegsCanon]; done)
  | (unfold State.masterTimeStep; (try dsimp only); (repeat' split) <;> first | with_reducible exact hs | (simp (maxDischargeDepth := 60) [hs, goesCanon_ite, apply_ite State.regs, apply_dite State.regs, apply_ite RegsCanon, apply_dite RegsCanon, *]; done) | (simp +contextual (maxDischargeDepth := 60) [hs, goesCanon_ite, apply_ite State.regs, apply_dite State.regs, apply_ite RegsCanon, apply_dite RegsCanon, *]; done) | (have ho := State.offer_regsWf _ _ _ _ (by assumption) hs; simp (maxDischargeDepth := 60) [*]; done) | (have ho := State.take_regsWf _ _ _ _ (by assumption) hs; simp (maxDischargeDepth := 60) [*]; done) | ((try rw [goesCanon_next]); with_reducible (refine foldl_regsWf _ _ _ ?_ ?_) <;> (first | (intro s hs a; (repeat' split) <;> simp (maxDischargeDepth := 60) [*]; done) | simp (maxDischargeDepth := 60) [*]; done)))
@[simp] theorem State.stage_regsWf (s : State) (hs : RegsCanon s.regs) : RegsCanon (State.stage s).regs := by
  first
  | (simp (maxDischargeDepth := 60) [State.stage, hs, goesCanon_ite, apply_ite State.regs, apply_dite State.regs, apply_ite RegsCanon, apply_dite RegsCanon]; done)
  | (unfold State.stage; (try dsimp only); (repeat' split) <;> first | with_reducible exact hs | (simp (maxDischargeDepth := 60) [hs, goesCanon_ite, apply_ite State.regs, apply_dite State.regs, apply_ite RegsCanon, apply_dite RegsCanon, *]; done) | (simp +contextual (maxDischargeDepth := 60) [hs, goesCanon_ite, apply_ite State.regs, apply_dite State.regs, apply_ite RegsCanon, apply_dite RegsCanon, *]; done) | (have ho := State.offer_regsWf _ _ _ _ (by assumption) hs; simp (maxDischargeDepth := 60) [*]; done) | (have ho := State.take_regsWf _ _ _ _ (by assumption) hs; simp (maxDischargeDepth := 60) [*]; done) | ((try rw [goesCanon_next]); with_reducible (refine foldl_regsWf _ _ _ ?_ ?_) <;> (first | (intro s hs a; (repeat' split) <;> simp (maxDischargeDepth := 60) [*]; done) | simp (maxDischargeDepth := 60) [*]; done)))
@[simp] theorem State.syncW_regsWf (s : State) (hs : RegsCanon s.regs) : RegsCanon (State.syncW s).regs := by
  first
  | (simp (maxDischargeDepth := 60) [State.syncW, hs, goesCanon_ite, apply_ite State.regs, apply_dite State.regs, apply_ite RegsCanon, apply_dite RegsCanon]; done)
  | (unfold State.syncW; (try dsimp only); (repeat' split) <;> first | with_reducible exact hs | (simp (maxDischargeDepth := 60) [hs, goesCanon_ite, apply_ite State.regs, apply_dite State.regs, apply_ite RegsCanon, apply_dite RegsCanon, *]; done) | (simp +contextual (maxDischargeDepth := 60) [hs, goesCanon_ite, apply_ite State.regs, apply_dite State.regs, apply_ite RegsCanon, apply_dite RegsCanon, *]; done) | (have ho := State.offer_regsWf _ _ _ _ (by assumption) hs; simp (maxDischargeDepth := 60) [*]; done) | (have ho := State.take_regsWf _ _ _ _ (by assumption) hs; simp (maxDischargeDepth := 60) [*]; done) | ((try rw [goesCanon_next]); with_reducible (refine foldl_regsWf _ _ _ ?_ ?_) <;> (first | (intro s hs a; (repeat' split) <;> simp (maxDischargeDepth := 60) [*]; done) | simp (maxDischargeDepth := 60) [*]; done)))
@[simp] theorem State.setDescs_regsWf (s : State) (ds : List WDesc) (hs : RegsCanon s.regs) : RegsCanon (State.setDescs s ds).regs := by
  first
  | (simp (maxDischargeDepth := 60) [State.setDescs, hs, goesCanon_ite, apply_ite State.regs, apply_dite State.regs, apply_ite RegsCanon, apply_dite RegsCanon]; done)
  | (unfold State.setDescs; (try dsimp only); (repeat' split) <;> first | with_reducible exact hs | (simp (maxDischargeDepth := 60) [hs, goesCanon_ite, apply_ite State.regs, apply_dite State.regs, apply_ite RegsCanon, apply_dite RegsCanon, *]; done) | (simp +contextual (maxDischargeDepth := 60) [hs, goesCanon_ite, apply_ite State.regs, apply_dite State.regs, apply_ite RegsCanon, apply_dite RegsCanon, *]; done) | (have ho := State.offer_regsWf _ _ _ _ (by assumption) hs; simp (maxDischargeDepth := 60) [*]; done) | (have ho := State.take_regsWf _ _ _ _ (by assumption) hs; simp (maxDischargeDepth := 60) [*]; done) | ((try rw [goesCanon_next]); with_reducible (refine foldl_regsWf _ _ _ ?_ ?_) <;> (first | (intro s hs a; (repeat' split) <;> simp (maxDischargeDepth := 60) [*]; done) | simp (maxDischargeDepth := 60) [*]; done)))
@[simp] theorem State.advance_regsWf (s : State) (h : Nat) (k : Nat) (hs : RegsCanon s.regs) : RegsCanon (State.advance s h k).regs := by
  first
  | (simp (maxDischargeDepth := 60) [State.advance, hs, goesCanon_ite, apply_ite State.regs, apply_dite State.regs, apply_ite RegsCanon, apply_dite RegsCanon]; done)
  | (unfold State.advance; (try dsimp only); (repeat' split) <;> first | with_reducible exact hs | (simp (maxDischargeDepth := 60) [hs, goesCanon_ite, apply_ite State.regs, apply_dite State.regs, apply_ite RegsCanon, apply_dite RegsCanon, *]; done) | (simp +contextual (maxDischargeDepth := 60) [hs, goesCanon_ite, apply_ite State.regs, apply_dite State.regs, apply_ite RegsCanon, apply_dite RegsCanon, *]; done) | (have ho := State.offer_regsWf _ _ _ _ (by assumption) hs; simp (maxDischargeDepth := 60) [*]; done) | (have ho := State.take_regsWf _ _ _ _ (by assumption) hs; simp (maxDischargeDepth := 60) [*]; done) | ((try rw [goesCanon_next]); with_reducible (refine foldl_regsWf _ _ _ ?_ ?_) <;> (first | (intro s hs a; (repeat' split) <;> simp (maxDischargeDepth := 60) [*]; done) | simp (maxDischargeDepth := 60) [*]; done)))
@[simp] theorem State.release_regsWf (s : State) (x : WDesc) (late : Bool) (hs : RegsCanon s.regs) : RegsCanon (State.release s x late).regs := by
  first
  | (simp (maxDischargeDepth := 60) [State.release, hs, goesCanon_ite, apply_ite State.regs, apply_dite State.regs, apply_ite RegsCanon, apply_dite RegsCanon]; done)
  | (unfold State.release; (try dsimp only); (repeat' split) <;> first | with_reducible exact hs | (simp (maxDischargeDepth := 60) [hs, goesCanon_ite, apply_ite State.regs, apply_dite State.regs, apply_ite RegsCanon, apply_dite RegsCanon, *]; done) | (simp +contextual (maxDischargeDepth := 60) [hs, goesCanon_ite, apply_ite State.regs, apply_dite State.regs, apply_ite RegsCanon, apply_dite RegsCanon, *]; done) | (have ho := State.offer_regsWf _ _ _ _ (by assumption) hs; simp (maxDischargeDepth := 60) [*]; done) | (have ho := State.take_regsWf _ _ _ _ (by assumption) hs; simp (maxDischargeDepth := 60) [*]; done) | ((try rw [goesCanon_next]); with_reducible (refine foldl_regsWf _ _ _ ?_ ?_) <;> (first | (intro s hs a; (repeat' split) <;> simp (maxDischargeDepth := 60) [*]; done) | simp (maxDischargeDepth := 60) [*]; done)))
@[simp] theorem State.foutAct_regsWf (s : State) (o : Nat) (on : Bool) (hs : RegsCanon s.regs) : RegsCanon (State.foutAct s o on).regs := by
  first
  | (simp (maxDischargeDepth := 60) [State.foutAct, hs, goesCanon_ite, apply_ite State.regs, apply_dite State.regs, apply_ite RegsCanon, apply_dite RegsCanon]; done)
  | (unfold State.foutAct; (try dsimp only); (repeat' split) <;> first | with_reducible exact hs | (simp (maxDischargeDepth := 60) [hs, goesCanon_ite, apply_ite State.regs, apply_dite State.regs, apply_ite RegsCanon, apply_dite RegsCanon, *]; done) | (simp +contextual (maxDischargeDepth := 60) [hs, goesCanon_ite, apply_ite State.regs, apply_dite State.regs, apply_ite RegsCanon, apply_dite RegsCanon, *]; done) | (have ho := State.offer_regsWf _ _ _ _ (by assumption) hs; simp (maxDischargeDepth := 60) [*]; done) | (have ho := State.take_regsWf _ _ _ _ (by assumption) hs; simp (maxDischargeDepth := 60) [*]; done) | ((try rw [goesCanon_next]); with_reducible (refine foldl_regsWf _ _ _ ?_ ?_) <;> (first | (intro s hs a; (repeat' split) <;> simp (maxDischargeDepth := 60) [*]; done) | simp (maxDischargeDepth := 60) [*]; done)))
@[simp] theorem State.setPin_regsWf (s : State) (n : Nat) (on : Bool) (hs : RegsCanon s.regs) : RegsCanon (State.setPin s n on).regs := by
  first
  | (simp (maxDischargeDepth := 60) [State.setPin, hs, goesCanon_ite, apply_ite State.regs, apply_dite State.regs, apply_ite RegsCanon, apply_dite RegsCanon]; done)
  | (unfold State.setPin; (try dsimp only); (repeat' split) <;> first | with_reducible exact hs | (simp (maxDischargeDepth := 60) [hs, goesCanon_ite, apply_ite State.regs, apply_dite State.regs, apply_ite RegsCanon, apply_dite RegsCanon, *]; done) | (simp +contextual (maxDischargeDepth := 60) [hs, goesCanon_ite, apply_ite State.regs, apply_dite State.regs, apply_ite RegsCanon, apply_dite RegsCanon, *]; done) | (have ho := State.offer_regsWf _ _ _ _ (by assumption) hs; simp (maxDischargeDepth := 60) [*]; done) | (have ho := State.take_regsWf _ _ _ _ (by assumption) hs; simp (maxDischargeDepth := 60) [*]; done) | ((try rw [goesCanon_next]); with_reducible (refine foldl_regsWf _ _ _ ?_ ?_) <;> (first | (intro s hs a; (repeat' split) <;> simp (maxDischargeDepth := 60) [*]; done) | simp (maxDischargeDepth := 60) [*]; done)))
@[simp] theorem State.segmentGo_regsWf (s : State) (a : Fin 96) (hs : RegsCanon s.regs) : RegsCanon (State.segmentGo s a).regs := by
  first
  | (simp (maxDischargeDepth := 60) [State.segmentGo, hs, goesCanon_ite, apply_ite State.regs, apply_dite State.regs, apply_ite RegsCanon, apply_dite RegsCanon]; done)
  | (unfold State.segmentGo; (try dsimp only); (repeat' split) <;> first | with_reducible exact hs | (simp (maxDischargeDepth := 60) [hs, goesCanon_ite, apply_ite State.regs, apply_dite State.regs, apply_ite RegsCanon, apply_dite RegsCanon, *]; done) | (simp +contextual (maxDischargeDepth := 60) [hs, goesCanon_ite, apply_ite State.regs, apply_dite State.regs, apply_ite RegsCanon, apply_dite RegsCanon, *]; done) | (have ho := State.offer_regsWf _ _ _ _ (by assumption) hs; simp (maxDischargeDepth := 60) [*]; done) | (have ho := State.take_regsWf _ _ _ _ (by assumption) hs; simp (maxDischargeDepth := 60) [*]; done) | ((try rw [goesCanon_next]); with_reducible (refine foldl_regsWf _ _ _ ?_ ?_) <;> (first | (intro s hs a; (repeat' split) <;> simp (maxDischargeDepth := 60) [*]; done) | simp (maxDischargeDepth := 60) [*]; done)))
@[simp] theorem State.act_regsWf (s : State) (x : WDesc) (late : Bool) (hs : RegsCanon s.regs) : RegsCanon (State.act s x late).regs := by
  first
  | (simp (maxDischargeDepth := 60) [State.act, hs, goesCanon_ite, apply_ite State.regs, apply_dite State.regs, apply_ite RegsCanon, apply_dite RegsCanon]; done)
  | (unfold State.act; (try dsimp only); (repeat' split) <;> first | with_reducible exact hs | (simp (maxDischargeDepth := 60) [hs, goesCanon_ite, apply_ite State.regs, apply_dite State.regs, apply_ite RegsCanon, apply_dite RegsCanon, *]; done) | (simp +contextual (maxDischargeDepth := 60) [hs, goesCanon_ite, apply_ite State.regs, apply_dite State.regs, apply_ite RegsCanon, apply_dite RegsCanon, *]; done) | (have ho := State.offer_regsWf _ _ _ _ (by assumption) hs; simp (maxDischargeDepth := 60) [*]; done) | (have ho := State.take_regsWf _ _ _ _ (by assumption) hs; simp (maxDischargeDepth := 60) [*]; done) | ((try rw [goesCanon_next]); with_reducible (refine foldl_regsWf _ _ _ ?_ ?_) <;> (first | (intro s hs a; (repeat' split) <;> simp (maxDischargeDepth := 60) [*]; done) | simp (maxDischargeDepth := 60) [*]; done)))
@[simp] theorem State.recRelease_regsWf (s : State) (x : WDesc) (late : Bool) (hs : RegsCanon s.regs) : RegsCanon (State.recRelease s x late).regs := by
  first
  | (simp (maxDischargeDepth := 60) [State.recRelease, hs, goesCanon_ite, apply_ite State.regs, apply_dite State.regs, apply_ite RegsCanon, apply_dite RegsCanon]; done)
  | (unfold State.recRelease; (try dsimp only); (repeat' split) <;> first | with_reducible exact hs | (simp (maxDischargeDepth := 60) [hs, goesCanon_ite, apply_ite State.regs, apply_dite State.regs, apply_ite RegsCanon, apply_dite RegsCanon, *]; done) | (simp +contextual (maxDischargeDepth := 60) [hs, goesCanon_ite, apply_ite State.regs, apply_dite State.regs, apply_ite RegsCanon, apply_dite RegsCanon, *]; done) | (have ho := State.offer_regsWf _ _ _ _ (by assumption) hs; simp (maxDischargeDepth := 60) [*]; done) | (have ho := State.take_regsWf _ _ _ _ (by assumption) hs; simp (maxDischargeDepth := 60) [*]; done) | ((try rw [goesCanon_next]); with_reducible (refine foldl_regsWf _ _ _ ?_ ?_) <;> (first | (intro s hs a; (repeat' split) <;> simp (maxDischargeDepth := 60) [*]; done) | simp (maxDischargeDepth := 60) [*]; done)))
@[simp] theorem State.fireDesc_regsWf (s : State) (x : WDesc) (late : Bool) (hs : RegsCanon s.regs) : RegsCanon (State.fireDesc s x late).regs := by
  first
  | (simp (maxDischargeDepth := 60) [State.fireDesc, hs, goesCanon_ite, apply_ite State.regs, apply_dite State.regs, apply_ite RegsCanon, apply_dite RegsCanon]; done)
  | (unfold State.fireDesc; (try dsimp only); (repeat' split) <;> first | with_reducible exact hs | (simp (maxDischargeDepth := 60) [hs, goesCanon_ite, apply_ite State.regs, apply_dite State.regs, apply_ite RegsCanon, apply_dite RegsCanon, *]; done) | (simp +contextual (maxDischargeDepth := 60) [hs, goesCanon_ite, apply_ite State.regs, apply_dite State.regs, apply_ite RegsCanon, apply_dite RegsCanon, *]; done) | (have ho := State.offer_regsWf _ _ _ _ (by assumption) hs; simp (maxDischargeDepth := 60) [*]; done) | (have ho := State.take_regsWf _ _ _ _ (by assumption) hs; simp (maxDischargeDepth := 60) [*]; done) | ((try rw [goesCanon_next]); with_reducible (refine foldl_regsWf _ _ _ ?_ ?_) <;> (first | (intro s hs a; (repeat' split) <;> simp (maxDischargeDepth := 60) [*]; done) | simp (maxDischargeDepth := 60) [*]; done)))
@[simp] theorem State.fireAll_regsWf (s : State) (late : Bool) (x0 : List WDesc) (hs : RegsCanon s.regs) : RegsCanon (State.fireAll s late x0).regs := by
  induction x0 generalizing s late with
  | nil => exact hs
  | cons x xs ih => (unfold State.fireAll; (try dsimp only); (repeat' split) <;> first | with_reducible exact hs | (simp (maxDischargeDepth := 60) [hs, goesCanon_ite, apply_ite State.regs, apply_dite State.regs, apply_ite RegsCanon, apply_dite RegsCanon, ih, *]; done) | (simp +contextual (maxDischargeDepth := 60) [hs, goesCanon_ite, apply_ite State.regs, apply_dite State.regs, apply_ite RegsCanon, apply_dite RegsCanon, ih, *]; done) | (have ho := State.offer_regsWf _ _ _ _ (by assumption) hs; simp (maxDischargeDepth := 60) [ih, *]; done) | (have ho := State.take_regsWf _ _ _ _ (by assumption) hs; simp (maxDischargeDepth := 60) [ih, *]; done) | ((try rw [goesCanon_next]); with_reducible (refine foldl_regsWf _ _ _ ?_ ?_) <;> (first | (intro s hs a; (repeat' split) <;> simp (maxDischargeDepth := 60) [ih, *]; done) | simp (maxDischargeDepth := 60) [ih, *]; done)))
@[simp] theorem State.endPinPulses_regsWf (s : State) (pin : Nat) (hs : RegsCanon s.regs) : RegsCanon (State.endPinPulses s pin).regs := by
  first
  | (simp (maxDischargeDepth := 60) [State.endPinPulses, hs, goesCanon_ite, apply_ite State.regs, apply_dite State.regs, apply_ite RegsCanon, apply_dite RegsCanon]; done)
  | (unfold State.endPinPulses; (try dsimp only); (repeat' split) <;> first | with_reducible exact hs | (simp (maxDischargeDepth := 60) [hs, goesCanon_ite, apply_ite State.regs, apply_dite State.regs, apply_ite RegsCanon, apply_dite RegsCanon, *]; done) | (simp +contextual (maxDischargeDepth := 60) [hs, goesCanon_ite, apply_ite State.regs, apply_dite State.regs, apply_ite RegsCanon, apply_dite RegsCanon, *]; done) | (have ho := State.offer_regsWf _ _ _ _ (by assumption) hs; simp (maxDischargeDepth := 60) [*]; done) | (have ho := State.take_regsWf _ _ _ _ (by assumption) hs; simp (maxDischargeDepth := 60) [*]; done) | ((try rw [goesCanon_next]); with_reducible (refine foldl_regsWf _ _ _ ?_ ?_) <;> (first | (intro s hs a; (repeat' split) <;> simp (maxDischargeDepth := 60) [*]; done) | simp (maxDischargeDepth := 60) [*]; done)))
@[simp] theorem State.endFoutPulses_regsWf (s : State) (o : Nat) (hs : RegsCanon s.regs) : RegsCanon (State.endFoutPulses s o).regs := by
  first
  | (simp (maxDischargeDepth := 60) [State.endFoutPulses, hs, goesCanon_ite, apply_ite State.regs, apply_dite State.regs, apply_ite RegsCanon, apply_dite RegsCanon]; done)
  | (unfold State.endFoutPulses; (try dsimp only); (repeat' split) <;> first | with_reducible exact hs | (simp (maxDischargeDepth := 60) [hs, goesCanon_ite, apply_ite State.regs, apply_dite State.regs, apply_ite RegsCanon, apply_dite RegsCanon, *]; done) | (simp +contextual (maxDischargeDepth := 60) [hs, goesCanon_ite, apply_ite State.regs, apply_dite State.regs, apply_ite RegsCanon, apply_dite RegsCanon, *]; done) | (have ho := State.offer_regsWf _ _ _ _ (by assumption) hs; simp (maxDischargeDepth := 60) [*]; done) | (have ho := State.take_regsWf _ _ _ _ (by assumption) hs; simp (maxDischargeDepth := 60) [*]; done) | ((try rw [goesCanon_next]); with_reducible (refine foldl_regsWf _ _ _ ?_ ?_) <;> (first | (intro s hs a; (repeat' split) <;> simp (maxDischargeDepth := 60) [*]; done) | simp (maxDischargeDepth := 60) [*]; done)))
@[simp] theorem State.fireDue_regsWf (s : State) (x : WDesc) (hs : RegsCanon s.regs) : RegsCanon (State.fireDue s x).regs := by
  first
  | (simp (maxDischargeDepth := 60) [State.fireDue, hs, goesCanon_ite, apply_ite State.regs, apply_dite State.regs, apply_ite RegsCanon, apply_dite RegsCanon]; done)
  | (unfold State.fireDue; (try dsimp only); (repeat' split) <;> first | with_reducible exact hs | (simp (maxDischargeDepth := 60) [hs, goesCanon_ite, apply_ite State.regs, apply_dite State.regs, apply_ite RegsCanon, apply_dite RegsCanon, *]; done) | (simp +contextual (maxDischargeDepth := 60) [hs, goesCanon_ite, apply_ite State.regs, apply_dite State.regs, apply_ite RegsCanon, apply_dite RegsCanon, *]; done) | (have ho := State.offer_regsWf _ _ _ _ (by assumption) hs; simp (maxDischargeDepth := 60) [*]; done) | (have ho := State.take_regsWf _ _ _ _ (by assumption) hs; simp (maxDischargeDepth := 60) [*]; done) | ((try rw [goesCanon_next]); with_reducible (refine foldl_regsWf _ _ _ ?_ ?_) <;> (first | (intro s hs a; (repeat' split) <;> simp (maxDischargeDepth := 60) [*]; done) | simp (maxDischargeDepth := 60) [*]; done)))
@[simp] theorem State.fire_regsWf (s : State) (h : Nat) (action : Nat) (hs : RegsCanon s.regs) : RegsCanon (State.fire s h action).regs := by
  first
  | (simp (maxDischargeDepth := 60) [State.fire, hs, goesCanon_ite, apply_ite State.regs, apply_dite State.regs, apply_ite RegsCanon, apply_dite RegsCanon]; done)
  | (unfold State.fire; (try dsimp only); (repeat' split) <;> first | with_reducible exact hs | (simp (maxDischargeDepth := 60) [hs, goesCanon_ite, apply_ite State.regs, apply_dite State.regs, apply_ite RegsCanon, apply_dite RegsCanon, *]; done) | (simp +contextual (maxDischargeDepth := 60) [hs, goesCanon_ite, apply_ite State.regs, apply_dite State.regs, apply_ite RegsCanon, apply_dite RegsCanon, *]; done) | (have ho := State.offer_regsWf _ _ _ _ (by assumption) hs; simp (maxDischargeDepth := 60) [*]; done) | (have ho := State.take_regsWf _ _ _ _ (by assumption) hs; simp (maxDischargeDepth := 60) [*]; done) | ((try rw [goesCanon_next]); with_reducible (refine foldl_regsWf _ _ _ ?_ ?_) <;> (first | (intro s hs a; (repeat' split) <;> simp (maxDischargeDepth := 60) [*]; done) | simp (maxDischargeDepth := 60) [*]; done)))
@[simp] theorem State.foutRefresh_regsWf (s : State) (die : Fin 2) (hs : RegsCanon s.regs) : RegsCanon (State.foutRefresh s die).regs := by
  first
  | (simp (maxDischargeDepth := 60) [State.foutRefresh, hs, goesCanon_ite, apply_ite State.regs, apply_dite State.regs, apply_ite RegsCanon, apply_dite RegsCanon]; done)
  | (unfold State.foutRefresh; (try dsimp only); (repeat' split) <;> first | with_reducible exact hs | (simp (maxDischargeDepth := 60) [hs, goesCanon_ite, apply_ite State.regs, apply_dite State.regs, apply_ite RegsCanon, apply_dite RegsCanon, *]; done) | (simp +contextual (maxDischargeDepth := 60) [hs, goesCanon_ite, apply_ite State.regs, apply_dite State.regs, apply_ite RegsCanon, apply_dite RegsCanon, *]; done) | (have ho := State.offer_regsWf _ _ _ _ (by assumption) hs; simp (maxDischargeDepth := 60) [*]; done) | (have ho := State.take_regsWf _ _ _ _ (by assumption) hs; simp (maxDischargeDepth := 60) [*]; done) | ((try rw [goesCanon_next]); with_reducible (refine foldl_regsWf _ _ _ ?_ ?_) <;> (first | (intro s hs a; (repeat' split) <;> simp (maxDischargeDepth := 60) [*]; done) | simp (maxDischargeDepth := 60) [*]; done)))
@[simp] theorem State.storeDesc_regsWf (s : State) (d : Descriptor) (hs : RegsCanon s.regs) : RegsCanon (State.storeDesc s d).1.regs := by
  first
  | (simp (maxDischargeDepth := 60) [State.storeDesc, hs, goesCanon_ite, apply_ite State.regs, apply_dite State.regs, apply_ite RegsCanon, apply_dite RegsCanon]; done)
  | (unfold State.storeDesc; (try dsimp only); (repeat' split) <;> first | with_reducible exact hs | (simp (maxDischargeDepth := 60) [hs, goesCanon_ite, apply_ite State.regs, apply_dite State.regs, apply_ite RegsCanon, apply_dite RegsCanon, *]; done) | (simp +contextual (maxDischargeDepth := 60) [hs, goesCanon_ite, apply_ite State.regs, apply_dite State.regs, apply_ite RegsCanon, apply_dite RegsCanon, *]; done) | (have ho := State.offer_regsWf _ _ _ _ (by assumption) hs; simp (maxDischargeDepth := 60) [*]; done) | (have ho := State.take_regsWf _ _ _ _ (by assumption) hs; simp (maxDischargeDepth := 60) [*]; done) | ((try rw [goesCanon_next]); with_reducible (refine foldl_regsWf _ _ _ ?_ ?_) <;> (first | (intro s hs a; (repeat' split) <;> simp (maxDischargeDepth := 60) [*]; done) | simp (maxDischargeDepth := 60) [*]; done)))
@[simp] theorem State.insert_regsWf (s : State) (core : Bool) (d : Descriptor) (hs : RegsCanon s.regs) : RegsCanon (State.insert s core d).1.regs := by
  first
  | (simp (maxDischargeDepth := 60) [State.insert, hs, goesCanon_ite, apply_ite State.regs, apply_dite State.regs, apply_ite RegsCanon, apply_dite RegsCanon]; done)
  | (unfold State.insert; (try dsimp only); (repeat' split) <;> first | with_reducible exact hs | (simp (maxDischargeDepth := 60) [hs, goesCanon_ite, apply_ite State.regs, apply_dite State.regs, apply_ite RegsCanon, apply_dite RegsCanon, *]; done) | (simp +contextual (maxDischargeDepth := 60) [hs, goesCanon_ite, apply_ite State.regs, apply_dite State.regs, apply_ite RegsCanon, apply_dite RegsCanon, *]; done) | (have ho := State.offer_regsWf _ _ _ _ (by assumption) hs; simp (maxDischargeDepth := 60) [*]; done) | (have ho := State.take_regsWf _ _ _ _ (by assumption) hs; simp (maxDischargeDepth := 60) [*]; done) | ((try rw [goesCanon_next]); with_reducible (refine foldl_regsWf _ _ _ ?_ ?_) <;> (first | (intro s hs a; (repeat' split) <;> simp (maxDischargeDepth := 60) [*]; done) | simp (maxDischargeDepth := 60) [*]; done)))
@[simp] theorem State.cancel_regsWf (s : State) (h : Nat) (hs : RegsCanon s.regs) : RegsCanon (State.cancel s h).1.regs := by
  first
  | (simp (maxDischargeDepth := 60) [State.cancel, hs, goesCanon_ite, apply_ite State.regs, apply_dite State.regs, apply_ite RegsCanon, apply_dite RegsCanon]; done)
  | (unfold State.cancel; (try dsimp only); (repeat' split) <;> first | with_reducible exact hs | (simp (maxDischargeDepth := 60) [hs, goesCanon_ite, apply_ite State.regs, apply_dite State.regs, apply_ite RegsCanon, apply_dite RegsCanon, *]; done) | (simp +contextual (maxDischargeDepth := 60) [hs, goesCanon_ite, apply_ite State.regs, apply_dite State.regs, apply_ite RegsCanon, apply_dite RegsCanon, *]; done) | (have ho := State.offer_regsWf _ _ _ _ (by assumption) hs; simp (maxDischargeDepth := 60) [*]; done) | (have ho := State.take_regsWf _ _ _ _ (by assumption) hs; simp (maxDischargeDepth := 60) [*]; done) | ((try rw [goesCanon_next]); with_reducible (refine foldl_regsWf _ _ _ ?_ ?_) <;> (first | (intro s hs a; (repeat' split) <;> simp (maxDischargeDepth := 60) [*]; done) | simp (maxDischargeDepth := 60) [*]; done)))
@[simp] theorem State.placeInit_regsWf (s : State) (x0 : List Descriptor) (hs : RegsCanon s.regs) : RegsCanon (State.placeInit s x0).regs := by
  induction x0 generalizing s with
  | nil => exact hs
  | cons x xs ih => (unfold State.placeInit; (try dsimp only); (repeat' split) <;> first | with_reducible exact hs | (simp (maxDischargeDepth := 60) [hs, goesCanon_ite, apply_ite State.regs, apply_dite State.regs, apply_ite RegsCanon, apply_dite RegsCanon, ih, *]; done) | (simp +contextual (maxDischargeDepth := 60) [hs, goesCanon_ite, apply_ite State.regs, apply_dite State.regs, apply_ite RegsCanon, apply_dite RegsCanon, ih, *]; done) | (have ho := State.offer_regsWf _ _ _ _ (by assumption) hs; simp (maxDischargeDepth := 60) [ih, *]; done) | (have ho := State.take_regsWf _ _ _ _ (by assumption) hs; simp (maxDischargeDepth := 60) [ih, *]; done) | ((try rw [goesCanon_next]); with_reducible (refine foldl_regsWf _ _ _ ?_ ?_) <;> (first | (intro s hs a; (repeat' split) <;> simp (maxDischargeDepth := 60) [ih, *]; done) | simp (maxDischargeDepth := 60) [ih, *]; done)))
@[simp] theorem State.masterLost_regsWf (s : State) (port : Nat) (hs : RegsCanon s.regs) : RegsCanon (State.masterLost s port).regs := by
  first
  | (simp (maxDischargeDepth := 60) [State.masterLost, hs, goesCanon_ite, apply_ite State.regs, apply_dite State.regs, apply_ite RegsCanon, apply_dite RegsCanon]; done)
  | (unfold State.masterLost; (try dsimp only); (repeat' split) <;> first | with_reducible exact hs | (simp (maxDischargeDepth := 60) [hs, goesCanon_ite, apply_ite State.regs, apply_dite State.regs, apply_ite RegsCanon, apply_dite RegsCanon, *]; done) | (simp +contextual (maxDischargeDepth := 60) [hs, goesCanon_ite, apply_ite State.regs, apply_dite State.regs, apply_ite RegsCanon, apply_dite RegsCanon, *]; done) | (have ho := State.offer_regsWf _ _ _ _ (by assumption) hs; simp (maxDischargeDepth := 60) [*]; done) | (have ho := State.take_regsWf _ _ _ _ (by assumption) hs; simp (maxDischargeDepth := 60) [*]; done) | ((try rw [goesCanon_next]); with_reducible (refine foldl_regsWf _ _ _ ?_ ?_) <;> (first | (intro s hs a; (repeat' split) <;> simp (maxDischargeDepth := 60) [*]; done) | simp (maxDischargeDepth := 60) [*]; done)))
@[simp] theorem State.firstRef_regsWf (s : State) (port : Nat) (hs : RegsCanon s.regs) : RegsCanon (State.firstRef s port).regs := by
  first
  | (simp (maxDischargeDepth := 60) [State.firstRef, hs, goesCanon_ite, apply_ite State.regs, apply_dite State.regs, apply_ite RegsCanon, apply_dite RegsCanon]; done)
  | (unfold State.firstRef; (try dsimp only); (repeat' split) <;> first | with_reducible exact hs | (simp (maxDischargeDepth := 60) [hs, goesCanon_ite, apply_ite State.regs, apply_dite State.regs, apply_ite RegsCanon, apply_dite RegsCanon, *]; done) | (simp +contextual (maxDischargeDepth := 60) [hs, goesCanon_ite, apply_ite State.regs, apply_dite State.regs, apply_ite RegsCanon, apply_dite RegsCanon, *]; done) | (have ho := State.offer_regsWf _ _ _ _ (by assumption) hs; simp (maxDischargeDepth := 60) [*]; done) | (have ho := State.take_regsWf _ _ _ _ (by assumption) hs; simp (maxDischargeDepth := 60) [*]; done) | ((try rw [goesCanon_next]); with_reducible (refine foldl_regsWf _ _ _ ?_ ?_) <;> (first | (intro s hs a; (repeat' split) <;> simp (maxDischargeDepth := 60) [*]; done) | simp (maxDischargeDepth := 60) [*]; done)))
@[simp] theorem State.placeW_regsWf (s : State) (m : Nat) (hs : RegsCanon s.regs) : RegsCanon (State.placeW s m).regs := by
  first
  | (simp (maxDischargeDepth := 60) [State.placeW, hs, goesCanon_ite, apply_ite State.regs, apply_dite State.regs, apply_ite RegsCanon, apply_dite RegsCanon]; done)
  | (unfold State.placeW; (try dsimp only); (repeat' split) <;> first | with_reducible exact hs | (simp (maxDischargeDepth := 60) [hs, goesCanon_ite, apply_ite State.regs, apply_dite State.regs, apply_ite RegsCanon, apply_dite RegsCanon, *]; done) | (simp +contextual (maxDischargeDepth := 60) [hs, goesCanon_ite, apply_ite State.regs, apply_dite State.regs, apply_ite RegsCanon, apply_dite RegsCanon, *]; done) | (have ho := State.offer_regsWf _ _ _ _ (by assumption) hs; simp (maxDischargeDepth := 60) [*]; done) | (have ho := State.take_regsWf _ _ _ _ (by assumption) hs; simp (maxDischargeDepth := 60) [*]; done) | ((try rw [goesCanon_next]); with_reducible (refine foldl_regsWf _ _ _ ?_ ?_) <;> (first | (intro s hs a; (repeat' split) <;> simp (maxDischargeDepth := 60) [*]; done) | simp (maxDischargeDepth := 60) [*]; done)))
@[simp] theorem State.skipPassed_regsWf (s : State) (w0 : Nat) (m : Nat) (hs : RegsCanon s.regs) : RegsCanon (State.skipPassed s w0 m).regs := by
  first
  | (simp (maxDischargeDepth := 60) [State.skipPassed, hs, goesCanon_ite, apply_ite State.regs, apply_dite State.regs, apply_ite RegsCanon, apply_dite RegsCanon]; done)
  | (unfold State.skipPassed; (try dsimp only); (repeat' split) <;> first | with_reducible exact hs | (simp (maxDischargeDepth := 60) [hs, goesCanon_ite, apply_ite State.regs, apply_dite State.regs, apply_ite RegsCanon, apply_dite RegsCanon, *]; done) | (simp +contextual (maxDischargeDepth := 60) [hs, goesCanon_ite, apply_ite State.regs, apply_dite State.regs, apply_ite RegsCanon, apply_dite RegsCanon, *]; done) | (have ho := State.offer_regsWf _ _ _ _ (by assumption) hs; simp (maxDischargeDepth := 60) [*]; done) | (have ho := State.take_regsWf _ _ _ _ (by assumption) hs; simp (maxDischargeDepth := 60) [*]; done) | ((try rw [goesCanon_next]); with_reducible (refine foldl_regsWf _ _ _ ?_ ?_) <;> (first | (intro s hs a; (repeat' split) <;> simp (maxDischargeDepth := 60) [*]; done) | simp (maxDischargeDepth := 60) [*]; done)))
@[simp] theorem State.jumpFrom_regsWf (s : State) (w0 : Nat) (m : Nat) (hs : RegsCanon s.regs) : RegsCanon (State.jumpFrom s w0 m).regs := by
  first
  | (simp (maxDischargeDepth := 60) [State.jumpFrom, hs, goesCanon_ite, apply_ite State.regs, apply_dite State.regs, apply_ite RegsCanon, apply_dite RegsCanon]; done)
  | (unfold State.jumpFrom; (try dsimp only); (repeat' split) <;> first | with_reducible exact hs | (simp (maxDischargeDepth := 60) [hs, goesCanon_ite, apply_ite State.regs, apply_dite State.regs, apply_ite RegsCanon, apply_dite RegsCanon, *]; done) | (simp +contextual (maxDischargeDepth := 60) [hs, goesCanon_ite, apply_ite State.regs, apply_dite State.regs, apply_ite RegsCanon, apply_dite RegsCanon, *]; done) | (have ho := State.offer_regsWf _ _ _ _ (by assumption) hs; simp (maxDischargeDepth := 60) [*]; done) | (have ho := State.take_regsWf _ _ _ _ (by assumption) hs; simp (maxDischargeDepth := 60) [*]; done) | ((try rw [goesCanon_next]); with_reducible (refine foldl_regsWf _ _ _ ?_ ?_) <;> (first | (intro s hs a; (repeat' split) <;> simp (maxDischargeDepth := 60) [*]; done) | simp (maxDischargeDepth := 60) [*]; done)))
@[simp] theorem State.jumpW_regsWf (s : State) (m : Nat) (hs : RegsCanon s.regs) : RegsCanon (State.jumpW s m).regs := by
  first
  | (simp (maxDischargeDepth := 60) [State.jumpW, hs, goesCanon_ite, apply_ite State.regs, apply_dite State.regs, apply_ite RegsCanon, apply_dite RegsCanon]; done)
  | (unfold State.jumpW; (try dsimp only); (repeat' split) <;> first | with_reducible exact hs | (simp (maxDischargeDepth := 60) [hs, goesCanon_ite, apply_ite State.regs, apply_dite State.regs, apply_ite RegsCanon, apply_dite RegsCanon, *]; done) | (simp +contextual (maxDischargeDepth := 60) [hs, goesCanon_ite, apply_ite State.regs, apply_dite State.regs, apply_ite RegsCanon, apply_dite RegsCanon, *]; done) | (have ho := State.offer_regsWf _ _ _ _ (by assumption) hs; simp (maxDischargeDepth := 60) [*]; done) | (have ho := State.take_regsWf _ _ _ _ (by assumption) hs; simp (maxDischargeDepth := 60) [*]; done) | ((try rw [goesCanon_next]); with_reducible (refine foldl_regsWf _ _ _ ?_ ?_) <;> (first | (intro s hs a; (repeat' split) <;> simp (maxDischargeDepth := 60) [*]; done) | simp (maxDischargeDepth := 60) [*]; done)))
@[simp] theorem State.lockAt_regsWf (s : State) (p : Int) (spd : Int) (hs : RegsCanon s.regs) : RegsCanon (State.lockAt s p spd).regs := by
  first
  | (simp (maxDischargeDepth := 60) [State.lockAt, hs, goesCanon_ite, apply_ite State.regs, apply_dite State.regs, apply_ite RegsCanon, apply_dite RegsCanon]; done)
  | (unfold State.lockAt; (try dsimp only); (repeat' split) <;> first | with_reducible exact hs | (simp (maxDischargeDepth := 60) [hs, goesCanon_ite, apply_ite State.regs, apply_dite State.regs, apply_ite RegsCanon, apply_dite RegsCanon, *]; done) | (simp +contextual (maxDischargeDepth := 60) [hs, goesCanon_ite, apply_ite State.regs, apply_dite State.regs, apply_ite RegsCanon, apply_dite RegsCanon, *]; done) | (have ho := State.offer_regsWf _ _ _ _ (by assumption) hs; simp (maxDischargeDepth := 60) [*]; done) | (have ho := State.take_regsWf _ _ _ _ (by assumption) hs; simp (maxDischargeDepth := 60) [*]; done) | ((try rw [goesCanon_next]); with_reducible (refine foldl_regsWf _ _ _ ?_ ?_) <;> (first | (intro s hs a; (repeat' split) <;> simp (maxDischargeDepth := 60) [*]; done) | simp (maxDischargeDepth := 60) [*]; done)))
@[simp] theorem State.referTo_regsWf (s : State) (m : Nat) (off : Int) (hs : RegsCanon s.regs) : RegsCanon (State.referTo s m off).regs := by
  first
  | (simp (maxDischargeDepth := 60) [State.referTo, hs, goesCanon_ite, apply_ite State.regs, apply_dite State.regs, apply_ite RegsCanon, apply_dite RegsCanon]; done)
  | (unfold State.referTo; (try dsimp only); (repeat' split) <;> first | with_reducible exact hs | (simp (maxDischargeDepth := 60) [hs, goesCanon_ite, apply_ite State.regs, apply_dite State.regs, apply_ite RegsCanon, apply_dite RegsCanon, *]; done) | (simp +contextual (maxDischargeDepth := 60) [hs, goesCanon_ite, apply_ite State.regs, apply_dite State.regs, apply_ite RegsCanon, apply_dite RegsCanon, *]; done) | (have ho := State.offer_regsWf _ _ _ _ (by assumption) hs; simp (maxDischargeDepth := 60) [*]; done) | (have ho := State.take_regsWf _ _ _ _ (by assumption) hs; simp (maxDischargeDepth := 60) [*]; done) | ((try rw [goesCanon_next]); with_reducible (refine foldl_regsWf _ _ _ ?_ ?_) <;> (first | (intro s hs a; (repeat' split) <;> simp (maxDischargeDepth := 60) [*]; done) | simp (maxDischargeDepth := 60) [*]; done)))
@[simp] theorem State.moveCount_regsWf (s : State) (port : Nat) (g : State → State)
    (h : ∀ s, RegsCanon s.regs → RegsCanon (g s).regs) (hs : RegsCanon s.regs) : RegsCanon (State.moveCount s port g).regs := by
  have h1 := h _ (State.syncW_regsWf s hs)
  have h2 := h _ hs
  unfold State.moveCount
  dsimp only
  (repeat' split) <;> simp (maxDischargeDepth := 60) [h1, h2]
@[simp] theorem State.followCount_regsWf (s : State) (port : Nat) (g : State → State)
    (h : ∀ s, RegsCanon s.regs → RegsCanon (g s).regs) (hs : RegsCanon s.regs) : RegsCanon (State.followCount s port g).regs := by
  have h1 := h _ (State.syncW_regsWf s hs)
  have h2 := h _ hs
  unfold State.followCount
  split <;> simp (maxDischargeDepth := 60) [h1, h2]
@[simp] theorem State.resumeWheel_regsWf (s : State) (hs : RegsCanon s.regs) : RegsCanon (State.resumeWheel s).regs := by
  first
  | (simp (maxDischargeDepth := 60) [State.resumeWheel, hs, goesCanon_ite, apply_ite State.regs, apply_dite State.regs, apply_ite RegsCanon, apply_dite RegsCanon]; done)
  | (unfold State.resumeWheel; (try dsimp only); (repeat' split) <;> first | with_reducible exact hs | (simp (maxDischargeDepth := 60) [hs, goesCanon_ite, apply_ite State.regs, apply_dite State.regs, apply_ite RegsCanon, apply_dite RegsCanon, *]; done) | (simp +contextual (maxDischargeDepth := 60) [hs, goesCanon_ite, apply_ite State.regs, apply_dite State.regs, apply_ite RegsCanon, apply_dite RegsCanon, *]; done) | (have ho := State.offer_regsWf _ _ _ _ (by assumption) hs; simp (maxDischargeDepth := 60) [*]; done) | (have ho := State.take_regsWf _ _ _ _ (by assumption) hs; simp (maxDischargeDepth := 60) [*]; done) | ((try rw [goesCanon_next]); with_reducible (refine foldl_regsWf _ _ _ ?_ ?_) <;> (first | (intro s hs a; (repeat' split) <;> simp (maxDischargeDepth := 60) [*]; done) | simp (maxDischargeDepth := 60) [*]; done)))
@[simp] theorem State.repull_regsWf (s : State) (hs : RegsCanon s.regs) : RegsCanon (State.repull s).regs := by
  first
  | (simp (maxDischargeDepth := 60) [State.repull, hs, goesCanon_ite, apply_ite State.regs, apply_dite State.regs, apply_ite RegsCanon, apply_dite RegsCanon]; done)
  | (unfold State.repull; (try dsimp only); (repeat' split) <;> first | with_reducible exact hs | (simp (maxDischargeDepth := 60) [hs, goesCanon_ite, apply_ite State.regs, apply_dite State.regs, apply_ite RegsCanon, apply_dite RegsCanon, *]; done) | (simp +contextual (maxDischargeDepth := 60) [hs, goesCanon_ite, apply_ite State.regs, apply_dite State.regs, apply_ite RegsCanon, apply_dite RegsCanon, *]; done) | (have ho := State.offer_regsWf _ _ _ _ (by assumption) hs; simp (maxDischargeDepth := 60) [*]; done) | (have ho := State.take_regsWf _ _ _ _ (by assumption) hs; simp (maxDischargeDepth := 60) [*]; done) | ((try rw [goesCanon_next]); with_reducible (refine foldl_regsWf _ _ _ ?_ ?_) <;> (first | (intro s hs a; (repeat' split) <;> simp (maxDischargeDepth := 60) [*]; done) | simp (maxDischargeDepth := 60) [*]; done)))
@[simp] theorem execWheelVspdWrite_goesCanon (w : Fin 2) (value : Word) (s : State) (hs : RegsCanon s.regs) : goesCanon (execWheelVspdWrite w value s) := by
  first
  | (simp (maxDischargeDepth := 60) [execWheelVspdWrite, hs, goesCanon_ite, apply_ite State.regs, apply_dite State.regs, apply_ite RegsCanon, apply_dite RegsCanon]; done)
  | (unfold execWheelVspdWrite; (try dsimp only); (repeat' split) <;> first | with_reducible exact hs | (simp (maxDischargeDepth := 60) [hs, goesCanon_ite, apply_ite State.regs, apply_dite State.regs, apply_ite RegsCanon, apply_dite RegsCanon, *]; done) | (simp +contextual (maxDischargeDepth := 60) [hs, goesCanon_ite, apply_ite State.regs, apply_dite State.regs, apply_ite RegsCanon, apply_dite RegsCanon, *]; done) | (have ho := State.offer_regsWf _ _ _ _ (by assumption) hs; simp (maxDischargeDepth := 60) [*]; done) | (have ho := State.take_regsWf _ _ _ _ (by assumption) hs; simp (maxDischargeDepth := 60) [*]; done) | ((try rw [goesCanon_next]); with_reducible (refine foldl_regsWf _ _ _ ?_ ?_) <;> (first | (intro s hs a; (repeat' split) <;> simp (maxDischargeDepth := 60) [*]; done) | simp (maxDischargeDepth := 60) [*]; done)))
@[simp] theorem execWheelVaccWrite_goesCanon (value : Word) (s : State) (hs : RegsCanon s.regs) : goesCanon (execWheelVaccWrite value s) := by
  first
  | (simp (maxDischargeDepth := 60) [execWheelVaccWrite, hs, goesCanon_ite, apply_ite State.regs, apply_dite State.regs, apply_ite RegsCanon, apply_dite RegsCanon]; done)
  | (unfold execWheelVaccWrite; (try dsimp only); (repeat' split) <;> first | with_reducible exact hs | (simp (maxDischargeDepth := 60) [hs, goesCanon_ite, apply_ite State.regs, apply_dite State.regs, apply_ite RegsCanon, apply_dite RegsCanon, *]; done) | (simp +contextual (maxDischargeDepth := 60) [hs, goesCanon_ite, apply_ite State.regs, apply_dite State.regs, apply_ite RegsCanon, apply_dite RegsCanon, *]; done) | (have ho := State.offer_regsWf _ _ _ _ (by assumption) hs; simp (maxDischargeDepth := 60) [*]; done) | (have ho := State.take_regsWf _ _ _ _ (by assumption) hs; simp (maxDischargeDepth := 60) [*]; done) | ((try rw [goesCanon_next]); with_reducible (refine foldl_regsWf _ _ _ ?_ ?_) <;> (first | (intro s hs a; (repeat' split) <;> simp (maxDischargeDepth := 60) [*]; done) | simp (maxDischargeDepth := 60) [*]; done)))
@[simp] theorem execWheelPhaseWrite_goesCanon (value : Word) (s : State) (hs : RegsCanon s.regs) : goesCanon (execWheelPhaseWrite value s) := by
  first
  | (simp (maxDischargeDepth := 60) [execWheelPhaseWrite, hs, goesCanon_ite, apply_ite State.regs, apply_dite State.regs, apply_ite RegsCanon, apply_dite RegsCanon]; done)
  | (unfold execWheelPhaseWrite; (try dsimp only); (repeat' split) <;> first | with_reducible exact hs | (simp (maxDischargeDepth := 60) [hs, goesCanon_ite, apply_ite State.regs, apply_dite State.regs, apply_ite RegsCanon, apply_dite RegsCanon, *]; done) | (simp +contextual (maxDischargeDepth := 60) [hs, goesCanon_ite, apply_ite State.regs, apply_dite State.regs, apply_ite RegsCanon, apply_dite RegsCanon, *]; done) | (have ho := State.offer_regsWf _ _ _ _ (by assumption) hs; simp (maxDischargeDepth := 60) [*]; done) | (have ho := State.take_regsWf _ _ _ _ (by assumption) hs; simp (maxDischargeDepth := 60) [*]; done) | ((try rw [goesCanon_next]); with_reducible (refine foldl_regsWf _ _ _ ?_ ?_) <;> (first | (intro s hs a; (repeat' split) <;> simp (maxDischargeDepth := 60) [*]; done) | simp (maxDischargeDepth := 60) [*]; done)))
@[simp] theorem execMasterLock_goesCanon (s : State) (hs : RegsCanon s.regs) : goesCanon (execMasterLock s) := by
  first
  | (simp (maxDischargeDepth := 60) [execMasterLock, hs, goesCanon_ite, apply_ite State.regs, apply_dite State.regs, apply_ite RegsCanon, apply_dite RegsCanon]; done)
  | (unfold execMasterLock; (try dsimp only); (repeat' split) <;> first | with_reducible exact hs | (simp (maxDischargeDepth := 60) [hs, goesCanon_ite, apply_ite State.regs, apply_dite State.regs, apply_ite RegsCanon, apply_dite RegsCanon, *]; done) | (simp +contextual (maxDischargeDepth := 60) [hs, goesCanon_ite, apply_ite State.regs, apply_dite State.regs, apply_ite RegsCanon, apply_dite RegsCanon, *]; done) | (have ho := State.offer_regsWf _ _ _ _ (by assumption) hs; simp (maxDischargeDepth := 60) [*]; done) | (have ho := State.take_regsWf _ _ _ _ (by assumption) hs; simp (maxDischargeDepth := 60) [*]; done) | ((try rw [goesCanon_next]); with_reducible (refine foldl_regsWf _ _ _ ?_ ?_) <;> (first | (intro s hs a; (repeat' split) <;> simp (maxDischargeDepth := 60) [*]; done) | simp (maxDischargeDepth := 60) [*]; done)))
@[simp] theorem execMasterUnlock_goesCanon (s : State) (hs : RegsCanon s.regs) : goesCanon (execMasterUnlock s) := by
  first
  | (simp (maxDischargeDepth := 60) [execMasterUnlock, hs, goesCanon_ite, apply_ite State.regs, apply_dite State.regs, apply_ite RegsCanon, apply_dite RegsCanon]; done)
  | (unfold execMasterUnlock; (try dsimp only); (repeat' split) <;> first | with_reducible exact hs | (simp (maxDischargeDepth := 60) [hs, goesCanon_ite, apply_ite State.regs, apply_dite State.regs, apply_ite RegsCanon, apply_dite RegsCanon, *]; done) | (simp +contextual (maxDischargeDepth := 60) [hs, goesCanon_ite, apply_ite State.regs, apply_dite State.regs, apply_ite RegsCanon, apply_dite RegsCanon, *]; done) | (have ho := State.offer_regsWf _ _ _ _ (by assumption) hs; simp (maxDischargeDepth := 60) [*]; done) | (have ho := State.take_regsWf _ _ _ _ (by assumption) hs; simp (maxDischargeDepth := 60) [*]; done) | ((try rw [goesCanon_next]); with_reducible (refine foldl_regsWf _ _ _ ?_ ?_) <;> (first | (intro s hs a; (repeat' split) <;> simp (maxDischargeDepth := 60) [*]; done) | simp (maxDischargeDepth := 60) [*]; done)))
@[simp] theorem execMasterLocked_goesCanon (t : Nat) (s : State) (hs : RegsCanon s.regs) : goesCanon (execMasterLocked t s) := by
  first
  | (simp (maxDischargeDepth := 60) [execMasterLocked, hs, goesCanon_ite, apply_ite State.regs, apply_dite State.regs, apply_ite RegsCanon, apply_dite RegsCanon]; done)
  | (unfold execMasterLocked; (try dsimp only); (repeat' split) <;> first | with_reducible exact hs | (simp (maxDischargeDepth := 60) [hs, goesCanon_ite, apply_ite State.regs, apply_dite State.regs, apply_ite RegsCanon, apply_dite RegsCanon, *]; done) | (simp +contextual (maxDischargeDepth := 60) [hs, goesCanon_ite, apply_ite State.regs, apply_dite State.regs, apply_ite RegsCanon, apply_dite RegsCanon, *]; done) | (have ho := State.offer_regsWf _ _ _ _ (by assumption) hs; simp (maxDischargeDepth := 60) [*]; done) | (have ho := State.take_regsWf _ _ _ _ (by assumption) hs; simp (maxDischargeDepth := 60) [*]; done) | ((try rw [goesCanon_next]); with_reducible (refine foldl_regsWf _ _ _ ?_ ?_) <;> (first | (intro s hs a; (repeat' split) <;> simp (maxDischargeDepth := 60) [*]; done) | simp (maxDischargeDepth := 60) [*]; done)))
@[simp] theorem execMasterResume_goesCanon (s : State) (hs : RegsCanon s.regs) : goesCanon (execMasterResume s) := by
  first
  | (simp (maxDischargeDepth := 60) [execMasterResume, hs, goesCanon_ite, apply_ite State.regs, apply_dite State.regs, apply_ite RegsCanon, apply_dite RegsCanon]; done)
  | (unfold execMasterResume; (try dsimp only); (repeat' split) <;> first | with_reducible exact hs | (simp (maxDischargeDepth := 60) [hs, goesCanon_ite, apply_ite State.regs, apply_dite State.regs, apply_ite RegsCanon, apply_dite RegsCanon, *]; done) | (simp +contextual (maxDischargeDepth := 60) [hs, goesCanon_ite, apply_ite State.regs, apply_dite State.regs, apply_ite RegsCanon, apply_dite RegsCanon, *]; done) | (have ho := State.offer_regsWf _ _ _ _ (by assumption) hs; simp (maxDischargeDepth := 60) [*]; done) | (have ho := State.take_regsWf _ _ _ _ (by assumption) hs; simp (maxDischargeDepth := 60) [*]; done) | ((try rw [goesCanon_next]); with_reducible (refine foldl_regsWf _ _ _ ?_ ?_) <;> (first | (intro s hs a; (repeat' split) <;> simp (maxDischargeDepth := 60) [*]; done) | simp (maxDischargeDepth := 60) [*]; done)))
@[simp] theorem execMasterOverspeed_goesCanon (t : Nat) (s : State) (hs : RegsCanon s.regs) : goesCanon (execMasterOverspeed t s) := by
  first
  | (simp (maxDischargeDepth := 60) [execMasterOverspeed, hs, goesCanon_ite, apply_ite State.regs, apply_dite State.regs, apply_ite RegsCanon, apply_dite RegsCanon]; done)
  | (unfold execMasterOverspeed; (try dsimp only); (repeat' split) <;> first | with_reducible exact hs | (simp (maxDischargeDepth := 60) [hs, goesCanon_ite, apply_ite State.regs, apply_dite State.regs, apply_ite RegsCanon, apply_dite RegsCanon, *]; done) | (simp +contextual (maxDischargeDepth := 60) [hs, goesCanon_ite, apply_ite State.regs, apply_dite State.regs, apply_ite RegsCanon, apply_dite RegsCanon, *]; done) | (have ho := State.offer_regsWf _ _ _ _ (by assumption) hs; simp (maxDischargeDepth := 60) [*]; done) | (have ho := State.take_regsWf _ _ _ _ (by assumption) hs; simp (maxDischargeDepth := 60) [*]; done) | ((try rw [goesCanon_next]); with_reducible (refine foldl_regsWf _ _ _ ?_ ?_) <;> (first | (intro s hs a; (repeat' split) <;> simp (maxDischargeDepth := 60) [*]; done) | simp (maxDischargeDepth := 60) [*]; done)))
@[simp] theorem State.armAll_regsWf (s : State) (hs : RegsCanon s.regs) : RegsCanon (State.armAll s).regs := by
  first
  | (simp (maxDischargeDepth := 60) [State.armAll, hs, goesCanon_ite, apply_ite State.regs, apply_dite State.regs, apply_ite RegsCanon, apply_dite RegsCanon]; done)
  | (unfold State.armAll; (try dsimp only); (repeat' split) <;> first | with_reducible exact hs | (simp (maxDischargeDepth := 60) [hs, goesCanon_ite, apply_ite State.regs, apply_dite State.regs, apply_ite RegsCanon, apply_dite RegsCanon, *]; done) | (simp +contextual (maxDischargeDepth := 60) [hs, goesCanon_ite, apply_ite State.regs, apply_dite State.regs, apply_ite RegsCanon, apply_dite RegsCanon, *]; done) | (have ho := State.offer_regsWf _ _ _ _ (by assumption) hs; simp (maxDischargeDepth := 60) [*]; done) | (have ho := State.take_regsWf _ _ _ _ (by assumption) hs; simp (maxDischargeDepth := 60) [*]; done) | ((try rw [goesCanon_next]); with_reducible (refine foldl_regsWf _ _ _ ?_ ?_) <;> (first | (intro s hs a; (repeat' split) <;> simp (maxDischargeDepth := 60) [*]; done) | simp (maxDischargeDepth := 60) [*]; done)))
@[simp] theorem execWheelReversal_goesCanon (t : Nat) (s : State) (hs : RegsCanon s.regs) : goesCanon (execWheelReversal t s) := by
  first
  | (simp (maxDischargeDepth := 60) [execWheelReversal, hs, goesCanon_ite, apply_ite State.regs, apply_dite State.regs, apply_ite RegsCanon, apply_dite RegsCanon]; done)
  | (unfold execWheelReversal; (try dsimp only); (repeat' split) <;> first | with_reducible exact hs | (simp (maxDischargeDepth := 60) [hs, goesCanon_ite, apply_ite State.regs, apply_dite State.regs, apply_ite RegsCanon, apply_dite RegsCanon, *]; done) | (simp +contextual (maxDischargeDepth := 60) [hs, goesCanon_ite, apply_ite State.regs, apply_dite State.regs, apply_ite RegsCanon, apply_dite RegsCanon, *]; done) | (have ho := State.offer_regsWf _ _ _ _ (by assumption) hs; simp (maxDischargeDepth := 60) [*]; done) | (have ho := State.take_regsWf _ _ _ _ (by assumption) hs; simp (maxDischargeDepth := 60) [*]; done) | ((try rw [goesCanon_next]); with_reducible (refine foldl_regsWf _ _ _ ?_ ?_) <;> (first | (intro s hs a; (repeat' split) <;> simp (maxDischargeDepth := 60) [*]; done) | simp (maxDischargeDepth := 60) [*]; done)))
@[simp] theorem execSlotStage_goesCanon (t : Nat) (s : State) (hs : RegsCanon s.regs) : goesCanon (execSlotStage t s) := by
  first
  | (simp (maxDischargeDepth := 60) [execSlotStage, hs, goesCanon_ite, apply_ite State.regs, apply_dite State.regs, apply_ite RegsCanon, apply_dite RegsCanon]; done)
  | (unfold execSlotStage; (try dsimp only); (repeat' split) <;> first | with_reducible exact hs | (simp (maxDischargeDepth := 60) [hs, goesCanon_ite, apply_ite State.regs, apply_dite State.regs, apply_ite RegsCanon, apply_dite RegsCanon, *]; done) | (simp +contextual (maxDischargeDepth := 60) [hs, goesCanon_ite, apply_ite State.regs, apply_dite State.regs, apply_ite RegsCanon, apply_dite RegsCanon, *]; done) | (have ho := State.offer_regsWf _ _ _ _ (by assumption) hs; simp (maxDischargeDepth := 60) [*]; done) | (have ho := State.take_regsWf _ _ _ _ (by assumption) hs; simp (maxDischargeDepth := 60) [*]; done) | ((try rw [goesCanon_next]); with_reducible (refine foldl_regsWf _ _ _ ?_ ?_) <;> (first | (intro s hs a; (repeat' split) <;> simp (maxDischargeDepth := 60) [*]; done) | simp (maxDischargeDepth := 60) [*]; done)))
@[simp] theorem execPinSet_goesCanon (handle : Nat) (t : Nat) (s : State) (hs : RegsCanon s.regs) : goesCanon (execPinSet handle t s) := by
  first
  | (simp (maxDischargeDepth := 60) [execPinSet, hs, goesCanon_ite, apply_ite State.regs, apply_dite State.regs, apply_ite RegsCanon, apply_dite RegsCanon]; done)
  | (unfold execPinSet; (try dsimp only); (repeat' split) <;> first | with_reducible exact hs | (simp (maxDischargeDepth := 60) [hs, goesCanon_ite, apply_ite State.regs, apply_dite State.regs, apply_ite RegsCanon, apply_dite RegsCanon, *]; done) | (simp +contextual (maxDischargeDepth := 60) [hs, goesCanon_ite, apply_ite State.regs, apply_dite State.regs, apply_ite RegsCanon, apply_dite RegsCanon, *]; done) | (have ho := State.offer_regsWf _ _ _ _ (by assumption) hs; simp (maxDischargeDepth := 60) [*]; done) | (have ho := State.take_regsWf _ _ _ _ (by assumption) hs; simp (maxDischargeDepth := 60) [*]; done) | ((try rw [goesCanon_next]); with_reducible (refine foldl_regsWf _ _ _ ?_ ?_) <;> (first | (intro s hs a; (repeat' split) <;> simp (maxDischargeDepth := 60) [*]; done) | simp (maxDischargeDepth := 60) [*]; done)))
@[simp] theorem execPinClear_goesCanon (handle : Nat) (t : Nat) (s : State) (hs : RegsCanon s.regs) : goesCanon (execPinClear handle t s) := by
  first
  | (simp (maxDischargeDepth := 60) [execPinClear, hs, goesCanon_ite, apply_ite State.regs, apply_dite State.regs, apply_ite RegsCanon, apply_dite RegsCanon]; done)
  | (unfold execPinClear; (try dsimp only); (repeat' split) <;> first | with_reducible exact hs | (simp (maxDischargeDepth := 60) [hs, goesCanon_ite, apply_ite State.regs, apply_dite State.regs, apply_ite RegsCanon, apply_dite RegsCanon, *]; done) | (simp +contextual (maxDischargeDepth := 60) [hs, goesCanon_ite, apply_ite State.regs, apply_dite State.regs, apply_ite RegsCanon, apply_dite RegsCanon, *]; done) | (have ho := State.offer_regsWf _ _ _ _ (by assumption) hs; simp (maxDischargeDepth := 60) [*]; done) | (have ho := State.take_regsWf _ _ _ _ (by assumption) hs; simp (maxDischargeDepth := 60) [*]; done) | ((try rw [goesCanon_next]); with_reducible (refine foldl_regsWf _ _ _ ?_ ?_) <;> (first | (intro s hs a; (repeat' split) <;> simp (maxDischargeDepth := 60) [*]; done) | simp (maxDischargeDepth := 60) [*]; done)))
@[simp] theorem execPinPulse_goesCanon (handle : Nat) (t : Nat) (s : State) (hs : RegsCanon s.regs) : goesCanon (execPinPulse handle t s) := by
  first
  | (simp (maxDischargeDepth := 60) [execPinPulse, hs, goesCanon_ite, apply_ite State.regs, apply_dite State.regs, apply_ite RegsCanon, apply_dite RegsCanon]; done)
  | (unfold execPinPulse; (try dsimp only); (repeat' split) <;> first | with_reducible exact hs | (simp (maxDischargeDepth := 60) [hs, goesCanon_ite, apply_ite State.regs, apply_dite State.regs, apply_ite RegsCanon, apply_dite RegsCanon, *]; done) | (simp +contextual (maxDischargeDepth := 60) [hs, goesCanon_ite, apply_ite State.regs, apply_dite State.regs, apply_ite RegsCanon, apply_dite RegsCanon, *]; done) | (have ho := State.offer_regsWf _ _ _ _ (by assumption) hs; simp (maxDischargeDepth := 60) [*]; done) | (have ho := State.take_regsWf _ _ _ _ (by assumption) hs; simp (maxDischargeDepth := 60) [*]; done) | ((try rw [goesCanon_next]); with_reducible (refine foldl_regsWf _ _ _ ?_ ?_) <;> (first | (intro s hs a; (repeat' split) <;> simp (maxDischargeDepth := 60) [*]; done) | simp (maxDischargeDepth := 60) [*]; done)))
@[simp] theorem execFoutSet_goesCanon (handle : Nat) (t : Nat) (s : State) (hs : RegsCanon s.regs) : goesCanon (execFoutSet handle t s) := by
  first
  | (simp (maxDischargeDepth := 60) [execFoutSet, hs, goesCanon_ite, apply_ite State.regs, apply_dite State.regs, apply_ite RegsCanon, apply_dite RegsCanon]; done)
  | (unfold execFoutSet; (try dsimp only); (repeat' split) <;> first | with_reducible exact hs | (simp (maxDischargeDepth := 60) [hs, goesCanon_ite, apply_ite State.regs, apply_dite State.regs, apply_ite RegsCanon, apply_dite RegsCanon, *]; done) | (simp +contextual (maxDischargeDepth := 60) [hs, goesCanon_ite, apply_ite State.regs, apply_dite State.regs, apply_ite RegsCanon, apply_dite RegsCanon, *]; done) | (have ho := State.offer_regsWf _ _ _ _ (by assumption) hs; simp (maxDischargeDepth := 60) [*]; done) | (have ho := State.take_regsWf _ _ _ _ (by assumption) hs; simp (maxDischargeDepth := 60) [*]; done) | ((try rw [goesCanon_next]); with_reducible (refine foldl_regsWf _ _ _ ?_ ?_) <;> (first | (intro s hs a; (repeat' split) <;> simp (maxDischargeDepth := 60) [*]; done) | simp (maxDischargeDepth := 60) [*]; done)))
@[simp] theorem execFoutClear_goesCanon (handle : Nat) (t : Nat) (s : State) (hs : RegsCanon s.regs) : goesCanon (execFoutClear handle t s) := by
  first
  | (simp (maxDischargeDepth := 60) [execFoutClear, hs, goesCanon_ite, apply_ite State.regs, apply_dite State.regs, apply_ite RegsCanon, apply_dite RegsCanon]; done)
  | (unfold execFoutClear; (try dsimp only); (repeat' split) <;> first | with_reducible exact hs | (simp (maxDischargeDepth := 60) [hs, goesCanon_ite, apply_ite State.regs, apply_dite State.regs, apply_ite RegsCanon, apply_dite RegsCanon, *]; done) | (simp +contextual (maxDischargeDepth := 60) [hs, goesCanon_ite, apply_ite State.regs, apply_dite State.regs, apply_ite RegsCanon, apply_dite RegsCanon, *]; done) | (have ho := State.offer_regsWf _ _ _ _ (by assumption) hs; simp (maxDischargeDepth := 60) [*]; done) | (have ho := State.take_regsWf _ _ _ _ (by assumption) hs; simp (maxDischargeDepth := 60) [*]; done) | ((try rw [goesCanon_next]); with_reducible (refine foldl_regsWf _ _ _ ?_ ?_) <;> (first | (intro s hs a; (repeat' split) <;> simp (maxDischargeDepth := 60) [*]; done) | simp (maxDischargeDepth := 60) [*]; done)))
@[simp] theorem execFoutPulse_goesCanon (handle : Nat) (t : Nat) (s : State) (hs : RegsCanon s.regs) : goesCanon (execFoutPulse handle t s) := by
  first
  | (simp (maxDischargeDepth := 60) [execFoutPulse, hs, goesCanon_ite, apply_ite State.regs, apply_dite State.regs, apply_ite RegsCanon, apply_dite RegsCanon]; done)
  | (unfold execFoutPulse; (try dsimp only); (repeat' split) <;> first | with_reducible exact hs | (simp (maxDischargeDepth := 60) [hs, goesCanon_ite, apply_ite State.regs, apply_dite State.regs, apply_ite RegsCanon, apply_dite RegsCanon, *]; done) | (simp +contextual (maxDischargeDepth := 60) [hs, goesCanon_ite, apply_ite State.regs, apply_dite State.regs, apply_ite RegsCanon, apply_dite RegsCanon, *]; done) | (have ho := State.offer_regsWf _ _ _ _ (by assumption) hs; simp (maxDischargeDepth := 60) [*]; done) | (have ho := State.take_regsWf _ _ _ _ (by assumption) hs; simp (maxDischargeDepth := 60) [*]; done) | ((try rw [goesCanon_next]); with_reducible (refine foldl_regsWf _ _ _ ?_ ?_) <;> (first | (intro s hs a; (repeat' split) <;> simp (maxDischargeDepth := 60) [*]; done) | simp (maxDischargeDepth := 60) [*]; done)))
@[simp] theorem execDispatch_goesCanon (handle : Nat) (t : Nat) (s : State) (hs : RegsCanon s.regs) : goesCanon (execDispatch handle t s) := by
  first
  | (simp (maxDischargeDepth := 60) [execDispatch, hs, goesCanon_ite, apply_ite State.regs, apply_dite State.regs, apply_ite RegsCanon, apply_dite RegsCanon]; done)
  | (unfold execDispatch; (try dsimp only); (repeat' split) <;> first | with_reducible exact hs | (simp (maxDischargeDepth := 60) [hs, goesCanon_ite, apply_ite State.regs, apply_dite State.regs, apply_ite RegsCanon, apply_dite RegsCanon, *]; done) | (simp +contextual (maxDischargeDepth := 60) [hs, goesCanon_ite, apply_ite State.regs, apply_dite State.regs, apply_ite RegsCanon, apply_dite RegsCanon, *]; done) | (have ho := State.offer_regsWf _ _ _ _ (by assumption) hs; simp (maxDischargeDepth := 60) [*]; done) | (have ho := State.take_regsWf _ _ _ _ (by assumption) hs; simp (maxDischargeDepth := 60) [*]; done) | ((try rw [goesCanon_next]); with_reducible (refine foldl_regsWf _ _ _ ?_ ?_) <;> (first | (intro s hs a; (repeat' split) <;> simp (maxDischargeDepth := 60) [*]; done) | simp (maxDischargeDepth := 60) [*]; done)))
@[simp] theorem execSegmentGo_goesCanon (handle : Nat) (t : Nat) (s : State) (hs : RegsCanon s.regs) : goesCanon (execSegmentGo handle t s) := by
  first
  | (simp (maxDischargeDepth := 60) [execSegmentGo, hs, goesCanon_ite, apply_ite State.regs, apply_dite State.regs, apply_ite RegsCanon, apply_dite RegsCanon]; done)
  | (unfold execSegmentGo; (try dsimp only); (repeat' split) <;> first | with_reducible exact hs | (simp (maxDischargeDepth := 60) [hs, goesCanon_ite, apply_ite State.regs, apply_dite State.regs, apply_ite RegsCanon, apply_dite RegsCanon, *]; done) | (simp +contextual (maxDischargeDepth := 60) [hs, goesCanon_ite, apply_ite State.regs, apply_dite State.regs, apply_ite RegsCanon, apply_dite RegsCanon, *]; done) | (have ho := State.offer_regsWf _ _ _ _ (by assumption) hs; simp (maxDischargeDepth := 60) [*]; done) | (have ho := State.take_regsWf _ _ _ _ (by assumption) hs; simp (maxDischargeDepth := 60) [*]; done) | ((try rw [goesCanon_next]); with_reducible (refine foldl_regsWf _ _ _ ?_ ?_) <;> (first | (intro s hs a; (repeat' split) <;> simp (maxDischargeDepth := 60) [*]; done) | simp (maxDischargeDepth := 60) [*]; done)))
@[simp] theorem execAcqTrig_goesCanon (handle : Nat) (t : Nat) (s : State) (hs : RegsCanon s.regs) : goesCanon (execAcqTrig handle t s) := by
  first
  | (simp (maxDischargeDepth := 60) [execAcqTrig, hs, goesCanon_ite, apply_ite State.regs, apply_dite State.regs, apply_ite RegsCanon, apply_dite RegsCanon]; done)
  | (unfold execAcqTrig; (try dsimp only); (repeat' split) <;> first | with_reducible exact hs | (simp (maxDischargeDepth := 60) [hs, goesCanon_ite, apply_ite State.regs, apply_dite State.regs, apply_ite RegsCanon, apply_dite RegsCanon, *]; done) | (simp +contextual (maxDischargeDepth := 60) [hs, goesCanon_ite, apply_ite State.regs, apply_dite State.regs, apply_ite RegsCanon, apply_dite RegsCanon, *]; done) | (have ho := State.offer_regsWf _ _ _ _ (by assumption) hs; simp (maxDischargeDepth := 60) [*]; done) | (have ho := State.take_regsWf _ _ _ _ (by assumption) hs; simp (maxDischargeDepth := 60) [*]; done) | ((try rw [goesCanon_next]); with_reducible (refine foldl_regsWf _ _ _ ?_ ?_) <;> (first | (intro s hs a; (repeat' split) <;> simp (maxDischargeDepth := 60) [*]; done) | simp (maxDischargeDepth := 60) [*]; done)))
@[simp] theorem execLatchArm_goesCanon (handle : Nat) (t : Nat) (s : State) (hs : RegsCanon s.regs) : goesCanon (execLatchArm handle t s) := by
  first
  | (simp (maxDischargeDepth := 60) [execLatchArm, hs, goesCanon_ite, apply_ite State.regs, apply_dite State.regs, apply_ite RegsCanon, apply_dite RegsCanon]; done)
  | (unfold execLatchArm; (try dsimp only); (repeat' split) <;> first | with_reducible exact hs | (simp (maxDischargeDepth := 60) [hs, goesCanon_ite, apply_ite State.regs, apply_dite State.regs, apply_ite RegsCanon, apply_dite RegsCanon, *]; done) | (simp +contextual (maxDischargeDepth := 60) [hs, goesCanon_ite, apply_ite State.regs, apply_dite State.regs, apply_ite RegsCanon, apply_dite RegsCanon, *]; done) | (have ho := State.offer_regsWf _ _ _ _ (by assumption) hs; simp (maxDischargeDepth := 60) [*]; done) | (have ho := State.take_regsWf _ _ _ _ (by assumption) hs; simp (maxDischargeDepth := 60) [*]; done) | ((try rw [goesCanon_next]); with_reducible (refine foldl_regsWf _ _ _ ?_ ?_) <;> (first | (intro s hs a; (repeat' split) <;> simp (maxDischargeDepth := 60) [*]; done) | simp (maxDischargeDepth := 60) [*]; done)))
@[simp] theorem execPinPulseEnd_goesCanon (pin : Fin 16) (t : Nat) (s : State) (hs : RegsCanon s.regs) : goesCanon (execPinPulseEnd pin t s) := by
  first
  | (simp (maxDischargeDepth := 60) [execPinPulseEnd, hs, goesCanon_ite, apply_ite State.regs, apply_dite State.regs, apply_ite RegsCanon, apply_dite RegsCanon]; done)
  | (unfold execPinPulseEnd; (try dsimp only); (repeat' split) <;> first | with_reducible exact hs | (simp (maxDischargeDepth := 60) [hs, goesCanon_ite, apply_ite State.regs, apply_dite State.regs, apply_ite RegsCanon, apply_dite RegsCanon, *]; done) | (simp +contextual (maxDischargeDepth := 60) [hs, goesCanon_ite, apply_ite State.regs, apply_dite State.regs, apply_ite RegsCanon, apply_dite RegsCanon, *]; done) | (have ho := State.offer_regsWf _ _ _ _ (by assumption) hs; simp (maxDischargeDepth := 60) [*]; done) | (have ho := State.take_regsWf _ _ _ _ (by assumption) hs; simp (maxDischargeDepth := 60) [*]; done) | ((try rw [goesCanon_next]); with_reducible (refine foldl_regsWf _ _ _ ?_ ?_) <;> (first | (intro s hs a; (repeat' split) <;> simp (maxDischargeDepth := 60) [*]; done) | simp (maxDischargeDepth := 60) [*]; done)))
@[simp] theorem execFoutPulseEnd_goesCanon (out : Fin 32) (t : Nat) (s : State) (hs : RegsCanon s.regs) : goesCanon (execFoutPulseEnd out t s) := by
  first
  | (simp (maxDischargeDepth := 60) [execFoutPulseEnd, hs, goesCanon_ite, apply_ite State.regs, apply_dite State.regs, apply_ite RegsCanon, apply_dite RegsCanon]; done)
  | (unfold execFoutPulseEnd; (try dsimp only); (repeat' split) <;> first | with_reducible exact hs | (simp (maxDischargeDepth := 60) [hs, goesCanon_ite, apply_ite State.regs, apply_dite State.regs, apply_ite RegsCanon, apply_dite RegsCanon, *]; done) | (simp +contextual (maxDischargeDepth := 60) [hs, goesCanon_ite, apply_ite State.regs, apply_dite State.regs, apply_ite RegsCanon, apply_dite RegsCanon, *]; done) | (have ho := State.offer_regsWf _ _ _ _ (by assumption) hs; simp (maxDischargeDepth := 60) [*]; done) | (have ho := State.take_regsWf _ _ _ _ (by assumption) hs; simp (maxDischargeDepth := 60) [*]; done) | ((try rw [goesCanon_next]); with_reducible (refine foldl_regsWf _ _ _ ?_ ?_) <;> (first | (intro s hs a; (repeat' split) <;> simp (maxDischargeDepth := 60) [*]; done) | simp (maxDischargeDepth := 60) [*]; done)))
@[simp] theorem execLatchWindowEnd_goesCanon (lt : Fin 8) (t : Nat) (s : State) (hs : RegsCanon s.regs) : goesCanon (execLatchWindowEnd lt t s) := by
  first
  | (simp (maxDischargeDepth := 60) [execLatchWindowEnd, hs, goesCanon_ite, apply_ite State.regs, apply_dite State.regs, apply_ite RegsCanon, apply_dite RegsCanon]; done)
  | (unfold execLatchWindowEnd; (try dsimp only); (repeat' split) <;> first | with_reducible exact hs | (simp (maxDischargeDepth := 60) [hs, goesCanon_ite, apply_ite State.regs, apply_dite State.regs, apply_ite RegsCanon, apply_dite RegsCanon, *]; done) | (simp +contextual (maxDischargeDepth := 60) [hs, goesCanon_ite, apply_ite State.regs, apply_dite State.regs, apply_ite RegsCanon, apply_dite RegsCanon, *]; done) | (have ho := State.offer_regsWf _ _ _ _ (by assumption) hs; simp (maxDischargeDepth := 60) [*]; done) | (have ho := State.take_regsWf _ _ _ _ (by assumption) hs; simp (maxDischargeDepth := 60) [*]; done) | ((try rw [goesCanon_next]); with_reducible (refine foldl_regsWf _ _ _ ?_ ?_) <;> (first | (intro s hs a; (repeat' split) <;> simp (maxDischargeDepth := 60) [*]; done) | simp (maxDischargeDepth := 60) [*]; done)))
@[simp] theorem execLatchEdge_goesCanon (lt : Fin 8) (rising : Bool) (width : Nat) (t : Nat) (s : State) (hs : RegsCanon s.regs) : goesCanon (execLatchEdge lt rising width t s) := by
  first
  | (simp (maxDischargeDepth := 60) [execLatchEdge, hs, goesCanon_ite, apply_ite State.regs, apply_dite State.regs, apply_ite RegsCanon, apply_dite RegsCanon]; done)
  | (unfold execLatchEdge; (try dsimp only); (repeat' split) <;> first | with_reducible exact hs | (simp (maxDischargeDepth := 60) [hs, goesCanon_ite, apply_ite State.regs, apply_dite State.regs, apply_ite RegsCanon, apply_dite RegsCanon, *]; done) | (simp +contextual (maxDischargeDepth := 60) [hs, goesCanon_ite, apply_ite State.regs, apply_dite State.regs, apply_ite RegsCanon, apply_dite RegsCanon, *]; done) | (have ho := State.offer_regsWf _ _ _ _ (by assumption) hs; simp (maxDischargeDepth := 60) [*]; done) | (have ho := State.take_regsWf _ _ _ _ (by assumption) hs; simp (maxDischargeDepth := 60) [*]; done) | ((try rw [goesCanon_next]); with_reducible (refine foldl_regsWf _ _ _ ?_ ?_) <;> (first | (intro s hs a; (repeat' split) <;> simp (maxDischargeDepth := 60) [*]; done) | simp (maxDischargeDepth := 60) [*]; done)))
@[simp] theorem execLatchRead_goesCanon (lt : Fin 8) (s : State) (hs : RegsCanon s.regs) : goesCanon (execLatchRead lt s) := by
  first
  | (simp (maxDischargeDepth := 60) [execLatchRead, hs, goesCanon_ite, apply_ite State.regs, apply_dite State.regs, apply_ite RegsCanon, apply_dite RegsCanon]; done)
  | (unfold execLatchRead; (try dsimp only); (repeat' split) <;> first | with_reducible exact hs | (simp (maxDischargeDepth := 60) [hs, goesCanon_ite, apply_ite State.regs, apply_dite State.regs, apply_ite RegsCanon, apply_dite RegsCanon, *]; done) | (simp +contextual (maxDischargeDepth := 60) [hs, goesCanon_ite, apply_ite State.regs, apply_dite State.regs, apply_ite RegsCanon, apply_dite RegsCanon, *]; done) | (have ho := State.offer_regsWf _ _ _ _ (by assumption) hs; simp (maxDischargeDepth := 60) [*]; done) | (have ho := State.take_regsWf _ _ _ _ (by assumption) hs; simp (maxDischargeDepth := 60) [*]; done) | ((try rw [goesCanon_next]); with_reducible (refine foldl_regsWf _ _ _ ?_ ?_) <;> (first | (intro s hs a; (repeat' split) <;> simp (maxDischargeDepth := 60) [*]; done) | simp (maxDischargeDepth := 60) [*]; done)))
@[simp] theorem execMasterAngleRead_goesCanon (s : State) (hs : RegsCanon s.regs) : goesCanon (execMasterAngleRead s) := by
  first
  | (simp (maxDischargeDepth := 60) [execMasterAngleRead, hs, goesCanon_ite, apply_ite State.regs, apply_dite State.regs, apply_ite RegsCanon, apply_dite RegsCanon]; done)
  | (unfold execMasterAngleRead; (try dsimp only); (repeat' split) <;> first | with_reducible exact hs | (simp (maxDischargeDepth := 60) [hs, goesCanon_ite, apply_ite State.regs, apply_dite State.regs, apply_ite RegsCanon, apply_dite RegsCanon, *]; done) | (simp +contextual (maxDischargeDepth := 60) [hs, goesCanon_ite, apply_ite State.regs, apply_dite State.regs, apply_ite RegsCanon, apply_dite RegsCanon, *]; done) | (have ho := State.offer_regsWf _ _ _ _ (by assumption) hs; simp (maxDischargeDepth := 60) [*]; done) | (have ho := State.take_regsWf _ _ _ _ (by assumption) hs; simp (maxDischargeDepth := 60) [*]; done) | ((try rw [goesCanon_next]); with_reducible (refine foldl_regsWf _ _ _ ?_ ?_) <;> (first | (intro s hs a; (repeat' split) <;> simp (maxDischargeDepth := 60) [*]; done) | simp (maxDischargeDepth := 60) [*]; done)))
@[simp] theorem execWheelInsert_goesCanon (s : State) (hs : RegsCanon s.regs) : goesCanon (execWheelInsert s) := by
  first
  | (simp (maxDischargeDepth := 60) [execWheelInsert, hs, goesCanon_ite, apply_ite State.regs, apply_dite State.regs, apply_ite RegsCanon, apply_dite RegsCanon]; done)
  | (unfold execWheelInsert; (try dsimp only); (repeat' split) <;> first | with_reducible exact hs | (simp (maxDischargeDepth := 60) [hs, goesCanon_ite, apply_ite State.regs, apply_dite State.regs, apply_ite RegsCanon, apply_dite RegsCanon, *]; done) | (simp +contextual (maxDischargeDepth := 60) [hs, goesCanon_ite, apply_ite State.regs, apply_dite State.regs, apply_ite RegsCanon, apply_dite RegsCanon, *]; done) | (have ho := State.offer_regsWf _ _ _ _ (by assumption) hs; simp (maxDischargeDepth := 60) [*]; done) | (have ho := State.take_regsWf _ _ _ _ (by assumption) hs; simp (maxDischargeDepth := 60) [*]; done) | ((try rw [goesCanon_next]); with_reducible (refine foldl_regsWf _ _ _ ?_ ?_) <;> (first | (intro s hs a; (repeat' split) <;> simp (maxDischargeDepth := 60) [*]; done) | simp (maxDischargeDepth := 60) [*]; done)))
@[simp] theorem execWheelCancel_goesCanon (handle : Nat) (s : State) (hs : RegsCanon s.regs) : goesCanon (execWheelCancel handle s) := by
  first
  | (simp (maxDischargeDepth := 60) [execWheelCancel, hs, goesCanon_ite, apply_ite State.regs, apply_dite State.regs, apply_ite RegsCanon, apply_dite RegsCanon]; done)
  | (unfold execWheelCancel; (try dsimp only); (repeat' split) <;> first | with_reducible exact hs | (simp (maxDischargeDepth := 60) [hs, goesCanon_ite, apply_ite State.regs, apply_dite State.regs, apply_ite RegsCanon, apply_dite RegsCanon, *]; done) | (simp +contextual (maxDischargeDepth := 60) [hs, goesCanon_ite, apply_ite State.regs, apply_dite State.regs, apply_ite RegsCanon, apply_dite RegsCanon, *]; done) | (have ho := State.offer_regsWf _ _ _ _ (by assumption) hs; simp (maxDischargeDepth := 60) [*]; done) | (have ho := State.take_regsWf _ _ _ _ (by assumption) hs; simp (maxDischargeDepth := 60) [*]; done) | ((try rw [goesCanon_next]); with_reducible (refine foldl_regsWf _ _ _ ?_ ?_) <;> (first | (intro s hs a; (repeat' split) <;> simp (maxDischargeDepth := 60) [*]; done) | simp (maxDischargeDepth := 60) [*]; done)))
@[simp] theorem execCoreWheelInsert_goesCanon (c : Fin 8) (d : Descriptor) (s : State) (hs : RegsCanon s.regs) : goesCanon (execCoreWheelInsert c d s) := by
  first
  | (simp (maxDischargeDepth := 60) [execCoreWheelInsert, hs, goesCanon_ite, apply_ite State.regs, apply_dite State.regs, apply_ite RegsCanon, apply_dite RegsCanon]; done)
  | (unfold execCoreWheelInsert; (try dsimp only); (repeat' split) <;> first | with_reducible exact hs | (simp (maxDischargeDepth := 60) [hs, goesCanon_ite, apply_ite State.regs, apply_dite State.regs, apply_ite RegsCanon, apply_dite RegsCanon, *]; done) | (simp +contextual (maxDischargeDepth := 60) [hs, goesCanon_ite, apply_ite State.regs, apply_dite State.regs, apply_ite RegsCanon, apply_dite RegsCanon, *]; done) | (have ho := State.offer_regsWf _ _ _ _ (by assumption) hs; simp (maxDischargeDepth := 60) [*]; done) | (have ho := State.take_regsWf _ _ _ _ (by assumption) hs; simp (maxDischargeDepth := 60) [*]; done) | ((try rw [goesCanon_next]); with_reducible (refine foldl_regsWf _ _ _ ?_ ?_) <;> (first | (intro s hs a; (repeat' split) <;> simp (maxDischargeDepth := 60) [*]; done) | simp (maxDischargeDepth := 60) [*]; done)))
@[simp] theorem execCoreWheelCancel_goesCanon (c : Fin 8) (handle : Nat) (s : State) (hs : RegsCanon s.regs) : goesCanon (execCoreWheelCancel c handle s) := by
  first
  | (simp (maxDischargeDepth := 60) [execCoreWheelCancel, hs, goesCanon_ite, apply_ite State.regs, apply_dite State.regs, apply_ite RegsCanon, apply_dite RegsCanon]; done)
  | (unfold execCoreWheelCancel; (try dsimp only); (repeat' split) <;> first | with_reducible exact hs | (simp (maxDischargeDepth := 60) [hs, goesCanon_ite, apply_ite State.regs, apply_dite State.regs, apply_ite RegsCanon, apply_dite RegsCanon, *]; done) | (simp +contextual (maxDischargeDepth := 60) [hs, goesCanon_ite, apply_ite State.regs, apply_dite State.regs, apply_ite RegsCanon, apply_dite RegsCanon, *]; done) | (have ho := State.offer_regsWf _ _ _ _ (by assumption) hs; simp (maxDischargeDepth := 60) [*]; done) | (have ho := State.take_regsWf _ _ _ _ (by assumption) hs; simp (maxDischargeDepth := 60) [*]; done) | ((try rw [goesCanon_next]); with_reducible (refine foldl_regsWf _ _ _ ?_ ?_) <;> (first | (intro s hs a; (repeat' split) <;> simp (maxDischargeDepth := 60) [*]; done) | simp (maxDischargeDepth := 60) [*]; done)))

end Sys2Proof.Machine
end

