-- ==== Sys2Proof/Laws/RegsFeedback.lean ====
section
/-! SUPPORT. The operations of Machine/Feedback.lean keep the register file in its canonical form. -/

namespace Sys2Proof.Machine

@[simp] theorem State.shiftCount_regsWf (s : State) (p : Fin 32) (t : Nat) (d : Int) (kind : Nat) (hs : RegsCanon s.regs) : RegsCanon (State.shiftCount s p t d kind).regs := by
  first
  | (simp (maxDischargeDepth := 60) [State.shiftCount, hs, goesCanon_ite, apply_ite State.regs, apply_dite State.regs, apply_ite RegsCanon, apply_dite RegsCanon]; done)
  | (unfold State.shiftCount; (try dsimp only); (repeat' split) <;> first | with_reducible exact hs | (simp (maxDischargeDepth := 60) [hs, goesCanon_ite, apply_ite State.regs, apply_dite State.regs, apply_ite RegsCanon, apply_dite RegsCanon, *]; done) | (simp +contextual (maxDischargeDepth := 60) [hs, goesCanon_ite, apply_ite State.regs, apply_dite State.regs, apply_ite RegsCanon, apply_dite RegsCanon, *]; done) | (have ho := State.offer_regsWf _ _ _ _ (by assumption) hs; simp (maxDischargeDepth := 60) [*]; done) | (have ho := State.take_regsWf _ _ _ _ (by assumption) hs; simp (maxDischargeDepth := 60) [*]; done) | ((try rw [goesCanon_next]); with_reducible (refine foldl_regsWf _ _ _ ?_ ?_) <;> (first | (intro s hs a; (repeat' split) <;> simp (maxDischargeDepth := 60) [*]; done) | simp (maxDischargeDepth := 60) [*]; done)))
@[simp] theorem State.settle_regsWf (s : State) (p : Fin 32) (t : Nat) (hs : RegsCanon s.regs) : RegsCanon (State.settle s p t).regs := by
  first
  | (simp (maxDischargeDepth := 60) [State.settle, hs, goesCanon_ite, apply_ite State.regs, apply_dite State.regs, apply_ite RegsCanon, apply_dite RegsCanon]; done)
  | (unfold State.settle; (try dsimp only); (repeat' split) <;> first | with_reducible exact hs | (simp (maxDischargeDepth := 60) [hs, goesCanon_ite, apply_ite State.regs, apply_dite State.regs, apply_ite RegsCanon, apply_dite RegsCanon, *]; done) | (simp +contextual (maxDischargeDepth := 60) [hs, goesCanon_ite, apply_ite State.regs, apply_dite State.regs, apply_ite RegsCanon, apply_dite RegsCanon, *]; done) | (have ho := State.offer_regsWf _ _ _ _ (by assumption) hs; simp (maxDischargeDepth := 60) [*]; done) | (have ho := State.take_regsWf _ _ _ _ (by assumption) hs; simp (maxDischargeDepth := 60) [*]; done) | ((try rw [goesCanon_next]); with_reducible (refine foldl_regsWf _ _ _ ?_ ?_) <;> (first | (intro s hs a; (repeat' split) <;> simp (maxDischargeDepth := 60) [*]; done) | simp (maxDischargeDepth := 60) [*]; done)))
@[simp] theorem State.setLines_regsWf (s : State) (p : Nat) (a : Bool) (b : Bool) (z : Bool) (hs : RegsCanon s.regs) : RegsCanon (State.setLines s p a b z).regs := by
  first
  | (simp (maxDischargeDepth := 60) [State.setLines, hs, goesCanon_ite, apply_ite State.regs, apply_dite State.regs, apply_ite RegsCanon, apply_dite RegsCanon]; done)
  | (unfold State.setLines; (try dsimp only); (repeat' split) <;> first | with_reducible exact hs | (simp (maxDischargeDepth := 60) [hs, goesCanon_ite, apply_ite State.regs, apply_dite State.regs, apply_ite RegsCanon, apply_dite RegsCanon, *]; done) | (simp +contextual (maxDischargeDepth := 60) [hs, goesCanon_ite, apply_ite State.regs, apply_dite State.regs, apply_ite RegsCanon, apply_dite RegsCanon, *]; done) | (have ho := State.offer_regsWf _ _ _ _ (by assumption) hs; simp (maxDischargeDepth := 60) [*]; done) | (have ho := State.take_regsWf _ _ _ _ (by assumption) hs; simp (maxDischargeDepth := 60) [*]; done) | ((try rw [goesCanon_next]); with_reducible (refine foldl_regsWf _ _ _ ?_ ?_) <;> (first | (intro s hs a; (repeat' split) <;> simp (maxDischargeDepth := 60) [*]; done) | simp (maxDischargeDepth := 60) [*]; done)))
@[simp] theorem State.countEdge_regsWf (s : State) (p : Fin 32) (t : Nat) (d : Int) (hs : RegsCanon s.regs) : RegsCanon (State.countEdge s p t d).regs := by
  first
  | (simp (maxDischargeDepth := 60) [State.countEdge, hs, goesCanon_ite, apply_ite State.regs, apply_dite State.regs, apply_ite RegsCanon, apply_dite RegsCanon]; done)
  | (unfold State.countEdge; (try dsimp only); (repeat' split) <;> first | with_reducible exact hs | (simp (maxDischargeDepth := 60) [hs, goesCanon_ite, apply_ite State.regs, apply_dite State.regs, apply_ite RegsCanon, apply_dite RegsCanon, *]; done) | (simp +contextual (maxDischargeDepth := 60) [hs, goesCanon_ite, apply_ite State.regs, apply_dite State.regs, apply_ite RegsCanon, apply_dite RegsCanon, *]; done) | (have ho := State.offer_regsWf _ _ _ _ (by assumption) hs; simp (maxDischargeDepth := 60) [*]; done) | (have ho := State.take_regsWf _ _ _ _ (by assumption) hs; simp (maxDischargeDepth := 60) [*]; done) | ((try rw [goesCanon_next]); with_reducible (refine foldl_regsWf _ _ _ ?_ ?_) <;> (first | (intro s hs a; (repeat' split) <;> simp (maxDischargeDepth := 60) [*]; done) | simp (maxDischargeDepth := 60) [*]; done)))
@[simp] theorem State.illegalEdge_regsWf (s : State) (p : Fin 32) (hs : RegsCanon s.regs) : RegsCanon (State.illegalEdge s p).regs := by
  first
  | (simp (maxDischargeDepth := 60) [State.illegalEdge, hs, goesCanon_ite, apply_ite State.regs, apply_dite State.regs, apply_ite RegsCanon, apply_dite RegsCanon]; done)
  | (unfold State.illegalEdge; (try dsimp only); (repeat' split) <;> first | with_reducible exact hs | (simp (maxDischargeDepth := 60) [hs, goesCanon_ite, apply_ite State.regs, apply_dite State.regs, apply_ite RegsCanon, apply_dite RegsCanon, *]; done) | (simp +contextual (maxDischargeDepth := 60) [hs, goesCanon_ite, apply_ite State.regs, apply_dite State.regs, apply_ite RegsCanon, apply_dite RegsCanon, *]; done) | (have ho := State.offer_regsWf _ _ _ _ (by assumption) hs; simp (maxDischargeDepth := 60) [*]; done) | (have ho := State.take_regsWf _ _ _ _ (by assumption) hs; simp (maxDischargeDepth := 60) [*]; done) | ((try rw [goesCanon_next]); with_reducible (refine foldl_regsWf _ _ _ ?_ ?_) <;> (first | (intro s hs a; (repeat' split) <;> simp (maxDischargeDepth := 60) [*]; done) | simp (maxDischargeDepth := 60) [*]; done)))
@[simp] theorem State.countSample_regsWf (s : State) (p : Fin 32) (a : Bool) (b : Bool) (z : Bool) (t : Nat) (hs : RegsCanon s.regs) : RegsCanon (State.countSample s p a b z t).regs := by
  first
  | (simp (maxDischargeDepth := 60) [State.countSample, hs, goesCanon_ite, apply_ite State.regs, apply_dite State.regs, apply_ite RegsCanon, apply_dite RegsCanon]; done)
  | (unfold State.countSample; (try dsimp only); (repeat' split) <;> first | with_reducible exact hs | (simp (maxDischargeDepth := 60) [hs, goesCanon_ite, apply_ite State.regs, apply_dite State.regs, apply_ite RegsCanon, apply_dite RegsCanon, *]; done) | (simp +contextual (maxDischargeDepth := 60) [hs, goesCanon_ite, apply_ite State.regs, apply_dite State.regs, apply_ite RegsCanon, apply_dite RegsCanon, *]; done) | (have ho := State.offer_regsWf _ _ _ _ (by assumption) hs; simp (maxDischargeDepth := 60) [*]; done) | (have ho := State.take_regsWf _ _ _ _ (by assumption) hs; simp (maxDischargeDepth := 60) [*]; done) | ((try rw [goesCanon_next]); with_reducible (refine foldl_regsWf _ _ _ ?_ ?_) <;> (first | (intro s hs a; (repeat' split) <;> simp (maxDischargeDepth := 60) [*]; done) | simp (maxDischargeDepth := 60) [*]; done)))
@[simp] theorem State.tileLost_regsWf (s : State) (a : Fin 96) (cause : Nat) (hs : RegsCanon s.regs) : RegsCanon (State.tileLost s a cause).regs := by
  first
  | (simp (maxDischargeDepth := 60) [State.tileLost, hs, goesCanon_ite, apply_ite State.regs, apply_dite State.regs, apply_ite RegsCanon, apply_dite RegsCanon]; done)
  | (unfold State.tileLost; (try dsimp only); (repeat' split) <;> first | with_reducible exact hs | (simp (maxDischargeDepth := 60) [hs, goesCanon_ite, apply_ite State.regs, apply_dite State.regs, apply_ite RegsCanon, apply_dite RegsCanon, *]; done) | (simp +contextual (maxDischargeDepth := 60) [hs, goesCanon_ite, apply_ite State.regs, apply_dite State.regs, apply_ite RegsCanon, apply_dite RegsCanon, *]; done) | (have ho := State.offer_regsWf _ _ _ _ (by assumption) hs; simp (maxDischargeDepth := 60) [*]; done) | (have ho := State.take_regsWf _ _ _ _ (by assumption) hs; simp (maxDischargeDepth := 60) [*]; done) | ((try rw [goesCanon_next]); with_reducible (refine foldl_regsWf _ _ _ ?_ ?_) <;> (first | (intro s hs a; (repeat' split) <;> simp (maxDischargeDepth := 60) [*]; done) | simp (maxDischargeDepth := 60) [*]; done)))
@[simp] theorem State.portLost_regsWf (s : State) (p : Fin 32) (cause : Nat) (hs : RegsCanon s.regs) : RegsCanon (State.portLost s p cause).regs := by
  first
  | (simp (maxDischargeDepth := 60) [State.portLost, hs, goesCanon_ite, apply_ite State.regs, apply_dite State.regs, apply_ite RegsCanon, apply_dite RegsCanon]; done)
  | (unfold State.portLost; (try dsimp only); (repeat' split) <;> first | with_reducible exact hs | (simp (maxDischargeDepth := 60) [hs, goesCanon_ite, apply_ite State.regs, apply_dite State.regs, apply_ite RegsCanon, apply_dite RegsCanon, *]; done) | (simp +contextual (maxDischargeDepth := 60) [hs, goesCanon_ite, apply_ite State.regs, apply_dite State.regs, apply_ite RegsCanon, apply_dite RegsCanon, *]; done) | (have ho := State.offer_regsWf _ _ _ _ (by assumption) hs; simp (maxDischargeDepth := 60) [*]; done) | (have ho := State.take_regsWf _ _ _ _ (by assumption) hs; simp (maxDischargeDepth := 60) [*]; done) | ((try rw [goesCanon_next]); with_reducible (refine foldl_regsWf _ _ _ ?_ ?_) <;> (first | (intro s hs a; (repeat' split) <;> simp (maxDischargeDepth := 60) [*]; done) | simp (maxDischargeDepth := 60) [*]; done)))
@[simp] theorem State.referPort_regsWf (s : State) (p : Fin 32) (t : Nat) (hs : RegsCanon s.regs) : RegsCanon (State.referPort s p t).regs := by
  first
  | (simp (maxDischargeDepth := 60) [State.referPort, hs, goesCanon_ite, apply_ite State.regs, apply_dite State.regs, apply_ite RegsCanon, apply_dite RegsCanon]; done)
  | (unfold State.referPort; (try dsimp only); (repeat' split) <;> first | with_reducible exact hs | (simp (maxDischargeDepth := 60) [hs, goesCanon_ite, apply_ite State.regs, apply_dite State.regs, apply_ite RegsCanon, apply_dite RegsCanon, *]; done) | (simp +contextual (maxDischargeDepth := 60) [hs, goesCanon_ite, apply_ite State.regs, apply_dite State.regs, apply_ite RegsCanon, apply_dite RegsCanon, *]; done) | (have ho := State.offer_regsWf _ _ _ _ (by assumption) hs; simp (maxDischargeDepth := 60) [*]; done) | (have ho := State.take_regsWf _ _ _ _ (by assumption) hs; simp (maxDischargeDepth := 60) [*]; done) | ((try rw [goesCanon_next]); with_reducible (refine foldl_regsWf _ _ _ ?_ ?_) <;> (first | (intro s hs a; (repeat' split) <;> simp (maxDischargeDepth := 60) [*]; done) | simp (maxDischargeDepth := 60) [*]; done)))
@[simp] theorem State.indexEvent_regsWf (s : State) (p : Fin 32) (t : Nat) (hs : RegsCanon s.regs) : RegsCanon (State.indexEvent s p t).regs := by
  first
  | (simp (maxDischargeDepth := 60) [State.indexEvent, hs, goesCanon_ite, apply_ite State.regs, apply_dite State.regs, apply_ite RegsCanon, apply_dite RegsCanon]; done)
  | (unfold State.indexEvent; (try dsimp only); (repeat' split) <;> first | with_reducible exact hs | (simp (maxDischargeDepth := 60) [hs, goesCanon_ite, apply_ite State.regs, apply_dite State.regs, apply_ite RegsCanon, apply_dite RegsCanon, *]; done) | (simp +contextual (maxDischargeDepth := 60) [hs, goesCanon_ite, apply_ite State.regs, apply_dite State.regs, apply_ite RegsCanon, apply_dite RegsCanon, *]; done) | (have ho := State.offer_regsWf _ _ _ _ (by assumption) hs; simp (maxDischargeDepth := 60) [*]; done) | (have ho := State.take_regsWf _ _ _ _ (by assumption) hs; simp (maxDischargeDepth := 60) [*]; done) | ((try rw [goesCanon_next]); with_reducible (refine foldl_regsWf _ _ _ ?_ ?_) <;> (first | (intro s hs a; (repeat' split) <;> simp (maxDischargeDepth := 60) [*]; done) | simp (maxDischargeDepth := 60) [*]; done)))
@[simp] theorem State.sample_regsWf (s : State) (p : Fin 32) (a : Bool) (b : Bool) (z : Bool) (na : Nat) (nb : Nat) (nz : Nat) (t : Nat) (hs : RegsCanon s.regs) : RegsCanon (State.sample s p a b z na nb nz t).regs := by
  first
  | (simp (maxDischargeDepth := 60) [State.sample, hs, goesCanon_ite, apply_ite State.regs, apply_dite State.regs, apply_ite RegsCanon, apply_dite RegsCanon]; done)
  | (unfold State.sample; (try dsimp only); (repeat' split) <;> first | with_reducible exact hs | (simp (maxDischargeDepth := 60) [hs, goesCanon_ite, apply_ite State.regs, apply_dite State.regs, apply_ite RegsCanon, apply_dite RegsCanon, *]; done) | (simp +contextual (maxDischargeDepth := 60) [hs, goesCanon_ite, apply_ite State.regs, apply_dite State.regs, apply_ite RegsCanon, apply_dite RegsCanon, *]; done) | (have ho := State.offer_regsWf _ _ _ _ (by assumption) hs; simp (maxDischargeDepth := 60) [*]; done) | (have ho := State.take_regsWf _ _ _ _ (by assumption) hs; simp (maxDischargeDepth := 60) [*]; done) | ((try rw [goesCanon_next]); with_reducible (refine foldl_regsWf _ _ _ ?_ ?_) <;> (first | (intro s hs a; (repeat' split) <;> simp (maxDischargeDepth := 60) [*]; done) | simp (maxDischargeDepth := 60) [*]; done)))
@[simp] theorem State.testPort_regsWf (s : State) (p : Fin 32) (hs : RegsCanon s.regs) : RegsCanon (State.testPort s p).regs := by
  first
  | (simp (maxDischargeDepth := 60) [State.testPort, hs, goesCanon_ite, apply_ite State.regs, apply_dite State.regs, apply_ite RegsCanon, apply_dite RegsCanon]; done)
  | (unfold State.testPort; (try dsimp only); (repeat' split) <;> first | with_reducible exact hs | (simp (maxDischargeDepth := 60) [hs, goesCanon_ite, apply_ite State.regs, apply_dite State.regs, apply_ite RegsCanon, apply_dite RegsCanon, *]; done) | (simp +contextual (maxDischargeDepth := 60) [hs, goesCanon_ite, apply_ite State.regs, apply_dite State.regs, apply_ite RegsCanon, apply_dite RegsCanon, *]; done) | (have ho := State.offer_regsWf _ _ _ _ (by assumption) hs; simp (maxDischargeDepth := 60) [*]; done) | (have ho := State.take_regsWf _ _ _ _ (by assumption) hs; simp (maxDischargeDepth := 60) [*]; done) | ((try rw [goesCanon_next]); with_reducible (refine foldl_regsWf _ _ _ ?_ ?_) <;> (first | (intro s hs a; (repeat' split) <;> simp (maxDischargeDepth := 60) [*]; done) | simp (maxDischargeDepth := 60) [*]; done)))
@[simp] theorem State.portBack_regsWf (s : State) (p : Fin 32) (hs : RegsCanon s.regs) : RegsCanon (State.portBack s p).regs := by
  first
  | (simp (maxDischargeDepth := 60) [State.portBack, hs, goesCanon_ite, apply_ite State.regs, apply_dite State.regs, apply_ite RegsCanon, apply_dite RegsCanon]; done)
  | (unfold State.portBack; (try dsimp only); (repeat' split) <;> first | with_reducible exact hs | (simp (maxDischargeDepth := 60) [hs, goesCanon_ite, apply_ite State.regs, apply_dite State.regs, apply_ite RegsCanon, apply_dite RegsCanon, *]; done) | (simp +contextual (maxDischargeDepth := 60) [hs, goesCanon_ite, apply_ite State.regs, apply_dite State.regs, apply_ite RegsCanon, apply_dite RegsCanon, *]; done) | (have ho := State.offer_regsWf _ _ _ _ (by assumption) hs; simp (maxDischargeDepth := 60) [*]; done) | (have ho := State.take_regsWf _ _ _ _ (by assumption) hs; simp (maxDischargeDepth := 60) [*]; done) | ((try rw [goesCanon_next]); with_reducible (refine foldl_regsWf _ _ _ ?_ ?_) <;> (first | (intro s hs a; (repeat' split) <;> simp (maxDischargeDepth := 60) [*]; done) | simp (maxDischargeDepth := 60) [*]; done)))
@[simp] theorem State.trackFrozen_regsWf (s : State) (a : Fin 96) (count : Int) (hs : RegsCanon s.regs) : RegsCanon (State.trackFrozen s a count).regs := by
  first
  | (simp (maxDischargeDepth := 60) [State.trackFrozen, hs, goesCanon_ite, apply_ite State.regs, apply_dite State.regs, apply_ite RegsCanon, apply_dite RegsCanon]; done)
  | (unfold State.trackFrozen; (try dsimp only); (repeat' split) <;> first | with_reducible exact hs | (simp (maxDischargeDepth := 60) [hs, goesCanon_ite, apply_ite State.regs, apply_dite State.regs, apply_ite RegsCanon, apply_dite RegsCanon, *]; done) | (simp +contextual (maxDischargeDepth := 60) [hs, goesCanon_ite, apply_ite State.regs, apply_dite State.regs, apply_ite RegsCanon, apply_dite RegsCanon, *]; done) | (have ho := State.offer_regsWf _ _ _ _ (by assumption) hs; simp (maxDischargeDepth := 60) [*]; done) | (have ho := State.take_regsWf _ _ _ _ (by assumption) hs; simp (maxDischargeDepth := 60) [*]; done) | ((try rw [goesCanon_next]); with_reducible (refine foldl_regsWf _ _ _ ?_ ?_) <;> (first | (intro s hs a; (repeat' split) <;> simp (maxDischargeDepth := 60) [*]; done) | simp (maxDischargeDepth := 60) [*]; done)))
@[simp] theorem State.latchEst_regsWf (s : State) (p : Fin 32) (still : Nat) (hs : RegsCanon s.regs) : RegsCanon (State.latchEst s p still).regs := by
  first
  | (simp (maxDischargeDepth := 60) [State.latchEst, hs, goesCanon_ite, apply_ite State.regs, apply_dite State.regs, apply_ite RegsCanon, apply_dite RegsCanon]; done)
  | (unfold State.latchEst; (try dsimp only); (repeat' split) <;> first | with_reducible exact hs | (simp (maxDischargeDepth := 60) [hs, goesCanon_ite, apply_ite State.regs, apply_dite State.regs, apply_ite RegsCanon, apply_dite RegsCanon, *]; done) | (simp +contextual (maxDischargeDepth := 60) [hs, goesCanon_ite, apply_ite State.regs, apply_dite State.regs, apply_ite RegsCanon, apply_dite RegsCanon, *]; done) | (have ho := State.offer_regsWf _ _ _ _ (by assumption) hs; simp (maxDischargeDepth := 60) [*]; done) | (have ho := State.take_regsWf _ _ _ _ (by assumption) hs; simp (maxDischargeDepth := 60) [*]; done) | ((try rw [goesCanon_next]); with_reducible (refine foldl_regsWf _ _ _ ?_ ?_) <;> (first | (intro s hs a; (repeat' split) <;> simp (maxDischargeDepth := 60) [*]; done) | simp (maxDischargeDepth := 60) [*]; done)))
@[simp] theorem State.latchLocal_regsWf (s : State) (a : Fin 96) (p : Fin 32) (hs : RegsCanon s.regs) : RegsCanon (State.latchLocal s a p).regs := by
  first
  | (simp (maxDischargeDepth := 60) [State.latchLocal, hs, goesCanon_ite, apply_ite State.regs, apply_dite State.regs, apply_ite RegsCanon, apply_dite RegsCanon]; done)
  | (unfold State.latchLocal; (try dsimp only); (repeat' split) <;> first | with_reducible exact hs | (simp (maxDischargeDepth := 60) [hs, goesCanon_ite, apply_ite State.regs, apply_dite State.regs, apply_ite RegsCanon, apply_dite RegsCanon, *]; done) | (simp +contextual (maxDischargeDepth := 60) [hs, goesCanon_ite, apply_ite State.regs, apply_dite State.regs, apply_ite RegsCanon, apply_dite RegsCanon, *]; done) | (have ho := State.offer_regsWf _ _ _ _ (by assumption) hs; simp (maxDischargeDepth := 60) [*]; done) | (have ho := State.take_regsWf _ _ _ _ (by assumption) hs; simp (maxDischargeDepth := 60) [*]; done) | ((try rw [goesCanon_next]); with_reducible (refine foldl_regsWf _ _ _ ?_ ?_) <;> (first | (intro s hs a; (repeat' split) <;> simp (maxDischargeDepth := 60) [*]; done) | simp (maxDischargeDepth := 60) [*]; done)))
@[simp] theorem State.latchRemote_regsWf (s : State) (a : Fin 96) (hs : RegsCanon s.regs) : RegsCanon (State.latchRemote s a).regs := by
  first
  | (simp (maxDischargeDepth := 60) [State.latchRemote, hs, goesCanon_ite, apply_ite State.regs, apply_dite State.regs, apply_ite RegsCanon, apply_dite RegsCanon]; done)
  | (unfold State.latchRemote; (try dsimp only); (repeat' split) <;> first | with_reducible exact hs | (simp (maxDischargeDepth := 60) [hs, goesCanon_ite, apply_ite State.regs, apply_dite State.regs, apply_ite RegsCanon, apply_dite RegsCanon, *]; done) | (simp +contextual (maxDischargeDepth := 60) [hs, goesCanon_ite, apply_ite State.regs, apply_dite State.regs, apply_ite RegsCanon, apply_dite RegsCanon, *]; done) | (have ho := State.offer_regsWf _ _ _ _ (by assumption) hs; simp (maxDischargeDepth := 60) [*]; done) | (have ho := State.take_regsWf _ _ _ _ (by assumption) hs; simp (maxDischargeDepth := 60) [*]; done) | ((try rw [goesCanon_next]); with_reducible (refine foldl_regsWf _ _ _ ?_ ?_) <;> (first | (intro s hs a; (repeat' split) <;> simp (maxDischargeDepth := 60) [*]; done) | simp (maxDischargeDepth := 60) [*]; done)))
@[simp] theorem State.testRemote_regsWf (s : State) (a : Fin 96) (hs : RegsCanon s.regs) : RegsCanon (State.testRemote s a).regs := by
  first
  | (simp (maxDischargeDepth := 60) [State.testRemote, hs, goesCanon_ite, apply_ite State.regs, apply_dite State.regs, apply_ite RegsCanon, apply_dite RegsCanon]; done)
  | (unfold State.testRemote; (try dsimp only); (repeat' split) <;> first | with_reducible exact hs | (simp (maxDischargeDepth := 60) [hs, goesCanon_ite, apply_ite State.regs, apply_dite State.regs, apply_ite RegsCanon, apply_dite RegsCanon, *]; done) | (simp +contextual (maxDischargeDepth := 60) [hs, goesCanon_ite, apply_ite State.regs, apply_dite State.regs, apply_ite RegsCanon, apply_dite RegsCanon, *]; done) | (have ho := State.offer_regsWf _ _ _ _ (by assumption) hs; simp (maxDischargeDepth := 60) [*]; done) | (have ho := State.take_regsWf _ _ _ _ (by assumption) hs; simp (maxDischargeDepth := 60) [*]; done) | ((try rw [goesCanon_next]); with_reducible (refine foldl_regsWf _ _ _ ?_ ?_) <;> (first | (intro s hs a; (repeat' split) <;> simp (maxDischargeDepth := 60) [*]; done) | simp (maxDischargeDepth := 60) [*]; done)))
@[simp] theorem State.latchTile_regsWf (s : State) (a : Fin 96) (hs : RegsCanon s.regs) : RegsCanon (State.latchTile s a).regs := by
  first
  | (simp (maxDischargeDepth := 60) [State.latchTile, hs, goesCanon_ite, apply_ite State.regs, apply_dite State.regs, apply_ite RegsCanon, apply_dite RegsCanon]; done)
  | (unfold State.latchTile; (try dsimp only); (repeat' split) <;> first | with_reducible exact hs | (simp (maxDischargeDepth := 60) [hs, goesCanon_ite, apply_ite State.regs, apply_dite State.regs, apply_ite RegsCanon, apply_dite RegsCanon, *]; done) | (simp +contextual (maxDischargeDepth := 60) [hs, goesCanon_ite, apply_ite State.regs, apply_dite State.regs, apply_ite RegsCanon, apply_dite RegsCanon, *]; done) | (have ho := State.offer_regsWf _ _ _ _ (by assumption) hs; simp (maxDischargeDepth := 60) [*]; done) | (have ho := State.take_regsWf _ _ _ _ (by assumption) hs; simp (maxDischargeDepth := 60) [*]; done) | ((try rw [goesCanon_next]); with_reducible (refine foldl_regsWf _ _ _ ?_ ?_) <;> (first | (intro s hs a; (repeat' split) <;> simp (maxDischargeDepth := 60) [*]; done) | simp (maxDischargeDepth := 60) [*]; done)))
@[simp] theorem State.latchPort_regsWf (s : State) (p : Fin 32) (hs : RegsCanon s.regs) : RegsCanon (State.latchPort s p).regs := by
  first
  | (simp (maxDischargeDepth := 60) [State.latchPort, hs, goesCanon_ite, apply_ite State.regs, apply_dite State.regs, apply_ite RegsCanon, apply_dite RegsCanon]; done)
  | (unfold State.latchPort; (try dsimp only); (repeat' split) <;> first | with_reducible exact hs | (simp (maxDischargeDepth := 60) [hs, goesCanon_ite, apply_ite State.regs, apply_dite State.regs, apply_ite RegsCanon, apply_dite RegsCanon, *]; done) | (simp +contextual (maxDischargeDepth := 60) [hs, goesCanon_ite, apply_ite State.regs, apply_dite State.regs, apply_ite RegsCanon, apply_dite RegsCanon, *]; done) | (have ho := State.offer_regsWf _ _ _ _ (by assumption) hs; simp (maxDischargeDepth := 60) [*]; done) | (have ho := State.take_regsWf _ _ _ _ (by assumption) hs; simp (maxDischargeDepth := 60) [*]; done) | ((try rw [goesCanon_next]); with_reducible (refine foldl_regsWf _ _ _ ?_ ?_) <;> (first | (intro s hs a; (repeat' split) <;> simp (maxDischargeDepth := 60) [*]; done) | simp (maxDischargeDepth := 60) [*]; done)))
@[simp] theorem State.initPort_regsWf (s : State) (p : Fin 32) (hs : RegsCanon s.regs) : RegsCanon (State.initPort s p).regs := by
  first
  | (simp (maxDischargeDepth := 60) [State.initPort, hs, goesCanon_ite, apply_ite State.regs, apply_dite State.regs, apply_ite RegsCanon, apply_dite RegsCanon]; done)
  | (unfold State.initPort; (try dsimp only); (repeat' split) <;> first | with_reducible exact hs | (simp (maxDischargeDepth := 60) [hs, goesCanon_ite, apply_ite State.regs, apply_dite State.regs, apply_ite RegsCanon, apply_dite RegsCanon, *]; done) | (simp +contextual (maxDischargeDepth := 60) [hs, goesCanon_ite, apply_ite State.regs, apply_dite State.regs, apply_ite RegsCanon, apply_dite RegsCanon, *]; done) | (have ho := State.offer_regsWf _ _ _ _ (by assumption) hs; simp (maxDischargeDepth := 60) [*]; done) | (have ho := State.take_regsWf _ _ _ _ (by assumption) hs; simp (maxDischargeDepth := 60) [*]; done) | ((try rw [goesCanon_next]); with_reducible (refine foldl_regsWf _ _ _ ?_ ?_) <;> (first | (intro s hs a; (repeat' split) <;> simp (maxDischargeDepth := 60) [*]; done) | simp (maxDischargeDepth := 60) [*]; done)))
@[simp] theorem execFbCountEdge_goesCanon (p : Fin 32) (a : Bool) (b : Bool) (z : Bool) (na : Nat) (nb : Nat) (nz : Nat) (t : Nat) (s : State) (hs : RegsCanon s.regs) : goesCanon (execFbCountEdge p a b z na nb nz t s) := by
  first
  | (simp (maxDischargeDepth := 60) [execFbCountEdge, hs, goesCanon_ite, apply_ite State.regs, apply_dite State.regs, apply_ite RegsCanon, apply_dite RegsCanon]; done)
  | (unfold execFbCountEdge; (try dsimp only); (repeat' split) <;> first | with_reducible exact hs | (simp (maxDischargeDepth := 60) [hs, goesCanon_ite, apply_ite State.regs, apply_dite State.regs, apply_ite RegsCanon, apply_dite RegsCanon, *]; done) | (simp +contextual (maxDischargeDepth := 60) [hs, goesCanon_ite, apply_ite State.regs, apply_dite State.regs, apply_ite RegsCanon, apply_dite RegsCanon, *]; done) | (have ho := State.offer_regsWf _ _ _ _ (by assumption) hs; simp (maxDischargeDepth := 60) [*]; done) | (have ho := State.take_regsWf _ _ _ _ (by assumption) hs; simp (maxDischargeDepth := 60) [*]; done) | ((try rw [goesCanon_next]); with_reducible (refine foldl_regsWf _ _ _ ?_ ?_) <;> (first | (intro s hs a; (repeat' split) <;> simp (maxDischargeDepth := 60) [*]; done) | simp (maxDischargeDepth := 60) [*]; done)))
@[simp] theorem execFbIllegalEdge_goesCanon (p : Fin 32) (a : Bool) (b : Bool) (z : Bool) (na : Nat) (nb : Nat) (nz : Nat) (t : Nat) (s : State) (hs : RegsCanon s.regs) : goesCanon (execFbIllegalEdge p a b z na nb nz t s) := by
  first
  | (simp (maxDischargeDepth := 60) [execFbIllegalEdge, hs, goesCanon_ite, apply_ite State.regs, apply_dite State.regs, apply_ite RegsCanon, apply_dite RegsCanon]; done)
  | (unfold execFbIllegalEdge; (try dsimp only); (repeat' split) <;> first | with_reducible exact hs | (simp (maxDischargeDepth := 60) [hs, goesCanon_ite, apply_ite State.regs, apply_dite State.regs, apply_ite RegsCanon, apply_dite RegsCanon, *]; done) | (simp +contextual (maxDischargeDepth := 60) [hs, goesCanon_ite, apply_ite State.regs, apply_dite State.regs, apply_ite RegsCanon, apply_dite RegsCanon, *]; done) | (have ho := State.offer_regsWf _ _ _ _ (by assumption) hs; simp (maxDischargeDepth := 60) [*]; done) | (have ho := State.take_regsWf _ _ _ _ (by assumption) hs; simp (maxDischargeDepth := 60) [*]; done) | ((try rw [goesCanon_next]); with_reducible (refine foldl_regsWf _ _ _ ?_ ?_) <;> (first | (intro s hs a; (repeat' split) <;> simp (maxDischargeDepth := 60) [*]; done) | simp (maxDischargeDepth := 60) [*]; done)))
@[simp] theorem execIllegalBurst_goesCanon (p : Fin 32) (s : State) (hs : RegsCanon s.regs) : goesCanon (execIllegalBurst p s) := by
  first
  | (simp (maxDischargeDepth := 60) [execIllegalBurst, hs, goesCanon_ite, apply_ite State.regs, apply_dite State.regs, apply_ite RegsCanon, apply_dite RegsCanon]; done)
  | (unfold execIllegalBurst; (try dsimp only); (repeat' split) <;> first | with_reducible exact hs | (simp (maxDischargeDepth := 60) [hs, goesCanon_ite, apply_ite State.regs, apply_dite State.regs, apply_ite RegsCanon, apply_dite RegsCanon, *]; done) | (simp +contextual (maxDischargeDepth := 60) [hs, goesCanon_ite, apply_ite State.regs, apply_dite State.regs, apply_ite RegsCanon, apply_dite RegsCanon, *]; done) | (have ho := State.offer_regsWf _ _ _ _ (by assumption) hs; simp (maxDischargeDepth := 60) [*]; done) | (have ho := State.take_regsWf _ _ _ _ (by assumption) hs; simp (maxDischargeDepth := 60) [*]; done) | ((try rw [goesCanon_next]); with_reducible (refine foldl_regsWf _ _ _ ?_ ?_) <;> (first | (intro s hs a; (repeat' split) <;> simp (maxDischargeDepth := 60) [*]; done) | simp (maxDischargeDepth := 60) [*]; done)))
@[simp] theorem execSsiFrame_goesCanon (p : Fin 32) (bits : List Bool) (startHigh : Bool) (stopLow : Bool) (t : Nat) (s : State) (hs : RegsCanon s.regs) : goesCanon (execSsiFrame p bits startHigh stopLow t s) := by
  first
  | (simp (maxDischargeDepth := 60) [execSsiFrame, hs, goesCanon_ite, apply_ite State.regs, apply_dite State.regs, apply_ite RegsCanon, apply_dite RegsCanon]; done)
  | (unfold execSsiFrame; (try dsimp only); (repeat' split) <;> first | with_reducible exact hs | (simp (maxDischargeDepth := 60) [hs, goesCanon_ite, apply_ite State.regs, apply_dite State.regs, apply_ite RegsCanon, apply_dite RegsCanon, *]; done) | (simp +contextual (maxDischargeDepth := 60) [hs, goesCanon_ite, apply_ite State.regs, apply_dite State.regs, apply_ite RegsCanon, apply_dite RegsCanon, *]; done) | (have ho := State.offer_regsWf _ _ _ _ (by assumption) hs; simp (maxDischargeDepth := 60) [*]; done) | (have ho := State.take_regsWf _ _ _ _ (by assumption) hs; simp (maxDischargeDepth := 60) [*]; done) | ((try rw [goesCanon_next]); with_reducible (refine foldl_regsWf _ _ _ ?_ ?_) <;> (first | (intro s hs a; (repeat' split) <;> simp (maxDischargeDepth := 60) [*]; done) | simp (maxDischargeDepth := 60) [*]; done)))
@[simp] theorem execSsiLost_goesCanon (p : Fin 32) (s : State) (hs : RegsCanon s.regs) : goesCanon (execSsiLost p s) := by
  first
  | (simp (maxDischargeDepth := 60) [execSsiLost, hs, goesCanon_ite, apply_ite State.regs, apply_dite State.regs, apply_ite RegsCanon, apply_dite RegsCanon]; done)
  | (unfold execSsiLost; (try dsimp only); (repeat' split) <;> first | with_reducible exact hs | (simp (maxDischargeDepth := 60) [hs, goesCanon_ite, apply_ite State.regs, apply_dite State.regs, apply_ite RegsCanon, apply_dite RegsCanon, *]; done) | (simp +contextual (maxDischargeDepth := 60) [hs, goesCanon_ite, apply_ite State.regs, apply_dite State.regs, apply_ite RegsCanon, apply_dite RegsCanon, *]; done) | (have ho := State.offer_regsWf _ _ _ _ (by assumption) hs; simp (maxDischargeDepth := 60) [*]; done) | (have ho := State.take_regsWf _ _ _ _ (by assumption) hs; simp (maxDischargeDepth := 60) [*]; done) | ((try rw [goesCanon_next]); with_reducible (refine foldl_regsWf _ _ _ ?_ ?_) <;> (first | (intro s hs a; (repeat' split) <;> simp (maxDischargeDepth := 60) [*]; done) | simp (maxDischargeDepth := 60) [*]; done)))
@[simp] theorem execHallInvalid_goesCanon (p : Fin 32) (t : Nat) (s : State) (hs : RegsCanon s.regs) : goesCanon (execHallInvalid p t s) := by
  first
  | (simp (maxDischargeDepth := 60) [execHallInvalid, hs, goesCanon_ite, apply_ite State.regs, apply_dite State.regs, apply_ite RegsCanon, apply_dite RegsCanon]; done)
  | (unfold execHallInvalid; (try dsimp only); (repeat' split) <;> first | with_reducible exact hs | (simp (maxDischargeDepth := 60) [hs, goesCanon_ite, apply_ite State.regs, apply_dite State.regs, apply_ite RegsCanon, apply_dite RegsCanon, *]; done) | (simp +contextual (maxDischargeDepth := 60) [hs, goesCanon_ite, apply_ite State.regs, apply_dite State.regs, apply_ite RegsCanon, apply_dite RegsCanon, *]; done) | (have ho := State.offer_regsWf _ _ _ _ (by assumption) hs; simp (maxDischargeDepth := 60) [*]; done) | (have ho := State.take_regsWf _ _ _ _ (by assumption) hs; simp (maxDischargeDepth := 60) [*]; done) | ((try rw [goesCanon_next]); with_reducible (refine foldl_regsWf _ _ _ ?_ ?_) <;> (first | (intro s hs a; (repeat' split) <;> simp (maxDischargeDepth := 60) [*]; done) | simp (maxDischargeDepth := 60) [*]; done)))
@[simp] theorem execWireBreak_goesCanon (p : Fin 32) (low : Bool) (stood : Nat) (t : Nat) (s : State) (hs : RegsCanon s.regs) : goesCanon (execWireBreak p low stood t s) := by
  first
  | (simp (maxDischargeDepth := 60) [execWireBreak, hs, goesCanon_ite, apply_ite State.regs, apply_dite State.regs, apply_ite RegsCanon, apply_dite RegsCanon]; done)
  | (unfold execWireBreak; (try dsimp only); (repeat' split) <;> first | with_reducible exact hs | (simp (maxDischargeDepth := 60) [hs, goesCanon_ite, apply_ite State.regs, apply_dite State.regs, apply_ite RegsCanon, apply_dite RegsCanon, *]; done) | (simp +contextual (maxDischargeDepth := 60) [hs, goesCanon_ite, apply_ite State.regs, apply_dite State.regs, apply_ite RegsCanon, apply_dite RegsCanon, *]; done) | (have ho := State.offer_regsWf _ _ _ _ (by assumption) hs; simp (maxDischargeDepth := 60) [*]; done) | (have ho := State.take_regsWf _ _ _ _ (by assumption) hs; simp (maxDischargeDepth := 60) [*]; done) | ((try rw [goesCanon_next]); with_reducible (refine foldl_regsWf _ _ _ ?_ ?_) <;> (first | (intro s hs a; (repeat' split) <;> simp (maxDischargeDepth := 60) [*]; done) | simp (maxDischargeDepth := 60) [*]; done)))
@[simp] theorem execRemoteAged_goesCanon (a : Fin 96) (s : State) (hs : RegsCanon s.regs) : goesCanon (execRemoteAged a s) := by
  first
  | (simp (maxDischargeDepth := 60) [execRemoteAged, hs, goesCanon_ite, apply_ite State.regs, apply_dite State.regs, apply_ite RegsCanon, apply_dite RegsCanon]; done)
  | (unfold execRemoteAged; (try dsimp only); (repeat' split) <;> first | with_reducible exact hs | (simp (maxDischargeDepth := 60) [hs, goesCanon_ite, apply_ite State.regs, apply_dite State.regs, apply_ite RegsCanon, apply_dite RegsCanon, *]; done) | (simp +contextual (maxDischargeDepth := 60) [hs, goesCanon_ite, apply_ite State.regs, apply_dite State.regs, apply_ite RegsCanon, apply_dite RegsCanon, *]; done) | (have ho := State.offer_regsWf _ _ _ _ (by assumption) hs; simp (maxDischargeDepth := 60) [*]; done) | (have ho := State.take_regsWf _ _ _ _ (by assumption) hs; simp (maxDischargeDepth := 60) [*]; done) | ((try rw [goesCanon_next]); with_reducible (refine foldl_regsWf _ _ _ ?_ ?_) <;> (first | (intro s hs a; (repeat' split) <;> simp (maxDischargeDepth := 60) [*]; done) | simp (maxDischargeDepth := 60) [*]; done)))
@[simp] theorem execFbFrozen_goesCanon (a : Fin 96) (s : State) (hs : RegsCanon s.regs) : goesCanon (execFbFrozen a s) := by
  first
  | (simp (maxDischargeDepth := 60) [execFbFrozen, hs, goesCanon_ite, apply_ite State.regs, apply_dite State.regs, apply_ite RegsCanon, apply_dite RegsCanon]; done)
  | (unfold execFbFrozen; (try dsimp only); (repeat' split) <;> first | with_reducible exact hs | (simp (maxDischargeDepth := 60) [hs, goesCanon_ite, apply_ite State.regs, apply_dite State.regs, apply_ite RegsCanon, apply_dite RegsCanon, *]; done) | (simp +contextual (maxDischargeDepth := 60) [hs, goesCanon_ite, apply_ite State.regs, apply_dite State.regs, apply_ite RegsCanon, apply_dite RegsCanon, *]; done) | (have ho := State.offer_regsWf _ _ _ _ (by assumption) hs; simp (maxDischargeDepth := 60) [*]; done) | (have ho := State.take_regsWf _ _ _ _ (by assumption) hs; simp (maxDischargeDepth := 60) [*]; done) | ((try rw [goesCanon_next]); with_reducible (refine foldl_regsWf _ _ _ ?_ ?_) <;> (first | (intro s hs a; (repeat' split) <;> simp (maxDischargeDepth := 60) [*]; done) | simp (maxDischargeDepth := 60) [*]; done)))
@[simp] theorem State.sourceBack_regsWf (s : State) (a : Fin 96) (hs : RegsCanon s.regs) : RegsCanon (State.sourceBack s a).regs := by
  first
  | (simp (maxDischargeDepth := 60) [State.sourceBack, hs, goesCanon_ite, apply_ite State.regs, apply_dite State.regs, apply_ite RegsCanon, apply_dite RegsCanon]; done)
  | (unfold State.sourceBack; (try dsimp only); (repeat' split) <;> first | with_reducible exact hs | (simp (maxDischargeDepth := 60) [hs, goesCanon_ite, apply_ite State.regs, apply_dite State.regs, apply_ite RegsCanon, apply_dite RegsCanon, *]; done) | (simp +contextual (maxDischargeDepth := 60) [hs, goesCanon_ite, apply_ite State.regs, apply_dite State.regs, apply_ite RegsCanon, apply_dite RegsCanon, *]; done) | (have ho := State.offer_regsWf _ _ _ _ (by assumption) hs; simp (maxDischargeDepth := 60) [*]; done) | (have ho := State.take_regsWf _ _ _ _ (by assumption) hs; simp (maxDischargeDepth := 60) [*]; done) | ((try rw [goesCanon_next]); with_reducible (refine foldl_regsWf _ _ _ ?_ ?_) <;> (first | (intro s hs a; (repeat' split) <;> simp (maxDischargeDepth := 60) [*]; done) | simp (maxDischargeDepth := 60) [*]; done)))
@[simp] theorem State.clearLost_regsWf (s : State) (a : Fin 96) (hs : RegsCanon s.regs) : RegsCanon (State.clearLost s a).regs := by
  first
  | (simp (maxDischargeDepth := 60) [State.clearLost, hs, goesCanon_ite, apply_ite State.regs, apply_dite State.regs, apply_ite RegsCanon, apply_dite RegsCanon]; done)
  | (unfold State.clearLost; (try dsimp only); (repeat' split) <;> first | with_reducible exact hs | (simp (maxDischargeDepth := 60) [hs, goesCanon_ite, apply_ite State.regs, apply_dite State.regs, apply_ite RegsCanon, apply_dite RegsCanon, *]; done) | (simp +contextual (maxDischargeDepth := 60) [hs, goesCanon_ite, apply_ite State.regs, apply_dite State.regs, apply_ite RegsCanon, apply_dite RegsCanon, *]; done) | (have ho := State.offer_regsWf _ _ _ _ (by assumption) hs; simp (maxDischargeDepth := 60) [*]; done) | (have ho := State.take_regsWf _ _ _ _ (by assumption) hs; simp (maxDischargeDepth := 60) [*]; done) | ((try rw [goesCanon_next]); with_reducible (refine foldl_regsWf _ _ _ ?_ ?_) <;> (first | (intro s hs a; (repeat' split) <;> simp (maxDischargeDepth := 60) [*]; done) | simp (maxDischargeDepth := 60) [*]; done)))
@[simp] theorem State.clearFrozen_regsWf (s : State) (a : Fin 96) (hs : RegsCanon s.regs) : RegsCanon (State.clearFrozen s a).regs := by
  first
  | (simp (maxDischargeDepth := 60) [State.clearFrozen, hs, goesCanon_ite, apply_ite State.regs, apply_dite State.regs, apply_ite RegsCanon, apply_dite RegsCanon]; done)
  | (unfold State.clearFrozen; (try dsimp only); (repeat' split) <;> first | with_reducible exact hs | (simp (maxDischargeDepth := 60) [hs, goesCanon_ite, apply_ite State.regs, apply_dite State.regs, apply_ite RegsCanon, apply_dite RegsCanon, *]; done) | (simp +contextual (maxDischargeDepth := 60) [hs, goesCanon_ite, apply_ite State.regs, apply_dite State.regs, apply_ite RegsCanon, apply_dite RegsCanon, *]; done) | (have ho := State.offer_regsWf _ _ _ _ (by assumption) hs; simp (maxDischargeDepth := 60) [*]; done) | (have ho := State.take_regsWf _ _ _ _ (by assumption) hs; simp (maxDischargeDepth := 60) [*]; done) | ((try rw [goesCanon_next]); with_reducible (refine foldl_regsWf _ _ _ ?_ ?_) <;> (first | (intro s hs a; (repeat' split) <;> simp (maxDischargeDepth := 60) [*]; done) | simp (maxDischargeDepth := 60) [*]; done)))
@[simp] theorem State.clearTile_regsWf (s : State) (a : Fin 96) (value : Word) (hs : RegsCanon s.regs) : RegsCanon (State.clearTile s a value).regs := by
  first
  | (simp (maxDischargeDepth := 60) [State.clearTile, hs, goesCanon_ite, apply_ite State.regs, apply_dite State.regs, apply_ite RegsCanon, apply_dite RegsCanon]; done)
  | (unfold State.clearTile; (try dsimp only); (repeat' split) <;> first | with_reducible exact hs | (simp (maxDischargeDepth := 60) [hs, goesCanon_ite, apply_ite State.regs, apply_dite State.regs, apply_ite RegsCanon, apply_dite RegsCanon, *]; done) | (simp +contextual (maxDischargeDepth := 60) [hs, goesCanon_ite, apply_ite State.regs, apply_dite State.regs, apply_ite RegsCanon, apply_dite RegsCanon, *]; done) | (have ho := State.offer_regsWf _ _ _ _ (by assumption) hs; simp (maxDischargeDepth := 60) [*]; done) | (have ho := State.take_regsWf _ _ _ _ (by assumption) hs; simp (maxDischargeDepth := 60) [*]; done) | ((try rw [goesCanon_next]); with_reducible (refine foldl_regsWf _ _ _ ?_ ?_) <;> (first | (intro s hs a; (repeat' split) <;> simp (maxDischargeDepth := 60) [*]; done) | simp (maxDischargeDepth := 60) [*]; done)))
@[simp] theorem State.clearPort_regsWf (s : State) (p : Fin 32) (value : Word) (hs : RegsCanon s.regs) : RegsCanon (State.clearPort s p value).regs := by
  first
  | (simp (maxDischargeDepth := 60) [State.clearPort, hs, goesCanon_ite, apply_ite State.regs, apply_dite State.regs, apply_ite RegsCanon, apply_dite RegsCanon]; done)
  | (unfold State.clearPort; (try dsimp only); (repeat' split) <;> first | with_reducible exact hs | (simp (maxDischargeDepth := 60) [hs, goesCanon_ite, apply_ite State.regs, apply_dite State.regs, apply_ite RegsCanon, apply_dite RegsCanon, *]; done) | (simp +contextual (maxDischargeDepth := 60) [hs, goesCanon_ite, apply_ite State.regs, apply_dite State.regs, apply_ite RegsCanon, apply_dite RegsCanon, *]; done) | (have ho := State.offer_regsWf _ _ _ _ (by assumption) hs; simp (maxDischargeDepth := 60) [*]; done) | (have ho := State.take_regsWf _ _ _ _ (by assumption) hs; simp (maxDischargeDepth := 60) [*]; done) | ((try rw [goesCanon_next]); with_reducible (refine foldl_regsWf _ _ _ ?_ ?_) <;> (first | (intro s hs a; (repeat' split) <;> simp (maxDischargeDepth := 60) [*]; done) | simp (maxDischargeDepth := 60) [*]; done)))
@[simp] theorem execFbLostClear_goesCanon (target : FbTarget) (value : Word) (s : State) (hs : RegsCanon s.regs) : goesCanon (execFbLostClear target value s) := by
  first
  | (simp (maxDischargeDepth := 60) [execFbLostClear, hs, goesCanon_ite, apply_ite State.regs, apply_dite State.regs, apply_ite RegsCanon, apply_dite RegsCanon]; done)
  | (unfold execFbLostClear; (try dsimp only); (repeat' split) <;> first | with_reducible exact hs | (simp (maxDischargeDepth := 60) [hs, goesCanon_ite, apply_ite State.regs, apply_dite State.regs, apply_ite RegsCanon, apply_dite RegsCanon, *]; done) | (simp +contextual (maxDischargeDepth := 60) [hs, goesCanon_ite, apply_ite State.regs, apply_dite State.regs, apply_ite RegsCanon, apply_dite RegsCanon, *]; done) | (have ho := State.offer_regsWf _ _ _ _ (by assumption) hs; simp (maxDischargeDepth := 60) [*]; done) | (have ho := State.take_regsWf _ _ _ _ (by assumption) hs; simp (maxDischargeDepth := 60) [*]; done) | ((try rw [goesCanon_next]); with_reducible (refine foldl_regsWf _ _ _ ?_ ?_) <;> (first | (intro s hs a; (repeat' split) <;> simp (maxDischargeDepth := 60) [*]; done) | simp (maxDischargeDepth := 60) [*]; done)))
@[simp] theorem execIndexEvent_goesCanon (p : Fin 32) (a : Bool) (b : Bool) (z : Bool) (na : Nat) (nb : Nat) (nz : Nat) (t : Nat) (s : State) (hs : RegsCanon s.regs) : goesCanon (execIndexEvent p a b z na nb nz t s) := by
  first
  | (simp (maxDischargeDepth := 60) [execIndexEvent, hs, goesCanon_ite, apply_ite State.regs, apply_dite State.regs, apply_ite RegsCanon, apply_dite RegsCanon]; done)
  | (unfold execIndexEvent; (try dsimp only); (repeat' split) <;> first | with_reducible exact hs | (simp (maxDischargeDepth := 60) [hs, goesCanon_ite, apply_ite State.regs, apply_dite State.regs, apply_ite RegsCanon, apply_dite RegsCanon, *]; done) | (simp +contextual (maxDischargeDepth := 60) [hs, goesCanon_ite, apply_ite State.regs, apply_dite State.regs, apply_ite RegsCanon, apply_dite RegsCanon, *]; done) | (have ho := State.offer_regsWf _ _ _ _ (by assumption) hs; simp (maxDischargeDepth := 60) [*]; done) | (have ho := State.take_regsWf _ _ _ _ (by assumption) hs; simp (maxDischargeDepth := 60) [*]; done) | ((try rw [goesCanon_next]); with_reducible (refine foldl_regsWf _ _ _ ?_ ?_) <;> (first | (intro s hs a; (repeat' split) <;> simp (maxDischargeDepth := 60) [*]; done) | simp (maxDischargeDepth := 60) [*]; done)))
@[simp] theorem execWheelJump_goesCanon (t : Nat) (s : State) (hs : RegsCanon s.regs) : goesCanon (execWheelJump t s) := by
  first
  | (simp (maxDischargeDepth := 60) [execWheelJump, hs, goesCanon_ite, apply_ite State.regs, apply_dite State.regs, apply_ite RegsCanon, apply_dite RegsCanon]; done)
  | (unfold execWheelJump; (try dsimp only); (repeat' split) <;> first | with_reducible exact hs | (simp (maxDischargeDepth := 60) [hs, goesCanon_ite, apply_ite State.regs, apply_dite State.regs, apply_ite RegsCanon, apply_dite RegsCanon, *]; done) | (simp +contextual (maxDischargeDepth := 60) [hs, goesCanon_ite, apply_ite State.regs, apply_dite State.regs, apply_ite RegsCanon, apply_dite RegsCanon, *]; done) | (have ho := State.offer_regsWf _ _ _ _ (by assumption) hs; simp (maxDischargeDepth := 60) [*]; done) | (have ho := State.take_regsWf _ _ _ _ (by assumption) hs; simp (maxDischargeDepth := 60) [*]; done) | ((try rw [goesCanon_next]); with_reducible (refine foldl_regsWf _ _ _ ?_ ?_) <;> (first | (intro s hs a; (repeat' split) <;> simp (maxDischargeDepth := 60) [*]; done) | simp (maxDischargeDepth := 60) [*]; done)))
@[simp] theorem execFbIndexMissing_goesCanon (p : Fin 32) (s : State) (hs : RegsCanon s.regs) : goesCanon (execFbIndexMissing p s) := by
  first
  | (simp (maxDischargeDepth := 60) [execFbIndexMissing, hs, goesCanon_ite, apply_ite State.regs, apply_dite State.regs, apply_ite RegsCanon, apply_dite RegsCanon]; done)
  | (unfold execFbIndexMissing; (try dsimp only); (repeat' split) <;> first | with_reducible exact hs | (simp (maxDischargeDepth := 60) [hs, goesCanon_ite, apply_ite State.regs, apply_dite State.regs, apply_ite RegsCanon, apply_dite RegsCanon, *]; done) | (simp +contextual (maxDischargeDepth := 60) [hs, goesCanon_ite, apply_ite State.regs, apply_dite State.regs, apply_ite RegsCanon, apply_dite RegsCanon, *]; done) | (have ho := State.offer_regsWf _ _ _ _ (by assumption) hs; simp (maxDischargeDepth := 60) [*]; done) | (have ho := State.take_regsWf _ _ _ _ (by assumption) hs; simp (maxDischargeDepth := 60) [*]; done) | ((try rw [goesCanon_next]); with_reducible (refine foldl_regsWf _ _ _ ?_ ?_) <;> (first | (intro s hs a; (repeat' split) <;> simp (maxDischargeDepth := 60) [*]; done) | simp (maxDischargeDepth := 60) [*]; done)))
@[simp] theorem execRefArm_goesCanon (p : Fin 32) (s : State) (hs : RegsCanon s.regs) : goesCanon (execRefArm p s) := by
  first
  | (simp (maxDischargeDepth := 60) [execRefArm, hs, goesCanon_ite, apply_ite State.regs, apply_dite State.regs, apply_ite RegsCanon, apply_dite RegsCanon]; done)
  | (unfold execRefArm; (try dsimp only); (repeat' split) <;> first | with_reducible exact hs | (simp (maxDischargeDepth := 60) [hs, goesCanon_ite, apply_ite State.regs, apply_dite State.regs, apply_ite RegsCanon, apply_dite RegsCanon, *]; done) | (simp +contextual (maxDischargeDepth := 60) [hs, goesCanon_ite, apply_ite State.regs, apply_dite State.regs, apply_ite RegsCanon, apply_dite RegsCanon, *]; done) | (have ho := State.offer_regsWf _ _ _ _ (by assumption) hs; simp (maxDischargeDepth := 60) [*]; done) | (have ho := State.take_regsWf _ _ _ _ (by assumption) hs; simp (maxDischargeDepth := 60) [*]; done) | ((try rw [goesCanon_next]); with_reducible (refine foldl_regsWf _ _ _ ?_ ?_) <;> (first | (intro s hs a; (repeat' split) <;> simp (maxDischargeDepth := 60) [*]; done) | simp (maxDischargeDepth := 60) [*]; done)))
@[simp] theorem execStandstill_goesCanon (a : Fin 96) (t : Nat) (s : State) (hs : RegsCanon s.regs) : goesCanon (execStandstill a t s) := by
  first
  | (simp (maxDischargeDepth := 60) [execStandstill, hs, goesCanon_ite, apply_ite State.regs, apply_dite State.regs, apply_ite RegsCanon, apply_dite RegsCanon]; done)
  | (unfold execStandstill; (try dsimp only); (repeat' split) <;> first | with_reducible exact hs | (simp (maxDischargeDepth := 60) [hs, goesCanon_ite, apply_ite State.regs, apply_dite State.regs, apply_ite RegsCanon, apply_dite RegsCanon, *]; done) | (simp +contextual (maxDischargeDepth := 60) [hs, goesCanon_ite, apply_ite State.regs, apply_dite State.regs, apply_ite RegsCanon, apply_dite RegsCanon, *]; done) | (have ho := State.offer_regsWf _ _ _ _ (by assumption) hs; simp (maxDischargeDepth := 60) [*]; done) | (have ho := State.take_regsWf _ _ _ _ (by assumption) hs; simp (maxDischargeDepth := 60) [*]; done) | ((try rw [goesCanon_next]); with_reducible (refine foldl_regsWf _ _ _ ?_ ?_) <;> (first | (intro s hs a; (repeat' split) <;> simp (maxDischargeDepth := 60) [*]; done) | simp (maxDischargeDepth := 60) [*]; done)))

end Sys2Proof.Machine
end

