-- ==== Sys2Proof/Laws/State.lean ====
section
/-! SUPPORT. What each elementary update of State does to each of its fields, and how a register's word and its fields
read after a write. The field pending is in the Queue files. -/

namespace Sys2Proof.Machine

/-! wr -/
@[simp] theorem State.wr_regs (s : State) (a : Nat) (v : Word) : (s.wr a v).regs = s.regs.set 0 a v := rfl
@[simp] theorem State.wr_time (s : State) (a : Nat) (v : Word) : (s.wr a v).time = s.time := rfl
@[simp] theorem State.wr_sys (s : State) (a : Nat) (v : Word) : (s.wr a v).sys = s.sys := rfl
@[simp] theorem State.wr_hq (s : State) (a : Nat) (v : Word) : (s.wr a v).hq = s.hq := rfl
@[simp] theorem State.wr_sched (s : State) (a : Nat) (v : Word) : (s.wr a v).sched = s.sched := rfl
@[simp] theorem State.wr_flt (s : State) (a : Nat) (v : Word) : (s.wr a v).flt = s.flt := rfl
@[simp] theorem State.wr_recorder (s : State) (a : Nat) (v : Word) : (s.wr a v).recorder = s.recorder := rfl
@[simp] theorem State.wr_nv (s : State) (a : Nat) (v : Word) : (s.wr a v).nv = s.nv := rfl
@[simp] theorem State.wr_cfg (s : State) (a : Nat) (v : Word) : (s.wr a v).cfg = s.cfg := rfl
@[simp] theorem State.wr_rdData (s : State) (a : Nat) (v : Word) : (s.wr a v).rdData = s.rdData := rfl
@[simp] theorem State.wr_wheel (s : State) (a : Nat) (v : Word) : (s.wr a v).wheel = s.wheel := rfl
@[simp] theorem State.wr_fbps (s : State) (a : Nat) (v : Word) : (s.wr a v).fbps = s.fbps := rfl
@[simp] theorem State.wr_tiles (s : State) (a : Nat) (v : Word) : (s.wr a v).tiles = s.tiles := rfl
@[simp] theorem State.wr_acq (s : State) (a : Nat) (v : Word) : (s.wr a v).acq = s.acq := rfl
@[simp] theorem State.wr_lowWords (s : State) (a : Nat) (v : Word) : (s.wr a v).lowWords = s.lowWords := rfl
@[simp] theorem State.wr_ains (s : State) (a : Nat) (v : Word) : (s.wr a v).ains = s.ains := rfl
@[simp] theorem State.wr_clusters (s : State) (a : Nat) (v : Word) : (s.wr a v).clusters = s.clusters := rfl
@[simp] theorem State.wr_clWas (s : State) (a : Nat) (v : Word) : (s.wr a v).clWas = s.clWas := rfl
@[simp] theorem State.wr_pps (s : State) (a : Nat) (v : Word) : (s.wr a v).pps = s.pps := rfl
@[simp] theorem State.wr_qarms (s : State) (a : Nat) (v : Word) : (s.wr a v).qarms = s.qarms := rfl
@[simp] theorem State.wr_frameSeq (s : State) (a : Nat) (v : Word) : (s.wr a v).frameSeq = s.frameSeq := rfl
@[simp] theorem State.wr_jobsDue (s : State) (a : Nat) (v : Word) : (s.wr a v).jobsDue = s.jobsDue := rfl
@[simp] theorem State.wr_safe (s : State) (a : Nat) (v : Word) : (s.wr a v).safe = s.safe := rfl
@[simp] theorem State.wr_doors (s : State) (a : Nat) (v : Word) : (s.wr a v).doors = s.doors := rfl
@[simp] theorem State.wr_rings (s : State) (a : Nat) (v : Word) : (s.wr a v).rings = s.rings := rfl
@[simp] theorem State.wr_fio (s : State) (a : Nat) (v : Word) : (s.wr a v).fio = s.fio := rfl
@[simp] theorem State.wr_pair (s : State) (a : Nat) (v : Word) : (s.wr a v).pair = s.pair := rfl
@[simp] theorem State.wr_mem (s : State) (a : Nat) (v : Word) : (s.wr a v).mem = s.mem := rfl
@[simp] theorem State.wr_readWords (s : State) (a : Nat) (v : Word) : (s.wr a v).readWords = s.readWords := rfl
@[simp] theorem State.wr_host (s : State) (a : Nat) (v : Word) : (s.wr a v).host = s.host := rfl
@[simp] theorem State.wr_free (s : State) (a : Nat) (v : Word) : (s.wr a v).free = s.free := rfl
/-! wrN -/
@[simp] theorem State.wrN_regs (s : State) (a v : Nat) : (s.wrN a v).regs = s.regs.set 0 a (BitVec.ofNat 32 v) := rfl
@[simp] theorem State.wrN_time (s : State) (a v : Nat) : (s.wrN a v).time = s.time := rfl
@[simp] theorem State.wrN_sys (s : State) (a v : Nat) : (s.wrN a v).sys = s.sys := rfl
@[simp] theorem State.wrN_hq (s : State) (a v : Nat) : (s.wrN a v).hq = s.hq := rfl
@[simp] theorem State.wrN_sched (s : State) (a v : Nat) : (s.wrN a v).sched = s.sched := rfl
@[simp] theorem State.wrN_flt (s : State) (a v : Nat) : (s.wrN a v).flt = s.flt := rfl
@[simp] theorem State.wrN_recorder (s : State) (a v : Nat) : (s.wrN a v).recorder = s.recorder := rfl
@[simp] theorem State.wrN_nv (s : State) (a v : Nat) : (s.wrN a v).nv = s.nv := rfl
@[simp] theorem State.wrN_cfg (s : State) (a v : Nat) : (s.wrN a v).cfg = s.cfg := rfl
@[simp] theorem State.wrN_rdData (s : State) (a v : Nat) : (s.wrN a v).rdData = s.rdData := rfl
@[simp] theorem State.wrN_wheel (s : State) (a v : Nat) : (s.wrN a v).wheel = s.wheel := rfl
@[simp] theorem State.wrN_fbps (s : State) (a v : Nat) : (s.wrN a v).fbps = s.fbps := rfl
@[simp] theorem State.wrN_tiles (s : State) (a v : Nat) : (s.wrN a v).tiles = s.tiles := rfl
@[simp] theorem State.wrN_acq (s : State) (a v : Nat) : (s.wrN a v).acq = s.acq := rfl
@[simp] theorem State.wrN_lowWords (s : State) (a v : Nat) : (s.wrN a v).lowWords = s.lowWords := rfl
@[simp] theorem State.wrN_ains (s : State) (a v : Nat) : (s.wrN a v).ains = s.ains := rfl
@[simp] theorem State.wrN_clusters (s : State) (a v : Nat) : (s.wrN a v).clusters = s.clusters := rfl
@[simp] theorem State.wrN_clWas (s : State) (a v : Nat) : (s.wrN a v).clWas = s.clWas := rfl
@[simp] theorem State.wrN_pps (s : State) (a v : Nat) : (s.wrN a v).pps = s.pps := rfl
@[simp] theorem State.wrN_qarms (s : State) (a v : Nat) : (s.wrN a v).qarms = s.qarms := rfl
@[simp] theorem State.wrN_frameSeq (s : State) (a v : Nat) : (s.wrN a v).frameSeq = s.frameSeq := rfl
@[simp] theorem State.wrN_jobsDue (s : State) (a v : Nat) : (s.wrN a v).jobsDue = s.jobsDue := rfl
@[simp] theorem State.wrN_safe (s : State) (a v : Nat) : (s.wrN a v).safe = s.safe := rfl
@[simp] theorem State.wrN_doors (s : State) (a v : Nat) : (s.wrN a v).doors = s.doors := rfl
@[simp] theorem State.wrN_rings (s : State) (a v : Nat) : (s.wrN a v).rings = s.rings := rfl
@[simp] theorem State.wrN_fio (s : State) (a v : Nat) : (s.wrN a v).fio = s.fio := rfl
@[simp] theorem State.wrN_pair (s : State) (a v : Nat) : (s.wrN a v).pair = s.pair := rfl
@[simp] theorem State.wrN_mem (s : State) (a v : Nat) : (s.wrN a v).mem = s.mem := rfl
@[simp] theorem State.wrN_readWords (s : State) (a v : Nat) : (s.wrN a v).readWords = s.readWords := rfl
@[simp] theorem State.wrN_host (s : State) (a v : Nat) : (s.wrN a v).host = s.host := rfl
@[simp] theorem State.wrN_free (s : State) (a v : Nat) : (s.wrN a v).free = s.free := rfl
/-! wrI -/
@[simp] theorem State.wrI_regs (s : State) (a : Nat) (v : Int) : (s.wrI a v).regs = s.regs.set 0 a (BitVec.ofInt 32 v) := rfl
@[simp] theorem State.wrI_time (s : State) (a : Nat) (v : Int) : (s.wrI a v).time = s.time := rfl
@[simp] theorem State.wrI_sys (s : State) (a : Nat) (v : Int) : (s.wrI a v).sys = s.sys := rfl
@[simp] theorem State.wrI_hq (s : State) (a : Nat) (v : Int) : (s.wrI a v).hq = s.hq := rfl
@[simp] theorem State.wrI_sched (s : State) (a : Nat) (v : Int) : (s.wrI a v).sched = s.sched := rfl
@[simp] theorem State.wrI_flt (s : State) (a : Nat) (v : Int) : (s.wrI a v).flt = s.flt := rfl
@[simp] theorem State.wrI_recorder (s : State) (a : Nat) (v : Int) : (s.wrI a v).recorder = s.recorder := rfl
@[simp] theorem State.wrI_nv (s : State) (a : Nat) (v : Int) : (s.wrI a v).nv = s.nv := rfl
@[simp] theorem State.wrI_cfg (s : State) (a : Nat) (v : Int) : (s.wrI a v).cfg = s.cfg := rfl
@[simp] theorem State.wrI_rdData (s : State) (a : Nat) (v : Int) : (s.wrI a v).rdData = s.rdData := rfl
@[simp] theorem State.wrI_wheel (s : State) (a : Nat) (v : Int) : (s.wrI a v).wheel = s.wheel := rfl
@[simp] theorem State.wrI_fbps (s : State) (a : Nat) (v : Int) : (s.wrI a v).fbps = s.fbps := rfl
@[simp] theorem State.wrI_tiles (s : State) (a : Nat) (v : Int) : (s.wrI a v).tiles = s.tiles := rfl
@[simp] theorem State.wrI_acq (s : State) (a : Nat) (v : Int) : (s.wrI a v).acq = s.acq := rfl
@[simp] theorem State.wrI_lowWords (s : State) (a : Nat) (v : Int) : (s.wrI a v).lowWords = s.lowWords := rfl
@[simp] theorem State.wrI_ains (s : State) (a : Nat) (v : Int) : (s.wrI a v).ains = s.ains := rfl
@[simp] theorem State.wrI_clusters (s : State) (a : Nat) (v : Int) : (s.wrI a v).clusters = s.clusters := rfl
@[simp] theorem State.wrI_clWas (s : State) (a : Nat) (v : Int) : (s.wrI a v).clWas = s.clWas := rfl
@[simp] theorem State.wrI_pps (s : State) (a : Nat) (v : Int) : (s.wrI a v).pps = s.pps := rfl
@[simp] theorem State.wrI_qarms (s : State) (a : Nat) (v : Int) : (s.wrI a v).qarms = s.qarms := rfl
@[simp] theorem State.wrI_frameSeq (s : State) (a : Nat) (v : Int) : (s.wrI a v).frameSeq = s.frameSeq := rfl
@[simp] theorem State.wrI_jobsDue (s : State) (a : Nat) (v : Int) : (s.wrI a v).jobsDue = s.jobsDue := rfl
@[simp] theorem State.wrI_safe (s : State) (a : Nat) (v : Int) : (s.wrI a v).safe = s.safe := rfl
@[simp] theorem State.wrI_doors (s : State) (a : Nat) (v : Int) : (s.wrI a v).doors = s.doors := rfl
@[simp] theorem State.wrI_rings (s : State) (a : Nat) (v : Int) : (s.wrI a v).rings = s.rings := rfl
@[simp] theorem State.wrI_fio (s : State) (a : Nat) (v : Int) : (s.wrI a v).fio = s.fio := rfl
@[simp] theorem State.wrI_pair (s : State) (a : Nat) (v : Int) : (s.wrI a v).pair = s.pair := rfl
@[simp] theorem State.wrI_mem (s : State) (a : Nat) (v : Int) : (s.wrI a v).mem = s.mem := rfl
@[simp] theorem State.wrI_readWords (s : State) (a : Nat) (v : Int) : (s.wrI a v).readWords = s.readWords := rfl
@[simp] theorem State.wrI_host (s : State) (a : Nat) (v : Int) : (s.wrI a v).host = s.host := rfl
@[simp] theorem State.wrI_free (s : State) (a : Nat) (v : Int) : (s.wrI a v).free = s.free := rfl
/-! setF -/
@[simp] theorem State.setF_regs (s : State) (x : Fld) (v : Nat) : (s.setF x v).regs = s.regs.set 0 x.reg (x.put (s.rd x.reg) v) := rfl
@[simp] theorem State.setF_time (s : State) (x : Fld) (v : Nat) : (s.setF x v).time = s.time := rfl
@[simp] theorem State.setF_sys (s : State) (x : Fld) (v : Nat) : (s.setF x v).sys = s.sys := rfl
@[simp] theorem State.setF_hq (s : State) (x : Fld) (v : Nat) : (s.setF x v).hq = s.hq := rfl
@[simp] theorem State.setF_sched (s : State) (x : Fld) (v : Nat) : (s.setF x v).sched = s.sched := rfl
@[simp] theorem State.setF_flt (s : State) (x : Fld) (v : Nat) : (s.setF x v).flt = s.flt := rfl
@[simp] theorem State.setF_recorder (s : State) (x : Fld) (v : Nat) : (s.setF x v).recorder = s.recorder := rfl
@[simp] theorem State.setF_nv (s : State) (x : Fld) (v : Nat) : (s.setF x v).nv = s.nv := rfl
@[simp] theorem State.setF_cfg (s : State) (x : Fld) (v : Nat) : (s.setF x v).cfg = s.cfg := rfl
@[simp] theorem State.setF_rdData (s : State) (x : Fld) (v : Nat) : (s.setF x v).rdData = s.rdData := rfl
@[simp] theorem State.setF_wheel (s : State) (x : Fld) (v : Nat) : (s.setF x v).wheel = s.wheel := rfl
@[simp] theorem State.setF_fbps (s : State) (x : Fld) (v : Nat) : (s.setF x v).fbps = s.fbps := rfl
@[simp] theorem State.setF_tiles (s : State) (x : Fld) (v : Nat) : (s.setF x v).tiles = s.tiles := rfl
@[simp] theorem State.setF_acq (s : State) (x : Fld) (v : Nat) : (s.setF x v).acq = s.acq := rfl
@[simp] theorem State.setF_lowWords (s : State) (x : Fld) (v : Nat) : (s.setF x v).lowWords = s.lowWords := rfl
@[simp] theorem State.setF_ains (s : State) (x : Fld) (v : Nat) : (s.setF x v).ains = s.ains := rfl
@[simp] theorem State.setF_clusters (s : State) (x : Fld) (v : Nat) : (s.setF x v).clusters = s.clusters := rfl
@[simp] theorem State.setF_clWas (s : State) (x : Fld) (v : Nat) : (s.setF x v).clWas = s.clWas := rfl
@[simp] theorem State.setF_pps (s : State) (x : Fld) (v : Nat) : (s.setF x v).pps = s.pps := rfl
@[simp] theorem State.setF_qarms (s : State) (x : Fld) (v : Nat) : (s.setF x v).qarms = s.qarms := rfl
@[simp] theorem State.setF_frameSeq (s : State) (x : Fld) (v : Nat) : (s.setF x v).frameSeq = s.frameSeq := rfl
@[simp] theorem State.setF_jobsDue (s : State) (x : Fld) (v : Nat) : (s.setF x v).jobsDue = s.jobsDue := rfl
@[simp] theorem State.setF_safe (s : State) (x : Fld) (v : Nat) : (s.setF x v).safe = s.safe := rfl
@[simp] theorem State.setF_doors (s : State) (x : Fld) (v : Nat) : (s.setF x v).doors = s.doors := rfl
@[simp] theorem State.setF_rings (s : State) (x : Fld) (v : Nat) : (s.setF x v).rings = s.rings := rfl
@[simp] theorem State.setF_fio (s : State) (x : Fld) (v : Nat) : (s.setF x v).fio = s.fio := rfl
@[simp] theorem State.setF_pair (s : State) (x : Fld) (v : Nat) : (s.setF x v).pair = s.pair := rfl
@[simp] theorem State.setF_mem (s : State) (x : Fld) (v : Nat) : (s.setF x v).mem = s.mem := rfl
@[simp] theorem State.setF_readWords (s : State) (x : Fld) (v : Nat) : (s.setF x v).readWords = s.readWords := rfl
@[simp] theorem State.setF_host (s : State) (x : Fld) (v : Nat) : (s.setF x v).host = s.host := rfl
@[simp] theorem State.setF_free (s : State) (x : Fld) (v : Nat) : (s.setF x v).free = s.free := rfl
/-! setB -/
@[simp] theorem State.setB_regs (s : State) (x : Fld) (v : Bool) : (s.setB x v).regs = s.regs.set 0 x.reg (x.put (s.rd x.reg) (b2n v)) := rfl
@[simp] theorem State.setB_time (s : State) (x : Fld) (v : Bool) : (s.setB x v).time = s.time := rfl
@[simp] theorem State.setB_sys (s : State) (x : Fld) (v : Bool) : (s.setB x v).sys = s.sys := rfl
@[simp] theorem State.setB_hq (s : State) (x : Fld) (v : Bool) : (s.setB x v).hq = s.hq := rfl
@[simp] theorem State.setB_sched (s : State) (x : Fld) (v : Bool) : (s.setB x v).sched = s.sched := rfl
@[simp] theorem State.setB_flt (s : State) (x : Fld) (v : Bool) : (s.setB x v).flt = s.flt := rfl
@[simp] theorem State.setB_recorder (s : State) (x : Fld) (v : Bool) : (s.setB x v).recorder = s.recorder := rfl
@[simp] theorem State.setB_nv (s : State) (x : Fld) (v : Bool) : (s.setB x v).nv = s.nv := rfl
@[simp] theorem State.setB_cfg (s : State) (x : Fld) (v : Bool) : (s.setB x v).cfg = s.cfg := rfl
@[simp] theorem State.setB_rdData (s : State) (x : Fld) (v : Bool) : (s.setB x v).rdData = s.rdData := rfl
@[simp] theorem State.setB_wheel (s : State) (x : Fld) (v : Bool) : (s.setB x v).wheel = s.wheel := rfl
@[simp] theorem State.setB_fbps (s : State) (x : Fld) (v : Bool) : (s.setB x v).fbps = s.fbps := rfl
@[simp] theorem State.setB_tiles (s : State) (x : Fld) (v : Bool) : (s.setB x v).tiles = s.tiles := rfl
@[simp] theorem State.setB_acq (s : State) (x : Fld) (v : Bool) : (s.setB x v).acq = s.acq := rfl
@[simp] theorem State.setB_lowWords (s : State) (x : Fld) (v : Bool) : (s.setB x v).lowWords = s.lowWords := rfl
@[simp] theorem State.setB_ains (s : State) (x : Fld) (v : Bool) : (s.setB x v).ains = s.ains := rfl
@[simp] theorem State.setB_clusters (s : State) (x : Fld) (v : Bool) : (s.setB x v).clusters = s.clusters := rfl
@[simp] theorem State.setB_clWas (s : State) (x : Fld) (v : Bool) : (s.setB x v).clWas = s.clWas := rfl
@[simp] theorem State.setB_pps (s : State) (x : Fld) (v : Bool) : (s.setB x v).pps = s.pps := rfl
@[simp] theorem State.setB_qarms (s : State) (x : Fld) (v : Bool) : (s.setB x v).qarms = s.qarms := rfl
@[simp] theorem State.setB_frameSeq (s : State) (x : Fld) (v : Bool) : (s.setB x v).frameSeq = s.frameSeq := rfl
@[simp] theorem State.setB_jobsDue (s : State) (x : Fld) (v : Bool) : (s.setB x v).jobsDue = s.jobsDue := rfl
@[simp] theorem State.setB_safe (s : State) (x : Fld) (v : Bool) : (s.setB x v).safe = s.safe := rfl
@[simp] theorem State.setB_doors (s : State) (x : Fld) (v : Bool) : (s.setB x v).doors = s.doors := rfl
@[simp] theorem State.setB_rings (s : State) (x : Fld) (v : Bool) : (s.setB x v).rings = s.rings := rfl
@[simp] theorem State.setB_fio (s : State) (x : Fld) (v : Bool) : (s.setB x v).fio = s.fio := rfl
@[simp] theorem State.setB_pair (s : State) (x : Fld) (v : Bool) : (s.setB x v).pair = s.pair := rfl
@[simp] theorem State.setB_mem (s : State) (x : Fld) (v : Bool) : (s.setB x v).mem = s.mem := rfl
@[simp] theorem State.setB_readWords (s : State) (x : Fld) (v : Bool) : (s.setB x v).readWords = s.readWords := rfl
@[simp] theorem State.setB_host (s : State) (x : Fld) (v : Bool) : (s.setB x v).host = s.host := rfl
@[simp] theorem State.setB_free (s : State) (x : Fld) (v : Bool) : (s.setB x v).free = s.free := rfl
/-! wr2 -/
@[simp] theorem State.wr2_time (s : State) (w : Nat → Nat) (v : Nat) : (s.wr2 w v).time = s.time := rfl
@[simp] theorem State.wr2_sys (s : State) (w : Nat → Nat) (v : Nat) : (s.wr2 w v).sys = s.sys := rfl
@[simp] theorem State.wr2_hq (s : State) (w : Nat → Nat) (v : Nat) : (s.wr2 w v).hq = s.hq := rfl
@[simp] theorem State.wr2_sched (s : State) (w : Nat → Nat) (v : Nat) : (s.wr2 w v).sched = s.sched := rfl
@[simp] theorem State.wr2_flt (s : State) (w : Nat → Nat) (v : Nat) : (s.wr2 w v).flt = s.flt := rfl
@[simp] theorem State.wr2_recorder (s : State) (w : Nat → Nat) (v : Nat) : (s.wr2 w v).recorder = s.recorder := rfl
@[simp] theorem State.wr2_nv (s : State) (w : Nat → Nat) (v : Nat) : (s.wr2 w v).nv = s.nv := rfl
@[simp] theorem State.wr2_cfg (s : State) (w : Nat → Nat) (v : Nat) : (s.wr2 w v).cfg = s.cfg := rfl
@[simp] theorem State.wr2_rdData (s : State) (w : Nat → Nat) (v : Nat) : (s.wr2 w v).rdData = s.rdData := rfl
@[simp] theorem State.wr2_wheel (s : State) (w : Nat → Nat) (v : Nat) : (s.wr2 w v).wheel = s.wheel := rfl
@[simp] theorem State.wr2_fbps (s : State) (w : Nat → Nat) (v : Nat) : (s.wr2 w v).fbps = s.fbps := rfl
@[simp] theorem State.wr2_tiles (s : State) (w : Nat → Nat) (v : Nat) : (s.wr2 w v).tiles = s.tiles := rfl
@[simp] theorem State.wr2_acq (s : State) (w : Nat → Nat) (v : Nat) : (s.wr2 w v).acq = s.acq := rfl
@[simp] theorem State.wr2_lowWords (s : State) (w : Nat → Nat) (v : Nat) : (s.wr2 w v).lowWords = s.lowWords := rfl
@[simp] theorem State.wr2_ains (s : State) (w : Nat → Nat) (v : Nat) : (s.wr2 w v).ains = s.ains := rfl
@[simp] theorem State.wr2_clusters (s : State) (w : Nat → Nat) (v : Nat) : (s.wr2 w v).clusters = s.clusters := rfl
@[simp] theorem State.wr2_clWas (s : State) (w : Nat → Nat) (v : Nat) : (s.wr2 w v).clWas = s.clWas := rfl
@[simp] theorem State.wr2_pps (s : State) (w : Nat → Nat) (v : Nat) : (s.wr2 w v).pps = s.pps := rfl
@[simp] theorem State.wr2_qarms (s : State) (w : Nat → Nat) (v : Nat) : (s.wr2 w v).qarms = s.qarms := rfl
@[simp] theorem State.wr2_frameSeq (s : State) (w : Nat → Nat) (v : Nat) : (s.wr2 w v).frameSeq = s.frameSeq := rfl
@[simp] theorem State.wr2_jobsDue (s : State) (w : Nat → Nat) (v : Nat) : (s.wr2 w v).jobsDue = s.jobsDue := rfl
@[simp] theorem State.wr2_safe (s : State) (w : Nat → Nat) (v : Nat) : (s.wr2 w v).safe = s.safe := rfl
@[simp] theorem State.wr2_doors (s : State) (w : Nat → Nat) (v : Nat) : (s.wr2 w v).doors = s.doors := rfl
@[simp] theorem State.wr2_rings (s : State) (w : Nat → Nat) (v : Nat) : (s.wr2 w v).rings = s.rings := rfl
@[simp] theorem State.wr2_fio (s : State) (w : Nat → Nat) (v : Nat) : (s.wr2 w v).fio = s.fio := rfl
@[simp] theorem State.wr2_pair (s : State) (w : Nat → Nat) (v : Nat) : (s.wr2 w v).pair = s.pair := rfl
@[simp] theorem State.wr2_mem (s : State) (w : Nat → Nat) (v : Nat) : (s.wr2 w v).mem = s.mem := rfl
@[simp] theorem State.wr2_readWords (s : State) (w : Nat → Nat) (v : Nat) : (s.wr2 w v).readWords = s.readWords := rfl
@[simp] theorem State.wr2_host (s : State) (w : Nat → Nat) (v : Nat) : (s.wr2 w v).host = s.host := rfl
@[simp] theorem State.wr2_free (s : State) (w : Nat → Nat) (v : Nat) : (s.wr2 w v).free = s.free := rfl
/-! hit -/
@[simp] theorem State.hit_regs (s : State) (x : Fld) : (s.hit x).regs = s.regs.set 0 x.reg (x.put (s.rd x.reg) 1) := rfl
@[simp] theorem State.hit_time (s : State) (x : Fld) : (s.hit x).time = { s.time with hits := (x.reg, x.mask) :: s.time.hits } := rfl
@[simp] theorem State.hit_sys (s : State) (x : Fld) : (s.hit x).sys = s.sys := rfl
@[simp] theorem State.hit_hq (s : State) (x : Fld) : (s.hit x).hq = s.hq := rfl
@[simp] theorem State.hit_sched (s : State) (x : Fld) : (s.hit x).sched = s.sched := rfl
@[simp] theorem State.hit_flt (s : State) (x : Fld) : (s.hit x).flt = s.flt := rfl
@[simp] theorem State.hit_recorder (s : State) (x : Fld) : (s.hit x).recorder = s.recorder := rfl
@[simp] theorem State.hit_nv (s : State) (x : Fld) : (s.hit x).nv = s.nv := rfl
@[simp] theorem State.hit_cfg (s : State) (x : Fld) : (s.hit x).cfg = s.cfg := rfl
@[simp] theorem State.hit_rdData (s : State) (x : Fld) : (s.hit x).rdData = s.rdData := rfl
@[simp] theorem State.hit_wheel (s : State) (x : Fld) : (s.hit x).wheel = s.wheel := rfl
@[simp] theorem State.hit_fbps (s : State) (x : Fld) : (s.hit x).fbps = s.fbps := rfl
@[simp] theorem State.hit_tiles (s : State) (x : Fld) : (s.hit x).tiles = s.tiles := rfl
@[simp] theorem State.hit_acq (s : State) (x : Fld) : (s.hit x).acq = s.acq := rfl
@[simp] theorem State.hit_lowWords (s : State) (x : Fld) : (s.hit x).lowWords = s.lowWords := rfl
@[simp] theorem State.hit_ains (s : State) (x : Fld) : (s.hit x).ains = s.ains := rfl
@[simp] theorem State.hit_clusters (s : State) (x : Fld) : (s.hit x).clusters = s.clusters := rfl
@[simp] theorem State.hit_clWas (s : State) (x : Fld) : (s.hit x).clWas = s.clWas := rfl
@[simp] theorem State.hit_pps (s : State) (x : Fld) : (s.hit x).pps = s.pps := rfl
@[simp] theorem State.hit_qarms (s : State) (x : Fld) : (s.hit x).qarms = s.qarms := rfl
@[simp] theorem State.hit_frameSeq (s : State) (x : Fld) : (s.hit x).frameSeq = s.frameSeq := rfl
@[simp] theorem State.hit_jobsDue (s : State) (x : Fld) : (s.hit x).jobsDue = s.jobsDue := rfl
@[simp] theorem State.hit_safe (s : State) (x : Fld) : (s.hit x).safe = s.safe := rfl
@[simp] theorem State.hit_doors (s : State) (x : Fld) : (s.hit x).doors = s.doors := rfl
@[simp] theorem State.hit_rings (s : State) (x : Fld) : (s.hit x).rings = s.rings := rfl
@[simp] theorem State.hit_fio (s : State) (x : Fld) : (s.hit x).fio = s.fio := rfl
@[simp] theorem State.hit_pair (s : State) (x : Fld) : (s.hit x).pair = s.pair := rfl
@[simp] theorem State.hit_mem (s : State) (x : Fld) : (s.hit x).mem = s.mem := rfl
@[simp] theorem State.hit_readWords (s : State) (x : Fld) : (s.hit x).readWords = s.readWords := rfl
@[simp] theorem State.hit_host (s : State) (x : Fld) : (s.hit x).host = s.host := rfl
@[simp] theorem State.hit_free (s : State) (x : Fld) : (s.hit x).free = s.free := rfl
/-! hitBits -/
@[simp] theorem State.hitBits_regs (s : State) (a : Nat) (m : Word) : (s.hitBits a m).regs = s.regs.set 0 a (s.rd a ||| m) := rfl
@[simp] theorem State.hitBits_time (s : State) (a : Nat) (m : Word) : (s.hitBits a m).time = { s.time with hits := (a, m) :: s.time.hits } := rfl
@[simp] theorem State.hitBits_sys (s : State) (a : Nat) (m : Word) : (s.hitBits a m).sys = s.sys := rfl
@[simp] theorem State.hitBits_hq (s : State) (a : Nat) (m : Word) : (s.hitBits a m).hq = s.hq := rfl
@[simp] theorem State.hitBits_sched (s : State) (a : Nat) (m : Word) : (s.hitBits a m).sched = s.sched := rfl
@[simp] theorem State.hitBits_flt (s : State) (a : Nat) (m : Word) : (s.hitBits a m).flt = s.flt := rfl
@[simp] theorem State.hitBits_recorder (s : State) (a : Nat) (m : Word) : (s.hitBits a m).recorder = s.recorder := rfl
@[simp] theorem State.hitBits_nv (s : State) (a : Nat) (m : Word) : (s.hitBits a m).nv = s.nv := rfl
@[simp] theorem State.hitBits_cfg (s : State) (a : Nat) (m : Word) : (s.hitBits a m).cfg = s.cfg := rfl
@[simp] theorem State.hitBits_rdData (s : State) (a : Nat) (m : Word) : (s.hitBits a m).rdData = s.rdData := rfl
@[simp] theorem State.hitBits_wheel (s : State) (a : Nat) (m : Word) : (s.hitBits a m).wheel = s.wheel := rfl
@[simp] theorem State.hitBits_fbps (s : State) (a : Nat) (m : Word) : (s.hitBits a m).fbps = s.fbps := rfl
@[simp] theorem State.hitBits_tiles (s : State) (a : Nat) (m : Word) : (s.hitBits a m).tiles = s.tiles := rfl
@[simp] theorem State.hitBits_acq (s : State) (a : Nat) (m : Word) : (s.hitBits a m).acq = s.acq := rfl
@[simp] theorem State.hitBits_lowWords (s : State) (a : Nat) (m : Word) : (s.hitBits a m).lowWords = s.lowWords := rfl
@[simp] theorem State.hitBits_ains (s : State) (a : Nat) (m : Word) : (s.hitBits a m).ains = s.ains := rfl
@[simp] theorem State.hitBits_clusters (s : State) (a : Nat) (m : Word) : (s.hitBits a m).clusters = s.clusters := rfl
@[simp] theorem State.hitBits_clWas (s : State) (a : Nat) (m : Word) : (s.hitBits a m).clWas = s.clWas := rfl
@[simp] theorem State.hitBits_pps (s : State) (a : Nat) (m : Word) : (s.hitBits a m).pps = s.pps := rfl
@[simp] theorem State.hitBits_qarms (s : State) (a : Nat) (m : Word) : (s.hitBits a m).qarms = s.qarms := rfl
@[simp] theorem State.hitBits_frameSeq (s : State) (a : Nat) (m : Word) : (s.hitBits a m).frameSeq = s.frameSeq := rfl
@[simp] theorem State.hitBits_jobsDue (s : State) (a : Nat) (m : Word) : (s.hitBits a m).jobsDue = s.jobsDue := rfl
@[simp] theorem State.hitBits_safe (s : State) (a : Nat) (m : Word) : (s.hitBits a m).safe = s.safe := rfl
@[simp] theorem State.hitBits_doors (s : State) (a : Nat) (m : Word) : (s.hitBits a m).doors = s.doors := rfl
@[simp] theorem State.hitBits_rings (s : State) (a : Nat) (m : Word) : (s.hitBits a m).rings = s.rings := rfl
@[simp] theorem State.hitBits_fio (s : State) (a : Nat) (m : Word) : (s.hitBits a m).fio = s.fio := rfl
@[simp] theorem State.hitBits_pair (s : State) (a : Nat) (m : Word) : (s.hitBits a m).pair = s.pair := rfl
@[simp] theorem State.hitBits_mem (s : State) (a : Nat) (m : Word) : (s.hitBits a m).mem = s.mem := rfl
@[simp] theorem State.hitBits_readWords (s : State) (a : Nat) (m : Word) : (s.hitBits a m).readWords = s.readWords := rfl
@[simp] theorem State.hitBits_host (s : State) (a : Nat) (m : Word) : (s.hitBits a m).host = s.host := rfl
@[simp] theorem State.hitBits_free (s : State) (a : Nat) (m : Word) : (s.hitBits a m).free = s.free := rfl
/-! clearBits -/
@[simp] theorem State.clearBits_time (s : State) (a : Nat) (m : Word) : (s.clearBits a m).time = s.time := rfl
@[simp] theorem State.clearBits_sys (s : State) (a : Nat) (m : Word) : (s.clearBits a m).sys = s.sys := rfl
@[simp] theorem State.clearBits_hq (s : State) (a : Nat) (m : Word) : (s.clearBits a m).hq = s.hq := rfl
@[simp] theorem State.clearBits_sched (s : State) (a : Nat) (m : Word) : (s.clearBits a m).sched = s.sched := rfl
@[simp] theorem State.clearBits_flt (s : State) (a : Nat) (m : Word) : (s.clearBits a m).flt = s.flt := rfl
@[simp] theorem State.clearBits_recorder (s : State) (a : Nat) (m : Word) : (s.clearBits a m).recorder = s.recorder := rfl
@[simp] theorem State.clearBits_nv (s : State) (a : Nat) (m : Word) : (s.clearBits a m).nv = s.nv := rfl
@[simp] theorem State.clearBits_cfg (s : State) (a : Nat) (m : Word) : (s.clearBits a m).cfg = s.cfg := rfl
@[simp] theorem State.clearBits_rdData (s : State) (a : Nat) (m : Word) : (s.clearBits a m).rdData = s.rdData := rfl
@[simp] theorem State.clearBits_wheel (s : State) (a : Nat) (m : Word) : (s.clearBits a m).wheel = s.wheel := rfl
@[simp] theorem State.clearBits_fbps (s : State) (a : Nat) (m : Word) : (s.clearBits a m).fbps = s.fbps := rfl
@[simp] theorem State.clearBits_tiles (s : State) (a : Nat) (m : Word) : (s.clearBits a m).tiles = s.tiles := rfl
@[simp] theorem State.clearBits_acq (s : State) (a : Nat) (m : Word) : (s.clearBits a m).acq = s.acq := rfl
@[simp] theorem State.clearBits_lowWords (s : State) (a : Nat) (m : Word) : (s.clearBits a m).lowWords = s.lowWords := rfl
@[simp] theorem State.clearBits_ains (s : State) (a : Nat) (m : Word) : (s.clearBits a m).ains = s.ains := rfl
@[simp] theorem State.clearBits_clusters (s : State) (a : Nat) (m : Word) : (s.clearBits a m).clusters = s.clusters := rfl
@[simp] theorem State.clearBits_clWas (s : State) (a : Nat) (m : Word) : (s.clearBits a m).clWas = s.clWas := rfl
@[simp] theorem State.clearBits_pps (s : State) (a : Nat) (m : Word) : (s.clearBits a m).pps = s.pps := rfl
@[simp] theorem State.clearBits_qarms (s : State) (a : Nat) (m : Word) : (s.clearBits a m).qarms = s.qarms := rfl
@[simp] theorem State.clearBits_frameSeq (s : State) (a : Nat) (m : Word) : (s.clearBits a m).frameSeq = s.frameSeq := rfl
@[simp] theorem State.clearBits_jobsDue (s : State) (a : Nat) (m : Word) : (s.clearBits a m).jobsDue = s.jobsDue := rfl
@[simp] theorem State.clearBits_safe (s : State) (a : Nat) (m : Word) : (s.clearBits a m).safe = s.safe := rfl
@[simp] theorem State.clearBits_doors (s : State) (a : Nat) (m : Word) : (s.clearBits a m).doors = s.doors := rfl
@[simp] theorem State.clearBits_rings (s : State) (a : Nat) (m : Word) : (s.clearBits a m).rings = s.rings := rfl
@[simp] theorem State.clearBits_fio (s : State) (a : Nat) (m : Word) : (s.clearBits a m).fio = s.fio := rfl
@[simp] theorem State.clearBits_pair (s : State) (a : Nat) (m : Word) : (s.clearBits a m).pair = s.pair := rfl
@[simp] theorem State.clearBits_mem (s : State) (a : Nat) (m : Word) : (s.clearBits a m).mem = s.mem := rfl
@[simp] theorem State.clearBits_readWords (s : State) (a : Nat) (m : Word) : (s.clearBits a m).readWords = s.readWords := rfl
@[simp] theorem State.clearBits_host (s : State) (a : Nat) (m : Word) : (s.clearBits a m).host = s.host := rfl
@[simp] theorem State.clearBits_free (s : State) (a : Nat) (m : Word) : (s.clearBits a m).free = s.free := rfl
/-! clearF -/
@[simp] theorem State.clearF_time (s : State) (x : Fld) : (s.clearF x).time = s.time := rfl
@[simp] theorem State.clearF_sys (s : State) (x : Fld) : (s.clearF x).sys = s.sys := rfl
@[simp] theorem State.clearF_hq (s : State) (x : Fld) : (s.clearF x).hq = s.hq := rfl
@[simp] theorem State.clearF_sched (s : State) (x : Fld) : (s.clearF x).sched = s.sched := rfl
@[simp] theorem State.clearF_flt (s : State) (x : Fld) : (s.clearF x).flt = s.flt := rfl
@[simp] theorem State.clearF_recorder (s : State) (x : Fld) : (s.clearF x).recorder = s.recorder := rfl
@[simp] theorem State.clearF_nv (s : State) (x : Fld) : (s.clearF x).nv = s.nv := rfl
@[simp] theorem State.clearF_cfg (s : State) (x : Fld) : (s.clearF x).cfg = s.cfg := rfl
@[simp] theorem State.clearF_rdData (s : State) (x : Fld) : (s.clearF x).rdData = s.rdData := rfl
@[simp] theorem State.clearF_wheel (s : State) (x : Fld) : (s.clearF x).wheel = s.wheel := rfl
@[simp] theorem State.clearF_fbps (s : State) (x : Fld) : (s.clearF x).fbps = s.fbps := rfl
@[simp] theorem State.clearF_tiles (s : State) (x : Fld) : (s.clearF x).tiles = s.tiles := rfl
@[simp] theorem State.clearF_acq (s : State) (x : Fld) : (s.clearF x).acq = s.acq := rfl
@[simp] theorem State.clearF_lowWords (s : State) (x : Fld) : (s.clearF x).lowWords = s.lowWords := rfl
@[simp] theorem State.clearF_ains (s : State) (x : Fld) : (s.clearF x).ains = s.ains := rfl
@[simp] theorem State.clearF_clusters (s : State) (x : Fld) : (s.clearF x).clusters = s.clusters := rfl
@[simp] theorem State.clearF_clWas (s : State) (x : Fld) : (s.clearF x).clWas = s.clWas := rfl
@[simp] theorem State.clearF_pps (s : State) (x : Fld) : (s.clearF x).pps = s.pps := rfl
@[simp] theorem State.clearF_qarms (s : State) (x : Fld) : (s.clearF x).qarms = s.qarms := rfl
@[simp] theorem State.clearF_frameSeq (s : State) (x : Fld) : (s.clearF x).frameSeq = s.frameSeq := rfl
@[simp] theorem State.clearF_jobsDue (s : State) (x : Fld) : (s.clearF x).jobsDue = s.jobsDue := rfl
@[simp] theorem State.clearF_safe (s : State) (x : Fld) : (s.clearF x).safe = s.safe := rfl
@[simp] theorem State.clearF_doors (s : State) (x : Fld) : (s.clearF x).doors = s.doors := rfl
@[simp] theorem State.clearF_rings (s : State) (x : Fld) : (s.clearF x).rings = s.rings := rfl
@[simp] theorem State.clearF_fio (s : State) (x : Fld) : (s.clearF x).fio = s.fio := rfl
@[simp] theorem State.clearF_pair (s : State) (x : Fld) : (s.clearF x).pair = s.pair := rfl
@[simp] theorem State.clearF_mem (s : State) (x : Fld) : (s.clearF x).mem = s.mem := rfl
@[simp] theorem State.clearF_readWords (s : State) (x : Fld) : (s.clearF x).readWords = s.readWords := rfl
@[simp] theorem State.clearF_host (s : State) (x : Fld) : (s.clearF x).host = s.host := rfl
@[simp] theorem State.clearF_free (s : State) (x : Fld) : (s.clearF x).free = s.free := rfl
/-! bumpBy -/
@[simp] theorem State.bumpBy_regs (s : State) (a n : Nat) : (s.bumpBy a n).regs = s.regs.set 0 a (BitVec.ofNat 32 (min (s.rdN a + n) 4294967295)) := rfl
@[simp] theorem State.bumpBy_time (s : State) (a n : Nat) : (s.bumpBy a n).time = s.time := rfl
@[simp] theorem State.bumpBy_sys (s : State) (a n : Nat) : (s.bumpBy a n).sys = s.sys := rfl
@[simp] theorem State.bumpBy_hq (s : State) (a n : Nat) : (s.bumpBy a n).hq = s.hq := rfl
@[simp] theorem State.bumpBy_sched (s : State) (a n : Nat) : (s.bumpBy a n).sched = s.sched := rfl
@[simp] theorem State.bumpBy_flt (s : State) (a n : Nat) : (s.bumpBy a n).flt = s.flt := rfl
@[simp] theorem State.bumpBy_recorder (s : State) (a n : Nat) : (s.bumpBy a n).recorder = s.recorder := rfl
@[simp] theorem State.bumpBy_nv (s : State) (a n : Nat) : (s.bumpBy a n).nv = s.nv := rfl
@[simp] theorem State.bumpBy_cfg (s : State) (a n : Nat) : (s.bumpBy a n).cfg = s.cfg := rfl
@[simp] theorem State.bumpBy_rdData (s : State) (a n : Nat) : (s.bumpBy a n).rdData = s.rdData := rfl
@[simp] theorem State.bumpBy_wheel (s : State) (a n : Nat) : (s.bumpBy a n).wheel = s.wheel := rfl
@[simp] theorem State.bumpBy_fbps (s : State) (a n : Nat) : (s.bumpBy a n).fbps = s.fbps := rfl
@[simp] theorem State.bumpBy_tiles (s : State) (a n : Nat) : (s.bumpBy a n).tiles = s.tiles := rfl
@[simp] theorem State.bumpBy_acq (s : State) (a n : Nat) : (s.bumpBy a n).acq = s.acq := rfl
@[simp] theorem State.bumpBy_lowWords (s : State) (a n : Nat) : (s.bumpBy a n).lowWords = s.lowWords := rfl
@[simp] theorem State.bumpBy_ains (s : State) (a n : Nat) : (s.bumpBy a n).ains = s.ains := rfl
@[simp] theorem State.bumpBy_clusters (s : State) (a n : Nat) : (s.bumpBy a n).clusters = s.clusters := rfl
@[simp] theorem State.bumpBy_clWas (s : State) (a n : Nat) : (s.bumpBy a n).clWas = s.clWas := rfl
@[simp] theorem State.bumpBy_pps (s : State) (a n : Nat) : (s.bumpBy a n).pps = s.pps := rfl
@[simp] theorem State.bumpBy_qarms (s : State) (a n : Nat) : (s.bumpBy a n).qarms = s.qarms := rfl
@[simp] theorem State.bumpBy_frameSeq (s : State) (a n : Nat) : (s.bumpBy a n).frameSeq = s.frameSeq := rfl
@[simp] theorem State.bumpBy_jobsDue (s : State) (a n : Nat) : (s.bumpBy a n).jobsDue = s.jobsDue := rfl
@[simp] theorem State.bumpBy_safe (s : State) (a n : Nat) : (s.bumpBy a n).safe = s.safe := rfl
@[simp] theorem State.bumpBy_doors (s : State) (a n : Nat) : (s.bumpBy a n).doors = s.doors := rfl
@[simp] theorem State.bumpBy_rings (s : State) (a n : Nat) : (s.bumpBy a n).rings = s.rings := rfl
@[simp] theorem State.bumpBy_fio (s : State) (a n : Nat) : (s.bumpBy a n).fio = s.fio := rfl
@[simp] theorem State.bumpBy_pair (s : State) (a n : Nat) : (s.bumpBy a n).pair = s.pair := rfl
@[simp] theorem State.bumpBy_mem (s : State) (a n : Nat) : (s.bumpBy a n).mem = s.mem := rfl
@[simp] theorem State.bumpBy_readWords (s : State) (a n : Nat) : (s.bumpBy a n).readWords = s.readWords := rfl
@[simp] theorem State.bumpBy_host (s : State) (a n : Nat) : (s.bumpBy a n).host = s.host := rfl
@[simp] theorem State.bumpBy_free (s : State) (a n : Nat) : (s.bumpBy a n).free = s.free := rfl
/-! bump -/
@[simp] theorem State.bump_regs (s : State) (a : Nat) : (s.bump a).regs = s.regs.set 0 a (BitVec.ofNat 32 (min (s.rdN a + 1) 4294967295)) := rfl
@[simp] theorem State.bump_time (s : State) (a : Nat) : (s.bump a).time = s.time := rfl
@[simp] theorem State.bump_sys (s : State) (a : Nat) : (s.bump a).sys = s.sys := rfl
@[simp] theorem State.bump_hq (s : State) (a : Nat) : (s.bump a).hq = s.hq := rfl
@[simp] theorem State.bump_sched (s : State) (a : Nat) : (s.bump a).sched = s.sched := rfl
@[simp] theorem State.bump_flt (s : State) (a : Nat) : (s.bump a).flt = s.flt := rfl
@[simp] theorem State.bump_recorder (s : State) (a : Nat) : (s.bump a).recorder = s.recorder := rfl
@[simp] theorem State.bump_nv (s : State) (a : Nat) : (s.bump a).nv = s.nv := rfl
@[simp] theorem State.bump_cfg (s : State) (a : Nat) : (s.bump a).cfg = s.cfg := rfl
@[simp] theorem State.bump_rdData (s : State) (a : Nat) : (s.bump a).rdData = s.rdData := rfl
@[simp] theorem State.bump_wheel (s : State) (a : Nat) : (s.bump a).wheel = s.wheel := rfl
@[simp] theorem State.bump_fbps (s : State) (a : Nat) : (s.bump a).fbps = s.fbps := rfl
@[simp] theorem State.bump_tiles (s : State) (a : Nat) : (s.bump a).tiles = s.tiles := rfl
@[simp] theorem State.bump_acq (s : State) (a : Nat) : (s.bump a).acq = s.acq := rfl
@[simp] theorem State.bump_lowWords (s : State) (a : Nat) : (s.bump a).lowWords = s.lowWords := rfl
@[simp] theorem State.bump_ains (s : State) (a : Nat) : (s.bump a).ains = s.ains := rfl
@[simp] theorem State.bump_clusters (s : State) (a : Nat) : (s.bump a).clusters = s.clusters := rfl
@[simp] theorem State.bump_clWas (s : State) (a : Nat) : (s.bump a).clWas = s.clWas := rfl
@[simp] theorem State.bump_pps (s : State) (a : Nat) : (s.bump a).pps = s.pps := rfl
@[simp] theorem State.bump_qarms (s : State) (a : Nat) : (s.bump a).qarms = s.qarms := rfl
@[simp] theorem State.bump_frameSeq (s : State) (a : Nat) : (s.bump a).frameSeq = s.frameSeq := rfl
@[simp] theorem State.bump_jobsDue (s : State) (a : Nat) : (s.bump a).jobsDue = s.jobsDue := rfl
@[simp] theorem State.bump_safe (s : State) (a : Nat) : (s.bump a).safe = s.safe := rfl
@[simp] theorem State.bump_doors (s : State) (a : Nat) : (s.bump a).doors = s.doors := rfl
@[simp] theorem State.bump_rings (s : State) (a : Nat) : (s.bump a).rings = s.rings := rfl
@[simp] theorem State.bump_fio (s : State) (a : Nat) : (s.bump a).fio = s.fio := rfl
@[simp] theorem State.bump_pair (s : State) (a : Nat) : (s.bump a).pair = s.pair := rfl
@[simp] theorem State.bump_mem (s : State) (a : Nat) : (s.bump a).mem = s.mem := rfl
@[simp] theorem State.bump_readWords (s : State) (a : Nat) : (s.bump a).readWords = s.readWords := rfl
@[simp] theorem State.bump_host (s : State) (a : Nat) : (s.bump a).host = s.host := rfl
@[simp] theorem State.bump_free (s : State) (a : Nat) : (s.bump a).free = s.free := rfl
/-! holdLow -/
@[simp] theorem State.holdLow_regs (s : State) (a : Nat) (v : Word) : (s.holdLow a v).regs = s.regs := rfl
@[simp] theorem State.holdLow_time (s : State) (a : Nat) (v : Word) : (s.holdLow a v).time = s.time := rfl
@[simp] theorem State.holdLow_sys (s : State) (a : Nat) (v : Word) : (s.holdLow a v).sys = s.sys := rfl
@[simp] theorem State.holdLow_hq (s : State) (a : Nat) (v : Word) : (s.holdLow a v).hq = s.hq := rfl
@[simp] theorem State.holdLow_sched (s : State) (a : Nat) (v : Word) : (s.holdLow a v).sched = s.sched := rfl
@[simp] theorem State.holdLow_flt (s : State) (a : Nat) (v : Word) : (s.holdLow a v).flt = s.flt := rfl
@[simp] theorem State.holdLow_recorder (s : State) (a : Nat) (v : Word) : (s.holdLow a v).recorder = s.recorder := rfl
@[simp] theorem State.holdLow_nv (s : State) (a : Nat) (v : Word) : (s.holdLow a v).nv = s.nv := rfl
@[simp] theorem State.holdLow_cfg (s : State) (a : Nat) (v : Word) : (s.holdLow a v).cfg = s.cfg := rfl
@[simp] theorem State.holdLow_rdData (s : State) (a : Nat) (v : Word) : (s.holdLow a v).rdData = s.rdData := rfl
@[simp] theorem State.holdLow_wheel (s : State) (a : Nat) (v : Word) : (s.holdLow a v).wheel = s.wheel := rfl
@[simp] theorem State.holdLow_fbps (s : State) (a : Nat) (v : Word) : (s.holdLow a v).fbps = s.fbps := rfl
@[simp] theorem State.holdLow_tiles (s : State) (a : Nat) (v : Word) : (s.holdLow a v).tiles = s.tiles := rfl
@[simp] theorem State.holdLow_acq (s : State) (a : Nat) (v : Word) : (s.holdLow a v).acq = s.acq := rfl
@[simp] theorem State.holdLow_lowWords (s : State) (a : Nat) (v : Word) : (s.holdLow a v).lowWords = Store.insert (Store.erase s.lowWords a) a v := rfl
@[simp] theorem State.holdLow_ains (s : State) (a : Nat) (v : Word) : (s.holdLow a v).ains = s.ains := rfl
@[simp] theorem State.holdLow_clusters (s : State) (a : Nat) (v : Word) : (s.holdLow a v).clusters = s.clusters := rfl
@[simp] theorem State.holdLow_clWas (s : State) (a : Nat) (v : Word) : (s.holdLow a v).clWas = s.clWas := rfl
@[simp] theorem State.holdLow_pps (s : State) (a : Nat) (v : Word) : (s.holdLow a v).pps = s.pps := rfl
@[simp] theorem State.holdLow_qarms (s : State) (a : Nat) (v : Word) : (s.holdLow a v).qarms = s.qarms := rfl
@[simp] theorem State.holdLow_frameSeq (s : State) (a : Nat) (v : Word) : (s.holdLow a v).frameSeq = s.frameSeq := rfl
@[simp] theorem State.holdLow_jobsDue (s : State) (a : Nat) (v : Word) : (s.holdLow a v).jobsDue = s.jobsDue := rfl
@[simp] theorem State.holdLow_safe (s : State) (a : Nat) (v : Word) : (s.holdLow a v).safe = s.safe := rfl
@[simp] theorem State.holdLow_doors (s : State) (a : Nat) (v : Word) : (s.holdLow a v).doors = s.doors := rfl
@[simp] theorem State.holdLow_rings (s : State) (a : Nat) (v : Word) : (s.holdLow a v).rings = s.rings := rfl
@[simp] theorem State.holdLow_fio (s : State) (a : Nat) (v : Word) : (s.holdLow a v).fio = s.fio := rfl
@[simp] theorem State.holdLow_pair (s : State) (a : Nat) (v : Word) : (s.holdLow a v).pair = s.pair := rfl
@[simp] theorem State.holdLow_mem (s : State) (a : Nat) (v : Word) : (s.holdLow a v).mem = s.mem := rfl
@[simp] theorem State.holdLow_readWords (s : State) (a : Nat) (v : Word) : (s.holdLow a v).readWords = s.readWords := rfl
@[simp] theorem State.holdLow_host (s : State) (a : Nat) (v : Word) : (s.holdLow a v).host = s.host := rfl
@[simp] theorem State.holdLow_free (s : State) (a : Nat) (v : Word) : (s.holdLow a v).free = s.free := rfl
@[simp] theorem State.holdLow_rd (s : State) (a : Nat) (v : Word) (q : Nat) : (s.holdLow a v).rd q = s.rd q := rfl
@[simp] theorem State.holdLow_f (s : State) (a : Nat) (v : Word) (y : Fld) : (s.holdLow a v).f y = s.f y := rfl
@[simp] theorem State.holdLow_flag (s : State) (a : Nat) (v : Word) (y : Fld) : (s.holdLow a v).flag y = s.flag y := rfl
@[simp] theorem State.holdLow_rdN (s : State) (a : Nat) (v : Word) (q : Nat) : (s.holdLow a v).rdN q = s.rdN q := rfl
@[simp] theorem State.holdLow_rd2 (s : State) (a : Nat) (v : Word) (q : Nat → Nat) : (s.holdLow a v).rd2 q = s.rd2 q := rfl
/-! dropLow -/
@[simp] theorem State.dropLow_regs (s : State) (a : Nat) : (s.dropLow a).regs = s.regs := rfl
@[simp] theorem State.dropLow_time (s : State) (a : Nat) : (s.dropLow a).time = s.time := rfl
@[simp] theorem State.dropLow_sys (s : State) (a : Nat) : (s.dropLow a).sys = s.sys := rfl
@[simp] theorem State.dropLow_hq (s : State) (a : Nat) : (s.dropLow a).hq = s.hq := rfl
@[simp] theorem State.dropLow_sched (s : State) (a : Nat) : (s.dropLow a).sched = s.sched := rfl
@[simp] theorem State.dropLow_flt (s : State) (a : Nat) : (s.dropLow a).flt = s.flt := rfl
@[simp] theorem State.dropLow_recorder (s : State) (a : Nat) : (s.dropLow a).recorder = s.recorder := rfl
@[simp] theorem State.dropLow_nv (s : State) (a : Nat) : (s.dropLow a).nv = s.nv := rfl
@[simp] theorem State.dropLow_cfg (s : State) (a : Nat) : (s.dropLow a).cfg = s.cfg := rfl
@[simp] theorem State.dropLow_rdData (s : State) (a : Nat) : (s.dropLow a).rdData = s.rdData := rfl
@[simp] theorem State.dropLow_wheel (s : State) (a : Nat) : (s.dropLow a).wheel = s.wheel := rfl
@[simp] theorem State.dropLow_fbps (s : State) (a : Nat) : (s.dropLow a).fbps = s.fbps := rfl
@[simp] theorem State.dropLow_tiles (s : State) (a : Nat) : (s.dropLow a).tiles = s.tiles := rfl
@[simp] theorem State.dropLow_acq (s : State) (a : Nat) : (s.dropLow a).acq = s.acq := rfl
@[simp] theorem State.dropLow_lowWords (s : State) (a : Nat) : (s.dropLow a).lowWords = Store.erase s.lowWords a := rfl
@[simp] theorem State.dropLow_ains (s : State) (a : Nat) : (s.dropLow a).ains = s.ains := rfl
@[simp] theorem State.dropLow_clusters (s : State) (a : Nat) : (s.dropLow a).clusters = s.clusters := rfl
@[simp] theorem State.dropLow_clWas (s : State) (a : Nat) : (s.dropLow a).clWas = s.clWas := rfl
@[simp] theorem State.dropLow_pps (s : State) (a : Nat) : (s.dropLow a).pps = s.pps := rfl
@[simp] theorem State.dropLow_qarms (s : State) (a : Nat) : (s.dropLow a).qarms = s.qarms := rfl
@[simp] theorem State.dropLow_frameSeq (s : State) (a : Nat) : (s.dropLow a).frameSeq = s.frameSeq := rfl
@[simp] theorem State.dropLow_jobsDue (s : State) (a : Nat) : (s.dropLow a).jobsDue = s.jobsDue := rfl
@[simp] theorem State.dropLow_safe (s : State) (a : Nat) : (s.dropLow a).safe = s.safe := rfl
@[simp] theorem State.dropLow_doors (s : State) (a : Nat) : (s.dropLow a).doors = s.doors := rfl
@[simp] theorem State.dropLow_rings (s : State) (a : Nat) : (s.dropLow a).rings = s.rings := rfl
@[simp] theorem State.dropLow_fio (s : State) (a : Nat) : (s.dropLow a).fio = s.fio := rfl
@[simp] theorem State.dropLow_pair (s : State) (a : Nat) : (s.dropLow a).pair = s.pair := rfl
@[simp] theorem State.dropLow_mem (s : State) (a : Nat) : (s.dropLow a).mem = s.mem := rfl
@[simp] theorem State.dropLow_readWords (s : State) (a : Nat) : (s.dropLow a).readWords = s.readWords := rfl
@[simp] theorem State.dropLow_host (s : State) (a : Nat) : (s.dropLow a).host = s.host := rfl
@[simp] theorem State.dropLow_free (s : State) (a : Nat) : (s.dropLow a).free = s.free := rfl
@[simp] theorem State.dropLow_rd (s : State) (a : Nat) (q : Nat) : (s.dropLow a).rd q = s.rd q := rfl
@[simp] theorem State.dropLow_f (s : State) (a : Nat) (y : Fld) : (s.dropLow a).f y = s.f y := rfl
@[simp] theorem State.dropLow_flag (s : State) (a : Nat) (y : Fld) : (s.dropLow a).flag y = s.flag y := rfl
@[simp] theorem State.dropLow_rdN (s : State) (a : Nat) (q : Nat) : (s.dropLow a).rdN q = s.rdN q := rfl
@[simp] theorem State.dropLow_rd2 (s : State) (a : Nat) (q : Nat → Nat) : (s.dropLow a).rd2 q = s.rd2 q := rfl
/-! cycles -/
@[simp] theorem State.cycles_regs (s : State) (k : Nat) : (s.cycles k).regs = s.regs := rfl
@[simp] theorem State.cycles_sys (s : State) (k : Nat) : (s.cycles k).sys = s.sys := rfl
@[simp] theorem State.cycles_hq (s : State) (k : Nat) : (s.cycles k).hq = s.hq := rfl
@[simp] theorem State.cycles_sched (s : State) (k : Nat) : (s.cycles k).sched = s.sched := rfl
@[simp] theorem State.cycles_flt (s : State) (k : Nat) : (s.cycles k).flt = s.flt := rfl
@[simp] theorem State.cycles_recorder (s : State) (k : Nat) : (s.cycles k).recorder = s.recorder := rfl
@[simp] theorem State.cycles_nv (s : State) (k : Nat) : (s.cycles k).nv = s.nv := rfl
@[simp] theorem State.cycles_cfg (s : State) (k : Nat) : (s.cycles k).cfg = s.cfg := rfl
@[simp] theorem State.cycles_rdData (s : State) (k : Nat) : (s.cycles k).rdData = s.rdData := rfl
@[simp] theorem State.cycles_wheel (s : State) (k : Nat) : (s.cycles k).wheel = s.wheel := rfl
@[simp] theorem State.cycles_fbps (s : State) (k : Nat) : (s.cycles k).fbps = s.fbps := rfl
@[simp] theorem State.cycles_tiles (s : State) (k : Nat) : (s.cycles k).tiles = s.tiles := rfl
@[simp] theorem State.cycles_acq (s : State) (k : Nat) : (s.cycles k).acq = s.acq := rfl
@[simp] theorem State.cycles_lowWords (s : State) (k : Nat) : (s.cycles k).lowWords = s.lowWords := rfl
@[simp] theorem State.cycles_ains (s : State) (k : Nat) : (s.cycles k).ains = s.ains := rfl
@[simp] theorem State.cycles_clusters (s : State) (k : Nat) : (s.cycles k).clusters = s.clusters := rfl
@[simp] theorem State.cycles_pps (s : State) (k : Nat) : (s.cycles k).pps = s.pps := rfl
@[simp] theorem State.cycles_qarms (s : State) (k : Nat) : (s.cycles k).qarms = s.qarms := rfl
@[simp] theorem State.cycles_frameSeq (s : State) (k : Nat) : (s.cycles k).frameSeq = s.frameSeq := rfl
@[simp] theorem State.cycles_jobsDue (s : State) (k : Nat) : (s.cycles k).jobsDue = s.jobsDue := rfl
@[simp] theorem State.cycles_safe (s : State) (k : Nat) : (s.cycles k).safe = s.safe := rfl
@[simp] theorem State.cycles_doors (s : State) (k : Nat) : (s.cycles k).doors = s.doors := rfl
@[simp] theorem State.cycles_rings (s : State) (k : Nat) : (s.cycles k).rings = s.rings := rfl
@[simp] theorem State.cycles_fio (s : State) (k : Nat) : (s.cycles k).fio = s.fio := rfl
@[simp] theorem State.cycles_pair (s : State) (k : Nat) : (s.cycles k).pair = s.pair := rfl
@[simp] theorem State.cycles_mem (s : State) (k : Nat) : (s.cycles k).mem = s.mem := rfl
@[simp] theorem State.cycles_readWords (s : State) (k : Nat) : (s.cycles k).readWords = s.readWords := rfl
@[simp] theorem State.cycles_host (s : State) (k : Nat) : (s.cycles k).host = s.host := rfl
@[simp] theorem State.cycles_free (s : State) (k : Nat) : (s.cycles k).free = s.free := rfl
@[simp] theorem State.cycles_rd (s : State) (k : Nat) (q : Nat) : (s.cycles k).rd q = s.rd q := rfl
@[simp] theorem State.cycles_f (s : State) (k : Nat) (y : Fld) : (s.cycles k).f y = s.f y := rfl
@[simp] theorem State.cycles_flag (s : State) (k : Nat) (y : Fld) : (s.cycles k).flag y = s.flag y := rfl
@[simp] theorem State.cycles_rdN (s : State) (k : Nat) (q : Nat) : (s.cycles k).rdN q = s.rdN q := rfl
@[simp] theorem State.cycles_rd2 (s : State) (k : Nat) (q : Nat → Nat) : (s.cycles k).rd2 q = s.rd2 q := rfl
/-! runTo -/
@[simp] theorem State.runTo_regs (s : State) (t : Nat) : (s.runTo t).regs = s.regs := rfl
@[simp] theorem State.runTo_sys (s : State) (t : Nat) : (s.runTo t).sys = s.sys := rfl
@[simp] theorem State.runTo_hq (s : State) (t : Nat) : (s.runTo t).hq = s.hq := rfl
@[simp] theorem State.runTo_sched (s : State) (t : Nat) : (s.runTo t).sched = s.sched := rfl
@[simp] theorem State.runTo_flt (s : State) (t : Nat) : (s.runTo t).flt = s.flt := rfl
@[simp] theorem State.runTo_recorder (s : State) (t : Nat) : (s.runTo t).recorder = s.recorder := rfl
@[simp] theorem State.runTo_nv (s : State) (t : Nat) : (s.runTo t).nv = s.nv := rfl
@[simp] theorem State.runTo_cfg (s : State) (t : Nat) : (s.runTo t).cfg = s.cfg := rfl
@[simp] theorem State.runTo_rdData (s : State) (t : Nat) : (s.runTo t).rdData = s.rdData := rfl
@[simp] theorem State.runTo_wheel (s : State) (t : Nat) : (s.runTo t).wheel = s.wheel := rfl
@[simp] theorem State.runTo_fbps (s : State) (t : Nat) : (s.runTo t).fbps = s.fbps := rfl
@[simp] theorem State.runTo_tiles (s : State) (t : Nat) : (s.runTo t).tiles = s.tiles := rfl
@[simp] theorem State.runTo_acq (s : State) (t : Nat) : (s.runTo t).acq = s.acq := rfl
@[simp] theorem State.runTo_lowWords (s : State) (t : Nat) : (s.runTo t).lowWords = s.lowWords := rfl
@[simp] theorem State.runTo_ains (s : State) (t : Nat) : (s.runTo t).ains = s.ains := rfl
@[simp] theorem State.runTo_clusters (s : State) (t : Nat) : (s.runTo t).clusters = s.clusters := rfl
@[simp] theorem State.runTo_pps (s : State) (t : Nat) : (s.runTo t).pps = s.pps := rfl
@[simp] theorem State.runTo_qarms (s : State) (t : Nat) : (s.runTo t).qarms = s.qarms := rfl
@[simp] theorem State.runTo_frameSeq (s : State) (t : Nat) : (s.runTo t).frameSeq = s.frameSeq := rfl
@[simp] theorem State.runTo_jobsDue (s : State) (t : Nat) : (s.runTo t).jobsDue = s.jobsDue := rfl
@[simp] theorem State.runTo_safe (s : State) (t : Nat) : (s.runTo t).safe = s.safe := rfl
@[simp] theorem State.runTo_doors (s : State) (t : Nat) : (s.runTo t).doors = s.doors := rfl
@[simp] theorem State.runTo_rings (s : State) (t : Nat) : (s.runTo t).rings = s.rings := rfl
@[simp] theorem State.runTo_fio (s : State) (t : Nat) : (s.runTo t).fio = s.fio := rfl
@[simp] theorem State.runTo_pair (s : State) (t : Nat) : (s.runTo t).pair = s.pair := rfl
@[simp] theorem State.runTo_mem (s : State) (t : Nat) : (s.runTo t).mem = s.mem := rfl
@[simp] theorem State.runTo_readWords (s : State) (t : Nat) : (s.runTo t).readWords = s.readWords := rfl
@[simp] theorem State.runTo_host (s : State) (t : Nat) : (s.runTo t).host = s.host := rfl
@[simp] theorem State.runTo_free (s : State) (t : Nat) : (s.runTo t).free = s.free := rfl
@[simp] theorem State.runTo_rd (s : State) (t : Nat) (q : Nat) : (s.runTo t).rd q = s.rd q := rfl
@[simp] theorem State.runTo_f (s : State) (t : Nat) (y : Fld) : (s.runTo t).f y = s.f y := rfl
@[simp] theorem State.runTo_flag (s : State) (t : Nat) (y : Fld) : (s.runTo t).flag y = s.flag y := rfl
@[simp] theorem State.runTo_rdN (s : State) (t : Nat) (q : Nat) : (s.runTo t).rdN q = s.rdN q := rfl
@[simp] theorem State.runTo_rd2 (s : State) (t : Nat) (q : Nat → Nat) : (s.runTo t).rd2 q = s.rd2 q := rfl
/-! bumpFree -/
@[simp] theorem State.bumpFree_regs (s : State) : s.bumpFree.regs = s.regs := rfl
@[simp] theorem State.bumpFree_time (s : State) : s.bumpFree.time = s.time := rfl
@[simp] theorem State.bumpFree_sys (s : State) : s.bumpFree.sys = s.sys := rfl
@[simp] theorem State.bumpFree_hq (s : State) : s.bumpFree.hq = s.hq := rfl
@[simp] theorem State.bumpFree_sched (s : State) : s.bumpFree.sched = s.sched := rfl
@[simp] theorem State.bumpFree_flt (s : State) : s.bumpFree.flt = s.flt := rfl
@[simp] theorem State.bumpFree_recorder (s : State) : s.bumpFree.recorder = s.recorder := rfl
@[simp] theorem State.bumpFree_nv (s : State) : s.bumpFree.nv = s.nv := rfl
@[simp] theorem State.bumpFree_cfg (s : State) : s.bumpFree.cfg = s.cfg := rfl
@[simp] theorem State.bumpFree_rdData (s : State) : s.bumpFree.rdData = s.rdData := rfl
@[simp] theorem State.bumpFree_wheel (s : State) : s.bumpFree.wheel = s.wheel := rfl
@[simp] theorem State.bumpFree_fbps (s : State) : s.bumpFree.fbps = s.fbps := rfl
@[simp] theorem State.bumpFree_tiles (s : State) : s.bumpFree.tiles = s.tiles := rfl
@[simp] theorem State.bumpFree_acq (s : State) : s.bumpFree.acq = s.acq := rfl
@[simp] theorem State.bumpFree_lowWords (s : State) : s.bumpFree.lowWords = s.lowWords := rfl
@[simp] theorem State.bumpFree_ains (s : State) : s.bumpFree.ains = s.ains := rfl
@[simp] theorem State.bumpFree_clusters (s : State) : s.bumpFree.clusters = s.clusters := rfl
@[simp] theorem State.bumpFree_clWas (s : State) : s.bumpFree.clWas = s.clWas := rfl
@[simp] theorem State.bumpFree_pps (s : State) : s.bumpFree.pps = s.pps := rfl
@[simp] theorem State.bumpFree_qarms (s : State) : s.bumpFree.qarms = s.qarms := rfl
@[simp] theorem State.bumpFree_frameSeq (s : State) : s.bumpFree.frameSeq = s.frameSeq := rfl
@[simp] theorem State.bumpFree_jobsDue (s : State) : s.bumpFree.jobsDue = s.jobsDue := rfl
@[simp] theorem State.bumpFree_safe (s : State) : s.bumpFree.safe = s.safe := rfl
@[simp] theorem State.bumpFree_doors (s : State) : s.bumpFree.doors = s.doors := rfl
@[simp] theorem State.bumpFree_rings (s : State) : s.bumpFree.rings = s.rings := rfl
@[simp] theorem State.bumpFree_fio (s : State) : s.bumpFree.fio = s.fio := rfl
@[simp] theorem State.bumpFree_pair (s : State) : s.bumpFree.pair = s.pair := rfl
@[simp] theorem State.bumpFree_mem (s : State) : s.bumpFree.mem = s.mem := rfl
@[simp] theorem State.bumpFree_readWords (s : State) : s.bumpFree.readWords = s.readWords := rfl
@[simp] theorem State.bumpFree_host (s : State) : s.bumpFree.host = s.host := rfl
@[simp] theorem State.bumpFree_free (s : State) : s.bumpFree.free = s.free + 1 := rfl
@[simp] theorem State.bumpFree_rd (s : State) (q : Nat) : s.bumpFree.rd q = s.rd q := rfl
@[simp] theorem State.bumpFree_f (s : State) (y : Fld) : s.bumpFree.f y = s.f y := rfl
@[simp] theorem State.bumpFree_flag (s : State) (y : Fld) : s.bumpFree.flag y = s.flag y := rfl
@[simp] theorem State.bumpFree_rdN (s : State) (q : Nat) : s.bumpFree.rdN q = s.rdN q := rfl
@[simp] theorem State.bumpFree_rd2 (s : State) (q : Nat → Nat) : s.bumpFree.rd2 q = s.rd2 q := rfl
/-! raise -/
@[simp] theorem State.raise_regs (s : State) (m : FaultMsg) : (s.raise m).regs = s.regs := rfl
@[simp] theorem State.raise_time (s : State) (m : FaultMsg) : (s.raise m).time = s.time := rfl
@[simp] theorem State.raise_sys (s : State) (m : FaultMsg) : (s.raise m).sys = s.sys := rfl
@[simp] theorem State.raise_hq (s : State) (m : FaultMsg) : (s.raise m).hq = s.hq := rfl
@[simp] theorem State.raise_sched (s : State) (m : FaultMsg) : (s.raise m).sched = s.sched := rfl
@[simp] theorem State.raise_flt (s : State) (m : FaultMsg) : (s.raise m).flt = { s.flt with path := s.flt.path ++ [{ m with at_ := s.time.mono }] } := rfl
@[simp] theorem State.raise_recorder (s : State) (m : FaultMsg) : (s.raise m).recorder = s.recorder := rfl
@[simp] theorem State.raise_nv (s : State) (m : FaultMsg) : (s.raise m).nv = s.nv := rfl
@[simp] theorem State.raise_cfg (s : State) (m : FaultMsg) : (s.raise m).cfg = s.cfg := rfl
@[simp] theorem State.raise_rdData (s : State) (m : FaultMsg) : (s.raise m).rdData = s.rdData := rfl
@[simp] theorem State.raise_wheel (s : State) (m : FaultMsg) : (s.raise m).wheel = s.wheel := rfl
@[simp] theorem State.raise_fbps (s : State) (m : FaultMsg) : (s.raise m).fbps = s.fbps := rfl
@[simp] theorem State.raise_tiles (s : State) (m : FaultMsg) : (s.raise m).tiles = s.tiles := rfl
@[simp] theorem State.raise_acq (s : State) (m : FaultMsg) : (s.raise m).acq = s.acq := rfl
@[simp] theorem State.raise_lowWords (s : State) (m : FaultMsg) : (s.raise m).lowWords = s.lowWords := rfl
@[simp] theorem State.raise_ains (s : State) (m : FaultMsg) : (s.raise m).ains = s.ains := rfl
@[simp] theorem State.raise_clusters (s : State) (m : FaultMsg) : (s.raise m).clusters = s.clusters := rfl
@[simp] theorem State.raise_clWas (s : State) (m : FaultMsg) : (s.raise m).clWas = s.clWas := rfl
@[simp] theorem State.raise_pps (s : State) (m : FaultMsg) : (s.raise m).pps = s.pps := rfl
@[simp] theorem State.raise_qarms (s : State) (m : FaultMsg) : (s.raise m).qarms = s.qarms := rfl
@[simp] theorem State.raise_frameSeq (s : State) (m : FaultMsg) : (s.raise m).frameSeq = s.frameSeq := rfl
@[simp] theorem State.raise_jobsDue (s : State) (m : FaultMsg) : (s.raise m).jobsDue = s.jobsDue := rfl
@[simp] theorem State.raise_safe (s : State) (m : FaultMsg) : (s.raise m).safe = s.safe := rfl
@[simp] theorem State.raise_doors (s : State) (m : FaultMsg) : (s.raise m).doors = s.doors := rfl
@[simp] theorem State.raise_rings (s : State) (m : FaultMsg) : (s.raise m).rings = s.rings := rfl
@[simp] theorem State.raise_fio (s : State) (m : FaultMsg) : (s.raise m).fio = s.fio := rfl
@[simp] theorem State.raise_pair (s : State) (m : FaultMsg) : (s.raise m).pair = s.pair := rfl
@[simp] theorem State.raise_mem (s : State) (m : FaultMsg) : (s.raise m).mem = s.mem := rfl
@[simp] theorem State.raise_readWords (s : State) (m : FaultMsg) : (s.raise m).readWords = s.readWords := rfl
@[simp] theorem State.raise_host (s : State) (m : FaultMsg) : (s.raise m).host = s.host := rfl
@[simp] theorem State.raise_free (s : State) (m : FaultMsg) : (s.raise m).free = s.free := rfl
@[simp] theorem State.raise_rd (s : State) (m : FaultMsg) (q : Nat) : (s.raise m).rd q = s.rd q := rfl
@[simp] theorem State.raise_f (s : State) (m : FaultMsg) (y : Fld) : (s.raise m).f y = s.f y := rfl
@[simp] theorem State.raise_flag (s : State) (m : FaultMsg) (y : Fld) : (s.raise m).flag y = s.flag y := rfl
@[simp] theorem State.raise_rdN (s : State) (m : FaultMsg) (q : Nat) : (s.raise m).rdN q = s.rdN q := rfl
@[simp] theorem State.raise_rd2 (s : State) (m : FaultMsg) (q : Nat → Nat) : (s.raise m).rd2 q = s.rd2 q := rfl
/-! endCause -/
@[simp] theorem State.endCause_regs (s : State) (a k : Nat) : (s.endCause a k).regs = s.regs := rfl
@[simp] theorem State.endCause_time (s : State) (a k : Nat) : (s.endCause a k).time = s.time := rfl
@[simp] theorem State.endCause_sys (s : State) (a k : Nat) : (s.endCause a k).sys = s.sys := rfl
@[simp] theorem State.endCause_hq (s : State) (a k : Nat) : (s.endCause a k).hq = s.hq := rfl
@[simp] theorem State.endCause_sched (s : State) (a k : Nat) : (s.endCause a k).sched = s.sched := rfl
@[simp] theorem State.endCause_recorder (s : State) (a k : Nat) : (s.endCause a k).recorder = s.recorder := rfl
@[simp] theorem State.endCause_nv (s : State) (a k : Nat) : (s.endCause a k).nv = s.nv := rfl
@[simp] theorem State.endCause_cfg (s : State) (a k : Nat) : (s.endCause a k).cfg = s.cfg := rfl
@[simp] theorem State.endCause_rdData (s : State) (a k : Nat) : (s.endCause a k).rdData = s.rdData := rfl
@[simp] theorem State.endCause_wheel (s : State) (a k : Nat) : (s.endCause a k).wheel = s.wheel := rfl
@[simp] theorem State.endCause_fbps (s : State) (a k : Nat) : (s.endCause a k).fbps = s.fbps := rfl
@[simp] theorem State.endCause_tiles (s : State) (a k : Nat) : (s.endCause a k).tiles = s.tiles := rfl
@[simp] theorem State.endCause_acq (s : State) (a k : Nat) : (s.endCause a k).acq = s.acq := rfl
@[simp] theorem State.endCause_lowWords (s : State) (a k : Nat) : (s.endCause a k).lowWords = s.lowWords := rfl
@[simp] theorem State.endCause_ains (s : State) (a k : Nat) : (s.endCause a k).ains = s.ains := rfl
@[simp] theorem State.endCause_clusters (s : State) (a k : Nat) : (s.endCause a k).clusters = s.clusters := rfl
@[simp] theorem State.endCause_clWas (s : State) (a k : Nat) : (s.endCause a k).clWas = s.clWas := rfl
@[simp] theorem State.endCause_pps (s : State) (a k : Nat) : (s.endCause a k).pps = s.pps := rfl
@[simp] theorem State.endCause_qarms (s : State) (a k : Nat) : (s.endCause a k).qarms = s.qarms := rfl
@[simp] theorem State.endCause_frameSeq (s : State) (a k : Nat) : (s.endCause a k).frameSeq = s.frameSeq := rfl
@[simp] theorem State.endCause_jobsDue (s : State) (a k : Nat) : (s.endCause a k).jobsDue = s.jobsDue := rfl
@[simp] theorem State.endCause_safe (s : State) (a k : Nat) : (s.endCause a k).safe = s.safe := rfl
@[simp] theorem State.endCause_doors (s : State) (a k : Nat) : (s.endCause a k).doors = s.doors := rfl
@[simp] theorem State.endCause_rings (s : State) (a k : Nat) : (s.endCause a k).rings = s.rings := rfl
@[simp] theorem State.endCause_fio (s : State) (a k : Nat) : (s.endCause a k).fio = s.fio := rfl
@[simp] theorem State.endCause_pair (s : State) (a k : Nat) : (s.endCause a k).pair = s.pair := rfl
@[simp] theorem State.endCause_mem (s : State) (a k : Nat) : (s.endCause a k).mem = s.mem := rfl
@[simp] theorem State.endCause_readWords (s : State) (a k : Nat) : (s.endCause a k).readWords = s.readWords := rfl
@[simp] theorem State.endCause_host (s : State) (a k : Nat) : (s.endCause a k).host = s.host := rfl
@[simp] theorem State.endCause_free (s : State) (a k : Nat) : (s.endCause a k).free = s.free := rfl
@[simp] theorem State.endCause_rd (s : State) (a k : Nat) (q : Nat) : (s.endCause a k).rd q = s.rd q := rfl
@[simp] theorem State.endCause_f (s : State) (a k : Nat) (y : Fld) : (s.endCause a k).f y = s.f y := rfl
@[simp] theorem State.endCause_flag (s : State) (a k : Nat) (y : Fld) : (s.endCause a k).flag y = s.flag y := rfl
@[simp] theorem State.endCause_rdN (s : State) (a k : Nat) (q : Nat) : (s.endCause a k).rdN q = s.rdN q := rfl
@[simp] theorem State.endCause_rd2 (s : State) (a k : Nat) (q : Nat → Nat) : (s.endCause a k).rd2 q = s.rd2 q := rfl
/-! freeCells -/
@[simp] theorem State.freeCells_regs (s : State) (n : Fin 16) (k : Nat) : (s.freeCells n k).regs = s.regs := rfl
@[simp] theorem State.freeCells_time (s : State) (n : Fin 16) (k : Nat) : (s.freeCells n k).time = s.time := rfl
@[simp] theorem State.freeCells_sys (s : State) (n : Fin 16) (k : Nat) : (s.freeCells n k).sys = s.sys := rfl
@[simp] theorem State.freeCells_sched (s : State) (n : Fin 16) (k : Nat) : (s.freeCells n k).sched = s.sched := rfl
@[simp] theorem State.freeCells_flt (s : State) (n : Fin 16) (k : Nat) : (s.freeCells n k).flt = s.flt := rfl
@[simp] theorem State.freeCells_recorder (s : State) (n : Fin 16) (k : Nat) : (s.freeCells n k).recorder = s.recorder := rfl
@[simp] theorem State.freeCells_nv (s : State) (n : Fin 16) (k : Nat) : (s.freeCells n k).nv = s.nv := rfl
@[simp] theorem State.freeCells_cfg (s : State) (n : Fin 16) (k : Nat) : (s.freeCells n k).cfg = s.cfg := rfl
@[simp] theorem State.freeCells_rdData (s : State) (n : Fin 16) (k : Nat) : (s.freeCells n k).rdData = s.rdData := rfl
@[simp] theorem State.freeCells_wheel (s : State) (n : Fin 16) (k : Nat) : (s.freeCells n k).wheel = s.wheel := rfl
@[simp] theorem State.freeCells_fbps (s : State) (n : Fin 16) (k : Nat) : (s.freeCells n k).fbps = s.fbps := rfl
@[simp] theorem State.freeCells_tiles (s : State) (n : Fin 16) (k : Nat) : (s.freeCells n k).tiles = s.tiles := rfl
@[simp] theorem State.freeCells_acq (s : State) (n : Fin 16) (k : Nat) : (s.freeCells n k).acq = s.acq := rfl
@[simp] theorem State.freeCells_lowWords (s : State) (n : Fin 16) (k : Nat) : (s.freeCells n k).lowWords = s.lowWords := rfl
@[simp] theorem State.freeCells_ains (s : State) (n : Fin 16) (k : Nat) : (s.freeCells n k).ains = s.ains := rfl
@[simp] theorem State.freeCells_clusters (s : State) (n : Fin 16) (k : Nat) : (s.freeCells n k).clusters = s.clusters := rfl
@[simp] theorem State.freeCells_clWas (s : State) (n : Fin 16) (k : Nat) : (s.freeCells n k).clWas = s.clWas := rfl
@[simp] theorem State.freeCells_pps (s : State) (n : Fin 16) (k : Nat) : (s.freeCells n k).pps = s.pps := rfl
@[simp] theorem State.freeCells_qarms (s : State) (n : Fin 16) (k : Nat) : (s.freeCells n k).qarms = s.qarms := rfl
@[simp] theorem State.freeCells_frameSeq (s : State) (n : Fin 16) (k : Nat) : (s.freeCells n k).frameSeq = s.frameSeq := rfl
@[simp] theorem State.freeCells_jobsDue (s : State) (n : Fin 16) (k : Nat) : (s.freeCells n k).jobsDue = s.jobsDue := rfl
@[simp] theorem State.freeCells_safe (s : State) (n : Fin 16) (k : Nat) : (s.freeCells n k).safe = s.safe := rfl
@[simp] theorem State.freeCells_doors (s : State) (n : Fin 16) (k : Nat) : (s.freeCells n k).doors = s.doors := rfl
@[simp] theorem State.freeCells_rings (s : State) (n : Fin 16) (k : Nat) : (s.freeCells n k).rings = s.rings := rfl
@[simp] theorem State.freeCells_fio (s : State) (n : Fin 16) (k : Nat) : (s.freeCells n k).fio = s.fio := rfl
@[simp] theorem State.freeCells_pair (s : State) (n : Fin 16) (k : Nat) : (s.freeCells n k).pair = s.pair := rfl
@[simp] theorem State.freeCells_mem (s : State) (n : Fin 16) (k : Nat) : (s.freeCells n k).mem = s.mem := rfl
@[simp] theorem State.freeCells_readWords (s : State) (n : Fin 16) (k : Nat) : (s.freeCells n k).readWords = s.readWords := rfl
@[simp] theorem State.freeCells_host (s : State) (n : Fin 16) (k : Nat) : (s.freeCells n k).host = s.host := rfl
@[simp] theorem State.freeCells_free (s : State) (n : Fin 16) (k : Nat) : (s.freeCells n k).free = s.free := rfl
@[simp] theorem State.freeCells_rd (s : State) (n : Fin 16) (k : Nat) (q : Nat) : (s.freeCells n k).rd q = s.rd q := rfl
@[simp] theorem State.freeCells_f (s : State) (n : Fin 16) (k : Nat) (y : Fld) : (s.freeCells n k).f y = s.f y := rfl
@[simp] theorem State.freeCells_flag (s : State) (n : Fin 16) (k : Nat) (y : Fld) : (s.freeCells n k).flag y = s.flag y := rfl
@[simp] theorem State.freeCells_rdN (s : State) (n : Fin 16) (k : Nat) (q : Nat) : (s.freeCells n k).rdN q = s.rdN q := rfl
@[simp] theorem State.freeCells_rd2 (s : State) (n : Fin 16) (k : Nat) (q : Nat → Nat) : (s.freeCells n k).rd2 q = s.rd2 q := rfl
/-! markHigh -/
@[simp] theorem State.markHigh_time (s : State) (n : Fin 16) : (s.markHigh n).time = s.time := rfl
@[simp] theorem State.markHigh_sys (s : State) (n : Fin 16) : (s.markHigh n).sys = s.sys := rfl
@[simp] theorem State.markHigh_hq (s : State) (n : Fin 16) : (s.markHigh n).hq = s.hq := rfl
@[simp] theorem State.markHigh_sched (s : State) (n : Fin 16) : (s.markHigh n).sched = s.sched := rfl
@[simp] theorem State.markHigh_flt (s : State) (n : Fin 16) : (s.markHigh n).flt = s.flt := rfl
@[simp] theorem State.markHigh_recorder (s : State) (n : Fin 16) : (s.markHigh n).recorder = s.recorder := rfl
@[simp] theorem State.markHigh_nv (s : State) (n : Fin 16) : (s.markHigh n).nv = s.nv := rfl
@[simp] theorem State.markHigh_cfg (s : State) (n : Fin 16) : (s.markHigh n).cfg = s.cfg := rfl
@[simp] theorem State.markHigh_rdData (s : State) (n : Fin 16) : (s.markHigh n).rdData = s.rdData := rfl
@[simp] theorem State.markHigh_wheel (s : State) (n : Fin 16) : (s.markHigh n).wheel = s.wheel := rfl
@[simp] theorem State.markHigh_fbps (s : State) (n : Fin 16) : (s.markHigh n).fbps = s.fbps := rfl
@[simp] theorem State.markHigh_tiles (s : State) (n : Fin 16) : (s.markHigh n).tiles = s.tiles := rfl
@[simp] theorem State.markHigh_acq (s : State) (n : Fin 16) : (s.markHigh n).acq = s.acq := rfl
@[simp] theorem State.markHigh_lowWords (s : State) (n : Fin 16) : (s.markHigh n).lowWords = s.lowWords := rfl
@[simp] theorem State.markHigh_ains (s : State) (n : Fin 16) : (s.markHigh n).ains = s.ains := rfl
@[simp] theorem State.markHigh_clusters (s : State) (n : Fin 16) : (s.markHigh n).clusters = s.clusters := rfl
@[simp] theorem State.markHigh_clWas (s : State) (n : Fin 16) : (s.markHigh n).clWas = s.clWas := rfl
@[simp] theorem State.markHigh_pps (s : State) (n : Fin 16) : (s.markHigh n).pps = s.pps := rfl
@[simp] theorem State.markHigh_qarms (s : State) (n : Fin 16) : (s.markHigh n).qarms = s.qarms := rfl
@[simp] theorem State.markHigh_frameSeq (s : State) (n : Fin 16) : (s.markHigh n).frameSeq = s.frameSeq := rfl
@[simp] theorem State.markHigh_jobsDue (s : State) (n : Fin 16) : (s.markHigh n).jobsDue = s.jobsDue := rfl
@[simp] theorem State.markHigh_safe (s : State) (n : Fin 16) : (s.markHigh n).safe = s.safe := rfl
@[simp] theorem State.markHigh_doors (s : State) (n : Fin 16) : (s.markHigh n).doors = s.doors := rfl
@[simp] theorem State.markHigh_rings (s : State) (n : Fin 16) : (s.markHigh n).rings = s.rings := rfl
@[simp] theorem State.markHigh_fio (s : State) (n : Fin 16) : (s.markHigh n).fio = s.fio := rfl
@[simp] theorem State.markHigh_pair (s : State) (n : Fin 16) : (s.markHigh n).pair = s.pair := rfl
@[simp] theorem State.markHigh_mem (s : State) (n : Fin 16) : (s.markHigh n).mem = s.mem := rfl
@[simp] theorem State.markHigh_readWords (s : State) (n : Fin 16) : (s.markHigh n).readWords = s.readWords := rfl
@[simp] theorem State.markHigh_host (s : State) (n : Fin 16) : (s.markHigh n).host = s.host := rfl
@[simp] theorem State.markHigh_free (s : State) (n : Fin 16) : (s.markHigh n).free = s.free := rfl
/-! modCore -/
@[simp] theorem State.modCore_regs (s : State) (c : Fin 8) (g : Core → Core) : (s.modCore c g).regs = s.regs := rfl
@[simp] theorem State.modCore_time (s : State) (c : Fin 8) (g : Core → Core) : (s.modCore c g).time = s.time := rfl
@[simp] theorem State.modCore_sys (s : State) (c : Fin 8) (g : Core → Core) : (s.modCore c g).sys = s.sys := rfl
@[simp] theorem State.modCore_hq (s : State) (c : Fin 8) (g : Core → Core) : (s.modCore c g).hq = s.hq := rfl
@[simp] theorem State.modCore_sched (s : State) (c : Fin 8) (g : Core → Core) : (s.modCore c g).sched = { s.sched with cores := s.sched.cores.modify c g } := rfl
@[simp] theorem State.modCore_flt (s : State) (c : Fin 8) (g : Core → Core) : (s.modCore c g).flt = s.flt := rfl
@[simp] theorem State.modCore_recorder (s : State) (c : Fin 8) (g : Core → Core) : (s.modCore c g).recorder = s.recorder := rfl
@[simp] theorem State.modCore_nv (s : State) (c : Fin 8) (g : Core → Core) : (s.modCore c g).nv = s.nv := rfl
@[simp] theorem State.modCore_cfg (s : State) (c : Fin 8) (g : Core → Core) : (s.modCore c g).cfg = s.cfg := rfl
@[simp] theorem State.modCore_rdData (s : State) (c : Fin 8) (g : Core → Core) : (s.modCore c g).rdData = s.rdData := rfl
@[simp] theorem State.modCore_wheel (s : State) (c : Fin 8) (g : Core → Core) : (s.modCore c g).wheel = s.wheel := rfl
@[simp] theorem State.modCore_fbps (s : State) (c : Fin 8) (g : Core → Core) : (s.modCore c g).fbps = s.fbps := rfl
@[simp] theorem State.modCore_tiles (s : State) (c : Fin 8) (g : Core → Core) : (s.modCore c g).tiles = s.tiles := rfl
@[simp] theorem State.modCore_acq (s : State) (c : Fin 8) (g : Core → Core) : (s.modCore c g).acq = s.acq := rfl
@[simp] theorem State.modCore_lowWords (s : State) (c : Fin 8) (g : Core → Core) : (s.modCore c g).lowWords = s.lowWords := rfl
@[simp] theorem State.modCore_ains (s : State) (c : Fin 8) (g : Core → Core) : (s.modCore c g).ains = s.ains := rfl
@[simp] theorem State.modCore_clusters (s : State) (c : Fin 8) (g : Core → Core) : (s.modCore c g).clusters = s.clusters := rfl
@[simp] theorem State.modCore_clWas (s : State) (c : Fin 8) (g : Core → Core) : (s.modCore c g).clWas = s.clWas := rfl
@[simp] theorem State.modCore_pps (s : State) (c : Fin 8) (g : Core → Core) : (s.modCore c g).pps = s.pps := rfl
@[simp] theorem State.modCore_qarms (s : State) (c : Fin 8) (g : Core → Core) : (s.modCore c g).qarms = s.qarms := rfl
@[simp] theorem State.modCore_frameSeq (s : State) (c : Fin 8) (g : Core → Core) : (s.modCore c g).frameSeq = s.frameSeq := rfl
@[simp] theorem State.modCore_jobsDue (s : State) (c : Fin 8) (g : Core → Core) : (s.modCore c g).jobsDue = s.jobsDue := rfl
@[simp] theorem State.modCore_safe (s : State) (c : Fin 8) (g : Core → Core) : (s.modCore c g).safe = s.safe := rfl
@[simp] theorem State.modCore_doors (s : State) (c : Fin 8) (g : Core → Core) : (s.modCore c g).doors = s.doors := rfl
@[simp] theorem State.modCore_rings (s : State) (c : Fin 8) (g : Core → Core) : (s.modCore c g).rings = s.rings := rfl
@[simp] theorem State.modCore_fio (s : State) (c : Fin 8) (g : Core → Core) : (s.modCore c g).fio = s.fio := rfl
@[simp] theorem State.modCore_pair (s : State) (c : Fin 8) (g : Core → Core) : (s.modCore c g).pair = s.pair := rfl
@[simp] theorem State.modCore_mem (s : State) (c : Fin 8) (g : Core → Core) : (s.modCore c g).mem = s.mem := rfl
@[simp] theorem State.modCore_readWords (s : State) (c : Fin 8) (g : Core → Core) : (s.modCore c g).readWords = s.readWords := rfl
@[simp] theorem State.modCore_host (s : State) (c : Fin 8) (g : Core → Core) : (s.modCore c g).host = s.host := rfl
@[simp] theorem State.modCore_free (s : State) (c : Fin 8) (g : Core → Core) : (s.modCore c g).free = s.free := rfl
@[simp] theorem State.modCore_rd (s : State) (c : Fin 8) (g : Core → Core) (q : Nat) : (s.modCore c g).rd q = s.rd q := rfl
@[simp] theorem State.modCore_f (s : State) (c : Fin 8) (g : Core → Core) (y : Fld) : (s.modCore c g).f y = s.f y := rfl
@[simp] theorem State.modCore_flag (s : State) (c : Fin 8) (g : Core → Core) (y : Fld) : (s.modCore c g).flag y = s.flag y := rfl
@[simp] theorem State.modCore_rdN (s : State) (c : Fin 8) (g : Core → Core) (q : Nat) : (s.modCore c g).rdN q = s.rdN q := rfl
@[simp] theorem State.modCore_rd2 (s : State) (c : Fin 8) (g : Core → Core) (q : Nat → Nat) : (s.modCore c g).rd2 q = s.rd2 q := rfl
/-! setResult -/
@[simp] theorem State.setResult_regs (s : State) (c : Fin 8) (a h : Nat) : (s.setResult c a h).regs = s.regs := rfl
@[simp] theorem State.setResult_time (s : State) (c : Fin 8) (a h : Nat) : (s.setResult c a h).time = s.time := rfl
@[simp] theorem State.setResult_sys (s : State) (c : Fin 8) (a h : Nat) : (s.setResult c a h).sys = s.sys := rfl
@[simp] theorem State.setResult_hq (s : State) (c : Fin 8) (a h : Nat) : (s.setResult c a h).hq = s.hq := rfl
@[simp] theorem State.setResult_flt (s : State) (c : Fin 8) (a h : Nat) : (s.setResult c a h).flt = s.flt := rfl
@[simp] theorem State.setResult_recorder (s : State) (c : Fin 8) (a h : Nat) : (s.setResult c a h).recorder = s.recorder := rfl
@[simp] theorem State.setResult_nv (s : State) (c : Fin 8) (a h : Nat) : (s.setResult c a h).nv = s.nv := rfl
@[simp] theorem State.setResult_cfg (s : State) (c : Fin 8) (a h : Nat) : (s.setResult c a h).cfg = s.cfg := rfl
@[simp] theorem State.setResult_rdData (s : State) (c : Fin 8) (a h : Nat) : (s.setResult c a h).rdData = s.rdData := rfl
@[simp] theorem State.setResult_wheel (s : State) (c : Fin 8) (a h : Nat) : (s.setResult c a h).wheel = s.wheel := rfl
@[simp] theorem State.setResult_fbps (s : State) (c : Fin 8) (a h : Nat) : (s.setResult c a h).fbps = s.fbps := rfl
@[simp] theorem State.setResult_tiles (s : State) (c : Fin 8) (a h : Nat) : (s.setResult c a h).tiles = s.tiles := rfl
@[simp] theorem State.setResult_acq (s : State) (c : Fin 8) (a h : Nat) : (s.setResult c a h).acq = s.acq := rfl
@[simp] theorem State.setResult_lowWords (s : State) (c : Fin 8) (a h : Nat) : (s.setResult c a h).lowWords = s.lowWords := rfl
@[simp] theorem State.setResult_ains (s : State) (c : Fin 8) (a h : Nat) : (s.setResult c a h).ains = s.ains := rfl
@[simp] theorem State.setResult_clusters (s : State) (c : Fin 8) (a h : Nat) : (s.setResult c a h).clusters = s.clusters := rfl
@[simp] theorem State.setResult_clWas (s : State) (c : Fin 8) (a h : Nat) : (s.setResult c a h).clWas = s.clWas := rfl
@[simp] theorem State.setResult_pps (s : State) (c : Fin 8) (a h : Nat) : (s.setResult c a h).pps = s.pps := rfl
@[simp] theorem State.setResult_qarms (s : State) (c : Fin 8) (a h : Nat) : (s.setResult c a h).qarms = s.qarms := rfl
@[simp] theorem State.setResult_frameSeq (s : State) (c : Fin 8) (a h : Nat) : (s.setResult c a h).frameSeq = s.frameSeq := rfl
@[simp] theorem State.setResult_jobsDue (s : State) (c : Fin 8) (a h : Nat) : (s.setResult c a h).jobsDue = s.jobsDue := rfl
@[simp] theorem State.setResult_safe (s : State) (c : Fin 8) (a h : Nat) : (s.setResult c a h).safe = s.safe := rfl
@[simp] theorem State.setResult_doors (s : State) (c : Fin 8) (a h : Nat) : (s.setResult c a h).doors = s.doors := rfl
@[simp] theorem State.setResult_rings (s : State) (c : Fin 8) (a h : Nat) : (s.setResult c a h).rings = s.rings := rfl
@[simp] theorem State.setResult_fio (s : State) (c : Fin 8) (a h : Nat) : (s.setResult c a h).fio = s.fio := rfl
@[simp] theorem State.setResult_pair (s : State) (c : Fin 8) (a h : Nat) : (s.setResult c a h).pair = s.pair := rfl
@[simp] theorem State.setResult_mem (s : State) (c : Fin 8) (a h : Nat) : (s.setResult c a h).mem = s.mem := rfl
@[simp] theorem State.setResult_readWords (s : State) (c : Fin 8) (a h : Nat) : (s.setResult c a h).readWords = s.readWords := rfl
@[simp] theorem State.setResult_host (s : State) (c : Fin 8) (a h : Nat) : (s.setResult c a h).host = s.host := rfl
@[simp] theorem State.setResult_free (s : State) (c : Fin 8) (a h : Nat) : (s.setResult c a h).free = s.free := rfl
@[simp] theorem State.setResult_rd (s : State) (c : Fin 8) (a h : Nat) (q : Nat) : (s.setResult c a h).rd q = s.rd q := rfl
@[simp] theorem State.setResult_f (s : State) (c : Fin 8) (a h : Nat) (y : Fld) : (s.setResult c a h).f y = s.f y := rfl
@[simp] theorem State.setResult_flag (s : State) (c : Fin 8) (a h : Nat) (y : Fld) : (s.setResult c a h).flag y = s.flag y := rfl
@[simp] theorem State.setResult_rdN (s : State) (c : Fin 8) (a h : Nat) (q : Nat) : (s.setResult c a h).rdN q = s.rdN q := rfl
@[simp] theorem State.setResult_rd2 (s : State) (c : Fin 8) (a h : Nat) (q : Nat → Nat) : (s.setResult c a h).rd2 q = s.rd2 q := rfl
/-! modTile -/
@[simp] theorem State.modTile_regs (s : State) (a : Fin 96) (g : Tile → Tile) : (s.modTile a g).regs = s.regs := rfl
@[simp] theorem State.modTile_time (s : State) (a : Fin 96) (g : Tile → Tile) : (s.modTile a g).time = s.time := rfl
@[simp] theorem State.modTile_sys (s : State) (a : Fin 96) (g : Tile → Tile) : (s.modTile a g).sys = s.sys := rfl
@[simp] theorem State.modTile_hq (s : State) (a : Fin 96) (g : Tile → Tile) : (s.modTile a g).hq = s.hq := rfl
@[simp] theorem State.modTile_sched (s : State) (a : Fin 96) (g : Tile → Tile) : (s.modTile a g).sched = s.sched := rfl
@[simp] theorem State.modTile_flt (s : State) (a : Fin 96) (g : Tile → Tile) : (s.modTile a g).flt = s.flt := rfl
@[simp] theorem State.modTile_recorder (s : State) (a : Fin 96) (g : Tile → Tile) : (s.modTile a g).recorder = s.recorder := rfl
@[simp] theorem State.modTile_nv (s : State) (a : Fin 96) (g : Tile → Tile) : (s.modTile a g).nv = s.nv := rfl
@[simp] theorem State.modTile_cfg (s : State) (a : Fin 96) (g : Tile → Tile) : (s.modTile a g).cfg = s.cfg := rfl
@[simp] theorem State.modTile_rdData (s : State) (a : Fin 96) (g : Tile → Tile) : (s.modTile a g).rdData = s.rdData := rfl
@[simp] theorem State.modTile_wheel (s : State) (a : Fin 96) (g : Tile → Tile) : (s.modTile a g).wheel = s.wheel := rfl
@[simp] theorem State.modTile_fbps (s : State) (a : Fin 96) (g : Tile → Tile) : (s.modTile a g).fbps = s.fbps := rfl
@[simp] theorem State.modTile_tiles (s : State) (a : Fin 96) (g : Tile → Tile) : (s.modTile a g).tiles = s.tiles.modify a g := rfl
@[simp] theorem State.modTile_acq (s : State) (a : Fin 96) (g : Tile → Tile) : (s.modTile a g).acq = s.acq := rfl
@[simp] theorem State.modTile_lowWords (s : State) (a : Fin 96) (g : Tile → Tile) : (s.modTile a g).lowWords = s.lowWords := rfl
@[simp] theorem State.modTile_ains (s : State) (a : Fin 96) (g : Tile → Tile) : (s.modTile a g).ains = s.ains := rfl
@[simp] theorem State.modTile_clusters (s : State) (a : Fin 96) (g : Tile → Tile) : (s.modTile a g).clusters = s.clusters := rfl
@[simp] theorem State.modTile_clWas (s : State) (a : Fin 96) (g : Tile → Tile) : (s.modTile a g).clWas = s.clWas := rfl
@[simp] theorem State.modTile_pps (s : State) (a : Fin 96) (g : Tile → Tile) : (s.modTile a g).pps = s.pps := rfl
@[simp] theorem State.modTile_qarms (s : State) (a : Fin 96) (g : Tile → Tile) : (s.modTile a g).qarms = s.qarms := rfl
@[simp] theorem State.modTile_frameSeq (s : State) (a : Fin 96) (g : Tile → Tile) : (s.modTile a g).frameSeq = s.frameSeq := rfl
@[simp] theorem State.modTile_jobsDue (s : State) (a : Fin 96) (g : Tile → Tile) : (s.modTile a g).jobsDue = s.jobsDue := rfl
@[simp] theorem State.modTile_safe (s : State) (a : Fin 96) (g : Tile → Tile) : (s.modTile a g).safe = s.safe := rfl
@[simp] theorem State.modTile_doors (s : State) (a : Fin 96) (g : Tile → Tile) : (s.modTile a g).doors = s.doors := rfl
@[simp] theorem State.modTile_rings (s : State) (a : Fin 96) (g : Tile → Tile) : (s.modTile a g).rings = s.rings := rfl
@[simp] theorem State.modTile_fio (s : State) (a : Fin 96) (g : Tile → Tile) : (s.modTile a g).fio = s.fio := rfl
@[simp] theorem State.modTile_pair (s : State) (a : Fin 96) (g : Tile → Tile) : (s.modTile a g).pair = s.pair := rfl
@[simp] theorem State.modTile_mem (s : State) (a : Fin 96) (g : Tile → Tile) : (s.modTile a g).mem = s.mem := rfl
@[simp] theorem State.modTile_readWords (s : State) (a : Fin 96) (g : Tile → Tile) : (s.modTile a g).readWords = s.readWords := rfl
@[simp] theorem State.modTile_host (s : State) (a : Fin 96) (g : Tile → Tile) : (s.modTile a g).host = s.host := rfl
@[simp] theorem State.modTile_free (s : State) (a : Fin 96) (g : Tile → Tile) : (s.modTile a g).free = s.free := rfl
@[simp] theorem State.modTile_rd (s : State) (a : Fin 96) (g : Tile → Tile) (q : Nat) : (s.modTile a g).rd q = s.rd q := rfl
@[simp] theorem State.modTile_f (s : State) (a : Fin 96) (g : Tile → Tile) (y : Fld) : (s.modTile a g).f y = s.f y := rfl
@[simp] theorem State.modTile_flag (s : State) (a : Fin 96) (g : Tile → Tile) (y : Fld) : (s.modTile a g).flag y = s.flag y := rfl
@[simp] theorem State.modTile_rdN (s : State) (a : Fin 96) (g : Tile → Tile) (q : Nat) : (s.modTile a g).rdN q = s.rdN q := rfl
@[simp] theorem State.modTile_rd2 (s : State) (a : Fin 96) (g : Tile → Tile) (q : Nat → Nat) : (s.modTile a g).rd2 q = s.rd2 q := rfl
/-! modFbp -/
@[simp] theorem State.modFbp_regs (s : State) (p : Fin 32) (g : FbPort → FbPort) : (s.modFbp p g).regs = s.regs := rfl
@[simp] theorem State.modFbp_time (s : State) (p : Fin 32) (g : FbPort → FbPort) : (s.modFbp p g).time = s.time := rfl
@[simp] theorem State.modFbp_sys (s : State) (p : Fin 32) (g : FbPort → FbPort) : (s.modFbp p g).sys = s.sys := rfl
@[simp] theorem State.modFbp_hq (s : State) (p : Fin 32) (g : FbPort → FbPort) : (s.modFbp p g).hq = s.hq := rfl
@[simp] theorem State.modFbp_sched (s : State) (p : Fin 32) (g : FbPort → FbPort) : (s.modFbp p g).sched = s.sched := rfl
@[simp] theorem State.modFbp_flt (s : State) (p : Fin 32) (g : FbPort → FbPort) : (s.modFbp p g).flt = s.flt := rfl
@[simp] theorem State.modFbp_recorder (s : State) (p : Fin 32) (g : FbPort → FbPort) : (s.modFbp p g).recorder = s.recorder := rfl
@[simp] theorem State.modFbp_nv (s : State) (p : Fin 32) (g : FbPort → FbPort) : (s.modFbp p g).nv = s.nv := rfl
@[simp] theorem State.modFbp_cfg (s : State) (p : Fin 32) (g : FbPort → FbPort) : (s.modFbp p g).cfg = s.cfg := rfl
@[simp] theorem State.modFbp_rdData (s : State) (p : Fin 32) (g : FbPort → FbPort) : (s.modFbp p g).rdData = s.rdData := rfl
@[simp] theorem State.modFbp_wheel (s : State) (p : Fin 32) (g : FbPort → FbPort) : (s.modFbp p g).wheel = s.wheel := rfl
@[simp] theorem State.modFbp_fbps (s : State) (p : Fin 32) (g : FbPort → FbPort) : (s.modFbp p g).fbps = s.fbps.modify p g := rfl
@[simp] theorem State.modFbp_tiles (s : State) (p : Fin 32) (g : FbPort → FbPort) : (s.modFbp p g).tiles = s.tiles := rfl
@[simp] theorem State.modFbp_acq (s : State) (p : Fin 32) (g : FbPort → FbPort) : (s.modFbp p g).acq = s.acq := rfl
@[simp] theorem State.modFbp_lowWords (s : State) (p : Fin 32) (g : FbPort → FbPort) : (s.modFbp p g).lowWords = s.lowWords := rfl
@[simp] theorem State.modFbp_ains (s : State) (p : Fin 32) (g : FbPort → FbPort) : (s.modFbp p g).ains = s.ains := rfl
@[simp] theorem State.modFbp_clusters (s : State) (p : Fin 32) (g : FbPort → FbPort) : (s.modFbp p g).clusters = s.clusters := rfl
@[simp] theorem State.modFbp_clWas (s : State) (p : Fin 32) (g : FbPort → FbPort) : (s.modFbp p g).clWas = s.clWas := rfl
@[simp] theorem State.modFbp_pps (s : State) (p : Fin 32) (g : FbPort → FbPort) : (s.modFbp p g).pps = s.pps := rfl
@[simp] theorem State.modFbp_qarms (s : State) (p : Fin 32) (g : FbPort → FbPort) : (s.modFbp p g).qarms = s.qarms := rfl
@[simp] theorem State.modFbp_frameSeq (s : State) (p : Fin 32) (g : FbPort → FbPort) : (s.modFbp p g).frameSeq = s.frameSeq := rfl
@[simp] theorem State.modFbp_jobsDue (s : State) (p : Fin 32) (g : FbPort → FbPort) : (s.modFbp p g).jobsDue = s.jobsDue := rfl
@[simp] theorem State.modFbp_safe (s : State) (p : Fin 32) (g : FbPort → FbPort) : (s.modFbp p g).safe = s.safe := rfl
@[simp] theorem State.modFbp_doors (s : State) (p : Fin 32) (g : FbPort → FbPort) : (s.modFbp p g).doors = s.doors := rfl
@[simp] theorem State.modFbp_rings (s : State) (p : Fin 32) (g : FbPort → FbPort) : (s.modFbp p g).rings = s.rings := rfl
@[simp] theorem State.modFbp_fio (s : State) (p : Fin 32) (g : FbPort → FbPort) : (s.modFbp p g).fio = s.fio := rfl
@[simp] theorem State.modFbp_pair (s : State) (p : Fin 32) (g : FbPort → FbPort) : (s.modFbp p g).pair = s.pair := rfl
@[simp] theorem State.modFbp_mem (s : State) (p : Fin 32) (g : FbPort → FbPort) : (s.modFbp p g).mem = s.mem := rfl
@[simp] theorem State.modFbp_readWords (s : State) (p : Fin 32) (g : FbPort → FbPort) : (s.modFbp p g).readWords = s.readWords := rfl
@[simp] theorem State.modFbp_host (s : State) (p : Fin 32) (g : FbPort → FbPort) : (s.modFbp p g).host = s.host := rfl
@[simp] theorem State.modFbp_free (s : State) (p : Fin 32) (g : FbPort → FbPort) : (s.modFbp p g).free = s.free := rfl
@[simp] theorem State.modFbp_rd (s : State) (p : Fin 32) (g : FbPort → FbPort) (q : Nat) : (s.modFbp p g).rd q = s.rd q := rfl
@[simp] theorem State.modFbp_f (s : State) (p : Fin 32) (g : FbPort → FbPort) (y : Fld) : (s.modFbp p g).f y = s.f y := rfl
@[simp] theorem State.modFbp_flag (s : State) (p : Fin 32) (g : FbPort → FbPort) (y : Fld) : (s.modFbp p g).flag y = s.flag y := rfl
@[simp] theorem State.modFbp_rdN (s : State) (p : Fin 32) (g : FbPort → FbPort) (q : Nat) : (s.modFbp p g).rdN q = s.rdN q := rfl
@[simp] theorem State.modFbp_rd2 (s : State) (p : Fin 32) (g : FbPort → FbPort) (q : Nat → Nat) : (s.modFbp p g).rd2 q = s.rd2 q := rfl
/-! modQueue -/
@[simp] theorem State.modQueue_regs (s : State) (n : Fin 16) (g : Queue → Queue) : (s.modQueue n g).regs = s.regs := rfl
@[simp] theorem State.modQueue_time (s : State) (n : Fin 16) (g : Queue → Queue) : (s.modQueue n g).time = s.time := rfl
@[simp] theorem State.modQueue_sys (s : State) (n : Fin 16) (g : Queue → Queue) : (s.modQueue n g).sys = s.sys := rfl
@[simp] theorem State.modQueue_hq (s : State) (n : Fin 16) (g : Queue → Queue) : (s.modQueue n g).hq = { s.hq with q := s.hq.q.modify n g } := rfl
@[simp] theorem State.modQueue_sched (s : State) (n : Fin 16) (g : Queue → Queue) : (s.modQueue n g).sched = s.sched := rfl
@[simp] theorem State.modQueue_flt (s : State) (n : Fin 16) (g : Queue → Queue) : (s.modQueue n g).flt = s.flt := rfl
@[simp] theorem State.modQueue_recorder (s : State) (n : Fin 16) (g : Queue → Queue) : (s.modQueue n g).recorder = s.recorder := rfl
@[simp] theorem State.modQueue_nv (s : State) (n : Fin 16) (g : Queue → Queue) : (s.modQueue n g).nv = s.nv := rfl
@[simp] theorem State.modQueue_cfg (s : State) (n : Fin 16) (g : Queue → Queue) : (s.modQueue n g).cfg = s.cfg := rfl
@[simp] theorem State.modQueue_rdData (s : State) (n : Fin 16) (g : Queue → Queue) : (s.modQueue n g).rdData = s.rdData := rfl
@[simp] theorem State.modQueue_wheel (s : State) (n : Fin 16) (g : Queue → Queue) : (s.modQueue n g).wheel = s.wheel := rfl
@[simp] theorem State.modQueue_fbps (s : State) (n : Fin 16) (g : Queue → Queue) : (s.modQueue n g).fbps = s.fbps := rfl
@[simp] theorem State.modQueue_tiles (s : State) (n : Fin 16) (g : Queue → Queue) : (s.modQueue n g).tiles = s.tiles := rfl
@[simp] theorem State.modQueue_acq (s : State) (n : Fin 16) (g : Queue → Queue) : (s.modQueue n g).acq = s.acq := rfl
@[simp] theorem State.modQueue_lowWords (s : State) (n : Fin 16) (g : Queue → Queue) : (s.modQueue n g).lowWords = s.lowWords := rfl
@[simp] theorem State.modQueue_ains (s : State) (n : Fin 16) (g : Queue → Queue) : (s.modQueue n g).ains = s.ains := rfl
@[simp] theorem State.modQueue_clusters (s : State) (n : Fin 16) (g : Queue → Queue) : (s.modQueue n g).clusters = s.clusters := rfl
@[simp] theorem State.modQueue_clWas (s : State) (n : Fin 16) (g : Queue → Queue) : (s.modQueue n g).clWas = s.clWas := rfl
@[simp] theorem State.modQueue_pps (s : State) (n : Fin 16) (g : Queue → Queue) : (s.modQueue n g).pps = s.pps := rfl
@[simp] theorem State.modQueue_qarms (s : State) (n : Fin 16) (g : Queue → Queue) : (s.modQueue n g).qarms = s.qarms := rfl
@[simp] theorem State.modQueue_frameSeq (s : State) (n : Fin 16) (g : Queue → Queue) : (s.modQueue n g).frameSeq = s.frameSeq := rfl
@[simp] theorem State.modQueue_jobsDue (s : State) (n : Fin 16) (g : Queue → Queue) : (s.modQueue n g).jobsDue = s.jobsDue := rfl
@[simp] theorem State.modQueue_safe (s : State) (n : Fin 16) (g : Queue → Queue) : (s.modQueue n g).safe = s.safe := rfl
@[simp] theorem State.modQueue_doors (s : State) (n : Fin 16) (g : Queue → Queue) : (s.modQueue n g).doors = s.doors := rfl
@[simp] theorem State.modQueue_rings (s : State) (n : Fin 16) (g : Queue → Queue) : (s.modQueue n g).rings = s.rings := rfl
@[simp] theorem State.modQueue_fio (s : State) (n : Fin 16) (g : Queue → Queue) : (s.modQueue n g).fio = s.fio := rfl
@[simp] theorem State.modQueue_pair (s : State) (n : Fin 16) (g : Queue → Queue) : (s.modQueue n g).pair = s.pair := rfl
@[simp] theorem State.modQueue_mem (s : State) (n : Fin 16) (g : Queue → Queue) : (s.modQueue n g).mem = s.mem := rfl
@[simp] theorem State.modQueue_readWords (s : State) (n : Fin 16) (g : Queue → Queue) : (s.modQueue n g).readWords = s.readWords := rfl
@[simp] theorem State.modQueue_host (s : State) (n : Fin 16) (g : Queue → Queue) : (s.modQueue n g).host = s.host := rfl
@[simp] theorem State.modQueue_free (s : State) (n : Fin 16) (g : Queue → Queue) : (s.modQueue n g).free = s.free := rfl
@[simp] theorem State.modQueue_rd (s : State) (n : Fin 16) (g : Queue → Queue) (q : Nat) : (s.modQueue n g).rd q = s.rd q := rfl
@[simp] theorem State.modQueue_f (s : State) (n : Fin 16) (g : Queue → Queue) (y : Fld) : (s.modQueue n g).f y = s.f y := rfl
@[simp] theorem State.modQueue_flag (s : State) (n : Fin 16) (g : Queue → Queue) (y : Fld) : (s.modQueue n g).flag y = s.flag y := rfl
@[simp] theorem State.modQueue_rdN (s : State) (n : Fin 16) (g : Queue → Queue) (q : Nat) : (s.modQueue n g).rdN q = s.rdN q := rfl
@[simp] theorem State.modQueue_rd2 (s : State) (n : Fin 16) (g : Queue → Queue) (q : Nat → Nat) : (s.modQueue n g).rd2 q = s.rd2 q := rfl
/-! msix -/
@[simp] theorem State.msix_regs (s : State) (v : Fin 8) : (s.msix v).regs = s.regs := rfl
@[simp] theorem State.msix_time (s : State) (v : Fin 8) : (s.msix v).time = s.time := rfl
@[simp] theorem State.msix_sys (s : State) (v : Fin 8) : (s.msix v).sys = s.sys := rfl
@[simp] theorem State.msix_hq (s : State) (v : Fin 8) : (s.msix v).hq = s.hq := rfl
@[simp] theorem State.msix_sched (s : State) (v : Fin 8) : (s.msix v).sched = s.sched := rfl
@[simp] theorem State.msix_flt (s : State) (v : Fin 8) : (s.msix v).flt = s.flt := rfl
@[simp] theorem State.msix_recorder (s : State) (v : Fin 8) : (s.msix v).recorder = s.recorder := rfl
@[simp] theorem State.msix_nv (s : State) (v : Fin 8) : (s.msix v).nv = s.nv := rfl
@[simp] theorem State.msix_cfg (s : State) (v : Fin 8) : (s.msix v).cfg = s.cfg := rfl
@[simp] theorem State.msix_rdData (s : State) (v : Fin 8) : (s.msix v).rdData = s.rdData := rfl
@[simp] theorem State.msix_wheel (s : State) (v : Fin 8) : (s.msix v).wheel = s.wheel := rfl
@[simp] theorem State.msix_fbps (s : State) (v : Fin 8) : (s.msix v).fbps = s.fbps := rfl
@[simp] theorem State.msix_tiles (s : State) (v : Fin 8) : (s.msix v).tiles = s.tiles := rfl
@[simp] theorem State.msix_acq (s : State) (v : Fin 8) : (s.msix v).acq = s.acq := rfl
@[simp] theorem State.msix_lowWords (s : State) (v : Fin 8) : (s.msix v).lowWords = s.lowWords := rfl
@[simp] theorem State.msix_ains (s : State) (v : Fin 8) : (s.msix v).ains = s.ains := rfl
@[simp] theorem State.msix_clusters (s : State) (v : Fin 8) : (s.msix v).clusters = s.clusters := rfl
@[simp] theorem State.msix_clWas (s : State) (v : Fin 8) : (s.msix v).clWas = s.clWas := rfl
@[simp] theorem State.msix_pps (s : State) (v : Fin 8) : (s.msix v).pps = s.pps := rfl
@[simp] theorem State.msix_qarms (s : State) (v : Fin 8) : (s.msix v).qarms = s.qarms := rfl
@[simp] theorem State.msix_frameSeq (s : State) (v : Fin 8) : (s.msix v).frameSeq = s.frameSeq := rfl
@[simp] theorem State.msix_jobsDue (s : State) (v : Fin 8) : (s.msix v).jobsDue = s.jobsDue := rfl
@[simp] theorem State.msix_safe (s : State) (v : Fin 8) : (s.msix v).safe = s.safe := rfl
@[simp] theorem State.msix_doors (s : State) (v : Fin 8) : (s.msix v).doors = s.doors := rfl
@[simp] theorem State.msix_rings (s : State) (v : Fin 8) : (s.msix v).rings = s.rings := rfl
@[simp] theorem State.msix_fio (s : State) (v : Fin 8) : (s.msix v).fio = s.fio := rfl
@[simp] theorem State.msix_pair (s : State) (v : Fin 8) : (s.msix v).pair = s.pair := rfl
@[simp] theorem State.msix_mem (s : State) (v : Fin 8) : (s.msix v).mem = s.mem := rfl
@[simp] theorem State.msix_readWords (s : State) (v : Fin 8) : (s.msix v).readWords = s.readWords := rfl
@[simp] theorem State.msix_host (s : State) (v : Fin 8) : (s.msix v).host = { s.host with msix := s.host.msix.modify v (· + 1) } := rfl
@[simp] theorem State.msix_free (s : State) (v : Fin 8) : (s.msix v).free = s.free := rfl
@[simp] theorem State.msix_rd (s : State) (v : Fin 8) (q : Nat) : (s.msix v).rd q = s.rd q := rfl
@[simp] theorem State.msix_f (s : State) (v : Fin 8) (y : Fld) : (s.msix v).f y = s.f y := rfl
@[simp] theorem State.msix_flag (s : State) (v : Fin 8) (y : Fld) : (s.msix v).flag y = s.flag y := rfl
@[simp] theorem State.msix_rdN (s : State) (v : Fin 8) (q : Nat) : (s.msix v).rdN q = s.rdN q := rfl
@[simp] theorem State.msix_rd2 (s : State) (v : Fin 8) (q : Nat → Nat) : (s.msix v).rd2 q = s.rd2 q := rfl
/-! hostWrite -/
@[simp] theorem State.hostWrite_regs (s : State) (a : Nat) (bs : List Byte) : (s.hostWrite a bs).regs = s.regs := rfl
@[simp] theorem State.hostWrite_time (s : State) (a : Nat) (bs : List Byte) : (s.hostWrite a bs).time = s.time := rfl
@[simp] theorem State.hostWrite_sys (s : State) (a : Nat) (bs : List Byte) : (s.hostWrite a bs).sys = s.sys := rfl
@[simp] theorem State.hostWrite_hq (s : State) (a : Nat) (bs : List Byte) : (s.hostWrite a bs).hq = s.hq := rfl
@[simp] theorem State.hostWrite_sched (s : State) (a : Nat) (bs : List Byte) : (s.hostWrite a bs).sched = s.sched := rfl
@[simp] theorem State.hostWrite_flt (s : State) (a : Nat) (bs : List Byte) : (s.hostWrite a bs).flt = s.flt := rfl
@[simp] theorem State.hostWrite_recorder (s : State) (a : Nat) (bs : List Byte) : (s.hostWrite a bs).recorder = s.recorder := rfl
@[simp] theorem State.hostWrite_nv (s : State) (a : Nat) (bs : List Byte) : (s.hostWrite a bs).nv = s.nv := rfl
@[simp] theorem State.hostWrite_cfg (s : State) (a : Nat) (bs : List Byte) : (s.hostWrite a bs).cfg = s.cfg := rfl
@[simp] theorem State.hostWrite_rdData (s : State) (a : Nat) (bs : List Byte) : (s.hostWrite a bs).rdData = s.rdData := rfl
@[simp] theorem State.hostWrite_wheel (s : State) (a : Nat) (bs : List Byte) : (s.hostWrite a bs).wheel = s.wheel := rfl
@[simp] theorem State.hostWrite_fbps (s : State) (a : Nat) (bs : List Byte) : (s.hostWrite a bs).fbps = s.fbps := rfl
@[simp] theorem State.hostWrite_tiles (s : State) (a : Nat) (bs : List Byte) : (s.hostWrite a bs).tiles = s.tiles := rfl
@[simp] theorem State.hostWrite_acq (s : State) (a : Nat) (bs : List Byte) : (s.hostWrite a bs).acq = s.acq := rfl
@[simp] theorem State.hostWrite_lowWords (s : State) (a : Nat) (bs : List Byte) : (s.hostWrite a bs).lowWords = s.lowWords := rfl
@[simp] theorem State.hostWrite_ains (s : State) (a : Nat) (bs : List Byte) : (s.hostWrite a bs).ains = s.ains := rfl
@[simp] theorem State.hostWrite_clusters (s : State) (a : Nat) (bs : List Byte) : (s.hostWrite a bs).clusters = s.clusters := rfl
@[simp] theorem State.hostWrite_clWas (s : State) (a : Nat) (bs : List Byte) : (s.hostWrite a bs).clWas = s.clWas := rfl
@[simp] theorem State.hostWrite_pps (s : State) (a : Nat) (bs : List Byte) : (s.hostWrite a bs).pps = s.pps := rfl
@[simp] theorem State.hostWrite_qarms (s : State) (a : Nat) (bs : List Byte) : (s.hostWrite a bs).qarms = s.qarms := rfl
@[simp] theorem State.hostWrite_frameSeq (s : State) (a : Nat) (bs : List Byte) : (s.hostWrite a bs).frameSeq = s.frameSeq := rfl
@[simp] theorem State.hostWrite_jobsDue (s : State) (a : Nat) (bs : List Byte) : (s.hostWrite a bs).jobsDue = s.jobsDue := rfl
@[simp] theorem State.hostWrite_safe (s : State) (a : Nat) (bs : List Byte) : (s.hostWrite a bs).safe = s.safe := rfl
@[simp] theorem State.hostWrite_doors (s : State) (a : Nat) (bs : List Byte) : (s.hostWrite a bs).doors = s.doors := rfl
@[simp] theorem State.hostWrite_rings (s : State) (a : Nat) (bs : List Byte) : (s.hostWrite a bs).rings = s.rings := rfl
@[simp] theorem State.hostWrite_fio (s : State) (a : Nat) (bs : List Byte) : (s.hostWrite a bs).fio = s.fio := rfl
@[simp] theorem State.hostWrite_pair (s : State) (a : Nat) (bs : List Byte) : (s.hostWrite a bs).pair = s.pair := rfl
@[simp] theorem State.hostWrite_mem (s : State) (a : Nat) (bs : List Byte) : (s.hostWrite a bs).mem = s.mem := rfl
@[simp] theorem State.hostWrite_readWords (s : State) (a : Nat) (bs : List Byte) : (s.hostWrite a bs).readWords = s.readWords := rfl
@[simp] theorem State.hostWrite_host (s : State) (a : Nat) (bs : List Byte) : (s.hostWrite a bs).host = { s.host with mem := s.host.mem.setMany 0 a bs } := rfl
@[simp] theorem State.hostWrite_free (s : State) (a : Nat) (bs : List Byte) : (s.hostWrite a bs).free = s.free := rfl
@[simp] theorem State.hostWrite_rd (s : State) (a : Nat) (bs : List Byte) (q : Nat) : (s.hostWrite a bs).rd q = s.rd q := rfl
@[simp] theorem State.hostWrite_f (s : State) (a : Nat) (bs : List Byte) (y : Fld) : (s.hostWrite a bs).f y = s.f y := rfl
@[simp] theorem State.hostWrite_flag (s : State) (a : Nat) (bs : List Byte) (y : Fld) : (s.hostWrite a bs).flag y = s.flag y := rfl
@[simp] theorem State.hostWrite_rdN (s : State) (a : Nat) (bs : List Byte) (q : Nat) : (s.hostWrite a bs).rdN q = s.rdN q := rfl
@[simp] theorem State.hostWrite_rd2 (s : State) (a : Nat) (bs : List Byte) (q : Nat → Nat) : (s.hostWrite a bs).rd2 q = s.rd2 q := rfl
/-! modAcq -/
@[simp] theorem State.modAcq_regs (s : State) (g : AcqState → AcqState) : (s.modAcq g).regs = s.regs := rfl
@[simp] theorem State.modAcq_time (s : State) (g : AcqState → AcqState) : (s.modAcq g).time = s.time := rfl
@[simp] theorem State.modAcq_sys (s : State) (g : AcqState → AcqState) : (s.modAcq g).sys = s.sys := rfl
@[simp] theorem State.modAcq_hq (s : State) (g : AcqState → AcqState) : (s.modAcq g).hq = s.hq := rfl
@[simp] theorem State.modAcq_sched (s : State) (g : AcqState → AcqState) : (s.modAcq g).sched = s.sched := rfl
@[simp] theorem State.modAcq_flt (s : State) (g : AcqState → AcqState) : (s.modAcq g).flt = s.flt := rfl
@[simp] theorem State.modAcq_recorder (s : State) (g : AcqState → AcqState) : (s.modAcq g).recorder = s.recorder := rfl
@[simp] theorem State.modAcq_nv (s : State) (g : AcqState → AcqState) : (s.modAcq g).nv = s.nv := rfl
@[simp] theorem State.modAcq_cfg (s : State) (g : AcqState → AcqState) : (s.modAcq g).cfg = s.cfg := rfl
@[simp] theorem State.modAcq_rdData (s : State) (g : AcqState → AcqState) : (s.modAcq g).rdData = s.rdData := rfl
@[simp] theorem State.modAcq_wheel (s : State) (g : AcqState → AcqState) : (s.modAcq g).wheel = s.wheel := rfl
@[simp] theorem State.modAcq_fbps (s : State) (g : AcqState → AcqState) : (s.modAcq g).fbps = s.fbps := rfl
@[simp] theorem State.modAcq_tiles (s : State) (g : AcqState → AcqState) : (s.modAcq g).tiles = s.tiles := rfl
@[simp] theorem State.modAcq_acq (s : State) (g : AcqState → AcqState) : (s.modAcq g).acq = g s.acq := rfl
@[simp] theorem State.modAcq_lowWords (s : State) (g : AcqState → AcqState) : (s.modAcq g).lowWords = s.lowWords := rfl
@[simp] theorem State.modAcq_ains (s : State) (g : AcqState → AcqState) : (s.modAcq g).ains = s.ains := rfl
@[simp] theorem State.modAcq_clusters (s : State) (g : AcqState → AcqState) : (s.modAcq g).clusters = s.clusters := rfl
@[simp] theorem State.modAcq_clWas (s : State) (g : AcqState → AcqState) : (s.modAcq g).clWas = s.clWas := rfl
@[simp] theorem State.modAcq_pps (s : State) (g : AcqState → AcqState) : (s.modAcq g).pps = s.pps := rfl
@[simp] theorem State.modAcq_qarms (s : State) (g : AcqState → AcqState) : (s.modAcq g).qarms = s.qarms := rfl
@[simp] theorem State.modAcq_frameSeq (s : State) (g : AcqState → AcqState) : (s.modAcq g).frameSeq = s.frameSeq := rfl
@[simp] theorem State.modAcq_jobsDue (s : State) (g : AcqState → AcqState) : (s.modAcq g).jobsDue = s.jobsDue := rfl
@[simp] theorem State.modAcq_safe (s : State) (g : AcqState → AcqState) : (s.modAcq g).safe = s.safe := rfl
@[simp] theorem State.modAcq_doors (s : State) (g : AcqState → AcqState) : (s.modAcq g).doors = s.doors := rfl
@[simp] theorem State.modAcq_rings (s : State) (g : AcqState → AcqState) : (s.modAcq g).rings = s.rings := rfl
@[simp] theorem State.modAcq_fio (s : State) (g : AcqState → AcqState) : (s.modAcq g).fio = s.fio := rfl
@[simp] theorem State.modAcq_pair (s : State) (g : AcqState → AcqState) : (s.modAcq g).pair = s.pair := rfl
@[simp] theorem State.modAcq_mem (s : State) (g : AcqState → AcqState) : (s.modAcq g).mem = s.mem := rfl
@[simp] theorem State.modAcq_readWords (s : State) (g : AcqState → AcqState) : (s.modAcq g).readWords = s.readWords := rfl
@[simp] theorem State.modAcq_host (s : State) (g : AcqState → AcqState) : (s.modAcq g).host = s.host := rfl
@[simp] theorem State.modAcq_free (s : State) (g : AcqState → AcqState) : (s.modAcq g).free = s.free := rfl
@[simp] theorem State.modAcq_rd (s : State) (g : AcqState → AcqState) (q : Nat) : (s.modAcq g).rd q = s.rd q := rfl
@[simp] theorem State.modAcq_f (s : State) (g : AcqState → AcqState) (y : Fld) : (s.modAcq g).f y = s.f y := rfl
@[simp] theorem State.modAcq_flag (s : State) (g : AcqState → AcqState) (y : Fld) : (s.modAcq g).flag y = s.flag y := rfl
@[simp] theorem State.modAcq_rdN (s : State) (g : AcqState → AcqState) (q : Nat) : (s.modAcq g).rdN q = s.rdN q := rfl
@[simp] theorem State.modAcq_rd2 (s : State) (g : AcqState → AcqState) (q : Nat → Nat) : (s.modAcq g).rd2 q = s.rd2 q := rfl
/-! modDoor -/
@[simp] theorem State.modDoor_regs (s : State) (d : Fin 8) (g : DoorSt → DoorSt) : (s.modDoor d g).regs = s.regs := rfl
@[simp] theorem State.modDoor_time (s : State) (d : Fin 8) (g : DoorSt → DoorSt) : (s.modDoor d g).time = s.time := rfl
@[simp] theorem State.modDoor_sys (s : State) (d : Fin 8) (g : DoorSt → DoorSt) : (s.modDoor d g).sys = s.sys := rfl
@[simp] theorem State.modDoor_hq (s : State) (d : Fin 8) (g : DoorSt → DoorSt) : (s.modDoor d g).hq = s.hq := rfl
@[simp] theorem State.modDoor_sched (s : State) (d : Fin 8) (g : DoorSt → DoorSt) : (s.modDoor d g).sched = s.sched := rfl
@[simp] theorem State.modDoor_flt (s : State) (d : Fin 8) (g : DoorSt → DoorSt) : (s.modDoor d g).flt = s.flt := rfl
@[simp] theorem State.modDoor_recorder (s : State) (d : Fin 8) (g : DoorSt → DoorSt) : (s.modDoor d g).recorder = s.recorder := rfl
@[simp] theorem State.modDoor_nv (s : State) (d : Fin 8) (g : DoorSt → DoorSt) : (s.modDoor d g).nv = s.nv := rfl
@[simp] theorem State.modDoor_cfg (s : State) (d : Fin 8) (g : DoorSt → DoorSt) : (s.modDoor d g).cfg = s.cfg := rfl
@[simp] theorem State.modDoor_rdData (s : State) (d : Fin 8) (g : DoorSt → DoorSt) : (s.modDoor d g).rdData = s.rdData := rfl
@[simp] theorem State.modDoor_wheel (s : State) (d : Fin 8) (g : DoorSt → DoorSt) : (s.modDoor d g).wheel = s.wheel := rfl
@[simp] theorem State.modDoor_fbps (s : State) (d : Fin 8) (g : DoorSt → DoorSt) : (s.modDoor d g).fbps = s.fbps := rfl
@[simp] theorem State.modDoor_tiles (s : State) (d : Fin 8) (g : DoorSt → DoorSt) : (s.modDoor d g).tiles = s.tiles := rfl
@[simp] theorem State.modDoor_acq (s : State) (d : Fin 8) (g : DoorSt → DoorSt) : (s.modDoor d g).acq = s.acq := rfl
@[simp] theorem State.modDoor_lowWords (s : State) (d : Fin 8) (g : DoorSt → DoorSt) : (s.modDoor d g).lowWords = s.lowWords := rfl
@[simp] theorem State.modDoor_ains (s : State) (d : Fin 8) (g : DoorSt → DoorSt) : (s.modDoor d g).ains = s.ains := rfl
@[simp] theorem State.modDoor_clusters (s : State) (d : Fin 8) (g : DoorSt → DoorSt) : (s.modDoor d g).clusters = s.clusters := rfl
@[simp] theorem State.modDoor_clWas (s : State) (d : Fin 8) (g : DoorSt → DoorSt) : (s.modDoor d g).clWas = s.clWas := rfl
@[simp] theorem State.modDoor_pps (s : State) (d : Fin 8) (g : DoorSt → DoorSt) : (s.modDoor d g).pps = s.pps := rfl
@[simp] theorem State.modDoor_qarms (s : State) (d : Fin 8) (g : DoorSt → DoorSt) : (s.modDoor d g).qarms = s.qarms := rfl
@[simp] theorem State.modDoor_frameSeq (s : State) (d : Fin 8) (g : DoorSt → DoorSt) : (s.modDoor d g).frameSeq = s.frameSeq := rfl
@[simp] theorem State.modDoor_jobsDue (s : State) (d : Fin 8) (g : DoorSt → DoorSt) : (s.modDoor d g).jobsDue = s.jobsDue := rfl
@[simp] theorem State.modDoor_safe (s : State) (d : Fin 8) (g : DoorSt → DoorSt) : (s.modDoor d g).safe = s.safe := rfl
@[simp] theorem State.modDoor_doors (s : State) (d : Fin 8) (g : DoorSt → DoorSt) : (s.modDoor d g).doors = s.doors.modify d g := rfl
@[simp] theorem State.modDoor_rings (s : State) (d : Fin 8) (g : DoorSt → DoorSt) : (s.modDoor d g).rings = s.rings := rfl
@[simp] theorem State.modDoor_fio (s : State) (d : Fin 8) (g : DoorSt → DoorSt) : (s.modDoor d g).fio = s.fio := rfl
@[simp] theorem State.modDoor_pair (s : State) (d : Fin 8) (g : DoorSt → DoorSt) : (s.modDoor d g).pair = s.pair := rfl
@[simp] theorem State.modDoor_mem (s : State) (d : Fin 8) (g : DoorSt → DoorSt) : (s.modDoor d g).mem = s.mem := rfl
@[simp] theorem State.modDoor_readWords (s : State) (d : Fin 8) (g : DoorSt → DoorSt) : (s.modDoor d g).readWords = s.readWords := rfl
@[simp] theorem State.modDoor_host (s : State) (d : Fin 8) (g : DoorSt → DoorSt) : (s.modDoor d g).host = s.host := rfl
@[simp] theorem State.modDoor_free (s : State) (d : Fin 8) (g : DoorSt → DoorSt) : (s.modDoor d g).free = s.free := rfl
@[simp] theorem State.modDoor_rd (s : State) (d : Fin 8) (g : DoorSt → DoorSt) (q : Nat) : (s.modDoor d g).rd q = s.rd q := rfl
@[simp] theorem State.modDoor_f (s : State) (d : Fin 8) (g : DoorSt → DoorSt) (y : Fld) : (s.modDoor d g).f y = s.f y := rfl
@[simp] theorem State.modDoor_flag (s : State) (d : Fin 8) (g : DoorSt → DoorSt) (y : Fld) : (s.modDoor d g).flag y = s.flag y := rfl
@[simp] theorem State.modDoor_rdN (s : State) (d : Fin 8) (g : DoorSt → DoorSt) (q : Nat) : (s.modDoor d g).rdN q = s.rdN q := rfl
@[simp] theorem State.modDoor_rd2 (s : State) (d : Fin 8) (g : DoorSt → DoorSt) (q : Nat → Nat) : (s.modDoor d g).rd2 q = s.rd2 q := rfl
/-! modCl -/
@[simp] theorem State.modCl_regs (s : State) (c : Fin 12) (g : Cluster → Cluster) : (s.modCl c g).regs = s.regs := rfl
@[simp] theorem State.modCl_time (s : State) (c : Fin 12) (g : Cluster → Cluster) : (s.modCl c g).time = s.time := rfl
@[simp] theorem State.modCl_sys (s : State) (c : Fin 12) (g : Cluster → Cluster) : (s.modCl c g).sys = s.sys := rfl
@[simp] theorem State.modCl_hq (s : State) (c : Fin 12) (g : Cluster → Cluster) : (s.modCl c g).hq = s.hq := rfl
@[simp] theorem State.modCl_sched (s : State) (c : Fin 12) (g : Cluster → Cluster) : (s.modCl c g).sched = s.sched := rfl
@[simp] theorem State.modCl_flt (s : State) (c : Fin 12) (g : Cluster → Cluster) : (s.modCl c g).flt = s.flt := rfl
@[simp] theorem State.modCl_recorder (s : State) (c : Fin 12) (g : Cluster → Cluster) : (s.modCl c g).recorder = s.recorder := rfl
@[simp] theorem State.modCl_nv (s : State) (c : Fin 12) (g : Cluster → Cluster) : (s.modCl c g).nv = s.nv := rfl
@[simp] theorem State.modCl_cfg (s : State) (c : Fin 12) (g : Cluster → Cluster) : (s.modCl c g).cfg = s.cfg := rfl
@[simp] theorem State.modCl_rdData (s : State) (c : Fin 12) (g : Cluster → Cluster) : (s.modCl c g).rdData = s.rdData := rfl
@[simp] theorem State.modCl_wheel (s : State) (c : Fin 12) (g : Cluster → Cluster) : (s.modCl c g).wheel = s.wheel := rfl
@[simp] theorem State.modCl_fbps (s : State) (c : Fin 12) (g : Cluster → Cluster) : (s.modCl c g).fbps = s.fbps := rfl
@[simp] theorem State.modCl_tiles (s : State) (c : Fin 12) (g : Cluster → Cluster) : (s.modCl c g).tiles = s.tiles := rfl
@[simp] theorem State.modCl_acq (s : State) (c : Fin 12) (g : Cluster → Cluster) : (s.modCl c g).acq = s.acq := rfl
@[simp] theorem State.modCl_lowWords (s : State) (c : Fin 12) (g : Cluster → Cluster) : (s.modCl c g).lowWords = s.lowWords := rfl
@[simp] theorem State.modCl_ains (s : State) (c : Fin 12) (g : Cluster → Cluster) : (s.modCl c g).ains = s.ains := rfl
@[simp] theorem State.modCl_clusters (s : State) (c : Fin 12) (g : Cluster → Cluster) : (s.modCl c g).clusters = s.clusters.modify c g := rfl
@[simp] theorem State.modCl_clWas (s : State) (c : Fin 12) (g : Cluster → Cluster) : (s.modCl c g).clWas = s.clWas := rfl
@[simp] theorem State.modCl_pps (s : State) (c : Fin 12) (g : Cluster → Cluster) : (s.modCl c g).pps = s.pps := rfl
@[simp] theorem State.modCl_qarms (s : State) (c : Fin 12) (g : Cluster → Cluster) : (s.modCl c g).qarms = s.qarms := rfl
@[simp] theorem State.modCl_frameSeq (s : State) (c : Fin 12) (g : Cluster → Cluster) : (s.modCl c g).frameSeq = s.frameSeq := rfl
@[simp] theorem State.modCl_jobsDue (s : State) (c : Fin 12) (g : Cluster → Cluster) : (s.modCl c g).jobsDue = s.jobsDue := rfl
@[simp] theorem State.modCl_safe (s : State) (c : Fin 12) (g : Cluster → Cluster) : (s.modCl c g).safe = s.safe := rfl
@[simp] theorem State.modCl_doors (s : State) (c : Fin 12) (g : Cluster → Cluster) : (s.modCl c g).doors = s.doors := rfl
@[simp] theorem State.modCl_rings (s : State) (c : Fin 12) (g : Cluster → Cluster) : (s.modCl c g).rings = s.rings := rfl
@[simp] theorem State.modCl_fio (s : State) (c : Fin 12) (g : Cluster → Cluster) : (s.modCl c g).fio = s.fio := rfl
@[simp] theorem State.modCl_pair (s : State) (c : Fin 12) (g : Cluster → Cluster) : (s.modCl c g).pair = s.pair := rfl
@[simp] theorem State.modCl_mem (s : State) (c : Fin 12) (g : Cluster → Cluster) : (s.modCl c g).mem = s.mem := rfl
@[simp] theorem State.modCl_readWords (s : State) (c : Fin 12) (g : Cluster → Cluster) : (s.modCl c g).readWords = s.readWords := rfl
@[simp] theorem State.modCl_host (s : State) (c : Fin 12) (g : Cluster → Cluster) : (s.modCl c g).host = s.host := rfl
@[simp] theorem State.modCl_free (s : State) (c : Fin 12) (g : Cluster → Cluster) : (s.modCl c g).free = s.free := rfl
@[simp] theorem State.modCl_rd (s : State) (c : Fin 12) (g : Cluster → Cluster) (q : Nat) : (s.modCl c g).rd q = s.rd q := rfl
@[simp] theorem State.modCl_f (s : State) (c : Fin 12) (g : Cluster → Cluster) (y : Fld) : (s.modCl c g).f y = s.f y := rfl
@[simp] theorem State.modCl_flag (s : State) (c : Fin 12) (g : Cluster → Cluster) (y : Fld) : (s.modCl c g).flag y = s.flag y := rfl
@[simp] theorem State.modCl_rdN (s : State) (c : Fin 12) (g : Cluster → Cluster) (q : Nat) : (s.modCl c g).rdN q = s.rdN q := rfl
@[simp] theorem State.modCl_rd2 (s : State) (c : Fin 12) (g : Cluster → Cluster) (q : Nat → Nat) : (s.modCl c g).rd2 q = s.rd2 q := rfl
/-! modFlt -/
@[simp] theorem State.modFlt_regs (s : State) (g : FltState → FltState) : (s.modFlt g).regs = s.regs := rfl
@[simp] theorem State.modFlt_time (s : State) (g : FltState → FltState) : (s.modFlt g).time = s.time := rfl
@[simp] theorem State.modFlt_sys (s : State) (g : FltState → FltState) : (s.modFlt g).sys = s.sys := rfl
@[simp] theorem State.modFlt_hq (s : State) (g : FltState → FltState) : (s.modFlt g).hq = s.hq := rfl
@[simp] theorem State.modFlt_sched (s : State) (g : FltState → FltState) : (s.modFlt g).sched = s.sched := rfl
@[simp] theorem State.modFlt_flt (s : State) (g : FltState → FltState) : (s.modFlt g).flt = g s.flt := rfl
@[simp] theorem State.modFlt_recorder (s : State) (g : FltState → FltState) : (s.modFlt g).recorder = s.recorder := rfl
@[simp] theorem State.modFlt_nv (s : State) (g : FltState → FltState) : (s.modFlt g).nv = s.nv := rfl
@[simp] theorem State.modFlt_cfg (s : State) (g : FltState → FltState) : (s.modFlt g).cfg = s.cfg := rfl
@[simp] theorem State.modFlt_rdData (s : State) (g : FltState → FltState) : (s.modFlt g).rdData = s.rdData := rfl
@[simp] theorem State.modFlt_wheel (s : State) (g : FltState → FltState) : (s.modFlt g).wheel = s.wheel := rfl
@[simp] theorem State.modFlt_fbps (s : State) (g : FltState → FltState) : (s.modFlt g).fbps = s.fbps := rfl
@[simp] theorem State.modFlt_tiles (s : State) (g : FltState → FltState) : (s.modFlt g).tiles = s.tiles := rfl
@[simp] theorem State.modFlt_acq (s : State) (g : FltState → FltState) : (s.modFlt g).acq = s.acq := rfl
@[simp] theorem State.modFlt_lowWords (s : State) (g : FltState → FltState) : (s.modFlt g).lowWords = s.lowWords := rfl
@[simp] theorem State.modFlt_ains (s : State) (g : FltState → FltState) : (s.modFlt g).ains = s.ains := rfl
@[simp] theorem State.modFlt_clusters (s : State) (g : FltState → FltState) : (s.modFlt g).clusters = s.clusters := rfl
@[simp] theorem State.modFlt_clWas (s : State) (g : FltState → FltState) : (s.modFlt g).clWas = s.clWas := rfl
@[simp] theorem State.modFlt_pps (s : State) (g : FltState → FltState) : (s.modFlt g).pps = s.pps := rfl
@[simp] theorem State.modFlt_qarms (s : State) (g : FltState → FltState) : (s.modFlt g).qarms = s.qarms := rfl
@[simp] theorem State.modFlt_frameSeq (s : State) (g : FltState → FltState) : (s.modFlt g).frameSeq = s.frameSeq := rfl
@[simp] theorem State.modFlt_jobsDue (s : State) (g : FltState → FltState) : (s.modFlt g).jobsDue = s.jobsDue := rfl
@[simp] theorem State.modFlt_safe (s : State) (g : FltState → FltState) : (s.modFlt g).safe = s.safe := rfl
@[simp] theorem State.modFlt_doors (s : State) (g : FltState → FltState) : (s.modFlt g).doors = s.doors := rfl
@[simp] theorem State.modFlt_rings (s : State) (g : FltState → FltState) : (s.modFlt g).rings = s.rings := rfl
@[simp] theorem State.modFlt_fio (s : State) (g : FltState → FltState) : (s.modFlt g).fio = s.fio := rfl
@[simp] theorem State.modFlt_pair (s : State) (g : FltState → FltState) : (s.modFlt g).pair = s.pair := rfl
@[simp] theorem State.modFlt_mem (s : State) (g : FltState → FltState) : (s.modFlt g).mem = s.mem := rfl
@[simp] theorem State.modFlt_readWords (s : State) (g : FltState → FltState) : (s.modFlt g).readWords = s.readWords := rfl
@[simp] theorem State.modFlt_host (s : State) (g : FltState → FltState) : (s.modFlt g).host = s.host := rfl
@[simp] theorem State.modFlt_free (s : State) (g : FltState → FltState) : (s.modFlt g).free = s.free := rfl
@[simp] theorem State.modFlt_rd (s : State) (g : FltState → FltState) (q : Nat) : (s.modFlt g).rd q = s.rd q := rfl
@[simp] theorem State.modFlt_f (s : State) (g : FltState → FltState) (y : Fld) : (s.modFlt g).f y = s.f y := rfl
@[simp] theorem State.modFlt_flag (s : State) (g : FltState → FltState) (y : Fld) : (s.modFlt g).flag y = s.flag y := rfl
@[simp] theorem State.modFlt_rdN (s : State) (g : FltState → FltState) (q : Nat) : (s.modFlt g).rdN q = s.rdN q := rfl
@[simp] theorem State.modFlt_rd2 (s : State) (g : FltState → FltState) (q : Nat → Nat) : (s.modFlt g).rd2 q = s.rd2 q := rfl
/-! modFio -/
@[simp] theorem State.modFio_regs (s : State) (g : FioState → FioState) : (s.modFio g).regs = s.regs := rfl
@[simp] theorem State.modFio_time (s : State) (g : FioState → FioState) : (s.modFio g).time = s.time := rfl
@[simp] theorem State.modFio_sys (s : State) (g : FioState → FioState) : (s.modFio g).sys = s.sys := rfl
@[simp] theorem State.modFio_hq (s : State) (g : FioState → FioState) : (s.modFio g).hq = s.hq := rfl
@[simp] theorem State.modFio_sched (s : State) (g : FioState → FioState) : (s.modFio g).sched = s.sched := rfl
@[simp] theorem State.modFio_flt (s : State) (g : FioState → FioState) : (s.modFio g).flt = s.flt := rfl
@[simp] theorem State.modFio_recorder (s : State) (g : FioState → FioState) : (s.modFio g).recorder = s.recorder := rfl
@[simp] theorem State.modFio_nv (s : State) (g : FioState → FioState) : (s.modFio g).nv = s.nv := rfl
@[simp] theorem State.modFio_cfg (s : State) (g : FioState → FioState) : (s.modFio g).cfg = s.cfg := rfl
@[simp] theorem State.modFio_rdData (s : State) (g : FioState → FioState) : (s.modFio g).rdData = s.rdData := rfl
@[simp] theorem State.modFio_wheel (s : State) (g : FioState → FioState) : (s.modFio g).wheel = s.wheel := rfl
@[simp] theorem State.modFio_fbps (s : State) (g : FioState → FioState) : (s.modFio g).fbps = s.fbps := rfl
@[simp] theorem State.modFio_tiles (s : State) (g : FioState → FioState) : (s.modFio g).tiles = s.tiles := rfl
@[simp] theorem State.modFio_acq (s : State) (g : FioState → FioState) : (s.modFio g).acq = s.acq := rfl
@[simp] theorem State.modFio_lowWords (s : State) (g : FioState → FioState) : (s.modFio g).lowWords = s.lowWords := rfl
@[simp] theorem State.modFio_ains (s : State) (g : FioState → FioState) : (s.modFio g).ains = s.ains := rfl
@[simp] theorem State.modFio_clusters (s : State) (g : FioState → FioState) : (s.modFio g).clusters = s.clusters := rfl
@[simp] theorem State.modFio_clWas (s : State) (g : FioState → FioState) : (s.modFio g).clWas = s.clWas := rfl
@[simp] theorem State.modFio_pps (s : State) (g : FioState → FioState) : (s.modFio g).pps = s.pps := rfl
@[simp] theorem State.modFio_qarms (s : State) (g : FioState → FioState) : (s.modFio g).qarms = s.qarms := rfl
@[simp] theorem State.modFio_frameSeq (s : State) (g : FioState → FioState) : (s.modFio g).frameSeq = s.frameSeq := rfl
@[simp] theorem State.modFio_jobsDue (s : State) (g : FioState → FioState) : (s.modFio g).jobsDue = s.jobsDue := rfl
@[simp] theorem State.modFio_safe (s : State) (g : FioState → FioState) : (s.modFio g).safe = s.safe := rfl
@[simp] theorem State.modFio_doors (s : State) (g : FioState → FioState) : (s.modFio g).doors = s.doors := rfl
@[simp] theorem State.modFio_rings (s : State) (g : FioState → FioState) : (s.modFio g).rings = s.rings := rfl
@[simp] theorem State.modFio_fio (s : State) (g : FioState → FioState) : (s.modFio g).fio = g s.fio := rfl
@[simp] theorem State.modFio_pair (s : State) (g : FioState → FioState) : (s.modFio g).pair = s.pair := rfl
@[simp] theorem State.modFio_mem (s : State) (g : FioState → FioState) : (s.modFio g).mem = s.mem := rfl
@[simp] theorem State.modFio_readWords (s : State) (g : FioState → FioState) : (s.modFio g).readWords = s.readWords := rfl
@[simp] theorem State.modFio_host (s : State) (g : FioState → FioState) : (s.modFio g).host = s.host := rfl
@[simp] theorem State.modFio_free (s : State) (g : FioState → FioState) : (s.modFio g).free = s.free := rfl
@[simp] theorem State.modFio_rd (s : State) (g : FioState → FioState) (q : Nat) : (s.modFio g).rd q = s.rd q := rfl
@[simp] theorem State.modFio_f (s : State) (g : FioState → FioState) (y : Fld) : (s.modFio g).f y = s.f y := rfl
@[simp] theorem State.modFio_flag (s : State) (g : FioState → FioState) (y : Fld) : (s.modFio g).flag y = s.flag y := rfl
@[simp] theorem State.modFio_rdN (s : State) (g : FioState → FioState) (q : Nat) : (s.modFio g).rdN q = s.rdN q := rfl
@[simp] theorem State.modFio_rd2 (s : State) (g : FioState → FioState) (q : Nat → Nat) : (s.modFio g).rd2 q = s.rd2 q := rfl
/-! modSafe -/
@[simp] theorem State.modSafe_regs (s : State) (g : SafeState → SafeState) : (s.modSafe g).regs = s.regs := rfl
@[simp] theorem State.modSafe_time (s : State) (g : SafeState → SafeState) : (s.modSafe g).time = s.time := rfl
@[simp] theorem State.modSafe_sys (s : State) (g : SafeState → SafeState) : (s.modSafe g).sys = s.sys := rfl
@[simp] theorem State.modSafe_hq (s : State) (g : SafeState → SafeState) : (s.modSafe g).hq = s.hq := rfl
@[simp] theorem State.modSafe_sched (s : State) (g : SafeState → SafeState) : (s.modSafe g).sched = s.sched := rfl
@[simp] theorem State.modSafe_flt (s : State) (g : SafeState → SafeState) : (s.modSafe g).flt = s.flt := rfl
@[simp] theorem State.modSafe_recorder (s : State) (g : SafeState → SafeState) : (s.modSafe g).recorder = s.recorder := rfl
@[simp] theorem State.modSafe_nv (s : State) (g : SafeState → SafeState) : (s.modSafe g).nv = s.nv := rfl
@[simp] theorem State.modSafe_cfg (s : State) (g : SafeState → SafeState) : (s.modSafe g).cfg = s.cfg := rfl
@[simp] theorem State.modSafe_rdData (s : State) (g : SafeState → SafeState) : (s.modSafe g).rdData = s.rdData := rfl
@[simp] theorem State.modSafe_wheel (s : State) (g : SafeState → SafeState) : (s.modSafe g).wheel = s.wheel := rfl
@[simp] theorem State.modSafe_fbps (s : State) (g : SafeState → SafeState) : (s.modSafe g).fbps = s.fbps := rfl
@[simp] theorem State.modSafe_tiles (s : State) (g : SafeState → SafeState) : (s.modSafe g).tiles = s.tiles := rfl
@[simp] theorem State.modSafe_acq (s : State) (g : SafeState → SafeState) : (s.modSafe g).acq = s.acq := rfl
@[simp] theorem State.modSafe_lowWords (s : State) (g : SafeState → SafeState) : (s.modSafe g).lowWords = s.lowWords := rfl
@[simp] theorem State.modSafe_ains (s : State) (g : SafeState → SafeState) : (s.modSafe g).ains = s.ains := rfl
@[simp] theorem State.modSafe_clusters (s : State) (g : SafeState → SafeState) : (s.modSafe g).clusters = s.clusters := rfl
@[simp] theorem State.modSafe_clWas (s : State) (g : SafeState → SafeState) : (s.modSafe g).clWas = s.clWas := rfl
@[simp] theorem State.modSafe_pps (s : State) (g : SafeState → SafeState) : (s.modSafe g).pps = s.pps := rfl
@[simp] theorem State.modSafe_qarms (s : State) (g : SafeState → SafeState) : (s.modSafe g).qarms = s.qarms := rfl
@[simp] theorem State.modSafe_frameSeq (s : State) (g : SafeState → SafeState) : (s.modSafe g).frameSeq = s.frameSeq := rfl
@[simp] theorem State.modSafe_jobsDue (s : State) (g : SafeState → SafeState) : (s.modSafe g).jobsDue = s.jobsDue := rfl
@[simp] theorem State.modSafe_safe (s : State) (g : SafeState → SafeState) : (s.modSafe g).safe = g s.safe := rfl
@[simp] theorem State.modSafe_doors (s : State) (g : SafeState → SafeState) : (s.modSafe g).doors = s.doors := rfl
@[simp] theorem State.modSafe_rings (s : State) (g : SafeState → SafeState) : (s.modSafe g).rings = s.rings := rfl
@[simp] theorem State.modSafe_fio (s : State) (g : SafeState → SafeState) : (s.modSafe g).fio = s.fio := rfl
@[simp] theorem State.modSafe_pair (s : State) (g : SafeState → SafeState) : (s.modSafe g).pair = s.pair := rfl
@[simp] theorem State.modSafe_mem (s : State) (g : SafeState → SafeState) : (s.modSafe g).mem = s.mem := rfl
@[simp] theorem State.modSafe_readWords (s : State) (g : SafeState → SafeState) : (s.modSafe g).readWords = s.readWords := rfl
@[simp] theorem State.modSafe_host (s : State) (g : SafeState → SafeState) : (s.modSafe g).host = s.host := rfl
@[simp] theorem State.modSafe_free (s : State) (g : SafeState → SafeState) : (s.modSafe g).free = s.free := rfl
@[simp] theorem State.modSafe_rd (s : State) (g : SafeState → SafeState) (q : Nat) : (s.modSafe g).rd q = s.rd q := rfl
@[simp] theorem State.modSafe_f (s : State) (g : SafeState → SafeState) (y : Fld) : (s.modSafe g).f y = s.f y := rfl
@[simp] theorem State.modSafe_flag (s : State) (g : SafeState → SafeState) (y : Fld) : (s.modSafe g).flag y = s.flag y := rfl
@[simp] theorem State.modSafe_rdN (s : State) (g : SafeState → SafeState) (q : Nat) : (s.modSafe g).rdN q = s.rdN q := rfl
@[simp] theorem State.modSafe_rd2 (s : State) (g : SafeState → SafeState) (q : Nat → Nat) : (s.modSafe g).rd2 q = s.rd2 q := rfl
/-! modHost -/
@[simp] theorem State.modHost_regs (s : State) (g : HostState → HostState) : (s.modHost g).regs = s.regs := rfl
@[simp] theorem State.modHost_time (s : State) (g : HostState → HostState) : (s.modHost g).time = s.time := rfl
@[simp] theorem State.modHost_sys (s : State) (g : HostState → HostState) : (s.modHost g).sys = s.sys := rfl
@[simp] theorem State.modHost_hq (s : State) (g : HostState → HostState) : (s.modHost g).hq = s.hq := rfl
@[simp] theorem State.modHost_sched (s : State) (g : HostState → HostState) : (s.modHost g).sched = s.sched := rfl
@[simp] theorem State.modHost_flt (s : State) (g : HostState → HostState) : (s.modHost g).flt = s.flt := rfl
@[simp] theorem State.modHost_recorder (s : State) (g : HostState → HostState) : (s.modHost g).recorder = s.recorder := rfl
@[simp] theorem State.modHost_nv (s : State) (g : HostState → HostState) : (s.modHost g).nv = s.nv := rfl
@[simp] theorem State.modHost_cfg (s : State) (g : HostState → HostState) : (s.modHost g).cfg = s.cfg := rfl
@[simp] theorem State.modHost_rdData (s : State) (g : HostState → HostState) : (s.modHost g).rdData = s.rdData := rfl
@[simp] theorem State.modHost_wheel (s : State) (g : HostState → HostState) : (s.modHost g).wheel = s.wheel := rfl
@[simp] theorem State.modHost_fbps (s : State) (g : HostState → HostState) : (s.modHost g).fbps = s.fbps := rfl
@[simp] theorem State.modHost_tiles (s : State) (g : HostState → HostState) : (s.modHost g).tiles = s.tiles := rfl
@[simp] theorem State.modHost_acq (s : State) (g : HostState → HostState) : (s.modHost g).acq = s.acq := rfl
@[simp] theorem State.modHost_lowWords (s : State) (g : HostState → HostState) : (s.modHost g).lowWords = s.lowWords := rfl
@[simp] theorem State.modHost_ains (s : State) (g : HostState → HostState) : (s.modHost g).ains = s.ains := rfl
@[simp] theorem State.modHost_clusters (s : State) (g : HostState → HostState) : (s.modHost g).clusters = s.clusters := rfl
@[simp] theorem State.modHost_clWas (s : State) (g : HostState → HostState) : (s.modHost g).clWas = s.clWas := rfl
@[simp] theorem State.modHost_pps (s : State) (g : HostState → HostState) : (s.modHost g).pps = s.pps := rfl
@[simp] theorem State.modHost_qarms (s : State) (g : HostState → HostState) : (s.modHost g).qarms = s.qarms := rfl
@[simp] theorem State.modHost_frameSeq (s : State) (g : HostState → HostState) : (s.modHost g).frameSeq = s.frameSeq := rfl
@[simp] theorem State.modHost_jobsDue (s : State) (g : HostState → HostState) : (s.modHost g).jobsDue = s.jobsDue := rfl
@[simp] theorem State.modHost_safe (s : State) (g : HostState → HostState) : (s.modHost g).safe = s.safe := rfl
@[simp] theorem State.modHost_doors (s : State) (g : HostState → HostState) : (s.modHost g).doors = s.doors := rfl
@[simp] theorem State.modHost_rings (s : State) (g : HostState → HostState) : (s.modHost g).rings = s.rings := rfl
@[simp] theorem State.modHost_fio (s : State) (g : HostState → HostState) : (s.modHost g).fio = s.fio := rfl
@[simp] theorem State.modHost_pair (s : State) (g : HostState → HostState) : (s.modHost g).pair = s.pair := rfl
@[simp] theorem State.modHost_mem (s : State) (g : HostState → HostState) : (s.modHost g).mem = s.mem := rfl
@[simp] theorem State.modHost_readWords (s : State) (g : HostState → HostState) : (s.modHost g).readWords = s.readWords := rfl
@[simp] theorem State.modHost_host (s : State) (g : HostState → HostState) : (s.modHost g).host = g s.host := rfl
@[simp] theorem State.modHost_free (s : State) (g : HostState → HostState) : (s.modHost g).free = s.free := rfl
@[simp] theorem State.modHost_rd (s : State) (g : HostState → HostState) (q : Nat) : (s.modHost g).rd q = s.rd q := rfl
@[simp] theorem State.modHost_f (s : State) (g : HostState → HostState) (y : Fld) : (s.modHost g).f y = s.f y := rfl
@[simp] theorem State.modHost_flag (s : State) (g : HostState → HostState) (y : Fld) : (s.modHost g).flag y = s.flag y := rfl
@[simp] theorem State.modHost_rdN (s : State) (g : HostState → HostState) (q : Nat) : (s.modHost g).rdN q = s.rdN q := rfl
@[simp] theorem State.modHost_rd2 (s : State) (g : HostState → HostState) (q : Nat → Nat) : (s.modHost g).rd2 q = s.rd2 q := rfl
/-! modRing -/
@[simp] theorem State.modRing_regs (s : State) (r : Fin 2) (g : RingState → RingState) : (s.modRing r g).regs = s.regs := rfl
@[simp] theorem State.modRing_time (s : State) (r : Fin 2) (g : RingState → RingState) : (s.modRing r g).time = s.time := rfl
@[simp] theorem State.modRing_sys (s : State) (r : Fin 2) (g : RingState → RingState) : (s.modRing r g).sys = s.sys := rfl
@[simp] theorem State.modRing_hq (s : State) (r : Fin 2) (g : RingState → RingState) : (s.modRing r g).hq = s.hq := rfl
@[simp] theorem State.modRing_sched (s : State) (r : Fin 2) (g : RingState → RingState) : (s.modRing r g).sched = s.sched := rfl
@[simp] theorem State.modRing_flt (s : State) (r : Fin 2) (g : RingState → RingState) : (s.modRing r g).flt = s.flt := rfl
@[simp] theorem State.modRing_recorder (s : State) (r : Fin 2) (g : RingState → RingState) : (s.modRing r g).recorder = s.recorder := rfl
@[simp] theorem State.modRing_nv (s : State) (r : Fin 2) (g : RingState → RingState) : (s.modRing r g).nv = s.nv := rfl
@[simp] theorem State.modRing_cfg (s : State) (r : Fin 2) (g : RingState → RingState) : (s.modRing r g).cfg = s.cfg := rfl
@[simp] theorem State.modRing_rdData (s : State) (r : Fin 2) (g : RingState → RingState) : (s.modRing r g).rdData = s.rdData := rfl
@[simp] theorem State.modRing_wheel (s : State) (r : Fin 2) (g : RingState → RingState) : (s.modRing r g).wheel = s.wheel := rfl
@[simp] theorem State.modRing_fbps (s : State) (r : Fin 2) (g : RingState → RingState) : (s.modRing r g).fbps = s.fbps := rfl
@[simp] theorem State.modRing_tiles (s : State) (r : Fin 2) (g : RingState → RingState) : (s.modRing r g).tiles = s.tiles := rfl
@[simp] theorem State.modRing_acq (s : State) (r : Fin 2) (g : RingState → RingState) : (s.modRing r g).acq = s.acq := rfl
@[simp] theorem State.modRing_lowWords (s : State) (r : Fin 2) (g : RingState → RingState) : (s.modRing r g).lowWords = s.lowWords := rfl
@[simp] theorem State.modRing_ains (s : State) (r : Fin 2) (g : RingState → RingState) : (s.modRing r g).ains = s.ains := rfl
@[simp] theorem State.modRing_clusters (s : State) (r : Fin 2) (g : RingState → RingState) : (s.modRing r g).clusters = s.clusters := rfl
@[simp] theorem State.modRing_clWas (s : State) (r : Fin 2) (g : RingState → RingState) : (s.modRing r g).clWas = s.clWas := rfl
@[simp] theorem State.modRing_pps (s : State) (r : Fin 2) (g : RingState → RingState) : (s.modRing r g).pps = s.pps := rfl
@[simp] theorem State.modRing_qarms (s : State) (r : Fin 2) (g : RingState → RingState) : (s.modRing r g).qarms = s.qarms := rfl
@[simp] theorem State.modRing_frameSeq (s : State) (r : Fin 2) (g : RingState → RingState) : (s.modRing r g).frameSeq = s.frameSeq := rfl
@[simp] theorem State.modRing_jobsDue (s : State) (r : Fin 2) (g : RingState → RingState) : (s.modRing r g).jobsDue = s.jobsDue := rfl
@[simp] theorem State.modRing_safe (s : State) (r : Fin 2) (g : RingState → RingState) : (s.modRing r g).safe = s.safe := rfl
@[simp] theorem State.modRing_doors (s : State) (r : Fin 2) (g : RingState → RingState) : (s.modRing r g).doors = s.doors := rfl
@[simp] theorem State.modRing_rings (s : State) (r : Fin 2) (g : RingState → RingState) : (s.modRing r g).rings = s.rings.modify r g := rfl
@[simp] theorem State.modRing_fio (s : State) (r : Fin 2) (g : RingState → RingState) : (s.modRing r g).fio = s.fio := rfl
@[simp] theorem State.modRing_pair (s : State) (r : Fin 2) (g : RingState → RingState) : (s.modRing r g).pair = s.pair := rfl
@[simp] theorem State.modRing_mem (s : State) (r : Fin 2) (g : RingState → RingState) : (s.modRing r g).mem = s.mem := rfl
@[simp] theorem State.modRing_readWords (s : State) (r : Fin 2) (g : RingState → RingState) : (s.modRing r g).readWords = s.readWords := rfl
@[simp] theorem State.modRing_host (s : State) (r : Fin 2) (g : RingState → RingState) : (s.modRing r g).host = s.host := rfl
@[simp] theorem State.modRing_free (s : State) (r : Fin 2) (g : RingState → RingState) : (s.modRing r g).free = s.free := rfl
@[simp] theorem State.modRing_rd (s : State) (r : Fin 2) (g : RingState → RingState) (q : Nat) : (s.modRing r g).rd q = s.rd q := rfl
@[simp] theorem State.modRing_f (s : State) (r : Fin 2) (g : RingState → RingState) (y : Fld) : (s.modRing r g).f y = s.f y := rfl
@[simp] theorem State.modRing_flag (s : State) (r : Fin 2) (g : RingState → RingState) (y : Fld) : (s.modRing r g).flag y = s.flag y := rfl
@[simp] theorem State.modRing_rdN (s : State) (r : Fin 2) (g : RingState → RingState) (q : Nat) : (s.modRing r g).rdN q = s.rdN q := rfl
@[simp] theorem State.modRing_rd2 (s : State) (r : Fin 2) (g : RingState → RingState) (q : Nat → Nat) : (s.modRing r g).rd2 q = s.rd2 q := rfl
/-! modQ -/
@[simp] theorem State.modQ_regs (s : State) (a : Fin 12) (g : QArm → QArm) : (s.modQ a g).regs = s.regs := rfl
@[simp] theorem State.modQ_time (s : State) (a : Fin 12) (g : QArm → QArm) : (s.modQ a g).time = s.time := rfl
@[simp] theorem State.modQ_sys (s : State) (a : Fin 12) (g : QArm → QArm) : (s.modQ a g).sys = s.sys := rfl
@[simp] theorem State.modQ_hq (s : State) (a : Fin 12) (g : QArm → QArm) : (s.modQ a g).hq = s.hq := rfl
@[simp] theorem State.modQ_sched (s : State) (a : Fin 12) (g : QArm → QArm) : (s.modQ a g).sched = s.sched := rfl
@[simp] theorem State.modQ_flt (s : State) (a : Fin 12) (g : QArm → QArm) : (s.modQ a g).flt = s.flt := rfl
@[simp] theorem State.modQ_recorder (s : State) (a : Fin 12) (g : QArm → QArm) : (s.modQ a g).recorder = s.recorder := rfl
@[simp] theorem State.modQ_nv (s : State) (a : Fin 12) (g : QArm → QArm) : (s.modQ a g).nv = s.nv := rfl
@[simp] theorem State.modQ_cfg (s : State) (a : Fin 12) (g : QArm → QArm) : (s.modQ a g).cfg = s.cfg := rfl
@[simp] theorem State.modQ_rdData (s : State) (a : Fin 12) (g : QArm → QArm) : (s.modQ a g).rdData = s.rdData := rfl
@[simp] theorem State.modQ_wheel (s : State) (a : Fin 12) (g : QArm → QArm) : (s.modQ a g).wheel = s.wheel := rfl
@[simp] theorem State.modQ_fbps (s : State) (a : Fin 12) (g : QArm → QArm) : (s.modQ a g).fbps = s.fbps := rfl
@[simp] theorem State.modQ_tiles (s : State) (a : Fin 12) (g : QArm → QArm) : (s.modQ a g).tiles = s.tiles := rfl
@[simp] theorem State.modQ_acq (s : State) (a : Fin 12) (g : QArm → QArm) : (s.modQ a g).acq = s.acq := rfl
@[simp] theorem State.modQ_lowWords (s : State) (a : Fin 12) (g : QArm → QArm) : (s.modQ a g).lowWords = s.lowWords := rfl
@[simp] theorem State.modQ_ains (s : State) (a : Fin 12) (g : QArm → QArm) : (s.modQ a g).ains = s.ains := rfl
@[simp] theorem State.modQ_clusters (s : State) (a : Fin 12) (g : QArm → QArm) : (s.modQ a g).clusters = s.clusters := rfl
@[simp] theorem State.modQ_clWas (s : State) (a : Fin 12) (g : QArm → QArm) : (s.modQ a g).clWas = s.clWas := rfl
@[simp] theorem State.modQ_pps (s : State) (a : Fin 12) (g : QArm → QArm) : (s.modQ a g).pps = s.pps := rfl
@[simp] theorem State.modQ_qarms (s : State) (a : Fin 12) (g : QArm → QArm) : (s.modQ a g).qarms = s.qarms.modify a g := rfl
@[simp] theorem State.modQ_frameSeq (s : State) (a : Fin 12) (g : QArm → QArm) : (s.modQ a g).frameSeq = s.frameSeq := rfl
@[simp] theorem State.modQ_jobsDue (s : State) (a : Fin 12) (g : QArm → QArm) : (s.modQ a g).jobsDue = s.jobsDue := rfl
@[simp] theorem State.modQ_safe (s : State) (a : Fin 12) (g : QArm → QArm) : (s.modQ a g).safe = s.safe := rfl
@[simp] theorem State.modQ_doors (s : State) (a : Fin 12) (g : QArm → QArm) : (s.modQ a g).doors = s.doors := rfl
@[simp] theorem State.modQ_rings (s : State) (a : Fin 12) (g : QArm → QArm) : (s.modQ a g).rings = s.rings := rfl
@[simp] theorem State.modQ_fio (s : State) (a : Fin 12) (g : QArm → QArm) : (s.modQ a g).fio = s.fio := rfl
@[simp] theorem State.modQ_pair (s : State) (a : Fin 12) (g : QArm → QArm) : (s.modQ a g).pair = s.pair := rfl
@[simp] theorem State.modQ_mem (s : State) (a : Fin 12) (g : QArm → QArm) : (s.modQ a g).mem = s.mem := rfl
@[simp] theorem State.modQ_readWords (s : State) (a : Fin 12) (g : QArm → QArm) : (s.modQ a g).readWords = s.readWords := rfl
@[simp] theorem State.modQ_host (s : State) (a : Fin 12) (g : QArm → QArm) : (s.modQ a g).host = s.host := rfl
@[simp] theorem State.modQ_free (s : State) (a : Fin 12) (g : QArm → QArm) : (s.modQ a g).free = s.free := rfl
@[simp] theorem State.modQ_rd (s : State) (a : Fin 12) (g : QArm → QArm) (q : Nat) : (s.modQ a g).rd q = s.rd q := rfl
@[simp] theorem State.modQ_f (s : State) (a : Fin 12) (g : QArm → QArm) (y : Fld) : (s.modQ a g).f y = s.f y := rfl
@[simp] theorem State.modQ_flag (s : State) (a : Fin 12) (g : QArm → QArm) (y : Fld) : (s.modQ a g).flag y = s.flag y := rfl
@[simp] theorem State.modQ_rdN (s : State) (a : Fin 12) (g : QArm → QArm) (q : Nat) : (s.modQ a g).rdN q = s.rdN q := rfl
@[simp] theorem State.modQ_rd2 (s : State) (a : Fin 12) (g : QArm → QArm) (q : Nat → Nat) : (s.modQ a g).rd2 q = s.rd2 q := rfl
/-! modPp -/
@[simp] theorem State.modPp_regs (s : State) (p : Fin 32) (g : PowerPort → PowerPort) : (s.modPp p g).regs = s.regs := rfl
@[simp] theorem State.modPp_time (s : State) (p : Fin 32) (g : PowerPort → PowerPort) : (s.modPp p g).time = s.time := rfl
@[simp] theorem State.modPp_sys (s : State) (p : Fin 32) (g : PowerPort → PowerPort) : (s.modPp p g).sys = s.sys := rfl
@[simp] theorem State.modPp_hq (s : State) (p : Fin 32) (g : PowerPort → PowerPort) : (s.modPp p g).hq = s.hq := rfl
@[simp] theorem State.modPp_sched (s : State) (p : Fin 32) (g : PowerPort → PowerPort) : (s.modPp p g).sched = s.sched := rfl
@[simp] theorem State.modPp_flt (s : State) (p : Fin 32) (g : PowerPort → PowerPort) : (s.modPp p g).flt = s.flt := rfl
@[simp] theorem State.modPp_recorder (s : State) (p : Fin 32) (g : PowerPort → PowerPort) : (s.modPp p g).recorder = s.recorder := rfl
@[simp] theorem State.modPp_nv (s : State) (p : Fin 32) (g : PowerPort → PowerPort) : (s.modPp p g).nv = s.nv := rfl
@[simp] theorem State.modPp_cfg (s : State) (p : Fin 32) (g : PowerPort → PowerPort) : (s.modPp p g).cfg = s.cfg := rfl
@[simp] theorem State.modPp_rdData (s : State) (p : Fin 32) (g : PowerPort → PowerPort) : (s.modPp p g).rdData = s.rdData := rfl
@[simp] theorem State.modPp_wheel (s : State) (p : Fin 32) (g : PowerPort → PowerPort) : (s.modPp p g).wheel = s.wheel := rfl
@[simp] theorem State.modPp_fbps (s : State) (p : Fin 32) (g : PowerPort → PowerPort) : (s.modPp p g).fbps = s.fbps := rfl
@[simp] theorem State.modPp_tiles (s : State) (p : Fin 32) (g : PowerPort → PowerPort) : (s.modPp p g).tiles = s.tiles := rfl
@[simp] theorem State.modPp_acq (s : State) (p : Fin 32) (g : PowerPort → PowerPort) : (s.modPp p g).acq = s.acq := rfl
@[simp] theorem State.modPp_lowWords (s : State) (p : Fin 32) (g : PowerPort → PowerPort) : (s.modPp p g).lowWords = s.lowWords := rfl
@[simp] theorem State.modPp_ains (s : State) (p : Fin 32) (g : PowerPort → PowerPort) : (s.modPp p g).ains = s.ains := rfl
@[simp] theorem State.modPp_clusters (s : State) (p : Fin 32) (g : PowerPort → PowerPort) : (s.modPp p g).clusters = s.clusters := rfl
@[simp] theorem State.modPp_clWas (s : State) (p : Fin 32) (g : PowerPort → PowerPort) : (s.modPp p g).clWas = s.clWas := rfl
@[simp] theorem State.modPp_pps (s : State) (p : Fin 32) (g : PowerPort → PowerPort) : (s.modPp p g).pps = s.pps.modify p g := rfl
@[simp] theorem State.modPp_qarms (s : State) (p : Fin 32) (g : PowerPort → PowerPort) : (s.modPp p g).qarms = s.qarms := rfl
@[simp] theorem State.modPp_frameSeq (s : State) (p : Fin 32) (g : PowerPort → PowerPort) : (s.modPp p g).frameSeq = s.frameSeq := rfl
@[simp] theorem State.modPp_jobsDue (s : State) (p : Fin 32) (g : PowerPort → PowerPort) : (s.modPp p g).jobsDue = s.jobsDue := rfl
@[simp] theorem State.modPp_safe (s : State) (p : Fin 32) (g : PowerPort → PowerPort) : (s.modPp p g).safe = s.safe := rfl
@[simp] theorem State.modPp_doors (s : State) (p : Fin 32) (g : PowerPort → PowerPort) : (s.modPp p g).doors = s.doors := rfl
@[simp] theorem State.modPp_rings (s : State) (p : Fin 32) (g : PowerPort → PowerPort) : (s.modPp p g).rings = s.rings := rfl
@[simp] theorem State.modPp_fio (s : State) (p : Fin 32) (g : PowerPort → PowerPort) : (s.modPp p g).fio = s.fio := rfl
@[simp] theorem State.modPp_pair (s : State) (p : Fin 32) (g : PowerPort → PowerPort) : (s.modPp p g).pair = s.pair := rfl
@[simp] theorem State.modPp_mem (s : State) (p : Fin 32) (g : PowerPort → PowerPort) : (s.modPp p g).mem = s.mem := rfl
@[simp] theorem State.modPp_readWords (s : State) (p : Fin 32) (g : PowerPort → PowerPort) : (s.modPp p g).readWords = s.readWords := rfl
@[simp] theorem State.modPp_host (s : State) (p : Fin 32) (g : PowerPort → PowerPort) : (s.modPp p g).host = s.host := rfl
@[simp] theorem State.modPp_free (s : State) (p : Fin 32) (g : PowerPort → PowerPort) : (s.modPp p g).free = s.free := rfl
@[simp] theorem State.modPp_rd (s : State) (p : Fin 32) (g : PowerPort → PowerPort) (q : Nat) : (s.modPp p g).rd q = s.rd q := rfl
@[simp] theorem State.modPp_f (s : State) (p : Fin 32) (g : PowerPort → PowerPort) (y : Fld) : (s.modPp p g).f y = s.f y := rfl
@[simp] theorem State.modPp_flag (s : State) (p : Fin 32) (g : PowerPort → PowerPort) (y : Fld) : (s.modPp p g).flag y = s.flag y := rfl
@[simp] theorem State.modPp_rdN (s : State) (p : Fin 32) (g : PowerPort → PowerPort) (q : Nat) : (s.modPp p g).rdN q = s.rdN q := rfl
@[simp] theorem State.modPp_rd2 (s : State) (p : Fin 32) (g : PowerPort → PowerPort) (q : Nat → Nat) : (s.modPp p g).rd2 q = s.rd2 q := rfl
/-! modPairSt -/
@[simp] theorem State.modPairSt_regs (s : State) (g : PairState → PairState) : (s.modPairSt g).regs = s.regs := rfl
@[simp] theorem State.modPairSt_time (s : State) (g : PairState → PairState) : (s.modPairSt g).time = s.time := rfl
@[simp] theorem State.modPairSt_sys (s : State) (g : PairState → PairState) : (s.modPairSt g).sys = s.sys := rfl
@[simp] theorem State.modPairSt_hq (s : State) (g : PairState → PairState) : (s.modPairSt g).hq = s.hq := rfl
@[simp] theorem State.modPairSt_sched (s : State) (g : PairState → PairState) : (s.modPairSt g).sched = s.sched := rfl
@[simp] theorem State.modPairSt_flt (s : State) (g : PairState → PairState) : (s.modPairSt g).flt = s.flt := rfl
@[simp] theorem State.modPairSt_recorder (s : State) (g : PairState → PairState) : (s.modPairSt g).recorder = s.recorder := rfl
@[simp] theorem State.modPairSt_nv (s : State) (g : PairState → PairState) : (s.modPairSt g).nv = s.nv := rfl
@[simp] theorem State.modPairSt_cfg (s : State) (g : PairState → PairState) : (s.modPairSt g).cfg = s.cfg := rfl
@[simp] theorem State.modPairSt_rdData (s : State) (g : PairState → PairState) : (s.modPairSt g).rdData = s.rdData := rfl
@[simp] theorem State.modPairSt_wheel (s : State) (g : PairState → PairState) : (s.modPairSt g).wheel = s.wheel := rfl
@[simp] theorem State.modPairSt_fbps (s : State) (g : PairState → PairState) : (s.modPairSt g).fbps = s.fbps := rfl
@[simp] theorem State.modPairSt_tiles (s : State) (g : PairState → PairState) : (s.modPairSt g).tiles = s.tiles := rfl
@[simp] theorem State.modPairSt_acq (s : State) (g : PairState → PairState) : (s.modPairSt g).acq = s.acq := rfl
@[simp] theorem State.modPairSt_lowWords (s : State) (g : PairState → PairState) : (s.modPairSt g).lowWords = s.lowWords := rfl
@[simp] theorem State.modPairSt_ains (s : State) (g : PairState → PairState) : (s.modPairSt g).ains = s.ains := rfl
@[simp] theorem State.modPairSt_clusters (s : State) (g : PairState → PairState) : (s.modPairSt g).clusters = s.clusters := rfl
@[simp] theorem State.modPairSt_clWas (s : State) (g : PairState → PairState) : (s.modPairSt g).clWas = s.clWas := rfl
@[simp] theorem State.modPairSt_pps (s : State) (g : PairState → PairState) : (s.modPairSt g).pps = s.pps := rfl
@[simp] theorem State.modPairSt_qarms (s : State) (g : PairState → PairState) : (s.modPairSt g).qarms = s.qarms := rfl
@[simp] theorem State.modPairSt_frameSeq (s : State) (g : PairState → PairState) : (s.modPairSt g).frameSeq = s.frameSeq := rfl
@[simp] theorem State.modPairSt_jobsDue (s : State) (g : PairState → PairState) : (s.modPairSt g).jobsDue = s.jobsDue := rfl
@[simp] theorem State.modPairSt_safe (s : State) (g : PairState → PairState) : (s.modPairSt g).safe = s.safe := rfl
@[simp] theorem State.modPairSt_doors (s : State) (g : PairState → PairState) : (s.modPairSt g).doors = s.doors := rfl
@[simp] theorem State.modPairSt_rings (s : State) (g : PairState → PairState) : (s.modPairSt g).rings = s.rings := rfl
@[simp] theorem State.modPairSt_fio (s : State) (g : PairState → PairState) : (s.modPairSt g).fio = s.fio := rfl
@[simp] theorem State.modPairSt_pair (s : State) (g : PairState → PairState) : (s.modPairSt g).pair = g s.pair := rfl
@[simp] theorem State.modPairSt_mem (s : State) (g : PairState → PairState) : (s.modPairSt g).mem = s.mem := rfl
@[simp] theorem State.modPairSt_readWords (s : State) (g : PairState → PairState) : (s.modPairSt g).readWords = s.readWords := rfl
@[simp] theorem State.modPairSt_host (s : State) (g : PairState → PairState) : (s.modPairSt g).host = s.host := rfl
@[simp] theorem State.modPairSt_free (s : State) (g : PairState → PairState) : (s.modPairSt g).free = s.free := rfl
@[simp] theorem State.modPairSt_rd (s : State) (g : PairState → PairState) (q : Nat) : (s.modPairSt g).rd q = s.rd q := rfl
@[simp] theorem State.modPairSt_f (s : State) (g : PairState → PairState) (y : Fld) : (s.modPairSt g).f y = s.f y := rfl
@[simp] theorem State.modPairSt_flag (s : State) (g : PairState → PairState) (y : Fld) : (s.modPairSt g).flag y = s.flag y := rfl
@[simp] theorem State.modPairSt_rdN (s : State) (g : PairState → PairState) (q : Nat) : (s.modPairSt g).rdN q = s.rdN q := rfl
@[simp] theorem State.modPairSt_rd2 (s : State) (g : PairState → PairState) (q : Nat → Nat) : (s.modPairSt g).rd2 q = s.rd2 q := rfl

-- ===== reading after a write =====

@[simp] theorem State.rd_wr_same (s : State) (a : Nat) (v : Word) : (s.wr a v).rd a = v := Store.get_set_same _ _ _

theorem State.rd_wr (s : State) (a b : Nat) (v : Word) : (s.wr a v).rd b = if b = a then v else s.rd b := Store.get_set _ _ _ _

theorem State.rd_wr_ne (s : State) {a b : Nat} (v : Word) (h : b ≠ a) : (s.wr a v).rd b = s.rd b := Store.get_set_ne _ _ h

theorem State.f_wr_ne (s : State) {a : Nat} {x : Fld} (v : Word) (h : x.reg ≠ a) : (s.wr a v).f x = s.f x := by
  simp only [State.f, State.rd_wr_ne s v h]

@[simp] theorem State.f_wr_same (s : State) (x : Fld) (v : Word) : (s.wr x.reg v).f x = x.get v := by
  simp only [State.f, State.rd_wr_same]

theorem State.rd_setF_ne (s : State) {x : Fld} {b : Nat} (v : Nat) (h : b ≠ x.reg) : (s.setF x v).rd b = s.rd b :=
  State.rd_wr_ne s _ h

theorem State.rd_setB_ne (s : State) {x : Fld} {b : Nat} (v : Bool) (h : b ≠ x.reg) : (s.setB x v).rd b = s.rd b :=
  State.rd_wr_ne s _ h

/-- A field reads what was written to it. -/
theorem State.f_setF_same (s : State) (x : Fld) (v : Nat) (h : x.lo + x.width ≤ 32) : (s.setF x v).f x = v % 2 ^ x.width := by
  simp only [State.f, State.setF, State.rd_wr_same]
  exact Fld.get_put_same x _ v h

theorem State.f_setF_ne (s : State) {x y : Fld} (v : Nat) (h : y.reg ≠ x.reg) : (s.setF x v).f y = s.f y :=
  State.f_wr_ne s _ h

/-- A field of the same register that the written one does not meet keeps its value. -/
theorem State.f_setF_disj (s : State) {x y : Fld} (v : Nat) (hr : y.reg = x.reg)
    (h : x.lo + x.width ≤ y.lo ∨ y.lo + y.width ≤ x.lo) : (s.setF x v).f y = s.f y := by
  simp only [State.f, State.setF, hr, State.rd_wr_same]
  exact Fld.get_put_disjoint x y _ v h

theorem State.setB_eq (s : State) (x : Fld) (v : Bool) : s.setB x v = s.setF x (b2n v) := rfl

theorem State.flag_eq (s : State) (x : Fld) : s.flag x = (s.f x != 0) := rfl

theorem State.rd_bumpBy_ne (s : State) {a b : Nat} (n : Nat) (h : b ≠ a) : (s.bumpBy a n).rd b = s.rd b := State.rd_wr_ne s _ h

theorem State.rd_bump_ne (s : State) {a b : Nat} (h : b ≠ a) : (s.bump a).rd b = s.rd b := State.rd_wr_ne s _ h

theorem State.f_bump_ne (s : State) {x : Fld} {a : Nat} (h : x.reg ≠ a) : (s.bump a).f x = s.f x := State.f_wr_ne s _ h

/-- A saturating counter counts one (R12). -/
@[simp] theorem State.rdN_bump_same (s : State) (a : Nat) : (s.bump a).rdN a = min (s.rdN a + 1) 4294967295 := by
  unfold State.rdN State.bump State.bumpBy State.wrN
  rw [State.rd_wr_same, BitVec.toNat_ofNat]
  exact Nat.mod_eq_of_lt (by omega)

theorem State.rd_wrN_ne (s : State) {a b : Nat} (v : Nat) (h : b ≠ a) : (s.wrN a v).rd b = s.rd b := State.rd_wr_ne s _ h

theorem State.rd_wr2_ne (s : State) {w : Nat → Nat} {b : Nat} (v : Nat) (h0 : b ≠ w 0) (h1 : b ≠ w 1) : (s.wr2 w v).rd b = s.rd b := by
  unfold State.wr2 State.wrN
  rw [State.rd_wr_ne _ _ h1, State.rd_wr_ne _ _ h0]

/-- A two-word register reads what was written to it. -/
theorem State.rd2_wr2_same (s : State) (w : Nat → Nat) (v : Nat) (h : w 0 ≠ w 1) : (s.wr2 w v).rd2 w = v % 18446744073709551616 := by
  unfold State.rd2 State.wr2 State.rdN State.wrN
  rw [State.rd_wr_ne _ _ h, State.rd_wr_same, State.rd_wr_same, BitVec.toNat_ofNat, BitVec.toNat_ofNat]
  omega

theorem State.rdN_wr_ne (s : State) {a b : Nat} (v : Word) (h : b ≠ a) : (s.wr a v).rdN b = s.rdN b := by
  unfold State.rdN
  rw [State.rd_wr_ne s v h]

theorem State.rdN_setF_ne (s : State) {x : Fld} {b : Nat} (v : Nat) (h : b ≠ x.reg) : (s.setF x v).rdN b = s.rdN b :=
  State.rdN_wr_ne s _ h

theorem State.rdN_bump_ne (s : State) {a b : Nat} (h : b ≠ a) : (s.bump a).rdN b = s.rdN b := State.rdN_wr_ne s _ h

theorem State.rdN_wrN_ne (s : State) {a b : Nat} (v : Nat) (h : b ≠ a) : (s.wrN a v).rdN b = s.rdN b := State.rdN_wr_ne s _ h

@[simp] theorem State.rdN_wrN_same (s : State) (a v : Nat) : (s.wrN a v).rdN a = v % 4294967296 := by
  simp only [State.rdN, State.wrN, State.rd_wr_same, BitVec.toNat_ofNat]

theorem State.rd2_wr_ne (s : State) {w : Nat → Nat} {a : Nat} (v : Word) (h0 : w 0 ≠ a) (h1 : w 1 ≠ a) : (s.wr a v).rd2 w = s.rd2 w := by
  unfold State.rd2
  rw [State.rdN_wr_ne s v h0, State.rdN_wr_ne s v h1]

theorem State.rd2_setF_ne (s : State) {w : Nat → Nat} {x : Fld} (v : Nat) (h0 : w 0 ≠ x.reg) (h1 : w 1 ≠ x.reg) :
    (s.setF x v).rd2 w = s.rd2 w := State.rd2_wr_ne s _ h0 h1

theorem State.f_wrN_ne (s : State) {a : Nat} {x : Fld} (v : Nat) (h : x.reg ≠ a) : (s.wrN a v).f x = s.f x := State.f_wr_ne s _ h

theorem State.f_wr2_ne (s : State) {w : Nat → Nat} {x : Fld} (v : Nat) (h0 : x.reg ≠ w 0) (h1 : x.reg ≠ w 1) : (s.wr2 w v).f x = s.f x := by
  unfold State.wr2 State.wrN
  rw [State.f_wr_ne _ _ h1, State.f_wr_ne _ _ h0]

theorem State.rdI_wr_ne (s : State) {a b : Nat} (v : Word) (h : b ≠ a) : (s.wr a v).rdI b = s.rdI b := by
  unfold State.rdI
  rw [State.rd_wr_ne s v h]

end Sys2Proof.Machine
end

