-- ==== Sys2Proof/Laws/Shared.lean ====
section
/-! SUPPORT. What each shared operation can do, said once: offers to a queue and to the recorder, the mode change, runs
of register writes, the passing of time. -/

namespace Sys2Proof.Machine

-- ===== a set of registers kept =====

theorem State.keeps_refl (s : State) (l : List Nat) : s.keeps s l := fun _ _ => rfl

theorem State.keeps_of_regs {s t : State} (h : t.regs = s.regs) (l : List Nat) : s.keeps t l := by
  intro r _
  unfold State.rd
  rw [h]

theorem State.keeps_trans {s t u : State} {l : List Nat} (h : s.keeps t l) (h' : t.keeps u l) : s.keeps u l :=
  fun r hr => (h' r hr).trans (h r hr)

theorem State.keeps_mono {s t : State} {l k : List Nat} (h : s.keeps t l) (hs : ∀ x ∈ l, x ∈ k) : s.keeps t k :=
  fun r hr => h r (fun hl => hr (hs r hl))

theorem State.keeps_wr {s t : State} {l : List Nat} {a : Nat} (v : Word) (h : s.keeps t l) (ha : a ∈ l) : s.keeps (t.wr a v) l := by
  intro r hr
  rw [State.rd_wr_ne t v (by rintro rfl; exact hr ha)]
  exact h r hr

theorem State.keeps_setF {s t : State} {l : List Nat} {x : Fld} (v : Nat) (h : s.keeps t l) (ha : x.reg ∈ l) : s.keeps (t.setF x v) l :=
  State.keeps_wr _ h ha

theorem State.keeps_hit {s t : State} {l : List Nat} {x : Fld} (h : s.keeps t l) (ha : x.reg ∈ l) : s.keeps (t.hit x) l :=
  fun r hr => State.keeps_setF 1 h ha r hr

theorem State.keeps_bump {s t : State} {l : List Nat} {a : Nat} (h : s.keeps t l) (ha : a ∈ l) : s.keeps (t.bump a) l :=
  State.keeps_wr _ h ha

theorem State.keeps_raise {s t : State} {l : List Nat} (m : FaultMsg) (h : s.keeps t l) : s.keeps (t.raise m) l := h

theorem State.keeps_endCause {s t : State} {l : List Nat} (a k : Nat) (h : s.keeps t l) : s.keeps (t.endCause a k) l := h

theorem State.keeps_wr2 {s t : State} {l : List Nat} {w : Nat → Nat} (v : Nat) (h : s.keeps t l) (h0 : w 0 ∈ l) (h1 : w 1 ∈ l) :
    s.keeps (t.wr2 w v) l := State.keeps_wr _ (State.keeps_wr _ h h0) h1

/-- A field of a register that is kept keeps its value. -/
theorem State.f_keeps {s t : State} {l : List Nat} (h : s.keeps t l) {x : Fld} (hx : x.reg ∉ l) : t.f x = s.f x := by
  unfold State.f
  rw [h _ hx]

-- ===== runs of writes =====

/-- Register words given by address change no other register. -/
theorem State.rd_wrAll (s : State) (ps : List (Nat × Word)) {r : Nat} (h : ∀ p ∈ ps, r ≠ p.1) : (s.wrAll ps).rd r = s.rd r := by
  induction ps generalizing s with
  | nil => rfl
  | cons p ps ih =>
    unfold State.wrAll
    rw [ih _ (fun q hq => h q (List.mem_cons_of_mem _ hq)), State.rd_wr_ne _ _ (h p List.mem_cons_self)]

/-- Words at rising addresses change no register below the first or beyond the last. -/
theorem State.rd_wrWords (s : State) (a : Nat) (ws : List Word) {r : Nat} (h : r < a ∨ a + 4 * ws.length ≤ r) :
    (s.wrWords a ws).rd r = s.rd r := by
  induction ws generalizing s a with
  | nil => rfl
  | cons w ws ih =>
    unfold State.wrWords
    simp only [List.length_cons] at h
    rw [ih _ _ (by omega), State.rd_wr_ne _ _ (by omega)]

-- ===== queues =====

/-- An admitted offer: the item stands last in its queue, the other queues and all else but the queue's high-water mark are
as before (R135, R141). -/
theorem State.offer_some {s u : State} {n : Fin 16} {i : QItem} (h : s.offer n i = some u) :
    (u.queue n).items = (s.queue n).items ++ [i] ∧ (u.queue n).waiting = (s.queue n).waiting ∧
      (∀ m, m ≠ n → u.queue m = s.queue m) ∧ s.keeps u [HQ_HWM n] ∧ u = { s with hq := u.hq, regs := u.regs } := by
  unfold State.offer at h
  dsimp only at h
  split at h
  · simp only [Option.some.injEq] at h
    subst h
    refine ⟨?_, ?_, ?_, ?_, rfl⟩
    · simp [State.queue]
    · simp [State.queue]
    · intro m hm
      simp [State.queue, Bank.get_set_ne _ _ hm]
    · intro r hr
      simp only [List.mem_singleton] at hr
      exact State.rd_wr_ne _ _ hr
  · cases h

/-- Cells that return change nothing but their queue's books and the pool (R135). -/
theorem State.freeCells_items (s : State) (n : Fin 16) (k : Nat) (m : Fin 16) : ((s.freeCells n k).queue m).items = (s.queue m).items := by
  unfold State.freeCells State.queue
  dsimp only
  by_cases h : m = n
  · subst h; simp
  · rw [Bank.get_set_ne _ _ h]

/-- The oldest item leaves its queue (R134). -/
theorem State.take_some {s u : State} {n : Fin 16} {i : QItem} (h : s.take n = some (i, u)) :
    (s.queue n).items = i :: (u.queue n).items ∧ (∀ m, m ≠ n → (u.queue m).items = (s.queue m).items) ∧ u = { s with hq := u.hq } := by
  unfold State.take at h
  split at h
  · cases h
  · next i' is hi =>
    simp only [Option.some.injEq, Prod.mk.injEq] at h
    obtain ⟨rfl, rfl⟩ := h
    refine ⟨?_, ?_, rfl⟩
    · rw [State.freeCells_items]
      simp [State.queue] at hi ⊢
      exact hi
    · intro m hm
      rw [State.freeCells_items]
      simp [State.queue, Bank.get_set_ne _ _ hm]

/-- Withdrawn items leave their queue, the others stay in order. -/
theorem State.withdraw_items (s : State) (n : Fin 16) (p : QItem → Bool) :
    ((s.withdraw n p).queue n).items = (s.queue n).items.filter (fun i => !p i) ∧
      (∀ m, m ≠ n → ((s.withdraw n p).queue m).items = (s.queue m).items) := by
  unfold State.withdraw
  dsimp only
  refine ⟨?_, ?_⟩
  · rw [State.freeCells_items]
    simp [State.queue]
  · intro m hm
    rw [State.freeCells_items]
    simp [State.queue, Bank.get_set_ne _ _ hm]

theorem State.withdraw_frame (s : State) (n : Fin 16) (p : QItem → Bool) : s.withdraw n p = { s with hq := (s.withdraw n p).hq } := rfl

-- ===== the recorder's intake =====

theorem State.noteDrop_keeps (s : State) (p : Nat) : s.keeps (s.noteDrop p) recRegs := by
  unfold State.noteDrop
  dsimp only
  refine State.keeps_bump (State.keeps_bump (State.keeps_setF _ ?_ (by decide)) (by decide)) (by decide)
  split
  · exact State.keeps_hit (State.keeps_of_regs rfl _) (by decide)
  · exact State.keeps_of_regs rfl _

theorem State.recMakeRoom_keeps (s : State) (r : RecItem) (it : QItem) (k : Nat) : s.keeps (s.recMakeRoom r it k).1 recRegs := by
  induction k generalizing s with
  | zero => exact State.keeps_refl _ _
  | succ k ih =>
    unfold State.recMakeRoom
    split
    · next s' h => exact State.keeps_mono (State.offer_some h).2.2.2.1 (by decide)
    · dsimp only
      split
      · exact State.noteDrop_keeps _ _
      · refine State.keeps_trans ?_ (ih _)
        refine State.keeps_trans ?_ (State.noteDrop_keeps _ _)
        exact State.keeps_of_regs rfl _

theorem State.recEnqueue_keeps (s : State) (r : RecItem) : s.keeps (s.recEnqueue r).1 recRegs := State.recMakeRoom_keeps _ _ _ _

theorem State.recJudge_keeps (s : State) (r : RecItem) : s.keeps (s.recJudge r).1 recRegs := by
  unfold State.recJudge
  split
  · exact State.recEnqueue_keeps _ _
  · split
    · exact State.recEnqueue_keeps _ _
    · dsimp only
      split
      · exact State.keeps_bump (State.keeps_hit (State.keeps_of_regs rfl _) (by decide)) (by decide)
      · refine State.keeps_trans ?_ (State.recEnqueue_keeps _ _)
        split
        · exact State.keeps_of_regs rfl _
        · exact State.keeps_trans (State.keeps_of_regs rfl _) (State.recEnqueue_keeps _ _)

/-- An offer is refused and counted, or judged (R482, R483). -/
theorem State.recOffer_cases (s : State) (f : Bool) (r : RecItem) :
    (s.recOffer f r).1 = s.bump REC_CNT_REF ∨ ∃ q, s.recOffer f r = s.recJudge q := by
  unfold State.recOffer
  dsimp only
  by_cases h : (if f = true then decide (r.code < 0x1000) || (decide (r.code < 0x8000) && (s.recEntry r.code).isNone) else decide (0x1000 ≤ r.code)) = true
  · rw [if_pos h]; exact .inl rfl
  · rw [if_neg h]
    generalize (decide (996 < r.payload.length) || _ : Bool) = long
    cases long
    · exact .inr ⟨_, rfl⟩
    · exact .inl rfl

theorem State.recOffer_keeps (s : State) (f : Bool) (r : RecItem) : s.keeps (s.recOffer f r).1 recRegs := by
  rcases State.recOffer_cases s f r with h | ⟨q, h⟩
  · rw [h]; exact State.keeps_bump (State.keeps_refl _ _) (by decide)
  · rw [h]; exact State.recJudge_keeps _ _

/-- An offer to the recorder writes none but the recorder's own registers (R135, R483, R486). -/
theorem State.offerRec_keeps (s : State) (code prio : Nat) (payload : List Byte) : s.keeps (s.offerRec code prio payload) recRegs :=
  State.recOffer_keeps _ _ _

/-- Nothing but the registers, the recorder, the queues and the bits that hardware set in this cycle differs. -/
def State.recFrame (s t : State) : Prop :=
  t = { s with regs := t.regs, recorder := t.recorder, hq := t.hq, time := { s.time with hits := t.time.hits } }

theorem State.recFrame_trans {s t u : State} (h : s.recFrame t) (h' : t.recFrame u) : s.recFrame u := by
  unfold State.recFrame at *
  exact h'.trans (by rw [h])

theorem State.noteDrop_frame (s : State) (p : Nat) : s.recFrame (s.noteDrop p) := by
  unfold State.noteDrop
  dsimp only
  split <;> rfl

theorem State.recRemove_frame (s : State) (ix k : Nat) : s.recFrame (s.recRemove ix k) := by
  apply State.ext <;> rfl

theorem State.recMakeRoom_frame (s : State) (r : RecItem) (it : QItem) (k : Nat) : s.recFrame (s.recMakeRoom r it k).1 := by
  induction k generalizing s with
  | zero => rfl
  | succ k ih =>
    unfold State.recMakeRoom
    split
    · next s' h =>
      unfold State.recFrame
      dsimp only
      rw [(State.offer_some h).2.2.2.2]
    · dsimp only
      split
      · exact State.noteDrop_frame _ _
      · refine State.recFrame_trans ?_ (ih _)
        exact State.recFrame_trans (State.recRemove_frame _ _ _) (State.noteDrop_frame _ _)

theorem State.recEnqueue_frame (s : State) (r : RecItem) : s.recFrame (s.recEnqueue r).1 := State.recMakeRoom_frame _ _ _ _

theorem State.recJudge_frame (s : State) (r : RecItem) : s.recFrame (s.recJudge r).1 := by
  unfold State.recJudge
  split
  · exact State.recEnqueue_frame _ _
  · split
    · exact State.recEnqueue_frame _ _
    · dsimp only
      split
      · rfl
      · refine State.recFrame_trans ?_ (State.recEnqueue_frame _ _)
        split
        · rfl
        · exact State.recFrame_trans (rfl : s.recFrame (s.putBucket _)) (State.recEnqueue_frame _ _)

theorem State.recOffer_frame (s : State) (f : Bool) (r : RecItem) : s.recFrame (s.recOffer f r).1 := by
  rcases State.recOffer_cases s f r with h | ⟨q, h⟩
  · rw [h]; rfl
  · rw [h]; exact State.recJudge_frame _ _

/-- An offer to the recorder changes the recorder, HQ8 and its registers, and nothing else. -/
theorem State.offerRec_frame (s : State) (code prio : Nat) (payload : List Byte) : s.recFrame (s.offerRec code prio payload) :=
  State.recOffer_frame _ _ _

theorem State.offerRec_time (s : State) (c p : Nat) (b : List Byte) :
    (s.offerRec c p b).time = { s.time with hits := (s.offerRec c p b).time.hits } := (State.ext_iff.mp (State.offerRec_frame s c p b)).2.2.1
@[simp] theorem State.offerRec_mono (s : State) (c p : Nat) (b : List Byte) : (s.offerRec c p b).time.mono = s.time.mono := by rw [State.offerRec_time]
@[simp] theorem State.offerRec_now (s : State) (c p : Nat) (b : List Byte) : (s.offerRec c p b).time.now = s.time.now := by rw [State.offerRec_time]
@[simp] theorem State.offerRec_elapsed (s : State) (c p : Nat) (b : List Byte) : (s.offerRec c p b).time.elapsed = s.time.elapsed := by rw [State.offerRec_time]
@[simp] theorem State.offerRec_was (s : State) (c p : Nat) (b : List Byte) : (s.offerRec c p b).time.was = s.time.was := by rw [State.offerRec_time]
@[simp] theorem State.offerRec_sys (s : State) (c p : Nat) (b : List Byte) : (s.offerRec c p b).sys = s.sys := (State.ext_iff.mp (State.offerRec_frame s c p b)).2.2.2.1
@[simp] theorem State.offerRec_sched (s : State) (c p : Nat) (b : List Byte) : (s.offerRec c p b).sched = s.sched := (State.ext_iff.mp (State.offerRec_frame s c p b)).2.2.2.2.2.1
@[simp] theorem State.offerRec_flt (s : State) (c p : Nat) (b : List Byte) : (s.offerRec c p b).flt = s.flt := (State.ext_iff.mp (State.offerRec_frame s c p b)).2.2.2.2.2.2.1
@[simp] theorem State.offerRec_nv (s : State) (c p : Nat) (b : List Byte) : (s.offerRec c p b).nv = s.nv := (State.ext_iff.mp (State.offerRec_frame s c p b)).2.2.2.2.2.2.2.2.1
@[simp] theorem State.offerRec_cfg (s : State) (c p : Nat) (b : List Byte) : (s.offerRec c p b).cfg = s.cfg := (State.ext_iff.mp (State.offerRec_frame s c p b)).2.2.2.2.2.2.2.2.2.1
@[simp] theorem State.offerRec_rdData (s : State) (c p : Nat) (b : List Byte) : (s.offerRec c p b).rdData = s.rdData := (State.ext_iff.mp (State.offerRec_frame s c p b)).2.2.2.2.2.2.2.2.2.2.1
@[simp] theorem State.offerRec_wheel (s : State) (c p : Nat) (b : List Byte) : (s.offerRec c p b).wheel = s.wheel := (State.ext_iff.mp (State.offerRec_frame s c p b)).2.2.2.2.2.2.2.2.2.2.2.1
@[simp] theorem State.offerRec_fbps (s : State) (c p : Nat) (b : List Byte) : (s.offerRec c p b).fbps = s.fbps := (State.ext_iff.mp (State.offerRec_frame s c p b)).2.2.2.2.2.2.2.2.2.2.2.2.1
@[simp] theorem State.offerRec_tiles (s : State) (c p : Nat) (b : List Byte) : (s.offerRec c p b).tiles = s.tiles := (State.ext_iff.mp (State.offerRec_frame s c p b)).2.2.2.2.2.2.2.2.2.2.2.2.2.1
@[simp] theorem State.offerRec_acq (s : State) (c p : Nat) (b : List Byte) : (s.offerRec c p b).acq = s.acq := (State.ext_iff.mp (State.offerRec_frame s c p b)).2.2.2.2.2.2.2.2.2.2.2.2.2.2.1
@[simp] theorem State.offerRec_lowWords (s : State) (c p : Nat) (b : List Byte) : (s.offerRec c p b).lowWords = s.lowWords := (State.ext_iff.mp (State.offerRec_frame s c p b)).2.2.2.2.2.2.2.2.2.2.2.2.2.2.2.1
@[simp] theorem State.offerRec_ains (s : State) (c p : Nat) (b : List Byte) : (s.offerRec c p b).ains = s.ains := (State.ext_iff.mp (State.offerRec_frame s c p b)).2.2.2.2.2.2.2.2.2.2.2.2.2.2.2.2.1
@[simp] theorem State.offerRec_clusters (s : State) (c p : Nat) (b : List Byte) : (s.offerRec c p b).clusters = s.clusters := (State.ext_iff.mp (State.offerRec_frame s c p b)).2.2.2.2.2.2.2.2.2.2.2.2.2.2.2.2.2.1
@[simp] theorem State.offerRec_clWas (s : State) (c p : Nat) (b : List Byte) : (s.offerRec c p b).clWas = s.clWas := (State.ext_iff.mp (State.offerRec_frame s c p b)).2.2.2.2.2.2.2.2.2.2.2.2.2.2.2.2.2.2.1
@[simp] theorem State.offerRec_pps (s : State) (c p : Nat) (b : List Byte) : (s.offerRec c p b).pps = s.pps := (State.ext_iff.mp (State.offerRec_frame s c p b)).2.2.2.2.2.2.2.2.2.2.2.2.2.2.2.2.2.2.2.1
@[simp] theorem State.offerRec_qarms (s : State) (c p : Nat) (b : List Byte) : (s.offerRec c p b).qarms = s.qarms := (State.ext_iff.mp (State.offerRec_frame s c p b)).2.2.2.2.2.2.2.2.2.2.2.2.2.2.2.2.2.2.2.2.1
@[simp] theorem State.offerRec_frameSeq (s : State) (c p : Nat) (b : List Byte) : (s.offerRec c p b).frameSeq = s.frameSeq := (State.ext_iff.mp (State.offerRec_frame s c p b)).2.2.2.2.2.2.2.2.2.2.2.2.2.2.2.2.2.2.2.2.2.1
@[simp] theorem State.offerRec_jobsDue (s : State) (c p : Nat) (b : List Byte) : (s.offerRec c p b).jobsDue = s.jobsDue := (State.ext_iff.mp (State.offerRec_frame s c p b)).2.2.2.2.2.2.2.2.2.2.2.2.2.2.2.2.2.2.2.2.2.2.1
@[simp] theorem State.offerRec_safe (s : State) (c p : Nat) (b : List Byte) : (s.offerRec c p b).safe = s.safe := (State.ext_iff.mp (State.offerRec_frame s c p b)).2.2.2.2.2.2.2.2.2.2.2.2.2.2.2.2.2.2.2.2.2.2.2.1
@[simp] theorem State.offerRec_doors (s : State) (c p : Nat) (b : List Byte) : (s.offerRec c p b).doors = s.doors := (State.ext_iff.mp (State.offerRec_frame s c p b)).2.2.2.2.2.2.2.2.2.2.2.2.2.2.2.2.2.2.2.2.2.2.2.2.1
@[simp] theorem State.offerRec_rings (s : State) (c p : Nat) (b : List Byte) : (s.offerRec c p b).rings = s.rings := (State.ext_iff.mp (State.offerRec_frame s c p b)).2.2.2.2.2.2.2.2.2.2.2.2.2.2.2.2.2.2.2.2.2.2.2.2.2.1
@[simp] theorem State.offerRec_fio (s : State) (c p : Nat) (b : List Byte) : (s.offerRec c p b).fio = s.fio := (State.ext_iff.mp (State.offerRec_frame s c p b)).2.2.2.2.2.2.2.2.2.2.2.2.2.2.2.2.2.2.2.2.2.2.2.2.2.2.1
@[simp] theorem State.offerRec_pair (s : State) (c p : Nat) (b : List Byte) : (s.offerRec c p b).pair = s.pair := (State.ext_iff.mp (State.offerRec_frame s c p b)).2.2.2.2.2.2.2.2.2.2.2.2.2.2.2.2.2.2.2.2.2.2.2.2.2.2.2.1
@[simp] theorem State.offerRec_mem (s : State) (c p : Nat) (b : List Byte) : (s.offerRec c p b).mem = s.mem := (State.ext_iff.mp (State.offerRec_frame s c p b)).2.2.2.2.2.2.2.2.2.2.2.2.2.2.2.2.2.2.2.2.2.2.2.2.2.2.2.2.1
@[simp] theorem State.offerRec_readWords (s : State) (c p : Nat) (b : List Byte) : (s.offerRec c p b).readWords = s.readWords := (State.ext_iff.mp (State.offerRec_frame s c p b)).2.2.2.2.2.2.2.2.2.2.2.2.2.2.2.2.2.2.2.2.2.2.2.2.2.2.2.2.2.1
@[simp] theorem State.offerRec_host (s : State) (c p : Nat) (b : List Byte) : (s.offerRec c p b).host = s.host := (State.ext_iff.mp (State.offerRec_frame s c p b)).2.2.2.2.2.2.2.2.2.2.2.2.2.2.2.2.2.2.2.2.2.2.2.2.2.2.2.2.2.2.1
@[simp] theorem State.offerRec_free (s : State) (c p : Nat) (b : List Byte) : (s.offerRec c p b).free = s.free := (State.ext_iff.mp (State.offerRec_frame s c p b)).2.2.2.2.2.2.2.2.2.2.2.2.2.2.2.2.2.2.2.2.2.2.2.2.2.2.2.2.2.2.2

-- ===== the mode =====

theorem State.setMode_keeps (s : State) (m cause entry : Nat) : s.keeps (s.setMode m cause entry) modeRegs := by
  have h1 : s.keeps ((s.setF SYS_MODE_PREV s.mode).setF SYS_MODE_MODE m) modeRegs :=
    State.keeps_setF _ (State.keeps_setF _ (State.keeps_refl _ _) (by decide)) (by decide)
  have h2 : s.keeps (((s.setF SYS_MODE_PREV s.mode).setF SYS_MODE_MODE m).msix 2) modeRegs := h1
  have h3 : ∀ x ∈ recRegs, x ∈ modeRegs := fun x hx => List.mem_cons_of_mem _ hx
  unfold State.setMode
  exact State.keeps_trans h2 (State.keeps_mono (State.offerRec_keeps _ _ _ _) h3)

/-- After a mode change MODE is the new mode and PREV the old one (R74). -/
theorem State.setMode_mode (s : State) (m cause entry : Nat) (h : m < 16) : (s.setMode m cause entry).f SYS_MODE_MODE = m := by
  unfold State.setMode
  dsimp only
  rw [State.f_keeps (State.offerRec_keeps _ _ _ _) (by decide), State.msix_f, State.f_setF_same _ _ _ (by decide)]
  exact Nat.mod_eq_of_lt h

theorem State.setMode_prev (s : State) (m cause entry : Nat) : (s.setMode m cause entry).f SYS_MODE_PREV = s.mode % 16 := by
  unfold State.setMode
  dsimp only
  rw [State.f_keeps (State.offerRec_keeps _ _ _ _) (by decide), State.msix_f, State.f_setF_disj _ _ (by decide) (by decide),
    State.f_setF_same _ _ _ (by decide)]
  rfl

theorem State.setMode_frame (s : State) (m cause entry : Nat) :
    s.setMode m cause entry = { s with regs := (s.setMode m cause entry).regs, recorder := (s.setMode m cause entry).recorder,
                                       hq := (s.setMode m cause entry).hq, host := (s.setMode m cause entry).host,
                                       time := { s.time with hits := (s.setMode m cause entry).time.hits } } := by
  have key : ∀ u t : State, State.recFrame (u.msix 2) t → (∃ r, u = { s with regs := r }) →
      t = { s with regs := t.regs, recorder := t.recorder, hq := t.hq, host := t.host,
                   time := { s.time with hits := t.time.hits } } := by
    rintro u t h ⟨r, rfl⟩
    unfold State.recFrame at h
    have hh := congrArg State.host h
    dsimp only at hh
    exact Eq.trans h (by rw [hh]; rfl)
  refine key ((s.setF SYS_MODE_PREV s.mode).setF SYS_MODE_MODE m) _ ?_ ⟨_, rfl⟩
  unfold State.setMode
  exact State.offerRec_frame _ _ _ _

theorem State.setMode_time (s : State) (m c e : Nat) :
    (s.setMode m c e).time = { s.time with hits := (s.setMode m c e).time.hits } := (State.ext_iff.mp (State.setMode_frame s m c e)).2.2.1
@[simp] theorem State.setMode_mono (s : State) (m c e : Nat) : (s.setMode m c e).time.mono = s.time.mono := by rw [State.setMode_time]
@[simp] theorem State.setMode_now (s : State) (m c e : Nat) : (s.setMode m c e).time.now = s.time.now := by rw [State.setMode_time]
@[simp] theorem State.setMode_elapsed (s : State) (m c e : Nat) : (s.setMode m c e).time.elapsed = s.time.elapsed := by rw [State.setMode_time]
@[simp] theorem State.setMode_was (s : State) (m c e : Nat) : (s.setMode m c e).time.was = s.time.was := by rw [State.setMode_time]
@[simp] theorem State.setMode_sys (s : State) (m c e : Nat) : (s.setMode m c e).sys = s.sys := (State.ext_iff.mp (State.setMode_frame s m c e)).2.2.2.1
@[simp] theorem State.setMode_sched (s : State) (m c e : Nat) : (s.setMode m c e).sched = s.sched := (State.ext_iff.mp (State.setMode_frame s m c e)).2.2.2.2.2.1
@[simp] theorem State.setMode_flt (s : State) (m c e : Nat) : (s.setMode m c e).flt = s.flt := (State.ext_iff.mp (State.setMode_frame s m c e)).2.2.2.2.2.2.1
@[simp] theorem State.setMode_nv (s : State) (m c e : Nat) : (s.setMode m c e).nv = s.nv := (State.ext_iff.mp (State.setMode_frame s m c e)).2.2.2.2.2.2.2.2.1
@[simp] theorem State.setMode_cfg (s : State) (m c e : Nat) : (s.setMode m c e).cfg = s.cfg := (State.ext_iff.mp (State.setMode_frame s m c e)).2.2.2.2.2.2.2.2.2.1
@[simp] theorem State.setMode_rdData (s : State) (m c e : Nat) : (s.setMode m c e).rdData = s.rdData := (State.ext_iff.mp (State.setMode_frame s m c e)).2.2.2.2.2.2.2.2.2.2.1
@[simp] theorem State.setMode_wheel (s : State) (m c e : Nat) : (s.setMode m c e).wheel = s.wheel := (State.ext_iff.mp (State.setMode_frame s m c e)).2.2.2.2.2.2.2.2.2.2.2.1
@[simp] theorem State.setMode_fbps (s : State) (m c e : Nat) : (s.setMode m c e).fbps = s.fbps := (State.ext_iff.mp (State.setMode_frame s m c e)).2.2.2.2.2.2.2.2.2.2.2.2.1
@[simp] theorem State.setMode_tiles (s : State) (m c e : Nat) : (s.setMode m c e).tiles = s.tiles := (State.ext_iff.mp (State.setMode_frame s m c e)).2.2.2.2.2.2.2.2.2.2.2.2.2.1
@[simp] theorem State.setMode_acq (s : State) (m c e : Nat) : (s.setMode m c e).acq = s.acq := (State.ext_iff.mp (State.setMode_frame s m c e)).2.2.2.2.2.2.2.2.2.2.2.2.2.2.1
@[simp] theorem State.setMode_lowWords (s : State) (m c e : Nat) : (s.setMode m c e).lowWords = s.lowWords := (State.ext_iff.mp (State.setMode_frame s m c e)).2.2.2.2.2.2.2.2.2.2.2.2.2.2.2.1
@[simp] theorem State.setMode_ains (s : State) (m c e : Nat) : (s.setMode m c e).ains = s.ains := (State.ext_iff.mp (State.setMode_frame s m c e)).2.2.2.2.2.2.2.2.2.2.2.2.2.2.2.2.1
@[simp] theorem State.setMode_clusters (s : State) (m c e : Nat) : (s.setMode m c e).clusters = s.clusters := (State.ext_iff.mp (State.setMode_frame s m c e)).2.2.2.2.2.2.2.2.2.2.2.2.2.2.2.2.2.1
@[simp] theorem State.setMode_clWas (s : State) (m c e : Nat) : (s.setMode m c e).clWas = s.clWas := (State.ext_iff.mp (State.setMode_frame s m c e)).2.2.2.2.2.2.2.2.2.2.2.2.2.2.2.2.2.2.1
@[simp] theorem State.setMode_pps (s : State) (m c e : Nat) : (s.setMode m c e).pps = s.pps := (State.ext_iff.mp (State.setMode_frame s m c e)).2.2.2.2.2.2.2.2.2.2.2.2.2.2.2.2.2.2.2.1
@[simp] theorem State.setMode_qarms (s : State) (m c e : Nat) : (s.setMode m c e).qarms = s.qarms := (State.ext_iff.mp (State.setMode_frame s m c e)).2.2.2.2.2.2.2.2.2.2.2.2.2.2.2.2.2.2.2.2.1
@[simp] theorem State.setMode_frameSeq (s : State) (m c e : Nat) : (s.setMode m c e).frameSeq = s.frameSeq := (State.ext_iff.mp (State.setMode_frame s m c e)).2.2.2.2.2.2.2.2.2.2.2.2.2.2.2.2.2.2.2.2.2.1
@[simp] theorem State.setMode_jobsDue (s : State) (m c e : Nat) : (s.setMode m c e).jobsDue = s.jobsDue := (State.ext_iff.mp (State.setMode_frame s m c e)).2.2.2.2.2.2.2.2.2.2.2.2.2.2.2.2.2.2.2.2.2.2.1
@[simp] theorem State.setMode_safe (s : State) (m c e : Nat) : (s.setMode m c e).safe = s.safe := (State.ext_iff.mp (State.setMode_frame s m c e)).2.2.2.2.2.2.2.2.2.2.2.2.2.2.2.2.2.2.2.2.2.2.2.1
@[simp] theorem State.setMode_doors (s : State) (m c e : Nat) : (s.setMode m c e).doors = s.doors := (State.ext_iff.mp (State.setMode_frame s m c e)).2.2.2.2.2.2.2.2.2.2.2.2.2.2.2.2.2.2.2.2.2.2.2.2.1
@[simp] theorem State.setMode_rings (s : State) (m c e : Nat) : (s.setMode m c e).rings = s.rings := (State.ext_iff.mp (State.setMode_frame s m c e)).2.2.2.2.2.2.2.2.2.2.2.2.2.2.2.2.2.2.2.2.2.2.2.2.2.1
@[simp] theorem State.setMode_fio (s : State) (m c e : Nat) : (s.setMode m c e).fio = s.fio := (State.ext_iff.mp (State.setMode_frame s m c e)).2.2.2.2.2.2.2.2.2.2.2.2.2.2.2.2.2.2.2.2.2.2.2.2.2.2.1
@[simp] theorem State.setMode_pair (s : State) (m c e : Nat) : (s.setMode m c e).pair = s.pair := (State.ext_iff.mp (State.setMode_frame s m c e)).2.2.2.2.2.2.2.2.2.2.2.2.2.2.2.2.2.2.2.2.2.2.2.2.2.2.2.1
@[simp] theorem State.setMode_mem (s : State) (m c e : Nat) : (s.setMode m c e).mem = s.mem := (State.ext_iff.mp (State.setMode_frame s m c e)).2.2.2.2.2.2.2.2.2.2.2.2.2.2.2.2.2.2.2.2.2.2.2.2.2.2.2.2.1
@[simp] theorem State.setMode_readWords (s : State) (m c e : Nat) : (s.setMode m c e).readWords = s.readWords := (State.ext_iff.mp (State.setMode_frame s m c e)).2.2.2.2.2.2.2.2.2.2.2.2.2.2.2.2.2.2.2.2.2.2.2.2.2.2.2.2.2.1
@[simp] theorem State.setMode_free (s : State) (m c e : Nat) : (s.setMode m c e).free = s.free := (State.ext_iff.mp (State.setMode_frame s m c e)).2.2.2.2.2.2.2.2.2.2.2.2.2.2.2.2.2.2.2.2.2.2.2.2.2.2.2.2.2.2.2

end Sys2Proof.Machine
end

