-- ==== Sys2Proof/Tests/Slice0.lean ====
section
/-! SUPPORT. Tests: ill-formed commands that the check refuses, single steps whose expected values are the spec's own
worked examples and tables, and for every obligation with hypotheses a state and operands that meet them. -/

set_option Elab.async false

namespace Sys2Proof.Tests

open Sys2Proof Sys2Proof.Machine

-- ===== states that the tests start from =====

/-- The reset state with fields of registers set. -/
def tst (l : List (Fld × Nat)) : State := l.foldl (fun s p => s.setF p.1 p.2) State.reset

/-- A state with an image running. -/
def inImg (st : Structure) (s : State) : State := { s with cfg := { s.cfg with run := some ⟨0, 0, [], 0, st⟩ } }

def seg (a k : Nat) : Segment := ⟨a, k, 0, false, false, 0, 0, 0, 0, 0, 0, 0⟩
def wrk (src id : Nat) (cls : Nat := 0) (tag : Nat := 0) (arg : Nat := 0) (payload : List Byte := []) : Work :=
  { src := src, handler := 0, key := 0, group := 0, payload := payload, entry := 0, late := false, cls := cls, tag := tag, arg := arg, id := id }
def dsc (action target : Nat) : Descriptor := ⟨0, 0, 1, 0, 0, true, false, action, target, 0, 0, 0, 0, 0, [], 0⟩
def msg (src kind cls level : Nat) : FaultMsg := { source := src, kind := kind, cls := cls, level := level }
def ent (src kind cls level : Nat) : FltEntry :=
  { idx := 0, source := src, kind := kind, cls := cls, level := level, ctx := 0, first := 0, firstMono := 0, esc := false, cause := true, scope := 0, cat1 := 0 }

/-- Items waiting in a queue. -/
def inQ (n : Fin 16) (is : List QItem) (s : State) : State := s.modQueue n (fun q => { q with items := is })

/-- A descriptor in the wheel with its slot staged, in RUN. -/
def whl (action target : Nat) : State :=
  { tst [(SYS_MODE_MODE, mRUN), (WHEEL_SLOT_SHIFT, 16)] with wheel := { descs := [⟨1, 0, dsc action target, true⟩] } }

/-- A host command waiting at HQ5, open, with its completion ring enabled. -/
def hst (w : Work) (s : State) : State :=
  let t := inQ 5 [⟨64, .work w⟩] (s.setF HQ_CQ_CFG_EN 1)
  { t with host := { t.host with opened := [⟨w.id, w.cls, w.tag, false⟩] } }

def modSafe (g : SafeState → SafeState) (s : State) : State := { s with safe := g s.safe }
def modFlt (g : FltState → FltState) (s : State) : State := { s with flt := g s.flt }
def modTime (g : TimeState → TimeState) (s : State) : State := { s with time := g s.time }
def modSys (g : SysState → SysState) (s : State) : State := { s with sys := g s.sys }
def modCfg (g : CfgState → CfgState) (s : State) : State := { s with cfg := g s.cfg }
def modAcq (g : AcqState → AcqState) (s : State) : State := { s with acq := g s.acq }
def modRing (r : Fin 2) (g : RingState → RingState) (s : State) : State := { s with rings := s.rings.modify r g }
def modDoor (d : Fin 8) (g : DoorSt → DoorSt) (s : State) : State := { s with doors := s.doors.modify d g }
def modQa (a : Fin 12) (g : QArm → QArm) (s : State) : State := { s with qarms := s.qarms.modify a g }
def modPair (g : PairState → PairState) (s : State) : State := { s with pair := g s.pair }
def modNv (g : NvState → NvState) (s : State) : State := { s with nv := g s.nv }
def modPp (p : Fin 32) (g : PowerPort → PowerPort) (s : State) : State := { s with pps := s.pps.modify p g }

/-- A solver problem without variables, and a window on it. -/
def prob : QProb := ⟨0, 0, 0, [], [], [], [], [], [], [], [], [], [], [], [], [], [], 0, 0, 0, 0, 0, 0, [], []⟩
def pt : QPoint := ⟨[], [], []⟩
def win (k : Nat) : QWindow := ⟨0, [], [], [], pt, k, false⟩

/-- Unit 0 works on a window of arm 0. -/
def slv (p : QProb) (k : Nat) (s : State) : State :=
  inImg { probs := [p] } (modQa 0 (fun x => { x with win := some (win k) }) ((s.setF (QS_STAT_RUNNING 0) 1).setF (QS_STAT_POS 0) 0))

/-- Both channels with a group in a state. -/
def grp (g : Fin 4) (st e1 e2 : Nat) (s : State) : State :=
  modSafe (fun x => { x with chans := (x.chans.modify 0 (fun c => { c with groups := c.groups.set g ⟨st, e1, e2, 0⟩ })).modify 1 (fun c => { c with groups := c.groups.set g ⟨st, e1, e2, 0⟩ }) }) s
def usedGroup (d : SafGroup) (s : State) : State := modSafe (fun x => { x with safety := { x.safety with groups := [d] } }) s

/-- Door 0 present in a state, in RUN, its axis 0 in no group and referenced. -/
def dor (st : Nat) (l : List (Fld × Nat)) : State :=
  inImg { axisGroup := [4] } (tst ([(SYS_MODE_MODE, mRUN), (DOOR_STAT_PRESENT, 1), (DOOR_STATE_STATE 0, st), (TILE_FB_STAT_REFERENCED 0, 1)] ++ l))

def frm (type : Nat) : RFrame := { type := type, epoch := 0, cycle := 0, sid := 0, mode := 0 }
def cpy : RCopy := { f := frm 0 }
def wideCpy : RCopy := { f := { frm 0 with mode := fHEAL } }
def nl (p s : Bool) : NodeLink := ⟨0, p, s, true, 0⟩
def img0 : Image := ⟨0, 0, List.replicate 12 0, 0, {}⟩
def fm : FltMsg := ⟨msg 1 1 cMAJOR 1, 1, false, false, false, 0, 0, 0⟩
def snp (seq : Nat) : Snap := ⟨seq, 0, List.replicate 12 0, 0, 0, 0, 0, 0, 0, 0, [], [], [], [], 0, none, [], 0, []⟩

theorem dirNone {s : State} (H : s.nv.dir.items.all (fun x => x.isNone) = true) : ∀ n, (s.nv.dir.get? n).bind id = none := by
  intro n; unfold Bank.get?; rw [Option.bind_eq_none_iff]; intro x hx
  have := List.all_eq_true.mp H x (List.mem_of_getElem? hx); simpa using this

/-- A slot-0 image whose checks pass: header, structure hash (FIPS 180-4, by another program), the table of ten empty sections, and
the two key names. -/
def goodFlash : Store 8 :=
  [(8388608, 75), (8388609, 65), (8388610, 79), (8388611, 76), (8388612, 1), (8388613, 0), (8388614, 0), (8388615, 1), (8388616, 168), (8388617, 66), (8388618, 0), (8388619, 0), (8388620, 10), (8388621, 0), (8388622, 0), (8388623, 0), (8388624, 0), (8388625, 0), (8388626, 0), (8388627, 0), (8388628, 0), (8388629, 0), (8388630, 0), (8388631, 0), (8388632, 150), (8388633, 18), (8388634, 0), (8388635, 0), (8388636, 0)] ++
  [(8388672, 128), (8388673, 200), (8388674, 142), (8388675, 67), (8388676, 213), (8388677, 19), (8388678, 4), (8388679, 206), (8388680, 174), (8388681, 110), (8388682, 253), (8388683, 79), (8388684, 228), (8388685, 82), (8388686, 108), (8388687, 11), (8388688, 248), (8388689, 198), (8388690, 113), (8388691, 113), (8388692, 67), (8388693, 100), (8388694, 232), (8388695, 142), (8388696, 179), (8388697, 206), (8388698, 29), (8388699, 103), (8388700, 144), (8388701, 226), (8388702, 146), (8388703, 99), (8388704, 136), (8388705, 88), (8388706, 154), (8388707, 209), (8388708, 124), (8388709, 104), (8388710, 81), (8388711, 142), (8388712, 107), (8388713, 7), (8388714, 79), (8388715, 63), (8388716, 217), (8388717, 67), (8388718, 161), (8388719, 129)] ++
  [(8388720, 192), (8388721, 1), (8388722, 0), (8388723, 0), (8388724, 232), (8388725, 64), (8388726, 0), (8388727, 0)] ++
  [(8388864, 1), (8388865, 0), (8388866, 0), (8388867, 0), (8388868, 192), (8388869, 1), (8388870, 0), (8388871, 0), (8388872, 0), (8388873, 0), (8388874, 0), (8388875, 0), (8388876, 0), (8388877, 0), (8388878, 0), (8388879, 0), (8388880, 2), (8388881, 0), (8388882, 0), (8388883, 0), (8388884, 192), (8388885, 1), (8388886, 0), (8388887, 0), (8388888, 0), (8388889, 0), (8388890, 0), (8388891, 0), (8388892, 0), (8388893, 0), (8388894, 0), (8388895, 0), (8388896, 3), (8388897, 0), (8388898, 0), (8388899, 0), (8388900, 192), (8388901, 1), (8388902, 0), (8388903, 0), (8388904, 0), (8388905, 0), (8388906, 0), (8388907, 0), (8388908, 0), (8388909, 0), (8388910, 0), (8388911, 0), (8388912, 4), (8388913, 0), (8388914, 0), (8388915, 0), (8388916, 192), (8388917, 1), (8388918, 0), (8388919, 0), (8388920, 0), (8388921, 0), (8388922, 0), (8388923, 0), (8388924, 0), (8388925, 0), (8388926, 0), (8388927, 0), (8388928, 5), (8388929, 0), (8388930, 0), (8388931, 0), (8388932, 192), (8388933, 1), (8388934, 0), (8388935, 0), (8388936, 0), (8388937, 0), (8388938, 0), (8388939, 0), (8388940, 0), (8388941, 0), (8388942, 0), (8388943, 0)] ++
  [(8388944, 6), (8388945, 0), (8388946, 0), (8388947, 0), (8388948, 192), (8388949, 1), (8388950, 0), (8388951, 0), (8388952, 0), (8388953, 0), (8388954, 0), (8388955, 0), (8388956, 0), (8388957, 0), (8388958, 0), (8388959, 0), (8388960, 7), (8388961, 0), (8388962, 0), (8388963, 0), (8388964, 192), (8388965, 1), (8388966, 0), (8388967, 0), (8388968, 0), (8388969, 0), (8388970, 0), (8388971, 0), (8388972, 0), (8388973, 0), (8388974, 0), (8388975, 0), (8388976, 10), (8388977, 0), (8388978, 0), (8388979, 0), (8388980, 192), (8388981, 1), (8388982, 0), (8388983, 0), (8388984, 0), (8388985, 0), (8388986, 0), (8388987, 0), (8388988, 0), (8388989, 0), (8388990, 0), (8388991, 0), (8388992, 12), (8388993, 0), (8388994, 0), (8388995, 0), (8388996, 192), (8388997, 1), (8388998, 0), (8388999, 0), (8389000, 0), (8389001, 0), (8389002, 0), (8389003, 0), (8389004, 0), (8389005, 0), (8389006, 0), (8389007, 0), (8389008, 13), (8389009, 0), (8389010, 0), (8389011, 0), (8389012, 192), (8389013, 1), (8389014, 0), (8389015, 0), (8389016, 0), (8389017, 0), (8389018, 0), (8389019, 0), (8389020, 0), (8389021, 0), (8389022, 0), (8389023, 0)] ++
  [(8389056, 17), (8389057, 0), (8389058, 0), (8389059, 0)] ++
  [(8389444, 34), (8389445, 0), (8389446, 0), (8389447, 0)]

/-- The verdict on it with some content, and on one safety set whose CODE is 0xF0F0. -/
def okVerdict (st : Structure) : LoadVerdict := { rsa := true, slh := true, st := st }
def oneSet : Structure := { safety := { sets := [{ code := 0xF0F0 }] } }
def goodVerdict : LoadVerdict := okVerdict oneSet

theorem goodHead {s : State} (H : s.nv.flash = goodFlash) :
    s.sigOff 0 = 448 ∧ s.img 0 448 4 = 0x11 ∧ s.img 0 836 4 = 0x22 ∧ s.img 0 0 4 = 0x4C4F414B ∧ s.img 0 4 2 = 1 ∧ s.img 0 6 2 = 256 ∧
      s.img 0 8 4 = 17064 ∧ s.nsect 0 = 10 ∧ s.img 0 0x74 4 = 16616 ∧ s.img 0 0x18 4 = 0x1296 ∧ s.img 0 0x1C 1 = 0 ∧ s.img 0 0x10 8 = 0 := by
  simp only [State.sigOff, State.nsect, State.img, H]
  decide +kernel

/-- That image is authentic where its slot is listed and its two keys stand in the key slots. -/
theorem goodAuth {s : State} (H : s.nv.flash = goodFlash ∧ ((s.nv.dir.get? 0).bind id).isNone = false ∧ s.keyCheck 0x11 0 0 = 0 ∧
    s.keyCheck 0x22 1 0 = 0 ∧ s.otpSvn = 0) : s.authCheck 0 true true = 0 := by
  obtain ⟨h, d, k1, k2, v⟩ := H
  obtain ⟨e1, e2, e3, e4, e5, e6, e7, e8, e9, e10, e11, e12⟩ := goodHead h
  unfold State.authCheck
  rw [d]
  simp [k1, k2, v, e1, e2, e3, e4, e5, e6, e7, e8, e9, e10, e11, e12]
theorem goodSects {s : State} (H : s.nv.flash = goodFlash) :
    s.nsect 0 = 10 ∧ (List.range 10).all (fun i => !s.sectBad 0 i) = true ∧
      (List.range 10).map (fun i => (s.sect 0 i).1) = [1, 2, 3, 4, 5, 6, 7, 10, 12, 13] := by
  simp only [State.nsect, State.sectBad, State.sect, State.sigOff, State.img, H]
  decide +kernel
theorem goodHash {s : State} (H : s.nv.flash = goodFlash) (st : Structure) : s.hashOk 0 (okVerdict st) = true := by
  simp only [State.hashOk, State.shashOf, State.hashInput, State.shash, State.nsect, State.sect, State.img, H, okVerdict]
  decide +kernel

/-- The body of that image passes with content that breaks no limit and holds a set of the code read. -/
theorem goodBody {s : State} {st : Structure} (H : s.nv.flash = goodFlash ∧ s.limitType st = none ∧
    s.presentCode.any (fun c => (State.setIdx? st c).isSome) = true) : s.bodyCheck 0 (okVerdict st) = (0, 0) := by
  obtain ⟨h, l, c⟩ := H
  obtain ⟨n, b, t⟩ := goodSects h
  have b' : (List.range 10).findIdx (s.sectBad 0) = 10 := by
    rw [List.findIdx_eq_length_of_false (by simpa using b)]; rfl
  obtain ⟨x, hx, hc⟩ := (Option.any_eq_true _ _).mp c
  have u : [1, 2, 3, 4, 5, 6, 7, 10, 12, 13].findIdx (fun t => !State.sectTypes.contains t) = 10 := by decide
  have r : (!(State.required.all [1, 2, 3, 4, 5, 6, 7, 10, 12, 13].contains) ||
      [1, 2, 3, 4, 5, 6, 7, 10, 12, 13].contains 8 && !([1, 2, 3, 4, 5, 6, 7, 10, 12, 13].contains 9)) = false := by decide
  simp only [State.bodyCheck, n, t, b', u, r, goodHash h]
  simp [okVerdict, l, hx, hc]

/-- The body with content that holds no set of the code read. -/
theorem goodBodyCode {s : State} {st : Structure} (H : s.nv.flash = goodFlash ∧ s.limitType st = none ∧
    s.presentCode.all (fun c => (State.setIdx? st c).isNone) = true) : s.bodyCheck 0 (okVerdict st) = (0xD, 0) := by
  obtain ⟨h, l, c⟩ := H
  obtain ⟨n, b, t⟩ := goodSects h
  have b' : (List.range 10).findIdx (s.sectBad 0) = 10 := by
    rw [List.findIdx_eq_length_of_false (by simpa using b)]; rfl
  have u : [1, 2, 3, 4, 5, 6, 7, 10, 12, 13].findIdx (fun t => !State.sectTypes.contains t) = 10 := by decide
  have r : (!(State.required.all [1, 2, 3, 4, 5, 6, 7, 10, 12, 13].contains) ||
      [1, 2, 3, 4, 5, 6, 7, 10, 12, 13].contains 8 && !([1, 2, 3, 4, 5, 6, 7, 10, 12, 13].contains 9)) = false := by decide
  simp only [State.bodyCheck, n, t, b', u, r, goodHash h]
  cases hp : s.presentCode with
  | none => simp [okVerdict, l]
  | some x => rw [hp] at c; simp [okVerdict, l, Option.isNone_iff_eq_none.mp (by simpa using c)]

/-- That image stands in slot 0, its keys are programmed, and both channels read its code. -/
def loading (s : State) : State :=
  let t := (((s.wrN (CFG_SEC_KEY 0 0) 0x11).wrN (CFG_SEC_KEY 0 1) 1).wrN (CFG_SEC_KEY 4 0) 0x22).wrN (CFG_SEC_KEY 4 1) 1
  modCfg (fun x => { x with loading := some 0 }) (modNv (fun x => { x with flash := goodFlash, dir := x.dir.set 0 (some ⟨17064, []⟩) })
    (modSafe (fun x => { x with chans := x.chans.map (fun c => { c with codes := [0xF0F0, 0xF0F0, 0xF0F0] }) }) t))

theorem hostOldestBy {s : State} {w : Work} {cls : Nat} (H : s.hostNext cls = some w ∧ w.src = 5 ∧ s.flag HQ_CQ_CFG_EN = true ∧
    s.f HQ_CQ_CFG_LOG2 ≤ 12 ∧ (s.host.opened.find? (fun (x : HostOpen) => x.id == w.id)).any (fun o => !o.drop) = true) : s.hostOldest w cls := by
  obtain ⟨a, b, c, d, e⟩ := H
  refine ⟨a, b, c, d, ?_⟩
  obtain ⟨o, ho, h⟩ := (Option.any_eq_true _ _).mp e
  exact ⟨o, ho, by simpa using h⟩

/-- A job of SLOT_WRITE in progress for command w. -/
def writing (j : SlotJob) (s : State) : State := { s with host := { s.host with slotJob := some j } }
def secJob (j : SecJob) (s : State) : State := { s with host := { s.host with secJobs := [j] } }

/-- One programmed key of each algorithm, of a role. -/
def keyed (role : Nat) (s : State) : State :=
  (((s.wrN (CFG_SEC_KEY 0 0) 0x11).wrN (CFG_SEC_KEY 0 1) (1 + 4 * role)).wrN (CFG_SEC_KEY 4 0) 0x22).wrN (CFG_SEC_KEY 4 1) (1 + 4 * role)

/-- A signed command for the nonce that a state holds. -/
def order (s : State) (op arg : Nat) : List Byte :=
  natLE 4 0x444D4353 ++ natLE 1 op ++ natLE 1 0 ++ natLE 2 0 ++ natLE 6 0 ++ natLE 2 0 ++ natLE 8 s.nonceNow ++ natLE 8 arg ++ natLE 4 0x11
    ++ List.replicate 384 0 ++ natLE 4 0x22

/-- A debug token for the challenge that a state holds. -/
def token (s : State) : List Byte :=
  natLE 4 0x4B4F5444 ++ natLE 6 0 ++ natLE 2 0 ++ natLE 32 s.chalNow ++ List.replicate 212 0 ++ natLE 4 0x11 ++ List.replicate 384 0 ++ natLE 4 0x22

theorem leNat_natLE (n v : Nat) : leNat (natLE n v) = v % 256 ^ n := by
  induction n generalizing v with
  | zero => simp [natLE, leNat, Nat.mod_one]
  | succ n ih =>
    have e : 256 ^ (n + 1) = 256 * 256 ^ n := by rw [Nat.pow_succ, Nat.mul_comm]
    simp only [natLE, leNat, ih, BitVec.toNat_ofNat]
    rw [e, Nat.mod_mul]

theorem nonceFits (s : State) : s.nonceNow % 256 ^ 8 = s.nonceNow := by
  unfold State.nonceNow
  have a := (Config.randomWord (8 * s.sys.nonceAt)).isLt
  have b := (Config.randomWord (8 * s.sys.nonceAt + 1)).isLt
  omega

theorem sumFits (g : Nat → Nat) (H : ∀ k, g k < 2 ^ 32) (n : Nat) :
    ((List.range n).map (fun k => g k * 2 ^ (32 * k))).foldl (· + ·) 0 < 2 ^ (32 * n) := by
  induction n with
  | zero => simp
  | succ n ih =>
    rw [List.range_succ, List.map_append, List.foldl_append]
    simp only [List.map_cons, List.map_nil, List.foldl_cons, List.foldl_nil]
    have h1 : g n * 2 ^ (32 * n) ≤ (2 ^ 32 - 1) * 2 ^ (32 * n) := Nat.mul_le_mul_right _ (by have := H n; omega)
    have h2 : 2 ^ (32 * (n + 1)) = 2 ^ 32 * 2 ^ (32 * n) := by rw [← Nat.pow_add]; congr 1; omega
    rw [h2]; omega

theorem chalFits (s : State) : s.chalNow % 256 ^ 32 = s.chalNow :=
  Nat.mod_eq_of_lt (sumFits (fun k => (Config.randomWord (8 * s.sys.chalAt + k)).toNat) (fun _ => BitVec.isLt _) 8)

theorem judgeOk {s : State} {j : SecJob} (h1 : bytesNat j.bytes 0 4 = 0x444D4353 ∧ bytesNat j.bytes 8 6 = s.nv.serial % 2 ^ 48 ∧
      bytesNat j.bytes 4 1 ≠ 1 ∧ s.keyCheck (State.sigKeys j.bytes (0x20 + bytesNat j.bytes 6 2)).1 0 0 = 0 ∧
      s.keyCheck (State.sigKeys j.bytes (0x20 + bytesNat j.bytes 6 2)).2 1 0 = 0 ∧ j.rsa = true ∧ j.slh = true ∧ s.opCheck j.bytes = 0)
    {s0 : State} {op arg : Nat} (hb : j.bytes = order s0 op arg) (hn : s.sys.nonceAt = s0.sys.nonceAt) : s.judgeCommand j = 0 := by
  have h2 : (j.bytes.drop 0x10).take 8 = natLE 8 s.nonceNow := by
    have e : s.nonceNow = s0.nonceNow := by unfold State.nonceNow; rw [hn]
    rw [hb, e]; rfl
  obtain ⟨a, b, c, d, e, f, g, h⟩ := h1
  have n : bytesNat j.bytes 0x10 8 = s.nonceNow := by unfold bytesNat; rw [h2, leNat_natLE, nonceFits]
  simp [State.judgeCommand, a, b, c, d, e, f, g, h, n]

theorem tokenOk {s : State} {j : SecJob} (h1 : bytesNat j.bytes 0 4 = 0x4B4F5444 ∧ bytesNat j.bytes 4 6 = s.nv.serial % 2 ^ 48 ∧
      s.f SYS_LC_STATE ≠ lcSCRAPPED ∧ s.keyCheck (State.sigKeys j.bytes 256).1 0 1 = 0 ∧
      s.keyCheck (State.sigKeys j.bytes 256).2 1 1 = 0 ∧ j.rsa = true ∧ j.slh = true)
    {s0 : State} (hb : j.bytes = token s0) (hn : s.sys.chalAt = s0.sys.chalAt) : s.judgeToken j = 0 := by
  have h2 : (j.bytes.drop 12).take 32 = natLE 32 s.chalNow := by
    have e : s.chalNow = s0.chalNow := by unfold State.chalNow; rw [hn]
    rw [hb, e]; rfl
  obtain ⟨a, b, c, d, e, f, g⟩ := h1
  have n : bytesNat j.bytes 12 32 = s.chalNow := by unfold bytesNat; rw [h2, leNat_natLE, chalFits]
  simp [State.judgeToken, a, b, c, d, e, f, g, n]

theorem oneItem {s : State} {w : Work} {k : Nat} (H : (s.queue 5).items = [⟨k, .work w⟩]) :
    ∀ i ∈ (s.queue 5).items, ∃ x, i.body = .work x ∧ (x.tag = w.arg → x.id = w.id) := by
  intro i hi
  rw [H, List.mem_singleton] at hi
  exact ⟨w, by rw [hi], fun _ => rfl⟩
theorem noOffset {s : State} {k : Fin 10} (H : s.nv.writing.get k = none) : ∀ o, s.nv.writing.get k = some o → o ≤ slotSize k := by
  intro o h; rw [H] at h; cases h

def modHost (g : HostState → HostState) (s : State) : State := { s with host := g s.host }
theorem rcNone {a : Nat} (H : (accessRow a).all (fun r => r.rc == 0) = true) : ∀ r, accessRow a = some r → r.rc = 0 := by
  intro r h; rw [h] at H; simpa using H

/-- That structure with node 1 on ring 0, which writes and reads a segment. -/
def nodeRing : Structure :=
  { oneSet with rings := [{ ring := 0, area := 560, nodes := [1], segs := [{ idx := 0, kind := 5, off := 0, len := 256 },
      { idx := 1, kind := 6, off := 256, len := 256 }, { idx := 2, kind := 2, node := 1, off := 512, len := 16 }] }] }
theorem noPair {α : Type} {o : Option (Nat × α)} {k : Nat} (H : o.isNone = true) : ¬ ∃ w, o = some (k, w) := by
  rintro ⟨w, h⟩; rw [h] at H; cases H
theorem noSome {α : Type} {o : Option α} {p : α → Prop} (H : o.isNone = true) : ∀ x, o = some x → p x := by
  intro x h; rw [h] at H; cases H
theorem anySome {α : Type} {o : Option α} {p : α → Prop} [DecidablePred p] (H : o.all (fun x => decide (p x)) = true) : ∀ x, o = some x → p x := by
  intro x h; rw [h] at H; exact of_decide_eq_true H
/-- A handler of class n of the work w runs on core 0. -/
def core0 (w : Work) (s : State) : State := s.modCore 0 (fun k => { k with running := some w })
/-- A record bucket of a code with a rate and a number of tokens. -/
def bkt (code rate tokens : Nat) : RecBucket := ⟨code, rate, 4, 3, 64, tokens, 0, 0, 0, 0⟩
def buckets (bs : List RecBucket) (s : State) : State := { s with recorder := { s.recorder with buckets := bs } }
theorem firesBy {s : State} {h m a : Nat} {x : WDesc}
    (H : (s.runTo m).syncW.descOf h = some x ∧ x.d.action = a ∧ (s.runTo m).syncW.due x = true ∧ (s.runTo m).syncW.dueWith x = [x] ∧
      (s.runTo m).syncW.wheelOff = false ∧ ((s.runTo m).syncW.mode = mCOMMISSION → x.d.comm = true) ∧
      (x.d.isFout = true → (s.runTo m).syncW.refreshDue (State.foutDie x.d.target) = true)) : s.firesAt (s.runTo m).syncW h m a x := ⟨rfl, H⟩
/-- A PTP message of source 7 on port 0, and an Announce of it. -/
def pm (two : Bool) (seq : Nat) : PtpMsg := { port := 0, source := 7, seqId := seq, origin := 0, corr := 0, rx := 0, twoStep := two, logInt := 0, t := 0 }
def ann (steps : Nat) : Announce := ⟨0, 7, 0, 0, 0, 0, 0, steps, 0, false, 0, 0, false⟩
def ptpMaster : PtpMaster := ⟨7, 0, 0, 0, false, 0⟩
theorem inOk {u : State} (H : u.ptpIn.2 = true) : u.ptpIn = (u.ptpIn.1, true) := by rw [← H]
/-- RUN with an image at the end of an SSI transfer. -/
def ssiNow (s : State) : State := inImg {} (modTime (fun x => { x with now := 2 * Config.gridUnits - 105 * Config.nsUnits }) s)
/-- Disciplined time at a number of nanoseconds. -/
def atNs (n : Nat) (s : State) : State := modTime (fun x => { x with now := n * Config.nsUnits }) s
theorem noSome2 {α β : Type} {o : Option α} {p : α → β → Prop} (H : o.isNone = true) : ∀ x y, o = some x → p x y := by
  intro x y h; rw [h] at H; cases H
theorem noItems {α : Type} {l : List α} {p : α → Prop} (H : l.isEmpty = true) : ∀ i ∈ l, p i := by
  intro i h; rw [List.isEmpty_iff.mp H] at h; cases h
theorem dirNone2 {s : State} {p : Nat → DirEntry → Prop} (H : s.nv.dir.items.all (fun x => x.isNone) = true) :
    ∀ n e, (s.nv.dir.get? n).bind id = some e → p n e := by
  intro n e h; rw [dirNone H n] at h; cases h
/-- TAKEOVER with an image and one snapshot. -/
def taking (k : Snap) (s : State) : State := modNv (fun x => { x with loam := x.loam.set 0 (some k) }) (modCfg (fun x => { x with run := some img0 }) s)

-- ===== well-formedness =====

def okDesc : Descriptor := dsc 1 0
def okCmd : HostCmd := ⟨0, 0, 0, 0, 0, 0, 0, 0, []⟩

/-- An instant, a key, a handle, a segment field or a voltage that does not fit its field is refused. -/
theorem test_ill_formed_widths : [Instr.gridStep (2 ^ 64), .swrst (2 ^ 16), .resetRelease (2 ^ 16) 0 false false 0, .resetN (2 ^ 64), .recScanDone (some 0x1000000), .recordWrite (some 0x1000000),
    .coreBusErr 0 0 65, .ssiFrame 0 (List.replicate 65 false) true true 0, .vinBelowVrst (2 ^ 16), .pinSet (2 ^ 24) 0,
    .stopSegment 256 0, .stopSegment 0 (2 ^ 32), .posSegment 0 4 false false 0 0 0 0 0 0, .posSegment 0 0 false false (2 ^ 63) 0 0 0 0 0,
    .posSegment 0 0 false false 0 (2 ^ 64) 0 0 0 0, .recordOffer none (2 ^ 16) 0 [], .recordOffer none 0 4 [], .railFault 12 0,
    .tickSectionStart 0 (2 ^ 12) [] 0, .fltAck 0 16, .fltClr 0 128 false [], .stoRestartRequest 16 0, .plantFrameRx (2 ^ 16) []].all
    (fun i => !i.wellFormed) = true := by decide

/-- An engine ECC verdict, a search length, a loop count or a target that does not exist is refused. -/
theorem test_ill_formed_engine : [Instr.engLd 0 3 0 ⟨none, 0, 0⟩, .engVmax 0 0 0 ⟨none, 0, 0⟩ 0, .engVmax 0 0 0 ⟨none, 0, 0⟩ 257,
    .engBr 0 (.neg 0) (2 ^ 12), .engLoop 0 0 0, .engLoop 0 1 (2 ^ 12)].all (fun i => !i.wellFormed) = true := by decide

/-- A BAR0 address off a word boundary or beyond the window, and a queue that does not exist, are refused. -/
theorem test_ill_formed_addresses : [Instr.readClear 2, .readClear 0x400000, .multiwordRead 1, .corePut 0 16 1 (.block 0)].all
    (fun i => !i.wellFormed) = true := by decide

/-- Each field of a descriptor and of a command entry is checked. -/
theorem test_ill_formed_records : [{ okDesc with angle := 2 ^ 32 }, { okDesc with pcyc := 2 ^ 32 }, { okDesc with count := 2 ^ 32 },
    { okDesc with period := 2 ^ 16 }, { okDesc with dir := 2 }, { okDesc with action := 256 }, { okDesc with target := 256 },
    { okDesc with width := 2 ^ 32 }, { okDesc with group := 256 }, { okDesc with key := 2 ^ 16 }, { okDesc with handler := 2 ^ 16 },
    { okDesc with tag := 2 ^ 32 }, { okDesc with payload := List.replicate 33 0 }].all (fun d => !(Instr.coreWheelInsert 0 d).wellFormed) = true ∧
    [{ okCmd with cls := 256 }, { okCmd with flags := 256 }, { okCmd with plen := 2 ^ 16 }, { okCmd with tag := 2 ^ 32 },
    { okCmd with deadline := 2 ^ 32 }, { okCmd with arg := 2 ^ 32 }, { okCmd with addr := 2 ^ 64 }, { okCmd with ilen := 2 ^ 32 }].all
    (fun c => !(Instr.commandFetch c).wellFormed) = true ∧
    (Instr.coreWheelInsert 0 okDesc).wellFormed = true ∧ (Instr.commandFetch okCmd).wellFormed = true := by decide

-- ===== worked examples and tables of the spec =====

/-- No row of the opcode table has bits. -/
theorem test_no_word_decodes : decodeTableWord 16 0x1296 = none := by decide

/-- The Reset columns of SYS_ID and SYS_MODE (chapter 03). -/
theorem test_reset_registers : State.reset.rd SYS_ID = 0x00A11296 ∧ State.reset.rd SYS_MODE = 1 := by decide +kernel

/-- The example of R5: the planner control register of AX43. -/
theorem test_tile_address : tileBase 43 = 0x154000 := by decide

/-- The knife of T4 (chapter 04): the pulse on EV03 for angle 0xA0000000 rises at M = 2,681,204,327 at 1,100 products a
minute. -/
theorem test_knife_lead :
    let at_ := fun (m : Int) => { tst [(WHEEL_STAT_MST_STATE, msFREE), (WHEEL_EV_LEAD_LEAD 3, 40000)] with
      wheel := { pos := m * mcU, spd := 0x1255555555555555 * 2 ^ 40 } }
    let cut := { dsc aPIN_PULSE 3 with angle := 0xA0000000 }
    (at_ 2681204327).past cut = true ∧ (at_ 2681204326).past cut = false := by decide +kernel

/-- Arms A4 and A5 of T4 (chapter 11): S_45 and CAP at the distances of the table, and s_cap of CAP 1,923 with V_PATH
2,000. -/
theorem test_separation_example :
    let p : SafSet := { code := 0, tr := 6000, tslow := 45000 }
    let a : SafArm := ⟨4, 80000, 5, 2000, 4000⟩
    let b : SafArm := ⟨5, 80000, 5, 2000, 4000⟩
    sepArms p a b 1200 1800 = 1480 ∧ sepArms p a b 1068 1602 = 1329 ∧ capArms p a b 4200 = 2252 ∧ capArms p a b 3600 = 1923 ∧
      capArms p a b 3060 = 1626 ∧
      (tst [(CL_PSO_VPATH_V_PATH 4, 2000)]).capFactor ⟨0, 0, 0, [0, 0, 0, 0, 1923], 0⟩ 4 = 0xF624 := by decide +kernel

/-- The oscillation of chapter 09: crossings at ticks 0, 44, 89 and 133 read as 180.5 Hz in tenths. -/
theorem test_oscillation_example :
    ((tst [(TILE_LP_OSC_DET_WIN 0, 256)]).modTile 0 (fun x => { x with lp := { x.lp with osc := { k := 133, cross := [133, 89, 44, 0] } } })).oscFreq 0
      = 1805 := by decide +kernel

/-- The slip of T4's spindle at revolution 500 (chapter 06): three counts lost read as −3. -/
theorem test_index_slip_example :
    let s := ((((tst [(FBP_STAT_REFERENCED 3, 1), (FBP_CFG_IDX_CORR 3, 1)]).wrN (FBP_IDXPER 3) 1048576).wrN (FBP_IDXWIN 3) 8).wrI (FBP_CNT 3) 524287997)
    (s.indexEvent 3 0).rdI (FBP_SLIP 3) = -3 ∧ (s.indexEvent 3 0).f (FBP_STAT_OUT_WIN 3) = 0 ∧
      ((s.wrI (FBP_CNT 3) 524287960).indexEvent 3 0).f (FBP_STAT_OUT_WIN 3) = 1 := by decide +kernel

/-- The dip of T4 (chapter 03): a fall at 0 and a rise at 4.70 ms leave MIN_MV 9,620 and DUR 47. -/
theorem test_dip_example :
    let s := modSys (fun x => { x with dipStart := some 0, dipMin := 10200 }) (tst [(SYS_MODE_MODE, mRUN), (SYS_MODE_SHED, 1)])
    (match exec (.vinRecover 10400 9620 3760000 3760000) s with
      | .next t => decide (t.f PWR_DIP_MIN_MV = 9620 ∧ t.f PWR_DIP_DUR = 47 ∧ t.f SYS_MODE_SHED = 0)
      | _ => false) = true := by decide +kernel

/-- A reset with the wrong key does nothing; with the key the machine is in RESET with cause SOFT (R80). -/
theorem test_swrst :
    exec (.swrst 0x4353) State.reset = .next State.reset ∧
    (match exec (.swrst 0x4354) State.reset with | .next t => decide (t.mode = mRESET ∧ t.rdN SYS_RST_CAUSE = 2 ^ rcSOFT) | _ => false) = true := by
  exact ⟨rfl, by decide +kernel⟩

/-- A step takes the command in front and leaves the rest waiting. -/
theorem test_step_front :
    (match step { State.reset with pending := [.swrst 0, .badAccess] } with | .next t => decide (t.pending = [.badAccess]) | _ => false) = true := by
  decide +kernel

/-- The speed loop of chapter 09: VINT 225,476,608 and Kv × ev = 19,661 × 50 give 226,459,658 × 2^-30, which STQ stores as 6,911. -/
theorem test_engine_example :
    let s := ((tst [(CL_ENG_STAT_IN_TICK 0, 1)]).modCl 0 (fun x => { x with a0 := 225476608 })).dput 0 0x300 (BitVec.ofNat 32 (19661 + 65536 * 50))
    (match exec (.engMac 0 0 0 ⟨⟨none, 0x300, 0⟩, false⟩ ⟨⟨none, 0x300, 0⟩, true⟩) s with
      | .next t => decide ((t.cl 0).a0 = 226459658) && (match exec (.engStq 0 0 ⟨⟨none, 0x301, 0⟩, false⟩ 0) t with
        | .next u => decide ((u.cl 0).wbuf = some (0x301, 6911)) | _ => false)
      | _ => false) = true := by decide +kernel

/-- The reversal of A0's joint (chapter 07): the farthest point 60 ms after the latch, the final ramp at 335 ms, the target at
405 ms; and the obstacle stop of door D0 (chapter 13): 5 ms, 15 ms, 5 ms to rest 500 counts on. -/
theorem test_profile_examples :
    let l : Lims := ⟨400000 * u64, 8000000 * u64, 8000000 * u64, 400000000 * u64⟩
    let p := planPos l ⟨1000000 * u64, 400000 * u64, 0⟩ (-100000 * u64) none
    let at_ := fun (ms : Nat) => ({ p with tau := ms * 1000000 * 4294967296 }).now
    let d := planSpeed ⟨40000 * u64, 2000000 * u64, 2000000 * u64, 400000000 * u64⟩ ⟨0, -40000 * u64, 0⟩ 0
    (at_ 20).p * 100 / u64 = 100746666 ∧ (at_ 60).p * 100 / u64 = 101386666 ∧ (at_ 60).v / u64 = 0 ∧ (at_ 60).a / u64 = -8000000 ∧
      (at_ 335).p / u64 = 914000 ∧ p.reach.map (fun x => x * 1000000 / u64.toNat) = some 405000 ∧ (at_ 405).p / u64 = 900000 ∧
      d.phases.map (fun f => (f.jerk / u64, (f.dur * 1000000 + 2 ^ 63) / 2 ^ 64)) = [(400000000, 5000), (0, 15000), (-400000000, 5000)] ∧
      ((d.start.run d.phases).p + 2 ^ 63) / u64 = -500 := by decide +kernel

-- ===== the hypotheses of the obligations can be met =====

/-- The hypotheses of Obligations.StepRunsFront can be met. -/
theorem test_StepRunsFront_meets :
  (∃ (s : State) (c : Instr) (cs : List Instr), s.pending = c :: cs) :=
   ⟨({ tst [] with pending := [.nop] }), .nop, [], by decide +kernel⟩

/-- The hypotheses of each clause of Obligations.IdleStep can be met. -/
theorem test_IdleStep_meets :
  (∃ (s : State), s.pending = [] ∧ s.mode = mRESET) ∧
  (∃ (s : State), s.pending = [] ∧ s.mode ≠ mRESET) :=
  ⟨⟨(tst [(SYS_MODE_MODE, mRESET)]), by decide +kernel⟩,
   ⟨(tst []), by decide +kernel⟩⟩

/-- The hypotheses of Obligations.QueueIsWorkedOff can be met. -/
theorem test_QueueIsWorkedOff_meets :
  (∃ (s : State) (k : Nat), k ≤ s.pending.length) :=
   ⟨(tst []), 0, by decide +kernel⟩

/-- The hypotheses of each clause of Obligations.RegistersStayCanonical can be met. -/
theorem test_RegistersStayCanonical_meets :
  (∃ (s : State) (t : State), s.regsWf = true ∧ step s = .next t) ∧
  (∃ (k : Nat) (s : State) (t : State), s.regsWf = true ∧ runSteps k s = .next t) :=
  ⟨⟨(tst []), ((tst [])).sysCycle, by decide +kernel, rfl⟩,
   ⟨1, (tst []), ((tst [])).sysCycle, by decide +kernel, rfl⟩⟩

/-- The hypotheses of Obligations.QueueStaysWellFormed can be met. -/
theorem test_QueueStaysWellFormed_meets :
  (∃ (s : State) (t : State), s.pendingWf = true ∧ step s = .next t) :=
   ⟨({ tst [] with pending := [.nop] }), (tst []), by decide +kernel, rfl⟩

/-- The hypotheses of Obligations.ConfigOneBit can be met. -/
theorem test_ConfigOneBit_meets :
  (∃ (s : State) (v : Word), s.writable CFG_CTL = true ∧ v.toNat % 32 ∉ [0, 1, 2, 4, 8, 16]) :=
   ⟨(tst [(SYS_MODE_MODE, mRUN)]), 3, by decide +kernel⟩

/-- The hypotheses of each clause of Obligations.SupplyLimits can be met. -/
theorem test_SupplyLimits_meets :
  (∃ (v : Nat), v ≤ 9100) ∧
  (∃ (v : Nat), 9100 < v) ∧
  (∃ (s : State) (v : Nat), 13800 ≤ v ∧ s.mode ≠ mRESET) ∧
  (∃ (v : Nat), v < 13800) :=
  ⟨⟨0, by decide +kernel⟩,
   ⟨9101, by decide +kernel⟩,
   ⟨(tst []), 13800, by decide +kernel⟩,
   ⟨0, by decide +kernel⟩⟩

/-- The hypotheses of each clause of Obligations.DispatchRuns can be met. -/
theorem test_DispatchRuns_meets :
  (∃ (s : State), ((∀ n, (s.queue n).waiting = []))) ∧
  (∃ (s : State) (u : State) (n : Fin 16) (b : Nat) (c : Nat), ((∀ m, m ≠ n → (s.queue m).waiting = [])) ∧ (s.queue n).waiting = [⟨c, .block b⟩] ∧ s.offer n ⟨c, .block b⟩ = some u ∧ (s.stopped = false ∨ n ≠ 4)) ∧
  (∃ (s : State), s.flag SCHED_STAT_STOPPED = true) ∧
  (∃ (s : State), s.flag SCHED_STAT_STOPPED = false ∧ s.nextStart = none) ∧
  (∃ (s : State) (w : Work) (c : Fin 8) (p : Nat) (q : Nat) (h : Handler), s.flag SCHED_STAT_STOPPED = false ∧ s.nextStart = some (w, c, p, q) ∧ s.st.handlers.find? (fun (x : Handler) => x.index == w.handler) = some h) ∧
  (∃ (s : State) (w : Work) (c : Fin 8) (p : Nat) (q : Nat), s.flag SCHED_STAT_STOPPED = false ∧ s.nextStart = some (w, c, p, q) ∧ s.st.handlers.find? (fun (x : Handler) => x.index == w.handler) = none) ∧
  (∃ (s : State) (c : Fin 8), (s.sched.cores.get c).running = none) ∧
  (∃ (s : State) (c : Fin 8) (w : Work), (s.sched.cores.get c).running = some w) ∧
  (∃ (s : State) (c : Fin 8) (w : Work), (s.sched.cores.get c).running = some w ∧ (s.sched.cores.get c).halted = false ∧ s.pastBudget c = true) ∧
  (∃ (s : State) (c : Fin 8) (w : Work), (s.sched.cores.get c).running = some w ∧ w.src ≠ 5 ∧ (s.sched.cores.get c).halted = false ∧ s.pastBudget c = true) ∧
  (∃ (s : State) (c : Fin 8), ((s.sched.cores.get c).running = none ∨ (s.sched.cores.get c).halted = true ∨ s.pastBudget c = false)) ∧
  (∃ (s : State) (c : Fin 8) (a : Word) (k : Nat) (w : Work), (s.sched.cores.get c).running = some w ∧ State.busError a.toNat k = true) ∧
  (∃ (s : State) (c : Fin 8) (a : Word) (k : Nat) (w : Work), (s.sched.cores.get c).running = some w ∧ w.src ≠ 5 ∧ State.busError a.toNat k = true) ∧
  (∃ (s : State) (c : Fin 8) (a : Word) (k : Nat), ((s.sched.cores.get c).running = none ∨ State.busError a.toNat k = false)) ∧
  (∃ (s : State) (p : Fin 2), ((∀ i ∈ (s.queue 14).items, (∀ bs, i.body ≠ .frame p bs) ∧ (∀ x : PtpTx, i.body = .ptp x → x.port ≠ p)))) ∧
  (∃ (s : State) (p : Fin 2) (l : List QItem) (is : List QItem) (k : Nat) (bs : List Byte), (s.queue 14).items = l ++ ⟨k, .frame p bs⟩ :: is ∧ ((∀ i ∈ l, (∀ b, i.body ≠ .frame p b) ∧ (∀ x : PtpTx, i.body = .ptp x → x.port ≠ p)))) ∧
  (∃ (s : State) (p : Fin 2) (l : List QItem) (is : List QItem) (k : Nat) (x : PtpTx), (s.queue 14).items = l ++ ⟨k, .ptp x⟩ :: is ∧ x.port = p.val ∧ ((∀ i ∈ l, (∀ b, i.body ≠ .frame p b) ∧ (∀ y : PtpTx, i.body = .ptp y → y.port ≠ p)))) :=
  ⟨⟨(tst []), by decide +kernel⟩,
   ⟨((tst []).modQueue 0 (fun q => { q with waiting := [⟨0, .block 0⟩] })), Option.get ((((tst []).modQueue 0 (fun q => { q with waiting := [⟨0, .block 0⟩] }))).offer 0 ⟨0, .block 0⟩) (by decide +kernel), 0, 0, 0, by decide +kernel, by decide +kernel, (Option.some_get _).symm, by decide +kernel⟩,
   ⟨(tst [(SCHED_STAT_STOPPED, 1)]), by decide +kernel⟩,
   ⟨(tst [(SCHED_STAT_STOPPED, 0)]), by decide +kernel⟩,
   ⟨(inImg { handlers := [⟨0, 1, 1⟩] } { (tst [(SCHED_STAT_STOPPED, 0), (⟨SCHED_CTL, 0, 8⟩, 255)]) with sched := { (tst [(SCHED_STAT_STOPPED, 0), (⟨SCHED_CTL, 0, 8⟩, 255)]).sched with ready := [wrk 4 0], quantum := 2 } }), wrk 4 0, 0, 0, 1, (⟨0, 1, 1⟩ : Handler), by decide +kernel⟩,
   ⟨({ (tst [(SCHED_STAT_STOPPED, 0), (⟨SCHED_CTL, 0, 8⟩, 255)]) with sched := { (tst [(SCHED_STAT_STOPPED, 0), (⟨SCHED_CTL, 0, 8⟩, 255)]).sched with ready := [wrk 4 0], quantum := 2 } }), wrk 4 0, 0, 0, 1, by decide +kernel⟩,
   ⟨(tst []), 0, by decide +kernel⟩,
   ⟨((tst []).modCore 0 (fun k => { k with running := some (wrk 4 0) })), 0, wrk 4 0, by decide +kernel⟩,
   ⟨(modTime (fun x => { x with mono := 2 }) (core0 (wrk 4 0) (tst []))), 0, wrk 4 0, by decide +kernel⟩,
   ⟨(modTime (fun x => { x with mono := 2 }) (core0 (wrk 4 0) (tst []))), 0, wrk 4 0, by decide +kernel⟩,
   ⟨(tst []), 0, by decide +kernel⟩,
   ⟨(core0 (wrk 4 0) (tst [])), 0, 0x20000001, 4, wrk 4 0, by decide +kernel⟩,
   ⟨(core0 (wrk 4 0) (tst [])), 0, 0x80000, 1, wrk 4 0, by decide +kernel⟩,
   ⟨(tst []), 0, 0, 0, by decide +kernel⟩,
   ⟨(inQ 14 [⟨64, .frame 1 []⟩] (tst [])), 0, by intro i hi; rw [show ((inQ 14 [⟨64, .frame 1 []⟩] (tst [])).queue 14).items = [⟨64, .frame 1 []⟩] from by decide +kernel, List.mem_singleton] at hi; subst hi; exact ⟨(by intro bs h; simp at h), (by intro x h; simp at h)⟩⟩,
   ⟨(inQ 14 [⟨64, .frame 0 [1]⟩] (tst [])), 0, [], [], 64, [1], by decide +kernel, (by intro i hi; cases hi)⟩,
   ⟨(inQ 14 [⟨64, .ptp ⟨0, 0, 0, 0, 0⟩⟩] (tst [])), 0, [], [], 64, (⟨0, 0, 0, 0, 0⟩ : PtpTx), by decide +kernel, by decide +kernel, (by intro i hi; cases hi)⟩⟩

/-- The hypotheses of each clause of Obligations.RecorderRuns can be met. -/
theorem test_RecorderRuns_meets :
  (∃ (s : State), s.flag REC_STAT_SCANNING = false) ∧
  (∃ (s : State), s.flag REC_STAT_SCANNING = true) ∧
  (∃ (s : State) (u : State) (bad : Option Nat), s.flag REC_STAT_SCANNING = true ∧ s.sys.sanitiseFail = none ∧ u = ((s.recScan.recMramErr bad).setF REC_STAT_SCANNING 0).setF REC_STAT_READY 1 ∧ u.rdN REC_HEAD % 65536 + recLen u.startRecord.payload.length ≤ 65536 ∧ u.rdN REC_HEAD < 16777216) ∧
  (∃ (s : State), s.flag REC_STAT_SCANNING = true) ∧
  (∃ (s : State), (s.flag REC_STAT_READY = false ∨ (s.recorder.faultReady = [] ∧ (s.queue 8).items = []))) ∧
  (∃ (s : State) (r : RecItem) (rs : List RecItem), s.flag REC_STAT_READY = true ∧ s.recorder.faultReady = r :: rs) ∧
  (∃ (s : State) (r : RecItem) (ix : Nat) (len : Nat), s.flag REC_STAT_READY = true ∧ s.recorder.faultReady = [] ∧ s.recNext = some (ix, ⟨len, .record r⟩)) ∧
  (∃ (s : State) (r : RecItem) (rs : List RecItem), s.flag REC_STAT_READY = true ∧ s.recorder.faultReady = r :: rs ∧ s.rdN REC_HEAD % 65536 + recLen r.payload.length ≤ 65536 ∧ s.rdN REC_HEAD < 16777216) ∧
  (∃ (s : State) (r : RecItem) (ix : Nat) (len : Nat), s.flag REC_STAT_READY = true ∧ s.recorder.faultReady = [] ∧ s.recNext = some (ix, ⟨len, .record r⟩) ∧ s.rdN REC_HEAD % 65536 + recLen r.payload.length ≤ 65536 ∧ s.rdN REC_HEAD < 16777216) ∧
  (∃ (s : State) (c : Fin 8), (((s.sched.cores.get c).running = none ∨ (s.sched.cores.get c).halted = true))) ∧
  (∃ (s : State) (c : Fin 8) (code : Nat), (s.sched.cores.get c).running.isSome = true ∧ (s.sched.cores.get c).halted = false ∧ ((code < 0x1000 ∨ (code < 0x8000 ∧ s.recEntry code = none)))) ∧
  (∃ (s : State) (c : Fin 8) (code : Nat) (p : List Byte), (s.sched.cores.get c).running.isSome = true ∧ (s.sched.cores.get c).halted = false ∧ 0x8000 ≤ code ∧ 996 < p.length) ∧
  (∃ (s : State) (c : Fin 8), (s.sched.cores.get c).running.isSome = true ∧ (s.sched.cores.get c).halted = false) ∧
  (∃ (code : Nat), 0x1000 ≤ code) ∧
  (∃ (s : State) (u : State) (code : Nat) (p : List Byte), code < 0x100 ∧ p.length ≤ 996 ∧ s.recEntry code = none ∧ s.offer 8 ⟨8 + p.length, .record ⟨code, 3, p, s.time.now, false⟩⟩ = some u) ∧
  (∃ (s : State) (u : State) (code : Nat) (p : List Byte) (b0 : RecBucket) (b : RecBucket), 0x100 ≤ code ∧ code < 0x1000 ∧ p.length ≤ 996 ∧ s.recEntry code = some b0 ∧ p.length ≤ b0.plenMax ∧ b = b0.fill s.cycleInc (s.time.mono - 1) ∧ (b.rate = 0 ∨ tokenUnit ≤ b.tokens) ∧ b.supp = 0 ∧ s.offer 8 ⟨8 + p.length, .record ⟨code, b0.prio, p, s.time.now, false⟩⟩ = some u) ∧
  (∃ (s : State) (code : Nat) (p : List Byte) (b0 : RecBucket) (b : RecBucket), 0x100 ≤ code ∧ code < 0x1000 ∧ p.length ≤ 996 ∧ s.recEntry code = some b0 ∧ p.length ≤ b0.plenMax ∧ b = b0.fill s.cycleInc (s.time.mono - 1) ∧ b.rate ≠ 0 ∧ b.tokens < tokenUnit) ∧
  (∃ (s : State) (code : Nat) (p : List Byte), code < 0x100 ∧ p.length ≤ 996 ∧ s.recEntry code = none ∧ s.offer 8 ⟨8 + p.length, .record ⟨code, 3, p, s.time.now, false⟩⟩ = none ∧ ((∀ i ∈ (s.queue 8).items, 3 ≤ Body.prioOf i))) ∧
  (∃ (s : State) (code : Nat), s.recEntry code = none) ∧
  (∃ (s : State) (code : Nat) (m : Nat) (b : RecBucket) (w : RecBucket), s.recEntry code = some b ∧ w = b.fill s.cycleInc (s.runTo m).time.mono ∧ (w.supp = 0 ∨ w.tokens ≠ w.burst * tokenUnit)) ∧
  (∃ (s : State) (u : State) (code : Nat) (m : Nat) (b : RecBucket) (w : RecBucket), s.recEntry code = some b ∧ w = b.fill s.cycleInc (s.runTo m).time.mono ∧ w.supp ≠ 0 ∧ w.tokens = w.burst * tokenUnit ∧ ((s.runTo m).putBucket { w with supp := 0 }).offer 8 ⟨8 + (w.summary (s.runTo m).time.now).payload.length, .record (w.summary (s.runTo m).time.now)⟩ = some u) ∧
  (∃ (s : State), (s.recorder.episode = none ∨ (s.queue 8).reserved < 2 * (s.queue 8).cells)) ∧
  (∃ (s : State) (cnt : List Nat) (first : Instant), s.recorder.episode = some (cnt, first) ∧ 2 * (s.queue 8).cells ≤ (s.queue 8).reserved) :=
  ⟨⟨(tst [(REC_STAT_SCANNING, 0)]), by decide +kernel⟩,
   ⟨(tst [(REC_STAT_SCANNING, 1)]), by decide +kernel⟩,
   ⟨(tst [(REC_STAT_SCANNING, 1)]), ((((tst [(REC_STAT_SCANNING, 1)])).recScan.recMramErr none).setF REC_STAT_SCANNING 0).setF REC_STAT_READY 1, none, by decide +kernel, by decide +kernel, rfl, by decide +kernel, by decide +kernel⟩,
   ⟨(tst [(REC_STAT_SCANNING, 1)]), by decide +kernel⟩,
   ⟨(tst []), by decide +kernel⟩,
   ⟨({ (tst [(REC_STAT_READY, 1)]) with recorder := { (tst [(REC_STAT_READY, 1)]).recorder with faultReady := [⟨1, 3, [], 0, false⟩] } }), (⟨1, 3, [], 0, false⟩ : RecItem), [], by decide +kernel⟩,
   ⟨(inQ 8 [⟨8, .record ⟨1, 3, [], 0, false⟩⟩] (tst [(REC_STAT_READY, 1)])), (⟨1, 3, [], 0, false⟩ : RecItem), 0, 8, by decide +kernel⟩,
   ⟨({ (tst [(REC_STAT_READY, 1)]) with recorder := { (tst [(REC_STAT_READY, 1)]).recorder with faultReady := [⟨1, 3, [], 0, false⟩] } }), (⟨1, 3, [], 0, false⟩ : RecItem), [], by decide +kernel⟩,
   ⟨(inQ 8 [⟨8, .record ⟨1, 3, [], 0, false⟩⟩] (tst [(REC_STAT_READY, 1)])), (⟨1, 3, [], 0, false⟩ : RecItem), 0, 8, by decide +kernel⟩,
   ⟨(tst []), 0, by decide +kernel⟩,
   ⟨(core0 (wrk 4 0) (tst [])), 0, 0x1000, by decide +kernel⟩,
   ⟨(core0 (wrk 4 0) (tst [])), 0, 0x8000, List.replicate 997 0, by decide +kernel, by decide +kernel, by decide +kernel, by rw [List.length_replicate]; decide⟩,
   ⟨(core0 (wrk 4 0) (tst [])), 0, by decide +kernel⟩,
   ⟨0x1000, by decide +kernel⟩,
   ⟨(tst []), Option.get (((tst [])).offer 8 ⟨8 + ([]).length, .record ⟨1, 3, ([]), ((tst [])).time.now, false⟩⟩) (by decide +kernel), 1, [], by decide +kernel, by decide +kernel, by decide +kernel, (Option.some_get _).symm⟩,
   ⟨(buckets [bkt 0x100 0 0] (tst [])), Option.get (((buckets [bkt 0x100 0 0] (tst []))).offer 8 ⟨9, .record ⟨0x100, 3, [1], ((buckets [bkt 0x100 0 0] (tst []))).time.now, false⟩⟩) (by decide +kernel), 0x100, [1], bkt 0x100 0 0, (bkt 0x100 0 0).fill ((buckets [bkt 0x100 0 0] (tst []))).cycleInc (((buckets [bkt 0x100 0 0] (tst []))).time.mono - 1), by decide +kernel, by decide +kernel, by decide +kernel, by decide +kernel, by decide +kernel, rfl, by decide +kernel, by decide +kernel, (Option.some_get _).symm⟩,
   ⟨(buckets [bkt 0x100 1 0] (tst [])), 0x100, [1], bkt 0x100 1 0, (bkt 0x100 1 0).fill ((buckets [bkt 0x100 1 0] (tst []))).cycleInc (((buckets [bkt 0x100 1 0] (tst []))).time.mono - 1), by decide +kernel, by decide +kernel, by decide +kernel, by decide +kernel, by decide +kernel, rfl, by decide +kernel, by decide +kernel⟩,
   ⟨((tst []).modQueue 8 (fun q => { q with reserved := 0, cap := 0 })), 0xFF, [], by decide +kernel⟩,
   ⟨(tst []), 0, by decide +kernel⟩,
   ⟨(buckets [bkt 0x100 1 0] (tst [])), 0x100, 0, bkt 0x100 1 0, (bkt 0x100 1 0).fill ((buckets [bkt 0x100 1 0] (tst []))).cycleInc (((buckets [bkt 0x100 1 0] (tst []))).runTo 0).time.mono, by decide +kernel, rfl, by decide +kernel⟩,
   ⟨({ (tst []) with recorder := { (tst []).recorder with buckets := [⟨0, 0, 0, 3, 64, 0, 0, 1, 0, 0⟩] } }), Option.get ((((({ (tst []) with recorder := { (tst []).recorder with buckets := [⟨0, 0, 0, 3, 64, 0, 0, 1, 0, 0⟩] } })).runTo 0).putBucket { ((⟨0, 0, 0, 3, 64, 0, 0, 1, 0, 0⟩ : RecBucket)) with supp := 0 }).offer 8 ⟨8 + (((⟨0, 0, 0, 3, 64, 0, 0, 1, 0, 0⟩ : RecBucket)).summary ((({ (tst []) with recorder := { (tst []).recorder with buckets := [⟨0, 0, 0, 3, 64, 0, 0, 1, 0, 0⟩] } })).runTo 0).time.now).payload.length, .record (((⟨0, 0, 0, 3, 64, 0, 0, 1, 0, 0⟩ : RecBucket)).summary ((({ (tst []) with recorder := { (tst []).recorder with buckets := [⟨0, 0, 0, 3, 64, 0, 0, 1, 0, 0⟩] } })).runTo 0).time.now)⟩) (by decide +kernel), 0, 0, (⟨0, 0, 0, 3, 64, 0, 0, 1, 0, 0⟩ : RecBucket), (⟨0, 0, 0, 3, 64, 0, 0, 1, 0, 0⟩ : RecBucket), by decide +kernel, by decide +kernel, by decide +kernel, by decide +kernel, (Option.some_get _).symm⟩,
   ⟨(tst []), by decide +kernel⟩,
   ⟨({ (tst []) with recorder := { (tst []).recorder with episode := some ([], 0) } }), [], 0, by decide +kernel⟩⟩

/-- The hypotheses of each clause of Obligations.MasterWrites can be met. -/
theorem test_MasterWrites_meets :
  (∃ (s : State), s.mapOpen = false) ∧
  (∃ (s : State), s.mapOpen = true) ∧
  (∃ (s : State), s.mapOpen = true ∧ s.wheelHeld = true) ∧
  (∃ (s : State) (v : Word) (n : Nat), s.mapOpen = true ∧ s.wheelHeld = false ∧ n = (s.lowWord (WHEEL_VSPD 0)).toNat + 4294967296 * v.toNat ∧ signed 64 (s.rd2 WHEEL_VMAX) < |signed 64 n|) ∧
  (∃ (s : State) (v : Word) (n : Nat), s.mapOpen = true ∧ s.wheelHeld = false ∧ n = (s.lowWord (WHEEL_VSPD 0)).toNat + 4294967296 * v.toNat ∧ |signed 64 n| ≤ signed 64 (s.rd2 WHEEL_VMAX)) ∧
  (∃ (s : State), s.mapOpen = true) ∧
  (∃ (s : State), s.wheelHeld = true) ∧
  (∃ (s : State), s.mapOpen = true ∧ s.wheelHeld = false) ∧
  (∃ (s : State), s.mapOpen = true ∧ s.wheelHeld = false ∧ s.mst = msFREE ∧ s.vspd ≠ 0 ∧ s.f TIME_STAT_STATE = 2) ∧
  (∃ (s : State), (s.mst = msPULL ∨ s.mst = msLOCKED)) ∧
  (∃ (s : State), s.mapOpen = true ∧ s.wheelHeld = false ∧ s.mst ≠ msPULL ∧ s.mst ≠ msLOCKED ∧ (s.mst ≠ msFREE ∨ s.vspd = 0 ∨ s.f TIME_STAT_STATE ≠ 2)) ∧
  (∃ (s : State), s.mapOpen = true ∧ s.wheelHeld = false ∧ (s.mst = msPULL ∨ s.mst = msLOCKED)) ∧
  (∃ (s : State), s.mapOpen = true ∧ s.wheelHeld = false ∧ s.mst ≠ msPULL ∧ s.mst ≠ msLOCKED) ∧
  (∃ (s : State), s.mapOpen = true ∧ s.flag WHEEL_MST_CTL_SRC = true ∧ s.wheel.held = true ∧ s.wheelHeld = false ∧ s.flag (FBP_STAT_LOST s.masterPort) = false ∧ ((∀ a, s.tileOfPort s.masterPort = some a → s.flag (TILE_FB_STAT_LOST a) = false ∧ s.flag (TILE_FB_STAT_FROZEN a) = false))) ∧
  (∃ (s : State), (s.wheel.held = false ∨ s.flag WHEEL_MST_CTL_SRC = false ∨ s.flag (FBP_STAT_LOST s.masterPort) = true ∨ (∃ a, s.tileOfPort s.masterPort = some a ∧ (s.flag (TILE_FB_STAT_LOST a) = true ∨ s.flag (TILE_FB_STAT_FROZEN a) = true)))) :=
  ⟨⟨(tst [(SYS_MODE_MODE, mRESET)]), by decide +kernel⟩,
   ⟨(tst []), by decide +kernel⟩,
   ⟨(tst [(SYS_MODE_MODE, mFAULT), (SYS_MODE_HOLD, 1)]), by decide +kernel⟩,
   ⟨(tst []), 1, 4294967296, by decide +kernel⟩,
   ⟨(tst []), 0, 0, by decide +kernel⟩,
   ⟨(tst []), by decide +kernel⟩,
   ⟨(tst [(SYS_MODE_MODE, mFAULT), (SYS_MODE_HOLD, 1)]), by decide +kernel⟩,
   ⟨(tst []), by decide +kernel⟩,
   ⟨(tst [(TIME_STAT_STATE, 2), (WHEEL_STAT_MST_STATE, msFREE), (⟨WHEEL_VSPD 0, 0, 32⟩, 1)]), by decide +kernel⟩,
   ⟨(tst [(WHEEL_STAT_MST_STATE, msLOCKED)]), by decide +kernel⟩,
   ⟨(tst []), by decide +kernel⟩,
   ⟨(tst [(WHEEL_STAT_MST_STATE, msPULL)]), by decide +kernel⟩,
   ⟨(tst []), by decide +kernel⟩,
   ⟨({ tst [(WHEEL_MST_CTL_SRC, 1)] with wheel := { held := true } }), by decide +kernel⟩,
   ⟨(tst []), by decide +kernel⟩⟩

/-- The hypotheses of each clause of Obligations.MasterMoves can be met. -/
theorem test_MasterMoves_meets :
  (∃ (s : State) (u : State) (m : Nat) (k : Nat), u = (s.runTo m).anchor ∧ u.wheel.okSince = some k ∧ u.mst = msPULL ∧ k + u.msCycles 100 ≤ u.time.mono) ∧
  (∃ (s : State) (u : State) (m : Nat), u = (s.runTo m).anchor ∧ (u.wheel.okSince = none ∨ u.mst ≠ msPULL ∨ (∃ k, u.wheel.okSince = some k ∧ u.time.mono < k + u.msCycles 100))) ∧
  (∃ (s : State) (m : Nat), signed 64 (s.rd2 WHEEL_VMAX) * 1099511627776 < |(s.runTo m).mspd|) ∧
  (∃ (s : State) (m : Nat), |(s.runTo m).mspd| ≤ signed 64 (s.rd2 WHEEL_VMAX) * 1099511627776) ∧
  (∃ (s : State) (u : State) (m : Nat), u = (s.runTo m).anchor.armAll ∧ u.flag WHEEL_MST_CTL_SRC = false ∧ ((u.wdir = false ∧ u.mspd < 0) ∨ (u.wdir = true ∧ 0 < u.mspd))) ∧
  (∃ (s : State) (u : State) (m : Nat) (back : Int), u = (s.runTo m).anchor.armAll ∧ u.flag WHEEL_MST_CTL_SRC = true ∧ back = (if u.wdir then diff64 u.mpos u.wpos else diff64 u.wpos u.mpos) ∧ (u.f WHEEL_HYST_HYST : Int) ≤ back ∧ 0 < back) ∧
  (∃ (s : State) (u : State) (m : Nat), u = (s.runTo m).anchor.armAll ∧ u.flag WHEEL_MST_CTL_SRC = false ∧ ((u.wdir = false ∧ 0 ≤ u.mspd) ∨ (u.wdir = true ∧ u.mspd ≤ 0))) ∧
  (∃ (s : State) (u : State) (m : Nat) (back : Int), u = (s.runTo m).anchor.armAll ∧ u.flag WHEEL_MST_CTL_SRC = true ∧ back = (if u.wdir then diff64 u.mpos u.wpos else diff64 u.wpos u.mpos) ∧ (back < (u.f WHEEL_HYST_HYST : Int) ∨ back ≤ 0)) ∧
  (∃ (s : State), s.wheel.descs = []) ∧
  (∃ (s : State) (u : State) (m : Nat) (l : List WDesc), u = (s.runTo m).syncW ∧ l = u.wheel.descs.filter (fun (x : WDesc) => x.armed && u.past x.d && !u.isStaged (u.slotOf x.d.pos))) ∧
  (∃ (s : State) (u : State) (m : Nat), u = s.runTo m ∧ (u.mst ≠ msREAL ∨ 32 ≤ u.masterPort)) ∧
  (∃ (s : State) (u : State) (m : Nat) (p : Fin 32), u = s.runTo m ∧ u.mst = msREAL ∧ u.masterPort = p ∧ ((u.fbps.get p).corr = none ∨ (∃ d, ∃ e, (u.fbps.get p).corr = some (d, e) ∧ m < d))) ∧
  (∃ (s : State) (u : State) (m : Nat) (d : Nat) (e : Int) (p : Fin 32), u = s.runTo m ∧ u.mst = msREAL ∧ u.masterPort = p ∧ (u.fbps.get p).corr = some (d, e) ∧ d ≤ m) ∧
  (∃ (s : State), s.mapOpen = false) ∧
  (∃ (s : State), s.mapOpen = true) :=
  ⟨⟨(modTime (fun x => { x with mono := 80000000 }) { (tst [(WHEEL_STAT_MST_STATE, msPULL)]) with wheel := { okSince := some 0, atMono := 80000000 } }), (((modTime (fun x => { x with mono := 80000000 }) { (tst [(WHEEL_STAT_MST_STATE, msPULL)]) with wheel := { okSince := some 0, atMono := 80000000 } })).runTo 80000000).anchor, 80000000, 0, rfl, by decide +kernel, by decide +kernel, by decide +kernel⟩,
   ⟨(tst []), (((tst [])).runTo 0).anchor, 0, rfl, by decide +kernel⟩,
   ⟨(tst [(WHEEL_STAT_MST_STATE, msLOCKED), (⟨WHEEL_VSPD 0, 0, 32⟩, 1)]), 0, by decide +kernel⟩,
   ⟨(tst []), 0, by decide +kernel⟩,
   ⟨(tst [(WHEEL_MST_CTL_SRC, 0), (WHEEL_STAT_MST_STATE, msLOCKED), (⟨WHEEL_VSPD 1, 0, 32⟩, 2147483648)]), (((tst [(WHEEL_MST_CTL_SRC, 0), (WHEEL_STAT_MST_STATE, msLOCKED), (⟨WHEEL_VSPD 1, 0, 32⟩, 2147483648)])).runTo 0).anchor.armAll, 0, rfl, by decide +kernel, by decide +kernel⟩,
   ⟨({ (tst [(WHEEL_MST_CTL_SRC, 1), (WHEEL_MST_CTL_SRC, 1)]) with wheel := { w := 5 } }), (((({ (tst [(WHEEL_MST_CTL_SRC, 1), (WHEEL_MST_CTL_SRC, 1)]) with wheel := { w := 5 } }))).runTo 0).anchor.armAll, 0, 5, rfl, by decide +kernel, by decide +kernel, by decide +kernel, by decide +kernel⟩,
   ⟨(tst [(WHEEL_MST_CTL_SRC, 0)]), (((tst [(WHEEL_MST_CTL_SRC, 0)])).runTo 0).anchor.armAll, 0, rfl, by decide +kernel, by decide +kernel⟩,
   ⟨(tst [(WHEEL_MST_CTL_SRC, 1)]), (((tst [(WHEEL_MST_CTL_SRC, 1)])).runTo 0).anchor.armAll, 0, 0, rfl, by decide +kernel, by decide +kernel, by decide +kernel⟩,
   ⟨(tst []), by decide +kernel⟩,
   ⟨(tst []), (((tst [])).runTo 0).syncW, 0, [], rfl, by decide +kernel⟩,
   ⟨(tst []), ((tst [])).runTo 0, 0, rfl, by decide +kernel⟩,
   ⟨(tst [(WHEEL_STAT_MST_STATE, msREAL)]), ((tst [(WHEEL_STAT_MST_STATE, msREAL)])).runTo 0, 0, 0, rfl, by decide +kernel, by decide +kernel, Or.inl (by decide +kernel)⟩,
   ⟨((tst [(WHEEL_STAT_MST_STATE, msREAL)]).modFbp 0 (fun x => { x with corr := some (0, 1) })), (((tst [(WHEEL_STAT_MST_STATE, msREAL)]).modFbp 0 (fun x => { x with corr := some (0, 1) }))).runTo 0, 0, 0, 1, 0, rfl, by decide +kernel, by decide +kernel, by decide +kernel, by decide +kernel⟩,
   ⟨(tst [(SYS_MODE_MODE, mRESET)]), by decide +kernel⟩,
   ⟨(tst []), by decide +kernel⟩⟩

/-- The hypotheses of each clause of Obligations.WheelActions can be met. -/
theorem test_WheelActions_meets :
  (∃ (s : State) (u : State) (h : Nat) (m : Nat) (x : WDesc), s.firesAt u h m aPIN_SET x ∧ x.d.target < 16) ∧
  (∃ (s : State) (u : State) (h : Nat) (m : Nat) (x : WDesc), s.firesAt u h m aPIN_CLEAR x ∧ x.d.target < 16) ∧
  (∃ (s : State) (u : State) (h : Nat) (m : Nat) (x : WDesc), s.firesAt u h m aPIN_PULSE x ∧ x.d.target < 16) ∧
  (∃ (s : State) (u : State) (h : Nat) (m : Nat) (x : WDesc), s.firesAt u h m aFOUT_SET x ∧ x.d.target < 32 ∧ ((u.mode = mCOMMISSION → u.flag (FIO_OUTCFG_COMM x.d.target) = true)) ∧ u.mode ≠ mFAULT) ∧
  (∃ (s : State) (u : State) (h : Nat) (m : Nat) (x : WDesc), s.firesAt u h m aFOUT_CLEAR x ∧ x.d.target < 32 ∧ ((u.mode = mCOMMISSION → u.flag (FIO_OUTCFG_COMM x.d.target) = true)) ∧ u.mode ≠ mFAULT) ∧
  (∃ (s : State) (u : State) (h : Nat) (m : Nat) (x : WDesc), s.firesAt u h m aFOUT_PULSE x ∧ x.d.target < 32 ∧ ((u.mode = mCOMMISSION → u.flag (FIO_OUTCFG_COMM x.d.target) = true)) ∧ u.mode ≠ mFAULT) ∧
  (∃ (u : State) (x : WDesc), ((u.mode = mCOMMISSION ∧ u.flag (FIO_OUTCFG_COMM x.d.target) = false) ∨ u.mode = mFAULT)) ∧
  (∃ (s : State) (u : State) (h : Nat) (m : Nat) (x : WDesc), s.firesAt u h m aDISPATCH x ∧ x.d.recd = false) ∧
  (∃ (s : State) (u : State) (h : Nat) (m : Nat) (x : WDesc), s.firesAt u h m aDISPATCH x ∧ u.stopped = false ∧ x.d.recd = false) ∧
  (∃ (s : State) (u : State) (h : Nat) (m : Nat) (x : WDesc), s.firesAt u h m aDISPATCH x ∧ x.d.recd = true) ∧
  (∃ (s : State) (u : State) (h : Nat) (m : Nat) (x : WDesc) (a : Fin 96), s.firesAt u h m aSEGMENT_GO x ∧ x.d.target = a ∧ (u.tiles.get a).held.isSome = true ∧ (u.tiles.get a).go = none) ∧
  (∃ (s : State) (u : State) (h : Nat) (m : Nat) (x : WDesc) (a : Fin 96), s.firesAt u h m aSEGMENT_GO x ∧ x.d.target = a ∧ ((u.tiles.get a).held = none ∨ (u.tiles.get a).go.isSome = true)) ∧
  (∃ (s : State) (u : State) (h : Nat) (m : Nat) (x : WDesc), s.firesAt u h m aACQ_TRIG x) ∧
  (∃ (s : State) (u : State) (h : Nat) (m : Nat) (x : WDesc) (l : Fin 8), s.firesAt u h m aLATCH_ARM x ∧ x.d.target = l) ∧
  (∃ (s : State) (u : State) (h : Nat) (m : Nat), u = (s.runTo m).syncW ∧ (u.descOf h = none ∨ (∃ x, u.descOf h = some x ∧ u.due x = false))) ∧
  (∃ (s : State) (u : State) (h : Nat) (m : Nat) (x : WDesc), u = (s.runTo m).syncW ∧ u.descOf h = some x ∧ u.due x = true) ∧
  (∃ (u : State), u.wheelOff = true) ∧
  (∃ (u : State) (x : WDesc), u.wheelOff = false ∧ u.mode = mCOMMISSION ∧ x.d.comm = false) :=
  ⟨⟨(whl aPIN_SET 15), ((((whl aPIN_SET 15))).runTo 0).syncW, 1, 0, (⟨1, 0, dsc aPIN_SET 15, true⟩ : WDesc), firesBy (by decide +kernel), by decide +kernel⟩,
   ⟨(whl aPIN_CLEAR 0), ((((whl aPIN_CLEAR 0))).runTo 0).syncW, 1, 0, (⟨1, 0, dsc aPIN_CLEAR 0, true⟩ : WDesc), firesBy (by decide +kernel), by decide +kernel⟩,
   ⟨(whl aPIN_PULSE 0), ((((whl aPIN_PULSE 0))).runTo 0).syncW, 1, 0, (⟨1, 0, dsc aPIN_PULSE 0, true⟩ : WDesc), firesBy (by decide +kernel), by decide +kernel⟩,
   ⟨(whl aFOUT_SET 31), ((((whl aFOUT_SET 31))).runTo 0).syncW, 1, 0, (⟨1, 0, dsc aFOUT_SET 31, true⟩ : WDesc), firesBy (by decide +kernel), by decide +kernel, by decide +kernel, by decide +kernel⟩,
   ⟨(whl aFOUT_CLEAR 0), ((((whl aFOUT_CLEAR 0))).runTo 0).syncW, 1, 0, (⟨1, 0, dsc aFOUT_CLEAR 0, true⟩ : WDesc), firesBy (by decide +kernel), by decide +kernel, by decide +kernel, by decide +kernel⟩,
   ⟨(whl aFOUT_PULSE 0), ((((whl aFOUT_PULSE 0))).runTo 0).syncW, 1, 0, (⟨1, 0, dsc aFOUT_PULSE 0, true⟩ : WDesc), firesBy (by decide +kernel), by decide +kernel, by decide +kernel, by decide +kernel⟩,
   ⟨tst [(SYS_MODE_MODE, mFAULT)], (⟨1, 0, dsc aFOUT_SET 0, true⟩ : WDesc), by decide +kernel⟩,
   ⟨(whl aDISPATCH 0), ((((whl aDISPATCH 0))).runTo 0).syncW, 1, 0, (⟨1, 0, dsc aDISPATCH 0, true⟩ : WDesc), firesBy (by decide +kernel), by decide +kernel⟩,
   ⟨(whl aDISPATCH 0), ((((whl aDISPATCH 0))).runTo 0).syncW, 1, 0, (⟨1, 0, dsc aDISPATCH 0, true⟩ : WDesc), firesBy (by decide +kernel), by decide +kernel, by decide +kernel⟩,
   ⟨({ whl aDISPATCH 0 with wheel := { descs := [⟨1, 0, { dsc aDISPATCH 0 with recd := true }, true⟩] } }), (((({ whl aDISPATCH 0 with wheel := { descs := [⟨1, 0, { dsc aDISPATCH 0 with recd := true }, true⟩] } }))).runTo 0).syncW, 1, 0, (⟨1, 0, { dsc aDISPATCH 0 with recd := true }, true⟩ : WDesc), firesBy (by decide +kernel), by decide +kernel⟩,
   ⟨((whl aSEGMENT_GO 95).modTile 95 (fun t => { t with held := some (seg 95 kPOS) })), (((((whl aSEGMENT_GO 95).modTile 95 (fun t => { t with held := some (seg 95 kPOS) })))).runTo 0).syncW, 1, 0, (⟨1, 0, dsc aSEGMENT_GO 95, true⟩ : WDesc), 95, firesBy (by decide +kernel), by decide +kernel, by decide +kernel, by decide +kernel⟩,
   ⟨(whl aSEGMENT_GO 0), ((((whl aSEGMENT_GO 0))).runTo 0).syncW, 1, 0, (⟨1, 0, dsc aSEGMENT_GO 0, true⟩ : WDesc), 0, firesBy (by decide +kernel), by decide +kernel, by decide +kernel⟩,
   ⟨(whl aACQ_TRIG 0), ((((whl aACQ_TRIG 0))).runTo 0).syncW, 1, 0, (⟨1, 0, dsc aACQ_TRIG 0, true⟩ : WDesc), firesBy (by decide +kernel)⟩,
   ⟨(whl aLATCH_ARM 7), ((((whl aLATCH_ARM 7))).runTo 0).syncW, 1, 0, (⟨1, 0, dsc aLATCH_ARM 7, true⟩ : WDesc), 7, firesBy (by decide +kernel), by decide +kernel⟩,
   ⟨(tst []), (((tst [])).runTo 0).syncW, 0, 0, rfl, by decide +kernel⟩,
   ⟨(whl aPIN_SET 15), ((((whl aPIN_SET 15))).runTo 0).syncW, 1, 0, (⟨1, 0, dsc aPIN_SET 15, true⟩ : WDesc), rfl, by decide +kernel, by decide +kernel⟩,
   ⟨(tst []), by decide +kernel⟩,
   ⟨tst [(SYS_MODE_MODE, mCOMMISSION)], (⟨1, 0, { dsc aPIN_SET 0 with comm := false }, true⟩ : WDesc), by decide +kernel⟩⟩

/-- The hypotheses of each clause of Obligations.WheelStore can be met. -/
theorem test_WheelStore_meets :
  (∃ (s : State) (p : Fin 16) (m : Nat) (e : Nat), (p.val, e) ∈ s.wheel.pinPulses ∧ e ≤ (s.runTo m).time.mono) ∧
  (∃ (s : State) (p : Fin 16) (m : Nat), ((∀ e ∈ s.wheel.pinPulses, e.1 = p.val → (s.runTo m).time.mono < e.2))) ∧
  (∃ (s : State) (p : Fin 32) (m : Nat) (e : Nat), (p.val, e) ∈ s.wheel.foutPulses ∧ e ≤ (s.runTo m).time.mono ∧ ((s.mode = mCOMMISSION → s.flag (FIO_OUTCFG_COMM p) = true)) ∧ s.mode ≠ mFAULT) ∧
  (∃ (s : State) (p : Fin 32) (m : Nat) (e : Nat), (p.val, e) ∈ s.wheel.foutPulses ∧ e ≤ (s.runTo m).time.mono ∧ ((s.mode = mCOMMISSION ∧ s.flag (FIO_OUTCFG_COMM p) = false) ∨ s.mode = mFAULT)) ∧
  (∃ (s : State) (p : Fin 32) (m : Nat), ((∀ e ∈ s.wheel.foutPulses, e.1 = p.val → (s.runTo m).time.mono < e.2))) ∧
  (∃ (s : State) (l : Fin 8) (m : Nat) (e : Nat), s.wheel.windows.get l = some e ∧ e ≤ (s.runTo m).time.mono) ∧
  (∃ (s : State) (l : Fin 8) (m : Nat), (s.wheel.windows.get l = none ∨ (∃ e, s.wheel.windows.get l = some e ∧ (s.runTo m).time.mono < e))) ∧
  (∃ (s : State) (l : Fin 8) (r : Bool) (w : Nat) (m : Nat), s.cfg.run.isSome = true ∧ s.f (WHEEL_LT_CFG_FILT l) ≤ w ∧ (s.f (WHEEL_LT_CFG_EDGE l) = 2 ∨ (s.f (WHEEL_LT_CFG_EDGE l) = 0 ∧ r = true) ∨ (s.f (WHEEL_LT_CFG_EDGE l) = 1 ∧ r = false)) ∧ (s.flag (WHEEL_LT_CFG_WINDOWED l) = false ∨ (∃ e, s.wheel.windows.get l = some e ∧ (s.runTo m).time.mono < e)) ∧ (s.wheel.latches.get l).length < 16) ∧
  (∃ (s : State) (l : Fin 8) (r : Bool) (w : Nat) (m : Nat), s.cfg.run.isSome = true ∧ s.f (WHEEL_LT_CFG_FILT l) ≤ w ∧ (s.f (WHEEL_LT_CFG_EDGE l) = 2 ∨ (s.f (WHEEL_LT_CFG_EDGE l) = 0 ∧ r = true) ∨ (s.f (WHEEL_LT_CFG_EDGE l) = 1 ∧ r = false)) ∧ (s.flag (WHEEL_LT_CFG_WINDOWED l) = false ∨ (∃ e, s.wheel.windows.get l = some e ∧ (s.runTo m).time.mono < e)) ∧ 16 ≤ (s.wheel.latches.get l).length) ∧
  (∃ (s : State) (l : Fin 8) (r : Bool) (w : Nat) (m : Nat), (s.cfg.run = none ∨ w < s.f (WHEEL_LT_CFG_FILT l) ∨ s.f (WHEEL_LT_CFG_EDGE l) = 3 ∨ (s.f (WHEEL_LT_CFG_EDGE l) = 0 ∧ r = false) ∨ (s.f (WHEEL_LT_CFG_EDGE l) = 1 ∧ r = true) ∨ (s.flag (WHEEL_LT_CFG_WINDOWED l) = true ∧ (∀ e, s.wheel.windows.get l = some e → e ≤ (s.runTo m).time.mono)))) ∧
  (∃ (s : State) (l : Fin 8), (s.mapOpen = false ∨ s.wheel.latches.get l = [] ∨ (∃ e es, s.wheel.latches.get l = e :: es ∧ e.at_ = s.time.mono))) ∧
  (∃ (s : State) (l : Fin 8) (e : LatchEntry) (es : List LatchEntry), s.mapOpen = true ∧ s.wheel.latches.get l = e :: es ∧ e.at_ ≠ s.time.mono) ∧
  (∃ (s : State), s.mapOpen = false) ∧
  (∃ (s : State), s.mapOpen = true ∧ s.insertCheck s.insWords ≠ admOK) ∧
  (∃ (s : State), s.mapOpen = true ∧ s.insertCheck s.insWords = admOK ∧ (s.wheel.hostBucket.fill s.cycleInc s.time.mono).tokens < tokenUnit) ∧
  (∃ (s : State), s.mapOpen = true ∧ s.insertCheck s.insWords = admOK ∧ tokenUnit ≤ (s.wheel.hostBucket.fill s.cycleInc s.time.mono).tokens) ∧
  (∃ (s : State), s.mapOpen = true) ∧
  (∃ (s : State) (u : State) (h : Nat) (x : WDesc), s.mapOpen = true ∧ u = s.syncW ∧ u.descOf h = some x ∧ u.due x = false) ∧
  (∃ (s : State) (h : Nat), s.mapOpen = true ∧ s.syncW.descOf h = none) ∧
  (∃ (s : State) (c : Fin 8), ((s.sched.cores.get c).running = none ∨ (s.sched.cores.get c).halted = true)) ∧
  (∃ (s : State) (c : Fin 8) (d : Descriptor), (s.sched.cores.get c).running.isSome = true ∧ (s.sched.cores.get c).halted = false ∧ s.insertCheck d ≠ admOK) ∧
  (∃ (s : State) (c : Fin 8) (d : Descriptor), (s.sched.cores.get c).running.isSome = true ∧ (s.sched.cores.get c).halted = false ∧ s.insertCheck d = admOK ∧ (s.wheel.coreBucket.fill s.cycleInc s.time.mono).tokens < tokenUnit) ∧
  (∃ (s : State) (c : Fin 8) (d : Descriptor), (s.sched.cores.get c).running.isSome = true ∧ (s.sched.cores.get c).halted = false ∧ s.insertCheck d = admOK ∧ tokenUnit ≤ (s.wheel.coreBucket.fill s.cycleInc s.time.mono).tokens) ∧
  (∃ (s : State) (u : State) (c : Fin 8) (h : Nat) (x : WDesc), (s.sched.cores.get c).running.isSome = true ∧ (s.sched.cores.get c).halted = false ∧ u = s.syncW ∧ u.descOf h = some x ∧ u.due x = false) ∧
  (∃ (s : State) (c : Fin 8) (h : Nat), (s.sched.cores.get c).running.isSome = true ∧ (s.sched.cores.get c).halted = false ∧ s.syncW.descOf h = none) :=
  ⟨⟨({ tst [] with wheel := { pinPulses := [(0, 0)] } }), 0, 0, 0, by decide +kernel⟩,
   ⟨(tst []), 0, 0, by decide +kernel⟩,
   ⟨({ tst [(SYS_MODE_MODE, mRUN)] with wheel := { foutPulses := [(0, 0)] } }), 0, 0, 0, by decide +kernel⟩,
   ⟨({ tst [(SYS_MODE_MODE, mFAULT)] with wheel := { foutPulses := [(0, 0)] } }), 0, 0, 0, by decide +kernel⟩,
   ⟨(tst []), 0, 0, by decide +kernel⟩,
   ⟨({ (tst []) with wheel := { (tst []).wheel with windows := (tst []).wheel.windows.set 0 (some 0) } }), 0, 0, 0, by decide +kernel⟩,
   ⟨(tst []), 0, 0, by decide +kernel⟩,
   ⟨(inImg {} (tst [])), 0, true, 1, 0, by decide +kernel, by decide +kernel, by decide +kernel, Or.inl (by decide +kernel), by decide +kernel⟩,
   ⟨(inImg {} { (tst []) with wheel := { (tst []).wheel with latches := (tst []).wheel.latches.set 0 (List.replicate 16 ⟨0, 0, true, 0⟩) } }), 0, true, 1, 0, by decide +kernel, by decide +kernel, by decide +kernel, Or.inl (by decide +kernel), by decide +kernel⟩,
   ⟨(tst []), 0, false, 0, 0, by decide +kernel⟩,
   ⟨(tst []), 0, Or.inr (Or.inl (by decide +kernel))⟩,
   ⟨(modTime (fun x => { x with mono := 1 }) { (tst []) with wheel := { (tst []).wheel with latches := (tst []).wheel.latches.set 0 [⟨0, 0, true, 0⟩] } }), 0, (⟨0, 0, true, 0⟩ : LatchEntry), [], by decide +kernel⟩,
   ⟨(tst [(SYS_MODE_MODE, mRESET)]), by decide +kernel⟩,
   ⟨(tst []), by decide +kernel⟩,
   ⟨(inImg {} (((tst [(SYS_MODE_MODE, mRUN), (WHEEL_SLOT_SHIFT, 16), (WHEEL_PART_COUNT, 1), (WHEEL_SLOT_SLOT_MAX, 1)]).wr (WHEEL_INS 4) 1).wr (WHEEL_INS 0) 0x00050000)), by decide +kernel⟩,
   ⟨(inImg {} { ((tst [(SYS_MODE_MODE, mRUN), (WHEEL_SLOT_SHIFT, 16), (WHEEL_PART_COUNT, 1), (WHEEL_SLOT_SLOT_MAX, 1)]).wr (WHEEL_INS 4) 1).wr (WHEEL_INS 0) 0x00050000 with wheel := { hostBucket := { burst := 1, tokens := tokenUnit } } }), by decide +kernel⟩,
   ⟨(tst []), by decide +kernel⟩,
   ⟨({ (tst [(WHEEL_SLOT_SHIFT, 16)]) with wheel := { descs := [⟨1, 0, { dsc 1 0 with angle := 100 }, true⟩] } }), ((({ (tst [(WHEEL_SLOT_SHIFT, 16)]) with wheel := { descs := [⟨1, 0, { dsc 1 0 with angle := 100 }, true⟩] } }))).syncW, 1, (⟨1, 0, { dsc 1 0 with angle := 100 }, true⟩ : WDesc), by decide +kernel, rfl, by decide +kernel, by decide +kernel⟩,
   ⟨(tst []), 0, by decide +kernel⟩,
   ⟨(tst []), 0, by decide +kernel⟩,
   ⟨(core0 (wrk 4 0) (tst [])), 0, dsc 0 0, by decide +kernel⟩,
   ⟨(core0 (wrk 4 0) (inImg {} (tst [(SYS_MODE_MODE, mRUN), (WHEEL_SLOT_SHIFT, 16), (WHEEL_PART_COUNT, 1), (WHEEL_SLOT_SLOT_MAX, 1)]))), 0, { dsc aPIN_SET 0 with angle := 0x50000 }, by decide +kernel⟩,
   ⟨(core0 (wrk 4 0) (inImg {} { (tst [(SYS_MODE_MODE, mRUN), (WHEEL_SLOT_SHIFT, 16), (WHEEL_PART_COUNT, 1), (WHEEL_SLOT_SLOT_MAX, 1)]) with wheel := { coreBucket := { burst := 1, tokens := tokenUnit } } })), 0, { dsc aPIN_SET 0 with angle := 0x50000 }, by decide +kernel⟩,
   ⟨(core0 (wrk 4 0) { (tst [(WHEEL_SLOT_SHIFT, 16)]) with wheel := { descs := [⟨1, 0, { dsc 1 0 with angle := 100 }, true⟩] } }), (((core0 (wrk 4 0) { (tst [(WHEEL_SLOT_SHIFT, 16)]) with wheel := { descs := [⟨1, 0, { dsc 1 0 with angle := 100 }, true⟩] } }))).syncW, 0, 1, (⟨1, 0, { dsc 1 0 with angle := 100 }, true⟩ : WDesc), by decide +kernel, by decide +kernel, rfl, by decide +kernel, by decide +kernel⟩,
   ⟨(core0 (wrk 4 0) (tst [])), 0, 0, by decide +kernel⟩⟩

/-- The hypotheses of each clause of Obligations.PtpMessages can be met. -/
theorem test_PtpMessages_meets :
  (∃ (s : State) (m : PtpMsg), (s.runTo m.t).ptpOurs m.domain m.udp = false) ∧
  (∃ (s : State) (u : State) (m : PtpMsg), u = s.runTo m.t ∧ u.ptpOurs m.domain m.udp = true ∧ (u.stopped = true ∨ u.offer 15 ⟨64, .block 0⟩ = none)) ∧
  (∃ (s : State) (v : State) (m : PtpMsg), (s.runTo m.t).ptpOurs m.domain m.udp = true ∧ (s.runTo m.t).ptpIn = (v, true) ∧ v.fromMaster m.port m.source = true ∧ m.twoStep = true) ∧
  (∃ (s : State) (v : State) (m : PtpMsg), (s.runTo m.t).ptpOurs m.domain m.udp = true ∧ (s.runTo m.t).ptpIn = (v, true) ∧ v.fromMaster m.port m.source = true ∧ m.twoStep = false ∧ v.time.mpd = none) ∧
  (∃ (s : State) (v : State) (w : State) (m : PtpMsg) (d : Int), (s.runTo m.t).ptpOurs m.domain m.udp = true ∧ (s.runTo m.t).ptpIn = (v, true) ∧ v.fromMaster m.port m.source = true ∧ m.twoStep = false ∧ v.time.mpd = some d ∧ v.time.lastStep ≠ some m.t ∧ v.stepDue = none ∧ w = { v with time := { v.time with lastSync := some (m.origin + m.corr, v.rxStamp m) } }) ∧
  (∃ (u : State) (ofs : Int) (l : Int) (x : Int) (lim : Int), u.plantSelected = true ∧ u.time.firstStep = none ∧ (u.tstate = tsACQUIRE ∨ u.tstate = tsSYNC) ∧ u.firstStepFree = false ∧ |ofs| < u.stepThr ∧ ((∀ p, u.time.prevOfs = some p → |ofs - p| ≤ 4 * u.syncThr + 65536 * 100000)) ∧ x = roundHalfEven (ofs * 4294967296 * 2 ^ (-l).toNat) (1000 * 2 ^ l.toNat) ∧ lim = u.fadjLimit) ∧
  (∃ (s : State) (v : State) (m : PtpMsg), (s.runTo m.t).ptpOurs m.domain m.udp = true ∧ (s.runTo m.t).ptpIn = (v, true) ∧ v.fromMaster m.port m.source = false) ∧
  (∃ (s : State) (v : State) (m : PtpMsg) (h : HeldSync), (s.runTo m.t).ptpOurs m.domain m.udp = true ∧ (s.runTo m.t).ptpIn = (v, true) ∧ v.time.ownSync = some h ∧ v.fromMaster m.port m.source = true ∧ h.source = m.source ∧ h.seqId = m.seqId ∧ v.time.mpd = none) ∧
  (∃ (s : State) (v : State) (w : State) (m : PtpMsg) (h : HeldSync) (d : Int), (s.runTo m.t).ptpOurs m.domain m.udp = true ∧ (s.runTo m.t).ptpIn = (v, true) ∧ v.time.ownSync = some h ∧ v.fromMaster m.port m.source = true ∧ h.source = m.source ∧ h.seqId = m.seqId ∧ v.time.mpd = some d ∧ v.time.lastStep ≠ some h.at_ ∧ v.stepDue = none ∧ w = { v with time := { v.time with ownSync := none, lastSync := some (m.origin + m.corr + h.corr, h.rx) } }) ∧
  (∃ (s : State) (v : State) (m : PtpMsg), (s.runTo m.t).ptpOurs m.domain m.udp = true ∧ (s.runTo m.t).ptpIn = (v, true) ∧ ((∀ h, v.time.ownSync = some h → h.source ≠ m.source ∨ h.seqId ≠ m.seqId))) ∧
  (∃ (s : State) (u : State) (m : Nat), u = s.runTo m ∧ (u.flag TIME_PTP_EN = false ∨ u.time.master = none ∨ u.reqDue = false)) ∧
  (∃ (s : State) (u : State) (v : State) (d : Int) (dep : Int) (m : Nat) (x : PtpTx), u = s.runTo m ∧ u.flag TIME_PTP_EN = true ∧ u.time.master.isSome = true ∧ u.reqDue = true ∧ dep = d + 8192 * (u.f (TIME_PL_LAT_TX (u.f TIME_STAT_OC_PORT)) : Nat) ∧ (x = ⟨u.f TIME_STAT_OC_PORT, 1 + u.f TIME_PTP_DELAY, u.time.seqId, dep / 65536, if u.flag TIME_PTP_STAMP ∨ u.flag TIME_PTP_TWO_STEP then 0 else dep % 65536⟩) ∧ u.offer 14 ⟨State.ptpLen x.kind, .ptp x⟩ = some v) ∧
  (∃ (s : State) (u : State) (d : Int) (dep : Int) (m : Nat) (x : PtpTx), u = s.runTo m ∧ u.flag TIME_PTP_EN = true ∧ u.time.master.isSome = true ∧ u.reqDue = true ∧ dep = d + 8192 * (u.f (TIME_PL_LAT_TX (u.f TIME_STAT_OC_PORT)) : Nat) ∧ (x = ⟨u.f TIME_STAT_OC_PORT, 1 + u.f TIME_PTP_DELAY, u.time.seqId, dep / 65536, if u.flag TIME_PTP_STAMP ∨ u.flag TIME_PTP_TWO_STEP then 0 else dep % 65536⟩) ∧ u.offer 14 ⟨State.ptpLen x.kind, .ptp x⟩ = none) ∧
  (∃ (s : State) (v : State) (m : PtpMsg) (t1 : Int) (t2 : Int) (t3 : Int), (s.runTo m.t).ptpOurs m.domain m.udp = true ∧ (s.runTo m.t).ptpIn = (v, true) ∧ v.time.delaySent = some (m.seqId, t3) ∧ v.time.lastSync = some (t1, t2) ∧ v.fromMaster m.port m.source = true ∧ v.flag TIME_PTP_DELAY = false) ∧
  (∃ (s : State) (v : State) (m : PtpMsg), (s.runTo m.t).ptpOurs m.domain m.udp = true ∧ (s.runTo m.t).ptpIn = (v, true) ∧ (v.time.delaySent = none ∨ v.time.lastSync = none ∨ v.flag TIME_PTP_DELAY = true)) ∧
  (∃ (s : State) (v : State) (m : PtpMsg) (d : Int) (dep : Int) (x : PtpTx), (s.runTo m.t).ptpOurs m.domain m.udp = true ∧ (s.runTo m.t).ptpIn = (v, true) ∧ v.flag TIME_PTP_DELAY = true ∧ v.flag TIME_PTP_TWO_STEP = false ∧ dep = d + 8192 * (v.f (TIME_PL_LAT_TX m.port) : Nat) ∧ x = ⟨m.port, 3, m.seqId, dep / 65536, if v.flag TIME_PTP_STAMP then 0 else m.corr + dep % 65536 + (dep - v.rxStamp m)⟩) ∧
  (∃ (s : State) (v : State) (m : PtpMsg) (d : Int) (dep : Int), (s.runTo m.t).ptpOurs m.domain m.udp = true ∧ (s.runTo m.t).ptpIn = (v, true) ∧ v.flag TIME_PTP_DELAY = true ∧ v.flag TIME_PTP_TWO_STEP = true ∧ dep = d + 8192 * (v.f (TIME_PL_LAT_TX m.port) : Nat)) ∧
  (∃ (u : State) (w : State) (x : PtpTx), u.offer 14 ⟨State.ptpLen x.kind, .ptp x⟩ = some w) ∧
  (∃ (u : State) (x : PtpTx), u.offer 14 ⟨State.ptpLen x.kind, .ptp x⟩ = none) ∧
  (∃ (s : State) (v : State) (m : PtpMsg), (s.runTo m.t).ptpOurs m.domain m.udp = true ∧ (s.runTo m.t).ptpIn = (v, true) ∧ v.flag TIME_PTP_DELAY = false) ∧
  (∃ (s : State) (v : State) (m : PtpMsg) (t1 : Int), (s.runTo m.t).ptpOurs m.domain m.udp = true ∧ (s.runTo m.t).ptpIn = (v, true) ∧ v.time.delaySent = some (m.seqId, t1) ∧ v.flag TIME_PTP_DELAY = true ∧ m.port = v.f TIME_STAT_OC_PORT ∧ m.twoStep = false) ∧
  (∃ (s : State) (v : State) (m : PtpMsg) (t1 : Int), (s.runTo m.t).ptpOurs m.domain m.udp = true ∧ (s.runTo m.t).ptpIn = (v, true) ∧ v.time.delaySent = some (m.seqId, t1) ∧ v.flag TIME_PTP_DELAY = true ∧ m.port = v.f TIME_STAT_OC_PORT ∧ m.twoStep = true) ∧
  (∃ (s : State) (v : State) (m : PtpMsg), (s.runTo m.t).ptpOurs m.domain m.udp = true ∧ (s.runTo m.t).ptpIn = (v, true) ∧ (m.port ≠ v.f TIME_STAT_OC_PORT ∨ v.time.delaySent = none)) ∧
  (∃ (s : State) (v : State) (m : PtpMsg) (t1 : Int) (t2 : Int) (t4 : Int) (c : Int) (q : Nat), (s.runTo m.t).ptpOurs m.domain m.udp = true ∧ (s.runTo m.t).ptpIn = (v, true) ∧ v.time.pdelayHeld = some (m.seqId, t2, t4, c) ∧ v.time.delaySent = some (q, t1)) ∧
  (∃ (s : State) (v : State) (m : PtpMsg), (s.runTo m.t).ptpOurs m.domain m.udp = true ∧ (s.runTo m.t).ptpIn = (v, true) ∧ (v.time.pdelayHeld = none ∨ v.time.delaySent = none)) ∧
  (∃ (s : State) (v : State) (a : Announce) (m : Nat), (s.runTo m).ptpOurs a.domain a.udp = true ∧ (s.runTo m).ptpIn = (v, true) ∧ a.stepsRemoved < 255) ∧
  (∃ (s : State) (u : State) (a : Announce) (m : Nat), u = s.runTo m ∧ u.ptpOurs a.domain a.udp = true ∧ (u.stopped = true ∨ u.offer 15 ⟨64, .block 0⟩ = none)) ∧
  (∃ (s : State) (v : State) (a : Announce) (m : Nat), (s.runTo m).ptpOurs a.domain a.udp = true ∧ (s.runTo m).ptpIn = (v, true) ∧ 255 ≤ a.stepsRemoved) ∧
  (∃ (s : State) (a : Announce) (m : Nat), (s.runTo m).ptpOurs a.domain a.udp = false) :=
  ⟨⟨(tst []), pm true 1, by decide +kernel⟩,
   ⟨(tst [(TIME_PTP_EN, 1), (SCHED_STAT_STOPPED, 1)]), ((tst [(TIME_PTP_EN, 1), (SCHED_STAT_STOPPED, 1)])).runTo (pm true 1).t, pm true 1, rfl, by decide +kernel, by decide +kernel⟩,
   ⟨(modTime (fun x => { x with master := some ptpMaster }) (tst [(TIME_PTP_EN, 1)])), ((((modTime (fun x => { x with master := some ptpMaster }) (tst [(TIME_PTP_EN, 1)])))).runTo (pm true 1).t).ptpIn.1, pm true 1, by decide +kernel, inOk (by decide +kernel), by decide +kernel, by decide +kernel⟩,
   ⟨(modTime (fun x => { x with master := some ptpMaster }) (tst [(TIME_PTP_EN, 1)])), ((((modTime (fun x => { x with master := some ptpMaster }) (tst [(TIME_PTP_EN, 1)])))).runTo (pm false 1).t).ptpIn.1, pm false 1, by decide +kernel, inOk (by decide +kernel), by decide +kernel, by decide +kernel, by decide +kernel⟩,
   ⟨(modTime (fun x => { x with master := some ptpMaster, mpd := some 5 }) (tst [(TIME_PTP_EN, 1)])), ((((modTime (fun x => { x with master := some ptpMaster, mpd := some 5 }) (tst [(TIME_PTP_EN, 1)])))).runTo (pm false 1).t).ptpIn.1, { (((((modTime (fun x => { x with master := some ptpMaster, mpd := some 5 }) (tst [(TIME_PTP_EN, 1)])))).runTo (pm false 1).t).ptpIn.1) with time := { (((((modTime (fun x => { x with master := some ptpMaster, mpd := some 5 }) (tst [(TIME_PTP_EN, 1)])))).runTo (pm false 1).t).ptpIn.1).time with lastSync := some ((pm false 1).origin + (pm false 1).corr, (((((modTime (fun x => { x with master := some ptpMaster, mpd := some 5 }) (tst [(TIME_PTP_EN, 1)])))).runTo (pm false 1).t).ptpIn.1).rxStamp (pm false 1)) } }, pm false 1, 5, by decide +kernel, inOk (by decide +kernel), by decide +kernel, by decide +kernel, by decide +kernel, by decide +kernel, by decide +kernel, rfl⟩,
   ⟨tst [(TIME_STAT_STATE, tsACQUIRE), (TIME_CFG_SRC, 1), (TIME_STAT_EVER_SYNC, 1)], 5, 0, roundHalfEven (5 * 4294967296 * 2 ^ (-(0 : Int)).toNat) (1000 * 2 ^ (0 : Int).toNat), (tst [(TIME_STAT_STATE, tsACQUIRE), (TIME_CFG_SRC, 1), (TIME_STAT_EVER_SYNC, 1)]).fadjLimit, by decide +kernel, by decide +kernel, by decide +kernel, by decide +kernel, by decide +kernel, noSome (by decide +kernel), rfl, rfl⟩,
   ⟨(tst [(TIME_PTP_EN, 1)]), ((((tst [(TIME_PTP_EN, 1)]))).runTo (pm true 1).t).ptpIn.1, pm true 1, by decide +kernel, inOk (by decide +kernel), by decide +kernel⟩,
   ⟨(modTime (fun x => { x with ownSync := some ⟨0, 7, 1, 0, 0, 0⟩, master := some ptpMaster }) (tst [(TIME_PTP_EN, 1)])), ((((modTime (fun x => { x with ownSync := some ⟨0, 7, 1, 0, 0, 0⟩, master := some ptpMaster }) (tst [(TIME_PTP_EN, 1)])))).runTo (pm true 1).t).ptpIn.1, pm true 1, (⟨0, 7, 1, 0, 0, 0⟩ : HeldSync), by decide +kernel, inOk (by decide +kernel), by decide +kernel, by decide +kernel, by decide +kernel, by decide +kernel, by decide +kernel⟩,
   ⟨(modTime (fun x => { x with ownSync := some ⟨0, 7, 1, 0, 0, 0⟩, master := some ptpMaster, mpd := some 5 }) (tst [(TIME_PTP_EN, 1)])), ((((modTime (fun x => { x with ownSync := some ⟨0, 7, 1, 0, 0, 0⟩, master := some ptpMaster, mpd := some 5 }) (tst [(TIME_PTP_EN, 1)])))).runTo (pm true 1).t).ptpIn.1, { (((((modTime (fun x => { x with ownSync := some ⟨0, 7, 1, 0, 0, 0⟩, master := some ptpMaster, mpd := some 5 }) (tst [(TIME_PTP_EN, 1)])))).runTo (pm true 1).t).ptpIn.1) with time := { (((((modTime (fun x => { x with ownSync := some ⟨0, 7, 1, 0, 0, 0⟩, master := some ptpMaster, mpd := some 5 }) (tst [(TIME_PTP_EN, 1)])))).runTo (pm true 1).t).ptpIn.1).time with ownSync := none, lastSync := some ((pm true 1).origin + (pm true 1).corr + (⟨0, 7, 1, 0, 0, 0⟩ : HeldSync).corr, (⟨0, 7, 1, 0, 0, 0⟩ : HeldSync).rx) } }, pm true 1, (⟨0, 7, 1, 0, 0, 0⟩ : HeldSync), 5, by decide +kernel, inOk (by decide +kernel), by decide +kernel, by decide +kernel, by decide +kernel, by decide +kernel, by decide +kernel, by decide +kernel, by decide +kernel, rfl⟩,
   ⟨(tst [(TIME_PTP_EN, 1)]), ((((tst [(TIME_PTP_EN, 1)]))).runTo (pm true 1).t).ptpIn.1, pm true 1, by decide +kernel, inOk (by decide +kernel), noSome (by decide +kernel)⟩,
   ⟨(tst []), ((tst [])).runTo 0, 0, rfl, by decide +kernel⟩,
   ⟨(modTime (fun x => { x with master := some ptpMaster }) (tst [(TIME_PTP_EN, 1), (TIME_PTP_EN, 1)])), ((modTime (fun x => { x with master := some ptpMaster }) (tst [(TIME_PTP_EN, 1), (TIME_PTP_EN, 1)]))).runTo 8000000000, Option.get (((((modTime (fun x => { x with master := some ptpMaster }) (tst [(TIME_PTP_EN, 1), (TIME_PTP_EN, 1)])))).runTo 8000000000).offer 14 ⟨State.ptpLen 1, .ptp ⟨0, 1, 0, 0, 0⟩⟩) (by decide +kernel), 0, 0, 8000000000, (⟨0, 1, 0, 0, 0⟩ : PtpTx), rfl, by decide +kernel, by decide +kernel, by decide +kernel, by decide +kernel, by decide +kernel, (Option.some_get _).symm⟩,
   ⟨((modTime (fun x => { x with master := some ptpMaster }) (tst [(TIME_PTP_EN, 1), (TIME_PTP_EN, 1)])).modQueue 14 (fun q => { q with reserved := 0, cap := 0 })), (((modTime (fun x => { x with master := some ptpMaster }) (tst [(TIME_PTP_EN, 1), (TIME_PTP_EN, 1)])).modQueue 14 (fun q => { q with reserved := 0, cap := 0 }))).runTo 8000000000, 0, 0, 8000000000, (⟨0, 1, 0, 0, 0⟩ : PtpTx), rfl, by decide +kernel, by decide +kernel, by decide +kernel, by decide +kernel, by decide +kernel, by decide +kernel⟩,
   ⟨(modTime (fun x => { x with delaySent := some (1, 0), lastSync := some (0, 0), master := some ptpMaster }) (tst [(TIME_PTP_DELAY, 0), (TIME_PTP_EN, 1)])), ((((modTime (fun x => { x with delaySent := some (1, 0), lastSync := some (0, 0), master := some ptpMaster }) (tst [(TIME_PTP_DELAY, 0), (TIME_PTP_EN, 1)])))).runTo (pm true 1).t).ptpIn.1, pm true 1, 0, 0, 0, by decide +kernel, inOk (by decide +kernel), by decide +kernel, by decide +kernel, by decide +kernel, by decide +kernel⟩,
   ⟨(tst [(TIME_PTP_EN, 1)]), ((((tst [(TIME_PTP_EN, 1)]))).runTo (pm true 1).t).ptpIn.1, pm true 1, by decide +kernel, inOk (by decide +kernel), by decide +kernel⟩,
   ⟨(tst [(TIME_PTP_DELAY, 1), (TIME_PTP_TWO_STEP, 0), (TIME_PTP_EN, 1), (TIME_PTP_DELAY, 1)]), ((((tst [(TIME_PTP_DELAY, 1), (TIME_PTP_TWO_STEP, 0), (TIME_PTP_EN, 1), (TIME_PTP_DELAY, 1)]))).runTo (pm true 1).t).ptpIn.1, pm true 1, 0, 0, (⟨0, 3, 1, 0, 0⟩ : PtpTx), by decide +kernel, inOk (by decide +kernel), by decide +kernel, by decide +kernel, by decide +kernel, by decide +kernel⟩,
   ⟨(tst [(TIME_PTP_DELAY, 1), (TIME_PTP_TWO_STEP, 1), (TIME_PTP_EN, 1), (TIME_PTP_DELAY, 1), (TIME_PTP_TWO_STEP, 1)]), ((((tst [(TIME_PTP_DELAY, 1), (TIME_PTP_TWO_STEP, 1), (TIME_PTP_EN, 1), (TIME_PTP_DELAY, 1), (TIME_PTP_TWO_STEP, 1)]))).runTo (pm true 1).t).ptpIn.1, pm true 1, 0, 0, by decide +kernel, inOk (by decide +kernel), by decide +kernel, by decide +kernel, by decide +kernel⟩,
   ⟨State.reset, Option.get (State.reset.offer 14 ⟨State.ptpLen 3, .ptp ⟨0, 3, 1, 0, 0⟩⟩) (by decide +kernel), (⟨0, 3, 1, 0, 0⟩ : PtpTx), (Option.some_get _).symm⟩,
   ⟨State.reset.modQueue 14 (fun q => { q with reserved := 0, cap := 0 }), (⟨0, 3, 1, 0, 0⟩ : PtpTx), by decide +kernel⟩,
   ⟨(tst [(TIME_PTP_DELAY, 0), (TIME_PTP_EN, 1)]), ((((tst [(TIME_PTP_DELAY, 0), (TIME_PTP_EN, 1)]))).runTo (pm true 1).t).ptpIn.1, pm true 1, by decide +kernel, inOk (by decide +kernel), by decide +kernel⟩,
   ⟨(modTime (fun x => { x with delaySent := some (1, 0) }) (tst [(TIME_PTP_DELAY, 1), (TIME_PTP_EN, 1), (TIME_PTP_DELAY, 1)])), ((((modTime (fun x => { x with delaySent := some (1, 0) }) (tst [(TIME_PTP_DELAY, 1), (TIME_PTP_EN, 1), (TIME_PTP_DELAY, 1)])))).runTo (pm false 1).t).ptpIn.1, pm false 1, 0, by decide +kernel, inOk (by decide +kernel), by decide +kernel, by decide +kernel, by decide +kernel, by decide +kernel⟩,
   ⟨(modTime (fun x => { x with delaySent := some (1, 0) }) (tst [(TIME_PTP_DELAY, 1), (TIME_PTP_EN, 1), (TIME_PTP_DELAY, 1)])), ((((modTime (fun x => { x with delaySent := some (1, 0) }) (tst [(TIME_PTP_DELAY, 1), (TIME_PTP_EN, 1), (TIME_PTP_DELAY, 1)])))).runTo (pm true 1).t).ptpIn.1, pm true 1, 0, by decide +kernel, inOk (by decide +kernel), by decide +kernel, by decide +kernel, by decide +kernel, by decide +kernel⟩,
   ⟨(tst [(TIME_PTP_EN, 1)]), ((((tst [(TIME_PTP_EN, 1)]))).runTo (pm true 1).t).ptpIn.1, pm true 1, by decide +kernel, inOk (by decide +kernel), by decide +kernel⟩,
   ⟨(modTime (fun x => { x with delaySent := some (1, 0), pdelayHeld := some (1, 0, 0, 0) }) (tst [(TIME_PTP_EN, 1)])), ((((modTime (fun x => { x with delaySent := some (1, 0), pdelayHeld := some (1, 0, 0, 0) }) (tst [(TIME_PTP_EN, 1)])))).runTo (pm true 1).t).ptpIn.1, pm true 1, 0, 0, 0, 0, 1, by decide +kernel, inOk (by decide +kernel), by decide +kernel, by decide +kernel⟩,
   ⟨(tst [(TIME_PTP_EN, 1)]), ((((tst [(TIME_PTP_EN, 1)]))).runTo (pm true 1).t).ptpIn.1, pm true 1, by decide +kernel, inOk (by decide +kernel), by decide +kernel⟩,
   ⟨(tst [(TIME_PTP_EN, 1)]), ((((tst [(TIME_PTP_EN, 1)]))).runTo 0).ptpIn.1, ann 254, 0, by decide +kernel, inOk (by decide +kernel), by decide +kernel⟩,
   ⟨(tst [(TIME_PTP_EN, 1), (SCHED_STAT_STOPPED, 1)]), ((tst [(TIME_PTP_EN, 1), (SCHED_STAT_STOPPED, 1)])).runTo 0, ann 0, 0, rfl, by decide +kernel, by decide +kernel⟩,
   ⟨(tst [(TIME_PTP_EN, 1)]), ((((tst [(TIME_PTP_EN, 1)]))).runTo 0).ptpIn.1, ann 255, 0, by decide +kernel, inOk (by decide +kernel), by decide +kernel⟩,
   ⟨(tst []), ann 0, 0, by decide +kernel⟩⟩

/-- The hypotheses of each clause of Obligations.TimeBaseRuns can be met. -/
theorem test_TimeBaseRuns_meets :
  (∃ (s : State) (m : Nat) (x : PtpMaster), s.time.master = some x ∧ x.expires ≤ (s.runTo m).time.mono ∧ ((∀ k ∈ s.time.known, k.identity = x.identity ∨ k.expires ≤ (s.runTo m).time.mono)) ∧ (s.tstate = tsACQUIRE ∨ s.tstate = tsSYNC)) ∧
  (∃ (s : State) (m : Nat), (s.time.master = none ∨ (∃ x, s.time.master = some x ∧ (s.runTo m).time.mono < x.expires))) ∧
  (∃ (s : State) (v : State) (m : Nat) (x : PtpMaster), s.time.master = some x ∧ x.expires ≤ (s.runTo m).time.mono ∧ v = (let u := s.runTo m; { u with time := { u.time with known := s.time.known.filter (fun (k : PtpMaster) => k.identity != x.identity && u.time.mono < k.expires) } }.choose) ∧ (v.time.master.isSome = true ∨ (s.tstate ≠ tsACQUIRE ∧ s.tstate ≠ tsSYNC))) ∧
  (∃ (s : State) (m : PtpMsg) (k : Nat), (s.runTo m.t).flag TIME_PTP_TC_EN = true ∧ ((k = 0 ∧ m.twoStep = false) ∨ k = 1 ∨ k = 9) ∧ ((k = 0 → s.flag TIME_PTP_DELAY = false ∨ m.port ≠ s.f TIME_STAT_OC_PORT))) ∧
  (∃ (s : State) (m : PtpMsg), s.flag TIME_PTP_TC_EN = true ∧ m.twoStep = false ∧ s.flag TIME_PTP_DELAY = true ∧ m.port = s.f TIME_STAT_OC_PORT) ∧
  (∃ (s : State) (m : PtpMsg), s.flag TIME_PTP_TC_EN = true ∧ m.twoStep = true ∧ s.flag TIME_PTP_DELAY = false) ∧
  (∃ (s : State) (m : PtpMsg) (h : HeldSync), s.flag TIME_PTP_TC_EN = true ∧ s.time.tcHeld.find? (fun (h : HeldSync) => h.source == m.source && h.seqId == m.seqId && h.port == m.port) = some h) ∧
  (∃ (s : State) (m : PtpMsg), s.flag TIME_PTP_TC_EN = true ∧ s.time.tcHeld.find? (fun (h : HeldSync) => h.source == m.source && h.seqId == m.seqId && h.port == m.port) = none) ∧
  (∃ (s : State) (k : Nat), (s.flag TIME_PTP_TC_EN = false ∨ k = 2 ∨ k = 3 ∨ k = 10)) ∧
  (∃ (s : State) (k : Nat), s.flag TIME_PTP_TC_EN = true ∧ k ∉ [0, 1, 2, 3, 8, 9, 10]) ∧
  (∃ (s : State) (e : Nat), s.st.etherRoutes.find? (fun (r : Route) => r.code == e) = none) ∧
  (∃ (s : State) (e : Nat) (r : Route), s.st.etherRoutes.find? (fun (r : Route) => r.code == e) = some r ∧ s.stopped = true) ∧
  (∃ (s : State) (u : State) (e : Nat) (bs : List Byte) (r : Route), s.st.etherRoutes.find? (fun (r : Route) => r.code == e) = some r ∧ s.stopped = false ∧ s.offer 15 ⟨max 1 bs.length, .work { src := 15, handler := r.handler, key := r.key, group := r.group, payload := bs, entry := s.time.now, late := false, id := s.sched.nextId }⟩ = some u) ∧
  (∃ (s : State) (k : Nat), (k ≠ 0x544D ∨ s.mapOpen = false)) ∧
  (∃ (s : State), s.mapOpen = true ∧ s.flag TIME_STAT_STEP_PEND = true) ∧
  (∃ (s : State), s.mapOpen = true ∧ s.flag TIME_STAT_STEP_PEND = false) ∧
  (∃ (s : State) (ms : Int), s.onGrid Config.msUnits = true ∧ s.time.firstStep = none ∧ s.time.accepted = true ∧ s.mode ≠ mCHANGEOVER ∧ ms = -(roundHalfEven (65536 * signed 64 (s.rd2 TIME_PEND)) 65536000000)) ∧
  (∃ (s : State) (o : Int) (ms : Int), s.onGrid Config.msUnits = true ∧ s.time.firstStep = some o ∧ ms = -(roundHalfEven o 65536000000)) ∧
  (∃ (s : State), (s.onGrid Config.msUnits = false ∨ (s.time.firstStep = none ∧ (s.time.accepted = false ∨ s.mode = mCHANGEOVER)))) ∧
  (∃ (s : State), s.mapOpen = false) ∧
  (∃ (s : State) (v : Word), s.mapOpen = true ∧ TIME_CFG_SRC.get v = s.f TIME_CFG_SRC) ∧
  (∃ (s : State) (v : Word), s.mapOpen = true ∧ TIME_CFG_SRC.get v ≠ s.f TIME_CFG_SRC) ∧
  (∃ (s : State), s.mapOpen = true) ∧
  (∃ (s : State), s.tstate = tsRING ∧ ((∀ r : Fin 2, ∀ x, (s.rings.get r).heard = some x → 4 * s.ringPeriod r ≤ (s.time.mono - x.at_) * s.cycleInc))) ∧
  (∃ (s : State), (s.tstate ≠ tsRING ∨ (∃ r : Fin 2, ∃ x, (s.rings.get r).heard = some x ∧ (s.time.mono - x.at_) * s.cycleInc < 4 * s.ringPeriod r))) ∧
  (∃ (s : State), s.mapOpen = true) :=
  ⟨⟨(modTime (fun x => { x with master := some ⟨7, 0, 0, 0, false, 0⟩ }) (tst [(TIME_STAT_STATE, tsACQUIRE)])), 0, (⟨7, 0, 0, 0, false, 0⟩ : PtpMaster), by decide +kernel⟩,
   ⟨(tst []), 0, by decide +kernel⟩,
   ⟨(modTime (fun x => { x with master := some ptpMaster }) (tst [])), ({ ((((modTime (fun x => { x with master := some ptpMaster }) (tst [])))).runTo 1) with time := { ((((modTime (fun x => { x with master := some ptpMaster }) (tst [])))).runTo 1).time with known := (((modTime (fun x => { x with master := some ptpMaster }) (tst [])))).time.known.filter (fun (k : PtpMaster) => k.identity != ptpMaster.identity && ((((modTime (fun x => { x with master := some ptpMaster }) (tst [])))).runTo 1).time.mono < k.expires) } }.choose), 1, ptpMaster, by decide +kernel, by decide +kernel, rfl, by decide +kernel⟩,
   ⟨(tst [(TIME_PTP_TC_EN, 1)]), pm false 1, 1, by decide +kernel⟩,
   ⟨(tst [(TIME_PTP_TC_EN, 1), (TIME_PTP_DELAY, 1), (TIME_STAT_OC_PORT, 0)]), pm false 1, by decide +kernel⟩,
   ⟨(tst [(TIME_PTP_TC_EN, 1), (TIME_PTP_DELAY, 0)]), pm true 1, by decide +kernel⟩,
   ⟨(modTime (fun x => { x with tcHeld := [⟨0, 7, 1, 0, 0, 0⟩] }) (tst [(TIME_PTP_TC_EN, 1)])), pm true 1, (⟨0, 7, 1, 0, 0, 0⟩ : HeldSync), by decide +kernel⟩,
   ⟨(tst [(TIME_PTP_TC_EN, 1)]), pm true 1, by decide +kernel⟩,
   ⟨(tst []), 0, by decide +kernel⟩,
   ⟨(tst [(TIME_PTP_TC_EN, 1)]), 4, by decide +kernel⟩,
   ⟨(tst []), 0, by decide +kernel⟩,
   ⟨(inImg { etherRoutes := [⟨0, 0, 0, 0⟩] } (tst [(SCHED_STAT_STOPPED, 1)])), 0, (⟨0, 0, 0, 0⟩ : Route), by decide +kernel⟩,
   ⟨(inImg { etherRoutes := [⟨0, 0, 0, 0⟩] } (tst [])), Option.get (((inImg { etherRoutes := [⟨0, 0, 0, 0⟩] } (tst []))).offer 15 ⟨max 1 ([]).length, .work { src := 15, handler := ((⟨0, 0, 0, 0⟩ : Route)).handler, key := ((⟨0, 0, 0, 0⟩ : Route)).key, group := ((⟨0, 0, 0, 0⟩ : Route)).group, payload := ([]), entry := ((inImg { etherRoutes := [⟨0, 0, 0, 0⟩] } (tst []))).time.now, late := false, id := ((inImg { etherRoutes := [⟨0, 0, 0, 0⟩] } (tst []))).sched.nextId }⟩) (by decide +kernel), 0, [], (⟨0, 0, 0, 0⟩ : Route), by decide +kernel, by decide +kernel, (Option.some_get _).symm⟩,
   ⟨(tst []), 0, by decide +kernel⟩,
   ⟨(tst [(TIME_STAT_STEP_PEND, 1)]), by decide +kernel⟩,
   ⟨(tst [(TIME_STAT_STEP_PEND, 0)]), by decide +kernel⟩,
   ⟨(modTime (fun x => { x with accepted := true }) (tst [])), 0, by decide +kernel⟩,
   ⟨(modTime (fun x => { x with firstStep := some 65536000000 }) (tst [])), 65536000000, -1, by decide +kernel⟩,
   ⟨(tst []), by decide +kernel⟩,
   ⟨(tst [(SYS_MODE_MODE, mRESET)]), by decide +kernel⟩,
   ⟨(tst []), 0, by decide +kernel⟩,
   ⟨(tst []), 3, by decide +kernel⟩,
   ⟨(tst []), by decide +kernel⟩,
   ⟨(tst [(TIME_STAT_STATE, tsRING)]), by decide +kernel⟩,
   ⟨(tst []), by decide +kernel⟩,
   ⟨(tst []), by decide +kernel⟩⟩

/-- The hypotheses of each clause of Obligations.FeedbackCounts can be met. -/
theorem test_FeedbackCounts_meets :
  (∃ (s : State) (u : State) (p : Fin 32) (m : Nat), u = (s.runTo m).settle p m ∧ m % 4 ≠ 0) ∧
  (∃ (s : State) (u : State) (p : Fin 32) (a : Bool) (b : Bool) (z : Bool) (a1 : Bool) (b1 : Bool) (z1 : Bool) (na : Nat) (nb : Nat) (nz : Nat) (m : Nat), u = (s.runTo m).settle p m ∧ m % 4 = 0 ∧ a1 = (if u.f (FBP_CFG_FILT p) < na then a else u.lineA p) ∧ b1 = (if u.f (FBP_CFG_FILT p) < nb then b else u.lineB p) ∧ z1 = (if u.f (FBP_CFG_FILT p) < nz then z else u.lineZ p) ∧ (u.portMode p = 0 ∨ 4 ≤ u.portMode p ∨ z1 = u.flag (FBP_CFG_ZPOL p) ∨ u.lineZ p ≠ u.flag (FBP_CFG_ZPOL p) ∨ (u.flag (FBP_CFG_ZGATE p) = true ∧ (a1 = false ∨ b1 = false)))) ∧
  (∃ (s : State) (u : State) (p : Fin 32) (a : Bool) (b : Bool) (z : Bool) (a1 : Bool) (b1 : Bool) (z1 : Bool) (na : Nat) (nb : Nat) (nz : Nat) (m : Nat), u = (s.runTo m).settle p m ∧ m % 4 = 0 ∧ a1 = (if u.f (FBP_CFG_FILT p) < na then a else u.lineA p) ∧ b1 = (if u.f (FBP_CFG_FILT p) < nb then b else u.lineB p) ∧ z1 = (if u.f (FBP_CFG_FILT p) < nz then z else u.lineZ p) ∧ 1 ≤ u.portMode p ∧ u.portMode p ≤ 3 ∧ z1 ≠ u.flag (FBP_CFG_ZPOL p) ∧ u.lineZ p = u.flag (FBP_CFG_ZPOL p) ∧ ((u.flag (FBP_CFG_ZGATE p) = true → a1 = true ∧ b1 = true))) ∧
  (∃ (s : State) (u : State) (p : Fin 32) (a : Bool) (b : Bool) (z : Bool) (na : Nat) (nb : Nat) (nz : Nat) (m : Nat) (d : Int), u = (s.runTo m).settle p m ∧ m % 4 = 0 ∧ u.f (FBP_CFG_FILT p) < na ∧ u.f (FBP_CFG_FILT p) < nb ∧ u.f (FBP_CFG_FILT p) < nz ∧ edgeKind (u.portMode p) (u.lineA p) (u.lineB p) (u.lineZ p) a b z = .change d ∧ (u.portMode p = 4 ∨ z = u.flag (FBP_CFG_ZPOL p) ∨ u.lineZ p ≠ u.flag (FBP_CFG_ZPOL p)) ∧ (u.masterPort ≠ p ∨ u.mst ≠ msREAL)) ∧
  (∃ (s : State) (u : State) (p : Fin 32) (a : Bool) (b : Bool) (z : Bool) (na : Nat) (nb : Nat) (nz : Nat) (m : Nat), u = (s.runTo m).settle p m ∧ m % 4 = 0 ∧ u.f (FBP_CFG_FILT p) < na ∧ u.f (FBP_CFG_FILT p) < nb ∧ u.f (FBP_CFG_FILT p) < nz ∧ edgeKind (u.portMode p) (u.lineA p) (u.lineB p) (u.lineZ p) a b z = .illegal ∧ (u.portMode p = 4 ∨ z = u.flag (FBP_CFG_ZPOL p) ∨ u.lineZ p ≠ u.flag (FBP_CFG_ZPOL p))) ∧
  (∃ (v : State) (p : Fin 32) (m : Nat), v.refArmed p m = true ∧ v.masterPort ≠ p) ∧
  (∃ (v : State) (p : Fin 32) (m : Nat), v.refArmed p m = true ∧ v.masterPort = p ∧ v.flag WHEEL_MST_CTL_SRC = true ∧ v.mst = msHOLD ∧ v.wheel.referenced = false ∧ v.wheelHeld = false) ∧
  (∃ (v : State) (p : Fin 32) (m : Nat), v.refArmed p m = false ∧ (v.flag (FBP_STAT_REFERENCED p) = false ∨ v.idxPeriod p = 0)) ∧
  (∃ (v : State) (p : Fin 32) (m : Nat) (d : Int), v.refArmed p m = false ∧ v.flag (FBP_STAT_REFERENCED p) = true ∧ v.idxPeriod p ≠ 0 ∧ d = (v.count p - v.idxBase p + (v.idxPeriod p : Int) / 2) % (v.idxPeriod p : Int) - (v.idxPeriod p : Int) / 2 ∧ d ≠ 0 ∧ v.tileOfPort p = none) ∧
  (∃ (s : State) (p : Fin 32) (m : Nat), (s.portMode p ≠ 5 ∨ (s.runTo m).atSsiEnd = false)) ∧
  (∃ (s : State) (p : Fin 32) (bs : List Bool) (x : Bool) (y : Bool) (m : Nat), s.portMode p = 5 ∧ (s.runTo m).atSsiEnd = true ∧ (x = false ∨ y = false ∨ bs.length ≠ s.f (FBP_SSI_FRAME_BITS p))) ∧
  (∃ (s : State) (p : Fin 32) (bs : List Bool) (m : Nat) (frame : Nat), s.portMode p = 5 ∧ (s.runTo m).atSsiEnd = true ∧ bs.length = s.f (FBP_SSI_FRAME_BITS p) ∧ frame = bs.foldl (fun (v : Nat) b => 2 * v + b2n b) 0 ∧ s.flag (FBP_SSI_CRC_EN p) = true ∧ frame % 64 ≠ ssiCrc (frame / 64) (s.f (FBP_SSI_FRAME_BITS p) - 6) 0) ∧
  (∃ (s : State) (p : Fin 32) (bs : List Bool) (m : Nat) (frame : Nat) (raw : Nat), s.portMode p = 5 ∧ (s.runTo m).atSsiEnd = true ∧ bs.length = s.f (FBP_SSI_FRAME_BITS p) ∧ frame = bs.foldl (fun (v : Nat) b => 2 * v + b2n b) 0 ∧ (s.flag (FBP_SSI_CRC_EN p) = false ∨ frame % 64 = ssiCrc (frame / 64) (s.f (FBP_SSI_FRAME_BITS p) - 6) 0) ∧ raw = frame / 2 ^ s.f (FBP_SSI_POS_LSB p) % 2 ^ s.f (FBP_SSI_POS_BITS p) ∧ (s.fbps.get p).ssiField = none ∧ (s.fbps.get p).warm = none ∧ s.masterPort ≠ p) ∧
  (∃ (s : State) (p : Fin 32) (bs : List Bool) (m : Nat) (frame : Nat) (raw : Nat) (field : Nat) (o : Nat) (n : Nat) (d : Int), s.portMode p = 5 ∧ (s.runTo m).atSsiEnd = true ∧ bs.length = s.f (FBP_SSI_FRAME_BITS p) ∧ frame = bs.foldl (fun (v : Nat) b => 2 * v + b2n b) 0 ∧ (s.flag (FBP_SSI_CRC_EN p) = false ∨ frame % 64 = ssiCrc (frame / 64) (s.f (FBP_SSI_FRAME_BITS p) - 6) 0) ∧ n = s.f (FBP_SSI_POS_BITS p) ∧ raw = frame / 2 ^ s.f (FBP_SSI_POS_LSB p) % 2 ^ n ∧ field = (if s.flag (FBP_SSI_GRAY p) then grayToBin raw n else raw) ∧ (s.fbps.get p).ssiField = some o ∧ d = signed n (field + 2 ^ n - o % 2 ^ n) ∧ 4 * |d| ≤ (2 ^ n : Int) ∧ (s.fbps.get p).rerefer = false ∧ s.masterPort ≠ p) ∧
  (∃ (s : State) (p : Fin 32) (c : Int), (s.fbps.get p).lastIdx = some c ∧ s.flag (FBP_STAT_REFERENCED p) = true ∧ s.idxPeriod p ≠ 0 ∧ (s.fbps.get p).idxLate = false ∧ (s.idxPeriod p + s.idxWin p : Int) < |State.countDiff (s.count p) c|) ∧
  (∃ (s : State) (p : Fin 32), ((∀ c, (s.fbps.get p).lastIdx = some c → s.flag (FBP_STAT_REFERENCED p) = false ∨ s.idxPeriod p = 0 ∨ (s.fbps.get p).idxLate = true ∨ |State.countDiff (s.count p) c| ≤ (s.idxPeriod p + s.idxWin p : Int)))) ∧
  (∃ (s : State) (p : Fin 32), (s.mapOpen = false ∨ s.portMode p = 0)) ∧
  (∃ (s : State) (p : Fin 32), s.mapOpen = true ∧ s.portMode p ≠ 0) ∧
  (∃ (s : State) (u : State) (a : Fin 96) (p : Fin 32) (m : Nat), u = s.runTo m ∧ u.atTick = true ∧ s.f (TILE_FB_SRC_SRC a) = 1 ∧ s.f (TILE_FB_SRC_PORT a) = p ∧ s.portMode p ≠ 5 ∧ (s.fbps.get p).window u.latchPoint = [] ∧ (s.fbps.get p).quiet (u.usCycles (u.f (TILE_FB_STILL_STILL_US a))) u.latchPoint = true) ∧
  (∃ (s : State) (u : State) (a : Fin 96) (p : Fin 32) (m : Nat), u = s.runTo m ∧ s.f (TILE_FB_SRC_PORT a) = p ∧ (u.atTick = false ∨ s.f (TILE_FB_SRC_SRC a) ≠ 1 ∨ s.portMode p = 5 ∨ (s.fbps.get p).window u.latchPoint ≠ [] ∨ (s.fbps.get p).quiet (u.usCycles (u.f (TILE_FB_STILL_STILL_US a))) u.latchPoint = false)) :=
  ⟨⟨(tst []), (((tst [])).runTo 1).settle 0 1, 0, 1, rfl, by decide +kernel⟩,
   ⟨(tst []), (((tst [])).runTo 0).settle 0 0, 0, false, false, false, false, false, false, 0, 0, 0, 0, rfl, by decide +kernel, by decide +kernel, by decide +kernel, by decide +kernel, by decide +kernel⟩,
   ⟨(tst [(FBP_CFG_MODE 0, 1)]), (((tst [(FBP_CFG_MODE 0, 1)])).runTo 0).settle 0 0, 0, false, false, true, false, false, true, 0, 0, 1, 0, rfl, by decide +kernel, by decide +kernel, by decide +kernel, by decide +kernel, by decide +kernel, by decide +kernel, by decide +kernel, by decide +kernel, by decide +kernel⟩,
   ⟨(tst [(FBP_CFG_MODE 0, 2)]), (((tst [(FBP_CFG_MODE 0, 2)])).runTo 0).settle 0 0, 0, true, false, false, 1, 1, 1, 0, -1, rfl, by decide +kernel, by decide +kernel, by decide +kernel, by decide +kernel, by decide +kernel, by decide +kernel, by decide +kernel⟩,
   ⟨(tst [(FBP_CFG_MODE 0, 1)]), (((tst [(FBP_CFG_MODE 0, 1)])).runTo 0).settle 0 0, 0, true, true, false, 1, 1, 1, 0, rfl, by decide +kernel, by decide +kernel, by decide +kernel, by decide +kernel, by decide +kernel, by decide +kernel⟩,
   ⟨(tst [(FBP_STAT_REF_ARMED 0, 1), (WHEEL_MST_CTL_FBPORT, 1)]), 0, 0, by decide +kernel⟩,
   ⟨(tst [(WHEEL_MST_CTL_SRC, 1), (FBP_STAT_REF_ARMED 0, 1), (WHEEL_MST_CTL_SRC, 1), (WHEEL_STAT_MST_STATE, msHOLD)]), 0, 0, by decide +kernel⟩,
   ⟨(tst []), 0, 0, by decide +kernel⟩,
   ⟨(tst [((FBP_STAT_REFERENCED 0), 1), (⟨FBP_IDXPER 0, 0, 32⟩, 4), (⟨FBP_CNT 0, 0, 32⟩, 1), (FBP_STAT_REFERENCED 0, 1)]), 0, 0, 1, by decide +kernel⟩,
   ⟨(tst []), 0, 0, by decide +kernel⟩,
   ⟨(ssiNow (tst [(FBP_CFG_MODE 0, 5), (SYS_MODE_MODE, mRUN)])), 0, [], false, false, 0, by decide +kernel⟩,
   ⟨(ssiNow (tst [((FBP_SSI_CRC_EN 0), 1), (FBP_CFG_MODE 0, 5), (SYS_MODE_MODE, mRUN), (FBP_SSI_CRC_EN 0, 1), (FBP_SSI_FRAME_BITS 0, 8)])), 0, List.replicate 8 true, 0, 255, by decide +kernel⟩,
   ⟨(ssiNow (tst [(FBP_CFG_MODE 1, 5), (SYS_MODE_MODE, mRUN)])), 1, [], 0, 0, 0, by decide +kernel⟩,
   ⟨((ssiNow (tst [(FBP_CFG_MODE 1, 5), (SYS_MODE_MODE, mRUN)])).modFbp 1 (fun x => { x with ssiField := some 0 })), 1, [], 0, 0, 0, 0, 0, 0, 0, by decide +kernel⟩,
   ⟨((tst [((FBP_STAT_REFERENCED 0), 1), (⟨FBP_IDXPER 0, 0, 32⟩, 4)]).modFbp 0 (fun x => { x with lastIdx := some 100 })), 0, 100, by decide +kernel⟩,
   ⟨(tst []), 0, by decide +kernel⟩,
   ⟨(tst []), 0, by decide +kernel⟩,
   ⟨(tst [(FBP_CFG_MODE 0, 1), (SYS_MODE_MODE, mRUN)]), 0, by decide +kernel⟩,
   ⟨(inImg {} (tst [((TILE_FB_SRC_SRC 0), 1), ((TILE_FB_SRC_PORT 0), 0), (TILE_FB_SRC_SRC 0, 1), (SYS_MODE_MODE, mRUN)])), ((inImg {} (tst [((TILE_FB_SRC_SRC 0), 1), ((TILE_FB_SRC_PORT 0), 0), (TILE_FB_SRC_SRC 0, 1), (SYS_MODE_MODE, mRUN)]))).runTo 0, 0, 0, 0, rfl, by decide +kernel, by decide +kernel, by decide +kernel, by decide +kernel, by decide +kernel, by decide +kernel⟩,
   ⟨(tst [((TILE_FB_SRC_PORT 0), 0)]), ((tst [((TILE_FB_SRC_PORT 0), 0)])).runTo 0, 0, 0, 0, rfl, by decide +kernel, by decide +kernel⟩⟩

/-- The hypotheses of each clause of Obligations.FeedbackLoss can be met. -/
theorem test_FeedbackLoss_meets :
  (∃ (s : State) (p : Fin 32), s.atTick = true ∧ s.flag (FBP_STAT_LOST p) = false ∧ (16 ≤ (s.fbps.get p).illPrev ∨ 16 ≤ (s.fbps.get p).illNow)) ∧
  (∃ (s : State) (p : Fin 32), (s.atTick = false ∨ s.flag (FBP_STAT_LOST p) = true ∨ ((s.fbps.get p).illPrev < 16 ∧ (s.fbps.get p).illNow < 16))) ∧
  (∃ (s : State) (p : Fin 32), s.atTick = true ∧ s.flag (FBP_STAT_LOST p) = false ∧ s.f (FBP_CFG_SSI_ERRMAX p) ≤ (s.fbps.get p).badRun ∧ (s.fbps.get p).badRun ≠ 0) ∧
  (∃ (s : State) (p : Fin 32), (s.atTick = false ∨ s.flag (FBP_STAT_LOST p) = true ∨ (s.fbps.get p).badRun < s.f (FBP_CFG_SSI_ERRMAX p) ∨ (s.fbps.get p).badRun = 0)) ∧
  (∃ (s : State) (p : Fin 32) (k : Nat) (m : Nat), (s.runTo m).atTick = true ∧ s.flag (FBP_STAT_LOST p) = false ∧ (s.fbps.get p).hallSince = some k ∧ k + s.msCycles 1 ≤ (s.runTo m).time.mono) ∧
  (∃ (s : State) (p : Fin 32) (m : Nat), ((s.runTo m).atTick = false ∨ s.flag (FBP_STAT_LOST p) = true ∨ (∀ k, (s.fbps.get p).hallSince = some k → (s.runTo m).time.mono < k + s.msCycles 1))) ∧
  (∃ (s : State) (k : Nat), k < s.usCycles 1) ∧
  (∃ (s : State) (p : Fin 32) (low : Bool) (k : Nat), s.usCycles 1 ≤ k ∧ (low = false ∨ s.flag (FBP_CFG_WB_EN p) = false ∨ s.flag (FBP_STAT_LOST p) = true)) ∧
  (∃ (s : State) (p : Fin 32) (k : Nat), s.usCycles 1 ≤ k ∧ s.flag (FBP_CFG_WB_EN p) = true ∧ s.flag (FBP_STAT_LOST p) = false) ∧
  (∃ (u : State) (p : Fin 32) (x : Fin 96) (c : Nat), u.tileOfPort p = some x ∧ u.flag (TILE_FB_STAT_LOST x) = false ∧ (u.mst ≠ msREAL ∨ u.masterPort ≠ p) ∧ c < 8) ∧
  (∃ (u : State) (p : Fin 32), u.tileOfPort p = none ∧ (u.mst ≠ msREAL ∨ u.masterPort ≠ p)) ∧
  (∃ (u : State) (p : Fin 32), u.tileOfPort p = none ∧ u.mst = msREAL ∧ u.masterPort = p) ∧
  (∃ (s : State) (x : Fin 96), s.atTick = true ∧ s.f (TILE_FB_SRC_SRC x) = 2 ∧ s.f (TILE_FB_SRC_AGE_MAX x) < s.f (TILE_FB_STAT_AGE x) ∧ s.flag (TILE_FB_STAT_LOST x) = false) ∧
  (∃ (s : State) (x : Fin 96), (s.atTick = false ∨ s.f (TILE_FB_SRC_SRC x) ≠ 2 ∨ s.f (TILE_FB_STAT_AGE x) ≤ s.f (TILE_FB_SRC_AGE_MAX x) ∨ s.flag (TILE_FB_STAT_LOST x) = true)) ∧
  (∃ (s : State) (x : Fin 96), s.atTick = true ∧ s.frozenNow x = true ∧ s.flag (TILE_FB_STAT_LOST x) = false ∧ s.flag (TILE_FB_STAT_FROZEN x) = false ∧ s.f (TILE_FB_SRC_SRC x) ≠ 0 ∧ (s.f (TILE_FB_SRC_SRC x) ≠ 1 ∨ s.mst ≠ msREAL ∨ s.masterPort ≠ s.f (TILE_FB_SRC_PORT x))) ∧
  (∃ (s : State) (x : Fin 96), s.atTick = true ∧ s.frozenNow x = true ∧ s.flag (TILE_FB_STAT_LOST x) = false ∧ s.flag (TILE_FB_STAT_FROZEN x) = false ∧ s.f (TILE_FB_SRC_SRC x) = 1 ∧ s.mst = msREAL ∧ s.masterPort = s.f (TILE_FB_SRC_PORT x)) ∧
  (∃ (s : State) (x : Fin 96), (s.atTick = false ∨ s.frozenNow x = false ∨ s.flag (TILE_FB_STAT_LOST x) = true ∨ s.flag (TILE_FB_STAT_FROZEN x) = true ∨ s.f (TILE_FB_SRC_SRC x) = 0)) ∧
  (∃ (s : State) (x : Fin 96), s.tileOpen x = false) ∧
  (∃ (s : State) (x : Fin 96), s.tileOpen x = true ∧ s.flag (TILE_FB_STAT_LOST x) = true ∧ s.f (TILE_FB_SRC_SRC x) ≠ 1 ∧ s.tileCause x = false ∧ s.hitNow (TILE_FB_STAT_LOST x) = false) ∧
  (∃ (s : State) (x : Fin 96) (p : Fin 32), s.tileOpen x = true ∧ s.flag (TILE_FB_STAT_LOST x) = true ∧ s.f (TILE_FB_SRC_SRC x) = 1 ∧ s.f (TILE_FB_SRC_PORT x) = p ∧ s.tileCause x = false ∧ s.hitNow (TILE_FB_STAT_LOST x) = false) ∧
  (∃ (s : State) (x : Fin 96), (s.tileCause x = true ∨ s.hitNow (TILE_FB_STAT_LOST x) = true ∨ s.flag (TILE_FB_STAT_LOST x) = false)) ∧
  (∃ (s : State) (x : Fin 96), s.tileOpen x = true ∧ s.frozenNow x = false ∧ s.hitNow (TILE_FB_STAT_FROZEN x) = false) ∧
  (∃ (s : State) (p : Fin 32), (s.mapOpen = false ∨ s.portMode p = 0)) ∧
  (∃ (s : State) (p : Fin 32), s.mapOpen = true ∧ s.portMode p ≠ 0 ∧ s.flag (FBP_STAT_LOST p) = true ∧ s.hitNow (FBP_STAT_LOST p) = false ∧ s.portBad p = false) ∧
  (∃ (s : State) (p : Fin 32), (s.flag (FBP_STAT_LOST p) = false ∨ s.hitNow (FBP_STAT_LOST p) = true ∨ s.portBad p = true)) :=
  ⟨⟨((inImg {} (tst [((FBP_STAT_LOST 0), 0), (SYS_MODE_MODE, mRUN)])).modFbp 0 (fun x => { x with illNow := 16 })), 0, by decide +kernel⟩,
   ⟨(tst []), 0, by decide +kernel⟩,
   ⟨((inImg {} (tst [((FBP_STAT_LOST 0), 0), (SYS_MODE_MODE, mRUN)])).modFbp 0 (fun x => { x with badRun := 16 })), 0, by decide +kernel⟩,
   ⟨(tst []), 0, by decide +kernel⟩,
   ⟨((modTime (fun x => { x with mono := 800000 }) (inImg {} (tst [((FBP_STAT_LOST 0), 0), (SYS_MODE_MODE, mRUN)]))).modFbp 0 (fun x => { x with hallSince := some 0 })), 0, 0, 800000, by decide +kernel⟩,
   ⟨(tst []), 0, 0, by decide +kernel⟩,
   ⟨(tst []), 0, by decide +kernel⟩,
   ⟨(tst []), 0, false, 1000, by decide +kernel⟩,
   ⟨(tst [((FBP_CFG_WB_EN 0), 1), ((FBP_STAT_LOST 0), 0), (FBP_CFG_WB_EN 0, 1)]), 0, 1000, by decide +kernel⟩,
   ⟨((tst [((TILE_FB_STAT_LOST 0), 0), (TILE_FB_SRC_SRC 0, 1)]).modFbp 0 (fun x => { x with illNow := 16 })), 0, 0, 0, by decide +kernel⟩,
   ⟨(tst []), 0, by decide +kernel⟩,
   ⟨(tst [(WHEEL_STAT_MST_STATE, msREAL)]), 0, by decide +kernel⟩,
   ⟨(inImg {} (tst [((TILE_FB_SRC_SRC 0), 2), ((TILE_FB_STAT_LOST 0), 0), (TILE_FB_STAT_AGE 0, 1), (TILE_FB_SRC_SRC 0, 2), (SYS_MODE_MODE, mRUN)])), 0, by decide +kernel⟩,
   ⟨(tst []), 0, by decide +kernel⟩,
   ⟨((inImg {} (tst [((TILE_FB_STAT_LOST 0), 0), ((TILE_FB_STAT_FROZEN 0), 0), (TILE_FB_SRC_SRC 0, 1), (TILE_FB_FRZ_TICKS 0, 1), (SYS_MODE_MODE, mRUN)])).modTile 0 (fun x => { x with frz := [1] })), 0, by decide +kernel⟩,
   ⟨((inImg {} (tst [((TILE_FB_STAT_LOST 0), 0), ((TILE_FB_STAT_FROZEN 0), 0), ((TILE_FB_SRC_SRC 0), 1), (TILE_FB_SRC_SRC 0, 1), (TILE_FB_FRZ_TICKS 0, 1), (SYS_MODE_MODE, mRUN), (WHEEL_STAT_MST_STATE, msREAL)])).modTile 0 (fun x => { x with frz := [1] })), 0, by decide +kernel⟩,
   ⟨(tst []), 0, by decide +kernel⟩,
   ⟨(tst [(TILE_FB_STAT_LOST_CAUSE 0, 6), (TILE_FB_STAT_AGE 0, 1)]), 0, by decide +kernel⟩,
   ⟨(inImg { axes := [0] } (tst [((TILE_FB_STAT_LOST 0), 1), (SYS_MODE_MODE, mRUN), (TILE_FB_STAT_LOST 0, 1)])), 0, by decide +kernel⟩,
   ⟨(inImg { axes := [0] } (tst [((TILE_FB_STAT_LOST 0), 1), ((TILE_FB_SRC_SRC 0), 1), ((TILE_FB_SRC_PORT 0), 0), (SYS_MODE_MODE, mRUN), (TILE_FB_STAT_LOST 0, 1), (TILE_FB_SRC_SRC 0, 1)])), 0, 0, by decide +kernel⟩,
   ⟨(tst []), 0, by decide +kernel⟩,
   ⟨(inImg { axes := [0] } (tst [(SYS_MODE_MODE, mRUN)])), 0, by decide +kernel⟩,
   ⟨(tst []), 0, by decide +kernel⟩,
   ⟨(tst [((FBP_STAT_LOST 0), 1), (SYS_MODE_MODE, mRUN), (FBP_STAT_LOST 0, 1), (FBP_CFG_MODE 0, 1)]), 0, by decide +kernel⟩,
   ⟨(tst []), 0, by decide +kernel⟩⟩

/-- The hypotheses of each clause of Obligations.SegmentChecks can be met. -/
theorem test_SegmentChecks_meets :
  (∃ (s : State) (a : Fin 96), (a.val ∉ s.st.axes ∨ s.doorDrive a = true)) ∧
  (  let plain := fun (s : State) (a : Fin 96) => a.val ∈ s.st.axes ∧ s.doorDrive a = false
    ∃ (s : State) (a : Fin 96) (st : Nat), plain s a ∧ st < 3 ∧ s.mode = mSAFE_HOLD) ∧
  (  let plain := fun (s : State) (a : Fin 96) => a.val ∈ s.st.axes ∧ s.doorDrive a = false
      let live := fun (s : State) (a : Fin 96) => (s.mode = mRUN ∨ s.mode = mCOMMISSION) ∧ s.axisOff a = false
    ∃ (s : State) (a : Fin 96) (st : Nat), plain s a ∧ st < 3 ∧ live s a ∧ s.referenced a = false) ∧
  (  let plain := fun (s : State) (a : Fin 96) => a.val ∈ s.st.axes ∧ s.doorDrive a = false
    ∃ (s : State) (a : Fin 96), plain s a ∧ s.mode < mCOMMISSION) ∧
  (  let plain := fun (s : State) (a : Fin 96) => a.val ∈ s.st.axes ∧ s.doorDrive a = false
    ∃ (s : State) (a : Fin 96) (st : Nat) (vm : Nat) (am : Nat) (dm : Nat) (jm : Nat), plain s a ∧ st < 3 ∧ mCOMMISSION ≤ s.mode ∧ s.limitsOk a vm am dm jm = false) ∧
  (  let plain := fun (s : State) (a : Fin 96) => a.val ∈ s.st.axes ∧ s.doorDrive a = false
      let live := fun (s : State) (a : Fin 96) => (s.mode = mRUN ∨ s.mode = mCOMMISSION) ∧ s.axisOff a = false
    ∃ (s : State) (a : Fin 96) (st : Nat) (tg : Int), plain s a ∧ st < 3 ∧ live s a ∧ s.referenced a = true ∧ (s.planLim a).rotary = false ∧ (tg < s.limLo a * 4294967296 ∨ s.limHi a * 4294967296 < tg)) ∧
  (  let plain := fun (s : State) (a : Fin 96) => a.val ∈ s.st.axes ∧ s.doorDrive a = false
      let live := fun (s : State) (a : Fin 96) => (s.mode = mRUN ∨ s.mode = mCOMMISSION) ∧ s.axisOff a = false
    ∃ (s : State) (a : Fin 96) (g : Segment), plain s a ∧ live s a ∧ (s.tiles.get a).admitted < (s.planLim a).perTick ∧ (s.tiles.get a).held = some g) ∧
  (  let plain := fun (s : State) (a : Fin 96) => a.val ∈ s.st.axes ∧ s.doorDrive a = false
      let live := fun (s : State) (a : Fin 96) => (s.mode = mRUN ∨ s.mode = mCOMMISSION) ∧ s.axisOff a = false
    ∃ (s : State) (a : Fin 96), plain s a ∧ live s a ∧ (s.tiles.get a).admitted < (s.planLim a).perTick ∧ (s.planLim a).slots ≤ (s.tiles.get a).queued.length) :=
  ⟨⟨(tst []), 0, by decide +kernel⟩,
   ⟨(inImg { axes := [0] } (tst [(SYS_MODE_MODE, mSAFE_HOLD)])), (0 : Fin 96), 0, by decide +kernel⟩,
   ⟨(inImg { axes := [0], axisGroup := [4] } (tst [(SYS_MODE_MODE, mRUN)])), 0, 0, by decide +kernel⟩,
   ⟨(inImg { axes := [0] } (tst [])), 0, by decide +kernel⟩,
   ⟨(inImg { axes := [0] } (tst [(SYS_MODE_MODE, mRUN)])), 0, 0, 0, 0, 0, 0, by decide +kernel⟩,
   ⟨(inImg { axes := [0], axisGroup := [4] } (tst [(SYS_MODE_MODE, mRUN), (TILE_FB_STAT_REFERENCED 0, 1)])), 0, 0, 4294967296, by decide +kernel⟩,
   ⟨((inImg { axes := [0], axisGroup := [4] } (tst [(SYS_MODE_MODE, mRUN)])).modTile 0 (fun x => { x with held := some (seg 0 kPOS) })), 0, seg 0 kPOS, by decide +kernel⟩,
   ⟨((inImg { axes := [0], axisGroup := [4] } (tst [(SYS_MODE_MODE, mRUN)])).modTile 0 (fun x => { x with queued := [seg 0 kPOS] })), 0, by decide +kernel⟩⟩

/-- The hypotheses of each clause of Obligations.PlannerRuns can be met. -/
theorem test_PlannerRuns_meets :
  (∃ (s : State) (a : Fin 96) (g : Segment), s.atTick = true ∧ s.segDone a = true ∧ (s.tiles.get a).active = some g ∧ g.kind = kPOS ∧ (s.tiles.get a).atLim = false ∧ (s.tiles.get a).queued = []) ∧
  (∃ (s : State) (a : Fin 96) (g : Segment) (pl : Plan), s.atTick = true ∧ s.segDone a = true ∧ (s.tiles.get a).active = some g ∧ g.kind = kVEL ∧ (s.tiles.get a).atLim = false ∧ (s.tiles.get a).plan = some pl ∧ pl.endP = none ∧ (s.tiles.get a).ps.v ≠ 0 ∧ (s.tiles.get a).queued = []) ∧
  (∃ (s : State) (a : Fin 96), s.atTick = true ∧ s.segDone a = true) ∧
  (∃ (s : State) (a : Fin 96), (s.atTick = false ∨ s.segDone a = false)) ∧
  (∃ (s : State) (a : Fin 96), s.tileOpen a = false) ∧
  (∃ (s : State) (a : Fin 96), s.tileOpen a = true) ∧
  (∃ (s : State) (a : Fin 96), s.tileOpen a = true) ∧
  (∃ (s : State) (a : Fin 96), s.tileOpen a = true) ∧
  (∃ (s : State) (a : Fin 96) (w : Fin 5) (c : Nat) (r : Nat), s.tileOpen a = true ∧ ((w = 2 ∧ c = (s.ceilings a).2.1 ∧ r = TILE_PLN_AMAX a) ∨ (w = 3 ∧ c = (s.ceilings a).2.2.1 ∧ r = TILE_PLN_DMAX a) ∨ (w = 4 ∧ c = (s.ceilings a).2.2.2 ∧ r = TILE_PLN_JMAX a))) ∧
  (∃ (s : State) (a : Fin 96), s.tileOpen a = true) ∧
  (∃ (s : State) (a : Fin 96) (v : Word), s.tileOpen a = true ∧ (s.ceilings a).1 < (s.lowWord (TILE_PLN_VMAX a 0)).toNat + 4294967296 * v.toNat) ∧
  (∃ (s : State) (a : Fin 96) (v : Word), s.tileOpen a = true ∧ (s.lowWord (TILE_PLN_VMAX a 0)).toNat + 4294967296 * v.toNat ≤ (s.ceilings a).1) ∧
  (∃ (s : State) (a : Fin 96) (pl : Plan), s.atTick = true ∧ (s.tiles.get a).searching = true ∧ (s.tiles.get a).plan = some pl ∧ pl.reached = true ∧ s.flag (FBP_STAT_REF_ARMED (s.f (TILE_FB_SRC_PORT a))) = true ∧ (s.tiles.get a).queued = []) ∧
  (∃ (s : State) (a : Fin 96), (s.atTick = false ∨ (s.tiles.get a).searching = false ∨ (∀ pl, (s.tiles.get a).plan = some pl → pl.reached = false) ∨ s.flag (FBP_STAT_REF_ARMED (s.f (TILE_FB_SRC_PORT a))) = false)) ∧
  (∃ (s : State) (a : Fin 96) (b : FlwBlend), s.atTick = true ∧ (s.tiles.get a).flw.blend = some b ∧ s.f (TILE_FLW_CFG_BLEND a) ≤ b.k) ∧
  (∃ (s : State) (a : Fin 96), (s.atTick = false ∨ (∀ b, (s.tiles.get a).flw.blend = some b → b.k < s.f (TILE_FLW_CFG_BLEND a)))) ∧
  (∃ (s : State) (a : Fin 96) (o : Bool) (r : Nat → Nat), s.tileOpen a = true ∧ r = (if o then TILE_FLW_OFS a else TILE_FLW_RATIO a)) ∧
  (∃ (s : State) (a : Fin 96), s.atTick = true ∧ (s.pmode a = pmSYNC ∨ s.pmode a = pmLOCKED) ∧ s.leadLost a = true) ∧
  (∃ (s : State) (a : Fin 96), (s.atTick = false ∨ (s.pmode a ≠ pmSYNC ∧ s.pmode a ≠ pmLOCKED) ∨ s.leadLost a = false)) :=
  ⟨⟨((inImg {} (tst [(SYS_MODE_MODE, mRUN)])).modTile 0 (fun x => { x with active := some (seg 0 kPOS), plan := some ⟨{}, [], none, 0, some 0, 0⟩ })), 0, seg 0 kPOS, by decide +kernel⟩,
   ⟨((inImg {} (tst [(SYS_MODE_MODE, mRUN)])).modTile 0 (fun x => { x with active := some (seg 0 kVEL), ps := { x.ps with v := 1 }, plan := some ⟨{}, [], none, 0, some 0, 0⟩ })), 0, seg 0 kVEL, (⟨{}, [], none, 0, some 0, 0⟩ : Plan), by decide +kernel⟩,
   ⟨((inImg {} (tst [(SYS_MODE_MODE, mRUN)])).modTile 0 (fun x => { x with active := some (seg 0 kPOS), plan := some ⟨{}, [], none, 0, some 0, 0⟩ })), 0, by decide +kernel⟩,
   ⟨(tst []), 0, by decide +kernel⟩,
   ⟨(tst []), 0, by decide +kernel⟩,
   ⟨(inImg { axes := [0] } (tst [(SYS_MODE_MODE, mRUN)])), 0, by decide +kernel⟩,
   ⟨(inImg { axes := [0] } (tst [(SYS_MODE_MODE, mRUN)])), 0, by decide +kernel⟩,
   ⟨(inImg { axes := [0] } (tst [(SYS_MODE_MODE, mRUN)])), 0, by decide +kernel⟩,
   ⟨(inImg { axes := [0], planLims := [{ axis := 0, amax := 1 }] } (tst [(SYS_MODE_MODE, mRUN)])), 0, 2, 1, TILE_PLN_AMAX 0, by decide +kernel⟩,
   ⟨(inImg { axes := [0] } (tst [(SYS_MODE_MODE, mRUN)])), 0, by decide +kernel⟩,
   ⟨(inImg { axes := [0], planLims := [{ axis := 0, amax := 1 }] } (tst [(SYS_MODE_MODE, mRUN)])), 0, 1, by decide +kernel⟩,
   ⟨(inImg { axes := [0] } (tst [(SYS_MODE_MODE, mRUN)])), 0, 0, by decide +kernel⟩,
   ⟨((inImg {} (tst [(FBP_STAT_REF_ARMED 0, 1), (SYS_MODE_MODE, mRUN)])).modTile 0 (fun x => { x with searching := true, plan := some ⟨{}, [], none, 0, some 0, 1⟩ })), 0, (⟨{}, [], none, 0, some 0, 1⟩ : Plan), by decide +kernel⟩,
   ⟨(tst []), 0, by decide +kernel⟩,
   ⟨((inImg {} (tst [(SYS_MODE_MODE, mRUN)])).modTile 0 (fun x => { x with flw := { x.flw with blend := some ⟨0, 0, 0⟩ } })), 0, (⟨0, 0, 0⟩ : FlwBlend), by decide +kernel⟩,
   ⟨(tst []), 0, by decide +kernel⟩,
   ⟨(inImg { axes := [0] } (tst [(SYS_MODE_MODE, mRUN)])), 0, false, TILE_FLW_RATIO 0, by decide +kernel, rfl⟩,
   ⟨(inImg {} (tst [(TILE_PLN_STAT_MODE 0, pmLOCKED), (TILE_FLW_CFG_SRC 0, 1), (FBP_STAT_LOST 0, 1), (SYS_MODE_MODE, mRUN)])), 0, by decide +kernel⟩,
   ⟨(tst []), 0, by decide +kernel⟩⟩

/-- The hypotheses of each clause of Obligations.StepGeneratorRuns can be met. -/
theorem test_StepGeneratorRuns_meets :
  (∃ (s : State) (a : Fin 96), s.stpOut a = 0) ∧
  (∃ (s : State) (u : State) (a : Fin 96) (m : Nat) (g : Int) (d : Int), u = s.runTo m ∧ u.stpOut a ≠ 0 ∧ (u.tiles.get a).rawTo = some g ∧ d = State.countDiff g (u.stpX a)) ∧
  (∃ (s : State) (u : State) (v : State) (a : Fin 96) (m : Nat) (way : Int), u = s.runTo m ∧ u.stpOut a ≠ 0 ∧ (u.tiles.get a).rawTo = none ∧ v = u.settleLevel a (u.time.mono / 2 - 1) ∧ way = v.fineAhead a u.time.mono) ∧
  (∃ (s : State) (a : Fin 96), s.tileOpen a = false) ∧
  (∃ (s : State) (a : Fin 96) (v : Word) (code : Nat), s.tileOpen a = true ∧ (code = (if s.stpOut a = 0 ∨ (s.mode ≠ mRUN ∧ s.mode ≠ mCOMMISSION) ∨ s.axisOff a = true ∨ (s.tiles.get a).rawTo.isSome = true then 1 else if s.atRest a = false ∨ (s.tiles.get a).stillTicks = 0 ∨ s.stpX a ≠ (s.tiles.get a).tickX ∨ (s.atTick = true ∧ ∃ g ∈ s.segsDue a, g.kind ≠ kLIMITS) then 2 else if (s.f (TILE_STP_RAWCFG_HIGH a) : Int) * 256 < |State.countDiff v.toInt (s.stpX a)| then 3 else 0))) ∧
  (∃ (s : State) (a : Fin 96), (s.tiles.get a).rawTo = some (s.stpX a)) ∧
  (∃ (s : State) (a : Fin 96), (s.tiles.get a).rawTo ≠ some (s.stpX a)) ∧
  (∃ (s : State) (a : Fin 96), s.atTick = true ∧ s.stpOut a = 1 ∧ s.flag (TILE_STP_CFG_SRC a) = false ∧ 16 * s.f (TILE_STP_HOLD_LOW a) ≤ (s.tiles.get a).stillTicks ∧ s.flag (TILE_STP_STAT_HOLDING a) = false) ∧
  (∃ (s : State) (a : Fin 96), (s.atTick = false ∨ s.stpOut a ≠ 1 ∨ s.flag (TILE_STP_CFG_SRC a) = true ∨ (s.tiles.get a).stillTicks < 16 * s.f (TILE_STP_HOLD_LOW a) ∨ s.flag (TILE_STP_STAT_HOLDING a) = true)) ∧
  (∃ (s : State) (a : Fin 96) (p : Fin 32) (c : Coil) (d : Coil) (mean : Int), s.atTick = true ∧ s.portOf a = some p ∧ 1600 ≤ (s.tiles.get a).holdTicks ∧ s.ihold a ≤ 2 * s.amp a ∧ c = s.coil p false ∧ d = s.coil p true ∧ (c.rN ≠ 0 ∨ d.rN ≠ 0) ∧ ((c.rN = 0 → mean = roundHalfEven d.rSum d.rN)) ∧ ((d.rN = 0 → mean = roundHalfEven c.rSum c.rN)) ∧ ((c.rN ≠ 0 → d.rN ≠ 0 → mean = roundHalfEven (c.rSum * d.rN + d.rSum * c.rN) (2 * c.rN * d.rN)))) ∧
  (∃ (s : State) (a : Fin 96), (s.atTick = false ∨ (s.tiles.get a).holdTicks < 1600 ∨ 2 * s.amp a < s.ihold a ∨ (∀ p, s.portOf a = some p → (s.coil p false).rN = 0 ∧ (s.coil p true).rN = 0))) ∧
  (∃ (s : State) (a : Fin 96), s.atTick = true ∧ 8 ≤ (s.tiles.get a).stallTicks ∧ s.flag (TILE_STP_STAT_STALL_RISK a) = false) ∧
  (∃ (s : State) (a : Fin 96), (s.atTick = false ∨ (s.tiles.get a).stallTicks < 8 ∨ s.flag (TILE_STP_STAT_STALL_RISK a) = true)) ∧
  (∃ (s : State) (a : Fin 96), s.tileOpen a = false) ∧
  (∃ (s : State) (a : Fin 96), s.tileOpen a = true) :=
  ⟨⟨(tst []), 0, by decide +kernel⟩,
   ⟨((tst [(TILE_STP_CFG_OUT 0, 1)]).modTile 0 (fun x => { x with rawTo := some 0 })), (((tst [(TILE_STP_CFG_OUT 0, 1)]).modTile 0 (fun x => { x with rawTo := some 0 }))).runTo 0, 0, 0, 0, 0, rfl, by decide +kernel, by decide +kernel, by decide +kernel⟩,
   ⟨(tst [(TILE_STP_CFG_OUT 0, 1)]), ((tst [(TILE_STP_CFG_OUT 0, 1)])).runTo 0, (((tst [(TILE_STP_CFG_OUT 0, 1)])).runTo 0).settleLevel 0 ((((tst [(TILE_STP_CFG_OUT 0, 1)])).runTo 0).time.mono / 2 - 1), 0, 0, 0, rfl, by decide +kernel, by decide +kernel, rfl, by decide +kernel⟩,
   ⟨(tst []), 0, by decide +kernel⟩,
   ⟨(inImg { axes := [0], axisGroup := [4] } (tst [(TILE_STP_CFG_OUT 0, 1), (SYS_MODE_MODE, mRUN)])), 0, 0, 2, by decide +kernel⟩,
   ⟨((tst []).modTile 0 (fun x => { x with rawTo := some 0 })), 0, by decide +kernel⟩,
   ⟨(tst []), 0, by decide +kernel⟩,
   ⟨(inImg {} (tst [((TILE_STP_CFG_SRC 0), 0), ((TILE_STP_STAT_HOLDING 0), 0), (TILE_STP_CFG_OUT 0, 1), (SYS_MODE_MODE, mRUN)])), 0, by decide +kernel⟩,
   ⟨(tst []), 0, by decide +kernel⟩,
   ⟨(inImg {} (modPp 0 (fun x => { x with coilA := { x.coilA with rN := 1 } }) ((tst [(PP_CFG_MODE 0, 1), (PP_CFG_TILE 0, 0), (SYS_MODE_MODE, mRUN)]).modTile 0 (fun x => { x with holdTicks := 1600 })))), 0, 0, ({ rN := 1 } : Coil), ({} : Coil), 0, by decide +kernel⟩,
   ⟨(tst []), 0, by decide +kernel⟩,
   ⟨(inImg {} ((tst [((TILE_STP_STAT_STALL_RISK 0), 0), (SYS_MODE_MODE, mRUN)]).modTile 0 (fun x => { x with stallTicks := 8 }))), 0, by decide +kernel⟩,
   ⟨(tst [(TILE_STP_HOLD_LOW 0, 1)]), 0, by decide +kernel⟩,
   ⟨((tst []).modTile 0 (fun x => { x with stallTicks := 8 })), 0, by decide +kernel⟩,
   ⟨(inImg { axes := [0] } (tst [(SYS_MODE_MODE, mRUN)])), 0, by decide +kernel⟩⟩

/-- The hypotheses of each clause of Obligations.PowerPortRuns can be met. -/
theorem test_PowerPortRuns_meets :
  (∃ (s : State) (p : Fin 32), (s.mapOpen = false ∨ s.flag (PP_STAT_GATES p) = true ∨ s.ppMode p = 0)) ∧
  (∃ (s : State) (p : Fin 32), s.mapOpen = true ∧ s.flag (PP_STAT_GATES p) = false ∧ s.ppMode p ≠ 0) ∧
  (∃ (s : State) (u : State) (p : Fin 32) (m : Nat) (e : Nat), u = s.runTo m ∧ (s.pps.get p).calEnd = some e ∧ e ≤ u.time.mono) ∧
  (∃ (s : State) (p : Fin 32) (m : Nat), ((∀ e, (s.pps.get p).calEnd = some e → (s.runTo m).time.mono < e))) ∧
  (∃ (s : State) (u : State) (p : Fin 32) (n : Nat) (m : Nat), u = s.runTo m ∧ (n < 32 ∨ u.ppMode p = 0)) ∧
  (∃ (s : State) (u : State) (p : Fin 32) (low : Bool) (n : Nat) (m : Nat), u = s.runTo m ∧ 32 ≤ n ∧ u.ppMode p ≠ 0 ∧ (low = false ∨ u.flag (PP_STAT_BFLT p) = true)) ∧
  (∃ (s : State) (u : State) (p : Fin 32) (n : Nat) (m : Nat), u = s.runTo m ∧ 32 ≤ n ∧ u.ppMode p ≠ 0 ∧ u.flag (PP_STAT_BFLT p) = false) ∧
  (∃ (s : State) (p : Fin 32) (ch : Fin 3) (v : Int) (w : Int), w = s.fastValue p ch v ∧ (ch.val < 2 ∨ (s.ppMode p = 2 ∧ s.flag (PP_CFG_SD2_W p) = true)) ∧ (s.f (PP_LIM_OC_LIM p) : Int) < |w| ∧ s.flag (PP_STAT_OC p) = false ∧ s.ppMode p ≠ 0) ∧
  (∃ (s : State) (p : Fin 32) (ch : Fin 3) (v : Int) (w : Int), w = s.fastValue p ch v ∧ ((2 ≤ ch.val ∧ (s.ppMode p ≠ 2 ∨ s.flag (PP_CFG_SD2_W p) = false)) ∨ |w| ≤ (s.f (PP_LIM_OC_LIM p) : Int) ∨ s.flag (PP_STAT_OC p) = true ∨ s.ppMode p = 0)) ∧
  (∃ (s : State) (p : Fin 32), s.busHigh p = true ∧ s.flag (PP_STAT_BUS_OV p) = false ∧ s.ppMode p ≠ 0) ∧
  (∃ (s : State) (p : Fin 32), (s.busHigh p = false ∨ s.flag (PP_STAT_BUS_OV p) = true ∨ s.ppMode p = 0)) ∧
  (∃ (s : State) (p : Fin 32) (n : Nat), 64 ≤ n ∧ s.ppMode p ≠ 0 ∧ s.flag (PP_STAT_SD_LOST p) = false) ∧
  (∃ (s : State) (p : Fin 32) (n : Nat), (n < 64 ∨ s.ppMode p = 0 ∨ s.flag (PP_STAT_SD_LOST p) = true)) ∧
  (∃ (s : State) (p : Fin 32), s.busLow p = true ∧ s.flag (PP_STAT_BUS_UV p) = false ∧ s.ppMode p ≠ 0) ∧
  (∃ (s : State) (p : Fin 32), (s.busLow p = false ∨ s.flag (PP_STAT_BUS_UV p) = true ∨ s.ppMode p = 0)) ∧
  (∃ (s : State) (p : Fin 32), (s.mapOpen = false ∨ s.ppMode p = 0)) ∧
  (∃ (s : State) (p : Fin 32), s.mapOpen = true ∧ s.ppMode p ≠ 0) ∧
  (∃ (s : State) (u : State) (p : Fin 32) (ch : Fin 3) (m : Nat), u = s.runTo m ∧ (u.ppMode p ≠ 1 ∨ 2 ≤ ch.val)) ∧
  (∃ (s : State) (u : State) (w : State) (p : Fin 32) (ch : Fin 3) (v : Int) (m : Nat), u = s.runTo m ∧ u.ppMode p = 1 ∧ ch.val < 2 ∧ exec (.ppOvercurrent p ch v) u = .next w) ∧
  (∃ (v : State) (p : Fin 32) (b : Bool) (i : Int) (cur : Int) (lo : Int) (hi : Int) (c : Coil), c = v.coil p b ∧ cur = c.star.sign * i ∧ hi = 2 * (|c.star| + v.coilOfs p b) + v.band p ∧ lo = 2 * (|c.star| + v.coilOfs p b) - v.band p) :=
  ⟨⟨(tst []), 0, by decide +kernel⟩,
   ⟨(tst [((PP_STAT_GATES 0), 0), (PP_CFG_MODE 0, 1)]), 0, by decide +kernel⟩,
   ⟨(modPp 0 (fun x => { x with calEnd := some 0 }) (tst [])), ((modPp 0 (fun x => { x with calEnd := some 0 }) (tst []))).runTo 0, 0, 0, 0, rfl, by decide +kernel, by decide +kernel⟩,
   ⟨(tst []), 0, 0, by decide +kernel⟩,
   ⟨(tst []), ((tst [])).runTo 0, 0, 0, 0, rfl, by decide +kernel⟩,
   ⟨(tst [(PP_CFG_MODE 0, 1)]), ((tst [(PP_CFG_MODE 0, 1)])).runTo 0, 0, false, 32, 0, rfl, by decide +kernel, by decide +kernel, by decide +kernel⟩,
   ⟨(tst [((PP_STAT_BFLT 0), 0), (PP_CFG_MODE 0, 1)]), ((tst [((PP_STAT_BFLT 0), 0), (PP_CFG_MODE 0, 1)])).runTo 0, 0, 32, 0, rfl, by decide +kernel, by decide +kernel, by decide +kernel⟩,
   ⟨(tst [((PP_STAT_OC 0), 0), (PP_CFG_MODE 0, 1)]), 0, 0, 100000000, 100000000, by decide +kernel⟩,
   ⟨(tst []), 0, 0, 0, 0, by decide +kernel⟩,
   ⟨(tst [((PP_STAT_BUS_OV 0), 0), (PP_LIM_OV 0, 1), (PP_SENSE2_LOW 0, 129), (PP_CFG_MODE 0, 1)]), 0, by decide +kernel⟩,
   ⟨(tst []), 0, by decide +kernel⟩,
   ⟨(tst [((PP_STAT_SD_LOST 0), 0), (PP_CFG_MODE 0, 1)]), 0, 64, by decide +kernel⟩,
   ⟨(tst []), 0, 0, by decide +kernel⟩,
   ⟨(tst [((PP_STAT_BUS_UV 0), 0), (PP_LIM_UV 0, 1), (PP_CFG_MODE 0, 1)]), 0, by decide +kernel⟩,
   ⟨(tst []), 0, by decide +kernel⟩,
   ⟨(tst []), 0, by decide +kernel⟩,
   ⟨(tst [(PP_CFG_MODE 0, 1), (SYS_MODE_MODE, mRUN)]), 0, by decide +kernel⟩,
   ⟨(tst []), ((tst [])).runTo 0, 0, 0, 0, rfl, by decide +kernel⟩,
   ⟨(tst [(PP_CFG_MODE 0, 1)]), ((tst [(PP_CFG_MODE 0, 1)])).runTo 0, (tst [(PP_CFG_MODE 0, 1)]), 0, 0, 0, 0, rfl, by decide +kernel, by decide +kernel, rfl⟩,
   ⟨(tst []), 0, false, 0, 0, 0, 0, ({} : Coil), by decide +kernel⟩⟩

/-- The hypotheses of each clause of Obligations.EngineArithmetic can be met. -/
theorem test_EngineArithmetic_meets :
  (∃ (s : State) (c : Fin 12) (a : EAddr) (b : EAddr) (x : Nat) (y : Nat), s.eaddr c a = some x ∧ s.eaddr c b = some y ∧ s.inSection c = true) ∧
  (∃ (s : State) (c : Fin 12) (p : EHalf) (q : EHalf) (x : Nat) (y : Nat), s.eaddr c p.addr = some x ∧ s.eaddr c q.addr = some y) ∧
  (∃ (s : State) (c : Fin 12) (q : EHalf) (x : Nat), s.eaddr c q.addr = some x) ∧
  (∃ (s : State) (c : Fin 12) (a : EAddr) (w : Bool) (x : Nat), s.eaddr c a = some x ∧ ((w = true → x + 1 < 8192))) ∧
  (∃ (s : State) (c : Fin 12) (a : EHalf) (x : Nat), s.eaddr c a.addr = some x) :=
  ⟨⟨(tst [(CL_ENG_STAT_IN_TICK 0, 1)]), 0, (⟨none, 8191, 0⟩ : EAddr), (⟨none, 0, 0⟩ : EAddr), 8191, 0, by decide +kernel⟩,
   ⟨(tst []), 0, (⟨⟨none, 0, 0⟩, false⟩ : EHalf), (⟨⟨none, 0, 0⟩, false⟩ : EHalf), 0, 0, by decide +kernel⟩,
   ⟨(tst []), 0, (⟨⟨none, 0, 0⟩, false⟩ : EHalf), 0, by decide +kernel⟩,
   ⟨(tst []), 0, (⟨none, 0, 0⟩ : EAddr), false, 0, by decide +kernel⟩,
   ⟨(tst []), 0, (⟨⟨none, 0, 0⟩, false⟩ : EHalf), 0, by decide +kernel⟩⟩

/-- The hypotheses of each clause of Obligations.EngineStores can be met. -/
theorem test_EngineStores_meets :
  (∃ (s : State) (c : Fin 12) (a : EHalf) (x : Nat), s.eaddr c a.addr = some x) ∧
  (∃ (s : State) (c : Fin 12) (a : EAddr) (x : Nat), s.eaddr c a = some x) ∧
  (∃ (s : State) (c : Fin 12) (a : EAddr) (x : Nat), s.eaddr c a = some x) ∧
  (∃ (s : State) (c : Fin 12) (a : EAddr) (x : Nat), s.eaddr c a = some x) ∧
  (∃ (s : State) (c : Fin 12) (a : EAddr) (b : EAddr) (x : Nat) (y : Nat), s.eaddr c a = some x ∧ s.eaddr c b = some y) :=
  ⟨⟨(tst []), 0, (⟨⟨none, 0, 0⟩, false⟩ : EHalf), 0, by decide +kernel⟩,
   ⟨(tst []), 0, (⟨none, 0, 0⟩ : EAddr), 0, by decide +kernel⟩,
   ⟨(tst []), 0, (⟨none, 0, 0⟩ : EAddr), 0, by decide +kernel⟩,
   ⟨(tst []), 0, (⟨none, 0, 0⟩ : EAddr), 0, by decide +kernel⟩,
   ⟨(tst []), 0, (⟨none, 0, 0⟩ : EAddr), (⟨none, 0, 0⟩ : EAddr), 0, 0, by decide +kernel⟩⟩

/-- The hypotheses of each clause of Obligations.EngineSearch can be met. -/
theorem test_EngineSearch_meets :
  (∃ (s : State) (c : Fin 12) (a : EAddr) (n : Nat) (x : Nat), s.eaddr c a = some x ∧ x + (n - 1) / 2 < 8192) ∧
  (∃ (s : State) (c : Fin 12) (a : EHalf) (b : EAddr) (x : Nat) (y : Nat), s.eaddr c a.addr = some x ∧ s.eaddr c b = some y ∧ s.inSection c = true) :=
  ⟨⟨(tst []), 0, (⟨none, 0, 0⟩ : EAddr), 0, 0, by decide +kernel⟩,
   ⟨(tst [(CL_ENG_STAT_IN_TICK 0, 1)]), 0, (⟨⟨none, 0, 0⟩, false⟩ : EHalf), (⟨none, 0, 0⟩ : EAddr), 0, 0, by decide +kernel⟩⟩

/-- The hypotheses of each clause of Obligations.EngineFlow can be met. -/
theorem test_EngineFlow_meets :
  (∃ (s : State) (c : Fin 12), s.inSection c = true ∧ (s.cl c).loops = []) ∧
  (∃ (s : State) (c : Fin 12) (first : Nat) (n : Nat) (ls : List (Nat × Nat × Nat)), s.inSection c = true ∧ (s.cl c).loops = (first, s.f (CL_ENG_PC_PC c), n) :: ls ∧ 1 < n) ∧
  (∃ (s : State) (c : Fin 12) (first : Nat) (ls : List (Nat × Nat × Nat)), s.inSection c = true ∧ (s.cl c).loops = (first, s.f (CL_ENG_PC_PC c), 1) :: ls) ∧
  (∃ (s : State) (c : Fin 12), s.inSection c = true) ∧
  (∃ (s : State) (c : Fin 12), s.inSection c = true) ∧
  (∃ (s : State) (c : Fin 12), s.inSection c = true) ∧
  (∃ (s : State) (c : Fin 12), s.inSection c = true) ∧
  (∃ (s : State) (c : Fin 12), s.inSection c = true) ∧
  (∃ (s : State) (c : Fin 12) (a : EAddr) (b : EAddr) (p : EHalf) (q : EHalf) (x : Nat) (y : Nat) (xp : Nat) (yq : Nat), s.inSection c = true ∧ s.eaddr c a = some x ∧ s.eaddr c b = some y ∧ s.eaddr c p.addr = some xp ∧ s.eaddr c q.addr = some yq) ∧
  (∃ (s : State) (c : Fin 12) (a : EAddr) (x : Nat), s.inSection c = true ∧ s.eaddr c a = some x) ∧
  (∃ (s : State) (c : Fin 12), s.inSection c = false) :=
  ⟨⟨(tst [(CL_ENG_STAT_IN_TICK 0, 1)]), 0, by decide +kernel⟩,
   ⟨((tst [(CL_ENG_STAT_IN_TICK 0, 1)]).modCl 0 (fun x => { x with loops := [(0, 0, 2)] })), 0, 0, 2, [], by decide +kernel⟩,
   ⟨((tst [(CL_ENG_STAT_IN_TICK 0, 1)]).modCl 0 (fun x => { x with loops := [(0, 0, 1)] })), 0, 0, [], by decide +kernel⟩,
   ⟨(tst [(CL_ENG_STAT_IN_TICK 0, 1)]), 0, by decide +kernel⟩,
   ⟨(tst [(CL_ENG_STAT_IN_TICK 0, 1)]), 0, by decide +kernel⟩,
   ⟨(tst [(CL_ENG_STAT_IN_CUR 0, 1)]), 0, by decide +kernel⟩,
   ⟨(tst [(CL_ENG_STAT_IN_TICK 0, 1)]), 0, by decide +kernel⟩,
   ⟨(tst [(CL_ENG_STAT_IN_TICK 0, 1)]), 0, by decide +kernel⟩,
   ⟨(tst [(CL_ENG_STAT_IN_TICK 0, 1)]), 0, (⟨none, 0, 0⟩ : EAddr), (⟨none, 0, 0⟩ : EAddr), (⟨⟨none, 0, 0⟩, false⟩ : EHalf), (⟨⟨none, 0, 0⟩, false⟩ : EHalf), 0, 0, 0, 0, by decide +kernel⟩,
   ⟨(tst [(CL_ENG_STAT_IN_TICK 0, 1)]), 0, (⟨none, 0, 0⟩ : EAddr), 0, by decide +kernel⟩,
   ⟨(tst []), 0, by decide +kernel⟩⟩

/-- The hypotheses of each clause of Obligations.EngineSections can be met. -/
theorem test_EngineSections_meets :
  (∃ (s : State) (c : Fin 12) (a : Fin 96) (q : Int), s.inSection c = true ∧ a.val = 8 * c.val + s.curTile c ∧ s.curTile c ∉ (s.cl c).withheld ∧ q = (if s.classOf a = clsOFF then 0 else (s.outWord c (s.curTile c) 0x14).half false)) ∧
  (∃ (s : State) (c : Fin 12) (a : Fin 96) (p : Fin 32), s.inSection c = true ∧ a.val = 8 * c.val + s.curTile c ∧ s.curTile c ∉ (s.cl c).withheld ∧ s.classOf a ≠ clsOFF ∧ s.portOf a = some p) ∧
  (∃ (s : State) (c : Fin 12) (a : Fin 96), s.inSection c = true ∧ a.val = 8 * c.val + s.curTile c ∧ s.curTile c ∉ (s.cl c).withheld ∧ (s.classOf a = clsOFF ∨ s.portOf a = none)) ∧
  (∃ (s : State) (c : Fin 12) (a : Fin 96) (b : Nat), s.inSection c = true ∧ a.val = 8 * c.val + s.curTile c ∧ s.curTile c ∉ (s.cl c).withheld ∧ b = 0x40 * s.curTile c + 0x18) ∧
  (∃ (s : State) (c : Fin 12) (a : Fin 96) (g : RSeg) (r : Fin 2) (n : Fin 16) (q : Int), s.inSection c = true ∧ a.val = 8 * c.val + s.curTile c ∧ s.curTile c ∉ (s.cl c).withheld ∧ s.f (TILE_FB_SRC_RING a) = r ∧ n.val = r.val ∧ q = (if s.classOf a = clsOFF then 0 else (s.outWord c (s.curTile c) 0x14).half false) ∧ (s.ringDef r).segs.find? (fun (x : RSeg) => x.kind == 1 && x.recs.any (fun (y : Nat × Nat) => y.1 == a.val)) = some g) ∧
  (∃ (s : State) (c : Fin 12) (a : Fin 96), s.inSection c = true ∧ a.val = 8 * c.val + s.curTile c ∧ ((∀ (r : Fin 2), s.f (TILE_FB_SRC_RING a) = r → (s.ringDef r).segs.find? (fun (x : RSeg) => x.kind == 1 && x.recs.any (fun (y : Nat × Nat) => y.1 == a.val)) = none))) ∧
  (∃ (s : State) (c : Fin 12), s.inSection c = true ∧ s.curTile c ∈ (s.cl c).withheld) ∧
  (∃ (s : State) (u : State) (c : Fin 12) (m : Nat), u = s.runTo m ∧ u.inSection c = false) ∧
  (∃ (s : State) (u : State) (c : Fin 12) (m : Nat), u = s.runTo m ∧ u.inSection c = true) ∧
  (∃ (s : State) (u : State) (c : Fin 12) (m : Nat), u = s.runTo m ∧ u.inSection c = true ∧ u.flag (CL_ENG_STAT_IN_CUR c) = false ∧ u.tickOver c = false) ∧
  (∃ (s : State) (u : State) (c : Fin 12) (m : Nat), u = s.runTo m ∧ u.inSection c = true ∧ u.flag (CL_ENG_STAT_IN_CUR c) = true ∧ u.curOver c = false) ∧
  (∃ (v : State) (c : Fin 12), v.curOver c = false ∧ v.tickOver c = false) ∧
  (∃ (v : State) (c : Fin 12), v.curOver c = true ∧ v.tickOver c = false) ∧
  (∃ (v : State) (c : Fin 12), v.curOver c = false ∧ v.tickOver c = true ∧ (v.flag (CL_ENG_STAT_IN_CUR c) = false ∨ (v.cl c).paused.isSome = true)) ∧
  (∃ (s : State) (c : Fin 12) (m : Nat), (s.runTo m).startsTick c = false) ∧
  (∃ (s : State) (u : State) (v : State) (c : Fin 12) (m : Nat) (bad : List (Nat × Nat)), u = s.runTo m ∧ u.startsTick c = true ∧ v = (u.modCl c (fun x => { x with withheld := [], loops := [], paused := none })).loopTiles c bad (u.clusterAxes c)) ∧
  (∃ (v : State) (c : Fin 12) (a : Fin 96) (cls : Nat) (var : Nat), cls = v.pickClass c a ∧ var = v.variantOf a cls) ∧
  (∃ (v : State) (p : State) (c : Fin 12) (k : Nat) (x : LoopVar) (uOld : Int) (uP : Int) (i : Int) (gap : Int), p = (v.modCl c (fun y => { y with ap := y.ap.set 7 (0x40 * k), loops := [] })).presetRun c (.preset x.out x.integ) x.code 12500 0 ∧ uP = (p.dmem c x.out).half false ∧ i = (if x.integ.isSome then max (-(x.ilim : Int)) (min (uOld - uP) x.ilim) else 0) ∧ gap = uOld - (uP + i)) ∧
  (∃ (s : State) (a : Fin 96), s.atTick = true ∧ s.oscHolds a = true ∧ s.flag (TILE_LP_STAT_OSC a) = false) ∧
  (∃ (s : State) (a : Fin 96), (s.atTick = false ∨ s.oscHolds a = false ∨ s.flag (TILE_LP_STAT_OSC a) = true)) ∧
  (∃ (s : State) (a : Fin 96), s.tileOpen a = false) ∧
  (∃ (s : State) (a : Fin 96), s.tileOpen a = true) :=
  ⟨⟨(tst [(CL_ENG_STAT_IN_TICK 0, 1), (TILE_LP_STAT_CLASS 0, 2)]), 0, 0, 0, by decide +kernel⟩,
   ⟨(tst [(CL_ENG_STAT_IN_TICK 0, 1), (TILE_LP_STAT_CLASS 0, 2), (PP_CFG_MODE 0, 1)]), 0, 0, 0, by decide +kernel⟩,
   ⟨(tst [(CL_ENG_STAT_IN_TICK 0, 1), (TILE_LP_STAT_CLASS 0, 2)]), 0, 0, by decide +kernel⟩,
   ⟨(tst [(CL_ENG_STAT_IN_TICK 0, 1)]), 0, 0, 24, by decide +kernel⟩,
   ⟨(inImg { rings := [{ ring := 0, area := 8, segs := [⟨0, 0, 8, 1, 65535, [(0, 0)], none⟩], nodes := [] }] } (tst [((TILE_FB_SRC_RING 0), 0), (CL_ENG_STAT_IN_TICK 0, 1)])), 0, 0, (⟨0, 0, 8, 1, 65535, [(0, 0)], none⟩ : RSeg), 0, 0, 0, by decide +kernel⟩,
   ⟨(tst [(CL_ENG_STAT_IN_TICK 0, 1)]), 0, 0, by decide +kernel⟩,
   ⟨((tst [(CL_ENG_STAT_IN_TICK 0, 1)]).modCl 0 (fun x => { x with withheld := [0] })), 0, by decide +kernel⟩,
   ⟨(tst []), ((tst [])).runTo 0, 0, 0, rfl, by decide +kernel⟩,
   ⟨(tst [(CL_ENG_STAT_IN_TICK 0, 1)]), ((tst [(CL_ENG_STAT_IN_TICK 0, 1)])).runTo 0, 0, 0, rfl, by decide +kernel⟩,
   ⟨(tst [((CL_ENG_STAT_IN_CUR 0), 0), (CL_ENG_STAT_IN_TICK 0, 1)]), ((tst [((CL_ENG_STAT_IN_CUR 0), 0), (CL_ENG_STAT_IN_TICK 0, 1)])).runTo 0, 0, 0, rfl, by decide +kernel, by decide +kernel, by decide +kernel⟩,
   ⟨(tst [((CL_ENG_STAT_IN_CUR 0), 1)]), ((tst [((CL_ENG_STAT_IN_CUR 0), 1)])).runTo 0, 0, 0, rfl, by decide +kernel, by decide +kernel, by decide +kernel⟩,
   ⟨(tst []), 0, by decide +kernel⟩,
   ⟨(atNs 7000 (tst [(CL_ENG_STAT_IN_CUR 0, 1)])), 0, by decide +kernel⟩,
   ⟨(atNs 32000 (tst [(CL_ENG_STAT_IN_TICK 0, 1)])), 0, by decide +kernel⟩,
   ⟨(tst []), 0, 0, by decide +kernel⟩,
   ⟨(inImg {} (atNs 3000 (tst [(CL_ENG_STAT_RUNNING 0, 1), (SYS_MODE_MODE, mRUN)]))), ((inImg {} (atNs 3000 (tst [(CL_ENG_STAT_RUNNING 0, 1), (SYS_MODE_MODE, mRUN)])))).runTo 0, ((((inImg {} (atNs 3000 (tst [(CL_ENG_STAT_RUNNING 0, 1), (SYS_MODE_MODE, mRUN)])))).runTo 0).modCl 0 (fun x => { x with withheld := [], loops := [], paused := none })).loopTiles 0 ([]) ((((inImg {} (atNs 3000 (tst [(CL_ENG_STAT_RUNNING 0, 1), (SYS_MODE_MODE, mRUN)])))).runTo 0).clusterAxes 0), 0, 0, [], rfl, by decide +kernel, rfl⟩,
   ⟨State.reset, 0, 0, (State.reset).pickClass 0 0, (State.reset).variantOf 0 ((State.reset).pickClass 0 0), by decide +kernel⟩,
   ⟨(tst []), (((tst [])).modCl 0 (fun y => { y with ap := y.ap.set 7 (0x40 * 0), loops := [] })).presetRun 0 (.preset (({} : LoopVar)).out (({} : LoopVar)).integ) (({} : LoopVar)).code 12500 0, 0, 0, ({} : LoopVar), 0, 0, 0, 0, rfl, by decide +kernel, by decide +kernel, by decide +kernel⟩,
   ⟨((inImg {} (tst [((TILE_LP_STAT_OSC 0), 0), (TILE_LP_OSC_DET_AMP 0, 1), (TILE_LP_OSC_DET_CNT 0, 2), (TILE_LP_OSC_DET_WIN 0, 1), (SYS_MODE_MODE, mRUN)])).modTile 0 (fun x => { x with lp := { x.lp with osc := { x.lp.osc with cross := [0, 0] } } })), 0, by decide +kernel⟩,
   ⟨(tst []), 0, by decide +kernel⟩,
   ⟨(tst []), 0, by decide +kernel⟩,
   ⟨(inImg { axes := [0] } (tst [(SYS_MODE_MODE, mRUN)])), 0, by decide +kernel⟩⟩

/-- The hypotheses of each clause of Obligations.SolverRuns can be met. -/
theorem test_SolverRuns_meets :
  (∃ (s : State) (u : State) (n : Fin 4) (j : Fin 12) (m : Nat), u = s.runTo m ∧ ((∀ p, u.probAt n j = some p → 12 ≤ p.arm ∨ (∀ a : Fin 12, p.arm = a.val → (u.qa a).job = none) ∨ u.flag (QS_STAT_RUNNING n) = true ∨ u.flag (QS_STAT_STOPPED n) = true ∨ u.turnOf n j = false ∨ (∀ i ∈ (u.queue 10).items, i.body ≠ .job p.arm)))) ∧
  (∃ (s : State) (u : State) (n : Fin 4) (j : Fin 12) (a : Fin 12) (m : Nat) (fr : Nat) (cap : Nat) (p : QProb) (θ : List Int) (q : List Int) (l : List Int) (v : List Int) (it : QPoint), u = s.runTo m ∧ u.probAt n j = some p ∧ p.arm = a.val ∧ (u.qa a).job = some (fr, cap, θ) ∧ u.flag (QS_STAT_RUNNING n) = false ∧ u.flag (QS_STAT_STOPPED n) = false ∧ u.turnOf n j = true ∧ ((∃ i ∈ (u.queue 10).items, i.body = .job p.arm)) ∧ State.qparams p θ cap = .ok (q, l, v) ∧ (u.warm a p).checked p = .ok it) ∧
  (∃ (s : State) (u : State) (n : Fin 4) (j : Fin 12) (a : Fin 12) (m : Nat) (fr : Nat) (cap : Nat) (idx : Nat) (p : QProb) (θ : List Int), u = s.runTo m ∧ u.probAt n j = some p ∧ p.arm = a.val ∧ (u.qa a).job = some (fr, cap, θ) ∧ u.flag (QS_STAT_RUNNING n) = false ∧ u.flag (QS_STAT_STOPPED n) = false ∧ u.turnOf n j = true ∧ ((∃ i ∈ (u.queue 10).items, i.body = .job p.arm)) ∧ (State.qparams p θ cap = .error idx ∨ (∃ q, State.qparams p θ cap = .ok q ∧ (u.warm a p).checked p = .error idx))) ∧
  (∃ (s : State) (u : State) (n : Fin 4) (m : Nat), u = s.runTo m ∧ u.working n = none) ∧
  (∃ (v : State) (a : Fin 12) (p : QProb) (w : QWindow), (v.qa a).win = some w ∧ p.arm = a.val) ∧
  (∃ (v : State) (a : Fin 12) (w : QWindow), (v.qa a).win = some w) ∧
  (∃ (s : State) (u : State) (n : Fin 4) (a : Fin 12) (m : Nat) (p : QProb) (w : QWindow), u = s.runTo m ∧ u.working n = some (a, p, w)) ∧
  (∃ (s : State) (u : State) (n : Fin 4) (a : Fin 12) (m : Nat) (p : QProb) (w : QWindow), u = s.runTo m ∧ u.working n = some (a, p, w)) ∧
  (∃ (k : Nat), k < 4) ∧
  (∃ (s : State) (u : State) (n : Fin 4) (a : Fin 12) (m : Nat) (p : QProb) (w : QWindow), u = s.runTo m ∧ u.working n = some (a, p, w)) ∧
  (∃ (s : State) (u : State) (v : State) (n : Fin 4) (a : Fin 12) (c : Nat) (m : Nat) (p : QProb) (w : QWindow), u = s.runTo m ∧ u.working n = some (a, p, w) ∧ v = u.cutFact a p c) ∧
  (∃ (v : State) (a : Fin 12), (v.qa a).fact = none) ∧
  (∃ (v : State) (a : Fin 12) (old : Nat), (v.qa a).fact = some old ∧ old < 4) ∧
  (∃ (s : State) (n : Fin 4) (j : Fin 12) (a : Fin 12) (p : QProb), s.probAt n j = some p ∧ p.arm = a.val ∧ (s.qa a).win = none ∧ (s.qa a).res.isSome = true ∧ ((∀ i ∈ (s.queue 11).items, ∀ k, i.body ≠ .solution p.arm k))) ∧
  (∃ (s : State) (n : Fin 4) (j : Fin 12), ((∀ p, s.probAt n j = some p → 12 ≤ p.arm ∨ (∃ i ∈ (s.queue 11).items, ∃ k, i.body = .solution p.arm k) ∨ (∀ a : Fin 12, p.arm = a.val → (s.qa a).win.isSome = true ∨ (s.qa a).res = none)))) ∧
  (∃ (s : State) (u : Fin 4), s.working u = none) ∧
  (∃ (s : State) (u : Fin 4) (a : Fin 12) (p : QProb) (w : QWindow), s.working u = some (a, p, w)) :=
  ⟨⟨(tst []), ((tst [])).runTo 0, 0, 0, 0, rfl, by decide +kernel⟩,
   ⟨(inQ 10 [⟨64, .job 0⟩] (inImg { probs := [prob] } (modQa 0 (fun x => { x with job := some (0, 0, []) }) (tst [((QS_STAT_RUNNING 0), 0), ((QS_STAT_STOPPED 0), 0)])))), ((inQ 10 [⟨64, .job 0⟩] (inImg { probs := [prob] } (modQa 0 (fun x => { x with job := some (0, 0, []) }) (tst [((QS_STAT_RUNNING 0), 0), ((QS_STAT_STOPPED 0), 0)]))))).runTo 0, 0, 0, 0, 0, 0, 0, prob, [], [], [], [], pt, rfl, by decide +kernel, by decide +kernel, by decide +kernel, by decide +kernel, by decide +kernel, by decide +kernel, by decide +kernel, rfl, rfl⟩,
   ⟨(inQ 10 [⟨64, .job 0⟩] (inImg { probs := [{ prob with states := [⟨0, 0, 0⟩] }] } (modQa 0 (fun x => { x with job := some (0, 0, [2147483648]) }) (tst [((QS_STAT_RUNNING 0), 0), ((QS_STAT_STOPPED 0), 0)])))), ((inQ 10 [⟨64, .job 0⟩] (inImg { probs := [{ prob with states := [⟨0, 0, 0⟩] }] } (modQa 0 (fun x => { x with job := some (0, 0, [2147483648]) }) (tst [((QS_STAT_RUNNING 0), 0), ((QS_STAT_STOPPED 0), 0)]))))).runTo 0, 0, 0, 0, 0, 0, 0, 65535, { prob with states := [⟨0, 0, 0⟩] }, [2147483648], rfl, by decide +kernel, by decide +kernel, by decide +kernel, by decide +kernel, by decide +kernel, by decide +kernel, by decide +kernel, Or.inl rfl⟩,
   ⟨(tst []), ((tst [])).runTo 0, 0, 0, rfl, by decide +kernel⟩,
   ⟨(slv prob 0 (tst [])), 0, prob, win 0, by decide +kernel⟩,
   ⟨(slv prob 0 (tst [])), 0, win 0, by decide +kernel⟩,
   ⟨(slv prob 0 (tst [])), ((slv prob 0 (tst []))).runTo 0, 0, 0, 0, prob, win 0, rfl, by decide +kernel⟩,
   ⟨(slv prob 0 (tst [])), ((slv prob 0 (tst []))).runTo 0, 0, 0, 0, prob, win 0, rfl, by decide +kernel⟩,
   ⟨0, by decide +kernel⟩,
   ⟨(modQa 0 (fun x => { x with fact := some 0 }) (slv prob 0 (tst []))), ((modQa 0 (fun x => { x with fact := some 0 }) (slv prob 0 (tst [])))).runTo 0, 0, 0, 0, prob, win 0, rfl, by decide +kernel⟩,
   ⟨(slv prob 0 (tst [])), ((slv prob 0 (tst []))).runTo 0, (((slv prob 0 (tst []))).runTo 0).cutFact 0 prob 0, 0, 0, 0, 0, prob, win 0, rfl, by decide +kernel, rfl⟩,
   ⟨(tst []), 0, by decide +kernel⟩,
   ⟨(modQa 0 (fun x => { x with fact := some 0 }) (tst [])), 0, 0, by decide +kernel⟩,
   ⟨(inImg { probs := [prob] } (modQa 0 (fun x => { x with res := some ⟨0, 0, 0, none, 0⟩ }) (tst []))), 0, 0, 0, prob, by decide +kernel, by decide +kernel, by decide +kernel, by decide +kernel, noItems (by decide +kernel)⟩,
   ⟨(tst []), 0, 0, noSome (by decide +kernel)⟩,
   ⟨(tst []), 0, by decide +kernel⟩,
   ⟨(slv prob 0 (tst [])), 0, 0, prob, win 0, by decide +kernel⟩⟩

/-- The hypotheses of each clause of Obligations.SeparationRuns can be met. -/
theorem test_SeparationRuns_meets :
  (∃ (s : State) (u : State) (m : Nat), u = s.runTo m ∧ (u.ssmRuns = false ∨ u.safe.mirrorStale = true ∨ u.time.mono < u.safe.mirrorAt + 200000)) ∧
  (∃ (s : State) (u : State) (m : Nat), u = s.runTo m ∧ u.ssmRuns = true ∧ u.safe.mirrorStale = false ∧ u.safe.mirrorAt + 200000 ≤ u.time.mono) ∧
  (∃ (s : State) (u : State) (m : Nat), u = s.runTo m ∧ (u.ssmRuns = false ∨ u.mirrorNow = none ∨ (∃ k, u.safe.hpAt = some k ∧ safePast k 1000 u.time.mono = false))) ∧
  (∃ (s : State) (u : State) (m : Nat) (x : Mirror), u = s.runTo m ∧ u.ssmRuns = true ∧ u.mirrorNow = some x ∧ ((∀ k, u.safe.hpAt = some k → safePast k 1000 u.time.mono = true))) ∧
  (∃ (s : State), s.safe.cycled = false) ∧
  (∃ (s : State), s.safe.cycled = true) ∧
  (∃ (s : State) (us : Nat), ((s.monSet.1.nxcmp ≤ s.safe.xrun ∧ s.safe.xtold = false) ∨ 50 < us)) ∧
  (∃ (s : State) (us : Nat), (s.safe.xrun < s.monSet.1.nxcmp ∨ s.safe.xtold = true) ∧ us ≤ 50) ∧
  (∃ (s : State) (u : State) (n : Fin 8) (m : Nat) (x : ScanSrc), u = s.runTo m ∧ u.monSet.1.sources.find? (fun (y : ScanSrc) => y.num == n.val) = some x ∧ u.ssmRuns = true ∧ (u.safe.sources.get n).lost = false ∧ State.srcGone x (u.safe.sources.get n).new u.time.mono = true) ∧
  (∃ (s : State) (u : State) (n : Fin 8) (m : Nat), u = s.runTo m ∧ (u.ssmRuns = false ∨ (u.safe.sources.get n).lost = true ∨ (∀ x, u.monSet.1.sources.find? (fun (y : ScanSrc) => y.num == n.val) = some x → State.srcGone x (u.safe.sources.get n).new u.time.mono = false))) ∧
  (∃ (s : State), 3 ≤ s.safe.same ∧ s.safe.staleTold = false ∧ s.onGrid Config.msUnits = true) ∧
  (∃ (s : State), (s.safe.same < 3 ∨ s.safe.staleTold = true ∨ s.onGrid Config.msUnits = false)) :=
  ⟨⟨(tst []), ((tst [])).runTo 0, 0, rfl, by decide +kernel⟩,
   ⟨(modSafe (fun x => { x with loaded := true }) (tst [(SYS_MODE_MODE, mRUN)])), ((modSafe (fun x => { x with loaded := true }) (tst [(SYS_MODE_MODE, mRUN)]))).runTo 1000000, 1000000, rfl, by decide +kernel, by decide +kernel, by decide +kernel⟩,
   ⟨(tst []), ((tst [])).runTo 0, 0, rfl, by decide +kernel⟩,
   ⟨(modSafe (fun x => { x with loaded := true, mirror := some ⟨0, 0, []⟩ }) (tst [(SYS_MODE_MODE, mRUN)])), ((modSafe (fun x => { x with loaded := true, mirror := some ⟨0, 0, []⟩ }) (tst [(SYS_MODE_MODE, mRUN)]))).runTo 1000000, 1000000, (⟨0, 0, []⟩ : Mirror), rfl, by decide +kernel, by decide +kernel, noSome (by decide +kernel)⟩,
   ⟨(tst []), by decide +kernel⟩,
   ⟨(modSafe (fun x => { x with cycled := true }) (tst [])), by decide +kernel⟩,
   ⟨(tst []), 51, by decide +kernel⟩,
   ⟨(tst []), 0, by decide +kernel⟩,
   ⟨(modSafe (fun x => { x with loaded := true, safety := { sets := [{ code := 0, sources := [⟨0, 0, 0, 0, 0, 0, 0, 0⟩] }] } }) (tst [(SYS_MODE_MODE, mRUN)])), ((modSafe (fun x => { x with loaded := true, safety := { sets := [{ code := 0, sources := [⟨0, 0, 0, 0, 0, 0, 0, 0⟩] }] } }) (tst [(SYS_MODE_MODE, mRUN)]))).runTo 0, 0, 0, (⟨0, 0, 0, 0, 0, 0, 0, 0⟩ : ScanSrc), rfl, by decide +kernel, by decide +kernel, by decide +kernel, by decide +kernel⟩,
   ⟨(tst []), ((tst [])).runTo 0, 0, 0, rfl, by decide +kernel⟩,
   ⟨(modSafe (fun x => { x with same := 3 }) (tst [])), by decide +kernel⟩,
   ⟨(tst []), by decide +kernel⟩⟩

/-- The hypotheses of each clause of Obligations.StoGroupsRun can be met. -/
theorem test_StoGroupsRun_meets :
  (∃ (s : State) (u : State) (m : Nat), u = s.runTo m ∧ (u.mode = mRESET ∨ safePast u.safe.exchAt 10 u.time.mono = false)) ∧
  (∃ (s : State) (u : State) (m : Nat), u = s.runTo m ∧ u.mode ≠ mRESET ∧ safePast u.safe.exchAt 10 u.time.mono = true) ∧
  (∃ (s : State) (u : State) (m : Nat), u = s.runTo m ∧ u.safe.diff.isSome = true) ∧
  (∃ (s : State), s.safe.diff = none) ∧
  (∃ (s : State) (u : State) (ppm : Int) (m : Nat), u = s.runTo m ∧ u.mode ≠ mRESET ∧ (20000 < ppm.natAbs ∨ u.safe.exchAt + 8001 < u.time.mono)) ∧
  (∃ (s : State) (u : State) (ppm : Int) (m : Nat), u = s.runTo m ∧ (u.mode = mRESET ∨ (ppm.natAbs ≤ 20000 ∧ u.time.mono ≤ u.safe.exchAt + 8001))) ∧
  (∃ (s : State) (u : State) (d : Fin 2) (q : Nat) (m : Nat), u = s.runTo m ∧ (u.mode = mRESET ∨ State.newerSeq (u.safe.dies.get d).seqDie q = false)) ∧
  (∃ (s : State) (u : State) (d : Fin 2) (q : Nat) (m : Nat), u = s.runTo m ∧ u.mode ≠ mRESET ∧ State.newerSeq (u.safe.dies.get d).seqDie q = true) ∧
  (∃ (s : State) (u : State) (d : Fin 2) (q : Nat) (m : Nat), u = s.runTo m ∧ (u.mode = mRESET ∨ State.newerSeq (u.safe.dies.get d).seqChan q = false ∨ (u.fio.dies.get d).spoilt = true)) ∧
  (∃ (s : State) (u : State) (d : Fin 2) (q : Nat) (m : Nat), u = s.runTo m ∧ u.mode ≠ mRESET ∧ State.newerSeq (u.safe.dies.get d).seqChan q = true ∧ (u.fio.dies.get d).spoilt = false) ∧
  (∃ (s : State) (u : State) (d : Fin 2) (m : Nat), u = s.runTo m ∧ u.mode ≠ mRESET ∧ (u.safe.dies.get d).toChan + 16000 < u.time.mono ∧ (u.f SAFE_STAT_FRAME).testBit d = false) ∧
  (∃ (s : State) (u : State) (d : Fin 2) (m : Nat), u = s.runTo m ∧ (u.mode = mRESET ∨ u.time.mono ≤ (u.safe.dies.get d).toChan + 16000 ∨ (u.f SAFE_STAT_FRAME).testBit d = true)) ∧
  (∃ (s : State) (u : State) (d : Fin 2) (m : Nat), u = s.runTo m ∧ (u.safe.dies.get d).toDie + 16000 < u.time.mono) ∧
  (∃ (s : State) (u : State) (d : Fin 2) (m : Nat), u = s.runTo m ∧ u.time.mono ≤ (u.safe.dies.get d).toDie + 16000) ∧
  (∃ (s : State) (k : Nat), (s.mapOpen = false ∨ k ≠ 0x5354)) ∧
  (∃ (s : State), s.mapOpen = true) ∧
  (∃ (s : State) (g : Fin 4), ((s.safGroup g).used = false ∨ (s.group 0 g).state ≠ 0 ∨ (s.group 1 g).state ≠ 0)) ∧
  (∃ (s : State) (g : Fin 4), (s.safGroup g).used = true ∧ (s.group 0 g).state = 0 ∧ (s.group 1 g).state = 0 ∧ s.unmet g s.time.mono = (0, 0) ∧ ((∀ k ∈ s.safe.conns, k.at_ ≤ s.time.mono))) ∧
  (∃ (s : State) (g : Fin 4), (s.safGroup g).used = true ∧ (s.group 0 g).state = 0 ∧ (s.group 1 g).state = 0 ∧ s.unmet g s.time.mono ≠ (0, 0)) ∧
  (∃ (s : State) (u : State) (g : Fin 4) (m : Nat), u = s.runTo m ∧ (u.safGroup g).restart = 0) ∧
  (∃ (s : State) (u : State) (g : Fin 4) (m : Nat), u = s.runTo m ∧ (u.safGroup g).restart ≠ 0) ∧
  (∃ (s : State) (u : State) (g : Fin 4) (m : Nat), u = s.runTo m ∧ u.safe.rise.get g = none) ∧
  (∃ (s : State) (u : State) (g : Fin 4) (m : Nat) (r : Nat), u = s.runTo m ∧ (u.safGroup g).restart ≠ 0 ∧ u.safe.rise.get g = some r ∧ (u.time.mono - r < 80000000 ∨ 4000000000 < u.time.mono - r)) ∧
  (∃ (s : State) (u : State) (g : Fin 4) (m : Nat) (r : Nat), u = s.runTo m ∧ (u.safGroup g).restart ≠ 0 ∧ u.safe.rise.get g = some r ∧ 80000000 ≤ u.time.mono - r ∧ u.time.mono - r ≤ 4000000000) ∧
  (∃ (s : State) (u : State) (g : Fin 4) (m : Nat), u = s.runTo m ∧ ((∃ c : Fin 2, (u.group c g).state = 1 ∧ (u.group c g).startEnd ≤ u.time.mono))) ∧
  (∃ (s : State) (u : State) (g : Fin 4) (m : Nat), u = s.runTo m ∧ ((∀ c : Fin 2, (u.group c g).state ≠ 1 ∨ u.time.mono < (u.group c g).startEnd))) ∧
  (∃ (s : State) (u : State) (m : Nat), u = s.runTo m) ∧
  (∃ (v : State), v.mode ≠ mRUN ∧ v.mode ≠ mCOMMISSION) ∧
  (∃ (v : State) (g : Fin 4), v.armGroups.testBit g = true ∧ (v.f (SAFE_STO_STAT_STATE g) ≠ 0 ∨ (∀ e ∈ v.flt.entries, e.level < 2 ∨ e.scope.testBit g = false))) ∧
  (∃ (v : State), (v.mode = mRUN ∨ v.mode = mCOMMISSION) ∧ v.armGroups ≠ 0 ∧ ((∀ g : Fin 4, v.armGroups.testBit g = true → v.f (SAFE_STO_STAT_STATE g) = 0 ∧ ∃ e ∈ v.flt.entries, 2 ≤ e.level ∧ e.scope.testBit g = true))) ∧
  (∃ (side : Fin 2) (g : Fin 4) (own : Fin 8) (other : Fin 8), own.val = 4 * side.val + g.val ∧ other.val = 4 * (1 - side.val) + g.val) ∧
  (∃ (s : State) (side : Fin 2) (g : Fin 4) (own : Fin 8) (early : Bool), own.val = 4 * side.val + g.val ∧ ((early = true ↔ s.safe.pulses.testBit own = true ∧ ∃ k, s.safe.pulseAt.get own = some k ∧ safePast k 100 s.time.mono = false))) :=
  ⟨⟨(tst []), ((tst [])).runTo 0, 0, rfl, by decide +kernel⟩,
   ⟨(tst [(SYS_MODE_MODE, mRUN)]), ((tst [(SYS_MODE_MODE, mRUN)])).runTo 100000, 100000, rfl, by decide +kernel, by decide +kernel⟩,
   ⟨(modSafe (fun x => { x with diff := some 0 }) (tst [])), ((modSafe (fun x => { x with diff := some 0 }) (tst []))).runTo 0, 0, rfl, by decide +kernel⟩,
   ⟨(tst []), by decide +kernel⟩,
   ⟨(tst []), ((tst [])).runTo 0, -20001, 0, rfl, by decide +kernel, by decide +kernel⟩,
   ⟨(tst []), ((tst [])).runTo 0, 0, 0, rfl, by decide +kernel⟩,
   ⟨(tst [(SYS_MODE_MODE, mRESET)]), ((tst [(SYS_MODE_MODE, mRESET)])).runTo 0, 0, 0, 0, rfl, by decide +kernel⟩,
   ⟨(tst []), ((tst [])).runTo 0, 0, 0, 0, rfl, by decide +kernel, by decide +kernel⟩,
   ⟨(tst [(SYS_MODE_MODE, mRESET)]), ((tst [(SYS_MODE_MODE, mRESET)])).runTo 0, 0, 0, 0, rfl, by decide +kernel⟩,
   ⟨(tst []), ((tst [])).runTo 0, 0, 0, 0, rfl, by decide +kernel, by decide +kernel, by decide +kernel⟩,
   ⟨(tst []), ((tst [])).runTo 100000, 0, 100000, rfl, by decide +kernel, by decide +kernel, by decide +kernel⟩,
   ⟨(tst []), ((tst [])).runTo 0, 0, 0, rfl, by decide +kernel⟩,
   ⟨(tst []), ((tst [])).runTo 100000, 0, 100000, rfl, by decide +kernel⟩,
   ⟨(tst []), ((tst [])).runTo 0, 0, 0, rfl, by decide +kernel⟩,
   ⟨(tst []), 0, by decide +kernel⟩,
   ⟨(tst []), by decide +kernel⟩,
   ⟨(tst []), 0, by decide +kernel⟩,
   ⟨(usedGroup { used := true } (modSafe (fun x => { x with loaded := true, chans := (x.chans.modify 0 (fun c => { c with codes := [0, 0, 0] })).modify 1 (fun c => { c with codes := [0, 0, 0] }) }) (tst [(SYS_MODE_MODE, mRUN)]))), 0, by decide +kernel⟩,
   ⟨(usedGroup { used := true, conns := [1] } (tst [])), 0, by decide +kernel⟩,
   ⟨(tst []), ((tst [])).runTo 0, 0, 0, rfl, by decide +kernel⟩,
   ⟨(usedGroup { used := true, restart := 1 } (tst [])), ((usedGroup { used := true, restart := 1 } (tst []))).runTo 0, 0, 0, rfl, by decide +kernel⟩,
   ⟨(tst []), ((tst [])).runTo 0, 0, 0, rfl, by decide +kernel⟩,
   ⟨(usedGroup { used := true, restart := 1 } (modSafe (fun x => { x with rise := x.rise.set 0 (some 0) }) (tst []))), ((usedGroup { used := true, restart := 1 } (modSafe (fun x => { x with rise := x.rise.set 0 (some 0) }) (tst [])))).runTo 0, 0, 0, 0, rfl, by decide +kernel, by decide +kernel, by decide +kernel⟩,
   ⟨(usedGroup { used := true, restart := 2 } (modSafe (fun x => { x with rise := x.rise.set 0 (some 0) }) (tst []))), ((usedGroup { used := true, restart := 2 } (modSafe (fun x => { x with rise := x.rise.set 0 (some 0) }) (tst [])))).runTo 80000000, 0, 80000000, 0, rfl, by decide +kernel, by decide +kernel, by decide +kernel, by decide +kernel⟩,
   ⟨(grp 0 1 0 0 (tst [])), ((grp 0 1 0 0 (tst []))).runTo 0, 0, 0, rfl, by decide +kernel⟩,
   ⟨(tst []), ((tst [])).runTo 0, 0, 0, rfl, by decide +kernel⟩,
   ⟨(tst []), ((tst [])).runTo 0, 0, rfl⟩,
   ⟨(tst []), by decide +kernel⟩,
   ⟨(usedGroup { used := true, arms := 1 } (tst [])), 0, by decide +kernel⟩,
   ⟨(usedGroup { used := true, arms := 1 } (modFlt (fun x => { x with entries := [{ ent 1 1 cMAJOR 2 with scope := 1 }] }) (tst [(SYS_MODE_MODE, mRUN)]))), by decide +kernel⟩,
   ⟨0, 0, 0, 4, by decide +kernel⟩,
   ⟨(tst []), 0, 0, 0, false, by decide +kernel⟩⟩

/-- The hypotheses of each clause of Obligations.SafetyDataRuns can be met. -/
theorem test_SafetyDataRuns_meets :
  (∃ (s : State) (u : State) (bs : List Byte) (m : Nat), u = s.runTo m ∧ u.safConn? (leNat (bs.take 2)) = none) ∧
  (∃ (s : State) (u : State) (bs : List Byte) (m : Nat) (len : Nat) (seq : Nat) (d : SafConn), u = s.runTo m ∧ u.safConn? (leNat (bs.take 2)) = some d ∧ len = leNat ((bs.drop 2).take 2) ∧ seq = leNat ((bs.drop 4).take 4) ∧ ((bs.length ≠ 12 + len ∨ leNat ((bs.drop (8 + len)).take 4) ≠ crc32 (natLE 4 u.safe.sid ++ bs.take (8 + len)) ∨ len ≠ d.len ∨ (d.sto = true ∧ leNat (((bs.drop 8).take len).take 1) ≠ 0xC3 ∧ leNat (((bs.drop 8).take len).take 1) ≠ 0x3C) ∨ (∃ k q, u.conn? (leNat (bs.take 2)) = some k ∧ k.seq = some q ∧ k.lost = false ∧ ((seq + 4294967296 - q) % 4294967296 = 0 ∨ 3 < (seq + 4294967296 - q) % 4294967296))))) ∧
  (∃ (s : State) (u : State) (d : SafConn) (k : ConnSt) (seq : Nat) (m : Nat) (pay : List Byte), u = s.runTo m ∧ u.safConn? d.num = some d ∧ d.num < 65536 ∧ d.len < 65536 ∧ pay.length = d.len ∧ seq < 4294967296 ∧ u.conn? d.num = some k ∧ ((∀ q, k.seq = some q → k.lost = true ∨ (1 ≤ (seq + 4294967296 - q) % 4294967296 ∧ (seq + 4294967296 - q) % 4294967296 ≤ 3))) ∧ ((d.sto = true → leNat (pay.take 1) = 0xC3 ∨ leNat (pay.take 1) = 0x3C))) ∧
  (∃ (u : State) (d : SafConn) (k : ConnSt) (g : Fin 4) (pay : List Byte), u.conn? d.num = some k ∧ d.num < 256 ∧ d.sto = true ∧ d.group = g.val ∧ (leNat (pay.take 1) = 0xC3 ∨ u.shownGroup g ≠ 2)) ∧
  (∃ (u : State) (d : SafConn) (k : ConnSt) (g : Fin 4) (pay : List Byte), u.conn? d.num = some k ∧ d.num < 256 ∧ d.sto = true ∧ d.group = g.val ∧ leNat (pay.take 1) = 0x3C ∧ u.shownGroup g = 2) ∧
  (∃ (u : State) (d : SafConn) (k : ConnSt) (x : ScanSrc) (n : Fin 8), u.conn? d.num = some k ∧ d.num < 256 ∧ d.sto = false ∧ u.safSet.sources.find? (fun (y : ScanSrc) => y.conn == d.num) = some x ∧ x.num = n.val) ∧
  (∃ (s : State) (u : State) (d : SafConn) (k : ConnSt) (g : Fin 4) (n : Nat) (m : Nat), u = s.runTo m ∧ u.safConn? n = some d ∧ u.conn? n = some k ∧ d.sto = true ∧ d.group = g.val ∧ n < 256 ∧ k.lost = false ∧ k.at_ + 800 * d.wd ≤ u.time.mono) ∧
  (∃ (s : State) (u : State) (d : SafConn) (k : ConnSt) (n : Nat) (m : Nat), u = s.runTo m ∧ u.safConn? n = some d ∧ u.conn? n = some k ∧ (d.sto = false ∨ 4 ≤ d.group) ∧ n < 256 ∧ k.lost = false ∧ k.at_ + 800 * d.wd ≤ u.time.mono) ∧
  (∃ (s : State) (u : State) (n : Nat) (m : Nat), u = s.runTo m ∧ ((∀ d k, u.safConn? n = some d → u.conn? n = some k → k.lost = true ∨ u.time.mono < k.at_ + 800 * d.wd))) ∧
  (∃ (s : State) (u : State) (p : Fin 32) (d : SafPair) (m : Nat) (k : Nat), u = s.runTo m ∧ u.safPair? p = some d ∧ (u.safe.pairs.get p).disc = some k ∧ (u.safe.pairs.get p).held = false ∧ k + d.disc * 800000 < u.time.mono) ∧
  (∃ (s : State) (u : State) (p : Fin 32) (m : Nat), u = s.runTo m ∧ ((u.safe.pairs.get p).held = true ∨ (∀ d k, u.safPair? p = some d → (u.safe.pairs.get p).disc = some k → u.time.mono ≤ k + d.disc * 800000))) ∧
  (∃ (s : State) (u : State) (k : Fin 4) (m : Nat), u = s.runTo m ∧ u.tpOn k = true ∧ (u.safe.tps.get k).active = false ∧ safePast (u.safe.tps.get k).next 0 u.time.mono = true) ∧
  (∃ (s : State) (u : State) (k : Fin 4) (m : Nat), u = s.runTo m ∧ u.tpOn k = true ∧ ((u.safe.tps.get k).active = true ∨ safePast (u.safe.tps.get k).next 0 u.time.mono = false)) ∧
  (∃ (s : State) (u : State) (k : Fin 4) (m : Nat), u = s.runTo m ∧ u.tpOn k = false) ∧
  (∃ (s : State) (u : State) (k : Fin 4) (m : Nat), u = s.runTo m ∧ ((u.safe.tps.get k).active = false ∨ u.time.mono + 800 < (u.safe.tps.get k).stop)) ∧
  (∃ (s : State) (u : State) (k : Fin 4) (m : Nat) (bad : List Nat), u = s.runTo m ∧ (u.safe.tps.get k).active = true ∧ (u.safe.tps.get k).stop ≤ u.time.mono + 800 ∧ bad = (u.safeInputs.filter (fun i => (u.supplyOf i).isSome)).filter (fun i => u.pulseBad k i)) ∧
  (∃ (v : State) (i : Nat) (d : SafPair) (p : Fin 32), v.safSet.pairs.find? (fun (x : SafPair) => x.in1 == i || x.in2 == i) = some d ∧ d.num = p.val) ∧
  (∃ (s : State) (u : State) (m : Nat), u = s.runTo m ∧ (u.mode = mRESET ∨ (∃ r, u.safe.readAt = some r ∧ safePast r 1000 u.time.mono = false))) ∧
  (∃ (s : State) (u : State) (m : Nat), u = s.runTo m ∧ u.mode ≠ mRESET ∧ ((∀ r, u.safe.readAt = some r → safePast r 1000 u.time.mono = true))) ∧
  (∃ (s : State) (u : State) (c : Fin 65536) (m : Nat) (x : Nat) (y : Nat), u = s.runTo m ∧ u.mode ≠ mRESET ∧ ((∀ r, u.safe.readAt = some r → safePast r 1000 u.time.mono = true)) ∧ u.safe.loaded = true ∧ c.val ≠ u.safe.code ∧ u.swapArmed = false ∧ x ≠ c.val ∧ y ≠ c.val ∧ (u.chan 0).codes = [x, c.val, c.val] ∧ (u.chan 1).codes = [y, c.val, c.val]) ∧
  (∃ (s : State) (u : State) (m : Nat) (k : Nat), u = s.runTo m ∧ u.safe.codeDiff = some k ∧ k + 2400000 ≤ u.time.mono) ∧
  (∃ (s : State) (u : State) (m : Nat), u = s.runTo m ∧ ((∀ k, u.safe.codeDiff = some k → u.time.mono < k + 2400000))) :=
  ⟨⟨(tst []), ((tst [])).runTo 0, [], 0, rfl, by decide +kernel⟩,
   ⟨(modSafe (fun x => { x with safety := { conns := [⟨0, true, 0, 1, 0⟩] } }) (tst [])), ((modSafe (fun x => { x with safety := { conns := [⟨0, true, 0, 1, 0⟩] } }) (tst []))).runTo 0, [], 0, 0, 0, (⟨0, true, 0, 1, 0⟩ : SafConn), rfl, by decide +kernel, rfl, rfl, Or.inl (by decide)⟩,
   ⟨(modSafe (fun x => { x with conns := [⟨0, none, 0, false, 0, 0, 0⟩], safety := { conns := [⟨0, true, 0, 1, 0⟩] } }) (tst [])), ((modSafe (fun x => { x with conns := [⟨0, none, 0, false, 0, 0, 0⟩], safety := { conns := [⟨0, true, 0, 1, 0⟩] } }) (tst []))).runTo 0, (⟨0, true, 0, 1, 0⟩ : SafConn), (⟨0, none, 0, false, 0, 0, 0⟩ : ConnSt), 0, 0, [0xC3], rfl, by decide +kernel, by decide, by decide, by decide, by decide, by decide +kernel, noSome (by decide), by decide⟩,
   ⟨(modSafe (fun x => { x with conns := [⟨0, some 0, 0, false, 0, 0, 0⟩], safety := { conns := [⟨0, true, 0, 1, 0⟩] } }) (tst [])), (⟨0, true, 0, 1, 0⟩ : SafConn), (⟨0, some 0, 0, false, 0, 0, 0⟩ : ConnSt), 0, [0xC3], by decide +kernel⟩,
   ⟨(grp 0 2 0 0 (modSafe (fun x => { x with conns := [⟨0, some 0, 0, false, 0, 0, 0⟩], safety := { conns := [⟨0, true, 0, 1, 0⟩] } }) (tst []))), (⟨0, true, 0, 1, 0⟩ : SafConn), (⟨0, some 0, 0, false, 0, 0, 0⟩ : ConnSt), 0, [0x3C], by decide +kernel⟩,
   ⟨(modSafe (fun x => { x with conns := [⟨0, some 0, 0, false, 0, 0, 0⟩], safety := { conns := [⟨0, false, 0, 1, 0⟩], sets := [{ code := 0, sources := [⟨0, 0, 0, 0, 0, 0, 0, 0⟩] }] } }) (tst [])), (⟨0, false, 0, 1, 0⟩ : SafConn), (⟨0, some 0, 0, false, 0, 0, 0⟩ : ConnSt), (⟨0, 0, 0, 0, 0, 0, 0, 0⟩ : ScanSrc), 0, by decide +kernel⟩,
   ⟨(modSafe (fun x => { x with conns := [⟨0, some 0, 0, false, 0, 0, 0⟩], safety := { conns := [⟨0, true, 0, 1, 0⟩] } }) (tst [])), ((modSafe (fun x => { x with conns := [⟨0, some 0, 0, false, 0, 0, 0⟩], safety := { conns := [⟨0, true, 0, 1, 0⟩] } }) (tst []))).runTo 0, (⟨0, true, 0, 1, 0⟩ : SafConn), (⟨0, some 0, 0, false, 0, 0, 0⟩ : ConnSt), 0, 0, 0, rfl, by decide +kernel, by decide +kernel, by decide +kernel, by decide +kernel, by decide +kernel, by decide +kernel, by decide +kernel⟩,
   ⟨(modSafe (fun x => { x with conns := [⟨0, some 0, 0, false, 0, 0, 0⟩], safety := { conns := [⟨0, false, 0, 1, 0⟩] } }) (tst [])), ((modSafe (fun x => { x with conns := [⟨0, some 0, 0, false, 0, 0, 0⟩], safety := { conns := [⟨0, false, 0, 1, 0⟩] } }) (tst []))).runTo 0, (⟨0, false, 0, 1, 0⟩ : SafConn), (⟨0, some 0, 0, false, 0, 0, 0⟩ : ConnSt), 0, 0, rfl, by decide +kernel, by decide +kernel, by decide +kernel, by decide +kernel, by decide +kernel, by decide +kernel⟩,
   ⟨(tst []), ((tst [])).runTo 0, 0, 0, rfl, noSome2 (by decide +kernel)⟩,
   ⟨(modSafe (fun x => { x with pairs := x.pairs.set 0 { disc := some 0 }, safety := { sets := [{ code := 0, pairs := [⟨0, 0, 1, false, 0, 0, []⟩] }] } }) (tst [])), ((modSafe (fun x => { x with pairs := x.pairs.set 0 { disc := some 0 }, safety := { sets := [{ code := 0, pairs := [⟨0, 0, 1, false, 0, 0, []⟩] }] } }) (tst []))).runTo 1, 0, (⟨0, 0, 1, false, 0, 0, []⟩ : SafPair), 1, 0, rfl, by decide +kernel, by decide +kernel, by decide +kernel, by decide +kernel⟩,
   ⟨(modSafe (fun x => { x with pairs := x.pairs.set 0 { held := true } }) (tst [])), ((modSafe (fun x => { x with pairs := x.pairs.set 0 { held := true } }) (tst []))).runTo 0, 0, 0, rfl, Or.inl (by decide +kernel)⟩,
   ⟨(modSafe (fun x => { x with loaded := true, safety := { sets := [{ code := 0, supplies := [(0, 0)] }] } }) (tst [(SYS_MODE_MODE, mRUN)])), ((modSafe (fun x => { x with loaded := true, safety := { sets := [{ code := 0, supplies := [(0, 0)] }] } }) (tst [(SYS_MODE_MODE, mRUN)]))).runTo 0, 0, 0, rfl, by decide +kernel, by decide +kernel, by decide +kernel⟩,
   ⟨(modSafe (fun x => { x with loaded := true, tps := x.tps.set 0 { active := true }, safety := { sets := [{ code := 0, supplies := [(0, 0)] }] } }) (tst [(SYS_MODE_MODE, mRUN)])), ((modSafe (fun x => { x with loaded := true, tps := x.tps.set 0 { active := true }, safety := { sets := [{ code := 0, supplies := [(0, 0)] }] } }) (tst [(SYS_MODE_MODE, mRUN)]))).runTo 0, 0, 0, rfl, by decide +kernel, by decide +kernel⟩,
   ⟨(tst []), ((tst [])).runTo 0, 0, 0, rfl, by decide +kernel⟩,
   ⟨(tst []), ((tst [])).runTo 0, 0, 0, rfl, by decide +kernel⟩,
   ⟨(modSafe (fun x => { x with tps := x.tps.set 0 { active := true } }) (tst [])), ((modSafe (fun x => { x with tps := x.tps.set 0 { active := true } }) (tst []))).runTo 0, 0, 0, [], rfl, by decide +kernel, by decide +kernel, by decide +kernel⟩,
   ⟨(modSafe (fun x => { x with safety := { sets := [{ code := 0, pairs := [⟨0, 0, 1, false, 0, 0, []⟩] }] } }) (tst [])), 0, (⟨0, 0, 1, false, 0, 0, []⟩ : SafPair), 0, by decide +kernel⟩,
   ⟨(tst [(SYS_MODE_MODE, mRESET)]), ((tst [(SYS_MODE_MODE, mRESET)])).runTo 0, 0, rfl, Or.inl (by decide +kernel)⟩,
   ⟨(tst []), ((tst [])).runTo 0, 0, rfl, by decide +kernel, by decide +kernel⟩,
   ⟨(modSafe (fun x => { x with loaded := true, chans := (x.chans.modify 0 (fun c => { c with codes := [0, 1, 1] })).modify 1 (fun c => { c with codes := [0, 1, 1] }) }) (tst [])), ((modSafe (fun x => { x with loaded := true, chans := (x.chans.modify 0 (fun c => { c with codes := [0, 1, 1] })).modify 1 (fun c => { c with codes := [0, 1, 1] }) }) (tst []))).runTo 0, 1, 0, 0, 0, rfl, by decide +kernel, by decide +kernel, by decide +kernel, by decide +kernel, by decide +kernel, by decide +kernel, by decide +kernel, by decide +kernel, by decide +kernel⟩,
   ⟨(modSafe (fun x => { x with codeDiff := some 0 }) (tst [])), ((modSafe (fun x => { x with codeDiff := some 0 }) (tst []))).runTo 2400000, 2400000, 0, rfl, by decide +kernel, by decide +kernel⟩,
   ⟨(tst []), ((tst [])).runTo 0, 0, rfl, by decide +kernel⟩⟩

/-- The hypotheses of each clause of Obligations.DoorCommands can be met. -/
theorem test_DoorCommands_meets :
  (∃ (s : State) (d : Fin 8) (k : Nat), (s.mapOpen = false ∨ k ≠ 0x444F ∨ s.doorHere d = false)) ∧
  (  let here := fun (s : State) (d : Fin 8) => s.mapOpen = true ∧ s.doorHere d = true
      let may := fun (s : State) => s.mode = mCOMMISSION ∨ s.mode = mRUN ∨ s.mode = mCHANGEOVER ∨ s.mode = mSAFE_HOLD ∨ (s.mode = mFAULT ∧ s.flag SYS_MODE_HOLD = false)
    ∃ (s : State) (d : Fin 8), here s d ∧ ¬ may s) ∧
  (  let here := fun (s : State) (d : Fin 8) => s.mapOpen = true ∧ s.doorHere d = true
      let may := fun (s : State) => s.mode = mCOMMISSION ∨ s.mode = mRUN ∨ s.mode = mCHANGEOVER ∨ s.mode = mSAFE_HOLD ∨ (s.mode = mFAULT ∧ s.flag SYS_MODE_HOLD = false)
    ∃ (s : State) (d : Fin 8), here s d ∧ may s ∧ s.doorState d = dFAULT) ∧
  (  let here := fun (s : State) (d : Fin 8) => s.mapOpen = true ∧ s.doorHere d = true
      let may := fun (s : State) => s.mode = mCOMMISSION ∨ s.mode = mRUN ∨ s.mode = mCHANGEOVER ∨ s.mode = mSAFE_HOLD ∨ (s.mode = mFAULT ∧ s.flag SYS_MODE_HOLD = false)
    ∃ (s : State) (d : Fin 8), here s d ∧ may s ∧ s.doorState d ≠ dFAULT) ∧
  (  let here := fun (s : State) (d : Fin 8) => s.mapOpen = true ∧ s.doorHere d = true
      let may := fun (s : State) => s.mode = mCOMMISSION ∨ s.mode = mRUN ∨ s.mode = mCHANGEOVER ∨ s.mode = mSAFE_HOLD ∨ (s.mode = mFAULT ∧ s.flag SYS_MODE_HOLD = false)
    ∃ (s : State) (d : Fin 8), here s d ∧ may s ∧ (s.doorState d = dCLOSED ∨ s.doorState d = dHALTED) ∧ s.referenced (s.doorAxis d) = true ∧ s.doorTorque d = true) ∧
  (  let here := fun (s : State) (d : Fin 8) => s.mapOpen = true ∧ s.doorHere d = true
      let may := fun (s : State) => s.mode = mCOMMISSION ∨ s.mode = mRUN ∨ s.mode = mCHANGEOVER ∨ s.mode = mSAFE_HOLD ∨ (s.mode = mFAULT ∧ s.flag SYS_MODE_HOLD = false)
    ∃ (s : State) (d : Fin 8), here s d ∧ may s ∧ s.doorState d = dCLOSED ∧ s.referenced (s.doorAxis d) = true ∧ s.doorTorque d = false) ∧
  (  let here := fun (s : State) (d : Fin 8) => s.mapOpen = true ∧ s.doorHere d = true
      let may := fun (s : State) => s.mode = mCOMMISSION ∨ s.mode = mRUN ∨ s.mode = mCHANGEOVER ∨ s.mode = mSAFE_HOLD ∨ (s.mode = mFAULT ∧ s.flag SYS_MODE_HOLD = false)
    ∃ (s : State) (d : Fin 8), here s d ∧ may s ∧ s.doorState d = dLOCKED ∧ s.referenced (s.doorAxis d) = true ∧ ((∀ g : Fin 4, (s.f (DOOR_CFG_GROUPS d)).testBit g = true → s.confirmed g = true))) ∧
  (  let here := fun (s : State) (d : Fin 8) => s.mapOpen = true ∧ s.doorHere d = true
      let may := fun (s : State) => s.mode = mCOMMISSION ∨ s.mode = mRUN ∨ s.mode = mCHANGEOVER ∨ s.mode = mSAFE_HOLD ∨ (s.mode = mFAULT ∧ s.flag SYS_MODE_HOLD = false)
    ∃ (s : State) (d : Fin 8) (g : Fin 4), here s d ∧ may s ∧ s.doorState d = dLOCKED ∧ s.referenced (s.doorAxis d) = true ∧ (s.f (DOOR_CFG_GROUPS d)).testBit g = true ∧ s.confirmed g = false) ∧
  (  let here := fun (s : State) (d : Fin 8) => s.mapOpen = true ∧ s.doorHere d = true
      let may := fun (s : State) => s.mode = mCOMMISSION ∨ s.mode = mRUN ∨ s.mode = mCHANGEOVER ∨ s.mode = mSAFE_HOLD ∨ (s.mode = mFAULT ∧ s.flag SYS_MODE_HOLD = false)
    ∃ (s : State) (d : Fin 8), here s d ∧ may s ∧ (s.doorState d = dOPEN ∨ s.doorState d = dHALTED) ∧ s.doorTorque d = true) ∧
  (  let here := fun (s : State) (d : Fin 8) => s.mapOpen = true ∧ s.doorHere d = true
      let may := fun (s : State) => s.mode = mCOMMISSION ∨ s.mode = mRUN ∨ s.mode = mCHANGEOVER ∨ s.mode = mSAFE_HOLD ∨ (s.mode = mFAULT ∧ s.flag SYS_MODE_HOLD = false)
    ∃ (s : State) (d : Fin 8), here s d ∧ may s ∧ s.doorState d = dCLOSED) ∧
  (  let here := fun (s : State) (d : Fin 8) => s.mapOpen = true ∧ s.doorHere d = true
      let may := fun (s : State) => s.mode = mCOMMISSION ∨ s.mode = mRUN ∨ s.mode = mCHANGEOVER ∨ s.mode = mSAFE_HOLD ∨ (s.mode = mFAULT ∧ s.flag SYS_MODE_HOLD = false)
    ∃ (s : State) (d : Fin 8), here s d ∧ may s ∧ (s.doorState d = dOPENING ∨ s.doorState d = dCLOSING ∨ s.doorState d = dREVERSING)) ∧
  (  let here := fun (s : State) (d : Fin 8) => s.mapOpen = true ∧ s.doorHere d = true
      let may := fun (s : State) => s.mode = mCOMMISSION ∨ s.mode = mRUN ∨ s.mode = mCHANGEOVER ∨ s.mode = mSAFE_HOLD ∨ (s.mode = mFAULT ∧ s.flag SYS_MODE_HOLD = false)
    ∃ (s : State) (d : Fin 8), here s d ∧ may s ∧ (s.doorState d = dOPEN ∨ s.doorState d = dCLOSED ∨ s.doorState d = dHALTED)) ∧
  (  let here := fun (s : State) (d : Fin 8) => s.mapOpen = true ∧ s.doorHere d = true
      let may := fun (s : State) => s.mode = mCOMMISSION ∨ s.mode = mRUN ∨ s.mode = mCHANGEOVER ∨ s.mode = mSAFE_HOLD ∨ (s.mode = mFAULT ∧ s.flag SYS_MODE_HOLD = false)
    ∃ (s : State) (d : Fin 8), here s d ∧ may s ∧ s.doorState d = dFAULT ∧ ((s.f (DOOR_STATE_FCAUSE d) = 1 ∧ s.pairOk (s.f (DOOR_CFG_PAIR d)) = true ∧ s.flag (DOOR_STATE_CONF d) = false) ∨ (s.f (DOOR_STATE_FCAUSE d) ≠ 1 ∧ s.pairOk (s.f (DOOR_CFG_PAIR d)) = false ∧ s.doorPos d = s.posClosed d))) ∧
  (  let here := fun (s : State) (d : Fin 8) => s.mapOpen = true ∧ s.doorHere d = true
      let may := fun (s : State) => s.mode = mCOMMISSION ∨ s.mode = mRUN ∨ s.mode = mCHANGEOVER ∨ s.mode = mSAFE_HOLD ∨ (s.mode = mFAULT ∧ s.flag SYS_MODE_HOLD = false)
    ∃ (s : State) (d : Fin 8), here s d ∧ may s ∧ s.doorState d = dFAULT ∧ ((s.f (DOOR_STATE_FCAUSE d) = 1 → s.pairOk (s.f (DOOR_CFG_PAIR d)) = false ∨ s.flag (DOOR_STATE_CONF d) = true)) ∧ ((s.f (DOOR_STATE_FCAUSE d) ≠ 1 → s.pairOk (s.f (DOOR_CFG_PAIR d)) = true ∨ s.doorPos d ≠ s.posClosed d))) :=
  ⟨⟨(tst []), 0, 0, by decide +kernel⟩,
   ⟨(tst [(DOOR_STAT_PRESENT, 1), (SYS_MODE_MODE, mBARE)]), 0, by decide +kernel⟩,
   ⟨(dor dFAULT []), 0, by decide +kernel⟩,
   ⟨(dor dLOCKING []), 0, by decide +kernel⟩,
   ⟨(modDoor 0 (fun x => { x with cyc := true }) (dor dCLOSED [])), 0, by decide +kernel⟩,
   ⟨(dor dCLOSED [(TILE_FB_STAT_LOST 0, 1)]), 0, by decide +kernel⟩,
   ⟨(dor dLOCKED []), 0, by decide +kernel⟩,
   ⟨(dor dLOCKED [(DOOR_CFG_GROUPS 0, 1)]), 0, 0, by decide +kernel⟩,
   ⟨(dor dOPEN []), 0, by decide +kernel⟩,
   ⟨(dor dCLOSED []), 0, by decide +kernel⟩,
   ⟨(dor dREVERSING []), 0, by decide +kernel⟩,
   ⟨(dor dOPEN []), 0, by decide +kernel⟩,
   ⟨(dor dFAULT [(DOOR_STATE_FCAUSE 0, 1), (⟨SAFE_SI_REL, 0, 1⟩, 1)]), 0, by decide +kernel⟩,
   ⟨(dor dFAULT [(⟨SAFE_SI_REL, 0, 1⟩, 1)]), 0, by decide +kernel⟩⟩

/-- The hypotheses of each clause of Obligations.DoorEvents can be met. -/
theorem test_DoorEvents_meets :
  (∃ (s : State) (u : State) (d : Fin 8) (m : Nat), u = s.runTo m ∧ u.doorHere d = false) ∧
  (∃ (s : State) (u : State) (d : Fin 8) (m : Nat), u = s.runTo m ∧ u.doorHere d = true ∧ u.doorState d = dLOCKING) ∧
  (∃ (s : State) (u : State) (d : Fin 8) (m : Nat), u = s.runTo m ∧ u.doorHere d = true ∧ u.doorState d ≠ dLOCKING) ∧
  (∃ (s : State) (u : State) (d : Fin 8) (m : Nat), u = s.runTo m ∧ u.doorHere d = true ∧ u.doorState d = dUNLOCKING ∧ u.doorTorque d = true) ∧
  (∃ (s : State) (u : State) (d : Fin 8) (m : Nat), u = s.runTo m ∧ u.doorHere d = true ∧ u.doorState d = dUNLOCKING ∧ u.doorTorque d = false) ∧
  (∃ (s : State) (u : State) (d : Fin 8) (m : Nat), u = s.runTo m ∧ u.doorHere d = true ∧ u.doorState d ≠ dUNLOCKING ∧ ((∀ g : Fin 4, (u.f (DOOR_CFG_GROUPS d)).testBit g = true → u.shownGroup g = 0))) ∧
  (∃ (s : State) (u : State) (d : Fin 8) (m : Nat), u = s.runTo m ∧ u.doorHere d = true ∧ u.doorState d ≠ dUNLOCKING ∧ ((∃ g : Fin 4, (u.f (DOOR_CFG_GROUPS d)).testBit g = true ∧ u.shownGroup g ≠ 0))) ∧
  (∃ (s : State) (u : State) (d : Fin 8) (m : Nat) (w : Nat), u = s.runTo m ∧ (u.doors.get d).since = some w ∧ (u.doorState d = dLOCKING ∨ u.doorState d = dUNLOCKING) ∧ w + u.msCycles (u.f (DOOR_CFG2_T_LOCK d)) ≤ u.time.mono) ∧
  (∃ (s : State) (u : State) (d : Fin 8) (m : Nat), u = s.runTo m ∧ ((u.doors.get d).since = none ∨ (u.doorState d ≠ dLOCKING ∧ u.doorState d ≠ dUNLOCKING) ∨ (∃ w, (u.doors.get d).since = some w ∧ u.time.mono < w + u.msCycles (u.f (DOOR_CFG2_T_LOCK d))))) ∧
  (∃ (s : State) (u : State) (d : Fin 8) (m : Nat) (w : Nat), u = s.runTo m ∧ (u.doors.get d).since = some w ∧ u.doorState d = dCLOSING ∧ u.pairOk (u.f (DOOR_CFG_PAIR d)) = false ∧ w + u.msCycles (u.f (DOOR_REV_HIGH d)) ≤ u.time.mono) ∧
  (∃ (s : State) (u : State) (d : Fin 8) (m : Nat), u = s.runTo m ∧ ((u.doors.get d).since = none ∨ u.doorState d ≠ dCLOSING ∨ u.pairOk (u.f (DOOR_CFG_PAIR d)) = true ∨ (∃ w, (u.doors.get d).since = some w ∧ u.time.mono < w + u.msCycles (u.f (DOOR_REV_HIGH d))))) ∧
  (∃ (s : State) (u : State) (d : Fin 8) (m : Nat), u = s.runTo m ∧ (u.doorHere d = false ∨ (u.doors.get d).segs ≠ [] ∨ u.atRest (u.doorAxis d) = false ∨ (u.doorState d ≠ dOPENING ∧ u.doorState d ≠ dCLOSING ∧ u.doorState d ≠ dREVERSING) ∨ (u.doorState d = dOPENING ∧ (u.tiles.get (u.doorAxis d)).ps.p ≠ u.posOpen d * u64) ∨ (u.doorState d = dCLOSING ∧ (u.doors.get d).found = false ∧ (u.tiles.get (u.doorAxis d)).ps.p ≠ u.posClosed d * u64))) ∧
  (∃ (s : State) (u : State) (d : Fin 8) (m : Nat), u = s.runTo m ∧ u.doorHere d = true ∧ (u.doors.get d).segs = [] ∧ u.atRest (u.doorAxis d) = true ∧ u.doorState d = dOPENING ∧ (u.tiles.get (u.doorAxis d)).ps.p = u.posOpen d * u64) ∧
  (∃ (s : State) (u : State) (d : Fin 8) (m : Nat), u = s.runTo m ∧ u.doorHere d = true ∧ (u.doors.get d).segs = [] ∧ u.atRest (u.doorAxis d) = true ∧ u.doorState d = dCLOSING ∧ (u.doors.get d).found = false ∧ (u.tiles.get (u.doorAxis d)).ps.p = u.posClosed d * u64) ∧
  (∃ (s : State) (u : State) (d : Fin 8) (m : Nat), u = s.runTo m ∧ u.doorHere d = true ∧ (u.doors.get d).segs = [] ∧ u.atRest (u.doorAxis d) = true ∧ u.doorState d = dCLOSING ∧ (u.doors.get d).found = true) ∧
  (∃ (s : State) (u : State) (d : Fin 8) (m : Nat), u = s.runTo m ∧ u.doorHere d = true ∧ (u.doors.get d).segs = [] ∧ u.atRest (u.doorAxis d) = true ∧ u.doorState d = dREVERSING ∧ ((u.doors.get d).revGo = true ∨ (u.doors.get d).revEnd = true)) ∧
  (∃ (s : State) (u : State) (d : Fin 8) (m : Nat), u = s.runTo m ∧ u.doorHere d = true ∧ (u.doors.get d).segs = [] ∧ u.atRest (u.doorAxis d) = true ∧ u.doorState d = dREVERSING ∧ (u.doors.get d).revGo = false ∧ (u.doors.get d).revEnd = false) ∧
  (∃ (s : State) (d : Fin 8), s.doorHere d = true ∧ s.atTick = true ∧ ((s.flag (DOOR_CFG_EDGE_EN d) = true ∧ s.flag (DOOR_STATE_EDGE d) = true ∧ s.doorState d = dCLOSING) ∨ ((s.doorState d = dOPENING ∨ s.doorState d = dCLOSING ∨ s.doorState d = dREVERSING) ∧ s.f (DOOR_CFG2_N_OBS d) ≤ (s.doors.get d).overN ∧ 0 < (s.doors.get d).overN))) ∧
  (∃ (s : State) (d : Fin 8), (s.doorHere d = false ∨ s.atTick = false ∨ ((s.flag (DOOR_CFG_EDGE_EN d) = false ∨ s.flag (DOOR_STATE_EDGE d) = false ∨ s.doorState d ≠ dCLOSING) ∧ ((s.doorState d ≠ dOPENING ∧ s.doorState d ≠ dCLOSING ∧ s.doorState d ≠ dREVERSING) ∨ (s.doors.get d).overN < s.f (DOOR_CFG2_N_OBS d) ∨ (s.doors.get d).overN = 0)))) ∧
  (∃ (s : State) (d : Fin 8), s.doorHere d = true ∧ s.flag (DOOR_CFG_EDGE_EN d) = true) ∧
  (∃ (s : State) (d : Fin 8), (s.doorHere d = false ∨ s.flag (DOOR_CFG_EDGE_EN d) = false)) ∧
  (∃ (s : State) (u : State) (d : Fin 8) (m : Nat) (w : Nat), u = s.runTo m ∧ u.safe.withdrawn.get d = some w ∧ w + 40000000 ≤ u.time.mono ∧ (u.f DOOR_STAT_PERMIT).testBit d = false) ∧
  (∃ (s : State) (u : State) (d : Fin 8) (m : Nat), u = s.runTo m ∧ (u.safe.withdrawn.get d = none ∨ (u.f DOOR_STAT_PERMIT).testBit d = true ∨ (∃ w, u.safe.withdrawn.get d = some w ∧ u.time.mono < w + 40000000))) ∧
  (∃ (s : State) (u : State) (m : Nat), u = s.runTo m ∧ (u.mode = mRESET ∨ (∃ r, u.safe.evalAt = some r ∧ safePast r 10 u.time.mono = false))) ∧
  (∃ (s : State) (u : State) (m : Nat), u = s.runTo m ∧ u.mode ≠ mRESET ∧ ((∀ r, u.safe.evalAt = some r → safePast r 10 u.time.mono = true))) :=
  ⟨⟨(tst []), ((tst [])).runTo 0, 0, 0, rfl, by decide +kernel⟩,
   ⟨(dor dLOCKING []), ((dor dLOCKING [])).runTo 0, 0, 0, rfl, by decide +kernel, by decide +kernel⟩,
   ⟨(dor dOPENING []), ((dor dOPENING [])).runTo 0, 0, 0, rfl, by decide +kernel, by decide +kernel⟩,
   ⟨(modDoor 0 (fun x => { x with cyc := true }) (dor dUNLOCKING [])), ((modDoor 0 (fun x => { x with cyc := true }) (dor dUNLOCKING []))).runTo 0, 0, 0, rfl, by decide +kernel, by decide +kernel, by decide +kernel⟩,
   ⟨(dor dUNLOCKING [(TILE_FB_STAT_LOST 0, 1)]), ((dor dUNLOCKING [(TILE_FB_STAT_LOST 0, 1)])).runTo 0, 0, 0, rfl, by decide +kernel, by decide +kernel, by decide +kernel⟩,
   ⟨(dor dLOCKED []), ((dor dLOCKED [])).runTo 0, 0, 0, rfl, by decide +kernel, by decide +kernel, by decide +kernel⟩,
   ⟨(grp 0 1 0 0 (dor dLOCKED [(DOOR_CFG_GROUPS 0, 1)])), ((grp 0 1 0 0 (dor dLOCKED [(DOOR_CFG_GROUPS 0, 1)]))).runTo 0, 0, 0, rfl, by decide +kernel, by decide +kernel, by decide +kernel⟩,
   ⟨(modDoor 0 (fun x => { x with since := some 0 }) (dor dLOCKING [])), ((modDoor 0 (fun x => { x with since := some 0 }) (dor dLOCKING []))).runTo 0, 0, 0, 0, rfl, by decide +kernel, by decide +kernel, by decide +kernel⟩,
   ⟨(tst []), ((tst [])).runTo 0, 0, 0, rfl, by decide +kernel⟩,
   ⟨(modDoor 0 (fun x => { x with since := some 0 }) (dor dCLOSING [])), ((modDoor 0 (fun x => { x with since := some 0 }) (dor dCLOSING []))).runTo 0, 0, 0, 0, rfl, by decide +kernel, by decide +kernel, by decide +kernel, by decide +kernel⟩,
   ⟨(tst []), ((tst [])).runTo 0, 0, 0, rfl, by decide +kernel⟩,
   ⟨(tst []), ((tst [])).runTo 0, 0, 0, rfl, by decide +kernel⟩,
   ⟨(dor dOPENING []), ((dor dOPENING [])).runTo 0, 0, 0, rfl, by decide +kernel, by decide +kernel, by decide +kernel, by decide +kernel, by decide +kernel⟩,
   ⟨(dor dCLOSING []), ((dor dCLOSING [])).runTo 0, 0, 0, rfl, by decide +kernel, by decide +kernel, by decide +kernel, by decide +kernel, by decide +kernel, by decide +kernel⟩,
   ⟨(modDoor 0 (fun x => { x with found := true }) (dor dCLOSING [])), ((modDoor 0 (fun x => { x with found := true }) (dor dCLOSING []))).runTo 0, 0, 0, rfl, by decide +kernel, by decide +kernel, by decide +kernel, by decide +kernel, by decide +kernel⟩,
   ⟨(modDoor 0 (fun x => { x with revGo := true }) (dor dREVERSING [])), ((modDoor 0 (fun x => { x with revGo := true }) (dor dREVERSING []))).runTo 0, 0, 0, rfl, by decide +kernel, by decide +kernel, by decide +kernel, by decide +kernel, by decide +kernel⟩,
   ⟨(dor dREVERSING []), ((dor dREVERSING [])).runTo 0, 0, 0, rfl, by decide +kernel, by decide +kernel, by decide +kernel, by decide +kernel, by decide +kernel, by decide +kernel⟩,
   ⟨(modDoor 0 (fun x => { x with overN := 1 }) (dor dOPENING [(DOOR_CFG2_N_OBS 0, 1)])), 0, by decide +kernel⟩,
   ⟨(tst []), 0, by decide +kernel⟩,
   ⟨(dor dCLOSING [(DOOR_CFG_EDGE_EN 0, 1)]), 0, by decide +kernel⟩,
   ⟨(dor dOPENING [(DOOR_CFG2_N_OBS 0, 1)]), 0, by decide +kernel⟩,
   ⟨(modSafe (fun x => { x with withdrawn := x.withdrawn.set 0 (some 0) }) (dor 0 [])), ((modSafe (fun x => { x with withdrawn := x.withdrawn.set 0 (some 0) }) (dor 0 []))).runTo 40000000, 0, 40000000, 0, rfl, by decide +kernel, by decide +kernel, by decide +kernel⟩,
   ⟨(tst []), ((tst [])).runTo 0, 0, 0, rfl, by decide +kernel⟩,
   ⟨(tst [(SYS_MODE_MODE, mRESET)]), ((tst [(SYS_MODE_MODE, mRESET)])).runTo 0, 0, rfl, by decide +kernel⟩,
   ⟨(tst []), ((tst [])).runTo 0, 0, rfl, by decide +kernel, by decide +kernel⟩⟩

/-- The hypotheses of each clause of Obligations.RingMaster can be met. -/
theorem test_RingMaster_meets :
  (  let closing := fun (u : State) (r : Fin 2) => u.rstate r = rMASTER ∧ (u.ring r).closed = none ∧
        (u.ring r).nextDep ≤ u.time.now + 5000 * Config.nsUnits ∧ u.closeMono r = u.time.mono
    ∃ (s : State) (u : State) (r : Fin 2) (m : Nat), u = s.runTo m ∧ ¬ closing u r) ∧
  (  let closing := fun (u : State) (r : Fin 2) => u.rstate r = rMASTER ∧ (u.ring r).closed = none ∧
        (u.ring r).nextDep ≤ u.time.now + 5000 * Config.nsUnits ∧ u.closeMono r = u.time.mono
    ∃ (s : State) (u : State) (r : Fin 2) (m : Nat), u = s.runTo m ∧ closing u r) ∧
  (  let closing := fun (u : State) (r : Fin 2) => u.rstate r = rMASTER ∧ (u.ring r).closed = none ∧
        (u.ring r).nextDep ≤ u.time.now + 5000 * Config.nsUnits ∧ u.closeMono r = u.time.mono
    ∃ (s : State) (u : State) (r : Fin 2) (m : Nat), u = s.runTo m ∧ closing u r ∧ ((∀ g ∈ State.allSegs (u.ringDef r), g.kind = 1))) ∧
  (∃ (s : State) (u : State) (r : Fin 2) (m : Nat), u = (s.runTo m).takeStep.swapFirst ∧ (u.rstate r ≠ rMASTER ∨ u.ringDue r = false)) ∧
  (  let due := fun (s u : State) (r : Fin 2) (m : Nat) => u = (s.runTo m).takeStep.swapFirst ∧ u.rstate r = rMASTER ∧ u.ringDue r = true
    ∃ (s : State) (u : State) (v : State) (r : Fin 2) (m : Nat), due s u r m ∧ v = u.ringAlign r) ∧
  (  let due := fun (s u : State) (r : Fin 2) (m : Nat) => u = (s.runTo m).takeStep.swapFirst ∧ u.rstate r = rMASTER ∧ u.ringDue r = true
    ∃ (s : State) (u : State) (v : State) (r : Fin 2) (m : Nat), due s u r m ∧ v = u.ringAlign r ∧ (u.ring r).done = true ∧ (u.ring r).closed.isSome = true ∧ ((v.decide_ r).2 = false ∨ u.flag (KR_RING_OPEN r) = true)) ∧
  (  let due := fun (s u : State) (r : Fin 2) (m : Nat) => u = (s.runTo m).takeStep.swapFirst ∧ u.rstate r = rMASTER ∧ u.ringDue r = true
    ∃ (s : State) (u : State) (v : State) (r : Fin 2) (m : Nat), due s u r m ∧ v = u.ringAlign r ∧ (u.ring r).done = true ∧ (u.ring r).closed.isSome = true ∧ (v.decide_ r).2 = true ∧ u.flag (KR_RING_OPEN r) = false ∧ u.swapArmed = false) ∧
  (  let due := fun (s u : State) (r : Fin 2) (m : Nat) => u = (s.runTo m).takeStep.swapFirst ∧ u.rstate r = rMASTER ∧ u.ringDue r = true
    ∃ (s : State) (u : State) (r : Fin 2) (m : Nat) (k : RCopy), due s u r m ∧ (u.ring r).done = false ∧ (u.ring r).cp = some k ∧ (u.ring r).cs = none ∧ k.got = false ∧ k.missing = false ∧ u.swapArmed = false ∧ (u.ring r).closed.isSome = true) ∧
  (∃ (s : State) (u : State) (r : Fin 2) (m : Nat), u = s.runTo m ∧ u.rstate r ≠ rMASTER) ∧
  (  let inTime := fun (u : State) (r : Fin 2) => u.time.now < (u.ring r).nextDep + 200 * Config.nsUnits
    ∃ (s : State) (u : State) (r : Fin 2) (f : RFrame) (k : RCopy) (m : Nat), u = s.runTo m ∧ u.rstate r = rMASTER ∧ (u.ring r).cp = some k ∧ k.f.mode ≠ fWIDE ∧ f.hcrc = true ∧ k.f.cycle = f.cycle ∧ inTime u r) ∧
  (  let inTime := fun (u : State) (r : Fin 2) => u.time.now < (u.ring r).nextDep + 200 * Config.nsUnits
    ∃ (s : State) (u : State) (r : Fin 2) (onS : Bool) (f : RFrame) (m : Nat), u = s.runTo m ∧ u.rstate r = rMASTER ∧ ((∀ k, (u.ring r).cp = some k → k.f.mode ≠ fWIDE)) ∧ (onS = true ∨ f.hcrc = false ∨ (∀ k, (u.ring r).cp = some k → k.f.cycle ≠ f.cycle) ∨ ¬ inTime u r)) ∧
  (∃ (s : State) (u : State) (r : Fin 2) (far : Bool) (m : Nat), u = s.runTo m ∧ u.rstate r = rMASTER ∧ (far = false ∨ (∃ k, (u.ring r).cp = some k ∧ k.f.mode = fWIDE))) ∧
  (∃ (u : State) (r : Fin 2) (onS : Bool), u.copyOut r onS = none) ∧
  (  let plain := fun (s : State) (r : Fin 2) => ∀ g ∈ (s.ringDef r).segs, g.kind = 1
      let inTime := fun (u : State) (r : Fin 2) => u.time.now < (u.ring r).nextDep + 200 * Config.nsUnits
    ∃ (u : State) (r : Fin 2) (onS : Bool) (f : RFrame) (k : RCopy), plain u r ∧ u.copyOut r onS = some k ∧ k.f.mode ≠ fWIDE ∧ (k.got = true ∨ k.missing = true ∨ (u.ring r).done = true ∨ (f.hcrc = true ∧ f.cycle ≠ k.f.cycle) ∨ ¬ inTime u r)) ∧
  (  let plain := fun (s : State) (r : Fin 2) => ∀ g ∈ (s.ringDef r).segs, g.kind = 1
      let inTime := fun (u : State) (r : Fin 2) => u.time.now < (u.ring r).nextDep + 200 * Config.nsUnits
    ∃ (u : State) (r : Fin 2) (f : RFrame) (k : RCopy) (j : RCopy), plain u r ∧ (u.ring r).done = false ∧ (u.ring r).cp = some k ∧ (u.ring r).cs = some j ∧ k.got = false ∧ k.missing = false ∧ j.got = false ∧ j.missing = false ∧ k.f.mode = fHEAL ∧ inTime u r ∧ u.flag (KR_RING_OPEN r) = true ∧ u.f (KR_BRK_LOOP_P r) = f.loopAddr % 65536 ∧ f.loopAddr < 65536 ∧ f.fcs = true ∧ f.hcrc = true ∧ f.type = 0 ∧ f.epoch = k.f.epoch ∧ f.cycle = k.f.cycle ∧ f.sid = k.f.sid) ∧
  (  let plain := fun (s : State) (r : Fin 2) => ∀ g ∈ (s.ringDef r).segs, g.kind = 1
      let inTime := fun (u : State) (r : Fin 2) => u.time.now < (u.ring r).nextDep + 200 * Config.nsUnits
      let noCopyFields := fun (f : RFrame) (k : RCopy) => f.fcs = false ∨ f.hcrc = false ∨ f.type ≠ 0 ∨ f.epoch ≠ k.f.epoch ∨ f.cycle ≠ k.f.cycle ∨ f.sid ≠ k.f.sid
    ∃ (u : State) (r : Fin 2) (f : RFrame) (k : RCopy) (j : RCopy), plain u r ∧ (u.ring r).done = false ∧ (u.ring r).cp = some k ∧ (u.ring r).cs = some j ∧ k.got = false ∧ k.missing = false ∧ j.got = false ∧ j.missing = false ∧ k.f.mode = fHEAL ∧ inTime u r ∧ ((f.hcrc = true → f.cycle = k.f.cycle)) ∧ noCopyFields f k) ∧
  (∃ (s : State) (r : Fin 2) (n : Nat), s.flag (KR_NODE_PRESENT r n) = true ∧ s.f (KR_WIN_NSILT r) ≤ s.f (KR_NODE_SILT r n) ∧ s.f (KR_WIN_NSILT r) ≠ 0 ∧ n ∉ (s.ring r).siltRaised) ∧
  (∃ (s : State) (r : Fin 2) (n : Nat), (s.flag (KR_NODE_PRESENT r n) = false ∨ s.f (KR_NODE_SILT r n) < s.f (KR_WIN_NSILT r) ∨ s.f (KR_WIN_NSILT r) = 0 ∨ n ∈ (s.ring r).siltRaised)) ∧
  (∃ (s : State), s.mode < mBARE) ∧
  (∃ (s : State), mBARE ≤ s.mode) ∧
  (∃ (s : State) (r : Fin 2), s.rstate r = rMASTER) ∧
  (∃ (s : State) (r : Fin 2) (m : Nat), (s.runTo m).rstate r ≠ rMASTER ∧ s.rstate r ≠ rMASTER) ∧
  (∃ (s : State) (r : Fin 2) (want : Nat), s.rstate r = rMASTER ∧ want = (match s.cfg.nodesFor with | some i => i.sid | none => match s.cfg.shadow with | some i => i.sid | none => s.rdN (KR_SID r))) ∧
  (∃ (s : State) (r : Fin 2) (n : Nat) (i : Image), s.rstate r = rMASTER ∧ s.cfg.nodesFor = some i ∧ n < 512 ∧ (s.setF (KR_NODE_PEND_ACK r n) 1).nodesAcked i = true ∧ i.hash.length = 12) ∧
  (∃ (s : State) (u : State) (r : Fin 2) (n : Nat) (p : Bool) (q : Bool) (l : Bool) (m : Nat), u = s.runTo m ∧ u.rstate r = rMASTER ∧ ((∀ x, (u.ring r).links.find? (fun (x : NodeLink) => x.node == n) = some x → x.p ≠ p ∨ x.s ≠ q ∨ x.loop ≠ l))) ∧
  (∃ (s : State) (u : State) (r : Fin 2) (n : Nat) (x : NodeLink) (m : Nat), u = s.runTo m ∧ (u.ring r).links.find? (fun (x : NodeLink) => x.node == n) = some x) ∧
  (∃ (s : State) (r : Fin 2) (x : SvcMsg), s.rstate r = rMASTER ∧ 0x10 ≤ x.type ∧ ((∀ y ∈ s.st.svcRoutes, y.code ≠ x.type))) ∧
  (∃ (s : State) (r : Fin 2) (x : SvcMsg) (y : Route) (n : Fin 16) (w : Work), s.rstate r = rMASTER ∧ 0x10 ≤ x.type ∧ s.st.svcRoutes.find? (fun (y : Route) => y.code == x.type) = some y ∧ n = (if r = 0 then 2 else 3) ∧ w = { src := 2 + r.val, handler := y.handler, key := y.key, group := y.group, payload := natLE 2 x.node ++ natLE 1 x.type ++ natLE 1 0 ++ natLE 4 x.tag ++ x.data, entry := s.time.now, late := false, id := s.sched.nextId }) ∧
  (∃ (x : SvcMsg), x.type < 0x10) :=
  ⟨⟨(modRing 0 (fun x => { x with nextDep := 1 }) (tst [])), ((modRing 0 (fun x => { x with nextDep := 1 }) (tst []))).runTo 0, 0, 0, rfl, by decide +kernel⟩,
   ⟨(tst [(KR_STAT_STATE 0, rMASTER)]), ((tst [(KR_STAT_STATE 0, rMASTER)])).runTo 0, 0, 0, rfl, by decide +kernel⟩,
   ⟨(tst [(KR_STAT_STATE 0, rMASTER)]), ((tst [(KR_STAT_STATE 0, rMASTER)])).runTo 0, 0, 0, rfl, by decide +kernel, by decide +kernel⟩,
   ⟨(tst []), (((tst [])).runTo 0).takeStep.swapFirst, 0, 0, rfl, by decide +kernel⟩,
   ⟨(modRing 0 (fun x => { x with closed := some [] }) (tst [(KR_STAT_STATE 0, rMASTER), (KR_RING_OPEN 0, 1)])), (modRing 0 (fun x => { x with closed := some [] }) (tst [(KR_STAT_STATE 0, rMASTER), (KR_RING_OPEN 0, 1)])), ((modRing 0 (fun x => { x with closed := some [] }) (tst [(KR_STAT_STATE 0, rMASTER), (KR_RING_OPEN 0, 1)]))).ringAlign 0, 0, 0, by decide +kernel, rfl⟩,
   ⟨(modRing 0 (fun x => { x with closed := some [] }) (tst [(KR_STAT_STATE 0, rMASTER), (KR_RING_OPEN 0, 1)])), (modRing 0 (fun x => { x with closed := some [] }) (tst [(KR_STAT_STATE 0, rMASTER), (KR_RING_OPEN 0, 1)])), ((modRing 0 (fun x => { x with closed := some [] }) (tst [(KR_STAT_STATE 0, rMASTER), (KR_RING_OPEN 0, 1)]))).ringAlign 0, 0, 0, by decide +kernel, rfl, by decide +kernel, by decide +kernel, by decide +kernel⟩,
   ⟨(modRing 0 (fun x => { x with closed := some [], cp := some { cpy with got := true } }) (tst [((KR_RING_OPEN 0), 0), (KR_STAT_STATE 0, rMASTER), (KR_STAT_LINK_P 0, 1), (KR_STAT_LINK_S 0, 1), (KR_CFG_MODE 0, 1), (KR_STAT_MODE 0, fWIDE)])), (modRing 0 (fun x => { x with closed := some [], cp := some { cpy with got := true } }) (tst [((KR_RING_OPEN 0), 0), (KR_STAT_STATE 0, rMASTER), (KR_STAT_LINK_P 0, 1), (KR_STAT_LINK_S 0, 1), (KR_CFG_MODE 0, 1), (KR_STAT_MODE 0, fWIDE)])), ((modRing 0 (fun x => { x with closed := some [], cp := some { cpy with got := true } }) (tst [((KR_RING_OPEN 0), 0), (KR_STAT_STATE 0, rMASTER), (KR_STAT_LINK_P 0, 1), (KR_STAT_LINK_S 0, 1), (KR_CFG_MODE 0, 1), (KR_STAT_MODE 0, fWIDE)]))).ringAlign 0, 0, 0, by decide +kernel, rfl, by decide +kernel, by decide +kernel, by decide +kernel, by decide +kernel, by decide +kernel⟩,
   ⟨(modRing 0 (fun x => { x with closed := some [], cp := some cpy, done := false }) (tst [(KR_STAT_STATE 0, rMASTER)])), (modRing 0 (fun x => { x with closed := some [], cp := some cpy, done := false }) (tst [(KR_STAT_STATE 0, rMASTER)])), 0, 0, cpy, by decide +kernel⟩,
   ⟨(tst []), ((tst [])).runTo 0, 0, 0, rfl, by decide +kernel⟩,
   ⟨(modRing 0 (fun x => { x with cp := some cpy }) (tst [(KR_STAT_STATE 0, rMASTER)])), ((modRing 0 (fun x => { x with cp := some cpy }) (tst [(KR_STAT_STATE 0, rMASTER)]))).runTo 0, 0, frm 0, cpy, 0, rfl, by decide +kernel, by decide +kernel, by decide +kernel, by decide +kernel, by decide +kernel, by decide +kernel⟩,
   ⟨(tst [(KR_STAT_STATE 0, rMASTER)]), ((tst [(KR_STAT_STATE 0, rMASTER)])).runTo 0, 0, true, frm 0, 0, rfl, by decide +kernel, noSome (by decide +kernel), Or.inl rfl⟩,
   ⟨(tst [(KR_STAT_STATE 0, rMASTER)]), ((tst [(KR_STAT_STATE 0, rMASTER)])).runTo 0, 0, false, 0, rfl, by decide +kernel, Or.inl rfl⟩,
   ⟨(tst []), 0, false, by decide +kernel⟩,
   ⟨(modRing 0 (fun x => { x with cp := some { wideCpy with got := true } }) (tst [])), 0, false, frm 0, { wideCpy with got := true }, by decide +kernel⟩,
   ⟨(modRing 0 (fun x => { x with done := false, cp := some wideCpy, cs := some wideCpy }) (tst [((KR_RING_OPEN 0), 1), (KR_STAT_STATE 0, rMASTER), (KR_RING_OPEN 0, 1), (KR_BRK_LOOP_P 0, 65535)])), 0, frm 0, wideCpy, wideCpy, by decide +kernel⟩,
   ⟨(modRing 0 (fun x => { x with done := false, cp := some wideCpy, cs := some wideCpy }) (tst [(KR_STAT_STATE 0, rMASTER)])), 0, { frm 0 with fcs := false }, wideCpy, wideCpy, by decide +kernel⟩,
   ⟨(tst [((KR_NODE_PRESENT 0 0), 1), (KR_NODE_PRESENT 0 0, 1), (KR_WIN_NSILT 0, 1), (KR_NODE_SILT 0 0, 1)]), 0, 0, by decide +kernel⟩,
   ⟨(tst []), 0, 0, by decide +kernel⟩,
   ⟨(tst []), by decide +kernel⟩,
   ⟨(tst [(SYS_MODE_MODE, mRUN)]), by decide +kernel⟩,
   ⟨(tst [(KR_STAT_STATE 0, rMASTER)]), 0, by decide +kernel⟩,
   ⟨(tst []), 0, 0, by decide +kernel⟩,
   ⟨(tst [(KR_STAT_STATE 0, rMASTER)]), 0, 0, by decide +kernel⟩,
   ⟨(modCfg (fun x => { x with nodesFor := some img0 }) (tst [(KR_STAT_STATE 0, rMASTER)])), 0, 0, img0, by decide +kernel⟩,
   ⟨(tst [(KR_STAT_STATE 0, rMASTER)]), ((tst [(KR_STAT_STATE 0, rMASTER)])).runTo 0, 0, 0, false, false, false, 0, rfl, by decide +kernel, noSome (by decide +kernel)⟩,
   ⟨(modRing 0 (fun x => { x with links := [nl true true] }) (tst [])), ((modRing 0 (fun x => { x with links := [nl true true] }) (tst []))).runTo 0, 0, 0, nl true true, 0, rfl, by decide +kernel⟩,
   ⟨(tst [(KR_STAT_STATE 0, rMASTER)]), 0, (⟨0, 0x10, 0, []⟩ : SvcMsg), by decide +kernel⟩,
   ⟨(inImg { svcRoutes := [⟨0x10, 0, 0, 0⟩] } (tst [(KR_STAT_STATE 0, rMASTER)])), 0, (⟨0, 0x10, 0, []⟩ : SvcMsg), (⟨0x10, 0, 0, 0⟩ : Route), 2, { src := 2, handler := 0, key := 0, group := 0, payload := [0, 0, 16, 0, 0, 0, 0, 0], entry := 0, late := false, id := 0 }, by decide +kernel⟩,
   ⟨(⟨0, 0xF, 0, []⟩ : SvcMsg), by decide +kernel⟩⟩

/-- The hypotheses of each clause of Obligations.RingClaims can be met. -/
theorem test_RingClaims_meets :
  (  let claims := fun (u : State) (r : Fin 2) => u.rstate r = rCLAIM ∧ (∀ a, (u.ring r).claimAt = some a → a + u.usCycles 100 ≤ u.time.mono) ∧
        (u.flag (KR_STAT_LINK_P r) = true ∨ u.flag (KR_STAT_LINK_S r) = true)
    ∃ (s : State) (u : State) (r : Fin 2) (m : Nat), u = s.runTo m ∧ claims u r) ∧
  (  let claims := fun (u : State) (r : Fin 2) => u.rstate r = rCLAIM ∧ (∀ a, (u.ring r).claimAt = some a → a + u.usCycles 100 ≤ u.time.mono) ∧
        (u.flag (KR_STAT_LINK_P r) = true ∨ u.flag (KR_STAT_LINK_S r) = true)
    ∃ (s : State) (u : State) (r : Fin 2) (m : Nat), u = s.runTo m ∧ ¬ claims u r) ∧
  (∃ (s : State) (r : Fin 2), s.rstate r = rCLAIM ∧ (s.ring r).claimTx.isSome = true) ∧
  (∃ (s : State) (r : Fin 2), (s.rstate r ≠ rCLAIM ∨ (s.ring r).claimTx = none)) ∧
  (  let wins := fun (u : State) (r : Fin 2) => u.rstate r = rCLAIM ∧ 3 ≤ u.f (KR_CLAIM_SENT r) ∧ u.onGrid Config.gridUnits = true ∧
        ∃ a, (u.ring r).claimFrom = some a ∧ a + u.usCycles (300 + u.f (KR_CLAIM_TCLX r)) ≤ u.time.mono
    ∃ (s : State) (u : State) (r : Fin 2) (m : Nat), u = (s.runTo m).takeStep ∧ wins u r) ∧
  (  let wins := fun (u : State) (r : Fin 2) => u.rstate r = rCLAIM ∧ 3 ≤ u.f (KR_CLAIM_SENT r) ∧ u.onGrid Config.gridUnits = true ∧
        ∃ a, (u.ring r).claimFrom = some a ∧ a + u.usCycles (300 + u.f (KR_CLAIM_TCLX r)) ≤ u.time.mono
    ∃ (s : State) (u : State) (r : Fin 2) (m : Nat), u = (s.runTo m).takeStep ∧ ¬ wins u r) ∧
  (∃ (s : State) (f : RFrame), (f.hcrc = false ∨ f.fcs = false ∨ s.mode < mBARE)) ∧
  (∃ (s : State) (r : Fin 2) (f : RFrame) (a : Bool), f.hcrc = true ∧ f.fcs = true ∧ mBARE ≤ s.mode ∧ s.higher r a f = true ∧ (s.rstate r = rCLAIM ∨ (s.rstate r = rMASTER ∧ s.startNow r = true))) ∧
  (∃ (s : State) (r : Fin 2) (f : RFrame) (a : Bool), f.hcrc = true ∧ f.fcs = true ∧ mBARE ≤ s.mode ∧ s.rstate r = rMASTER ∧ s.startNow r = false ∧ s.higher r a f = true) ∧
  (∃ (s : State) (r : Fin 2) (f : RFrame) (a : Bool), f.hcrc = true ∧ f.fcs = true ∧ mBARE ≤ s.mode ∧ (s.higher r a f = false ∨ (s.rstate r ≠ rCLAIM ∧ s.rstate r ≠ rMASTER))) ∧
  (∃ (s : State) (r : Fin 2), s.role = 1 ∧ s.rstate r = rMASTER ∧ (2 ≤ (s.ring r).noCopy ∨ (2 ≤ (s.ring r).parts ∧ ∀ q, s.rstate q = rMASTER → 2 ≤ (s.ring q).parts))) ∧
  (∃ (s : State) (r : Fin 2), (s.role ≠ 1 ∨ s.rstate r ≠ rMASTER ∨ ((s.ring r).noCopy < 2 ∧ ((s.ring r).parts < 2 ∨ ∃ q, s.rstate q = rMASTER ∧ (s.ring q).parts < 2)))) ∧
  (  let loops := fun (u : State) (r : Fin 2) => (u.ring r).links.filter (fun (x : NodeLink) => x.loop)
      let ready := fun (u : State) (r : Fin 2) => u.rstate r = rMASTER ∧ loops u r ≠ [] ∧
        ∀ x ∈ loops u r, x.p = true ∧ x.s = true ∧ x.at_ + u.msCycles (u.ringDef r).clstab ≤ u.time.mono
    ∃ (s : State) (u : State) (r : Fin 2) (m : Nat), u = s.runTo m ∧ ¬ ready u r) ∧
  (  let loops := fun (u : State) (r : Fin 2) => (u.ring r).links.filter (fun (x : NodeLink) => x.loop)
      let ready := fun (u : State) (r : Fin 2) => u.rstate r = rMASTER ∧ loops u r ≠ [] ∧
        ∀ x ∈ loops u r, x.p = true ∧ x.s = true ∧ x.at_ + u.msCycles (u.ringDef r).clstab ≤ u.time.mono
    ∃ (s : State) (u : State) (r : Fin 2) (m : Nat), u = s.runTo m ∧ ready u r ∧ (u.flag (KR_RING_AUTO_CLOSE r) = false ∨ u.flag (KR_RING_CLOSE_READY r) = true ∨ (u.ring r).closeAt.isSome = true)) ∧
  (  let loops := fun (u : State) (r : Fin 2) => (u.ring r).links.filter (fun (x : NodeLink) => x.loop)
      let ready := fun (u : State) (r : Fin 2) => u.rstate r = rMASTER ∧ loops u r ≠ [] ∧
        ∀ x ∈ loops u r, x.p = true ∧ x.s = true ∧ x.at_ + u.msCycles (u.ringDef r).clstab ≤ u.time.mono
    ∃ (s : State) (u : State) (r : Fin 2) (m : Nat), u = s.runTo m ∧ ready u r ∧ u.flag (KR_RING_AUTO_CLOSE r) = true ∧ (u.ring r).closeAt = none ∧ u.flag (KR_RING_CLOSE_READY r) = false) ∧
  (∃ (s : State) (r : Fin 2) (k : Nat), (k ≠ 0x4B43 ∨ s.mapOpen = false ∨ (s.flag (KR_RING_CLOSE_READY r) = true ∧ (s.ring r).closeAt.isSome = true))) ∧
  (∃ (s : State) (r : Fin 2), s.mapOpen = true ∧ s.flag (KR_RING_CLOSE_READY r) = true ∧ (s.ring r).closeAt = none) ∧
  (∃ (s : State) (r : Fin 2), s.mapOpen = true ∧ s.flag (KR_RING_CLOSE_READY r) = false) :=
  ⟨⟨(tst [(KR_STAT_STATE 0, rCLAIM), (KR_STAT_LINK_P 0, 1)]), ((tst [(KR_STAT_STATE 0, rCLAIM), (KR_STAT_LINK_P 0, 1)])).runTo 0, 0, 0, rfl, ⟨by decide +kernel, noSome (by decide +kernel), by decide +kernel⟩⟩,
   ⟨(tst []), ((tst [])).runTo 0, 0, 0, rfl, by decide +kernel⟩,
   ⟨(modRing 0 (fun x => { x with claimTx := some (frm 1) }) (tst [(KR_STAT_STATE 0, rCLAIM)])), 0, by decide +kernel⟩,
   ⟨(tst []), 0, by decide +kernel⟩,
   ⟨(modRing 0 (fun x => { x with claimFrom := some 0 }) (modCfg (fun x => { x with run := some img0 }) (tst [(KR_STAT_STATE 0, rCLAIM), (KR_CLAIM_SENT 0, 3)]))), (((modRing 0 (fun x => { x with claimFrom := some 0 }) (modCfg (fun x => { x with run := some img0 }) (tst [(KR_STAT_STATE 0, rCLAIM), (KR_CLAIM_SENT 0, 3)])))).runTo 4000000).takeStep, 0, 4000000, rfl, by decide +kernel⟩,
   ⟨(tst []), (((tst [])).runTo 0).takeStep, 0, 0, rfl, by decide +kernel⟩,
   ⟨(tst []), { frm 0 with fcs := false }, by decide +kernel⟩,
   ⟨(tst [(KR_STAT_STATE 0, rCLAIM), (SYS_MODE_MODE, mRUN)]), 0, { frm 1 with epoch := 1 }, false, by decide +kernel⟩,
   ⟨(modRing 0 (fun x => { x with firstAt := some 1 }) (tst [(KR_STAT_STATE 0, rMASTER), (SYS_MODE_MODE, mRUN)])), 0, { frm 1 with epoch := 1 }, false, by decide +kernel⟩,
   ⟨(tst [(SYS_MODE_MODE, mRUN)]), 0, frm 1, false, by decide +kernel⟩,
   ⟨(modRing 0 (fun x => { x with noCopy := 2 }) (tst [(RED_STAT_ROLE, 1), (KR_STAT_STATE 0, rMASTER)])), 0, by decide +kernel⟩,
   ⟨(tst []), 0, by decide +kernel⟩,
   ⟨(modRing 0 (fun x => { x with links := [nl false true] }) (tst [])), ((modRing 0 (fun x => { x with links := [nl false true] }) (tst []))).runTo 0, 0, 0, rfl, by decide +kernel⟩,
   ⟨(modRing 0 (fun x => { x with links := [nl true true] }) (tst [(KR_STAT_STATE 0, rMASTER)])), ((modRing 0 (fun x => { x with links := [nl true true] }) (tst [(KR_STAT_STATE 0, rMASTER)]))).runTo 800000000, 0, 800000000, rfl, by decide +kernel, by decide +kernel⟩,
   ⟨(modRing 0 (fun x => { x with links := [nl true true] }) (tst [((KR_RING_AUTO_CLOSE 0), 1), ((KR_RING_CLOSE_READY 0), 0), (KR_STAT_STATE 0, rMASTER)])), ((modRing 0 (fun x => { x with links := [nl true true] }) (tst [((KR_RING_AUTO_CLOSE 0), 1), ((KR_RING_CLOSE_READY 0), 0), (KR_STAT_STATE 0, rMASTER)]))).runTo 800000000, 0, 800000000, rfl, by decide +kernel, by decide +kernel, by decide +kernel, by decide +kernel⟩,
   ⟨(tst []), 0, 0, by decide +kernel⟩,
   ⟨(tst [((KR_RING_CLOSE_READY 0), 1)]), 0, by decide +kernel⟩,
   ⟨(modRing 0 (fun x => { x with links := [nl true true] }) (tst [((KR_RING_CLOSE_READY 0), 0)])), 0, by decide +kernel⟩⟩

/-- The hypotheses of each clause of Obligations.FieldBarrierRuns can be met. -/
theorem test_FieldBarrierRuns_meets :
  (∃ (s : State) (u : State) (v : State) (d : Fin 2) (m : Nat), u = s.runTo m ∧ v = u.foutRefresh d ∧ u.mode ≠ mRESET ∧ u.refreshDue d = true) ∧
  (∃ (s : State) (u : State) (d : Fin 2) (m : Nat), u = s.runTo m ∧ (u.mode = mRESET ∨ u.refreshDue d = false)) ∧
  (∃ (s : State) (u : State) (m : Nat), u = s.runTo m ∧ u.mode = mRESET) ∧
  (∃ (s : State) (u : State) (m : Nat), u = s.runTo m ∧ u.mode ≠ mRESET) ∧
  (∃ (s : State) (u : State) (m : Nat), u = s.runTo m ∧ u.mode ≠ mRESET) ∧
  (∃ (s : State) (u : State) (d : Fin 2) (w : Word) (m : Nat) (k : Nat) (hk : 32 * d.val + k < 64), u = s.runTo m ∧ u.mode ≠ mRESET ∧ k < 32 ∧ u.f FIO_STAT_FMODE = fmDEBOUNCE ∧ 4 ≤ u.f (FIO_INCFG_TP (32 * d.val + k)) ∧ u.flag (FIO_INCFG_INV (32 * d.val + k)) = false ∧ (u.fio.filt.get ⟨32 * d.val + k, hk⟩).out ≠ w.toNat.testBit k) ∧
  (∃ (s : State) (u : State) (d : Fin 2) (m : Nat), u = s.runTo m ∧ u.mode ≠ mRESET ∧ (u.fio.dies.get d).lost = false ∧ (u.fio.dies.get d).rx.getD 0 + u.usCycles 10 ≤ u.time.mono) ∧
  (∃ (s : State) (u : State) (d : Fin 2) (m : Nat), u = s.runTo m ∧ (u.mode = mRESET ∨ (u.fio.dies.get d).lost = true ∨ u.time.mono < (u.fio.dies.get d).rx.getD 0 + u.usCycles 10)) ∧
  (∃ (s : State), s.mapOpen = false) ∧
  (∃ (s : State), s.mapOpen = true) :=
  ⟨⟨(tst []), ((tst [])).runTo 0, (((tst [])).runTo 0).foutRefresh 0, 0, 0, rfl, rfl, by decide +kernel, by decide +kernel⟩,
   ⟨(tst [(SYS_MODE_MODE, mRESET)]), ((tst [(SYS_MODE_MODE, mRESET)])).runTo 0, 0, 0, rfl, by decide +kernel⟩,
   ⟨(tst [(SYS_MODE_MODE, mRESET)]), ((tst [(SYS_MODE_MODE, mRESET)])).runTo 0, 0, rfl, by decide +kernel⟩,
   ⟨(tst []), ((tst [])).runTo 0, 0, rfl, by decide +kernel⟩,
   ⟨(tst []), ((tst [])).runTo 0, 0, rfl, by decide +kernel⟩,
   ⟨(tst [(FIO_STAT_FMODE, fmDEBOUNCE), ((FIO_INCFG_INV (32 * ((0 : Fin 2)).val + 0)), 0), (FIO_STAT_FMODE, fmDEBOUNCE), (FIO_INCFG_TP 0, 4)]), ((tst [(FIO_STAT_FMODE, fmDEBOUNCE), ((FIO_INCFG_INV (32 * ((0 : Fin 2)).val + 0)), 0), (FIO_STAT_FMODE, fmDEBOUNCE), (FIO_INCFG_TP 0, 4)])).runTo 0, (0 : Fin 2), 1, 0, 0, (by decide), rfl, by decide +kernel, by decide +kernel, by decide +kernel, by decide +kernel, by decide +kernel, by decide +kernel⟩,
   ⟨(tst []), ((tst [])).runTo 8000, 0, 8000, rfl, by decide +kernel, by decide +kernel, by decide +kernel⟩,
   ⟨({ (tst []) with fio := { (tst []).fio with dies := (tst []).fio.dies.set 0 { lost := true } } }), (({ (tst []) with fio := { (tst []).fio with dies := (tst []).fio.dies.set 0 { lost := true } } })).runTo 0, 0, 0, rfl, by decide +kernel⟩,
   ⟨(tst [(SYS_MODE_MODE, mRESET)]), by decide +kernel⟩,
   ⟨(tst []), by decide +kernel⟩⟩

/-- The hypotheses of each clause of Obligations.FieldSupply can be met. -/
theorem test_FieldSupply_meets :
  (∃ (s : State) (v : Nat), s.mode ≠ mRESET ∧ s.vfState = 0 ∧ v < 18300) ∧
  (∃ (s : State) (v : Nat), (s.mode = mRESET ∨ s.vfState ≠ 0 ∨ 18300 ≤ v)) ∧
  (∃ (s : State) (v : Nat), s.mode ≠ mRESET ∧ s.vfState = 1 ∧ 18200 < v) ∧
  (∃ (s : State) (v : Nat), (s.mode = mRESET ∨ s.vfState ≠ 1 ∨ v ≤ 18200)) ∧
  (∃ (s : State) (v : Nat), s.mode ≠ mRESET ∧ s.vfState ≠ 2 ∧ v < 15300) ∧
  (∃ (s : State) (v : Nat), (s.mode = mRESET ∨ s.vfState = 2 ∨ 15300 ≤ v)) ∧
  (∃ (s : State) (u : State) (v : Nat) (m : Nat), u = s.runTo m ∧ u.mode ≠ mRESET ∧ 15700 < v ∧ u.vfState = 2) ∧
  (∃ (s : State) (u : State) (v : Nat) (m : Nat), u = s.runTo m ∧ u.mode ≠ mRESET ∧ 15700 < v ∧ u.vfState ≠ 2 ∧ u.fio.recover.isSome = true) ∧
  (∃ (s : State) (u : State) (v : Nat) (m : Nat), u = s.runTo m ∧ (u.mode = mRESET ∨ v ≤ 15700 ∨ (u.vfState ≠ 2 ∧ u.fio.recover = none))) ∧
  (  let trec := fun (u : State) => ((List.range 64).map (fun i => u.f (FIO_INCFG_DEB i))).foldl max 1000
    ∃ (s : State) (u : State) (w : Nat) (m : Nat), u = s.runTo m ∧ u.fio.recover = some w ∧ w + u.usCycles (trec u) ≤ u.time.mono) ∧
  (  let trec := fun (u : State) => ((List.range 64).map (fun i => u.f (FIO_INCFG_DEB i))).foldl max 1000
    ∃ (s : State) (u : State) (m : Nat), u = s.runTo m ∧ (u.fio.recover = none ∨ (∃ w, u.fio.recover = some w ∧ u.time.mono < w + u.usCycles (trec u)))) ∧
  (∃ (s : State) (k : Nat), (k ≠ 0x464F ∨ s.mapOpen = false)) ∧
  (∃ (s : State), s.mapOpen = true ∧ s.vfState ≠ 2 ∧ s.flag FIO_STAT_BARRIER = true) ∧
  (∃ (s : State), s.mapOpen = true ∧ (s.vfState = 2 ∨ s.flag FIO_STAT_BARRIER = false)) ∧
  (∃ (s : State), s.mapOpen = true ∧ (s.mode = mBARE ∨ s.mode = mCOMMISSION)) ∧
  (∃ (s : State) (k : Nat), (k ≠ 0x464F ∨ s.mapOpen = false ∨ (s.mode ≠ mBARE ∧ s.mode ≠ mCOMMISSION))) :=
  ⟨⟨(tst []), 0, by decide +kernel⟩,
   ⟨(tst [(FIO_STAT_VF_STATE, 1)]), 0, by decide +kernel⟩,
   ⟨(tst [(FIO_STAT_VF_STATE, 1)]), 19000, by decide +kernel⟩,
   ⟨(tst []), 0, by decide +kernel⟩,
   ⟨(tst []), 0, by decide +kernel⟩,
   ⟨(tst [(FIO_STAT_VF_STATE, 2)]), 0, by decide +kernel⟩,
   ⟨(tst [(FIO_STAT_VF_STATE, 2)]), ((tst [(FIO_STAT_VF_STATE, 2)])).runTo 0, 16000, 0, rfl, by decide +kernel, by decide +kernel, by decide +kernel⟩,
   ⟨({ (tst []) with fio := { (tst []).fio with recover := some 0 } }), (({ (tst []) with fio := { (tst []).fio with recover := some 0 } })).runTo 0, 16000, 0, rfl, by decide +kernel, by decide +kernel, by decide +kernel, by decide +kernel⟩,
   ⟨(tst []), ((tst [])).runTo 0, 0, 0, rfl, by decide +kernel⟩,
   ⟨({ (tst []) with fio := { (tst []).fio with recover := some 0, start := false } }), (({ (tst []) with fio := { (tst []).fio with recover := some 0, start := false } })).runTo 8000000, 0, 8000000, rfl, by decide +kernel, by decide +kernel⟩,
   ⟨(tst []), ((tst [])).runTo 0, 0, rfl, by decide +kernel⟩,
   ⟨(tst []), 0, by decide +kernel⟩,
   ⟨(tst [(FIO_STAT_BARRIER, 1)]), by decide +kernel⟩,
   ⟨(tst []), by decide +kernel⟩,
   ⟨({ (tst [(SYS_MODE_MODE, mCOMMISSION)]) with fio := { (tst [(SYS_MODE_MODE, mCOMMISSION)]).fio with start := false } }), by decide +kernel⟩,
   ⟨(tst []), 0, by decide +kernel⟩⟩

/-- The hypotheses of each clause of Obligations.FaultCollected can be met. -/
theorem test_FaultCollected_meets :
  (∃ (s : State) (u : State), u = s.swapFirst ∧ (u.mode = mRESET ∨ (u.mode = mSANITISE ∧ u.sys.sanitiseFail = none) ∨ u.flt.path = [])) ∧
  (∃ (s : State) (u : State) (v : State), u = s.swapFirst ∧ v = (if u.flt.takenAt = some u.time.mono then u.cycles 1 else u) ∧ u.mode ≠ mRESET ∧ (u.mode ≠ mSANITISE ∨ u.sys.sanitiseFail ≠ none) ∧ u.flt.path ≠ []) ∧
  (∃ (s : State) (m : FaultMsg) (ms : List FaultMsg), s.nextFault = some (m, ms)) ∧
  (∃ (s : State) (m : FaultMsg) (e : FltEntry), s.flt.entries.find? (fun (x : FltEntry) => x.source == m.source && x.kind == m.kind) = some e) ∧
  (  let anew := fun (s : State) (m : FaultMsg) => ∀ e ∈ s.flt.entries, e.source ≠ m.source ∨ e.kind ≠ m.kind
    ∃ (s : State) (m : FaultMsg), anew s m ∧ m.level = 0) ∧
  (∃ (s : State) (m : FaultMsg), s.standing m = []) ∧
  (∃ (s : State) (m : FaultMsg) (x : FltEntry), x ∈ s.standing m ∧ ((∀ e ∈ s.standing m, e.level ≤ x.level))) ∧
  (  let anew := fun (s : State) (m : FaultMsg) => ∀ e ∈ s.flt.entries, e.source ≠ m.source ∨ e.kind ≠ m.kind
    ∃ (s : State) (m : FaultMsg) (i : Nat), anew s m ∧ m.level ≠ 0 ∧ s.freeEntry = some i) ∧
  (  let anew := fun (s : State) (m : FaultMsg) => ∀ e ∈ s.flt.entries, e.source ≠ m.source ∨ e.kind ≠ m.kind
    ∃ (s : State) (m : FaultMsg), anew s m ∧ m.level ≠ 0 ∧ s.freeEntry = none) :=
  ⟨⟨(tst []), ((tst [])).swapFirst, rfl, by decide +kernel⟩,
   ⟨(modFlt (fun x => { x with path := [msg 1 1 cMAJOR 2] }) (tst [(SYS_MODE_MODE, mRUN)])), ((modFlt (fun x => { x with path := [msg 1 1 cMAJOR 2] }) (tst [(SYS_MODE_MODE, mRUN)]))).swapFirst, (if (((modFlt (fun x => { x with path := [msg 1 1 cMAJOR 2] }) (tst [(SYS_MODE_MODE, mRUN)]))).swapFirst).flt.takenAt = some (((modFlt (fun x => { x with path := [msg 1 1 cMAJOR 2] }) (tst [(SYS_MODE_MODE, mRUN)]))).swapFirst).time.mono then (((modFlt (fun x => { x with path := [msg 1 1 cMAJOR 2] }) (tst [(SYS_MODE_MODE, mRUN)]))).swapFirst).cycles 1 else (((modFlt (fun x => { x with path := [msg 1 1 cMAJOR 2] }) (tst [(SYS_MODE_MODE, mRUN)]))).swapFirst)), rfl, rfl, by decide +kernel, by decide +kernel, by decide +kernel⟩,
   ⟨(modFlt (fun x => { x with path := [msg 1 1 cMAJOR 2] }) (tst [])), msg 1 1 cMAJOR 2, [], by decide +kernel⟩,
   ⟨(modFlt (fun x => { x with path := [msg 1 1 cMAJOR 2], entries := [ent 1 1 cMAJOR 2] }) (tst [])), msg 1 1 cMAJOR 2, ent 1 1 cMAJOR 2, by decide +kernel⟩,
   ⟨(modFlt (fun x => { x with path := [msg 1 1 cMINOR 0] }) (tst [])), msg 1 1 cMINOR 0, by decide +kernel⟩,
   ⟨(tst []), msg 1 1 cMAJOR 2, by decide +kernel⟩,
   ⟨(modFlt (fun x => { x with entries := [ent 1 1 cMAJOR 2] }) (tst [])), msg 1 1 cMAJOR 2, ent 1 1 cMAJOR 2, by decide +kernel⟩,
   ⟨(tst []), msg 1 1 cMAJOR 2, 0, by decide +kernel⟩,
   ⟨(modFlt (fun x => { x with path := [msg 1 1 cMAJOR 2], entries := (List.range 128).map (fun i => { ent 2 1 cMAJOR 2 with idx := i }) }) (tst [])), msg 1 1 cMAJOR 2, by decide +kernel⟩⟩

/-- The hypotheses of each clause of Obligations.FaultHandling can be met. -/
theorem test_FaultHandling_meets :
  (∃ (s : State) (k : Nat) (x : FltMsg) (is : List QItem), (s.queue 7).items = ⟨k, .fault x⟩ :: is ∧ s.flt.fifo.length < 256) ∧
  (∃ (s : State) (k : Nat) (x : FltMsg) (is : List QItem), (s.queue 7).items = ⟨k, .fault x⟩ :: is ∧ 256 ≤ s.flt.fifo.length) ∧
  (∃ (s : State) (k : Nat) (b : Body) (is : List QItem), (s.queue 7).items = ⟨k, b⟩ :: is ∧ ((∀ x, b ≠ .fault x))) ∧
  (∃ (s : State), (s.queue 7).items = []) ∧
  (∃ (s : State) (u : State) (e : Nat) (m : Nat) (x : FltEntry), u = (s.runTo m).superviseL1 ∧ u.flt.entries.find? (fun (x : FltEntry) => x.idx == e) = some x ∧ x.pend ≠ [] ∧ x.firstMono + u.msCycles (max 1 (u.f FLT_CFG_L1STOP)) ≤ u.time.mono) ∧
  (∃ (s : State) (u : State) (e : Nat) (m : Nat), u = (s.runTo m).superviseL1 ∧ ((∀ x, u.flt.entries.find? (fun (x : FltEntry) => x.idx == e) = some x → x.pend = [] ∨ u.time.mono < x.firstMono + u.msCycles (max 1 (u.f FLT_CFG_L1STOP))))) ∧
  (∃ (s : State) (e : FltEntry) (a : Nat), e ∈ s.superviseL1.flt.entries ∧ a ∈ e.pend) ∧
  (∃ (s : State), s.mapOpen = true) ∧
  (∃ (s : State) (k : Nat), (k ≠ 0x464B ∨ s.mapOpen = false)) ∧
  (∃ (s : State), s.mapOpen = true) ∧
  (∃ (s : State) (k : Nat), (k ≠ 0x464B ∨ s.mapOpen = false)) ∧
  (∃ (s : State) (v : Word), s.mapOpen = true ∧ v.toNat / 65536 = 0x464B ∧ 0xF0 ≤ v.toNat % 256) ∧
  (∃ (s : State) (v : Word), (s.mapOpen = false ∨ v.toNat / 65536 ≠ 0x464B ∨ v.toNat % 256 < 0xF0)) ∧
  (∃ (s : State), s.mapOpen = true) ∧
  (∃ (s : State), s.mapOpen = false) ∧
  (∃ (s : State) (u : State) (w : Nat) (m : Nat), u = s.runTo m ∧ u.flt.errMin = some w ∧ w ≤ u.time.mono) ∧
  (∃ (s : State) (u : State) (m : Nat), u = s.runTo m ∧ (u.flt.errMin = none ∨ (∃ w, u.flt.errMin = some w ∧ u.time.mono < w))) ∧
  (∃ (s : State), s.mapOpen = false) ∧
  (∃ (s : State), s.mapOpen = true ∧ s.flt.fifo = []) ∧
  (∃ (s : State) (x : FltMsg) (xs : List FltMsg), s.mapOpen = true ∧ s.flt.fifo = x :: xs) :=
  ⟨⟨(inQ 7 [⟨0, .fault fm⟩] (tst [])), 0, fm, [], by decide +kernel⟩,
   ⟨(inQ 7 [⟨0, .fault fm⟩] (modFlt (fun x => { x with fifo := List.replicate 256 fm }) (tst []))), 0, fm, [], by decide +kernel⟩,
   ⟨(inQ 7 [⟨8, .chunk 0 0⟩] (tst [])), 8, .chunk 0 0, [], by decide +kernel, (by intro x h; cases h)⟩,
   ⟨(tst []), by decide +kernel⟩,
   ⟨(inImg { axisGroup := [4] } ((modFlt (fun x => { x with entries := [{ ent 1 1 cMAJOR 1 with pend := [0] }] }) (tst [(FLT_CFG_L1STOP, 1)])).modTile 0 (fun x => { x with cv := 1 }))), (((inImg { axisGroup := [4] } ((modFlt (fun x => { x with entries := [{ ent 1 1 cMAJOR 1 with pend := [0] }] }) (tst [(FLT_CFG_L1STOP, 1)])).modTile 0 (fun x => { x with cv := 1 })))).runTo 800000).superviseL1, 0, 800000, { ent 1 1 cMAJOR 1 with pend := [0] }, rfl, by decide +kernel, by decide +kernel, by decide +kernel⟩,
   ⟨(tst []), (((tst [])).runTo 0).superviseL1, 0, 0, rfl, by decide +kernel⟩,
   ⟨(inImg { axisGroup := [4] } ((modFlt (fun x => { x with entries := [{ ent 1 1 cMAJOR 1 with pend := [0] }] }) (tst [])).modTile 0 (fun x => { x with cv := 1 }))), { ent 1 1 cMAJOR 1 with pend := [0] }, 0, by decide +kernel⟩,
   ⟨(tst []), by decide +kernel⟩,
   ⟨(tst []), 0, by decide +kernel⟩,
   ⟨(tst []), by decide +kernel⟩,
   ⟨(tst []), 0, by decide +kernel⟩,
   ⟨(tst []), 0x464B00F0, by decide +kernel⟩,
   ⟨(tst []), 0, by decide +kernel⟩,
   ⟨(modFlt (fun x => { x with entries := [ent 1 1 cMAJOR 1] }) (tst [])), by decide +kernel⟩,
   ⟨(tst [(SYS_MODE_MODE, mRESET)]), by decide +kernel⟩,
   ⟨(modFlt (fun x => { x with errMin := some 0 }) (tst [])), ((modFlt (fun x => { x with errMin := some 0 }) (tst []))).runTo 0, 0, 0, rfl, by decide +kernel, by decide +kernel⟩,
   ⟨(tst []), ((tst [])).runTo 0, 0, rfl, by decide +kernel⟩,
   ⟨(tst [(SYS_MODE_MODE, mRESET)]), by decide +kernel⟩,
   ⟨(tst []), by decide +kernel⟩,
   ⟨(modFlt (fun x => { x with fifo := [fm] }) (tst [])), fm, [], by decide +kernel⟩⟩

/-- The hypotheses of each clause of Obligations.LoaderRuns can be met. -/
theorem test_LoaderRuns_meets :
  (∃ (s : State), s.mapOpen = false) ∧
  (∃ (s : State), s.mapOpen = true ∧ s.mode = mBARE ∧ s.startRole ≠ 2 ∧ s.lcLoads = true) ∧
  (∃ (s : State), s.mapOpen = true ∧ (s.mode ≠ mBARE ∨ s.startRole = 2 ∨ s.lcLoads = false)) ∧
  (∃ (s : State), (s.cfg.loading = none ∨ s.mode ≠ mLOAD)) ∧
  (  let here := fun (s : State) (slot : Nat) => s.cfg.loading = some slot ∧ s.mode = mLOAD
      let trusted := fun (s : State) (v : LoadVerdict) (slot : Nat) => s.sys.autostart = true ∨ s.authCheck slot v.rsa v.slh = 0
    ∃ (s : State) (v : LoadVerdict) (slot : Nat), here s slot ∧ trusted s v slot ∧ s.bodyCheck slot v = (0, 0) ∧ s.startRole ≠ 2) ∧
  (  let here := fun (s : State) (slot : Nat) => s.cfg.loading = some slot ∧ s.mode = mLOAD
      let trusted := fun (s : State) (v : LoadVerdict) (slot : Nat) => s.sys.autostart = true ∨ s.authCheck slot v.rsa v.slh = 0
    ∃ (s : State) (v : LoadVerdict) (slot : Nat), here s slot ∧ trusted s v slot ∧ s.bodyCheck slot v = (0, 0) ∧ s.startRole ≠ 2 ∧ (s.warmAsked = false ∨ (∀ d k, s.newestLoam = some (d, k) → k.hash ≠ (s.imageOf slot v.st).hash))) ∧
  (  let here := fun (s : State) (slot : Nat) => s.cfg.loading = some slot ∧ s.mode = mLOAD
      let trusted := fun (s : State) (v : LoadVerdict) (slot : Nat) => s.sys.autostart = true ∨ s.authCheck slot v.rsa v.slh = 0
    ∃ (s : State) (v : LoadVerdict) (slot : Nat), here s slot ∧ trusted s v slot ∧ s.bodyCheck slot v = (0, 0) ∧ s.startRole = 2) ∧
  (  let here := fun (s : State) (slot : Nat) => s.cfg.loading = some slot ∧ s.mode = mLOAD
    ∃ (s : State) (v : LoadVerdict) (slot : Nat), here s slot ∧ s.sys.autostart = false ∧ s.authCheck slot v.rsa v.slh ≠ 0) ∧
  (  let here := fun (s : State) (slot : Nat) => s.cfg.loading = some slot ∧ s.mode = mLOAD
      let trusted := fun (s : State) (v : LoadVerdict) (slot : Nat) => s.sys.autostart = true ∨ s.authCheck slot v.rsa v.slh = 0
    ∃ (s : State) (v : LoadVerdict) (slot : Nat) (k : Nat) (d : Nat), here s slot ∧ trusted s v slot ∧ s.bodyCheck slot v = (k, d) ∧ k ≠ 0) ∧
  (∃ (s : State), s.mapOpen = true ∧ (s.cfg.loading.isSome = true ∨ s.cfg.nodesFor.isSome = true ∨ s.mode = mCHANGEOVER)) ∧
  (∃ (s : State), s.mapOpen = true ∧ s.cfg.loading = none ∧ s.cfg.nodesFor = none ∧ s.mode ≠ mCHANGEOVER ∧ s.mode ≠ mCOMMISSION ∧ s.mode ≠ mRUN) ∧
  (∃ (s : State), s.mapOpen = true ∧ (s.mode = mCOMMISSION ∨ s.mode = mRUN) ∧ s.cfg.loading = none ∧ s.cfg.nodesFor = none) ∧
  (∃ (s : State), (s.cfg.loading = none ∨ s.cfg.isShadow = false)) ∧
  (  let shadows := fun (s : State) (slot : Nat) => s.cfg.loading = some slot ∧ s.cfg.isShadow = true
    ∃ (s : State) (v : LoadVerdict) (slot : Nat), shadows s slot ∧ s.authCheck slot v.rsa v.slh ≠ 0) ∧
  (  let shadows := fun (s : State) (slot : Nat) => s.cfg.loading = some slot ∧ s.cfg.isShadow = true
    ∃ (s : State) (v : LoadVerdict) (slot : Nat) (k : Nat) (d : Nat), shadows s slot ∧ s.authCheck slot v.rsa v.slh = 0 ∧ s.bodyCheck slot v = (k, d) ∧ k ≠ 0) ∧
  (  let shadows := fun (s : State) (slot : Nat) => s.cfg.loading = some slot ∧ s.cfg.isShadow = true
      let fits := fun (s : State) (v : LoadVerdict) => s.f WHEEL_PART_COUNT + State.imgF v.st WHEEL_PART_COUNT ≤ 8388608
    ∃ (s : State) (v : LoadVerdict) (slot : Nat), shadows s slot ∧ s.authCheck slot v.rsa v.slh = 0 ∧ s.bodyCheck slot v = (0, 0) ∧ ¬ fits s v) ∧
  (  let shadows := fun (s : State) (slot : Nat) => s.cfg.loading = some slot ∧ s.cfg.isShadow = true
      let fits := fun (s : State) (v : LoadVerdict) => s.f WHEEL_PART_COUNT + State.imgF v.st WHEEL_PART_COUNT ≤ 8388608
    ∃ (s : State) (v : LoadVerdict) (slot : Nat), shadows s slot ∧ s.authCheck slot v.rsa v.slh = 0 ∧ s.bodyCheck slot v = (0, 0) ∧ fits s v ∧ s.wiringOk v.st = false) ∧
  (  let shadows := fun (s : State) (slot : Nat) => s.cfg.loading = some slot ∧ s.cfg.isShadow = true
      let fits := fun (s : State) (v : LoadVerdict) => s.f WHEEL_PART_COUNT + State.imgF v.st WHEEL_PART_COUNT ≤ 8388608
    ∃ (s : State) (v : LoadVerdict) (slot : Nat), shadows s slot ∧ s.authCheck slot v.rsa v.slh = 0 ∧ s.bodyCheck slot v = (0, 0) ∧ fits s v ∧ s.wiringOk v.st = true ∧ ((∀ d ∈ v.st.rings, d.ring < 2 ∧ d.nodes = []))) ∧
  (  let shadows := fun (s : State) (slot : Nat) => s.cfg.loading = some slot ∧ s.cfg.isShadow = true
      let fits := fun (s : State) (v : LoadVerdict) => s.f WHEEL_PART_COUNT + State.imgF v.st WHEEL_PART_COUNT ≤ 8388608
    ∃ (s : State) (v : LoadVerdict) (slot : Nat), shadows s slot ∧ s.authCheck slot v.rsa v.slh = 0 ∧ s.bodyCheck slot v = (0, 0) ∧ fits s v ∧ s.wiringOk v.st = true ∧ ((∀ d ∈ v.st.rings, d.ring < 2 ∧ ∀ n ∈ d.nodes, n < 512)) ∧ ((∃ d ∈ v.st.rings, d.nodes ≠ []))) ∧
  (∃ (s : State) (u : State) (r : Fin 2) (n : Nat) (m : Nat) (i : Image), u = s.runTo m ∧ u.cfg.nodesFor = some i ∧ i.st.rings.any (fun (d : RingDef) => d.ring == r.val && d.nodes.contains n) = true ∧ n < 512 ∧ u.flag (KR_NODE_PEND_ACK r n) = false) ∧
  (∃ (s : State) (u : State) (r : Fin 2) (n : Nat) (m : Nat), u = s.runTo m ∧ ((∀ i, u.cfg.nodesFor = some i → 512 ≤ n ∨ u.flag (KR_NODE_PEND_ACK r n) = true ∨ i.st.rings.any (fun (d : RingDef) => d.ring == r.val && d.nodes.contains n) = false))) ∧
  (∃ (s : State), s.mapOpen = true ∧ s.swapArmed = true) ∧
  (∃ (s : State), s.mapOpen = true ∧ s.swapArmed = false) :=
  ⟨⟨(tst [(SYS_MODE_MODE, mRESET), (SYS_MODE_MODE, mRESET)]), by decide +kernel⟩,
   ⟨(tst [(SYS_MODE_MODE, mBARE), (SYS_LC_STATE, 1)]), by decide +kernel⟩,
   ⟨(tst []), by decide +kernel⟩,
   ⟨(tst []), by decide +kernel⟩,
   ⟨(modSys (fun x => { x with autostart := true }) (loading (tst [(SYS_MODE_MODE, mLOAD)]))), goodVerdict, 0, by decide +kernel, by decide +kernel, goodBody (by decide +kernel), by decide +kernel⟩,
   ⟨(modSys (fun x => { x with autostart := true }) (loading (tst [(SYS_MODE_MODE, mLOAD)]))), goodVerdict, 0, by decide +kernel, by decide +kernel, goodBody (by decide +kernel), by decide +kernel, Or.inl (by decide +kernel)⟩,
   ⟨(loading { (tst [(SYS_MODE_MODE, mLOAD)]) with sys := { (tst [(SYS_MODE_MODE, mLOAD)]).sys with start := 0x20, autostart := true } }), okVerdict { oneSet with rings := [{ ring := 0, area := 672, segs := [{ idx := 0, kind := 5, off := 0, len := 256 }, { idx := 1, kind := 6, off := 256, len := 256 }, { idx := 2, kind := 7, off := 512, len := 160 }], nodes := [] }] }, 0, by decide +kernel, by decide +kernel, goodBody (by decide +kernel), by decide +kernel⟩,
   ⟨(modCfg (fun x => { x with loading := some 0 }) (tst [(SYS_MODE_MODE, mLOAD)])), goodVerdict, 0, by decide +kernel, by decide +kernel, by decide +kernel⟩,
   ⟨(modSys (fun x => { x with autostart := true }) (modNv (fun x => { x with flash := [(8388620, 1), (8388621, 0)] }) (loading (tst [(SYS_MODE_MODE, mLOAD)])))), goodVerdict, 0, 8, 0, by decide +kernel, by decide +kernel, by decide +kernel, by decide +kernel⟩,
   ⟨(tst [(SYS_MODE_MODE, mCHANGEOVER)]), by decide +kernel⟩,
   ⟨(tst []), by decide +kernel⟩,
   ⟨(tst [(SYS_MODE_MODE, mRUN)]), by decide +kernel⟩,
   ⟨(tst []), by decide +kernel⟩,
   ⟨(modCfg (fun x => { x with isShadow := true, loading := some 0 }) (tst [])), goodVerdict, 0, by decide +kernel⟩,
   ⟨(modCfg (fun x => { x with isShadow := true }) (modSafe (fun x => { x with chans := x.chans.map (fun c => { c with codes := [1, 1, 1] }) }) (loading (tst [])))), goodVerdict, 0, 0xD, 0, by decide +kernel, goodAuth (by decide +kernel), goodBodyCode (by decide +kernel), by decide +kernel⟩,
   ⟨(modCfg (fun x => { x with isShadow := true }) (loading (tst [(WHEEL_PART_COUNT, 8388609)]))), goodVerdict, 0, by decide +kernel, goodAuth (by decide +kernel), goodBody (by decide +kernel), by decide +kernel⟩,
   ⟨(modRing 0 (fun x => { x with wired := some false }) (modCfg (fun x => { x with isShadow := true }) (loading (tst [])))), okVerdict { oneSet with regs := [(KR_CFG 0, 128)], rings := [{ ring := 0, area := 520, segs := [{ idx := 0, kind := 5, off := 0, len := 256 }, { idx := 1, kind := 6, off := 256, len := 256 }], wide0 := [{ idx := 0, kind := 5, off := 0, len := 256 }, { idx := 1, kind := 6, off := 256, len := 256 }], wide1 := [{ idx := 0, kind := 5, off := 0, len := 256 }, { idx := 1, kind := 6, off := 256, len := 256 }], nodes := [] }] }, 0, by decide +kernel, goodAuth (by decide +kernel), goodBody (by decide +kernel), by decide +kernel, by decide +kernel⟩,
   ⟨(modCfg (fun x => { x with isShadow := true }) (loading (tst []))), goodVerdict, 0, by decide +kernel⟩,
   ⟨(modCfg (fun x => { x with isShadow := true }) (loading (tst []))), okVerdict nodeRing, 0, by decide +kernel, goodAuth (by decide +kernel), goodBody (by decide +kernel), by decide +kernel, by decide +kernel, by decide +kernel, by decide +kernel⟩,
   ⟨(modCfg (fun x => { x with nodesFor := some { img0 with st := { rings := [{ ring := 0, area := 8, segs := [], nodes := [1] }] } } }) (tst [((KR_NODE_PEND_ACK 0 1), 0)])), ((modCfg (fun x => { x with nodesFor := some { img0 with st := { rings := [{ ring := 0, area := 8, segs := [], nodes := [1] }] } } }) (tst [((KR_NODE_PEND_ACK 0 1), 0)]))).runTo 32000000, 0, 1, 32000000, { img0 with st := { rings := [{ ring := 0, area := 8, segs := [], nodes := [1] }] } }, rfl, by decide +kernel, by decide +kernel, by decide +kernel, by decide +kernel⟩,
   ⟨(tst []), ((tst [])).runTo 0, 0, 0, 0, rfl, by decide +kernel⟩,
   ⟨(tst [(SYS_MODE_MODE, mCHANGEOVER), (CFG_STAT_LDR, 5)]), by decide +kernel⟩,
   ⟨(tst []), by decide +kernel⟩⟩

/-- The hypotheses of each clause of Obligations.ChangeoverRuns can be met. -/
theorem test_ChangeoverRuns_meets :
  (∃ (s : State), s.mapOpen = false) ∧
  (∃ (s : State), s.mapOpen = true ∧ s.mode ≠ mRUN) ∧
  (∃ (s : State), s.mapOpen = true ∧ s.mode = mRUN ∧ s.coDegraded = true) ∧
  (∃ (s : State), s.mapOpen = true ∧ s.mode = mRUN ∧ s.coDegraded = false ∧ (s.cfg.shadow = none ∨ s.f CFG_STAT_LDR ≠ 4)) ∧
  (∃ (s : State) (i : Image), s.mapOpen = true ∧ s.mode = mRUN ∧ s.coDegraded = false ∧ s.cfg.shadow = some i ∧ s.f CFG_STAT_LDR = 4 ∧ s.shadowHas s.safe.code = false) ∧
  (∃ (s : State) (i : Image), s.mapOpen = true ∧ s.mode = mRUN ∧ s.coDegraded = false ∧ s.cfg.shadow = some i ∧ s.f CFG_STAT_LDR = 4 ∧ s.shadowHas s.safe.code = true ∧ s.coParked s.st i.st = false) ∧
  (∃ (s : State) (i : Image), s.mapOpen = true ∧ s.mode = mRUN ∧ s.coDegraded = false ∧ s.cfg.shadow = some i ∧ s.f CFG_STAT_LDR = 4 ∧ s.shadowHas s.safe.code = true ∧ s.coParked s.st i.st = true) ∧
  (∃ (s : State), s.mapOpen = true ∧ s.swapArmed = true) ∧
  (∃ (s : State), s.mapOpen = true ∧ s.swapArmed = false) ∧
  (∃ (s : State) (k : Nat), s.swapArmed = true ∧ s.cfg.tried = some k ∧ s.f CFG_SWAP_LIM_LIMIT ≤ k ∧ s.swapDue = false) ∧
  (∃ (s : State), (s.swapArmed = false ∨ s.swapDue = true ∨ (∀ k, s.cfg.tried = some k → k < s.f CFG_SWAP_LIM_LIMIT))) ∧
  (∃ (s : State), (s.onGrid Config.msUnits = false ∨ s.loopsRun = false)) ∧
  (∃ (s : State) (u : State), u = s.eligibleCycle ∧ (u.cfg.run = none ∨ u.cfg.shadow = none ∨ u.swapDue = false)) ∧
  (∃ (s : State) (u : State) (old : Image) (new : Image), u = s.eligibleCycle ∧ u.cfg.run = some old ∧ u.cfg.shadow = some new ∧ u.swapDue = true) ∧
  (∃ (s : State) (u : State) (old : Image) (new : Image), u = s.eligibleCycle ∧ u.cfg.run = some old ∧ u.cfg.shadow = some new ∧ u.swapDue = true ∧ old.hash.length = 12 ∧ new.hash.length = 12 ∧ ((∀ x, u.pair.stream = some x → x.2.2.1.length = 12)) ∧ ((∀ p ∈ new.st.probs, p.unit < 4 ∧ p.pos < 3)) ∧ ((∀ p ∈ old.st.regs ++ new.st.regs, p.1 ≠ CFG_STAT ∧ p.1 ≠ SYS_MODE ∧ ∀ c : Fin 12, p.1 ≠ CL_ENG_STAT c))) ∧
  (∃ (s : State) (i : Image) (k : Nat), s.cfg.run = some i ∧ s.cfg.notice = true ∧ ((∀ c, s.safe.pend = some c → sameSafe s.safe.pendAt s.time.mono = false)) ∧ i.st.safety.sets.findIdx? (fun (x : SafSet) => x.code == s.safe.pend.getD s.safe.code) = some k) ∧
  (∃ (s : State) (i : Image), s.cfg.run = some i ∧ s.cfg.notice = true) ∧
  (∃ (s : State), (s.cfg.run = none ∨ s.cfg.notice = false)) ∧
  (∃ (s : State) (e : Nat), s.cfg.postEnd = some e ∧ s.mode = mCHANGEOVER ∧ s.f CFG_STAT_LDR = 6 ∧ s.time.mono ≤ e ∧ s.postOk = true) ∧
  (∃ (s : State), (s.postOk = false ∨ s.mode ≠ mCHANGEOVER ∨ s.f CFG_STAT_LDR ≠ 6 ∨ (∀ e, s.cfg.postEnd = some e → e < s.time.mono))) ∧
  (∃ (s : State) (u : State) (e : Nat) (m : Nat), u = s.runTo m ∧ u.cfg.postEnd = some e ∧ u.mode = mCHANGEOVER ∧ u.f CFG_STAT_LDR = 6 ∧ (e < u.time.mono ∨ u.postOk = false)) ∧
  (∃ (s : State) (u : State) (m : Nat), u = s.runTo m ∧ (u.mode ≠ mCHANGEOVER ∨ u.f CFG_STAT_LDR ≠ 6 ∨ u.cfg.postEnd = none ∨ (∃ e, u.cfg.postEnd = some e ∧ u.time.mono ≤ e ∧ u.postOk = true))) :=
  ⟨⟨(tst [(SYS_MODE_MODE, mRESET), (SYS_MODE_MODE, mRESET)]), by decide +kernel⟩,
   ⟨(tst []), by decide +kernel⟩,
   ⟨(inImg { rings := [{ ring := 0, area := 8, segs := [], nodes := [] }] } (tst [(SYS_MODE_MODE, mRUN), (SYS_MODE_MODE, mRUN), (KR_RING_OPEN 0, 1)])), by decide +kernel⟩,
   ⟨(tst [(SYS_MODE_MODE, mRUN)]), by decide +kernel⟩,
   ⟨(modCfg (fun x => { x with shadow := some img0 }) (tst [(SYS_MODE_MODE, mRUN), (CFG_STAT_LDR, 4), (CFG_STAT_LDR, 4)])), img0, by decide +kernel⟩,
   ⟨(modCfg (fun x => { x with shadow := some { img0 with st := { safety := { sets := [{ code := 0 }] } } } }) (inImg { axes := [0], axisGroup := [4] } ((tst [(SYS_MODE_MODE, mRUN), (CFG_STAT_LDR, 4), (CFG_STAT_LDR, 4)]).modTile 0 (fun x => { x with cv := 1 })))), { img0 with st := { safety := { sets := [{ code := 0 }] } } }, by decide +kernel⟩,
   ⟨(modCfg (fun x => { x with shadow := some { img0 with st := { safety := { sets := [{ code := 0 }] } } } }) (tst [(SYS_MODE_MODE, mRUN), (CFG_STAT_LDR, 4), (CFG_STAT_LDR, 4)])), { img0 with st := { safety := { sets := [{ code := 0 }] } } }, by decide +kernel⟩,
   ⟨(tst [(SYS_MODE_MODE, mCHANGEOVER), (CFG_STAT_LDR, 5)]), by decide +kernel⟩,
   ⟨(tst []), by decide +kernel⟩,
   ⟨(modCfg (fun x => { x with tried := some 0 }) (tst [(CFG_STAT_LDR, 5), (CFG_SWAP_LIM_LIMIT, 0)])), 0, by decide +kernel⟩,
   ⟨(modCfg (fun x => { x with tried := some 0 }) (tst [(CFG_SWAP_LIM_LIMIT, 1)])), by decide +kernel⟩,
   ⟨(tst []), by decide +kernel⟩,
   ⟨(tst []), ((tst [])).eligibleCycle, rfl, by decide +kernel⟩,
   ⟨(modCfg (fun x => { x with run := some img0, shadow := some img0 }) (tst [(CFG_STAT_LDR, 5), (SYS_MODE_MODE, mCHANGEOVER)])), ((modCfg (fun x => { x with run := some img0, shadow := some img0 }) (tst [(CFG_STAT_LDR, 5), (SYS_MODE_MODE, mCHANGEOVER)]))).eligibleCycle, img0, img0, rfl, by decide +kernel, by decide +kernel, by decide +kernel⟩,
   ⟨(modCfg (fun x => { x with run := some img0, shadow := some img0 }) (tst [(CFG_STAT_LDR, 5), (SYS_MODE_MODE, mCHANGEOVER)])), ((modCfg (fun x => { x with run := some img0, shadow := some img0 }) (tst [(CFG_STAT_LDR, 5), (SYS_MODE_MODE, mCHANGEOVER)]))).eligibleCycle, img0, img0, rfl, by decide +kernel, by decide +kernel, by decide +kernel, by decide +kernel, by decide +kernel, noSome (by decide +kernel), by decide +kernel, by decide +kernel⟩,
   ⟨(modCfg (fun x => { x with notice := true, run := some { img0 with st := { safety := { sets := [{ code := 0 }] } } } }) (tst [])), { img0 with st := { safety := { sets := [{ code := 0 }] } } }, 0, by decide +kernel⟩,
   ⟨(modCfg (fun x => { x with run := some img0, notice := true }) (tst [])), img0, by decide +kernel⟩,
   ⟨(tst []), by decide +kernel⟩,
   ⟨(modCfg (fun x => { x with postEnd := some 0 }) (modSafe (fun x => { x with caps := some ⟨0, 0, 0, [], 0⟩ }) (tst [(SYS_MODE_MODE, mCHANGEOVER), (CFG_STAT_LDR, 6), (CFG_STAT_LDR, 6), (SYS_MODE_MODE, mCHANGEOVER)]))), 0, by decide +kernel⟩,
   ⟨(tst []), by decide +kernel⟩,
   ⟨(modCfg (fun x => { x with postEnd := some 0 }) (tst [(SYS_MODE_MODE, mCHANGEOVER), (CFG_STAT_LDR, 6), (CFG_STAT_LDR, 6), (SYS_MODE_MODE, mCHANGEOVER)])), ((modCfg (fun x => { x with postEnd := some 0 }) (tst [(SYS_MODE_MODE, mCHANGEOVER), (CFG_STAT_LDR, 6), (CFG_STAT_LDR, 6), (SYS_MODE_MODE, mCHANGEOVER)]))).runTo 0, 0, 0, rfl, by decide +kernel, by decide +kernel, by decide +kernel, by decide +kernel⟩,
   ⟨(tst []), ((tst [])).runTo 0, 0, rfl, by decide +kernel⟩⟩

/-- The hypotheses of each clause of Obligations.SnapshotsRun can be met. -/
theorem test_SnapshotsRun_meets :
  (∃ (s : State), (s.mode ≠ mRUN ∨ s.role = 2)) ∧
  (∃ (s : State), s.mode = mRUN ∧ s.role ≠ 2 ∧ s.loamBoundary = true ∧ s.keyFree s.st.fwKey = true) ∧
  (∃ (s : State), s.mode = mRUN ∧ s.role ≠ 2 ∧ s.loamBoundary = true ∧ s.keyFree s.st.fwKey = false) ∧
  (∃ (s : State) (k : Snap), s.mode = mRUN ∧ s.role ≠ 2 ∧ s.loamBoundary = false ∧ s.pair.capWait = some k ∧ s.keyFree s.st.fwKey = true) ∧
  (∃ (s : State), s.mode = mRUN ∧ s.role ≠ 2 ∧ s.loamBoundary = false ∧ (s.pair.capWait = none ∨ s.keyFree s.st.fwKey = false)) ∧
  (∃ (s : State), s.mode ≠ mCOLD_STANDBY) ∧
  (∃ (s : State), s.mode = mCOLD_STANDBY ∧ s.pair.rx = none) ∧
  (∃ (s : State) (snap : Nat) (n : Nat) (rs : List (Nat × Nat)), s.mode = mCOLD_STANDBY ∧ s.pair.rx = some (n, rs) ∧ n ≠ snap) ∧
  (∃ (s : State) (snap : Nat) (rs : List (Nat × Nat)), s.mode = mCOLD_STANDBY ∧ s.pair.rx = some (snap, rs)) ∧
  (  let complete := fun (v : State) (snap : Nat) (k : Snap) => ∃ rs, v.pair.rx = some (snap, rs) ∧ k.seq % 65536 = snap ∧
        k.len ≤ covered (sortBy (fun (x : Nat × Nat) => (x.1 : Int)) rs) 0
    ∃ (s : State) (snap : Nat) (off : Nat) (len : Nat) (k : Snap), s.mode = mCOLD_STANDBY ∧ ¬ complete (s.noteChunk snap off len) snap k) ∧
  (  let complete := fun (v : State) (snap : Nat) (k : Snap) => ∃ rs, v.pair.rx = some (snap, rs) ∧ k.seq % 65536 = snap ∧
        k.len ≤ covered (sortBy (fun (x : Nat × Nat) => (x.1 : Int)) rs) 0
    ∃ (s : State) (v : State) (snap : Nat) (off : Nat) (len : Nat) (k : Snap), s.mode = mCOLD_STANDBY ∧ v = s.noteChunk snap off len ∧ complete v snap k ∧ k.hash = s.runHash ∧ k.hash.length = 12) ∧
  (  let complete := fun (v : State) (snap : Nat) (k : Snap) => ∃ rs, v.pair.rx = some (snap, rs) ∧ k.seq % 65536 = snap ∧
        k.len ≤ covered (sortBy (fun (x : Nat × Nat) => (x.1 : Int)) rs) 0
    ∃ (s : State) (v : State) (snap : Nat) (off : Nat) (len : Nat) (k : Snap), s.mode = mCOLD_STANDBY ∧ v = s.noteChunk snap off len ∧ complete v snap k ∧ k.hash ≠ s.runHash ∧ k.hash.length = 12 ∧ ((∀ n e, (s.nv.dir.get? n).bind id = some e → hashWords e.hash ≠ k.hash))) ∧
  (  let complete := fun (v : State) (snap : Nat) (k : Snap) => ∃ rs, v.pair.rx = some (snap, rs) ∧ k.seq % 65536 = snap ∧
        k.len ≤ covered (sortBy (fun (x : Nat × Nat) => (x.1 : Int)) rs) 0
    ∃ (s : State) (v : State) (snap : Nat) (off : Nat) (len : Nat) (n : Nat) (k : Snap) (e : DirEntry), s.mode = mCOLD_STANDBY ∧ v = s.noteChunk snap off len ∧ complete v snap k ∧ k.hash ≠ s.runHash ∧ k.hash.length = 12 ∧ n < 8 ∧ (s.nv.dir.get? n).bind id = some e ∧ hashWords e.hash = k.hash ∧ ((∀ q e, q < n → (s.nv.dir.get? q).bind id = some e → hashWords e.hash ≠ k.hash))) ∧
  (∃ (s : State), s.mode = mRESET) ∧
  (∃ (s : State), s.mode ≠ mRESET) ∧
  (  let link := fun (r : Fin 2) (onS : Bool) => if onS = true then KR_STAT_LINK_S r else KR_STAT_LINK_P r
    ∃ (s : State) (r : Fin 2) (onS : Bool), s.mode ≠ mRESET ∧ (s.mode ≠ mCOLD_STANDBY ∨ (s.setB (link r onS) false).anyLink = true)) ∧
  (  let link := fun (r : Fin 2) (onS : Bool) => if onS = true then KR_STAT_LINK_S r else KR_STAT_LINK_P r
    ∃ (s : State) (r : Fin 2) (onS : Bool), s.mode = mCOLD_STANDBY ∧ (s.setB (link r onS) false).anyLink = false) ∧
  (∃ (s : State) (r : Fin 2), s.role = 1 ∧ s.rstate r = rMASTER ∧ 3 ≤ (s.ring r).pairMiss ∧ r.val ∉ s.pair.peerLost) ∧
  (∃ (s : State) (r : Fin 2), (s.role ≠ 1 ∨ s.rstate r ≠ rMASTER ∨ (s.ring r).pairMiss < 3 ∨ r.val ∈ s.pair.peerLost)) :=
  ⟨⟨(tst []), by decide +kernel⟩,
   ⟨(tst [(SYS_MODE_MODE, mRUN)]), by decide +kernel⟩,
   ⟨(core0 { wrk 0 0 with key := 1 } (inImg { fwKey := 1 } (tst [(SYS_MODE_MODE, mRUN)]))), by decide +kernel⟩,
   ⟨(modPair (fun x => { x with capWait := some (snp 0) }) (atNs 1000000 (tst [(SYS_MODE_MODE, mRUN)]))), snp 0, by decide +kernel⟩,
   ⟨(atNs 1000000 (tst [(SYS_MODE_MODE, mRUN)])), by decide +kernel⟩,
   ⟨(tst []), by decide +kernel⟩,
   ⟨(tst [(SYS_MODE_MODE, mCOLD_STANDBY)]), by decide +kernel⟩,
   ⟨(modPair (fun x => { x with rx := some (1, []) }) (tst [(SYS_MODE_MODE, mCOLD_STANDBY)])), 0, 1, [], by decide +kernel⟩,
   ⟨(modPair (fun x => { x with rx := some (0, []) }) (tst [(SYS_MODE_MODE, mCOLD_STANDBY)])), 0, [], by decide +kernel⟩,
   ⟨(tst [(SYS_MODE_MODE, mCOLD_STANDBY)]), 0, 0, 0, snp 1, by decide +kernel, (by rintro ⟨_, _, h, _⟩; exact absurd h (by decide))⟩,
   ⟨(modCfg (fun x => { x with run := some img0 }) (tst [(SYS_MODE_MODE, mCOLD_STANDBY)])), ((modCfg (fun x => { x with run := some img0 }) (tst [(SYS_MODE_MODE, mCOLD_STANDBY)]))).noteChunk 0 0 0, 0, 0, 0, snp 0, by decide +kernel, rfl, ⟨[(0, 0)], by decide +kernel, by decide +kernel, by decide +kernel⟩, by decide +kernel, by decide +kernel⟩,
   ⟨(modCfg (fun x => { x with run := some img0 }) (tst [(SYS_MODE_MODE, mCOLD_STANDBY)])), ((modCfg (fun x => { x with run := some img0 }) (tst [(SYS_MODE_MODE, mCOLD_STANDBY)]))).noteChunk 0 0 0, 0, 0, 0, { snp 0 with hash := List.replicate 12 1 }, by decide +kernel, rfl, ⟨[(0, 0)], by decide +kernel, by decide +kernel, by decide +kernel⟩, by decide +kernel, by decide +kernel, dirNone2 (by decide +kernel)⟩,
   ⟨(modNv (fun x => { x with dir := x.dir.set 0 (some ⟨17064, List.replicate 48 1⟩) }) (tst [(SYS_MODE_MODE, mCOLD_STANDBY)])), ((modNv (fun x => { x with dir := x.dir.set 0 (some ⟨17064, List.replicate 48 1⟩) }) (tst [(SYS_MODE_MODE, mCOLD_STANDBY)]))).noteChunk 0 0 0, 0, 0, 0, 0, { snp 0 with hash := hashWords (List.replicate 48 1) }, (⟨17064, List.replicate 48 1⟩ : DirEntry), by decide +kernel, rfl, ⟨[(0, 0)], by decide +kernel, by decide +kernel, by decide +kernel⟩, by decide +kernel, by decide +kernel, by decide +kernel, by decide +kernel, by decide +kernel, (fun q _ h => absurd h (Nat.not_lt_zero q))⟩,
   ⟨(tst [(SYS_MODE_MODE, mRESET)]), by decide +kernel⟩,
   ⟨(tst []), by decide +kernel⟩,
   ⟨(tst []), 0, false, by decide +kernel⟩,
   ⟨(tst [(SYS_MODE_MODE, mCOLD_STANDBY)]), 0, false, by decide +kernel⟩,
   ⟨(modRing 0 (fun x => { x with pairMiss := 3 }) (tst [(RED_STAT_ROLE, 1), (KR_STAT_STATE 0, rMASTER)])), 0, by decide +kernel⟩,
   ⟨(tst []), 0, by decide +kernel⟩⟩

/-- The hypotheses of each clause of Obligations.TakeoverRuns can be met. -/
theorem test_TakeoverRuns_meets :
  (∃ (s : State) (u : State) (m : Nat), u = s.runTo m ∧ u.mode < mBARE) ∧
  (∃ (s : State) (u : State) (r : Fin 2) (f : RFrame) (m : Nat), u = s.runTo m ∧ mBARE ≤ u.mode ∧ u.rstate r = rIDLE ∧ f.type = 0 ∧ f.hcrc = true ∧ f.fcs = true) ∧
  (∃ (s : State) (u : State) (r : Fin 2) (f : RFrame) (m : Nat), u = s.runTo m ∧ mBARE ≤ u.mode ∧ u.rstate r ≠ rNODE ∧ (u.rstate r ≠ rIDLE ∨ f.type ≠ 0 ∨ f.hcrc = false ∨ f.fcs = false)) ∧
  (∃ (s : State) (u : State) (r : Fin 2) (m : Nat), u = s.runTo m ∧ mBARE ≤ u.mode ∧ u.rstate r = rNODE) ∧
  (∃ (u : State) (r : Fin 2), (u.ring r).looping = false) ∧
  (∃ (u : State) (r : Fin 2), (u.ring r).looping = true) ∧
  (∃ (s : State) (u : State) (r : Fin 2) (f : RFrame) (m : Nat), u = s.runTo m ∧ mBARE ≤ u.mode ∧ u.rstate r = rNODE ∧ f.hcrc = true ∧ f.type = 1 ∧ (u.ring r).looping = false) ∧
  (∃ (s : State) (u : State) (r : Fin 2) (f : RFrame) (m : Nat), u = s.runTo m ∧ mBARE ≤ u.mode ∧ u.rstate r = rNODE ∧ f.hcrc = true ∧ f.type = 0 ∧ u.oldEpoch r f = false ∧ f.sid ≠ u.nodeSid) ∧
  (  let cycleFrame := fun (u : State) (r : Fin 2) (f : RFrame) =>
        mBARE ≤ u.mode ∧ u.rstate r = rNODE ∧ f.hcrc = true ∧ f.type = 0 ∧ u.oldEpoch r f = false ∧ f.sid = u.nodeSid
    ∃ (s : State) (u : State) (r : Fin 2) (f : RFrame) (m : Nat), u = s.runTo m ∧ cycleFrame u r f ∧ u.passGap r f = some 0 ∧ (u.ring r).looping = false) ∧
  (  let cycleFrame := fun (u : State) (r : Fin 2) (f : RFrame) =>
        mBARE ≤ u.mode ∧ u.rstate r = rNODE ∧ f.hcrc = true ∧ f.type = 0 ∧ u.oldEpoch r f = false ∧ f.sid = u.nodeSid
    ∃ (s : State) (u : State) (r : Fin 2) (onS : Bool) (f : RFrame) (a : Int) (b : Nat) (m : Nat), u = s.runTo m ∧ cycleFrame u r f ∧ f.fcs = true ∧ f.frame = 0 ∧ u.mode = mCOLD_STANDBY ∧ u.passGap r f = some 1 ∧ u.turned r onS f = false ∧ u.inWindow r f (u.nodeDelta r f a b) = true) ∧
  (  let cycleFrame := fun (u : State) (r : Fin 2) (f : RFrame) =>
        mBARE ≤ u.mode ∧ u.rstate r = rNODE ∧ f.hcrc = true ∧ f.type = 0 ∧ u.oldEpoch r f = false ∧ f.sid = u.nodeSid
    ∃ (s : State) (u : State) (r : Fin 2) (onS : Bool) (f : RFrame) (a : Int) (b : Nat) (m : Nat) (n : Nat), u = s.runTo m ∧ cycleFrame u r f ∧ u.passGap r f = some n ∧ 1 ≤ n ∧ n ≤ 4 ∧ u.turned r onS f = false ∧ u.inWindow r f (u.nodeDelta r f a b) = false) ∧
  (  let cycleFrame := fun (u : State) (r : Fin 2) (f : RFrame) =>
        mBARE ≤ u.mode ∧ u.rstate r = rNODE ∧ f.hcrc = true ∧ f.type = 0 ∧ u.oldEpoch r f = false ∧ f.sid = u.nodeSid
    ∃ (s : State) (u : State) (r : Fin 2) (onS : Bool) (f : RFrame) (m : Nat) (n : Nat), u = s.runTo m ∧ cycleFrame u r f ∧ u.passGap r f = some n ∧ 1 ≤ n ∧ n ≤ 4 ∧ u.turned r onS f = true) ∧
  (  let cycleFrame := fun (u : State) (r : Fin 2) (f : RFrame) =>
        mBARE ≤ u.mode ∧ u.rstate r = rNODE ∧ f.hcrc = true ∧ f.type = 0 ∧ u.oldEpoch r f = false ∧ f.sid = u.nodeSid
    ∃ (s : State) (u : State) (r : Fin 2) (f : RFrame) (m : Nat) (n : Nat), u = s.runTo m ∧ cycleFrame u r f ∧ u.passGap r f = some n ∧ 4 < n ∧ (u.ring r).full = true) ∧
  (∃ (s : State) (u : State) (r : Fin 2) (m : Nat), u = s.runTo m ∧ (u.mode ≠ mCOLD_STANDBY ∨ (u.ring r).validAt = none)) ∧
  (∃ (s : State) (u : State) (r : Fin 2) (m : Nat), u = s.runTo m ∧ u.mode = mCOLD_STANDBY ∧ (u.ring r).validAt.isSome = true ∧ u.anyLink = false) ∧
  (  let last := fun (u : State) => (List.finRange 2).foldl (fun (m : Nat) (q : Fin 2) => max m ((u.ring q).validAt.getD 0)) 0
      let missedNow := fun (u : State) (r : Fin 2) => u.mode = mCOLD_STANDBY ∧ (u.ring r).validAt.isSome = true ∧ u.anyLink = true ∧
        last u + (min (u.f RED_STAT_MISSED) 2 + 1) * u.ringCycles r + u.f (KR_WIN_W_ARR r) * 4 / 5 < u.time.mono
    ∃ (s : State) (u : State) (r : Fin 2) (m : Nat), u = s.runTo m ∧ u.mode = mCOLD_STANDBY ∧ (u.ring r).validAt.isSome = true ∧ u.anyLink = true ∧ ¬ missedNow u r) ∧
  (  let last := fun (u : State) => (List.finRange 2).foldl (fun (m : Nat) (q : Fin 2) => max m ((u.ring q).validAt.getD 0)) 0
      let missedNow := fun (u : State) (r : Fin 2) => u.mode = mCOLD_STANDBY ∧ (u.ring r).validAt.isSome = true ∧ u.anyLink = true ∧
        last u + (min (u.f RED_STAT_MISSED) 2 + 1) * u.ringCycles r + u.f (KR_WIN_W_ARR r) * 4 / 5 < u.time.mono
    ∃ (s : State) (u : State) (r : Fin 2) (m : Nat), u = s.runTo m ∧ missedNow u r ∧ (u.f RED_STAT_MISSED < 2 ∨ u.armed = false)) ∧
  (  let last := fun (u : State) => (List.finRange 2).foldl (fun (m : Nat) (q : Fin 2) => max m ((u.ring q).validAt.getD 0)) 0
      let missedNow := fun (u : State) (r : Fin 2) => u.mode = mCOLD_STANDBY ∧ (u.ring r).validAt.isSome = true ∧ u.anyLink = true ∧
        last u + (min (u.f RED_STAT_MISSED) 2 + 1) * u.ringCycles r + u.f (KR_WIN_W_ARR r) * 4 / 5 < u.time.mono
    ∃ (s : State) (u : State) (r : Fin 2) (m : Nat), u = s.runTo m ∧ missedNow u r ∧ 2 ≤ u.f RED_STAT_MISSED ∧ u.armed = true) ∧
  (∃ (u : State), u.flag RED_STAT_ISOLATED = true) ∧
  (∃ (u : State), u.flag RED_STAT_ISOLATED = false) ∧
  (∃ (s : State), s.mapOpen = true ∧ s.mode = mCOLD_STANDBY ∧ s.anyLink = true) ∧
  (∃ (s : State), s.mapOpen = true ∧ s.mode = mCOLD_STANDBY ∧ s.anyLink = false) ∧
  (∃ (s : State) (k : Nat), (k ≠ 0x5244 ∨ s.mapOpen = false ∨ s.mode ≠ mCOLD_STANDBY)) ∧
  (∃ (s : State) (k : Nat), (k ≠ 0x4D44 ∨ s.mapOpen = false)) ∧
  (∃ (s : State) (u : State), s.mapOpen = true ∧ u = s.eventsFirst ∧ u.mode = mCOLD_STANDBY ∧ u.anyLink = true) ∧
  (∃ (s : State) (u : State), s.mapOpen = true ∧ u = s.eventsFirst ∧ u.mode = mCOLD_STANDBY ∧ u.anyLink = false) ∧
  (∃ (s : State) (u : State), s.mapOpen = true ∧ u = s.eventsFirst ∧ u.mode ≠ mCOLD_STANDBY) ∧
  (∃ (s : State) (u : State) (m : Nat), u = s.runTo m ∧ (u.cfg.run = none ∨ u.mode ≠ mTAKEOVER)) ∧
  (∃ (s : State) (u : State) (i : Image) (m : Nat), u = s.runTo m ∧ u.cfg.run = some i ∧ u.mode = mTAKEOVER ∧ u.pair.restored = true ∧ (u.sentFirst 0 = true ∨ u.sentFirst 1 = true)) ∧
  (∃ (s : State) (u : State) (i : Image) (m : Nat), u = s.runTo m ∧ u.cfg.run = some i ∧ u.mode = mTAKEOVER ∧ u.pair.restored = true ∧ u.sentFirst 0 = false ∧ u.sentFirst 1 = false) ∧
  (  let restoring := fun (u : State) (i : Image) => u.cfg.run = some i ∧ u.mode = mTAKEOVER ∧ u.pair.restored = false
    ∃ (s : State) (u : State) (i : Image) (m : Nat), u = s.runTo m ∧ restoring u i ∧ u.newestLoam = none) ∧
  (  let restoring := fun (u : State) (i : Image) => u.cfg.run = some i ∧ u.mode = mTAKEOVER ∧ u.pair.restored = false
    ∃ (s : State) (u : State) (i : Image) (b : Fin 2) (k : Snap) (m : Nat), u = s.runTo m ∧ restoring u i ∧ u.newestLoam = some (b, k) ∧ k.hash ≠ i.hash) ∧
  (  let restoring := fun (u : State) (i : Image) => u.cfg.run = some i ∧ u.mode = mTAKEOVER ∧ u.pair.restored = false
    ∃ (s : State) (u : State) (i : Image) (b : Fin 2) (k : Snap) (m : Nat), u = s.runTo m ∧ restoring u i ∧ u.newestLoam = some (b, k) ∧ k.hash = i.hash ∧ u.f RED_CFG_MAXAGE < u.snapAge k.time) ∧
  (  let restoring := fun (u : State) (i : Image) => u.cfg.run = some i ∧ u.mode = mTAKEOVER ∧ u.pair.restored = false
    ∃ (s : State) (u : State) (i : Image) (b : Fin 2) (k : Snap) (m : Nat), u = s.runTo m ∧ restoring u i ∧ u.newestLoam = some (b, k) ∧ k.hash = i.hash ∧ u.snapAge k.time ≤ u.f RED_CFG_MAXAGE ∧ ((∀ x ∈ k.doors, x.1.length ≤ 64)) ∧ ((∀ p ∈ i.st.probs, p.unit < 4 ∧ p.pos < 3)) ∧ u.sentFirst 0 = false ∧ u.sentFirst 1 = false) :=
  ⟨⟨(tst [(KR_STAT_STATE 0, rNODE)]), ((tst [(KR_STAT_STATE 0, rNODE)])).runTo 0, 0, rfl, by decide +kernel⟩,
   ⟨(tst [(KR_STAT_STATE 0, rIDLE), (SYS_MODE_MODE, mBARE)]), ((tst [(KR_STAT_STATE 0, rIDLE), (SYS_MODE_MODE, mBARE)])).runTo 0, 0, frm 0, 0, rfl, by decide +kernel, by decide +kernel, by decide +kernel, by decide +kernel, by decide +kernel⟩,
   ⟨(tst [(SYS_MODE_MODE, mRUN)]), ((tst [(SYS_MODE_MODE, mRUN)])).runTo 0, 0, frm 1, 0, rfl, by decide +kernel, by decide +kernel, by decide +kernel⟩,
   ⟨(tst [(SYS_MODE_MODE, mRUN), (KR_STAT_STATE 0, rNODE)]), ((tst [(SYS_MODE_MODE, mRUN), (KR_STAT_STATE 0, rNODE)])).runTo 0, 0, 0, rfl, by decide +kernel, by decide +kernel⟩,
   ⟨(tst []), 0, by decide +kernel⟩,
   ⟨(modRing 0 (fun x => { x with looping := true }) (tst [])), 0, by decide +kernel⟩,
   ⟨(tst [(KR_STAT_STATE 0, rNODE), (SYS_MODE_MODE, mRUN)]), ((tst [(KR_STAT_STATE 0, rNODE), (SYS_MODE_MODE, mRUN)])).runTo 0, 0, frm 1, 0, rfl, by decide +kernel, by decide +kernel, by decide +kernel, by decide +kernel, by decide +kernel⟩,
   ⟨(tst [(KR_STAT_STATE 0, rNODE), (SYS_MODE_MODE, mRUN)]), ((tst [(KR_STAT_STATE 0, rNODE), (SYS_MODE_MODE, mRUN)])).runTo 0, 0, { frm 0 with sid := 1 }, 0, rfl, by decide +kernel, by decide +kernel, by decide +kernel, by decide +kernel, by decide +kernel, by decide +kernel⟩,
   ⟨(modRing 0 (fun x => { x with heard := some ⟨0, 0, 0, 0, 0⟩ }) (tst [(KR_STAT_STATE 0, rNODE), (SYS_MODE_MODE, mRUN)])), ((modRing 0 (fun x => { x with heard := some ⟨0, 0, 0, 0, 0⟩ }) (tst [(KR_STAT_STATE 0, rNODE), (SYS_MODE_MODE, mRUN)]))).runTo 0, 0, frm 0, 0, rfl, by decide +kernel, by decide +kernel, by decide +kernel⟩,
   ⟨(modRing 0 (fun x => { x with heard := some ⟨0, 0, 0, 0, 0⟩ }) (tst [(SYS_MODE_MODE, mCOLD_STANDBY), (KR_STAT_STATE 0, rNODE)])), ((modRing 0 (fun x => { x with heard := some ⟨0, 0, 0, 0, 0⟩ }) (tst [(SYS_MODE_MODE, mCOLD_STANDBY), (KR_STAT_STATE 0, rNODE)]))).runTo 0, 0, false, { frm 0 with cycle := 1 }, 0, 0, 0, rfl, by decide +kernel, by decide +kernel, by decide +kernel, by decide +kernel, by decide +kernel, by decide +kernel, by decide +kernel⟩,
   ⟨(modRing 0 (fun x => { x with full := true, heard := some ⟨0, 0, 0, 0, 0⟩ }) (tst [(KR_STAT_STATE 0, rNODE), (SYS_MODE_MODE, mRUN)])), ((modRing 0 (fun x => { x with full := true, heard := some ⟨0, 0, 0, 0, 0⟩ }) (tst [(KR_STAT_STATE 0, rNODE), (SYS_MODE_MODE, mRUN)]))).runTo 0, 0, false, { frm 0 with cycle := 1 }, 0, 0, 0, 1, rfl, by decide +kernel, by decide +kernel, by decide +kernel, by decide +kernel, by decide +kernel, by decide +kernel⟩,
   ⟨(modRing 0 (fun x => { x with full := true, pass0 := some (true, 0), heard := some ⟨0, 0, 0, 0, 0⟩ }) (tst [(KR_STAT_STATE 0, rNODE), (SYS_MODE_MODE, mRUN)])), ((modRing 0 (fun x => { x with full := true, pass0 := some (true, 0), heard := some ⟨0, 0, 0, 0, 0⟩ }) (tst [(KR_STAT_STATE 0, rNODE), (SYS_MODE_MODE, mRUN)]))).runTo 0, 0, false, { frm 0 with cycle := 1 }, 0, 1, rfl, by decide +kernel, by decide +kernel, by decide +kernel, by decide +kernel, by decide +kernel⟩,
   ⟨(modRing 0 (fun x => { x with full := true, heard := some ⟨0, 0, 0, 0, 0⟩ }) (tst [(KR_STAT_STATE 0, rNODE), (SYS_MODE_MODE, mRUN)])), ((modRing 0 (fun x => { x with full := true, heard := some ⟨0, 0, 0, 0, 0⟩ }) (tst [(KR_STAT_STATE 0, rNODE), (SYS_MODE_MODE, mRUN)]))).runTo 0, 0, { frm 0 with cycle := 5 }, 0, 5, rfl, by decide +kernel, by decide +kernel, by decide +kernel, by decide +kernel⟩,
   ⟨(tst []), ((tst [])).runTo 0, 0, 0, rfl, by decide +kernel⟩,
   ⟨(modRing 0 (fun x => { x with validAt := some 0 }) (tst [(SYS_MODE_MODE, mCOLD_STANDBY)])), ((modRing 0 (fun x => { x with validAt := some 0 }) (tst [(SYS_MODE_MODE, mCOLD_STANDBY)]))).runTo 0, 0, 0, rfl, by decide +kernel, by decide +kernel, by decide +kernel⟩,
   ⟨(modRing 0 (fun x => { x with validAt := some 0 }) (tst [(SYS_MODE_MODE, mCOLD_STANDBY), (KR_STAT_LINK_P 0, 1)])), ((modRing 0 (fun x => { x with validAt := some 0 }) (tst [(SYS_MODE_MODE, mCOLD_STANDBY), (KR_STAT_LINK_P 0, 1)]))).runTo 0, 0, 0, rfl, by decide +kernel, by decide +kernel, by decide +kernel, by decide +kernel⟩,
   ⟨(modRing 0 (fun x => { x with validAt := some 0 }) (tst [(KR_STAT_LINK_P 0, 1), (SYS_MODE_MODE, mCOLD_STANDBY)])), ((modRing 0 (fun x => { x with validAt := some 0 }) (tst [(KR_STAT_LINK_P 0, 1), (SYS_MODE_MODE, mCOLD_STANDBY)]))).runTo 800000, 0, 800000, rfl, by decide +kernel, by decide +kernel⟩,
   ⟨(modPair (fun x => { x with took := true }) (taking (snp 0) (modRing 0 (fun x => { x with validAt := some 0 }) (tst [(KR_STAT_LINK_P 0, 1), (SYS_MODE_MODE, mCOLD_STANDBY), (RED_STAT_MISSED, 2), (RED_CFG_MAXAGE, 100)])))), ((modPair (fun x => { x with took := true }) (taking (snp 0) (modRing 0 (fun x => { x with validAt := some 0 }) (tst [(KR_STAT_LINK_P 0, 1), (SYS_MODE_MODE, mCOLD_STANDBY), (RED_STAT_MISSED, 2), (RED_CFG_MAXAGE, 100)]))))).runTo 800000, 0, 800000, rfl, by decide +kernel, by decide +kernel, by decide +kernel⟩,
   ⟨(tst [(RED_STAT_ISOLATED, 1)]), by decide +kernel⟩,
   ⟨(tst [(RED_STAT_ISOLATED, 0)]), by decide +kernel⟩,
   ⟨(tst [(SYS_MODE_MODE, mCOLD_STANDBY), (KR_STAT_LINK_P 0, 1)]), by decide +kernel⟩,
   ⟨(tst [(SYS_MODE_MODE, mCOLD_STANDBY)]), by decide +kernel⟩,
   ⟨(tst []), 0, by decide +kernel⟩,
   ⟨(tst []), 0, by decide +kernel⟩,
   ⟨(tst [(SYS_MODE_MODE, mCOLD_STANDBY), (KR_STAT_LINK_P 0, 1)]), ((tst [(SYS_MODE_MODE, mCOLD_STANDBY), (KR_STAT_LINK_P 0, 1)])).eventsFirst, by decide +kernel, rfl, by decide +kernel, by decide +kernel⟩,
   ⟨(tst [(SYS_MODE_MODE, mCOLD_STANDBY)]), ((tst [(SYS_MODE_MODE, mCOLD_STANDBY)])).eventsFirst, by decide +kernel, rfl, by decide +kernel, by decide +kernel⟩,
   ⟨(tst []), ((tst [])).eventsFirst, by decide +kernel, rfl, by decide +kernel⟩,
   ⟨(tst []), ((tst [])).runTo 0, 0, rfl, by decide +kernel⟩,
   ⟨(modRing 0 (fun x => { x with cp := some cpy }) (modPair (fun x => { x with restored := true }) (modCfg (fun x => { x with run := some img0 }) (tst [(SYS_MODE_MODE, mTAKEOVER), (KR_STAT_STATE 0, rMASTER)])))), ((modRing 0 (fun x => { x with cp := some cpy }) (modPair (fun x => { x with restored := true }) (modCfg (fun x => { x with run := some img0 }) (tst [(SYS_MODE_MODE, mTAKEOVER), (KR_STAT_STATE 0, rMASTER)]))))).runTo 0, img0, 0, rfl, by decide +kernel, by decide +kernel, by decide +kernel, by decide +kernel⟩,
   ⟨(modPair (fun x => { x with restored := true }) (modCfg (fun x => { x with run := some img0 }) (tst [(SYS_MODE_MODE, mTAKEOVER)]))), ((modPair (fun x => { x with restored := true }) (modCfg (fun x => { x with run := some img0 }) (tst [(SYS_MODE_MODE, mTAKEOVER)])))).runTo 0, img0, 0, rfl, by decide +kernel, by decide +kernel, by decide +kernel, by decide +kernel, by decide +kernel⟩,
   ⟨(modCfg (fun x => { x with run := some img0 }) (tst [(SYS_MODE_MODE, mTAKEOVER)])), ((modCfg (fun x => { x with run := some img0 }) (tst [(SYS_MODE_MODE, mTAKEOVER)]))).runTo 0, img0, 0, rfl, by decide +kernel, by decide +kernel⟩,
   ⟨(taking { snp 0 with hash := List.replicate 12 1 } (tst [(SYS_MODE_MODE, mTAKEOVER)])), ((taking { snp 0 with hash := List.replicate 12 1 } (tst [(SYS_MODE_MODE, mTAKEOVER)]))).runTo 0, img0, 0, { snp 0 with hash := List.replicate 12 1 }, 0, rfl, by decide +kernel, by decide +kernel, by decide +kernel⟩,
   ⟨(taking (snp 0) (tst [(SYS_MODE_MODE, mTAKEOVER), (RED_CFG_MAXAGE, 1)])), ((taking (snp 0) (tst [(SYS_MODE_MODE, mTAKEOVER), (RED_CFG_MAXAGE, 1)]))).runTo 8000000, img0, 0, snp 0, 8000000, rfl, by decide +kernel, by decide +kernel, by decide +kernel, by decide +kernel⟩,
   ⟨(taking (snp 0) (tst [(SYS_MODE_MODE, mTAKEOVER)])), ((taking (snp 0) (tst [(SYS_MODE_MODE, mTAKEOVER)]))).runTo 0, img0, 0, snp 0, 0, rfl, by decide +kernel, by decide +kernel, by decide +kernel, by decide +kernel, by decide +kernel, by decide +kernel, by decide +kernel, by decide +kernel⟩⟩

/-- The hypotheses of each clause of Obligations.ModeRequests can be met. -/
theorem test_ModeRequests_meets :
  (∃ (s : State) (k : Nat), (k ≠ 0x4D44 ∨ s.mapOpen = false)) ∧
  (  let asked := fun (s u : State) => s.mapOpen = true ∧ u = s.eventsFirst
    ∃ (s : State) (u : State), asked s u ∧ (u.mode = mCOMMISSION ∨ u.mode = mSAFE_HOLD) ∧ u.runCond = 0) ∧
  (  let asked := fun (s u : State) => s.mapOpen = true ∧ u = s.eventsFirst
    ∃ (s : State) (u : State), asked s u ∧ (u.mode = mCOMMISSION ∨ u.mode = mSAFE_HOLD) ∧ u.runCond ≠ 0) ∧
  (  let asked := fun (s u : State) => s.mapOpen = true ∧ u = s.eventsFirst
    ∃ (s : State) (u : State), asked s u ∧ u.mode ≠ mCOMMISSION ∧ u.mode ≠ mSAFE_HOLD) ∧
  (  let asked := fun (s u : State) => s.mapOpen = true ∧ u = s.eventsFirst
    ∃ (s : State) (u : State), asked s u ∧ u.mode = mRUN ∧ u.standstill = true) ∧
  (  let asked := fun (s u : State) => s.mapOpen = true ∧ u = s.eventsFirst
    ∃ (s : State) (u : State), asked s u ∧ u.mode = mRUN ∧ u.standstill = false) ∧
  (  let asked := fun (s u : State) => s.mapOpen = true ∧ u = s.eventsFirst
    ∃ (s : State) (u : State), asked s u ∧ u.mode = mSAFE_HOLD) ∧
  (  let asked := fun (s u : State) => s.mapOpen = true ∧ u = s.eventsFirst
    ∃ (s : State) (u : State), asked s u ∧ u.mode = mFAULT ∧ u.flag SYS_MODE_HOLD = false ∧ u.fltCleared = true) ∧
  (  let asked := fun (s u : State) => s.mapOpen = true ∧ u = s.eventsFirst
    ∃ (s : State) (u : State), asked s u ∧ u.mode = mFAULT ∧ u.flag SYS_MODE_HOLD = false ∧ u.fltCleared = false) ∧
  (  let asked := fun (s u : State) => s.mapOpen = true ∧ u = s.eventsFirst
    ∃ (s : State) (u : State), asked s u ∧ u.mode ≠ mRUN ∧ u.mode ≠ mSAFE_HOLD ∧ ((u.mode ≠ mFAULT ∨ u.flag SYS_MODE_HOLD = true))) ∧
  (  let asked := fun (s u : State) => s.mapOpen = true ∧ u = s.eventsFirst
    ∃ (s : State) (u : State), asked s u ∧ (u.mode = mCOMMISSION ∨ u.mode = mRUN)) ∧
  (  let asked := fun (s u : State) => s.mapOpen = true ∧ u = s.eventsFirst
    ∃ (s : State) (u : State), asked s u ∧ u.mode ≠ mCOMMISSION ∧ u.mode ≠ mRUN) ∧
  (  let asked := fun (s u : State) => s.mapOpen = true ∧ u = s.eventsFirst
      let toBare := fun (u : State) => u.mode = mCOMMISSION ∨ u.mode = mSAFE_HOLD ∨ (u.mode = mFAULT ∧ u.flag SYS_MODE_HOLD = false)
    ∃ (s : State) (u : State), asked s u ∧ toBare u ∧ u.standstill = true ∧ ((∀ p ∈ u.st.regs, p.1 ≠ SYS_MODE ∧ p.1 ≠ KR_STAT 0 ∧ p.1 ≠ KR_STAT 1))) ∧
  (  let asked := fun (s u : State) => s.mapOpen = true ∧ u = s.eventsFirst
      let toBare := fun (u : State) => u.mode = mCOMMISSION ∨ u.mode = mSAFE_HOLD ∨ (u.mode = mFAULT ∧ u.flag SYS_MODE_HOLD = false)
    ∃ (s : State) (u : State), asked s u ∧ toBare u ∧ u.standstill = false) ∧
  (  let asked := fun (s u : State) => s.mapOpen = true ∧ u = s.eventsFirst
      let toBare := fun (u : State) => u.mode = mCOMMISSION ∨ u.mode = mSAFE_HOLD ∨ (u.mode = mFAULT ∧ u.flag SYS_MODE_HOLD = false)
    ∃ (s : State) (u : State), asked s u ∧ ¬ toBare u) :=
  ⟨⟨(tst []), 0, by decide +kernel⟩,
   ⟨(modSafe (fun x => { x with caps := some ⟨0, 0, 0, [], 0⟩ }) (tst [(SYS_MODE_MODE, mCOMMISSION)])), (modSafe (fun x => { x with caps := some ⟨0, 0, 0, [], 0⟩ }) (tst [(SYS_MODE_MODE, mCOMMISSION)])), by decide +kernel⟩,
   ⟨(tst [(SYS_MODE_MODE, mSAFE_HOLD), (SYS_MODE_SHED, 1)]), (tst [(SYS_MODE_MODE, mSAFE_HOLD), (SYS_MODE_SHED, 1)]), by decide +kernel⟩,
   ⟨(tst []), (tst []), by decide +kernel⟩,
   ⟨(tst [(SYS_MODE_MODE, mRUN)]), (tst [(SYS_MODE_MODE, mRUN)]), by decide +kernel⟩,
   ⟨(inImg { axes := [0] } ((tst [(SYS_MODE_MODE, mRUN), (SYS_MODE_MODE, mRUN)]).modTile 0 (fun x => { x with cv := 1 }))), ((inImg { axes := [0] } ((tst [(SYS_MODE_MODE, mRUN), (SYS_MODE_MODE, mRUN)]).modTile 0 (fun x => { x with cv := 1 })))).eventsFirst, ⟨by decide +kernel, rfl⟩, by decide +kernel, by decide +kernel⟩,
   ⟨(tst [(SYS_MODE_MODE, mSAFE_HOLD)]), (tst [(SYS_MODE_MODE, mSAFE_HOLD)]), by decide +kernel⟩,
   ⟨(tst [(SYS_MODE_MODE, mFAULT), (SYS_MODE_HOLD, 0)]), (tst [(SYS_MODE_MODE, mFAULT), (SYS_MODE_HOLD, 0)]), by decide +kernel⟩,
   ⟨(modFlt (fun x => { x with entries := [ent 1 1 cCRITICAL 3] }) (tst [(SYS_MODE_MODE, mFAULT), (SYS_MODE_HOLD, 0)])), (modFlt (fun x => { x with entries := [ent 1 1 cCRITICAL 3] }) (tst [(SYS_MODE_MODE, mFAULT), (SYS_MODE_HOLD, 0)])), by decide +kernel⟩,
   ⟨(tst []), (tst []), by decide +kernel⟩,
   ⟨(tst [(SYS_MODE_MODE, mRUN)]), (tst [(SYS_MODE_MODE, mRUN)]), by decide +kernel⟩,
   ⟨(tst []), (tst []), by decide +kernel⟩,
   ⟨(tst [(SYS_MODE_MODE, mCOMMISSION)]), (tst [(SYS_MODE_MODE, mCOMMISSION)]), by decide +kernel⟩,
   ⟨(inImg { axes := [0] } ((tst [(SYS_MODE_MODE, mCOMMISSION)]).modTile 0 (fun x => { x with cv := 1 }))), ((inImg { axes := [0] } ((tst [(SYS_MODE_MODE, mCOMMISSION)]).modTile 0 (fun x => { x with cv := 1 })))).eventsFirst, ⟨by decide +kernel, rfl⟩, by decide +kernel, by decide +kernel⟩,
   ⟨(tst []), (tst []), by decide +kernel⟩⟩

/-- The hypotheses of each clause of Obligations.ResetSources can be met. -/
theorem test_ResetSources_meets :
  (∃ (low : Nat), 1000 ≤ low) ∧
  (∃ (low : Nat), low < 1000) ∧
  (∃ (s : State), s.mode ≠ mRESET ∧ s.scrappedMap = false) ∧
  (∃ (s : State) (k : Nat), (k ≠ 0x4354 ∨ s.mode = mRESET ∨ s.scrappedMap = true)) ∧
  (∃ (s : State) (u : State) (e : Nat) (m : Nat), u = s.runTo m ∧ u.sys.expired = some e ∧ e + u.msCycles 10 ≤ u.time.mono) ∧
  (∃ (s : State) (u : State) (e : Nat) (m : Nat), u = s.runTo m ∧ u.sys.expired = some e ∧ u.time.mono < e + u.msCycles 10) ∧
  (∃ (s : State) (u : State) (m : Nat), u = s.runTo m ∧ u.sys.expired = none) ∧
  (∃ (x : Nat), 1150 ≤ x) ∧
  (∃ (x : Nat), x < 1150) ∧
  (∃ (s : State) (v : Nat), v ≤ 9100 ∧ (s.sys.commitDue = false ∨ s.snapDue = false)) ∧
  (∃ (s : State) (v : Nat), v ≤ 9100 ∧ s.sys.commitDue = true ∧ s.snapDue = true) ∧
  (∃ (v : Nat), 9100 < v) ∧
  (  let released := fun (s : State) (v above : Nat) (refOk high : Bool) (hot : Int) => s.mode = mRESET ∧ 10250 ≤ v ∧ 10000 ≤ above ∧ refOk = true ∧
        high = true ∧ ((s.f SYS_RST_CAUSE_CAUSE).testBit rcTHERM = true → hot < 1050)
    ∃ (s : State) (v : Nat) (above : Nat) (refOk : Bool) (high : Bool) (hot : Int), released s v above refOk high hot) ∧
  (  let released := fun (s : State) (v above : Nat) (refOk high : Bool) (hot : Int) => s.mode = mRESET ∧ 10250 ≤ v ∧ 10000 ≤ above ∧ refOk = true ∧
        high = true ∧ ((s.f SYS_RST_CAUSE_CAUSE).testBit rcTHERM = true → hot < 1050)
    ∃ (s : State) (v : Nat) (above : Nat) (refOk : Bool) (high : Bool) (hot : Int), ¬ released s v above refOk high hot) ∧
  (∃ (s : State) (u : State) (m : Nat), u = s.runTo m ∧ u.mapOpen = true) ∧
  (∃ (s : State) (u : State) (k : Nat) (m : Nat), u = s.runTo m ∧ (k ≠ 0x4354 ∨ u.mapOpen = false)) ∧
  (  let expires := fun (u : State) => u.sys.start.toNat / 65536 ≠ 0 ∧ u.mode ≠ mRESET ∧ u.sys.expired = none ∧
        u.sys.kicked + u.msCycles (u.sys.start.toNat / 65536) ≤ u.time.mono
    ∃ (s : State) (u : State) (m : Nat), u = s.runTo m ∧ expires u) ∧
  (  let expires := fun (u : State) => u.sys.start.toNat / 65536 ≠ 0 ∧ u.mode ≠ mRESET ∧ u.sys.expired = none ∧
        u.sys.kicked + u.msCycles (u.sys.start.toNat / 65536) ≤ u.time.mono
    ∃ (s : State) (u : State) (m : Nat), u = s.runTo m ∧ ¬ expires u) :=
  ⟨⟨1000, by decide +kernel⟩,
   ⟨0, by decide +kernel⟩,
   ⟨(tst []), by decide +kernel⟩,
   ⟨(tst []), 0, by decide +kernel⟩,
   ⟨(modSys (fun x => { x with expired := some 0 }) (tst [])), ((modSys (fun x => { x with expired := some 0 }) (tst []))).runTo 8000000, 0, 8000000, rfl, by decide +kernel, by decide +kernel⟩,
   ⟨(modSys (fun x => { x with expired := some 0 }) (tst [])), ((modSys (fun x => { x with expired := some 0 }) (tst []))).runTo 5, 0, 5, rfl, by decide +kernel, by decide +kernel⟩,
   ⟨(tst []), ((tst [])).runTo 0, 0, rfl, by decide +kernel⟩,
   ⟨1150, by decide +kernel⟩,
   ⟨0, by decide +kernel⟩,
   ⟨(tst []), 0, by decide +kernel⟩,
   ⟨(modSys (fun x => { x with commitDue := true, commitSnap := true }) (tst [(SYS_MODE_MODE, mRUN)])), 0, by decide +kernel⟩,
   ⟨9101, by decide +kernel⟩,
   ⟨(tst [(SYS_MODE_MODE, mRESET)]), 10250, 10000, true, true, 0, by decide +kernel⟩,
   ⟨(tst []), 0, 0, false, false, 0, by decide +kernel⟩,
   ⟨(tst []), ((tst [])).runTo 0, 0, rfl, by decide +kernel⟩,
   ⟨(tst []), ((tst [])).runTo 0, 0, 0, rfl, by decide +kernel⟩,
   ⟨(modSys (fun x => { x with start := 0x10000 }) (tst [(SYS_MODE_MODE, mBARE)])), ((modSys (fun x => { x with start := 0x10000 }) (tst [(SYS_MODE_MODE, mBARE)]))).runTo 800000, 800000, rfl, by decide +kernel⟩,
   ⟨(tst []), ((tst [])).runTo 0, 0, rfl, by decide +kernel⟩⟩

/-- The hypotheses of each clause of Obligations.StartUp can be met. -/
theorem test_StartUp_meets :
  (  let ready := fun (s : State) => s.mode = mSANITISE ∧ s.sys.sanitiseFail = none
    ∃ (s : State), ready s ∧ s.nv.lcMark = s.f SYS_LC_STATE) ∧
  (  let ready := fun (s : State) => s.mode = mSANITISE ∧ s.sys.sanitiseFail = none
    ∃ (s : State), ready s ∧ s.nv.lcMark ≠ s.f SYS_LC_STATE) ∧
  (  let ready := fun (s : State) => s.mode = mSANITISE ∧ s.sys.sanitiseFail = none
    ∃ (s : State), ready s) ∧
  (  let ready := fun (s : State) => s.mode = mSANITISE ∧ s.sys.sanitiseFail = none
    ∃ (s : State), ¬ ready s) ∧
  (  let verifies := fun (s : State) => s.mode = mVERIFY ∧ s.sys.recovery = false ∧ s.f SYS_LC_STATE ≠ lcSCRAPPED
    ∃ (s : State), ¬ verifies s) ∧
  (  let verifies := fun (s : State) => s.mode = mVERIFY ∧ s.sys.recovery = false ∧ s.f SYS_LC_STATE ≠ lcSCRAPPED
    ∃ (s : State) (a : BootVerdict) (b : BootVerdict), verifies s ∧ s.bootErr a ≠ 0 ∧ s.bootErr b ≠ 0) ∧
  (  let verifies := fun (s : State) => s.mode = mVERIFY ∧ s.sys.recovery = false ∧ s.f SYS_LC_STATE ≠ lcSCRAPPED
      let takesB := fun (s : State) (a b : BootVerdict) => s.bootErr b = 0 ∧ (s.bootErr a ≠ 0 ∨ a.svn < b.svn)
      let takesA := fun (s : State) (a b : BootVerdict) => s.bootErr a = 0 ∧ (s.bootErr b ≠ 0 ∨ b.svn ≤ a.svn)
      let slot := fun (s : State) => s.sys.start.toNat % 16
    ∃ (s : State) (a : BootVerdict) (b : BootVerdict), verifies s ∧ (takesA s a b ∨ takesB s a b) ∧ (8 ≤ slot s ∨ s.lcLoads = false)) ∧
  (  let verifies := fun (s : State) => s.mode = mVERIFY ∧ s.sys.recovery = false ∧ s.f SYS_LC_STATE ≠ lcSCRAPPED
      let takesB := fun (s : State) (a b : BootVerdict) => s.bootErr b = 0 ∧ (s.bootErr a ≠ 0 ∨ a.svn < b.svn)
      let takesA := fun (s : State) (a b : BootVerdict) => s.bootErr a = 0 ∧ (s.bootErr b ≠ 0 ∨ b.svn ≤ a.svn)
      let slot := fun (s : State) => s.sys.start.toNat % 16
    ∃ (s : State) (a : BootVerdict) (b : BootVerdict) (p : Bool) (q : Bool), verifies s ∧ (takesA s a b ∨ takesB s a b) ∧ slot s < 8 ∧ s.lcLoads = true ∧ s.authCheck (slot s) p q = 0) ∧
  (  let verifies := fun (s : State) => s.mode = mVERIFY ∧ s.sys.recovery = false ∧ s.f SYS_LC_STATE ≠ lcSCRAPPED
      let takesB := fun (s : State) (a b : BootVerdict) => s.bootErr b = 0 ∧ (s.bootErr a ≠ 0 ∨ a.svn < b.svn)
      let takesA := fun (s : State) (a b : BootVerdict) => s.bootErr a = 0 ∧ (s.bootErr b ≠ 0 ∨ b.svn ≤ a.svn)
      let slot := fun (s : State) => s.sys.start.toNat % 16
    ∃ (s : State) (a : BootVerdict) (b : BootVerdict) (p : Bool) (q : Bool), verifies s ∧ (takesA s a b ∨ takesB s a b) ∧ slot s < 8 ∧ s.lcLoads = true ∧ s.authCheck (slot s) p q ≠ 0) ∧
  (∃ (s : State), s.mapOpen = true) ∧
  (∃ (s : State), s.mapOpen = false) ∧
  (∃ (s : State), s.mapOpen = true) ∧
  (∃ (s : State) (k : Nat), (k ≠ 0x4354 ∨ s.mapOpen = false)) :=
  ⟨⟨(tst []), by decide +kernel⟩,
   ⟨(modNv (fun x => { x with lcMark := 1 }) (tst [])), by decide +kernel⟩,
   ⟨(tst []), by decide +kernel⟩,
   ⟨(tst [(SYS_MODE_MODE, mRUN)]), by decide +kernel⟩,
   ⟨(tst []), by decide +kernel⟩,
   ⟨(tst [(SYS_MODE_MODE, mVERIFY)]), (⟨false, 0, 0, false, false, 0⟩ : BootVerdict), (⟨false, 0, 0, false, false, 0⟩ : BootVerdict), by decide +kernel⟩,
   ⟨(keyed 0 (tst [(SYS_MODE_MODE, mVERIFY)])), (⟨true, 0x11, 0x22, true, true, 0⟩ : BootVerdict), (⟨false, 0, 0, false, false, 0⟩ : BootVerdict), by decide +kernel⟩,
   ⟨(modSys (fun x => { x with start := 0 }) (loading (tst [(SYS_LC_STATE, 1), (SYS_MODE_MODE, mVERIFY)]))), (⟨true, 0x11, 0x22, true, true, 0⟩ : BootVerdict), (⟨true, 0x11, 0x22, true, true, 0⟩ : BootVerdict), true, true, by decide +kernel⟩,
   ⟨(modSys (fun x => { x with start := 0 }) (keyed 0 (tst [(SYS_LC_STATE, 1), (SYS_MODE_MODE, mVERIFY)]))), (⟨true, 0x11, 0x22, true, true, 0⟩ : BootVerdict), (⟨true, 0x11, 0x22, true, true, 1⟩ : BootVerdict), false, false, by decide +kernel⟩,
   ⟨(tst []), by decide +kernel⟩,
   ⟨(tst [(SYS_MODE_MODE, mRESET)]), by decide +kernel⟩,
   ⟨(tst []), by decide +kernel⟩,
   ⟨(tst []), 0, by decide +kernel⟩⟩

/-- The hypotheses of each clause of Obligations.SupplyEvents can be met. -/
theorem test_SupplyEvents_meets :
  (∃ (s : State) (u : State) (mv : Nat) (m : Nat), u = s.runTo m ∧ (u.mode = mRESET ∨ 10300 < mv)) ∧
  (  let inRange := fun (s : State) => ∀ p ∈ s.st.probs, p.unit < 4 ∧ p.pos < 3
    ∃ (s : State) (u : State) (v : State) (mv : Nat) (m : Nat), u = s.runTo m ∧ u.mode ≠ mRESET ∧ mv ≤ 10300 ∧ v = u.swapFirst ∧ v.flag SYS_MODE_SHED = false ∧ v.swapArmed = false ∧ inRange v) ∧
  (  let inRange := fun (s : State) => ∀ p ∈ s.st.probs, p.unit < 4 ∧ p.pos < 3
    ∃ (s : State) (u : State) (v : State) (mv : Nat) (m : Nat), u = s.runTo m ∧ u.mode ≠ mRESET ∧ mv ≤ 10300 ∧ v = u.swapFirst ∧ v.mode = mCHANGEOVER ∧ v.swapArmed = true ∧ v.safe.pend = none ∧ v.flag DBG_STAT_WHEEL = false ∧ inRange v) ∧
  (∃ (s : State) (u : State) (v : State) (mv : Nat) (m : Nat), u = s.runTo m ∧ u.mode ≠ mRESET ∧ mv ≤ 10300 ∧ v = u.swapFirst ∧ v.flag SYS_MODE_SHED = true ∧ v.swapArmed = false) ∧
  (∃ (s : State), (s.sys.commitDue = false ∨ s.canCommit = false)) ∧
  (∃ (s : State), s.sys.commitDue = true ∧ s.canCommit = true) ∧
  (  let recovers := fun (u : State) (mv rise d : Nat) => u.sys.dipStart = some d ∧ 10250 ≤ mv ∧ d ≤ rise ∧ rise ≤ u.time.mono ∧
        (u.sys.commitDue = false ∨ u.canCommit = true)
    ∃ (s : State) (u : State) (mv : Nat) (rise : Nat) (m : Nat), u = s.runTo m ∧ ((∀ d, ¬ recovers u mv rise d))) ∧
  (  let recovers := fun (u : State) (mv rise d : Nat) => u.sys.dipStart = some d ∧ 10250 ≤ mv ∧ d ≤ rise ∧ rise ≤ u.time.mono ∧
        (u.sys.commitDue = false ∨ u.canCommit = true)
    ∃ (s : State) (u : State) (w : State) (mv : Nat) (rise : Nat) (m : Nat) (d : Nat), u = s.runTo m ∧ recovers u mv rise d ∧ w = (if u.sys.commitDue then u.commit else u)) ∧
  (∃ (s : State) (v : Nat), s.mode ≠ mRESET ∧ 13800 ≤ v) ∧
  (∃ (s : State) (v : Nat), (s.mode = mRESET ∨ v < 13800)) ∧
  (∃ (s : State), s.mode ≠ mRESET) ∧
  (∃ (s : State), s.mode = mRESET) ∧
  (  let outside := fun (k v : Nat) => 1 ≤ k ∧ k < 12 ∧ (railNominal.getD k 0 = 0 ∨ 100 * v < 95 * railNominal.getD k 0 ∨ 105 * railNominal.getD k 0 < 100 * v)
    ∃ (s : State) (k : Nat) (v : Nat), s.mode ≠ mRESET ∧ s.flag SYS_MODE_SHED = false ∧ outside k v) ∧
  (  let outside := fun (k v : Nat) => 1 ≤ k ∧ k < 12 ∧ (railNominal.getD k 0 = 0 ∨ 100 * v < 95 * railNominal.getD k 0 ∨ 105 * railNominal.getD k 0 < 100 * v)
    ∃ (s : State) (k : Nat) (v : Nat), (s.mode = mRESET ∨ s.flag SYS_MODE_SHED = true ∨ ¬ outside k v)) ∧
  (∃ (s : State) (x : Nat), s.mode ≠ mRESET ∧ 950 ≤ x) ∧
  (∃ (s : State) (x : Nat), (s.mode = mRESET ∨ x < 950)) ∧
  (∃ (s : State) (x : Nat), s.mode ≠ mRESET ∧ 50 ≤ x ∧ s.sys.aged = false) ∧
  (∃ (s : State) (x : Nat), (s.mode = mRESET ∨ x < 50 ∨ s.sys.aged = true)) ∧
  (∃ (s : State), mSANITISE < s.mode) ∧
  (∃ (s : State), s.mode ≤ mSANITISE) :=
  ⟨⟨(tst []), ((tst [])).runTo 0, 10301, 0, rfl, by decide +kernel⟩,
   ⟨(tst [(SYS_MODE_SHED, 0)]), ((tst [(SYS_MODE_SHED, 0)])).runTo 0, (((tst [(SYS_MODE_SHED, 0)])).runTo 0).swapFirst, 0, 0, rfl, by decide +kernel, by decide +kernel, rfl, by decide +kernel, by decide +kernel, by decide +kernel⟩,
   ⟨(tst [(SYS_MODE_MODE, mCHANGEOVER), (DBG_STAT_WHEEL, 0), (SYS_MODE_MODE, mCHANGEOVER), (CFG_STAT_LDR, 5)]), ((tst [(SYS_MODE_MODE, mCHANGEOVER), (DBG_STAT_WHEEL, 0), (SYS_MODE_MODE, mCHANGEOVER), (CFG_STAT_LDR, 5)])).runTo 0, (((tst [(SYS_MODE_MODE, mCHANGEOVER), (DBG_STAT_WHEEL, 0), (SYS_MODE_MODE, mCHANGEOVER), (CFG_STAT_LDR, 5)])).runTo 0).swapFirst, 10300, 0, rfl, by decide +kernel, by decide +kernel, rfl, by decide +kernel, by decide +kernel, by decide +kernel, by decide +kernel, by decide +kernel⟩,
   ⟨(tst [(SYS_MODE_SHED, 1), (SYS_MODE_SHED, 1), (SYS_MODE_MODE, mRUN)]), ((tst [(SYS_MODE_SHED, 1), (SYS_MODE_SHED, 1), (SYS_MODE_MODE, mRUN)])).runTo 0, (((tst [(SYS_MODE_SHED, 1), (SYS_MODE_SHED, 1), (SYS_MODE_MODE, mRUN)])).runTo 0).swapFirst, 10300, 0, rfl, by decide +kernel, by decide +kernel, rfl, by decide +kernel, by decide +kernel⟩,
   ⟨(tst []), by decide +kernel⟩,
   ⟨(modSys (fun x => { x with commitDue := true }) (tst [(REC_STAT_READY, 1)])), by decide +kernel⟩,
   ⟨(tst []), ((tst [])).runTo 0, 10249, 0, 0, rfl, (by intro d h; exact absurd h.2.1 (by decide))⟩,
   ⟨(modSys (fun x => { x with dipStart := some 0 }) (tst [])), ((modSys (fun x => { x with dipStart := some 0 }) (tst []))).runTo 0, (if (((modSys (fun x => { x with dipStart := some 0 }) (tst []))).runTo 0).sys.commitDue then (((modSys (fun x => { x with dipStart := some 0 }) (tst []))).runTo 0).commit else (((modSys (fun x => { x with dipStart := some 0 }) (tst []))).runTo 0)), 10250, 0, 0, 0, rfl, by decide +kernel, rfl⟩,
   ⟨(tst []), 13800, by decide +kernel⟩,
   ⟨(tst []), 0, by decide +kernel⟩,
   ⟨(tst []), by decide +kernel⟩,
   ⟨(tst [(SYS_MODE_MODE, mRESET)]), by decide +kernel⟩,
   ⟨(tst [(SYS_MODE_SHED, 0)]), 1, 0, by decide +kernel⟩,
   ⟨(tst []), 0, 0, by decide +kernel⟩,
   ⟨(tst []), 950, by decide +kernel⟩,
   ⟨(tst []), 0, by decide +kernel⟩,
   ⟨(tst []), 50, by decide +kernel⟩,
   ⟨(modSys (fun x => { x with aged := true }) (tst [])), 0, by decide +kernel⟩,
   ⟨(tst [(SYS_MODE_MODE, mRUN)]), by decide +kernel⟩,
   ⟨(tst []), by decide +kernel⟩⟩

/-- The hypotheses of each clause of Obligations.AcquisitionRuns can be met. -/
theorem test_AcquisitionRuns_meets :
  (∃ (s : State), s.mapOpen = false) ∧
  (∃ (s : State), s.mapOpen = true ∧ s.armCheck = 0) ∧
  (∃ (s : State), s.mapOpen = true ∧ s.acqOn = true) ∧
  (∃ (s : State), s.mapOpen = true ∧ s.acqOn = false ∧ s.acqConfigOk = false) ∧
  (∃ (s : State), s.mapOpen = true ∧ s.acqOn = false ∧ s.acqConfigOk = true ∧ s.acqBlocks * s.framesPerBlock < s.rdN ACQ_POST) ∧
  (∃ (s : State), s.mapOpen = true ∧ s.acqOn = true) ∧
  (  let undoes := fun (s : State) => ∃ ws, s.acq.undo = some (s.time.mono, ws)
    ∃ (s : State), s.mapOpen = true ∧ s.acqOn = true ∧ ¬ undoes s ∧ s.acq.ivLen = 0 ∧ s.acq.cur = none) ∧
  (  let undoes := fun (s : State) => ∃ ws, s.acq.undo = some (s.time.mono, ws)
    ∃ (s : State) (b : AcqBlock), s.mapOpen = true ∧ s.acqOn = true ∧ ¬ undoes s ∧ s.acq.ivLen = 0 ∧ s.acq.cur = some b ∧ s.streams = false) ∧
  (  let undoes := fun (s : State) => ∃ ws, s.acq.undo = some (s.time.mono, ws)
    ∃ (s : State), s.mapOpen = true ∧ s.acqOn = false ∧ undoes s) ∧
  (  let undoes := fun (s : State) => ∃ ws, s.acq.undo = some (s.time.mono, ws)
    ∃ (s : State), s.mapOpen = true ∧ s.acqOn = false ∧ ¬ undoes s) ∧
  (∃ (s : State), s.mapOpen = true) ∧
  (∃ (s : State) (u : State) (m : Nat), u = s.runTo m ∧ u.sampleDue = none) ∧
  (∃ (s : State) (u : State) (m : Nat) (n : Nat) (b : Nat), u = s.runTo m ∧ u.sampleDue = some n ∧ u.acq.next = some b) ∧
  (  let plain := fun (s : State) => (∀ p, p < s.nprobe → s.flag (ACQ_MASK_EN p) = false) ∧ s.acq.ivLen + 1 < s.acqDec
    ∃ (s : State) (u : State) (m : Nat) (b : Nat), u = s.runTo m ∧ u.sampleDue = some 0 ∧ u.acq.next = some b ∧ u.flag ACQ_STAT_PAUSED = false ∧ plain u ∧ u.f ACQ_TRIG_EN = 0) ∧
  (  let plain := fun (s : State) => (∀ p, p < s.nprobe → s.flag (ACQ_MASK_EN p) = false) ∧ s.acq.ivLen + 1 < s.acqDec
    ∃ (s : State) (u : State) (m : Nat), u = s.runTo m ∧ u.sampleDue = some 0 ∧ u.flag ACQ_STAT_PAUSED = false ∧ plain u ∧ u.f ACQ_TRIG_EN = 64 ∧ u.seenBefore u.acq.pendForce = true ∧ u.acqState = aqARMED ∧ u.rdN ACQ_HOLDOFF ≤ u.acq.stored ∧ u.acq.idx < 18446744073709551616) ∧
  (∃ (s : State) (u : State) (m : Nat), u = s.runTo m ∧ u.sampleDue = some 0 ∧ u.flag ACQ_STAT_PAUSED = true ∧ u.acq.cur = none) ∧
  (∃ (s : State) (i : QItem) (is : List QItem) (b : AcqBlock) (bs : List AcqBlock), (s.queue 9).items = i :: is ∧ s.acq.staged = b :: bs) ∧
  (∃ (s : State), ((s.queue 9).items = [] ∨ s.acq.staged = [])) :=
  ⟨⟨(tst [(SYS_MODE_MODE, mRESET)]), by decide +kernel⟩,
   ⟨(tst [(ACQ_CFG_NPROBE, 1)]), by decide +kernel⟩,
   ⟨(tst [(ACQ_STAT_STATE, aqARMED)]), by decide +kernel⟩,
   ⟨(tst []), by decide +kernel⟩,
   ⟨((tst [(ACQ_CFG_NPROBE, 1)]).wrN ACQ_POST 100000000), by decide +kernel⟩,
   ⟨(tst [(ACQ_STAT_STATE, aqARMED)]), by decide +kernel⟩,
   ⟨(tst [(ACQ_STAT_STATE, aqARMED)]), by decide +kernel, by decide +kernel, noPair (by decide +kernel), by decide +kernel, by decide +kernel⟩,
   ⟨(modAcq (fun x => { x with cur := some ⟨0, 0, 0, 0, 0xFFFF, []⟩ }) (tst [(ACQ_STAT_STATE, aqARMED)])), (⟨0, 0, 0, 0, 0xFFFF, []⟩ : AcqBlock), by decide +kernel, by decide +kernel, noPair (by decide +kernel), by decide +kernel, by decide +kernel, by decide +kernel⟩,
   ⟨(modAcq (fun x => { x with undo := some (0, []) }) (tst [])), by decide +kernel, by decide +kernel, ⟨[], by decide +kernel⟩⟩,
   ⟨(tst []), by decide +kernel, by decide +kernel, noPair (by decide +kernel)⟩,
   ⟨(tst []), by decide +kernel⟩,
   ⟨(tst []), ((tst [])).runTo 0, 0, rfl, by decide +kernel⟩,
   ⟨(modAcq (fun x => { x with next := some 0 }) (tst [(ACQ_STAT_STATE, aqARMED), (SYS_MODE_MODE, mRUN)])), ((modAcq (fun x => { x with next := some 0 }) (tst [(ACQ_STAT_STATE, aqARMED), (SYS_MODE_MODE, mRUN)]))).runTo 0, 0, 0, 0, rfl, by decide +kernel, by decide +kernel⟩,
   ⟨(modAcq (fun x => { x with next := some 0 }) (tst [(ACQ_STAT_PAUSED, 0), (ACQ_TRIG_EN, 0), (ACQ_STAT_STATE, aqARMED), (SYS_MODE_MODE, mRUN), (ACQ_CFG_DEC, 2)])), ((modAcq (fun x => { x with next := some 0 }) (tst [(ACQ_STAT_PAUSED, 0), (ACQ_TRIG_EN, 0), (ACQ_STAT_STATE, aqARMED), (SYS_MODE_MODE, mRUN), (ACQ_CFG_DEC, 2)]))).runTo 0, 0, 0, rfl, by decide +kernel, by decide +kernel, by decide +kernel, by decide +kernel, by decide +kernel⟩,
   ⟨(modAcq (fun x => { x with next := some 1, pendForce := some (0, 0) }) (tst [(ACQ_STAT_PAUSED, 0), (ACQ_TRIG_EN, 64), (ACQ_STAT_STATE, aqARMED), (SYS_MODE_MODE, mRUN), (ACQ_CFG_DEC, 2), (ACQ_TRIG_EN, 64)])), ((modAcq (fun x => { x with next := some 1, pendForce := some (0, 0) }) (tst [(ACQ_STAT_PAUSED, 0), (ACQ_TRIG_EN, 64), (ACQ_STAT_STATE, aqARMED), (SYS_MODE_MODE, mRUN), (ACQ_CFG_DEC, 2), (ACQ_TRIG_EN, 64)]))).runTo 1, 1, rfl, by decide +kernel, by decide +kernel, by decide +kernel, by decide +kernel, by decide +kernel, by decide +kernel, by decide +kernel, by decide +kernel⟩,
   ⟨(modAcq (fun x => { x with next := some 0 }) (tst [(ACQ_STAT_PAUSED, 1), (ACQ_STAT_STATE, aqARMED), (SYS_MODE_MODE, mRUN)])), ((modAcq (fun x => { x with next := some 0 }) (tst [(ACQ_STAT_PAUSED, 1), (ACQ_STAT_STATE, aqARMED), (SYS_MODE_MODE, mRUN)]))).runTo 0, 0, rfl, by decide +kernel, by decide +kernel, by decide +kernel⟩,
   ⟨(inQ 9 [⟨8192, .block 0⟩] (modAcq (fun x => { x with staged := [⟨0, 0, 0, 0, 0xFFFF, []⟩] }) (tst []))), (⟨8192, .block 0⟩ : QItem), [], (⟨0, 0, 0, 0, 0xFFFF, []⟩ : AcqBlock), [], by decide +kernel⟩,
   ⟨(tst []), by decide +kernel⟩⟩

/-- The hypotheses of each clause of Obligations.GridRuns can be met. -/
theorem test_GridRuns_meets :
  (∃ (s : State) (u : State) (m : Nat), u = s.runTo m ∧ u.stepDue = none ∧ u.onGrid Config.msUnits = false ∧ u.eligibleNow = false ∧ u.swapDue = false) ∧
  (  let curDue := fun (u : State) => u.onGrid (Config.gridUnits / 2) = true ∧ u.loopsRun = true ∧ u.cfg.curAt ≠ some u.time.mono
    ∃ (s : State) (u : State) (m : Nat), u = (s.runTo m).takeStep.swapFirst ∧ curDue u) ∧
  (  let curDue := fun (u : State) => u.onGrid (Config.gridUnits / 2) = true ∧ u.loopsRun = true ∧ u.cfg.curAt ≠ some u.time.mono
    ∃ (s : State) (u : State) (m : Nat), u = (s.runTo m).takeStep.swapFirst ∧ ¬ curDue u) ∧
  (  let tickDue := fun (u : State) => u.atTick = true ∧ u.cfg.tickAt ≠ some u.time.mono
    ∃ (s : State) (u : State) (m : Nat), u = ((s.runTo m).takeStep.swapFirst).millisecond ∧ tickDue u ∧ ((∀ p ∈ u.st.probs, p.unit < 4 ∧ p.pos < 3))) ∧
  (  let tickDue := fun (u : State) => u.atTick = true ∧ u.cfg.tickAt ≠ some u.time.mono
    ∃ (s : State) (u : State) (m : Nat), u = ((s.runTo m).takeStep.swapFirst).millisecond ∧ ¬ tickDue u) ∧
  (  let msDue := fun (u : State) => u.onGrid Config.msUnits = true ∧ u.cfg.msAt ≠ some u.time.mono
    ∃ (s : State) (u : State) (m : Nat), u = (s.runTo m).takeStep.swapFirst ∧ ¬ msDue u) ∧
  (  let msDue := fun (u : State) => u.onGrid Config.msUnits = true ∧ u.cfg.msAt ≠ some u.time.mono
    ∃ (s : State) (u : State) (m : Nat), u = (s.runTo m).takeStep.swapFirst ∧ msDue u) :=
  ⟨⟨(tst []), ((tst [])).runTo 1, 1, rfl, by decide +kernel, by decide +kernel, by decide +kernel, by decide +kernel⟩,
   ⟨(inImg {} (tst [(SYS_MODE_MODE, mRUN)])), (((inImg {} (tst [(SYS_MODE_MODE, mRUN)]))).runTo 0).takeStep.swapFirst, 0, rfl, by decide +kernel⟩,
   ⟨(tst []), (((tst [])).runTo 0).takeStep.swapFirst, 0, rfl, by decide +kernel⟩,
   ⟨(inImg {} (tst [(SYS_MODE_MODE, mRUN)])), ((((inImg {} (tst [(SYS_MODE_MODE, mRUN)]))).runTo 0).takeStep.swapFirst).millisecond, 0, rfl, by decide +kernel, by decide +kernel⟩,
   ⟨(tst []), ((((tst [])).runTo 0).takeStep.swapFirst).millisecond, 0, rfl, by decide +kernel⟩,
   ⟨(tst []), (((tst [])).runTo 1).takeStep.swapFirst, 1, rfl, by decide +kernel⟩,
   ⟨(tst []), (((tst [])).runTo 0).takeStep.swapFirst, 0, rfl, by decide +kernel⟩⟩

/-- The hypotheses of each clause of Obligations.DebugRuns can be met. -/
theorem test_DebugRuns_meets :
  (∃ (k : Nat), k ≠ 0x4447) ∧
  (∃ (s : State), s.flag DBG_STAT_LOCKED = true) ∧
  (  let core := fun (s : State) (c : Fin 8) => s.flag DBG_STAT_LOCKED = false ∧ s.tgtKind = 0 ∧ s.tgtIndex = c.val
    ∃ (s : State) (c : Fin 8), core s c ∧ s.dbgMay 0 = true ∧ s.coreHaltOk = true ∧ (s.sched.cores.get c).halted = false) ∧
  (  let core := fun (s : State) (c : Fin 8) => s.flag DBG_STAT_LOCKED = false ∧ s.tgtKind = 0 ∧ s.tgtIndex = c.val
    ∃ (s : State) (c : Fin 8), core s c ∧ s.dbgMay 0 = true ∧ s.coreHaltOk = true ∧ (s.sched.cores.get c).halted = true) ∧
  (  let cluster := fun (s : State) (c : Fin 12) => s.flag DBG_STAT_LOCKED = false ∧ s.tgtKind = 1 ∧ s.tgtIndex = c.val
    ∃ (s : State) (c : Fin 12), cluster s c ∧ s.dbgMay 1 = true ∧ s.haltAllowed = true ∧ (s.cl c).halted = false) ∧
  (  let cluster := fun (s : State) (c : Fin 12) => s.flag DBG_STAT_LOCKED = false ∧ s.tgtKind = 1 ∧ s.tgtIndex = c.val
    ∃ (s : State) (c : Fin 12), cluster s c ∧ s.dbgMay 1 = true ∧ s.haltAllowed = true ∧ (s.cl c).halted = true) ∧
  (  let wheel := fun (s : State) => s.flag DBG_STAT_LOCKED = false ∧ s.tgtKind = 2
    ∃ (s : State), wheel s ∧ s.dbgMay 1 = true ∧ s.haltAllowed = true ∧ s.flag DBG_STAT_WHEEL = false) ∧
  (  let wheel := fun (s : State) => s.flag DBG_STAT_LOCKED = false ∧ s.tgtKind = 2
    ∃ (s : State), wheel s ∧ s.dbgMay 1 = true ∧ s.haltAllowed = true ∧ s.flag DBG_STAT_WHEEL = true) ∧
  (  let noHalt := fun (s : State) => (s.tgtKind = 0 ∧ (8 ≤ s.tgtIndex ∨ s.dbgMay 0 = false ∨ s.coreHaltOk = false)) ∨
        (s.tgtKind = 1 ∧ (12 ≤ s.tgtIndex ∨ s.dbgMay 1 = false ∨ s.haltAllowed = false)) ∨
        (s.tgtKind = 2 ∧ (s.dbgMay 1 = false ∨ s.haltAllowed = false)) ∨ s.tgtKind = 3
    ∃ (s : State), s.flag DBG_STAT_LOCKED = false ∧ noHalt s) ∧
  (  let core := fun (s : State) (c : Fin 8) => s.flag DBG_STAT_LOCKED = false ∧ s.tgtKind = 0 ∧ s.tgtIndex = c.val
    ∃ (s : State) (c : Fin 8), core s c ∧ s.dbgMay 0 = true ∧ (s.sched.cores.get c).halted = true) ∧
  (  let cluster := fun (s : State) (c : Fin 12) => s.flag DBG_STAT_LOCKED = false ∧ s.tgtKind = 1 ∧ s.tgtIndex = c.val
    ∃ (s : State) (c : Fin 12), cluster s c ∧ s.dbgMay 1 = true ∧ (s.cl c).halted = true) ∧
  (  let core := fun (s : State) (c : Fin 8) => s.flag DBG_STAT_LOCKED = false ∧ s.tgtKind = 0 ∧ s.tgtIndex = c.val
      let cluster := fun (s : State) (c : Fin 12) => s.flag DBG_STAT_LOCKED = false ∧ s.tgtKind = 1 ∧ s.tgtIndex = c.val
    ∃ (s : State), ((∃ c, core s c ∧ s.dbgMay 0 = true ∧ (s.sched.cores.get c).halted = false) ∨ (∃ c, cluster s c ∧ s.dbgMay 1 = true ∧ (s.cl c).halted = false))) ∧
  (  let wheel := fun (s : State) => s.flag DBG_STAT_LOCKED = false ∧ s.tgtKind = 2
    ∃ (s : State), wheel s ∧ s.dbgMay 1 = true ∧ s.flag DBG_STAT_WHEEL = true) ∧
  (  let wheel := fun (s : State) => s.flag DBG_STAT_LOCKED = false ∧ s.tgtKind = 2
    ∃ (s : State), wheel s ∧ s.dbgMay 1 = true ∧ s.flag DBG_STAT_WHEEL = false) ∧
  (  let noResume := fun (s : State) => (s.tgtKind = 0 ∧ (8 ≤ s.tgtIndex ∨ s.dbgMay 0 = false)) ∨
        (s.tgtKind = 1 ∧ (12 ≤ s.tgtIndex ∨ s.dbgMay 1 = false)) ∨ (s.tgtKind = 2 ∧ s.dbgMay 1 = false) ∨ s.tgtKind = 3
    ∃ (s : State), s.flag DBG_STAT_LOCKED = false ∧ noResume s) ∧
  (  let cluster := fun (s : State) (c : Fin 12) => s.flag DBG_STAT_LOCKED = false ∧ s.tgtKind = 1 ∧ s.tgtIndex = c.val
    ∃ (s : State) (c : Fin 12), cluster s c ∧ s.dbgMay 1 = true ∧ (s.cl c).halted = true) ∧
  (  let core := fun (s : State) (c : Fin 8) => s.flag DBG_STAT_LOCKED = false ∧ s.tgtKind = 0 ∧ s.tgtIndex = c.val
    ∃ (s : State) (c : Fin 8), core s c ∧ s.dbgMay 0 = true ∧ (s.sched.cores.get c).halted = true) ∧
  (  let core := fun (s : State) (c : Fin 8) => s.flag DBG_STAT_LOCKED = false ∧ s.tgtKind = 0 ∧ s.tgtIndex = c.val
      let cluster := fun (s : State) (c : Fin 12) => s.flag DBG_STAT_LOCKED = false ∧ s.tgtKind = 1 ∧ s.tgtIndex = c.val
      let noResume := fun (s : State) => (s.tgtKind = 0 ∧ (8 ≤ s.tgtIndex ∨ s.dbgMay 0 = false)) ∨
        (s.tgtKind = 1 ∧ (12 ≤ s.tgtIndex ∨ s.dbgMay 1 = false)) ∨ (s.tgtKind = 2 ∧ s.dbgMay 1 = false) ∨ s.tgtKind = 3
    ∃ (s : State), s.flag DBG_STAT_LOCKED = false ∧ ((∃ c, core s c ∧ (s.sched.cores.get c).halted = false) ∨ (∃ c, cluster s c ∧ (s.cl c).halted = false) ∨ noResume s ∨ s.tgtKind = 2)) ∧
  (  let met := fun (s : State) (n : Fin 56) => s.flag DBG_STAT_LOCKED = false ∧ (s.rdN (DBG_BP n 1)).testBit 0 = true ∧
        (n.val < 32 ∨ s.f (CL_ENG_PC_PC ((n - 32) / 2)) % 4096 = s.rdN (DBG_BP n 0) % 4096)
    ∃ (s : State) (n : Fin 56), ¬ met s n) ∧
  (  let met := fun (s : State) (n : Fin 56) => s.flag DBG_STAT_LOCKED = false ∧ (s.rdN (DBG_BP n 1)).testBit 0 = true ∧
        (n.val < 32 ∨ s.f (CL_ENG_PC_PC ((n - 32) / 2)) % 4096 = s.rdN (DBG_BP n 0) % 4096)
    ∃ (s : State) (n : Fin 56) (c : Fin 8), n.val / 4 = c.val ∧ met s n ∧ s.dbgMay 0 = true ∧ s.coreHaltOk = true) ∧
  (  let met := fun (s : State) (n : Fin 56) => s.flag DBG_STAT_LOCKED = false ∧ (s.rdN (DBG_BP n 1)).testBit 0 = true ∧
        (n.val < 32 ∨ s.f (CL_ENG_PC_PC ((n - 32) / 2)) % 4096 = s.rdN (DBG_BP n 0) % 4096)
    ∃ (s : State) (n : Fin 56), n.val < 32 ∧ met s n ∧ (s.dbgMay 0 = false ∨ s.coreHaltOk = false)) ∧
  (  let met := fun (s : State) (n : Fin 56) => s.flag DBG_STAT_LOCKED = false ∧ (s.rdN (DBG_BP n 1)).testBit 0 = true ∧
        (n.val < 32 ∨ s.f (CL_ENG_PC_PC ((n - 32) / 2)) % 4096 = s.rdN (DBG_BP n 0) % 4096)
    ∃ (s : State) (n : Fin 56) (c : Fin 12), 32 ≤ n.val ∧ (n.val - 32) / 2 = c.val ∧ met s n ∧ (s.rdN (DBG_BP n 1)).testBit 3 = false ∧ s.dbgMay 1 = true ∧ s.haltAllowed = true) ∧
  (  let met := fun (s : State) (n : Fin 56) => s.flag DBG_STAT_LOCKED = false ∧ (s.rdN (DBG_BP n 1)).testBit 0 = true ∧
        (n.val < 32 ∨ s.f (CL_ENG_PC_PC ((n - 32) / 2)) % 4096 = s.rdN (DBG_BP n 0) % 4096)
    ∃ (s : State) (n : Fin 56) (c : Fin 12), 32 ≤ n.val ∧ (n.val - 32) / 2 = c.val ∧ met s n ∧ ((s.rdN (DBG_BP n 1)).testBit 3 = true ∨ s.dbgMay 1 = false ∨ s.haltAllowed = false)) ∧
  (∃ (s : State), s.flag DBG_STAT_TOKEN = true) ∧
  (∃ (s : State), s.flag DBG_STAT_TOKEN = false) :=
  ⟨⟨0, by decide +kernel⟩,
   ⟨(tst [(DBG_STAT_LOCKED, 1)]), by decide +kernel⟩,
   ⟨(tst [(SYS_MODE_MODE, mBARE)]), 0, by decide +kernel⟩,
   ⟨((tst [(SYS_MODE_MODE, mBARE)]).modCore 0 (fun x => { x with halted := true })), 0, by decide +kernel⟩,
   ⟨(tst [(SYS_MODE_MODE, mBARE), (⟨DBG_TGT, 0, 2⟩, 1)]), 0, by decide +kernel⟩,
   ⟨((tst [(SYS_MODE_MODE, mBARE), (⟨DBG_TGT, 0, 2⟩, 1)]).modCl 0 (fun x => { x with halted := true })), 0, by decide +kernel⟩,
   ⟨(tst [(DBG_STAT_WHEEL, 0), (SYS_MODE_MODE, mBARE), (⟨DBG_TGT, 0, 2⟩, 2)]), by decide +kernel⟩,
   ⟨(tst [(DBG_STAT_WHEEL, 1), (SYS_MODE_MODE, mBARE), (⟨DBG_TGT, 0, 2⟩, 2)]), by decide +kernel⟩,
   ⟨(tst [(DBG_STAT_LOCKED, 0)]), by decide +kernel⟩,
   ⟨((tst []).modCore 0 (fun x => { x with halted := true })), 0, by decide +kernel⟩,
   ⟨((tst [(⟨DBG_TGT, 0, 2⟩, 1)]).modCl 0 (fun x => { x with halted := true })), 0, by decide +kernel⟩,
   ⟨(tst []), by decide +kernel⟩,
   ⟨(tst [(DBG_STAT_WHEEL, 1), (⟨DBG_TGT, 0, 2⟩, 2)]), by decide +kernel⟩,
   ⟨(tst [(DBG_STAT_WHEEL, 0), (⟨DBG_TGT, 0, 2⟩, 2)]), by decide +kernel⟩,
   ⟨(tst [(DBG_STAT_LOCKED, 0), (⟨DBG_TGT, 0, 2⟩, 3)]), by decide +kernel⟩,
   ⟨((tst [(⟨DBG_TGT, 0, 2⟩, 1)]).modCl 0 (fun x => { x with halted := true })), 0, by decide +kernel⟩,
   ⟨((tst []).modCore 0 (fun x => { x with halted := true })), 0, by decide +kernel⟩,
   ⟨(tst [(DBG_STAT_LOCKED, 0)]), by decide +kernel⟩,
   ⟨(tst []), 0, by decide +kernel⟩,
   ⟨((tst [(SYS_MODE_MODE, mBARE)]).wrN (DBG_BP 0 1) 1), 0, 0, by decide +kernel⟩,
   ⟨((tst []).wrN (DBG_BP 0 1) 1), 0, by decide +kernel⟩,
   ⟨((tst [(SYS_MODE_MODE, mBARE)]).wrN (DBG_BP 32 1) 1), 32, 0, by decide +kernel⟩,
   ⟨((tst [(SYS_MODE_MODE, mBARE)]).wrN (DBG_BP 32 1) 9), 32, 0, by decide +kernel⟩,
   ⟨(tst [(DBG_STAT_TOKEN, 1), (SYS_MODE_MODE, mRUN), (⟨DBG_TGT, 0, 2⟩, 1)]), by decide +kernel⟩,
   ⟨(tst [(DBG_STAT_TOKEN, 0)]), by decide +kernel⟩⟩

/-- The hypotheses of each clause of Obligations.HostRings can be met. -/
theorem test_HostRings_meets :
  (∃ (s : State), s.mapOpen = false) ∧
  (∃ (s : State), s.mapOpen = true) ∧
  (∃ (s : State), s.mapOpen = true) ∧
  (  let dry := fun (s : State) => (s.queue 6).items = []
    ∃ (s : State), dry s) ∧
  (∃ (s : State) (l : Nat) (c : Completion), (s.queue 6).items = [⟨l, .completion c⟩] ∧ s.flag HQ_CQ_CFG_EN = true ∧ s.cqUsed + s.host.opened.length + 1 < s.cqSize) ∧
  (  let dry := fun (s : State) => (s.queue 6).items = []
    ∃ (s : State), s.mapOpen = true ∧ dry s) ∧
  (  let dry := fun (s : State) => (s.queue 6).items = []
    ∃ (s : State) (v : Word), s.mapOpen = true ∧ dry s ∧ s.flag HQ_HC_CFG_EN = false ∧ 4 ≤ v.toNat % 16 ∧ v.toNat % 16 ≤ 12 ∧ v.toNat.testBit 4 = true) ∧
  (  let dry := fun (s : State) => (s.queue 6).items = []
    ∃ (s : State) (v : Word), s.mapOpen = true ∧ dry s ∧ s.flag HQ_HC_CFG_EN = true ∧ v.toNat.testBit 4 = false) ∧
  (  let dry := fun (s : State) => (s.queue 6).items = []
    ∃ (s : State) (v : Word), s.mapOpen = true ∧ dry s ∧ s.flag HQ_CQ_CFG_EN = true ∧ v.toNat.testBit 4 = false) ∧
  (  let dry := fun (s : State) => (s.queue 6).items = []
    ∃ (s : State) (v : Word), dry s ∧ s.flag HQ_CQ_CFG_EN = false ∧ s.f HQ_CQ_CFG_LOG2 < 4 ∧ ((v.toNat % 16 < 4 ∨ 12 < v.toNat % 16)) ∧ v.toNat.testBit 4 = true) ∧
  (  let fetches := fun (b : State) => b.hostLive = true ∧ b.hcWaits = true ∧ b.canReserve = true
    ∃ (s : State) (b : State), b = s.drainCq ∧ ¬ fetches b) ∧
  (  let fetches := fun (b : State) => b.hostLive = true ∧ b.hcWaits = true ∧ b.canReserve = true
    ∃ (s : State) (b : State) (u : State) (c : HostCmd), b = s.drainCq ∧ fetches b ∧ b.f HQ_HC_CFG_LOG2 ≤ 12 ∧ u = (b.reserve c).1) ∧
  (∃ (s : State), s.hostNext 9 = none) ∧
  (∃ (s : State) (w : Work), s.hostNext 9 = some w) ∧
  (∃ (s : State) (w : Work), s.hostOldest w 9) ∧
  (∃ (s : State), s.hostNext 8 = none) ∧
  (  let tagged := fun (s : State) (tag : Nat) => (s.queue 5).items.findSome? (fun (i : QItem) => match i.body with
        | .work x => if x.tag = tag then some x else none
        | _ => none)
    ∃ (s : State) (w : Work) (x : Work), s.hostNext 8 = some w ∧ tagged (s.unqueue w) w.arg = some x) ∧
  (  let tagged := fun (s : State) (tag : Nat) => (s.queue 5).items.findSome? (fun (i : QItem) => match i.body with
        | .work x => if x.tag = tag then some x else none
        | _ => none)
    ∃ (s : State) (w : Work), s.hostNext 8 = some w ∧ tagged (s.unqueue w) w.arg = none) ∧
  (∃ (s : State) (w : Work), s.hostOldest w 8 ∧ ((∀ i ∈ (s.queue 5).items, ∃ x, i.body = .work x ∧ (x.tag = w.arg → x.id = w.id)))) ∧
  (∃ (s : State) (w : Work) (x : Work) (k : Nat) (l : Nat), s.hostOldest w 8 ∧ (s.queue 5).items = [⟨k, .work w⟩, ⟨l, .work x⟩] ∧ x.tag = w.arg ∧ x.id ≠ w.id ∧ x.src = 5 ∧ ((∃ o, s.host.opened.find? (fun (o : HostOpen) => o.id == x.id) = some o ∧ o.drop = false)) ∧ 4 ≤ s.f HQ_CQ_CFG_LOG2) ∧
  (∃ (s : State), (s.stopped = true ∨ s.nextStart = none)) ∧
  (∃ (s : State) (w : Work) (c : Fin 8) (p : Nat) (q : Nat), s.nextStart = some (w, c, p, q) ∧ w.src ≠ 5) ∧
  (∃ (s : State) (w : Work) (c : Fin 8) (p : Nat) (q : Nat) (h : Handler), s.stopped = false ∧ s.nextStart = some (w, c, p, q) ∧ w.src = 5 ∧ s.st.handlers.find? (fun (x : Handler) => x.index == w.handler) = some h) ∧
  (∃ (s : State) (w : Work) (c : Fin 8) (p : Nat) (q : Nat), s.stopped = false ∧ s.nextStart = some (w, c, p, q) ∧ w.src = 5 ∧ s.st.handlers.find? (fun (x : Handler) => x.index == w.handler) = none) ∧
  (  let puts := fun (s : State) (c : Fin 8) => (s.sched.cores.get c).running.isSome = true ∧ (s.sched.cores.get c).halted = false
    ∃ (s : State) (c : Fin 8), ¬ puts s c) ∧
  (  let puts := fun (s : State) (c : Fin 8) => (s.sched.cores.get c).running.isSome = true ∧ (s.sched.cores.get c).halted = false
    ∃ (s : State) (c : Fin 8), puts s c) ∧
  (  let puts := fun (s : State) (c : Fin 8) => (s.sched.cores.get c).running.isSome = true ∧ (s.sched.cores.get c).halted = false
    ∃ (s : State) (c : Fin 8) (q : Nat), puts s c ∧ q ∉ [0, 1, 6, 8, 12, 14]) ∧
  (  let puts := fun (s : State) (c : Fin 8) => (s.sched.cores.get c).running.isSome = true ∧ (s.sched.cores.get c).halted = false
    ∃ (s : State) (c : Fin 8) (q : Nat) (len : Nat), puts s c ∧ q ∈ [0, 1, 6, 8, 12, 14] ∧ ((len = 0 ∨ 9216 < len))) ∧
  (  let puts := fun (s : State) (c : Fin 8) => (s.sched.cores.get c).running.isSome = true ∧ (s.sched.cores.get c).halted = false
    ∃ (s : State) (u : State) (c : Fin 8) (len : Nat) (port : Nat) (bs : List Byte), puts s c ∧ 1 ≤ len ∧ len ≤ 9216 ∧ port < 2 ∧ s.offer 14 ⟨len, .frame port bs⟩ = some u) ∧
  (  let puts := fun (s : State) (c : Fin 8) => (s.sched.cores.get c).running.isSome = true ∧ (s.sched.cores.get c).halted = false
    ∃ (s : State) (c : Fin 8) (len : Nat) (port : Nat) (bs : List Byte), puts s c ∧ 1 ≤ len ∧ len ≤ 9216 ∧ port < 2 ∧ s.offer 14 ⟨len, .frame port bs⟩ = none) ∧
  (  let puts := fun (s : State) (c : Fin 8) => (s.sched.cores.get c).running.isSome = true ∧ (s.sched.cores.get c).halted = false
    ∃ (s : State) (u : State) (c : Fin 8) (len : Nat) (seg : Nat) (off : Nat) (bs : List Byte), puts s c ∧ 1 ≤ len ∧ len ≤ 9216 ∧ s.ringPut 0 seg off bs.length = admOK ∧ s.offer 0 ⟨len, .staged 0 seg off bs s.time.mono⟩ = some u) :=
  ⟨⟨(tst [(SYS_MODE_MODE, mRESET)]), by decide +kernel⟩,
   ⟨(tst []), by decide +kernel⟩,
   ⟨(tst []), by decide +kernel⟩,
   ⟨(tst []), by decide +kernel⟩,
   ⟨(inQ 6 [⟨64, .completion ⟨0, 0, 0, 0⟩⟩] (tst [(HQ_CQ_CFG_EN, 1), (HQ_CQ_CFG_EN, 1), (HQ_CQ_CFG_LOG2, 4)])), 64, (⟨0, 0, 0, 0⟩ : Completion), by decide +kernel⟩,
   ⟨(tst []), by decide +kernel⟩,
   ⟨(tst [(HQ_HC_CFG_EN, 0)]), 20, by decide +kernel⟩,
   ⟨(tst [(HQ_HC_CFG_EN, 1)]), 0, by decide +kernel⟩,
   ⟨(tst [(HQ_CQ_CFG_EN, 1)]), 0, by decide +kernel⟩,
   ⟨(tst [(HQ_CQ_CFG_EN, 0), (HQ_CQ_CFG_LOG2, 0)]), 16, by decide +kernel⟩,
   ⟨(tst []), ((tst [])).drainCq, rfl, by decide +kernel⟩,
   ⟨(tst [(SYS_MODE_MODE, mBARE), (HQ_HC_CFG_EN, 1), (HQ_CQ_CFG_EN, 1), (HQ_HC_TAIL_INDEX, 1), (HQ_HC_CFG_LOG2, 4), (HQ_CQ_CFG_LOG2, 4)]), ((tst [(SYS_MODE_MODE, mBARE), (HQ_HC_CFG_EN, 1), (HQ_CQ_CFG_EN, 1), (HQ_HC_TAIL_INDEX, 1), (HQ_HC_CFG_LOG2, 4), (HQ_CQ_CFG_LOG2, 4)])).drainCq, ((((tst [(SYS_MODE_MODE, mBARE), (HQ_HC_CFG_EN, 1), (HQ_CQ_CFG_EN, 1), (HQ_HC_TAIL_INDEX, 1), (HQ_HC_CFG_LOG2, 4), (HQ_CQ_CFG_LOG2, 4)])).drainCq).reserve ((⟨9, 0, 0, 0, 0, 0, 0, 0, []⟩ : HostCmd))).1, (⟨9, 0, 0, 0, 0, 0, 0, 0, []⟩ : HostCmd), rfl, by decide +kernel, by decide +kernel, rfl⟩,
   ⟨(tst []), by decide +kernel⟩,
   ⟨(hst (wrk 5 0 9) (tst [])), wrk 5 0 9, by decide +kernel⟩,
   ⟨(hst (wrk 5 0 9 0 0 ([])) (tst [])), wrk 5 0 9 0 0 ([]), hostOldestBy (by decide +kernel)⟩,
   ⟨(tst []), by decide +kernel⟩,
   ⟨(inQ 5 [⟨64, .work (wrk 5 0 8 0 7)⟩, ⟨64, .work (wrk 5 1 9 7)⟩] (tst [])), wrk 5 0 8 0 7, wrk 5 1 9 7, by decide +kernel⟩,
   ⟨(hst (wrk 5 0 8 0 7) (tst [])), wrk 5 0 8 0 7, by decide +kernel⟩,
   ⟨(hst (wrk 5 0 8 0 7 ([])) (tst [])), wrk 5 0 8 0 7 ([]), hostOldestBy (by decide +kernel), oneItem (k := 64) (by decide +kernel)⟩,
   ⟨(inQ 5 [⟨64, .work (wrk 5 0 8 0 7 ([]))⟩, ⟨64, .work (wrk 5 1 9 7)⟩] (modHost (fun x => { x with opened := [⟨0, 8, 0, false⟩, ⟨1, 9, 7, false⟩] }) (hst (wrk 5 0 8 0 7 ([])) (tst [(HQ_CQ_CFG_LOG2, 4)])))), wrk 5 0 8 0 7 ([]), wrk 5 1 9 7, 64, 64, hostOldestBy (by decide +kernel), by decide +kernel, by decide +kernel, by decide +kernel, by decide +kernel, ⟨⟨1, 9, 7, false⟩, by decide +kernel⟩, by decide +kernel⟩,
   ⟨(tst []), by decide +kernel⟩,
   ⟨({ (tst [(⟨SCHED_CTL, 0, 8⟩, 255)]) with sched := { (tst [(⟨SCHED_CTL, 0, 8⟩, 255)]).sched with ready := [wrk 4 0], quantum := 2 } }), wrk 4 0, 0, 0, 1, by decide +kernel⟩,
   ⟨(inImg { handlers := [⟨0, 1, 1⟩] } { (tst [(⟨SCHED_CTL, 0, 8⟩, 255)]) with sched := { (tst [(⟨SCHED_CTL, 0, 8⟩, 255)]).sched with ready := [wrk 5 0], quantum := 2 } }), wrk 5 0, 0, 0, 1, (⟨0, 1, 1⟩ : Handler), by decide +kernel⟩,
   ⟨({ (tst [(⟨SCHED_CTL, 0, 8⟩, 255)]) with sched := { (tst [(⟨SCHED_CTL, 0, 8⟩, 255)]).sched with ready := [wrk 5 0], quantum := 2 } }), wrk 5 0, 0, 0, 1, by decide +kernel⟩,
   ⟨(tst []), 0, by decide +kernel⟩,
   ⟨(core0 (wrk 4 0) (tst [])), 0, by decide +kernel⟩,
   ⟨(core0 (wrk 4 0) (tst [])), 0, 2, by decide +kernel⟩,
   ⟨(core0 (wrk 4 0) (tst [])), 0, 12, 9217, by decide +kernel⟩,
   ⟨(core0 (wrk 4 0) (tst [])), Option.get (((core0 (wrk 4 0) (tst []))).offer 14 ⟨9216, .frame 1 []⟩) (by decide +kernel), 0, 9216, 1, [], by decide +kernel, by decide +kernel, by decide +kernel, by decide +kernel, (Option.some_get _).symm⟩,
   ⟨(core0 (wrk 4 0) ((tst []).modQueue 14 (fun q => { q with reserved := 0, cap := 0 }))), 0, 64, 0, [], by decide +kernel⟩,
   ⟨(core0 (wrk 4 0) (inImg { rings := [{ ring := 0, area := 8, nodes := [], segs := [{ idx := 2, off := 0, len := 8, kind := 1 }] }] } (tst []))), Option.get (((core0 (wrk 4 0) (inImg { rings := [{ ring := 0, area := 8, nodes := [], segs := [{ idx := 2, off := 0, len := 8, kind := 1 }] }] } (tst [])))).offer 0 ⟨64, .staged 0 2 0 [1] (((core0 (wrk 4 0) (inImg { rings := [{ ring := 0, area := 8, nodes := [], segs := [{ idx := 2, off := 0, len := 8, kind := 1 }] }] } (tst []))))).time.mono⟩) (by decide +kernel), 0, 64, 2, 0, [1], by decide +kernel, by decide +kernel, by decide +kernel, by decide +kernel, (Option.some_get _).symm⟩⟩

/-- The hypotheses of each clause of Obligations.HostDevices can be met. -/
theorem test_HostDevices_meets :
  (∃ (s : State) (w : Work), s.hostNext 1 = some w) ∧
  (∃ (s : State) (w : Work), s.hostOldest w 1) ∧
  (∃ (s : State) (u : State) (w : Work) (a : Fin 96), s.hostOldest w 1 ∧ (Segment.ofBytes w.payload).axis = a.val ∧ (s.unqueue w).segCheck a (Segment.ofBytes w.payload) = admOK ∧ (s.unqueue w).offer 12 ⟨64, .segment (Segment.ofBytes w.payload) 1 s.time.mono⟩ = some u) ∧
  (∃ (s : State) (w : Work), s.hostNext 2 = some w) ∧
  (∃ (s : State) (w : Work), s.hostOldest w 2) ∧
  (∃ (s : State) (w : Work), s.hostOldest w 2 ∧ (s.unqueue w).insertCheck (Descriptor.ofBytes w.payload) = admLATE) ∧
  (∃ (s : State) (w : Work), s.hostNext 3 = some w) ∧
  (∃ (s : State) (u : State) (w : Work) (x : WDesc), s.hostOldest w 3 ∧ u = (s.unqueue w).syncW ∧ u.descOf w.arg = some x ∧ u.due x = false) ∧
  (∃ (s : State) (w : Work), s.hostOldest w 3 ∧ s.descOf w.arg = none) ∧
  (∃ (s : State) (w : Work), s.hostNext 4 = some w ∧ s.host.slotJob = none) ∧
  (  let startOff := fun (w : Work) => 16 * (w.arg / 16 % 134217728)
    ∃ (s : State) (w : Work) (k : Fin 10) (bs : List Byte) (off : Nat), s.hostNext 4 = some w ∧ w.src = 5 ∧ s.host.slotJob = none ∧ w.arg % 16 = k.val ∧ off = startOff w ∧ s.slotBusy k = false ∧ s.nv.writing.get k = none ∧ off + bs.length ≤ slotSize k) ∧
  (  let startOff := fun (w : Work) => 16 * (w.arg / 16 % 134217728)
    ∃ (s : State) (w : Work) (k : Fin 10) (bs : List Byte), s.hostNext 4 = some w ∧ w.src = 5 ∧ s.host.slotJob = none ∧ w.arg % 16 = k.val ∧ s.slotBusy k = false ∧ s.nv.writing.get k = some (startOff w) ∧ startOff w + bs.length ≤ slotSize k) ∧
  (∃ (s : State) (w : Work) (k : Fin 10), s.hostOldest w 4 ∧ s.host.slotJob = none ∧ w.arg % 16 = k.val ∧ s.slotBusy k = true) ∧
  (  let startOff := fun (w : Work) => 16 * (w.arg / 16 % 134217728)
    ∃ (s : State) (w : Work) (k : Fin 10) (bs : List Byte), s.hostOldest w 4 ∧ s.host.slotJob = none ∧ w.arg % 16 = k.val ∧ s.slotBusy k = false ∧ ((∃ o, s.nv.writing.get k = some o ∧ o ≠ startOff w) ∨ slotSize k < startOff w + bs.length)) ∧
  (∃ (s : State) (w : Work), s.hostOldest w 4 ∧ s.host.slotJob = none ∧ 10 ≤ w.arg % 16) ∧
  (∃ (s : State) (j : SlotJob), s.host.slotJob = some j) ∧
  (  let isOpen := fun (s : State) (w : Work) => s.flag HQ_CQ_CFG_EN = true ∧
        ∃ o, s.host.opened.find? (fun (x : HostOpen) => x.id == w.id) = some o ∧ o.drop = false
    ∃ (s : State) (w : Work) (k : Fin 10) (off : Nat) (bs : List Byte), s.host.slotJob = some ⟨w, k, off, false, bs⟩ ∧ isOpen s w) ∧
  (  let isOpen := fun (s : State) (w : Work) => s.flag HQ_CQ_CFG_EN = true ∧
        ∃ o, s.host.opened.find? (fun (x : HostOpen) => x.id == w.id) = some o ∧ o.drop = false
    ∃ (s : State) (u : State) (w : Work) (k : Fin 10) (off : Nat) (bs : List Byte), s.host.slotJob = some ⟨w, k, off, true, bs⟩ ∧ isOpen s w ∧ u = s.progFlash (slotBase k + off) bs ∧ u.img k 0 4 ≠ slotMagic k) ∧
  (∃ (s : State) (u : State) (w : Work) (k : Fin 10) (off : Nat) (bs : List Byte), s.host.slotJob = some ⟨w, k, off, true, bs⟩ ∧ u = s.progFlash (slotBase k + off) bs ∧ u.img k 0 4 = slotMagic k) ∧
  (∃ (s : State) (w : Work) (k : Fin 10) (off : Nat) (bs : List Byte) (l : Bool), s.host.slotJob = some ⟨w, k, off, l, bs⟩) ∧
  (∃ (s : State) (w : Work) (k : Fin 10), s.hostNext 5 = some w ∧ w.arg % 16 = k.val ∧ s.slotBusy k = false ∧ ((∀ o, s.nv.writing.get k = some o → o ≤ slotSize k))) ∧
  (∃ (s : State) (w : Work) (k : Fin 10), s.hostNext 5 = some w ∧ w.arg % 16 = k.val ∧ s.slotBusy k = true) ∧
  (∃ (s : State) (w : Work) (k : Fin 10), s.hostOldest w 5 ∧ w.arg % 16 = k.val ∧ s.slotBusy k = false ∧ ((∀ o, s.nv.writing.get k = some o → o ≤ slotSize k))) ∧
  (∃ (s : State) (w : Work) (k : Fin 10), s.hostOldest w 5 ∧ w.arg % 16 = k.val ∧ s.slotBusy k = true) ∧
  (∃ (s : State) (w : Work) (k : Fin 10) (o : Nat), s.hostOldest w 5 ∧ w.arg % 16 = k.val ∧ s.slotBusy k = false ∧ s.nv.writing.get k = some o ∧ slotSize k < o) ∧
  (∃ (s : State) (w : Work), s.hostOldest w 5 ∧ 10 ≤ w.arg % 16) ∧
  (∃ (s : State) (off : Nat) (bs : List Byte), (s.sys.recovery = false ∨ 0x800000 < off + bs.length)) ∧
  (∃ (s : State) (off : Nat) (bs : List Byte), s.sys.recovery = true ∧ off + bs.length ≤ 0x800000) ∧
  (∃ (s : State) (k : Nat) (off : Nat) (bs : List Byte), s.sys.recovery = true ∧ off / 65536 = k ∧ off + bs.length ≤ 65536 * (k + 1) ∧ bs ≠ [] ∧ k < 128) :=
  ⟨⟨(hst (wrk 5 0 1) (tst [])), wrk 5 0 1, by decide +kernel⟩,
   ⟨(hst (wrk 5 0 1 0 0 ([])) (tst [])), wrk 5 0 1 0 0 ([]), hostOldestBy (by decide +kernel)⟩,
   ⟨(inImg { axes := [0], axisGroup := [4] } (hst (wrk 5 0 1 0 0 (natLE 1 0 ++ natLE 1 kSTOP)) (tst [(SYS_MODE_MODE, mRUN)]))), Option.get ((((inImg { axes := [0], axisGroup := [4] } (hst (wrk 5 0 1 0 0 (natLE 1 0 ++ natLE 1 kSTOP)) (tst [(SYS_MODE_MODE, mRUN)])))).unqueue (wrk 5 0 1 0 0 (natLE 1 0 ++ natLE 1 kSTOP))).offer 12 ⟨64, .segment (Segment.ofBytes (wrk 5 0 1 0 0 (natLE 1 0 ++ natLE 1 kSTOP)).payload) 1 ((inImg { axes := [0], axisGroup := [4] } (hst (wrk 5 0 1 0 0 (natLE 1 0 ++ natLE 1 kSTOP)) (tst [(SYS_MODE_MODE, mRUN)])))).time.mono⟩) (by decide +kernel), wrk 5 0 1 0 0 (natLE 1 0 ++ natLE 1 kSTOP), 0, hostOldestBy (by decide +kernel), by decide +kernel, by decide +kernel, (Option.some_get _).symm⟩,
   ⟨(hst (wrk 5 0 2) (tst [])), wrk 5 0 2, by decide +kernel⟩,
   ⟨(hst (wrk 5 0 2 0 0 ([])) (tst [])), wrk 5 0 2 0 0 ([]), hostOldestBy (by decide +kernel)⟩,
   ⟨(inImg {} (hst (wrk 5 0 2 0 0 (natLE 4 0 ++ natLE 4 0 ++ natLE 4 1 ++ natLE 2 0 ++ natLE 2 2 ++ natLE 1 1)) (tst [(SYS_MODE_MODE, mRUN), (WHEEL_SLOT_SHIFT, 16)]))), wrk 5 0 2 0 0 (natLE 4 0 ++ natLE 4 0 ++ natLE 4 1 ++ natLE 2 0 ++ natLE 2 2 ++ natLE 1 1), hostOldestBy (by decide +kernel), by decide +kernel⟩,
   ⟨(hst (wrk 5 0 3) (tst [])), wrk 5 0 3, by decide +kernel⟩,
   ⟨({ hst (wrk 5 0 3 0 1 ([])) ((tst []).setF WHEEL_SLOT_SHIFT 16) with wheel := { descs := [⟨1, 0, { dsc 1 0 with angle := 100 }, true⟩] } }), ((({ hst (wrk 5 0 3 0 1 ([])) ((tst []).setF WHEEL_SLOT_SHIFT 16) with wheel := { descs := [⟨1, 0, { dsc 1 0 with angle := 100 }, true⟩] } })).unqueue (wrk 5 0 3 0 1 ([]))).syncW, wrk 5 0 3 0 1 ([]), (⟨1, 0, { dsc 1 0 with angle := 100 }, true⟩ : WDesc), hostOldestBy (by decide +kernel), rfl, by decide +kernel, by decide +kernel⟩,
   ⟨(hst (wrk 5 0 3 0 1 ([])) (tst [])), wrk 5 0 3 0 1 ([]), hostOldestBy (by decide +kernel), by decide +kernel⟩,
   ⟨(hst (wrk 5 0 4) (tst [])), wrk 5 0 4, by decide +kernel⟩,
   ⟨(inQ 5 [⟨64, .work (wrk 5 0 4 0 0 ([]))⟩] (tst [])), wrk 5 0 4 0 0 ([]), 0, [], 0, by decide +kernel⟩,
   ⟨(modNv (fun x => { x with writing := x.writing.set 0 (some (16 * (2 ^ 31 / 16 % 134217728))) }) (hst (wrk 5 0 4 0 (2 ^ 31)) (tst []))), wrk 5 0 4 0 (2 ^ 31), 0, [], by decide +kernel⟩,
   ⟨(hst (wrk 5 0 4 0 8 ([])) (tst [])), wrk 5 0 4 0 8 ([]), 8, hostOldestBy (by decide +kernel), by decide +kernel, by decide +kernel, by decide +kernel⟩,
   ⟨(modNv (fun x => { x with writing := x.writing.set 0 (some 16) }) (hst (wrk 5 0 4 0 0 ([])) (tst []))), wrk 5 0 4 0 0 ([]), 0, [], hostOldestBy (by decide +kernel), by decide +kernel, by decide +kernel, by decide +kernel, Or.inl ⟨16, by decide +kernel⟩⟩,
   ⟨(hst (wrk 5 0 4 0 10 ([])) (tst [])), wrk 5 0 4 0 10 ([]), hostOldestBy (by decide +kernel), by decide +kernel, by decide +kernel⟩,
   ⟨(writing ⟨wrk 5 0 4, 0, 0, false, []⟩ (tst [])), (⟨wrk 5 0 4, 0, 0, false, []⟩ : SlotJob), by decide +kernel⟩,
   ⟨(writing ⟨wrk 5 0 4 0 0 ([]), 0, 0, false, []⟩ (hst (wrk 5 0 4 0 0 ([])) (tst []))), wrk 5 0 4 0 0 ([]), 0, 0, [], by decide +kernel, ⟨by decide +kernel, ⟨0, 4, 0, false⟩, by decide +kernel⟩⟩,
   ⟨(writing ⟨wrk 5 0 4 0 0 ([]), 0, 0, true, []⟩ (hst (wrk 5 0 4 0 0 ([])) (tst []))), ((writing ⟨wrk 5 0 4 0 0 ([]), 0, 0, true, []⟩ (hst (wrk 5 0 4 0 0 ([])) (tst [])))).progFlash (slotBase 0 + 0) ([]), wrk 5 0 4 0 0 ([]), 0, 0, [], by decide +kernel, ⟨by decide +kernel, ⟨0, 4, 0, false⟩, by decide +kernel⟩, rfl, by decide +kernel⟩,
   ⟨(writing ⟨wrk 5 0 4 0 0 ([]), 0, 0, true, natLE 4 0x4C4F414B⟩ (tst [])), ((writing ⟨wrk 5 0 4 0 0 ([]), 0, 0, true, natLE 4 0x4C4F414B⟩ (tst []))).progFlash (slotBase 0 + 0) (natLE 4 0x4C4F414B), wrk 5 0 4 0 0 ([]), 0, 0, natLE 4 0x4C4F414B, by decide +kernel, rfl, by decide +kernel⟩,
   ⟨(writing ⟨wrk 5 0 4 0 0 ([]), 0, 0, false, []⟩ (tst [])), wrk 5 0 4 0 0 ([]), 0, 0, [], false, by decide +kernel⟩,
   ⟨(hst (wrk 5 0 5) (tst [])), wrk 5 0 5, 0, by decide +kernel, by decide +kernel, by decide +kernel, noOffset (by decide +kernel)⟩,
   ⟨(hst (wrk 5 0 5 0 8) (tst [])), wrk 5 0 5 0 8, 8, by decide +kernel⟩,
   ⟨(hst (wrk 5 0 5 0 0 ([])) (tst [])), wrk 5 0 5 0 0 ([]), 0, hostOldestBy (by decide +kernel), by decide +kernel, by decide +kernel, noOffset (by decide +kernel)⟩,
   ⟨(hst (wrk 5 0 5 0 8 ([])) (tst [])), wrk 5 0 5 0 8 ([]), 8, hostOldestBy (by decide +kernel), by decide +kernel, by decide +kernel⟩,
   ⟨(modNv (fun x => { x with writing := x.writing.set 0 (some 6291457) }) (hst (wrk 5 0 5 0 0 ([])) (tst []))), wrk 5 0 5 0 0 ([]), 0, 6291457, hostOldestBy (by decide +kernel), by decide +kernel, by decide +kernel, by decide +kernel, by decide +kernel⟩,
   ⟨(hst (wrk 5 0 5 0 10 ([])) (tst [])), wrk 5 0 5 0 10 ([]), hostOldestBy (by decide +kernel), by decide +kernel⟩,
   ⟨(tst []), 0, [], by decide +kernel⟩,
   ⟨(modSys (fun x => { x with recovery := true }) (tst [])), 0, [0], by decide +kernel⟩,
   ⟨(modSys (fun x => { x with recovery := true }) (tst [])), 0, 0, [0], by decide +kernel⟩⟩

/-- The hypotheses of each clause of Obligations.SecurityEngine can be met. -/
theorem test_SecurityEngine_meets :
  (  let names := fun (op : Nat) (bs : List Byte) => bytesNat bs 4 1 = op ∨ bytesNat bs 4 1 = 0 ∨ 5 < bytesNat bs 4 1
    ∃ (s : State) (w : Work) (bs : List Byte), s.hostNext 6 = some w ∧ w.src = 5 ∧ names 1 bs) ∧
  (  let names := fun (op : Nat) (bs : List Byte) => bytesNat bs 4 1 = op ∨ bytesNat bs 4 1 = 0 ∨ 5 < bytesNat bs 4 1
    ∃ (s : State) (w : Work) (bs : List Byte), s.hostNext 6 = some w ∧ w.src = 5 ∧ names 3 bs) ∧
  (  let names := fun (op : Nat) (bs : List Byte) => bytesNat bs 4 1 = op ∨ bytesNat bs 4 1 = 0 ∨ 5 < bytesNat bs 4 1
    ∃ (s : State) (bs : List Byte), (s.hostNext 6 = none ∨ ¬ names 3 bs)) ∧
  (  let names := fun (op : Nat) (bs : List Byte) => bytesNat bs 4 1 = op ∨ bytesNat bs 4 1 = 0 ∨ 5 < bytesNat bs 4 1
    ∃ (s : State) (w : Work) (bs : List Byte), s.hostNext 6 = some w ∧ names 3 bs) ∧
  (∃ (s : State), s.hostNext 7 = none) ∧
  (∃ (s : State) (w : Work), s.hostNext 7 = some w) ∧
  (∃ (s : State) (w : Work), s.hostNext 7 = some w ∧ w.src = 5 ∧ w.arg.testBit 0 = false) ∧
  (∃ (s : State) (w : Work), s.hostNext 7 = some w ∧ w.src = 5 ∧ w.arg.testBit 0 = true) ∧
  (∃ (s : State), s.hostNext 10 = none) ∧
  (∃ (s : State) (w : Work), s.hostNext 10 = some w) ∧
  (∃ (s : State) (w : Work), s.hostNext 10 = some w ∧ w.src = 5) ∧
  (∃ (s : State), s.host.secJobs = []) ∧
  (∃ (s : State) (v : State) (j : SecJob) (js : List SecJob), s.host.secJobs = j :: js ∧ v = ({ s with host := { s.host with secJobs := js } } : State).setB CFG_SEC_STAT_BUSY (!js.isEmpty)) ∧
  (∃ (s : State) (w : Work) (j : SecJob) (o : HostOpen), s.host.secJobs = [j] ∧ j.kind = 0 ∧ s.judgeCommand j ≠ 0 ∧ j.w = some w ∧ s.host.opened.find? (fun (x : HostOpen) => x.id == w.id) = some o ∧ o.drop = false ∧ s.flag HQ_CQ_CFG_EN = true) ∧
  (∃ (s : State) (j : SecJob), ((bytesNat j.bytes 0 4 ≠ 0x444D4353 ∨ bytesNat j.bytes 8 6 ≠ s.nv.serial % 2 ^ 48 ∨ bytesNat j.bytes 0x10 8 ≠ s.nonceNow))) ∧
  (∃ (s : State) (j : SecJob), s.judgeCommand j = 0 ∧ bytesNat j.bytes 4 1 ≠ 1) ∧
  (∃ (s : State) (j : SecJob) (k : Nat), s.host.secJobs = [j] ∧ j.kind = 0 ∧ s.judgeCommand j = 0 ∧ bytesNat j.bytes 4 1 = 3 ∧ k < 8) ∧
  (∃ (s : State) (j : SecJob), s.host.secJobs = [j] ∧ j.kind = 0 ∧ s.judgeCommand j = 0 ∧ bytesNat j.bytes 4 1 = 4 ∧ s.f CFG_SEC_STAT_SVN_ROWS < 256) ∧
  (∃ (s : State) (j : SecJob), s.host.secJobs = [j] ∧ j.kind = 0 ∧ s.judgeCommand j = 0 ∧ bytesNat j.bytes 4 1 = 5) ∧
  (∃ (s : State) (w : Work) (bs : List Byte) (o : HostOpen), s.host.secJobs = [⟨1, some w, bs, true, true⟩] ∧ s.flag CFG_SEC_STAT_ID_KEYS = true ∧ s.host.opened.find? (fun (x : HostOpen) => x.id == w.id) = some o ∧ o.drop = false ∧ s.flag HQ_CQ_CFG_EN = true ∧ ((w.addr + bs.length ≤ s.cqAddr ∨ s.cqAddr + 16 ≤ w.addr))) ∧
  (∃ (s : State) (w : Work) (bs : List Byte) (o : HostOpen), s.host.secJobs = [⟨1, some w, bs, true, true⟩] ∧ s.flag CFG_SEC_STAT_ID_KEYS = false ∧ s.host.opened.find? (fun (x : HostOpen) => x.id == w.id) = some o ∧ o.drop = false ∧ s.flag HQ_CQ_CFG_EN = true) ∧
  (∃ (s : State) (j : SecJob), s.host.secJobs = [j] ∧ j.kind = 2 ∧ j.w = none ∧ s.judgeToken j ≠ 0) ∧
  (∃ (s : State) (j : SecJob), s.host.secJobs = [j] ∧ j.kind = 2 ∧ j.w = none ∧ s.judgeToken j = 0 ∧ s.f SYS_LC_STATE = lcDEPLOYED) ∧
  (∃ (s : State) (j : SecJob), s.host.secJobs = [j] ∧ j.kind = 2 ∧ j.w = none ∧ s.judgeToken j = 0 ∧ s.f SYS_LC_STATE ≠ lcDEPLOYED) ∧
  (∃ (s : State), s.f SYS_LC_STATE = lcSCRAPPED) ∧
  (∃ (s : State) (u : State) (m : Nat), u = s.runTo m ∧ ((∀ e, u.host.tokenEnd = some e → u.time.mono < e ∨ u.flag DBG_STAT_TOKEN = false))) ∧
  (∃ (s : State) (u : State) (m : Nat) (e : Nat), u = s.runTo m ∧ u.host.tokenEnd = some e ∧ e ≤ u.time.mono ∧ u.flag DBG_STAT_TOKEN = true) :=
  ⟨⟨(inQ 5 [⟨64, .work (wrk 5 0 6 0 0 ([]))⟩] (tst [])), wrk 5 0 6 0 0 ([]), natLE 4 0 ++ natLE 1 1, by decide +kernel⟩,
   ⟨(inQ 5 [⟨64, .work (wrk 5 0 6 0 0 ([]))⟩] (tst [])), wrk 5 0 6 0 0 ([]), natLE 4 0 ++ natLE 1 3, by decide +kernel⟩,
   ⟨(tst []), [], by decide +kernel⟩,
   ⟨(inQ 5 [⟨64, .work (wrk 5 0 6)⟩] (tst [])), wrk 5 0 6, natLE 4 0 ++ natLE 1 3, by decide +kernel⟩,
   ⟨(tst []), by decide +kernel⟩,
   ⟨(inQ 5 [⟨64, .work (wrk 5 0 7)⟩] (tst [])), wrk 5 0 7, by decide +kernel⟩,
   ⟨(inQ 5 [⟨64, .work (wrk 5 0 7 0 0 ([]))⟩] (tst [])), wrk 5 0 7 0 0 ([]), by decide +kernel⟩,
   ⟨(inQ 5 [⟨64, .work (wrk 5 0 7 0 1 ([]))⟩] (tst [])), wrk 5 0 7 0 1 ([]), by decide +kernel⟩,
   ⟨(tst []), by decide +kernel⟩,
   ⟨(inQ 5 [⟨64, .work (wrk 5 0 10)⟩] (tst [])), wrk 5 0 10, by decide +kernel⟩,
   ⟨(inQ 5 [⟨64, .work (wrk 5 0 10 0 0 ([]))⟩] (tst [])), wrk 5 0 10 0 0 ([]), by decide +kernel⟩,
   ⟨(tst []), by decide +kernel⟩,
   ⟨(secJob ⟨2, none, [], false, false⟩ (tst [])), ({ (((secJob ⟨2, none, [], false, false⟩ (tst [])))) with host := { (((secJob ⟨2, none, [], false, false⟩ (tst [])))).host with secJobs := [] } } : State).setB CFG_SEC_STAT_BUSY false, (⟨2, none, [], false, false⟩ : SecJob), [], by decide +kernel, rfl⟩,
   ⟨(secJob ⟨0, some (wrk 5 0 6 0 0 ([])), [], false, false⟩ (hst (wrk 5 0 6 0 0 ([])) (tst [(HQ_CQ_CFG_EN, 1)]))), wrk 5 0 6 0 0 ([]), (⟨0, some (wrk 5 0 6 0 0 ([])), [], false, false⟩ : SecJob), (⟨0, 6, 0, false⟩ : HostOpen), by decide +kernel⟩,
   ⟨(tst []), (⟨0, none, [], false, false⟩ : SecJob), by decide +kernel⟩,
   ⟨(keyed 0 State.reset), (⟨0, none, order State.reset 3 0, true, true⟩ : SecJob), judgeOk (by decide +kernel) rfl (by decide +kernel), by decide +kernel⟩,
   ⟨(secJob ⟨0, none, order State.reset 3 0, true, true⟩ (keyed 0 State.reset)), (⟨0, none, order State.reset 3 0, true, true⟩ : SecJob), 0, rfl, rfl, judgeOk (by decide +kernel) rfl (by decide +kernel), by decide +kernel, by decide +kernel⟩,
   ⟨(secJob ⟨0, none, order State.reset 4 1, true, true⟩ (modSys (fun x => { x with bootSvn := 1 }) (keyed 0 State.reset))), (⟨0, none, order State.reset 4 1, true, true⟩ : SecJob), rfl, rfl, judgeOk (by decide +kernel) rfl (by decide +kernel), by decide +kernel, by decide +kernel⟩,
   ⟨(secJob ⟨0, none, order State.reset 5 1, true, true⟩ (keyed 0 (tst [(SYS_MODE_MODE, mBARE)]))), (⟨0, none, order State.reset 5 1, true, true⟩ : SecJob), rfl, rfl, judgeOk (by decide +kernel) rfl (by decide +kernel), by decide +kernel⟩,
   ⟨(secJob ⟨1, some { wrk 5 0 7 0 0 ([]) with addr := 16 }, [0], true, true⟩ (hst (wrk 5 0 7 0 0 ([])) (tst [(CFG_SEC_STAT_ID_KEYS, 1), (HQ_CQ_CFG_EN, 1)]))), { wrk 5 0 7 0 0 ([]) with addr := 16 }, [0], (⟨0, 7, 0, false⟩ : HostOpen), by decide +kernel⟩,
   ⟨(secJob ⟨1, some (wrk 5 0 7 0 0 ([])), [], true, true⟩ (hst (wrk 5 0 7 0 0 ([])) (tst [(CFG_SEC_STAT_ID_KEYS, 0), (HQ_CQ_CFG_EN, 1)]))), wrk 5 0 7 0 0 ([]), [], (⟨0, 7, 0, false⟩ : HostOpen), by decide +kernel⟩,
   ⟨(secJob ⟨2, none, [], false, false⟩ (tst [])), (⟨2, none, [], false, false⟩ : SecJob), by decide +kernel⟩,
   ⟨(secJob ⟨2, none, token State.reset, true, true⟩ (keyed 1 (tst [(SYS_LC_STATE, lcDEPLOYED)]))), (⟨2, none, token State.reset, true, true⟩ : SecJob), rfl, rfl, rfl, tokenOk (by decide +kernel) rfl (by decide +kernel), by decide +kernel⟩,
   ⟨(secJob ⟨2, none, token State.reset, true, true⟩ (keyed 1 (tst [(SYS_LC_STATE, 1)]))), (⟨2, none, token State.reset, true, true⟩ : SecJob), rfl, rfl, rfl, tokenOk (by decide +kernel) rfl (by decide +kernel), by decide +kernel⟩,
   ⟨(tst [(SYS_LC_STATE, lcSCRAPPED)]), by decide +kernel⟩,
   ⟨(modHost (fun x => { x with tokenEnd := some 1 }) (tst [])), ((modHost (fun x => { x with tokenEnd := some 1 }) (tst []))).runTo 0, 0, rfl, by decide +kernel⟩,
   ⟨(modHost (fun x => { x with tokenEnd := some 0 }) (tst [(DBG_STAT_TOKEN, 1), (DBG_STAT_TOKEN, 1)])), ((modHost (fun x => { x with tokenEnd := some 0 }) (tst [(DBG_STAT_TOKEN, 1), (DBG_STAT_TOKEN, 1)]))).runTo 0, 0, 0, rfl, by decide +kernel, by decide +kernel, by decide +kernel⟩⟩

/-- The hypotheses of each clause of Obligations.RegisterMap can be met. -/
theorem test_RegisterMap_meets :
  (  let word := fun (a : Nat) => a % 4 = 0 ∧ a < 0x400000
    ∃ (s : State) (a : Nat), ((¬ word a ∨ State.instanceUsed s.st a = false ∨ s.mode = mRESET ∨ (s.sys.recovery = true ∧ a ≠ SYS_CTL) ∨ (s.sys.recovery = false ∧ s.f SYS_LC_STATE = lcSCRAPPED ∧ s.mode ≤ mVERIFY)))) ∧
  (  let word := fun (a : Nat) => a % 4 = 0 ∧ a < 0x400000
    ∃ (s : State) (a : Nat), word a ∧ s.writable a = true) ∧
  (  let word := fun (a : Nat) => a % 4 = 0 ∧ a < 0x400000
    ∃ (a : Nat), ¬ word a) ∧
  (  let word := fun (a : Nat) => a % 4 = 0 ∧ a < 0x400000
    ∃ (s : State) (a : Nat), word a ∧ s.readable a = true) ∧
  (  let own := fun (s : State) (a : Nat) (v : Word) (e : WriteEnv) =>
        [s.writeSys a v e, s.writeQueues a v, s.writeWheel a v, s.writeCluster a v e, s.writeSafety a v, s.writeFlt a v e, s.writeAcq a v,
          s.writeFio a v, s.writeCfg a v, s.writeDbg a v e].all Option.isNone
      let word := fun (a : Nat) => a % 4 = 0 ∧ a < 0x400000
      let used := fun (s : State) (a : Nat) => State.instanceUsed s.st a = true
    ∃ (s : State) (a : Nat) (v : Word) (e : WriteEnv) (r : RegRow), word a ∧ s.writable a = true ∧ used s a ∧ own s a v e = true ∧ multiWord a = none ∧ accessRow a = some r ∧ ((∀ b < 32, ¬ (r.rw.testBit b = true ∧ (r.w1c.testBit b = true ∨ r.w1s.testBit b = true)))) ∧ a ≠ DBG_CTL) ∧
  (  let own := fun (s : State) (a : Nat) (v : Word) (e : WriteEnv) =>
        [s.writeSys a v e, s.writeQueues a v, s.writeWheel a v, s.writeCluster a v e, s.writeSafety a v, s.writeFlt a v e, s.writeAcq a v,
          s.writeFio a v, s.writeCfg a v, s.writeDbg a v e].all Option.isNone
      let word := fun (a : Nat) => a % 4 = 0 ∧ a < 0x400000
      let used := fun (s : State) (a : Nat) => State.instanceUsed s.st a = true
    ∃ (s : State) (a : Nat) (w : Nat) (n : Nat) (base : Nat) (v : Word) (e : WriteEnv) (r : RegRow), word a ∧ s.writable a = true ∧ used s a ∧ own s a v e = true ∧ multiWord a = some (base, w, n) ∧ w + 1 < n ∧ accessRow base = some r ∧ r.rw ≠ 0 ∧ a ≠ DBG_CTL) ∧
  (∃ (s : State), s.writable (HQ_HC_BASE 1) = true) ∧
  (  let used := fun (s : State) (a : Nat) => State.instanceUsed s.st a = true
    ∃ (s : State) (d : Fin 8), s.writable (DOOR_CMD d) = true ∧ used s (DOOR_CMD d)) ∧
  (∃ (s : State), s.writable FLT_ACK = true) ∧
  (∃ (s : State) (v : Word), s.writable SYS_MODE_REQ = true ∧ v.toNat % 16 = mRUN) ∧
  (∃ (s : State), s.writable SCHED_CTL = true) ∧
  (  let word := fun (a : Nat) => a % 4 = 0 ∧ a < 0x400000
      let used := fun (s : State) (a : Nat) => State.instanceUsed s.st a = true
      let plain := fun (s : State) (a : Nat) => word a ∧ s.readable a = true ∧ used s a ∧ s.captureRead a = none
    ∃ (s : State) (a : Nat) (r : RegRow), plain s a ∧ multiWord a = none ∧ accessRow a = some r ∧ a ≠ FIO_VF) ∧
  (  let word := fun (a : Nat) => a % 4 = 0 ∧ a < 0x400000
      let used := fun (s : State) (a : Nat) => State.instanceUsed s.st a = true
      let plain := fun (s : State) (a : Nat) => word a ∧ s.readable a = true ∧ used s a ∧ s.captureRead a = none
    ∃ (s : State) (a : Nat) (n : Nat), plain s a ∧ multiWord a = some (a, 0, n) ∧ ((∀ r, accessRow a = some r → r.rc = 0))) ∧
  (  let word := fun (a : Nat) => a % 4 = 0 ∧ a < 0x400000
      let used := fun (s : State) (a : Nat) => State.instanceUsed s.st a = true
      let plain := fun (s : State) (a : Nat) => word a ∧ s.readable a = true ∧ used s a ∧ s.captureRead a = none
    ∃ (s : State) (a : Nat) (base : Nat) (w : Nat) (n : Nat) (x : Word), plain s a ∧ multiWord a = some (base, w + 1, n) ∧ (s.readWords.find? (fun (y : Nat × Word) => y.1 == a)).map Prod.snd = some x ∧ ((∀ r, accessRow a = some r → r.rc = 0))) ∧
  (  let word := fun (a : Nat) => a % 4 = 0 ∧ a < 0x400000
    ∃ (s : State) (a : Nat), word a ∧ s.sys.recovery = true ∧ a ∉ [SYS_ID, SYS_MODE, SYS_START_STAT]) ∧
  (  let word := fun (a : Nat) => a % 4 = 0 ∧ a < 0x400000
    ∃ (s : State) (a : Nat), word a ∧ s.sys.recovery = false ∧ s.f SYS_LC_STATE = lcSCRAPPED ∧ s.mode ≤ mVERIFY ∧ a ∉ [SYS_ID, SYS_LC]) :=
  ⟨⟨(tst []), 1, by decide +kernel⟩,
   ⟨(tst [(SYS_MODE_MODE, mBARE)]), 8, by decide +kernel⟩,
   ⟨1, by dsimp only; decide +kernel⟩,
   ⟨(tst []), 0, by decide +kernel⟩,
   ⟨(inImg { axes := [0] } (tst [(SYS_MODE_MODE, mBARE)])), TILE_FLW_CFG 0, 0, { instr := .mac2 ⟨none, 0, 0⟩ ⟨none, 0, 0⟩ }, (accessRow (TILE_FLW_CFG 0)).get (by decide +kernel), by decide +kernel, by decide +kernel, by decide +kernel, by decide +kernel, by decide +kernel, (Option.some_get _).symm, by decide +kernel, by decide +kernel⟩,
   ⟨(tst [(SYS_MODE_MODE, mBARE)]), DBG_MADDR 0, 0, 2, DBG_MADDR 0, 0, { instr := .mac2 ⟨none, 0, 0⟩ ⟨none, 0, 0⟩ }, (accessRow (DBG_MADDR 0)).get (by decide +kernel), by decide +kernel, by decide +kernel, by decide +kernel, by decide +kernel, by decide +kernel, by decide +kernel, (Option.some_get _).symm, by decide +kernel, by decide +kernel⟩,
   ⟨(tst []), by decide +kernel⟩,
   ⟨(inImg { doors := [⟨0, (0, 0, 0, 0), (0, 0, 0, 0), 0, 0, 0, 0⟩] } (tst [(SYS_MODE_MODE, mBARE)])), 0, by decide +kernel⟩,
   ⟨(tst []), by decide +kernel⟩,
   ⟨(tst [(SYS_MODE_MODE, mBARE)]), BitVec.ofNat 32 mRUN, by decide +kernel⟩,
   ⟨(tst []), by decide +kernel⟩,
   ⟨(inImg { regs := [(PP_CFG 0, 2)] } (tst [])), PP_CFG 0, (accessRow (PP_CFG 0)).get (by decide +kernel), by decide +kernel, by decide +kernel, (Option.some_get _).symm, by decide +kernel⟩,
   ⟨(tst []), DBG_MADDR 0, 2, by decide +kernel, by decide +kernel, rcNone (by decide +kernel)⟩,
   ⟨({ (tst []) with readWords := [(DBG_MADDR 1, 5)] }), DBG_MADDR 1, DBG_MADDR 0, 0, 2, 5, by decide +kernel, by decide +kernel, by decide +kernel, rcNone (by decide +kernel)⟩,
   ⟨(modSys (fun x => { x with recovery := true }) (tst [])), 0x8, by dsimp only; decide +kernel, by decide +kernel, by decide +kernel⟩,
   ⟨(tst [(SYS_LC_STATE, lcSCRAPPED), (SYS_LC_STATE, lcSCRAPPED)]), 0x8, by dsimp only; decide +kernel, by decide +kernel, by decide +kernel, by decide +kernel, by decide +kernel⟩⟩

/-- The hypotheses of each clause of Obligations.DebugPort can be met. -/
theorem test_DebugPort_meets :
  (∃ (s : State) (k : Nat), (k ≠ 0x4447 ∨ s.flag DBG_STAT_LOCKED = true)) ∧
  (  let at' := fun (s : State) (p : State.DbgPlace) => State.dbgPlace s.dbgAddr = p
    ∃ (s : State), s.flag DBG_STAT_LOCKED = false ∧ at' s .nowhere) ∧
  (∃ (s : State), s.flag DBG_STAT_LOCKED = false ∧ s.flag DBG_STAT_TOKEN = true) ∧
  (  let open' := fun (s : State) (b : Nat) => s.flag DBG_STAT_LOCKED = false ∧ s.dbgMay b = true
      let at' := fun (s : State) (p : State.DbgPlace) => State.dbgPlace s.dbgAddr = p
    ∃ (s : State) (o : Nat), open' s 2 ∧ at' s (.dram o)) ∧
  (  let open' := fun (s : State) (b : Nat) => s.flag DBG_STAT_LOCKED = false ∧ s.dbgMay b = true
      let at' := fun (s : State) (p : State.DbgPlace) => State.dbgPlace s.dbgAddr = p
    ∃ (s : State) (c : Fin 8) (o : Nat), open' s 2 ∧ at' s (.core c o)) ∧
  (  let open' := fun (s : State) (b : Nat) => s.flag DBG_STAT_LOCKED = false ∧ s.dbgMay b = true
      let at' := fun (s : State) (p : State.DbgPlace) => State.dbgPlace s.dbgAddr = p
    ∃ (s : State) (c : Fin 12) (w : Nat), open' s 2 ∧ at' s (.data c w)) ∧
  (  let open' := fun (s : State) (b : Nat) => s.flag DBG_STAT_LOCKED = false ∧ s.dbgMay b = true
      let at' := fun (s : State) (p : State.DbgPlace) => State.dbgPlace s.dbgAddr = p
    ∃ (s : State) (c : Fin 12) (w : Nat), open' s 2 ∧ at' s (.prog c w)) ∧
  (  let open' := fun (s : State) (b : Nat) => s.flag DBG_STAT_LOCKED = false ∧ s.dbgMay b = true
      let at' := fun (s : State) (p : State.DbgPlace) => State.dbgPlace s.dbgAddr = p
    ∃ (s : State) (u : Fin 4) (w : Nat), open' s 2 ∧ at' s (.solver u w)) ∧
  (  let open' := fun (s : State) (b : Nat) => s.flag DBG_STAT_LOCKED = false ∧ s.dbgMay b = true
      let at' := fun (s : State) (p : State.DbgPlace) => State.dbgPlace s.dbgAddr = p
    ∃ (s : State) (o : Nat), open' s 2 ∧ at' s (.mram o)) ∧
  (  let open' := fun (s : State) (b : Nat) => s.flag DBG_STAT_LOCKED = false ∧ s.dbgMay b = true
      let at' := fun (s : State) (p : State.DbgPlace) => State.dbgPlace s.dbgAddr = p
    ∃ (s : State) (a : Nat), open' s 2 ∧ at' s (.bar0 a)) ∧
  (  let open' := fun (s : State) (b : Nat) => s.flag DBG_STAT_LOCKED = false ∧ s.dbgMay b = true
      let at' := fun (s : State) (p : State.DbgPlace) => State.dbgPlace s.dbgAddr = p
    ∃ (s : State) (a : Nat), open' s 3 ∧ at' s (.bar0 a)) ∧
  (  let open' := fun (s : State) (b : Nat) => s.flag DBG_STAT_LOCKED = false ∧ s.dbgMay b = true
      let at' := fun (s : State) (p : State.DbgPlace) => State.dbgPlace s.dbgAddr = p
    ∃ (s : State) (o : Nat), open' s 3 ∧ at' s (.dram o) ∧ ((s.mode = mBARE ∨ (s.mode = mCOMMISSION ∧ s.allSafeOff = true)))) ∧
  (  let open' := fun (s : State) (b : Nat) => s.flag DBG_STAT_LOCKED = false ∧ s.dbgMay b = true
      let at' := fun (s : State) (p : State.DbgPlace) => State.dbgPlace s.dbgAddr = p
    ∃ (s : State) (o : Nat), open' s 3 ∧ at' s (.dram o) ∧ s.mode ≠ mBARE ∧ (s.mode ≠ mCOMMISSION ∨ s.allSafeOff = false)) ∧
  (  let open' := fun (s : State) (b : Nat) => s.flag DBG_STAT_LOCKED = false ∧ s.dbgMay b = true
      let at' := fun (s : State) (p : State.DbgPlace) => State.dbgPlace s.dbgAddr = p
    ∃ (s : State) (o : Nat), open' s 3 ∧ at' s (.mram o)) ∧
  (  let open' := fun (s : State) (b : Nat) => s.flag DBG_STAT_LOCKED = false ∧ s.dbgMay b = true
      let at' := fun (s : State) (p : State.DbgPlace) => State.dbgPlace s.dbgAddr = p
    ∃ (s : State) (c : Fin 8) (o : Nat), open' s 3 ∧ at' s (.core c o)) ∧
  (  let open' := fun (s : State) (b : Nat) => s.flag DBG_STAT_LOCKED = false ∧ s.dbgMay b = true
      let at' := fun (s : State) (p : State.DbgPlace) => State.dbgPlace s.dbgAddr = p
    ∃ (s : State) (c : Fin 12) (w : Nat), open' s 3 ∧ at' s (.data c w)) ∧
  (  let open' := fun (s : State) (b : Nat) => s.flag DBG_STAT_LOCKED = false ∧ s.dbgMay b = true
      let at' := fun (s : State) (p : State.DbgPlace) => State.dbgPlace s.dbgAddr = p
    ∃ (s : State) (c : Fin 12) (w : Nat), open' s 3 ∧ at' s (.prog c w)) ∧
  (  let open' := fun (s : State) (b : Nat) => s.flag DBG_STAT_LOCKED = false ∧ s.dbgMay b = true
      let at' := fun (s : State) (p : State.DbgPlace) => State.dbgPlace s.dbgAddr = p
    ∃ (s : State) (u : Fin 4) (w : Nat), open' s 3 ∧ at' s (.solver u w)) ∧
  (∃ (w : Nat), w < 8) ∧
  (∃ (s : State), s.mode = mBARE ∧ s.dbgMay 4 = true) ∧
  (∃ (s : State), s.dbgMay 4 = true) ∧
  (∃ (s : State), (s.mode ≠ mBARE ∨ s.dbgMay 4 = false)) ∧
  (∃ (s : State), s.dbgMay 4 = false) ∧
  (∃ (s : State), s.flag DBG_STAT_LOCKED = true) ∧
  (∃ (s : State), s.flag DBG_STAT_LOCKED = false) ∧
  (∃ (s : State), s.flag DBG_STAT_LOCKED = false) ∧
  (∃ (s : State), s.flag DBG_STAT_LOCKED = false) ∧
  (∃ (s : State), s.host.tap.token.length + 1 ≠ 16872) ∧
  (∃ (s : State), s.host.tap.token.length + 1 = 16872) ∧
  (∃ (s : State), s.dbgMay 5 = false) ∧
  (∃ (s : State), s.dbgMay 5 = true) :=
  ⟨⟨(tst []), 0, by decide +kernel⟩,
   ⟨(((tst [(DBG_STAT_LOCKED, 0)]).wrN (DBG_MADDR 0) 0x50000000).wrN (DBG_MADDR 1) 0), by decide +kernel⟩,
   ⟨(tst [(DBG_STAT_LOCKED, 0), (DBG_STAT_TOKEN, 1)]), by decide +kernel⟩,
   ⟨(((tst []).wrN (DBG_MADDR 0) 0).wrN (DBG_MADDR 1) 1), 0, by dsimp only; decide +kernel, by decide +kernel⟩,
   ⟨(((tst []).wrN (DBG_MADDR 0) 0x10000000).wrN (DBG_MADDR 1) 0), 0, 0, by decide +kernel⟩,
   ⟨(((tst []).wrN (DBG_MADDR 0) 0x20000000).wrN (DBG_MADDR 1) 0), 0, 0, by dsimp only; decide +kernel, by decide +kernel⟩,
   ⟨(((tst []).wrN (DBG_MADDR 0) 0x20008000).wrN (DBG_MADDR 1) 0), 0, 8192, by decide +kernel⟩,
   ⟨(((tst []).wrN (DBG_MADDR 0) 0x30000000).wrN (DBG_MADDR 1) 0), 0, 0, by decide +kernel⟩,
   ⟨(((tst []).wrN (DBG_MADDR 0) 0x40000000).wrN (DBG_MADDR 1) 0), 0, by decide +kernel⟩,
   ⟨(((tst []).wrN (DBG_MADDR 0) SYS_ID).wrN (DBG_MADDR 1) 0), 0, by dsimp only; decide +kernel, by decide +kernel⟩,
   ⟨(tst []), 0, by decide +kernel⟩,
   ⟨(((tst [(SYS_MODE_MODE, mBARE)]).wrN (DBG_MADDR 0) 0).wrN (DBG_MADDR 1) 1), 0, by dsimp only; decide +kernel, by decide +kernel, by decide +kernel⟩,
   ⟨(((tst []).wrN (DBG_MADDR 0) 0).wrN (DBG_MADDR 1) 1), 0, by decide +kernel⟩,
   ⟨(((tst []).wrN (DBG_MADDR 0) 0x40000000).wrN (DBG_MADDR 1) 0), 0, by dsimp only; decide +kernel, by decide +kernel⟩,
   ⟨(((tst []).wrN (DBG_MADDR 0) 0x10000000).wrN (DBG_MADDR 1) 0), 0, 0, by dsimp only; decide +kernel, by decide +kernel⟩,
   ⟨(((tst []).wrN (DBG_MADDR 0) 0x20000000).wrN (DBG_MADDR 1) 0), 0, 0, by decide +kernel⟩,
   ⟨(((tst []).wrN (DBG_MADDR 0) 0x20008000).wrN (DBG_MADDR 1) 0), 0, 8192, by decide +kernel⟩,
   ⟨(((tst []).wrN (DBG_MADDR 0) 0x30000000).wrN (DBG_MADDR 1) 0), 0, 0, by decide +kernel⟩,
   ⟨0, by decide +kernel⟩,
   ⟨(tst [(SYS_MODE_MODE, mBARE)]), by decide +kernel⟩,
   ⟨(tst []), by decide +kernel⟩,
   ⟨(tst []), by decide +kernel⟩,
   ⟨(tst [(DBG_STAT_LOCKED, 1)]), by decide +kernel⟩,
   ⟨(tst [(DBG_STAT_LOCKED, 1)]), by decide +kernel⟩,
   ⟨(tst [(DBG_STAT_LOCKED, 0)]), by decide +kernel⟩,
   ⟨(tst [(DBG_STAT_LOCKED, 0)]), by decide +kernel⟩,
   ⟨(tst [(DBG_STAT_LOCKED, 0)]), by decide +kernel⟩,
   ⟨(tst []), by decide +kernel⟩,
   ⟨(modHost (fun x => { x with tap := { x.tap with token := List.replicate 16871 0 } }) (tst [])), by show (List.replicate 16871 (0 : Byte)).length + 1 = 16872; rw [List.length_replicate]⟩,
   ⟨(tst [(DBG_STAT_LOCKED, 1)]), by decide +kernel⟩,
   ⟨(tst []), by decide +kernel⟩⟩

end Sys2Proof.Tests
end

namespace Sys2Proof.Machine

/-- Every command leaves the register file in its canonical form. -/
theorem exec_goesCanon (c : Instr) (s : State) (hs : RegsCanon s.regs) : goesCanon (exec c s) := by
  cases c <;> simp [exec, hs, -goesCanon_next]

/-- A step leaves the register file in its canonical form: a SYS cycle, or the command at the front of the queue. -/
theorem step_goesCanon (s : State) (hs : RegsCanon s.regs) : goesCanon (step s) := by
  unfold step
  split
  · simpa using State.sysCycle_regsWf s hs
  · exact exec_goesCanon _ _ hs

theorem step_regsWf {s t : State} (hs : s.regsWf = true) (h : step s = .next t) : t.regsWf = true := by
  obtain ⟨u, hu, hc⟩ := step_goesCanon s hs
  cases h.symm.trans hu
  exact hc

theorem runSteps_regsWf {k : Nat} {s t : State} (hs : s.regsWf = true) (h : runSteps k s = .next t) : t.regsWf = true := by
  induction k generalizing s with
  | zero => cases h; exact hs
  | succ k ih =>
    simp only [runSteps] at h
    split at h
    · next u hu => exact ih (step_regsWf hs hu) h
    · cases h
    · cases h

/-- Settles O5: each command keeps the canonical form (exec_goesCanon), so each step does, and so does every run by induction
on the number of steps. -/
theorem registersStayCanonical : Obligations.RegistersStayCanonical := by
  unfold Obligations.RegistersStayCanonical
  exact ⟨fun _ _ => step_regsWf, fun _ _ _ => runSteps_regsWf⟩

theorem State.sysCycle_of_reset {s : State} (h : s.mode = mRESET) : s.sysCycle = s := if_pos h

theorem State.sysCycle_of_run {s : State} (h : s.mode ≠ mRESET) : s.sysCycle = s.cycles 1 := if_neg h

theorem step_of_idle {s : State} (h : s.pending = []) : step s = .next s.sysCycle := by
  unfold step
  rw [h]

/-- Settles O2: with no command waiting a step is State.sysCycle, which is one cycle of time and nothing in RESET. -/
theorem idleStep : Obligations.IdleStep := by
  unfold Obligations.IdleStep
  refine ⟨fun s hp hm => ?_, fun s hp hm => ⟨s.cycles 1, ?_, rfl, ?_, ?_, rfl, rfl, rfl, rfl⟩⟩
  · rw [step_of_idle hp, State.sysCycle_of_reset hm]
  · rw [step_of_idle hp, State.sysCycle_of_run hm]
  · simp [State.cycles]
  · simp [State.cycles]

/-- Settles O7: the state after reset is closed, and its queues, cores and clusters are banks of equal things. -/
theorem resetState : Obligations.ResetState := by
  unfold Obligations.ResetState
  refine ⟨by decide +kernel, rfl, by decide +kernel, rfl, by decide +kernel, ?_, rfl, ?_, rfl, rfl, ?_, by decide +kernel, by decide +kernel, rfl, rfl⟩
  · intro n
    simp [State.queue, State.reset]
  · intro c
    simp [State.reset]
  · intro c
    simp [State.reset, State.cl]

end Sys2Proof.Machine

/-! SUPPORT. Register rules beside those of Laws/State.lean: bits that hardware sets, fields beside a written one, registers kept
by operations that write none, and the words that wait for the highest word of a register (R14, R555). -/

namespace Sys2Proof.Machine

namespace State

theorem keeps_wrN {s t : State} {l : List Nat} {a : Nat} (v : Nat) (h : s.keeps t l) (ha : a ∈ l) : s.keeps (t.wrN a v) l :=
  keeps_wr _ h ha

/-- Only the register file decides which registers are kept. -/
theorem keeps_congr {s t u : State} {l : List Nat} (h : s.keeps t l) (hr : u.regs = t.regs) : s.keeps u l :=
  keeps_trans h (keeps_of_regs hr l)

/-- A register is kept where it is not among those that may be written. -/
theorem rd_keeps {s t : State} {l : List Nat} (h : s.keeps t l) {a : Nat} (ha : a ∉ l) : t.rd a = s.rd a := h a ha

theorem flag_keeps {s t : State} {l : List Nat} (h : s.keeps t l) {x : Fld} (hx : x.reg ∉ l) : t.flag x = s.flag x := by
  rw [flag_eq, flag_eq, f_keeps h hx]

/-- A field that is cleared reads 0. -/
theorem f_setF_zero (s : State) (x : Fld) (h : x.lo + x.width ≤ 32) : (s.setF x 0).f x = 0 := by
  rw [f_setF_same s x 0 h, Nat.zero_mod]

/-- A one-bit field that is set reads 1. -/
theorem f_setF_one (s : State) (x : Fld) (h : x.lo + x.width ≤ 32) (hw : x.width = 1) : (s.setF x 1).f x = 1 := by
  rw [f_setF_same s x 1 h, hw]
  rfl

theorem f_hit (s : State) (x y : Fld) : (s.hit x).f y = (s.setF x 1).f y := rfl

/-- A bit that hardware sets reads 1 (R14). -/
theorem f_hit_same (s : State) (x : Fld) (h : x.lo + x.width ≤ 32) (hw : x.width = 1) : (s.hit x).f x = 1 := by
  rw [f_hit, f_setF_one s x h hw]

theorem f_hit_ne (s : State) {x y : Fld} (h : y.reg ≠ x.reg) : (s.hit x).f y = s.f y := f_setF_ne s 1 h

theorem f_hit_disj (s : State) {x y : Fld} (hr : y.reg = x.reg) (h : x.lo + x.width ≤ y.lo ∨ y.lo + y.width ≤ x.lo) :
    (s.hit x).f y = s.f y := f_setF_disj s 1 hr h

/-- A one-bit field written with a truth value reads it. -/
theorem f_setB_same (s : State) (x : Fld) (v : Bool) (h : x.lo + x.width ≤ 32) (hw : x.width = 1) : (s.setB x v).f x = b2n v := by
  rw [setB_eq, f_setF_same s x _ h, hw]
  cases v <;> rfl

theorem flag_setB_same (s : State) (x : Fld) (v : Bool) (h : x.lo + x.width ≤ 32) (hw : x.width = 1) : (s.setB x v).flag x = v := by
  rw [flag_eq, f_setB_same s x v h hw]
  cases v <;> rfl

end State

end Sys2Proof.Machine

namespace Sys2Proof.Store

variable {w : Nat}

theorem find?_insert_same (m : Store w) (a : Nat) (v : BitVec w) (hm : ∀ c ∈ m, c.1 ≠ a) :
    (insert m a v).find? (fun x => x.1 == a) = some (a, v) := by
  induction m with
  | nil => simp [insert]
  | cons c m ih =>
    have hc : c.1 ≠ a := hm c (by simp)
    by_cases h : a < c.1
    · simp [insert, h]
    · rw [insert, if_neg h, List.find?_cons_of_neg (by simpa using hc), ih fun c' h' => hm c' (by simp [h'])]

end Sys2Proof.Store

namespace Sys2Proof.Machine.State

/-- A lower word that waits is the one that was written last (R555). -/
theorem lowWord_holdLow_same (s : State) (a : Nat) (v : Word) : (s.holdLow a v).lowWord a = v := by
  unfold lowWord holdLow
  rw [Store.find?_insert_same _ _ _ (Store.ne_of_mem_erase _ _)]

end Sys2Proof.Machine.State

/-! SUPPORT. O13: the writes to the master. -/

namespace Sys2Proof.Machine

namespace State

theorem mst_eq (s : State) : s.mst = s.f WHEEL_STAT_MST_STATE := rfl

/-- The master's state after MST_STATE is written. -/
theorem mst_setMst (s : State) {m : Nat} (h : m < 8) : (s.setF WHEEL_STAT_MST_STATE m).mst = m := by
  unfold mst
  rw [f_setF_same _ _ _ (by decide)]
  exact Nat.mod_eq_of_lt h

theorem mst_keeps {s t : State} {l : List Nat} (h : s.keeps t l) (hl : WHEEL_STAT ∉ l) : t.mst = s.mst :=
  f_keeps (x := WHEEL_STAT_MST_STATE) h hl

theorem toMst_mst (s : State) {m : Nat} (h : m < 8) : (s.toMst m).mst = m := mst_setMst s.anchor h

theorem toMst_keeps (s : State) (m : Nat) : s.keeps (s.toMst m) [WHEEL_STAT] :=
  keeps_setF (t := s.anchor) (x := WHEEL_STAT_MST_STATE) m (keeps_of_regs rfl _) (.head _)

theorem repull_keeps (s : State) : s.keeps s.repull [WHEEL_STAT] := by
  unfold repull
  split
  · exact keeps_setF _ (keeps_refl s _) (.head _)
  · split <;> exact keeps_of_regs rfl _

theorem repull_frame (s : State) : s.repull = { s with wheel := s.repull.wheel, regs := s.repull.regs } := by
  unfold repull
  split
  · rfl
  · split <;> rfl

theorem repull_pos (s : State) : s.repull.wheel.pos = s.wheel.pos ∧ s.repull.wheel.spd = s.wheel.spd := by
  unfold repull
  split
  · exact ⟨rfl, rfl⟩
  · split <;> exact ⟨rfl, rfl⟩

/-- A locked master goes back to pull-in, one in PULL stays there (R113). -/
theorem repull_mst_pull {s : State} (h : s.mst = msLOCKED ∨ s.mst = msPULL) : s.repull.mst = msPULL := by
  unfold repull
  split
  · exact mst_setMst _ (by decide)
  · next hn =>
    have hp : s.mst = msPULL := h.resolve_left hn
    rw [if_pos hp]
    exact hp

/-- Pull-in starts afresh from no other state than LOCKED (R113). -/
theorem repull_mst_of_ne {s : State} (h : s.mst ≠ msLOCKED) : s.repull.mst = s.mst := by
  unfold repull
  rw [if_neg h]
  split <;> rfl

/-- A write of WHEEL_VSPD that is taken: both words in force from the anchor on (R110, R555). -/
def withVspd (s : State) (n : Nat) : State := (s.dropLow (WHEEL_VSPD 0)).anchor.wr2 WHEEL_VSPD n

theorem withVspd_keeps (s : State) (n : Nat) : s.keeps (s.withVspd n) [WHEEL_VSPD 0, WHEEL_VSPD 1, WHEEL_STAT] :=
  keeps_wr2 _ (keeps_of_regs rfl _) (.head _) (.tail _ (.head _))

theorem withVspd_mst (s : State) (n : Nat) : (s.withVspd n).mst = s.mst :=
  f_wr2_ne (x := WHEEL_STAT_MST_STATE) _ n (by decide) (by decide)

theorem withVspd_rd2 (s : State) {n : Nat} (h : n < 18446744073709551616) : (s.withVspd n).rd2 WHEEL_VSPD = n := by
  unfold withVspd
  rw [rd2_wr2_same _ _ _ (by decide)]
  exact Nat.mod_eq_of_lt h

theorem rd2_repull (s : State) : s.repull.rd2 WHEEL_VSPD = s.rd2 WHEEL_VSPD := by
  unfold rd2 rdN
  rw [rd_keeps s.repull_keeps (by decide), rd_keeps s.repull_keeps (by decide)]

/-- The master after an accepted speed: a virtual one leaves HOLD, and pull-in starts afresh (R110, R113). -/
def vspdTaken (s : State) (n : Nat) : State :=
  if s.flag WHEEL_MST_CTL_SRC then s.withVspd n
  else if s.mst = msHOLD then (s.withVspd n).setF WHEEL_STAT_MST_STATE msFREE
  else (s.withVspd n).repull

theorem vspdTaken_rd2 (s : State) {n : Nat} (h : n < 18446744073709551616) : (s.vspdTaken n).rd2 WHEEL_VSPD = n := by
  unfold vspdTaken
  split
  · exact withVspd_rd2 s h
  · split
    · rw [rd2_setF_ne _ _ (by decide) (by decide), withVspd_rd2 s h]
    · rw [rd2_repull, withVspd_rd2 s h]

theorem vspdTaken_keeps (s : State) (n : Nat) : s.keeps (s.vspdTaken n) [WHEEL_VSPD 0, WHEEL_VSPD 1, WHEEL_STAT] := by
  unfold vspdTaken
  split
  · exact withVspd_keeps s n
  · split
    · exact keeps_setF _ (withVspd_keeps s n) (by decide)
    · exact keeps_trans (withVspd_keeps s n) (keeps_mono (repull_keeps _) (by decide))

theorem vspdTaken_frame (s : State) (n : Nat) :
    s.vspdTaken n = { s with lowWords := (s.vspdTaken n).lowWords, wheel := (s.vspdTaken n).wheel, regs := (s.vspdTaken n).regs } := by
  unfold vspdTaken
  split
  · rfl
  · split
    · rfl
    · rw [repull_frame]; rfl

/-- A real master keeps its state under a speed write. -/
theorem vspdTaken_mst_real {s : State} (n : Nat) (h : s.flag WHEEL_MST_CTL_SRC = true) : (s.vspdTaken n).mst = s.mst := by
  unfold vspdTaken
  rw [if_pos h, withVspd_mst]

theorem vspdTaken_mst_hold {s : State} (n : Nat) (h : s.flag WHEEL_MST_CTL_SRC = false) (hm : s.mst = msHOLD) :
    (s.vspdTaken n).mst = msFREE := by
  unfold vspdTaken
  rw [if_neg (by simp [h]), if_pos hm]
  exact mst_setMst _ (by decide)

theorem vspdTaken_of_moving {s : State} (n : Nat) (h : s.flag WHEEL_MST_CTL_SRC = false) (hm : s.mst ≠ msHOLD) :
    s.vspdTaken n = (s.withVspd n).repull := by
  unfold vspdTaken
  rw [if_neg (by simp [h]), if_neg hm]

theorem vspdTaken_mst_pull {s : State} (n : Nat) (h : s.flag WHEEL_MST_CTL_SRC = false) (hm : s.mst = msLOCKED ∨ s.mst = msPULL) :
    (s.vspdTaken n).mst = msPULL := by
  rw [vspdTaken_of_moving n h (by rcases hm with hm | hm <;> simp [hm, msHOLD, msLOCKED, msPULL])]
  exact repull_mst_pull (by rwa [withVspd_mst])

theorem vspdTaken_mst_free {s : State} (n : Nat) (h : s.flag WHEEL_MST_CTL_SRC = false) (hm : s.mst = msFREE) :
    (s.vspdTaken n).mst = msFREE := by
  rw [vspdTaken_of_moving n h (by simp [hm, msHOLD, msFREE]), repull_mst_of_ne (by simp [withVspd_mst, hm, msFREE, msLOCKED]),
    withVspd_mst, hm]

/-- WHEEL_PHASE takes a word from the anchor on. -/
def withPhase (s : State) (v : Word) : State := s.anchor.wr WHEEL_PHASE v

theorem withPhase_mst (s : State) (v : Word) : (s.withPhase v).mst = s.mst :=
  f_wr_ne (x := WHEEL_STAT_MST_STATE) s.anchor v (by decide)

/-- Pull-in starts at the present instant (R113). -/
def startPull (s : State) : State :=
  { s.toMst msPULL with wheel := { (s.toMst msPULL).wheel with okSince := none, ramping := false } }.setF WHEEL_MST_CTL_LOCK 1

theorem startPull_mst (s : State) : s.startPull.mst = msPULL :=
  (f_setF_ne (y := WHEEL_STAT_MST_STATE) _ 1 (by decide)).trans (toMst_mst s (by decide))

theorem startPull_lock (s : State) : s.startPull.f WHEEL_MST_CTL_LOCK = 1 := f_setF_one _ WHEEL_MST_CTL_LOCK (by decide) rfl

theorem startPull_keeps (s : State) : s.keeps s.startPull [WHEEL_STAT, WHEEL_MST_CTL] :=
  keeps_setF (x := WHEEL_MST_CTL_LOCK) 1 (keeps_mono (toMst_keeps s msPULL) (by decide)) (.tail _ (.head _))

/-- The feedback of a real master's port is lost or frozen (R115). -/
def masterBad (s : State) : Bool :=
  s.flag (FBP_STAT_LOST s.masterPort) ||
    (match s.tileOfPort s.masterPort with | some a => s.flag (TILE_FB_STAT_LOST a) || s.flag (TILE_FB_STAT_FROZEN a) | none => false)

/-- A held real master goes on from the held value (R115). -/
def resumeMaster (s : State) : State :=
  { s with wheel := { s.wheel with offset := s.offsetFor s.wheel.pos, held := false } }.setF WHEEL_STAT_MST_STATE msREAL

theorem resumeMaster_keeps (s : State) : s.keeps s.resumeMaster [WHEEL_STAT] :=
  keeps_setF (t := { s with wheel := { s.wheel with offset := s.offsetFor s.wheel.pos, held := false } })
    (x := WHEEL_STAT_MST_STATE) _ (keeps_of_regs rfl _) (.head _)

theorem masterBad_eq_false {s : State} (h : s.flag (FBP_STAT_LOST s.masterPort) = false)
    (ha : ∀ a, s.tileOfPort s.masterPort = some a → s.flag (TILE_FB_STAT_LOST a) = false ∧ s.flag (TILE_FB_STAT_FROZEN a) = false) :
    s.masterBad = false := by
  unfold masterBad
  rw [h]
  split
  · next a hp => simp [ha a hp]
  · rfl

theorem masterBad_of_tile {s : State} {a : Fin 96} (hp : s.tileOfPort s.masterPort = some a)
    (h : s.flag (TILE_FB_STAT_LOST a) = true ∨ s.flag (TILE_FB_STAT_FROZEN a) = true) : s.masterBad = true := by
  unfold masterBad
  rw [hp]
  rcases h with h | h <;> simp [h]

end State

/-- WHEEL_VSPD_WRITE, word 1: refused in a held wheel, refused with a bit above VMAX, else taken (R110, R555). -/
theorem execWheelVspdWrite_high {s : State} (v : Word) (h : s.mapOpen = true) :
    execWheelVspdWrite 1 v s = .next (
      if s.wheelHeld then s.dropLow (WHEEL_VSPD 0)
      else if signed 64 (s.rd2 WHEEL_VMAX) < |signed 64 ((s.lowWord (WHEEL_VSPD 0)).toNat + 4294967296 * v.toNat : Nat)| then
        (s.dropLow (WHEEL_VSPD 0)).hit WHEEL_STAT_VSPD_REFUSED
      else s.vspdTaken ((s.lowWord (WHEEL_VSPD 0)).toNat + 4294967296 * v.toNat)) := by
  unfold execWheelVspdWrite
  rw [if_neg (by simp [h]), if_neg (by decide)]
  rfl

theorem execMasterResume_eq (s : State) :
    execMasterResume s = .next (
      if s.mapOpen ∧ s.flag WHEEL_MST_CTL_SRC ∧ s.wheel.held ∧ !s.wheelHeld ∧ !s.masterBad then s.resumeMaster else s) := rfl

/-- Settles O13: each write to the master by its cases. -/
theorem masterWrites : Obligations.MasterWrites := by
  unfold Obligations.MasterWrites
  refine ⟨?_, ?_, ?_, ?_, ?_, ?_, ?_, ?_, ?_, ?_, ?_, ?_, ?_, ?_, ?_⟩
  · -- a closed register map
    intro s w v h
    simp [exec, execWheelVspdWrite, execWheelVaccWrite, execWheelPhaseWrite, execMasterLock, execMasterUnlock, execMasterResume, h]
  · -- word 0 of the speed waits
    intro s v h
    exact ⟨s.holdLow (WHEEL_VSPD 0) v, by simp [exec, execWheelVspdWrite, h], s.lowWord_holdLow_same _ _, rfl⟩
  · intro s v h hh
    refine ⟨s.dropLow (WHEEL_VSPD 0), ?_, rfl⟩
    rw [exec, execWheelVspdWrite_high v h, if_pos hh]
  · -- a speed above VMAX
    intro s v n h hh hn hv
    subst hn
    refine ⟨(s.dropLow (WHEEL_VSPD 0)).hit WHEEL_STAT_VSPD_REFUSED, ?_, State.f_hit_same _ _ (by decide) rfl,
      State.keeps_hit (State.keeps_refl s _) (.head _), rfl⟩
    rw [exec, execWheelVspdWrite_high v h, if_neg (by simp [hh]), if_pos hv]
  · -- a speed taken
    intro s v n h hh hn hv
    have hlt : n < 18446744073709551616 := by
      have h0 := (s.lowWord (WHEEL_VSPD 0)).isLt
      have h1 := v.isLt
      omega
    refine ⟨s.vspdTaken n, ?_, s.vspdTaken_rd2 hlt, State.vspdTaken_mst_real n, State.vspdTaken_mst_hold n,
      State.vspdTaken_mst_pull n, State.vspdTaken_mst_free n, s.vspdTaken_keeps n, s.vspdTaken_frame n⟩
    rw [exec, execWheelVspdWrite_high v h, if_neg (by simp [hh]), ← hn, if_neg (not_lt.mpr hv)]
  · -- the acceleration limit
    intro s v h
    exact ⟨s.anchor.wr WHEEL_VACC v, by simp [exec, execWheelVaccWrite, h], State.rd_wr_same _ _ _,
      State.f_wr_ne (x := WHEEL_STAT_MST_STATE) s.anchor v (by decide), rfl, rfl, State.keeps_wr v (State.keeps_refl s _) (.head _), rfl⟩
  · -- a held wheel
    intro s v h
    simp [exec, execWheelPhaseWrite, execMasterLock, execMasterUnlock, execMasterResume, h]
  · -- the phase
    intro s v h hh
    refine ⟨(s.withPhase v).repull, by simp [exec, execWheelPhaseWrite, h, hh, State.withPhase], ?_, (State.repull_pos _).1,
      (State.repull_pos _).2, ?_, ?_, ?_, ?_⟩
    · rw [State.rd_keeps (State.repull_keeps _) (by decide)]
      exact State.rd_wr_same _ _ _
    · intro hm
      exact State.repull_mst_pull (by rwa [State.withPhase_mst])
    · intro hm
      rw [State.repull_mst_of_ne (by rwa [State.withPhase_mst]), State.withPhase_mst]
    · exact State.keeps_trans (State.keeps_wr v (State.keeps_refl s _) (.head _)) (State.keeps_mono (State.repull_keeps _) (by decide))
    · rw [State.repull_frame]; rfl
  · -- pull-in starts
    intro s h hh hm hv ht
    refine ⟨s.startPull, ?_, s.startPull_mst, s.startPull_lock, rfl, s.startPull_keeps, rfl⟩
    simp [exec, execMasterLock, h, hh, hm, hv, ht, msFREE, msPULL, msLOCKED, State.startPull]
  · intro s hm
    simp [exec, execMasterLock, hm]
  · -- LOCK refused
    intro s h hh hp hl hc
    refine ⟨(s.setF WHEEL_MST_CTL_LOCK 0).hit WHEEL_STAT_LOCK_REFUSED, ?_, ?_, State.f_hit_same _ _ (by decide) rfl, ?_, ?_, rfl⟩
    · have hn : ¬ (s.mst = msFREE ∧ s.vspd ≠ 0 ∧ s.f TIME_STAT_STATE = 2) := by tauto
      simp only [exec, execMasterLock]
      rw [if_neg (by simp [h, hh]), if_neg (by simp [hp, hl]), if_neg hn]
    · rw [State.f_hit_ne _ (by decide), State.f_setF_zero _ _ (by decide)]
    · rw [State.mst_eq, State.mst_eq, State.f_hit_disj _ (by rfl) (by decide), State.f_setF_ne _ _ (by decide)]
    · exact State.keeps_hit (State.keeps_setF 0 (State.keeps_refl s _) (.tail _ (.head _))) (.head _)
  · -- the lock is left
    intro s h hh hm
    refine ⟨(s.setF WHEEL_MST_CTL_LOCK 0).toMst msFREE, by simp [exec, execMasterUnlock, h, hh, hm], State.toMst_mst _ (by decide), ?_, ?_, rfl⟩
    · rw [State.f_keeps (State.toMst_keeps _ _) (by decide), State.f_setF_zero _ _ (by decide)]
    · exact State.keeps_trans (State.keeps_setF (x := WHEEL_MST_CTL_LOCK) 0 (State.keeps_refl s _) (.tail _ (.head _)))
        (State.keeps_mono (State.toMst_keeps _ _) (by decide))
  · intro s h hh hp hl
    exact ⟨s.setF WHEEL_MST_CTL_LOCK 0, by simp [exec, execMasterUnlock, h, hh, hp, hl], State.f_setF_zero _ _ (by decide),
      State.keeps_setF 0 (State.keeps_refl s _) (.head _), rfl⟩
  · -- a held real master resumes
    intro s h hsrc hheld hh hlost ha
    refine ⟨s.resumeMaster, ?_, State.mst_setMst _ (by decide), rfl, rfl, rfl, s.resumeMaster_keeps, rfl⟩
    rw [exec, execMasterResume_eq, if_pos ⟨h, hsrc, hheld, by simp [hh], by simp [State.masterBad_eq_false hlost ha]⟩]
  · intro s hc
    rw [exec, execMasterResume_eq, if_neg]
    rintro ⟨-, hsrc, hheld, -, hb⟩
    rcases hc with hc | hc | hc | ⟨a, hp, ha⟩
    · simp [hc] at hheld
    · simp [hc] at hsrc
    · simp [State.masterBad, hc] at hb
    · simp [State.masterBad_of_tile hp ha] at hb

end Sys2Proof.Machine

/-! SUPPORT. O14: the master and the wheel position move. What a jump of W does without descriptors, and what no firing of a
descriptor changes. -/

namespace Sys2Proof.Machine

namespace State

-- ===== W without descriptors =====

theorem syncW_keeps (s : State) : s.keeps s.syncW [WHEEL_STAT] := by
  unfold syncW
  split
  · exact keeps_refl s _
  · dsimp only
    split
    · exact keeps_of_regs rfl _
    · exact keeps_setF (t := { s with wheel := { s.wheel with w := s.wpos, descs := s.wheel.descs.map s.rearm } })
        (x := WHEEL_STAT_DIR) _ (keeps_of_regs rfl _) (.head _)

theorem syncW_frame (s : State) : s.syncW = { s with wheel := s.syncW.wheel, regs := s.syncW.regs } := by
  unfold syncW
  split
  · rfl
  · dsimp only
    split <;> rfl

/-- Storing W arms descriptors and adds none (R117). -/
theorem syncW_descs_nil {s : State} (h : s.wheel.descs = []) : s.syncW.wheel.descs = [] := by
  unfold syncW
  split
  · exact h
  · dsimp only
    split <;> simp [h]

theorem passedDescs_nil {s : State} (h : s.wheel.descs = []) (w0 m : Nat) : s.passedDescs w0 m = [] := by
  simp [passedDescs, h]

/-- Without descriptors a jump moves W, and stages the slots ahead where it was further than one slot (R126). -/
theorem jumpFrom_of_no_descs {s : State} (h : s.wheel.descs = []) (w0 m : Nat) :
    s.jumpFrom w0 m = s.placeW m ∨ s.jumpFrom w0 m = (s.placeW m).stage := by
  unfold jumpFrom skipPassed passedInOrder
  rw [passedDescs_nil h]
  split
  · exact .inl rfl
  · exact .inr rfl

theorem jumpFrom_regs_of_no_descs {s : State} (h : s.wheel.descs = []) (w0 m : Nat) : (s.jumpFrom w0 m).regs = s.regs := by
  rcases jumpFrom_of_no_descs h w0 m with hj | hj <;> rw [hj] <;> rfl

-- ===== what a firing leaves alone =====

/-- Neither a port's state nor its count differs (R114, R166). -/
def portsKept (s t : State) : Prop := t.fbps = s.fbps ∧ ∀ p : Fin 32, t.rd (FBP_CNT p) = s.rd (FBP_CNT p)

theorem portsKept_refl (s : State) : s.portsKept s := ⟨rfl, fun _ => rfl⟩

theorem portsKept_trans {s t u : State} (h : s.portsKept t) (h' : t.portsKept u) : s.portsKept u :=
  ⟨h'.1.trans h.1, fun p => (h'.2 p).trans (h.2 p)⟩

theorem portsKept_of_eq {s t : State} (hf : t.fbps = s.fbps) (hr : t.regs = s.regs) : s.portsKept t :=
  ⟨hf, fun p => by unfold rd; rw [hr]⟩

theorem portsKept_ite {s x y : State} {c : Prop} [Decidable c] (hx : c → s.portsKept x) (hy : ¬ c → s.portsKept y) :
    s.portsKept (if c then x else y) := by
  split
  · next h => exact hx h
  · next h => exact hy h

/-- A write to another register keeps the ports' counts. -/
theorem portsKept_wr {s t : State} (a : Nat) (v : Word) (h : s.portsKept t) (ha : ∀ p : Fin 32, FBP_CNT p ≠ a) : s.portsKept (t.wr a v) :=
  ⟨h.1, fun p => (rd_wr_ne t v (ha p)).trans (h.2 p)⟩

/-- A count lies in a window of ports, outside the device's blocks and behind no tile's base. -/
theorem FBP_CNT_range (p : Fin 32) : 0x100818 ≤ FBP_CNT p ∧ FBP_CNT p < 0x140000 ∧ FBP_CNT p % 0x10000 < 0x1000 := by
  unfold FBP_CNT fbpBase
  omega

theorem FBP_CNT_ne_of_lt {a : Nat} (h : a < 0x100000) (p : Fin 32) : FBP_CNT p ≠ a := by
  have := FBP_CNT_range p
  omega

theorem FBP_CNT_ne_PLN_STAT (a : Fin 96) (p : Fin 32) : FBP_CNT p ≠ TILE_PLN_STAT a := by
  have := FBP_CNT_range p
  unfold TILE_PLN_STAT tileBase
  omega

theorem offerOr_portsKept (s : State) (n : Fin 16) (i : QItem) (hn : ∀ p : Fin 32, FBP_CNT p ≠ HQ_HWM n)
    (hc : ∀ p : Fin 32, FBP_CNT p ≠ HQ_CNT_REF n) : s.portsKept (s.offerOr n i).1 := by
  unfold offerOr
  split
  · next u hu =>
    obtain ⟨-, -, -, hk, hf⟩ := offer_some hu
    exact ⟨by rw [hf], fun p => hk _ (by simpa using hn p)⟩
  · exact portsKept_wr _ _ (portsKept_refl s) hc

theorem leaveGroup_portsKept (s : State) : s.portsKept s.leaveGroup := by
  unfold leaveGroup
  split <;> exact portsKept_of_eq rfl rfl

theorem join_portsKept (s : State) (w : Work) : s.portsKept (s.join w) := portsKept_of_eq
  (by unfold join placeWork; exact (leaveGroup_portsKept s).1) (by unfold join placeWork leaveGroup; dsimp only; split <;> rfl)

theorem putWork_portsKept (s : State) (w : Work) : s.portsKept (s.putWork 4 w).1 := by
  have ho := fun i => offerOr_portsKept s 4 i (FBP_CNT_ne_of_lt (by decide)) (FBP_CNT_ne_of_lt (by decide))
  unfold putWork
  split
  · exact portsKept_refl s
  · dsimp only
    split
    · exact portsKept_trans (ho _) (join_portsKept _ _)
    · exact ho _

theorem release_portsKept (s : State) (x : WDesc) (late : Bool) : s.portsKept (s.release x late) := by
  unfold release
  dsimp only
  split
  · exact portsKept_refl s
  · split
    · exact putWork_portsKept s _
    · split
      · exact portsKept_trans (putWork_portsKept s _) (portsKept_of_eq rfl rfl)
      · exact portsKept_wr _ _ (portsKept_trans (putWork_portsKept s _) (portsKept_of_eq rfl rfl)) (FBP_CNT_ne_of_lt (by decide))

theorem setB_portsKept (s : State) (x : Fld) (v : Bool) (h : x.reg < 0x100000) : s.portsKept (s.setB x v) :=
  portsKept_wr _ _ (portsKept_refl s) (FBP_CNT_ne_of_lt h)

theorem foutAct_portsKept (s : State) (o : Nat) (on : Bool) : s.portsKept (s.foutAct o on) := by
  unfold foutAct
  split
  · exact portsKept_refl s
  · exact setB_portsKept s ⟨FIO_OUT, o, 1⟩ on (show FIO_OUT < 0x100000 by decide)

theorem segmentGo_portsKept (s : State) (a : Fin 96) : s.portsKept (s.segmentGo a) := by
  unfold segmentGo
  split
  · exact portsKept_of_eq rfl rfl
  · exact ⟨rfl, fun p => rd_setF_ne s (x := TILE_PLN_STAT_GO_EMPTY a) 1 (FBP_CNT_ne_PLN_STAT a p)⟩

theorem act_portsKept (s : State) (x : WDesc) (late : Bool) : s.portsKept (s.act x late) := by
  have hp : ∀ (u : State) (n : Nat) (on : Bool), u.portsKept (u.setPin n on) := fun u n on =>
    setB_portsKept u ⟨WHEEL_EV_LVL, n, 1⟩ on (show WHEEL_EV_LVL < 0x100000 by decide)
  unfold act
  refine portsKept_ite (fun _ => hp _ _ _) fun _ => portsKept_ite (fun _ => hp _ _ _) fun _ => portsKept_ite (fun _ => ?_) fun _ =>
    portsKept_ite (fun _ => foutAct_portsKept _ _ _) fun _ => portsKept_ite (fun _ => foutAct_portsKept _ _ _) fun _ =>
    portsKept_ite (fun _ => ?_) fun _ => portsKept_ite (fun _ => release_portsKept _ _ _) fun _ => portsKept_ite (fun _ => ?_) fun _ =>
    portsKept_ite (fun _ => portsKept_of_eq rfl rfl) fun _ => portsKept_ite (fun _ => ?_) fun _ => portsKept_refl s
  · exact portsKept_trans (portsKept_of_eq rfl rfl) (hp _ _ _)
  · exact portsKept_trans (portsKept_of_eq rfl rfl) (foutAct_portsKept _ _ _)
  · split
    · exact segmentGo_portsKept _ _
    · exact portsKept_refl s
  · split
    · have ha : WHEEL_LT_STAT x.d.target < 0x100000 := by unfold WHEEL_LT_STAT; omega
      exact portsKept_wr _ _ (portsKept_of_eq rfl rfl) (FBP_CNT_ne_of_lt ha)
    · exact portsKept_refl s

theorem recRegs_lt {r : Nat} (h : r ∈ recRegs) : r < 0x100000 := by
  have : ∀ r ∈ recRegs, r < 0x100000 := by decide
  exact this r h

theorem recRelease_portsKept (s : State) (x : WDesc) (late : Bool) : s.portsKept (s.recRelease x late) := by
  unfold recRelease
  split
  · refine ⟨offerRec_fbps _ _ _ _, fun p => offerRec_keeps s _ _ _ _ fun h => ?_⟩
    exact FBP_CNT_ne_of_lt (recRegs_lt h) p rfl
  · exact portsKept_refl s

theorem advance_portsKept (s : State) (h k : Nat) : s.portsKept (s.advance h k) := by
  unfold advance setDescs
  exact portsKept_wr _ _ (portsKept_of_eq rfl rfl) (FBP_CNT_ne_of_lt (show WHEEL_OCC < 0x100000 by decide))

theorem fireDesc_portsKept (s : State) (x : WDesc) (late : Bool) : s.portsKept (s.fireDesc x late) := by
  unfold fireDesc
  split
  · exact portsKept_refl s
  split
  · exact advance_portsKept _ _ _
  · have hl : s.portsKept (if late then s.bump WHEEL_CNT_LATE else s) := by
      split
      · exact portsKept_wr _ _ (portsKept_refl s) (FBP_CNT_ne_of_lt (by decide))
      · exact portsKept_refl s
    exact portsKept_trans (portsKept_trans (portsKept_trans hl (act_portsKept _ _ _)) (recRelease_portsKept _ _ _)) (advance_portsKept _ _ _)

/-- Firing descriptors leaves the feedback ports alone. -/
theorem fireAll_portsKept (s : State) (late : Bool) (l : List WDesc) : s.portsKept (s.fireAll late l) := by
  induction l generalizing s with
  | nil => exact portsKept_refl s
  | cons x l ih => exact portsKept_trans (fireDesc_portsKept s x late) (ih _)

theorem advanceAll_portsKept (s : State) (k : WDesc → Nat) (l : List WDesc) :
    s.portsKept (l.foldl (fun s x => s.advance x.handle (k x)) s) := by
  induction l generalizing s with
  | nil => exact portsKept_refl s
  | cons x l ih => exact portsKept_trans (advance_portsKept s x.handle (k x)) (ih _)

/-- A jump of W leaves the feedback ports alone (R126). -/
theorem jumpFrom_portsKept (s : State) (w0 m : Nat) : s.portsKept (s.jumpFrom w0 m) := by
  unfold jumpFrom skipPassed
  have hs : s.portsKept (s.placeW m) := portsKept_of_eq rfl rfl
  split
  · exact portsKept_trans hs (fireAll_portsKept _ _ _)
  · have ha := portsKept_trans hs (advanceAll_portsKept (s.placeW m) (skipsOf w0 m) (s.passedDescs w0 m))
    dsimp only
    split
    · exact portsKept_trans ha (portsKept_of_eq rfl rfl)
    · exact portsKept_trans (portsKept_wr WHEEL_STAT _ (portsKept_wr WHEEL_CNT_SKIP _ ha (FBP_CNT_ne_of_lt (by decide)))
        (FBP_CNT_ne_of_lt (by decide))) (portsKept_of_eq rfl rfl)

-- ===== a correction of the count =====

/-- The move of W that follows a correction of a real master's count, from where W stood, by how far M lies ahead (R116, R126). -/
def landCount (s : State) (w0 : Nat) (ahead : Int) : State :=
  if 0 ≤ ahead then s.jumpFrom w0 s.mpos
  else if (s.f WHEEL_HYST_HYST : Int) ≤ -ahead then (s.setB WHEEL_STAT_DIR (!s.wdir)).jumpFrom w0 s.mpos
  else s

/-- How far M lies ahead of a position in the wheel direction. -/
def aheadOf (s : State) (w0 : Nat) : Int := if s.wdir then -(diff64 s.mpos w0) else diff64 s.mpos w0

theorem moveCount_eq (s : State) (port : Nat) (g : State → State) :
    s.moveCount port g = if s.mst = msREAL ∧ s.masterPort = port ∧ !s.flag DBG_STAT_WHEEL then
      (g s.syncW).landCount s.syncW.wheel.w ((g s.syncW).aheadOf s.syncW.wheel.w) else g s := rfl

theorem landCount_portsKept (s : State) (w0 : Nat) (ahead : Int) : s.portsKept (s.landCount w0 ahead) := by
  unfold landCount
  split
  · exact jumpFrom_portsKept _ _ _
  · split
    · exact portsKept_trans (setB_portsKept s WHEEL_STAT_DIR _ (show WHEEL_STAT < 0x100000 by decide)) (jumpFrom_portsKept _ _ _)
    · exact portsKept_refl s

theorem landCount_keeps_of_no_descs {s : State} (h : s.wheel.descs = []) (w0 : Nat) (ahead : Int) :
    s.keeps (s.landCount w0 ahead) [WHEEL_STAT] := by
  unfold landCount
  split
  · exact keeps_of_regs (jumpFrom_regs_of_no_descs h _ _) _
  · split
    · have hk : s.keeps (s.setF WHEEL_STAT_DIR (b2n (!s.wdir))) [WHEEL_STAT] := keeps_setF _ (keeps_refl s _) (.head _)
      exact keeps_congr hk (jumpFrom_regs_of_no_descs (s := s.setB WHEEL_STAT_DIR (!s.wdir)) h _ _)
    · exact keeps_refl s _

/-- Nothing but the wheel and the registers differs. -/
def wheelFrame (s t : State) : Prop := t = { s with wheel := t.wheel, regs := t.regs }

theorem wheelFrame_refl (s : State) : s.wheelFrame s := rfl

theorem wheelFrame_trans {s t u : State} (h : s.wheelFrame t) (h' : t.wheelFrame u) : s.wheelFrame u := by
  unfold wheelFrame at *
  exact h'.trans (by rw [h])

theorem wheelFrame_wr (s : State) (a : Nat) (v : Word) : s.wheelFrame (s.wr a v) := rfl

theorem jumpFrom_wheelFrame_of_no_descs {s : State} (h : s.wheel.descs = []) (w0 m : Nat) : s.wheelFrame (s.jumpFrom w0 m) := by
  rcases jumpFrom_of_no_descs h w0 m with hj | hj <;> rw [hj] <;> rfl

theorem landCount_wheelFrame_of_no_descs {s : State} (h : s.wheel.descs = []) (w0 : Nat) (ahead : Int) :
    s.wheelFrame (s.landCount w0 ahead) := by
  unfold landCount
  split
  · exact jumpFrom_wheelFrame_of_no_descs h _ _
  · split
    · exact wheelFrame_trans (wheelFrame_wr s _ _) (jumpFrom_wheelFrame_of_no_descs (s := s.setB WHEEL_STAT_DIR (!s.wdir)) h _ _)
    · exact wheelFrame_refl s

end State

end Sys2Proof.Machine

/-! SUPPORT. O14: each clause on the master and W. -/

namespace Sys2Proof.Machine

namespace State

theorem signed_wrapNat (v : Int) : signed 32 (wrapNat 32 v) = (BitVec.ofInt 32 v).toInt := by
  rw [signed, wrapNat, BitVec.ofNat_toNat, BitVec.setWidth_eq]

theorem shiftCount_corr (s : State) (p : Fin 32) (t : Nat) (d : Int) (k : Nat) :
    ((s.shiftCount p t d k).fbps.get p).corr = (s.fbps.get p).corr := by
  simp [shiftCount, modFbp]

theorem shiftCount_rdI (s : State) (p : Fin 32) (t : Nat) (d : Int) (k : Nat) :
    (s.shiftCount p t d k).rdI (FBP_CNT p) = signed 32 (wrapNat 32 (s.rdI (FBP_CNT p) + d)) := by
  rw [signed_wrapNat]
  exact congrArg BitVec.toInt (rd_wr_same s (FBP_CNT p) _)

theorem shiftCount_wheel (s : State) (p : Fin 32) (t : Nat) (d : Int) (k : Nat) : (s.shiftCount p t d k).wheel = s.wheel := rfl

theorem shiftCount_keeps (s : State) (p : Fin 32) (t : Nat) (d : Int) (k : Nat) : s.keeps (s.shiftCount p t d k) [FBP_CNT p] :=
  keeps_congr (keeps_wr (a := FBP_CNT p) (BitVec.ofInt 32 (s.count p + d)) (keeps_refl s _) (.head _)) rfl

/-- The ports after a correction of a count, and the count (R168). -/
theorem moveCount_shiftCount (s : State) (port : Nat) (p : Fin 32) (t : Nat) (d : Int) (k : Nat) :
    ((s.moveCount port (fun v => v.shiftCount p t d k)).fbps.get p).corr = (s.fbps.get p).corr ∧
      (s.moveCount port (fun v => v.shiftCount p t d k)).rdI (FBP_CNT p) = signed 32 (wrapNat 32 (s.rdI (FBP_CNT p) + d)) := by
  rw [moveCount_eq]
  split
  · obtain ⟨hf, hr⟩ := landCount_portsKept (s.syncW.shiftCount p t d k) s.syncW.wheel.w
      ((s.syncW.shiftCount p t d k).aheadOf s.syncW.wheel.w)
    have hrd : s.syncW.rdI (FBP_CNT p) = s.rdI (FBP_CNT p) :=
      congrArg BitVec.toInt (syncW_keeps s _ (by simpa using FBP_CNT_ne_of_lt (a := WHEEL_STAT) (by decide) p))
    refine ⟨?_, ?_⟩
    · rw [hf, shiftCount_corr, syncW_frame]
    · rw [← hrd, ← shiftCount_rdI s.syncW p t d k]
      exact congrArg BitVec.toInt (hr p)
  · exact ⟨shiftCount_corr s p t d k, shiftCount_rdI s p t d k⟩

/-- Without descriptors a correction of a count writes the count and the wheel direction alone. -/
theorem moveCount_keeps_of_no_descs {s : State} (h : s.wheel.descs = []) (port : Nat) (p : Fin 32) (t : Nat) (d : Int) (k : Nat) :
    s.keeps (s.moveCount port (fun v => v.shiftCount p t d k)) [WHEEL_STAT, FBP_CNT p] := by
  have hd : (s.syncW.shiftCount p t d k).wheel.descs = [] := by rw [shiftCount_wheel, syncW_descs_nil h]
  rw [moveCount_eq]
  split
  · refine keeps_trans (keeps_mono (syncW_keeps s) ?_) (keeps_trans (keeps_mono (shiftCount_keeps s.syncW p t d k) ?_)
      (keeps_mono (landCount_keeps_of_no_descs hd _ _) ?_)) <;> simp
  · exact keeps_mono (shiftCount_keeps s p t d k) (by simp)

theorem moveCount_frame_of_no_descs {s : State} (h : s.wheel.descs = []) (port : Nat) (p : Fin 32) (t : Nat) (d : Int) (k : Nat) :
    s.moveCount port (fun v => v.shiftCount p t d k) =
      { s with wheel := (s.moveCount port (fun v => v.shiftCount p t d k)).wheel,
               fbps := (s.moveCount port (fun v => v.shiftCount p t d k)).fbps,
               regs := (s.moveCount port (fun v => v.shiftCount p t d k)).regs } := by
  have key : ∀ u v : State, u = { s with wheel := u.wheel, regs := u.regs } →
      (u.shiftCount p t d k).wheelFrame v → v = { s with wheel := v.wheel, fbps := v.fbps, regs := v.regs } := by
    intro u v hu hv
    unfold wheelFrame at hv
    have hf := congrArg State.fbps hv
    rw [hv, hu]
    rfl
  have hd : (s.syncW.shiftCount p t d k).wheel.descs = [] := by rw [shiftCount_wheel, syncW_descs_nil h]
  rw [moveCount_eq]
  split
  · exact key _ _ (syncW_frame s) (landCount_wheelFrame_of_no_descs hd _ _)
  · exact key s _ rfl (wheelFrame_refl _)

end State
end Sys2Proof.Machine

/-! SUPPORT. O14, put together. -/

namespace Sys2Proof.Machine

namespace State

/-- A pulled-in master locks at the angle of plant time, W jumping there (R112). -/
def takeLock (u : State) : State :=
  ((u.jumpW (posM u.lockedPos)).lockAt u.lockedPos u.vspd).setF WHEEL_STAT_MST_STATE msLOCKED

theorem jumpW_regs_of_no_descs {s : State} (h : s.wheel.descs = []) (m : Nat) : (s.jumpW m).regs = s.regs :=
  jumpFrom_regs_of_no_descs h _ _

theorem jumpW_wheelFrame_of_no_descs {s : State} (h : s.wheel.descs = []) (m : Nat) : s.wheelFrame (s.jumpW m) :=
  jumpFrom_wheelFrame_of_no_descs h _ _

theorem lockAt_keeps (s : State) (p v : Int) (m : Nat) : s.keeps ((s.lockAt p v).setF WHEEL_STAT_MST_STATE m) [WHEEL_STAT] :=
  keeps_setF (t := s.lockAt p v) (x := WHEEL_STAT_MST_STATE) m (keeps_of_regs rfl _) (.head _)

theorem lockAt_wheelFrame (s : State) (p v : Int) (m : Nat) : s.wheelFrame ((s.lockAt p v).setF WHEEL_STAT_MST_STATE m) := rfl

theorem takeLock_keeps {u : State} (h : u.wheel.descs = []) : u.keeps u.takeLock [WHEEL_STAT] :=
  keeps_trans (keeps_of_regs (jumpW_regs_of_no_descs h _) _) (lockAt_keeps _ _ _ _)

theorem takeLock_wheelFrame {u : State} (h : u.wheel.descs = []) : u.wheelFrame u.takeLock :=
  wheelFrame_trans (jumpW_wheelFrame_of_no_descs h _) (lockAt_wheelFrame _ _ _ _)

/-- The wheel turns round: W takes M, the direction flips, and the slots the other way are staged (R116, R122). -/
def turnRound (u : State) : State := ((u.placeW u.mpos).setB WHEEL_STAT_DIR (!u.wdir)).armAll.stage

theorem turnRound_wdir (u : State) : u.turnRound.wdir = !u.wdir :=
  flag_setB_same (u.placeW u.mpos) WHEEL_STAT_DIR _ (by decide) rfl

theorem turnRound_keeps (u : State) : u.keeps u.turnRound [WHEEL_STAT] := by
  have hs : u.keeps ((u.placeW u.mpos).setF WHEEL_STAT_DIR (b2n (!u.wdir))) [WHEEL_STAT] :=
    keeps_setF (x := WHEEL_STAT_DIR) _ (keeps_of_regs rfl _) (.head _)
  exact keeps_congr hs rfl

theorem turnRound_wheelFrame (u : State) : u.wheelFrame u.turnRound := rfl

/-- How far M has come back behind W, against the wheel direction (R116). -/
def comeBack (u : State) : Int := if u.wdir then diff64 u.mpos u.wpos else diff64 u.wpos u.mpos

/-- The wheel turns: a virtual master moves against it, or a real one has come WHEEL_HYST back (R116). -/
def turns (u : State) : Bool :=
  if u.flag WHEEL_MST_CTL_SRC then decide ((u.f WHEEL_HYST_HYST : Int) ≤ u.comeBack ∧ 0 < u.comeBack)
  else decide (if u.wdir then 0 < u.mspd else u.mspd < 0)

theorem turns_virtual {u : State} (h : u.flag WHEEL_MST_CTL_SRC = false) :
    u.turns = true ↔ (u.wdir = false ∧ u.mspd < 0) ∨ (u.wdir = true ∧ 0 < u.mspd) := by
  unfold turns
  cases hd : u.wdir <;> simp [h]

theorem turns_real {u : State} (h : u.flag WHEEL_MST_CTL_SRC = true) :
    u.turns = true ↔ (u.f WHEEL_HYST_HYST : Int) ≤ u.comeBack ∧ 0 < u.comeBack := by
  simp [turns, h]

theorem anchored_keeps (s : State) (m : Nat) (l : List Nat) : s.keeps (s.runTo m).anchor.armAll l := keeps_of_regs rfl l

theorem anchored_wheelFrame (s : State) (m : Nat) : (s.runTo m).wheelFrame (s.runTo m).anchor.armAll := rfl

/-- What a reading of M captures beside it (R555). -/
def readAngle (s : State) : State :=
  { (s.wrN WHEEL_MST_PCYC (s.mpos / 4294967296)).wr2 WHEEL_MST_SPD (wrapNat 64 (roundHalfEven s.mspd 1099511627776)) with
    rdData := BitVec.ofNat 32 s.mpos }

theorem readAngle_pcyc (s : State) : s.readAngle.rdN WHEEL_MST_PCYC = s.mpos / 4294967296 % 4294967296 := by
  have h : s.readAngle.rd WHEEL_MST_PCYC = (s.wrN WHEEL_MST_PCYC (s.mpos / 4294967296)).rd WHEEL_MST_PCYC :=
    rd_wr2_ne _ _ (by decide) (by decide)
  exact (congrArg BitVec.toNat h).trans (rdN_wrN_same _ _ _)

theorem wrapNat_lt (w : Nat) (v : Int) : wrapNat w v < 2 ^ w := (BitVec.ofInt w v).isLt

theorem readAngle_spd (s : State) : s.readAngle.rd2 WHEEL_MST_SPD = wrapNat 64 (roundHalfEven s.mspd 1099511627776) :=
  (rd2_wr2_same _ _ _ (by decide)).trans (Nat.mod_eq_of_lt (wrapNat_lt 64 _))

theorem readAngle_keeps (s : State) : s.keeps s.readAngle [WHEEL_MST_PCYC, WHEEL_MST_SPD 0, WHEEL_MST_SPD 1] := by
  have h : s.keeps ((s.wrN WHEEL_MST_PCYC (s.mpos / 4294967296)).wr2 WHEEL_MST_SPD
      (wrapNat 64 (roundHalfEven s.mspd 1099511627776))) [WHEEL_MST_PCYC, WHEEL_MST_SPD 0, WHEEL_MST_SPD 1] :=
    keeps_wr2 _ (keeps_wrN _ (keeps_refl s _) (.head _)) (.tail _ (.head _)) (.tail _ (.tail _ (.head _)))
  exact keeps_congr h rfl

end State

theorem execMasterLocked_eq (m : Nat) (s : State) :
    execMasterLocked m s = .next (match (s.runTo m).anchor.wheel.okSince with
      | some k => if (s.runTo m).anchor.mst = msPULL ∧ k + (s.runTo m).anchor.msCycles 100 ≤ (s.runTo m).anchor.time.mono then
          (s.runTo m).anchor.takeLock else (s.runTo m).anchor
      | none => (s.runTo m).anchor) := by
  unfold execMasterLocked State.takeLock
  rfl

theorem execWheelReversal_eq (m : Nat) (s : State) :
    execWheelReversal m s = .next (if (s.runTo m).anchor.armAll.turns then (s.runTo m).anchor.armAll.turnRound
      else (s.runTo m).anchor.armAll) := rfl

/-- A turn of the wheel, by what it changes. -/
theorem execWheelReversal_turns {s u : State} {m : Nat} (hu : u = (s.runTo m).anchor.armAll) (h : u.turns = true) :
    ∃ t, exec (.wheelReversal m) s = .next t ∧ t.wdir = !u.wdir ∧ t.wheel.w = u.mpos ∧ s.keeps t [WHEEL_STAT] ∧
      t = { s.runTo m with wheel := t.wheel, regs := t.regs } := by
  subst hu
  refine ⟨(s.runTo m).anchor.armAll.turnRound, ?_, State.turnRound_wdir _, rfl, State.keeps_trans (s.anchored_keeps m _) (State.turnRound_keeps _),
    State.wheelFrame_trans (s.anchored_wheelFrame m) (State.turnRound_wheelFrame _)⟩
  rw [exec, execWheelReversal_eq, if_pos h]

theorem execWheelReversal_stays {s u : State} {m : Nat} (hu : u = (s.runTo m).anchor.armAll) (h : ¬ u.turns = true) :
    exec (.wheelReversal m) s = .next u := by
  subst hu
  rw [exec, execWheelReversal_eq, if_neg h]

theorem execWheelJump_of_port {s u : State} {m : Nat} {p : Fin 32} (hu : u = s.runTo m) (hm : u.mst = msREAL) (hp : u.masterPort = p) :
    exec (.wheelJump m) s = .next (u.settle p m) := by
  subst hu
  have hp' : (s.runTo m).masterPort < 32 := by rw [hp]; exact p.isLt
  have hf : (⟨(s.runTo m).masterPort, hp'⟩ : Fin 32) = p := Fin.ext hp
  rw [exec, execWheelJump, dif_pos ⟨hm, hp'⟩, hf]

end Sys2Proof.Machine

namespace Sys2Proof.Machine

theorem State.anchor_wheelFrame (s : State) : s.wheelFrame s.anchor := rfl

/-- Staging without descriptors moves the slots alone (R122). -/
theorem State.stage_keeps (s : State) (m : Nat) : s.keeps (s.runTo m).syncW.stage [WHEEL_STAT] :=
  State.keeps_congr (State.keeps_trans (State.keeps_of_regs (State.runTo_regs s m) _) (State.syncW_keeps _)) rfl

theorem State.stage_wheelFrame (s : State) : s.wheelFrame s.stage := rfl

/-- A correction that is due is applied (R168). -/
theorem State.settle_due {u : State} {p : Fin 32} {m d : Nat} {e : Int} (hc : (u.fbps.get p).corr = some (d, e)) (hd : d ≤ m) :
    u.settle p m = (u.modFbp p (fun x => { x with corr := none })).moveCount p (fun v => v.shiftCount p d e 1) := by
  unfold State.settle
  rw [hc]
  exact if_pos hd

theorem State.settle_not_due {u : State} {p : Fin 32} {m : Nat}
    (h : (u.fbps.get p).corr = none ∨ ∃ d, ∃ e, (u.fbps.get p).corr = some (d, e) ∧ m < d) : u.settle p m = u := by
  unfold State.settle
  rcases h with h | ⟨d, e, h, hm⟩
  · rw [h]
  · rw [h]
    exact if_neg (by omega)

/-- Settles O14: each move of the master and of W by its cases; without descriptors a jump of W moves nothing else. -/
theorem masterMoves : Obligations.MasterMoves := by
  unfold Obligations.MasterMoves
  refine ⟨?_, ?_, ?_, ?_, ?_, ?_, ?_, ?_, ?_, ?_, ?_, ?_, ?_, ?_, ?_⟩
  · -- pull-in ends in LOCKED
    intro s u m k hu hok hm hk
    subst hu
    refine ⟨(s.runTo m).anchor.takeLock, ?_, rfl, State.mst_setMst _ (by decide), rfl, rfl, rfl, fun hd => ⟨?_, ?_⟩⟩
    · rw [exec, execMasterLocked_eq, hok]
      exact congrArg _ (if_pos ⟨hm, hk⟩)
    · exact State.keeps_trans (t := (s.runTo m).anchor) (State.keeps_of_regs rfl _) (State.takeLock_keeps hd)
    · exact State.wheelFrame_trans (State.anchor_wheelFrame (s.runTo m)) (State.takeLock_wheelFrame hd)
  · -- not yet
    intro s u m hu h
    subst hu
    rw [exec, execMasterLocked_eq]
    rcases h with h | h | ⟨k, h, hk⟩
    · rw [h]
    · split
      · rw [if_neg fun hc => h hc.1]
      · rfl
    · rw [h]
      exact congrArg _ (if_neg fun hc => absurd hc.2 (by omega))
  · -- overspeed
    intro s m h
    refine ⟨((s.runTo m).hit WHEEL_STAT_OVERSPEED).raise
      (mkFault srcWHEEL 0x11 cMAJOR 1 [.val (|(s.runTo m).mspd| * 60 / (4294967296 * mcU)).toNat]), ?_,
      (State.raise_f _ _ _).trans (State.f_hit_same _ _ (by decide) rfl), ⟨_, rfl, rfl, rfl, rfl, rfl⟩, ?_, rfl⟩
    · rw [exec, execMasterOverspeed, State.runTo_rd2]
      exact congrArg _ (if_pos h)
    · exact State.keeps_raise _ (State.keeps_hit (State.keeps_of_regs (State.runTo_regs s m) _) (.head _))
  · intro s m h
    rw [exec, execMasterOverspeed, State.runTo_rd2]
    exact congrArg _ (if_neg (not_lt.mpr h))
  · intro s u m hu hsrc h
    exact execWheelReversal_turns hu ((State.turns_virtual hsrc).mpr h)
  · intro s u m back hu hsrc hb h h0
    subst hb
    exact execWheelReversal_turns hu ((State.turns_real hsrc).mpr ⟨h, h0⟩)
  · intro s u m hu hsrc h
    refine execWheelReversal_stays hu fun ht => ?_
    rcases h with ⟨hd, hv⟩ | ⟨hd, hv⟩ <;> rcases (State.turns_virtual hsrc).mp ht with ⟨hd', hv'⟩ | ⟨hd', hv'⟩
    · omega
    · simp [hd] at hd'
    · simp [hd] at hd'
    · omega
  · intro s u m back hu hsrc hb h
    subst hb
    refine execWheelReversal_stays hu fun ht => ?_
    obtain ⟨h1, h2⟩ := (State.turns_real hsrc).mp ht
    unfold State.comeBack at h1 h2
    omega
  · -- staging without descriptors
    intro s m hd
    refine ⟨(s.runTo m).syncW.stage, ?_, rfl, s.stage_keeps m, State.wheelFrame_trans (State.syncW_frame _) (State.stage_wheelFrame _)⟩
    rw [exec, execSlotStage, State.syncW_descs_nil (s := s.runTo m) hd]
    rfl
  · intro s u m l hu hl
    subst hu hl
    rfl
  · intro s u m hu h
    subst hu
    rw [exec, execWheelJump]
    exact congrArg _ (dif_neg fun hc => by omega)
  · intro s u m p hu hm hp h
    rw [execWheelJump_of_port hu hm hp, State.settle_not_due h]
  · -- a correction that is due
    intro s u m d e p hu hm hp hc hd
    obtain ⟨hcorr, hcnt⟩ := (u.modFbp p fun x => { x with corr := none }).moveCount_shiftCount p p d e 1
    refine ⟨_, (execWheelJump_of_port hu hm hp).trans (congrArg _ (State.settle_due hc hd)), rfl, ?_, hcnt, fun hn => ?_⟩
    · rw [hcorr]
      simp [State.modFbp]
    · have hn' : (u.modFbp p fun x => { x with corr := none }).wheel.descs = [] := by rw [hu]; exact hn
      refine ⟨State.keeps_trans (State.keeps_of_regs (by rw [hu]; rfl) _) (State.moveCount_keeps_of_no_descs hn' p p d e 1), ?_⟩
      exact State.moveCount_frame_of_no_descs hn' p p d e 1
  · intro s h
    simp [exec, execMasterAngleRead, h]
  · intro s h
    exact ⟨s.readAngle, by rw [exec, execMasterAngleRead, h]; rfl, rfl, s.readAngle_pcyc, s.readAngle_spd, s.readAngle_keeps, rfl⟩

end Sys2Proof.Machine

/-! SUPPORT. O16: the ends of pulses and windows, the latches, insertion and cancel, as rules on the operations that the host's
path and an event core's share. -/

namespace Sys2Proof.Machine

namespace State

-- ===== the ends of pulses =====

/-- A pulse of a pin or output has come to its end (R119). -/
def pulseEnded (s : State) (n : Nat) (x : Nat × Nat) : Bool := x.1 == n && decide (x.2 ≤ s.time.mono)

theorem any_pulseEnded {s : State} {n e : Nat} {l : List (Nat × Nat)} (h : (n, e) ∈ l) (he : e ≤ s.time.mono) :
    l.any (s.pulseEnded n) = true :=
  List.any_eq_true.mpr ⟨(n, e), h, by simp [pulseEnded, he]⟩

theorem any_pulseEnded_false {s : State} {n : Nat} {l : List (Nat × Nat)} (h : ∀ e ∈ l, e.1 = n → s.time.mono < e.2) :
    l.any (s.pulseEnded n) = false := by
  rw [List.any_eq_false]
  intro e he hp
  simp only [pulseEnded, Bool.and_eq_true, beq_iff_eq, decide_eq_true_eq] at hp
  have := h e he hp.1
  omega

/-- The pulses of an EV pin that have ended are taken out. -/
def dropPinPulses (s : State) (n : Nat) : State :=
  { s with wheel := { s.wheel with pinPulses := s.wheel.pinPulses.filter (fun x => !s.pulseEnded n x) } }

/-- The pulses of a field output that have ended are taken out. -/
def dropFoutPulses (s : State) (n : Nat) : State :=
  { s with wheel := { s.wheel with foutPulses := s.wheel.foutPulses.filter (fun x => !s.pulseEnded n x) } }

theorem endPinPulses_eq (s : State) (n : Nat) :
    s.endPinPulses n = if s.wheel.pinPulses.any (s.pulseEnded n) then (s.dropPinPulses n).setPin n false else s := rfl

theorem endFoutPulses_eq (s : State) (n : Nat) :
    s.endFoutPulses n = if s.wheel.foutPulses.any (s.pulseEnded n) then (s.dropFoutPulses n).foutAct n false else s := rfl

theorem dropPinPulses_keeps (s : State) (n : Nat) (l : List Nat) : s.keeps (s.dropPinPulses n) l := keeps_of_regs rfl l

theorem dropFoutPulses_keeps (s : State) (n : Nat) (l : List Nat) : s.keeps (s.dropFoutPulses n) l := keeps_of_regs rfl l

-- ===== insertion =====

/-- An insertion that fails a check is counted (R123). -/
theorem insert_refused {s : State} (core : Bool) {d : Descriptor} (h : s.insertCheck d ≠ admOK) :
    s.insert core d = (s.bump WHEEL_CNT_REF, s.insertCheck d, 0) := if_pos h

/-- The bucket of a path as it stands now (R588). -/
def pathBucket (s : State) (core : Bool) : TokenBucket :=
  (if core then s.wheel.coreBucket else s.wheel.hostBucket).fill s.cycleInc s.time.mono

/-- A path's bucket replaced. -/
def putPath (s : State) (core : Bool) (b : TokenBucket) : State :=
  if core then { s with wheel := { s.wheel with coreBucket := b } } else { s with wheel := { s.wheel with hostBucket := b } }

theorem putPath_regs (s : State) (core : Bool) (b : TokenBucket) : (s.putPath core b).regs = s.regs := by
  cases core <;> rfl

theorem putPath_wheelFrame (s : State) (core : Bool) (b : TokenBucket) : s.wheelFrame (s.putPath core b) := by
  cases core <;> rfl

theorem putPath_descs (s : State) (core : Bool) (b : TokenBucket) :
    (s.putPath core b).wheel.descs = s.wheel.descs ∧ (s.putPath core b).wheel.nextSeq = s.wheel.nextSeq := by
  cases core <;> exact ⟨rfl, rfl⟩

theorem insert_eq {s : State} (core : Bool) {d : Descriptor} (h : s.insertCheck d = admOK) :
    s.insert core d = if (s.pathBucket core).tokens < tokenUnit then
        ((s.putPath core (s.pathBucket core)).bump WHEEL_CNT_REF, admBUDGET, 0)
      else
        (((s.putPath core { s.pathBucket core with tokens := (s.pathBucket core).tokens - tokenUnit }).storeDesc d).1, admOK,
          ((s.putPath core { s.pathBucket core with tokens := (s.pathBucket core).tokens - tokenUnit }).storeDesc d).2) :=
  if_neg (by simp [h])

theorem setDescs_keeps (s : State) (l : List WDesc) : s.keeps (s.setDescs l) [WHEEL_OCC] :=
  keeps_setF (t := { s with wheel := { s.wheel with descs := l } }) (x := WHEEL_OCC_COUNT) _ (keeps_of_regs rfl _) (.head _)

theorem setDescs_wheelFrame (s : State) (l : List WDesc) : s.wheelFrame (s.setDescs l) := rfl

/-- A stored descriptor stands last, and only WHEEL_OCC shows it (R123). -/
theorem storeDesc_spec (s : State) (d : Descriptor) :
    (∃ b, (s.storeDesc d).1.wheel.descs = s.wheel.descs ++ [WDesc.mk (s.storeDesc d).2 s.wheel.nextSeq d b]) ∧
      s.keeps (s.storeDesc d).1 [WHEEL_OCC] ∧ s.wheelFrame (s.storeDesc d).1 := by
  refine ⟨⟨_, rfl⟩, ?_, rfl⟩
  unfold storeDesc
  exact keeps_trans (keeps_of_regs rfl _) (setDescs_keeps _ _)

/-- An insertion without a token is counted and stores nothing (R588). -/
theorem insert_no_token {s : State} (core : Bool) {d : Descriptor} (h : s.insertCheck d = admOK)
    (ht : (s.pathBucket core).tokens < tokenUnit) :
    ∃ u, s.insert core d = (u, admBUDGET, 0) ∧ u.rdN WHEEL_CNT_REF = min (s.rdN WHEEL_CNT_REF + 1) 4294967295 ∧
      u.wheel.descs = s.wheel.descs ∧ s.keeps u [WHEEL_CNT_REF] ∧ s.wheelFrame u := by
  have hr := s.putPath_regs core (s.pathBucket core)
  refine ⟨(s.putPath core (s.pathBucket core)).bump WHEEL_CNT_REF, (insert_eq core h).trans (if_pos ht), ?_,
    (s.putPath_descs core _).1, keeps_bump (keeps_of_regs hr _) (.head _), wheelFrame_trans (s.putPath_wheelFrame core _) rfl⟩
  rw [rdN_bump_same]
  unfold rdN rd
  rw [hr]

/-- An insertion with a token stores the descriptor under a new handle (R123). -/
theorem insert_stored {s : State} (core : Bool) {d : Descriptor} (h : s.insertCheck d = admOK)
    (ht : tokenUnit ≤ (s.pathBucket core).tokens) :
    ∃ (u : State) (k : Nat) (b : Bool), s.insert core d = (u, admOK, k) ∧
      u.wheel.descs = s.wheel.descs ++ [WDesc.mk k s.wheel.nextSeq d b] ∧ s.keeps u [WHEEL_OCC] ∧ s.wheelFrame u := by
  obtain ⟨hd, hseq⟩ := s.putPath_descs core { s.pathBucket core with tokens := (s.pathBucket core).tokens - tokenUnit }
  obtain ⟨⟨b, hb⟩, hk, hf⟩ :=
    (s.putPath core { s.pathBucket core with tokens := (s.pathBucket core).tokens - tokenUnit }).storeDesc_spec d
  refine ⟨_, _, b, (insert_eq core h).trans (if_neg (by omega)), ?_, ?_, wheelFrame_trans (s.putPath_wheelFrame core _) hf⟩
  · rw [hb, hd, hseq]
  · exact keeps_trans (keeps_of_regs (s.putPath_regs core _) _) hk

-- ===== cancel =====

/-- A descriptor that is not due is taken out (R124). -/
theorem cancel_standing {s : State} {h : Nat} {x : WDesc} (hx : s.syncW.descOf h = some x) (hd : s.syncW.due x = false) :
    s.cancel h = (s.syncW.setDescs (s.syncW.wheel.descs.filter (fun y => y.handle != h)), admOK) := by
  have hf : s.syncW.fireDue x = s.syncW := if_pos (by simp [hd])
  simp [cancel, hx, hf]

theorem cancel_absent {s : State} {h : Nat} (hx : s.syncW.descOf h = none) : s.cancel h = (s.syncW, admSTRUCTURE) := by
  simp [cancel, hx]

/-- A cancel answers that it took a descriptor out, or that there was none (R124). -/
theorem cancel_code (s : State) (h : Nat) : (s.cancel h).2 = admOK ∨ (s.cancel h).2 = admSTRUCTURE := by
  unfold cancel
  dsimp only
  split
  · split <;> simp
  · split <;> simp

-- ===== the answer of the host's path =====

/-- The answer of the host's path: code and handle in WHEEL_INS_RES (R123). -/
def insAnswer (s : State) (code handle : Nat) : State := (s.setF WHEEL_INS_RES_CODE code).setF WHEEL_INS_RES_HANDLE handle

theorem insAnswer_code (s : State) (c h : Nat) : (s.insAnswer c h).f WHEEL_INS_RES_CODE = c % 256 := by
  unfold insAnswer
  rw [f_setF_disj _ _ (by rfl) (by decide), f_setF_same _ _ _ (by decide)]
  rfl

theorem insAnswer_handle (s : State) (c h : Nat) : (s.insAnswer c h).f WHEEL_INS_RES_HANDLE = h % 16777216 := by
  unfold insAnswer
  rw [f_setF_same _ _ _ (by decide)]
  rfl

theorem insAnswer_keeps (s : State) (c h : Nat) : s.keeps (s.insAnswer c h) [WHEEL_INS_RES] :=
  keeps_setF (x := WHEEL_INS_RES_HANDLE) h (keeps_setF (x := WHEEL_INS_RES_CODE) c (keeps_refl s _) (.head _)) (.head _)

theorem insAnswer_wheelFrame (s : State) (c h : Nat) : s.wheelFrame (s.insAnswer c h) := rfl

-- ===== the answer to an event core =====

theorem setResult_result (s : State) (c : Fin 8) (adm handle : Nat) :
    ((s.setResult c adm handle).sched.cores.get c).result = BitVec.ofNat 32 (adm + 256 * handle) := by
  simp [setResult, modCore]

end State

theorem execWheelInsert_open {s : State} (h : s.mapOpen = true) :
    exec .wheelInsert s =
      .next ((s.insert false s.insWords).1.insAnswer (s.insert false s.insWords).2.1 (s.insert false s.insWords).2.2) := by
  rw [exec, execWheelInsert, if_neg (by simp [h])]
  rfl

theorem execWheelCancel_open {s : State} (k : Nat) (h : s.mapOpen = true) :
    exec (.wheelCancel k) s = .next ((s.cancel k).1.insAnswer (s.cancel k).2 0) := by
  rw [exec, execWheelCancel, if_neg (by simp [h])]
  rfl

theorem execCoreWheelInsert_busy {s : State} {c : Fin 8} (d : Descriptor) (h : (s.sched.cores.get c).running.isSome = true)
    (hh : (s.sched.cores.get c).halted = false) :
    exec (.coreWheelInsert c d) s = .next ((s.insert true d).1.setResult c (s.insert true d).2.1 (s.insert true d).2.2) := by
  rw [exec, execCoreWheelInsert, if_pos ⟨h, by simp [hh]⟩]

theorem execCoreWheelCancel_busy {s : State} {c : Fin 8} (k : Nat) (h : (s.sched.cores.get c).running.isSome = true)
    (hh : (s.sched.cores.get c).halted = false) :
    exec (.coreWheelCancel c k) s = .next ((s.cancel k).1.setResult c (s.cancel k).2 0) := by
  rw [exec, execCoreWheelCancel, if_pos ⟨h, by simp [hh]⟩]

end Sys2Proof.Machine

namespace Sys2Proof.Machine

namespace State

-- ===== latches =====

/-- The latch input's edge is wanted, and its window is open or it has none (R129). -/
def latchTakes (s : State) (l : Fin 8) (r : Bool) : Bool :=
  (s.f (WHEEL_LT_CFG_EDGE l) == 2 || (s.f (WHEEL_LT_CFG_EDGE l) == 0 && r) || (s.f (WHEEL_LT_CFG_EDGE l) == 1 && !r)) &&
    (!s.flag (WHEEL_LT_CFG_WINDOWED l) ||
      (match s.wheel.windows.get l with | some u => decide (s.time.mono < u) | none => false))

/-- The entry that an accepted edge leaves: time and M of t_LTD earlier (R129). -/
def latchEntry (s : State) (r : Bool) : LatchEntry :=
  LatchEntry.mk s.edgeTime (posM (s.masterNow.pos - s.masterNow.spd * 10 / 1000000000)) r s.time.mono

/-- An entry enters the latch FIFO. -/
def latchPut (s : State) (l : Fin 8) (r : Bool) : State :=
  { s with wheel := { s.wheel with latches := s.wheel.latches.set l (s.wheel.latches.get l ++ [s.latchEntry r]) } }.setF
    (WHEEL_LT_STAT_LEVEL l) ((s.wheel.latches.get l).length + 1)

theorem latchPut_level {s : State} {l : Fin 8} (r : Bool) (h : (s.wheel.latches.get l).length < 16) :
    (s.latchPut l r).f (WHEEL_LT_STAT_LEVEL l) = (s.wheel.latches.get l).length + 1 := by
  unfold latchPut
  rw [f_setF_same _ _ _ (Nat.le_of_ble_eq_true rfl)]
  exact Nat.mod_eq_of_lt (show _ < 2 ^ 5 by omega)

theorem latchPut_keeps (s : State) (l : Fin 8) (r : Bool) : s.keeps (s.latchPut l r) [WHEEL_LT_STAT l] :=
  keeps_setF (t := { s with wheel := { s.wheel with latches := s.wheel.latches.set l (s.wheel.latches.get l ++ [s.latchEntry r]) } })
    (x := WHEEL_LT_STAT_LEVEL l) _ (keeps_of_regs rfl _) (.head _)

/-- A full FIFO: the overflow shows at the latch input and at the wheel (R129). -/
def latchOverflow (s : State) (l : Fin 8) : State := (s.hit (WHEEL_LT_STAT_OVF l)).hit WHEEL_STAT_LT_OVF

theorem WHEEL_LT_STAT_ne (l : Fin 8) : WHEEL_LT_STAT l ≠ WHEEL_STAT := by
  unfold WHEEL_LT_STAT WHEEL_STAT
  omega

theorem latchOverflow_ovf (s : State) (l : Fin 8) : (s.latchOverflow l).f (WHEEL_LT_STAT_OVF l) = 1 := by
  unfold latchOverflow
  rw [f_hit_ne _ (show WHEEL_LT_STAT l ≠ WHEEL_STAT from WHEEL_LT_STAT_ne l), f_hit_same _ _ (Nat.le_of_ble_eq_true rfl) rfl]

theorem latchOverflow_keeps (s : State) (l : Fin 8) : s.keeps (s.latchOverflow l) [WHEEL_LT_STAT l, WHEEL_STAT] :=
  keeps_hit (x := WHEEL_STAT_LT_OVF) (keeps_hit (x := WHEEL_LT_STAT_OVF l) (keeps_refl s _) (.head _)) (.tail _ (.head _))

/-- The oldest entry leaves the latch FIFO, its fields captured (R129, R555). -/
def latchTake (s : State) (l : Fin 8) (e : LatchEntry) (es : List LatchEntry) : State :=
  { s with wheel := { s.wheel with latches := s.wheel.latches.set l es }, rdData := BitVec.ofNat 32 e.m }
    |>.setF (WHEEL_LT_STAT_LEVEL l) es.length |>.wrN (WHEEL_LT_PCYC l) (e.m / 4294967296)
    |>.wrN (WHEEL_LT_NS l) (e.time.ns + 2147483648 * b2n e.rising) |>.wrN (WHEEL_LT_SUB l) e.time.sub
    |>.wr2 (WHEEL_LT_SEC l) e.time.sec

theorem latchTake_pcyc (s : State) (l : Fin 8) (e : LatchEntry) (es : List LatchEntry) :
    (s.latchTake l e es).rdN (WHEEL_LT_PCYC l) = e.m / 4294967296 % 4294967296 := by
  have h1 : WHEEL_LT_PCYC l ≠ WHEEL_LT_NS l ∧ WHEEL_LT_PCYC l ≠ WHEEL_LT_SUB l ∧ WHEEL_LT_PCYC l ≠ WHEEL_LT_SEC l 0 ∧
      WHEEL_LT_PCYC l ≠ WHEEL_LT_SEC l 1 := by
    unfold WHEEL_LT_PCYC WHEEL_LT_NS WHEEL_LT_SUB WHEEL_LT_SEC
    omega
  obtain ⟨hns, hsub, hs0, hs1⟩ := h1
  unfold latchTake
  refine (congrArg BitVec.toNat (rd_wr2_ne _ _ hs0 hs1)).trans ?_
  exact (rdN_wrN_ne _ _ hsub).trans ((rdN_wrN_ne _ _ hns).trans (rdN_wrN_same _ _ _))

theorem latchTake_keeps (s : State) (l : Fin 8) (e : LatchEntry) (es : List LatchEntry) : s.keeps (s.latchTake l e es)
    [WHEEL_LT_STAT l, WHEEL_LT_PCYC l, WHEEL_LT_NS l, WHEEL_LT_SUB l, WHEEL_LT_SEC l 0, WHEEL_LT_SEC l 1] := by
  unfold latchTake
  refine keeps_wr2 _ (keeps_wrN _ (keeps_wrN _ (keeps_wrN _ (keeps_setF (x := WHEEL_LT_STAT_LEVEL l) _ (keeps_of_regs rfl _) ?_) ?_) ?_) ?_) ?_ ?_
  · exact .head _
  all_goals simp

end State

theorem execLatchEdge_eq (l : Fin 8) (r : Bool) (w m : Nat) (s : State) :
    execLatchEdge l r w m s = .next (
      if s.cfg.run.isSome ∧ s.f (WHEEL_LT_CFG_FILT l) ≤ w ∧ (s.runTo m).latchTakes l r then
        if (s.wheel.latches.get l).length < 16 then (s.runTo m).latchPut l r else (s.runTo m).latchOverflow l
      else s.runTo m) := by
  unfold execLatchEdge State.latchTakes
  simp only [Bool.and_eq_true]
  rfl

theorem execLatchRead_eq (l : Fin 8) (s : State) :
    execLatchRead l s = .next (match s.wheel.latches.get l with
      | [] => { s with rdData := 0 }
      | e :: es => if !s.mapOpen ∨ e.at_ = s.time.mono then { s with rdData := 0 } else s.latchTake l e es) := rfl

/-- A latch takes a wanted edge inside its window (R129). -/
theorem State.latchTakes_iff {s : State} {m : Nat} {l : Fin 8} {r : Bool} :
    (s.runTo m).latchTakes l r = true ↔
      (s.f (WHEEL_LT_CFG_EDGE l) = 2 ∨ (s.f (WHEEL_LT_CFG_EDGE l) = 0 ∧ r = true) ∨ (s.f (WHEEL_LT_CFG_EDGE l) = 1 ∧ r = false)) ∧
        (s.flag (WHEEL_LT_CFG_WINDOWED l) = false ∨ ∃ e, s.wheel.windows.get l = some e ∧ (s.runTo m).time.mono < e) := by
  unfold State.latchTakes
  cases hw : s.wheel.windows.get l <;> simp [hw, or_assoc]

/-- The end of a latch window (R129). -/
def State.closeLatch (s : State) (l : Fin 8) : State :=
  { s with wheel := { s.wheel with windows := s.wheel.windows.set l none } }.setF (WHEEL_LT_STAT_ARMED l) 0

theorem State.closeLatch_armed (s : State) (l : Fin 8) : (s.closeLatch l).f (WHEEL_LT_STAT_ARMED l) = 0 :=
  State.f_setF_zero _ _ (Nat.le_of_ble_eq_true rfl)

theorem State.closeLatch_keeps (s : State) (l : Fin 8) : s.keeps (s.closeLatch l) [WHEEL_LT_STAT l] :=
  State.keeps_setF (t := { s with wheel := { s.wheel with windows := s.wheel.windows.set l none } })
    (x := WHEEL_LT_STAT_ARMED l) _ (State.keeps_of_regs rfl _) (.head _)

theorem execLatchWindowEnd_eq (l : Fin 8) (m : Nat) (s : State) :
    execLatchWindowEnd l m s = .next (match s.wheel.windows.get l with
      | some e => if e ≤ (s.runTo m).time.mono then (s.runTo m).closeLatch l else s.runTo m
      | none => s.runTo m) := rfl

end Sys2Proof.Machine

namespace Sys2Proof.Machine

/-- Settles O16: the ends of pulses and windows, the latches, and the two paths of insertion and cancel, each by its cases. -/
theorem wheelStore : Obligations.WheelStore := by
  unfold Obligations.WheelStore
  refine ⟨?_, ?_, ?_, ?_, ?_, ?_, ?_, ?_, ?_, ?_, ?_, ?_, ?_, ?_, ?_, ?_, ?_, ?_, ?_, ?_, ?_, ?_, ?_, ?_, ?_⟩
  · -- the pulses of a pin end
    intro s p m e hp he
    have hx : (⟨WHEEL_EV_LVL, p, 1⟩ : Fld).lo + (⟨WHEEL_EV_LVL, p, 1⟩ : Fld).width ≤ 32 := by dsimp only; omega
    refine ⟨((s.runTo m).dropPinPulses p).setPin p false, ?_, State.f_setB_same _ _ false hx rfl, rfl,
      State.keeps_setF (x := ⟨WHEEL_EV_LVL, p, 1⟩) _ ((s.runTo m).dropPinPulses_keeps p _) (.head _), rfl⟩
    rw [exec, execPinPulseEnd, State.endPinPulses_eq]
    exact congrArg _ (if_pos (State.any_pulseEnded (s := s.runTo m) hp he))
  · intro s p m h
    rw [exec, execPinPulseEnd, State.endPinPulses_eq]
    exact congrArg _ (if_neg (by rw [State.runTo_wheel, State.any_pulseEnded_false h]; decide))
  · -- the pulses of a field output end
    intro s p m e hp he hc hf
    have hx : (⟨FIO_OUT, p, 1⟩ : Fld).lo + (⟨FIO_OUT, p, 1⟩ : Fld).width ≤ 32 := by dsimp only; omega
    refine ⟨((s.runTo m).dropFoutPulses p).setB ⟨FIO_OUT, p, 1⟩ false, ?_, State.f_setB_same _ _ false hx rfl, rfl,
      State.keeps_setF (x := ⟨FIO_OUT, p, 1⟩) _ ((s.runTo m).dropFoutPulses_keeps p _) (.head _), rfl⟩
    have hn : ¬ ((s.mode = mCOMMISSION ∧ (!s.flag (FIO_OUTCFG_COMM p)) = true) ∨ s.mode = mFAULT) := by
      rintro (⟨hm, hp⟩ | hm)
      · simp [hc hm] at hp
      · exact hf hm
    rw [exec, execFoutPulseEnd, State.endFoutPulses_eq]
    exact congrArg _ ((if_pos (State.any_pulseEnded (s := s.runTo m) hp he)).trans (if_neg hn))
  · -- they end unseen where the mode keeps the output
    intro s p m e hp he hc
    refine ⟨(s.runTo m).dropFoutPulses p, ?_, fun hin => ?_, rfl⟩
    · have hn : (s.mode = mCOMMISSION ∧ (!s.flag (FIO_OUTCFG_COMM p)) = true) ∨ s.mode = mFAULT := by
        rcases hc with ⟨hm, hp⟩ | hm
        · exact .inl ⟨hm, by simp [hp]⟩
        · exact .inr hm
      rw [exec, execFoutPulseEnd, State.endFoutPulses_eq]
      exact congrArg _ ((if_pos (State.any_pulseEnded (s := s.runTo m) hp he)).trans (if_pos hn))
    · have hk := (List.mem_filter.mp hin).2
      simp [State.pulseEnded, he] at hk
  · intro s p m h
    rw [exec, execFoutPulseEnd, State.endFoutPulses_eq]
    exact congrArg _ (if_neg (by rw [State.runTo_wheel, State.any_pulseEnded_false h]; decide))
  · -- a window runs out
    intro s l m e hw he
    refine ⟨(s.runTo m).closeLatch l, ?_, State.closeLatch_armed _ l, Bank.get_set_same _ _ _, fun k hk => Bank.get_set_ne _ _ hk,
      State.keeps_trans (State.keeps_of_regs (State.runTo_regs s m) _) ((s.runTo m).closeLatch_keeps l), rfl⟩
    rw [exec, execLatchWindowEnd_eq, hw]
    exact congrArg _ (if_pos he)
  · intro s l m h
    rw [exec, execLatchWindowEnd_eq]
    rcases h with h | ⟨e, h, he⟩
    · rw [h]
    · rw [h]
      exact congrArg _ (if_neg (by omega))
  · -- an edge enters the latch FIFO
    intro s l r w m hrun hw he hwin hlen
    refine ⟨(s.runTo m).latchPut l r, (s.runTo m).latchEntry r, ?_, Bank.get_set_same _ _ _, rfl, rfl, rfl,
      fun k hk => Bank.get_set_ne _ _ hk, State.latchPut_level r hlen,
      State.keeps_trans (State.keeps_of_regs (State.runTo_regs s m) _) ((s.runTo m).latchPut_keeps l r), rfl⟩
    rw [exec, execLatchEdge_eq, if_pos ⟨hrun, hw, State.latchTakes_iff.mpr ⟨he, hwin⟩⟩, if_pos hlen]
  · intro s l r w m hrun hw he hwin hlen
    refine ⟨(s.runTo m).latchOverflow l, ?_, State.latchOverflow_ovf _ l, State.f_hit_same _ _ (by decide) rfl,
      State.keeps_trans (State.keeps_of_regs (State.runTo_regs s m) _) ((s.runTo m).latchOverflow_keeps l), rfl⟩
    rw [exec, execLatchEdge_eq, if_pos ⟨hrun, hw, State.latchTakes_iff.mpr ⟨he, hwin⟩⟩, if_neg (by omega)]
  · intro s l r w m h
    rw [exec, execLatchEdge_eq]
    refine congrArg _ (if_neg ?_)
    rintro ⟨hrun, hw, ht⟩
    obtain ⟨he, hwin⟩ := State.latchTakes_iff.mp ht
    rcases h with h | h | h | ⟨h, hr⟩ | ⟨h, hr⟩ | ⟨h, hall⟩
    · simp [h] at hrun
    · omega
    · omega
    · simp [h, hr] at he
    · simp [h, hr] at he
    · rcases hwin with hwin | ⟨e, hwin, hlt⟩
      · simp [h] at hwin
      · have := hall e hwin
        omega
  · -- nothing to read
    intro s l h
    rw [exec, execLatchRead_eq]
    rcases h with h | h | ⟨e, es, h, hat⟩
    · split
      · rfl
      · exact congrArg _ (if_pos (.inl (by simp [h])))
    · rw [h]
    · rw [h]
      exact congrArg _ (if_pos (.inr hat))
  · -- the oldest entry is read
    intro s l e es h hl hat
    refine ⟨s.latchTake l e es, ?_, rfl, Bank.get_set_same _ _ _, fun k hk => Bank.get_set_ne _ _ hk, s.latchTake_pcyc l e es,
      s.latchTake_keeps l e es, rfl⟩
    rw [exec, execLatchRead_eq, hl]
    exact congrArg _ (if_neg (by simp [h, hat]))
  · intro s k h
    simp [exec, execWheelInsert, execWheelCancel, h]
  · -- the host's path: a check fails
    intro s h hc
    refine ⟨(s.bump WHEEL_CNT_REF).insAnswer (s.insertCheck s.insWords) 0, ?_, State.insAnswer_code _ _ _, State.insAnswer_handle _ _ _,
      ?_, ?_, rfl⟩
    · rw [execWheelInsert_open h, State.insert_refused false hc]
    · unfold State.rdN
      rw [State.rd_keeps (State.insAnswer_keeps _ _ _) (by decide)]
      exact State.rdN_bump_same s _
    · exact State.keeps_trans (State.keeps_bump (State.keeps_refl s _) (.head _)) (State.keeps_mono (State.insAnswer_keeps _ _ _) (by simp))
  · -- no token
    intro s h hc ht
    obtain ⟨u, hu, hn, hd, hk, hf⟩ := State.insert_no_token false hc ht
    refine ⟨u.insAnswer admBUDGET 0, ?_, State.insAnswer_code _ _ _, State.insAnswer_handle _ _ _, ?_, hd, ?_,
      State.wheelFrame_trans hf (State.insAnswer_wheelFrame u _ _)⟩
    · rw [execWheelInsert_open h, hu]
    · unfold State.rdN
      rw [State.rd_keeps (State.insAnswer_keeps _ _ _) (by decide)]
      exact hn
    · exact State.keeps_trans (State.keeps_mono hk (by simp)) (State.keeps_mono (State.insAnswer_keeps _ _ _) (by simp))
  · -- stored
    intro s h hc ht
    obtain ⟨u, k, b, hu, hd, hk, hf⟩ := State.insert_stored false hc ht
    refine ⟨u.insAnswer admOK k, k, b, ?_, State.insAnswer_code _ _ _, hd, State.insAnswer_handle _ _ _, ?_,
      State.wheelFrame_trans hf (State.insAnswer_wheelFrame u _ _)⟩
    · rw [execWheelInsert_open h, hu]
    · exact State.keeps_trans (State.keeps_mono hk (by simp)) (State.keeps_mono (State.insAnswer_keeps _ _ _) (by simp))
  · intro s k h
    exact ⟨(s.cancel k).1, (s.cancel k).2, rfl, s.cancel_code k, execWheelCancel_open k h⟩
  · -- a cancel
    intro s u k x h hu hx hd
    subst hu
    refine ⟨(s.syncW.setDescs (s.syncW.wheel.descs.filter (fun y => y.handle != k))).insAnswer admOK 0, ?_, State.insAnswer_code _ _ _, rfl,
      State.keeps_trans (State.keeps_mono (State.setDescs_keeps _ _) (by simp)) (State.keeps_mono (State.insAnswer_keeps _ _ _) (by simp)),
      State.wheelFrame_trans (State.setDescs_wheelFrame _ _) (State.insAnswer_wheelFrame _ _ _)⟩
    rw [execWheelCancel_open k h, State.cancel_standing hx hd]
  · intro s k h hx
    refine ⟨s.syncW.insAnswer admSTRUCTURE 0, ?_, State.insAnswer_code _ _ _, rfl⟩
    rw [execWheelCancel_open k h, State.cancel_absent hx]
  · -- an event core's path
    intro s c d k h
    have hn : ¬ (s.busy c = true ∧ (!(s.sched.cores.get c).halted) = true) := by
      rintro ⟨hb, hh⟩
      rcases h with h | h
      · simp [State.busy, h] at hb
      · simp [h] at hh
    exact ⟨congrArg _ (if_neg hn), congrArg _ (if_neg hn)⟩
  · intro s c d hb hh hc
    refine ⟨(s.bump WHEEL_CNT_REF).setResult c (s.insertCheck d) 0, ?_, State.setResult_result _ c _ _, State.rdN_bump_same s _,
      State.keeps_congr (State.keeps_bump (State.keeps_refl s _) (.head _)) rfl, rfl⟩
    rw [execCoreWheelInsert_busy d hb hh, State.insert_refused true hc]
  · intro s c d hb hh hc ht
    obtain ⟨u, hu, -, hd, hk, hf⟩ := State.insert_no_token true hc ht
    refine ⟨u.setResult c admBUDGET 0, ?_, State.setResult_result u c _ _, hd, hk, ?_⟩
    · rw [execCoreWheelInsert_busy d hb hh, hu]
    · rw [hf]; rfl
  · intro s c d hb hh hc ht
    obtain ⟨u, k, b, hu, hd, hk, hf⟩ := State.insert_stored true hc ht
    refine ⟨u.setResult c admOK k, k, b, ?_, State.setResult_result u c _ _, hd, hk, ?_⟩
    · rw [execCoreWheelInsert_busy d hb hh, hu]
    · rw [hf]; rfl
  · intro s u c k x hb hh hu hx hd
    subst hu
    refine ⟨(s.syncW.setDescs (s.syncW.wheel.descs.filter (fun y => y.handle != k))).setResult c admOK 0, ?_,
      State.setResult_result _ c _ _, rfl, State.setDescs_keeps _ _, rfl⟩
    rw [execCoreWheelCancel_busy k hb hh, State.cancel_standing hx hd]
  · intro s c k hb hh hx
    rw [execCoreWheelCancel_busy k hb hh, State.cancel_absent hx]

end Sys2Proof.Machine

/-! SUPPORT. O20: lost and frozen feedback, as rules on a tile that loses its feedback, on a port, and on the clears. -/

namespace Sys2Proof.Machine

namespace State

-- ===== bits that firmware clears =====

theorem clearBits_keeps (s : State) (a : Nat) (m : Word) : s.keeps (s.clearBits a m) [a] := keeps_wr _ (keeps_refl s _) (.head _)

/-- A write that clears no bit leaves every register as it is. -/
theorem rd_clearBits_zero (s : State) (a r : Nat) : (s.clearBits a 0#32).rd r = s.rd r := by
  unfold clearBits
  rw [rd_wr]
  split
  · next h =>
    rw [h, BitVec.zero_and]
    exact BitVec.and_allOnes
  · rfl

theorem clearBits_zero_keeps (s : State) (a : Nat) (l : List Nat) : s.keeps (s.clearBits a 0#32) l := fun r _ => rd_clearBits_zero s a r

theorem f_clearBits_zero (s : State) (a : Nat) (x : Fld) : (s.clearBits a 0#32).f x = s.f x := by
  unfold f
  rw [rd_clearBits_zero]

-- ===== a tile that loses its feedback =====

theorem TILE_FB_STAT_ne_SPD (x : Nat) : TILE_FB_STAT x ≠ TILE_FB_SPD x 0 ∧ TILE_FB_STAT x ≠ TILE_FB_SPD x 1 := by
  unfold TILE_FB_STAT TILE_FB_SPD
  omega

theorem TILE_FB_POS_ne (x : Nat) : TILE_FB_POS x ∉ [TILE_FB_STAT x, TILE_FB_SPD x 0, TILE_FB_SPD x 1] := by
  unfold TILE_FB_POS TILE_FB_STAT TILE_FB_SPD
  simp

/-- The registers of a tile's feedback are none of a port's. -/
theorem FBP_STAT_notMem_tile (p : Fin 32) (x : Fin 96) : FBP_STAT p ∉ [TILE_FB_STAT x, TILE_FB_SPD x 0, TILE_FB_SPD x 1] := by
  unfold FBP_STAT fbpBase TILE_FB_STAT TILE_FB_SPD tileBase
  simp only [List.mem_cons, List.not_mem_nil, or_false, not_or]
  omega

theorem notMem_tile_of_lt {r : Nat} (h : r < 0x100000) (x : Nat) : r ∉ [TILE_FB_STAT x, TILE_FB_SPD x 0, TILE_FB_SPD x 1] := by
  unfold TILE_FB_STAT TILE_FB_SPD tileBase
  simp only [List.mem_cons, List.not_mem_nil, or_false, not_or]
  omega

theorem FBP_STAT_ne_of_lt {r : Nat} (h : r < 0x100000) (p : Nat) : r ≠ FBP_STAT p := by
  unfold FBP_STAT fbpBase
  omega

/-- VALID falls and the speed is 0; the position is held (R175). -/
def dropValid (s : State) (x : Fin 96) : State := (s.setF (TILE_FB_STAT_VALID x) 0).wr2 (TILE_FB_SPD x) 0

theorem dropValid_keeps (s : State) (x : Fin 96) : s.keeps (s.dropValid x) [TILE_FB_STAT x, TILE_FB_SPD x 0, TILE_FB_SPD x 1] :=
  keeps_wr2 0 (keeps_setF (x := TILE_FB_STAT_VALID x) 0 (keeps_refl s _) (.head _)) (.tail _ (.head _)) (.tail _ (.tail _ (.head _)))

theorem f_dropValid (s : State) (x : Fin 96) {y : Fld} (hy : y.reg = TILE_FB_STAT x) (h : 1 ≤ y.lo) : (s.dropValid x).f y = s.f y := by
  obtain ⟨h0, h1⟩ := TILE_FB_STAT_ne_SPD x
  unfold dropValid
  rw [f_wr2_ne _ _ (by rwa [hy]) (by rwa [hy])]
  exact f_setF_disj _ _ hy (.inl h)

theorem dropValid_valid (s : State) (x : Fin 96) : (s.dropValid x).f (TILE_FB_STAT_VALID x) = 0 := by
  obtain ⟨h0, h1⟩ := TILE_FB_STAT_ne_SPD x
  exact (f_wr2_ne (x := TILE_FB_STAT_VALID x) _ _ h0 h1).trans (f_setF_zero s (TILE_FB_STAT_VALID x) (Nat.le_of_ble_eq_true rfl))

theorem dropValid_spd (s : State) (x : Fin 96) : (s.dropValid x).rd2 (TILE_FB_SPD x) = 0 :=
  rd2_wr2_same _ _ 0 (by unfold TILE_FB_SPD; omega)

/-- LOST of a tile is set with its cause; a SETPOS reference is forgotten (R173, R175). -/
def setLost (s : State) (x : Fin 96) (cause : Nat) : State :=
  ((s.modTile x (fun t => { t with setRef := false })).hit (TILE_FB_STAT_LOST x)).setF (TILE_FB_STAT_LOST_CAUSE x) cause

theorem setLost_keeps (s : State) (x : Fin 96) (c : Nat) : s.keeps (s.setLost x c) [TILE_FB_STAT x] :=
  keeps_setF (x := TILE_FB_STAT_LOST_CAUSE x) c
    (keeps_hit (t := s.modTile x (fun t => { t with setRef := false })) (x := TILE_FB_STAT_LOST x) (keeps_of_regs rfl _) (.head _)) (.head _)

theorem setLost_lost (s : State) (x : Fin 96) (c : Nat) : (s.setLost x c).f (TILE_FB_STAT_LOST x) = 1 := by
  unfold setLost
  rw [f_setF_disj (x := TILE_FB_STAT_LOST_CAUSE x) (y := TILE_FB_STAT_LOST x) _ _ rfl (by decide +revert)]
  exact f_hit_same _ _ (Nat.le_of_ble_eq_true rfl) rfl

theorem setLost_cause (s : State) (x : Fin 96) {c : Nat} (h : c < 16) : (s.setLost x c).f (TILE_FB_STAT_LOST_CAUSE x) = c :=
  (f_setF_same _ (TILE_FB_STAT_LOST_CAUSE x) c (Nat.le_of_ble_eq_true rfl)).trans (Nat.mod_eq_of_lt h)

/-- The message that a tile's feedback is lost (R175). -/
def lostMsg (s : State) (x : Fin 96) (cause : Nat) : FaultMsg :=
  mkFault x 0x1B cMAJOR (lossLevel (s.f (TILE_FB_SRC_LOST_LVL x))) [.inst x, .code cause] (s.scopeOfAxis x) true

theorem tileLost_eq {s : State} {x : Fin 96} (c : Nat) (h : s.flag (TILE_FB_STAT_LOST x) = false) :
    s.tileLost x c = ((s.setLost x c).dropValid x).raise (s.lostMsg x c) := by
  unfold tileLost
  rw [if_neg (by simp [h])]
  rfl

end State

end Sys2Proof.Machine

/-! SUPPORT. O20: a tile and a port that lose their feedback, frozen feedback, and the clears. -/

namespace Sys2Proof.Machine

namespace State

/-- The tile with its feedback lost: LOST with its cause, VALID low, the speed 0 (R173, R175). -/
def loseTile (s : State) (x : Fin 96) (c : Nat) : State := (s.setLost x c).dropValid x

theorem loseTile_keeps (s : State) (x : Fin 96) (c : Nat) : s.keeps (s.loseTile x c) [TILE_FB_STAT x, TILE_FB_SPD x 0, TILE_FB_SPD x 1] :=
  keeps_trans (keeps_mono (setLost_keeps s x c) (by simp)) (dropValid_keeps _ x)

theorem loseTile_lost (s : State) (x : Fin 96) (c : Nat) : (s.loseTile x c).f (TILE_FB_STAT_LOST x) = 1 :=
  (f_dropValid _ x rfl (Nat.le_of_ble_eq_true rfl)).trans (setLost_lost s x c)

theorem loseTile_cause (s : State) (x : Fin 96) {c : Nat} (h : c < 16) : (s.loseTile x c).f (TILE_FB_STAT_LOST_CAUSE x) = c :=
  (f_dropValid _ x rfl (Nat.le_of_ble_eq_true rfl)).trans (setLost_cause s x h)

theorem loseTile_valid (s : State) (x : Fin 96) (c : Nat) : (s.loseTile x c).f (TILE_FB_STAT_VALID x) = 0 := dropValid_valid _ x

theorem loseTile_spd (s : State) (x : Fin 96) (c : Nat) : (s.loseTile x c).rd2 (TILE_FB_SPD x) = 0 := dropValid_spd _ x

theorem loseTile_pos (s : State) (x : Fin 96) (c : Nat) : (s.loseTile x c).rd (TILE_FB_POS x) = s.rd (TILE_FB_POS x) :=
  rd_keeps (loseTile_keeps s x c) (TILE_FB_POS_ne x)

/-- Nothing but the tiles, the registers and the bits that hardware has set in this SYS cycle differs. -/
def tileFrame (s t : State) : Prop := t = { s with time := { s.time with hits := t.time.hits }, tiles := t.tiles, regs := t.regs }

theorem tileFrame_trans {s t u : State} (h : s.tileFrame t) (h' : t.tileFrame u) : s.tileFrame u := by
  unfold tileFrame at *
  exact h'.trans (by rw [h])

theorem hit_tileFrame (s : State) (x : Fld) : s.tileFrame (s.hit x) := rfl

theorem setLost_tileFrame (s : State) (x : Fin 96) (c : Nat) : s.tileFrame (s.setLost x c) :=
  tileFrame_trans (t := (s.modTile x (fun t => { t with setRef := false })).hit (TILE_FB_STAT_LOST x)) rfl rfl

theorem dropValid_tileFrame (s : State) (x : Fin 96) : s.tileFrame (s.dropValid x) := rfl

theorem loseTile_tileFrame (s : State) (x : Fin 96) (c : Nat) : s.tileFrame (s.loseTile x c) :=
  tileFrame_trans (setLost_tileFrame s x c) (dropValid_tileFrame _ x)

/-- A frame of the tiles that a fault message leaves: the fault path differs too. -/
theorem raise_tileFrame {s t : State} (h : s.tileFrame t) (m : FaultMsg) : t.raise m =
    { s with time := { s.time with hits := (t.raise m).time.hits }, tiles := (t.raise m).tiles, flt := (t.raise m).flt, regs := (t.raise m).regs } := by
  unfold tileFrame at h
  rw [h]
  rfl

theorem tileFrame_path {s t : State} (h : s.tileFrame t) : t.flt.path = s.flt.path := by
  rw [h]

theorem tileFrame_mono {s t : State} (h : s.tileFrame t) : t.time.mono = s.time.mono := by
  rw [h]

/-- A tile that is not lost yet is lost, with one message (R175). -/
theorem tileLost_of_not_lost {s : State} {x : Fin 96} (c : Nat) (h : s.flag (TILE_FB_STAT_LOST x) = false) :
    s.tileLost x c = (s.loseTile x c).raise (s.lostMsg x c) := tileLost_eq c h

theorem tileLost_of_lost {s : State} {x : Fin 96} (c : Nat) (h : s.flag (TILE_FB_STAT_LOST x) = true) : s.tileLost x c = s := if_pos h

theorem raisedOne_raise (s : State) (t : State) (m : FaultMsg) (hp : t.flt.path = s.flt.path) (ht : t.time.mono = s.time.mono) :
    s.raisedOne (t.raise m) m.source m.kind m.cls :=
  ⟨{ m with at_ := t.time.mono }, by rw [raise_flt, hp], rfl, rfl, rfl, ht⟩

-- ===== the causes of a port =====

/-- Invalid Hall lines have stood for a millisecond (R160, R173). -/
theorem portCause_hall_some {s : State} {p : Fin 32} {k : Nat} (h : (s.fbps.get p).hallSince = some k) :
    s.portCause p 4 = decide (k + s.msCycles 1 ≤ s.time.mono) := by
  simp [portCause, h]

theorem portCause_hall_none {s : State} {p : Fin 32} (h : (s.fbps.get p).hallSince = none) : s.portCause p 4 = false := by
  simp [portCause, h]

theorem runTo_msCycles (s : State) (m n : Nat) : (s.runTo m).msCycles n = s.msCycles n := rfl

-- ===== a port that loses its feedback =====

/-- LOST of a port is set. -/
def losePort (s : State) (p : Fin 32) : State := s.hit (FBP_STAT_LOST p)

theorem losePort_lost (s : State) (p : Fin 32) : (s.losePort p).f (FBP_STAT_LOST p) = 1 :=
  f_hit_same s (FBP_STAT_LOST p) (Nat.le_of_ble_eq_true rfl) rfl

theorem losePort_keeps (s : State) (p : Fin 32) : s.keeps (s.losePort p) [FBP_STAT p] :=
  keeps_hit (x := FBP_STAT_LOST p) (keeps_refl s _) (.head _)

theorem FBP_STAT_notMem_of_lt {r : Nat} (h : r < 0x100000) (p : Nat) : r ∉ [FBP_STAT p] := by
  simpa using FBP_STAT_ne_of_lt h p

/-- A tile's feedback registers are none of a port's. -/
theorem tile_notMem_FBP_STAT (p : Fin 32) (x : Fin 96) : TILE_FB_STAT x ∉ [FBP_STAT p] ∧ TILE_FB_POS x ∉ [FBP_STAT p] := by
  unfold FBP_STAT fbpBase TILE_FB_STAT TILE_FB_POS tileBase
  simp only [List.mem_singleton]
  omega

theorem losePort_mst (s : State) (p : Fin 32) : (s.losePort p).mst = s.mst :=
  mst_keeps (losePort_keeps s p) (FBP_STAT_notMem_of_lt (by decide) p)

theorem losePort_masterPort (s : State) (p : Fin 32) : (s.losePort p).masterPort = s.masterPort :=
  f_keeps (x := WHEEL_MST_CTL_FBPORT) (losePort_keeps s p) (FBP_STAT_notMem_of_lt (by decide) p)

/-- The master that a port carries is lost: M stops and is held (R115). -/
def holdMaster (s : State) : State := { s.toMst msHOLD with wheel := { (s.toMst msHOLD).wheel with held := true, spd := 0 } }

theorem holdMaster_mst (s : State) : s.holdMaster.mst = msHOLD := toMst_mst s (by decide)

theorem holdMaster_keeps (s : State) : s.keeps s.holdMaster [WHEEL_STAT] := keeps_congr (toMst_keeps s msHOLD) rfl

/-- The master's hold keeps the registers beside WHEEL_STAT: those of ports and of tiles. -/
theorem FBP_STAT_notMem_wheel (p : Nat) : FBP_STAT p ∉ [WHEEL_STAT] := by
  simpa using (FBP_STAT_ne_of_lt (r := WHEEL_STAT) (by decide) p).symm

theorem tile_notMem_wheel {r x : Nat} (hr : r ∈ [TILE_FB_STAT x, TILE_FB_SPD x 0, TILE_FB_SPD x 1]) : r ∉ [WHEEL_STAT] := fun h =>
  notMem_tile_of_lt (r := r) (by rw [List.mem_singleton.mp h]; decide) x hr

theorem rd2_keeps {s t : State} {l : List Nat} (h : s.keeps t l) {w : Nat → Nat} (h0 : w 0 ∉ l) (h1 : w 1 ∉ l) : t.rd2 w = s.rd2 w := by
  unfold rd2 rdN
  rw [rd_keeps h h0, rd_keeps h h1]

theorem holdMaster_frame (s : State) : s.holdMaster = { s with wheel := s.holdMaster.wheel, regs := s.holdMaster.regs } := rfl

theorem masterLost_eq {s : State} {p : Nat} (hm : s.mst = msREAL) (hp : s.masterPort = p) :
    s.masterLost p = s.holdMaster.raise (mkFault srcWHEEL 0x10 cMAJOR 1 [.inst p]) := if_pos ⟨hm, hp⟩

theorem masterLost_other {s : State} {p : Nat} (h : s.mst ≠ msREAL ∨ s.masterPort ≠ p) : s.masterLost p = s :=
  if_neg (fun ⟨hm, hp⟩ => h.elim (· hm) (· hp))

theorem portLost_tile {u : State} {p : Fin 32} {x : Fin 96} (c : Nat) (ht : u.tileOfPort p = some x)
    (hm : u.mst ≠ msREAL ∨ u.masterPort ≠ p) : u.portLost p c = (u.losePort p).tileLost x c := by
  have hs : (u.losePort p).masterLost p = u.losePort p := masterLost_other (by rwa [losePort_mst, losePort_masterPort])
  unfold portLost
  rw [ht]
  exact congrArg (fun v => tileLost v x c) hs

theorem portLost_no_tile {u : State} {p : Fin 32} (c : Nat) (ht : u.tileOfPort p = none) :
    u.portLost p c = (u.losePort p).masterLost p := by
  unfold portLost
  rw [ht]
  rfl

-- ===== frozen feedback =====

/-- FROZEN of a tile is set, VALID falls and the speed is 0 (R174, R175). -/
def freezeTile (s : State) (x : Fin 96) : State := (s.hit (TILE_FB_STAT_FROZEN x)).dropValid x

theorem freezeTile_keeps (s : State) (x : Fin 96) : s.keeps (s.freezeTile x) [TILE_FB_STAT x, TILE_FB_SPD x 0, TILE_FB_SPD x 1] :=
  keeps_trans (keeps_hit (x := TILE_FB_STAT_FROZEN x) (keeps_refl s _) (.head _)) (dropValid_keeps _ x)

theorem freezeTile_frozen (s : State) (x : Fin 96) : (s.freezeTile x).f (TILE_FB_STAT_FROZEN x) = 1 :=
  (f_dropValid _ x rfl (Nat.le_of_ble_eq_true rfl)).trans (f_hit_same s (TILE_FB_STAT_FROZEN x) (Nat.le_of_ble_eq_true rfl) rfl)

theorem freezeTile_tileFrame (s : State) (x : Fin 96) : s.tileFrame (s.freezeTile x) :=
  tileFrame_trans (hit_tileFrame s _) (dropValid_tileFrame _ x)

/-- Frozen feedback and its message change nothing but the registers, the bits that hardware has set and the fault path. -/
theorem freezeTile_raise_frame (s : State) (x : Fin 96) (m : FaultMsg) : (s.freezeTile x).raise m =
    { s with time := { s.time with hits := ((s.freezeTile x).raise m).time.hits }, flt := ((s.freezeTile x).raise m).flt,
             regs := ((s.freezeTile x).raise m).regs } := by
  have ht : ((s.freezeTile x).raise m).tiles = s.tiles := rfl
  exact (raise_tileFrame (freezeTile_tileFrame s x) m).trans (by rw [ht])

/-- The message that a tile's feedback is frozen (R175). -/
def frozenMsg (s : State) (x : Fin 96) : FaultMsg :=
  mkFault x 0x1C cMAJOR (lossLevel (s.f (TILE_FB_SRC_FRZ_LVL x))) [.inst x] (s.scopeOfAxis x) true

/-- The conditions of FB_FROZEN (R174). -/
def freezes (s : State) (x : Fin 96) : Prop :=
  s.atTick = true ∧ s.frozenNow x = true ∧ s.flag (TILE_FB_STAT_LOST x) = false ∧ s.flag (TILE_FB_STAT_FROZEN x) = false ∧ s.f (TILE_FB_SRC_SRC x) ≠ 0

theorem execFbFrozen_freezes {s : State} {x : Fin 96} (h : s.freezes x) : exec (.fbFrozen x) s = .next
    (if s.f (TILE_FB_SRC_SRC x) = 1 then ((s.freezeTile x).raise (s.frozenMsg x)).masterLost (s.f (TILE_FB_SRC_PORT x))
     else (s.freezeTile x).raise (s.frozenMsg x)) := by
  obtain ⟨ht, hf, hl, hz, hs⟩ := h
  rw [exec, execFbFrozen, if_pos ⟨ht, hf, by simp [hl], by simp [hz], hs⟩]
  rfl

theorem freezeTile_mst (s : State) (x : Fin 96) (m : FaultMsg) : ((s.freezeTile x).raise m).mst = s.mst :=
  mst_keeps (keeps_raise m (freezeTile_keeps s x)) (notMem_tile_of_lt (by decide) x)

theorem freezeTile_masterPort (s : State) (x : Fin 96) (m : FaultMsg) : ((s.freezeTile x).raise m).masterPort = s.masterPort :=
  f_keeps (x := WHEEL_MST_CTL_FBPORT) (keeps_raise m (freezeTile_keeps s x)) (notMem_tile_of_lt (by decide) x)

-- ===== clears =====

/-- Nothing but the ports, the fault logic and the registers differs. -/
def portFrame (s t : State) : Prop := t = { s with fbps := t.fbps, flt := t.flt, regs := t.regs }

theorem portFrame_trans {s t u : State} (h : s.portFrame t) (h' : t.portFrame u) : s.portFrame u := by
  unfold portFrame at *
  exact h'.trans (by rw [h])

theorem setF_portFrame (s : State) (x : Fld) (v : Nat) : s.portFrame (s.setF x v) := rfl

theorem endCause_portFrame (s : State) (a k : Nat) : s.portFrame (s.endCause a k) := rfl

theorem clearBits_portFrame (s : State) (a : Nat) (m : Word) : s.portFrame (s.clearBits a m) := rfl

theorem portFrame_of_fbps {s t : State} (h : s.portFrame t) (hf : t.fbps = s.fbps) : t = { s with flt := t.flt, regs := t.regs } := by
  unfold portFrame at h
  exact h.trans (by rw [hf])

/-- LOST of a tile and its cause are cleared (R177). -/
def lostOff (s : State) (x : Fin 96) : State := (s.setF (TILE_FB_STAT_LOST x) 0).setF (TILE_FB_STAT_LOST_CAUSE x) 0

theorem lostOff_keeps (s : State) (x : Fin 96) : s.keeps (s.lostOff x) [TILE_FB_STAT x] :=
  keeps_setF (x := TILE_FB_STAT_LOST_CAUSE x) 0 (keeps_setF (x := TILE_FB_STAT_LOST x) 0 (keeps_refl s _) (.head _)) (.head _)

theorem lostOff_lost (s : State) (x : Fin 96) : (s.lostOff x).f (TILE_FB_STAT_LOST x) = 0 :=
  (f_setF_disj (x := TILE_FB_STAT_LOST_CAUSE x) (y := TILE_FB_STAT_LOST x) _ _ rfl (.inr (Nat.le_of_ble_eq_true rfl))).trans
    (f_setF_zero s (TILE_FB_STAT_LOST x) (Nat.le_of_ble_eq_true rfl))

theorem lostOff_cause (s : State) (x : Fin 96) : (s.lostOff x).f (TILE_FB_STAT_LOST_CAUSE x) = 0 :=
  f_setF_zero _ (TILE_FB_STAT_LOST_CAUSE x) (Nat.le_of_ble_eq_true rfl)

theorem TILE_FB_SRC_notMem_STAT (x : Nat) : TILE_FB_SRC x ∉ [TILE_FB_STAT x] := by
  unfold TILE_FB_SRC TILE_FB_STAT
  simp

/-- The clear of a tile's loss: LOST and its cause are 0, and the entry's cause has ended (R177). -/
def lossEnded (s : State) (x : Fin 96) : State := (s.lostOff x).endCause x 0x1B

theorem lossEnded_keeps (s : State) (x : Fin 96) : s.keeps (s.lossEnded x) [TILE_FB_STAT x] :=
  keeps_congr (lostOff_keeps s x) (endCause_regs _ _ _)

theorem lossEnded_lost (s : State) (x : Fin 96) : (s.lossEnded x).f (TILE_FB_STAT_LOST x) = 0 := (endCause_f _ _ _ _).trans (lostOff_lost s x)

theorem lossEnded_cause (s : State) (x : Fin 96) : (s.lossEnded x).f (TILE_FB_STAT_LOST_CAUSE x) = 0 := (endCause_f _ _ _ _).trans (lostOff_cause s x)

theorem lossEnded_fbps (s : State) (x : Fin 96) : (s.lossEnded x).fbps = s.fbps := rfl

theorem lossEnded_portFrame (s : State) (x : Fin 96) : s.portFrame (s.lossEnded x) :=
  portFrame_trans (t := s.lostOff x) (portFrame_trans (t := s.setF (TILE_FB_STAT_LOST x) 0) (setF_portFrame s _ _) (setF_portFrame _ _ _))
    (endCause_portFrame _ _ _)

/-- The clear of LOST leaves the tile's feedback source. -/
theorem lossEnded_src (s : State) (x : Fin 96) : (s.lossEnded x).f (TILE_FB_SRC_SRC x) = s.f (TILE_FB_SRC_SRC x) :=
  f_keeps (x := TILE_FB_SRC_SRC x) (lossEnded_keeps s x) (TILE_FB_SRC_notMem_STAT x)

theorem lossEnded_port (s : State) (x : Fin 96) : (s.lossEnded x).f (TILE_FB_SRC_PORT x) = s.f (TILE_FB_SRC_PORT x) :=
  f_keeps (x := TILE_FB_SRC_PORT x) (lossEnded_keeps s x) (TILE_FB_SRC_notMem_STAT x)

/-- A write of LOST alone clears no other bit of the word. -/
theorem clearTile_lost (s : State) (x : Fin 96) : s.clearTile x 0x20#32 = (s.clearLost x).clearBits (TILE_FB_STAT x) 0#32 := rfl

/-- A write of FROZEN alone clears no other bit of the word. -/
theorem clearTile_frozen (s : State) (x : Fin 96) : s.clearTile x 0x40#32 = (s.clearFrozen x).clearBits (TILE_FB_STAT x) 0#32 := rfl

theorem clearLost_pos {s : State} {x : Fin 96} (h : s.flag (TILE_FB_STAT_LOST x) = true) (hh : s.hitNow (TILE_FB_STAT_LOST x) = false)
    (hc : s.tileCause x = false) : s.clearLost x = (s.lossEnded x).sourceBack x :=
  if_pos ⟨h, by simp [hh], by simp [hc]⟩

theorem clearLost_neg {s : State} {x : Fin 96} (h : s.tileCause x = true ∨ s.hitNow (TILE_FB_STAT_LOST x) = true ∨
    s.flag (TILE_FB_STAT_LOST x) = false) : s.clearLost x = s := by
  refine if_neg ?_
  rintro ⟨hl, hh, hc⟩
  simp only [Bool.not_eq_true'] at hh hc
  simp [hl, hh, hc] at h

/-- A port without its loss and its reference (R177). -/
def portOff (s : State) (p : Fin 32) : State := (s.setF (FBP_STAT_LOST p) 0).setF (FBP_STAT_REFERENCED p) 0

theorem portOff_keeps (s : State) (p : Fin 32) : s.keeps (s.portOff p) [FBP_STAT p] :=
  keeps_setF (x := FBP_STAT_REFERENCED p) 0 (keeps_setF (x := FBP_STAT_LOST p) 0 (keeps_refl s _) (.head _)) (.head _)

theorem portOff_lost (s : State) (p : Fin 32) : (s.portOff p).f (FBP_STAT_LOST p) = 0 :=
  (f_setF_disj (x := FBP_STAT_REFERENCED p) (y := FBP_STAT_LOST p) _ _ rfl (.inl (Nat.le_of_ble_eq_true rfl))).trans
    (f_setF_zero s (FBP_STAT_LOST p) (Nat.le_of_ble_eq_true rfl))

theorem portOff_referenced (s : State) (p : Fin 32) : (s.portOff p).f (FBP_STAT_REFERENCED p) = 0 :=
  f_setF_zero _ (FBP_STAT_REFERENCED p) (Nat.le_of_ble_eq_true rfl)

theorem portOff_frame (s : State) (p : Fin 32) : s.portOff p = { s with regs := (s.portOff p).regs } := rfl

/-- A port that comes back is without its loss and its reference, one of mode SSI waits to be referenced again (R177). -/
theorem portBack_cases (s : State) (p : Fin 32) :
    s.portBack p = s.portOff p ∨ s.portBack p = (s.portOff p).modFbp p (fun x => { x with rerefer := true }) :=
  (em (s.portMode p = 5)).elim (fun h => .inr (if_pos h)) (fun h => .inl (if_neg h))

theorem portBack_regs (s : State) (p : Fin 32) : (s.portBack p).regs = (s.portOff p).regs := by
  rcases portBack_cases s p with h | h
  · rw [h]
  · rw [h, modFbp_regs]

theorem portBack_keeps (s : State) (p : Fin 32) : s.keeps (s.portBack p) [FBP_STAT p] :=
  keeps_congr (portOff_keeps s p) (portBack_regs s p)

theorem portBack_f (s : State) (p : Fin 32) (y : Fld) : (s.portBack p).f y = (s.portOff p).f y :=
  f_keeps (keeps_of_regs (portBack_regs s p) []) List.not_mem_nil

theorem portBack_lost (s : State) (p : Fin 32) : (s.portBack p).f (FBP_STAT_LOST p) = 0 := (portBack_f s p _).trans (portOff_lost s p)

theorem portBack_referenced (s : State) (p : Fin 32) : (s.portBack p).f (FBP_STAT_REFERENCED p) = 0 :=
  (portBack_f s p _).trans (portOff_referenced s p)

theorem portBack_frame (s : State) (p : Fin 32) : s.portBack p = { s with fbps := (s.portBack p).fbps, regs := (s.portBack p).regs } := by
  rcases portBack_cases s p with h | h <;> rw [h, portOff_frame]
  rfl

theorem portBack_portFrame (s : State) (p : Fin 32) : s.portFrame (s.portBack p) := by
  have h := portBack_frame s p
  have hf : (s.portBack p).flt = s.flt := by rw [h]
  exact h.trans (by rw [hf])

theorem portBack_rerefer {s : State} {p : Fin 32} (h : s.portMode p = 5) : ((s.portBack p).fbps.get p).rerefer = true := by
  have hb : s.portBack p = (s.portOff p).modFbp p (fun x => { x with rerefer := true }) := if_pos h
  rw [hb, modFbp_fbps, Bank.get_modify_same]

theorem sourceBack_port {s : State} {x : Fin 96} {p : Fin 32} (hs : s.f (TILE_FB_SRC_SRC x) = 1) (hp : s.f (TILE_FB_SRC_PORT x) = p) :
    s.sourceBack x = s.portBack p := by
  unfold sourceBack
  rw [dif_pos ⟨hs, hp ▸ p.isLt⟩]
  exact congrArg _ (Fin.ext hp)

theorem sourceBack_other {s : State} {x : Fin 96} (hs : s.f (TILE_FB_SRC_SRC x) ≠ 1) : s.sourceBack x = s := dif_neg (fun h => hs h.1)

/-- A write of the port's LOST alone clears no other bit of the word. -/
theorem clearPort_lost {s : State} {p : Fin 32} (h : s.flag (FBP_STAT_LOST p) = true) (hh : s.hitNow (FBP_STAT_LOST p) = false)
    (hb : s.portBad p = false) : s.clearPort p 0x40#32 = (s.clearBits (FBP_STAT p) 0#32).portBack p :=
  if_pos ⟨rfl, h, by simp [hh], by simp [hb]⟩

theorem clearPort_kept {s : State} {p : Fin 32} (h : s.flag (FBP_STAT_LOST p) = false ∨ s.hitNow (FBP_STAT_LOST p) = true ∨ s.portBad p = true) :
    s.clearPort p 0x40#32 = s.clearBits (FBP_STAT p) 0#32 := by
  refine if_neg ?_
  rintro ⟨-, hl, hh, hb⟩
  simp only [Bool.not_eq_true'] at hh hb
  simp [hl, hh, hb] at h

end State

end Sys2Proof.Machine

namespace Sys2Proof.Machine

/-- Settles O20: each cause at its port, what a lost port does to its tile and to a real master, frozen and aged feedback, and the
clears, each by its cases. -/
theorem feedbackLoss : Obligations.FeedbackLoss := by
  unfold Obligations.FeedbackLoss
  refine ⟨?_, ?_, ?_, ?_, ?_, ?_, ?_, ?_, ?_, ?_, ?_, ?_, ?_, ?_, ?_, ?_, ?_, ?_, ?_, ?_, ?_, ?_, ?_, ?_, ?_⟩
  · -- a burst of illegal transitions
    intro s p ht hl hi
    rw [exec, execIllegalBurst]
    exact congrArg _ (if_pos ⟨ht, by simpa [State.portCause] using hi, by simp [hl]⟩)
  · intro s p h
    rw [exec, execIllegalBurst]
    refine congrArg _ (if_neg ?_)
    rintro ⟨ht, hc, hl⟩
    simp [State.portCause] at hc hl
    simp [ht, hl] at h
    omega
  · -- bad frames of an SSI port
    intro s p ht hl hm h0
    rw [exec, execSsiLost]
    exact congrArg _ (if_pos ⟨ht, by simp [State.portCause, hm, h0], by simp [hl]⟩)
  · intro s p h
    rw [exec, execSsiLost]
    refine congrArg _ (if_neg ?_)
    rintro ⟨ht, hc, hl⟩
    simp [State.portCause] at hc hl
    simp [ht, hl] at h
    omega
  · -- Hall lines that stay invalid
    intro s p k m ht hl hk hd
    rw [exec, execHallInvalid]
    exact congrArg _ (if_pos ⟨ht, (State.portCause_hall_some (s := s.runTo m) hk).trans (decide_eq_true hd), by simp [hl]⟩)
  · intro s p m h
    rw [exec, execHallInvalid]
    refine congrArg _ (if_neg ?_)
    rintro ⟨ht, hc, hl⟩
    simp only [Bool.not_eq_true', State.runTo_flag] at hl
    rcases h with h | h | h
    · simp [h] at ht
    · simp [h] at hl
    · cases hk : (s.fbps.get p).hallSince with
      | none => simp [State.portCause_hall_none (s := s.runTo m) hk] at hc
      | some k =>
        rw [State.portCause_hall_some (s := s.runTo m) hk, State.runTo_msCycles] at hc
        exact absurd (h k hk) (Nat.not_lt.mpr (of_decide_eq_true hc))
  · -- a broken wire
    intro s p low k m hk
    rw [exec, execWireBreak]
    exact congrArg _ (if_pos hk)
  · intro s p low k m hk h
    refine ⟨(s.runTo m).setB (FBP_STAT_WB p) low, ?_, State.flag_setB_same _ (FBP_STAT_WB p) low (Nat.le_of_ble_eq_true rfl) rfl,
      State.keeps_setF (t := s.runTo m) (x := FBP_STAT_WB p) _ (State.keeps_of_regs rfl _) (.head _), rfl⟩
    rw [exec, execWireBreak]
    refine congrArg _ ((if_neg (Nat.not_lt.mpr hk)).trans (if_neg ?_))
    rintro ⟨hw, he, hl⟩
    simp only [Bool.not_eq_true', State.runTo_flag] at he hl
    simp [hw, he, hl] at h
  · intro s p k m hk he hl
    refine ⟨(s.runTo m).setB (FBP_STAT_WB p) true, ?_, State.f_setB_same _ (FBP_STAT_WB p) true (Nat.le_of_ble_eq_true rfl) rfl,
      State.keeps_setF (t := s.runTo m) (x := FBP_STAT_WB p) _ (State.keeps_of_regs rfl _) (.head _), rfl⟩
    rw [exec, execWireBreak]
    exact congrArg _ ((if_neg (Nat.not_lt.mpr hk)).trans (if_pos ⟨rfl, he, by simp [hl]⟩))
  · -- a lost port of an axis
    intro u p x c ht hl hm hc
    have hf : (u.losePort p).flag (TILE_FB_STAT_LOST x) = false :=
      (State.flag_keeps (u.losePort_keeps p) (x := TILE_FB_STAT_LOST x) (State.tile_notMem_FBP_STAT p x).1).trans hl
    have hk : u.keeps ((u.losePort p).loseTile x c) [FBP_STAT p, TILE_FB_STAT x, TILE_FB_SPD x 0, TILE_FB_SPD x 1] :=
      State.keeps_trans (State.keeps_mono (u.losePort_keeps p) (by simp)) (State.keeps_mono (State.loseTile_keeps _ x c) (by simp))
    have hF : u.tileFrame ((u.losePort p).loseTile x c) := State.tileFrame_trans (u.hit_tileFrame _) (State.loseTile_tileFrame _ x c)
    refine ⟨((u.losePort p).loseTile x c).raise ((u.losePort p).lostMsg x c), ?_, ?_, ?_, ?_, ?_, ?_, ?_, ?_, State.keeps_raise _ hk,
      State.raise_tileFrame hF _⟩
    · rw [State.portLost_tile c ht hm, State.tileLost_of_not_lost c hf]
    · exact (State.raise_f _ _ _).trans
        ((State.f_keeps (x := FBP_STAT_LOST p) (State.loseTile_keeps _ x c) (State.FBP_STAT_notMem_tile p x)).trans (u.losePort_lost p))
    · exact (State.raise_f _ _ _).trans (State.loseTile_lost _ x c)
    · exact (State.raise_f _ _ _).trans (State.loseTile_cause _ x (by omega))
    · exact (State.raise_f _ _ _).trans (State.loseTile_valid _ x c)
    · exact (State.raise_rd2 _ _ _).trans (State.loseTile_spd _ x c)
    · exact (State.raise_rd _ _ _).trans
        ((State.loseTile_pos _ x c).trans (State.rd_keeps (u.losePort_keeps p) (State.tile_notMem_FBP_STAT p x).2))
    · exact State.raisedOne_raise _ _ _ (State.tileFrame_path hF) (State.tileFrame_mono hF)
  · -- a lost port of no axis
    intro u p c ht hm
    refine ⟨u.losePort p, ?_, u.losePort_lost p, u.losePort_keeps p, rfl⟩
    rw [State.portLost_no_tile c ht]
    exact State.masterLost_other (by rwa [State.losePort_mst, State.losePort_masterPort])
  · -- a lost port of the real master
    intro u p c ht hm hp
    refine ⟨(u.losePort p).holdMaster.raise (mkFault srcWHEEL 0x10 cMAJOR 1 [.inst p]), ?_, ?_, ?_, rfl, ?_, ?_, ?_⟩
    · rw [State.portLost_no_tile c ht]
      exact State.masterLost_eq (by rw [State.losePort_mst, hm]) (by rw [State.losePort_masterPort, hp])
    · exact (State.raise_f _ _ _).trans ((State.f_keeps (x := FBP_STAT_LOST p) (State.holdMaster_keeps _) (State.FBP_STAT_notMem_wheel p)).trans (u.losePort_lost p))
    · exact (State.raise_f _ _ _).trans (State.holdMaster_mst _)
    · exact State.raisedOne_raise _ _ _ rfl rfl
    · exact State.keeps_raise _ (State.keeps_trans (State.keeps_mono (u.losePort_keeps p) (by simp))
        (State.keeps_mono (State.holdMaster_keeps _) (by simp)))
    · rw [State.holdMaster_frame]
      rfl
  · -- an aged remote record
    intro s x ht hs ha hl
    refine ⟨(s.loseTile x 6).raise (s.lostMsg x 6), ?_, (State.raise_f _ _ _).trans (s.loseTile_lost x 6),
      (State.raise_f _ _ _).trans (s.loseTile_cause x (by decide)), (State.raise_f _ _ _).trans (s.loseTile_valid x 6),
      (State.raise_rd2 _ _ _).trans (s.loseTile_spd x 6),
      State.raisedOne_raise _ _ _ (State.tileFrame_path (s.loseTile_tileFrame x 6)) (State.tileFrame_mono (s.loseTile_tileFrame x 6)),
      State.keeps_raise _ (s.loseTile_keeps x 6), State.raise_tileFrame (s.loseTile_tileFrame x 6) _⟩
    rw [exec, execRemoteAged, if_pos ⟨ht, hs, ha⟩, State.tileLost_of_not_lost 6 hl]
  · intro s x h
    rw [exec, execRemoteAged]
    by_cases hl : s.flag (TILE_FB_STAT_LOST x) = true
    · rw [State.tileLost_of_lost 6 hl, ite_self]
    · refine congrArg _ (if_neg ?_)
      rintro ⟨ht, hs, ha⟩
      simp [ht, hs, hl] at h
      omega
  · -- frozen feedback of an axis that no real master follows
    intro s x ht hn hl hz h0 hm
    refine ⟨(s.freezeTile x).raise (s.frozenMsg x), ?_, (State.raise_f _ _ _).trans (s.freezeTile_frozen x),
      (State.raise_f _ _ _).trans (State.dropValid_valid _ x), (State.raise_rd2 _ _ _).trans (State.dropValid_spd _ x),
      (State.raise_rd _ _ _).trans (State.rd_keeps (s.freezeTile_keeps x) (State.TILE_FB_POS_ne x)),
      State.raisedOne_raise _ _ _ (State.tileFrame_path (s.freezeTile_tileFrame x)) (State.tileFrame_mono (s.freezeTile_tileFrame x)),
      State.keeps_raise _ (s.freezeTile_keeps x), s.freezeTile_raise_frame x _⟩
    rw [State.execFbFrozen_freezes ⟨ht, hn, hl, hz, h0⟩]
    refine congrArg _ ?_
    split
    · next h1 =>
      exact State.masterLost_other
        (by rw [State.freezeTile_mst, State.freezeTile_masterPort]; exact hm.resolve_left (fun h => h h1))
    · rfl
  · -- frozen feedback of the real master
    intro s x ht hn hl hz h1 hm hp
    have hk := State.holdMaster_keeps ((s.freezeTile x).raise (s.frozenMsg x))
    refine ⟨((s.freezeTile x).raise (s.frozenMsg x)).holdMaster.raise (mkFault srcWHEEL 0x10 cMAJOR 1 [.inst (s.f (TILE_FB_SRC_PORT x))]), ?_,
      ?_, ?_, ?_, ?_, rfl, ?_, ?_⟩
    · rw [State.execFbFrozen_freezes ⟨ht, hn, hl, hz, by omega⟩, if_pos h1,
        State.masterLost_eq ((s.freezeTile_mst x _).trans hm) ((s.freezeTile_masterPort x _).trans hp)]
    · exact (State.raise_f _ _ _).trans ((State.f_keeps (x := TILE_FB_STAT_FROZEN x) hk (State.tile_notMem_wheel (.head _))).trans
        ((State.raise_f _ _ _).trans (s.freezeTile_frozen x)))
    · exact (State.raise_f _ _ _).trans ((State.f_keeps (x := TILE_FB_STAT_VALID x) hk (State.tile_notMem_wheel (.head _))).trans
        ((State.raise_f _ _ _).trans (State.dropValid_valid _ x)))
    · refine (State.raise_rd2 _ _ _).trans ((State.rd2_keeps hk ?_ ?_).trans ((State.raise_rd2 _ _ _).trans (State.dropValid_spd _ x)))
      · exact State.tile_notMem_wheel (.tail _ (.head _))
      · exact State.tile_notMem_wheel (.tail _ (.tail _ (.head _)))
    · exact (State.raise_f _ _ _).trans (State.holdMaster_mst _)
    · exact State.keeps_raise _ (State.keeps_trans (State.keeps_raise _ (State.keeps_mono (s.freezeTile_keeps x) (by simp)))
        (State.keeps_mono hk (by simp)))
    · rw [State.holdMaster_frame, s.freezeTile_raise_frame x]
      rfl
  · intro s x h
    rw [exec, execFbFrozen]
    refine congrArg _ (if_neg ?_)
    rintro ⟨ht, hn, hl, hz, h0⟩
    simp only [Bool.not_eq_true'] at hl hz
    simp [ht, hn, hl, hz, h0] at h
  · -- clears of a tile's feedback status
    intro s x v h
    rw [exec, execFbLostClear]
    exact congrArg _ (if_neg (by simp [h]))
  · intro s x ho hl hs hc hh
    have hb : (s.lossEnded x).sourceBack x = s.lossEnded x := State.sourceBack_other (by rwa [State.lossEnded_src])
    refine ⟨(s.lossEnded x).clearBits (TILE_FB_STAT x) 0#32, ?_, (State.f_clearBits_zero _ _ _).trans (s.lossEnded_lost x),
      (State.f_clearBits_zero _ _ _).trans (s.lossEnded_cause x),
      State.keeps_trans (s.lossEnded_keeps x) (State.clearBits_zero_keeps _ _ _),
      State.portFrame_of_fbps (State.portFrame_trans (s.lossEnded_portFrame x) (State.clearBits_portFrame _ _ _)) ?_⟩
    · rw [exec, execFbLostClear]
      refine congrArg _ ((if_pos ho).trans ?_)
      rw [State.clearTile_lost, State.clearLost_pos hl hh hc, hb]
    · rw [State.clearBits_fbps, State.lossEnded_fbps]
  · -- the port of a cleared loss comes back
    intro s x p ho hl hs hp hc hh
    have hb : (s.lossEnded x).sourceBack x = (s.lossEnded x).portBack p :=
      State.sourceBack_port (by rwa [State.lossEnded_src]) (by rwa [State.lossEnded_port])
    have hk := (s.lossEnded x).portBack_keeps p
    refine ⟨((s.lossEnded x).portBack p).clearBits (TILE_FB_STAT x) 0#32, ?_, ?_,
      (State.f_clearBits_zero _ _ _).trans (State.portBack_lost _ p), (State.f_clearBits_zero _ _ _).trans (State.portBack_referenced _ p),
      State.keeps_trans (State.keeps_trans (State.keeps_mono (s.lossEnded_keeps x) (by simp)) (State.keeps_mono hk (by simp)))
        (State.clearBits_zero_keeps _ _ _),
      State.portFrame_trans (State.portFrame_trans (s.lossEnded_portFrame x) (State.portBack_portFrame _ p)) (State.clearBits_portFrame _ _ _)⟩
    · rw [exec, execFbLostClear]
      refine congrArg _ ((if_pos ho).trans ?_)
      rw [State.clearTile_lost, State.clearLost_pos hl hh hc, hb]
    · exact (State.f_clearBits_zero _ _ _).trans
        ((State.f_keeps (x := TILE_FB_STAT_LOST x) hk (State.tile_notMem_FBP_STAT p x).1).trans (s.lossEnded_lost x))
  · intro s x h
    rw [exec, execFbLostClear]
    by_cases ho : s.tileOpen x = true
    · refine ⟨s.clearBits (TILE_FB_STAT x) 0#32, congrArg _ ((if_pos ho).trans ?_), State.clearBits_zero_keeps s _ _, rfl⟩
      rw [State.clearTile_lost, State.clearLost_neg h]
    · exact ⟨s, congrArg _ (if_neg ho), State.keeps_refl s _, rfl⟩
  · intro s x ho hn hh
    have hc : s.clearFrozen x = (s.setF (TILE_FB_STAT_FROZEN x) 0).endCause x 0x1C := if_pos ⟨by simp [hh], by simp [hn]⟩
    refine ⟨((s.setF (TILE_FB_STAT_FROZEN x) 0).endCause x 0x1C).clearBits (TILE_FB_STAT x) 0#32, ?_,
      (State.f_clearBits_zero _ _ _).trans (State.f_setF_zero s (TILE_FB_STAT_FROZEN x) (Nat.le_of_ble_eq_true rfl)),
      State.keeps_trans (State.keeps_endCause x 0x1C (State.keeps_setF (x := TILE_FB_STAT_FROZEN x) 0 (State.keeps_refl s _) (.head _)))
        (State.clearBits_zero_keeps _ _ _), rfl⟩
    rw [exec, execFbLostClear]
    refine congrArg _ ((if_pos ho).trans ?_)
    rw [State.clearTile_frozen, hc]
  · -- clears of a port's status
    intro s p v h
    rw [exec, execFbLostClear]
    refine congrArg _ (if_neg ?_)
    rintro ⟨ho, hm⟩
    simp [ho, hm] at h
  · intro s p ho hm hl hh hb
    refine ⟨(s.clearBits (FBP_STAT p) 0#32).portBack p, ?_, State.portBack_lost _ p, State.portBack_referenced _ p,
      State.keeps_trans (State.clearBits_zero_keeps s _ _) (State.portBack_keeps _ p), fun h5 => ?_, ?_⟩
    · rw [exec, execFbLostClear]
      exact congrArg _ ((if_pos ⟨ho, hm⟩).trans (State.clearPort_lost hl hh hb))
    · exact State.portBack_rerefer ((State.f_clearBits_zero s _ _).trans h5)
    · rw [State.portBack_frame]
      rfl
  · intro s p h
    rw [exec, execFbLostClear]
    by_cases ho : s.mapOpen = true ∧ s.portMode p ≠ 0
    · exact ⟨s.clearBits (FBP_STAT p) 0#32, congrArg _ ((if_pos ho).trans (State.clearPort_kept h)), State.clearBits_zero_keeps s _ _, rfl⟩
    · exact ⟨s, congrArg _ (if_neg ho), State.keeps_refl s _, rfl⟩

end Sys2Proof.Machine

/-! SUPPORT. One-bit W1C fields under a write (R14), bit by bit. -/

namespace Sys2Proof.Fld

/-- A field sees the bits of its own place only. -/
theorem get_congr (x : Fld) {v w : Word} (h : ∀ i < x.width, v.getLsbD (x.lo + i) = w.getLsbD (x.lo + i)) : x.get v = x.get w := by
  apply Nat.eq_of_testBit_eq
  intro i
  rw [testBit_get, testBit_get]
  by_cases hi : i < x.width
  · rw [h i hi]
  · simp [hi]

/-- A field whose bits are low reads 0. -/
theorem get_eq_zero (x : Fld) {w : Word} (h : ∀ i < x.width, w.getLsbD (x.lo + i) = false) : x.get w = 0 := by
  apply Nat.eq_of_testBit_eq
  intro i
  rw [testBit_get, Nat.zero_testBit]
  by_cases hi : i < x.width
  · simp [h i hi]
  · simp [hi]

end Sys2Proof.Fld

namespace Sys2Proof.Machine.State

/-- Hardware has set a one-bit field in this cycle where its bit of the mask is set. -/
theorem hitNow_eq (s : State) {x : Fld} (hw : x.width = 1) (hl : x.lo < 32) : s.hitNow x = (s.hitMask x.reg).getLsbD x.lo := by
  have hm : ∀ i, (s.hitMask x.reg &&& x.mask).getLsbD i = ((s.hitMask x.reg).getLsbD x.lo && decide (i = x.lo)) := by
    intro i
    rw [BitVec.getLsbD_and, Fld.getLsbD_mask, hw]
    by_cases hi : i = x.lo
    · subst hi; simp [hl]
    · have : ¬ (x.lo ≤ i ∧ i < x.lo + 1) := by omega
      simp only [this, hi, decide_false, Bool.and_false]
  unfold hitNow
  cases hb : (s.hitMask x.reg).getLsbD x.lo with
  | false =>
    have h0 : s.hitMask x.reg &&& x.mask = 0#32 := BitVec.eq_of_getLsbD_eq fun i _ => by rw [hm, hb]; simp
    rw [h0]
    rfl
  | true =>
    have h1 := hm x.lo
    rw [hb] at h1
    refine bne_iff_ne.mpr fun h0 => ?_
    rw [h0] at h1
    simp at h1

theorem getLsbD_clearBits (s : State) (a : Nat) (m : Word) {i : Nat} (hi : i < 32) :
    ((s.clearBits a m).rd a).getLsbD i = ((s.rd a).getLsbD i && !(m.getLsbD i && !(s.hitMask a).getLsbD i)) := by
  unfold clearBits
  rw [rd_wr_same, BitVec.getLsbD_and, BitVec.getLsbD_not, BitVec.getLsbD_and, BitVec.getLsbD_not]
  simp [hi]

/-- A one-bit field that the write does not name, or that hardware has set in this cycle, keeps its value (R14). -/
theorem f_clearBits_kept (s : State) {x : Fld} {m : Word} (hw : x.width = 1) (hl : x.lo < 32)
    (h : m.getLsbD x.lo = false ∨ s.hitNow x = true) : (s.clearBits x.reg m).f x = s.f x := by
  refine Fld.get_congr x fun i hi => ?_
  obtain rfl : i = 0 := by omega
  rw [Nat.add_zero, getLsbD_clearBits s _ m hl]
  rw [hitNow_eq s hw hl] at h
  rcases h with h | h <;> simp [h]

/-- A one-bit field that the write names is cleared, unless hardware has set it in this cycle (R14). -/
theorem f_clearBits_cleared (s : State) {x : Fld} {m : Word} (hw : x.width = 1) (hl : x.lo < 32)
    (h : m.getLsbD x.lo = true) (hh : s.hitNow x = false) : (s.clearBits x.reg m).f x = 0 := by
  refine Fld.get_eq_zero x fun i hi => ?_
  obtain rfl : i = 0 := by omega
  rw [Nat.add_zero, getLsbD_clearBits s _ m hl]
  rw [hitNow_eq s hw hl] at hh
  simp [h, hh]

end Sys2Proof.Machine.State

/-! SUPPORT. O24: the coils and the step generator. -/

namespace Sys2Proof.Machine.State

-- ===== the coils of a port =====

/-- Nothing but the power ports differs. -/
def ppsOnly (s t : State) : Prop := t = { s with pps := t.pps }

theorem ppsOnly_refl (s : State) : s.ppsOnly s := rfl

theorem ppsOnly_trans {s t u : State} (h : s.ppsOnly t) (h' : t.ppsOnly u) : s.ppsOnly u := by
  unfold ppsOnly at *
  exact h'.trans (by rw [h])

theorem ppsOnly_ite {s x y : State} {c : Prop} [Decidable c] (hx : s.ppsOnly x) (hy : s.ppsOnly y) : s.ppsOnly (if c then x else y) := by
  split
  · exact hx
  · exact hy

theorem modCoil_ppsOnly (s : State) (p : Fin 32) (b : Bool) (g : Coil → Coil) : s.ppsOnly (s.modCoil p b g) := rfl

theorem account_ppsOnly (s : State) (p : Fin 32) (b : Bool) (t : Nat) : s.ppsOnly (s.account p b t) := rfl

theorem drive_ppsOnly (s : State) (p : Fin 32) (b : Bool) (t : Nat) : s.ppsOnly (s.drive p b t) := rfl

theorem switchCoil_ppsOnly (s : State) (p : Fin 32) (b on forced : Bool) (t : Nat) : s.ppsOnly (s.switchCoil p b on forced t) :=
  ppsOnly_trans (t := s.account p b t) (account_ppsOnly s p b t)
    (ppsOnly_trans (t := (s.account p b t).modCoil p b (fun c => { c with on := on, forced := forced, since := t, allOn := c.allOn && on }))
      (modCoil_ppsOnly _ p b _) (drive_ppsOnly _ p b t))

/-- A coil takes a new target, its drive accounted up to then. -/
def takeStar (s : State) (p : Fin 32) (b : Bool) (star : Int) (t : Nat) : State :=
  (s.account p b t).modCoil p b (fun c => { c with star := star, steady := c.steady && |c.star| == |star| })

theorem takeStar_ppsOnly (s : State) (p : Fin 32) (b : Bool) (star : Int) (t : Nat) : s.ppsOnly (s.takeStar p b star t) :=
  ppsOnly_trans (t := s.account p b t) (account_ppsOnly s p b t) (modCoil_ppsOnly _ p b _)

/-- A new coil target switches the coil off, into fast decay, or drives it on (R229, R231). -/
theorem setStar_cases (s : State) (p : Fin 32) (b : Bool) (star : Int) (t : Nat) : s.setStar p b star t = s ∨
    (∃ forced, s.setStar p b star t = (s.takeStar p b star t).switchCoil p b false forced t) ∨
    s.setStar p b star t = (s.takeStar p b star t).drive p b t := by
  unfold setStar
  dsimp only
  split
  · exact .inl rfl
  · split
    · exact .inr (.inl ⟨_, rfl⟩)
    · split
      · exact .inr (.inl ⟨_, rfl⟩)
      · exact .inr (.inr rfl)

theorem setStar_ppsOnly (s : State) (p : Fin 32) (b : Bool) (star : Int) (t : Nat) : s.ppsOnly (s.setStar p b star t) := by
  rcases setStar_cases s p b star t with h | ⟨forced, h⟩ | h
  · rw [h]
    exact ppsOnly_refl s
  · rw [h]
    exact ppsOnly_trans (takeStar_ppsOnly s p b star t) (switchCoil_ppsOnly _ _ _ _ _ _)
  · rw [h]
    exact ppsOnly_trans (takeStar_ppsOnly s p b star t) (drive_ppsOnly _ _ _ _)

theorem applyPhase_ppsOnly (s : State) (a : Fin 96) (t : Nat) : s.ppsOnly (s.applyPhase a t) := by
  unfold applyPhase
  refine ppsOnly_ite (ppsOnly_refl s) ?_
  cases s.portOf a with
  | none => exact ppsOnly_refl s
  | some p => exact ppsOnly_trans (setStar_ppsOnly s p false _ t) (setStar_ppsOnly _ p true _ t)

theorem ppsOnly_regs {s t : State} (h : s.ppsOnly t) : t.regs = s.regs := by rw [h]

theorem ppsOnly_tiles {s t : State} (h : s.ppsOnly t) : t.tiles = s.tiles := by rw [h]

-- ===== the level =====

/-- The level of an axis at most differs: its place in STP_STAT and its bookkeeping. -/
def levelKept (s : State) (a : Fin 96) (t : State) : Prop :=
  (t.tiles.get a).up = (s.tiles.get a).up ∧ s.keeps t [TILE_STP_STAT a] ∧ t = { s with tiles := t.tiles, regs := t.regs }

theorem levelKept_refl (s : State) (a : Fin 96) : s.levelKept a s := ⟨rfl, keeps_refl s _, rfl⟩

theorem levelKept_trans {s t u : State} {a : Fin 96} (h : s.levelKept a t) (h' : t.levelKept a u) : s.levelKept a u := by
  obtain ⟨hu, hk, hf⟩ := h
  obtain ⟨hu', hk', hf'⟩ := h'
  exact ⟨hu'.trans hu, keeps_trans hk hk', hf'.trans (by rw [hf])⟩

theorem setF_levelKept (s : State) (a : Fin 96) (v : Nat) : s.levelKept a (s.setF (TILE_STP_STAT_LEVEL a) v) :=
  ⟨rfl, keeps_setF (x := TILE_STP_STAT_LEVEL a) v (keeps_refl s _) (.head _), rfl⟩

theorem modTile_levelKept (s : State) (a : Fin 96) {g : Tile → Tile} (h : ∀ t, (g t).up = t.up) : s.levelKept a (s.modTile a g) :=
  ⟨(congrArg Tile.up (Bank.get_modify_same _ _ _)).trans (h _), keeps_of_regs rfl _, rfl⟩

theorem levelStep_levelKept (s : State) (a : Fin 96) : s.levelKept a (s.levelStep a) := by
  unfold levelStep
  dsimp only
  refine levelKept_trans ?_ (modTile_levelKept _ a fun _ => rfl)
  split
  · exact setF_levelKept s a _
  · split
    · exact setF_levelKept s a _
    · exact levelKept_refl s a

theorem levelRun_levelKept (s : State) (a : Fin 96) (n : Nat) : s.levelKept a (s.levelRun a n) := by
  induction n generalizing s with
  | zero => exact levelKept_refl s a
  | succ n ih => exact levelKept_trans (levelStep_levelKept s a) (ih (s.levelStep a))

theorem settleLevel_levelKept (s : State) (a : Fin 96) (l : Nat) : s.levelKept a (s.settleLevel a l) := by
  unfold settleLevel
  split
  · exact levelKept_refl s a
  · exact levelKept_trans (levelRun_levelKept s a _) (modTile_levelKept _ a fun _ => rfl)

/-- The level moves in a STEPPER tile only (R227). -/
theorem settleLevel_of_out {s : State} {a : Fin 96} (l : Nat) (h : s.stpOut a ≠ 1) : s.settleLevel a l = s := if_pos (.inl h)

end Sys2Proof.Machine.State

/-! SUPPORT. O24: X, raw moves, and the status of the step generator. -/

namespace Sys2Proof.Machine.State

-- ===== X moves =====

/-- Nothing but the tiles, the ports and the registers differs. -/
def stpFrame (s t : State) : Prop := t = { s with tiles := t.tiles, pps := t.pps, regs := t.regs }

theorem stpFrame_trans {s t u : State} (h : s.stpFrame t) (h' : t.stpFrame u) : s.stpFrame u := by
  unfold stpFrame at *
  exact h'.trans (by rw [h])

theorem stpFrame_of_ppsOnly {s t : State} (h : s.ppsOnly t) : s.stpFrame t := by
  unfold stpFrame
  rw [h]

theorem stpFrame_of_levelKept {s t : State} {a : Fin 96} (h : s.levelKept a t) : s.stpFrame t := by
  obtain ⟨-, -, hf⟩ := h
  unfold stpFrame
  rw [hf]

/-- X counts on, in its direction. -/
def countX (s : State) (a : Fin 96) (d : Int) : State :=
  (s.wrI (TILE_STP_POS a) (s.stpX a + d)).modTile a (fun x => { x with up := decide (0 < d) })

theorem countX_pos (s : State) (a : Fin 96) (d : Int) : (s.countX a d).rd (TILE_STP_POS a) = BitVec.ofInt 32 (s.stpX a + d) :=
  rd_wr_same s _ _

theorem countX_up (s : State) (a : Fin 96) (d : Int) : ((s.countX a d).tiles.get a).up = decide (0 < d) :=
  congrArg Tile.up (Bank.get_modify_same _ _ _)

theorem countX_keeps (s : State) (a : Fin 96) (d : Int) : s.keeps (s.countX a d) [TILE_STP_POS a] :=
  keeps_congr (keeps_wr (BitVec.ofInt 32 (s.stpX a + d)) (keeps_refl s _) (.head _)) rfl

theorem countX_stpFrame (s : State) (a : Fin 96) (d : Int) : s.stpFrame (s.countX a d) := rfl

theorem TILE_STP_POS_ne_STAT (a : Nat) : TILE_STP_POS a ∉ [TILE_STP_STAT a] := by
  unfold TILE_STP_POS TILE_STP_STAT
  simp

/-- A step pulse changes the tile's bookkeeping of pulses only; a phase change the level and the coils (R223, R224). -/
theorem stepX_cases (s : State) (a : Fin 96) (d : Int) (t : Nat) :
    (∃ g : Tile → Tile, (∀ x, (g x).up = x.up) ∧ s.stepX a d t = (s.countX a d).modTile a g) ∨
    s.stepX a d t = ((s.countX a d).settleLevel a (t / 2)).applyPhase a t := by
  unfold stepX
  dsimp only
  split
  · refine .inl ⟨_, ?_, rfl⟩
    exact fun _ => rfl
  · exact .inr rfl

theorem stepX_pos (s : State) (a : Fin 96) (d : Int) (t : Nat) :
    (s.stepX a d t).rd (TILE_STP_POS a) = BitVec.ofInt 32 (s.stpX a + d) := by
  refine Eq.trans ?_ (countX_pos s a d)
  rcases stepX_cases s a d t with ⟨g, -, h⟩ | h
  · rw [h, modTile_rd]
  · obtain ⟨-, hk, -⟩ := settleLevel_levelKept (s.countX a d) a (t / 2)
    rw [h, rd_keeps (keeps_of_regs (ppsOnly_regs (applyPhase_ppsOnly _ a t)) []) List.not_mem_nil, rd_keeps hk (TILE_STP_POS_ne_STAT a)]

theorem stepX_up (s : State) (a : Fin 96) (d : Int) (t : Nat) : ((s.stepX a d t).tiles.get a).up = decide (0 < d) := by
  refine Eq.trans ?_ (countX_up s a d)
  rcases stepX_cases s a d t with ⟨g, hg, h⟩ | h
  · rw [h, modTile_tiles, Bank.get_modify_same, hg]
  · obtain ⟨hu, -, -⟩ := settleLevel_levelKept (s.countX a d) a (t / 2)
    rw [h, ppsOnly_tiles (applyPhase_ppsOnly _ a t), hu]

theorem stepX_keeps (s : State) (a : Fin 96) (d : Int) (t : Nat) : s.keeps (s.stepX a d t) [TILE_STP_POS a, TILE_STP_STAT a] := by
  refine keeps_trans (keeps_mono (countX_keeps s a d) (by simp)) ?_
  rcases stepX_cases s a d t with ⟨g, -, h⟩ | h
  · rw [h]
    exact keeps_of_regs (modTile_regs _ _ _) _
  · obtain ⟨-, hk, -⟩ := settleLevel_levelKept (s.countX a d) a (t / 2)
    rw [h]
    exact keeps_congr (keeps_mono hk (by simp)) (ppsOnly_regs (applyPhase_ppsOnly _ a t))

theorem modTile_stpFrame (s : State) (a : Fin 96) (g : Tile → Tile) : s.stpFrame (s.modTile a g) := rfl

theorem stepX_stpFrame (s : State) (a : Fin 96) (d : Int) (t : Nat) : s.stpFrame (s.stepX a d t) := by
  refine stpFrame_trans (countX_stpFrame s a d) ?_
  rcases stepX_cases s a d t with ⟨g, -, h⟩ | h
  · rw [h]
    exact modTile_stpFrame _ a g
  · rw [h]
    exact stpFrame_trans (stpFrame_of_levelKept (settleLevel_levelKept _ a _)) (stpFrame_of_ppsOnly (applyPhase_ppsOnly _ a t))

-- ===== raw moves =====

/-- A raw move starts at level 0, from a position x at an instant n (R225, R226). -/
def startRaw (s : State) (a : Fin 96) (target : Word) (x : Int) (n : Nat) : State :=
  (((s.modTile a (fun t => { t with rawTo := some target.toInt, rawFrom := x, rawAt := n, due := false })).setF
    (TILE_STP_STAT_RAW a) 1).setF (TILE_STP_STAT_LEVEL a) 0).setF (TILE_STP_STAT_AT_REST a) 0

theorem startRaw_keeps (s : State) (a : Fin 96) (v : Word) (x : Int) (n : Nat) : s.keeps (s.startRaw a v x n) [TILE_STP_STAT a] :=
  keeps_setF (x := TILE_STP_STAT_AT_REST a) 0 (keeps_setF (x := TILE_STP_STAT_LEVEL a) 0
    (keeps_setF (x := TILE_STP_STAT_RAW a) 1 (keeps_of_regs (modTile_regs _ _ _) _) (.head _)) (.head _)) (.head _)

theorem startRaw_raw (s : State) (a : Fin 96) (v : Word) (x : Int) (n : Nat) : (s.startRaw a v x n).f (TILE_STP_STAT_RAW a) = 1 :=
  (f_setF_disj (x := TILE_STP_STAT_AT_REST a) (y := TILE_STP_STAT_RAW a) _ _ rfl (.inl (Nat.le_of_ble_eq_true rfl))).trans
    ((f_setF_disj (x := TILE_STP_STAT_LEVEL a) (y := TILE_STP_STAT_RAW a) _ _ rfl (.inl (Nat.le_of_ble_eq_true rfl))).trans
      (f_setF_one _ (TILE_STP_STAT_RAW a) (Nat.le_of_ble_eq_true rfl) rfl))

theorem startRaw_level (s : State) (a : Fin 96) (v : Word) (x : Int) (n : Nat) : (s.startRaw a v x n).f (TILE_STP_STAT_LEVEL a) = 0 :=
  (f_setF_disj (x := TILE_STP_STAT_AT_REST a) (y := TILE_STP_STAT_LEVEL a) _ _ rfl (.inr (Nat.le_of_ble_eq_true rfl))).trans
    (f_setF_zero _ (TILE_STP_STAT_LEVEL a) (Nat.le_of_ble_eq_true rfl))

theorem startRaw_atRest (s : State) (a : Fin 96) (v : Word) (x : Int) (n : Nat) : (s.startRaw a v x n).f (TILE_STP_STAT_AT_REST a) = 0 :=
  f_setF_zero _ (TILE_STP_STAT_AT_REST a) (Nat.le_of_ble_eq_true rfl)

theorem startRaw_tiles (s : State) (a : Fin 96) (v : Word) (x : Int) (n : Nat) : (s.startRaw a v x n).tiles =
    s.tiles.modify a (fun t => { t with rawTo := some v.toInt, rawFrom := x, rawAt := n, due := false }) := rfl

theorem setF_stpFrame (s : State) (x : Fld) (v : Nat) : s.stpFrame (s.setF x v) := rfl

theorem startRaw_frame (s : State) (a : Fin 96) (v : Word) (x : Int) (n : Nat) :
    s.startRaw a v x n = { s with tiles := (s.startRaw a v x n).tiles, regs := (s.startRaw a v x n).regs } := by
  have h : s.stpFrame (s.startRaw a v x n) :=
    stpFrame_trans (stpFrame_trans (stpFrame_trans (modTile_stpFrame s a _) (setF_stpFrame _ (TILE_STP_STAT_RAW a) 1))
      (setF_stpFrame _ (TILE_STP_STAT_LEVEL a) 0)) (setF_stpFrame _ (TILE_STP_STAT_AT_REST a) 0)
  have hp : (s.startRaw a v x n).pps = s.pps := by
    unfold startRaw
    rw [setF_pps, setF_pps, setF_pps, modTile_pps]
  exact h.trans (by rw [hp])

/-- A raw move ends: its distance waits for the planner (R226). -/
def stopRaw (s : State) (a : Fin 96) : State :=
  (s.modTile a (fun t => { t with rawTo := none, rawShift := t.rawShift + countDiff (s.rdI (TILE_STP_POS a)) t.rawFrom })).setF
    (TILE_STP_STAT_RAW a) 0

theorem stopRaw_keeps (s : State) (a : Fin 96) : s.keeps (s.stopRaw a) [TILE_STP_STAT a] :=
  keeps_setF (x := TILE_STP_STAT_RAW a) 0 (keeps_of_regs (modTile_regs _ _ _) _) (.head _)

theorem stopRaw_raw (s : State) (a : Fin 96) : (s.stopRaw a).f (TILE_STP_STAT_RAW a) = 0 :=
  f_setF_zero _ (TILE_STP_STAT_RAW a) (Nat.le_of_ble_eq_true rfl)

theorem stopRaw_tiles (s : State) (a : Fin 96) : (s.stopRaw a).tiles =
    s.tiles.modify a (fun t => { t with rawTo := none, rawShift := t.rawShift + countDiff (s.rdI (TILE_STP_POS a)) t.rawFrom }) := rfl

theorem stopRaw_tileFrame (s : State) (a : Fin 96) : s.tileFrame (s.stopRaw a) := rfl

/-- endRaw by its cases: no raw move, one that is broken off, one that is done. -/
theorem endRaw_none {s : State} {a : Fin 96} (done : Bool) (h : (s.tiles.get a).rawTo = none) : s.endRaw a done = s :=
  if_pos (by rw [h]; rfl)

theorem endRaw_broken {s : State} {a : Fin 96} {g : Int} (h : (s.tiles.get a).rawTo = some g) : s.endRaw a false = s.stopRaw a :=
  if_neg (by rw [h]; exact Bool.false_ne_true)

theorem endRaw_done {s : State} {a : Fin 96} {g : Int} (h : (s.tiles.get a).rawTo = some g) :
    s.endRaw a true = (s.stopRaw a).hit (TILE_STP_STAT_RAW_DONE a) :=
  if_neg (by rw [h]; exact Bool.false_ne_true)

end Sys2Proof.Machine.State

/-! SUPPORT. O24: hold current, the learned resistance and the stall risk. -/

namespace Sys2Proof.Machine

namespace State

-- ===== hold current and resistance =====

/-- The axis holds: HOLDING, and the amplitude one step down towards the hold current (R234). -/
def hold (s : State) (a : Fin 96) : State :=
  (s.setF (TILE_STP_STAT_HOLDING a) 1).setF (TILE_STP_CUR_I a) (max (s.ihold a) (s.amp a - s.f (TILE_STP_ACFG_HIGH a)))

theorem TILE_STP_STAT_ne_CUR (a : Nat) : TILE_STP_STAT a ≠ TILE_STP_CUR a := by
  unfold TILE_STP_STAT TILE_STP_CUR
  omega

theorem f_lt (s : State) (x : Fld) : s.f x < 2 ^ x.width := by
  refine Nat.lt_pow_two_of_testBit _ fun i hi => ?_
  unfold f
  rw [Fld.testBit_get]
  simp [Nat.not_lt.mpr hi]

theorem hold_holding (s : State) (a : Fin 96) : (s.hold a).f (TILE_STP_STAT_HOLDING a) = 1 :=
  (f_setF_ne (x := TILE_STP_CUR_I a) (y := TILE_STP_STAT_HOLDING a) _ _ (TILE_STP_STAT_ne_CUR a)).trans
    (f_setF_one s (TILE_STP_STAT_HOLDING a) (Nat.le_of_ble_eq_true rfl) rfl)

theorem hold_amp (s : State) (a : Fin 96) : (s.hold a).amp a = max (s.ihold a) (s.amp a - s.f (TILE_STP_ACFG_HIGH a)) := by
  have h1 : s.ihold a < 2 ^ 16 := f_lt s (TILE_STP_ICFG_HIGH a)
  have h2 : s.amp a < 2 ^ 16 := f_lt s (TILE_STP_CUR_I a)
  exact (f_setF_same _ (TILE_STP_CUR_I a) _ (Nat.le_of_ble_eq_true rfl)).trans
    (Nat.mod_eq_of_lt (max_lt h1 (lt_of_le_of_lt (Nat.sub_le _ _) h2)))

theorem hold_keeps (s : State) (a : Fin 96) : s.keeps (s.hold a) [TILE_STP_STAT a, TILE_STP_CUR a] :=
  keeps_setF (x := TILE_STP_CUR_I a) _ (keeps_setF (x := TILE_STP_STAT_HOLDING a) 1 (keeps_refl s _) (.head _)) (.tail _ (.head _))

theorem hold_frame (s : State) (a : Fin 96) : s.hold a = { s with regs := (s.hold a).regs } := rfl

/-- The mean of the sums of both coils, of one where the other has none (R235). -/
def meanR (c d : Coil) : Int :=
  if c.rN = 0 then roundHalfEven d.rSum d.rN
  else if d.rN = 0 then roundHalfEven c.rSum c.rN
  else roundHalfEven (c.rSum * d.rN + d.rSum * c.rN) (2 * c.rN * d.rN)

/-- The sums of a coil start anew. -/
def noSums (c : Coil) : Coil := { c with rSum := 0, rN := 0 }

theorem coil_modCoil_same (s : State) (p : Fin 32) (b : Bool) (g : Coil → Coil) : (s.modCoil p b g).coil p b = g (s.coil p b) := by
  unfold coil modCoil
  rw [modPp_pps, Bank.get_modify_same]
  cases b <;> rfl

theorem coil_modCoil_other (s : State) (p : Fin 32) (b : Bool) (g : Coil → Coil) : (s.modCoil p b g).coil p (!b) = s.coil p (!b) := by
  unfold coil modCoil
  rw [modPp_pps, Bank.get_modify_same]
  cases b <;> rfl

/-- The mean resistance is stored, and the sums start anew (R235). -/
def learnR (s : State) (a : Fin 96) (p : Fin 32) (mean : Int) : State :=
  (((s.setF (TILE_STP_CUR_RLRN a) (max 0 (min mean 65535)).toNat).modCoil p false noSums).modCoil p true noSums).modTile a
    (fun x => { x with holdTicks := 0 })

theorem modCoil_regs (s : State) (p : Fin 32) (b : Bool) (g : Coil → Coil) : (s.modCoil p b g).regs = s.regs := rfl

theorem learnR_regs (s : State) (a : Fin 96) (p : Fin 32) (mean : Int) :
    (s.learnR a p mean).regs = (s.setF (TILE_STP_CUR_RLRN a) (max 0 (min mean 65535)).toNat).regs := by
  unfold learnR
  rw [modTile_regs, modCoil_regs, modCoil_regs]

theorem learnR_rlrn (s : State) (a : Fin 96) (p : Fin 32) (mean : Int) :
    (s.learnR a p mean).f (TILE_STP_CUR_RLRN a) = (max 0 (min mean 65535)).toNat := by
  have h : (max 0 (min mean 65535)).toNat < 2 ^ 16 := by omega
  refine (f_keeps (keeps_of_regs (learnR_regs s a p mean) []) List.not_mem_nil).trans ?_
  exact (f_setF_same s (TILE_STP_CUR_RLRN a) _ (Nat.le_of_ble_eq_true rfl)).trans (Nat.mod_eq_of_lt h)

theorem learnR_keeps (s : State) (a : Fin 96) (p : Fin 32) (mean : Int) : s.keeps (s.learnR a p mean) [TILE_STP_CUR a] :=
  keeps_congr (keeps_setF (x := TILE_STP_CUR_RLRN a) _ (keeps_refl s _) (.head _)) (learnR_regs s a p mean)

theorem learnR_coil (s : State) (a : Fin 96) (p : Fin 32) (mean : Int) :
    ((s.learnR a p mean).coil p false).rN = 0 ∧ ((s.learnR a p mean).coil p true).rN = 0 := by
  have hA : ((s.setF (TILE_STP_CUR_RLRN a) (max 0 (min mean 65535)).toNat).modCoil p false noSums).coil p false =
      noSums ((s.setF (TILE_STP_CUR_RLRN a) (max 0 (min mean 65535)).toNat).coil p false) := coil_modCoil_same _ _ _ _
  constructor
  · exact (congrArg Coil.rN (coil_modCoil_other _ p true noSums)).trans (congrArg Coil.rN hA)
  · exact congrArg Coil.rN (coil_modCoil_same _ p true noSums)

theorem learnR_holdTicks (s : State) (a : Fin 96) (p : Fin 32) (mean : Int) : ((s.learnR a p mean).tiles.get a).holdTicks = 0 :=
  congrArg Tile.holdTicks (Bank.get_modify_same _ _ _)

theorem modCoil_stpFrame (s : State) (p : Fin 32) (b : Bool) (g : Coil → Coil) : s.stpFrame (s.modCoil p b g) := rfl

theorem learnR_stpFrame (s : State) (a : Fin 96) (p : Fin 32) (mean : Int) : s.stpFrame (s.learnR a p mean) :=
  stpFrame_trans (stpFrame_trans (stpFrame_trans (setF_stpFrame s _ _) (modCoil_stpFrame _ p false noSums)) (modCoil_stpFrame _ p true noSums))
    (modTile_stpFrame _ a _)

theorem execResistanceLearn_eq {s : State} {a : Fin 96} {p : Fin 32} (hp : s.portOf a = some p) : execResistanceLearn a s = .next
    (if s.atTick = true ∧ 1600 ≤ (s.tiles.get a).holdTicks ∧ s.ihold a ≤ 2 * s.amp a ∧ (s.coil p false).rN + (s.coil p true).rN ≠ 0 then
      s.learnR a p (meanR (s.coil p false) (s.coil p true)) else s) := by
  unfold execResistanceLearn
  rw [hp]
  rfl

-- ===== the stall risk =====

/-- The message of a stall risk (R236). -/
def stallMsg (s : State) (a : Fin 96) : FaultMsg :=
  mkFault a 0x2D cMINOR (s.f (TILE_STP_ANG_STALL_LVL a)) [.inst a, .sval (signed 8 (s.f (TILE_STP_STAT_DELTA a)))] (s.scopeOfAxis a) true

/-- A write that clears RAW_DONE, and the stall risk where it may (R14, R236). -/
def clearStall (s : State) (a : Fin 96) (v : Word) : State :=
  if v.getLsbD 9 = true ∧ s.hitNow (TILE_STP_STAT_STALL_RISK a) = false ∧ (s.tiles.get a).stallTicks < 8 then
    ((s.clearBits (TILE_STP_STAT a) (v &&& 0x40#32)).setF (TILE_STP_STAT_STALL_RISK a) 0).endCause a 0x2D
  else s.clearBits (TILE_STP_STAT a) (v &&& 0x40#32)

theorem execStallRiskClear_open {s : State} {a : Fin 96} (v : Word) (h : s.tileOpen a = true) :
    execStallRiskClear a v s = .next (s.clearStall a v) := by
  unfold execStallRiskClear clearStall
  simp only [h, Bool.not_true, Bool.false_eq_true, if_false, Bool.not_eq_true']

theorem getLsbD_and_40 (v : Word) : (v &&& 0x40#32).getLsbD 9 = false ∧ (v &&& 0x40#32).getLsbD 6 = v.getLsbD 6 := by
  simp

/-- The write leaves the stall risk itself to its own condition. -/
theorem clearBits_stall (s : State) (a : Fin 96) (v : Word) :
    (s.clearBits (TILE_STP_STAT a) (v &&& 0x40#32)).f (TILE_STP_STAT_STALL_RISK a) = s.f (TILE_STP_STAT_STALL_RISK a) :=
  f_clearBits_kept s (x := TILE_STP_STAT_STALL_RISK a) rfl (Nat.le_of_ble_eq_true rfl) (.inl (getLsbD_and_40 v).1)

theorem clearStall_rawDone (s : State) (a : Fin 96) (v : Word) : (s.clearStall a v).f (TILE_STP_STAT_RAW_DONE a) =
    (s.clearBits (TILE_STP_STAT a) (v &&& 0x40#32)).f (TILE_STP_STAT_RAW_DONE a) := by
  unfold clearStall
  split
  · exact (endCause_f _ _ _ _).trans
      (f_setF_disj (x := TILE_STP_STAT_STALL_RISK a) (y := TILE_STP_STAT_RAW_DONE a) _ _ rfl (.inr (Nat.le_of_ble_eq_true rfl)))
  · rfl

theorem clearStall_keeps (s : State) (a : Fin 96) (v : Word) : s.keeps (s.clearStall a v) [TILE_STP_STAT a] := by
  have h : s.keeps (s.clearBits (TILE_STP_STAT a) (v &&& 0x40#32)) [TILE_STP_STAT a] := clearBits_keeps s _ _
  unfold clearStall
  split
  · exact keeps_endCause _ _ (keeps_setF (x := TILE_STP_STAT_STALL_RISK a) 0 h (.head _))
  · exact h

theorem clearStall_portFrame (s : State) (a : Fin 96) (v : Word) : s.portFrame (s.clearStall a v) := by
  unfold clearStall
  split
  · exact portFrame_trans (portFrame_trans (clearBits_portFrame s _ _) (setF_portFrame _ _ _)) (endCause_portFrame _ _ _)
  · exact clearBits_portFrame s _ _

theorem clearStall_fbps (s : State) (a : Fin 96) (v : Word) : (s.clearStall a v).fbps = s.fbps := by
  unfold clearStall
  split
  · rw [endCause_fbps, setF_fbps, clearBits_fbps]
  · rw [clearBits_fbps]

end State

end Sys2Proof.Machine

namespace Sys2Proof.Machine

namespace State

/-- The refusals of a raw move, with the codes of R225 in its order; 0 accepts. -/
def rawCode (s : State) (a : Fin 96) (v : Word) : Nat :=
  if s.stpOut a = 0 ∨ (!s.inMode [mCOMMISSION, mRUN]) = true ∨ s.axisOff a = true ∨ (s.tiles.get a).rawTo.isSome = true then 1
  else if (!s.atRest a) = true ∨ (s.tiles.get a).stillTicks = 0 ∨ s.stpX a ≠ (s.tiles.get a).tickX ∨
    (s.atTick && (s.segsDue a).any (fun (g : Segment) => g.kind != kLIMITS)) = true then 2
  else if (s.f (TILE_STP_RAWCFG_HIGH a) : Int) * 256 < |countDiff v.toInt (s.stpX a)| then 3
  else 0

/-- The code of a raw request is judged from the mode, the axis and the range as R225 words it. -/
theorem rawCode_eq (s : State) (a : Fin 96) (v : Word) : s.rawCode a v =
    (if s.stpOut a = 0 ∨ (s.mode ≠ mRUN ∧ s.mode ≠ mCOMMISSION) ∨ s.axisOff a = true ∨ (s.tiles.get a).rawTo.isSome = true then 1
      else if s.atRest a = false ∨ (s.tiles.get a).stillTicks = 0 ∨ s.stpX a ≠ (s.tiles.get a).tickX ∨
        (s.atTick = true ∧ ∃ g ∈ s.segsDue a, g.kind ≠ kLIMITS) then 2
      else if (s.f (TILE_STP_RAWCFG_HIGH a) : Int) * 256 < |countDiff v.toInt (s.stpX a)| then 3 else 0) := by
  have hm : (!s.inMode [mCOMMISSION, mRUN]) = true ↔ s.mode ≠ mRUN ∧ s.mode ≠ mCOMMISSION := by
    simp [inMode, and_comm]
  have hs : (s.atTick && (s.segsDue a).any (fun (g : Segment) => g.kind != kLIMITS)) = true ↔
      s.atTick = true ∧ ∃ g ∈ s.segsDue a, g.kind ≠ kLIMITS := by
    simp
  unfold rawCode
  simp only [hm, hs, Bool.not_eq_true']

theorem rawCode_lt (s : State) (a : Fin 96) (v : Word) : s.rawCode a v < 256 := by
  unfold rawCode
  split
  · decide
  · split
    · decide
    · split <;> decide

/-- A raw request is answered, and started where the answer is 0. -/
theorem execRawMove_open {s : State} {a : Fin 96} (v : Word) (h : s.tileOpen a = true) : execRawMove a v s = .next
    (if s.rawCode a v ≠ 0 then s.setF (TILE_STP_RES_CODE a) (s.rawCode a v)
     else (s.setF (TILE_STP_RES_CODE a) (s.rawCode a v)).startRaw a v (s.stpX a) s.time.mono) := by
  unfold execRawMove
  dsimp only
  rw [if_neg (by simp [h])]
  rfl

theorem rawAnswer_code (s : State) (a : Fin 96) (v : Word) :
    (s.setF (TILE_STP_RES_CODE a) (s.rawCode a v)).f (TILE_STP_RES_CODE a) = s.rawCode a v :=
  (f_setF_same s (TILE_STP_RES_CODE a) _ (Nat.le_of_ble_eq_true rfl)).trans (Nat.mod_eq_of_lt (s.rawCode_lt a v))

theorem rawAnswer_keeps (s : State) (a : Fin 96) (c : Nat) : s.keeps (s.setF (TILE_STP_RES_CODE a) c) [TILE_STP_RES a] :=
  keeps_setF (x := TILE_STP_RES_CODE a) c (keeps_refl s _) (.head _)

theorem TILE_STP_RES_notMem_STAT (a : Nat) : TILE_STP_RES a ∉ [TILE_STP_STAT a] := by
  unfold TILE_STP_RES TILE_STP_STAT
  simp

theorem rawStarted_frame (s : State) (a : Fin 96) (v : Word) (c : Nat) (x : Int) (n : Nat) :
    (s.setF (TILE_STP_RES_CODE a) c).startRaw a v x n =
      { s with tiles := ((s.setF (TILE_STP_RES_CODE a) c).startRaw a v x n).tiles, regs := ((s.setF (TILE_STP_RES_CODE a) c).startRaw a v x n).regs } := by
  refine (startRaw_frame _ a v x n).trans ?_
  rfl

-- ===== X at an instant =====

theorem execAppliedPositionStep_still {s : State} {a : Fin 96} {m : Nat} (h : s.stpOut a = 0) :
    execAppliedPositionStep a m s = .next (s.runTo m) := congrArg _ (if_pos h)

theorem execAppliedPositionStep_raw {s : State} {a : Fin 96} {m : Nat} {g : Int} (h : (s.runTo m).stpOut a ≠ 0)
    (hg : ((s.runTo m).tiles.get a).rawTo = some g) : execAppliedPositionStep a m s = .next
      (if countDiff g ((s.runTo m).stpX a) ≠ 0 ∧ decide ((|countDiff ((s.runTo m).stpX a) ((s.runTo m).tiles.get a).rawFrom| + 1) * Config.secUnits ≤
          ((((s.runTo m).time.mono - ((s.runTo m).tiles.get a).rawAt) * (s.runTo m).cycleInc * (s.runTo m).f (TILE_STP_RAWCFG_LOW a) * 256 : Nat) : Int)) = true
        then (s.runTo m).stepX a (countDiff g ((s.runTo m).stpX a)).sign (s.runTo m).time.mono else s.runTo m) := by
  unfold execAppliedPositionStep
  dsimp only
  rw [if_neg h, hg]

theorem execAppliedPositionStep_grid {s v : State} {a : Fin 96} {m : Nat} (h : (s.runTo m).stpOut a ≠ 0)
    (hg : ((s.runTo m).tiles.get a).rawTo = none) (hv : v = (s.runTo m).settleLevel a ((s.runTo m).time.mono / 2 - 1)) :
    execAppliedPositionStep a m s = .next
      (if 2 ^ v.level a * 4294967296 ≤ v.fineAhead a (s.runTo m).time.mono then v.stepX a (2 ^ v.level a) (s.runTo m).time.mono
       else if v.fineAhead a (s.runTo m).time.mono ≤ -2 ^ v.level a * 4294967296 then v.stepX a (-(2 ^ v.level a)) (s.runTo m).time.mono
       else v.settleLevel a ((s.runTo m).time.mono / 2)) := by
  unfold execAppliedPositionStep
  dsimp only
  rw [if_neg h, hg, hv]

end State

/-- Settles O24: X and its level, raw moves, hold current, resistance and the stall risk, each by its cases. -/
theorem stepGeneratorRuns : Obligations.StepGeneratorRuns := by
  unfold Obligations.StepGeneratorRuns
  refine ⟨?_, ?_, ?_, ?_, ?_, ?_, ?_, ?_, ?_, ?_, ?_, ?_, ?_, ?_, ?_, ?_, ?_⟩
  · intro s a m h
    exact State.execAppliedPositionStep_still h
  · -- a raw move counts towards its target
    intro s u a m g d hu ho hg hd
    subst hu hd
    rw [exec, State.execAppliedPositionStep_raw ho hg]
    refine ⟨fun h => congrArg _ (if_neg ?_), fun h0 hdue => congrArg _ (if_pos ⟨h0, decide_eq_true hdue⟩)⟩
    rintro ⟨h0, hdue⟩
    have hdue := of_decide_eq_true hdue
    rcases h with h | h
    · exact h0 h
    · omega
  · -- X follows the fine position
    intro s u v a m way hu ho hg hv hw
    subst hu hw
    rw [exec, State.execAppliedPositionStep_grid ho hg hv]
    generalize v.fineAhead a (s.runTo m).time.mono = way
    have hpos : (0 : Int) < 2 ^ v.level a := by positivity
    refine ⟨fun h => congrArg _ (if_pos h), fun h => ?_, fun h => ?_⟩
    · exact congrArg _ ((if_neg (by omega)).trans (if_pos (by omega)))
    · rw [abs_lt] at h
      exact congrArg _ ((if_neg (by omega)).trans (if_neg (by omega)))
  · intro v a d t
    exact ⟨_, rfl, v.stepX_pos a d t, v.stepX_up a d t, v.stepX_keeps a d t, v.stepX_stpFrame a d t⟩
  · intro v a l
    obtain ⟨-, hk, hf⟩ := v.settleLevel_levelKept a l
    exact ⟨_, rfl, hk, State.settleLevel_of_out l, hf⟩
  · -- raw requests
    intro s a v h
    rw [exec, execRawMove]
    exact congrArg _ (if_pos (by simp [h]))
  · intro s a v code ho hc
    rw [← State.rawCode_eq] at hc
    subst hc
    rw [exec, State.execRawMove_open v ho]
    refine ⟨fun h => ⟨_, congrArg _ (if_pos h), s.rawAnswer_code a v, s.rawAnswer_keeps a _, rfl⟩, fun h => ?_⟩
    have ht := (s.setF (TILE_STP_RES_CODE a) (s.rawCode a v)).startRaw_tiles a v (s.stpX a) s.time.mono
    refine ⟨_, congrArg _ (if_neg (not_not.mpr h)), ?_, ?_, ?_, ?_, State.startRaw_raw _ a v _ _, State.startRaw_level _ a v _ _,
      State.startRaw_atRest _ a v _ _, ?_, ?_, State.rawStarted_frame s a v _ _ _⟩
    · exact (State.f_keeps (x := TILE_STP_RES_CODE a) (State.startRaw_keeps _ a v _ _) (State.TILE_STP_RES_notMem_STAT a)).trans
        ((s.rawAnswer_code a v).trans h)
    · rw [ht, Bank.get_modify_same]
    · rw [ht, Bank.get_modify_same]
    · rw [ht, Bank.get_modify_same]
    · intro b hb
      rw [ht]
      exact Bank.get_modify_ne _ _ hb
    · exact State.keeps_trans (State.keeps_mono (s.rawAnswer_keeps a _) (by simp))
        (State.keeps_mono (State.startRaw_keeps _ a v _ _) (by simp))
  · -- a raw move is done
    intro s a h
    have ht := s.stopRaw_tiles a
    refine ⟨(s.stopRaw a).hit (TILE_STP_STAT_RAW_DONE a), ?_, ?_, ?_, State.f_hit_same _ (TILE_STP_STAT_RAW_DONE a) (Nat.le_of_ble_eq_true rfl) rfl,
      ?_, ?_, State.keeps_hit (x := TILE_STP_STAT_RAW_DONE a) (s.stopRaw_keeps a) (.head _), State.tileFrame_trans (s.stopRaw_tileFrame a) (State.hit_tileFrame _ _)⟩
    · rw [exec, execRawDone]
      exact congrArg _ ((if_pos h).trans (State.endRaw_done h))
    · rw [State.hit_tiles, ht, Bank.get_modify_same]
    · exact (State.f_hit_disj _ (x := TILE_STP_STAT_RAW_DONE a) (y := TILE_STP_STAT_RAW a) rfl (.inr (Nat.le_of_ble_eq_true rfl))).trans (s.stopRaw_raw a)
    · rw [State.hit_tiles, ht, Bank.get_modify_same]
      rfl
    · intro b hb
      rw [State.hit_tiles, ht]
      exact Bank.get_modify_ne _ _ hb
  · intro s a h
    rw [exec, execRawDone]
    exact congrArg _ (if_neg h)
  · -- hold current
    intro s a ht ho hs hh hl
    refine ⟨s.hold a, ?_, s.hold_holding a, s.hold_amp a, s.hold_keeps a, s.hold_frame a⟩
    rw [exec, execHoldCurrent]
    exact congrArg _ (if_pos ⟨ht, ho, by simp [hs], hh, by simp [hl]⟩)
  · intro s a h
    rw [exec, execHoldCurrent]
    refine congrArg _ (if_neg ?_)
    rintro ⟨ht, ho, hs, hh, hl⟩
    simp only [Bool.not_eq_true'] at hs hl
    simp [ht, ho, hs, hl] at h
    omega
  · -- the mean resistance
    intro s a p c d mean ht hp hh hi hc hd hn hm1 hm2 hm3
    subst hc hd
    have hmean : mean = State.meanR (s.coil p false) (s.coil p true) := by
      unfold State.meanR
      split
      · next h => exact hm1 h
      · next h =>
        split
        · next h' => exact hm2 h'
        · next h' => exact hm3 h h'
    subst hmean
    obtain ⟨hA, hB⟩ := s.learnR_coil a p (State.meanR (s.coil p false) (s.coil p true))
    refine ⟨_, ?_, s.learnR_rlrn a p _, hA, hB, s.learnR_holdTicks a p _, s.learnR_keeps a p _, s.learnR_stpFrame a p _⟩
    rw [exec, State.execResistanceLearn_eq hp]
    exact congrArg _ (if_pos ⟨ht, hh, hi, by omega⟩)
  · intro s a h
    rw [exec]
    cases hp : s.portOf a with
    | none =>
      unfold execResistanceLearn
      rw [hp]
    | some p =>
      rw [State.execResistanceLearn_eq hp]
      refine congrArg _ (if_neg ?_)
      rintro ⟨ht, hh, hi, hn⟩
      rcases h with h | h | h | h
      · simp [h] at ht
      · omega
      · omega
      · have := h p hp
        omega
  · -- the stall risk
    intro s a ht hs hl
    refine ⟨(s.hit (TILE_STP_STAT_STALL_RISK a)).raise (s.stallMsg a), ?_,
      (State.raise_f _ _ _).trans (State.f_hit_same s (TILE_STP_STAT_STALL_RISK a) (Nat.le_of_ble_eq_true rfl) rfl),
      State.raisedOne_raise _ _ _ rfl rfl, State.keeps_raise _ (State.keeps_hit (x := TILE_STP_STAT_STALL_RISK a) (State.keeps_refl s _) (.head _)), rfl⟩
    rw [exec, execStpStallRisk]
    exact congrArg _ (if_pos ⟨ht, hs, by simp [hl]⟩)
  · intro s a h
    rw [exec, execStpStallRisk]
    refine congrArg _ (if_neg ?_)
    rintro ⟨ht, hs, hl⟩
    simp only [Bool.not_eq_true'] at hl
    simp [ht, hl] at h
    omega
  · intro s a v h
    rw [exec, execStallRiskClear]
    exact congrArg _ (if_pos (by simp [h]))
  · intro s a v ho
    refine ⟨s.clearStall a v, by rw [exec, State.execStallRiskClear_open v ho], fun hv hh hs => ?_, fun h => ?_, fun hv hh => ?_, fun h => ?_,
      s.clearStall_keeps a v, State.portFrame_of_fbps (s.clearStall_portFrame a v) (s.clearStall_fbps a v)⟩
    · unfold State.clearStall
      rw [if_pos ⟨hv, hh, hs⟩]
      exact (State.endCause_f _ _ _ _).trans (State.f_setF_zero _ (TILE_STP_STAT_STALL_RISK a) (Nat.le_of_ble_eq_true rfl))
    · have hc : s.clearStall a v = s.clearBits (TILE_STP_STAT a) (v &&& 0x40#32) := by
        refine if_neg ?_
        rintro ⟨hv, hh, hs⟩
        rw [hv, hh] at h
        simp only [Bool.true_eq_false, Bool.false_eq_true, false_or] at h
        omega
      rw [hc]
      exact ⟨s.clearBits_stall a v, rfl⟩
    · rw [s.clearStall_rawDone a v]
      exact State.f_clearBits_cleared s (x := TILE_STP_STAT_RAW_DONE a) rfl (Nat.le_of_ble_eq_true rfl)
        ((State.getLsbD_and_40 v).2.trans hv) hh
    · rw [s.clearStall_rawDone a v]
      refine State.f_clearBits_kept s (x := TILE_STP_STAT_RAW_DONE a) rfl (Nat.le_of_ble_eq_true rfl) (h.imp ?_ id)
      exact fun hv => (State.getLsbD_and_40 v).2.trans hv

end Sys2Proof.Machine

/-! SUPPORT. O25: the gate lines of a power port, and what a change of theirs does to the port's coils and to its tile (R215, R246,
R248). -/

namespace Sys2Proof.Machine

/-- The registers that a change of a port's gate lines may write, the port's tile being n. -/
def gateRegs (p : Fin 32) (n : Nat) : List Nat := [PP_STAT p, TILE_STP_STAT n, TILE_STP_CUR n, TILE_FB_STAT n]

namespace State

-- ===== the conditions of active gate lines =====

/-- What stands beside a port's status for its gate lines: the other registers, configuration, faults and the port itself. -/
def gateView (s : State) (p : Fin 32) (t : State) : Prop :=
  s.keeps t [PP_STAT p] ∧ t.cfg = s.cfg ∧ t.flt.entries = s.flt.entries ∧ t.pps.get? p = s.pps.get? p

theorem PP_STAT_ge (p : Nat) : 0x100C28 ≤ PP_STAT p := by
  unfold PP_STAT ppBase
  omega

theorem notMem_PP_STAT_of_lt {r : Nat} (p : Nat) (h : r < 0x100C28) : r ∉ [PP_STAT p] := by
  have := PP_STAT_ge p
  simp only [List.mem_singleton]
  omega

theorem PP_CFG_notMem_PP_STAT (p : Nat) : PP_CFG p ∉ [PP_STAT p] := by
  unfold PP_CFG PP_STAT
  simp

theorem groupOf_congr {s t : State} (h : t.cfg = s.cfg) (a : Nat) : t.groupOf a = s.groupOf a := by
  unfold groupOf st
  rw [h]

/-- The state of an STO group is none of a port's status. -/
theorem f_STO_keeps {s t : State} {p : Fin 32} (h : s.keeps t [PP_STAT p]) {g : Nat} (hg : g < 4) :
    t.f (SAFE_STO_STAT_STATE g) = s.f (SAFE_STO_STAT_STATE g) :=
  f_keeps (x := SAFE_STO_STAT_STATE g) h (notMem_PP_STAT_of_lt (r := SAFE_STO_STAT g) p (by unfold SAFE_STO_STAT; omega))

theorem axisOff_gateView {s t : State} {p : Fin 32} (h : s.gateView p t) (a : Nat) : t.axisOff a = s.axisOff a := by
  obtain ⟨hk, hc, -, -⟩ := h
  unfold axisOff groupOff
  rw [groupOf_congr hc]
  by_cases hg : s.groupOf a < 4
  · rw [f_STO_keeps hk hg]
  · simp [hg]

theorem l2On_gateView {s t : State} {p : Fin 32} (h : s.gateView p t) (a : Nat) : t.l2On a = s.l2On a := by
  have ho := axisOff_gateView h a
  obtain ⟨-, hc, he, -⟩ := h
  unfold l2On
  rw [groupOf_congr hc, he, ho]

/-- A status bit that the gate lines do not ask for leaves their conditions (R215). -/
theorem gatesOk_congr {s t : State} {p : Fin 32} (h : s.gateView p t) (hcal : t.flag (PP_STAT_CAL_DONE p) = s.flag (PP_STAT_CAL_DONE p))
    (hb : t.flag (PP_STAT_BFLT p) = s.flag (PP_STAT_BFLT p)) (ho : t.flag (PP_STAT_OC p) = s.flag (PP_STAT_OC p))
    (hv : t.flag (PP_STAT_BUS_OV p) = s.flag (PP_STAT_BUS_OV p)) (hl : t.flag (PP_STAT_SD_LOST p) = s.flag (PP_STAT_SD_LOST p)) :
    t.gatesOk p = s.gatesOk p := by
  have hl2 := l2On_gateView h
  obtain ⟨hk, hc, -, hp⟩ := h
  have hm : t.ppMode p = s.ppMode p := f_keeps (x := PP_CFG_MODE p) hk (PP_CFG_notMem_PP_STAT p)
  have ht : t.f (PP_CFG_TILE p) = s.f (PP_CFG_TILE p) := f_keeps (x := PP_CFG_TILE p) hk (PP_CFG_notMem_PP_STAT p)
  have hmode : t.mode = s.mode := f_keeps (x := SYS_MODE_MODE) hk (notMem_PP_STAT_of_lt p (by decide))
  unfold gatesOk
  dsimp only
  rw [hm, ht, hmode, hcal, hb, ho, hv, hl, hl2, hp, groupOf_congr hc]
  by_cases hg : s.groupOf (s.f (PP_CFG_TILE p)) < 4
  · rw [f_STO_keeps hk hg]
  · simp [hg]

/-- A fault bit that takes the gate lines away does so. -/
theorem gatesOk_of_fault {s : State} {p : Fin 32} {x : Fld}
    (hx : x = PP_STAT_BFLT p ∨ x = PP_STAT_OC p ∨ x = PP_STAT_BUS_OV p ∨ x = PP_STAT_SD_LOST p) (h : s.flag x = true) : s.gatesOk p = false := by
  unfold gatesOk
  rcases hx with rfl | rfl | rfl | rfl <;> simp [h]

theorem gatesOk_of_uncalibrated {s : State} {p : Fin 32} (h : s.flag (PP_STAT_CAL_DONE p) = false) : s.gatesOk p = false := by
  unfold gatesOk
  simp [h]

-- ===== what a change of the gate lines keeps =====

/-- What a change of a port's gate lines keeps: every other bit of the port's status, every register beside those of the port and
its tile, the other ports, the calibration and the fast-filter values of this one. -/
def gateKept (s : State) (p : Fin 32) (n : Nat) (t : State) : Prop :=
  (∀ y : Fld, y.reg = PP_STAT p → 1 ≤ y.lo → t.f y = s.f y) ∧ s.keeps t (gateRegs p n) ∧ (∀ q, q ≠ p → t.pps.get q = s.pps.get q) ∧
    (t.pps.get p).calEnd = (s.pps.get p).calEnd ∧ t = { s with tiles := t.tiles, pps := t.pps, regs := t.regs }

theorem gateKept_refl (s : State) (p : Fin 32) (n : Nat) : s.gateKept p n s :=
  ⟨fun _ _ _ => rfl, keeps_refl s _, fun _ _ => rfl, rfl, rfl⟩

theorem gateKept_trans {s t u : State} {p : Fin 32} {n : Nat} (h : s.gateKept p n t) (h' : t.gateKept p n u) : s.gateKept p n u := by
  obtain ⟨hb, hk, hq, hc, hf⟩ := h
  obtain ⟨hb', hk', hq', hc', hf'⟩ := h'
  exact ⟨fun y hy hl => (hb' y hy hl).trans (hb y hy hl), keeps_trans hk hk', fun q hqp => (hq' q hqp).trans (hq q hqp), hc'.trans hc,
    stpFrame_trans hf hf'⟩

/-- A coil's change keeps all that. -/
theorem modCoil_gateKept (s : State) (p : Fin 32) (n : Nat) (b : Bool) (g : Coil → Coil) : s.gateKept p n (s.modCoil p b g) := by
  refine ⟨fun _ _ _ => rfl, keeps_of_regs rfl _, fun q hq => Bank.get_modify_ne _ _ hq, ?_, rfl⟩
  unfold modCoil
  rw [modPp_pps, Bank.get_modify_same]
  cases b <;> rfl

theorem switchCoil_gateKept (s : State) (p : Fin 32) (n : Nat) (b on forced : Bool) (t : Nat) :
    s.gateKept p n (s.switchCoil p b on forced t) := by
  unfold switchCoil drive account
  exact gateKept_trans (gateKept_trans (modCoil_gateKept s p n b _) (modCoil_gateKept _ p n b _)) (modCoil_gateKept _ p n b _)

theorem setB_GATES_gateKept (s : State) (p : Fin 32) (n : Nat) (on : Bool) : s.gateKept p n (s.setB (PP_STAT_GATES p) on) :=
  ⟨fun _ hy hl => f_setF_disj (x := PP_STAT_GATES p) s _ hy (.inl hl), keeps_setF (x := PP_STAT_GATES p) _ (keeps_refl s _) (.head _),
    fun _ _ => rfl, rfl, rfl⟩

/-- A register of a tile is none of a port's status. -/
theorem tile_ne_PP_STAT (p : Fin 32) (x : Fin 96) :
    PP_STAT p ≠ TILE_STP_STAT x ∧ PP_STAT p ≠ TILE_STP_CUR x ∧ PP_STAT p ≠ TILE_FB_STAT x := by
  unfold PP_STAT ppBase TILE_STP_STAT TILE_STP_CUR TILE_FB_STAT tileBase
  omega

/-- A write to one of those registers of the tile keeps all that. -/
theorem setF_tile_gateKept (s : State) (p : Fin 32) (x : Fin 96) {y : Fld} (v : Nat)
    (h : y.reg = TILE_STP_STAT x ∨ y.reg = TILE_STP_CUR x ∨ y.reg = TILE_FB_STAT x) : s.gateKept p x (s.setF y v) := by
  obtain ⟨h1, h2, h3⟩ := tile_ne_PP_STAT p x
  refine ⟨fun z hz _ => f_setF_ne s v ?_, keeps_setF v (keeps_refl s _) ?_, fun _ _ => rfl, rfl, rfl⟩
  · rcases h with h | h | h <;> rw [hz, h] <;> assumption
  · rcases h with h | h | h <;> rw [h] <;> simp [gateRegs]

theorem modTile_gateKept (s : State) (p : Fin 32) (n : Nat) (x : Fin 96) (g : Tile → Tile) : s.gateKept p n (s.modTile x g) :=
  ⟨fun _ _ _ => rfl, keeps_of_regs rfl _, fun _ _ => rfl, rfl, rfl⟩

-- ===== a change of the gate lines =====

/-- The gate lines change, and both coils are in OFF. -/
def gateSwitch (s : State) (p : Fin 32) (on : Bool) : State :=
  ((s.setB (PP_STAT_GATES p) on).switchCoil p false false false s.time.mono).switchCoil p true false false s.time.mono

theorem gateSwitch_gateKept (s : State) (p : Fin 32) (n : Nat) (on : Bool) : s.gateKept p n (s.gateSwitch p on) :=
  gateKept_trans (gateKept_trans (setB_GATES_gateKept s p n on) (switchCoil_gateKept _ p n false _ _ _)) (switchCoil_gateKept _ p n true _ _ _)

theorem gateSwitch_regs (s : State) (p : Fin 32) (on : Bool) : (s.gateSwitch p on).regs = (s.setB (PP_STAT_GATES p) on).regs := by
  unfold gateSwitch
  rw [ppsOnly_regs (switchCoil_ppsOnly _ p true _ _ _), ppsOnly_regs (switchCoil_ppsOnly _ p false _ _ _)]

theorem gateSwitch_gates (s : State) (p : Fin 32) (on : Bool) : (s.gateSwitch p on).flag (PP_STAT_GATES p) = on :=
  (flag_keeps (keeps_of_regs (gateSwitch_regs s p on) []) List.not_mem_nil).trans
    (flag_setB_same s (PP_STAT_GATES p) on (Nat.le_of_ble_eq_true rfl) rfl)

/-- What the tile takes from it: on, a STEPPER's amplitude starts from 0; off, its raw move ends, and without feedback of its own it
is unreferenced (R246, R248). -/
def gateTile (s : State) (x : Fin 96) (on : Bool) (mode src : Nat) : State :=
  if on then (if mode = 1 then (s.setF (TILE_STP_CUR_I x) 0).modTile x (fun t => { t with rampUp := true }) else s)
  else if src = 0 then ((s.endRaw x false).setF (TILE_FB_STAT_REFERENCED x) 0).modTile x (fun t => { t with setRef := false })
  else s.endRaw x false

theorem endRaw_gateKept (s : State) (p : Fin 32) (x : Fin 96) : s.gateKept p x (s.endRaw x false) := by
  cases h : (s.tiles.get x).rawTo with
  | none =>
    rw [endRaw_none false h]
    exact gateKept_refl s p x
  | some g =>
    rw [endRaw_broken h]
    exact gateKept_trans (modTile_gateKept s p x x _) (setF_tile_gateKept _ p x (y := TILE_STP_STAT_RAW x) 0 (.inl rfl))

theorem gateTile_gateKept (s : State) (p : Fin 32) (x : Fin 96) (on : Bool) (mode src : Nat) : s.gateKept p x (s.gateTile x on mode src) := by
  unfold gateTile
  split
  · split
    · exact gateKept_trans (setF_tile_gateKept s p x (y := TILE_STP_CUR_I x) 0 (.inr (.inl rfl))) (modTile_gateKept _ p x x _)
    · exact gateKept_refl s p x
  · split
    · exact gateKept_trans (gateKept_trans (endRaw_gateKept s p x) (setF_tile_gateKept _ p x (y := TILE_FB_STAT_REFERENCED x) 0 (.inr (.inr rfl))))
        (modTile_gateKept _ p x x _)
    · exact endRaw_gateKept s p x

/-- The tile's part writes registers of the tile only. -/
theorem gateTile_keeps (s : State) (x : Fin 96) (on : Bool) (mode src : Nat) :
    s.keeps (s.gateTile x on mode src) [TILE_STP_STAT x, TILE_STP_CUR x, TILE_FB_STAT x] := by
  have hr : s.keeps (s.endRaw x false) [TILE_STP_STAT x, TILE_STP_CUR x, TILE_FB_STAT x] := by
    cases h : (s.tiles.get x).rawTo with
    | none =>
      rw [endRaw_none false h]
      exact keeps_refl s _
    | some g =>
      rw [endRaw_broken h]
      exact keeps_mono (stopRaw_keeps s x) (by simp)
  unfold gateTile
  split
  · split
    · exact keeps_congr (keeps_setF (x := TILE_STP_CUR_I x) 0 (keeps_refl s _) (.tail _ (.head _))) (modTile_regs _ _ _)
    · exact keeps_refl s _
  · split
    · exact keeps_congr (keeps_setF (x := TILE_FB_STAT_REFERENCED x) 0 hr (.tail _ (.tail _ (.head _)))) (modTile_regs _ _ _)
    · exact hr

/-- The gate lines follow their conditions (R215). -/
theorem gateUpdate_cases (s : State) (p : Fin 32) : (s.gatesOk p = s.flag (PP_STAT_GATES p) ∧ s.gateUpdate p = s) ∨
    s.gateUpdate p = s.gateSwitch p (s.gatesOk p) ∨
    ∃ (x : Fin 96) (mode src : Nat), s.f (PP_CFG_TILE p) = x ∧ s.gateUpdate p = (s.gateSwitch p (s.gatesOk p)).gateTile x (s.gatesOk p) mode src := by
  unfold gateUpdate
  dsimp only
  split
  · next h => exact .inl ⟨h, rfl⟩
  · split
    · next h =>
      refine .inr (.inr ⟨⟨s.f (PP_CFG_TILE p), h⟩, s.ppMode p, s.f (TILE_FB_SRC_SRC (s.f (PP_CFG_TILE p))), rfl, ?_⟩)
      rfl
    · exact .inr (.inl rfl)

theorem gateUpdate_gateKept (s : State) (p : Fin 32) : s.gateKept p (s.f (PP_CFG_TILE p)) (s.gateUpdate p) := by
  rcases gateUpdate_cases s p with ⟨-, h⟩ | h | ⟨x, mode, src, hx, h⟩
  · rw [h]
    exact gateKept_refl s p _
  · rw [h]
    exact gateSwitch_gateKept s p _ _
  · rw [h, hx]
    exact gateKept_trans (gateSwitch_gateKept s p x _) (gateTile_gateKept _ p x _ mode src)

theorem gateUpdate_gates (s : State) (p : Fin 32) : (s.gateUpdate p).flag (PP_STAT_GATES p) = s.gatesOk p := by
  rcases gateUpdate_cases s p with ⟨he, h⟩ | h | ⟨x, mode, src, -, h⟩
  · rw [h, he]
  · rw [h, gateSwitch_gates]
  · obtain ⟨h1, h2, h3⟩ := tile_ne_PP_STAT p x
    rw [h]
    refine (flag_keeps (x := PP_STAT_GATES p) (gateTile_keeps _ x _ mode src) ?_).trans (gateSwitch_gates s p _)
    simpa using ⟨h1, h2, h3⟩

theorem gateUpdate_unchanged {s : State} {p : Fin 32} (h : s.gatesOk p = s.flag (PP_STAT_GATES p)) : s.gateUpdate p = s := if_pos h

end State

end Sys2Proof.Machine

/-! SUPPORT. O25: the faults of a power port, its calibration, the clears and the chopper. -/

namespace Sys2Proof.Machine

namespace State

-- ===== a fault of a port =====

/-- Nothing but the bits that hardware has set, the tiles, the ports and the registers differs. -/
def faultFrame (s t : State) : Prop := t = { s with time := { s.time with hits := t.time.hits }, tiles := t.tiles, pps := t.pps, regs := t.regs }

theorem faultFrame_trans {s t u : State} (h : s.faultFrame t) (h' : t.faultFrame u) : s.faultFrame u := by
  unfold faultFrame at *
  exact h'.trans (by rw [h])

theorem faultFrame_of_stpFrame {s t : State} (h : s.stpFrame t) : s.faultFrame t := by
  unfold faultFrame
  rw [h]

theorem hit_faultFrame (s : State) (x : Fld) : s.faultFrame (s.hit x) := rfl

theorem faultFrame_path {s t : State} (h : s.faultFrame t) : t.flt.path = s.flt.path := by
  rw [h]

theorem faultFrame_mono {s t : State} (h : s.faultFrame t) : t.time.mono = s.time.mono := by
  rw [h]

theorem raise_faultFrame {s t : State} (h : s.faultFrame t) (m : FaultMsg) : t.raise m =
    { s with time := { s.time with hits := (t.raise m).time.hits }, tiles := (t.raise m).tiles, pps := (t.raise m).pps,
             flt := (t.raise m).flt, regs := (t.raise m).regs } := by
  unfold faultFrame at h
  rw [h]
  rfl

/-- A fault bit of a port is set, and the gate lines follow (R245). -/
def raisePortBit (s : State) (p : Fin 32) (x : Fld) : State := (s.hit x).gateUpdate p

/-- The message of a port's fault (R245). -/
def portMsg (s : State) (p : Fin 32) (kind cls level : Nat) (items : List CtxItem) : FaultMsg :=
  mkFault (0xA0 + p) kind cls level items (s.scopeOfAxis (s.f (PP_CFG_TILE p))) true

theorem portFault_eq {s : State} {p : Fin 32} {x : Fld} (kind cls level : Nat) (items : List CtxItem) (h : s.flag x = false)
    (hm : s.ppMode p ≠ 0) : s.portFault p x kind cls level items = (s.raisePortBit p x).raise (s.portMsg p kind cls level items) :=
  if_neg (fun hc => hc.elim (fun hx => by simp [h] at hx) hm)

theorem portFault_standing {s : State} {p : Fin 32} {x : Fld} (kind cls level : Nat) (items : List CtxItem)
    (h : s.flag x = true ∨ s.ppMode p = 0) : s.portFault p x kind cls level items = s := if_pos h

section
variable {s : State} {p : Fin 32} {x : Fld} (hx : x.reg = PP_STAT p)
include hx

theorem hit_PP_STAT_keeps : s.keeps (s.hit x) [PP_STAT p] := keeps_hit (keeps_refl s _) (by rw [hx]; exact .head _)

theorem raisePortBit_gateKept : (s.hit x).gateKept p (s.f (PP_CFG_TILE p)) (s.raisePortBit p x) := by
  have ht : (s.hit x).f (PP_CFG_TILE p) = s.f (PP_CFG_TILE p) := f_keeps (x := PP_CFG_TILE p) (hit_PP_STAT_keeps hx) (PP_CFG_notMem_PP_STAT p)
  rw [← ht]
  exact gateUpdate_gateKept (s.hit x) p

theorem raisePortBit_keeps : s.keeps (s.raisePortBit p x) (gateRegs p (s.f (PP_CFG_TILE p))) := by
  obtain ⟨-, hk, -, -, -⟩ := raisePortBit_gateKept (s := s) hx
  exact keeps_trans (keeps_mono (hit_PP_STAT_keeps hx) (by simp [gateRegs])) hk

theorem raisePortBit_faultFrame : s.faultFrame (s.raisePortBit p x) := by
  obtain ⟨-, -, -, -, hf⟩ := raisePortBit_gateKept (s := s) hx
  exact faultFrame_trans (hit_faultFrame s x) (faultFrame_of_stpFrame hf)

theorem raisePortBit_pps : ∀ q, q ≠ p → (s.raisePortBit p x).pps.get q = s.pps.get q := by
  obtain ⟨-, -, hq, -, -⟩ := raisePortBit_gateKept (s := s) hx
  exact hq

theorem raisePortBit_bit (hl : 1 ≤ x.lo) (hw : x.width = 1) (h32 : x.lo < 32) : (s.raisePortBit p x).f x = 1 := by
  obtain ⟨hb, -, -, -, -⟩ := raisePortBit_gateKept (s := s) hx
  exact (hb x hx hl).trans (f_hit_same s x (by omega) hw)

end

theorem flag_of_f_one {s : State} {x : Fld} (h : s.f x = 1) : s.flag x = true := by
  rw [flag_eq, h]
  rfl

theorem f_of_flag_false {s : State} {x : Fld} (h : s.flag x = false) : s.f x = 0 := by
  rw [flag_eq] at h
  simpa using h

theorem raisePortBit_gates {s : State} {p : Fin 32} {x : Fld}
    (hx : x = PP_STAT_BFLT p ∨ x = PP_STAT_OC p ∨ x = PP_STAT_BUS_OV p ∨ x = PP_STAT_SD_LOST p) : (s.raisePortBit p x).f (PP_STAT_GATES p) = 0 := by
  have h1 : (s.hit x).flag x = true := by
    refine flag_of_f_one ?_
    rcases hx with rfl | rfl | rfl | rfl <;> exact f_hit_same s _ (Nat.le_of_ble_eq_true rfl) rfl
  exact f_of_flag_false ((gateUpdate_gates (s.hit x) p).trans (gatesOk_of_fault hx h1))

/-- A port's fault as a whole: its bit is set, the gate lines are inactive and one message sets out (R245). -/
theorem portFault_off {u s : State} {p : Fin 32} {x : Fld} (kind cls level : Nat) (items : List CtxItem)
    (hx : x = PP_STAT_BFLT p ∨ x = PP_STAT_OC p ∨ x = PP_STAT_BUS_OV p ∨ x = PP_STAT_SD_LOST p)
    (hk : u.keeps s [PP_STAT p]) (hq : ∀ q, q ≠ p → s.pps.get q = u.pps.get q) (hf : u.faultFrame s) (h : s.flag x = false) (hm : s.ppMode p ≠ 0) :
    ∃ t, Host.Outcome.next (s.portFault p x kind cls level items) = (.next t : Out) ∧ t.f x = 1 ∧ t.f (PP_STAT_GATES p) = 0 ∧
      u.raisedOne t (0xA0 + p) kind cls ∧ u.keeps t (gateRegs p (u.f (PP_CFG_TILE p))) ∧ (∀ q, q ≠ p → t.pps.get q = u.pps.get q) ∧
      t = { u with time := { u.time with hits := t.time.hits }, tiles := t.tiles, pps := t.pps, flt := t.flt, regs := t.regs } := by
  have hr : x.reg = PP_STAT p := by rcases hx with rfl | rfl | rfl | rfl <;> rfl
  have hb : (s.raisePortBit p x).f x = 1 := by
    rcases hx with rfl | rfl | rfl | rfl <;> exact raisePortBit_bit rfl (Nat.le_of_ble_eq_true rfl) rfl (Nat.le_of_ble_eq_true rfl)
  have ht : s.f (PP_CFG_TILE p) = u.f (PP_CFG_TILE p) := f_keeps (x := PP_CFG_TILE p) hk (PP_CFG_notMem_PP_STAT p)
  have hF := faultFrame_trans hf (raisePortBit_faultFrame (s := s) hr)
  have hK : u.keeps (s.raisePortBit p x) (gateRegs p (u.f (PP_CFG_TILE p))) := by
    rw [← ht]
    exact keeps_trans (keeps_mono hk (by simp [gateRegs])) (raisePortBit_keeps hr)
  rw [portFault_eq kind cls level items h hm]
  exact ⟨_, rfl, (raise_f _ _ _).trans hb, (raise_f _ _ _).trans (raisePortBit_gates hx),
    raisedOne_raise _ _ (s.portMsg p kind cls level items) (faultFrame_path hF) (faultFrame_mono hF), keeps_raise _ hK,
    fun q hqp => (raisePortBit_pps hr q hqp).trans (hq q hqp), raise_faultFrame hF _⟩

end State

end Sys2Proof.Machine

/-! SUPPORT. O25: calibration, the clears and the chopper's coils. -/

namespace Sys2Proof.Machine

namespace State

-- ===== calibration =====

/-- A port whose calibration starts: CAL_DONE is 0 until t_CAL has passed (R220). -/
def calOpen (s : State) (p : Fin 32) : State :=
  (s.setF (PP_STAT_CAL_DONE p) 0).modPp p (fun x => { x with calEnd := some (s.time.mono + s.msCycles 1) })

theorem calOpen_calDone (s : State) (p : Fin 32) : (s.calOpen p).f (PP_STAT_CAL_DONE p) = 0 :=
  (modPp_f _ _ _ _).trans (f_setF_zero s (PP_STAT_CAL_DONE p) (Nat.le_of_ble_eq_true rfl))

theorem flag_of_f_zero {s : State} {x : Fld} (h : s.f x = 0) : s.flag x = false := by
  rw [flag_eq, h]
  rfl

/-- Inactive gate lines stay inactive while the port is calibrated. -/
theorem startCal_eq {s : State} {p : Fin 32} (h : s.flag (PP_STAT_GATES p) = false) : s.startCal p = s.calOpen p := by
  refine gateUpdate_unchanged (s := s.calOpen p) ?_
  rw [gatesOk_of_uncalibrated (flag_of_f_zero (calOpen_calDone s p)), flag_eq]
  have hg : (s.calOpen p).f (PP_STAT_GATES p) = s.f (PP_STAT_GATES p) :=
    (modPp_f _ _ _ _).trans (f_setF_disj (x := PP_STAT_CAL_DONE p) (y := PP_STAT_GATES p) s _ rfl (.inr (Nat.le_of_ble_eq_true rfl)))
  rw [hg, f_of_flag_false h]
  rfl

/-- The offsets of a port's calibration are stored (R220). -/
def calStored (s : State) (p : Fin 32) (c0 c1 c2 : Int) : State :=
  ((((s.setF (PP_CAL01_LOW p) (wrapNat 16 c0)).setF (PP_CAL01_HIGH p) (wrapNat 16 c1)).setF (PP_CAL2_LOW p) (wrapNat 16 c2)).setF
    (PP_STAT_CAL_DONE p) 1).modPp p (fun x => { x with calEnd := none })

theorem PP_CAL_ne (p : Nat) : PP_CAL01 p ≠ PP_CAL2 p ∧ PP_CAL01 p ≠ PP_STAT p ∧ PP_CAL2 p ≠ PP_STAT p := by
  unfold PP_CAL01 PP_CAL2 PP_STAT
  omega

theorem f_setF_wrapNat16 (s : State) (x : Fld) (v : Int) (h : x.lo + x.width ≤ 32) (hw : x.width = 16) :
    (s.setF x (wrapNat 16 v)).f x = wrapNat 16 v := by
  rw [f_setF_same s x _ h, hw]
  exact Nat.mod_eq_of_lt (wrapNat_lt 16 v)

theorem calStored_low (s : State) (p : Fin 32) (c0 c1 c2 : Int) : (s.calStored p c0 c1 c2).f (PP_CAL01_LOW p) = wrapNat 16 c0 := by
  obtain ⟨h1, h2, -⟩ := PP_CAL_ne p
  unfold calStored
  rw [modPp_f, f_setF_ne (x := PP_STAT_CAL_DONE p) (y := PP_CAL01_LOW p) _ _ h2, f_setF_ne (x := PP_CAL2_LOW p) (y := PP_CAL01_LOW p) _ _ h1,
    f_setF_disj (x := PP_CAL01_HIGH p) (y := PP_CAL01_LOW p) _ _ rfl (.inr (Nat.le_of_ble_eq_true rfl))]
  exact f_setF_wrapNat16 s (PP_CAL01_LOW p) c0 (Nat.le_of_ble_eq_true rfl) rfl

theorem calStored_high (s : State) (p : Fin 32) (c0 c1 c2 : Int) : (s.calStored p c0 c1 c2).f (PP_CAL01_HIGH p) = wrapNat 16 c1 := by
  obtain ⟨h1, h2, -⟩ := PP_CAL_ne p
  unfold calStored
  rw [modPp_f, f_setF_ne (x := PP_STAT_CAL_DONE p) (y := PP_CAL01_HIGH p) _ _ h2, f_setF_ne (x := PP_CAL2_LOW p) (y := PP_CAL01_HIGH p) _ _ h1]
  exact f_setF_wrapNat16 _ (PP_CAL01_HIGH p) c1 (Nat.le_of_ble_eq_true rfl) rfl

theorem calStored_cal2 (s : State) (p : Fin 32) (c0 c1 c2 : Int) : (s.calStored p c0 c1 c2).f (PP_CAL2_LOW p) = wrapNat 16 c2 := by
  obtain ⟨-, -, h3⟩ := PP_CAL_ne p
  unfold calStored
  rw [modPp_f, f_setF_ne (x := PP_STAT_CAL_DONE p) (y := PP_CAL2_LOW p) _ _ h3]
  exact f_setF_wrapNat16 _ (PP_CAL2_LOW p) c2 (Nat.le_of_ble_eq_true rfl) rfl

theorem calStored_calDone (s : State) (p : Fin 32) (c0 c1 c2 : Int) : (s.calStored p c0 c1 c2).f (PP_STAT_CAL_DONE p) = 1 :=
  (modPp_f _ _ _ _).trans (f_setF_one _ (PP_STAT_CAL_DONE p) (Nat.le_of_ble_eq_true rfl) rfl)

theorem calStored_keeps (s : State) (p : Fin 32) (c0 c1 c2 : Int) :
    s.keeps (s.calStored p c0 c1 c2) [PP_CAL01 p, PP_CAL2 p, PP_STAT p] := by
  have h1 := keeps_setF (x := PP_CAL01_LOW p) (wrapNat 16 c0) (keeps_refl s [PP_CAL01 p, PP_CAL2 p, PP_STAT p]) (.head _)
  have h2 := keeps_setF (x := PP_CAL01_HIGH p) (wrapNat 16 c1) h1 (.head _)
  have h3 := keeps_setF (x := PP_CAL2_LOW p) (wrapNat 16 c2) h2 (.tail _ (.head _))
  have h4 := keeps_setF (x := PP_STAT_CAL_DONE p) 1 h3 (.tail _ (.tail _ (.head _)))
  exact keeps_congr h4 (modPp_regs _ _ _)

theorem modPp_stpFrame (s : State) (p : Fin 32) (g : PowerPort → PowerPort) : s.stpFrame (s.modPp p g) := rfl

theorem calStored_stpFrame (s : State) (p : Fin 32) (c0 c1 c2 : Int) : s.stpFrame (s.calStored p c0 c1 c2) :=
  stpFrame_trans (stpFrame_trans (stpFrame_trans (stpFrame_trans (setF_stpFrame s _ _) (setF_stpFrame _ _ _)) (setF_stpFrame _ _ _))
    (setF_stpFrame _ _ _)) (modPp_stpFrame _ p _)

theorem calStored_pps (s : State) (p : Fin 32) (c0 c1 c2 : Int) : (s.calStored p c0 c1 c2).pps = s.pps.modify p (fun x => { x with calEnd := none }) := by
  unfold calStored
  rw [modPp_pps, setF_pps, setF_pps, setF_pps, setF_pps]

/-- The registers that gate lines may write are none of a port's calibration or configuration. -/
theorem PP_CAL_notMem_gateRegs (p : Fin 32) (n : Nat) : PP_CAL01 p ∉ gateRegs p n ∧ PP_CAL2 p ∉ gateRegs p n := by
  unfold gateRegs PP_CAL01 PP_CAL2 PP_STAT ppBase TILE_STP_STAT TILE_STP_CUR TILE_FB_STAT tileBase
  simp only [List.mem_cons, List.not_mem_nil, or_false, not_or]
  omega

theorem PP_CFG_notMem_cal (p : Nat) : PP_CFG p ∉ [PP_CAL01 p, PP_CAL2 p, PP_STAT p] := by
  unfold PP_CFG PP_CAL01 PP_CAL2 PP_STAT
  simp

theorem execCalDone_due {s : State} {p : Fin 32} {m e : Nat} (c0 c1 c2 : Int) (hc : (s.pps.get p).calEnd = some e)
    (he : e ≤ (s.runTo m).time.mono) : execCalDone p c0 c1 c2 m s = .next (((s.runTo m).calStored p c0 c1 c2).gateUpdate p) := by
  unfold execCalDone
  dsimp only
  rw [runTo_pps, hc]
  exact congrArg _ (if_pos he)

theorem execCalDone_not_due {s : State} {p : Fin 32} {m : Nat} (c0 c1 c2 : Int)
    (h : ∀ e, (s.pps.get p).calEnd = some e → (s.runTo m).time.mono < e) : execCalDone p c0 c1 c2 m s = .next (s.runTo m) := by
  unfold execCalDone
  dsimp only
  rw [runTo_pps]
  cases hc : (s.pps.get p).calEnd with
  | none => rfl
  | some e => exact congrArg _ (if_neg (Nat.not_le.mpr (h e hc)))

-- ===== clears =====

theorem clearIf_time (s : State) (go : Bool) (x : Fld) (a k : Nat) : (s.clearIf go x a k).time = s.time := by
  unfold clearIf
  split
  · rw [endCause_time, setF_time]
  · rfl

theorem hitNow_congr {s t : State} (h : t.time = s.time) (x : Fld) : t.hitNow x = s.hitNow x := by
  unfold hitNow hitMask
  rw [h]

theorem clearIf_same (s : State) (go : Bool) (x : Fld) (a k : Nat) (h : x.lo + x.width ≤ 32) :
    (s.clearIf go x a k).f x = if go = true ∧ s.hitNow x = false then 0 else s.f x := by
  unfold clearIf
  simp only [Bool.not_eq_true']
  split
  · rw [endCause_f, f_setF_zero s x h]
  · rfl

theorem clearIf_other (s : State) (go : Bool) {x y : Fld} (a k : Nat) (hr : y.reg = x.reg) (h : x.lo + x.width ≤ y.lo ∨ y.lo + y.width ≤ x.lo) :
    (s.clearIf go x a k).f y = s.f y := by
  unfold clearIf
  split
  · rw [endCause_f, f_setF_disj s _ hr h]
  · rfl

theorem clearIf_keeps (s : State) (go : Bool) (x : Fld) (a k : Nat) : s.keeps (s.clearIf go x a k) [x.reg] := by
  unfold clearIf
  split
  · exact keeps_endCause _ _ (keeps_setF 0 (keeps_refl s _) (.head _))
  · exact keeps_refl s _

/-- Nothing but the tiles, the ports, the fault logic and the registers differs. -/
def clearFrame (s t : State) : Prop := t = { s with tiles := t.tiles, pps := t.pps, flt := t.flt, regs := t.regs }

theorem clearFrame_trans {s t u : State} (h : s.clearFrame t) (h' : t.clearFrame u) : s.clearFrame u := by
  unfold clearFrame at *
  exact h'.trans (by rw [h])

theorem clearFrame_of_stpFrame {s t : State} (h : s.stpFrame t) : s.clearFrame t := by
  unfold clearFrame
  rw [h]

theorem endCause_clearFrame (s : State) (a k : Nat) : s.clearFrame (s.endCause a k) := rfl

theorem clearIf_clearFrame (s : State) (go : Bool) (x : Fld) (a k : Nat) : s.clearFrame (s.clearIf go x a k) := by
  unfold clearIf
  split
  · exact clearFrame_trans (clearFrame_of_stpFrame (setF_stpFrame s x 0)) (endCause_clearFrame _ a k)
  · rfl

theorem clearIf_pps (s : State) (go : Bool) (x : Fld) (a k : Nat) : (s.clearIf go x a k).pps = s.pps := by
  unfold clearIf
  split
  · rw [endCause_pps, setF_pps]
  · rfl

/-- The fault bits of a port clear, each by its own condition (R241 to R245). -/
def clearFaults (s : State) (p : Fin 32) (bflt oc uv ov sd : Bool) : State :=
  ((((s.clearIf bflt (PP_STAT_BFLT p) (0xA0 + p) 0x28).clearIf oc (PP_STAT_OC p) (0xA0 + p) 0x29).clearIf
    uv (PP_STAT_BUS_UV p) (0xA0 + p) 0x2A).clearIf ov (PP_STAT_BUS_OV p) (0xA0 + p) 0x2B).clearIf sd (PP_STAT_SD_LOST p) (0xA0 + p) 0x2C

section
variable (s : State) (p : Fin 32) (bflt oc uv ov sd : Bool)

theorem clearFaults_keeps : s.keeps (s.clearFaults p bflt oc uv ov sd) [PP_STAT p] :=
  keeps_trans (keeps_trans (keeps_trans (keeps_trans (clearIf_keeps s bflt (PP_STAT_BFLT p) _ _) (clearIf_keeps _ oc (PP_STAT_OC p) _ _))
    (clearIf_keeps _ uv (PP_STAT_BUS_UV p) _ _)) (clearIf_keeps _ ov (PP_STAT_BUS_OV p) _ _)) (clearIf_keeps _ sd (PP_STAT_SD_LOST p) _ _)

theorem clearFaults_clearFrame : s.clearFrame (s.clearFaults p bflt oc uv ov sd) :=
  clearFrame_trans (clearFrame_trans (clearFrame_trans (clearFrame_trans (clearIf_clearFrame s bflt _ _ _) (clearIf_clearFrame _ oc _ _ _))
    (clearIf_clearFrame _ uv _ _ _)) (clearIf_clearFrame _ ov _ _ _)) (clearIf_clearFrame _ sd _ _ _)

theorem clearFaults_pps : (s.clearFaults p bflt oc uv ov sd).pps = s.pps := by
  unfold clearFaults
  rw [clearIf_pps, clearIf_pps, clearIf_pps, clearIf_pps, clearIf_pps]

/-- A bit that no clear names keeps its value. -/
theorem clearFaults_other {y : Fld} (hr : y.reg = PP_STAT p) (h : 7 ≤ y.lo ∨ y.lo + y.width ≤ 2) : (s.clearFaults p bflt oc uv ov sd).f y = s.f y := by
  have hd : ∀ k, 2 ≤ k → k ≤ 6 → k + 1 ≤ y.lo ∨ y.lo + y.width ≤ k := by omega
  unfold clearFaults
  rw [clearIf_other (x := PP_STAT_SD_LOST p) _ _ _ _ hr (hd 6 (by decide) (by decide)),
    clearIf_other (x := PP_STAT_BUS_OV p) _ _ _ _ hr (hd 5 (by decide) (by decide)),
    clearIf_other (x := PP_STAT_BUS_UV p) _ _ _ _ hr (hd 4 (by decide) (by decide)),
    clearIf_other (x := PP_STAT_OC p) _ _ _ _ hr (hd 3 (by decide) (by decide)),
    clearIf_other (x := PP_STAT_BFLT p) _ _ _ _ hr (hd 2 (by decide) (by decide))]

/-- The clear of one bit does not reach another of the same status word. -/
theorem clearIf_bit (go : Bool) (a k : Nat) {i j : Nat} (h : j ≠ i) : (s.clearIf go ⟨PP_STAT p, i, 1⟩ a k).f ⟨PP_STAT p, j, 1⟩ = s.f ⟨PP_STAT p, j, 1⟩ :=
  clearIf_other s go a k rfl (by dsimp only; omega)

/-- A bit after all clears is 0 where its own clear applies, else as before. -/
theorem clearFaults_bflt : (s.clearFaults p bflt oc uv ov sd).f (PP_STAT_BFLT p) =
    if bflt = true ∧ s.hitNow (PP_STAT_BFLT p) = false then 0 else s.f (PP_STAT_BFLT p) := by
  rw [← clearIf_same s bflt (PP_STAT_BFLT p) (0xA0 + p) 0x28 (Nat.le_of_ble_eq_true rfl)]
  exact (clearIf_bit _ p sd _ _ (by decide)).trans ((clearIf_bit _ p ov _ _ (by decide)).trans ((clearIf_bit _ p uv _ _ (by decide)).trans
    (clearIf_bit _ p oc _ _ (by decide))))

theorem clearFaults_oc : (s.clearFaults p bflt oc uv ov sd).f (PP_STAT_OC p) =
    if oc = true ∧ s.hitNow (PP_STAT_OC p) = false then 0 else s.f (PP_STAT_OC p) := by
  have h0 : (s.clearIf bflt (PP_STAT_BFLT p) (0xA0 + p) 0x28).f (PP_STAT_OC p) = s.f (PP_STAT_OC p) := clearIf_bit s p bflt _ _ (by decide)
  rw [← h0, ← hitNow_congr (clearIf_time s bflt (PP_STAT_BFLT p) (0xA0 + p) 0x28), ← clearIf_same _ oc (PP_STAT_OC p) (0xA0 + p) 0x29 (Nat.le_of_ble_eq_true rfl)]
  exact (clearIf_bit _ p sd _ _ (by decide)).trans ((clearIf_bit _ p ov _ _ (by decide)).trans (clearIf_bit _ p uv _ _ (by decide)))

/-- Two clears leave what hardware has set in this cycle. -/
theorem clearIf_clearIf_time (x y : Fld) (go go' : Bool) (a k a' k' : Nat) : ((s.clearIf go x a k).clearIf go' y a' k').time = s.time :=
  (clearIf_time _ _ _ _ _).trans (clearIf_time _ _ _ _ _)

theorem clearFaults_uv : (s.clearFaults p bflt oc uv ov sd).f (PP_STAT_BUS_UV p) =
    if uv = true ∧ s.hitNow (PP_STAT_BUS_UV p) = false then 0 else s.f (PP_STAT_BUS_UV p) := by
  have h0 : ((s.clearIf bflt (PP_STAT_BFLT p) (0xA0 + p) 0x28).clearIf oc (PP_STAT_OC p) (0xA0 + p) 0x29).f (PP_STAT_BUS_UV p) =
      s.f (PP_STAT_BUS_UV p) := (clearIf_bit _ p oc _ _ (by decide)).trans (clearIf_bit s p bflt _ _ (by decide))
  rw [← h0, ← hitNow_congr (clearIf_clearIf_time s (PP_STAT_BFLT p) (PP_STAT_OC p) bflt oc (0xA0 + p) 0x28 (0xA0 + p) 0x29),
    ← clearIf_same _ uv (PP_STAT_BUS_UV p) (0xA0 + p) 0x2A (Nat.le_of_ble_eq_true rfl)]
  exact (clearIf_bit _ p sd _ _ (by decide)).trans (clearIf_bit _ p ov _ _ (by decide))

theorem clearFaults_ov : (s.clearFaults p bflt oc uv ov sd).f (PP_STAT_BUS_OV p) =
    if ov = true ∧ s.hitNow (PP_STAT_BUS_OV p) = false then 0 else s.f (PP_STAT_BUS_OV p) := by
  have h0 : (((s.clearIf bflt (PP_STAT_BFLT p) (0xA0 + p) 0x28).clearIf oc (PP_STAT_OC p) (0xA0 + p) 0x29).clearIf
      uv (PP_STAT_BUS_UV p) (0xA0 + p) 0x2A).f (PP_STAT_BUS_OV p) = s.f (PP_STAT_BUS_OV p) :=
    (clearIf_bit _ p uv _ _ (by decide)).trans ((clearIf_bit _ p oc _ _ (by decide)).trans (clearIf_bit s p bflt _ _ (by decide)))
  rw [← h0, ← hitNow_congr ((clearIf_time _ uv (PP_STAT_BUS_UV p) (0xA0 + p) 0x2A).trans
      (clearIf_clearIf_time s (PP_STAT_BFLT p) (PP_STAT_OC p) bflt oc (0xA0 + p) 0x28 (0xA0 + p) 0x29)),
    ← clearIf_same _ ov (PP_STAT_BUS_OV p) (0xA0 + p) 0x2B (Nat.le_of_ble_eq_true rfl)]
  exact clearIf_bit _ p sd _ _ (by decide)

theorem clearFaults_sd : (s.clearFaults p bflt oc uv ov sd).f (PP_STAT_SD_LOST p) =
    if sd = true ∧ s.hitNow (PP_STAT_SD_LOST p) = false then 0 else s.f (PP_STAT_SD_LOST p) := by
  have h0 : ((((s.clearIf bflt (PP_STAT_BFLT p) (0xA0 + p) 0x28).clearIf oc (PP_STAT_OC p) (0xA0 + p) 0x29).clearIf
      uv (PP_STAT_BUS_UV p) (0xA0 + p) 0x2A).clearIf ov (PP_STAT_BUS_OV p) (0xA0 + p) 0x2B).f (PP_STAT_SD_LOST p) = s.f (PP_STAT_SD_LOST p) :=
    (clearIf_bit _ p ov _ _ (by decide)).trans ((clearIf_bit _ p uv _ _ (by decide)).trans ((clearIf_bit _ p oc _ _ (by decide)).trans
      (clearIf_bit s p bflt _ _ (by decide))))
  rw [← h0, ← hitNow_congr ((clearIf_clearIf_time _ (PP_STAT_BUS_UV p) (PP_STAT_BUS_OV p) uv ov (0xA0 + p) 0x2A (0xA0 + p) 0x2B).trans
      (clearIf_clearIf_time s (PP_STAT_BFLT p) (PP_STAT_OC p) bflt oc (0xA0 + p) 0x28 (0xA0 + p) 0x29)),
    ← clearIf_same _ sd (PP_STAT_SD_LOST p) (0xA0 + p) 0x2C (Nat.le_of_ble_eq_true rfl)]
  rfl

end

-- ===== the chopper =====

/-- A coil that is switched: its phase, whether it is forced, since when; the other coil stays (R230). -/
theorem switchCoil_coil (s : State) (p : Fin 32) (b on forced : Bool) (t : Nat) :
    ((s.switchCoil p b on forced t).coil p b).on = on ∧ ((s.switchCoil p b on forced t).coil p b).forced = forced ∧
    ((s.switchCoil p b on forced t).coil p b).since = t ∧ ((s.switchCoil p b on forced t).coil p b).hit = (s.coil p b).hit ∧
    (s.switchCoil p b on forced t).coil p (!b) = s.coil p (!b) := by
  unfold switchCoil drive account
  rw [coil_modCoil_same, coil_modCoil_same, coil_modCoil_same, coil_modCoil_other, coil_modCoil_other, coil_modCoil_other]
  exact ⟨rfl, rfl, rfl, rfl, rfl⟩

end State

end Sys2Proof.Machine

namespace Sys2Proof.Machine

namespace State

theorem band_nonneg (s : State) (p : Nat) : 0 ≤ s.band p := Int.natCast_nonneg _

theorem chop_idle {v : State} {p : Fin 32} {b : Bool} (i : Int) (t : Nat) (h : v.flag (PP_STAT_GATES p) = false ∨ (v.coil p b).star = 0) :
    v.chop p b i t = v := if_pos (by simpa using h)

section
variable {v : State} {p : Fin 32} {b : Bool} {i cur lo hi : Int} {t : Nat}
  (hcur : cur = (v.coil p b).star.sign * i) (hhi : hi = 2 * (|(v.coil p b).star| + v.coilOfs p b) + v.band p)
  (hg : v.flag (PP_STAT_GATES p) = true) (hs : (v.coil p b).star ≠ 0)
include hcur hhi hg hs

/-- A driven coil's chopper, with the thresholds named: in its on-phase, and out of it (R230, R231). -/
theorem chop_on (ho : (v.coil p b).on = true) : v.chop p b i t =
    if hi ≤ 2 * cur ∧ (v.coil p b).since + v.tblank p ≤ t then (v.modCoil p b (fun c => { c with hit := true })).switchCoil p b false false t else v := by
  subst hcur hhi
  unfold chop
  dsimp only
  rw [if_neg (by simp [hg, hs]), if_pos ho]
  simp only [decide_eq_true_eq]

theorem chop_off (hlo : lo = 2 * (|(v.coil p b).star| + v.coilOfs p b) - v.band p) (ho : (v.coil p b).on = false) : v.chop p b i t =
    if t < (v.coil p b).since + v.toff p then v
    else if (v.coil p b).forced = true ∧ hi < 2 * cur then v
    else if 2 * cur ≤ lo then v.switchCoil p b true false t
    else if (v.coil p b).forced = true then ((v.account p b t).modCoil p b (fun c => { c with forced := false })).drive p b t
    else v := by
  subst hcur hhi hlo
  unfold chop
  dsimp only
  rw [if_neg (by simp [hg, hs]), if_neg (by simp [ho])]
  simp only [decide_eq_true_eq]

end

end State

/-- A bus undervoltage leaves the conditions of the gate lines as they are (R215, R243). -/
theorem State.gatesOk_hit_BUS_UV (s : State) (p : Fin 32) : (s.hit (PP_STAT_BUS_UV p)).gatesOk p = s.gatesOk p := by
  have hf : ∀ i, 4 + 1 ≤ i ∨ i + 1 ≤ 4 → (s.hit (PP_STAT_BUS_UV p)).flag ⟨PP_STAT p, i, 1⟩ = s.flag ⟨PP_STAT p, i, 1⟩ := fun i hi => by
    rw [flag_eq, flag_eq, f_hit_disj s (x := PP_STAT_BUS_UV p) (y := ⟨PP_STAT p, i, 1⟩) rfl hi]
  exact gatesOk_congr ⟨hit_PP_STAT_keeps rfl, rfl, rfl, rfl⟩ (hf 1 (by decide)) (hf 2 (by decide)) (hf 3 (by decide)) (hf 5 (by decide)) (hf 6 (by decide))

/-- Settles O25: calibration, each fault with its quiet case, the clears and the chopper. -/
theorem powerPortRuns : Obligations.PowerPortRuns := by
  unfold Obligations.PowerPortRuns
  intro near off
  refine ⟨?_, ?_, ?_, ?_, ?_, ?_, ?_, ?_, ?_, ?_, ?_, ?_, ?_, ?_, ?_, ?_, ?_, ?_, ?_, ?_, ?_⟩
  · intro s p h
    rw [exec, execPpCal]
    exact congrArg _ (if_pos (by simpa using h))
  · -- a calibration starts
    intro s p ho hg hm
    refine ⟨s.calOpen p, ?_, s.calOpen_calDone p, ?_, ?_, fun q hq => Bank.get_modify_ne _ _ hq, rfl⟩
    · rw [exec, execPpCal, State.startCal_eq hg]
      exact congrArg _ (if_neg (by simp [ho, hg, hm]))
    · exact congrArg PowerPort.calEnd (Bank.get_modify_same _ _ _)
    · exact State.keeps_congr (State.keeps_setF (x := PP_STAT_CAL_DONE p) 0 (State.keeps_refl s _) (.head _)) (State.modPp_regs _ _ _)
  · -- and ends
    intro s u p c0 c1 c2 m e hu hc he
    subst hu
    have ht : ((s.runTo m).calStored p c0 c1 c2).f (PP_CFG_TILE p) = (s.runTo m).f (PP_CFG_TILE p) :=
      State.f_keeps (x := PP_CFG_TILE p) (State.calStored_keeps _ p c0 c1 c2) (State.PP_CFG_notMem_cal p)
    obtain ⟨hb, hk, hq, hce, hf⟩ := State.gateUpdate_gateKept ((s.runTo m).calStored p c0 c1 c2) p
    obtain ⟨h01, h2⟩ := State.PP_CAL_notMem_gateRegs p (((s.runTo m).calStored p c0 c1 c2).f (PP_CFG_TILE p))
    have hp := State.calStored_pps (s.runTo m) p c0 c1 c2
    refine ⟨_, (State.execCalDone_due c0 c1 c2 hc he), ?_, ?_, ?_, ?_, ?_, ?_, fun q hqp => ?_, ?_⟩
    · exact (State.f_keeps (x := PP_CAL01_LOW p) hk h01).trans (State.calStored_low _ p c0 c1 c2)
    · exact (State.f_keeps (x := PP_CAL01_HIGH p) hk h01).trans (State.calStored_high _ p c0 c1 c2)
    · exact (State.f_keeps (x := PP_CAL2_LOW p) hk h2).trans (State.calStored_cal2 _ p c0 c1 c2)
    · exact (hb (PP_STAT_CAL_DONE p) rfl (Nat.le_of_ble_eq_true rfl)).trans (State.calStored_calDone _ p c0 c1 c2)
    · rw [hce, hp, Bank.get_modify_same]
    · rw [ht] at hk
      exact State.keeps_trans (State.keeps_mono (State.calStored_keeps _ p c0 c1 c2) (by simp [near]))
        (State.keeps_mono hk (by simp [near, gateRegs]))
    · rw [hq q hqp, hp, Bank.get_modify_ne _ _ hqp]
    · exact State.stpFrame_trans (State.calStored_stpFrame _ p c0 c1 c2) hf
  · intro s p c0 c1 c2 m h
    exact State.execCalDone_not_due c0 c1 c2 h
  · -- bridge faults
    intro s u p low n m hu h
    subst hu
    rw [exec, execPpBridgeFault]
    exact congrArg _ (if_pos h)
  · intro s u p low n m hu hn hm h
    subst hu
    refine ⟨(s.runTo m).setB (PP_STAT_FLT_IN p) low, ?_, State.f_setB_same _ (PP_STAT_FLT_IN p) low (Nat.le_of_ble_eq_true rfl) rfl,
      State.f_setF_disj (x := PP_STAT_FLT_IN p) (y := PP_STAT_BFLT p) _ _ rfl (.inr (Nat.le_of_ble_eq_true rfl)),
      State.keeps_setF (x := PP_STAT_FLT_IN p) _ (State.keeps_refl _ _) (.head _), rfl⟩
    rw [exec, execPpBridgeFault]
    refine congrArg _ ((if_neg (not_or.mpr ⟨Nat.not_lt.mpr hn, hm⟩)).trans ?_)
    rcases h with h | h
    · rw [h]
      rfl
    · refine (ite_eq_right_iff.mpr fun _ => ?_)
      refine State.portFault_standing _ _ _ _ (.inl ?_)
      rw [State.flag_eq] at h ⊢
      rw [State.setB_eq, State.f_setF_disj (x := PP_STAT_FLT_IN p) (y := PP_STAT_BFLT p) _ _ rfl (.inr (Nat.le_of_ble_eq_true rfl))]
      exact h
  · intro s u p n m hu hn hm h
    subst hu
    have he : exec (.ppBridgeFault p true n m) s =
        .next (((s.runTo m).setB (PP_STAT_FLT_IN p) true).portFault p (PP_STAT_BFLT p) 0x28 cMAJOR 2 [.inst p]) := by
      rw [exec, execPpBridgeFault]
      exact congrArg _ ((if_neg (not_or.mpr ⟨Nat.not_lt.mpr hn, hm⟩)).trans (if_pos rfl))
    have hk : (s.runTo m).keeps ((s.runTo m).setB (PP_STAT_FLT_IN p) true) [PP_STAT p] :=
      State.keeps_setF (x := PP_STAT_FLT_IN p) _ (State.keeps_refl _ _) (.head _)
    have hf : ((s.runTo m).setB (PP_STAT_FLT_IN p) true).flag (PP_STAT_BFLT p) = false := by
      rw [State.flag_eq] at h ⊢
      rw [State.setB_eq, State.f_setF_disj (x := PP_STAT_FLT_IN p) (y := PP_STAT_BFLT p) _ _ rfl (.inr (Nat.le_of_ble_eq_true rfl))]
      exact h
    rw [he]
    refine State.portFault_off _ _ _ _ (.inl rfl) hk (fun _ _ => rfl) (State.faultFrame_of_stpFrame (State.setF_stpFrame _ _ _)) hf ?_
    exact fun h0 => hm ((State.f_keeps (x := PP_CFG_MODE p) hk (State.PP_CFG_notMem_PP_STAT p)).symm.trans h0)
  · -- overcurrent
    intro s p ch v w hw hc hl hf hm
    subst hw
    have he : exec (.ppOvercurrent p ch v) s = .next ((s.modPp p (fun x => { x with fast := x.fast.set ch (s.fastValue p ch v) })).portFault
        p (PP_STAT_OC p) 0x29 cMAJOR 2 [.inst p, .inst ch]) := by
      rw [exec, execPpOvercurrent, State.checkOc]
      exact congrArg _ (if_pos ⟨hc, hl⟩)
    rw [he]
    exact State.portFault_off _ _ _ _ (.inr (.inl rfl)) (State.keeps_of_regs (State.modPp_regs _ _ _) _)
      (fun q hq => Bank.get_modify_ne _ _ hq) (State.faultFrame_of_stpFrame (State.modPp_stpFrame _ _ _)) hf hm
  · intro s p ch v w hw h
    subst hw
    refine ⟨s.modPp p (fun x => { x with fast := x.fast.set ch (s.fastValue p ch v) }), ?_,
      congrArg PowerPort.fast (Bank.get_modify_same _ _ _), fun q hq => Bank.get_modify_ne _ _ hq, rfl⟩
    rw [exec, execPpOvercurrent, State.checkOc]
    refine congrArg _ (ite_eq_right_iff.mpr fun ⟨hc, hl⟩ => State.portFault_standing _ _ _ _ ?_)
    rcases h with ⟨h2, h⟩ | h | h | h
    · rcases hc with hc | ⟨hm, hw⟩
      · omega
      · simp [hm, hw] at h
    · omega
    · exact .inl h
    · exact .inr h
  · intro s p ch v
    unfold State.fastValue
    exact ⟨fun h => if_neg (by simp [h]), fun h => if_pos h⟩
  · -- the bus voltage
    intro s p hb hf hm
    have he : exec (.ppBusOv p) s = .next (s.portFault p (PP_STAT_BUS_OV p) 0x2B cMAJOR 2 [.inst p, .sval (s.busMv p)]) := by
      rw [exec, execPpBusOv]
      exact congrArg _ (if_pos hb)
    rw [he]
    exact State.portFault_off _ _ _ _ (.inr (.inr (.inl rfl))) (State.keeps_refl s _) (fun _ _ => rfl) rfl hf hm
  · intro s p h
    rw [exec, execPpBusOv]
    refine congrArg _ (ite_eq_right_iff.mpr fun hb => State.portFault_standing _ _ _ _ ?_)
    exact h.resolve_left (by simp [hb])
  · -- lost data lines
    intro s p ch n hn hm hf
    have he : exec (.ppSdLost p ch n) s = .next (s.portFault p (PP_STAT_SD_LOST p) 0x2C cMAJOR 2 [.inst p, .inst ch]) := by
      rw [exec, execPpSdLost]
      exact congrArg _ (if_neg (not_or.mpr ⟨hm, Nat.not_lt.mpr hn⟩))
    rw [he]
    exact State.portFault_off _ _ _ _ (.inr (.inr (.inr rfl))) (State.keeps_refl s _) (fun _ _ => rfl) rfl hf hm
  · intro s p ch n h
    rw [exec, execPpSdLost]
    refine congrArg _ (ite_eq_left_iff.mpr fun hc => State.portFault_standing _ _ _ _ ?_)
    rcases h with h | h | h
    · exact absurd (.inr h) hc
    · exact .inr h
    · exact .inl h
  · -- a bus undervoltage leaves the gate lines to their conditions
    intro s p hb hf hm
    have hF : s.faultFrame (s.raisePortBit p (PP_STAT_BUS_UV p)) := State.raisePortBit_faultFrame rfl
    refine ⟨(s.raisePortBit p (PP_STAT_BUS_UV p)).raise (s.portMsg p 0x2A cMINOR 1 [.inst p, .sval (s.busMv p)]), ?_,
      (State.raise_f _ _ _).trans (State.raisePortBit_bit rfl (Nat.le_of_ble_eq_true rfl) rfl (Nat.le_of_ble_eq_true rfl)), ?_,
      State.raisedOne_raise _ _ _ (State.faultFrame_path hF) (State.faultFrame_mono hF), State.keeps_raise _ (State.raisePortBit_keeps rfl),
      State.raisePortBit_pps rfl, State.raise_faultFrame hF _⟩
    · rw [exec, execPpBusUv, if_pos hb, State.portFault_eq _ _ _ _ hf hm]
    · exact (State.raise_flag _ _ _).trans ((State.gateUpdate_gates _ p).trans (State.gatesOk_hit_BUS_UV s p))
  · intro s p h
    rw [exec, execPpBusUv]
    refine congrArg _ (ite_eq_right_iff.mpr fun hb => State.portFault_standing _ _ _ _ ?_)
    exact h.resolve_left (by simp [hb])
  · -- clears
    intro s p v low alive h
    rw [exec, execPpFaultClear]
    exact congrArg _ (if_pos (by simpa using h))
  · intro s p v low alive ho hm
    have hk := s.clearFaults_keeps p (v.getLsbD 2 && !low) (v.getLsbD 3 && !(s.pps.get p).fast.any (fun v => decide ((s.f (PP_LIM_OC_LIM p) : Int) < |v|)))
      (v.getLsbD 4 && !s.busLow p) (v.getLsbD 5 && !s.busHigh p) (v.getLsbD 6 && alive)
    generalize hoc : (v.getLsbD 3 && !(s.pps.get p).fast.any (fun v => decide ((s.f (PP_LIM_OC_LIM p) : Int) < |v|))) = oc at hk
    have hin : oc = true ↔ v.getLsbD 3 = true ∧ ∀ x ∈ (s.pps.get p).fast, |x| ≤ (s.f (PP_LIM_OC_LIM p) : Int) := by
      rw [← hoc]
      simp
    have ht := State.f_keeps (x := PP_CFG_TILE p) hk (State.PP_CFG_notMem_PP_STAT p)
    obtain ⟨hb, hg, hq, -, hf⟩ := State.gateUpdate_gateKept (s.clearFaults p (v.getLsbD 2 && !low) oc (v.getLsbD 4 && !s.busLow p)
      (v.getLsbD 5 && !s.busHigh p) (v.getLsbD 6 && alive)) p
    refine ⟨_, ?_, ?_, ?_, ?_, ?_, ?_, ?_, ?_, fun q hqp => ?_, State.clearFrame_trans (s.clearFaults_clearFrame p _ _ _ _ _) (State.clearFrame_of_stpFrame hf)⟩
    · rw [exec, execPpFaultClear, ← hoc]
      exact congrArg _ (if_neg (by simp [ho, hm]))
    · rw [hb (PP_STAT_BFLT p) rfl (Nat.le_of_ble_eq_true rfl), State.clearFaults_bflt]
      simp [and_assoc]
    · rw [hb (PP_STAT_OC p) rfl (Nat.le_of_ble_eq_true rfl), State.clearFaults_oc]
      simp only [hin, and_assoc]
    · rw [hb (PP_STAT_BUS_UV p) rfl (Nat.le_of_ble_eq_true rfl), State.clearFaults_uv]
      simp [and_assoc]
    · rw [hb (PP_STAT_BUS_OV p) rfl (Nat.le_of_ble_eq_true rfl), State.clearFaults_ov]
      simp [and_assoc]
    · rw [hb (PP_STAT_SD_LOST p) rfl (Nat.le_of_ble_eq_true rfl), State.clearFaults_sd]
      simp [and_assoc]
    · rw [hb (PP_STAT_FLT_IN p) rfl (Nat.le_of_ble_eq_true rfl), State.clearFaults_other s p _ _ _ _ _ rfl (.inl (Nat.le_of_ble_eq_true rfl))]
    · rw [ht] at hg
      exact State.keeps_trans (State.keeps_mono hk (by simp [near])) hg
    · rw [hq q hqp, State.clearFaults_pps]
  · -- fast-filter values
    intro s u p ch v m hu h
    subst hu
    rw [exec, exec, execFastFilterSample, execPpOvercurrent]
    refine congrArg _ (if_neg ?_)
    rintro ⟨h1, h2⟩
    rcases h with h | h
    · exact h h1
    · omega
  · intro s u w p ch v m hu hm hc hw
    subst hu
    rw [exec, execPpOvercurrent] at hw
    injection hw with hw
    rw [exec, execFastFilterSample, ← hw]
    exact congrArg _ (if_pos ⟨hm, hc⟩)
  · -- the chopper
    intro v p b i cur lo hi t c hc hcur hhi hlo
    subst hc
    have hband := v.band_nonneg p
    refine ⟨State.chop_idle i t, fun hg hs ho h => ?_, fun hg hs ho h1 h2 => ?_, fun hg hs ho h => ?_, fun hg hs ho h1 h2 => ?_⟩
    · rw [State.chop_on hcur hhi hg hs ho]
      exact if_neg (by omega)
    · obtain ⟨h_on, h_forced, h_since, h_hit, h_other⟩ :=
        (v.modCoil p b (fun c => { c with hit := true })).switchCoil_coil p b false false t
      rw [State.chop_on hcur hhi hg hs ho, if_pos ⟨h1, h2⟩]
      refine ⟨_, rfl, h_on, h_forced, h_since, h_hit.trans ?_, h_other.trans (State.coil_modCoil_other _ _ _ _),
        State.ppsOnly_trans (State.modCoil_ppsOnly v p b _) (State.switchCoil_ppsOnly _ p b _ _ t)⟩
      rw [State.coil_modCoil_same]
    · rw [State.chop_off hcur hhi hg hs hlo ho]
      rcases h with h | ⟨hf, h⟩ | ⟨hf, h⟩
      · exact if_pos h
      · exact ite_eq_left_iff.mpr fun _ => if_pos ⟨hf, h⟩
      · have hn : ¬ (v.coil p b).forced = true := by simp [hf]
        exact ite_eq_left_iff.mpr fun _ => (if_neg fun hc => hn hc.1).trans ((if_neg (not_le.mpr h)).trans (if_neg hn))
    · obtain ⟨h_on, -, h_since, -, h_other⟩ := v.switchCoil_coil p b true false t
      rw [State.chop_off hcur hhi hg hs hlo ho, if_neg (by omega), if_neg (by omega), if_pos h2]
      exact ⟨_, rfl, h_on, h_since, h_other, State.switchCoil_ppsOnly v p b _ _ t⟩

end Sys2Proof.Machine

/-! SUPPORT. O57: a register with two RC fields whose read borrows from one field into the reserved bits of the word. -/

namespace Sys2Proof.Machine

/-- An image with cluster 0 runs; CL_ENG_CYCMAX of that cluster held TICK = 1 before this SYS cycle and holds CUR = 1 now. -/
def cycmaxTurned : State :=
  let s : State := { State.reset with cfg := { State.reset.cfg with run := some ⟨0, 0, [], 0, { axes := [0] }⟩ } }
  { s.wr (CL_ENG_CYCMAX 0) 0x10000#32 with time := { s.time with was := s.time.was.set 0 (CL_ENG_CYCMAX 0) 1#32 } }

/-- The row of CL_ENG_CYCMAX in the access table: TICK in bits 0 to 13, CUR in bits 16 to 27, both RC. -/
def cycmaxRow : RegRow := ⟨0x10000C, [(0x10000, 12)], 0x0, 0x0, 0x0, 0x0, 0xFFF3FFF, 0x0⟩

theorem accessRow_cycmax : accessRow (CL_ENG_CYCMAX 0) = some cycmaxRow := by decide +kernel

theorem multiWord_cycmax : multiWord (CL_ENG_CYCMAX 0) = none := by decide +kernel

theorem cycmaxTurned_plain : cycmaxTurned.readable (CL_ENG_CYCMAX 0) = true ∧ State.instanceUsed cycmaxTurned.st (CL_ENG_CYCMAX 0) = true := by
  decide +kernel

theorem captureRead_cycmax (s : State) : s.captureRead (CL_ENG_CYCMAX 0) = none := rfl

/-- The difference of the words now and before is 0xFFFF: the read leaves bit 14, which no field covers, set. -/
theorem cycmaxTurned_read_reserved : ((cycmaxTurned.regRead (CL_ENG_CYCMAX 0)).rd (CL_ENG_CYCMAX 0)).getLsbD 14 = true := by
  decide +kernel

theorem cycmaxTurned_reserved : (cycmaxTurned.rd (CL_ENG_CYCMAX 0)).getLsbD 14 = false := by decide +kernel

/-- Refutes O57: a read of CL_ENG_CYCMAX, whose two RC fields stand apart, subtracts the word held before the cycle from the present one;
where TICK was 1 and CUR is 1 now, the borrow out of CUR sets the reserved bits 14 and 15, which the statement says are kept. -/
theorem not_registerMap : ¬ Obligations.RegisterMap := by
  unfold Obligations.RegisterMap
  intro h
  obtain ⟨-, -, -, -, hread, -, -, -, -, -, -, -, hplain, -⟩ := h
  have hw : CL_ENG_CYCMAX 0 % 4 = 0 ∧ CL_ENG_CYCMAX 0 < 0x400000 := by decide
  obtain ⟨hr, hu⟩ := cycmaxTurned_plain
  obtain ⟨t, ht, -, hbits, -⟩ := hplain cycmaxTurned (CL_ENG_CYCMAX 0) cycmaxRow ⟨hw, hr, hu, captureRead_cycmax _⟩ multiWord_cycmax
    accessRow_cycmax (by decide)
  obtain ⟨hexec, -⟩ := hread cycmaxTurned (CL_ENG_CYCMAX 0) hw hr
  have hte : t = cycmaxTurned.regRead (CL_ENG_CYCMAX 0) := Host.Outcome.next.inj (ht.symm.trans hexec)
  have h14 := hbits 14 (by decide)
  rw [hte, cycmaxTurned_read_reserved, if_neg (by decide), cycmaxTurned_reserved] at h14
  exact absurd h14 (by decide)

end Sys2Proof.Machine

/-! SUPPORT. O3, O4: every command completes and leaves the waiting commands alone, so a queue is worked off. -/

namespace Sys2Proof.Machine

/-- Every command answers a next state, with the commands that waited. -/
theorem exec_goesOn (c : Instr) (s : State) : goesOn s (exec c s) := by
  cases c <;> simp [exec, -goesOn_next]

/-- Settles O3: each command's meaning goes on (exec_goesOn, by the lemma of its family). -/
theorem commandsComplete : Obligations.CommandsComplete := by
  unfold Obligations.CommandsComplete
  exact exec_goesOn

/-- A step with a command waiting answers a next state that has the commands behind it waiting. -/
theorem step_pending_of_cons {s : State} {c : Instr} {cs : List Instr} (h : s.pending = c :: cs) :
    ∃ t, step s = .next t ∧ t.pending = cs := by
  obtain ⟨t, ht, hp⟩ := exec_goesOn c { s with pending := cs }
  refine ⟨t, ?_, hp⟩
  unfold step
  rw [h]
  exact ht

theorem runSteps_succ_of_next {k : Nat} {s t : State} (h : step s = .next t) : runSteps (k + 1) s = runSteps k t := by
  simp only [runSteps, h]

/-- Settles O4, by induction on the number of steps: each takes the command at the front (step_pending_of_cons). -/
theorem queueIsWorkedOff : Obligations.QueueIsWorkedOff := by
  unfold Obligations.QueueIsWorkedOff
  intro s k
  induction k generalizing s with
  | zero => exact fun _ => ⟨s, rfl, rfl⟩
  | succ k ih =>
    intro hk
    cases hs : s.pending with
    | nil => simp [hs] at hk
    | cons c cs =>
      obtain ⟨u, hu, hp⟩ := step_pending_of_cons hs
      obtain ⟨t, ht, hd⟩ := ih u (by simpa [hs, hp] using hk)
      exact ⟨t, (runSteps_succ_of_next hu).trans ht, by simpa [hp] using hd⟩

end Sys2Proof.Machine

/-! SUPPORT. Folds of operations over a list: a relation that each of them keeps, and one element's own effect. -/

namespace Sys2Proof.Machine

section

variable {α : Type}

/-- A relation that is reflexive and transitive, and that every operation of a fold keeps, holds from before the fold to after it. -/
theorem foldl_rel {R : State → State → Prop} (hrefl : ∀ s, R s s) (htrans : ∀ {s t u}, R s t → R t u → R s u) {g : State → α → State}
    (l : List α) (s : State) (h : ∀ a ∈ l, ∀ s, R s (g s a)) : R s (l.foldl g s) := by
  induction l generalizing s with
  | nil => exact hrefl s
  | cons a l ih => exact htrans (h a (by simp) s) (ih _ fun b hb => h b (by simp [hb]))

/-- A fold over a list without repetition, split at one element: the operations before and after it are those of other elements. -/
theorem foldl_split (g : State → α → State) {l : List α} (hl : l.Nodup) {a : α} (ha : a ∈ l) (s : State) :
    ∃ l₁ l₂ : List α, a ∉ l₁ ∧ a ∉ l₂ ∧ l.foldl g s = l₂.foldl g (g (l₁.foldl g s) a) := by
  obtain ⟨l₁, l₂, rfl⟩ := List.append_of_mem ha
  have hn := List.nodup_middle.mp hl
  rw [List.nodup_cons, List.mem_append, not_or] at hn
  exact ⟨l₁, l₂, hn.1.1, hn.1.2, by rw [List.foldl_append, List.foldl_cons]⟩

end

namespace State

theorem foldl_keeps {α : Type} (g : State → α → State) (l : List α) (s : State) (k : List Nat) (h : ∀ a ∈ l, ∀ s : State, s.keeps (g s a) k) :
    s.keeps (l.foldl g s) k :=
  foldl_rel (R := fun s t => s.keeps t k) (fun s => keeps_refl s k) keeps_trans l s h

theorem keeps_hitBits {s t : State} {l : List Nat} {a : Nat} (m : Word) (h : s.keeps t l) (ha : a ∈ l) : s.keeps (t.hitBits a m) l :=
  fun r hr => keeps_wr (t.rd a ||| m) h ha r hr

theorem keeps_setB {s t : State} {l : List Nat} {x : Fld} (v : Bool) (h : s.keeps t l) (ha : x.reg ∈ l) : s.keeps (t.setB x v) l :=
  keeps_wr _ h ha

theorem rdN_keeps {s t : State} {l : List Nat} (h : s.keeps t l) {a : Nat} (ha : a ∉ l) : t.rdN a = s.rdN a := by
  unfold rdN
  rw [h a ha]

/-- A field of a register that reads as before reads as before. -/
theorem f_of_rd {s t : State} {x : Fld} (h : t.rd x.reg = s.rd x.reg) : t.f x = s.f x := by
  unfold f
  rw [h]

theorem flag_of_rd {s t : State} {x : Fld} (h : t.rd x.reg = s.rd x.reg) : t.flag x = s.flag x := by
  rw [flag_eq, flag_eq, f_of_rd h]

theorem f_setB_ne (s : State) {x y : Fld} (v : Bool) (h : y.reg ≠ x.reg) : (s.setB x v).f y = s.f y := f_setF_ne s _ h

theorem f_setB_disj (s : State) {x y : Fld} (v : Bool) (hr : y.reg = x.reg) (h : x.lo + x.width ≤ y.lo ∨ y.lo + y.width ≤ x.lo) :
    (s.setB x v).f y = s.f y := f_setF_disj s _ hr h

/-- A one-bit field reads its flag as a number. -/
theorem f_eq_b2n_flag (s : State) {x : Fld} (hw : x.width = 1) : s.f x = b2n (s.flag x) := by
  have h : s.f x < 2 ^ x.width := by
    refine Nat.lt_pow_two_of_testBit _ fun i hi => ?_
    unfold f
    rw [Fld.testBit_get]
    simp [show ¬ i < x.width by omega]
  rw [flag_eq]
  rw [hw] at h
  interval_cases s.f x <;> rfl

end State

end Sys2Proof.Machine

/-! SUPPORT. O39: what the barrier carries to a die and what a refresh of a die brings (R510 to R517). -/

namespace Sys2Proof.Machine

/-- A word from its first bits: those of the function, and none above. -/
theorem testBit_sum_bits (g : Nat → Bool) (n i : Nat) :
    (((List.range n).map (fun i => if g i then 2 ^ i else 0)).foldl (· + ·) 0).testBit i = (decide (i < n) && g i) ∧
      ((List.range n).map (fun i => if g i then 2 ^ i else 0)).foldl (· + ·) 0 < 2 ^ n := by
  induction n generalizing i with
  | zero => simp
  | succ n ih =>
    obtain ⟨hb, hlt⟩ := ih i
    rw [List.range_succ, List.map_append, List.foldl_append]
    simp only [List.map_cons, List.map_nil, List.foldl_cons, List.foldl_nil]
    generalize ((List.range n).map (fun i => if g i then 2 ^ i else 0)).foldl (· + ·) 0 = x at *
    cases hg : g n with
    | false =>
      refine ⟨?_, by simp only [Bool.false_eq_true, if_false]; omega⟩
      by_cases hi : i = n
      · subst hi; simp [hb, hg]
      · simp [hb, show i < n + 1 ↔ i < n by omega]
    | true =>
      refine ⟨?_, by simp only [if_true]; omega⟩
      rw [if_pos rfl, Nat.add_comm x]
      rcases Nat.lt_trichotomy i n with h | h | h
      · rw [Nat.testBit_two_pow_add_gt h, hb]
        simp [h, Nat.lt_succ_of_lt h]
      · subst h
        rw [Nat.testBit_two_pow_add_eq, Nat.testBit_lt_two_pow hlt]
        simp [hg]
      · rw [Nat.testBit_lt_two_pow (lt_of_lt_of_le (by omega : 2 ^ n + x < 2 ^ (n + 1)) (Nat.pow_le_pow_right (by decide) h))]
        simp [show ¬ i < n + 1 by omega]

theorem testBit_mask32 (g : Nat → Bool) {i : Nat} (h : i < 32) : (mask32 g).testBit i = g i := by
  have hb := (testBit_sum_bits g 32 i).1
  rw [decide_eq_true h, Bool.true_and] at hb
  exact hb

theorem mask32_lt (g : Nat → Bool) : mask32 g < 4294967296 := (testBit_sum_bits g 32 0).2

theorem testBit_rdN_wrN_mask32 (s : State) (a : Nat) (g : Nat → Bool) {i : Nat} (h : i < 32) :
    ((s.wrN a (mask32 g)).rdN a).testBit i = g i := by
  rw [State.rdN_wrN_same, Nat.mod_eq_of_lt (mask32_lt g), testBit_mask32 g h]

namespace State

-- ===== the rotating words (R510) =====

/-- What the barrier cycle of a die may change: VFIELD's register, and of the dies neither the refresh's own data nor the filters. -/
structure rotOnly (s t : State) : Prop where
  keeps : s.keeps t [FIO_VF]
  filt : t.fio.filt = s.fio.filt
  dies : ∀ e, (t.fio.dies.get e).rx = (s.fio.dies.get e).rx ∧ (t.fio.dies.get e).lost = (s.fio.dies.get e).lost ∧
    (t.fio.dies.get e).ff = (s.fio.dies.get e).ff
  frame : t = { s with fio := t.fio, regs := t.regs }

theorem rotOnly_refl (s : State) : s.rotOnly s := ⟨keeps_refl s _, rfl, fun _ => ⟨rfl, rfl, rfl⟩, rfl⟩

theorem rotOnly_trans {s t u : State} (h : s.rotOnly t) (h' : t.rotOnly u) : s.rotOnly u where
  keeps := keeps_trans h.keeps h'.keeps
  filt := h'.filt.trans h.filt
  dies e := by
    obtain ⟨a1, a2, a3⟩ := h.dies e
    obtain ⟨b1, b2, b3⟩ := h'.dies e
    exact ⟨b1.trans a1, b2.trans a2, b3.trans a3⟩
  frame := h'.frame.trans (by rw [h.frame])

theorem modFioDie_rotOnly (s : State) (d : Fin 2) (g : FioDie → FioDie) (hg : ∀ x, (g x).rx = x.rx ∧ (g x).lost = x.lost ∧ (g x).ff = x.ff) :
    s.rotOnly (s.modFioDie d g) where
  keeps := keeps_of_regs rfl _
  filt := rfl
  dies e := by
    by_cases h : e = d
    · subst h
      simpa [modFioDie] using hg _
    · simp [modFioDie, Bank.get_modify_ne _ _ h]
  frame := rfl

theorem modFio_rotOnly (s : State) (g : FioState → FioState) (hf : (g s.fio).filt = s.fio.filt) (hd : (g s.fio).dies = s.fio.dies) :
    s.rotOnly (s.modFio g) where
  keeps := keeps_of_regs rfl _
  filt := hf
  dies e := by
    rw [modFio_fio, hd]
    exact ⟨rfl, rfl, rfl⟩
  frame := rfl

theorem setF_rotOnly (s : State) {x : Fld} (v : Nat) (hx : x.reg = FIO_VF) : s.rotOnly (s.setF x v) :=
  ⟨keeps_setF v (keeps_refl s _) (hx ▸ .head _), rfl, fun _ => ⟨rfl, rfl, rfl⟩, rfl⟩

theorem takeVf_rotOnly (s : State) (d : Fin 2) (mv : Nat) : s.rotOnly (s.takeVf d mv) := by
  unfold takeVf
  refine rotOnly_trans ?_ (setF_rotOnly _ _ rfl)
  refine rotOnly_trans ?_ (setF_rotOnly _ _ rfl)
  refine rotOnly_trans ?_ (modFio_rotOnly _ _ rfl rfl)
  refine modFioDie_rotOnly s d _ ?_
  exact fun _ => ⟨rfl, rfl, rfl⟩

theorem publishRot_rotOnly (s : State) (d : Fin 2) : s.rotOnly (s.publishRot d) := by
  unfold publishRot
  dsimp only
  split
  · refine rotOnly_trans (modFioDie_rotOnly s d _ ?_) (takeVf_rotOnly _ d _)
    exact fun _ => ⟨rfl, rfl, rfl⟩
  · refine modFioDie_rotOnly s d _ ?_
    exact fun _ => ⟨rfl, rfl, rfl⟩

theorem takeRot_rotOnly (s : State) (d : Fin 2) (i : Nat) (w : Option Nat) : s.rotOnly (s.takeRot d i w) := by
  have h1 : s.rotOnly (if i = 0 then s.publishRot d else s) := by
    split
    · exact publishRot_rotOnly s d
    · exact rotOnly_refl s
  unfold takeRot
  dsimp only
  generalize (if i = 0 then s.publishRot d else s) = s1 at h1 ⊢
  have h2 : s.rotOnly (match w with
      | some w => s1.modFioDie d (fun x => { x with rotNew := assocSet i (w % 65536) x.rotNew })
      | none => s1) := by
    cases w with
    | none => exact h1
    | some w =>
      refine rotOnly_trans h1 (modFioDie_rotOnly s1 d _ ?_)
      exact fun _ => ⟨rfl, rfl, rfl⟩
  split
  · exact rotOnly_trans h2 (publishRot_rotOnly _ d)
  · exact h2

theorem noteFrame_rotOnly (s : State) (d : Fin 2) (i : Nat) (good : Bool) : s.rotOnly (s.noteFrame d i good) := by
  refine modFioDie_rotOnly s d _ fun x => ?_
  split <;> exact ⟨rfl, rfl, rfl⟩

-- ===== one input's sample (R512, R513, R516) =====

/-- The registers that the samples of a die's inputs may write. -/
def inputRegs (d : Fin 2) : List Nat := FIO_TPMIS d :: (List.range 32).map (fun i => FIO_INSTAT (32 * d.val + i))

/-- Nothing but filters, registers and the bits that hardware set in this cycle differs. -/
def sampleFrame (s t : State) : Prop := t = { s with time := { s.time with hits := t.time.hits }, fio := t.fio, regs := t.regs }

theorem sampleFrame_trans {s t u : State} (h : s.sampleFrame t) (h' : t.sampleFrame u) : s.sampleFrame u := by
  unfold sampleFrame at *
  exact h'.trans (by rw [h])

theorem hit_sampleFrame (s : State) (x : Fld) : s.sampleFrame (s.hit x) := rfl

theorem setF_sampleFrame (s : State) (x : Fld) (v : Nat) : s.sampleFrame (s.setF x v) := rfl

/-- What samples of a die's inputs leave alone. -/
structure sampled (d : Fin 2) (s t : State) : Prop where
  keeps : s.keeps t (inputRegs d)
  dies : t.fio.dies = s.fio.dies
  frame : s.sampleFrame t

theorem sampled_refl (d : Fin 2) (s : State) : sampled d s s := ⟨keeps_refl s _, rfl, rfl⟩

theorem sampled_trans {d : Fin 2} {s t u : State} (h : sampled d s t) (h' : sampled d t u) : sampled d s u :=
  ⟨keeps_trans h.keeps h'.keeps, h'.dies.trans h.dies, sampleFrame_trans h.frame h'.frame⟩

/-- The place of an input of a die among the sixty-four. -/
def inputOf (d : Fin 2) (i : Fin 32) : Fin 64 := ⟨32 * d.val + i.val, by omega⟩

/-- The sample's part in the registers: raw level, changes, the pulse check. -/
def noteInput (s : State) (i : Fin 64) (raw was now before : Bool) : State :=
  let s1 := s.setB (FIO_INSTAT_RAW i) raw
  let s2 := if raw = was then s1 else s1.setF (FIO_INSTAT_CHAT i) (min 65535 (s.f (FIO_INSTAT_CHAT i) + 1))
  if before ∧ !now ∧ was ∧ !s.pairInput i then (s2.hit (FIO_INSTAT_TPMIS i)).hit ⟨FIO_TPMIS (i / 32), i % 32, 1⟩ else s2

/-- The filter of an input after its sample. -/
def filtNext (s : State) (i : Fin 64) (raw : Bool) : InFilt :=
  filtSample (s.f FIO_STAT_FMODE != fmDEBOUNCE) (max 1 (s.f (FIO_INCFG_DEB i))) (s.fio.filt.get i) (raw != s.flag (FIO_INCFG_INV i))

/-- A pulse bit of the input's supply, in the newest data or in the data before it. -/
def pulsed (s : State) (i : Fin 64) (was : Bool) : Bool := decide (s.f (FIO_INCFG_TP i) < 4) && s.pulseBit (s.f (FIO_INCFG_TP i)) was

theorem takeInput_eq (s : State) (i : Fin 64) (raw was : Bool) :
    s.takeInput i raw was = if s.pulsed i false ∨ s.pulsed i true then s.noteInput i raw was (s.pulsed i false) (s.pulsed i true)
      else ((s.noteInput i raw was (s.pulsed i false) (s.pulsed i true)).modFio (fun x => { x with filt := x.filt.set i (s.filtNext i raw) })).setB
        (FIO_INSTAT_LEVEL i) (s.filtNext i raw).out := rfl

theorem noteInput_keeps (s : State) (i : Fin 64) (raw was now before : Bool) :
    s.keeps (s.noteInput i raw was now before) [FIO_INSTAT i, FIO_TPMIS (i / 32)] := by
  have h1 : s.keeps (s.setB (FIO_INSTAT_RAW i) raw) [FIO_INSTAT i, FIO_TPMIS (i / 32)] := keeps_setB _ (keeps_refl s _) (.head _)
  have h2 : s.keeps (if raw = was then s.setB (FIO_INSTAT_RAW i) raw
      else (s.setB (FIO_INSTAT_RAW i) raw).setF (FIO_INSTAT_CHAT i) (min 65535 (s.f (FIO_INSTAT_CHAT i) + 1)))
      [FIO_INSTAT i, FIO_TPMIS (i / 32)] := by
    split
    · exact h1
    · exact keeps_setF _ h1 (.head _)
  unfold noteInput
  dsimp only
  split
  · exact keeps_hit (keeps_hit h2 (.head _)) (.tail _ (.head _))
  · exact h2

theorem noteInput_fio (s : State) (i : Fin 64) (raw was now before : Bool) : (s.noteInput i raw was now before).fio = s.fio := by
  unfold noteInput
  dsimp only
  split <;> split <;> rfl

theorem noteInput_frame (s : State) (i : Fin 64) (raw was now before : Bool) : s.sampleFrame (s.noteInput i raw was now before) := by
  have h2 : s.sampleFrame (if raw = was then s.setB (FIO_INSTAT_RAW i) raw
      else (s.setB (FIO_INSTAT_RAW i) raw).setF (FIO_INSTAT_CHAT i) (min 65535 (s.f (FIO_INSTAT_CHAT i) + 1))) := by
    split
    · exact setF_sampleFrame s _ _
    · exact sampleFrame_trans (setF_sampleFrame s _ _) (setF_sampleFrame _ _ _)
  unfold noteInput
  dsimp only
  split
  · exact sampleFrame_trans (sampleFrame_trans h2 (hit_sampleFrame _ _)) (hit_sampleFrame _ _)
  · exact h2

theorem FIO_INSTAT_ne_TPMIS (i k : Nat) (hk : k < 2) : FIO_INSTAT i ≠ FIO_TPMIS k := by
  unfold FIO_INSTAT FIO_TPMIS
  omega

theorem noteInput_raw (s : State) (i : Fin 64) (raw was now before : Bool) :
    (s.noteInput i raw was now before).f (FIO_INSTAT_RAW i) = b2n raw := by
  have h1 : (s.setB (FIO_INSTAT_RAW i) raw).f (FIO_INSTAT_RAW i) = b2n raw := f_setB_same s _ _ (Nat.le_of_ble_eq_true rfl) rfl
  have h2 : (if raw = was then s.setB (FIO_INSTAT_RAW i) raw
      else (s.setB (FIO_INSTAT_RAW i) raw).setF (FIO_INSTAT_CHAT i) (min 65535 (s.f (FIO_INSTAT_CHAT i) + 1))).f (FIO_INSTAT_RAW i) = b2n raw := by
    split
    · exact h1
    · exact (f_setF_disj (x := FIO_INSTAT_CHAT i) (y := FIO_INSTAT_RAW i) _ _ rfl (.inr (Nat.le_of_ble_eq_true rfl))).trans h1
  unfold noteInput
  dsimp only
  split
  · refine (f_hit_ne _ (FIO_INSTAT_ne_TPMIS i (i / 32) (by omega))).trans ?_
    exact (f_hit_disj (x := FIO_INSTAT_TPMIS i) (y := FIO_INSTAT_RAW i) _ rfl (.inr (Nat.le_of_ble_eq_true rfl))).trans h2
  · exact h2

theorem inputOf_val (d : Fin 2) (i : Fin 32) : (inputOf d i).val = 32 * d.val + i.val := rfl

theorem FIO_INSTAT_mem_inputRegs (d : Fin 2) (i : Fin 32) : FIO_INSTAT (inputOf d i) ∈ inputRegs d := by
  simp only [inputRegs, inputOf_val, List.mem_cons, List.mem_map, List.mem_range]
  exact .inr ⟨i, i.isLt, rfl⟩

theorem noteInput_sampled (d : Fin 2) (i : Fin 32) (s : State) (raw was now before : Bool) :
    sampled d s (s.noteInput (inputOf d i) raw was now before) where
  keeps := by
    refine keeps_mono (noteInput_keeps s (inputOf d i) raw was now before) ?_
    have hd : (inputOf d i).val / 32 = d.val := by simp only [inputOf]; omega
    simpa [hd] using ⟨FIO_INSTAT_mem_inputRegs d i, List.mem_cons_self⟩
  dies := by rw [noteInput_fio]
  frame := noteInput_frame s _ raw was now before

/-- An input's filter and its LEVEL. -/
theorem setFilt_sampled (d : Fin 2) (i : Fin 32) (s : State) (p : InFilt) :
    sampled d s ((s.modFio (fun x => { x with filt := x.filt.set (inputOf d i) p })).setB (FIO_INSTAT_LEVEL (inputOf d i)) p.out) where
  keeps := by
    refine keeps_setB _ ?_ (FIO_INSTAT_mem_inputRegs d i)
    exact keeps_of_regs rfl _
  dies := rfl
  frame := rfl

theorem takeInput_sampled (d : Fin 2) (i : Fin 32) (s : State) (raw was : Bool) : sampled d s (s.takeInput (inputOf d i) raw was) := by
  rw [takeInput_eq]
  split
  · exact noteInput_sampled d i s raw was _ _
  · exact sampled_trans (noteInput_sampled d i s raw was _ _) (setFilt_sampled d i _ (s.filtNext (inputOf d i) raw))

theorem takeInput_raw (s : State) (i : Fin 64) (raw was : Bool) : (s.takeInput i raw was).f (FIO_INSTAT_RAW i) = b2n raw := by
  rw [takeInput_eq]
  split
  · exact noteInput_raw s i raw was _ _
  · refine (f_setB_disj (x := FIO_INSTAT_LEVEL i) (y := FIO_INSTAT_RAW i) _ _ rfl (.inl (Nat.le_of_ble_eq_true rfl))).trans ?_
    exact noteInput_raw s i raw was _ _

/-- Without a test pulse on its supply an input's filter takes the sample, and LEVEL shows the filter's output (R513). -/
theorem takeInput_filt {s : State} {i : Fin 64} (raw was : Bool) (h : 4 ≤ s.f (FIO_INCFG_TP i)) :
    (s.takeInput i raw was).fio.filt.get i = s.filtNext i raw ∧ (s.takeInput i raw was).f (FIO_INSTAT_LEVEL i) = b2n (s.filtNext i raw).out := by
  have hp : ∀ b, s.pulsed i b = false := fun b => by simp [pulsed, Nat.not_lt.mpr h]
  rw [takeInput_eq, hp, hp, if_neg (by simp)]
  refine ⟨?_, f_setB_same _ _ _ (Nat.le_of_ble_eq_true rfl) rfl⟩
  rw [setB_fio, modFio_fio]
  exact Bank.get_set_same _ _ _

/-- What other inputs' samples leave of an input: its register and its filter. -/
def inputKept (k : Fin 64) (s t : State) : Prop := t.rd (FIO_INSTAT k) = s.rd (FIO_INSTAT k) ∧ t.fio.filt.get k = s.fio.filt.get k

theorem takeInput_inputKept (s : State) {i k : Fin 64} (raw was : Bool) (h : k ≠ i) : inputKept k s (s.takeInput i raw was) := by
  have hv : k.val ≠ i.val := fun hc => h (Fin.ext hc)
  have hr : FIO_INSTAT k ≠ FIO_INSTAT i := by unfold FIO_INSTAT; omega
  have hk : (s.noteInput i raw was (s.pulsed i false) (s.pulsed i true)).rd (FIO_INSTAT k) = s.rd (FIO_INSTAT k) :=
    noteInput_keeps s i raw was _ _ _ (by simpa using ⟨hr, FIO_INSTAT_ne_TPMIS _ _ (by omega)⟩)
  rw [takeInput_eq]
  split
  · exact ⟨hk, by rw [noteInput_fio]⟩
  · refine ⟨(rd_setB_ne _ _ hr).trans hk, ?_⟩
    rw [setB_fio, modFio_fio, noteInput_fio]
    exact Bank.get_set_ne _ _ h

/-- All samples of a die's refresh. -/
def takeInputs (s : State) (d : Fin 2) (raw was : Word) : State :=
  (List.finRange 32).foldl (fun (s : State) (i : Fin 32) => s.takeInput (inputOf d i) (raw.toNat.testBit i) (was.toNat.testBit i)) s

theorem takeInputs_sampled (s : State) (d : Fin 2) (raw was : Word) : sampled d s (s.takeInputs d raw was) :=
  foldl_rel (sampled_refl d) sampled_trans _ _ fun i _ s => takeInput_sampled d i s _ _

/-- The samples of a refresh as one input sees them: its own, between those of other inputs. -/
theorem takeInputs_at (s : State) (d : Fin 2) (raw was : Word) (k : Fin 32) :
    ∃ v : State, sampled d s v ∧ inputKept (inputOf d k) s v ∧
      inputKept (inputOf d k) (v.takeInput (inputOf d k) (raw.toNat.testBit k) (was.toNat.testBit k)) (s.takeInputs d raw was) := by
  have hne : ∀ l : List (Fin 32), k ∉ l → ∀ s : State, inputKept (inputOf d k) s
      (l.foldl (fun (s : State) (i : Fin 32) => s.takeInput (inputOf d i) (raw.toNat.testBit i) (was.toNat.testBit i)) s) := by
    intro l hl s
    refine foldl_rel (R := inputKept (inputOf d k)) (fun s => ⟨rfl, rfl⟩) (fun h h' => ⟨h'.1.trans h.1, h'.2.trans h.2⟩) l s fun i hi s => ?_
    refine takeInput_inputKept s _ _ fun hc => hl ?_
    have hv : k.val = i.val := by simpa [inputOf] using congrArg Fin.val hc
    rwa [Fin.ext hv]
  obtain ⟨l₁, l₂, h₁, h₂, he⟩ := foldl_split
    (fun (s : State) (i : Fin 32) => s.takeInput (inputOf d i) (raw.toNat.testBit i) (was.toNat.testBit i))
    (List.nodup_finRange 32) (List.mem_finRange k) s
  refine ⟨_, ?_, hne l₁ h₁ s, ?_⟩
  · exact foldl_rel (sampled_refl d) sampled_trans l₁ s fun i _ s => takeInput_sampled d i s _ _
  · unfold takeInputs
    rw [he]
    exact hne l₂ h₂ _

theorem takeInputs_raw (s : State) (d : Fin 2) (raw was : Word) (k : Fin 32) :
    (s.takeInputs d raw was).f (FIO_INSTAT_RAW (inputOf d k)) = b2n (raw.toNat.testBit k) := by
  obtain ⟨v, -, -, hr, -⟩ := takeInputs_at s d raw was k
  exact (f_of_rd hr).trans (takeInput_raw v _ _ _)

theorem FIO_INCFG_notMem_inputRegs (d : Fin 2) (i : Fin 64) : FIO_INCFG i ∉ inputRegs d := by
  simp only [inputRegs, List.mem_cons, List.mem_map, List.mem_range, not_or, not_exists, not_and, FIO_INCFG, FIO_TPMIS, FIO_INSTAT]
  exact ⟨by omega, fun _ _ => by omega⟩

theorem FIO_STAT_notMem_inputRegs (d : Fin 2) : FIO_STAT ∉ inputRegs d := by
  simp only [inputRegs, List.mem_cons, List.mem_map, List.mem_range, not_or, not_exists, not_and, FIO_STAT, FIO_TPMIS, FIO_INSTAT]
  exact ⟨by omega, fun _ _ => by omega⟩

theorem filtNext_of_sampled {d : Fin 2} {s v : State} {i : Fin 64} (h : sampled d s v) (hf : v.fio.filt.get i = s.fio.filt.get i) (raw : Bool) :
    v.filtNext i raw = s.filtNext i raw := by
  have hi := FIO_INCFG_notMem_inputRegs d i
  unfold filtNext
  rw [hf, f_keeps h.keeps (x := FIO_STAT_FMODE) (FIO_STAT_notMem_inputRegs d), f_keeps h.keeps (x := FIO_INCFG_DEB i) hi,
    flag_keeps h.keeps (x := FIO_INCFG_INV i) hi]

theorem takeInputs_filt {s : State} {d : Fin 2} (raw was : Word) {k : Fin 32} (h : 4 ≤ s.f (FIO_INCFG_TP (inputOf d k))) :
    (s.takeInputs d raw was).fio.filt.get (inputOf d k) = s.filtNext (inputOf d k) (raw.toNat.testBit k) ∧
      (s.takeInputs d raw was).f (FIO_INSTAT_LEVEL (inputOf d k)) = b2n (s.filtNext (inputOf d k) (raw.toNat.testBit k)).out := by
  obtain ⟨v, hv, ⟨-, hf⟩, hr, ht⟩ := takeInputs_at s d raw was k
  have htp : 4 ≤ v.f (FIO_INCFG_TP (inputOf d k)) := by
    rwa [f_keeps hv.keeps (x := FIO_INCFG_TP (inputOf d k)) (FIO_INCFG_notMem_inputRegs d _)]
  obtain ⟨h1, h2⟩ := takeInput_filt (raw.toNat.testBit k) (was.toNat.testBit k) htp
  rw [filtNext_of_sampled hv hf] at h1 h2
  exact ⟨ht.trans h1, (f_of_rd hr).trans h2⟩

/-- In DEBOUNCE a sample that differs from the output moves it with the DEB-th in a row, and counts before (R513). -/
theorem filtNext_debounce {s : State} {i : Fin 64} {raw : Bool} (hm : s.f FIO_STAT_FMODE = fmDEBOUNCE) (hi : s.flag (FIO_INCFG_INV i) = false)
    (hn : (s.fio.filt.get i).out ≠ raw) :
    s.filtNext i raw = if s.f (FIO_INCFG_DEB i) ≤ (s.fio.filt.get i).cnt + 1 then { out := raw, cnt := 0 }
      else { out := (s.fio.filt.get i).out, cnt := (s.fio.filt.get i).cnt + 1 } := by
  have hb : (raw != false) = raw := by cases raw <;> rfl
  unfold filtNext filtSample
  rw [hm, hi, hb, if_neg (by decide), if_neg (fun h => hn h.symm)]
  simp only [Nat.max_le, Nat.le_add_left, true_and]

-- ===== the inputs' validity, the causes and the common fault bit =====

theorem syncValid_keeps (s : State) : s.keeps s.syncValid [FIO_STAT, FIO_IN 0, FIO_IN 1] := by
  unfold syncValid showInputs
  dsimp only
  exact keeps_wrN _ (keeps_wrN _ (keeps_setB (x := FIO_STAT_IN_VALID) _ (keeps_setB (x := FIO_STAT_BARRIER) _ (keeps_refl s _) (.head _)) (.head _))
    (.tail _ (.head _))) (.tail _ (.tail _ (.head _)))

/-- The validity of the inputs touches no other field of FIO_STAT. -/
theorem syncValid_f (s : State) {x : Fld} (hx : x.reg = FIO_STAT) (h4 : x.lo + x.width ≤ 4 ∨ 5 ≤ x.lo) (h8 : x.lo + x.width ≤ 8 ∨ 9 ≤ x.lo) :
    s.syncValid.f x = s.f x := by
  unfold syncValid showInputs
  dsimp only
  rw [f_wrN_ne _ _ (by rw [hx]; decide), f_wrN_ne _ _ (by rw [hx]; decide), f_setB_disj (x := FIO_STAT_IN_VALID) _ _ hx h4.symm,
    f_setB_disj (x := FIO_STAT_BARRIER) _ _ hx h8.symm]

theorem infer_keeps (s : State) (d : Fin 2) (tpm : Bool) : s.keeps (s.infer d tpm) [FIO_CAUSE, FIO_DIAG_HI, FIO_DIAG_LO] := by
  unfold infer
  dsimp only
  exact keeps_hitBits _ (keeps_hitBits _ (keeps_hitBits _ (keeps_refl s _) (.head _)) (.tail _ (.head _))) (.tail _ (.tail _ (.head _)))

/-- The record of an edge of the common fault bit, offered once the bit and its since-when are noted (R523). -/
def faultNoted (s : State) (on : Bool) : State :=
  let s1 := (s.setB FIO_STAT_FIELD_FAULT on).modFio (fun x => { x with ffSince := if on then some s.time.mono else none })
  s1.offerRec 0x500 3 (natLE 1 (b2n on) ++ natLE 1 s.vfState ++ natLE 2 (s.rdN FIO_CAUSE) ++ natLE 2 (s.f FIO_VF_VF_MV) ++ natLE 2 0
      ++ natLE 4 (mask32 s.cmdOut) ++ natLE 4 (s.rdN FIO_OUT_RB) ++ natLE 4 (s.rdN FIO_DIAG_HI) ++ natLE 4 (s.rdN FIO_DIAG_LO)
      ++ natLE 4 (s.rdN (FIO_TPMIS 0)) ++ natLE 4 (s.rdN (FIO_TPMIS 1)))

theorem faultNoted_keeps (s : State) (on : Bool) : s.keeps (s.faultNoted on) (FIO_STAT :: recRegs) := by
  unfold faultNoted
  dsimp only
  refine keeps_trans (keeps_congr (t := s.setB FIO_STAT_FIELD_FAULT on) ?_ rfl) (keeps_mono (offerRec_keeps _ _ _ _) fun x hx => List.mem_cons_of_mem _ hx)
  exact keeps_setB _ (keeps_refl s _) (.head _)

theorem faultNoted_f (s : State) (on : Bool) : (s.faultNoted on).f FIO_STAT_FIELD_FAULT = b2n on := by
  unfold faultNoted
  dsimp only
  rw [f_keeps (offerRec_keeps _ _ _ _) (by decide), modFio_f]
  exact f_setB_same s _ _ (by decide) rfl

theorem faultNoted_flt (s : State) (on : Bool) : (s.faultNoted on).flt = s.flt := by
  unfold faultNoted
  dsimp only
  rw [offerRec_flt]
  rfl

theorem faultNoted_mono (s : State) (on : Bool) : (s.faultNoted on).time.mono = s.time.mono := by
  unfold faultNoted
  dsimp only
  rw [offerRec_mono]
  rfl

/-- What an edge of the common fault bit may change. -/
def edgeFrame (s t : State) : Prop :=
  t = { s with time := { s.time with hits := t.time.hits }, hq := t.hq, recorder := t.recorder, fio := t.fio, flt := t.flt, regs := t.regs }

theorem edgeFrame_trans {s t u : State} (h : s.edgeFrame t) (h' : t.edgeFrame u) : s.edgeFrame u := by
  unfold edgeFrame at *
  exact h'.trans (by rw [h])

theorem faultNoted_edgeFrame (s : State) (on : Bool) : s.edgeFrame (s.faultNoted on) := by
  have hr : ∀ {t u : State}, t.recFrame u → t.edgeFrame u := by
    intro t u h
    unfold recFrame at h
    unfold edgeFrame
    rw [h]
  unfold faultNoted
  dsimp only
  refine edgeFrame_trans ?_ (hr (offerRec_frame _ _ _ _))
  rfl

theorem faultBit_same {s : State} {on : Bool} (h : on = s.flag FIO_STAT_FIELD_FAULT) : s.faultBit on = s := if_pos h

theorem faultBit_rise {s : State} (h : s.flag FIO_STAT_FIELD_FAULT = false) : ∃ m : FaultMsg, m.source = 0xD5 ∧ m.kind = 0x80 ∧ m.cls = cMAJOR ∧
    s.faultBit true = (((s.faultNoted true).hit FIO_STAT_FF_LATCH).bump FIO_CNT_FF).raise m := by
  refine ⟨mkFault srcFIO 0x80 cMAJOR 0 [.code (s.rdN FIO_CAUSE), .val (s.f FIO_VF_VF_MV)] 15 true, rfl, rfl, rfl, ?_⟩
  unfold faultBit
  rw [h, if_neg (by decide)]
  rfl

theorem faultBit_fall {s : State} (h : s.flag FIO_STAT_FIELD_FAULT = true) : s.faultBit false = (s.faultNoted false).endCause srcFIO 0x80 := by
  unfold faultBit
  rw [h, if_neg (by decide)]
  rfl

/-- The common fault bit takes the level (R521). -/
theorem faultBit_f (s : State) (on : Bool) : (s.faultBit on).f FIO_STAT_FIELD_FAULT = b2n on := by
  by_cases h : on = s.flag FIO_STAT_FIELD_FAULT
  · rw [faultBit_same h, h]
    exact f_eq_b2n_flag s rfl
  · cases on with
    | false =>
      have hf : s.flag FIO_STAT_FIELD_FAULT = true := by simpa using h
      rw [faultBit_fall hf, endCause_f]
      exact faultNoted_f s false
    | true =>
      have hf : s.flag FIO_STAT_FIELD_FAULT = false := by simpa using h
      obtain ⟨m, -, -, -, hm⟩ := faultBit_rise hf
      rw [hm, raise_f, f_bump_ne _ (by decide), f_hit_disj (x := FIO_STAT_FF_LATCH) (y := FIO_STAT_FIELD_FAULT) _ rfl (by decide), faultNoted_f]

/-- What an edge of the common fault bit writes. -/
def edgeRegs : List Nat := FIO_STAT :: FIO_CNT_FF :: recRegs

theorem faultBit_keeps (s : State) (on : Bool) : s.keeps (s.faultBit on) edgeRegs := by
  have hn := fun b => keeps_mono (k := edgeRegs) (faultNoted_keeps s b) (by decide)
  by_cases h : on = s.flag FIO_STAT_FIELD_FAULT
  · rw [faultBit_same h]
    exact keeps_refl s _
  · cases on with
    | false =>
      have hf : s.flag FIO_STAT_FIELD_FAULT = true := by simpa using h
      rw [faultBit_fall hf]
      exact keeps_endCause _ _ (hn false)
    | true =>
      have hf : s.flag FIO_STAT_FIELD_FAULT = false := by simpa using h
      obtain ⟨m, -, -, -, hm⟩ := faultBit_rise hf
      rw [hm]
      exact keeps_raise _ (keeps_bump (keeps_hit (hn true) (.head _)) (.tail _ (.head _)))

theorem endCause_edgeFrame (s : State) (a k : Nat) : s.edgeFrame (s.endCause a k) := rfl

theorem latch_edgeFrame (s : State) (m : FaultMsg) : s.edgeFrame (((s.hit FIO_STAT_FF_LATCH).bump FIO_CNT_FF).raise m) := rfl

theorem faultBit_edgeFrame (s : State) (on : Bool) : s.edgeFrame (s.faultBit on) := by
  by_cases h : on = s.flag FIO_STAT_FIELD_FAULT
  · rw [faultBit_same h]
    rfl
  · cases on with
    | false =>
      have hf : s.flag FIO_STAT_FIELD_FAULT = true := by simpa using h
      rw [faultBit_fall hf]
      exact edgeFrame_trans (faultNoted_edgeFrame s false) (endCause_edgeFrame _ _ _)
    | true =>
      have hf : s.flag FIO_STAT_FIELD_FAULT = false := by simpa using h
      obtain ⟨m, -, -, -, hm⟩ := faultBit_rise hf
      rw [hm]
      exact edgeFrame_trans (faultNoted_edgeFrame s true) (latch_edgeFrame _ m)

end State

end Sys2Proof.Machine

/-! SUPPORT. O39: the barrier's commands, each as the composition of its parts. -/

namespace Sys2Proof.Machine

namespace State

/-- The registers that a good refresh of a die may write. -/
def refreshRegs (d : Fin 2) : List Nat :=
  [FIO_INRAW d, FIO_OUT_RB, FIO_STAT, FIO_IN 0, FIO_IN 1, FIO_CAUSE, FIO_DIAG_HI, FIO_DIAG_LO, FIO_VF, FIO_CNT_FF,
    FIO_TPMIS 0, FIO_TPMIS 1] ++ (List.range 32).map (fun i => FIO_INSTAT (32 * d.val + i)) ++ recRegs

/-- Those of them that are written before the common fault bit is judged. -/
def judgedRegs (d : Fin 2) : List Nat :=
  [FIO_INRAW d, FIO_OUT_RB, FIO_STAT, FIO_IN 0, FIO_IN 1, FIO_CAUSE, FIO_DIAG_HI, FIO_DIAG_LO, FIO_VF, FIO_TPMIS 0, FIO_TPMIS 1] ++
    (List.range 32).map (fun i => FIO_INSTAT (32 * d.val + i))

theorem judgedRegs_subset (d : Fin 2) : ∀ x ∈ judgedRegs d, x ∈ refreshRegs d := by
  intro x hx
  rcases List.mem_append.mp hx with h | h
  · refine List.mem_append_left _ (List.mem_append_left _ ?_)
    revert h
    simp only [List.mem_cons, List.not_mem_nil, or_false]
    tauto
  · exact List.mem_append_left _ (List.mem_append_right _ h)

/-- The refresh's own data are a die's newest (R510, R511). -/
def refreshed (s : State) (d : Fin 2) (raw : Word) (rb tp : Nat) (ff : Bool) : State :=
  s.modFioDie d (fun x => { x with rx := some s.time.mono, lost := false, raw := raw, rb := rb, tpWas := x.tp, tp := tp, ff := ff })

/-- A good refresh as far as the inputs' samples: the data, the rotating word, the raw levels and the readbacks. -/
def refreshRead (s : State) (d : Fin 2) (i : Nat) (raw : Word) (rb tp : Nat) (ff : Bool) (rot : Nat) : State :=
  let s2 := (((s.refreshed d raw rb tp ff).noteFrame d i true).takeRot d i (some rot)).wrN (FIO_INRAW d) raw.toNat
  s2.wrN FIO_OUT_RB (mask32 (fun o => if o / 16 = d.val then rb.testBit (o % 16) else (s2.rdN FIO_OUT_RB).testBit o))

/-- A good refresh up to the common fault bit. -/
def refreshJudged (s : State) (d : Fin 2) (i : Nat) (raw : Word) (rb tp : Nat) (ff : Bool) (rot : Nat) : State :=
  let s3 := s.refreshRead d i raw rb tp ff rot
  let s4 := s3.takeInputs d raw (s.fio.dies.get d).raw
  (s4.syncValid).infer d ((s4.rdN (FIO_TPMIS d)) != (s3.rdN (FIO_TPMIS d)))

theorem execBarrierRefreshRx_good {s u : State} {d : Fin 2} {i : Fin 8} {w : Word} {rb tp rot m : Nat} {ff : Bool} (hu : u = s.runTo m)
    (hm : u.mode ≠ mRESET) : exec (.barrierRefreshRx d true i w rb tp ff rot m) s =
      .next ((u.refreshJudged d i w rb tp ff rot).faultBit (((u.refreshJudged d i w rb tp ff rot).fio.dies.get 0).ff ||
        ((u.refreshJudged d i w rb tp ff rot).fio.dies.get 1).ff)) := by
  subst hu
  exact congrArg Host.Outcome.next (if_neg hm)

/-- A refresh with a wrong CRC is counted, and spoils the barrier cycle. -/
def refreshBad (s : State) (d : Fin 2) (i : Nat) : State := ((s.bump FIO_CNT_BAR).noteFrame d i false).takeRot d i none

theorem execBarrierRefreshRx_bad {s u : State} {d : Fin 2} {i : Fin 8} {w : Word} {rb tp rot m : Nat} {ff : Bool} (hu : u = s.runTo m)
    (hm : u.mode ≠ mRESET) : exec (.barrierRefreshRx d false i w rb tp ff rot m) s =
      .next (u.refreshBad d i) := by
  subst hu
  exact congrArg Host.Outcome.next (if_neg hm)

-- ===== a good refresh (R510 to R513, R515, R521) =====

theorem refreshed_dies (s : State) (d : Fin 2) (raw : Word) (rb tp : Nat) (ff : Bool) :
    ((s.refreshed d raw rb tp ff).fio.dies.get d).rx = some s.time.mono ∧ ((s.refreshed d raw rb tp ff).fio.dies.get d).lost = false ∧
      ((s.refreshed d raw rb tp ff).fio.dies.get d).ff = ff ∧ ∀ e, e ≠ d → (s.refreshed d raw rb tp ff).fio.dies.get e = s.fio.dies.get e := by
  have h : (s.refreshed d raw rb tp ff).fio.dies.get d = { s.fio.dies.get d with
      rx := some s.time.mono, lost := false, raw := raw, rb := rb, tpWas := (s.fio.dies.get d).tp, tp := tp, ff := ff } := Bank.get_modify_same _ _ _
  rw [h]
  exact ⟨rfl, rfl, rfl, fun e he => Bank.get_modify_ne _ _ he⟩

/-- The rotating words of a good refresh leave its data. -/
theorem refreshed_rotOnly (s : State) (d : Fin 2) (i : Nat) (raw : Word) (rb tp : Nat) (ff : Bool) (rot : Nat) :
    (s.refreshed d raw rb tp ff).rotOnly (((s.refreshed d raw rb tp ff).noteFrame d i true).takeRot d i (some rot)) :=
  rotOnly_trans (noteFrame_rotOnly _ d i true) (takeRot_rotOnly _ d i _)

theorem refreshRead_keeps (s : State) (d : Fin 2) (i : Nat) (raw : Word) (rb tp : Nat) (ff : Bool) (rot : Nat) :
    s.keeps (s.refreshRead d i raw rb tp ff rot) [FIO_VF, FIO_INRAW d, FIO_OUT_RB] := by
  have h := keeps_mono (k := [FIO_VF, FIO_INRAW d, FIO_OUT_RB]) (refreshed_rotOnly s d i raw rb tp ff rot).keeps (by simp)
  have h0 : s.keeps (s.refreshed d raw rb tp ff) [FIO_VF, FIO_INRAW d, FIO_OUT_RB] := keeps_of_regs rfl _
  exact keeps_wrN _ (keeps_wrN _ (keeps_trans h0 h) (by simp)) (by simp)

theorem refreshRead_inraw (s : State) (d : Fin 2) (i : Nat) (raw : Word) (rb tp : Nat) (ff : Bool) (rot : Nat) :
    (s.refreshRead d i raw rb tp ff rot).rd (FIO_INRAW d) = raw := by
  have h : FIO_INRAW d ≠ FIO_OUT_RB := by unfold FIO_INRAW FIO_OUT_RB; omega
  unfold refreshRead
  dsimp only
  rw [rd_wrN_ne _ _ h]
  unfold wrN
  rw [rd_wr_same, BitVec.ofNat_toNat, BitVec.setWidth_eq]

theorem wrN_edgeFrame (s : State) (a v : Nat) : s.edgeFrame (s.wrN a v) := rfl

theorem modFio_edgeFrame (s : State) (g : FioState → FioState) : s.edgeFrame (s.modFio g) := rfl

theorem rotOnly.edgeFrame {s t : State} (h : s.rotOnly t) : s.edgeFrame t := by
  have hf := h.frame
  unfold State.edgeFrame
  rw [hf]

theorem sampled.edgeFrame {d : Fin 2} {s t : State} (h : sampled d s t) : s.edgeFrame t := by
  have hf := h.frame
  unfold sampleFrame at hf
  unfold State.edgeFrame
  rw [hf]

theorem refreshRead_edgeFrame (s : State) (d : Fin 2) (i : Nat) (raw : Word) (rb tp : Nat) (ff : Bool) (rot : Nat) :
    s.edgeFrame (s.refreshRead d i raw rb tp ff rot) :=
  edgeFrame_trans (edgeFrame_trans (edgeFrame_trans (modFio_edgeFrame s _) (refreshed_rotOnly s d i raw rb tp ff rot).edgeFrame)
    (wrN_edgeFrame _ _ _)) (wrN_edgeFrame _ _ _)

/-- The dies and filters after the refresh is read: its own data, and the filters as they were. -/
theorem refreshRead_fio (s : State) (d : Fin 2) (i : Nat) (raw : Word) (rb tp : Nat) (ff : Bool) (rot : Nat) :
    ((s.refreshRead d i raw rb tp ff rot).fio.dies.get d).rx = some s.time.mono ∧
      ((s.refreshRead d i raw rb tp ff rot).fio.dies.get d).lost = false ∧
      ((s.refreshRead d i raw rb tp ff rot).fio.dies.get d).ff = ff ∧
      (∀ e, e ≠ d → ((s.refreshRead d i raw rb tp ff rot).fio.dies.get e).ff = (s.fio.dies.get e).ff) ∧
      (s.refreshRead d i raw rb tp ff rot).fio.filt = s.fio.filt ∧ (s.refreshRead d i raw rb tp ff rot).flt = s.flt := by
  obtain ⟨h1, h2, h3, h4⟩ := refreshed_dies s d raw rb tp ff
  have h := refreshed_rotOnly s d i raw rb tp ff rot
  obtain ⟨g1, g2, g3⟩ := h.dies d
  have hflt : (((s.refreshed d raw rb tp ff).noteFrame d i true).takeRot d i (some rot)).flt = s.flt := by
    rw [h.frame]
    rfl
  exact ⟨g1.trans h1, g2.trans h2, g3.trans h3, fun e he => (h.dies e).2.2.trans (by rw [h4 e he]), h.filt, hflt⟩

theorem infer_fio (s : State) (d : Fin 2) (tpm : Bool) : (s.infer d tpm).fio = s.fio := rfl

theorem syncValid_fio (s : State) : s.syncValid.fio = s.fio := rfl

theorem syncValid_flt (s : State) : s.syncValid.flt = s.flt := rfl

theorem infer_flt (s : State) (d : Fin 2) (tpm : Bool) : (s.infer d tpm).flt = s.flt := rfl

theorem syncValid_edgeFrame (s : State) : s.edgeFrame s.syncValid := rfl

theorem infer_edgeFrame (s : State) (d : Fin 2) (tpm : Bool) : s.edgeFrame (s.infer d tpm) := rfl

theorem refreshJudged_edgeFrame (s : State) (d : Fin 2) (i : Nat) (raw : Word) (rb tp : Nat) (ff : Bool) (rot : Nat) :
    s.edgeFrame (s.refreshJudged d i raw rb tp ff rot) :=
  edgeFrame_trans (edgeFrame_trans (edgeFrame_trans (refreshRead_edgeFrame s d i raw rb tp ff rot) (takeInputs_sampled _ d raw _).edgeFrame)
    (syncValid_edgeFrame _)) (infer_edgeFrame _ _ _)

/-- From the samples on no die or filter changes. -/
theorem refreshJudged_fio (s : State) (d : Fin 2) (i : Nat) (raw : Word) (rb tp : Nat) (ff : Bool) (rot : Nat) :
    (s.refreshJudged d i raw rb tp ff rot).fio = ((s.refreshRead d i raw rb tp ff rot).takeInputs d raw (s.fio.dies.get d).raw).fio := by
  unfold refreshJudged
  dsimp only
  rw [infer_fio, syncValid_fio]

theorem refreshJudged_tail_keeps (s : State) (d : Fin 2) (i : Nat) (raw : Word) (rb tp : Nat) (ff : Bool) (rot : Nat) :
    ((s.refreshRead d i raw rb tp ff rot).takeInputs d raw (s.fio.dies.get d).raw).keeps (s.refreshJudged d i raw rb tp ff rot)
      [FIO_STAT, FIO_IN 0, FIO_IN 1, FIO_CAUSE, FIO_DIAG_HI, FIO_DIAG_LO] :=
  keeps_trans (keeps_mono (syncValid_keeps _) (by simp)) (keeps_mono (infer_keeps _ _ _) (by simp))

theorem refreshJudged_keeps (s : State) (d : Fin 2) (i : Nat) (raw : Word) (rb tp : Nat) (ff : Bool) (rot : Nat) :
    s.keeps (s.refreshJudged d i raw rb tp ff rot) (judgedRegs d) := by
  refine keeps_trans (keeps_trans (keeps_mono (refreshRead_keeps s d i raw rb tp ff rot) ?_)
    (keeps_mono (takeInputs_sampled _ d raw (s.fio.dies.get d).raw).keeps ?_)) (keeps_mono (refreshJudged_tail_keeps s d i raw rb tp ff rot) ?_)
  · simp [judgedRegs]
  · have hd : FIO_TPMIS d = FIO_TPMIS 0 ∨ FIO_TPMIS d = FIO_TPMIS 1 := by
      fin_cases d <;> simp
    intro x hx
    rcases List.mem_cons.mp hx with rfl | hx
    · rcases hd with h | h <;> rw [h] <;> simp [judgedRegs]
    · exact List.mem_append_right _ hx
  · simp [judgedRegs]

/-- Where every die's fault bit stands after a good refresh (R521). -/
theorem refreshJudged_ff (s : State) (d : Fin 2) (i : Nat) (raw : Word) (rb tp : Nat) (ff : Bool) (rot : Nat) :
    (((s.refreshJudged d i raw rb tp ff rot).fio.dies.get 0).ff || ((s.refreshJudged d i raw rb tp ff rot).fio.dies.get 1).ff) =
      (ff || (s.fio.dies.get (1 - d)).ff) := by
  obtain ⟨-, -, h3, h4, -⟩ := refreshRead_fio s d i raw rb tp ff rot
  rw [refreshJudged_fio, (takeInputs_sampled _ d raw (s.fio.dies.get d).raw).dies]
  fin_cases d
  · exact congrArg₂ _ h3 (h4 1 (by decide))
  · exact (congrArg₂ _ (h4 0 (by decide)) h3).trans (Bool.or_comm _ _)

theorem refreshJudged_fieldFault (s : State) (d : Fin 2) (i : Nat) (raw : Word) (rb tp : Nat) (ff : Bool) (rot : Nat) :
    (s.refreshJudged d i raw rb tp ff rot).flag FIO_STAT_FIELD_FAULT = s.flag FIO_STAT_FIELD_FAULT := by
  have h1 := flag_keeps (x := FIO_STAT_FIELD_FAULT) (refreshRead_keeps s d i raw rb tp ff rot) (by fin_cases d <;> decide)
  have h2 := flag_keeps (x := FIO_STAT_FIELD_FAULT) (takeInputs_sampled (s.refreshRead d i raw rb tp ff rot) d raw (s.fio.dies.get d).raw).keeps
    (FIO_STAT_notMem_inputRegs d)
  have h3 := syncValid_f ((s.refreshRead d i raw rb tp ff rot).takeInputs d raw (s.fio.dies.get d).raw) (x := FIO_STAT_FIELD_FAULT) rfl
    (by decide) (by decide)
  rw [← h1, ← h2, flag_eq, flag_eq, ← h3]
  exact congrArg (· != 0) (f_keeps (x := FIO_STAT_FIELD_FAULT) (infer_keeps _ d _) (by decide))

theorem refreshJudged_flt (s : State) (d : Fin 2) (i : Nat) (raw : Word) (rb tp : Nat) (ff : Bool) (rot : Nat) :
    (s.refreshJudged d i raw rb tp ff rot).flt = s.flt := by
  obtain ⟨-, -, -, -, -, h⟩ := refreshRead_fio s d i raw rb tp ff rot
  have hs : ((s.refreshRead d i raw rb tp ff rot).takeInputs d raw (s.fio.dies.get d).raw).flt = (s.refreshRead d i raw rb tp ff rot).flt := by
    have hf := (takeInputs_sampled (s.refreshRead d i raw rb tp ff rot) d raw (s.fio.dies.get d).raw).frame
    unfold sampleFrame at hf
    rw [hf]
  unfold refreshJudged
  dsimp only
  rw [infer_flt, syncValid_flt, hs, h]

/-- What a good refresh leaves: the judged state with the common fault bit of both dies. -/
def refreshDone (s : State) (d : Fin 2) (i : Nat) (raw : Word) (rb tp : Nat) (ff : Bool) (rot : Nat) : State :=
  (s.refreshJudged d i raw rb tp ff rot).faultBit (ff || (s.fio.dies.get (1 - d)).ff)

theorem execBarrierRefreshRx_done {s u : State} {d : Fin 2} {i : Fin 8} {w : Word} {rb tp rot m : Nat} {ff : Bool} (hu : u = s.runTo m)
    (hm : u.mode ≠ mRESET) : exec (.barrierRefreshRx d true i w rb tp ff rot m) s = .next (u.refreshDone d i w rb tp ff rot) := by
  rw [execBarrierRefreshRx_good hu hm, refreshJudged_ff]
  rfl

theorem faultBit_dies (s : State) (on : Bool) : (s.faultBit on).fio.dies = s.fio.dies ∧ (s.faultBit on).fio.filt = s.fio.filt := by
  have hn : ∀ b, (s.faultNoted b).fio.dies = s.fio.dies ∧ (s.faultNoted b).fio.filt = s.fio.filt := by
    intro b
    unfold faultNoted
    dsimp only
    rw [offerRec_fio]
    exact ⟨rfl, rfl⟩
  by_cases h : on = s.flag FIO_STAT_FIELD_FAULT
  · rw [faultBit_same h]
    exact ⟨rfl, rfl⟩
  · cases on with
    | false =>
      have hf : s.flag FIO_STAT_FIELD_FAULT = true := by simpa using h
      rw [faultBit_fall hf, endCause_fio]
      exact hn false
    | true =>
      have hf : s.flag FIO_STAT_FIELD_FAULT = false := by simpa using h
      obtain ⟨m, -, -, -, hm⟩ := faultBit_rise hf
      rw [hm, raise_fio, bump_fio, hit_fio]
      exact hn true

theorem FIO_INSTAT_notMem_tail (i : Nat) : FIO_INSTAT i ∉ [FIO_STAT, FIO_IN 0, FIO_IN 1, FIO_CAUSE, FIO_DIAG_HI, FIO_DIAG_LO] ∧
    FIO_INSTAT i ∉ edgeRegs := by
  constructor <;> simp [edgeRegs, recRegs, FIO_INSTAT, FIO_STAT, FIO_IN, FIO_CAUSE, FIO_DIAG_HI, FIO_DIAG_LO, FIO_CNT_FF, REC_STAT, REC_CNT_DROP,
    REC_CNT_SUPP, REC_CNT_REF, HQ_CNT_REF, HQ_HWM] <;> omega

/-- An input's register after a refresh is the one that its samples leave. -/
theorem refreshDone_instat (s : State) (d : Fin 2) (i : Nat) (raw : Word) (rb tp : Nat) (ff : Bool) (rot k : Nat) :
    (s.refreshDone d i raw rb tp ff rot).rd (FIO_INSTAT k) =
      ((s.refreshRead d i raw rb tp ff rot).takeInputs d raw (s.fio.dies.get d).raw).rd (FIO_INSTAT k) :=
  (faultBit_keeps _ _ _ (FIO_INSTAT_notMem_tail k).2).trans (refreshJudged_tail_keeps s d i raw rb tp ff rot _ (FIO_INSTAT_notMem_tail k).1)

theorem refreshDone_inraw (s : State) (d : Fin 2) (i : Nat) (raw : Word) (rb tp : Nat) (ff : Bool) (rot : Nat) :
    (s.refreshDone d i raw rb tp ff rot).rd (FIO_INRAW d) = raw := by
  have h1 : FIO_INRAW d ∉ edgeRegs := by fin_cases d <;> decide
  have h2 : FIO_INRAW d ∉ [FIO_STAT, FIO_IN 0, FIO_IN 1, FIO_CAUSE, FIO_DIAG_HI, FIO_DIAG_LO] := by fin_cases d <;> decide
  have h3 : FIO_INRAW d ∉ inputRegs d := by
    simp only [inputRegs, List.mem_cons, List.mem_map, List.mem_range, not_or, not_exists, not_and, FIO_INRAW, FIO_TPMIS, FIO_INSTAT]
    exact ⟨by omega, fun _ _ => by omega⟩
  calc (s.refreshDone d i raw rb tp ff rot).rd (FIO_INRAW d)
      = (s.refreshJudged d i raw rb tp ff rot).rd (FIO_INRAW d) := faultBit_keeps _ _ _ h1
    _ = _ := refreshJudged_tail_keeps s d i raw rb tp ff rot _ h2
    _ = _ := (takeInputs_sampled _ d raw _).keeps _ h3
    _ = raw := refreshRead_inraw s d i raw rb tp ff rot

theorem refreshDone_die (s : State) (d : Fin 2) (i : Nat) (raw : Word) (rb tp : Nat) (ff : Bool) (rot : Nat) :
    ((s.refreshDone d i raw rb tp ff rot).fio.dies.get d).rx = some s.time.mono ∧ ((s.refreshDone d i raw rb tp ff rot).fio.dies.get d).lost = false := by
  obtain ⟨h1, h2, -⟩ := refreshRead_fio s d i raw rb tp ff rot
  unfold refreshDone
  rw [(faultBit_dies _ _).1, refreshJudged_fio, (takeInputs_sampled _ d raw (s.fio.dies.get d).raw).dies]
  exact ⟨h1, h2⟩

theorem refreshDone_keeps (s : State) (d : Fin 2) (i : Nat) (raw : Word) (rb tp : Nat) (ff : Bool) (rot : Nat) :
    s.keeps (s.refreshDone d i raw rb tp ff rot) (refreshRegs d) := by
  refine keeps_trans (keeps_mono (refreshJudged_keeps s d i raw rb tp ff rot) (judgedRegs_subset d)) (keeps_mono (faultBit_keeps _ _) ?_)
  simp only [edgeRegs, List.forall_mem_cons]
  exact ⟨by simp [refreshRegs], by simp [refreshRegs], fun x hx => List.mem_append_right _ hx⟩

theorem refreshDone_edgeFrame (s : State) (d : Fin 2) (i : Nat) (raw : Word) (rb tp : Nat) (ff : Bool) (rot : Nat) :
    s.edgeFrame (s.refreshDone d i raw rb tp ff rot) :=
  edgeFrame_trans (refreshJudged_edgeFrame s d i raw rb tp ff rot) (faultBit_edgeFrame _ _)

theorem FIO_CNT_FF_notMem_judgedRegs (d : Fin 2) : FIO_CNT_FF ∉ judgedRegs d := by
  simp only [judgedRegs, List.mem_append, List.mem_cons, List.mem_map, List.mem_range, List.not_mem_nil, or_false, not_or, not_exists, not_and,
    FIO_CNT_FF, FIO_INRAW, FIO_OUT_RB, FIO_STAT, FIO_IN, FIO_CAUSE, FIO_DIAG_HI, FIO_DIAG_LO, FIO_VF, FIO_TPMIS, FIO_INSTAT]
  exact ⟨by omega, fun _ _ => by omega⟩

/-- The common fault bit rises: it is latched, counted and raised (R521, R523). -/
theorem refreshDone_rise {s : State} (d : Fin 2) (i : Nat) (raw : Word) (rb tp rot : Nat) (h : s.flag FIO_STAT_FIELD_FAULT = false) :
    (s.refreshDone d i raw rb tp true rot).f FIO_STAT_FF_LATCH = 1 ∧ s.raisedOne (s.refreshDone d i raw rb tp true rot) 0xD5 0x80 cMAJOR ∧
      (s.refreshDone d i raw rb tp true rot).rdN FIO_CNT_FF = min (s.rdN FIO_CNT_FF + 1) 4294967295 := by
  have hj := refreshJudged_fieldFault s d i raw rb tp true rot
  obtain ⟨m, h1, h2, h3, hm⟩ := faultBit_rise (hj.trans h)
  have hd : s.refreshDone d i raw rb tp true rot =
      ((((s.refreshJudged d i raw rb tp true rot).faultNoted true).hit FIO_STAT_FF_LATCH).bump FIO_CNT_FF).raise m := hm
  have hmono : (s.refreshJudged d i raw rb tp true rot).time.mono = s.time.mono := by
    have hf := refreshJudged_edgeFrame s d i raw rb tp true rot
    unfold edgeFrame at hf
    rw [hf]
  rw [hd]
  refine ⟨?_, ?_, ?_⟩
  · rw [raise_f, f_bump_ne _ (by decide), f_hit_same _ _ (by decide) rfl]
  · have hr := raisedOne_raise s ((((s.refreshJudged d i raw rb tp true rot).faultNoted true).hit FIO_STAT_FF_LATCH).bump FIO_CNT_FF) m
      (by rw [bump_flt, hit_flt, faultNoted_flt, refreshJudged_flt]) (by rw [bump_time, hit_time, faultNoted_mono, hmono])
    rwa [h1, h2, h3] at hr
  · rw [raise_rdN, rdN_bump_same]
    have hk : s.keeps (((s.refreshJudged d i raw rb tp true rot).faultNoted true).hit FIO_STAT_FF_LATCH) (judgedRegs d ++ (FIO_STAT :: recRegs)) :=
      keeps_hit (keeps_trans (keeps_mono (refreshJudged_keeps s d i raw rb tp true rot) fun x hx => List.mem_append_left _ hx)
        (keeps_mono (faultNoted_keeps _ true) fun x hx => List.mem_append_right _ hx)) (List.mem_append_right _ (.head _))
    rw [rdN_keeps hk (by rw [List.mem_append, not_or]; exact ⟨FIO_CNT_FF_notMem_judgedRegs d, by decide⟩)]

theorem filtNext_congr {s t : State} {i : Fin 64} (hm : t.f FIO_STAT_FMODE = s.f FIO_STAT_FMODE) (hc : t.rd (FIO_INCFG i) = s.rd (FIO_INCFG i))
    (hf : t.fio.filt.get i = s.fio.filt.get i) (raw : Bool) : t.filtNext i raw = s.filtNext i raw := by
  unfold filtNext
  rw [hm, hf, f_of_rd (x := FIO_INCFG_DEB i) hc, flag_of_rd (x := FIO_INCFG_INV i) hc]

theorem FIO_INCFG_notMem_read (d : Fin 2) (i : Nat) : FIO_INCFG i ∉ [FIO_VF, FIO_INRAW d, FIO_OUT_RB] := by
  simp only [List.mem_cons, List.not_mem_nil, or_false, not_or, FIO_INCFG, FIO_VF, FIO_INRAW, FIO_OUT_RB]
  omega

/-- In DEBOUNCE, without a test pulse, a refresh moves the filter of an input whose sample differs by one step, and LEVEL shows it. -/
theorem refreshDone_filt {s : State} (d : Fin 2) (i : Nat) (raw : Word) (rb tp rot : Nat) (ff : Bool) {k : Fin 32}
    (hm : s.f FIO_STAT_FMODE = fmDEBOUNCE) (htp : 4 ≤ s.f (FIO_INCFG_TP (inputOf d k))) (hi : s.flag (FIO_INCFG_INV (inputOf d k)) = false)
    (hn : (s.fio.filt.get (inputOf d k)).out ≠ raw.toNat.testBit k) :
    (s.refreshDone d i raw rb tp ff rot).fio.filt.get (inputOf d k) =
        (if s.f (FIO_INCFG_DEB (inputOf d k)) ≤ (s.fio.filt.get (inputOf d k)).cnt + 1 then { out := raw.toNat.testBit k, cnt := 0 }
          else { out := (s.fio.filt.get (inputOf d k)).out, cnt := (s.fio.filt.get (inputOf d k)).cnt + 1 }) ∧
      (s.refreshDone d i raw rb tp ff rot).f (FIO_INSTAT_LEVEL (inputOf d k)) =
        b2n ((s.refreshDone d i raw rb tp ff rot).fio.filt.get (inputOf d k)).out := by
  have hr := refreshRead_keeps s d i raw rb tp ff rot
  have hc := hr _ (FIO_INCFG_notMem_read d (inputOf d k))
  have hfl : (s.refreshRead d i raw rb tp ff rot).fio.filt = s.fio.filt := by
    obtain ⟨-, -, -, -, h, -⟩ := refreshRead_fio s d i raw rb tp ff rot
    exact h
  have hf : (s.refreshDone d i raw rb tp ff rot).fio.filt =
      ((s.refreshRead d i raw rb tp ff rot).takeInputs d raw (s.fio.dies.get d).raw).fio.filt := by
    unfold refreshDone
    rw [(faultBit_dies _ _).2, refreshJudged_fio]
  have hnext : (s.refreshRead d i raw rb tp ff rot).filtNext (inputOf d k) (raw.toNat.testBit k) = s.filtNext (inputOf d k) (raw.toNat.testBit k) :=
    filtNext_congr (f_keeps (x := FIO_STAT_FMODE) hr (by fin_cases d <;> decide)) hc (by rw [hfl]) _
  obtain ⟨h1, h2⟩ := takeInputs_filt (s := s.refreshRead d i raw rb tp ff rot) raw (s.fio.dies.get d).raw (k := k)
    (by rwa [f_of_rd (x := FIO_INCFG_TP (inputOf d k)) hc])
  rw [hnext] at h1 h2
  rw [hf, h1, f_of_rd (x := FIO_INSTAT_LEVEL (inputOf d k)) (refreshDone_instat s d i raw rb tp ff rot _), h2, filtNext_debounce hm hi hn]
  exact ⟨rfl, rfl⟩

-- ===== a discarded refresh (R510) =====

theorem refreshBad_rotOnly (s : State) (d : Fin 2) (i : Nat) : (s.bump FIO_CNT_BAR).rotOnly (s.refreshBad d i) :=
  rotOnly_trans (noteFrame_rotOnly _ d i false) (takeRot_rotOnly _ d i none)

theorem refreshBad_count (s : State) (d : Fin 2) (i : Nat) : (s.refreshBad d i).rdN FIO_CNT_BAR = min (s.rdN FIO_CNT_BAR + 1) 4294967295 := by
  rw [rdN_keeps (refreshBad_rotOnly s d i).keeps (by decide), rdN_bump_same]

theorem refreshBad_fio (s : State) (d : Fin 2) (i : Nat) :
    ((s.refreshBad d i).fio.dies.get d).rx = (s.fio.dies.get d).rx ∧ (s.refreshBad d i).fio.filt = s.fio.filt := by
  have h := refreshBad_rotOnly s d i
  have hf := h.filt
  obtain ⟨hd, -⟩ := h.dies d
  rw [bump_fio] at hf hd
  exact ⟨hd, hf⟩

theorem refreshBad_keeps (s : State) (d : Fin 2) (i : Nat) : s.keeps (s.refreshBad d i) [FIO_CNT_BAR, FIO_VF] :=
  keeps_trans (keeps_bump (keeps_refl s _) (.head _)) (keeps_mono (refreshBad_rotOnly s d i).keeps (by simp))

theorem refreshBad_frame (s : State) (d : Fin 2) (i : Nat) :
    s.refreshBad d i = { s with fio := (s.refreshBad d i).fio, regs := (s.refreshBad d i).regs } := by
  have h := (refreshBad_rotOnly s d i).frame
  generalize s.refreshBad d i = t at h ⊢
  rw [h]
  rfl

-- ===== a refresh to a die (R510, R517, R518) =====

theorem sendCfg_outDrive (s : State) (d : Fin 2) : (s.sendCfg d).outDrive = s.outDrive := rfl

/-- The departure of a refresh frame to a die. -/
def refreshSent (s : State) (d : Fin 2) : State :=
  let s1 := s.sendCfg d
  let lv := s1.outDrive
  let mine := fun (o : Nat) => o / 16 == d.val
  s1.modFio (fun x => { x with
    sent := mask32 (fun o => if mine o then lv.testBit o else x.sent.testBit o)
    changed := x.changed.mapIdx (fun o (m : Nat) => if mine o && lv.testBit o != x.sent.testBit o then s1.time.mono else m) })

theorem execBarrierRefreshTx_due {s u : State} {d : Fin 2} {m : Nat} (hu : u = s.runTo m) (hm : u.mode ≠ mRESET) (hd : u.refreshDue d = true) :
    exec (.barrierRefreshTx d m) s = .next ((u.foutRefresh d).refreshSent d) := by
  have hn : ¬ (u.mode = mRESET ∨ (!u.refreshDue d) = true) := by simp [hm, hd]
  rw [hu] at hn ⊢
  exact congrArg Host.Outcome.next (if_neg hn)

theorem execBarrierRefreshTx_not_due {s u : State} {d : Fin 2} {m : Nat} (hu : u = s.runTo m) (h : u.mode = mRESET ∨ u.refreshDue d = false) :
    exec (.barrierRefreshTx d m) s = .next u := by
  have hn : u.mode = mRESET ∨ (!u.refreshDue d) = true := by simpa using h
  rw [hu] at hn ⊢
  exact congrArg Host.Outcome.next (if_pos hn)

theorem refreshSent_fio (s : State) (d : Fin 2) : (s.refreshSent d).fio.dies = (s.sendCfg d).fio.dies ∧
    (s.refreshSent d).fio.sent = mask32 (fun o => if o / 16 == d.val then (s.sendCfg d).outDrive.testBit o else s.fio.sent.testBit o) := by
  unfold refreshSent
  dsimp only
  rw [modFio_fio]
  exact ⟨rfl, rfl⟩

theorem refreshSent_dies (s : State) (d : Fin 2) : ((s.refreshSent d).fio.dies.get d).txAt = some s.time.mono ∧
    ∀ e, e ≠ d → (s.refreshSent d).fio.dies.get e = s.fio.dies.get e := by
  rw [(refreshSent_fio s d).1]
  unfold sendCfg modFioDie
  rw [modFio_fio]
  refine ⟨?_, fun e he => Bank.get_modify_ne _ _ he⟩
  rw [Bank.get_modify_same]

/-- A refresh carries the levels to its die; the other die's stand (R518). -/
theorem refreshSent_sent (s : State) (d : Fin 2) {o : Nat} (ho : o < 32) :
    (s.refreshSent d).fio.sent.testBit o = if o / 16 = d.val then s.outDrive.testBit o else s.fio.sent.testBit o := by
  rw [(refreshSent_fio s d).2, testBit_mask32 _ ho, sendCfg_outDrive]
  simp only [beq_iff_eq]

theorem refreshSent_frame (s : State) (d : Fin 2) : s.refreshSent d = { s with fio := (s.refreshSent d).fio } := rfl

-- ===== a silent die (R511) =====

/-- A die is lost: its refreshes are none, outputs are held, inputs invalid. -/
def dieLost (s : State) (d : Fin 2) : State :=
  ((s.modFioDie d (fun x => { x with rx := none, lost := true })).setF FIO_STAT_OUT_HELD 1).syncValid

theorem execFieldBarrier_due {s u : State} {d : Fin 2} {m : Nat} (hu : u = s.runTo m) (hm : u.mode ≠ mRESET)
    (hl : (u.fio.dies.get d).lost = false) (ht : (u.fio.dies.get d).rx.getD 0 + u.usCycles 10 ≤ u.time.mono) :
    exec (.fieldBarrier d m) s = .next ((u.dieLost d).raise (mkFault srcFIO 0x81 cMAJOR 1 [.inst d])) := by
  subst hu
  refine congrArg Host.Outcome.next (if_neg ?_)
  rw [hl]
  simpa [hm] using ht

theorem execFieldBarrier_not_due {s u : State} {d : Fin 2} {m : Nat} (hu : u = s.runTo m)
    (h : u.mode = mRESET ∨ (u.fio.dies.get d).lost = true ∨ u.time.mono < (u.fio.dies.get d).rx.getD 0 + u.usCycles 10) :
    exec (.fieldBarrier d m) s = .next u := by
  subst hu
  exact congrArg Host.Outcome.next (if_pos h)

/-- With one die silent the inputs are not valid, and read 0 (R515). -/
theorem syncValid_invalid {s : State} {d : Fin 2} (h : (s.fio.dies.get d).rx = none) : s.syncValid.f FIO_STAT_IN_VALID = 0 ∧
    s.syncValid.f FIO_STAT_BARRIER = 0 ∧ s.syncValid.rdN (FIO_IN 0) = 0 ∧ s.syncValid.rdN (FIO_IN 1) = 0 := by
  have hb : ((s.fio.dies.get 0).rx.isSome && (s.fio.dies.get 1).rx.isSome) = false := by
    fin_cases d
    · have h0 : (s.fio.dies.get 0).rx = none := h
      rw [h0]
      rfl
    · have h1 : (s.fio.dies.get 1).rx = none := h
      rw [h1]
      exact Bool.and_false _
  unfold syncValid showInputs
  dsimp only
  rw [hb]
  simp only [Bool.false_and]
  have hf : ((s.setB FIO_STAT_BARRIER false).setB FIO_STAT_IN_VALID false).flag FIO_STAT_IN_VALID = false := flag_setB_same _ _ _ (by decide) rfl
  rw [hf, if_neg (by decide), if_neg (by decide)]
  refine ⟨?_, ?_, ?_, ?_⟩
  · rw [f_wrN_ne _ _ (by decide), f_wrN_ne _ _ (by decide), f_setB_same _ _ _ (by decide) rfl]
    rfl
  · rw [f_wrN_ne _ _ (by decide), f_wrN_ne _ _ (by decide), f_setB_disj (x := FIO_STAT_IN_VALID) (y := FIO_STAT_BARRIER) _ _ rfl (by decide),
      f_setB_same _ _ _ (by decide) rfl]
    rfl
  · rw [rdN_wrN_ne _ _ (by decide), rdN_wrN_same]
  · rw [rdN_wrN_same]

theorem dieLost_die (s : State) (d : Fin 2) : (((s.modFioDie d (fun x => { x with rx := none, lost := true })).setF FIO_STAT_OUT_HELD 1).fio.dies.get d) =
    { s.fio.dies.get d with rx := none, lost := true } := Bank.get_modify_same _ _ _

theorem dieLost_stat (s : State) (d : Fin 2) : (s.dieLost d).f FIO_STAT_OUT_HELD = 1 ∧ (s.dieLost d).f FIO_STAT_IN_VALID = 0 ∧
    (s.dieLost d).f FIO_STAT_BARRIER = 0 ∧ (s.dieLost d).rdN (FIO_IN 0) = 0 ∧ (s.dieLost d).rdN (FIO_IN 1) = 0 := by
  have hrx := congrArg FioDie.rx (dieLost_die s d)
  refine ⟨?_, syncValid_invalid hrx⟩
  exact (syncValid_f _ (x := FIO_STAT_OUT_HELD) rfl (by decide) (by decide)).trans (f_setF_one _ _ (by decide) rfl)

theorem dieLost_lost (s : State) (d : Fin 2) : ((s.dieLost d).fio.dies.get d).lost = true := congrArg FioDie.lost (dieLost_die s d)

theorem dieLost_keeps (s : State) (d : Fin 2) : s.keeps (s.dieLost d) [FIO_STAT, FIO_IN 0, FIO_IN 1] := by
  refine keeps_trans ?_ (syncValid_keeps _)
  refine keeps_setF (x := FIO_STAT_OUT_HELD) 1 ?_ (.head _)
  exact keeps_of_regs rfl _

-- ===== writes to the outputs (R517, R518) =====

/-- A write names an output that the DOOR block does not own: all of them through FIO_OUT, those of its 1 bits through SET and CLR. -/
def outNamed (s : State) (g : Fin 3) (v : Word) (o : Nat) : Bool := s.f (FIO_OUTCFG_OWNER o) != 2 && (g == 0 || v.toNat.testBit o)

/-- In COMMISSION an output without COMM takes no write. -/
def outShut (s : State) (o : Nat) : Bool := s.mode == mCOMMISSION && !s.flag (FIO_OUTCFG_COMM o)

/-- The level that FIO_OUT holds for an output after a write. -/
def outNew (s : State) (g : Fin 3) (v : Word) (o : Nat) : Bool :=
  if s.outNamed g v o && !s.outShut o then (if g = 0 then v.toNat.testBit o else g == 1) else (s.rdN FIO_OUT).testBit o

/-- What a write to the outputs leaves. -/
def outWritten (s : State) (g : Fin 3) (v : Word) : State :=
  if (List.range 32).any (fun o => s.outNamed g v o && s.outShut o) then (s.wrN FIO_OUT (mask32 (s.outNew g v))).hit FIO_STAT_WR_REF
  else s.wrN FIO_OUT (mask32 (s.outNew g v))

theorem execFioOutWrite_closed {s : State} (g : Fin 3) (v : Word) (h : s.mapOpen = false) : exec (.fioOutWrite g v) s = .next s := by
  have hc : (!s.mapOpen) = true := by rw [h]; rfl
  exact congrArg Host.Outcome.next (if_pos hc)

theorem execFioOutWrite_open {s : State} (g : Fin 3) (v : Word) (h : s.mapOpen = true) : exec (.fioOutWrite g v) s = .next (s.outWritten g v) := by
  have hc : ¬ (!s.mapOpen) = true := by rw [h]; decide
  exact congrArg Host.Outcome.next (if_neg hc)

theorem outWritten_refused {s : State} {g : Fin 3} {v : Word} (h : ∃ o, o < 32 ∧ s.outNamed g v o = true ∧ s.outShut o = true) :
    s.outWritten g v = (s.wrN FIO_OUT (mask32 (s.outNew g v))).hit FIO_STAT_WR_REF := by
  refine if_pos ?_
  simpa using h

theorem outWritten_taken {s : State} {g : Fin 3} {v : Word} (h : ¬ ∃ o, o < 32 ∧ s.outNamed g v o = true ∧ s.outShut o = true) :
    s.outWritten g v = s.wrN FIO_OUT (mask32 (s.outNew g v)) := by
  refine if_neg ?_
  simpa using h

theorem outWritten_rdN (s : State) (g : Fin 3) (v : Word) : (s.outWritten g v).rdN FIO_OUT = (s.wrN FIO_OUT (mask32 (s.outNew g v))).rdN FIO_OUT := by
  unfold outWritten
  split
  · exact rdN_keeps (keeps_hit (keeps_refl _ [FIO_STAT]) (.head _)) (by decide)
  · rfl

theorem outWritten_testBit (s : State) (g : Fin 3) (v : Word) {o : Nat} (ho : o < 32) :
    ((s.outWritten g v).rdN FIO_OUT).testBit o = s.outNew g v o := by
  rw [outWritten_rdN, testBit_rdN_wrN_mask32 _ _ _ ho]

theorem outWritten_frame (s : State) (g : Fin 3) (v : Word) :
    s.outWritten g v = { s with time := { s.time with hits := (s.outWritten g v).time.hits }, regs := (s.outWritten g v).regs } := by
  unfold outWritten
  split <;> rfl

end State

/-- Settles O39: each command of the barrier is the composition of the parts above, and a good refresh takes every input's sample in a
fold of which each input sees its own (takeInputs_at). -/
theorem fieldBarrierRuns : Obligations.FieldBarrierRuns := by
  unfold Obligations.FieldBarrierRuns
  dsimp only
  refine ⟨?_, ?_, ?_, ?_, ?_, ?_, ?_, ?_, ?_, ?_⟩
  case refine_1 =>
    intro s u v d m hu hv hm hd
    rw [hv]
    obtain ⟨h1, h2⟩ := State.refreshSent_dies (u.foutRefresh d) d
    exact ⟨_, State.execBarrierRefreshTx_due hu hm hd, fun o ho => State.refreshSent_sent _ d ho, h1, h2, State.refreshSent_frame _ d⟩
  case refine_2 =>
    intro s u d m hu h
    exact State.execBarrierRefreshTx_not_due hu h
  case refine_3 =>
    intro s u d g i w rb tp rot m ff hu hm
    subst hu
    exact congrArg Host.Outcome.next (if_pos hm)
  case refine_4 =>
    intro s u d i w rb tp rot m ff hu hm
    obtain ⟨h1, h2⟩ := State.refreshBad_fio u d i
    exact ⟨_, State.execBarrierRefreshRx_bad hu hm, State.refreshBad_count u d i, h1, h2, State.refreshBad_keeps u d i,
      State.refreshBad_frame u d i⟩
  case refine_5 =>
    intro s u d i w rb tp rot m ff hu hm
    obtain ⟨h1, h2⟩ := State.refreshDone_die u d i w rb tp ff rot
    refine ⟨_, State.execBarrierRefreshRx_done hu hm, State.refreshDone_inraw u d i w rb tp ff rot, h1, h2, fun k hk => ?_,
      State.faultBit_f _ _, ?_, State.refreshDone_keeps u d i w rb tp ff rot, State.refreshDone_edgeFrame u d i w rb tp ff rot⟩
    · exact (State.f_of_rd (State.refreshDone_instat u d i w rb tp ff rot _)).trans (State.takeInputs_raw _ d w _ ⟨k, hk⟩)
    · rintro rfl - hf
      exact State.refreshDone_rise d i w rb tp rot hf
  case refine_6 =>
    intro s u d i w rb tp rot m ff k hk hu hm hk32 hmode htp hinv hout
    obtain ⟨h1, h2⟩ := State.refreshDone_filt (k := ⟨k, hk32⟩) d i w rb tp rot ff hmode htp hinv hout
    refine ⟨_, State.execBarrierRefreshRx_done hu hm, ?_, ?_, ?_⟩
    · exact (congrArg InFilt.out h1).trans (apply_ite InFilt.out _ _ _)
    · exact (congrArg InFilt.cnt h1).trans (apply_ite InFilt.cnt _ _ _)
    · exact h2
  case refine_7 =>
    intro s u d m hu hm hl ht
    obtain ⟨h1, h2, h3, h4, h5⟩ := State.dieLost_stat u d
    exact ⟨_, State.execFieldBarrier_due hu hm hl ht, State.dieLost_lost u d, h1, h2, h3, h4, h5,
      State.raisedOne_raise u (u.dieLost d) _ rfl rfl, State.dieLost_keeps u d, rfl⟩
  case refine_8 =>
    intro s u d m hu h
    exact State.execFieldBarrier_not_due hu h
  case refine_9 =>
    intro s g v h
    exact State.execFioOutWrite_closed g v h
  case refine_10 =>
    intro s g v h
    have hn : ∀ o, s.outNamed g v o = true ↔ s.f (FIO_OUTCFG_OWNER o) ≠ 2 ∧ (g = 0 ∨ v.toNat.testBit o = true) := by simp [State.outNamed]
    have hs : ∀ o, s.outShut o = true ↔ s.mode = mCOMMISSION ∧ s.flag (FIO_OUTCFG_COMM o) = false := by simp [State.outShut]
    simp only [← hn, ← hs]
    refine ⟨_, State.execFioOutWrite_open g v h, fun o ho => ⟨fun h1 h2 => ?_, fun h1 => ?_⟩, fun h1 => ?_, fun h1 => ?_, State.outWritten_frame s g v⟩
    · rw [State.outWritten_testBit s g v ho, State.outNew, if_pos (by simp [h1, h2])]
    · rw [State.outWritten_testBit s g v ho, State.outNew, if_neg (by simpa [imp_iff_not_or] using h1)]
    · rw [State.outWritten_refused h1]
      exact ⟨State.f_hit_same _ _ (by decide) rfl, State.keeps_hit (State.keeps_wrN _ (State.keeps_refl s _) (.head _)) (.tail _ (.head _))⟩
    · rw [State.outWritten_taken fun ⟨o, ho, h2, h3⟩ => h1 o ho h2 h3]
      exact State.keeps_wrN _ (State.keeps_refl s _) (.head _)

end Sys2Proof.Machine

/-! SUPPORT. Groups that go to OFF (R333): what that writes, what it leaves, and which groups it takes. -/

namespace Sys2Proof.Machine

namespace State

/-- The registers of the power ports, of their tiles and the count of descriptors: those of offRegs beside the groups' own. -/
def sweepRegs (s : State) : List Nat :=
  WHEEL_OCC :: (List.range 32).flatMap (fun p =>
    let a := s.f (PP_CFG_TILE p)
    [PP_STAT p, TILE_STP_STAT a, TILE_STP_CUR a, TILE_FB_STAT a])

theorem offRegs_eq (s : State) :
    s.offRegs = [SAFE_STO_STAT 0, SAFE_STO_STAT 1, SAFE_STO_STAT 2, SAFE_STO_STAT 3] ++ s.sweepRegs := rfl

theorem sweepRegs_subset (s : State) : ∀ x ∈ s.sweepRegs, x ∈ s.offRegs := by
  intro x hx
  rw [offRegs_eq]
  exact List.mem_append_right _ hx

theorem mem_sweepRegs {s : State} {r : Nat} : r ∈ s.sweepRegs ↔ r = WHEEL_OCC ∨ ∃ p, p < 32 ∧
    (r = PP_STAT p ∨ r = TILE_STP_STAT (s.f (PP_CFG_TILE p)) ∨ r = TILE_STP_CUR (s.f (PP_CFG_TILE p)) ∨ r = TILE_FB_STAT (s.f (PP_CFG_TILE p))) := by
  simp [sweepRegs]

/-- Below the clusters no register but the count of descriptors is among them. -/
theorem notMem_sweepRegs {s : State} {r : Nat} (h : r < 0x100000) (hw : r ≠ WHEEL_OCC) : r ∉ s.sweepRegs := by
  rw [mem_sweepRegs]
  rintro (h' | ⟨p, -, h'⟩)
  · exact hw h'
  · unfold PP_STAT ppBase TILE_STP_STAT TILE_STP_CUR TILE_FB_STAT tileBase at h'
    omega

theorem notMem_offRegs {s : State} {r : Nat} (h : r < 0x100000) (hw : r ≠ WHEEL_OCC) (hg : r < 0xC0010 ∨ 0xC0020 ≤ r) : r ∉ s.offRegs := by
  rw [offRegs_eq, List.mem_append, not_or]
  refine ⟨?_, notMem_sweepRegs h hw⟩
  simp only [List.mem_cons, List.not_mem_nil, or_false, not_or, SAFE_STO_STAT]
  omega

theorem PP_CFG_notMem_offRegs (s : State) (p : Nat) : PP_CFG p ∉ s.offRegs := by
  rw [offRegs_eq, List.mem_append, not_or, mem_sweepRegs]
  refine ⟨?_, ?_⟩
  · simp only [List.mem_cons, List.not_mem_nil, or_false, not_or, SAFE_STO_STAT, PP_CFG, ppBase]
    omega
  · rintro (h | ⟨q, hq, h⟩)
    · unfold PP_CFG ppBase WHEEL_OCC at h
      omega
    · unfold PP_CFG PP_STAT TILE_STP_STAT TILE_STP_CUR TILE_FB_STAT ppBase tileBase at h
      omega

/-- They are the same registers wherever no port's configuration is written. -/
theorem offRegs_of_keeps {s t : State} {l : List Nat} (h : s.keeps t l) (hl : ∀ p, PP_CFG p ∉ l) :
    t.offRegs = s.offRegs ∧ t.sweepRegs = s.sweepRegs := by
  have hf : ∀ p, t.f (PP_CFG_TILE p) = s.f (PP_CFG_TILE p) := fun p => f_keeps (x := PP_CFG_TILE p) h (hl p)
  have hs : t.sweepRegs = s.sweepRegs := by
    unfold sweepRegs
    refine congrArg (List.cons _) (congrArg List.flatten (List.map_congr_left fun p _ => ?_))
    dsimp only
    rw [hf p]
  exact ⟨by rw [offRegs_eq, offRegs_eq, hs], hs⟩

theorem offRegs_keeps {s t : State} (h : s.keeps t s.offRegs) : t.offRegs = s.offRegs ∧ t.sweepRegs = s.sweepRegs :=
  offRegs_of_keeps h (PP_CFG_notMem_offRegs s)

-- ===== what a group's ports and items do then (R42, R215) =====

/-- What the ports, their tiles and the withdrawn items may change: nothing of the groups. -/
structure swept (s t : State) : Prop where
  keeps : s.keeps t s.sweepRegs
  frame : t = { s with hq := t.hq, wheel := t.wheel, tiles := t.tiles, pps := t.pps, regs := t.regs }

theorem swept_refl (s : State) : s.swept s := ⟨keeps_refl s _, rfl⟩

theorem swept_trans {s t u : State} (h : s.swept t) (h' : t.swept u) : s.swept u where
  keeps := by
    have hs := (offRegs_keeps (keeps_mono h.keeps (sweepRegs_subset s))).2
    exact keeps_trans h.keeps (hs ▸ h'.keeps)
  frame := h'.frame.trans (by rw [h.frame])

theorem swept.safe {s t : State} (h : s.swept t) : t.safe = s.safe := by rw [h.frame]

theorem swept.flt {s t : State} (h : s.swept t) : t.flt = s.flt := by rw [h.frame]

theorem gateUpdate_swept (s : State) (p : Fin 32) : s.swept (s.gateUpdate p) := by
  obtain ⟨-, hk, -, -, hf⟩ := gateUpdate_gateKept s p
  refine ⟨keeps_mono hk fun x hx => mem_sweepRegs.mpr (.inr ⟨p, p.isLt, ?_⟩), hf.trans (by rw [hf])⟩
  simpa [gateRegs] using hx

theorem sweepGates_swept (s : State) : s.swept s.sweepGates :=
  foldl_rel swept_refl swept_trans _ s fun p _ s => gateUpdate_swept s p

theorem withdrawGroups_swept (s : State) (m : GroupMask) : s.swept (s.withdrawGroups m) := by
  have h : ∀ (n : Fin 16) (q : QItem → Bool) (s : State), s.swept (s.cancelItems n q) := fun n q s => ⟨keeps_of_regs rfl _, rfl⟩
  have hd : ∀ (s : State) (ds : List WDesc), s.swept (s.setDescs ds) := fun s ds =>
    ⟨keeps_setF (x := WHEEL_OCC_COUNT) (t := { s with wheel := { s.wheel with descs := ds } }) _ (keeps_of_regs rfl _) (.head _), rfl⟩
  unfold withdrawGroups
  dsimp only
  split
  · exact swept_trans (swept_trans (h 12 _ s) (h 10 _ _)) (hd _ _)
  · exact swept_trans (h 12 _ s) (h 10 _ _)

theorem reachedOff_swept (s : State) (g : Fin 4) : s.swept (s.reachedOff g) := by
  unfold reachedOff
  split
  · exact swept_trans (withdrawGroups_swept s _) (sweepGates_swept _)
  · exact sweepGates_swept s

-- ===== a group in a channel =====

theorem group_modGroup_same (s : State) (c : Fin 2) (g : Fin 4) (h : GroupSt → GroupSt) : (s.modGroup c g h).group c g = h (s.group c g) := by
  simp [group, chan, modGroup, modChan]

theorem group_modGroup_chan (s : State) {c d : Fin 2} (g k : Fin 4) (h : GroupSt → GroupSt) (hd : d ≠ c) :
    (s.modGroup c g h).group d k = s.group d k := by
  simp [group, chan, modGroup, modChan, Bank.get_modify_ne _ _ hd]

theorem group_modGroup_ne (s : State) (c d : Fin 2) {g k : Fin 4} (h : GroupSt → GroupSt) (hk : k ≠ g) :
    (s.modGroup c g h).group d k = s.group d k := by
  by_cases hd : d = c
  · subst hd
    simp [group, chan, modGroup, modChan, Bank.get_modify_ne _ _ hk]
  · exact group_modGroup_chan s g k h hd

/-- Only the groups of the channels differ in what the Hardpan holds. -/
def groupsOnly (s t : State) : Prop :=
  t.safe = { s.safe with chans := t.safe.chans } ∧ ∀ c, t.chan c = { s.chan c with groups := (t.chan c).groups }

theorem groupsOnly_refl (s : State) : s.groupsOnly s := ⟨rfl, fun _ => rfl⟩

theorem groupsOnly_trans {s t u : State} (h : s.groupsOnly t) (h' : t.groupsOnly u) : s.groupsOnly u :=
  ⟨h'.1.trans (by rw [h.1]), fun c => (h'.2 c).trans (by rw [h.2 c])⟩

theorem groupsOnly_of_safe {s t : State} (h : t.safe = s.safe) : s.groupsOnly t :=
  ⟨by rw [h], fun c => by unfold chan; rw [h]⟩

theorem modGroup_groupsOnly (s : State) (c : Fin 2) (g : Fin 4) (h : GroupSt → GroupSt) : s.groupsOnly (s.modGroup c g h) := by
  refine ⟨rfl, fun d => ?_⟩
  by_cases hd : d = c
  · subst hd
    simp [chan, modGroup, modChan]
  · simp [chan, modGroup, modChan, Bank.get_modify_ne _ _ hd]

/-- What a step of taking groups to OFF may change. -/
structure offStep (s t : State) : Prop where
  keeps : s.keeps t s.offRegs
  groups : s.groupsOnly t
  frame : t = { s with time := { s.time with hits := t.time.hits }, hq := t.hq, wheel := t.wheel, tiles := t.tiles, pps := t.pps,
                       safe := t.safe, regs := t.regs }

theorem offStep_refl (s : State) : s.offStep s := ⟨keeps_refl s _, groupsOnly_refl s, rfl⟩

theorem offStep_trans {s t u : State} (h : s.offStep t) (h' : t.offStep u) : s.offStep u where
  keeps := keeps_trans h.keeps ((offRegs_keeps h.keeps).1 ▸ h'.keeps)
  groups := groupsOnly_trans h.groups h'.groups
  frame := h'.frame.trans (by rw [h.frame])

theorem swept.offStep {s t : State} (h : s.swept t) : s.offStep t :=
  ⟨keeps_mono h.keeps (sweepRegs_subset s), groupsOnly_of_safe h.safe, h.frame.trans (by rw [h.frame])⟩

theorem offStep.flt {s t : State} (h : s.offStep t) : t.flt = s.flt := by rw [h.frame]

theorem offStep.mono {s t : State} (h : s.offStep t) : t.time.mono = s.time.mono := by rw [h.frame]

theorem offStep.offFrame {s t : State} (h : s.offStep t) : s.offFrame t := by
  have hf := h.frame
  unfold State.offFrame
  rw [hf]

theorem SAFE_STO_STAT_mem_offRegs (s : State) (g : Fin 4) : SAFE_STO_STAT g ∈ s.offRegs := by
  rw [offRegs_eq]
  refine List.mem_append_left _ ?_
  fin_cases g <;> simp

theorem setF_offStep (s : State) {x : Fld} (v : Nat) {g : Fin 4} (hx : x.reg = SAFE_STO_STAT g) : s.offStep (s.setF x v) :=
  ⟨keeps_setF v (keeps_refl s _) (hx ▸ SAFE_STO_STAT_mem_offRegs s g), groupsOnly_of_safe rfl, rfl⟩

theorem hit_offStep (s : State) {x : Fld} {g : Fin 4} (hx : x.reg = SAFE_STO_STAT g) : s.offStep (s.hit x) :=
  ⟨keeps_hit (keeps_refl s _) (hx ▸ SAFE_STO_STAT_mem_offRegs s g), groupsOnly_of_safe rfl, rfl⟩

theorem modGroup_offStep (s : State) (c : Fin 2) (g : Fin 4) (h : GroupSt → GroupSt) : s.offStep (s.modGroup c g h) :=
  ⟨keeps_of_regs rfl _, modGroup_groupsOnly s c g h, rfl⟩

/-- A group that leaves torque in a channel: its state, the cause and what is shown. -/
def offShown (s : State) (c : Fin 2) (g : Fin 4) (cause : Nat) : State :=
  ((s.modGroup c g (fun x => { x with state := 0 })).setF (SAFE_STO_STAT_CAUSE g) cause).showGroup g

theorem offIn_of_off {s : State} {c : Fin 2} {g : Fin 4} (cause : Nat) (h : (s.group c g).state = 0) : s.offIn c g cause = s := if_pos h

theorem offIn_of_on {s : State} {c : Fin 2} {g : Fin 4} (cause : Nat) (h : (s.group c g).state ≠ 0) :
    (s.offShown c g cause).swept (s.offIn c g cause) := by
  unfold offIn
  rw [if_neg h]
  dsimp only
  split
  · exact swept_refl _
  · exact reachedOff_swept _ g

theorem offShown_offStep (s : State) (c : Fin 2) (g : Fin 4) (cause : Nat) : s.offStep (s.offShown c g cause) :=
  offStep_trans (offStep_trans (modGroup_offStep s c g _) (setF_offStep _ (x := SAFE_STO_STAT_CAUSE g) _ rfl))
    (setF_offStep _ (x := SAFE_STO_STAT_STATE g) _ rfl)

theorem offIn_offStep (s : State) (c : Fin 2) (g : Fin 4) (cause : Nat) : s.offStep (s.offIn c g cause) := by
  by_cases h : (s.group c g).state = 0
  · rw [offIn_of_off cause h]
    exact offStep_refl s
  · exact offStep_trans (offShown_offStep s c g cause) (offIn_of_on cause h).offStep

theorem swept.group {s t : State} (h : s.swept t) (c : Fin 2) (g : Fin 4) : t.group c g = s.group c g := by
  unfold State.group chan
  rw [h.safe]

theorem offShown_group (s : State) (c : Fin 2) (g : Fin 4) (cause : Nat) (d : Fin 2) (k : Fin 4) :
    (s.offShown c g cause).group d k = (s.modGroup c g (fun x => { x with state := 0 })).group d k := rfl

/-- After it the group is in OFF in that channel, and as before in the other. -/
theorem offIn_group (s : State) (c : Fin 2) (g : Fin 4) (cause : Nat) :
    ((s.offIn c g cause).group c g).state = 0 ∧ ∀ d, d ≠ c → (s.offIn c g cause).group d g = s.group d g := by
  by_cases h : (s.group c g).state = 0
  · rw [offIn_of_off cause h]
    exact ⟨h, fun _ _ => rfl⟩
  · have hs := offIn_of_on cause h
    refine ⟨?_, fun d hd => ?_⟩
    · rw [hs.group, offShown_group, group_modGroup_same]
    · rw [hs.group, offShown_group, group_modGroup_chan s g g _ hd]

theorem SAFE_STO_STAT_notMem_sweepRegs (s : State) (g : Fin 4) : SAFE_STO_STAT g ∉ s.sweepRegs := by
  refine notMem_sweepRegs ?_ ?_ <;> simp only [SAFE_STO_STAT, WHEEL_OCC] <;> omega

/-- A group that was not in OFF is shown there, with the cause. -/
theorem offIn_shown {s : State} {c : Fin 2} {g : Fin 4} {cause : Nat} (hc : cause < 16) (h : (s.group c g).state ≠ 0) :
    (s.offIn c g cause).f (SAFE_STO_STAT_STATE g) = 0 ∧ (s.offIn c g cause).f (SAFE_STO_STAT_CAUSE g) = cause := by
  have hs := (offIn_of_on cause h).keeps
  have h0 : ((s.modGroup c g (fun x => { x with state := 0 })).setF (SAFE_STO_STAT_CAUSE g) cause).shownGroup g = 0 := by
    have hg : (((s.modGroup c g (fun x => { x with state := 0 })).setF (SAFE_STO_STAT_CAUSE g) cause).group c g).state = 0 :=
      congrArg GroupSt.state (group_modGroup_same s c g (fun x => { x with state := 0 }))
    unfold shownGroup
    fin_cases c
    · have hz : (((s.modGroup 0 g (fun x => { x with state := 0 })).setF (SAFE_STO_STAT_CAUSE g) cause).group 0 g).state = 0 := hg
      simp [hz]
    · have hz : (((s.modGroup 1 g (fun x => { x with state := 0 })).setF (SAFE_STO_STAT_CAUSE g) cause).group 1 g).state = 0 := hg
      simp [hz]
  have hn := SAFE_STO_STAT_notMem_sweepRegs (s.offShown c g cause) g
  rw [f_keeps (x := SAFE_STO_STAT_STATE g) hs hn, f_keeps (x := SAFE_STO_STAT_CAUSE g) hs hn]
  unfold offShown showGroup
  rw [h0]
  refine ⟨f_setF_zero _ _ (Nat.le_of_ble_eq_true rfl), ?_⟩
  refine (f_setF_disj (x := SAFE_STO_STAT_STATE g) (y := SAFE_STO_STAT_CAUSE g) _ _ rfl (.inl (Nat.le_of_ble_eq_true rfl))).trans ?_
  exact (f_setF_same _ _ _ (Nat.le_of_ble_eq_true rfl)).trans (Nat.mod_eq_of_lt hc)

-- ===== the groups of a mask =====

/-- A group in both channels, and what is shown of it, are as before. -/
def groupKept (g : Fin 4) (s t : State) : Prop := (∀ c, t.group c g = s.group c g) ∧ t.rd (SAFE_STO_STAT g) = s.rd (SAFE_STO_STAT g)

theorem groupKept_refl (g : Fin 4) (s : State) : groupKept g s s := ⟨fun _ => rfl, rfl⟩

theorem groupKept_trans {g : Fin 4} {s t u : State} (h : groupKept g s t) (h' : groupKept g t u) : groupKept g s u :=
  ⟨fun c => (h'.1 c).trans (h.1 c), h'.2.trans h.2⟩

theorem offIn_groupKept (s : State) (c : Fin 2) {g k : Fin 4} (cause : Nat) (h : k ≠ g) : groupKept k s (s.offIn c g cause) := by
  by_cases hz : (s.group c g).state = 0
  · rw [offIn_of_off cause hz]
    exact groupKept_refl k s
  · have hs := offIn_of_on cause hz
    have hk : SAFE_STO_STAT k ≠ SAFE_STO_STAT g := fun hc => h (Fin.ext (by unfold SAFE_STO_STAT at hc; omega))
    refine ⟨fun d => ?_, ?_⟩
    · rw [hs.group, offShown_group, group_modGroup_ne s c d _ h]
    · rw [hs.keeps _ (SAFE_STO_STAT_notMem_sweepRegs _ k)]
      exact (rd_setF_ne _ (x := SAFE_STO_STAT_STATE g) _ hk).trans (rd_setF_ne _ (x := SAFE_STO_STAT_CAUSE g) _ hk)

theorem offGroup_offStep (s : State) (g : Fin 4) (cause : Nat) : s.offStep (s.offGroup g cause) :=
  offStep_trans (offIn_offStep s 0 g cause) (offIn_offStep _ 1 g cause)

theorem offGroup_groupKept (s : State) {g k : Fin 4} (cause : Nat) (h : k ≠ g) : groupKept k s (s.offGroup g cause) :=
  groupKept_trans (offIn_groupKept s 0 cause h) (offIn_groupKept _ 1 cause h)

theorem offGroup_state (s : State) (g : Fin 4) (cause : Nat) :
    ((s.offGroup g cause).group 0 g).state = 0 ∧ ((s.offGroup g cause).group 1 g).state = 0 := by
  obtain ⟨h1, h2⟩ := offIn_group (s.offIn 0 g cause) 1 g cause
  unfold offGroup
  rw [h2 0 (by decide)]
  exact ⟨(offIn_group s 0 g cause).1, h1⟩

theorem offGroup_shown {s : State} {g : Fin 4} {cause : Nat} (hc : cause < 16) (h : (s.group 0 g).state ≠ 0 ∨ (s.group 1 g).state ≠ 0) :
    (s.offGroup g cause).f (SAFE_STO_STAT_STATE g) = 0 ∧ (s.offGroup g cause).f (SAFE_STO_STAT_CAUSE g) = cause := by
  have h1 : (s.offIn 0 g cause).group 1 g = s.group 1 g := (offIn_group s 0 g cause).2 1 (by decide)
  unfold offGroup
  by_cases hz : (s.group 1 g).state = 0
  · rw [offIn_of_off cause (by rw [h1]; exact hz)]
    exact offIn_shown hc (h.resolve_right (fun hn => hn hz))
  · exact offIn_shown hc (by rw [h1]; exact hz)

theorem offGroups_offStep (s : State) (m : GroupMask) (cause : Nat) : s.offStep (s.offGroups m cause) := by
  refine foldl_rel offStep_refl offStep_trans _ s fun g _ s => ?_
  split
  · exact offGroup_offStep s g cause
  · exact offStep_refl s

/-- The groups of a mask are in OFF after it, shown with the cause where they were not before; the others are as before (R333). -/
theorem offGroups_wentOff (s : State) (m : GroupMask) {cause : Nat} (hc : cause < 16) : s.wentOff (s.offGroups m cause) m cause := by
  intro g
  have hk : ∀ l : List (Fin 4), g ∉ l → ∀ s : State, groupKept g s
      (l.foldl (fun (s : State) (g : Fin 4) => if m.testBit g then s.offGroup g cause else s) s) := by
    intro l hl s
    refine foldl_rel (groupKept_refl g) groupKept_trans l s fun k hkl s => ?_
    split
    · exact offGroup_groupKept s cause fun hgk => hl (hgk ▸ hkl)
    · exact groupKept_refl g s
  obtain ⟨l₁, l₂, h₁, h₂, he⟩ := foldl_split (fun (s : State) (g : Fin 4) => if m.testBit g then s.offGroup g cause else s)
    (List.nodup_finRange 4) (List.mem_finRange g) s
  have hv := hk l₁ h₁ s
  generalize l₁.foldl (fun (s : State) (g : Fin 4) => if m.testBit g then s.offGroup g cause else s) s = v at he hv
  have ht : groupKept g (if m.testBit g then v.offGroup g cause else v) (s.offGroups m cause) := by
    unfold offGroups
    rw [he]
    exact hk l₂ h₂ _
  refine ⟨fun hm => ?_, fun hm => ?_⟩
  · rw [if_pos hm] at ht
    obtain ⟨h0, h1⟩ := offGroup_state v g cause
    refine ⟨by rw [ht.1, h0], by rw [ht.1, h1], fun hs => ?_⟩
    rw [← hv.1 0, ← hv.1 1] at hs
    obtain ⟨h2, h3⟩ := offGroup_shown hc hs
    exact ⟨(f_of_rd (x := SAFE_STO_STAT_STATE g) ht.2).trans h2, (f_of_rd (x := SAFE_STO_STAT_CAUSE g) ht.2).trans h3⟩
  · rw [if_neg (by rw [hm]; decide)] at ht
    exact ⟨(ht.1 0).trans (hv.1 0), (ht.1 1).trans (hv.1 1)⟩

end State

end Sys2Proof.Machine

/-! SUPPORT. O32: the parts of separation monitoring (R307 to R323). -/

namespace Sys2Proof.Machine

namespace State

-- ===== frames =====

theorem offFrame_trans {s t u : State} (h : s.offFrame t) (h' : t.offFrame u) : s.offFrame u := by
  unfold offFrame at *
  exact h'.trans (by rw [h])

theorem modSafe_offFrame (s : State) (g : SafeState → SafeState) : s.offFrame (s.modSafe g) := rfl

theorem setF_offFrame (s : State) (x : Fld) (v : Nat) : s.offFrame (s.setF x v) := rfl

theorem raise_offFrame (s : State) (m : FaultMsg) : s.offFrame (s.raise m) := rfl

/-- Groups that went to OFF between two states that agree with s and t on the groups and what is shown of them. -/
theorem wentOff_congr {s v w t : State} {m cause : Nat} (h : v.wentOff w m cause) (hs : ∀ c, (v.chan c).groups = (s.chan c).groups)
    (ht : t.safe = w.safe) (hr : ∀ g : Fin 4, t.rd (SAFE_STO_STAT g) = w.rd (SAFE_STO_STAT g)) : s.wentOff t m cause := by
  have hv : ∀ c g, v.group c g = s.group c g := by
    intro c g
    unfold group
    rw [hs c]
  have htw : ∀ c g, t.group c g = w.group c g := by
    intro c g
    unfold group chan
    rw [ht]
  intro g
  have hg := h g
  rw [hv, hv] at hg
  rw [htw, htw, f_of_rd (x := SAFE_STO_STAT_STATE g) (hr g), f_of_rd (x := SAFE_STO_STAT_CAUSE g) (hr g)]
  exact hg

-- ===== a stale mirror set (R31, R323) =====

/-- The mirror set is shown stale. -/
def mirrorMarked (s : State) : State := (s.modSafe (fun x => { x with mirrorStale := true })).setF SAFE_SSM_STAT_MIRROR_STALE 1

/-- The message of one channel. -/
def mirrorMsg (s : State) (c : Nat) : FaultMsg := mkFault (0x150 + c) 0x45 cCRITICAL 2 [.val s.safe.mirrorSeq] s.armGroups true

/-- A stale mirror set takes torque from every group with an arm, and both channels raise it. -/
def mirrorLost (s : State) : State := ((s.mirrorMarked.offGroups s.armGroups 2).raise (s.mirrorMsg 0)).raise (s.mirrorMsg 1)

theorem safeUs_250 : safeUs 250 = 200000 := rfl

theorem execMirrorStale_due {s u : State} {m : Nat} (hu : u = s.runTo m) (hr : u.ssmRuns = true) (hn : u.safe.mirrorStale = false)
    (ht : u.safe.mirrorAt + 200000 ≤ u.time.mono) : exec (.mirrorStale m) s = .next u.mirrorLost := by
  have hc : u.ssmRuns ∧ !u.safe.mirrorStale ∧ u.safe.mirrorAt + safeUs 250 ≤ u.time.mono := ⟨hr, by rw [hn]; decide, ht⟩
  rw [hu] at hc ⊢
  exact congrArg Host.Outcome.next (if_pos hc)

theorem execMirrorStale_not_due {s u : State} {m : Nat} (hu : u = s.runTo m)
    (h : u.ssmRuns = false ∨ u.safe.mirrorStale = true ∨ u.time.mono < u.safe.mirrorAt + 200000) : exec (.mirrorStale m) s = .next u := by
  have hc : ¬ (u.ssmRuns ∧ !u.safe.mirrorStale ∧ u.safe.mirrorAt + safeUs 250 ≤ u.time.mono) := by
    rintro ⟨h1, h2, h3⟩
    rw [safeUs_250] at h3
    rcases h with h | h | h
    · rw [h] at h1; cases h1
    · rw [h] at h2; cases h2
    · omega
  rw [hu] at hc ⊢
  exact congrArg Host.Outcome.next (if_neg hc)

theorem mirrorMarked_keeps (s : State) : s.keeps s.mirrorMarked [SAFE_SSM_STAT] :=
  keeps_setF (x := SAFE_SSM_STAT_MIRROR_STALE) (t := s.modSafe _) 1 (keeps_of_regs rfl _) (.head _)

theorem PP_CFG_ge (p : Nat) : 0x100000 ≤ PP_CFG p := by unfold PP_CFG ppBase; omega

theorem offRegs_of_keeps_low {s t : State} {l : List Nat} (h : s.keeps t l) (hl : ∀ x ∈ l, x < 0x100000) : t.offRegs = s.offRegs :=
  (offRegs_of_keeps h fun p hp => absurd (hl _ hp) (by have := PP_CFG_ge p; omega)).1

/-- Registers kept by low writes and then by groups that go to OFF. -/
theorem keeps_offGroups {s v : State} {l : List Nat} (h : s.keeps v l) (hl : ∀ x ∈ l, x < 0x100000) (m : GroupMask) (cause : Nat) :
    s.keeps (v.offGroups m cause) (l ++ s.offRegs) := by
  refine keeps_trans (keeps_mono h fun x hx => List.mem_append_left _ hx) (keeps_mono (offGroups_offStep v m cause).keeps fun x hx => ?_)
  rw [offRegs_of_keeps_low h hl] at hx
  exact List.mem_append_right _ hx

theorem SAFE_SSM_STAT_notMem_offRegs (s : State) : SAFE_SSM_STAT ∉ s.offRegs := notMem_offRegs (by decide) (by decide) (by decide)

theorem mirrorLost_spec (s : State) : s.mirrorLost.safe.mirrorStale = true ∧ s.mirrorLost.f SAFE_SSM_STAT_MIRROR_STALE = 1 ∧
    s.wentOff s.mirrorLost s.armGroups 2 ∧
    (∃ x y, s.mirrorLost.flt.path = s.flt.path ++ [x, y] ∧ x.source = 0x150 ∧ y.source = 0x151 ∧ x.kind = 0x45 ∧ y.kind = 0x45 ∧
      x.cls = cCRITICAL ∧ y.cls = cCRITICAL) ∧
    s.keeps s.mirrorLost (SAFE_SSM_STAT :: s.offRegs) ∧ s.offFrame s.mirrorLost := by
  have ho := offGroups_offStep s.mirrorMarked s.armGroups 2
  have hw := offGroups_wentOff s.mirrorMarked s.armGroups (cause := 2) (by decide)
  have hk := keeps_offGroups s.mirrorMarked_keeps (by simp [SAFE_SSM_STAT]) s.armGroups 2
  refine ⟨?_, ?_, ?_, ⟨{ s.mirrorMsg 0 with at_ := s.time.mono }, { s.mirrorMsg 1 with at_ := s.time.mono }, ?_, rfl, rfl, rfl, rfl, rfl, rfl⟩, ?_, ?_⟩
  · have hs := ho.groups.1
    unfold mirrorLost
    rw [raise_safe, raise_safe, hs]
    rfl
  · unfold mirrorLost
    rw [raise_f, raise_f, f_keeps (x := SAFE_SSM_STAT_MIRROR_STALE) ho.keeps (SAFE_SSM_STAT_notMem_offRegs _)]
    exact f_setF_one _ _ (by decide) rfl
  · exact wentOff_congr hw (fun _ => rfl) rfl fun _ => rfl
  · unfold mirrorLost
    rw [raise_flt, raise_flt, ho.flt]
    simp only [raise_time, ho.mono, List.append_assoc]
    rfl
  · exact keeps_raise _ (keeps_raise _ hk)
  · exact offFrame_trans (offFrame_trans (offFrame_trans (offFrame_trans (modSafe_offFrame s _) (setF_offFrame _ _ _)) ho.offFrame)
      (raise_offFrame _ _)) (raise_offFrame _ _)

-- ===== the channels disagree (R320) =====

/-- The channels' disagreement, or a late channel, is noted. -/
def xcmpMarked (s : State) : State := (s.modSafe (fun y => { y with xtold := true })).setF SAFE_SSM_STAT_XCMP 1

def xcmpMsg (s : State) : FaultMsg := mkFault (0x100 + s.crossCheck.2.1) 0x43 cCRITICAL 2 [.inst s.crossCheck.2.1, .val s.crossCheck.1] s.armGroups

def xcmpTold (s : State) : State := (s.xcmpMarked.offGroups s.armGroups 11).raise s.xcmpMsg

theorem execSsmXcmp_due {s : State} {us : Nat} (h : (s.monSet.1.nxcmp ≤ s.safe.xrun ∧ s.safe.xtold = false) ∨ 50 < us) :
    exec (.ssmXcmp us) s = .next s.xcmpTold :=
  congrArg Host.Outcome.next (if_pos (by simpa using h))

theorem execSsmXcmp_not_due {s : State} {us : Nat} (h : s.safe.xrun < s.monSet.1.nxcmp ∨ s.safe.xtold = true) (hu : us ≤ 50) :
    exec (.ssmXcmp us) s = .next s := by
  refine congrArg Host.Outcome.next (if_neg ?_)
  rintro (⟨h1, h2⟩ | h1)
  · rcases h with h | h
    · omega
    · rw [h] at h2; cases h2
  · omega

theorem xcmpMarked_keeps (s : State) : s.keeps s.xcmpMarked [SAFE_SSM_STAT] :=
  keeps_setF (x := SAFE_SSM_STAT_XCMP) (t := s.modSafe _) 1 (keeps_of_regs rfl _) (.head _)

theorem xcmpTold_spec (s : State) : s.xcmpTold.f SAFE_SSM_STAT_XCMP = 1 ∧ s.xcmpTold.safe.xtold = true ∧ s.wentOff s.xcmpTold s.armGroups 11 ∧
    s.raisedOne s.xcmpTold (0x100 + s.crossCheck.2.1) 0x43 cCRITICAL ∧ s.keeps s.xcmpTold (SAFE_SSM_STAT :: s.offRegs) ∧ s.offFrame s.xcmpTold := by
  have ho := offGroups_offStep s.xcmpMarked s.armGroups 11
  have hw := offGroups_wentOff s.xcmpMarked s.armGroups (cause := 11) (by decide)
  have hk := keeps_offGroups s.xcmpMarked_keeps (by simp [SAFE_SSM_STAT]) s.armGroups 11
  refine ⟨?_, ?_, ?_, ?_, ?_, ?_⟩
  · unfold xcmpTold
    rw [raise_f, f_keeps (x := SAFE_SSM_STAT_XCMP) ho.keeps (SAFE_SSM_STAT_notMem_offRegs _)]
    exact f_setF_one _ _ (by decide) rfl
  · have hs := ho.groups.1
    unfold xcmpTold
    rw [raise_safe, hs]
    rfl
  · exact wentOff_congr hw (fun _ => rfl) rfl fun _ => rfl
  · exact raisedOne_raise s _ s.xcmpMsg (by rw [ho.flt]; rfl) (by rw [ho.mono]; rfl)
  · exact keeps_raise _ hk
  · exact offFrame_trans (offFrame_trans (offFrame_trans (modSafe_offFrame s _) (setF_offFrame _ _ _)) ho.offFrame) (raise_offFrame _ _)

-- ===== violation messages (R315, R326) =====

/-- What the violation messages of a cycle change: the count and the fault path, which grows. -/
structure violTold (s t : State) : Prop where
  keeps : s.keeps t [SAFE_SSM_CNT_VIOL]
  path : ∃ fs, t.flt.path = s.flt.path ++ fs
  frame : t = { s with flt := t.flt, regs := t.regs }

theorem violTold_refl (s : State) : s.violTold s := ⟨keeps_refl s _, ⟨[], (List.append_nil _).symm⟩, rfl⟩

theorem violTold_trans {s t u : State} (h : s.violTold t) (h' : t.violTold u) : s.violTold u := by
  obtain ⟨fs, hp⟩ := h.path
  obtain ⟨gs, hq⟩ := h'.path
  exact ⟨keeps_trans h.keeps h'.keeps, ⟨fs ++ gs, by rw [hq, hp, List.append_assoc]⟩, h'.frame.trans (by rw [h.frame])⟩

theorem bump_raise_violTold (s : State) (m : FaultMsg) : s.violTold ((s.bump SAFE_SSM_CNT_VIOL).raise m) :=
  ⟨keeps_raise _ (keeps_bump (keeps_refl s _) (.head _)), ⟨_, rfl⟩, rfl⟩

theorem raise_violTold (s : State) (m : FaultMsg) : s.violTold (s.raise m) := ⟨keeps_raise _ (keeps_refl s _), ⟨_, rfl⟩, rfl⟩

theorem violMsgs_violTold (s : State) (old : Nat) : s.violTold (s.violMsgs old) := by
  refine foldl_rel violTold_refl violTold_trans _ s fun a _ s => ?_
  split
  · exact bump_raise_violTold s _
  · exact violTold_refl s

theorem plausMsgs_violTold (s : State) (m : Mirror) : s.violTold (s.plausMsgs m) := by
  refine foldl_rel violTold_refl violTold_trans _ s fun k _ v => ?_
  split
  · dsimp only
    split
    · exact raise_violTold v _
    · exact violTold_refl v
  · exact violTold_refl v

theorem violTold.offFrame {s t : State} (h : s.violTold t) : s.offFrame t := by
  have hf := h.frame
  unfold State.offFrame
  rw [hf]

theorem violTold.safe {s t : State} (h : s.violTold t) : t.safe = s.safe := by rw [h.frame]

-- ===== the latches (R315, R316) =====

theorem viol_or_lt (s : State) : (s.showViol).f SAFE_SSM_VIOL_VIOL = ((s.chan 0).viol ||| (s.chan 1).viol) % 4096 := f_setF_same _ _ _ (by decide)

theorem showViol_keeps (s : State) : s.keeps s.showViol [SAFE_SSM_VIOL] := keeps_setF (x := SAFE_SSM_VIOL_VIOL) _ (keeps_refl s _) (.head _)

theorem chan_modChan_same (s : State) (c : Fin 2) (h : HChan → HChan) : (s.modChan c h).chan c = h (s.chan c) := Bank.get_modify_same _ _ _

theorem chan_modChan_ne (s : State) {c d : Fin 2} (h : HChan → HChan) (hd : d ≠ c) : (s.modChan c h).chan d = s.chan d := Bank.get_modify_ne _ _ hd

/-- One change of both channels. -/
theorem chan_modChan_both (s : State) (h : HChan → HChan) (c : Fin 2) : ((s.modChan 0 h).modChan 1 h).chan c = h (s.chan c) := by
  fin_cases c
  · exact (chan_modChan_ne _ h (by decide)).trans (chan_modChan_same s 0 h)
  · exact (chan_modChan_same _ 1 h).trans (congrArg h (chan_modChan_ne s h (by decide)))

/-- A channel's latch of an arm after N_RST clear cycles. -/
def latchCleared (nrst : Nat) (a : Fin 12) (h : HChan) : HChan :=
  if h.viol.testBit a ∧ nrst ≤ h.clear.getD a 0 then { h with viol := h.viol - 2 ^ a.val, clear := h.clear.set a 0 } else h

theorem latchCleared_viol (nrst : Nat) (a : Fin 12) (h : HChan) :
    (latchCleared nrst a h).viol = if h.viol.testBit a = true ∧ nrst ≤ h.clear.getD a 0 then h.viol - 2 ^ a.val else h.viol := by
  unfold latchCleared
  split <;> rfl

theorem execViolationLatchClear_eq (s : State) (a : Fin 12) : exec (.violationLatchClear a) s =
    .next (((s.modChan 0 (latchCleared s.monSet.1.nrst a)).modChan 1 (latchCleared s.monSet.1.nrst a)).showViol) := rfl

-- ===== a lost source (R307, R325) =====

theorem srcGone_none (x : ScanSrc) (now : Nat) : srcGone x none now = true := rfl

theorem srcGone_some (x : ScanSrc) (p : ScanPay) (now : Nat) : srcGone x (some p) now = true ↔ p.ok = false ∨ p.at_ + x.wd * 800000 ≤ now := by
  simp [srcGone]

/-- The groups that hold an arm which a source covers. -/
def coverScope (s : State) (cover : Nat) : GroupMask :=
  ((List.finRange 4).map (fun (g : Fin 4) => if (s.safGroup g).arms &&& cover = 0 then 0 else 2 ^ g.val)).foldl (· + ·) 0

theorem testBit_coverScope (s : State) (cover : Nat) (g : Fin 4) :
    (s.coverScope cover).testBit g = decide ((s.safGroup g).arms &&& cover ≠ 0) := by
  have hm : s.coverScope cover =
      ((List.range 4).map (fun i => if decide ((s.safGroup i).arms &&& cover ≠ 0) then 2 ^ i else 0)).foldl (· + ·) 0 := by
    unfold coverScope
    rw [← List.map_coe_finRange_eq_range, List.map_map]
    refine congrArg (List.foldl (· + ·) 0) (List.map_congr_left fun i _ => ?_)
    by_cases h : (s.safGroup i).arms &&& cover = 0 <;> simp [h]
  rw [hm, (testBit_sum_bits _ 4 g).1, decide_eq_true g.isLt, Bool.true_and]

/-- A source that is not lost yet is lost. -/
def sourceGone (s : State) (n : Fin 8) : State :=
  (s.modSafe (fun x => { x with sources := x.sources.modify n (fun y => { y with lost := true }) })).setB ⟨SAFE_SSM_SCAN, 8 + n.val, 1⟩ true

def scanMsg (s : State) (n cover : Nat) : FaultMsg := mkFault (0x140 + n) 0x42 cMAJOR 2 [.inst n] (s.coverScope cover) true

theorem scanLost_new {s : State} {n : Fin 8} {x : ScanSrc} (hx : x.num = n.val) (h : (s.safe.sources.get n).lost = false) :
    s.scanLost x = (s.sourceGone n).raise (s.scanMsg n x.cover) := by
  obtain ⟨num, _, _, _⟩ := x
  subst hx
  unfold scanLost
  rw [dif_pos n.isLt, if_neg (by rw [h]; decide)]
  rfl

/-- A lost source latches a violation of its arms in both channels. -/
def coverLatch (cover : Nat) (h : HChan) : HChan := { h with viol := h.viol ||| (cover % 4096) }

def coverLatched (s : State) (n : Fin 8) (cover : Nat) : State :=
  ((((s.sourceGone n).raise (s.scanMsg n cover)).modChan 0 (coverLatch cover)).modChan 1 (coverLatch cover)).showViol

def sourceLost (s : State) (n : Fin 8) (cover : Nat) : State :=
  ((s.coverLatched n cover).offGroups (s.coverScope cover) 2).violMsgs (s.f SAFE_SSM_VIOL_VIOL)

theorem num_of_find {l : List ScanSrc} {n : Nat} {x : ScanSrc} (h : l.find? (fun (y : ScanSrc) => y.num == n) = some x) : x.num = n := by
  simpa using List.find?_some h

theorem coverLatched_keeps (s : State) (n : Fin 8) (cover : Nat) : s.keeps (s.coverLatched n cover) [SAFE_SSM_SCAN, SAFE_SSM_VIOL] := by
  have h : s.keeps (s.sourceGone n) [SAFE_SSM_SCAN, SAFE_SSM_VIOL] :=
    keeps_setB (x := ⟨SAFE_SSM_SCAN, 8 + n.val, 1⟩) (t := s.modSafe _) true (keeps_of_regs rfl _) (.head _)
  exact keeps_setF (x := SAFE_SSM_VIOL_VIOL) _ (keeps_congr h rfl) (.tail _ (.head _))

theorem coverLatched_chan (s : State) (n : Fin 8) (cover : Nat) (c : Fin 2) : (s.coverLatched n cover).chan c = coverLatch cover (s.chan c) :=
  chan_modChan_both _ _ c

/-- A field reads a bit that was set in it. -/
theorem testBit_f_setB_true (s : State) {r k i : Nat} (x : Fld) (hx : x.reg = r) (hk : x.lo + i = k) (hi : i < x.width) (h32 : k < 32) :
    ((s.setB ⟨r, k, 1⟩ true).f x).testBit i = true := by
  subst hx hk
  unfold f
  rw [Fld.testBit_get]
  refine Bool.and_eq_true_iff.mpr ⟨decide_eq_true hi, ?_⟩
  unfold setB setF
  rw [rd_wr_same, Fld.getLsbD_put]
  simp [h32, b2n]

theorem coverLatched_scan (s : State) (n : Fin 8) (cover : Nat) : ((s.coverLatched n cover).f SAFE_SSM_SCAN_LOST).testBit n = true := by
  have h : (s.coverLatched n cover).f SAFE_SSM_SCAN_LOST = (s.sourceGone n).f SAFE_SSM_SCAN_LOST :=
    f_setF_ne _ (x := SAFE_SSM_VIOL_VIOL) (y := SAFE_SSM_SCAN_LOST) _ (by decide)
  rw [h]
  exact testBit_f_setB_true _ SAFE_SSM_SCAN_LOST rfl rfl n.isLt (by omega)

theorem coverLatched_flt (s : State) (n : Fin 8) (cover : Nat) :
    (s.coverLatched n cover).flt.path = s.flt.path ++ [{ s.scanMsg n cover with at_ := s.time.mono }] := rfl

theorem coverLatched_offFrame (s : State) (n : Fin 8) (cover : Nat) : s.offFrame (s.coverLatched n cover) := rfl

theorem coverLatched_lost (s : State) (n : Fin 8) (cover : Nat) : ((s.coverLatched n cover).safe.sources.get n).lost = true := by
  have h : (s.coverLatched n cover).safe.sources.get n = { s.safe.sources.get n with lost := true } := Bank.get_modify_same _ _ _
  rw [h]

theorem execSsmScanLost_due {s u : State} {n : Fin 8} {m : Nat} {x : ScanSrc} (hu : u = s.runTo m)
    (hx : u.monSet.1.sources.find? (fun (y : ScanSrc) => y.num == n.val) = some x) (hr : u.ssmRuns = true)
    (hl : (u.safe.sources.get n).lost = false) (hg : srcGone x (u.safe.sources.get n).new u.time.mono = true) :
    exec (.ssmScanLost n m) s = .next (u.sourceLost n x.cover) := by
  have hc : u.ssmRuns ∧ !(u.safe.sources.get n).lost ∧ srcGone x (u.safe.sources.get n).new u.time.mono := ⟨hr, by rw [hl]; decide, hg⟩
  have hs := scanLost_new (num_of_find hx) hl
  have he : exec (.ssmScanLost n m) s = .next (match u.monSet.1.sources.find? (fun (y : ScanSrc) => y.num == n.val) with
    | none => u
    | some src => if u.ssmRuns ∧ !(u.safe.sources.get n).lost ∧ srcGone src (u.safe.sources.get n).new u.time.mono then
        ((((((u.scanLost src).modChan 0 (coverLatch src.cover)).modChan 1 (coverLatch src.cover)).showViol).offGroups
          (u.coverScope src.cover) 2).violMsgs (u.f SAFE_SSM_VIOL_VIOL))
        else u) := by
    rw [hu]
    rfl
  rw [he, hx]
  dsimp only
  rw [if_pos hc, hs]
  rfl

theorem execSsmScanLost_not_due {s u : State} {n : Fin 8} {m : Nat} (hu : u = s.runTo m) (h : u.ssmRuns = false ∨ (u.safe.sources.get n).lost = true ∨
      (∀ x, u.monSet.1.sources.find? (fun (y : ScanSrc) => y.num == n.val) = some x → srcGone x (u.safe.sources.get n).new u.time.mono = false)) :
    exec (.ssmScanLost n m) s = .next u := by
  have hc : ∀ x, u.monSet.1.sources.find? (fun (y : ScanSrc) => y.num == n.val) = some x →
      ¬ (u.ssmRuns ∧ !(u.safe.sources.get n).lost ∧ srcGone x (u.safe.sources.get n).new u.time.mono) := by
    rintro x hx ⟨h1, h2, h3⟩
    rcases h with h | h | h
    · rw [h] at h1; cases h1
    · rw [h] at h2; cases h2
    · rw [h x hx] at h3; cases h3
  rw [hu] at hc ⊢
  refine congrArg Host.Outcome.next ?_
  split
  · rfl
  · next x hx => exact if_neg (hc x hx)

theorem sourceLost_spec (s : State) (n : Fin 8) (cover : Nat) :
    ((s.sourceLost n cover).safe.sources.get n).lost = true ∧ ((s.sourceLost n cover).f SAFE_SSM_SCAN_LOST).testBit n = true ∧
      (∀ c : Fin 2, ((s.sourceLost n cover).chan c).viol = (s.chan c).viol ||| (cover % 4096)) ∧
      s.wentOff (s.sourceLost n cover) (s.coverScope cover) 2 ∧
      (∃ f fs, (s.sourceLost n cover).flt.path = s.flt.path ++ f :: fs ∧ f.source = 0x140 + n.val ∧ f.kind = 0x42 ∧ f.cls = cMAJOR) ∧
      s.keeps (s.sourceLost n cover) ([SAFE_SSM_SCAN, SAFE_SSM_VIOL, SAFE_SSM_CNT_VIOL] ++ s.offRegs) ∧ s.offFrame (s.sourceLost n cover) := by
  have ho := offGroups_offStep (s.coverLatched n cover) (s.coverScope cover) 2
  have hw := offGroups_wentOff (s.coverLatched n cover) (s.coverScope cover) (cause := 2) (by decide)
  have hv := violMsgs_violTold ((s.coverLatched n cover).offGroups (s.coverScope cover) 2) (s.f SAFE_SSM_VIOL_VIOL)
  have hk := keeps_offGroups (coverLatched_keeps s n cover) (by simp [SAFE_SSM_SCAN, SAFE_SSM_VIOL]) (s.coverScope cover) 2
  have hsafe : (s.sourceLost n cover).safe = ((s.coverLatched n cover).offGroups (s.coverScope cover) 2).safe := hv.safe
  refine ⟨?_, ?_, fun c => ?_, ?_, ?_, ?_, ?_⟩
  · rw [hsafe, ho.groups.1]
    exact coverLatched_lost s n cover
  · have h1 := f_keeps (x := SAFE_SSM_SCAN_LOST) hv.keeps (by decide)
    have h2 := f_keeps (x := SAFE_SSM_SCAN_LOST) ho.keeps (notMem_offRegs (by decide) (by decide) (by decide))
    unfold sourceLost
    rw [h1, h2]
    exact coverLatched_scan s n cover
  · have h1 := congrArg HChan.viol (ho.groups.2 c)
    have h2 := congrArg HChan.viol (coverLatched_chan s n cover c)
    unfold chan
    rw [hsafe]
    exact h1.trans h2
  · exact wentOff_congr hw (fun c => (congrArg HChan.groups (coverLatched_chan s n cover c)).trans rfl) hsafe fun g =>
      hv.keeps _ (by simp only [List.mem_cons, List.not_mem_nil, or_false, SAFE_STO_STAT, SAFE_SSM_CNT_VIOL]; omega)
  · obtain ⟨fs, hp⟩ := hv.path
    refine ⟨{ s.scanMsg n cover with at_ := s.time.mono }, fs, ?_, rfl, rfl, rfl⟩
    unfold sourceLost
    rw [hp, ho.flt, coverLatched_flt, List.append_assoc]
    rfl
  · refine keeps_trans (keeps_mono hk ?_) (keeps_mono hv.keeps ?_)
    · intro x hx
      rcases List.mem_append.mp hx with h | h
      · refine List.mem_append_left _ ?_
        revert h
        simp only [List.mem_cons, List.not_mem_nil, or_false]
        tauto
      · exact List.mem_append_right _ h
    · simp
  · exact offFrame_trans (offFrame_trans (coverLatched_offFrame s n cover) ho.offFrame) hv.offFrame

end State

end Sys2Proof.Machine

/-! SUPPORT. O32: a cycle of the monitoring, the exchange of the channels and a stale cap set (R309, R315, R318, R319). -/

namespace Sys2Proof.Machine

/-- A sum over the elements that pass a test is one with 0 for those that do not. -/
theorem foldl_add_filter (p : Nat → Bool) (f : Nat → Nat) (l : List Nat) (z : Nat) :
    ((l.filter p).map f).foldl (· + ·) z = (l.map (fun i => if p i then f i else 0)).foldl (· + ·) z := by
  induction l generalizing z with
  | nil => rfl
  | cons a l ih =>
    cases h : p a <;> simp [h, ih]

namespace State

-- ===== groups stay in OFF =====

/-- A group that is in OFF in a channel stays there. -/
def staysOff (s t : State) : Prop := ∀ c g, (s.group c g).state = 0 → (t.group c g).state = 0

theorem staysOff_refl (s : State) : s.staysOff s := fun _ _ h => h

theorem staysOff_trans {s t u : State} (h : s.staysOff t) (h' : t.staysOff u) : s.staysOff u := fun c g hz => h' c g (h c g hz)

theorem modGroup_off_staysOff (s : State) (c : Fin 2) (g : Fin 4) : s.staysOff (s.modGroup c g (fun x => { x with state := 0 })) := by
  intro d k hz
  by_cases hk : k = g
  · subst hk
    by_cases hd : d = c
    · subst hd
      rw [group_modGroup_same]
    · rw [group_modGroup_chan s k k _ hd, hz]
  · rw [group_modGroup_ne s c d _ hk, hz]

theorem offIn_staysOff (s : State) (c : Fin 2) (g : Fin 4) (cause : Nat) : s.staysOff (s.offIn c g cause) := by
  by_cases h : (s.group c g).state = 0
  · rw [offIn_of_off cause h]
    exact staysOff_refl s
  · intro d k hz
    rw [(offIn_of_on cause h).group, offShown_group]
    exact modGroup_off_staysOff s c g d k hz

/-- A restart of the same cycle turns back: the group goes to OFF in both channels. -/
theorem turnBack_spec (s : State) (g : Fin 4) (bit : Nat) : s.offStep (s.turnBack g bit) ∧ s.staysOff (s.turnBack g bit) := by
  unfold turnBack
  dsimp only
  split
  · have h0 := modGroup_offStep s 0 g (fun x => { x with state := 0 })
    have h1 := modGroup_offStep (s.modGroup 0 g (fun x => { x with state := 0 })) 1 g (fun x => { x with state := 0 })
    refine ⟨?_, ?_⟩
    · refine offStep_trans ?_ (hit_offStep _ (x := SAFE_STO_STAT_REQ_REFUSED g) rfl)
      refine offStep_trans ?_ (setF_offStep _ (x := SAFE_STO_STAT_COND g) _ rfl)
      exact offStep_trans (offStep_trans h0 h1) (setF_offStep _ (x := SAFE_STO_STAT_STATE g) _ rfl)
    · exact fun c k hz => modGroup_off_staysOff _ 1 g c k (modGroup_off_staysOff s 0 g c k hz)
  · exact ⟨offStep_refl s, staysOff_refl s⟩

-- ===== one channel's cycle (R309, R315) =====

/-- Torque leaves the group of an arm newly in violation. -/
def armOff (s : State) (c : Fin 2) (a : Nat) : State := match s.groupOfArm a with | some g => (s.turnBack g 0).offIn c g 2 | none => s

theorem armOff_spec (s : State) (c : Fin 2) (a : Nat) : s.offStep (s.armOff c a) ∧ s.staysOff (s.armOff c a) := by
  unfold armOff
  split
  · next g _ =>
    obtain ⟨h1, h2⟩ := turnBack_spec s g 0
    exact ⟨offStep_trans h1 (offIn_offStep _ c g 2), staysOff_trans h2 (offIn_staysOff _ c g 2)⟩
  · exact ⟨offStep_refl s, staysOff_refl s⟩

theorem armOff_state {s : State} {c : Fin 2} {a : Nat} {g : Fin 4} (h : s.groupOfArm a = some g) : ((s.armOff c a).group c g).state = 0 := by
  unfold armOff
  rw [h]
  exact (offIn_group _ c g 2).1

theorem groupOfArm_congr {s t : State} (h : t.safe.safety = s.safe.safety) (a : Nat) : t.groupOfArm a = s.groupOfArm a := by
  unfold groupOfArm safGroup
  rw [h]

theorem groupsOnly.safety {s t : State} (h : s.groupsOnly t) : t.safe.safety = s.safe.safety := by rw [h.1]

/-- The groups of some arms leave torque. -/
theorem armsOff_spec (s : State) (c : Fin 2) (l : List Nat) :
    s.offStep (l.foldl (fun s a => s.armOff c a) s) ∧ s.staysOff (l.foldl (fun s a => s.armOff c a) s) ∧
      ∀ a ∈ l, ∀ g, s.groupOfArm a = some g → ((l.foldl (fun s a => s.armOff c a) s).group c g).state = 0 := by
  induction l generalizing s with
  | nil => exact ⟨offStep_refl s, staysOff_refl s, by simp⟩
  | cons b l ih =>
    obtain ⟨h1, h2⟩ := armOff_spec s c b
    obtain ⟨h3, h4, h5⟩ := ih (s.armOff c b)
    refine ⟨offStep_trans h1 h3, staysOff_trans h2 h4, fun a ha g hg => ?_⟩
    rcases List.mem_cons.mp ha with rfl | ha
    · exact h4 c g (armOff_state hg)
    · exact h5 a ha g (by rw [groupOfArm_congr h1.groups.safety]; exact hg)

/-- The latch bits of arms newly in violation. -/
def freshBits (old : Nat) (res : List ArmRes) : Nat := ((newViols old res).map (fun a => 2 ^ a)).foldl (· + ·) 0

theorem testBit_freshBits (old : Nat) (res : List ArmRes) (a : Fin 12) :
    (freshBits old res).testBit a = ((res.getD a {}).viol && !old.testBit a) := by
  unfold freshBits newViols
  rw [foldl_add_filter, (testBit_sum_bits _ 12 a).1, decide_eq_true a.isLt, Bool.true_and]

/-- What a channel holds after its cycle, beside its groups. -/
def cycledChan (h : HChan) (res : List ArmRes) (m : Mirror) : HChan :=
  { h with res := res, taken := some m, first := false, viol := h.viol ||| freshBits h.viol res,
           clear := (List.range 12).map (fun a => if h.viol.testBit a ∧ (res.getD a {}).clear then h.clear.getD a 0 + 1 else 0) }

theorem chanCycle_eq (s : State) (c : Fin 2) (m : Mirror) : s.chanCycle c m =
    ((newViols (s.chan c).viol (s.chanResults c m)).foldl (fun s a => s.armOff c a)
      (s.modChan c (fun x => { x with
        res := s.chanResults c m, taken := some m, first := false, viol := x.viol ||| freshBits (s.chan c).viol (s.chanResults c m),
        clear := (List.range 12).map (fun a => if (s.chan c).viol.testBit a ∧ ((s.chanResults c m).getD a {}).clear
          then (s.chan c).clear.getD a 0 + 1 else 0) }))).showViol := rfl

/-- What a channel's cycle leaves. -/
structure cycleOf (c : Fin 2) (m : Mirror) (s t : State) : Prop where
  keeps : s.keeps t (SAFE_SSM_VIOL :: s.offRegs)
  safe : t.safe = { s.safe with chans := t.safe.chans }
  own : ∃ res, t.chan c = { cycledChan (s.chan c) res m with groups := (t.chan c).groups }
  other : ∀ d, d ≠ c → t.chan d = { s.chan d with groups := (t.chan d).groups }
  stays : s.staysOff t
  fresh : ∀ (a : Fin 12) g, (t.chan c).viol.testBit a = true → (s.chan c).viol.testBit a = false → s.groupOfArm a = some g → (t.group c g).state = 0
  shown : t.f SAFE_SSM_VIOL_VIOL = ((t.chan 0).viol ||| (t.chan 1).viol) % 4096
  frame : s.offFrame t

theorem chanCycle_cycleOf (s : State) (c : Fin 2) (m : Mirror) : cycleOf c m s (s.chanCycle c m) := by
  generalize hres : s.chanResults c m = res
  generalize hs1 : s.modChan c (fun x => { x with
        res := res, taken := some m, first := false, viol := x.viol ||| freshBits (s.chan c).viol res,
        clear := (List.range 12).map (fun a => if (s.chan c).viol.testBit a ∧ (res.getD a {}).clear
          then (s.chan c).clear.getD a 0 + 1 else 0) }) = s1
  have hown : s1.chan c = cycledChan (s.chan c) res m := by
    rw [← hs1]
    exact chan_modChan_same s c _
  have hother : ∀ d, d ≠ c → s1.chan d = s.chan d := fun d hd => by
    rw [← hs1]
    exact chan_modChan_ne s _ hd
  have hgrp : ∀ d g, s1.group d g = s.group d g := by
    intro d g
    unfold group
    by_cases hd : d = c
    · subst hd
      rw [hown]
      rfl
    · rw [hother d hd]
  obtain ⟨ho, hst, hz⟩ := armsOff_spec s1 c (newViols (s.chan c).viol res)
  have he : s.chanCycle c m = ((newViols (s.chan c).viol res).foldl (fun s a => s.armOff c a) s1).showViol := by
    rw [chanCycle_eq, hres, hs1]
  generalize (newViols (s.chan c).viol res).foldl (fun s a => s.armOff c a) s1 = v at he ho hst hz
  have hregs : s1.offRegs = s.offRegs := by
    rw [← hs1]
    rfl
  have hchan : ∀ d, (s.chanCycle c m).chan d = v.chan d := fun d => by rw [he]; rfl
  refine ⟨?_, ?_, ⟨res, ?_⟩, fun d hd => ?_, fun d g h0 => ?_, fun a g h1 h2 h3 => ?_, ?_, ?_⟩
  · rw [he]
    refine keeps_trans ?_ (keeps_mono (showViol_keeps v) (by simp))
    have h0 : s.keeps s1 s.offRegs := by
      rw [← hs1]
      exact keeps_of_regs rfl _
    exact keeps_mono (keeps_trans h0 (hregs ▸ ho.keeps)) fun x hx => List.mem_cons_of_mem _ hx
  · have hsafe : s1.safe = { s.safe with chans := s1.safe.chans } := by
      rw [← hs1]
      rfl
    have hv : (s.chanCycle c m).safe = v.safe := by rw [he]; rfl
    rw [hv]
    exact ho.groups.1.trans (by rw [hsafe])
  · rw [hchan]
    exact (ho.groups.2 c).trans (by rw [hown])
  · rw [hchan]
    exact (ho.groups.2 d).trans (by rw [hother d hd])
  · have h := hst d g (by rw [hgrp]; exact h0)
    unfold group at h ⊢
    rw [hchan]
    exact h
  · have hv : (s.chanCycle c m).group c g = v.group c g := by unfold group; rw [hchan]
    have hb : (v.chan c).viol = (s.chan c).viol ||| freshBits (s.chan c).viol res :=
      (congrArg HChan.viol (ho.groups.2 c)).trans (congrArg HChan.viol hown)
    rw [hchan, hb, Nat.testBit_or, h2, Bool.false_or, testBit_freshBits] at h1
    have hm : a.val ∈ newViols (s.chan c).viol res := List.mem_filter.mpr ⟨List.mem_range.mpr a.isLt, h1⟩
    have hg : s1.groupOfArm a = some g := by
      rw [← hs1]
      exact h3
    rw [hv]
    exact hz a hm g hg
  · rw [hchan, hchan, he]
    exact viol_or_lt v
  · have h0 : s.offFrame s1 := by
      rw [← hs1]
      exact modSafe_offFrame s _
    rw [he]
    exact offFrame_trans (offFrame_trans h0 ho.offFrame) (setF_offFrame _ _ _)

-- ===== the start of a cycle (R307, R309, R323) =====

/-- The registers below an address are kept. -/
def lowKept (n : Nat) (s t : State) : Prop := ∀ r, r < n → t.rd r = s.rd r

theorem lowKept_refl (n : Nat) (s : State) : lowKept n s s := fun _ _ => rfl

theorem lowKept_trans {n : Nat} {s t u : State} (h : lowKept n s t) (h' : lowKept n t u) : lowKept n s u := fun r hr => (h' r hr).trans (h r hr)

theorem wrN_lowKept (s : State) {n a : Nat} (v : Nat) (h : n ≤ a) : lowKept n s (s.wrN a v) := fun r hr => rd_wrN_ne s v (by omega)

/-- What the start of a cycle may change: the sources, the registers from SAFE_SSM_SCAN's on, and fault messages. -/
structure cycleStart (s t : State) : Prop where
  stat : t.rd SAFE_SSM_STAT = s.rd SAFE_SSM_STAT
  safe : t.safe = { s.safe with sources := t.safe.sources }
  frame : t = { s with safe := t.safe, flt := t.flt, regs := t.regs }

theorem cycleStart_refl (s : State) : s.cycleStart s := ⟨rfl, rfl, rfl⟩

theorem cycleStart_trans {s t u : State} (h : s.cycleStart t) (h' : t.cycleStart u) : s.cycleStart u :=
  ⟨h'.stat.trans h.stat, h'.safe.trans (by rw [h.safe]), h'.frame.trans (by rw [h.frame])⟩

theorem takePayloads_cycleStart (s : State) : s.cycleStart s.takePayloads := ⟨rfl, rfl, rfl⟩

theorem sources_cycleStart (s : State) (n k : Nat) (h : n < 8) (on : Bool) (g : SrcSt → SrcSt) :
    s.cycleStart ((s.modSafe (fun x => { x with sources := x.sources.modify ⟨n, h⟩ g })).setB ⟨SAFE_SSM_SCAN, k, 1⟩ on) :=
  ⟨rd_setB_ne (x := ⟨SAFE_SSM_SCAN, k, 1⟩) _ _ (show SAFE_SSM_STAT ≠ SAFE_SSM_SCAN by decide), rfl, rfl⟩

theorem raise_cycleStart (s : State) (m : FaultMsg) : s.cycleStart (s.raise m) := ⟨rfl, rfl, rfl⟩

theorem endCause_cycleStart (s : State) (a k : Nat) : s.cycleStart (s.endCause a k) := ⟨rfl, rfl, rfl⟩

theorem scanLost_cycleStart (s : State) (x : ScanSrc) : s.cycleStart (s.scanLost x) := by
  unfold scanLost
  split
  · split
    · exact cycleStart_refl s
    · exact cycleStart_trans (sources_cycleStart s _ _ _ _ _) (raise_cycleStart _ _)
  · exact cycleStart_refl s

theorem judgeSources_cycleStart (s : State) : s.cycleStart s.judgeSources := by
  refine foldl_rel cycleStart_refl cycleStart_trans _ s fun x _ s => ?_
  split
  · dsimp only
    split
    · exact scanLost_cycleStart s x
    · split
      · exact cycleStart_trans (sources_cycleStart s _ _ _ _ _) (endCause_cycleStart _ _ _)
      · exact cycleStart_refl s
  · exact cycleStart_refl s

theorem person_cycleStart (s : State) (k v w : Nat) : s.cycleStart ((s.wrN (SAFE_SSM_PRS_XY k) v).wrN (SAFE_SSM_PRS_RH k) w) := by
  refine ⟨?_, rfl, rfl⟩
  rw [rd_wrN_ne _ _ (by simp only [SAFE_SSM_STAT, SAFE_SSM_PRS_RH, ssmPrsBase]; omega),
    rd_wrN_ne _ _ (by simp only [SAFE_SSM_STAT, SAFE_SSM_PRS_XY, ssmPrsBase]; omega)]

theorem showPersons_cycleStart (s : State) : s.cycleStart s.showPersons :=
  cycleStart_trans (foldl_rel cycleStart_refl cycleStart_trans _ s fun k _ s => person_cycleStart s k 0 0)
    (foldl_rel cycleStart_refl cycleStart_trans _ _ fun p _ s => person_cycleStart s p.num _ _)

/-- A cycle begins: RUN, and WARMUP in the first. -/
def cycleBegun (s : State) : State :=
  ((s.modSafe (fun x => { x with hpAt := some s.time.mono, monOld := none })).setF SAFE_SSM_STAT_RUN 1).setB SAFE_SSM_STAT_WARMUP (s.chan 0).first

/-- The cycle's newest payloads are taken, its sources judged, its persons shown. -/
def cycleRead (s : State) : State := s.cycleBegun.takePayloads.judgeSources.showPersons

/-- A whole cycle. -/
def cycleDone (s : State) (m : Mirror) : State :=
  (((((s.cycleRead.plausMsgs m).chanCycle 0 m).chanCycle 1 m).violMsgs (s.cycleRead.f SAFE_SSM_VIOL_VIOL)).bumpFree).modSafe (fun x => { x with cycled := true })

/-- A cycle is due t_HPCYC after the last one. -/
def cycleDue (s : State) : Bool := match s.safe.hpAt with | some k => safePast k 1000 s.time.mono | none => true

theorem execHardpanCycle_eq {s u : State} {m : Nat} (hu : u = s.runTo m) : exec (.hardpanCycle m) s =
    .next (if !u.ssmRuns ∨ !u.cycleDue then u else match u.mirrorNow with | none => u | some x => u.cycleDone x) := by
  rw [hu]
  rfl

theorem execHardpanCycle_due {s u : State} {m : Nat} {x : Mirror} (hu : u = s.runTo m) (hr : u.ssmRuns = true) (hx : u.mirrorNow = some x)
    (hd : ∀ k, u.safe.hpAt = some k → safePast k 1000 u.time.mono = true) : exec (.hardpanCycle m) s = .next (u.cycleDone x) := by
  have hdue : u.cycleDue = true := by
    unfold cycleDue
    cases h : u.safe.hpAt with
    | none => rfl
    | some k => exact hd k h
  rw [execHardpanCycle_eq hu, hx, hdue, hr, if_neg (by decide)]

theorem execHardpanCycle_not_due {s u : State} {m : Nat} (hu : u = s.runTo m)
    (h : u.ssmRuns = false ∨ u.mirrorNow = none ∨ ∃ k, u.safe.hpAt = some k ∧ safePast k 1000 u.time.mono = false) :
    exec (.hardpanCycle m) s = .next u := by
  rw [execHardpanCycle_eq hu]
  rcases h with h | h | ⟨k, h1, h2⟩
  · rw [h, if_pos (.inl rfl)]
  · rw [h]
    exact congrArg Host.Outcome.next (ite_self u)
  · have hdue : u.cycleDue = false := by
      unfold cycleDue
      rw [h1]
      exact h2
    rw [hdue, if_pos (.inr rfl)]

theorem cycleRead_cycleStart (s : State) : s.cycleBegun.cycleStart s.cycleRead :=
  cycleStart_trans (cycleStart_trans (takePayloads_cycleStart _) (judgeSources_cycleStart _)) (showPersons_cycleStart _)

theorem cycleBegun_run (s : State) : s.cycleBegun.f SAFE_SSM_STAT_RUN = 1 :=
  (f_setB_disj (x := SAFE_SSM_STAT_WARMUP) (y := SAFE_SSM_STAT_RUN) _ _ rfl (by decide)).trans (f_setF_one _ _ (by decide) rfl)

/-- The state in which the channels judge the cycle. -/
def cycleJudged (s : State) (m : Mirror) : State := s.cycleRead.plausMsgs m

theorem cycleJudged_spec (s : State) (m : Mirror) : (s.cycleJudged m).f SAFE_SSM_STAT_RUN = 1 ∧ (s.cycleJudged m).safe.hpAt = some s.time.mono ∧
    (s.cycleJudged m).safe.monOld = none ∧ (∀ c, (s.cycleJudged m).chan c = s.chan c) ∧ (s.cycleJudged m).safe.safety = s.safe.safety ∧
    s.offFrame (s.cycleJudged m) := by
  have hr := cycleRead_cycleStart s
  have hp := plausMsgs_violTold s.cycleRead m
  have hs : (s.cycleJudged m).safe = { s.cycleBegun.safe with sources := s.cycleRead.safe.sources } := hp.safe.trans hr.safe
  refine ⟨?_, by rw [hs]; rfl, by rw [hs]; rfl, fun c => by unfold chan; rw [hs]; rfl, by rw [hs]; rfl, ?_⟩
  · rw [← cycleBegun_run s, ← f_of_rd (x := SAFE_SSM_STAT_RUN) hr.stat]
    exact f_keeps (x := SAFE_SSM_STAT_RUN) hp.keeps (by decide)
  · have hf := hr.frame
    have h0 : s.cycleBegun.offFrame s.cycleRead := by
      unfold offFrame
      rw [hf]
    have hb : s.offFrame s.cycleBegun :=
      offFrame_trans (offFrame_trans (modSafe_offFrame s _) (setF_offFrame _ _ _)) (setF_offFrame _ _ _)
    exact offFrame_trans (offFrame_trans hb h0) hp.offFrame

theorem SAFE_SSM_STAT_notMem_cycle (s : State) : SAFE_SSM_STAT ∉ SAFE_SSM_VIOL :: s.offRegs := by
  rw [List.mem_cons, not_or]
  exact ⟨by decide, SAFE_SSM_STAT_notMem_offRegs s⟩

section

variable {m : Mirror} {v w t : State} (h0 : cycleOf 0 m v w) (h1 : cycleOf 1 m w t)
include h0 h1

/-- Both channels' cycles, one after the other: each channel stands as its own judgement left it, but for its groups. -/
theorem twoCycles_chan (c : Fin 2) : ∃ res, t.chan c = { cycledChan (v.chan c) res m with groups := (t.chan c).groups } := by
  obtain ⟨r0, hr0⟩ := h0.own
  obtain ⟨r1, hr1⟩ := h1.own
  rcases (by omega : c = 0 ∨ c = 1) with rfl | rfl
  · exact ⟨r0, (h1.other 0 (by decide)).trans (by rw [hr0])⟩
  · exact ⟨r1, hr1.trans (by rw [h0.other 1 (by decide)]; rfl)⟩

theorem twoCycles_safe : t.safe = { v.safe with chans := t.safe.chans } := h1.safe.trans (by rw [h0.safe])

theorem twoCycles_stat : t.f SAFE_SSM_STAT_RUN = v.f SAFE_SSM_STAT_RUN :=
  (f_keeps (x := SAFE_SSM_STAT_RUN) h1.keeps (SAFE_SSM_STAT_notMem_cycle w)).trans
    (f_keeps (x := SAFE_SSM_STAT_RUN) h0.keeps (SAFE_SSM_STAT_notMem_cycle v))

/-- A latch stands where it stood, or where the arm is in violation (R315). -/
theorem twoCycles_viol (c : Fin 2) (a : Fin 12) : (t.chan c).viol.testBit a = true ↔
    (v.chan c).viol.testBit a = true ∨ ((t.chan c).res.getD a {}).viol = true := by
  obtain ⟨res, hres⟩ := twoCycles_chan h0 h1 c
  have hv : (t.chan c).viol = (v.chan c).viol ||| freshBits (v.chan c).viol res := congrArg HChan.viol hres
  have hr : (t.chan c).res = res := congrArg HChan.res hres
  rw [hv, hr, Nat.testBit_or, testBit_freshBits]
  cases (v.chan c).viol.testBit a <;> simp

/-- The group of an arm newly in violation in a channel is in OFF in that channel (R315). -/
theorem twoCycles_group {c : Fin 2} {a : Fin 12} {g : Fin 4} (hn : (t.chan c).viol.testBit a = true) (ho : (v.chan c).viol.testBit a = false)
    (hg : v.groupOfArm a = some g) : (t.group c g).state = 0 := by
  rcases (by omega : c = 0 ∨ c = 1) with rfl | rfl
  · refine h1.stays 0 g (h0.fresh a g ?_ ho hg)
    rw [← hn, h1.other 0 (by decide)]
  · refine h1.fresh a g hn ?_ ?_
    · rw [h0.other 1 (by decide), ← ho]
    · exact (groupOfArm_congr (by rw [h0.safe]) a).trans hg

end

/-- Both channels after the cycle. -/
def cycleBoth (s : State) (m : Mirror) : State := ((s.cycleJudged m).chanCycle 0 m).chanCycle 1 m

theorem cycleDone_told (s : State) (m : Mirror) : ∃ v : State, (s.cycleBoth m).violTold v ∧
    s.cycleDone m = v.bumpFree.modSafe (fun x => { x with cycled := true }) :=
  ⟨(s.cycleBoth m).violMsgs (s.cycleRead.f SAFE_SSM_VIOL_VIOL), violMsgs_violTold _ _, rfl⟩

theorem cycleDone_safe (s : State) (m : Mirror) : (s.cycleDone m).safe = { (s.cycleBoth m).safe with cycled := true } := by
  obtain ⟨v, hv, he⟩ := cycleDone_told s m
  rw [he, ← hv.safe]
  rfl

theorem cycleDone_chan (s : State) (m : Mirror) (c : Fin 2) : (s.cycleDone m).chan c = (s.cycleBoth m).chan c := by
  unfold chan
  rw [cycleDone_safe]

theorem cycleDone_f (s : State) (m : Mirror) {x : Fld} (hx : x.reg ∉ [SAFE_SSM_CNT_VIOL]) : (s.cycleDone m).f x = (s.cycleBoth m).f x := by
  obtain ⟨v, hv, he⟩ := cycleDone_told s m
  rw [he]
  exact f_keeps hv.keeps hx

/-- Both channels of a cycle, each as its own judgement left it. -/
theorem cycleDone_spec (s : State) (m : Mirror) :
    (s.cycleDone m).f SAFE_SSM_STAT_RUN = 1 ∧ (s.cycleDone m).safe.cycled = true ∧ (s.cycleDone m).safe.hpAt = some s.time.mono ∧
      (s.cycleDone m).safe.monOld = none ∧
      (∀ c : Fin 2, ((s.cycleDone m).chan c).taken = some m ∧ ((s.cycleDone m).chan c).first = false) ∧
      (∀ (c : Fin 2) (a : Fin 12) (g : Fin 4), ((s.cycleDone m).chan c).viol.testBit a = true → (s.chan c).viol.testBit a = false →
        s.groupOfArm a = some g → ((s.cycleDone m).group c g).state = 0) ∧
      (∀ (c : Fin 2) (a : Fin 12), ((s.cycleDone m).chan c).viol.testBit a = true ↔
        (s.chan c).viol.testBit a = true ∨ (((s.cycleDone m).chan c).res.getD a {}).viol = true) ∧
      (s.cycleDone m).f SAFE_SSM_VIOL_VIOL = (((s.cycleDone m).chan 0).viol ||| ((s.cycleDone m).chan 1).viol) % 4096 := by
  obtain ⟨hrun, hat, hold, hchan, hsafety, -⟩ := cycleJudged_spec s m
  have h0 := chanCycle_cycleOf (s.cycleJudged m) 0 m
  have h1 := chanCycle_cycleOf ((s.cycleJudged m).chanCycle 0 m) 1 m
  have hsafe : (s.cycleBoth m).safe = { (s.cycleJudged m).safe with chans := (s.cycleBoth m).safe.chans } := twoCycles_safe h0 h1
  refine ⟨?_, by rw [cycleDone_safe], ?_, ?_, fun c => ?_, fun c a g hn ho hg => ?_, fun c a => ?_, ?_⟩
  · exact (cycleDone_f s m (x := SAFE_SSM_STAT_RUN) (by decide)).trans ((twoCycles_stat h0 h1).trans hrun)
  · rw [cycleDone_safe, hsafe]
    exact hat
  · rw [cycleDone_safe, hsafe]
    exact hold
  · obtain ⟨res, hres⟩ := twoCycles_chan h0 h1 c
    rw [cycleDone_chan]
    exact ⟨congrArg HChan.taken hres, congrArg HChan.first hres⟩
  · rw [cycleDone_chan] at hn
    have hz := twoCycles_group h0 h1 hn (by rw [hchan, ho]) ((groupOfArm_congr hsafety a).trans hg)
    unfold group at hz ⊢
    rw [cycleDone_chan]
    exact hz
  · rw [cycleDone_chan, ← hchan c]
    exact twoCycles_viol h0 h1 c a
  · rw [cycleDone_f s m (x := SAFE_SSM_VIOL_VIOL) (by decide), cycleDone_chan, cycleDone_chan]
    exact h1.shown

theorem cycleDone_frame (s : State) (m : Mirror) : s.cycleDone m = { s with
    time := { s.time with hits := (s.cycleDone m).time.hits }, hq := (s.cycleDone m).hq, wheel := (s.cycleDone m).wheel,
    tiles := (s.cycleDone m).tiles, pps := (s.cycleDone m).pps, safe := (s.cycleDone m).safe, flt := (s.cycleDone m).flt,
    regs := (s.cycleDone m).regs, free := (s.cycleDone m).free } := by
  obtain ⟨-, -, -, -, -, hj⟩ := cycleJudged_spec s m
  have h0 := (chanCycle_cycleOf (s.cycleJudged m) 0 m).frame
  have h1 := (chanCycle_cycleOf ((s.cycleJudged m).chanCycle 0 m) 1 m).frame
  obtain ⟨v, hv, he⟩ := cycleDone_told s m
  have h := offFrame_trans (offFrame_trans (offFrame_trans hj h0) h1) hv.offFrame
  unfold offFrame at h
  rw [he, h]
  rfl

end State

end Sys2Proof.Machine

/-! SUPPORT. O32: the exchange of the channels, the latch's clearing and a stale cap set (R316, R318, R319, R320). -/

namespace Sys2Proof.Machine

namespace State

-- ===== the exchange (R318, R320) =====

/-- The run of disagreeing cycles and the sequence number that an exchange leaves. -/
def exchMarked (s : State) : State :=
  s.modSafe (fun y => { y with xrun := if s.crossCheck.2.2 then s.safe.xrun + 1 else 0, xtold := y.xtold && s.crossCheck.2.2,
                               capSeq := (s.safe.capSeq + 1) % 65536, cycled := false })

/-- A disagreeing cycle is counted. -/
def exchCounted (s : State) : State := if s.crossCheck.2.2 then s.exchMarked.bump SAFE_SSM_CNT_XCMP else s.exchMarked

/-- A cap set is published, with its sequence number, the cycle's time and the channels' difference. -/
def putExchange (v : State) (k : CapSet) (seq cyc diff : Nat) : State :=
  (((v.putCaps k).setF SAFE_SSM_STAT_SEQ seq).wrN SAFE_SSM_CYCMAX cyc).wrN SAFE_SSM_XDIFF diff

def exchPut (s : State) (used : Nat) : State :=
  s.exchCounted.putExchange s.exchCounted.capSet ((s.safe.capSeq + 1) % 65536) (max (s.rdN SAFE_SSM_CYCMAX) (min used 4294967295))
    (min s.crossCheck.1 65535 + 65536 * min (if s.crossCheck.2.2 then s.safe.xrun + 1 else 0) 15)

/-- The arms that the set caps below their path speed. -/
def cappedArms (s : State) (k : CapSet) : Nat :=
  ((List.range 12).map (fun a => match s.monSet.1.arms.find? (fun (p : SafArm) => p.arm == a) with
    | some p => if k.caps.getD a 65535 < p.vpath then 2 ^ a else 0 | none => 0)).foldl (· + ·) 0

def exchanged (s : State) (used : Nat) : State :=
  (List.range 12).foldl (fun (v : State) a => v.showArm a (s.exchCounted.capSet.caps.getD a 65535))
    ((s.exchPut used).setF SAFE_SSM_VIOL_CAPPED (s.cappedArms s.exchCounted.capSet))

theorem execSsmExchange_cycled {s : State} {n : Nat} (h : s.safe.cycled = true) : exec (.ssmExchange n) s = .next (s.exchanged n) := by
  have hc : ¬ (!s.safe.cycled) = true := by rw [h]; decide
  exact congrArg Host.Outcome.next (if_neg hc)

theorem execSsmExchange_not_cycled {s : State} {n : Nat} (h : s.safe.cycled = false) : exec (.ssmExchange n) s = .next s := by
  have hc : (!s.safe.cycled) = true := by rw [h]; rfl
  exact congrArg Host.Outcome.next (if_pos hc)

/-- The view of the arms' results lies above the Hardpan's status registers, and is registers alone. -/
theorem showArms_spec (s : State) (caps : Nat → Nat) :
    lowKept 0xC0900 s ((List.range 12).foldl (fun (v : State) a => v.showArm a (caps a)) s) ∧
      (List.range 12).foldl (fun (v : State) a => v.showArm a (caps a)) s =
        { s with regs := ((List.range 12).foldl (fun (v : State) a => v.showArm a (caps a)) s).regs } := by
  refine ⟨foldl_rel (lowKept_refl _) lowKept_trans _ s fun a _ s => ?_,
    foldl_rel (R := fun s t => t = { s with regs := t.regs }) (fun _ => rfl) (fun h h' => h'.trans (by rw [h])) _ s fun a _ s => rfl⟩
  unfold showArm
  dsimp only
  refine lowKept_trans (lowKept_trans (lowKept_trans (wrN_lowKept s _ ?_) (wrN_lowKept _ _ ?_)) (wrN_lowKept _ _ ?_)) (wrN_lowKept _ _ ?_)
  · simp only [SAFE_SSM_ARM_A, ssmArmBase]; omega
  · simp only [SAFE_SSM_ARM_P, ssmArmBase]; omega
  · simp only [SAFE_SSM_ARM_V, ssmArmBase]; omega
  · simp only [SAFE_SSM_ARM_SP, ssmArmBase]; omega

theorem exchCounted_safe (s : State) : s.exchCounted.safe = s.exchMarked.safe := by
  unfold exchCounted
  split <;> rfl

theorem exchCounted_frame (s : State) : s.exchCounted = { s with safe := s.exchCounted.safe, regs := s.exchCounted.regs } := by
  unfold exchCounted
  split <;> rfl

theorem exchCounted_rdN (s : State) : s.exchCounted.rdN SAFE_SSM_CNT_XCMP =
    if s.crossCheck.2.2 then min (s.rdN SAFE_SSM_CNT_XCMP + 1) 4294967295 else s.rdN SAFE_SSM_CNT_XCMP := by
  unfold exchCounted
  split
  · exact rdN_bump_same _ _
  · rfl

theorem capSet_congr {s t : State} (h : t.safe = s.safe) : t.capSet = s.capSet := by
  unfold capSet monSet armInSs1 groupOfArm safGroup group chan safSet
  rw [h]

theorem exchCounted_capSet (s : State) : s.exchCounted.capSet = { s.capSet with seq := (s.safe.capSeq + 1) % 65536 } :=
  capSet_congr (exchCounted_safe s)

theorem capSet_caps (s : State) (a : Fin 12) :
    s.capSet.caps.getD a 0 = if s.armInSs1 a then 0 else min ((s.chan 0).res.getD a {}).cap ((s.chan 1).res.getD a {}).cap := by
  unfold capSet
  rw [List.getD_eq_getElem?_getD, List.getElem?_map, List.getElem?_range a.isLt]
  rfl

theorem exchanged_rd (s : State) (n : Nat) {r : Nat} (h : r < 0xC0900) (hv : r ≠ SAFE_SSM_VIOL) : (s.exchanged n).rd r = (s.exchPut n).rd r :=
  ((showArms_spec _ _).1 r h).trans (rd_setF_ne _ (x := SAFE_SSM_VIOL_CAPPED) _ hv)

theorem showArms_frame (v : State) (x : Fld) (w : Nat) (caps : Nat → Nat) :
    (List.range 12).foldl (fun (v : State) a => v.showArm a (caps a)) (v.setF x w) =
      { v with regs := ((List.range 12).foldl (fun (v : State) a => v.showArm a (caps a)) (v.setF x w)).regs } :=
  (showArms_spec (v.setF x w) caps).2

theorem exchanged_eq (s : State) (n : Nat) : s.exchanged n = { s.exchPut n with regs := (s.exchanged n).regs } :=
  showArms_frame (s.exchPut n) _ _ _

theorem putExchange_frame (v : State) (k : CapSet) (seq cyc diff : Nat) :
    v.putExchange k seq cyc diff = { v with safe := (v.putExchange k seq cyc diff).safe, regs := (v.putExchange k seq cyc diff).regs } := rfl

theorem putExchange_safe (v : State) (k : CapSet) (seq cyc diff : Nat) : (v.putExchange k seq cyc diff).safe =
    { v.safe with caps := some k, capsAt := v.time.mono, capsOld := (v.putExchange k seq cyc diff).safe.capsOld } := rfl

theorem putExchange_regs (v : State) (k : CapSet) {seq cyc : Nat} (diff : Nat) (hs : seq < 65536) (hc : cyc < 4294967296) :
    (v.putExchange k seq cyc diff).f SAFE_SSM_STAT_SEQ = seq ∧ (v.putExchange k seq cyc diff).rdN SAFE_SSM_CYCMAX = cyc ∧
      (v.putExchange k seq cyc diff).rdN SAFE_SSM_CNT_XCMP = v.rdN SAFE_SSM_CNT_XCMP := by
  unfold putExchange
  refine ⟨?_, ?_, ?_⟩
  · rw [f_wrN_ne _ _ (by decide), f_wrN_ne _ _ (by decide), f_setF_same _ _ _ (by decide)]
    exact Nat.mod_eq_of_lt hs
  · rw [rdN_wrN_ne _ _ (by decide), rdN_wrN_same, Nat.mod_eq_of_lt hc]
  · rw [rdN_wrN_ne _ _ (by decide), rdN_wrN_ne _ _ (by decide), rdN_setF_ne _ _ (by decide)]
    rfl

theorem exchPut_safe (s : State) (n : Nat) : (s.exchPut n).safe = { s.exchMarked.safe with
    caps := some s.exchCounted.capSet, capsAt := s.time.mono, capsOld := (s.exchPut n).safe.capsOld } := by
  have h := putExchange_safe s.exchCounted s.exchCounted.capSet ((s.safe.capSeq + 1) % 65536) (max (s.rdN SAFE_SSM_CYCMAX) (min n 4294967295))
    (min s.crossCheck.1 65535 + 65536 * min (if s.crossCheck.2.2 then s.safe.xrun + 1 else 0) 15)
  have hm : s.exchCounted.time.mono = s.time.mono := by rw [exchCounted_frame]
  rw [hm, exchCounted_safe] at h
  exact h

/-- The frame of two operations of the exchange, one after the other. -/
theorem exchFrame_trans {s t u : State} (h : t = { s with safe := t.safe, regs := t.regs })
    (h' : u = { t with safe := u.safe, regs := u.regs }) : u = { s with safe := u.safe, regs := u.regs } :=
  h'.trans (by rw [h])

theorem exchPut_frame (s : State) (n : Nat) : s.exchPut n = { s with safe := (s.exchPut n).safe, regs := (s.exchPut n).regs } :=
  exchFrame_trans (exchCounted_frame s) (putExchange_frame s.exchCounted _ _ _ _)

theorem exchanged_safe (s : State) (n : Nat) : (s.exchanged n).safe = (s.exchPut n).safe := by rw [exchanged_eq]

theorem exchPut_regs (s : State) (n : Nat) : (s.exchPut n).f SAFE_SSM_STAT_SEQ = (s.safe.capSeq + 1) % 65536 ∧
    (s.exchPut n).rdN SAFE_SSM_CYCMAX = max (s.rdN SAFE_SSM_CYCMAX) (min n 4294967295) ∧
    (s.exchPut n).rdN SAFE_SSM_CNT_XCMP = s.exchCounted.rdN SAFE_SSM_CNT_XCMP := by
  have hlt : s.rdN SAFE_SSM_CYCMAX < 4294967296 := (s.rd SAFE_SSM_CYCMAX).isLt
  exact putExchange_regs _ _ _ (Nat.mod_lt _ (by decide)) (by omega)

theorem exchanged_spec (s : State) (n : Nat) :
    ∃ k, (s.exchanged n).safe.caps = some k ∧ k.seq = (s.safe.capSeq + 1) % 65536 ∧ k.set = s.monSet.2.1 ∧ k.sid = s.monSet.2.2 ∧
      (∀ a : Fin 12, k.caps.getD a 0 = if s.armInSs1 a then 0 else min ((s.chan 0).res.getD a {}).cap ((s.chan 1).res.getD a {}).cap) ∧
      k.viol = (s.chan 0).viol ||| (s.chan 1).viol ∧ (s.exchanged n).safe.capsAt = s.time.mono ∧
      (s.exchanged n).f SAFE_SSM_STAT_SEQ = k.seq ∧ (s.exchanged n).safe.xrun = (if s.crossCheck.2.2 then s.safe.xrun + 1 else 0) ∧
      (s.exchanged n).safe.cycled = false ∧ (s.exchanged n).rdN SAFE_SSM_CYCMAX = max (s.rdN SAFE_SSM_CYCMAX) (min n 4294967295) ∧
      (s.exchanged n).rdN SAFE_SSM_CNT_XCMP =
        (if s.crossCheck.2.2 then min (s.rdN SAFE_SSM_CNT_XCMP + 1) 4294967295 else s.rdN SAFE_SSM_CNT_XCMP) ∧
      s.exchanged n = { s with safe := (s.exchanged n).safe, regs := (s.exchanged n).regs } := by
  obtain ⟨hseq, hmax, hcnt⟩ := exchPut_regs s n
  have hs := (exchanged_safe s n).trans (exchPut_safe s n)
  have hk := exchCounted_capSet s
  refine ⟨s.exchCounted.capSet, by rw [hs], by rw [hk], by rw [hk]; rfl, by rw [hk]; rfl, fun a => by rw [hk]; exact capSet_caps s a,
    by rw [hk]; rfl, by rw [hs], ?_, by rw [hs]; rfl, by rw [hs]; rfl, ?_, ?_, ?_⟩
  · rw [hk, f_of_rd (x := SAFE_SSM_STAT_SEQ) (exchanged_rd s n (by decide) (by decide))]
    exact hseq
  · unfold rdN at hmax ⊢
    rw [exchanged_rd s n (by decide) (by decide)]
    exact hmax
  · rw [← exchCounted_rdN, ← hcnt]
    unfold rdN
    rw [exchanged_rd s n (by decide) (by decide)]
  · refine (exchanged_eq s n).trans ?_
    rw [exchanged_safe, exchPut_frame]

-- ===== a stale cap set (R319) =====

/-- A cluster that has a path speed is capped to 0, and its cap shown stale. -/
def capOff (s : State) (c : Nat) : State :=
  if s.f (CL_PSO_VPATH_V_PATH c) = 0 then s else (s.setF (CL_PSO_CAP_S_CAP c) 0).setF (CL_PSO_CAP_STALE c) 1

/-- All clusters capped to 0, told. -/
def capsOff (s : State) : State := (List.range 12).foldl (fun s c => s.capOff c) (s.modSafe (fun x => { x with staleTold := true }))

def staleMsg (s : State) : FaultMsg :=
  mkFault 0x150 0x44 cMAJOR 1 [.val (match s.safe.taken with | some k => k.seq | none => 0)] s.armGroups

theorem execSsmCapStale_due {s : State} (h1 : 3 ≤ s.safe.same) (h2 : s.safe.staleTold = false) (h3 : s.onGrid Config.msUnits = true) :
    exec .ssmCapStale s = .next (s.capsOff.raise s.staleMsg) := by
  have hc : 3 ≤ s.safe.same ∧ !s.safe.staleTold ∧ s.onGrid Config.msUnits := ⟨h1, by rw [h2]; decide, h3⟩
  exact congrArg Host.Outcome.next (if_pos hc)

theorem execSsmCapStale_not_due {s : State} (h : s.safe.same < 3 ∨ s.safe.staleTold = true ∨ s.onGrid Config.msUnits = false) :
    exec .ssmCapStale s = .next s := by
  have hc : ¬ (3 ≤ s.safe.same ∧ !s.safe.staleTold ∧ s.onGrid Config.msUnits) := by
    rintro ⟨h1, h2, h3⟩
    rcases h with h | h | h
    · omega
    · rw [h] at h2; cases h2
    · rw [h] at h3; cases h3
  exact congrArg Host.Outcome.next (if_neg hc)

theorem capOff_keeps (s : State) (c : Nat) : s.keeps (s.capOff c) [CL_PSO_CAP c] := by
  unfold capOff
  split
  · exact keeps_refl s _
  · exact keeps_setF (x := CL_PSO_CAP_STALE c) _ (keeps_setF (x := CL_PSO_CAP_S_CAP c) _ (keeps_refl s _) (.head _)) (.head _)

theorem capOff_frame (s : State) (c : Nat) : s.capOff c = { s with regs := (s.capOff c).regs } := by
  unfold capOff
  split <;> rfl

theorem capOff_f {s : State} {c : Nat} (h : s.f (CL_PSO_VPATH_V_PATH c) ≠ 0) :
    (s.capOff c).f (CL_PSO_CAP_S_CAP c) = 0 ∧ (s.capOff c).f (CL_PSO_CAP_STALE c) = 1 := by
  unfold capOff
  rw [if_neg h]
  exact ⟨(f_setF_disj (x := CL_PSO_CAP_STALE c) (y := CL_PSO_CAP_S_CAP c) _ _ rfl (.inr (Nat.le_of_ble_eq_true rfl))).trans
    (f_setF_zero _ _ (Nat.le_of_ble_eq_true rfl)), f_setF_one _ _ (Nat.le_of_ble_eq_true rfl) rfl⟩

theorem capsOff_keeps (s : State) : s.keeps s.capsOff ((List.range 12).map CL_PSO_CAP) :=
  keeps_trans (keeps_of_regs (t := s.modSafe _) rfl _) (foldl_keeps _ _ _ _ fun c hc s =>
    keeps_mono (capOff_keeps s c) (by simpa using ⟨c, List.mem_range.mp hc, rfl⟩))

theorem capsOff_frame (s : State) : s.capsOff = { s with safe := { s.safe with staleTold := true }, regs := s.capsOff.regs } :=
  foldl_rel (R := fun s t => t = { s with regs := t.regs }) (fun _ => rfl) (fun h h' => h'.trans (by rw [h])) (List.range 12)
    (s.modSafe (fun x => { x with staleTold := true })) fun c _ s => capOff_frame s c

theorem CL_PSO_CAP_injective {c d : Nat} (h : CL_PSO_CAP c = CL_PSO_CAP d) : c = d := by
  unfold CL_PSO_CAP clBase at h
  omega

theorem capsOff_f {s : State} (c : Fin 12) (h : s.f (CL_PSO_VPATH_V_PATH c) ≠ 0) :
    s.capsOff.f (CL_PSO_CAP_S_CAP c) = 0 ∧ s.capsOff.f (CL_PSO_CAP_STALE c) = 1 := by
  obtain ⟨l₁, l₂, -, h₂, he⟩ := foldl_split (fun (s : State) c => s.capOff c) (List.nodup_range (n := 12)) (List.mem_range.mpr c.isLt)
    (s.modSafe (fun x => { x with staleTold := true }))
  generalize hv : l₁.foldl (fun (s : State) c => s.capOff c) (s.modSafe (fun x => { x with staleTold := true })) = v at he
  have hvp : v.rd (CL_PSO_VPATH c) = s.rd (CL_PSO_VPATH c) := by
    rw [← hv]
    refine foldl_rel (R := fun s t => t.rd (CL_PSO_VPATH c) = s.rd (CL_PSO_VPATH c)) (fun _ => rfl) (fun h h' => h'.trans h) _ _ fun d _ s => ?_
    refine capOff_keeps s d _ ?_
    simp only [List.mem_singleton, CL_PSO_VPATH, CL_PSO_CAP, clBase]
    omega
  have hlast : s.capsOff.rd (CL_PSO_CAP c) = (v.capOff c).rd (CL_PSO_CAP c) := by
    unfold capsOff
    rw [he]
    refine foldl_rel (R := fun s t => t.rd (CL_PSO_CAP c) = s.rd (CL_PSO_CAP c)) (fun _ => rfl) (fun h h' => h'.trans h) _ _ fun d hd s => ?_
    refine capOff_keeps s d _ fun hc => h₂ ?_
    rwa [CL_PSO_CAP_injective (List.mem_singleton.mp hc)]
  obtain ⟨h1, h2⟩ := capOff_f (s := v) (c := c) (by rwa [f_of_rd (x := CL_PSO_VPATH_V_PATH c) hvp])
  exact ⟨(f_of_rd (x := CL_PSO_CAP_S_CAP c) hlast).trans h1, (f_of_rd (x := CL_PSO_CAP_STALE c) hlast).trans h2⟩

theorem arms_wentOff {s t : State} {cover : Nat} (h : s.wentOff t (s.coverScope cover) 2) (g : Fin 4) :
    ((s.safGroup g).arms &&& cover ≠ 0 → (t.group 0 g).state = 0 ∧ (t.group 1 g).state = 0) ∧
      ((s.safGroup g).arms &&& cover = 0 → t.group 0 g = s.group 0 g ∧ t.group 1 g = s.group 1 g) := by
  obtain ⟨h1, h2⟩ := h g
  rw [testBit_coverScope] at h1 h2
  refine ⟨fun hc => ?_, fun hc => h2 (by simp [hc])⟩
  obtain ⟨h3, h4, -⟩ := h1 (by simp [hc])
  exact ⟨h3, h4⟩

end State

/-- Settles O32: groups go to OFF by State.offGroups_wentOff, a cycle is that of one channel after the other (State.cycleOf), and the
exchange and the cap set write registers above the Hardpan's status. -/
theorem separationRuns : Obligations.SeparationRuns := by
  unfold Obligations.SeparationRuns
  refine ⟨?_, ?_, ?_, ?_, ?_, ?_, ?_, ?_, ?_, ?_, ?_, ?_, ?_, ?_⟩
  case refine_1 =>
    intro s u m hu h
    exact State.execMirrorStale_not_due hu h
  case refine_2 =>
    intro s u m hu hr hn ht
    exact ⟨_, State.execMirrorStale_due hu hr hn ht, State.mirrorLost_spec u⟩
  case refine_3 =>
    intro s u m hu h
    exact State.execHardpanCycle_not_due hu h
  case refine_4 =>
    intro s u m x hu hr hx hd
    obtain ⟨h1, h2, h3, h4, h5, h6, h7, h8⟩ := State.cycleDone_spec u x
    exact ⟨_, State.execHardpanCycle_due hu hr hx hd, h1, h2, h3, h4, h5, h6, h7, h8, State.cycleDone_frame u x⟩
  case refine_5 =>
    intro s n h
    exact State.execSsmExchange_not_cycled h
  case refine_6 =>
    intro s n h
    obtain ⟨k, hk⟩ := State.exchanged_spec s n
    exact ⟨_, k, State.execSsmExchange_cycled h, hk⟩
  case refine_7 =>
    intro s us h
    exact ⟨_, State.execSsmXcmp_due h, State.xcmpTold_spec s⟩
  case refine_8 =>
    intro s us h hu
    exact State.execSsmXcmp_not_due h hu
  case refine_9 =>
    intro s u n m x hu hx hr hl hg
    obtain ⟨h1, h2, h3, h4, h5, h6, h7⟩ := State.sourceLost_spec u n x.cover
    exact ⟨_, State.execSsmScanLost_due hu hx hr hl hg, h1, h2, h3, fun g => (State.arms_wentOff h4 g).1, fun g => (State.arms_wentOff h4 g).2,
      h5, h6, h7⟩
  case refine_10 =>
    intro s u n m hu h
    exact State.execSsmScanLost_not_due hu h
  case refine_11 =>
    intro x p now
    exact ⟨State.srcGone_none x now, State.srcGone_some x p now⟩
  case refine_12 =>
    intro s a
    refine ⟨_, State.execViolationLatchClear_eq s a, fun c => ?_, State.viol_or_lt _, State.showViol_keeps _, rfl⟩
    exact (congrArg HChan.viol (State.chan_modChan_both s _ c)).trans (State.latchCleared_viol _ a _)
  case refine_13 =>
    intro s h1 h2 h3
    have hf := State.capsOff_frame s
    refine ⟨_, State.execSsmCapStale_due h1 h2 h3, fun c hc => State.capsOff_f c hc, ?_, State.raisedOne_raise s s.capsOff s.staleMsg ?_ ?_,
      State.keeps_raise _ (State.capsOff_keeps s), ?_⟩
    · rw [State.raise_safe, hf]
    · rw [hf]
    · rw [hf]
    · rw [hf]
      rfl
  case refine_14 =>
    intro s h
    exact State.execSsmCapStale_not_due h

end Sys2Proof.Machine

/-! SUPPORT. O23: what the planner's slots, its way to rest and its commands leave in a tile's registers (chapter 07). -/

namespace Sys2Proof.Machine

namespace State

-- ===== the registers of a tile's planner =====

theorem TILE_PLN_STAT_ne_SEQ (a : Nat) : TILE_PLN_STAT a ≠ TILE_PLN_SEQ a := by
  unfold TILE_PLN_STAT TILE_PLN_SEQ
  omega

theorem tile_modTile (s : State) (a : Fin 96) (g : Tile → Tile) : (s.modTile a g).tiles.get a = g (s.tiles.get a) :=
  Bank.get_modify_same _ _ _

theorem tile_modTile_ne (s : State) {a b : Fin 96} (g : Tile → Tile) (h : b ≠ a) : (s.modTile a g).tiles.get b = s.tiles.get b :=
  Bank.get_modify_ne _ _ h

/-- A planner status bit above MODE is not moved by a new mode. -/
theorem f_setMODE_ne (s : State) (a : Fin 96) (m : Nat) {y : Fld} (hr : y.reg = TILE_PLN_STAT a) (h : 3 ≤ y.lo) :
    (s.setF (TILE_PLN_STAT_MODE a) m).f y = s.f y :=
  f_setF_disj (x := TILE_PLN_STAT_MODE a) s m hr (.inl h)

/-- Nothing but tiles and registers differs. -/
def plnFrame (s t : State) : Prop := t = { s with tiles := t.tiles, regs := t.regs }

theorem plnFrame_trans {s t u : State} (h : s.plnFrame t) (h' : t.plnFrame u) : s.plnFrame u := by
  unfold plnFrame at *
  exact h'.trans (by rw [h])

theorem plnFrame_of_regs {s t : State} (h : t = { s with regs := t.regs }) : s.plnFrame t := by
  have ht : t.tiles = s.tiles := by rw [h]
  unfold plnFrame
  rw [ht]
  exact h

theorem modTile_plnFrame (s : State) (a : Fin 96) (g : Tile → Tile) : s.plnFrame (s.modTile a g) := rfl

theorem setF_plnFrame (s : State) (x : Fld) (v : Nat) : s.plnFrame (s.setF x v) := rfl

theorem setB_plnFrame (s : State) (x : Fld) (v : Bool) : s.plnFrame (s.setB x v) := rfl

theorem wr_plnFrame (s : State) (r : Nat) (v : Word) : s.plnFrame (s.wr r v) := rfl

theorem wr2_plnFrame (s : State) (w : Nat → Nat) (v : Nat) : s.plnFrame (s.wr2 w v) :=
  plnFrame_trans (wr_plnFrame s (w 0) _) (wr_plnFrame _ (w 1) _)

theorem plnFrame.tileFrame {s t : State} (h : s.plnFrame t) : s.tileFrame t := by
  have ht : t.time = s.time := by rw [h]
  unfold State.tileFrame
  rw [ht]
  exact h

theorem plnFrame.path {s t : State} (h : s.plnFrame t) : t.flt.path = s.flt.path := by rw [h]

theorem plnFrame.mono {s t : State} (h : s.plnFrame t) : t.time.mono = s.time.mono := by rw [h]

/-- A status bit that is set and told, after an operation of the planner. -/
theorem plnFrame.told {s t u : State} (h : s.plnFrame t)
    (h' : u = { t with time := { t.time with hits := u.time.hits }, flt := u.flt, regs := u.regs }) :
    u = { s with time := { s.time with hits := u.time.hits }, tiles := u.tiles, flt := u.flt, regs := u.regs } := by
  have ht : u.tiles = t.tiles := by rw [h']
  rw [ht]
  exact h'.trans (by rw [h])

theorem plnFrame.raisedOne {s t : State} (h : s.plnFrame t) (x : Fld) (m : FaultMsg) :
    s.raisedOne ((t.hit x).raise m) m.source m.kind m.cls :=
  raisedOne_raise s (t.hit x) m (by rw [hit_flt, h.path]) (by rw [hit_time, h.mono])

theorem hit_raise_frame (t : State) (x : Fld) (m : FaultMsg) : (t.hit x).raise m = { t with
    time := { t.time with hits := ((t.hit x).raise m).time.hits }, flt := ((t.hit x).raise m).flt, regs := ((t.hit x).raise m).regs } := rfl

-- ===== the slots shown (R189) =====

theorem showSlots_plnFrame (s : State) (a : Fin 96) : s.plnFrame (s.showSlots a) := plnFrame_of_regs rfl

theorem keeps_showSlots {s t : State} {l : List Nat} (a : Fin 96) (h : s.keeps t l) (h0 : TILE_PLN_STAT a ∈ l) (h1 : TILE_PLN_SEQ a ∈ l) :
    s.keeps (t.showSlots a) l :=
  keeps_wrN _ (keeps_setF (x := TILE_PLN_STAT_QUEUED a) _ (keeps_setB (x := TILE_PLN_STAT_HELD a) _ h h0) h0) h1

/-- Showing the slots writes HELD and QUEUED of the status alone. -/
theorem f_showSlots (s : State) (a : Fin 96) {y : Fld} (hr : y.reg = TILE_PLN_STAT a) (h : y.lo + y.width ≤ 11 ∨ 16 ≤ y.lo) :
    (s.showSlots a).f y = s.f y := by
  have hs : y.reg ≠ TILE_PLN_SEQ a := by rw [hr]; exact TILE_PLN_STAT_ne_SEQ a
  have hq : 12 + 4 ≤ y.lo ∨ y.lo + y.width ≤ 12 := by omega
  have hh : 11 + 1 ≤ y.lo ∨ y.lo + y.width ≤ 11 := by omega
  unfold showSlots
  dsimp only
  rw [f_wrN_ne _ _ hs, f_setF_disj (x := TILE_PLN_STAT_QUEUED a) (y := y) _ _ hr hq,
    f_setB_disj (x := TILE_PLN_STAT_HELD a) (y := y) _ _ hr hh]

theorem showSlots_held (s : State) (a : Fin 96) : (s.showSlots a).f (TILE_PLN_STAT_HELD a) = b2n (s.tiles.get a).held.isSome := by
  unfold showSlots
  dsimp only
  rw [f_wrN_ne _ _ (TILE_PLN_STAT_ne_SEQ a),
    f_setF_disj (x := TILE_PLN_STAT_QUEUED a) (y := TILE_PLN_STAT_HELD a) _ _ rfl (.inr (Nat.le_of_ble_eq_true rfl)),
    f_setB_same _ (TILE_PLN_STAT_HELD a) _ (Nat.le_of_ble_eq_true rfl) rfl]

theorem showSlots_queued (s : State) (a : Fin 96) :
    (s.showSlots a).f (TILE_PLN_STAT_QUEUED a) = (s.tiles.get a).queued.length % 16 := by
  unfold showSlots
  dsimp only
  rw [f_wrN_ne _ _ (TILE_PLN_STAT_ne_SEQ a), f_setF_same _ (TILE_PLN_STAT_QUEUED a) _ (Nat.le_of_ble_eq_true rfl)]
  rfl

theorem discardSlots_tile (s : State) (a : Fin 96) :
    (s.discardSlots a).tiles.get a = { s.tiles.get a with queued := [], held := none, go := none } := tile_modTile s a _

-- ===== a tile that holds no command =====

theorem toIdle_plnFrame (s : State) (a : Fin 96) : s.plnFrame (s.toIdle a) := by
  unfold toIdle
  refine plnFrame_trans ?_ (showSlots_plnFrame _ a)
  refine plnFrame_trans ?_ (setF_plnFrame _ _ _)
  exact modTile_plnFrame s a _

theorem toIdle_tile (s : State) (a : Fin 96) : (s.toIdle a).tiles.get a = { s.tiles.get a with
    active := none, complete := false, dest := none, atLim := false, plan := none, qstop := false, searching := false,
    ps := { (s.tiles.get a).ps with v := 0, a := 0 } } := tile_modTile s a _

theorem keeps_toIdle {s t : State} {l : List Nat} (a : Fin 96) (h : s.keeps t l) (h0 : TILE_PLN_STAT a ∈ l) (h1 : TILE_PLN_SEQ a ∈ l) :
    s.keeps (t.toIdle a) l :=
  keeps_showSlots a (keeps_setF (x := TILE_PLN_STAT_MODE a) pmIDLE (keeps_congr (u := t.modTile a _) h rfl) h0) h0 h1

theorem toIdle_mode (s : State) (a : Fin 96) : (s.toIdle a).f (TILE_PLN_STAT_MODE a) = pmIDLE := by
  unfold toIdle
  rw [f_showSlots (y := TILE_PLN_STAT_MODE a) _ a rfl (.inl (Nat.le_of_ble_eq_true rfl)),
    f_setF_same _ (TILE_PLN_STAT_MODE a) _ (Nat.le_of_ble_eq_true rfl)]
  rfl

/-- The status bits between MODE and the slots stay as a tile goes to IDLE. -/
theorem f_toIdle (s : State) (a : Fin 96) {y : Fld} (hr : y.reg = TILE_PLN_STAT a) (h0 : 3 ≤ y.lo) (h1 : y.lo + y.width ≤ 11) :
    (s.toIdle a).f y = s.f y := by
  unfold toIdle
  rw [f_showSlots _ a hr (.inl h1), f_setMODE_ne _ a _ hr h0]
  rfl

-- ===== a plan to rest (R201, R208) =====

theorem replan_frame (s : State) (a : Fin 96) : s.replan a = { s with tiles := (s.replan a).tiles } := by
  unfold replan
  dsimp only
  split
  · rfl
  · rfl

theorem replan_regs (s : State) (a : Fin 96) : (s.replan a).regs = s.regs := by rw [replan_frame]

theorem f_replan (s : State) (a : Fin 96) (y : Fld) : (s.replan a).f y = s.f y := by
  unfold f rd
  rw [replan_regs]

theorem replan_plnFrame (s : State) (a : Fin 96) : s.plnFrame (s.replan a) := by
  unfold plnFrame
  rw [replan_frame s a]

/-- A replan gives the tile a plan and nothing else. -/
theorem replan_tile (s : State) (a : Fin 96) :
    (s.replan a).tiles.get a = { s.tiles.get a with plan := ((s.replan a).tiles.get a).plan } := by
  unfold replan
  dsimp only
  split
  · rfl
  · rw [tile_modTile]

/-- What a plan to rest replans: the tile without its command, shown as STOPPING. -/
def resting (s : State) (a : Fin 96) (g : Option Segment) : State :=
  ((s.modTile a (fun t => { t with active := g, complete := false, dest := none, atLim := false, searching := false })).setF
    (TILE_PLN_STAT_MODE a) pmSTOPPING).setF (TILE_PLN_STAT_AT_LIMIT a) 0

theorem planRest_eq (s : State) (a : Fin 96) (g : Option Segment) : s.planRest a g = ((s.resting a g).replan a).showSlots a := rfl

theorem planRest_plnFrame (s : State) (a : Fin 96) (g : Option Segment) : s.plnFrame (s.planRest a g) := by
  have h : s.plnFrame (s.resting a g) := plnFrame_trans
    (plnFrame_trans (modTile_plnFrame s a _) (setF_plnFrame _ (TILE_PLN_STAT_MODE a) pmSTOPPING)) (setF_plnFrame _ (TILE_PLN_STAT_AT_LIMIT a) 0)
  exact plnFrame_trans (plnFrame_trans h (replan_plnFrame _ a)) (showSlots_plnFrame _ a)

theorem planRest_tile (s : State) (a : Fin 96) (g : Option Segment) : (s.planRest a g).tiles.get a = { s.tiles.get a with
    active := g, complete := false, dest := none, atLim := false, searching := false, plan := ((s.planRest a g).tiles.get a).plan } := by
  have h := replan_tile (s.resting a g) a
  have ht : (s.resting a g).tiles.get a = { s.tiles.get a with
    active := g, complete := false, dest := none, atLim := false, searching := false } := tile_modTile s a _
  rw [ht] at h
  exact h

theorem keeps_planRest {s t : State} {l : List Nat} (a : Fin 96) (g : Option Segment) (h : s.keeps t l)
    (h0 : TILE_PLN_STAT a ∈ l) (h1 : TILE_PLN_SEQ a ∈ l) : s.keeps (t.planRest a g) l := by
  rw [planRest_eq]
  refine keeps_showSlots a (keeps_congr (t := t.resting a g) ?_ (replan_regs _ a)) h0 h1
  exact keeps_setF (x := TILE_PLN_STAT_AT_LIMIT a) 0
    (keeps_setF (x := TILE_PLN_STAT_MODE a) pmSTOPPING (keeps_congr (u := t.modTile a _) h rfl) h0) h0

theorem planRest_mode (s : State) (a : Fin 96) (g : Option Segment) : (s.planRest a g).f (TILE_PLN_STAT_MODE a) = pmSTOPPING := by
  rw [planRest_eq, f_showSlots (y := TILE_PLN_STAT_MODE a) _ a rfl (.inl (Nat.le_of_ble_eq_true rfl)), f_replan]
  unfold resting
  rw [f_setF_disj (x := TILE_PLN_STAT_AT_LIMIT a) (y := TILE_PLN_STAT_MODE a) _ _ rfl (.inr (Nat.le_of_ble_eq_true rfl)),
    f_setF_same _ (TILE_PLN_STAT_MODE a) _ (Nat.le_of_ble_eq_true rfl)]
  rfl

-- ===== completion (R189) =====

theorem execSegmentComplete_done {s : State} {a : Fin 96} (h : s.atTick = true) (hd : s.segDone a = true) :
    exec (.segmentComplete a) s = .next (s.completeSeg a) := congrArg Host.Outcome.next (if_pos ⟨h, hd⟩)

theorem startQueued_nil (s : State) (a : Fin 96) : s.startQueued a [] = s := rfl

/-- A POS segment with nothing queued completes into IDLE. -/
theorem completeSeg_pos {s : State} {a : Fin 96} {g : Segment} (hg : (s.tiles.get a).active = some g) (hk : g.kind = kPOS)
    (hl : (s.tiles.get a).atLim = false) (hq : (s.tiles.get a).queued = []) :
    s.completeSeg a = (s.hit (TILE_PLN_STAT_DONE a)).toIdle a := by
  have hqueue : (((s.hit (TILE_PLN_STAT_DONE a)).toIdle a).tiles.get a).queued = [] := by
    rw [toIdle_tile]
    exact hq
  unfold completeSeg
  simp [hg, hk, hl, hqueue, startQueued_nil, kPOS, kVEL, kFOLLOW]

/-- A VEL segment away from the limits that still moves completes and holds. -/
theorem completeSeg_vel {s : State} {a : Fin 96} {g : Segment} {pl : Plan} (hg : (s.tiles.get a).active = some g) (hk : g.kind = kVEL)
    (hl : (s.tiles.get a).atLim = false) (hp : (s.tiles.get a).plan = some pl) (he : pl.endP = none) (hv : (s.tiles.get a).ps.v ≠ 0)
    (hq : (s.tiles.get a).queued = []) :
    s.completeSeg a = (s.hit (TILE_PLN_STAT_DONE a)).modTile a (fun t => { t with complete := true }) := by
  have hqueue : (((s.hit (TILE_PLN_STAT_DONE a)).modTile a (fun t => { t with complete := true })).tiles.get a).queued = [] := by
    rw [tile_modTile]
    exact hq
  unfold completeSeg
  simp only [hg, hk, hl, hp, he, hv, Option.isSome_none, Bool.and_false, Bool.or_false, Bool.false_eq_true, if_false, Bool.not_false,
    ne_eq, not_false_eq_true, and_self, or_true, if_true, hqueue, startQueued_nil]

theorem execSegmentComplete_not_done {s : State} {a : Fin 96} (h : s.atTick = false ∨ s.segDone a = false) :
    exec (.segmentComplete a) s = .next s := by
  refine congrArg Host.Outcome.next (if_neg ?_)
  rintro ⟨h1, h2⟩
  obtain h | h := h
  · rw [h] at h1; cases h1
  · rw [h] at h2; cases h2

-- ===== limit and gear writes (R185, R206) =====

/-- A limit word waits for the latch. -/
def limitWaits (s : State) (a : Fin 96) (ws : List (Nat × Word)) : State :=
  s.modTile a (fun t => { t with limPend := t.limPend ++ ws.map (fun w => (s.time.mono, w)) })

/-- A one-word limit write is refused above its ceiling or at 0, and waits otherwise. -/
theorem execPlannerLimitWrite_one {s : State} {a : Fin 96} {w : Fin 5} {v : Word} {c r : Nat} (ho : s.tileOpen a = true)
    (h : (w = 2 ∧ c = (s.ceilings a).2.1 ∧ r = TILE_PLN_AMAX a) ∨ (w = 3 ∧ c = (s.ceilings a).2.2.1 ∧ r = TILE_PLN_DMAX a) ∨
      (w = 4 ∧ c = (s.ceilings a).2.2.2 ∧ r = TILE_PLN_JMAX a)) :
    exec (.plannerLimitWrite a w v) s =
      .next (if c < v.toNat ∨ v = 0 then s.hit (TILE_PLN_STAT_LIM_REFUSED a) else s.limitWaits a [(r, v)]) := by
  obtain ⟨rfl, rfl, rfl⟩ | ⟨rfl, rfl, rfl⟩ | ⟨rfl, rfl, rfl⟩ := h <;>
    exact congrArg Host.Outcome.next (if_neg (by simp [ho]))

theorem execPlannerLimitWrite_low {s : State} {a : Fin 96} (v : Word) (ho : s.tileOpen a = true) :
    exec (.plannerLimitWrite a 0 v) s = .next (s.holdLow (TILE_PLN_VMAX a 0) v) :=
  congrArg Host.Outcome.next (if_neg (by simp [ho]))

theorem execPlannerLimitWrite_high {s : State} {a : Fin 96} (v : Word) (ho : s.tileOpen a = true) :
    exec (.plannerLimitWrite a 1 v) s = .next ((if (s.ceilings a).1 < (s.lowWord (TILE_PLN_VMAX a 0)).toNat + 4294967296 * v.toNat
      then s.hit (TILE_PLN_STAT_LIM_REFUSED a)
      else s.limitWaits a [(TILE_PLN_VMAX a 0, s.lowWord (TILE_PLN_VMAX a 0)), (TILE_PLN_VMAX a 1, v)]).dropLow (TILE_PLN_VMAX a 0)) :=
  congrArg Host.Outcome.next (if_neg (by simp [ho]))

theorem hit_LIM_REFUSED (s : State) (a : Fin 96) : (s.hit (TILE_PLN_STAT_LIM_REFUSED a)).f (TILE_PLN_STAT_LIM_REFUSED a) = 1 :=
  f_hit_same s (TILE_PLN_STAT_LIM_REFUSED a) (Nat.le_of_ble_eq_true rfl) rfl

theorem keeps_hit_PLN_STAT (s : State) (a : Fin 96) {x : Fld} (hx : x.reg = TILE_PLN_STAT a) : s.keeps (s.hit x) [TILE_PLN_STAT a] :=
  keeps_hit (x := x) (keeps_refl s _) (by rw [hx]; exact .head _)

/-- The words of a gear value. -/
def gearWords (s : State) (r : Nat → Nat) (v : Word) : List (Nat × Word) := [(r 0, s.lowWord (r 0)), (r 1, v)]

def gearWaits (s : State) (a : Fin 96) (ws : List (Nat × Word)) : State :=
  s.modTile a (fun t => { t with flw := { t.flw with gear := t.flw.gear ++ ws.map (fun x => (s.time.mono, x)) } })

/-- The registers of RATIO, or of OFS. -/
theorem gearReg_eq {a : Fin 96} {o : Bool} {r : Nat → Nat} (hr : r = (if o then TILE_FLW_OFS a else TILE_FLW_RATIO a)) (w : Nat) :
    (if o then TILE_FLW_OFS a w else TILE_FLW_RATIO a w) = r w := by
  subst hr
  cases o <;> rfl

theorem execFollowGearWrite_low {s : State} {a : Fin 96} {o : Bool} {r : Nat → Nat} (v : Word) (ho : s.tileOpen a = true)
    (hr : r = (if o then TILE_FLW_OFS a else TILE_FLW_RATIO a)) : exec (.followGearWrite a o 0 v) s = .next (s.holdLow (r 0) v) := by
  rw [← gearReg_eq hr 0]
  exact congrArg Host.Outcome.next (if_neg (by simp [ho]))

theorem execFollowGearWrite_high {s : State} {a : Fin 96} {o : Bool} {r : Nat → Nat} (v : Word) (ho : s.tileOpen a = true)
    (hr : r = (if o then TILE_FLW_OFS a else TILE_FLW_RATIO a)) : exec (.followGearWrite a o 1 v) s =
      .next ((if s.pmode a = pmSYNC ∨ s.pmode a = pmLOCKED then s.gearWaits a (s.gearWords r v)
        else (s.wr (r 0) (s.lowWord (r 0))).wr (r 1) v).dropLow (r 0)) := by
  subst hr
  cases o <;> exact congrArg Host.Outcome.next (if_neg (by simp [ho]))

theorem gearReg_ne {a : Fin 96} {o : Bool} {r : Nat → Nat} (hr : r = (if o then TILE_FLW_OFS a else TILE_FLW_RATIO a)) : r 0 ≠ r 1 := by
  subst hr
  cases o
  · simp [TILE_FLW_RATIO]
  · simp [TILE_FLW_OFS]

-- ===== a search without an index (R199) =====

/-- The search has run its distance and the port still waits for its index. -/
def homeFailed (s : State) (a : Fin 96) : State :=
  ((s.toIdle a).hit (TILE_PLN_STAT_HOME_FAIL a)).raise (mkFault a 0x23 cMINOR 0 [.inst a])

theorem homeFailed_tile (s : State) (a : Fin 96) : (s.homeFailed a).tiles.get a = (s.toIdle a).tiles.get a := by
  unfold homeFailed
  rw [raise_tiles, hit_tiles]

theorem homeFailed_frame (s : State) (a : Fin 96) : s.homeFailed a = { s with
    time := { s.time with hits := (s.homeFailed a).time.hits }, tiles := (s.homeFailed a).tiles, flt := (s.homeFailed a).flt,
    regs := (s.homeFailed a).regs } := by
  unfold homeFailed
  exact (s.toIdle_plnFrame a).told (hit_raise_frame _ _ _)

theorem homeFailed_raisedOne (s : State) (a : Fin 96) : s.raisedOne (s.homeFailed a) a 0x23 cMINOR := by
  unfold homeFailed
  exact (s.toIdle_plnFrame a).raisedOne _ _

theorem homeFailed_keeps (s : State) (a : Fin 96) : s.keeps (s.homeFailed a) [TILE_PLN_STAT a, TILE_PLN_SEQ a] := by
  unfold homeFailed
  exact keeps_raise _ (keeps_hit (x := TILE_PLN_STAT_HOME_FAIL a) (keeps_toIdle a (s.keeps_refl _) (.head _) (.tail _ (.head _))) (.head _))

theorem homeFailed_shown (s : State) (a : Fin 96) :
    (s.homeFailed a).f (TILE_PLN_STAT_HOME_FAIL a) = 1 ∧ (s.homeFailed a).f (TILE_PLN_STAT_MODE a) = pmIDLE := by
  unfold homeFailed
  rw [raise_f, raise_f]
  exact ⟨f_hit_same _ (TILE_PLN_STAT_HOME_FAIL a) (Nat.le_of_ble_eq_true rfl) rfl,
    (f_hit_disj (x := TILE_PLN_STAT_HOME_FAIL a) (y := TILE_PLN_STAT_MODE a) _ rfl (.inr (Nat.le_of_ble_eq_true rfl))).trans (s.toIdle_mode a)⟩

theorem execPlnHomeFail_ran {s : State} {a : Fin 96} {pl : Plan} (ht : s.atTick = true) (hs : (s.tiles.get a).searching = true)
    (hp : (s.tiles.get a).plan = some pl) (hr : pl.reached = true)
    (ha : s.flag (FBP_STAT_REF_ARMED (s.f (TILE_FB_SRC_PORT a))) = true) (hq : (s.tiles.get a).queued = []) :
    exec (.plnHomeFail a) s = .next (s.homeFailed a) := by
  have hqueue : ((s.homeFailed a).tiles.get a).queued = [] := by
    rw [homeFailed_tile, toIdle_tile]
    exact hq
  have h : exec (.plnHomeFail a) s = .next ((s.homeFailed a).startQueued a ((s.homeFailed a).tiles.get a).queued) :=
    congrArg Host.Outcome.next (if_pos ⟨ht, hs, by rw [hp]; exact hr, ha⟩)
  rw [h, hqueue, startQueued_nil]

theorem execPlnHomeFail_not_ran {s : State} {a : Fin 96} (h : s.atTick = false ∨ (s.tiles.get a).searching = false ∨
    (∀ pl, (s.tiles.get a).plan = some pl → pl.reached = false) ∨ s.flag (FBP_STAT_REF_ARMED (s.f (TILE_FB_SRC_PORT a))) = false) :
    exec (.plnHomeFail a) s = .next s := by
  refine congrArg Host.Outcome.next (if_neg ?_)
  rintro ⟨h1, h2, h3, h4⟩
  obtain h | h | h | h := h
  · rw [h] at h1; cases h1
  · rw [h] at h2; cases h2
  · cases hp : (s.tiles.get a).plan with
    | none => rw [hp] at h3; cases h3
    | some pl =>
      rw [hp] at h3
      exact Bool.false_ne_true ((h pl hp).symm.trans h3)
  · rw [h] at h4; cases h4

-- ===== the commanded state put out (R184) =====

/-- The registers that show the commanded state. -/
def outRegs (a : Fin 96) : List Nat :=
  [TILE_PLN_STAT a, TILE_PLN_POS a 0, TILE_PLN_POS a 1, TILE_PLN_VEL a 0, TILE_PLN_VEL a 1, TILE_PLN_ACC a]

theorem putOut_plnFrame (s : State) (a : Fin 96) : s.plnFrame (s.putOut a) := by
  unfold putOut
  dsimp only
  refine plnFrame_trans ?_ (setB_plnFrame _ _ _)
  refine plnFrame_trans ?_ (wr_plnFrame _ _ _)
  refine plnFrame_trans ?_ (wr2_plnFrame _ _ _)
  refine plnFrame_trans ?_ (wr2_plnFrame _ _ _)
  exact modTile_plnFrame s a _

theorem putOut_tile (s : State) (a : Fin 96) : (s.putOut a).tiles.get a =
    { s.tiles.get a with cv := ((s.putOut a).tiles.get a).cv, ca := ((s.putOut a).tiles.get a).ca } := by
  have h : (s.putOut a).tiles.get a = _ := Bank.get_modify_same s.tiles a _
  rw [h]

theorem keeps_putOut {s t : State} (a : Fin 96) (h : s.keeps t (outRegs a)) : s.keeps (t.putOut a) (outRegs a) := by
  unfold putOut
  dsimp only
  refine keeps_setB (x := TILE_PLN_STAT_INHERITED a) _ (keeps_wr _ (keeps_wr2 _ (keeps_wr2 _ (keeps_congr (t := t) h rfl) ?_ ?_) ?_ ?_) ?_) ?_ <;>
    simp [outRegs, TILE_PLN_STAT_INHERITED]

/-- A blend that has run leaves the commanded state at the lead. -/
def onLead (s : State) (a : Fin 96) : State :=
  (s.modTile a (fun t => { t with flw := { t.flw with blend := none }, ps := { t.ps with p := t.flw.g, v := t.flw.vg } })).putOut a

theorem onLead_tile (s : State) (a : Fin 96) : (s.onLead a).tiles.get a = { s.tiles.get a with
    flw := { (s.tiles.get a).flw with blend := none }, ps := { (s.tiles.get a).ps with p := (s.tiles.get a).flw.g, v := (s.tiles.get a).flw.vg },
    cv := ((s.onLead a).tiles.get a).cv, ca := ((s.onLead a).tiles.get a).ca } := by
  have h := putOut_tile (s.modTile a (fun t => { t with flw := { t.flw with blend := none }, ps := { t.ps with p := t.flw.g, v := t.flw.vg } })) a
  rw [tile_modTile] at h
  exact h

-- ===== a lost lead (R208) =====

/-- The unit blends no longer. -/
def unblended (s : State) (a : Fin 96) : State := s.modTile a (fun t => { t with flw := { t.flw with blend := none } })

/-- The unit disengages and plans to rest. -/
def followLost (s : State) (a : Fin 96) : State :=
  (((s.unblended a).planRest a none).hit (TILE_PLN_STAT_FOLLOW_LOST a)).raise
    (mkFault a 0x20 cMAJOR 1 [.inst a, altCode 0x20 (s.f (TILE_FLW_CFG_INPUT a) + 32 * s.f (TILE_FLW_CFG_SRC a))] (s.scopeOfAxis a))

theorem followLost_tile (s : State) (a : Fin 96) : (s.followLost a).tiles.get a = ((s.unblended a).planRest a none).tiles.get a := by
  unfold followLost
  rw [raise_tiles, hit_tiles]

theorem unblended_plnFrame (s : State) (a : Fin 96) : s.plnFrame ((s.unblended a).planRest a none) :=
  plnFrame_trans (modTile_plnFrame s a _) ((s.unblended a).planRest_plnFrame a none)

theorem followLost_frame (s : State) (a : Fin 96) : s.followLost a = { s with
    time := { s.time with hits := (s.followLost a).time.hits }, tiles := (s.followLost a).tiles, flt := (s.followLost a).flt,
    regs := (s.followLost a).regs } := by
  unfold followLost
  exact (s.unblended_plnFrame a).told (hit_raise_frame _ _ _)

theorem followLost_raisedOne (s : State) (a : Fin 96) : s.raisedOne (s.followLost a) a 0x20 cMAJOR := by
  unfold followLost
  exact (s.unblended_plnFrame a).raisedOne _ _

theorem followLost_keeps (s : State) (a : Fin 96) : s.keeps (s.followLost a) [TILE_PLN_STAT a, TILE_PLN_SEQ a] := by
  unfold followLost
  refine keeps_raise _ (keeps_hit (x := TILE_PLN_STAT_FOLLOW_LOST a) ?_ (.head _))
  exact keeps_planRest a none (keeps_congr (u := s.unblended a) (s.keeps_refl _) rfl) (.head _) (.tail _ (.head _))

theorem followLost_shown (s : State) (a : Fin 96) :
    (s.followLost a).f (TILE_PLN_STAT_FOLLOW_LOST a) = 1 ∧ (s.followLost a).f (TILE_PLN_STAT_MODE a) = pmSTOPPING := by
  unfold followLost
  rw [raise_f, raise_f]
  exact ⟨f_hit_same _ (TILE_PLN_STAT_FOLLOW_LOST a) (Nat.le_of_ble_eq_true rfl) rfl,
    (f_hit_disj (x := TILE_PLN_STAT_FOLLOW_LOST a) (y := TILE_PLN_STAT_MODE a) _ rfl (.inr (Nat.le_of_ble_eq_true rfl))).trans
      (planRest_mode _ a none)⟩

theorem execFollowBlendEnd_ran {s : State} {a : Fin 96} {b : FlwBlend} (ht : s.atTick = true) (hb : (s.tiles.get a).flw.blend = some b)
    (hk : s.f (TILE_FLW_CFG_BLEND a) ≤ b.k) : exec (.followBlendEnd a) s = .next (s.onLead a) := by
  have h : execFollowBlendEnd a s = .next (s.onLead a) := by
    unfold execFollowBlendEnd
    rw [hb]
    exact congrArg Host.Outcome.next (if_pos ⟨ht, hk⟩)
  exact h

theorem execFollowBlendEnd_not_ran {s : State} {a : Fin 96}
    (h : s.atTick = false ∨ (∀ b, (s.tiles.get a).flw.blend = some b → b.k < s.f (TILE_FLW_CFG_BLEND a))) :
    exec (.followBlendEnd a) s = .next s := by
  have h : execFollowBlendEnd a s = .next s := by
    unfold execFollowBlendEnd
    cases hb : (s.tiles.get a).flw.blend with
    | none => rfl
    | some b =>
      refine congrArg Host.Outcome.next (if_neg ?_)
      rintro ⟨h1, h2⟩
      obtain h | h := h
      · rw [h] at h1; cases h1
      · exact absurd (h b hb) (Nat.not_lt.mpr h2)
  exact h

theorem execPlnFollowLost_lost {s : State} {a : Fin 96} (ht : s.atTick = true) (hm : s.pmode a = pmSYNC ∨ s.pmode a = pmLOCKED)
    (hl : s.leadLost a = true) : exec (.plnFollowLost a) s = .next (s.followLost a) := congrArg Host.Outcome.next (if_pos ⟨ht, hm, hl⟩)

theorem execPlnFollowLost_not_lost {s : State} {a : Fin 96}
    (h : s.atTick = false ∨ (s.pmode a ≠ pmSYNC ∧ s.pmode a ≠ pmLOCKED) ∨ s.leadLost a = false) :
    exec (.plnFollowLost a) s = .next s := by
  refine congrArg Host.Outcome.next (if_neg ?_)
  rintro ⟨h1, h2, h3⟩
  obtain h | ⟨h, h'⟩ | h := h
  · rw [h] at h1; cases h1
  · exact h2.elim h h'
  · rw [h] at h3; cases h3

end State

/-- Settles O23: a completed segment and a failed search go to IDLE (State.toIdle), a lost lead to rest (State.planRest), and the
writes wait in the tile or are refused. -/
theorem plannerRuns : Obligations.PlannerRuns := by
  unfold Obligations.PlannerRuns
  refine ⟨?_, ?_, ?_, ?_, ?_, ?_, ?_, ?_, ?_, ?_, ?_, ?_, ?_, ?_, ?_, ?_, ?_, ?_, ?_⟩
  case refine_1 =>
    intro s a g ht hd hg hk hl hq
    have hti := State.toIdle_tile (s.hit (TILE_PLN_STAT_DONE a)) a
    refine ⟨_, (State.execSegmentComplete_done ht hd).trans (congrArg _ (State.completeSeg_pos hg hk hl hq)), ?_,
      State.toIdle_mode _ a, by rw [hti], by rw [hti],
      State.keeps_toIdle a (State.keeps_hit (x := TILE_PLN_STAT_DONE a) (s.keeps_refl _) (.head _)) (.head _) (.tail _ (.head _)),
      State.tileFrame_trans (State.hit_tileFrame s (TILE_PLN_STAT_DONE a)) (State.toIdle_plnFrame _ a).tileFrame⟩
    exact (State.f_toIdle _ a (y := TILE_PLN_STAT_DONE a) rfl (Nat.le_of_ble_eq_true rfl) (Nat.le_of_ble_eq_true rfl)).trans
      (State.f_hit_same s (TILE_PLN_STAT_DONE a) (Nat.le_of_ble_eq_true rfl) rfl)
  case refine_2 =>
    intro s a g pl ht hd hg hk hl hp he hv hq
    have hti := State.tile_modTile (s.hit (TILE_PLN_STAT_DONE a)) a (fun t => { t with complete := true })
    refine ⟨_, (State.execSegmentComplete_done ht hd).trans (congrArg _ (State.completeSeg_vel hg hk hl hp he hv hq)),
      State.f_hit_same s (TILE_PLN_STAT_DONE a) (Nat.le_of_ble_eq_true rfl) rfl, by rw [hti], by rw [hti]; exact hg, by rw [hti]; exact hp,
      fun b hb => State.tile_modTile_ne _ _ hb, State.keeps_hit_PLN_STAT s a rfl, rfl⟩
  case refine_3 =>
    intro s a ht hd
    exact State.execSegmentComplete_done ht hd
  case refine_4 =>
    intro s a h
    exact State.execSegmentComplete_not_done h
  case refine_5 =>
    intro s a w o k v h
    exact ⟨congrArg Host.Outcome.next (if_neg (by simp [h])), congrArg Host.Outcome.next (if_neg (by simp [h])), congrArg Host.Outcome.next (if_neg (by simp [h])),
      congrArg Host.Outcome.next (if_pos (by simp [h])), congrArg Host.Outcome.next (if_pos (by simp [h]))⟩
  case refine_6 =>
    intro s a h
    exact ⟨_, congrArg Host.Outcome.next (if_pos h), by rw [State.tile_modTile], fun b hb => State.tile_modTile_ne _ _ hb, rfl⟩
  case refine_7 =>
    intro s a h
    exact ⟨_, congrArg Host.Outcome.next (if_pos h), by rw [State.tile_modTile], fun b hb => State.tile_modTile_ne _ _ hb, rfl⟩
  case refine_8 =>
    intro s a h
    have hti := s.discardSlots_tile a
    refine ⟨_, congrArg Host.Outcome.next (if_pos h), by rw [hti], by rw [hti], by rw [hti], ?_, ?_, fun b hb => State.tile_modTile_ne _ _ hb,
      State.keeps_showSlots a (State.keeps_congr (s.keeps_refl _) rfl) (.head _) (.tail _ (.head _)),
      State.plnFrame_trans (State.modTile_plnFrame s a _) (State.showSlots_plnFrame _ a)⟩
    · exact (State.showSlots_held _ a).trans (by rw [State.tile_modTile]; rfl)
    · exact (State.showSlots_queued _ a).trans (by rw [State.tile_modTile]; rfl)
  case refine_9 =>
    intro s a w v c r ho h
    rw [State.execPlannerLimitWrite_one ho h]
    refine ⟨fun hc => ⟨_, congrArg Host.Outcome.next (if_pos hc), s.hit_LIM_REFUSED a, s.keeps_hit_PLN_STAT a rfl, rfl⟩, fun hc hv => ?_⟩
    exact ⟨_, congrArg Host.Outcome.next (if_neg (not_or.mpr ⟨Nat.not_lt.mpr hc, hv⟩)), by rw [State.limitWaits, State.tile_modTile]; rfl,
      fun b hb => State.tile_modTile_ne _ _ hb, rfl⟩
  case refine_10 =>
    intro s a v ho
    exact ⟨_, State.execPlannerLimitWrite_low v ho, s.lowWord_holdLow_same _ v, rfl⟩
  case refine_11 =>
    intro s a v ho hc
    exact ⟨(s.hit (TILE_PLN_STAT_LIM_REFUSED a)).dropLow (TILE_PLN_VMAX a 0), (State.execPlannerLimitWrite_high v ho).trans (by rw [if_pos hc]),
      s.hit_LIM_REFUSED a, s.keeps_hit_PLN_STAT a rfl, rfl⟩
  case refine_12 =>
    intro s a v ho hc
    exact ⟨(s.limitWaits a [(TILE_PLN_VMAX a 0, s.lowWord (TILE_PLN_VMAX a 0)), (TILE_PLN_VMAX a 1, v)]).dropLow (TILE_PLN_VMAX a 0),
      (State.execPlannerLimitWrite_high v ho).trans (by rw [if_neg (Nat.not_lt.mpr hc)]),
      by rw [State.dropLow_tiles, State.limitWaits, State.tile_modTile]; rfl, fun b hb => State.tile_modTile_ne _ _ hb, rfl⟩
  case refine_13 =>
    intro s a pl ht hs hp hr ha hq
    obtain ⟨h1, h2⟩ := s.homeFailed_shown a
    exact ⟨_, State.execPlnHomeFail_ran ht hs hp hr ha hq, h1, h2, s.homeFailed_raisedOne a, by rw [State.homeFailed_tile, State.toIdle_tile],
      s.homeFailed_keeps a, s.homeFailed_frame a⟩
  case refine_14 =>
    intro s a h
    exact State.execPlnHomeFail_not_ran h
  case refine_15 =>
    intro s a b ht hb hk
    have hti := State.onLead_tile s a
    exact ⟨_, State.execFollowBlendEnd_ran ht hb hk, by rw [hti], by rw [hti], by rw [hti],
      State.keeps_putOut a (State.keeps_congr (s.keeps_refl _) rfl), State.plnFrame_trans (State.modTile_plnFrame s a _) (State.putOut_plnFrame _ a)⟩
  case refine_16 =>
    intro s a h
    exact State.execFollowBlendEnd_not_ran h
  case refine_17 =>
    intro s a o v r ho hr
    refine ⟨⟨_, State.execFollowGearWrite_low v ho hr, s.lowWord_holdLow_same _ v, rfl⟩, fun h1 h2 => ?_, fun h => ?_⟩
    · refine ⟨((s.wr (r 0) (s.lowWord (r 0))).wr (r 1) v).dropLow (r 0),
        (State.execFollowGearWrite_high v ho hr).trans (by rw [if_neg (not_or.mpr ⟨h1, h2⟩)]), ?_, ?_, ?_, rfl⟩
      · exact State.rd_wr_same _ (r 1) v
      · exact (State.rd_wr_ne _ v (State.gearReg_ne hr)).trans (State.rd_wr_same s (r 0) _)
      · exact State.keeps_wr _ (State.keeps_wr _ (s.keeps_refl _) (.head _)) (.tail _ (.head _))
    · exact ⟨(s.gearWaits a (s.gearWords r v)).dropLow (r 0), (State.execFollowGearWrite_high v ho hr).trans (by rw [if_pos h]),
        by rw [State.dropLow_tiles, State.gearWaits, State.tile_modTile]; rfl, fun b hb => State.tile_modTile_ne _ _ hb, rfl⟩
  case refine_18 =>
    intro s a ht hm hl
    have hti := State.planRest_tile (s.unblended a) a none
    obtain ⟨h1, h2⟩ := s.followLost_shown a
    exact ⟨_, State.execPlnFollowLost_lost ht hm hl, h1, h2, by rw [State.followLost_tile, hti],
      by rw [State.followLost_tile, hti, State.unblended, State.tile_modTile], s.followLost_raisedOne a, s.followLost_keeps a,
      s.followLost_frame a⟩
  case refine_19 =>
    intro s a h
    exact State.execPlnFollowLost_not_lost h

end Sys2Proof.Machine

/-! SUPPORT. O52: a loop tick at which a limit word of a tile waits for the register of an override. -/

namespace Sys2Proof.Machine

/-- An image with axis 0 runs in TAKEOVER at a loop tick off the millisecond frames; a limit word of tile 0, written before this tick,
waits for the register CL_PSO_ACT of cluster 0. The reset cap of 0 binds. -/
def strayLimit : State :=
  let s : State := { State.reset with
    cfg := { State.reset.cfg with run := some ⟨0, 0, [], 0, { axes := [0] }⟩ }
    time := { State.reset.time with mono := 1, now := 2 * Config.gridUnits } }
  (s.setF SYS_MODE_MODE mTAKEOVER).modTile 0 (fun t => { t with limPend := [(0, CL_PSO_ACT 0, 0#32)] })

/-- The state at the boundary, before the tick's activities. -/
def strayBoundary : State := ((strayLimit.runTo 1).takeStep.swapFirst).millisecond

/-- The state after the tick. -/
def strayTicked : State :=
  { strayBoundary with cfg := { strayBoundary.cfg with tickAt := some strayBoundary.time.mono } }.loopTick [] false

theorem strayBoundary_due : strayBoundary.atTick = true ∧ strayBoundary.cfg.tickAt ≠ some strayBoundary.time.mono := by decide +kernel

theorem strayBoundary_probs : strayBoundary.st.probs = [] := by decide +kernel

theorem strayBoundary_binds : strayBoundary.f (CL_PSO_CAP_S_CAP 0) < min (strayBoundary.f (CL_PSO_SET 0)) 65536 := by decide +kernel

theorem execLoopTick_stray : exec (.loopTick [] false 1) strayLimit = .next strayTicked :=
  congrArg Host.Outcome.next (if_pos strayBoundary_due)

/-- The latch of tile 0 comes after the overrides have shown whether their caps bind, and writes the waiting word over CAPPED. -/
theorem strayTicked_capped : strayTicked.f (CL_PSO_ACT_CAPPED 0) = 0 := by decide +kernel

/-- Refutes O52: the words that wait in a tile for its latch carry the address they go to. In a state where such a word names CL_PSO_ACT of
cluster 0, the planner's latch of the same tick writes 0 over CAPPED after the override has set it, though the cap binds. -/
theorem not_gridRuns : ¬ Obligations.GridRuns := by
  unfold Obligations.GridRuns
  intro h
  obtain ⟨-, -, -, -, htick, -⟩ := h
  obtain ⟨t, ht, -, -, -, -, -, hcapped, -⟩ := htick strayLimit strayBoundary [] false 1 rfl strayBoundary_due
    (by rw [strayBoundary_probs]; exact fun _ hp => absurd hp List.not_mem_nil)
  have hte : t = strayTicked := Host.Outcome.next.inj (ht.symm.trans execLoopTick_stray)
  have hc : strayTicked.f (CL_PSO_ACT_CAPPED 0) =
      b2n (decide (strayBoundary.f (CL_PSO_CAP_S_CAP 0) < min (strayBoundary.f (CL_PSO_SET 0)) 65536)) := hte ▸ hcapped 0
  rw [strayTicked_capped, decide_eq_true strayBoundary_binds] at hc
  exact absurd hc (by decide)

end Sys2Proof.Machine

/-! SUPPORT. O37: what leaves the rings and their registers alone, up to a swap that is abandoned (R64). -/

namespace Sys2Proof.Machine

namespace State

/-- Neither a ring's state nor a register of the rings' windows differs. -/
def ringsKept (s t : State) : Prop := t.rings = s.rings ∧ ∀ a, 0x90000 ≤ a → a < 0xB0000 → t.rd a = s.rd a

theorem ringsKept_refl (s : State) : s.ringsKept s := ⟨rfl, fun _ _ _ => rfl⟩

theorem ringsKept_trans {s t u : State} (h : s.ringsKept t) (h' : t.ringsKept u) : s.ringsKept u :=
  ⟨h'.1.trans h.1, fun a h0 h1 => (h'.2 a h0 h1).trans (h.2 a h0 h1)⟩

theorem ringsKept_of_eq {s t : State} (hf : t.rings = s.rings) (hr : t.regs = s.regs) : s.ringsKept t :=
  ⟨hf, fun a _ _ => by unfold rd; rw [hr]⟩

theorem ringsKept_ite {s x y : State} {c : Prop} [Decidable c] (hx : s.ringsKept x) (hy : s.ringsKept y) : s.ringsKept (if c then x else y) := by
  split
  · exact hx
  · exact hy

/-- A write outside the rings' windows keeps them. -/
theorem ringsKept_wr {s t : State} (a : Nat) (v : Word) (h : s.ringsKept t) (ha : a < 0x90000 ∨ 0xB0000 ≤ a) : s.ringsKept (t.wr a v) :=
  ⟨h.1, fun b h0 h1 => (rd_wr_ne t v (by omega)).trans (h.2 b h0 h1)⟩

theorem setF_ringsKept (s : State) (x : Fld) (v : Nat) (ha : x.reg < 0x90000 ∨ 0xB0000 ≤ x.reg) : s.ringsKept (s.setF x v) :=
  ringsKept_wr _ _ (ringsKept_refl s) ha

theorem hit_ringsKept (s : State) (x : Fld) (ha : x.reg < 0x90000 ∨ 0xB0000 ≤ x.reg) : s.ringsKept (s.hit x) :=
  ⟨rfl, (setF_ringsKept s x 1 ha).2⟩

theorem raise_ringsKept (s : State) (m : FaultMsg) : s.ringsKept (s.raise m) := ⟨rfl, fun _ _ _ => rfl⟩

theorem modSafe_ringsKept (s : State) (g : SafeState → SafeState) : s.ringsKept (s.modSafe g) := ⟨rfl, fun _ _ _ => rfl⟩

theorem bumpBy_ringsKept (s : State) (a n : Nat) (ha : a < 0x90000 ∨ 0xB0000 ≤ a) : s.ringsKept (s.bumpBy a n) :=
  ringsKept_wr a _ (ringsKept_refl s) ha

theorem stage_ringsKept (s : State) : s.ringsKept s.stage := ⟨rfl, fun _ _ _ => rfl⟩

/-- Where all that may be written lies outside the rings' windows, they are kept. -/
theorem ringsKept_of_keeps {s t : State} {l : List Nat} (hf : t.rings = s.rings) (h : s.keeps t l)
    (hl : ∀ a, 0x90000 ≤ a → a < 0xB0000 → a ∉ l) : s.ringsKept t := ⟨hf, fun a h0 h1 => h a (hl a h0 h1)⟩

theorem ringsKept.ring {s t : State} (h : s.ringsKept t) (r : Fin 2) : t.ring r = s.ring r := congrArg (Bank.get · r) h.1

-- ===== a firing of the wheel =====

theorem offerOr_ringsKept (s : State) (n : Fin 16) (i : QItem) : s.ringsKept (s.offerOr n i).1 := by
  unfold offerOr
  split
  · next u hu =>
    obtain ⟨-, -, -, hk, hf⟩ := offer_some hu
    exact ringsKept_of_keeps (by rw [hf]) hk fun a h0 _ => by
      simp only [List.mem_cons, List.not_mem_nil, or_false, HQ_HWM]
      omega
  · exact ringsKept_wr _ _ (ringsKept_refl s) (.inl (by unfold HQ_CNT_REF; omega))

theorem join_ringsKept (s : State) (w : Work) : s.ringsKept (s.join w) := by
  unfold join placeWork leaveGroup
  dsimp only
  split <;> exact ringsKept_of_eq rfl rfl

theorem putWork_ringsKept (s : State) (n : Fin 16) (w : Work) : s.ringsKept (s.putWork n w).1 := by
  unfold putWork
  split
  · exact ringsKept_refl s
  · dsimp only
    split
    · exact ringsKept_trans (offerOr_ringsKept s _ _) (join_ringsKept _ _)
    · exact offerOr_ringsKept s _ _

theorem release_ringsKept (s : State) (x : WDesc) (late : Bool) : s.ringsKept (s.release x late) := by
  have hw : ∀ (u : State) (g : Queue → Queue), u.ringsKept (u.modQueue 4 g) := fun _ _ => ringsKept_of_eq rfl rfl
  unfold release
  refine ringsKept_ite (ringsKept_refl s) (ringsKept_ite (putWork_ringsKept s 4 _) (ringsKept_ite ?_ ?_))
  · exact ringsKept_trans (putWork_ringsKept s 4 _) (hw _ _)
  · exact ringsKept_wr WHEEL_CNT_LATE _ (ringsKept_trans (putWork_ringsKept s 4 _) (hw _ _)) (by decide)

theorem foutAct_ringsKept (s : State) (o : Nat) (on : Bool) : s.ringsKept (s.foutAct o on) :=
  ringsKept_ite (ringsKept_refl s) (ringsKept_wr FIO_OUT _ (ringsKept_refl s) (by decide))

theorem segmentGo_ringsKept (s : State) (a : Fin 96) : s.ringsKept (s.segmentGo a) := by
  unfold segmentGo
  refine ringsKept_ite (ringsKept_of_eq rfl rfl) (ringsKept_trans (hit_ringsKept s (TILE_PLN_STAT_GO_EMPTY a) (.inr ?_)) (ringsKept_of_eq rfl rfl))
  show 0xB0000 ≤ TILE_PLN_STAT a
  unfold TILE_PLN_STAT tileBase
  omega

theorem act_ringsKept (s : State) (x : WDesc) (late : Bool) : s.ringsKept (s.act x late) := by
  have hp : ∀ (u : State) (n : Nat) (on : Bool), u.ringsKept (u.setPin n on) := fun u n on =>
    ringsKept_wr WHEEL_EV_LVL _ (ringsKept_refl u) (by decide)
  unfold act
  refine ringsKept_ite (hp _ _ _) (ringsKept_ite (hp _ _ _) (ringsKept_ite ?_ (ringsKept_ite (foutAct_ringsKept _ _ _)
    (ringsKept_ite (foutAct_ringsKept _ _ _) (ringsKept_ite ?_ (ringsKept_ite (release_ringsKept _ _ _) (ringsKept_ite ?_
      (ringsKept_ite (ringsKept_of_eq rfl rfl) (ringsKept_ite ?_ (ringsKept_refl s))))))))))
  · exact ringsKept_trans (ringsKept_of_eq rfl rfl) (hp _ _ _)
  · exact ringsKept_trans (ringsKept_of_eq rfl rfl) (foutAct_ringsKept _ _ _)
  · split
    · exact segmentGo_ringsKept _ _
    · exact ringsKept_refl s
  · split
    · exact ringsKept_wr (WHEEL_LT_STAT x.d.target) _ (ringsKept_of_eq rfl rfl) (.inl (by unfold WHEEL_LT_STAT; omega))
    · exact ringsKept_refl s

theorem offerRec_ringsKept (s : State) (c p : Nat) (b : List Byte) : s.ringsKept (s.offerRec c p b) :=
  ringsKept_of_keeps (offerRec_rings s c p b) (offerRec_keeps s c p b) fun a h0 _ hm => by
    have : ∀ r ∈ recRegs, r < 0x90000 := by decide
    have := this a hm
    omega

theorem setDescs_ringsKept (s : State) (l : List WDesc) : s.ringsKept (s.setDescs l) :=
  ringsKept_wr WHEEL_OCC _ (ringsKept_of_eq rfl rfl) (by decide)

theorem fireDesc_ringsKept (s : State) (x : WDesc) (late : Bool) : s.ringsKept (s.fireDesc x late) := by
  unfold fireDesc
  refine ringsKept_ite (ringsKept_refl s) (ringsKept_ite (setDescs_ringsKept s _) ?_)
  have hl : s.ringsKept (if late then s.bump WHEEL_CNT_LATE else s) :=
    ringsKept_ite (ringsKept_wr _ _ (ringsKept_refl s) (by decide)) (ringsKept_refl s)
  have hr : ∀ u : State, u.ringsKept (u.recRelease x late) := fun u => ringsKept_ite (offerRec_ringsKept u _ _ _) (ringsKept_refl u)
  exact ringsKept_trans (ringsKept_trans (ringsKept_trans hl (act_ringsKept _ x late)) (hr _)) (setDescs_ringsKept _ _)

/-- Firing descriptors leaves the rings alone. -/
theorem fireAll_ringsKept (s : State) (late : Bool) (l : List WDesc) : s.ringsKept (s.fireAll late l) := by
  induction l generalizing s with
  | nil => exact ringsKept_refl s
  | cons x l ih => exact ringsKept_trans (fireDesc_ringsKept s x late) (ih _)

/-- A jump of W leaves the rings alone (R126). -/
theorem jumpFrom_ringsKept (s : State) (w0 m : Nat) : s.ringsKept (s.jumpFrom w0 m) := by
  have hs : s.ringsKept (s.placeW m) := ringsKept_of_eq rfl rfl
  have ha : s.ringsKept (s.skipPassed w0 m) := ringsKept_trans hs
    (foldl_rel ringsKept_refl ringsKept_trans _ _ fun _ _ s => setDescs_ringsKept s _)
  unfold jumpFrom
  refine ringsKept_ite (ringsKept_trans hs (fireAll_ringsKept _ _ _)) (ringsKept_ite (ringsKept_trans ha (ringsKept_of_eq rfl rfl)) ?_)
  refine ringsKept_trans (ringsKept_trans (ringsKept_trans ?_ (hit_ringsKept _ WHEEL_STAT_SKIP (by decide))) (stage_ringsKept _))
    (raise_ringsKept _ _)
  exact ringsKept_trans ha (bumpBy_ringsKept _ WHEEL_CNT_SKIP _ (by decide))

-- ===== a swap that is abandoned (R64, R344) =====

theorem resumeCluster_ringsKept (s : State) (c : Fin 12) : s.ringsKept (s.resumeCluster c) :=
  ringsKept_ite (ringsKept_wr DBG_STAT _ (ringsKept_of_eq rfl rfl) (by decide)) (ringsKept_refl s)

theorem releaseHalts_ringsKept (s : State) : s.ringsKept s.releaseHalts := by
  have hc : s.ringsKept ((List.finRange 12).foldl (fun (s : State) c => s.resumeCluster c) s) :=
    foldl_rel ringsKept_refl ringsKept_trans _ s fun c _ s => resumeCluster_ringsKept s c
  have hw : ∀ u : State, u.ringsKept u.resumeWheel := fun u =>
    ringsKept_ite (ringsKept_trans (setF_ringsKept u DBG_STAT_WHEEL 0 (by decide)) (jumpFrom_ringsKept _ _ _)) (ringsKept_refl u)
  exact ringsKept_ite (ringsKept_refl s) (ringsKept_trans (ringsKept_trans hc (hw _)) (setF_ringsKept _ SYS_MODE_HALT _ (by decide)))

theorem monitorFrom_ringsKept (s : State) (ran : Bool) : s.ringsKept (s.monitorFrom ran) :=
  ringsKept_ite (ringsKept_refl s) (ringsKept_ite (setF_ringsKept s SAFE_SSM_STAT_RUN 0 (by decide)) (ringsKept_of_eq rfl rfl))

/-- Groups that go to OFF leave the rings alone. -/
theorem offGroups_ringsKept (s : State) (m : GroupMask) (cause : Nat) : s.ringsKept (s.offGroups m cause) := by
  have h := offGroups_offStep s m cause
  refine ringsKept_of_keeps (by rw [h.frame]) h.keeps fun a h0 h1 => notMem_offRegs (by omega) ?_ (.inl (by omega))
  unfold WHEEL_OCC
  omega

theorem setMode_ringsKept (s : State) (m cause entry : Nat) : s.ringsKept (s.setMode m cause entry) :=
  ringsKept_of_keeps (setMode_rings s m cause entry) (setMode_keeps s m cause entry) fun a h0 _ hm => by
    have : ∀ r ∈ modeRegs, r < 0x90000 := by decide
    have := this a hm
    omega

theorem enterMode_ringsKept (s : State) (m cause entry : Nat) : s.ringsKept (s.enterMode m cause entry) := by
  have hm := setMode_ringsKept s m cause entry
  unfold enterMode
  exact ringsKept_trans (ringsKept_trans (ringsKept_ite hm (ringsKept_trans hm (offGroups_ringsKept _ _ _))) (releaseHalts_ringsKept _))
    (monitorFrom_ringsKept _ _)

theorem cfgChanged_ringsKept (s : State) (code : Nat) : s.ringsKept (s.cfgChanged code) := by
  unfold cfgChanged
  exact ringsKept_trans (ringsKept_trans (setF_ringsKept s SAFE_STAT_CFG_CHANGED 1 (by decide)) (offGroups_ringsKept _ 15 10)) (raise_ringsKept _ _)

theorem dropPending_ringsKept (s : State) : s.ringsKept s.dropPending := by
  unfold dropPending
  split
  · exact ringsKept_ite (modSafe_ringsKept s _) (ringsKept_trans (modSafe_ringsKept s _) (cfgChanged_ringsKept _ _))
  · exact ringsKept_refl s

/-- An armed swap that is abandoned leaves the rings alone (R64). -/
theorem abandonSwap_ringsKept (s : State) (code cause : Nat) : s.ringsKept (s.abandonSwap code cause) := by
  have hd : s.ringsKept (s.dropSwap code) := ringsKept_wr CFG_ERR _
    (ringsKept_trans (setF_ringsKept s CFG_STAT_LDR 4 (by decide)) (hit_ringsKept _ CFG_STAT_ABORTED (by decide))) (by decide)
  exact ringsKept_ite (ringsKept_trans (ringsKept_ite (ringsKept_trans hd (enterMode_ringsKept _ _ _ _)) hd) (dropPending_ringsKept _))
    (ringsKept_refl s)

theorem abandonSwap_not_armed {s : State} (h : s.swapArmed = false) (code cause : Nat) : s.abandonSwap code cause = s :=
  if_neg (by simp [h])

end State

end Sys2Proof.Machine

/-! SUPPORT. O37: returned frames and messages at the master (R375, R381, R386, R403, R404, R411). -/

namespace Sys2Proof.Machine

namespace State

-- ===== a ring's state and registers =====

@[simp] theorem ring_modRing_same (s : State) (r : Fin 2) (g : RingState → RingState) : (s.modRing r g).ring r = g (s.ring r) :=
  Bank.get_modify_same _ _ _

theorem ring_modRing_ne (s : State) {r q : Fin 2} (g : RingState → RingState) (h : q ≠ r) : (s.modRing r g).ring q = s.ring q :=
  Bank.get_modify_ne _ _ h

theorem ring_congr {s t : State} (h : t.rings = s.rings) (r : Fin 2) : t.ring r = s.ring r := congrArg (Bank.get · r) h

/-- The next departure of a ring has not come (R381). -/
def frameInTime (s : State) (r : Fin 2) : Prop := s.time.now < (s.ring r).nextDep + 200 * Config.nsUnits

-- ===== a frame at the far port (R403, R411) =====

/-- The present cycle's P copy is a WIDE frame. -/
def wideSent (s : State) (r : Fin 2) : Bool := match (s.ring r).cp with | some k => k.f.mode == fWIDE | none => false

/-- The frame is of the present cycle. -/
def sameCycle (s : State) (r : Fin 2) (f : RFrame) : Bool := match (s.ring r).cp with | some k => k.f.cycle == f.cycle | none => false

/-- The P frame has been at S: where it came whole round a ring that is not open, a close is told. -/
def atFar (s : State) (r : Fin 2) (f : RFrame) : State :=
  if f.looped ∨ s.flag (KR_RING_OPEN r) then s.modRing r (fun x => { x with atS := true })
  else (s.modRing r (fun x => { x with atS := true })).closedNow r

theorem execRingFrameReturn_eq {s u : State} (r : Fin 2) (onS far : Bool) (f : RFrame) (rtt : Nat) {m : Nat} (hu : u = s.runTo m) :
    exec (.ringFrameReturn r onS far f rtt m) s = .next (if u.rstate r ≠ rMASTER then u
      else if far ∧ !u.wideSent r then
        (if !onS ∧ f.hcrc ∧ u.sameCycle r f ∧ u.time.now < (u.ring r).nextDep + 200 * Config.nsUnits then u.atFar r f else u)
      else u.returned r onS f rtt) := by
  subst hu
  rfl

theorem wideSent_eq_false {s : State} {r : Fin 2} (h : ∀ k, (s.ring r).cp = some k → k.f.mode ≠ fWIDE) : s.wideSent r = false := by
  unfold wideSent
  split
  · next k hk => simpa using h k hk
  · rfl

theorem wideSent_eq_true {s : State} {r : Fin 2} {k : RCopy} (h : (s.ring r).cp = some k) (hw : k.f.mode = fWIDE) : s.wideSent r = true := by
  unfold wideSent
  rw [h]
  simpa using hw

theorem sameCycle_eq {s : State} {r : Fin 2} {f : RFrame} :
    s.sameCycle r f = true ↔ ∃ k, (s.ring r).cp = some k ∧ k.f.cycle = f.cycle := by
  unfold sameCycle
  split
  · next k hk =>
    constructor
    · exact fun h => ⟨k, hk, by simpa using h⟩
    · rintro ⟨j, hj, h⟩
      obtain rfl : k = j := Option.some.inj (hk.symm.trans hj)
      simpa using h
  · next hk => simp [hk]

theorem execRingFrameReturn_not_master {s u : State} {r : Fin 2} (a b : Bool) (f : RFrame) (rtt : Nat) {m : Nat} (hu : u = s.runTo m)
    (h : u.rstate r ≠ rMASTER) : exec (.ringFrameReturn r a b f rtt m) s = .next u :=
  (execRingFrameReturn_eq r a b f rtt hu).trans (congrArg Host.Outcome.next (if_pos h))

theorem execRingFrameReturn_far {s u : State} {r : Fin 2} {f : RFrame} {k : RCopy} (rtt : Nat) {m : Nat} (hu : u = s.runTo m)
    (hm : u.rstate r = rMASTER) (hk : (u.ring r).cp = some k) (hw : k.f.mode ≠ fWIDE) (hh : f.hcrc = true) (hc : k.f.cycle = f.cycle)
    (ht : u.frameInTime r) : exec (.ringFrameReturn r false true f rtt m) s = .next (u.atFar r f) := by
  have h1 : u.wideSent r = false := wideSent_eq_false fun j hj => by
    obtain rfl : k = j := Option.some.inj (hk.symm.trans hj)
    exact hw
  have h2 : u.sameCycle r f = true := sameCycle_eq.mpr ⟨k, hk, hc⟩
  rw [execRingFrameReturn_eq r false true f rtt hu, if_neg (not_not.mpr hm), if_pos (by simp [h1]), if_pos ⟨by rfl, hh, h2, ht⟩]

theorem execRingFrameReturn_far_other {s u : State} {r : Fin 2} {onS : Bool} {f : RFrame} (rtt : Nat) {m : Nat} (hu : u = s.runTo m)
    (hm : u.rstate r = rMASTER) (hw : ∀ k, (u.ring r).cp = some k → k.f.mode ≠ fWIDE)
    (h : onS = true ∨ f.hcrc = false ∨ (∀ k, (u.ring r).cp = some k → k.f.cycle ≠ f.cycle) ∨ ¬ u.frameInTime r) :
    exec (.ringFrameReturn r onS true f rtt m) s = .next u := by
  have h1 : u.wideSent r = false := wideSent_eq_false hw
  rw [execRingFrameReturn_eq r onS true f rtt hu, if_neg (not_not.mpr hm), if_pos (by simp [h1]), if_neg ?_]
  rintro ⟨ho, hh, hc, ht⟩
  obtain h | h | h | h := h
  · simp [h] at ho
  · simp [h] at hh
  · obtain ⟨k, hk, he⟩ := sameCycle_eq.mp hc
    exact h k hk he
  · exact h ht

theorem execRingFrameReturn_near {s u : State} {r : Fin 2} {onS far : Bool} {f : RFrame} (rtt : Nat) {m : Nat} (hu : u = s.runTo m)
    (hm : u.rstate r = rMASTER) (h : far = false ∨ ∃ k, (u.ring r).cp = some k ∧ k.f.mode = fWIDE) :
    exec (.ringFrameReturn r onS far f rtt m) s = .next (u.returned r onS f rtt) := by
  rw [execRingFrameReturn_eq r onS far f rtt hu, if_neg (not_not.mpr hm), if_neg ?_]
  rintro ⟨hf, hw⟩
  obtain h | ⟨k, hk, h⟩ := h
  · simp [h] at hf
  · simp [wideSent_eq_true hk h] at hw

/-- The message that the ring has closed. -/
def closedMsg (r : Fin 2) (c : Nat) : FaultMsg := mkFault (srcKR r) 0x67 cINFO 0 [.inst r, .val c]

theorem closedNow_none {s : State} {r : Fin 2} (h : (s.ring r).closing = none) : s.closedNow r = s := by
  unfold closedNow
  rw [h]

theorem closedNow_some {s : State} {r : Fin 2} {c : Nat} (h : (s.ring r).closing = some c) :
    s.closedNow r = (s.modRing r (fun x => { x with closing := none, links := [] })).raise (closedMsg r c) := by
  unfold closedNow
  rw [h]
  rfl

/-- A frame at the far port that tells of nothing. -/
theorem atFar_quiet {s : State} {r : Fin 2} {f : RFrame} (h : f.looped = true ∨ s.flag (KR_RING_OPEN r) = true ∨ (s.ring r).closing = none) :
    s.atFar r f = s.modRing r (fun x => { x with atS := true }) := by
  unfold atFar
  split
  · rfl
  · next hn =>
    refine closedNow_none ?_
    rw [ring_modRing_same]
    exact h.resolve_left (fun h => hn (.inl h)) |>.resolve_left (fun h => hn (.inr h))

/-- A frame at the far port with which the ring has closed (R411). -/
theorem atFar_closes {s : State} {r : Fin 2} {f : RFrame} {c : Nat} (hl : f.looped = false) (ho : s.flag (KR_RING_OPEN r) = false)
    (hc : (s.ring r).closing = some c) : s.atFar r f = ((s.modRing r (fun x => { x with atS := true })).modRing r
      (fun x => { x with closing := none, links := [] })).raise (closedMsg r c) := by
  unfold atFar
  rw [if_neg (by simp [hl, ho])]
  refine closedNow_some ?_
  rw [ring_modRing_same]
  exact hc

theorem atFar_frame (s : State) (r : Fin 2) (f : RFrame) : s.atFar r f = { s with rings := (s.atFar r f).rings, flt := (s.atFar r f).flt } := by
  by_cases h : f.looped = true ∨ s.flag (KR_RING_OPEN r) = true ∨ (s.ring r).closing = none
  · rw [atFar_quiet h]
    rfl
  · obtain ⟨h1, h2, h3⟩ : f.looped = false ∧ s.flag (KR_RING_OPEN r) = false ∧ (s.ring r).closing ≠ none := by simpa [not_or] using h
    obtain ⟨c, hc⟩ := Option.ne_none_iff_exists'.mp h3
    rw [atFar_closes h1 h2 hc]
    rfl

theorem atFar_ring (s : State) (r : Fin 2) (f : RFrame) : ((s.atFar r f).ring r).atS = true ∧ ∀ q, q ≠ r → (s.atFar r f).ring q = s.ring q := by
  by_cases h : f.looped = true ∨ s.flag (KR_RING_OPEN r) = true ∨ (s.ring r).closing = none
  · rw [atFar_quiet h, ring_modRing_same]
    exact ⟨rfl, fun q hq => ring_modRing_ne s _ hq⟩
  · obtain ⟨h1, h2, h3⟩ : f.looped = false ∧ s.flag (KR_RING_OPEN r) = false ∧ (s.ring r).closing ≠ none := by simpa [not_or] using h
    obtain ⟨c, hc⟩ := Option.ne_none_iff_exists'.mp h3
    have hr : ∀ q, (s.atFar r f).ring q = ((s.modRing r (fun x => { x with atS := true })).modRing r
        (fun x => { x with closing := none, links := [] })).ring q := fun q => by rw [atFar_closes h1 h2 hc]; rfl
    refine ⟨by rw [hr, ring_modRing_same, ring_modRing_same], fun q hq => ?_⟩
    rw [hr, ring_modRing_ne _ _ hq, ring_modRing_ne _ _ hq]

-- ===== a copy that comes back (R375, R381, R404) =====

theorem returned_none {s : State} {r : Fin 2} {onS : Bool} (f : RFrame) (rtt : Nat) (h : s.copyOut r onS = none) : s.returned r onS f rtt = s := by
  unfold returned
  rw [h]

/-- OUT segments of a returned frame are not read. -/
theorem passSin_out (s : State) {segs : List RSeg} (area : List Byte) (h : ∀ g ∈ segs, g.kind = 1) : s.passSin segs area = s := by
  unfold passSin
  induction segs with
  | nil => rfl
  | cons g gs ih =>
    rw [List.foldl_cons, if_neg (by simp [h g (by simp)])]
    exact ih fun x hx => h x (by simp [hx])

theorem takeSegments_out (s : State) (r : Fin 2) {segs : List RSeg} (p : Bool) (area : List Byte) (h : ∀ g ∈ segs, g.kind = 1) :
    s.takeSegments r segs p area = s := by
  have hf : segs.foldl (fun (s : State) (g : RSeg) => s.takeSegment r g p area) s = s := by
    induction segs with
    | nil => rfl
    | cons g gs ih =>
      have hg : s.takeSegment r g p area = s := if_pos (by simp [h g (by simp)])
      rw [List.foldl_cons, hg]
      exact ih fun x hx => h x (by simp [hx])
  unfold takeSegments
  rw [hf]
  refine if_neg ?_
  rw [List.any_eq_true]
  rintro ⟨g, hg, hk⟩
  simp [h g hg] at hk

/-- A returned frame is the copy that was sent (R381). -/
def goodCopy (f : RFrame) (k : RCopy) : Bool :=
  f.fcs && f.hcrc && f.type == 0 && f.epoch == k.f.epoch && f.cycle == k.f.cycle && f.sid == k.f.sid

/-- A good copy of a frame with OUT segments alone is kept, with its round trip and its loop address. -/
def copyKept (s : State) (r : Fin 2) (onS : Bool) (f : RFrame) (k : RCopy) (rtt : Nat) : State :=
  (((s.putCopy r onS { k with got := true }).keepRtt r onS k.f.mode rtt).noteLoop r onS f)

/-- A wrong copy counts as missing. -/
def copyMissed (s : State) (r : Fin 2) (onS : Bool) (k : RCopy) : State := (s.missCopy r k.f).putCopy r onS { k with missing := true }

theorem returned_some {s : State} {r : Fin 2} {onS : Bool} {f : RFrame} {k : RCopy} (rtt : Nat) (hp : ∀ g ∈ (s.ringDef r).segs, g.kind = 1)
    (hk : s.copyOut r onS = some k) (hw : k.f.mode ≠ fWIDE) : s.returned r onS f rtt =
      if k.got ∨ k.missing ∨ (s.ring r).done ∨ s.lateFrame r f k then s.noteFcs r f.fcs
      else if goodCopy f k then ((s.noteFcs r f.fcs).copyKept r onS f k rtt).finishIfBack r
      else ((s.noteFcs r f.fcs).copyMissed r onS k).finishIfBack r := by
  have hl : ∀ n, s.layout r k.f.mode n = (s.ringDef r).segs := fun n => if_neg hw
  unfold returned
  rw [hk]
  dsimp only
  rw [hl, passSin_out s _ hp, takeSegments_out _ r _ _ hp, if_neg hw]
  rfl

theorem noteFcs_good (s : State) (r : Fin 2) : s.noteFcs r true = s := rfl

theorem noteFcs_bad (s : State) (r : Fin 2) : s.noteFcs r false = (s.bump (KR_CNT_FCS r)).hit (KR_STAT_FCS r) := rfl

theorem KR_CNT_FCS_ne_STAT (r : Nat) : KR_CNT_FCS r ≠ KR_STAT r := by
  unfold KR_CNT_FCS KR_STAT
  omega

theorem noteFcs_rings (s : State) (r : Fin 2) (b : Bool) : (s.noteFcs r b).rings = s.rings := by cases b <;> rfl

theorem noteFcs_cnt (s : State) (r : Fin 2) (b : Bool) :
    (s.noteFcs r b).rdN (KR_CNT_FCS r) = if b then s.rdN (KR_CNT_FCS r) else min (s.rdN (KR_CNT_FCS r) + 1) 4294967295 := by
  cases b
  · rw [noteFcs_bad]
    exact (rdN_setF_ne (s.bump (KR_CNT_FCS r)) (x := KR_STAT_FCS r) 1 (KR_CNT_FCS_ne_STAT r)).trans (rdN_bump_same s _)
  · rfl

theorem noteFcs_stat {s : State} {r : Fin 2} {b : Bool} (h : b = false) : (s.noteFcs r b).f (KR_STAT_FCS r) = 1 := by
  rw [h, noteFcs_bad]
  exact f_hit_same _ (KR_STAT_FCS r) (Nat.le_of_ble_eq_true rfl) rfl

theorem noteFcs_keeps (s : State) (r : Fin 2) (b : Bool) : s.keeps (s.noteFcs r b) [KR_CNT_FCS r, KR_STAT r] := by
  cases b
  · rw [noteFcs_bad]
    exact keeps_hit (x := KR_STAT_FCS r) (keeps_bump (keeps_refl s _) (.head _)) (.tail _ (.head _))
  · exact keeps_refl s _

/-- Nothing but registers and the bits set in this cycle differs. -/
def regsFrame (s t : State) : Prop := t = { s with time := { s.time with hits := t.time.hits }, regs := t.regs }

theorem noteFcs_regsFrame (s : State) (r : Fin 2) (b : Bool) : s.regsFrame (s.noteFcs r b) := by cases b <;> rfl

/-- While another copy is out the cycle goes on. -/
theorem finishIfBack_waits {s : State} {r : Fin 2} {j : RCopy} (hs : (s.ring r).cs = some j) (hg : j.got = false) (hm : j.missing = false) :
    s.finishIfBack r = s := by
  refine if_neg ?_
  unfold allBack
  simp [hs, hg, hm]

end State

end Sys2Proof.Machine

/-! SUPPORT. O37: the copies kept and missed, and the messages that act at the master (R366, R375, R386, R413). -/

namespace Sys2Proof.Machine

namespace State

-- ===== the copy's fate (R368, R381, R403) =====

/-- The round trip and the loop address of a good P copy are kept. -/
def tripKept (s : State) (r : Fin 2) (k : RCopy) (rtt : Nat) : State :=
  (((s.putCopy r false { k with got := true }).modRing r (fun y => { y with rttP := rtt })).wrN (KR_RTT r) rtt).wrN (KR_RTTMAX r)
    (max (s.rdN (KR_RTTMAX r)) rtt)

def loopNoted (s : State) (r : Fin 2) (f : RFrame) : State :=
  ((s.setB (KR_STAT_LOOPED r) f.looped).setF (KR_LOOP_LOOP_ADDR r) f.loopAddr).setF (KR_BRK_LOOP_P r) f.loopAddr

/-- In open operation the loop address of the P copy that is already known tells of nothing new. -/
theorem noteLoop_known {s : State} {r : Fin 2} {f : RFrame} (ho : s.flag (KR_RING_OPEN r) = true) (hb : s.f (KR_BRK_LOOP_P r) = f.loopAddr) :
    s.noteLoop r false f = s.loopNoted r f := by
  unfold noteLoop
  dsimp only
  rw [if_pos ho]
  exact if_neg (by simp [hb])

theorem copyKept_known {s : State} {r : Fin 2} {f : RFrame} {k : RCopy} (rtt : Nat) (ho : s.flag (KR_RING_OPEN r) = true)
    (hb : s.f (KR_BRK_LOOP_P r) = f.loopAddr) : s.copyKept r false f k rtt = (s.tripKept r k rtt).loopNoted r f := by
  have hk : s.keeps (s.tripKept r k rtt) [KR_RTT r, KR_RTTMAX r] :=
    keeps_wrN _ (keeps_wrN _ (keeps_of_regs rfl _) (.head _)) (.tail _ (.head _))
  refine noteLoop_known ((flag_keeps (x := KR_RING_OPEN r) hk ?_).trans ho) ((f_keeps (x := KR_BRK_LOOP_P r) hk ?_).trans hb)
  · simp [KR_RING_OPEN, KR_RING, KR_RTT, KR_RTTMAX]
  · simp [KR_BRK_LOOP_P, KR_BRK, KR_RTT, KR_RTTMAX]

theorem tripKept_ring (s : State) (r : Fin 2) (k : RCopy) (rtt : Nat) :
    (s.tripKept r k rtt).ring r = { s.ring r with cp := some { k with got := true }, rttP := rtt } := by
  refine (ring_modRing_same (s.putCopy r false { k with got := true }) r _).trans ?_
  unfold putCopy
  rw [ring_modRing_same]
  rfl

theorem loopNoted_ring (s : State) (r q : Fin 2) (f : RFrame) : (s.loopNoted r f).ring q = s.ring q := rfl

/-- What a good P copy leaves in the registers. -/
theorem loopNoted_shown (s : State) (r : Fin 2) (k : RCopy) (f : RFrame) (rtt : Nat) (hf : f.loopAddr < 65536) :
    ((s.tripKept r k rtt).loopNoted r f).rdN (KR_RTT r) = rtt % 4294967296 ∧
      ((s.tripKept r k rtt).loopNoted r f).f (KR_LOOP_LOOP_ADDR r) = f.loopAddr := by
  unfold loopNoted tripKept
  constructor
  · rw [rdN_setF_ne _ _ (by simp [KR_BRK_LOOP_P, KR_BRK, KR_RTT]), rdN_setF_ne _ _ (by simp [KR_LOOP_LOOP_ADDR, KR_LOOP, KR_RTT]), setB_eq,
      rdN_setF_ne _ _ (by simp [KR_STAT_LOOPED, KR_STAT, KR_RTT]), rdN_wrN_ne _ _ (by simp [KR_RTTMAX, KR_RTT]), rdN_wrN_same]
  · rw [f_setF_ne _ _ (by simp [KR_BRK_LOOP_P, KR_BRK, KR_LOOP_LOOP_ADDR, KR_LOOP]),
      f_setF_same _ (KR_LOOP_LOOP_ADDR r) _ (Nat.le_of_ble_eq_true rfl)]
    exact Nat.mod_eq_of_lt hf

theorem loopNoted_keeps (s : State) (r : Fin 2) (k : RCopy) (f : RFrame) (rtt : Nat) :
    s.keeps ((s.tripKept r k rtt).loopNoted r f) [KR_RTT r, KR_RTTMAX r, KR_STAT r, KR_LOOP r, KR_BRK r] := by
  refine keeps_setF (x := KR_BRK_LOOP_P r) _ (keeps_setF (x := KR_LOOP_LOOP_ADDR r) _ (keeps_setB (x := KR_STAT_LOOPED r) _
    (keeps_wrN _ (keeps_wrN _ (keeps_of_regs rfl _) ?_) ?_) ?_) ?_) ?_ <;> simp [KR_STAT_LOOPED, KR_LOOP_LOOP_ADDR, KR_BRK_LOOP_P]

/-- Nothing but the rings and registers differs. -/
def ringFrame (s t : State) : Prop := t = { s with rings := t.rings, regs := t.regs }

theorem ringFrame_trans {s t u : State} (h : s.ringFrame t) (h' : t.ringFrame u) : s.ringFrame u := by
  unfold ringFrame at *
  exact h'.trans (by rw [h])

theorem modRing_ringFrame (s : State) (r : Fin 2) (g : RingState → RingState) : s.ringFrame (s.modRing r g) := rfl

theorem wr_ringFrame (s : State) (a : Nat) (v : Word) : s.ringFrame (s.wr a v) := rfl

theorem setF_ringFrame (s : State) (x : Fld) (v : Nat) : s.ringFrame (s.setF x v) := rfl

theorem tripKept_ringFrame (s : State) (r : Fin 2) (k : RCopy) (rtt : Nat) : s.ringFrame (s.tripKept r k rtt) :=
  ringFrame_trans (ringFrame_trans (ringFrame_trans (modRing_ringFrame s r _) (modRing_ringFrame _ r _)) (wr_ringFrame _ _ _)) (wr_ringFrame _ _ _)

theorem loopNoted_ringFrame (s : State) (r : Fin 2) (f : RFrame) : s.ringFrame (s.loopNoted r f) :=
  ringFrame_trans (ringFrame_trans (setF_ringFrame s _ _) (setF_ringFrame _ _ _)) (setF_ringFrame _ _ _)

/-- The message that a copy is missing. -/
def missMsg (r : Fin 2) (f : RFrame) : FaultMsg := mkFault (srcKR r) 0x60 cMINOR 0 [.inst r, .val f.cycle]

theorem missCopy_eq (s : State) (r : Fin 2) (f : RFrame) :
    s.missCopy r f = ((s.bump (KR_CNT_MISS r)).hit (KR_STAT_MISS r)).raise (missMsg r f) := rfl

theorem missCopy_cnt (s : State) (r : Fin 2) (f : RFrame) :
    (s.missCopy r f).rdN (KR_CNT_MISS r) = min (s.rdN (KR_CNT_MISS r) + 1) 4294967295 :=
  (rdN_setF_ne (s.bump (KR_CNT_MISS r)) (x := KR_STAT_MISS r) 1 (by simp [KR_STAT_MISS, KR_STAT, KR_CNT_MISS])).trans (rdN_bump_same s _)

theorem missCopy_stat (s : State) (r : Fin 2) (f : RFrame) : (s.missCopy r f).f (KR_STAT_MISS r) = 1 :=
  f_hit_same (s.bump (KR_CNT_MISS r)) (KR_STAT_MISS r) (Nat.le_of_ble_eq_true rfl) rfl

theorem missCopy_keeps {s t : State} {l : List Nat} (r : Fin 2) (f : RFrame) (h : s.keeps t l) (h0 : KR_CNT_MISS r ∈ l) (h1 : KR_STAT r ∈ l) :
    s.keeps (t.missCopy r f) l := keeps_raise _ (keeps_hit (x := KR_STAT_MISS r) (keeps_bump h h0) h1)

theorem missCopy_rings (s : State) (r : Fin 2) (f : RFrame) : (s.missCopy r f).rings = s.rings := rfl

/-- Of the status, a missed copy writes MISS alone. -/
theorem f_missCopy (s : State) (r : Fin 2) (f : RFrame) {y : Fld} (hr : y.reg = KR_STAT r) (h : y.lo + y.width ≤ 8 ∨ 9 ≤ y.lo) :
    (s.missCopy r f).f y = s.f y := by
  have hd : 8 + 1 ≤ y.lo ∨ y.lo + y.width ≤ 8 := by omega
  rw [missCopy_eq, raise_f, f_hit_disj (x := KR_STAT_MISS r) _ hr hd, f_bump_ne]
  rw [hr]
  simp [KR_STAT, KR_CNT_MISS]

theorem copyMissed_ring (s : State) (r : Fin 2) (k : RCopy) :
    (s.copyMissed r false k).ring r = { s.ring r with cp := some { k with missing := true } } := by
  unfold copyMissed putCopy
  rw [ring_modRing_same, ring_congr (missCopy_rings s r k.f)]
  rfl

/-- Nothing but the rings, messages, registers and the bits set in this cycle differs. -/
def ringMsgFrame (s t : State) : Prop :=
  t = { s with time := { s.time with hits := t.time.hits }, rings := t.rings, flt := t.flt, regs := t.regs }

theorem ringMsgFrame_trans {s t u : State} (h : s.ringMsgFrame t) (h' : t.ringMsgFrame u) : s.ringMsgFrame u := by
  unfold ringMsgFrame at *
  exact h'.trans (by rw [h])

theorem regsFrame.ringMsgFrame {s t : State} (h : s.regsFrame t) : s.ringMsgFrame t := by
  have h1 : t.rings = s.rings := by rw [h]
  have h2 : t.flt = s.flt := by rw [h]
  unfold State.ringMsgFrame
  rw [h1, h2]
  exact h

theorem ringFrame.ringMsgFrame {s t : State} (h : s.ringFrame t) : s.ringMsgFrame t := by
  have h1 : t.time = s.time := by rw [h]
  have h2 : t.flt = s.flt := by rw [h]
  unfold State.ringMsgFrame
  rw [h1, h2]
  exact h

theorem hit_regsFrame (s : State) (x : Fld) : s.regsFrame (s.hit x) := rfl

theorem raise_ringMsgFrame (s : State) (m : FaultMsg) : s.ringMsgFrame (s.raise m) := rfl

theorem missCopy_ringMsgFrame (s : State) (r : Fin 2) (f : RFrame) : s.ringMsgFrame (s.missCopy r f) :=
  ringMsgFrame_trans (ringMsgFrame_trans (wr_ringFrame s _ _).ringMsgFrame (hit_regsFrame _ _).ringMsgFrame) (raise_ringMsgFrame _ _)

theorem copyMissed_ringMsgFrame (s : State) (r : Fin 2) (onS : Bool) (k : RCopy) : s.ringMsgFrame (s.copyMissed r onS k) :=
  ringMsgFrame_trans (missCopy_ringMsgFrame s r k.f) (modRing_ringFrame _ r _).ringMsgFrame

-- ===== silt and foreign frames (R366, R375) =====

/-- A node's silt is told. -/
def siltTold (s : State) (r : Fin 2) (n : Nat) : State :=
  ((s.modRing r (fun x => { x with siltRaised := n :: x.siltRaised })).hit (KR_STAT_SILT r)).raise
    (mkFault (srcKR r) 0x61 cMINOR 0 [.inst r, .val n, .val (s.f (KR_NODE_SILT r n))])

theorem execKrNodeSilt_due {s : State} {r : Fin 2} {n : Nat} (hp : s.flag (KR_NODE_PRESENT r n) = true)
    (hn : s.f (KR_WIN_NSILT r) ≤ s.f (KR_NODE_SILT r n)) (h0 : s.f (KR_WIN_NSILT r) ≠ 0) (hr : n ∉ (s.ring r).siltRaised) :
    exec (.krNodeSilt r n) s = .next (s.siltTold r n) :=
  congrArg Host.Outcome.next (if_pos ⟨hp, hn, Nat.pos_of_ne_zero h0, by simpa using hr⟩)

theorem execKrNodeSilt_not_due {s : State} {r : Fin 2} {n : Nat} (h : s.flag (KR_NODE_PRESENT r n) = false ∨
    s.f (KR_NODE_SILT r n) < s.f (KR_WIN_NSILT r) ∨ s.f (KR_WIN_NSILT r) = 0 ∨ n ∈ (s.ring r).siltRaised) :
    exec (.krNodeSilt r n) s = .next s := by
  refine congrArg Host.Outcome.next (if_neg ?_)
  rintro ⟨h1, h2, h3, h4⟩
  obtain h | h | h | h := h
  · simp [h] at h1
  · omega
  · omega
  · simp [h] at h4

theorem siltTold_ring (s : State) (r : Fin 2) (n : Nat) : ((s.siltTold r n).ring r).siltRaised = n :: (s.ring r).siltRaised :=
  congrArg RingState.siltRaised (ring_modRing_same s r _)

theorem siltTold_ringMsgFrame (s : State) (r : Fin 2) (n : Nat) : s.ringMsgFrame (s.siltTold r n) :=
  ringMsgFrame_trans (ringMsgFrame_trans (modRing_ringFrame s r _).ringMsgFrame (hit_regsFrame _ _).ringMsgFrame) (raise_ringMsgFrame _ _)

theorem foreign_shown (s : State) (r : Fin 2) : ((s.hit (KR_STAT_FOREIGN r)).bump (KR_CNT_FOREIGN r)).f (KR_STAT_FOREIGN r) = 1 ∧
    ((s.hit (KR_STAT_FOREIGN r)).bump (KR_CNT_FOREIGN r)).rdN (KR_CNT_FOREIGN r) = min (s.rdN (KR_CNT_FOREIGN r) + 1) 4294967295 := by
  have hne : KR_CNT_FOREIGN r ≠ KR_STAT r := by simp [KR_STAT, KR_CNT_FOREIGN]
  constructor
  · rw [f_bump_ne _ (x := KR_STAT_FOREIGN r) hne.symm]
    exact f_hit_same s (KR_STAT_FOREIGN r) (Nat.le_of_ble_eq_true rfl) rfl
  · rw [rdN_bump_same]
    exact congrArg (fun n => min (n + 1) 4294967295) (rdN_setF_ne s (x := KR_STAT_FOREIGN r) 1 hne)

-- ===== messages (R386, R413) =====

theorem assoc_assocSet_same {α : Type} (k : Nat) (v : α) (xs : List (Nat × α)) : assoc k (assocSet k v xs) = some v := by
  simp [assoc, assocSet]

theorem assoc_assocSet_ne {α : Type} {k n : Nat} (v : α) (xs : List (Nat × α)) (h : k ≠ n) : assoc k (assocSet n v xs) = assoc k xs := by
  unfold assoc assocSet
  rw [List.find?_cons_of_neg (by simpa using h.symm), List.find?_filter]
  refine congrArg _ (List.find?_congr fun x _ => ?_)
  by_cases hx : x.1 = k
  · simp [hx, h]
  · simp [hx]

/-- The SID that an acknowledge of a pending layout carries (R57, R58). -/
def ackSid (s : State) (r : Fin 2) : Nat :=
  match s.cfg.nodesFor with | some i => i.sid | none => match s.cfg.shadow with | some i => i.sid | none => s.rdN (KR_SID r)

theorem layoutAck_eq (s : State) (r : Fin 2) (n sid : Nat) : s.layoutAck r n sid = if sid = s.ackSid r ∧ n < 512 then
    (match s.cfg.nodesFor with
      | some i => if (s.setF (KR_NODE_PEND_ACK r n) 1).nodesAcked i then (s.setF (KR_NODE_PEND_ACK r n) 1).holdShadow i
        else s.setF (KR_NODE_PEND_ACK r n) 1
      | none => s.setF (KR_NODE_PEND_ACK r n) 1)
    else s := rfl

theorem layoutAck_other {s : State} {r : Fin 2} {n sid : Nat} (h : sid ≠ s.ackSid r ∨ 512 ≤ n) : s.layoutAck r n sid = s :=
  (layoutAck_eq s r n sid).trans (if_neg (by omega))

theorem layoutAck_shadow {s : State} {r : Fin 2} {n sid : Nat} (h : sid = s.ackSid r) (hn : n < 512) (hf : s.cfg.nodesFor = none) :
    s.layoutAck r n sid = s.setF (KR_NODE_PEND_ACK r n) 1 := by
  rw [layoutAck_eq, if_pos ⟨h, hn⟩, hf]

theorem layoutAck_waits {s : State} {r : Fin 2} {n sid : Nat} {i : Image} (h : sid = s.ackSid r) (hn : n < 512) (hf : s.cfg.nodesFor = some i)
    (ha : (s.setF (KR_NODE_PEND_ACK r n) 1).nodesAcked i = false) : s.layoutAck r n sid = s.setF (KR_NODE_PEND_ACK r n) 1 := by
  rw [layoutAck_eq, if_pos ⟨h, hn⟩, hf]
  exact if_neg (by simp [ha])

theorem layoutAck_last {s : State} {r : Fin 2} {n : Nat} {i : Image} (hn : n < 512) (hf : s.cfg.nodesFor = some i)
    (ha : (s.setF (KR_NODE_PEND_ACK r n) 1).nodesAcked i = true) :
    s.layoutAck r n i.sid = (s.setF (KR_NODE_PEND_ACK r n) 1).holdShadow i := by
  have h : i.sid = s.ackSid r := by
    unfold ackSid
    rw [hf]
  rw [layoutAck_eq, if_pos ⟨h, hn⟩, hf]
  exact if_pos ha

theorem execLayoutAck_master {s : State} {r : Fin 2} (n sid : Nat) (h : s.rstate r = rMASTER) :
    exec (.layoutAck r n sid) s = .next (s.layoutAck r n sid) := congrArg Host.Outcome.next (if_pos h)

/-- The bit PEND_ACK of a node that has acknowledged. -/
theorem acked_shown (s : State) (r n : Nat) : (s.setF (KR_NODE_PEND_ACK r n) 1).f (KR_NODE_PEND_ACK r n) = 1 ∧
    s.keeps (s.setF (KR_NODE_PEND_ACK r n) 1) [KR_NODE r n] :=
  ⟨f_setF_one s (KR_NODE_PEND_ACK r n) (Nat.le_of_ble_eq_true rfl) rfl, keeps_setF (x := KR_NODE_PEND_ACK r n) 1 (keeps_refl s _) (.head _)⟩

-- ===== an image becomes the shadow (R57) =====

theorem wrWords_frame (s : State) (a : Nat) (ws : List Word) : s.wrWords a ws = { s with regs := (s.wrWords a ws).regs } := by
  induction ws generalizing s a with
  | nil => rfl
  | cons w ws ih => exact ih (s.wr a w) (a + 4)

/-- The status of the configuration as an image becomes the shadow. -/
def shadowShown (s : State) (slot : Nat) : State :=
  ((((s.setF CFG_STAT_LDR 4).setF CFG_STAT_SHADOW_VALID 1).setF CFG_STAT_SHADOW_SLOT slot).setF CFG_STAT_BUSY 0).hit CFG_STAT_DONE

theorem holdShadow_eq (s : State) (i : Image) : s.holdShadow i =
    (((({ s with cfg := { s.cfg with shadow := some i, nodesFor := none, loading := none } }.shadowShown i.slot).wrN CFG_ERR 0).wrN
      CFG_SH_SID i.sid).wrWords (CFG_SH_HASH 0) i.hash) := rfl

theorem shadowShown_f (s : State) (slot : Nat) : (s.shadowShown slot).f CFG_STAT_LDR = 4 ∧ (s.shadowShown slot).f CFG_STAT_SHADOW_VALID = 1 ∧
    (s.shadowShown slot).f CFG_STAT_DONE = 1 ∧ (s.shadowShown slot).f CFG_STAT_BUSY = 0 := by
  have hd : ∀ (u : State) {x y : Fld}, y.reg = x.reg → (x.lo + x.width ≤ y.lo ∨ y.lo + y.width ≤ x.lo) → ∀ v, (u.setF x v).f y = u.f y :=
    fun u _ _ hr h v => f_setF_disj u v hr h
  unfold shadowShown
  refine ⟨?_, ?_, f_hit_same _ CFG_STAT_DONE (by decide) rfl, ?_⟩
  · rw [f_hit_disj (x := CFG_STAT_DONE) (y := CFG_STAT_LDR) _ rfl (by decide), hd _ (x := CFG_STAT_BUSY) (y := CFG_STAT_LDR) rfl (by decide),
      hd _ (x := CFG_STAT_SHADOW_SLOT) (y := CFG_STAT_LDR) rfl (by decide), hd _ (x := CFG_STAT_SHADOW_VALID) (y := CFG_STAT_LDR) rfl (by decide),
      f_setF_same s CFG_STAT_LDR 4 (by decide)]
    rfl
  · rw [f_hit_disj (x := CFG_STAT_DONE) (y := CFG_STAT_SHADOW_VALID) _ rfl (by decide),
      hd _ (x := CFG_STAT_BUSY) (y := CFG_STAT_SHADOW_VALID) rfl (by decide), hd _ (x := CFG_STAT_SHADOW_SLOT) (y := CFG_STAT_SHADOW_VALID) rfl (by decide),
      f_setF_one _ CFG_STAT_SHADOW_VALID (by decide) rfl]
  · rw [f_hit_disj (x := CFG_STAT_DONE) (y := CFG_STAT_BUSY) _ rfl (by decide), f_setF_zero _ CFG_STAT_BUSY (by decide)]

theorem shadowShown_keeps (s : State) (slot : Nat) : s.keeps (s.shadowShown slot) [CFG_STAT] :=
  keeps_hit (x := CFG_STAT_DONE) (keeps_setF (x := CFG_STAT_BUSY) _ (keeps_setF (x := CFG_STAT_SHADOW_SLOT) _
    (keeps_setF (x := CFG_STAT_SHADOW_VALID) _ (keeps_setF (x := CFG_STAT_LDR) _ (keeps_refl s _) (.head _)) (.head _)) (.head _)) (.head _)) (.head _)

/-- Words at rising addresses change no other register than those. -/
theorem rd_wrWords_ne (s : State) (a : Nat) (ws : List Word) {b : Nat} (h : ∀ i, i < ws.length → b ≠ a + 4 * i) :
    (s.wrWords a ws).rd b = s.rd b := by
  induction ws generalizing s a with
  | nil => rfl
  | cons w ws ih =>
    refine (ih (s.wr a w) (a + 4) fun i hi => ?_).trans (rd_wr_ne s w (h 0 (Nat.succ_pos _)))
    have := h (i + 1) (Nat.succ_lt_succ hi)
    omega

theorem wrHash_keeps (s : State) {ws : List Word} (h : ws.length = 12) : s.keeps (s.wrWords (CFG_SH_HASH 0) ws) ((List.range 12).map CFG_SH_HASH) := by
  intro b hb
  refine rd_wrWords_ne s _ ws fun i hi he => hb (List.mem_map.mpr ⟨i, List.mem_range.mpr (h ▸ hi), ?_⟩)
  rw [he]
  rfl

/-- The registers that an image writes as it becomes the shadow. -/
def shadowRegs : List Nat := [CFG_STAT, CFG_ERR, CFG_SH_SID] ++ (List.range 12).map CFG_SH_HASH

theorem holdShadow_keeps (s : State) {i : Image} (h : i.hash.length = 12) : s.keeps (s.holdShadow i) shadowRegs := by
  rw [holdShadow_eq]
  refine keeps_trans (keeps_wrN _ (keeps_wrN _ ?_ (by decide)) (by decide)) (keeps_mono (wrHash_keeps _ h) fun x hx => List.mem_append_right _ hx)
  exact keeps_trans (keeps_of_regs (t := { s with cfg := { s.cfg with shadow := some i, nodesFor := none, loading := none } }) rfl _)
    (keeps_mono (shadowShown_keeps _ i.slot) (by simp [shadowRegs]))

theorem holdShadow_stat (s : State) {i : Image} (h : i.hash.length = 12) {x : Fld} (hx : x.reg = CFG_STAT) :
    (s.holdShadow i).f x = ({ s with cfg := { s.cfg with shadow := some i, nodesFor := none, loading := none } }.shadowShown i.slot).f x := by
  rw [holdShadow_eq, f_keeps (wrHash_keeps _ h) (by rw [hx]; decide), f_wrN_ne _ _ (by rw [hx]; decide), f_wrN_ne _ _ (by rw [hx]; decide)]

theorem holdShadow_sid (s : State) {i : Image} (h : i.hash.length = 12) : (s.holdShadow i).rdN CFG_SH_SID = i.sid % 4294967296 := by
  rw [holdShadow_eq, rdN_keeps (wrHash_keeps _ h) (by decide), rdN_wrN_same]

/-- Nothing but the configuration, registers and the bits set in this cycle differs. -/
def cfgFrame (s t : State) : Prop := t = { s with time := { s.time with hits := t.time.hits }, cfg := t.cfg, regs := t.regs }

theorem cfgFrame_trans {s t u : State} (h : s.cfgFrame t) (h' : t.cfgFrame u) : s.cfgFrame u := by
  unfold cfgFrame at *
  exact h'.trans (by rw [h])

theorem cfgFrame_of_regs {s t : State} (h : t = { s with regs := t.regs }) : s.cfgFrame t := by
  have h1 : t.time = s.time := by rw [h]
  have h2 : t.cfg = s.cfg := by rw [h]
  unfold cfgFrame
  rw [h1, h2]
  exact h

theorem hit_cfgFrame (s : State) (x : Fld) : s.cfgFrame (s.hit x) := rfl

theorem shadowShown_cfgFrame (s : State) (slot : Nat) : s.cfgFrame (s.shadowShown slot) := by
  have hs : ∀ (u : State) (x : Fld) (v : Nat), u.cfgFrame (u.setF x v) := fun u x v => cfgFrame_of_regs rfl
  exact cfgFrame_trans (cfgFrame_trans (cfgFrame_trans (cfgFrame_trans (hs _ _ _) (hs _ _ _)) (hs _ _ _)) (hs _ _ _)) (hit_cfgFrame _ _)

theorem holdShadow_cfgFrame (s : State) (i : Image) : s.cfgFrame (s.holdShadow i) := by
  have hs : ∀ (u : State) (a v : Nat), u.cfgFrame (u.wrN a v) := fun u a v => cfgFrame_of_regs rfl
  have hc : s.cfgFrame { s with cfg := { s.cfg with shadow := some i, nodesFor := none, loading := none } } := rfl
  rw [holdShadow_eq]
  exact cfgFrame_trans (cfgFrame_trans (cfgFrame_trans (cfgFrame_trans hc (shadowShown_cfgFrame _ _)) (hs _ _ _)) (hs _ _ _))
    (cfgFrame_of_regs (wrWords_frame _ _ _))

theorem shadowShown_cfg (s : State) (slot : Nat) : (s.shadowShown slot).cfg = s.cfg := rfl

theorem wrWords_cfg (s : State) (a : Nat) (ws : List Word) : (s.wrWords a ws).cfg = s.cfg := by rw [wrWords_frame]

theorem holdShadow_cfg (s : State) (i : Image) :
    (s.holdShadow i).cfg = { s.cfg with shadow := some i, nodesFor := none, loading := none } := by
  rw [holdShadow_eq, wrWords_cfg, wrN_cfg, wrN_cfg, shadowShown_cfg]

-- ===== LINK (R410, R412) =====

/-- What a change of a node's links leaves. -/
def linkNoted (s : State) (r : Fin 2) (x : NodeLink) : State :=
  (s.modRing r (fun y => { y with links := x :: y.links.filter (fun (z : NodeLink) => z.node != x.node) })).abandonClose r

/-- The links of a node as they stand are those told. -/
def linksSame (s : State) (r : Fin 2) (n : Nat) (p q l : Bool) : Bool :=
  match (s.ring r).links.find? (fun (x : NodeLink) => x.node == n) with | some x => x.p == p && x.s == q && x.loop == l | none => false

theorem linkMsg_eq (s : State) (r : Fin 2) (n : Nat) (p q l : Bool) : s.linkMsg r n p q l =
    if s.linksSame r n p q l then s else s.linkNoted r { node := n, p := p, s := q, loop := l, at_ := s.time.mono } := rfl

theorem linksSame_eq_false {s : State} {r : Fin 2} {n : Nat} {p q l : Bool}
    (h : ∀ x, (s.ring r).links.find? (fun (x : NodeLink) => x.node == n) = some x → x.p ≠ p ∨ x.s ≠ q ∨ x.loop ≠ l) :
    s.linksSame r n p q l = false := by
  unfold linksSame
  split
  · next x hx =>
    obtain h | h | h := h x hx <;> simp [h]
  · rfl

theorem linksSame_of_find {s : State} {r : Fin 2} {n : Nat} {x : NodeLink}
    (h : (s.ring r).links.find? (fun (x : NodeLink) => x.node == n) = some x) : s.linksSame r n x.p x.s x.loop = true := by
  unfold linksSame
  rw [h]
  simp

theorem execLink_eq {s u : State} (r : Fin 2) (n : Nat) (p q l : Bool) {m : Nat} (hu : u = s.runTo m) : exec (.link r n p q l m) s =
    .next (if u.rstate r = rMASTER then u.linkMsg r n p q l else u) := by
  subst hu
  rfl

theorem linkNoted_ring (s : State) (r : Fin 2) (x : NodeLink) : (s.linkNoted r x).ring r = { s.ring r with
    links := x :: (s.ring r).links.filter (fun (z : NodeLink) => z.node != x.node), closeAt := none } := by
  refine (ring_modRing_same (s.modRing r _) r _).trans ?_
  rw [ring_modRing_same]

theorem linkNoted_ring_ne (s : State) {r q : Fin 2} (x : NodeLink) (h : q ≠ r) : (s.linkNoted r x).ring q = s.ring q :=
  (ring_modRing_ne (s.modRing r _) _ h).trans (ring_modRing_ne s _ h)

theorem linkNoted_shown (s : State) (r : Fin 2) (x : NodeLink) :
    (s.linkNoted r x).f (KR_RING_CLOSE_READY r) = 0 ∧ (s.linkNoted r x).f (KR_RING_CLOSE_PEND r) = 0 := by
  unfold linkNoted abandonClose
  refine ⟨?_, f_setF_zero _ (KR_RING_CLOSE_PEND r) (Nat.le_of_ble_eq_true rfl)⟩
  rw [f_setF_disj (x := KR_RING_CLOSE_PEND r) (y := KR_RING_CLOSE_READY r) _ _ rfl (.inr (Nat.le_of_ble_eq_true rfl)),
    f_setF_zero _ (KR_RING_CLOSE_READY r) (Nat.le_of_ble_eq_true rfl)]

theorem linkNoted_keeps (s : State) (r : Fin 2) (x : NodeLink) : s.keeps (s.linkNoted r x) [KR_RING r] :=
  keeps_setF (x := KR_RING_CLOSE_PEND r) 0 (keeps_setF (x := KR_RING_CLOSE_READY r) 0 (keeps_of_regs rfl _) (.head _)) (.head _)

theorem linkNoted_ringFrame (s : State) (r : Fin 2) (x : NodeLink) : s.ringFrame (s.linkNoted r x) :=
  ringFrame_trans (ringFrame_trans (ringFrame_trans (modRing_ringFrame s r _) (modRing_ringFrame _ r _)) (setF_ringFrame _ _ _)) (setF_ringFrame _ _ _)

-- ===== messages for a handler (R141, R386) =====

/-- The queue of a ring's messages. -/
def svcQueue (r : Fin 2) : Fin 16 := if r = 0 then 2 else 3

/-- The work that a message makes. -/
def svcWork (s : State) (r : Fin 2) (m : SvcMsg) (y : Route) : Work :=
  { src := 2 + r.val, handler := y.handler, key := y.key, group := y.group,
    payload := natLE 2 m.node ++ natLE 1 m.type ++ natLE 1 0 ++ natLE 4 m.tag ++ m.data, entry := s.time.now, late := false }

/-- A message is dropped, counted and told. -/
def svcDropped (s : State) (r : Fin 2) (m : SvcMsg) : State :=
  (s.bump (KR_CNT_SVC r)).raise (mkFault (srcKR r) 0x64 cINFO 0 [.inst r, .code m.type])

theorem natLE_length (n v : Nat) : (natLE n v).length = n := by
  induction n generalizing v with
  | zero => rfl
  | succ n ih => exact congrArg (· + 1) (ih (v / 256))

theorem svcWork_length (s : State) (r : Fin 2) (m : SvcMsg) (y : Route) : max 1 (s.svcWork r m y).payload.length = 8 + m.data.length := by
  simp only [svcWork, List.length_append, natLE_length]
  omega

theorem execSvcHandlerMessage_master {s : State} {r : Fin 2} {x : SvcMsg} (hm : s.rstate r = rMASTER) (ht : 0x10 ≤ x.type) :
    exec (.svcHandlerMessage r x) s = .next (s.handlerMsg r x) := congrArg Host.Outcome.next (if_pos ⟨hm, ht⟩)

/-- A message whose type has no route is dropped. -/
theorem handlerMsg_no_route {s : State} {r : Fin 2} {m : SvcMsg} (h : ∀ y ∈ s.st.svcRoutes, y.code ≠ m.type) :
    s.handlerMsg r m = s.svcDropped r m := by
  have hf : s.st.svcRoutes.find? (fun (x : Route) => x.code == m.type) = none := by simpa using h
  unfold handlerMsg
  rw [hf]
  rfl

theorem handlerMsg_route {s : State} {r : Fin 2} {m : SvcMsg} {y : Route} (h : s.st.svcRoutes.find? (fun (x : Route) => x.code == m.type) = some y) :
    s.handlerMsg r m = if (s.putWork (svcQueue r) (s.svcWork r m y)).2 then (s.putWork (svcQueue r) (s.svcWork r m y)).1
      else (s.putWork (svcQueue r) (s.svcWork r m y)).1.svcDropped r m := by
  unfold handlerMsg svcQueue
  rw [h]
  by_cases hr : r = 0
  · simp only [if_pos hr]
    rfl
  · simp only [if_neg hr]
    rfl

theorem svcQueue_open (s : State) (r : Fin 2) : (s.stopped && (svcQueue r == 4 || svcQueue r == 5 || svcQueue r == 15)) = false := by
  unfold svcQueue
  split <;> simp

theorem offerOr_some {s u : State} {n : Fin 16} {i : QItem} (h : s.offer n i = some u) : s.offerOr n i = (u, true) := by
  unfold offerOr
  rw [h]

theorem offerOr_none {s : State} {n : Fin 16} {i : QItem} (h : s.offer n i = none) : s.offerOr n i = (s.bump (HQ_CNT_REF n), false) := by
  unfold offerOr
  rw [h]

/-- The item of a message's work. -/
def svcItem (s : State) (r : Fin 2) (m : SvcMsg) (y : Route) : QItem := ⟨8 + m.data.length, .work { s.svcWork r m y with id := s.sched.nextId }⟩

theorem putWork_svc (s : State) (r : Fin 2) (m : SvcMsg) (y : Route) : s.putWork (svcQueue r) (s.svcWork r m y) =
    if (s.offerOr (svcQueue r) (s.svcItem r m y)).2 then ((s.offerOr (svcQueue r) (s.svcItem r m y)).1.join (s.svcWork r m y), true)
    else ((s.offerOr (svcQueue r) (s.svcItem r m y)).1, false) := by
  unfold putWork svcItem
  rw [if_neg (by simp [svcQueue_open]), ← svcWork_length s r m y]

/-- A message that its queue admits joins the ready list. -/
theorem handlerMsg_admitted {s u : State} {r : Fin 2} {m : SvcMsg} {y : Route}
    (h : s.st.svcRoutes.find? (fun (x : Route) => x.code == m.type) = some y) (ho : s.offer (svcQueue r) (s.svcItem r m y) = some u) :
    s.handlerMsg r m = u.join (s.svcWork r m y) := by
  rw [handlerMsg_route h, putWork_svc, offerOr_some ho]
  rfl

/-- A message that finds no cells is dropped. -/
theorem handlerMsg_refused {s : State} {r : Fin 2} {m : SvcMsg} {y : Route}
    (h : s.st.svcRoutes.find? (fun (x : Route) => x.code == m.type) = some y) (ho : s.offer (svcQueue r) (s.svcItem r m y) = none) :
    s.handlerMsg r m = (s.bump (HQ_CNT_REF (svcQueue r))).svcDropped r m := by
  rw [handlerMsg_route h, putWork_svc, offerOr_none ho]
  rfl

-- ===== work that joins (R143) =====

theorem leaveGroup_ready (s : State) : s.leaveGroup.sched.ready = s.sched.ready ∧ s.leaveGroup.sched.nextId = s.sched.nextId ∧
    s.leaveGroup = { s with sched := s.leaveGroup.sched } := by
  unfold leaveGroup
  split
  · exact ⟨rfl, rfl, rfl⟩
  · exact ⟨rfl, rfl, rfl⟩

/-- Work that joins lengthens the ready list by one and takes the next number. -/
theorem join_sched (s : State) (w : Work) :
    (s.join w).sched.ready.length = s.sched.ready.length + 1 ∧ (s.join w).sched.nextId = s.sched.nextId + 1 := by
  obtain ⟨h1, h2, -⟩ := s.leaveGroup_ready
  unfold join placeWork
  dsimp only
  rw [h1, h2]
  refine ⟨?_, rfl⟩
  rw [List.length_append, List.length_cons, List.length_take, List.length_drop]
  omega

theorem join_frame (s : State) (w : Work) : s.join w = { s with sched := (s.join w).sched } := by
  obtain ⟨-, -, h⟩ := s.leaveGroup_ready
  unfold join placeWork
  dsimp only
  rw [h]

end State

end Sys2Proof.Machine

/-! SUPPORT. O37: the closing of staging (R30, R338, R374, R442). -/

namespace Sys2Proof.Machine

namespace State

theorem execStagingClose_due {s u : State} {r : Fin 2} {m : Nat} (hu : u = s.runTo m) (hm : u.rstate r = rMASTER) (hc : (u.ring r).closed = none)
    (hd : (u.ring r).nextDep ≤ u.time.now + 5000 * Config.nsUnits) (ht : u.closeMono r = u.time.mono) :
    exec (.stagingClose r m) s = .next (u.closeStaging r) := by
  subst hu
  exact congrArg Host.Outcome.next (if_pos ⟨hm, by rw [hc]; rfl, hd, ht⟩)

theorem execStagingClose_not_due {s u : State} {r : Fin 2} {m : Nat} (hu : u = s.runTo m) (h : ¬ (u.rstate r = rMASTER ∧ (u.ring r).closed = none ∧
    (u.ring r).nextDep ≤ u.time.now + 5000 * Config.nsUnits ∧ u.closeMono r = u.time.mono)) :
    exec (.stagingClose r m) s = .next u := by
  subst hu
  refine congrArg Host.Outcome.next (if_neg ?_)
  rintro ⟨h1, h2, h3, h4⟩
  exact h ⟨h1, Option.isNone_iff_eq_none.mp h2, h3, h4⟩

-- ===== telegrams of the SOUT segments (R338) =====

/-- What building telegrams may change. -/
structure telegramsBuilt (s t : State) : Prop where
  keeps : s.keeps t (SAFE_STAT :: s.offRegs)
  frame : s.offFrame t

theorem telegramsBuilt_refl (s : State) : s.telegramsBuilt s := ⟨keeps_refl s _, rfl⟩

theorem telegramsBuilt.offRegs {s t : State} (h : s.telegramsBuilt t) : t.offRegs = s.offRegs := by
  refine (offRegs_of_keeps h.keeps fun p hp => ?_).1
  obtain hp | hp := List.mem_cons.mp hp
  · have := PP_CFG_ge p
    rw [hp] at this
    exact absurd this (by decide)
  · exact PP_CFG_notMem_offRegs s p hp

theorem telegramsBuilt_trans {s t u : State} (h : s.telegramsBuilt t) (h' : t.telegramsBuilt u) : s.telegramsBuilt u :=
  ⟨keeps_trans h.keeps (h.offRegs ▸ h'.keeps), offFrame_trans h.frame h'.frame⟩

theorem telegramsBuilt.rings {s t : State} (h : s.telegramsBuilt t) : t.rings = s.rings := by
  have hf := h.frame
  unfold offFrame at hf
  rw [hf]

theorem telegramsBuilt.ringsKept {s t : State} (h : s.telegramsBuilt t) : s.ringsKept t :=
  ringsKept_of_keeps h.rings h.keeps fun a h0 h1 hm => by
    obtain hm | hm := List.mem_cons.mp hm
    · rw [hm] at h1
      exact absurd h1 (by decide)
    · exact notMem_offRegs (by omega) (by unfold WHEEL_OCC; omega) (.inl (by omega)) hm

theorem splitTold_built (s : State) (m : FaultMsg) : s.telegramsBuilt (((s.setF SAFE_STAT_XCMP 1).offGroups 15 11).raise m) :=
  ⟨keeps_raise m (keeps_offGroups (l := [SAFE_STAT]) (keeps_setF (x := SAFE_STAT_XCMP) 1 (keeps_refl s _) (.head _)) (by decide) 15 11),
    offFrame_trans (offFrame_trans (setF_offFrame s _ _) (offGroups_offStep _ _ _).offFrame) (raise_offFrame _ _)⟩

theorem txTelegram_built (s : State) (d : SafConn) : s.telegramsBuilt (s.txTelegram d).2 := by
  have hm : ∀ h : ConnSt → ConnSt, s.telegramsBuilt (s.modConn d.num h) := fun h => ⟨keeps_of_regs rfl _, modSafe_offFrame s _⟩
  unfold txTelegram
  dsimp only
  split
  · exact hm _
  · exact telegramsBuilt_trans (hm _) (splitTold_built _ _)

theorem soutPays_built (l : List RSeg) (x : State × SegPays) : x.1.telegramsBuilt (l.foldl soutPay x).1 := by
  induction l generalizing x with
  | nil => exact telegramsBuilt_refl _
  | cons g l ih =>
    refine telegramsBuilt_trans ?_ (ih _)
    unfold soutPay
    split
    · exact txTelegram_built _ _
    · exact telegramsBuilt_refl _

-- ===== the chunk of a snapshot (R442) =====

/-- The registers that tell of the snapshot streamed last. -/
def streamRegs : List Nat := [RED_CNT_SENT, RED_SNAP, RED_SNAP_LEN] ++ (List.range 12).map RED_SNAP_HASH

/-- What sending a chunk may change. -/
structure chunkSent (s t : State) : Prop where
  keeps : (∀ x, s.pair.stream = some x → x.2.2.1.length ≤ 12) → s.keeps t streamRegs
  low : lowKept 0xE0000 s t
  frame : t = { s with hq := t.hq, pair := t.pair, regs := t.regs }

theorem chunkSent_refl (s : State) : s.chunkSent s := ⟨fun _ => keeps_refl s _, lowKept_refl _ s, rfl⟩

theorem streamed_keeps (s : State) (seq len : Nat) {hash : List Word} (time : Instant) (h : hash.length ≤ 12) :
    s.keeps (s.streamed seq len hash time) streamRegs := by
  have hw : s.keeps (((s.bump RED_CNT_SENT).wrN RED_SNAP seq).wrN RED_SNAP_LEN len) streamRegs :=
    keeps_wrN _ (keeps_wrN _ (keeps_bump (keeps_refl s _) (by decide)) (by decide)) (by decide)
  refine keeps_congr (keeps_trans hw fun a ha => rd_wrWords_ne _ (RED_SNAP_HASH 0) hash fun i hi he => ha ?_) rfl
  refine List.mem_append_right _ (List.mem_map.mpr ⟨i, List.mem_range.mpr (by omega), ?_⟩)
  rw [he]
  unfold RED_SNAP_HASH
  omega

theorem streamed_low (s : State) (seq len : Nat) (hash : List Word) (time : Instant) : lowKept 0xE0000 s (s.streamed seq len hash time) := by
  intro a ha
  refine (rd_wrWords_ne _ (RED_SNAP_HASH 0) hash fun i _ => ?_).trans ?_
  · unfold RED_SNAP_HASH
    omega
  · rw [rd_wrN_ne _ _ (by unfold RED_SNAP_LEN; omega), rd_wrN_ne _ _ (by unfold RED_SNAP; omega), rd_bump_ne _ (by unfold RED_CNT_SENT; omega)]

theorem streamed_frame (s : State) (seq len : Nat) (hash : List Word) (time : Instant) :
    s.streamed seq len hash time = { s with pair := (s.streamed seq len hash time).pair, regs := (s.streamed seq len hash time).regs } := by
  unfold streamed
  dsimp only
  rw [wrWords_frame]
  rfl

theorem nextChunk_sent {s t : State} {b : List Byte} (h : s.nextChunk = some (b, t)) : s.chunkSent t := by
  unfold nextChunk at h
  split at h
  · next seq len hash time off n s' hs ht =>
    obtain ⟨-, -, hf⟩ := take_some ht
    have hr : s'.regs = s.regs := by rw [hf]
    have hk : ∀ l, s.keeps s' l := keeps_of_regs hr
    simp only [Option.some.injEq, Prod.mk.injEq] at h
    obtain ⟨-, h⟩ := h
    split at h
    · subst h
      refine ⟨fun hl => keeps_trans (hk _) (streamed_keeps _ _ _ _ (hl _ hs)), lowKept_trans (fun a _ => hk [] a (by simp)) (streamed_low _ _ _ _ _), ?_⟩
      rw [streamed_frame, hf]
    · subst h
      refine ⟨fun _ => hk _, fun a _ => hk [] a (by simp), ?_⟩
      rw [hf]
  · cases h

theorem ckptPay_sent (x : State × SegPays) (seg : Option RSeg) : x.1.chunkSent (ckptPay x seg).1 := by
  unfold ckptPay
  split
  · split
    · exact chunkSent_refl _
    · split
      · next b t h => exact nextChunk_sent h
      · exact chunkSent_refl _
  · exact chunkSent_refl _

-- ===== the next message down (R385) =====

/-- What taking a staged message may change. -/
structure svcPulled (s t : State) (r : Fin 2) : Prop where
  items : ∀ x ∈ (t.queue (hqOf r)).items, x ∈ (s.queue (hqOf r)).items
  ring : t.ring r = { s.ring r with svcDn := (t.ring r).svcDn, svcFrag := (t.ring r).svcFrag }
  others : ∀ q, q ≠ r → t.ring q = s.ring q
  frame : t = { s with hq := t.hq, rings := t.rings }

theorem svcPulled_refl (s : State) (r : Fin 2) : s.svcPulled s r := ⟨fun _ h => h, rfl, fun _ _ => rfl, rfl⟩

theorem svcTaken_pulled (s : State) (r : Fin 2) (ix k : Nat) (m : SvcMsg) :
    s.svcPulled (((s.modQueue (hqOf r) (fun q => { q with items := q.items.eraseIdx ix })).freeCells (hqOf r) k).modRing r
      (fun y => { y with svcDn := [m], svcFrag := 0 })) r where
  items x hx := by
    have hi : ((((s.modQueue (hqOf r) (fun q => { q with items := q.items.eraseIdx ix })).freeCells (hqOf r) k).modRing r
        (fun y => { y with svcDn := [m], svcFrag := 0 })).queue (hqOf r)).items = (s.queue (hqOf r)).items.eraseIdx ix := by
      refine (freeCells_items _ _ _ _).trans ?_
      simp [queue, modQueue]
    rw [hi] at hx
    exact List.mem_of_mem_eraseIdx hx
  ring := by
    rw [ring_modRing_same]
    rfl
  others q hq := ring_modRing_ne _ _ hq
  frame := rfl

theorem pullSvc_pulled (s : State) (r : Fin 2) : s.svcPulled (s.pullSvc r) r := by
  unfold pullSvc
  split
  · split
    · split
      · exact svcTaken_pulled s r _ _ _
      · exact svcPulled_refl s r
    · exact svcPulled_refl s r
  · exact svcPulled_refl s r

-- ===== staging closes (R30, R40, R374) =====

/-- A staged item was written before a cycle. -/
def stagedBefore (at_ : Nat) (i : QItem) : Bool := match i.body with | .staged _ _ _ _ t => decide (t < at_) | _ => false

theorem le_of_not_stagedBefore {at_ : Nat} {x : QItem} (h : stagedBefore at_ x = false) {a b c : Nat} {d : List Byte} {e : Nat}
    (hx : x.body = .staged a b c d e) : at_ ≤ e := by
  unfold stagedBefore at h
  rw [hx] at h
  simpa using h

/-- The telegrams and the payloads of a departure. -/
def soutDone (s : State) (r : Fin 2) : State × SegPays :=
  ((allSegs (s.ringDef r)).filter (fun (g : RSeg) => g.kind == 3)).foldl soutPay (s, s.outPays r (s.closeMono r))

def paysDone (s : State) (r : Fin 2) : State × SegPays := ckptPay (s.soutDone r) ((allSegs (s.ringDef r)).find? (fun (g : RSeg) => g.kind == 7))

/-- The payloads are kept for the departure; what was written before the closing cycle leaves the queue. -/
def paysKept (s : State) (r : Fin 2) (at_ : Nat) (p : SegPays) : State :=
  (s.withdraw (hqOf r) (stagedBefore at_)).modRing r (fun x => { x with
    closed := some p, refused := x.refused.filter (fun (y : Nat × Nat) => decide (at_ ≤ y.2)) })

theorem closeStaging_eq (s : State) (r : Fin 2) :
    s.closeStaging r = ((s.paysDone r).1.paysKept r (s.closeMono r) (s.paysDone r).2).pullSvc r := rfl

theorem paysKept_ring (s : State) (r : Fin 2) (at_ : Nat) (p : SegPays) : (s.paysKept r at_ p).ring r = { s.ring r with
    closed := some p, refused := (s.ring r).refused.filter (fun (y : Nat × Nat) => decide (at_ ≤ y.2)) } := ring_modRing_same _ _ _

theorem paysKept_ring_ne (s : State) {r q : Fin 2} (at_ : Nat) (p : SegPays) (h : q ≠ r) : (s.paysKept r at_ p).ring q = s.ring q :=
  ring_modRing_ne (s.withdraw (hqOf r) (stagedBefore at_)) _ h

theorem paysKept_items (s : State) (r : Fin 2) (at_ : Nat) (p : SegPays) :
    ((s.paysKept r at_ p).queue (hqOf r)).items = (s.queue (hqOf r)).items.filter (fun i => !stagedBefore at_ i) :=
  (s.withdraw_items (hqOf r) (stagedBefore at_)).1

theorem paysKept_frame (s : State) (r : Fin 2) (at_ : Nat) (p : SegPays) :
    s.paysKept r at_ p = { s with hq := (s.paysKept r at_ p).hq, rings := (s.paysKept r at_ p).rings } := rfl

/-- What the closing of staging does to its ring and to the queue. -/
structure closedAt (s t : State) (r : Fin 2) (at_ : Nat) : Prop where
  items : ∀ x ∈ (t.queue (hqOf r)).items, ∀ a b c d e, x.body = .staged a b c d e → at_ ≤ e
  ring : ∃ p, t.ring r = { s.ring r with
    closed := some p, refused := (s.ring r).refused.filter (fun (y : Nat × Nat) => decide (at_ ≤ y.2)),
    svcDn := (t.ring r).svcDn, svcFrag := (t.ring r).svcFrag }
  others : ∀ q, q ≠ r → t.ring q = s.ring q

theorem pullSvc_closedAt (s : State) (r : Fin 2) (at_ : Nat) (p : SegPays) : s.closedAt ((s.paysKept r at_ p).pullSvc r) r at_ := by
  have h := pullSvc_pulled (s.paysKept r at_ p) r
  refine ⟨fun x hx a b c d e he => ?_, ⟨p, ?_⟩, fun q hq => (h.others q hq).trans (paysKept_ring_ne s at_ p hq)⟩
  · have hm := h.items x hx
    rw [paysKept_items, List.mem_filter] at hm
    exact le_of_not_stagedBefore (by simpa using hm.2) he
  · rw [h.ring, paysKept_ring]

theorem pullSvc_frame (s : State) (r : Fin 2) (at_ : Nat) (p : SegPays) : (s.paysKept r at_ p).pullSvc r = { s with
    hq := ((s.paysKept r at_ p).pullSvc r).hq, rings := ((s.paysKept r at_ p).pullSvc r).rings } := by
  have h := (pullSvc_pulled (s.paysKept r at_ p) r).frame
  rw [paysKept_frame s r at_ p] at h ⊢
  exact h

/-- Nothing but what closing staging may write differs. -/
def stageFrame (s t : State) : Prop := t = { s with
  time := { s.time with hits := t.time.hits }, hq := t.hq, wheel := t.wheel, tiles := t.tiles, pps := t.pps, safe := t.safe, pair := t.pair,
  rings := t.rings, flt := t.flt, regs := t.regs }

theorem stageFrame_trans {s t u : State} (h : s.stageFrame t) (h' : t.stageFrame u) : s.stageFrame u := by
  unfold stageFrame at *
  exact h'.trans (by rw [h])

theorem telegramsBuilt.stageFrame {s t : State} (h : s.telegramsBuilt t) : s.stageFrame t := by
  have hf := h.frame
  unfold offFrame at hf
  unfold State.stageFrame
  rw [hf]

theorem chunkSent.stageFrame {s t : State} (h : s.chunkSent t) : s.stageFrame t := by
  have hf := h.frame
  unfold State.stageFrame
  rw [hf]

theorem soutDone_built (s : State) (r : Fin 2) : s.telegramsBuilt (s.soutDone r).1 :=
  soutPays_built _ (s, s.outPays r (s.closeMono r))

theorem paysDone_sent (s : State) (r : Fin 2) : (s.soutDone r).1.chunkSent (s.paysDone r).1 := ckptPay_sent _ _

/-- The registers that closing staging may write. -/
def stageRegs (s : State) : List Nat := [RED_CNT_SENT, RED_SNAP, RED_SNAP_LEN, SAFE_STAT] ++ (List.range 12).map RED_SNAP_HASH ++ s.offRegs

theorem paysDone_keeps (s : State) (r : Fin 2) (h : ∀ x, s.pair.stream = some x → x.2.2.1.length ≤ 12) : s.keeps (s.paysDone r).1 s.stageRegs := by
  have hb := soutDone_built s r
  have hp : (s.soutDone r).1.pair = s.pair := by
    have hf := hb.frame
    unfold offFrame at hf
    rw [hf]
  have h1 : ∀ x ∈ SAFE_STAT :: s.offRegs, x ∈ s.stageRegs := by
    intro x hx
    obtain hx | hx := List.mem_cons.mp hx
    · simp [stageRegs, hx]
    · exact List.mem_append_right _ hx
  have h2 : ∀ x ∈ streamRegs, x ∈ s.stageRegs := by
    intro x hx
    obtain hx | hx := List.mem_append.mp hx
    · refine List.mem_append_left _ (List.mem_append_left _ ?_)
      simp only [List.mem_cons, List.not_mem_nil, or_false] at hx ⊢
      tauto
    · exact List.mem_append_left _ (List.mem_append_right _ hx)
  exact keeps_trans (keeps_mono hb.keeps h1) (keeps_mono ((paysDone_sent s r).keeps (by rw [hp]; exact h)) h2)

theorem paysDone_ringsKept (s : State) (r : Fin 2) : s.ringsKept (s.paysDone r).1 := by
  have h := paysDone_sent s r
  refine ringsKept_trans (soutDone_built s r).ringsKept ⟨?_, fun a _ h1 => h.low a (by omega)⟩
  have hf := h.frame
  rw [hf]

theorem closedAt.congr {s v t : State} {r : Fin 2} {at_ : Nat} (h : v.closedAt t r at_) (hr : v.rings = s.rings) : s.closedAt t r at_ :=
  ⟨h.items, by rw [← ring_congr hr]; exact h.ring, fun q hq => (h.others q hq).trans (ring_congr hr q)⟩

theorem closeStaging_closedAt (s : State) (r : Fin 2) : s.closedAt (s.closeStaging r) r (s.closeMono r) :=
  (pullSvc_closedAt (s.paysDone r).1 r (s.closeMono r) (s.paysDone r).2).congr (paysDone_ringsKept s r).1

theorem closeStaging_regs (s : State) (r : Fin 2) : (s.closeStaging r).regs = (s.paysDone r).1.regs := by
  rw [closeStaging_eq, pullSvc_frame]

theorem closeStaging_stageFrame (s : State) (r : Fin 2) : s.stageFrame (s.closeStaging r) := by
  refine stageFrame_trans (stageFrame_trans (soutDone_built s r).stageFrame (paysDone_sent s r).stageFrame) ?_
  have h := pullSvc_frame (s.paysDone r).1 r (s.closeMono r) (s.paysDone r).2
  rw [← closeStaging_eq] at h
  unfold stageFrame
  rw [h]

/-- With OUT segments alone, closing staging keeps the payloads that are staged and writes nothing else. -/
theorem paysDone_out {s : State} {r : Fin 2} (h : ∀ g ∈ allSegs (s.ringDef r), g.kind = 1) : s.paysDone r = (s, s.outPays r (s.closeMono r)) := by
  have h3 : (allSegs (s.ringDef r)).filter (fun (g : RSeg) => g.kind == 3) = [] := by simpa using fun g hg => by simp [h g hg]
  have h7 : (allSegs (s.ringDef r)).find? (fun (g : RSeg) => g.kind == 7) = none := by simpa using fun g hg => by simp [h g hg]
  unfold paysDone soutDone
  rw [h3, h7]
  rfl

theorem closeStaging_out {s : State} {r : Fin 2} (h : ∀ g ∈ allSegs (s.ringDef r), g.kind = 1) :
    ((s.closeStaging r).ring r).closed = some (s.outPays r (s.closeMono r)) ∧
      s.closeStaging r = { s with hq := (s.closeStaging r).hq, rings := (s.closeStaging r).rings } := by
  have he : s.closeStaging r = (s.paysKept r (s.closeMono r) (s.outPays r (s.closeMono r))).pullSvc r := by rw [closeStaging_eq, paysDone_out h]
  rw [he]
  refine ⟨?_, pullSvc_frame s r _ _⟩
  rw [(pullSvc_pulled _ r).ring, paysKept_ring]

end State

end Sys2Proof.Machine

/-! SUPPORT. O37: a cycle departs (R364, R374, R381, R403, R404, R409). -/

namespace Sys2Proof.Machine

namespace State

/-- What a ring's boundary does at its master: what is out counts as missing, staging that is open closes, the frame departs. -/
def cycleAligned (s : State) (r : Fin 2) : State := (s.finishCycle r).ringAlign r

def cycleStaged (s : State) (r : Fin 2) : State :=
  if ((s.cycleAligned r).ring r).closed.isNone then (s.cycleAligned r).closeStaging r else s.cycleAligned r

theorem execRingCycle_due {s u : State} {r : Fin 2} {m : Nat} (hu : u = (s.runTo m).takeStep.swapFirst) (hm : u.rstate r = rMASTER)
    (hd : u.ringDue r = true) : exec (.ringCycle r m) s = .next ((u.cycleStaged r).depart r) := by
  subst hu
  exact congrArg Host.Outcome.next (if_pos ⟨hm, hd⟩)

theorem execRingCycle_not_due {s u : State} {r : Fin 2} {m : Nat} (hu : u = (s.runTo m).takeStep.swapFirst)
    (h : u.rstate r ≠ rMASTER ∨ u.ringDue r = false) : exec (.ringCycle r m) s = .next u := by
  subst hu
  refine congrArg Host.Outcome.next (if_neg ?_)
  rintro ⟨h1, h2⟩
  obtain h | h := h
  · exact h h1
  · simp [h] at h2

-- ===== what the frame takes with it (R373, R384, R385) =====

/-- What the messages and payloads that a frame takes with it change. -/
structure cycleTaken (r : Fin 2) (s t : State) : Prop where
  keeps : s.keeps t [KR_CNT_NDROP r]
  ring : t.ring r = { s.ring r with svcDn := (t.ring r).svcDn, svcFrag := (t.ring r).svcFrag, grant := (t.ring r).grant,
                                    txSeq := (t.ring r).txSeq, lastPay := (t.ring r).lastPay }
  others : ∀ q, q ≠ r → t.ring q = s.ring q
  frame : s.ringFrame t

theorem cycleTaken_refl (r : Fin 2) (s : State) : cycleTaken r s s := ⟨keeps_refl s _, rfl, fun _ _ => rfl, rfl⟩

theorem cycleTaken_trans {r : Fin 2} {s t u : State} (h : cycleTaken r s t) (h' : cycleTaken r t u) : cycleTaken r s u :=
  ⟨keeps_trans h.keeps h'.keeps, h'.ring.trans (by rw [h.ring]), fun q hq => (h'.others q hq).trans (h.others q hq),
    ringFrame_trans h.frame h'.frame⟩

theorem modRing_cycleTaken (s : State) (r : Fin 2) (g : RingState → RingState) (hg : ∀ x, g x = { x with
    svcDn := (g x).svcDn, svcFrag := (g x).svcFrag, grant := (g x).grant, txSeq := (g x).txSeq, lastPay := (g x).lastPay }) :
    cycleTaken r s (s.modRing r g) where
  keeps := keeps_of_regs rfl _
  ring := by
    rw [ring_modRing_same]
    exact hg _
  others q hq := ring_modRing_ne s g hq
  frame := modRing_ringFrame s r g

theorem bump_cycleTaken (s : State) (r : Fin 2) : cycleTaken r s (s.bump (KR_CNT_NDROP r)) :=
  ⟨keeps_bump (keeps_refl s _) (.head _), rfl, fun _ _ => rfl, wr_ringFrame s _ _⟩

theorem svcDown_taken (s : State) (r : Fin 2) (g : Option Nat) : cycleTaken r s (s.svcDown r g).2 := by
  unfold svcDown
  dsimp only
  split
  · split <;> exact cycleTaken_refl r s
  · exact cycleTaken_refl r s
  · refine modRing_cycleTaken s r _ fun x => ?_
    split <;> rfl

theorem takeGrant_taken (s : State) (r : Fin 2) (g : Option Nat) : cycleTaken r s (s.takeGrant r g) := by
  unfold takeGrant
  split
  · exact modRing_cycleTaken s r _ fun _ => rfl
  · exact cycleTaken_refl r s

theorem markSent_taken (s : State) (r : Fin 2) (segs : List RSeg) (pays : List (Nat × List Byte)) : cycleTaken r s (s.markSent r segs pays) := by
  refine foldl_rel (cycleTaken_refl r) cycleTaken_trans _ s fun p _ s => ?_
  split
  · exact modRing_cycleTaken s r _ fun _ => rfl
  · exact bump_cycleTaken s r

theorem markSvc_taken (s : State) (r : Fin 2) (segs : List RSeg) (svc : List Byte) : cycleTaken r s (s.markSvc r segs svc) := by
  unfold markSvc
  split
  · split
    · exact cycleTaken_refl r s
    · exact modRing_cycleTaken s r _ fun _ => rfl
  · exact cycleTaken_refl r s

-- ===== the frame shown and gone (R364, R404, R411) =====

theorem showCycle_ring (s : State) (r : Fin 2) (mode : Nat) (o p q : Bool) (k : Fin 2) : (s.showCycle r mode o p q).ring k = s.ring k := rfl

theorem showCycle_keeps (s : State) (r : Fin 2) (mode : Nat) (o p q : Bool) : s.keeps (s.showCycle r mode o p q) [KR_CYC r, KR_STAT r, KR_RING r] :=
  keeps_setB (x := KR_RING_COPY_S r) _ (keeps_setB (x := KR_RING_COPY_P r) _ (keeps_setB (x := KR_RING_NARROW r) _
    (keeps_setB (x := KR_RING_OPEN r) _ (keeps_setF (x := KR_STAT_MODE r) _ (keeps_wrN _ (keeps_refl s _) (.head _)) (.tail _ (.head _)))
      (.tail _ (.tail _ (.head _)))) (.tail _ (.tail _ (.head _)))) (.tail _ (.tail _ (.head _)))) (.tail _ (.tail _ (.head _)))

theorem showCycle_ringFrame (s : State) (r : Fin 2) (mode : Nat) (o p q : Bool) : s.ringFrame (s.showCycle r mode o p q) := by
  have hs : ∀ (u : State) (x : Fld) (v : Bool), u.ringFrame (u.setB x v) := fun u x v => setF_ringFrame u x _
  exact ringFrame_trans (ringFrame_trans (ringFrame_trans (ringFrame_trans (ringFrame_trans (wr_ringFrame s _ _) (setF_ringFrame _ _ _)) (hs _ _ _))
    (hs _ _ _)) (hs _ _ _)) (hs _ _ _)

/-- The registers show the frame's CYCLE and mode and whether it runs open. -/
theorem showCycle_shown (s : State) (r : Fin 2) {mode : Nat} (o p q : Bool) (hm : mode < 4) :
    (s.showCycle r mode o p q).rdN (KR_CYC r) = (s.ring r).nextCyc % 4294967296 ∧ (s.showCycle r mode o p q).f (KR_STAT_MODE r) = mode ∧
      (s.showCycle r mode o p q).f (KR_RING_OPEN r) = b2n o := by
  have hc : KR_CYC r ≠ KR_RING r := by simp [KR_CYC, KR_RING]
  have hs : KR_STAT r ≠ KR_RING r := by simp [KR_STAT, KR_RING]
  unfold showCycle
  refine ⟨?_, ?_, ?_⟩
  · simp only [setB_eq]
    rw [rdN_setF_ne _ (x := KR_RING_COPY_S r) _ hc, rdN_setF_ne _ (x := KR_RING_COPY_P r) _ hc, rdN_setF_ne _ (x := KR_RING_NARROW r) _ hc,
      rdN_setF_ne _ (x := KR_RING_OPEN r) _ hc, rdN_setF_ne _ (x := KR_STAT_MODE r) _ (by simp [KR_STAT_MODE, KR_STAT, KR_CYC]), rdN_wrN_same]
  · rw [f_setB_ne _ (x := KR_RING_COPY_S r) _ hs, f_setB_ne _ (x := KR_RING_COPY_P r) _ hs, f_setB_ne _ (x := KR_RING_NARROW r) _ hs,
      f_setB_ne _ (x := KR_RING_OPEN r) _ hs, f_setF_same _ (KR_STAT_MODE r) _ (Nat.le_of_ble_eq_true rfl)]
    exact Nat.mod_eq_of_lt hm
  · rw [f_setB_disj (x := KR_RING_COPY_S r) (y := KR_RING_OPEN r) _ _ rfl (.inr (Nat.le_of_ble_eq_true rfl)),
      f_setB_disj (x := KR_RING_COPY_P r) (y := KR_RING_OPEN r) _ _ rfl (.inr (Nat.le_of_ble_eq_true rfl)),
      f_setB_disj (x := KR_RING_NARROW r) (y := KR_RING_OPEN r) _ _ rfl (.inr (Nat.le_of_ble_eq_true rfl))]
    exact f_setB_same _ (KR_RING_OPEN r) o (Nat.le_of_ble_eq_true rfl) rfl

/-- Of the status, the frame shown writes MODE alone. -/
theorem f_showCycle (s : State) (r : Fin 2) (mode : Nat) (o p q : Bool) {y : Fld} (hr : y.reg = KR_STAT r) (h : y.lo + y.width ≤ 3 ∨ 5 ≤ y.lo) :
    (s.showCycle r mode o p q).f y = s.f y := by
  have hs : y.reg ≠ KR_RING r := by simp [hr, KR_STAT, KR_RING]
  have hd : 3 + 2 ≤ y.lo ∨ y.lo + y.width ≤ 3 := by omega
  unfold showCycle
  rw [f_setB_ne _ (x := KR_RING_COPY_S r) _ hs, f_setB_ne _ (x := KR_RING_COPY_P r) _ hs, f_setB_ne _ (x := KR_RING_NARROW r) _ hs,
    f_setB_ne _ (x := KR_RING_OPEN r) _ hs, f_setF_disj (x := KR_STAT_MODE r) _ _ hr hd, f_wrN_ne]
  simp [hr, KR_STAT, KR_CYC]

/-- What the ring holds once the frame is gone. -/
theorem departed_ring (s : State) (r : Fin 2) (cp cs : Option RCopy) :
    ((s.departed r cp cs).ring r).nextDep = (s.ring r).nextDep + s.ringPeriod r ∧
      ((s.departed r cp cs).ring r).nextCyc = ((s.ring r).nextCyc + 1) % 4294967296 ∧ ((s.departed r cp cs).ring r).done = false ∧
      ((s.departed r cp cs).ring r).closed = none ∧ ((s.departed r cp cs).ring r).valid = [] ∧ ((s.departed r cp cs).ring r).fresh = [] ∧
      ((s.departed r cp cs).ring r).noCopy = (s.ring r).noCopy := by
  unfold departed
  dsimp only
  split <;> simp [ring, modRing]

theorem departed_ring_ne (s : State) {r q : Fin 2} (cp cs : Option RCopy) (h : q ≠ r) : (s.departed r cp cs).ring q = s.ring q := by
  have hs : ∀ (u : State) (x : Fld) (v : Nat), (u.setF x v).ring q = u.ring q := fun _ _ _ => rfl
  unfold departed
  dsimp only
  split
  · rw [hs, ring_modRing_ne _ _ h, ring_modRing_ne _ _ h, ring_modRing_ne _ _ h]
  · rw [ring_modRing_ne _ _ h, ring_modRing_ne _ _ h]

theorem departed_keeps (s : State) (r : Fin 2) (cp cs : Option RCopy) : s.keeps (s.departed r cp cs) [KR_RING r] := by
  unfold departed
  dsimp only
  split
  · exact keeps_setF (x := KR_RING_CLOSE_PEND r) 0 (keeps_of_regs rfl _) (.head _)
  · exact keeps_of_regs rfl _

theorem departed_open (s : State) (r : Fin 2) (cp cs : Option RCopy) : (s.departed r cp cs).f (KR_RING_OPEN r) = s.f (KR_RING_OPEN r) := by
  unfold departed
  dsimp only
  split
  · exact f_setF_disj (x := KR_RING_CLOSE_PEND r) (y := KR_RING_OPEN r) _ _ rfl (.inr (Nat.le_of_ble_eq_true rfl))
  · rfl

theorem departed_ringFrame (s : State) (r : Fin 2) (cp cs : Option RCopy) : s.ringFrame (s.departed r cp cs) := by
  unfold departed
  dsimp only
  split
  · exact ringFrame_trans (ringFrame_trans (ringFrame_trans (modRing_ringFrame s r _) (modRing_ringFrame _ r _)) (modRing_ringFrame _ r _))
      (setF_ringFrame _ _ _)
  · exact ringFrame_trans (modRing_ringFrame s r _) (modRing_ringFrame _ r _)

-- ===== the departure up to the entry to open operation =====

/-- The unit as the frame is built: its message and its grant are taken. -/
def svcUp (s : State) (r : Fin 2) : State := (s.svcDown r (s.nextGrant r)).2.takeGrant r (s.nextGrant r)

/-- The copies that depart on P and on S. -/
def copyP (s : State) (r : Fin 2) : Option RCopy :=
  if !(s.decide_ r).2 || (s.svcUp r).flag (KR_STAT_LINK_P r) then
    some { f := (s.svcUp r).cycleFrame r false (s.decide_ r).1 0 (s.ring r).rttP ((s.ring r).closed.getD []) (s.svcDown r (s.nextGrant r)).1 }
  else none

def copyS (s : State) (r : Fin 2) : Option RCopy :=
  if (s.decide_ r).1 == fWIDE then
    some { f := (s.svcUp r).cycleFrame r true (s.decide_ r).1 1 (s.ring r).rttP ((s.ring r).closed.getD []) [] }
  else if (s.decide_ r).2 && (s.svcUp r).flag (KR_STAT_LINK_S r) then
    some { f := (s.svcUp r).cycleFrame r true (s.decide_ r).1 0 (s.ring r).rttS ((s.ring r).closed.getD []) (s.svcDown r (s.nextGrant r)).1 }
  else none

/-- The segments whose payloads have been sent. -/
def carried (s : State) (r : Fin 2) : List RSeg :=
  if (s.decide_ r).1 == fWIDE then allSegs { (s.svcUp r).ringDef r with segs := [] } else ((s.svcUp r).ringDef r).segs

def paysSent (s : State) (r : Fin 2) : State :=
  ((s.svcUp r).markSent r (s.carried r) ((s.ring r).closed.getD [])).markSvc r (s.carried r) (s.svcDown r (s.nextGrant r)).1

def frameGone (s : State) (r : Fin 2) : State :=
  ((s.paysSent r).showCycle r (s.decide_ r).1 (s.decide_ r).2 (s.copyP r).isSome (s.copyS r).isSome).departed r (s.copyP r) (s.copyS r)

/-- The CYCLE of a takeover's first frame is kept. -/
def tookOver (s : State) (r : Fin 2) : State :=
  if r = 0 ∧ (s.ring r).firstAt.isNone ∧ s.mode = mTAKEOVER then (s.frameGone r).wrN RED_TK_CYC (s.ring r).nextCyc else s.frameGone r

theorem depart_eq (s : State) (r : Fin 2) : s.depart r =
    if (s.decide_ r).2 ∧ !(s.svcUp r).flag (KR_RING_OPEN r) then (s.tookOver r).enterOpen r (s.ring r).nextCyc else s.tookOver r := rfl

theorem svcUp_taken (s : State) (r : Fin 2) : cycleTaken r s (s.svcUp r) := cycleTaken_trans (svcDown_taken s r _) (takeGrant_taken _ r _)

theorem paysSent_taken (s : State) (r : Fin 2) : cycleTaken r s (s.paysSent r) :=
  cycleTaken_trans (svcUp_taken s r) (cycleTaken_trans (markSent_taken _ r _ _) (markSvc_taken _ r _ _))

theorem svcUp_open (s : State) (r : Fin 2) : (s.svcUp r).flag (KR_RING_OPEN r) = s.flag (KR_RING_OPEN r) :=
  flag_keeps (svcUp_taken s r).keeps (by simp [KR_RING_OPEN, KR_RING, KR_CNT_NDROP])

theorem decide_lt (s : State) (r : Fin 2) : (s.decide_ r).1 < 4 := by
  unfold decide_
  dsimp only
  split_ifs <;> decide

/-- The registers that a departure writes. -/
def cycleRegs (r : Fin 2) : List Nat := [KR_CYC r, KR_STAT r, KR_RING r, KR_CNT_NDROP r, RED_TK_CYC]

/-- A departure without the entry to open operation. -/
structure cycleGone (s t : State) (r : Fin 2) : Prop where
  cyc : t.rdN (KR_CYC r) = (s.ring r).nextCyc % 4294967296
  mode : t.f (KR_STAT_MODE r) = (s.decide_ r).1
  opened : t.f (KR_RING_OPEN r) = b2n (s.decide_ r).2
  dep : (t.ring r).nextDep = (s.ring r).nextDep + s.ringPeriod r
  next : (t.ring r).nextCyc = ((s.ring r).nextCyc + 1) % 4294967296
  done : (t.ring r).done = false
  closed : (t.ring r).closed = none
  valid : (t.ring r).valid = []
  fresh : (t.ring r).fresh = []
  noCopy : (t.ring r).noCopy = (s.ring r).noCopy
  others : ∀ q, q ≠ r → t.ring q = s.ring q
  keeps : s.keeps t (cycleRegs r)
  stat : ∀ y : Fld, y.reg = KR_STAT r → (y.lo + y.width ≤ 3 ∨ 5 ≤ y.lo) → t.f y = s.f y
  frame : s.ringFrame t

theorem frameGone_gone (s : State) (r : Fin 2) : cycleGone s (s.frameGone r) r := by
  have hp := paysSent_taken s r
  have hw := showCycle_ring (s.paysSent r) r (s.decide_ r).1 (s.decide_ r).2 (s.copyP r).isSome (s.copyS r).isSome
  have hk := showCycle_keeps (s.paysSent r) r (s.decide_ r).1 (s.decide_ r).2 (s.copyP r).isSome (s.copyS r).isSome
  obtain ⟨h1, h2, h3⟩ := showCycle_shown (s.paysSent r) r (s.decide_ r).2 (s.copyP r).isSome (s.copyS r).isSome (decide_lt s r)
  have hx : ∀ y : Fld, y.reg = KR_STAT r → (y.lo + y.width ≤ 3 ∨ 5 ≤ y.lo) →
      ((s.paysSent r).showCycle r (s.decide_ r).1 (s.decide_ r).2 (s.copyP r).isSome (s.copyS r).isSome).f y = (s.paysSent r).f y := fun y =>
    f_showCycle _ r _ _ _ _
  have hf := showCycle_ringFrame (s.paysSent r) r (s.decide_ r).1 (s.decide_ r).2 (s.copyP r).isSome (s.copyS r).isSome
  have he : s.frameGone r = ((s.paysSent r).showCycle r (s.decide_ r).1 (s.decide_ r).2 (s.copyP r).isSome (s.copyS r).isSome).departed r
    (s.copyP r) (s.copyS r) := rfl
  generalize (s.paysSent r).showCycle r (s.decide_ r).1 (s.decide_ r).2 (s.copyP r).isSome (s.copyS r).isSome = v at *
  have hd := departed_keeps v r (s.copyP r) (s.copyS r)
  obtain ⟨r1, r2, r3, r4, r5, r6, r7⟩ := departed_ring v r (s.copyP r) (s.copyS r)
  have hc : (v.ring r).nextDep = (s.ring r).nextDep ∧ (v.ring r).nextCyc = (s.ring r).nextCyc ∧ (v.ring r).noCopy = (s.ring r).noCopy := by
    rw [hw, hp.ring]
    exact ⟨rfl, rfl, rfl⟩
  have hper : v.ringPeriod r = s.ringPeriod r := by
    unfold ringPeriod
    rw [f_keeps hk (x := KR_CFG_K r) (by simp [KR_CFG_K, KR_CFG, KR_CYC, KR_STAT, KR_RING]),
      f_keeps hp.keeps (x := KR_CFG_K r) (by simp [KR_CFG_K, KR_CFG, KR_CNT_NDROP])]
  rw [he]
  exact {
    cyc := by
      rw [rdN_keeps hd (by simp [KR_CYC, KR_RING]), h1, ← hw, hc.2.1]
    mode := (f_keeps hd (x := KR_STAT_MODE r) (by simp [KR_STAT_MODE, KR_STAT, KR_RING])).trans h2
    opened := (departed_open v r _ _).trans h3
    dep := by rw [r1, hc.1, hper]
    next := by rw [r2, hc.2.1]
    done := r3
    closed := r4
    valid := r5
    fresh := r6
    noCopy := by rw [r7, hc.2.2]
    others := fun q hq => by rw [departed_ring_ne v _ _ hq, hw, hp.others q hq]
    keeps := keeps_trans (keeps_trans (keeps_mono hp.keeps (by simp [cycleRegs])) (keeps_mono hk (by simp [cycleRegs])))
      (keeps_mono hd (by simp [cycleRegs]))
    stat := fun y hr hl => by
      rw [f_keeps hd (by simp [hr, KR_STAT, KR_RING]), hx y hr hl, f_keeps hp.keeps (by simp [hr, KR_STAT, KR_CNT_NDROP])]
    frame := ringFrame_trans (ringFrame_trans hp.frame hf) (departed_ringFrame v r _ _) }

theorem RED_TK_CYC_ne (r : Fin 2) : KR_CYC r ≠ RED_TK_CYC ∧ KR_STAT r ≠ RED_TK_CYC ∧ KR_RING r ≠ RED_TK_CYC := by
  unfold KR_CYC KR_STAT KR_RING krBase RED_TK_CYC
  omega

theorem tookOver_gone (s : State) (r : Fin 2) : cycleGone s (s.tookOver r) r := by
  have h := frameGone_gone s r
  obtain ⟨n1, n2, n3⟩ := RED_TK_CYC_ne r
  unfold tookOver
  split
  · exact { h with
      cyc := (rdN_wrN_ne _ _ n1).trans h.cyc
      mode := (f_wrN_ne (x := KR_STAT_MODE r) _ _ n2).trans h.mode
      opened := (f_wrN_ne (x := KR_RING_OPEN r) _ _ n3).trans h.opened
      keeps := keeps_wrN _ h.keeps (by simp [cycleRegs])
      stat := fun y hr hl => (f_wrN_ne _ _ (hr ▸ n2)).trans (h.stat y hr hl)
      frame := ringFrame_trans h.frame (wr_ringFrame _ _ _) }
  · exact h

-- ===== entry to open operation (R64, R403, R409) =====

/-- The entry is counted; the loop address known then is kept. -/
def openEntered (s : State) (r : Fin 2) : State :=
  (((s.bump (KR_CNT_OPEN r)).modRing r (fun y => { y with closing := none })).setF (KR_BRK_LOOP_P r)
    (((s.bump (KR_CNT_OPEN r)).modRing r (fun y => { y with closing := none })).f (KR_LOOP_LOOP_ADDR r))).setF (KR_BRK_LOOP_S r) 65535

theorem enterOpen_told (s : State) (r : Fin 2) (cyc : Nat) : ∃ m : FaultMsg, m.source = 0xD2 + r ∧
    m.kind = (if s.wideRing r = true then 0x66 else 0x65) ∧ m.cls = cMAJOR ∧
    s.enterOpen r cyc = ((s.abandonSwap 0x15 0).openEntered r).raise m := by
  by_cases h : s.wideRing r = true
  · exact ⟨mkFault (srcKR r) 0x66 cMAJOR 0 [.inst r, .val cyc], rfl, by rw [if_pos h]; rfl, rfl, if_pos h⟩
  · exact ⟨mkFault (srcKR r) 0x65 cMAJOR 0 _, rfl, by rw [if_neg h]; rfl, rfl, if_neg h⟩

theorem openEntered_ring (s : State) (r : Fin 2) : (s.openEntered r).ring r = { s.ring r with closing := none } := ring_modRing_same _ r _

theorem openEntered_keeps (s : State) (r : Fin 2) : s.keeps (s.openEntered r) [KR_CNT_OPEN r, KR_BRK r] := by
  have hb : s.keeps ((s.bump (KR_CNT_OPEN r)).modRing r (fun y => { y with closing := none })) [KR_CNT_OPEN r, KR_BRK r] :=
    keeps_congr (keeps_bump (keeps_refl s _) (.head _)) rfl
  exact keeps_setF (x := KR_BRK_LOOP_S r) _ (keeps_setF (x := KR_BRK_LOOP_P r) _ hb (.tail _ (.head _))) (.tail _ (.head _))

theorem openEntered_cnt (s : State) (r : Fin 2) : (s.openEntered r).rdN (KR_CNT_OPEN r) = min (s.rdN (KR_CNT_OPEN r) + 1) 4294967295 := by
  have hn : KR_CNT_OPEN r ≠ KR_BRK r := by simp [KR_CNT_OPEN, KR_BRK]
  unfold openEntered
  rw [rdN_setF_ne _ (x := KR_BRK_LOOP_S r) _ hn, rdN_setF_ne _ (x := KR_BRK_LOOP_P r) _ hn]
  exact rdN_bump_same s _

theorem openEntered_ringFrame (s : State) (r : Fin 2) : s.ringFrame (s.openEntered r) :=
  ringFrame_trans (ringFrame_trans (ringFrame_trans (wr_ringFrame s _ _) (modRing_ringFrame _ r _)) (setF_ringFrame _ _ _)) (setF_ringFrame _ _ _)

-- ===== what is out as the boundary comes (R381) =====

/-- The next boundary of a ring and what gives it are as before. -/
def cycleKept (r : Fin 2) (s t : State) : Prop :=
  (t.ring r).nextDep = (s.ring r).nextDep ∧ (t.ring r).nextCyc = (s.ring r).nextCyc ∧ t.rd (KR_CFG r) = s.rd (KR_CFG r) ∧ t.time.now = s.time.now

theorem cycleKept_refl (r : Fin 2) (s : State) : cycleKept r s s := ⟨rfl, rfl, rfl, rfl⟩

theorem cycleKept_trans {r : Fin 2} {s t u : State} (h : cycleKept r s t) (h' : cycleKept r t u) : cycleKept r s u := by
  obtain ⟨h1, h2, h3, h4⟩ := h
  obtain ⟨k1, k2, k3, k4⟩ := h'
  exact ⟨k1.trans h1, k2.trans h2, k3.trans h3, k4.trans h4⟩

theorem cycleKept_ite {r : Fin 2} {s x y : State} {c : Prop} [Decidable c] (hx : cycleKept r s x) (hy : cycleKept r s y) :
    cycleKept r s (if c then x else y) := by
  split
  · exact hx
  · exact hy

theorem wr_cycleKept (r : Fin 2) (s : State) (a : Nat) (v : Word) (h : KR_CFG r ≠ a) : cycleKept r s (s.wr a v) := ⟨rfl, rfl, rd_wr_ne s v h, rfl⟩

theorem setF_cycleKept (r : Fin 2) (s : State) (x : Fld) (v : Nat) (h : KR_CFG r ≠ x.reg) : cycleKept r s (s.setF x v) := wr_cycleKept r s _ _ h

theorem hit_cycleKept (r : Fin 2) (s : State) (x : Fld) (h : KR_CFG r ≠ x.reg) : cycleKept r s (s.hit x) :=
  ⟨rfl, rfl, (setF_cycleKept r s x 1 h).2.2.1, rfl⟩

theorem raise_cycleKept (r : Fin 2) (s : State) (m : FaultMsg) : cycleKept r s (s.raise m) := ⟨rfl, rfl, rfl, rfl⟩

theorem modRing_cycleKept (r : Fin 2) (s : State) (g : RingState → RingState) (hd : ∀ x, (g x).nextDep = x.nextDep)
    (hc : ∀ x, (g x).nextCyc = x.nextCyc) : cycleKept r s (s.modRing r g) :=
  ⟨by rw [ring_modRing_same, hd], by rw [ring_modRing_same, hc], rfl, rfl⟩

/-- A copy that is out counts as missing. -/
def lateMissed (s : State) (r : Fin 2) (c : Option RCopy) : State :=
  match c with | some k => if k.got ∨ k.missing then s else s.missCopy r k.f | none => s

def gotBack (c : Option RCopy) : Bool := match c with | some k => k.got | none => false

/-- The cycle is over: its records age, a cycle without a copy counts. -/
def cycleOver (s : State) (r : Fin 2) : State :=
  ((((s.lateMissed r (s.ring r).cp).lateMissed r (s.ring r).cs).ageAxes r).modRing r (fun y => { y with
    done := true, noCopy := if gotBack (s.ring r).cp || gotBack (s.ring r).cs then 0 else y.noCopy + 1 }))

theorem finishCycle_eq (s : State) (r : Fin 2) : s.finishCycle r = if (s.ring r).done then s
    else if gotBack (s.ring r).cp || gotBack (s.ring r).cs then ((s.cycleOver r).countNodes r).pairCycle r else s.cycleOver r := rfl

theorem finishCycle_done {s : State} {r : Fin 2} (h : (s.ring r).done = true) : s.finishCycle r = s := if_pos h

theorem KR_CFG_lt (r : Fin 2) : KR_CFG r < 0xB0000 := by
  unfold KR_CFG krBase
  omega

theorem TILE_FB_STAT_ge (a : Nat) : 0x100000 ≤ TILE_FB_STAT a := by
  unfold TILE_FB_STAT tileBase
  omega

/-- IN records that age write their tiles' feedback status alone. -/
theorem ageAxes_rd (s : State) (r : Fin 2) {a : Nat} (h : ∀ n, a ≠ TILE_FB_STAT n) : (s.ageAxes r).rd a = s.rd a := by
  have hs : ∀ (t : State) (n v w : Nat), ((t.setF (TILE_FB_STAT_AGE n) v).setF (TILE_FB_STAT_AGED n) w).rd a = t.rd a := fun t n v w =>
    (rd_wr_ne _ _ (h n)).trans (rd_wr_ne _ _ (h n))
  refine foldl_rel (R := fun s t => t.rd a = s.rd a) (fun _ => rfl) (fun h h' => h'.trans h) _ s fun n _ t => ?_
  split
  · exact hs _ _ _ _
  · exact hs _ _ _ _

theorem ageAxes_frame (s : State) (r : Fin 2) : s.ageAxes r = { s with regs := (s.ageAxes r).regs } := by
  refine foldl_rel (R := fun s t => t = { s with regs := t.regs }) (fun _ => rfl) (fun h h' => h'.trans (by rw [h])) _ s fun n _ t => ?_
  split
  · rfl
  · rfl

theorem ageAxes_cycleKept (s : State) (r : Fin 2) : cycleKept r s (s.ageAxes r) := by
  have hf := ageAxes_frame s r
  refine ⟨?_, ?_, ageAxes_rd s r fun n => ?_, ?_⟩
  · rw [hf]
    rfl
  · rw [hf]
    rfl
  · have := KR_CFG_lt r
    have := TILE_FB_STAT_ge n
    omega
  · rw [hf]

theorem lateMissed_cycleKept (s : State) (r : Fin 2) (c : Option RCopy) : cycleKept r s (s.lateMissed r c) := by
  unfold lateMissed
  split
  · split
    · exact cycleKept_refl r s
    · refine cycleKept_trans (cycleKept_trans (wr_cycleKept r s _ _ ?_) (hit_cycleKept r _ (KR_STAT_MISS r) ?_)) (raise_cycleKept r _ _)
      · simp [KR_CFG, KR_CNT_MISS]
      · simp [KR_CFG, KR_STAT_MISS, KR_STAT]
  · exact cycleKept_refl r s

theorem cycleOver_cycleKept (s : State) (r : Fin 2) : cycleKept r s (s.cycleOver r) :=
  cycleKept_trans (cycleKept_trans (cycleKept_trans (lateMissed_cycleKept s r _) (lateMissed_cycleKept _ r _)) (ageAxes_cycleKept _ r))
    (modRing_cycleKept r _ _ (fun _ => rfl) (fun _ => rfl))

/-- The silt and the activity of one node of a returned cycle. -/
def nodeCounted (s : State) (r : Fin 2) (n : Nat) (first silent : Bool) : State :=
  (s.setB (KR_NODE_ACTIVE r n) first).setF (KR_NODE_SILT r n) (if silent then min 255 (s.f (KR_NODE_SILT r n) + 1) else 0)
    |>.modRing r (fun x => if silent then x else { x with siltRaised := x.siltRaised.filter (· != n) })

theorem nodeCounted_cycleKept (s : State) (r : Fin 2) (n : Nat) (first silent : Bool) : cycleKept r s (s.nodeCounted r n first silent) := by
  have hn : KR_CFG r ≠ KR_NODE r n := by
    unfold KR_CFG KR_NODE
    omega
  refine cycleKept_trans (cycleKept_trans (setF_cycleKept r s (KR_NODE_ACTIVE r n) _ hn) (setF_cycleKept r _ (KR_NODE_SILT r n) _ hn))
    (modRing_cycleKept r _ _ (fun x => ?_) fun x => ?_)
  · split <;> rfl
  · split <;> rfl

/-- A node's first IN segment was valid; none of its IN segments was taken. -/
def nodeFirst (s : State) (r : Fin 2) (n : Nat) : Bool :=
  match (s.sentIns r).filter (fun (g : RSeg) => g.node == n) with | g :: _ => (s.ring r).valid.contains g.idx | [] => false

def nodeSilent (s : State) (r : Fin 2) (n : Nat) : Bool :=
  ((s.sentIns r).filter (fun (g : RSeg) => g.node == n)).all (fun (g : RSeg) => !(s.ring r).taken.contains g.idx)

/-- The nodes of a returned cycle are counted. -/
def nodesCounted (s : State) (r : Fin 2) : State :=
  (s.ringDef r).nodes.foldl (fun (t : State) n => t.nodeCounted r n (s.nodeFirst r n) (s.nodeSilent r n))
    (s.bumpBy (KR_CNT_SILT r) ((s.sentIns r).filter (fun (g : RSeg) => !(s.ring r).taken.contains g.idx)).length)

theorem countNodes_eq (s : State) (r : Fin 2) : s.countNodes r =
    if (s.ringDef r).nodes.any (fun n => (s.nodesCounted r).f (KR_WIN_NSILT r) ≤ (s.nodesCounted r).f (KR_NODE_SILT r n)) then
      (s.nodesCounted r).setF (KR_RING_JOINED r) 0
    else if (s.ringDef r).nodes.all (fun n => (s.nodesCounted r).flag (KR_NODE_ACTIVE r n)) then (s.nodesCounted r).setF (KR_RING_JOINED r) 1
    else s.nodesCounted r := rfl

theorem countNodes_cycleKept (s : State) (r : Fin 2) : cycleKept r s (s.countNodes r) := by
  have hj : ∀ (v : State) (w : Nat), cycleKept r v (v.setF (KR_RING_JOINED r) w) := fun v w =>
    setF_cycleKept r v (KR_RING_JOINED r) w (by simp [KR_CFG, KR_RING_JOINED, KR_RING])
  have hn : cycleKept r s (s.nodesCounted r) := cycleKept_trans (wr_cycleKept r s (KR_CNT_SILT r) _ (by simp [KR_CFG, KR_CNT_SILT]))
    (foldl_rel (cycleKept_refl r) cycleKept_trans _ _ fun n _ t => nodeCounted_cycleKept t r n _ _)
  rw [countNodes_eq]
  exact cycleKept_ite (cycleKept_trans hn (hj _ _)) (cycleKept_ite (cycleKept_trans hn (hj _ _)) hn)

/-- The PAIR segment of the cycle is counted. -/
def pairCounted (s : State) (r : Fin 2) : State :=
  s.modRing r (fun x => { x with pairSeen := false, pairMiss := if x.pairSeen then 0 else x.pairMiss + 1,
                                 parts := if s.flag (KR_RING_OPEN r) && !x.pairSeen && x.pairArmed then x.parts + 1 else 0 })

def peerNoted (s : State) (r : Fin 2) : State :=
  if (s.ring r).pairSeen then { s.pairCounted r with pair := { s.pair with peerLost := s.pair.peerLost.filter (· != r.val) } }
  else s.pairCounted r

theorem pairCycle_eq (s : State) (r : Fin 2) : s.pairCycle r =
    if s.role = 1 then (s.peerNoted r).setB RED_STAT_PEER ((s.ring 0).pairSeen || (s.ring 1).pairSeen) else s.peerNoted r := rfl

theorem pairCycle_cycleKept (s : State) (r : Fin 2) : cycleKept r s (s.pairCycle r) := by
  have hc : cycleKept r s (s.pairCounted r) := modRing_cycleKept r s _ (fun _ => rfl) (fun _ => rfl)
  have hp : cycleKept r s (s.peerNoted r) := cycleKept_ite hc hc
  rw [pairCycle_eq]
  refine cycleKept_ite (cycleKept_trans hp (setF_cycleKept r _ RED_STAT_PEER _ ?_)) hp
  have := KR_CFG_lt r
  have h : RED_STAT_PEER.reg = 0xE0000 := rfl
  omega

theorem finishCycle_cycleKept (s : State) (r : Fin 2) : cycleKept r s (s.finishCycle r) := by
  rw [finishCycle_eq]
  exact cycleKept_ite (cycleKept_refl r s) (cycleKept_ite
    (cycleKept_trans (cycleKept_trans (cycleOver_cycleKept s r) (countNodes_cycleKept _ r)) (pairCycle_cycleKept _ r)) (cycleOver_cycleKept s r))

-- ===== the boundary (R22, R364) =====

theorem cycleKept.period {r : Fin 2} {s t : State} (h : cycleKept r s t) : t.ringPeriod r = s.ringPeriod r := by
  obtain ⟨-, -, hc, -⟩ := h
  unfold ringPeriod
  rw [f_of_rd (x := KR_CFG_K r) hc]

theorem ringAlign_ring (s : State) (r : Fin 2) : (s.ringAlign r).ring r = { s.ring r with
    nextDep := (s.ring r).nextDep + (s.time.now - (s.ring r).nextDep) / s.ringPeriod r * s.ringPeriod r
    nextCyc := ((s.ring r).nextCyc + (s.time.now - (s.ring r).nextDep) / s.ringPeriod r) % 4294967296 } := ring_modRing_same s r _

theorem ringAlign_cycleKept {r : Fin 2} {s t : State} (h : cycleKept r s t) : cycleKept r (s.ringAlign r) (t.ringAlign r) := by
  have hp := h.period
  obtain ⟨h1, h2, h3, h4⟩ := h
  refine ⟨?_, ?_, h3, h4⟩
  · rw [ringAlign_ring, ringAlign_ring, hp, h1, h4]
  · rw [ringAlign_ring, ringAlign_ring, hp, h1, h2, h4]

theorem ringPeriod_pos (s : State) (r : Nat) : 0 < s.ringPeriod r := Nat.mul_pos (by omega) (by decide)

/-- The boundary after the present one lies ahead. -/
theorem now_lt_next {s : State} {r : Fin 2} (h : s.ringDue r = true) :
    s.time.now < ((s.ringAlign r).ring r).nextDep + s.ringPeriod r := by
  have hd : (s.ring r).nextDep ≤ s.time.now := by
    unfold ringDue at h
    simp only [Bool.and_eq_true, decide_eq_true_eq] at h
    exact h.1
  rw [ringAlign_ring]
  have hl := Nat.lt_div_mul_add (a := s.time.now - (s.ring r).nextDep) (s.ringPeriod_pos r)
  have hg : ∀ a b p q : Nat, b ≤ a → a - b < q + p → a < b + q + p := by omega
  exact hg _ _ _ _ hd hl

theorem closeStaging_cycleKept (s : State) (r : Fin 2) : cycleKept r s (s.closeStaging r) := by
  obtain ⟨p, hp⟩ := (closeStaging_closedAt s r).ring
  have hf := closeStaging_stageFrame s r
  unfold stageFrame at hf
  refine ⟨by rw [hp], by rw [hp], ?_, by rw [hf]⟩
  refine (keeps_of_regs (closeStaging_regs s r) [] _ (by simp)).trans ((paysDone_ringsKept s r).2 _ ?_ (KR_CFG_lt r))
  unfold KR_CFG krBase
  omega

theorem cycleStaged_cycleKept (s : State) (r : Fin 2) : cycleKept r (s.ringAlign r) (s.cycleStaged r) := by
  have ha : cycleKept r (s.ringAlign r) (s.cycleAligned r) := ringAlign_cycleKept (finishCycle_cycleKept s r)
  exact cycleKept_ite (cycleKept_trans ha (closeStaging_cycleKept _ r)) ha

/-- Where nothing is out and staging has closed, the boundary is all that moves before the frame departs. -/
theorem cycleStaged_done {s : State} {r : Fin 2} (hd : (s.ring r).done = true) (hc : (s.ring r).closed.isSome = true) :
    s.cycleStaged r = s.ringAlign r := by
  have ha : s.cycleAligned r = s.ringAlign r := congrArg (ringAlign · r) (finishCycle_done hd)
  have hn : ((s.ringAlign r).ring r).closed = (s.ring r).closed := by rw [ringAlign_ring]
  unfold cycleStaged
  rw [ha, hn]
  exact if_neg (by simpa [Option.isSome_iff_ne_none] using hc)

theorem openEntered_told_rd (s : State) (r : Fin 2) {a : Nat} (h : a = KR_CYC r) : ((s.abandonSwap 0x15 0).openEntered r).rd a = s.rd a := by
  subst h
  refine ((openEntered_keeps _ r) _ (by simp [KR_CYC, KR_CNT_OPEN, KR_BRK])).trans ((abandonSwap_ringsKept s 0x15 0).2 _ ?_ ?_)
  · unfold KR_CYC krBase
    omega
  · unfold KR_CYC krBase
    omega

theorem enterOpen_ring (s : State) (r : Fin 2) (cyc : Nat) : (s.enterOpen r cyc).ring r = { s.ring r with closing := none } := by
  obtain ⟨m, -, -, -, he⟩ := enterOpen_told s r cyc
  rw [he, ring_congr (raise_rings _ m), openEntered_ring, (abandonSwap_ringsKept s 0x15 0).ring]

theorem enterOpen_cyc (s : State) (r : Fin 2) (cyc : Nat) : (s.enterOpen r cyc).rdN (KR_CYC r) = s.rdN (KR_CYC r) := by
  obtain ⟨m, -, -, -, he⟩ := enterOpen_told s r cyc
  unfold rdN
  rw [he, raise_rd, openEntered_told_rd s r rfl]

/-- What a departure leaves of its ring, whether or not open operation is entered. -/
theorem depart_ring (s : State) (r : Fin 2) : (s.depart r).rdN (KR_CYC r) = (s.ring r).nextCyc % 4294967296 ∧
    ((s.depart r).ring r).nextDep = (s.ring r).nextDep + s.ringPeriod r ∧ ((s.depart r).ring r).nextCyc = ((s.ring r).nextCyc + 1) % 4294967296 ∧
    ((s.depart r).ring r).done = false ∧ ((s.depart r).ring r).closed = none ∧ ((s.depart r).ring r).noCopy = (s.ring r).noCopy := by
  have h := tookOver_gone s r
  rw [depart_eq]
  split
  · rw [enterOpen_ring, enterOpen_cyc]
    exact ⟨h.cyc, h.dep, h.next, h.done, h.closed, h.noCopy⟩
  · exact ⟨h.cyc, h.dep, h.next, h.done, h.closed, h.noCopy⟩

theorem cycle_runs {u : State} {r : Fin 2} (h : u.ringDue r = true) :
    ((u.cycleStaged r).depart r).rdN (KR_CYC r) = ((u.ringAlign r).ring r).nextCyc % 4294967296 ∧
      (((u.cycleStaged r).depart r).ring r).nextDep = ((u.ringAlign r).ring r).nextDep + u.ringPeriod r ∧
      (((u.cycleStaged r).depart r).ring r).nextCyc = (((u.ringAlign r).ring r).nextCyc + 1) % 4294967296 ∧
      u.time.now < (((u.cycleStaged r).depart r).ring r).nextDep ∧ (((u.cycleStaged r).depart r).ring r).done = false ∧
      (((u.cycleStaged r).depart r).ring r).closed = none := by
  have hk := cycleStaged_cycleKept u r
  have hp : (u.cycleStaged r).ringPeriod r = u.ringPeriod r := hk.period
  obtain ⟨k1, k2, -, -⟩ := hk
  obtain ⟨h1, h2, h3, h4, h5, -⟩ := depart_ring (u.cycleStaged r) r
  have hn := now_lt_next h
  rw [h1, h2, h3, h4, h5, hp, k1, k2]
  exact ⟨rfl, rfl, rfl, hn, rfl, rfl⟩

-- ===== with and without the entry to open operation =====

theorem depart_stays {s : State} {r : Fin 2} (h : (s.decide_ r).2 = false ∨ s.flag (KR_RING_OPEN r) = true) : s.depart r = s.tookOver r := by
  rw [depart_eq, svcUp_open]
  refine if_neg ?_
  rintro ⟨h1, h2⟩
  obtain h | h := h
  · simp [h] at h1
  · simp [h] at h2

theorem cycleGone.swapArmed {s t : State} {r : Fin 2} (h : cycleGone s t r) : t.swapArmed = s.swapArmed := by
  unfold State.swapArmed
  rw [f_keeps (x := CFG_STAT_LDR) h.keeps]
  simp only [cycleRegs, List.mem_cons, List.not_mem_nil, or_false, CFG_STAT_LDR, CFG_STAT, KR_CYC, KR_STAT, KR_RING, KR_CNT_NDROP, RED_TK_CYC, krBase]
  omega

theorem cycleGone.wideRing {s t : State} {r : Fin 2} (h : cycleGone s t r) : t.wideRing r = s.wideRing r := by
  unfold State.wideRing
  rw [f_keeps (x := KR_CFG_MODE r) h.keeps]
  simp only [cycleRegs, List.mem_cons, List.not_mem_nil, or_false, KR_CFG_MODE, KR_CFG, KR_CYC, KR_STAT, KR_RING, KR_CNT_NDROP, RED_TK_CYC, krBase]
  omega

/-- A departure with which open operation is entered, while no swap is armed. -/
theorem depart_opens {s : State} {r : Fin 2} (ho : (s.decide_ r).2 = true) (hf : s.flag (KR_RING_OPEN r) = false) (hs : s.swapArmed = false) :
    ∃ m : FaultMsg, m.source = 0xD2 + r ∧ m.kind = (if s.wideRing r = true then 0x66 else 0x65) ∧ m.cls = cMAJOR ∧
      s.depart r = ((s.tookOver r).openEntered r).raise m := by
  have hg := tookOver_gone s r
  obtain ⟨m, h1, h2, h3, he⟩ := enterOpen_told (s.tookOver r) r (s.ring r).nextCyc
  refine ⟨m, h1, by rw [h2, hg.wideRing], h3, ?_⟩
  rw [depart_eq, svcUp_open, if_pos (by simp [ho, hf]), he, abandonSwap_not_armed (hg.swapArmed.trans hs)]

theorem openEntered_open {s t : State} {r : Fin 2} (h : cycleGone s t r) (ho : (s.decide_ r).2 = true) : (t.openEntered r).f (KR_RING_OPEN r) = 1 := by
  rw [f_keeps (x := KR_RING_OPEN r) (openEntered_keeps t r) (by simp [KR_RING_OPEN, KR_RING, KR_CNT_OPEN, KR_BRK]), h.opened, ho]
  rfl

theorem cycleGone.cntOpen {s t : State} {r : Fin 2} (h : cycleGone s t r) : (t.openEntered r).rdN (KR_CNT_OPEN r) = min (s.rdN (KR_CNT_OPEN r) + 1) 4294967295 := by
  rw [openEntered_cnt, rdN_keeps h.keeps]
  simp only [cycleRegs, List.mem_cons, List.not_mem_nil, or_false, KR_CNT_OPEN, KR_CYC, KR_STAT, KR_RING, KR_CNT_NDROP, RED_TK_CYC, krBase]
  omega

theorem cycleGone.openEntered_keeps {s t : State} {r : Fin 2} (h : cycleGone s t r) :
    s.keeps (t.openEntered r) [KR_CYC r, KR_STAT r, KR_RING r, KR_CNT_NDROP r, KR_CNT_OPEN r, KR_BRK r, RED_TK_CYC] := by
  refine keeps_trans (keeps_mono h.keeps fun x hx => ?_) (keeps_mono (State.openEntered_keeps t r) fun x hx => ?_) <;>
  · simp only [cycleRegs, List.mem_cons, List.not_mem_nil, or_false] at hx ⊢
    tauto

/-- With a copy out and no other, the boundary counts it as missing. -/
theorem finishCycle_missed {s : State} {r : Fin 2} {k : RCopy} (hd : (s.ring r).done = false) (hp : (s.ring r).cp = some k)
    (hs : (s.ring r).cs = none) (hg : k.got = false) (hm : k.missing = false) :
    s.finishCycle r = ((s.missCopy r k.f).ageAxes r).modRing r (fun y => { y with done := true, noCopy := y.noCopy + 1 }) := by
  have hl : s.lateMissed r (some k) = s.missCopy r k.f := if_neg (by simp [hg, hm])
  have hb : gotBack (some k) = false := hg
  rw [finishCycle_eq, hd, hp, hs, hb]
  show s.cycleOver r = _
  unfold cycleOver
  rw [hp, hs, hl, hb]
  rfl

/-- What the missed copy leaves at the boundary. -/
structure copyLost (s t : State) (r : Fin 2) : Prop where
  cnt : t.rdN (KR_CNT_MISS r) = min (s.rdN (KR_CNT_MISS r) + 1) 4294967295
  stat : t.f (KR_STAT_MISS r) = 1
  noCopy : (t.ring r).noCopy = (s.ring r).noCopy + 1
  closed : (t.ring r).closed = (s.ring r).closed
  path : ∃ x ∈ t.flt.path, x.source = 0xD2 + r ∧ x.kind = 0x60 ∧ x.cls = cMINOR
  swap : t.swapArmed = s.swapArmed

theorem CFG_STAT_ne_TILE_FB_STAT (a : Nat) : CFG_STAT ≠ TILE_FB_STAT a := by
  unfold CFG_STAT TILE_FB_STAT tileBase
  omega

theorem missCopy_lost {s : State} {r : Fin 2} (f : RFrame) :
    copyLost s (((s.missCopy r f).ageAxes r).modRing r (fun y => { y with done := true, noCopy := y.noCopy + 1 })) r := by
  have hf := ageAxes_frame (s.missCopy r f) r
  have hring : ((s.missCopy r f).ageAxes r).ring r = s.ring r := (ring_congr (by rw [hf]) r).trans (ring_congr (missCopy_rings s r f) r)
  have hrd : ∀ a, a < 0x100000 → ((s.missCopy r f).ageAxes r).rd a = (s.missCopy r f).rd a := fun a ha =>
    ageAxes_rd _ r fun n => by
      have := TILE_FB_STAT_ge n
      omega
  have hc : KR_CNT_MISS r < 0x100000 ∧ KR_STAT r < 0x100000 := by
    unfold KR_CNT_MISS KR_STAT krBase
    omega
  refine ⟨?_, ?_, ?_, ?_, ⟨{ missMsg r f with at_ := s.time.mono }, ?_, rfl, rfl, rfl⟩, ?_⟩
  · exact (congrArg BitVec.toNat (hrd _ hc.1)).trans (missCopy_cnt s r f)
  · exact (f_of_rd (x := KR_STAT_MISS r) (hrd _ hc.2)).trans (missCopy_stat s r f)
  · rw [ring_modRing_same, hring]
  · rw [ring_modRing_same, hring]
  · show _ ∈ ((s.missCopy r f).ageAxes r).flt.path
    rw [hf]
    exact List.mem_append_right _ (.head _)
  · show (((s.missCopy r f).ageAxes r).f CFG_STAT_LDR == 5) = (s.f CFG_STAT_LDR == 5)
    rw [f_of_rd (x := CFG_STAT_LDR) (ageAxes_rd _ r fun n => CFG_STAT_ne_TILE_FB_STAT n),
      f_keeps (x := CFG_STAT_LDR) (missCopy_keeps (l := [KR_CNT_MISS r, KR_STAT r]) r f (keeps_refl s _) (.head _) (.tail _ (.head _)))]
    simp only [List.mem_cons, List.not_mem_nil, or_false, CFG_STAT_LDR, CFG_STAT, KR_CNT_MISS, KR_STAT, krBase]
    omega

theorem KR_CNT_MISS_notMem_cycleRegs (r : Fin 2) : KR_CNT_MISS r ∉ cycleRegs r ∧ KR_CNT_MISS r ∉ [KR_CNT_OPEN r, KR_BRK r] := by
  simp only [cycleRegs, List.mem_cons, List.not_mem_nil, or_false, KR_CNT_MISS, KR_CYC, KR_STAT, KR_RING, KR_CNT_NDROP, KR_CNT_OPEN, KR_BRK,
    RED_TK_CYC, krBase]
  omega

/-- Of what a departure leaves, whether or not it enters open operation: a missed copy stays told. -/
theorem depart_lost {s v : State} {r : Fin 2} (h : copyLost s v r) (hs : s.swapArmed = false) :
    (v.depart r).rdN (KR_CNT_MISS r) = min (s.rdN (KR_CNT_MISS r) + 1) 4294967295 ∧ (v.depart r).f (KR_STAT_MISS r) = 1 ∧
      ((v.depart r).ring r).noCopy = (s.ring r).noCopy + 1 ∧
      ∃ x ∈ (v.depart r).flt.path, x.source = 0xD2 + r ∧ x.kind = 0x60 ∧ x.cls = cMINOR := by
  have hg := tookOver_gone v r
  obtain ⟨m1, m2⟩ := KR_CNT_MISS_notMem_cycleRegs r
  have hcnt : (v.tookOver r).rdN (KR_CNT_MISS r) = min (s.rdN (KR_CNT_MISS r) + 1) 4294967295 := (rdN_keeps hg.keeps m1).trans h.cnt
  have hstat : (v.tookOver r).f (KR_STAT_MISS r) = 1 := (hg.stat (KR_STAT_MISS r) rfl (.inr (Nat.le_of_ble_eq_true rfl))).trans h.stat
  have hno : ((v.depart r).ring r).noCopy = (s.ring r).noCopy + 1 := by
    obtain ⟨-, -, -, -, -, hn⟩ := depart_ring v r
    exact hn.trans h.noCopy
  have hpath : (v.tookOver r).flt = v.flt := by
    have hf := hg.frame
    unfold ringFrame at hf
    rw [hf]
  obtain ⟨x, hx, hxs⟩ := h.path
  by_cases hd : (v.decide_ r).2 = false ∨ v.flag (KR_RING_OPEN r) = true
  · rw [depart_stays hd] at hno ⊢
    exact ⟨hcnt, hstat, hno, x, by rw [hpath]; exact hx, hxs⟩
  · obtain ⟨h1, h2⟩ : (v.decide_ r).2 = true ∧ v.flag (KR_RING_OPEN r) = false := by simpa [not_or] using hd
    obtain ⟨m, -, -, -, he⟩ := depart_opens h1 h2 (h.swap.trans hs)
    have hk := openEntered_keeps (v.tookOver r) r
    have hf := openEntered_ringFrame (v.tookOver r) r
    unfold ringFrame at hf
    rw [he] at hno ⊢
    refine ⟨?_, ?_, hno, x, ?_, hxs⟩
    · rw [raise_rdN, rdN_keeps hk m2, hcnt]
    · rw [raise_f, f_keeps (x := KR_STAT_MISS r) hk (by simp [KR_STAT_MISS, KR_STAT, KR_CNT_OPEN, KR_BRK]), hstat]
    · rw [raise_flt, hf, hpath]
      exact List.mem_append_left _ hx

theorem copyLost.ringAlign {s t : State} {r : Fin 2} (h : copyLost s t r) : copyLost s (t.ringAlign r) r where
  cnt := h.cnt
  stat := h.stat
  noCopy := by rw [ringAlign_ring]; exact h.noCopy
  closed := by rw [ringAlign_ring]; exact h.closed
  path := h.path
  swap := h.swap

/-- A copy that has not come back by its boundary is counted and told, whatever departs then. -/
theorem cycle_missed {s : State} {r : Fin 2} {k : RCopy} (hd : (s.ring r).done = false) (hp : (s.ring r).cp = some k) (hs : (s.ring r).cs = none)
    (hg : k.got = false) (hm : k.missing = false) (ha : s.swapArmed = false) (hc : (s.ring r).closed.isSome = true) :
    ((s.cycleStaged r).depart r).rdN (KR_CNT_MISS r) = min (s.rdN (KR_CNT_MISS r) + 1) 4294967295 ∧
      ((s.cycleStaged r).depart r).f (KR_STAT_MISS r) = 1 ∧ (((s.cycleStaged r).depart r).ring r).noCopy = (s.ring r).noCopy + 1 ∧
      ∃ x ∈ ((s.cycleStaged r).depart r).flt.path, x.source = 0xD2 + r ∧ x.kind = 0x60 ∧ x.cls = cMINOR := by
  have hl : copyLost s (s.cycleAligned r) r := by
    unfold cycleAligned
    rw [finishCycle_missed hd hp hs hg hm]
    exact (missCopy_lost k.f).ringAlign
  have he : s.cycleStaged r = s.cycleAligned r := by
    refine if_neg ?_
    rw [hl.closed]
    simpa [Option.isSome_iff_ne_none] using hc
  rw [he]
  exact depart_lost hl ha

end State

end Sys2Proof.Machine

/-! SUPPORT and O37: the ring at its master. -/

namespace Sys2Proof.Machine

namespace State

-- ===== the three fates of a returned P copy (R381) =====

theorem lateFrame_eq_true {s : State} {r : Fin 2} {f : RFrame} {k : RCopy} (h : (f.hcrc = true ∧ f.cycle ≠ k.f.cycle) ∨ ¬ s.frameInTime r) :
    s.lateFrame r f k = true := by
  unfold lateFrame
  obtain ⟨h1, h2⟩ | h := h
  · simp [h1, h2]
  · simp only [frameInTime, not_lt] at h
    simp [h]

theorem lateFrame_eq_false {s : State} {r : Fin 2} {f : RFrame} {k : RCopy} (h : f.hcrc = true → f.cycle = k.f.cycle) (ht : s.frameInTime r) :
    s.lateFrame r f k = false := by
  have hn : ¬ (s.ring r).nextDep + 200 * Config.nsUnits ≤ s.time.now := Nat.not_le.mpr ht
  unfold lateFrame
  cases hf : f.hcrc
  · simp [hn]
  · simp [hn, h hf]

/-- A copy of which nothing is expected any more is checked and discarded. -/
theorem returned_late {s : State} {r : Fin 2} {onS : Bool} {f : RFrame} {k : RCopy} (rtt : Nat) (hp : ∀ g ∈ (s.ringDef r).segs, g.kind = 1)
    (hk : s.copyOut r onS = some k) (hw : k.f.mode ≠ fWIDE) (h : k.got = true ∨ k.missing = true ∨ (s.ring r).done = true ∨ s.lateFrame r f k = true) :
    s.returned r onS f rtt = s.noteFcs r f.fcs := (returned_some rtt hp hk hw).trans (if_pos h)

theorem returned_good {s : State} {r : Fin 2} {f : RFrame} {k j : RCopy} (rtt : Nat) (hp : ∀ g ∈ (s.ringDef r).segs, g.kind = 1)
    (hd : (s.ring r).done = false) (hk : (s.ring r).cp = some k) (hj : (s.ring r).cs = some j) (hg : k.got = false) (hm : k.missing = false)
    (hjg : j.got = false) (hjm : j.missing = false) (hw : k.f.mode ≠ fWIDE) (ht : s.frameInTime r) (ho : s.flag (KR_RING_OPEN r) = true)
    (hb : s.f (KR_BRK_LOOP_P r) = f.loopAddr) (hfcs : f.fcs = true) (hc : goodCopy f k = true) (hcy : f.cycle = k.f.cycle) :
    s.returned r false f rtt = (s.tripKept r k rtt).loopNoted r f := by
  rw [returned_some (onS := false) rtt hp hk hw, if_neg (by simp [hg, hm, hd, lateFrame_eq_false (fun _ => hcy) ht]), if_pos hc, hfcs, noteFcs_good,
    copyKept_known rtt ho hb]
  refine finishIfBack_waits (j := j) ?_ hjg hjm
  rw [loopNoted_ring, tripKept_ring]
  exact hj

theorem returned_wrong {s : State} {r : Fin 2} {f : RFrame} {k j : RCopy} (rtt : Nat) (hp : ∀ g ∈ (s.ringDef r).segs, g.kind = 1)
    (hd : (s.ring r).done = false) (hk : (s.ring r).cp = some k) (hj : (s.ring r).cs = some j) (hg : k.got = false) (hm : k.missing = false)
    (hjg : j.got = false) (hjm : j.missing = false) (hw : k.f.mode ≠ fWIDE) (ht : s.frameInTime r) (hcy : f.hcrc = true → f.cycle = k.f.cycle)
    (hc : goodCopy f k = false) : s.returned r false f rtt = (s.noteFcs r f.fcs).copyMissed r false k := by
  rw [returned_some (onS := false) rtt hp hk hw, if_neg (by simp [hg, hm, hd, lateFrame_eq_false hcy ht]), if_neg (by simp [hc])]
  refine finishIfBack_waits (j := j) ?_ hjg hjm
  rw [copyMissed_ring, ring_congr (noteFcs_rings s r _)]
  exact hj

theorem goodCopy_eq_false {f : RFrame} {k : RCopy} (h : f.fcs = false ∨ f.hcrc = false ∨ f.type ≠ 0 ∨ f.epoch ≠ k.f.epoch ∨ f.cycle ≠ k.f.cycle ∨
    f.sid ≠ k.f.sid) : goodCopy f k = false := by
  unfold goodCopy
  obtain h | h | h | h | h | h := h <;> simp [h]

/-- A wrong copy: what was checked of its frame, and that it is missing. -/
theorem wrongCopy_spec (s : State) (r : Fin 2) (k : RCopy) (b : Bool) :
    ((s.noteFcs r b).copyMissed r false k).rdN (KR_CNT_MISS r) = min (s.rdN (KR_CNT_MISS r) + 1) 4294967295 ∧
      ((s.noteFcs r b).copyMissed r false k).f (KR_STAT_MISS r) = 1 ∧
      (((s.noteFcs r b).copyMissed r false k).rdN (KR_CNT_FCS r) = if b then s.rdN (KR_CNT_FCS r) else min (s.rdN (KR_CNT_FCS r) + 1) 4294967295) ∧
      (b = false → ((s.noteFcs r b).copyMissed r false k).f (KR_STAT_FCS r) = 1) ∧
      s.raisedOne ((s.noteFcs r b).copyMissed r false k) (0xD2 + r) 0x60 cMINOR ∧
      s.keeps ((s.noteFcs r b).copyMissed r false k) [KR_CNT_MISS r, KR_CNT_FCS r, KR_STAT r] := by
  have hk := noteFcs_keeps s r b
  have hmiss := missCopy_keeps (l := [KR_CNT_MISS r, KR_STAT r]) r k.f (keeps_refl (s.noteFcs r b) _) (.head _) (.tail _ (.head _))
  refine ⟨?_, missCopy_stat (s.noteFcs r b) r k.f, ?_, fun hb => ?_, ?_, ?_⟩
  · refine (missCopy_cnt (s.noteFcs r b) r k.f).trans ?_
    rw [rdN_keeps hk (by simp [KR_CNT_MISS, KR_CNT_FCS, KR_STAT])]
  · exact (rdN_keeps hmiss (a := KR_CNT_FCS r) (by simp [KR_CNT_MISS, KR_CNT_FCS, KR_STAT])).trans (noteFcs_cnt s r b)
  · exact (f_missCopy (s.noteFcs r b) r k.f (y := KR_STAT_FCS r) rfl (.inr (Nat.le_of_ble_eq_true rfl))).trans (noteFcs_stat hb)
  · have hf := noteFcs_regsFrame s r b
    unfold regsFrame at hf
    have h1 : (s.noteFcs r b).flt.path = s.flt.path := by rw [hf]
    have h2 : (s.noteFcs r b).time.mono = s.time.mono := by rw [hf]
    exact ⟨{ missMsg r k.f with at_ := (s.noteFcs r b).time.mono }, congrArg (· ++ [_]) h1, rfl, rfl, rfl, h2⟩
  · refine keeps_trans (keeps_mono hk ?_) (keeps_mono hmiss ?_)
    · simp
    · simp

theorem svcDropped_spec (s : State) (r : Fin 2) (m : SvcMsg) :
    (s.svcDropped r m).rdN (KR_CNT_SVC r) = min (s.rdN (KR_CNT_SVC r) + 1) 4294967295 ∧ s.raisedOne (s.svcDropped r m) (0xD2 + r) 0x64 cINFO ∧
      s.keeps (s.svcDropped r m) [KR_CNT_SVC r] ∧ s.svcDropped r m = { s with flt := (s.svcDropped r m).flt, regs := (s.svcDropped r m).regs } :=
  ⟨rdN_bump_same s _, raisedOne_raise s (s.bump (KR_CNT_SVC r)) _ rfl rfl, keeps_raise _ (keeps_bump (keeps_refl s _) (.head _)), rfl⟩

end State

/-- Settles O37: each command at the master is the composition of the parts above; a cycle keeps its boundary through all that comes before
the departure (cycleKept). -/
theorem ringMaster : Obligations.RingMaster := by
  unfold Obligations.RingMaster
  dsimp only
  refine ⟨?_, ?_, ?_, ?_, ?_, ?_, ?_, ?_, ?_, ?_, ?_, ?_, ?_, ?_, ?_, ?_, ?_, ?_, ?_, ?_, ?_, ?_, ?_, ?_, ?_, ?_, ?_, ?_, ?_⟩
  case refine_1 =>
    intro s u r m hu h
    exact State.execStagingClose_not_due hu h
  case refine_2 =>
    rintro s u r m hu ⟨hm, hc, hd, ht⟩
    obtain ⟨hi, ⟨p, hp⟩, ho⟩ := State.closeStaging_closedAt u r
    rw [ht] at hi hp
    refine ⟨_, State.execStagingClose_due hu hm hc hd ht, by rw [hp]; rfl, hi, ho, fun x hx => ?_, fun hs => ?_, State.closeStaging_stageFrame u r⟩
    · rw [hp] at hx
      exact of_decide_eq_true (List.mem_filter.mp hx).2
    · exact State.keeps_congr (State.paysDone_keeps u r hs) (State.closeStaging_regs u r)
  case refine_3 =>
    rintro s u r m hu ⟨hm, hc, hd, ht⟩ hs
    obtain ⟨h1, h2⟩ := State.closeStaging_out hs
    exact ⟨_, State.execStagingClose_due hu hm hc hd ht, by rw [h1, ht], h2⟩
  case refine_4 =>
    intro s u r m hu h
    exact State.execRingCycle_not_due hu h
  case refine_5 =>
    rintro s u v r m ⟨hu, hm, hd⟩ rfl
    exact ⟨_, State.execRingCycle_due hu hm hd, State.cycle_runs hd⟩
  case refine_6 =>
    rintro s u v r m ⟨hu, hm, hd⟩ hv hdone hc ho
    have he : u.cycleStaged r = v := (State.cycleStaged_done hdone hc).trans hv.symm
    have hf : v.flag (KR_RING_OPEN r) = u.flag (KR_RING_OPEN r) := by rw [hv]; rfl
    have hg := State.tookOver_gone v r
    have hr : ∀ q, q ≠ r → v.ring q = u.ring q := fun q hq => by rw [hv]; exact State.ring_modRing_ne u _ hq
    have hk : ∀ l, u.keeps v l := State.keeps_of_regs (by rw [hv]; rfl)
    have hfr : u.ringFrame v := by rw [hv]; exact State.modRing_ringFrame u r _
    refine ⟨v.tookOver r, ?_, hg.mode, hg.opened, hg.valid, hg.fresh, fun q hq => (hg.others q hq).trans (hr q hq),
      State.keeps_trans (hk _) hg.keeps, State.ringFrame_trans hfr hg.frame⟩
    rw [State.execRingCycle_due hu hm hd, he, State.depart_stays (hf ▸ ho)]
  case refine_7 =>
    rintro s u v r m ⟨hu, hm, hd⟩ hv hdone hc ho hopen hs
    have he : u.cycleStaged r = v := (State.cycleStaged_done hdone hc).trans hv.symm
    have hreg : v.regs = u.regs := by rw [hv]; rfl
    have hk : ∀ l, u.keeps v l := State.keeps_of_regs hreg
    have hf : ∀ y, v.f y = u.f y := fun y => State.f_keeps (hk []) (by simp)
    have hfl : ∀ y, v.flag y = u.flag y := fun y => State.flag_keeps (hk []) (by simp)
    have hfr : u.ringFrame v := by rw [hv]; exact State.modRing_ringFrame u r _
    have hg := State.tookOver_gone v r
    obtain ⟨x, h1, h2, h3, hx⟩ := State.depart_opens ho ((hfl _).trans hopen) (by unfold State.swapArmed at hs ⊢; rw [hf]; exact hs)
    have hfo := State.ringFrame_trans (State.ringFrame_trans hfr hg.frame) (State.openEntered_ringFrame (v.tookOver r) r)
    refine ⟨((v.tookOver r).openEntered r).raise x, by rw [State.execRingCycle_due hu hm hd, he, hx], ?_, ?_, ?_, ?_, ?_⟩
    · rw [State.raise_f]
      exact State.openEntered_open hg ho
    · rw [State.raise_rdN, hg.cntOpen, State.rdN_keeps (hk []) (by simp)]
    · have hw : v.wideRing r = u.wideRing r := by unfold State.wideRing; rw [hf]
      unfold State.ringFrame at hfo
      rw [← hw, ← h1, ← h2, ← h3]
      exact State.raisedOne_raise u _ x (by rw [hfo]) (by rw [hfo])
    · exact State.keeps_raise x (State.keeps_trans (hk _) hg.openEntered_keeps)
    · unfold State.ringFrame at hfo
      rw [hfo]
      rfl
  case refine_8 =>
    rintro s u r m k ⟨hu, hm, hd⟩ hdone hp hs hg hmi hsw hc
    exact ⟨_, State.execRingCycle_due hu hm hd, State.cycle_missed hdone hp hs hg hmi hsw hc⟩
  case refine_9 =>
    intro s u r a b f rtt m hu h
    exact State.execRingFrameReturn_not_master a b f rtt hu h
  case refine_10 =>
    intro s u r f k rtt m hu hm hk hw hh hc ht
    obtain ⟨h1, h2⟩ := State.atFar_ring u r f
    refine ⟨_, State.execRingFrameReturn_far rtt hu hm hk hw hh hc ht, h1, h2, fun hq => ?_, fun c hl ho hcl => ?_, State.atFar_frame u r f⟩
    · rw [State.atFar_quiet hq]
      rfl
    · rw [State.atFar_closes hl ho hcl]
      refine ⟨?_, ?_, State.raisedOne_raise u _ (State.closedMsg r c) rfl rfl⟩
      · rw [State.ring_congr (State.raise_rings _ _), State.ring_modRing_same]
      · rw [State.ring_congr (State.raise_rings _ _), State.ring_modRing_same]
  case refine_11 =>
    intro s u r onS f rtt m hu hm hw h
    exact State.execRingFrameReturn_far_other rtt hu hm hw h
  case refine_12 =>
    intro s u r onS far f rtt m hu hm h
    exact State.execRingFrameReturn_near rtt hu hm h
  case refine_13 =>
    intro u r onS f rtt h
    exact State.returned_none f rtt h
  case refine_14 =>
    intro u r onS f k rtt hp hk hw h
    refine ⟨_, State.returned_late rtt hp hk hw ?_, ⟨State.noteFcs_cnt u r f.fcs, State.noteFcs_stat⟩, State.noteFcs_keeps u r f.fcs,
      State.noteFcs_regsFrame u r f.fcs⟩
    obtain h | h | h | h | h := h
    · exact .inl h
    · exact .inr (.inl h)
    · exact .inr (.inr (.inl h))
    · exact .inr (.inr (.inr (State.lateFrame_eq_true (.inl h))))
    · exact .inr (.inr (.inr (State.lateFrame_eq_true (.inr h))))
  case refine_15 =>
    intro u r f k j rtt hp hd hk hj hg hm hjg hjm hw ht ho hb hl hfcs hh hty hep hcy hsid
    have hgood : State.goodCopy f k = true := by simp [State.goodCopy, hfcs, hh, hty, hep, hcy, hsid]
    obtain ⟨h1, h2⟩ := State.loopNoted_shown u r k f rtt hl
    have hr := (State.loopNoted_ring (u.tripKept r k rtt) r r f).trans (State.tripKept_ring u r k rtt)
    refine ⟨_, State.returned_good rtt hp hd hk hj hg hm hjg hjm (by rw [hw]; decide) ht ho (hb.trans (Nat.mod_eq_of_lt hl)) hfcs hgood hcy,
      by rw [hr], by rw [hr], h1, h2, State.loopNoted_keeps u r k f rtt,
      State.ringFrame_trans (State.tripKept_ringFrame u r k rtt) (State.loopNoted_ringFrame _ r f)⟩
  case refine_16 =>
    intro u r f k j rtt hp hd hk hj hg hm hjg hjm hw ht hcy hno
    obtain ⟨h1, h2, h3, h4, h5, h6⟩ := State.wrongCopy_spec u r k f.fcs
    refine ⟨_, State.returned_wrong rtt hp hd hk hj hg hm hjg hjm (by rw [hw]; decide) ht hcy (State.goodCopy_eq_false hno), ?_, h1, h2, ⟨h3, h4⟩,
      h5, h6, State.ringMsgFrame_trans (State.noteFcs_regsFrame u r f.fcs).ringMsgFrame (State.copyMissed_ringMsgFrame _ r false k)⟩
    rw [State.copyMissed_ring]
  case refine_17 =>
    intro s r n hp hn h0 hr
    exact ⟨_, State.execKrNodeSilt_due hp hn h0 hr, State.f_hit_same _ (KR_STAT_SILT r) (Nat.le_of_ble_eq_true rfl) rfl, State.siltTold_ring s r n,
      State.raisedOne_raise s ((s.modRing r _).hit (KR_STAT_SILT r)) _ rfl rfl,
      State.keeps_raise _ (State.keeps_hit (x := KR_STAT_SILT r) (State.keeps_of_regs rfl _) (.head _)), State.siltTold_ringMsgFrame s r n⟩
  case refine_18 =>
    intro s r n h
    exact State.execKrNodeSilt_not_due h
  case refine_19 =>
    intro s r h
    exact congrArg Host.Outcome.next (if_neg (Nat.not_le.mpr h))
  case refine_20 =>
    intro s r h
    obtain ⟨h1, h2⟩ := State.foreign_shown s r
    exact ⟨(s.hit (KR_STAT_FOREIGN r)).bump (KR_CNT_FOREIGN r), congrArg Host.Outcome.next (if_pos h), h1, h2,
      State.keeps_bump (State.keeps_hit (x := KR_STAT_FOREIGN r) (State.keeps_refl s _) (.head _)) (.tail _ (.head _)), rfl⟩
  case refine_21 =>
    intro s r n d h
    refine ⟨s.identMsg r n d, congrArg Host.Outcome.next (if_pos h), ?_, fun k hk => ?_, fun q hq => State.ring_modRing_ne s _ hq, rfl⟩
    · unfold State.identMsg
      rw [State.ring_modRing_same]
      exact State.assoc_assocSet_same n d _
    · unfold State.identMsg
      rw [State.ring_modRing_same]
      exact State.assoc_assocSet_ne d _ hk
  case refine_22 =>
    intro s r n sid d p q l m x h1 h2
    refine ⟨congrArg Host.Outcome.next (if_neg h2), congrArg Host.Outcome.next (if_neg h2), congrArg Host.Outcome.next (if_neg h1),
      congrArg Host.Outcome.next (if_neg fun h => h2 h.1)⟩
  case refine_23 =>
    intro s r n sid want hm hw
    have hs : want = s.ackSid r := hw
    obtain ⟨h1, h2⟩ := State.acked_shown s r n
    refine ⟨fun h => ?_, fun h hn hf => ⟨_, ?_, h1, h2, rfl⟩, fun i h hn hf ha => ⟨_, ?_, h1, h2, rfl⟩⟩
    · rw [State.execLayoutAck_master n sid hm, State.layoutAck_other (hs ▸ h)]
    · rw [State.execLayoutAck_master n sid hm, State.layoutAck_shadow (h.trans hs) hn hf]
    · rw [State.execLayoutAck_master n sid hm, State.layoutAck_waits (h.trans hs) hn hf ha]
  case refine_24 =>
    intro s r n i hm hf hn ha hl
    obtain ⟨h1, h2, h3, h4⟩ := State.shadowShown_f { s.setF (KR_NODE_PEND_ACK r n) 1 with
      cfg := { s.cfg with shadow := some i, nodesFor := none, loading := none } } i.slot
    obtain ⟨-, hk⟩ := State.acked_shown s r n
    have hs := fun (x : Fld) (hx : x.reg = CFG_STAT) => State.holdShadow_stat (s.setF (KR_NODE_PEND_ACK r n) 1) hl hx
    refine ⟨(s.setF (KR_NODE_PEND_ACK r n) 1).holdShadow i, by rw [State.execLayoutAck_master n _ hm, State.layoutAck_last hn hf ha],
      State.holdShadow_cfg _ i, (hs _ rfl).trans h1, (hs _ rfl).trans h2, (hs _ rfl).trans h3, (hs _ rfl).trans h4, State.holdShadow_sid _ hl, ?_,
      State.cfgFrame_trans (State.cfgFrame_of_regs rfl) (State.holdShadow_cfgFrame _ i)⟩
    exact State.keeps_trans (State.keeps_mono hk fun x hx => List.mem_append_left _ (by simp_all))
      (State.keeps_mono (State.holdShadow_keeps _ hl) fun x hx => .tail _ hx)
  case refine_25 =>
    intro s u r n p q l m hu hm h
    obtain ⟨h1, h2⟩ := State.linkNoted_shown u r { node := n, p := p, s := q, loop := l, at_ := u.time.mono }
    have hr := State.linkNoted_ring u r { node := n, p := p, s := q, loop := l, at_ := u.time.mono }
    refine ⟨u.linkNoted r { node := n, p := p, s := q, loop := l, at_ := u.time.mono }, ?_, by rw [hr], h1, h2, by rw [hr],
      fun k hk => State.linkNoted_ring_ne u _ hk, State.linkNoted_keeps u r _, State.linkNoted_ringFrame u r _⟩
    rw [State.execLink_eq r n p q l hu, if_pos hm, State.linkMsg_eq, State.linksSame_eq_false h]
    rfl
  case refine_26 =>
    intro s u r n x m hu h
    rw [State.execLink_eq r n _ _ _ hu, State.linkMsg_eq, State.linksSame_of_find h]
    exact congrArg Host.Outcome.next (ite_self u)
  case refine_27 =>
    intro s r x hm ht h
    obtain ⟨h1, h2, h3, h4⟩ := State.svcDropped_spec s r x
    exact ⟨s.svcDropped r x, by rw [State.execSvcHandlerMessage_master hm ht, State.handlerMsg_no_route h], h1, h2, h3, h4⟩
  case refine_28 =>
    intro s r x y n w hm ht hf hn hw
    have he : (⟨8 + x.data.length, .work w⟩ : QItem) = s.svcItem r x y := by rw [hw]; rfl
    have hq : n = State.svcQueue r := hn
    rw [he, hq]
    refine ⟨fun u hu => ?_, fun hu => ?_⟩
    · obtain ⟨hi, -, ho, hk, hfr⟩ := State.offer_some hu
      obtain ⟨h1, h2⟩ := State.join_sched u (s.svcWork r x y)
      have hj := State.join_frame u (s.svcWork r x y)
      have hs : u.sched = s.sched := by rw [hfr]
      have hqj : ∀ k, (u.join (s.svcWork r x y)).queue k = u.queue k := fun k => by rw [hj]; rfl
      refine ⟨u.join (s.svcWork r x y), by rw [State.execSvcHandlerMessage_master hm ht, State.handlerMsg_admitted hf hu], by rw [h1, hs], by rw [h2, hs],
        by rw [hqj, hi], fun k hkn => by rw [hqj, ho k hkn], State.keeps_congr hk (by rw [hj]), ?_⟩
      rw [hj, hfr]
    · obtain ⟨h1, h2, h3, h4⟩ := State.svcDropped_spec (s.bump (HQ_CNT_REF (State.svcQueue r))) r x
      have hne : KR_CNT_SVC r ≠ HQ_CNT_REF (State.svcQueue r) := by
        unfold KR_CNT_SVC krBase HQ_CNT_REF
        omega
      have hb := State.keeps_bump (s := s) (l := [KR_CNT_SVC r, HQ_CNT_REF (State.svcQueue r)]) (State.keeps_refl s _) (a := HQ_CNT_REF (State.svcQueue r))
        (.tail _ (.head _))
      refine ⟨_, by rw [State.execSvcHandlerMessage_master hm ht, State.handlerMsg_refused hf hu], ?_, ?_, h2,
        State.keeps_trans hb (State.keeps_mono h3 (by simp)), rfl⟩
      · rw [h1, State.rdN_bump_ne _ hne]
      · rw [State.rdN_keeps h3 (by simpa using hne.symm), State.rdN_bump_same]
  case refine_29 =>
    intro s r x h
    exact congrArg Host.Outcome.next (if_neg fun hc => absurd hc.2 (Nat.not_le.mpr h))

end Sys2Proof.Machine

/-! SUPPORT and O8: a write to CFG_CTL reaches the configuration's commands (R71). -/

namespace Sys2Proof.Machine

/-- The window of the configuration is open under every structure. -/
theorem State.instanceUsed_CFG_CTL (st : Structure) : State.instanceUsed st CFG_CTL = true := by
  simp [State.instanceUsed, CFG_CTL]

/-- A write to CFG_CTL is a command of the configuration: no block before it has a rule for that register (R71). -/
theorem State.regWrite_CFG_CTL (s : State) (v : Word) (e : WriteEnv) : s.regWrite CFG_CTL v e = s.cfgCommand (v.toNat % 32) := by
  unfold State.regWrite
  rw [State.instanceUsed_CFG_CTL]
  rfl

theorem execRegisterWrite_CFG_CTL {s : State} (v : Word) (e : WriteEnv) (h : s.writable CFG_CTL = true) :
    exec (.registerWrite CFG_CTL v e) s = .next (s.cfgCommand (v.toNat % 32)) := by
  have hf : s.fullWrite CFG_CTL v e = s.cfgCommand (v.toNat % 32) := by
    unfold State.fullWrite
    rw [if_neg (fun h => absurd h.1 (by decide)), State.regWrite_CFG_CTL]
  rw [exec, execRegisterWrite, if_pos (by decide), State.hostRegWrite, if_pos h, hf]

/-- Bits that are no single command are refused with MODE (R71). -/
theorem State.cfgCommand_refused (s : State) {n : Nat} (h : n ∉ [0, 1, 2, 4, 8, 16]) : s.cfgCommand n = s.cfgErr 0x10 := by
  simp only [List.mem_cons, List.not_mem_nil, or_false, not_or] at h
  obtain ⟨h0, h1, h2, h4, h8, h16⟩ := h
  simp [State.cfgCommand, h0, h1, h2, h4, h8, h16]

/-- CFG_ERR shows a code without detail, and nothing else changes. -/
theorem State.cfgErr_spec (s : State) {code : Nat} (h : code < 4294967296) :
    (s.cfgErr code).rdN CFG_ERR = code ∧ s.keeps (s.cfgErr code) [CFG_ERR] ∧ s.cfgErr code = { s with regs := (s.cfgErr code).regs } :=
  ⟨(State.rdN_wrN_same s CFG_ERR (code + 256 * 0)).trans (Nat.mod_eq_of_lt h), State.keeps_wrN _ (State.keeps_refl s _) (.head _), rfl⟩

/-- Settles O8: a word with several command bits is none of the single commands, so CFG_ERR shows MODE and that is all. -/
theorem configOneBit : Obligations.ConfigOneBit := by
  unfold Obligations.ConfigOneBit
  intro s v e hw hv
  obtain ⟨hc, hk, hf⟩ := s.cfgErr_spec (code := 0x10) (by decide)
  exact ⟨s.cfgErr 0x10, by rw [execRegisterWrite_CFG_CTL v e hw, State.cfgCommand_refused s hv], hc, hk, hf⟩

end Sys2Proof.Machine

/-! SUPPORT. O55: what a completion does, said once, and a command that leaves HQ5 with its completion (R528, R531). -/

namespace Sys2Proof

/-- The first words of a run written at rising keys are read back there. -/
theorem Store.getMany_setMany_prefix {w : Nat} {d : BitVec w} (m : Store w) (a : Nat) (xs ys : List (BitVec w)) :
    Store.getMany d (Store.setMany d m a (xs ++ ys)) a xs.length = xs := by
  induction xs generalizing m a with
  | nil => rfl
  | cons x xs ih =>
    simp only [List.length_cons, List.cons_append, Store.getMany, Store.setMany]
    rw [ih, Store.get_setMany_below _ _ (by omega), Store.get_set_same]

namespace Machine
namespace State

-- ===== a work item out of its queue =====

/-- The item of a queue is not this piece of work. -/
def notWork (w : Work) (i : QItem) : Bool := match i.body with | .work x => x.id != w.id | _ => true

theorem withdraw_queue_ne (s : State) {n m : Fin 16} (p : QItem → Bool) (h : m ≠ n) : (s.withdraw n p).queue m = s.queue m := by
  simp [withdraw, freeCells, queue, Bank.get_set_ne _ _ h]

theorem unqueue_host5 (s : State) {w : Work} (hw : w.src = 5) : s.unqueue w =
    { s with sched := { s.sched with ready := s.sched.ready.filter (fun x => x.id != w.id) }
             hq := (s.withdraw 5 (fun i => !notWork w i)).hq } := by
  have hp : (fun i : QItem => match i.body with | .work x => x.id == w.id | _ => false) = fun i => !notWork w i := by
    funext i
    unfold notWork
    cases i.body with
    | work x => simp [bne]
    | _ => rfl
  unfold unqueue
  simp only [hw, Nat.reduceLT, ↓reduceDIte]
  exact congrArg (fun p => State.withdraw _ 5 p) hp

theorem unqueue_frame (s : State) {w : Work} (hw : w.src = 5) :
    s.unqueue w = { s with hq := (s.unqueue w).hq, sched := (s.unqueue w).sched } := by
  rw [unqueue_host5 s hw]

theorem unqueue_items (s : State) {w : Work} (hw : w.src = 5) :
    ((s.unqueue w).queue 5).items = (s.queue 5).items.filter (notWork w) := by
  rw [unqueue_host5 s hw]
  refine ((s.withdraw_items 5 fun i => !notWork w i).1).trans ?_
  simp

theorem unqueue_queue_ne (s : State) {w : Work} (hw : w.src = 5) {n : Fin 16} (h : n ≠ 5) : (s.unqueue w).queue n = s.queue n := by
  rw [unqueue_host5 s hw]
  exact s.withdraw_queue_ne _ h

theorem unqueue_regs (s : State) {w : Work} (hw : w.src = 5) : (s.unqueue w).regs = s.regs := by rw [unqueue_frame s hw]
theorem unqueue_host (s : State) {w : Work} (hw : w.src = 5) : (s.unqueue w).host = s.host := by rw [unqueue_frame s hw]

-- ===== a completion entry =====

/-- The bytes of a completion entry (R531). -/
def cqEntry (s : State) (c : Completion) : List Byte :=
  natLE 4 c.tag ++ natLE 1 c.adm ++ natLE 1 c.result ++ natLE 1 ((Config.unstated 19 0 + s.host.wraps) % 2) ++ natLE 1 0
    ++ natLE 4 c.value ++ natLE 4 (s.rdN HQ_HC_HEAD)

theorem cqEntry_length (s : State) (c : Completion) : (s.cqEntry c).length = 16 := by
  simp [cqEntry, natLE_length]

/-- An entry written: host memory, the wraps and vector 0 change in the host's state. -/
theorem writeCq_host (s : State) (c : Completion) : ∃ k, (s.writeCq c).host =
    { s.host with mem := s.host.mem.setMany 0 s.cqAddr (s.cqEntry c), wraps := k, msix := s.host.msix.modify 0 (· + 1) } := by
  unfold writeCq
  dsimp only
  split
  · exact ⟨_, rfl⟩
  · exact ⟨_, rfl⟩

theorem writeCq_eq (s : State) (c : Completion) : s.writeCq c =
    { s.setF HQ_CQ_TAIL_INDEX ((s.f HQ_CQ_TAIL_INDEX % s.cqSize + 1) % s.cqSize) with host := (s.writeCq c).host } := by
  unfold writeCq
  dsimp only
  split <;> rfl

theorem writeCq_keeps (s : State) (c : Completion) : s.keeps (s.writeCq c) [HQ_CQ_TAIL] := by
  rw [writeCq_eq]
  exact keeps_setF (x := HQ_CQ_TAIL_INDEX) _ (keeps_refl s _) (.head _)

/-- The tail moves on by one (R531). -/
theorem writeCq_tail (s : State) (c : Completion) (h : s.f HQ_CQ_CFG_LOG2 ≤ 12) :
    (s.writeCq c).f HQ_CQ_TAIL_INDEX = (s.f HQ_CQ_TAIL_INDEX % s.cqSize + 1) % s.cqSize := by
  have hs : s.cqSize ≤ 2 ^ 12 := Nat.pow_le_pow_right (by decide) h
  have hp : 0 < s.cqSize := Nat.two_pow_pos _
  rw [writeCq_eq]
  refine (f_setF_same s HQ_CQ_TAIL_INDEX _ (by decide)).trans (Nat.mod_eq_of_lt ?_)
  exact (Nat.mod_lt _ hp).trans_le hs

-- ===== a command completes =====

/-- The command is open and its completion will be written (R531). -/
def isOpen (s : State) (w : Work) : Prop :=
  s.flag HQ_CQ_CFG_EN = true ∧ ∃ o, s.host.opened.find? (fun (x : HostOpen) => x.id == w.id) = some o ∧ o.drop = false

/-- The command is open no longer, and its cell of HQ6 has returned. -/
def closeCmd (s : State) (w : Work) : State :=
  { s with host := { s.host with opened := s.host.opened.filter (fun (x : HostOpen) => x.id != w.id) } }.freeCells 6 1

theorem answer_open {s : State} {w : Work} (h : s.isOpen w) (adm result value : Nat) :
    s.answer w adm result value = (s.closeCmd w).writeCq ⟨w.tag, adm, result, value⟩ := by
  obtain ⟨hen, o, ho, hd⟩ := h
  unfold answer complete
  rw [ho]
  have hn : ¬ (o.drop = true ∨ (!(s.flag HQ_CQ_CFG_EN)) = true) := by simp [hd, hen]
  exact if_neg hn

theorem closeCmd_queue (s : State) (w : Work) {n : Fin 16} (h : n ≠ 6) : (s.closeCmd w).queue n = s.queue n := by
  simp [closeCmd, freeCells, queue, Bank.get_set_ne _ _ h]

/-- The completion of an open command: its entry in host memory, vector 0, and the command out of the open ones (R528, R531). -/
theorem answer_host {s : State} {w : Work} (h : s.isOpen w) (adm result value : Nat) : ∃ k,
    (s.answer w adm result value).host =
      { s.host with mem := s.host.mem.setMany 0 s.cqAddr (s.cqEntry ⟨w.tag, adm, result, value⟩), wraps := k,
                    msix := s.host.msix.modify 0 (· + 1), opened := s.host.opened.filter (fun (x : HostOpen) => x.id != w.id) } := by
  rw [answer_open h]
  obtain ⟨k, hk⟩ := (s.closeCmd w).writeCq_host ⟨w.tag, adm, result, value⟩
  exact ⟨k, hk⟩

/-- A completion touches the host's state, HQ6 and the registers, whether it is written or dropped. -/
theorem answer_frame (s : State) (w : Work) (adm result value : Nat) : s.answer w adm result value =
    { s with host := (s.answer w adm result value).host, hq := (s.answer w adm result value).hq,
             regs := (s.answer w adm result value).regs } := by
  unfold answer complete
  split
  · rfl
  · dsimp only
    split
    · rfl
    · rw [writeCq_eq]; rfl

theorem answer_nv (s : State) (w : Work) (adm result value : Nat) : (s.answer w adm result value).nv = s.nv := by rw [answer_frame]

theorem answer_slotJob (s : State) (w : Work) (adm result value : Nat) :
    (s.answer w adm result value).host.slotJob = s.host.slotJob := by
  unfold answer complete
  split
  · rfl
  · dsimp only
    split
    · rfl
    · obtain ⟨k, hk⟩ := writeCq_host ({ s with host := { s.host with
        opened := s.host.opened.filter (fun (x : HostOpen) => x.id != w.id) } }.freeCells 6 1) ⟨w.tag, adm, result, value⟩
      rw [hk]
      rfl

theorem answer_queue {s : State} {w : Work} (h : s.isOpen w) (adm result value : Nat) {n : Fin 16} (hn : n ≠ 6) :
    (s.answer w adm result value).queue n = s.queue n := by
  rw [answer_open h, writeCq_eq]
  exact s.closeCmd_queue w hn

theorem answer_keeps {s : State} {w : Work} (h : s.isOpen w) (adm result value : Nat) :
    s.keeps (s.answer w adm result value) [HQ_CQ_TAIL] := by
  rw [answer_open h]
  exact keeps_trans (keeps_of_regs rfl _) (writeCq_keeps _ _)

-- ===== an outcome that answers =====

/-- The registers that a completion entry goes by. -/
def cqRegs : List Nat := [HQ_CQ_BASE 0, HQ_CQ_BASE 1, HQ_CQ_CFG, HQ_CQ_TAIL]

/-- u has carried out the command w of s: w has left HQ5, and the completion ring stands as it stood. -/
structure Served (s u : State) (w : Work) : Prop where
  items : (u.queue 5).items = (s.queue 5).items.filter (notWork w)
  host : ∃ j, u.host = { s.host with slotJob := j }
  ring : ∀ r ∈ cqRegs, u.rd r = s.rd r

theorem Served.f_eq {s u : State} {w : Work} (h : Served s u w) (x : Fld) (hx : x.reg ∈ cqRegs) : u.f x = s.f x := by
  unfold f
  rw [h.ring _ hx]

theorem Served.cqAddr_eq {s u : State} {w : Work} (h : Served s u w) : u.cqAddr = s.cqAddr ∧ u.cqSize = s.cqSize := by
  have h0 : u.rdN (HQ_CQ_BASE 0) = s.rdN (HQ_CQ_BASE 0) := congrArg BitVec.toNat (h.ring _ (by decide))
  have h1 : u.rdN (HQ_CQ_BASE 1) = s.rdN (HQ_CQ_BASE 1) := congrArg BitVec.toNat (h.ring _ (by decide))
  simp only [cqAddr, cqSize, rd2, h0, h1, h.f_eq HQ_CQ_TAIL_INDEX (by decide), h.f_eq HQ_CQ_CFG_LOG2 (by decide), and_self]

theorem Served.isOpen {s u : State} {w : Work} {cls : Nat} (h : Served s u w) (ho : s.hostOldest w cls) : u.isOpen w := by
  obtain ⟨j, hj⟩ := h.host
  obtain ⟨-, -, hen, -, o, hf, hd⟩ := ho
  refine ⟨?_, o, by rw [hj]; exact hf, hd⟩
  unfold flag
  rw [h.f_eq HQ_CQ_CFG_EN (by decide)]
  exact hen

/-- A command that was served completes with its codes (R531). -/
theorem Served.answered {s u : State} {w : Work} {cls : Nat} (h : Served s u w) (ho : s.hostOldest w cls) (adm result value : Nat) :
    s.answered (u.answer w adm result value) w adm result value := by
  obtain ⟨ha, hsz⟩ := h.cqAddr_eq
  obtain ⟨j, hj⟩ := h.host
  obtain ⟨k, hk⟩ := answer_host (h.isOpen ho) adm result value
  have hm : (u.answer w adm result value).host.mem = s.host.mem.setMany 0 s.cqAddr (u.cqEntry ⟨w.tag, adm, result, value⟩) := by
    rw [hk, ← ha, hj]
  refine ⟨⟨(Config.unstated 19 0 + u.host.wraps) % 2, Nat.mod_lt _ (by decide), ?_⟩, ?_, ?_, ?_, ?_, ?_⟩
  · have hl : (natLE 4 w.tag ++ natLE 1 adm ++ natLE 1 result ++ natLE 1 ((Config.unstated 19 0 + u.host.wraps) % 2) ++ natLE 1 0
        ++ natLE 4 value).length = 12 := by simp [natLE_length]
    rw [hm]
    conv_lhs => rw [← hl]
    exact Store.getMany_setMany_prefix _ _ _ _
  · intro a hx
    rw [hm]
    rcases hx with hx | hx
    · exact Store.get_setMany_below _ _ hx
    · exact Store.get_setMany_above _ _ (by rw [cqEntry_length]; exact hx)
  · have ⟨_, _, _, hlog, _⟩ := ho
    rw [answer_open (h.isOpen ho), writeCq_tail]
    · show (u.f HQ_CQ_TAIL_INDEX % u.cqSize + 1) % u.cqSize = _
      rw [hsz, h.f_eq HQ_CQ_TAIL_INDEX (by decide)]
    · show u.f HQ_CQ_CFG_LOG2 ≤ 12
      rw [h.f_eq HQ_CQ_CFG_LOG2 (by decide)]
      exact hlog
  · rw [hk, hj]
    simp
  · rw [hk, hj]
  · rw [answer_queue (h.isOpen ho) _ _ _ (by decide), h.items]
    rfl

/-- A command taken out of HQ5 alone. -/
theorem served_unqueue (s : State) {w : Work} (hw : w.src = 5) : Served s (s.unqueue w) w :=
  ⟨s.unqueue_items hw, ⟨s.host.slotJob, s.unqueue_host hw⟩, fun r _ => by unfold rd; rw [s.unqueue_regs hw]⟩

/-- What follows on HQ5's part leaves a served command served where it leaves HQ5, the host's state and the completion ring. -/
theorem Served.step {s u v : State} {w : Work} {l : List Nat} (h : Served s u w) (hi : (v.queue 5).items = (u.queue 5).items)
    (hh : v.host = u.host) (hk : u.keeps v l) (hl : ∀ r ∈ cqRegs, r ∉ l) : Served s v w :=
  ⟨hi.trans h.items, hh ▸ h.host, fun r hr => (hk r (hl r hr)).trans (h.ring r hr)⟩

end State
end Machine
end Sys2Proof

/-! SUPPORT. O55: segments, insertions and cancels of the host through their own admission (R123, R124, R190). -/

namespace Sys2Proof.Machine

namespace State

-- ===== admission at a queue and at HQ12 =====

theorem offerOr_frame (s : State) (n : Fin 16) (i : QItem) :
    (∀ m, m ≠ n → (s.offerOr n i).1.queue m = s.queue m) ∧ s.keeps (s.offerOr n i).1 [HQ_HWM n, HQ_CNT_REF n] ∧
      (s.offerOr n i).1 = { s with hq := (s.offerOr n i).1.hq, regs := (s.offerOr n i).1.regs } := by
  unfold offerOr
  split
  · next u hu =>
    obtain ⟨-, -, hq, hk, hf⟩ := offer_some hu
    exact ⟨hq, keeps_mono hk (fun _ hx => List.mem_singleton.mp hx ▸ List.mem_cons_self), hf⟩
  · exact ⟨fun _ _ => rfl, keeps_bump (keeps_refl s _) (.tail _ (.head _)), rfl⟩

/-- The registers that the admission of a segment may write: the count of refusals of its tile, and those of HQ12 (R190). -/
def segRegs (g : Segment) : List Nat := [HQ_HWM 12, HQ_CNT_REF 12, TILE_PLN_CNT_REF g.axis]

/-- The admission of a segment touches the tile, HQ12 and their registers (R190). -/
theorem admitSegment_spec (s : State) (g : Segment) (p : Nat) :
    (∀ n, n ≠ 12 → (s.admitSegment g p).1.queue n = s.queue n) ∧ s.keeps (s.admitSegment g p).1 (segRegs g) ∧
      (s.admitSegment g p).1 = { s with tiles := (s.admitSegment g p).1.tiles, hq := (s.admitSegment g p).1.hq,
                                        regs := (s.admitSegment g p).1.regs } := by
  have hc {u : State} (h : s.keeps u (segRegs g)) : s.keeps (u.bump (TILE_PLN_CNT_REF g.axis)) (segRegs g) :=
    keeps_bump h (.tail _ (.tail _ (.head _)))
  unfold admitSegment
  split
  · next h =>
    dsimp only
    obtain ⟨hq, hk, hf⟩ := s.offerOr_frame 12 ⟨64, .segment g p s.time.mono⟩
    have hk' : s.keeps (s.offerOr 12 ⟨64, .segment g p s.time.mono⟩).1 (segRegs g) :=
      keeps_mono hk (fun x hx => List.mem_append_left [TILE_PLN_CNT_REF g.axis] hx)
    split
    · exact ⟨fun _ _ => rfl, hc (keeps_refl s _), rfl⟩
    · split
      · exact ⟨hq, hk', by rw [hf]; rfl⟩
      · exact ⟨hq, hc hk', by rw [hf]; rfl⟩
  · exact ⟨fun _ _ => rfl, keeps_refl s _, rfl⟩

theorem cqRegs_notMem_segRegs (g : Segment) : ∀ r ∈ cqRegs, r ∉ segRegs g := by
  have ht : 0x100000 ≤ TILE_PLN_CNT_REF g.axis := by unfold TILE_PLN_CNT_REF tileBase; omega
  simp only [cqRegs, segRegs, List.mem_cons, List.not_mem_nil, or_false, forall_eq_or_imp, forall_eq, not_or]
  simp only [HQ_CQ_BASE, HQ_CQ_CFG, HQ_CQ_TAIL, HQ_HWM, HQ_CNT_REF]
  omega

/-- The segment of a command of the host is judged: the command is served (R532). -/
theorem served_segment (s : State) {w : Work} (hw : w.src = 5) :
    Served s ((s.unqueue w).admitSegment (Segment.ofBytes w.payload) 1).1 w := by
  obtain ⟨hq, hk, hf⟩ := (s.unqueue w).admitSegment_spec (Segment.ofBytes w.payload) 1
  exact (s.served_unqueue hw).step (by rw [hq 5 (by decide)]) (by rw [hf]) hk (cqRegs_notMem_segRegs _)

/-- A segment that passes every check stands last in HQ12, and its tile has admitted one more (R190). -/
theorem admitSegment_ok {s u : State} {g : Segment} {a : Fin 96} (p : Nat) (ha : g.axis = a.val) (hc : s.segCheck a g = admOK)
    (hu : s.offer 12 ⟨64, .segment g p s.time.mono⟩ = some u) :
    s.admitSegment g p = (u.modTile a (fun t => { t with admitted := t.admitted + 1 }), admOK) := by
  have hlt : g.axis < 96 := ha ▸ a.isLt
  have hax : (⟨g.axis, hlt⟩ : Fin 96) = a := Fin.ext ha
  simp [admitSegment, hlt, hax, hc, offerOr_some hu]

-- ===== insertions and cancels =====

theorem wheelFrame_hq {s u : State} (h : s.wheelFrame u) : u.hq = s.hq := by rw [h]
theorem wheelFrame_host {s u : State} (h : s.wheelFrame u) : u.host = s.host := by rw [h]

/-- An insertion touches the wheel, its count of refusals and WHEEL_OCC (R123). -/
theorem insert_spec (s : State) (core : Bool) (d : Descriptor) :
    s.keeps (s.insert core d).1 [WHEEL_CNT_REF, WHEEL_OCC] ∧ s.wheelFrame (s.insert core d).1 := by
  by_cases h : s.insertCheck d = admOK
  · rcases lt_or_ge (s.pathBucket core).tokens tokenUnit with ht | ht
    · obtain ⟨u, hu, -, -, hk, hf⟩ := insert_no_token core h ht
      rw [hu]
      exact ⟨keeps_mono hk (by decide), hf⟩
    · obtain ⟨u, k, b, hu, -, hk, hf⟩ := insert_stored core h ht
      rw [hu]
      exact ⟨keeps_mono hk (by decide), hf⟩
  · rw [insert_refused core h]
    exact ⟨keeps_bump (keeps_refl s _) (.head _), rfl⟩

/-- A command of the host that changed only the wheel and registers off the completion ring is served. -/
theorem Served.wheel {s u : State} {w : Work} {l : List Nat} (hw : w.src = 5) (hk : (s.unqueue w).keeps u l)
    (hf : (s.unqueue w).wheelFrame u) (hl : ∀ r ∈ cqRegs, r ∉ l) : Served s u w :=
  (s.served_unqueue hw).step (by unfold queue; rw [wheelFrame_hq hf]) (wheelFrame_host hf) hk hl

/-- Storing W arms descriptors and changes nothing else of them (R117). -/
theorem syncW_descs (s : State) : ∃ arm : WDesc → Bool, s.syncW.wheel.descs = s.wheel.descs.map (fun y => { y with armed := arm y }) := by
  unfold syncW
  split
  · exact ⟨fun y => y.armed, (List.map_id' _).symm⟩
  · dsimp only
    split <;> exact ⟨fun y => y.armed || !s.past y.d, rfl⟩

theorem syncW_descOf_none {s : State} {h : Nat} (hn : s.descOf h = none) : s.syncW.descOf h = none := by
  obtain ⟨arm, ha⟩ := s.syncW_descs
  unfold descOf at hn ⊢
  rw [List.find?_eq_none] at hn ⊢
  rw [ha]
  intro x hx
  obtain ⟨y, hy, rfl⟩ := List.mem_map.mp hx
  exact hn y hy

/-- The descriptors that stay after a cancel are those that stood, but for where they are armed (R124). -/
theorem syncW_filter_map (s : State) (h : Nat) :
    (s.syncW.wheel.descs.filter (fun (x : WDesc) => x.handle != h)).map (fun y => (y.handle, y.seq, y.d)) =
      (s.wheel.descs.filter (fun (x : WDesc) => x.handle != h)).map (fun y => (y.handle, y.seq, y.d)) := by
  obtain ⟨arm, ha⟩ := s.syncW_descs
  rw [ha, List.filter_map, List.map_map]
  rfl

theorem syncW_wheelFrame (s : State) : s.wheelFrame s.syncW := s.syncW_frame

end State

-- ===== the commands =====

theorem execHostSegment_next {s : State} {w : Work} (h : s.hostNext 1 = some w) : exec .hostSegment s = .next
    (((s.unqueue w).admitSegment (Segment.ofBytes w.payload) 1).1.answer w ((s.unqueue w).admitSegment (Segment.ofBytes w.payload) 1).2 0 0) := by
  rw [exec, execHostSegment, h]

theorem execHostWheelIns_next {s : State} {w : Work} (h : s.hostNext 2 = some w) : exec .hostWheelIns s = .next
    (((s.unqueue w).insert false (Descriptor.ofBytes w.payload)).1.answer w ((s.unqueue w).insert false (Descriptor.ofBytes w.payload)).2.1 0
      ((s.unqueue w).insert false (Descriptor.ofBytes w.payload)).2.2) := by
  rw [exec, execHostWheelIns, h]

theorem execHostWheelCancel_next {s : State} {w : Work} (h : s.hostNext 3 = some w) : exec .hostWheelCancel s =
    .next (((s.unqueue w).cancel w.arg).1.answer w ((s.unqueue w).cancel w.arg).2 0 0) := by
  rw [exec, execHostWheelCancel, h]

theorem execHostSegment_none {s : State} (h : s.hostNext 1 = none) : exec .hostSegment s = .next s := by
  rw [exec, execHostSegment, h]

theorem execHostWheelIns_none {s : State} (h : s.hostNext 2 = none) : exec .hostWheelIns s = .next s := by
  rw [exec, execHostWheelIns, h]

theorem execHostWheelCancel_none {s : State} (h : s.hostNext 3 = none) : exec .hostWheelCancel s = .next s := by
  rw [exec, execHostWheelCancel, h]

end Sys2Proof.Machine

/-! SUPPORT. O55: the writing and erasing of slots and of flash (R53, R89, R534, R548). -/

namespace Sys2Proof

theorem Bank.get?_val {n : Nat} {α : Type} (b : Bank n α) (i : Fin n) : b.get? i.val = some (b.get i) := by
  simp [Bank.get?, Bank.get_eq, b.len]

/-- A store without the keys of a class reads the unlisted word there, and as before elsewhere. -/
theorem Store.get_filter {w : Nat} {d : BitVec w} (m : Store w) (p : Nat → Bool) (b : Nat) :
    Store.get d (m.filter (fun c => p c.1)) b = if p b then Store.get d m b else d := by
  induction m with
  | nil => simp [Store.get]
  | cons c m ih =>
    rcases eq_or_ne c.1 b with h | h
    · rcases hp : p b with _ | _
      · rw [List.filter_cons_of_neg (by rw [h, hp]; decide), ih, hp]
        rfl
      · rw [List.filter_cons_of_pos (by rw [h, hp])]
        simp [Store.get, h]
    · rcases hp : p c.1 with _ | _
      · rw [List.filter_cons_of_neg (by simp [hp]), ih]
        simp [Store.get, h]
      · rw [List.filter_cons_of_pos (p := fun c : Nat × BitVec w => p c.1) hp]
        simp only [Store.get, if_neg h]
        exact ih

namespace Machine
namespace State

-- ===== the recorder's intake leaves the other queues =====

theorem noteDrop_hq (s : State) (p : Nat) : (s.noteDrop p).hq = s.hq := by
  unfold noteDrop
  dsimp only
  split <;> rfl

theorem recMakeRoom_queue_ne (s : State) (r : RecItem) (it : QItem) (k : Nat) {n : Fin 16} (hn : n ≠ 8) :
    (s.recMakeRoom r it k).1.queue n = s.queue n := by
  induction k generalizing s with
  | zero => rfl
  | succ k ih =>
    unfold recMakeRoom
    split
    · next u hu => exact (offer_some hu).2.2.1 n hn
    · dsimp only
      split
      · unfold queue
        rw [noteDrop_hq]
      · rw [ih]
        unfold queue
        rw [noteDrop_hq]
        simp [recRemove, freeCells, queue, Bank.get_set_ne _ _ hn]

theorem recJudge_queue_ne (s : State) (r : RecItem) {n : Fin 16} (hn : n ≠ 8) : (s.recJudge r).1.queue n = s.queue n := by
  unfold recJudge
  split
  · exact recMakeRoom_queue_ne _ _ _ _ hn
  · split
    · exact recMakeRoom_queue_ne _ _ _ _ hn
    · dsimp only
      split
      · rfl
      · refine (recMakeRoom_queue_ne _ _ _ _ hn).trans ?_
        split
        · rfl
        · exact recMakeRoom_queue_ne _ _ _ _ hn

theorem offerRec_queue_ne (s : State) (code prio : Nat) (b : List Byte) {n : Fin 16} (hn : n ≠ 8) :
    (s.offerRec code prio b).queue n = s.queue n := by
  unfold offerRec offerRecAt
  rcases s.recOffer_cases false { code := code, prio := prio, payload := b, time := s.time.now } with h | ⟨q, h⟩
  · rw [h]; rfl
  · rw [h]; exact s.recJudge_queue_ne q hn

-- ===== the record of a slot's end =====

theorem slotRecord_nv (s : State) (slot r : Nat) : (s.slotRecord slot r).nv = s.nv := s.offerRec_nv _ _ _
theorem slotRecord_host (s : State) (slot r : Nat) : (s.slotRecord slot r).host = s.host := s.offerRec_host _ _ _
theorem slotRecord_keeps (s : State) (slot r : Nat) : s.keeps (s.slotRecord slot r) recRegs := s.offerRec_keeps _ _ _

/-- The record of a slot's end leaves a completion as it was made (R548). -/
theorem answered_slotRecord {s t : State} {w : Work} {adm result value : Nat} (h : s.answered t w adm result value) (slot r : Nat) :
    s.answered (t.slotRecord slot r) w adm result value := by
  unfold answered at h ⊢
  rw [slotRecord_host, f_keeps (t.slotRecord_keeps slot r) (x := HQ_CQ_TAIL_INDEX) (by decide),
    show (t.slotRecord slot r).queue 5 = t.queue 5 from t.offerRec_queue_ne _ _ _ (by decide)]
  exact h

-- ===== the directory =====

theorem setSlot_fin (s : State) (k : Fin 10) (e : Option DirEntry) (o : Option Nat) :
    s.setSlot k e o = { s with nv := { s.nv with dir := s.nv.dir.set k e, writing := s.nv.writing.set k o } } := dif_pos k.isLt

/-- A slot's entry stands, and the other slots' as they stood. -/
def slotIs (s t : State) (k : Fin 10) (e : Option DirEntry) (o : Option Nat) : Prop :=
  t.nv.dir.get k = e ∧ t.nv.writing.get k = o ∧ ∀ j, j ≠ k → t.nv.dir.get j = s.nv.dir.get j ∧ t.nv.writing.get j = s.nv.writing.get j

theorem slotIs_setSlot {s u t : State} (k : Fin 10) (e : Option DirEntry) (o : Option Nat) (hd : u.nv.dir = s.nv.dir)
    (hw : u.nv.writing = s.nv.writing) (ht : t.nv = (u.setSlot k e o).nv) : slotIs s t k e o := by
  unfold slotIs
  rw [ht, setSlot_fin]
  simp only [Bank.get_set_same, true_and]
  exact fun j hj => ⟨by rw [Bank.get_set_ne _ _ hj, hd], by rw [Bank.get_set_ne _ _ hj, hw]⟩

theorem slotNext_fin (s : State) (k : Fin 10) : s.slotNext k = s.nv.writing.get k := by
  unfold slotNext
  rw [Bank.get?_val]
  rfl

theorem slotCheck_fin (s : State) (k : Fin 10) (off len : Nat) : s.slotCheck k off len =
    if s.slotBusy k then rSLOT_IN_USE
    else if (s.nv.writing.get k).any (· != off) ∨ slotSize k < off + len then 2 else 0 := by
  unfold slotCheck
  rw [if_neg (by have := k.isLt; omega), slotNext_fin]

theorem slotCheck_beyond (s : State) {slot : Nat} (h : 10 ≤ slot) (off len : Nat) : s.slotCheck slot off len ≠ 0 := by
  unfold slotCheck
  rw [if_pos h]
  omega

-- ===== flash =====

/-- Erased bytes read 0xFF, the others as before (R53). -/
theorem eraseFlash_get (s : State) (a n b : Nat) :
    (s.eraseFlash a n).nv.flash.get 0xFF b = if a ≤ b ∧ b < a + n then 0xFF else s.nv.flash.get 0xFF b := by
  refine (Store.get_filter s.nv.flash (fun c => !(a ≤ c && c < a + n)) b).trans ?_
  by_cases h : a ≤ b ∧ b < a + n
  · simp [h]
  · rw [if_neg h, if_pos]
    simp only [Bool.not_eq_true', Bool.and_eq_false_iff, decide_eq_false_iff_not]
    omega

theorem eraseFlash_dir {s u : State} {a n : Nat} (h : u.nv = s.nv) : (u.eraseFlash a n).nv.dir = s.nv.dir :=
  Eq.trans (b := u.nv.dir) rfl (by rw [h])
theorem eraseFlash_writing {s u : State} {a n : Nat} (h : u.nv = s.nv) : (u.eraseFlash a n).nv.writing = s.nv.writing :=
  Eq.trans (b := u.nv.writing) rfl (by rw [h])

-- ===== the start of a write =====

/-- A SLOT_WRITE that is turned away completes with the code and makes a record (R534, R548). -/
theorem slotStart_refused {s : State} {w : Work} {bs : List Byte} {code : Nat}
    (hc : s.slotCheck (w.arg % 16) (16 * (w.arg / 16 % 134217728)) bs.length = code) (h : code ≠ 0) :
    s.slotStart w bs = (s.answer w admOK code 0).slotRecord (w.arg % 16) code := by
  unfold slotStart
  dsimp only
  rw [hc, if_pos h]

/-- The first SLOT_WRITE of a slot erases it (R534). -/
theorem slotStart_first {s : State} {w : Work} {bs : List Byte} {k : Fin 10} (hk : w.arg % 16 = k.val)
    (hc : s.slotCheck k (16 * (w.arg / 16 % 134217728)) bs.length = 0) (hn : s.nv.writing.get k = none) :
    s.slotStart w bs =
      ((s.eraseFlash (slotBase k) (slotSize k)).setSlot k none (some (16 * (w.arg / 16 % 134217728)))).modHost
        (fun x => { x with slotJob := some ⟨w, k, 16 * (w.arg / 16 % 134217728), w.arg.testBit 31, bs⟩ }) := by
  unfold slotStart
  dsimp only
  rw [hk, if_neg (by rw [hc]; decide), slotNext_fin, hn]
  rfl

/-- A later SLOT_WRITE of a slot begins at once (R534). -/
theorem slotStart_later {s : State} {w : Work} {bs : List Byte} {k : Fin 10} {o : Nat} (hk : w.arg % 16 = k.val)
    (hc : s.slotCheck k (16 * (w.arg / 16 % 134217728)) bs.length = 0) (hn : s.nv.writing.get k = some o) :
    s.slotStart w bs =
      s.modHost (fun x => { x with slotJob := some ⟨w, k, 16 * (w.arg / 16 % 134217728), w.arg.testBit 31, bs⟩ }) := by
  unfold slotStart
  dsimp only
  rw [hk, if_neg (by rw [hc]; decide), slotNext_fin, hn]
  rfl

/-- What decides whether a slot may be written does not look at the queues. -/
theorem slotCheck_unqueue (s : State) {w : Work} (hw : w.src = 5) (slot off len : Nat) :
    (s.unqueue w).slotCheck slot off len = s.slotCheck slot off len := by
  rw [unqueue_frame s hw]
  rfl

/-- A SLOT_WRITE turned away: its completion carries the code, and no slot changes (R534, R548). -/
theorem slotStart_refused_spec {s : State} {w : Work} {bs : List Byte} {code : Nat} (ho : s.hostOldest w 4) (hn : s.host.slotJob = none)
    (hc : s.slotCheck (w.arg % 16) (16 * (w.arg / 16 % 134217728)) bs.length = code) (h : code ≠ 0) :
    s.answered ((s.unqueue w).slotStart w bs) w admOK code 0 ∧ ((s.unqueue w).slotStart w bs).nv = s.nv ∧
      ((s.unqueue w).slotStart w bs).host.slotJob = none ∧ s.keeps ((s.unqueue w).slotStart w bs) (HQ_CQ_TAIL :: recRegs) := by
  have ⟨_, hw, _⟩ := ho
  have hv := s.served_unqueue hw
  rw [slotStart_refused ((s.slotCheck_unqueue hw _ _ _).trans hc) h]
  refine ⟨answered_slotRecord (hv.answered ho _ _ _) _ _, ?_, ?_, ?_⟩
  · rw [slotRecord_nv, answer_nv, unqueue_frame s hw]
  · rw [slotRecord_host, answer_slotJob, unqueue_host s hw, hn]
  · refine keeps_trans (keeps_of_regs (unqueue_regs s hw) _) (keeps_trans (keeps_mono (answer_keeps (hv.isOpen ho) _ _ _) ?_)
      (keeps_mono (slotRecord_keeps _ _ _) fun _ hx => .tail _ hx))
    exact fun _ hx => List.mem_singleton.mp hx ▸ .head _

-- ===== the end of a write =====

/-- The job of the slot is over. -/
def endJob (s : State) : State := s.modHost (fun x => { x with slotJob := none })

/-- A write's end: the command's completion, and the record (R534, R548). -/
def slotDone (s : State) (w : Work) (slot code value : Nat) : State := (s.answer w admOK code value).slotRecord slot code

theorem slotDone_nv (s : State) (w : Work) (slot code value : Nat) : (s.slotDone w slot code value).nv = s.nv :=
  (slotRecord_nv _ _ _).trans (s.answer_nv w _ _ _)

theorem slotDone_slotJob (s : State) (w : Work) (slot code value : Nat) :
    (s.slotDone w slot code value).host.slotJob = s.host.slotJob := by
  unfold slotDone
  rw [slotRecord_host, answer_slotJob]

/-- The end of an open command's write: entry, vector 0 and the open commands (R531). -/
theorem slotDone_open {s : State} {w : Work} (h : s.isOpen w) (slot code value : Nat) :
    (s.slotDone w slot code value).host.msix.get 0 = s.host.msix.get 0 + 1 ∧
      (s.slotDone w slot code value).host.opened = s.host.opened.filter (fun (x : HostOpen) => x.id != w.id) ∧
      (s.slotDone w slot code value).host.mem.getMany 0 s.cqAddr 6 = natLE 4 w.tag ++ natLE 1 admOK ++ natLE 1 code := by
  obtain ⟨k, hk⟩ := answer_host h admOK code value
  unfold slotDone
  rw [slotRecord_host, hk]
  refine ⟨Bank.get_modify_same _ _ _, rfl, ?_⟩
  have hl : (natLE 4 w.tag ++ natLE 1 admOK ++ natLE 1 code).length = 6 := by simp [natLE_length]
  conv_lhs => rw [← hl]
  simp only [cqEntry, List.append_assoc]
  simp only [← List.append_assoc (natLE 4 w.tag), ← List.append_assoc (natLE 4 w.tag ++ natLE 1 admOK)]
  exact Store.getMany_setMany_prefix _ _ _ _

theorem slotEnd_failed (s : State) (j : SlotJob) :
    s.slotEnd j false = ((s.endJob.setSlot j.slot none none)).slotDone j.w j.slot 2 0 := rfl

theorem slotEnd_more (s : State) (j : SlotJob) (h : j.last = false) : s.slotEnd j true =
    ((s.endJob.progFlash (slotBase j.slot + j.off) j.bytes).setSlot j.slot none (some (j.off + j.bytes.length))).slotDone j.w j.slot 0
      j.bytes.length := by
  simp only [slotEnd, h]
  rfl

/-- The directory entry that the bytes of a slot give (R53). -/
def slotEntry (s : State) (slot : Nat) : DirEntry :=
  { len := s.img slot 8 4, hash := s.nv.flash.getMany 0xFF (slotBase slot + 0x40) 48 }

theorem slotEnd_last {s u : State} {j : SlotJob} (h : j.last = true) (hu : u = s.endJob.progFlash (slotBase j.slot + j.off) j.bytes)
    (hm : u.img j.slot 0 4 = slotMagic j.slot) :
    s.slotEnd j true = (u.setSlot j.slot (some (u.slotEntry j.slot)) none).slotDone j.w j.slot 0 j.bytes.length := by
  subst hu
  simp only [slotEnd, h]
  exact if_pos hm

theorem slotEnd_lastBad {s u : State} {j : SlotJob} (h : j.last = true) (hu : u = s.endJob.progFlash (slotBase j.slot + j.off) j.bytes)
    (hm : u.img j.slot 0 4 ≠ slotMagic j.slot) : s.slotEnd j true = (u.setSlot j.slot none none).slotDone j.w j.slot 2 0 := by
  subst hu
  simp only [slotEnd, h]
  exact if_neg hm

theorem isOpen_setSlot {s : State} {w : Work} {k : Fin 10} (h : s.isOpen w) (a : Nat) (bs : List Byte) (e : Option DirEntry) (o : Option Nat) :
    ((s.endJob.progFlash a bs).setSlot k e o).isOpen w := by
  rw [setSlot_fin]
  exact h

-- ===== the erasing of a slot =====

/-- A slot erased, and its directory entry empty (R534). -/
def wipeSlot (s : State) (k : Nat) : State := (s.eraseFlash (slotBase k) (slotSize k)).setSlot k none none

theorem wipeSlot_flash (s : State) (k : Fin 10) : (s.wipeSlot k).nv.flash = (s.eraseFlash (slotBase k) (slotSize k)).nv.flash := by
  unfold wipeSlot
  rw [setSlot_fin]

theorem wipeSlot_frame (s : State) (k : Fin 10) : s.wipeSlot k = { s with nv := (s.wipeSlot k).nv } := by
  unfold wipeSlot
  rw [setSlot_fin]
  rfl

/-- A slot is erased where it may be written and its writing has not gone past its end (R534). -/
theorem eraseCheck_ok {s : State} {w : Work} {k : Fin 10} (hk : w.arg % 16 = k.val) (hb : s.slotBusy k = false)
    (hle : ∀ o, s.nv.writing.get k = some o → o ≤ slotSize k) : s.slotCheck (w.arg % 16) ((s.slotNext (w.arg % 16)).getD 0) 0 = 0 := by
  rw [hk, slotNext_fin, slotCheck_fin, hb]
  cases hw : s.nv.writing.get k with
  | none => simp
  | some o => simpa using hle o hw

/-- A SLOT_ERASE turned away: its completion carries the code, and nothing else changes (R534). -/
theorem eraseRefused_spec {s : State} {w : Work} {cls : Nat} (ho : s.hostOldest w cls) (code : Nat) :
    s.answered ((s.unqueue w).answer w admOK code 0) w admOK code 0 ∧
      (∀ n, n ≠ 5 → n ≠ 6 → ((s.unqueue w).answer w admOK code 0).queue n = s.queue n) ∧
      s.keeps ((s.unqueue w).answer w admOK code 0) [HQ_CQ_TAIL] ∧
      (s.unqueue w).answer w admOK code 0 =
        { s with hq := ((s.unqueue w).answer w admOK code 0).hq, host := ((s.unqueue w).answer w admOK code 0).host,
                 sched := ((s.unqueue w).answer w admOK code 0).sched, regs := ((s.unqueue w).answer w admOK code 0).regs } := by
  have ⟨_, hw, _⟩ := ho
  have hv := s.served_unqueue hw
  refine ⟨hv.answered ho _ _ _, fun n h5 h6 => ?_, ?_, ?_⟩
  · rw [answer_queue (hv.isOpen ho) _ _ _ h6, unqueue_queue_ne s hw h5]
  · exact keeps_trans (keeps_of_regs (unqueue_regs s hw) _) (answer_keeps (hv.isOpen ho) _ _ _)
  · rw [answer_frame, unqueue_frame s hw]

end State

theorem execSlotWrite_next {s : State} {w : Work} (bs : List Byte) (h : s.hostNext 4 = some w) (hj : s.host.slotJob = none) :
    exec (.slotWrite bs) s = .next ((s.unqueue w).slotStart w bs) := by
  rw [exec, execSlotWrite, h, hj]
  rfl

theorem execSlotWriteDone_next {s : State} {j : SlotJob} (ok : Bool) (h : s.host.slotJob = some j) :
    exec (.slotWriteDone ok) s = .next (s.slotEnd j ok) := by
  rw [exec, execSlotWriteDone, h]

theorem execSlotErase_next {s : State} {w : Work} (h : s.hostNext 5 = some w)
    (hc : s.slotCheck (w.arg % 16) ((s.slotNext (w.arg % 16)).getD 0) 0 = 0) :
    exec .slotErase s = .next (((s.unqueue w).wipeSlot (w.arg % 16)).answer w admOK 0 0) := by
  rw [exec, execSlotErase, h]
  exact congrArg Host.Outcome.next (if_neg (by rw [hc]; decide))

theorem execSlotErase_refused {s : State} {w : Work} {code : Nat} (h : s.hostNext 5 = some w)
    (hc : s.slotCheck (w.arg % 16) ((s.slotNext (w.arg % 16)).getD 0) 0 = code) (h0 : code ≠ 0) :
    exec .slotErase s = .next ((s.unqueue w).answer w admOK code 0) := by
  rw [exec, execSlotErase, h]
  subst hc
  exact congrArg Host.Outcome.next (if_pos h0)

end Machine
end Sys2Proof

/-! SUPPORT. O55: writes to flash in recovery (R89, R529). -/

namespace Sys2Proof.Machine

namespace State

/-- The sectors of 64 KiB that bytes of flash meet (R89). -/
def sectorsOf (off len : Nat) : List Nat := (List.range ((off + len + 65535) / 65536 - off / 65536)).map (fun i => off / 65536 + i)

/-- Those of them that no write has erased yet (R89). -/
def freshSectors (s : State) (off len : Nat) : List Nat := (sectorsOf off len).filter (fun k => !s.nv.erased.contains k)

/-- Sectors erased one after another. -/
def eraseSectors (s : State) (l : List Nat) : State := l.foldl (fun (s : State) k => s.eraseFlash (65536 * k) 65536) s

/-- Sectors noted as erased. -/
def noteErased (s : State) (l : List Nat) : State := { s with nv := { s.nv with erased := s.nv.erased ++ l } }

/-- A write in recovery: the sectors that are new to it are erased, then the bytes are programmed (R89). -/
def recoveryWrite (s : State) (off : Nat) (bs : List Byte) : State :=
  ((s.eraseSectors (s.freshSectors off bs.length)).noteErased (s.freshSectors off bs.length)).progFlash off bs

theorem eraseSectors_frame (s : State) (l : List Nat) : s.eraseSectors l = { s with nv := (s.eraseSectors l).nv } := by
  induction l generalizing s with
  | nil => rfl
  | cons k l ih => exact (ih (s.eraseFlash (65536 * k) 65536)).trans rfl

theorem recoveryWrite_spec (s : State) (off : Nat) (bs : List Byte) :
    (s.recoveryWrite off bs).nv.flash.getMany 0xFF off bs.length = bs ∧
      s.recoveryWrite off bs = { s with nv := (s.recoveryWrite off bs).nv } := by
  refine ⟨Store.getMany_setMany _ _ _, ?_⟩
  unfold recoveryWrite
  rw [eraseSectors_frame]
  rfl

/-- Bytes within one sector meet that sector alone. -/
theorem sectorsOf_one {off len k : Nat} (hk : off / 65536 = k) (hl : off + len ≤ 65536 * (k + 1)) (h0 : 0 < len) :
    sectorsOf off len = [k] := by
  have h1 : (off + len + 65535) / 65536 - off / 65536 = 1 := by omega
  unfold sectorsOf
  rw [h1, hk]
  rfl

theorem recoveryWrite_outside (s : State) {off a : Nat} {bs : List Byte} (h : a < off ∨ off + bs.length ≤ a) :
    (s.recoveryWrite off bs).nv.flash.get 0xFF a = (s.eraseSectors (s.freshSectors off bs.length)).nv.flash.get 0xFF a := by
  rcases h with h | h
  · exact Store.get_setMany_below _ _ h
  · exact Store.get_setMany_above _ _ h

/-- A write within one sector (R89). -/
theorem recoveryWrite_sector {s : State} {off k : Nat} {bs : List Byte} (hk : off / 65536 = k) (hl : off + bs.length ≤ 65536 * (k + 1))
    (h0 : bs ≠ []) :
    (∀ a, a < 65536 * k ∨ 65536 * (k + 1) ≤ a → (s.recoveryWrite off bs).nv.flash.get 0xFF a = s.nv.flash.get 0xFF a) ∧
      (∀ a, 65536 * k ≤ a → a < 65536 * (k + 1) → a < off ∨ off + bs.length ≤ a →
        (s.recoveryWrite off bs).nv.flash.get 0xFF a = if s.nv.erased.contains k then s.nv.flash.get 0xFF a else 0xFF) ∧
      (s.recoveryWrite off bs).nv.erased = (if s.nv.erased.contains k then s.nv.erased else s.nv.erased ++ [k]) := by
  have hs : sectorsOf off bs.length = [k] := sectorsOf_one hk hl (List.length_pos_of_ne_nil h0)
  have hout (a : Nat) (ha : a < 65536 * k ∨ 65536 * (k + 1) ≤ a) : a < off ∨ off + bs.length ≤ a := by omega
  have he : (s.recoveryWrite off bs).nv.erased =
      (s.eraseSectors (s.freshSectors off bs.length)).nv.erased ++ s.freshSectors off bs.length := rfl
  rcases hc : s.nv.erased.contains k with _ | _
  · have hf : s.freshSectors off bs.length = [k] := by
      unfold freshSectors
      rw [hs, List.filter_cons_of_pos (by rw [hc]; rfl), List.filter_nil]
    have hg (a : Nat) (ha : a < off ∨ off + bs.length ≤ a) := (s.recoveryWrite_outside ha).trans
      ((congrArg (fun l => (s.eraseSectors l).nv.flash.get 0xFF a) hf).trans (s.eraseFlash_get (65536 * k) 65536 a))
    refine ⟨fun a ha => (hg a (hout a ha)).trans (if_neg (by omega)), fun a h1 h2 ha => ?_, ?_⟩
    · rw [hg a ha, if_pos ⟨h1, by omega⟩]
      rfl
    · rw [he, hf]
      rfl
  · have hf : s.freshSectors off bs.length = [] := by
      unfold freshSectors
      rw [hs, List.filter_cons_of_neg (by rw [hc]; decide), List.filter_nil]
    have hg (a : Nat) (ha : a < off ∨ off + bs.length ≤ a) := (s.recoveryWrite_outside ha).trans
      (congrArg (fun l => (s.eraseSectors l).nv.flash.get 0xFF a) hf)
    refine ⟨fun a ha => hg a (hout a ha), fun a _ _ ha => hg a ha, ?_⟩
    rw [he, hf]
    exact List.append_nil _

end State

theorem execRecoveryFlashWrite_on {s : State} {off : Nat} {bs : List Byte} (hr : s.sys.recovery = true) (hl : off + bs.length ≤ 0x800000) :
    exec (.recoveryFlashWrite off bs) s = .next (s.recoveryWrite off bs) := by
  rw [exec, execRecoveryFlashWrite]
  exact congrArg Host.Outcome.next (if_pos ⟨hr, hl⟩)

theorem execRecoveryFlashWrite_off {s : State} {off : Nat} {bs : List Byte} (h : s.sys.recovery = false ∨ 0x800000 < off + bs.length) :
    exec (.recoveryFlashWrite off bs) s = .next s := by
  rw [exec, execRecoveryFlashWrite]
  refine congrArg Host.Outcome.next (if_neg ?_)
  rintro ⟨hr, hl⟩
  rcases h with h | h
  · simp [h] at hr
  · omega

end Sys2Proof.Machine

/-! SUPPORT. O55 settled: its clauses, each from the rule of its command. -/

namespace Sys2Proof.Machine

/-- Settles O55: a host's segment, insertion or cancel is served by its own admission and completes (State.Served); a slot's write is
judged by State.slotCheck and ends with its completion and record; a slot is wiped, and recovery writes flash sector by sector. -/
theorem hostDevices : Obligations.HostDevices := by
  unfold Obligations.HostDevices
  refine ⟨?_, ?_, ?_, ?_, ?_, ?_, ?_, ?_, ?_, ?_, ?_, ?_, ?_, ?_, ?_, ?_, ?_, ?_, ?_, ?_, ?_, ?_, ?_, ?_, ?_, ?_, ?_, ?_, ?_, ?_⟩
  case refine_1 => exact fun s w h => execHostSegment_next h
  case refine_2 =>
    intro s w ho
    have ⟨hn, hw, _⟩ := ho
    have hv := s.served_segment hw
    obtain ⟨-, -, hf⟩ := (s.unqueue w).admitSegment_spec (Segment.ofBytes w.payload) 1
    refine ⟨_, _, rfl, execHostSegment_next hn, hv.answered ho _ _ _, State.answer_queue (hv.isOpen ho) _ _ _ (by decide),
      State.answer_keeps (hv.isOpen ho) _ _ _, ?_⟩
    rw [State.answer_frame, hf, State.unqueue_frame s hw]
  case refine_3 =>
    intro s u w a ho ha hc hu
    have ⟨hn, hw, _⟩ := ho
    have hv := s.served_segment hw
    have hm : (s.unqueue w).time.mono = s.time.mono := by rw [State.unqueue_frame s hw]
    have hp := State.admitSegment_ok (s := s.unqueue w) (u := u) 1 ha hc (by rw [hm]; exact hu)
    obtain ⟨hi, -, -, -, hf⟩ := State.offer_some hu
    have hopen := hv.isOpen ho
    have hans := hv.answered ho admOK 0 0
    rw [hp] at hopen hans
    refine ⟨_, by rw [execHostSegment_next hn, hp], hans, ?_, ?_, ?_⟩
    · rw [State.answer_queue hopen _ _ _ (by decide)]
      exact hi.trans (by rw [State.unqueue_queue_ne s hw (by decide)])
    · rw [State.answer_frame, hf, State.unqueue_frame s hw]
      simp [State.modTile]
    · intro b hb
      rw [State.answer_frame, hf, State.unqueue_frame s hw]
      simp [State.modTile, Bank.get_modify_ne _ _ hb]
  case refine_4 => exact fun s w h => execHostWheelIns_next h
  case refine_5 =>
    intro s w ho
    have ⟨hn, hw, _⟩ := ho
    obtain ⟨hk, hf⟩ := (s.unqueue w).insert_spec false (Descriptor.ofBytes w.payload)
    have hv := State.Served.wheel hw hk hf (by decide)
    refine ⟨_, _, rfl, execHostWheelIns_next hn, hv.answered ho _ _ _,
      ⟨fun n _ h6 => State.answer_queue (hv.isOpen ho) _ _ _ h6, State.answer_keeps (hv.isOpen ho) _ _ _⟩, ?_⟩
    rw [State.answer_frame, hf, State.unqueue_frame s hw]
  case refine_6 =>
    intro s w ho hc
    have ⟨hn, hw, _⟩ := ho
    have hi := State.insert_refused (s := s.unqueue w) false (d := Descriptor.ofBytes w.payload) (by rw [hc]; decide)
    have hv := State.Served.wheel (u := (s.unqueue w).bump WHEEL_CNT_REF) (l := [WHEEL_CNT_REF]) hw
      (State.keeps_bump (State.keeps_refl _ _) (.head _)) rfl (by decide)
    refine ⟨_, by rw [execHostWheelIns_next hn, hi, hc], hv.answered ho _ _ _, ?_, ?_⟩
    · rw [State.rdN_keeps (State.answer_keeps (hv.isOpen ho) _ _ _) (by decide), State.rdN_bump_same, State.unqueue_frame s hw]
      rfl
    · rw [State.answer_frame, State.unqueue_frame s hw]
      rfl
  case refine_7 => exact fun s w h => execHostWheelCancel_next h
  case refine_8 =>
    intro s u w x ho hu hx hd
    have ⟨hn, hw, _⟩ := ho
    subst hu
    have hc := State.cancel_standing hx hd
    have hv := State.Served.wheel hw (State.keeps_trans (State.keeps_mono (State.syncW_keeps (s.unqueue w)) (by decide))
      (State.keeps_mono (State.setDescs_keeps _ _) (k := [WHEEL_STAT, WHEEL_OCC]) (by decide)))
      (State.wheelFrame_trans (State.syncW_wheelFrame _) (State.setDescs_wheelFrame _
        ((s.unqueue w).syncW.wheel.descs.filter (fun y => y.handle != w.arg)))) (by decide)
    refine ⟨_, by rw [execHostWheelCancel_next hn, hc], hv.answered ho _ _ _, ?_, ?_⟩
    · rw [State.answer_frame]
      rfl
    · rw [State.answer_frame]
      refine (State.syncW_filter_map (s.unqueue w) w.arg).trans ?_
      rw [State.unqueue_frame s hw]
  case refine_9 =>
    intro s w ho hx
    have ⟨hn, hw, _⟩ := ho
    have hx' : (s.unqueue w).descOf w.arg = none := by rw [State.unqueue_frame s hw]; exact hx
    have hc := State.cancel_absent (State.syncW_descOf_none hx')
    have hk := State.syncW_keeps (s.unqueue w)
    have hf := State.syncW_wheelFrame (s.unqueue w)
    have hv := State.Served.wheel hw hk hf (by decide)
    refine ⟨_, by rw [execHostWheelCancel_next hn, hc], hv.answered ho _ _ _, fun n h5 h6 => ?_, ?_, ?_⟩
    · rw [State.answer_queue (hv.isOpen ho) _ _ _ h6]
      unfold State.queue
      rw [State.wheelFrame_hq hf]
      exact State.unqueue_queue_ne s hw h5
    · refine State.keeps_trans (State.keeps_of_regs (State.unqueue_regs s hw) _) (State.keeps_trans (State.keeps_mono hk (by decide)) ?_)
      exact State.keeps_mono (State.answer_keeps (hv.isOpen ho) _ _ _) (by decide)
    · rw [State.answer_frame, hf, State.unqueue_frame s hw]
  case refine_10 =>
    intro s
    refine ⟨execHostSegment_none, execHostWheelIns_none, execHostWheelCancel_none, fun b h => ?_, fun h => ?_, fun h ok => ?_⟩
    · rw [exec, execSlotWrite]
      rcases h with h | h
      · rw [h]
      · cases hn : s.hostNext 4 with
        | none => rfl
        | some w => exact congrArg Host.Outcome.next (if_pos h)
    · rw [exec, execSlotErase, h]
    · rw [exec, execSlotWriteDone, h]
  case refine_11 => exact fun s w bs h hj => execSlotWrite_next bs h hj
  case refine_12 =>
    intro s w k bs off hn hw hj hk hoff hb hnone hlen
    subst hoff
    have hc : (s.unqueue w).slotCheck k (16 * (w.arg / 16 % 134217728)) bs.length = 0 := by
      rw [State.slotCheck_unqueue s hw, State.slotCheck_fin, hb, hnone]
      simpa using hlen
    have hnone' : (s.unqueue w).nv.writing.get k = none := by rw [State.unqueue_frame s hw]; exact hnone
    have hnv : (s.unqueue w).nv = s.nv := by rw [State.unqueue_frame s hw]
    have hst := State.slotStart_first (bs := bs) hk hc hnone'
    have hfl (a : Nat) := State.eraseFlash_get (s.unqueue w) (slotBase k) (slotSize k) a
    refine ⟨_, (execSlotWrite_next bs hn hj).trans (congrArg _ hst), State.slotIs_setSlot k _ _ (State.eraseFlash_dir hnv)
      (State.eraseFlash_writing hnv) rfl, fun a h1 h2 => ?_, fun a h => ?_, ?_, ?_, ?_⟩
    · rw [State.setSlot_fin]
      exact (hfl a).trans (if_pos ⟨h1, h2⟩)
    · rw [State.setSlot_fin]
      exact (hfl a).trans ((if_neg (by omega)).trans (by rw [hnv]))
    · rw [State.setSlot_fin, State.unqueue_frame s hw]
      rfl
    · rw [State.setSlot_fin]
      exact State.keeps_of_regs (State.unqueue_regs s hw) _
    · rw [State.setSlot_fin, State.unqueue_frame s hw]
      rfl
  case refine_13 =>
    intro s w k bs hn hw hj hk hb hsome hlen
    have hc : (s.unqueue w).slotCheck k (16 * (w.arg / 16 % 134217728)) bs.length = 0 := by
      rw [State.slotCheck_unqueue s hw, State.slotCheck_fin, hb, hsome]
      simpa using hlen
    have hsome' : (s.unqueue w).nv.writing.get k = some (16 * (w.arg / 16 % 134217728)) := by rw [State.unqueue_frame s hw]; exact hsome
    refine ⟨_, by rw [execSlotWrite_next bs hn hj, State.slotStart_later (bs := bs) hk hc hsome'], ?_, ?_, ?_, ?_⟩
    · rw [State.unqueue_frame s hw]
      rfl
    · rw [State.unqueue_frame s hw]
      rfl
    · exact State.keeps_of_regs (State.unqueue_regs s hw) _
    · rw [State.unqueue_frame s hw]
      rfl
  case refine_14 =>
    intro s w k bs ho hj hk hb
    have ⟨hn, _⟩ := ho
    obtain ⟨ha, hnv, hjob, hkp⟩ := State.slotStart_refused_spec (bs := bs) ho hj (code := rSLOT_IN_USE)
      (by rw [hk, State.slotCheck_fin, hb]; rfl) (by decide)
    exact ⟨_, execSlotWrite_next bs hn hj, ha, hnv, hjob, hkp⟩
  case refine_15 =>
    intro s w k bs ho hj hk hb hbad
    have ⟨hn, _⟩ := ho
    have hc : s.slotCheck (w.arg % 16) (16 * (w.arg / 16 % 134217728)) bs.length = 2 := by
      rw [hk, State.slotCheck_fin, hb, if_neg (by decide)]
      refine if_pos (hbad.imp_left ?_)
      rintro ⟨o, h, hne⟩
      rw [h]
      simpa using hne
    obtain ⟨ha, hnv, -, hkp⟩ := State.slotStart_refused_spec (bs := bs) ho hj hc (by decide)
    exact ⟨_, execSlotWrite_next bs hn hj, ha, hnv, hkp⟩
  case refine_16 =>
    intro s w bs ho hj h10
    have ⟨hn, _⟩ := ho
    have h0 := s.slotCheck_beyond h10 (16 * (w.arg / 16 % 134217728)) bs.length
    obtain ⟨ha, hnv, -, hkp⟩ := State.slotStart_refused_spec (bs := bs) ho hj rfl h0
    exact ⟨_, _, execSlotWrite_next bs hn hj, h0, ha, hnv, hkp⟩
  case refine_17 => exact fun s j ok h => execSlotWriteDone_next ok h
  case refine_18 =>
    intro s w k off bs hj ho
    obtain ⟨hm, hop, -⟩ := State.slotDone_open (State.isOpen_setSlot ho (slotBase k + off) bs none (some (off + bs.length)) (k := k)) k 0 bs.length
    refine ⟨_, by rw [execSlotWriteDone_next true hj, State.slotEnd_more s _ rfl], ?_,
      State.slotIs_setSlot (u := s.endJob.progFlash (slotBase k + off) bs) k _ _ rfl rfl (State.slotDone_nv _ _ _ _ _), ?_, ?_, ?_⟩
    · rw [State.slotDone_slotJob, State.setSlot_fin]
      rfl
    · rw [State.slotDone_nv, State.setSlot_fin]
      rfl
    · refine hm.trans ?_
      rw [State.setSlot_fin]
      rfl
    · refine hop.trans ?_
      rw [State.setSlot_fin]
      rfl
  case refine_19 =>
    intro s u w k off bs hj ho hu hmag
    obtain ⟨-, -, hmem⟩ := State.slotDone_open (State.isOpen_setSlot ho (slotBase k + off) bs none none (k := k)) k 2 0
    have he := State.slotEnd_lastBad (s := s) (j := ⟨w, k, off, true, bs⟩) rfl rfl (by subst hu; exact hmag)
    refine ⟨_, by rw [execSlotWriteDone_next true hj, he], ?_,
      State.slotIs_setSlot (u := s.endJob.progFlash (slotBase k + off) bs) k _ _ rfl rfl (State.slotDone_nv _ _ _ _ _), ?_⟩
    · rw [State.slotDone_slotJob, State.setSlot_fin]
      rfl
    · refine Eq.trans ?_ hmem
      rw [State.setSlot_fin]
      rfl
  case refine_20 =>
    intro s u w k off bs hj hu hmag
    subst hu
    have he := State.slotEnd_last (s := s) (j := ⟨w, k, off, true, bs⟩) rfl rfl hmag
    refine ⟨_, (execSlotWriteDone_next true hj).trans (congrArg _ he), ?_,
      State.slotIs_setSlot (u := s.endJob.progFlash (slotBase k + off) bs) k _ _ rfl rfl (State.slotDone_nv _ _ _ _ _), ?_⟩
    · rw [State.slotDone_slotJob, State.setSlot_fin]
      rfl
    · rw [State.slotDone_nv, State.setSlot_fin]
      rfl
  case refine_21 =>
    intro s w k off bs l hj
    refine ⟨_, by rw [execSlotWriteDone_next false hj, State.slotEnd_failed], ?_,
      State.slotIs_setSlot (u := s.endJob) k _ _ rfl rfl (State.slotDone_nv _ _ _ _ _), ?_⟩
    · rw [State.slotDone_slotJob, State.setSlot_fin]
      rfl
    · rw [State.slotDone_nv, State.setSlot_fin]
      rfl
  case refine_22 =>
    intro s w k hn hk hb hle
    rw [← hk]
    exact execSlotErase_next hn (State.eraseCheck_ok hk hb hle)
  case refine_23 =>
    intro s w k hn hk hb
    exact execSlotErase_refused hn (by rw [hk, State.slotCheck_fin, hb]; rfl) (by decide)
  case refine_24 =>
    intro s w k ho hk hb hle
    have ⟨hn, hw, _⟩ := ho
    have hwf := (s.unqueue w).wipeSlot_frame k
    have hv : State.Served s ((s.unqueue w).wipeSlot k) w :=
      (s.served_unqueue hw).step (l := []) (by rw [hwf]; rfl) (by rw [hwf]) (State.keeps_of_regs (by rw [hwf]) _) (by simp)
    have hnv : (s.unqueue w).nv = s.nv := by rw [State.unqueue_frame s hw]
    have hfl (a : Nat) : (((s.unqueue w).wipeSlot k).answer w admOK 0 0).nv.flash.get 0xFF a =
        if slotBase k ≤ a ∧ a < slotBase k + slotSize k then 0xFF else s.nv.flash.get 0xFF a := by
      rw [State.answer_nv, State.wipeSlot_flash, State.eraseFlash_get, hnv]
    refine ⟨_, execSlotErase_next hn (State.eraseCheck_ok hk hb hle), ?_⟩
    rw [hk]
    refine ⟨hv.answered ho _ _ _, State.slotIs_setSlot k _ _ (State.eraseFlash_dir hnv) (State.eraseFlash_writing hnv)
      (State.answer_nv _ _ _ _ _), fun a h1 h2 => ?_, fun a h => ?_,
      ⟨fun n h5 h6 => ?_, ?_⟩, ?_⟩
    · rw [hfl, if_pos ⟨h1, h2⟩]
    · rw [hfl, if_neg (by omega)]
    · rw [State.answer_queue (hv.isOpen ho) _ _ _ h6, hwf]
      exact State.unqueue_queue_ne s hw h5
    · refine State.keeps_trans (State.keeps_of_regs ?_ _) (State.answer_keeps (hv.isOpen ho) _ _ _)
      rw [hwf]
      exact State.unqueue_regs s hw
    · rw [State.answer_frame, hwf, State.unqueue_frame s hw]
  case refine_25 =>
    intro s w k ho hk hb
    have ⟨hn, hw, _⟩ := ho
    obtain ⟨ha, hq, hkp, hf⟩ := State.eraseRefused_spec ho rSLOT_IN_USE
    exact ⟨_, execSlotErase_refused hn (by rw [hk, State.slotCheck_fin, hb]; rfl) (by decide), ha, ⟨hq, hkp⟩, hf⟩
  case refine_26 =>
    intro s w k o ho hk hb hw hlt
    have ⟨hn, _⟩ := ho
    obtain ⟨ha, hq, hkp, hf⟩ := State.eraseRefused_spec ho 2
    refine ⟨_, execSlotErase_refused hn ?_ (by decide), ha, ⟨hq, hkp⟩, by rw [hf]⟩
    rw [hk, State.slotNext_fin, State.slotCheck_fin, hb, hw]
    exact (if_neg (by decide)).trans (if_pos (.inr (by simpa using hlt)))
  case refine_27 =>
    intro s w ho h10
    have ⟨hn, _⟩ := ho
    obtain ⟨ha, hq, hkp, hf⟩ := State.eraseRefused_spec ho (s.slotCheck (w.arg % 16) ((s.slotNext (w.arg % 16)).getD 0) 0)
    exact ⟨_, _, execSlotErase_refused hn rfl (s.slotCheck_beyond h10 _ _), s.slotCheck_beyond h10 _ _, ha, ⟨hq, hkp⟩, by rw [hf]⟩
  case refine_28 => exact fun s off bs h => execRecoveryFlashWrite_off h
  case refine_29 =>
    intro s off bs hr hl
    obtain ⟨hg, hf⟩ := s.recoveryWrite_spec off bs
    exact ⟨_, execRecoveryFlashWrite_on hr hl, hg, hf⟩
  case refine_30 =>
    intro s k off bs hr hk hl h0 hk128
    obtain ⟨hg, hf⟩ := s.recoveryWrite_spec off bs
    obtain ⟨hout, hin, he⟩ := State.recoveryWrite_sector (s := s) hk hl h0
    exact ⟨_, execRecoveryFlashWrite_on hr (by omega), hg, hout, hin, he, hf⟩

end Sys2Proof.Machine

/-! SUPPORT. O43, O44: what leaves the configuration, the start and MRAM as they are, and writes registers of given words only: the
firing of descriptors, jumps of W, the groups, and a change of mode (R57, R64, R74, R117, R126, R333). -/

namespace Sys2Proof.Machine

namespace State

/-- The words that a mode change, a start of the wheel or a swap writes in, but for the mode's own: none of them is a word of SYS below
0x30, of the rings, of the pair, of a cluster's first word, or CFG_STAT or CFG_ERR. -/
abbrev blockWord (a : Nat) : Prop :=
  (0x30 ≤ a ∧ a < 0x90000) ∨ (0xB0000 ≤ a ∧ a < 0xE0000) ∨ (0xF0000 ≤ a ∧ a < 0x100000) ∨
    (0x100000 ≤ a ∧ a % 0x10000 ≠ 0 ∧ a % 0x10000 ≠ 0xC) ∨ (0x1C0000 ≤ a ∧ a < 0x300000)

/-- With the words of the rings and of the pair. -/
abbrev linkWord (a : Nat) : Prop := blockWord a ∨ (0x90000 ≤ a ∧ a < 0x100000)

/-- With the mode's word. -/
abbrev modeWord (a : Nat) : Prop := blockWord a ∨ a = SYS_MODE

/-- From s to t the configuration, the start and MRAM are as they were, and so is every register outside the words of P. -/
structure calm (s t : State) (P : Nat → Prop) : Prop where
  cfg : t.cfg = s.cfg
  sys : t.sys = s.sys
  nv : t.nv = s.nv
  words : ∀ r, ¬ P r → t.rd r = s.rd r

variable {P Q : Nat → Prop}

theorem calm_refl (s : State) : s.calm s P := ⟨rfl, rfl, rfl, fun _ _ => rfl⟩

theorem calm_trans {s t u : State} (h : s.calm t P) (h' : t.calm u P) : s.calm u P :=
  ⟨h'.cfg.trans h.cfg, h'.sys.trans h.sys, h'.nv.trans h.nv, fun r hr => (h'.words r hr).trans (h.words r hr)⟩

theorem calm.after {s t u : State} (h' : t.calm u P) (h : s.calm t P) : s.calm u P := calm_trans h h'

theorem calm.mono {s t : State} (h : s.calm t P) (hpq : ∀ r, P r → Q r) : s.calm t Q :=
  ⟨h.cfg, h.sys, h.nv, fun r hr => h.words r (fun hp => hr (hpq r hp))⟩

theorem calm.link {s t : State} (h : s.calm t blockWord) : s.calm t linkWord := h.mono fun _ => Or.inl
theorem calm.all {s t : State} (h : s.calm t P) : s.calm t (fun _ => True) := h.mono fun _ _ => trivial

theorem calm_of_eq {s t : State} (hc : t.cfg = s.cfg) (hs : t.sys = s.sys) (hn : t.nv = s.nv) (hr : t.regs = s.regs) : s.calm t P :=
  ⟨hc, hs, hn, fun r _ => by unfold rd; rw [hr]⟩

theorem calm_of_keeps {s t : State} {l : List Nat} (hc : t.cfg = s.cfg) (hs : t.sys = s.sys) (hn : t.nv = s.nv) (hk : s.keeps t l)
    (hl : ∀ r ∈ l, P r) : s.calm t P :=
  ⟨hc, hs, hn, fun r hr => hk r (fun hm => hr (hl r hm))⟩

theorem calm_ite {s x y : State} {c : Prop} [Decidable c] (hx : s.calm x P) (hy : s.calm y P) : s.calm (if c then x else y) P := by
  split
  · exact hx
  · exact hy

theorem calm_wr {s t : State} {a : Nat} (v : Word) (h : s.calm t P) (ha : P a) : s.calm (t.wr a v) P :=
  ⟨h.cfg, h.sys, h.nv, fun r hr => (rd_wr_ne t v (by rintro rfl; exact hr ha)).trans (h.words r hr)⟩

theorem calm_wrN {s t : State} {a : Nat} (v : Nat) (h : s.calm t P) (ha : P a) : s.calm (t.wrN a v) P := calm_wr _ h ha

theorem calm_setF {s t : State} {x : Fld} (v : Nat) (h : s.calm t P) (ha : P x.reg) : s.calm (t.setF x v) P := calm_wr _ h ha

theorem calm_setB {s t : State} {x : Fld} (v : Bool) (h : s.calm t P) (ha : P x.reg) : s.calm (t.setB x v) P := calm_wr _ h ha

theorem calm_hit {s t : State} {x : Fld} (h : s.calm t P) (ha : P x.reg) : s.calm (t.hit x) P :=
  have hc := calm_setF 1 h ha
  ⟨hc.cfg, hc.sys, hc.nv, hc.words⟩

theorem calm_bump {s t : State} {a : Nat} (n : Nat) (h : s.calm t P) (ha : P a) : s.calm (t.bumpBy a n) P := calm_wr _ h ha

theorem calm_raise {s t : State} (m : FaultMsg) (h : s.calm t P) : s.calm (t.raise m) P := ⟨h.cfg, h.sys, h.nv, h.words⟩

theorem calm_foldl {α : Type} {g : State → α → State} (l : List α) (s : State) (h : ∀ a ∈ l, ∀ s, calm s (g s a) P) :
    s.calm (l.foldl g s) P := foldl_rel (R := fun s t => calm s t P) calm_refl calm_trans l s h

theorem calm.rd {s t : State} (h : s.calm t P) {r : Nat} (hr : ¬ P r) : t.rd r = s.rd r := h.words r hr

theorem calm.f {s t : State} (h : s.calm t P) {x : Fld} (hx : ¬ P x.reg) : t.f x = s.f x := f_of_rd (h.words _ hx)

theorem calm.st {s t : State} (h : s.calm t P) : t.st = s.st := by
  unfold State.st
  rw [h.cfg]

-- ===== queues and the recorder =====

theorem offerOr_calm (s : State) (n : Fin 16) (i : QItem) (ht : P (HQ_HWM n)) (hr : P (HQ_CNT_REF n)) : s.calm (s.offerOr n i).1 P := by
  unfold offerOr
  split
  · next u hu =>
    obtain ⟨-, -, -, hk, hf⟩ := offer_some hu
    exact calm_of_keeps (by rw [hf]) (by rw [hf]) (by rw [hf]) hk fun r hm => List.mem_singleton.mp hm ▸ ht
  · exact calm_bump 1 (calm_refl s) hr

theorem join_calm (s : State) (w : Work) : s.calm (s.join w) P := by
  unfold join placeWork leaveGroup
  dsimp only
  split <;> exact calm_of_eq rfl rfl rfl rfl

theorem putWork_calm (s : State) (w : Work) : s.calm (s.putWork 4 w).1 blockWord := by
  have ho := fun i => offerOr_calm (P := blockWord) s 4 i (by decide) (by decide)
  unfold putWork
  split
  · exact calm_refl s
  · dsimp only
    split
    · exact calm_trans (ho _) (join_calm _ _)
    · exact ho _

theorem blockWord_recRegs : ∀ r ∈ recRegs, blockWord r := by decide

theorem recFrame_calm {s t : State} (hf : s.recFrame t) (hk : s.keeps t recRegs) : s.calm t blockWord :=
  calm_of_keeps (by rw [hf]) (by rw [hf]) (by rw [hf]) hk blockWord_recRegs

theorem offerRec_calm (s : State) (c p : Nat) (b : List Byte) : s.calm (s.offerRec c p b) blockWord :=
  recFrame_calm (s.offerRec_frame c p b) (s.offerRec_keeps c p b)

-- ===== a firing of the wheel (R117 to R132) =====

theorem release_calm (s : State) (x : WDesc) (late : Bool) : s.calm (s.release x late) blockWord := by
  have hw : ∀ (u : State) (g : Queue → Queue), u.calm (u.modQueue 4 g) blockWord := fun _ _ => calm_of_eq rfl rfl rfl rfl
  unfold release
  refine calm_ite (calm_refl s) (calm_ite (putWork_calm s _) (calm_ite ?_ ?_))
  · exact calm_trans (putWork_calm s _) (hw _ _)
  · exact calm_bump 1 (calm_trans (putWork_calm s _) (hw _ _)) (by decide)

theorem foutAct_calm (s : State) (o : Nat) (on : Bool) : s.calm (s.foutAct o on) blockWord :=
  calm_ite (calm_refl s) (calm_setB (x := ⟨FIO_OUT, o, 1⟩) on (calm_refl s) (show blockWord FIO_OUT by decide))

theorem setPin_calm (s : State) (n : Nat) (on : Bool) : s.calm (s.setPin n on) blockWord :=
  calm_setB (x := ⟨WHEEL_EV_LVL, n, 1⟩) on (calm_refl s) (show blockWord WHEEL_EV_LVL by decide)

/-- A register of a tile lies beyond the first words of its cluster. -/
theorem blockWord_tile (a k : Nat) (hk : k < 0x1000) : blockWord (tileBase a + k) := by
  unfold tileBase
  refine .inr (.inr (.inr (.inl ?_)))
  omega

theorem segmentGo_calm (s : State) (a : Fin 96) : s.calm (s.segmentGo a) blockWord :=
  calm_ite (calm_of_eq rfl rfl rfl rfl) (calm_raise _ (calm_hit (x := TILE_PLN_STAT_GO_EMPTY a) (calm_refl s) (blockWord_tile a 4 (by decide))))

theorem act_calm (s : State) (x : WDesc) (late : Bool) : s.calm (s.act x late) blockWord := by
  unfold act
  refine calm_ite (setPin_calm _ _ _) (calm_ite (setPin_calm _ _ _) (calm_ite ?_ (calm_ite (foutAct_calm _ _ _)
    (calm_ite (foutAct_calm _ _ _) (calm_ite ?_ (calm_ite (release_calm _ _ _) (calm_ite ?_
      (calm_ite (calm_of_eq rfl rfl rfl rfl) (calm_ite ?_ (calm_refl s))))))))))
  · exact (setPin_calm _ _ _).after (calm_of_eq rfl rfl rfl rfl)
  · exact (foutAct_calm _ _ _).after (calm_of_eq rfl rfl rfl rfl)
  · split
    · exact segmentGo_calm _ _
    · exact calm_refl s
  · split
    · next h =>
      refine calm_setF (x := WHEEL_LT_STAT_ARMED x.d.target) 1 (calm_of_eq rfl rfl rfl rfl) ?_
      show blockWord (WHEEL_LT_STAT x.d.target)
      unfold WHEEL_LT_STAT
      omega
    · exact calm_refl s

theorem setDescs_calm (s : State) (l : List WDesc) : s.calm (s.setDescs l) blockWord :=
  calm_setF (x := WHEEL_OCC_COUNT) _ (calm_of_eq rfl rfl rfl rfl) (by decide)

theorem fireDesc_calm (s : State) (x : WDesc) (late : Bool) : s.calm (s.fireDesc x late) blockWord := by
  unfold fireDesc
  refine calm_ite (calm_refl s) (calm_ite (setDescs_calm s _) ?_)
  have hl : s.calm (if late then s.bump WHEEL_CNT_LATE else s) blockWord :=
    calm_ite (calm_bump 1 (calm_refl s) (by decide)) (calm_refl s)
  have hr : ∀ u : State, u.calm (u.recRelease x late) blockWord := fun u => calm_ite (offerRec_calm u _ _ _) (calm_refl u)
  exact calm_trans (calm_trans (calm_trans hl (act_calm _ x late)) (hr _)) (setDescs_calm _ _)

theorem fireAll_calm (s : State) (late : Bool) (l : List WDesc) : s.calm (s.fireAll late l) blockWord := by
  induction l generalizing s with
  | nil => exact calm_refl s
  | cons x l ih => exact calm_trans (fireDesc_calm s x late) (ih _)

theorem stage_calm (s : State) : s.calm s.stage P := calm_of_eq rfl rfl rfl rfl

/-- A jump of W (R126). -/
theorem jumpFrom_calm (s : State) (w0 m : Nat) : s.calm (s.jumpFrom w0 m) blockWord := by
  have hs : s.calm (s.placeW m) blockWord := calm_of_eq rfl rfl rfl rfl
  have ha : s.calm (s.skipPassed w0 m) blockWord := calm_trans hs (calm_foldl _ _ fun _ _ s => setDescs_calm s _)
  unfold jumpFrom
  refine calm_ite (calm_trans hs (fireAll_calm _ _ _)) (calm_ite (calm_trans ha (stage_calm _)) ?_)
  exact calm_raise _ (calm_trans (calm_hit (x := WHEEL_STAT_SKIP) (calm_bump _ ha (by decide)) (by decide)) (stage_calm _))

-- ===== groups, halts and the mode (R74, R333, R543) =====

theorem blockWord_offRegs (s : State) : ∀ r ∈ s.offRegs, blockWord r := by
  intro r hr
  rw [offRegs_eq] at hr
  rcases List.mem_append.mp hr with hr | hr
  · exact (by decide : ∀ r ∈ [SAFE_STO_STAT 0, SAFE_STO_STAT 1, SAFE_STO_STAT 2, SAFE_STO_STAT 3], blockWord r) r hr
  · rcases mem_sweepRegs.mp hr with rfl | ⟨p, -, hp⟩
    · decide
    · rcases hp with rfl | rfl | rfl | rfl
      · show blockWord (ppBase p + 0x28)
        unfold ppBase
        omega
      all_goals exact blockWord_tile _ _ (by decide)

theorem offStep.calm {s t : State} (h : s.offStep t) : s.calm t blockWord :=
  calm_of_keeps (by rw [h.frame]) (by rw [h.frame]) (by rw [h.frame]) h.keeps s.blockWord_offRegs

theorem offGroups_calm (s : State) (m : GroupMask) (cause : Nat) : s.calm (s.offGroups m cause) blockWord := (offGroups_offStep s m cause).calm

theorem resumeCluster_calm (s : State) (c : Fin 12) : s.calm (s.resumeCluster c) blockWord :=
  calm_ite (calm_setF (x := ⟨DBG_STAT, 16 + c, 1⟩) 0 (calm_of_eq rfl rfl rfl rfl) (show blockWord DBG_STAT by decide)) (calm_refl s)

theorem resumeWheel_calm (s : State) : s.calm s.resumeWheel blockWord :=
  calm_ite (calm_trans (calm_setF (x := DBG_STAT_WHEEL) 0 (calm_refl s) (by decide)) (jumpFrom_calm _ _ _)) (calm_refl s)

/-- Every halted target resumes. -/
def resumeTargets (s : State) : State := ((List.finRange 12).foldl (fun (s : State) c => s.resumeCluster c) s).resumeWheel

theorem releaseHalts_eq (s : State) : s.releaseHalts = if s.haltAllowed then s else s.resumeTargets.showHalt := rfl

theorem resumeTargets_calm (s : State) : s.calm s.resumeTargets blockWord :=
  calm_trans (calm_foldl _ s fun c _ s => resumeCluster_calm s c) (resumeWheel_calm _)

theorem releaseHalts_calm (s : State) : s.calm s.releaseHalts modeWord := by
  rw [releaseHalts_eq]
  exact calm_ite (calm_refl s) (calm_setB (x := SYS_MODE_HALT) _ (s.resumeTargets_calm.mono fun _ => Or.inl) (.inr rfl))

/-- The end of halts leaves the mode and the mode before it. -/
theorem releaseHalts_mode (s : State) :
    s.releaseHalts.f SYS_MODE_MODE = s.f SYS_MODE_MODE ∧ s.releaseHalts.f SYS_MODE_PREV = s.f SYS_MODE_PREV := by
  rw [releaseHalts_eq]
  split
  · exact ⟨rfl, rfl⟩
  · have hc := s.resumeTargets_calm
    unfold showHalt
    exact ⟨(f_setB_disj _ _ (by rfl) (by decide)).trans (hc.f (by decide)), (f_setB_disj _ _ (by rfl) (by decide)).trans (hc.f (by decide))⟩

theorem monitorFrom_calm (s : State) (ran : Bool) : s.calm (s.monitorFrom ran) blockWord :=
  calm_ite (calm_refl s) (calm_ite (calm_setF (x := SAFE_SSM_STAT_RUN) 0 (calm_refl s) (by decide)) (calm_of_eq rfl rfl rfl rfl))

theorem setMode_calm (s : State) (m cause entry : Nat) : s.calm (s.setMode m cause entry) modeWord :=
  calm_of_keeps (s.setMode_cfg m cause entry) (s.setMode_sys m cause entry) (s.setMode_nv m cause entry) (s.setMode_keeps m cause entry) (by decide)

/-- The groups after a change of mode: in OFF outside the modes of R333. -/
def modeGroups (s : State) (m : Nat) : State := if torqueModes.contains m then s else s.offGroups 15 7

theorem modeGroups_calm (s : State) (m : Nat) : s.calm (s.modeGroups m) blockWord := calm_ite (calm_refl s) (offGroups_calm s 15 7)

theorem enterMode_eq (s : State) (m cause entry : Nat) :
    s.enterMode m cause entry = (((s.setMode m cause entry).modeGroups m).releaseHalts).monitorFrom s.ssmRuns := rfl

theorem enterMode_calm (s : State) (m cause entry : Nat) : s.calm (s.enterMode m cause entry) modeWord := by
  rw [enterMode_eq]
  exact calm_trans (calm_trans (calm_trans (setMode_calm s m cause entry) ((modeGroups_calm _ m).mono fun _ => Or.inl)) (releaseHalts_calm _))
    ((monitorFrom_calm _ _).mono fun _ => Or.inl)

/-- After a change of mode MODE is the new one and PREV the old one (R74). -/
theorem enterMode_mode (s : State) {m : Nat} (cause entry : Nat) (hm : m < 16) :
    (s.enterMode m cause entry).mode = m ∧ (s.enterMode m cause entry).f SYS_MODE_PREV = s.mode := by
  have hk (x : Fld) (hx : x.reg = SYS_MODE) (u : State) : ((u.modeGroups m).f x = u.f x) := (modeGroups_calm u m).f (hx ▸ by decide)
  have hr := releaseHalts_mode ((s.setMode m cause entry).modeGroups m)
  have hl : s.mode < 16 := s.f_lt SYS_MODE_MODE
  rw [enterMode_eq]
  unfold mode
  rw [(monitorFrom_calm _ _).f (by decide), (monitorFrom_calm _ _).f (by decide), hr.1, hr.2, hk _ rfl, hk _ rfl, setMode_mode _ _ _ _ hm, setMode_prev,
    Nat.mod_eq_of_lt hl]
  exact ⟨rfl, rfl⟩

end State

end Sys2Proof.Machine

/-! SUPPORT. O43, O44: what the blocks take from an image, at a start and at a swap, leaves the configuration and MRAM as they are
(R56, R65, R92). -/

namespace Sys2Proof.Machine

namespace State

variable {P : Nat → Prop}

-- ===== the wheel and the doors (R107, R359, R587) =====

theorem firstRef_calm (s : State) (p : Nat) : s.calm (s.firstRef p) blockWord :=
  calm_ite (calm_setF (x := WHEEL_STAT_MST_STATE) _ (calm_of_eq rfl rfl rfl rfl) (by decide)) (calm_refl s)

theorem startMaster_calm (s : State) (st : Structure) : s.calm (s.startMaster st) blockWord := by
  have h : ∀ w : WheelState, s.calm (((({ s with wheel := w }).setF WHEEL_STAT_MST_STATE msHOLD).setF WHEEL_STAT_DIR 0).setF
      WHEEL_MST_CTL_LOCK 0) blockWord := fun w =>
    calm_setF _ (calm_setF _ (calm_setF _ (calm_of_eq rfl rfl rfl rfl) (by decide)) (by decide)) (by decide)
  unfold startMaster
  exact calm_ite ((firstRef_calm _ _).after (h _)) (h _)

theorem storeDesc_calm (s : State) (d : Descriptor) : s.calm (s.storeDesc d).1 blockWord :=
  (setDescs_calm _ _).after (calm_of_eq rfl rfl rfl rfl)

theorem placeInit_calm (s : State) (ds : List Descriptor) : s.calm (s.placeInit ds) blockWord := by
  induction ds generalizing s with
  | nil => exact calm_refl s
  | cons d ds ih =>
    have hb : s.calm (s.bumpBy WHEEL_CNT_SKIP (occurrences d (s.skipPeriods d))) blockWord := calm_bump _ (calm_refl s) (by decide)
    unfold placeInit
    dsimp only
    refine (ih _).after ?_
    split
    · exact (storeDesc_calm _ _).after hb
    · exact hb

theorem takePartition_calm (s : State) (st : Structure) : s.calm (s.takePartition st) blockWord :=
  (stage_calm _).after ((placeInit_calm _ _).after ((setDescs_calm _ _).after (calm_of_eq rfl rfl rfl rfl)))

theorem blockWord_door (d : Fin 8) : blockWord (DOOR_STATE d) := by
  unfold DOOR_STATE doorBase
  omega

theorem modDoor_calm (s : State) (d : Fin 8) (g : DoorSt → DoorSt) : s.calm (s.modDoor d g) P := calm_of_eq rfl rfl rfl rfl

theorem modSafe_calm (s : State) (g : SafeState → SafeState) : s.calm (s.modSafe g) P := calm_of_eq rfl rfl rfl rfl

theorem toDoor_calm (s : State) (d : Fin 8) (st : Nat) : s.calm (s.toDoor d st) blockWord :=
  calm_setB (x := ⟨DOOR_STAT, 24 + d.val, 1⟩) _ (calm_setF (x := DOOR_STATE_STATE d) _ (modDoor_calm s d _) (blockWord_door d))
    (show blockWord DOOR_STAT by decide)

theorem judgeProfile_calm (s : State) (d : Fin 8) : s.calm (s.judgeProfile d) blockWord := by
  have h : s.calm (s.setB (DOOR_STATE_LEARNED d) (s.nv.doorTags.get d == some (s.doorDef d).tag)) blockWord :=
    calm_setB _ (calm_refl s) (blockWord_door d)
  exact calm_ite h (calm_raise _ h)

theorem doorStart_calm (s : State) (d : Fin 8) : s.calm (s.doorStart d) blockWord := by
  have hd := blockWord_door d
  unfold doorStart
  refine calm_ite (calm_refl s) ((judgeProfile_calm _ d).after ?_)
  refine (modSafe_calm _ _).after (calm_setF (x := DOOR_STATE_MANUAL d) 0 ((toDoor_calm _ d _).after ?_) hd)
  exact calm_setB (x := DOOR_STATE_EDGE d) _ (calm_setB (x := DOOR_STATE_CONF d) _ (calm_setB (x := DOOR_STATE_CLOSED_IN d) _
    (calm_of_eq rfl rfl rfl rfl) hd) hd) hd

-- ===== the rings (R392, R451) =====

theorem linkWord_ring (r : Fin 2) (k : Nat) (hk : k < 0x10000) : linkWord (krBase r + k) := by
  unfold krBase
  omega

theorem modRing_calm (s : State) (r : Fin 2) (g : RingState → RingState) : s.calm (s.modRing r g) P := calm_of_eq rfl rfl rfl rfl

theorem enterClaim_calm (s : State) (r : Fin 2) (prio : Nat) : s.calm (s.enterClaim r prio) linkWord := by
  have hr := fun k hk => linkWord_ring r k hk
  unfold enterClaim
  refine calm_ite (calm_refl s) ((modRing_calm _ r _).after ?_)
  exact calm_setF (x := KR_CLAIM_SENT r) _ (calm_setF (x := KR_CLAIM_PRIO r) _ (calm_setF (x := KR_EPOCH_EPOCH r) _
    (calm_setF (x := KR_STAT_STATE r) _ (calm_refl s) (hr 0 (by decide))) (hr 0x18 (by decide))) (hr 0x34 (by decide))) (hr 0x34 (by decide))

theorem claimFromLoad_calm (s : State) (r : Fin 2) : s.calm (s.claimFromLoad r) linkWord := by
  unfold claimFromLoad
  refine calm_ite (calm_refl s) ?_
  split
  · exact calm_raise _ (calm_hit (x := RED_STAT_MASTER_PRESENT) (calm_setF (x := KR_STAT_STATE r) _ (calm_refl s)
      (linkWord_ring r 0 (by decide))) (by decide))
  · exact enterClaim_calm s r _

-- ===== the queues, the recorder and the cores =====

theorem takeBudgets_calm (s : State) (st : Structure) : s.calm (s.takeBudgets st) blockWord := by
  unfold takeBudgets
  dsimp only
  refine (calm_foldl _ _ fun n hn u => ?_).after (calm_of_eq rfl rfl rfl rfl)
  have hb : blockWord (HQ_CFG n) := by
    have := List.mem_range.mp hn
    unfold HQ_CFG
    omega
  exact calm_setF (x := HQ_CFG_SHARED_CAP n) _ (calm_setF (x := HQ_CFG_RESERVED n) _ (calm_refl u) hb) hb

theorem takeBuckets_calm (s : State) (st : Structure) : s.calm (s.takeBuckets st) blockWord :=
  calm_setF (x := REC_SHARED_BURST) _ (calm_setF (x := REC_SHARED_RATE) _ (calm_of_eq rfl rfl rfl rfl) (by decide)) (by decide)

theorem takeHandlers_calm (s : State) (st : Structure) : s.calm (s.takeHandlers st) blockWord :=
  calm_setF (x := SCHED_STAT_ENABLED) _ (calm_setF (x := SCHED_CTL_CORE_EN) _ (calm_of_eq rfl rfl rfl rfl) (by decide)) (by decide)

-- ===== feedback and power ports (R152, R171, R220, R247) =====

/-- A register of a feedback port. -/
theorem blockWord_fbp (p : Nat) (k : Nat) (hk : k < 0x40) : blockWord (fbpBase p + k) := by
  unfold fbpBase
  refine .inr (.inr (.inr (.inl ?_)))
  omega

/-- A register of a power port. -/
theorem blockWord_pp (p : Nat) (k : Nat) (hk : k < 0x40) : blockWord (ppBase p + k) := by
  unfold ppBase
  refine .inr (.inr (.inr (.inl ?_)))
  omega

theorem modTile_calm (s : State) (a : Fin 96) (g : Tile → Tile) : s.calm (s.modTile a g) P := calm_of_eq rfl rfl rfl rfl

theorem initPort_calm (s : State) (p : Fin 32) : s.calm (s.initPort p) blockWord := by
  have h : s.calm ((({ s with fbps := s.fbps.set p {} }.wrN (FBP_CNT p) 0).wrN (FBP_STAT p) 0).setF (kBit p) 1) blockWord :=
    calm_setF _ (calm_wrN _ (calm_wrN _ (calm_of_eq rfl rfl rfl rfl) (blockWord_fbp p 0x18 (by decide))) (blockWord_fbp p 0x1C (by decide)))
      (blockWord_fbp p 0x1C (by decide))
  unfold initPort
  dsimp only
  split
  · next a _ =>
    exact calm_wrN _ (calm_wrN _ (calm_setB (x := TILE_FB_STAT_STANDSTILL a) _ h (blockWord_tile a 0x110 (by decide)))
      (blockWord_tile a 0x108 (by decide))) (blockWord_tile a 0x10C (by decide))
  · exact h

theorem tidyImage_calm (s : State) (st : Structure) : s.calm (s.tidyImage st) blockWord := by
  have hz (u v : State) (a : Nat) (h : u.calm v blockWord) {x : Fld} (hx : x.reg = TILE_FB_SRC a) : u.calm (v.setF x 0) blockWord :=
    calm_setF 0 h (hx ▸ blockWord_tile a 0x100 (by decide))
  unfold tidyImage
  dsimp only
  refine calm_trans (calm_foldl _ s fun a _ u => ?_) (calm_foldl _ _ fun p _ u => ?_)
  · have h2 := calm_ite (c := u.f (TILE_FB_SRC_SRC a) = 1) (calm_refl u) (hz u u a (calm_refl u) (x := TILE_FB_SRC_PORT a) rfl)
    refine calm_ite h2 ?_
    exact hz u _ a (hz u _ a (hz u _ a (hz u _ a h2 (x := TILE_FB_SRC_RING a) rfl) (x := TILE_FB_SRC_NODE a) rfl)
      (x := TILE_FB_SRC_AGE_MAX a) rfl) (x := TILE_FB_SRC_DRV_LOOP a) rfl
  · exact calm_ite (calm_setF (x := FBP_CFG_MODE p) 0 (calm_refl u) (blockWord_fbp p 0 (by decide))) (calm_refl u)

theorem gateUpdate_calm (s : State) (p : Fin 32) : s.calm (s.gateUpdate p) blockWord := (gateUpdate_swept s p).offStep.calm

theorem startCal_calm (s : State) (p : Fin 32) : s.calm (s.startCal p) blockWord :=
  (gateUpdate_calm _ p).after (calm_trans (calm_setF (x := PP_STAT_CAL_DONE p) 0 (calm_refl s) (blockWord_pp p 0x28 (by decide)))
    (calm_of_eq rfl rfl rfl rfl))

-- ===== loops and the solver =====

theorem modCl_calm (s : State) (c : Fin 12) (g : Cluster → Cluster) : s.calm (s.modCl c g) P := calm_of_eq rfl rfl rfl rfl

theorem modQ_calm (s : State) (a : Fin 12) (g : QArm → QArm) : s.calm (s.modQ a g) P := calm_of_eq rfl rfl rfl rfl

theorem takeParams_calm (s : State) (ps : List (Nat × Nat × Word)) : s.calm (s.takeParams ps) P := calm_of_eq rfl rfl rfl rfl

theorem startSolver_calm (s : State) (st : Structure) (h : ∀ p ∈ st.probs, P (QS_ARM_RES p.unit p.pos)) : s.calm (s.startSolver st) P := by
  unfold startSolver
  dsimp only
  refine (calm_foldl _ _ fun p hp u => ?_).after (calm_of_eq rfl rfl rfl rfl)
  have hq := h p hp
  split
  · refine (modCl_calm _ _ _).after ((modQ_calm _ _ _).after ?_)
    exact calm_setF (x := QS_ARM_RES_USABLE p.unit p.pos) _ (calm_setF (x := QS_ARM_RES_KIND p.unit p.pos) _
      (calm_setF (x := QS_ARM_RES_RHO p.unit p.pos) _ (calm_refl u) hq) hq) hq
  · exact calm_refl u

/-- The caps of the clusters fall to zero. -/
def zeroCaps (s : State) : State := (List.range 12).foldl (fun (s : State) c => s.setF (CL_PSO_CAP_S_CAP c) 0) s

theorem zeroCaps_calm (s : State) : s.calm s.zeroCaps blockWord :=
  calm_foldl _ s fun c _ u => calm_setF (x := CL_PSO_CAP_S_CAP c) 0 (calm_refl u) (by
    show blockWord (CL_PSO_CAP c)
    unfold CL_PSO_CAP clBase
    omega)

-- ===== the Hardpan's set, pins and outputs =====

/-- V_PATH of the arms is shown. -/
def showPaths (s : State) (set : SafSet) : State :=
  (List.range 12).foldl (fun (u : State) c => u.setF (CL_PSO_VPATH_V_PATH c)
    (match set.arms.find? (fun (x : SafArm) => x.arm == c) with | some p => p.vpath | none => 0)) s

theorem showPaths_calm (s : State) (set : SafSet) : s.calm (s.showPaths set) blockWord :=
  calm_foldl _ s fun c _ u => calm_setF (x := CL_PSO_VPATH_V_PATH c) _ (calm_refl u) (by
    show blockWord (CL_PSO_VPATH c)
    unfold CL_PSO_VPATH clBase
    omega)

theorem useSafety_calm (s : State) (i : Image) (idx : Nat) : s.calm (s.useSafety i idx) blockWord := by
  unfold useSafety
  dsimp only
  refine calm_setF (x := SAFE_SSM_SCAN_PRESENT) _ (calm_setF (x := SAFE_SSM_STAT_SET) _ (calm_setF (x := SAFE_CFG_CODE_SET) _ ?_ (by decide))
    (by decide)) (by decide)
  exact (showPaths_calm _ (i.st.safety.sets.getD idx { code := 0 })).after (modSafe_calm s _)

theorem restPin_calm (s : State) (n : Nat) (on : Bool) : s.calm (s.restPin n on) blockWord :=
  (setPin_calm _ _ _).after (calm_of_eq rfl rfl rfl rfl)

theorem modFio_calm (s : State) (g : FioState → FioState) : s.calm (s.modFio g) P := calm_of_eq rfl rfl rfl rfl

theorem syncFmode_calm (s : State) : s.calm s.syncFmode blockWord := by
  have h : s.calm (s.setF FIO_STAT_FMODE s.fmodeNow) blockWord := calm_setF _ (calm_refl s) (by decide)
  exact calm_ite h (calm_ite (calm_trans h (modFio_calm _ _)) (calm_ite (calm_trans h (modFio_calm _ _)) h))

theorem outInit_calm (s : State) : s.calm s.outInit blockWord := calm_wrN _ (calm_refl s) (by decide)

-- ===== the end of LOAD (R56, R92) =====

theorem wrAll_calm (s : State) (ps : List (Nat × Word)) (h : ∀ p ∈ ps, P p.1) : s.calm (s.wrAll ps) P := by
  induction ps generalizing s with
  | nil => exact calm_refl s
  | cons p ps ih =>
    exact (ih (s.wr p.1 p.2) fun q hq => h q (List.mem_cons_of_mem _ hq)).after (calm_wr _ (calm_refl s) (h p List.mem_cons_self))

theorem wrWords_calm (s : State) (a : Nat) (ws : List Word) (h : ∀ i, i < ws.length → P (a + 4 * i)) : s.calm (s.wrWords a ws) P := by
  rw [wrWords_frame]
  refine ⟨rfl, rfl, rfl, fun r hr => ?_⟩
  exact rd_wrWords_ne s a ws fun i hi hri => hr (hri ▸ h i hi)

theorem showRun_calm (s : State) (i : Image) : s.calm (s.showRun i) (fun _ => True) := by
  unfold showRun
  refine calm_wrN _ (calm_wrN _ ((wrWords_calm _ _ _ fun _ _ => trivial).after ?_) trivial) trivial
  exact calm_wrN _ (calm_setF _ (calm_setF _ (calm_refl s) trivial) trivial) trivial

theorem runClusters_calm (s : State) (st : Structure) (h : ∀ c : Fin 12, P (CL_ENG_STAT c)) : s.calm (s.runClusters st) P :=
  calm_foldl _ s fun c _ u => calm_setB (x := CL_ENG_STAT_RUNNING c) _ (calm_refl u) (h c)

theorem ringNodes_calm (s : State) (d : RingDef) (h : ∀ n, n < 512 → P (KR_NODE d.ring n)) : s.calm (s.ringNodes d) P :=
  calm_foldl _ s fun n hn u => calm_ite (calm_refl u) (calm_wrN _ (calm_refl u) (h n (List.mem_range.mp hn)))

theorem takeRings_calm (s : State) (st : Structure) : s.calm (s.takeRings st) (fun _ => True) :=
  calm_foldl _ s fun d _ u => calm_setF (x := KR_RING_JOINED d.ring) 0 (ringNodes_calm u d fun _ _ => trivial) trivial

theorem calPorts_calm (s : State) : s.calm s.calPorts blockWord :=
  calm_foldl _ s fun p _ u => calm_ite (calm_refl u) (startCal_calm u p)

/-- The state in which the blocks find a structure that starts. -/
def blocksFresh (s : State) (i : Image) : State :=
  { s with cfg := { s.cfg with run := some i, loading := none, frames := 0, frameAt := none, eligibleAt := none },
           tiles := Bank.rep 96 {}, fbps := Bank.rep 32 {}, clusters := Bank.rep 12 {}, pps := Bank.rep 32 {},
           mem := { s.mem with prog := Bank.rep 12 [], solver := Bank.rep 4 [], wiped := false } }

/-- What the blocks take for the first time touches neither the configuration beyond the running image, nor the start, nor MRAM. -/
theorem startBlocks_calm (s : State) (i : Image) : (s.blocksFresh i).calm (s.startBlocks i) (fun _ => True) := by
  have h1 : (s.blocksFresh i).calm (((((((s.blocksFresh i).wrAll i.st.regs).tidyImage i.st).showRun i).wrN CFG_SWAP_CNT 0).takeBudgets
      i.st).takeBuckets i.st |>.takeHandlers i.st) (fun _ => True) :=
    (takeHandlers_calm _ _).all.after ((takeBuckets_calm _ _).all.after ((takeBudgets_calm _ _).all.after (calm_wrN _
      ((showRun_calm _ _).after ((tidyImage_calm _ _).all.after (wrAll_calm _ _ fun _ _ => trivial))) trivial)))
  have hp (u : State) : u.calm ((List.finRange 32).foldl (fun (s : State) (p : Fin 32) => s.initPort p) u) (fun _ => True) :=
    (calm_foldl _ u fun p _ u => initPort_calm u p).all
  have hx (u : State) : u.calm ((List.range 16).foldl (fun (s : State) n =>
      if s.startRole = 2 then s.restPin n false else s.idlePin n) u) (fun _ => True) :=
    (calm_foldl _ u fun n _ u => calm_ite (restPin_calm u n false) (restPin_calm u n _)).all
  have hs (u : State) : u.calm (match u.presentCode.bind (setIdx? i.st) with | some k => u.useSafety i k | none => u) (fun _ => True) := by
    split
    · exact (useSafety_calm _ _ _).all
    · exact calm_refl u
  unfold startBlocks
  refine (outInit_calm _).all.after ((syncFmode_calm _).all.after ((modFio_calm _ _).after ((hx _).after ((hs _).after ?_))))
  refine (zeroCaps_calm _).all.after ((calPorts_calm _).all.after ((takeRings_calm _ _).after ((startSolver_calm _ _ fun _ _ => trivial).after
    ((runClusters_calm _ _ fun _ => trivial).after ((takeParams_calm _ _).after ?_)))))
  exact (hp _).after h1

/-- Doors, wheel and rings at a start without a snapshot (R359, R392, R587). -/
theorem startMotion_calm (s : State) (i : Image) : s.calm (s.startMotion i none) linkWord := by
  unfold startMotion
  refine (calm_foldl _ _ fun r _ u => claimFromLoad_calm u r).after ((calm_foldl _ _ fun d _ u => (doorStart_calm u d).link).after ?_)
  exact (takePartition_calm _ _).link.after (startMaster_calm s i.st).link

end State

end Sys2Proof.Machine

/-! SUPPORT. O43: the load command, the end of a load that fails, and the start of a structure (R54, R56, R92, R95). -/

namespace Sys2Proof.Machine

/-- A field is the part of its word's number from its low bit on. -/
theorem Fld.get_eq_mod (x : Fld) (w : Word) : x.get w = w.toNat / 2 ^ x.lo % 2 ^ x.width := by
  refine Nat.eq_of_testBit_eq fun i => ?_
  rw [Fld.testBit_get, Nat.testBit_mod_two_pow, Nat.testBit_div_two_pow, BitVec.getLsbD, Nat.add_comm]

namespace State

-- ===== what CFG shows at the end of a load =====

/-- A load has ended: its load state, and its code with DETAIL (R54, R56). -/
def loadDone (s : State) (ldr code detail : Nat) : State :=
  (((s.setF CFG_STAT_LDR ldr).setF CFG_STAT_BUSY 0).hit CFG_STAT_DONE).cfgErr code detail

theorem loadDone_stat (s : State) {ldr : Nat} (h : ldr < 8) (code detail : Nat) : (s.loadDone ldr code detail).f CFG_STAT_LDR = ldr ∧
    (s.loadDone ldr code detail).f CFG_STAT_BUSY = 0 ∧ (s.loadDone ldr code detail).f CFG_STAT_DONE = 1 := by
  have hn : ∀ (u : State) {x : Fld} (v : Nat), x.reg = CFG_STAT → (u.wrN CFG_ERR v).f x = u.f x := fun u x v hx =>
    f_wrN_ne u v (by rw [hx]; decide)
  unfold loadDone cfgErr
  refine ⟨?_, ?_, (hn _ (x := CFG_STAT_DONE) _ rfl).trans (f_hit_same _ CFG_STAT_DONE (by decide) rfl)⟩
  · rw [hn _ (x := CFG_STAT_LDR) _ rfl, f_hit_disj (x := CFG_STAT_DONE) (y := CFG_STAT_LDR) _ rfl (by decide),
      f_setF_disj (x := CFG_STAT_BUSY) (y := CFG_STAT_LDR) _ _ rfl (by decide), f_setF_same s CFG_STAT_LDR ldr (by decide)]
    exact Nat.mod_eq_of_lt h
  · rw [hn _ (x := CFG_STAT_BUSY) _ rfl, f_hit_disj (x := CFG_STAT_DONE) (y := CFG_STAT_BUSY) _ rfl (by decide),
      f_setF_zero _ CFG_STAT_BUSY (by decide)]

/-- CFG_ERR holds a code below 256 and the low byte of its DETAIL. -/
theorem cfgErr_fields (s : State) {code : Nat} (h : code < 256) (detail : Nat) :
    (s.cfgErr code detail).f CFG_ERR_CODE = code ∧ (s.cfgErr code detail).f CFG_ERR_DETAIL = detail % 256 := by
  have hw : (s.cfgErr code detail).rd CFG_ERR = BitVec.ofNat 32 (code + 256 * detail) := rd_wr_same _ _ _
  unfold f
  refine ⟨?_, ?_⟩
  · show CFG_ERR_CODE.get ((s.cfgErr code detail).rd CFG_ERR) = _
    rw [hw, Fld.get_eq_mod]
    simp only [CFG_ERR_CODE, BitVec.toNat_ofNat]
    omega
  · show CFG_ERR_DETAIL.get ((s.cfgErr code detail).rd CFG_ERR) = _
    rw [hw, Fld.get_eq_mod]
    simp only [CFG_ERR_DETAIL, BitVec.toNat_ofNat]
    omega

theorem loadDone_keeps (s : State) (ldr code detail : Nat) : s.keeps (s.loadDone ldr code detail) [CFG_STAT, CFG_ERR] :=
  keeps_wrN _ (keeps_hit (x := CFG_STAT_DONE) (keeps_setF (x := CFG_STAT_BUSY) _ (keeps_setF (x := CFG_STAT_LDR) _ (keeps_refl s _)
    (.head _)) (.head _)) (.head _)) (by decide)

theorem loadDone_err (s : State) (ldr : Nat) {code : Nat} (h : code < 256) (detail : Nat) :
    (s.loadDone ldr code detail).f CFG_ERR_CODE = code ∧ (s.loadDone ldr code detail).f CFG_ERR_DETAIL = detail % 256 :=
  cfgErr_fields _ h detail

theorem loadDone_cfg (s : State) (ldr code detail : Nat) : (s.loadDone ldr code detail).cfg = s.cfg := rfl

-- ===== a load that fails (R54, R56) =====

/-- A load has ended with a code: its result is shown, the running image and the shadow are as before, LOAD returns to BARE, and in
another mode only the status of CFG differs. -/
def failedLoad (s t : State) (code : Nat) : Prop :=
  t.f CFG_ERR_CODE = code ∧ t.cfg.run = s.cfg.run ∧ t.cfg.shadow = s.cfg.shadow ∧ t.cfg.loading = none ∧ t.cfg.nodesFor = none ∧
    t.f CFG_STAT_BUSY = 0 ∧ t.f CFG_STAT_DONE = 1 ∧ (s.mode = mLOAD → t.mode = mBARE) ∧
    (s.mode ≠ mLOAD → t.mode = s.mode ∧ (code ≠ 0xB → s.keeps t [CFG_STAT, CFG_ERR] ∧
      t = { s with time := { s.time with hits := t.time.hits }, cfg := t.cfg, regs := t.regs }))

/-- No image is being loaded. -/
def loadOver (s : State) : State := { s with cfg := { s.cfg with loading := none, nodesFor := none } }

/-- LDR after a failure: a shadow that a load for BARE has left stays held. -/
def failLdr (s : State) : Nat := if s.cfg.shadow.isSome ∧ !s.cfg.isShadow then 4 else 0

theorem loadFails_eq (s : State) (code detail : Nat) : s.loadFails code detail =
    if s.mode = mLOAD then (s.loadOver.loadDone s.failLdr code detail).enterMode mBARE 2 else s.loadOver.loadDone s.failLdr code detail := rfl

theorem failLdr_lt (s : State) : s.failLdr < 8 := by
  unfold failLdr
  split <;> decide

theorem loadFails_spec (s : State) {code : Nat} (h : code < 256) (detail : Nat) :
    s.failedLoad (s.loadFails code detail) code ∧ (s.loadFails code detail).f CFG_ERR_DETAIL = detail % 256 := by
  obtain ⟨-, hb, hd⟩ := s.loadOver.loadDone_stat s.failLdr_lt code detail
  obtain ⟨hc, hx⟩ := s.loadOver.loadDone_err s.failLdr h detail
  have hk := s.loadOver.loadDone_keeps s.failLdr code detail
  rw [loadFails_eq]
  split
  · next hm =>
    have he := enterMode_calm (s.loadOver.loadDone s.failLdr code detail) mBARE 2 255
    have hm' := (enterMode_mode (s.loadOver.loadDone s.failLdr code detail) 2 255 (m := mBARE) (by decide)).1
    have hcfg := he.cfg.trans (loadDone_cfg _ _ _ _)
    rw [← he.f (x := CFG_ERR_CODE) (by decide)] at hc
    rw [← he.f (x := CFG_ERR_DETAIL) (by decide)] at hx
    rw [← he.f (x := CFG_STAT_BUSY) (by decide)] at hb
    rw [← he.f (x := CFG_STAT_DONE) (by decide)] at hd
    refine ⟨⟨hc, ?_, ?_, ?_, ?_, hb, hd, fun _ => hm', fun hn => absurd hm hn⟩, hx⟩
    all_goals rw [hcfg, loadOver]
  · next hm =>
    refine ⟨⟨hc, rfl, rfl, rfl, rfl, hb, hd, fun hl => absurd hl hm, fun _ => ⟨f_keeps hk (by decide), fun _ => ⟨hk, rfl⟩⟩⟩, hx⟩

/-- A failure of step 11 may come after the channels have told of their difference. -/
theorem failedLoad_of_calm {s u t : State} (h : s.calm u blockWord) (hf : u.failedLoad t 0xB) : s.failedLoad t 0xB := by
  obtain ⟨hc, hr, hs, hl, hn, hb, hd, hm, hm'⟩ := hf
  have he : u.mode = s.mode := h.f (by decide)
  exact ⟨hc, hr.trans (by rw [h.cfg]), hs.trans (by rw [h.cfg]), hl, hn, hb, hd, fun hs => hm (he.trans hs),
    fun hs => ⟨(hm' fun hu => hs (he.symm.trans hu)).1.trans he, fun hne => absurd rfl hne⟩⟩

theorem safetyDiffers_calm (s : State) (slot : Nat) (v : LoadVerdict) : s.calm (s.safetyDiffers slot v) blockWord :=
  calm_ite (calm_refl s) (calm_raise _ (calm_trans (calm_setF (x := SAFE_STAT_XCMP) 1 (calm_refl s) (by decide)) (offGroups_calm _ 15 11)))

/-- The end of a load at a failing step of the body. -/
theorem bodyFails_spec (s : State) (slot : Nat) (v : LoadVerdict) {k : Nat} (d : Nat) (hk : k < 256) :
    s.failedLoad ((if k = 0xB then s.safetyDiffers slot v else s).loadFails k d) k ∧
      ((if k = 0xB then s.safetyDiffers slot v else s).loadFails k d).f CFG_ERR_DETAIL = d % 256 := by
  split
  · next h =>
    subst h
    obtain ⟨hf, hd⟩ := loadFails_spec (s.safetyDiffers slot v) hk d
    exact ⟨failedLoad_of_calm (s.safetyDiffers_calm slot v) hf, hd⟩
  · exact loadFails_spec s hk d

theorem ite_lt {p : Prop} [Decidable p] {x y n : Nat} (hx : x < n) (hy : y < n) : (if p then x else y) < n := by
  split
  · exact hx
  · exact hy

theorem keyCheck_lt (s : State) (a b c : Nat) : s.keyCheck a b c < 256 := by
  unfold keyCheck
  split
  · decide
  · exact ite_lt (by decide) (ite_lt (by decide) (by decide))

theorem authCheck_lt (s : State) (slot : Nat) (rsa slh : Bool) : s.authCheck slot rsa slh < 256 := by
  unfold authCheck
  exact ite_lt (by decide) (ite_lt (by decide) (ite_lt (by decide) (ite_lt (keyCheck_lt _ _ _ _) (ite_lt (keyCheck_lt _ _ _ _)
    (ite_lt (by decide) (ite_lt (by decide) (ite_lt (by decide) (by decide))))))))

theorem bodyCheck_lt (s : State) (slot : Nat) (v : LoadVerdict) : (s.bodyCheck slot v).1 < 256 := by
  unfold bodyCheck
  dsimp only
  repeat' split
  all_goals simp

end State

end Sys2Proof.Machine

/-! SUPPORT. O43: a structure comes into force, cold, warm or on a standby (R74, R92 to R95). -/

namespace Sys2Proof.Machine

namespace State

-- ===== a restored snapshot leaves the configuration (R93) =====

theorem restoreTile_cfg (s : State) (x : TileSnap) : (s.restoreTile x).cfg = s.cfg := by
  unfold restoreTile
  split
  · dsimp only
    split
    · split <;> rfl
    · rfl
  · rfl

theorem restoreArm_cfg (s : State) (a : Fin 12) (x : Option QPoint × Nat × Nat) : (s.restoreArm a x).cfg = s.cfg := by
  unfold restoreArm
  split
  · rfl
  · dsimp only
    split <;> rfl

theorem restoreDoor_cfg (s : State) (d : Fin 8) (x : List Word × Option Nat × Nat) : (s.restoreDoor d x).cfg = s.cfg := by
  unfold restoreDoor
  split
  · exact wrWords_cfg s _ _
  · rfl

theorem putFadj_cfg (s : State) (c : Int) : (s.putFadj c).cfg = s.cfg := by
  unfold putFadj
  split <;> rfl

theorem setFadj_cfg (s : State) (v ofs : Int) : (s.setFadj v ofs).cfg = s.cfg := by
  unfold setFadj
  dsimp only
  split <;> exact putFadj_cfg s (max (-s.fadjLimit) (min v s.fadjLimit))

theorem restoreSnap_cfg (s : State) (k : Snap) (takeover : Bool) : (s.restoreSnap k takeover).cfg = s.cfg := by
  have hf : ∀ {α : Type} (g : State → α → State) (l : List α) (u : State), (∀ u a, (g u a).cfg = u.cfg) → (l.foldl g u).cfg = u.cfg :=
    fun g l u h => foldl_rel (R := fun s t => t.cfg = s.cfg) (fun _ => rfl) (fun h h' => h'.trans h) l u fun a _ s => h s a
  unfold restoreSnap
  dsimp only [modSafe]
  split
  · rw [hf _ _ _ fun u a => restoreDoor_cfg u a _, hf _ _ _ fun u a => restoreArm_cfg u a _, hf _ _ _ fun u c => ?_, hf _ _ _ restoreTile_cfg]
    rfl
  · rw [setFadj_cfg, hf _ _ _ fun u a => restoreDoor_cfg u a _, hf _ _ _ fun u a => restoreArm_cfg u a _, hf _ _ _ fun u c => ?_,
      hf _ _ _ restoreTile_cfg]
    rfl

theorem restoreMaster_cfg (s : State) (k : Snap) (takeover : Bool) : (s.restoreMaster k takeover).cfg = s.cfg := by
  unfold restoreMaster
  dsimp only
  split
  · rfl
  · split <;> rfl

/-- Doors, wheel and rings at a start leave the configuration, with a snapshot or without. -/
theorem startMotion_cfg (s : State) (i : Image) (snap : Option Snap) : (s.startMotion i snap).cfg = s.cfg := by
  have h (u : State) : ((List.finRange 2).foldl (fun (s : State) (r : Fin 2) => s.claimFromLoad r) ((List.finRange 8).foldl
      (fun (s : State) (d : Fin 8) => s.doorStart d) (u.takePartition i.st))).cfg = u.cfg := by
    rw [(calm_foldl _ _ fun r _ u => claimFromLoad_calm u r).cfg, (calm_foldl _ _ fun d _ u => doorStart_calm u d).cfg,
      (takePartition_calm u i.st).cfg]
  cases snap with
  | none => exact (startMotion_calm s i).cfg
  | some k =>
    refine (h _).trans ?_
    rw [restoreMaster_cfg, restoreSnap_cfg, (startMaster_calm s i.st).cfg]

-- ===== the blocks have taken the structure (R56) =====

/-- The structure runs and CFG shows the load's success. -/
def startShown (s : State) (i : Image) : State :=
  let t := (s.startBlocks i).loadDone 0 0 0
  t.setF RED_STAT_ROLE t.startRole

/-- Only the rings' states differ: NODE on every ring of the structure. -/
def ringsNode (s : State) : State :=
  (List.finRange 2).foldl (fun (s : State) (r : Fin 2) => if (s.ringDef r).area = 0 then s else s.setF (KR_STAT_STATE r) rNODE) s

theorem startStructure_standby {s : State} {i : Image} (h : (s.startShown i).startRole = 2) :
    s.startStructure i = ((s.startShown i).ringsNode.startMaster i.st).enterMode mCOLD_STANDBY 2 := if_pos h

theorem startStructure_runs {s : State} {i : Image} (h : (s.startShown i).startRole ≠ 2) :
    s.startStructure i = (((s.startShown i).warmChoice i).1.startMotion i ((s.startShown i).warmChoice i).2).enterMode mCOMMISSION 2 := if_neg h

theorem startShown_facts (s : State) (i : Image) : (s.startShown i).cfg.run = some i ∧ (s.startShown i).cfg.loading = none ∧
    (s.startShown i).sys = s.sys ∧ (s.startShown i).nv = s.nv := by
  have h := startBlocks_calm s i
  refine ⟨(congrArg CfgState.run h.cfg).trans rfl, (congrArg CfgState.loading h.cfg).trans rfl, h.sys, h.nv⟩

theorem startShown_role (s : State) (i : Image) : (s.startShown i).startRole = s.startRole := by
  unfold startRole
  rw [(startShown_facts s i).2.2.1]

theorem startShown_stat (s : State) (i : Image) : (s.startShown i).f CFG_STAT_LDR = 0 ∧ (s.startShown i).f CFG_STAT_BUSY = 0 ∧
    (s.startShown i).f CFG_STAT_DONE = 1 ∧ (s.startShown i).rdN CFG_ERR = 0 ∧ (s.startShown i).f RED_STAT_ROLE = s.startRole := by
  obtain ⟨h1, h2, h3⟩ := (s.startBlocks i).loadDone_stat (ldr := 0) (by decide) 0 0
  have hn (x : Fld) (hx : x.reg = CFG_STAT) : (s.startShown i).f x = ((s.startBlocks i).loadDone 0 0 0).f x :=
    f_setF_ne _ _ (by rw [hx]; decide)
  refine ⟨(hn _ rfl).trans h1, (hn _ rfl).trans h2, (hn _ rfl).trans h3, ?_, ?_⟩
  · exact (rdN_setF_ne _ _ (by decide)).trans (rdN_wrN_same _ CFG_ERR _)
  · have hr : ((s.startBlocks i).loadDone 0 0 0).startRole = s.startRole := startShown_role s i
    refine (f_setF_same _ RED_STAT_ROLE _ (by decide)).trans ?_
    rw [hr]
    exact Nat.mod_eq_of_lt (Nat.mod_lt _ (by decide))

-- ===== a cold or a warm start (R92, R94) =====

theorem newestLoam_of_nv {s t : State} (h : t.nv = s.nv) : t.newestLoam = s.newestLoam := by
  unfold newestLoam
  rw [h]

theorem warmAsked_of_sys {s t : State} (h : t.sys = s.sys) : t.warmAsked = s.warmAsked := by
  unfold warmAsked
  rw [h]

/-- The words that the choice of a start writes in. -/
abbrev startWord (a : Nat) : Prop := linkWord a ∨ a = SYS_START_STAT

theorem warmChoice_calm (s : State) (i : Image) : s.calm (s.warmChoice i).1 startWord := by
  have hk (u v : State) (x : Fld) (n : Nat) (h : u.calm v startWord) (hx : x.reg = SYS_START_STAT) : u.calm (v.setF x n) startWord :=
    calm_setF n h (.inr hx)
  have ho (u : State) (c p : Nat) (b : List Byte) : u.calm (u.offerRec c p b) startWord :=
    (offerRec_calm u c p b).mono fun _ h => .inl (.inl h)
  unfold warmChoice
  split
  · exact hk s s _ 1 (calm_refl s) rfl
  · split
    · exact (ho _ _ _ _).after (hk s s _ 1 (calm_refl s) rfl)
    · split
      · exact hk s s _ 2 (calm_refl s) rfl
      · exact (ho _ _ _ _).after (hk s _ _ 1 (hk s s _ 3 (calm_refl s) rfl) rfl)

/-- A start that finds no snapshot of its structure is cold: KIND 1, or 3 with a snapshot of another structure held. -/
theorem warmChoice_cold {s : State} {i : Image} (h : s.warmAsked = false ∨ ∀ d k, s.newestLoam = some (d, k) → k.hash ≠ i.hash) :
    (s.warmChoice i).2 = none ∧
      (s.warmChoice i).1.f SYS_START_STAT_KIND = (if s.warmAsked = true ∧ s.newestLoam.isSome = true then 3 else 1) := by
  have hk (u : State) (v : Nat) (hv : v < 4) : (u.setF SYS_START_STAT_KIND v).f SYS_START_STAT_KIND = v :=
    (f_setF_same u SYS_START_STAT_KIND v (by decide)).trans (Nat.mod_eq_of_lt hv)
  have ho (u : State) (c p : Nat) (b : List Byte) : (u.offerRec c p b).f SYS_START_STAT_KIND = u.f SYS_START_STAT_KIND :=
    (offerRec_calm u c p b).f (by decide)
  unfold warmChoice
  cases hw : s.warmAsked with
  | false => exact ⟨rfl, hk s 1 (by decide)⟩
  | true =>
    cases hl : s.newestLoam with
    | none => exact ⟨rfl, (ho _ _ _ _).trans (hk s 1 (by decide))⟩
    | some p =>
      obtain ⟨d, k⟩ := p
      have hne : k.hash ≠ i.hash := h.elim (fun hf => absurd (hw.symm.trans hf) (by decide)) fun hh => hh d k hl
      dsimp only
      rw [if_neg (by decide), if_neg hne]
      refine ⟨rfl, (ho _ _ _ _).trans ?_⟩
      exact (f_setF_disj (x := SYS_START_STAT_LOAM_HELD) (y := SYS_START_STAT_KIND) _ _ rfl (by decide)).trans (hk s 3 (by decide))

theorem startStructure_commission {s : State} {i : Image} (h : s.startRole ≠ 2) :
    (s.startStructure i).mode = mCOMMISSION ∧ (s.startStructure i).cfg.run = some i ∧ (s.startStructure i).cfg.loading = none := by
  obtain ⟨hr, hl, -, -⟩ := startShown_facts s i
  rw [startStructure_runs (by rw [startShown_role]; exact h)]
  have hc := (enterMode_calm (((s.startShown i).warmChoice i).1.startMotion i ((s.startShown i).warmChoice i).2) mCOMMISSION 2 255).cfg.trans
    ((startMotion_cfg _ i _).trans (warmChoice_calm (s.startShown i) i).cfg)
  exact ⟨(enterMode_mode _ 2 255 (by decide)).1, (congrArg CfgState.run hc).trans hr, (congrArg CfgState.loading hc).trans hl⟩

theorem startStructure_cold {s : State} {i : Image} (h : s.startRole ≠ 2)
    (hw : s.warmAsked = false ∨ ∀ d k, s.newestLoam = some (d, k) → k.hash ≠ i.hash) :
    (s.startStructure i).f CFG_STAT_LDR = 0 ∧ (s.startStructure i).f CFG_STAT_BUSY = 0 ∧ (s.startStructure i).f CFG_STAT_DONE = 1 ∧
      (s.startStructure i).rdN CFG_ERR = 0 ∧
      (s.startStructure i).f SYS_START_STAT_KIND = (if s.warmAsked = true ∧ s.newestLoam.isSome = true then 3 else 1) := by
  obtain ⟨-, -, hs, hn⟩ := startShown_facts s i
  obtain ⟨h1, h2, h3, h4, -⟩ := startShown_stat s i
  rw [← warmAsked_of_sys hs, ← newestLoam_of_nv hn] at hw
  obtain ⟨hnone, hkind⟩ := warmChoice_cold hw
  rw [warmAsked_of_sys hs, newestLoam_of_nv hn] at hkind
  have hm := startMotion_calm ((s.startShown i).warmChoice i).1 i
  have he := enterMode_calm (((s.startShown i).warmChoice i).1.startMotion i none) mCOMMISSION 2 255
  have hw := warmChoice_calm (s.startShown i) i
  rw [startStructure_runs (by rw [startShown_role]; exact h), hnone]
  have hf (x : Fld) (hx : x.reg = CFG_STAT) : ((((s.startShown i).warmChoice i).1.startMotion i none).enterMode mCOMMISSION 2).f x =
      (s.startShown i).f x :=
    (he.f (by rw [hx]; decide)).trans ((hm.f (by rw [hx]; decide)).trans (hw.f (by rw [hx]; decide)))
  refine ⟨(hf _ rfl).trans h1, (hf _ rfl).trans h2, (hf _ rfl).trans h3, ?_, (he.f (by decide)).trans ((hm.f (by decide)).trans hkind)⟩
  unfold rdN at h4 ⊢
  rw [he.rd (by decide), hm.rd (by decide), hw.rd (by decide), h4]

-- ===== a standby (R95, R435) =====

theorem ringDef_of_cfg {s t : State} (h : t.cfg = s.cfg) (r : Nat) : t.ringDef r = s.ringDef r := by
  unfold ringDef State.st
  rw [h]

/-- A ring of the structure is in NODE, one that is not of it as before. -/
def ringAsNode (s : State) (r : Fin 2) : State := if (s.ringDef r).area = 0 then s else s.setF (KR_STAT_STATE r) rNODE

theorem ringAsNode_calm (s : State) (r : Fin 2) : s.calm (s.ringAsNode r) (fun a => a = KR_STAT r) :=
  calm_ite (calm_refl s) (calm_setF (x := KR_STAT_STATE r) _ (calm_refl s) rfl)

theorem ringAsNode_state {s : State} {r : Fin 2} (h : (s.ringDef r).area ≠ 0) : (s.ringAsNode r).rstate r = rNODE := by
  unfold ringAsNode rstate
  rw [if_neg h]
  exact f_setF_same s (KR_STAT_STATE r) rNODE (by show 0 + 3 ≤ 32; decide)

theorem ringsNode_calm (s : State) : s.calm s.ringsNode (fun a => a = KR_STAT 0 ∨ a = KR_STAT 1) :=
  ((ringAsNode_calm _ 1).mono fun _ => Or.inr).after ((ringAsNode_calm s 0).mono fun _ => Or.inl)

theorem ringsNode_state {s : State} {r : Fin 2} (h : (s.ringDef r).area ≠ 0) : s.ringsNode.rstate r = rNODE := by
  match r with
  | 0 => exact ((ringAsNode_calm (s.ringAsNode 0) 1).f (x := KR_STAT_STATE 0) (by decide)).trans (ringAsNode_state h)
  | 1 =>
    refine ringAsNode_state (s := s.ringAsNode 0) ?_
    rw [ringDef_of_cfg (ringAsNode_calm s 0).cfg]
    exact h

theorem startStructure_coldStandby {s : State} {i : Image} (h : s.startRole = 2) :
    (s.startStructure i).mode = mCOLD_STANDBY ∧ (s.startStructure i).cfg.run = some i ∧ (s.startStructure i).cfg.loading = none ∧
      (∀ r : Fin 2, ((s.startStructure i).ringDef r).area ≠ 0 → (s.startStructure i).rstate r = rNODE) ∧
      (s.startStructure i).f CFG_STAT_BUSY = 0 ∧ (s.startStructure i).f RED_STAT_ROLE = 2 := by
  obtain ⟨hr, hl, -, -⟩ := startShown_facts s i
  obtain ⟨-, hb, -, -, hrole⟩ := startShown_stat s i
  have hn := ringsNode_calm (s.startShown i)
  have hm : (s.startShown i).ringsNode.calm (((s.startShown i).ringsNode.startMaster i.st).enterMode mCOLD_STANDBY 2) modeWord :=
    (enterMode_calm _ mCOLD_STANDBY 2 255).after ((startMaster_calm _ i.st).mono fun _ => Or.inl)
  have hc := hm.cfg.trans hn.cfg
  rw [startStructure_standby (by rw [startShown_role]; exact h)]
  refine ⟨(enterMode_mode _ 2 255 (by decide)).1, (congrArg CfgState.run hc).trans hr, (congrArg CfgState.loading hc).trans hl,
    fun r ha => ?_, ?_, ?_⟩
  · rw [ringDef_of_cfg hc] at ha
    refine Eq.trans (hm.f (x := KR_STAT_STATE r) ?_) (ringsNode_state ha)
    match r with
    | 0 => decide
    | 1 => decide
  · exact (hm.f (by decide)).trans ((hn.f (by decide)).trans hb)
  · exact (hm.f (by decide)).trans ((hn.f (by decide)).trans (hrole.trans h))

end State

end Sys2Proof.Machine

/-! SUPPORT. O43: the shadow is removed, and another is delivered to the nodes (R57 to R59). -/

namespace Sys2Proof.Machine

namespace State

/-- Nothing but the configuration, the rings and registers differs. -/
def shadowFrame (s t : State) : Prop := t = { s with cfg := t.cfg, rings := t.rings, regs := t.regs }

theorem shadowFrame_trans {s t u : State} (h : s.shadowFrame t) (h' : t.shadowFrame u) : s.shadowFrame u := by
  unfold shadowFrame at *
  exact h'.trans (by rw [h])

theorem shadowFrame_of_rings {s t : State} (h : t = { s with rings := t.rings }) : s.shadowFrame t := by
  have hc : t.cfg = s.cfg := by rw [h]
  have hr : t.regs = s.regs := by rw [h]
  unfold shadowFrame
  rw [hc, hr]
  exact h

theorem shadowFrame_of_regs {s t : State} (h : t = { s with regs := t.regs }) : s.shadowFrame t := by
  have hc : t.cfg = s.cfg := by rw [h]
  have hr : t.rings = s.rings := by rw [h]
  unfold shadowFrame
  rw [hc, hr]
  exact h

variable {P : Nat → Prop}

-- ===== messages to nodes =====

theorem sendSvc_frame (s : State) (r : Fin 2) (ms : List (Nat × Nat × List Byte)) : s.sendSvc r ms = { s with rings := (s.sendSvc r ms).rings } := by
  induction ms generalizing s with
  | nil => rfl
  | cons m ms ih => exact (ih _).trans rfl

theorem sendSvc_calm (s : State) (r : Fin 2) (ms : List (Nat × Nat × List Byte)) : s.calm (s.sendSvc r ms) P :=
  have h := sendSvc_frame s r ms
  calm_of_eq (by rw [h]) (by rw [h]) (by rw [h]) (by rw [h])

-- ===== the shadow is removed (R59) =====

/-- LAYOUT_DROP goes to the nodes of a ring. -/
def dropRing (s : State) (i : Image) (d : RingDef) : State :=
  if h : d.ring < 2 then s.sendSvc ⟨d.ring, h⟩ (d.nodes.map (fun n => (n, 4, natLE 4 i.sid))) else s

/-- The shadow is gone, and its nodes are told. -/
def shadowGone (s : State) (i : Image) : State :=
  i.st.rings.foldl (fun (s : State) d => s.dropRing i d) { s with cfg := { s.cfg with shadow := none } }

/-- CFG shows no shadow. -/
def noShadow (s : State) (ldr : Nat) : State := ((s.setF CFG_STAT_SHADOW_VALID 0).setF CFG_STAT_SHADOW_SLOT 15).setF CFG_STAT_LDR ldr

/-- LDR after the shadow is removed: a wait for the return goes on. -/
def dropLdr (s : State) : Nat := if s.f CFG_STAT_LDR = 6 then 6 else 0

theorem dropShadow_none {s : State} (h : s.cfg.shadow = none) : s.dropShadow = s := by
  unfold dropShadow
  rw [h]

theorem dropShadow_some {s : State} {i : Image} (h : s.cfg.shadow = some i) :
    s.dropShadow = (((s.shadowGone i).noShadow s.dropLdr).wrN CFG_SH_SID 0).wrWords (CFG_SH_HASH 0) (List.replicate 12 0) := by
  unfold dropShadow
  rw [h]
  rfl

theorem dropRing_frame (s : State) (i : Image) (d : RingDef) : s.shadowFrame (s.dropRing i d) := by
  unfold dropRing
  split
  · exact shadowFrame_of_rings (sendSvc_frame _ _ _)
  · rfl

theorem dropRing_calm (s : State) (i : Image) (d : RingDef) : s.calm (s.dropRing i d) P := by
  unfold dropRing
  split
  · exact sendSvc_calm _ _ _
  · exact calm_refl s

theorem shadowGone_calm (s : State) (i : Image) : ({ s with cfg := { s.cfg with shadow := none } } : State).calm (s.shadowGone i) P :=
  calm_foldl _ _ fun d _ u => dropRing_calm u i d

theorem shadowGone_frame (s : State) (i : Image) : s.shadowFrame (s.shadowGone i) :=
  shadowFrame_trans (t := { s with cfg := { s.cfg with shadow := none } }) rfl
    (foldl_rel (R := shadowFrame) (fun _ => rfl) shadowFrame_trans _ _ fun d _ u => dropRing_frame u i d)

theorem shadowGone_keeps (s : State) (i : Image) : s.keeps (s.shadowGone i) [] := fun _ _ => (shadowGone_calm (P := fun _ => False) s i).rd id

theorem noShadow_keeps (s : State) (ldr : Nat) : s.keeps (s.noShadow ldr) [CFG_STAT] :=
  keeps_setF (x := CFG_STAT_LDR) _ (keeps_setF (x := CFG_STAT_SHADOW_SLOT) _ (keeps_setF (x := CFG_STAT_SHADOW_VALID) _ (keeps_refl s _)
    (.head _)) (.head _)) (.head _)

theorem noShadow_stat (s : State) {ldr : Nat} (h : ldr < 8) : (s.noShadow ldr).f CFG_STAT_SHADOW_VALID = 0 ∧
    (s.noShadow ldr).f CFG_STAT_SHADOW_SLOT = 15 ∧ (s.noShadow ldr).f CFG_STAT_LDR = ldr := by
  unfold noShadow
  refine ⟨?_, ?_, (f_setF_same _ CFG_STAT_LDR ldr (by decide)).trans (Nat.mod_eq_of_lt h)⟩
  · rw [f_setF_disj (x := CFG_STAT_LDR) (y := CFG_STAT_SHADOW_VALID) _ _ rfl (by decide),
      f_setF_disj (x := CFG_STAT_SHADOW_SLOT) (y := CFG_STAT_SHADOW_VALID) _ _ rfl (by decide), f_setF_zero _ CFG_STAT_SHADOW_VALID (by decide)]
  · rw [f_setF_disj (x := CFG_STAT_LDR) (y := CFG_STAT_SHADOW_SLOT) _ _ rfl (by decide), f_setF_same _ CFG_STAT_SHADOW_SLOT 15 (by decide)]
    rfl

theorem dropLdr_lt (s : State) : s.dropLdr < 8 := ite_lt (by decide) (by decide)

/-- The removal of the shadow: the configuration holds none, and only what shows it differs. -/
theorem dropShadow_spec (s : State) : s.dropShadow.cfg = { s.cfg with shadow := none } ∧ s.keeps s.dropShadow shadowRegs ∧
    s.shadowFrame s.dropShadow ∧ (s.cfg.shadow ≠ none → s.dropShadow.f CFG_STAT_SHADOW_VALID = 0 ∧ s.dropShadow.f CFG_STAT_SHADOW_SLOT = 15 ∧
      s.dropShadow.f CFG_STAT_LDR = s.dropLdr) := by
  cases h : s.cfg.shadow with
  | none =>
    rw [dropShadow_none h]
    exact ⟨by rw [← h], keeps_refl s _, rfl, fun hn => absurd rfl hn⟩
  | some i =>
    obtain ⟨h1, h2, h3⟩ := noShadow_stat (s.shadowGone i) s.dropLdr_lt
    have hw := wrHash_keeps (((s.shadowGone i).noShadow s.dropLdr).wrN CFG_SH_SID 0) (ws := List.replicate 12 0) List.length_replicate
    have hf (x : Fld) (hx : x.reg = CFG_STAT) : s.dropShadow.f x = ((s.shadowGone i).noShadow s.dropLdr).f x := by
      rw [dropShadow_some h, f_keeps hw (by rw [hx]; decide), f_wrN_ne _ _ (by rw [hx]; decide)]
    refine ⟨?_, ?_, ?_, fun _ => ⟨(hf _ rfl).trans h1, (hf _ rfl).trans h2, (hf _ rfl).trans h3⟩⟩
    · rw [dropShadow_some h, wrWords_cfg]
      exact (shadowGone_calm (P := fun _ => False) s i).cfg
    · rw [dropShadow_some h]
      refine keeps_trans (keeps_wrN _ ?_ (by decide)) (keeps_mono hw fun x hx => List.mem_append_right _ hx)
      exact keeps_trans (keeps_mono (shadowGone_keeps s i) (by simp)) (keeps_mono (noShadow_keeps _ _) (by simp [shadowRegs]))
    · rw [dropShadow_some h]
      exact shadowFrame_trans (shadowGone_frame s i) (shadowFrame_trans (t := ((s.shadowGone i).noShadow s.dropLdr).wrN CFG_SH_SID 0)
        (shadowFrame_of_regs rfl) (shadowFrame_of_regs (wrWords_frame _ _ _)))

-- ===== a load begins (R56, R57) =====

/-- CFG shows a load that has begun. -/
def loadBegun (s : State) : State := (((s.cfgErr 0).setF CFG_STAT_LDR 1).setF CFG_STAT_BUSY 1).setF CFG_STAT_DONE 0

theorem loadBegun_keeps (s : State) : s.keeps s.loadBegun [CFG_STAT, CFG_ERR] :=
  keeps_setF (x := CFG_STAT_DONE) _ (keeps_setF (x := CFG_STAT_BUSY) _ (keeps_setF (x := CFG_STAT_LDR) _
    (keeps_wrN _ (keeps_refl s _) (by decide)) (.head _)) (.head _)) (.head _)

theorem loadBegun_stat (s : State) : s.loadBegun.f CFG_STAT_LDR = 1 ∧ s.loadBegun.f CFG_STAT_BUSY = 1 ∧ s.loadBegun.f CFG_STAT_DONE = 0 ∧
    s.loadBegun.rdN CFG_ERR = 0 := by
  unfold loadBegun
  refine ⟨?_, ?_, f_setF_zero _ CFG_STAT_DONE (by decide), ?_⟩
  · rw [f_setF_disj (x := CFG_STAT_DONE) (y := CFG_STAT_LDR) _ _ rfl (by decide),
      f_setF_disj (x := CFG_STAT_BUSY) (y := CFG_STAT_LDR) _ _ rfl (by decide), f_setF_same _ CFG_STAT_LDR 1 (by decide)]
    rfl
  · rw [f_setF_disj (x := CFG_STAT_DONE) (y := CFG_STAT_BUSY) _ _ rfl (by decide), f_setF_one _ CFG_STAT_BUSY (by decide) rfl]
  · rw [rdN_setF_ne _ _ (by decide), rdN_setF_ne _ _ (by decide), rdN_setF_ne _ _ (by decide)]
    exact rdN_wrN_same _ CFG_ERR _

-- ===== pending layouts (R57, R58) =====

/-- Whether a node holds its layout is unknown again. -/
theorem ack_zero_stays {s : State} {r n : Nat} (h : s.f (KR_NODE_PEND_ACK r n) = 0) (r' n' : Nat) :
    (s.setF (KR_NODE_PEND_ACK r' n') 0).f (KR_NODE_PEND_ACK r n) = 0 := by
  by_cases he : KR_NODE r n = KR_NODE r' n'
  · have : KR_NODE_PEND_ACK r n = KR_NODE_PEND_ACK r' n' := congrArg (fun a => (⟨a, 5, 1⟩ : Fld)) he
    rw [this]
    exact f_setF_zero s (KR_NODE_PEND_ACK r' n') (show 5 + 1 ≤ 32 by decide)
  · exact (f_setF_ne (x := KR_NODE_PEND_ACK r' n') (y := KR_NODE_PEND_ACK r n) s 0 he).trans h

/-- A node that has not confirmed has not after the steps of a list that let none confirm. -/
theorem ack_zero_foldl {α : Type} {r n : Nat} {g : State → α → State} (l : List α) {s : State}
    (hg : ∀ a ∈ l, ∀ u : State, u.f (KR_NODE_PEND_ACK r n) = 0 → (g u a).f (KR_NODE_PEND_ACK r n) = 0) (h : s.f (KR_NODE_PEND_ACK r n) = 0) :
    (l.foldl g s).f (KR_NODE_PEND_ACK r n) = 0 :=
  foldl_rel (R := fun s t => s.f (KR_NODE_PEND_ACK r n) = 0 → t.f (KR_NODE_PEND_ACK r n) = 0) (fun _ => id) (fun h h' => h' ∘ h) l s hg h

/-- No node of a ring has confirmed. -/
def zeroAcks (s : State) (d : RingDef) : State := d.nodes.foldl (fun (s : State) n => s.setF (KR_NODE_PEND_ACK d.ring n) 0) s

/-- The nodes of a ring get their pending layout. -/
def tellRing (s : State) (i : Image) (d : RingDef) : State :=
  if h : d.ring < 2 then (s.zeroAcks d).sendLayouts ⟨d.ring, h⟩ d i.sid (imgF i.st (KR_CFG_MODE d.ring) == 1) else s

/-- The loader waits for the nodes of an image from this cycle on. -/
def delivering (s : State) (i : Image) : State :=
  { s with cfg := { s.cfg with nodesFor := some i, nodesFrom := s.time.mono } }.setF CFG_STAT_LDR 3

def tellRings (s : State) (i : Image) : State := i.st.rings.foldl (fun (s : State) d => s.tellRing i d) s

theorem deliver_eq (s : State) (i : Image) : s.deliver i =
    if ((s.delivering i).tellRings i).nodesAcked i then ((s.delivering i).tellRings i).holdShadow i else (s.delivering i).tellRings i := rfl

theorem zeroAcks_calm (s : State) (d : RingDef) : s.calm (s.zeroAcks d) (fun a => ∃ n ∈ d.nodes, a = KR_NODE d.ring n) :=
  calm_foldl _ s fun n hn u => calm_setF (x := KR_NODE_PEND_ACK d.ring n) 0 (calm_refl u) ⟨n, hn, rfl⟩

theorem tellRing_calm (s : State) (i : Image) (d : RingDef) : s.calm (s.tellRing i d) (fun a => ∃ n ∈ d.nodes, a = KR_NODE d.ring n) := by
  unfold tellRing
  split
  · exact calm_trans (zeroAcks_calm s d) (sendSvc_calm _ _ _)
  · exact calm_refl s

theorem tellRing_frame (s : State) (i : Image) (d : RingDef) : s.shadowFrame (s.tellRing i d) := by
  unfold tellRing
  split
  · refine shadowFrame_trans ?_ (shadowFrame_of_rings (sendSvc_frame _ _ _))
    exact foldl_rel (R := shadowFrame) (fun _ => rfl) shadowFrame_trans _ s fun n _ u => shadowFrame_of_regs rfl
  · rfl

theorem tellRings_calm (s : State) (i : Image) :
    s.calm (s.tellRings i) (fun a => a ∈ i.st.rings.flatMap (fun (d : RingDef) => d.nodes.map (KR_NODE d.ring))) :=
  calm_foldl _ s fun d hd u => (tellRing_calm u i d).mono fun _ ⟨n, hn, ha⟩ =>
    List.mem_flatMap.mpr ⟨d, hd, List.mem_map.mpr ⟨n, hn, ha.symm⟩⟩

theorem tellRings_frame (s : State) (i : Image) : s.shadowFrame (s.tellRings i) :=
  foldl_rel (R := shadowFrame) (fun _ => rfl) shadowFrame_trans _ s fun d _ u => tellRing_frame u i d

/-- A ring without nodes is told nothing. -/
theorem tellRings_nodeless (s : State) {i : Image} (h : ∀ d ∈ i.st.rings, d.nodes = []) : s.tellRings i = s := by
  refine foldl_rel (R := fun s t => t = s) (fun _ => rfl) (fun h h' => h'.trans h) _ s fun d hd _ => ?_
  unfold tellRing zeroAcks sendLayouts
  rw [h d hd]
  split <;> rfl

theorem zeroAcks_stays {s : State} (d : RingDef) {r n : Nat} (h : s.f (KR_NODE_PEND_ACK r n) = 0) : (s.zeroAcks d).f (KR_NODE_PEND_ACK r n) = 0 :=
  ack_zero_foldl d.nodes (fun m _ _ hu => ack_zero_stays hu d.ring m) h

theorem zeroAcks_zero (s : State) (r : Nat) {l : List Nat} {n : Nat} (h : n ∈ l) :
    (l.foldl (fun (s : State) n => s.setF (KR_NODE_PEND_ACK r n) 0) s).f (KR_NODE_PEND_ACK r n) = 0 := by
  induction l generalizing s with
  | nil => cases h
  | cons m l ih =>
    rcases List.mem_cons.mp h with rfl | h
    · exact ack_zero_foldl l (fun m _ _ hu => ack_zero_stays hu r m) (f_setF_zero s (KR_NODE_PEND_ACK r n) (show 5 + 1 ≤ 32 by decide))
    · exact ih _ h

theorem tellRing_f (s : State) (i : Image) {d : RingDef} (h : d.ring < 2) (x : Fld) : (s.tellRing i d).f x = (s.zeroAcks d).f x := by
  unfold tellRing
  rw [dif_pos h]
  exact (sendSvc_calm (P := fun _ => False) _ _ _).f id

/-- No node of the told rings has confirmed. -/
theorem tellRings_zero (s : State) (i : Image) {l : List RingDef} (h : ∀ d ∈ l, d.ring < 2) {d : RingDef} (hd : d ∈ l) {n : Nat} (hn : n ∈ d.nodes) :
    (l.foldl (fun (s : State) d => s.tellRing i d) s).f (KR_NODE_PEND_ACK d.ring n) = 0 := by
  induction l generalizing s with
  | nil => cases hd
  | cons e l ih =>
    rcases List.mem_cons.mp hd with rfl | hd
    · refine ack_zero_foldl l (fun c hc u hu => ?_) ?_
      · rw [tellRing_f u i (h c (List.mem_cons_of_mem _ hc))]
        exact zeroAcks_stays c hu
      · rw [tellRing_f s i (h d List.mem_cons_self)]
        exact zeroAcks_zero s d.ring hn
    · exact ih _ (fun c hc => h c (List.mem_cons_of_mem _ hc)) hd

theorem nodesAcked_nodeless (s : State) {i : Image} (h : ∀ d ∈ i.st.rings, d.nodes = []) : s.nodesAcked i = true := by
  refine List.all_eq_true.mpr fun d hd => ?_
  rw [h d hd]
  rfl

theorem nodesAcked_false {s : State} {i : Image} {d : RingDef} (hd : d ∈ i.st.rings) {n : Nat} (hn : n ∈ d.nodes)
    (h : s.f (KR_NODE_PEND_ACK d.ring n) = 0) : s.nodesAcked i = false := by
  refine Bool.eq_false_iff.mpr fun ht => ?_
  have := List.all_eq_true.mp (List.all_eq_true.mp ht d hd) n hn
  exact absurd ((flag_of_f_zero h).symm.trans this) (by decide)

theorem delivering_keeps (s : State) (i : Image) : s.keeps (s.delivering i) [CFG_STAT] :=
  keeps_setF (x := CFG_STAT_LDR) 3 (keeps_of_regs (t := { s with cfg := { s.cfg with nodesFor := some i, nodesFrom := s.time.mono } }) rfl _) (.head _)

/-- Without nodes an image is the shadow at once (R57). -/
theorem deliver_nodeless (s : State) {i : Image} (h : ∀ d ∈ i.st.rings, d.nodes = []) : s.deliver i = (s.delivering i).holdShadow i := by
  rw [deliver_eq, tellRings_nodeless _ h, if_pos (nodesAcked_nodeless _ h)]

/-- With nodes the loader waits (R58). -/
theorem deliver_waits (s : State) {i : Image} (h : ∀ d ∈ i.st.rings, d.ring < 2) (hn : ∃ d ∈ i.st.rings, d.nodes ≠ []) :
    s.deliver i = (s.delivering i).tellRings i := by
  obtain ⟨d, hd, hne⟩ := hn
  obtain ⟨n, hn⟩ := List.exists_mem_of_ne_nil _ hne
  rw [deliver_eq, if_neg (Bool.eq_false_iff.mp (nodesAcked_false hd hn (s := (s.delivering i).tellRings i) (tellRings_zero _ i h hd hn)))]

end State

end Sys2Proof.Machine

/-! SUPPORT and O43: the loader's commands and events (R54 to R59). -/

namespace Sys2Proof.Machine

namespace State

theorem imageOf_hash_length (s : State) (slot : Nat) (st : Structure) : (s.imageOf slot st).hash.length = 12 := by
  show (hashWords (s.shash slot)).length = 12
  unfold hashWords
  rw [List.length_map, List.length_range]

/-- A command of the configuration is refused with a code. -/
def refusedWith (s : State) (c : Instr) (code : Nat) : Prop :=
  ∃ t, exec c s = .next t ∧ t.rdN CFG_ERR = code ∧ s.keeps t [CFG_ERR] ∧ t = { s with regs := t.regs }

theorem refusedWith_of {s : State} {c : Instr} {code : Nat} (h : exec c s = .next (s.cfgErr code)) (hc : code < 4294967296) :
    s.refusedWith c code := ⟨_, h, s.cfgErr_spec hc⟩

-- ===== CFG_LOAD (R56, R90, R95) =====

theorem execCfgLoad_closed {s : State} (h : s.mapOpen = false) : exec .cfgLoad s = .next s := by
  show execCfgLoad s = _
  unfold execCfgLoad
  rw [h]
  rfl

theorem execCfgLoad_refused {s : State} (ho : s.mapOpen = true) (h : s.mode ≠ mBARE ∨ s.startRole = 2 ∨ s.lcLoads = false) :
    exec .cfgLoad s = .next (s.cfgErr 0x10) := by
  show execCfgLoad s = _
  unfold execCfgLoad
  rw [ho, if_neg (by decide), if_pos (by simpa using h)]

/-- The slot that is loaded, for BARE. -/
def bareLoading (s : State) : State :=
  { s.loadBegun with cfg := { s.cfg with loading := some (s.f CFG_SLOT_LOAD_SLOT), isShadow := false }, sys := { s.sys with autostart := false } }

theorem execCfgLoad_taken {s : State} (ho : s.mapOpen = true) (hm : s.mode = mBARE) (hr : s.startRole ≠ 2) (hl : s.lcLoads = true) :
    exec .cfgLoad s = .next (s.bareLoading.enterMode mLOAD 2) := by
  show execCfgLoad s = _
  unfold execCfgLoad
  rw [ho, if_neg (by decide), if_neg (by simp [hm, hr, hl])]
  rfl

theorem bareLoading_spec {s : State} (hm : s.mode = mBARE) : (s.bareLoading.enterMode mLOAD 2).mode = mLOAD ∧
    (s.bareLoading.enterMode mLOAD 2).f SYS_MODE_PREV = mBARE ∧
    (s.bareLoading.enterMode mLOAD 2).cfg = { s.cfg with loading := some (s.f CFG_SLOT_LOAD_SLOT), isShadow := false } ∧
    (s.bareLoading.enterMode mLOAD 2).sys.autostart = false ∧ (s.bareLoading.enterMode mLOAD 2).f CFG_STAT_LDR = 1 ∧
    (s.bareLoading.enterMode mLOAD 2).f CFG_STAT_BUSY = 1 ∧ (s.bareLoading.enterMode mLOAD 2).f CFG_STAT_DONE = 0 ∧
    (s.bareLoading.enterMode mLOAD 2).rdN CFG_ERR = 0 := by
  obtain ⟨h1, h2, h3, h4⟩ := s.loadBegun_stat
  obtain ⟨hmode, hprev⟩ := s.bareLoading.enterMode_mode 2 255 (m := mLOAD) (by decide)
  have hb : s.bareLoading.mode = s.mode := f_keeps s.loadBegun_keeps (x := SYS_MODE_MODE) (by decide)
  have he := s.bareLoading.enterMode_calm mLOAD 2 255
  refine ⟨hmode, hprev.trans (hb.trans hm), he.cfg, by rw [he.sys]; rfl, (he.f (by decide)).trans h1, (he.f (by decide)).trans h2,
    (he.f (by decide)).trans h3, ?_⟩
  exact (congrArg BitVec.toNat (he.rd (r := CFG_ERR) (by decide))).trans h4

-- ===== the end of a load for BARE (R54 to R56) =====

theorem execLoadComplete_idle {s : State} (v : LoadVerdict) (h : s.cfg.loading = none ∨ s.mode ≠ mLOAD) :
    exec (.loadComplete v) s = .next s := by
  show execLoadComplete v s = _
  unfold execLoadComplete
  split
  · next hl => rw [if_pos (h.resolve_left (by rw [hl]; simp))]
  · rfl

/-- The authentication of a load; an autostart has it behind it (R88). -/
def loadAuth (s : State) (slot : Nat) (v : LoadVerdict) : Nat := if s.sys.autostart then 0 else s.authCheck slot v.rsa v.slh

theorem execLoadComplete_eq {s : State} {slot : Nat} (v : LoadVerdict) (h : s.cfg.loading = some slot) (hm : s.mode = mLOAD) :
    exec (.loadComplete v) s = .next (if s.loadAuth slot v ≠ 0 then s.loadFails (s.loadAuth slot v) 0
      else if (s.bodyCheck slot v).1 ≠ 0 then
        (if (s.bodyCheck slot v).1 = 0xB then s.safetyDiffers slot v else s).loadFails (s.bodyCheck slot v).1 (s.bodyCheck slot v).2
      else s.startStructure (s.imageOf slot v.st)) := by
  show execLoadComplete v s = _
  unfold execLoadComplete
  rw [h]
  dsimp only
  rw [if_neg (fun hn => hn hm)]
  rfl

theorem loadAuth_trusted {s : State} {slot : Nat} {v : LoadVerdict} (h : s.sys.autostart = true ∨ s.authCheck slot v.rsa v.slh = 0) :
    s.loadAuth slot v = 0 := by
  unfold loadAuth
  split
  · rfl
  · next hn => exact h.resolve_left hn

theorem execLoadComplete_starts {s : State} {slot : Nat} {v : LoadVerdict} (h : s.cfg.loading = some slot) (hm : s.mode = mLOAD)
    (ht : s.sys.autostart = true ∨ s.authCheck slot v.rsa v.slh = 0) (hb : s.bodyCheck slot v = (0, 0)) :
    exec (.loadComplete v) s = .next (s.startStructure (s.imageOf slot v.st)) := by
  rw [execLoadComplete_eq v h hm, if_neg (by rw [loadAuth_trusted ht]; decide), if_neg (by rw [hb]; decide)]

theorem execLoadComplete_untrusted {s : State} {slot : Nat} {v : LoadVerdict} (h : s.cfg.loading = some slot) (hm : s.mode = mLOAD)
    (ha : s.sys.autostart = false) (ht : s.authCheck slot v.rsa v.slh ≠ 0) :
    exec (.loadComplete v) s = .next (s.loadFails (s.authCheck slot v.rsa v.slh) 0) := by
  have he : s.loadAuth slot v = s.authCheck slot v.rsa v.slh := if_neg (by rw [ha]; decide)
  rw [execLoadComplete_eq v h hm, he, if_pos ht]

theorem execLoadComplete_bad {s : State} {slot k d : Nat} {v : LoadVerdict} (h : s.cfg.loading = some slot) (hm : s.mode = mLOAD)
    (ht : s.sys.autostart = true ∨ s.authCheck slot v.rsa v.slh = 0) (hb : s.bodyCheck slot v = (k, d)) (hk : k ≠ 0) :
    exec (.loadComplete v) s = .next ((if k = 0xB then s.safetyDiffers slot v else s).loadFails k d) := by
  rw [execLoadComplete_eq v h hm, if_neg (by rw [loadAuth_trusted ht]; decide), hb, if_pos hk]

theorem bodyCheck_code_lt {s : State} {slot k d : Nat} {v : LoadVerdict} (h : s.bodyCheck slot v = (k, d)) : k < 256 := by
  have := s.bodyCheck_lt slot v
  rwa [h] at this

-- ===== CFG_SHADOW (R57, R59) =====

theorem execCfgShadow_closed {s : State} (h : s.mapOpen = false) : exec .cfgShadow s = .next s := by
  show execCfgShadow s = _
  unfold execCfgShadow
  rw [h]
  rfl

theorem execCfgShadow_busy {s : State} (ho : s.mapOpen = true)
    (h : s.cfg.loading.isSome = true ∨ s.cfg.nodesFor.isSome = true ∨ s.mode = mCHANGEOVER) : exec .cfgShadow s = .next (s.cfgErr 0x11) := by
  show execCfgShadow s = _
  unfold execCfgShadow
  rw [ho, if_neg (by decide), if_pos h]

theorem execCfgShadow_mode {s : State} (ho : s.mapOpen = true) (hl : s.cfg.loading = none) (hn : s.cfg.nodesFor = none)
    (hx : s.mode ≠ mCHANGEOVER) (hc : s.mode ≠ mCOMMISSION) (hr : s.mode ≠ mRUN) : exec .cfgShadow s = .next (s.cfgErr 0x10) := by
  show execCfgShadow s = _
  unfold execCfgShadow
  rw [ho, if_neg (by decide), if_neg (by simp [hl, hn, hx]), if_pos (by simp [inMode, hc, hr])]

/-- The slot that is loaded, for a shadow. -/
def shadowLoading (s : State) : State :=
  { s.dropShadow.loadBegun with cfg := { s.dropShadow.cfg with loading := some (s.f CFG_SLOT_SHADOW_SLOT), isShadow := true } }

theorem execCfgShadow_taken {s : State} (ho : s.mapOpen = true) (hm : s.mode = mCOMMISSION ∨ s.mode = mRUN) (hl : s.cfg.loading = none)
    (hn : s.cfg.nodesFor = none) : exec .cfgShadow s = .next s.shadowLoading := by
  have hx : s.mode ≠ mCHANGEOVER := by rcases hm with hm | hm <;> rw [hm] <;> decide
  have hi : s.inMode [mCOMMISSION, mRUN] = true := by simp [inMode, hm]
  show execCfgShadow s = _
  unfold execCfgShadow
  rw [ho, if_neg (by decide), if_neg (by simp [hl, hn, hx]), hi, if_neg (by decide)]
  rfl

theorem shadowLoading_spec (s : State) : s.shadowLoading.cfg =
      { s.cfg with shadow := none, loading := some (s.f CFG_SLOT_SHADOW_SLOT), isShadow := true } ∧
    s.shadowLoading.f CFG_STAT_LDR = 1 ∧ s.shadowLoading.f CFG_STAT_BUSY = 1 ∧ s.shadowLoading.rdN CFG_ERR = 0 ∧
    s.keeps s.shadowLoading shadowRegs ∧ s.shadowFrame s.shadowLoading := by
  obtain ⟨hc, hk, hf, -⟩ := s.dropShadow_spec
  obtain ⟨h1, h2, -, h4⟩ := s.dropShadow.loadBegun_stat
  refine ⟨?_, h1, h2, h4, keeps_trans hk (keeps_mono s.dropShadow.loadBegun_keeps (by simp [shadowRegs])), ?_⟩
  · unfold shadowLoading
    rw [hc]
  · exact shadowFrame_trans hf rfl

-- ===== the end of a shadow load (R57, R58) =====

theorem execShadowLoadComplete_idle {s : State} (v : LoadVerdict) (h : s.cfg.loading = none ∨ s.cfg.isShadow = false) :
    exec (.shadowLoadComplete v) s = .next s := by
  show execShadowLoadComplete v s = _
  unfold execShadowLoadComplete
  split
  · next hl =>
    rw [h.resolve_left (by rw [hl]; simp)]
    rfl
  · rfl

/-- What stands against a shadow by its checks. -/
def shadowCheck (s : State) (slot : Nat) (v : LoadVerdict) : Nat × Nat :=
  if s.authCheck slot v.rsa v.slh ≠ 0 then (s.authCheck slot v.rsa v.slh, 0) else s.bodyCheck slot v

theorem execShadowLoadComplete_eq {s : State} {slot : Nat} (v : LoadVerdict) (h : s.cfg.loading = some slot) (hs : s.cfg.isShadow = true) :
    exec (.shadowLoadComplete v) s = .next (if (s.shadowCheck slot v).1 ≠ 0 then
        (if (s.shadowCheck slot v).1 = 0xB then s.safetyDiffers slot v else s).loadFails (s.shadowCheck slot v).1 (s.shadowCheck slot v).2
      else if 8388608 < s.f WHEEL_PART_COUNT + State.imgF v.st WHEEL_PART_COUNT then s.loadFails 0xE 0
      else if !s.wiringOk v.st then s.loadFails 0xC (s.sectIdx slot 6)
      else { s with cfg := { s.cfg with loading := none } }.deliver (s.imageOf slot v.st)) := by
  show execShadowLoadComplete v s = _
  unfold execShadowLoadComplete
  rw [h]
  dsimp only
  rw [if_neg (by rw [hs]; decide)]
  rfl

theorem shadowCheck_untrusted {s : State} {slot : Nat} {v : LoadVerdict} (h : s.authCheck slot v.rsa v.slh ≠ 0) :
    s.shadowCheck slot v = (s.authCheck slot v.rsa v.slh, 0) := if_pos h

theorem shadowCheck_trusted {s : State} {slot : Nat} {v : LoadVerdict} (h : s.authCheck slot v.rsa v.slh = 0) :
    s.shadowCheck slot v = s.bodyCheck slot v := if_neg (by rw [h]; decide)

/-- A shadow that a check stands against is refused with that check's code. -/
theorem execShadowLoadComplete_bad {s : State} {slot k d : Nat} {v : LoadVerdict} (h : s.cfg.loading = some slot) (hs : s.cfg.isShadow = true)
    (hc : s.shadowCheck slot v = (k, d)) (hk : k ≠ 0) :
    exec (.shadowLoadComplete v) s = .next ((if k = 0xB then s.safetyDiffers slot v else s).loadFails k d) := by
  rw [execShadowLoadComplete_eq v h hs, hc, if_pos hk]

theorem execShadowLoadComplete_full {s : State} {slot : Nat} {v : LoadVerdict} (h : s.cfg.loading = some slot) (hs : s.cfg.isShadow = true)
    (hc : s.shadowCheck slot v = (0, 0)) (hf : ¬ s.f WHEEL_PART_COUNT + State.imgF v.st WHEEL_PART_COUNT ≤ 8388608) :
    exec (.shadowLoadComplete v) s = .next (s.loadFails 0xE 0) := by
  rw [execShadowLoadComplete_eq v h hs, hc, if_neg (by decide), if_pos (Nat.lt_of_not_le hf)]

theorem execShadowLoadComplete_wiring {s : State} {slot : Nat} {v : LoadVerdict} (h : s.cfg.loading = some slot) (hs : s.cfg.isShadow = true)
    (hc : s.shadowCheck slot v = (0, 0)) (hf : s.f WHEEL_PART_COUNT + State.imgF v.st WHEEL_PART_COUNT ≤ 8388608) (hw : s.wiringOk v.st = false) :
    exec (.shadowLoadComplete v) s = .next (s.loadFails 0xC (s.sectIdx slot 6)) := by
  rw [execShadowLoadComplete_eq v h hs, hc, if_neg (by decide), if_neg (Nat.not_lt_of_le hf), if_pos (by rw [hw]; decide)]

/-- The loader has done with the slot. -/
def slotRead (s : State) : State := { s with cfg := { s.cfg with loading := none } }

theorem execShadowLoadComplete_delivers {s : State} {slot : Nat} {v : LoadVerdict} (h : s.cfg.loading = some slot) (hs : s.cfg.isShadow = true)
    (hc : s.shadowCheck slot v = (0, 0)) (hf : s.f WHEEL_PART_COUNT + State.imgF v.st WHEEL_PART_COUNT ≤ 8388608) (hw : s.wiringOk v.st = true) :
    exec (.shadowLoadComplete v) s = .next (s.slotRead.deliver (s.imageOf slot v.st)) := by
  rw [execShadowLoadComplete_eq v h hs, hc, if_neg (by decide), if_neg (Nat.not_lt_of_le hf), if_neg (by rw [hw]; decide)]
  rfl

/-- An image without nodes is held at once. -/
theorem deliver_held (s : State) {i : Image} (hh : i.hash.length = 12) (h : ∀ d ∈ i.st.rings, d.nodes = []) :
    (s.deliver i).cfg = { s.cfg with shadow := some i, nodesFor := none, nodesFrom := s.time.mono, loading := none } ∧
      (s.deliver i).f CFG_STAT_LDR = 4 ∧ (s.deliver i).f CFG_STAT_SHADOW_VALID = 1 ∧ (s.deliver i).f CFG_STAT_BUSY = 0 ∧
      (s.deliver i).f CFG_STAT_DONE = 1 ∧ s.keeps (s.deliver i) shadowRegs ∧ s.cfgFrame (s.deliver i) := by
  obtain ⟨h1, h2, h3, h4⟩ := shadowShown_f
    { s.delivering i with cfg := { (s.delivering i).cfg with shadow := some i, nodesFor := none, loading := none } } i.slot
  have hs := fun (x : Fld) => holdShadow_stat (s.delivering i) hh (x := x)
  rw [deliver_nodeless s h]
  refine ⟨(holdShadow_cfg _ _).trans rfl, (hs _ rfl).trans h1, (hs _ rfl).trans h2, (hs _ rfl).trans h4, (hs _ rfl).trans h3, ?_, ?_⟩
  · exact keeps_trans (keeps_mono (delivering_keeps s i) (by simp [shadowRegs])) (holdShadow_keeps _ hh)
  · exact cfgFrame_trans (t := s.delivering i) rfl (holdShadow_cfgFrame _ i)

theorem node_ne_stat {r n : Nat} (hn : n < 512) : KR_NODE r n ≠ CFG_STAT := by
  unfold KR_NODE krBase CFG_STAT
  omega

/-- An image with nodes waits for them. -/
theorem deliver_waiting (s : State) {i : Image} (h : ∀ d ∈ i.st.rings, d.ring < 2 ∧ ∀ n ∈ d.nodes, n < 512)
    (hn : ∃ d ∈ i.st.rings, d.nodes ≠ []) :
    (s.deliver i).cfg = { s.cfg with nodesFor := some i, nodesFrom := s.time.mono } ∧ (s.deliver i).f CFG_STAT_LDR = 3 ∧
      (∀ d ∈ i.st.rings, ∀ n ∈ d.nodes, (s.deliver i).f (KR_NODE_PEND_ACK d.ring n) = 0) ∧
      s.keeps (s.deliver i) (CFG_STAT :: i.st.rings.flatMap (fun (d : RingDef) => d.nodes.map (KR_NODE d.ring))) ∧
      s.shadowFrame (s.deliver i) := by
  have hc := tellRings_calm (s.delivering i) i
  rw [deliver_waits s (fun d hd => (h d hd).1) hn]
  refine ⟨hc.cfg, ?_, fun d hd n hm => tellRings_zero _ i (fun d hd => (h d hd).1) hd hm, ?_, shadowFrame_trans (t := s.delivering i) rfl (tellRings_frame _ i)⟩
  · refine (hc.f fun hm => ?_).trans ((f_setF_same _ CFG_STAT_LDR 3 (by decide)).trans rfl)
    obtain ⟨d, hd, hm⟩ := List.mem_flatMap.mp hm
    obtain ⟨n, hn, ha⟩ := List.mem_map.mp hm
    exact absurd ha (node_ne_stat ((h d hd).2 n hn))
  · exact fun r hr => (hc.rd fun hm => hr (List.mem_cons_of_mem _ hm)).trans
      (delivering_keeps s i r fun hm => hr (List.mem_singleton.mp hm ▸ List.mem_cons_self))

-- ===== a node that has not confirmed in its time (R57) =====

/-- A failed load with the node that stood against it. -/
def nodeFails (s : State) (r : Fin 2) (n : Nat) : State := ((s.loadFails 0xF 0).setF CFG_ERR_NODE_ADDR n).setF CFG_ERR_NODE_RING r

theorem execNodePending_waits (s : State) (r : Fin 2) (n m : Nat) {i : Image} (hf : (s.runTo m).cfg.nodesFor = some i)
    (h : n < 512 ∧ (!(s.runTo m).flag (KR_NODE_PEND_ACK r n)) = true ∧
      i.st.rings.any (fun (d : RingDef) => d.ring == r.val && d.nodes.contains n) = true) :
    exec (.nodePending r n m) s = .next ((s.runTo m).nodeFails r n) := by
  show execNodePending r n m s = _
  unfold execNodePending
  dsimp only
  rw [hf]
  dsimp only
  rw [if_pos h]
  rfl

theorem execNodePending_idle (s : State) (r : Fin 2) (n m : Nat)
    (h : ∀ i, (s.runTo m).cfg.nodesFor = some i → ¬ (n < 512 ∧ (!(s.runTo m).flag (KR_NODE_PEND_ACK r n)) = true ∧
      i.st.rings.any (fun (d : RingDef) => d.ring == r.val && d.nodes.contains n) = true)) :
    exec (.nodePending r n m) s = .next (s.runTo m) := by
  show execNodePending r n m s = _
  unfold execNodePending
  dsimp only
  split
  · next i hi => rw [if_neg (h i hi)]
  · rfl

/-- What CFG_ERR says beside a code leaves a failure as it is. -/
theorem failedLoad_setF {s t : State} {code : Nat} (h : s.failedLoad t code) {x : Fld} (v : Nat) (hr : x.reg = CFG_ERR)
    (hl : CFG_ERR_CODE.lo + CFG_ERR_CODE.width ≤ x.lo) : s.failedLoad (t.setF x v) code := by
  obtain ⟨hc, hrun, hsh, hload, hnode, hb, hd, hm, hm'⟩ := h
  have hs (y : Fld) (hy : y.reg ≠ CFG_ERR) : (t.setF x v).f y = t.f y := f_setF_ne _ _ (by rw [hr]; exact hy)
  have hmode : (t.setF x v).mode = t.mode := hs _ (by decide)
  refine ⟨(f_setF_disj _ _ hr.symm (.inr hl)).trans hc, hrun, hsh, hload, hnode, (hs _ (by decide)).trans hb, (hs _ (by decide)).trans hd,
    fun h => hmode.trans (hm h), fun h => ⟨hmode.trans (hm' h).1, fun hne => ⟨keeps_setF _ ((hm' h).2 hne).1 (by rw [hr]; decide), ?_⟩⟩⟩
  exact cfgFrame_trans (t := t) ((hm' h).2 hne).2 (cfgFrame_of_regs rfl)

theorem nodeFails_spec (s : State) (r : Fin 2) {n : Nat} (hn : n < 512) : s.failedLoad (s.nodeFails r n) 0xF ∧
    (s.nodeFails r n).f CFG_ERR_NODE_ADDR = n ∧ (s.nodeFails r n).f CFG_ERR_NODE_RING = r.val := by
  obtain ⟨hf, -⟩ := s.loadFails_spec (code := 0xF) (by decide) 0
  refine ⟨failedLoad_setF (failedLoad_setF hf (x := CFG_ERR_NODE_ADDR) n rfl (by decide)) (x := CFG_ERR_NODE_RING) r rfl (by decide), ?_, ?_⟩
  · unfold nodeFails
    rw [f_setF_disj (x := CFG_ERR_NODE_RING) (y := CFG_ERR_NODE_ADDR) _ _ rfl (by decide), f_setF_same _ CFG_ERR_NODE_ADDR n (by decide)]
    exact Nat.mod_eq_of_lt hn
  · exact (f_setF_same _ CFG_ERR_NODE_RING r.val (by decide)).trans (Nat.mod_eq_of_lt r.isLt)

-- ===== CFG_DISCARD (R59) =====

theorem execCfgDiscard_closed {s : State} (h : s.mapOpen = false) : exec .cfgDiscard s = .next s := by
  show execCfgDiscard s = _
  unfold execCfgDiscard
  rw [h]
  rfl

theorem execCfgDiscard_armed {s : State} (ho : s.mapOpen = true) (h : s.swapArmed = true) : exec .cfgDiscard s = .next (s.cfgErr 0x11) := by
  show execCfgDiscard s = _
  unfold execCfgDiscard
  rw [ho, h]
  rfl

theorem execCfgDiscard_drops {s : State} (ho : s.mapOpen = true) (h : s.swapArmed = false) :
    exec .cfgDiscard s = .next (s.dropShadow.cfgErr 0) := by
  show execCfgDiscard s = _
  unfold execCfgDiscard
  rw [ho, h]
  rfl

end State

open State in
/-- Settles O43: each command and each end of a load goes through its own equation; what a failure, a start, a removal and a delivery leave
is said once for each (`loadFails_spec`, `startStructure_commission`, `dropShadow_spec`, `deliver_held`, `deliver_waiting`). -/
theorem loaderRuns : Obligations.LoaderRuns := by
  unfold Obligations.LoaderRuns
  refine ⟨fun s ho => ⟨execCfgLoad_closed ho, execCfgShadow_closed ho, execCfgDiscard_closed ho⟩, ?_, ?_, ?_, ?_, ?_, ?_, ?_, ?_, ?_, ?_, ?_, ?_,
    ?_, ?_, ?_, ?_, ?_, ?_, ?_, ?_, ?_, ?_⟩
  · exact fun s ho hm hr hl => ⟨_, execCfgLoad_taken ho hm hr hl, bareLoading_spec hm⟩
  · exact fun s ho h => refusedWith_of (execCfgLoad_refused ho h) (by decide)
  · exact fun s v h => execLoadComplete_idle v h
  · exact fun s v slot ⟨hl, hm⟩ ht hb hr => ⟨_, execLoadComplete_starts hl hm ht hb, startStructure_commission hr⟩
  · exact fun s v slot ⟨hl, hm⟩ ht hb hr hw => ⟨_, execLoadComplete_starts hl hm ht hb, startStructure_cold hr hw⟩
  · exact fun s v slot ⟨hl, hm⟩ ht hb hr => ⟨_, execLoadComplete_starts hl hm ht hb, startStructure_coldStandby hr⟩
  · exact fun s v slot ⟨hl, hm⟩ ha ht => ⟨_, execLoadComplete_untrusted hl hm ha ht, (s.loadFails_spec (s.authCheck_lt _ _ _) 0).1⟩
  · exact fun s v slot k d ⟨hl, hm⟩ ht hb hk => ⟨_, execLoadComplete_bad hl hm ht hb hk, s.bodyFails_spec slot v d (bodyCheck_code_lt hb)⟩
  · exact fun s ho h => refusedWith_of (execCfgShadow_busy ho h) (by decide)
  · exact fun s ho hl hn hx hc hr => refusedWith_of (execCfgShadow_mode ho hl hn hx hc hr) (by decide)
  · exact fun s ho hm hl hn => ⟨_, execCfgShadow_taken ho hm hl hn, s.shadowLoading_spec⟩
  · exact fun s v h => execShadowLoadComplete_idle v h
  · exact fun s v slot ⟨hl, hs⟩ ht => ⟨_, execShadowLoadComplete_bad hl hs (shadowCheck_untrusted ht) ht,
      (s.bodyFails_spec slot v 0 (s.authCheck_lt _ _ _)).1⟩
  · exact fun s v slot k d ⟨hl, hs⟩ ht hb hk => ⟨_, execShadowLoadComplete_bad hl hs ((shadowCheck_trusted ht).trans hb) hk,
      s.bodyFails_spec slot v d (bodyCheck_code_lt hb)⟩
  · exact fun s v slot ⟨hl, hs⟩ ht hb hf => ⟨_, execShadowLoadComplete_full hl hs ((shadowCheck_trusted ht).trans hb) hf,
      (s.loadFails_spec (by decide) 0).1⟩
  · exact fun s v slot ⟨hl, hs⟩ ht hb hf hw => ⟨_, execShadowLoadComplete_wiring hl hs ((shadowCheck_trusted ht).trans hb) hf hw,
      (s.loadFails_spec (by decide) _).1⟩
  · intro s v slot ⟨hl, hs⟩ ht hb hf hw hn
    obtain ⟨hc, h1, h2, h3, h4, hk, hfr⟩ := s.slotRead.deliver_held (s.imageOf_hash_length slot v.st) fun d hd => (hn d hd).2
    refine ⟨_, execShadowLoadComplete_delivers hl hs ((shadowCheck_trusted ht).trans hb) hf hw, by rw [hc], by rw [hc], by rw [hc], h1, h2, h3,
      h4, by rw [hc, slotRead], keeps_trans (keeps_of_regs (t := s.slotRead) rfl _) hk, ?_⟩
    have hrings : (s.slotRead.deliver (s.imageOf slot v.st)).rings = s.rings := by
      rw [hfr]
      rfl
    rw [hrings]
    exact cfgFrame_trans (t := s.slotRead) rfl hfr
  · intro s v slot ⟨hl, hs⟩ ht hb hf hw hn hne
    obtain ⟨hc, h1, h2, hk, hfr⟩ := s.slotRead.deliver_waiting (i := s.imageOf slot v.st) hn hne
    exact ⟨_, execShadowLoadComplete_delivers hl hs ((shadowCheck_trusted ht).trans hb) hf hw, hc, h1, h2,
      keeps_trans (keeps_of_regs (t := s.slotRead) rfl _) hk, shadowFrame_trans (t := s.slotRead) rfl hfr⟩
  · rintro s u r n m i rfl hf ha hn hk
    exact ⟨_, execNodePending_waits s r n m hf ⟨hn, by rw [hk]; rfl, ha⟩, nodeFails_spec _ r hn⟩
  · rintro s u r n m rfl h
    refine execNodePending_idle s r n m fun i hi ⟨hn, hk, ha⟩ => ?_
    rcases h i hi with h | h | h
    · omega
    · rw [h] at hk
      exact absurd hk (by decide)
    · exact absurd (h.symm.trans ha) (by decide)
  · exact fun s ho h => refusedWith_of (execCfgDiscard_armed ho h) (by decide)
  · intro s ho h
    obtain ⟨hc, hk, hfr, hst⟩ := s.dropShadow_spec
    have he := s.dropShadow.cfgErr_spec (code := 0) (by decide)
    refine ⟨_, execCfgDiscard_drops ho h, hc, he.1, fun hn => ?_, fun hn => ?_, keeps_trans hk (keeps_mono he.2.1 (by simp)),
      shadowFrame_trans hfr (shadowFrame_of_regs he.2.2)⟩
    · obtain ⟨h1, h2, h3⟩ := hst hn
      exact ⟨(f_keeps he.2.1 (by decide)).trans h1, (f_keeps he.2.1 (by decide)).trans h2, (f_keeps he.2.1 (by decide)).trans h3⟩
    · rw [dropShadow_none hn]
      exact (s.cfgErr_spec (code := 0) (by decide)).2.1

end Sys2Proof.Machine

/-! SUPPORT. O44: arming a changeover, and a swap that is abandoned (R60 to R64, R344). -/

namespace Sys2Proof.Machine

namespace State

-- ===== CFG_ARM_CO (R60, R61) =====

theorem execCfgArmCo_closed {s : State} (h : s.mapOpen = false) : exec .cfgArmCo s = .next s := by
  show execCfgArmCo s = _
  unfold execCfgArmCo
  rw [h]
  rfl

theorem execCfgArmCo_mode {s : State} (ho : s.mapOpen = true) (hm : s.mode ≠ mRUN) : exec .cfgArmCo s = .next (s.cfgErr 0x10) := by
  show execCfgArmCo s = _
  unfold execCfgArmCo
  rw [ho, if_neg (by decide), if_pos hm]

theorem execCfgArmCo_degraded {s : State} (ho : s.mapOpen = true) (hm : s.mode = mRUN) (hd : s.coDegraded = true) :
    exec .cfgArmCo s = .next (s.cfgErr 0x13) := by
  show execCfgArmCo s = _
  unfold execCfgArmCo
  rw [ho, if_neg (by decide), if_neg (fun h => h hm), if_pos hd]

theorem execCfgArmCo_noShadow {s : State} (ho : s.mapOpen = true) (hm : s.mode = mRUN) (hd : s.coDegraded = false)
    (h : s.cfg.shadow = none ∨ s.f CFG_STAT_LDR ≠ 4) : exec .cfgArmCo s = .next (s.cfgErr 0x18) := by
  show execCfgArmCo s = _
  unfold execCfgArmCo
  rw [ho, if_neg (by decide), if_neg (fun h => h hm), if_neg (by rw [hd]; decide)]
  split
  · next i hi => rw [if_pos (h.resolve_left (by rw [hi]; simp))]
  · rfl

/-- The swap is armed, with the axes that are carried. -/
def coArmed (s : State) (i : Image) : State :=
  ({ s with cfg := { s.cfg with carried := (List.range 96).filter (State.carriedAxis s.st i.st), tried := none } }.cfgErr 0).setF CFG_STAT_LDR 5

/-- With a shadow held, the switch code and the axes are judged. -/
theorem execCfgArmCo_held {s : State} {i : Image} (ho : s.mapOpen = true) (hm : s.mode = mRUN) (hd : s.coDegraded = false)
    (hi : s.cfg.shadow = some i) (hl : s.f CFG_STAT_LDR = 4) : exec .cfgArmCo s = .next (if !s.shadowHas s.safe.code then s.cfgErr 0xD
      else if !s.coParked s.st i.st then s.cfgErr 0x12 else (s.coArmed i).enterMode mCHANGEOVER 2) := by
  show execCfgArmCo s = _
  unfold execCfgArmCo
  rw [ho, if_neg (by decide), if_neg (fun h => h hm), if_neg (by rw [hd]; decide), hi]
  dsimp only
  rw [if_neg (fun h => h hl)]
  rfl

theorem swapArmed_of_ldr {s : State} (h : s.f CFG_STAT_LDR = 5) : s.swapArmed = true := by
  unfold swapArmed
  rw [h]
  rfl

theorem not_swapArmed_of_ldr {s : State} {v : Nat} (h : s.f CFG_STAT_LDR = v) (hv : v ≠ 5) : s.swapArmed = false := by
  unfold swapArmed
  rw [h]
  exact beq_false_of_ne hv

theorem coArmed_spec {s : State} (i : Image) (hm : s.mode = mRUN) : ((s.coArmed i).enterMode mCHANGEOVER 2).mode = mCHANGEOVER ∧
    ((s.coArmed i).enterMode mCHANGEOVER 2).f SYS_MODE_PREV = mRUN ∧ ((s.coArmed i).enterMode mCHANGEOVER 2).swapArmed = true ∧
    ((s.coArmed i).enterMode mCHANGEOVER 2).rdN CFG_ERR = 0 ∧ ((s.coArmed i).enterMode mCHANGEOVER 2).cfg = (s.coArmed i).cfg := by
  obtain ⟨hmode, hprev⟩ := (s.coArmed i).enterMode_mode 2 255 (m := mCHANGEOVER) (by decide)
  have he := (s.coArmed i).enterMode_calm mCHANGEOVER 2 255
  have hp : (s.coArmed i).mode = s.mode := (f_setF_ne _ _ (by decide)).trans (f_wrN_ne _ _ (by decide))
  refine ⟨hmode, hprev.trans (hp.trans hm), swapArmed_of_ldr ((he.f (by decide)).trans ?_), ?_, he.cfg⟩
  · exact (f_setF_same _ CFG_STAT_LDR 5 (by decide)).trans rfl
  · refine (congrArg BitVec.toNat (he.rd (r := CFG_ERR) (by decide))).trans ?_
    exact (rdN_setF_ne _ _ (by decide)).trans (rdN_wrN_same _ CFG_ERR _)

theorem mem_carried (s : State) (i : Image) (a : Nat) :
    a ∈ (s.coArmed i).cfg.carried ↔ a < 96 ∧ State.carriedAxis s.st i.st a = true := by
  show a ∈ (List.range 96).filter (State.carriedAxis s.st i.st) ↔ _
  rw [List.mem_filter, List.mem_range]

-- ===== an armed swap is abandoned (R63, R64, R344) =====

theorem cfgChanged_calm (s : State) (code : Nat) : s.calm (s.cfgChanged code) blockWord :=
  calm_raise _ (calm_trans (calm_setF (x := SAFE_STAT_CFG_CHANGED) 1 (calm_refl s) (by decide)) (offGroups_calm _ 15 10))

theorem groupsOnly_pend {s t : State} (h : s.groupsOnly t) : t.safe.pend = s.safe.pend := by rw [h.1]

theorem cfgChanged_pend (s : State) (code : Nat) : (s.cfgChanged code).safe.pend = s.safe.pend := by
  unfold cfgChanged
  rw [raise_safe, groupsOnly_pend (offGroups_offStep _ 15 10).groups, setF_safe]

theorem dropPending_calm (s : State) : s.calm s.dropPending blockWord := by
  unfold dropPending
  split
  · exact calm_ite (modSafe_calm s _) (calm_trans (modSafe_calm s _) (cfgChanged_calm _ _))
  · exact calm_refl s

/-- No switch code is pending once a swap has been abandoned. -/
theorem dropPending_pend (s : State) : s.dropPending.safe.pend = none := by
  unfold dropPending
  split
  · split
    · rfl
    · exact (cfgChanged_pend _ _).trans rfl
  · assumption

theorem dropSwap_stat (s : State) {code : Nat} (h : code < 4294967296) : (s.dropSwap code).f CFG_STAT_LDR = 4 ∧
    (s.dropSwap code).f CFG_STAT_ABORTED = 1 ∧ (s.dropSwap code).rdN CFG_ERR = code := by
  unfold dropSwap
  refine ⟨?_, ?_, (rdN_wrN_same _ CFG_ERR code).trans (Nat.mod_eq_of_lt h)⟩
  · rw [f_wrN_ne _ _ (by decide), f_hit_disj (x := CFG_STAT_ABORTED) (y := CFG_STAT_LDR) _ rfl (by decide), f_setF_same _ CFG_STAT_LDR 4 (by decide)]
    rfl
  · rw [f_wrN_ne _ _ (by decide), f_hit_same _ CFG_STAT_ABORTED (by decide) rfl]

theorem dropSwap_keeps (s : State) (code : Nat) : s.keeps (s.dropSwap code) [CFG_STAT, CFG_ERR] :=
  keeps_wrN _ (keeps_hit (x := CFG_STAT_ABORTED) (keeps_setF (x := CFG_STAT_LDR) _ (keeps_refl s _) (.head _)) (.head _)) (by decide)

/-- The mode of a changeover ends with the swap. -/
def backToRun (s : State) (code cause : Nat) : State :=
  if s.mode = mCHANGEOVER then (s.dropSwap code).enterMode mRUN cause else s.dropSwap code

theorem abandonSwap_armed {s : State} (h : s.swapArmed = true) (code cause : Nat) : s.abandonSwap code cause = (s.backToRun code cause).dropPending :=
  if_pos h

theorem backToRun_calm (s : State) (code cause : Nat) : (s.dropSwap code).calm (s.backToRun code cause) modeWord :=
  calm_ite (enterMode_calm _ mRUN cause 255) (calm_refl _)

theorem backToRun_mode (s : State) (code cause : Nat) : (s.mode = mCHANGEOVER → (s.backToRun code cause).mode = mRUN) ∧
    (s.mode ≠ mCHANGEOVER → (s.backToRun code cause).mode = s.mode) := by
  refine ⟨fun h => ?_, fun h => ?_⟩
  · rw [backToRun, if_pos h]
    exact ((s.dropSwap code).enterMode_mode cause 255 (m := mRUN) (by decide)).1
  · rw [backToRun, if_neg h]
    exact f_keeps (s.dropSwap_keeps code) (by decide)

/-- What an abandoned swap leaves (R64). -/
def swapAbandoned (s t : State) (code : Nat) : Prop :=
  (s.mode = mCHANGEOVER → t.mode = mRUN) ∧ (s.mode ≠ mCHANGEOVER → t.mode = s.mode) ∧ t.swapArmed = false ∧
    t.f CFG_STAT_ABORTED = 1 ∧ t.rdN CFG_ERR = code ∧ t.cfg = s.cfg ∧ t.safe.pend = none

theorem abandonSwap_spec {s : State} (h : s.swapArmed = true) {code : Nat} (hc : code < 4294967296) (cause : Nat) :
    s.swapAbandoned (s.abandonSwap code cause) code := by
  obtain ⟨h1, h2, h3⟩ := s.dropSwap_stat hc
  obtain ⟨hm, hm'⟩ := s.backToRun_mode code cause
  have hp := dropPending_calm (s.backToRun code cause)
  have ht : (s.dropSwap code).calm (s.backToRun code cause).dropPending modeWord :=
    calm_trans (s.backToRun_calm code cause) (hp.mono fun _ => Or.inl)
  have hd : (s.backToRun code cause).dropPending.mode = (s.backToRun code cause).mode := hp.f (by decide)
  rw [abandonSwap_armed h]
  refine ⟨fun h => hd.trans (hm h), fun h => hd.trans (hm' h), not_swapArmed_of_ldr ((ht.f (by decide)).trans h1) (by decide),
    (ht.f (by decide)).trans h2, ?_, ht.cfg, dropPending_pend _⟩
  exact (congrArg BitVec.toNat (ht.rd (r := CFG_ERR) (by decide))).trans h3

theorem execCfgCancelCo_closed {s : State} (h : s.mapOpen = false) : exec .cfgCancelCo s = .next s := by
  show execCfgCancelCo s = _
  unfold execCfgCancelCo
  rw [h]
  rfl

theorem execCfgCancelCo_armed {s : State} (ho : s.mapOpen = true) (h : s.swapArmed = true) :
    exec .cfgCancelCo s = .next (s.abandonSwap 0x15 2) := by
  show execCfgCancelCo s = _
  unfold execCfgCancelCo
  rw [ho, if_neg (by decide), if_pos h]

theorem execCfgCancelCo_idle {s : State} (ho : s.mapOpen = true) (h : s.swapArmed = false) :
    exec .cfgCancelCo s = .next (s.cfgErr (Config.unstated 28 s.free % 256)) := by
  show execCfgCancelCo s = _
  unfold execCfgCancelCo
  rw [ho, if_neg (by decide), h, if_neg (by decide)]

theorem execCoTimeout_over {s : State} {k : Nat} (h : s.swapArmed = true) (ht : s.cfg.tried = some k) (hk : s.f CFG_SWAP_LIM_LIMIT ≤ k)
    (hd : s.swapDue = false) : exec .coTimeout s = .next (s.abandonSwap 0x14 2) := by
  show execCoTimeout s = _
  unfold execCoTimeout
  rw [ht]
  dsimp only
  rw [if_pos ⟨h, hk, by rw [hd]; rfl⟩]

theorem execCoTimeout_idle {s : State}
    (h : s.swapArmed = false ∨ s.swapDue = true ∨ ∀ k, s.cfg.tried = some k → k < s.f CFG_SWAP_LIM_LIMIT) : exec .coTimeout s = .next s := by
  show execCoTimeout s = _
  unfold execCoTimeout
  split
  · next k hk =>
    rw [if_neg]
    rintro ⟨ha, hl, hd⟩
    rcases h with h | h | h
    · exact absurd (h.symm.trans ha) (by decide)
    · rw [h] at hd
      exact absurd hd (by decide)
    · exact absurd (h k hk) (Nat.not_lt_of_le hl)
  · rfl

-- ===== eligible cycles (R62) =====

/-- Off a boundary of a millisecond frame, or with the loops stopped, no cycle is eligible. -/
theorem eligibleCycle_off {s : State} (h : s.onGrid Config.msUnits = false ∨ s.loopsRun = false) : s.eligibleCycle = s := by
  have hg : (s.onGrid Config.msUnits && s.loopsRun) = false := by
    rcases h with h | h <;> rw [h]
    · rfl
    · exact Bool.and_false _
  have hn : s.eligibleNow = false := by
    unfold eligibleNow
    rw [hg]
    rfl
  have h0 : (if (s.onGrid Config.msUnits && s.loopsRun) = true then s.countFrame else s) = s := by
    rw [hg]
    rfl
  unfold eligibleCycle
  rw [h0]
  dsimp only
  rw [hn, Bool.false_and, if_neg (by decide)]

end State

end Sys2Proof.Machine

/-! SUPPORT. O44: the parts of a swap that leave the configuration, MRAM and the words of the mode, of CFG_STAT and of the engines (R65, R247, R359). -/

namespace Sys2Proof.Machine

namespace State

variable {P : Nat → Prop}

theorem calm_wrI {s t : State} {a : Nat} (v : Int) (h : s.calm t P) (ha : P a) : s.calm (t.wrI a v) P := calm_wr _ h ha

-- ===== suppressed counts and staging (R30, R488) =====

theorem swapSuppressed_calm (s : State) (n : Structure) : s.calm (s.swapSuppressed n) blockWord :=
  calm_foldl _ s fun _ _ u => calm_ite (recFrame_calm (recEnqueue_frame u _) (recEnqueue_keeps u _)) (calm_refl u)

theorem swapSuppressed_pair (s : State) (n : Structure) : (s.swapSuppressed n).pair = s.pair := by
  refine foldl_rel (R := fun s t => t.pair = s.pair) (fun _ => rfl) (fun h h' => h'.trans h) _ s fun b _ u => ?_
  split
  · rw [recEnqueue_frame u]
  · rfl

/-- The hash of the snapshot that streams has its twelve words at most. -/
def streamShort (s : State) : Prop := ∀ x, s.pair.stream = some x → x.2.2.1.length ≤ 12

theorem linkWord_stageRegs (s : State) : ∀ r ∈ s.stageRegs, linkWord r := by
  intro r hr
  rcases List.mem_append.mp hr with hr | hr
  · exact (by decide : ∀ r ∈ [RED_CNT_SENT, RED_SNAP, RED_SNAP_LEN, SAFE_STAT] ++ (List.range 12).map RED_SNAP_HASH, linkWord r) r hr
  · exact .inl (blockWord_offRegs s r hr)

theorem closeStaging_calm {s : State} (r : Fin 2) (h : s.streamShort) : s.calm (s.closeStaging r) linkWord := by
  have hf := closeStaging_stageFrame s r
  unfold stageFrame at hf
  exact calm_of_keeps (by rw [hf]) (by rw [hf]) (by rw [hf]) (keeps_congr (paysDone_keeps s r h) (closeStaging_regs s r)) s.linkWord_stageRegs

/-- A chunk leaves the snapshot that streams, or ends it. -/
theorem nextChunk_stream {s t : State} {b : List Byte} (h : s.nextChunk = some (b, t)) :
    t.pair.stream = s.pair.stream ∨ t.pair.stream = none := by
  unfold nextChunk at h
  split at h
  · next seq len hash time off n s' hs ht =>
    obtain ⟨-, -, hf⟩ := take_some ht
    simp only [Option.some.injEq, Prod.mk.injEq] at h
    obtain ⟨-, h⟩ := h
    split at h
    · subst h
      exact .inr rfl
    · subst h
      rw [hf]
      exact .inl rfl
  · cases h

theorem ckptPay_stream (x : State × SegPays) (seg : Option RSeg) :
    (ckptPay x seg).1.pair.stream = x.1.pair.stream ∨ (ckptPay x seg).1.pair.stream = none := by
  unfold ckptPay
  split
  · split
    · exact .inl rfl
    · split
      · next b t h => exact nextChunk_stream h
      · exact .inl rfl
  · exact .inl rfl

theorem closeStaging_short {s : State} (r : Fin 2) (h : s.streamShort) : (s.closeStaging r).streamShort := by
  have hp : (s.closeStaging r).pair = (s.paysDone r).1.pair := by rw [closeStaging_eq, pullSvc_frame]
  have hs : (s.soutDone r).1.pair = s.pair := by
    have hf := (soutDone_built s r).frame
    unfold offFrame at hf
    rw [hf]
  intro x hx
  rw [hp] at hx
  rcases ckptPay_stream (s.soutDone r) ((allSegs (s.ringDef r)).find? (fun (g : RSeg) => g.kind == 7)) with hc | hc
  · exact h x (by rw [← hs, ← hc]; exact hx)
  · exact absurd (hc.symm.trans hx) (by simp)

/-- The staging of the rings that run closes, as far as it is open. -/
def swapStaged (s : State) (n : Structure) : State :=
  (List.finRange 2).foldl (fun (s : State) (r : Fin 2) => if s.runsRing r && (s.ring r).closed.isNone then s.closeStaging r else s) (s.swapSuppressed n)

theorem swapStaged_calm {s : State} (n : Structure) (h : s.streamShort) : s.calm (s.swapStaged n) linkWord := by
  have hstep (l : List (Fin 2)) : ∀ u : State, u.streamShort → u.calm (l.foldl (fun (s : State) (r : Fin 2) =>
      if s.runsRing r && (s.ring r).closed.isNone then s.closeStaging r else s) u) linkWord := by
    induction l with
    | nil => exact fun u _ => calm_refl u
    | cons r l ih =>
      intro u hu
      rw [List.foldl_cons]
      split
      · exact (ih _ (closeStaging_short r hu)).after (closeStaging_calm r hu)
      · exact ih u hu
  refine (hstep _ _ ?_).after (swapSuppressed_calm s n).link
  unfold streamShort
  rw [swapSuppressed_pair]
  exact h

-- ===== the rings (R65) =====

theorem swapRings_calm (s : State) (old new : Image) : s.calm (s.swapRings old new) linkWord := by
  refine calm_foldl _ s fun r _ u => ?_
  have hk := fun k hk => linkWord_ring r k hk
  dsimp only
  split
  · exact calm_setF (x := KR_STAT_STATE r) _ (calm_refl u) (hk 0 (by decide))
  · next d hd =>
    have hr : d.ring = r := by simpa using List.find?_some hd
    have hn : u.calm ((u.ringNodes d).setF (KR_RING_JOINED r) 0) linkWord := by
      refine calm_setF (x := KR_RING_JOINED r) 0 (ringNodes_calm u d fun n hn => ?_) (hk _ (by decide))
      rw [hr]
      unfold KR_NODE
      rw [Nat.add_assoc]
      exact hk _ (by omega)
    refine calm_ite (calm_trans hn (enterClaim_calm _ r _)) ((modRing_calm _ r _).after (calm_wrN _ hn ?_))
    exact hk _ (by decide)

-- ===== work and items (R42, R65) =====

theorem withdraw_calm (s : State) (n : Fin 16) (p : QItem → Bool) : s.calm (s.withdraw n p) P := calm_of_eq rfl rfl rfl rfl

theorem cancelItems_calm (s : State) (n : Fin 16) (p : QItem → Bool) : s.calm (s.cancelItems n p) P := calm_of_eq rfl rfl rfl rfl

theorem modQueue_calm (s : State) (n : Fin 16) (g : Queue → Queue) : s.calm (s.modQueue n g) P := calm_of_eq rfl rfl rfl rfl

theorem unqueue_calm (s : State) (w : Work) : s.calm (s.unqueue w) P := by
  unfold unqueue
  dsimp only
  split
  · exact (withdraw_calm _ _ _).after (calm_of_eq rfl rfl rfl rfl)
  · exact calm_of_eq rfl rfl rfl rfl

theorem writeCq_calm (s : State) (c : Completion) : s.calm (s.writeCq c) blockWord :=
  have h := s.writeCq_eq c
  calm_of_keeps ((congrArg State.cfg h).trans rfl) ((congrArg State.sys h).trans rfl) ((congrArg State.nv h).trans rfl) (s.writeCq_keeps c) (by decide)

theorem complete_calm (s : State) (id : Nat) (c : Completion) : s.calm (s.complete id c) blockWord := by
  unfold complete
  split
  · exact calm_refl s
  · dsimp only
    refine calm_ite (calm_bump 1 (calm_of_eq rfl rfl rfl rfl) (by decide)) ((writeCq_calm _ c).after (calm_of_eq rfl rfl rfl rfl))

theorem endWork_calm (s : State) (w : Work) (adm result : Nat) : s.calm (s.endWork w adm result) blockWord :=
  calm_ite (complete_calm s _ _) (calm_refl s)

theorem swapItems_calm (s : State) (o n : Structure) : s.calm (s.swapItems o n) blockWord := by
  unfold swapItems
  dsimp only
  refine (calm_foldl _ _ fun w _ u => (endWork_calm _ w _ _).after (unqueue_calm u w)).after ((modQueue_calm _ 4 _).after ?_)
  refine (calm_foldl _ _ fun q _ u => modQueue_calm u q _).after ?_
  exact (cancelItems_calm _ 1 _).after ((cancelItems_calm _ 0 _).after (cancelItems_calm s 12 _))

-- ===== ports and tiles (R65, R247, R273) =====

theorem refLost_calm (s : State) (a : Fin 96) : s.calm ((s.setF (TILE_FB_STAT_REFERENCED a) 0).modTile a (fun t => { t with setRef := false })) blockWord :=
  (modTile_calm _ a _).after (calm_setF (x := TILE_FB_STAT_REFERENCED a) 0 (calm_refl s) (blockWord_tile a 0x110 (by decide)))

theorem swapPorts_calm (s : State) (o n : Structure) : s.calm (s.swapPorts o n) blockWord := by
  refine calm_foldl _ s fun p _ u => calm_ite (calm_refl u) ?_
  dsimp only
  split
  · exact (refLost_calm _ _).after (initPort_calm u p)
  · exact initPort_calm u p

theorem swapPower_calm (s : State) (o n : Structure) : s.calm (s.swapPower o n) blockWord := by
  refine calm_foldl _ s fun p _ u => calm_ite (calm_refl u) ?_
  have h1 : u.calm ({ u with pps := u.pps.set p {} }.setF (PP_STAT_GATES p) 0) blockWord :=
    calm_setF (x := PP_STAT_GATES p) 0 (calm_of_eq rfl rfl rfl rfl) (blockWord_pp p 0x28 (by decide))
  dsimp only
  refine calm_ite h1 ((startCal_calm _ p).after ?_)
  split
  · next h => exact (refLost_calm _ ⟨_, h⟩).after h1
  · exact h1

theorem swapTiles_calm (s : State) (o n : Structure) : s.calm (s.swapTiles o n) blockWord := by
  refine calm_foldl _ s fun a _ u => calm_ite (calm_refl u) ?_
  dsimp only
  refine calm_setF (x := TILE_PLN_STAT_MODE a) _ ((modCl_calm _ _ _).after ?_) (blockWord_tile a 4 (by decide))
  refine calm_trans (calm_ite (calm_refl u) (calm_wrN _ (calm_wrI _ (calm_refl u) ?_) ?_)) (calm_of_eq rfl rfl rfl rfl)
  · exact blockWord_tile a _ (by decide)
  · exact blockWord_tile a _ (by decide)

theorem swapRegs_calm (s : State) (o n : Structure) (hb : ∀ r, blockWord r → P r) (h : ∀ p ∈ o.regs ++ n.regs, P p.1) :
    s.calm (s.swapRegs o n) P := by
  unfold swapRegs
  dsimp only
  refine ((tidyImage_calm _ n).mono hb).after ((wrAll_calm _ _ fun p hp => ?_).after (wrAll_calm _ _ fun p hp => ?_))
  · exact h p (List.mem_append_right _ (List.mem_filter.mp hp).1)
  · obtain ⟨q, hq, rfl⟩ := List.mem_map.mp hp
    exact h q (List.mem_append_left _ (List.mem_filter.mp (List.mem_filter.mp hq).1).1)

-- ===== pins, field outputs and doors (R65, R359, R518) =====

theorem idlePin_calm (s : State) (n : Nat) : s.calm (s.idlePin n) blockWord := restPin_calm s n _

theorem swapPins_calm (s : State) (o n : Structure) : s.calm (s.swapPins o n) blockWord :=
  calm_foldl _ s fun p _ u => calm_ite (calm_refl u) (idlePin_calm u p)

theorem swapOuts_calm (s : State) (o n : Structure) : s.calm (s.swapOuts o n) blockWord :=
  calm_foldl _ s fun k _ u => calm_ite (calm_refl u)
    (calm_setB (x := ⟨FIO_OUT, k, 1⟩) _ (calm_of_eq rfl rfl rfl rfl) (show blockWord FIO_OUT by decide))

theorem swapDoors_calm (s : State) (o n : Structure) : s.calm (s.swapDoors o n) blockWord :=
  calm_foldl _ s fun d _ u => calm_ite (calm_refl u) (doorStart_calm u d)

end State

end Sys2Proof.Machine

/-! SUPPORT. O44: the swap at T_S (R65, R66, R68, R273, R551). -/

namespace Sys2Proof

theorem Store.get_setAll_ne {w : Nat} {d : BitVec w} (ps : List (Nat × BitVec w)) (m : Store w) {b : Nat} (h : ∀ p ∈ ps, p.1 ≠ b) :
    Store.get d (ps.foldl (fun (m : Store w) (p : Nat × BitVec w) => Store.set d m p.1 p.2) m) b = Store.get d m b := by
  induction ps generalizing m with
  | nil => rfl
  | cons p ps ih =>
    exact (ih _ fun q hq => h q (List.mem_cons_of_mem _ hq)).trans (Store.get_set_ne m p.2 (Ne.symm (h p List.mem_cons_self)))

namespace Machine

namespace State

variable {P : Nat → Prop}

-- ===== engines change their bank (R273) =====

/-- The engine of a cluster changes its bank. -/
def swapBank (s : State) (n : Structure) (c : Fin 12) : State :=
  let b := s.flag (CL_ENG_STAT_BANK c)
  let words := (n.params.filter (fun (p : Nat × Nat × Word) => p.1 == c.val)).foldl
    (fun (m : Store 32) (p : Nat × Nat × Word) => m.set 0 p.2.1 p.2.2) []
  (s.modCl c (fun x => if b then { x with par0 := words } else { x with par1 := words })).setB (CL_ENG_STAT_BANK c) (!b)

theorem swapBanks_eq (s : State) (n : Structure) : s.swapBanks n = (List.finRange 12).foldl (fun (s : State) c => s.swapBank n c) s := rfl

theorem swapBank_calm (s : State) (n : Structure) (c : Fin 12) : s.calm (s.swapBank n c) (fun a => a = CL_ENG_STAT c) :=
  calm_setB (x := CL_ENG_STAT_BANK c) _ (modCl_calm s c _) rfl

theorem swapBanks_calm (s : State) (n : Structure) (h : ∀ c : Fin 12, P (CL_ENG_STAT c)) : s.calm (s.swapBanks n) P :=
  calm_foldl _ s fun c _ u => (swapBank_calm u n c).mono fun _ ha => ha ▸ h c

theorem swapBank_flag (s : State) (n : Structure) (c : Fin 12) : (s.swapBank n c).flag (CL_ENG_STAT_BANK c) = !s.flag (CL_ENG_STAT_BANK c) :=
  flag_setB_same _ (CL_ENG_STAT_BANK c) _ (show 1 + 1 ≤ 32 by decide) rfl

theorem CL_ENG_STAT_inj {c e : Fin 12} (h : CL_ENG_STAT c = CL_ENG_STAT e) : c = e := by
  unfold CL_ENG_STAT clBase at h
  omega

theorem swapBank_other (s : State) (n : Structure) {c e : Fin 12} (h : c ≠ e) :
    (s.swapBank n e).flag (CL_ENG_STAT_BANK c) = s.flag (CL_ENG_STAT_BANK c) :=
  flag_of_rd ((swapBank_calm s n e).rd fun ha => h (CL_ENG_STAT_inj ha))

/-- Each engine changes its bank once. -/
theorem swapBanks_flag (s : State) (n : Structure) (c : Fin 12) : (s.swapBanks n).flag (CL_ENG_STAT_BANK c) = !s.flag (CL_ENG_STAT_BANK c) := by
  have hout (l : List (Fin 12)) (hc : c ∉ l) : ∀ u : State,
      (l.foldl (fun (s : State) c => s.swapBank n c) u).flag (CL_ENG_STAT_BANK c) = u.flag (CL_ENG_STAT_BANK c) := by
    induction l with
    | nil => exact fun u => rfl
    | cons e l ih =>
      rw [List.mem_cons, not_or] at hc
      exact fun u => (ih hc.2 _).trans (swapBank_other u n hc.1)
  have hin (l : List (Fin 12)) (hl : l.Nodup) (hc : c ∈ l) : ∀ u : State,
      (l.foldl (fun (s : State) c => s.swapBank n c) u).flag (CL_ENG_STAT_BANK c) = !u.flag (CL_ENG_STAT_BANK c) := by
    induction l with
    | nil => cases hc
    | cons e l ih =>
      rw [List.nodup_cons] at hl
      intro u
      by_cases he : c = e
      · subst he
        exact (hout l hl.1 _).trans (swapBank_flag u n c)
      · exact (ih hl.2 ((List.mem_cons.mp hc).resolve_left he) _).trans (congrArg _ (swapBank_other u n he))
  rw [swapBanks_eq]
  exact hin _ (List.nodup_finRange 12) (List.mem_finRange c) s

/-- That the engines of the new structure run leaves their banks. -/
theorem runClusters_flag (s : State) (n : Structure) (c : Fin 12) :
    (s.runClusters n).flag (CL_ENG_STAT_BANK c) = s.flag (CL_ENG_STAT_BANK c) := by
  refine foldl_rel (R := fun s t => t.flag (CL_ENG_STAT_BANK c) = s.flag (CL_ENG_STAT_BANK c)) (fun _ => rfl) (fun h h' => h'.trans h) _ s
    fun e _ u => ?_
  rw [flag_eq, flag_eq]
  by_cases h : CL_ENG_STAT c = CL_ENG_STAT e
  · rw [f_setB_disj (x := CL_ENG_STAT_RUNNING e) (y := CL_ENG_STAT_BANK c) u _ h (.inl (Nat.le_refl 1))]
  · rw [f_setB_ne (x := CL_ENG_STAT_RUNNING e) (y := CL_ENG_STAT_BANK c) u _ h]

-- ===== windows that are not used (R551) =====

theorem resetUnused_calm (s : State) (st : Structure) (h : ∀ a, instanceUsed st a = false → P a) : s.calm (s.resetUnused st) P := by
  refine ⟨rfl, rfl, rfl, fun r hr => ?_⟩
  have hu : instanceUsed st r = true := by
    by_contra hn
    exact hr (h r (Bool.eq_false_iff.mpr hn))
  unfold resetUnused rd
  dsimp only
  rw [Store.get_setAll_ne _ _ fun p hp he => ?_, Store.get_filter s.regs (instanceUsed st) r, hu]
  · rfl
  · have := (List.mem_filter.mp hp).2
    rw [he, hu] at this
    exact absurd this (by decide)

-- ===== CFG after the swap (R65) =====

/-- CFG shows the images, but for the words of CFG_STAT. -/
theorem swapShow_calm (s : State) {old new : Image} (ho : ∀ k, k < old.hash.length → P (CFG_SH_HASH 0 + 4 * k))
    (hn : ∀ k, k < new.hash.length → P (CFG_RUN_HASH 0 + 4 * k)) (hc : ∀ a ∈ [CFG_STAT, CFG_RUN_SID, CFG_RUN_SVN 0, CFG_RUN_SVN 1, CFG_SH_SID, CFG_LAST_SWAP], P a) :
    s.calm (s.swapShow old new) P := by
  have h0 := hc CFG_STAT (by simp)
  unfold swapShow showRun
  dsimp only
  refine calm_wrN _ (calm_hit (x := CFG_STAT_SWAPPED) (calm_setF (x := CFG_STAT_LDR) _ ?_ h0) h0) (hc _ (by simp))
  refine (wrWords_calm _ _ _ ho).after (calm_wrN _ (calm_setF (x := CFG_STAT_SHADOW_SLOT) _ ?_ h0) (hc _ (by simp)))
  refine calm_wrN _ (calm_wrN _ ((wrWords_calm _ _ _ hn).after ?_) (hc _ (by simp))) (hc _ (by simp))
  exact calm_wrN _ (calm_setF (x := CFG_STAT_RUN_SLOT) _ (calm_setF (x := CFG_STAT_RUN_VALID) _ (calm_refl s) h0) h0) (hc _ (by simp))

theorem swapShow_stat (s : State) (old new : Image) : (s.swapShow old new).f CFG_STAT_LDR = 6 ∧ (s.swapShow old new).f CFG_STAT_SWAPPED = 1 := by
  unfold swapShow
  dsimp only
  rw [f_wrN_ne _ _ (by decide), f_wrN_ne _ _ (by decide), f_hit_disj (x := CFG_STAT_SWAPPED) (y := CFG_STAT_LDR) _ rfl (by decide),
    f_setF_same _ CFG_STAT_LDR 6 (by decide), f_hit_same _ CFG_STAT_SWAPPED (by decide) rfl]
  exact ⟨rfl, rfl⟩

-- ===== the swap in its steps =====

/-- The images have changed places. -/
def swapTaken (s : State) (old new : Image) : State :=
  let u := (s.swapStaged new.st).swapRings old new
  { u with cfg := { u.cfg with run := some new, shadow := some old, postEnd := some (s.time.mono + s.msCycles 6), notice := true, tried := none } }

/-- Registers, queues, ports and tiles take the new structure. -/
def swapSet (s : State) (o n : Structure) : State :=
  ((((((((s.swapRegs o n).takeBudgets n).takeBuckets n).takeHandlers n).swapItems o n).swapPorts o n).swapPower o n).swapTiles o n)

def swapEngines (s : State) (n : Structure) : State := (s.swapBanks n).runClusters n

/-- The solver, the wheel, pins, outputs and doors take the new structure. -/
def swapRest (s : State) (o n : Structure) : State :=
  let u := (s.startSolver n).zeroCaps
  (((((if carriedMaster o n then u else u.startMaster n).takePartition n).swapPins o n).swapOuts o n).swapDoors o n)

theorem swap_eq (s : State) (old new : Image) : s.swap old new =
    ((((((s.swapTaken old new).swapShow old new).swapSet old.st new.st).swapEngines new.st).swapRest old.st new.st).resetUnused new.st).offerRec 0x20 3
      (hashOctets old.hash ++ hashOctets new.hash ++ natLE 4 (s.rdN CFG_SWAP_CNT)) := rfl

theorem swapSet_calm (s : State) (o n : Structure) (hb : ∀ r, blockWord r → P r) (h : ∀ p ∈ o.regs ++ n.regs, P p.1) :
    s.calm (s.swapSet o n) P := by
  refine (calm_trans ?_ ((swapTiles_calm _ o n).mono hb))
  refine (calm_trans ?_ ((swapPower_calm _ o n).mono hb))
  refine (calm_trans ?_ ((swapPorts_calm _ o n).mono hb))
  refine (calm_trans ?_ ((swapItems_calm _ o n).mono hb))
  refine (calm_trans ?_ ((takeHandlers_calm _ n).mono hb))
  refine (calm_trans ?_ ((takeBuckets_calm _ n).mono hb))
  exact calm_trans (swapRegs_calm s o n hb h) ((takeBudgets_calm _ n).mono hb)

theorem swapRest_calm (s : State) (o n : Structure) (hb : ∀ r, blockWord r → P r) (h : ∀ p ∈ n.probs, P (QS_ARM_RES p.unit p.pos)) :
    s.calm (s.swapRest o n) P := by
  refine (calm_trans ?_ ((swapDoors_calm _ o n).mono hb))
  refine (calm_trans ?_ ((swapOuts_calm _ o n).mono hb))
  refine (calm_trans ?_ ((swapPins_calm _ o n).mono hb))
  refine (calm_trans ?_ ((takePartition_calm _ n).mono hb))
  have hu : s.calm (s.startSolver n).zeroCaps P := calm_trans (startSolver_calm s n h) ((zeroCaps_calm _).mono hb)
  exact calm_ite hu (calm_trans hu ((startMaster_calm _ n).mono hb))

/-- After the swap the configuration is that of its start but for the images, the notice and the wait for the return. -/
theorem swap_cfg (s : State) (old new : Image) : (s.swap old new).cfg = (s.swapTaken old new).cfg := by
  have hshow := (s.swapTaken old new).swapShow_calm (P := fun _ => True) (old := old) (new := new) (fun _ _ => trivial) (fun _ _ => trivial) fun _ _ => trivial
  have hset := ((s.swapTaken old new).swapShow old new).swapSet_calm (P := fun _ => True) old.st new.st (fun _ _ => trivial) fun _ _ => trivial
  rw [swap_eq, (offerRec_calm _ _ _ _).cfg, (resetUnused_calm (P := fun _ => True) _ _ fun _ _ => trivial).cfg,
    (swapRest_calm (P := fun _ => True) _ _ _ (fun _ _ => trivial) fun _ _ => trivial).cfg, swapEngines,
    (runClusters_calm (P := fun _ => True) _ _ fun _ => trivial).cfg, (swapBanks_calm (P := fun _ => True) _ _ fun _ => trivial).cfg, hset.cfg, hshow.cfg]

/-- A word that a swap leaves: of SYS below 0x30, CFG_STAT, or an engine's. -/
abbrev keptWord (a : Nat) : Prop := a = CFG_STAT ∨ a = SYS_MODE ∨ ∃ c : Fin 12, a = CL_ENG_STAT c

theorem not_linkWord_of_keptWord {a : Nat} (h : keptWord a) : ¬ linkWord a := by
  rcases h with rfl | rfl | ⟨c, rfl⟩
  · decide
  · decide
  · unfold CL_ENG_STAT clBase
    omega

theorem not_keptWord_of_blockWord {a : Nat} (h : blockWord a) : ¬ keptWord a := fun hk => not_linkWord_of_keptWord hk (.inl h)

theorem not_keptWord_QS_ARM_RES (u j : Nat) : ¬ keptWord (QS_ARM_RES u j) := by
  rintro (h | h | ⟨c, h⟩)
  · unfold QS_ARM_RES qsArmBase CFG_STAT at h
    omega
  · unfold QS_ARM_RES qsArmBase SYS_MODE at h
    omega
  · unfold QS_ARM_RES qsArmBase CL_ENG_STAT clBase at h
    omega

/-- The mode's word and those of the engines lie outside CFG. -/
theorem beyond_cfg {a : Nat} (h : CFG_STAT ≤ a) : ¬ (a = SYS_MODE ∨ ∃ c : Fin 12, a = CL_ENG_STAT c) := by
  unfold CFG_STAT at h
  rintro (rfl | ⟨c, rfl⟩)
  · exact absurd h (by decide)
  · unfold CL_ENG_STAT clBase at h
    omega

theorem instanceUsed_keptWord {st : Structure} {a : Nat}
    (h : a = CFG_STAT ∨ a = SYS_MODE ∨ ∃ c : Fin 12, a = CL_ENG_STAT c ∧ ∃ x ∈ st.axes, x / 8 = c.val) : instanceUsed st a = true := by
  rcases h with rfl | rfl | ⟨c, rfl, x, hx, hc⟩
  · rfl
  · rfl
  · have h1 : 0x100000 ≤ CL_ENG_STAT c ∧ CL_ENG_STAT c < 0x1C0000 := by
      unfold CL_ENG_STAT clBase
      omega
    have h2 : (CL_ENG_STAT c - 0x100000) / 0x10000 = c := by
      unfold CL_ENG_STAT clBase
      omega
    have h3 : CL_ENG_STAT c % 0x10000 = 0 := by
      unfold CL_ENG_STAT clBase
      omega
    unfold instanceUsed
    rw [if_pos h1, h2, h3]
    simpa using ⟨x, hx, hc⟩

theorem swapTaken_rd {s : State} (h : s.streamShort) (old new : Image) {r : Nat} (hr : keptWord r) : (s.swapTaken old new).rd r = s.rd r :=
  ((swapRings_calm _ old new).rd (not_linkWord_of_keptWord hr)).trans ((swapStaged_calm new.st h).rd (not_linkWord_of_keptWord hr))

theorem swapShow_rd (s : State) (old new : Image) {r : Nat}
    (hr : r = SYS_MODE ∨ ∃ c : Fin 12, r = CL_ENG_STAT c) : (s.swapShow old new).rd r = s.rd r := by
  refine (s.swapShow_calm (P := fun a => ¬ (a = SYS_MODE ∨ ∃ c : Fin 12, a = CL_ENG_STAT c)) (fun k _ => beyond_cfg ?_) (fun k _ => beyond_cfg ?_)
    fun a ha => beyond_cfg ?_).rd (not_not_intro hr)
  · exact (by decide : CFG_STAT ≤ CFG_SH_HASH 0).trans (Nat.le_add_right _ _)
  · exact (by decide : CFG_STAT ≤ CFG_RUN_HASH 0).trans (Nat.le_add_right _ _)
  · exact (by decide : ∀ a ∈ [CFG_STAT, CFG_RUN_SID, CFG_RUN_SVN 0, CFG_RUN_SVN 1, CFG_SH_SID, CFG_LAST_SWAP], CFG_STAT ≤ a) a ha

/-- After the engines' banks no step of a swap writes the kept words of windows in use. -/
theorem swapRest_rd (s : State) (o n : Structure) (bs : List Byte) {r : Nat} (hr : keptWord r) (hu : instanceUsed n r = true) :
    (((s.swapRest o n).resetUnused n).offerRec 0x20 3 bs).rd r = s.rd r := by
  rw [(offerRec_calm _ _ _ _).rd fun h => not_keptWord_of_blockWord h hr,
    (resetUnused_calm (P := fun a => instanceUsed n a = false) _ _ fun _ => id).rd (by rw [hu]; decide),
    (swapRest_calm (P := fun a => ¬ keptWord a) _ _ _ (fun _ => not_keptWord_of_blockWord) fun p _ => not_keptWord_QS_ARM_RES _ _).rd
      (not_not_intro hr)]

theorem swapSet_rd (s : State) {o n : Structure} (h : ∀ p ∈ o.regs ++ n.regs, ¬ keptWord p.1) {r : Nat} (hr : keptWord r) :
    (s.swapSet o n).rd r = s.rd r :=
  (s.swapSet_calm (P := fun a => ¬ keptWord a) o n (fun _ => not_keptWord_of_blockWord) h).rd (not_not_intro hr)

theorem swapEngines_rd (s : State) (n : Structure) {r : Nat} (hr : ∀ c : Fin 12, r ≠ CL_ENG_STAT c) : (s.swapEngines n).rd r = s.rd r :=
  have hn : ¬ ∃ c : Fin 12, r = CL_ENG_STAT c := fun ⟨c, hc⟩ => hr c hc
  ((runClusters_calm (P := fun a => ∃ c : Fin 12, a = CL_ENG_STAT c) _ n fun c => ⟨c, rfl⟩).rd hn).trans
    ((swapBanks_calm (P := fun a => ∃ c : Fin 12, a = CL_ENG_STAT c) s n fun c => ⟨c, rfl⟩).rd hn)

section
variable {s : State} {old new : Image} (hs : s.streamShort)
  (hr : ∀ p ∈ old.st.regs ++ new.st.regs, ¬ keptWord p.1)
include hr

/-- CFG shows the wait for the return after a swap (R65). -/
theorem swap_stat : (s.swap old new).f CFG_STAT_LDR = 6 ∧ (s.swap old new).f CFG_STAT_SWAPPED = 1 := by
  obtain ⟨h1, h2⟩ := (s.swapTaken old new).swapShow_stat old new
  have hf (x : Fld) (hx : x.reg = CFG_STAT) : (s.swap old new).f x = ((s.swapTaken old new).swapShow old new).f x := by
    refine f_of_rd ?_
    rw [swap_eq, hx, swapRest_rd _ _ _ _ (.inl rfl) rfl, swapEngines_rd _ _ fun c h => beyond_cfg (Nat.le_refl _) (.inr ⟨c, h⟩),
      swapSet_rd _ hr (.inl rfl)]
  exact ⟨(hf _ rfl).trans h1, (hf _ rfl).trans h2⟩

include hs

/-- A swap leaves the mode. -/
theorem swap_mode : (s.swap old new).mode = s.mode := by
  refine f_of_rd (x := SYS_MODE_MODE) ?_
  have he : ∀ c : Fin 12, SYS_MODE ≠ CL_ENG_STAT c := by decide
  show (s.swap old new).rd SYS_MODE = s.rd SYS_MODE
  rw [swap_eq, swapRest_rd _ _ _ _ (.inr (.inl rfl)) rfl, swapEngines_rd _ _ he, swapSet_rd _ hr (.inr (.inl rfl)),
    swapShow_rd _ _ _ (.inl rfl), swapTaken_rd hs _ _ (.inr (.inl rfl))]

/-- Every engine in use has changed its bank (R273). -/
theorem swap_bank (c : Fin 12) (hc : ∃ a ∈ new.st.axes, a / 8 = c.val) :
    (s.swap old new).flag (CL_ENG_STAT_BANK c) = !s.flag (CL_ENG_STAT_BANK c) := by
  have hk : keptWord (CL_ENG_STAT_BANK c).reg := .inr (.inr ⟨c, rfl⟩)
  rw [swap_eq, flag_of_rd (swapRest_rd _ _ _ _ hk (instanceUsed_keptWord (.inr (.inr ⟨c, rfl, hc⟩)))), swapEngines, runClusters_flag,
    swapBanks_flag, flag_of_rd (swapSet_rd _ hr hk), flag_of_rd (swapShow_rd _ _ _ (.inr ⟨c, rfl⟩)), flag_of_rd (swapTaken_rd hs _ _ hk)]

end

end State

end Machine

end Sys2Proof

/-! SUPPORT. O44: the swap notice, the return and its time (R66, R67, R344). -/

namespace Sys2Proof.Machine

namespace State

-- ===== the Hardpan takes an image's set (R344) =====

theorem showPaths_spec (s : State) (set : SafSet) : s.showPaths set = { s with regs := (s.showPaths set).regs } ∧
    s.keeps (s.showPaths set) ((List.range 12).map CL_PSO_VPATH) := by
  refine ⟨foldl_rel (R := fun s t => t = { s with regs := t.regs }) (fun _ => rfl) (fun h h' => h'.trans (by rw [h])) _ s fun _ _ _ => rfl, ?_⟩
  refine foldl_rel (R := fun s t => s.keeps t ((List.range 12).map CL_PSO_VPATH)) (fun s => keeps_refl s _) keeps_trans _ s fun c hc u => ?_
  exact keeps_setF (x := CL_PSO_VPATH_V_PATH c) _ (keeps_refl u _) (List.mem_map.mpr ⟨c, hc, rfl⟩)

/-- The registers that show the Hardpan's set. -/
def setRegs : List Nat := [SAFE_CFG_CODE, SAFE_SSM_STAT, SAFE_SSM_SCAN] ++ (List.range 12).map CL_PSO_VPATH

/-- A set has been taken. -/
theorem useSafety_spec (s : State) (i : Image) (k : Nat) : (s.useSafety i k).safe.loaded = true ∧ (s.useSafety i k).safe.sid = i.sid ∧
    (s.useSafety i k).safe.set = k ∧ (s.useSafety i k).safe.safety = i.st.safety ∧ (s.useSafety i k).safe.kine = i.st.kine ∧
    (s.useSafety i k).safe.code = (i.st.safety.sets.getD k { code := 0 }).code ∧ (s.useSafety i k).safe.pend = none ∧
    s.keeps (s.useSafety i k) setRegs ∧ s.useSafety i k = { s with safe := (s.useSafety i k).safe, regs := (s.useSafety i k).regs } := by
  obtain ⟨g, h, h1, h2, h3, h4, h5, h6, h7⟩ : ∃ g : SafeState → SafeState, (∃ n, s.useSafety i k = ((((s.modSafe g).showPaths
      (i.st.safety.sets.getD k { code := 0 })).setF SAFE_CFG_CODE_SET k).setF SAFE_SSM_STAT_SET k).setF SAFE_SSM_SCAN_PRESENT n) ∧
      (g s.safe).loaded = true ∧ (g s.safe).sid = i.sid ∧ (g s.safe).set = k ∧ (g s.safe).safety = i.st.safety ∧ (g s.safe).kine = i.st.kine ∧
      (g s.safe).code = (i.st.safety.sets.getD k { code := 0 }).code ∧ (g s.safe).pend = none :=
    ⟨_, ⟨_, rfl⟩, rfl, rfl, rfl, rfl, rfl, rfl, rfl⟩
  obtain ⟨n, h⟩ := h
  obtain ⟨hf, hk⟩ := (s.modSafe g).showPaths_spec (i.st.safety.sets.getD k { code := 0 })
  have hs : (s.useSafety i k).safe = g s.safe := by
    rw [h, setF_safe, setF_safe, setF_safe, hf]
    rfl
  rw [hs]
  refine ⟨h1, h2, h3, h4, h5, h6, h7, ?_, ?_⟩
  · rw [h]
    refine keeps_setF (x := SAFE_SSM_SCAN_PRESENT) _ (keeps_setF (x := SAFE_SSM_STAT_SET) _ (keeps_setF (x := SAFE_CFG_CODE_SET) _ ?_
      (by decide)) (by decide)) (by decide)
    exact keeps_trans (keeps_of_regs (t := s.modSafe g) rfl _) (keeps_mono hk fun x hx => List.mem_append_right _ hx)
  · rw [← hs]
    have hr : (s.useSafety i k) = { s with safe := g s.safe, regs := (s.useSafety i k).regs } := by
      rw [h, hf]
      rfl
    rw [hs]
    exact hr

/-- A notice for which no code is newly pending takes the set of the pending code, else of the code in use (R344). -/
theorem takeNotice_settled {s : State} {i : Image} {k : Nat} (hp : ∀ c, s.safe.pend = some c → sameSafe s.safe.pendAt s.time.mono = false)
    (hk : i.st.safety.sets.findIdx? (fun (x : SafSet) => x.code == s.safe.pend.getD s.safe.code) = some k) :
    s.takeNotice i = (s.useSafety i k).modSafe (fun x => { x with monOld := some s.monSet }) := by
  have hn : (s.safe.pend.isSome && sameSafe s.safe.pendAt s.time.mono) = false := by
    cases h : s.safe.pend with
    | none => rfl
    | some c => exact hp c h
  unfold takeNotice
  rw [hn]
  dsimp only
  rw [if_neg (by decide), hk]
  dsimp only
  split
  · rw [if_neg (by decide)]
  · rfl

theorem code_of_findIdx {l : List SafSet} {code k : Nat} (h : l.findIdx? (fun (x : SafSet) => x.code == code) = some k) :
    (l.getD k { code := 0 }).code = code := by
  obtain ⟨hk, hc, -⟩ := List.findIdx?_eq_some_iff_getElem.mp h
  rw [List.getD_eq_getElem _ _ hk]
  exact eq_of_beq hc

theorem modSafe_setFrame {s u : State} (h : u = { s with safe := u.safe, regs := u.regs }) (g : SafeState → SafeState) :
    u.modSafe g = { s with safe := (u.modSafe g).safe, regs := (u.modSafe g).regs } := by
  rw [h]
  rfl

/-- What such a notice leaves. -/
theorem takeNotice_spec {s : State} {i : Image} {k : Nat} (hp : ∀ c, s.safe.pend = some c → sameSafe s.safe.pendAt s.time.mono = false)
    (hk : i.st.safety.sets.findIdx? (fun (x : SafSet) => x.code == s.safe.pend.getD s.safe.code) = some k) :
    (s.takeNotice i).safe.loaded = true ∧ (s.takeNotice i).safe.sid = i.sid ∧ (s.takeNotice i).safe.set = k ∧
      (s.takeNotice i).safe.safety = i.st.safety ∧ (s.takeNotice i).safe.kine = i.st.kine ∧
      (s.takeNotice i).safe.code = s.safe.pend.getD s.safe.code ∧ (s.takeNotice i).safe.pend = none ∧
      (s.takeNotice i).safe.monOld = some s.monSet ∧ s.keeps (s.takeNotice i) setRegs ∧
      s.takeNotice i = { s with safe := (s.takeNotice i).safe, regs := (s.takeNotice i).regs } := by
  obtain ⟨h1, h2, h3, h4, h5, h6, h7, h8, h9⟩ := useSafety_spec s i k
  rw [code_of_findIdx hk] at h6
  rw [takeNotice_settled hp hk]
  have hf := modSafe_setFrame h9 (fun x => { x with monOld := some s.monSet })
  have hk' : s.keeps ((s.useSafety i k).modSafe (fun x => { x with monOld := some s.monSet })) setRegs := keeps_congr h8 rfl
  rw [modSafe_safe] at hf ⊢
  exact ⟨h1, h2, h3, h4, h5, h6, h7, rfl, hk', hf⟩

/-- The notice has been taken up. -/
def noticed (s : State) : State := { s with cfg := { s.cfg with notice := false } }

theorem execSwapNotice_taken {s : State} {i : Image} (hi : s.cfg.run = some i) (hn : s.cfg.notice = true) :
    exec .swapNotice s = .next (s.noticed.takeNotice i) := by
  show execSwapNotice s = _
  unfold execSwapNotice
  rw [hi]
  dsimp only
  rw [if_pos hn]
  rfl

theorem execSwapNotice_idle {s : State} (h : s.cfg.run = none ∨ s.cfg.notice = false) : exec .swapNotice s = .next s := by
  show execSwapNotice s = _
  unfold execSwapNotice
  split
  · next i hi =>
    rw [h.resolve_left (by rw [hi]; simp), if_neg (by decide)]
  · rfl

/-- A notice of the configuration alone. -/
theorem takeNotice_cfg (s : State) (i : Image) : (s.takeNotice i).cfg = s.cfg := by
  have hj (u : State) (c : Nat) : (u.judgeCode c).cfg = u.cfg := by
    unfold judgeCode
    split
    · rfl
    · split
      · rfl
      · exact (cfgChanged_calm u c).cfg
  unfold takeNotice
  dsimp only
  split
  · rfl
  · next k _ =>
    have hu : ((s.useSafety i k).modSafe (fun x => { x with monOld := some s.monSet })).cfg = s.cfg := by
      rw [modSafe_cfg, (useSafety_calm s i k).cfg]
    split
    · split
      · exact (hj _ _).trans hu
      · exact hu
    · exact hu

-- ===== the instant of a swap =====

theorem execSwapInstant_due {s : State} {old new : Image} (ho : s.eligibleCycle.cfg.run = some old) (hn : s.eligibleCycle.cfg.shadow = some new)
    (hd : s.eligibleCycle.swapDue = true) : exec .swapInstant s = .next (s.eligibleCycle.swap old new) := by
  show execSwapInstant s = _
  unfold execSwapInstant swapFirst
  dsimp only
  rw [ho, hn]
  dsimp only
  rw [if_pos hd]

theorem execSwapInstant_idle {s : State} (h : s.eligibleCycle.cfg.run = none ∨ s.eligibleCycle.cfg.shadow = none ∨ s.eligibleCycle.swapDue = false) :
    exec .swapInstant s = .next s.eligibleCycle := by
  show execSwapInstant s = _
  unfold execSwapInstant swapFirst
  dsimp only
  split
  · next old new ho hn =>
    rw [(h.resolve_left (by rw [ho]; simp)).resolve_left (by rw [hn]; simp), if_neg (by decide)]
  · rfl

-- ===== groups after a change of mode (R333) =====

theorem putWork_safe (s : State) (w : Work) : (s.putWork 4 w).1.safe = s.safe := by
  have ho (i : QItem) : (s.offerOr 4 i).1.safe = s.safe := by rw [(offerOr_frame s 4 i).2.2]
  have hj (u : State) : (u.join w).safe = u.safe := by
    unfold join placeWork leaveGroup
    dsimp only
    split <;> rfl
  unfold putWork
  split
  · rfl
  · dsimp only
    split
    · exact (hj _).trans (ho _)
    · exact ho _

theorem safe_ite {s u v : State} {p : Prop} [Decidable p] (hu : u.safe = s.safe) (hv : v.safe = s.safe) : (if p then u else v).safe = s.safe := by
  split
  · exact hu
  · exact hv

theorem release_safe (s : State) (x : WDesc) (late : Bool) : (s.release x late).safe = s.safe := by
  unfold release
  dsimp only
  refine safe_ite rfl (safe_ite (putWork_safe s _) (safe_ite (putWork_safe s _) ?_))
  exact (bump_safe _ _).trans ((modQueue_safe _ _ _).trans (putWork_safe s _))

theorem foutAct_safe (s : State) (o : Nat) (on : Bool) : (s.foutAct o on).safe = s.safe := by
  unfold foutAct
  split <;> rfl

theorem segmentGo_safe (s : State) (a : Fin 96) : (s.segmentGo a).safe = s.safe := by
  unfold segmentGo
  split <;> rfl

theorem act_safe (s : State) (x : WDesc) (late : Bool) : (s.act x late).safe = s.safe := by
  unfold act
  refine safe_ite rfl (safe_ite rfl (safe_ite rfl (safe_ite (foutAct_safe s _ _) (safe_ite (foutAct_safe s _ _) (safe_ite ?_
    (safe_ite (release_safe s _ _) (safe_ite ?_ (safe_ite rfl (safe_ite ?_ rfl)))))))))
  · exact (foutAct_safe _ _ _).trans rfl
  · split
    · exact segmentGo_safe s _
    · rfl
  · split <;> rfl

theorem fireDesc_safe (s : State) (x : WDesc) (late : Bool) : (s.fireDesc x late).safe = s.safe := by
  have hr (u : State) : (u.recRelease x late).safe = u.safe := by
    unfold recRelease
    split
    · exact offerRec_safe _ _ _ _
    · rfl
  have hl : (if late then s.bump WHEEL_CNT_LATE else s).safe = s.safe := by split <;> rfl
  unfold fireDesc
  split
  · rfl
  · split
    · rfl
    · exact (hr _).trans ((act_safe _ x late).trans hl)

theorem fireAll_safe (s : State) (late : Bool) (l : List WDesc) : (s.fireAll late l).safe = s.safe := by
  induction l generalizing s with
  | nil => rfl
  | cons x l ih => exact (ih _).trans (fireDesc_safe s x late)

theorem jumpFrom_safe (s : State) (w0 m : Nat) : (s.jumpFrom w0 m).safe = s.safe := by
  have ha : (s.skipPassed w0 m).safe = s.safe :=
    foldl_rel (R := fun s t => t.safe = s.safe) (fun _ => rfl) (fun h h' => h'.trans h) _ (s.placeW m) fun _ _ _ => rfl
  unfold jumpFrom
  split
  · exact (fireAll_safe _ _ _).trans rfl
  · dsimp only
    split <;> exact ha

theorem foldl_safe {α : Type} {g : State → α → State} (l : List α) (s : State) (h : ∀ u a, (g u a).safe = u.safe) : (l.foldl g s).safe = s.safe :=
  foldl_rel (R := fun s t => t.safe = s.safe) (fun _ => rfl) (fun h h' => h'.trans h) l s fun a _ u => h u a

theorem resumeCluster_safe (s : State) (c : Fin 12) : (s.resumeCluster c).safe = s.safe := by
  unfold resumeCluster
  split <;> rfl

theorem resumeWheel_eq (s : State) : s.resumeWheel =
    if s.flag DBG_STAT_WHEEL then (s.setF DBG_STAT_WHEEL 0).jumpFrom s.wheel.w (s.setF DBG_STAT_WHEEL 0).wpos else s := rfl

theorem resumeWheel_safe (s : State) : s.resumeWheel.safe = s.safe := by
  rw [resumeWheel_eq]
  exact safe_ite ((jumpFrom_safe _ _ _).trans (setF_safe s _ _)) rfl

theorem resumeTargets_safe (s : State) : s.resumeTargets.safe = s.safe := by
  unfold resumeTargets
  rw [resumeWheel_safe, foldl_safe _ s resumeCluster_safe]

theorem releaseHalts_safe (s : State) : s.releaseHalts.safe = s.safe := by
  rw [releaseHalts_eq]
  refine safe_ite rfl ?_
  rw [showHalt, setB_safe, resumeTargets_safe]

theorem monitorFrom_group (s : State) (ran : Bool) (c : Fin 2) (g : Fin 4) : (s.monitorFrom ran).group c g = s.group c g := by
  unfold monitorFrom
  split
  · rfl
  · split
    · rfl
    · unfold group
      rw [chan_modChan_both]
      rfl

/-- In a mode outside those of R333 every group is in OFF. -/
theorem enterMode_off (s : State) {m : Nat} (cause entry : Nat) (h : torqueModes.contains m = false) (c : Fin 2) (g : Fin 4) :
    ((s.enterMode m cause entry).group c g).state = 0 := by
  have hg : ((s.setMode m cause entry).modeGroups m).releaseHalts.group c g = ((s.setMode m cause entry).modeGroups m).group c g := by
    unfold group chan
    rw [releaseHalts_safe]
  have hall : ∀ g : Fin 4, Nat.testBit 15 g = true := by decide
  obtain ⟨h0, h1, -⟩ := (offGroups_wentOff (s.setMode m cause entry) 15 (cause := 7) (by decide) g).1 (hall g)
  rw [enterMode_eq, monitorFrom_group, hg, modeGroups, h, if_neg (by decide)]
  match c with
  | 0 => exact h0
  | 1 => exact h1

-- ===== the return and its time (R67, R584) =====

theorem execChangeoverReturn_taken {s : State} {e : Nat} (he : s.cfg.postEnd = some e)
    (h : s.mode = mCHANGEOVER ∧ s.f CFG_STAT_LDR = 6 ∧ s.time.mono ≤ e ∧ s.postOk = true) :
    exec .changeoverReturn s = .next (s.endPost.enterMode mRUN 2) := by
  show execChangeoverReturn s = _
  unfold execChangeoverReturn
  rw [he]
  dsimp only
  rw [if_pos h]

theorem execChangeoverReturn_idle {s : State}
    (h : ∀ e, s.cfg.postEnd = some e → ¬ (s.mode = mCHANGEOVER ∧ s.f CFG_STAT_LDR = 6 ∧ s.time.mono ≤ e ∧ s.postOk = true)) :
    exec .changeoverReturn s = .next s := by
  show execChangeoverReturn s = _
  unfold execChangeoverReturn
  split
  · next e he => rw [if_neg (h e he)]
  · rfl

theorem execCoPostcheck_over (s : State) {e m : Nat} (he : (s.runTo m).cfg.postEnd = some e)
    (h : (s.runTo m).mode = mCHANGEOVER ∧ (s.runTo m).f CFG_STAT_LDR = 6 ∧ (e < (s.runTo m).time.mono ∨ (!(s.runTo m).postOk) = true)) :
    exec (.coPostcheck m) s = .next (((s.runTo m).endPost.cfgErr 0x16).enterMode mSAFE_HOLD 2) := by
  show execCoPostcheck m s = _
  unfold execCoPostcheck
  dsimp only
  rw [he]
  dsimp only
  rw [if_pos h]

theorem execCoPostcheck_idle (s : State) (m : Nat) (h : ∀ e, (s.runTo m).cfg.postEnd = some e →
    ¬ ((s.runTo m).mode = mCHANGEOVER ∧ (s.runTo m).f CFG_STAT_LDR = 6 ∧ (e < (s.runTo m).time.mono ∨ (!(s.runTo m).postOk) = true))) :
    exec (.coPostcheck m) s = .next (s.runTo m) := by
  show execCoPostcheck m s = _
  unfold execCoPostcheck
  dsimp only
  split
  · next e he => rw [if_neg (h e he)]
  · rfl

theorem endPost_ldr (s : State) : s.endPost.f CFG_STAT_LDR = (if s.cfg.shadow.isSome = true then 4 else 0) := by
  refine (f_setF_same _ CFG_STAT_LDR _ (by decide)).trans ?_
  split <;> rfl

theorem endPost_run (s : State) : (s.endPost.enterMode mRUN 2).mode = mRUN ∧
    (s.endPost.enterMode mRUN 2).f CFG_STAT_LDR = (if s.cfg.shadow.isSome = true then 4 else 0) ∧
    (s.endPost.enterMode mRUN 2).cfg = { s.cfg with postEnd := none } := by
  have he := s.endPost.enterMode_calm mRUN 2 255
  exact ⟨(s.endPost.enterMode_mode 2 255 (m := mRUN) (by decide)).1, (he.f (by decide)).trans s.endPost_ldr, he.cfg⟩

theorem endPost_hold (s : State) : ((s.endPost.cfgErr 0x16).enterMode mSAFE_HOLD 2).mode = mSAFE_HOLD ∧
    ((s.endPost.cfgErr 0x16).enterMode mSAFE_HOLD 2).f CFG_STAT_LDR = (if s.cfg.shadow.isSome = true then 4 else 0) ∧
    ((s.endPost.cfgErr 0x16).enterMode mSAFE_HOLD 2).rdN CFG_ERR = 0x16 ∧
    (∀ (c : Fin 2) (g : Fin 4), (((s.endPost.cfgErr 0x16).enterMode mSAFE_HOLD 2).group c g).state = 0) ∧
    ((s.endPost.cfgErr 0x16).enterMode mSAFE_HOLD 2).cfg = { s.cfg with postEnd := none } := by
  have he := (s.endPost.cfgErr 0x16).enterMode_calm mSAFE_HOLD 2 255
  obtain ⟨hc, hk, -⟩ := s.endPost.cfgErr_spec (code := 0x16) (by decide)
  refine ⟨((s.endPost.cfgErr 0x16).enterMode_mode 2 255 (m := mSAFE_HOLD) (by decide)).1,
    (he.f (by decide)).trans ((f_keeps hk (by decide)).trans s.endPost_ldr), ?_, fun c g => enterMode_off _ 2 255 (by decide) c g, he.cfg⟩
  exact (congrArg BitVec.toNat (he.rd (r := CFG_ERR) (by decide))).trans hc

end State

open State in
/-- Settles O44: each command and event goes through its own equation; the swap's image and words follow it step by step (`swap_cfg`,
`swap_stat`, `swap_mode`, `swap_bank`), an abandoned swap and the end of the wait are said once each. -/
theorem changeoverRuns : Obligations.ChangeoverRuns := by
  unfold Obligations.ChangeoverRuns
  refine ⟨fun s ho => ⟨execCfgArmCo_closed ho, execCfgCancelCo_closed ho⟩, ?_, ?_, ?_, ?_, ?_, ?_, ?_, ?_, ?_, ?_, ?_, ?_, ?_, ?_, ?_, ?_, ?_, ?_,
    ?_, ?_, ?_⟩
  · exact fun s ho hm => refusedWith_of (execCfgArmCo_mode ho hm) (by decide)
  · exact fun s ho hm hd => refusedWith_of (execCfgArmCo_degraded ho hm hd) (by decide)
  · exact fun s ho hm hd h => refusedWith_of (execCfgArmCo_noShadow ho hm hd h) (by decide)
  · intro s i ho hm hd hi hl hc
    refine refusedWith_of ?_ (by decide)
    rw [execCfgArmCo_held ho hm hd hi hl, hc]
    rfl
  · intro s i ho hm hd hi hl hc hp
    refine refusedWith_of ?_ (by decide)
    rw [execCfgArmCo_held ho hm hd hi hl, hc, hp]
    rfl
  · intro s i ho hm hd hi hl hc hp
    obtain ⟨h1, h2, h3, h4, h5⟩ := coArmed_spec i hm
    refine ⟨(s.coArmed i).enterMode mCHANGEOVER 2, ?_, h1, h2, h3, h4, ?_, fun a => ?_⟩
    · rw [execCfgArmCo_held ho hm hd hi hl, hc, hp]
      rfl
    · rw [h5]
      rfl
    · rw [h5]
      exact mem_carried s i a
  · exact fun s ho ha => ⟨_, execCfgCancelCo_armed ho ha, abandonSwap_spec ha (by decide) 2⟩
  · intro s ho ha
    have hlt : Config.unstated 28 s.free % 256 < 256 := Nat.mod_lt _ (by decide)
    obtain ⟨hc, hk, hf⟩ := s.cfgErr_spec (code := Config.unstated 28 s.free % 256) (by omega)
    exact ⟨_, execCfgCancelCo_idle ho ha, by rw [hc]; exact hlt, hk, hf⟩
  · exact fun s k ha ht hk hd => ⟨_, execCoTimeout_over ha ht hk hd, abandonSwap_spec ha (by decide) 2⟩
  · exact fun s h => execCoTimeout_idle h
  · exact fun s h => eligibleCycle_off h
  · rintro s u rfl h
    exact execSwapInstant_idle h
  · rintro s u old new rfl ho hn hd
    refine ⟨_, execSwapInstant_due ho hn hd, ?_⟩
    rw [swap_cfg]
    exact ⟨rfl, rfl, rfl, rfl⟩
  · rintro s u old new rfl ho hn hd - - hs - hr
    have hk : ∀ p ∈ old.st.regs ++ new.st.regs, ¬ keptWord p.1 := fun p hp h => by
      obtain ⟨h1, h2, h3⟩ := hr p hp
      rcases h with h | h | ⟨c, h⟩
      · exact h1 h
      · exact h2 h
      · exact h3 c h
    have hs' : s.eligibleCycle.streamShort := fun x hx => (hs x hx).le
    refine ⟨_, execSwapInstant_due ho hn hd, (swap_stat hk).1, (swap_stat hk).2, swap_mode hs' hk, ?_, fun c hc => swap_bank hs' hk c hc⟩
    rw [swap_cfg]
    rfl
  · intro s i k hi hn hp hk
    obtain ⟨h1, h2, h3, h4, h5, h6, h7, h8, h9, h10⟩ := takeNotice_spec (s := s.noticed) hp hk
    have hc : (s.noticed.takeNotice i).cfg = s.noticed.cfg := takeNotice_cfg _ i
    refine ⟨_, execSwapNotice_taken hi hn, by rw [hc, noticed], h1, h2, h3, h4, h5, h6, h7, h8, keeps_trans (keeps_of_regs (t := s.noticed) rfl _) h9, ?_⟩
    rw [hc]
    exact h10
  · exact fun s i hi hn => ⟨_, execSwapNotice_taken hi hn, takeNotice_cfg _ i, by rw [takeNotice_cfg]; rfl⟩
  · exact fun s h => execSwapNotice_idle h
  · exact fun s e he hm hl ht hok => ⟨_, execChangeoverReturn_taken he ⟨hm, hl, ht, hok⟩, endPost_run s⟩
  · intro s h
    refine execChangeoverReturn_idle fun e he ⟨hm, hl, ht, hok⟩ => ?_
    rcases h with h | h | h | h
    · exact absurd (h.symm.trans hok) (by decide)
    · exact h hm
    · exact h hl
    · exact absurd (h e he) (Nat.not_lt_of_le ht)
  · rintro s u e m rfl he hm hl h
    exact ⟨_, execCoPostcheck_over s he ⟨hm, hl, h.imp id fun hok => by rw [hok]; rfl⟩, endPost_hold _⟩
  · rintro s u m rfl h
    refine execCoPostcheck_idle s m fun e he ⟨hm, hl, ht⟩ => ?_
    rcases h with h | h | h | ⟨x, hx, hxe, hok⟩
    · exact h hm
    · exact h hl
    · exact absurd (h.symm.trans he) (by simp)
    · obtain rfl : x = e := Option.some.inj (hx.symm.trans he)
      rcases ht with ht | ht
      · omega
      · rw [hok] at ht
        exact absurd ht (by decide)

end Sys2Proof.Machine

/-! SUPPORT. O9: the PCIe fundamental reset (R80, R549). -/

namespace Sys2Proof.Machine

/-- The registers of the endpoint that the PCIe reset clears. -/
def ringRegs : List Nat :=
  [HQ_HC_BASE 0, HQ_HC_BASE 1, HQ_CQ_BASE 0, HQ_CQ_BASE 1, HQ_HC_CFG, HQ_CQ_CFG, HQ_HC_TAIL, HQ_HC_HEAD, HQ_CQ_TAIL, HQ_CQ_HEAD]

namespace State

/-- Words given by distinct addresses are read back there. -/
theorem rd_wrAll_of_mem (s : State) {ps : List (Nat × Word)} (hn : (ps.map Prod.fst).Nodup) {p : Nat × Word} (hp : p ∈ ps) :
    (s.wrAll ps).rd p.1 = p.2 := by
  induction ps generalizing s with
  | nil => simp at hp
  | cons q ps ih =>
    rw [List.map_cons, List.nodup_cons] at hn
    rcases List.mem_cons.mp hp with rfl | hp
    · rw [wrAll, rd_wrAll _ _ fun q hq h => hn.1 (List.mem_map.mpr ⟨q, hq, h.symm⟩), rd_wr_same]
    · exact ih _ hn.2 hp

/-- Words given by address change the registers alone. -/
theorem wrAll_frame (s : State) (ps : List (Nat × Word)) : s.wrAll ps = { s with regs := (s.wrAll ps).regs } := by
  induction ps generalizing s with
  | nil => rfl
  | cons p ps ih => exact ih (s.wr p.1 p.2)

theorem pcieReset_rd (s : State) (r : Nat) : s.pcieReset.rd r = (s.wrAll (ringRegs.map fun a => (a, 0))).rd r := rfl

theorem pcieReset_ring (s : State) {r : Nat} (h : r ∈ ringRegs) : s.pcieReset.rd r = 0 :=
  rd_wrAll_of_mem s (ps := ringRegs.map fun a => (a, 0)) (by decide) (List.mem_map_of_mem h)

theorem pcieReset_keeps (s : State) : s.keeps s.pcieReset ringRegs := by
  intro r hr
  rw [pcieReset_rd]
  refine rd_wrAll _ _ fun p hp => ?_
  obtain ⟨a, ha, rfl⟩ := List.mem_map.mp hp
  exact fun h => hr (h ▸ ha)

theorem pcieReset_frame (s : State) : s.pcieReset =
    { s with regs := s.pcieReset.regs, host := { s.host with opened := s.host.opened.map (fun (o : HostOpen) => { o with drop := true }), wraps := 0 } } := by
  conv_lhs => rw [pcieReset, wrAll_frame]
  rfl

end State

/-- Settles O9: the reset writes the endpoint's ring registers alone, so SYS_MODE stands. -/
theorem pcieResetOnly : Obligations.PcieResetOnly := by
  unfold Obligations.PcieResetOnly
  intro rings s
  exact ⟨s.pcieReset, rfl, State.f_keeps s.pcieReset_keeps (by decide), fun _ hr => s.pcieReset_ring hr, s.pcieReset_keeps, s.pcieReset_frame⟩

end Sys2Proof.Machine

/-! SUPPORT. O48: what stands after a reset (R79, R83, R84). -/

namespace Sys2Proof

/-- The pairs of a canonical store, written one after another into another store, read there as in their own. -/
theorem Store.get_setAll {w : Nat} {d : BitVec w} (ps m : Store w) (h : Store.wf d ps = true) (b : Nat) :
    Store.get d (ps.foldl (fun (m : Store w) (p : Nat × BitVec w) => Store.set d m p.1 p.2) m) b =
      if ps.any (fun p => p.1 == b) then Store.get d ps b else Store.get d m b := by
  rw [Store.wf_iff] at h
  obtain ⟨-, hp⟩ := h
  induction ps generalizing m with
  | nil => rfl
  | cons p ps ih =>
    obtain ⟨hlt, hp⟩ := List.pairwise_cons.mp hp
    by_cases hb : p.1 = b
    · have hne : ∀ q ∈ ps, q.1 ≠ b := fun q hq => (hb ▸ hlt q hq).ne'
      rw [List.foldl_cons, Store.get_setAll_ne ps _ hne]
      simp [Store.get, hb]
    · rw [List.foldl_cons, ih _ hp, Store.get_set_ne _ _ (Ne.symm hb)]
      simp [Store.get, hb]

theorem Store.get_of_not_any {w : Nat} {d : BitVec w} {m : Store w} {b : Nat} (h : m.any (fun p => p.1 == b) = false) :
    Store.get d m b = d := by
  induction m with
  | nil => rfl
  | cons c m ih =>
    simp only [List.any_cons, Bool.or_eq_false_iff, beq_eq_false_iff_ne] at h
    simp [Store.get, h.1, ih h.2]

namespace Machine

/-- No register that a reset keeps has a Reset column other than 0. -/
theorem resetWords_kept {r : Nat} (h : keepsReset r = true) : Store.get 0 resetWords r = 0 := by
  refine Store.get_of_not_any ?_
  rw [List.any_eq_false]
  intro p hp hr
  have hk : ∀ p ∈ resetWords, keepsReset p.1 = false := by decide +kernel
  rw [beq_iff_eq] at hr
  simp [hr ▸ hk p hp] at h

namespace State

/-- Of the registers that OTP and MRAM do not back, each reads its Reset column. -/
theorem resetRegs_fresh (s : State) (c : Nat) {r : Nat} (h : keepsReset r = false) (hm : r ≠ SYS_MODE) (hc : r ≠ SYS_RST_CAUSE) :
    Store.get 0 (s.resetRegs c) r = reset.rd r := by
  unfold resetRegs
  rw [Store.get_set_ne _ _ hc, Store.get_set_ne _ _ hm, Store.get_setAll_ne]
  · rfl
  · rintro p hp rfl
    simp [(List.mem_filter.mp hp).2] at h

/-- A register that OTP or MRAM backs keeps its word. -/
theorem resetRegs_kept (s : State) (c : Nat) (hw : s.regsWf = true) {r : Nat} (h : keepsReset r = true) :
    Store.get 0 (s.resetRegs c) r = s.rd r := by
  have hm : r ≠ SYS_MODE := by rintro rfl; exact absurd h (by decide)
  have hc : r ≠ SYS_RST_CAUSE := by rintro rfl; exact absurd h (by decide)
  have hf : Store.wf 0 (s.regs.filter (fun (p : Nat × Word) => keepsReset p.1)) = true := by
    unfold regsWf at hw
    rw [Store.wf_iff] at hw ⊢
    exact ⟨fun p hp => hw.1 p (List.mem_filter.mp hp).1, hw.2.sublist List.filter_sublist⟩
  have hg : Store.get 0 (s.regs.filter (fun (p : Nat × Word) => keepsReset p.1)) r = s.rd r := by
    rw [Store.get_filter, if_pos h]
    rfl
  unfold resetRegs
  rw [Store.get_set_ne _ _ hc, Store.get_set_ne _ _ hm, Store.get_setAll _ _ hf, hg]
  split
  · rfl
  · next hn => rw [resetWords_kept h, ← hg, Store.get_of_not_any (by simpa only [Bool.not_eq_true] using hn)]

theorem toReset_rd (s : State) (c : Nat) {r : Nat} (hd : r ≠ DBG_STAT) (hs : r ≠ CFG_SEC_STAT) :
    (s.toReset c).rd r = Store.get 0 (s.resetRegs c) r := by
  unfold toReset
  dsimp only
  rw [rd_setB_ne _ _ hd, rd_setF_ne _ _ hs, rd_setF_ne _ _ hs]
  rfl

theorem toReset_mode (s : State) (c : Nat) : (s.toReset c).mode = mRESET := by
  unfold mode f
  rw [show SYS_MODE_MODE.reg = SYS_MODE from rfl, toReset_rd s c (by decide) (by decide), resetRegs, Store.get_set_ne _ _ (by decide),
    Store.get_set_same]
  rfl

theorem toReset_cause (s : State) {c : Nat} (h : c < 32) : (s.toReset c).rdN SYS_RST_CAUSE = 2 ^ c := by
  unfold rdN
  rw [toReset_rd s c (by decide) (by decide), resetRegs, Store.get_set_same, BitVec.toNat_ofNat]
  exact Nat.mod_eq_of_lt (Nat.pow_lt_pow_right (by decide) h)

theorem toReset_nv (s : State) (c : Nat) : (s.toReset c).nv = { s.nv with erased := [], writing := Bank.rep 10 none } := rfl

theorem toReset_fresh (s : State) (c : Nat) {r : Nat} (h : keepsReset r = false) (hr : r ∉ [SYS_MODE, SYS_RST_CAUSE, CFG_SEC_STAT, DBG_STAT]) :
    (s.toReset c).rd r = reset.rd r := by
  simp only [List.mem_cons, List.not_mem_nil, or_false, not_or] at hr
  obtain ⟨hm, hc, hs, hd⟩ := hr
  rw [toReset_rd s c hd hs, resetRegs_fresh s c h hm hc]

theorem toReset_kept (s : State) (c : Nat) (hw : s.regsWf = true) {r : Nat} (h : keepsReset r = true) : (s.toReset c).rd r = s.rd r := by
  rw [toReset_rd s c (by rintro rfl; exact absurd h (by decide)) (by rintro rfl; exact absurd h (by decide)), resetRegs_kept s c hw h]

theorem toReset_frame (s : State) (c : Nat) : s.toReset c =
    { reset with nv := (s.toReset c).nv, pending := s.pending, regs := (s.toReset c).regs, sys := (s.toReset c).sys, free := s.free + 2 } := rfl

/-- t stands as a reset with this cause leaves s (R79, R83, R84). -/
def isReset (s t : State) (cause : Nat) : Prop :=
  t.mode = mRESET ∧ t.rdN SYS_RST_CAUSE = 2 ^ cause ∧ t.nv = { s.nv with erased := [], writing := Bank.rep 10 none } ∧
    (∀ r, keepsReset r = false → r ∉ [SYS_MODE, SYS_RST_CAUSE, CFG_SEC_STAT, DBG_STAT] → t.rd r = reset.rd r) ∧
    (s.regsWf = true → ∀ r, keepsReset r = true → t.rd r = s.rd r) ∧
    t = { reset with nv := t.nv, pending := s.pending, regs := t.regs, sys := t.sys, free := s.free + 2 }

theorem isReset_toReset (s : State) {c : Nat} (h : c < 32) : s.isReset (s.toReset c) c :=
  ⟨s.toReset_mode c, s.toReset_cause h, s.toReset_nv c, fun _ => s.toReset_fresh c, fun hw _ => s.toReset_kept c hw, s.toReset_frame c⟩

/-- VIN falls below VRST: the buffer of a snapshot that is due and not done loses its mark, then the module resets (R101). -/
def dropMark (s : State) : State := if s.sys.commitDue && s.snapDue then s.putLoam s.olderBuf none else s

theorem dropMark_due {s : State} (hd : s.sys.commitDue = true) (hs : s.snapDue = true) : s.dropMark = s.putLoam s.olderBuf none :=
  if_pos (by rw [hd, hs]; rfl)

theorem dropMark_idle {s : State} (h : s.sys.commitDue = false ∨ s.snapDue = false) : s.dropMark = s := by
  rcases h with h | h <;> simp [dropMark, h]

theorem putLoam_same (s : State) (b : Fin 2) (k : Option Snap) : (s.putLoam b k).nv.loam.get b = k := Bank.get_set_same _ _ _

theorem putLoam_ne (s : State) {b c : Fin 2} (k : Option Snap) (h : c ≠ b) : (s.putLoam b k).nv.loam.get c = s.nv.loam.get c :=
  Bank.get_set_ne _ _ h

theorem dropMark_other (s : State) {b : Fin 2} (h : b ≠ s.olderBuf) : s.dropMark.nv.loam.get b = s.nv.loam.get b := by
  unfold dropMark
  split
  · exact putLoam_ne s none h
  · rfl

end State

theorem execVinBelowVrst_reset (s : State) {v : Nat} (h : v ≤ 9100) : execVinBelowVrst v s = .next (s.dropMark.toReset rcVIN_LOW) := by
  unfold execVinBelowVrst
  rw [if_neg (by omega)]
  rfl

theorem execVinBelowVrst_idle (s : State) {v : Nat} (h : 9100 < v) : execVinBelowVrst v s = .next s := by
  unfold execVinBelowVrst
  rw [if_pos h]

/-! SUPPORT. O10: the limits of the supply (R96, R101). -/

/-- What VIN above VOV leaves: the voltage shown, OV and one message (R101). -/
def State.overVoltage (s : State) (v : Nat) : State :=
  ((s.setF PWR_VIN_VIN_MV v).hit PWR_STAT_OV).raise (mkFault srcPWR 0x03 cMAJOR 0 [.val v])

theorem execVinOv_over (s : State) {v : Nat} (h : 13800 ≤ v) (hm : s.mode ≠ mRESET) : execVinOv v s = .next (s.overVoltage v) := by
  unfold execVinOv
  rw [if_pos ⟨h, hm⟩]
  rfl

theorem execVinOv_idle (s : State) {v : Nat} (h : s.mode = mRESET ∨ v < 13800) : execVinOv v s = .next s := by
  unfold execVinOv
  rw [if_neg (by rintro ⟨hv, hm⟩; exact h.elim hm (by omega))]

namespace State

theorem overVoltage_ov (s : State) (v : Nat) : (s.overVoltage v).f PWR_STAT_OV = 1 := f_hit_same _ _ (by decide) rfl

theorem overVoltage_mv (s : State) (v : Nat) : (s.overVoltage v).f PWR_VIN_VIN_MV = v % 65536 :=
  (f_hit_ne (s.setF PWR_VIN_VIN_MV v) (x := PWR_STAT_OV) (by decide)).trans (f_setF_same s _ v (by decide))

theorem overVoltage_raised (s : State) (v : Nat) : s.raisedOne (s.overVoltage v) 0xDA 0x03 cMAJOR := raisedOne_raise s _ _ rfl rfl

theorem overVoltage_keeps (s : State) (v : Nat) : s.keeps (s.overVoltage v) [PWR_VIN, PWR_STAT] :=
  keeps_raise _ (keeps_hit (keeps_setF v (keeps_refl s _) (by decide)) (by decide))

/-- The other fields of PWR_STAT stand. -/
theorem overVoltage_stat (s : State) (v : Nat) {x : Fld} (hx : x.reg = PWR_STAT)
    (h : x.lo + x.width ≤ PWR_STAT_OV.lo ∨ PWR_STAT_OV.lo + 1 ≤ x.lo) : (s.overVoltage v).f x = s.f x :=
  (f_hit_disj (s.setF PWR_VIN_VIN_MV v) (x := PWR_STAT_OV) hx h.symm).trans (f_setF_ne s v (by rw [hx]; decide))

theorem overVoltage_frame (s : State) (v : Nat) : s.overVoltage v =
    { s with time := { s.time with hits := (s.overVoltage v).time.hits }, flt := (s.overVoltage v).flt, regs := (s.overVoltage v).regs } := rfl

end State

/-- Settles O10: below VRST the module resets over State.dropMark, above VOV it shows State.overVoltage. -/
theorem supplyLimits : Obligations.SupplyLimits := by
  unfold Obligations.SupplyLimits
  refine ⟨?_, fun s v h => execVinBelowVrst_idle s h, ?_, fun s v h => execVinOv_idle s (.inr h)⟩
  · intro s v hv
    refine ⟨_, execVinBelowVrst_reset s hv, State.toReset_mode _ _, ?_, fun b hb => s.dropMark_other hb, ?_, ?_⟩
    · unfold State.f
      rw [show (s.dropMark.toReset rcVIN_LOW).rd SYS_RST_CAUSE_CAUSE.reg = BitVec.ofNat 32 (2 ^ rcVIN_LOW) from
        BitVec.eq_of_toNat_eq (State.toReset_cause _ (by decide))]
      decide
    · intro hd hs hh
      rw [State.dropMark_due hd (by simp [State.snapDue, hs, hh])]
      exact State.putLoam_same _ _ _
    · intro hd
      rw [State.dropMark_idle (.inl hd)]
      rfl
  · intro s v hv hm
    exact ⟨_, execVinOv_over s hv hm, s.overVoltage_ov v, s.overVoltage_mv v, s.overVoltage_raised v, fun _ => s.overVoltage_stat v,
      s.overVoltage_keeps v, s.overVoltage_frame v⟩

end Machine
end Sys2Proof

/-! SUPPORT. O48: the sources of a reset, its release, and the watchdog (R79 to R84). -/

namespace Sys2Proof.Machine

theorem execResetN_long (s : State) {low : Nat} (h : 1000 ≤ low) : execResetN low s = .next (s.toReset rcEXT) := by
  unfold execResetN
  rw [if_pos h]

theorem execResetN_short (s : State) {low : Nat} (h : low < 1000) : execResetN low s = .next s := by
  unfold execResetN
  rw [if_neg (by omega)]

theorem execSwrst_key {s : State} (hm : s.mode ≠ mRESET) (hs : s.scrappedMap = false) : execSwrst 0x4354 s = .next (s.toReset rcSOFT) := by
  unfold execSwrst
  rw [if_pos ⟨rfl, hm, by simp [hs]⟩]

theorem execSwrst_ignored {s : State} {k : Nat} (h : k ≠ 0x4354 ∨ s.mode = mRESET ∨ s.scrappedMap = true) : execSwrst k s = .next s := by
  unfold execSwrst
  rw [if_neg]
  rintro ⟨hk, hm, hs⟩
  rcases h with h | h | h
  · exact h hk
  · exact hm h
  · simp [h] at hs

theorem execWatchdogReset_due {s : State} {m e : Nat} (he : (s.runTo m).sys.expired = some e)
    (h : e + (s.runTo m).msCycles 10 ≤ (s.runTo m).time.mono) : execWatchdogReset m s = .next ((s.runTo m).toReset rcWDOG) := by
  unfold execWatchdogReset
  simp only [he, if_pos h]

theorem execWatchdogReset_early {s : State} {m e : Nat} (he : (s.runTo m).sys.expired = some e)
    (h : (s.runTo m).time.mono < e + (s.runTo m).msCycles 10) : execWatchdogReset m s = .next (s.runTo m) := by
  unfold execWatchdogReset
  simp only [he, if_neg (show ¬ e + (s.runTo m).msCycles 10 ≤ (s.runTo m).time.mono by omega)]

theorem execWatchdogReset_none {s : State} {m : Nat} (he : (s.runTo m).sys.expired = none) : execWatchdogReset m s = .next (s.runTo m) := by
  unfold execWatchdogReset
  simp only [he]

theorem execThermReset_hot (s : State) {x : Nat} (h : 1150 ≤ x) : execThermReset x s = .next (s.toReset rcTHERM) := by
  unfold execThermReset
  rw [if_pos h]

theorem execThermReset_cool (s : State) {x : Nat} (h : x < 1150) : execThermReset x s = .next s := by
  unfold execThermReset
  rw [if_neg (by omega)]

/-- What R81 asks before RESET is left, as its conditions. -/
theorem releaseOk_iff (s : State) (v above : Nat) (refOk high : Bool) (hot : Int) : releaseOk s v above refOk high hot = true ↔
    10250 ≤ v ∧ 10000 ≤ above ∧ refOk = true ∧ high = true ∧ ((s.f SYS_RST_CAUSE_CAUSE).testBit rcTHERM = true → hot < 1050) := by
  unfold releaseOk
  simp only [Bool.and_eq_true, decide_eq_true_eq, Bool.or_eq_true, Bool.not_eq_true', and_assoc]
  cases (s.f SYS_RST_CAUSE_CAUSE).testBit rcTHERM <;> simp

/-- SANITISE begins: time starts at 0 and SYS_START rules the start (R81, R105). -/
def State.released (s : State) (v : Nat) : State :=
  { (((s.setF PWR_VIN_VIN_MV v).setF SYS_MODE_MODE mSANITISE).setF SYS_MODE_PREV mRESET).msix 2 with
      time := { was := s.regs }, sys := { s.sys with start := s.rd SYS_START, kicked := 0 } }

theorem execResetRelease_taken {s : State} {v above : Nat} {refOk high : Bool} {hot : Int} (hm : s.mode = mRESET)
    (h : releaseOk s v above refOk high hot = true) : execResetRelease v above refOk high hot s = .next (s.released v) := by
  unfold execResetRelease
  rw [if_pos ⟨hm, h⟩]
  rfl

theorem execResetRelease_held {s : State} {v above : Nat} {refOk high : Bool} {hot : Int}
    (h : ¬ (s.mode = mRESET ∧ releaseOk s v above refOk high hot = true)) : execResetRelease v above refOk high hot s = .next s := by
  unfold execResetRelease
  rw [if_neg h]

namespace State

theorem released_prev (s : State) (v : Nat) : (s.released v).f SYS_MODE_PREV = mRESET :=
  f_setF_zero ((s.setF PWR_VIN_VIN_MV v).setF SYS_MODE_MODE mSANITISE) SYS_MODE_PREV (by decide)

theorem released_mode (s : State) (v : Nat) : (s.released v).mode = mSANITISE :=
  (f_setF_disj ((s.setF PWR_VIN_VIN_MV v).setF SYS_MODE_MODE mSANITISE) (x := SYS_MODE_PREV) (y := SYS_MODE_MODE) mRESET rfl (by decide)).trans
    (f_setF_same _ SYS_MODE_MODE mSANITISE (by decide))

theorem released_mv (s : State) (v : Nat) : (s.released v).f PWR_VIN_VIN_MV = v % 65536 :=
  calc (s.released v).f PWR_VIN_VIN_MV
      = ((s.setF PWR_VIN_VIN_MV v).setF SYS_MODE_MODE mSANITISE).f PWR_VIN_VIN_MV := f_setF_ne _ (x := SYS_MODE_PREV) mRESET (by decide)
    _ = (s.setF PWR_VIN_VIN_MV v).f PWR_VIN_VIN_MV := f_setF_ne _ mSANITISE (by decide)
    _ = v % 65536 := f_setF_same s _ v (by decide)

theorem released_keeps (s : State) (v : Nat) : s.keeps (s.released v) [SYS_MODE, PWR_VIN] :=
  keeps_congr (keeps_setF (x := SYS_MODE_PREV) mRESET (keeps_setF (x := SYS_MODE_MODE) mSANITISE
    (keeps_setF (x := PWR_VIN_VIN_MV) v (keeps_refl s _) (by decide)) (by decide)) (by decide)) rfl

end State

theorem execWdKick_taken {s : State} {m : Nat} (h : (s.runTo m).mapOpen = true) : execWdKick 0x4354 m s =
    .next { s.runTo m with sys := { (s.runTo m).sys with kicked := (s.runTo m).time.mono } } := by
  unfold execWdKick
  dsimp only
  rw [if_pos ⟨rfl, h⟩]

theorem execWdKick_ignored {s : State} {k m : Nat} (h : k ≠ 0x4354 ∨ (s.runTo m).mapOpen = false) : execWdKick k m s = .next (s.runTo m) := by
  unfold execWdKick
  dsimp only
  rw [if_neg]
  rintro ⟨hk, ho⟩
  rcases h with h | h
  · exact h hk
  · simp [h] at ho

/-- The watchdog expires: noted once and told at L3 (R82). -/
def State.wdogOver (u : State) : State :=
  ({ u with sys := { u.sys with expired := some u.time.mono } } : State).raise (mkFault srcSYS 0x01 cCRITICAL 3 [.val (u.sys.start.toNat / 65536)])

/-- The watchdog expires in this state: WD_MS is not 0, and so long has passed since the last kick without an expiry (R82). -/
def State.wdogDue (u : State) : Prop := u.sys.start.toNat / 65536 ≠ 0 ∧ u.mode ≠ mRESET ∧ u.sys.expired = none ∧
  u.sys.kicked + u.msCycles (u.sys.start.toNat / 65536) ≤ u.time.mono

theorem execWdogExpired_due {s : State} {m : Nat} (h : (s.runTo m).wdogDue) : execWdogExpired m s = .next (s.runTo m).wdogOver := by
  obtain ⟨hw, hm, he, hk⟩ := h
  unfold execWdogExpired
  dsimp only
  rw [if_pos ⟨hw, hm, by rw [he]; rfl, hk⟩]
  rfl

theorem execWdogExpired_not_due {s : State} {m : Nat} (h : ¬ (s.runTo m).wdogDue) : execWdogExpired m s = .next (s.runTo m) := by
  unfold execWdogExpired
  dsimp only
  rw [if_neg]
  rintro ⟨hw, hm, he, hk⟩
  exact h ⟨hw, hm, Option.isNone_iff_eq_none.mp he, hk⟩

/-- Settles O48: every source goes through State.toReset, whose words State.isReset_toReset gives; release and the watchdog by their
cases. -/
theorem resetSources : Obligations.ResetSources := by
  unfold Obligations.ResetSources
  refine ⟨fun s => ⟨_, rfl, s.isReset_toReset (by decide)⟩, fun s low h => ⟨_, execResetN_long s h, s.isReset_toReset (by decide)⟩,
    fun s low h => execResetN_short s h, fun s hm hs => ⟨_, execSwrst_key hm hs, s.isReset_toReset (by decide)⟩,
    fun s k h => execSwrst_ignored h, ?_, ?_, ?_, fun s x h => ⟨_, execThermReset_hot s h, s.isReset_toReset (by decide)⟩,
    fun s x h => execThermReset_cool s h, ?_, ?_, fun s v h => execVinBelowVrst_idle s h, ?_, ?_, ?_, ?_, ?_, ?_⟩
  · rintro s _ e m rfl he h
    exact ⟨_, execWatchdogReset_due he h, (s.runTo m).isReset_toReset (by decide)⟩
  · rintro s _ e m rfl he h
    exact execWatchdogReset_early he h
  · rintro s _ m rfl he
    exact execWatchdogReset_none he
  · intro s v hv h
    refine ⟨_, execVinBelowVrst_reset s hv, ?_⟩
    rw [State.dropMark_idle h]
    exact s.isReset_toReset (by decide)
  · intro s v hv hd hs
    refine ⟨_, execVinBelowVrst_reset s hv, ?_⟩
    rw [State.dropMark_due hd hs]
    exact ⟨(s.putLoam s.olderBuf none).isReset_toReset (by decide), s.putLoam_same _ _, fun b hb => s.putLoam_ne none hb⟩
  · rintro s v above refOk high hot ⟨hm, h⟩
    exact ⟨_, execResetRelease_taken hm ((releaseOk_iff s v above refOk high hot).mpr h), s.released_mode v, s.released_prev v,
      s.released_mv v, rfl, rfl, rfl, rfl, s.released_keeps v, rfl⟩
  · intro s v above refOk high hot h
    exact execResetRelease_held fun ⟨hm, hr⟩ => h ⟨hm, (releaseOk_iff s v above refOk high hot).mp hr⟩
  · rintro s _ m rfl h
    exact execWdKick_taken h
  · rintro s _ k m rfl h
    exact execWdKick_ignored h
  · rintro s _ m rfl h
    exact ⟨_, execWdogExpired_due h, rfl, State.raisedOne_raise _ _ _ rfl rfl, fun _ => rfl, rfl⟩
  · rintro s _ m rfl h
    exact execWdogExpired_not_due h

end Sys2Proof.Machine

/-! SUPPORT. What an offer to the recorder leaves in its books depends on the books and the time alone (R481 to R486). -/

namespace Sys2Proof.Machine

namespace State

theorem cycleInc_keeps {s t : State} {l : List Nat} (h : s.keeps t l) (hl : TIME_FADJ ∉ l) : t.cycleInc = s.cycleInc := by
  unfold cycleInc rdI
  rw [h _ hl]

/-- s and u agree on all that an offer to the recorder looks at. -/
structure intake (s u : State) : Prop where
  recorder : u.recorder = s.recorder
  hq : u.hq = s.hq
  now : u.time.now = s.time.now
  mono : u.time.mono = s.time.mono
  inc : u.cycleInc = s.cycleInc

theorem intake_refl (s : State) : s.intake s := ⟨rfl, rfl, rfl, rfl, rfl⟩

/-- Two states that agree still do after operations that leave the time and the frequency adjustment and the same books. -/
theorem intake.step {s u s' u' : State} (h : s.intake u) (hf : s.recFrame s') (hk : s.keeps s' recRegs) (hf' : u.recFrame u')
    (hk' : u.keeps u' recRegs) (hr : u'.recorder = s'.recorder) (hq : u'.hq = s'.hq) : s'.intake u' := by
  refine ⟨hr, hq, ?_, ?_, ?_⟩
  · rw [hf, hf']
    exact h.now
  · rw [hf, hf']
    exact h.mono
  · rw [cycleInc_keeps hk (by decide), cycleInc_keeps hk' (by decide), h.inc]

theorem noteDrop_recorder (s : State) (p : Nat) : (s.noteDrop p).recorder =
    { s.recorder with episode := some ((s.recorder.episode.getD ([0, 0, 0, 0], s.time.now)).1.set p
        ((s.recorder.episode.getD ([0, 0, 0, 0], s.time.now)).1.getD p 0 + 1), (s.recorder.episode.getD ([0, 0, 0, 0], s.time.now)).2) } := by
  unfold noteDrop
  dsimp only
  split <;> rfl

theorem noteDrop_intake {s u : State} (h : s.intake u) (p : Nat) : (s.noteDrop p).intake (u.noteDrop p) := by
  refine h.step (noteDrop_frame s p) (noteDrop_keeps s p) (noteDrop_frame u p) (noteDrop_keeps u p) ?_ ?_
  · rw [noteDrop_recorder, noteDrop_recorder, h.recorder, h.now]
  · rw [noteDrop_hq, noteDrop_hq, h.hq]

theorem recRemove_intake {s u : State} (h : s.intake u) (ix k : Nat) : (s.recRemove ix k).intake (u.recRemove ix k) := by
  have hq : (u.recRemove ix k).hq = (s.recRemove ix k).hq := by
    unfold recRemove freeCells queue
    rw [h.hq]
  exact ⟨h.recorder, hq, h.now, h.mono, h.inc⟩

theorem waitsAhead_congr {s u : State} (h : u.hq = s.hq) (n : Fin 16) : u.waitsAhead n = s.waitsAhead n := by
  unfold waitsAhead
  rw [h]

/-- Whether an item is admitted, and the queues then, depend on the queues alone. -/
theorem offer_hq {s u : State} (h : u.hq = s.hq) (n : Fin 16) (i : QItem) : (u.offer n i).map State.hq = (s.offer n i).map State.hq := by
  unfold offer queue
  rw [h, waitsAhead_congr h]
  dsimp only
  split <;> rfl

theorem offer_recorder {s u : State} {n : Fin 16} {i : QItem} (h : s.offer n i = some u) : u.recorder = s.recorder := by
  rw [(offer_some h).2.2.2.2]

theorem recMakeRoom_intake (r : RecItem) (it : QItem) (k : Nat) {s u : State} (h : s.intake u) :
    (s.recMakeRoom r it k).1.intake (u.recMakeRoom r it k).1 := by
  induction k generalizing s u with
  | zero => exact h
  | succ k ih =>
    have ho := offer_hq h.hq 8 it
    unfold recMakeRoom
    cases hs : s.offer 8 it with
    | some s' =>
      cases hu : u.offer 8 it with
      | none => simp [hs, hu] at ho
      | some u' =>
        obtain ⟨-, -, -, hks, hfs⟩ := offer_some hs
        obtain ⟨-, -, -, hku, hfu⟩ := offer_some hu
        have hq : u'.hq = s'.hq := by simpa [hs, hu] using ho
        exact h.step (by unfold recFrame; rw [hfs]) (keeps_mono hks (by decide)) (by unfold recFrame; rw [hfu]) (keeps_mono hku (by decide))
          (by rw [offer_recorder hs, offer_recorder hu, h.recorder]) hq
    | none =>
      cases hu : u.offer 8 it with
      | some u' => simp [hs, hu] at ho
      | none =>
        have hqq : u.queue 8 = s.queue 8 := by unfold queue; rw [h.hq]
        dsimp only
        rw [hqq]
        split
        · exact noteDrop_intake h _
        · exact ih (noteDrop_intake (recRemove_intake h _ _) _)

theorem recEnqueue_intake {s u : State} (h : s.intake u) (r : RecItem) : (s.recEnqueue r).1.intake (u.recEnqueue r).1 := by
  have hqq : u.queue 8 = s.queue 8 := by unfold queue; rw [h.hq]
  unfold recEnqueue
  rw [hqq]
  exact recMakeRoom_intake r _ _ h

theorem recEntry_intake {s u : State} (h : s.intake u) (code : Nat) : u.recEntry code = s.recEntry code := by
  unfold recEntry
  rw [h.recorder]

theorem putBucket_intake {s u : State} (h : s.intake u) (b : RecBucket) : (s.putBucket b).intake (u.putBucket b) :=
  ⟨by unfold putBucket; rw [h.recorder], h.hq, h.now, h.mono, h.inc⟩

theorem bump_intake {s u : State} (h : s.intake u) {a : Nat} (ha : a ∈ recRegs) : (s.bump a).intake (u.bump a) :=
  h.step rfl (keeps_bump (keeps_refl s _) ha) rfl (keeps_bump (keeps_refl u _) ha) h.recorder h.hq

theorem hit_intake {s u : State} (h : s.intake u) {x : Fld} (hx : x.reg ∈ recRegs) : (s.hit x).intake (u.hit x) :=
  h.step rfl (keeps_hit (keeps_refl s _) hx) rfl (keeps_hit (keeps_refl u _) hx) h.recorder h.hq

theorem recJudge_intake {s u : State} (h : s.intake u) (r : RecItem) : (s.recJudge r).1.intake (u.recJudge r).1 := by
  unfold recJudge
  rw [recEntry_intake h r.code, recEntry_intake h, h.inc, h.mono, h.now]
  split
  · exact recEnqueue_intake h r
  · split
    · exact recEnqueue_intake h r
    · dsimp only
      split
      · exact bump_intake (hit_intake (putBucket_intake h _) (by decide)) (by decide)
      · refine recEnqueue_intake ?_ r
        split
        · exact putBucket_intake h _
        · exact recEnqueue_intake (putBucket_intake h _) _

theorem recOffer_intake {s u : State} (h : s.intake u) (fw : Bool) (r : RecItem) : (s.recOffer fw r).1.intake (u.recOffer fw r).1 := by
  unfold recOffer
  rw [recEntry_intake h r.code]
  dsimp only
  generalize (if fw = true then decide (r.code < 0x1000) || (decide (r.code < 0x8000) && (s.recEntry r.code).isNone) else decide (0x1000 ≤ r.code)) = b1
  generalize (decide (996 < r.payload.length) || _ : Bool) = b2
  cases b1 <;> cases b2
  · exact recJudge_intake h _
  · exact bump_intake h (by decide)
  · exact bump_intake h (by decide)
  · exact bump_intake h (by decide)

/-- A record offered in a state that agrees with s is recorded as from s. -/
theorem recorded_intake {s u t : State} (h : s.intake u) {code prio : Nat} {p : List Byte} (hr : t.recorder = (u.offerRec code prio p).recorder)
    (hq : t.hq = (u.offerRec code prio p).hq) : s.recorded t code prio p := by
  have ho : (s.offerRec code prio p).intake (u.offerRec code prio p) := by
    unfold offerRec offerRecAt
    rw [h.now]
    exact recOffer_intake h false _
  exact ⟨hr.trans ho.recorder, hq.trans ho.hq⟩

end State

end Sys2Proof.Machine

/-! SUPPORT. O47, O49: a change of mode, said for what the mode requests and the start-up need (R73, R74, R489). -/

namespace Sys2Proof.Machine

namespace State

/-- A change of mode offers one MODE record as from the state before (R489). -/
theorem setMode_recorded (s : State) (m cause entry : Nat) : s.recorded (s.setMode m cause entry) 0x11 3
    (natLE 1 m ++ natLE 1 s.mode ++ natLE 1 cause ++ natLE 1 0 ++ natLE 1 entry ++ natLE 3 0) := by
  have hk : s.keeps (((s.setF SYS_MODE_PREV s.mode).setF SYS_MODE_MODE m).msix 2) [SYS_MODE] :=
    keeps_setF (x := SYS_MODE_MODE) m (keeps_setF (x := SYS_MODE_PREV) s.mode (keeps_refl s _) (.head _)) (.head _)
  exact recorded_intake (s := s) (u := ((s.setF SYS_MODE_PREV s.mode).setF SYS_MODE_MODE m).msix 2) ⟨rfl, rfl, rfl, rfl, cycleInc_keeps hk (by decide)⟩
    rfl rfl

/-- A field of SYS_MODE beside MODE and PREV stands through a change of mode. -/
theorem setMode_field (s : State) (m cause entry : Nat) {x : Fld} (hx : x.reg = SYS_MODE) (hl : 8 ≤ x.lo) :
    (s.setMode m cause entry).f x = s.f x := by
  unfold setMode
  dsimp only
  rw [f_keeps (offerRec_keeps _ _ _ _) (by rw [hx]; decide), msix_f,
    f_setF_disj _ (x := SYS_MODE_MODE) _ hx (.inl (show 0 + 4 ≤ x.lo by omega)), f_setF_disj _ (x := SYS_MODE_PREV) _ hx (.inl (show 4 + 4 ≤ x.lo by omega))]

theorem releaseHalts_field (s : State) {x : Fld} (hx : x.reg = SYS_MODE) (hl : 9 ≤ x.lo) : s.releaseHalts.f x = s.f x := by
  rw [releaseHalts_eq]
  split
  · rfl
  · unfold showHalt
    rw [f_setB_disj _ (x := SYS_MODE_HALT) _ hx (.inl (show 8 + 1 ≤ x.lo by omega))]
    exact s.resumeTargets_calm.f (by rw [hx]; decide)

/-- A field of SYS_MODE beside MODE, PREV and HALT stands as a mode is entered. -/
theorem enterMode_field (s : State) (m cause entry : Nat) {x : Fld} (hx : x.reg = SYS_MODE) (hl : 9 ≤ x.lo) :
    (s.enterMode m cause entry).f x = s.f x := by
  rw [enterMode_eq, (monitorFrom_calm _ _).f (by rw [hx]; decide), releaseHalts_field _ hx hl, (modeGroups_calm _ m).f (by rw [hx]; decide),
    setMode_field s m cause entry hx (by omega)]

/-- Nothing but the clusters, the tiles and the registers differs. -/
def haltFrame (s t : State) : Prop := t = { s with clusters := t.clusters, tiles := t.tiles, regs := t.regs }

theorem haltFrame_trans {s t u : State} (h : s.haltFrame t) (h' : t.haltFrame u) : s.haltFrame u := by
  unfold haltFrame at *
  exact h'.trans (by rw [h])

theorem resumeCluster_haltFrame (s : State) (c : Fin 12) : s.haltFrame (s.resumeCluster c) := by
  unfold resumeCluster
  split <;> rfl

theorem resumeCluster_keeps (s : State) (c : Fin 12) : s.keeps (s.resumeCluster c) [DBG_STAT] := by
  unfold resumeCluster
  split
  · exact keeps_trans (keeps_of_regs rfl _) (keeps_setF (x := ⟨DBG_STAT, 16 + c, 1⟩) 0 (keeps_refl _ _) (.head _))
  · exact keeps_refl s _

theorem resumeCluster_wheel (s : State) (c : Fin 12) : (s.resumeCluster c).flag DBG_STAT_WHEEL = s.flag DBG_STAT_WHEEL := by
  unfold resumeCluster
  split
  · rw [flag_eq, flag_eq, f_setF_disj _ (x := ⟨DBG_STAT, 16 + c, 1⟩) (y := DBG_STAT_WHEEL) 0 rfl (.inr (show 7 + 1 ≤ 16 + c.val by omega))]
    rfl
  · rfl

/-- With the wheel running the halted targets are clusters, and nothing else changes as they resume. -/
theorem resumeTargets_running {s : State} (hw : s.flag DBG_STAT_WHEEL = false) :
    s.haltFrame s.resumeTargets ∧ s.keeps s.resumeTargets [DBG_STAT] := by
  have hall := foldl_rel (R := fun s t => s.haltFrame t ∧ s.keeps t [DBG_STAT] ∧ t.flag DBG_STAT_WHEEL = s.flag DBG_STAT_WHEEL)
    (fun s => ⟨rfl, keeps_refl s _, rfl⟩) (fun h h' => ⟨haltFrame_trans h.1 h'.1, keeps_trans h.2.1 h'.2.1, h'.2.2.trans h.2.2⟩)
    (g := fun (s : State) c => s.resumeCluster c) (List.finRange 12) s
    fun c _ s => ⟨resumeCluster_haltFrame s c, resumeCluster_keeps s c, resumeCluster_wheel s c⟩
  obtain ⟨hf, hk, hh⟩ := hall
  unfold resumeTargets
  rw [resumeWheel_eq, hh, hw, if_neg (by decide)]
  exact ⟨hf, hk⟩

theorem releaseHalts_running {s : State} (hw : s.flag DBG_STAT_WHEEL = false) :
    s.haltFrame s.releaseHalts ∧ s.keeps s.releaseHalts [DBG_STAT, SYS_MODE] := by
  obtain ⟨hf, hk⟩ := resumeTargets_running hw
  rw [releaseHalts_eq]
  split
  · exact ⟨rfl, keeps_refl s _⟩
  · exact ⟨haltFrame_trans hf rfl, keeps_setB _ (keeps_mono hk (by decide)) (.tail _ (.head _))⟩

/-- Between the modes in which SSM runs with a loaded set, a mode in which torque is allowed is entered by the mode change alone. -/
theorem enterMode_torque {s : State} {m : Nat} (cause entry : Nat) (hm : m = mCOMMISSION ∨ m = mRUN)
    (hs : s.mode ∈ [mCOMMISSION, mRUN, mCHANGEOVER, mSAFE_HOLD, mFAULT]) : s.enterMode m cause entry = (s.setMode m cause entry).releaseHalts := by
  have hin (k : Nat) (hk : k ∈ [mCOMMISSION, mRUN, mCHANGEOVER, mSAFE_HOLD, mFAULT]) :
      [mCOMMISSION, mRUN, mCHANGEOVER, mSAFE_HOLD, mFAULT, mTAKEOVER].contains k = true := by
    revert k
    decide
  have hlt : m < 16 := by rcases hm with rfl | rfl <;> decide
  have hmode : (s.setMode m cause entry).releaseHalts.mode = m := (releaseHalts_mode _).1.trans (setMode_mode s m cause entry hlt)
  have hsafe : (s.setMode m cause entry).releaseHalts.safe = s.safe := (releaseHalts_safe _).trans (setMode_safe s m cause entry)
  have hrun : (s.setMode m cause entry).releaseHalts.ssmRuns = s.ssmRuns := by
    unfold ssmRuns inMode
    rw [hmode, hsafe, hin s.mode hs, hin m (by rcases hm with rfl | rfl <;> decide)]
  rw [enterMode_eq, modeGroups, if_pos (by rcases hm with rfl | rfl <;> decide), monitorFrom, if_pos hrun]

-- ===== a request's end (R75) =====

theorem reqDone_keeps (s : State) (res cond : Nat) : s.keeps (s.reqDone res cond) [SYS_MODE] :=
  keeps_hit (x := SYS_MODE_REQ_DONE) (keeps_setF (x := SYS_MODE_REQ_COND) cond (keeps_setF (x := SYS_MODE_REQ_RES) res (keeps_refl s _) (.head _))
    (.head _)) (.head _)

/-- A field of SYS_MODE below REQ_COND stands through the end of a request. -/
theorem reqDone_field (s : State) (res cond : Nat) {x : Fld} (hx : x.reg = SYS_MODE) (hl : x.lo + x.width ≤ 16) :
    (s.reqDone res cond).f x = s.f x :=
  (f_hit_disj _ (x := SYS_MODE_REQ_DONE) hx (.inr (show x.lo + x.width ≤ 26 by omega))).trans
    ((f_setF_disj _ (x := SYS_MODE_REQ_COND) cond hx (.inr (show x.lo + x.width ≤ 16 by omega))).trans
      (f_setF_disj s (x := SYS_MODE_REQ_RES) res hx (.inr (show x.lo + x.width ≤ 24 by omega))))

theorem reqDone_mode (s : State) (res cond : Nat) : (s.reqDone res cond).mode = s.mode := reqDone_field s res cond rfl (by decide)

theorem reqDone_done (s : State) (res cond : Nat) : (s.reqDone res cond).f SYS_MODE_REQ_DONE = 1 := f_hit_same _ _ (by decide) rfl

theorem reqDone_res (s : State) {res : Nat} (cond : Nat) (h : res < 4) : (s.reqDone res cond).f SYS_MODE_REQ_RES = res :=
  calc (s.reqDone res cond).f SYS_MODE_REQ_RES
      = ((s.setF SYS_MODE_REQ_RES res).setF SYS_MODE_REQ_COND cond).f SYS_MODE_REQ_RES := f_hit_disj _ (x := SYS_MODE_REQ_DONE) rfl (by decide)
    _ = (s.setF SYS_MODE_REQ_RES res).f SYS_MODE_REQ_RES := f_setF_disj _ (x := SYS_MODE_REQ_COND) cond rfl (by decide)
    _ = res := (f_setF_same s _ res (by decide)).trans (Nat.mod_eq_of_lt h)

theorem reqDone_cond (s : State) (res : Nat) {cond : Nat} (h : cond < 256) : (s.reqDone res cond).f SYS_MODE_REQ_COND = cond :=
  calc (s.reqDone res cond).f SYS_MODE_REQ_COND
      = ((s.setF SYS_MODE_REQ_RES res).setF SYS_MODE_REQ_COND cond).f SYS_MODE_REQ_COND := f_hit_disj _ (x := SYS_MODE_REQ_DONE) rfl (by decide)
    _ = cond := (f_setF_same _ _ cond (by decide)).trans (Nat.mod_eq_of_lt h)

theorem reqDone_frame (s : State) (res cond : Nat) : s.reqDone res cond =
    { s with time := { s.time with hits := (s.reqDone res cond).time.hits }, host := (s.reqDone res cond).host, regs := (s.reqDone res cond).regs } := by
  unfold reqDone
  rfl

theorem intake_of_kept {s u : State} {l : List Nat} (hk : s.keeps u l) (hl : TIME_FADJ ∉ l) (hr : u.recorder = s.recorder) (hq : u.hq = s.hq)
    (hn : u.time.now = s.time.now) (hm : u.time.mono = s.time.mono) : s.intake u := ⟨hr, hq, hn, hm, cycleInc_keeps hk hl⟩

theorem recorded_of_intake {s u t : State} (h : s.intake u) {code prio : Nat} {p : List Byte} (hr : u.recorded t code prio p) :
    s.recorded t code prio p := recorded_intake h hr.1 hr.2

theorem recorded_haltFrame {s t u : State} (hf : t.haltFrame u) {code prio : Nat} {p : List Byte} (hr : s.recorded t code prio p) :
    s.recorded u code prio p := by
  unfold recorded
  rw [hf]
  exact hr

end State

/-! SUPPORT. O47: the mode requests (R74 to R76). -/

namespace State

/-- The request is accepted and the mode entered, from a state u that reads as the one of the request in the words of SYS_MODE. -/
def granted (u : State) (m : Nat) : State := (u.reqDone 0 0).enterMode m 0

theorem granted_enters (u : State) {m : Nat} (hm : m < 16) : (u.granted m).mode = m ∧ (u.granted m).f SYS_MODE_PREV = u.mode ∧
    (u.granted m).f SYS_MODE_REQ_RES = 0 ∧ (u.granted m).f SYS_MODE_REQ_DONE = 1 := by
  obtain ⟨h1, h2⟩ := enterMode_mode (u.reqDone 0 0) 0 255 hm
  exact ⟨h1, h2.trans (u.reqDone_mode 0 0), (enterMode_field _ m 0 255 rfl (by decide)).trans (u.reqDone_res 0 (by decide)),
    (enterMode_field _ m 0 255 rfl (by decide)).trans (u.reqDone_done 0 0)⟩

theorem granted_torque {u : State} {m : Nat} (hm : m = mCOMMISSION ∨ m = mRUN) (hu : u.mode ∈ [mCOMMISSION, mRUN, mSAFE_HOLD, mFAULT]) :
    u.granted m = ((u.reqDone 0 0).setMode m 0).releaseHalts := by
  refine enterMode_torque 0 255 hm ?_
  rw [reqDone_mode]
  exact List.mem_of_mem_filter (p := fun k => k != mCHANGEOVER) hu

theorem granted_safe {u : State} {m : Nat} (hm : m = mCOMMISSION ∨ m = mRUN) (hu : u.mode ∈ [mCOMMISSION, mRUN, mSAFE_HOLD, mFAULT]) :
    (u.granted m).safe = u.safe := by
  rw [granted_torque hm hu, releaseHalts_safe, setMode_safe]
  rfl

theorem granted_wheel (u : State) (m : Nat) : ((u.reqDone 0 0).setMode m 0).flag DBG_STAT_WHEEL = u.flag DBG_STAT_WHEEL :=
  flag_keeps (keeps_trans (keeps_mono (u.reqDone_keeps 0 0) (by decide)) (setMode_keeps _ m 0 255)) (by decide)

/-- With the wheel running an accepted request writes the mode's registers and resumes clusters. -/
theorem granted_running {u : State} {m : Nat} (hm : m = mCOMMISSION ∨ m = mRUN) (hu : u.mode ∈ [mCOMMISSION, mRUN, mSAFE_HOLD, mFAULT])
    (hw : u.flag DBG_STAT_WHEEL = false) :
    u.recorded (u.granted m) 0x11 3 (natLE 1 m ++ natLE 1 u.mode ++ natLE 1 0 ++ natLE 1 0 ++ natLE 1 255 ++ natLE 3 0) ∧
      u.keeps (u.granted m) (DBG_STAT :: modeRegs) ∧
      u.granted m = { u with time := { u.time with hits := (u.granted m).time.hits }, host := (u.granted m).host, hq := (u.granted m).hq,
                             recorder := (u.granted m).recorder, clusters := (u.granted m).clusters, tiles := (u.granted m).tiles,
                             regs := (u.granted m).regs } := by
  obtain ⟨hf, hk⟩ := releaseHalts_running ((granted_wheel u m).trans hw)
  have hq : u.keeps (u.reqDone 0 0) [SYS_MODE] := u.reqDone_keeps 0 0
  rw [granted_torque hm hu]
  refine ⟨recorded_haltFrame hf (recorded_of_intake (intake_of_kept hq (by decide) rfl rfl rfl rfl) ?_), ?_, ?_⟩
  · have hr := setMode_recorded (u.reqDone 0 0) m 0 255
    rwa [reqDone_mode] at hr
  · exact keeps_trans (keeps_trans (keeps_mono hq (by decide)) (keeps_mono (setMode_keeps _ m 0 255) (by decide))) (keeps_mono hk (by decide))
  · refine Eq.trans hf ?_
    have hs := setMode_frame (u.reqDone 0 0) m 0 255
    generalize ((u.reqDone 0 0).setMode m 0).releaseHalts = v at hf ⊢
    unfold haltFrame at hf
    generalize (u.reqDone 0 0).setMode m 0 = w at hs hf ⊢
    rw [hf, hs]
    rfl

end State

end Sys2Proof.Machine

/-! SUPPORT. O47: the structure is dropped as BARE is entered (R74, R216, R392). -/

namespace Sys2Proof.Machine

namespace State

def idleRing (s : State) (r : Fin 2) : State := if s.rstate r = rSILENT then s else s.setF (KR_STAT_STATE r) rIDLE

/-- The rings are IDLE but for a SILENT one (R392). -/
def ringsIdle (s : State) : State := (s.idleRing 0).idleRing 1

/-- Nothing of the structure stays in the queues or the wheel. -/
def itemsGone (s : State) : State := ((s.swapItems s.st {}).withdraw 10 (fun _ => true)).setDescs []

/-- Every EV pin is low (R78). -/
def pinsLow (s : State) : State := (List.range 16).foldl (fun (s : State) n => s.restPin n false) s

/-- The structure's registers read 0, the budgets and the windows are those of an empty one (R551). -/
def regsGone (s : State) : State := ((s.wrAll (s.st.regs.map (fun (p : Nat × Word) => (p.1, 0)))).takeBudgets {}).resetUnused {}

/-- CFG shows that no image runs. -/
def runHidden (s : State) : State :=
  (((s.setF CFG_STAT_RUN_VALID 0).setF CFG_STAT_RUN_SLOT 15).wrN CFG_RUN_SID 0).wrWords (CFG_RUN_HASH 0) (List.replicate 12 0)

/-- The blocks hold nothing of the structure any more. -/
def structGone (s : State) : State :=
  { s with cfg := { s.cfg with run := none, loading := none, nodesFor := none, carried := [], postEnd := none, notice := false,
                               tried := none, frameAt := none, eligibleAt := none },
           safe := { s.safe with loaded := false, safety := {}, kine := [] },
           fio := { s.fio with start := true } }

theorem dropStructure_eq (s : State) :
    s.dropStructure = (s.dropShadow.ringsIdle.itemsGone.pinsLow.regsGone.runHidden.structGone).syncFmode := rfl

/-- Every word but those of the mode and of the rings' states. -/
abbrev bareWord (a : Nat) : Prop := a ≠ SYS_MODE ∧ a ≠ KR_STAT 0 ∧ a ≠ KR_STAT 1

theorem bareWord_blockWord : ∀ a, blockWord a → bareWord a := by
  intro a h
  refine ⟨?_, ?_, ?_⟩ <;> rintro rfl <;> exact absurd h (by decide)

theorem bareWord_of_unused {a : Nat} (h : instanceUsed {} a = false) : bareWord a := by
  refine ⟨?_, ?_, ?_⟩ <;> rintro rfl <;> exact absurd h (by decide)

theorem idleRing_same (s : State) {r : Fin 2} (h : s.rstate r ≠ rSILENT) : (s.idleRing r).rstate r = rIDLE := by
  unfold idleRing
  rw [if_neg h]
  exact f_setF_zero s (KR_STAT_STATE r) (by fin_cases r <;> decide)

theorem idleRing_keeps (s : State) (r : Fin 2) : s.keeps (s.idleRing r) [KR_STAT r] := by
  unfold idleRing
  split
  · exact keeps_refl s _
  · exact keeps_setF (x := KR_STAT_STATE r) rIDLE (keeps_refl s _) (.head _)

theorem idleRing_frame (s : State) (r : Fin 2) : s.idleRing r = { s with regs := (s.idleRing r).regs } := by
  unfold idleRing
  split <;> rfl

theorem idleRing_other (s : State) {r q : Fin 2} (h : q ≠ r) : (s.idleRing r).rstate q = s.rstate q :=
  f_keeps (x := KR_STAT_STATE q) (s.idleRing_keeps r) (by revert h; revert q r; decide)

theorem ringsIdle_rstate (s : State) {r : Fin 2} (h : s.rstate r ≠ rSILENT) : s.ringsIdle.rstate r = rIDLE := by
  unfold ringsIdle
  match r with
  | 0 => rw [idleRing_other _ (by decide), idleRing_same s h]
  | 1 => exact idleRing_same _ (by rwa [idleRing_other s (by decide)])

theorem ringsIdle_keeps (s : State) : s.keeps s.ringsIdle [KR_STAT 0, KR_STAT 1] :=
  keeps_trans (keeps_mono (s.idleRing_keeps 0) (by decide)) (keeps_mono ((s.idleRing 0).idleRing_keeps 1) (by decide))

theorem ringsIdle_frame (s : State) : s.ringsIdle = { s with regs := s.ringsIdle.regs } := by
  unfold ringsIdle
  rw [idleRing_frame, idleRing_frame]

theorem itemsGone_calm (s : State) : s.calm s.itemsGone blockWord :=
  (setDescs_calm _ _).after ((withdraw_calm _ _ _).after (swapItems_calm s _ _))

theorem pinsLow_calm (s : State) : s.calm s.pinsLow blockWord := calm_foldl _ s fun n _ u => restPin_calm u n false

theorem regsGone_calm (s : State) (h : ∀ p ∈ s.st.regs, bareWord p.1) : s.calm s.regsGone bareWord := by
  refine (resetUnused_calm _ _ fun a => bareWord_of_unused).after (((takeBudgets_calm _ _).mono bareWord_blockWord).after (wrAll_calm s _ ?_))
  intro p hp
  obtain ⟨q, hq, rfl⟩ := List.mem_map.mp hp
  exact h q hq

theorem runHidden_calm (s : State) : s.calm s.runHidden bareWord := by
  refine (wrWords_calm _ _ _ fun i hi => ?_).after (calm_wrN 0 (calm_setF (x := CFG_STAT_RUN_SLOT) 15 (calm_setF (x := CFG_STAT_RUN_VALID) 0
    (calm_refl s) (by decide)) (by decide)) (by decide))
  rw [List.length_replicate] at hi
  unfold CFG_RUN_HASH
  refine ⟨?_, ?_, ?_⟩
  · unfold SYS_MODE; omega
  · unfold KR_STAT krBase; omega
  · unfold KR_STAT krBase; omega

theorem runHidden_valid (s : State) : s.runHidden.f CFG_STAT_RUN_VALID = 0 := by
  unfold runHidden
  rw [f_of_rd (rd_wrWords _ _ _ (r := CFG_STAT_RUN_VALID.reg) (.inl (by decide))), f_wrN_ne _ _ (by decide), f_setF_disj _ _ (by rfl) (by decide),
    f_setF_zero _ _ (by decide)]

-- ===== the Hardpan's groups and the descriptors =====

theorem complete_safe (s : State) (id : Nat) (c : Completion) : (s.complete id c).safe = s.safe := by
  unfold complete
  split
  · rfl
  · dsimp only
    split
    · rfl
    · rw [writeCq_eq]
      rfl

/-- The Hardpan is as it was. -/
structure safeKept (s t : State) : Prop where
  safe : t.safe = s.safe

theorem safeKept_refl (s : State) : s.safeKept s := ⟨rfl⟩

theorem safeKept.after {s t u : State} (h' : t.safeKept u) (h : s.safeKept t) : s.safeKept u := ⟨h'.safe.trans h.safe⟩

theorem safeKept_foldl {α : Type} {g : State → α → State} (l : List α) (s : State) (h : ∀ (u : State) a, u.safeKept (g u a)) : s.safeKept (l.foldl g s) :=
  foldl_rel safeKept_refl (fun h h' => h'.after h) l s fun a _ u => h u a

theorem unqueue_safeKept (s : State) (w : Work) : s.safeKept (s.unqueue w) := by
  unfold unqueue
  dsimp only
  split <;> exact ⟨rfl⟩

theorem endWork_safeKept (s : State) (w : Work) (adm res : Nat) : s.safeKept (s.endWork w adm res) := ⟨safe_ite (complete_safe s _ _) rfl⟩

theorem swapItems_safeKept (s : State) (o n : Structure) : s.safeKept (s.swapItems o n) := by
  have hc (u : State) (n : Fin 16) (p : QItem → Bool) : u.safeKept (u.cancelItems n p) := ⟨rfl⟩
  have hm (u : State) (n : Fin 16) (g : Queue → Queue) : u.safeKept (u.modQueue n g) := ⟨rfl⟩
  unfold swapItems
  dsimp only
  refine (safeKept_foldl _ _ fun u w => (endWork_safeKept _ w _ _).after (unqueue_safeKept u w)).after ((hm _ 4 _).after ?_)
  exact (safeKept_foldl _ _ fun u q => hm u q _).after ((hc _ 1 _).after ((hc _ 0 _).after (hc s 12 _)))

/-- The Hardpan and the descriptors of the wheel are as they were. -/
structure stillHeld (s t : State) : Prop where
  safe : t.safe = s.safe
  descs : t.wheel.descs = s.wheel.descs

theorem stillHeld_refl (s : State) : s.stillHeld s := ⟨rfl, rfl⟩

theorem stillHeld.after {s t u : State} (h' : t.stillHeld u) (h : s.stillHeld t) : s.stillHeld u :=
  ⟨h'.safe.trans h.safe, h'.descs.trans h.descs⟩

theorem stillHeld_foldl {α : Type} {g : State → α → State} (l : List α) (s : State) (h : ∀ (u : State) a, u.stillHeld (g u a)) :
    s.stillHeld (l.foldl g s) := foldl_rel stillHeld_refl (fun h h' => h'.after h) l s fun a _ u => h u a

theorem pinsLow_stillHeld (s : State) : s.stillHeld s.pinsLow :=
  stillHeld_foldl _ s fun _ _ => ⟨rfl, rfl⟩

theorem regsGone_stillHeld (s : State) : s.stillHeld s.regsGone := by
  have hw (u : State) (ps : List (Nat × Word)) : u.stillHeld (u.wrAll ps) := by
    rw [wrAll_frame]
    exact ⟨rfl, rfl⟩
  have hb (u : State) (st : Structure) : u.stillHeld (u.takeBudgets st) := by
    unfold takeBudgets
    dsimp only
    refine (stillHeld_foldl _ _ fun v n => ?_).after ⟨rfl, rfl⟩
    exact ⟨(setF_safe _ _ _).trans (setF_safe _ _ _), by rw [setF_wheel, setF_wheel]⟩
  have hz (u : State) (st : Structure) : u.stillHeld (u.resetUnused st) := ⟨rfl, rfl⟩
  unfold regsGone
  exact (hz _ _).after ((hb _ _).after (hw s _))

theorem runHidden_stillHeld (s : State) : s.stillHeld s.runHidden := by
  unfold runHidden
  rw [wrWords_frame]
  exact ⟨rfl, rfl⟩

theorem syncFmode_stillHeld (s : State) : s.stillHeld s.syncFmode := by
  unfold syncFmode
  dsimp only
  split
  · exact ⟨rfl, rfl⟩
  · split
    · exact ⟨rfl, rfl⟩
    · split <;> exact ⟨rfl, rfl⟩

theorem itemsGone_descs (s : State) : s.itemsGone.wheel.descs = [] := rfl

theorem itemsGone_safe (s : State) : s.itemsGone.safe = s.safe := (swapItems_safeKept s s.st {}).safe

theorem dropShadow_safe (s : State) : s.dropShadow.safe = s.safe := by
  rw [s.dropShadow_spec.2.2.1]

/-- The state in which the structure is gone and CFG shows it, before the blocks forget it. -/
def emptied (s : State) : State := s.dropShadow.ringsIdle.itemsGone.pinsLow.regsGone.runHidden

theorem dropStructure_emptied (s : State) : s.dropStructure = s.emptied.structGone.syncFmode := rfl

theorem emptied_calm (s : State) (hr : ∀ p ∈ s.st.regs, bareWord p.1) : s.dropShadow.ringsIdle.calm s.emptied bareWord := by
  have hst : s.dropShadow.ringsIdle.st = s.st := by
    unfold st
    rw [ringsIdle_frame, s.dropShadow_spec.1]
  have h3 : s.dropShadow.ringsIdle.calm s.dropShadow.ringsIdle.itemsGone.pinsLow blockWord := (pinsLow_calm _).after (itemsGone_calm _)
  unfold emptied
  exact (runHidden_calm _).after ((regsGone_calm _ (by rw [h3.st, hst]; exact hr)).after (h3.mono bareWord_blockWord))

theorem emptied_stillHeld (s : State) : s.dropShadow.ringsIdle.itemsGone.stillHeld s.emptied := by
  unfold emptied
  exact (runHidden_stillHeld _).after ((regsGone_stillHeld _).after (pinsLow_stillHeld _))

theorem emptied_safe (s : State) : s.emptied.safe = s.safe := by
  rw [s.emptied_stillHeld.safe, itemsGone_safe, ringsIdle_frame, dropShadow_safe]

theorem emptied_descs (s : State) : s.emptied.wheel.descs = [] := by
  rw [s.emptied_stillHeld.descs, itemsGone_descs]

theorem structGone_rd (s : State) (a : Nat) : s.structGone.rd a = s.rd a := rfl

theorem structGone_f (s : State) (x : Fld) : s.structGone.f x = s.f x := rfl

theorem structGone_group (s : State) (c : Fin 2) (g : Fin 4) : s.structGone.group c g = s.group c g := rfl

theorem group_congr {s t : State} (h : t.safe = s.safe) (c : Fin 2) (g : Fin 4) : t.group c g = s.group c g := by
  unfold group chan
  rw [h]

section

variable {s : State} (hr : ∀ p ∈ s.st.regs, bareWord p.1)
include hr

theorem dropStructure_rd {a : Nat} (ha : ¬ bareWord a) : s.dropStructure.rd a = s.dropShadow.ringsIdle.rd a := by
  rw [dropStructure_emptied, (syncFmode_calm _).rd fun h => ha (bareWord_blockWord a h), structGone_rd, (emptied_calm s hr).rd ha]

theorem dropStructure_mode : s.dropStructure.rd SYS_MODE = s.rd SYS_MODE := by
  rw [dropStructure_rd hr (by decide), ringsIdle_keeps _ _ (by decide), s.dropShadow_spec.2.1 _ (by decide)]

theorem dropStructure_shadow : s.dropStructure.cfg.shadow = none := by
  rw [dropStructure_emptied, (syncFmode_calm _).cfg, structGone, (emptied_calm s hr).cfg, ringsIdle_frame, s.dropShadow_spec.1]

theorem dropStructure_rstate {r : Fin 2} (h : s.rstate r ≠ rSILENT) : s.dropStructure.rstate r = rIDLE := by
  have hs : s.dropShadow.rstate r = s.rstate r :=
    f_keeps (x := KR_STAT_STATE r) s.dropShadow_spec.2.1 (show KR_STAT r ∉ shadowRegs by fin_cases r <;> decide)
  have hw : s.dropStructure.rstate r = s.dropShadow.ringsIdle.rstate r :=
    f_of_rd (x := KR_STAT_STATE r) (dropStructure_rd hr (show ¬ bareWord (KR_STAT r) by fin_cases r <;> decide))
  rw [hw, ringsIdle_rstate _ (by rwa [hs])]

end

theorem dropStructure_run (s : State) : s.dropStructure.cfg.run = none := by
  rw [dropStructure_emptied, (syncFmode_calm _).cfg, structGone]

theorem dropStructure_group (s : State) (c : Fin 2) (g : Fin 4) : s.dropStructure.group c g = s.group c g := by
  rw [dropStructure_emptied, group_congr (syncFmode_stillHeld _).safe, structGone_group, group_congr s.emptied_safe]

theorem dropStructure_descs (s : State) : s.dropStructure.wheel.descs = [] := by
  rw [dropStructure_emptied, (syncFmode_stillHeld _).descs, structGone, emptied_descs]

theorem dropStructure_valid (s : State) : s.dropStructure.f CFG_STAT_RUN_VALID = 0 := by
  rw [dropStructure_emptied, (syncFmode_calm _).f (by decide), structGone_f, emptied, runHidden_valid]

end State

end Sys2Proof.Machine

/-! SUPPORT. O47: each request by its cases (R74 to R76, R469). -/

namespace Sys2Proof.Machine

/-- The request ends with a result and its conditions, in the mode that it found. -/
def State.endsWith (c : Instr) (s u : State) (res cond : Nat) : Prop :=
  ∃ t, exec c s = .next t ∧ t.f SYS_MODE_REQ_RES = res ∧ t.f SYS_MODE_REQ_COND = cond ∧ t.f SYS_MODE_REQ_DONE = 1 ∧ t.mode = u.mode ∧
    u.keeps t [SYS_MODE] ∧ t = { u with time := { u.time with hits := t.time.hits }, host := t.host, regs := t.regs }

theorem State.endsWith_of {c : Instr} {s u : State} {res cond : Nat} (h : exec c s = .next (u.reqDone res cond)) (hr : res < 4) (hc : cond < 256) :
    State.endsWith c s u res cond :=
  ⟨_, h, u.reqDone_res cond hr, u.reqDone_cond res hc, u.reqDone_done res cond, u.reqDone_mode res cond, u.reqDone_keeps res cond,
    u.reqDone_frame res cond⟩

/-- The conditions of a request for RUN fit REQ_COND. -/
theorem State.runCond_lt (s : State) : s.runCond < 256 := by
  have hsum : ∀ a b c d e f : Bool, b2n a + 2 * b2n b + 4 * b2n c + 8 * b2n d + 16 * b2n e + 32 * b2n f < 256 := by decide
  exact hsum _ _ _ _ _ _

theorem State.movingCond_eq (s : State) : s.movingCond = if s.standstill then 0 else 64 := rfl

theorem State.inMode_two {s : State} {m k : Nat} : s.inMode [m, k] = true ↔ s.mode = m ∨ s.mode = k := by
  unfold State.inMode
  simp

section

variable {s : State} (h : s.mapOpen = true)

theorem modeReq_ignored {k : Nat} (h : k ≠ 0x4D44 ∨ s.mapOpen = false) : execModeReqRun k s = .next s ∧ execModeReqCommission k s = .next s ∧
    execModeReqSafeHold k s = .next s ∧ execModeReqBare k s = .next s := by
  have hc : k ≠ 0x4D44 ∨ (!s.mapOpen) = true := h.imp_right fun h => by rw [h]; rfl
  exact ⟨congrArg _ (if_pos hc), congrArg _ (if_pos hc), congrArg _ (if_pos hc), congrArg _ (if_pos hc)⟩

include h

/-- With the key and an open map a request for RUN is judged. -/
theorem execModeReqRun_open : execModeReqRun 0x4D44 s = .next (if !s.eventsFirst.inMode [mCOMMISSION, mSAFE_HOLD] then s.eventsFirst.reqDone 1 0
    else if s.eventsFirst.runCond ≠ 0 then s.eventsFirst.reqDone 2 s.eventsFirst.runCond else s.eventsFirst.granted mRUN) :=
  congrArg _ (if_neg (by simp [h]))

theorem execModeReqCommission_open : execModeReqCommission 0x4D44 s = .next (
    if s.eventsFirst.mode = mRUN then
      (if s.eventsFirst.movingCond ≠ 0 then s.eventsFirst.reqDone 2 s.eventsFirst.movingCond else s.eventsFirst.granted mCOMMISSION)
    else if s.eventsFirst.mode = mSAFE_HOLD then s.eventsFirst.granted mCOMMISSION
    else if s.eventsFirst.mode = mFAULT ∧ !s.eventsFirst.flag SYS_MODE_HOLD then
      (if s.eventsFirst.fltCleared then s.eventsFirst.keepFaultLevels.granted mCOMMISSION
        else s.eventsFirst.reqDone 2 (8 * b2n s.eventsFirst.fltUnack))
    else s.eventsFirst.reqDone 1 0) :=
  congrArg _ (if_neg (by simp [h]))

theorem execModeReqSafeHold_open : execModeReqSafeHold 0x4D44 s = .next (
    if s.eventsFirst.inMode [mCOMMISSION, mRUN] then s.eventsFirst.granted mSAFE_HOLD else s.eventsFirst.reqDone 1 0) :=
  congrArg _ (if_neg (by simp [h]))

theorem execModeReqBare_open : execModeReqBare 0x4D44 s = .next (
    if s.eventsFirst.inMode [mCOMMISSION, mSAFE_HOLD] ∨ (s.eventsFirst.mode = mFAULT ∧ !s.eventsFirst.flag SYS_MODE_HOLD) then
      (if s.eventsFirst.movingCond ≠ 0 then s.eventsFirst.reqDone 2 s.eventsFirst.movingCond else (s.eventsFirst.granted mBARE).dropStructure)
    else s.eventsFirst.reqDone 1 0) :=
  congrArg _ (if_neg (by simp [h]))

end

namespace State

theorem granted_calm (u : State) (m : Nat) : u.calm (u.granted m) modeWord :=
  (enterMode_calm _ m 0 255).after (calm_of_keeps rfl rfl rfl (u.reqDone_keeps 0 0) fun _ hr => .inr (List.mem_singleton.mp hr))

/-- Granted, a request for BARE leaves every group in OFF and nothing of the structure. -/
theorem granted_bare {u : State} (hr : ∀ p ∈ u.st.regs, bareWord p.1) : (u.granted mBARE).dropStructure.mode = mBARE ∧
    (u.granted mBARE).dropStructure.f SYS_MODE_PREV = u.mode ∧ (u.granted mBARE).dropStructure.f SYS_MODE_REQ_RES = 0 ∧
    (∀ (c : Fin 2) (g : Fin 4), ((u.granted mBARE).dropStructure.group c g).state = 0) ∧ (u.granted mBARE).dropStructure.cfg.run = none ∧
    (u.granted mBARE).dropStructure.cfg.shadow = none ∧ (u.granted mBARE).dropStructure.f CFG_STAT_RUN_VALID = 0 ∧
    (u.granted mBARE).dropStructure.wheel.descs = [] ∧
    ∀ r : Fin 2, u.rstate r ≠ rSILENT → (u.granted mBARE).dropStructure.rstate r = rIDLE := by
  obtain ⟨hm, hp, hres, -⟩ := u.granted_enters (m := mBARE) (by decide)
  have hst : ∀ p ∈ (u.granted mBARE).st.regs, bareWord p.1 := by rwa [(u.granted_calm mBARE).st]
  have hword {x : Fld} (hx : x.reg = SYS_MODE) : (u.granted mBARE).dropStructure.f x = (u.granted mBARE).f x :=
    f_of_rd (by rw [hx]; exact dropStructure_mode hst)
  refine ⟨(hword rfl).trans hm, (hword rfl).trans hp, (hword rfl).trans hres, fun c g => ?_, dropStructure_run _, dropStructure_shadow hst,
    dropStructure_valid _, dropStructure_descs _, fun r hn => dropStructure_rstate hst ?_⟩
  · rw [dropStructure_group]
    exact enterMode_off _ 0 255 (by decide) c g
  · unfold rstate at hn ⊢
    rwa [(u.granted_calm mBARE).f (show ¬ modeWord (KR_STAT r) by fin_cases r <;> decide)]

/-- The modes that a request for BARE leaves. -/
theorem leavesForBare_iff (u : State) : (u.inMode [mCOMMISSION, mSAFE_HOLD] = true ∨ (u.mode = mFAULT ∧ (!u.flag SYS_MODE_HOLD) = true)) ↔
    u.mode = mCOMMISSION ∨ u.mode = mSAFE_HOLD ∨ (u.mode = mFAULT ∧ u.flag SYS_MODE_HOLD = false) := by
  rw [inMode_two, or_assoc, Bool.not_eq_true']

/-- FAULT is left with the levels of its outputs in FIO_OUT (R518). -/
theorem keepFaultLevels_fault {u : State} (hm : u.mode = mFAULT) (hh : u.flag SYS_MODE_HOLD = false) :
    u.keepFaultLevels = u.wrN FIO_OUT u.faultLevels := if_pos ⟨hm, by rw [hh]; rfl⟩

section

variable {u : State} (hm : u.mode = mFAULT) (hh : u.flag SYS_MODE_HOLD = false)
include hm hh

theorem keepFaultLevels_keeps : u.keeps u.keepFaultLevels [FIO_OUT] := by
  rw [keepFaultLevels_fault hm hh]
  exact keeps_wrN _ (keeps_refl u _) (.head _)

theorem keepFaultLevels_mode : u.keepFaultLevels.mode = u.mode := f_keeps (x := SYS_MODE_MODE) (keepFaultLevels_keeps hm hh) (by decide)

/-- Accepted in FAULT, a request for COMMISSION is recorded as from FAULT, and with the wheel running the levels stand. -/
theorem granted_fault (hw : u.flag DBG_STAT_WHEEL = false) :
    u.recorded (u.keepFaultLevels.granted mCOMMISSION) 0x11 3
      (natLE 1 mCOMMISSION ++ natLE 1 u.mode ++ natLE 1 0 ++ natLE 1 0 ++ natLE 1 255 ++ natLE 3 0) ∧
    (u.keepFaultLevels.granted mCOMMISSION).rdN FIO_OUT = u.faultLevels % 4294967296 := by
  have hk := keepFaultLevels_keeps hm hh
  have hmode := keepFaultLevels_mode hm hh
  obtain ⟨hr, hg, -⟩ := granted_running (u := u.keepFaultLevels) (m := mCOMMISSION) (.inl rfl) (by rw [hmode, hm]; decide)
    ((flag_keeps hk (by decide)).trans hw)
  rw [hmode] at hr
  refine ⟨recorded_of_intake ?_ hr, ?_⟩
  · refine intake_of_kept hk (by decide) ?_ ?_ ?_ ?_ <;> (rw [keepFaultLevels_fault hm hh]; rfl)
  · rw [rdN_keeps hg (by decide), keepFaultLevels_fault hm hh, rdN_wrN_same]

end

end State

/-- Settles O47: a request either ends with its result (State.reqDone) or is granted (State.granted); BARE then drops the structure. -/
theorem modeRequests : Obligations.ModeRequests := by
  unfold Obligations.ModeRequests
  refine ⟨fun s k h => modeReq_ignored h, ?_, ?_, ?_, ?_, ?_, ?_, ?_, ?_, ?_, ?_, ?_, ?_, ?_, ?_⟩
  · -- RUN, accepted
    rintro s _ ⟨ho, rfl⟩ hm hc
    have hmem : s.eventsFirst.mode ∈ [mCOMMISSION, mRUN, mSAFE_HOLD, mFAULT] := by rcases hm with h | h <;> rw [h] <;> decide
    have hn := fun hw => State.granted_running (m := mRUN) (.inr rfl) hmem hw
    refine ⟨s.eventsFirst.granted mRUN, (execModeReqRun_open ho).trans (congrArg _ ?_), State.granted_enters _ (by decide), fun hw => (hn hw).1,
      State.granted_safe (.inr rfl) hmem, fun hw => (hn hw).2⟩
    rw [State.inMode_two.mpr hm, if_neg (by decide), if_neg (by simp [hc])]
  · rintro s _ ⟨ho, rfl⟩ hm hc
    refine State.endsWith_of ((execModeReqRun_open ho).trans (congrArg _ ?_)) (by decide) s.eventsFirst.runCond_lt
    rw [State.inMode_two.mpr hm, if_neg (by decide), if_pos hc]
  · rintro s _ ⟨ho, rfl⟩ h1 h2
    refine State.endsWith_of ((execModeReqRun_open ho).trans (congrArg _ ?_)) (by decide) (by decide)
    rw [if_pos (by simp [State.inMode, h1, h2])]
  · -- COMMISSION from RUN, at standstill
    rintro s _ ⟨ho, rfl⟩ hm hs
    have hmem : s.eventsFirst.mode ∈ [mCOMMISSION, mRUN, mSAFE_HOLD, mFAULT] := by rw [hm]; decide
    refine ⟨s.eventsFirst.granted mCOMMISSION, (execModeReqCommission_open ho).trans (congrArg _ ?_), State.granted_enters _ (by decide),
      fun hw => (State.granted_running (.inl rfl) hmem hw).1, State.granted_safe (.inl rfl) hmem⟩
    rw [if_pos hm, if_neg (by simp [State.movingCond_eq, hs])]
  · rintro s _ ⟨ho, rfl⟩ hm hs
    refine State.endsWith_of ((execModeReqCommission_open ho).trans (congrArg _ ?_)) (by decide) (by decide)
    rw [if_pos hm, State.movingCond_eq, hs]
    rfl
  · rintro s _ ⟨ho, rfl⟩ hm
    have hmem : s.eventsFirst.mode ∈ [mCOMMISSION, mRUN, mSAFE_HOLD, mFAULT] := by rw [hm]; decide
    refine ⟨s.eventsFirst.granted mCOMMISSION, (execModeReqCommission_open ho).trans (congrArg _ ?_), State.granted_enters _ (by decide),
      fun hw => (State.granted_running (.inl rfl) hmem hw).1⟩
    rw [if_neg (by rw [hm]; decide), if_pos hm]
  · -- COMMISSION from FAULT
    rintro s _ ⟨ho, rfl⟩ hm hh hf
    obtain ⟨h1, h2, h3⟩ := State.granted_enters s.eventsFirst.keepFaultLevels (m := mCOMMISSION) (by decide)
    rw [State.keepFaultLevels_mode hm hh] at h2
    refine ⟨s.eventsFirst.keepFaultLevels.granted mCOMMISSION, (execModeReqCommission_open ho).trans (congrArg _ ?_), ⟨h1, h2, h3⟩,
      fun hw => (State.granted_fault hm hh hw).1, fun hw => (State.granted_fault hm hh hw).2⟩
    rw [if_neg (by rw [hm]; decide), if_neg (by rw [hm]; decide), if_pos ⟨hm, by rw [hh]; rfl⟩, if_pos hf]
  · rintro s _ ⟨ho, rfl⟩ hm hh hf
    refine State.endsWith_of ((execModeReqCommission_open ho).trans (congrArg _ ?_)) (by decide) (by cases s.eventsFirst.fltUnack <;> decide)
    rw [if_neg (by rw [hm]; decide), if_neg (by rw [hm]; decide), if_pos ⟨hm, by rw [hh]; rfl⟩, hf, if_neg (by decide)]
  · rintro s _ ⟨ho, rfl⟩ h1 h2 h3
    refine State.endsWith_of ((execModeReqCommission_open ho).trans (congrArg _ ?_)) (by decide) (by decide)
    rw [if_neg h1, if_neg h2, if_neg]
    rintro ⟨hm, hh⟩
    rcases h3 with h3 | h3
    · exact h3 hm
    · simp [h3] at hh
  · -- SAFE_HOLD
    rintro s _ ⟨ho, rfl⟩ hm
    refine ⟨s.eventsFirst.granted mSAFE_HOLD, (execModeReqSafeHold_open ho).trans (congrArg _ (if_pos (State.inMode_two.mpr hm))),
      State.granted_enters _ (by decide), State.enterMode_off _ 0 255 (by decide)⟩
  · rintro s _ ⟨ho, rfl⟩ h1 h2
    refine State.endsWith_of ((execModeReqSafeHold_open ho).trans (congrArg _ (if_neg ?_))) (by decide) (by decide)
    simp [State.inMode, h1, h2]
  · -- BARE
    rintro s _ ⟨ho, rfl⟩ hb hs hr
    refine ⟨_, (execModeReqBare_open ho).trans (congrArg _ ?_), State.granted_bare hr⟩
    rw [if_pos ((State.leavesForBare_iff _).mpr hb), if_neg (by simp [State.movingCond_eq, hs])]
  · rintro s _ ⟨ho, rfl⟩ hb hs
    refine State.endsWith_of ((execModeReqBare_open ho).trans (congrArg _ ?_)) (by decide) (by decide)
    rw [if_pos ((State.leavesForBare_iff _).mpr hb), State.movingCond_eq, hs]
    rfl
  · rintro s _ ⟨ho, rfl⟩ hb
    refine State.endsWith_of ((execModeReqBare_open ho).trans (congrArg _ (if_neg ?_))) (by decide) (by decide)
    exact fun h => hb ((State.leavesForBare_iff _).mp h)

end Sys2Proof.Machine

/-! SUPPORT. O49: the scan that runs stands through a change to a mode in which the wheel does not act (R74, R122, R480). -/

namespace Sys2Proof.Machine

namespace State

/-- The fields of REC_STAT that the recorder's intake does not set: those below DROP. -/
abbrev scanField (x : Fld) : Prop := x.reg = REC_STAT ∧ x.lo + x.width ≤ 3

section

variable {x : Fld} (hx : scanField x)
include hx

theorem noteDrop_scan (s : State) (p : Nat) : (s.noteDrop p).f x = s.f x := by
  unfold noteDrop
  dsimp only
  rw [f_bump_ne _ (by rw [hx.1]; decide), f_bump_ne _ (by rw [hx.1]; decide),
    f_setF_disj _ (x := REC_STAT_EPISODE) 1 hx.1 (.inr (show x.lo + x.width ≤ 6 by omega))]
  split
  · exact f_hit_disj _ (x := REC_STAT_DROP) hx.1 (.inr hx.2)
  · rfl

theorem recMakeRoom_scan (s : State) (r : RecItem) (it : QItem) (k : Nat) : (s.recMakeRoom r it k).1.f x = s.f x := by
  induction k generalizing s with
  | zero => rfl
  | succ k ih =>
    unfold recMakeRoom
    split
    · next u hu => exact f_keeps (offer_some hu).2.2.2.1 (by rw [hx.1]; decide)
    · dsimp only
      split
      · exact noteDrop_scan hx s _
      · exact (ih _).trans (noteDrop_scan hx _ _)

theorem recJudge_scan (s : State) (r : RecItem) : (s.recJudge r).1.f x = s.f x := by
  have hq (u : State) (r : RecItem) : (u.recEnqueue r).1.f x = u.f x := recMakeRoom_scan hx u r _ _
  unfold recJudge
  split
  · exact hq s r
  · split
    · exact hq s r
    · dsimp only
      split
      · refine (f_bump_ne _ (by rw [hx.1]; decide)).trans (f_hit_disj _ (x := REC_STAT_SUPP) hx.1 (.inr ?_))
        exact hx.2.trans (by decide)
      · refine (hq _ r).trans ?_
        split
        · rfl
        · exact (hq _ _).trans rfl

theorem offerRec_scan (s : State) (c p : Nat) (b : List Byte) : (s.offerRec c p b).f x = s.f x := by
  unfold offerRec offerRecAt
  rcases recOffer_cases s false { code := c, prio := p, payload := b, time := s.time.now } with h | ⟨q, h⟩
  · rw [h]
    exact f_bump_ne s (by rw [hx.1]; decide)
  · rw [h]
    exact recJudge_scan hx s q

end

/-- Where the wheel does not act, no descriptor fires. -/
theorem fireAll_off {s : State} (h : s.wheelOff = true) (late : Bool) (l : List WDesc) : s.fireAll late l = s := by
  induction l with
  | nil => rfl
  | cons x l ih => rw [fireAll, fireDesc, if_pos h, ih]

/-- The registers of the wheel that a jump of W writes where no descriptor fires. -/
def skipRegs : List Nat := [WHEEL_OCC, WHEEL_CNT_SKIP, WHEEL_STAT]

/-- Where the wheel does not act, a jump of W writes none but the wheel's own registers (R126). -/
theorem jumpFrom_off {s : State} (h : s.wheelOff = true) (w0 m : Nat) : s.keeps (s.jumpFrom w0 m) skipRegs := by
  have ha : s.keeps (s.skipPassed w0 m) skipRegs :=
    keeps_trans (keeps_of_regs rfl _) (foldl_keeps _ _ (s.placeW m) skipRegs fun x _ u => keeps_setF (x := WHEEL_OCC_COUNT) _ (keeps_of_regs rfl _) (.head _))
  have hst (u : State) : u.keeps u.stage skipRegs := keeps_of_regs rfl _
  unfold jumpFrom
  split
  · rw [fireAll_off (show (s.placeW m).wheelOff = true from h)]
    exact keeps_of_regs rfl _
  · dsimp only
    split
    · exact keeps_trans ha (hst _)
    · have hh : s.keeps (((s.skipPassed w0 m).bumpBy WHEEL_CNT_SKIP (((s.passedDescs w0 m).map (State.skipsOf w0 m)).foldl (· + ·) 0)).hit WHEEL_STAT_SKIP)
          skipRegs := keeps_hit (x := WHEEL_STAT_SKIP) (keeps_wr _ ha (by decide)) (by decide)
      exact keeps_raise _ (keeps_trans hh (hst _))

theorem wheelOff_of_low {s : State} (h : s.mode ≤ mCOLD_STANDBY) : s.wheelOff = true := by
  unfold wheelOff
  simp [h]

theorem releaseHalts_low {s : State} (h : s.mode ≤ mCOLD_STANDBY) : s.keeps s.releaseHalts (DBG_STAT :: SYS_MODE :: skipRegs) := by
  have hc : s.keeps ((List.finRange 12).foldl (fun (s : State) c => s.resumeCluster c) s) [DBG_STAT] :=
    foldl_keeps _ _ s _ fun c _ u => resumeCluster_keeps u c
  have ht : s.keeps s.resumeTargets (DBG_STAT :: SYS_MODE :: skipRegs) := by
    unfold resumeTargets
    generalize (List.finRange 12).foldl (fun (s : State) c => s.resumeCluster c) s = v at hc
    have hm : v.mode = s.mode := f_keeps (x := SYS_MODE_MODE) hc (by decide)
    refine keeps_trans (keeps_mono hc (by decide)) ?_
    rw [resumeWheel_eq]
    split
    · have hk : v.keeps (v.setF DBG_STAT_WHEEL 0) [DBG_STAT] := keeps_setF (x := DBG_STAT_WHEEL) 0 (keeps_refl v _) (.head _)
      have hv : (v.setF DBG_STAT_WHEEL 0).mode ≤ mCOLD_STANDBY := by
        rw [show (v.setF DBG_STAT_WHEEL 0).mode = s.mode from (f_keeps (x := SYS_MODE_MODE) hk (by decide)).trans hm]
        exact h
      exact keeps_trans (keeps_mono hk (by decide)) (keeps_mono (jumpFrom_off (wheelOff_of_low hv) _ _) (by decide))
    · exact keeps_refl v _
  rw [releaseHalts_eq]
  split
  · exact keeps_refl s _
  · exact keeps_setB (x := SYS_MODE_HALT) _ ht (by decide)

/-- The scan's fields stand as a mode below TAKEOVER is entered. -/
theorem enterMode_scan (s : State) {m : Nat} (cause entry : Nat) (hm : m ≤ mCOLD_STANDBY) {x : Fld} (hx : scanField x) :
    (s.enterMode m cause entry).f x = s.f x := by
  have hlt : m < 16 := lt_of_le_of_lt hm (by decide)
  have hset : (s.setMode m cause entry).f x = s.f x := by
    have hx1 : x.reg ≠ SYS_MODE := by rw [hx.1]; decide
    unfold setMode
    dsimp only
    rw [offerRec_scan hx, msix_f, f_setF_ne _ (x := SYS_MODE_MODE) m hx1, f_setF_ne _ (x := SYS_MODE_PREV) _ hx1]
  have hgr : ((s.setMode m cause entry).modeGroups m).f x = (s.setMode m cause entry).f x := by
    unfold modeGroups
    split
    · rfl
    · exact f_keeps (offGroups_offStep _ 15 7).keeps (notMem_offRegs (by rw [hx.1]; decide) (by rw [hx.1]; decide) (.inl (by rw [hx.1]; decide)))
  have hmode : ((s.setMode m cause entry).modeGroups m).mode = m :=
    ((modeGroups_calm _ m).f (x := SYS_MODE_MODE) (by decide)).trans (setMode_mode s m cause entry hlt)
  have hrel := releaseHalts_low (s := (s.setMode m cause entry).modeGroups m) (by rw [hmode]; exact hm)
  have hmon (u : State) (ran : Bool) : (u.monitorFrom ran).f x = u.f x := by
    unfold monitorFrom
    split
    · rfl
    · split
      · exact f_setF_ne u (x := SAFE_SSM_STAT_RUN) 0 (by rw [hx.1]; decide)
      · rfl
  rw [enterMode_eq, hmon, f_keeps hrel (by rw [hx.1]; decide), hgr, hset]

end State

end Sys2Proof.Machine

/-! SUPPORT. O49: SANITISE, the life-cycle wipe and VERIFY (R84 to R90, R105). -/

namespace Sys2Proof.Machine

namespace State

-- ===== the life-cycle wipe (R85) =====

/-- The registers that MRAM backs read as an empty MRAM, and LC_WIPED shows it. -/
def wipeRegs (s : State) : State :=
  (((s.wrAll ((List.range 8).flatMap (fun d => (DOOR_CNT_CYC d, (0 : Word)) :: (List.range 64).map (fun b => (DOOR_PROF d b, (0 : Word)))))).wrN
    REC_WRAPS 0).wrN SYS_START 0xF).setF SYS_START_STAT_LC_WIPED 1

theorem wrAll_nv (s : State) (ps : List (Nat × Word)) : (s.wrAll ps).nv = s.nv := by
  rw [wrAll_frame]

theorem wipeRegs_nv (s : State) : s.wipeRegs.nv = s.nv := by
  unfold wipeRegs
  rw [setF_nv, wrN_nv, wrN_nv, wrAll_nv]

theorem wipeRegs_start (s : State) : s.wipeRegs.rdN SYS_START = 0xF := by
  unfold wipeRegs
  rw [rdN_setF_ne _ _ (by decide), rdN_wrN_same]

theorem wipeRegs_shown (s : State) : s.wipeRegs.f SYS_START_STAT_LC_WIPED = 1 := f_setF_one _ _ (by decide) rfl

/-- MRAM, the Kaolin slots and the directory wiped, with the mark of a life-cycle state. -/
def wipeNv (n : NvState) (mark : Nat) : NvState :=
  { n with mram := [], doorTags := Bank.rep 8 none, loam := Bank.rep 2 none,
           dir := n.dir.mapIdx (fun i (x : Option DirEntry) => if i < 8 then none else x),
           writing := n.writing.mapIdx (fun i (x : Option Nat) => if i < 8 then none else x),
           flash := n.flash.filter (fun (p : Nat × Byte) => p.1 < slotBase 0), lcMark := mark }

theorem lifeWipe_regs (s : State) : s.lifeWipe.regs = s.wipeRegs.regs := by
  unfold lifeWipe wipeRegs
  rfl

theorem lifeWipe_nv (s : State) : s.lifeWipe.nv = wipeNv s.nv (s.f SYS_LC_STATE) := by
  rw [← s.wipeRegs_nv]
  unfold lifeWipe wipeNv wipeRegs
  rfl

theorem lifeWipe_rd (s : State) (r : Nat) : s.lifeWipe.rd r = s.wipeRegs.rd r := by
  unfold rd
  rw [lifeWipe_regs]

theorem lifeWipe_start (s : State) : s.lifeWipe.rdN SYS_START = 0xF := by
  unfold rdN
  rw [lifeWipe_rd]
  exact s.wipeRegs_start

theorem lifeWipe_shown (s : State) : s.lifeWipe.f SYS_START_STAT_LC_WIPED = 1 := (f_of_rd (s.lifeWipe_rd _)).trans s.wipeRegs_shown

theorem wipeNv_dir (x : NvState) (mark : Nat) {n : Fin 10} (h : n.val < 8) : (wipeNv x mark).dir.get n = none := by
  unfold wipeNv
  simp [Bank.get_eq, Bank.mapIdx, h]

/-- Of the flash the part below the Kaolin slots alone stays. -/
theorem wipeNv_flash (x : NvState) (mark : Nat) : ∀ p ∈ (wipeNv x mark).flash, p.1 < 0x800000 := by
  intro p hp
  simpa [slotBase] using (List.mem_filter.mp hp).2

-- ===== the end of SANITISE (R84, R86) =====

/-- MRAM belongs to the life-cycle state: wiped where its mark is of another. -/
def wipedFor (s : State) : State := if s.nv.lcMark = s.f SYS_LC_STATE then s else s.lifeWipe

/-- VERIFY is entered with the scan running. -/
def toVerify (s : State) : State := (s.setF REC_STAT_SCANNING 1).enterMode mVERIFY 4

/-- A debug lock by the reset is recorded once (R548). -/
def lockNoted (s : State) : State :=
  let s1 := if s.sys.relock ∧ s.lcLocked then s.offerRec 0x31 3 [2, 0, 0, 0] else s
  { s1 with sys := { s1.sys with relock := false } }

theorem lockNoted_cases (s : State) : ∃ u : State, s.lockNoted = { u with sys := { u.sys with relock := false } } ∧
    u.nv = s.nv ∧ s.keeps u recRegs ∧ u.f REC_STAT_SCANNING = s.f REC_STAT_SCANNING := by
  unfold lockNoted
  dsimp only
  split
  · exact ⟨_, rfl, offerRec_nv _ _ _ _, offerRec_keeps _ _ _ _, offerRec_scan ⟨rfl, by decide⟩ _ _ _ _⟩
  · exact ⟨s, rfl, rfl, keeps_refl s _, rfl⟩

theorem toVerify_calm (s : State) : s.calm s.toVerify modeWord :=
  (enterMode_calm _ mVERIFY 4 255).after (calm_setF (x := REC_STAT_SCANNING) 1 (calm_refl s) (by decide))

theorem toVerify_scanning (s : State) : s.toVerify.f REC_STAT_SCANNING = 1 :=
  (enterMode_scan _ 4 255 (by decide) ⟨rfl, by decide⟩).trans (f_setF_one s _ (by decide) rfl)

theorem toVerify_mode (s : State) : s.toVerify.mode = mVERIFY ∧ s.toVerify.f SYS_MODE_PREV = s.mode := by
  obtain ⟨h1, h2⟩ := enterMode_mode (s.setF REC_STAT_SCANNING 1) (m := mVERIFY) 4 255 (by decide)
  exact ⟨h1, h2.trans (f_setF_ne s (x := REC_STAT_SCANNING) (y := SYS_MODE_MODE) 1 (by decide))⟩

/-- What VERIFY stands with after SANITISE, from a state v that SANITISE has wiped or left. -/
theorem verifyBegun_spec (v : State) : v.toVerify.lockNoted.mode = mVERIFY ∧ v.toVerify.lockNoted.f SYS_MODE_PREV = v.mode ∧
    v.toVerify.lockNoted.f REC_STAT_SCANNING = 1 ∧ v.toVerify.lockNoted.nv = v.nv ∧ v.toVerify.lockNoted.sys.relock = false ∧
    ∀ r, ¬ modeWord r → r ∉ recRegs → v.toVerify.lockNoted.rd r = v.rd r := by
  obtain ⟨u, hu, hnv, hk, hscan⟩ := v.toVerify.lockNoted_cases
  obtain ⟨hm, hp⟩ := v.toVerify_mode
  have hr (r : Nat) : v.toVerify.lockNoted.rd r = u.rd r := by rw [hu]; rfl
  refine ⟨?_, ?_, ?_, ?_, ?_, fun r h1 h2 => ?_⟩
  · exact (f_of_rd (x := SYS_MODE_MODE) (hr _)).trans ((f_keeps hk (by decide)).trans hm)
  · exact (f_of_rd (hr _)).trans ((f_keeps hk (by decide)).trans hp)
  · exact (f_of_rd (hr _)).trans (hscan.trans v.toVerify_scanning)
  · rw [hu]
    exact hnv.trans v.toVerify_calm.nv
  · rw [hu]
  · rw [hr, hk r h2, v.toVerify_calm.rd h1]

/-- The collector's first message: a read-back has failed, and SANITISE stays (R86). -/
def sanitiseStuck (s : State) (x : Nat × Nat) : State :=
  ({ s with sys := { s.sys with sanitiseFail := some x } }.setF REC_STAT_SCANNING 1).raise
    (mkFault srcSYS 0x02 cCRITICAL 4 [.code x.1, .val x.2])

end State

theorem execSanitiseDone_eq (x : Option (Nat × Nat)) (s : State) : execSanitiseDone x s = .next (
    if s.mode ≠ mSANITISE ∨ s.sys.sanitiseFail.isSome then s
    else match x with
      | some p => s.sanitiseStuck p
      | none => s.wipedFor.toVerify.lockNoted) := by
  cases x <;> rfl

theorem execSanitiseDone_done {s : State} (hm : s.mode = mSANITISE) (hf : s.sys.sanitiseFail = none) :
    execSanitiseDone none s = .next s.wipedFor.toVerify.lockNoted := by
  rw [execSanitiseDone_eq, if_neg (by simp [hm, hf])]

theorem execSanitiseDone_failed {s : State} (x : Nat × Nat) (hm : s.mode = mSANITISE) (hf : s.sys.sanitiseFail = none) :
    execSanitiseDone (some x) s = .next (s.sanitiseStuck x) := by
  rw [execSanitiseDone_eq, if_neg (by simp [hm, hf])]

theorem execSanitiseDone_ignored {s : State} (x : Option (Nat × Nat)) (h : ¬ (s.mode = mSANITISE ∧ s.sys.sanitiseFail = none)) :
    execSanitiseDone x s = .next s := by
  rw [execSanitiseDone_eq, if_pos]
  by_contra hn
  rw [not_or, not_not, Option.not_isSome_iff_eq_none] at hn
  exact h hn

namespace State

-- ===== VERIFY (R87 to R90) =====

theorem bootErr_lt (s : State) (b : BootVerdict) : s.bootErr b < 7 := by
  have hk (id alg : Nat) : s.bootKey id alg < 7 := ite_lt (by decide) (ite_lt (by decide) (by decide))
  unfold bootErr
  exact ite_lt (by decide) (ite_lt (hk _ _) (ite_lt (hk _ _) (ite_lt (by decide) (ite_lt (by decide) (ite_lt (by decide) (by decide))))))

/-- VERIFY waits for its verdicts. -/
def verifies (s : State) : Prop := s.mode = mVERIFY ∧ s.sys.recovery = false ∧ s.f SYS_LC_STATE ≠ lcSCRAPPED

/-- Boot image B is taken over A. -/
def takesB (s : State) (a b : BootVerdict) : Prop := s.bootErr b = 0 ∧ (s.bootErr a ≠ 0 ∨ a.svn < b.svn)

/-- Boot image A is taken over B. -/
def takesA (s : State) (a b : BootVerdict) : Prop := s.bootErr a = 0 ∧ (s.bootErr b ≠ 0 ∨ b.svn ≤ a.svn)

/-- The code that VFY_ERR shows of two verdicts. -/
def bootCode (s : State) (a b : BootVerdict) : Nat := if s.bootErr a ≠ 0 then s.bootErr a else s.bootErr b

/-- Boot image B, not A, is the one that runs. -/
def bootB (s : State) (a b : BootVerdict) : Bool := s.bootErr a != 0 || (s.bootErr b == 0 && a.svn < b.svn)

/-- The boot image that runs is shown, and its SVN held (R87). -/
def booted (s : State) (a b : BootVerdict) : State :=
  let s2 := (s.setF SYS_START_STAT_VFY_ERR (s.bootCode a b)).setB SYS_START_STAT_BOOT_B (s.bootB a b)
  { s2 with sys := { s2.sys with bootSvn := if s.bootB a b then b.svn else a.svn } }

theorem takes_or (s : State) {a b : BootVerdict} (h : s.bootErr a = 0 ∨ s.bootErr b = 0) : s.takesA a b ∨ s.takesB a b := by
  unfold takesA takesB
  omega

theorem bootB_of_takesA {s : State} {a b : BootVerdict} (h : s.takesA a b) : s.bootB a b = false := by
  obtain ⟨ha, hb⟩ := h
  unfold bootB
  rcases hb with hb | hb
  · simp [ha, hb]
  · simp [ha, Nat.not_lt.mpr hb]

theorem bootB_of_takesB {s : State} {a b : BootVerdict} (h : s.takesB a b) : s.bootB a b = true := by
  obtain ⟨hb, ha⟩ := h
  unfold bootB
  rcases ha with ha | ha
  · simp [ha]
  · simp [hb, ha]

theorem bootCode_lt (s : State) (a b : BootVerdict) : s.bootCode a b < 256 :=
  ite_lt (lt_trans (s.bootErr_lt a) (by decide)) (lt_trans (s.bootErr_lt b) (by decide))

theorem booted_code (s : State) (a b : BootVerdict) : (s.booted a b).f SYS_START_STAT_VFY_ERR = s.bootCode a b :=
  calc (s.booted a b).f SYS_START_STAT_VFY_ERR
      = (s.setF SYS_START_STAT_VFY_ERR (s.bootCode a b)).f SYS_START_STAT_VFY_ERR := f_setB_disj _ (x := SYS_START_STAT_BOOT_B) _ rfl (by decide)
    _ = s.bootCode a b := (f_setF_same s _ _ (by decide)).trans (Nat.mod_eq_of_lt (s.bootCode_lt a b))

theorem booted_shown (s : State) (a b : BootVerdict) : (s.booted a b).f SYS_START_STAT_BOOT_B = b2n (s.bootB a b) :=
  f_setB_same (s.setF SYS_START_STAT_VFY_ERR (s.bootCode a b)) SYS_START_STAT_BOOT_B _ (by decide) rfl

theorem booted_keeps (s : State) (a b : BootVerdict) : s.keeps (s.booted a b) [SYS_START_STAT] :=
  keeps_congr (keeps_setB (x := SYS_START_STAT_BOOT_B) _ (keeps_setF (x := SYS_START_STAT_VFY_ERR) _ (keeps_refl s _) (.head _)) (.head _)) rfl

/-- From s to t a boot image runs: it is shown with its SVN, and VERIFY is left. -/
def bootRuns (s t : State) (a b : BootVerdict) : Prop := t.f SYS_MODE_PREV = mVERIFY ∧
  (s.takesA a b → t.f SYS_START_STAT_BOOT_B = 0 ∧ t.sys.bootSvn = a.svn) ∧
  (s.takesB a b → t.f SYS_START_STAT_BOOT_B = 1 ∧ t.sys.bootSvn = b.svn) ∧ t.f SYS_START_STAT_VFY_ERR = s.bootCode a b

/-- A mode entered from a state that shows the boot image shows it too. -/
theorem bootRuns_enterMode {s v : State} {a b : BootVerdict} (hm : s.mode = mVERIFY) (hk : (s.booted a b).keeps v [CFG_STAT, CFG_ERR])
    (hs : v.sys.bootSvn = (s.booted a b).sys.bootSvn) {m : Nat} (hlt : m < 16) (cause : Nat) : s.bootRuns (v.enterMode m cause) a b := by
  have hc := enterMode_calm v m cause 255
  have hf {x : Fld} (hx : x.reg = SYS_START_STAT) : (v.enterMode m cause).f x = (s.booted a b).f x :=
    (hc.f (by rw [hx]; decide)).trans (f_keeps hk (by rw [hx]; decide))
  have hsvn : (v.enterMode m cause).sys.bootSvn = if s.bootB a b then b.svn else a.svn := by
    rw [hc.sys, hs]
    rfl
  have hmode : v.mode = s.mode := (f_keeps (x := SYS_MODE_MODE) hk (by decide)).trans (f_keeps (x := SYS_MODE_MODE) (s.booted_keeps a b) (by decide))
  refine ⟨?_, fun h => ⟨?_, ?_⟩, fun h => ⟨?_, ?_⟩, ?_⟩
  · rw [(enterMode_mode v cause 255 hlt).2, hmode, hm]
  · rw [hf rfl, booted_shown, bootB_of_takesA h]
    rfl
  · rw [hsvn, bootB_of_takesA h, if_neg (by decide)]
  · rw [hf rfl, booted_shown, bootB_of_takesB h]
    rfl
  · rw [hsvn, bootB_of_takesB h, if_pos rfl]
  · rw [hf rfl, booted_code]

theorem keyCheck_congr {s u : State} (h : ∀ k < 8, ∀ w < 2, u.rd (CFG_SEC_KEY k w) = s.rd (CFG_SEC_KEY k w)) (id alg role : Nat) :
    u.keyCheck id alg role = s.keyCheck id alg role := by
  have hN (k : Nat) (hk : k < 8) (w : Nat) (hw : w < 2) : u.rdN (CFG_SEC_KEY k w) = s.rdN (CFG_SEC_KEY k w) := by
    unfold rdN
    rw [h k hk w hw]
  have hfind : (List.range 8).find? (fun k => u.rdN (CFG_SEC_KEY k 0) == id && (u.rdN (CFG_SEC_KEY k 1)).testBit 0) =
      (List.range 8).find? (fun k => s.rdN (CFG_SEC_KEY k 0) == id && (s.rdN (CFG_SEC_KEY k 1)).testBit 0) := by
    refine List.find?_congr fun k hk => ?_
    rw [hN k (List.mem_range.mp hk) 0 (by decide), hN k (List.mem_range.mp hk) 1 (by decide)]
  unfold keyCheck
  rw [hfind]
  split
  · rfl
  · next k hk =>
    dsimp only
    rw [hN k (List.mem_range.mp (List.mem_of_find?_eq_some hk)) 1 (by decide)]

/-- The first checks of an image look at flash, the directory, SYS_ID, the keys and the counter (R48, R50). -/
theorem authCheck_congr {s u : State} {l : List Nat} (hk : s.keeps u l) (hn : u.nv = s.nv) (hid : SYS_ID ∉ l)
    (hkey : ∀ k < 8, ∀ w < 2, CFG_SEC_KEY k w ∉ l) (hsvn : ∀ w < 2, CFG_SEC_SVN w ∉ l) (slot : Nat) (rsa slh : Bool) :
    u.authCheck slot rsa slh = s.authCheck slot rsa slh := by
  have hi (slot off n : Nat) : u.img slot off n = s.img slot off n := by unfold img; rw [hn]
  have hc (id alg role : Nat) : u.keyCheck id alg role = s.keyCheck id alg role := keyCheck_congr (fun k h w hw => hk _ (hkey k h w hw)) id alg role
  have hs : u.otpSvn = s.otpSvn := by
    unfold otpSvn rd2 rdN
    rw [hk _ (hsvn 0 (by decide)), hk _ (hsvn 1 (by decide))]
  unfold authCheck sigOff nsect
  simp only [hi, hc, hs, hn, f_keeps (x := SYS_ID_STEP) hk hid]

theorem booted_start (s : State) (a b : BootVerdict) : (s.booted a b).sys.start = s.sys.start := rfl

theorem booted_auth (s : State) (a b : BootVerdict) (slot : Nat) (rsa slh : Bool) :
    (s.booted a b).authCheck slot rsa slh = s.authCheck slot rsa slh :=
  authCheck_congr (s.booted_keeps a b) rfl (by decide) (by decide) (by decide) slot rsa slh

theorem booted_lcLoads (s : State) (a b : BootVerdict) : (s.booted a b).lcLoads = s.lcLoads := by
  unfold lcLoads
  rw [f_keeps (s.booted_keeps a b) (by decide)]

/-- Autostart: LOAD is set up for a slot (R88). -/
def autoLoad (s : State) (slot : Nat) : State :=
  let s1 := (s.setF CFG_STAT_LDR 1).setF CFG_STAT_BUSY 1
  { s1 with cfg := { s1.cfg with loading := some slot, isShadow := false }, sys := { s1.sys with autostart := true } }

theorem afterBoot_eq (s : State) (rsa slh : Bool) : s.afterBoot rsa slh =
    if 8 ≤ s.sys.start.toNat % 16 ∨ !s.lcLoads then s.enterMode mBARE 4
    else if s.authCheck (s.sys.start.toNat % 16) rsa slh ≠ 0 then (s.cfgErr (s.authCheck (s.sys.start.toNat % 16) rsa slh)).enterMode mBARE 4
    else (s.autoLoad (s.sys.start.toNat % 16)).enterMode mLOAD 2 := rfl

end State

theorem execVerifyDone_ignored {s : State} (a b : BootVerdict) (p q : Bool) (h : ¬ s.verifies) : execVerifyDone a b p q s = .next s := by
  unfold execVerifyDone
  dsimp only
  rw [if_pos]
  by_contra hn
  rw [not_or, not_or, not_not, Bool.not_eq_true] at hn
  exact h hn

/-- Without an accepted boot image the recovery endpoint opens (R89). -/
def State.recovering (s : State) (a b : BootVerdict) : State :=
  { s.setF SYS_START_STAT_VFY_ERR (s.bootCode a b) with sys := { s.sys with recovery := true } }

theorem execVerifyDone_eq {s : State} (a b : BootVerdict) (p q : Bool) (h : s.verifies) : execVerifyDone a b p q s =
    .next (if s.bootErr a ≠ 0 ∧ s.bootErr b ≠ 0 then s.recovering a b else (s.booted a b).afterBoot p q) := by
  obtain ⟨hm, hr, hl⟩ := h
  exact congrArg _ (if_neg (by simp [hm, hr, hl]))

theorem execVerifyDone_boots {s : State} {a b : BootVerdict} (p q : Bool) (h : s.verifies) (ht : s.takesA a b ∨ s.takesB a b) :
    execVerifyDone a b p q s = .next ((s.booted a b).afterBoot p q) := by
  rw [execVerifyDone_eq a b p q h, if_neg]
  rintro ⟨ha, hb⟩
  exact ht.elim (fun h => ha h.1) fun h => hb h.1

/-- What SYS_START_WRITE stores of a word (R105). -/
def State.startStored (s : State) (v : Word) : State :=
  (((s.setF SYS_START_AUTO_SLOT v.toNat).setF SYS_START_ROLE (if v.toNat / 16 % 4 = 3 then s.f SYS_START_ROLE else v.toNat / 16 % 4)).setF
    SYS_START_WARM (v.toNat / 64)).setF SYS_START_WD_MS (v.toNat / 65536)

namespace State

theorem startStored_keeps (s : State) (v : Word) : s.keeps (s.startStored v) [SYS_START] :=
  keeps_setF (x := SYS_START_WD_MS) _ (keeps_setF (x := SYS_START_WARM) _ (keeps_setF (x := SYS_START_ROLE) _
    (keeps_setF (x := SYS_START_AUTO_SLOT) _ (keeps_refl s _) (.head _)) (.head _)) (.head _)) (.head _)

theorem startStored_fields (s : State) (v : Word) : (s.startStored v).f SYS_START_AUTO_SLOT = v.toNat % 16 ∧
    (s.startStored v).f SYS_START_ROLE = (if v.toNat / 16 % 4 = 3 then s.f SYS_START_ROLE else v.toNat / 16 % 4) ∧
    (s.startStored v).f SYS_START_WARM = v.toNat / 64 % 2 ∧ (s.startStored v).f SYS_START_WD_MS = v.toNat / 65536 := by
  have hrole : (if v.toNat / 16 % 4 = 3 then s.f SYS_START_ROLE else v.toNat / 16 % 4) < 4 :=
    ite_lt (s.f_lt SYS_START_ROLE) (Nat.mod_lt _ (by decide))
  have hwd : v.toNat / 65536 < 65536 := Nat.div_lt_of_lt_mul v.isLt
  unfold startStored
  refine ⟨?_, ?_, ?_, ?_⟩
  · rw [f_setF_disj _ _ (by rfl) (by decide), f_setF_disj _ _ (by rfl) (by decide), f_setF_disj _ _ (by rfl) (by decide), f_setF_same _ _ _ (by decide)]
    rfl
  · rw [f_setF_disj _ _ (by rfl) (by decide), f_setF_disj _ _ (by rfl) (by decide), f_setF_same _ _ _ (by decide)]
    exact Nat.mod_eq_of_lt hrole
  · rw [f_setF_disj _ _ (by rfl) (by decide), f_setF_same _ _ _ (by decide)]
    rfl
  · rw [f_setF_same _ _ _ (by decide)]
    exact Nat.mod_eq_of_lt hwd

end State

end Sys2Proof.Machine

namespace Sys2Proof.Machine

namespace State

section

variable {s : State} {a b : BootVerdict} (hv : s.verifies)
include hv

/-- A boot image that runs leads to BARE where no autostart slot is named or the life cycle loads none (R74, R88). -/
theorem booted_bare (p q : Bool) (h : 8 ≤ s.sys.start.toNat % 16 ∨ s.lcLoads = false) :
    ((s.booted a b).afterBoot p q).mode = mBARE ∧ s.bootRuns ((s.booted a b).afterBoot p q) a b := by
  have he : (s.booted a b).afterBoot p q = (s.booted a b).enterMode mBARE 4 := by
    rw [afterBoot_eq, if_pos]
    rw [booted_lcLoads]
    exact h.imp_right fun h => by rw [h]; rfl
  rw [he]
  exact ⟨(enterMode_mode _ 4 255 (by decide)).1, bootRuns_enterMode hv.1 (keeps_refl _ _) rfl (by decide) 4⟩

section

variable (hs : s.sys.start.toNat % 16 < 8) (hl : s.lcLoads = true)
include hs hl

/-- An autostart slot that fails the first checks leads to BARE with its code (R88). -/
theorem booted_refused {p q : Bool} (hc : s.authCheck (s.sys.start.toNat % 16) p q ≠ 0) :
    ((s.booted a b).afterBoot p q).mode = mBARE ∧ s.bootRuns ((s.booted a b).afterBoot p q) a b ∧
      ((s.booted a b).afterBoot p q).rdN CFG_ERR = s.authCheck (s.sys.start.toNat % 16) p q := by
  have he : (s.booted a b).afterBoot p q = ((s.booted a b).cfgErr (s.authCheck (s.sys.start.toNat % 16) p q)).enterMode mBARE 4 := by
    rw [afterBoot_eq, booted_start, booted_auth, if_neg (by rw [booted_lcLoads, hl]; exact not_or.mpr ⟨Nat.not_le.mpr hs, by decide⟩), if_pos hc]
  obtain ⟨herr, hk, -⟩ := (s.booted a b).cfgErr_spec (lt_trans (s.authCheck_lt (s.sys.start.toNat % 16) p q) (by decide))
  have hcalm := enterMode_calm ((s.booted a b).cfgErr (s.authCheck (s.sys.start.toNat % 16) p q)) mBARE 4 255
  rw [he]
  refine ⟨(enterMode_mode _ 4 255 (by decide)).1, bootRuns_enterMode hv.1 (keeps_mono hk (by decide)) rfl (by decide) 4, ?_⟩
  unfold rdN at herr ⊢
  rw [hcalm.rd (by decide), herr]

/-- An autostart slot that passes the first checks is loaded (R88). -/
theorem booted_load {p q : Bool} (hc : s.authCheck (s.sys.start.toNat % 16) p q = 0) :
    ((s.booted a b).afterBoot p q).mode = mLOAD ∧ s.bootRuns ((s.booted a b).afterBoot p q) a b ∧
      ((s.booted a b).afterBoot p q).sys.autostart = true ∧ ((s.booted a b).afterBoot p q).cfg.loading = some (s.sys.start.toNat % 16) ∧
      ((s.booted a b).afterBoot p q).f CFG_STAT_LDR = 1 ∧ ((s.booted a b).afterBoot p q).f CFG_STAT_BUSY = 1 := by
  have he : (s.booted a b).afterBoot p q = ((s.booted a b).autoLoad (s.sys.start.toNat % 16)).enterMode mLOAD 2 := by
    rw [afterBoot_eq, booted_start, booted_auth, if_neg (by rw [booted_lcLoads, hl]; exact not_or.mpr ⟨Nat.not_le.mpr hs, by decide⟩), if_neg (not_not.mpr hc)]
  have hk : (s.booted a b).keeps ((s.booted a b).autoLoad (s.sys.start.toNat % 16)) [CFG_STAT] :=
    keeps_congr (keeps_setF (x := CFG_STAT_BUSY) 1 (keeps_setF (x := CFG_STAT_LDR) 1 (keeps_refl _ _) (.head _)) (.head _)) rfl
  have hcalm := enterMode_calm ((s.booted a b).autoLoad (s.sys.start.toNat % 16)) mLOAD 2 255
  rw [he]
  refine ⟨(enterMode_mode _ 2 255 (by decide)).1, bootRuns_enterMode hv.1 (keeps_mono hk (by decide)) rfl (by decide) 2, ?_, ?_, ?_, ?_⟩
  · rw [hcalm.sys]
    rfl
  · rw [hcalm.cfg]
    rfl
  · rw [hcalm.f (by decide)]
    exact (f_setF_disj _ (x := CFG_STAT_BUSY) 1 (by rfl) (by decide)).trans (f_setF_same _ CFG_STAT_LDR 1 (by decide))
  · rw [hcalm.f (by decide)]
    exact f_setF_one _ CFG_STAT_BUSY (by decide) rfl

end

end

end State

/-- Settles O49: SANITISE ends in State.toVerify over a wiped or kept MRAM; VERIFY boots the image that State.bootB names, then
State.afterBoot_eq gives BARE or LOAD. -/
theorem startUp : Obligations.StartUp := by
  unfold Obligations.StartUp
  refine ⟨?_, ?_, ?_, fun s x h => execSanitiseDone_ignored x h, fun s a b p q h => execVerifyDone_ignored a b p q h, ?_, ?_, ?_, ?_,
    fun s a b => ⟨s.bootErr_lt a, s.takes_or⟩, ?_, ?_, ?_, ?_⟩
  · rintro s ⟨hm, hf⟩ hl
    obtain ⟨h1, h2, h3, h4, h5, -⟩ := s.verifyBegun_spec
    refine ⟨_, (execSanitiseDone_done hm hf).trans (by rw [State.wipedFor, if_pos hl]), h1, h2.trans hm, h3, h4, h5⟩
  · rintro s ⟨hm, hf⟩ hl
    obtain ⟨h1, -, -, h4, -, h6⟩ := s.lifeWipe.verifyBegun_spec
    rw [State.lifeWipe_nv] at h4
    refine ⟨_, (execSanitiseDone_done hm hf).trans (by rw [State.wipedFor, if_neg hl]), h1, by rw [h4]; rfl, by rw [h4]; rfl, by rw [h4]; rfl, ?_, ?_,
      fun n hn => by rw [h4]; exact State.wipeNv_dir _ _ hn, by rw [h4]; exact State.wipeNv_flash _ _⟩
    · unfold State.rdN
      rw [h6 SYS_START (by decide) (by decide)]
      exact s.lifeWipe_start
    · exact (State.f_of_rd (h6 SYS_START_STAT (by decide) (by decide))).trans s.lifeWipe_shown
  · rintro s x ⟨hm, hf⟩
    have hk : s.keeps (s.sanitiseStuck x) [REC_STAT] :=
      State.keeps_raise _ (State.keeps_setF (x := REC_STAT_SCANNING) 1 (State.keeps_of_regs rfl _) (.head _))
    exact ⟨_, execSanitiseDone_failed x hm hf, rfl, (State.f_keeps (x := SYS_MODE_MODE) hk (by decide)).trans hm,
      State.raisedOne_raise _ _ _ rfl rfl, State.f_setF_one _ REC_STAT_SCANNING (by decide) rfl, hk, rfl⟩
  · intro s a b p q hv ha hb
    have hcode : s.bootCode a b = s.bootErr a := if_pos ha
    have hk : s.keeps (s.recovering a b) [SYS_START_STAT] :=
      State.keeps_congr (State.keeps_setF (x := SYS_START_STAT_VFY_ERR) _ (State.keeps_refl s _) (.head _)) rfl
    refine ⟨s.recovering a b, (execVerifyDone_eq a b p q hv).trans (by rw [if_pos ⟨ha, hb⟩]),
      (State.f_keeps (x := SYS_MODE_MODE) hk (by decide)).trans hv.1, rfl, ?_, hk, rfl⟩
    rw [← hcode]
    exact (State.f_setF_same s SYS_START_STAT_VFY_ERR _ (by decide)).trans (Nat.mod_eq_of_lt (s.bootCode_lt a b))
  · exact fun s a b p q hv ht h => ⟨_, execVerifyDone_boots p q hv ht, State.booted_bare hv p q h⟩
  · exact fun s a b p q hv ht hs hl hc => ⟨_, execVerifyDone_boots p q hv ht, State.booted_load hv hs hl hc⟩
  · exact fun s a b p q hv ht hs hl hc => ⟨_, execVerifyDone_boots p q hv ht, State.booted_refused hv hs hl hc⟩
  · intro s v ho
    obtain ⟨h1, h2, h3, h4⟩ := s.startStored_fields v
    exact ⟨s.startStored v, congrArg _ (if_pos ho), h1, h2, h3, h4, s.startStored_keeps v, rfl⟩
  · exact fun s v ho => congrArg _ (if_neg (by simp [ho]))
  · intro s ho
    exact ⟨s.setF SYS_START_STAT_LOAM_HELD 0, congrArg _ (if_pos ⟨rfl, ho⟩), State.f_setF_zero s _ (by decide),
      State.keeps_setF 0 (State.keeps_refl s _) (.head _), rfl⟩
  · exact fun s k h => congrArg _ (if_neg fun ⟨hk, ho⟩ => h.elim (fun h => h hk) fun h => by simp [h] at ho)

end Sys2Proof.Machine

/-! SUPPORT. O53, O56: what the debug module does to a target (R542 to R546). -/

namespace Sys2Proof.Machine

theorem Bank.get_mapIdx {n : Nat} {α : Type} (b : Bank n α) (g : Nat → α → α) (i : Fin n) :
    (b.mapIdx g).get i = g i.val (b.get i) := by simp [Bank.get_eq, Bank.mapIdx]

namespace State

-- ===== the halted targets in DBG_STAT =====

/-- A register bit that is set shows in a field that covers it. -/
theorem flag_of_bit {s : State} {r lo : Nat} (y : Fld) (hr : y.reg = r) (hl : y.lo ≤ lo) (hh : lo < y.lo + y.width) (h : s.f ⟨r, lo, 1⟩ = 1) :
    s.flag y = true := by
  obtain ⟨i, rfl⟩ := Nat.exists_eq_add_of_le hl
  unfold f at h
  rw [Fld.get_eq_mod] at h
  have hbit : (s.f y).testBit i = true := by
    unfold f
    rw [Fld.get_eq_mod, Nat.testBit_mod_two_pow, Nat.testBit_div_two_pow, Nat.add_comm i, hr]
    have ht : ((s.rd r).toNat).testBit (y.lo + i) = true := by
      rw [Nat.testBit_eq_decide_div_mod_eq]
      exact decide_eq_true h
    simp only [ht, Bool.and_true, decide_eq_true_eq]
    omega
  rw [flag_eq]
  refine bne_iff_ne.2 fun h0 => ?_
  rw [h0, Nat.zero_testBit] at hbit
  cases hbit

/-- A core, a cluster or the wheel stands halted in DBG_STAT. -/
def anyHalted (s : State) : Bool := s.flag DBG_STAT_CORES || s.flag DBG_STAT_CLUSTERS || s.flag DBG_STAT_WHEEL

theorem showHalt_keeps (s : State) : s.keeps s.showHalt [SYS_MODE] := keeps_setB _ (keeps_refl s _) (.head _)

theorem showHalt_f (s : State) {x : Fld} (h : x.reg ≠ SYS_MODE) : s.showHalt.f x = s.f x := f_setB_ne s _ h

theorem showHalt_halt (s : State) : s.showHalt.f SYS_MODE_HALT = b2n s.anyHalted := f_setB_same s SYS_MODE_HALT _ (by decide) rfl

theorem anyHalted_core {s : State} (c : Fin 8) (h : s.f ⟨DBG_STAT, 8 + c, 1⟩ = 1) : s.anyHalted = true := by
  have hc := flag_of_bit DBG_STAT_CORES rfl (Nat.le_add_right 8 c) (Nat.add_lt_add_left c.isLt 8) h
  unfold anyHalted
  rw [hc, Bool.true_or, Bool.true_or]

theorem anyHalted_cluster {s : State} (c : Fin 12) (h : s.f ⟨DBG_STAT, 16 + c, 1⟩ = 1) : s.anyHalted = true := by
  have hc := flag_of_bit DBG_STAT_CLUSTERS rfl (Nat.le_add_right 16 c) (Nat.add_lt_add_left c.isLt 16) h
  unfold anyHalted
  rw [hc, Bool.or_true, Bool.true_or]

theorem anyHalted_wheel {s : State} (h : s.f DBG_STAT_WHEEL = 1) : s.anyHalted = true := by
  unfold anyHalted
  rw [flag_eq s DBG_STAT_WHEEL, h]
  exact Bool.or_true _

theorem msix_shown (s : State) : (s.msix 4).host.msix.get 4 = s.host.msix.get 4 + 1 := Bank.get_modify_same _ _ _

-- ===== a target stops =====

theorem coreBit_ok (c : Fin 8) : 8 + c.val + 1 ≤ 32 := by omega
theorem clusterBit_ok (c : Fin 12) : 16 + c.val + 1 ≤ 32 := by omega

theorem stopCore_halts (s : State) (c : Fin 8) : ((s.stopCore c).sched.cores.get c).halted = true ∧ (s.stopCore c).f ⟨DBG_STAT, 8 + c, 1⟩ = 1 ∧
    (s.stopCore c).f SYS_MODE_HALT = 1 := by
  have hb : ((s.modCore c (fun k => { k with halted := true, ran := s.ranFor c })).setF ⟨DBG_STAT, 8 + c, 1⟩ 1).f ⟨DBG_STAT, 8 + c, 1⟩ = 1 :=
    f_setF_one _ _ (coreBit_ok c) rfl
  refine ⟨?_, (showHalt_f _ (show DBG_STAT ≠ SYS_MODE by decide)).trans hb, (showHalt_halt _).trans (congrArg b2n (anyHalted_core c hb))⟩
  exact congrArg Core.halted (Bank.get_modify_same s.sched.cores c _)

theorem stopCore_others (s : State) {c d : Fin 8} (h : d ≠ c) : (s.stopCore c).sched.cores.get d = s.sched.cores.get d := Bank.get_modify_ne _ _ h

theorem stopCore_keeps (s : State) (c : Fin 8) : s.keeps (s.stopCore c) [DBG_STAT, SYS_MODE] :=
  keeps_setB (x := SYS_MODE_HALT) _ (keeps_setF (x := ⟨DBG_STAT, 8 + c, 1⟩) 1 (keeps_of_regs rfl _) (.head _)) (.tail _ (.head _))

theorem stopCore_f (s : State) (c : Fin 8) {x : Fld} (hr : x.reg = DBG_STAT) (hl : x.lo + x.width ≤ 8) : (s.stopCore c).f x = s.f x :=
  (showHalt_f _ (by rw [hr]; decide)).trans
    (f_setF_disj _ (x := ⟨DBG_STAT, 8 + c, 1⟩) 1 hr (.inr (show x.lo + x.width ≤ 8 + c.val by omega)))

theorem stopCore_frame (s : State) (c : Fin 8) : s.stopCore c = { s with sched := (s.stopCore c).sched, regs := (s.stopCore c).regs } := rfl

theorem stopCluster_halts (s : State) (c : Fin 12) : ((s.stopCluster c).cl c).halted = true ∧ (s.stopCluster c).f ⟨DBG_STAT, 16 + c, 1⟩ = 1 ∧
    (s.stopCluster c).f SYS_MODE_HALT = 1 := by
  have hb : ((s.modCl c (fun x => { x with halted := true })).setF ⟨DBG_STAT, 16 + c, 1⟩ 1).f ⟨DBG_STAT, 16 + c, 1⟩ = 1 :=
    f_setF_one _ _ (clusterBit_ok c) rfl
  refine ⟨?_, (showHalt_f _ (show DBG_STAT ≠ SYS_MODE by decide)).trans hb, (showHalt_halt _).trans (congrArg b2n (anyHalted_cluster c hb))⟩
  exact congrArg Cluster.halted (Bank.get_modify_same s.clusters c _)

theorem stopCluster_others (s : State) {c d : Fin 12} (h : d ≠ c) : (s.stopCluster c).cl d = s.cl d := Bank.get_modify_ne _ _ h

theorem stopCluster_keeps (s : State) (c : Fin 12) : s.keeps (s.stopCluster c) [DBG_STAT, SYS_MODE] :=
  keeps_setB (x := SYS_MODE_HALT) _ (keeps_setF (x := ⟨DBG_STAT, 16 + c, 1⟩) 1 (keeps_of_regs rfl _) (.head _)) (.tail _ (.head _))

theorem stopCluster_f (s : State) (c : Fin 12) {x : Fld} (hr : x.reg = DBG_STAT) (hl : x.lo + x.width ≤ 16) : (s.stopCluster c).f x = s.f x :=
  (showHalt_f _ (by rw [hr]; decide)).trans
    (f_setF_disj _ (x := ⟨DBG_STAT, 16 + c, 1⟩) 1 hr (.inr (show x.lo + x.width ≤ 16 + c.val by omega)))

theorem stopCluster_frame (s : State) (c : Fin 12) :
    s.stopCluster c = { s with clusters := (s.stopCluster c).clusters, regs := (s.stopCluster c).regs } := rfl

/-- The halted wheel: W stands where the time puts it (R542). -/
def stopWheel (s : State) : State := (s.syncW.setF DBG_STAT_WHEEL 1).showHalt

theorem stopWheel_halts (s : State) : s.stopWheel.f DBG_STAT_WHEEL = 1 ∧ s.stopWheel.f SYS_MODE_HALT = 1 := by
  have hb : (s.syncW.setF DBG_STAT_WHEEL 1).f DBG_STAT_WHEEL = 1 := f_setF_one _ DBG_STAT_WHEEL (by decide) rfl
  exact ⟨(showHalt_f _ (x := DBG_STAT_WHEEL) (by decide)).trans hb, (showHalt_halt _).trans (congrArg b2n (anyHalted_wheel hb))⟩

theorem syncW_w {s : State} (h : s.flag DBG_STAT_WHEEL = false) : s.syncW.wheel.w = s.wpos := by
  unfold syncW
  rw [if_neg (by rw [h]; decide)]
  dsimp only
  split <;> rfl

theorem stopWheel_keeps (s : State) : s.keeps s.stopWheel [DBG_STAT, SYS_MODE, WHEEL_STAT] :=
  keeps_setB (x := SYS_MODE_HALT) _ (keeps_setF (x := DBG_STAT_WHEEL) 1 (keeps_mono s.syncW_keeps (by decide)) (.head _)) (.tail _ (.head _))

theorem stopWheel_frame (s : State) : s.stopWheel = { s with wheel := s.stopWheel.wheel, regs := s.stopWheel.regs } := by
  unfold stopWheel
  rw [syncW_frame]
  rfl

-- ===== a target goes on =====

theorem resumeCore_goes {s : State} {c : Fin 8} (h : (s.sched.cores.get c).halted = true) :
    ((s.resumeCore c).sched.cores.get c).halted = false ∧ (s.resumeCore c).f ⟨DBG_STAT, 8 + c, 1⟩ = 0 := by
  unfold resumeCore
  rw [if_pos h]
  exact ⟨congrArg Core.halted (Bank.get_modify_same s.sched.cores c _), f_setF_zero _ ⟨DBG_STAT, 8 + c, 1⟩ (coreBit_ok c)⟩

theorem resumeCore_running {s : State} {c : Fin 8} (h : (s.sched.cores.get c).halted = false) : s.resumeCore c = s := by
  unfold resumeCore
  rw [if_neg (by rw [h]; decide)]

theorem resumeCore_others (s : State) {c d : Fin 8} (h : d ≠ c) : (s.resumeCore c).sched.cores.get d = s.sched.cores.get d := by
  unfold resumeCore
  split
  · exact Bank.get_modify_ne s.sched.cores _ h
  · rfl

theorem resumeCore_keeps (s : State) (c : Fin 8) : s.keeps (s.resumeCore c) [DBG_STAT] := by
  unfold resumeCore
  split
  · exact keeps_setF (x := ⟨DBG_STAT, 8 + c, 1⟩) 0 (keeps_of_regs rfl _) (.head _)
  · exact keeps_refl s _

theorem resumeCore_frame (s : State) (c : Fin 8) : s.resumeCore c = { s with sched := (s.resumeCore c).sched, regs := (s.resumeCore c).regs } := by
  unfold resumeCore
  split <;> rfl

theorem resumeCluster_goes {s : State} {c : Fin 12} (h : (s.cl c).halted = true) :
    ((s.resumeCluster c).cl c).halted = false ∧ (s.resumeCluster c).f ⟨DBG_STAT, 16 + c, 1⟩ = 0 ∧
      (∀ a : Fin 96, a.val / 8 = c.val → ((s.resumeCluster c).tiles.get a).lp.ran = none) := by
  have hc : (s.clusters.get c).halted = true := h
  unfold resumeCluster
  rw [if_pos hc]
  refine ⟨congrArg Cluster.halted (Bank.get_modify_same s.clusters c _), f_setF_zero _ ⟨DBG_STAT, 16 + c, 1⟩ (clusterBit_ok c), fun a ha => ?_⟩
  refine (congrArg (fun t : Tile => t.lp.ran) (Bank.get_mapIdx s.tiles _ a)).trans ?_
  rw [if_pos ha]

theorem resumeCluster_running {s : State} {c : Fin 12} (h : (s.cl c).halted = false) : s.resumeCluster c = s := by
  unfold resumeCluster
  rw [if_neg]
  exact fun hh => Bool.false_ne_true (h.symm.trans hh)

-- ===== a refused halt or step, a met breakpoint =====

theorem haltRef_keeps (s : State) : s.keeps s.haltRef [DBG_STAT] := keeps_hit (x := DBG_STAT_HALT_REF) (keeps_refl s _) (.head _)

theorem haltRef_shown (s : State) : s.haltRef.f DBG_STAT_HALT_REF = 1 := f_hit_same s _ (by decide) rfl

theorem haltRef_frame (s : State) : s.haltRef = { s with time := { s.time with hits := s.haltRef.time.hits }, regs := s.haltRef.regs } := rfl

end State

end Sys2Proof.Machine

/-! SUPPORT. O53: the commands of DBG_CTL, by the target that DBG_TGT names. -/

namespace Sys2Proof.Machine

namespace State

section Target
variable {s : State}

theorem dbgHalt_locked (h : s.flag DBG_STAT_LOCKED = true) : s.dbgHalt = s := if_pos h

theorem dbgResume_locked (h : s.flag DBG_STAT_LOCKED = true) : s.dbgResume = s := if_pos h

theorem dbgStep_locked (i : EInstr) (h : s.flag DBG_STAT_LOCKED = true) : s.dbgStep i = s := if_pos h

variable (hl : s.flag DBG_STAT_LOCKED = false)
include hl

section Core
variable (hk : s.tgtKind = 0)
include hk

theorem dbgHalt_core {c : Fin 8} (hi : s.tgtIndex = c.val) :
    s.dbgHalt = if s.dbgMay 0 && s.coreHaltOk then s.haltCore c else s.haltRef := by
  obtain ⟨c, hc⟩ := c
  subst hi
  unfold dbgHalt
  rw [hl, if_neg Bool.false_ne_true, if_pos hk, dif_pos hc]

theorem dbgResume_core {c : Fin 8} (hi : s.tgtIndex = c.val) : s.dbgResume = if s.dbgMay 0 then (s.resumeCore c).showHalt else s := by
  obtain ⟨c, hc⟩ := c
  subst hi
  unfold dbgResume
  rw [hl, if_neg Bool.false_ne_true, if_pos hk, dif_pos hc]

theorem dbgStep_core {c : Fin 8} (hi : s.tgtIndex = c.val) (i : EInstr) :
    s.dbgStep i = if s.dbgMay 0 && (s.sched.cores.get c).halted then s else s.haltRef := by
  obtain ⟨c, hc⟩ := c
  subst hi
  unfold dbgStep
  rw [hl, if_neg Bool.false_ne_true, if_pos hk, dif_pos hc]

theorem dbg_noCore (hi : 8 ≤ s.tgtIndex) : s.dbgHalt = s.haltRef ∧ s.dbgResume = s ∧ ∀ i, s.dbgStep i = s.haltRef := by
  unfold dbgHalt dbgResume dbgStep
  simp only [hl, if_neg Bool.false_ne_true, if_pos hk, dif_neg (Nat.not_lt.2 hi), implies_true, and_self]

end Core

section Cluster
variable (hk : s.tgtKind = 1)
include hk

theorem dbgHalt_cluster {c : Fin 12} (hi : s.tgtIndex = c.val) :
    s.dbgHalt = if s.dbgMay 1 && s.haltAllowed then s.haltCluster c else s.haltRef := by
  obtain ⟨c, hc⟩ := c
  subst hi
  unfold dbgHalt
  rw [hl, if_neg Bool.false_ne_true, if_neg (by rw [hk]; decide), if_pos hk, dif_pos hc]

theorem dbgResume_cluster {c : Fin 12} (hi : s.tgtIndex = c.val) :
    s.dbgResume = if s.dbgMay 1 then (s.resumeCluster c).showHalt else s := by
  obtain ⟨c, hc⟩ := c
  subst hi
  unfold dbgResume
  rw [hl, if_neg Bool.false_ne_true, if_neg (by rw [hk]; decide), if_pos hk, dif_pos hc]

theorem dbgStep_cluster {c : Fin 12} (hi : s.tgtIndex = c.val) (i : EInstr) :
    s.dbgStep i = if s.dbgMay 1 && (s.cl c).halted then s.stepEngine c i else s.haltRef := by
  obtain ⟨c, hc⟩ := c
  subst hi
  unfold dbgStep
  rw [hl, if_neg Bool.false_ne_true, if_neg (by rw [hk]; decide), if_pos hk, dif_pos hc]

theorem dbg_noCluster (hi : 12 ≤ s.tgtIndex) : s.dbgHalt = s.haltRef ∧ s.dbgResume = s ∧ ∀ i, s.dbgStep i = s.haltRef := by
  have h0 : s.tgtKind ≠ 0 := by rw [hk]; decide
  unfold dbgHalt dbgResume dbgStep
  simp only [hl, if_neg Bool.false_ne_true, if_neg h0, if_pos hk, dif_neg (Nat.not_lt.2 hi), implies_true, and_self]

end Cluster

section Rest
variable (h0 : s.tgtKind ≠ 0) (h1 : s.tgtKind ≠ 1)
include h0 h1

theorem dbgHalt_rest : s.dbgHalt = if s.tgtKind = 2 ∧ s.dbgMay 1 ∧ s.haltAllowed then s.haltWheel else s.haltRef := by
  unfold dbgHalt
  rw [hl, if_neg Bool.false_ne_true, if_neg h0, if_neg h1]

theorem dbgResume_rest : s.dbgResume = if s.tgtKind = 2 ∧ s.dbgMay 1 then s.resumeWheel.showHalt else s := by
  unfold dbgResume
  rw [hl, if_neg Bool.false_ne_true, if_neg h0, if_neg h1]

theorem dbgStep_rest (i : EInstr) : s.dbgStep i = s.haltRef := by
  unfold dbgStep
  rw [hl, if_neg Bool.false_ne_true, if_neg h0, if_neg h1]

end Rest

end Target

/-- DBG_TGT names nothing that a resume or a step may touch (R542). -/
def noResume (s : State) : Prop := (s.tgtKind = 0 ∧ (8 ≤ s.tgtIndex ∨ s.dbgMay 0 = false)) ∨
  (s.tgtKind = 1 ∧ (12 ≤ s.tgtIndex ∨ s.dbgMay 1 = false)) ∨ (s.tgtKind = 2 ∧ s.dbgMay 1 = false) ∨ s.tgtKind = 3

/-- DBG_TGT names nothing that a halt may stop in this mode (R542). -/
def noHalt (s : State) : Prop := (s.tgtKind = 0 ∧ (8 ≤ s.tgtIndex ∨ s.dbgMay 0 = false ∨ s.coreHaltOk = false)) ∨
  (s.tgtKind = 1 ∧ (12 ≤ s.tgtIndex ∨ s.dbgMay 1 = false ∨ s.haltAllowed = false)) ∨
  (s.tgtKind = 2 ∧ (s.dbgMay 1 = false ∨ s.haltAllowed = false)) ∨ s.tgtKind = 3

theorem kind_rest {s : State} (hk : s.tgtKind = 2 ∨ s.tgtKind = 3) : s.tgtKind ≠ 0 ∧ s.tgtKind ≠ 1 := by omega

theorem and_off {a b : Bool} (h : a = false ∨ b = false) : ¬ (a && b) = true := by
  revert a b
  decide

theorem dbgHalt_none {s : State} (hl : s.flag DBG_STAT_LOCKED = false) (h : s.noHalt) : s.dbgHalt = s.haltRef := by
  rcases h with ⟨hk, h⟩ | ⟨hk, h⟩ | ⟨hk, h⟩ | hk
  · by_cases hi : s.tgtIndex < 8
    · rw [dbgHalt_core hl hk (c := ⟨_, hi⟩) rfl, if_neg (and_off (h.resolve_left (by omega)))]
    · exact (dbg_noCore hl hk (Nat.not_lt.1 hi)).1
  · by_cases hi : s.tgtIndex < 12
    · rw [dbgHalt_cluster hl hk (c := ⟨_, hi⟩) rfl, if_neg (and_off (h.resolve_left (by omega)))]
    · exact (dbg_noCluster hl hk (Nat.not_lt.1 hi)).1
  · obtain ⟨h0, h1⟩ := kind_rest (.inl hk)
    rw [dbgHalt_rest hl h0 h1, if_neg (fun hh => and_off h (Bool.and_eq_true_iff.2 hh.2))]
  · obtain ⟨h0, h1⟩ := kind_rest (.inr hk)
    rw [dbgHalt_rest hl h0 h1, if_neg (by omega)]

theorem dbgResume_none {s : State} (hl : s.flag DBG_STAT_LOCKED = false) (h : s.noResume) : s.dbgResume = s := by
  rcases h with ⟨hk, h⟩ | ⟨hk, h⟩ | ⟨hk, h⟩ | hk
  · by_cases hi : s.tgtIndex < 8
    · rw [dbgResume_core hl hk (c := ⟨_, hi⟩) rfl, h.resolve_left (by omega), if_neg Bool.false_ne_true]
    · exact (dbg_noCore hl hk (Nat.not_lt.1 hi)).2.1
  · by_cases hi : s.tgtIndex < 12
    · rw [dbgResume_cluster hl hk (c := ⟨_, hi⟩) rfl, h.resolve_left (by omega), if_neg Bool.false_ne_true]
    · exact (dbg_noCluster hl hk (Nat.not_lt.1 hi)).2.1
  · obtain ⟨h0, h1⟩ := kind_rest (.inl hk)
    rw [dbgResume_rest hl h0 h1, h, if_neg (fun hh => Bool.false_ne_true hh.2)]
  · obtain ⟨h0, h1⟩ := kind_rest (.inr hk)
    rw [dbgResume_rest hl h0 h1, if_neg (by omega)]

theorem dbgStep_none {s : State} (hl : s.flag DBG_STAT_LOCKED = false) (h : s.noResume) (i : EInstr) : s.dbgStep i = s.haltRef := by
  rcases h with ⟨hk, h⟩ | ⟨hk, h⟩ | ⟨hk, h⟩ | hk
  · by_cases hi : s.tgtIndex < 8
    · rw [dbgStep_core hl hk (c := ⟨_, hi⟩) rfl, if_neg (and_off (.inl (h.resolve_left (by omega))))]
    · exact (dbg_noCore hl hk (Nat.not_lt.1 hi)).2.2 i
  · by_cases hi : s.tgtIndex < 12
    · rw [dbgStep_cluster hl hk (c := ⟨_, hi⟩) rfl, if_neg (and_off (.inl (h.resolve_left (by omega))))]
    · exact (dbg_noCluster hl hk (Nat.not_lt.1 hi)).2.2 i
  · obtain ⟨h0, h1⟩ := kind_rest (.inl hk)
    exact dbgStep_rest hl h0 h1 i
  · obtain ⟨h0, h1⟩ := kind_rest (.inr hk)
    exact dbgStep_rest hl h0 h1 i

-- ===== a breakpoint (R544) =====

/-- The breakpoint's mark. -/
def bpMark (s : State) : State := s.hit DBG_STAT_BP_HIT

theorem bpMark_shown (s : State) : s.bpMark.f DBG_STAT_BP_HIT = 1 := f_hit_same s _ (by decide) rfl

theorem bpMark_keeps (s : State) : s.keeps s.bpMark [DBG_STAT] := keeps_hit (x := DBG_STAT_BP_HIT) (keeps_refl s _) (.head _)

/-- A breakpoint that is enabled and met, with debug open. -/
def bpMet (s : State) (n : Fin 56) : Prop := s.flag DBG_STAT_LOCKED = false ∧ (s.rdN (DBG_BP n 1)).testBit 0 = true ∧
  (n.val < 32 ∨ s.f (CL_ENG_PC_PC ((n - 32) / 2)) % 4096 = s.rdN (DBG_BP n 0) % 4096)

theorem breakpointHit_met {s : State} {n : Fin 56} (h : s.bpMet n) : exec (.breakpointHit n) s = .next (s.breakHit n) := by
  obtain ⟨hl, he, hm⟩ := h
  refine congrArg _ (if_pos ⟨by rw [hl]; rfl, he, ?_⟩)
  simpa using hm

theorem breakpointHit_idle {s : State} {n : Fin 56} (h : ¬ s.bpMet n) : exec (.breakpointHit n) s = .next s := by
  refine congrArg _ (if_neg fun ⟨hl, he, hm⟩ => h ⟨?_, he, ?_⟩)
  · simpa using hl
  · simpa using hm

theorem breakHit_core {s : State} {n : Nat} (c : Fin 8) (hc : n / 4 = c.val) :
    s.breakHit n = (if s.dbgMay 0 ∧ s.coreHaltOk then s.bpMark.stopCore c else s.bpMark).msix 4 := by
  obtain ⟨c, h8⟩ := c
  subst hc
  unfold breakHit
  rw [dif_pos (by omega)]
  rfl

theorem breakHit_engine {s : State} {n : Nat} (c : Fin 12) (h32 : 32 ≤ n) (hc : (n - 32) / 2 = c.val) :
    s.breakHit n = if (s.rdN (DBG_BP n 1)).testBit 3 ∨ !(s.dbgMay 1 && s.haltAllowed) then (s.bpMark.takeDbgSnap c).msix 4
      else (s.bpMark.stopCluster c).msix 4 := by
  obtain ⟨c, h12⟩ := c
  subst hc
  unfold breakHit
  rw [dif_neg (by omega), dif_pos (by omega)]
  rfl

/-- The first word of a snapshot names the cluster and its engine's PC. -/
theorem takeDbgSnap_first (s : State) (c : Fin 12) :
    (s.takeDbgSnap c).rdN (DBG_SNAP 0) = s.f (CL_ENG_PC_PC c) % 4096 + 4096 * c.val := by
  unfold takeDbgSnap rdN
  simp only [List.cons_append, List.nil_append]
  unfold wrWords
  rw [rd_wrWords _ _ _ (.inl (by decide)), rd_wr_same, BitVec.toNat_ofNat]
  omega

theorem takeDbgSnap_f (s : State) (c : Fin 12) {x : Fld} (hx : x.reg < DBG_SNAP 0) : (s.takeDbgSnap c).f x = s.f x := by
  unfold takeDbgSnap
  exact f_of_rd (rd_wrWords _ _ _ (.inl hx))

theorem takeDbgSnap_frame (s : State) (c : Fin 12) : s.takeDbgSnap c = { s with regs := (s.takeDbgSnap c).regs } := by
  unfold takeDbgSnap
  exact wrWords_frame _ _ _

-- ===== a token ends (R546) =====

theorem relock_locked (s : State) (cause : Nat) (ht : s.flag DBG_STAT_TOKEN = true) : (s.relock cause).f DBG_STAT_LOCKED = 1 ∧
    (s.relock cause).f DBG_STAT_TOKEN = 0 ∧ (s.relock cause).host.tokenEnd = none ∧ (s.relock cause).host.scope = 0 := by
  unfold relock
  rw [ht, if_neg (by decide)]
  dsimp only
  generalize s.resumeAll.dropBreaks = u
  have hf (v : State) (x : Fld) (hx : x.reg ∉ recRegs) (p : List Byte) : (v.offerRec 0x31 3 p).f x = v.f x := f_keeps (offerRec_keeps v _ _ p) hx
  refine ⟨?_, ?_, ?_, ?_⟩
  · rw [hf _ _ (by decide)]
    exact (f_setF_disj _ (x := DBG_STAT_TOKEN) (y := DBG_STAT_LOCKED) 0 rfl (by decide)).trans (f_setF_one _ DBG_STAT_LOCKED (by decide) rfl)
  · rw [hf _ _ (by decide)]
    exact f_setF_zero _ DBG_STAT_TOKEN (by decide)
  · rw [offerRec_host]
    rfl
  · rw [offerRec_host]
    rfl

theorem relock_idle {s : State} (cause : Nat) (ht : s.flag DBG_STAT_TOKEN = false) : s.relock cause = s := by
  unfold relock
  rw [ht, if_pos (by decide)]

end State

end Sys2Proof.Machine

/-! OBLIGATION O53: the debug module (R73, R542 to R546). -/

namespace Sys2Proof.Machine

namespace State

theorem exec_dbgHalt (s : State) : exec (.dbgHalt 0x4447) s = .next s.dbgHalt := rfl

theorem exec_dbgResume (s : State) : exec (.dbgResume 0x4447) s = .next s.dbgResume := rfl

theorem exec_dbgStep (s : State) (i : EInstr) : exec (.dbgStep 0x4447 i) s = .next (s.dbgStep i) := rfl

/-- A refused halt or step shows in DBG_STAT alone. -/
theorem haltRef_refused (s : State) : s.haltRef.f DBG_STAT_HALT_REF = 1 ∧ s.keeps s.haltRef [DBG_STAT] ∧
    s.haltRef = { s with time := { s.time with hits := s.haltRef.time.hits }, regs := s.haltRef.regs } :=
  ⟨s.haltRef_shown, s.haltRef_keeps, s.haltRef_frame⟩

theorem and_on {a b : Bool} (ha : a = true) (hb : b = true) : (a && b) = true := by
  rw [ha, hb]
  rfl

section Breakpoint
variable {s : State} {n : Fin 56} (h : s.bpMet n)
include h

theorem breakpointHit_stopsCore {c : Fin 8} (hc : n.val / 4 = c.val) (hm : s.dbgMay 0 = true) (ho : s.coreHaltOk = true) :
    exec (.breakpointHit n) s = .next ((s.bpMark.stopCore c).msix 4) := by
  rw [breakpointHit_met h, breakHit_core c hc, if_pos ⟨hm, ho⟩]

theorem breakpointHit_marks (hn : n.val < 32) (hm : s.dbgMay 0 = false ∨ s.coreHaltOk = false) :
    exec (.breakpointHit n) s = .next (s.bpMark.msix 4) := by
  rw [breakpointHit_met h, breakHit_core ⟨n.val / 4, by omega⟩ rfl, if_neg (fun hh => and_off hm (Bool.and_eq_true_iff.2 hh))]

variable {c : Fin 12} (h32 : 32 ≤ n.val) (hc : (n.val - 32) / 2 = c.val)
include h32 hc

theorem breakpointHit_stopsCluster (hb : (s.rdN (DBG_BP n 1)).testBit 3 = false) (hm : s.dbgMay 1 = true) (ho : s.haltAllowed = true) :
    exec (.breakpointHit n) s = .next ((s.bpMark.stopCluster c).msix 4) := by
  rw [breakpointHit_met h, breakHit_engine c h32 hc, hb, hm, ho, if_neg (by decide)]

theorem breakpointHit_snaps (hb : (s.rdN (DBG_BP n 1)).testBit 3 = true ∨ s.dbgMay 1 = false ∨ s.haltAllowed = false) :
    exec (.breakpointHit n) s = .next ((s.bpMark.takeDbgSnap c).msix 4) := by
  rw [breakpointHit_met h, breakHit_engine c h32 hc, if_pos]
  exact hb.imp_right fun hh => by rw [(Bool.not_eq_true _).mp (and_off hh)]; rfl

end Breakpoint

/-- The halted core, with vector 4 fired (R528, R542). -/
theorem stopCore_msix (s : State) (c : Fin 8) (t : State) (ht : t = (s.stopCore c).msix 4) :
    (t.sched.cores.get c).halted = true ∧ t.f ⟨DBG_STAT, 8 + c, 1⟩ = 1 ∧ t.f SYS_MODE_HALT = 1 ∧
      t.host.msix.get 4 = s.host.msix.get 4 + 1 ∧ (∀ d, d ≠ c → t.sched.cores.get d = s.sched.cores.get d) ∧ s.keeps t [DBG_STAT, SYS_MODE] ∧
      t = { s with sched := t.sched, host := t.host, regs := t.regs } := by
  subst ht
  obtain ⟨h1, h2, h3⟩ := stopCore_halts s c
  have ho := fun d hd => stopCore_others s (c := c) (d := d) hd
  have hk := stopCore_keeps s c
  have hf := stopCore_frame s c
  have hm : (s.stopCore c).host = s.host := rfl
  generalize s.stopCore c = u at *
  refine ⟨h1, h2, h3, (msix_shown u).trans (by rw [hm]), ho, keeps_congr hk rfl, ?_⟩
  rw [hf]
  rfl

/-- The halted cluster, with vector 4 fired (R528, R542). -/
theorem stopCluster_msix (s : State) (c : Fin 12) (t : State) (ht : t = (s.stopCluster c).msix 4) :
    (t.cl c).halted = true ∧ t.f ⟨DBG_STAT, 16 + c, 1⟩ = 1 ∧ t.f SYS_MODE_HALT = 1 ∧
      t.host.msix.get 4 = s.host.msix.get 4 + 1 ∧ (∀ d, d ≠ c → t.cl d = s.cl d) ∧ s.keeps t [DBG_STAT, SYS_MODE] ∧
      t = { s with clusters := t.clusters, host := t.host, regs := t.regs } := by
  subst ht
  obtain ⟨h1, h2, h3⟩ := stopCluster_halts s c
  have ho := fun d hd => stopCluster_others s (c := c) (d := d) hd
  have hk := stopCluster_keeps s c
  have hf := stopCluster_frame s c
  have hm : (s.stopCluster c).host = s.host := rfl
  generalize s.stopCluster c = u at *
  refine ⟨h1, h2, h3, (msix_shown u).trans (by rw [hm]), ho, keeps_congr hk rfl, ?_⟩
  rw [hf]
  rfl

/-- A core's breakpoint stops it (R544). -/
theorem bpMark_stopCore (s : State) (c : Fin 8) (t : State) (ht : t = (s.bpMark.stopCore c).msix 4) :
    t.f DBG_STAT_BP_HIT = 1 ∧ (t.sched.cores.get c).halted = true ∧ t.f ⟨DBG_STAT, 8 + c, 1⟩ = 1 ∧
      t.host.msix.get 4 = s.host.msix.get 4 + 1 ∧ s.keeps t [DBG_STAT, SYS_MODE] ∧
      t = { s with time := { s.time with hits := t.time.hits }, sched := t.sched, host := t.host, regs := t.regs } := by
  obtain ⟨h1, h2, -, h4, -, hk, hf⟩ := stopCore_msix s.bpMark c t ht
  have hb : t.f DBG_STAT_BP_HIT = 1 := by
    rw [ht, msix_f, stopCore_f _ c (x := DBG_STAT_BP_HIT) rfl (by decide), bpMark_shown]
  exact ⟨hb, h1, h2, h4, keeps_trans (keeps_mono s.bpMark_keeps (by decide)) hk, by rw [hf]; rfl⟩

/-- An engine's breakpoint stops its cluster (R544). -/
theorem bpMark_stopCluster (s : State) (c : Fin 12) (t : State) (ht : t = (s.bpMark.stopCluster c).msix 4) :
    t.f DBG_STAT_BP_HIT = 1 ∧ (t.cl c).halted = true ∧ t.f ⟨DBG_STAT, 16 + c, 1⟩ = 1 ∧
      t.host.msix.get 4 = s.host.msix.get 4 + 1 ∧ s.keeps t [DBG_STAT, SYS_MODE] ∧
      t = { s with time := { s.time with hits := t.time.hits }, clusters := t.clusters, host := t.host, regs := t.regs } := by
  obtain ⟨h1, h2, -, h4, -, hk, hf⟩ := stopCluster_msix s.bpMark c t ht
  have hb : t.f DBG_STAT_BP_HIT = 1 := by
    rw [ht, msix_f, stopCluster_f _ c (x := DBG_STAT_BP_HIT) rfl (by decide), bpMark_shown]
  exact ⟨hb, h1, h2, h4, keeps_trans (keeps_mono s.bpMark_keeps (by decide)) hk, by rw [hf]; rfl⟩

/-- An engine's breakpoint that does not halt takes a snapshot alone (R544). -/
theorem bpMark_takeDbgSnap (s : State) (c : Fin 12) (t : State) (ht : t = (s.bpMark.takeDbgSnap c).msix 4) :
    t.f DBG_STAT_BP_HIT = 1 ∧ t.rdN (DBG_SNAP 0) = s.f (CL_ENG_PC_PC c) % 4096 + 4096 * c.val ∧ t.clusters = s.clusters ∧
      t.host.msix.get 4 = s.host.msix.get 4 + 1 ∧ t = { s with time := { s.time with hits := t.time.hits }, host := t.host, regs := t.regs } := by
  subst ht
  have hpc : s.bpMark.f (CL_ENG_PC_PC c) = s.f (CL_ENG_PC_PC c) := f_keeps s.bpMark_keeps (by revert c; decide)
  have h1 := (takeDbgSnap_f s.bpMark c (x := DBG_STAT_BP_HIT) (by decide)).trans s.bpMark_shown
  have h2 := (takeDbgSnap_first s.bpMark c).trans (by rw [hpc])
  have hf := takeDbgSnap_frame s.bpMark c
  generalize s.bpMark.takeDbgSnap c = u at *
  refine ⟨h1, h2, ?_, ?_, ?_⟩
  · rw [msix_clusters, hf]
    rfl
  · rw [msix_shown, hf]
    rfl
  · rw [hf]
    rfl

theorem dbgHalt_stopsWheel {s : State} (hl : s.flag DBG_STAT_LOCKED = false) (hk : s.tgtKind = 2) (hm : s.dbgMay 1 = true)
    (ho : s.haltAllowed = true) (hw : s.flag DBG_STAT_WHEEL = false) : s.dbgHalt = s.stopWheel.msix 4 := by
  obtain ⟨h0, h1⟩ := kind_rest (.inl hk)
  rw [dbgHalt_rest hl h0 h1, if_pos ⟨hk, hm, ho⟩, haltWheel, hw, if_neg Bool.false_ne_true]
  rfl

/-- The stopped wheel, with its vector fired. -/
theorem stopWheel_runs {s : State} (hw : s.flag DBG_STAT_WHEEL = false) (t : State) (ht : t = s.stopWheel.msix 4) :
    t.f DBG_STAT_WHEEL = 1 ∧ t.f SYS_MODE_HALT = 1 ∧ t.host.msix.get 4 = s.host.msix.get 4 + 1 ∧ t.wheel.w = s.wpos ∧
      s.keeps t [DBG_STAT, SYS_MODE, WHEEL_STAT] ∧ t = { s with wheel := t.wheel, host := t.host, regs := t.regs } := by
  subst ht
  obtain ⟨h1, h2⟩ := stopWheel_halts s
  have hk := stopWheel_keeps s
  have hf := stopWheel_frame s
  have hw : s.stopWheel.wheel.w = s.wpos := syncW_w hw
  generalize s.stopWheel = u at *
  refine ⟨h1, h2, ?_, hw, keeps_congr hk rfl, ?_⟩
  · rw [msix_shown, hf]
  · rw [hf]
    rfl

end State

open State

/-- Settles O53: each command is reduced to the target it names (`dbgHalt_core` and its companions), whose stop or resume is said
once. -/
theorem debugRuns : Obligations.DebugRuns := by
  unfold Obligations.DebugRuns
  dsimp only
  refine ⟨?_, ?_, ?_, ?_, ?_, ?_, ?_, ?_, ?_, ?_, ?_, ?_, ?_, ?_, ?_, ?_, ?_, ?_, ?_, ?_, ?_, ?_, ?_, ?_, ?_⟩
  · exact fun s k i hk => ⟨congrArg _ (if_neg hk), congrArg _ (if_neg hk), congrArg _ (if_neg hk), congrArg _ (if_neg hk)⟩
  · exact fun s i n hl => ⟨congrArg _ (dbgHalt_locked hl), congrArg _ (dbgResume_locked hl), congrArg _ (dbgStep_locked i hl),
      breakpointHit_idle fun h => Bool.false_ne_true (h.1.symm.trans hl)⟩
  · intro s c ⟨hl, hk, hi⟩ hm ho hh
    refine ⟨(s.stopCore c).msix 4, ?_, stopCore_msix s c _ rfl⟩
    rw [exec_dbgHalt, dbgHalt_core hl hk hi, if_pos (and_on hm ho), haltCore, hh, if_neg Bool.false_ne_true]
  · intro s c ⟨hl, hk, hi⟩ hm ho hh
    rw [exec_dbgHalt, dbgHalt_core hl hk hi, if_pos (and_on hm ho), haltCore, if_pos hh]
  · intro s c ⟨hl, hk, hi⟩ hm ho hh
    refine ⟨(s.stopCluster c).msix 4, ?_, stopCluster_msix s c _ rfl⟩
    rw [exec_dbgHalt, dbgHalt_cluster hl hk hi, if_pos (and_on hm ho), haltCluster, hh, if_neg Bool.false_ne_true]
  · intro s c ⟨hl, hk, hi⟩ hm ho hh
    rw [exec_dbgHalt, dbgHalt_cluster hl hk hi, if_pos (and_on hm ho), haltCluster, if_pos hh]
  · exact fun s ⟨hl, hk⟩ hm ho hw => ⟨s.stopWheel.msix 4, congrArg _ (dbgHalt_stopsWheel hl hk hm ho hw), stopWheel_runs hw _ rfl⟩
  · intro s ⟨hl, hk⟩ hm ho hw
    obtain ⟨h0, h1⟩ := kind_rest (.inl hk)
    rw [exec_dbgHalt, dbgHalt_rest hl h0 h1, if_pos ⟨hk, hm, ho⟩, haltWheel, if_pos hw]
  · exact fun s hl h => ⟨s.haltRef, congrArg _ (dbgHalt_none hl h), s.haltRef_refused⟩
  · intro s c ⟨hl, hk, hi⟩ hm hh
    obtain ⟨h1, h2⟩ := resumeCore_goes hh
    refine ⟨(s.resumeCore c).showHalt, ?_, h1, (showHalt_f _ (show DBG_STAT ≠ SYS_MODE by decide)).trans h2, fun d hd => resumeCore_others s hd,
      keeps_trans (keeps_mono (resumeCore_keeps s c) (by decide)) (keeps_mono (showHalt_keeps _) (by decide)), ?_⟩
    · rw [exec_dbgResume, dbgResume_core hl hk hi, if_pos hm]
    · rw [resumeCore_frame]
      rfl
  · intro s c ⟨hl, hk, hi⟩ hm hh
    obtain ⟨h1, h2, h3⟩ := resumeCluster_goes hh
    refine ⟨(s.resumeCluster c).showHalt, ?_, h1, (showHalt_f _ (show DBG_STAT ≠ SYS_MODE by decide)).trans h2, h3,
      keeps_trans (keeps_mono (resumeCluster_keeps s c) (by decide)) (keeps_mono (showHalt_keeps _) (by decide)), ?_⟩
    · rw [exec_dbgResume, dbgResume_cluster hl hk hi, if_pos hm]
    · exact haltFrame_trans (resumeCluster_haltFrame s c) rfl
  · intro s h
    have hs : exec (.dbgResume 0x4447) s = .next s.showHalt := by
      rcases h with ⟨c, ⟨hl, hk, hi⟩, hm, hh⟩ | ⟨c, ⟨hl, hk, hi⟩, hm, hh⟩
      · rw [exec_dbgResume, dbgResume_core hl hk hi, if_pos hm, resumeCore_running hh]
      · rw [exec_dbgResume, dbgResume_cluster hl hk hi, if_pos hm, resumeCluster_running hh]
    exact ⟨s.showHalt, hs, showHalt_keeps s, rfl, showHalt_halt s⟩
  · intro s ⟨hl, hk⟩ hm hw
    obtain ⟨h0, h1⟩ := kind_rest (.inl hk)
    rw [exec_dbgResume, dbgResume_rest hl h0 h1, if_pos ⟨hk, hm⟩, resumeWheel, if_pos hw]
  · intro s ⟨hl, hk⟩ hm hw
    obtain ⟨h0, h1⟩ := kind_rest (.inl hk)
    rw [exec_dbgResume, dbgResume_rest hl h0 h1, if_pos ⟨hk, hm⟩, resumeWheel, hw, if_neg Bool.false_ne_true]
  · exact fun s hl h => congrArg _ (dbgResume_none hl h)
  · intro s c i ⟨hl, hk, hi⟩ hm hh
    rw [exec_dbgStep, dbgStep_cluster hl hk hi, if_pos (and_on hm hh)]
    exact ⟨rfl, congrArg Cluster.halted (Bank.get_modify_same _ c _)⟩
  · intro s c i ⟨hl, hk, hi⟩ hm hh
    rw [exec_dbgStep, dbgStep_core hl hk hi, if_pos (and_on hm hh)]
  · intro s i hl h
    have hs : s.dbgStep i = s.haltRef := by
      rcases h with ⟨c, ⟨_, hk, hi⟩, hh⟩ | ⟨c, ⟨_, hk, hi⟩, hh⟩ | h | hk
      · rw [dbgStep_core hl hk hi, if_neg (and_off (.inr hh))]
      · rw [dbgStep_cluster hl hk hi, if_neg (and_off (.inr hh))]
      · exact dbgStep_none hl h i
      · obtain ⟨h0, h1⟩ := kind_rest (.inl hk)
        exact dbgStep_rest hl h0 h1 i
    exact ⟨s.haltRef, congrArg _ hs, s.haltRef_refused⟩
  · exact fun s n h => breakpointHit_idle h
  · exact fun s n c hc h hm ho => ⟨_, breakpointHit_stopsCore h hc hm ho, bpMark_stopCore s c _ rfl⟩
  · exact fun s n hn h hm => ⟨_, breakpointHit_marks h hn hm, s.bpMark_shown, msix_shown _, s.bpMark_keeps, rfl⟩
  · exact fun s n c h32 hc h hb hm ho => ⟨_, breakpointHit_stopsCluster h h32 hc hb hm ho, bpMark_stopCluster s c _ rfl⟩
  · exact fun s n c h32 hc h hb => ⟨_, breakpointHit_snaps h h32 hc hb, bpMark_takeDbgSnap s c _ rfl⟩
  · exact fun s ht => ⟨s.relock 0, rfl, relock_locked s 0 ht⟩
  · exact fun s ht => congrArg _ (relock_idle 0 ht)

end Sys2Proof.Machine

/-! SUPPORT. O50: shedding, the commit and recovery (R97 to R103). -/

namespace Sys2Proof.Machine

namespace State

-- ===== the solver units stop and start (R97) =====

/-- Fields of other bits do not see a field written, whatever the registers. -/
theorem f_setF_apart (s : State) {x y : Fld} (v : Nat) (h : x.lo + x.width ≤ y.lo ∨ y.lo + y.width ≤ x.lo) : (s.setF x v).f y = s.f y := by
  by_cases hr : y.reg = x.reg
  · exact f_setF_disj s v hr h
  · exact f_setF_ne s v hr

/-- The words of the solver's windows (R550). -/
abbrev solverWord (a : Nat) : Prop := 0x200000 ≤ a ∧ a < 0x300000

/-- From s to t words of the solver alone are written, arms of the solver alone differ, and the marks of its units stand. -/
structure solverOnly (s t : State) : Prop where
  words : ∀ r, ¬ solverWord r → t.rd r = s.rd r
  stopped : ∀ q, q < 4 → t.f (QS_STAT_STOPPED q) = s.f (QS_STAT_STOPPED q)
  frame : t = { s with qarms := t.qarms, regs := t.regs }

theorem solverOnly_refl (s : State) : s.solverOnly s := ⟨fun _ _ => rfl, fun _ _ => rfl, rfl⟩

theorem solverOnly_trans {s t u : State} (h : s.solverOnly t) (h' : t.solverOnly u) : s.solverOnly u :=
  ⟨fun r hr => (h'.words r hr).trans (h.words r hr), fun q hq => (h'.stopped q hq).trans (h.stopped q hq),
    h'.frame.trans (by rw [h.frame])⟩

theorem solverOnly_setF {s t : State} (h : s.solverOnly t) {x : Fld} (v : Nat) (hx : solverWord x.reg)
    (hs : 2 ≤ x.lo ∨ x.lo + x.width ≤ 1 ∨ ∀ q, q < 4 → QS_STAT q ≠ x.reg) : s.solverOnly (t.setF x v) := by
  refine ⟨fun r hr => (rd_wr_ne t _ (by rintro rfl; exact hr hx)).trans (h.words r hr), fun q hq => Eq.trans ?_ (h.stopped q hq), ?_⟩
  · rcases hs with hs | hs | hs
    · exact f_setF_apart t (x := x) (y := QS_STAT_STOPPED q) v (.inr hs)
    · exact f_setF_apart t (x := x) (y := QS_STAT_STOPPED q) v (.inl hs)
    · exact f_setF_ne t (y := QS_STAT_STOPPED q) v (hs q hq)
  · have := h.frame
    generalize t.regs = r at this
    rw [this]
    rfl

theorem solverOnly_modQ {s t : State} (h : s.solverOnly t) (a : Fin 12) (g : QArm → QArm) : s.solverOnly (t.modQ a g) := by
  refine ⟨h.words, h.stopped, ?_⟩
  rw [h.frame]
  rfl

theorem unitWord_solver {u : Nat} (hu : u < 4) : solverWord (QS_STAT u) := by
  unfold solverWord QS_STAT qsBase
  omega

theorem armWord_solver {u j k : Nat} (hu : u < 4) (hj : j < 3) (hk : k < 0x40) : solverWord (qsArmBase u j + k) := by
  unfold solverWord qsArmBase
  omega

theorem unitWord_ne_armWord {j k : Nat} (u : Nat) (hj : j < 3) (hk : k < 0x40) (q : Nat) : QS_STAT q ≠ qsArmBase u j + k := by
  unfold QS_STAT qsBase qsArmBase
  omega

/-- The end of a window writes words of its unit and its arm alone (R292). -/
theorem endWindow_solverOnly (s : State) (a : Fin 12) {p : QProb} (hu : p.unit < 4) (hp : p.pos < 3) (kind cause : Nat) :
    s.solverOnly (s.endWindow a p kind cause) := by
  have hT := fun q (_ : q < 4) => unitWord_ne_armWord (k := 0x18) p.unit hp (by decide) q
  have hcore (t : State) (h : s.solverOnly t) (g : QArm → QArm) (m n : Nat) :
      s.solverOnly ((((((t.modQ a g).setF (QS_STAT_RUNNING p.unit) 0).setF (QS_STAT_POS p.unit) 15).setF (QS_STAT_IN_FACT p.unit) 0).setF
        (QS_ARM_TEND_T p.unit p.pos) m).setF (QS_ARM_RES_ITER p.unit p.pos) n) :=
    solverOnly_setF (x := QS_ARM_RES_ITER p.unit p.pos) (solverOnly_setF (x := QS_ARM_TEND_T p.unit p.pos)
      (solverOnly_setF (x := QS_STAT_IN_FACT p.unit) (solverOnly_setF (x := QS_STAT_POS p.unit) (solverOnly_setF (x := QS_STAT_RUNNING p.unit)
        (solverOnly_modQ h a g) 0 (unitWord_solver hu) (.inr (.inl (show 0 + 1 ≤ 1 by decide)))) 15 (unitWord_solver hu) (.inl (show 2 ≤ 2 by decide)))
        0 (unitWord_solver hu) (.inl (show 2 ≤ 6 by decide))) m (armWord_solver hu hp (by decide)) (.inr (.inr hT)))
      n (armWord_solver hu hp (by decide)) (.inl (show 2 ≤ 8 by decide))
  unfold endWindow
  split
  · exact solverOnly_refl s
  · refine hcore _ ?_ _ _ _
    split
    · exact solverOnly_setF (x := QS_ARM_RES_RHO p.unit p.pos) (solverOnly_refl s) _ (armWord_solver hu hp (by decide)) (.inl (show 2 ≤ 16 by decide))
    · exact solverOnly_refl s

/-- Every solver unit shows v in STOPPED. -/
def markUnits (s : State) (v : Nat) : State := (List.range 4).foldl (fun (s : State) u => s.setF (QS_STAT_STOPPED u) v) s

/-- The marks of the solver's units. -/
abbrev unitRegs : List Nat := [QS_STAT 0, QS_STAT 1, QS_STAT 2, QS_STAT 3]

theorem markUnits_eq (s : State) (v : Nat) : s.markUnits v =
    (((s.setF (QS_STAT_STOPPED 0) v).setF (QS_STAT_STOPPED 1) v).setF (QS_STAT_STOPPED 2) v).setF (QS_STAT_STOPPED 3) v := rfl

theorem markUnits_shown (s : State) {v : Nat} (hv : v < 2) {q : Nat} (hq : q < 4) : (s.markUnits v).f (QS_STAT_STOPPED q) = v := by
  have hs (u : State) (q : Nat) : (u.setF (QS_STAT_STOPPED q) v).f (QS_STAT_STOPPED q) = v :=
    (f_setF_same u _ v (show 1 + 1 ≤ 32 by decide)).trans (Nat.mod_eq_of_lt hv)
  have hn (u : State) {q k : Nat} (h : q ≠ k) : (u.setF (QS_STAT_STOPPED k) v).f (QS_STAT_STOPPED q) = u.f (QS_STAT_STOPPED q) :=
    f_setF_ne u v (show 0x200000 + 0x4000 * q ≠ 0x200000 + 0x4000 * k by omega)
  rw [markUnits_eq]
  interval_cases q
  · rw [hn _ (by decide), hn _ (by decide), hn _ (by decide), hs]
  · rw [hn _ (by decide), hn _ (by decide), hs]
  · rw [hn _ (by decide), hs]
  · rw [hs]

theorem markUnits_keeps (s : State) (v : Nat) : s.keeps (s.markUnits v) unitRegs := by
  rw [markUnits_eq]
  exact keeps_setF (x := QS_STAT_STOPPED 3) v (keeps_setF (x := QS_STAT_STOPPED 2) v (keeps_setF (x := QS_STAT_STOPPED 1) v
    (keeps_setF (x := QS_STAT_STOPPED 0) v (keeps_refl s _) (by decide)) (by decide)) (by decide)) (by decide)

theorem markUnits_frame (s : State) (v : Nat) : s.markUnits v = { s with regs := (s.markUnits v).regs } := by
  rw [markUnits_eq]
  rfl

theorem markUnits_rd (s : State) (v : Nat) {r : Nat} (h : ¬ solverWord r) : (s.markUnits v).rd r = s.rd r :=
  markUnits_keeps s v r (by
    unfold solverWord at h
    unfold unitRegs QS_STAT qsBase
    simp only [List.mem_cons, List.not_mem_nil, or_false]
    omega)

theorem startUnits_eq (s : State) : s.startUnits = s.markUnits 0 := rfl

/-- Problems of the running structure within the solver. -/
def probsFit (s : State) : Prop := ∀ p ∈ s.st.probs, p.unit < 4 ∧ p.pos < 3

theorem markUnits_st (s : State) (v : Nat) : (s.markUnits v).st = s.st := by
  rw [markUnits_frame]
  rfl

theorem stopUnits_spec {s : State} (h : s.probsFit) : (s.markUnits 1).solverOnly s.stopUnits := by
  unfold stopUnits
  refine foldl_rel solverOnly_refl solverOnly_trans _ _ fun p hp u => ?_
  split
  · obtain ⟨hu, hp⟩ := h p (by rwa [← markUnits_st s 1])
    exact endWindow_solverOnly u _ hu hp _ _
  · exact solverOnly_refl u

theorem stopUnits_none {s : State} (h : s.st.probs = []) : s.stopUnits = s.markUnits 1 := by
  unfold stopUnits
  dsimp only
  rw [show ((List.range 4).foldl (fun (s : State) u => s.setF (QS_STAT_STOPPED u) 1) s).st.probs = [] from
    (congrArg Structure.probs (markUnits_st s 1)).trans h]
  rfl

/-- The units stand stopped; beside the words and the arms of the solver nothing changes. -/
theorem stopUnits_stops {s : State} (h : s.probsFit) : (∀ q, q < 4 → s.stopUnits.f (QS_STAT_STOPPED q) = 1) ∧
    (∀ r, ¬ solverWord r → s.stopUnits.rd r = s.rd r) ∧ s.stopUnits = { s with qarms := s.stopUnits.qarms, regs := s.stopUnits.regs } := by
  have hs := stopUnits_spec h
  refine ⟨fun q hq => (hs.stopped q hq).trans (markUnits_shown s (by decide) hq), fun r hr => (hs.words r hr).trans (markUnits_rd s 1 hr), ?_⟩
  refine hs.frame.trans ?_
  rw [markUnits_frame]

end State

end Sys2Proof.Machine

namespace Sys2Proof.Machine

namespace State

-- ===== shedding starts (R97, R103) =====

/-- The supply shows shedding and the units stop; acquisition is still as it was. -/
def unitsShed (s : State) : State := ((s.setF SYS_MODE_SHED 1).setF PWR_STAT_SHED 1).stopUnits

/-- Shedding starts at a VIN of mv (R97, R103). -/
def shedStart (s : State) (mv : Nat) : State :=
  { s.unitsShed.pauseAcq with sys := { s.unitsShed.sys with dipStart := some s.unitsShed.time.mono, dipMin := mv } }

/-- A dip within shedding keeps the lower VIN. -/
def dipOn (s : State) (mv : Nat) : State := { s with sys := { s.sys with dipMin := min mv s.sys.dipMin } }

/-- A commit is due, with a snapshot where the unit runs in RUN and is no standby (R99). -/
def noteCommit (s : State) : State :=
  { s with sys := { s.sys with commitDue := true, commitSnap := s.sys.commitSnap || (s.mode == mRUN && s.role != 2) } }

/-- The state in which shedding starts or goes on: an armed swap is gone (R97). -/
def dipSeen (v : State) (mv : Nat) : State := (v.setF PWR_VIN_VIN_MV mv).abandonSwap 0x15 2

theorem execVinBelowVwarn_idle {s : State} {mv m : Nat} (h : (s.runTo m).mode = mRESET ∨ 10300 < mv) :
    exec (.vinBelowVwarn mv m) s = .next (s.runTo m) := congrArg _ (if_pos h)

theorem execVinBelowVwarn_dip {s v : State} {mv m : Nat} (hm : (s.runTo m).mode ≠ mRESET) (hv : mv ≤ 10300) (h : v = (s.runTo m).swapFirst) :
    exec (.vinBelowVwarn mv m) s = .next (if (v.dipSeen mv).flag SYS_MODE_SHED then (v.dipSeen mv).dipOn mv else (v.dipSeen mv).shedStart mv).noteCommit := by
  subst h
  exact congrArg _ (if_neg (by omega))

section Start
variable {s : State} (hf : s.probsFit)

include hf

theorem unitsShed_words {r : Nat} (h : ¬ solverWord r) : s.unitsShed.rd r = ((s.setF SYS_MODE_SHED 1).setF PWR_STAT_SHED 1).rd r :=
  (stopUnits_stops (s := (s.setF SYS_MODE_SHED 1).setF PWR_STAT_SHED 1) hf).2.1 r h

theorem unitsShed_stopped {q : Nat} (hq : q < 4) : s.unitsShed.f (QS_STAT_STOPPED q) = 1 :=
  (stopUnits_stops (s := (s.setF SYS_MODE_SHED 1).setF PWR_STAT_SHED 1) hf).1 q hq

theorem unitsShed_frame : s.unitsShed = { s with qarms := s.unitsShed.qarms, regs := s.unitsShed.regs } :=
  (stopUnits_stops (s := (s.setF SYS_MODE_SHED 1).setF PWR_STAT_SHED 1) hf).2.2

/-- Beside the solver's words the start of shedding writes its marks and the capture's pause alone. -/
theorem shedStart_rd (mv : Nat) {r : Nat} (h : ¬ solverWord r) (hr : r ∉ [SYS_MODE, PWR_STAT, ACQ_STAT]) : (s.shedStart mv).rd r = s.rd r := by
  have h1 : (s.shedStart mv).rd r = s.unitsShed.rd r := rd_wr_ne s.unitsShed _ (a := ACQ_STAT) (by rintro rfl; exact hr (by decide))
  refine h1.trans ((unitsShed_words hf h).trans ?_)
  exact (rd_wr_ne _ _ (a := PWR_STAT) (by rintro rfl; exact hr (by decide))).trans (rd_wr_ne s _ (a := SYS_MODE) (by rintro rfl; exact hr (by decide)))

theorem shedStart_marks (mv : Nat) : (s.shedStart mv).f SYS_MODE_SHED = 1 ∧ (s.shedStart mv).f PWR_STAT_SHED = 1 ∧
    (∀ q, q < 4 → (s.shedStart mv).f (QS_STAT_STOPPED q) = 1) ∧
    (s.shedStart mv).f ACQ_STAT_PAUSED = b2n (s.f ACQ_STAT_STATE == 1 || s.f ACQ_STAT_STATE == 2) := by
  have hp (x : Fld) (hx : x.reg ≠ ACQ_STAT) : (s.shedStart mv).f x = s.unitsShed.f x := f_setB_ne s.unitsShed (x := ACQ_STAT_PAUSED) _ hx
  refine ⟨?_, ?_, fun q hq => (hp _ ?_).trans (unitsShed_stopped hf hq), ?_⟩
  · rw [hp _ (by decide), f_of_rd (unitsShed_words hf (by decide)), f_setF_ne _ (x := PWR_STAT_SHED) _ (by decide),
      f_setF_one s SYS_MODE_SHED (by decide) rfl]
  · rw [hp _ (by decide), f_of_rd (unitsShed_words hf (by decide)), f_setF_one _ PWR_STAT_SHED (by decide) rfl]
  · have := unitWord_solver hq
    show QS_STAT q ≠ 0x70000
    omega
  · have hs : s.unitsShed.f ACQ_STAT_STATE = s.f ACQ_STAT_STATE := by
      rw [f_of_rd (unitsShed_words hf (by decide)), f_setF_ne _ (x := PWR_STAT_SHED) _ (by decide), f_setF_ne _ (x := SYS_MODE_SHED) _ (by decide)]
    refine (f_setB_same s.unitsShed ACQ_STAT_PAUSED _ (by decide) rfl).trans ?_
    rw [hs]

theorem shedStart_sys (mv : Nat) : (s.shedStart mv).sys = { s.sys with dipStart := some s.time.mono, dipMin := mv } := by
  unfold shedStart
  rw [unitsShed_frame hf]

end Start

/-- Without problems only the marks are written. -/
theorem shedStart_plain {s : State} (h : s.st.probs = []) (mv : Nat) :
    s.keeps (s.shedStart mv) [SYS_MODE, PWR_STAT, PWR_VIN, ACQ_STAT, QS_STAT 0, QS_STAT 1, QS_STAT 2, QS_STAT 3] ∧
      s.shedStart mv = { s with sys := (s.shedStart mv).sys, regs := (s.shedStart mv).regs } := by
  have hu : s.unitsShed = ((s.setF SYS_MODE_SHED 1).setF PWR_STAT_SHED 1).markUnits 1 := stopUnits_none h
  unfold shedStart
  rw [hu]
  refine ⟨?_, ?_⟩
  · refine keeps_congr (t := (((s.setF SYS_MODE_SHED 1).setF PWR_STAT_SHED 1).markUnits 1).pauseAcq) (keeps_setB (x := ACQ_STAT_PAUSED) _ ?_ (by decide)) rfl
    exact keeps_trans (keeps_setF (x := PWR_STAT_SHED) 1 (keeps_setF (x := SYS_MODE_SHED) 1 (keeps_refl s _) (by decide)) (by decide))
      (keeps_mono (markUnits_keeps _ 1) (by decide))
  · rw [markUnits_frame]
    rfl

-- ===== an armed swap and the dip =====

theorem dipSeen_plain {v : State} (h : v.swapArmed = false) (mv : Nat) : v.dipSeen mv = v.setF PWR_VIN_VIN_MV mv :=
  abandonSwap_not_armed ((congrArg (· == 5) (f_setF_ne v (x := PWR_VIN_VIN_MV) (y := CFG_STAT_LDR) mv (by decide))).trans h) _ _

/-- A changeover with no code pending and the wheel running goes back to RUN; SYS_MODE beside the mode, the capture's word and the time stand. -/
theorem dipSeen_armed {v : State} (hm : v.mode = mCHANGEOVER) (ha : v.swapArmed = true) (hp : v.safe.pend = none)
    (hw : v.flag DBG_STAT_WHEEL = false) (mv : Nat) :
    (v.dipSeen mv).swapArmed = false ∧ (v.dipSeen mv).f CFG_STAT_ABORTED = 1 ∧ (v.dipSeen mv).rdN CFG_ERR = 0x15 ∧ (v.dipSeen mv).mode = mRUN ∧
      (v.dipSeen mv).flag SYS_MODE_SHED = v.flag SYS_MODE_SHED ∧ (v.dipSeen mv).f PWR_VIN_VIN_MV = mv % 65536 ∧ (v.dipSeen mv).cfg = v.cfg ∧
      (v.dipSeen mv).time.mono = v.time.mono ∧ (v.dipSeen mv).f ACQ_STAT_STATE = v.f ACQ_STAT_STATE := by
  have hx (x : Fld) (h : x.reg ≠ PWR_VIN) : (v.setF PWR_VIN_VIN_MV mv).f x = v.f x := f_setF_ne v mv h
  have ha1 : (v.setF PWR_VIN_VIN_MV mv).swapArmed = true := (congrArg (· == 5) (hx CFG_STAT_LDR (by decide))).trans ha
  have hm1 : (v.setF PWR_VIN_VIN_MV mv).mode = mCHANGEOVER := (hx SYS_MODE_MODE (by decide)).trans hm
  obtain ⟨hrun, -, h1, h2, h3, hcfg, -⟩ := abandonSwap_spec ha1 (code := 0x15) (by decide) 2
  have hk : v.keeps ((v.setF PWR_VIN_VIN_MV mv).dropSwap 0x15) [PWR_VIN, CFG_STAT, CFG_ERR] :=
    keeps_trans (keeps_setF (x := PWR_VIN_VIN_MV) mv (keeps_refl v _) (by decide)) (keeps_mono (dropSwap_keeps _ 0x15) (by decide))
  have hmode : ((v.setF PWR_VIN_VIN_MV mv).dropSwap 0x15).mode = mCHANGEOVER := (f_keeps hk (by decide)).trans hm
  have heq : v.dipSeen mv = ((v.setF PWR_VIN_VIN_MV mv).dropSwap 0x15).enterMode mRUN 2 := by
    have hb : (v.setF PWR_VIN_VIN_MV mv).backToRun 0x15 2 = ((v.setF PWR_VIN_VIN_MV mv).dropSwap 0x15).enterMode mRUN 2 := if_pos hm1
    have hpend : (((v.setF PWR_VIN_VIN_MV mv).dropSwap 0x15).enterMode mRUN 2).safe.pend = none := by
      rw [enterMode_torque 2 255 (.inr rfl) (by rw [hmode]; decide), releaseHalts_safe, setMode_safe]
      exact hp
    rw [dipSeen, abandonSwap_armed ha1, hb]
    unfold dropPending
    rw [hpend]
  have hmono : ((v.setF PWR_VIN_VIN_MV mv).dropSwap 0x15).time.mono = v.time.mono := rfl
  have hvin : ((v.setF PWR_VIN_VIN_MV mv).dropSwap 0x15).f PWR_VIN_VIN_MV = mv % 65536 :=
    (f_keeps (dropSwap_keeps _ 0x15) (by decide)).trans (f_setF_same v _ mv (by decide))
  refine ⟨h1, h2, h3, hrun hm1, ?_, ?_, hcfg, ?_, ?_⟩
  · rw [heq, flag_eq, flag_eq, enterMode_field _ mRUN 2 255 rfl (by decide), f_keeps hk (by decide)]
  all_goals
    rw [heq, enterMode_torque 2 255 (.inr rfl) (by rw [hmode]; decide)]
    have hw1 : (((v.setF PWR_VIN_VIN_MV mv).dropSwap 0x15).setMode mRUN 2).flag DBG_STAT_WHEEL = false :=
      (flag_keeps (keeps_trans (keeps_mono hk (List.subset_append_left _ modeRegs))
        (keeps_mono (setMode_keeps _ mRUN 2 255) (List.subset_append_right [PWR_VIN, CFG_STAT, CFG_ERR] _))) (by decide)).trans hw
    obtain ⟨hf, hr⟩ := releaseHalts_running hw1
    have hset := setMode_keeps ((v.setF PWR_VIN_VIN_MV mv).dropSwap 0x15) mRUN 2 255
  · rw [f_keeps hr (by decide), f_keeps hset (by decide), hvin]
  · rw [hf]
    exact (congrArg (fun w : State => w.time.mono) (setMode_frame ((v.setF PWR_VIN_VIN_MV mv).dropSwap 0x15) mRUN 2 255)).trans hmono
  · rw [f_keeps hr (by decide), f_keeps hset (by decide), f_keeps hk (by decide)]

end State

end Sys2Proof.Machine

namespace Sys2Proof.Machine

namespace State

-- ===== the flush (R99, R487) =====

/-- The registers that a record's writing may write. -/
abbrev writerRegs : List Nat := [REC_STAT, REC_HEAD, REC_HEAD_SEQ, REC_OLD, REC_OLD_SEQ, REC_CNT_REC, REC_WRAPS]

/-- From s to t records were written: the snapshots, the faults that wait, the start, the pair, the configuration and the time stand. -/
structure flushed (s t : State) : Prop where
  loam : t.nv.loam = s.nv.loam
  sys : t.sys = s.sys
  pair : t.pair = s.pair
  cfg : t.cfg = s.cfg
  now : t.time.now = s.time.now
  words : s.keeps t writerRegs

theorem flushed_refl (s : State) : s.flushed s := ⟨rfl, rfl, rfl, rfl, rfl, keeps_refl s _⟩

theorem flushed_trans {s t u : State} (h : s.flushed t) (h' : t.flushed u) : s.flushed u :=
  ⟨h'.loam.trans h.loam, h'.sys.trans h.sys, h'.pair.trans h.pair, h'.cfg.trans h.cfg, h'.now.trans h.now, keeps_trans h.words h'.words⟩

theorem flushed_wrN {s t : State} (h : s.flushed t) {a : Nat} (v : Nat) (ha : a ∈ writerRegs) : s.flushed (t.wrN a v) :=
  ⟨h.loam, h.sys, h.pair, h.cfg, h.now, keeps_wrN v h.words ha⟩

theorem flushed_ite {s x y : State} {c : Prop} [Decidable c] (hx : s.flushed x) (hy : s.flushed y) : s.flushed (if c then x else y) := by
  split
  · exact hx
  · exact hy

theorem recOpen_flushed (s : State) (blk : Nat) : s.flushed (s.recOpen blk) := by
  unfold recOpen
  refine flushed_ite ?_ (flushed_refl s)
  exact flushed_wrN (flushed_wrN (s := s) (t := { s with recorder := { s.recorder with oldBlk := recOldest s.nv.mram blk 255 } })
    (a := REC_OLD) ⟨rfl, rfl, rfl, rfl, rfl, keeps_of_regs rfl _⟩ _ (by decide)) (a := REC_OLD_SEQ) _ (by decide)

theorem recFresh_flushed (s : State) : s.flushed s.recFresh := flushed_ite (recOpen_flushed s _) (flushed_refl s)

theorem recStore_flushed (s : State) (len : Nat) (bs : List Byte) : s.flushed (s.recStore len bs) :=
  ⟨rfl, rfl, rfl, rfl, rfl, keeps_of_regs rfl _⟩

theorem recAdvance_flushed (s : State) (len : Nat) : s.flushed (s.recAdvance len) := by
  have h1 : s.flushed (((s.wrN REC_HEAD ((s.rdN REC_HEAD + len) % 16777216)).wrN REC_HEAD_SEQ ((s.rdN REC_HEAD_SEQ + 1) % 4294967296)).bump
      REC_CNT_REC) := flushed_wrN (flushed_wrN (flushed_wrN (flushed_refl s) _ (by decide)) _ (by decide)) _ (by decide)
  exact flushed_ite (flushed_wrN h1 _ (by decide)) h1

theorem recShow_flushed (s : State) (a seq : Nat) : s.flushed (s.recShow a seq) := by
  have h1 : s.flushed (if a = s.recorder.oldBlk * 65536 then s.wrN REC_OLD_SEQ seq else s) :=
    flushed_ite (flushed_wrN (flushed_refl s) _ (by decide)) (flushed_refl s)
  exact ⟨h1.loam, h1.sys, h1.pair, h1.cfg, h1.now, keeps_setB (x := REC_STAT_WRAPPED) _ h1.words (by decide)⟩

theorem recPut_flushed (s : State) (len : Nat) (bs : List Byte) : s.flushed (s.recPut len bs) :=
  flushed_trans (flushed_trans (flushed_trans (recFresh_flushed s) (recStore_flushed _ len bs)) (recAdvance_flushed _ len)) (recShow_flushed _ _ _)

theorem recWrite_flushed (s : State) (r : RecItem) : s.flushed (s.recWrite r) := by
  unfold recWrite
  exact flushed_trans (flushed_ite (recPut_flushed s _ _) (flushed_refl s)) (recPut_flushed _ _ _)

theorem recRemove_flushed (s : State) (ix k : Nat) : s.flushed (s.recRemove ix k) := ⟨rfl, rfl, rfl, rfl, rfl, keeps_of_regs rfl _⟩

theorem recOpen_ready (s : State) (blk : Nat) : (s.recOpen blk).recorder.faultReady = s.recorder.faultReady := by
  unfold recOpen
  split <;> rfl

theorem recPut_ready (s : State) (len : Nat) (bs : List Byte) : (s.recPut len bs).recorder.faultReady = s.recorder.faultReady := by
  have h1 (u : State) : u.recFresh.recorder.faultReady = u.recorder.faultReady := by
    unfold recFresh
    split
    · exact recOpen_ready u _
    · rfl
  have h2 (u : State) : (u.recAdvance len).recorder = u.recorder := by
    unfold recAdvance
    dsimp only
    split <;> rfl
  have h3 (u : State) (a seq : Nat) : (u.recShow a seq).recorder = u.recorder := by
    unfold recShow
    split <;> rfl
  unfold recPut
  rw [h3, h2]
  exact h1 s

theorem recWrite_ready (s : State) (r : RecItem) : (s.recWrite r).recorder.faultReady = s.recorder.faultReady := by
  unfold recWrite
  dsimp only
  rw [recPut_ready]
  split
  · exact recPut_ready s _ _
  · rfl

theorem drainRecords_flushed (k : Nat) (s : State) : s.flushed (s.drainRecords k) := by
  induction k generalizing s with
  | zero => exact flushed_refl s
  | succ k ih =>
    unfold drainRecords
    split
    · next r rs _ =>
      have h1 : s.flushed { s with recorder := { s.recorder with faultReady := rs } } := ⟨rfl, rfl, rfl, rfl, rfl, keeps_of_regs rfl _⟩
      exact flushed_trans (flushed_trans h1 (recWrite_flushed _ r)) (ih _)
    · split
      · exact flushed_trans (flushed_trans (recRemove_flushed s _ _) (recWrite_flushed _ _)) (ih _)
      · exact flushed_refl s

/-- With fuel for them all, no fault's record waits any more. -/
theorem drainRecords_ready {k : Nat} {s : State} (h : s.recorder.faultReady.length ≤ k) : (s.drainRecords k).recorder.faultReady = [] := by
  induction k generalizing s with
  | zero => exact List.eq_nil_of_length_eq_zero (Nat.le_zero.1 h)
  | succ k ih =>
    unfold drainRecords
    split
    · next r rs hr =>
      refine ih ?_
      rw [recWrite_ready]
      rw [hr] at h
      exact Nat.le_of_succ_le_succ h
    · next hr =>
      split
      · refine ih ?_
        rw [recWrite_ready]
        show s.recorder.faultReady.length ≤ k
        rw [hr]
        exact Nat.zero_le k
      · exact hr

-- ===== the commit snapshot (R99) =====

theorem abandonStream_recorder (s : State) : s.abandonStream.recorder = s.recorder := by
  unfold abandonStream
  split <;> rfl

theorem putChunks_recorder (k : Nat) (s : State) (len n off : Nat) : (s.putChunks len n off k).recorder = s.recorder := by
  induction k generalizing s off with
  | zero => rfl
  | succ k ih =>
    unfold putChunks
    split
    · rfl
    · have ho (i : QItem) : (s.offerOr 13 i).1.recorder = s.recorder := by rw [(offerOr_frame s 13 i).2.2]
      dsimp only
      split
      · exact (ih _ _).trans (ho _)
      · exact (abandonStream_recorder _).trans (ho _)

theorem startStream_recorder (s : State) (k : Snap) : (s.startStream k).recorder = s.recorder := by
  unfold startStream
  dsimp only
  split
  · exact abandonStream_recorder s
  · exact (putChunks_recorder _ _ _ _ _).trans (abandonStream_recorder s)

theorem finishCapture_recorder (s : State) (k : Snap) : (s.finishCapture k).recorder = s.recorder := by
  refine (startStream_recorder _ k).trans ?_
  split <;> rfl

theorem commitSnap_recorder (s : State) : s.commitSnap.recorder = s.recorder := by
  unfold commitSnap
  dsimp only
  split
  · exact finishCapture_recorder s _
  · rfl

/-- With no capture in progress the snapshot of now goes to the older buffer. -/
theorem commitSnap_idle {s : State} (h : s.pair.capWait = none) :
    s.commitSnap = { s with pair := { s.pair with seq := s.nextSeq } }.putLoam s.olderBuf (some s.snapshot) := by
  unfold commitSnap
  rw [h]
  rfl

/-- The flush before the snapshot. -/
def supplyFlush (s : State) : State :=
  { s with sys := { s.sys with flushing := true } }.drainRecords (s.recorder.faultReady.length + (s.queue 8).items.length)

theorem commit_eq (s : State) : s.commit =
    { (if s.supplyFlush.snapDue then s.supplyFlush.commitSnap else s.supplyFlush) with
        sys := { (if s.supplyFlush.snapDue then s.supplyFlush.commitSnap else s.supplyFlush).sys with
          flushing := false, commitDue := false, commitSnap := false } }.hit PWR_STAT_COMMIT_DONE := rfl

theorem supplyFlush_flushed (s : State) : ({ s with sys := { s.sys with flushing := true } }).flushed s.supplyFlush := drainRecords_flushed _ _

theorem supplyFlush_ready (s : State) : s.supplyFlush.recorder.faultReady = [] := drainRecords_ready (Nat.le_add_right _ _)

theorem supplyFlush_snapDue (s : State) : s.supplyFlush.snapDue = s.snapDue := by
  have h := supplyFlush_flushed s
  unfold snapDue loamHeld
  rw [flag_keeps h.words (by decide), h.sys]
  rfl

theorem newestLoam_congr {s t : State} (h : t.nv.loam = s.nv.loam) : t.newestLoam = s.newestLoam := by
  unfold newestLoam
  rw [h]

theorem supplyFlush_snap (s : State) : s.supplyFlush.nextSeq = s.nextSeq ∧ s.supplyFlush.olderBuf = s.olderBuf ∧ s.supplyFlush.runHash = s.runHash ∧
    s.supplyFlush.time.now = s.time.now ∧ s.supplyFlush.pair = s.pair ∧ s.supplyFlush.nv.loam = s.nv.loam := by
  have h := supplyFlush_flushed s
  refine ⟨?_, ?_, ?_, h.now, h.pair, h.loam⟩
  · unfold nextSeq
    rw [newestLoam_congr (s := s) h.loam, h.pair]
  · unfold olderBuf
    rw [newestLoam_congr (s := s) h.loam]
  · unfold runHash
    rw [h.cfg]

theorem commit_spec (s : State) : s.commit.f PWR_STAT_COMMIT_DONE = 1 ∧ s.commit.sys.commitDue = false ∧ s.commit.sys.commitSnap = false ∧
    s.commit.sys.flushing = false ∧ s.commit.recorder.faultReady = [] := by
  rw [commit_eq]
  refine ⟨f_hit_same _ PWR_STAT_COMMIT_DONE (by decide) rfl, rfl, rfl, rfl, ?_⟩
  show (if s.supplyFlush.snapDue then s.supplyFlush.commitSnap else s.supplyFlush).recorder.faultReady = []
  split
  · rw [commitSnap_recorder, supplyFlush_ready]
  · exact supplyFlush_ready s

theorem commit_noSnap {s : State} (h : s.snapDue = false) : s.commit.nv.loam = s.nv.loam := by
  obtain ⟨-, -, -, -, -, hl⟩ := supplyFlush_snap s
  rw [commit_eq, supplyFlush_snapDue, h]
  exact hl

theorem commit_snap {s : State} (h : s.snapDue = true) (hc : s.pair.capWait = none) : s.commit.pair.seq = s.nextSeq ∧
    ∃ k, s.commit.nv.loam.get s.olderBuf = some k ∧ k.seq = s.nextSeq ∧ k.hash = s.runHash ∧ k.time = s.time.now := by
  obtain ⟨hn, ho, hh, ht, hp, -⟩ := supplyFlush_snap s
  rw [commit_eq, supplyFlush_snapDue, h, if_pos rfl, commitSnap_idle (by rw [hp, hc]), hn, ho]
  generalize hu : s.supplyFlush = u at hn hh ht
  refine ⟨rfl, u.snapshot, putLoam_same { u with pair := { u.pair with seq := s.nextSeq } } _ _, hn, hh, ht⟩

end State

end Sys2Proof.Machine

/-! OBLIGATION O50: the supply and the monitors (R96 to R104, R564, R574, R575). -/

namespace Sys2Proof.Machine

namespace State

-- ===== recovery (R100, R103) =====

/-- The supply's words as shedding ends: VIN, the dip's least VIN and its length. -/
def dipShown (w : State) (mv low dur : Nat) : State :=
  (((((w.setF PWR_VIN_VIN_MV mv).setF SYS_MODE_SHED 0).setF PWR_STAT_SHED 0).hit PWR_STAT_DIP).setF PWR_DIP_MIN_MV low).setF PWR_DIP_DUR dur

/-- Shedding has ended, but for its record. -/
def shedEnd (w : State) (mv low dur : Nat) : State :=
  { (w.dipShown mv low dur).resumeAcq.startUnits with sys := { (w.dipShown mv low dur).resumeAcq.startUnits.sys with dipStart := none } }

/-- The length of a dip in 0.1 ms, as PWR_DIP shows it. -/
def dipLength (w : State) (rise d : Nat) : Nat :=
  min 65535 (roundHalfEven ((rise - d) * w.cycleInc : Nat) (100000 * Config.nsUnits)).toNat

/-- A recovery at this VIN may end the dip that began at d: the conditions of R100. -/
def recovers (u : State) (mv rise d : Nat) : Prop := u.sys.dipStart = some d ∧ 10250 ≤ mv ∧ d ≤ rise ∧ rise ≤ u.time.mono ∧
  (u.sys.commitDue = false ∨ u.canCommit = true)

theorem dipShown_keeps (w : State) (mv low dur : Nat) : w.keeps (w.dipShown mv low dur) [PWR_VIN, SYS_MODE, PWR_STAT, PWR_DIP] :=
  keeps_setF (x := PWR_DIP_DUR) _ (keeps_setF (x := PWR_DIP_MIN_MV) _ (keeps_hit (x := PWR_STAT_DIP) (keeps_setF (x := PWR_STAT_SHED) _
    (keeps_setF (x := SYS_MODE_SHED) _ (keeps_setF (x := PWR_VIN_VIN_MV) _ (keeps_refl w _) (by decide)) (by decide)) (by decide)) (by decide))
    (by decide)) (by decide)

theorem dipShown_fields (w : State) (mv low : Nat) {dur : Nat} (hd : dur < 65536) : (w.dipShown mv low dur).f SYS_MODE_SHED = 0 ∧
    (w.dipShown mv low dur).f PWR_STAT_SHED = 0 ∧ (w.dipShown mv low dur).f PWR_STAT_DIP = 1 ∧
    (w.dipShown mv low dur).f PWR_VIN_VIN_MV = mv % 65536 ∧ (w.dipShown mv low dur).f PWR_DIP_MIN_MV = low % 65536 ∧
    (w.dipShown mv low dur).f PWR_DIP_DUR = dur := by
  have hdip (u : State) (x : Fld) (h : x.reg ≠ PWR_DIP) : ((u.setF PWR_DIP_MIN_MV low).setF PWR_DIP_DUR dur).f x = u.f x :=
    (f_setF_ne _ (x := PWR_DIP_DUR) dur h).trans (f_setF_ne u (x := PWR_DIP_MIN_MV) low h)
  unfold dipShown
  refine ⟨?_, ?_, ?_, ?_, ?_, ?_⟩
  · rw [hdip _ _ (by decide), f_hit_ne _ (x := PWR_STAT_DIP) (by decide), f_setF_ne _ (x := PWR_STAT_SHED) _ (by decide),
      f_setF_zero _ SYS_MODE_SHED (by decide)]
  · rw [hdip _ _ (by decide), f_hit_disj _ (x := PWR_STAT_DIP) (by rfl) (by decide), f_setF_zero _ PWR_STAT_SHED (by decide)]
  · rw [hdip _ _ (by decide), f_hit_same _ PWR_STAT_DIP (by decide) rfl]
  · rw [hdip _ _ (by decide), f_hit_ne _ (x := PWR_STAT_DIP) (by decide), f_setF_ne _ (x := PWR_STAT_SHED) _ (by decide),
      f_setF_ne _ (x := SYS_MODE_SHED) _ (by decide), f_setF_same _ PWR_VIN_VIN_MV mv (by decide)]
    rfl
  · rw [f_setF_disj _ (x := PWR_DIP_DUR) _ (by rfl) (by decide), f_setF_same _ PWR_DIP_MIN_MV low (by decide)]
    rfl
  · rw [f_setF_same _ PWR_DIP_DUR dur (by decide)]
    exact Nat.mod_eq_of_lt hd

theorem resumeAcq_regs (s : State) : s.resumeAcq.regs = (s.setF ACQ_STAT_PAUSED 0).regs := by
  unfold resumeAcq
  dsimp only
  split <;> rfl

theorem resumeAcq_frame (s : State) : s.resumeAcq = { s with acq := s.resumeAcq.acq, regs := s.resumeAcq.regs } := by
  unfold resumeAcq
  dsimp only
  split <;> rfl

theorem resumeAcq_keeps (s : State) : s.keeps s.resumeAcq [ACQ_STAT] :=
  keeps_congr (keeps_setF (x := ACQ_STAT_PAUSED) 0 (keeps_refl s _) (.head _)) (resumeAcq_regs s)

theorem resumeAcq_runs (s : State) : s.resumeAcq.f ACQ_STAT_PAUSED = 0 := by
  have h : s.resumeAcq.rd ACQ_STAT = (s.setF ACQ_STAT_PAUSED 0).rd ACQ_STAT := by
    unfold rd
    rw [resumeAcq_regs]
  exact (f_of_rd (x := ACQ_STAT_PAUSED) h).trans (f_setF_zero s ACQ_STAT_PAUSED (by decide))

section Recovery
variable (w : State) (mv low : Nat) {dur : Nat}

theorem shedEnd_keeps : w.keeps (w.shedEnd mv low dur)
    [SYS_MODE, PWR_STAT, PWR_VIN, PWR_DIP, ACQ_STAT, QS_STAT 0, QS_STAT 1, QS_STAT 2, QS_STAT 3] := by
  have h1 := keeps_trans (keeps_mono (l := _) (k := [SYS_MODE, PWR_STAT, PWR_VIN, PWR_DIP, ACQ_STAT]) (w.dipShown_keeps mv low dur) (by decide))
    (keeps_mono (resumeAcq_keeps _) (by decide))
  exact keeps_congr (keeps_trans (keeps_mono h1 (by decide)) (keeps_mono (markUnits_keeps _ 0) (by decide))) rfl

theorem shedEnd_frame : w.shedEnd mv low dur =
    { w with time := { w.time with hits := (w.shedEnd mv low dur).time.hits }, sys := { w.sys with dipStart := none },
             acq := (w.shedEnd mv low dur).acq, regs := (w.shedEnd mv low dur).regs } := by
  unfold shedEnd
  rw [startUnits_eq, markUnits_frame, resumeAcq_frame]
  rfl

theorem shedEnd_f (x : Fld) : (w.shedEnd mv low dur).f x = ((w.dipShown mv low dur).resumeAcq.markUnits 0).f x := rfl

theorem shedEnd_fields (hd : dur < 65536) : (w.shedEnd mv low dur).f SYS_MODE_SHED = 0 ∧ (w.shedEnd mv low dur).f PWR_STAT_SHED = 0 ∧
    (w.shedEnd mv low dur).f PWR_STAT_DIP = 1 ∧ (w.shedEnd mv low dur).f PWR_VIN_VIN_MV = mv % 65536 ∧
    (w.shedEnd mv low dur).f PWR_DIP_MIN_MV = low % 65536 ∧ (w.shedEnd mv low dur).f PWR_DIP_DUR = dur ∧
    (w.shedEnd mv low dur).f ACQ_STAT_PAUSED = 0 ∧ ∀ q, q < 4 → (w.shedEnd mv low dur).f (QS_STAT_STOPPED q) = 0 := by
  obtain ⟨h1, h2, h3, h4, h5, h6⟩ := w.dipShown_fields mv low hd
  generalize hv : w.dipShown mv low dur = v at h1 h2 h3 h4 h5 h6
  have hu (x : Fld) (h : ¬ solverWord x.reg) : (w.shedEnd mv low dur).f x = v.resumeAcq.f x := by
    rw [shedEnd_f, hv, f_of_rd (markUnits_rd _ 0 h)]
  have ha (x : Fld) (h : ¬ solverWord x.reg) (hr : x.reg ≠ ACQ_STAT) : (w.shedEnd mv low dur).f x = v.f x :=
    (hu x h).trans (f_keeps v.resumeAcq_keeps (by simpa using hr))
  refine ⟨?_, ?_, ?_, ?_, ?_, ?_, ?_, fun q hq => (w.shedEnd_f mv low _).trans (markUnits_shown _ (by decide) hq)⟩
  · rw [ha _ (by decide) (by decide), h1]
  · rw [ha _ (by decide) (by decide), h2]
  · rw [ha _ (by decide) (by decide), h3]
  · rw [ha _ (by decide) (by decide), h4]
  · rw [ha _ (by decide) (by decide), h5]
  · rw [ha _ (by decide) (by decide), h6]
  · rw [hu _ (by decide), resumeAcq_runs]

theorem shedEnd_intake : w.intake (w.shedEnd mv low dur) := by
  have hf := w.shedEnd_frame mv low (dur := dur)
  refine intake_of_kept (w.shedEnd_keeps mv low) (by decide) ?_ ?_ ?_ ?_
  · rw [hf]
  · rw [hf]
  · rw [hf]
  · rw [hf]

/-- The end of shedding and its record leave what the state before them does not name. -/
theorem shedEnd_recorded (hd : dur < 65536) (hdue : w.sys.commitDue = false) (p : List Byte) :
    ((w.shedEnd mv low dur).offerRec 0x12 3 p).f SYS_MODE_SHED = 0 ∧ ((w.shedEnd mv low dur).offerRec 0x12 3 p).f PWR_STAT_SHED = 0 ∧
      ((w.shedEnd mv low dur).offerRec 0x12 3 p).f PWR_STAT_DIP = 1 ∧ ((w.shedEnd mv low dur).offerRec 0x12 3 p).f PWR_VIN_VIN_MV = mv % 65536 ∧
      ((w.shedEnd mv low dur).offerRec 0x12 3 p).f PWR_DIP_MIN_MV = low % 65536 ∧ ((w.shedEnd mv low dur).offerRec 0x12 3 p).f PWR_DIP_DUR = dur ∧
      ((w.shedEnd mv low dur).offerRec 0x12 3 p).sys.dipStart = none ∧ ((w.shedEnd mv low dur).offerRec 0x12 3 p).sys.commitDue = false ∧
      ((w.shedEnd mv low dur).offerRec 0x12 3 p).f ACQ_STAT_PAUSED = 0 ∧
      (∀ q, q < 4 → ((w.shedEnd mv low dur).offerRec 0x12 3 p).f (QS_STAT_STOPPED q) = 0) ∧
      (∃ p', w.recorded ((w.shedEnd mv low dur).offerRec 0x12 3 p) 0x12 3 p') ∧
      w.keeps ((w.shedEnd mv low dur).offerRec 0x12 3 p)
        ([SYS_MODE, PWR_STAT, PWR_VIN, PWR_DIP, ACQ_STAT, QS_STAT 0, QS_STAT 1, QS_STAT 2, QS_STAT 3] ++ recRegs) ∧
      (w.shedEnd mv low dur).offerRec 0x12 3 p =
        { w with time := { w.time with hits := ((w.shedEnd mv low dur).offerRec 0x12 3 p).time.hits },
                 sys := ((w.shedEnd mv low dur).offerRec 0x12 3 p).sys, acq := ((w.shedEnd mv low dur).offerRec 0x12 3 p).acq,
                 hq := ((w.shedEnd mv low dur).offerRec 0x12 3 p).hq, recorder := ((w.shedEnd mv low dur).offerRec 0x12 3 p).recorder,
                 regs := ((w.shedEnd mv low dur).offerRec 0x12 3 p).regs } := by
  have hi := w.shedEnd_intake mv low (dur := dur)
  have hk := w.shedEnd_keeps mv low (dur := dur)
  have hf := w.shedEnd_frame mv low (dur := dur)
  obtain ⟨h1, h2, h3, h4, h5, h6, h7, h8⟩ := w.shedEnd_fields mv low hd
  generalize w.shedEnd mv low dur = u at *
  have hr (x : Fld) (hx : x.reg ∉ recRegs) : (u.offerRec 0x12 3 p).f x = u.f x := f_keeps (offerRec_keeps u _ _ p) hx
  have hu : u.sys = { w.sys with dipStart := none } := by rw [hf]
  refine ⟨?_, ?_, ?_, ?_, ?_, ?_, ?_, ?_, ?_, fun q hq => ?_, ⟨p, recorded_intake hi rfl rfl⟩, ?_, ?_⟩
  · rw [hr _ (by decide), h1]
  · rw [hr _ (by decide), h2]
  · rw [hr _ (by decide), h3]
  · rw [hr _ (by decide), h4]
  · rw [hr _ (by decide), h5]
  · rw [hr _ (by decide), h6]
  · rw [offerRec_sys, hu]
  · rw [offerRec_sys, hu]
    exact hdue
  · rw [hr _ (by decide), h7]
  · rw [hr _ (by interval_cases q <;> decide), h8 q hq]
  · exact keeps_trans (keeps_mono hk (List.subset_append_left _ recRegs)) (keeps_mono (offerRec_keeps u _ _ p) (List.subset_append_right _ _))
  · have ho := offerRec_frame u 0x12 3 p
    generalize u.offerRec 0x12 3 p = t at ho ⊢
    unfold recFrame at ho
    rw [ho, hf]

end Recovery

theorem execVinRecover_idle {s u : State} {mv lo rise m : Nat} (hu : u = s.runTo m) (h : ∀ d, ¬ u.recovers mv rise d) :
    exec (.vinRecover mv lo rise m) s = .next u := by
  subst hu
  show execVinRecover mv lo rise m s = _
  unfold execVinRecover
  dsimp only
  split
  · rfl
  · next d hd =>
    refine congrArg _ (if_pos ?_)
    by_contra hc
    rw [not_or, not_or, not_or] at hc
    obtain ⟨h1, h2, h3, h4⟩ := hc
    refine h d ⟨hd, by omega, by omega, by omega, ?_⟩
    by_cases hcd : (s.runTo m).sys.commitDue = true
    · exact .inr (by_contra fun hn => h4 ⟨hcd, by rw [(Bool.not_eq_true _).mp hn]; rfl⟩)
    · exact .inl ((Bool.not_eq_true _).mp hcd)

theorem execVinRecover_ends {s u w : State} {mv lo rise m d : Nat} (hu : u = s.runTo m) (h : u.recovers mv rise d)
    (hw : w = if u.sys.commitDue then u.commit else u) :
    exec (.vinRecover mv lo rise m) s = .next ((w.shedEnd mv (min lo w.sys.dipMin) (w.dipLength rise d)).offerRec 0x12 3
      (natLE 2 (min lo w.sys.dipMin) ++ natLE 2 (w.dipLength rise d) ++
        natLE 1 (b2n (!(w.shedEnd mv (min lo w.sys.dipMin) (w.dipLength rise d)).sys.commitDue)) ++ natLE 3 0)) := by
  subst hu
  obtain ⟨hd, h1, h2, h3, h4⟩ := h
  have hinc : (w.setF PWR_VIN_VIN_MV mv).cycleInc = w.cycleInc :=
    cycleInc_keeps (keeps_setF (x := PWR_VIN_VIN_MV) (l := [PWR_VIN]) mv (keeps_refl w _) (.head _)) (by decide)
  have hno : ¬ (mv < 10250 ∨ rise < d ∨ (s.runTo m).time.mono < rise ∨ ((s.runTo m).sys.commitDue = true ∧ (!(s.runTo m).canCommit) = true)) := by
    rintro (h | h | h | ⟨h, h'⟩)
    · omega
    · omega
    · omega
    · rcases h4 with h4 | h4
      · exact Bool.false_ne_true (h4.symm.trans h)
      · rw [h4] at h'
        exact Bool.false_ne_true h'
  show execVinRecover mv lo rise m s = _
  unfold execVinRecover
  dsimp only
  rw [hd]
  dsimp only
  rw [if_neg hno, ← hw, hinc]
  rfl

/-- After a commit that was due none is. -/
theorem committed_sys (u : State) : (if u.sys.commitDue then u.commit else u).sys.commitDue = false := by
  split
  · exact (commit_spec u).2.1
  · next h => exact (Bool.not_eq_true _).mp h

-- ===== shedding, from the state in which the dip is seen =====

/-- A commit is noted, with a snapshot as the state before decides it. -/
def commitNoted (v t : State) : Prop :=
  t.sys.commitDue = true ∧ t.sys.commitSnap = (v.sys.commitSnap || (v.mode == mRUN && v.role != 2))

/-- What the start of shedding shows of a dip to mv. -/
def sheds (v t : State) (mv : Nat) : Prop := t.f SYS_MODE_SHED = 1 ∧ t.f PWR_STAT_SHED = 1 ∧ t.f PWR_VIN_VIN_MV = mv % 65536 ∧
  t.sys.dipStart = some v.time.mono ∧ t.sys.dipMin = mv ∧ (∀ q, q < 4 → t.f (QS_STAT_STOPPED q) = 1) ∧
  t.f ACQ_STAT_PAUSED = b2n (v.f ACQ_STAT_STATE == 1 || v.f ACQ_STAT_STATE == 2)

theorem shedStart_sheds {v a : State} {mv : Nat} (hf : a.probsFit) (hvin : a.f PWR_VIN_VIN_MV = mv % 65536)
    (hmono : a.time.mono = v.time.mono) (hst : a.f ACQ_STAT_STATE = v.f ACQ_STAT_STATE) : v.sheds (a.shedStart mv).noteCommit mv := by
  obtain ⟨h1, h2, h3, h4⟩ := shedStart_marks hf mv
  have hs := shedStart_sys hf mv
  have hv : (a.shedStart mv).f PWR_VIN_VIN_MV = a.f PWR_VIN_VIN_MV := f_of_rd (shedStart_rd hf mv (by decide) (by decide))
  generalize a.shedStart mv = t at *
  refine ⟨h1, h2, hv.trans hvin, ?_, ?_, h3, ?_⟩
  · show t.sys.dipStart = _
    rw [hs, hmono]
  · show t.sys.dipMin = _
    rw [hs]
  · rw [← hst]
    exact h4

theorem noteCommit_noted (s : State) : s.commitNoted s.noteCommit := ⟨rfl, rfl⟩

theorem shedStart_mode {a : State} (hf : a.probsFit) (mv : Nat) : (a.shedStart mv).mode = a.mode := by
  have h1 : (a.shedStart mv).mode = ((a.setF SYS_MODE_SHED 1).setF PWR_STAT_SHED 1).mode :=
    f_of_rd (x := SYS_MODE_MODE) ((rd_wr_ne a.unitsShed _ (a := ACQ_STAT) (by decide)).trans (unitsShed_words hf (by decide)))
  exact h1.trans ((f_setF_ne _ (x := PWR_STAT_SHED) (y := SYS_MODE_MODE) 1 (by decide)).trans
    (f_setF_disj a (x := SYS_MODE_SHED) (y := SYS_MODE_MODE) 1 rfl (by decide)))

/-- Shedding changes neither the mode nor the role. -/
theorem shedStart_noted {a : State} (hf : a.probsFit) (mv : Nat) : a.commitNoted (a.shedStart mv).noteCommit := by
  have hs := shedStart_sys hf mv
  have hm := shedStart_mode hf mv
  have hr : (a.shedStart mv).role = a.role := f_of_rd (shedStart_rd hf mv (by decide) (by decide))
  obtain ⟨h1, h2⟩ := (a.shedStart mv).noteCommit_noted
  refine ⟨h1, h2.trans ?_⟩
  rw [hs, hm, hr]

/-- Shedding leaves what shows the end of a changeover. -/
theorem shedStart_changeover {a : State} (hf : a.probsFit) (mv : Nat) : (a.shedStart mv).noteCommit.swapArmed = a.swapArmed ∧
    (a.shedStart mv).noteCommit.f CFG_STAT_ABORTED = a.f CFG_STAT_ABORTED ∧ (a.shedStart mv).noteCommit.rdN CFG_ERR = a.rdN CFG_ERR ∧
    (a.shedStart mv).noteCommit.mode = a.mode := by
  have hstat : (a.shedStart mv).rd CFG_STAT = a.rd CFG_STAT := shedStart_rd hf mv (by decide) (by decide)
  have herr : (a.shedStart mv).rd CFG_ERR = a.rd CFG_ERR := shedStart_rd hf mv (by decide) (by decide)
  have hm := shedStart_mode hf mv
  generalize a.shedStart mv = t at *
  exact ⟨congrArg (· == 5) (f_of_rd (x := CFG_STAT_LDR) hstat), f_of_rd (x := CFG_STAT_ABORTED) hstat, congrArg BitVec.toNat herr, hm⟩

theorem noteCommit_noted_vin (v t : State) (hv : t.sys.commitSnap = v.sys.commitSnap) (hr : v.keeps t [PWR_VIN]) :
    v.commitNoted t.noteCommit := by
  obtain ⟨h1, h2⟩ := t.noteCommit_noted
  refine ⟨h1, h2.trans ?_⟩
  rw [hv, show t.mode = v.mode from f_keeps hr (by decide), show t.role = v.role from f_keeps hr (by decide)]

theorem setVin_keeps (v : State) (mv : Nat) : v.keeps (v.setF PWR_VIN_VIN_MV mv) [PWR_VIN] := keeps_setF (x := PWR_VIN_VIN_MV) mv (keeps_refl v _) (.head _)

/-- A rail with a monitor of its own lies outside its window (R574). -/
theorem execRailFault_idle {s : State} {k v : Nat} (h : s.mode = mRESET ∨ s.flag SYS_MODE_SHED = true ∨ ¬ (1 ≤ k ∧ k < 12 ∧
    (railNominal.getD k 0 = 0 ∨ 100 * v < 95 * railNominal.getD k 0 ∨ 105 * railNominal.getD k 0 < 100 * v))) :
    exec (.railFault k v) s = .next s := by
  refine congrArg _ (if_neg ?_)
  rintro ⟨hm, hs, hk⟩
  rcases h with h | h | h
  · exact hm h
  · rw [h] at hs
    exact Bool.false_ne_true hs
  · exact h hk

theorem execAgeingWarn_idle {s : State} {i x : Nat} (h : s.mode = mRESET ∨ x < 50 ∨ s.sys.aged = true) : exec (.ageingWarn i x) s = .next s := by
  refine congrArg _ (if_neg ?_)
  rintro ⟨hx, ha, hm⟩
  rcases h with h | h | h
  · exact hm h
  · omega
  · rw [h] at ha
    exact Bool.false_ne_true ha

/-- The monitor record: eight temperatures, twelve voltages and twenty-four slowdowns (R575). -/
def monitorBytes (temps : List Int) (volts slows : List Nat) : List Byte :=
  (List.range 8).flatMap (fun i => natLE 2 (wrapNat 16 (temps.getD i 0)))
    ++ (List.range 12).flatMap (fun i => natLE 2 (volts.getD i 0)) ++ (List.range 24).flatMap (fun i => natLE 1 (min 255 (slows.getD i 0)))

theorem monitorBytes_length (ts : List Int) (vs xs : List Nat) : (monitorBytes ts vs xs).length = 64 := by
  unfold monitorBytes
  simp [List.length_flatMap, natLE_length]

end State

open State

/-- Settles O50: a dip is reduced to `dipSeen` and `shedStart`, a recovery to `shedEnd`, the commit to the flush and the snapshot after it. -/
theorem supplyEvents : Obligations.SupplyEvents := by
  unfold Obligations.SupplyEvents
  dsimp only
  refine ⟨?_, ?_, ?_, ?_, ?_, ?_, ?_, ?_, ?_, ?_, ?_, ?_, ?_, ?_, ?_, ?_, ?_, ?_, ?_, ?_, ?_⟩
  · rintro s u mv m rfl h
    exact execVinBelowVwarn_idle h
  · rintro s u v mv m rfl hm hmv hv hshed ha hf
    have hk := v.setVin_keeps mv
    have hf1 : (v.setF PWR_VIN_VIN_MV mv).probsFit := hf
    have hs1 : (v.setF PWR_VIN_VIN_MV mv).flag SYS_MODE_SHED = false := (flag_keeps hk (by decide)).trans hshed
    refine ⟨((v.setF PWR_VIN_VIN_MV mv).shedStart mv).noteCommit, ?_, ?_, ?_, fun hp => ?_⟩
    · rw [execVinBelowVwarn_dip hm hmv hv, dipSeen_plain ha, hs1, if_neg Bool.false_ne_true]
    · exact shedStart_sheds hf1 (f_setF_same v _ mv (by decide)) rfl (f_keeps hk (by decide))
    · obtain ⟨h1, h2⟩ := shedStart_noted hf1 mv
      refine ⟨h1, h2.trans ?_⟩
      rw [show (v.setF PWR_VIN_VIN_MV mv).mode = v.mode from f_keeps hk (by decide),
        show (v.setF PWR_VIN_VIN_MV mv).role = v.role from f_keeps hk (by decide), setF_sys]
    · obtain ⟨h1, h2⟩ := shedStart_plain (s := v.setF PWR_VIN_VIN_MV mv) hp mv
      refine ⟨keeps_congr (keeps_trans (keeps_mono hk (by decide)) h1) rfl, ?_⟩
      rw [h2]
      rfl
  · rintro s u v mv m rfl hm hmv hv hco ha hp hw hf
    obtain ⟨h1, h2, h3, h4, h5, h6, h7, h8, h9⟩ := dipSeen_armed hco ha hp hw mv
    have hf1 : (v.dipSeen mv).probsFit := by
      unfold probsFit st
      rw [h7]
      exact hf
    have hx := execVinBelowVwarn_dip hm hmv hv
    by_cases hs : v.flag SYS_MODE_SHED = true
    · rw [h5, if_pos hs] at hx
      exact ⟨_, hx, h1, h2, h3, h4, fun h => absurd (h.symm.trans hs) (by decide), rfl⟩
    · rw [h5, if_neg hs] at hx
      obtain ⟨k1, k2, k3, k4⟩ := shedStart_changeover hf1 mv
      exact ⟨_, hx, k1.trans h1, k2.trans h2, k3.trans h3, k4.trans h4, fun _ => shedStart_sheds hf1 h6 h8 h9, rfl⟩
  · rintro s u v mv m rfl hm hmv hv hshed ha
    have hk := v.setVin_keeps mv
    have hs1 : (v.setF PWR_VIN_VIN_MV mv).flag SYS_MODE_SHED = true := (flag_keeps hk (by decide)).trans hshed
    refine ⟨((v.setF PWR_VIN_VIN_MV mv).dipOn mv).noteCommit, ?_, rfl, noteCommit_noted_vin v _ rfl (keeps_congr hk rfl),
      f_setF_same v PWR_VIN_VIN_MV mv (by decide), keeps_congr hk rfl, rfl⟩
    rw [execVinBelowVwarn_dip hm hmv hv, dipSeen_plain ha, if_pos hs1]
  · intro s h
    refine congrArg _ (if_neg fun ⟨hd, hc⟩ => ?_)
    rcases h with h | h
    · exact Bool.false_ne_true (h.symm.trans hd)
    · exact Bool.false_ne_true (h.symm.trans hc)
  · exact fun s hd hc => congrArg _ (if_pos ⟨hd, hc⟩)
  · intro s
    obtain ⟨h1, h2, h3, h4, h5⟩ := commit_spec s
    exact ⟨s.commit, rfl, h1, h2, h3, h4, h5, commit_noSnap, commit_snap⟩
  · exact fun s u mv lo rise m hu h => execVinRecover_idle hu h
  · intro s u w mv lo rise m d hu h hw
    have hdur : w.dipLength rise d < 65536 := Nat.lt_succ_of_le (Nat.min_le_left _ _)
    have hx := execVinRecover_ends (lo := lo) hu h hw
    have hdue : w.sys.commitDue = false := by rw [hw, committed_sys]
    exact ⟨_, hx, shedEnd_recorded w mv (min lo w.sys.dipMin) hdur hdue _⟩
  · exact fun s v hm hv => ⟨_, execVinOv_over s hv hm, s.overVoltage_ov v, s.overVoltage_mv v, s.overVoltage_raised v, s.overVoltage_keeps v,
      s.overVoltage_frame v⟩
  · exact fun s v h => execVinOv_idle s h
  · exact fun s hm => ⟨s.raise (mkFault srcSYS 0x0A cCRITICAL 4 []), congrArg _ (if_neg hm), raisedOne_raise s s _ rfl rfl, rfl⟩
  · exact fun s hm => congrArg _ (if_pos hm)
  · exact fun s k v hm hs ⟨h1, h2, h3⟩ => ⟨s.raise (mkFault srcPWR 0x09 cCRITICAL 3 [.inst k, .val v]),
      congrArg _ (if_pos ⟨hm, by rw [hs]; rfl, h1, h2, h3⟩), raisedOne_raise s s _ rfl rfl, rfl⟩
  · exact fun s k v h => execRailFault_idle h
  · exact fun s i x hm hx => ⟨s.raise (mkFault srcSYS 0x04 cMINOR 0 [.inst i, .val x]), congrArg _ (if_pos ⟨hx, hm⟩), raisedOne_raise s s _ rfl rfl, rfl⟩
  · exact fun s i x h => congrArg _ (if_neg (by rintro ⟨hx, hm⟩; exact h.elim hm (by omega)))
  · exact fun s i x hm hx ha => ⟨{ s with sys := { s.sys with aged := true } }.raise (mkFault srcSYS 0x0B cINFO 0 [.inst i, .val x]),
      congrArg _ (if_pos ⟨hx, by rw [ha]; rfl, hm⟩), rfl, raisedOne_raise s _ _ rfl rfl, rfl⟩
  · exact fun s i x h => execAgeingWarn_idle h
  · intro s ts vs xs hm
    refine ⟨s.offerRec 0x40 3 (monitorBytes ts vs xs), _, congrArg _ (if_neg (Nat.not_le.2 hm)), monitorBytes_length ts vs xs, ⟨rfl, rfl⟩,
      offerRec_keeps s _ _ _, ?_⟩
    exact offerRec_frame s _ _ _
  · exact fun s ts vs xs hm => congrArg _ (if_pos hm)

end Sys2Proof.Machine

/-! SUPPORT. O56: the halted targets as a token ends: a jump of W halts none (R126, R542, R546). -/

namespace Sys2Proof.Machine

namespace State

/-- From s to t the cores and the clusters are as they were. -/
def enginesKept (s t : State) : Prop := t.sched.cores = s.sched.cores ∧ t.clusters = s.clusters

theorem enginesKept_refl (s : State) : s.enginesKept s := ⟨rfl, rfl⟩

theorem enginesKept_trans {s t u : State} (h : s.enginesKept t) (h' : t.enginesKept u) : s.enginesKept u :=
  ⟨h'.1.trans h.1, h'.2.trans h.2⟩

theorem enginesKept_ite {s u v : State} {p : Prop} [Decidable p] (hu : s.enginesKept u) (hv : s.enginesKept v) :
    s.enginesKept (if p then u else v) := by
  split
  · exact hu
  · exact hv

theorem putWork_engines (s : State) (w : Work) : s.enginesKept (s.putWork 4 w).1 := by
  have ho (i : QItem) : s.enginesKept (s.offerOr 4 i).1 := by
    rw [(offerOr_frame s 4 i).2.2]
    exact ⟨rfl, rfl⟩
  have hj (u : State) : u.enginesKept (u.join w) := by
    unfold join placeWork leaveGroup
    dsimp only
    split <;> exact ⟨rfl, rfl⟩
  unfold putWork
  split
  · exact enginesKept_refl s
  · dsimp only
    split
    · exact enginesKept_trans (ho _) (hj _)
    · exact ho _

theorem release_engines (s : State) (x : WDesc) (late : Bool) : s.enginesKept (s.release x late) := by
  have hw (u : State) (g : Queue → Queue) : u.enginesKept (u.modQueue 4 g) := ⟨rfl, rfl⟩
  unfold release
  refine enginesKept_ite (enginesKept_refl s) (enginesKept_ite (putWork_engines s _) (enginesKept_ite ?_ ?_))
  · exact enginesKept_trans (putWork_engines s _) (hw _ _)
  · exact enginesKept_trans (putWork_engines s _) ⟨rfl, rfl⟩

theorem foutAct_engines (s : State) (o : Nat) (on : Bool) : s.enginesKept (s.foutAct o on) := enginesKept_ite (enginesKept_refl s) ⟨rfl, rfl⟩

theorem segmentGo_engines (s : State) (a : Fin 96) : s.enginesKept (s.segmentGo a) := enginesKept_ite ⟨rfl, rfl⟩ ⟨rfl, rfl⟩

theorem act_engines (s : State) (x : WDesc) (late : Bool) : s.enginesKept (s.act x late) := by
  unfold act
  refine enginesKept_ite ⟨rfl, rfl⟩ (enginesKept_ite ⟨rfl, rfl⟩ (enginesKept_ite ⟨rfl, rfl⟩ (enginesKept_ite (foutAct_engines s _ _)
    (enginesKept_ite (foutAct_engines s _ _) (enginesKept_ite ?_ (enginesKept_ite (release_engines s _ _) (enginesKept_ite ?_
      (enginesKept_ite ⟨rfl, rfl⟩ (enginesKept_ite ?_ (enginesKept_refl s))))))))))
  · exact enginesKept_trans ⟨rfl, rfl⟩ (foutAct_engines _ _ _)
  · split
    · exact segmentGo_engines s _
    · exact enginesKept_refl s
  · split
    · exact ⟨rfl, rfl⟩
    · exact enginesKept_refl s

theorem offerRec_engines (s : State) (c p : Nat) (b : List Byte) : s.enginesKept (s.offerRec c p b) :=
  ⟨congrArg (fun x => x.cores) (offerRec_sched s c p b), offerRec_clusters s c p b⟩

theorem fireDesc_engines (s : State) (x : WDesc) (late : Bool) : s.enginesKept (s.fireDesc x late) := by
  have hl : s.enginesKept (if late then s.bump WHEEL_CNT_LATE else s) := enginesKept_ite ⟨rfl, rfl⟩ (enginesKept_refl s)
  have hr (u : State) : u.enginesKept (u.recRelease x late) := enginesKept_ite (offerRec_engines u _ _ _) (enginesKept_refl u)
  have ha (u : State) : u.enginesKept (u.advance x.handle 1) := ⟨rfl, rfl⟩
  unfold fireDesc
  exact enginesKept_ite (enginesKept_refl s) (enginesKept_ite (ha s)
    (enginesKept_trans (enginesKept_trans (enginesKept_trans hl (act_engines _ x late)) (hr _)) (ha _)))

theorem fireAll_engines (s : State) (late : Bool) (l : List WDesc) : s.enginesKept (s.fireAll late l) := by
  induction l generalizing s with
  | nil => exact enginesKept_refl s
  | cons x l ih => exact enginesKept_trans (fireDesc_engines s x late) (ih _)

/-- A jump of W leaves the cores and the clusters alone (R126). -/
theorem jumpFrom_engines (s : State) (w0 m : Nat) : s.enginesKept (s.jumpFrom w0 m) := by
  have hs : s.enginesKept (s.placeW m) := ⟨rfl, rfl⟩
  have ha : s.enginesKept (s.skipPassed w0 m) := enginesKept_trans hs
    (foldl_rel enginesKept_refl enginesKept_trans _ _ fun _ _ _ => ⟨rfl, rfl⟩)
  unfold jumpFrom
  exact enginesKept_ite (enginesKept_trans hs (fireAll_engines _ _ _))
    (enginesKept_ite (enginesKept_trans ha ⟨rfl, rfl⟩) (enginesKept_trans ha ⟨rfl, rfl⟩))

theorem resumeWheel_engines (s : State) : s.enginesKept s.resumeWheel := by
  rw [resumeWheel_eq]
  exact enginesKept_ite (enginesKept_trans ⟨rfl, rfl⟩ (jumpFrom_engines _ _ _)) (enginesKept_refl s)

theorem setF_engines (s : State) (x : Fld) (v : Nat) : s.enginesKept (s.setF x v) := ⟨rfl, rfl⟩

theorem showHalt_engines (s : State) : s.enginesKept s.showHalt := ⟨rfl, rfl⟩

theorem modHost_engines (s : State) (g : HostState → HostState) : s.enginesKept (s.modHost g) := ⟨rfl, rfl⟩

theorem dropBreaks_engines (s : State) : s.enginesKept s.dropBreaks :=
  foldl_rel enginesKept_refl enginesKept_trans _ _ fun _ _ u => enginesKept_ite (enginesKept_refl u) ⟨rfl, rfl⟩

-- ===== every core and every cluster runs =====

/-- A property that each step of a fold brings for its own element, and that no step ends, holds for every element at the end. -/
theorem foldl_each {α : Type} {P : State → α → Prop} {g : State → α → State} (hown : ∀ s a, P (g s a) a) (hkeep : ∀ s a b, P s b → P (g s a) b)
    (l : List α) (s : State) {b : α} (hb : b ∈ l ∨ P s b) : P (l.foldl g s) b := by
  induction l generalizing s with
  | nil => exact hb.resolve_left (List.not_mem_nil)
  | cons a l ih =>
    refine ih (g s a) ?_
    rcases hb with hb | hb
    · rcases List.mem_cons.mp hb with rfl | hb
      · exact .inr (hown s b)
      · exact .inl hb
    · exact .inr (hkeep s a b hb)

theorem resumeCore_runs (s : State) (c : Fin 8) : ((s.resumeCore c).sched.cores.get c).halted = false := by
  by_cases h : (s.sched.cores.get c).halted = true
  · exact (resumeCore_goes h).1
  · have hf := (Bool.not_eq_true _).mp h
    rw [resumeCore_running hf, hf]

theorem resumeCore_keepsRunning (s : State) (a b : Fin 8) (h : (s.sched.cores.get b).halted = false) :
    ((s.resumeCore a).sched.cores.get b).halted = false := by
  by_cases hab : b = a
  · rw [hab]
    exact resumeCore_runs s a
  · rw [resumeCore_others s hab, h]

theorem resumeCluster_runs (s : State) (c : Fin 12) : ((s.resumeCluster c).cl c).halted = false := by
  by_cases h : (s.cl c).halted = true
  · exact (resumeCluster_goes h).1
  · have hf := (Bool.not_eq_true _).mp h
    rw [resumeCluster_running hf, hf]

theorem resumeCluster_others (s : State) {c d : Fin 12} (h : d ≠ c) : (s.resumeCluster c).cl d = s.cl d := by
  unfold resumeCluster
  split
  · exact Bank.get_modify_ne s.clusters _ h
  · rfl

theorem resumeCluster_keepsRunning (s : State) (a b : Fin 12) (h : (s.cl b).halted = false) : ((s.resumeCluster a).cl b).halted = false := by
  by_cases hab : b = a
  · rw [hab]
    exact resumeCluster_runs s a
  · rw [resumeCluster_others s hab, h]

/-- Core c, or cluster c, runs. -/
def coreRuns (s : State) (c : Fin 8) : Prop := (s.sched.cores.get c).halted = false
def clusterRuns (s : State) (c : Fin 12) : Prop := (s.cl c).halted = false

/-- Every core, and every cluster, goes on. -/
def coresOn (s : State) : State := (List.finRange 8).foldl (fun (s : State) (c : Fin 8) => s.resumeCore c) s
def clustersOn (s : State) : State := (List.finRange 12).foldl (fun (s : State) c => s.resumeCluster c) s

theorem resumeAll_eq (s : State) : s.resumeAll = s.coresOn.clustersOn.resumeWheel.showHalt := rfl

theorem coresOn_runs (s : State) (c : Fin 8) : s.coresOn.coreRuns c :=
  foldl_each (P := coreRuns) (g := fun (s : State) (c : Fin 8) => s.resumeCore c) resumeCore_runs resumeCore_keepsRunning (List.finRange 8) s
    (.inl (List.mem_finRange c))

theorem clustersOn_runs (s : State) (c : Fin 12) : s.clustersOn.clusterRuns c :=
  foldl_each (P := clusterRuns) (g := fun (s : State) c => s.resumeCluster c) resumeCluster_runs resumeCluster_keepsRunning (List.finRange 12) s
    (.inl (List.mem_finRange c))

theorem clustersOn_haltFrame (s : State) : s.haltFrame s.clustersOn :=
  foldl_rel (R := haltFrame) (fun _ => rfl) haltFrame_trans (List.finRange 12) s fun c _ u => resumeCluster_haltFrame u c

/-- After resumeAll no core and no cluster stands halted (R546). -/
theorem resumeAll_runs (s : State) : (∀ c : Fin 8, s.resumeAll.coreRuns c) ∧ (∀ c : Fin 12, s.resumeAll.clusterRuns c) := by
  have h1 := s.coresOn_runs
  have h2 := s.coresOn.clustersOn_runs
  have h3 : s.coresOn.clustersOn.sched = s.coresOn.sched := by rw [clustersOn_haltFrame]
  rw [resumeAll_eq]
  generalize s.coresOn.clustersOn = u at h2 h3
  obtain ⟨hc, hl⟩ := enginesKept_trans (resumeWheel_engines u) (showHalt_engines _)
  refine ⟨fun c => ?_, fun c => ?_⟩
  · unfold coreRuns
    rw [hc, h3]
    exact h1 c
  · unfold clusterRuns cl
    rw [hl]
    exact h2 c

/-- As a token ends every halted core and cluster resumes (R546). -/
theorem relock_runs {s : State} (cause : Nat) (ht : s.flag DBG_STAT_TOKEN = true) :
    (∀ c : Fin 8, ((s.relock cause).sched.cores.get c).halted = false) ∧ (∀ c : Fin 12, ((s.relock cause).cl c).halted = false) := by
  obtain ⟨h1, h2⟩ := resumeAll_runs s
  have hk : s.resumeAll.enginesKept (s.relock cause) := by
    unfold relock
    rw [ht, if_neg (by decide)]
    exact enginesKept_trans (enginesKept_trans (enginesKept_trans (dropBreaks_engines _) (setF_engines _ DBG_STAT_LOCKED 1))
      (enginesKept_trans (setF_engines _ DBG_STAT_TOKEN 0) (modHost_engines _ _))) (offerRec_engines _ _ _ _)
  refine ⟨fun c => ?_, fun c => ?_⟩
  · rw [hk.1]
    exact h1 c
  · unfold cl
    rw [hk.2]
    exact h2 c

end State

end Sys2Proof.Machine

/-! SUPPORT. O56: a job of the security engine waits, and its oldest one is judged (R535 to R540, R547). -/

namespace Sys2Proof

theorem leNat_lt (b : List Byte) : leNat b < 256 ^ b.length := by
  induction b with
  | nil => decide
  | cons x b ih =>
    have hx : x.toNat < 256 := x.isLt
    rw [leNat, List.length_cons, Nat.pow_succ]
    omega

theorem bytesNat_lt (b : List Byte) (off n : Nat) : bytesNat b off n < 256 ^ n :=
  (leNat_lt _).trans_le (Nat.pow_le_pow_right (by decide) ((List.length_take_le n _)))

end Sys2Proof

namespace Sys2Proof.Machine

namespace State

-- ===== a command goes to the engine =====

/-- The command names the operation, or none of the table (R537). -/
def secNames (op : Nat) (bs : List Byte) : Prop := bytesNat bs 4 1 = op ∨ bytesNat bs 4 1 = 0 ∨ 5 < bytesNat bs 4 1

theorem secureGo_stays {s : State} {op : Nat} {bs : List Byte} (rsa slh : Bool) (h : s.hostNext 6 = none ∨ ¬ secNames op bs) :
    s.secureGo op bs rsa slh = s := by
  unfold secureGo
  split
  · next w hw => exact if_neg (h.resolve_left (by rw [hw]; simp))
  · rfl

theorem secureGo_goes {s : State} {op : Nat} {bs : List Byte} {w : Work} (rsa slh : Bool) (hw : s.hostNext 6 = some w) (h : secNames op bs) :
    s.secureGo op bs rsa slh = (s.unqueue w).secStart ⟨0, some w, bs, rsa, slh⟩ := by
  unfold secureGo
  rw [hw]
  exact if_pos h

/-- A job that waits: w has left HQ5, and the engine shows BUSY. -/
theorem secStart_waits (s : State) {w : Work} (hw : w.src = 5) (j : SecJob) (t : State) (ht : t = (s.unqueue w).secStart j) :
    t.host = { s.host with secJobs := s.host.secJobs ++ [j] } ∧ t.f CFG_SEC_STAT_BUSY = 1 ∧
      (t.queue 5).items = (s.queue 5).items.filter (notWork w) ∧ (∀ n, n ≠ 5 → t.queue n = s.queue n) ∧ s.keeps t [CFG_SEC_STAT] ∧
      t = { s with hq := t.hq, host := t.host, sched := t.sched, regs := t.regs } := by
  subst ht
  refine ⟨?_, f_setF_one _ CFG_SEC_STAT_BUSY (by decide) rfl, s.unqueue_items hw, fun n hn => s.unqueue_queue_ne hw hn,
    keeps_setF (x := CFG_SEC_STAT_BUSY) 1 (keeps_of_regs (s.unqueue_regs hw) _) (.head _), ?_⟩
  · show { (s.unqueue w).host with secJobs := (s.unqueue w).host.secJobs ++ [j] } = _
    rw [s.unqueue_host hw]
  · rw [s.unqueue_frame hw]
    rfl

-- ===== a job leaves the engine =====

/-- The engine without its oldest job. -/
def secTaken (s : State) (js : List SecJob) : State :=
  ({ s with host := { s.host with secJobs := js } } : State).setB CFG_SEC_STAT_BUSY (!js.isEmpty)

theorem secEnd_cons {s : State} {j : SecJob} {js : List SecJob} (h : s.host.secJobs = j :: js) :
    s.secEnd = if j.kind = 0 then (s.secTaken js).endCommand j else if j.kind = 1 then (s.secTaken js).endAttest j else (s.secTaken js).endToken j := by
  unfold secEnd
  rw [h]
  rfl

theorem secTaken_keeps (s : State) (js : List SecJob) : s.keeps (s.secTaken js) [CFG_SEC_STAT] :=
  keeps_setB (x := CFG_SEC_STAT_BUSY) _ (keeps_of_regs rfl _) (.head _)

theorem secTaken_stat (s : State) (js : List SecJob) {x : Fld} (h : 1 ≤ x.lo) : (s.secTaken js).f x = s.f x :=
  f_setF_apart ({ s with host := { s.host with secJobs := js } } : State) (x := CFG_SEC_STAT_BUSY) _ (.inl (show 0 + 1 ≤ x.lo by omega))

theorem secTaken_idle (s : State) : (s.secTaken []).f CFG_SEC_STAT_BUSY = 0 := f_setB_same _ CFG_SEC_STAT_BUSY false (by decide) rfl

theorem secTaken_f (s : State) (js : List SecJob) {x : Fld} (h : x.reg ≠ CFG_SEC_STAT) : (s.secTaken js).f x = s.f x :=
  f_keeps (s.secTaken_keeps js) (by simpa using h)

theorem secKey_kept {s v : State} {l : List Nat} (hk : s.keeps v l) (hl : ∀ a ∈ l, a < CFG_SEC_KEY 0 0) (k w : Nat) :
    v.rd (CFG_SEC_KEY k w) = s.rd (CFG_SEC_KEY k w) :=
  hk _ fun hm => by
    have := hl _ hm
    unfold CFG_SEC_KEY at this
    omega

theorem secTaken_key (s : State) (js : List SecJob) (k w : Nat) : (s.secTaken js).rd (CFG_SEC_KEY k w) = s.rd (CFG_SEC_KEY k w) :=
  secKey_kept (s.secTaken_keeps js) (by decide) k w

theorem secTaken_keyCheck (s : State) (js : List SecJob) (id alg role : Nat) : (s.secTaken js).keyCheck id alg role = s.keyCheck id alg role :=
  keyCheck_congr (fun k _ w _ => s.secTaken_key js k w) id alg role

theorem secTaken_keyWord (s : State) (js : List SecJob) (k : Nat) : (s.secTaken js).keyWord k = s.keyWord k :=
  congrArg BitVec.toNat (s.secTaken_key js k 1)

theorem secTaken_svn (s : State) (js : List SecJob) : (s.secTaken js).otpSvn = s.otpSvn := by
  have h (w : Nat) (hw : w < 2) : (s.secTaken js).rdN (CFG_SEC_SVN w) = s.rdN (CFG_SEC_SVN w) :=
    rdN_keeps (s.secTaken_keeps js) (by interval_cases w <;> decide)
  unfold otpSvn rd2
  rw [h 0 (by decide), h 1 (by decide)]

theorem secTaken_opCheck (s : State) (js : List SecJob) (b : List Byte) : (s.secTaken js).opCheck b = s.opCheck b := by
  have hslots (es : List (Nat × Nat × Nat × List Byte)) : (s.secTaken js).slotsFree es = s.slotsFree es := by
    unfold slotsFree
    simp only [secTaken_keyWord]
  have hremain (mask : Nat) : (s.secTaken js).keysRemain mask = s.keysRemain mask := by
    unfold keysRemain imageKey
    simp only [secTaken_keyWord]
  have hmode : (s.secTaken js).mode = s.mode := s.secTaken_f js (by decide)
  have hcfg : (s.secTaken js).cfg = s.cfg := rfl
  have hsys : (s.secTaken js).sys = s.sys := rfl
  unfold opCheck
  simp only [hslots, hremain, hmode, hcfg, hsys, secTaken_svn, s.secTaken_f js (x := SYS_LC_STATE) (by decide),
    s.secTaken_stat js (x := CFG_SEC_STAT_SVN_ROWS) (by decide)]

/-- A command is judged alike as its job leaves the engine. -/
theorem secTaken_judgeCommand (s : State) (js : List SecJob) (j : SecJob) : (s.secTaken js).judgeCommand j = s.judgeCommand j := by
  have hnv : (s.secTaken js).nv = s.nv := rfl
  have hnonce : (s.secTaken js).nonceNow = s.nonceNow := rfl
  unfold judgeCommand
  simp only [hnv, hnonce, secTaken_keyCheck, secTaken_opCheck]

theorem secTaken_judgeToken (s : State) (js : List SecJob) (j : SecJob) : (s.secTaken js).judgeToken j = s.judgeToken j := by
  have hnv : (s.secTaken js).nv = s.nv := rfl
  have hchal : (s.secTaken js).chalNow = s.chalNow := rfl
  unfold judgeToken
  simp only [hnv, hchal, secTaken_keyCheck, s.secTaken_f js (x := SYS_LC_STATE) (by decide)]

-- ===== what an accepted command has passed (R538) =====

theorem judgeCommand_wrong {s : State} {j : SecJob} (h : bytesNat j.bytes 0 4 ≠ 0x444D4353 ∨ bytesNat j.bytes 8 6 ≠ s.nv.serial % 2 ^ 48 ∨
    bytesNat j.bytes 0x10 8 ≠ s.nonceNow) : s.judgeCommand j = rNONCE := if_pos h

theorem judgeCommand_signed {s : State} {j : SecJob} (h : s.judgeCommand j = 0) (h1 : bytesNat j.bytes 4 1 ≠ 1) :
    j.rsa = true ∧ j.slh = true ∧ s.keyCheck (sigKeys j.bytes (0x20 + bytesNat j.bytes 6 2)).1 0 0 = 0 ∧
      s.keyCheck (sigKeys j.bytes (0x20 + bytesNat j.bytes 6 2)).2 1 0 = 0 := by
  unfold judgeCommand at h
  dsimp only at h
  rw [if_neg h1] at h
  split at h
  · exact absurd h (by decide)
  · split at h
    · next hk => exact absurd h hk
    · next hk1 =>
      split at h
      · next hk => exact absurd h hk
      · next hk2 =>
        split at h
        · exact absurd h (by decide)
        · next hr =>
          split at h
          · exact absurd h (by decide)
          · next hs => exact ⟨by simpa using hr, by simpa using hs, not_not.1 hk1, not_not.1 hk2⟩

theorem judgeCommand_op {s : State} {j : SecJob} (h : s.judgeCommand j = 0) : s.opCheck j.bytes = 0 := by
  unfold judgeCommand at h
  dsimp only at h
  split at h
  · exact absurd h (by decide)
  · split at h
    · exact h
    · split at h
      · next hk => exact absurd h hk
      · split at h
        · next hk => exact absurd h hk
        · split at h
          · exact absurd h (by decide)
          · split at h
            · exact absurd h (by decide)
            · exact h

/-- An accepted SVN lies above the counter (R538). -/
theorem opCheck_svn {s : State} {b : List Byte} (h : s.opCheck b = 0) (ho : bytesNat b 4 1 = 4) : s.otpSvn < bytesNat b 0x18 8 := by
  unfold opCheck at h
  dsimp only at h
  rw [ho, if_neg (by decide), if_neg (by decide), if_neg (by decide), if_pos rfl] at h
  by_contra hle
  rw [if_pos (.inl (Nat.not_lt.1 hle))] at h
  omega

/-- An accepted LIFECYCLE leads on (R538). -/
theorem opCheck_life {s : State} {b : List Byte} (h : s.opCheck b = 0) (ho : bytesNat b 4 1 = 5) :
    s.f SYS_LC_STATE < bytesNat b 0x18 8 % 8 := by
  unfold opCheck at h
  dsimp only at h
  rw [ho, if_neg (by decide), if_neg (by decide), if_neg (by decide), if_neg (by decide), if_pos rfl] at h
  split at h
  · exact absurd h (by decide)
  · split at h
    · exact absurd h (by decide)
    · next hn => exact Nat.lt_of_not_le fun hle => hn (.inl hle)

-- ===== a job's answer =====

theorem secResult_keeps (s : State) (code : Nat) : s.keeps (s.secResult code) [CFG_SEC_STAT] :=
  keeps_hit (x := CFG_SEC_STAT_DONE) (keeps_setF (x := CFG_SEC_STAT_CODE) code (keeps_refl s _) (.head _)) (.head _)

theorem secResult_code (s : State) (code : Nat) : (s.secResult code).f CFG_SEC_STAT_CODE = code % 256 :=
  (f_hit_disj (s.setF CFG_SEC_STAT_CODE code) (x := CFG_SEC_STAT_DONE) (y := CFG_SEC_STAT_CODE) rfl (by decide)).trans
    (f_setF_same s CFG_SEC_STAT_CODE code (by decide))

theorem secResult_done (s : State) (code : Nat) : (s.secResult code).f CFG_SEC_STAT_DONE = 1 := f_hit_same _ CFG_SEC_STAT_DONE (by decide) rfl

/-- BUSY and the fields above CODE stand. -/
theorem secResult_stat (s : State) (code : Nat) {x : Fld} (hx : x.reg = CFG_SEC_STAT) (h : x.lo + x.width ≤ 1 ∨ 16 ≤ x.lo) :
    (s.secResult code).f x = s.f x :=
  (f_hit_disj (s.setF CFG_SEC_STAT_CODE code) (x := CFG_SEC_STAT_DONE) hx (h.symm.imp (fun h => show 1 + 1 ≤ x.lo by omega) id)).trans
    (f_setF_disj s (x := CFG_SEC_STAT_CODE) code hx (h.symm.imp (fun h => show 8 + 8 ≤ x.lo by omega) fun h => show x.lo + x.width ≤ 8 by omega))

/-- A completion writes the tail alone, or counts a dropped one. -/
theorem answer_keepsAll (s : State) (w : Work) (adm result value : Nat) : s.keeps (s.answer w adm result value) [HQ_CQ_TAIL, HQ_CNT_REF 6] := by
  unfold answer complete
  split
  · exact keeps_refl s _
  · dsimp only
    split
    · exact keeps_bump (keeps_of_regs rfl _) (.tail _ (.head _))
    · exact keeps_trans (keeps_of_regs rfl _) (keeps_mono (writeCq_keeps _ _) (by decide))

/-- The registers that a job's end and its record may write. -/
abbrev secRegs : List Nat := CFG_SEC_STAT :: HQ_CQ_TAIL :: HQ_CNT_REF 6 :: recRegs

theorem secAnswer_keeps (s : State) (w : Option Work) (code value : Nat) : s.keeps (s.secAnswer w code value) secRegs := by
  unfold secAnswer
  split
  · exact keeps_trans (keeps_mono (secResult_keeps s code) (by decide)) (keeps_mono (answer_keepsAll _ _ _ _ _) (by decide))
  · exact keeps_refl s _

theorem secAnswer_frame (s : State) (w : Option Work) (code value : Nat) : s.secAnswer w code value =
    { s with time := { s.time with hits := (s.secAnswer w code value).time.hits }, host := (s.secAnswer w code value).host,
             hq := (s.secAnswer w code value).hq, regs := (s.secAnswer w code value).regs } := by
  unfold secAnswer
  split
  · rw [answer_frame]
    rfl
  · rfl

theorem secAnswer_rows (s : State) (w : Option Work) (code value : Nat) :
    (s.secAnswer w code value).f CFG_SEC_STAT_SVN_ROWS = s.f CFG_SEC_STAT_SVN_ROWS := by
  unfold secAnswer
  split
  · rw [f_keeps (answer_keepsAll _ _ _ _ _) (by decide), secResult_stat s code rfl (.inr (by decide))]
  · rfl

theorem cqAddr_kept {s u : State} {l : List Nat} (hk : s.keeps u l) (hl : ∀ r ∈ cqRegs, r ∉ l) : u.cqAddr = s.cqAddr := by
  have hN (r : Nat) (hr : r ∈ cqRegs) : u.rdN r = s.rdN r := rdN_keeps hk (hl r hr)
  unfold cqAddr cqSize rd2
  rw [hN _ (by decide), hN _ (by decide), f_keeps (x := HQ_CQ_TAIL_INDEX) hk (hl _ (by decide)),
    f_keeps (x := HQ_CQ_CFG_LOG2) hk (hl _ (by decide))]

/-- The entry of an open command: its tag, its admission and its result (R531). -/
theorem answer_entry {u : State} {w : Work} (h : u.isOpen w) (adm result value : Nat) :
    (u.answer w adm result value).host.mem.getMany 0 u.cqAddr 6 = natLE 4 w.tag ++ natLE 1 adm ++ natLE 1 result := by
  obtain ⟨k, hk⟩ := answer_host h adm result value
  have hl : (natLE 4 w.tag ++ natLE 1 adm ++ natLE 1 result).length = 6 := by simp [natLE_length]
  rw [hk]
  unfold cqEntry
  simp only [List.append_assoc] at hl ⊢
  simp only [← List.append_assoc (natLE 1 adm), ← List.append_assoc (natLE 4 w.tag)] at hl ⊢
  conv_lhs => rw [← hl]
  exact Store.getMany_setMany_prefix _ _ _ _

/-- The entry of a completion spares other memory. -/
theorem answer_mem_ne {u : State} {w : Work} (h : u.isOpen w) (adm result value : Nat) {a : Nat} (ha : a < u.cqAddr ∨ u.cqAddr + 16 ≤ a) :
    (u.answer w adm result value).host.mem.get 0 a = u.host.mem.get 0 a := by
  obtain ⟨k, hk⟩ := answer_host h adm result value
  rw [hk]
  rcases ha with ha | ha
  · exact Store.get_setMany_below _ _ ha
  · exact Store.get_setMany_above _ _ (by rw [cqEntry_length]; exact ha)

end State

/-- Runs of words that agree key by key read alike. -/
theorem getMany_congr {w : Nat} {d : BitVec w} {m m' : Store w} {a n : Nat} (h : ∀ b, a ≤ b → b < a + n → m'.get d b = m.get d b) :
    m'.getMany d a n = m.getMany d a n := by
  induction n generalizing a with
  | zero => rfl
  | succ n ih =>
    unfold Store.getMany
    rw [h a le_rfl (by omega), ih fun b hb hb' => h b (by omega) (by omega)]

end Sys2Proof.Machine

namespace Sys2Proof

-- ===== one entry of a register file that need not be canonical =====

namespace Store

variable {w : Nat} {d : BitVec w}

/-- The key a is listed, and with the word v alone. -/
def listsOnly (m : Store w) (a : Nat) (v : BitVec w) : Prop := (∃ p ∈ m, p.1 = a) ∧ ∀ p ∈ m, p.1 = a → p.2 = v

theorem mem_insert_of_mem (m : Store w) (a : Nat) (v : BitVec w) {p : Nat × BitVec w} (h : p = (a, v) ∨ p ∈ m) : p ∈ insert m a v := by
  induction m with
  | nil => simpa [insert] using h
  | cons c m ih =>
    unfold insert
    split
    · simpa using h
    · rcases h with h | h
      · exact List.mem_cons_of_mem _ (ih (.inl h))
      · rcases List.mem_cons.mp h with rfl | h
        · exact List.mem_cons_self
        · exact List.mem_cons_of_mem _ (ih (.inr h))

theorem mem_erase_iff (m : Store w) (a : Nat) (p : Nat × BitVec w) : p ∈ erase m a ↔ p ∈ m ∧ p.1 ≠ a := by
  induction m with
  | nil => simp [erase]
  | cons c m ih =>
    unfold erase
    split
    · next hc =>
      rw [ih, List.mem_cons]
      exact ⟨fun h => ⟨.inr h.1, h.2⟩, fun h => ⟨h.1.resolve_left (fun hp => h.2 (hp ▸ hc)), h.2⟩⟩
    · next hc =>
      rw [List.mem_cons, ih, List.mem_cons]
      constructor
      · rintro (rfl | h)
        · exact ⟨.inl rfl, hc⟩
        · exact ⟨.inr h.1, h.2⟩
      · rintro ⟨rfl | h, hp⟩
        · exact .inl rfl
        · exact .inr ⟨h, hp⟩

/-- A word that an unlisted key does not read as stands alone at its key. -/
theorem listsOnly_set (m : Store w) (a : Nat) {v : BitVec w} (h : v ≠ d) : listsOnly (set d m a v) a v := by
  unfold set
  rw [if_neg h]
  refine ⟨⟨(a, v), mem_insert_of_mem _ _ _ (.inl rfl), rfl⟩, fun p hp ha => ?_⟩
  rcases mem_insert hp with rfl | hp
  · rfl
  · exact absurd ha ((mem_erase_iff _ _ _).mp hp).2

theorem listsOnly_set_ne {m : Store w} {a b : Nat} {v : BitVec w} (x : BitVec w) (hb : b ≠ a) (h : listsOnly m a v) :
    listsOnly (set d m b x) a v := by
  obtain ⟨⟨q, hq, rfl⟩, ho⟩ := h
  have he : q ∈ erase m b := (mem_erase_iff _ _ _).mpr ⟨hq, hb.symm⟩
  unfold set
  split
  · exact ⟨⟨q, he, rfl⟩, fun p hp => ho p ((mem_erase_iff _ _ _).mp hp).1⟩
  · refine ⟨⟨q, mem_insert_of_mem _ _ _ (.inr he), rfl⟩, fun p hp ha => ?_⟩
    rcases mem_insert hp with rfl | hp
    · exact absurd ha hb
    · exact ho p ((mem_erase_iff _ _ _).mp hp).1 ha

/-- A store written pair by pair into another one brings the only word of a key there. -/
theorem get_setAll_listsOnly (ps m : Store w) {a : Nat} {v : BitVec w} (h : listsOnly ps a v) :
    get d (ps.foldl (fun (m : Store w) (p : Nat × BitVec w) => set d m p.1 p.2) m) a = v := by
  have hkeep (qs m : Store w) (hq : ∀ p ∈ qs, p.1 = a → p.2 = v) (hm : get d m a = v) :
      get d (qs.foldl (fun (m : Store w) (p : Nat × BitVec w) => set d m p.1 p.2) m) a = v := by
    induction qs generalizing m with
    | nil => exact hm
    | cons q qs ih =>
      refine ih _ (fun p hp => hq p (List.mem_cons_of_mem _ hp)) ?_
      show get d (set d m q.1 q.2) a = v
      by_cases hqa : q.1 = a
      · rw [hqa, get_set_same, hq q List.mem_cons_self hqa]
      · rw [get_set_ne _ _ (Ne.symm hqa), hm]
  induction ps generalizing m with
  | nil => obtain ⟨⟨p, hp, -⟩, -⟩ := h; exact absurd hp List.not_mem_nil
  | cons p ps ih =>
    obtain ⟨⟨q, hq, hqa⟩, ho⟩ := h
    rw [List.foldl_cons]
    by_cases hpa : p.1 = a
    · refine hkeep ps _ (fun r hr => ho r (List.mem_cons_of_mem _ hr)) ?_
      rw [hpa, get_set_same, ho p List.mem_cons_self hpa]
    · have hin : q ∈ ps := (List.mem_cons.mp hq).resolve_left (fun e => hpa (e ▸ hqa))
      exact ih _ ⟨⟨q, hin, hqa⟩, fun r hr => ho r (List.mem_cons_of_mem _ hr)⟩

end Store

namespace Machine
namespace State

/-- A register that OTP or MRAM backs and that a state lists once keeps its word through a reset, whatever the other entries. -/
theorem toReset_listed {s : State} {c r : Nat} {v : Word} (hk : keepsReset r = true) (h : Store.listsOnly s.regs r v) : (s.toReset c).rd r = v := by
  have hm : r ≠ SYS_MODE := by rintro rfl; exact absurd hk (by decide)
  have hc : r ≠ SYS_RST_CAUSE := by rintro rfl; exact absurd hk (by decide)
  have hd : r ≠ DBG_STAT := by rintro rfl; exact absurd hk (by decide)
  have hs : r ≠ CFG_SEC_STAT := by rintro rfl; exact absurd hk (by decide)
  have hf : Store.listsOnly (s.regs.filter (fun (p : Nat × Word) => keepsReset p.1)) r v := by
    obtain ⟨⟨p, hp, hr⟩, ho⟩ := h
    exact ⟨⟨p, List.mem_filter.mpr ⟨hp, by rw [hr, hk]⟩, hr⟩, fun q hq => ho q (List.mem_filter.mp hq).1⟩
  rw [toReset_rd s c hd hs, resetRegs, Store.get_set_ne _ _ hc, Store.get_set_ne _ _ hm, Store.get_setAll_listsOnly _ _ hf]

/-- A life-cycle state above BLANK stands after the reset that programs it (R83, R91). -/
theorem toLife_state (s : State) {lc : Nat} (h0 : 0 < lc) (h8 : lc < 8) : (s.toLife lc).f SYS_LC_STATE = lc := by
  have hw : SYS_LC_STATE.put (s.rd SYS_LC) lc ≠ 0 := fun h => by
    have hf := f_setF_same s SYS_LC_STATE lc (by decide)
    have hz : (s.setF SYS_LC_STATE lc).f SYS_LC_STATE = SYS_LC_STATE.get (SYS_LC_STATE.put (s.rd SYS_LC) lc) :=
      congrArg SYS_LC_STATE.get (rd_wr_same s SYS_LC _)
    have hm : lc % 2 ^ SYS_LC_STATE.width = lc := Nat.mod_eq_of_lt h8
    rw [hz, h, hm] at hf
    exact absurd hf (by rw [show SYS_LC_STATE.get 0 = 0 by decide]; omega)
  have h1 : Store.listsOnly (s.setF SYS_LC_STATE lc).regs SYS_LC (SYS_LC_STATE.put (s.rd SYS_LC) lc) := Store.listsOnly_set _ _ hw
  have h2 : Store.listsOnly (if lcRETURNED ≤ lc then (s.setF SYS_LC_STATE lc).setF CFG_SEC_STAT_ID_KEYS 0 else s.setF SYS_LC_STATE lc).regs
      SYS_LC (SYS_LC_STATE.put (s.rd SYS_LC) lc) := by
    split
    · exact Store.listsOnly_set_ne _ (by decide) h1
    · exact h1
  have hr := toReset_listed (c := rcLIFECYCLE) (by decide) h2
  have hs : (s.toLife lc).rd SYS_LC = (s.setF SYS_LC_STATE lc).rd SYS_LC := hr.trans (rd_wr_same s SYS_LC _).symm
  rw [f_of_rd (x := SYS_LC_STATE) (s := s.setF SYS_LC_STATE lc) hs, f_setF_same s SYS_LC_STATE lc (by decide)]
  exact Nat.mod_eq_of_lt h8

theorem toLife_mode (s : State) (lc : Nat) : (s.toLife lc).mode = mRESET := toReset_mode _ _

end State
end Machine
end Sys2Proof

/-! SUPPORT. O56: the ends of a command, an attestation and a token (R535 to R540, R546 to R548). -/

namespace Sys2Proof.Machine

namespace State

-- ===== the effect of an accepted command =====

/-- The keys of the slots of a mask are revoked (R535). -/
def revoked (s : State) (mask : Nat) : State :=
  (List.range 8).foldl (fun (s : State) k => if mask.testBit k then s.wrN (CFG_SEC_KEY k 1) (s.keyWord k ||| 2) else s) s

theorem opEffect_revoke (s : State) {b : List Byte} (h : bytesNat b 4 1 = 3) : s.opEffect b = s.revoked (bytesNat b 0x18 8) := by
  unfold opEffect
  dsimp only
  rw [h, if_neg (by decide), if_neg (by decide), if_pos rfl]
  rfl

theorem opEffect_svn (s : State) {b : List Byte} (h : bytesNat b 4 1 = 4) :
    s.opEffect b = (s.wr2 CFG_SEC_SVN (bytesNat b 0x18 8)).setF CFG_SEC_STAT_SVN_ROWS (s.f CFG_SEC_STAT_SVN_ROWS + 1) := by
  unfold opEffect
  dsimp only
  rw [h, if_neg (by decide), if_neg (by decide), if_neg (by decide), if_pos rfl]

theorem opLife_stays {b : List Byte} (h : bytesNat b 4 1 = 3 ∨ bytesNat b 4 1 = 4) : opLife b = none := by
  unfold opLife
  dsimp only
  rcases h with h | h <;> rw [h, if_neg (by decide), if_neg (by decide)]

theorem opLife_leads {b : List Byte} (h : bytesNat b 4 1 = 5) : opLife b = some (bytesNat b 0x18 8 % 8) := by
  unfold opLife
  dsimp only
  rw [h, if_neg (by decide), if_pos rfl]

/-- One slot's part of a revocation. -/
def revokeOne (mask : Nat) (s : State) (k : Nat) : State :=
  if mask.testBit k then s.wrN (CFG_SEC_KEY k 1) (s.keyWord k ||| 2) else s

theorem secKey_ne {j k : Nat} (h : j ≠ k) : CFG_SEC_KEY j 1 ≠ CFG_SEC_KEY k 1 := by
  unfold CFG_SEC_KEY
  omega

theorem revokeOne_other (mask : Nat) (s : State) {j k : Nat} (h : k ≠ j) : (revokeOne mask s j).rd (CFG_SEC_KEY k 1) = s.rd (CFG_SEC_KEY k 1) := by
  unfold revokeOne
  split
  · exact rd_wrN_ne s _ (secKey_ne h)
  · rfl

theorem revokeOne_own (mask : Nat) (s : State) {k : Nat} (h : mask.testBit k = true) : ((revokeOne mask s k).rdN (CFG_SEC_KEY k 1)).testBit 1 = true := by
  unfold revokeOne
  rw [if_pos h, rdN_wrN_same, show (4294967296 : Nat) = 2 ^ 32 from rfl, Nat.testBit_mod_two_pow, Nat.testBit_or]
  exact Bool.and_eq_true_iff.2 ⟨by decide, by rw [show Nat.testBit 2 1 = true by decide, Bool.or_true]⟩

/-- The slots of the mask show REVOKED, and the words of the others stand (R535). -/
theorem revoked_key (s : State) (mask : Nat) {k : Nat} (hk : k < 8) :
    (mask.testBit k = true → ((s.revoked mask).rdN (CFG_SEC_KEY k 1)).testBit 1 = true) ∧
      (mask.testBit k = false → (s.revoked mask).rd (CFG_SEC_KEY k 1) = s.rd (CFG_SEC_KEY k 1)) := by
  constructor
  · refine foldl_each (P := fun s k => mask.testBit k = true → (s.rdN (CFG_SEC_KEY k 1)).testBit 1 = true) (g := revokeOne mask)
      (fun s a h => revokeOne_own mask s h) (fun s a b hb h => ?_) (List.range 8) s (.inl (List.mem_range.mpr hk))
    by_cases hab : b = a
    · rw [hab] at h ⊢
      exact revokeOne_own mask s h
    · unfold rdN
      rw [revokeOne_other mask s hab]
      exact hb h
  · intro h
    refine foldl_rel (R := fun s t => t.rd (CFG_SEC_KEY k 1) = s.rd (CFG_SEC_KEY k 1)) (fun _ => rfl) (fun h h' => h'.trans h) (g := revokeOne mask)
      (List.range 8) s fun a _ u => ?_
    by_cases hka : k = a
    · rw [← hka]
      unfold revokeOne
      rw [if_neg (by rw [h]; decide)]
    · exact revokeOne_other mask u hka

theorem revoked_kept (s : State) (mask : Nat) : (s.revoked mask).sys = s.sys ∧ (s.revoked mask).free = s.free :=
  foldl_rel (R := fun s t => t.sys = s.sys ∧ t.free = s.free) (fun _ => ⟨rfl, rfl⟩) (fun h h' => ⟨h'.1.trans h.1, h'.2.trans h.2⟩)
    (g := revokeOne mask) (List.range 8) s fun a _ u => by
      unfold revokeOne
      split <;> exact ⟨rfl, rfl⟩

-- ===== a command's end (R537, R538) =====

/-- What follows a command's effect, but for a change of the life cycle: a fresh nonce, the answer and the record (R537, R548). -/
def commandTold (s : State) (w : Option Work) (code : Nat) (p : List Byte) : State := (s.freshNonce.secAnswer w code 0).offerRec 0x32 3 p

theorem commandTold_keeps (s : State) (w : Option Work) (code : Nat) (p : List Byte) : s.keeps (s.commandTold w code p) secRegs :=
  keeps_trans (keeps_trans (keeps_of_regs rfl _) (secAnswer_keeps s.freshNonce w code 0)) (keeps_mono (offerRec_keeps _ _ _ p) (by decide))

theorem commandTold_nonce (s : State) (w : Option Work) (code : Nat) (p : List Byte) :
    (s.commandTold w code p).sys.nonceAt = s.free ∧ (s.commandTold w code p).free = s.free + 1 ∧ (s.commandTold w code p).nv = s.nv := by
  unfold commandTold
  refine ⟨?_, ?_, ?_⟩
  · rw [offerRec_sys, secAnswer_frame]
    rfl
  · rw [offerRec_free, secAnswer_frame]
    rfl
  · rw [offerRec_nv, secAnswer_frame]
    rfl

theorem commandTold_rows (s : State) (w : Option Work) (code : Nat) (p : List Byte) :
    (s.commandTold w code p).f CFG_SEC_STAT_SVN_ROWS = s.f CFG_SEC_STAT_SVN_ROWS :=
  (f_keeps (offerRec_keeps _ _ _ p) (by decide)).trans (secAnswer_rows s.freshNonce w code 0)

theorem endCommand_refused {s : State} {j : SecJob} (h : s.judgeCommand j ≠ 0) :
    ∃ p, s.endCommand j = s.commandTold j.w (s.judgeCommand j) p := by
  unfold endCommand
  dsimp only
  rw [if_neg h, if_neg h]
  exact ⟨_, rfl⟩

theorem endCommand_accepted {s : State} {j : SecJob} (h : s.judgeCommand j = 0) : ∃ p, s.endCommand j =
    match opLife j.bytes with
    | some lc => ((s.opEffect j.bytes).commandTold j.w 0 p).toLife lc
    | none => (s.opEffect j.bytes).commandTold j.w 0 p := by
  unfold endCommand
  dsimp only
  rw [h, if_pos rfl, if_pos rfl]
  exact ⟨_, rfl⟩

theorem secTaken_isOpen {s : State} {w : Work} (js : List SecJob) (h : s.isOpen w) : (s.secTaken js).isOpen w := by
  obtain ⟨hen, ho⟩ := h
  exact ⟨(flag_keeps (s.secTaken_keeps js) (by decide)).trans hen, ho⟩

theorem secResult_isOpen {s : State} {w : Work} (code : Nat) (h : s.isOpen w) : (s.secResult code).isOpen w := by
  obtain ⟨hen, ho⟩ := h
  exact ⟨(flag_keeps (s.secResult_keeps code) (by decide)).trans hen, ho⟩

/-- A refused command shows its code and answers it, and nothing else is written than the status, the tail and the record's books. -/
theorem commandTold_open {s : State} {w : Work} (ho : s.isOpen w) (code : Nat) (p : List Byte) :
    (s.commandTold (some w) code p).f CFG_SEC_STAT_CODE = code % 256 ∧ (s.commandTold (some w) code p).f CFG_SEC_STAT_DONE = 1 ∧
      (s.commandTold (some w) code p).f CFG_SEC_STAT_BUSY = s.f CFG_SEC_STAT_BUSY ∧
      (s.commandTold (some w) code p).host.mem.getMany 0 s.cqAddr 6 = natLE 4 w.tag ++ natLE 1 admOK ++ natLE 1 code ∧
      s.keeps (s.commandTold (some w) code p) (CFG_SEC_STAT :: HQ_CQ_TAIL :: recRegs) := by
  have ho1 : (s.freshNonce.secResult code).isOpen w := secResult_isOpen (s := s.freshNonce) code ho
  have hk1 : s.keeps (s.freshNonce.secResult code) [CFG_SEC_STAT] := keeps_trans (keeps_of_regs rfl _) (secResult_keeps s.freshNonce code)
  have hc1 := secResult_code s.freshNonce code
  have hd1 := secResult_done s.freshNonce code
  have hb1 : (s.freshNonce.secResult code).f CFG_SEC_STAT_BUSY = s.f CFG_SEC_STAT_BUSY := secResult_stat s.freshNonce code rfl (.inl (by decide))
  have ht : s.commandTold (some w) code p = ((s.freshNonce.secResult code).answer w admOK code 0).offerRec 0x32 3 p := rfl
  generalize s.freshNonce.secResult code = u at *
  have hr (x : Fld) (hx : x.reg = CFG_SEC_STAT) : (s.commandTold (some w) code p).f x = u.f x := by
    rw [ht, f_keeps (offerRec_keeps _ _ _ p) (by rw [hx]; decide), f_keeps (answer_keeps ho1 _ _ _) (by rw [hx]; decide)]
  refine ⟨(hr CFG_SEC_STAT_CODE rfl).trans hc1, (hr CFG_SEC_STAT_DONE rfl).trans hd1, (hr CFG_SEC_STAT_BUSY rfl).trans hb1, ?_, ?_⟩
  · rw [ht, offerRec_host, ← cqAddr_kept hk1 (by decide)]
    exact answer_entry ho1 admOK code 0
  · rw [ht]
    exact keeps_trans (keeps_trans (keeps_mono hk1 (by decide)) (keeps_mono (answer_keeps ho1 _ _ _) (by decide)))
      (keeps_mono (offerRec_keeps _ _ _ p) (by decide))

-- ===== an attestation's end (R539, R540) =====

/-- The bytes of a quote stand in host memory, and the command's entry beside them. -/
theorem endAttest_quote {s : State} {w : Work} {bs : List Byte} (hid : s.flag CFG_SEC_STAT_ID_KEYS = true) (ho : s.isOpen w)
    (hd : w.addr + bs.length ≤ s.cqAddr ∨ s.cqAddr + 16 ≤ w.addr) (t : State) (ht : t = s.endAttest ⟨1, some w, bs, true, true⟩) :
    t.host.mem.getMany 0 w.addr bs.length = bs ∧ t.host.mem.getMany 0 s.cqAddr 6 = natLE 4 w.tag ++ natLE 1 admOK ++ natLE 1 0 ∧
      s.keeps t [CFG_SEC_STAT, HQ_CQ_TAIL] := by
  have ho1 : ((s.hostWrite w.addr bs).secResult 0).isOpen w := secResult_isOpen (s := s.hostWrite w.addr bs) 0 ho
  have hk1 : s.keeps ((s.hostWrite w.addr bs).secResult 0) [CFG_SEC_STAT] := keeps_trans (keeps_of_regs rfl _) (secResult_keeps _ 0)
  have hm1 : ((s.hostWrite w.addr bs).secResult 0).host.mem = s.host.mem.setMany 0 w.addr bs := rfl
  have ht' : t = ((s.hostWrite w.addr bs).secResult 0).answer w admOK 0 bs.length := by
    rw [ht]
    unfold endAttest
    dsimp only
    rw [hid, if_pos rfl]
    rfl
  have ha := cqAddr_kept hk1 (by decide)
  generalize (s.hostWrite w.addr bs).secResult 0 = u at *
  subst ht'
  refine ⟨?_, ?_, keeps_trans (keeps_mono hk1 (by decide)) (keeps_mono (answer_keeps ho1 _ _ _) (by decide))⟩
  · refine (getMany_congr (m := u.host.mem) fun b h1 h2 => answer_mem_ne ho1 _ _ _ ?_).trans ?_
    · rw [ha]
      omega
    · rw [hm1]
      exact Store.getMany_setMany _ _ _
  · rw [← ha]
    exact answer_entry ho1 admOK 0 _

/-- Without identity keys it answers MODE. -/
theorem endAttest_mode {s : State} {w : Work} {bs : List Byte} (hid : s.flag CFG_SEC_STAT_ID_KEYS = false) (ho : s.isOpen w) (t : State)
    (ht : t = s.endAttest ⟨1, some w, bs, true, true⟩) :
    t.host.mem.getMany 0 s.cqAddr 6 = natLE 4 w.tag ++ natLE 1 admOK ++ natLE 1 rMODE ∧ s.keeps t [CFG_SEC_STAT, HQ_CQ_TAIL] := by
  have ho1 := secResult_isOpen rMODE ho
  have hk1 := secResult_keeps s rMODE
  have ht' : t = (s.secResult rMODE).answer w admOK rMODE 0 := by
    rw [ht]
    unfold endAttest
    dsimp only
    rw [hid, if_neg Bool.false_ne_true]
    rfl
  have ha := cqAddr_kept hk1 (by decide)
  generalize s.secResult rMODE = u at *
  subst ht'
  refine ⟨?_, keeps_trans (keeps_mono hk1 (by decide)) (keeps_mono (answer_keeps ho1 _ _ _) (by decide))⟩
  rw [← ha]
  exact answer_entry ho1 admOK rMODE 0

-- ===== a token's end (R546, R547) =====

/-- What follows a token's effect: a fresh nonce, a fresh challenge and the record. -/
def tokenTold (s : State) (p : List Byte) : State := s.freshNonce.freshChal.offerRec 0x30 3 p

/-- An accepted token opens debug. -/
def tokenOpens (s : State) (b : List Byte) : State :=
  ((s.setF DBG_STAT_LOCKED 0).setF DBG_STAT_TOKEN 1).modHost (fun x =>
    { x with scope := bytesNat b 44 4, tokenEnd := if bytesNat b 48 4 = 0 then none else some (s.time.mono + bytesNat b 48 4 * 800000000) })

theorem tokenTold_nonce (s : State) (p : List Byte) : (s.tokenTold p).sys.nonceAt = s.free ∧ (s.tokenTold p).sys.chalAt = s.free + 1 := by
  unfold tokenTold
  rw [offerRec_sys]
  exact ⟨rfl, rfl⟩

theorem tokenTold_keeps (s : State) (p : List Byte) : s.keeps (s.tokenTold p) recRegs :=
  keeps_trans (keeps_of_regs rfl _) (offerRec_keeps _ _ _ p)

theorem tokenTold_host (s : State) (p : List Byte) : (s.tokenTold p).host = s.host := offerRec_host _ _ _ _

theorem endToken_eq {s : State} {j : SecJob} (hw : j.w = none) : ∃ p, s.endToken j =
    (if s.judgeToken j ≠ 0 then s.hit DBG_STAT_TOKEN_REF else if s.f SYS_LC_STATE = lcDEPLOYED then s.tokenOpens j.bytes else s).tokenTold p := by
  unfold endToken
  rw [hw]
  exact ⟨_, rfl⟩

theorem tokenRef_stat (s : State) {x : Fld} (hx : x.reg = DBG_STAT) (h : x.lo + x.width ≤ 2) : (s.hit DBG_STAT_TOKEN_REF).f x = s.f x :=
  f_hit_disj s (x := DBG_STAT_TOKEN_REF) hx (.inr h)

theorem tokenOpens_stat (s : State) (b : List Byte) : (s.tokenOpens b).f DBG_STAT_LOCKED = 0 ∧ (s.tokenOpens b).f DBG_STAT_TOKEN = 1 :=
  ⟨(f_setF_disj (s.setF DBG_STAT_LOCKED 0) (x := DBG_STAT_TOKEN) (y := DBG_STAT_LOCKED) 1 rfl (by decide)).trans
      (f_setF_zero s DBG_STAT_LOCKED (by decide)),
    f_setF_one (s.setF DBG_STAT_LOCKED 0) DBG_STAT_TOKEN (by decide) rfl⟩

theorem tokenOpens_keeps (s : State) (b : List Byte) : s.keeps (s.tokenOpens b) [DBG_STAT] :=
  keeps_congr (keeps_setF (x := DBG_STAT_TOKEN) 1 (keeps_setF (x := DBG_STAT_LOCKED) 0 (keeps_refl s _) (.head _)) (.head _)) rfl

end State

end Sys2Proof.Machine

/-! OBLIGATION O56: the security engine (R91, R535 to R540, R546 to R548). -/

namespace Sys2Proof.Machine

namespace State

/-- The commands of the table, each with its operation (R537). -/
noncomputable def secureTable : List (Nat × (List Byte → Bool → Bool → Instr)) :=
  [(1, fun b _ _ => .secureProvision b), (2, .secureAddKey), (3, .secureRevoke), (4, .secureSvn), (5, .secureLifecycle)]

/-- Each command of the table goes to the engine if it names its operation; PROVISION is judged without signatures. -/
theorem exec_secure {p : Nat × (List Byte → Bool → Bool → Instr)} (hp : p ∈ secureTable) (s : State) (bs : List Byte) (rsa slh : Bool) :
    ∃ r l, exec (p.2 bs rsa slh) s = .next (s.secureGo p.1 bs r l) := by
  unfold secureTable at hp
  simp only [List.mem_cons, List.not_mem_nil, or_false] at hp
  rcases hp with rfl | rfl | rfl | rfl | rfl
  · exact ⟨false, false, rfl⟩
  · exact ⟨rsa, slh, rfl⟩
  · exact ⟨rsa, slh, rfl⟩
  · exact ⟨rsa, slh, rfl⟩
  · exact ⟨rsa, slh, rfl⟩

theorem exec_secure_signed {p : Nat × (List Byte → Bool → Bool → Instr)} (hp : p ∈ secureTable.drop 1) (s : State) (bs : List Byte)
    (rsa slh : Bool) : exec (p.2 bs rsa slh) s = .next (s.secureGo p.1 bs rsa slh) := by
  unfold secureTable at hp
  simp only [List.drop_succ_cons, List.drop_zero, List.mem_cons, List.not_mem_nil, or_false] at hp
  rcases hp with rfl | rfl | rfl | rfl <;> rfl

theorem exec_engineDone {s : State} {j : SecJob} {js : List SecJob} (h : s.host.secJobs = j :: js) : exec .securityEngineDone s =
    .next (if j.kind = 0 then (s.secTaken js).endCommand j else if j.kind = 1 then (s.secTaken js).endAttest j else (s.secTaken js).endToken j) :=
  congrArg _ (secEnd_cons h)

section Job
variable {s : State} {j : SecJob} (h : s.host.secJobs = [j])
include h

theorem exec_commandDone (hk : j.kind = 0) : exec .securityEngineDone s = .next ((s.secTaken []).endCommand j) := by
  rw [exec_engineDone h, if_pos hk]

/-- An accepted command that leaves the life cycle ends with its effect told. -/
theorem exec_commandAccepted (hk : j.kind = 0) (hj : s.judgeCommand j = 0) (hl : opLife j.bytes = none) :
    ∃ p, exec .securityEngineDone s = .next (((s.secTaken []).opEffect j.bytes).commandTold j.w 0 p) := by
  obtain ⟨p, hp⟩ := endCommand_accepted (s := s.secTaken []) (j := j) ((s.secTaken_judgeCommand [] j).trans hj)
  rw [hl] at hp
  exact ⟨p, (exec_commandDone h hk).trans (congrArg _ hp)⟩

theorem exec_attestDone (hk : j.kind = 1) : exec .securityEngineDone s = .next ((s.secTaken []).endAttest j) := by
  rw [exec_engineDone h, if_neg (by rw [hk]; decide), if_pos hk]

theorem exec_tokenDone (hk : j.kind = 2) (hw : j.w = none) : ∃ p, exec .securityEngineDone s = .next ((if s.judgeToken j ≠ 0 then
      (s.secTaken []).hit DBG_STAT_TOKEN_REF else if s.f SYS_LC_STATE = lcDEPLOYED then (s.secTaken []).tokenOpens j.bytes else s.secTaken []).tokenTold p) := by
  obtain ⟨p, hp⟩ := endToken_eq (s := s.secTaken []) hw
  rw [secTaken_judgeToken, s.secTaken_f [] (x := SYS_LC_STATE) (by decide)] at hp
  exact ⟨p, (exec_engineDone h).trans (by rw [if_neg (by rw [hk]; decide), if_neg (by rw [hk]; decide), hp])⟩

/-- A command that fails its judgement (R538). -/
theorem commandRefused_runs {w : Work} (hk : j.kind = 0) (hj : s.judgeCommand j ≠ 0) (hw : j.w = some w) (ho : s.isOpen w) :
    ∃ t, exec .securityEngineDone s = .next t ∧ t.f CFG_SEC_STAT_CODE = s.judgeCommand j % 256 ∧ t.f CFG_SEC_STAT_DONE = 1 ∧
      t.f CFG_SEC_STAT_BUSY = 0 ∧ t.sys.nonceAt = s.free ∧ t.free = s.free + 1 ∧ t.nv.keyHash = s.nv.keyHash ∧
      t.f CFG_SEC_STAT_SVN_ROWS = s.f CFG_SEC_STAT_SVN_ROWS ∧
      t.host.mem.getMany 0 s.cqAddr 6 = natLE 4 w.tag ++ natLE 1 admOK ++ natLE 1 (s.judgeCommand j) ∧
      s.keeps t (CFG_SEC_STAT :: HQ_CQ_TAIL :: recRegs) := by
  obtain ⟨p, hp⟩ := endCommand_refused (s := s.secTaken []) (j := j) (by rwa [secTaken_judgeCommand])
  rw [secTaken_judgeCommand, hw] at hp
  obtain ⟨hc, hd, hb, hm, hkp⟩ := commandTold_open (secTaken_isOpen [] ho) (s.judgeCommand j) p
  obtain ⟨hn, hf, hnv⟩ := commandTold_nonce (s.secTaken []) (some w) (s.judgeCommand j) p
  have hr := commandTold_rows (s.secTaken []) (some w) (s.judgeCommand j) p
  rw [cqAddr_kept (s.secTaken_keeps []) (by decide)] at hm
  exact ⟨_, (exec_commandDone h hk).trans (congrArg _ hp), hc, hd, hb.trans s.secTaken_idle, hn, hf, congrArg (fun x => x.keyHash) hnv,
    hr.trans (s.secTaken_stat [] (by decide)), hm, keeps_trans (keeps_mono (s.secTaken_keeps []) (by decide)) hkp⟩

/-- An accepted REVOKE (R535, R538). -/
theorem revoke_runs (hk : j.kind = 0) (hj : s.judgeCommand j = 0) (ho : bytesNat j.bytes 4 1 = 3) {k : Nat} (h8 : k < 8) :
    ∃ t, exec .securityEngineDone s = .next t ∧ t.sys.nonceAt = s.free ∧
      ((bytesNat j.bytes 0x18 8).testBit k = true → (t.rdN (CFG_SEC_KEY k 1)).testBit 1 = true) ∧
      ((bytesNat j.bytes 0x18 8).testBit k = false → t.rd (CFG_SEC_KEY k 1) = s.rd (CFG_SEC_KEY k 1)) := by
  obtain ⟨p, hp⟩ := exec_commandAccepted h hk hj (opLife_stays (.inl ho))
  rw [opEffect_revoke _ ho] at hp
  obtain ⟨hon, hoff⟩ := revoked_key (s.secTaken []) (bytesNat j.bytes 0x18 8) h8
  obtain ⟨-, hfree⟩ := revoked_kept (s.secTaken []) (bytesNat j.bytes 0x18 8)
  generalize (s.secTaken []).revoked (bytesNat j.bytes 0x18 8) = u at *
  have hkey : (u.commandTold j.w 0 p).rd (CFG_SEC_KEY k 1) = u.rd (CFG_SEC_KEY k 1) := secKey_kept (commandTold_keeps u j.w 0 p) (by decide) k 1
  refine ⟨_, hp, (commandTold_nonce u j.w 0 p).1.trans hfree, fun hb => ?_, fun hb => hkey.trans ((hoff hb).trans (s.secTaken_key [] k 1))⟩
  unfold rdN
  rw [hkey]
  exact hon hb

/-- An accepted SVN (R536, R538). -/
theorem svn_runs (hk : j.kind = 0) (hj : s.judgeCommand j = 0) (ho : bytesNat j.bytes 4 1 = 4) (hrows : s.f CFG_SEC_STAT_SVN_ROWS < 256) :
    ∃ t, exec .securityEngineDone s = .next t ∧ t.rd2 CFG_SEC_SVN = bytesNat j.bytes 0x18 8 ∧ s.rd2 CFG_SEC_SVN < t.rd2 CFG_SEC_SVN ∧
      t.f CFG_SEC_STAT_SVN_ROWS = s.f CFG_SEC_STAT_SVN_ROWS + 1 := by
  obtain ⟨p, hp⟩ := exec_commandAccepted h hk hj (opLife_stays (.inr ho))
  have hup := opCheck_svn (judgeCommand_op hj) ho
  have hrow : (s.secTaken []).f CFG_SEC_STAT_SVN_ROWS = s.f CFG_SEC_STAT_SVN_ROWS := s.secTaken_stat [] (by decide)
  rw [opEffect_svn _ ho, hrow] at hp
  have h2 : (((s.secTaken []).wr2 CFG_SEC_SVN (bytesNat j.bytes 0x18 8)).setF CFG_SEC_STAT_SVN_ROWS (s.f CFG_SEC_STAT_SVN_ROWS + 1)).rd2 CFG_SEC_SVN =
      bytesNat j.bytes 0x18 8 := by
    have hs (u : State) (v : Nat) : (u.setF CFG_SEC_STAT_SVN_ROWS v).rd2 CFG_SEC_SVN = u.rd2 CFG_SEC_SVN := by
      unfold rd2
      rw [rdN_setF_ne u (x := CFG_SEC_STAT_SVN_ROWS) v (by decide), rdN_setF_ne u (x := CFG_SEC_STAT_SVN_ROWS) v (by decide)]
    rw [hs, rd2_wr2_same _ _ _ (by decide)]
    exact Nat.mod_eq_of_lt (bytesNat_lt j.bytes 0x18 8)
  have hr := f_setF_same ((s.secTaken []).wr2 CFG_SEC_SVN (bytesNat j.bytes 0x18 8)) CFG_SEC_STAT_SVN_ROWS (s.f CFG_SEC_STAT_SVN_ROWS + 1) (by decide)
  generalize ((s.secTaken []).wr2 CFG_SEC_SVN (bytesNat j.bytes 0x18 8)).setF CFG_SEC_STAT_SVN_ROWS (s.f CFG_SEC_STAT_SVN_ROWS + 1) = u at *
  have hsvn : (u.commandTold j.w 0 p).rd2 CFG_SEC_SVN = bytesNat j.bytes 0x18 8 := by
    unfold rd2 at h2 ⊢
    rw [rdN_keeps (commandTold_keeps u j.w 0 p) (by decide), rdN_keeps (commandTold_keeps u j.w 0 p) (by decide), h2]
  refine ⟨_, hp, hsvn, hsvn.symm ▸ hup, (commandTold_rows u j.w 0 p).trans (hr.trans (Nat.mod_eq_of_lt ?_))⟩
  show s.f CFG_SEC_STAT_SVN_ROWS + 1 < 512
  omega

/-- An accepted LIFECYCLE (R91, R538). -/
theorem life_runs (hk : j.kind = 0) (hj : s.judgeCommand j = 0) (ho : bytesNat j.bytes 4 1 = 5) :
    ∃ t, exec .securityEngineDone s = .next t ∧ s.f SYS_LC_STATE < bytesNat j.bytes 0x18 8 % 8 ∧
      t.f SYS_LC_STATE = bytesNat j.bytes 0x18 8 % 8 ∧ t.mode = mRESET := by
  have hup := opCheck_life (judgeCommand_op hj) ho
  obtain ⟨p, hp⟩ := endCommand_accepted (s := s.secTaken []) (j := j) ((s.secTaken_judgeCommand [] j).trans hj)
  rw [opLife_leads ho] at hp
  exact ⟨_, (exec_commandDone h hk).trans (congrArg _ hp), hup, toLife_state _ (by omega) (Nat.mod_lt _ (by decide)), toLife_mode _ _⟩

section Token
variable (hk : j.kind = 2) (hw : j.w = none)
include hk hw

theorem tokenRefused_runs (hj : s.judgeToken j ≠ 0) : ∃ t, exec .securityEngineDone s = .next t ∧ t.f DBG_STAT_TOKEN_REF = 1 ∧
    t.f DBG_STAT_LOCKED = s.f DBG_STAT_LOCKED ∧ t.f DBG_STAT_TOKEN = s.f DBG_STAT_TOKEN ∧ t.sys.nonceAt = s.free ∧ t.sys.chalAt = s.free + 1 ∧
    t.host.scope = s.host.scope ∧ t.host.tokenEnd = s.host.tokenEnd ∧ s.keeps t (CFG_SEC_STAT :: DBG_STAT :: recRegs) := by
  obtain ⟨p, hp⟩ := exec_tokenDone h hk hw
  rw [if_pos hj] at hp
  have hf (x : Fld) (hx : x.reg = DBG_STAT) : (s.secTaken []).f x = s.f x := s.secTaken_f [] (by rw [hx]; decide)
  have href : ((s.secTaken []).hit DBG_STAT_TOKEN_REF).f DBG_STAT_TOKEN_REF = 1 := f_hit_same _ DBG_STAT_TOKEN_REF (by decide) rfl
  have hlk := (tokenRef_stat (s.secTaken []) (x := DBG_STAT_LOCKED) rfl (by decide)).trans (hf _ rfl)
  have htk := (tokenRef_stat (s.secTaken []) (x := DBG_STAT_TOKEN) rfl (by decide)).trans (hf _ rfl)
  have hkp : s.keeps ((s.secTaken []).hit DBG_STAT_TOKEN_REF) (CFG_SEC_STAT :: DBG_STAT :: recRegs) :=
    keeps_hit (x := DBG_STAT_TOKEN_REF) (keeps_mono (s.secTaken_keeps []) (by decide)) (.tail _ (.head _))
  have hh : ((s.secTaken []).hit DBG_STAT_TOKEN_REF).host = { s.host with secJobs := [] } := rfl
  have hfree : ((s.secTaken []).hit DBG_STAT_TOKEN_REF).free = s.free := rfl
  generalize (s.secTaken []).hit DBG_STAT_TOKEN_REF = u at *
  have hr (x : Fld) (hx : x.reg = DBG_STAT) : (u.tokenTold p).f x = u.f x := f_keeps (u.tokenTold_keeps p) (by rw [hx]; decide)
  obtain ⟨hn, hc⟩ := u.tokenTold_nonce p
  refine ⟨_, hp, (hr _ rfl).trans href, (hr _ rfl).trans hlk, (hr _ rfl).trans htk, hn.trans hfree, hc.trans (by rw [hfree]), ?_, ?_,
    keeps_trans hkp (keeps_mono (u.tokenTold_keeps p) (by decide))⟩
  · rw [tokenTold_host, hh]
  · rw [tokenTold_host, hh]

theorem tokenAccepted_runs (hj : s.judgeToken j = 0) (hd : s.f SYS_LC_STATE = lcDEPLOYED) : ∃ t, exec .securityEngineDone s = .next t ∧
    t.f DBG_STAT_LOCKED = 0 ∧ t.f DBG_STAT_TOKEN = 1 ∧ t.host.scope = bytesNat j.bytes 44 4 ∧
    t.host.tokenEnd = (if bytesNat j.bytes 48 4 = 0 then none else some (s.time.mono + bytesNat j.bytes 48 4 * 800000000)) ∧
    t.sys.nonceAt = s.free ∧ t.sys.chalAt = s.free + 1 ∧ s.keeps t (CFG_SEC_STAT :: DBG_STAT :: recRegs) := by
  obtain ⟨p, hp⟩ := exec_tokenDone h hk hw
  rw [if_neg (not_not.2 hj), if_pos hd] at hp
  obtain ⟨hlk, htk⟩ := tokenOpens_stat (s.secTaken []) j.bytes
  have hkp : s.keeps ((s.secTaken []).tokenOpens j.bytes) (CFG_SEC_STAT :: DBG_STAT :: recRegs) :=
    keeps_trans (keeps_mono (s.secTaken_keeps []) (by decide)) (keeps_mono (tokenOpens_keeps _ _) (by decide))
  have hsc : ((s.secTaken []).tokenOpens j.bytes).host.scope = bytesNat j.bytes 44 4 := rfl
  have hte : ((s.secTaken []).tokenOpens j.bytes).host.tokenEnd =
      if bytesNat j.bytes 48 4 = 0 then none else some (s.time.mono + bytesNat j.bytes 48 4 * 800000000) := rfl
  have hfree : ((s.secTaken []).tokenOpens j.bytes).free = s.free := rfl
  generalize (s.secTaken []).tokenOpens j.bytes = u at *
  have hr (x : Fld) (hx : x.reg = DBG_STAT) : (u.tokenTold p).f x = u.f x := f_keeps (u.tokenTold_keeps p) (by rw [hx]; decide)
  obtain ⟨hn, hc⟩ := u.tokenTold_nonce p
  refine ⟨_, hp, (hr DBG_STAT_LOCKED rfl).trans hlk, (hr DBG_STAT_TOKEN rfl).trans htk, ?_, ?_, hn.trans hfree, hc.trans (by rw [hfree]),
    keeps_trans hkp (keeps_mono (u.tokenTold_keeps p) (by decide))⟩
  · rw [tokenTold_host, hsc]
  · rw [tokenTold_host, hte]

theorem tokenIdle_runs (hj : s.judgeToken j = 0) (hd : s.f SYS_LC_STATE ≠ lcDEPLOYED) : ∃ t, exec .securityEngineDone s = .next t ∧
    t.f DBG_STAT_LOCKED = s.f DBG_STAT_LOCKED ∧ t.host = { s.host with secJobs := [] } ∧ t.sys.nonceAt = s.free ∧ t.sys.chalAt = s.free + 1 ∧
    s.keeps t (CFG_SEC_STAT :: recRegs) := by
  obtain ⟨p, hp⟩ := exec_tokenDone h hk hw
  rw [if_neg (not_not.2 hj), if_neg hd] at hp
  obtain ⟨hn, hc⟩ := (s.secTaken []).tokenTold_nonce p
  exact ⟨_, hp, (f_keeps ((s.secTaken []).tokenTold_keeps p) (by decide)).trans (s.secTaken_f [] (by decide)), tokenTold_host _ p, hn, hc,
    keeps_trans (keeps_mono (s.secTaken_keeps []) (by decide)) (keeps_mono ((s.secTaken []).tokenTold_keeps p) (by decide))⟩

end Token

end Job

theorem exec_attest_next {s : State} {w : Work} (q : QuoteParts) (hw : s.hostNext 7 = some w) : exec (.attest q) s =
    .next ((s.unqueue w).secStart ⟨1, some w, if w.arg.testBit 0 then exactly 436 q.keys else s.quote w.payload q, true, true⟩) := by
  show execAttest q s = _
  unfold execAttest
  rw [hw]

theorem exec_dbgToken_next {s : State} {w : Work} (bs : List Byte) (rsa slh : Bool) (hw : s.hostNext 10 = some w) :
    exec (.dbgToken bs rsa slh) s = .next ((s.unqueue w).secStart ⟨2, some w, bs, rsa, slh⟩) := by
  show execDbgToken bs rsa slh s = _
  unfold execDbgToken
  rw [hw]

theorem exec_tokenExpiry_idle {s u : State} {m : Nat} (hu : u = s.runTo m)
    (h : ∀ e, u.host.tokenEnd = some e → u.time.mono < e ∨ u.flag DBG_STAT_TOKEN = false) : exec (.tokenExpiry m) s = .next u := by
  subst hu
  show execTokenExpiry m s = _
  unfold execTokenExpiry
  dsimp only
  split
  · next e he =>
    rcases h e he with hlt | ht
    · rw [if_neg (Nat.not_le.2 hlt)]
    · rw [relock_idle 1 ht, ite_self]
  · rfl

theorem exec_tokenExpiry_ends {s u : State} {m e : Nat} (hu : u = s.runTo m) (he : u.host.tokenEnd = some e) (hle : e ≤ u.time.mono) :
    exec (.tokenExpiry m) s = .next (u.relock 1) := by
  subst hu
  show execTokenExpiry m s = _
  unfold execTokenExpiry
  dsimp only
  rw [he]
  exact congrArg _ (if_pos hle)

end State

open State

/-- Settles O56: jobs that wait by `secStart_waits`, judgements by `judgeCommand_signed`, and each end of a job by the lemma of its outcome. -/
theorem securityEngine : Obligations.SecurityEngine := by
  unfold Obligations.SecurityEngine
  dsimp only
  refine ⟨?_, ?_, ?_, ?_, ?_, ?_, ?_, ?_, ?_, ?_, ?_, ?_, ?_, ?_, ?_, ?_, ?_, ?_, ?_, ?_, ?_, ?_, ?_, ?_, ?_, ?_, ?_⟩
  · intro s w bs hw hs hn
    exact ⟨(s.unqueue w).secStart ⟨0, some w, bs, false, false⟩, congrArg _ (secureGo_goes false false hw hn), secStart_waits s hs _ _ rfl⟩
  · intro p hp s w bs rsa slh hw hs hn
    exact ⟨_, (exec_secure_signed hp s bs rsa slh).trans (congrArg _ (secureGo_goes rsa slh hw hn)), secStart_waits s hs _ _ rfl⟩
  · intro p hp s bs rsa slh h
    obtain ⟨r, l, hx⟩ := exec_secure hp s bs rsa slh
    exact hx.trans (congrArg _ (secureGo_stays r l h))
  · intro p hp s w bs rsa slh hw hn
    obtain ⟨r, l, hx⟩ := exec_secure hp s bs rsa slh
    exact ⟨⟨0, some w, bs, r, l⟩, hx.trans (congrArg _ (secureGo_goes r l hw hn)), rfl, rfl, rfl⟩
  · intro s q hn
    show execAttest q s = _
    unfold execAttest
    rw [hn]
  · exact fun s w q hw => exec_attest_next q hw
  · intro s w q hw hs ha
    have hx := exec_attest_next q hw
    rw [ha, if_neg Bool.false_ne_true] at hx
    exact ⟨_, hx, secStart_waits s hs _ _ rfl⟩
  · intro s w q hw hs ha
    have hx := exec_attest_next q hw
    rw [ha, if_pos rfl] at hx
    exact ⟨_, hx, secStart_waits s hs _ _ rfl⟩
  · intro s bs rsa slh hn
    show execDbgToken bs rsa slh s = _
    unfold execDbgToken
    rw [hn]
  · exact fun s w bs rsa slh hw => exec_dbgToken_next bs rsa slh hw
  · exact fun s w bs rsa slh hw hs => ⟨_, exec_dbgToken_next bs rsa slh hw, secStart_waits s hs _ _ rfl⟩
  · intro s h
    show execSecurityEngineDone s = _
    unfold execSecurityEngineDone secEnd
    rw [h]
  · rintro s v j js h rfl
    exact exec_engineDone h
  · exact fun s w j o h hk hj hw ho hd hen => commandRefused_runs h hk hj hw ⟨hen, o, ho, hd⟩
  · exact fun s j h => judgeCommand_wrong h
  · exact fun s j h h1 => judgeCommand_signed h h1
  · exact fun s j k h hk hj ho h8 => revoke_runs h hk hj ho h8
  · exact fun s j h hk hj ho hr => svn_runs h hk hj ho hr
  · exact fun s j h hk hj ho => life_runs h hk hj ho
  · intro s w bs o h hid ho hd hen hdis
    obtain ⟨h1, h2, h3⟩ := endAttest_quote (s := s.secTaken []) (w := w) (bs := bs)
      ((congrArg (· != 0) (s.secTaken_stat [] (x := CFG_SEC_STAT_ID_KEYS) (by decide))).trans hid) (secTaken_isOpen [] ⟨hen, o, ho, hd⟩)
      (by rwa [cqAddr_kept (s.secTaken_keeps []) (by decide)]) _ rfl
    rw [cqAddr_kept (s.secTaken_keeps []) (by decide)] at h2
    exact ⟨_, exec_attestDone h rfl, h1, h2, keeps_trans (keeps_mono (s.secTaken_keeps []) (by decide)) h3⟩
  · intro s w bs o h hid ho hd hen
    obtain ⟨h2, h3⟩ := endAttest_mode (s := s.secTaken []) (w := w) (bs := bs)
      ((congrArg (· != 0) (s.secTaken_stat [] (x := CFG_SEC_STAT_ID_KEYS) (by decide))).trans hid) (secTaken_isOpen [] ⟨hen, o, ho, hd⟩) _ rfl
    rw [cqAddr_kept (s.secTaken_keeps []) (by decide)] at h2
    exact ⟨_, exec_attestDone h rfl, h2, keeps_trans (keeps_mono (s.secTaken_keeps []) (by decide)) h3⟩
  · exact fun s j h hk hw hj => tokenRefused_runs h hk hw hj
  · exact fun s j h hk hw hj hd => tokenAccepted_runs h hk hw hj hd
  · exact fun s j h hk hw hj hd => tokenIdle_runs h hk hw hj hd
  · exact fun s j h => if_pos h
  · exact fun s u m hu h => exec_tokenExpiry_idle hu h
  · intro s u m e hu he hle ht
    obtain ⟨h1, h2, h3, h4⟩ := relock_locked u 1 ht
    obtain ⟨h5, h6⟩ := relock_runs 1 ht
    exact ⟨_, exec_tokenExpiry_ends hu he hle, h1, h2, h3, h4, h5, h6⟩

end Sys2Proof.Machine
